-- ==== Sys2Proof/Word.lean ====
section
/-! DEFINITION. Words, bytes and the identifiers of Onasen's units (00_scope R1, R2, R12, R13): plain types, and the reference host's counts. -/
namespace Sys2Proof

/-- A 32-bit register or parameter word. -/
abbrev Word := BitVec 32
/-- One byte of a block, a message or a memory. -/
abbrev Byte := BitVec 8

/-- The licensed configurations (R6). -/
inductive Product where | ons84 | ons42 | ons21
  deriving DecidableEq, Repr
/-- The configuration modelled: the reference host. Every count below and every place of Config.host follows this one word (R1; assumption 1). -/
abbrev product : Product := .ons84
/-- Columns and rows of fields, and region rows of a column (R6). -/
abbrev nCols : Nat := 7
abbrev nRows : Nat := match product with | .ons84 => 12 | .ons42 => 6 | .ons21 => 3
abbrev nRegionRows : Nat := match product with | .ons84 => 6 | .ons42 => 3 | .ons21 => 2
/-- Fields, regions, clusters, stacks, links and gate cells (R2, R6). -/
abbrev nFields : Nat := match product with | .ons84 => 84 | .ons42 => 42 | .ons21 => 21
abbrev nRegions : Nat := match product with | .ons84 => 42 | .ons42 => 21 | .ons21 => 14
abbrev nClusters : Nat := match product with | .ons84 => 840 | .ons42 => 420 | .ons21 => 210
abbrev nStacks : Nat := match product with | .ons84 => 336 | .ons42 => 168 | .ons21 => 84
abbrev nLinks : Nat := match product with | .ons84 => 96 | .ons42 => 48 | .ons21 => 24
abbrev nGates : Nat := match product with | .ons84 => 97 | .ons42 => 49 | .ons21 => 25

/-- Fields, 0-83 on the reference host (R2). -/
abbrev FieldId := Fin nFields
/-- Regions, and the Hall of each (R2, R12). -/
abbrev RegionId := Fin nRegions
/-- Clusters, and the Taster of each (R2, R12). -/
abbrev ClusterId := Fin nClusters
/-- Physical cores of one cluster (R2). -/
abbrev CoreId := Fin 1024
/-- DRAM stacks, and the Cellar of each (R2, R12). -/
abbrev StackId := Fin nStacks
/-- Memory channels of one stack (R2). -/
abbrev ChanId := Fin 16
/-- Links, and the Door of each: on the reference host 0-83 optical, 84-95 edge (R2, R12). -/
abbrev DoorId := Fin nLinks
/-- Lanes of one link (R2). -/
abbrev LaneId := Fin 4
/-- Hatch gate cells: the links' gates, and after them the PCIe gate (R109). -/
abbrev GateId := Fin nGates
/-- Context identifiers (R124). -/
abbrev Ctx := BitVec 12
/-- Step numbers (R94). -/
abbrev Step := BitVec 48
/-- Command identifiers (R86). -/
abbrev CmdId := BitVec 14
/-- Physical unit identifiers (R13). -/
abbrev Puid := BitVec 32

/-- A saturating sum: the registers marked "saturating" stop at `top`. -/
def satAdd (top a b : Nat) : Nat := min top (a + b)

/-- Bits [hi:lo] of a number (R17: bit 0 is the least significant). -/
def bits (x hi lo : Nat) : Nat := (x / 2 ^ lo) % 2 ^ (hi + 1 - lo)

/-- `x` with bits [hi:lo] replaced by the low bits of `v`. -/
def setBits (x hi lo v : Nat) : Nat :=
  let w := 2 ^ (hi + 1 - lo)
  (x / (2 ^ lo * w)) * (2 ^ lo * w) + (v % w) * 2 ^ lo + x % 2 ^ lo

/-- Bit `i` of a number. -/
def bit (x i : Nat) : Bool := x.testBit i

/-- The little-endian value of a byte string (R17). -/
def leNat : List Byte → Nat
  | [] => 0
  | b :: bs => b.toNat + 256 * leNat bs

/-- The `n` little-endian bytes of a number (R17). -/
def leBytes : Nat → Nat → List Byte
  | 0, _ => []
  | n + 1, x => BitVec.ofNat 8 x :: leBytes n (x / 256)

/-- Bytes `off` to `off + n - 1` of a byte string; bytes past its end are left out. -/
def slice (bs : List Byte) (off n : Nat) : List Byte := (bs.drop off).take n

/-- The little-endian value of `n` bytes at `off`. -/
def leAt (bs : List Byte) (off n : Nat) : Nat := leNat (slice bs off n)

/-- The big-endian value of a byte string (signatures and digests: "most significant byte first"). -/
def beNat (bs : List Byte) : Nat := bs.foldl (fun a b => a * 256 + b.toNat) 0

/-- The `n` big-endian bytes of a number. -/
def beBytes (n x : Nat) : List Byte := (leBytes n x).reverse

/-- A sparse table: (key, value) pairs with keys strictly rising; a key that is not listed holds the
default its reader names, and no listed value equals that default (the canonical form, Machine/Tab.lean). -/
abbrev Tab (α : Type) := List (Nat × α)

end Sys2Proof
end

