-- ==== Sys2Proof/Units.lean ====
section
/-! DEFINITION. The names and operand records that the commands carry: parts of Onasen, port presentations, packets and samples (chapters 01, 02, 04, 10). -/
namespace Sys2Proof

/-- The two Brewhouses (R57). -/
inductive Bh where | a | b
  deriving DecidableEq, Repr

/-- Screening postures (R9); code 0, 1, 2. -/
inductive Posture where | strong | session | small
  deriving DecidableEq, Repr

/-- A hop of a Stair router, in STR_SEL.PORT order (R70). -/
inductive Hop where | n | e | s | w | ne | sw
  deriving DecidableEq, Repr

/-- The four neighbours of a region, in the order of HL_ISO_N (R110). -/
inductive Dir where | n | e | s | w
  deriving DecidableEq, Repr

/-- The three heartbeat paths (R60). -/
inductive HbPath where | column | relay | mesh
  deriving DecidableEq, Repr

/-- Units that hear beats and take cut markers of their own (R53, R395). -/
inductive Node where
  | hall (r : RegionId) | taster (k : ClusterId) | cellar (s : StackId) | door (n : DoorId)
  | router (f : FieldId) | brew (b : Bh)
  deriving DecidableEq, Repr

/-- The self-timed datapaths with a matched delay (R44). -/
inductive Datapath where | taster (k : ClusterId) | cellar (s : StackId)
  deriving DecidableEq, Repr

/-- Units that hold a memory scan engine (R148). -/
inductive ScanUnit where | cellar (s : StackId) | brew
  deriving DecidableEq, Repr

/-- Units that hold alive streams or windows (R146). -/
inductive StreamUnit where | door (n : DoorId) | cellar (s : StackId)
  deriving DecidableEq, Repr

/-- A steep engine: one in each Taster, Hall, Cellar and Door (R316, R319, R332). -/
inductive Engine where
  | taster (k : ClusterId) | hall (r : RegionId) | cellar (s : StackId) | door (n : DoorId)
  deriving DecidableEq, Repr

/-- What a steep engine tests: a core (with or without its Tap), a Taster, a Cellar, a Door (R316). -/
inductive SteepUnit where
  | core (k : ClusterId) (p : CoreId) | taster (k : ClusterId) | cellar (s : StackId) | door (n : DoorId)
  deriving DecidableEq, Repr

/-- The parts checked against a reference (R337). -/
inductive Analogue where
  | sensor (f : FieldId) (i : Fin 16)
  | rail (r : RegionId)
  | flagCell (r : RegionId) (copy : Fin 8)
  deriving DecidableEq, Repr

/-- What the reference check of an analogue part found (R337). -/
structure AnaResult where
  /-- sensor: REFCLK periods counted in 10 µs -/
  refCount : Nat
  /-- rail: |difference| in mV -/
  spread : Nat
  /-- input cell: the shadow misread an injected level -/
  misread : Bool
  deriving DecidableEq, Repr

/-- A scope with its own reset level (R360). -/
inductive Scope where
  | core (k : ClusterId) (p : CoreId) | cluster (k : ClusterId) | region (r : RegionId) | wafer
  deriving DecidableEq, Repr

/-- An edge cell: it takes its marker from its parent (R395). -/
inductive Edge where
  | tap (k : ClusterId) (p : CoreId) | gate (g : GateId) | inline (s : StackId) (c : ChanId)
  deriving DecidableEq, Repr

/-- A channel that carries markers (R396). -/
inductive Channel where
  /-- the hop by which router `f` receives, one class 2-5 -/
  | hop (f : FieldId) (h : Hop) (cls : Fin 8)
  /-- the report channel of a Tap into its Taster's collector -/
  | tapReport (k : ClusterId) (p : CoreId)
  /-- Taster to Hall -/
  | tasterHall (k : ClusterId)
  /-- a Cellar's engines -/
  | cellarEngine (s : StackId)
  deriving DecidableEq, Repr

/-- The operand sideband of one region cycle (R80): TP_ISS_VALID, the two operand buses, formats, scales, TP_ISS_ACC and TP_ISS_SEQ. -/
structure IssueCycle where
  valid : BitVec 64
  codeA : BitVec 512
  codeX : BitVec 512
  fmtA : Byte
  fmtX : Byte
  scA : BitVec 16
  scX : BitVec 16
  acc : BitVec 384
  seq : Byte
  deriving DecidableEq, Repr

/-- One presentation on a discard port (R84). -/
structure DscPres where
  kind : BitVec 2
  tag : BitVec 14
  a : Word
  b : Word
  s : Word
  sfmt : Byte
  form : BitVec 2
  sign : Bool
  mag : BitVec 64
  exp : BitVec 10
  nf : Bool
  deriving DecidableEq, Repr

/-- An exact dyadic number n · 2^e (R158). -/
structure Dy where
  n : Int
  e : Int
  deriving DecidableEq, Repr

/-- A value of an adjudication case, compared under R249. -/
inductive CaseVal where
  /-- an accumulation's exact value -/
  | exact (v : Dy)
  /-- a rounding step: S, and D exactly -/
  | step (s : Word) (d : Dy)
  /-- an output element with its block's scale -/
  | elem (code : Word) (scale : Byte)
  /-- an output row: (index, value) entries -/
  | row (es : List (Word × Word))
  deriving DecidableEq, Repr

/-- What a scan, scrub or rescan read met (R151, R278, R284). -/
inductive ReadErr where | clean | correctable | uncorrectable
  deriving DecidableEq, Repr

/-- A lane that failed its loop-back at stage 8: the far-end mode rather than the near-end one, DR_LB_ERR and the pattern bits checked (R122, R336). -/
structure LoopFail where
  lane : Puid
  far : Bool
  errs : BitVec 16
  checked : Nat
  deriving DecidableEq, Repr
/-- What the last bring-up stage found (R511, R514). -/
structure StageResult where
  /-- wall time the stage took, in ms -/
  ms : Nat
  /-- units tested -/
  tested : Nat
  /-- units that failed, as PUIDs -/
  failed : List Puid
  /-- usable regions after the stage (R514) -/
  usable : Nat
  /-- the bound of the stage expired (R511) -/
  expired : Bool
  /-- stage 8: what the loop-back of each failed lane gave -/
  loops : List LoopFail
  deriving DecidableEq, Repr

/-- The port counts and held terms that a unit samples at its marker (R395, R420, R421, R96, R101). -/
structure Sample where
  /-- region cycle count at the marker -/
  cyc : Nat
  /-- Taster: L1 bytes read and written since the last marker -/
  l1rd : Nat
  l1wr : Nat
  /-- Door: credits issued and returned since the last marker, occupancy, held bytes each way -/
  iss : Nat
  ret : Nat
  occ : Nat
  heldTx : Nat
  heldRx : Nat
  /-- Door: bytes per lane since the last marker -/
  lanes : List Nat
  /-- Door: bytes of a block still passing each way that its byte counts hold at the marker, less those it has sent on -/
  inTx : Nat
  inRx : Nat
  /-- Cellar: held bytes per channel; Hall: held granules of its gates are the gates' own -/
  held : List Nat
  /-- Cellar: bytes of a block still passing that the read path of a channel has accepted and not yet delivered, per channel -/
  inRd : List Nat
  deriving DecidableEq, Repr

/-- The counts of a CUT_REPORT (R394): units that took the marker, units flagged, audits failed; as the operand of the command, those of one field's own units. -/
structure Report where
  took : Nat
  flagged : Nat
  failed : Nat
  deriving DecidableEq, Repr

/-- The outcome a Taster reports for a gated command (R227). -/
inductive PrivOutcome where
  | passed | checkFailed | repeatPassed | repeatFailed | poisoned | missing | noTaster
  deriving DecidableEq, Repr

/-- A verdict at a gate cell (R106, R227); WITHHOLD carries its reason (R108). -/
inductive GateVerdict where
  | pass | fail | withhold (reason : Fin 8)
  deriving DecidableEq, Repr

/-- Which ladder of a region moves (R481, R482). -/
inductive Ladder where | band | cap
  deriving DecidableEq, Repr

/-- The comparators of R486, with the codes of HAL_THM_STAT.CAUSE (R494). -/
inductive Limit where | junction | noSensor | supplyLow | supplyHigh | clockRatio
  deriving DecidableEq, Repr

/-- A MOLDOM command word's operands (R574). -/
structure Moldom where
  tag : Byte
  target : BitVec 16
  addr : Word
  data : Word
  deriving DecidableEq, Repr

/-- Causes of a power-cycle request (R572). -/
inductive PcCause where | escalation | fleet
  deriving DecidableEq, Repr

end Sys2Proof
end

