-- ==== Sys2Proof/Syntax.lean ====
section
/-! DEFINITION. The commands of the block: one constructor for each row of spec/opcode_table.json, in the table's order, those without operands after the others. An operand is what the port, bus or host presents with the command (assumption 2). -/
namespace Sys2Proof

/-- One command: an access, a port event, a packet, a time-out or a message (the rows of spec/opcode_table.json). -/
inductive Instr where
  /-- R32. A router or unit takes a whole Stair packet from a hop, checks its CRC and forwards or delivers it in class order. -/
  | stairPacketReceive (f : FieldId) (h : Option Hop) (violation : Bool) (head : BitVec 64) (payload : List (BitVec 64)) (crc : BitVec 16) (resid : BitVec 16)
  /-- R37. The receiver's check result for a sent packet returns, and the hop frees its copy or resends the packet. -/
  | hopCheckResult (f : FieldId) (h : Hop) (ok : Bool)
  /-- R37. A transfer goes unacknowledged for 1 µs of wall time. -/
  | hopAckTimeout (f : FieldId) (h : Hop)
  /-- R38. On a dead-hop event the active Brewhouse's scheduler core computes detour tables and writes them to every router. -/
  | detourTablesWrite (us : Nat)
  /-- R38. A router receives its detour tables and resends the held packets over the detour in their original order. -/
  | detourTableArrive (f : FieldId)
  /-- R45. At the next request after its band rises, a Taster or Cellar datapath moves to a longer matched-delay setting. -/
  | matchedDelayLengthen (u : Datapath)
  /-- R45. After a lower band has held for 10 ms, a datapath moves to a shorter matched-delay setting. -/
  | matchedDelayShorten (u : Datapath)
  /-- R52. At least every 10 µs a router measures the delay of a hop by an echo. -/
  | hopDelayEcho (f : FieldId) (h : Hop) (delay : BitVec 16)
  /-- R53. A unit compares its local wall time with the beat plus path delay and corrects its counter by one tick. -/
  | beatReceive (u : Node) (beat : BitVec 64) (delay : BitVec 16) (reign : BitVec 7) (cyc : Nat)
  /-- R55. A unit that has heard no beat for 3 ms raises a class 0x9 event. -/
  | beatLossTimeout (u : Node)
  /-- R59. A Hall whose action log is full requests an immediate mirror. -/
  | mirrorRequest (r : RegionId)
  /-- R60. Every 50 µs a Brewhouse sends heartbeats on the column 3 route, the relay column and the mesh. -/
  | heartbeatSend (b : Bh)
  /-- R60. A Brewhouse receives its peer's heartbeat on one path and answers on the same paths. -/
  | heartbeatReceive (b : Bh) (path : HbPath)
  /-- R61. A Hall's answer to the standby's poll arrives and is counted toward the majority. -/
  | hallPollAnswer (r : RegionId) (noContact : Bool)
  /-- R63. A Brewhouse that receives a packet of higher REIGN stops acting as active and becomes standby of the new reign. -/
  | reignStepDown (b : Bh) (reign : BitVec 7)
  /-- R65. A Hall that has heard no beat or control packet for 3 ms closes its region's gate cells. -/
  | brewhouseContactLoss (r : RegionId)
  /-- R164. A product enters a lane, and the Tap predicts its residue, groups it into a unit and queues it if covered. -/
  | productIssue (k : ClusterId) (p : CoreId) (cyc : Nat) (iss : IssueCycle)
  /-- R188. A unit's last product leaves the residue queue and its held comparison is made. -/
  | residueUnitDrained (k : ClusterId) (p : CoreId) (cyc : Nat)
  /-- R166. TP_ACC_VALID closes an accumulation and the Tap compares the observed residue with the predicted one. -/
  | accumulationClose (k : ClusterId) (p : CoreId) (cyc : Nat) (idx : Fin 64) (acc : BitVec 96) (exp : BitVec 10)
  /-- R171. A rounding result on a discard port is checked by residue and by the bound of R173. -/
  | discardPresentation (k : ClusterId) (p : CoreId) (cyc : Nat) (port : Fin 6) (pres : DscPres)
  /-- R176. An atomic add's rounding on an ADSC port is checked as an addition and for its bound. -/
  | atomicDiscardPresentation (k : ClusterId) (port : Fin 8) (pres : DscPres)
  /-- R169. TP_CMD_START begins a command on a core; the Tap starts its timer, applies posture and issue limit, and matches the coverage context. -/
  | commandStart (k : ClusterId) (p : CoreId) (cyc : Nat) (id : CmdId) (l0rd l0wr : Nat)
  /-- R188. TP_CMD_END completes a command; the Tap makes the closure check and sends its summary and usage report. -/
  | commandEnd (k : ClusterId) (p : CoreId) (cyc : Nat) (l0rd l0wr : Nat)
  /-- R183. 4,096 region cycles pass without the core starting a PRIV command, and the Tap stops driving TP_ISS_LIMIT. -/
  | issueLimitExpire (k : ClusterId) (p : CoreId)
  /-- R94. The command distributor presents a descriptor and operand record, and the Taster classifies the command and delivers coverage contexts. -/
  | descriptorArrive (k : ClusterId) (desc : BitVec 128) (opr : Option (BitVec 384))
  /-- R450. A context's seed arrives from the Hall into the Taster's cache and waiting sampling decisions proceed. -/
  | seedLoadDone (k : ClusterId) (ctx : Ctx)
  /-- R187. A Tap's alarm crosses into the Taster and enters adjudication. -/
  | residueAlarm (k : ClusterId) (p : CoreId)
  /-- R187. A Tap's per-invocation summary arrives at the Taster and is counted. -/
  | residueSummary (k : ClusterId) (p : CoreId)
  /-- R408. A Tap's usage report arrives at the Taster and feeds the attribution counters. -/
  | usageReport (k : ClusterId) (p : CoreId)
  /-- R203. A line of a replica read arrives, and with the last line its error status. -/
  | replicaReadLine (k : ClusterId) (tag : BitVec 6) (data : BitVec 512) (last : Bool) (err : BitVec 2)
  /-- R205. A Y read completes more than 100 µs after the command's end and the unit is abandoned. -/
  | replicaReadStale (k : ClusterId) (id : CmdId) (pos : Nat)
  /-- R220. The replica finishes a unit and compares its value with the host's bit for bit or within the MAYVARY bound. -/
  | replicaCompare (k : ClusterId) (id : CmdId) (pos : Nat) (upset : Option CaseVal)
  /-- R211. A write of TST_DESC_CTRL.LOAD copies and validates the staged descriptor, or broadcasts it. -/
  | descriptorLoad (k : ClusterId)
  /-- R211. A write of TST_DESC_CTRL.INVAL invalidates an index, which frees when no command names it. -/
  | descriptorInvalidate (k : ClusterId)
  /-- R211. A Taster's answer to a broadcast load or invalidation arrives and STATUS is updated when all have answered. -/
  | descriptorBroadcastAnswer (k : ClusterId) (t : ClusterId)
  /-- R226. A rank's partial selection or candidate value reaches the lead Taster for merging and comparison. -/
  | privPartialSelection (k : ClusterId) (t : ClusterId) (ctx : Ctx) (step : Step) (upset : Option CaseVal)
  /-- R227. A Taster reports a gated command's outcome to the Hall, which forms the step's verdict when all outcomes are in. -/
  | privOutcome (k : ClusterId) (id : CmdId) (out : PrivOutcome)
  /-- R106. A block reaches a gate cell and is held if PRIV or behind a held block, else passed. -/
  | gateBlockArrive (g : GateId) (stream : BitVec 12) (step : Step) (bytes : List Byte)
  /-- R106. A verdict reaches a gate cell, which releases, discards with replay, or withholds the step's blocks. -/
  | gateVerdict (g : GateId) (ctx : Ctx) (step : Step) (v : GateVerdict)
  /-- R107. A held block's HCH_BACKSTOP expires without a verdict and it is withheld with reason 2. -/
  | gateBackstop (g : GateId)
  /-- R136. A Door validates an outgoing block, stamps ALIVE and appends its trailer, or rejects it. -/
  | doorTransmitBlock (n : DoorId) (stream : BitVec 12) (bytes : List Byte)
  /-- R136. A Door validates an incoming block and its length, verifies the trailer, judges ALIVE and strips or diverts it. -/
  | doorReceiveBlock (n : DoorId) (stream : BitVec 12) (limit : BitVec 12) (bytes : List Byte)
  /-- R146. A link completes training and the Door resets its streams and restarts its accounts. -/
  | linkTrained (n : DoorId)
  /-- R122. A lane's DR_LANE_UP falls and 0xC010, or 0xC013 when all are down, is raised. -/
  | laneDrop (n : DoorId) (l : LaneId) (laneBytes : Nat)
  /-- R122. A lane returns after retraining and 0xC012 is raised. -/
  | laneReturn (n : DoorId) (l : LaneId) (us : Nat)
  /-- R277. A Cellar in-line unit checks a whole read block and marks POISON or the bad signal as needed. -/
  | cellarReadBlock (s : StackId) (c : ChanId) (addr : BitVec 36) (merge : BitVec 4) (bytes : List Byte) (ce ue : List (BitVec 36)) (test : Bool)
  /-- R147. A Cellar observes a written block, alive-checks its stream window and clears or enters poison granules. -/
  | cellarWriteBlock (s : StackId) (c : ChanId) (addr : BitVec 36) (bytes : List Byte)
  /-- R279. A maintenance re-read of a failed block completes and decides damaged memory or a suspect in-line unit. -/
  | rescanDone (s : StackId) (c : ChanId) (bytes : List Byte) (ce ue : List (BitVec 36))
  /-- R284. A patrol scrub read of a granule completes and correctable or uncorrectable errors are handled. -/
  | scrubGranule (s : StackId) (err : ReadErr) (data : List Byte)
  /-- R312. CEL_SLICE_CMD WRITE enters a staged slice into an EMPTY entry as LOADING, or refuses it. -/
  | sliceWrite (s : StackId)
  /-- R291. CEL_SLICE_CMD VERIFY starts digesting a LOADING slice ahead of the rotation. -/
  | sliceVerify (s : StackId)
  /-- R312. CEL_SLICE_CMD DROP returns a slice to EMPTY and frees its range entry. -/
  | sliceDrop (s : StackId)
  /-- R312. CEL_SLICE_CMD REDIGEST digests a VALID or DOUBT slice now. -/
  | sliceRedigest (s : StackId)
  /-- R289. A slice's digest read finishes, and the slice is made VALID, BAD or compared with other copies. -/
  | sliceDigestDone (s : StackId) (i : Fin 16384) (bytes : List Byte) (ce ue : List (BitVec 36))
  /-- R293. A Cellar receives a tick, adds its budget to the allowance and digests slices; rotations start and end here. -/
  | digestTick (s : StackId)
  /-- R298. An RTYPE 1 exchange record arrives and replaces PEER or is ignored. -/
  | digestRecord (n : DoorId) (payload : List Byte)
  /-- R299. An RTYPE 2 request arrives and the Cellar answers with RTYPE 3 or a refusal. -/
  | thirdCopyRequest (n : DoorId) (payload : List Byte)
  /-- R299. An RTYPE 3 answer decides a DOUBT slice as local or peer minority. -/
  | thirdCopyAnswer (n : DoorId) (payload : List Byte)
  /-- R299. No third copy arrives within 1 s and the slice stays DOUBT. -/
  | thirdCopyTimeout (s : StackId) (i : Fin 16384)
  /-- R302. A queued repair starts when fewer than four run and sends its reload request to the first source. -/
  | repairStart (s : StackId)
  /-- R297. An RTYPE 4 request reaches a source, which announces and sends the slice or queues or refuses it. -/
  | reloadRequest (n : DoorId) (payload : List Byte)
  /-- R297. An RTYPE 5 announcement opens a reload at the receiving Door and Cellar. -/
  | reloadAnnouncement (n : DoorId) (payload : List Byte)
  /-- R302. A reload block on stream 4,093 arrives, is digested and written, or absorbed when no reload is open. -/
  | reloadBlock (n : DoorId) (bytes : List Byte) (bad : Bool)
  /-- R303. An RTYPE 6 refusal fails the source and the next source is tried. -/
  | reloadRefusal (n : DoorId) (payload : List Byte)
  /-- R303. The first block misses its bound or 100 ms pass between blocks and the source fails. -/
  | reloadTimeout (s : StackId) (i : Fin 16384)
  /-- R302. The written blocks are read back and checked, and the slice returns to VALID or the source fails. -/
  | repairReadback (s : StackId) (i : Fin 16384) (bytes : List Byte) (ce ue : List (BitVec 36))
  /-- R307. After a lower band has held 1 s, a Cellar drives a lower CL_REF_MULT. -/
  | refreshMultLower (s : StackId)
  /-- R309. After retraining a Cellar restores the newest passing save-area copy or makes all channels SUSPECT. -/
  | saveAreaRestore (s : StackId) (pass : List Bool) (firstBad : Nat)
  /-- R283. A write of CEL_CH_CTRL.CLEAR returns a SUSPECT channel that has passed its steep to service. -/
  | channelClear (s : StackId) (data : Word)
  /-- R311. A read of CEL_PSN_HI returns an entry word and advances CEL_PSN_SEL. -/
  | poisonMapRead (s : StackId)
  /-- R149. A write of CKU_SCAN_CTRL.GO samples the scan parameters and starts, refuses or finishes a scan. -/
  | scanGo (u : ScanUnit) (data : Word)
  /-- R153. A write of CKU_SCAN_CTRL.ABORT ends a running scan at the next line boundary. -/
  | scanAbort (u : ScanUnit)
  /-- R150. A scan's line read completes and is fed to the CKU, or stops the scan at poison or an uncorrectable error. -/
  | scanLineDone (u : ScanUnit) (data : List Byte) (err : ReadErr)
  /-- R155. A write of CKU_SC_CFG loads a preset into the scan profile or is ignored. -/
  | scanProfileWrite (u : ScanUnit) (data : Word)
  /-- R146. A write of CKU_STRM_CTRL.RESYNC makes the selected stream unsynchronised at its next SOP. -/
  | streamResync (u : StreamUnit) (data : Word)
  /-- R147. A write of CKU_WIN_BASE_HI applies the selected stream window and resynchronises it. -/
  | windowApply (s : StackId) (data : Word)
  /-- R99. TS_MAP_DONE confirms that a logical-to-physical map commit has taken effect. -/
  | mapCommitDone (k : ClusterId)
  /-- R99. The network interface refuses a dispatch to an invalid map entry and the Taster counts it. -/
  | mapMiss (k : ClusterId) (chanTable : Bool) (entry : BitVec 13)
  /-- R243. TS_RPT_ACK reports that a requested repeat has started at a command boundary. -/
  | repeatStart (k : ClusterId)
  /-- R242. TS_RPT_DONE reports a repeat complete and its result c2 joins the case. -/
  | repeatDone (k : ClusterId) (ncore : BitVec 4) (view : Option CaseVal)
  /-- R243. No command boundary comes within 1 ms and the repeat request is withdrawn, leaving c2 absent. -/
  | repeatWithdraw (k : ClusterId)
  /-- R245. The case's own Taster completes its recompute t1. -/
  | referenceT1Done (k : ClusterId) (case : Nat) (upset : Option CaseVal)
  /-- R247. A neighbour Taster receives a recompute request and computes t2 as adjudication work. -/
  | neighbourRequest (t : ClusterId) (k : ClusterId) (case : Nat) (upset : Option CaseVal)
  /-- R247. The neighbour's t2 arrives at the case's Taster. -/
  | neighbourAnswer (k : ClusterId) (case : Nat)
  /-- R247. A neighbour does not answer within 2 ms and the next candidate is asked, or t2 is absent. -/
  | neighbourTimeout (k : ClusterId) (case : Nat)
  /-- R253. A verdict reaches the Hall, which fences, adopts, taints or kills as the verdict requires. -/
  | hallVerdict (r : RegionId)
  /-- R261. A fenced core reaches TP_IDLE and the Taster requests migration to a spare. -/
  | fenceBoundary (k : ClusterId) (p : CoreId)
  /-- R259. TS_MIG_DONE reports the core state copied, and the map entry is rewritten to the spare. -/
  | migrationDone (k : ClusterId) (cycles : Nat) (err : Bool)
  /-- R268. A delivery of a poisoned block to a core kills its live context or is counted. -/
  | poisonReport (k : ClusterId) (p : CoreId) (ctx : Ctx) (layer oper : BitVec 16)
  /-- R274. A write of BRW_HIST_PUID latches a copy of that unit's history table. -/
  | historySelect (data : Word)
  /-- R318. A unit's planned due time arrives and it enters its steep engine's queue. -/
  | steepDue (u : SteepUnit)
  /-- R319. A free steep engine takes the first eligible queue entry and begins its attempt. -/
  | steepStart (e : Engine) (cyc100 : Nat)
  /-- R327. No command boundary comes within 2 s of the fence and the steep attempt is withdrawn. -/
  | steepWithdraw (k : ClusterId) (p : CoreId)
  /-- R90. A Tap's secret clear of local SRAM and keys finishes and succeeds or fails. -/
  | secretClearDone (k : ClusterId) (p : CoreId) (rowsZero : Bool) (keyZero : BitVec 4)
  /-- R323. A steep slice ends and its signature is compared, repeated, passed or failed: its response bits in the order they left, and the region's cycles over the
  last 100 µs. -/
  | sliceCompare (e : Engine) (resp : List Bool) (cyc100 : Nat)
  /-- R320. A slice's wall-time budget expires and the engine aborts it at once. -/
  | sliceAbort (e : Engine) (us : Nat)
  /-- R329. A core reaches 2·CORE_H since its last steep and is reported overdue. -/
  | coreOverdue (k : ClusterId) (p : CoreId)
  /-- R329. An overdue core without a spare reaches its context boundary and is steeped in place. -/
  | forcedSteepBoundary (k : ClusterId) (p : CoreId)
  /-- R333. A channel's PHY loop-back finishes and passes or makes the channel SUSPECT. -/
  | phyLoopback (s : StackId) (c : ChanId) (errs : BitVec 16)
  /-- R335. A write of CEL_STP_CTRL.CHSTEEP starts a destructive march of a fenced SUSPECT channel or is refused. -/
  | channelMarch (s : StackId) (data : Word)
  /-- R335. A channel march completes and passes or fails. -/
  | marchDone (s : StackId) (c : ChanId) (miscompares : Nat) (ue : Bool)
  /-- R336. A lane's 20 ms near-end or far-end loop-back ends and passes or holds the lane down. -/
  | laneLoopbackEnd (n : DoorId) (l : LaneId) (errs : BitVec 16) (checked : Nat)
  /-- R337. Every ANA_MIN minutes sensors, rail monitors and power-flag cells are reference-checked. -/
  | analogueCheck (part : Analogue) (res : AnaResult)
  /-- R337. A failed analogue check is repeated after 1 s and a second failure counts. -/
  | analogueRecheck (part : Analogue) (res : AnaResult)
  /-- R348. A committed package copy into a region's grist store is verified by SHA-384. -/
  | gristStoreCopy (r : RegionId) (sha : BitVec 384)
  /-- R349. A failed or lost region grist store is rewritten from flash. -/
  | gristStoreRewrite (r : RegionId)
  /-- R355. A Tap's command cycle count reaches LIMIT·1,024 and a hang report is sent. -/
  | commandExpire (k : ClusterId) (p : CoreId) (ending : Bool)
  /-- R368. A hang report reaches the Hall, which raises the hold, fixes the replay set and fences the suspects' cores. -/
  | hangReport (k : ClusterId)
  /-- R359. The region cycle count has not advanced for HAL_STALL_CFG.MS and a partition reset starts. -/
  | stallWatchdog (r : RegionId)
  /-- R366. TS_DRAINED or its region equivalent rises and the drain ends early. -/
  | drainComplete (sc : Scope) (bytes : Nat) (ctxs : List Ctx)
  /-- R366. A drain bound expires and the scope moves on to absorb. -/
  | drainBound (sc : Scope) (bytes : Nat) (ctxs : List Ctx)
  /-- R362. TS_KILL_DONE confirms no command of the killed context remains queued. -/
  | killDone (k : ClusterId)
  /-- R361. A core reset or TS_KILL_DONE is not done within 200 µs and an engine reset follows. -/
  | coreResetEscalate (k : ClusterId) (p : CoreId)
  /-- R373. TS_CL_RST_DONE arrives and the maps are rewritten. -/
  | clusterResetDone (k : ClusterId)
  /-- R361. An engine reset is not done within 10 ms and a partition reset follows. -/
  | engineResetEscalate (k : ClusterId)
  /-- R374. HL_MEM_TRN_DONE reports stack retraining complete. -/
  | memoryRetrainDone (r : RegionId) (failed : List Puid)
  /-- R374. HL_RGN_READY is seen and the region's holds are released. -/
  | regionReady (r : RegionId)
  /-- R364. A neighbour Hall announces its reset complete and HL_ABSORB_N toward it is released. -/
  | neighbourResetComplete (r : RegionId) (d : Dir) (bytes : Nat)
  /-- R361. A partition reset is not done within 10 s and a chip reset follows. -/
  | partitionResetEscalate (r : RegionId)
  /-- R572. A power cycle request is checked against the limit, reported and then driven on PWRCYC_REQ_N. -/
  | powerCycleRequest (cause : PcCause)
  /-- R369. Host software has not started a suspect's replay within 100 ms and the suspect is killed. -/
  | replayStartTimeout (k : ClusterId)
  /-- R381. Power-good loss is recognised after three low samples and the region is isolated and declared LOST. -/
  | pgLossRecognised (r : RegionId)
  /-- R381. Over-current is recognised after two low samples and the region is handled as a supply loss. -/
  | overcurrentRecognised (r : RegionId)
  /-- R113. A neighbour rail falls below 0.60 V and crossings are clamped on the powered side. -/
  | clampApply (r : RegionId) (d : Dir)
  /-- R114. The active Brewhouse commands release of a clamp after the region's reset. -/
  | clampRelease (r : RegionId) (d : Dir)
  /-- R382. RGN_PG has held good for 1 s after a first loss and a partition reset returns the region. -/
  | lostRegionReturn (r : RegionId)
  /-- R119. A region's REFCLK misses 4 edges; its units hold wall time and its gate cells close. -/
  | refclkLoss (r : RegionId) (missed : Nat)
  /-- R119. REFCLK has returned for 100 µs, gate cells reopen and units realign. -/
  | refclkRestore (r : RegionId) (us : Nat)
  /-- R384. TS_RET_SEEN reports a block of a retired context discarded by the network interface. -/
  | retiredBlockDiscard (k : ClusterId) (ctx : Ctx) (bytes : BitVec 16)
  /-- R484. HL_THR_ACK reports the clock generator has applied the throttle setting. -/
  | throttleAck (r : RegionId)
  /-- R484. No acknowledgement within 10 µs; the Hall drives the setting again and sets NOACK. -/
  | throttleAckTimeout (r : RegionId)
  /-- R395. A unit takes its marker: shadows its counters, records times, sends channel markers and audits its accounts. -/
  | cutMarker (u : Node) (sample : Sample)
  /-- R397. A channel marker arrives, closes the channel record and its count is audited. -/
  | channelMarker (c : Channel) (sent : BitVec 32)
  /-- R397. A channel record is still open 1 ms after the marker and is closed flagged. -/
  | channelRecordTimeout (c : Channel)
  /-- R400. An edge cell's clock does not advance within 1 µs of its parent's marker and its shadow is flagged CLKSTOP. -/
  | edgeMarkerTimeout (e : Edge)
  /-- R398. A subtree's CUT_REPORT reaches a router or the Brewhouse and is combined. -/
  | cutReport (f : FieldId) (rep : Report)
  /-- R398. A child has not reported within 1 ms and its subtree counts as flagged. -/
  | cutReportTimeout (f : FieldId) (units : Nat)
  /-- R399. CUT_DONE reaches a unit, which presents its new shadow bank. -/
  | cutDone (u : Node)
  /-- R404. A core raises TP_STOPPED during a STOP cut. -/
  | coreStopped (k : ClusterId) (p : CoreId)
  /-- R404. A core has not stopped within 1 ms and is flagged. -/
  | stopCoreTimeout (k : ClusterId) (p : CoreId)
  /-- R409. A write of TST_ATB_CTRL applies match, mask and enable to a bin. -/
  | attributionBinWrite (k : ClusterId) (data : Word)
  /-- R410. A write of TST_CNT_CFG configures a bank counter and clears it. -/
  | counterConfigWrite (k : ClusterId) (data : Word)
  /-- R414. A Taster's trace record is written to its Loft segment when the mesh accepts it, or dropped. -/
  | traceWrite (k : ClusterId) (accepted : Bool)
  /-- R416. A write of LFT_CTRL.RESTART returns every segment to index 0. -/
  | traceRestart (data : Word)
  /-- R413. A write of LFT_MARK makes every Taster write a MARK record. -/
  | traceMark (data : Word)
  /-- R449. A write of DRW_SEED_CTRL.SET starts the two-phase decision of a context seed. -/
  | drwSeedSet (data : Word)
  /-- R449. A Hall accepts or refuses a pending seed and the SET is decided when all have answered. -/
  | seedSetAnswer (r : RegionId)
  /-- R452. The token sampler requests a draw on the draw port and the result is returned in order. -/
  | drawRequest (k : ClusterId) (ctx : Ctx) (layer oper : BitVec 16) (step : Step) (idx : BitVec 35)
  /-- R453. A write of DRW_CALC_CTRL.GO computes a draw or refuses it. -/
  | drawCalc (data : Word)
  /-- R455. A Cellar's rotation report reaches the Brewhouse, which closes weight epochs when all have reported. -/
  | weightSetReport (s : StackId)
  /-- R457. A write of PRV_CTX_CFG.PROV starts or restarts a context's chain or is refused. -/
  | provenanceEnable (data : Word)
  /-- R463. 10 ms pass without a command of the paired context and the step closes. -/
  | pairStepTimeout (k : ClusterId)
  /-- R465. A partner's step digest arrives and is compared with the Taster's own. -/
  | pairDigestRecord (n : DoorId) (record : List Byte)
  /-- R465. A partner's value records arrive and the first difference localises the divergence. -/
  | pairValue (n : DoorId) (records : List (List Byte))
  /-- R465. No partner record arrives within 100 ms and the step is counted unmatched. -/
  | pairUnmatchedTimeout (k : ClusterId) (step : Step)
  /-- R476. Every 100 µs a sensor counts its oscillator, converts the reading and updates its band. -/
  | sensorReading (f : FieldId) (i : Fin 16) (raw : BitVec 16)
  /-- R482. Every 10 ms while its cause persists a throttle ladder deepens one level. -/
  | ladderDeepen (r : RegionId) (l : Ladder)
  /-- R482. After 100 ms without its cause a ladder releases one level; a pending method is applied at level 0. -/
  | ladderRelease (r : RegionId) (l : Ladder)
  /-- R485. Every 1 ms the power-management core estimates region power and starts or ends the cap's cause. -/
  | powerEstimate (r : RegionId)
  /-- R486. A hard-limit comparator trips and the region is throttled and Shuttered. -/
  | limitTrip (r : RegionId) (l : Limit) (measured : Nat)
  /-- R486. A clock-ratio excess persists 100 µs after the deepest throttle and the region is Shuttered. -/
  | clockRatioPersist (r : RegionId) (count : Nat)
  /-- R489. Every comparator has been clear 10 s after a first Shutter and a partition reset returns the region. -/
  | shutterReturn (r : RegionId)
  /-- R487. A write to a limit register tightens the limit within its floor or is ignored. -/
  | limitTighten (off : BitVec 12) (data : Word)
  /-- R511. A bring-up stage completes or its bound expires, is reported and the next stage or a stop follows. -/
  | bringupStage (res : StageResult)
  /-- R524. TS_BOOT_DONE reports a host image load into a core, repeated or failed when bad. -/
  | bootLoadDone (k : ClusterId) (p : CoreId) (bad : Bool)
  /-- R527. The security core verifies a received bundle or host image and stages or rejects it. -/
  | bundleVerify (hostImage : Bool)
  /-- R529. A processor's new component is copied and checked and its switch phase begins. -/
  | processorLoadDone (i : Byte) (sha : BitVec 384)
  /-- R529. A processor finishes its switch and the activation or held work proceeds. -/
  | processorSwitchDone (i : Byte) (us : Nat)
  /-- R533. A processor misses its watchdog service, restarts, and may roll back or be halted. -/
  | processorWatchdog (i : Byte)
  /-- R546. Every 20 µs the active Brewhouse scans the slots and takes new messages. -/
  | mailboxScan (changed : List (Fin 64))
  /-- R565. A proposal's 60 s window ends without both endorsements and it expires. -/
  | proposalExpire (cls : Fin 9)
  /-- R549. The host writes a changed MBX_HB.COUNT. -/
  | hostHeartbeat (data : Word)
  /-- R122. The endpoint reports its link down and 0xC020 is raised. -/
  | pcieLinkDown (linkState : Word)
  /-- R554. The driver writes MBX_RING_HEAD, making room for held records. -/
  | ringHeadWrite (data : Word)
  /-- R558. A vector's holdoff ends and its deferred MSI-X message is sent. -/
  | msiHoldoffEnd (vec : Fin 8)
  /-- R567. The tray controller assigns Onasen a dynamic I3C address. -/
  | entdaa (addr : BitVec 7)
  /-- R568. An MCTP message arrives and control commands are answered or others discarded. -/
  | mctpMessage (msgType : BitVec 7) (body : List Byte)
  /-- R571. A fleet mailbox message arrives by MCTP subtype 2 and is handled or answered busy. -/
  | fleetMessage (msg : List Byte)
  /-- R575. Moldom NOP repeats the capture of the last response. -/
  | nop (m : Moldom)
  /-- R575. Moldom IDENT returns an identification word. -/
  | ident (m : Moldom)
  /-- R575. Moldom reads a register window word. -/
  | windowRead (m : Moldom)
  /-- R575. Moldom writes a register window word. -/
  | windowWrite (m : Moldom)
  /-- R575. Moldom reads a word of a Hall, processor, Taster or stack memory. -/
  | memoryRead (m : Moldom)
  /-- R575. Moldom writes a word of a Hall, processor, Taster or stack memory. -/
  | memoryWrite (m : Moldom)
  /-- R577. Moldom halts a processor, which is treated as restarting. -/
  | processorHalt (m : Moldom)
  /-- R575. Moldom lets a halted processor run. -/
  | processorRun (m : Moldom)
  /-- R575. Moldom single-steps a halted processor. -/
  | processorStep (m : Moldom)
  /-- R575. Moldom sets or clears a processor breakpoint. -/
  | setBreakpoint (m : Moldom)
  /-- R575. Moldom sets or clears a processor watchpoint. -/
  | setWatchpoint (m : Moldom)
  /-- R575. Moldom returns a processor's halted state and cause. -/
  | processorStatus (m : Moldom)
  /-- R575. A processor reaches a breakpoint or watchpoint and halts. -/
  | processorBreakHit (i : Byte) (watch : Bool) (addr : Word)
  /-- R403. Moldom's STOP requests a global stop. -/
  | moldomStop (m : Moldom)
  /-- R405. Moldom's RESUME ends a global stop. -/
  | moldomResume (m : Moldom)
  /-- R576. Moldom halts a Taster pipeline stage by withholding its acknowledge. -/
  | pipelineHalt (m : Moldom)
  /-- R576. Moldom releases a halted Taster pipeline stage. -/
  | pipelineRelease (m : Moldom)
  /-- R577. Moldom enables scan of an Onasen unit after clearing its secrets, or refuses. -/
  | scanEnable (m : Moldom)
  /-- R589. A write of PG_CTRL.OWNER claims or releases a page's selectors. -/
  | ownerClaim (page : BitVec 12) (data : Word)
  /-- R597. A write of TAP_WIN_SEL selects the Tap a window presents. -/
  | tapWindowSelect (w : Fin 64) (data : Word)
  /-- R594. A unit page does not answer within 100 µs and the Brewhouse answers in its place. -/
  | pageUnreached (offset : BitVec 24) (write : Bool)
  /-- R595. A read of a LO register returns it and latches its HI. -/
  | loHiLatchRead (offset : BitVec 24)
  /-- R120. A window write with partial byte enables is ignored and raises 0xC021. -/
  | windowPartialWrite (offset : BitVec 24) (be : BitVec 4)
  /-- R18. A direct write to an RW2K field is ignored and raises a class 0xA event. -/
  | rw2kDirectWrite (offset : BitVec 24) (data : Word)
  /-- R585. A write to a register without its own row takes effect per its access type, or is ignored for state. -/
  | registerWrite (offset : BitVec 24) (data : Word)
  /-- R51. Every 1 µs of wall time the active Brewhouse broadcasts a time beat carrying its wall time and a zero path delay. -/
  | timeBeatEmit
  /-- R58. The standby acknowledges a mirror, completing it and letting any commit it carries take effect. -/
  | mirrorAck
  /-- R61. The standby has heard no heartbeat on any path for 1 ms, reads power-good and polls the Halls or takes over. -/
  | heartbeatSilence
  /-- R61. The standby's poll bound expires and unanswering Halls count against the majority. -/
  | hallPollTimeout
  /-- R68. The active Brewhouse hears no heartbeat from the standby for 1 ms, sets UNMIRRORED and raises an event. -/
  | standbySilence
  /-- R72. At least every 1 ms the active Brewhouse refreshes its hold of FAILSAFE_N deasserted. -/
  | failsafeRefresh
  /-- R72. A FAILSAFE_N hold left unrefreshed lapses and the pin falls to asserted. -/
  | failsafeLapse
  /-- R292. The active Brewhouse broadcasts a digest tick after a PASS and MIN_US, or after MAX_US. -/
  | digestTickSend
  /-- R26. An event reaches the Brewhouses and the active one records it in the Attic and acts on policy. -/
  | eventRecord
  /-- R263. The last host context ends while DRAINING and the wafer becomes DRAINED. -/
  | waferDrained
  /-- R257. Staged history entries are programmed to both flash devices. -/
  | historyProgram
  /-- R428. Staged Attic records are programmed to both flash devices. -/
  | atticProgram
  /-- R274. A read of BRW_HIST_WIN3 returns a word and advances BRW_HIST_SEL.ENTRY. -/
  | historyWindowRead
  /-- R318. A core rotation starts and each Taster gets a steep plan; a committed grist package takes effect. -/
  | coreRotationStart
  /-- R347. The security core verifies a received grist package and stages or rejects it. -/
  | gristVerify
  /-- R378. The pad watchdog counts 120 s while armed and pulses PWRCYC_REQ_N if the allowance permits. -/
  | chipResetWatchdog
  /-- R392. Every PERIOD_MS the active Brewhouse starts a COUNT cut by CUT_BEGIN. -/
  | cutStart
  /-- R392. A write of BRW_CUT_CTRL.GO starts a COUNT cut or is ignored with OVERRUN. -/
  | cutGo
  /-- R403. A write of BRW_CUT_CTRL.STOP starts a STOP cut under a debug unlock or is refused. -/
  | globalStop
  /-- R405. A write of BRW_CUT_CTRL.RESUME starts a RESUME cut ending the stop. -/
  | globalResume
  /-- R405. STOP_MAX_S passes since the stop completed and the Brewhouse starts a RESUME cut. -/
  | stopMaxTimeout
  /-- R418. A read of LFT_RD_WIN7 returns a word and advances LFT_RD_INDEX. -/
  | loftWindowRead
  /-- R430. The Attic erase completes, the counts clear and 0x9051 is written at index 0. -/
  | atticEraseDone
  /-- R431. A read of ATT_WIN7 latches the record's SEQ into ATT_LASTSEQ and advances ATT_CURSOR. -/
  | atticWindowRead
  /-- R427. Every tenth of an hour the operating-time counter advances in flash. -/
  | optimeAdvance
  /-- R458. The Brewhouse hashes a verdicted step into the context's provenance chain or breaks the chain. -/
  | provenanceStep
  /-- R492. None of the emergency conditions has held for 1 s and the emergency ends. -/
  | emergencyEnd
  /-- R511. Both rails of the Brewhouse regions enter their windows and bring-up begins. -/
  | powerOn
  /-- R513. Brewhouse A has not released the xSPI bus within 3 s and the pad logic takes it. -/
  | xspiBusTimeout
  /-- R528. An activation's hold clears and it resumes with the processors not yet switched. -/
  | activationResume
  /-- R534. 10 minutes pass without a watchdog restart and TRIAL is cleared. -/
  | trialClear
  /-- R538. HELLO negotiates features, re-arms the ring and ends host absence. -/
  | hello
  /-- R551. CTX_OPEN opens a free context identifier. -/
  | ctxOpen
  /-- R383. CTX_TEARDOWN retires a context across Tasters, Doors and gate cells. -/
  | ctxTeardown
  /-- R449. SEED_SET sets a context seed by mailbox under the two-phase decision. -/
  | seedSet
  /-- R254. CTX_RESUME clears a taint when resumed from below the tainted step. -/
  | ctxResume
  /-- R468. INPUT_DECLARE records an external input or compares it during replay. -/
  | inputDeclare
  /-- R550. INPUT_DATA adds data of the last declared input to its record entry. -/
  | inputData
  /-- R468. MARK writes a KIND 8 record entry. -/
  | mark
  /-- R470. REPLAY_RUN starts replay of the record log with context mapping. -/
  | replayRun
  /-- R470. The Brewhouse delivers the next log entry to host software and sets recorded seeds. -/
  | replayDeliver
  /-- R369. REPLAY_STARTED reports a suspect's hang replay has begun. -/
  | replayStarted
  /-- R369. REPLAY_DONE clears a suspect that completed its step and moves to the next or ends the set. -/
  | replayDone
  /-- R369. REPLAY_DECLINE kills the suspect unreplayed. -/
  | replayDecline
  /-- R361. RESET_REQ requests an engine, partition, chip or power-cycle reset. -/
  | resetReq
  /-- R556. POSTURE_SET changes the wafer posture or region overrides, or is refused below the floor. -/
  | postureSet
  /-- R562. TWK_PROPOSE stages a two-key proposal with a fresh nonce, withdrawing any of its class. -/
  | twkPropose
  /-- R563. TWK_ENDORSE submits an endorsement for verification. -/
  | twkEndorse
  /-- R564. The security core finishes verifying an endorsement and refuses or counts it. -/
  | endorsementVerify
  /-- R578. DEBUG_LOCK ends a debug unlock at once. -/
  | debugLock
  /-- R578. A debug unlock's minutes run out and halts are released. -/
  | debugUnlockExpire
  /-- R557. DL_CHUNK delivers a chunk of a download and the last chunk starts verification. -/
  | dlChunk
  /-- R528. FW_ACTIVATE starts or holds an activation of the staged bundle. -/
  | fwActivate
  /-- R529. PROC_RESTART restarts one processor from the slot it runs. -/
  | procRestart
  /-- R549. MBX_HB unchanged for 2 s, or PCIe link down, makes Onasen host-absent. -/
  | hostAbsent
  /-- R554. A completion record is written to the ring when there is room, or held or dropped. -/
  | completionWrite
  /-- R567. The tray controller collects a queued report by private read after an in-band interrupt. -/
  | reportCollect
  /-- R570. Once per second each class that suppressed events sends a summary report. -/
  | reportSummary
  /-- R570. Every STATUS_S seconds a status report is sent. -/
  | statusReport
  /-- R573. Test-Logic-Reset selects IDCODE on the debug TAP. -/
  | tapReset
  deriving DecidableEq, Repr

end Sys2Proof
end

