-- ==== Sys2Proof/Decode.lean ====
section
/-! DEFINITION. Command words: the rows of the opcode table give no bits, so no word spells a command. -/
namespace Sys2Proof

/-- The command that a word of the table's bits spells. The table gives no row a bit (each row's list of fields is empty), so no word spells one; commands reach the block by `pending` alone. -/
def decodeTableWord (_nbits _w : Nat) : Option Instr := none

end Sys2Proof
end

