-- ==== Sys2Proof/Machine/Crc.lean ====
section
/-! DEFINITION. Check values: the profile of a check-value unit and its computation (R131-R133). -/
namespace Sys2Proof

/-- A check-value profile (R131). -/
structure Profile where
  w : Nat
  poly : Nat
  init : Nat
  refin : Bool
  refout : Bool
  xorout : Nat
  deriving DecidableEq, Repr

/-- The low `n` bits of a number in reverse order. -/
def revBits : Nat → Nat → Nat
  | 0, _ => 0
  | n + 1, x => (x % 2) * 2 ^ n + revBits n (x / 2)

/-- One bit step of R131. -/
def crcBit (p : Profile) (crc : Nat) : Nat :=
  let sh := (crc * 2) % 2 ^ p.w
  if crc.testBit (p.w - 1) then Nat.xor sh (p.poly % 2 ^ p.w) else sh

/-- One byte of R131. -/
def crcByte (p : Profile) (crc : Nat) (b : Byte) : Nat :=
  let v := if p.refin then revBits 8 b.toNat else b.toNat
  let c := Nat.xor crc (v * 2 ^ (p.w - 8))
  (List.range 8).foldl (fun c _ => crcBit p c) c

/-- The register after some bytes, from a starting value (a scan goes on from here line by line). -/
def crcFeed (p : Profile) (crc : Nat) (bs : List Byte) : Nat := bs.foldl (crcByte p) crc

/-- The register before any byte (R131). -/
def crcStart (p : Profile) : Nat := p.init % 2 ^ p.w

/-- The check value from the register (R131). -/
def crcEnd (p : Profile) (crc : Nat) : Nat :=
  Nat.xor (if p.refout then revBits p.w crc else crc) (p.xorout % 2 ^ p.w)

/-- The check value of a byte string (R131). -/
def crcOf (p : Profile) (bs : List Byte) : Nat := crcEnd p (crcFeed p (crcStart p) bs)

/-- The presets of R133; preset 0 and the numbers above 5 name none. -/
def crcPreset : Nat → Option Profile
  | 1 => some ⟨32, 0x1EDC6F41, 0xFFFFFFFF, true, true, 0xFFFFFFFF⟩
  | 2 => some ⟨32, 0x04C11DB7, 0xFFFFFFFF, true, true, 0xFFFFFFFF⟩
  | 3 => some ⟨64, 0x42F0E1EBA9EA3693, 0, false, false, 0⟩
  | 4 => some ⟨64, 0x42F0E1EBA9EA3693, 0xFFFFFFFFFFFFFFFF, true, true, 0xFFFFFFFFFFFFFFFF⟩
  | 5 => some ⟨16, 0x1021, 0xFFFF, false, false, 0⟩
  | _ => none

/-- CRC-16/CCITT-FALSE (preset 5): the check transfer of a Stair packet (R32). -/
def crc16 : Profile := ⟨16, 0x1021, 0xFFFF, false, false, 0⟩
/-- CRC-64/XZ (preset 4): the compaction of steep responses (R323). -/
def crc64xz : Profile := ⟨64, 0x42F0E1EBA9EA3693, 0xFFFFFFFFFFFFFFFF, true, true, 0xFFFFFFFFFFFFFFFF⟩
/-- CRC-32C (preset 1), the tensor-block profile when the variant record names none (R134). -/
def crc32c : Profile := ⟨32, 0x1EDC6F41, 0xFFFFFFFF, true, true, 0xFFFFFFFF⟩

end Sys2Proof
end

