-- ==== Sys2Proof/Parts/Boot.lean ====
section
/-! DEFINITION. What the signed variant record gives (R508), the firmware and the processors (chapter 13). -/
namespace Sys2Proof

/-- Item 0x0008, the tensor-block profile: its preset, and the fields given where that is 0 (R134, R508). -/
structure TbItem where
  preset : Nat
  w : Nat
  poly : Nat
  init : Nat
  xorout : Nat
  refin : Bool
  refout : Bool
  deriving DecidableEq, Repr

/-- The signed variant record, read out of flash (R508); an absent optional item as R509 says. -/
structure VariantSt where
  version : Nat
  /-- 0x0001 -/
  serial : Nat
  design : Nat
  /-- 0x0002: enabled regions, minimum usable regions -/
  regions : Nat
  minRegions : Nat
  /-- 0x0003: enabled links, far-end looped edge links 84-95 -/
  links : Nat
  loops : Nat
  /-- 0x0004: enabled stacks -/
  stackSet : Nat
  /-- 0x0005: absent edge cells, PUIDs -/
  absent : List Nat
  /-- 0x0006: sideband, exact partial, discard, command, atomic discard, Door, Cellar, gate cell -/
  latency : List Nat
  /-- 0x0007 -/
  opcodes : List Nat
  keyMask : Nat
  archBytes : Nat
  rptBase : Nat
  rptCount : Nat
  /-- 0x0008 -/
  tb : TbItem
  /-- 0x0009: scratch offset, field of the PCIe gate, and the save area, grist store and host image store as (channel, address) -/
  scratch : Nat
  pcie : Nat
  saveArea : Nat × Nat
  gristArea : Nat × Nat
  imageArea : Nat × Nat
  /-- 0x000A -/
  tj : Nat
  vmin : Nat
  vmax : Nat
  cyc : Nat
  nominal : Nat
  /-- 0x000B, where present: idle W, pJ per product, per L1 byte and per L2 byte, budgets of the regions -/
  power : Option (Nat × Nat × Nat × Nat × List Nat)
  /-- 0x000C: grist keys 0-3, host and fleet endorsement keys; 0 for no key -/
  keys : List Nat
  /-- 0x000D: factory defect map -/
  defects : List Nat
  /-- 0x000E, where present: CAP of every link -/
  cap : Option (List Nat)
  /-- 0x000F, where present -/
  ctx0Seed : Option Nat
  deriving DecidableEq, Repr

end Sys2Proof
end

