-- ==== Sys2Proof/Parts/Cellar.lean ====
section
/-! DEFINITION. State of the Cellars: poison map, slice table, digest rotation, repairs, scrub (chapter 07). -/
namespace Sys2Proof

/-- A granule entry of the poison map (R280). -/
structure PsnEnt where
  ch : Nat
  gran : Nat
  origin : Nat
  /-- a repair arose for it that no reference serves (R301) -/
  nosrc : Bool
  optime : Nat
  deriving DecidableEq, Repr

/-- A range entry of the poison map (R280), with the slice it stands for. -/
structure RngEnt where
  ch : Nat
  start : Nat
  len : Nat
  reason : Nat
  slice : Nat
  deriving DecidableEq, Repr

/-- An entry of the slice table (R287). -/
structure SliceEnt where
  tensor : Nat
  slice : Nat
  gen : Nat
  lch : Nat
  ch : Nat
  ref : Bool
  state : Nat
  localOk : Bool
  peerOk : Bool
  peer : Nat
  addr : Nat
  length : Nat
  rot : Nat
  expected : Nat
  localDig : Nat
  peerDig : Nat
  deriving DecidableEq, Repr

/-- A repair, queued or running (R301-R303). -/
structure Repair where
  slice : Nat
  /-- 1 granule, 2 RELOAD -/
  kind : Nat
  reference : Nat
  /-- wall time of the start -/
  start : Nat
  /-- the source asked now, and those still to ask: peer 0-2, or 0xFF the servers -/
  src : Nat
  left : List Nat
  /-- the reload has been announced -/
  announced : Bool
  /-- bytes received, and the digest form so far (R288) -/
  got : Nat
  form : List Byte
  /-- offsets in the slice of the blocks written, with their sizes -/
  wrote : List (Nat × Nat)
  /-- granules entered after their blocks were written: the repair does not clear them (R304) -/
  late : List Nat
  /-- every block is in and its digest equals the reference: the read-back is awaited -/
  readback : Bool
  deriving DecidableEq, Repr

/-- A check failure whose rescan is awaited (R279). -/
structure Rescan where
  ch : Nat
  addr : Nat
  len : Nat
  /-- passing rescans so far -/
  passed : Nat
  deriving DecidableEq, Repr

/-- What the save area keeps (R308). -/
structure SaveArea where
  psn : List (Nat × PsnEnt)
  rng : List (Nat × RngEnt)
  slices : List (Nat × SliceEnt)
  suspect : Nat
  repairs : List Repair
  pcyc : Nat
  deriving DecidableEq, Repr

/-- A digest rotation (R293). -/
structure Rotation where
  /-- it runs, and is over R ticks late -/
  on : Bool
  late : Bool
  /-- R, V and B fixed at its start, ticks so far, allowance that no engine has taken up -/
  r : Nat
  v : Nat
  b : Nat
  ticks : Nat
  allow : Nat
  /-- slices still to be digested or skipped, in table order -/
  todo : List Nat
  /-- the slices that the SHA3-256 engines hold, at most four in table order, each with the bytes that its engine has absorbed (R293, R294) -/
  engs : List (Nat × Nat)
  /-- exchange configuration in force: mode, peers as (index, wafer, Door), server Door -/
  server : Bool
  peers : List (Nat × Nat × Nat)
  srvDoor : Option Nat
  /-- weight sets in force as (set, TLO, THI); their sums so far as (set, sum, count); slices that have been outside VALID (R454) -/
  sets : List (Nat × Nat × Nat)
  sums : List (Nat × Nat × Nat)
  outside : List Nat
  deriving DecidableEq, Repr

/-- A Cellar. -/
structure CelSt where
  /-- granule entries by position -/
  psn : List (Nat × PsnEnt)
  /-- range entries by position -/
  rng : List (Nat × RngEnt)
  /-- slice table by index -/
  slices : List (Nat × SliceEnt)
  rot : Rotation
  /-- third copies asked for: (slice, listed peer or 0xFF) -/
  third : List (Nat × Nat)
  queue : List Repair
  running : List Repair
  rescans : List Rescan
  /-- granules cleared by a repair: (channel, granule, operating time) (R305) -/
  fixed : List (Nat × Nat × Nat)
  /-- scrub: wall time at which the pass began, correctable errors of the pass by channel, channels reported in it -/
  passStart : Nat
  passCe : List Nat
  passTold : List Nat
  /-- granules to rewrite as (channel, granule, corrected bytes), and those a host write has overtaken: (channel, granule) (R278, R285) -/
  rewrite : List (Nat × Nat × List Byte)
  overtaken : List (Nat × Nat)
  /-- bytes absorbed by channel (R421) -/
  absorbed : List Nat
  /-- the save area as a reset leaves it (R308) -/
  saved : Option SaveArea
  /-- wall time since which a lower band has held (R307) -/
  lowSince : Nat
  /-- slice commands that run: (slice, 2 verify or 4 redigest) -/
  cmds : List (Nat × Nat)
  /-- CL_SREF_HOLD (R105) -/
  hold : Bool
  /-- rotation reports on their way to the Brewhouse, as (set, sum, count, outside), oldest first (R454) -/
  reports : List (List (Nat × Nat × Nat × Bool))
  /-- records ignored since the last 0x5060, and the source wafer of the last (R314) -/
  ignored : Nat
  deriving DecidableEq, Repr

/-- A reload open at a receiving Door (R297). -/
structure OpenReload where
  cellar : Nat
  slice : Nat
  length : Nat
  got : Nat
  deriving DecidableEq, Repr

end Sys2Proof
end

