-- ==== Sys2Proof/Parts/Common.lean ====
section
/-! DEFINITION. Events, unit states and what the block sends out: plain records used by every part of State (R13, R15, R26, R253, R426, R591). -/
namespace Sys2Proof

/-- A history entry (R255). -/
structure HistEntry where
  verdict : Nat
  source : Nat
  confirmed : Bool
  priv : Bool
  unrepeated : Bool
  erratic : Bool
  ctx : Nat
  posture : Nat
  optime : Nat
  pcyc : Nat
  seq : Nat
  deriving DecidableEq, Repr

/-- An event on its way to the recorder (R26, R426): code, source, the three parameters and the wall time at which it was raised. -/
structure Ev where
  code : Nat
  puid : Nat
  p5 : Nat
  p6 : Nat
  p7 : Nat
  wall : Nat
  /-- the history entry that the event's recording makes, with the unit it is made against (R255) -/
  hist : Option (Nat × HistEntry)
  /-- staged by the standby and carried over a takeover (R26, R426) -/
  carried : Bool
  /-- the standby holds its copy staged, until the active Brewhouse's staging confirms the record (R26) -/
  copy : Bool
  /-- the Hall of its region has its copy (R26) -/
  told : Bool
  deriving DecidableEq, Repr

/-- What a unit's page and history say of it, beyond bring-up (R253, R591). -/
structure UnitSt where
  /-- declared absent or disabled (R77, R519) -/
  absent : Bool
  /-- failed its self-test, or held in a reset of its scope -/
  off : Bool
  /-- under steep or self-test -/
  steep : Bool
  /-- fenced by a verdict, a steep, a conservation failure or a variant change -/
  fenced : Bool
  /-- history STATE PERMANENT (R253) -/
  perm : Bool
  /-- under scan (R577) -/
  scan : Bool
  /-- its link or region is Shuttered (R423, R488) -/
  shut : Bool
  deriving DecidableEq, Repr

/-- Data that a wrapper controller shifts in: none; words, lowest bit first; one bit throughout; an LFSR from a seed (R345). -/
inductive WrapData where
  | none
  | lit (words : List Nat)
  | fill (b : Bool)
  | lfsr (seed : Nat)
  deriving DecidableEq, Repr
/-- What a Tap drives on a core's IEEE 1500 wrapper for a number of cycles: of WRCK, which runs at half the region clock, while one of the
strobes is high; of the region while none is (R92, R345). -/
structure WrapOp where
  wrstn : Bool
  selectWIR : Bool
  captureWR : Bool
  shiftWR : Bool
  updateWR : Bool
  wpc : Nat
  cycles : Nat
  /-- the data goes in on WPI, 32 bits a cycle, rather than on WSI -/
  wide : Bool
  data : WrapData
  deriving DecidableEq, Repr

/-- What leaves the block at a port, oldest first: the model's own record of its outputs (assumption 4). -/
inductive Out where
  /-- a Stair packet sent on a hop (R36) -/
  | hop (f : Nat) (h : Hop) (head : BitVec 64) (payload : List (BitVec 64))
  /-- a Stair packet delivered to a local port (R28) -/
  | localPort (f port : Nat) (head : BitVec 64) (payload : List (BitVec 64))
  /-- the check result of a packet, returned to its sender (R37) -/
  | hopCheck (f : Nat) (h : Hop) (ok : Bool)
  /-- a block that a gate cell lets out (R106) -/
  | gate (g stream : Nat) (bytes : List Byte)
  /-- a block on DR_TXO, toward the link controller (R101) -/
  | doorTx (n stream : Nat) (bytes : List Byte)
  /-- a block on DR_RXO, with DR_RXO_BAD (R101) -/
  | doorRx (n stream : Nat) (bytes : List Byte) (bad : Bool)
  /-- a block on CL_RDO, with CL_RDO_BAD (R104) -/
  | cellarRd (s c : Nat) (bytes : List Byte) (bad : Bool)
  /-- a bulk transfer over the host mesh from one unit to another (R42, R43) -/
  | bulk (src dst : Nat) (bytes : List Byte)
  /-- a posted write to host memory (R121) -/
  | hostWrite (addr : Nat) (bytes : List Byte)
  /-- an MSI-X message (R121) -/
  | msi (vec : Nat)
  /-- an MCTP message body (R569) -/
  | mctp (body : List Byte)
  /-- a word that a window or Moldom read answers with -/
  | word (w : Word)
  /-- a request from one unit to another: code, source, destination, argument (Stair control, R33) -/
  | ask (code src dst arg : Nat)
  /-- what a Tap drives on its core's wrapper, in order (R92) -/
  | wrap (k p : Nat) (ops : List WrapOp)
  /-- a request at a cluster's replica read port: TS_RR_ADDR, TS_RR_LINES, TS_RR_PRI, TS_RR_TAG (R203) -/
  | rrRead (k addr lines : Nat) (pri : Bool) (tag : Nat)
  /-- a write of one 64-byte line at that port: TS_RR_ADDR, TS_RR_WDATA (R240) -/
  | rrWrite (k addr : Nat) (data : BitVec 512)
  /-- a cluster's repeat port: TS_RPT_REQ rises with its mode, core, CMDID and address, or is withdrawn (R241) -/
  | repeatReq (k mode core cmd addr : Nat)
  | repeatOff (k : Nat)
  /-- a low pulse of 10 ms on PWRCYC_REQ_N (R379) -/
  | powerPulse
  deriving DecidableEq, Repr

end Sys2Proof
end

