-- ==== Sys2Proof/Parts/Cuts.lean ====
section
/-! DEFINITION. State of cuts, global stop, conservation, attribution, trace and the Attic (chapter 10). -/
namespace Sys2Proof

/-- Kind of a cut (R394). -/
inductive CutKind where | count | stop | resume
  deriving DecidableEq, Repr

/-- A unit's side of the cuts (R395-R400). -/
structure CutUnit where
  /-- last cut whose marker it took, and last cut it saw completed, counted without wrapping -/
  taken : Nat
  shown : Nat
  /-- the bank being filled is flagged RESET or CLKSTOP, and the presented one -/
  fillReset : Bool
  fillClk : Bool
  showReset : Bool
  showClk : Bool
  /-- it was reset since its last marker -/
  wasReset : Bool
  /-- wall time and region cycle count at its marker -/
  wall : Nat
  cyc : Nat
  deriving DecidableEq, Repr

/-- A channel at its receiver (R396, R397): items received since the receiver's reset, mod 2^32; the cut in which its record was last closed, and whether it was closed
by time; the cut of its last record, and the items recorded in it: those after the receiver's own marker and before the channel's. -/
structure ChanRec where
  items : Nat
  closedAt : Nat
  flagged : Bool
  recCut : Nat
  recN : Nat
  deriving DecidableEq, Repr

/-- The cut in progress, at the active Brewhouse (R392, R398, R401). -/
structure CutRun where
  no : Nat
  kind : CutKind
  began : Nat
  took : Nat
  flagged : Nat
  failed : Nat
  /-- fields whose reports are in, each with the sums of its subtree (R394, R398) -/
  sums : List (Nat × Report)
  deriving DecidableEq, Repr

/-- The global stop (R403-R406): 0 none, 1 stopping, 2 complete, 3 resuming. -/
structure StopSt where
  phase : Nat
  since : Nat
  /-- ended by 1 request, 2 STOP_MAX_S -/
  cause : Nat
  /-- started by 1 register, 2 Moldom -/
  origin : Nat
  deriving DecidableEq, Repr

/-- A void account yet to be declared (R424): cause and place. -/
structure VoidNote where
  cause : Nat
  place : Nat
  declared : Bool
  deriving DecidableEq, Repr

/-- An attribution bin (R409). -/
structure BinSt where
  layerVal : Nat
  opVal : Nat
  layerMask : Nat
  opMask : Nat
  en : Bool
  deriving DecidableEq, Repr

/-- A counter of the Taster's bank (R410). -/
structure BankCfg where
  event : Nat
  bin : Nat
  deriving DecidableEq, Repr

/-- A trace record before it is written (R412, R413). -/
structure TraceRec where
  type : Nat
  flags : Nat
  core : Nat
  cyc : Nat
  wall : Nat
  step : Nat
  ctx : Nat
  layer : Nat
  op : Nat
  param : Nat
  deriving DecidableEq, Repr

/-- A trace segment and the buffer before it (R411-R419). -/
structure SegSt where
  next : Nat
  wrapped : Bool
  stopped : Bool
  lost : Bool
  wraps : Nat
  buffer : List TraceRec
  /-- records dropped since the last record of TYPE 0x60 -/
  dropped : Nat
  /-- records made in the current µs of wall time, and that µs (R415) -/
  rateUs : Nat
  rateCount : Nat
  /-- STRETCHED and CLKSTOP as the last complete beat interval showed (R417) -/
  stretched : Bool
  clkstop : Bool
  deriving DecidableEq, Repr

/-- An Attic record (R426), words 0 to 7 less the zero bits. -/
structure AttRec where
  code : Nat
  pcyc : Nat
  optime : Nat
  seq : Nat
  puid : Nat
  p5 : Nat
  p6 : Nat
  p7 : Nat
  deriving DecidableEq, Repr

/-- The Attic (R425-R431). -/
structure AtticSt where
  /-- records of the partitions, oldest first, and those staged after them -/
  flash : List AttRec
  staged : List AttRec
  full : Bool
  dropped : Nat
  nextSeq : Nat
  lastSeq : Nat
  /-- an erase is in progress, with what 0x9051 will report (R430) -/
  erasing : Option (Nat × Nat)
  /-- the operating-time counter N and the wall time of its last advance (R427) -/
  n : Nat
  nWall : Nat
  pcyc : Nat
  deriving DecidableEq, Repr

end Sys2Proof
end

