-- ==== Sys2Proof/Parts/Firmware.lean ====
section
/-! DEFINITION. State of the firmware processors, the boot directory and activations (R498-R536). -/
namespace Sys2Proof

/-- A firmware processor (R498, R539). -/
structure ProcSt where
  /-- 0 running, 1 loading, 2 switching, 3 halted, 4 absent -/
  state : Nat
  /-- slot run: 0 A, 1 B of the primary device, 2 A of the golden one -/
  slot : Nat
  /-- slot being loaded, and why it restarts: 1 activation, 2 watchdog, 3 request, 4 rollback -/
  next : Nat
  cause : Nat
  /-- wall times of watchdog restarts (R533) -/
  wdog : List Nat
  restarts : Nat
  deriving DecidableEq, Repr

/-- An activation, or a rollback of one (R528-R533). -/
structure ActRun where
  /-- slot it switches to -/
  slot : Nat
  /-- wall time of the start -/
  start : Nat
  /-- groups of processors still to restart, the current one first: a group's processors restart together (R530) -/
  groups : List (List Nat)
  /-- processors of the current group that have not finished -/
  going : List Nat
  /-- processors switched so far -/
  done : List Nat
  /-- the planned handover is made when this many groups are left (R530, R531) -/
  handAt : Option Nat
  /-- wall time since which it has been held; hold bits (R528) -/
  heldAt : Option Nat
  back : Bool
  deriving DecidableEq, Repr

/-- Firmware and boot (R501-R536). -/
structure FwSt where
  /-- the boot directory as read from flash (R503) -/
  boot : Nat
  trial : Bool
  tries : Nat
  valid : Nat
  hostboot : Nat
  /-- processors by index: 0-41 Halls, 64-66 of A, 72-74 of B (R539) -/
  procs : Tab ProcSt
  act : Option ActRun
  /-- the running bundle came from the golden device (R505) -/
  golden : Bool
  /-- FWVER, SVN, integrator key and Hall image of the running bundle -/
  ver : Nat
  intkey : Nat
  /-- Brewhouses held in reset: failed at bring-up, or by R533 -/
  outA : Bool
  outB : Bool
  /-- wall time of power-on or chip reset; the power cycle came with it (R518) -/
  bootAt : Nat
  /-- stage in progress (R511): 0 before bring-up -/
  stage : Nat
  /-- reports of stages 1 to 3, made at the end of stage 4 (R512) -/
  early : List Ev
  /-- boot loads that ended bad once, as 1,024·cluster + core; regions whose store failed once (R524) -/
  badLoads : List Nat
  badStores : List Nat
  /-- scans of image stores that firmware has asked for, the first running or next: the region, and the core whose load failed twice as
  1,024·cluster + core + 1, 0 after a write of the store (R153, R524) -/
  checks : List (Nat × Nat)
  /-- bring-up followed a power-on, not a chip reset (R518) -/
  cold : Bool
  /-- the host image block in use, FMT 0x3F, header and payload (R521) -/
  image : List Byte
  /-- wall time since which no watchdog restart has come while TRIAL stands (R534) -/
  quietAt : Nat
  /-- VERSION of the variant record that the saved maps belong to, plus 1; 0 none saved (R520) -/
  mapVer : Nat
  /-- calibration by sensor PUID: three pairs T, N; none for a broken one (R510) -/
  cal : Tab (List (Int × Nat))
  deriving DecidableEq, Repr

end Sys2Proof
end

