-- ==== Sys2Proof/Parts/Links.lean ====
section
/-! DEFINITION. State of gate cells, Doors, alive streams, stream windows and scan engines (chapters 02, 03). -/
namespace Sys2Proof

/-- A block waiting in a gate cell, in order of arrival (R106, R107). -/
structure HeldBlock where
  stream : Nat
  ctx : Nat
  step : Nat
  priv : Bool
  bytes : List Byte
  /-- wall time of arrival -/
  arrived : Nat
  /-- it may leave when its stream's turn comes -/
  ready : Bool
  /-- it is a withheld notice that the cell made (R108) -/
  notice : Bool
  /-- it arrived after the step's repeats had been asked for: a re-executed block (R106, R603; assumption 21) -/
  redo : Bool
  deriving DecidableEq, Repr

/-- What a gate cell keeps for a (CTX, STEP) (R106, R227). -/
structure GateMark where
  ctx : Nat
  step : Nat
  /-- the verdict, once it has arrived -/
  verdict : Option GateVerdict
  /-- its notice has been made (R106) -/
  noticed : Bool
  /-- repeats of the step's gated commands have been asked for (R603; assumption 21) -/
  redo : Bool
  deriving DecidableEq, Repr

/-- A gate cell (R106-R108). -/
structure GateSt where
  /-- blocks inside the 64 KiB of hold space, oldest first -/
  held : List HeldBlock
  /-- blocks waiting at the lowered input, oldest first (R107) -/
  outside : List HeldBlock
  marks : List GateMark
  /-- PRIV blocks counted while the Hatch is disabled (R107) -/
  passedPriv : Nat
  /-- its account failed an audit: every PRIV block is withheld with reason 7 (R423) -/
  audited : Bool
  deriving DecidableEq, Repr

/-- Alive state of a stream or window (R144-R146). -/
structure StreamSt where
  sync : Bool
  /-- receive: E; transmit: the next ALIVE to stamp -/
  e : Nat
  /-- resynchronise at the next SOP (R146) -/
  resync : Bool
  deriving DecidableEq, Repr

/-- A stream window of a Cellar (R147). -/
structure WinSt where
  en : Bool
  chan : Nat
  base : Nat
  gran : Nat
  /-- base [31:0] and size held until the next write of CKU_WIN_BASE_HI -/
  heldBase : Nat
  heldGran : Nat
  deriving DecidableEq, Repr

/-- A memory scan engine (R148-R154). -/
structure ScanSt where
  busy : Bool
  /-- an ABORT was written and takes effect at the next line (R153) -/
  abort : Bool
  space : Nat
  start : Nat
  len : Nat
  cmp : Bool
  exp : Nat
  /-- the profile sampled at GO -/
  w : Nat
  poly : Nat
  init : Nat
  refin : Bool
  refout : Bool
  xorout : Nat
  /-- bytes fed, and the register of the check-value unit -/
  fed : Nat
  crc : Nat
  /-- origin: 0 register window, 1 firmware -/
  origin : Nat
  deriving DecidableEq, Repr

/-- A Door (R101, R336, R423). -/
structure DoorSt where
  /-- DR_LANE_UP -/
  lanes : Nat
  /-- lanes held down after a failed loop-back (R336) -/
  heldLanes : Nat
  /-- DR_LB_MODE per lane (R101); 3: out of loop-back, and its return awaited (R336) -/
  lb : List Nat
  /-- the link is Shuttered until the next chip reset (R423) -/
  shut : Bool
  /-- retired blocks, bytes and last context since the last report (R384) -/
  retBlocks : Nat
  retBytes : Nat
  retLast : Nat
  deriving DecidableEq, Repr

end Sys2Proof
end

