-- ==== Sys2Proof/Parts/Mailbox.lean ====
section
/-! DEFINITION. State of the mailboxes, the completion ring, two-key changes, management and debug (chapter 14). -/
namespace Sys2Proof

/-- A completion record before it is written (R552). -/
structure Cpl where
  ctype : Nat
  status : Nat
  mseq : Nat
  slot : Nat
  ctx : Nat
  wall : Nat
  more : Bool
  held : Bool
  body : List Byte
  deriving DecidableEq, Repr

/-- A message as taken from a slot, or from the fleet with slot 0xFE (R544, R571). -/
structure Msg where
  slot : Nat
  major : Nat
  minor : Nat
  type : Nat
  seq : Nat
  len : Nat
  flags : Nat
  ctx : Nat
  /-- reserved header bits: bytes 14-15 and CTX [15:12] -/
  rsv : Nat
  payload : List Byte
  deriving DecidableEq, Repr

/-- The mailbox and ring side of the active Brewhouse (R544-R560). -/
structure MbxSt where
  /-- VER_MAJ in force: of the last HELLO, or Onasen's own (R547) -/
  major : Nat
  /-- slot contents as 32-bit words, by 64·slot + word -/
  slots : List (Nat × Nat)
  /-- SEQ last taken, by slot -/
  acks : List (Nat × Nat)
  /-- messages taken and not yet carried out, oldest first -/
  inbox : List Msg
  /-- records to be written, oldest first, and those held through an absence -/
  out : List Cpl
  kept : List Cpl
  /-- records dropped since room ran out, for OVERFLOW -/
  lost : Nat
  /-- completions written since the last HELLO -/
  note : Nat
  /-- MSI-X: wall time each entry was last sent, and whether a record waits for its holdoff -/
  msiAt : List Nat
  msiDue : List Bool
  msiSent : List Bool
  /-- wall times of the last heartbeat change and of the start of the absence -/
  hbAt : Nat
  absentAt : Nat
  /-- records dropped in the absence -/
  absDrop : Nat
  /-- messages accepted whose work goes on: 1 bundle, 2 host image, 3 grist, 4 activation, 100 + i restart of processor i -/
  work : List (Nat × Msg)
  deriving DecidableEq, Repr

/-- A staged two-key proposal (R562, R565). -/
structure Proposal where
  cls : Nat
  payload : List Byte
  nonce : Nat
  /-- 1 host, 2 fleet -/
  origin : Nat
  staged : Nat
  host : Bool
  fleet : Bool
  /-- its window has ended while an endorsement taken within it was under verification -/
  due : Bool
  /-- the verified record of a variant change of kind 1 or 2 (R526) -/
  record : List Byte
  deriving DecidableEq, Repr

/-- An endorsement under verification (R564). -/
structure Endorsement where
  cls : Nat
  nonce : Nat
  /-- 1 host, 2 fleet -/
  role : Nat
  sig : List Byte
  msg : Msg
  taken : Nat
  deriving DecidableEq, Repr

/-- Two-key state (R561-R566). -/
structure TwkSt where
  proposals : List Proposal
  verifying : List Endorsement
  /-- both endorsements are in and the commit waits for its mirror; whether the mirror under way carries it -/
  committing : List (Bool × Proposal)
  deriving DecidableEq, Repr

/-- A management report waiting for collection (R569). -/
structure Rpt where
  kind : Nat
  sev : Nat
  record : List Nat
  extra : List Byte
  deriving DecidableEq, Repr

/-- Management (R567-R571). -/
structure MgtSt where
  addr : Option Nat
  eid : Option Nat
  queue : List Rpt
  /-- reports sent since boot -/
  rnum : Nat
  /-- tokens by class, and the wall time they were last filled -/
  tokens : List Nat
  filled : Nat
  /-- per class: events suppressed, first code, last code -/
  supp : List (Nat × Nat × Nat)
  /-- a fleet message is unanswered -/
  fleet : Bool
  discarded : Nat
  lastStatus : Nat
  deriving DecidableEq, Repr

/-- Debug (R573-R578). -/
structure DbgSt where
  /-- wall time at which the unlock ends -/
  until_ : Option Nat
  /-- wall time at which the unlock began -/
  from_ : Nat
  /-- halted processors with their cause: 1 command, 2 step, 3 breakpoint, 4 watchpoint -/
  halted : List (Nat × Nat)
  /-- breakpoints as (processor, index, address), watchpoints as (processor, index, kind, address) -/
  breaks : List (Nat × Nat × Nat)
  watches : List (Nat × Nat × Nat × Nat)
  /-- halted pipeline stages as (Taster, stage) -/
  pipes : List (Nat × Nat)
  /-- units whose scan is enabled, as PUIDs -/
  scan : List Nat
  /-- last response: opcode, tag, status, address, data -/
  resp : Nat × Nat × Nat × Nat × Nat
  /-- a STOP or RESUME runs: its opcode, and whether BUSY -/
  busy : Bool
  /-- instruction register of the TAP -/
  ir : Nat
  deriving DecidableEq, Repr

end Sys2Proof
end

