-- ==== Sys2Proof/Parts/Steeps.lean ====
section
/-! DEFINITION. State of steeps, grist packages and downloads (chapter 08, R557). -/
namespace Sys2Proof

/-- What the steep plan and queues keep for a unit (R316-R329, R350). -/
structure StpUnit where
  /-- wall time at which it fell due, and has not been steeped since (R318) -/
  due : Option Nat
  /-- wall time of the last deferral, 0 when none: it stands at the end of its class and is eligible 1 ms later (R319) -/
  deferred : Nat
  /-- it is steeped as a FENCED entry (R253, R361), or is first of all in its queue (R340) -/
  first : Bool
  head : Bool
  /-- slices passed toward the current steep, and the version they were passed under (R324); of a core its own alone -/
  passed : Nat
  ver : Nat
  /-- of a core: its Tap's slices passed toward the current steep, and the image that they were passed under; its Tap has failed in it (R324) -/
  tapPassed : Nat
  tapVer : Nat
  tapBad : Bool
  /-- of a core: the logical core that a forced steep, ended by an abort, still owes it (R320, R329) -/
  back : Option Nat
  overdue : Bool
  forced : Bool
  /-- wall time of the last completed steep, of its Tap's, and operating time of the last completed steep (R324) -/
  lastWall : Nat
  lastTap : Nat
  lastOp : Nat
  deriving DecidableEq, Repr

/-- A slice of a grist package (R344): region cycles, response bits before masking, expected signature, mode, instruction stream and mask data. -/
structure GristSlice where
  cycles : Nat
  rbits : Nat
  expect : Nat
  mode : Nat
  words : List Nat
  mask : List Byte
  deriving DecidableEq, Repr
/-- What a steep takes from the active package (R343, R344): its slices, its slice budget, the WPC codes of at-speed capture by kiln band. -/
structure GristPlan where
  slices : List GristSlice
  us : Nat
  margins : List Nat
  deriving DecidableEq, Repr

/-- A steep that runs (R323, R325). -/
structure StpRun where
  /-- the unit, as a PUID -/
  unit : Nat
  /-- 1 fence raised, waits for the boundary and the swap; 3 secrets being cleared; 4 slices; 5 final clear -/
  phase : Nat
  /-- slice running, from 1, and all of them; slices of the Tap placed first -/
  slice : Nat
  total : Nat
  tapN : Nat
  repeated : Bool
  tapFail : Bool
  /-- of a Cellar's slice: its PHY loop-back is over (R333) -/
  looped : Bool
  /-- what the package that it started under gives (R340), and the WPC code of the slice that runs (R322) -/
  pkg : GristPlan
  margin : Nat
  ver : Nat
  /-- the firmware image of its built-in slices (R324, R342) -/
  img : Nat
  /-- logical core of a forced steep in place (R329) -/
  forced : Option Nat
  deriving DecidableEq, Repr

/-- The steep plan of a core rotation (R318). -/
structure StpPlan where
  start : Nat
  coreH : Nat
  unitH : Nat
  rot : Nat
  /-- wall time at the end of bring-up (R316) -/
  ready : Nat
  deriving DecidableEq, Repr

/-- Grist stores: regions whose store holds the active package, and the committed one (R348, R349). -/
structure GristSt where
  active : List Nat
  committed : List Nat
  deriving DecidableEq, Repr

end Sys2Proof
end

