-- ==== Sys2Proof/Parts/Pair.lean ====
section
/-! DEFINITION. State of the Brewhouse pair: reigns, mirrors, heartbeats and the FAILSAFE_N hold (chapter 01, R57-R72). -/
namespace Sys2Proof

/-- One Brewhouse of the pair. -/
structure BrewSt where
  /-- its own reign, and the highest it has seen another carry (R63) -/
  reign : Nat
  seen : Nat
  /-- it holds a complete mirror, or is active (R63) -/
  mirrored : Bool
  /-- wall time of the last heartbeat received on any path (R61) -/
  lastHb : Nat
  /-- heartbeat received on each path since the last one sent: column, relay, mesh; none before the first is sent under its reign (R60, BRW_HB_MISS) -/
  got : Option (List Bool)
  /-- Halls that have answered "no contact" in the poll in progress (R61) -/
  poll : Option (List Nat)
  deriving DecidableEq, Repr

/-- The state that a mirror carries (R57). -/
structure Mirror where
  /-- cut epoch that it was sent in -/
  epoch : Nat
  /-- policy, postures and overrides, committed RW2K values and the Hatch configuration, by register key -/
  regs : Tab Nat
  /-- staged proposals with their nonces -/
  twk : TwkSt
  /-- schedule position of steeps; digest ticks sent and whether one has passed since -/
  plan : StpPlan
  digTicks : Nat
  /-- schedule position of scrubs: wall time at which each Cellar's pass began, by Cellar (R278) -/
  scrubs : List (Nat × Nat)
  /-- the defect map, as PUIDs -/
  defects : List Nat
  /-- mailbox sequence state: SEQ last taken, by slot -/
  acks : List (Nat × Nat)
  deriving DecidableEq, Repr

/-- A host access to the register window (R66). -/
inductive HostAcc where
  /-- a read, and a write with its word, at a window offset -/
  | read (offset : Nat)
  | write (offset : Nat) (w : Word)
  /-- an access to a page that does not answer, and one with byte enables (R120, R594) -/
  | unreached (offset : Nat) (write : Bool)
  | part (offset be : Nat)
  deriving DecidableEq, Repr

/-- The pair. -/
structure PairSt where
  a : BrewSt
  b : BrewSt
  /-- wall time of the last refresh of the FAILSAFE_N hold, and whether the pin is asserted (R72) -/
  refreshed : Nat
  failsafe : Bool
  /-- a mirror has been sent and awaits the standby's acknowledgement, with the cut epoch that it carries; it was asked for by these Halls (R57-R59) -/
  mirrorSent : Option Nat
  mirrorAsked : List Nat
  /-- the standby's copy: the state that the last completed mirror carried; none before the first (R57) -/
  mirror : Option Mirror
  /-- host accesses held while the standby polls, oldest first (R66) -/
  waiting : List HostAcc
  deriving DecidableEq, Repr

end Sys2Proof
end

