-- ==== Sys2Proof/Parts/Provenance.lean ====
section
/-! DEFINITION. State of seeds, provenance, weight sets, paired runs, record and replay (chapter 11). -/
namespace Sys2Proof

/-- A step record that waits to be hashed (R457, R458). -/
structure StepRec where
  ctx : Nat
  step : Nat
  /-- the sampler's entry -/
  index : Nat
  value : Nat
  /-- 0 PASS, 1 FAIL with a passing repeat, 2 WITHHOLD -/
  verdict : Nat
  /-- map digest in force at the verdict -/
  mapDig : Nat
  deriving DecidableEq, Repr

/-- A Cellar's latest rotation report of a weight set (R454, R455). -/
structure WsRep where
  set : Nat
  stack : Nat
  sum : Nat
  count : Nat
  missing : Bool
  /-- it came since the set's last close -/
  fresh : Bool
  deriving DecidableEq, Repr

/-- An entry of the record log (R468). -/
structure RecEnt where
  kind : Nat
  eflags : Nat
  ctx : Nat
  step : Nat
  wall : Nat
  seq : Nat
  digest : Nat
  payload : List Byte
  deriving DecidableEq, Repr

/-- A replay of the log (R470, R471). -/
structure ReplayRun where
  /-- recorded context to replaying context -/
  map : List (Nat × Nat)
  /-- next entry, entries delivered, mismatches -/
  pos : Nat
  delivered : Nat
  bad : Nat
  /-- entries already compared, by SEQ -/
  used : List Nat
  /-- a provenance digest has differed -/
  provBad : Bool
  deriving DecidableEq, Repr

/-- A SET of a seed under decision (R449). -/
structure SeedSet where
  ctx : Nat
  seed : Nat
  left : List Nat
  refused : Bool
  /-- the mailbox message that asked, where one did -/
  msg : Option Msg
  deriving DecidableEq, Repr

/-- Seeds, provenance, record and replay, at the active Brewhouse. -/
structure PrvSt where
  mapDig : Nat
  /-- chained input digests by context (R457) -/
  ind : Tab Nat
  /-- chain values by context (R457) -/
  chain : Tab Nat
  queue : List StepRec
  reports : List WsRep
  /-- epochs already reported MISSING, as (set, epoch) (R459) -/
  told : List (Nat × Nat)
  log : List RecEnt
  replay : Option ReplayRun
  /-- SETs under decision, oldest first -/
  setting : List SeedSet
  /-- (region, context) of seed loads served, and (cluster, context) of loads held (R449) -/
  served : List (Nat × Nat)
  heldLoads : List (Nat × Nat)
  /-- last declared input of a context: (context, SEQ of its entry plus 1 or 0 where none keeps it, length, bytes received) (R550) -/
  input : List (Nat × Nat × Nat × Nat)
  deriving DecidableEq, Repr

/-- A step of the paired context as a Taster keeps it (R462-R465). -/
structure PairStep where
  step : Nat
  dig : Nat
  partial_ : Bool
  values : List Nat
  /-- the partner's record and values, as they come -/
  peer : Option (Nat × Bool)
  peerVals : List Nat
  peerDone : Bool
  /-- 0 waits for the partner, 1 settled, 2 diverged and values sent, 4 its own digest is not formed yet -/
  state : Nat
  closedAt : Nat
  deriving DecidableEq, Repr

/-- Pair mode at a Taster (R460-R466). -/
structure PairTst where
  /-- the step in progress, and its values so far -/
  cur : Option Nat
  values : List Nat
  partial_ : Bool
  /-- sums of pair reports by command: (CMDID, Σρ(O), Σρ(S), units) -/
  sums : List (Nat × Nat × Nat × Nat)
  lastCmd : Nat
  /-- the last 64 steps, newest first -/
  steps : List PairStep
  deriving DecidableEq, Repr

end Sys2Proof
end

