-- ==== Sys2Proof/Parts/Held.lean ====
section
/-! DEFINITION. What commands and cases hold as data: descriptors, operand records, unit captures, held inputs (R198, R212, R215, R217, R238, R239). -/
namespace Sys2Proof

/-- A reduction-tree descriptor (R212); levels in order from level 1. -/
structure TreeDesc where
  mvdepth : Nat
  rmode : List Nat
  fanin : List Nat
  leaves : Nat
  leaflen : Nat
  leafrm : Nat
  outrm : Nat
  outfmt : Nat
  accfmt : Nat
  levels : Nat
  order : Nat
  outconv : Bool
  isLocal : Bool
  deriving DecidableEq, Repr

/-- A special-function descriptor (R215, R217). -/
structure SfDesc where
  kind : Nat
  pre : Bool
  daz : Bool
  postmul : Bool
  infmt : Nat
  outfmt : Nat
  outrm : Nat
  nrnd : Nat
  redkind : Nat
  deg : Nat
  /-- SEGS, or SELK -/
  segs : Nat
  segshift : Int
  /-- LOMODE, or DIR -/
  lomode : Nat
  himode : Nat
  /-- PRESCALE, or INVTEMP -/
  prescale : Nat
  /-- U0, or PCUT -/
  u0 : Nat
  /-- LOVAL, or EXPFN -/
  loval : Nat
  hival : Nat
  infpos : Nat
  infneg : Nat
  zpos : Nat
  zneg : Nat
  nmin : Int
  nmax : Int
  coef : List Nat
  deriving DecidableEq, Repr

/-- An operand record (R198). -/
structure Opr where
  cmd : Nat
  gated : Bool
  wt : Bool
  ebase : Nat
  ecount : Nat
  kred : Nat
  xdiv : Nat
  xaddr : Nat
  xstride : Nat
  waddr : Nat
  wstride : Nat
  yaddr : Nat
  ystride : Nat
  gregion : Nat
  deriving DecidableEq, Repr

/-- What a unit computes: a dot product, a function of one, a function of an element, a selection, a sampler with its exponential and its draw (R193). -/
inductive Job where
  | dot (t : TreeDesc)
  | fused (t : TreeDesc) (f : SfDesc)
  | elem (f : SfDesc)
  | sel (f : SfDesc)
  | samp (f expfn : SfDesc) (draw : Nat)
  deriving DecidableEq, Repr

/-- A product as a unit capture and a repeat record hold it (R238, R244): lane, element codes, format codes, cycle offset, accumulator, scales. -/
structure CapProd where
  lane : Nat
  a : Nat
  x : Nat
  fmtA : Nat
  fmtX : Nat
  off : Nat
  acc : Nat
  sa : Nat
  sx : Nat
  deriving DecidableEq, Repr

/-- What a Tap captures with the first alarm of RKIND 1-4 of an invocation (R238). -/
inductive Capture where
  | none
  /-- an accumulation: its products, whether they are all of them, accumulator index and scales, TP_ACC and TP_ACC_EXP -/
  | acc (prods : List CapProd) (whole : Bool) (idx sa sx : Nat) (val exp : Int)
  /-- a presentation: its port, every field of R84, and the matched product of KIND 2 -/
  | pres (port : Nat) (pres : DscPres) (prod : Option CapProd)
  deriving DecidableEq, Repr

/-- The held inputs of a case (R238, R239): an accumulation, a presentation with the rounding mode of its reference (R604), or a replica unit with
what it has read, by 16-byte granule of the view address. -/
inductive Held where
  | none
  | acc (prods : List CapProd) (idx sa sx : Nat)
  | step (port : Nat) (pres : DscPres) (prod : Option CapProd) (mode : Nat)
  | unit (job : Job) (opr : Opr) (e : Nat) (got : List (Nat × Nat))
  deriving DecidableEq, Repr

end Sys2Proof
end

