-- ==== Sys2Proof/Parts/Recover.lean ====
section
/-! DEFINITION. State of adjudication, history, contexts, hangs and resets (chapters 06, 09). -/
namespace Sys2Proof

/-- A command descriptor as TS_DESC presents it (R94), with the operand record words that came with it (R198). -/
structure Desc where
  cmd : Nat
  sfn : Nat
  tree : Nat
  priv : Bool
  mayvary : Bool
  tclass : Nat
  step : Nat
  op : Nat
  layer : Nat
  ctx : Nat
  /-- the 48-byte operand record, where one came (R198, R199) -/
  opr : Option Nat
  /-- attribution bin, 64 when unbinned (R409) -/
  bin : Nat
  /-- LIMIT delivered with it (R355) -/
  limit : Nat
  deriving DecidableEq, Repr

/-- What a case adjudicates (R236). -/
inductive CaseKind where
  /-- a Tap alarm, with its RKIND 1-5 -/
  | residue (rkind : Nat)
  | atomic
  | replica
  | mayvary
  deriving DecidableEq, Repr

/-- A result of a case: not yet in, declared absent, or a value (R250). -/
inductive Got where
  | waiting
  | absent
  | val (v : CaseVal)
  deriving DecidableEq, Repr

/-- An adjudication case (R236-R252). -/
structure Case where
  /-- number of the case in its Taster, never reused -/
  no : Nat
  /-- its cluster, another than the Taster's own while it adopts -/
  cluster : Nat
  core : Nat
  cmd : Nat
  kind : CaseKind
  priv : Bool
  gated : Bool
  ctx : Nat
  step : Nat
  layer : Nat
  op : Nat
  /-- the reference's value where the alarm carries one, and the core's original value (R236) -/
  r0 : Nat
  c1 : Got
  c2 : Got
  t1 : Got
  t2 : Got
  /-- its held inputs (R238, R239); those of a unit that is being re-read come with the re-read -/
  held : Held
  /-- bound about Sx for a MAYVARY case (R223), format of its values, and the share of the spacing added: 0 none, 1 half, 2 whole (R224) -/
  bound : Dy
  fmt : Nat
  gmode : Nat
  /-- a neighbour's result on its way -/
  t2p : Option CaseVal
  /-- mismatch of the repeat (R243) -/
  tm : Bool
  /-- resolved by steep (R248) -/
  closure : Bool
  /-- neighbour asked, and how many candidates have been asked (R246, R247) -/
  asked : Option Nat
  tries : Nat
  /-- Tasters asked before whose results stand or never came (R247, R251) -/
  used : List Nat
  /-- repeat: 0 none asked, 1 asked, 2 started, 3 done or withdrawn; its mode; TS_RPT_NCORE -/
  rpt : Nat
  mode : Nat
  ncore : Nat
  /-- row 2 has been taken and the adopter completes the case (R251) -/
  second : Bool
  deriving DecidableEq, Repr

/-- A verdict on its way to a Hall (R253). -/
structure Verdict where
  /-- code of R250 -/
  code : Nat
  cluster : Nat
  core : Nat
  cmd : Nat
  /-- the unit it is recorded against -/
  puid : Nat
  source : Nat
  priv : Bool
  gated : Bool
  unrepeated : Bool
  erratic : Bool
  ctx : Nat
  step : Nat
  layer : Nat
  op : Nat
  /-- word 7 of the event where it is not LAYER and OP, or the reason of INCONCLUSIVE -/
  extra : Nat
  deriving DecidableEq, Repr

/-- A physical core as its Tap and Taster drive it (R86-R91, R259, R318, R355). -/
structure CoreSt where
  fence : Bool
  stopped : Bool
  /-- TP_CORE_RST_N is low -/
  rst : Bool
  wrapEn : Bool
  /-- a secret clear has succeeded since the core last ran a command (R91) -/
  cleared : Bool
  /-- command in progress (R86) -/
  cmd : Option Nat
  /-- region cycle at which it started, and the count of cycles during stops (R355) -/
  startCyc : Nat
  /-- the command has expired (R356) -/
  expired : Bool
  /-- lent to a steep, or swapped out for one (R260) -/
  lent : Bool
  /-- logical identity last held, for a fenced or swapped core -/
  logical : Option Nat
  deriving DecidableEq, Repr

/-- A migration of a core's state to a spare (R259). -/
structure Migration where
  src : Nat
  dst : Nat
  logical : Nat
  /-- for a steep, not a fence -/
  steep : Bool
  /-- state copied, in this many region cycles -/
  copied : Option Nat
  deriving DecidableEq, Repr

/-- The replay set of a cluster (R367-R370). -/
structure ReplaySet where
  /-- core that expired first; 1024 where the set comes from a reset -/
  core : Nat
  firstCtx : Nat
  step : Nat
  suspects : List Nat
  cleared : List Nat
  /-- killed because they hung again (R369) -/
  guilty : List Nat
  /-- killed unreplayed -/
  unreplayed : List Nat
  /-- the host has been told of the hang -/
  noticed : Bool
  /-- command that expired first -/
  cmd : Nat
  /-- suspect under replay, and the wall time at which it was asked for; started -/
  cur : Option Nat
  askedAt : Nat
  started : Bool
  deriving DecidableEq, Repr

/-- The Taster's ports into its cluster (R98, R241, R259, R362, R384). -/
structure TstPorts where
  hold : Bool
  allow : Nat
  /-- contexts whose kill the distributor has been asked for and has not confirmed -/
  killing : List Nat
  drain : Option Nat
  absorb : Bool
  clRst : Bool
  /-- core table as it was last written in full: the cores left out; none while no entry is valid (R100) -/
  base : Option (List Nat)
  /-- entries written since, as physical core plus 1024 when valid; and those in the shadow bank -/
  coreLive : Tab Nat
  coreShadow : List (Nat × Nat)
  /-- the shadow bank was written in full, leaving these cores out -/
  fullShadow : Option (List Nat)
  commit : Bool
  mig : Option Migration
  deriving DecidableEq, Repr

/-- What a repeat is made for: a case, a gated command (R603), or a steering command whose check was incomplete (R231). -/
inductive RptFor where
  | case (no : Nat)
  | gated (cmd : Nat)
  | steering (cmd : Nat)
  deriving DecidableEq, Repr

/-- A request for a repeat (R241): the cluster whose repeat port serves it and what it drives there: TS_RPT_MODE, CORE, CMDID, ADDR; it waits, stands at
the port, or has started. -/
structure RptReq where
  cluster : Nat
  what : RptFor
  mode : Nat
  core : Nat
  cmd : Nat
  addr : Nat
  /-- 0 waiting, 1 TS_RPT_REQ is driven, 2 TS_RPT_ACK has come -/
  stage : Nat
  deriving DecidableEq, Repr

/-- The adjudicating side of a Taster (R22, R237, R246, R264). -/
structure AdjSt where
  cases : List Case
  /-- next case number -/
  next : Nat
  /-- the Taster that checks this cluster, when another one does (R264) -/
  adopter : Option Nat
  /-- the cluster adopted by this Taster -/
  adopted : Option Nat
  /-- sampled at the nonlinear rate until every core has passed a steep (R253 UNLOCATED) -/
  unlocated : List Nat
  /-- requalification in progress under Remap: cores still to pass (R263) -/
  requal : List Nat
  requalOk : Bool
  requalOn : Bool
  /-- cores that it began with -/
  requalN : Nat
  /-- FREE choices and deferred verdicts: verdicts held while the Hall restarts (R270) -/
  heldVerdicts : List Verdict
  /-- requests for repeats, oldest first (R241) -/
  rq : List RptReq
  /-- its collector has failed its steep: the Taps of the cluster are untrusted (R265) -/
  collector : Bool
  deriving DecidableEq, Repr

/-- A context (R254, R268, R371, R383, R385). -/
structure CtxSt where
  /-- 0 free, 1 in use, 2 retired (BRW_RET_Q.STATE) -/
  state : Nat
  killed : Bool
  /-- at gate cells: 0 pass; 1 discard; 2 discard with a notice; 3 withhold PRIV blocks -/
  gate : Nat
  gateReason : Nat
  /-- tainted from this step (R254) -/
  taint : Option Nat
  /-- steps whose PRIV blocks were released, oldest first (R254) -/
  released : List Nat
  /-- cut number at the retirement, and number of the last cut in whose epoch a block of it was discarded (R385) -/
  retCut : Nat
  seenCut : Nat
  /-- a draw has been made (R449) -/
  drawn : Bool
  deriving DecidableEq, Repr

/-- A unit's history table (R255). -/
structure HistTable where
  /-- the table has been made -/
  made : Bool
  state : Nat
  stateTime : Nat
  /-- entries in use, newest first, at most 16 -/
  entries : List HistEntry
  total : Nat
  /-- slot of the next entry -/
  next : Nat
  deriving DecidableEq, Repr

/-- A reset in progress (R360-R377). -/
structure Reset where
  /-- 1 core, 2 engine, 3 partition, 4 chip -/
  level : Nat
  /-- core: 1024*cluster + core; engine: cluster; partition: region -/
  at_ : Nat
  /-- step of its table in progress -/
  step : Nat
  /-- cause as its event names it -/
  cause : Nat
  /-- wall time of the start -/
  start : Nat
  suspects : List Nat
  /-- units that failed their self-test -/
  failed : Nat
  deriving DecidableEq, Repr

/-- An action in a Hall's log (R59). -/
structure LogEnt where
  action : Nat
  arg : Nat
  /-- a request to the Brewhouse still unanswered -/
  request : Bool
  deriving DecidableEq, Repr

/-- A region's Hall: contact, reset, power (R59, R65, R112, R119, R359, R374, R381). -/
structure HallSt where
  /-- heard no Brewhouse for 3 ms (R65) -/
  noContact : Bool
  /-- wall time of the last contact with the active Brewhouse -/
  lastHeard : Nat
  log : List LogEnt
  lost : Bool
  /-- wall time of the loss, and whether an over-current was part of it -/
  lostAt : Nat
  lostOc : Bool
  /-- operating times of earlier losses (R382) -/
  losses : List Nat
  /-- recognised and latched flags, and the pin (R112) -/
  pgLoss : Bool
  oc : Bool
  pg : Bool
  /-- HL_ISO_N and HL_ABSORB_N driven low, per neighbour (R110, R364) -/
  iso : List Bool
  /-- wall time at which each was driven low last (R114) -/
  isoAt : List Nat
  absorb : List Bool
  /-- wall times of completed partition resets (R361) -/
  resets : List Nat
  /-- left SHUTTERED by the third reset (R361) -/
  shutReset : Bool
  /-- Shuttered by a limit (R488) -/
  shut : Bool
  /-- region cycle count and the wall time at which it last advanced (R359) -/
  cyc : Nat
  cycAt : Nat
  /-- count at the last beat before that (R417) -/
  cycPrev : Nat
  /-- its processor restarts (R270, R533) -/
  procHeld : Bool
  /-- wall time at which the last reset of the region completed, bring-up's among them (R114) -/
  resetAt : Option Nat
  /-- region cycles counted over the last 100 µs, as last told to a steep engine (R321) -/
  clk : Option Nat
  /-- input cells of its pins set aside: 0 its own region's, 1 to 4 those of its neighbours in the order of HL_ISO_N, 5 and 6 those of the pads' regions (R112, R337) -/
  cellsOut : List Nat
  deriving DecidableEq, Repr

end Sys2Proof
end

