-- ==== Sys2Proof/Parts/Replica.lean ====
section
/-! DEFINITION. State of the replica: descriptor store, sampled units, step checks (chapter 05). -/
namespace Sys2Proof

/-- A slot of a descriptor store: 0 free, 1 valid, 2 invalidated and not yet free (R210, R211). -/
structure DescSlot where
  state : Nat
  bytes : List Byte
  deriving DecidableEq, Repr

/-- Classes of R193. -/
inductive RplClass where
  | residueOnly | dot | fused | nonlinear | selection | sampler | invalid | unchecked
  deriving DecidableEq, Repr

/-- What a unit is there for: a command's output or row; one entered only after its command was found incomplete (R231); a rank's slice of a gated
selection's row (R226); the re-read of a case's unit (R239). -/
inductive UnitRole where
  | whole
  | late
  | slice (lo hi : Nat)
  | reread (no : Nat)
  deriving DecidableEq, Repr

/-- A unit of replica work (R195, R205, R226), at the read port of the cluster that lists it. -/
structure RplUnit where
  /-- cluster of its command, and the command -/
  home : Nat
  cmd : Nat
  /-- output element or row e of the command -/
  e : Nat
  priv : Bool
  cls : RplClass
  role : UnitRole
  /-- cluster of the Taster that compares it, once its value is there (R226) -/
  cmp : Option Nat
  /-- 16-byte granules read so far, by view address / 16 -/
  got : Tab Nat
  /-- outstanding request: tag and 16-byte aligned view address -/
  req : Option (Nat × Nat)
  /-- waiting for the context's seed (R450) -/
  seedWait : Bool
  /-- 0 reading, 1 everything read, 2 compared, stopped or abandoned -/
  stage : Nat
  deriving DecidableEq, Repr

/-- A command whose units the Taster samples (R195, R199). -/
structure RplCmd where
  cmd : Nat
  /-- cores running it, and whether one has started and all have ended -/
  running : Nat
  started : Bool
  ended : Bool
  endWall : Nat
  /-- class of R193; unchecked under R27 or R95 -/
  cls : RplClass
  /-- it is PRIV, and its outputs wait for a verdict of its step (R225, R226) -/
  priv : Bool
  gated : Bool
  /-- a check of it has failed; a unit was stopped or abandoned; a summary was incomplete (R227, R231) -/
  fail : Bool
  stopped : Bool
  incomplete : Bool
  /-- it is a repeat of mode 1 of this command (R243) -/
  repeatOf : Option Nat
  /-- partial selections that have reached the lead: row, slice, entries (R226) -/
  parts : List (Nat × Nat × Nat × List (Nat × Nat))
  /-- what its TREE and SFN named when its descriptor came, with the exponential of a sampler: an INVAL later does not touch them (R211) -/
  tree : Option TreeDesc
  sf : Option SfDesc
  expfn : Option SfDesc
  /-- lowest core that has run it -/
  core : Nat
  deriving DecidableEq, Repr

/-- A broadcast load or invalidation in progress (R211): the Tasters yet to answer, and the refusal of the lowest-numbered refuser so far. -/
structure Broadcast where
  left : List Nat
  refusal : Option (Nat × Nat)
  inval : Bool
  kind : Nat
  index : Nat
  bytes : List Byte
  len : Nat
  deriving DecidableEq, Repr

/-- The replica side of a Taster. -/
structure RplSt where
  descs : List Desc
  cmds : List RplCmd
  units : List RplUnit
  tag : Nat
  trees : Tab DescSlot
  sfns : Tab DescSlot
  /-- where each valid special function lies in the pool: (index, offset, length) (R210) -/
  pool : List (Nat × Nat × Nat)
  stage : List Byte
  bcast : Option Broadcast
  /-- cached context seeds, most recently used first, at most 16 (R450) -/
  seeds : List (Nat × Nat)
  seedAsked : List Nat
  /-- the long accumulator (R221) -/
  lacc : BitVec 672
  /-- what has been written into the scratch of the cluster, by 16-byte granule from its start (R240, R244) -/
  scratch : Tab Nat
  /-- counters of draw-port requests that wait: the oldest for its context's seed, the others behind it (R452) -/
  drawWait : List Nat
  /-- tags of reads whose unit has left before their last line (R203) -/
  lost : List Nat
  deriving DecidableEq, Repr

/-- A gated command of a step, as its region's Hall keeps it (R227, R603). -/
structure GatedCmd where
  cluster : Nat
  cmd : Nat
  layer : Nat
  op : Nat
  running : Bool
  /-- outcome of the original -/
  outcome : Option PrivOutcome
  /-- 0 no repeat, 3 one is due in its turn, 1 asked for, 2 its outcome is in (R603) -/
  redo : Nat
  redoOk : Bool
  /-- its own check failed -/
  bad : Bool
  /-- its repeat has been overtaken by that of an earlier command, and is due again (R603) -/
  again : Bool
  deriving DecidableEq, Repr

/-- The check of a step in a region (R226, R227). -/
structure StepCheck where
  region : Nat
  ctx : Nat
  step : Nat
  layer : Nat
  op : Nat
  cmds : List GatedCmd
  /-- wall time of the last TP_CMD_END of its gated commands (R229) -/
  lastEnd : Nat
  /-- cluster of the lead Taster, and whether it ran the step's sampler (R226) -/
  lead : Nat
  sampler : Bool
  /-- the sampler's entry, for the provenance record (R457) -/
  token : Nat × Nat
  verdict : Option GateVerdict
  deriving DecidableEq, Repr

end Sys2Proof
end

