-- ==== Sys2Proof/Parts/Residue.lean ====
section
/-! DEFINITION. State of the Taps: coverage contexts, residue units, invocations and report queues (chapter 04). -/
namespace Sys2Proof

/-- Tree facts of a coverage context (R179). -/
structure TapTree where
  root : Nat
  leaves : Nat
  outconv : Bool
  isLocal : Bool
  /-- fan-in of the root: an instance ends with its last addition there (R174; assumption 181) -/
  fan : Nat
  deriving DecidableEq, Repr

/-- A coverage context held by a Tap (R179, R355). -/
structure TapCtx where
  cmd : Nat
  step12 : Nat
  priv : Bool
  /-- posture in force for the region when it was made; a later one reaches the Tap through its Hall (R179, R184) -/
  posture : Posture
  tree : Option TapTree
  limit : Nat
  /-- the command names a tree whose descriptor is not loaded (R27, R172) -/
  treeLost : Bool
  deriving DecidableEq, Repr

/-- An open accumulation (R165, R602). -/
structure AccUnit where
  idx : Nat
  ord : Nat
  sa : Nat
  sx : Nat
  /-- predicted residue so far, of the processed products -/
  pred : Nat
  covered : Bool
  dropped : Bool
  /-- a product was skipped or differed in scale: not compared (R167) -/
  spoiled : Bool
  seq : Nat
  /-- place in the residue queue just after its last product -/
  pos : Nat
  /-- cycle in which it opened, products taken in so far, and the first 64 of them (R238) -/
  first : Nat
  count : Nat
  prods : List CapProd
  /-- TP_ACC and TP_ACC_EXP when it closed before its products had drained (R188) -/
  closed : Option (Int × Int)
  deriving DecidableEq, Repr

/-- A product that is its own unit (R168). -/
structure ProdUnit where
  seq : Nat
  lane : Nat
  ord : Nat
  r : Nat
  cap : CapProd
  covered : Bool
  dropped : Bool
  spoiled : Bool
  deriving DecidableEq, Repr

/-- An alarm on its way to the Taster: its 128 bits, and the unit capture that the Taster reads with it (R187, R238). -/
structure Alarm where
  report : BitVec 128
  cap : Capture
  deriving DecidableEq, Repr

/-- A summary on its way to the Taster: its 128 bits (R187), then Σρ(O) and Σρ(S) of the pair report that follows it in pair mode (R461). -/
structure Summary where
  report : BitVec 128
  so : Nat
  ss : Nat
  deriving DecidableEq, Repr

/-- A usage report on its way to the Taster (R408). -/
structure Usage where
  cmd : Nat
  cycles : Nat
  products : Nat
  l0rd : Nat
  l0wr : Nat
  /-- L0 bytes between commands, attributed as unbinned -/
  btrd : Nat
  btwr : Nat
  deriving DecidableEq, Repr

/-- An invocation: a command on one core, as its Tap sees it (R165-R188). -/
structure Inv where
  cmd : Nat
  start : Nat
  /-- its last cycle, once ended (R169) -/
  end_ : Option Nat
  /-- posture in force on the core for it (R184) -/
  posture : Posture
  /-- TP_ISS_LIMIT was driven when it started (R87, R183) -/
  limited : Bool
  ctx : Option TapCtx
  /-- ordinal of the next unit -/
  ord : Nat
  /-- products issued per cycle over the last 16 cycles, as (cycle, k) (R180) -/
  ks : List (Nat × Nat)
  accs : List AccUnit
  prods : List ProdUnit
  covered : Nat
  rotated : Nat
  dropped : Nat
  /-- products skipped, and presentations skipped (R167, R187) -/
  skipped : Nat
  preskip : Nat
  early : Nat
  dsc : Nat
  q : Nat
  mism : Nat
  alarms : Nat
  captured : Bool
  products : Nat
  /-- terms of the closure (R174) -/
  leafSum : Nat
  finalSum : Nat
  dSum : Nat
  /-- S of the last addition at the root of the tree and the additions of its instance so far, while the instance may go on (R174; assumption 181) -/
  rootS : Option (Nat × Nat)
  l0rd : Nat
  l0wr : Nat
  deriving DecidableEq, Repr

/-- What a core presents on a port of its Tap that the Tap matches by cycle: an issue cycle, an accumulation that closes, a discard presentation (R79-R85, R166). -/
inductive TapIn where
  | product (iss : IssueCycle)
  | close (idx : Nat) (acc e : Int)
  | present (port : Nat) (pres : DscPres)
  deriving DecidableEq, Repr
/-- Order of the ports within a region cycle. -/
def TapIn.rank : TapIn → Nat
  | .product _ => 0
  | .close _ _ _ => 1
  | .present _ _ => 2

/-- A Tap (R165-R188, R355). -/
structure TapSt where
  /-- newest first, at most 4 (R179) -/
  ctxs : List TapCtx
  /-- invocations, newest first: the one in progress, and one whose presentations or queued products are still on their way -/
  invs : List Inv
  /-- work units queued since reset, drained since reset, and the region cycle up to which the drain is counted (R178) -/
  qin : Nat
  drained : Nat
  cyc : Nat
  alarms : List Alarm
  summaries : List Summary
  usages : List Usage
  /-- PRIV contexts whose commands have not started, with the cycle of their arrival (R183) -/
  waiting : List (Nat × Nat)
  /-- PRIV commands for which TP_ISS_LIMIT is driven (R183) -/
  driven : List Nat
  /-- presentations on ports of smaller latency, with the cycle of the action that they describe, oldest first (R76, R169) -/
  held : List (Nat × TapIn)
  /-- command whose unit capture it holds (R238) -/
  latched : Option Nat
  /-- the repeat capture (R242) -/
  rpt : Option CaseVal
  /-- L0 bytes at the last command's end, to count what lies between commands (R408) -/
  btrd : Nat
  btwr : Nat
  deriving DecidableEq, Repr

end Sys2Proof
end

