-- ==== Sys2Proof/Parts/Stair.lean ====
section
/-! DEFINITION. State of the Stair, the self-timed datapaths and the time base (chapter 01, R28-R56). -/
namespace Sys2Proof

/-- A Stair packet as a hop carries it: head flit and payload flits (R30, R31). -/
structure Packet where
  head : BitVec 64
  payload : List (BitVec 64)
  deriving DecidableEq, Repr

/-- A packet sent on a hop, kept until its check result returns (R29, R37): its transfers acknowledged so far, and its failed resends. -/
structure Copy where
  pkt : Packet
  done : Nat
  fails : Nat
  deriving DecidableEq, Repr

/-- Detour tables: the tree that they are made from, the hops that were not live then, and which ordinary routes they keep (R36, R38, R39). -/
structure Detour where
  /-- for every field the hop toward the root of the detour tree (0-5), 6 at the root, 7 outside it -/
  tree : List Nat
  /-- keys of the mesh hops that were not live -/
  down : List Nat
  /-- routes kept where none of their hops is among those: 2 every ordinary one, 1 those within one row or column, 0 none -/
  keeps : Nat
  deriving DecidableEq, Repr
/-- One hop of a router, in the sending direction, with the counts of what was received on it (R29, R35-R40, R70, R396). -/
structure HopSt where
  /-- the hop is live (R70) -/
  live : Bool
  /-- declared dead since the last chip reset (R37) -/
  dead : Bool
  /-- it carries detour traffic (R70) -/
  detour : Bool
  /-- last measured delay, 0.625 ns units (R52) -/
  delay : Nat
  /-- the packets whose check result has not returned, in the order in which their last transfers come: the first with transfers left is
  on the wires, and a beat stands before the packet that it interrupts (R29, R33, R37) -/
  copies : List Copy
  /-- levels of the four wires of each of the eight rail groups, and as the receiver saw them at its last acknowledgement (R29) -/
  rails : List Nat
  seen : List Nat
  /-- level of the acknowledge wire (R29) -/
  ack : Bool
  /-- buffer places left per class at the router that the hop leads to (R35) -/
  credits : List Nat
  /-- packets sent per class (R396) -/
  sent : List Nat
  /-- packets received on the hop per class (R396) -/
  recv : List Nat
  deriving DecidableEq, Repr

/-- A packet that waits in a router (R33-R36, R38). -/
structure InPkt where
  /-- input port: a hop 0-5 in STR_SEL.PORT order, 6 a local port, 7 the copy store of a hop that died -/
  port : Nat
  pkt : Packet
  /-- outputs still to be served: hops 0-5, 6 the local ports, 7 none known until tables arrive -/
  legs : List Nat
  /-- outputs served already -/
  went : List Nat
  deriving DecidableEq, Repr

/-- A router (R28, R33, R35, R38). -/
structure RouterSt where
  /-- its detour tables; none: the ordinary routes (R36, R38, R39) -/
  table : Option Detour
  /-- packets of classes 6-7 discarded and counted (R33) -/
  reserved : Nat
  /-- packets in its input buffers and at its local ports, in order of arrival (R35) -/
  inq : List InPkt
  deriving DecidableEq, Repr

/-- Matched delay of a datapath (R44, R45). -/
structure DelaySt where
  /-- setting MD0-MD3 -/
  md : Nat
  /-- wall time since which the unit's band has asked for a shorter setting -/
  lowSince : Nat
  deriving DecidableEq, Repr

/-- Local time and beats of a unit (R53-R56, R63). -/
structure ClockSt where
  /-- local counter less the REFCLK count of State.wall, in ticks of 10 ns -/
  skew : Int
  /-- correction ordered by the last beat, made at the next REFCLK edge after `fixAt`: one tick up, one down (the counter is held), or none (R53) -/
  fix : Int
  fixAt : Nat
  /-- wall time of the last beat heard -/
  lastBeat : Nat
  /-- ticks corrected since the last cut epoch (TMB_STAT.MISALIGNED) -/
  corr : Nat
  /-- highest reign received since the last chip reset (R63) -/
  reign : Nat
  /-- control packets of a lower reign discarded (R63) -/
  lower : Nat
  deriving DecidableEq, Repr

end Sys2Proof
end

