-- ==== Sys2Proof/Parts/Thermal.lean ====
section
/-! DEFINITION. State of sensors, ladders, hard limits and emergencies (chapter 12). -/
namespace Sys2Proof

/-- A sensor (R476-R478). -/
structure SensorSt where
  /-- a reading has been taken; the last one in 1/16 °C; the last raw count -/
  read : Bool
  temp : Int
  raw : Nat
  /-- wall time since which the raw count has not changed (R477 reason 2) -/
  sameAt : Nat
  band : Nat
  /-- reason of R477, 0 working -/
  broken : Nat
  /-- periods of R337 passed in a row since it broke, and periods broken -/
  good : Nat
  periods : Nat
  deriving DecidableEq, Repr

/-- A region's ladders and comparators (R481-R489). -/
structure ThmSt where
  /-- level of the band's ladder and of the cap's -/
  bandLvl : Nat
  capLvl : Nat
  capCause : Bool
  /-- estimates over the budget in a row, and wall time since which the estimate has been below 90 % of it -/
  overN : Nat
  lowAt : Option Nat
  /-- totals at the last estimate: products, L1 bytes, L2 bytes; products reported since reset (R485) -/
  lastProd : Nat
  lastL1 : Nat
  lastL2 : Nat
  prod : Nat
  /-- comparators that trip now, by their codes 1-5 -/
  trips : List Nat
  /-- beat intervals in a row over the clock limit -/
  clkOver : Nat
  /-- wall time since which no comparator trips -/
  clearAt : Nat
  /-- wall time of the Shutter, and operating times of earlier ones (R489) -/
  shutAt : Nat
  shuts : List Nat
  /-- wall time since which a level has been above 0 (HAL_THR_TIME) -/
  lvlAt : Option Nat
  /-- HL_THR_ACK is awaited (R484) -/
  waiting : Bool
  deriving DecidableEq, Repr

/-- The emergency (R492). -/
structure EmergSt where
  active : Bool
  since : Nat
  /-- activations that it has held -/
  held : Nat
  deriving DecidableEq, Repr

/-- The pad logic of regions 19 and 22 (R378-R380). -/
structure PadSt where
  /-- the chip-reset watchdog is armed since this wall time -/
  armed : Option Nat
  allow : Nat
  /-- a refusal to report, and requests that the watchdog made since the last boot -/
  refused : Bool
  made : Nat
  /-- operating times of the requests counted in flash -/
  times : List Nat
  /-- both rails have been in their windows for 1 ms: the pads have left high impedance (R118) -/
  live : Bool
  deriving DecidableEq, Repr

end Sys2Proof
end

