-- ==== Sys2Proof/Registers.lean ====
section
/-! DEFINITION. Register fields: where a field lies and how it behaves (R18, R402, R585). -/
namespace Sys2Proof

/-- The access types of R18. -/
inductive Acc where | ro | rw | w1c | wo | rw2k
  deriving DecidableEq, Repr

/-- What a field holds (R402): a present state read live, an epoch counter, or a running counter. -/
inductive Bank where | live | epoch | running
  deriving DecidableEq, Repr

/-- A field of a page class: page class code (0 the common header, 0xFE the CKU block), byte offset of its
lowest word, lowest bit, width (over 32: it goes on in the following words), reset, access type, number of
elements of an array and their distance in bytes, and its kind. -/
structure Fld where
  cls : Nat
  off : Nat
  lo : Nat
  width : Nat
  rst : Nat
  acc : Acc
  n : Nat
  stride : Nat
  bank : Bank
  deriving DecidableEq, Repr

end Sys2Proof
end

