-- ==== Sys2Proof/Machine/State.lean ====
section
/-! DEFINITION. The state of the block: plain data, every piece of state the spec gives it; faults, refusals, and the state right after power-up and before bring-up. -/
namespace Sys2Proof.Machine

/-- What stops the machine. No command of this block has an effect that the spec leaves out whole, so no meaning raises one; the constructor stands for an access to an address that the spec says does not exist. -/
inductive Fault where
  /-- raised by no meaning of this model: an access outside every space of the spec. Safe: it allows nothing. -/
  | noSuchAddress (space addr : Nat)
  deriving DecidableEq, Repr

/-- Why a command has no meaning here. -/
inductive Refusal where
  /-- a command not modelled yet, by its mnemonic. Raised by exec's arm alone. Safe: it allows nothing. -/
  | notModelled (mnemonic : String)
  deriving DecidableEq, Repr

/-- A Brewhouse at power-up. -/
def BrewSt.start : BrewSt := ⟨0, 0, true, 0, none, none⟩
/-- The pair at power-up: A active (R57); FAILSAFE_N is asserted while nobody holds it (R72). -/
def PairSt.start : PairSt := ⟨BrewSt.start, BrewSt.start, 0, true, none, [], none, []⟩
/-- The Attic of a module that has never booted (R425, R427; assumption 10). -/
def AtticSt.start : AtticSt := ⟨[], [], false, 0, 1, 0, none, 0, 0, 0⟩
/-- A record with every optional item absent (R509) and the values that assumption 10 names for the others. -/
def VariantSt.start : VariantSt := ⟨0, 0, 0, 2 ^ nRegions - 1, 0, 2 ^ nLinks - 1, 0, 2 ^ nStacks - 1, [], [0, 0, 0, 0, 0, 0, 0, 0], [0, 0, 0, 0, 0], 0, 0, 0, 0, ⟨1, 0, 0, 0, 0, false, false⟩, 0, 40, (0, 0), (0, 0), (0, 0), 0, 0, 0, 0, 0, none, [0, 0, 0, 0, 0, 0], [], none, none⟩
/-- Empty slots and queues (R579: host-absent until a HELLO). -/
def MbxSt.start : MbxSt := ⟨1, [], [], [], [], [], 0, 0, List.replicate 8 0, List.replicate 8 false, List.replicate 8 false, 0, 0, 0, []⟩
/-- No address, full buckets (R567, R570; assumption 17). -/
def MgtSt.start : MgtSt := ⟨none, none, [], 0, List.replicate 15 32, 0, List.replicate 15 (0, 0, 0), false, 0, 0⟩
/-- Locked, nothing halted; IDCODE selected (R573, R578). -/
def DbgSt.start : DbgSt := ⟨none, 0, [], [], [], [], [], (0, 0, 0, 0, 0), false, 1⟩
/-- Nothing recorded, nothing chained (R457, R467). -/
def PrvSt.start : PrvSt := ⟨0, [], [], [], [], [], [], none, [], [], [], []⟩
/-- Before bring-up: an empty boot directory, no processor started (R503, R511; assumption 10). -/
def FwSt.start : FwSt := ⟨0, false, 0, 0, 0, [], none, false, 0, 0, false, false, 0, 0, [], [], [], [], false, [], 0, 0, []⟩

/-- The state of Onasen. -/
structure State where
  /-- commands that wait, first in, first out -/
  pending : List Instr
  /-- REFCLK count of the wafer, ns since power-up: wall time but for each unit's own offset (R20, R53) -/
  wall : BitVec 64
  /-- MODEL: free values drawn so far (assumption 3) -/
  fresh : Nat
  /-- register fields that hold a present state or a setting, by `fkey` (R585-R598); an unlisted one holds its reset -/
  regs : Tab Nat
  /-- epoch counters since each unit's last marker (R402) -/
  ecnt : Tab Nat
  /-- running counters (R402) -/
  rcnt : Tab Nat
  /-- the shadow bank being filled (R399) -/
  fill : Tab Nat
  /-- the shadow bank presented (R399) -/
  shown : Tab Nat
  /-- unit states by PUID (R253, R591) -/
  units : Tab UnitSt
  /-- events on their way to the recorder, oldest first (R26) -/
  transit : List Ev
  /-- events already raised in the epoch, as (PUID, code, key) (R157, R192, R235, R276, R315, R391, R438) -/
  marks : List (Nat × Nat × Nat)
  /-- MODEL: what the block has sent out, newest first (assumption 4) -/
  sent : List Out
  /-- Stair routers by field -/
  routers : Tab RouterSt
  /-- Stair hops by 8·field + hop -/
  hops : Tab HopSt
  /-- routers to which detour tables are on their way (R38) -/
  tablesDue : List Nat
  /-- the detour tables last made by the scheduler core (R38) -/
  tree : Option Detour
  /-- fields cut off from the active Brewhouse (R40) -/
  cutoff : List Nat
  /-- matched delays by unit number (R44) -/
  delays : Tab DelaySt
  /-- local clocks by unit number (R53) -/
  clocks : Tab ClockSt
  /-- regions without REFCLK, with the time at which their counters hold (R119) -/
  refLost : Tab Nat
  /-- the Brewhouse pair (R57-R72) -/
  pair : PairSt
  /-- gate cells (R106) -/
  gates : Tab GateSt
  /-- Doors (R101) -/
  doors : Tab DoorSt
  /-- alive streams by 8192·Door + 4096·direction + stream (R144) -/
  streams : Tab StreamSt
  /-- stream windows by 4096·Cellar + window (R147) -/
  wins : Tab WinSt
  /-- alive state of stream windows, same key (R145) -/
  winAlive : Tab StreamSt
  /-- scan engines by unit number (R148) -/
  scans : Tab ScanSt
  /-- Taps by 1024·cluster + core -/
  taps : Tab TapSt
  /-- physical cores, same key -/
  cores : Tab CoreSt
  /-- Tasters' ports into their clusters -/
  ports : Tab TstPorts
  /-- adjudication, by Taster -/
  adj : Tab AdjSt
  /-- replica, by Taster -/
  rpl : Tab RplSt
  /-- step checks in progress, at the Halls (R227) -/
  steps : List StepCheck
  /-- verdicts on their way to a Hall, by region, oldest first -/
  verdicts : Tab (List Verdict)
  /-- replay set of a cluster: one or none (R367) -/
  replays : Tab (List ReplaySet)
  /-- wall times at which replay sets of a cluster were opened (R361) -/
  setsOpened : Tab (List Nat)
  /-- contexts (R371, R383) -/
  ctxs : Tab CtxSt
  /-- history tables by PUID (R255) -/
  hist : Tab HistTable
  /-- the tables as the flash devices hold them (R257) -/
  histFlash : Tab HistTable
  /-- PUIDs whose tables are staged and not yet programmed (R257) -/
  histStaged : List Nat
  /-- the copy that BRW_HIST_PUID latched (R274) -/
  histLatch : Option HistTable
  /-- wall time at which the wafer entered DRAINING (R263) -/
  drainSince : Nat
  /-- Halls by region -/
  halls : Tab HallSt
  /-- resets in progress (R360) -/
  resets : List Reset
  /-- hang reports on their way, as (cluster, core, CMDID), oldest first (R358) -/
  hangs : List (Nat × Nat × Nat)
  /-- the cut in progress (R392) -/
  cut : Option CutRun
  /-- number of the last cut begun (R392) -/
  cutNo : Nat
  /-- a periodic cut fell due while one ran (R401) -/
  cutDue : Bool
  /-- each unit's side of the cuts, by unit number -/
  cutUnits : Tab CutUnit
  /-- channels at their receivers, by channel number (R396) -/
  chans : Tab ChanRec
  /-- the global stop (R403) -/
  stop : StopSt
  /-- void accounts (R424) -/
  voids : List VoidNote
  /-- attribution bins by 64·Taster + bin (R409) -/
  bins : Tab BinSt
  /-- counter configuration by 128·Taster + counter (R410) -/
  bank : Tab BankCfg
  /-- trace segments by Taster (R411) -/
  segs : Tab SegSt
  /-- the Attic (R425) -/
  attic : AtticSt
  /-- stack, SRAM and flash bytes by address (assumption 5) -/
  mem : Tab Byte
  /-- the signed variant record as read from flash (R508; assumption 10) -/
  variant : VariantSt
  /-- mailbox slots, completion ring, MSI-X (R544-R560) -/
  mbx : MbxSt
  /-- two-key proposals (R561-R566) -/
  twk : TwkSt
  /-- management (R567-R571) -/
  mgt : MgtSt
  /-- debug (R573-R578) -/
  dbg : DbgSt
  /-- Cellars -/
  cels : Tab CelSt
  /-- reload open at a receiving Door: one or none (R297) -/
  reloads : Tab (List OpenReload)
  /-- logical channel to physical channel plus 1, 0 unmapped; unlisted: itself (R98, R100; assumption 16) -/
  chanMap : Tab Nat
  /-- the active Brewhouse's copy of broadcast descriptors, by 256·kind + index (R375) -/
  descCopy : Tab (List Byte)
  /-- context seeds, none until set (R448) -/
  seeds : Tab (Option Nat)
  /-- kills of a retired context or of context 0 (R372) -/
  idleKills : Nat
  /-- seeds, provenance, record and replay (R448-R471) -/
  prv : PrvSt
  /-- pair mode by cluster (R460-R466) -/
  pairs : Tab PairTst
  /-- steeps brought forward, as (0 engine-level, 1 core steeps as FENCED entries; cluster) (R253, R361) -/
  steepFirst : List (Nat × Nat)
  /-- steep plan and queues, by PUID (R318, R319) -/
  stp : Tab StpUnit
  /-- steep engines by unit number: the steep that runs (R319) -/
  engs : Tab (Option StpRun)
  /-- the steep plan of the rotation (R318) -/
  plan : StpPlan
  /-- grist stores (R348) -/
  grist : GristSt
  /-- analogue parts whose check failed once, as 65,536·kind + index (R337) -/
  ana : List Nat
  /-- bytes received of a download, by target of DL_CHUNK (R557) -/
  dl : Tab Nat
  /-- firmware processors, boot directory and activations (R498-R536) -/
  fw : FwSt
  /-- sensors by 16·field + index (R476) -/
  sens : Tab SensorSt
  /-- ladders and comparators by region (R481-R489) -/
  thm : Tab ThmSt
  /-- the emergency (R492) -/
  emerg : EmergSt
  /-- pad logic: chip-reset watchdog and power-cycle allowance (R378-R380) -/
  pad : PadSt
  /-- resets that wait for a Hall processor to restart, as (level, scope, cause) (R386, R499) -/
  resetsDue : List (Nat × Nat × Nat)
  /-- wall time of the last digest tick, and whether a PASS verdict has been given since (R292) -/
  tickAt : Nat
  passSeen : Bool
  /-- high words of LO/HI pairs as their last LO read latched them, by window offset (R56, R595) -/
  latch : Tab Nat
  deriving DecidableEq, Repr

/-- The state right after power-up, before bring-up (R511): every field at the value the spec gives for reset, or the one a log entry names. -/
def State.reset : State where
  pending := []
  wall := 0
  fresh := 0
  regs := []
  ecnt := []
  rcnt := []
  fill := []
  shown := []
  units := []
  transit := []
  marks := []
  sent := []
  routers := []
  hops := []
  tablesDue := []
  tree := none
  cutoff := []
  delays := []
  clocks := []
  refLost := []
  pair := PairSt.start
  gates := []
  doors := []
  streams := []
  wins := []
  winAlive := []
  scans := []
  taps := []
  cores := []
  ports := []
  adj := []
  rpl := []
  steps := []
  verdicts := []
  replays := []
  setsOpened := []
  ctxs := []
  hist := []
  histFlash := []
  histStaged := []
  histLatch := none
  drainSince := 0
  halls := []
  resets := []
  hangs := []
  cut := none
  cutNo := 0
  cutDue := false
  cutUnits := []
  chans := []
  stop := ⟨0, 0, 0, 0⟩
  voids := []
  bins := []
  bank := []
  segs := []
  attic := AtticSt.start
  mem := []
  variant := VariantSt.start
  mbx := MbxSt.start
  twk := ⟨[], [], []⟩
  mgt := MgtSt.start
  dbg := DbgSt.start
  cels := []
  reloads := []
  chanMap := []
  descCopy := []
  seeds := []
  idleKills := 0
  prv := PrvSt.start
  pairs := []
  steepFirst := []
  stp := []
  engs := []
  plan := ⟨0, 4, 24, 0, 0⟩
  grist := ⟨[], []⟩
  ana := []
  dl := []
  fw := FwSt.start
  sens := []
  thm := []
  emerg := ⟨false, 0, 0⟩
  pad := ⟨none, 0, false, 0, [], false⟩
  resetsDue := []
  tickAt := 0
  passSeen := false
  latch := []

end Sys2Proof.Machine
end

