-- ==== Sys2Proof/Machine/Tab.lean ====
section
/-! DEFINITION. Sparse tables in one canonical form: keys strictly rising, no entry equal to the default. Every table of State, memory among them, is read and written by these. -/
namespace Sys2Proof

variable {α : Type}

/-- The listed value of a key. -/
def Tab.find (k : Nat) : Tab α → Option α
  | [] => none
  | (k', v) :: t => if k' = k then some v else Tab.find k t

/-- The value of a key: the listed one, or the default of that key. -/
def Tab.get (d : Nat → α) (m : Tab α) (k : Nat) : α := (Tab.find k m).getD (d k)

/-- The table without a key. -/
def Tab.erase (k : Nat) : Tab α → Tab α
  | [] => []
  | (k', v) :: t => if k' = k then Tab.erase k t else (k', v) :: Tab.erase k t

/-- The table with a key listed, in its place. -/
def Tab.insert (k : Nat) (v : α) : Tab α → Tab α
  | [] => [(k, v)]
  | (k', v') :: t =>
    if k < k' then (k, v) :: (k', v') :: t
    else if k' = k then (k, v) :: t
    else (k', v') :: Tab.insert k v t

/-- The table with a key holding a value: a value equal to the default is not listed. -/
def Tab.put [DecidableEq α] (d : Nat → α) (m : Tab α) (k : Nat) (v : α) : Tab α :=
  if v = d k then Tab.erase k m else Tab.insert k v m

/-- The table with the value of a key changed by a function. -/
def Tab.upd [DecidableEq α] (d : Nat → α) (m : Tab α) (k : Nat) (f : α → α) : Tab α :=
  Tab.put d m k (f (Tab.get d m k))

/-- Keys are strictly rising, the first above `lo` where one is given. -/
def Tab.sorted (lo : Option Nat) : Tab α → Bool
  | [] => true
  | (k, _) :: t => (match lo with | none => true | some l => decide (l < k)) && Tab.sorted (some k) t

/-- The canonical form: keys strictly rising and no entry equal to its default. -/
def Tab.wf [DecidableEq α] (d : Nat → α) (m : Tab α) : Bool :=
  Tab.sorted none m && m.all (fun e => decide (e.2 ≠ d e.1))

/-- The entries whose keys lie in [lo, hi). -/
def Tab.range (lo hi : Nat) (m : Tab α) : Tab α := m.filter (fun e => decide (lo ≤ e.1 ∧ e.1 < hi))

/-- The entries whose keys lie outside [lo, hi). -/
def Tab.drop (lo hi : Nat) (m : Tab α) : Tab α := m.filter (fun e => !decide (lo ≤ e.1 ∧ e.1 < hi))

/-- Every entry of `n` put over those of `m`, as listed. -/
def Tab.cover (n m : Tab α) : Tab α := n.foldl (fun a e => Tab.insert e.1 e.2 a) m

end Sys2Proof
end

