-- ==== Sys2Proof/Machine/Access.lean ====
section
/-! DEFINITION. Reading and changing one entry of each table of State: an unlisted entry holds its default, which is the part right after reset. -/
namespace Sys2Proof.Machine
open Sys2Proof

/-- A unit with nothing against it. -/
def unit0 : Nat → UnitSt := fun _ => ⟨false, false, false, false, false, false, false⟩
/-- The entry of `units` at a key. -/
def State.unit (s : State) (k : Nat) : UnitSt := Tab.get unit0 s.units k
/-- The state with that entry changed. -/
def State.updUnit (s : State) (k : Nat) (f : UnitSt → UnitSt) : State :=
  { s with units := Tab.upd unit0 s.units k f }

/-- A router with the ordinary routes and nothing waiting. -/
def router0 : Nat → RouterSt := fun _ => ⟨none, 0, []⟩
/-- The entry of `routers` at a key. -/
def State.router (s : State) (k : Nat) : RouterSt := Tab.get router0 s.routers k
/-- The state with that entry changed. -/
def State.updRouter (s : State) (k : Nat) (f : RouterSt → RouterSt) : State :=
  { s with routers := Tab.upd router0 s.routers k f }

/-- A hop before Stair training. -/
def hop0 : Nat → HopSt := fun _ => ⟨false, false, false, 0, [], [0, 0, 0, 0, 0, 0, 0, 0], [0, 0, 0, 0, 0, 0, 0, 0], false, [2, 2, 2, 2, 2, 2, 0, 0], [0, 0, 0, 0, 0, 0, 0, 0], [0, 0, 0, 0, 0, 0, 0, 0]⟩
/-- The entry of `hops` at a key. -/
def State.hop (s : State) (k : Nat) : HopSt := Tab.get hop0 s.hops k
/-- The state with that entry changed. -/
def State.updHop (s : State) (k : Nat) (f : HopSt → HopSt) : State :=
  { s with hops := Tab.upd hop0 s.hops k f }

/-- MD0. -/
def delay0 : Nat → DelaySt := fun _ => ⟨0, 0⟩
/-- The entry of `delays` at a key. -/
def State.delay (s : State) (k : Nat) : DelaySt := Tab.get delay0 s.delays k
/-- The state with that entry changed. -/
def State.updDelay (s : State) (k : Nat) (f : DelaySt → DelaySt) : State :=
  { s with delays := Tab.upd delay0 s.delays k f }

/-- A local clock in step. -/
def clock0 : Nat → ClockSt := fun _ => ⟨0, 0, 0, 0, 0, 0, 0⟩
/-- The entry of `clocks` at a key. -/
def State.clock (s : State) (k : Nat) : ClockSt := Tab.get clock0 s.clocks k
/-- The state with that entry changed. -/
def State.updClock (s : State) (k : Nat) (f : ClockSt → ClockSt) : State :=
  { s with clocks := Tab.upd clock0 s.clocks k f }

/-- An empty gate cell. -/
def gate0 : Nat → GateSt := fun _ => ⟨[], [], [], 0, false⟩
/-- The entry of `gates` at a key. -/
def State.gate (s : State) (k : Nat) : GateSt := Tab.get gate0 s.gates k
/-- The state with that entry changed. -/
def State.updGate (s : State) (k : Nat) (f : GateSt → GateSt) : State :=
  { s with gates := Tab.upd gate0 s.gates k f }

/-- A Door before its link is trained. -/
def door0 : Nat → DoorSt := fun _ => ⟨0, 0, [0, 0, 0, 0], false, 0, 0, 0⟩
/-- The entry of `doors` at a key. -/
def State.door (s : State) (k : Nat) : DoorSt := Tab.get door0 s.doors k
/-- The state with that entry changed. -/
def State.updDoor (s : State) (k : Nat) (f : DoorSt → DoorSt) : State :=
  { s with doors := Tab.upd door0 s.doors k f }

/-- An unsynchronised stream. -/
def stream0 : Nat → StreamSt := fun _ => ⟨false, 0, false⟩
/-- The entry of `streams` at a key. -/
def State.stream (s : State) (k : Nat) : StreamSt := Tab.get stream0 s.streams k
/-- The state with that entry changed. -/
def State.updStream (s : State) (k : Nat) (f : StreamSt → StreamSt) : State :=
  { s with streams := Tab.upd stream0 s.streams k f }

/-- A window that matches nothing. -/
def win0 : Nat → WinSt := fun _ => ⟨false, 0, 0, 0, 0, 0⟩
/-- The entry of `wins` at a key. -/
def State.win (s : State) (k : Nat) : WinSt := Tab.get win0 s.wins k
/-- The state with that entry changed. -/
def State.updWin (s : State) (k : Nat) (f : WinSt → WinSt) : State :=
  { s with wins := Tab.upd win0 s.wins k f }

/-- An unsynchronised window. -/
def winStream0 : Nat → StreamSt := fun _ => ⟨false, 0, false⟩
/-- The entry of `winAlive` at a key. -/
def State.winStream (s : State) (k : Nat) : StreamSt := Tab.get winStream0 s.winAlive k
/-- The state with that entry changed. -/
def State.updWinStream (s : State) (k : Nat) (f : StreamSt → StreamSt) : State :=
  { s with winAlive := Tab.upd winStream0 s.winAlive k f }

/-- An idle scan engine. -/
def scan0 : Nat → ScanSt := fun _ => ⟨false, false, 0, 0, 0, false, 0, 32, 0, 0, false, false, 0, 0, 0, 0⟩
/-- The entry of `scans` at a key. -/
def State.scan (s : State) (k : Nat) : ScanSt := Tab.get scan0 s.scans k
/-- The state with that entry changed. -/
def State.updScan (s : State) (k : Nat) (f : ScanSt → ScanSt) : State :=
  { s with scans := Tab.upd scan0 s.scans k f }

/-- An idle Tap. -/
def tap0 : Nat → TapSt := fun _ => ⟨[], [], 0, 0, 0, [], [], [], [], [], [], none, none, 0, 0⟩
/-- The entry of `taps` at a key. -/
def State.tap (s : State) (k : Nat) : TapSt := Tab.get tap0 s.taps k
/-- The state with that entry changed. -/
def State.updTap (s : State) (k : Nat) (f : TapSt → TapSt) : State :=
  { s with taps := Tab.upd tap0 s.taps k f }

/-- A core with every Tap output inactive (R78). -/
def core0 : Nat → CoreSt := fun _ => ⟨false, false, false, false, false, none, 0, false, false, none⟩
/-- The entry of `cores` at a key. -/
def State.core (s : State) (k : Nat) : CoreSt := Tab.get core0 s.cores k
/-- The state with that entry changed. -/
def State.updCore (s : State) (k : Nat) (f : CoreSt → CoreSt) : State :=
  { s with cores := Tab.upd core0 s.cores k f }

/-- A Taster's ports in reset; its map tables hold no valid entry. -/
def port0 : Nat → TstPorts := fun _ => ⟨false, 0, [], none, false, false, none, [], [], none, false, none⟩
/-- The entry of `ports` at a key. -/
def State.port (s : State) (k : Nat) : TstPorts := Tab.get port0 s.ports k
/-- The state with that entry changed. -/
def State.updPort (s : State) (k : Nat) (f : TstPorts → TstPorts) : State :=
  { s with ports := Tab.upd port0 s.ports k f }

/-- A Taster without cases. -/
def adjOf0 : Nat → AdjSt := fun _ => ⟨[], 0, none, none, [], [], true, false, 0, [], [], false⟩
/-- The entry of `adj` at a key. -/
def State.adjOf (s : State) (k : Nat) : AdjSt := Tab.get adjOf0 s.adj k
/-- The state with that entry changed. -/
def State.updAdjOf (s : State) (k : Nat) (f : AdjSt → AdjSt) : State :=
  { s with adj := Tab.upd adjOf0 s.adj k f }

/-- A Taster without descriptors. -/
def rplOf0 : Nat → RplSt := fun _ => ⟨[], [], [], 0, [], [], [], [], none, [], [], 0, [], [], []⟩
/-- The entry of `rpl` at a key. -/
def State.rplOf (s : State) (k : Nat) : RplSt := Tab.get rplOf0 s.rpl k
/-- The state with that entry changed. -/
def State.updRplOf (s : State) (k : Nat) (f : RplSt → RplSt) : State :=
  { s with rpl := Tab.upd rplOf0 s.rpl k f }

/-- No verdicts. -/
def verdictsOf0 : Nat → List Verdict := fun _ => []
/-- The entry of `verdicts` at a key. -/
def State.verdictsOf (s : State) (k : Nat) : List Verdict := Tab.get verdictsOf0 s.verdicts k
/-- The state with that entry changed. -/
def State.updVerdictsOf (s : State) (k : Nat) (f : List Verdict → List Verdict) : State :=
  { s with verdicts := Tab.upd verdictsOf0 s.verdicts k f }

/-- No replay set. -/
def replayOf0 : Nat → List ReplaySet := fun _ => []
/-- The entry of `replays` at a key. -/
def State.replayOf (s : State) (k : Nat) : List ReplaySet := Tab.get replayOf0 s.replays k
/-- The state with that entry changed. -/
def State.updReplayOf (s : State) (k : Nat) (f : List ReplaySet → List ReplaySet) : State :=
  { s with replays := Tab.upd replayOf0 s.replays k f }

/-- None. -/
def setsOf0 : Nat → List Nat := fun _ => []
/-- The entry of `setsOpened` at a key. -/
def State.setsOf (s : State) (k : Nat) : List Nat := Tab.get setsOf0 s.setsOpened k
/-- The state with that entry changed. -/
def State.updSetsOf (s : State) (k : Nat) (f : List Nat → List Nat) : State :=
  { s with setsOpened := Tab.upd setsOf0 s.setsOpened k f }

/-- A free context. -/
def ctx0 : Nat → CtxSt := fun _ => ⟨0, false, 0, 0, none, [], 0, 0, false⟩
/-- The entry of `ctxs` at a key. -/
def State.ctx (s : State) (k : Nat) : CtxSt := Tab.get ctx0 s.ctxs k
/-- The state with that entry changed. -/
def State.updCtx (s : State) (k : Nat) (f : CtxSt → CtxSt) : State :=
  { s with ctxs := Tab.upd ctx0 s.ctxs k f }

/-- A Hall with its region powered. -/
def hall0 : Nat → HallSt := fun _ => ⟨false, 0, [], false, 0, false, [], false, false, true, [false, false, false, false], [0, 0, 0, 0], [false, false, false, false], [], false, false, 0, 0, 0, false, none, none, []⟩
/-- The entry of `halls` at a key. -/
def State.hall (s : State) (k : Nat) : HallSt := Tab.get hall0 s.halls k
/-- The state with that entry changed. -/
def State.updHall (s : State) (k : Nat) (f : HallSt → HallSt) : State :=
  { s with halls := Tab.upd hall0 s.halls k f }

/-- A unit before its first cut. -/
def cutUnit0 : Nat → CutUnit := fun _ => ⟨0, 0, false, false, false, false, false, 0, 0⟩
/-- The entry of `cutUnits` at a key. -/
def State.cutUnit (s : State) (k : Nat) : CutUnit := Tab.get cutUnit0 s.cutUnits k
/-- The state with that entry changed. -/
def State.updCutUnit (s : State) (k : Nat) (f : CutUnit → CutUnit) : State :=
  { s with cutUnits := Tab.upd cutUnit0 s.cutUnits k f }

/-- A channel on which nothing has come. -/
def chan0 : Nat → ChanRec := fun _ => ⟨0, 0, false, 0, 0⟩
/-- The entry of `chans` at a key. -/
def State.chan (s : State) (k : Nat) : ChanRec := Tab.get chan0 s.chans k
/-- The state with that entry changed. -/
def State.updChan (s : State) (k : Nat) (f : ChanRec → ChanRec) : State :=
  { s with chans := Tab.upd chan0 s.chans k f }

/-- A disabled bin. -/
def bin0 : Nat → BinSt := fun _ => ⟨0, 0, 0, 0, false⟩
/-- The entry of `bins` at a key. -/
def State.bin (s : State) (k : Nat) : BinSt := Tab.get bin0 s.bins k
/-- The state with that entry changed. -/
def State.updBin (s : State) (k : Nat) (f : BinSt → BinSt) : State :=
  { s with bins := Tab.upd bin0 s.bins k f }

/-- A counter of nothing (R410, R433). -/
def bankCfg0 : Nat → BankCfg := fun _ => ⟨0, 64⟩
/-- The entry of `bank` at a key. -/
def State.bankCfg (s : State) (k : Nat) : BankCfg := Tab.get bankCfg0 s.bank k
/-- The state with that entry changed. -/
def State.updBankCfg (s : State) (k : Nat) (f : BankCfg → BankCfg) : State :=
  { s with bank := Tab.upd bankCfg0 s.bank k f }

/-- An empty segment. -/
def seg0 : Nat → SegSt := fun _ => ⟨0, false, false, false, 0, [], 0, 0, 0, false, false⟩
/-- The entry of `segs` at a key. -/
def State.seg (s : State) (k : Nat) : SegSt := Tab.get seg0 s.segs k
/-- The state with that entry changed. -/
def State.updSeg (s : State) (k : Nat) (f : SegSt → SegSt) : State :=
  { s with segs := Tab.upd seg0 s.segs k f }

/-- A unit IN SERVICE without entries. -/
def histOf0 : Nat → HistTable := fun _ => ⟨false, 0, 0, [], 0, 0⟩
/-- The entry of `hist` at a key. -/
def State.histOf (s : State) (k : Nat) : HistTable := Tab.get histOf0 s.hist k
/-- The state with that entry changed. -/
def State.updHistOf (s : State) (k : Nat) (f : HistTable → HistTable) : State :=
  { s with hist := Tab.upd histOf0 s.hist k f }

/-- A Cellar with empty tables. -/
def cel0 : Nat → CelSt := fun _ => ⟨[], [], [], ⟨false, false, 0, 0, 0, 0, 0, [], [], false, [], none, [], [], []⟩, [], [], [], [], [], 0, List.replicate 16 0, [], [], [], List.replicate 16 0, none, 0, [], false, [], 0⟩
/-- The entry of `cels` at a key. -/
def State.cel (s : State) (k : Nat) : CelSt := Tab.get cel0 s.cels k
/-- The state with that entry changed. -/
def State.updCel (s : State) (k : Nat) (f : CelSt → CelSt) : State :=
  { s with cels := Tab.upd cel0 s.cels k f }

/-- None. -/
def reloadOf0 : Nat → List OpenReload := fun _ => []
/-- The entry of `reloads` at a key. -/
def State.reloadOf (s : State) (k : Nat) : List OpenReload := Tab.get reloadOf0 s.reloads k
/-- The state with that entry changed. -/
def State.updReloadOf (s : State) (k : Nat) (f : List OpenReload → List OpenReload) : State :=
  { s with reloads := Tab.upd reloadOf0 s.reloads k f }

/-- No copy. -/
def descBytes0 : Nat → List Byte := fun _ => []
/-- The entry of `descCopy` at a key. -/
def State.descBytes (s : State) (k : Nat) : List Byte := Tab.get descBytes0 s.descCopy k
/-- The state with that entry changed. -/
def State.updDescBytes (s : State) (k : Nat) (f : List Byte → List Byte) : State :=
  { s with descCopy := Tab.upd descBytes0 s.descCopy k f }

/-- No seed set. -/
def seedOf0 : Nat → Option Nat := fun _ => none
/-- The entry of `seeds` at a key. -/
def State.seedOf (s : State) (k : Nat) : Option Nat := Tab.get seedOf0 s.seeds k
/-- The state with that entry changed. -/
def State.updSeedOf (s : State) (k : Nat) (f : Option Nat → Option Nat) : State :=
  { s with seeds := Tab.upd seedOf0 s.seeds k f }

/-- No paired step. -/
def pairOf0 : Nat → PairTst := fun _ => ⟨none, [], false, [], 0, []⟩
/-- The entry of `pairs` at a key. -/
def State.pairOf (s : State) (k : Nat) : PairTst := Tab.get pairOf0 s.pairs k
/-- The state with that entry changed. -/
def State.updPairOf (s : State) (k : Nat) (f : PairTst → PairTst) : State :=
  { s with pairs := Tab.upd pairOf0 s.pairs k f }

/-- A unit never steeped. -/
def stpOf0 : Nat → StpUnit := fun _ => ⟨none, 0, false, false, 0, 0, 0, 0, false, none, false, false, 0, 0, 0⟩
/-- The entry of `stp` at a key. -/
def State.stpOf (s : State) (k : Nat) : StpUnit := Tab.get stpOf0 s.stp k
/-- The state with that entry changed. -/
def State.updStpOf (s : State) (k : Nat) (f : StpUnit → StpUnit) : State :=
  { s with stp := Tab.upd stpOf0 s.stp k f }

/-- An idle steep engine. -/
def eng0 : Nat → Option StpRun := fun _ => none
/-- The entry of `engs` at a key. -/
def State.eng (s : State) (k : Nat) : Option StpRun := Tab.get eng0 s.engs k
/-- The state with that entry changed. -/
def State.updEng (s : State) (k : Nat) (f : Option StpRun → Option StpRun) : State :=
  { s with engs := Tab.upd eng0 s.engs k f }

/-- A sensor before its first reading. -/
def sensor0 : Nat → SensorSt := fun _ => ⟨false, 0, 0, 0, 0, 0, 0, 0⟩
/-- The entry of `sens` at a key. -/
def State.sensor (s : State) (k : Nat) : SensorSt := Tab.get sensor0 s.sens k
/-- The state with that entry changed. -/
def State.updSensor (s : State) (k : Nat) (f : SensorSt → SensorSt) : State :=
  { s with sens := Tab.upd sensor0 s.sens k f }

/-- An unthrottled region. -/
def thmOf0 : Nat → ThmSt := fun _ => ⟨0, 0, false, 0, none, 0, 0, 0, 0, [], 0, 0, 0, [], none, false⟩
/-- The entry of `thm` at a key. -/
def State.thmOf (s : State) (k : Nat) : ThmSt := Tab.get thmOf0 s.thm k
/-- The state with that entry changed. -/
def State.updThmOf (s : State) (k : Nat) (f : ThmSt → ThmSt) : State :=
  { s with thm := Tab.upd thmOf0 s.thm k f }

end Sys2Proof.Machine
end

