-- ==== Sys2Proof/Machine/EventTable.lean ====
section
/-! DEFINITION. The SEV of every event code, from the event tables of the chapters (R122, R156, R191, R234, R275, R314, R353, R390, R437, R474, R496, R541, R582, R583); class 0x0 is of R540. -/
namespace Sys2Proof.Machine

/-- Codes of SEV 1, part 1. -/
def sev1Codes1 : List Nat := [0x1001, 0x1003, 0x1010, 0x1021, 0x1040, 0x2001, 0x2002, 0x2003, 0x2004, 0x2005, 0x2006, 0x2014, 0x3001, 0x3002, 0x3014, 0x4009, 0x5010, 0x5011, 0x5040, 0x5060]
/-- Codes of SEV 1, part 2. -/
def sev1Codes2 : List Nat := [0x6022, 0x7002, 0x7011, 0x7014, 0x7020, 0x7022, 0x8050, 0x8051, 0x8052, 0x9012, 0x9040, 0x9041, 0xA001, 0xA003, 0xA005, 0xA006, 0xA007, 0xA020, 0xA030, 0xB002]
/-- Codes of SEV 1, part 3. -/
def sev1Codes3 : List Nat := [0xB010, 0xB031, 0xB040, 0xC002, 0xC012, 0xC031, 0xD023, 0xD030, 0xE002, 0xE011, 0xE012]
/-- Codes of SEV 1. -/
def sev1Codes : List Nat := sev1Codes1 ++ sev1Codes2 ++ sev1Codes3
/-- Codes of SEV 2, part 1. -/
def sev2Codes1 : List Nat := [0x1002, 0x1012, 0x1031, 0x2010, 0x2011, 0x2012, 0x2013, 0x2015, 0x3003, 0x3010, 0x3011, 0x3012, 0x3013, 0x3016, 0x3017, 0x3020, 0x4002, 0x4004, 0x4006, 0x4008]
/-- Codes of SEV 2, part 2. -/
def sev2Codes2 : List Nat := [0x4010, 0x4020, 0x4033, 0x4040, 0x4042, 0x4043, 0x5002, 0x5003, 0x5005, 0x5020, 0x5021, 0x5022, 0x5024, 0x5030, 0x5050, 0x6001, 0x6003, 0x6004, 0x6005, 0x6010]
/-- Codes of SEV 2, part 3. -/
def sev2Codes3 : List Nat := [0x6011, 0x6020, 0x7010, 0x7012, 0x7013, 0x7021, 0x7023, 0x7031, 0x8001, 0x8010, 0x8012, 0x8020, 0x8033, 0x8034, 0x8041, 0x9001, 0x9020, 0x9021, 0x9022, 0x9030]
/-- Codes of SEV 2, part 4. -/
def sev2Codes4 : List Nat := [0x9051, 0x9052, 0xA002, 0xA004, 0xA00A, 0xA010, 0xA011, 0xA012, 0xA021, 0xA022, 0xA023, 0xA031, 0xA040, 0xB001, 0xB020, 0xB030, 0xC001, 0xC010, 0xC021, 0xD002]
/-- Codes of SEV 2, part 5. -/
def sev2Codes5 : List Nat := [0xD011, 0xD020, 0xD031, 0xE001, 0xE010, 0xE013]
/-- Codes of SEV 2. -/
def sev2Codes : List Nat := sev2Codes1 ++ sev2Codes2 ++ sev2Codes3 ++ sev2Codes4 ++ sev2Codes5
/-- Codes of SEV 3, part 1. -/
def sev3Codes1 : List Nat := [0x1004, 0x1020, 0x1030, 0x3021, 0x4001, 0x4003, 0x4005, 0x4007, 0x4022, 0x4030, 0x4032, 0x4041, 0x4050, 0x4060, 0x4070, 0x5001, 0x5004, 0x5012, 0x5023, 0x5041]
/-- Codes of SEV 3, part 2. -/
def sev3Codes2 : List Nat := [0x6002, 0x6021, 0x7001, 0x7030, 0x8002, 0x8011, 0x8013, 0x8021, 0x8024, 0x8026, 0x8030, 0x8031, 0x8040, 0x8060, 0x9010, 0x9011, 0x9050, 0xA008, 0xA00B, 0xA013]
/-- Codes of SEV 3, part 3. -/
def sev3Codes3 : List Nat := [0xC011, 0xC013, 0xC020, 0xC030, 0xD001, 0xD010, 0xD013, 0xD021, 0xD022]
/-- Codes of SEV 3. -/
def sev3Codes : List Nat := sev3Codes1 ++ sev3Codes2 ++ sev3Codes3
/-- Codes of SEV 4, part 1. -/
def sev4Codes1 : List Nat := [0x1011, 0x4031, 0x8022, 0x8023, 0x8025, 0x8032, 0xA009]
/-- Codes of SEV 4. -/
def sev4Codes : List Nat := sev4Codes1

/-- SEV of an event code; a code of no table has 0. -/
def sevOf (code : Nat) : Nat :=
  if code / 256 = 1 then 4
  else if code / 256 = 2 then 2
  else if sev1Codes.contains code then 1 else if sev2Codes.contains code then 2 else if sev3Codes.contains code then 3 else if sev4Codes.contains code then 4 else 0

end Sys2Proof.Machine
end

