-- ==== Sys2Proof/Machine/Fields.lean ====
section
/-! DEFINITION. The register fields of the window, one definition a field, as the register tables of chapters 01-15 give them (offset, bit, width, reset, access, array length and stride, and the kind of counter of R402); LO/HI pairs and word arrays are one wide field. Where the table gives no number for a reset the field has 0 here and R-specific values stand in Machine/View.lean or State.reset (assumption 10). -/
namespace Sys2Proof.Machine

/-- R56. wall time [31:0]; a read latches TMB_NOW_HI; high word: wall time [63:32] as latched by the last read of TMB_NOW_LO. -/
def TMB_NOW_NS : Fld := ⟨0x9, 0x40, 0, 64, 0x0, .ro, 1, 4, .live⟩
/-- R56. units that corrected by more than two ticks since the last cut epoch, saturating at 255. -/
def TMB_STAT_MISALIGNED : Fld := ⟨0x9, 0x48, 8, 8, 0x0, .ro, 1, 4, .epoch⟩
/-- R56. 1 while the active Brewhouse emits beats. -/
def TMB_STAT_BEAT_ON : Fld := ⟨0x9, 0x48, 1, 1, 0x0, .ro, 1, 4, .live⟩
/-- R56. 0 Brewhouse A, 1 Brewhouse B. -/
def TMB_STAT_SOURCE : Fld := ⟨0x9, 0x48, 0, 1, 0x0, .ro, 1, 4, .live⟩
/-- R56. number of beats sent since power-up, bits [31:0]. -/
def TMB_BEAT_SEQ_SEQ : Fld := ⟨0x9, 0x4C, 0, 32, 0x0, .ro, 1, 4, .running⟩
/-- R56. region whose cycle count TMB_CYC_LO and TMB_CYC_HI present; values above 41 read as zero. -/
def TMB_CYC_SEL_REGION : Fld := ⟨0x9, 0x50, 0, 6, 0x0, .rw, 1, 4, .live⟩
/-- R56. selected region's cycle count [31:0] at the last beat; a read latches TMB_CYC_HI; high word: selected region's cycle count [63:32], as latched. -/
def TMB_CYC_CYC : Fld := ⟨0x9, 0x54, 0, 64, 0x0, .ro, 1, 4, .live⟩
/-- R69. current reign. -/
def BRW_ROLE_REIGN : Fld := ⟨0x1, 0x40, 16, 7, 0x0, .ro, 1, 4, .live⟩
/-- R69. 1 while no standby acknowledges mirrors. -/
def BRW_ROLE_UNMIRRORED : Fld := ⟨0x1, 0x40, 3, 1, 0x0, .ro, 1, 4, .live⟩
/-- R69. 1 while the standby answers heartbeats on at least one path. -/
def BRW_ROLE_STANDBY_OK : Fld := ⟨0x1, 0x40, 2, 1, 0x0, .ro, 1, 4, .live⟩
/-- R69. 1 between step 4 and step 6 of R62. -/
def BRW_ROLE_TAKEOVER_BUSY : Fld := ⟨0x1, 0x40, 1, 1, 0x0, .ro, 1, 4, .live⟩
/-- R69. 0 A active, 1 B active. -/
def BRW_ROLE_ACTIVE : Fld := ⟨0x1, 0x40, 0, 1, 0x0, .ro, 1, 4, .live⟩
/-- R69. cut epoch of the last completed mirror. -/
def BRW_MIRROR_EPOCH_EPOCH : Fld := ⟨0x1, 0x44, 0, 32, 0x0, .ro, 1, 4, .live⟩
/-- R69. takeovers since the last chip reset, saturating. -/
def BRW_TAKEOVERS_COUNT : Fld := ⟨0x1, 0x48, 0, 16, 0x0, .ro, 1, 4, .running⟩
/-- R69. heartbeat periods missed on the mesh path since the last cut epoch, saturating at 255. -/
def BRW_HB_MISS_MESH : Fld := ⟨0x1, 0x4C, 16, 8, 0x0, .ro, 1, 4, .epoch⟩
/-- R69. the same, second Stair route. -/
def BRW_HB_MISS_STAIR2 : Fld := ⟨0x1, 0x4C, 8, 8, 0x0, .ro, 1, 4, .epoch⟩
/-- R69. the same, column 3 route. -/
def BRW_HB_MISS_STAIR1 : Fld := ⟨0x1, 0x4C, 0, 8, 0x0, .ro, 1, 4, .epoch⟩
/-- R70. hop for STR_HOP_DELAY and STR_RETRY: 0 N, 1 E, 2 S, 3 W, 4 NE, 5 SW; 6–7 read as zero. -/
def STR_SEL_PORT : Fld := ⟨0x2, 0x40, 8, 3, 0x0, .rw, 1, 4, .live⟩
/-- R70. router whose state the page presents; values above 83 read as zero. -/
def STR_SEL_FIELD : Fld := ⟨0x2, 0x40, 0, 7, 0x0, .rw, 1, 4, .live⟩
/-- R70. per hop in STR_SEL.PORT order: 1 when the hop carries detour traffic. -/
def STR_PORTS_DETOUR : Fld := ⟨0x2, 0x44, 8, 6, 0x0, .ro, 1, 4, .live⟩
/-- R70. per hop: 1 when the hop exists and is live. -/
def STR_PORTS_LIVE : Fld := ⟨0x2, 0x44, 0, 6, 0x0, .ro, 1, 4, .live⟩
/-- R70. last measured delay of the selected hop, in units of 0.625 ns. -/
def STR_HOP_DELAY_DELAY : Fld := ⟨0x2, 0x48, 0, 16, 0x0, .ro, 1, 4, .live⟩
/-- R70. resends on the selected hop since the last cut epoch. -/
def STR_RETRY_COUNT : Fld := ⟨0x2, 0x4C, 0, 32, 0x0, .ro, 1, 4, .epoch⟩
/-- R70. hops declared dead wafer-wide since the last chip reset. -/
def STR_DEAD_COUNT : Fld := ⟨0x2, 0x50, 0, 8, 0x0, .ro, 1, 4, .running⟩
/-- R109. 1: all gate cells pass every block. -/
def HCH_CTRL_DISABLE : Fld := ⟨0xB, 0x40, 0, 1, 0x0, .rw2k, 1, 4, .live⟩
/-- R109. backstop in µs of wall time; 0 reads back as 1. -/
def HCH_BACKSTOP_US : Fld := ⟨0xB, 0x44, 0, 20, 0x64, .rw, 1, 4, .live⟩
/-- R109. gate for HCH_HELD and HCH_WITHHELD: 0–95 link, 96 PCIe; 97–127 read as zero. -/
def HCH_SEL_GATE : Fld := ⟨0xB, 0x48, 0, 7, 0x0, .rw, 1, 4, .live⟩
/-- R109. selected gate's occupancy in 16-byte granules. -/
def HCH_HELD_GRAN : Fld := ⟨0xB, 0x4C, 0, 16, 0x0, .ro, 1, 4, .live⟩
/-- R109. notices sent by the selected gate since the last chip reset. -/
def HCH_WITHHELD_COUNT : Fld := ⟨0xB, 0x50, 0, 32, 0x0, .ro, 1, 4, .running⟩
/-- R155. tensor-block profile preset per R133. -/
def CKU_TB_CFG_PRESET : Fld := ⟨0xFE, 0x400, 12, 3, 0x1, .ro, 1, 4, .live⟩
/-- R155. refout. -/
def CKU_TB_CFG_REFOUT : Fld := ⟨0xFE, 0x400, 9, 1, 0x1, .ro, 1, 4, .live⟩
/-- R155. refin. -/
def CKU_TB_CFG_REFIN : Fld := ⟨0xFE, 0x400, 8, 1, 0x1, .ro, 1, 4, .live⟩
/-- R155. w. -/
def CKU_TB_CFG_WIDTH : Fld := ⟨0xFE, 0x400, 0, 7, 0x20, .ro, 1, 4, .live⟩
/-- R155. poly [31:0]; high word: poly [63:32]. -/
def CKU_TB_POLY_POLY : Fld := ⟨0xFE, 0x404, 0, 64, 0x1EDC6F41, .ro, 1, 4, .live⟩
/-- R155. init [31:0]; high word: init [63:32]. -/
def CKU_TB_INIT_INIT : Fld := ⟨0xFE, 0x40C, 0, 64, 0xFFFFFFFF, .ro, 1, 4, .live⟩
/-- R155. xorout [31:0]; high word: xorout [63:32]. -/
def CKU_TB_XOR_XOR : Fld := ⟨0xFE, 0x414, 0, 64, 0xFFFFFFFF, .ro, 1, 4, .live⟩
/-- R155. scan profile PRESET. -/
def CKU_SC_CFG_PRESET : Fld := ⟨0xFE, 0x420, 12, 3, 0x1, .rw, 1, 4, .live⟩
/-- R155. scan profile REFOUT. -/
def CKU_SC_CFG_REFOUT : Fld := ⟨0xFE, 0x420, 9, 1, 0x1, .rw, 1, 4, .live⟩
/-- R155. scan profile REFIN. -/
def CKU_SC_CFG_REFIN : Fld := ⟨0xFE, 0x420, 8, 1, 0x1, .rw, 1, 4, .live⟩
/-- R155. scan profile WIDTH. -/
def CKU_SC_CFG_WIDTH : Fld := ⟨0xFE, 0x420, 0, 7, 0x20, .rw, 1, 4, .live⟩
/-- R155. scan profile poly. -/
def CKU_SC_POLY : Fld := ⟨0xFE, 0x424, 0, 64, 0x1EDC6F41, .rw, 1, 4, .live⟩
/-- R155. scan profile init. -/
def CKU_SC_INIT : Fld := ⟨0xFE, 0x42C, 0, 64, 0xFFFFFFFF, .rw, 1, 4, .live⟩
/-- R155. scan profile xor. -/
def CKU_SC_XOR : Fld := ⟨0xFE, 0x434, 0, 64, 0xFFFFFFFF, .rw, 1, 4, .live⟩
/-- R155. start [31:0]; high word: start [39:32]. -/
def CKU_SCAN_START_ADDR : Fld := ⟨0xFE, 0x440, 0, 40, 0x0, .rw, 1, 4, .live⟩
/-- R155. length [31:0]; high word: length [39:32]. -/
def CKU_SCAN_LEN_LEN : Fld := ⟨0xFE, 0x448, 0, 40, 0x0, .rw, 1, 4, .live⟩
/-- R155. 1 starts a scan. -/
def CKU_SCAN_CTRL_GO : Fld := ⟨0xFE, 0x450, 31, 1, 0x0, .wo, 1, 4, .live⟩
/-- R155. 1 aborts a running scan. -/
def CKU_SCAN_CTRL_ABORT : Fld := ⟨0xFE, 0x450, 30, 1, 0x0, .wo, 1, 4, .live⟩
/-- R155. compare with CKU_SCAN_EXP. -/
def CKU_SCAN_CTRL_CMP : Fld := ⟨0xFE, 0x450, 8, 1, 0x0, .rw, 1, 4, .live⟩
/-- R155. scan space per R148. -/
def CKU_SCAN_CTRL_SPACE : Fld := ⟨0xFE, 0x450, 0, 5, 0x0, .rw, 1, 4, .live⟩
/-- R155. expected value [31:0]; high word: expected value [63:32]. -/
def CKU_SCAN_EXP_VAL : Fld := ⟨0xFE, 0x454, 0, 64, 0x0, .rw, 1, 4, .live⟩
/-- R155. scans completed since the unit's reset, wrapping. -/
def CKU_SCAN_STAT_SEQ : Fld := ⟨0xFE, 0x45C, 16, 16, 0x0, .ro, 1, 4, .live⟩
/-- R155. origin of the last scan: 0 register window, 1 firmware. -/
def CKU_SCAN_STAT_ORIGIN : Fld := ⟨0xFE, 0x45C, 10, 1, 0x0, .ro, 1, 4, .live⟩
/-- R155. a GO was ignored per R153. -/
def CKU_SCAN_STAT_OVERRUN : Fld := ⟨0xFE, 0x45C, 9, 1, 0x0, .w1c, 1, 4, .live⟩
/-- R155. a scan runs. -/
def CKU_SCAN_STAT_BUSY : Fld := ⟨0xFE, 0x45C, 8, 1, 0x0, .ro, 1, 4, .live⟩
/-- R155. status of the last scan per R154. -/
def CKU_SCAN_STAT_CODE : Fld := ⟨0xFE, 0x45C, 0, 3, 0x6, .ro, 1, 4, .live⟩
/-- R155. result [31:0], when valid; high word: result [63:32], when valid. -/
def CKU_SCAN_RESULT_VAL : Fld := ⟨0xFE, 0x460, 0, 64, 0x0, .ro, 1, 4, .live⟩
/-- R155. POISON_SEEN: line address [31:0]; otherwise the address that R152 gives, [31:0]; high word: the same, [39:32]. -/
def CKU_SCAN_ADDR_ADDR : Fld := ⟨0xFE, 0x468, 0, 40, 0x0, .ro, 1, 4, .live⟩
/-- R155. Door: 0 transmit, 1 receive; Cellar: channel 0–15; other values read counters as zero. -/
def CKU_CNT_SEL_PATH : Fld := ⟨0xFE, 0x480, 0, 5, 0x0, .rw, 1, 4, .live⟩
/-- R155. blocks passed, including those also counted in CKU_CNT_POISON_IN, saturating. -/
def CKU_CNT_BLOCKS_COUNT : Fld := ⟨0xFE, 0x484, 0, 32, 0x0, .ro, 1, 4, .epoch⟩
/-- R155. check and framing failures, saturating. -/
def CKU_CNT_FAIL_COUNT : Fld := ⟨0xFE, 0x488, 0, 32, 0x0, .ro, 1, 4, .epoch⟩
/-- R155. blocks rejected per R138, saturating. -/
def CKU_CNT_REJECT_COUNT : Fld := ⟨0xFE, 0x48C, 0, 32, 0x0, .ro, 1, 4, .epoch⟩
/-- R155. repeat verdicts, saturating. -/
def CKU_CNT_REPEAT_COUNT : Fld := ⟨0xFE, 0x490, 0, 32, 0x0, .ro, 1, 4, .epoch⟩
/-- R155. loss verdicts, saturating. -/
def CKU_CNT_LOSS_COUNT : Fld := ⟨0xFE, 0x494, 0, 32, 0x0, .ro, 1, 4, .epoch⟩
/-- R155. sum of loss gaps, saturating. -/
def CKU_CNT_GAP_COUNT : Fld := ⟨0xFE, 0x498, 0, 32, 0x0, .ro, 1, 4, .epoch⟩
/-- R155. blocks that arrived poisoned and passed, saturating. -/
def CKU_CNT_POISON_IN_COUNT : Fld := ⟨0xFE, 0x49C, 0, 32, 0x0, .ro, 1, 4, .epoch⟩
/-- R155. bytes absorbed [31:0]; high word: bytes absorbed [63:32]. -/
def CKU_CNT_ABSORB_BYTES : Fld := ⟨0xFE, 0x4A0, 0, 64, 0x0, .ro, 1, 4, .epoch⟩
/-- R155. Door: 0 transmit, 1 receive; Cellar: ignored. -/
def CKU_STRM_SEL_DIR : Fld := ⟨0xFE, 0x4C0, 12, 1, 0x0, .rw, 1, 4, .live⟩
/-- R155. Door: stream; Cellar: window. -/
def CKU_STRM_SEL_STREAM : Fld := ⟨0xFE, 0x4C0, 0, 12, 0x0, .rw, 1, 4, .live⟩
/-- R155. receive: the stream is synchronised; transmit: reads 1. -/
def CKU_STRM_STAT_SYNC : Fld := ⟨0xFE, 0x4C4, 15, 1, 0x0, .ro, 1, 4, .live⟩
/-- R155. receive: E; transmit: the next ALIVE to stamp. -/
def CKU_STRM_STAT_NEXT : Fld := ⟨0xFE, 0x4C4, 0, 8, 0x0, .ro, 1, 4, .live⟩
/-- R155. 1 resynchronises the selected receive stream or window per R146. -/
def CKU_STRM_CTRL_RESYNC : Fld := ⟨0xFE, 0x4C8, 0, 1, 0x0, .wo, 1, 4, .live⟩
/-- R155. window for 0x4D4–0x4DC. -/
def CKU_WIN_SEL_WIN : Fld := ⟨0xFE, 0x4D0, 0, 12, 0x0, .rw, 1, 4, .live⟩
/-- R155. window base, channel address [31:0]; held until the next write of CKU_WIN_BASE_HI (R147). -/
def CKU_WIN_BASE_LO_ADDR : Fld := ⟨0xFE, 0x4D4, 0, 32, 0x0, .rw, 1, 4, .live⟩
/-- R155. window enabled. -/
def CKU_WIN_BASE_HI_EN : Fld := ⟨0xFE, 0x4D8, 31, 1, 0x0, .rw, 1, 4, .live⟩
/-- R155. channel. -/
def CKU_WIN_BASE_HI_CHANNEL : Fld := ⟨0xFE, 0x4D8, 4, 4, 0x0, .rw, 1, 4, .live⟩
/-- R155. window base [35:32]; a write to this register applies the window and resynchronises it. -/
def CKU_WIN_BASE_HI_ADDR : Fld := ⟨0xFE, 0x4D8, 0, 4, 0x0, .rw, 1, 4, .live⟩
/-- R155. window size in 256-byte granules; 0 matches nothing; held until the next write of CKU_WIN_BASE_HI (R147). -/
def CKU_WIN_SIZE_GRAN : Fld := ⟨0xFE, 0x4DC, 0, 32, 0x0, .rw, 1, 4, .live⟩
/-- R189. residue queue fill, in work units, 0–128. -/
def TAP_RES_STAT_QFILL : Fld := ⟨0x14, 0x40, 8, 8, 0x0, .ro, 1, 4, .live⟩
/-- R189. q of the last unit opened; 0 before the first. -/
def TAP_RES_STAT_LASTQ : Fld := ⟨0x14, 0x40, 4, 3, 0x0, .ro, 1, 4, .live⟩
/-- R189. TP_ISS_LIMIT is driven to 1. -/
def TAP_RES_STAT_LIMIT : Fld := ⟨0x14, 0x40, 3, 1, 0x0, .ro, 1, 4, .live⟩
/-- R189. a command is in progress on the core. -/
def TAP_RES_STAT_BUSY : Fld := ⟨0x14, 0x40, 2, 1, 0x0, .ro, 1, 4, .live⟩
/-- R189. posture in force: 0 Strong, 1 Session, 2 Small; 3 is never shown. -/
def TAP_RES_STAT_POSTURE : Fld := ⟨0x14, 0x40, 0, 2, 0x1, .ro, 1, 4, .live⟩
/-- R189. units covered. -/
def TAP_RES_COVERED_COUNT : Fld := ⟨0x14, 0x44, 0, 32, 0x0, .ro, 1, 4, .epoch⟩
/-- R189. units rotated out. -/
def TAP_RES_ROTATED_COUNT : Fld := ⟨0x14, 0x48, 0, 32, 0x0, .ro, 1, 4, .epoch⟩
/-- R189. units dropped. -/
def TAP_RES_DROPPED_COUNT : Fld := ⟨0x14, 0x4C, 0, 32, 0x0, .ro, 1, 4, .epoch⟩
/-- R189. products and presentations skipped under R167. -/
def TAP_RES_SKIPPED_COUNT : Fld := ⟨0x14, 0x50, 0, 32, 0x0, .ro, 1, 4, .epoch⟩
/-- R189. discard presentations checked. -/
def TAP_RES_DSC_COUNT : Fld := ⟨0x14, 0x54, 0, 32, 0x0, .ro, 1, 4, .epoch⟩
/-- R189. invocations closed and passed. -/
def TAP_RES_CLOSED_COUNT : Fld := ⟨0x14, 0x58, 0, 32, 0x0, .ro, 1, 4, .epoch⟩
/-- R189. mismatches of every RKIND. -/
def TAP_RES_MISM_COUNT : Fld := ⟨0x14, 0x5C, 0, 32, 0x0, .ro, 1, 4, .epoch⟩
/-- R189. RKIND of the last mismatch. -/
def TAP_RES_LAST_RKIND : Fld := ⟨0x14, 0x60, 26, 4, 0x0, .ro, 1, 4, .live⟩
/-- R189. its predicted residue. -/
def TAP_RES_LAST_PRED : Fld := ⟨0x14, 0x60, 13, 13, 0x0, .ro, 1, 4, .live⟩
/-- R189. its observed residue. -/
def TAP_RES_LAST_OBS : Fld := ⟨0x14, 0x60, 0, 13, 0x0, .ro, 1, 4, .live⟩
/-- R189. its command. -/
def TAP_RES_LASTPOS_CMDID : Fld := ⟨0x14, 0x64, 18, 14, 0x0, .ro, 1, 4, .live⟩
/-- R189. its position field, as in the alarm. -/
def TAP_RES_LASTPOS_POS : Fld := ⟨0x14, 0x64, 0, 14, 0x0, .ro, 1, 4, .live⟩
/-- R190. an override is set for the region, whether or not its posture differs from the wafer posture. -/
def TST_RES_STAT_OVERRIDE : Fld := ⟨0x13, 0x100, 2, 1, 0x0, .ro, 1, 4, .live⟩
/-- R190. posture in force, coded as TAP_RES_STAT.POSTURE. -/
def TST_RES_STAT_POSTURE : Fld := ⟨0x13, 0x100, 0, 2, 0x1, .ro, 1, 4, .live⟩
/-- R190. alarms received. -/
def TST_RES_ALARMS_COUNT : Fld := ⟨0x13, 0x104, 0, 32, 0x0, .ro, 1, 4, .epoch⟩
/-- R190. summaries received. -/
def TST_RES_SUMMARIES_COUNT : Fld := ⟨0x13, 0x108, 0, 32, 0x0, .ro, 1, 4, .epoch⟩
/-- R190. PRIV invocations not fully covered. -/
def TST_RES_INCOMPLETE_COUNT : Fld := ⟨0x13, 0x10C, 0, 32, 0x0, .ro, 1, 4, .epoch⟩
/-- R190. invocations ended by core reset. -/
def TST_RES_UNCHECKED_COUNT : Fld := ⟨0x13, 0x110, 0, 32, 0x0, .ro, 1, 4, .epoch⟩
/-- R190. atomic adds checked. -/
def TST_ATM_CHECKED_COUNT : Fld := ⟨0x13, 0x114, 0, 32, 0x0, .ro, 1, 4, .epoch⟩
/-- R190. atomic adds skipped as non-finite, or unchecked for a result format outside FP32, BF16 and FP16 (R176). -/
def TST_ATM_SKIPPED_COUNT : Fld := ⟨0x13, 0x118, 0, 32, 0x0, .ro, 1, 4, .epoch⟩
/-- R190. atomic residue or bound mismatches. -/
def TST_ATM_MISM_COUNT : Fld := ⟨0x13, 0x11C, 0, 32, 0x0, .ro, 1, 4, .epoch⟩
/-- R232. sampled non-PRIV units pending, 0–1,024. -/
def TST_RPL_STAT_PENDING : Fld := ⟨0x13, 0x140, 16, 11, 0x0, .ro, 1, 4, .live⟩
/-- R232. hold buffer in use, in 256-byte units, 0–256. -/
def TST_RPL_STAT_HOLD : Fld := ⟨0x13, 0x140, 4, 9, 0x0, .ro, 1, 4, .live⟩
/-- R232. sampling multiplier: 0 ×1, 1 ×2, 2 ×4. -/
def TST_RPL_STAT_MULT : Fld := ⟨0x13, 0x140, 2, 2, 0x0, .ro, 1, 4, .live⟩
/-- R232. the Taster leads a step check in progress. -/
def TST_RPL_STAT_LEAD : Fld := ⟨0x13, 0x140, 1, 1, 0x0, .ro, 1, 4, .live⟩
/-- R232. the Taster is trusted for checking. -/
def TST_RPL_STAT_TRUSTED : Fld := ⟨0x13, 0x140, 0, 1, 0x1, .ro, 1, 4, .live⟩
/-- R232. units sampled. -/
def TST_RPL_SAMPLED_COUNT : Fld := ⟨0x13, 0x144, 0, 32, 0x0, .ro, 1, 4, .epoch⟩
/-- R232. units that passed. -/
def TST_RPL_MATCH_COUNT : Fld := ⟨0x13, 0x148, 0, 32, 0x0, .ro, 1, 4, .epoch⟩
/-- R232. units that failed, bit-exact or by tolerance. -/
def TST_RPL_MISM_COUNT : Fld := ⟨0x13, 0x14C, 0, 32, 0x0, .ro, 1, 4, .epoch⟩
/-- R232. commands unchecked under R27 or R95. -/
def TST_RPL_NODESC_COUNT : Fld := ⟨0x13, 0x150, 0, 32, 0x0, .ro, 1, 4, .epoch⟩
/-- R232. units shed (R197). -/
def TST_RPL_SHED_COUNT : Fld := ⟨0x13, 0x154, 0, 32, 0x0, .ro, 1, 4, .epoch⟩
/-- R232. units abandoned (R205). -/
def TST_RPL_STALE_COUNT : Fld := ⟨0x13, 0x158, 0, 32, 0x0, .ro, 1, 4, .epoch⟩
/-- R232. units stopped under R206: read errors, poison, malformed rows or reserved spaces. -/
def TST_RPL_RDERR_COUNT : Fld := ⟨0x13, 0x15C, 0, 32, 0x0, .ro, 1, 4, .epoch⟩
/-- R232. MAYVARY units not compared (R223). -/
def TST_RPL_TOLSKIP_COUNT : Fld := ⟨0x13, 0x160, 0, 32, 0x0, .ro, 1, 4, .epoch⟩
/-- R232. MAYVARY units of the fused, nonlinear, selection and sampler classes (R220). -/
def TST_RPL_UNCMP_COUNT : Fld := ⟨0x13, 0x164, 0, 32, 0x0, .ro, 1, 4, .epoch⟩
/-- R232. PRIV commands checked. -/
def TST_PRIV_CHECKED_COUNT : Fld := ⟨0x13, 0x168, 0, 32, 0x0, .ro, 1, 4, .epoch⟩
/-- R232. PRIV checks failed. -/
def TST_PRIV_FAIL_COUNT : Fld := ⟨0x13, 0x16C, 0, 32, 0x0, .ro, 1, 4, .epoch⟩
/-- R232. verdicts later than 4 µs. -/
def TST_PRIV_OVER_COUNT : Fld := ⟨0x13, 0x170, 0, 32, 0x0, .ro, 1, 4, .epoch⟩
/-- R232. longest verdict latency led by this Taster, in 10 ns units, saturating. -/
def TST_PRIV_LAT_MAX : Fld := ⟨0x13, 0x174, 0, 16, 0x0, .ro, 1, 4, .epoch⟩
/-- R232. long-accumulator overflows. -/
def TST_LACC_OVF_COUNT : Fld := ⟨0x13, 0x178, 0, 32, 0x0, .ro, 1, 4, .epoch⟩
/-- R233. load into every Taster. -/
def TST_DESC_SEL_BCAST : Fld := ⟨0x13, 0x200, 31, 1, 0x0, .rw, 1, 4, .live⟩
/-- R233. 0 tree, 1 special function. -/
def TST_DESC_SEL_KIND : Fld := ⟨0x13, 0x200, 8, 1, 0x0, .rw, 1, 4, .live⟩
/-- R233. index; 0 is refused with status 5. -/
def TST_DESC_SEL_INDEX : Fld := ⟨0x13, 0x200, 0, 8, 0x0, .rw, 1, 4, .live⟩
/-- R233. the selected index holds a valid descriptor. -/
def TST_DESC_CTRL_VALID : Fld := ⟨0x13, 0x204, 16, 1, 0x0, .ro, 1, 4, .live⟩
/-- R233. 0 idle, also after an INVAL completes; 1 busy; 2 loaded; 3 refused: format; 4 refused: rounding mode; 5 refused: structure; 6 refused: pool full; 7 refused: index valid or not yet free. The first failing check in the order of R211 is shown. -/
def TST_DESC_CTRL_STATUS : Fld := ⟨0x13, 0x204, 8, 3, 0x0, .ro, 1, 4, .live⟩
/-- R233. 1 invalidates the selected index. -/
def TST_DESC_CTRL_INVAL : Fld := ⟨0x13, 0x204, 1, 1, 0x0, .wo, 1, 4, .live⟩
/-- R233. 1 loads the staged descriptor; written together with INVAL, the write is ignored. -/
def TST_DESC_CTRL_LOAD : Fld := ⟨0x13, 0x204, 0, 1, 0x0, .wo, 1, 4, .live⟩
/-- R233. staged length in bytes, 32 for trees, 64–2,048 otherwise; another value refuses the load with status 5. -/
def TST_DESC_LEN_BYTES : Fld := ⟨0x13, 0x208, 0, 12, 0x0, .rw, 1, 4, .live⟩
/-- R233. largest free run of the special-function pool, in bytes, saturating at 65,535. -/
def TST_DESC_POOL_FREE : Fld := ⟨0x13, 0x20C, 0, 16, 0xC000, .ro, 1, 4, .live⟩
/-- R273. Taster that checks this cluster. Reset: own cluster. -/
def TST_ADJ_STAT_ADOPTER : Fld := ⟨0x13, 0x180, 22, 10, 0x0, .ro, 1, 4, .live⟩
/-- R273. cluster adopted by this Taster, valid when ADOPTING. -/
def TST_ADJ_STAT_ADOPTED : Fld := ⟨0x13, 0x180, 12, 10, 0x0, .ro, 1, 4, .live⟩
/-- R273. this Taster has adopted a cluster. -/
def TST_ADJ_STAT_ADOPTING : Fld := ⟨0x13, 0x180, 11, 1, 0x0, .ro, 1, 4, .live⟩
/-- R273. open cases, 0–8. -/
def TST_ADJ_STAT_OPEN : Fld := ⟨0x13, 0x180, 4, 4, 0x0, .ro, 1, 4, .live⟩
/-- R273. cases opened. -/
def TST_ADJ_CASES_COUNT : Fld := ⟨0x13, 0x184, 0, 32, 0x0, .ro, 1, 4, .epoch⟩
/-- R273. alarms dropped (R237). -/
def TST_ADJ_DROPPED_COUNT : Fld := ⟨0x13, 0x188, 0, 32, 0x0, .ro, 1, 4, .epoch⟩
/-- R273. INCONCLUSIVE verdicts. -/
def TST_ADJ_INCONCL_COUNT : Fld := ⟨0x13, 0x18C, 0, 32, 0x0, .ro, 1, 4, .epoch⟩
/-- R273. CORE_PERM verdicts. -/
def TST_ADJ_PERM_COUNT : Fld := ⟨0x13, 0x190, 0, 32, 0x0, .ro, 1, 4, .epoch⟩
/-- R273. CORE_TRANS verdicts. -/
def TST_ADJ_TRANS_COUNT : Fld := ⟨0x13, 0x194, 0, 32, 0x0, .ro, 1, 4, .epoch⟩
/-- R273. TAP_SUSPECT and TAP_TRANS verdicts. -/
def TST_ADJ_TAP_COUNT : Fld := ⟨0x13, 0x198, 0, 32, 0x0, .ro, 1, 4, .epoch⟩
/-- R273. TASTER_SUSPECT, TASTER_TRANS and ATOMIC verdicts. -/
def TST_ADJ_TST_COUNT : Fld := ⟨0x13, 0x19C, 0, 32, 0x0, .ro, 1, 4, .epoch⟩
/-- R273. recomputes served for other Tasters. -/
def TST_ADJ_SERVED_COUNT : Fld := ⟨0x13, 0x1A0, 0, 32, 0x0, .ro, 1, 4, .epoch⟩
/-- R273. code of the last verdict. -/
def TST_ADJ_LAST_VERDICT : Fld := ⟨0x13, 0x1A4, 0, 8, 0x0, .ro, 1, 4, .live⟩
/-- R273. unit of the last verdict. -/
def TST_ADJ_LASTPUID_PUID : Fld := ⟨0x13, 0x1A8, 0, 32, 0x0, .ro, 1, 4, .live⟩
/-- R273. spares lent to steeps. -/
def TST_SPARES_LENT : Fld := ⟨0x13, 0x1AC, 8, 8, 0x0, .ro, 1, 4, .live⟩
/-- R273. free spares. -/
def TST_SPARES_FREE : Fld := ⟨0x13, 0x1AC, 0, 8, 0x0, .ro, 1, 4, .live⟩
/-- R273. kills from this cluster's reports. -/
def TST_PSN_KILLS_COUNT : Fld := ⟨0x13, 0x1B0, 0, 32, 0x0, .ro, 1, 4, .epoch⟩
/-- R273. reports that killed nobody under R269: retired, not in use, context 0 or already killed. -/
def TST_PSN_RETIRED_COUNT : Fld := ⟨0x13, 0x1B4, 0, 32, 0x0, .ro, 1, 4, .epoch⟩
/-- R273. dispatches refused for an invalid map entry (R99). -/
def TST_MAP_MISS_COUNT : Fld := ⟨0x13, 0x1B8, 0, 32, 0x0, .ro, 1, 4, .epoch⟩
/-- R274. 0 Strict, 1 Remap. -/
def BRW_QPOLICY_POLICY : Fld := ⟨0x1, 0x80, 0, 1, 0x0, .rw2k, 1, 4, .live⟩
/-- R274. the replacement flag stands. Reset: from flash. -/
def BRW_WAFER_Q_REPLACE : Fld := ⟨0x1, 0x84, 2, 1, 0x0, .ro, 1, 4, .live⟩
/-- R274. 0 in service, 1 DRAINING, 2 DRAINED; 3 is never shown. -/
def BRW_WAFER_Q_STATE : Fld := ⟨0x1, 0x84, 0, 2, 0x0, .ro, 1, 4, .live⟩
/-- R274. unit whose table is presented; a write latches a copy of the table as it stands in the active Brewhouse, entries staged but not yet programmed included (R257). -/
def BRW_HIST_PUID_PUID : Fld := ⟨0x1, 0x88, 0, 32, 0x0, .rw, 1, 4, .live⟩
/-- R274. 0 header; 1–16 entries, newest first; 17–31 present zero. -/
def BRW_HIST_SEL_ENTRY : Fld := ⟨0x1, 0x8C, 0, 5, 0x0, .rw, 1, 4, .live⟩
/-- R274. words 0–3 of the selected header or entry in the latched copy; a read of WIN3 advances ENTRY by one, up to 16. -/
def BRW_HIST_WIN : Fld := ⟨0x1, 0x90, 0, 128, 0x0, .ro, 1, 4, .live⟩
/-- R274. an entry was dropped (R257). -/
def BRW_HIST_STAT_FULL : Fld := ⟨0x1, 0xA0, 31, 1, 0x0, .w1c, 1, 4, .live⟩
/-- R274. a table exists for BRW_HIST_PUID. -/
def BRW_HIST_STAT_FOUND : Fld := ⟨0x1, 0xA0, 30, 1, 0x0, .ro, 1, 4, .live⟩
/-- R274. tables in use, 0–65,536. -/
def BRW_HIST_STAT_TABLES : Fld := ⟨0x1, 0xA0, 0, 17, 0x0, .ro, 1, 4, .live⟩
/-- R311. per channel: SUSPECT. -/
def CEL_STAT_SUSPECT : Fld := ⟨0x12, 0x40, 16, 16, 0x0, .ro, 1, 4, .live⟩
/-- R311. the save area was restored at the last reset exit. -/
def CEL_STAT_RESTORED : Fld := ⟨0x12, 0x40, 7, 1, 0x0, .ro, 1, 4, .live⟩
/-- R311. CL_REF_MULT driven. -/
def CEL_STAT_REFMULT : Fld := ⟨0x12, 0x40, 4, 2, 0x0, .ro, 1, 4, .live⟩
/-- R311. kiln band of the Cellar's sensor, 0–5. -/
def CEL_STAT_BAND : Fld := ⟨0x12, 0x40, 0, 3, 0x0, .ro, 1, 4, .live⟩
/-- R311. per channel: 1 clears SUSPECT under R283. -/
def CEL_CH_CTRL_CLEAR : Fld := ⟨0x12, 0x44, 16, 16, 0x0, .wo, 1, 4, .live⟩
/-- R311. per channel: drives CL_CH_FENCE; writing 0 for a PERMANENT channel is ignored. Reset: from defect map. -/
def CEL_CH_CTRL_FENCE : Fld := ⟨0x12, 0x44, 0, 16, 0x0, .rw, 1, 4, .live⟩
/-- R311. scrub period in hours, 1–168; other values are ignored. -/
def CEL_SCRUB_CFG_PERIOD_H : Fld := ⟨0x12, 0x48, 0, 8, 0x18, .rw, 1, 4, .live⟩
/-- R311. next channel. -/
def CEL_SCRUB_POS_CH : Fld := ⟨0x12, 0x4C, 28, 4, 0x0, .ro, 1, 4, .live⟩
/-- R311. next granule. -/
def CEL_SCRUB_POS_GRAN : Fld := ⟨0x12, 0x4C, 0, 28, 0x0, .ro, 1, 4, .live⟩
/-- R311. passes since reset. -/
def CEL_SCRUB_PASS_COUNT : Fld := ⟨0x12, 0x50, 0, 32, 0x0, .ro, 1, 4, .running⟩
/-- R311. late passes since reset. -/
def CEL_SCRUB_LATE_COUNT : Fld := ⟨0x12, 0x54, 0, 32, 0x0, .ro, 1, 4, .running⟩
/-- R311. correctable errors per channel per pass before 0x5003. -/
def CEL_CE_CFG_LIMIT : Fld := ⟨0x12, 0x58, 0, 16, 0x400, .rw, 1, 4, .live⟩
/-- R311. channel for 0x064 and 0x068. -/
def CEL_ECC_SEL_CH : Fld := ⟨0x12, 0x60, 0, 4, 0x0, .rw, 1, 4, .live⟩
/-- R311. epoch: correctable errors on the channel, on host and maintenance reads alike, one per granule named (R600). -/
def CEL_ECC_CE_COUNT : Fld := ⟨0x12, 0x64, 0, 32, 0x0, .ro, 1, 4, .epoch⟩
/-- R311. epoch: uncorrectable errors on the channel, on host and maintenance reads alike, scans included, one per granule named (R600). -/
def CEL_ECC_UE_COUNT : Fld := ⟨0x12, 0x68, 0, 32, 0x0, .ro, 1, 4, .epoch⟩
/-- R311. epoch: write-backs skipped (R285). -/
def CEL_ECC_RACE_COUNT : Fld := ⟨0x12, 0x6C, 0, 32, 0x0, .ro, 1, 4, .epoch⟩
/-- R311. a channel became SUSPECT by overflow. -/
def CEL_PSN_STAT_OVF : Fld := ⟨0x12, 0x70, 31, 1, 0x0, .w1c, 1, 4, .live⟩
/-- R311. granule entries, 0–65,536. -/
def CEL_PSN_STAT_ENTRIES : Fld := ⟨0x12, 0x70, 0, 17, 0x0, .ro, 1, 4, .live⟩
/-- R311. range entries in use, 0–16. -/
def CEL_PSN_RANGES_USED : Fld := ⟨0x12, 0x74, 0, 5, 0x0, .ro, 1, 4, .live⟩
/-- R311. map position for 0x07C and 0x080; a read of 0x080 advances it. -/
def CEL_PSN_SEL_INDEX : Fld := ⟨0x12, 0x78, 0, 16, 0x0, .rw, 1, 4, .live⟩
/-- R311. entry bits [31:0]; zero when unused; high word: entry bits [63:32]. -/
def CEL_PSN_ENTRY : Fld := ⟨0x12, 0x7C, 0, 64, 0x0, .ro, 1, 4, .live⟩
/-- R311. range entry. -/
def CEL_RNG_SEL_INDEX : Fld := ⟨0x12, 0x84, 0, 4, 0x0, .rw, 1, 4, .live⟩
/-- R311. range bits [31:0]; high word: range bits [63:32]. -/
def CEL_RNG_ENTRY : Fld := ⟨0x12, 0x88, 0, 64, 0x0, .ro, 1, 4, .live⟩
/-- R311. repairs queued, 0–64. -/
def CEL_REP_STAT_QUEUED : Fld := ⟨0x12, 0x90, 16, 8, 0x0, .ro, 1, 4, .live⟩
/-- R311. repairs running, 0–4. -/
def CEL_REP_STAT_RUNNING : Fld := ⟨0x12, 0x90, 0, 3, 0x0, .ro, 1, 4, .live⟩
/-- R311. epoch: repairs completed. -/
def CEL_REP_DONE_COUNT : Fld := ⟨0x12, 0x94, 0, 32, 0x0, .ro, 1, 4, .epoch⟩
/-- R311. epoch: repairs failed or dropped. -/
def CEL_REP_FAIL_COUNT : Fld := ⟨0x12, 0x98, 0, 32, 0x0, .ro, 1, 4, .epoch⟩
/-- R311. rotations completed since reset. -/
def CEL_DIG_ROT_COUNT : Fld := ⟨0x12, 0xA0, 0, 32, 0x0, .ro, 1, 4, .running⟩
/-- R311. ticks into the current rotation. -/
def CEL_DIG_TICK_COUNT : Fld := ⟨0x12, 0xA4, 0, 32, 0x0, .ro, 1, 4, .live⟩
/-- R311. B of the current rotation. -/
def CEL_DIG_BPT_BYTES : Fld := ⟨0x12, 0xA8, 0, 32, 0x0, .ro, 1, 4, .live⟩
/-- R311. allowance not yet digested. -/
def CEL_DIG_LAG_BYTES : Fld := ⟨0x12, 0xAC, 0, 32, 0x0, .ro, 1, 4, .live⟩
/-- R311. a rotation exceeded R ticks. -/
def CEL_DIG_STAT_LATE : Fld := ⟨0x12, 0xB0, 31, 1, 0x0, .w1c, 1, 4, .live⟩
/-- R311. posture of the current rotation, coded as TAP_RES_STAT.POSTURE. -/
def CEL_DIG_STAT_POSTURE : Fld := ⟨0x12, 0xB0, 0, 2, 0x1, .ro, 1, 4, .live⟩
/-- R311. epoch: comparisons that agreed. -/
def CEL_DIG_CMP_COUNT : Fld := ⟨0x12, 0xB4, 0, 32, 0x0, .ro, 1, 4, .epoch⟩
/-- R311. epoch: comparisons that disagreed. -/
def CEL_DIG_MISM_COUNT : Fld := ⟨0x12, 0xB8, 0, 32, 0x0, .ro, 1, 4, .epoch⟩
/-- R311. epoch: digests with no copy to compare. -/
def CEL_DIG_UNCMP_COUNT : Fld := ⟨0x12, 0xBC, 0, 32, 0x0, .ro, 1, 4, .epoch⟩
/-- R311. epoch: slices skipped (R289). -/
def CEL_DIG_SKIP_COUNT : Fld := ⟨0x12, 0xC0, 0, 32, 0x0, .ro, 1, 4, .epoch⟩
/-- R311. epoch: records ignored or absorbed. -/
def CEL_DIG_IGN_COUNT : Fld := ⟨0x12, 0xC4, 0, 32, 0x0, .ro, 1, 4, .epoch⟩
/-- R311. channel for 0x0D4–0x0F0. -/
def CEL_BYTES_SEL_CH : Fld := ⟨0x12, 0xD0, 0, 4, 0x0, .rw, 1, 4, .live⟩
/-- R311. DELIV [31:0], [63:32]; a read of LO latches HI. -/
def CEL_BYTES_DELIV : Fld := ⟨0x12, 0xD4, 0, 64, 0x0, .ro, 1, 4, .running⟩
/-- R311. SAVED, as above. -/
def CEL_BYTES_SAVED : Fld := ⟨0x12, 0xDC, 0, 64, 0x0, .ro, 1, 4, .running⟩
/-- R311. WRITTEN, as above. -/
def CEL_BYTES_WRITTEN : Fld := ⟨0x12, 0xE4, 0, 64, 0x0, .ro, 1, 4, .running⟩
/-- R311. MAINT, as above. -/
def CEL_BYTES_MAINT : Fld := ⟨0x12, 0xEC, 0, 64, 0x0, .ro, 1, 4, .running⟩
/-- R312. table entry. -/
def CEL_SLICE_SEL_INDEX : Fld := ⟨0x12, 0x500, 0, 14, 0x0, .rw, 1, 4, .live⟩
/-- R312. 0 idle, 1 busy, 2 done, 3 refused: state, 4 refused: field or overlap, 5–7 never shown. -/
def CEL_SLICE_CMD_STATUS : Fld := ⟨0x12, 0x504, 8, 3, 0x0, .ro, 1, 4, .live⟩
/-- R312. 1 WRITE the staged bytes 0–63 into an EMPTY entry, which then becomes LOADING; 2 VERIFY a LOADING entry; 3 DROP; 4 REDIGEST a VALID or DOUBT entry now; others ignored. -/
def CEL_SLICE_CMD_OP : Fld := ⟨0x12, 0x504, 0, 3, 0x0, .wo, 1, 4, .live⟩
/-- R312. entries in VALID. -/
def CEL_SLICE_COUNT_VALID : Fld := ⟨0x12, 0x508, 16, 15, 0x0, .ro, 1, 4, .live⟩
/-- R312. entries not EMPTY. -/
def CEL_SLICE_COUNT_USED : Fld := ⟨0x12, 0x508, 0, 15, 0x0, .ro, 1, 4, .live⟩
/-- R312. V of the current rotation. -/
def CEL_SLICE_V : Fld := ⟨0x12, 0x50C, 0, 64, 0x0, .ro, 1, 4, .live⟩
/-- R312. staging of entry bytes 0–63; STATE, VALIDITY and ROT are taken as zero. -/
def CEL_SLICE_STAGE : Fld := ⟨0x12, 0x600, 0, 512, 0x0, .wo, 1, 4, .live⟩
/-- R313. 0 Direct, 1 Server. -/
def BRW_DIG_CTRL_JOIN : Fld := ⟨0x1, 0xC0, 0, 1, 0x0, .rw, 1, 4, .live⟩
/-- R313. wafer identifier; 0 disables exchange. -/
def BRW_DIG_WAFER_ID : Fld := ⟨0x1, 0xC4, 0, 32, 0x0, .rw, 1, 4, .live⟩
/-- R313. longest interval between ticks, µs of wall time; 0 reads back as 1. -/
def BRW_DIG_TICK_MAX_US : Fld := ⟨0x1, 0xC8, 16, 16, 0x190, .rw, 1, 4, .live⟩
/-- R313. shortest interval; a value above MAX_US acts as MAX_US. -/
def BRW_DIG_TICK_MIN_US : Fld := ⟨0x1, 0xC8, 0, 16, 0x190, .rw, 1, 4, .live⟩
/-- R313. ticks since the last chip reset. -/
def BRW_DIG_TICKS_COUNT : Fld := ⟨0x1, 0xCC, 0, 32, 0x0, .ro, 1, 4, .running⟩
/-- R313. peer 0, 1, 2 identifier. -/
def BRW_DIG_PEER_ID_WAFER : Fld := ⟨0x1, 0xD0, 0, 32, 0x0, .rw, 3, 8, .live⟩
/-- R313. peer listed. -/
def BRW_DIG_PEER_DOOR_VALID : Fld := ⟨0x1, 0xD4, 31, 1, 0x0, .rw, 3, 8, .live⟩
/-- R313. Door 0–83; other values leave the peer unlisted. -/
def BRW_DIG_PEER_DOOR_DOOR : Fld := ⟨0x1, 0xD4, 0, 7, 0x0, .rw, 3, 8, .live⟩
/-- R313. servers reachable. -/
def BRW_DIG_SERVER_VALID : Fld := ⟨0x1, 0xE8, 31, 1, 0x0, .rw, 1, 4, .live⟩
/-- R313. Door 84–95. -/
def BRW_DIG_SERVER_DOOR : Fld := ⟨0x1, 0xE8, 0, 7, 0x54, .rw, 1, 4, .live⟩
/-- R350. physical core under steep, valid with ACTIVE. -/
def TST_STP_STAT_CORE : Fld := ⟨0x13, 0x240, 22, 10, 0x0, .ro, 1, 4, .live⟩
/-- R350. a steep runs. -/
def TST_STP_STAT_ACTIVE : Fld := ⟨0x13, 0x240, 21, 1, 0x0, .ro, 1, 4, .live⟩
/-- R350. slice running, counted from 1 across the whole steep with the Tap's slices first, 1–34. -/
def TST_STP_STAT_SLICE : Fld := ⟨0x13, 0x240, 15, 6, 0x0, .ro, 1, 4, .live⟩
/-- R350. queue entries. -/
def TST_STP_STAT_QUEUE : Fld := ⟨0x13, 0x240, 0, 11, 0x0, .ro, 1, 4, .live⟩
/-- R350. epoch: steeps completed. -/
def TST_STP_DONE_COUNT : Fld := ⟨0x13, 0x244, 0, 32, 0x0, .ro, 1, 4, .epoch⟩
/-- R350. epoch: steeps failed. -/
def TST_STP_FAIL_COUNT : Fld := ⟨0x13, 0x248, 0, 32, 0x0, .ro, 1, 4, .epoch⟩
/-- R350. epoch: slices aborted. -/
def TST_STP_ABORT_COUNT : Fld := ⟨0x13, 0x24C, 0, 32, 0x0, .ro, 1, 4, .epoch⟩
/-- R350. epoch: attempts deferred. -/
def TST_STP_DEFER_COUNT : Fld := ⟨0x13, 0x250, 0, 32, 0x0, .ro, 1, 4, .epoch⟩
/-- R350. cores now overdue. -/
def TST_STP_OVERDUE_COUNT : Fld := ⟨0x13, 0x254, 0, 11, 0x0, .ro, 1, 4, .live⟩
/-- R350. core for 0x25C and 0x260. -/
def TST_STP_SEL_CORE : Fld := ⟨0x13, 0x258, 0, 10, 0x0, .rw, 1, 4, .live⟩
/-- R350. operating time of the selected core's last completed steep; 0 when none. -/
def TST_STP_LAST_OPTIME : Fld := ⟨0x13, 0x25C, 0, 32, 0x0, .ro, 1, 4, .live⟩
/-- R350. slices passed toward the current steep, the Tap's slices included, 0–34. -/
def TST_STP_CORE_PASSED : Fld := ⟨0x13, 0x260, 3, 6, 0x0, .ro, 1, 4, .live⟩
/-- R350. the next steep includes the Tap. -/
def TST_STP_CORE_TAPDUE : Fld := ⟨0x13, 0x260, 2, 1, 0x0, .ro, 1, 4, .live⟩
/-- R350. the core awaits a forced steep. -/
def TST_STP_CORE_FORCED : Fld := ⟨0x13, 0x260, 1, 1, 0x0, .ro, 1, 4, .live⟩
/-- R350. the core is overdue. -/
def TST_STP_CORE_OVERDUE : Fld := ⟨0x13, 0x260, 0, 1, 0x0, .ro, 1, 4, .live⟩
/-- R351. analogue period in minutes, 10–240; other values ignored. -/
def BRW_STP_PERIOD_ANA_MIN : Fld := ⟨0x1, 0x100, 24, 8, 0x3C, .rw, 1, 4, .live⟩
/-- R351. Tap, Taster, Cellar and Door period in hours, 4–24; other values ignored. -/
def BRW_STP_PERIOD_UNIT_H : Fld := ⟨0x1, 0x100, 16, 8, 0x18, .rw, 1, 4, .live⟩
/-- R351. core period in hours, 1–4; other values ignored. -/
def BRW_STP_PERIOD_CORE_H : Fld := ⟨0x1, 0x100, 0, 3, 0x4, .rw, 1, 4, .live⟩
/-- R351. core rotations since the last chip reset. -/
def BRW_STP_ROT_COUNT : Fld := ⟨0x1, 0x104, 0, 32, 0x0, .ro, 1, 4, .running⟩
/-- R351. cores overdue wafer-wide. -/
def BRW_STP_OVERDUE_COUNT : Fld := ⟨0x1, 0x108, 0, 32, 0x0, .ro, 1, 4, .live⟩
/-- R351. active package version; 0 when none. Reset: from flash. -/
def BRW_GRIST_ACTIVE_VERSION : Fld := ⟨0x1, 0x10C, 0, 32, 0x0, .ro, 1, 4, .live⟩
/-- R351. staged package version; 0 when none. Reset: from flash. -/
def BRW_GRIST_STAGED_VERSION : Fld := ⟨0x1, 0x110, 0, 32, 0x0, .ro, 1, 4, .live⟩
/-- R351. region stores holding the committed package, 0–42. -/
def BRW_GRIST_STAT_STORES : Fld := ⟨0x1, 0x114, 16, 8, 0x0, .ro, 1, 4, .live⟩
/-- R351. reason of the last rejection, per R347. -/
def BRW_GRIST_STAT_REASON : Fld := ⟨0x1, 0x114, 8, 4, 0x0, .ro, 1, 4, .live⟩
/-- R351. 0 idle, 1 receiving, 2 verifying, 3 staged, 4 rejected, 5 committed, awaiting rotation; 6–7 never shown. -/
def BRW_GRIST_STAT_STATE : Fld := ⟨0x1, 0x114, 0, 3, 0x0, .ro, 1, 4, .live⟩
/-- R351. core design identifier. Reset: from variant record. -/
def BRW_GRIST_TARGET_ID : Fld := ⟨0x1, 0x118, 0, 32, 0x0, .ro, 1, 4, .live⟩
/-- R351. rotation at which the active package took effect. -/
def BRW_GRIST_ACTROT_COUNT : Fld := ⟨0x1, 0x11C, 0, 32, 0x0, .ro, 1, 4, .live⟩
/-- R352. per channel: 1 starts a march (R335). -/
def CEL_STP_CTRL_CHSTEEP : Fld := ⟨0x12, 0x100, 0, 16, 0x0, .wo, 1, 4, .live⟩
/-- R352. per channel: a march runs. -/
def CEL_STP_STAT_BUSY : Fld := ⟨0x12, 0x104, 16, 16, 0x0, .ro, 1, 4, .live⟩
/-- R352. per channel: a march has passed since the channel became SUSPECT. -/
def CEL_STP_STAT_PASS : Fld := ⟨0x12, 0x104, 0, 16, 0x0, .ro, 1, 4, .live⟩
/-- R352. last completed Cellar steep. -/
def CEL_STP_LAST_OPTIME : Fld := ⟨0x12, 0x108, 0, 32, 0x0, .ro, 1, 4, .live⟩
/-- R352. per lane: held down after a failed loop-back. -/
def DOR_STP_STAT_HELD : Fld := ⟨0x11, 0x100, 4, 4, 0x0, .ro, 1, 4, .live⟩
/-- R352. per lane: in loop-back now. -/
def DOR_STP_STAT_LOOP : Fld := ⟨0x11, 0x100, 0, 4, 0x0, .ro, 1, 4, .live⟩
/-- R352. last completed Door steep. -/
def DOR_STP_LAST_OPTIME : Fld := ⟨0x11, 0x104, 0, 32, 0x0, .ro, 1, 4, .live⟩
/-- R387. LIMIT of class n, at 0x040 + 4·n. Reset: per R356. -/
def HAL_TMO_CLASS_LIMIT : Fld := ⟨0x10, 0x40, 0, 32, 0x0, .rw, 16, 4, .live⟩
/-- R387. epoch: commands expired. -/
def HAL_TMO_CNT_COUNT : Fld := ⟨0x10, 0x80, 0, 32, 0x0, .ro, 1, 4, .epoch⟩
/-- R387. epoch: completions in the expiry cycle (R357). -/
def HAL_TMO_LATE_COUNT : Fld := ⟨0x10, 0x84, 0, 32, 0x0, .ro, 1, 4, .epoch⟩
/-- R387. stall limit in ms of wall time, 10–1,000; other values ignored. -/
def HAL_STALL_CFG_MS : Fld := ⟨0x10, 0x88, 0, 16, 0x32, .rw, 1, 4, .live⟩
/-- R387. reset in progress in the region: 0 none, 1 core, 2 engine, 3 partition. -/
def HAL_RST_STAT_LEVEL : Fld := ⟨0x10, 0x8C, 28, 4, 0x0, .ro, 1, 4, .live⟩
/-- R387. step of R374 in progress. -/
def HAL_RST_STAT_STEP : Fld := ⟨0x10, 0x8C, 24, 4, 0x0, .ro, 1, 4, .live⟩
/-- R387. the selected cluster has a replay set. -/
def HAL_RPL_STAT_ACTIVE : Fld := ⟨0x10, 0x90, 31, 1, 0x0, .ro, 1, 4, .live⟩
/-- R387. suspects not yet cleared or killed, 0–1,024. -/
def HAL_RPL_STAT_REMAIN : Fld := ⟨0x10, 0x90, 20, 11, 0x0, .ro, 1, 4, .live⟩
/-- R387. suspect under replay. -/
def HAL_RPL_STAT_CTX : Fld := ⟨0x10, 0x90, 0, 12, 0x0, .ro, 1, 4, .live⟩
/-- R387. cluster of the region: 0–9 north field j, 10–19 south field j + 10; 20–31 read as zero. -/
def HAL_RPL_SEL_CLUSTER : Fld := ⟨0x10, 0x94, 0, 5, 0x0, .rw, 1, 4, .live⟩
/-- R387. epoch: suspects killed under R369. -/
def HAL_HANG_CNT_GUILTY : Fld := ⟨0x10, 0x98, 16, 16, 0x0, .ro, 1, 4, .epoch⟩
/-- R387. epoch: hangs recorded under R370. -/
def HAL_HANG_CNT_TRANSIENT : Fld := ⟨0x10, 0x98, 0, 16, 0x0, .ro, 1, 4, .epoch⟩
/-- R387. epoch: core resets. -/
def HAL_RST_CORE_COUNT : Fld := ⟨0x10, 0x9C, 0, 32, 0x0, .ro, 1, 4, .epoch⟩
/-- R387. engine resets since the last chip reset. -/
def HAL_RST_ENGINE_COUNT : Fld := ⟨0x10, 0xA0, 0, 32, 0x0, .ro, 1, 4, .running⟩
/-- R387. partition resets since the last chip reset. -/
def HAL_RST_PART_COUNT : Fld := ⟨0x10, 0xA4, 0, 16, 0x0, .ro, 1, 4, .running⟩
/-- R387. bytes absorbed for the region under R364, plus the closing counts of the region's Tasters and Doors added under R365; reset only by a chip reset; a read of LO latches HI. -/
def HAL_ABS_BYTES : Fld := ⟨0x10, 0xA8, 0, 64, 0x0, .ro, 1, 4, .running⟩
/-- R387. retired bytes discarded in the region; as above. -/
def HAL_RET_BYTES : Fld := ⟨0x10, 0xB0, 0, 64, 0x0, .ro, 1, 4, .running⟩
/-- R387. per neighbour N, E, S, W: HL_ISO_N driven low. -/
def HAL_PWR_ISO : Fld := ⟨0x10, 0xB8, 4, 4, 0x0, .ro, 1, 4, .live⟩
/-- R387. the region is LOST. -/
def HAL_PWR_LOST : Fld := ⟨0x10, 0xB8, 3, 1, 0x0, .ro, 1, 4, .live⟩
/-- R387. over-current latched. -/
def HAL_PWR_OC : Fld := ⟨0x10, 0xB8, 2, 1, 0x0, .ro, 1, 4, .live⟩
/-- R387. power-good loss latched. -/
def HAL_PWR_PGLOSS : Fld := ⟨0x10, 0xB8, 1, 1, 0x0, .ro, 1, 4, .live⟩
/-- R387. RGN_PG now. -/
def HAL_PWR_PG : Fld := ⟨0x10, 0xB8, 0, 1, 0x0, .ro, 1, 4, .live⟩
/-- R388. core that expired first in the current set. -/
def TST_HANG_STAT_CORE : Fld := ⟨0x13, 0x280, 22, 10, 0x0, .ro, 1, 4, .live⟩
/-- R388. TS_HOLD driven. -/
def TST_HANG_STAT_HOLD : Fld := ⟨0x13, 0x280, 21, 1, 0x0, .ro, 1, 4, .live⟩
/-- R388. TS_ABSORB driven. -/
def TST_HANG_STAT_ABSORB : Fld := ⟨0x13, 0x280, 20, 1, 0x0, .ro, 1, 4, .live⟩
/-- R388. TS_DRAIN driven. -/
def TST_HANG_STAT_DRAIN : Fld := ⟨0x13, 0x280, 19, 1, 0x0, .ro, 1, 4, .live⟩
/-- R388. TS_HOLD_ALLOW. -/
def TST_HANG_STAT_ALLOW : Fld := ⟨0x13, 0x280, 0, 12, 0x0, .ro, 1, 4, .live⟩
/-- R388. epoch: hang reports received. -/
def TST_HANG_CNT_COUNT : Fld := ⟨0x13, 0x284, 0, 32, 0x0, .ro, 1, 4, .epoch⟩
/-- R388. epoch: core resets. -/
def TST_RST_CORE_COUNT : Fld := ⟨0x13, 0x288, 0, 32, 0x0, .ro, 1, 4, .epoch⟩
/-- R388. engine resets since the last chip reset. -/
def TST_RST_ENGINE_COUNT : Fld := ⟨0x13, 0x28C, 0, 32, 0x0, .ro, 1, 4, .running⟩
/-- R388. bytes absorbed at the cluster's scopes; a read of LO latches HI. -/
def TST_ABS_BYTES : Fld := ⟨0x13, 0x290, 0, 64, 0x0, .ro, 1, 4, .running⟩
/-- R388. retired bytes discarded; as above. -/
def TST_RET_BYTES : Fld := ⟨0x13, 0x298, 0, 64, 0x0, .ro, 1, 4, .running⟩
/-- R388. epoch: retired blocks discarded. -/
def TST_RET_BLOCKS_COUNT : Fld := ⟨0x13, 0x2A0, 0, 32, 0x0, .ro, 1, 4, .epoch⟩
/-- R389. widest level of the last escalation: 2 engine, 3 partition, 4 chip, 5 power cycle; 0 none. Reset: from flash. -/
def BRW_RST_STAT_LAST : Fld := ⟨0x1, 0x140, 28, 4, 0x0, .ro, 1, 4, .live⟩
/-- R389. power cycles requested in the last 24 hours of operating time. Reset: from flash. -/
def BRW_RST_STAT_PCWIN : Fld := ⟨0x1, 0x140, 0, 4, 0x0, .ro, 1, 4, .live⟩
/-- R389. chip resets ever made. Reset: from flash. -/
def BRW_RST_CHIP_COUNT : Fld := ⟨0x1, 0x144, 0, 32, 0x0, .ro, 1, 4, .live⟩
/-- R389. power cycles ever requested by Onasen. Reset: from flash. -/
def BRW_PWRCYC_COUNT : Fld := ⟨0x1, 0x148, 0, 32, 0x0, .ro, 1, 4, .live⟩
/-- R389. R380. -/
def BRW_PWRCYC_CFG_LIMIT : Fld := ⟨0x1, 0x14C, 0, 4, 0x2, .rw2k, 1, 4, .live⟩
/-- R389. identifiers retired and not yet free. -/
def BRW_RET_STAT_RETIRED : Fld := ⟨0x1, 0x150, 0, 13, 0x0, .ro, 1, 4, .live⟩
/-- R389. context for BRW_RET_Q. -/
def BRW_RET_SEL_CTX : Fld := ⟨0x1, 0x154, 0, 12, 0x0, .rw, 1, 4, .live⟩
/-- R389. 0 free, 1 in use, 2 retired; 3 is never shown. -/
def BRW_RET_Q_STATE : Fld := ⟨0x1, 0x158, 0, 2, 0x0, .ro, 1, 4, .live⟩
/-- R389. regions 0–31 LOST; high word: regions 32–41 LOST. -/
def BRW_LOST_REGIONS : Fld := ⟨0x1, 0x15C, 0, 42, 0x0, .ro, 1, 4, .live⟩
/-- R432. 1 starts a COUNT cut. -/
def BRW_CUT_CTRL_GO : Fld := ⟨0x1, 0x180, 31, 1, 0x0, .wo, 1, 4, .live⟩
/-- R432. 1 requests a global stop (R403). -/
def BRW_CUT_CTRL_STOP : Fld := ⟨0x1, 0x180, 30, 1, 0x0, .wo, 1, 4, .live⟩
/-- R432. 1 ends a global stop. -/
def BRW_CUT_CTRL_RESUME : Fld := ⟨0x1, 0x180, 29, 1, 0x0, .wo, 1, 4, .live⟩
/-- R432. longest stop, in s of wall time; 0 means no limit. -/
def BRW_CUT_CFG_STOP_MAX_S : Fld := ⟨0x1, 0x184, 16, 16, 0xA, .rw, 1, 4, .live⟩
/-- R432. cut period, in ms of wall time, 10–10,000; other values are ignored. -/
def BRW_CUT_CFG_PERIOD_MS : Fld := ⟨0x1, 0x184, 0, 16, 0x64, .rw, 1, 4, .live⟩
/-- R432. number of the last completed cut. -/
def BRW_CUT_EPOCH_DONE : Fld := ⟨0x1, 0x188, 0, 32, 0x0, .ro, 1, 4, .live⟩
/-- R432. a cut runs. -/
def BRW_CUT_STAT_BUSY : Fld := ⟨0x1, 0x18C, 31, 1, 0x0, .ro, 1, 4, .live⟩
/-- R432. a global stop is complete and in force. -/
def BRW_CUT_STAT_STOPPED : Fld := ⟨0x1, 0x18C, 30, 1, 0x0, .ro, 1, 4, .live⟩
/-- R432. a request was ignored (R401, R406). -/
def BRW_CUT_STAT_OVERRUN : Fld := ⟨0x1, 0x18C, 29, 1, 0x0, .w1c, 1, 4, .live⟩
/-- R432. a cut was late or flagged units. -/
def BRW_CUT_STAT_LATE : Fld := ⟨0x1, 0x18C, 28, 1, 0x0, .w1c, 1, 4, .live⟩
/-- R432. units flagged in the last cut, saturating. -/
def BRW_CUT_STAT_FLAGGED : Fld := ⟨0x1, 0x18C, 0, 16, 0x0, .ro, 1, 4, .live⟩
/-- R432. wall time at which the last completed cut began; a read of LO latches HI. -/
def BRW_CUT_TIME_NS : Fld := ⟨0x1, 0x190, 0, 64, 0x0, .ro, 1, 4, .live⟩
/-- R432. duration of the last completed cut, in 10 ns units. -/
def BRW_CUT_DUR_TICKS : Fld := ⟨0x1, 0x198, 0, 32, 0x0, .ro, 1, 4, .live⟩
/-- R432. audits failed since the last chip reset. -/
def BRW_AUD_FAIL_COUNT : Fld := ⟨0x1, 0x19C, 0, 32, 0x0, .ro, 1, 4, .running⟩
/-- R433. L0 bytes read; a read of LO latches HI. -/
def TAP_L0_RD_BYTES : Fld := ⟨0x14, 0x80, 0, 64, 0x0, .ro, 1, 4, .running⟩
/-- R433. L0 bytes written; as above. -/
def TAP_L0_WR_BYTES : Fld := ⟨0x14, 0x88, 0, 64, 0x0, .ro, 1, 4, .running⟩
/-- R433. L1 bytes read; as above. -/
def TST_L1_RD_BYTES : Fld := ⟨0x13, 0x2C0, 0, 64, 0x0, .ro, 1, 4, .running⟩
/-- R433. L1 bytes written; as above. -/
def TST_L1_WR_BYTES : Fld := ⟨0x13, 0x2C8, 0, 64, 0x0, .ro, 1, 4, .running⟩
/-- R433. TST_ATB_CTRL writes the bin in every Taster. -/
def TST_ATB_SEL_BCAST : Fld := ⟨0x13, 0x300, 31, 1, 0x0, .rw, 1, 4, .live⟩
/-- R433. bin. -/
def TST_ATB_SEL_BIN : Fld := ⟨0x13, 0x300, 0, 6, 0x0, .rw, 1, 4, .live⟩
/-- R433. LVAL. -/
def TST_ATB_MATCH_LAYER : Fld := ⟨0x13, 0x304, 16, 16, 0x0, .rw, 1, 4, .live⟩
/-- R433. OVAL. -/
def TST_ATB_MATCH_OP : Fld := ⟨0x13, 0x304, 0, 16, 0x0, .rw, 1, 4, .live⟩
/-- R433. LMASK. -/
def TST_ATB_MASK_LAYER : Fld := ⟨0x13, 0x308, 16, 16, 0x0, .rw, 1, 4, .live⟩
/-- R433. OMASK. -/
def TST_ATB_MASK_OP : Fld := ⟨0x13, 0x308, 0, 16, 0x0, .rw, 1, 4, .live⟩
/-- R433. a write applies MATCH, MASK and EN to the selected bin. -/
def TST_ATB_CTRL_EN : Fld := ⟨0x13, 0x30C, 0, 1, 0x0, .rw, 1, 4, .live⟩
/-- R433. counter of the bank. -/
def TST_CNT_SEL_INDEX : Fld := ⟨0x13, 0x340, 0, 7, 0x0, .rw, 1, 4, .live⟩
/-- R433. bin filter (R410). -/
def TST_CNT_CFG_BIN : Fld := ⟨0x13, 0x344, 8, 7, 0x40, .rw, 1, 4, .live⟩
/-- R433. event (R410); a write clears the counter. -/
def TST_CNT_CFG_EVENT : Fld := ⟨0x13, 0x344, 0, 6, 0x0, .rw, 1, 4, .live⟩
/-- R433. selected counter; a read of LO latches HI. -/
def TST_CNT_COUNT : Fld := ⟨0x13, 0x348, 0, 64, 0x0, .ro, 1, 4, .running⟩
/-- R434. 0 TXI, 1 TXO, 2 APP, 3 INS, 4 ABS_TX, 5 RXI, 6 RXO, 7 DIV, 8 STRIP, 9 ABS_RX, 10–13 lane 0–3, 14 retired bytes, 15 reads zero. -/
def DOR_BYTES_SEL_SEL : Fld := ⟨0x11, 0x140, 0, 4, 0x0, .rw, 1, 4, .live⟩
/-- R434. selected count; a read of LO latches HI. -/
def DOR_BYTES_BYTES : Fld := ⟨0x11, 0x144, 0, 64, 0x0, .ro, 1, 4, .running⟩
/-- R434. HELD_RX at the marker. -/
def DOR_HELD_RX : Fld := ⟨0x11, 0x14C, 16, 16, 0x0, .ro, 1, 4, .live⟩
/-- R434. HELD_TX at the marker. -/
def DOR_HELD_TX : Fld := ⟨0x11, 0x14C, 0, 16, 0x0, .ro, 1, 4, .live⟩
/-- R434. ISS; as above. -/
def DOR_CR_ISS_COUNT : Fld := ⟨0x11, 0x150, 0, 64, 0x0, .ro, 1, 4, .running⟩
/-- R434. RET; as above. -/
def DOR_CR_RET_COUNT : Fld := ⟨0x11, 0x158, 0, 64, 0x0, .ro, 1, 4, .running⟩
/-- R434. CONS; as above. -/
def DOR_CR_CONS_COUNT : Fld := ⟨0x11, 0x160, 0, 64, 0x0, .ro, 1, 4, .running⟩
/-- R434. OCC at the marker. -/
def DOR_CR_CAP_OCC : Fld := ⟨0x11, 0x168, 16, 16, 0x0, .ro, 1, 4, .live⟩
/-- R434. CAP. Reset: from variant record. -/
def DOR_CR_CAP_CAP : Fld := ⟨0x11, 0x168, 0, 16, 0x0, .ro, 1, 4, .live⟩
/-- R434. the link is Shuttered. -/
def DOR_AUD_STAT_SHUTTERED : Fld := ⟨0x11, 0x16C, 31, 1, 0x0, .ro, 1, 4, .live⟩
/-- R434. the accounts are void or frozen. -/
def DOR_AUD_STAT_VOID : Fld := ⟨0x11, 0x16C, 30, 1, 0x0, .ro, 1, 4, .live⟩
/-- R434. failed audit: [0] transmit bytes, [1] receive bytes, [2] credits. -/
def DOR_AUD_STAT_FAILED : Fld := ⟨0x11, 0x16C, 0, 3, 0x0, .w1c, 1, 4, .live⟩
/-- R434. epoch: blocks of retired contexts absorbed. -/
def DOR_RET_BLOCKS_COUNT : Fld := ⟨0x11, 0x170, 0, 32, 0x0, .ro, 1, 4, .epoch⟩
/-- R434. IN of the gate in HCH_SEL; as above. -/
def HCH_IN_BYTES : Fld := ⟨0xB, 0x60, 0, 64, 0x0, .ro, 1, 4, .running⟩
/-- R434. OUT; as above. -/
def HCH_OUT_BYTES : Fld := ⟨0xB, 0x68, 0, 64, 0x0, .ro, 1, 4, .running⟩
/-- R434. DISC; as above. -/
def HCH_DISC_BYTES : Fld := ⟨0xB, 0x70, 0, 64, 0x0, .ro, 1, 4, .running⟩
/-- R434. NOTE; as above. -/
def HCH_NOTE_BYTES : Fld := ⟨0xB, 0x78, 0, 64, 0x0, .ro, 1, 4, .running⟩
/-- R434. channel for 0x144–0x158. -/
def CEL_AUD_SEL_CH : Fld := ⟨0x12, 0x140, 0, 4, 0x0, .rw, 1, 4, .live⟩
/-- R434. RDI; as above. -/
def CEL_BYTES_RDI_BYTES : Fld := ⟨0x12, 0x144, 0, 64, 0x0, .ro, 1, 4, .running⟩
/-- R434. LOOP; as above. -/
def CEL_BYTES_LOOP_BYTES : Fld := ⟨0x12, 0x14C, 0, 64, 0x0, .ro, 1, 4, .running⟩
/-- R434. HELD at the marker. -/
def CEL_AUD_HELD_BYTES : Fld := ⟨0x12, 0x154, 0, 32, 0x0, .ro, 1, 4, .live⟩
/-- R434. the selected channel failed its audit. -/
def CEL_AUD_STAT_FAILED : Fld := ⟨0x12, 0x158, 0, 1, 0x0, .w1c, 1, 4, .live⟩
/-- R435. Loft size, 1–512, applied at the next chip reset; other values are ignored. -/
def LFT_CFG_SIZE_GIB : Fld := ⟨0x5, 0x40, 12, 10, 0x40, .rw, 1, 4, .live⟩
/-- R435. 0 Wrap, 1 Stop. -/
def LFT_CFG_MODE : Fld := ⟨0x5, 0x40, 8, 1, 0x0, .rw, 1, 4, .live⟩
/-- R435. trace class enables (R413). -/
def LFT_CFG_EN : Fld := ⟨0x5, 0x40, 0, 8, 0xF4, .rw, 1, 4, .live⟩
/-- R435. trace unbinned commands. -/
def LFT_RATE_UNBINNED : Fld := ⟨0x5, 0x44, 31, 1, 0x1, .rw, 1, 4, .live⟩
/-- R435. records per µs per Taster, 1–64; other values are ignored. -/
def LFT_RATE_REC_PER_US : Fld := ⟨0x5, 0x44, 0, 7, 0x4, .rw, 1, 4, .live⟩
/-- R435. bins 0–31 and 32–63 traced. -/
def LFT_BINS_BINS : Fld := ⟨0x5, 0x48, 0, 64, 0xFFFFFFFFFFFFFFFF, .rw, 1, 4, .live⟩
/-- R435. 1 restarts every segment (R416). -/
def LFT_CTRL_RESTART : Fld := ⟨0x5, 0x50, 0, 1, 0x0, .wo, 1, 4, .live⟩
/-- R435. a write makes every Taster write a MARK record. -/
def LFT_MARK_VALUE : Fld := ⟨0x5, 0x54, 0, 32, 0x0, .wo, 1, 4, .live⟩
/-- R435. segment size Z. -/
def LFT_SEG_MIB : Fld := ⟨0x5, 0x58, 0, 16, 0x4E, .ro, 1, 4, .live⟩
/-- R435. segment presented. -/
def LFT_SEL_TASTER : Fld := ⟨0x5, 0x5C, 0, 10, 0x0, .rw, 1, 4, .live⟩
/-- R435. index of the next record. -/
def LFT_SEG_NEXT_INDEX : Fld := ⟨0x5, 0x60, 0, 32, 0x0, .ro, 1, 4, .live⟩
/-- R435. the segment has wrapped. -/
def LFT_SEG_STAT_WRAPPED : Fld := ⟨0x5, 0x64, 31, 1, 0x0, .ro, 1, 4, .live⟩
/-- R435. the segment is full under Stop. -/
def LFT_SEG_STAT_STOPPED : Fld := ⟨0x5, 0x64, 30, 1, 0x0, .ro, 1, 4, .live⟩
/-- R435. the segment was lost with its region. -/
def LFT_SEG_STAT_LOST : Fld := ⟨0x5, 0x64, 29, 1, 0x0, .ro, 1, 4, .live⟩
/-- R435. wraps, saturating. -/
def LFT_SEG_STAT_WRAPS : Fld := ⟨0x5, 0x64, 0, 16, 0x0, .ro, 1, 4, .live⟩
/-- R435. epoch: records dropped. -/
def LFT_SEG_DROPPED_COUNT : Fld := ⟨0x5, 0x68, 0, 32, 0x0, .ro, 1, 4, .epoch⟩
/-- R435. record for the read window. -/
def LFT_RD_INDEX_INDEX : Fld := ⟨0x5, 0x6C, 0, 32, 0x0, .rw, 1, 4, .live⟩
/-- R435. words of the selected record; a read of WIN7 advances LFT_RD_INDEX. -/
def LFT_RD_WIN : Fld := ⟨0x5, 0x70, 0, 256, 0x0, .ro, 1, 4, .live⟩
/-- R436. the Attic is full (R429). Reset: from flash. -/
def ATT_FULL_FULL : Fld := ⟨0x4, 0x40, 0, 1, 0x0, .ro, 1, 4, .live⟩
/-- R436. records dropped, saturating. Reset: from flash. -/
def ATT_DROPPED_COUNT : Fld := ⟨0x4, 0x44, 0, 32, 0x0, .ro, 1, 4, .live⟩
/-- R436. staging overflowed. -/
def ATT_STAT_STAGEOVF : Fld := ⟨0x4, 0x48, 31, 1, 0x0, .w1c, 1, 4, .live⟩
/-- R436. records staged and not yet programmed, 0–2,048. -/
def ATT_STAT_STAGED : Fld := ⟨0x4, 0x48, 18, 12, 0x0, .ro, 1, 4, .live⟩
/-- R436. records held, 0–131,072. Reset: from flash. -/
def ATT_STAT_COUNT : Fld := ⟨0x4, 0x48, 0, 18, 0x0, .ro, 1, 4, .live⟩
/-- R436. record presented. -/
def ATT_CURSOR_INDEX : Fld := ⟨0x4, 0x4C, 0, 17, 0x0, .rw, 1, 4, .live⟩
/-- R436. word 3 latched by the last read of ATT_WIN7. -/
def ATT_LASTSEQ_SEQ : Fld := ⟨0x4, 0x50, 0, 32, 0x0, .ro, 1, 4, .live⟩
/-- R436. sequence number of the next record. Reset: from flash. -/
def ATT_NEXTSEQ_SEQ : Fld := ⟨0x4, 0x54, 0, 32, 0x0, .ro, 1, 4, .live⟩
/-- R436. operating time now. Reset: from flash. -/
def ATT_OPTIME_TIME : Fld := ⟨0x4, 0x58, 0, 32, 0x0, .ro, 1, 4, .live⟩
/-- R436. power-cycle count. Reset: from flash. -/
def ATT_PCYC_COUNT : Fld := ⟨0x4, 0x5C, 0, 32, 0x0, .ro, 1, 4, .live⟩
/-- R436. words 0–7 of the selected record; a read of WIN7 advances ATT_CURSOR. -/
def ATT_WIN : Fld := ⟨0x4, 0x60, 0, 256, 0x0, .ro, 1, 4, .live⟩
/-- R472. context for seed and calculation. -/
def DRW_SEED_SEL_CTX : Fld := ⟨0x7, 0x40, 0, 12, 0x0, .rw, 1, 4, .live⟩
/-- R472. seed words 0–3, staged. -/
def DRW_SEED : Fld := ⟨0x7, 0x44, 0, 128, 0x0, .wo, 1, 4, .live⟩
/-- R472. 1 sets the staged seed (R449). -/
def DRW_SEED_CTRL_SET : Fld := ⟨0x7, 0x54, 31, 1, 0x0, .wo, 1, 4, .live⟩
/-- R472. 0 idle, 1 set, 2 refused: context 0, the context has drawn, a Hall had served a seed load, or the context is retired (R449), 3 busy: the SET is being decided. -/
def DRW_SEED_CTRL_STATUS : Fld := ⟨0x7, 0x54, 0, 2, 0x0, .ro, 1, 4, .live⟩
/-- R472. counter words 0–3. -/
def DRW_CALC_CTR : Fld := ⟨0x7, 0x60, 0, 128, 0x0, .rw, 1, 4, .live⟩
/-- R472. explicit key words 0–3. -/
def DRW_KAT_KEY : Fld := ⟨0x7, 0x70, 0, 128, 0x0, .wo, 1, 4, .live⟩
/-- R472. 1 computes a draw. -/
def DRW_CALC_CTRL_GO : Fld := ⟨0x7, 0x80, 31, 1, 0x0, .wo, 1, 4, .live⟩
/-- R472. 0 seed of DRW_SEED_SEL.CTX, 1 explicit key. -/
def DRW_CALC_CTRL_KEYSEL : Fld := ⟨0x7, 0x80, 0, 1, 0x0, .rw, 1, 4, .live⟩
/-- R472. 0 idle, 1 done, 2 refused (R453), 3 busy. -/
def DRW_CALC_STAT_CODE : Fld := ⟨0x7, 0x84, 0, 2, 0x0, .ro, 1, 4, .live⟩
/-- R472. result words 0–3. -/
def DRW_CALC_OUT : Fld := ⟨0x7, 0x88, 0, 128, 0x0, .ro, 1, 4, .live⟩
/-- R472. epoch: draws under the all-zero seed. -/
def DRW_STAT_UNSEEDED : Fld := ⟨0x7, 0x98, 0, 32, 0x0, .ro, 1, 4, .epoch⟩
/-- R472. epoch: draw-port results, wafer-wide. -/
def DRW_PORT_COUNT : Fld := ⟨0x7, 0x9C, 0, 32, 0x0, .ro, 1, 4, .epoch⟩
/-- R473. context for 0x044–0x090. -/
def PRV_SEL_CTX : Fld := ⟨0x6, 0x40, 0, 12, 0x0, .rw, 1, 4, .live⟩
/-- R473. weight set of the context. -/
def PRV_CTX_CFG_WSET : Fld := ⟨0x6, 0x44, 4, 4, 0x0, .rw, 1, 4, .live⟩
/-- R473. record the context. -/
def PRV_CTX_CFG_RECORD : Fld := ⟨0x6, 0x44, 1, 1, 0x0, .rw, 1, 4, .live⟩
/-- R473. keep provenance; a write of 1 restarts the chain. -/
def PRV_CTX_CFG_PROV : Fld := ⟨0x6, 0x44, 0, 1, 0x0, .rw, 1, 4, .live⟩
/-- R473. program digest. -/
def PRV_PROG : Fld := ⟨0x6, 0x48, 0, 256, 0x0, .rw, 1, 4, .live⟩
/-- R473. step of the last digest; a read of LO latches HI. -/
def PRV_LASTSTEP_STEP : Fld := ⟨0x6, 0x68, 0, 64, 0x0, .ro, 1, 4, .live⟩
/-- R473. last digest P. -/
def PRV_DIG : Fld := ⟨0x6, 0x70, 0, 256, 0x0, .ro, 1, 4, .live⟩
/-- R473. the chain is broken (R458). -/
def PRV_STAT_BROKEN : Fld := ⟨0x6, 0x90, 31, 1, 0x0, .ro, 1, 4, .live⟩
/-- R473. step records queued wafer-wide, 0–4,096. -/
def PRV_STAT_QUEUE : Fld := ⟨0x6, 0x90, 0, 13, 0x0, .ro, 1, 4, .live⟩
/-- R473. map digest. -/
def PRV_MAPDIG : Fld := ⟨0x6, 0xA0, 0, 256, 0x0, .ro, 1, 4, .live⟩
/-- R473. map digest recomputations since the last chip reset. -/
def PRV_MAPGEN_COUNT : Fld := ⟨0x6, 0xC0, 0, 32, 0x0, .ro, 1, 4, .running⟩
/-- R473. firmware version. Reset: from image. -/
def PRV_FWVER_VER : Fld := ⟨0x6, 0xC4, 0, 64, 0x0, .ro, 1, 4, .live⟩
/-- R473. weight set for 0x0D4–0x100. -/
def PRV_WSET_SEL_SET : Fld := ⟨0x6, 0xD0, 0, 4, 0x0, .rw, 1, 4, .live⟩
/-- R473. TLO. -/
def PRV_WSET_TLO_TENSOR : Fld := ⟨0x6, 0xD4, 0, 32, 0x0, .rw, 1, 4, .live⟩
/-- R473. THI; a write applies the range at the next rotation start. -/
def PRV_WSET_THI_TENSOR : Fld := ⟨0x6, 0xD8, 0, 32, 0x0, .rw, 1, 4, .live⟩
/-- R473. the latest epoch is MISSING. -/
def PRV_WSET_STAT_MISSING : Fld := ⟨0x6, 0xDC, 31, 1, 0x0, .ro, 1, 4, .live⟩
/-- R473. the set is declared. -/
def PRV_WSET_STAT_EN : Fld := ⟨0x6, 0xDC, 0, 1, 0x0, .rw, 1, 4, .live⟩
/-- R473. closed epochs. -/
def PRV_WSET_EPOCH_COUNT : Fld := ⟨0x6, 0xE0, 0, 32, 0x0, .ro, 1, 4, .live⟩
/-- R473. weight-set digest. -/
def PRV_WSD : Fld := ⟨0x6, 0xE4, 0, 256, 0x0, .ro, 1, 4, .live⟩
/-- R473. 0 Solo, 1 Paired. -/
def PRV_PAIR_CFG_PAIRED : Fld := ⟨0x6, 0x140, 31, 1, 0x0, .rw, 1, 4, .live⟩
/-- R473. 0 Direct, 1 Server. -/
def PRV_PAIR_CFG_VIA : Fld := ⟨0x6, 0x140, 30, 1, 0x0, .rw, 1, 4, .live⟩
/-- R473. Door 0–95. -/
def PRV_PAIR_CFG_DOOR : Fld := ⟨0x6, 0x140, 12, 7, 0x0, .rw, 1, 4, .live⟩
/-- R473. paired context. -/
def PRV_PAIR_CFG_CTX : Fld := ⟨0x6, 0x140, 0, 12, 0x0, .rw, 1, 4, .live⟩
/-- R473. partner identifier. -/
def PRV_PAIR_PEER_WAFER : Fld := ⟨0x6, 0x144, 0, 32, 0x0, .rw, 1, 4, .live⟩
/-- R473. pair key. -/
def PRV_PAIR_KEY : Fld := ⟨0x6, 0x148, 0, 128, 0x0, .wo, 1, 4, .live⟩
/-- R473. a divergence is held. -/
def PRV_PAIR_STAT_DIVERGED : Fld := ⟨0x6, 0x158, 31, 1, 0x0, .w1c, 1, 4, .live⟩
/-- R473. step of the earliest divergence; a read of LO latches HI. -/
def PRV_PAIR_DIV_STEP : Fld := ⟨0x6, 0x15C, 0, 64, 0x0, .ro, 1, 4, .live⟩
/-- R473. its cluster. -/
def PRV_PAIR_DIVCL_CLUSTER : Fld := ⟨0x6, 0x164, 0, 10, 0x0, .ro, 1, 4, .live⟩
/-- R473. its layer; all ones when not localised. -/
def PRV_PAIR_DIVOP_LAYER : Fld := ⟨0x6, 0x168, 16, 16, 0x0, .ro, 1, 4, .live⟩
/-- R473. its operator. -/
def PRV_PAIR_DIVOP_OP : Fld := ⟨0x6, 0x168, 0, 16, 0x0, .ro, 1, 4, .live⟩
/-- R473. epoch: digests matched. -/
def PRV_PAIR_MATCHED_COUNT : Fld := ⟨0x6, 0x16C, 0, 32, 0x0, .ro, 1, 4, .epoch⟩
/-- R473. epoch: digests not compared. -/
def PRV_PAIR_PARTIAL_COUNT : Fld := ⟨0x6, 0x170, 0, 32, 0x0, .ro, 1, 4, .epoch⟩
/-- R473. epoch: digests unmatched. -/
def PRV_PAIR_UNMATCHED_COUNT : Fld := ⟨0x6, 0x174, 0, 32, 0x0, .ro, 1, 4, .epoch⟩
/-- R473. log size in MiB, applied at the next chip reset. -/
def PRV_REC_CFG_MIB : Fld := ⟨0x6, 0x180, 16, 16, 0x0, .rw, 1, 4, .live⟩
/-- R473. 0 off, 1 record, 2 replay; 3 ignored. -/
def PRV_REC_CFG_MODE : Fld := ⟨0x6, 0x180, 0, 2, 0x0, .rw, 1, 4, .live⟩
/-- R473. the log is full. -/
def PRV_REC_STAT_FULL : Fld := ⟨0x6, 0x184, 31, 1, 0x0, .ro, 1, 4, .live⟩
/-- R473. replay found a mismatch. -/
def PRV_REC_STAT_MISMATCH : Fld := ⟨0x6, 0x184, 30, 1, 0x0, .w1c, 1, 4, .live⟩
/-- R473. bytes written since the log was started. -/
def PRV_REC_USED_BYTES : Fld := ⟨0x6, 0x188, 0, 64, 0x0, .ro, 1, 4, .live⟩
/-- R473. record: next SEQ; replay: next entry delivered. -/
def PRV_REC_POS_SEQ : Fld := ⟨0x6, 0x190, 0, 32, 0x0, .ro, 1, 4, .live⟩
/-- R494. region band, 0–5. -/
def HAL_THM_STAT_BAND : Fld := ⟨0x10, 0xC0, 29, 3, 0x0, .ro, 1, 4, .live⟩
/-- R494. the region is Shuttered by a limit. -/
def HAL_THM_STAT_SHUT : Fld := ⟨0x10, 0xC0, 28, 1, 0x0, .ro, 1, 4, .live⟩
/-- R494. 0 none, 1 junction temperature, 2 no sensor, 3 supply low, 4 supply high, 5 clock ratio. -/
def HAL_THM_STAT_CAUSE : Fld := ⟨0x10, 0xC0, 24, 4, 0x0, .ro, 1, 4, .live⟩
/-- R494. working sensors, 0–30. -/
def HAL_THM_STAT_WORKING : Fld := ⟨0x10, 0xC0, 16, 5, 0x0, .ro, 1, 4, .live⟩
/-- R494. HL_THR_ACK was late (R484). -/
def HAL_THM_STAT_NOACK : Fld := ⟨0x10, 0xC0, 12, 1, 0x0, .w1c, 1, 4, .live⟩
/-- R494. method in use: 0 Divide, 1 Skip. -/
def HAL_THM_STAT_METHOD : Fld := ⟨0x10, 0xC0, 11, 1, 0x0, .ro, 1, 4, .live⟩
/-- R494. HL_THR_LEVEL driven. -/
def HAL_THM_STAT_LEVEL : Fld := ⟨0x10, 0xC0, 8, 3, 0x0, .ro, 1, 4, .live⟩
/-- R494. the limit request is active. -/
def HAL_THM_STAT_REQ_LIMIT : Fld := ⟨0x10, 0xC0, 6, 1, 0x0, .ro, 1, 4, .live⟩
/-- R494. the power cap requests a level. -/
def HAL_THM_STAT_REQ_CAP : Fld := ⟨0x10, 0xC0, 5, 1, 0x0, .ro, 1, 4, .live⟩
/-- R494. the band requests a level. -/
def HAL_THM_STAT_REQ_BAND : Fld := ⟨0x10, 0xC0, 4, 1, 0x0, .ro, 1, 4, .live⟩
/-- R494. 0 Divide, 1 Skip (R483). -/
def HAL_THM_CFG_METHOD : Fld := ⟨0x10, 0xC4, 0, 1, 0x0, .rw, 1, 4, .live⟩
/-- R494. region budget in watts; a value above the variant record's is ignored. Reset: from variant record. -/
def HAL_PWR_BUDGET_W : Fld := ⟨0x10, 0xC8, 0, 16, 0x0, .rw, 1, 4, .live⟩
/-- R494. last estimate (R485). -/
def HAL_PWR_EST_W : Fld := ⟨0x10, 0xCC, 0, 16, 0x0, .ro, 1, 4, .live⟩
/-- R494. epoch: µs of wall time with a level above 0, saturating. -/
def HAL_THR_TIME_US : Fld := ⟨0x10, 0xD0, 0, 32, 0x0, .ro, 1, 4, .epoch⟩
/-- R494. junction and no-sensor trips since the last chip reset, saturating. -/
def HAL_LIM_TRIP_TJ : Fld := ⟨0x10, 0xD4, 24, 8, 0x0, .ro, 1, 4, .running⟩
/-- R494. supply trips, as above. -/
def HAL_LIM_TRIP_VDD : Fld := ⟨0x10, 0xD4, 16, 8, 0x0, .ro, 1, 4, .running⟩
/-- R494. clock-ratio trips, as above. -/
def HAL_LIM_TRIP_CLK : Fld := ⟨0x10, 0xD4, 8, 8, 0x0, .ro, 1, 4, .running⟩
/-- R494. Shutters, as above. -/
def HAL_LIM_TRIP_SHUT : Fld := ⟨0x10, 0xD4, 0, 8, 0x0, .ro, 1, 4, .running⟩
/-- R495. field of the sensor; values above 83 read as zero. -/
def THM_SEL_FIELD : Fld := ⟨0xA, 0x40, 8, 7, 0x0, .rw, 1, 4, .live⟩
/-- R495. sensor index, as the PUID MINOR of R13. -/
def THM_SEL_SENSOR : Fld := ⟨0xA, 0x40, 0, 4, 0x0, .rw, 1, 4, .live⟩
/-- R495. the sensor is broken. -/
def THM_TEMP_BROKEN : Fld := ⟨0xA, 0x44, 31, 1, 0x0, .ro, 1, 4, .live⟩
/-- R495. the sensor exists. -/
def THM_TEMP_PRESENT : Fld := ⟨0xA, 0x44, 30, 1, 0x0, .ro, 1, 4, .live⟩
/-- R495. the sensor's band. -/
def THM_TEMP_BAND : Fld := ⟨0xA, 0x44, 27, 3, 0x0, .ro, 1, 4, .live⟩
/-- R495. broken reason of R477; 0 when working. -/
def THM_TEMP_REASON : Fld := ⟨0xA, 0x44, 24, 3, 0x0, .ro, 1, 4, .live⟩
/-- R495. last reading, signed, 1/16 °C. -/
def THM_TEMP_T : Fld := ⟨0xA, 0x44, 0, 16, 0x0, .ro, 1, 4, .live⟩
/-- R495. last raw count. -/
def THM_RAW_COUNT : Fld := ⟨0xA, 0x48, 0, 16, 0x0, .ro, 1, 4, .live⟩
/-- R495. highest region band. -/
def THM_SUM_MAXBAND : Fld := ⟨0xA, 0x4C, 29, 3, 0x0, .ro, 1, 4, .live⟩
/-- R495. regions with a level above 0. -/
def THM_SUM_THROTTLED : Fld := ⟨0xA, 0x4C, 16, 8, 0x0, .ro, 1, 4, .live⟩
/-- R495. regions Shuttered by a limit. -/
def THM_SUM_SHUT : Fld := ⟨0xA, 0x4C, 8, 8, 0x0, .ro, 1, 4, .live⟩
/-- R495. broken sensors, saturating. -/
def THM_SUM_BROKEN : Fld := ⟨0xA, 0x4C, 0, 8, 0x0, .ro, 1, 4, .live⟩
/-- R495. an emergency is in force. -/
def THM_EMERG_ACTIVE : Fld := ⟨0xA, 0x50, 31, 1, 0x0, .ro, 1, 4, .live⟩
/-- R495. a region band is K5. -/
def THM_EMERG_K5 : Fld := ⟨0xA, 0x50, 3, 1, 0x0, .ro, 1, 4, .live⟩
/-- R495. an RGN_PG loss or over-current is recognised. -/
def THM_EMERG_POWER : Fld := ⟨0xA, 0x50, 2, 1, 0x0, .ro, 1, 4, .live⟩
/-- R495. a hard limit trips. -/
def THM_EMERG_LIMIT : Fld := ⟨0xA, 0x50, 1, 1, 0x0, .ro, 1, 4, .live⟩
/-- R495. junction limit in °C; tighten only (R487). Reset: from variant record. -/
def THM_LIM_TJ_TJ : Fld := ⟨0xA, 0x54, 0, 8, 0x0, .rw, 1, 4, .live⟩
/-- R495. mV; tighten only. Reset: from variant record. -/
def THM_LIM_VDD_VMAX : Fld := ⟨0xA, 0x58, 16, 16, 0x0, .rw, 1, 4, .live⟩
/-- R495. mV; tighten only. Reset: from variant record. -/
def THM_LIM_VDD_VMIN : Fld := ⟨0xA, 0x58, 0, 16, 0x0, .rw, 1, 4, .live⟩
/-- R495. region cycles per µs; tighten only. Reset: from variant record. -/
def THM_LIM_CLK_CYC : Fld := ⟨0xA, 0x5C, 0, 16, 0x0, .rw, 1, 4, .live⟩
/-- R539. last stage reported, 0–11. -/
def BRW_BOOT_STAGE : Fld := ⟨0x1, 0x1C0, 28, 4, 0x0, .ro, 1, 4, .live⟩
/-- R539. bring-up stopped. -/
def BRW_BOOT_STOPPED : Fld := ⟨0x1, 0x1C0, 27, 1, 0x0, .ro, 1, 4, .live⟩
/-- R539. the running bundle came from the golden device. -/
def BRW_BOOT_GOLDEN : Fld := ⟨0x1, 0x1C0, 26, 1, 0x0, .ro, 1, 4, .live⟩
/-- R539. the running bundle came from the primary slot other than BOOT. -/
def BRW_BOOT_FALLBACK : Fld := ⟨0x1, 0x1C0, 25, 1, 0x0, .ro, 1, 4, .live⟩
/-- R539. primary slot of the running bundle: 0 A, 1 B. -/
def BRW_BOOT_SLOT : Fld := ⟨0x1, 0x1C0, 24, 1, 0x0, .ro, 1, 4, .live⟩
/-- R539. stop reason (R514); 0 none. -/
def BRW_BOOT_REASON : Fld := ⟨0x1, 0x1C0, 16, 8, 0x0, .ro, 1, 4, .live⟩
/-- R539. ms of wall time from power-on or chip reset to the last stage report. -/
def BRW_BOOT_MS_MS : Fld := ⟨0x1, 0x1C4, 0, 32, 0x0, .ro, 1, 4, .live⟩
/-- R539. usable regions (R514). -/
def BRW_BOOT_UNITS_USABLE : Fld := ⟨0x1, 0x1C8, 16, 8, 0x0, .ro, 1, 4, .live⟩
/-- R539. units failed at the last bring-up, saturating. -/
def BRW_BOOT_UNITS_FAILED : Fld := ⟨0x1, 0x1C8, 0, 16, 0x0, .ro, 1, 4, .live⟩
/-- R539. 0 idle, 1 receiving, 2 verifying, 3 staged, 4 rejected, 5 activating, 6 held, 7 rolling back. -/
def BRW_FW_STAT_STATE : Fld := ⟨0x1, 0x1CC, 29, 3, 0x0, .ro, 1, 4, .live⟩
/-- R539. reason of the last rejection (R527). -/
def BRW_FW_STAT_REASON : Fld := ⟨0x1, 0x1CC, 24, 5, 0x0, .ro, 1, 4, .live⟩
/-- R539. per R535. -/
def BRW_FW_STAT_MIXED : Fld := ⟨0x1, 0x1CC, 23, 1, 0x0, .ro, 1, 4, .live⟩
/-- R539. the BOOT slot is TRIAL. Reset: from flash. -/
def BRW_FW_STAT_TRIAL : Fld := ⟨0x1, 0x1CC, 22, 1, 0x0, .ro, 1, 4, .live⟩
/-- R539. TRIES. Reset: from flash. -/
def BRW_FW_STAT_TRIES : Fld := ⟨0x1, 0x1CC, 20, 2, 0x0, .ro, 1, 4, .live⟩
/-- R539. held by a reset. -/
def BRW_FW_STAT_HOLD_RESET : Fld := ⟨0x1, 0x1CC, 18, 1, 0x0, .ro, 1, 4, .live⟩
/-- R539. held by a global stop. -/
def BRW_FW_STAT_HOLD_STOP : Fld := ⟨0x1, 0x1CC, 17, 1, 0x0, .ro, 1, 4, .live⟩
/-- R539. held by an emergency. -/
def BRW_FW_STAT_HOLD_EMERG : Fld := ⟨0x1, 0x1CC, 16, 1, 0x0, .ro, 1, 4, .live⟩
/-- R539. processors switched in the current activation. -/
def BRW_FW_STAT_SWITCHED : Fld := ⟨0x1, 0x1CC, 8, 8, 0x0, .ro, 1, 4, .live⟩
/-- R539. FWVER of the staged bundle; 0 when none; a read of LO latches HI. Reset: from flash. -/
def BRW_FW_STAGED_VER : Fld := ⟨0x1, 0x1D0, 0, 64, 0x0, .ro, 1, 4, .live⟩
/-- R539. minimum security version. Reset: from flash. -/
def BRW_FW_SVN_MIN : Fld := ⟨0x1, 0x1D8, 0, 32, 0x0, .ro, 1, 4, .live⟩
/-- R539. VERSION of the host core image in use. -/
def BRW_HOSTIMG_VER : Fld := ⟨0x1, 0x1DC, 0, 32, 0x0, .ro, 1, 4, .live⟩
/-- R539. 0–41 Hall; 64–66 security, power-management and scheduler core of A; 72–74 the same of B; others read zero. -/
def BRW_PROC_SEL_INDEX : Fld := ⟨0x1, 0x1E0, 0, 8, 0x0, .rw, 1, 4, .live⟩
/-- R539. 0 running, 1 loading, 2 switching, 3 halted, 4 absent. -/
def BRW_PROC_STAT_STATE : Fld := ⟨0x1, 0x1E4, 29, 3, 0x0, .ro, 1, 4, .live⟩
/-- R539. slot run: 0 A, 1 B. -/
def BRW_PROC_STAT_SLOT : Fld := ⟨0x1, 0x1E4, 28, 1, 0x0, .ro, 1, 4, .live⟩
/-- R539. watchdog restarts in the last 10 minutes of wall time. -/
def BRW_PROC_STAT_WDOG : Fld := ⟨0x1, 0x1E4, 16, 8, 0x0, .ro, 1, 4, .live⟩
/-- R539. restarts since the last chip reset, saturating. -/
def BRW_PROC_STAT_RESTARTS : Fld := ⟨0x1, 0x1E4, 0, 16, 0x0, .ro, 1, 4, .live⟩
/-- R539. VERSION of the variant record in force. Reset: from flash. -/
def BRW_VAR_VER_VER : Fld := ⟨0x1, 0x1E8, 0, 32, 0x0, .ro, 1, 4, .live⟩
/-- R539. a committed record awaits the next chip reset. -/
def BRW_VAR_STAT_PENDING : Fld := ⟨0x1, 0x1EC, 31, 1, 0x0, .ro, 1, 4, .live⟩
/-- R539. a calibration record is in force. -/
def BRW_VAR_STAT_CAL_OK : Fld := ⟨0x1, 0x1EC, 30, 1, 0x0, .ro, 1, 4, .live⟩
/-- R539. entries of item 0x000D. -/
def BRW_VAR_STAT_DEFECTS : Fld := ⟨0x1, 0x1EC, 0, 15, 0x0, .ro, 1, 4, .live⟩
/-- R539. VER_MAJ differs (R538). -/
def BRW_IFVER_BASEONLY : Fld := ⟨0x1, 0x1F0, 17, 1, 0x0, .ro, 1, 4, .live⟩
/-- R539. a HELLO is in force. -/
def BRW_IFVER_NEGOTIATED : Fld := ⟨0x1, 0x1F0, 16, 1, 0x0, .ro, 1, 4, .live⟩
/-- R539. Onasen's VER_MAJ. -/
def BRW_IFVER_MAJ : Fld := ⟨0x1, 0x1F0, 8, 8, 0x1, .ro, 1, 4, .live⟩
/-- R539. Onasen's VER_MIN. Reset: from image. -/
def BRW_IFVER_MIN : Fld := ⟨0x1, 0x1F0, 0, 8, 0x0, .ro, 1, 4, .live⟩
/-- R539. word of the maps presented. -/
def BRW_FEAT_SEL_WORD : Fld := ⟨0x1, 0x1F4, 0, 2, 0x0, .rw, 1, 4, .live⟩
/-- R539. Onasen's map, selected word. Reset: from image. -/
def BRW_FEAT_OURS_MAP : Fld := ⟨0x1, 0x1F8, 0, 32, 0x0, .ro, 1, 4, .live⟩
/-- R539. common set, selected word. -/
def BRW_FEAT_COMMON_MAP : Fld := ⟨0x1, 0x1FC, 0, 32, 0x0, .ro, 1, 4, .live⟩
/-- R539. the driver's map, selected word. -/
def BRW_FEAT_HOST_MAP : Fld := ⟨0x1, 0x200, 0, 32, 0x0, .ro, 1, 4, .live⟩
/-- R539. ms of wall time for which the current activation, or the last one when none runs, has been held under R528, saturating. -/
def BRW_FW_HOLD_MS : Fld := ⟨0x1, 0x204, 0, 32, 0x0, .ro, 1, 4, .live⟩
/-- R579. ring base [31:6] in force; high word: ring base [63:32]. -/
def MBX_RING_BASE_ADDR : Fld := ⟨0x3, 0x40, 0, 64, 0x0, .ro, 1, 4, .live⟩
/-- R579. ring size; 0 before the first HELLO. -/
def MBX_RING_CFG_ENTRIES : Fld := ⟨0x3, 0x48, 0, 17, 0x0, .ro, 1, 4, .live⟩
/-- R579. PHASE of the next record. -/
def MBX_RING_TAIL_PHASE : Fld := ⟨0x3, 0x4C, 16, 1, 0x1, .ro, 1, 4, .live⟩
/-- R579. index of the next record. -/
def MBX_RING_TAIL_INDEX : Fld := ⟨0x3, 0x4C, 0, 16, 0x0, .ro, 1, 4, .live⟩
/-- R579. next index the driver reads. -/
def MBX_RING_HEAD_INDEX : Fld := ⟨0x3, 0x50, 0, 16, 0x0, .rw, 1, 4, .live⟩
/-- R579. heartbeat (R549). -/
def MBX_HB_COUNT : Fld := ⟨0x3, 0x54, 0, 32, 0x0, .rw, 1, 4, .live⟩
/-- R579. host-absent. -/
def MBX_STAT_ABSENT : Fld := ⟨0x3, 0x58, 31, 1, 0x1, .ro, 1, 4, .live⟩
/-- R579. the absence began by link-down. -/
def MBX_STAT_LINKDOWN : Fld := ⟨0x3, 0x58, 30, 1, 0x0, .ro, 1, 4, .live⟩
/-- R579. records held for ring room, 0–255; saturates at 255. -/
def MBX_STAT_PENDING : Fld := ⟨0x3, 0x58, 8, 8, 0x0, .ro, 1, 4, .live⟩
/-- R579. records held during absence, 0–64. -/
def MBX_STAT_HELD : Fld := ⟨0x3, 0x58, 0, 7, 0x0, .ro, 1, 4, .live⟩
/-- R579. records dropped during absence, saturating. -/
def MBX_ABS_DROP_COUNT : Fld := ⟨0x3, 0x5C, 0, 32, 0x0, .ro, 1, 4, .live⟩
/-- R579. records dropped for ring room, saturating. -/
def MBX_RING_DROP_COUNT : Fld := ⟨0x3, 0x60, 0, 32, 0x0, .ro, 1, 4, .live⟩
/-- R579. µs of wall time. -/
def MBX_MSI_CFG_HOLDOFF_US : Fld := ⟨0x3, 0x64, 0, 16, 0xA, .rw, 1, 4, .live⟩
/-- R579. epoch: messages taken. -/
def MBX_TAKEN_COUNT : Fld := ⟨0x3, 0x68, 0, 32, 0x0, .ro, 1, 4, .epoch⟩
/-- R579. epoch: messages refused. -/
def MBX_REFUSED_COUNT : Fld := ⟨0x3, 0x6C, 0, 32, 0x0, .ro, 1, 4, .epoch⟩
/-- R579. SEQ last taken from slot n, at 0x100 + 4·n. -/
def MBX_SLOT_ACK_SEQ : Fld := ⟨0x3, 0x100, 0, 32, 0x0, .ro, 64, 4, .live⟩
/-- R580. bit c − 1: class c is staged. -/
def TWK_STAT_STAGED : Fld := ⟨0x8, 0x40, 8, 8, 0x0, .ro, 1, 4, .live⟩
/-- R580. class of the last commit. -/
def TWK_STAT_LAST : Fld := ⟨0x8, 0x40, 0, 4, 0x0, .ro, 1, 4, .live⟩
/-- R580. class for 0x048–0x054. -/
def TWK_SEL_CLASS : Fld := ⟨0x8, 0x44, 0, 4, 0x1, .rw, 1, 4, .live⟩
/-- R580. nonce of the staged proposal; a read of LO latches HI. -/
def TWK_NONCE_NONCE : Fld := ⟨0x8, 0x48, 0, 64, 0x0, .ro, 1, 4, .live⟩
/-- R580. 1 host, 2 fleet. -/
def TWK_PROP_ORIGIN : Fld := ⟨0x8, 0x50, 2, 2, 0x0, .ro, 1, 4, .live⟩
/-- R580. fleet endorsement held. -/
def TWK_PROP_FLEET : Fld := ⟨0x8, 0x50, 1, 1, 0x0, .ro, 1, 4, .live⟩
/-- R580. host endorsement held. -/
def TWK_PROP_HOST : Fld := ⟨0x8, 0x50, 0, 1, 0x0, .ro, 1, 4, .live⟩
/-- R580. ms of wall time left in the window. -/
def TWK_LEFT_MS : Fld := ⟨0x8, 0x54, 0, 16, 0x0, .ro, 1, 4, .live⟩
/-- R580. commits since the last chip reset. -/
def TWK_COMMITS_COUNT : Fld := ⟨0x8, 0x58, 0, 32, 0x0, .ro, 1, 4, .running⟩
/-- R580. epoch: endorsements refused. -/
def TWK_REFUSED_COUNT : Fld := ⟨0x8, 0x5C, 0, 32, 0x0, .ro, 1, 4, .epoch⟩
/-- R581. an endpoint ID is assigned. -/
def BRW_MGT_STAT_EID_VALID : Fld := ⟨0x1, 0x240, 31, 1, 0x0, .ro, 1, 4, .live⟩
/-- R581. endpoint ID. -/
def BRW_MGT_STAT_EID : Fld := ⟨0x1, 0x240, 16, 8, 0x0, .ro, 1, 4, .live⟩
/-- R581. reports queued, 0–512. -/
def BRW_MGT_STAT_QUEUED : Fld := ⟨0x1, 0x240, 0, 10, 0x0, .ro, 1, 4, .live⟩
/-- R581. tokens per second per class; 0 reads back as 1. -/
def BRW_MGT_CFG_RATE : Fld := ⟨0x1, 0x244, 24, 8, 0x8, .rw, 1, 4, .live⟩
/-- R581. bucket size; 0 reads back as 1. -/
def BRW_MGT_CFG_BURST : Fld := ⟨0x1, 0x244, 16, 8, 0x20, .rw, 1, 4, .live⟩
/-- R581. status period in s, 1–255; 0 is ignored. -/
def BRW_MGT_CFG_STATUS_S : Fld := ⟨0x1, 0x244, 8, 8, 0xA, .rw, 1, 4, .live⟩
/-- R581. epoch: reports sent. -/
def BRW_MGT_SENT_COUNT : Fld := ⟨0x1, 0x248, 0, 32, 0x0, .ro, 1, 4, .epoch⟩
/-- R581. epoch: reports suppressed or dropped. -/
def BRW_MGT_DROP_COUNT : Fld := ⟨0x1, 0x24C, 0, 32, 0x0, .ro, 1, 4, .epoch⟩
/-- R581. enterprise number. Reset: from image. -/
def BRW_MGT_VID_IANA : Fld := ⟨0x1, 0x250, 0, 32, 0x0, .ro, 1, 4, .live⟩
/-- R581. weakest posture allowed: 0 Strong, 1 Session, 2 Small. -/
def BRW_POSTURE_FLOOR : Fld := ⟨0x1, 0x260, 2, 2, 0x2, .rw2k, 1, 4, .live⟩
/-- R581. wafer posture. -/
def BRW_POSTURE_WAFER : Fld := ⟨0x1, 0x260, 0, 2, 0x1, .ro, 1, 4, .live⟩
/-- R581. region r in bits [2·(r mod 16) + 1 : 2·(r mod 16)] of word ⌊r/16⌋: 0–2 override posture, 3 none; bits of absent regions read 3. -/
def BRW_POSTURE_OVR : Fld := ⟨0x1, 0x264, 0, 96, 0xFFFFFFFFFFFFFFFFFFFFFFFF, .ro, 1, 4, .live⟩
/-- R581. a debug unlock is in force. -/
def BRW_DBG_STAT_UNLOCKED : Fld := ⟨0x1, 0x270, 31, 1, 0x0, .ro, 1, 4, .live⟩
/-- R581. processors halted by Moldom. -/
def BRW_DBG_STAT_HALTED : Fld := ⟨0x1, 0x270, 16, 8, 0x0, .ro, 1, 4, .live⟩
/-- R581. minutes of the unlock left. -/
def BRW_DBG_STAT_MINUTES : Fld := ⟨0x1, 0x270, 0, 11, 0x0, .ro, 1, 4, .live⟩
/-- R581. Tasters with a halted stage. -/
def BRW_DBG_PIPE_TASTERS : Fld := ⟨0x1, 0x274, 0, 10, 0x0, .ro, 1, 4, .live⟩
/-- R588. page class code. Reset: per R587. -/
def PG_ID_CLASS : Fld := ⟨0x0, 0x0, 24, 8, 0x0, .ro, 1, 4, .live⟩
/-- R588. instance, or Tap window number. Reset: per R586. -/
def PG_ID_INSTANCE : Fld := ⟨0x0, 0x0, 12, 12, 0x0, .ro, 1, 4, .live⟩
/-- R588. layout version of the class; 0 on a reserved page. -/
def PG_ID_VERSION : Fld := ⟨0x0, 0x0, 0, 12, 0x1, .ro, 1, 4, .live⟩
/-- R588. the page holds RW2K fields (BRW, HCH). Reset: per class. -/
def PG_CAP_TWOKEY : Fld := ⟨0x0, 0x4, 5, 1, 0x0, .ro, 1, 4, .live⟩
/-- R588. served by the active Brewhouse. Reset: per class. -/
def PG_CAP_GLOBAL : Fld := ⟨0x0, 0x4, 4, 1, 0x0, .ro, 1, 4, .live⟩
/-- R588. a Tap window. Reset: per class. -/
def PG_CAP_INDIRECT : Fld := ⟨0x0, 0x4, 3, 1, 0x0, .ro, 1, 4, .live⟩
/-- R588. stream or window state at 0x4C0–0x4DC. Reset: per class. -/
def PG_CAP_STREAMS : Fld := ⟨0x0, 0x4, 2, 1, 0x0, .ro, 1, 4, .live⟩
/-- R588. a scan engine at 0x440–0x46C. Reset: per class. -/
def PG_CAP_SCAN : Fld := ⟨0x0, 0x4, 1, 1, 0x0, .ro, 1, 4, .live⟩
/-- R588. a CKU block at 0x400. Reset: per class. -/
def PG_CAP_CKU : Fld := ⟨0x0, 0x4, 0, 1, 0x0, .ro, 1, 4, .live⟩
/-- R588. claim tag of the page's selectors (R589). -/
def PG_CTRL_OWNER : Fld := ⟨0x0, 0x8, 0, 8, 0x0, .rw, 1, 4, .live⟩
/-- R588. the unit's history STATE is PERMANENT. Reset: from history. -/
def PG_STAT_PERMANENT : Fld := ⟨0x0, 0xC, 12, 1, 0x0, .ro, 1, 4, .live⟩
/-- R588. the values shown are the last that crossed from a stopped clock (R596). -/
def PG_STAT_STALE : Fld := ⟨0x0, 0xC, 11, 1, 0x0, .ro, 1, 4, .live⟩
/-- R588. the unit did not answer (R594). -/
def PG_STAT_UNREACHED : Fld := ⟨0x0, 0xC, 10, 1, 0x0, .ro, 1, 4, .live⟩
/-- R588. the presented shadow is flagged CLKSTOP (R400). -/
def PG_STAT_CLKSTOP : Fld := ⟨0x0, 0xC, 9, 1, 0x0, .ro, 1, 4, .live⟩
/-- R588. the presented shadow is flagged RESET (R400). -/
def PG_STAT_RESET : Fld := ⟨0x0, 0xC, 8, 1, 0x0, .ro, 1, 4, .live⟩
/-- R588. unit state. Reset: per R591. -/
def PG_STAT_STATE : Fld := ⟨0x0, 0xC, 0, 3, 0x0, .ro, 1, 4, .live⟩
/-- R588. bit c: the unit raised or counted an event of class c in the presented cut epoch. -/
def PG_EVT_RAW_CLASS : Fld := ⟨0x0, 0x10, 0, 15, 0x0, .ro, 1, 4, .epoch⟩
/-- R588. bit c: class c sets PG_EVT. -/
def PG_EVT_EN_CLASS : Fld := ⟨0x0, 0x14, 0, 15, 0x7FFF, .rw, 1, 4, .live⟩
/-- R588. bit c: sticky; set by each event of class c while enabled. -/
def PG_EVT_CLASS : Fld := ⟨0x0, 0x18, 0, 15, 0x0, .w1c, 1, 4, .live⟩
/-- R588. bit c − 1: a proposal of two-key class c that changes a field of this page is staged. -/
def PG_LOCK_STAGED : Fld := ⟨0x0, 0x1C, 8, 8, 0x0, .ro, 1, 4, .live⟩
/-- R588. a commit to this page awaits the standby's acknowledgement (R58). -/
def PG_LOCK_PENDING : Fld := ⟨0x0, 0x1C, 7, 1, 0x0, .ro, 1, 4, .live⟩
/-- R588. class of the last commit that changed this page; 0 none. -/
def PG_LOCK_LAST : Fld := ⟨0x0, 0x1C, 0, 4, 0x0, .ro, 1, 4, .live⟩
/-- R588. cut whose shadow bank the page presents (R399). -/
def PG_CUT_EPOCH_EPOCH : Fld := ⟨0x0, 0x20, 0, 32, 0x0, .ro, 1, 4, .live⟩
/-- R597. must be 1 (Tap). -/
def TAP_WIN_SEL_KIND : Fld := ⟨0x14, 0xF00, 28, 4, 0x1, .rw, 1, 4, .live⟩
/-- R597. cluster. -/
def TAP_WIN_SEL_CLUSTER : Fld := ⟨0x14, 0xF00, 16, 12, 0x0, .rw, 1, 4, .live⟩
/-- R597. physical core. -/
def TAP_WIN_SEL_CORE : Fld := ⟨0x14, 0xF00, 0, 16, 0x0, .rw, 1, 4, .live⟩
/-- R598. epoch: writes ignored for state (R591), saturating. -/
def BRW_WIN_STAT_STATEW : Fld := ⟨0x1, 0x2C0, 16, 16, 0x0, .ro, 1, 4, .epoch⟩
/-- R598. epoch: accesses answered under R594, saturating. -/
def BRW_WIN_STAT_UNREACH : Fld := ⟨0x1, 0x2C0, 0, 16, 0x0, .ro, 1, 4, .epoch⟩
/-- R598. epoch: window reads, from the host and Moldom together. -/
def BRW_WIN_RD_COUNT : Fld := ⟨0x1, 0x2C4, 0, 32, 0x0, .ro, 1, 4, .epoch⟩
/-- R598. epoch: window writes, from the host and Moldom together. -/
def BRW_WIN_WR_COUNT : Fld := ⟨0x1, 0x2C8, 0, 32, 0x0, .ro, 1, 4, .epoch⟩
/-- The fields of class 0x0 (R587). -/
def fieldsHeader : List Fld := [PG_ID_CLASS, PG_ID_INSTANCE, PG_ID_VERSION, PG_CAP_TWOKEY, PG_CAP_GLOBAL, PG_CAP_INDIRECT, PG_CAP_STREAMS, PG_CAP_SCAN, PG_CAP_CKU, PG_CTRL_OWNER, PG_STAT_PERMANENT, PG_STAT_STALE, PG_STAT_UNREACHED, PG_STAT_CLKSTOP, PG_STAT_RESET, PG_STAT_STATE, PG_EVT_RAW_CLASS, PG_EVT_EN_CLASS, PG_EVT_CLASS, PG_LOCK_STAGED, PG_LOCK_PENDING, PG_LOCK_LAST, PG_CUT_EPOCH_EPOCH]
/-- Fields of class 0x1 (R587), part 1. -/
def fieldsBrw1 : List Fld := [BRW_ROLE_REIGN, BRW_ROLE_UNMIRRORED, BRW_ROLE_STANDBY_OK, BRW_ROLE_TAKEOVER_BUSY, BRW_ROLE_ACTIVE, BRW_MIRROR_EPOCH_EPOCH, BRW_TAKEOVERS_COUNT, BRW_HB_MISS_MESH, BRW_HB_MISS_STAIR2, BRW_HB_MISS_STAIR1, BRW_QPOLICY_POLICY, BRW_WAFER_Q_REPLACE, BRW_WAFER_Q_STATE, BRW_HIST_PUID_PUID, BRW_HIST_SEL_ENTRY, BRW_HIST_WIN, BRW_HIST_STAT_FULL, BRW_HIST_STAT_FOUND, BRW_HIST_STAT_TABLES, BRW_DIG_CTRL_JOIN, BRW_DIG_WAFER_ID, BRW_DIG_TICK_MAX_US, BRW_DIG_TICK_MIN_US, BRW_DIG_TICKS_COUNT, BRW_DIG_PEER_ID_WAFER, BRW_DIG_PEER_DOOR_VALID, BRW_DIG_PEER_DOOR_DOOR, BRW_DIG_SERVER_VALID, BRW_DIG_SERVER_DOOR, BRW_STP_PERIOD_ANA_MIN]
/-- Fields of class 0x1 (R587), part 2. -/
def fieldsBrw2 : List Fld := [BRW_STP_PERIOD_UNIT_H, BRW_STP_PERIOD_CORE_H, BRW_STP_ROT_COUNT, BRW_STP_OVERDUE_COUNT, BRW_GRIST_ACTIVE_VERSION, BRW_GRIST_STAGED_VERSION, BRW_GRIST_STAT_STORES, BRW_GRIST_STAT_REASON, BRW_GRIST_STAT_STATE, BRW_GRIST_TARGET_ID, BRW_GRIST_ACTROT_COUNT, BRW_RST_STAT_LAST, BRW_RST_STAT_PCWIN, BRW_RST_CHIP_COUNT, BRW_PWRCYC_COUNT, BRW_PWRCYC_CFG_LIMIT, BRW_RET_STAT_RETIRED, BRW_RET_SEL_CTX, BRW_RET_Q_STATE, BRW_LOST_REGIONS, BRW_CUT_CTRL_GO, BRW_CUT_CTRL_STOP, BRW_CUT_CTRL_RESUME, BRW_CUT_CFG_STOP_MAX_S, BRW_CUT_CFG_PERIOD_MS, BRW_CUT_EPOCH_DONE, BRW_CUT_STAT_BUSY, BRW_CUT_STAT_STOPPED, BRW_CUT_STAT_OVERRUN, BRW_CUT_STAT_LATE]
/-- Fields of class 0x1 (R587), part 3. -/
def fieldsBrw3 : List Fld := [BRW_CUT_STAT_FLAGGED, BRW_CUT_TIME_NS, BRW_CUT_DUR_TICKS, BRW_AUD_FAIL_COUNT, BRW_BOOT_STAGE, BRW_BOOT_STOPPED, BRW_BOOT_GOLDEN, BRW_BOOT_FALLBACK, BRW_BOOT_SLOT, BRW_BOOT_REASON, BRW_BOOT_MS_MS, BRW_BOOT_UNITS_USABLE, BRW_BOOT_UNITS_FAILED, BRW_FW_STAT_STATE, BRW_FW_STAT_REASON, BRW_FW_STAT_MIXED, BRW_FW_STAT_TRIAL, BRW_FW_STAT_TRIES, BRW_FW_STAT_HOLD_RESET, BRW_FW_STAT_HOLD_STOP, BRW_FW_STAT_HOLD_EMERG, BRW_FW_STAT_SWITCHED, BRW_FW_STAGED_VER, BRW_FW_SVN_MIN, BRW_HOSTIMG_VER, BRW_PROC_SEL_INDEX, BRW_PROC_STAT_STATE, BRW_PROC_STAT_SLOT, BRW_PROC_STAT_WDOG, BRW_PROC_STAT_RESTARTS]
/-- Fields of class 0x1 (R587), part 4. -/
def fieldsBrw4 : List Fld := [BRW_VAR_VER_VER, BRW_VAR_STAT_PENDING, BRW_VAR_STAT_CAL_OK, BRW_VAR_STAT_DEFECTS, BRW_IFVER_BASEONLY, BRW_IFVER_NEGOTIATED, BRW_IFVER_MAJ, BRW_IFVER_MIN, BRW_FEAT_SEL_WORD, BRW_FEAT_OURS_MAP, BRW_FEAT_COMMON_MAP, BRW_FEAT_HOST_MAP, BRW_FW_HOLD_MS, BRW_MGT_STAT_EID_VALID, BRW_MGT_STAT_EID, BRW_MGT_STAT_QUEUED, BRW_MGT_CFG_RATE, BRW_MGT_CFG_BURST, BRW_MGT_CFG_STATUS_S, BRW_MGT_SENT_COUNT, BRW_MGT_DROP_COUNT, BRW_MGT_VID_IANA, BRW_POSTURE_FLOOR, BRW_POSTURE_WAFER, BRW_POSTURE_OVR, BRW_DBG_STAT_UNLOCKED, BRW_DBG_STAT_HALTED, BRW_DBG_STAT_MINUTES, BRW_DBG_PIPE_TASTERS, BRW_WIN_STAT_STATEW]
/-- Fields of class 0x1 (R587), part 5. -/
def fieldsBrw5 : List Fld := [BRW_WIN_STAT_UNREACH, BRW_WIN_RD_COUNT, BRW_WIN_WR_COUNT]
/-- The fields of class 0x1 (R587). -/
def fieldsBrw : List Fld := fieldsBrw1 ++ fieldsBrw2 ++ fieldsBrw3 ++ fieldsBrw4 ++ fieldsBrw5
/-- The fields of class 0x2 (R587). -/
def fieldsStr : List Fld := [STR_SEL_PORT, STR_SEL_FIELD, STR_PORTS_DETOUR, STR_PORTS_LIVE, STR_HOP_DELAY_DELAY, STR_RETRY_COUNT, STR_DEAD_COUNT]
/-- The fields of class 0x3 (R587). -/
def fieldsMbx : List Fld := [MBX_RING_BASE_ADDR, MBX_RING_CFG_ENTRIES, MBX_RING_TAIL_PHASE, MBX_RING_TAIL_INDEX, MBX_RING_HEAD_INDEX, MBX_HB_COUNT, MBX_STAT_ABSENT, MBX_STAT_LINKDOWN, MBX_STAT_PENDING, MBX_STAT_HELD, MBX_ABS_DROP_COUNT, MBX_RING_DROP_COUNT, MBX_MSI_CFG_HOLDOFF_US, MBX_TAKEN_COUNT, MBX_REFUSED_COUNT, MBX_SLOT_ACK_SEQ]
/-- The fields of class 0x4 (R587). -/
def fieldsAtt : List Fld := [ATT_FULL_FULL, ATT_DROPPED_COUNT, ATT_STAT_STAGEOVF, ATT_STAT_STAGED, ATT_STAT_COUNT, ATT_CURSOR_INDEX, ATT_LASTSEQ_SEQ, ATT_NEXTSEQ_SEQ, ATT_OPTIME_TIME, ATT_PCYC_COUNT, ATT_WIN]
/-- The fields of class 0x5 (R587). -/
def fieldsLft : List Fld := [LFT_CFG_SIZE_GIB, LFT_CFG_MODE, LFT_CFG_EN, LFT_RATE_UNBINNED, LFT_RATE_REC_PER_US, LFT_BINS_BINS, LFT_CTRL_RESTART, LFT_MARK_VALUE, LFT_SEG_MIB, LFT_SEL_TASTER, LFT_SEG_NEXT_INDEX, LFT_SEG_STAT_WRAPPED, LFT_SEG_STAT_STOPPED, LFT_SEG_STAT_LOST, LFT_SEG_STAT_WRAPS, LFT_SEG_DROPPED_COUNT, LFT_RD_INDEX_INDEX, LFT_RD_WIN]
/-- Fields of class 0x6 (R587), part 1. -/
def fieldsPrv1 : List Fld := [PRV_SEL_CTX, PRV_CTX_CFG_WSET, PRV_CTX_CFG_RECORD, PRV_CTX_CFG_PROV, PRV_PROG, PRV_LASTSTEP_STEP, PRV_DIG, PRV_STAT_BROKEN, PRV_STAT_QUEUE, PRV_MAPDIG, PRV_MAPGEN_COUNT, PRV_FWVER_VER, PRV_WSET_SEL_SET, PRV_WSET_TLO_TENSOR, PRV_WSET_THI_TENSOR, PRV_WSET_STAT_MISSING, PRV_WSET_STAT_EN, PRV_WSET_EPOCH_COUNT, PRV_WSD, PRV_PAIR_CFG_PAIRED, PRV_PAIR_CFG_VIA, PRV_PAIR_CFG_DOOR, PRV_PAIR_CFG_CTX, PRV_PAIR_PEER_WAFER, PRV_PAIR_KEY, PRV_PAIR_STAT_DIVERGED, PRV_PAIR_DIV_STEP, PRV_PAIR_DIVCL_CLUSTER, PRV_PAIR_DIVOP_LAYER, PRV_PAIR_DIVOP_OP]
/-- Fields of class 0x6 (R587), part 2. -/
def fieldsPrv2 : List Fld := [PRV_PAIR_MATCHED_COUNT, PRV_PAIR_PARTIAL_COUNT, PRV_PAIR_UNMATCHED_COUNT, PRV_REC_CFG_MIB, PRV_REC_CFG_MODE, PRV_REC_STAT_FULL, PRV_REC_STAT_MISMATCH, PRV_REC_USED_BYTES, PRV_REC_POS_SEQ]
/-- The fields of class 0x6 (R587). -/
def fieldsPrv : List Fld := fieldsPrv1 ++ fieldsPrv2
/-- The fields of class 0x7 (R587). -/
def fieldsDrw : List Fld := [DRW_SEED_SEL_CTX, DRW_SEED, DRW_SEED_CTRL_SET, DRW_SEED_CTRL_STATUS, DRW_CALC_CTR, DRW_KAT_KEY, DRW_CALC_CTRL_GO, DRW_CALC_CTRL_KEYSEL, DRW_CALC_STAT_CODE, DRW_CALC_OUT, DRW_STAT_UNSEEDED, DRW_PORT_COUNT]
/-- The fields of class 0x8 (R587). -/
def fieldsTwk : List Fld := [TWK_STAT_STAGED, TWK_STAT_LAST, TWK_SEL_CLASS, TWK_NONCE_NONCE, TWK_PROP_ORIGIN, TWK_PROP_FLEET, TWK_PROP_HOST, TWK_LEFT_MS, TWK_COMMITS_COUNT, TWK_REFUSED_COUNT]
/-- The fields of class 0x9 (R587). -/
def fieldsTmb : List Fld := [TMB_NOW_NS, TMB_STAT_MISALIGNED, TMB_STAT_BEAT_ON, TMB_STAT_SOURCE, TMB_BEAT_SEQ_SEQ, TMB_CYC_SEL_REGION, TMB_CYC_CYC]
/-- The fields of class 0xA (R587). -/
def fieldsThm : List Fld := [THM_SEL_FIELD, THM_SEL_SENSOR, THM_TEMP_BROKEN, THM_TEMP_PRESENT, THM_TEMP_BAND, THM_TEMP_REASON, THM_TEMP_T, THM_RAW_COUNT, THM_SUM_MAXBAND, THM_SUM_THROTTLED, THM_SUM_SHUT, THM_SUM_BROKEN, THM_EMERG_ACTIVE, THM_EMERG_K5, THM_EMERG_POWER, THM_EMERG_LIMIT, THM_LIM_TJ_TJ, THM_LIM_VDD_VMAX, THM_LIM_VDD_VMIN, THM_LIM_CLK_CYC]
/-- The fields of class 0xB (R587). -/
def fieldsHch : List Fld := [HCH_CTRL_DISABLE, HCH_BACKSTOP_US, HCH_SEL_GATE, HCH_HELD_GRAN, HCH_WITHHELD_COUNT, HCH_IN_BYTES, HCH_OUT_BYTES, HCH_DISC_BYTES, HCH_NOTE_BYTES]
/-- Fields of class 0x10 (R587), part 1. -/
def fieldsHal1 : List Fld := [HAL_TMO_CLASS_LIMIT, HAL_TMO_CNT_COUNT, HAL_TMO_LATE_COUNT, HAL_STALL_CFG_MS, HAL_RST_STAT_LEVEL, HAL_RST_STAT_STEP, HAL_RPL_STAT_ACTIVE, HAL_RPL_STAT_REMAIN, HAL_RPL_STAT_CTX, HAL_RPL_SEL_CLUSTER, HAL_HANG_CNT_GUILTY, HAL_HANG_CNT_TRANSIENT, HAL_RST_CORE_COUNT, HAL_RST_ENGINE_COUNT, HAL_RST_PART_COUNT, HAL_ABS_BYTES, HAL_RET_BYTES, HAL_PWR_ISO, HAL_PWR_LOST, HAL_PWR_OC, HAL_PWR_PGLOSS, HAL_PWR_PG, HAL_THM_STAT_BAND, HAL_THM_STAT_SHUT, HAL_THM_STAT_CAUSE, HAL_THM_STAT_WORKING, HAL_THM_STAT_NOACK, HAL_THM_STAT_METHOD, HAL_THM_STAT_LEVEL, HAL_THM_STAT_REQ_LIMIT]
/-- Fields of class 0x10 (R587), part 2. -/
def fieldsHal2 : List Fld := [HAL_THM_STAT_REQ_CAP, HAL_THM_STAT_REQ_BAND, HAL_THM_CFG_METHOD, HAL_PWR_BUDGET_W, HAL_PWR_EST_W, HAL_THR_TIME_US, HAL_LIM_TRIP_TJ, HAL_LIM_TRIP_VDD, HAL_LIM_TRIP_CLK, HAL_LIM_TRIP_SHUT]
/-- The fields of class 0x10 (R587). -/
def fieldsHal : List Fld := fieldsHal1 ++ fieldsHal2
/-- The fields of class 0x11 (R587). -/
def fieldsDor : List Fld := [DOR_STP_STAT_HELD, DOR_STP_STAT_LOOP, DOR_STP_LAST_OPTIME, DOR_BYTES_SEL_SEL, DOR_BYTES_BYTES, DOR_HELD_RX, DOR_HELD_TX, DOR_CR_ISS_COUNT, DOR_CR_RET_COUNT, DOR_CR_CONS_COUNT, DOR_CR_CAP_OCC, DOR_CR_CAP_CAP, DOR_AUD_STAT_SHUTTERED, DOR_AUD_STAT_VOID, DOR_AUD_STAT_FAILED, DOR_RET_BLOCKS_COUNT]
/-- Fields of class 0x12 (R587), part 1. -/
def fieldsCel1 : List Fld := [CEL_STAT_SUSPECT, CEL_STAT_RESTORED, CEL_STAT_REFMULT, CEL_STAT_BAND, CEL_CH_CTRL_CLEAR, CEL_CH_CTRL_FENCE, CEL_SCRUB_CFG_PERIOD_H, CEL_SCRUB_POS_CH, CEL_SCRUB_POS_GRAN, CEL_SCRUB_PASS_COUNT, CEL_SCRUB_LATE_COUNT, CEL_CE_CFG_LIMIT, CEL_ECC_SEL_CH, CEL_ECC_CE_COUNT, CEL_ECC_UE_COUNT, CEL_ECC_RACE_COUNT, CEL_PSN_STAT_OVF, CEL_PSN_STAT_ENTRIES, CEL_PSN_RANGES_USED, CEL_PSN_SEL_INDEX, CEL_PSN_ENTRY, CEL_RNG_SEL_INDEX, CEL_RNG_ENTRY, CEL_REP_STAT_QUEUED, CEL_REP_STAT_RUNNING, CEL_REP_DONE_COUNT, CEL_REP_FAIL_COUNT, CEL_DIG_ROT_COUNT, CEL_DIG_TICK_COUNT, CEL_DIG_BPT_BYTES]
/-- Fields of class 0x12 (R587), part 2. -/
def fieldsCel2 : List Fld := [CEL_DIG_LAG_BYTES, CEL_DIG_STAT_LATE, CEL_DIG_STAT_POSTURE, CEL_DIG_CMP_COUNT, CEL_DIG_MISM_COUNT, CEL_DIG_UNCMP_COUNT, CEL_DIG_SKIP_COUNT, CEL_DIG_IGN_COUNT, CEL_BYTES_SEL_CH, CEL_BYTES_DELIV, CEL_BYTES_SAVED, CEL_BYTES_WRITTEN, CEL_BYTES_MAINT, CEL_SLICE_SEL_INDEX, CEL_SLICE_CMD_STATUS, CEL_SLICE_CMD_OP, CEL_SLICE_COUNT_VALID, CEL_SLICE_COUNT_USED, CEL_SLICE_V, CEL_SLICE_STAGE, CEL_STP_CTRL_CHSTEEP, CEL_STP_STAT_BUSY, CEL_STP_STAT_PASS, CEL_STP_LAST_OPTIME, CEL_AUD_SEL_CH, CEL_BYTES_RDI_BYTES, CEL_BYTES_LOOP_BYTES, CEL_AUD_HELD_BYTES, CEL_AUD_STAT_FAILED]
/-- The fields of class 0x12 (R587). -/
def fieldsCel : List Fld := fieldsCel1 ++ fieldsCel2
/-- Fields of class 0x13 (R587), part 1. -/
def fieldsTst1 : List Fld := [TST_RES_STAT_OVERRIDE, TST_RES_STAT_POSTURE, TST_RES_ALARMS_COUNT, TST_RES_SUMMARIES_COUNT, TST_RES_INCOMPLETE_COUNT, TST_RES_UNCHECKED_COUNT, TST_ATM_CHECKED_COUNT, TST_ATM_SKIPPED_COUNT, TST_ATM_MISM_COUNT, TST_RPL_STAT_PENDING, TST_RPL_STAT_HOLD, TST_RPL_STAT_MULT, TST_RPL_STAT_LEAD, TST_RPL_STAT_TRUSTED, TST_RPL_SAMPLED_COUNT, TST_RPL_MATCH_COUNT, TST_RPL_MISM_COUNT, TST_RPL_NODESC_COUNT, TST_RPL_SHED_COUNT, TST_RPL_STALE_COUNT, TST_RPL_RDERR_COUNT, TST_RPL_TOLSKIP_COUNT, TST_RPL_UNCMP_COUNT, TST_PRIV_CHECKED_COUNT, TST_PRIV_FAIL_COUNT, TST_PRIV_OVER_COUNT, TST_PRIV_LAT_MAX, TST_LACC_OVF_COUNT, TST_DESC_SEL_BCAST, TST_DESC_SEL_KIND]
/-- Fields of class 0x13 (R587), part 2. -/
def fieldsTst2 : List Fld := [TST_DESC_SEL_INDEX, TST_DESC_CTRL_VALID, TST_DESC_CTRL_STATUS, TST_DESC_CTRL_INVAL, TST_DESC_CTRL_LOAD, TST_DESC_LEN_BYTES, TST_DESC_POOL_FREE, TST_ADJ_STAT_ADOPTER, TST_ADJ_STAT_ADOPTED, TST_ADJ_STAT_ADOPTING, TST_ADJ_STAT_OPEN, TST_ADJ_CASES_COUNT, TST_ADJ_DROPPED_COUNT, TST_ADJ_INCONCL_COUNT, TST_ADJ_PERM_COUNT, TST_ADJ_TRANS_COUNT, TST_ADJ_TAP_COUNT, TST_ADJ_TST_COUNT, TST_ADJ_SERVED_COUNT, TST_ADJ_LAST_VERDICT, TST_ADJ_LASTPUID_PUID, TST_SPARES_LENT, TST_SPARES_FREE, TST_PSN_KILLS_COUNT, TST_PSN_RETIRED_COUNT, TST_MAP_MISS_COUNT, TST_STP_STAT_CORE, TST_STP_STAT_ACTIVE, TST_STP_STAT_SLICE, TST_STP_STAT_QUEUE]
/-- Fields of class 0x13 (R587), part 3. -/
def fieldsTst3 : List Fld := [TST_STP_DONE_COUNT, TST_STP_FAIL_COUNT, TST_STP_ABORT_COUNT, TST_STP_DEFER_COUNT, TST_STP_OVERDUE_COUNT, TST_STP_SEL_CORE, TST_STP_LAST_OPTIME, TST_STP_CORE_PASSED, TST_STP_CORE_TAPDUE, TST_STP_CORE_FORCED, TST_STP_CORE_OVERDUE, TST_HANG_STAT_CORE, TST_HANG_STAT_HOLD, TST_HANG_STAT_ABSORB, TST_HANG_STAT_DRAIN, TST_HANG_STAT_ALLOW, TST_HANG_CNT_COUNT, TST_RST_CORE_COUNT, TST_RST_ENGINE_COUNT, TST_ABS_BYTES, TST_RET_BYTES, TST_RET_BLOCKS_COUNT, TST_L1_RD_BYTES, TST_L1_WR_BYTES, TST_ATB_SEL_BCAST, TST_ATB_SEL_BIN, TST_ATB_MATCH_LAYER, TST_ATB_MATCH_OP, TST_ATB_MASK_LAYER, TST_ATB_MASK_OP]
/-- Fields of class 0x13 (R587), part 4. -/
def fieldsTst4 : List Fld := [TST_ATB_CTRL_EN, TST_CNT_SEL_INDEX, TST_CNT_CFG_BIN, TST_CNT_CFG_EVENT, TST_CNT_COUNT]
/-- The fields of class 0x13 (R587). -/
def fieldsTst : List Fld := fieldsTst1 ++ fieldsTst2 ++ fieldsTst3 ++ fieldsTst4
/-- The fields of class 0x14 (R587). -/
def fieldsTap : List Fld := [TAP_RES_STAT_QFILL, TAP_RES_STAT_LASTQ, TAP_RES_STAT_LIMIT, TAP_RES_STAT_BUSY, TAP_RES_STAT_POSTURE, TAP_RES_COVERED_COUNT, TAP_RES_ROTATED_COUNT, TAP_RES_DROPPED_COUNT, TAP_RES_SKIPPED_COUNT, TAP_RES_DSC_COUNT, TAP_RES_CLOSED_COUNT, TAP_RES_MISM_COUNT, TAP_RES_LAST_RKIND, TAP_RES_LAST_PRED, TAP_RES_LAST_OBS, TAP_RES_LASTPOS_CMDID, TAP_RES_LASTPOS_POS, TAP_L0_RD_BYTES, TAP_L0_WR_BYTES, TAP_WIN_SEL_KIND, TAP_WIN_SEL_CLUSTER, TAP_WIN_SEL_CORE]
/-- Fields of class 0xFE (R587), part 1. -/
def fieldsCku1 : List Fld := [CKU_TB_CFG_PRESET, CKU_TB_CFG_REFOUT, CKU_TB_CFG_REFIN, CKU_TB_CFG_WIDTH, CKU_TB_POLY_POLY, CKU_TB_INIT_INIT, CKU_TB_XOR_XOR, CKU_SC_CFG_PRESET, CKU_SC_CFG_REFOUT, CKU_SC_CFG_REFIN, CKU_SC_CFG_WIDTH, CKU_SC_POLY, CKU_SC_INIT, CKU_SC_XOR, CKU_SCAN_START_ADDR, CKU_SCAN_LEN_LEN, CKU_SCAN_CTRL_GO, CKU_SCAN_CTRL_ABORT, CKU_SCAN_CTRL_CMP, CKU_SCAN_CTRL_SPACE, CKU_SCAN_EXP_VAL, CKU_SCAN_STAT_SEQ, CKU_SCAN_STAT_ORIGIN, CKU_SCAN_STAT_OVERRUN, CKU_SCAN_STAT_BUSY, CKU_SCAN_STAT_CODE, CKU_SCAN_RESULT_VAL, CKU_SCAN_ADDR_ADDR, CKU_CNT_SEL_PATH, CKU_CNT_BLOCKS_COUNT]
/-- Fields of class 0xFE (R587), part 2. -/
def fieldsCku2 : List Fld := [CKU_CNT_FAIL_COUNT, CKU_CNT_REJECT_COUNT, CKU_CNT_REPEAT_COUNT, CKU_CNT_LOSS_COUNT, CKU_CNT_GAP_COUNT, CKU_CNT_POISON_IN_COUNT, CKU_CNT_ABSORB_BYTES, CKU_STRM_SEL_DIR, CKU_STRM_SEL_STREAM, CKU_STRM_STAT_SYNC, CKU_STRM_STAT_NEXT, CKU_STRM_CTRL_RESYNC, CKU_WIN_SEL_WIN, CKU_WIN_BASE_LO_ADDR, CKU_WIN_BASE_HI_EN, CKU_WIN_BASE_HI_CHANNEL, CKU_WIN_BASE_HI_ADDR, CKU_WIN_SIZE_GRAN]
/-- The fields of class 0xFE (R587). -/
def fieldsCku : List Fld := fieldsCku1 ++ fieldsCku2

end Sys2Proof.Machine
end

