-- ==== Sys2Proof/Config.lean ====
section
/-! DEFINITION. What a configuration fixes (R1-R8) and the free values: opaque constants that no proof can evaluate. -/
namespace Sys2Proof

/-- A licensed configuration (R6): columns, rows, region rows per column, spares per cluster, edge links, the
regions of the Brewhouses, the first region row of the south half, and the rows of the edge links of each edge. -/
structure Config.Geometry where
  cols : Nat
  rows : Nat
  regionRows : Nat
  spares : Nat
  edgeWest : List Nat
  edgeEast : List Nat
  brewA : Nat
  brewB : Nat
  south : Nat
  deriving DecidableEq, Repr

/-- ONS-84, the reference host (R2, R3, R6). -/
def Config.ons84 : Config.Geometry := ⟨7, 12, 6, 64, [1, 3, 5, 6, 8, 10], [1, 3, 5, 6, 8, 10], 19, 22, 3⟩
/-- ONS-42 (R6, R8). -/
def Config.ons42 : Config.Geometry := ⟨7, 6, 3, 56, [1, 3, 4], [1, 3, 4], 10, 11, 2⟩
/-- ONS-21 (R6, R8): link 21 at row 1 of column 0, links 22 and 23 at rows 2 and 0 of column 6. -/
def Config.ons21 : Config.Geometry := ⟨7, 3, 2, 48, [1], [2, 0], 6, 7, 1⟩

/-- The places of the configuration modelled (R1; assumption 1). -/
def Config.host : Config.Geometry := match product with | .ons84 => Config.ons84 | .ons42 => Config.ons42 | .ons21 => Config.ons21

/-- Fields (R7). -/
def Config.Geometry.fields (g : Config.Geometry) : Nat := g.cols * g.rows
/-- Column of a field (R7). -/
def Config.Geometry.col (g : Config.Geometry) (f : Nat) : Nat := f / g.rows
/-- Row of a field (R7). -/
def Config.Geometry.row (g : Config.Geometry) (f : Nat) : Nat := f % g.rows
/-- Field at a column and row (R7). -/
def Config.Geometry.field (g : Config.Geometry) (c y : Nat) : Nat := g.rows * c + y
/-- Region of a field (R7): region row p covers rows 2p and 2p+1. -/
def Config.Geometry.region (g : Config.Geometry) (f : Nat) : Nat := g.regionRows * g.col f + g.row f / 2
/-- Regions, the Halls (R6). -/
def Config.Geometry.regions (g : Config.Geometry) : Nat := g.cols * g.regionRows
/-- North field of a region (R2). -/
def Config.Geometry.north (g : Config.Geometry) (r : Nat) : Nat := g.field (r / g.regionRows) (2 * (r % g.regionRows))
/-- The fields of a region: two, or one where the last row stands alone (R7). -/
def Config.Geometry.fieldsOf (g : Config.Geometry) (r : Nat) : List Nat :=
  (List.range g.fields).filter (fun f => g.region f == r)
/-- A region lies in the south half (R4, R6). -/
def Config.Geometry.inSouth (g : Config.Geometry) (r : Nat) : Bool := decide (g.south ≤ r % g.regionRows)
/-- Links, the Doors (R6). -/
def Config.Geometry.links (g : Config.Geometry) : Nat := g.fields + g.edgeWest.length + g.edgeEast.length
/-- Field that holds a link: link n in field n for an optical one, the edge rows for the rest (R2, R3, R8). -/
def Config.Geometry.linkField (g : Config.Geometry) (n : Nat) : Nat :=
  if n < g.fields then n
  else
    let e := n - g.fields
    if e < g.edgeWest.length then g.field 0 (g.edgeWest.getD e 0)
    else g.field (g.cols - 1) (g.edgeEast.getD (e - g.edgeWest.length) 0)
/-- A majority of the Halls (R61). -/
def Config.Geometry.majority (g : Config.Geometry) : Nat := g.regions / 2 + 1
/-- Field of a Brewhouse's router: the north field of its region (R28). -/
def Config.Geometry.brewField (g : Config.Geometry) (bh : Bh) : Nat :=
  g.north (match bh with | .a => g.brewA | .b => g.brewB)
/-- Tasters, 10 a field (R2). -/
def Config.Geometry.clusters (g : Config.Geometry) : Nat := 10 * g.fields
/-- Logical cores of a cluster: its 1,024 physical cores less its spares (R6). -/
def Config.Geometry.logical (g : Config.Geometry) : Nat := 1024 - g.spares

/-- FREE VALUE. The reason in the notices of a gate cell closed for a lost REFCLK, which R119 does not name; argument: draw number. -/
opaque Config.refclkReason : Nat → Nat

/-- FREE VALUE. Any other value that the spec leaves open: argument: draw number. Each use names what it stands for. -/
opaque Config.openVal : Nat → Nat
/-- FREE VALUE. A constant of the signed firmware image or of another image whose content the spec does not give; arguments: what it is of, and its index. -/
opaque Config.imageVal : Nat → Nat → Nat

/-- FREE VALUE. The response bits of a built-in slice, which the signed firmware image fixes (R342); arguments: the image's version, the unit's kind as R353 codes tests,
less 1, and the slice. -/
opaque Config.imageResp : Nat → Nat → Nat → List Bool

end Sys2Proof
end

