-- ==== Sys2Proof/Machine/Geometry.lean ====
section
/-! DEFINITION. Places on the wafer and names of units: neighbours, regions, page numbers, physical unit identifiers (R2, R12-R14, R28, R586). -/
namespace Sys2Proof.Machine
open Sys2Proof

/-- Field of a cluster (R2). -/
def fieldOfCluster (k : Nat) : Nat := k / 10
/-- Region of a field on the host (R2). -/
def regionOfField (f : Nat) : Nat := Config.host.region f
/-- Region of a cluster. -/
def regionOfCluster (k : Nat) : Nat := regionOfField (fieldOfCluster k)
/-- Field of a stack (R2). -/
def fieldOfStack (s : Nat) : Nat := s / 4
/-- Region of a stack. -/
def regionOfStack (s : Nat) : Nat := regionOfField (fieldOfStack s)
/-- Region of a link or Door. -/
def regionOfDoor (n : Nat) : Nat := regionOfField (Config.host.linkField n)
/-- Region of a gate cell: its link's; the PCIe gate's field is of item 0x0009 of the variant record (R599). -/
def regionOfGate (pcieField g : Nat) : Nat := if g < nLinks then regionOfDoor g else regionOfField pcieField
/-- The clusters of a region. -/
def clustersOf (r : Nat) : List Nat := (Config.host.fieldsOf r).flatMap (fun f => (List.range 10).map (10 * f + ·))
/-- The stacks of a region. -/
def stacksOf (r : Nat) : List Nat := (Config.host.fieldsOf r).flatMap (fun f => (List.range 4).map (4 * f + ·))
/-- The links of a region. -/
def doorsOf (r : Nat) : List Nat := (List.range nLinks).filter (fun n => regionOfDoor n == r)
/-- The cluster of index `i` of a region as HAL_RPL_SEL counts them (R387). -/
def clusterAt (r i : Nat) : Nat := (clustersOf r).getD i 0

/-- Number of a hop in STR_SEL.PORT order (R70). -/
def hopNo : Hop → Nat
  | .n => 0 | .e => 1 | .s => 2 | .w => 3 | .ne => 4 | .sw => 5
/-- The hop at the other end of a hop's wire. -/
def hopBack : Hop → Hop
  | .n => .s | .e => .w | .s => .n | .w => .e | .ne => .sw | .sw => .ne
/-- The field a hop leads to, where one exists. -/
def hopTo (f : Nat) (h : Hop) : Option Nat :=
  let g := Config.host
  let c := g.col f
  let y := g.row f
  match h with
  | .n => if y = 0 then none else some (f - 1)
  | .s => if y + 1 < g.rows then some (f + 1) else none
  | .w => if c = 0 then none else some (f - g.rows)
  | .e => if c + 1 < g.cols then some (f + g.rows) else none
  | .ne => if y = 0 ∨ g.cols ≤ c + 1 then none else some (f + g.rows - 1)
  | .sw => if c = 0 ∨ g.rows ≤ y + 1 then none else some (f + 1 - g.rows)
/-- The mesh hop of the ordinary unicast route: along the row first, then along the column (R36). -/
def routeHop (f d : Nat) : Option Hop :=
  let g := Config.host
  if g.col f < g.col d then some .e
  else if g.col d < g.col f then some .w
  else if g.row f < g.row d then some .s
  else if g.row d < g.row f then some .n
  else none
/-- The children of a router in the broadcast tree rooted at field `root`: along the root's row, then along every column (R36). -/
def treeHops (root f : Nat) : List Hop :=
  let g := Config.host
  let onRow := g.row f == g.row root
  let east := onRow && decide (g.col root ≤ g.col f)
  let west := onRow && decide (g.col f ≤ g.col root)
  let up := decide (g.row f ≤ g.row root)
  let down := decide (g.row root ≤ g.row f)
  (([(Hop.e, east), (Hop.w, west), (Hop.n, up), (Hop.s, down)].filter (·.2)).map (·.1)).filter
    (fun h => (hopTo f h).isSome)
/-- The region next to a region in a direction (R110). -/
def regionTo (r : Nat) (d : Dir) : Option Nat :=
  let g := Config.host
  let c := r / g.regionRows
  let p := r % g.regionRows
  match d with
  | .n => if p = 0 then none else some (r - 1)
  | .s => if p + 1 < g.regionRows then some (r + 1) else none
  | .w => if c = 0 then none else some (r - g.regionRows)
  | .e => if c + 1 < g.cols then some (r + g.regionRows) else none
/-- Number of a direction in the order of HL_ISO_N (R110). -/
def dirNo : Dir → Nat
  | .n => 0 | .e => 1 | .s => 2 | .w => 3

/-- A physical unit identifier (R13). -/
def puid (kind major minor : Nat) : Nat := kind % 16 * 2 ^ 28 + major % 4096 * 2 ^ 16 + minor % 2 ^ 16
/-- KIND of a PUID (R13). -/
def puidKind (p : Nat) : Nat := p / 2 ^ 28
/-- MAJOR of a PUID (R13). -/
def puidMajor (p : Nat) : Nat := p / 2 ^ 16 % 4096
/-- MINOR of a PUID (R13). -/
def puidMinor (p : Nat) : Nat := p % 2 ^ 16
/-- A host core (R13). -/
def puCore (k p : Nat) : Nat := puid 0 k p
/-- A Tap (R13). -/
def puTap (k p : Nat) : Nat := puid 1 k p
/-- A Taster (R13). -/
def puTst (k : Nat) : Nat := puid 2 k 0
/-- A Hall (R13). -/
def puHal (r : Nat) : Nat := puid 3 r 0
/-- A Brewhouse (R13). -/
def puBrw (bh : Bh) : Nat := puid 4 (match bh with | .a => 0 | .b => 1) 0
/-- A Cellar (R13). -/
def puCel (s : Nat) : Nat := puid 5 s 0
/-- A Door (R13). -/
def puDor (n : Nat) : Nat := puid 6 n 0
/-- A Stair router (R13). -/
def puRtr (f : Nat) : Nat := puid 7 f 0
/-- A memory channel (R13). -/
def puChan (s c : Nat) : Nat := puid 8 s c
/-- A link lane (R13). -/
def puLane (n l : Nat) : Nat := puid 9 n l
/-- A sensor (R13). -/
def puSensor (f i : Nat) : Nat := puid 10 f i
/-- A supply monitor: 0 the power-good and over-current pair, 1 the core rail monitor (R13). -/
def puSupply (r i : Nat) : Nat := puid 11 r i

/-- The sensor exists: every field has those of its Tasters and Cellars, a region's north field its Hall's, a Brewhouse's field its own (R14). -/
def sensorThere (f i : Nat) : Bool :=
  decide (f < Config.host.fields) && (decide (i < 14) || (i == 14 && f == Config.host.north (regionOfField f))
    || (i == 15 && (f == Config.host.brewField .a || f == Config.host.brewField .b)))
/-- A unit of this configuration has this PUID (R13, R14). -/
def puidOk (p : Nat) : Bool :=
  let g := Config.host
  let k := puidMajor p
  let m := puidMinor p
  match puidKind p with
  | 0 | 1 => decide (k < g.clusters ∧ m < 1024)
  | 2 => decide (k < g.clusters) && m == 0
  | 3 => decide (k < g.regions) && m == 0
  | 4 => decide (k < 2) && m == 0
  | 5 => decide (k < 4 * g.fields) && m == 0
  | 6 => decide (k < g.links) && m == 0
  | 7 => decide (k < g.fields) && m == 0
  | 8 => decide (k < 4 * g.fields ∧ m < 16)
  | 9 => decide (k < g.links ∧ m < 4)
  | 10 => sensorThere k m
  | 11 => decide (k < g.regions ∧ m < 2)
  | _ => false

/-- Unit numbers: the page of a unit where it has one (R586); Taps, gate cells and routers are numbered above the window. -/
def uBRW : Nat := 0
def uSTR : Nat := 1
def uMBX (i : Nat) : Nat := 0x10 + i
def uATT : Nat := 0x20
def uLFT : Nat := 0x21
def uPRV : Nat := 0x22
def uDRW : Nat := 0x23
def uTWK : Nat := 0x24
def uTMB : Nat := 0x25
def uTHM : Nat := 0x26
def uHCH : Nat := 0x27
def uHAL (r : Nat) : Nat := 0x40 + r
def uDOR (n : Nat) : Nat := 0x80 + n
def uCEL (s : Nat) : Nat := 0x100 + s
def uTST (k : Nat) : Nat := 0x400 + k
def uWIN (w : Nat) : Nat := 0x800 + w
def uTAP (k p : Nat) : Nat := 0x1000 + 1024 * k + p
def uGATE (g : Nat) : Nat := 0x200000 + g
def uRTR (f : Nat) : Nat := 0x201000 + f
/-- Brewhouse B where it is not served by the one BRW page (R51, R67). -/
def uBRWB : Nat := 0x202000

/-- The unit that holds a sensor (R13). -/
def unitOfSensor (f i : Nat) : Nat :=
  if i < 10 then uTST (10 * f + i) else if i < 14 then uCEL (4 * f + (i - 10))
  else if i = 14 then uHAL (regionOfField f) else uBRW
/-- The unit on whose page an event of a source shows (R590). -/
def unitOfPuid (p : Nat) : Nat :=
  let k := puidMajor p
  let m := puidMinor p
  match puidKind p with
  | 0 => uTAP k m
  | 1 => uTAP k m
  | 2 => uTST k
  | 3 => uHAL k
  | 4 => uBRW
  | 5 => uCEL k
  | 6 => uDOR k
  | 7 => uSTR
  | 8 => uCEL k
  | 9 => uDOR k
  | 10 => unitOfSensor k m
  | 11 => uHAL k
  | _ => uBRW
/-- Region of a unit named by a PUID (R28, R590; a Brewhouse lies in region 19 or 22). -/
def regionOfPuid (p : Nat) : Nat :=
  let k := puidMajor p
  match puidKind p with
  | 0 => regionOfCluster k
  | 1 => regionOfCluster k
  | 2 => regionOfCluster k
  | 3 => k
  | 4 => if k = 0 then Config.host.brewA else Config.host.brewB
  | 5 => regionOfStack k
  | 6 => regionOfDoor k
  | 7 => regionOfField k
  | 8 => regionOfStack k
  | 9 => regionOfDoor k
  | 10 => regionOfField k
  | _ => k
/-- PUID of a unit that hears beats (R53). -/
def puNode : Node → Nat
  | .hall r => puHal r.val
  | .taster k => puTst k.val
  | .cellar s => puCel s.val
  | .door n => puDor n.val
  | .router f => puRtr f.val
  | .brew bh => puBrw bh

end Sys2Proof.Machine
end

