-- ==== Sys2Proof/Machine/Ops.lean ====
section
/-! DEFINITION. The named operations on the state: time, register fields, counters, events, outputs. Every meaning goes through these. -/
namespace Sys2Proof.Machine
open Sys2Proof

/-- Wall time as a number of ns (R20). -/
def State.now (s : State) : Nat := s.wall.toNat

/-- REFCLK count as a region's units have it: it holds while the region's REFCLK is lost (R53, R119). -/
def State.timeIn (s : State) (r : Nat) : Nat := (Tab.find r s.refLost).getD s.now

/-- Key of a field of a unit: unit number, place of the field, index where a selector or an array names one of many. -/
def fkey (u : Nat) (F : Fld) (i : Nat) : Nat := ((u * 4096 + F.off) * 32 + F.lo) * 2 ^ 17 + i
/-- The first key of a unit. -/
def ukey (u : Nat) : Nat := u * 4096 * 32 * 2 ^ 17
/-- The largest value of a field. -/
def fldTop (F : Fld) : Nat := 2 ^ F.width - 1

/-- The value of a present-state field. -/
def State.rd (s : State) (u : Nat) (F : Fld) (i : Nat := 0) : Nat := (Tab.find (fkey u F i) s.regs).getD F.rst
/-- A register table with a field holding a value, cut to the field's width; the reset value is not listed. -/
def putReg (m : Tab Nat) (u : Nat) (F : Fld) (i v : Nat) : Tab Nat :=
  if v % 2 ^ F.width = F.rst then Tab.erase (fkey u F i) m else Tab.insert (fkey u F i) (v % 2 ^ F.width) m
/-- The state with a present-state field holding a value. -/
def State.wr (s : State) (u : Nat) (F : Fld) (v : Nat) (i : Nat := 0) : State := { s with regs := putReg s.regs u F i v }
/-- The state with a one-bit field set to a truth value. -/
def State.flag (s : State) (u : Nat) (F : Fld) (b : Bool) (i : Nat := 0) : State := s.wr u F (if b then 1 else 0) i
/-- A one-bit field is set. -/
def State.isSet (s : State) (u : Nat) (F : Fld) (i : Nat := 0) : Bool := s.rd u F i != 0
/-- A field that counts while shown live, saturating (R18 "saturating"). -/
def State.bump (s : State) (u : Nat) (F : Fld) (n : Nat := 1) (i : Nat := 0) : State := s.wr u F (satAdd (fldTop F) (s.rd u F i) n) i

/-- A counter table with a counter holding a value; zero is not listed. -/
def putCnt (m : Tab Nat) (k v : Nat) : Tab Nat := Tab.put (fun _ => 0) m k v
/-- The live value of a counter (R402). -/
def State.cnt (s : State) (u : Nat) (F : Fld) (i : Nat := 0) : Nat :=
  Tab.get (fun _ => 0) (match F.bank with | .running => s.rcnt | _ => s.ecnt) (fkey u F i)
/-- What the page presents of a counter: the last completed shadow (R399). -/
def State.shownCnt (s : State) (u : Nat) (F : Fld) (i : Nat := 0) : Nat := Tab.get (fun _ => 0) s.shown (fkey u F i)
/-- A counter that has counted `n` more: an epoch counter, and a running counter of 32 bits or fewer, saturates; a
64-bit running counter wraps (R402, R420; assumption 11), as do the low bits of the number of beats (R56). -/
def State.count (s : State) (u : Nat) (F : Fld) (n : Nat := 1) (i : Nat := 0) : State :=
  let k := fkey u F i
  match F.bank with
  | .running =>
    let v := s.cnt u F i + n
    { s with rcnt := putCnt s.rcnt k (if F.width = 64 ∨ F = TMB_BEAT_SEQ_SEQ then v % 2 ^ F.width else min (fldTop F) v) }
  | _ => { s with ecnt := putCnt s.ecnt k (satAdd (fldTop F) (s.cnt u F i) n) }
/-- A running counter restarted from zero. -/
def State.zeroCnt (s : State) (u : Nat) (F : Fld) (i : Nat := 0) : State :=
  { s with rcnt := Tab.erase (fkey u F i) s.rcnt, ecnt := Tab.erase (fkey u F i) s.ecnt }

/-- A model output, newest first. -/
def State.emit (s : State) (o : Out) : State := { s with sent := o :: s.sent }
/-- Several model outputs, in order. -/
def State.emits (s : State) (os : List Out) : State := { s with sent := os.reverse ++ s.sent }

/-- Operating time in units of 1/4,096 hour (R427). -/
def State.optime (s : State) : Nat := 4096 * s.attic.n / 10 + (s.now - s.attic.nWall) / 878906250

/-- Bit `c` of a field's value set. -/
def orBit (v c : Nat) : Nat := Nat.lor v (2 ^ c)
/-- The common header's event bits of a unit after an event of class `c`: RAW always, sticky while enabled (R590). -/
def State.evt (s : State) (u c : Nat) : State :=
  { s with
    ecnt := putCnt s.ecnt (fkey u PG_EVT_RAW_CLASS 0) (orBit (s.cnt u PG_EVT_RAW_CLASS) c)
    regs := if bit (s.rd u PG_EVT_EN_CLASS) c then putReg s.regs u PG_EVT_CLASS 0 (orBit (s.rd u PG_EVT_CLASS) c) else s.regs }
/-- An event raised on every occurrence: it sets the page bits of its source and goes on its way to the recorder (R26, R590). -/
def State.raise (s : State) (code p : Nat) (p5 p6 p7 : Nat := 0) : State :=
  { s.evt (unitOfPuid p) (code / 2 ^ 12) with
    transit := s.transit ++ [⟨code, p, p5 % 2 ^ 32, p6 % 2 ^ 32, p7 % 2 ^ 32, s.timeIn (regionOfPuid p), none, false, true, false⟩] }
/-- An event whose recording makes a history entry against a unit (R255). -/
def State.raiseHistAt (s : State) (q : Nat) (e : HistEntry) (code p : Nat) (p5 p6 p7 : Nat := 0) : State :=
  { s.evt (unitOfPuid p) (code / 2 ^ 12) with
    transit := s.transit ++ [⟨code, p, p5 % 2 ^ 32, p6 % 2 ^ 32, p7 % 2 ^ 32, s.timeIn (regionOfPuid p), some (q, e), false, true, false⟩] }
/-- An event whose recording makes a history entry against its source (R255). -/
def State.raiseHist (s : State) (e : HistEntry) (code p : Nat) (p5 p6 p7 : Nat := 0) : State :=
  s.raiseHistAt p e code p p5 p6 p7
/-- An event that is only counted: it sets the page bits alone (R590). -/
def State.quiet (s : State) (code p : Nat) : State :=
  s.evt (unitOfPuid p) (code / 2 ^ 12)
/-- An event raised at most once per source, code and key in each cut epoch; a later one is only counted (R157, R192, R235, R276, R315, R391, R438). -/
def State.raiseOnce (s : State) (key code p : Nat) (p5 p6 p7 : Nat := 0) : State :=
  if s.marks.contains (p, code, key) then s.quiet code p
  else { s.raise code p p5 p6 p7 with marks := (p, code, key) :: s.marks }

/-- The active Brewhouse (BRW_ROLE.ACTIVE, R69). -/
def State.active (s : State) : Bh := if s.rd uBRW BRW_ROLE_ACTIVE = 0 then .a else .b
/-- The other Brewhouse. -/
def otherBh : Bh → Bh
  | .a => .b
  | .b => .a
/-- PUID of the active Brewhouse. -/
def State.puActive (s : State) : Nat := puBrw s.active
/-- A Brewhouse's state. -/
def State.brew (s : State) : Bh → BrewSt
  | .a => s.pair.a
  | .b => s.pair.b
/-- A Brewhouse's state changed. -/
def State.updBrew (s : State) (b' : Bh) (f : BrewSt → BrewSt) : State :=
  match b' with
  | .a => { s with pair := { s.pair with a := f s.pair.a } }
  | .b => { s with pair := { s.pair with b := f s.pair.b } }

/-- The next free-value number, and the state that has drawn it (assumption 3). -/
def State.draw (s : State) : State := { s with fresh := s.fresh + 1 }

/-- Key of a core or Tap. -/
def ckey (k p : Nat) : Nat := 1024 * k + p
/-- Posture codes (R9). -/
def postureOf : Nat → Posture
  | 0 => .strong
  | 1 => .session
  | _ => .small
/-- Posture in force in a region: its override, or the wafer posture (R10, R581). -/
def State.posture (s : State) (r : Nat) : Posture :=
  let o := s.rd uBRW BRW_POSTURE_OVR / 4 ^ r % 4
  postureOf (if o = 3 then s.rd uBRW BRW_POSTURE_WAFER else o)

/-- The region is out of use: LOST, or left SHUTTERED (R381, R361). -/
def State.regionLost (s : State) (r : Nat) : Bool := (s.hall r).lost
/-- A region is Shuttered (R361, R488). -/
def State.regionShut (s : State) (r : Nat) : Bool := (s.hall r).shut || (s.hall r).shutReset
/-- A Taster is trusted: neither fenced, permanent, absent, off nor lost, nor under scan (R232, R253, R577). -/
def State.tstTrusted (s : State) (k : Nat) : Bool :=
  let u := s.unit (puTst k)
  !(u.absent || u.off || u.fenced || u.perm || u.steep || u.scan) && !s.regionLost (regionOfCluster k)
/-- Region of a Brewhouse (R4). -/
def bhRegion : Bh → Nat
  | .a => Config.host.brewA
  | .b => Config.host.brewB
/-- A Brewhouse runs: not held in reset, its region not lost (R511, R533, R71). -/
def State.bhAlive (s : State) (w : Bh) : Bool :=
  !(match w with | .a => s.fw.outA | .b => s.fw.outB) && !s.regionLost (bhRegion w) && !(s.hall (bhRegion w)).pgLoss && !(s.hall (bhRegion w)).oc
/-- The standby. -/
def State.standby (s : State) : Bh := otherBh s.active
/-- The pads of a Brewhouse's region have left high impedance: both rails have been within their windows for 1 ms, and the region has its supply (R118). -/
def State.padOn (s : State) (w : Bh) : Bool := s.pad.live && (s.hall (bhRegion w)).pg
/-- An MCTP body sent on I3C by the pads of the active Brewhouse's region, unless they are at high impedance (R115, R118). -/
def State.mctpOut (s : State) (body : List Byte) : State := if s.padOn s.active then s.emit (.mctp body) else s
/-- The Taster that checks a cluster: its own while trusted, else the adopter (R264). -/
def State.checker (s : State) (k : Nat) : Option Nat :=
  if s.tstTrusted k then some k else (s.adjOf k).adopter

/-- A write of the cluster's maps has not completed: replica sampling and digests wait for it (R27, 0x4042). -/
def State.mapWait (s : State) (k : Nat) : Bool := (s.port k).commit || !(s.port k).coreShadow.isEmpty || (s.port k).base.isNone
/-- Replica sampling or digests found the map of a cluster waiting (R27). -/
def State.mapWaits (s : State) (k : Nat) : State :=
  s.raiseOnce 0 0x4042 (puTst k) 0 ((((s.port k).coreShadow.head?).map (·.1)).getD 0)
/-- The first cluster of a Cellar's field whose map waits, so that the Cellar's digests are suspended (R27; assumption 175). -/
def State.digestWait (s : State) (c : Nat) : Option Nat :=
  ((List.range 10).map (10 * (c / 4) + ·)).find? (fun k => !(s.unit (puTst k)).absent && s.mapWait k)

/-- Key of a byte of a stack's channel in the memory table; the other memories lie below. -/
def stackKey (c ch addr : Nat) : Nat := 2 ^ 48 + (16 * c + ch) * 2 ^ 36 + addr
/-- Bytes written to memory from a key on. -/
def State.poke (s : State) (k : Nat) (bs : List Byte) : State :=
  { s with mem := (bs.zip (List.range bs.length)).foldl (fun m e => Tab.put (fun _ => 0#8) m (k + e.2) e.1) s.mem }
/-- The canonical form of memory: keys strictly rising, and no byte listed that equals what an unlisted one reads as (assumption 5). -/
def Memory.wf (m : Tab Byte) : Bool := Tab.wf (fun _ => 0#8) m
/-- Bytes of memory from a key on. -/
def State.peek (s : State) (k n : Nat) : List Byte := (List.range n).map (fun i => Tab.get (fun _ => 0#8) s.mem (k + i))

/-- Every element acted on in turn. -/
def State.each {α : Type} (s : State) (l : List α) (f : State → α → State) : State := l.foldl f s

/-- A sensor's band; a broken one counts as K4 (R477, R478). -/
def State.sensorBand (s : State) (i : Nat) : Nat := if (s.sensor i).broken ≠ 0 then 4 else (s.sensor i).band
/-- An action in a Hall's log, while the log has room (R59; assumption 83): 1 verdict acted on, 2 engine reset, 3 core reset, 4 partition
reset, 5 replay set opened, 6 ladder moved, 7 region Shuttered, 8 unit fenced, 9 swap-in, 10 context kill told, with the unit or number it concerns. -/
def State.hallAct (s : State) (r action arg : Nat) : State :=
  s.updHall r (fun h => if h.log.length < 256 then { h with log := h.log ++ [⟨action, arg, false⟩] } else h)
/-- A global stop is in force or beginning (R404). -/
def State.stopped (s : State) : Bool := s.stop.phase != 0

/-- A cut's number as it is shown: it wraps from 0xFFFF_FFFF to 1 (R392). -/
def cutName (n : Nat) : Nat := if n = 0 then 0 else (n - 1) % 0xFFFFFFFF + 1
/-- A unit has taken the STOP marker and not yet the RESUME marker (R404, R405). -/
def State.unitStopped (s : State) (u : Nat) : Bool :=
  let now := (s.cutUnit u).taken == s.cutNo
  match s.stop.phase with
  | 0 => false
  | 1 => now
  | 2 => true
  | _ => !now
/-- A Taster's pipeline stage accepts no work: the Taster is stopped (R404), or Moldom withholds the stage's acknowledge (R576). -/
def State.stageHeld (s : State) (k st : Nat) : Bool := s.unitStopped (uTST k) || s.dbg.pipes.contains (k, st)
/-- The same of the Taster that checks a cluster. -/
def State.checkHeld (s : State) (k st : Nat) : Bool := s.stageHeld ((s.checker k).getD k) st
/-- Numbers of the channels: Stair hops by class, Tap reports, Taster to Hall, Cellar engines (R396). -/
def chHop (f h c : Nat) : Nat := 64 * f + 8 * h + c
def chTap (k p : Nat) : Nat := 2 ^ 16 + 1024 * k + p
def chTst (k : Nat) : Nat := 2 ^ 24 + k
def chCel (c : Nat) : Nat := 2 ^ 25 + c
/-- The unit that receives on a channel, as the table of cut units numbers it (R396). -/
def chanRecv (c : Nat) : Nat :=
  if 2 ^ 25 ≤ c then uCEL (c - 2 ^ 25)
  else if 2 ^ 24 ≤ c then uHAL (regionOfCluster (c - 2 ^ 24))
  else if 2 ^ 16 ≤ c then uTST ((c - 2 ^ 16) / 1024)
  else uRTR (c / 64)
/-- An item on a channel is recorded while the channel's record of the cut is open: the receiver has taken its marker and the channel's has not come (R396). -/
def State.noteItem (s : State) (c : Nat) : State :=
  if s.cutNo = 0 ∨ (s.cutUnit (chanRecv c)).taken ≠ s.cutNo ∨ (s.chan c).closedAt = s.cutNo then s
  else s.updChan c (fun x => { x with recCut := s.cutNo, recN := if x.recCut = s.cutNo then x.recN + 1 else 1 })
/-- An item arrives on a channel (R396). -/
def State.item (s : State) (c : Nat) : State := (s.updChan c (fun x => { x with items := (x.items + 1) % 2 ^ 32 })).noteItem c

end Sys2Proof.Machine
end

