-- ==== Sys2Proof/Machine/Block.lean ====
section
/-! DEFINITION. Tensor blocks: the header, its tests, the trailer, stand-ins and withheld notices (R108, R123-R132, R137, R138). -/
namespace Sys2Proof

/-- A block header (R124). -/
structure Header where
  fmt : Nat
  flags : Nat
  layer : Nat
  op : Nat
  ctx : Nat
  rsv : Nat
  seq : Nat
  alive : Nat
  len : Nat
  rsv2 : Nat
  deriving DecidableEq, Repr

/-- The header fields of a 128-bit little-endian value (R124). -/
def Header.ofNat (x : Nat) : Header :=
  ⟨bits x 7 0, bits x 15 8, bits x 31 16, bits x 47 32, bits x 59 48, bits x 63 60, bits x 95 64, bits x 103 96,
    bits x 115 104, bits x 127 116⟩
/-- The header of a byte string, its first 16 bytes. -/
def Header.ofBytes (bs : List Byte) : Header := Header.ofNat (leAt bs 0 16)
/-- The 128-bit value of a header (R124). -/
def Header.toNat (h : Header) : Nat :=
  h.fmt + h.flags * 2 ^ 8 + h.layer * 2 ^ 16 + h.op * 2 ^ 32 + h.ctx * 2 ^ 48 + h.rsv * 2 ^ 60 + h.seq * 2 ^ 64
    + h.alive * 2 ^ 96 + h.len * 2 ^ 104 + h.rsv2 * 2 ^ 116
/-- The 16 bytes of a header. -/
def Header.bytes (h : Header) : List Byte := leBytes 16 h.toNat
/-- FLAGS.POISON (R125). -/
def Header.poison (h : Header) : Bool := bit h.flags 0
/-- FLAGS.MAYVARY (R125). -/
def Header.mayvary (h : Header) : Bool := bit h.flags 1
/-- FLAGS.PRIV (R125). -/
def Header.priv (h : Header) : Bool := bit h.flags 2
/-- FLAGS.SPARSE (R125). -/
def Header.sparse (h : Header) : Bool := bit h.flags 3
/-- FLAGS.LAST (R125). -/
def Header.last (h : Header) : Bool := bit h.flags 4

/-- The format codes of R126. -/
def fmtKnown (f : Nat) : Bool :=
  [0x01, 0x02, 0x03, 0x04, 0x05, 0x10, 0x11, 0x12, 0x13, 0x14, 0x15, 0x20, 0x21, 0x31, 0x3F].contains f

/-- Tests 1 to 3 of R137, and test 4 where a limit is given: the number of the first failing test, 0 for none.
A header-only block passes test 4 whatever the limit (R139). -/
def headerTest (h : Header) (limit : Option Nat) : Nat :=
  if !fmtKnown h.fmt then 1
  else if h.rsv ≠ 0 ∨ h.rsv2 ≠ 0 ∨ 32 ≤ h.flags then 2
  else if h.sparse && (h.fmt == 0x31 || h.fmt == 0x3F) then 3
  else match limit with
    | some l => if h.len ≠ 0 ∧ l < h.len then 4 else 0
    | none => 0

/-- The check value of a block: header with POISON taken as zero, then payload (R130). -/
def blockCheck (p : Profile) (h : Header) (payload : List Byte) : Nat :=
  crcOf p (Header.bytes { h with flags := h.flags - h.flags % 2 } ++ payload)

/-- The 8 trailer bytes (R132). -/
def trailerOf (p : Profile) (h : Header) (payload : List Byte) : List Byte := leBytes 8 (blockCheck p h payload)

/-- A whole block's trailer matches: bits at and above w must be zero (R132). -/
def trailerOk (p : Profile) (bs : List Byte) : Bool :=
  let h := Header.ofBytes bs
  leAt bs (16 + 16 * h.len) 8 == blockCheck p h (slice bs 16 (16 * h.len))

/-- The header with POISON set (R102). -/
def Header.poisoned (h : Header) : Header := { h with flags := h.flags + (1 - h.flags % 2) }

/-- The header-only stand-in of a rejected block: LEN 0, POISON set (R138). -/
def standIn (h : Header) : Header := { h.poisoned with len := 0 }

/-- The withheld notice's header (R108): FMT 0x3F, PRIV and LAST, CTX, LAYER and OP of the first withheld block, LEN 1. -/
def noticeHeader (h : Header) (seq : Nat) : Header := ⟨0x3F, 0x14, h.layer, h.op, h.ctx, 0, seq, 0, 1, 0⟩

/-- The withheld notice's payload (R108). -/
def noticePayload (count reason step : Nat) : List Byte :=
  leBytes 16 (step % 2 ^ 48 + reason % 256 * 2 ^ 48 + count % 2 ^ 32 * 2 ^ 64)

end Sys2Proof
end

