-- ==== Sys2Proof/Machine/Packets.lean ====
section
/-! DEFINITION. Stair packets and what holds them: head flits, checks, transfers on the rails, buffers of a router, local clocks (R29-R35, R52, R53). -/
namespace Sys2Proof

/-- Head flit fields (R31). -/
def headClass (x : Nat) : Nat := bits x 63 61
def headLen (x : Nat) : Nat := bits x 60 57
def headDstField (x : Nat) : Nat := bits x 56 50
def headDstPort (x : Nat) : Nat := bits x 49 45
def headSrcField (x : Nat) : Nat := bits x 44 38
def headSrcPort (x : Nat) : Nat := bits x 37 33
def headCast (x : Nat) : Nat := bits x 32 31
def headReign (x : Nat) : Nat := bits x 30 24
def headType (x : Nat) : Nat := bits x 23 16

/-- The check transfer: CRC-16/CCITT-FALSE over the flits in transmission order, least significant 16 bits first (R30, R32; assumption 12). -/
def stairCrc (head : BitVec 64) (payload : List (BitVec 64)) : Nat :=
  crcOf crc16 ((head :: payload).flatMap (fun w => leBytes 8 w.toNat))
/-- A received packet passes its hop's check: no code violation, LEN in 0-8 and met by the payload, and the CRC (R30-R32). -/
def packetOk (violation : Bool) (head : BitVec 64) (payload : List (BitVec 64)) (crc : BitVec 16) : Bool :=
  let len := headLen head.toNat
  !violation && decide (len ≤ 8) && len == payload.length && crc.toNat == stairCrc head payload
/-- The mesh hops, then the spare ones (R36, R70). -/
def allHops : List Hop := [.n, .e, .s, .w, .ne, .sw]
/-- One more in an element of a list of counts, mod 2^32 (R396). -/
def countAt (l : List Nat) (i : Nat) : List Nat := l.set i ((l.getD i 0 + 1) % 2 ^ 32)
/-- A head flit (R31). -/
def mkHead (cls len df dp sf sp cast reign type : Nat) (tag : Nat := 0) : BitVec 64 :=
  BitVec.ofNat 64 (cls * 2 ^ 61 + len * 2 ^ 57 + df * 2 ^ 50 + dp * 2 ^ 45 + sf * 2 ^ 38 + sp * 2 ^ 33 + cast * 2 ^ 31
    + reign % 128 * 2 ^ 24 + type % 256 * 2 ^ 16 + tag % 2 ^ 16)
/-- Class of a packet (R31). -/
def Packet.cls (p : Packet) : Nat := headClass p.head.toNat
/-- A channel marker: TYPE 0 of classes 2-5 (R396). -/
def Packet.marker (p : Packet) : Bool := decide (2 ≤ p.cls ∧ p.cls ≤ 5) && headType p.head.toNat == 0
/-- The hop of a number of STR_SEL.PORT. -/
def hopOf (n : Nat) : Hop := allHops.getD n .n

/-- The 16-bit transfers of a packet: every flit's four, least significant bits first, then the check transfer (R29, R31, R32). -/
def Packet.transfers (p : Packet) : List Nat :=
  (p.head :: p.payload).flatMap (fun w => (List.range 4).map (fun i => bits w.toNat (16 * i + 15) (16 * i))) ++ [stairCrc p.head p.payload]
/-- The levels of the eight rail groups after one transfer: each group moves the one wire that its two bits name (R29). -/
def railSend (rails : List Nat) (t : Nat) : List Nat :=
  (List.range 8).map (fun i => Nat.xor (rails.getD i 0) (2 ^ bits t (2 * i + 1) (2 * i)))
/-- What a receiver reads in one group between two levels: two bits from one transition; none while the group is still or after a code violation (R29, R30). -/
def railGroup (old new : Nat) : Option Nat := (List.range 4).find? (fun v => Nat.xor old new == 2 ^ v)
/-- The transfer that a receiver has seen, complete once every group has moved exactly one wire (R29). -/
def railRead (old new : List Nat) : Option Nat :=
  let gs := (List.range 8).map (fun i => railGroup (old.getD i 0) (new.getD i 0))
  if gs.all (·.isSome) then some ((gs.zip (List.range 8)).foldl (fun a e => a + e.1.getD 0 * 4 ^ e.2) 0) else none
/-- A copy has transfers that are not acknowledged. -/
def Copy.going (c : Copy) : Bool := decide (c.done < c.pkt.transfers.length)
/-- The packet whose transfer stands on the wires (R29). -/
def HopSt.onWires (x : HopSt) : Option Copy := x.copies.find? (·.going)
/-- That packet's next transfer put on the rails (R29). -/
def HopSt.put (x : HopSt) : HopSt :=
  match x.onWires with
  | none => x
  | some c => { x with rails := railSend x.rails (c.pkt.transfers.getD c.done 0) }
/-- The first copy with transfers left has one more acknowledged. -/
def ackFirst : List Copy → List Copy
  | [] => []
  | c :: l => if c.going then { c with done := c.done + 1 } :: l else c :: ackFirst l
/-- A copy put before the first that has transfers left. -/
def insertGoing (y : Copy) : List Copy → List Copy
  | [] => [y]
  | c :: l => if c.going then y :: c :: l else c :: insertGoing y l
/-- The receiver reads a transfer once every group has moved one wire, and acknowledges it by one transition (R29). -/
def HopSt.acked (x : HopSt) : HopSt :=
  match railRead x.seen x.rails with
  | none => x
  | some _ => { x with seen := x.rails, ack := !x.ack, copies := ackFirst x.copies }
/-- A number of transfers carried: each is acknowledged before the next goes on the rails (R29). -/
def HopSt.carry : Nat → HopSt → HopSt
  | 0, x => x
  | n + 1, x => HopSt.carry n x.acked.put
/-- Transfers left of the copies up to and including the first that satisfies `f`. -/
def leftUpTo (f : Copy → Bool) : List Copy → Nat
  | [] => 0
  | c :: l => (c.pkt.transfers.length - c.done) + (if f c then 0 else leftUpTo f l)
/-- Transfers until the next place where a beat may go in: the end of a flit, or of the packet where no payload flit follows (R33). -/
def Copy.toGap (c : Copy) : Nat :=
  let b := (c.done / 4 + 1) * 4
  (if b < 4 * (c.pkt.payload.length + 1) then b else c.pkt.transfers.length) - c.done
/-- A packet starts on a hop with its failed resends so far: behind what is there, or a beat at the next gap of the packet on the wires (R29, R33, R34). -/
def HopSt.start (x : HopSt) (p : Packet) (fails : Nat := 0) : HopSt :=
  let y : Copy := ⟨p, 0, fails⟩
  match x.onWires with
  | none => HopSt.put { x with copies := x.copies ++ [y] }
  | some c =>
    if p.cls = 0 ∧ c.pkt.cls ≠ 0 then
      let z := (HopSt.carry (c.toGap - 1) x).acked
      HopSt.put { z with copies := insertGoing y z.copies }
    else { x with copies := x.copies ++ [y] }
/-- The receiver has taken a packet whole, and with it whatever went before it on the wires: that packet, or the first of its kind that has transfers left (R29). -/
def HopSt.taken (x : HopSt) (p : Packet) : HopSt :=
  let mine (c : Copy) : Bool := c.going && c.pkt == p
  let kind (c : Copy) : Bool := c.going && (c.pkt.cls == 0) == (p.cls == 0)
  let f := if x.copies.any mine then mine else kind
  if x.copies.any f then HopSt.carry (leftUpTo f x.copies) x else x
/-- A new packet may start: no other of its kind has transfers left, so that a packet of another class is overtaken at its end alone and a beat
goes between flits (R29, R33, R34); and a class keeps its order over resends (R34; assumption 169). -/
def HopSt.clear (x : HopSt) (c : Nat) : Bool :=
  !x.copies.any (fun q => q.going && (q.pkt.cls == 0) == (c == 0)) && !x.copies.any (fun q => q.pkt.cls == c)

/-- The path delay of a beat grows by the delay of the hop it came on and its time in the router, mod 2^16 (R52; assumption 170). -/
def addDelay (p : Packet) (d : Nat) : Packet :=
  if p.cls ≠ 0 then p
  else { p with payload := match p.payload with
    | w :: x :: rest => w :: BitVec.ofNat 64 (setBits x.toNat 15 0 (bits x.toNat 15 0 + d)) :: rest
    | l => l }
/-- Packets of a class in an input port's buffer (R35). -/
def RouterSt.inPort (r : RouterSt) (port c : Nat) : Nat := (r.inq.filter (fun e => e.port == port && e.pkt.cls == c)).length

/-- A waiting packet with one output served; it leaves with its last one. -/
def servedIn (e : InPkt) (l : Nat) : List InPkt → List InPkt
  | [] => []
  | x :: rest => if x = e then (if (e.legs.erase l).isEmpty then rest else { e with legs := e.legs.erase l, went := e.went ++ [l] } :: rest)
      else x :: servedIn e l rest
/-- The correction of a clock, once the REFCLK edge that makes it has come (R53). -/
def ClockSt.made (c : ClockSt) (t : Nat) : Int := if c.fixAt + 10 ≤ t then c.fix else 0
/-- A clock after a beat that asks for a correction `k`: an earlier correction that its edge has made is settled; one whose edge has not come is made anew (R53, R56, R63). -/
def ClockSt.beat (c : ClockSt) (t now : Nat) (k : Int) (reign : Nat) : ClockSt :=
  let still := decide (t < c.fixAt + 10 ∧ c.fix ≠ 0)
  { c with
    skew := c.skew + c.made t, fix := k, fixAt := if still then c.fixAt else t
    corr := if k = 0 ∨ still then c.corr else c.corr + 1
    lastBeat := now, reign := max c.reign reign }
end Sys2Proof
end

