-- ==== Sys2Proof/Machine/Stair.lean ====
section
/-! DEFINITION. The Stair, the matched delays and the time base: packets, hops, detours, beats (chapter 01, R28-R56). -/
namespace Sys2Proof.Machine
open Sys2Proof Host

/-- Key of a hop. -/
def hkey (f : Nat) (h : Hop) : Nat := 8 * f + hopNo h
/-- A router carries the hop: it exists, Stair training has made it live, and it has not been declared dead (R70). -/
def State.hopLive (s : State) (f : Nat) (h : Hop) : Bool :=
  let x := s.hop (hkey f h)
  (hopTo f h).isSome && x.live && !x.dead
/-- A packet sent on a hop: a place of the next router's buffer is taken, and a copy is kept until its check result returns (R35, R37). -/
def State.sendHop (s : State) (f : Nat) (h : Hop) (p : Packet) : State :=
  (s.updHop (hkey f h) (fun x =>
    { x.start p with
      credits := x.credits.set p.cls (x.credits.getD p.cls 0 - 1)
      sent := if p.marker then x.sent else countAt x.sent p.cls })).emit (.hop f h p.head p.payload)

/-- The field to which the hop of a number leads. -/
def hopField (f n : Nat) : Option Nat := if n < 6 then hopTo f (hopOf n) else none
/-- The hop of a detour tree by which a router reaches a field below it: the tree climbed from the field (R38). -/
def downHop (tree : List Nat) (f : Nat) : Nat → Nat → Option Nat
  | 0, _ => none
  | n + 1, d =>
    let up := tree.getD d 7
    match hopField d up with
    | none => none
    | some q => if q = f then some (hopNo (hopBack (hopOf up))) else downHop tree f n q
/-- The next hop over a detour tree: down to a field below, else up; 7 where the tree does not join the two (R38, R39). -/
def treeNext (tree : List Nat) (f d : Nat) : Nat :=
  if tree.getD d 7 = 7 ∨ tree.getD f 7 = 7 then 7
  else match downHop tree f Config.host.fields d with
    | some h => h
    | none => if tree.getD f 7 < 6 then tree.getD f 7 else 7
/-- The hops of the ordinary route from a field to another (R36). -/
def routeKeys : Nat → Nat → Nat → List Nat
  | 0, _, _ => []
  | n + 1, f, d => match routeHop f d with
    | none => []
    | some h => hkey f h :: routeKeys n ((hopTo f h).getD d) d
/-- A router's ordinary output toward a field: 6 here (R36). -/
def plainNext (f d : Nat) : Nat := if f = d then 6 else ((routeHop f d).map hopNo).getD 6
/-- Detour tables leave an ordinary route as it is: no hop of it is down, and the tables keep routes of its shape (R36, R38, R39). -/
def detourPlain (t : Detour) (f d : Nat) : Bool :=
  let g := Config.host
  (t.keeps == 2 || (t.keeps == 1 && (g.col f == g.col d || g.row f == g.row d)))
    && !(routeKeys g.fields f d).any (fun k => t.down.contains k)
/-- A router's output toward a field by detour tables: along its row and then its column where that route is whole, else over the tree (R36, R38). -/
def detourNext (t : Detour) (f d : Nat) : Nat :=
  if f = d then 6 else if detourPlain t f d then plainNext f d else treeNext t.tree f d
/-- The same by the tables in force at a router, if any. -/
def nextBy (t : Option Detour) (f d : Nat) : Nat :=
  match t with
  | none => plainNext f d
  | some t => detourNext t f d
/-- A router's output toward a field: 6 here, 7 none (R36, R38). -/
def State.nextHop (s : State) (f d : Nat) : Nat := nextBy (s.router f).table f d
/-- A router's outputs in the broadcast tree rooted at a field: the ordinary tree, or the detour tree (R36, R38). -/
def castBy (root : Nat) (t : Option Detour) (f : Nat) : List Nat :=
  match t with
  | none => (treeHops root f).map hopNo
  | some t => (List.range 6).filter (fun h => t.tree.getD f 7 == h || (match hopField f h with
    | some g => t.tree.getD g 7 == hopNo (hopBack (hopOf h))
    | none => false))
/-- A router's outputs in the broadcast tree of the active Brewhouse's router (R36, R38). -/
def State.castHops (s : State) (f : Nat) : List Nat := castBy (Config.host.brewField s.active) (s.router f).table f
/-- The fields that a broadcast reaches by one output of a router (R36, R38). -/
def castUnder (root : Nat) (t : Option Detour) : Nat → Nat → Nat → List Nat
  | 0, _, _ => []
  | n + 1, f, h => match hopField f h with
    | none => []
    | some g => g :: ((castBy root t g).filter (· != hopNo (hopBack (hopOf h)))).flatMap (fun l => castUnder root t n g l)
/-- The fields to which a packet that is no wafer broadcast goes (R31). -/
def castFields (x : Nat) : List Nat :=
  match headCast x with
  | 0 => [headDstField x]
  | 1 => Config.host.fieldsOf (regionOfField (headDstField x))
  | _ => [Config.host.brewField .a, Config.host.brewField .b]
/-- Outputs of a packet that came in at a port, by the outputs toward a field and in the broadcast tree. DESIGN CHOICE (R36; assumption 169): the
spec routes unicasts and broadcasts; a packet for both fields of a region or for both Brewhouses takes at each router the unicast outputs of its two
destinations, once each and not back by the hop it came on. -/
def legsBy (next : Nat → Nat) (cast : List Nat) (port : Nat) (p : Packet) : List Nat :=
  let x := p.head.toNat
  match headCast x with
  | 0 => [next (headDstField x)]
  | 2 => cast.filter (· != port) ++ [6]
  | _ => (((castFields x).map next).eraseDups).filter (fun l => l != port || l == 6)
/-- Outputs of a packet that came in at a port of a router (R36, R38). -/
def State.legsOf (s : State) (f port : Nat) (p : Packet) : List Nat := legsBy (s.nextHop f) (s.castHops f) port p
/-- Outputs that a packet has on the ordinary routes (R36). -/
def State.plainLegs (s : State) (f : Nat) (p : Packet) : List Nat :=
  legsBy (plainNext f) ((treeHops (Config.host.brewField s.active) f).map hopNo) 7 p

/-- The local ports that a field has a unit at (R28): the Hall in the north field of its region, an edge Door where there is one, a Brewhouse in fields 38 and 44. -/
def localPorts (f : Nat) : List Nat :=
  let g := Config.host
  (List.range 19).filter (fun p =>
    if p = 1 then g.north (regionOfField f) == f
    else if p = 17 then (List.range (g.links - g.fields)).any (fun i => g.linkField (g.fields + i) == f)
    else if p = 18 then f == g.brewField .a || f == g.brewField .b
    else true)
/-- Unit number of a local port of a router that obeys control packets (R28, R63). -/
def portUnit (f port : Nat) : Option Nat :=
  if !(localPorts f).contains port then none
  else if port = 1 then some (uHAL (regionOfField f))
  else if 2 ≤ port ∧ port ≤ 11 then some (uTST (10 * f + (port - 2)))
  else if 12 ≤ port ∧ port ≤ 15 then some (uCEL (4 * f + (port - 12)))
  else if port = 16 then some (uDOR f)
  else if port = 17 then ((List.range (nLinks - nFields)).map (nFields + ·)).find? (fun n => Config.host.linkField n == f) |>.map uDOR
  else none
/-- A packet taken in at a router's port, to wait for its outputs (R35, R36). -/
def State.enqueue (s : State) (f port : Nat) (p : Packet) : State :=
  s.updRouter f (fun r => { r with inq := r.inq ++ [⟨port, p, s.legsOf f port p, []⟩] })
/-- The next leg of a relayed heartbeat at a relay router: to the relay router at the other Brewhouse's row, then to that Brewhouse (R60). -/
def State.relay (s : State) (f : Nat) (p : Packet) : State :=
  let g := Config.host
  let x := p.head.toNat
  let (fa, fb) := (g.brewField .a, g.brewField .b)
  let sf := headSrcField x
  let (d, port) := if sf = fa then (g.field (g.col f) (g.row fb), 0) else if sf = fb then (g.field (g.col f) (g.row fa), 0)
    else if g.row f = g.row fa then (fa, 18) else (fb, 18)
  if d = f then s else s.enqueue f 6 ⟨mkHead 2 p.payload.length d port f 0 0 (headReign x) 0x7E (bits x 15 0), p.payload⟩
/-- A packet reaches the unit at a local port; one to a port without a unit is lost there. A unit obeys control packets only from the
highest reign it has received, and discards and counts those of a lower one (R63; assumption 14: the reign counts in packets of a
Brewhouse's port); a Hall that hears the reign it follows, or a higher one, has contact again (R65); a Brewhouse has seen the reign of any packet. -/
def State.deliverPort (s : State) (f : Nat) (p : Packet) (port : Nat) : State :=
  let x := p.head.toNat
  let out := Out.localPort f port p.head p.payload
  if !(localPorts f).contains port then s
  else match portUnit f port with
  | none =>
    let s := if port ≠ 18 then s else s.updBrew (if f = Config.host.brewField .a then .a else .b) (fun w => { w with seen := max w.seen (headReign x) })
    s.emit out
  | some u =>
    if headClass x = 2 ∧ headSrcPort x = 18 then
      if headReign x < (s.clock u).reign then s.updClock u (fun c => { c with lower := c.lower + 1 })
      else
        let s := (s.updClock u (fun c => { c with reign := headReign x })).emit out
        if port = 1 then s.updHall (regionOfField f) (fun h => { h with lastHeard := s.now, noContact := false }) else s
    else s.emit out
/-- A packet delivered at its router: a broadcast to every local unit, a packet for both Brewhouses to port 18, any other to its port; a relayed heartbeat goes on (R28, R31, R60). -/
def State.deliver (s : State) (f : Nat) (p : Packet) : State :=
  let x := p.head.toNat
  if headCast x = 2 then s.each (localPorts f) (fun s q => s.deliverPort f p q)
  else if headCast x = 3 then s.deliverPort f p 18
  else if headClass x = 2 ∧ headType x = 0x7E ∧ headDstPort x = 0 then s.relay f p
  else s.deliverPort f p (headDstPort x)

/-- An output of a waiting packet can be served: the local ports always; a live hop with a place left for its class, no packet of
its kind on the wires, and none of its class waiting for it from before (R29, R33-R35). -/
def State.legReady (s : State) (f : Nat) (before : List InPkt) (e : InPkt) (l : Nat) : Bool :=
  l == 6 || (decide (l < 6) && s.hopLive f (hopOf l) && !before.any (fun b => b.pkt.cls == e.pkt.cls && b.legs.contains l)
    && decide (0 < (s.hop (hkey f (hopOf l))).credits.getD e.pkt.cls 0) && (s.hop (hkey f (hopOf l))).clear e.pkt.cls)
/-- The first packet of a list, with the output, that can be served. -/
def State.firstReady (s : State) (f : Nat) : List InPkt → List InPkt → Option (InPkt × Nat)
  | _, [] => none
  | before, e :: rest => match e.legs.find? (s.legReady f before e) with
    | some l => some (e, l)
    | none => s.firstReady f (before ++ [e]) rest
/-- What a router serves next: the lowest class number first, and within a class the oldest (R33, R34). -/
def State.nextServed (s : State) (f : Nat) : Option (InPkt × Nat) :=
  (List.range 6).findSome? (fun c => s.firstReady f [] ((s.router f).inq.filter (fun e => e.pkt.cls == c)))
/-- A buffer place of an input port is free again: its credit returns to the hop that sends into it (R35). -/
def State.returnCredit (s : State) (f port c : Nat) : State :=
  match hopField f port with
  | none => s
  | some g => s.updHop (hkey g (hopBack (hopOf port))) (fun x => { x with credits := x.credits.set c (min 2 (x.credits.getD c 0 + 1)) })
/-- One output of a waiting packet served; a hop that is no ordinary output of the packet carries detour traffic (R34-R38, R70). -/
def State.serve (s : State) (f : Nat) (e : InPkt) (l : Nat) : State :=
  let s := s.updRouter f (fun r => { r with inq := servedIn e l r.inq })
  let s := if (e.legs.erase l).isEmpty then s.returnCredit f e.port e.pkt.cls else s
  if l = 6 then s.deliver f e.pkt
  else
    let s := s.sendHop f (hopOf l) e.pkt
    if !e.pkt.marker && !(s.plainLegs f e.pkt).contains l then s.updHop (hkey f (hopOf l)) (fun y => { y with detour := true }) else s
/-- The first router that can serve a packet does. -/
def State.pumpOne (s : State) : State :=
  match s.routers.findSome? (fun r => (s.nextServed r.1).map (fun e => (r.1, e))) with
  | none => s
  | some (f, e, l) => s.serve f e l
/-- Outputs still to be served, wafer-wide. -/
def State.legsWaiting (s : State) : Nat := (s.routers.flatMap (fun r => r.2.inq.flatMap (·.legs))).length
/-- Every packet that can move does (R33-R38); a relayed heartbeat counts twice. -/
def State.pump (s : State) : State := s.each (List.range (2 * s.legsWaiting)) (fun s _ => s.pumpOne)
/-- A unit of a field sends a packet: it waits at the unit's local port until the router can take and forward it (R28, R35). -/
def State.routePacket (s : State) (f : Nat) (p : Packet) : State := (s.enqueue f 6 p).pump
/-- A packet for one unit from another: both by router field and port (R31). -/
def State.unicast (s : State) (cls sf sp df dp reign type tag : Nat) (payload : List (BitVec 64)) : State :=
  s.routePacket sf ⟨mkHead cls payload.length df dp sf sp 0 reign type tag, payload⟩

/-- The crossing from one region into another is clamped on the receiving side (R113): toward a neighbour as HL_ISO_N says; of a diagonal neighbour, that
has no such signal, while that region has no supply or its loss is latched (assumption 193). -/
def State.clamped (s : State) (r q : Nat) : Bool :=
  match [Dir.n, .e, .s, .w].find? (fun d => regionTo r d == some q) with
  | some d => (s.hall r).iso.getD (dirNo d) false
  | none => let h := s.hall q; !h.pg || h.pgLoss || h.oc || h.lost
/-- A hop into a router crosses a clamped edge of its region, so nothing comes over it (R113). -/
def State.hopClamped (s : State) (f : Nat) (h : Hop) : Bool :=
  match hopTo f h with
  | some g => regionOfField f != regionOfField g && s.clamped (regionOfField f) (regionOfField g)
  | none => false
/-- The packet that a router has just taken whole from a hop is off the sender's wires (R29). -/
def State.lineDone (s : State) (f : Nat) (h : Hop) (p : Packet) : State :=
  match hopTo f h with
  | none => s
  | some g => s.updHop (hkey g (hopBack h)) (fun x => x.taken p)
/-- STAIR_PACKET_RECEIVE (R29-R36, R52, R113, R394, R396): nothing crosses a clamp; an input buffer without a place takes no packet (R35;
assumption 169); the check result goes back to the sender; a packet that fails is discarded; classes 6-7 and the reserved types of class 1
are discarded at the first hop; a channel marker (TYPE 0 of classes 2-5) and a CUT_REPORT, which is combined where it arrives (assumption 206), go no further; any other
waits for its outputs. -/
def stairPacketReceive (s : State) (f : Nat) (h : Option Hop) (violation : Bool) (head : BitVec 64)
    (payload : List (BitVec 64)) (crc : BitVec 16) (resid : Nat) : State :=
  let p : Packet := ⟨head, payload⟩
  let c := p.cls
  let ok := packetOk violation head payload crc
  match h with
  | none =>
    if !ok then s
    else if 6 ≤ c then s.updRouter f (fun r => { r with reserved := r.reserved + 1 })
    else if c = 1 ∧ (headType head.toNat = 0 ∨ 3 < headType head.toNat) then s
    else if p.marker then s
    else s.routePacket f (addDelay p resid)
  | some h =>
    let n := hopNo h
    if s.hopClamped f h || decide (c < 6 ∧ 2 ≤ (s.router f).inPort n c) then s
    else
      let s := (s.lineDone f h p).emit (.hopCheck f h ok)
      if !ok then s.pump
      else
        let s := if p.marker then s else (s.updHop (hkey f h) (fun y => { y with recv := countAt y.recv c })).noteItem (chHop f n c)
        if 6 ≤ c then ((s.updRouter f (fun r => { r with reserved := r.reserved + 1 })).returnCredit f n c).pump
        else if (c = 1 ∧ (headType head.toNat = 0 ∨ 2 = headType head.toNat ∨ 3 < headType head.toNat)) ∨ p.marker then (s.returnCredit f n c).pump
        else (s.enqueue f n (addDelay p ((s.hop (hkey f h)).delay + resid))).pump


/-- The fields joined so far with those that one mesh hop, live both ways, adds (R38). -/
def State.joinMesh (s : State) (t : List Nat) : List Nat :=
  (List.range Config.host.fields).map (fun f =>
    if t.getD f 7 ≠ 7 then t.getD f 7
    else (([0, 1, 2, 3].find? (fun h => match hopField f h with
      | some g => t.getD g 7 != 7 && s.hopLive f (hopOf h) && s.hopLive g (hopBack (hopOf h))
      | none => false)).getD 7))
/-- The first field that a spare link, live both ways, can add (R38, R39). -/
def State.spareJoin (s : State) (t : List Nat) : Option (Nat × Nat) :=
  (List.range Config.host.fields).findSome? (fun f =>
    if t.getD f 7 ≠ 7 then none
    else ([4, 5].find? (fun h => match hopField f h with
      | some g => t.getD g 7 != 7 && s.hopLive f (hopOf h) && s.hopLive g (hopBack (hopOf h))
      | none => false)).map (fun h => (f, h)))
/-- A detour tree grown by mesh hops while they add fields, else by one spare link at a time, so that spare links join only what no mesh hop joins. -/
def State.growTree (s : State) : Nat → List Nat → List Nat
  | 0, t => t
  | n + 1, t =>
    let t' := s.joinMesh t
    if t' ≠ t then s.growTree n t'
    else match s.spareJoin t with
      | none => t
      | some (f, h) => s.growTree n (t.set f h)
/-- The tree of the live hops from a root field: every route over it climbs and then descends, so that no cycle of waiting hops can form (R38, R39; assumption 13). -/
def State.liveTree (s : State) (root : Nat) : List Nat :=
  s.growTree Config.host.fields ((List.replicate Config.host.fields 7).set root 6)
/-- The powered fields that the live hops do not join to the active Brewhouse's router (R40). -/
def State.partitioned (s : State) : List Nat :=
  let t := s.liveTree (Config.host.brewField s.active)
  (List.range Config.host.fields).filter (fun f => t.getD f 7 == 7 && !s.regionLost (regionOfField f))
/-- The partition as the active Brewhouse's side finds it: accounts of fields newly cut off are void, to be declared at the next cut (R40, R424; assumption 171). -/
def State.findPartition (s : State) : State :=
  let cut := s.partitioned
  let new := cut.filter (fun f => !s.cutoff.contains f)
  { s with cutoff := cut, voids := s.voids ++ new.map (fun f => (⟨2, f, false⟩ : VoidNote)) }

/-- The class 3 packet of a dead hop's event, for both Brewhouses (R26, R31, R38; assumption 84: its TYPE and payload are the model's). -/
def deadHopPacket (f h cause resends : Nat) : Packet :=
  ⟨mkHead 3 2 0 18 f 0 3 0 (Config.imageVal 0x26 0 % 255 + 1), [BitVec.ofNat 64 (0xC001 + puRtr f * 2 ^ 32), BitVec.ofNat 64 (h + cause * 2 ^ 32 + resends * 2 ^ 48)]⟩
/-- A hop declared dead: it is marked in the map; its unacknowledged packets wait ahead of any later one for the tables to be made; 0xC001
goes by another hop; and a partition is found (R37, R38, R40). -/
def State.hopDead (s : State) (f : Nat) (h : Hop) (cause fails : Nat) : State :=
  let x := s.hop (hkey f h)
  if x.dead then s
  else
    let n := hopNo h
    let back := (x.copies.filter (fun c => !c.pkt.marker)).map (fun c => (⟨7, c.pkt, [n], (s.legsOf f 6 c.pkt).erase n⟩ : InPkt))
    let s := s.updHop (hkey f h) (fun x => { x with dead := true, copies := [], detour := false })
    let away := match allHops.find? (fun g => s.hopLive f g) with
      | some g => [(⟨6, deadHopPacket f n cause fails, [hopNo g], []⟩ : InPkt)]
      | none => []
    let s := s.updRouter f (fun r => { r with inq := back ++ r.inq.filter (fun e => !(e.pkt.marker && e.legs.contains n)) ++ away })
    (((s.count uSTR STR_DEAD_COUNT).raise 0xC001 (puRtr f) n cause fails).findPartition).pump
/-- The check result of the packet that a hop carried whole first: passed frees its copy, failed sends it again, and after
three failed resends of it the hop is dead (R37). -/
def State.hopResult (s : State) (f : Nat) (h : Hop) (ok : Bool) : State :=
  let x := s.hop (hkey f h)
  if s.hopClamped f h then s
  else match x.copies with
  | [] => s
  | c :: _ =>
    let done (x : HopSt) : HopSt := { HopSt.carry (c.pkt.transfers.length - c.done) x with copies := x.copies.drop 1 }
    if ok then (s.updHop (hkey f h) done).pump
    else if c.fails < 3 then
      ((s.updHop (hkey f h) (fun x => (done x).start c.pkt (c.fails + 1))).count (uRTR f) STR_RETRY_COUNT 1 (hopNo h)).emit
        (.hop f h c.pkt.head c.pkt.payload)
    else s.hopDead f h 0 c.fails
/-- HOP_CHECK_RESULT. -/
def execHopCheckResult (f : FieldId) (h : Hop) (ok : Bool) (s : State) : Outcome State Fault Refusal :=
  .next (s.hopResult f.val h ok)
/-- HOP_ACK_TIMEOUT: a transfer unacknowledged for 1 µs of wall time (R37); the resends told are those of its packet. -/
def execHopAckTimeout (f : FieldId) (h : Hop) (s : State) : Outcome State Fault Refusal :=
  .next (s.hopDead f.val h 1 (((s.hop (hkey f.val h)).onWires.map (·.fails)).getD 0))

/-- Every dead hop of the map (R38). -/
def State.deadHops (s : State) : List Nat := (s.hops.filter (fun e => e.2.dead)).map (·.1)
/-- The hops that a packet takes one after the other on the routes of a routing function. -/
def hopPairs (next : Nat → Nat → Nat) : List (Nat × Nat) :=
  let fs := List.range Config.host.fields
  fs.flatMap (fun d => (fs.filterMap (fun f => match hopField f (next f d) with
    | some g => if next g d < 6 then some (8 * f + next f d, 8 * g + next g d) else none
    | none => none)))
/-- No cycle: hops that wait for none are taken away until none is left, or none more can be. -/
def acyclic : Nat → List (Nat × Nat) → Bool
  | 0, es => es.isEmpty
  | n + 1, es =>
    let rest := es.filter (fun e => es.any (fun x => x.1 == e.2))
    if rest.length = es.length then es.isEmpty else acyclic n rest
/-- Tables cannot form a cycle of waiting hops: not those that unicasts over them and broadcasts over their tree take (R39). -/
def detourSafe (t : Detour) : Bool :=
  acyclic (8 * Config.host.fields) (hopPairs (detourNext t) ++ hopPairs (fun f d => if f = d then 6 else treeNext t.tree f d)).eraseDups
/-- The detour tables of the live-hop map: every ordinary route that is whole is kept where no cycle of waiting hops can form with it,
else those within one row or column, else none (R36, R38, R39; assumption 13). -/
def State.makeTables (s : State) : Detour :=
  let fs := List.range Config.host.fields
  let down := fs.flatMap (fun f => (([Hop.n, .e, .s, .w].filter (fun h => (hopTo f h).isSome && !s.hopLive f h)).map (hkey f)))
  let t (k : Nat) : Detour := ⟨s.liveTree (Config.host.brewField s.active), down, k⟩
  if detourSafe (t 2) then t 2 else if detourSafe (t 1) then t 1 else t 0
/-- DETOUR_TABLES_WRITE (R38-R40): the scheduler core makes tables from the live-hop map, they go to every router and 0xC002 reports
them; a partition is found. -/
def detourTablesWrite (s : State) (us : Nat) : State :=
  let s : State := { s with tablesDue := List.range Config.host.fields, tree := some s.makeTables }
  s.findPartition.raise 0xC002 s.puActive s.deadHops.length Config.host.fields us
/-- DETOUR_TABLES_WRITE. -/
def execDetourTablesWrite (us : Nat) (s : State) : Outcome State Fault Refusal := .next (detourTablesWrite s us)
/-- A packet addressed to one unit (R31). -/
def addressed (p : Packet) (f port : Nat) : Packet :=
  { p with head := BitVec.ofNat 64 (setBits (setBits (setBits p.head.toNat 56 50 f) 49 45 port) 32 31 0) }
/-- What becomes of a packet that waits at a router when its tables arrive (R38): a unicast takes its output by them; a packet for several fields has
reached those behind the outputs already served, so that it goes on as a unicast to each unit behind an output that is left (assumption 190); a
channel marker stays with its hop (R396). -/
def State.rerouted (s : State) (old : Option Detour) (f : Nat) (e : InPkt) : List InPkt :=
  let x := e.pkt.head.toNat
  let one (g port : Nat) : InPkt := ⟨7, addressed e.pkt g port, [s.nextHop f g], []⟩
  if e.pkt.marker then [e]
  else if headCast x = 0 then [{ e with legs := if e.legs.contains 6 then [6] else [s.nextHop f (headDstField x)] }]
  else
    let out := e.legs.filter (· != 6)
    { e with legs := e.legs.filter (· == 6) } :: (match headCast x with
      | 2 => out.flatMap (fun l => (castUnder (Config.host.brewField s.active) old Config.host.fields f l).flatMap (fun g => (localPorts g).map (one g)))
      | 1 => ((castFields x).filter (fun d => out.contains (nextBy old f d))).map (fun d => one d (headDstPort x))
      | _ => ((castFields x).filter (fun d => out.contains (nextBy old f d))).map (fun d => one d 18))
/-- DETOUR_TABLE_ARRIVE (R38, R70): the router's tables are in force and its hops carry no detour traffic yet; the packets that waited leave over them,
in their original order within each class and before any later one. -/
def detourTableArrive (s : State) (f : Nat) : State :=
  if !s.tablesDue.contains f then s
  else
    let old := (s.router f).table
    let s : State := { s.updRouter f (fun r => { r with table := s.tree }) with tablesDue := s.tablesDue.erase f }
    let s := s.each (List.range 6) (fun s h => s.updHop (8 * f + h) (fun x => { x with detour := false }))
    let l := (s.router f).inq.flatMap (s.rerouted old f)
    let s := s.updRouter f (fun r => { r with inq := l.filter (fun e => !e.legs.isEmpty) })
    (s.each (l.filter (fun e => e.legs.isEmpty)) (fun s e => s.returnCredit f e.port e.pkt.cls)).pump
/-- DETOUR_TABLE_ARRIVE. -/
def execDetourTableArrive (f : FieldId) (s : State) : Outcome State Fault Refusal := .next (detourTableArrive s f.val)

/-- The matched-delay setting of a kiln band (R44). -/
def mdOf (band : Nat) : Nat := if band ≤ 1 then 0 else if band = 2 then 1 else if band = 3 then 2 else 3
/-- Unit number of a self-timed datapath. -/
def datapathUnit : Datapath → Nat
  | .taster k => uTST k.val
  | .cellar c => uCEL c.val

/-- HOP_DELAY_ECHO (R52): the measured delay of a hop, which the router adds to every beat that comes on it; no echo crosses a clamp (R113). -/
def hopDelayEcho (s : State) (f : Nat) (h : Hop) (delay : Nat) : State :=
  if s.hopClamped f h then s else s.updHop (hkey f h) (fun x => { x with delay := delay })
/-- HOP_DELAY_ECHO. -/
def execHopDelayEcho (f : FieldId) (h : Hop) (delay : BitVec 16) (s : State) : Outcome State Fault Refusal :=
  .next (hopDelayEcho s f.val h delay.toNat)


/-- Key of the clock of a unit that hears beats; each Brewhouse has its own (R51, R67). -/
def nodeUnit : Node → Nat
  | .hall r => uHAL r.val
  | .taster k => uTST k.val
  | .cellar c => uCEL c.val
  | .door n => uDOR n.val
  | .router f => uRTR f.val
  | .brew .a => uBRW
  | .brew .b => uBRWB
/-- Region of a unit that hears beats. -/
def nodeRegion : Node → Nat
  | .hall r => r.val
  | .taster k => regionOfCluster k.val
  | .cellar c => regionOfStack c.val
  | .door n => regionOfDoor n.val
  | .router f => regionOfField f.val
  | .brew w => bhRegion w
/-- The local wall time of a unit: the REFCLK count of its region with its own offset; a correction downward holds it for one edge (R53, R119). -/
def State.localTime (s : State) (u : Node) : Int :=
  let t := s.timeIn (nodeRegion u)
  let c := s.clock (nodeUnit u)
  (t : Int) + 10 * (c.skew + c.made t)
/-- Wall time as a Brewhouse counts it (R20, R51, R67). -/
def State.brewTime (s : State) (w : Bh) : Nat := (s.localTime (.brew w)).toNat
/-- TIME_BEAT_EMIT (R51): the active Brewhouse's class 0 wafer broadcast carries its wall time and a path delay emitted as zero, to which
its own router adds the beat's residence there, a FREE VALUE (R52; assumption 191; assumption 84: its TYPE and the flits' order). -/
def timeBeatEmit (s : State) : State :=
  let w := s.active
  if !s.bhAlive w || (Tab.find (bhRegion w) s.refLost).isSome then s
  else
    let f := Config.host.brewField w
    let s := (s.count uTMB TMB_BEAT_SEQ_SEQ).flag uTMB TMB_STAT_BEAT_ON true
    let s := s.flag uTMB TMB_STAT_SOURCE (w == .b)
    let p : Packet := ⟨mkHead 0 2 0 0 f 18 2 (s.brew w).reign (Config.imageVal 0x51 0), [BitVec.ofNat 64 (s.brewTime w), 0]⟩
    s.draw.routePacket f (addDelay p (Config.openVal s.fresh))
/-- TIME_BEAT_EMIT. -/
def execTimeBeatEmit (s : State) : Outcome State Fault Refusal := .next (timeBeatEmit s)
/-- The correction of a beat: one tick toward the beat's wall time plus path delay, where they differ by a tick or more (R53). -/
def State.beatSkew (s : State) (u : Node) (beat delay : Nat) : Int :=
  let d := s.localTime u - ((beat : Int) + (delay * 5 / 8 : Nat))
  if 10 ≤ d then -1 else if d ≤ -10 then 1 else 0
/-- BEAT_RECEIVE (R53, R55, R56, R65, R119, R359, R417): the local counter moves one tick toward the beat, but not in a unit without REFCLK; a unit
that has corrected by more than two ticks since the last cut epoch counts in TMB_STAT.MISALIGNED; a Hall samples its region's cycle
count, and has contact again when the beat is of the reign it follows or a higher one. -/
def beatReceive (s : State) (u : Node) (beat delay reign cyc : Nat) : State :=
  let n := nodeUnit u
  let t := s.timeIn (nodeRegion u)
  let k := if (Tab.find (nodeRegion u) s.refLost).isSome then 0 else s.beatSkew u beat delay
  let old := s.clock n
  let new := old.beat t s.now k reign
  let s := s.updClock n (fun _ => new)
  let s := if old.corr ≤ 2 ∧ 2 < new.corr then s.count uTMB TMB_STAT_MISALIGNED else s
  match u with
  | .hall r =>
    let s := s.wr uTMB TMB_CYC_CYC cyc r.val
    let was := s.hall r.val
    let s := s.updHall r.val (fun h =>
      { h with
        lastHeard := s.now, noContact := h.noContact && decide (reign < old.reign)
        cycPrev := h.cyc, cyc := cyc, cycAt := if cyc = h.cyc then h.cycAt else s.now })
    let adv := cyc - was.cyc
    s.each (clustersOf r.val) (fun s k =>
      s.updSeg k (fun g => { g with
        stretched := decide (16 * adv < 15 * s.variant.nominal) || decide (cyc = was.cyc)
        clkstop := decide (cyc = was.cyc) }))
  | _ => s
/-- BEAT_RECEIVE. -/
def execBeatReceive (u : Node) (beat : BitVec 64) (delay : BitVec 16) (reign : BitVec 7) (cyc : Nat) (s : State) : Outcome State Fault Refusal :=
  .next (beatReceive s u beat.toNat delay.toNat reign.toNat cyc)
/-- BEAT_LOSS_TIMEOUT: no beat for 3 ms of wall time (R55). -/
def execBeatLossTimeout (u : Node) (s : State) : Outcome State Fault Refusal :=
  .next (s.raiseOnce 0 0x9030 (puNode u) ((s.now - (s.clock (nodeUnit u)).lastBeat) / 1000000))

end Sys2Proof.Machine
end

