-- ==== Sys2Proof/Machine/Bulk.lean ====
section
/-! DEFINITION. Bulk transfers over the reserved channel of the host mesh: the Stair control packets that describe and complete them (R42, R43). -/
namespace Sys2Proof.Machine
open Sys2Proof Host

/-- Router field and local port of a unit (R28). -/
def unitPort (p : Nat) : Nat × Nat :=
  let k := puidMajor p
  match puidKind p with
  | 2 => (k / 10, 2 + k % 10)
  | 3 => (Config.host.north k, 1)
  | 4 => (Config.host.brewField (if k = 0 then .a else .b), 18)
  | 5 => (k / 4, 12 + k % 4)
  | 6 => (Config.host.linkField k, if k < nFields then 16 else 17)
  | _ => (Config.host.linkField 0, 0)
/-- Reign that a unit's packets carry: that of a Brewhouse, 0 from any other unit (R31). -/
def State.reignOf (s : State) (p : Nat) : Nat :=
  if puidKind p = 4 then (s.brew (if puidMajor p = 0 then .a else .b)).reign else 0
/-- TYPE of the class 2 packet that describes a bulk transfer, or reports its completion: neither a marker's nor the relay's (assumption 84). -/
def bulkType (done : Bool) : Nat := Config.imageVal 0x43 (if done then 1 else 0) % 125 + 1
/-- The control packet of a bulk transfer: its source and destination, its length and check value (R43; assumption 84: its payload's layout). -/
def State.bulkPacket (s : State) (done : Bool) (src dst len check : Nat) : State :=
  let a := unitPort (if done then dst else src)
  let b := unitPort (if done then src else dst)
  s.unicast 2 a.1 a.2 b.1 b.2 (s.reignOf (if done then dst else src)) (bulkType done) 0
    [BitVec.ofNat 64 (dst * 2 ^ 32 + src), BitVec.ofNat 64 (check * 2 ^ 32 + len)]
/-- Check value of a transfer's bytes: CRC-32C (assumption 84). -/
def bulkCheck (bs : List Byte) : Nat := crcOf crc32c bs
/-- A bulk transfer from one unit to another: described, carried by the mesh at once, and reported complete by its receiver (R42, R43). -/
def State.bulk (s : State) (src dst : Nat) (bs : List Byte) : State :=
  let c := bulkCheck bs
  ((s.bulkPacket false src dst bs.length c).emit (.bulk src dst bs)).bulkPacket true src dst bs.length c

end Sys2Proof.Machine
end

