-- ==== Sys2Proof/Machine/Numeric.lean ====
section
/-! DEFINITION. Exact dyadic numbers, element formats, rounding and residues (R126, R158-R164, R170, R173, R207-R209). -/
namespace Sys2Proof

/-- An element put in its place in an ordered list, before its equals. -/
def insertBy {α : Type} (le : α → α → Bool) (x : α) : List α → List α
  | [] => [x]
  | y :: ys => if le x y then x :: y :: ys else y :: insertBy le x ys
/-- A list in order; equal elements keep their order. -/
def sortBy {α : Type} (le : α → α → Bool) (l : List α) : List α := l.foldr (insertBy le) []

/-- The dyadic 0. -/
def Dy.zero : Dy := ⟨0, 0⟩
/-- 2 to a power. -/
def Dy.pow2 (e : Int) : Dy := ⟨1, e⟩
/-- Exact sum. -/
def Dy.add (a b : Dy) : Dy :=
  let e := min a.e b.e
  ⟨a.n * 2 ^ (a.e - e).toNat + b.n * 2 ^ (b.e - e).toNat, e⟩
/-- Exact opposite. -/
def Dy.neg (a : Dy) : Dy := ⟨-a.n, a.e⟩
/-- Exact difference. -/
def Dy.sub (a b : Dy) : Dy := a.add b.neg
/-- Exact product. -/
def Dy.mul (a b : Dy) : Dy := ⟨a.n * b.n, a.e + b.e⟩
/-- Magnitude. -/
def Dy.abs (a : Dy) : Dy := ⟨a.n.natAbs, a.e⟩
/-- Equal values (R158: however they are written). -/
def Dy.same (a b : Dy) : Bool := decide ((a.sub b).n = 0)
/-- Strictly less. -/
def Dy.lt (a b : Dy) : Bool := decide ((a.sub b).n < 0)
/-- Less or equal. -/
def Dy.le (a b : Dy) : Bool := decide ((a.sub b).n ≤ 0)
/-- Largest integer not above. -/
def Dy.floor (a : Dy) : Int := if 0 ≤ a.e then a.n * 2 ^ a.e.toNat else a.n / 2 ^ (-a.e).toNat
/-- Sum of a list. -/
def Dy.sum (l : List Dy) : Dy := l.foldl Dy.add Dy.zero

/-- The residue modulus, 2^13 - 1 (R158). -/
def resMod : Nat := 8191
/-- 2 to a power, as a residue: a rotation (R158). -/
def resPow (e : Int) : Nat := 2 ^ (e % 13).toNat
/-- The residue of a dyadic number (R158). -/
def rho (v : Dy) : Nat := ((v.n * (resPow v.e : Nat)) % (resMod : Int)).toNat
/-- A residue times a power of two (R158). -/
def resRot (r : Nat) (e : Int) : Nat := r * resPow e % resMod
/-- Residue of an unsigned field: the sum of its 13-bit chunks (R160). -/
def resField (x : Nat) : Nat := x % resMod
/-- The value of a two's-complement field of `w` bits. -/
def signed (w x : Nat) : Int := if x % 2 ^ w < 2 ^ (w - 1) then (x % 2 ^ w : Nat) else (x % 2 ^ w : Nat) - (2 ^ w : Nat)
/-- Bits of a signed number in `w` bits. -/
def unsigned (w : Nat) (x : Int) : Nat := (x % (2 ^ w : Nat)).toNat

/-- A number format (R126, R161): significand field, exponent field, the offset of R161's exponents, and its
non-finite codes: 0 as IEEE 754, 1 the one code of E4M3, 2 none. Integer formats are told apart. -/
inductive NumFmt where
  | flt (mb eb off kind : Nat)
  /-- two's complement of `w` bits, in units of 2^-frac -/
  | int (w frac : Nat)
  deriving DecidableEq, Repr

/-- The arithmetic formats by code (R126, R161). -/
def numFmt : Nat → Option NumFmt
  | 0x01 => some (.flt 23 8 150 0)
  | 0x02 => some (.flt 7 8 134 0)
  | 0x03 => some (.flt 10 5 25 0)
  | 0x04 => some (.flt 3 4 10 1)
  | 0x05 => some (.flt 2 5 17 0)
  | 0x10 => some (.flt 3 4 10 1)
  | 0x11 => some (.flt 2 5 17 0)
  | 0x12 => some (.flt 2 3 5 2)
  | 0x13 => some (.flt 3 2 4 2)
  | 0x14 => some (.flt 1 2 2 2)
  | 0x15 => some (.int 8 6)
  | 0x20 => some (.int 8 0)
  | 0x21 => some (.int 4 0)
  | _ => none
/-- MX formats carry a shared scale (R126). -/
def fmtMx (f : Nat) : Bool := decide (0x10 ≤ f ∧ f ≤ 0x15)
/-- Bits of an element. -/
def fmtBits : Nat → Nat
  | 0x01 => 32
  | 0x02 => 16
  | 0x03 => 16
  | 0x12 => 6
  | 0x13 => 6
  | 0x14 => 4
  | 0x21 => 4
  | _ => 8
/-- Lanes of an operand format (R79); a code outside R79 counts as 64 (R602). -/
def fmtLanes (f : Nat) : Nat :=
  if f = 0x14 ∨ f = 0x21 then 64
  else if f = 0x02 ∨ f = 0x03 then 16
  else if f = 0x01 then 8
  else if (numFmt f).isSome then 32 else 64
/-- Operand formats whose every product is its own unit (R168). -/
def fmtWide (f : Nat) : Bool := f == 0x01 || f == 0x02 || f == 0x03

/-- A value with its sign, also of zero. -/
inductive FV where
  | nan
  | inf (neg : Bool)
  | fin (neg : Bool) (m : Nat) (e : Int)
  deriving DecidableEq, Repr

/-- The number of a finite value. -/
def FV.dy : FV → Dy
  | .fin neg m e => ⟨if neg then -(m : Int) else m, e⟩
  | _ => Dy.zero
/-- It is finite. -/
def FV.isFin : FV → Bool
  | .fin _ _ _ => true
  | _ => false
/-- It is NaN. -/
def FV.isNan : FV → Bool
  | .nan => true
  | _ => false
/-- It is a zero of either sign. -/
def FV.isZero : FV → Bool
  | .fin _ m _ => m == 0
  | _ => false
/-- A finite value from a number; a zero takes the sign given. -/
def FV.ofDy (zneg : Bool) (d : Dy) : FV := .fin (if d.n = 0 then zneg else decide (d.n < 0)) d.n.natAbs d.e

/-- The value of an element code (R161). -/
def decodeFV (f code : Nat) : FV :=
  match numFmt f with
  | none => .nan
  | some (.int w frac) =>
    let v := signed w code
    .fin (decide (v < 0)) v.natAbs (-(frac : Int))
  | some (.flt mb eb off kind) =>
    let neg := bit code (mb + eb)
    let e := bits code (mb + eb - 1) mb
    let fr := code % 2 ^ mb
    if kind = 0 ∧ e = 2 ^ eb - 1 then (if fr = 0 then .inf neg else .nan)
    else if kind = 1 ∧ e = 2 ^ eb - 1 ∧ fr = 2 ^ mb - 1 then .nan
    else if e = 0 then .fin neg fr (1 - (off : Int))
    else .fin neg (2 ^ mb + fr) ((e : Int) - off)

/-- The exact value of an element code, none where it is non-finite or the format has none (R161). -/
def decodeDy (f code : Nat) : Option Dy :=
  match decodeFV f code with
  | .fin neg m e => if (numFmt f).isSome then some (FV.dy (.fin neg m e)) else none
  | _ => none
/-- An E8M0 shared scale, none for 0xFF (R162). -/
def scaleExp (x : Nat) : Option Int := if x % 256 = 0xFF then none else some ((x % 256 : Nat) - (127 : Int))

/-- A magnitude m·2^e rounded to a multiple of 2^q, in units of it: nearest-even (mode 0) or toward zero (mode 1). -/
def roundTo (mode : Nat) (m : Nat) (e q : Int) : Nat :=
  if q ≤ e then m * 2 ^ (e - q).toNat
  else
    let k := (q - e).toNat
    let lo := m / 2 ^ k
    let rem := m % 2 ^ k
    if mode = 0 ∧ (2 * rem > 2 ^ k ∨ (2 * rem = 2 ^ k ∧ lo % 2 = 1)) then lo + 1 else lo

/-- The largest finite code of a format, without its sign bit. -/
def fltMax (mb eb kind : Nat) : Nat :=
  if kind = 0 then (2 ^ eb - 1) * 2 ^ mb - 1 else if kind = 1 then 2 ^ (eb + mb) - 2 else 2 ^ (eb + mb) - 1

/-- The canonical NaN of a format; 0 where the format has none (R208, R209). -/
def nanCode (f : Nat) : Nat :=
  match f with
  | 0x01 => 0x7FC00000
  | 0x02 => 0x7FC0
  | 0x03 => 0x7E00
  | 0x04 => 0x7F
  | 0x05 => 0x7E
  | _ => 0

/-- Conversion of a value to a format: one rounding in the named mode, with the overflow rules of R209. For an MX
format the value is the element's, the scale already taken off. -/
def encodeFV (f mode : Nat) (v : FV) : Nat :=
  match numFmt f with
  | none => 0
  | some (.int w frac) =>
    let top := 2 ^ (w - 1)
    match v with
    | .nan => 0
    | .inf neg => if neg then top else top - 1
    | .fin neg m e =>
      let r := roundTo mode m e (-(frac : Int))
      if neg then unsigned w (-(min r top : Nat)) else min r (top - 1)
  | some (.flt mb eb off kind) =>
    let sgn (neg : Bool) := if neg then 2 ^ (mb + eb) else 0
    let mx := fltMax mb eb kind
    match v with
    | .nan => nanCode f
    | .inf neg => sgn neg + (if kind = 0 then mx + 1 else mx)
    | .fin neg m e =>
      if m = 0 then sgn neg
      else
        let q := max ((Nat.log2 m : Int) + e - mb) (1 - (off : Int))
        let code := (q + off - 1).toNat * 2 ^ mb + roundTo mode m e q
        sgn neg + (if code ≤ mx then code else if kind = 0 ∧ mode = 0 ∧ fmtMx f = false then mx + 1 else mx)

/-- Exact sum of values: NaN for NaN or opposite infinities; an exact zero sum is −0 only of two −0. -/
def FV.add (x y : FV) : FV :=
  match x, y with
  | .nan, _ => .nan
  | _, .nan => .nan
  | .inf a, .inf b => if a = b then .inf a else .nan
  | .inf a, _ => .inf a
  | _, .inf b => .inf b
  | .fin a m e, .fin b n k => FV.ofDy (a && b) ((FV.dy (.fin a m e)).add (FV.dy (.fin b n k)))
/-- Exact product of values. -/
def FV.mul (x y : FV) : FV :=
  match x, y with
  | .nan, _ => .nan
  | _, .nan => .nan
  | .inf a, .inf b => .inf (a != b)
  | .inf a, .fin b n _ => if n = 0 then .nan else .inf (a != b)
  | .fin a m _, .inf b => if m = 0 then .nan else .inf (a != b)
  | .fin a m e, .fin b n k => .fin (a != b) (m * n) (e + k)
/-- Exact opposite. -/
def FV.neg : FV → FV
  | .nan => .nan
  | .inf a => .inf (!a)
  | .fin a m e => .fin (!a) m e
/-- A value times a power of two. -/
def FV.scale (k : Int) : FV → FV
  | .fin a m e => .fin a m (e + k)
  | v => v

/-- FP32 code to value. -/
def f32 (code : Nat) : FV := decodeFV 0x01 code
/-- Value to FP32, nearest-even. -/
def toF32 (v : FV) : Nat := encodeFV 0x01 0 v
/-- A number rounded up to FP32; none when it is beyond the largest (R223). -/
def roundUp32 (d : Dy) : Option Dy :=
  let c := encodeFV 0x01 1 (FV.ofDy false d)
  let v := (f32 c).dy
  if d.le v then some v
  else match f32 (c + 1) with
    | .fin n m e => some (FV.dy (.fin n m e))
    | _ => none

/-- The scale of an MX result block (R209): none takes 0xFF, since an element is NaN or infinite. -/
def mxScale (f : Nat) (vs : List FV) : Option Nat :=
  if vs.any (fun v => !v.isFin) then none
  else
    let nz := (vs.map FV.dy).filter (fun d => d.n ≠ 0)
    match nz with
    | [] => some 0
    | d :: ds =>
      let amax := ds.foldl (fun a b => if a.abs.lt b.abs then b.abs else a) d.abs
      let emax : Int := match f with
        | 0x14 => 2
        | 0x13 => 2
        | 0x12 => 4
        | 0x10 => 8
        | 0x11 => 15
        | _ => 0
      let x := (Nat.log2 amax.n.natAbs : Int) + amax.e - emax + 127
      some (min (max x 0) 254).toNat
/-- An element of an MX result block under its scale (R209). -/
def mxElem (f mode : Nat) (scale : Option Nat) (v : FV) : Nat :=
  match scale with
  | none => 0
  | some x => encodeFV f mode (v.scale (127 - (x : Int)))

/-- Half the smallest step: one unit in the last place of S in its format (R173). -/
def ulpOf (sfmt s : Nat) : Option Dy :=
  match sfmt with
  | 0x01 => some (Dy.pow2 ((max (bits s 30 23) 1 : Nat) - (150 : Int)))
  | 0x02 => some (Dy.pow2 ((max (bits s 14 7) 1 : Nat) - (134 : Int)))
  | 0x03 => some (Dy.pow2 ((max (bits s 14 10) 1 : Nat) - (25 : Int)))
  | _ => none

/-- The value of the discard, from its form and operand (R85). -/
def discardVal (p : DscPres) (q : Dy) : Dy :=
  let sg : Int := if p.sign then -1 else 1
  let e := p.exp.toInt
  match p.form.toNat with
  | 0 => Dy.zero
  | 1 => ⟨sg * p.mag.toNat, e⟩
  | 2 => q
  | _ => q.sub ⟨sg, e⟩
/-- The residue of the discard, from its form and the operand's residue (R170). -/
def discardRho (p : DscPres) (rq : Nat) : Nat :=
  let e := p.exp.toInt
  match p.form.toNat with
  | 0 => 0
  | 1 => let r := resRot (resField p.mag.toNat) e; if p.sign then (resMod - r) % resMod else r
  | 2 => rq
  | _ => if p.sign then (rq + resRot 1 e) % resMod else (rq + resMod - resRot 1 e) % resMod

end Sys2Proof
end

