-- ==== Sys2Proof/Machine/Descriptor.lean ====
section
/-! DEFINITION. Reduction-tree and special-function descriptors: layout and validity (R212, R213, R215, R217). -/
namespace Sys2Proof

/-- The fields of a 256-bit tree descriptor (R212). -/
def TreeDesc.ofNat (x : Nat) : TreeDesc :=
  let n := bits x 7 4
  ⟨bits x 143 128, (List.range (min n 8)).map (fun i => x / 2 ^ (112 + 2 * i) % 4),
    (List.range (min n 8)).map (fun i => x / 2 ^ (64 + 6 * i) % 64), bits x 55 40, bits x 39 32, bits x 27 26, bits x 25 24,
    bits x 23 16, bits x 15 8, n, bits x 3 3, bit x 2, bit x 1⟩
/-- Nodes at each level, the leaves first (R213). -/
def TreeDesc.counts (t : TreeDesc) : List Nat :=
  t.fanin.foldl (fun l f => l ++ [((l.getLastD 0) + f - 1) / f]) [t.leaves]
/-- Number of the root, the highest (R213). -/
def TreeDesc.root (t : TreeDesc) : Nat := t.counts.sum - 1
/-- The format of the tree's result (R213, R214). -/
def TreeDesc.resFmt (t : TreeDesc) : Nat := if t.levels = 0 ∨ t.outconv then t.outfmt else t.accfmt
/-- Checks of a tree descriptor of 32 bytes in the order of R211: 0 valid, else the STATUS it is refused with. -/
def treeCheck (x : Nat) : Nat :=
  let t := TreeDesc.ofNat x
  let c := t.counts
  if (numFmt t.outfmt).isNone || !([1, 2, 3].contains t.accfmt) then 3
  else if decide (2 ≤ t.leafrm ∨ 2 ≤ t.outrm) || (List.range 8).any (fun i => decide (2 ≤ x / 2 ^ (112 + 2 * i) % 4)) then 4
  else if bits x 255 144 ≠ 0 ∨ bits x 63 56 ≠ 0 ∨ bits x 31 28 ≠ 0 ∨ !bit x 0 then 5
  else if t.leaves < 1 ∨ 8192 < t.leaves ∨ t.leaflen < 1 ∨ 64 < t.leaflen ∨ 8 < t.levels then 5
  else if t.fanin.any (fun f => decide (f < 2 ∨ 32 < f)) then 5
  else if (List.range 8).any (fun i => decide (t.levels ≤ i ∧ (x / 2 ^ (64 + 6 * i) % 64 ≠ 0 ∨ x / 2 ^ (112 + 2 * i) % 4 ≠ 0))) then 5
  else if c.getLastD 0 ≠ 1 ∨ (c.dropLast).any (fun n => decide (n < 2)) then 5
  else if 16384 < c.sum then 5
  else if t.levels = 0 ∧ (t.leaves ≠ 1 ∨ t.outconv) then 5
  else if !t.outconv ∧ t.levels ≠ 0 ∧ t.outfmt ≠ t.accfmt then 5
  else 0

/-- The 32-bit words of a byte string. -/
def words32 : List Byte → List Nat
  | a :: b :: c :: d :: t => leNat [a, b, c, d] :: words32 t
  | _ => []
/-- The fields of a special-function descriptor (R215, R217). -/
def SfDesc.ofBytes (bs : List Byte) : SfDesc :=
  let g (o : Nat) := leAt bs o 1
  let w (o : Nat) := leAt bs o 4
  let f := g 0
  ⟨g 1, bit f 1, bit f 2, bit f 3, g 2, g 3, g 4 % 4, g 4 / 4 % 4, g 5 % 16, g 5 / 16, g 6, signed 8 (g 7), g 8 % 4,
    g 8 / 4 % 4, w 0x0C, w 0x10, w 0x14, w 0x18, w 0x1C, w 0x20, w 0x24, w 0x28, signed 16 (leAt bs 0x2C 2),
    signed 16 (leAt bs 0x2E 2), words32 (bs.drop 64)⟩
/-- A set bit among bytes that are reserved. -/
def anySet (bs : List Byte) (off n : Nat) : Bool := leAt bs off n != 0
/-- Checks of a special-function descriptor whose LEN is as its own fields give, in the order of R211. -/
def sfCheck (bs : List Byte) : Nat :=
  let d := SfDesc.ofBytes bs
  let f := leAt bs 0 1
  let sel := d.kind == 1 || d.kind == 2
  if !([1, 2, 3].contains d.infmt) || (!sel && (numFmt d.outfmt).isNone) then 3
  else if !sel && decide (2 ≤ d.outrm ∨ 2 ≤ d.nrnd) then 4
  else if !bit f 0 || 2 < d.kind then 5
  else if sel then
    (if f ≠ 1 || anySet bs 3 3 || anySet bs 7 1 || anySet bs 9 3 || anySet bs 0x18 40
        || d.segs < 1 || 64 < d.segs then 5
     else if d.kind = 1 then
       (if 2 ≤ leAt bs 8 1 || anySet bs 0x0C 12 then 5 else 0)
     else
       (if anySet bs 8 1 || anySet bs 0x15 3 then 5
        else match f32 d.u0 with
          | .fin neg m e => if m = 0 then 0
              else if !neg && (FV.dy (.fin neg m e)).le (Dy.pow2 0) then 0 else 5
          | _ => 5))
  else if 16 ≤ f ∨ 16 ≤ leAt bs 4 1 ∨ 16 ≤ leAt bs 8 1 ∨ anySet bs 9 3 ∨ anySet bs 0x30 16 then 5
  else if 3 < d.redkind ∨ 5 < d.deg ∨ d.segs < 1 ∨ 64 < d.segs ∨ d.lomode = 3 ∨ d.himode = 3 then 5
  else if !(f32 d.u0).isFin then 5
  else 0
/-- The length that a special-function descriptor's own fields give (R215, R217). -/
def sfLength (bs : List Byte) : Nat :=
  let d := SfDesc.ofBytes bs
  if d.kind = 1 ∨ d.kind = 2 then 64 else 64 + 4 * d.segs * (d.deg + 1)
/-- The checks of a load that need no store: LEN, then the descriptor itself (R211). -/
def descCheck (kind len : Nat) (bs : List Byte) : Nat :=
  let bs := bs.take len ++ List.replicate (len - bs.length) 0
  if kind = 0 then (if len ≠ 32 then 5 else treeCheck (leNat bs))
  else if len < 64 ∨ 2048 < len ∨ len ≠ sfLength bs then 5
  else sfCheck bs

/-- The class that R193 gives a command, from its tree and the function it names. -/
inductive CmdClass where
  | residueOnly | dot | fused | nonlinear | selection | sampler | invalid
  deriving DecidableEq, Repr
/-- The class of R193. -/
def classOf (tree : Bool) (sf : Option SfDesc) : CmdClass :=
  match tree, sf with
  | false, none => .residueOnly
  | true, none => .dot
  | t, some f =>
    if f.kind = 0 then (if t then .fused else .nonlinear)
    else if t then .invalid
    else if f.kind = 1 then .selection else .sampler

end Sys2Proof
end

