-- ==== Sys2Proof/Machine/Trace.lean ====
section
/-! DEFINITION. Trace records as Tasters make them, and the attribution counters (R409-R417). -/
namespace Sys2Proof.Machine
open Sys2Proof

/-- Records that fit a Taster's trace buffer, and the burst of R415. -/
def traceBurst : Nat := 512
/-- The flags of a record made now (R412, R417). -/
def State.traceFlags (s : State) (k : Nat) (core : Option Nat) (d : Option Desc) : Nat :=
  let r := regionOfCluster k
  let g := s.seg k
  let n (b : Bool) (i : Nat) := if b then 2 ^ i else 0
  n (g.stretched || s.rd (uHAL r) HAL_THM_STAT_LEVEL != 0) 0 + n g.clkstop 1 + n s.stopped 2
    + n (!s.tstTrusted k && (s.adjOf k).adopter.isSome) 3 + n core.isNone 4 + n d.isNone 5
/-- A record of a class may be written: its class is enabled, and for classes 0, 1 and 3 the command's bin is traced (R413);
a stopped Taster writes none but those of its markers (R404). -/
def State.traceOn (s : State) (k cls : Nat) (d : Option Desc) : Bool :=
  let en := bit (s.rd uLFT LFT_CFG_EN) cls && (cls == 7 || !s.unitStopped (uTST k))
  if cls = 0 ∨ cls = 1 ∨ cls = 3 then
    en && (match d with
      | some d => if d.bin < 64 then bit (s.rd uLFT LFT_BINS_BINS) d.bin else s.isSet uLFT LFT_RATE_UNBINNED
      | none => s.isSet uLFT LFT_RATE_UNBINNED)
  else en
/-- A record put in the trace buffer, or dropped and counted when it comes beyond the rate, finds the buffer full or the
segment stopped (0x9040); when room returns, a record of TYPE 0x60 goes first (R415, R416, R437; assumption 18). -/
def State.tracePut (s : State) (k : Nat) (x : TraceRec) : State :=
  let g := s.seg k
  let us := s.now / 1000
  let level := g.rateCount - s.rd uLFT LFT_RATE_REC_PER_US * (us - g.rateUs)
  let gap : List TraceRec := if g.dropped = 0 then [] else
    [⟨0x60, 48 + x.flags % 16, 0, x.cyc, x.wall, 0, 0, 0, 0, min g.dropped (2 ^ 32 - 1)⟩]
  let why := if g.stopped then 3 else if traceBurst < level + 1 + gap.length then 1
    else if traceBurst < g.buffer.length + 1 + gap.length then 2 else 0
  if why ≠ 0 then
    ((s.updSeg k (fun g => { g with dropped := g.dropped + 1, rateUs := us, rateCount := level })).count uLFT LFT_SEG_DROPPED_COUNT 1 k).raiseOnce
      0 0x9040 (puTst k) (g.dropped + 1) why
  else
    s.updSeg k (fun g => { g with
      buffer := g.buffer ++ gap ++ [x], dropped := 0, rateUs := us, rateCount := level + 1 + gap.length })
/-- A trace record of a cluster: class, type, core and command where they apply, parameter (R412, R413). -/
def State.trace (s : State) (k cls type : Nat) (core : Option Nat) (d : Option Desc) (param : Nat) : State :=
  if !s.traceOn k cls d then s
  else
    let c := (s.hall (regionOfCluster k)).cyc
    let d0 : Desc := d.getD ⟨0, 0, 0, false, false, 0, 0, 0, 0, 0, none, 64, 0⟩
    s.tracePut k ⟨type, s.traceFlags k core d, core.getD 0, c % 2 ^ 40, s.now, d0.step, d0.ctx, d0.layer, d0.op, param % 2 ^ 32⟩

/-- The descriptor of a command as its Taster holds it (R94, R95). DESIGN CHOICE (assumption 178): a descriptor matches its CMDID until another with that CMDID is presented. -/
def State.descOf (s : State) (k cmd : Nat) : Option Desc := (s.rplOf k).descs.find? (fun d => d.cmd == cmd)
/-- The attribution bin of a command; 64 when unbinned (R409). -/
def State.binOf (s : State) (k cmd : Nat) : Nat := ((s.descOf k cmd).map (·.bin)).getD 64
/-- A filter lets a count through: bin of the command, 64 unbinned; an unattributed count passes filter 64 alone (R410). -/
def bankPass (filter : Nat) (attributed : Bool) (b : Nat) : Bool :=
  filter == 64 || (attributed && ((decide (filter < 64) && filter == b) || (filter == 65 && b == 64)))
/-- The counters of a Taster's bank that count an event advance (R410). -/
def State.bankCount (s : State) (k event n : Nat) (b : Option Nat) : State :=
  if n = 0 then s else
  s.each (Tab.range (128 * k) (128 * (k + 1)) s.bank) (fun s e =>
    if e.2.event = event && bankPass e.2.bin b.isSome (b.getD 64) then s.count (uTST k) TST_CNT_COUNT n (e.1 % 128) else s)

end Sys2Proof.Machine
end

