-- ==== Sys2Proof/Machine/DescSlots.lean ====
section
/-! DEFINITION. Commands and descriptor slots as a cluster's replica holds them; commands that go without completing (R210, R211, R233, R368). -/
namespace Sys2Proof.Machine
open Sys2Proof Host

/-- A command as its cluster's replica holds it. -/
def State.rcmd (s : State) (k cmd : Nat) : Option RplCmd := (s.rplOf k).cmds.find? (fun c => c.cmd == cmd)
/-- That command changed. -/
def State.updRcmd (s : State) (k cmd : Nat) (f : RplCmd → RplCmd) : State :=
  s.updRplOf k (fun x => { x with cmds := x.cmds.map (fun c => if c.cmd = cmd then f c else c) })
/-- Empty slot of a descriptor store. -/
def slot0 : Nat → DescSlot := fun _ => ⟨0, []⟩
/-- A slot of the tree (0) or special-function (1) store (R210). -/
def State.slot (s : State) (k kind i : Nat) : DescSlot :=
  let x := s.rplOf k
  Tab.get slot0 (if kind = 0 then x.trees else x.sfns) i
/-- That slot changed. -/
def State.updSlot (s : State) (k kind i : Nat) (d : DescSlot) : State :=
  s.updRplOf k (fun x => if kind = 0 then { x with trees := Tab.put slot0 x.trees i d } else { x with sfns := Tab.put slot0 x.sfns i d })
/-- A tree that a command's descriptor names as it comes: it must be valid (R211). -/
def State.treeAt (s : State) (k i : Nat) : Option TreeDesc :=
  let d := s.slot k 0 i
  if d.state = 1 then some (TreeDesc.ofNat (leNat d.bytes)) else none
/-- A special function that a command's descriptor names as it comes. -/
def State.sfAt (s : State) (k i : Nat) : Option SfDesc :=
  let d := s.slot k 1 i
  if d.state = 1 then some (SfDesc.ofBytes d.bytes) else none
/-- Size of the special-function pool (R210). -/
def poolSize : Nat := 49152
/-- Free runs of a pool, as (offset, length), from its occupied runs in order of offset. -/
def freeRuns : Nat → List (Nat × Nat × Nat) → List (Nat × Nat)
  | at_, [] => if at_ < poolSize then [(at_, poolSize - at_)] else []
  | at_, (_, o, n) :: t => (if at_ < o then [(at_, o - at_)] else []) ++ freeRuns (o + n) t
/-- The first run that holds `n` bytes (assumption 26). -/
def firstFit (pool : List (Nat × Nat × Nat)) (n : Nat) : Option Nat :=
  ((freeRuns 0 pool).find? (fun r => decide (n ≤ r.2))).map (·.1)
/-- TST_DESC_POOL.FREE: the largest free run, saturating (R233). -/
def State.poolFree (s : State) (k : Nat) : Nat := min 65535 (((freeRuns 0 (s.rplOf k).pool).map (·.2)).foldl max 0)
/-- A command in progress names an index: its own function's exponential, for a sampler, among them (R211, R219). -/
def State.named (s : State) (k kind i : Nat) : Bool :=
  (s.rplOf k).cmds.any (fun c => !c.ended && (match s.descOf k c.cmd with
    | some d => if kind = 0 then d.tree == i
        else d.sfn == i || (match c.sf with | some f => f.kind == 2 && f.loval % 256 == i | none => false)
    | none => false))
/-- An invalidated index that nothing names any more becomes free (R211); a local INVAL of it is then complete (R233). -/
def State.freeAt (s : State) (k kind i : Nat) : State :=
  if (s.slot k kind i).state = 2 && !s.named k kind i then
    let s := s.updSlot k kind i ⟨0, []⟩
    let s := if kind = 1 then s.updRplOf k (fun x => { x with pool := x.pool.filter (fun e => e.1 != i) }) else s
    match (s.rplOf k).bcast with
    | some b => if b.inval && b.left.isEmpty && b.kind == kind && b.index == i then
        (s.updRplOf k (fun x => { x with bcast := none })).wr (uTST k) TST_DESC_CTRL_STATUS 0 else s
    | none => s
  else s
/-- Every invalidated index of a Taster that can become free does. -/
def State.freeSlots (s : State) (k : Nat) : State :=
  let x := s.rplOf k
  let s := s.each (x.trees.filter (fun e => e.2.state == 2)) (fun s e => s.freeAt k 0 e.1)
  s.each (x.sfns.filter (fun e => e.2.state == 2)) (fun s e => s.freeAt k 1 e.1)
/-- TST_DESC_CTRL.STATUS: an INVAL reads 1 until its index is free, then 0 (R211, R233). -/
def State.descStatus (s : State) (k : Nat) : Nat := s.rd (uTST k) TST_DESC_CTRL_STATUS
/-- Units that leave a cluster's list; a read of theirs that is still on its way keeps its tag until its last line (R203). -/
def State.unitsOut (s : State) (k : Nat) (gone : RplUnit → Bool) : State :=
  s.updRplOf k (fun x => { x with
    units := x.units.filter (fun u => !gone u), lost := x.lost ++ (x.units.filter gone).filterMap (fun u => u.req.map (·.1)) })
/-- Commands of a cluster go without completing: their units, wherever a rank holds them, and their places in step checks go with them; descriptors that they named
may become free (R188, R211, R368; assumption 24). -/
def State.dropCmds (s : State) (k : Nat) (gone : Nat → Bool) : State :=
  let s := s.updRplOf k (fun x => { x with cmds := x.cmds.filter (fun c => !gone c.cmd) })
  let s := s.each (s.rpl.map (·.1)) (fun s j => s.unitsOut j (fun u => u.home == k && gone u.cmd))
  let s : State := { s with steps := s.steps.map (fun st => { st with cmds := st.cmds.filter (fun g => !(g.cluster == k && gone g.cmd)) }) }
  s.freeSlots k

end Sys2Proof.Machine
end

