-- ==== Sys2Proof/Machine/Draw.lean ====
section
/-! DEFINITION. The draw function and its counter (R446, R447). -/
namespace Sys2Proof

/-- Sum of two 32-bit words. -/
def add32 (a b : Nat) : Nat := (a + b) % 2 ^ 32
/-- A 32-bit word rotated left (R446). -/
def rotl32 (v n : Nat) : Nat := (v * 2 ^ n) % 2 ^ 32 + v / 2 ^ (32 - n)
/-- Word `i` of a 128-bit value. -/
def word32 (x i : Nat) : Nat := x / 2 ^ (32 * i) % 2 ^ 32

/-- The four words of the draw function's state. -/
structure Quad where
  x0 : Nat
  x1 : Nat
  x2 : Nat
  x3 : Nat
  deriving DecidableEq, Repr

/-- Round `r` of R446 under the key words. -/
def drawRound (k : Nat → Nat) (q : Quad) (r : Nat) : Quad :=
  let x0 := add32 (Nat.xor q.x0 (k (r % 4))) (0x9E3779B9 * (r + 1))
  let x1 := Nat.xor q.x1 (k ((1 + r) % 4))
  let x2 := Nat.xor q.x2 (k ((2 + r) % 4))
  let x3 := Nat.xor q.x3 (k ((3 + r) % 4))
  let x0 := add32 x0 x1
  let x3 := rotl32 (Nat.xor x3 x0) 13
  let x2 := add32 x2 x3
  let x1 := rotl32 (Nat.xor x1 x2) 9
  let x0 := add32 x0 x1
  let x3 := rotl32 (Nat.xor x3 x0) 5
  let x2 := add32 x2 x3
  let x1 := rotl32 (Nat.xor x1 x2) 11
  ⟨x1, x2, x3, x0⟩

/-- The draw of a 128-bit counter under a 128-bit key (R446). -/
def drawOf (key c : Nat) : Nat :=
  let q := (List.range 10).foldl (drawRound (word32 key)) ⟨word32 c 0, word32 c 1, word32 c 2, word32 c 3⟩
  add32 q.x0 (word32 key 0) + add32 q.x1 (word32 key 1) * 2 ^ 32 + add32 q.x2 (word32 key 2) * 2 ^ 64
    + add32 q.x3 (word32 key 3) * 2 ^ 96

/-- The counter of a draw (R447). -/
def drawCounter (ctx layer op step index : Nat) : Nat :=
  ctx % 2 ^ 12 * 2 ^ 116 + layer % 2 ^ 16 * 2 ^ 100 + op % 2 ^ 16 * 2 ^ 84 + step % 2 ^ 48 * 2 ^ 36 + index % 2 ^ 36

end Sys2Proof
end

