-- ==== Sys2Proof/Machine/ReplicaCalc.lean ====
section
/-! DEFINITION. The arithmetic of the replica and of the long accumulator: trees, elementwise functions, selections, samplers, the MAYVARY bound (R214, R216, R218, R219, R221-R224). -/
namespace Sys2Proof

/-- An element of a row: format, code, E8M0 scale (0x7F where the format has none). -/
structure El where
  fmt : Nat
  code : Nat
  scale : Nat
  deriving DecidableEq, Repr
/-- The value of an element, its scale included (R161, R162). -/
def El.val (x : El) : FV :=
  if fmtMx x.fmt then (match scaleExp x.scale with
    | some k => (decodeFV x.fmt x.code).scale k
    | none => .nan)
  else decodeFV x.fmt x.code
/-- One rounding in a format (R208). -/
def roundFV (f mode : Nat) (v : FV) : FV := decodeFV f (encodeFV f mode v)
/-- One FP32 rounding to nearest even. -/
def r32 (v : FV) : FV := roundFV 0x01 0 v

/-- Products of two rows: absent where either element is (R214 step 3). -/
def productsOf (w x : List (Option El)) : List (Option FV) :=
  (w.zip x).map (fun p => match p.1, p.2 with
    | some a, some b => some (a.val.mul b.val)
    | _, _ => none)
/-- Exact sum of the present values, none where none is (R214 step 1). -/
def sumPresent (l : List (Option FV)) : Option FV :=
  match l.filterMap id with
  | [] => none
  | a :: as => some (as.foldl FV.add a)
/-- A node: its present children added from left to right, each addition rounded (R214 step 5). -/
def nodeOf (f mode : Nat) (l : List (Option FV)) : Option FV :=
  match l.filterMap id with
  | [] => none
  | a :: as => some (as.foldl (fun a b => roundFV f mode (a.add b)) a)
/-- The root without OUTCONV always presents an addition (R214 step 5). -/
def rootOf (f mode : Nat) (l : List (Option FV)) : Option FV :=
  match l.filterMap id with
  | [] => some (.fin false 0 0)
  | [a] => some (roundFV f mode (a.add (.fin false 0 0)))
  | a :: as => some (as.foldl (fun a b => roundFV f mode (a.add b)) a)
/-- The children of group `g`: contiguous, or strided by the number of groups (R214 step 4). -/
def childrenOf {α : Type} (strided : Bool) (fan groups g : Nat) (l : List α) : List α :=
  if strided then (l.zip (List.range l.length)).filterMap (fun p => if p.2 % groups = g then some p.1 else none)
  else (l.drop (g * fan)).take fan
/-- The levels of a tree in turn, from (fan-in, rounding) pairs (R214). -/
def levelsOf (t : TreeDesc) : Nat → List (Nat × Nat) → List (Option FV) → List (Option FV)
  | _, [], l => l
  | i, (fan, rm) :: rest, l =>
    let groups := (l.length + fan - 1) / fan
    let node := if rest.isEmpty && !t.outconv then rootOf t.accfmt rm else nodeOf t.accfmt rm
    levelsOf t (i + 1) rest ((List.range groups).map (fun g => node (childrenOf (i == 0 && t.order == 1) fan groups g l)))
/-- The tree's result before the output conversion (R214); an MX format of a tree without levels is converted with its block. -/
def treeVal (t : TreeDesc) (prods : List (Option FV)) : FV :=
  let leaf (i : Nat) := sumPresent ((prods.drop (i * t.leaflen)).take t.leaflen)
  let conv (v : FV) := if t.levels = 0 then (if fmtMx t.outfmt then v else roundFV t.outfmt t.leafrm v) else roundFV t.accfmt t.leafrm v
  let leaves := (List.range t.leaves).map (fun i => (leaf i).map conv)
  ((levelsOf t 0 (t.fanin.zip t.rmode) leaves).headD none).getD (.fin false 0 0)
/-- Values converted together into a format: an MX block takes one scale (R209). -/
def convertAll (f mode : Nat) (vs : List FV) : Nat × List Nat :=
  if fmtMx f then
    let x := mxScale f vs
    (x.getD 0xFF, vs.map (mxElem f mode x))
  else (0x7F, vs.map (encodeFV f mode))
/-- The output conversion of a tree (R214 steps 2 and 6). -/
def treeOut (t : TreeDesc) (vs : List FV) : Nat × List Nat :=
  if t.levels = 0 then convertAll t.outfmt t.leafrm vs
  else if t.outconv then convertAll t.outfmt t.outrm vs
  else convertAll t.accfmt 0 vs

/-- A number rounded to an integer in a mode. -/
def roundInt (mode : Nat) (d : Dy) : Int :=
  let m := (roundTo mode d.n.natAbs d.e 0 : Nat)
  if d.n < 0 then -(m : Int) else m
/-- A positive number as m · 2^n with 1 ≤ m < 2: n (R216). -/
def log2Dy (d : Dy) : Int := (Nat.log2 d.n.natAbs : Int) + d.e
/-- The polynomial of segment `sg` at `u`, one rounding a step (R216). -/
def polyAt (f : SfDesc) (sg : Nat) (u : FV) : FV :=
  let c (i : Nat) := f32 (f.coef.getD (sg * (f.deg + 1) + i) 0)
  (List.range f.deg).reverse.foldl (fun p i => r32 ((p.mul u).add (c i))) (c f.deg)
/-- R216 from the reduction to `post`; none for a canonical NaN at once. -/
def elemBody (f : SfDesc) (t : FV) : Option FV :=
  let d := t.dy
  let red : Sum (Option FV) (FV × Int) :=
    if f.redkind = 0 then .inr (t, 0)
    else if f.redkind = 1 then
      let n := roundInt f.nrnd d
      if n < f.nmin then .inl (some (f32 f.loval))
      else if f.nmax < n then .inl (some (f32 f.hival))
      else .inr (t.add (.fin (decide (0 < n)) n.natAbs 0), n)
    else if t.isZero then .inl (some (f32 (match t with | .fin true _ _ => f.zneg | _ => f.zpos)))
    else if d.n < 0 then .inl none
    else
      let n := log2Dy d
      let n := if f.redkind = 3 ∧ n % 2 ≠ 0 then n - 1 else n
      .inr (t.scale (-n), n)
  match red with
  | .inl v => v
  | .inr (u, n) =>
    let sg := ((u.dy.sub (f32 f.u0).dy).mul (Dy.pow2 f.segshift)).floor
    let done (sg : Nat) : Option FV :=
      let p := polyAt f sg u
      some (match f.redkind with
        | 0 => p
        | 1 => r32 (p.scale n)
        | 2 => r32 (p.scale (-n))
        | _ => r32 (p.scale (-(n / 2))))
    if sg < 0 then
      (if f.lomode = 0 then some (f32 f.loval) else if f.lomode = 2 then some u else done 0)
    else if (f.segs : Int) ≤ sg then
      (if f.himode = 0 then some (f32 f.hival) else if f.himode = 2 then some u else done (f.segs - 1))
    else done sg.toNat
/-- The value is subnormal in FP32. -/
def subnormal32 (v : FV) : Bool := v.isFin && !v.isZero && v.dy.abs.lt (Dy.pow2 (-126))
/-- An elementwise function before its output conversion (R216). -/
def elementwise (f : SfDesc) (x0 : FV) : FV :=
  match x0 with
  | .nan => .nan
  | .inf neg => f32 (if neg then f.infneg else f.infpos)
  | .fin neg m e =>
    let x : FV := if f.daz && subnormal32 (.fin neg m e) then .fin neg 0 0 else .fin neg m e
    let t := if f.pre then r32 (x.mul (f32 f.prescale)) else x
    match t with
    | .nan => .nan
    | .inf neg => f32 (if neg then f.infneg else f.infpos)
    | t => match elemBody f t with
      | none => .nan
      | some y => if f.postmul then r32 (x.mul y) else y
/-- The output conversion of an elementwise function. -/
def elemOut (f : SfDesc) (vs : List FV) : Nat × List Nat := convertAll f.outfmt f.outrm vs

/-- Order of two values; NaN is not ordered. -/
def fvLt (a b : FV) : Bool :=
  match a, b with
  | .nan, _ => false
  | _, .nan => false
  | .inf x, .inf y => x && !y
  | .inf x, _ => x
  | _, .inf y => !y
  | .fin n m e, .fin k l g => (FV.dy (.fin n m e)).lt (FV.dy (.fin k l g))
/-- An entry of a selection comes before another: DIR order, NaN last, ties to the lower index (R218). -/
def selBefore (smallest : Bool) (a b : Nat × FV) : Bool :=
  if a.2.isNan then b.2.isNan && decide (a.1 ≤ b.1)
  else if b.2.isNan then true
  else
    let x := if smallest then a.2 else b.2
    let y := if smallest then b.2 else a.2
    if fvLt x y then true else if fvLt y x then false else decide (a.1 ≤ b.1)
/-- The padding entry of R218. -/
def padEntry : Nat × Nat := (0xFFFFFFFF, 0x7FC00000)
/-- The entries of a selection of the elements of a row from the one numbered `lo` on (R218), as (index, FP32 value). -/
def selectFrom (f : SfDesc) (lo : Nat) (row : List (Option El)) : List (Nat × Nat) :=
  let vals := ((List.range row.length).map (lo + ·)).zip (row.map (fun x => match x with | some y => y.val | none => .fin false 0 0))
  let es := ((sortBy (selBefore (f.lomode % 2 == 1)) vals).take f.segs).map (fun p => (p.1, toF32 p.2))
  es ++ List.replicate (f.segs - es.length) padEntry
/-- The entries of a selection of a row (R218). -/
def selectRow (f : SfDesc) (row : List (Option El)) : List (Nat × Nat) := selectFrom f 0 row
/-- Entries of several ranks merged into one selection (R218, R226). -/
def mergeParts (f : SfDesc) (ps : List (List (Nat × Nat))) : List (Nat × Nat) :=
  let es := (ps.flatten.filter (fun e => e != padEntry)).map (fun e => (e.1, f32 e.2))
  let best := ((sortBy (selBefore (f.lomode % 2 == 1)) es).take f.segs).map (fun p => (p.1, toF32 p.2))
  best ++ List.replicate (f.segs - best.length) padEntry
/-- Partial sums of the sampler's weights, rounded (R219). -/
def cumOf : FV → List FV → List FV
  | _, [] => []
  | s, w :: ws => let s' := r32 (s.add w); s' :: cumOf s' ws
/-- The sampler's choice among the entries of a selection output (R219), under its exponential and its draw. -/
def sampleRow (f expfn : SfDesc) (entries : List (Nat × Nat)) (draw : Nat) : Nat × Nat :=
  let live := (entries.take f.segs).takeWhile (fun e => e != padEntry)
  match live with
  | [] => padEntry
  | e0 :: _ =>
    let l0 := f32 e0.2
    let ws := live.map (fun e =>
      let a := r32 ((r32 ((f32 e.2).add l0.neg)).mul (f32 f.prescale))
      roundFV 0x01 expfn.outrm (elementwise expfn a))
    let cum := cumOf (.fin false 0 0) ws
    let last (k : Nat) := cum.getD (k - 1) .nan
    let k := live.length
    let k := if (f32 f.u0).isZero then k
      else
        let lim := r32 ((last k).mul (f32 f.u0))
        match (List.range k).find? (fun j => let c := cum.getD j .nan; !c.isNan && !lim.isNan && !fvLt c lim) with
        | some j => j + 1
        | none => k
    let thr := r32 ((last k).mul (.fin false (draw / 2 ^ 104 % 2 ^ 24) (-24)))
    let i := ((List.range k).find? (fun i => fvLt thr (cum.getD i .nan))).getD (k - 1)
    live.getD i padEntry

/-- A value in the long accumulator: bit b has weight 2^(b - 298); a multiple of 2^-298 loads exactly (R221). -/
def laccLoad (d : Dy) : BitVec 672 := BitVec.ofInt 672 (d.mul (Dy.pow2 298)).floor
/-- One value added, or subtracted (R222). -/
def laccAdd (a : BitVec 672) (d : Dy) : BitVec 672 := a + laccLoad d
def laccSub (a : BitVec 672) (d : Dy) : BitVec 672 := a - laccLoad d
/-- The exact value that it holds, or that value rounded once to FP32 in a mode (R222). -/
def laccRead (a : BitVec 672) : Dy := ⟨a.toInt, -298⟩
def laccRead32 (mode : Nat) (a : BitVec 672) : Nat := encodeFV 0x01 mode (FV.ofDy false (laccRead a))
/-- The long accumulator holds a sum (R222). -/
def laccFits (d : Dy) : Bool := (Dy.neg (Dy.pow2 373)).le d && d.lt (Dy.pow2 373)
/-- What the comparison of a MAYVARY output gives (R223, R224). -/
inductive TolRes where
  | overflow | skip
  | judged (pass : Bool) (bound : Dy)
  deriving DecidableEq, Repr
/-- η of R223: the smallest subnormal of ACCFMT. -/
def etaOf (acc : Nat) : Dy := if acc = 1 then Dy.pow2 (-149) else if acc = 2 then Dy.pow2 (-133) else Dy.pow2 (-24)
/-- u of R223. -/
def uOf (t : TreeDesc) : Dy :=
  let e : Int := if t.accfmt = 1 then -24 else if t.accfmt = 2 then -8 else -11
  Dy.pow2 (if t.rmode.contains 1 || t.leafrm == 1 then e + 1 else e)
/-- h of R223. -/
def hOf (t : TreeDesc) : Nat := if t.mvdepth = 0 then 1 + (t.fanin.map (· - 1)).sum else t.mvdepth
/-- B of R223, from A; none where RU(A) or B is infinite. -/
def boundOf (t : TreeDesc) (a : Dy) : Option Dy :=
  match roundUp32 a with
  | none => none
  | some ra =>
    let h : Dy := ⟨hOf t, 0⟩
    roundUp32 ((((h.mul (uOf t)).mul ⟨1025, -10⟩).mul ra).add (h.mul (etaOf t.accfmt)))
/-- The spacing of a format at a magnitude code, its block's scale included (R224). -/
def spacingOf (x : El) : Dy :=
  let c := x.code % 2 ^ (fmtBits x.fmt - 1)
  let v (c : Nat) := (El.val { x with code := c })
  match numFmt x.fmt with
  | some (.int _ frac) => Dy.mul (Dy.pow2 (-(frac : Int))) (Dy.pow2 (if fmtMx x.fmt then (x.scale : Int) - 127 else 0))
  | _ => if (v (c + 1)).isFin && decide ((v (c + 1)).dy.n ≠ 0) && (v c).dy.lt (v (c + 1)).dy then ((v (c + 1)).dy).sub (v c).dy
         else ((v c).dy).sub (v (c - 1)).dy
/-- The largest magnitude of an element's format under its scale, of a sign: an integer format holds one more below zero than above (R209, R224). -/
def topOf (neg : Bool) (x : El) : Dy :=
  (El.val { x with code := encodeFV x.fmt 1 (.fin neg 1 4096) }).dy.abs
/-- What a MAYVARY output is converted to when a product is not finite: NaN, or the infinity of the sign that occurs (R223). -/
def nonfinite (t : TreeDesc) (ps : List FV) : Nat × List Nat :=
  treeOut t [match ps.foldl FV.add (.fin false 0 0) with
    | .fin _ _ _ => FV.nan
    | v => v]
/-- A MAYVARY output judged against the exact sum of its products (R223, R224). DESIGN CHOICE (assumption 209): R223 gives no order for conditions that hold together: a
product that is not finite is judged first, whatever h · u, then an overflow of the accumulator is told, and then a unit is skipped. -/
def tolerance (t : TreeDesc) (prods : List (Option FV)) (y : El) : TolRes :=
  let ps := prods.filterMap id
  if ps.any (fun v => !v.isFin) then
    let o := nonfinite t ps
    .judged (y.fmt == t.resFmt && y.code == o.2.headD 0 && (!fmtMx y.fmt || y.scale == o.1)) Dy.zero
  else
    let a := Dy.sum (ps.map (fun v => v.dy.abs))
    let sx := Dy.sum (ps.map FV.dy)
    if !laccFits a || !laccFits sx then .overflow
    else if (Dy.pow2 (-11)).lt ((Dy.mul ⟨hOf t, 0⟩ (uOf t))) then .skip
    else match boundOf t a with
      | none => .skip
      | some b =>
        match y.val with
        | .fin _ _ _ =>
          let yv := y.val.dy
          let g := if t.outconv then (let sp := spacingOf y; if t.outrm = 0 then sp.mul (Dy.pow2 (-1)) else sp) else Dy.zero
          let near := ((yv.sub sx).abs).le (b.add g)
          let sat := yv.abs.same (topOf (decide (yv.n < 0)) y) && decide (yv.n ≠ 0) && decide ((yv.n < 0) = (sx.n < 0)) && decide (sx.n ≠ 0)
            && (yv.abs.sub b).le sx.abs
          .judged (near || sat) b
        | _ => .judged false b

end Sys2Proof
end

