-- ==== Sys2Proof/Machine/ReplicaRead.lean ====
section
/-! DEFINITION. Operand records, views, row walks and what one replica unit reads (R198-R202, R205, R206). -/
namespace Sys2Proof

/-- The fields of TS_OPR; XDIV 0 is treated as ECOUNT (R198). -/
def Opr.ofNat (x : Nat) : Opr :=
  let n := bits x 331 308
  let d := bits x 283 260
  ⟨bits x 383 370, bit x 369, bit x 368, bits x 367 332, n, bits x 307 284, if d = 0 then n else d, bits x 259 212, bits x 211 180,
    bits x 179 132, bits x 131 100, bits x 99 52, bits x 51 20, bits x 19 14⟩

/-- What a unit gets from the bytes it has read: a value, a line it still needs, the end of the row, or a stop with its
cause of R206 (7 is a Y block of another operator, R205). -/
inductive Rd (α : Type) where
  | ok (v : α)
  | need (addr : Nat)
  | ended (addr : Nat)
  | stop (cause addr : Nat)
/-- One read after another. -/
def Rd.bind {α β : Type} (x : Rd α) (f : α → Rd β) : Rd β :=
  match x with
  | .ok v => f v
  | .need a => .need a
  | .ended a => .ended a
  | .stop c a => .stop c a
/-- Several reads in order. -/
def Rd.all {α β : Type} (f : α → Rd β) : List α → Rd (List β)
  | [] => .ok []
  | a :: as => (f a).bind (fun v => (Rd.all f as).bind (fun vs => .ok (v :: vs)))

/-- `n` bytes at a view address, little-endian, from the granules that have been read. -/
def rdBytes (got : Tab Nat) (a n : Nat) : Rd Nat :=
  let gs := (List.range ((a % 16 + n + 15) / 16)).map (· + a / 16)
  match gs.find? (fun g => (Tab.find g got).isNone) with
  | some g => .need (16 * g)
  | none =>
    let v := gs.foldr (fun g v => (Tab.find g got).getD 0 + 2 ^ 128 * v) 0
    .ok (v / 2 ^ (8 * (a % 16)) % 2 ^ (8 * n))
/-- Space of a view address (R200). -/
def viewSpace (a : Nat) : Nat := a / 2 ^ 46 % 4
/-- Bytes from one block to the next; in stack memory the trailer's slot of 16 bytes follows (R128, R201). -/
def blockStep (base : Nat) (h : Header) : Nat := 16 + 16 * h.len + (if viewSpace base = 1 then 16 else 0)
/-- Element slots of a block (R201); a format without elements has none to walk. -/
def elemSlots (h : Header) : Option Nat :=
  let n := 16 * h.len
  if (numFmt h.fmt).isNone then none
  else if fmtMx h.fmt then
    let eb := 4 * fmtBits h.fmt
    some (512 * (n / (16 + 16 * eb)) + 32 * ((n % (16 + 16 * eb) - 16) / eb))
  else
    let all := n * 8 / fmtBits h.fmt
    some (if h.sparse then all / 32 * 32 else all)
/-- Entry slots of a selection output's block: 8 bytes each, in FMT 0x3F (R218). -/
def entrySlots (h : Header) : Option Nat := if h.fmt = 0x3F then some (2 * h.len) else none
/-- Where a row lies: its first block, and the address at which its stride ends it; stride 0 does not (assumption 25). -/
structure RowAt where
  base : Nat
  stop : Option Nat
/-- Row `r` of a view (R201). -/
def rowAt (addr stride r : Nat) : RowAt :=
  ⟨addr + r * stride, if stride = 0 then none else some (addr + (r + 1) * stride)⟩
/-- A sampler's input row. DESIGN CHOICE (assumption 25): it is the first block of its view's row, whose payload gives the entries; R219 counts the entries
from "its payload bytes" and does not say that a selection output may span blocks (R201, R218). -/
def entryRow (addr stride r : Nat) : RowAt := ⟨addr + r * stride, some (addr + r * stride + 16)⟩
/-- A header met on a row walk (R206). -/
def walkHeader (got : Tab Nat) (a : Nat) (first : Bool) : Rd Header :=
  (rdBytes got a 16).bind (fun x =>
    let h := Header.ofNat x
    let t := headerTest h none
    if t = 1 ∨ t = 2 ∨ (h.fmt = 0x31 ∧ !first) then .stop 5 a
    else if h.poison then .stop 4 a else .ok h)
/-- The walk to slot `j` of a row: the block's header, the address of its payload and the slot in it. DESIGN CHOICE (assumption 25): a row ends with a
block whose FLAGS.LAST is set, and where the next row begins by its stride; R201 and R206 name a row's end and do not say where it is. -/
def walkTo (got : Tab Nat) (slots : Header → Option Nat) (row : RowAt) : Nat → Nat → Nat → Rd (Header × Nat × Nat)
  | 0, a, _ => .ended a
  | n + 1, a, j =>
    if (match row.stop with | some e => decide (e ≤ a) | none => false) then .ended a
    else (walkHeader got a false).bind (fun h => match slots h with
      | none => .stop 5 a
      | some c =>
        if j < c then .ok (h, a + 16, j)
        else if h.last then .ended a
        else walkTo got slots row n (a + blockStep row.base h) (j - c))
/-- No row holds more blocks than fit in a space. -/
def walkFuel : Nat := 2 ^ 42
/-- Slot `j` of a row: none where the row's bitmap says that its value block is absent (R201). -/
def rowSlot (got : Tab Nat) (slots : Header → Option Nat) (row : RowAt) (j : Nat) : Rd (Option (Header × Nat × Nat)) :=
  if viewSpace row.base = 3 then .stop 6 row.base
  else (walkHeader got row.base true).bind (fun h =>
    if h.fmt = 0x31 then
      let v := j / 32
      if 128 * h.len ≤ v then .ended row.base
      else (rdBytes got (row.base + 16) (v / 8 + 1)).bind (fun m =>
        if bit m v then
          let rank := ((List.range v).filter (fun i => bit m i)).length
          (walkTo got slots row walkFuel (row.base + blockStep row.base h) (32 * rank + j % 32)).bind (fun x => .ok (some x))
        else .ok none)
    else (walkTo got slots row walkFuel row.base j).bind (fun x => .ok (some x)))
/-- The element in a slot of a block (R126). -/
def slotElem (got : Tab Nat) (h : Header) (pay t : Nat) : Rd El :=
  let w := fmtBits h.fmt
  if fmtMx h.fmt then
    let g := pay + t / 512 * (16 + 64 * w)
    let b := t % 512 / 32
    let i := t % 32
    (rdBytes got (g + b) 1).bind (fun sc =>
      let at_ := g + 16 + b * (4 * w)
      (rdBytes got (at_ + i * w / 8) (if w = 6 ∧ i * w % 8 ≠ 0 ∧ 2 < i * w % 8 then 2 else 1)).bind (fun x =>
        .ok ⟨h.fmt, x / 2 ^ (i * w % 8) % 2 ^ w, sc⟩))
  else (rdBytes got (pay + t * w / 8) ((w + 7) / 8)).bind (fun x => .ok ⟨h.fmt, x / 2 ^ (t * w % 8) % 2 ^ w, 0x7F⟩)
/-- Element `j` of a row, none where absent (R201); a row that ends before it is malformed (R206). -/
def rowElem (got : Tab Nat) (row : RowAt) (j : Nat) : Rd (Option El) :=
  match rowSlot got elemSlots row j with
  | .ok none => .ok none
  | .ok (some (h, pay, t)) => (slotElem got h pay t).bind (fun x => .ok (some x))
  | .need a => .need a
  | .ended a => .stop 5 a
  | .stop c a => .stop c a
/-- Elements `lo` to `hi - 1` of a row. -/
def rowElems (got : Tab Nat) (row : RowAt) (lo hi : Nat) : Rd (List (Option El)) :=
  Rd.all (rowElem got row) ((List.range (hi - lo)).map (· + lo))
/-- The first entries of a selection output, at most `n`, fewer where the row ends (R218, R219). -/
def rowEntries (got : Tab Nat) (row : RowAt) : Nat → Nat → Rd (List (Nat × Nat))
  | 0, _ => .ok []
  | n + 1, i =>
    match rowSlot got entrySlots row i with
    | .ok none => .stop 5 row.base
    | .ok (some (_, pay, t)) => (rdBytes got (pay + 8 * t) 8).bind (fun x =>
        (rowEntries got row n (i + 1)).bind (fun l => .ok ((x % 2 ^ 32, x / 2 ^ 32) :: l)))
    | .need a => .need a
    | .ended _ => .ok []
    | .stop c a => .stop c a
/-- The header of the Y block that holds a slot, the bitmap where the slot is absent; one of another operator or context stops the unit (R205). -/
def yBlock (got : Tab Nat) (slots : Header → Option Nat) (row : RowAt) (j ctx layer op : Nat) : Rd Header :=
  let mine (h : Header) (a : Nat) : Rd Header := if h.ctx = ctx ∧ h.layer = layer ∧ h.op = op then .ok h else .stop 7 a
  match rowSlot got slots row j with
  | .ok none => (walkHeader got row.base true).bind (fun h => mine h (row.base + 16))
  | .ok (some (h, pay, _)) => mine h pay
  | .need a => .need a
  | .ended a => .stop 5 a
  | .stop c a => .stop c a

/-- Format of a job's output elements. -/
def Job.outFmt : Job → Nat
  | .dot t => t.resFmt
  | .fused _ f => f.outfmt
  | .elem f => f.outfmt
  | _ => 0x3F
/-- The format whose MX blocks a job evaluates together: that of its output, or that into which a fused command's tree of one leaf converts (R209, R214). -/
def Job.blockFmt : Job → Nat
  | .fused t f => if t.levels = 0 ∧ fmtMx t.outfmt then t.outfmt else f.outfmt
  | j => j.outFmt
/-- The results of a tree for the outputs evaluated together, as values: an MX format of a tree without levels is converted with its block (R209, R214). -/
def treeFVs (t : TreeDesc) (ps : List (List (Option FV))) : List FV :=
  if t.levels = 0 ∧ fmtMx t.outfmt then
    let r := treeOut t (ps.map (treeVal t))
    r.2.map (fun c => El.val ⟨t.outfmt, c, r.1⟩)
  else ps.map (treeVal t)
/-- The outputs that unit `e` evaluates together: its whole MX block of the Y row, or itself (R209, R220). -/
def outsOf (o : Opr) (fmt e : Nat) : List Nat :=
  if fmtMx fmt then
    let d := max 1 o.xdiv
    let lo := e / d * d + e % d / 32 * 32
    (List.range (min 32 (min (e / d * d + d) o.ecount - lo))).map (· + lo)
  else [e]
/-- X row that goes with output `e`. -/
def xRow (o : Opr) (e : Nat) : RowAt := rowAt o.xaddr o.xstride (e / max 1 o.xdiv)
/-- The X elements that a unit needs: the whole row, one element an output, or a selection's input (R202). -/
def xRead (got : Tab Nat) (o : Opr) (j : Job) (e : Nat) : Rd (List (Option El) × List (Nat × Nat)) :=
  match j with
  | .elem f => (Rd.all (fun i => rowElem got (xRow o i) (i % max 1 o.xdiv)) (outsOf o f.outfmt e)).bind (fun l => .ok (l, []))
  | .sel _ => (rowElems got (rowAt o.xaddr o.xstride e) 0 o.kred).bind (fun l => .ok (l, []))
  | .samp f _ _ => (rowEntries got (entryRow o.xaddr o.xstride e) f.segs 0).bind (fun l => .ok ([], l))
  | _ => (rowElems got (xRow o e) 0 o.kred).bind (fun l => .ok (l, []))
/-- W row of output `e`; transposed, W[e][j] is element e of row j (R198). -/
def wRead (got : Tab Nat) (o : Opr) (e : Nat) : Rd (List (Option El)) :=
  if o.wt then Rd.all (fun j => rowElem got (rowAt o.waddr o.wstride j) e) (List.range o.kred)
  else rowElems got (rowAt o.waddr o.wstride e) 0 o.kred
/-- What the replica makes of a unit's inputs: the products of its own output (none but for a dot product), and the value
that it compares (R202, R214, R216, R218, R219). -/
structure Done where
  prods : List (Option FV)
  val : CaseVal
/-- The output of the unit among those evaluated together. -/
def pickOut (outs : List Nat) (e : Nat) (r : Nat × List Nat) : CaseVal :=
  let i := ((outs.zip (List.range outs.length)).find? (fun p => p.1 == e)).map (·.2)
  .elem (BitVec.ofNat 32 (r.2.getD (i.getD 0) 0)) (BitVec.ofNat 8 r.1)
/-- An entry list as a row value. -/
def rowVal (es : List (Nat × Nat)) : CaseVal := .row (es.map (fun p => (BitVec.ofNat 32 p.1, BitVec.ofNat 32 p.2)))
/-- The replica's result for output `e` of a command. -/
def jobResult (got : Tab Nat) (o : Opr) (j : Job) (e : Nat) : Rd Done :=
  (xRead got o j e).bind (fun x =>
    let outs := outsOf o j.blockFmt e
    let prods (w : List (Option El)) := productsOf w x.1
    match j with
    | .dot t => (Rd.all (wRead got o) outs).bind (fun ws =>
        let ps := ws.map prods
        .ok ⟨((outs.zip ps).find? (fun p => p.1 == e)).map (·.2) |>.getD [], pickOut outs e (treeOut t (ps.map (treeVal t)))⟩)
    | .fused t f => (Rd.all (wRead got o) outs).bind (fun ws =>
        .ok ⟨[], pickOut outs e (elemOut f ((treeFVs t (ws.map prods)).map (elementwise f)))⟩)
    | .elem f => .ok ⟨[], pickOut outs e (elemOut f (x.1.map (fun v => elementwise f (match v with | some y => y.val | none => .fin false 0 0))))⟩
    | .sel f => .ok ⟨[], rowVal (selectRow f x.1)⟩
    | .samp f g d => .ok ⟨[], rowVal [sampleRow f g x.2 d]⟩)
/-- The host's result for output `e`, under the header of its block (R202, R205). An absent element of a sparse row is a zero of the command's result format,
with the scale that a block of zeros takes (R201, R209). -/
def hostResult (got : Tab Nat) (o : Opr) (j : Job) (e ctx layer op : Nat) : Rd (El × CaseVal) :=
  match j with
  | .sel f =>
    let row := rowAt o.yaddr o.ystride e
    (yBlock got entrySlots row 0 ctx layer op).bind (fun _ =>
      (rowEntries got row f.segs 0).bind (fun l => if l.length < f.segs then .stop 5 row.base else .ok (⟨0x3F, 0, 0x7F⟩, rowVal l)))
  | .samp _ _ _ =>
    let row := rowAt o.yaddr o.ystride e
    (yBlock got entrySlots row 0 ctx layer op).bind (fun _ =>
      (rowEntries got row 1 0).bind (fun l => if l.isEmpty then .stop 5 row.base else .ok (⟨0x3F, 0, 0x7F⟩, rowVal l)))
  | _ =>
    let row := rowAt o.yaddr o.ystride (e / max 1 o.xdiv)
    let c := e % max 1 o.xdiv
    (yBlock got elemSlots row c ctx layer op).bind (fun _ =>
      (rowElem got row c).bind (fun v =>
        let x := v.getD ⟨j.outFmt, 0, if fmtMx j.outFmt then 0 else 0x7F⟩
        .ok (x, .elem (BitVec.ofNat 32 x.code) (BitVec.ofNat 8 x.scale))))

end Sys2Proof
end

