-- ==== Sys2Proof/Machine/Reports.lean ====
section
/-! DEFINITION. The 128-bit reports of a Tap and the values of its captures (R79, R164, R187, R238). -/
namespace Sys2Proof

/-- An alarm of RKIND 1-5 in the layout of R187: command, physical core, RKIND, predicted and observed residue, position, issue sequence number,
accumulator index, discard port (7 where none). -/
def Alarm.make (cmd core rkind pred obs pos seq idx port : Nat) (cap : Capture) : Alarm :=
  ⟨BitVec.ofNat 14 cmd ++ BitVec.ofNat 10 core ++ BitVec.ofNat 4 rkind ++ BitVec.ofNat 13 pred ++ BitVec.ofNat 13 obs ++ BitVec.ofNat 14 pos
    ++ BitVec.ofNat 8 seq ++ BitVec.ofNat 6 idx ++ BitVec.ofNat 3 port ++ 0#43, cap⟩
/-- CMDID of an alarm. -/
def Alarm.cmd (a : Alarm) : Nat := (a.report.extractLsb' 114 14).toNat
/-- Its physical core. -/
def Alarm.core (a : Alarm) : Nat := (a.report.extractLsb' 104 10).toNat
/-- Its RKIND. -/
def Alarm.rkind (a : Alarm) : Nat := (a.report.extractLsb' 100 4).toNat
/-- Its predicted residue. -/
def Alarm.pred (a : Alarm) : Nat := (a.report.extractLsb' 87 13).toNat
/-- Its observed residue. -/
def Alarm.obs (a : Alarm) : Nat := (a.report.extractLsb' 74 13).toNat
/-- Its position. -/
def Alarm.pos (a : Alarm) : Nat := (a.report.extractLsb' 60 14).toNat
/-- TP_ISS_SEQ of the unit's first product. -/
def Alarm.seq (a : Alarm) : Nat := (a.report.extractLsb' 52 8).toNat
/-- Its accumulator index. -/
def Alarm.idx (a : Alarm) : Nat := (a.report.extractLsb' 46 6).toNat
/-- Its discard port. -/
def Alarm.port (a : Alarm) : Nat := (a.report.extractLsb' 43 3).toNat

/-- A count in a field of `w` bits, saturating. -/
def satField (w x : Nat) : BitVec w := BitVec.ofNat w (min x (2 ^ w - 1))
/-- A summary in the layout of R187: the units covered, rotated out and dropped, the products skipped under R167, the discard
presentations checked, the largest q, closure made and passed, PRIV incomplete, mismatches; and the sums of the pair report. -/
def Summary.make (cmd core covered rotated dropped skipped dsc q : Nat) (closure incomplete : Bool) (mism so ss : Nat) : Summary :=
  ⟨BitVec.ofNat 14 cmd ++ BitVec.ofNat 10 core ++ 0#4 ++ satField 16 covered ++ satField 16 rotated ++ satField 8 dropped ++ satField 12 skipped
    ++ satField 12 dsc ++ satField 3 q ++ BitVec.ofBool closure ++ BitVec.ofBool incomplete ++ satField 8 mism ++ 0#23, so, ss⟩
/-- CMDID of a summary. -/
def Summary.cmd (y : Summary) : Nat := (y.report.extractLsb' 114 14).toNat
/-- Units covered. -/
def Summary.covered (y : Summary) : Nat := (y.report.extractLsb' 84 16).toNat
/-- Units rotated out. -/
def Summary.rotated (y : Summary) : Nat := (y.report.extractLsb' 68 16).toNat
/-- Units dropped. -/
def Summary.dropped (y : Summary) : Nat := (y.report.extractLsb' 60 8).toNat
/-- Products skipped. -/
def Summary.skipped (y : Summary) : Nat := (y.report.extractLsb' 48 12).toNat
/-- Discard presentations checked. -/
def Summary.dsc (y : Summary) : Nat := (y.report.extractLsb' 36 12).toNat
/-- Largest q used. -/
def Summary.q (y : Summary) : Nat := (y.report.extractLsb' 33 3).toNat
/-- The closure was made and passed. -/
def Summary.closure (y : Summary) : Bool := y.report.getLsbD 32
/-- A PRIV invocation is incomplete (R185). -/
def Summary.incomplete (y : Summary) : Bool := y.report.getLsbD 31
/-- Mismatches. -/
def Summary.mism (y : Summary) : Nat := (y.report.extractLsb' 23 8).toNat

/-- The exact scaled value of a product whose elements and scales are all finite (R161, R162, R164). -/
def capVal (c : CapProd) : Option Dy :=
  match decodeDy c.fmtA c.a, decodeDy c.fmtX c.x, scaleExp c.sa, scaleExp c.sx with
  | some a, some x, some ea, some ex => some ((a.mul x).mul (Dy.pow2 (ea + ex)))
  | _, _, _, _ => none

/-- Slots of 8 bits that an element takes on an operand bus (R79); a code outside R79 is given one (DESIGN CHOICE, assumption 208: its products are not checked, R81). -/
def fmtSlots (f : Nat) : Nat := if f = 0x01 then 4 else if f = 0x02 ∨ f = 0x03 then 2 else 1
/-- The element code of lane `i` on an operand bus: slots k·i to k·i + k - 1, lowest byte first, right-aligned (R79). -/
def laneCode (bus f i : Nat) : Nat := bus / 2 ^ (8 * fmtSlots f * i) % 2 ^ fmtBits f
/-- Lanes that a product enters in an issue cycle, ascending (R80). -/
def IssueCycle.lanes (iss : IssueCycle) : List Nat := (List.range 64).filter (fun i => iss.valid.getLsbD i)
/-- The product of a lane, `off` cycles after the first of its accumulation; the scales are those of the lane's half (R80). -/
def IssueCycle.prod (iss : IssueCycle) (i off : Nat) : CapProd :=
  let half := if i < 32 then 0 else 8
  ⟨i, laneCode iss.codeA.toNat iss.fmtA.toNat i, laneCode iss.codeX.toNat iss.fmtX.toNat i, iss.fmtA.toNat, iss.fmtX.toNat, min off 255,
    iss.acc.toNat / 2 ^ (6 * i) % 64, iss.scA.toNat / 2 ^ half % 256, iss.scX.toNat / 2 ^ half % 256⟩

/-- The operand Q of a rounding step, from the finite values that it presents (R85); the product is that of KIND 2. -/
def stepQ (kind : Nat) (pres : DscPres) (prod : Dy) : Dy :=
  if kind = 0 then (decodeDy 0x01 pres.b.toNat).getD Dy.zero else if kind = 1 then (decodeDy 0x01 pres.a.toNat).getD Dy.zero else prod
/-- The exact value E of a rounding step (R85, R171). -/
def stepE (kind : Nat) (pres : DscPres) (prod : Dy) : Dy :=
  if kind = 0 then ((decodeDy 0x01 pres.a.toNat).getD Dy.zero).add (stepQ kind pres prod) else stepQ kind pres prod

end Sys2Proof
end

