-- ==== Sys2Proof/Machine/Reference.lean ====
section
/-! DEFINITION. References of adjudication cases: what a Taster recomputes from the held inputs (R244, R245, R604). -/
namespace Sys2Proof

/-- A captured product with its sign, also of zero (R161, R162). -/
def capFV (c : CapProd) : FV :=
  ((El.val ⟨c.fmtA, c.a, c.sa⟩).mul (El.val ⟨c.fmtX, c.x, c.sx⟩)).scale
    ((if fmtMx c.fmtA then 0 else (scaleExp c.sa).getD 0) + if fmtMx c.fmtX then 0 else (scaleExp c.sx).getD 0)
/-- The exact value E of a presented step, with its sign (R85). -/
def stepFV (pres : DscPres) (prod : Option CapProd) : FV :=
  if pres.kind = 0 then (f32 pres.a.toNat).add (f32 pres.b.toNat)
  else if pres.kind = 1 then f32 pres.a.toNat
  else match prod with
    | some c => capFV c
    | none => .nan
/-- The scale that a step's result carries as a power of two: that of an MX format, in TP_DSC_B (R84, R171). -/
def stepScale (pres : DscPres) : Int := if fmtMx pres.sfmt.toNat then (scaleExp (pres.b.toNat % 256)).getD 0 else 0
/-- S of a step rounded in a mode (R208, R209). -/
def stepS (mode : Nat) (pres : DscPres) (e : FV) : Nat := encodeFV pres.sfmt.toNat mode (e.scale (-(stepScale pres)))
/-- The rounding mode of the reference of a rounding step: the one the command's tree names for the step, else the one that gives S,
nearest even first (R604). -/
def stepMode (t : Option TreeDesc) (pres : DscPres) (prod : Option CapProd) : Nat :=
  let tag := pres.tag.toNat
  match t with
  | some t =>
    if pres.kind = 2 ∨ (tag < t.leaves ∧ pres.kind = 1) then t.leafrm
    else if pres.kind = 1 then t.outrm
    else
      let base (l : Nat) := (t.counts.take l).sum
      (((List.range t.levels).find? (fun l => decide (base (l + 1) ≤ tag ∧ tag < base (l + 2)))).map (fun l => t.rmode.getD l 0)).getD 0
  | none =>
    let e := stepFV pres prod
    if stepS 1 pres e = pres.s.toNat ∧ stepS 0 pres e ≠ pres.s.toNat then 1 else 0
/-- The correct S and D of a rounding step (R208, R209, R245). -/
def stepTruth (mode : Nat) (pres : DscPres) (prod : Option CapProd) : CaseVal :=
  let e := stepFV pres prod
  let s := stepS mode pres e
  .step (BitVec.ofNat 32 s) (e.dy.sub (((decodeDy pres.sfmt.toNat s).getD Dy.zero).mul (Dy.pow2 (stepScale pres))))
/-- The reference of held inputs (R245): an accumulation's exact sum, a step's S and D, a unit re-executed; of a MAYVARY unit the exact sum Sx, or what R223 gives
where a product is not finite. -/
def heldRef (mayvary : Bool) : Held → Option CaseVal
  | .none => none
  | .acc prods _ _ _ => some (.exact (Dy.sum (prods.filterMap capVal)))
  | .step _ pres prod mode => some (stepTruth mode pres prod)
  | .unit job o e got => match jobResult got o job e with
    | .ok r =>
      if !mayvary then some r.val
      else
        let ps := r.prods.filterMap id
        match job with
        | .dot t =>
          if ps.any (fun v => !v.isFin) then
            let x := nonfinite t ps
            some (.elem (BitVec.ofNat 32 (x.2.headD 0)) (BitVec.ofNat 8 x.1))
          else some (.exact (Dy.sum (ps.map FV.dy)))
        | _ => some r.val
    | _ => none

/-- Bits of a repeat record's header: KIND, COUNT, FMT_A, FMT_X, SA, SX, ACC, PORT, TAG (R244). -/
def recordHead (kind count fmtA fmtX sa sx acc port tag : Nat) : List Byte :=
  leBytes 1 kind ++ leBytes 1 count ++ leBytes 1 fmtA ++ leBytes 1 fmtX ++ leBytes 1 sa ++ leBytes 1 sx ++ leBytes 1 acc ++ leBytes 1 port
    ++ leBytes 2 tag ++ leBytes 6 0
/-- A product entry of a repeat record (R244); its code fields take the low 8 bits (assumption 185). -/
def recordEntry (c : CapProd) : List Byte := leBytes 8 (c.a % 256 + c.x % 256 * 2 ^ 8 + c.lane % 64 * 2 ^ 16 + c.off % 256 * 2 ^ 22)
/-- TS_OPR's 384 bits of an operand record (R198). -/
def Opr.toNat (o : Opr) : Nat :=
  o.cmd % 2 ^ 14 * 2 ^ 370 + (if o.gated then 2 ^ 369 else 0) + (if o.wt then 2 ^ 368 else 0) + o.ebase % 2 ^ 36 * 2 ^ 332 + o.ecount % 2 ^ 24 * 2 ^ 308
    + o.kred % 2 ^ 24 * 2 ^ 284 + o.xdiv % 2 ^ 24 * 2 ^ 260 + o.xaddr % 2 ^ 48 * 2 ^ 212 + o.xstride % 2 ^ 32 * 2 ^ 180 + o.waddr % 2 ^ 48 * 2 ^ 132
    + o.wstride % 2 ^ 32 * 2 ^ 100 + o.yaddr % 2 ^ 48 * 2 ^ 52 + o.ystride % 2 ^ 32 * 2 ^ 20 + o.gregion % 2 ^ 6 * 2 ^ 14
/-- Size of a cluster's adjudication scratch (R240). -/
def scratchSize : Nat := 262144
/-- Where the views of a repeat record lie in the scratch: X, W and Y, each in 64 KiB of it (assumption 185). -/
def scratchX : Nat := 65536
def scratchW : Nat := 131072
def scratchY : Nat := 196608
/-- Start of the rows of a unit's X, W and Y views that it reads, at 16 bytes. -/
def unitRows (job : Job) (o : Opr) (e : Nat) : Nat × Nat × Nat :=
  let row := e / max 1 o.xdiv
  let own := match job with | .sel _ => e | .samp _ _ _ => e | _ => row
  ((o.xaddr + own * o.xstride) / 16, (o.waddr + e * o.wstride) / 16, (o.yaddr + own * o.ystride) / 16)
/-- The 16-byte granules of a byte string, numbered from 0. -/
def granules (bs : List Byte) : List (Nat × Nat) := (List.range ((bs.length + 15) / 16)).map (fun i => (i, leAt bs (16 * i) 16))
/-- Granules that a unit has read, from a row's start on, at their distance from it in a view of the scratch (R244; assumption 185). -/
def copyRow (got : Tab Nat) (row view : Nat) : List (Nat × Nat) :=
  (got.filter (fun g => decide (row ≤ g.1 ∧ g.1 < row + 4096))).map (fun g => (view / 16 + (g.1 - row), g.2))
/-- A row whose element 0 is a given one: a block of one element slot, or of one MX block (R126, R201). -/
def elemRow (x : El) : List Byte :=
  let n := if fmtMx x.fmt then 1 + fmtBits x.fmt * 4 / 16 + (if fmtBits x.fmt * 4 % 16 = 0 then 0 else 1) else 1
  Header.bytes ⟨x.fmt, 16, 0, 0, 0, 0, 0, 0, n, 0⟩ ++ (if fmtMx x.fmt then leBytes 16 x.scale else []) ++ leBytes (16 * (if fmtMx x.fmt then n - 1 else n)) x.code
/-- The element in a slot of a sparse row that is absent. -/
def zeroEl : El := ⟨0x01, 0, 0x7F⟩
/-- X in the scratch, so that output 0 of the record is the unit: the element of an elementwise unit in a row of its own, else the row that it read. -/
def viewX (job : Job) (o : Opr) (e : Nat) (got : Tab Nat) : List (Nat × Nat) :=
  let at_ (view : Nat) (bs : List Byte) := (granules bs).map (fun g => (view / 16 + g.1, g.2))
  match job with
  | .elem _ => (match rowElem got (xRow o e) (e % max 1 o.xdiv) with
    | .ok v => at_ scratchX (elemRow (v.getD zeroEl))
    | _ => [])
  | _ => copyRow got (unitRows job o e).1 scratchX
/-- W in the scratch: of a transposed W, element e of each row j in a row of its own, 64 bytes apart, else the row that it read. -/
def viewW (job : Job) (o : Opr) (e : Nat) (got : Tab Nat) : List (Nat × Nat) :=
  let rows := match wRead got o e with
    | .ok vs => (vs.zip (List.range vs.length)).flatMap (fun p => (granules (elemRow (p.1.getD zeroEl))).map (fun g => (scratchW / 16 + 4 * p.2 + g.1, g.2)))
    | _ => []
  match job with
  | .elem _ => []
  | .sel _ => []
  | .samp _ _ _ => []
  | _ => if o.wt then (if o.kred ≤ 1024 then rows else []) else copyRow got (unitRows job o e).2.1 scratchW
/-- The operand record of KIND 5: one element, its views in the scratch (R244). -/
def unitOpr (base cmd : Nat) (o : Opr) (e : Nat) : Opr :=
  { o with cmd := cmd, gated := false, ebase := o.ebase + e, ecount := 1, xdiv := 1, gregion := 0, wstride := if o.wt then 64 else o.wstride
           xaddr := base + scratchX, waddr := base + scratchW, yaddr := base + scratchY }
/-- A unit can be repeated by itself: it is the only output of its MX block, and the views in the scratch give the record's output 0 (R209, R244). -/
def unitFits (base : Nat) (job : Job) (o o' : Opr) (e : Nat) (vs : List (Nat × Nat)) : Bool :=
  (outsOf o job.blockFmt e).length == 1 &&
    (match jobResult (vs.foldl (fun m v => Tab.insert (base / 16 + v.1) v.2 m) []) o' job 0 with | .ok _ => true | _ => false)
/-- A repeat record, and the granules of the views that go with it, from the held inputs of a case; none where no record can hold them (R244; assumptions 183,
185). `base` is the scratch of cluster `k` as a view address. -/
def repeatRecord (base cmd : Nat) : Held → Option (List Byte × List (Nat × Nat))
  | .none => none
  | .acc prods idx sa sx => match prods with
    | [] => none
    | p :: _ =>
      if prods.all (fun q => q.fmtA == p.fmtA && q.fmtX == p.fmtX) then
        some (recordHead 1 prods.length p.fmtA p.fmtX sa sx idx 0 0 ++ prods.flatMap recordEntry, [])
      else none
  | .step port pres prod _ =>
    if pres.kind = 2 then prod.map (fun p => (recordHead 2 1 p.fmtA p.fmtX p.sa p.sx p.acc port pres.tag.toNat ++ recordEntry { p with off := 0 }, []))
    else some (recordHead (if pres.kind = 0 then 3 else 4) 0 0 0 0 0 0 port pres.tag.toNat ++ leBytes 4 pres.a.toNat ++ leBytes 4 pres.b.toNat, [])
  | .unit job o e got =>
    let o' := unitOpr base cmd o e
    let vs := viewX job o e got ++ viewW job o e got
    if unitFits base job o o' e vs then some (recordHead 5 0 0 0 0 0 0 0 0 ++ leBytes 48 o'.toNat, vs) else none
/-- Held inputs as the bytes of a request to a neighbour (R247; assumption 187: their form). -/
def heldBytes : Held → List Byte
  | .none => []
  | .acc prods idx sa sx => leBytes 1 1 ++ leBytes 1 idx ++ leBytes 1 sa ++ leBytes 1 sx ++ prods.flatMap (fun c =>
      leBytes 1 c.fmtA ++ leBytes 1 c.fmtX ++ leBytes 4 c.a ++ leBytes 4 c.x)
  | .step port pres prod mode => leBytes 1 2 ++ leBytes 1 port ++ leBytes 1 mode ++ leBytes 1 pres.kind.toNat ++ leBytes 2 pres.tag.toNat
      ++ leBytes 4 pres.a.toNat ++ leBytes 4 pres.b.toNat ++ leBytes 4 pres.s.toNat ++ leBytes 1 pres.sfmt.toNat
      ++ (match prod with | some c => leBytes 1 c.fmtA ++ leBytes 1 c.fmtX ++ leBytes 4 c.a ++ leBytes 4 c.x ++ leBytes 1 c.sa ++ leBytes 1 c.sx | none => [])
  | .unit _ o e got => leBytes 1 3 ++ leBytes 48 o.toNat ++ leBytes 4 e ++ got.flatMap (fun g => leBytes 6 (16 * g.1) ++ leBytes 16 g.2)

end Sys2Proof
end

