-- ==== Sys2Proof/Machine/Cases.lean ====
section
/-! DEFINITION. Adjudication cases: opening, neighbours, closing, and verdicts on their way to a Hall (R236-R252). -/
namespace Sys2Proof.Machine
open Sys2Proof Host

/-- Equal values of a case (R249): numbers by value, rounding steps as the pair (S, D), the rest bit for bit. -/
def CaseVal.same : CaseVal → CaseVal → Bool
  | .exact a, .exact b => a.same b
  | .step s a, .step t b => s == t && a.same b
  | .elem a x, .elem b y => a == b && x == y
  | .row a, .row b => a == b
  | _, _ => false
/-- SOURCE of a history entry and a verdict event (R255). -/
def sourceOf : CaseKind → Nat
  | .residue _ => 1
  | .replica => 2
  | .atomic => 3
  | .mayvary => 4
/-- The unit an inconclusive case is recorded against: the core, or the Tap for RKIND 2-4 (R250). -/
def caseUnit (k : Nat) (c : Case) : Nat :=
  match c.kind with
  | .residue rk => if 2 ≤ rk ∧ rk ≤ 4 then puTap k c.core else puCore k c.core
  | _ => puCore k c.core

/-- A case of a Taster, by its number. -/
def State.caseOf (s : State) (h no : Nat) : Option Case := (s.adjOf h).cases.find? (fun c => c.no == no)
/-- A case of a Taster changed. -/
def State.updCase (s : State) (h no : Nat) (f : Case → Case) : State :=
  s.updAdjOf h (fun a => { a with cases := a.cases.map (fun c => if c.no = no then f c else c) })
/-- Recomputes that a Taster serves for others now (R246). -/
def State.serving (s : State) (t : Nat) : Nat :=
  ((s.adj.flatMap (fun e => e.2.cases)).filter (fun c => c.asked == some t && c.t2p.isSome)).length

/-- Field across the nearest region boundary in the same column (R246 candidate 1). -/
def boundaryField (f : Nat) : Option Nat :=
  let g := Config.host
  if g.row f % 2 = 1 then (if g.row f + 1 < g.rows then some (f + 1) else none)
  else if g.row f = 0 then none else some (f - 1)
/-- The candidates of R246 for a cluster, in order; the fourth kind, which the Hall names, is every Taster in order of
number, those of other regions first (assumption 23). -/
def neighbours (k : Nat) : List Nat :=
  let g := Config.host
  let f := fieldOfCluster k
  let j := k % 10
  let c1 := match boundaryField f with | some x => [10 * x + j] | none => []
  let c2 := [10 * (if g.col f + 1 < g.cols then f + g.rows else f - g.rows) + j]
  let c3 := ((g.fieldsOf (g.region f)).filter (· != f)).map (fun x => 10 * x + j)
  let rest := (List.range g.clusters).filter (fun x => x != k)
  c1 ++ c2 ++ c3 ++ rest.filter (fun x => regionOfCluster x != g.region f) ++ rest.filter (fun x => regionOfCluster x == g.region f)
/-- A candidate that meets every condition of R246. -/
def State.goodNeighbour (s : State) (t : Nat) : Bool :=
  let r := regionOfCluster t
  s.tstTrusted t && (s.adjOf t).adopted.isNone && decide (s.serving t < 4)
    && s.rd (uHAL r) HAL_THM_STAT_LEVEL == 0 && decide (s.rd (uHAL r) HAL_THM_STAT_BAND < 4)
/-- The neighbour Taster for a cluster's case, those already asked left out (R246, R247). -/
def State.neighbour (s : State) (k : Nat) (asked : List Nat) : Option Nat :=
  let cs := (neighbours k).filter (fun t => s.tstTrusted t && !asked.contains t)
  match cs.find? (fun t => s.goodNeighbour t) with
  | some t => some t
  | none => cs.head?
/-- TYPE of the class 2 packets that carry a case's held inputs: neither a marker's nor the relay's (assumption 187). -/
def heldType : Nat := Config.imageVal 0x247 0 % 125 + 1
/-- Bytes in runs of at most `n`. -/
def runsOf (n : Nat) : Nat → List Byte → List (List Byte)
  | 0, _ => []
  | k + 1, bs => if bs.isEmpty then [] else bs.take n :: runsOf n k (bs.drop n)
/-- Held inputs travel to a neighbour: as class 2 Stair packets where they fit in 1 KiB, else as a bulk transfer (R43, R247). -/
def State.sendHeld (s : State) (h t no : Nat) (x : Held) : State :=
  let bs := leBytes 4 no ++ heldBytes x
  if bs.length ≤ 1024 then
    let a := unitPort (puTst h)
    let b := unitPort (puTst t)
    s.each (runsOf 64 16 bs) (fun s c => s.unicast 2 a.1 a.2 b.1 b.2 0 heldType 0 ((runsOf 8 8 c).map (fun w => BitVec.ofNat 64 (leNat w))))
  else s.bulk (puTst h) (puTst t) bs
/-- A case's request to its next neighbour, with its held inputs; none is left: t2 is absent (R247). -/
def State.askNeighbour (s : State) (h no : Nat) (asked : List Nat) : State :=
  match s.caseOf h no with
  | none => s
  | some c => match s.neighbour c.cluster (h :: asked) with
    | none => s.updCase h no (fun c => { c with asked := none, t2 := .absent })
    | some t => (s.updCase h no (fun c => { c with asked := some t })).sendHeld h t no c.held

/-- A write of a 64-byte line at a cluster's replica read port: the network interface takes it only into the scratch, and ends any other with TS_RR_ERR = 2 (R240). -/
def State.scratchWrite (s : State) (k addr : Nat) (data : BitVec 512) : State × Nat :=
  let base := k * 2 ^ 24 + s.variant.scratch
  if base ≤ addr ∧ addr + 64 ≤ base + scratchSize then
    let g := (addr - base) / 16
    ((s.updRplOf k (fun x => { x with scratch := (List.range 4).foldl (fun m i => Tab.put (fun _ => 0) m (g + i) (data.toNat / 2 ^ (128 * i) % 2 ^ 128)) x.scratch })).emit
      (.rrWrite k addr data), 0)
  else (s, 2)
/-- Granules of the scratch written line by line; what a line holds beside them stays (R240, R244). -/
def State.scratchPut (s : State) (k : Nat) (gs : List (Nat × Nat)) : State :=
  s.each (gs.map (fun g => g.1 / 4)).eraseDups (fun s l =>
    let v (i : Nat) : Nat := match gs.find? (fun g => g.1 == 4 * l + i) with
      | some g => g.2
      | none => Tab.get (fun _ => 0) (s.rplOf k).scratch (4 * l + i)
    (s.scratchWrite k (k * 2 ^ 24 + s.variant.scratch + 64 * l) (BitVec.ofNat 512 (v 0 + v 1 * 2 ^ 128 + v 2 * 2 ^ 256 + v 3 * 2 ^ 384))).1)
/-- The repeat record of a request, with the granules of its views: a case's held inputs, or a steering command's own operand record with its result in the scratch
(R231, R244; assumption 186); none where it has none. -/
def State.rptRecord (s : State) (h : Nat) (q : RptReq) : Option (List Byte × List (Nat × Nat)) :=
  let base := q.cluster * 2 ^ 24 + s.variant.scratch
  match q.what with
  | .case no => (s.caseOf h no).bind (fun c => repeatRecord base s.variant.rptBase c.held)
  | .gated _ => none
  | .steering cmd => ((s.descOf q.cluster cmd).bind (·.opr)).map (fun x =>
      (recordHead 5 0 0 0 0 0 0 0 0 ++ leBytes 48 ({ Opr.ofNat x with cmd := s.variant.rptBase, gated := false, gregion := 0, yaddr := base + scratchY } : Opr).toNat, []))
/-- A request of a Taster changed, or taken out. -/
def State.rqSet (s : State) (h : Nat) (q : RptReq) (n : Option RptReq) : State :=
  s.updAdjOf h (fun a => { a with rq := (a.rq.takeWhile (· != q)) ++ n.toList ++ (a.rq.dropWhile (· != q)).drop 1 })
/-- The oldest request for a cluster goes to its repeat port while no other stands there or runs: the record of mode 0 or 2 is written into the scratch first
(R240, R241, R244; assumption 184). -/
def State.rptGo (s : State) (k : Nat) : State :=
  match s.checker k with
  | none => s
  | some h =>
    let mine := (s.adjOf h).rq.filter (fun q => q.cluster == k)
    if mine.any (fun q => q.stage != 0) then s
    else match mine with
      | [] => s
      | q :: _ =>
        let s := match s.rptRecord h q with
          | some r => s.scratchPut k (granules r.1 ++ r.2)
          | none => s
        (s.rqSet h q (some { q with stage := 1 })).emit (.repeatReq k q.mode q.core q.cmd q.addr)
/-- A request joins the others of its Taster (R241). -/
def State.rptAsk (s : State) (h k : Nat) (what : RptFor) (mode core cmd : Nat) : State :=
  (s.updAdjOf h (fun a => { a with rq := a.rq ++ [⟨k, what, mode, core, cmd, if mode = 1 then 0 else s.variant.scratch, 0⟩] })).rptGo k
/-- Requests of a Taster go: one that stands at its port is withdrawn, and the next takes its place (R241). -/
def State.rptDrop (s : State) (h : Nat) (gone : RptReq → Bool) : State :=
  let qs := (s.adjOf h).rq.filter gone
  let s := s.updAdjOf h (fun a => { a with rq := a.rq.filter (fun q => !gone q) })
  s.each qs (fun s q => (if q.stage = 1 then s.emit (.repeatOff q.cluster) else s).rptGo q.cluster)

/-- A core can run no repeat: it is out of service, under steep, or being swapped (R270). -/
def State.noRepeat (s : State) (k p : Nat) : Bool :=
  let u := s.unit (puCore k p)
  u.fenced || u.perm || u.steep || u.absent || (match (s.port k).mig with | some m => m.src == p || m.dst == p | none => false)
/-- The repeat of a case is asked for; where its core can run none, or no record can hold its inputs, c2 is absent (R236, R244, R250, R270). -/
def State.askRepeat (s : State) (h no : Nat) : State :=
  match s.caseOf h no with
  | none => s
  | some c =>
    let atomic := match c.kind with | .atomic => true | _ => false
    if atomic || s.noRepeat c.cluster c.core || (repeatRecord 0 0 c.held).isNone then s.updCase h no (fun c => { c with rpt := 3, c2 := .absent })
    else (s.updCase h no (fun c => { c with rpt := 1 })).rptAsk h c.cluster (.case no) c.mode c.core c.cmd
/-- Held inputs are secured: the repeat and the neighbour are asked (R252 #3, #5). -/
def State.secured (s : State) (h no : Nat) (x : Held) : State :=
  ((s.updCase h no (fun c => { c with held := x })).askRepeat h no).askNeighbour h no []

/-- An alarm's case (R236, R237): it joins one of the same core and CMDID, takes a slot, or is dropped with 0x4010; the
answer says whether it was dropped. Its repeat and its neighbour are asked unless steep resolves it (R248) or its inputs are still to be re-read (R239). -/
def State.openCase (s : State) (k : Nat) (c : Case) : State × Bool :=
  match s.checker k with
  | none => (s, true)
  | some h =>
    let cs := (s.adjOf h).cases
    if cs.any (fun x => x.cluster == k && x.core == c.core && x.cmd == c.cmd) then (s, false)
    else if (if c.priv then 8 else 6) ≤ cs.length then
      let s := s.count (uTST h) TST_ADJ_DROPPED_COUNT
      (s.raiseOnce 0 0x4010 (puTst h) (s.cnt (uTST h) TST_ADJ_DROPPED_COUNT) cs.length, true)
    else
      let no := (s.adjOf h).next
      let c : Case := { c with no := no, cluster := k, c2 := if c.closure then .absent else c.c2, rpt := if c.closure then 3 else 0 }
      let s := s.updAdjOf h (fun a => { a with cases := a.cases ++ [c], next := no + 1 })
      let s := s.count (uTST h) TST_ADJ_CASES_COUNT
      (if c.closure || c.held == .none then s else s.secured h no c.held, false)

/-- The counter of a verdict (R273). -/
def verdictFld : Nat → Option Fld
  | 0x01 => some TST_ADJ_PERM_COUNT
  | 0x02 => some TST_ADJ_TRANS_COUNT
  | 0x03 => some TST_ADJ_TST_COUNT
  | 0x04 => some TST_ADJ_TST_COUNT
  | 0x05 => some TST_ADJ_TAP_COUNT
  | 0x06 => some TST_ADJ_TAP_COUNT
  | 0x07 => some TST_ADJ_TST_COUNT
  | 0x09 => some TST_ADJ_INCONCL_COUNT
  | _ => none
/-- A verdict counted at its Taster, traced, and sent to the Hall of the cluster's region (R252, R273, R413). -/
def State.sendVerdict (s : State) (h : Nat) (v : Verdict) : State :=
  let u := uTST h
  let s := (s.wr u TST_ADJ_LAST_VERDICT v.code).wr u TST_ADJ_LASTPUID_PUID v.puid
  let s := match verdictFld v.code with | some F => s.count u F | none => s
  let s := s.trace v.cluster 2 0x11 (some v.core) (s.descOf v.cluster v.cmd) (v.code + v.source * 2 ^ 8)
  s.updVerdictsOf (regionOfCluster v.cluster) (fun l => l ++ [v])
/-- The verdict of a case, with what it carries. -/
def verdictOf (c : Case) (code puid : Nat) (unrepeated erratic : Bool) (extra : Nat) : Verdict :=
  ⟨code, c.cluster, c.core, c.cmd, puid, sourceOf c.kind, c.priv, c.gated, unrepeated, erratic, c.ctx, c.step, c.layer, c.op, extra⟩
/-- A case leaves its Taster, with its request at the repeat port and the re-read of its inputs. -/
def State.dropCase (s : State) (h no : Nat) : State :=
  let k := ((s.caseOf h no).map (·.cluster)).getD h
  let s := s.unitsOut k (fun u => u.role == .reread no)
  (s.updAdjOf h (fun a => { a with cases := a.cases.filter (fun c => c.no != no) })).rptDrop h (fun q => q.what == .case no)
/-- A case ends INCONCLUSIVE with a reason of 0x4009 (R250, R270). -/
def State.inconclusive (s : State) (h : Nat) (c : Case) (reason : Nat) : State :=
  (s.dropCase h c.no).sendVerdict h (verdictOf c 0x09 (caseUnit c.cluster c) false false reason)
/-- Every case of a cluster ends INCONCLUSIVE, wherever it is held (R270, R373). -/
def State.endCases (s : State) (k reason : Nat) : State :=
  s.each s.adj (fun s e => s.each (e.2.cases.filter (fun c => c.cluster == k)) (fun s c => s.inconclusive e.1 c reason))

end Sys2Proof.Machine
end

