-- ==== Sys2Proof/Machine/Sha3.lean ====
section
/-! DEFINITION. SHA3-256 (FIPS 202), the digest of weight slices, maps and provenance (R288). -/
namespace Sys2Proof

/-- A 64-bit lane rotated left. -/
def rotl64 (x : Nat) (n : Nat) : Nat := (x * 2 ^ n) % 2 ^ 64 + x / 2 ^ (64 - n)
/-- Round constants of Keccak-f[1600]. -/
def keccakRc : List Nat :=
  [0x0000000000000001, 0x0000000000008082, 0x800000000000808A, 0x8000000080008000, 0x000000000000808B,
   0x0000000080000001, 0x8000000080008081, 0x8000000000008009, 0x000000000000008A, 0x0000000000000088,
   0x0000000080008009, 0x000000008000000A] ++
  [0x000000008000808B, 0x800000000000008B, 0x8000000000008089, 0x8000000000008003, 0x8000000000008002,
   0x8000000000000080, 0x000000000000800A, 0x800000008000000A, 0x8000000080008081, 0x8000000000008080,
   0x0000000080000001, 0x8000000080008008]
/-- Rotation offsets, lane x + 5y. -/
def keccakRot : List Nat :=
  [0, 1, 62, 28, 27, 36, 44, 6, 55, 20, 3, 10, 43, 25, 39, 41, 45, 15, 21, 8, 18, 2, 61, 56, 14]
/-- Lane of a state. -/
def lane (a : List Nat) (i : Nat) : Nat := a.getD i 0
/-- One round: theta, rho and pi, chi, iota. -/
def keccakRound (a : List Nat) (rc : Nat) : List Nat :=
  let c := (List.range 5).map (fun x =>
    Nat.xor (Nat.xor (Nat.xor (Nat.xor (lane a x) (lane a (x + 5))) (lane a (x + 10))) (lane a (x + 15))) (lane a (x + 20)))
  let d := (List.range 5).map (fun x => Nat.xor (lane c ((x + 4) % 5)) (rotl64 (lane c ((x + 1) % 5)) 1))
  let t := (List.range 25).map (fun i => rotl64 (Nat.xor (lane a i) (lane d (i % 5))) (keccakRot.getD i 0))
  -- B[y, 2x+3y] = rot(A[x, y]): the lane that lands at (x', y') is A[(x' + 3y') mod 5, x']
  let b := (List.range 25).map (fun j => lane t ((j % 5 + 3 * (j / 5)) % 5 + 5 * (j % 5)))
  let e := (List.range 25).map (fun j =>
    let y := j / 5
    let x := j % 5
    Nat.xor (lane b j) (Nat.land (Nat.xor (lane b ((x + 1) % 5 + 5 * y)) (2 ^ 64 - 1)) (lane b ((x + 2) % 5 + 5 * y))))
  match e with
  | [] => []
  | h :: rest => Nat.xor h rc :: rest
/-- Keccak-f[1600]. -/
def keccakF (a : List Nat) : List Nat := keccakRc.foldl keccakRound a
/-- A state with a 136-byte block absorbed. -/
def sha3Absorb (a : List Nat) (blk : List Byte) : List Nat :=
  keccakF ((List.range 25).map (fun i => if i < 17 then Nat.xor (lane a i) (leAt blk (8 * i) 8) else lane a i))
/-- Blocks of 136 bytes absorbed in turn; the first argument bounds their number. -/
def sha3Blocks : Nat → List Nat → List Byte → List Nat
  | 0, a, _ => a
  | n + 1, a, bs => sha3Blocks n (sha3Absorb a (bs.take 136)) (bs.drop 136)
/-- The message padded: domain bits 01, then 10*1 (FIPS 202). -/
def sha3Pad (m : List Byte) : List Byte :=
  let k := 136 - m.length % 136
  if k = 1 then m ++ [0x86#8] else m ++ [0x06#8] ++ List.replicate (k - 2) 0#8 ++ [0x80#8]
/-- SHA3-256: 32 bytes. -/
def sha3 (m : List Byte) : List Byte :=
  let p := sha3Pad m
  let a := sha3Blocks (p.length / 136) (List.replicate 25 0) p
  (List.range 4).flatMap (fun i => leBytes 8 (lane a i))
/-- SHA3-256 as a little-endian number of 256 bits, byte 0 lowest (R17). -/
def sha3Nat (m : List Byte) : Nat := leNat (sha3 m)

end Sys2Proof
end

