-- ==== Sys2Proof/Machine/Maps.lean ====
section
/-! DEFINITION. The logical-to-physical tables, spares and the map digest (R98-R100, R259, R456). -/
namespace Sys2Proof.Machine
open Sys2Proof

/-- The core table written in full, leaving some cores out: logical core `l` is the `l`-th physical core that stays (R100). -/
def fullMap (out : List Nat) (l : Nat) : Nat :=
  if Config.host.logical ≤ l then 0
  else match ((List.range 1024).filter (fun p => !out.contains p))[l]? with
    | some p => p + 1024
    | none => 0
/-- TS_MAP_DATA of a logical core's live entry: physical core, plus 1,024 when valid (R98). -/
def State.coreEntry (s : State) (k l : Nat) : Nat :=
  let p := s.port k
  match Tab.find l p.coreLive with
  | some v => v
  | none => match p.base with
    | some out => fullMap out l
    | none => 0
/-- The core table of a cluster, live: the physical cores of valid entries, with their logical cores. -/
def State.mapped (s : State) (k : Nat) : List (Nat × Nat) :=
  (List.range Config.host.logical).filterMap (fun l =>
    let v := s.coreEntry k l
    if 1024 ≤ v then some (v % 1024, l) else none)
/-- The logical core that a physical one holds. -/
def State.logicalOf (s : State) (k p : Nat) : Option Nat := ((s.mapped k).find? (fun e => e.1 == p)).map (·.2)
/-- A core may serve: not absent, off, fenced, permanent, under steep, lent or under a core reset; a free spare may be held in reset (R325 #9). -/
def State.coreUsable (s : State) (k p : Nat) : Bool :=
  let u := s.unit (puCore k p)
  let c := s.core (ckey k p)
  !(u.absent || u.off || u.fenced || u.perm || u.steep || u.scan || c.lent || s.resets.any (fun x => x.level == 1 && x.at_ == ckey k p))
/-- Free spares of a cluster, lowest first (R259). -/
def State.spares (s : State) (k : Nat) : List Nat :=
  let used := (s.mapped k).map (·.1)
  let going := match (s.port k).mig with | some m => [m.dst] | none => []
  (List.range 1024).filter (fun p => !used.contains p && !going.contains p && s.coreUsable k p)
/-- TS_MAP_DATA of a logical channel: physical channel, plus 8,192 when valid (R98). -/
def State.chanEntry (s : State) (l : Nat) : Nat :=
  let v := Tab.get (· + 1) s.chanMap l
  if v = 0 then 0 else v - 1 + 8192
/-- Physical channel of a logical one. -/
def State.physChan (s : State) (l : Nat) : Option Nat :=
  let v := Tab.get (· + 1) s.chanMap l
  if v = 0 then none else some (v - 1)
/-- Logical channels that a physical one holds. -/
def State.logChans (s : State) (ph : Nat) : List Nat := (List.range (16 * nStacks)).filter (fun l => s.physChan l == some ph)

/-- PUIDs whose page reads ABSENT, FENCED, SHUTTERED or LOST, or whose history STATE is PERMANENT, ascending (R456). -/
def State.outPuids (s : State) : List Nat :=
  let a := (s.units.filter (fun e => e.2.absent || e.2.fenced || e.2.perm || e.2.shut)).map (·.1)
  let gone := (List.range Config.host.regions).filter (fun r => s.regionLost r || s.regionShut r || !bit s.variant.regions r)
  let b := gone.flatMap (fun r => [puHal r] ++ (clustersOf r).map puTst ++ (stacksOf r).map puCel ++ (doorsOf r).map puDor
    ++ (clustersOf r).flatMap (fun k => (List.range 1024).map (puTap k)))
  (sortBy (fun x y => decide (x ≤ y)) (a ++ b)).eraseDups
/-- The disabled-unit map digest (R456). -/
def State.mapDigest (s : State) : Nat :=
  sha3Nat (((List.range Config.host.clusters).flatMap (fun k => (List.range Config.host.logical).flatMap (fun l => leBytes 2 (s.coreEntry k l))))
    ++ (List.range (16 * nStacks)).flatMap (fun l => leBytes 2 (s.chanEntry l)) ++ s.outPuids.flatMap (leBytes 4))
/-- The map digest made again, from stage 9 of bring-up on: PRV_MAPGEN counts and 0xD030 reports it (R456). -/
def State.mapChanged (s : State) : State :=
  if s.rd uBRW BRW_BOOT_STAGE < 9 then s
  else
    let d := s.mapDigest
    let s : State := { s with prv := { s.prv with mapDig := d } }
    let s := s.count uPRV PRV_MAPGEN_COUNT
    s.raise 0xD030 s.puActive (s.cnt uPRV PRV_MAPGEN_COUNT) d
/-- Several unit states changed at once, with one recomputation. -/
def State.setUnit (s : State) (p : Nat) (f : UnitSt → UnitSt) : State :=
  let a := s.unit p
  let s := s.updUnit p f
  let b := s.unit p
  if a.absent = b.absent ∧ a.fenced = b.fenced ∧ a.perm = b.perm ∧ a.shut = b.shut then s else s.mapChanged

end Sys2Proof.Machine
end

