-- ==== Sys2Proof/Machine/Doors.lean ====
section
/-! DEFINITION. Doors: tensor blocks over links, alive streams, lanes (R101-R103, R122, R136-R146, R384, R420-R423). -/
namespace Sys2Proof.Machine
open Sys2Proof Host

/-- The tensor-block profile, the same in every CKU: a preset, or the fields that the variant record gives (R134). -/
def State.tbProfile (s : State) : Profile :=
  let t := s.variant.tb
  (crcPreset t.preset).getD ⟨t.w, t.poly, t.init, t.refin, t.refout, t.xorout⟩

/-- Numbers of the counts that DOR_BYTES_SEL selects (R407, R421). -/
def dTXI : Nat := 0
def dTXO : Nat := 1
def dAPP : Nat := 2
def dINS : Nat := 3
def dABSTX : Nat := 4
def dRXI : Nat := 5
def dRXO : Nat := 6
def dDIV : Nat := 7
def dSTRIP : Nat := 8
def dABSRX : Nat := 9
def dRET : Nat := 14
/-- A byte account of a Door advanced. -/
def State.dcount (s : State) (n i k : Nat) : State := s.count (uDOR n) DOR_BYTES_BYTES k i
/-- Key of a stream: direction 0 transmit, 1 receive. -/
def skey (n dir st : Nat) : Nat := 8192 * n + 4096 * dir + st
/-- The stream becomes unsynchronised (R145, R146). -/
def State.unsync (s : State) (n st : Nat) : State := s.updStream (skey n 1 st) (fun x => { x with sync := false })

/-- A retired context (R383). -/
def State.isRetired (s : State) (c : Nat) : Bool := (s.ctx c).state == 2
/-- A Door absorbs a block of a retired context whole on a path, 0 transmit or 1 receive, counts and reports it (R155, R384, R385, R387, R390). -/
def State.doorRetired (s : State) (n c path bytes absorbed : Nat) : State :=
  let s := ((s.dcount n dRET bytes).count (uDOR n) DOR_RET_BLOCKS_COUNT).count (uHAL (regionOfDoor n)) HAL_RET_BYTES bytes
  let s := s.count (uDOR n) CKU_CNT_ABSORB_BYTES (bytes - absorbed) path
  let s := (s.updCtx c (fun x => { x with seenCut := s.cutNo + 1 })).updDoor n (fun d =>
    { d with retBlocks := d.retBlocks + 1, retBytes := d.retBytes + bytes, retLast := c })
  let d := s.door n
  s.raiseOnce 0 0x8052 (puDor n) d.retBlocks d.retBytes c

/-- The ALIVE that the stream's next outgoing block is stamped with (R144), and the state that has stamped it. -/
def State.stamp (s : State) (n st : Nat) : Nat × State :=
  let x := s.stream (skey n 0 st)
  (x.e, s.updStream (skey n 0 st) (fun x => { x with e := (x.e + 1) % 256 }))
/-- A block's header stamped and its trailer appended, sent toward the link controller (R136, R144). -/
def State.doorSend (s : State) (n st : Nat) (h : Header) (payload : List Byte) : State :=
  let r := s.stamp n st
  let h := { h with alive := r.1 }
  let body := h.bytes ++ payload
  let s := (r.2.dcount n dAPP 8).dcount n dTXO (body.length + 8)
  s.emit (.doorTx n st (body ++ trailerOf s.tbProfile h payload))
/-- A block that Onasen inserts on stream 4,093, 4,094 or 4,095 of a link (R103, R296). -/
def State.doorInsert (s : State) (n st : Nat) (h : Header) (payload : List Byte) : State :=
  if (s.door n).shut then s
  else (s.dcount n dINS (16 + payload.length)).doorSend n st h payload

/-- DOOR_TRANSMIT_BLOCK (R136-R138, R143, R144, R384): a Shuttered link takes nothing; a header that fails a test becomes a
header-only stand-in; a block of a retired context is tested as any other, and absorbed whole. The transmit side has no length
test (R136, R139; assumption 15). DESIGN CHOICE (assumption 207): a block of a retired context that passes is absorbed before it is counted as passed: it is in neither
CKU_CNT_BLOCKS nor CKU_CNT_POISON_IN of the transmit path, while on receive, where R143 checks it first, it is in both. -/
def doorTransmitBlock (s : State) (n st : Nat) (bytes : List Byte) : State :=
  if (s.door n).shut then s
  else
    let u := uDOR n
    let h := Header.ofBytes bytes
    let s := s.dcount n dTXI bytes.length
    let t := headerTest h none
    if s.isRetired h.ctx then
      let s := if t = 0 then s else (s.count u CKU_CNT_REJECT_COUNT 1 0).raiseOnce st 0x6004 (puDor n) st t h.len
      (s.dcount n dABSTX bytes.length).doorRetired n h.ctx 0 bytes.length 0
    else
      if t = 0 then
        let s := (s.count u CKU_CNT_BLOCKS_COUNT 1 0).doorSend n st h (bytes.drop 16)
        if h.poison then s.count u CKU_CNT_POISON_IN_COUNT 1 0 else s
      else
        let k := bytes.length - 16
        let s := ((s.count u CKU_CNT_REJECT_COUNT 1 0).count u CKU_CNT_ABSORB_BYTES k 0).dcount n dABSTX k
        (s.doorSend n st (standIn h) []).raiseOnce st 0x6004 (puDor n) st t h.len
/-- DOOR_TRANSMIT_BLOCK. -/
def execDoorTransmitBlock (n : DoorId) (stream : BitVec 12) (bytes : List Byte) (s : State) : Outcome State Fault Refusal :=
  .next (doorTransmitBlock s n.val stream.toNat bytes)

/-- What a check point makes of a whole block before its context and stream are looked at (R137-R141, R601). -/
inductive RxClass where
  /-- fewer bytes than a header -/
  | short
  /-- a header test failed, by its number -/
  | reject (test : Nat)
  /-- its bytes are not 24 + 16·LEN -/
  | framing
  | mismatch
  | pass
  deriving DecidableEq, Repr
/-- The class of a received block, the first failure it shows (R601). -/
def rxClass (p : Profile) (limit : Option Nat) (bs : List Byte) : RxClass :=
  if bs.length < 16 then .short
  else
    let h := Header.ofBytes bs
    let t := headerTest h limit
    if t ≠ 0 then .reject t
    else if bs.length ≠ 24 + 16 * h.len then .framing
    else if trailerOk p bs then .pass else .mismatch

/-- The alive verdict of a passing block (R145). -/
inductive AliveVerdict where
  | good | again | loss (g : Nat)
  deriving DecidableEq, Repr
/-- The verdict, and the stream afterwards (R145, R146). -/
def aliveJudge (x : StreamSt) (a : Nat) : AliveVerdict × StreamSt :=
  if !x.sync || x.resync then (.good, ⟨true, (a + 1) % 256, false⟩)
  else if a = x.e then (.good, { x with e := (a + 1) % 256 })
  else if (a + 1) % 256 = x.e then (.again, x)
  else (.loss ((a + 256 - x.e) % 256), { x with e := (a + 1) % 256 })

/-- What the mesh, or the diversion of an Onasen stream, gets of a received block (R103, R136, R421). -/
def State.doorForward (s : State) (n st : Nat) (bytes : List Byte) (bad : Bool) : State :=
  if 4093 ≤ st then s.dcount n dDIV bytes.length
  else (s.dcount n dRXO bytes.length).emit (.doorRx n st bytes bad)
/-- Bytes that a Door absorbs on receive. -/
def State.rxAbsorb (s : State) (n k : Nat) : State :=
  (s.dcount n dABSRX k).count (uDOR n) CKU_CNT_ABSORB_BYTES k 1

/-- A received block judged and counted: the state, the bytes that go on with their bad mark if any go on, and the
bytes absorbed and stripped (R137-R145). DESIGN CHOICE (assumption 176): a block with a loss verdict, which passed its check and is
forwarded, counts in CKU_CNT_BLOCKS, and in CKU_CNT_POISON_IN where it came with POISON; a repeat, which is absorbed, counts in neither. -/
def State.doorJudge (s : State) (n st limit : Nat) (bs : List Byte) : State × Option (List Byte × Bool) × Nat × Nat :=
  let u := uDOR n
  let h := Header.ofBytes bs
  let body := 16 + 16 * h.len
  let x := s.stream (skey n 1 st)
  match rxClass s.tbProfile (some limit) bs with
  | .short =>
    ((((s.count u CKU_CNT_FAIL_COUNT 1 1).unsync n st).raiseOnce st 0x6005 (puDor n) st bs.length 0xFFFFFFFF),
      some (bs, true), 0, 0)
  | .reject t =>
    ((((s.count u CKU_CNT_REJECT_COUNT 1 1).unsync n st).raiseOnce st 0x6003 (puDor n) st t (h.len * 2 ^ 16 + limit)),
      some ((standIn h).bytes, true), bs.length - 16, 0)
  | .framing =>
    ((((s.count u CKU_CNT_FAIL_COUNT 1 1).unsync n st).raiseOnce st 0x6005 (puDor n) st bs.length (24 + 16 * h.len)),
      some (bs.take body, true), bs.length - body, 0)
  | .mismatch =>
    let s := (((s.count u CKU_CNT_FAIL_COUNT 1 1).unsync n st).raiseOnce st 0x6001 (puDor n) (2 ^ 12 + st) h.seq
      (h.ctx * 2 ^ 16 + h.layer))
    if x.sync && !x.resync && (h.alive + 1) % 256 == x.e then (s, none, bs.length, 0)
    else (s, some (bs.take body, true), 0, 8)
  | .pass =>
    let v := aliveJudge x h.alive
    let s := s.updStream (skey n 1 st) (fun _ => v.2)
    let passed (s : State) : State :=
      let s := s.count u CKU_CNT_BLOCKS_COUNT 1 1
      if h.poison then s.count u CKU_CNT_POISON_IN_COUNT 1 1 else s
    match v.1 with
    | .good => (passed s, some (bs.take body, false), 0, 8)
    | .again => ((s.count u CKU_CNT_REPEAT_COUNT 1 1).raiseOnce st 0x6010 (puDor n) st h.alive h.seq, none, bs.length, 0)
    | .loss g =>
      (passed (((s.count u CKU_CNT_LOSS_COUNT 1 1).count u CKU_CNT_GAP_COUNT g 1).raiseOnce st 0x6011 (puDor n) st g h.seq),
        some (h.poisoned.bytes ++ slice bs 16 (16 * h.len), false), 0, 8)

/-- DOOR_RECEIVE_BLOCK (R136-R145, R384, R421, R423). -/
def doorReceiveBlock (s : State) (n st limit : Nat) (bs : List Byte) : State :=
  if (s.door n).shut then s
  else
    let s := (s.dcount n dRXI bs.length).count (uDOR n) DOR_CR_CONS_COUNT ((bs.length + 15) / 16)
    let r := s.doorJudge n st limit bs
    let h := Header.ofBytes bs
    if decide (16 ≤ bs.length) && h.ctx != 0 && r.1.isRetired h.ctx then
      ((r.1.count (uDOR n) CKU_CNT_ABSORB_BYTES r.2.2.1 1).dcount n dABSRX bs.length).doorRetired n h.ctx 1 bs.length r.2.2.1
    else
      let s := (r.1.rxAbsorb n r.2.2.1).dcount n dSTRIP r.2.2.2
      match r.2.1 with
      | some (out, bad) => s.doorForward n st out bad
      | none => s
/-- DOOR_RECEIVE_BLOCK. -/
def execDoorReceiveBlock (n : DoorId) (stream limit : BitVec 12) (bytes : List Byte) (s : State) : Outcome State Fault Refusal :=
  .next (doorReceiveBlock s n.val stream.toNat limit.toNat bytes)

/-- The counts that a Door's accounts run on. -/
def doorAccounts : List Nat := List.range 15
/-- The accounts of a Door restart from zero; their next shadow is flagged RESET (R146, R365, R420, R424). -/
def State.doorRestart (s : State) (n : Nat) : State :=
  let s := s.each doorAccounts (fun s i => s.zeroCnt (uDOR n) DOR_BYTES_BYTES i)
  let s := ((s.zeroCnt (uDOR n) DOR_CR_ISS_COUNT).zeroCnt (uDOR n) DOR_CR_RET_COUNT).zeroCnt (uDOR n) DOR_CR_CONS_COUNT
  s.updCutUnit (uDOR n) (fun c => { c with wasReset := true })
/-- Every stream of a link unsynchronised and its transmit counts 0 (R146). -/
def State.streamsReset (s : State) (n : Nat) : State :=
  { s with streams := Tab.drop (8192 * n) (8192 * (n + 1)) s.streams }
/-- Void accounts of a place restart: 0x9012 where their void had been declared (R424). -/
def State.unvoid (s : State) (cause place : Nat) : State :=
  let mine := fun v : VoidNote => v.cause == cause && v.place == place
  let told := s.voids.any (fun v => mine v && v.declared)
  let s : State := { s with voids := s.voids.filter (fun v => !mine v) }
  if told then s.raise 0x9012 s.puActive place (cutName s.cutNo) else s
/-- LINK_TRAINED (R146, R420). A lane held down by a failed loop-back stays down (R336); a Shuttered link's accounts stay frozen (R423). -/
def linkTrained (s : State) (n : Nat) : State :=
  let up := (s.door n).lanes
  let s := (s.streamsReset n).updDoor n (fun d => { d with lanes := 15 - d.heldLanes % 16 })
  let s := if up ≠ 0 ∧ (s.door n).lanes = 0 then s.raise 0xC013 (puDor n) 0 else s
  if (s.door n).shut then s else (s.doorRestart n).unvoid 3 n
/-- LINK_TRAINED. -/
def execLinkTrained (n : DoorId) (s : State) : Outcome State Fault Refusal := .next (linkTrained s n.val)

/-- LANE_DROP (R122): 0xC010 for the lane, but not for one in loop-back (R336), and 0xC013 with the last one. -/
def laneDrop (s : State) (n l bytes : Nat) : State :=
  let old := (s.door n).lanes
  if !bit old l then s
  else
    let new := old - 2 ^ l
    let s := s.updDoor n (fun d => { d with lanes := new })
    let s := if (s.door n).lb.getD l 0 ≠ 0 then s else s.raise 0xC010 (puLane n l) old new bytes
    if new = 0 then s.raise 0xC013 (puDor n) 0 else s
/-- LANE_DROP. -/
def execLaneDrop (n : DoorId) (l : LaneId) (laneBytes : Nat) (s : State) : Outcome State Fault Refusal :=
  .next (laneDrop s n.val l.val laneBytes)
/-- A lane returns (R122): 0xC012, but not for one that had dropped for its loop-back (R336). -/
def laneReturn (s : State) (n l us : Nat) : State :=
  let d := s.door n
  if bit d.heldLanes l || bit d.lanes l then s
  else
    let s := s.updDoor n (fun x => { x with lanes := x.lanes + 2 ^ l, lb := if d.lb.getD l 0 = 3 then x.lb.set l 0 else x.lb })
    if d.lb.getD l 0 ≠ 0 then s else s.raise 0xC012 (puLane n l) us

end Sys2Proof.Machine
end

