-- ==== Sys2Proof/Machine/Bundles.lean ====
section
/-! DEFINITION. Firmware bundles in flash, the firmware processors, and the copies of components that they load (R498, R501, R504, R529, R539). -/
namespace Sys2Proof.Machine
open Sys2Proof Host

/-- Key of a flash byte: device 0 primary, 1 golden (R501). -/
def flashKey (dev addr : Nat) : Nat := 2 ^ 40 + dev * 2 ^ 28 + addr

/-- Device address of a firmware slot and of a host image slot (R501). -/
def fwSlot (slot : Nat) : Nat := 0x600000 + slot * 0x800000
def hostSlot (slot : Nat) : Nat := 0x1600000 + slot * 0x100000
/-- Bytes of a firmware slot. -/
def fwBytes : Nat := 8388608
/-- The fields of a bundle's head (R504). -/
structure BundleHead where
  format : Nat
  components : Nat
  fwver : Nat
  svn : Nat
  length : Nat
  config : Nat
  vendor : Nat
  intkey : Nat
  deriving DecidableEq, Repr
/-- The head of a bundle. -/
def bundleHead (b : List Byte) : BundleHead :=
  ⟨leAt b 4 2, leAt b 6 2, leAt b 8 8, leAt b 16 4, leAt b 20 4, leAt b 24 2, beNat (Sys2Proof.slice b 32 96), beNat (Sys2Proof.slice b 128 96)⟩
/-- An entry of the component table: KIND, OFFSET, SIZE. -/
def compAt (b : List Byte) (i : Nat) : Nat × Nat × Nat := (leAt b (256 + 16 * i) 1, leAt b (260 + 16 * i) 4, leAt b (264 + 16 * i) 4)
/-- Key of a slot's first byte: 0 A and 1 B of the primary device, 2 A of the golden device (R501, R502). -/
def slotKey (slot : Nat) : Nat := if slot = 2 then flashKey 1 (fwSlot 0) else flashKey 0 (fwSlot slot)
/-- A slot's bundle. -/
def State.slotBytes (s : State) (slot : Nat) : List Byte := s.peek (slotKey slot) fwBytes
/-- FWVER of the bundle in a slot. -/
def State.slotVer (s : State) (slot : Nat) : Nat := (bundleHead (s.peek (slotKey slot) 256)).fwver
/-- Digest of the component that an entry of a bundle's table names; 0 where there is none. -/
def entrySha (b : List Byte) (o : Option (Nat × Nat × Nat)) : Nat :=
  match o with
  | some e => sha384 (Sys2Proof.slice b e.2.1 e.2.2)
  | none => 0
/-- Digest of a component of a slot's bundle. -/
def State.slotComp (s : State) (slot kind : Nat) : Nat :=
  let b := s.slotBytes slot
  entrySha b (((List.range (bundleHead b).components).map (compAt b)).find? (fun e => e.1 == kind))
/-- A processor's entry (R498). -/
def State.proc (s : State) (i : Nat) : ProcSt := Tab.get (fun _ => ⟨0, 0, 0, 0, [], 0⟩) s.fw.procs i
/-- A processor's entry changed. -/
def State.updProc (s : State) (i : Nat) (f : ProcSt → ProcSt) : State :=
  { s with fw := { s.fw with procs := Tab.upd (fun _ => ⟨0, 0, 0, 0, [], 0⟩) s.fw.procs i f } }
/-- Component that a processor runs (R504). -/
def procKind (i : Nat) : Nat := if i < 64 then 4 else i % 8 + 1
/-- The Brewhouse of a processor that is not a Hall's. -/
def procBh (i : Nat) : Bh := if i < 72 then .a else .b
/-- PUID that a processor's events name. -/
def procPuid (i : Nat) : Nat := if i < 64 then puHal i else puBrw (procBh i)
/-- The copy of a component that a processor loads from a slot: a bulk transfer from the active Brewhouse to the processor's unit, described when
the load begins and reported complete when it is done; none within the Brewhouse itself (R42, R43, R529; assumption 84: its check value). -/
def State.loadCopy (s : State) (done : Bool) (i slot : Nat) : State :=
  let b := s.peek (slotKey slot) fwBytes
  let e := ((List.range (bundleHead b).components).map (compAt b)).find? (fun e => e.1 == procKind i)
  if procPuid i = s.puActive then s
  else s.bulkPacket done s.puActive (procPuid i) ((e.map (·.2.2)).getD 0) (s.slotComp slot (procKind i) % 2 ^ 32)
/-- A processor begins to load a component from a slot (R529). -/
def State.loadBegin (s : State) (i slot cause : Nat) : State :=
  (s.updProc i (fun p => { p with state := 1, next := slot, cause := cause })).loadCopy false i slot

end Sys2Proof.Machine
end

