-- ==== Sys2Proof/Machine/Notify.lean ====
section
/-! DEFINITION. Completion records made for host software, and where they wait (R552, R554, R555, R559). -/
namespace Sys2Proof.Machine
open Sys2Proof

/-- Onasen is host-absent (MBX_STAT.ABSENT, R549). -/
def State.absent (s : State) : Bool := s.isSet (uMBX 0) MBX_STAT_ABSENT
/-- A body of 40 bytes from its fields as (value, bytes), little-endian, in order. -/
def mkBody (fs : List (Nat × Nat)) : List Byte :=
  let b := fs.flatMap (fun f => leBytes f.2 f.1)
  (b ++ List.replicate (40 - b.length) 0).take 40
/-- The ring has room for one more record (R554). -/
def State.ringRoom (s : State) : Bool :=
  let n := s.rd (uMBX 0) MBX_RING_CFG_ENTRIES
  n != 0 && (s.rd (uMBX 0) MBX_RING_TAIL_INDEX + 1) % n != s.rd (uMBX 0) MBX_RING_HEAD_INDEX % n
/-- Counts that follow the queues of records (R579). -/
def State.mbxCounts (s : State) : State :=
  (s.wr (uMBX 0) MBX_STAT_PENDING (if s.ringRoom then 0 else min 255 s.mbx.out.length)).wr (uMBX 0) MBX_STAT_HELD s.mbx.kept.length
/-- The common set (R538). -/
def State.commonSet (s : State) : Nat := ((List.range 4).map (fun i => s.rd uBRW BRW_FEAT_COMMON_MAP i * 2 ^ (32 * i))).sum
/-- A record made: it waits for the ring, or through an absence; what finds no place is dropped and counted (R554, R559). -/
def State.cpl (s : State) (c : Cpl) : State :=
  if s.absent then
    if s.mbx.kept.length < 64 then
      { s with mbx := { s.mbx with kept := s.mbx.kept ++ [{ c with held := true }] } }.mbxCounts
    else ({ s with mbx := { s.mbx with absDrop := s.mbx.absDrop + 1 } }.bump (uMBX 0) MBX_ABS_DROP_COUNT)
  else if !s.ringRoom && decide (256 ≤ s.mbx.out.length) then
    ({ s with mbx := { s.mbx with lost := s.mbx.lost + 1 } }.bump (uMBX 0) MBX_RING_DROP_COUNT).raise 0xB020 s.puActive
      (s.rd (uMBX 0) MBX_RING_DROP_COUNT + 1) (s.rd (uMBX 0) MBX_RING_CFG_ENTRIES)
  else { s with mbx := { s.mbx with out := s.mbx.out ++ [c] } }.mbxCounts
/-- An unsolicited record (R552). -/
def State.notify (s : State) (ctype ctx : Nat) (fs : List (Nat × Nat)) (more : Bool := false) : State :=
  s.cpl ⟨ctype, 0, 0, 0xFF, ctx, s.now, more, false, mkBody fs⟩
/-- A list cut into runs of `n`. -/
def chunks {α : Type} (n : Nat) : Nat → List α → List (List α)
  | 0, _ => []
  | k + 1, l => if l.length ≤ n then [l] else l.take n :: chunks n k (l.drop n)
/-- Unsolicited records that carry a list of 2-byte values after a head, `n` to a record, MORE on all but the last (R555). -/
def State.notifyList (s : State) (ctype ctx : Nat) (head : Nat → List (Nat × Nat)) (n : Nat) (vs : List Nat) : State :=
  let cs := chunks n (vs.length + 1) vs
  (s.each (cs.zip (List.range cs.length)) (fun s c =>
    s.notify ctype ctx (head c.1.length ++ c.1.map (fun v => (v, 2))) (c.2 + 1 != cs.length)))
/-- MSI-X entry that announces a record (R555). -/
def vecOf (ctype : Nat) : Nat :=
  if ctype = 2 ∨ ctype = 0x24 ∨ ctype = 0x26 then 3
  else if 0x10 ≤ ctype ∧ ctype ≤ 0x13 then 1
  else if ctype = 0x14 then 2
  else if ctype = 0x15 ∨ ctype = 0x17 ∨ ctype = 0x19 then 6
  else if ctype = 0x18 then 5
  else if ctype = 0x25 then 4
  else if ctype = 0x27 then 7
  else 0
/-- The 64 bytes of a record (R552). -/
def cplBytes (c : Cpl) (phase note : Nat) : List Byte :=
  let b (x : Bool) (n : Nat) := if x then n else 0
  leBytes 2 c.ctype ++ leBytes 1 c.status ++ leBytes 1 (phase % 2 + vecOf c.ctype * 2 + b c.held 16 + b c.more 32) ++ leBytes 4 c.mseq
    ++ leBytes 1 c.slot ++ leBytes 1 0 ++ leBytes 2 c.ctx ++ leBytes 4 note ++ leBytes 8 c.wall ++ c.body
/-- An MCTP message of the vendor-defined type: enterprise number, subtype, body (R568). -/
def mctpVendor (subtype : Nat) (body : List Byte) : List Byte :=
  [0x7F#8] ++ beBytes 4 (Config.imageVal 0x250 0) ++ leBytes 1 subtype ++ body
/-- The completion of a message (R547, R552, R553, R568, R571): by MCTP to the fleet, else to the ring; QUIET suppresses a
success; body fields follow the message's TYPE. -/
def State.answer (s : State) (m : Msg) (status : Nat) (fs : List (Nat × Nat)) : State :=
  let c : Cpl := ⟨1, status, m.seq, m.slot, m.ctx, s.now, false, false, mkBody ((m.type, 2) :: fs)⟩
  if m.slot = 0xFE then { s.mctpOut (mctpVendor 3 (cplBytes c 0 0)) with mgt := { s.mgt with fleet := false } }
  else if status ≤ 1 ∧ m.flags % 2 = 1 then s
  else s.cpl c
/-- A message is refused (R547, R553, R582): counted, 0xB010, and a completion even when QUIET. -/
def State.refuse (s : State) (m : Msg) (status : Nat) : State :=
  let s := (s.count (uMBX 0) MBX_REFUSED_COUNT).raiseOnce 0 0xB010 s.puActive m.type status m.slot
  s.answer m status []
/-- Work that messages had been accepted for is over: each gets its last record (R550, R557). -/
def State.workDone (s : State) (what status : Nat) : State :=
  let done := s.mbx.work.filter (fun w => w.1 == what)
  let s : State := { s with mbx := { s.mbx with work := s.mbx.work.filter (fun w => w.1 != what) } }
  s.each done (fun s w => s.answer w.2 status (if 1 ≤ what ∧ what ≤ 3 then [(0, 2), (Tab.get (fun _ => 0) s.dl what, 4)] else []))
/-- KILL (R555): causes 1 poison, 2 hang, 3 steering failure, 4 reset, 5 supply loss, 6 limit Shutter, 7 adjudication. -/
def State.notifyKill (s : State) (c cause step cluster : Nat) : State :=
  s.notify 0x0010 c [(cause, 1), (0, 1), (step, 6), (cluster, 2)]
/-- WAFER_Q (R555). -/
def State.notifyWafer (s : State) : State :=
  s.notify 0x0018 0 [(s.rd uBRW BRW_WAFER_Q_STATE, 1), (s.rd uBRW BRW_WAFER_Q_REPLACE, 1)]
/-- REGION (R555): 1 Shuttered, 2 returned, 3 LOST, 4 returned from LOST. -/
def State.notifyRegion (s : State) (r what : Nat) : State := s.notify 0x0019 0 [(r, 1), (what, 1)]

end Sys2Proof.Machine
end

