-- ==== Sys2Proof/Machine/Emergency.lean ====
section
/-! DEFINITION. The emergency, and what holds a firmware activation (R492, R528, R532). -/
namespace Sys2Proof.Machine
open Sys2Proof

/-- Processor indices of a Brewhouse: security, power-management and scheduler core (R539). -/
def procsOf : Bh → List Nat
  | .a => [64, 65, 66]
  | .b => [72, 73, 74]
/-- A processor switches, is halted, or is halted by Moldom and so treated as restarting (R499, R577). -/
def State.procDown (s : State) (i : Nat) : Bool :=
  let p := (s.proc i).state
  p == 2 || p == 3 || s.dbg.halted.any (fun h => h.1 == i)
/-- A processor of the active Brewhouse restarts: cuts, mailbox scanning, management reports, two-key commits and Attic
programming wait (R499). -/
def State.firmDown (s : State) : Bool := (procsOf s.active).any (fun i => s.procDown i)
/-- The hold bits of BRW_FW_STAT [18:16]: 4 reset, 2 global stop, 1 emergency (R528, R541). -/
def State.holdBits (s : State) : Nat :=
  (if s.resets.isEmpty then 0 else 4) + (if s.stopped then 2 else 0) + (if s.emerg.active then 1 else 0)
/-- A processor whose restart was asked for begins its load, unless a reset of its Hall's region runs (R386, R529, R536). -/
def State.procsGo (s : State) : State :=
  let wait (i : Nat) : Bool := decide (i < nRegions) && s.resets.any (fun x => x.level == 4 || (x.level == 3 && x.at_ == i)
    || (x.level == 2 && regionOfCluster x.at_ == i) || (x.level == 1 && regionOfCluster (x.at_ / 1024) == i))
  s.each ((s.fw.procs.filter (fun e => e.2.cause == 3 && e.2.state == 0 && !wait e.1)).map (·.1)) (fun s i => s.loadBegin i (s.proc i).next 3)
/-- The hold bits shown, while an activation stands; restarts that a reset held begin. -/
def State.showHold (s : State) : State :=
  let b := if s.fw.act.isSome then s.holdBits else 0
  let s := s.procsGo
  ((s.flag uBRW BRW_FW_STAT_HOLD_RESET (bit b 2)).flag uBRW BRW_FW_STAT_HOLD_STOP (bit b 1)).flag uBRW BRW_FW_STAT_HOLD_EMERG (bit b 0)
/-- What holds an activation has changed: with a hold bit set it is held, processors in their load phase abandon the load,
and 0xA004 tells (R528, R532); a rollback is not held. -/
def State.fwHold (s : State) : State :=
  match s.fw.act with
  | none => s
  | some a =>
    let s := s.showHold
    if a.heldAt.isSome || a.back || s.holdBits = 0 then s
    else
      let loading := a.going.filter (fun i => (s.proc i).state == 1)
      let s := s.each loading (fun s i => s.updProc i (fun p => { p with state := 0 }))
      let s : State := { s with
        fw := { s.fw with act := some { a with going := a.going.filter (fun i => !loading.contains i), heldAt := some s.now } }
        emerg := if s.emerg.active then { s.emerg with held := s.emerg.held + 1 } else s.emerg }
      (s.wr uBRW BRW_FW_STAT_STATE 6).raise 0xA004 s.puActive s.holdBits a.done.length
/-- Regions in which each emergency condition holds: a limit trips, a power flag not yet followed by LOST, K5 (R492). -/
def State.emergRegions (s : State) : List Nat × List Nat × List Nat :=
  let rs := List.range Config.host.regions
  (rs.filter (fun r => !(s.thmOf r).trips.isEmpty),
   rs.filter (fun r => ((s.hall r).pgLoss || (s.hall r).oc) && !(s.hall r).lost),
   rs.filter (fun r => s.rd (uHAL r) HAL_THM_STAT_BAND == 5))
/-- An emergency condition may have changed: THM_EMERG follows; the first one begins the emergency with 0x1030 (R492). -/
def State.emergCheck (s : State) : State :=
  let e := s.emergRegions
  let s := ((s.flag uTHM THM_EMERG_LIMIT (!e.1.isEmpty)).flag uTHM THM_EMERG_POWER (!e.2.1.isEmpty)).flag uTHM THM_EMERG_K5 (!e.2.2.isEmpty)
  let bits := (if e.1.isEmpty then 0 else 2) + (if e.2.1.isEmpty then 0 else 4) + (if e.2.2.isEmpty then 0 else 8)
  if s.emerg.active || bits = 0 then s
  else
    let s : State := { s.flag uTHM THM_EMERG_ACTIVE true with emerg := ⟨true, s.now, 0⟩ }
    (s.raise 0x1030 s.puActive bits ((e.1 ++ e.2.1 ++ e.2.2).headD 0)).fwHold
/-- Supply and clock comparators that had tripped are clear: the command that says so has come (R489, R492). -/
def State.clearTrips (s : State) (r : Nat) : State :=
  s.updThmOf r (fun x => { x with trips := x.trips.filter (fun l => decide (l < 3)) })
/-- EMERGENCY_END (R492): no condition has held for 1 s. -/
def emergencyEnd (s : State) : State :=
  let s := s.each (s.thm.map (·.1)) (fun s r => if (s.hall r).shut then s else s.clearTrips r)
  let e := s.emergRegions
  if !s.emerg.active || !(e.1.isEmpty && e.2.1.isEmpty && e.2.2.isEmpty) then s
  else
    let x := s.emerg
    let s : State := { s.flag uTHM THM_EMERG_ACTIVE false with emerg := ⟨false, 0, 0⟩ }
    (s.raise 0x1031 s.puActive ((s.now - x.since) / 1000000) x.held).showHold
/-- EMERGENCY_END. -/
def execEmergencyEnd (s : State) : Host.Outcome State Fault Refusal := .next (emergencyEnd s)

end Sys2Proof.Machine
end

