-- ==== Sys2Proof/Machine/Hatch.lean ====
section
/-! DEFINITION. The Hatch: gate cells that hold privileged blocks until a verdict (R106-R109, R65, R119, R254, R268, R376, R423). -/
namespace Sys2Proof.Machine
open Sys2Proof Host

/-- Field of the PCIe endpoint and its gate cell (R599): item 0x0009 of the variant record, or the default. -/
def State.pcieField (s : State) : Nat := s.variant.pcie
/-- Region of a gate cell (R106, R599). -/
def State.gateRegion (s : State) (g : Nat) : Nat := regionOfGate s.pcieField g
/-- The gate cells of a region. -/
def State.gatesOf (s : State) (r : Nat) : List Nat := (List.range nGates).filter (fun g => s.gateRegion g == r)
/-- Every gate cell. -/
def allGates : List Nat := List.range nGates

/-- A region under a partition reset (R374, R376). -/
def State.partReset (s : State) (r : Nat) : Bool := s.resets.any (fun x => x.level == 3 && x.at_ == r)
/-- Why a gate cell withholds every privileged block now, if it does: its audit failed, its region is Shuttered, lost
or in reset (7); its Hall hears no Brewhouse (4); a cluster of it has no Taster that checks it (5, R27); its REFCLK is lost (the spec names no reason: a free value of those it may send). -/
def State.gateClosed (s : State) (g : Nat) : Option Nat :=
  let r := s.gateRegion g
  let h := s.hall r
  if (s.gate g).audited || s.regionShut r || h.lost || s.partReset r then some 7
  else if h.noContact then some 4
  else if (clustersOf r).any (fun k => !(s.unit (puTst k)).absent && !(s.unit (puTst k)).off && (s.checker k).isNone) then some 5
  else if (Tab.find r s.refLost).isSome then some (1 + Config.refclkReason s.fresh % 7)
  else none

/-- What a gate cell does with a block at once. -/
inductive GateAct where
  | go | hold | discard | withhold (reason : Nat)
  deriving DecidableEq, Repr

/-- The mark a gate cell keeps for a (CTX, STEP). -/
def gateMark (x : GateSt) (c t : Nat) : Option GateMark := x.marks.find? (fun m => m.ctx == c && m.step == t)
/-- A mark put in place of the one of its (CTX, STEP). -/
def putMark (x : GateSt) (m : GateMark) : GateSt :=
  { x with marks := m :: x.marks.filter (fun n => !(n.ctx == m.ctx && n.step == m.step)) }

/-- What becomes of a block by its context and header, before order is looked at (R106, R107, R254, R268, R371, R423). -/
def State.gateAct (s : State) (g : Nat) (b : HeldBlock) : GateAct :=
  let c := s.ctx b.ctx
  if s.isSet uHCH HCH_CTRL_DISABLE then .go
  else if c.gate = 1 then .discard
  else if c.gate = 2 then .withhold c.gateReason
  else if !b.priv then .go
  else match s.gateClosed g with
    | some r => .withhold r
    | none =>
      if c.gate = 3 then .withhold c.gateReason
      else if c.taint.isSome then .withhold 1
      else match (gateMark (s.gate g) b.ctx b.step).bind (·.verdict) with
        | some .pass => .go
        | some .fail => if b.redo then .go else .discard
        | some (.withhold r) => .withhold r.val
        | none => .hold

/-- Bytes of a block list. -/
def heldBytes (l : List HeldBlock) : Nat := (l.map (fun b => b.bytes.length)).sum
/-- Occupancy in 16-byte granules (HCH_HELD.GRAN). -/
def heldGran (l : List HeldBlock) : Nat := (l.map (fun b => (b.bytes.length + 15) / 16)).sum

/-- Splits a queue into the blocks that may leave (ready, with no waiting block of their stream ahead) and the rest. -/
def leave : List Nat → List HeldBlock → List HeldBlock × List HeldBlock
  | _, [] => ([], [])
  | blocked, b :: bs =>
    if b.ready && !blocked.contains b.stream then
      let r := leave blocked bs
      (b :: r.1, r.2)
    else
      let r := leave (b.stream :: blocked) bs
      (r.1, b :: r.2)

/-- A step of a context had a privileged block released (R254). -/
def State.noteRelease (s : State) (b : HeldBlock) : State :=
  if b.priv && !(s.ctx b.ctx).released.contains b.step then
    s.updCtx b.ctx (fun c => { c with released := c.released ++ [b.step] })
  else s
/-- A block leaves a gate cell. -/
def State.gateOut (s : State) (g : Nat) (b : HeldBlock) : State :=
  ((s.count (uGATE g) HCH_OUT_BYTES b.bytes.length).noteRelease b).emit (.gate g b.stream b.bytes)
/-- Every block that may leave does, in order; HCH_HELD follows (R106). -/
def State.gateFlush (s : State) (g : Nat) : State :=
  let r := leave [] (s.gate g).held
  let s := s.updGate g (fun x => { x with held := r.2 })
  (s.each r.1 (fun s b => s.gateOut g b)).wr (uGATE g) HCH_HELD_GRAN (heldGran r.2)

/-- The withheld notice of a block's (CTX, STEP): one granule of payload after the header (R108). DESIGN CHOICE (assumption 35): its SEQ, "continuing
the stream", is that of the first withheld block, whose place in the stream it takes. -/
def noticeBlock (b : HeldBlock) (count reason : Nat) : List Byte :=
  let h := Header.ofBytes b.bytes
  (noticeHeader h h.seq).bytes ++ noticePayload count reason b.step
/-- A block replaced by its notice, ready to leave in its turn. -/
def noticeOf (b : HeldBlock) (count reason : Nat) : HeldBlock :=
  { b with bytes := noticeBlock b count reason, priv := false, ready := true, notice := true }
/-- A queue with the blocks that `f` picks withheld: the first becomes the notice where none has been sent, the rest go. -/
def withholdIn (f : HeldBlock → Bool) (count reason : Nat) : Bool → List HeldBlock → List HeldBlock
  | _, [] => []
  | noticed, b :: bs =>
    if f b then
      (if noticed then [] else [noticeOf b count reason]) ++ withholdIn f count reason true bs
    else b :: withholdIn f count reason noticed bs
/-- Blocks of a (CTX, STEP) that `f` picks are withheld at a gate cell: discarded, with one notice for the pair on this
egress, told to the host (R106, R108, R555). -/
def State.gateWithhold (s : State) (g c t reason : Nat) (f : HeldBlock → Bool) : State :=
  let x := s.gate g
  let pick := fun b : HeldBlock => !b.notice && b.ctx == c && b.step == t && f b
  let gone := x.held.filter pick
  match gone with
  | [] => s
  | first :: _ =>
    let mark := (gateMark x c t).getD ⟨c, t, none, false, false⟩
    let s := (s.count (uGATE g) HCH_DISC_BYTES (heldBytes gone))
    let s := if mark.noticed then s
      else ((s.count (uGATE g) HCH_NOTE_BYTES (noticeBlock first gone.length reason).length).count (uGATE g) HCH_WITHHELD_COUNT).notify
        0x0012 c [(t, 6), (reason, 1), (g, 1), (gone.length, 4)]
    s.updGate g (fun x => putMark { x with held := withholdIn pick gone.length reason mark.noticed x.held }
      { mark with noticed := true })
/-- Blocks that `f` picks are discarded without a notice (R106 FAIL, R371, R383). -/
def State.gateDiscard (s : State) (g : Nat) (f : HeldBlock → Bool) : State :=
  let x := s.gate g
  let pick := fun b : HeldBlock => !b.notice && f b
  let gone := x.held.filter pick
  (s.count (uGATE g) HCH_DISC_BYTES (heldBytes gone)).updGate g (fun x => { x with held := x.held.filter (fun b => !pick b) })

/-- A block is taken into a gate cell and what R106 and R107 say is done with it. -/
def State.gateTake (s : State) (g : Nat) (b : HeldBlock) : State :=
  let s := s.count (uGATE g) HCH_IN_BYTES b.bytes.length
  let s := if s.isSet uHCH HCH_CTRL_DISABLE && b.priv then
    s.updGate g (fun x => { x with passedPriv := x.passedPriv + 1 }) else s
  let put (s : State) (ready : Bool) := s.updGate g (fun x => { x with held := x.held ++ [{ b with ready := ready }] })
  match s.gateAct g b with
  | .go => put s true
  | .hold => put s false
  | .discard => (put s false).gateDiscard g (fun y => y == { b with ready := false })
  | .withhold r => (put s false).gateWithhold g b.ctx b.step r (fun y => y == { b with ready := false })

/-- Hold space of a gate cell in bytes (R107). -/
def gateSpace : Nat := 65536
/-- A block finds its place in a gate cell: hold space is needed by one that would stay, for its verdict or behind a held block of its stream (R106, R107). -/
def State.gateFits (s : State) (g : Nat) (b : HeldBlock) : Bool :=
  let x := s.gate g
  let behind := x.held.any (fun y => y.stream == b.stream && !y.ready)
  let stays := match s.gateAct g b with | .hold => true | .go => behind | _ => false
  !stays || decide (heldBytes x.held + b.bytes.length ≤ gateSpace)
/-- Blocks that wait at a lowered input enter as space comes free, in order (R107). -/
def State.gateRefill (s : State) (g : Nat) : Nat → State
  | 0 => s
  | n + 1 =>
    let x := s.gate g
    match x.outside with
    | [] => s
    | b :: bs =>
      if s.gateFits g b then
        (((s.updGate g (fun x => { x with outside := bs })).gateTake g b).gateFlush g).gateRefill g n
      else s
/-- A gate cell settled: what may leave leaves, and the input goes on. -/
def State.gateSettle (s : State) (g : Nat) : State :=
  let s := s.gateFlush g
  s.gateRefill g (s.gate g).outside.length

/-- GATE_BLOCK_ARRIVE (R106, R107): a block that does not fit waits with the input's ready low; one that comes after its step's FAIL, or after
repeats were asked for, is a re-executed one. -/
def gateBlockArrive (s : State) (g stream step : Nat) (bytes : List Byte) : State :=
  let h := Header.ofBytes bytes
  let redo := ((gateMark (s.gate g) h.ctx step).map (fun m => m.redo || m.verdict == some .fail)).getD false
  let b : HeldBlock := ⟨stream, h.ctx, step, h.priv, bytes, s.now, false, false, redo⟩
  if (s.gate g).outside.isEmpty && s.gateFits g b then (s.gateTake g b).gateSettle g
  else s.updGate g (fun x => { x with outside := x.outside ++ [b] })
/-- GATE_BLOCK_ARRIVE. -/
def execGateBlockArrive (g : GateId) (stream : BitVec 12) (step : Step) (bytes : List Byte) (s : State) :
    Outcome State Fault Refusal :=
  .next (gateBlockArrive s g.val stream.toNat step.toNat bytes)

/-- GATE_VERDICT (R106): PASS releases the step's blocks, FAIL discards the original ones and lets the re-executed ones
pass, WITHHOLD discards them with one notice (assumption 21). -/
def gateVerdict (s : State) (g c t : Nat) (v : GateVerdict) : State :=
  let mark := (gateMark (s.gate g) c t).getD ⟨c, t, none, false, false⟩
  let s := s.updGate g (fun x => putMark x { mark with verdict := some v })
  let mine := fun b : HeldBlock => b.priv && !b.ready && b.ctx == c && b.step == t
  let s := match v with
    | .pass => s.updGate g (fun x => { x with held := x.held.map (fun b => if mine b then { b with ready := true } else b) })
    | .fail => (s.gateDiscard g (fun b => mine b && !b.redo)).updGate g (fun x =>
        { x with held := x.held.map (fun b => if mine b then { b with ready := true } else b) })
    | .withhold r => s.gateWithhold g c t r.val (fun b => b.priv && !b.ready)
  s.gateSettle g
/-- GATE_VERDICT. -/
def execGateVerdict (g : GateId) (ctx : Ctx) (step : Step) (v : GateVerdict) (s : State) : Outcome State Fault Refusal :=
  .next (gateVerdict s g.val ctx.toNat step.toNat v)
/-- A verdict sent to every gate cell of a region (R227). -/
def State.verdictTo (s : State) (r c t : Nat) (v : GateVerdict) : State :=
  s.each (s.gatesOf r) (fun s g => gateVerdict s g c t v)

/-- Repeats of a step have been asked for: what its gate cells take from now on is re-executed (R106, R603). -/
def State.markRedo (s : State) (r c t : Nat) : State :=
  s.each (s.gatesOf r) (fun s g => s.updGate g (fun x =>
    putMark x { (gateMark x c t).getD ⟨c, t, none, false, false⟩ with redo := true }))

/-- GATE_BACKSTOP (R107): the oldest held block without a verdict has waited HCH_BACKSTOP and is withheld with reason 2. -/
def gateBackstop (s : State) (g : Nat) : State :=
  match (s.gate g).held.find? (fun b => !b.ready) with
  | none => s
  | some b => (s.gateWithhold g b.ctx b.step 2 (fun y => y.priv && !y.ready && y.arrived == b.arrived)).gateSettle g
/-- GATE_BACKSTOP. -/
def execGateBackstop (g : GateId) (s : State) : Outcome State Fault Refusal := .next (if s.unitStopped (uHAL (s.gateRegion g.val)) then s else gateBackstop s g.val)

/-- Every held privileged block of a gate cell that `f` picks is withheld with a reason, a notice for each (CTX, STEP) (R374, R381). -/
def State.gateWithholdAll (s : State) (g reason : Nat) (f : HeldBlock → Bool) : State :=
  let pairs := (((s.gate g).held.filter (fun b => !b.notice && f b)).map (fun b => (b.ctx, b.step))).eraseDups
  (s.each pairs (fun s p => s.gateWithhold g p.1 p.2 reason f)).gateSettle g
/-- The gate cells of a region close with a reason (R65, R119, R374). -/
def State.closeGates (s : State) (r reason : Nat) : State :=
  s.each (s.gatesOf r) (fun s g => s.gateWithholdAll g reason (fun b => b.priv && !b.ready))
/-- Blocks in a gate cell for a context are dealt with anew, after its gate mode or taint changed: every block of it,
where the mode concerns all of them, else the privileged ones that are held; of a tainted context those too that have passed and wait in their stream
(R254, R268, R371, R383). -/
def State.regateAt (s : State) (c g : Nat) : State :=
  let all := (s.ctx c).gate == 1 || (s.ctx c).gate == 2
  let f := fun b : HeldBlock => b.ctx == c && (all || (b.priv && (!b.ready || (s.ctx c).taint.isSome)))
  let mine := (s.gate g).held.filter (fun b => !b.notice && f b)
  if mine.isEmpty then s
  else
    let steps := (mine.map (·.step)).eraseDups
    (s.each steps (fun s t => match mine.find? (fun b => b.step == t) with
      | none => s
      | some b => match s.gateAct g b with
        | .discard => s.gateDiscard g (fun y => f y && y.step == t)
        | .withhold r => s.gateWithhold g c t r f
        | _ => s)).gateSettle g
/-- The same in every gate cell. -/
def State.regate (s : State) (c : Nat) : State := s.each allGates (fun s g => s.regateAt c g)
/-- Every held block is released: the Hatch has been disabled (R107). -/
def State.openGates (s : State) : State :=
  s.each allGates (fun s g =>
    (s.updGate g (fun x => { x with held := x.held.map (fun b => { b with ready := true }) })).gateSettle g)

end Sys2Proof.Machine
end

