-- ==== Sys2Proof/Machine/Wrapper.lean ====
section
/-! DEFINITION. The Tap as wrapper controller of its core: what a slice's instruction stream drives on the wrapper's pins (R92, R322, R345). -/
namespace Sys2Proof.Machine
open Sys2Proof

/-- The wrapper held in reset for a cycle (R320, R325). -/
def wrapReset : WrapOp := ⟨false, false, false, false, false, 0, 1, false, .none⟩
/-- Cycles with no strobe. -/
def wrapIdle (wpc n : Nat) : WrapOp := ⟨true, false, false, false, false, wpc, n, false, .none⟩
/-- Shift cycles. -/
def wrapShift (wpc n : Nat) (wide : Bool) (d : WrapData) : WrapOp := ⟨true, false, false, true, false, wpc, n, wide, d⟩
/-- The wrapper instruction register shifted, least significant bit first, and updated (R345; PRESUMED, assumption 179: 16 cycles and an update, as IEEE 1500 loads it). -/
def wrapWir (wpc x : Nat) : List WrapOp :=
  [⟨true, true, false, true, false, wpc, 16, false, .lit [x % 2 ^ 16]⟩, ⟨true, true, false, false, true, wpc, 1, false, .none⟩]
/-- What an instruction stream drives, in order (R345): `w` bits a cycle, the at-speed code of the band, WPC as it stands; the first argument bounds the walk. -/
def wrapOps (w margin : Nat) : Nat → Nat → List Nat → List WrapOp
  | 0, _, _ => []
  | _ + 1, _, [] => []
  | f + 1, wpc, x :: xs =>
    let n := x % 2 ^ 24 + 1
    let wide := w == 32
    match x / 2 ^ 28 % 16 with
    | 1 => wrapWir wpc x ++ wrapOps w margin f wpc xs
    | 2 => wrapShift wpc n wide (.lit (xs.take ((n * w + 31) / 32))) :: wrapOps w margin f wpc (xs.drop ((n * w + 31) / 32))
    | 3 => wrapShift wpc n wide (.fill (bit x 27)) :: wrapOps w margin f wpc xs
    | 4 => wrapShift wpc n wide (.lfsr (xs.headD 0)) :: wrapOps w margin f wpc (xs.drop 1)
    | 5 =>
      let c := if bit x 27 then margin else x % 256
      ⟨true, false, true, false, false, c, 1, false, .none⟩ :: wrapOps w margin f c xs
    | 6 => ⟨true, false, false, false, true, wpc, 1, false, .none⟩ :: wrapOps w margin f wpc xs
    | 7 => wrapOps w margin f (x % 256) xs
    | 8 => wrapIdle wpc n :: wrapOps w margin f wpc xs
    | 9 => wrapOps w margin f wpc xs   -- MASKRUN drives nothing: maskRuns
    | _ => []
/-- The next state of the LFSR x^32 + x^22 + x^2 + x + 1 (R345; DESIGN CHOICE, assumption 179: shifted toward bit 0, the sum of the taps into bit 31). -/
def lfsrNext (x : Nat) : Nat :=
  x / 2 + (if Nat.xor (Nat.xor (b2 x 0) (b2 x 1)) (Nat.xor (b2 x 2) (b2 x 22)) = 1 then 2 ^ 31 else 0)
where
  /-- A bit as a number. -/
  b2 (x i : Nat) : Nat := x / 2 ^ i % 2
/-- An LFSR after `n` bits. -/
def lfsrAt (seed : Nat) : Nat → Nat
  | 0 => seed % 2 ^ 32
  | n + 1 => lfsrNext (lfsrAt seed n)
/-- Bit `i` of what goes in. -/
def dataBit : WrapData → Nat → Bool
  | .none, _ => false
  | .lit ws, i => bit (ws.getD (i / 32) 0) (i % 32)
  | .fill b, _ => b
  | .lfsr s, i => bit (lfsrAt s i) 0
/-- WSI, or WPI where the slice is parallel, in a cycle of a controller's operation. -/
def wrapInput (o : WrapOp) (cycle : Nat) : Nat :=
  let w := if o.wide then 32 else 1
  (List.range w).foldl (fun a j => if dataBit o.data (w * cycle + j) then a + 2 ^ j else a) 0
/-- What a Tap drives from reset of the wrapper to the end of a slice (R92, R345). -/
def sliceOps (x : GristSlice) (margin : Nat) : List WrapOp :=
  wrapOps (if x.mode = 1 then 32 else 1) margin (x.words.length + 1) 0 x.words
/-- The runs of response bits that an instruction stream masks (R345): first bit, number, and the first bit of the mask data where they are used; `pos` response bits
have come and `used` bits of the mask data been taken; the first argument bounds the walk. DEDUCED (assumption 201): a shift cycle of opcodes 2 to 4 brings one response
bit, or 32 where the slice is parallel. -/
def maskRuns (w : Nat) : Nat → Nat → Nat → List Nat → List (Nat × Nat × Option Nat)
  | 0, _, _, _ => []
  | _ + 1, _, _, [] => []
  | f + 1, pos, used, x :: xs =>
    let n := x % 2 ^ 24 + 1
    match x / 2 ^ 28 % 16 with
    | 0 => []
    | 2 => maskRuns w f (pos + n * w) used (xs.drop ((n * w + 31) / 32))
    | 3 => maskRuns w f (pos + n * w) used xs
    | 4 => maskRuns w f (pos + n * w) used (xs.drop 1)
    | 9 => if bit x 27 then (pos, n, some used) :: maskRuns w f pos (used + n) xs else (pos, n, none) :: maskRuns w f pos used xs
    | _ => maskRuns w f pos used xs
/-- A response bit is masked by a run; DESIGN CHOICE (assumption 201): a mask bit of 1 excludes, taken from bit 0 of each byte. -/
def maskedBy (mask : List Byte) (i : Nat) (r : Nat × Nat × Option Nat) : Bool :=
  decide (r.1 ≤ i ∧ i < r.1 + r.2.1) && match r.2.2 with
    | none => true
    | some u => bit (mask.getD ((u + i - r.1) / 8) 0#8).toNat ((u + i - r.1) % 8)
/-- The response bits of a slice that are compacted: the first RBITS, less the masked ones (R323, R344, R345). -/
def unmasked (g : GristSlice) (resp : List Bool) : List Bool :=
  let runs := maskRuns (if g.mode = 1 then 32 else 1) (g.words.length + 1) 0 0 g.words
  let r := resp.take g.rbits
  (List.range r.length).filterMap (fun i => if runs.any (maskedBy g.mask i) then none else r[i]?)
/-- Bits packed from bit 0 of each byte, the last byte padded with zeros (R323). -/
def packBits (l : List Bool) : List Byte :=
  (List.range ((l.length + 7) / 8)).map (fun i => BitVec.ofNat 8 ((List.range 8).foldl (fun a j => if l.getD (8 * i + j) false then a + 2 ^ j else a) 0))
/-- The signature of response bits: CRC-64/XZ (R323). -/
def respSig (l : List Bool) : Nat := crcOf crc64xz (packBits l)

end Sys2Proof.Machine
end

