-- ==== Sys2Proof/Machine/SteepRun.lean ====
section
/-! DEFINITION. Steeps that run: how one ends or is abandoned, and the registers that follow (R324-R327, R340, R350). -/
namespace Sys2Proof.Machine
open Sys2Proof

/-- The steep engine that tests a unit: its Taster's for a core, its Hall's for a Taster, its own for a Cellar or a Door (R319, R332). -/
def engineOf (p : Nat) : Nat :=
  match puidKind p with
  | 0 => uTST (puidMajor p)
  | 2 => uHAL (regionOfCluster (puidMajor p))
  | 5 => uCEL (puidMajor p)
  | _ => uDOR (puidMajor p)
/-- Region of a steep engine. -/
def regionOfEngine (e : Nat) : Nat :=
  if uTST 0 ≤ e then regionOfCluster (e - uTST 0)
  else if uCEL 0 ≤ e then regionOfStack (e - uCEL 0)
  else if uDOR 0 ≤ e then regionOfDoor (e - uDOR 0)
  else e - uHAL 0
/-- The steep that tests a unit now. -/
def State.runOf (s : State) (p : Nat) : Option StpRun :=
  match s.eng (engineOf p) with
  | some x => if x.unit = p then some x else none
  | none => none
/-- A core's own part in a steep that is over: its wrapper is reset and off; before the swap its fence falls; after it the core is in
reset, a free spare or still fenced; a forced one takes its logical core back (R325-R329). -/
def State.stpRelease (s : State) (x : StpRun) : State :=
  let k := puidMajor x.unit
  let p := puidMinor x.unit
  if puidKind x.unit ≠ 0 then s
  else
    let c := ckey k p
    let out := (s.unit x.unit).fenced || (s.unit x.unit).perm
    let s := if (s.core c).wrapEn then s.emit (.wrap k p [wrapReset]) else s
    match x.forced with
    | some l =>
      if out then s.updCore c (fun y => { y with wrapEn := false })
      else (s.updCore c (fun y => { y with wrapEn := false, fence := false, rst := false })).updPort k (fun y => { y with
        coreShadow := y.coreShadow ++ [(l, p + 1024)], commit := true })
    | none => s.updCore c (fun y => { y with wrapEn := false, fence := if y.rst then y.fence else out })
/-- An adoption ends: the Taster is back in service (R265). -/
def State.unadopt (s : State) (k : Nat) : State :=
  match (s.adjOf k).adopter with
  | none => s
  | some t =>
    let s := (s.updAdjOf k (fun a => { a with adopter := none })).updAdjOf t (fun a => { a with adopted := none })
    s.raiseOnce 0 0x4040 (puTst t) k
/-- The spare that a cluster's steep had borrowed is its own again (R260). -/
def State.unlend (s : State) (k : Nat) : State :=
  s.each ((Tab.range (1024 * k) (1024 * (k + 1)) s.cores).filter (fun e => e.2.lent)) (fun s e => s.updCore e.1 (fun c => { c with lent := false }))
/-- A Door's lanes leave loop-back: one that dropped for it returns without an event, 3 until then (R336). -/
def State.loopsOut (s : State) (n : Nat) : State :=
  s.updDoor n (fun d => { d with lb := (List.range 4).map (fun l => if d.lb.getD l 0 = 0 ∨ bit d.lanes l then 0 else 3) })
/-- An aborted slice ends its attempt with the unit held in reset until its next window (R320): a Taster's adoption lasts, a forced core's entry stays invalid, and
a Door's lanes leave loop-back. DESIGN CHOICE (assumption 203): a unit so held is still under steep as PG_STAT shows it. -/
def State.stpHold (s : State) (e : Nat) : State :=
  match s.eng e with
  | none => s
  | some x =>
    let k := puidMajor x.unit
    let p := puidMinor x.unit
    let s := s.updEng e (fun _ => none)
    if puidKind x.unit = 6 then s.loopsOut k
    else if puidKind x.unit ≠ 0 then s
    else (((s.emit (.wrap k p [wrapReset])).unlend k).updCore (ckey k p) (fun c => { c with wrapEn := false, rst := true })).updStpOf x.unit
      (fun y => { y with back := x.forced })
/-- A steep is over, however it ended: its engine is free and its unit no longer under steep; a Taster that is trusted
takes its cluster back (R332); a Door's lanes leave loop-back. -/
def State.stpEnd (s : State) (e : Nat) : State :=
  match s.eng e with
  | none => s
  | some x =>
    let s := (s.updEng e (fun _ => none)).setUnit x.unit (fun u => { u with steep := false })
    let s := if puidKind x.unit = 2 && s.tstTrusted (puidMajor x.unit) then s.unadopt (puidMajor x.unit) else s
    let s := if puidKind x.unit = 6 then s.loopsOut (puidMajor x.unit) else s
    let s := if puidKind x.unit = 0 then s.unlend (puidMajor x.unit) else s
    s.stpRelease x
/-- Slices passed so far are discarded: the unit was reset by something other than its steep (R324). -/
def State.stpDiscard (s : State) (p : Nat) : State := s.updStpOf p (fun x => { x with passed := 0, tapPassed := 0, tapBad := false })
/-- A steep is abandoned: 0x7014 with the reason of R340; a region reset discards the slices passed and leaves a forced core under its logical core; a Taster that becomes
suspect leaves its core first in the queue. -/
def State.stpAbandon (s : State) (e reason : Nat) : State :=
  match s.eng e with
  | none => s
  | some x =>
    let s := s.raiseOnce 0 0x7014 x.unit reason x.slice
    let s := if reason = 1 then s.stpDiscard x.unit else s
    let s := (s.stpEnd e).updStpOf x.unit (fun y => { y with deferred := if reason = 3 then 0 else s.now, head := y.head || reason == 3 })
    match reason, x.forced with
    | 1, some l => s.updPort (puidMajor x.unit) (fun y => { y with coreLive := Tab.insert l (puidMinor x.unit + 1024) y.coreLive })
    | _, _ => s
/-- A unit held since an aborted slice is held no longer, its region being reset (R320, R324). -/
def State.stpLet (s : State) (p : Nat) : State :=
  let s := match (s.stpOf p).back with
    | some l => s.updPort (puidMajor p) (fun y => { y with coreLive := Tab.insert l (puidMinor p + 1024) y.coreLive })
    | none => s
  ((s.stpDiscard p).updStpOf p (fun x => { x with back := none })).setUnit p (fun u => { u with steep := false })
/-- Every steep of a region is abandoned (R340); a region reset ends what aborted slices left held. -/
def State.stpAbandonRegion (s : State) (r reason : Nat) : State :=
  let s := s.each ((s.engs.filter (fun e => e.2.isSome && regionOfEngine e.1 == r)).map (·.1)) (fun s e => s.stpAbandon e reason)
  if reason ≠ 1 then s else s.each ((s.units.filter (fun e => e.2.steep && regionOfPuid e.1 == r)).map (·.1)) (fun s p => s.stpLet p)
/-- A running steep of a unit is over because the unit is fenced by a verdict (R270, R340). -/
def State.stpFenced (s : State) (p : Nat) : State :=
  match s.runOf p with
  | some _ => s.stpEnd (engineOf p)
  | none => s

end Sys2Proof.Machine
end

