-- ==== Sys2Proof/Machine/Taps.lean ====
section
/-! DEFINITION. Taps: coverage contexts, products, accumulations, rounding steps, closure and reports (chapter 04, R76-R93, R158-R188). -/
namespace Sys2Proof.Machine
open Sys2Proof Host

/-- The Tap checks: it is neither absent, off, under steep, fenced nor permanent (R77, R253, R260). -/
def State.tapChecks (s : State) (k p : Nat) : Bool :=
  let u := s.unit (puTap k p)
  !(u.absent || u.off || u.steep || u.fenced || u.perm || u.scan)
/-- A declared port latency: sideband 0, exact partial 1, discard 2, command 3 (R76). -/
def State.latency (s : State) (i : Nat) : Nat := s.variant.latency.getD i 0
/-- The greatest declared latency of a Tap's ports: what all of them describe of a region cycle is known that many cycles after it (R76, R169, R188). -/
def State.tapLag (s : State) : Nat := max (max (s.latency 0) (s.latency 1)) (max (s.latency 2) (s.latency 3))
/-- Work units that the residue queue holds, and that drain in a region cycle (R178). -/
def tapQueue : Nat := 128
def tapDrain : Nat := 16

/-- The invocation in progress in a cycle (R169). -/
def invAt (t : TapSt) (c : Nat) : Option Inv :=
  t.invs.find? (fun v => decide (v.start ≤ c) && (match v.end_ with | none => true | some e => decide (c ≤ e)))
/-- An invocation, named by its first cycle, changed. -/
def State.updInv (s : State) (k p st : Nat) (f : Inv → Inv) : State :=
  s.updTap (ckey k p) (fun t => { t with invs := t.invs.map (fun v => if v.start = st then f v else v) })
/-- The residue queue drained up to a cycle (R178). -/
def State.tapDrainTo (s : State) (k p cyc : Nat) : State :=
  s.updTap (ckey k p) (fun t => { t with drained := min t.qin (t.drained + tapDrain * (cyc - t.cyc)), cyc := max t.cyc cyc })

/-- A mismatch: counted, kept as the last, and sent as an alarm while the invocation has sent fewer than four; the
first of RKIND 1-4 carries the unit capture (R187, R189, R238). -/
def State.tapMismatch (s : State) (k p st rkind pred obs pos seq idx port : Nat) (cap : Capture) : State :=
  match (s.tap (ckey k p)).invs.find? (fun v => v.start == st) with
  | none => s
  | some v =>
    let u := uTAP k p
    let pos := pos % 2 ^ 14
    let s := s.count u TAP_RES_MISM_COUNT
    let s := ((s.wr u TAP_RES_LAST_RKIND rkind).wr u TAP_RES_LAST_PRED pred).wr u TAP_RES_LAST_OBS obs
    let s := (s.wr u TAP_RES_LASTPOS_CMDID v.cmd).wr u TAP_RES_LASTPOS_POS pos
    let take := decide (rkind ≤ 4) && !v.captured
    let s := s.updInv k p st (fun v =>
      { v with mism := v.mism + 1, alarms := v.alarms + (if v.alarms < 4 then 1 else 0), captured := v.captured || take })
    if v.alarms < 4 then
      s.updTap (ckey k p) (fun t =>
        { t with alarms := t.alarms ++ [Alarm.make v.cmd p rkind pred obs pos seq idx port (if take then cap else .none)]
                 latched := if take then some v.cmd else t.latched })
    else s
/-- A product of an invocation is skipped: it is counted, and the invocation is not closed (R167, R175). -/
def State.tapSkip (s : State) (k p st : Nat) (early : Bool) : State :=
  (s.count (uTAP k p) TAP_RES_SKIPPED_COUNT).updInv k p st (fun v =>
    { v with skipped := v.skipped + 1, early := v.early + (if early then 1 else 0) })
/-- A discard presentation of an invocation is skipped: it is counted, and the invocation is not closed; no unit is skipped by it (R85, R167, R175, R185). -/
def State.tapPreskip (s : State) (k p st : Nat) (early : Bool) : State :=
  (s.count (uTAP k p) TAP_RES_SKIPPED_COUNT).updInv k p st (fun v =>
    { v with preskip := v.preskip + 1, early := v.early + (if early then 1 else 0) })
/-- A command's CMDID lies in the range declared for repeats (R243). -/
def State.repeatCmd (s : State) (cmd : Nat) : Bool :=
  decide (s.variant.rptBase ≤ cmd ∧ cmd < s.variant.rptBase + s.variant.rptCount)
/-- A result that the core presents in a repeat is latched as the repeat capture (R242). -/
def State.tapLatch (s : State) (k p cmd : Nat) (v : CaseVal) : State :=
  if s.repeatCmd cmd then s.updTap (ckey k p) (fun t => { t with rpt := some v }) else s

/-- The rotation divisor of a unit that opens now (R180): Small uses 4; Strong, Session and every PRIV command ⌈k / C⌉; a repeat is
checked at q = 1 (R243). -/
def divisor (rep : Bool) (v : Inv) (k c : Nat) : Nat :=
  let priv := match v.ctx with | some x => x.priv | none => false
  if rep then 1 else if v.posture = .small ∧ !priv then 4 else max 1 ((k + c - 1) / c)
/-- A unit with ordinal `n` is covered (R181). -/
def coveredAt (step12 n q : Nat) : Bool := (n + step12) % 12 % q == 0
/-- The most products issued in one cycle among the current one and the 15 before it (R180). -/
def peak (ks : List (Nat × Nat)) (c : Nat) : Nat :=
  ((ks.filter (fun e => decide (c ≤ e.1 + 15 ∧ e.1 ≤ c))).map (·.2)).foldl max 0
/-- A unit counted as covered or rotated out as it opens (R181, R189); without a context it is neither (R602; assumption 19). -/
def State.tapOpen (s : State) (k p : Nat) (v : Inv) (q : Nat) (cov : Bool) : State :=
  let u := uTAP k p
  let s := if v.ctx.isNone then s
    else (if cov then s.count u TAP_RES_COVERED_COUNT else s.count u TAP_RES_ROTATED_COUNT).wr u TAP_RES_STAT_LASTQ q
  s.updInv k p v.start (fun v =>
    if v.ctx.isNone then { v with ord := v.ord + 1 }
    else { v with ord := v.ord + 1, q := max v.q q, covered := v.covered + (if cov then 1 else 0), rotated := v.rotated + (if cov then 0 else 1) })

/-- Room for a product's work units, or the unit is dropped with 0x2014 (R182). -/
def State.tapRoom (s : State) (k p need : Nat) : Bool :=
  let t := s.tap (ckey k p)
  decide (t.qin - t.drained + need ≤ tapQueue)
/-- A unit dropped (R182). -/
def State.tapDropped (s : State) (k p st : Nat) : State :=
  let u := uTAP k p
  let s := (s.count u TAP_RES_DROPPED_COUNT).updInv k p st (fun v => { v with dropped := v.dropped + 1 })
  s.raiseOnce 0 0x2014 (puTap k p) (s.cnt u TAP_RES_DROPPED_COUNT) (s.cnt u TAP_RES_COVERED_COUNT)
/-- Work units queued. -/
def State.tapQueued (s : State) (k p need : Nat) : State := s.updTap (ckey k p) (fun t => { t with qin := t.qin + need })
/-- An accumulation of an invocation changed. -/
def State.updAcc (s : State) (k p st idx : Nat) (f : AccUnit → AccUnit) : State :=
  s.updInv k p st (fun v => { v with accs := v.accs.map (fun a => if a.idx = idx ∧ a.closed.isNone then f a else a) })

/-- A unit of its own joins an invocation; its residue is a term of the closure (R168, R174). -/
def State.tapUnit (s : State) (k p st seq lane : Nat) (r : Nat) (cap : CapProd) (cov dropped spoiled : Bool) : State :=
  s.updInv k p st (fun v => { v with
    prods := v.prods ++ [⟨seq, lane, v.ord - 1, r, cap, cov, dropped, spoiled⟩]
    leafSum := (v.leafSum + r) % resMod })
/-- One product in its lane (R164-R168, R178-R182, R602). `kwin` is the peak of R180, `n` the lane count of R178. A product of a unit that is
rotated out or dropped is not looked at, so neither a non-finite code nor another scale pair of it counts as skipped (R181, R182; DESIGN CHOICE, assumption 208:
R167 does not tell such units apart). -/
def State.tapProduct (s : State) (k p st kwin n : Nat) (unknown wide : Bool) (c : Nat) (iss : IssueCycle) (lane : Nat) : State :=
  match (s.tap (ckey k p)).invs.find? (fun v => v.start == st) with
  | none => s
  | some v =>
    let need := 64 / n
    let q := divisor (s.repeatCmd v.cmd) v kwin (n / 4)
    let cov := match v.ctx with | some x => coveredAt x.step12 v.ord q | none => false
    let seq := iss.seq.toNat
    if wide then
      -- each product is its own unit (R168)
      let s := s.tapOpen k p v q cov
      let cp := iss.prod lane 0
      if v.ctx.isNone then s.tapSkip k p st true
      else if !cov then s.tapUnit k p st seq lane 0 cp cov false false
      else match capVal cp with
        | none => (s.tapUnit k p st seq lane 0 cp cov false true).tapSkip k p st false
        | some e =>
          if s.tapRoom k p need then (s.tapUnit k p st seq lane (rho e) cp cov false false).tapQueued k p need
          else (s.tapUnit k p st seq lane 0 cp cov true false).tapDropped k p st
    else
      let cp := iss.prod lane 0
      let idx := cp.acc
      let isOpen := v.accs.any (fun a => a.idx == idx && a.closed.isNone)
      let s := if isOpen then s
        else (s.tapOpen k p v q cov).updInv k p st (fun w => { w with
          accs := w.accs ++ [⟨idx, v.ord, cp.sa, cp.sx, 0, cov, false, v.ctx.isNone, seq, 0, c, 0, [], none⟩] })
      match ((s.tap (ckey k p)).invs.find? (fun v => v.start == st)).bind
          (fun v => v.accs.find? (fun a => a.idx == idx && a.closed.isNone)) with
      | none => s
      | some a =>
        if v.ctx.isNone then (s.updAcc k p st idx (fun a => { a with spoiled := true })).tapSkip k p st true
        else if unknown then (s.updAcc k p st idx (fun a => { a with spoiled := true })).tapSkip k p st false
        else if !a.covered || a.dropped then s
        else if a.sa ≠ cp.sa ∨ a.sx ≠ cp.sx then
          ((s.updAcc k p st idx (fun a => { a with spoiled := true })).tapSkip k p st false).raiseOnce 0 0x2010 (puTap k p)
            v.cmd idx (cp.sa * 256 + cp.sx)
        else match capVal cp with
          | none => (s.updAcc k p st idx (fun a => { a with spoiled := true })).tapSkip k p st false
          | some e =>
            if s.tapRoom k p need then
              let s := s.tapQueued k p need
              let pos := (s.tap (ckey k p)).qin
              s.updAcc k p st idx (fun a => { a with
                pred := (a.pred + rho e) % resMod, pos := pos, count := a.count + 1
                prods := if a.count < 64 then a.prods ++ [iss.prod lane (c - a.first)] else a.prods })
            else (s.updAcc k p st idx (fun a => { a with dropped := true })).tapDropped k p st

/-- The comparison of a closed accumulation (R166, R167): none of an uncovered, dropped or spoiled one. -/
def State.tapCompare (s : State) (k p st : Nat) (a : AccUnit) (acc e : Int) : State :=
  let o := resRot (rho ⟨acc, 0⟩) (e + a.sa + a.sx - 254)
  if !a.covered || a.dropped || a.spoiled || a.pred == o then s
  else s.tapMismatch k p st 1 a.pred o a.ord a.seq a.idx 7 (.acc a.prods (decide (a.count ≤ 64)) a.idx a.sa a.sx acc e)
/-- Held comparisons of accumulations whose last product has left the queue are made (R188). -/
def State.tapSettle (s : State) (k p : Nat) : State :=
  let t := s.tap (ckey k p)
  s.each t.invs (fun s v =>
    s.each (v.accs.filter (fun a => a.closed.isSome && decide (a.pos ≤ t.drained))) (fun s a => match a.closed with
      | some (acc, e) => (s.tapCompare k p v.start a acc e).updInv k p v.start (fun w => { w with accs := w.accs.filter (fun b => b.ord != a.ord) })
      | none => s))

/-- The invocation fits the closure check (R175): it names a loaded tree within one core, and none of its units was rotated out or dropped, none of
its products and presentations skipped. -/
def canClose (v : Inv) : Bool :=
  (match v.ctx with
    | some x => (match x.tree with | some t => t.isLocal | none => false)
    | none => false) && v.rotated == 0 && v.dropped == 0 && v.skipped == 0 && v.preskip == 0
/-- An invocation ends: the closure check where R175 allows it, the summary and the usage report (R174, R175, R185, R187, R408). 0x2013 is raised here,
once, with the count of the whole invocation, so not at all where the core is reset first (DESIGN CHOICE, assumption 208: R191 names no moment). -/
def State.tapFinish (s : State) (k p : Nat) (v : Inv) : State :=
  let u := uTAP k p
  let rhs := (v.finalSum + v.dSum) % resMod
  let closed := canClose v && v.leafSum == rhs
  let open_ := canClose v && !closed
  let s := if closed then s.count u TAP_RES_CLOSED_COUNT else s
  let s := if open_ then s.tapMismatch k p v.start 5 v.leafSum rhs 0 0 0 7 .none else s
  let priv := match v.ctx with | some x => x.priv | none => false
  let inc := priv && (v.dropped != 0 || v.skipped != 0)
  let s := if v.early = 0 then s else s.raiseOnce 0 0x2013 (puTap k p) v.cmd v.early
  s.updTap (ckey k p) (fun t => { t with
    invs := t.invs.filter (fun w => w.start != v.start)
    summaries := t.summaries ++ [Summary.make v.cmd p v.covered v.rotated v.dropped v.skipped v.dsc v.q closed inc (v.mism + if open_ then 1 else 0)
      v.leafSum v.finalSum]
    usages := t.usages ++ [⟨v.cmd, (v.end_.getD v.start) + 1 - v.start, v.products, v.l0rd, v.l0wr, t.btrd, t.btwr⟩]
    btrd := 0, btwr := 0 })
/-- Every ended invocation that nothing keeps open finishes: its presentations have had their latency and its products
have drained (R188). -/
def State.tapFinishDone (s : State) (k p cyc : Nat) : State :=
  let t := s.tap (ckey k p)
  s.each (t.invs.reverse.filter (fun v => match v.end_ with
      | some e => decide (e + s.tapLag < cyc) && v.accs.all (fun a => a.closed.isNone)
      | none => false)) (fun s v =>
    match (s.tap (ckey k p)).invs.find? (fun w => w.start == v.start) with
    | some w => s.tapFinish k p { w with accs := w.accs }
    | none => s)
/-- A Tap up to a cycle: the queue drains, held comparisons are made, ended invocations finish. -/
def State.tapGo (s : State) (k p cyc : Nat) : State :=
  ((s.tapDrainTo k p cyc).tapSettle k p).tapFinishDone k p cyc

/-- An issue cycle (R79, R80, R164-R168, R178-R183, R602), by the cycle that it describes: a cycle without a valid lane issues nothing. Units
of the sequence number that it takes again are 256 issue cycles old and leave, so that a presentation matches the latest (R80, R84). DESIGN CHOICE (assumption 208): a product with
one wide operand (BF16, FP16, FP32) and one narrow is a unit of its own, as one with two wide operands is (R168 names operands of those formats and no mixed
product); and within a region cycle the queue drains before that cycle's products are queued (R178 gives no order). -/
def State.tapIssue (s : State) (k p c : Nat) (iss : IssueCycle) : State :=
  match invAt (s.tap (ckey k p)) c with
  | none => s
  | some v =>
    if !s.tapChecks k p || iss.lanes.isEmpty then s
    else
      let fa := iss.fmtA.toNat
      let fx := iss.fmtX.toNat
      let unknown := (numFmt fa).isNone || (numFmt fx).isNone
      let n := min (fmtLanes fa) (fmtLanes fx)
      let wide := !unknown && (fmtWide fa || fmtWide fx)
      let kc := iss.lanes.length
      let ks := (c, kc) :: v.ks.filter (fun e => decide (c ≤ e.1 + 15))
      let s := s.updInv k p v.start (fun v => { v with
        ks := ks, products := v.products + kc, prods := v.prods.filter (fun a => a.seq != iss.seq.toNat) })
      let s := if unknown then s.raiseOnce 0 0x2011 (puTap k p) v.cmd 1 (if (numFmt fa).isNone then fa else fx) else s
      let s := if v.limited && decide (n / 4 < kc) then s.raiseOnce 0 0x2012 (puTap k p) v.cmd kc (n / 4) else s
      s.each iss.lanes (fun s l => s.tapProduct k p v.start (peak ks c) n unknown wide c iss l)
/-- An accumulation closes (R166, R188), by the cycle that it is presented for: compared now, or held while products of it are still queued; an index with no
open accumulation is compared with zero under scales 0x7F. DESIGN CHOICE (assumption 208): the O of such an index is a leaf term of the closure, as it is one of the
observed residues of the invocation (R174 does not say whether it is one of its accumulations). -/
def State.tapClose (s : State) (k p c idx : Nat) (acc e : Int) : State :=
  match invAt (s.tap (ckey k p)) c with
  | none => s
  | some v =>
    if !s.tapChecks k p then s
    else match v.accs.find? (fun a => a.idx == idx && a.closed.isNone) with
      | none =>
        let o := resRot (rho ⟨acc, 0⟩) e
        let s := s.updInv k p v.start (fun v => { v with leafSum := (v.leafSum + o) % resMod })
        let s := s.tapLatch k p v.cmd (.exact ⟨acc, e⟩)
        if o = 0 then s else s.tapMismatch k p v.start 1 0 o 0x3FFF 0 idx 7 (.acc [] true idx 0x7F 0x7F acc e)
      | some a =>
        let o := resRot (rho ⟨acc, 0⟩) (e + a.sa + a.sx - 254)
        let s := (s.updAcc k p v.start idx (fun a => { a with closed := some (acc, e) })).updInv k p v.start
          (fun v => { v with leafSum := (v.leafSum + (if a.covered then o else 0)) % resMod })
        (s.tapLatch k p v.cmd (.exact ⟨acc, e + a.sa + a.sx - 254⟩)).tapSettle k p
/-- What a rounding step shows: not checkable, or the residues of its E, S and D, and whether |D| is in bound. -/
inductive StepCk where
  /-- TP_DSC_NF, or a code that decodes as non-finite while it is clear -/
  | nf (declared : Bool)
  /-- its result format bars the checks (R173); the residues of its D and, where it decodes, of its S -/
  | format (dres : Nat) (sres : Option Nat)
  | done (pred sres dres : Nat) (bound : Bool)
  deriving DecidableEq, Repr
/-- The checks of R171 and R173 on one presentation: kind, the exact product of KIND 2. A leaf conversion's operand is
presented as zero. A conversion into a format without elements has no S that decodes: it is skipped as non-finite, with reason 3 (DESIGN CHOICE, assumption 208:
R173 names such a format only for additions and product roundings). -/
def stepCheck (kind : Nat) (pres : DscPres) (prod : Dy) : StepCk :=
  let f := pres.sfmt.toNat
  let dres := discardRho pres (rho (stepQ kind pres prod))
  let sc := if fmtMx f then scaleExp (pres.b.toNat % 256) else some 0
  if pres.nf then .nf true
  else if kind ≠ 1 ∧ (ulpOf f 0).isNone then
    .format dres ((decodeDy f pres.s.toNat).bind (fun sv => sc.map (fun x => rho (sv.mul (Dy.pow2 x)))))
  else
    let fine := (kind = 2 || (decodeDy 0x01 pres.a.toNat).isSome) && (kind ≠ 0 || (decodeDy 0x01 pres.b.toNat).isSome)
    match decodeDy f pres.s.toNat, sc, fine with
    | some sv, some x, true =>
      let d := discardVal pres (stepQ kind pres prod)
      .done (rho (stepE kind pres prod)) (rho (sv.mul (Dy.pow2 x))) dres
        (kind == 1 || (match ulpOf f pres.s.toNat with | some u => d.abs.lt u | none => false))
    | _, _, _ => .nf false
/-- The final S of the closure's right side (R174). With an output conversion, or in a tree of one leaf, it is that of the conversion at the root or of a
leaf that a product rounding gives. Otherwise it is that of the last addition at the root: one that takes the S of the addition before it as an addend goes
on with its instance, up to one addition fewer than the fan-in, and takes its place (assumption 181). -/
def finalTerm (t : TapTree) (kind tag : Nat) (pres : DscPres) (sres : Nat) (v : Inv) : Inv :=
  if t.outconv || t.leaves == 1 then
    (if kind == 1 && tag == t.root || kind == 2 && !t.outconv then { v with finalSum := (v.finalSum + sres) % resMod } else v)
  else if kind == 0 && tag == t.root then
    let code := toF32 (decodeFV pres.sfmt.toNat pres.s.toNat)
    match v.rootS with
    | some (c, n) =>
      if n + 1 < t.fan ∧ (pres.a.toNat = c ∨ pres.b.toNat = c) then
        { v with finalSum := (v.finalSum + resMod - rho (f32 c).dy + sres) % resMod, rootS := some (code, n + 1) }
      else { v with finalSum := (v.finalSum + sres) % resMod, rootS := some (code, 1) }
    | none => { v with finalSum := (v.finalSum + sres) % resMod, rootS := some (code, 1) }
  else v

/-- The terms of a presentation on the closure's right side: its D, and its S where it is a final one (R174). -/
def stepTerms (tree : Option TapTree) (kind tag : Nat) (pres : DscPres) (dres : Nat) (sres : Option Nat) (v : Inv) : Inv :=
  let v := { v with dSum := (v.dSum + dres) % resMod }
  match tree, sres with
  | some t, some r => finalTerm t kind tag pres r v
  | _, _ => v
/-- A local check of a rounding step that fails its residue, its bound or both: each is a mismatch of its own (R171, R173). -/
def State.stepMismatch (s : State) (k p st kind tag port : Nat) (pres : DscPres) (u : Option ProdUnit) (pred obs : Nat) (bound : Bool) : State :=
  let cap := Capture.pres port pres (u.map (·.cap))
  let s := if pred = obs then s
    else match u with
      | some a => s.tapMismatch k p st 2 pred obs a.ord a.seq 0 port cap
      | none => s.tapMismatch k p st (if kind = 2 then 2 else 3) pred obs tag 0 0 port cap
  if bound then s else s.tapMismatch k p st 4 pred obs tag 0 0 port cap
/-- A discard presentation (R85, R167-R175), by the cycle that it describes: the residue check, the bound check and the terms of the closure. A reserved KIND, and an addition or
product rounding in a format without a bound, counts in TAP_RES_SKIPPED alone (assumption 180). A product rounding that matches no covered product is
not checked locally; its D counts in the closure with Q taken as zero (DESIGN CHOICE, assumption 208: R174 needs D, and Q is not known). -/
def State.tapPresent (s : State) (k p c port : Nat) (pres : DscPres) : State :=
  match invAt (s.tap (ckey k p)) c with
  | none => s
  | some v =>
    let st := v.start
    let kind := pres.kind.toNat
    let tag := pres.tag.toNat
    let unchecked (s : State) := (s.count (uTAP k p) TAP_RES_SKIPPED_COUNT).raiseOnce 0 0x2011 (puTap k p) v.cmd 2 port
    if !s.tapChecks k p then s
    else if kind = 3 then unchecked s
    else match v.ctx with
      | none => s.tapPreskip k p st true
      | some x =>
        let u := if kind = 2 then v.prods.find? (fun a => a.seq == tag / 64 && a.lane == tag % 64 && a.covered && !a.dropped && !a.spoiled) else none
        let e := (u.bind (fun a => capVal a.cap)).getD Dy.zero
        match stepCheck kind pres e with
        | .nf true => s.tapPreskip k p st false
        | .nf false => (s.tapPreskip k p st false).raiseOnce 0 0x2011 (puTap k p) v.cmd 3 port
        | .format dres sres => unchecked (s.updInv k p st (fun v => stepTerms x.tree kind tag pres dres sres v))
        | .done pred sres dres bound =>
          let s := s.updInv k p st (fun v => stepTerms x.tree kind tag pres dres (some sres) v)
          let s := s.tapLatch k p v.cmd (.step pres.s (discardVal pres (stepQ kind pres e)))
          let leaf := match x.tree with | some t => kind == 1 && decide (tag < t.leaves) | none => false
          if leaf || (kind == 1 && x.treeLost) || (kind == 2 && u.isNone) then s
          else
            ((s.count (uTAP k p) TAP_RES_DSC_COUNT).updInv k p st (fun v => { v with dsc := v.dsc + 1 })).stepMismatch k p st kind tag port pres u
              pred ((sres + dres) % resMod) bound
/-- What a port has presented takes its effect (R169). -/
def State.tapAct (s : State) (k p c : Nat) : TapIn → State
  | .product iss => s.tapIssue k p c iss
  | .close idx acc e => s.tapClose k p c idx acc e
  | .present port pres => s.tapPresent k p c port pres
/-- A held presentation's place among the others: by the cycle that it describes, then by port. -/
def heldKey (x : Nat × TapIn) : Nat := 4 * x.1 + x.2.rank
/-- A presentation put among those held. -/
def insertHeld (x : Nat × TapIn) : List (Nat × TapIn) → List (Nat × TapIn)
  | [] => [x]
  | y :: ys => if heldKey x < heldKey y then x :: y :: ys else y :: insertHeld x ys
/-- Time on a Tap: what ports of smaller latency have presented takes effect in the order of the cycles that it describes, once every port has shown those
cycles, and the Tap goes on to the cycle (R76, R169, R188). Of the cycle that all ports show just now, ports below `rank` have been heard. -/
def State.tapTo (s : State) (k p cyc rank : Nat) : State :=
  let lag := s.tapLag
  let ready (x : Nat × TapIn) : Bool := decide (heldKey x + 4 * lag < 4 * cyc + rank)
  let xs := (s.tap (ckey k p)).held.filter ready
  let s := if xs.isEmpty then s else s.updTap (ckey k p) (fun t => { t with held := t.held.filter (fun x => !ready x) })
  (s.each xs (fun s x => (s.tapGo k p (x.1 + lag)).tapAct k p x.1 x.2)).tapGo k p cyc
/-- Time on a Tap up to a cycle of which nothing has been heard yet. -/
def State.tapTime (s : State) (k p cyc : Nat) : State := s.tapTo k p cyc 0
/-- A port of declared latency `lat` presents in region cycle `cyc` what the core did `lat` cycles before (R76, R169). Where another port shows a cycle later, the
presentation is held until then. DESIGN CHOICE (assumption 197): of one region cycle a Tap hears the command port first, then products, accumulations and presentations. -/
def State.tapPort (s : State) (k p cyc lat : Nat) (x : TapIn) : State :=
  let s := s.tapTo k p cyc x.rank
  if lat = s.tapLag then s.tapAct k p (cyc - lat) x
  else s.updTap (ckey k p) (fun t => { t with held := insertHeld (cyc - lat, x) t.held })

/-- PRODUCT_ISSUE. -/
def execProductIssue (k : ClusterId) (p : CoreId) (cyc : Nat) (iss : IssueCycle) (s : State) : Outcome State Fault Refusal :=
  .next (s.tapPort k.val p.val cyc (s.latency 0) (.product iss))
/-- ACCUMULATION_CLOSE. -/
def execAccumulationClose (k : ClusterId) (p : CoreId) (cyc : Nat) (idx : Fin 64) (acc : BitVec 96) (exp : BitVec 10)
    (s : State) : Outcome State Fault Refusal :=
  .next (s.tapPort k.val p.val cyc (s.latency 1) (.close idx.val acc.toInt exp.toInt))
/-- DISCARD_PRESENTATION. -/
def execDiscardPresentation (k : ClusterId) (p : CoreId) (cyc : Nat) (port : Fin 6) (pres : DscPres) (s : State) :
    Outcome State Fault Refusal :=
  .next (s.tapPort k.val p.val cyc (s.latency 2) (.present port.val pres))
/-- RESIDUE_UNIT_DRAINED (R188): the queue has drained up to and with this cycle. It does so through a global stop, in which the Tap finishes its queued
products. -/
def execResidueUnitDrained (k : ClusterId) (p : CoreId) (cyc : Nat) (s : State) : Outcome State Fault Refusal :=
  .next (s.tapTo k.val p.val cyc 4)

/-- TP_ISS_LIMIT is driven: Strong posture in force on the core, or a PRIV context whose command has not ended, nor failed to start in time (R183, R184). -/
def State.issLimit (s : State) (k p : Nat) : Bool :=
  s.rd (uTAP k p) TAP_RES_STAT_POSTURE == 0 || !(s.tap (ckey k p)).driven.isEmpty
/-- The status fields that follow the issue limit. -/
def State.showLimit (s : State) (k p : Nat) : State := s.flag (uTAP k p) TAP_RES_STAT_LIMIT (s.issLimit k p)

/-- A command starts on a core, as its Tap sees it (R86, R87, R165, R180, R183, R184, R355). A command still in
progress there ends with the cycle before. The posture in force is the latest that its Hall has sent. TP_ISS_LIMIT was driven at the start as the
posture in force until then, or a PRIV context, had it (DESIGN CHOICE, assumption 208: R183 and R184 do not say whether the limit of a posture that takes effect
at this start already holds for this command). A repeat clears the repeat capture (R242). -/
def State.tapStart (s : State) (k p cyc cmd l0rd l0wr : Nat) : State :=
  let c := cyc - s.latency 3
  let s := (s.updTap (ckey k p) (fun t => { t with
    invs := t.invs.map (fun v => if v.end_.isNone then { v with end_ := some (c - 1) } else v)
    driven := t.driven.filter (fun x => !t.invs.any (fun v => v.end_.isNone && v.cmd == x)) })).tapTime k p cyc
  let u := uTAP k p
  let s := (s.count u TAP_L0_RD_BYTES l0rd).count u TAP_L0_WR_BYTES l0wr
  let lim := s.issLimit k p
  let po := s.posture (regionOfCluster k)
  let t := s.tap (ckey k p)
  let ctx := t.ctxs.find? (fun x => x.cmd == cmd)
  let rep := s.repeatCmd cmd
  let s := s.updTap (ckey k p) (fun t => { t with
    invs := ⟨cmd, c, none, po, lim, ctx, 0, [], [], [], 0, 0, 0, 0, 0, 0, 0, 0, 0, 0, false, 0, 0, 0, 0, none, 0, 0⟩ :: t.invs
    waiting := t.waiting.filter (fun w => w.1 != cmd)
    rpt := if rep then none else t.rpt
    btrd := t.btrd + l0rd, btwr := t.btwr + l0wr })
  let s := s.updCore (ckey k p) (fun x => { x with
    cmd := some cmd, startCyc := c, expired := false, cleared := false, wrapEn := false })
  let s := (s.wr u TAP_RES_STAT_POSTURE (match po with | .strong => 0 | .session => 1 | .small => 2)).flag u TAP_RES_STAT_BUSY true
  s.showLimit k p
/-- A command ends on a core, as its Tap sees it (R169, R188, R408). -/
def State.tapEnd (s : State) (k p cyc l0rd l0wr : Nat) : State :=
  let c := cyc - s.latency 3
  let u := uTAP k p
  let s := (s.count u TAP_L0_RD_BYTES l0rd).count u TAP_L0_WR_BYTES l0wr
  let s := s.updTap (ckey k p) (fun t => { t with
    invs := t.invs.map (fun v => if v.end_.isNone then { v with end_ := some c, l0rd := v.l0rd + l0rd, l0wr := v.l0wr + l0wr } else v)
    driven := t.driven.filter (fun x => !t.invs.any (fun v => v.end_.isNone && v.cmd == x)) })
  let s := (s.updCore (ckey k p) (fun x => { x with cmd := none })).flag u TAP_RES_STAT_BUSY false
  (s.tapTime k p cyc).showLimit k p
/-- A coverage context arrives at a Tap: it takes the place of the oldest one whose command is not in progress; a PRIV
one makes the Tap drive TP_ISS_LIMIT; an invocation that waits for it takes it (R179, R183). -/
def State.tapContext (s : State) (k p : Nat) (x : TapCtx) : State :=
  let t := s.tap (ckey k p)
  let run := t.invs.filterMap (fun v => if v.end_.isNone then some v.cmd else none)
  let others := t.ctxs.filter (fun y => y.cmd != x.cmd)
  let kept := if others.length < 4 then others
    else match others.reverse.find? (fun y => !run.contains y.cmd) with
      | some y => others.filter (fun z => z.cmd != y.cmd)
      | none => others.take 3
  let s := s.updTap (ckey k p) (fun t => { t with
    ctxs := x :: kept
    waiting := if x.priv && !run.contains x.cmd then t.waiting.filter (fun w => w.1 != x.cmd) ++ [(x.cmd, t.cyc)] else t.waiting
    driven := if x.priv then t.driven.filter (fun w => w != x.cmd) ++ [x.cmd] else t.driven
    invs := t.invs.map (fun v => if v.cmd = x.cmd ∧ v.ctx.isNone ∧ v.end_.isNone then { v with ctx := some x } else v) })
  s.showLimit k p
/-- ISSUE_LIMIT_EXPIRE (R183): the oldest waiting PRIV context has waited 4,096 region cycles, and its drive ends: a later start of its command brings it not back. -/
def issueLimitExpire (s : State) (k p : Nat) : State :=
  (s.updTap (ckey k p) (fun t => { t with
    driven := t.driven.filter (fun x => !(t.waiting.take 1).any (fun w => w.1 == x)), waiting := t.waiting.drop 1 })).showLimit k p
/-- ISSUE_LIMIT_EXPIRE. -/
def execIssueLimitExpire (k : ClusterId) (p : CoreId) (s : State) : Outcome State Fault Refusal :=
  .next (issueLimitExpire s k.val p.val)
/-- A core reset ends the Tap's open invocations: their state goes, no summary is sent, and the Taster counts each as
unchecked. One that has ended drains on, and a PRIV context still waits for its command (R183, R188). -/
def State.tapCoreReset (s : State) (k p : Nat) : State :=
  let n := ((s.tap (ckey k p)).invs.filter (fun v => v.end_.isNone)).length
  let s := (s.count (uTST k) TST_RES_UNCHECKED_COUNT n).updTap (ckey k p) (fun t => { t with
    invs := t.invs.filter (fun v => v.end_.isSome)
    driven := t.driven.filter (fun x => !t.invs.any (fun v => v.end_.isNone && v.cmd == x)) })
  (s.flag (uTAP k p) TAP_RES_STAT_BUSY false).showLimit k p

end Sys2Proof.Machine
end

