-- ==== Sys2Proof/Machine/Recover.lean ====
section
/-! DEFINITION. Context kills, core resets, replay sets and retirement (R361-R372, R383): the operations that hangs, verdicts, poison and larger resets share. -/
namespace Sys2Proof.Machine
open Sys2Proof Host

/-- Physical cores of a cluster with a command in progress, as (core, CMDID). -/
def State.running (s : State) (k : Nat) : List (Nat × Nat) :=
  (Tab.range (1024 * k) (1024 * (k + 1)) s.cores).filterMap (fun e => e.2.cmd.map (fun c => (e.1 % 1024, c)))
/-- Context of a command, 0 where no descriptor names it. -/
def State.ctxOfCmd (s : State) (k cmd : Nat) : Nat := ((s.descOf k cmd).map (·.ctx)).getD 0
/-- STEP of a command. -/
def State.stepOfCmd (s : State) (k cmd : Nat) : Nat := ((s.descOf k cmd).map (·.step)).getD 0
/-- Contexts with a command in progress or queued in a cluster, other than 0 and retired ones, ascending (R367). -/
def State.liveCtxs (s : State) (k : Nat) : List Nat :=
  let run := (s.running k).map (fun e => s.ctxOfCmd k e.2)
  let wait := ((s.rplOf k).cmds.filter (fun c => !c.started)).map (fun c => s.ctxOfCmd k c.cmd)
  sortBy (fun a b => decide (a ≤ b)) ((run ++ wait).filter (fun c => c != 0 && (s.ctx c).state != 2)).eraseDups
/-- Contexts with a command in progress on a core of the cluster (R367). -/
def State.runCtxs (s : State) (k : Nat) : List Nat :=
  sortBy (fun a b => decide (a ≤ b))
    (((s.running k).map (fun e => s.ctxOfCmd k e.2)).filter (fun c => c != 0 && (s.ctx c).state != 2)).eraseDups
/-- Clusters in which a context has a command. -/
def State.clustersWith (s : State) (c : Nat) : List Nat :=
  (s.rpl.filter (fun e => e.2.cmds.any (fun x => !x.ended && s.ctxOfCmd e.1 x.cmd == c))).map (·.1)

/-- A command of a core ends without completing: its invocation is gone, and once no core runs it the command itself (R188, R368; assumption 24). -/
def State.loseCommand (s : State) (k p : Nat) : State :=
  match (s.core (ckey k p)).cmd with
  | none => s.tapCoreReset k p
  | some cmd =>
    let s := (s.tapCoreReset k p).updCore (ckey k p) (fun x => { x with cmd := none, expired := false })
    if (s.running k).any (fun e => e.2 == cmd) then s else s.dropCmds k (· == cmd)

/-- A reset at engine level or wider covers a cluster. -/
def State.widerReset (s : State) (k : Nat) : Bool :=
  s.resets.any (fun x => (x.level == 2 && x.at_ == k) || (x.level == 3 && x.at_ == regionOfCluster k) || x.level == 4)
/-- A core reset is in progress. -/
def State.coreResetting (s : State) (k p : Nat) : Bool := s.resets.any (fun x => x.level == 1 && x.at_ == ckey k p)
/-- A core stays fenced, apart from resets (R78, R253, R260, R519, R524). -/
def State.coreOut (s : State) (k p : Nat) : Bool :=
  let u := s.unit (puCore k p)
  u.fenced || u.perm || u.steep || u.off
/-- The port scope that TS_DRAIN names: the first core reset of the cluster that still drains (R362). -/
def State.showDrain (s : State) (k : Nat) : State :=
  s.updPort k (fun x => { x with
    drain := (s.resets.find? (fun y => y.level == 1 && y.at_ / 1024 == k && y.step == 4)).map (fun y => y.at_ % 1024)
    absorb := s.resets.any (fun y => (y.level == 1 && y.at_ / 1024 == k && y.step == 5) || (y.level == 2 && y.at_ == k && y.step == 3)) })
/-- A core reset starts: TP_FENCE, and the core's port drains (R361, R368 #3, #4); a wider reset absorbs it. -/
def State.coreReset (s : State) (k p cause : Nat) : State :=
  if s.widerReset k || s.coreResetting k p then s
  else
    let s := (s.updCore (ckey k p) (fun x => { x with fence := true })).hallAct (regionOfCluster k) 3 (ckey k p)
    let s := s.trace k 5 0x31 (some p) none 1
    (State.showDrain { s with resets := s.resets ++ [⟨1, ckey k p, 4, cause, s.now, [], 0⟩] } k).fwHold
/-- The core's port has drained or its bound has passed: it absorbs, the core is in reset and its secrets are cleared (R368 #5). -/
def State.coreDrained (s : State) (k p : Nat) : State :=
  if !s.resets.any (fun x => x.level == 1 && x.at_ == ckey k p && x.step == 4) then s
  else
    let s := s.loseCommand k p
    let s : State := { s with resets := s.resets.map (fun x => if x.level = 1 ∧ x.at_ = ckey k p then { x with step := 5 } else x) }
    (s.updCore (ckey k p) (fun x => { x with rst := true, wrapEn := false })).showDrain k

/-- The HANG record (R555): the set's suspects, 14 to a record. -/
def State.notifyHang (s : State) (k : Nat) (x : ReplaySet) : State :=
  s.notifyList 0x0013 x.firstCtx (fun _ => [(k, 2), (x.cmd, 2), (x.step, 6), (x.suspects.length, 2)]) 14 x.suspects
/-- A set of a cluster changed. -/
def State.updSet (s : State) (k : Nat) (f : ReplaySet → ReplaySet) : State := s.updReplayOf k (fun l => l.map f)
/-- Suspects not yet cleared or killed (HAL_RPL_STAT.REMAIN). -/
def remaining (x : ReplaySet) : List Nat :=
  x.suspects.filter (fun c => !x.cleared.contains c && !x.guilty.contains c && !x.unreplayed.contains c)
/-- A context leaves every replay set (R372, R386). -/
def State.leaveSets (s : State) (c : Nat) : State :=
  { s with replays := s.replays.map (fun e => (e.1, e.2.map (fun x =>
      { x with
        suspects := if x.guilty.contains c || x.unreplayed.contains c then x.suspects else x.suspects.filter (· != c)
        cur := if x.cur = some c then none else x.cur, started := x.started && x.cur != some c }))) }

/-- Context retired across the wafer (R383): every Taster asks for the kill of its commands, and gate cells
discard its blocks without a notice unless a poison kill or a steering failure has them send notices (assumption 22). -/
def State.retire (s : State) (c : Nat) : State :=
  if c = 0 ∨ (s.ctx c).state = 2 then s
  else
    let s := s.updCtx c (fun x => { x with
      state := 2, retCut := s.cutNo, seenCut := 0, taint := none
      gate := if x.killed && x.gate = 2 then 2 else 1 })
    let s := s.each (List.range Config.host.clusters) (fun s k =>
      if (s.port k).killing.contains c then s else s.updPort k (fun x => { x with killing := x.killing ++ [c] }))
    ((s.bump uBRW BRW_RET_STAT_RETIRED).raise 0x8050 s.puActive c).regate c

/-- Mode 1 repeats of a context's gated commands that have not started are no longer asked for in a cluster (R270). -/
def State.dropGated (s : State) (k c : Nat) : State :=
  match s.checker k with
  | some h => s.rptDrop h (fun q => q.cluster == k && q.stage != 2 && (match q.what with | .gated cmd => s.ctxOfCmd k cmd == c | _ => false))
  | none => s
/-- Context kill (R371, R372, R268, R230): gate mode, kill requests, core resets of its commands in progress, the notice
to the host; then retirement, but for kills by poison and by a steering failure. -/
def State.killCtx (s : State) (c cause step cluster mode reason : Nat) : State :=
  if c = 0 ∨ (s.ctx c).state = 2 ∨ (s.ctx c).killed then { s with idleKills := s.idleKills + 1 }
  else
    let s := s.updCtx c (fun x => { x with killed := true, gate := mode, gateReason := reason, taint := none })
    let ks := s.clustersWith c
    let s := s.each ks (fun s k => s.updPort k (fun x => { x with killing := x.killing ++ [c] }))
    let s := s.each (s.rpl.map (·.1)) (fun s k => s.dropGated k c)
    let s := s.each ks (fun s k => s.each ((s.running k).filter (fun e => s.ctxOfCmd k e.2 == c)) (fun s e => s.coreReset k e.1 cause))
    let s := ((s.regate c).notifyKill c cause step cluster).hallAct (regionOfCluster cluster) 10 c
    let s := s.leaveSets c
    if cause = 1 ∨ cause = 3 then s else s.retire c

/-- A set ends (R368 #8, R370): the hold falls; with nobody guilty the hang was a hardware transient of the core that expired first. -/
def State.endSet (s : State) (k : Nat) (x : ReplaySet) : State :=
  let s := (s.updReplayOf k (fun _ => [])).updPort k (fun y => { y with hold := false, allow := 0 })
  if x.guilty.isEmpty && decide (x.core < 1024) then
    let e : HistEntry := ⟨0x13, 9, false, false, false, false, x.firstCtx, (match s.posture (regionOfCluster k) with | .strong => 0 | .session => 1 | .small => 2),
      s.optime, s.attic.pcyc, 0⟩
    (s.count (uHAL (regionOfCluster k)) HAL_HANG_CNT_TRANSIENT).raiseHist e 0x8012 (puCore k x.core) x.cleared.length x.unreplayed.length k
  else s
/-- A suspect killed unreplayed: 0x8013 with reason 1 host absent, 2 not started or declined (R369). -/
def State.killUnreplayed (s : State) (k c reason : Nat) : State :=
  let st := match s.replayOf k with | x :: _ => x.step | [] => 0
  let s := s.updSet k (fun x => { x with unreplayed := x.unreplayed ++ [c], cur := none, started := false })
  (s.killCtx c 2 st k 1 0).raise 0x8013 (puHal (regionOfCluster k)) (c * 2 ^ 16) reason k
/-- The replay set of a cluster goes on: nothing while a reset there runs or a suspect is under replay; the host is told
of the hang; then the next suspect, all of them killed while the host is absent, or the end (R368 #6-#8, R369). -/
def State.replayGo (s : State) (k : Nat) : State :=
  match s.replayOf k with
  | [] => s
  | x :: _ =>
    if s.widerReset k || s.resets.any (fun y => y.level == 1 && y.at_ / 1024 == k) || x.cur.isSome then s
    else
      let s := if x.noticed then s else (s.notifyHang k x).updSet k (fun x => { x with noticed := true })
      let s := if s.absent then s.each (remaining x) (fun s c => s.killUnreplayed k c 1) else s
      match s.replayOf k with
      | [] => s
      | y :: _ => match remaining y with
        | [] => s.endSet k y
        | c :: _ =>
          let next := if (remaining y).contains y.firstCtx then y.firstCtx else c
          let s := s.updSet k (fun x => { x with cur := some next, askedAt := s.now, started := false })
          (s.updPort k (fun p => { p with allow := next })).notify 0x0014 next [(k, 2), (y.step, 6)]
/-- Every set goes on that can. -/
def State.replaysGo (s : State) : State := s.each (s.replays.map (·.1)) (fun s k => s.replayGo k)

/-- A replay set opens with its suspects; the cluster is held (R367, R368 #3). -/
def State.openSet (s : State) (k core cmd ctx step : Nat) (suspects : List Nat) : State :=
  let first := if suspects.contains ctx then [ctx] else []
  let all := (first ++ suspects.filter (· != ctx)).take 1024
  let s := s.updReplayOf k (fun _ => [⟨core, ctx, step, all, [], [], [], false, cmd, none, s.now, false⟩])
  let s := (s.updPort k (fun p => { p with hold := true, allow := 0 })).hallAct (regionOfCluster k) 5 k
  let s := s.updSetsOf k (fun l => l.filter (fun t => decide (s.now < t + 600000000000)) ++ [s.now])
  (s.wr (uTST k) TST_HANG_STAT_CORE core).raise 0x8010 (puTst k) all.length (core % 1024) step
/-- Suspects join the set of a cluster, or a set opens for them (R365, R367). -/
def State.addSuspects (s : State) (k : Nat) (cs : List Nat) : State :=
  let cs := cs.filter (fun c => c != 0 && (s.ctx c).state != 2)
  if cs.isEmpty then s
  else match s.replayOf k with
    | x :: _ => s.updSet k (fun y => { y with suspects := (y.suspects ++ cs.filter (fun c => !x.suspects.contains c)).take 1024 })
    | [] => s.openSet k 1024 0 (cs.headD 0) 0 cs

/-- A core reset is complete: the core leaves reset and its port leaves absorb (R368 #5). -/
def State.coreResetDone (s : State) (k p : Nat) : State :=
  let s : State := { s with resets := s.resets.filter (fun x => !(x.level == 1 && x.at_ == ckey k p)) }
  let s := (s.updCore (ckey k p) (fun x => { x with rst := false, cleared := true, fence := s.coreOut k p })).stpDiscard (puCore k p)
  let s := ((s.count (uTST k) TST_RST_CORE_COUNT).count (uHAL (regionOfCluster k)) HAL_RST_CORE_COUNT).trace k 5 0x31 (some p) none 17
  ((s.showDrain k).replayGo k).showHold

/-- An engine reset starts (R361, R373 #2): cause 1 escalation, 2 request, 3 repeated sets. Contexts with a command in
progress or queued join the replay set; the cluster's core resets are absorbed. -/
def State.engineReset (s : State) (k cause : Nat) : State :=
  if s.widerReset k then s
  else
    let live := s.liveCtxs k
    let s := s.hallAct (regionOfCluster k) 2 k
    let s : State := { s with resets := s.resets.filter (fun x => !(x.level == 1 && x.at_ / 1024 == k)) ++ [⟨2, k, 2, cause, s.now, live, 0⟩] }
    let s := s.addSuspects k live
    let s := (s.updPort k (fun p => { p with hold := true, allow := 0, drain := some 2047, mig := none })).updSet k
      (fun x => { x with cur := none, started := false })
    (s.trace k 5 0x31 none none 2).fwHold
/-- The scope has drained or its bound has passed: TS_ABSORB and TS_CL_RST_N; open cases end (R373 #3). -/
def State.engineDrained (s : State) (k : Nat) : State :=
  if !s.resets.any (fun x => x.level == 2 && x.at_ == k && x.step == 2) then s
  else
    let s : State := { s with resets := s.resets.map (fun x => if x.level = 2 ∧ x.at_ = k then { x with step := 3 } else x) }
    let s := s.endCases k 4
    let s := s.each (s.running k) (fun s e => s.loseCommand k e.1)
    s.updPort k (fun p => { p with drain := none, absorb := true, clRst := true })
/-- An escalation from one level to the next: 0x8024 (R361). -/
def State.escalated (s : State) (p from_ to_ start : Nat) : State :=
  (s.wr uBRW BRW_RST_STAT_LAST to_).raise 0x8024 p from_ to_ ((s.now - start) / 1000)

end Sys2Proof.Machine
end

