-- ==== Sys2Proof/Machine/Paired.lean ====
section
/-! DEFINITION. Paired mode: values of a step, cluster step digests, comparison with the partner, localisation (R460-R466). -/
namespace Sys2Proof.Machine
open Sys2Proof Host

/-- The paired context of the configuration in force: index 1 of its fields holds what the last cut put into force (R460). -/
def State.pairCtx (s : State) : Option Nat :=
  if s.isSet uPRV PRV_PAIR_CFG_PAIRED 1 then some (s.rd uPRV PRV_PAIR_CFG_CTX 1) else none
/-- A cut puts the pair configuration into force (R460). -/
def State.pairApply (s : State) : State :=
  let cp (s : State) (F : Fld) := s.wr uPRV F (s.rd uPRV F) 1
  (((((cp s PRV_PAIR_CFG_PAIRED).wr uPRV PRV_PAIR_CFG_VIA (s.rd uPRV PRV_PAIR_CFG_VIA) 1).wr uPRV PRV_PAIR_CFG_DOOR (s.rd uPRV PRV_PAIR_CFG_DOOR) 1).wr
    uPRV PRV_PAIR_CFG_CTX (s.rd uPRV PRV_PAIR_CFG_CTX) 1).wr uPRV PRV_PAIR_PEER_WAFER (s.rd uPRV PRV_PAIR_PEER_WAFER) 1).wr
    uPRV PRV_PAIR_KEY (s.rd uPRV PRV_PAIR_KEY) 1
/-- A command belongs to the step of the paired context (R462). -/
def pairDesc (c : Nat) (t : Nat) (d : Desc) : Bool := d.ctx == c && d.step == t && !d.mayvary
/-- The digest of a list of values (R462). -/
def pairDigest (key : Nat) (vs : List Nat) : Nat := (vs.map (drawOf key)).sum % 2 ^ 128
/-- A command value (R462). -/
def commandValue (layer op ebase so ss units : Nat) : Nat :=
  layer % 2 ^ 16 * 2 ^ 112 + op % 2 ^ 16 * 2 ^ 96 + ebase % 2 ^ 36 * 2 ^ 60 + so % resMod * 2 ^ 47 + ss % resMod * 2 ^ 34
    + units % 2 ^ 16 * 2 ^ 18 + 2 ^ 16
/-- A sample value (R462). -/
def sampleValue (layer op pos host : Nat) : Nat :=
  layer % 2 ^ 16 * 2 ^ 112 + op % 2 ^ 16 * 2 ^ 96 + pos % 2 ^ 36 * 2 ^ 60 + host % 2 ^ 32 * 2 ^ 28 + 2 * 2 ^ 16
/-- A command of the paired context has come: the step in progress starts with it (R463). -/
def State.pairCommand (s : State) (k : Nat) (d : Desc) : State :=
  match s.pairCtx with
  | none => s
  | some c =>
    if d.ctx ≠ c then s
    else s.updPairOf k (fun x => { x with lastCmd := s.now, cur := (match x.cur with | none => some d.step | some t => some t) })
/-- A summary's pair report joins its command's sums; one with a dropped or skipped unit makes the digest partial (R461, R462). -/
def State.pairReport (s : State) (k : Nat) (d : Desc) (y : Summary) : State :=
  match s.pairCtx with
  | none => s
  | some c =>
    if d.ctx ≠ c ∨ d.mayvary then s
    else if y.dropped ≠ 0 ∨ y.skipped ≠ 0 then
      s.updPairOf k (fun x => { x with partial_ := true, sums := x.sums.filter (fun e => e.1 != d.cmd) ++ [(d.cmd, 0, 0, 2 ^ 32)] })
    else s.updPairOf k (fun x => match x.sums.find? (fun e => e.1 == d.cmd) with
      | some e => { x with sums := x.sums.map (fun e' => if e'.1 = d.cmd then (e.1, e.2.1 + y.so, e.2.2.1 + y.ss, e.2.2.2 + y.covered) else e') }
      | none => { x with sums := x.sums ++ [(d.cmd, y.so, y.ss, y.covered)] })
/-- A unit sampled at the base rate gives its host value (R462). -/
def State.pairSample (s : State) (k : Nat) (d : Desc) (pos host : Nat) : State :=
  match s.pairCtx with
  | none => s
  | some c => if pairDesc c ((s.pairOf k).cur.getD d.step) d then
      s.updPairOf k (fun x => { x with values := x.values ++ [sampleValue d.layer d.op pos host] }) else s
/-- A command of the paired context goes unchecked: the step's digest is partial (R462). -/
def State.pairUnchecked (s : State) (k : Nat) (d : Desc) : State :=
  match s.pairCtx with
  | some c => if d.ctx = c ∧ !d.mayvary then s.updPairOf k (fun x => { x with partial_ := true }) else s
  | none => s

/-- One 32-byte record (R464). -/
def pairRecord (ptype flags cluster step nval wafer body : Nat) : List Byte :=
  leBytes 1 ptype ++ leBytes 1 flags ++ leBytes 2 cluster ++ leBytes 6 step ++ leBytes 2 nval ++ leBytes 4 wafer ++ leBytes 16 body
/-- A Taster's records reach the pair's Door by bulk, and go on its stream 4,095, at most 32 to a block (R42, R43, R464). -/
def State.pairSend (s : State) (k : Nat) (rs : List (List Byte)) : State :=
  s.each (chunks32 rs.length rs) (fun s c =>
    (s.bulk (puTst k) (puDor (s.rd uPRV PRV_PAIR_CFG_DOOR 1)) c.flatten).doorInsert (s.rd uPRV PRV_PAIR_CFG_DOOR 1) 4095 ⟨0x3F, 0, 0, 0, 0, 0, 0, 0, 2 * c.length, 0⟩ c.flatten)
where
  /-- Runs of 32. -/
  chunks32 : Nat → List (List Byte) → List (List (List Byte))
    | 0, _ => []
    | n + 1, l => if l.isEmpty then [] else l.take 32 :: chunks32 n (l.drop 32)
/-- A step of a Taster changed. -/
def State.updPairStep (s : State) (k t : Nat) (f : PairStep → PairStep) : State :=
  s.updPairOf k (fun x => { x with steps := x.steps.map (fun y => if y.step = t then f y else y) })
/-- A step as the Taster holds it. -/
def State.pairStepOf (s : State) (k t : Nat) : Option PairStep := (s.pairOf k).steps.find? (fun y => y.step == t)
/-- Steps counted as unmatched, with 0xD011 (R465). -/
def State.pairUnmatched (s : State) (k t : Nat) : State :=
  let s := s.count uPRV PRV_PAIR_UNMATCHED_COUNT
  s.raiseOnce 0 0xD011 (puTst k) (s.cnt uPRV PRV_PAIR_UNMATCHED_COUNT) t (s.rd uPRV PRV_PAIR_PEER_WAFER 1)
/-- A step put first, the 65th leaving; one that still waits there is unmatched (R465). -/
def State.pairPut (s : State) (k : Nat) (y : PairStep) : State :=
  let all := y :: (s.pairOf k).steps.filter (fun z => z.step != y.step)
  let out := (all.drop 64).filter (fun z => z.state == 0)
  s.each out (fun s z => s.pairUnmatched k z.step) |>.updPairOf k (fun x => { x with steps := all.take 64 })
/-- The ring of R463 still holds the values of a step. -/
def State.pairHeld (s : State) (k t : Nat) : Bool :=
  decide ((((s.pairOf k).steps.filter (fun z => decide (t ≤ z.step))).map (fun z => z.values.length)).sum ≤ 4096)
/-- PTYPE 2 records of a step (R464, R465). -/
def State.pairSendValues (s : State) (k : Nat) (y : PairStep) : State :=
  let n := y.values.length
  let w := s.rd uPRV PRV_PAIR_PEER_WAFER 1
  s.pairSend k ((y.values.zip (List.range n)).map (fun v => pairRecord 2 (if v.2 + 1 = n then 2 else 0) k y.step n w v.1))
/-- The earliest divergence (R466). -/
def State.pairDiverge (s : State) (k t op : Nat) : State :=
  let held := s.isSet uPRV PRV_PAIR_STAT_DIVERGED
  let t0 := s.rd uPRV PRV_PAIR_DIV_STEP
  let k0 := s.rd uPRV PRV_PAIR_DIVCL_CLUSTER
  if !held || decide (t < t0 ∨ (t = t0 ∧ k ≤ k0)) then
    ((((s.flag uPRV PRV_PAIR_STAT_DIVERGED true).wr uPRV PRV_PAIR_DIV_STEP t).wr uPRV PRV_PAIR_DIVCL_CLUSTER k).wr
      uPRV PRV_PAIR_DIVOP_LAYER (op / 2 ^ 16)).wr uPRV PRV_PAIR_DIVOP_OP op
  else s
/-- Lists sorted by bits [127:16]: the first value on one side only (R465). -/
def firstOnly (a b : List Nat) : Option Nat :=
  let x := (a.filter (fun v => !b.contains v)) ++ (b.filter (fun v => !a.contains v))
  (sortBy (fun p q => decide (p / 2 ^ 16 ≤ q / 2 ^ 16)) x).head?
/-- A diverged step with both lists in is localised (R465, R466). -/
def State.pairLocalise (s : State) (k t : Nat) : State :=
  match s.pairStepOf k t with
  | none => s
  | some y =>
    if y.state ≠ 2 ∨ !y.peerDone then s
    else
      let s := s.updPairStep k t (fun y => { y with state := 1 })
      match (if s.pairHeld k t then firstOnly y.values y.peerVals else none) with
      | some v => (s.raise 0xD013 (puTst k) t (v / 2 ^ 96) (v / 2 ^ 60 % 2 ^ 36)).pairDiverge k t (v / 2 ^ 96)
      | none => (s.raise 0xD013 (puTst k) t (2 ^ 32 - 1) 0).pairDiverge k t (2 ^ 32 - 1)
/-- A step whose own digest and whose partner's are in is compared (R465). -/
def State.pairCompare (s : State) (k t : Nat) : State :=
  match s.pairStepOf k t with
  | none => s
  | some y =>
    if y.state ≠ 0 then s
    else match y.peer with
      | none => s
      | some (d, part) =>
        let settled (s : State) := s.updPairStep k t (fun y => { y with state := 1 })
        if part || y.partial_ then (settled s).count uPRV PRV_PAIR_PARTIAL_COUNT
        else if d = y.dig then (settled s).count uPRV PRV_PAIR_MATCHED_COUNT
        else
          let s := s.updPairStep k t (fun y => { y with state := 2 })
          let s := s.raise 0xD010 (puTst k) t (t / 2 ^ 32) (s.rd uPRV PRV_PAIR_PEER_WAFER 1)
          let s := if y.values.isEmpty || !s.pairHeld k t then s else s.pairSendValues k y
          (s.pairDiverge k t (2 ^ 32 - 1)).pairLocalise k t
/-- A paired step closes: its command values are formed, its digest is sent and compared (R462, R463). -/
def State.pairClose (s : State) (k c t : Nat) : State :=
  let x := s.pairOf k
  let mine := x.sums.filterMap (fun e => match s.descOf k e.1 with
    | some d => if pairDesc c t d && decide (e.2.2.2 < 2 ^ 32) then
        some (commandValue d.layer d.op (match d.opr with | some o => o / 2 ^ 332 % 2 ^ 36 | none => 0) e.2.1 e.2.2.1 e.2.2.2) else none
    | none => none)
  let vs := mine ++ x.values
  let later := sortBy (fun a b => decide (a ≤ b)) (((s.rplOf k).cmds.filterMap (fun y => s.descOf k y.cmd)).filterMap (fun d =>
    if d.ctx = c ∧ t < d.step then some d.step else none))
  let dig := pairDigest (s.rd uPRV PRV_PAIR_KEY 1) vs
  let s := s.updPairOf k (fun x => { x with cur := later.head?, values := [], partial_ := false, sums := [] })
  let y : PairStep := match s.pairStepOf k t with
    | some y => { y with dig := dig, partial_ := x.partial_, values := vs, state := 0, closedAt := s.now }
    | none => ⟨t, dig, x.partial_, vs, none, [], false, 0, s.now⟩
  let s := s.pairPut k y
  let s := s.pairSend k [pairRecord 1 (if x.partial_ then 1 else 0) k t vs.length (s.rd uPRV PRV_PAIR_PEER_WAFER 1) dig]
  s.pairCompare k t
/-- The step in progress closes once a later one has begun and every command of it has ended and reported (R463). -/
def State.pairTry (s : State) (k : Nat) : State :=
  match s.pairCtx, (s.pairOf k).cur with
  | some c, some t =>
    let cs := ((s.rplOf k).cmds.filterMap (fun y => (s.descOf k y.cmd).map (fun d => (y, d)))).filter (fun p => p.2.ctx == c)
    let mine := (cs.filter (fun p => p.2.step == t)).map (·.1)
    let busy := (Tab.range (1024 * k) (1024 * (k + 1)) s.taps).any (fun e =>
      e.2.invs.any (fun v => mine.any (fun y => y.cmd == v.cmd)) || e.2.summaries.any (fun v => mine.any (fun y => y.cmd == v.cmd)))
    if cs.any (fun p => decide (t < p.2.step)) && mine.all (·.ended) && !busy then s.pairClose k c t else s
  | _, _ => s

/-- PAIR_STEP_TIMEOUT (R463): 10 ms have passed without a command of the context. -/
def pairStepTimeout (s : State) (k : Nat) : State :=
  match s.pairCtx, (s.pairOf k).cur with
  | some c, some t => s.pairClose k c t
  | _, _ => s
/-- PAIR_STEP_TIMEOUT. -/
def execPairStepTimeout (k : ClusterId) (s : State) : Outcome State Fault Refusal := .next (pairStepTimeout s k.val)
/-- A partner's step digest reaches the Taster of its cluster (R464, R465). -/
def State.pairDigestIn (s : State) (r : List Byte) : State :=
  let k := leAt r 2 2 % 1024
  let t := leAt r 4 6
  let peer := some (leAt r 16 16, bit (leAt r 1 1) 0)
  if nClusters ≤ k ∨ s.pairCtx.isNone then s
  else match s.pairStepOf k t with
    | some _ => (s.updPairStep k t (fun y => { y with peer := peer })).pairCompare k t
    | none => s.pairPut k ⟨t, 0, false, [], peer, [], false, 4, s.now⟩
/-- A partner's value (R465). -/
def State.pairValueIn (s : State) (r : List Byte) : State :=
  let k := leAt r 2 2 % 1024
  let t := leAt r 4 6
  if nClusters ≤ k then s
  else (s.updPairStep k t (fun y => { y with
    peerVals := y.peerVals ++ [leAt r 16 16], peerDone := y.peerDone || bit (leAt r 1 1) 1 })).pairLocalise k t
/-- A localisation request is answered with the step's values (R464). -/
def State.pairAskIn (s : State) (r : List Byte) : State :=
  let k := leAt r 2 2 % 1024
  match s.pairStepOf k (leAt r 4 6) with
  | some y => if s.pairHeld k y.step then s.pairSendValues k y else s
  | none => s
/-- A record on stream 4,095, by its PTYPE; a reserved one is absorbed (R464). -/
def State.pairIn (s : State) (r : List Byte) : State :=
  match leAt r 0 1 with
  | 1 => s.pairDigestIn r
  | 2 => s.pairValueIn r
  | 3 => s.pairAskIn r
  | _ => s
/-- PAIR_DIGEST_RECORD (R464, R465). -/
def execPairDigestRecord (_n : DoorId) (record : List Byte) (s : State) : Outcome State Fault Refusal := .next (s.pairIn record)
/-- PAIR_VALUE (R464, R465): the records of one block. -/
def execPairValue (_n : DoorId) (records : List (List Byte)) (s : State) : Outcome State Fault Refusal :=
  .next (s.each records (fun s r => s.pairIn r))
/-- PAIR_UNMATCHED_TIMEOUT (R465): no partner record has come within 100 ms. -/
def pairUnmatchedTimeout (s : State) (k t : Nat) : State :=
  match s.pairStepOf k t with
  | some y => if y.state = 0 ∧ y.peer.isNone then (s.updPairStep k t (fun y => { y with state := 1 })).pairUnmatched k t else s
  | none => s
/-- PAIR_UNMATCHED_TIMEOUT. -/
def execPairUnmatchedTimeout (k : ClusterId) (step : Step) (s : State) : Outcome State Fault Refusal :=
  .next (pairUnmatchedTimeout s k.val step.toNat)

end Sys2Proof.Machine
end

