-- ==== Sys2Proof/Machine/Replica.lean ====
section
/-! DEFINITION. Replica re-execution at a Taster: classes, sampling, reads, comparison, the descriptor store (R193-R224, R234). -/
namespace Sys2Proof.Machine
open Sys2Proof Host

/-- A unit changed, by its command, its output and its role, in the list of cluster `k`. -/
def State.updRunit (s : State) (k : Nat) (u : RplUnit) (f : RplUnit → RplUnit) : State :=
  s.updRplOf k (fun x => { x with units := x.units.map (fun v => if v.home = u.home ∧ v.cmd = u.cmd ∧ v.e = u.e ∧ v.role = u.role then f v else v) })
/-- The operand record of a command (R198). -/
def State.oprOf (s : State) (k cmd : Nat) : Option Opr := ((s.descOf k cmd).bind (·.opr)).map Opr.ofNat
/-- An exponential that a sampler may name (R217, R219). -/
def goodExp (f : SfDesc) : Bool := f.kind == 0 && f.infmt == 1 && f.outfmt == 1

/-- Why a command is not replica-checked: nothing, a missing index (kind, index), or a reason of 0x3012 with its index. -/
inductive Unfit where
  | none
  | missing (kind idx : Nat)
  | unfit (reason idx : Nat)
  deriving DecidableEq, Repr
/-- The class of a command and what bars its check (R193, R202, R214, R219, R27). -/
def State.classify (s : State) (k : Nat) (d : Desc) : RplClass × Unfit :=
  let t := if d.tree = 0 then some none else (s.treeAt k d.tree).map some
  let f := if d.sfn = 0 then some none else (s.sfAt k d.sfn).map some
  match t, f with
  | none, _ => (.unchecked, .missing 0 d.tree)
  | _, none => (.unchecked, .missing 1 d.sfn)
  | some t, some f =>
    let fits := match t, d.opr.map Opr.ofNat with
      | some t, some o => decide (t.leaves = (o.kred + t.leaflen - 1) / t.leaflen)
      | _, _ => true
    match classOf t.isSome f with
    | .residueOnly => (.residueOnly, .none)
    | .dot => if fits then (.dot, .none) else (.unchecked, .unfit 2 d.tree)
    | .fused =>
      if (match t with | some t => t.outconv | none => false) || (match f with | some f => f.infmt != 1 | none => false) then (.unchecked, .unfit 4 d.tree)
      else if fits then (.fused, .none) else (.unchecked, .unfit 2 d.tree)
    | .nonlinear => (.nonlinear, .none)
    | .selection => (.selection, .none)
    | .sampler => match f with
      | some g => match s.sfAt k (g.loval % 256) with
        | some x => if goodExp x then (.sampler, .none) else (.unchecked, .missing 1 (g.loval % 256))
        | none => (.unchecked, .missing 1 (g.loval % 256))
      | none => (.sampler, .none)
    | .invalid => (.invalid, .unfit 1 d.tree)

/-- The job of a command's unit `e`, from what its descriptor named when it came (R211); a sampler's draw is that of row e (R219). -/
def cmdJob (c : RplCmd) (d : Desc) (cls : RplClass) (seed e : Nat) : Option Job :=
  match cls with
  | .dot => c.tree.map Job.dot
  | .fused => match c.tree, c.sf with
    | some t, some f => some (.fused t f)
    | _, _ => none
  | .nonlinear => c.sf.map Job.elem
  | .selection => c.sf.map Job.sel
  | .sampler => match c.sf, c.expfn with
    | some f, some g => some (.samp f g (drawOf seed (drawCounter d.ctx d.layer d.op d.step (2 ^ 35 + e))))
    | _, _ => none
  | _ => none

/-- Multiplier of the sampling rates, from the Taster's own sensor (R194, R477). -/
def State.rateMult (s : State) (h : Nat) : Nat :=
  match s.sensorBand (16 * (h / 10) + h % 10) with
    | 0 => 1
    | 1 => 1
    | 2 => 1
    | 3 => 2
    | _ => 4
/-- A core of the cluster has a Tap that is absent, fenced or untrusted, as all are once the collector has failed its steep; or is yet to pass a steep after
UNLOCATED (R196, R253, R265). -/
def State.rateUp (s : State) (k : Nat) : Bool :=
  !(s.adjOf k).unlocated.isEmpty || (s.adjOf k).collector
    || s.units.any (fun e => puidKind e.1 == 1 && puidMajor e.1 == k && (e.2.absent || e.2.fenced || e.2.perm || e.2.off)
        && !(s.unit (puCore k (puidMinor e.1))).absent)
/-- The sampling threshold T of a cluster's class (R194-R196, R263, R265). -/
def State.threshold (s : State) (k h : Nat) (cls : RplClass) (mult : Nat) : Nat :=
  let p := if (s.adjOf k).requalOn then .strong else s.posture (regionOfCluster k)
  let dot := cls == .dot && !s.rateUp k
  let d := match p with
    | .strong => if dot then 256 else 16
    | .session => if dot then 1024 else 64
    | .small => if dot then 16384 else 1024
  min (2 ^ 32) (2 ^ 32 * mult / d / (if h = k then 1 else 4))
/-- Unit at position `i` is sampled (R195). -/
def sampledAt (seed t : Nat) (d : Desc) (i : Nat) : Bool :=
  decide (2 ^ 32 ≤ t) || decide (drawOf seed (drawCounter d.ctx d.layer d.op d.step i) % 2 ^ 32 < t)

/-- A unit is the re-read of a case's inputs (R239). -/
def isReread (u : RplUnit) : Bool := match u.role with | .reread _ => true | _ => false
/-- A unit is a rank's slice of a gated selection's row (R226). -/
def isSlice (u : RplUnit) : Bool := match u.role with | .slice _ _ => true | _ => false
/-- Sampled non-PRIV units that a Taster has pending, in every cluster it checks (R197). -/
def State.rplPending (s : State) (h : Nat) : Nat :=
  ((s.rpl.filter (fun e => s.checker e.1 == some h)).map (fun e =>
    (e.2.units.filter (fun u => !u.priv && !isReread u && !u.seedWait && decide (u.stage < 2))).length)).sum
/-- A replica or MAYVARY case of a command is open (R228, R236). -/
def State.caseOpen (s : State) (k cmd : Nat) : Bool :=
  s.adj.any (fun e => e.2.cases.any (fun c => c.cluster == k && c.cmd == cmd && (match c.kind with | .replica => true | .mayvary => true | _ => false)))
/-- A gated command's step has no verdict yet, in a context that still runs (R227, R228). -/
def State.stepOpen (s : State) (k cmd : Nat) : Bool :=
  match s.rcmd k cmd, s.descOf k cmd with
  | some c, some d => c.gated && (s.ctx d.ctx).state != 2 && !(s.ctx d.ctx).killed
      && s.steps.any (fun x => x.region == regionOfCluster k && x.ctx == d.ctx && x.step == d.step && x.verdict.isNone)
  | _, _ => false
/-- A PRIV unit's data must stay in the hold buffer: it is being read, its step's verdict or an adjudication of it is not complete (R228). -/
def State.unitHeld (s : State) (u : RplUnit) : Bool := u.priv && (decide (u.stage < 2) || s.stepOpen u.home u.cmd || s.caseOpen u.home u.cmd)
/-- Bytes in the hold buffer of a Taster (R228). -/
def State.rplHold (s : State) (h : Nat) : Nat :=
  ((s.rpl.filter (fun e => s.checker e.1 == some h)).map (fun e => ((e.2.units.filter s.unitHeld).map (fun u => 16 * u.got.length)).sum)).sum

/-- Bytes of the hold buffer that reads under way will take (R228). -/
def State.rplClaim (s : State) (h : Nat) : Nat :=
  ((s.rpl.filter (fun e => s.checker e.1 == some h)).map (fun e => 64 * (e.2.units.filter (fun u => u.priv && u.req.isSome)).length)).sum

/-- The seed that a context draws under (R448). -/
def State.seedNow (s : State) (c : Nat) : Nat := if c = 0 then s.variant.ctx0Seed.getD 0 else (s.seedOf c).getD 0
/-- The context's seed has not been set: it draws under the all-zero seed (R448, R509). -/
def State.unseeded (s : State) (c : Nat) : Bool := if c = 0 then s.variant.ctx0Seed.isNone else (s.seedOf c).isNone
/-- The seed that a cluster's replica uses for a context: its cached one, else the one that the Hall would load (R450). -/
def State.rplSeed (s : State) (k c : Nat) : Nat := (((s.rplOf k).seeds.find? (fun e => e.1 == c)).map (·.2)).getD (s.seedNow c)
/-- The job of a unit. -/
def State.unitJob (s : State) (u : RplUnit) : Option Job :=
  match s.descOf u.home u.cmd, s.rcmd u.home u.cmd with
  | some d, some c => cmdJob c d u.cls (s.rplSeed u.home d.ctx) u.e
  | _, _ => none
/-- A gated selection's row as the lead has merged it: every element of the row has come in some slice (R226). -/
def merged (c : RplCmd) (o : Opr) (f : SfDesc) (e : Nat) : Option (List (Nat × Nat)) :=
  let ps := c.parts.filter (fun p => p.1 == e)
  if (ps.map (fun p => p.2.2.1 - p.2.1)).sum = o.kred then some (mergeParts f (ps.map (fun p => p.2.2.2))) else none
/-- An address that no read has: what a unit needs is not there to be read yet. -/
def notYet : Nat := 2 ^ 48
/-- Where a unit's evaluation stands: the replica's result and the host's. A slice gives its own selection, a re-read the reference alone; a gated selection
takes its result from the merged slices of the region's Tasters (R226, R239). -/
def State.unitEval (s : State) (u : RplUnit) : Rd (Done × El × CaseVal) :=
  match s.unitJob u, s.descOf u.home u.cmd, s.oprOf u.home u.cmd, s.rcmd u.home u.cmd with
  | some j, some d, some o, some c =>
    let none' : El × CaseVal := (⟨0x3F, 0, 0x7F⟩, .row [])
    let host := if c.ended then hostResult u.got o j u.e d.ctx d.layer d.op else .need notYet
    match u.role, j with
    | .slice lo hi, .sel f => (rowElems u.got (rowAt o.xaddr o.xstride u.e) lo hi).bind (fun l => .ok (⟨[], rowVal (selectFrom f lo l)⟩, none'))
    | .reread _, _ => (jobResult u.got o j u.e).bind (fun r => .ok (r, none'))
    | _, .sel f =>
      if c.gated then host.bind (fun y => match merged c o f u.e with
        | some m => .ok (⟨[], rowVal m⟩, y)
        | none => .need notYet)
      else (jobResult u.got o j u.e).bind (fun r => host.bind (fun y => .ok (r, y)))
    | _, _ => (jobResult u.got o j u.e).bind (fun r => host.bind (fun y => .ok (r, y)))
  | _, _, _, _ => .stop 5 0
/-- The X reads of a unit are complete (R205). -/
def State.xDone (s : State) (u : RplUnit) : Bool :=
  match s.unitJob u, s.oprOf u.home u.cmd with
  | some j, some o => (match xRead u.got o j u.e with | .need _ => false | _ => true)
  | _, _ => true

/-- A unit leaves: stopped under R206, or abandoned under R205 (cause 7); of a PRIV command its check is incomplete (R227); the case that a re-read was for ends
without a reference (R239). -/
def State.dropUnit (s : State) (k h : Nat) (u : RplUnit) (cause addr : Nat) : State :=
  let s := (s.updRunit k u (fun u => { u with stage := 2, req := none })).updRplOf k (fun x => { x with lost := x.lost ++ (u.req.map (·.1)).toList })
  let s := if u.priv then s.updRcmd u.home u.cmd (fun c => { c with stopped := true }) else s
  let s := if cause = 7 then s.count (uTST h) TST_RPL_STALE_COUNT
    else (s.count (uTST h) TST_RPL_RDERR_COUNT).raiseOnce 0 0x3013 (puTst h) u.cmd cause addr
  match u.role with
  | .reread no => match s.caseOf h no with
    | some c => s.inconclusive h c 2
    | none => s
  | _ => s
/-- The lowest free read tag of a cluster's read port: one whose last line has come (R203). -/
def State.freeTag (s : State) (k : Nat) : Option Nat :=
  let used := (s.rplOf k).units.filterMap (fun u => u.req.map (·.1))
  (List.range 64).find? (fun t => !used.contains t && !(s.rplOf k).lost.contains t)
/-- A re-read is complete: its case has its held inputs (R239). -/
def State.rereadDone (s : State) (k h : Nat) (u : RplUnit) (no : Nat) : State :=
  let s := s.unitsOut k (fun v => v.role == .reread no)
  match s.unitJob u, s.oprOf u.home u.cmd with
  | some j, some o => s.secured h no (.unit j o u.e u.got)
  | _, _ => s
/-- One unit goes on: it asks for the next line it needs, is complete, or leaves (R203, R205, R206). -/
def State.unitGo (s : State) (k h : Nat) (u : RplUnit) : State :=
  if u.stage ≠ 0 ∨ u.req.isSome ∨ u.seedWait then s
  else match s.unitEval u with
    | .ok _ => match u.role with
      | .reread no => s.rereadDone k h u no
      | _ => s.updRunit k u (fun u => { u with stage := 1 })
    | .need a =>
      if notYet ≤ a then s
      else if u.priv && decide (65536 < s.rplHold h + s.rplClaim h + 64) then s
      else match s.freeTag k with
        | none => s
        | some t => (s.updRunit k u (fun u => { u with req := some (t, a) })).emit (.rrRead k a 1 (u.priv || isReread u) t)
    | .ended a => s.dropUnit k h u 5 a
    | .stop c a => s.dropUnit k h u c a
/-- Units in the order of R197: PRIV work, then adjudication, then sampled units in the order their commands stand. -/
def State.unitsInOrder (s : State) (k : Nat) : List RplUnit :=
  let x := s.rplOf k
  let all := x.cmds.flatMap (fun c => x.units.filter (fun u => u.home == k && u.cmd == c.cmd)) ++ x.units.filter (fun u => u.home != k)
  all.filter (fun u => u.priv && !isReread u) ++ all.filter isReread ++ all.filter (fun u => !u.priv && !isReread u)
/-- Every unit of a cluster that can go on does; the replica stops while no Taster checks the cluster. -/
def State.rplGo (s : State) (k : Nat) : State :=
  match s.checker k with
  | none => s
  | some h => s.each (s.unitsInOrder k) (fun s u => s.unitGo k h u)
/-- The same in every cluster of a region, whose Tasters share the gated commands (R226). -/
def State.rplRegion (s : State) (r : Nat) : State := s.each (clustersOf r) (fun s k => s.rplGo k)

/-- A unit enters at a cluster, or is shed (R197). -/
def State.enterUnit (s : State) (k : Nat) (u : RplUnit) : State :=
  match s.checker k with
  | none => s
  | some h =>
    if !u.priv && decide (1024 ≤ s.rplPending h) then
      let s := s.count (uTST h) TST_RPL_SHED_COUNT
      s.raiseOnce 0 0x3014 (puTst h) (s.cnt (uTST h) TST_RPL_SHED_COUNT) (s.rplPending h)
    else
      let s := s.updRplOf k (fun x => { x with units := x.units ++ [u] })
      if isSlice u then s else (s.count (uTST h) TST_RPL_SAMPLED_COUNT).bankCount u.home 12 1 (some (s.binOf u.home u.cmd))
/-- A unit of a command as it enters. -/
def newUnit (c : RplCmd) (k e : Nat) (role : UnitRole) (cmp : Option Nat) (wait : Bool) : RplUnit := ⟨k, c.cmd, e, c.priv, c.cls, role, cmp, [], none, wait, 0⟩
/-- The trusted Tasters of a region in ascending order of their clusters: rank r is the r-th (R226). -/
def State.ranks (s : State) (r : Nat) : List Nat := (clustersOf r).filter (fun j => s.checker j == some j)
/-- The share of rank `r` of `t` in a row of `n` elements (R226). -/
def shareOf (t n r : Nat) : Nat × Nat := (r * n / t, (r + 1) * n / t)
/-- The cluster of the rank that has element `c` of a row of `n` (R226). -/
def rankOf (ranks : List Nat) (k n c : Nat) : Nat :=
  (((List.range ranks.length).find? (fun r => let x := shareOf ranks.length n r; decide (x.1 ≤ c ∧ c < x.2))).bind (fun r => ranks[r]?)).getD k
/-- The units of a PRIV command that are re-executed at once, with the clusters whose Tasters do it: a steering command's at its own, a gated one's split among the
ranks, its selections in slices (R226, R230). A gated selection and what it names are compared at the lead, which takes them up as the ranks' results come. -/
def State.privUnits (s : State) (k : Nat) (c : RplCmd) (o : Opr) (wait : Bool) : List (Nat × RplUnit) :=
  let ranks := s.ranks (regionOfCluster k)
  let es := List.range o.ecount
  let own := es.map (fun e => (k, newUnit c k e .whole (some k) wait))
  let split := es.map (fun e =>
    let j := rankOf ranks k o.xdiv (e % max 1 o.xdiv)
    (j, newUnit c k e .whole (some j) wait))
  match c.cls, c.gated with
  | .dot, true => if o.ecount ≤ 64 then split else []
  | .fused, true => split
  | .nonlinear, true => split
  | .selection, true => es.flatMap (fun e =>
      (k, newUnit c k e .whole none wait) :: ((ranks.zip (List.range ranks.length)).filterMap (fun p =>
        let x := shareOf ranks.length o.kred p.2
        if x.1 < x.2 then some (p.1, newUnit c k e (.slice x.1 x.2) none wait) else none)))
  | .sampler, _ => own
  | .fused, false => own
  | .nonlinear, false => own
  | .selection, false => own
  | _, _ => []
/-- The units of a command enter, once its context's seed is in the cache (R195, R226, R450). -/
def State.sampleCmd (s : State) (k h : Nat) (c : RplCmd) (d : Desc) (o : Opr) (seed : Option Nat) : State :=
  if c.priv then s.each (s.privUnits k c o (c.cls == .sampler && seed.isNone)) (fun (s : State) (x : Nat × RplUnit) => s.enterUnit x.1 x.2)
  else match c.cls, seed with
    | .residueOnly, _ => s
    | .invalid, _ => s
    | .unchecked, _ => s
    | cls, some sd =>
      let t := s.threshold k h cls (s.rateMult h)
      let s := if s.unseeded d.ctx && decide (t < 2 ^ 32) then s.count uDRW DRW_STAT_UNSEEDED o.ecount else s
      s.each ((List.range o.ecount).filter (fun e => sampledAt sd t d (o.ebase + e))) (fun s e => s.enterUnit k (newUnit c k e .whole (some k) false))
    | _, none =>
      -- one place-holder waits for the seed
      s.updRplOf k (fun x => { x with units := x.units ++ [newUnit c k 0 .whole (some k) true] })
/-- The seed of a context in the Taster's cache, made the most recent; a missing one is asked for at the Hall (R450). -/
def State.seedFor (s : State) (k c : Nat) : State × Option Nat :=
  let x := s.rplOf k
  match x.seeds.find? (fun e => e.1 == c) with
  | some e => (s.updRplOf k (fun x => { x with seeds := e :: x.seeds.filter (fun y => y.1 != c) }), some e.2)
  | none =>
    if x.seedAsked.contains c then (s, none)
    else ((s.updRplOf k (fun x => { x with seedAsked := x.seedAsked ++ [c] })).emit (.ask 0x450 (puTst k) (puHal (regionOfCluster k)) c), none)

/-- The outputs that a gated selection's host row names are re-executed at the logits heads of its step: candidate c by rank c mod T (R226). DESIGN CHOICE
(assumption 189): an index i that row e of the selection names stands for the head's output at position (EBASE + e)·KRED + i of the selection's record. -/
def State.headUnits (s : State) (k : Nat) (d : Desc) (o : Opr) (e : Nat) (host : CaseVal) : State :=
  let names : List Nat := match host with | .row es => es.map (·.1.toNat) | _ => []
  let r := regionOfCluster k
  let ranks := s.ranks r
  let js := clustersOf r
  s.each js (fun s j => s.each ((s.rplOf j).cmds.filter (fun c => c.gated && c.cls == .dot)) (fun s c => match s.descOf j c.cmd, s.oprOf j c.cmd with
    | some dj, some oj =>
      if dj.ctx = d.ctx ∧ dj.step = d.step ∧ 64 < oj.ecount then
        s.each (names.zip (List.range names.length)) (fun s n =>
          let p := (o.ebase + e) * o.kred + n.1
          let x := p - oj.ebase
          if oj.ebase ≤ p ∧ x < oj.ecount ∧ n.1 < o.kred ∧ !(js.any (fun q => (s.rplOf q).units.any (fun u => u.home == j && u.cmd == c.cmd && u.e == x))) then
            s.enterUnit (ranks.getD (n.2 % max 1 ranks.length) j) (newUnit c j x .whole none false)
          else s)
      else s
    | _, _ => s))
/-- What the host's row of a gated selection names, once it has been read (R226). -/
def State.selNames (s : State) (u : RplUnit) : Option CaseVal :=
  match s.unitJob u, s.descOf u.home u.cmd, s.oprOf u.home u.cmd, s.rcmd u.home u.cmd, u.role with
  | some (.sel f), some d, some o, some c, .whole => if c.gated && c.ended then
      (match hostResult u.got o (.sel f) u.e d.ctx d.layer d.op with | .ok y => some y.2 | _ => none) else none
  | _, _, _, _, _ => none
/-- A unit's read comes too late for its command (R205): its X is complete only after the command's end, or its last read comes more than 100 µs after it. The first
bound is not one of a gated unit, whose reads may all follow the end (R229), nor of one entered after it (R231). DEDUCED (assumption 182): nor of a re-read (R239). -/
def State.lateRead (s : State) (u v : RplUnit) : Bool :=
  match s.rcmd u.home u.cmd with
  | some c => c.ended && !isSlice u && (decide (c.endWall + 100000 < s.now) || (u.role == .whole && !c.gated && !s.xDone u && s.xDone v))
  | none => false
/-- REPLICA_READ_LINE (R203, R205, R206): the line joins what the unit has read; an error stops it, a read past its point abandons it. A line for a unit that has left
goes nowhere, and the last one frees its tag. -/
def replicaReadLine (s : State) (k tag data : Nat) (last : Bool) (err : Nat) : State :=
  match s.checker k, (s.rplOf k).units.find? (fun u => match u.req with | some r => r.1 == tag | none => false) with
  | some h, some u =>
    let a := (u.req.map (·.2)).getD 0
    if last && (err == 1 || err == 2) then
      let s := s.dropUnit k h u err a
      (s.updRplOf k (fun x => { x with lost := x.lost.filter (· != tag) })).rplRegion (regionOfCluster k)
    else
      let got := (List.range 4).foldl (fun m i => Tab.insert (a / 16 + i) (data / 2 ^ (128 * i) % 2 ^ 128) m) u.got
      let v : RplUnit := { u with got := got, req := if last then none else u.req }
      let s := s.updRunit k u (fun _ => v)
      let s := if s.lateRead u v then s.dropUnit k h v 7 a
        else match s.selNames u, s.selNames v, s.descOf u.home u.cmd, s.oprOf u.home u.cmd with
          | none, some y, some d, some o => s.headUnits u.home d o u.e y
          | _, _, _, _ => s
      if u.priv then s.rplRegion (regionOfCluster k) else s.rplGo k
  | _, _ =>
    if last && (s.rplOf k).lost.contains tag then (s.updRplOf k (fun x => { x with lost := x.lost.filter (· != tag) })).rplGo k else s
/-- REPLICA_READ_LINE. -/
def execReplicaReadLine (k : ClusterId) (tag : BitVec 6) (data : BitVec 512) (last : Bool) (err : BitVec 2) (s : State) :
    Outcome State Fault Refusal :=
  .next (if s.stageHeld k.val 1 then s else replicaReadLine s k.val tag.toNat data.toNat last err.toNat)

/-- A unit stands at a position of its command (R199). -/
def State.unitIs (s : State) (cmd pos : Nat) (u : RplUnit) : Bool :=
  u.cmd == cmd && !isSlice u && (match s.oprOf u.home u.cmd with | some o => o.ebase + u.e == pos | none => false)
/-- REPLICA_READ_STALE (R205): the unit's Y read is complete more than 100 µs after the command's end. -/
def replicaReadStale (s : State) (k cmd pos : Nat) : State :=
  match s.checker k, (s.rplOf k).units.find? (fun u => s.unitIs cmd pos u && decide (u.stage = 0)) with
  | some h, some u => if ((s.rcmd u.home cmd).map (·.ended)).getD false then (s.dropUnit k h u 7 0).rplRegion (regionOfCluster k) else s
  | _, _ => s
/-- REPLICA_READ_STALE. -/
def execReplicaReadStale (k : ClusterId) (id : CmdId) (pos : Nat) (s : State) : Outcome State Fault Refusal :=
  .next (replicaReadStale s k.val id.toNat pos)

/-- The first word of a case value, as events show it (R234). -/
def valWord : CaseVal → Nat
  | .elem c _ => c.toNat
  | .row (e :: _) => e.1.toNat
  | .step x _ => x.toNat
  | _ => 0
/-- A unit is finished: counted as a match, traced (R232, R413); `k` compares it, `j` lists it. -/
def State.unitPass (s : State) (k j h : Nat) (u : RplUnit) (pos : Nat) : State :=
  ((s.updRunit j u (fun u => { u with stage := 2 })).count (uTST h) TST_RPL_MATCH_COUNT).trace k 3 0x12 none (s.descOf u.home u.cmd)
    (u.cmd * 2 ^ 18 + 2 ^ 17 + pos % 2 ^ 17)
/-- What a unit has read, with the slices of a gated selection's row (R228). -/
def State.unitGot (s : State) (u : RplUnit) : Tab Nat :=
  ((clustersOf (regionOfCluster u.home)).flatMap (fun j => (s.rplOf j).units.filter (fun v => v.home == u.home && v.cmd == u.cmd && v.e == u.e && isSlice v))).foldl
    (fun m v => v.got.foldl (fun m g => Tab.insert g.1 g.2 m) m) u.got
/-- A unit failed: counted, traced, a case opened; a PRIV command's check has failed (R220, R224, R227, R230, R413). Inputs of more than 32 KiB are re-read, unless
the hold buffer has them (R239). A dropped case of a gated command leaves its check failed with no passing repeat (R237). -/
def State.unitFail (s : State) (k j h : Nat) (u : RplUnit) (d : Desc) (gated : Bool) (pos code word6 word7 : Nat) (c : Case) : State :=
  let s := s.updRunit j u (fun u => { u with stage := 2 })
  let s := (s.count (uTST h) TST_RPL_MISM_COUNT).bankCount u.home 13 1 (some d.bin)
  let s := s.trace k 3 0x12 none (some d) (u.cmd * 2 ^ 18 + pos % 2 ^ 17)
  let s := s.trace k 2 0x10 none (some d) (u.cmd * 2 ^ 18 + (if code = 0x3001 then 8 else 9) * 2 ^ 14 + pos % 2 ^ 14)
  let s := s.raiseOnce 0 code (puTst h) (u.cmd * 2 ^ 18 + pos % 2 ^ 18) word6 word7
  let s := if u.priv then s.updRcmd u.home u.cmd (fun c => { c with fail := true }) else s
  let got := s.unitGot u
  let big := !u.priv && decide (32768 < 16 * got.length)
  let held : Held := match s.unitJob u, s.oprOf u.home u.cmd with
    | some job, some o => if big then .none else .unit job o u.e got
    | _, _ => .none
  let no := (s.adjOf h).next
  let r := s.openCase u.home { c with held := held }
  let s := r.1
  let s := if big && (s.caseOf h no).isSome then
    s.updRplOf u.home (fun x => { x with units := x.units ++ [{ u with role := .reread no, cmp := none, got := [], req := none, stage := 0 }] }) else s
  if u.priv && gated && r.2 then s.updRcmd u.home u.cmd (fun c => { c with incomplete := true }) else s
/-- The core that a replica case names: the lowest that has run the command (R236). -/
def State.coreOf (s : State) (k cmd : Nat) : Nat := ((s.rcmd k cmd).map (·.core)).getD 0
/-- A case that a failing unit opens (R236). -/
def State.unitCase (s : State) (u : RplUnit) (d : Desc) (gated : Bool) (kind : CaseKind) (repl : Nat) (host : CaseVal) (bound : Dy) (gmode : Nat) (fmt : Nat) : Case :=
  ⟨0, u.home, s.coreOf u.home u.cmd, u.cmd, kind, d.priv, gated, d.ctx, d.step, d.layer, d.op, repl, .val host, .waiting, .waiting, .waiting,
    .none, bound, fmt, gmode, none, false, false, none, 0, [], 0, 2, 0, false⟩
/-- The unit that a Taster compares: one that it has computed, or that has come to it as the lead (R220, R226). -/
def State.comparable (s : State) (k cmd pos : Nat) : Option (Nat × RplUnit) :=
  ((k :: (clustersOf (regionOfCluster k)).filter (· != k)).flatMap (fun j => (s.rplOf j).units.map (fun u => (j, u)))).find?
    (fun x => x.2.cmp == some k && decide (x.2.stage = 1) && s.unitIs cmd pos x.2)
/-- REPLICA_COMPARE (R220, R222-R224): `upset` is what the Taster's own lanes produced where they erred. After a comparison of a MAYVARY output the long accumulator
holds y - Sx; after an overflow it holds a free value (assumption 188). -/
def replicaCompare (s : State) (k cmd pos : Nat) (upset : Option CaseVal) : State :=
  match s.checker k, s.comparable k cmd pos with
  | some h, some (j, u) =>
    match s.unitEval u, s.descOf u.home u.cmd, s.rcmd u.home u.cmd, s.unitJob u with
      | .ok (r, y, host), some d, some c, some job =>
        let done (s : State) := s.updRunit j u (fun u => { u with stage := 2 })
        let s := if !u.priv && sampledAt (s.rplSeed k d.ctx) (s.threshold k h u.cls 1) d pos then s.pairSample k d pos (valWord host) else s
        let s := if d.mayvary then (match job with
            | .dot t => match tolerance t r.prods y with
              | .overflow => ((((done s).updRplOf h (fun x => { x with lacc := BitVec.ofNat 672 (Config.openVal s.fresh) })).draw).count (uTST h) TST_LACC_OVF_COUNT).raiseOnce
                  0 0x3016 (puTst h) cmd pos
              | .skip => (done s).count (uTST h) TST_RPL_TOLSKIP_COUNT
              | .judged ok b =>
                let sx := Dy.sum ((r.prods.filterMap id).map FV.dy)
                let s := if r.prods.any (fun p => match p with | some v => !v.isFin | none => false) then s
                  else s.updRplOf h (fun x => { x with lacc := if y.val.isFin then laccSub (laccLoad y.val.dy) sx else laccLoad sx })
                if ok && upset.isNone then s.unitPass k j h u pos
                else
                  let g := if t.outconv then (if t.outrm = 0 then 1 else 2) else 0
                  let b32 := toF32 (FV.ofDy false b)
                  s.unitFail k j h u d c.gated pos 0x3002 y.code b32
                    (s.unitCase u d c.gated .mayvary b32 (.elem (BitVec.ofNat 32 y.code) (BitVec.ofNat 8 y.scale)) b g y.fmt)
            | _ => (done s).count (uTST h) TST_RPL_UNCMP_COUNT)
          else
            let v := upset.getD r.val
            if CaseVal.same v host && decide (job.outFmt = y.fmt) then s.unitPass k j h u pos
            else s.unitFail k j h u d c.gated pos 0x3001 (valWord host) (valWord v) (s.unitCase u d c.gated .replica (valWord v) host Dy.zero 0 y.fmt)
        if u.priv then s.rplRegion (regionOfCluster k) else (s.updRunit j u (fun u => { u with got := [] })).rplGo k
      | _, _, _, _ => s
  | _, _ => s
/-- REPLICA_COMPARE. -/
def execReplicaCompare (k : ClusterId) (id : CmdId) (pos : Nat) (upset : Option CaseVal) (s : State) : Outcome State Fault Refusal :=
  .next (if s.stageHeld k.val 2 || s.stageHeld k.val 3 || s.stageHeld k.val 4 then s else replicaCompare s k.val id.toNat pos upset)

/-- A context has drawn: its seed cannot be set any more (R449). -/
def State.noteDraw (s : State) (c : Nat) : State := s.updCtx c (fun x => { x with drawn := true })
/-- A draw's result at the draw port (R452, R472). -/
def State.drawOut (s : State) (k ctr seed : Nat) : State :=
  let s := s.count uDRW DRW_PORT_COUNT
  let s := if s.unseeded (ctr / 2 ^ 116) then s.count uDRW DRW_STAT_UNSEEDED else s
  s.emit (.ask 0x452 (puTst k) (puTst k) (drawOf seed ctr))
/-- Requests at the draw port are accepted in their order, until one waits for its context's seed (R452). -/
def State.drawDrain (k : Nat) : List Nat → State → State
  | [], s => s.updRplOf k (fun x => { x with drawWait := [] })
  | ctr :: rest, s => match s.seedFor k (ctr / 2 ^ 116) with
    | (s, some seed) => State.drawDrain k rest (s.drawOut k ctr seed)
    | (s, none) => s.updRplOf k (fun x => { x with drawWait := ctr :: rest })
/-- What waits at a cluster's draw port goes on. -/
def State.drawGo (s : State) (k : Nat) : State := State.drawDrain k (s.rplOf k).drawWait s
/-- A seed load is served by the Hall: the seed displaces the least recently used of 16, and what waited for it goes on (R449, R450). -/
def State.seedServe (s : State) (k c : Nat) : State :=
  if !(s.rplOf k).seedAsked.contains c then s
  else
    let r := regionOfCluster k
    let seed := s.seedNow c
    let s : State := { s with prv := { s.prv with
      served := if s.prv.served.contains (r, c) then s.prv.served else s.prv.served ++ [(r, c)]
      heldLoads := s.prv.heldLoads.filter (fun e => e != (k, c)) } }
    let s := s.noteDraw c
    let s := s.updRplOf k (fun x => { x with
      seeds := ((c, seed) :: x.seeds.filter (fun e => e.1 != c)).take 16, seedAsked := x.seedAsked.filter (· != c) })
    let s := s.drawGo k
    match s.checker k with
    | none => s
    | some h =>
      let mine := (s.rplOf k).cmds.filter (fun x => s.ctxOfCmd k x.cmd == c)
      (s.each mine (fun s x =>
        let hadPlace := (s.rplOf k).units.any (fun u => u.home == k && u.cmd == x.cmd && u.seedWait && !u.priv)
        let s := s.updRplOf k (fun y => { y with
          units := (y.units.filter (fun u => !(u.home == k && u.cmd == x.cmd && u.seedWait && !u.priv))).map
            (fun u => if u.home = k ∧ u.cmd = x.cmd then { u with seedWait := false } else u) })
        if !hadPlace then s
        else match s.descOf k x.cmd, s.oprOf k x.cmd with
          | some d, some o => s.sampleCmd k h x d o (some seed)
          | _, _ => s)).rplGo k
/-- SEED_LOAD_DONE (R448-R450): the load is served. While a SET
of the context is under decision the Hall holds the load (R449). -/
def seedLoadDone (s : State) (k c : Nat) : State :=
  if s.prv.setting.any (fun x => x.ctx == c) then
    (if s.prv.heldLoads.contains (k, c) then s else { s with prv := { s.prv with heldLoads := s.prv.heldLoads ++ [(k, c)] } })
  else s.seedServe k c
/-- SEED_LOAD_DONE. -/
def execSeedLoadDone (k : ClusterId) (ctx : Ctx) (s : State) : Outcome State Fault Refusal := .next (seedLoadDone s k.val ctx.toNat)

end Sys2Proof.Machine
end

