-- ==== Sys2Proof/Machine/DescStore.lean ====
section
/-! DEFINITION. Loading and invalidating descriptors, locally and by broadcast (R210, R211, R233, R375). -/
namespace Sys2Proof.Machine
open Sys2Proof Host

/-- A load into one Taster's store, checked in the order of R211: the STATUS it gives, and the state. -/
def State.loadAt (s : State) (k kind i len : Nat) (bytes : List Byte) : State × Nat :=
  if i = 0 then (s, 5)
  else if (s.slot k kind i).state ≠ 0 then (s, 7)
  else
    let c := descCheck kind len bytes
    let bs := bytes.take len
    if c ≠ 0 then (s, c)
    else if kind = 0 then (s.updSlot k 0 i ⟨1, bs⟩, 2)
    else match firstFit (s.rplOf k).pool len with
      | none => (s, 6)
      | some o =>
        let s := s.updRplOf k (fun x => { x with pool := sortBy (fun a b => decide (a.2.1 ≤ b.2.1)) ((i, o, len) :: x.pool) })
        (s.updSlot k 1 i ⟨1, bs⟩, 2)
/-- A refused load is reported (R234). DESIGN CHOICE (assumption 209): a load has no command, and the CMDID word of its 0x3012 is 0. -/
def State.loadRefused (s : State) (k st : Nat) : State := if st = 2 then s else s.raiseOnce 0 0x3012 (puTst k) 0 3 st
/-- An index is invalidated from now on (R211). -/
def State.invalAt (s : State) (k kind i : Nat) : State :=
  let d := s.slot k kind i
  if d.state = 1 then s.updSlot k kind i { d with state := 2 } else s
/-- Tasters that answer a broadcast: those that exist and are powered. -/
def State.bcastTasters (s : State) : List Nat :=
  (List.range nClusters).filter (fun k => !(s.unit (puTst k)).absent && !s.regionLost (regionOfCluster k))

/-- DESCRIPTOR_LOAD (R211). -/
def descriptorLoad (s : State) (k : Nat) : State :=
  let u := uTST k
  if s.descStatus k = 1 then s
  else
    let kind := s.rd u TST_DESC_SEL_KIND
    let i := s.rd u TST_DESC_SEL_INDEX
    let len := s.rd u TST_DESC_LEN_BYTES
    let bytes := (s.rplOf k).stage
    if s.isSet u TST_DESC_SEL_BCAST then
      (s.updRplOf k (fun x => { x with bcast := some ⟨s.bcastTasters, none, false, kind, i, bytes, len⟩ })).wr u TST_DESC_CTRL_STATUS 1
    else
      let r := (s.updRplOf k (fun x => { x with bcast := none })).loadAt k kind i len bytes
      (r.1.wr u TST_DESC_CTRL_STATUS r.2).loadRefused k r.2
/-- DESCRIPTOR_INVALIDATE (R211): it takes effect at once; STATUS reads 1 until the index is free. -/
def descriptorInvalidate (s : State) (k : Nat) : State :=
  let u := uTST k
  if s.descStatus k = 1 then s
  else
    let kind := s.rd u TST_DESC_SEL_KIND
    let i := s.rd u TST_DESC_SEL_INDEX
    let s := s.wr u TST_DESC_CTRL_STATUS 1
    if s.isSet u TST_DESC_SEL_BCAST then
      let ks := s.bcastTasters
      let s := s.each ks (fun s t => s.invalAt t kind i)
      ((s.updDescBytes (256 * kind + i) (fun _ => [])).updRplOf k (fun x => { x with bcast := some ⟨ks, none, true, kind, i, [], 0⟩ })).freeSlots k
    else
      let s := ((s.invalAt k kind i).updRplOf k (fun x => { x with bcast := some ⟨[], none, true, kind, i, [], 0⟩ })).freeSlots k
      if (s.slot k kind i).state = 2 then s
      else (s.updRplOf k (fun x => { x with bcast := none })).wr u TST_DESC_CTRL_STATUS 0
/-- DESCRIPTOR_BROADCAST_ANSWER (R211): Taster `t` has loaded, refused or freed; when all have answered STATUS shows 2, or
the refusal of the lowest-numbered refuser, or 0. The active Brewhouse keeps a broadcast that all have loaded (R375). -/
def descriptorBroadcastAnswer (s : State) (k t : Nat) : State :=
  let u := uTST k
  match (s.rplOf k).bcast with
  | none => s
  | some b =>
    if !b.left.contains t then s
    else
      let s := if b.inval then s.freeAt t b.kind b.index else s
      if b.inval && decide ((s.slot t b.kind b.index).state = 2) then s
      else
        let r := if b.inval then (s, 0) else s.loadAt t b.kind b.index b.len b.bytes
        let s := if b.inval then r.1 else r.1.loadRefused t r.2
        let ref := if b.inval ∨ r.2 = 2 then b.refusal
          else match b.refusal with
            | some (q, c) => if t < q then some (t, r.2) else some (q, c)
            | none => some (t, r.2)
        let left := b.left.filter (· != t)
        if left.isEmpty then
          let s := s.updRplOf k (fun x => { x with bcast := none })
          let st := if b.inval then 0 else match ref with | some (_, c) => c | none => 2
          let s := if st = 2 then s.updDescBytes (256 * b.kind + b.index) (fun _ => b.bytes.take b.len) else s
          s.wr u TST_DESC_CTRL_STATUS st
        else s.updRplOf k (fun x => { x with bcast := some { b with left := left, refusal := ref } })
/-- DESCRIPTOR_BROADCAST_ANSWER. -/
def execDescriptorBroadcastAnswer (k t : ClusterId) (s : State) : Outcome State Fault Refusal :=
  .next (descriptorBroadcastAnswer s k.val t.val)

end Sys2Proof.Machine
end

