-- ==== Sys2Proof/Machine/History.lean ====
section
/-! DEFINITION. Per-unit history, quarantine policy, adoption, fencing and taint (R253-R266, R274). -/
namespace Sys2Proof.Machine
open Sys2Proof Host

/-- POSTURE of a history entry (R255). -/
def postureCode : Posture → Nat
  | .strong => 0
  | .session => 1
  | .small => 2
/-- 30 days of operating time in units of 1/4,096 hour (R256). -/
def histWindow : Nat := 2949120
/-- CONFIRMED entries of a table in the window that ends now (R257, R275 0x4030). -/
def State.confirmedNow (s : State) (t : HistTable) : Nat :=
  (t.entries.filter (fun e => e.confirmed && decide (s.optime ≤ e.optime + histWindow))).length
/-- Three CONFIRMED entries lie within the window of one another (R256). -/
def threeConfirmed (t : HistTable) : Bool :=
  let c := (t.entries.filter (·.confirmed)).map (·.optime)
  (List.range c.length).any (fun i => match (c.drop i).head?, (c.drop (i + 2)).head? with
    | some a, some b => decide (a - b ≤ histWindow)
    | _, _ => false)
/-- BRW_HIST_STAT.TABLES: the tables in use, also after a restart, which keeps them (R257, R274). -/
def State.histTables (s : State) : Nat := (s.hist.filter (fun e => e.2.made)).length
/-- The table that R257 reclaims first, where one may be: lowest TOTAL, then newest entry's OPTIME, then PUID. -/
def State.reclaimable (s : State) : Option Nat :=
  let c := s.hist.filter (fun e => e.2.made && e.2.state == 0 && s.confirmedNow e.2 == 0)
  let last (t : HistTable) : Nat := ((t.entries.head?).map (·.optime)).getD 0
  ((sortBy (fun (a b : Nat × HistTable) => decide (a.2.total < b.2.total ∨ (a.2.total = b.2.total ∧ (last a.2 < last b.2 ∨ (last a.2 = last b.2 ∧ a.1 ≤ b.1))))) c).head?).map (·.1)
/-- A table for a unit: its own, a new one, a reclaimed one, or none, which drops what was to be written (R255, R257). -/
def State.histRoom (s : State) (p : Nat) : State × Bool :=
  if (s.histOf p).made then (s, true)
  else
    let make (s : State) := s.updHistOf p (fun t => { t with made := true })
    if s.histTables < 65536 then (make s, true)
    else match s.reclaimable with
      | some q => (make { s with hist := Tab.erase q s.hist, histStaged := s.histStaged.filter (· != q) }, true)
      | none => ((s.flag uBRW BRW_HIST_STAT_FULL true).raiseOnce 0 0x4070 s.puActive p, false)
/-- A unit's table is staged (R257). -/
def State.histStage (s : State) (p : Nat) : State :=
  if s.histStaged.contains p then s else { s with histStaged := s.histStaged ++ [p] }

/-- A link is Shuttered until the next chip reset, and its accounts are void from the next cut on (R266, R423, R424). -/
def State.shutLink (s : State) (n : Nat) : State :=
  let s : State := { s with voids := if s.voids.any (fun v => v.cause == 3 && v.place == n) then s.voids else s.voids ++ [⟨3, n, false⟩] }
  (s.updDoor n (fun d => { d with shut := true })).setUnit (puDor n) (fun u => { u with shut := true })
/-- CL_CH_FENCE on every channel of a stack (R266). -/
def State.fenceStack (s : State) (c : Nat) : State := s.wr (uCEL c) CEL_CH_CTRL_FENCE 65535
/-- CL_CH_FENCE on one channel (R306). -/
def State.fenceChan (s : State) (c ch : Nat) : State :=
  s.wr (uCEL c) CEL_CH_CTRL_FENCE (orBit (s.rd (uCEL c) CEL_CH_CTRL_FENCE) ch)

/-- The Taster that would adopt a cluster (R264). -/
def State.adopterFor (s : State) (k : Nat) : Option Nat :=
  (clustersOf (regionOfCluster k)).find? (fun t => t != k && s.tstTrusted t && (s.adjOf t).adopted.isNone)
/-- The unit that a replica case adjudicates, as some cluster lists it. -/
def State.caseRunit (s : State) (c : Case) : Option RplUnit :=
  let e := match c.held with | .unit _ _ e _ => some e | _ => none
  let us := (s.rpl.flatMap (fun x => x.2.units)).filter (fun u => u.home == c.cluster && u.cmd == c.cmd && !isSlice u)
  match us.find? (fun u => u.role == .reread c.no) with
  | some u => some u
  | none => us.find? (fun u => some u.e == e)
/-- One case of a cluster moves from the Taster `src` to the adopter `t`, which restarts it: a Tap's alarm from the capture that the Tap still holds, a
replica unit by reading it again from its views; one that steep resolves, and the one that the adopter completes under R251, go on. What cannot be restarted, or finds no
slot, is INCONCLUSIVE: an atomic one, whose presentation only the suspect Taster has latched, is of these (R237, R239, R251, R265, R270; assumption 199). -/
def State.restartCase (s : State) (k src t : Nat) (c : Case) : State :=
  let a := s.adjOf t
  let keeps := c.closure || c.second || (match c.kind with | .residue _ => (s.tap (ckey k c.core)).latched == some c.cmd | _ => false)
  let reads := !keeps && (match c.kind with | .replica => true | .mayvary => true | _ => false)
  let u := if reads then s.caseRunit c else none
  if (if c.priv then 8 else 6) ≤ a.cases.length || (!keeps && u.isNone) then s.inconclusive src c 4
  else
    let no := a.next
    let s := s.dropCase src c.no
    let again := match c.c2 with | .waiting => true | _ => reads
    let s := s.updAdjOf t (fun a => { a with next := no + 1, cases := a.cases ++ [{ c with
      no := no, t1 := if c.second then c.t1 else if c.closure then c.t1 else .waiting, t2 := if c.closure then c.t2 else .waiting, t2p := none, tries := 0
      c2 := if reads then .waiting else c.c2, held := if reads then .none else c.held, asked := none }] })
    match u with
    | some u => s.updRplOf k (fun x => { x with units := x.units ++ [{ u with role := .reread no, cmp := none, got := [], req := none, stage := 0 }] })
    | none =>
      if c.closure || c.held == .none then s
      else (if again then s.askRepeat t no else s).askNeighbour t no (src :: c.used)
/-- A cluster adopted by the lowest-numbered trusted Taster of its region with none adopted (R264). Its open cases move there from the Taster `src` that holds them
and restart; requests of its gated and steering commands go on. Where there is no adopter the cases end INCONCLUSIVE (R270), and the region's privileged results are
withheld (R27). -/
def State.adoptFrom (s : State) (k src : Nat) : State :=
  if ((s.adjOf k).adopter.map (fun t => s.tstTrusted t)) == some true then s else
  let cs := (s.adjOf src).cases.filter (fun c => c.cluster == k)
  match s.adopterFor k with
  | some t =>
    let s := s.each (cs.filter (fun c => !c.second && !c.closure)) (fun s c => s.rptDrop src (fun q => q.what == .case c.no))
    let mine := (s.adjOf src).rq.filter (fun q => q.cluster == k)
    let s := s.updAdjOf src (fun a => { a with rq := a.rq.filter (fun q => q.cluster != k) })
    let s := s.updAdjOf k (fun a => { a with adopter := some t })
    let s := s.updAdjOf t (fun a => { a with adopted := some k, rq := a.rq ++ mine.filter (fun q => match q.what with | .case _ => false | _ => true) })
    let s := s.each cs (fun s c => s.restartCase k src t c)
    ((s.rptGo k).rplGo k).raiseOnce 0 0x4040 (puTst t) k
  | none =>
    let s := s.each cs (fun s c => s.inconclusive src c 4)
    let s := s.rptDrop src (fun q => q.cluster == k)
    ((s.updAdjOf k (fun a => { a with adopter := none })).raiseOnce 0 0x4041 (puTst k) k).closeGates (regionOfCluster k) 5
/-- A cluster adopted whose cases its own Taster holds. -/
def State.adopt (s : State) (k : Nat) : State := s.adoptFrom k k
/-- A Taster leaves service: what it had adopted is adopted anew, and so is its own cluster (R264). -/
def State.leaveService (s : State) (k : Nat) : State :=
  let s := s.stpAbandon (uTST k) 3
  match (s.adjOf k).adopted with
  | none => s.adopt k
  | some j => ((s.updAdjOf k (fun a => { a with adopted := none })).adoptFrom j k).adopt k

/-- A spare or an adopter is available to a unit of a cluster, as R263 asks under Remap. -/
def State.remapOk (s : State) (p : Nat) : Bool :=
  let k := puidMajor p
  match puidKind p with
  | 0 => !(s.spares k).isEmpty
  | 1 => !(s.spares k).isEmpty
  | 2 => (s.adjOf k).adopter.isSome
  | _ => false
/-- The wafer enters DRAINING (R263). -/
def State.drainWafer (s : State) (p : Nat) : State :=
  let s := s.wr uBRW BRW_WAFER_Q_REPLACE 1
  if s.rd uBRW BRW_WAFER_Q_STATE = 0 then
    let s : State := { s.wr uBRW BRW_WAFER_Q_STATE 1 with drainSince := s.now }
    (s.raise 0x4031 s.puActive p (s.rd uBRW BRW_QPOLICY_POLICY)).notifyWafer
  else s
/-- A policy event (R263): Strict drains the wafer; Remap requalifies the cluster where a spare or adopter is available. -/
def State.policyEvent (s : State) (p : Nat) : State :=
  if s.rd uBRW BRW_QPOLICY_POLICY = 0 ∨ !s.remapOk p then s.drainWafer p
  else
    let k := puidMajor p
    let cs := (List.range 1024).filter (fun c => s.coreUsable k c)
    s.updAdjOf k (fun a => { a with requal := cs, requalOk := true, requalOn := true, requalN := cs.length })

/-- A unit's history STATE changes (R255): 0 IN SERVICE, 1 FENCED, 2 PERMANENT. -/
def State.setHistState (s : State) (p st : Nat) : State :=
  let (s, ok) := s.histRoom p
  let s := if ok then (s.updHistOf p (fun t => { t with state := st, stateTime := s.optime })).histStage p else s
  s.setUnit p (fun u => { u with fenced := st == 1, perm := st == 2 })
/-- A unit's STATE as it holds for the unit, whether or not a table records it (R253, R257): 0 IN SERVICE, 1 FENCED, 2 PERMANENT. -/
def State.standing (s : State) (p : Nat) : Nat := let u := s.unit p; if u.perm then 2 else if u.fenced then 1 else 0
/-- A core leaves service: TP_FENCE, and a steep that borrowed it or held it ends (R253, R259, R270). -/
def State.fenceCore (s : State) (k p : Nat) : State :=
  let s := if (s.core (ckey k p)).lent then s.stpEnd (uTST k) else s.stpFenced (puCore k p)
  s.updCore (ckey k p) (fun c => { c with fence := true, lent := false })
/-- What follows for a unit that enters PERMANENT (R266). -/
def State.permEffect (s : State) (p : Nat) : State :=
  let k := puidMajor p
  match puidKind p with
  | 0 => s.fenceCore k (puidMinor p)
  | 2 => s.leaveService k
  | 5 => s.fenceStack k
  | 6 => s.shutLink k
  | 8 => s.fenceChan k (puidMinor p)
  | _ => s
/-- A unit enters PERMANENT (R256, R263, R266). -/
def State.enterPermanent (s : State) (p : Nat) : State :=
  let prev := s.standing p
  if prev = 2 then s
  else
    let n := s.confirmedNow (s.histOf p)
    let s := (s.setHistState p 2).raise 0x4030 p n prev
    (s.permEffect p).policyEvent p
/-- A unit enters FENCED; of a host core or a Taster it is a policy event (R253, R263). -/
def State.enterFenced (s : State) (p : Nat) : State :=
  if s.standing p ≠ 0 then s
  else
    let s := (s.setHistState p 1).hallAct (regionOfPuid p) 8 p
    match puidKind p with
    | 0 => (s.fenceCore (puidMajor p) (puidMinor p)).policyEvent p
    | 2 => (s.leaveService (puidMajor p)).policyEvent p
    | _ => s
/-- A unit returns to IN SERVICE (R253). -/
def State.returnService (s : State) (p : Nat) : State :=
  let s := if s.standing p = 0 then s else s.setHistState p 0
  match puidKind p with
  | 0 => s.updCore (ckey (puidMajor p) (puidMinor p)) (fun c => { c with fence := false, rst := false, logical := none })
  | 2 => (s.updAdjOf (puidMajor p) (fun a => { a with collector := false })).unadopt (puidMajor p)
  | _ => s
/-- A history entry written against a unit, with R256 applied as it is staged. -/
def State.histEntry (s : State) (p : Nat) (e : HistEntry) : State :=
  let (s, ok) := s.histRoom p
  if !ok then s
  else
    let s := (s.updHistOf p (fun t => { t with
      entries := (e :: t.entries).take 16, total := satAdd 255 t.total 1, next := (t.next + 1) % 16 })).histStage p
    if threeConfirmed (s.histOf p) then s.enterPermanent p else s

/-- A context is tainted from a step (R254): gate cells withhold every PRIV block of it, with reason 1. -/
def State.taintCtx (s : State) (r c step : Nat) : State :=
  let x := s.ctx c
  if c == 0 || x.state != 1 || x.killed || (match x.taint with | some t => decide (t ≤ step) | none => false) then s
  else
    let rel := sortBy (fun a b => decide (a ≤ b)) (x.released.filter (fun t => decide (step ≤ t)))
    let s := (s.updCtx c (fun x => { x with taint := some step })).regate c
    let s := s.raise 0x4060 (puHal r) (c * 2 ^ 16) step (match rel with | t :: _ => t | [] => 2 ^ 32 - 1)
    s.notify 0x0011 c [(step, 6), ((rel.head?).getD (2 ^ 48 - 1), 6)]

/-- The history entry of a verdict (R255). -/
def State.entryOf (s : State) (v : Verdict) : HistEntry :=
  ⟨v.code, v.source, v.code ≤ 7, v.priv, v.unrepeated, v.erratic, v.ctx, postureCode (s.posture (regionOfCluster v.cluster)), s.optime,
    s.attic.pcyc, 0⟩
/-- Words 5 to 7 of a verdict's event (R275). -/
def verdictWords (v : Verdict) : Nat × Nat × Nat :=
  let b (x : Bool) := if x then 1 else 0
  let w5 := v.source * 2 ^ 28 + v.ctx * 2 ^ 16 + b v.unrepeated * 2 + b v.erratic
  let lo := v.layer * 2 ^ 16 + v.op
  match v.code with
  | 0x03 => (w5, v.step, v.extra)
  | 0x07 => (v.core, v.step, lo)
  | 0x08 => (v.cmd, v.step, v.extra)
  | 0x09 => (v.cmd, v.step, v.extra)
  | _ => (w5, v.step, lo)
/-- The consequence of a verdict at the Hall (R253, R254). -/
def State.verdictEffect (s : State) (r : Nat) (v : Verdict) : State :=
  let w := verdictWords v
  let s := s.raiseHist (s.entryOf v) (0x4000 + v.code) v.puid w.1 w.2.1 w.2.2
  let s := match v.code with
    | 0x01 => s.enterFenced v.puid
    | 0x03 => s.enterFenced v.puid
    | 0x05 => s.enterFenced v.puid
    | 0x07 => ({ s.killCtx v.ctx 7 v.step v.cluster 1 0 with steepFirst := s.steepFirst ++ [(0, v.cluster)] } : State).replaysGo
    | 0x08 => s.updAdjOf v.cluster (fun a => { a with unlocated := (List.range 1024).filter (fun p => !(s.unit (puCore v.cluster p)).absent) })
    | _ => s
  if !v.gated && [0x01, 0x02, 0x08, 0x09].contains v.code then s.taintCtx r v.ctx v.step else s
/-- HALL_VERDICT (R253, R270): the oldest verdict on its way to the Hall is acted on, unless the Hall's processor restarts. -/
def hallVerdict (s : State) (r : Nat) : State :=
  match s.verdictsOf r with
  | [] => s
  | v :: vs =>
    if (s.hall r).procHeld then s
    else (((s.updVerdictsOf r (fun _ => vs)).item (chTst v.cluster)).hallAct r 1 v.puid).verdictEffect r v
/-- HALL_VERDICT. -/
def execHallVerdict (r : RegionId) (s : State) : Outcome State Fault Refusal := .next (hallVerdict s r.val)

/-- FENCE_BOUNDARY (R260-R262): the fenced core is idle; the free spare of lowest number takes its state, or its logical
core's entry is made invalid with 0x4022. A steep borrows it only while another spare stays free. -/
def fenceBoundary (s : State) (k p : Nat) : State :=
  let c := s.core (ckey k p)
  if !c.fence || c.cmd.isSome || s.coreResetting k p || (s.port k).mig.isSome || s.widerReset k then s
  else match s.logicalOf k p with
    | none => if s.coreOut k p then s.updCore (ckey k p) (fun c => { c with rst := true, wrapEn := false }) else s
    | some l =>
      let steep := (s.unit (puCore k p)).steep
      if steep && decide ((s.spares k).length < 2) then s
      else match s.spares k with
      | d :: _ =>
        let s := (s.updPort k (fun x => { x with mig := some ⟨p, d, l, steep, none⟩ })).updCore (ckey k p) (fun c => { c with logical := some l })
        if steep then s.updCore (ckey k d) (fun c => { c with lent := true }) else s
      | [] =>
        let s := s.updPort k (fun x => { x with coreShadow := x.coreShadow ++ [(l, 0)], commit := true })
        (s.raiseOnce 0 0x4022 (puTst k) l).drainWafer (puCore k p)
/-- FENCE_BOUNDARY. -/
def execFenceBoundary (k : ClusterId) (p : CoreId) (s : State) : Outcome State Fault Refusal := .next (fenceBoundary s k.val p.val)
/-- MIGRATION_DONE (R259, R261): the map entry is written to the spare and committed. -/
def migrationDone (s : State) (k cycles : Nat) : State :=
  match (s.port k).mig with
  | none => s
  | some m => s.updPort k (fun x => { x with
      mig := some { m with copied := some cycles }, coreShadow := x.coreShadow ++ [(m.logical, m.dst + 1024)], commit := true })
/-- MIGRATION_DONE. An uncorrectable error leaves poison in the copied rows, which the host reports when it is consumed (R259, R267). -/
def execMigrationDone (k : ClusterId) (cycles : Nat) (_err : Bool) (s : State) : Outcome State Fault Refusal :=
  .next (migrationDone s k.val cycles)
/-- MAP_COMMIT_DONE (R99, R261, R373): the shadow bank is live; a swap-in completes with 0x4020, and the core that left is
held in reset while its secrets are cleared; an engine reset whose maps are written is complete. -/
def State.mapCommitted (s : State) (k : Nat) : State :=
  let x := s.port k
  if !x.commit then s
  else
    let live := match x.fullShadow with | some _ => [] | none => x.coreLive
    let s := s.updPort k (fun x => { x with
      base := (match x.fullShadow with | some b => some b | none => x.base), fullShadow := none, commit := false, coreShadow := []
      coreLive := x.coreShadow.foldl (fun m e => Tab.insert e.1 e.2 m) live })
    let s := match x.mig with
      | some m => match m.copied with
        | some n =>
          let s := s.updPort k (fun x => { x with mig := none })
          let s := (s.updCore (ckey k m.src) (fun c => { c with rst := true, wrapEn := false })).updCore (ckey k m.dst)
            (fun c => { c with rst := false, fence := false, wrapEn := false })
          (s.hallAct (regionOfCluster k) 9 (puCore k m.src)).raiseOnce m.src 0x4020 (puCore k m.src) m.dst m.logical n
        | none => s
      | none => s
    s.mapChanged
/-- MAP_MISS (R99, R276). -/
def mapMiss (s : State) (k : Nat) (chanTable : Bool) (entry : Nat) : State :=
  (s.count (uTST k) TST_MAP_MISS_COUNT).raiseOnce 0 0x4043 (puTst k) entry (if chanTable then 1 else 0)
/-- MAP_MISS. -/
def execMapMiss (k : ClusterId) (chanTable : Bool) (entry : BitVec 13) (s : State) : Outcome State Fault Refusal :=
  .next (mapMiss s k.val chanTable entry.toNat)

/-- WAFER_DRAINED (R263): no host context remains while DRAINING. -/
def waferDrained (s : State) : State :=
  if s.rd uBRW BRW_WAFER_Q_STATE = 1 && s.ctxs.all (fun e => e.1 == 0 || e.2.state != 1) then
    ((s.wr uBRW BRW_WAFER_Q_STATE 2).raise 0x4032 s.puActive ((s.now - s.drainSince) / 1000000)).notifyWafer
  else s
/-- WAFER_DRAINED. -/
def execWaferDrained (s : State) : Outcome State Fault Refusal := .next (waferDrained s)
/-- Staged tables reach both flash devices (R257). -/
def State.histProgram (s : State) : State := { s with histFlash := s.hist, histStaged := [] }
/-- HISTORY_PROGRAM (R257, R499): staged tables are in both flash devices. -/
def execHistoryProgram (s : State) : Outcome State Fault Refusal := .next (if s.firmDown then s else s.histProgram)
/-- HISTORY_SELECT (R274). -/
def historySelect (s : State) (p : Nat) : State :=
  let t := s.histOf p
  let s : State := { s.wr uBRW BRW_HIST_PUID_PUID p with histLatch := if t.made then some t else none }
  s.flag uBRW BRW_HIST_STAT_FOUND t.made

/-- The four words of a history entry (R255). -/
def entryWords (e : HistEntry) : List Nat :=
  let b (x : Bool) := if x then 1 else 0
  [e.verdict * 2 ^ 24 + e.source * 2 ^ 20 + b e.confirmed * 2 ^ 19 + b e.priv * 2 ^ 18 + b e.unrepeated * 2 ^ 17 + b e.erratic * 2 ^ 16
    + e.ctx * 2 ^ 4 + e.posture * 4, e.optime % 2 ^ 32, e.pcyc % 2 ^ 32, e.seq % 2 ^ 32]
/-- Words 0 to 2 of a table's header (R255). -/
def headWords (p : Nat) (t : HistTable) : List Nat :=
  [p, t.state * 2 ^ 24 + t.entries.length * 2 ^ 16 + t.next * 2 ^ 8 + t.total, t.stateTime % 2 ^ 32]
/-- The words of slot `j` of a table's ring; a slot never written holds zeros. -/
def slotWords (t : HistTable) (j : Nat) : List Nat :=
  match t.entries[(t.next + 15 - j) % 16]? with
  | some e => entryWords e
  | none => [0, 0, 0, 0]
/-- CHECK: CRC-32C over the header words and the 16 slots (R255). -/
def tableCheck (p : Nat) (t : HistTable) : Nat :=
  crcOf crc32c ((headWords p t ++ (List.range 16).flatMap (slotWords t)).flatMap (leBytes 4))
/-- BRW_HIST_WIN0-WIN3 (R274). -/
def State.histWin (s : State) (i : Nat) : Nat :=
  match s.histLatch with
  | none => 0
  | some t =>
    let p := s.rd uBRW BRW_HIST_PUID_PUID
    let n := s.rd uBRW BRW_HIST_SEL_ENTRY
    if n = 0 then (headWords p t ++ [tableCheck p t]).getD i 0
    else if n ≤ 16 then ((t.entries[n - 1]?).map (fun e => (entryWords e).getD i 0)).getD 0
    else 0
/-- HISTORY_WINDOW_READ (R274): a read of BRW_HIST_WIN3 advances ENTRY by one, up to 16. -/
def historyWindowRead (s : State) : State :=
  let n := s.rd uBRW BRW_HIST_SEL_ENTRY
  (s.emit (.word (BitVec.ofNat 32 (s.histWin 3)))).wr uBRW BRW_HIST_SEL_ENTRY (if n < 16 then n + 1 else n)

end Sys2Proof.Machine
end

