-- ==== Sys2Proof/Machine/Priv.lean ====
section
/-! DEFINITION. Step checks of privileged commands: merging, outcomes, verdicts, repeats (R225-R231, R603, R457). -/
namespace Sys2Proof.Machine
open Sys2Proof Host

/-- A step check of a region, context and step. -/
def State.stepOf (s : State) (r c t : Nat) : Option StepCheck := s.steps.find? (fun x => x.region == r && x.ctx == c && x.step == t)
/-- That check changed. -/
def State.updStep (s : State) (r c t : Nat) (f : StepCheck → StepCheck) : State :=
  { s with steps := s.steps.map (fun x => if x.region = r ∧ x.ctx = c ∧ x.step = t then f x else x) }
/-- A gated command of a step has a mode 1 repeat asked for at its cluster's repeat port (R603, R241); with no Taster to ask, its repeat has failed (R227). -/
def State.askRedo (s : State) (r c t : Nat) (g : GatedCmd) : State :=
  let mark (n : Nat) := s.updStep r c t (fun x => { x with cmds := x.cmds.map (fun y => if y.cluster = g.cluster ∧ y.cmd = g.cmd then { y with redo := n } else y) })
  match s.checker g.cluster with
  | some h => (mark 1).rptAsk h g.cluster (.gated g.cmd) 1 0 g.cmd
  | none => mark 2
/-- The gated commands of a step with the repeats that are due: a failing command that has none, and every command that started after it, those that have been
repeated before again, so that repeats keep the original start order (R603). -/
def redoDue : Bool → Bool → List GatedCmd → List GatedCmd
  | _, _, [] => []
  | hit, anew, g :: gs =>
    let hit := hit || g.bad
    let anew := anew || (g.bad && g.redo == 0)
    (if g.redo = 0 then (if hit then { g with redo := 3 } else g)
      else if !anew then g
      else if g.redo = 2 then { g with redo := 3, redoOk := false }
      else if g.redo = 1 then { g with again := true }
      else g) :: redoDue hit anew gs
/-- A repeat of a command of a step has been asked for and has not started. -/
def State.redoStands (s : State) (x : StepCheck) : Bool :=
  x.cmds.any (fun g => s.adj.any (fun e => e.2.rq.any (fun q => q.cluster == g.cluster && q.stage != 2 && q.what == .gated g.cmd)))
/-- The repeats of a step that are due are asked for in start order, each once the one before it has started; blocks of the step from now on are re-executed
ones (R603, R106). DESIGN CHOICE (assumption 198): R603 gives the order and does not say that a repeat must have ended before the next starts. -/
def State.redoStep (s : State) (r c t : Nat) : State :=
  match s.stepOf r c t with
  | none => s
  | some x =>
    let l := redoDue false false x.cmds
    let due := l.filter (fun g => g.redo == 3)
    if due.isEmpty then s
    else
      let s := s.updStep r c t (fun x => { x with cmds := l })
      (s.each due (fun s g => match s.stepOf r c t with
        | some y => if s.redoStands y then s else s.askRedo r c t g
        | none => s)).markRedo r c t

/-- A gated command starts in its region: it joins its step's check in start order (R227). -/
def State.gatedStart (s : State) (k : Nat) (d : Desc) : State :=
  let r := regionOfCluster k
  let g : GatedCmd := ⟨k, d.cmd, d.layer, d.op, true, none, 0, false, false, false⟩
  let s : State := match s.stepOf r d.ctx d.step with
    | some _ => s.updStep r d.ctx d.step (fun x => { x with cmds := x.cmds.filter (fun y => !(y.cluster == k && y.cmd == d.cmd)) ++ [g] })
    | none => ({ s with steps := s.steps.filter (fun x => !(x.region == r && x.ctx == d.ctx && x.verdict.isSome))
        ++ [⟨r, d.ctx, d.step, d.layer, d.op, [g], s.now, k, false, (0xFFFFFFFF, 0x7FC00000), none⟩] } : State)
  s.redoStep r d.ctx d.step
/-- A gated command, or a repeat of one, has ended in its cluster: the lead is that of the sampler, else of the last to end,
and the verdict is timed from that end (R226, R229). -/
def State.gatedEnd (s : State) (k : Nat) (d : Desc) (sampler : Bool) : State :=
  let r := regionOfCluster k
  s.updStep r d.ctx d.step (fun x => { x with
    cmds := x.cmds.map (fun y => if y.cluster = k ∧ y.cmd = d.cmd then { y with running := false } else y)
    lead := if sampler || !x.sampler then k else x.lead, sampler := x.sampler || sampler, lastEnd := if sampler || !x.sampler then s.now else x.lastEnd })

/-- A step record for the context's provenance chain; one too many breaks the chain (R457, R458). -/
def State.stepRecord (s : State) (c t : Nat) (token : Nat × Nat) (verdict : Nat) : State :=
  if !s.isSet uPRV PRV_CTX_CFG_PROV c || s.isSet uPRV PRV_STAT_BROKEN c || (s.ctx c).state != 1 || (s.ctx c).killed then s
  else if 4096 ≤ s.prv.queue.length then (s.flag uPRV PRV_STAT_BROKEN true c).raise 0xD001 s.puActive c t s.prv.queue.length
  else
    let tainted := (s.ctx c).taint.isSome
    ({ s with prv := { s.prv with queue := s.prv.queue ++ [⟨c, t, token.1, token.2, if tainted then 2 else verdict, s.prv.mapDig⟩] } } : State).wr
      uPRV PRV_STAT_QUEUE (s.prv.queue.length + 1)

/-- The verdict of a step, none while an outcome or a repeat is missing (R227, R603). DESIGN CHOICE (assumption 167): where several conditions of WITHHOLD hold
in one step, the reason is that of the first in the order 1, 6, 3, 5. -/
def verdictOfStep (x : StepCheck) : Option GateVerdict :=
  let has (p : PrivOutcome → Bool) := x.cmds.any (fun g => match g.outcome with | some o => p o | none => false)
  if x.cmds.any (fun g => g.running || g.outcome.isNone || g.redo == 1 || g.redo == 3) then none
  else if x.cmds.any (fun g => (g.redo == 2 && !g.redoOk) || (g.bad && g.redo != 2)) then some (.withhold 1)
  else if has (· == .poisoned) then some (.withhold 6)
  else if has (· == .missing) then some (.withhold 3)
  else if has (· == .noTaster) then some (.withhold 5)
  else if x.cmds.any (·.bad) then some .fail
  else some .pass
/-- An epoch's longest value, saturating. -/
def State.peakCnt (s : State) (u : Nat) (F : Fld) (v : Nat) : State :=
  { s with ecnt := putCnt s.ecnt (fkey u F 0) (max (s.cnt u F) (min (fldTop F) v)) }
/-- The step's verdict is formed as soon as it can be: sent to the region's gate cells, reported, timed (R227, R229). -/
def State.stepVerdict (s : State) (r c t : Nat) : State :=
  match s.stepOf r c t with
  | none => s
  | some x =>
    if x.verdict.isSome then s
    else match verdictOfStep x with
      | none => s
      | some v =>
        let s := s.updStep r c t (fun x => { x with verdict := some v })
        let s := s.emit (.ask 0x227 (puHal r) c (match v with | .pass => 0 | .fail => 1 | .withhold w => 16 + w.val))
        let s := s.each (x.cmds.filter (fun g => g.bad && g.redo == 2 && g.redoOk)) (fun s g =>
          s.raise 0x3003 (puTst ((s.checker g.cluster).getD g.cluster)) (c * 2 ^ 16 + g.layer) t g.op)
        let s : State := match v with
          | .fail => s
          | .withhold w => if w.val = 1 then s.raise 0x3021 (puHal r) (c * 2 ^ 16) t 1 else s
          | .pass => { s with passSeen := true }
        let lat := (s.now - x.lastEnd) / 10
        let u := uTST x.lead
        let s := s.peakCnt u TST_PRIV_LAT_MAX lat
        let s := if 400 < lat then (s.count u TST_PRIV_OVER_COUNT).raiseOnce 0 0x3017 (puTst x.lead) (c * 2 ^ 16) t lat else s
        let s := s.stepRecord c t x.token (match v with | .pass => 0 | .fail => 1 | .withhold _ => 2)
        s.rplRegion r

/-- A logits head whose step has a gated selection still to be compared: the outputs that it names are to come (R226). -/
def State.headWaits (s : State) (k : Nat) (c : RplCmd) : Bool :=
  match s.descOf k c.cmd, s.oprOf k c.cmd with
  | some d, some o => c.cls == .dot && decide (64 < o.ecount) && (clustersOf (regionOfCluster k)).any (fun j =>
      (s.rplOf j).units.any (fun u => u.cls == .selection && u.priv && decide (u.stage < 2) && !isSlice u && (match s.descOf u.home u.cmd with
        | some e => e.ctx == d.ctx && e.step == d.step
        | none => false)))
  | _, _ => false
/-- The outcome that a Taster reports for a PRIV command: what its own check found before what is presented (R227, R237). -/
def State.outcomeOf (s : State) (k : Nat) (c : RplCmd) (out : PrivOutcome) : Option PrivOutcome :=
  if !c.ended then none
  else if (s.checker k).isNone then some .noTaster
  else if c.cls == .unchecked || c.cls == .invalid then some .missing
  else if c.stopped then some .poisoned
  else if c.fail then some (if c.incomplete then .repeatFailed else .checkFailed)
  else if (clustersOf (regionOfCluster k)).any (fun j => (s.rplOf j).units.any (fun u => u.home == k && u.cmd == c.cmd && !isSlice u && decide (u.stage < 2)))
    || s.headWaits k c then none
  else some out
/-- The entry that a sampler's step record carries (R457). -/
def State.tokenOf (s : State) (k : Nat) (c : RplCmd) : Option (Nat × Nat) :=
  match c.cls, (s.rplOf k).units.find? (fun u => u.home == k && u.cmd == c.cmd) with
  | .sampler, some u => match s.unitEval u with
    | .ok (_, _, .row (e :: _)) => some (e.1.toNat, e.2.toNat)
    | _ => none
  | _, _ => none
/-- The outcome of an original command or of its repeat joins the step's check (R227, R603). -/
def State.outcomeIn (s : State) (k cmd : Nat) (d : Desc) (isRedo : Bool) (o : PrivOutcome) : State :=
  let r := regionOfCluster k
  let good := o == .passed || o == .repeatPassed
  let redo := isRedo || o == .repeatPassed || o == .repeatFailed
  let failed := o == .checkFailed || o == .repeatFailed
  let s := s.updStep r d.ctx d.step (fun x => { x with cmds := x.cmds.map (fun y =>
    if y.cluster = k ∧ y.cmd = cmd then
      (if redo && y.again then { y with redo := 3, again := false }
       else if redo then { y with redo := 2, redoOk := good, outcome := (match y.outcome with | none => some .checkFailed | z => z), bad := y.bad || !isRedo && o == .repeatFailed }
       else { y with outcome := some o, bad := y.bad || failed })
    else y) })
  (s.redoStep r d.ctx d.step).stepVerdict r d.ctx d.step
/-- PRIV_OUTCOME (R227, R230, R232, R603): a steering command's is counted alone. -/
def privOutcome (s : State) (k cmd : Nat) (out : PrivOutcome) : State :=
  match s.rcmd k cmd, s.descOf k cmd with
  | some c, some d =>
    if !c.priv then s
    else match s.outcomeOf k c out with
      | none => s
      | some o =>
        let h := (s.checker k).getD k
        let s : State := match s.tokenOf k c with
          | some t => s.updStep (regionOfCluster k) d.ctx d.step (fun x => { x with token := t })
          | none => s
        let s := if o == .passed || o == .repeatPassed then (s.count (uTST h) TST_PRIV_CHECKED_COUNT).bankCount k 15 1 (some d.bin)
          else if o == .checkFailed || o == .repeatFailed then s.count (uTST h) TST_PRIV_FAIL_COUNT else s
        if c.gated then s.outcomeIn k (c.repeatOf.getD cmd) d c.repeatOf.isSome o else s
  | _, _ => s
/-- PRIV_OUTCOME. -/
def execPrivOutcome (k : ClusterId) (id : CmdId) (out : PrivOutcome) (s : State) : Outcome State Fault Refusal :=
  .next (privOutcome (s.item (chTst k.val)) k.val id.toNat out)

/-- A unit belongs to a gated command of a (CTX, STEP). -/
def State.ofStep (s : State) (c t : Nat) (u : RplUnit) : Bool :=
  match s.rcmd u.home u.cmd, s.descOf u.home u.cmd with
  | some x, some d => x.gated && d.ctx == c && d.step == t
  | _, _ => false
/-- PRIV_PARTIAL_SELECTION (R226): what the Taster of cluster `t` has of a step reaches the lead, over the region's Stair hop: the selections of its slices, which
are merged once a row is complete, and the candidates that it has recomputed, which the lead compares, as it does the selection. `upset` is what the Taster's own lanes
produced for its slices where they erred. -/
def privPartialSelection (s : State) (k t c step : Nat) (upset : Option CaseVal) : State :=
  let r := regionOfCluster k
  match s.stepOf r c step with
  | none => s
  | some x =>
    if x.lead ≠ k ∨ regionOfCluster t ≠ r then s
    else
      let mine := (s.rplOf t).units.filter (fun u => s.ofStep c step u && decide (u.stage = 1))
      let s := s.each (mine.filter isSlice) (fun s u => match u.role, s.unitEval u with
        | .slice lo hi, .ok (v, _) =>
          let es := match upset.getD v.val with | .row l => l.map (fun e => (e.1.toNat, e.2.toNat)) | _ => []
          (s.updRunit t u (fun u => { u with stage := 2 })).updRcmd u.home u.cmd (fun y => { y with
            parts := y.parts.filter (fun q => !(q.1 == u.e && q.2.1 == lo)) ++ [(u.e, lo, hi, es)] })
        | _, _ => s)
      let s := s.each (mine.filter (fun u => !isSlice u && u.cls == .dot && u.cmp.isNone)) (fun s u => s.updRunit t u (fun u => { u with cmp := some k }))
      let s := s.each (clustersOf r) (fun s j => s.each ((s.rplOf j).units.filter (fun u => s.ofStep c step u && !isSlice u && u.cls == .selection))
        (fun s u => s.updRunit j u (fun u => { u with cmp := some k })))
      s.rplRegion r
/-- PRIV_PARTIAL_SELECTION. -/
def execPrivPartialSelection (k t : ClusterId) (ctx : Ctx) (step : Step) (upset : Option CaseVal) (s : State) : Outcome State Fault Refusal :=
  .next (privPartialSelection s k.val t.val ctx.toNat step.toNat upset)

/-- A steering check has failed and so has its repeat: the context is killed, and every Hall withholds its later blocks (R230, R231). -/
def State.steerKill (s : State) (k c step : Nat) : State := (s.raise 0x3021 (puHal (regionOfCluster k)) (c * 2 ^ 16) step 1).killCtx c 3 step k 2 1
/-- The started request of a cluster's repeat port. -/
def State.rptRunning (s : State) (k : Nat) : Option (Nat × RptReq) :=
  (s.checker k).bind (fun h => ((s.adjOf h).rq.find? (fun q => q.cluster == k && q.stage == 2)).map (fun q => (h, q)))
/-- The repeat of a steering command that was incomplete is itself incomplete, or raises an alarm (R230, R231). -/
def State.steerAgain (s : State) (k : Nat) : State :=
  match s.rptRunning k with
  | some (h, q) => match q.what with
    | .steering cmd => ((s.rqSet h q none).rptGo k).steerKill k (s.ctxOfCmd k cmd) (s.stepOfCmd k cmd)
    | _ => s
  | none => s
/-- A PRIV invocation was reported incomplete (R231): every output of a command of at most 2^20 products is re-executed; a larger one is repeated, and a repeat that
is again incomplete has failed. DEDUCED (assumption 46): a command whose class has no replica work (R193) is repeated whatever its size. -/
def State.privIncomplete (s : State) (k cmd : Nat) : State :=
  match s.rcmd k cmd, s.descOf k cmd, s.oprOf k cmd, s.checker k with
  | some c, some d, some o, some h =>
    let r := regionOfCluster k
    if !c.priv then s
    else if o.ecount * o.kred ≤ 2 ^ 20 && (cmdJob c d c.cls 0 0).isSome then
      let ranks := s.ranks r
      let there (s : State) (e : Nat) : Bool := (clustersOf r).any (fun j => (s.rplOf j).units.any (fun u => u.home == k && u.cmd == cmd && u.e == e && !isSlice u))
      (s.each ((List.range o.ecount).filter (fun e => !there s e)) (fun s e =>
        let j := if c.gated then rankOf ranks k o.xdiv (e % max 1 o.xdiv) else k
        s.enterUnit j (newUnit c k e .late (some j) false))).rplRegion r
    else if c.repeatOf.isSome then s.updRcmd k cmd (fun c => { c with fail := true })
    else if c.gated then
      (s.updStep r d.ctx d.step (fun x => { x with cmds := x.cmds.map (fun y => if y.cluster = k ∧ y.cmd = cmd then { y with bad := true } else y) })).redoStep
        r d.ctx d.step
    else s.rptAsk h k (.steering cmd) 2 0 cmd
  | _, _, _, _ => s

end Sys2Proof.Machine
end

