-- ==== Sys2Proof/Machine/Commands.lean ====
section
/-! DEFINITION. Commands of a cluster: descriptors, starts, ends, and the reports that Taps send their Taster (R86, R94, R95, R169, R179, R187, R355, R408-R410). -/
namespace Sys2Proof.Machine
open Sys2Proof Host

/-- LIMIT of a timeout class after reset (R356). -/
def tmoDefault (c : Nat) : Nat := if c < 10 then 16 * 4 ^ c else if c < 15 then 16777216 else 0
/-- LIMIT of a timeout class at a Hall: the field holds its difference from the default (R356, R387). -/
def State.tmoLimit (s : State) (r c : Nat) : Nat := Nat.xor (s.rd (uHAL r) HAL_TMO_CLASS_LIMIT c) (tmoDefault c)
/-- The bin of a command: the lowest enabled one that its LAYER and OP match, else 64 (R409). -/
def State.binFor (s : State) (k layer op : Nat) : Nat :=
  ((List.range 64).find? (fun b =>
    let x := s.bin (64 * k + b)
    x.en && Nat.land layer x.layerMask == Nat.land x.layerVal x.layerMask && Nat.land op x.opMask == Nat.land x.opVal x.opMask)).getD 64
/-- A descriptor as TS_DESC and TS_OPR present it (R94, R198). A repeat of mode 0 or 2 is a command of context 0 (R243). -/
def State.descIn (s : State) (k x : Nat) (opr : Option Nat) : Desc :=
  let layer := bits x 27 12
  let op := bits x 43 28
  let cmd := bits x 127 114
  let rpt := s.repeatCmd cmd && (match s.rptRunning k with | some (_, q) => q.mode != 1 | none => false)
  ⟨cmd, bits x 113 106, bits x 105 98, bit x 97, bit x 96, bits x 95 92, bits x 91 44, op, layer, if rpt then 0 else bits x 11 0, opr,
    s.binFor k layer op, s.tmoLimit (regionOfCluster k) (bits x 95 92)⟩
/-- The tree facts of a coverage context (R179, R213). -/
def tapTreeOf (t : TreeDesc) : TapTree := ⟨t.root, t.leaves, t.outconv, t.isLocal, t.fanin.getLastD 0⟩
/-- The coverage context of a command, for the Taps of every core of the cluster (R179). -/
def State.coverage (s : State) (k : Nat) (d : Desc) : State :=
  let x : TapCtx := ⟨d.cmd, d.step % 12, d.priv, s.posture (regionOfCluster k), if d.tree = 0 then none else (s.treeAt k d.tree).map tapTreeOf, d.limit,
    d.tree != 0 && (s.treeAt k d.tree).isNone⟩
  s.each (List.range 1024) (fun s p => s.tapContext k p x)
/-- The original of a repeat: a mode 1 repeat takes a CMDID of the declared range and carries its original's descriptor
unchanged; it is one that has been started and whose descriptor this is, else the first that has been started (R243). -/
def State.repeatOf (s : State) (k : Nat) (d : Desc) : Option Nat :=
  if s.repeatCmd d.cmd then
    match s.checker k with
    | some h =>
      let started := (s.adjOf h).rq.filterMap (fun q => match q.what with | .gated cmd => if q.cluster = k ∧ q.stage = 2 then some cmd else none | _ => none)
      let same := started.find? (fun cmd => match s.descOf k cmd with
        | some e => e.ctx == d.ctx && e.step == d.step && e.layer == d.layer && e.op == d.op && e.sfn == d.sfn && e.tree == d.tree
        | none => false)
      same.orElse (fun _ => started.head?)
    | none => none
  else none
/-- A command that cannot be replica-checked is counted and reported (R27, R193, R199, R202, R214, R235). -/
def State.unfitCmd (s : State) (k : Nat) (d : Desc) (w : Unfit) : State :=
  let h := (s.checker k).getD k
  match w with
  | .none => s
  | .missing kind i => ((s.count (uTST h) TST_RPL_NODESC_COUNT).raiseOnce (kind * 256 + i) 0x3010 (puTst h) kind i d.cmd).pairUnchecked k d
  | .unfit why i => (s.count (uTST h) TST_RPL_NODESC_COUNT).raiseOnce 0 0x3012 (puTst h) d.cmd why i

/-- A command begins on its first core: it goes behind those already started (R197); a gated one joins its step's check. -/
def State.firstStart (s : State) (k : Nat) (d : Desc) (c : RplCmd) : State :=
  let h := (s.checker k).getD k
  let s := s.updRplOf k (fun y =>
    let rest := y.cmds.filter (fun z => z.cmd != c.cmd)
    { y with cmds := rest.filter (·.started) ++ [{ c with started := true }] ++ rest.filter (fun z => !z.started) })
  let s := if d.opr.isNone then
      ((s.count (uTST h) TST_RPL_NODESC_COUNT).raiseOnce 0 0x3011 (puTst h) d.cmd 2 0).pairUnchecked k d else s
  let own := match d.opr.map Opr.ofNat with | some o => o.gregion == regionOfCluster k | none => true
  if c.gated && c.repeatOf.isNone && own then s.gatedStart k d else s
/-- A descriptor enters the Taster (R94, R95, R179, R193-R199, R225, R355, R409, R450, R463). One that comes after its command has started
finds the command unchecked: it is not sampled, and a PRIV one's results are withheld (R95). -/
def State.descriptorIn (s : State) (k x : Nat) (opr : Option Nat) : State :=
  let d := s.descIn k x opr
  let r := regionOfCluster k
  let h := (s.checker k).getD k
  let w := s.classify k d
  let o := d.opr.map Opr.ofNat
  let on := (s.running k).filter (fun e => e.2 == d.cmd)
  let late := !on.isEmpty && (s.rcmd k d.cmd).isNone
  let cls := if late then .unchecked else match o with | some _ => w.1 | none => .unchecked
  let outside := d.priv && (match o with | some o => o.gated && o.gregion != r | none => false)
  let gated := d.priv && (match o with | some o => o.gated | none => true)
  let sf := if d.sfn = 0 then none else s.sfAt k d.sfn
  let c : RplCmd := ⟨d.cmd, 0, false, false, 0, cls, d.priv, gated, false, false, false, s.repeatOf k d, [], if d.tree = 0 then none else s.treeAt k d.tree, sf,
    sf.bind (fun f => if f.kind = 2 then s.sfAt k (f.loval % 256) else none), 1024⟩
  let s := s.updRplOf k (fun y => { y with
    descs := d :: y.descs.filter (fun z => z.cmd != d.cmd), cmds := y.cmds.filter (fun z => z.cmd != d.cmd) ++ [c] })
  let s := s.each (clustersOf r) (fun s j => s.unitsOut j (fun u => u.home == k && u.cmd == d.cmd))
  let s := (s.coverage k d).unfitCmd k d (if o.isNone then .none else w.2)
  let s : State := match o with
    | some y => if outside then s.raiseOnce 0 0x3020 (puTst h) d.cmd y.gregion r else s
    | none => s
  let q := s.seedFor k d.ctx
  let s := q.1
  let s : State := if s.mapWait k then
      s.mapWaits k
    else match o, s.checker k with
      | some y, some h => if outside || late then s else s.sampleCmd k h c d y q.2
      | _, _ => s
  let s := if late then ((s.pairUnchecked k d).firstStart k d c).updRcmd k d.cmd (fun c => { c with
      running := on.length, core := on.foldl (fun m e => min m e.1) c.core }) else s
  ((s.pairCommand k d).rplRegion r).pairTry k
/-- DESCRIPTOR_ARRIVE (R27, R94): on a cluster that no Taster checks, the Hall refuses a context that has no command there yet. -/
def descriptorArrive (s : State) (k x : Nat) (opr : Option Nat) : State :=
  let ctx := bits x 11 0
  if (s.checker k).isNone && ctx != 0 && !(s.liveCtxs k).contains ctx then s.emit (.ask 0x27 (puHal (regionOfCluster k)) (puTst k) ctx)
  else s.descriptorIn k x opr
/-- DESCRIPTOR_ARRIVE. -/
def execDescriptorArrive (k : ClusterId) (desc : BitVec 128) (opr : Option (BitVec 384)) (s : State) : Outcome State Fault Refusal :=
  .next (descriptorArrive s k.val desc.toNat (opr.map (·.toNat)))

/-- COMMAND_START (R86, R87, R95, R169, R180, R183, R184, R410, R413). -/
def commandStart (s : State) (k p cyc cmd l0rd l0wr : Nat) : State :=
  let s := s.tapStart k p cyc cmd l0rd l0wr
  let d := s.descOf k cmd
  let s : State := match s.rcmd k cmd, d with
    | some c, some x =>
      let s := if c.started then s else s.firstStart k x c
      s.updRcmd k cmd (fun c => { c with running := c.running + 1, ended := false, core := min c.core p })
    | _, _ =>
      if 2 ≤ ((s.running k).filter (fun e => e.2 == cmd)).length then s
      else
        let h := (s.checker k).getD k
        (s.count (uTST h) TST_RPL_NODESC_COUNT).raiseOnce 0 0x3011 (puTst h) cmd 1 0
  let b (x : Bool) (i : Nat) := if x then 2 ^ i else 0
  let par := match d with
    | some x => cmd * 2 ^ 18 + x.tclass * 2 ^ 14 + b x.priv 13 + b x.mayvary 12
    | none => cmd * 2 ^ 18
  (s.trace k 0 0x01 (some p) d par).bankCount k 1 1 (some (s.binOf k cmd))
/-- COMMAND_START. -/
def execCommandStart (k : ClusterId) (p : CoreId) (cyc : Nat) (id : CmdId) (l0rd l0wr : Nat) (s : State) : Outcome State Fault Refusal :=
  .next (commandStart s k.val p.val cyc id.toNat l0rd l0wr)

/-- COMMAND_END (R86, R169, R174, R188, R205, R211, R227, R413, R463). -/
def commandEnd (s : State) (k p cyc l0rd l0wr : Nat) : State :=
  let core := s.core (ckey k p)
  let s := s.tapEnd k p cyc l0rd l0wr
  match core.cmd with
  | none => s
  | some cmd =>
    let d := s.descOf k cmd
    let n := cyc - s.latency 3 + 1 - core.startCyc
    let s := s.trace k 0 0x02 (some p) d (cmd * 2 ^ 18 + min (2 ^ 18 - 1) (n / 64))
    match s.rcmd k cmd, d with
    | some c, some x =>
      if 2 ≤ c.running then s.updRcmd k cmd (fun c => { c with running := c.running - 1 })
      else
        let s := s.updRcmd k cmd (fun c => { c with running := 0, ended := true, endWall := s.now })
        let s := if c.gated then (s.gatedEnd k x (c.cls == .sampler)).rplRegion (regionOfCluster k) else s.rplGo k
        (s.freeSlots k).pairTry k
    | _, _ => s
/-- COMMAND_END. -/
def execCommandEnd (k : ClusterId) (p : CoreId) (cyc : Nat) (l0rd l0wr : Nat) (s : State) : Outcome State Fault Refusal :=
  .next (commandEnd s k.val p.val cyc l0rd l0wr)

/-- The case that a Tap alarm opens (R236, R238, R245, R248). An alarm without a capture, and an accumulation that was not captured whole, are resolved by steep. -/
def State.alarmCase (s : State) (k p : Nat) (a : Alarm) (d : Option Desc) (gated : Bool) : Case :=
  let v : Got × Held := match a.cap with
    | .acc prods whole idx sa sx val exp => (.val (.exact ⟨val, exp + sa + sx - 254⟩), if whole then .acc prods idx sa sx else .none)
    | .pres port pres prod =>
      (.val (.step pres.s (discardVal pres (stepQ pres.kind.toNat pres ((prod.bind capVal).getD Dy.zero)))),
        .step port pres prod (stepMode ((s.rcmd k a.cmd).bind (·.tree)) pres prod))
    | .none => (.absent, .none)
  let closure := v.2 == .none || a.rkind == 5
  let g (f : Desc → Nat) := (d.map f).getD 0
  ⟨0, k, p, a.cmd, .residue a.rkind, (d.map (·.priv)).getD false, gated, g (·.ctx), g (·.step), g (·.layer), g (·.op), a.pred,
    v.1, if closure then .absent else .waiting, if closure then .absent else .waiting, if closure then .absent else .waiting, v.2,
    Dy.zero, 0, 0, none, false, closure, none, 0, [], 0, 0, 0, false⟩
/-- An alarm on a repeat of mode 0 or 2: the Tm of its case, or the failure of a steering command's repeat (R230, R243). -/
def State.repeatAlarm (s : State) (k : Nat) : State :=
  match s.rptRunning k with
  | some (h, q) => match q.what with
    | .case no => s.updCase h no (fun c => { c with tm := true })
    | .steering _ => s.steerAgain k
    | .gated _ => s
  | none => s
/-- RESIDUE_ALARM (R187, R191, R192, R236, R265): a Tap's oldest alarm reaches its Taster. One on a repeat opens no case of its own, unless the repeat is one of mode
1, which is checked as its original was (R243). -/
def residueAlarm (s : State) (k p : Nat) : State :=
  match (s.tap (ckey k p)).alarms with
  | [] => s
  | a :: as =>
    let s := s.updTap (ckey k p) (fun t => { t with alarms := as })
    let h := (s.checker k).getD k
    let d := s.descOf k a.cmd
    let lo := (d.map (fun d => d.layer * 2 ^ 16 + d.op)).getD 0
    let s := (s.count (uTST h) TST_RES_ALARMS_COUNT).bankCount k 14 1 (some (s.binOf k a.cmd))
    let s := s.trace k 2 0x10 (some p) d (a.cmd * 2 ^ 18 + a.rkind * 2 ^ 14 + a.pos)
    let s := s.raiseOnce 0 (0x2000 + a.rkind) (puTap k p) (a.cmd * 2 ^ 18 + a.rkind * 2 ^ 14 + a.pos) (a.pred * 2 ^ 13 + a.obs) lo
    let c := s.rcmd k a.cmd
    if s.repeatCmd a.cmd && (c.bind (·.repeatOf)).isNone then s.repeatAlarm k
    else
      let gated := (c.map (·.gated)).getD false
      let s := if (c.map (·.priv)).getD false then s.updRcmd k a.cmd (fun c => { c with fail := true }) else s
      let r := s.openCase k (s.alarmCase k p a d gated)
      if gated && r.2 then r.1.updRcmd k a.cmd (fun c => { c with incomplete := true }) else r.1
/-- RESIDUE_ALARM. -/
def execResidueAlarm (k : ClusterId) (p : CoreId) (s : State) : Outcome State Fault Refusal :=
  .next (if s.checkHeld k.val 0 then s else residueAlarm (s.item (chTap k.val p.val)) k.val p.val)
/-- RESIDUE_SUMMARY (R185, R187, R188, R190, R231, R410, R413, R461): it follows every alarm of its invocation. -/
def residueSummary (s : State) (k p : Nat) : State :=
  match (s.tap (ckey k p)).summaries with
  | [] => s
  | y :: ys =>
    if (s.tap (ckey k p)).alarms.any (fun a => a.cmd == y.cmd) then s else
    let s := s.updTap (ckey k p) (fun t => { t with summaries := ys })
    let h := (s.checker k).getD k
    let d := s.descOf k y.cmd
    let bin := some (s.binOf k y.cmd)
    let b (x : Bool) (i : Nat) := if x then 2 ^ i else 0
    let s := s.count (uTST h) TST_RES_SUMMARIES_COUNT
    let s := s.trace k 1 0x03 (some p) d (y.cmd * 2 ^ 18 + min 7 y.q * 2 ^ 15 + b y.closure 14 + b y.incomplete 13 + min 8191 y.covered)
    let s := (((s.bankCount k 4 y.covered bin).bankCount k 5 y.rotated bin).bankCount k 6 (y.dropped + y.skipped) bin).bankCount k 7 y.dsc bin
    let s : State := match d with | some x => s.pairReport k x y | none => s
    let s := if y.incomplete then
        ((s.count (uTST h) TST_RES_INCOMPLETE_COUNT).raiseOnce 0 0x2015 (puTap k p) y.cmd ((d.map (·.ctx)).getD 0 * 2 ^ 16) ((d.map (·.layer)).getD 0)).privIncomplete k y.cmd
      else s
    let s := if s.repeatCmd y.cmd && (y.dropped != 0 || y.skipped != 0) then s.steerAgain k else s
    s.pairTry k
/-- RESIDUE_SUMMARY. -/
def execResidueSummary (k : ClusterId) (p : CoreId) (s : State) : Outcome State Fault Refusal :=
  .next (if s.checkHeld k.val 0 then s else residueSummary (s.item (chTap k.val p.val)) k.val p.val)
/-- USAGE_REPORT (R408, R410): L0 traffic between commands counts as unbinned. -/
def usageReport (s : State) (k p : Nat) : State :=
  match (s.tap (ckey k p)).usages with
  | [] => s
  | y :: ys =>
    let s := (s.updTap (ckey k p) (fun t => { t with usages := ys })).updThmOf (regionOfCluster k) (fun x => { x with prod := x.prod + y.products })
    let b := some (s.binOf k y.cmd)
    let s := ((s.bankCount k 2 y.cycles b).bankCount k 3 y.products b)
    let s := (s.bankCount k 8 y.l0rd b).bankCount k 9 y.l0wr b
    (s.bankCount k 8 y.btrd (some 64)).bankCount k 9 y.btwr (some 64)
/-- USAGE_REPORT. -/
def execUsageReport (k : ClusterId) (p : CoreId) (s : State) : Outcome State Fault Refusal :=
  .next (if s.checkHeld k.val 0 then s else usageReport (s.item (chTap k.val p.val)) k.val p.val)

/-- ATOMIC_DISCARD_PRESENTATION (R97, R176, R191, R236, R237): the case of a mismatch names the issuing core's command. An SFMT outside the list raises 0x2011 with
reason 1 also where A, B or S is not finite (DESIGN CHOICE, assumption 208: R176 gives both reasons and no order). -/
def atomicDiscard (s : State) (k port : Nat) (pres : DscPres) : State :=
  match s.checker k with
  | none => s
  | some h =>
    let u := uTST h
    let core := pres.tag.toNat % 1024
    let skip (s : State) := s.count u TST_ATM_SKIPPED_COUNT
    let cmd := (s.core (ckey k core)).cmd
    let d := cmd.bind (s.descOf k)
    if pres.nf then skip s
    else if !([1, 2, 3].contains pres.sfmt.toNat) then (skip s).raiseOnce 0 0x2011 (puTst h) core 1 pres.sfmt.toNat
    else
      let pres : DscPres := { pres with kind := 0 }
      match stepCheck 0 pres Dy.zero with
      | .done pred sres dres bound =>
        let obs := (sres + dres) % resMod
        let s := (s.count u TST_ATM_CHECKED_COUNT).bankCount k 18 1 none
        if bound && pred == obs then s
        else
          let g (f : Desc → Nat) := (d.map f).getD 0
          let s := s.count u TST_ATM_MISM_COUNT
          let s := s.raiseOnce 0 0x2006 (puTst h) core (pred * 2 ^ 13 + obs) (g (·.layer) * 2 ^ 16 + g (·.op))
          let s := s.trace k 2 0x10 (some core) d (cmd.getD 0 * 2 ^ 18 + 10 * 2 ^ 14 + pres.tag.toNat)
          let s := if (d.map (·.priv)).getD false then s.updRcmd k (cmd.getD 0) (fun c => { c with fail := true }) else s
          let gated := ((cmd.bind (s.rcmd k)).map (·.gated)).getD false
          let c : Case := ⟨0, k, core, cmd.getD 0, .atomic, (d.map (·.priv)).getD false, gated, g (·.ctx), g (·.step), g (·.layer), g (·.op), pred,
            .val (.step pres.s (discardVal pres (stepQ 0 pres Dy.zero))), .absent, .waiting, .waiting, .step port pres none (stepMode none pres none),
            Dy.zero, pres.sfmt.toNat, 0, none, false, false, none, 0, [], 3, 0, 0, false⟩
          let r := s.openCase k c
          if gated && r.2 then r.1.updRcmd k (cmd.getD 0) (fun c => { c with incomplete := true }) else r.1
      | _ => (skip s).raiseOnce 0 0x2011 (puTst h) core 3 port
/-- ATOMIC_DISCARD_PRESENTATION. -/
def execAtomicDiscardPresentation (k : ClusterId) (port : Fin 8) (pres : DscPres) (s : State) : Outcome State Fault Refusal :=
  .next (atomicDiscard s k.val port.val pres)

end Sys2Proof.Machine
end

