-- ==== Sys2Proof/Machine/Adjudicate.lean ====
section
/-! DEFINITION. Results of adjudication cases, verdicts, repeats, and reports of poison (R241-R252, R267-R269, R273). -/
namespace Sys2Proof.Machine
open Sys2Proof Host

/-- A value agrees with a Taster's exact sum: it lies within the bound of R224 about it (R249). -/
def agreesSx (c : Case) (v t : CaseVal) : Bool :=
  match v, t with
  | .elem code sc, .exact sx =>
    let y : El := ⟨c.fmt, code.toNat, sc.toNat⟩
    match y.val with
    | .fin _ _ _ =>
      let yv := y.val.dy
      let g := if c.gmode = 0 then Dy.zero else if c.gmode = 1 then (spacingOf y).mul (Dy.pow2 (-1)) else spacingOf y
      let sat := yv.abs.same (topOf (decide (yv.n < 0)) y) && decide (yv.n ≠ 0) && decide (sx.n ≠ 0) && decide ((yv.n < 0) = (sx.n < 0)) && (yv.abs.sub c.bound).le sx.abs
      ((yv.sub sx).abs).le (c.bound.add g) || sat
    | _ => false
  | _, _ => CaseVal.same v t
/-- c1 or c2 equals a reference (R249). -/
def equalsRef (c : Case) (v t : Got) : Bool :=
  match v, t with
  | .val a, .val b => (match c.kind with | .mayvary => agreesSx c a b | _ => CaseVal.same a b)
  | _, _ => false
/-- c2 equals c1; in a MAYVARY case when both lie outside the bound (R249). -/
def equalsFirst (c : Case) : Bool :=
  match c.c1, c.c2 with
  | .val a, .val b => (match c.kind with
    | .mayvary => !equalsRef c (.val a) c.t1 && !equalsRef c (.val b) c.t1
    | _ => CaseVal.same a b)
  | _, _ => false
/-- What a settled case gives: a verdict code, the unit, its two flags and its last word. -/
structure Ruling where
  code : Nat
  puid : Nat
  unrepeated : Bool
  erratic : Bool
  extra : Nat
/-- The first row of R250 that holds, once every result is in or absent; `h` is the case's Taster. -/
def rulingOf (h : Nat) (c : Case) : Ruling :=
  let own := puTst h
  let isRes := match c.kind with | .residue _ => true | _ => false
  let good := equalsRef c c.c1 c.t1
  let core := puCore c.cluster c.core
  match c.t1, c.t2 with
  | .val a, .val b =>
    if !CaseVal.same a b then
      (if c.second then ⟨0x09, caseUnit c.cluster c, false, false, 3⟩ else ⟨0x03, own, false, false, puTst (c.asked.getD h)⟩)
    else if good && !isRes then ⟨0x04, own, false, false, 0⟩
    else if good then ⟨if c.tm then 0x05 else 0x06, puTap c.cluster c.core, false, false, 0⟩
    else if c.kind = .atomic then ⟨0x07, own, false, false, 0⟩
    else if c.mode = 2 ∧ 1 < c.ncore then ⟨0x08, puTst c.cluster, false, false, c.ncore⟩
    else match c.c2 with
      | .val _ => if equalsFirst c then ⟨0x01, core, false, false, 0⟩
          else if equalsRef c c.c2 c.t1 then ⟨0x02, core, false, false, 0⟩
          else ⟨0x01, core, false, true, 0⟩
      | _ => ⟨0x01, core, true, false, 0⟩
  | .val _, _ => ⟨0x09, caseUnit c.cluster c, false, false, 1⟩
  | _, _ => ⟨0x09, caseUnit c.cluster c, false, false, 2⟩
/-- A result has not arrived. -/
def Got.waits : Got → Bool
  | .waiting => true
  | _ => false
/-- A steering check that failed: its repeat passes and is reported, or it does not pass and the context is killed (R230, 0x3003, 0x3021). An atomic case has no
repeat, and its own verdict says what follows. -/
def State.steering (s : State) (c : Case) : State :=
  if !c.priv || c.gated || c.kind == .atomic then s
  else if equalsRef c c.c2 c.t1 then
    s.raise 0x3003 (puTst ((s.checker c.cluster).getD c.cluster)) (c.ctx * 2 ^ 16 + c.layer) c.step c.op
  else s.steerKill c.cluster c.ctx c.step
/-- A case whose results are all in gives its verdict, and what it held in a hold buffer is free (R228, R250-R252). -/
def State.settleCase (s : State) (h no : Nat) : State :=
  match s.caseOf h no with
  | none => s
  | some c =>
    if c.closure || Got.waits c.c2 || Got.waits c.t1 || Got.waits c.t2 then s
    else
      let r := rulingOf h c
      let v := verdictOf c r.code r.puid r.unrepeated r.erratic r.extra
      if r.code = 0x03 then
        (s.updCase h no (fun c => { c with second := true, t1 := c.t2, t2 := .waiting, t2p := none, used := c.used ++ c.asked.toList })).sendVerdict h v
      else (((s.dropCase h no).sendVerdict h v).steering c).rplRegion (regionOfCluster c.cluster)

/-- The request of a cluster that stands at its repeat port, or runs, with the Taster that made it (R241, R265). -/
def State.rqFind (s : State) (k stage : Nat) : Option (Nat × RptReq) :=
  (s.checker k).bind (fun h => ((s.adjOf h).rq.find? (fun q => q.cluster == k && q.stage == stage)).map (fun q => (h, q)))
/-- REPEAT_START (R241, R243): TS_RPT_ACK; of a step's repeats the next in start order is asked for (R603). -/
def repeatStart (s : State) (k : Nat) : State :=
  match s.rqFind k 1 with
  | none => s
  | some (h, q) =>
    let s := s.rqSet h q (some { q with stage := 2 })
    match q.what with
    | .case no => s.updCase h no (fun c => { c with rpt := 2 })
    | .gated cmd => match s.descOf k cmd with
      | some d => s.redoStep (regionOfCluster k) d.ctx d.step
      | none => s
    | _ => s
/-- REPEAT_START. -/
def execRepeatStart (k : ClusterId) (s : State) : Outcome State Fault Refusal := .next (repeatStart s k.val)
/-- REPEAT_DONE (R241-R243, R250): TS_RPT_DONE. The value of a repeat of mode 0 is the Tap's repeat capture, that of mode 2 what stands in the scratch view; Tm is a
mismatch that the Tap found in the repeat. A mode 1 repeat's outcome comes by its own check. -/
def repeatDone (s : State) (k ncore : Nat) (view : Option CaseVal) : State :=
  match s.rqFind k 2 with
  | none => s
  | some (h, q) =>
    let s := s.rqSet h q none
    let s := match q.what with
      | .case no =>
        let t := s.tap (ckey k q.core)
        let v := if q.mode = 0 then t.rpt else view
        (s.updCase h no (fun c => { c with
          rpt := 3, ncore := ncore, tm := c.tm || t.alarms.any (fun a => s.repeatCmd a.cmd), c2 := match v with | some x => .val x | none => .absent })).settleCase h no
      | _ => s
    s.rptGo k
/-- REPEAT_DONE. -/
def execRepeatDone (k : ClusterId) (ncore : BitVec 4) (view : Option CaseVal) (s : State) : Outcome State Fault Refusal :=
  .next (repeatDone s k.val ncore.toNat view)
/-- A request is withdrawn: c2 is absent; of a gated or steering command the repeat has failed (R230, R231, R243, R603). -/
def State.withdrawRq (s : State) (k h : Nat) (q : RptReq) : State :=
  let s := s.rqSet h q none
  let s := if q.stage = 1 then s.emit (.repeatOff k) else s
  let s := match q.what with
    | .case no => (s.updCase h no (fun c => { c with rpt := 3, c2 := .absent })).settleCase h no
    | .gated cmd => match s.descOf k cmd with
      | some d => s.outcomeIn k cmd d true .repeatFailed
      | none => s
    | .steering cmd => s.steerKill k (s.ctxOfCmd k cmd) (s.stepOfCmd k cmd)
  s.rptGo k
/-- REPEAT_WITHDRAW (R243). -/
def repeatWithdraw (s : State) (k : Nat) : State :=
  match s.rqFind k 1 with
  | none => s
  | some (h, q) => s.withdrawRq k h q
/-- REPEAT_WITHDRAW. -/
def execRepeatWithdraw (k : ClusterId) (s : State) : Outcome State Fault Refusal := .next (repeatWithdraw s k.val)
/-- A Taster recomputes a case from its held inputs, an exact sum in its long accumulator; `upset` is what it produced where it erred (R245). -/
def State.recompute (s : State) (t : Nat) (c : Case) (upset : Option CaseVal) : State × Option CaseVal :=
  let v := upset.orElse (fun _ => heldRef (match c.kind with | .mayvary => true | _ => false) c.held)
  (match v with
    | some (.exact x) => s.updRplOf t (fun y => { y with lacc := laccLoad x })
    | _ => s, v)
/-- REFERENCE_T1_DONE (R245): not before the inputs are held. -/
def referenceT1Done (s : State) (h no : Nat) (upset : Option CaseVal) : State :=
  match s.caseOf h no with
  | none => s
  | some c =>
    if !Got.waits c.t1 || c.held == .none then s
    else
      let r := s.recompute h c upset
      (r.1.updCase h no (fun c => { c with t1 := match r.2 with | some v => .val v | none => .absent })).settleCase h no
/-- REFERENCE_T1_DONE. -/
def execReferenceT1Done (k : ClusterId) (case : Nat) (upset : Option CaseVal) (s : State) : Outcome State Fault Refusal :=
  .next (if s.stageHeld k.val 5 then s else referenceT1Done s k.val case upset)
/-- A case that its own Taster disagrees on waits for the adopter (R250, R264). -/
def waitsAdopter (c : Case) (h : Nat) : Bool := c.second && h == c.cluster
/-- NEIGHBOUR_REQUEST (R246, R247, R273). -/
def neighbourRequest (s : State) (t h no : Nat) (upset : Option CaseVal) : State :=
  match s.caseOf h no with
  | none => s
  | some c =>
    if c.asked ≠ some t ∨ c.t2p.isSome ∨ waitsAdopter c h then s
    else
      let r := (s.count (uTST t) TST_ADJ_SERVED_COUNT).recompute t c upset
      r.1.updCase h no (fun c => { c with t2p := r.2 })
/-- NEIGHBOUR_REQUEST. -/
def execNeighbourRequest (t k : ClusterId) (case : Nat) (upset : Option CaseVal) (s : State) : Outcome State Fault Refusal :=
  .next (if s.stageHeld t.val 5 then s else neighbourRequest s t.val k.val case upset)
/-- NEIGHBOUR_ANSWER (R247). -/
def neighbourAnswer (s : State) (h no : Nat) : State :=
  match s.caseOf h no with
  | none => s
  | some c => match c.t2p with
    | some v => if Got.waits c.t2 then (s.updCase h no (fun c => { c with t2 := .val v, t2p := none })).settleCase h no else s
    | none => s
/-- NEIGHBOUR_ANSWER. -/
def execNeighbourAnswer (k : ClusterId) (case : Nat) (s : State) : Outcome State Fault Refusal := .next (if s.stageHeld k.val 5 then s else neighbourAnswer s k.val case)
/-- NEIGHBOUR_TIMEOUT (R247, R270): no answer comes, in its time or at all; the next candidate is asked, once. -/
def neighbourTimeout (s : State) (h no : Nat) : State :=
  match s.caseOf h no with
  | none => s
  | some c =>
    if !Got.waits c.t2 || c.asked.isNone || waitsAdopter c h then s
    else
      let s := s.updCase h no (fun c => { c with t2p := none, tries := c.tries + 1 })
      if c.tries = 0 then (s.askNeighbour h no (c.cluster :: c.asked.toList ++ c.used)).settleCase h no
      else (s.updCase h no (fun c => { c with t2 := .absent })).settleCase h no
/-- NEIGHBOUR_TIMEOUT. -/
def execNeighbourTimeout (k : ClusterId) (case : Nat) (s : State) : Outcome State Fault Refusal := .next (if s.unitStopped (uTST k.val) then s else neighbourTimeout s k.val case)

/-- POISON_REPORT (R267-R269, R275). -/
def poisonReport (s : State) (k p c layer op : Nat) : State :=
  let x := s.ctx c
  if c = 0 ∨ x.state ≠ 1 ∨ x.killed then s.count (uTST k) TST_PSN_RETIRED_COUNT
  else
    let step := match (s.core (ckey k p)).cmd with | some cmd => s.stepOfCmd k cmd | none => 0
    let s := (s.count (uTST k) TST_PSN_KILLS_COUNT).raise 0x4050 (puCore k p) (c * 2 ^ 16) (layer * 2 ^ 16 + op) step
    (s.killCtx c 1 step k 2 6).replaysGo
/-- POISON_REPORT. -/
def execPoisonReport (k : ClusterId) (p : CoreId) (ctx : Ctx) (layer oper : BitVec 16) (s : State) : Outcome State Fault Refusal :=
  .next (poisonReport s k.val p.val ctx.toNat layer.toNat oper.toNat)

/-- RETIRED_BLOCK_DISCARD (R384, R385, R388): TS_RET_SEEN. -/
def retiredBlockDiscard (s : State) (k c bytes : Nat) : State :=
  let s := ((s.count (uTST k) TST_RET_BYTES bytes).count (uTST k) TST_RET_BLOCKS_COUNT).count (uHAL (regionOfCluster k)) HAL_RET_BYTES bytes
  let s := (s.updCtx c (fun x => { x with seenCut := s.cutNo + 1 })).bankCount k 19 bytes none
  s.raiseOnce 0 0x8052 (puTst k) (s.cnt (uTST k) TST_RET_BLOCKS_COUNT) (s.cnt (uTST k) TST_RET_BYTES) c
/-- RETIRED_BLOCK_DISCARD. -/
def execRetiredBlockDiscard (k : ClusterId) (ctx : Ctx) (bytes : BitVec 16) (s : State) : Outcome State Fault Refusal :=
  .next (retiredBlockDiscard s k.val ctx.toNat bytes.toNat)

end Sys2Proof.Machine
end

