-- ==== Sys2Proof/Machine/Ecdsa.lean ====
section
/-! DEFINITION. ECDSA over P-384 with SHA-384 (FIPS 186): the signatures of grist packages, bundles, records and endorsements (R346, R508, R525, R563). -/
namespace Sys2Proof

/-- The field of P-384. -/
def p384P : Nat := 2 ^ 384 - 2 ^ 128 - 2 ^ 96 + 2 ^ 32 - 1
/-- The order of the base point. -/
def p384N : Nat := 0xffffffffffffffffffffffffffffffffffffffffffffffffc7634d81f4372ddf581a0db248b0a77aecec196accc52973
/-- The constant b of the curve; a is -3. -/
def p384B : Nat := 0xb3312fa7e23ee7e4988e056be3f82d19181d9c6efe8141120314088f5013875ac656398d8a2ed19d2a85c8edd3ec2aef
/-- The base point. -/
def p384G : Nat × Nat :=
  (0xaa87ca22be8b05378eb1c71ef320ad746e1d3b628ba79b9859f741e082542a385502f25dbf55296c3a545e3872760ab7,
   0x3617de4a96262c6f5d9e98bf9292dc29f8f41dbd289a147ce9da3113b5f0b8c00a60b1ce1d7e819d7a431d7c90ea0e5f)
/-- A power modulo m, by the bits of the exponent; the first argument bounds them. -/
def powMod (m : Nat) : Nat → Nat → Nat → Nat
  | 0, _, _ => 1 % m
  | n + 1, x, e =>
    let r := powMod m n (x * x % m) (e / 2)
    if e % 2 = 1 then r * x % m else r
/-- The inverse modulo a prime. -/
def invMod (m x : Nat) : Nat := powMod m 384 (x % m) (m - 2)
/-- Points of the curve; none is the point at infinity. -/
abbrev P384 := Option (Nat × Nat)
/-- The sum of two points. -/
def p384Add (a b : P384) : P384 :=
  match a, b with
  | none, _ => b
  | _, none => a
  | some (x1, y1), some (x2, y2) =>
    let p := p384P
    if x1 = x2 ∧ (y1 + y2) % p = 0 then none
    else
      let l := if x1 = x2 then (3 * x1 * x1 + p - 3) * invMod p (2 * y1) % p else (y2 + p - y1) * invMod p (x2 + p - x1) % p
      let x3 := (l * l + 2 * p - x1 - x2) % p
      some (x3, (l * (x1 + p - x3) + p - y1) % p)
/-- A multiple of a point, by the bits of the factor; the first argument bounds them. -/
def p384Mul : Nat → Nat → P384 → P384
  | 0, _, _ => none
  | n + 1, k, a =>
    let r := p384Mul n (k / 2) (p384Add a a)
    if k % 2 = 1 then p384Add r a else r
/-- A signature (r, s) of a digest under a public key. -/
def ecdsaOk (key : Nat × Nat) (z r t : Nat) : Bool :=
  let n := p384N
  let p := p384P
  if r = 0 ∨ n ≤ r ∨ t = 0 ∨ n ≤ t ∨ p ≤ key.1 ∨ p ≤ key.2 ∨ key.2 * key.2 % p ≠ (key.1 * key.1 * key.1 + (p - 3) * key.1 + p384B) % p then false
  else
    let w := invMod n t
    match p384Add (p384Mul 384 (z * w % n) (some p384G)) (p384Mul 384 (r * w % n) (some key)) with
    | none => false
    | some (x, _) => x % n == r
/-- A signature of 96 bytes, r then s, over some bytes, under a key of 96 bytes, x then y, each most significant byte first; no key verifies nothing. -/
def sigOk (key : Nat) (msg sig : List Byte) : Bool :=
  key != 0 && ecdsaOk (key / 2 ^ 384, key % 2 ^ 384) (sha384 msg) (beNat (slice sig 0 48)) (beNat (slice sig 48 48))

end Sys2Proof
end

