-- ==== Sys2Proof/Machine/Grist.lean ====
section
/-! DEFINITION. Flash addresses, grist packages, their verification and their stores (R343-R349, R501). -/
namespace Sys2Proof.Machine
open Sys2Proof Host

/-- Bytes written to both devices (R502). -/
def State.flashWrite (s : State) (addr : Nat) (bs : List Byte) : State := (s.poke (flashKey 0 addr) bs).poke (flashKey 1 addr) bs
/-- Bytes copied within a device, on both. -/
def State.flashCopy (s : State) (src dst n : Nat) : State :=
  let move (d : Nat) (m : Tab Byte) : Tab Byte :=
    (Tab.range (flashKey d src) (flashKey d (src + n)) m).foldl (fun a e => Tab.insert (e.1 - flashKey d src + flashKey d dst) e.2 a)
      (Tab.drop (flashKey d dst) (flashKey d (dst + n)) m)
  { s with mem := move 1 (move 0 s.mem) }
/-- Active and staged slots of the grist partition (R501). -/
def gristActive : Nat := 0x1800000
def gristStaged : Nat := 0x3000000
/-- Bytes of a slot. -/
def gristBytes : Nat := 25165824

/-- A package's header fields (R343). -/
structure GristHead where
  format : Nat
  version : Nat
  target : Nat
  length : Nat
  slices : Nat
  keyid : Nat
  budget : Nat
  deriving DecidableEq, Repr
/-- The header of a package. -/
def gristHead (b : List Byte) : GristHead :=
  ⟨leAt b 4 2, leAt b 8 4, leAt b 12 4, leAt b 16 4, leAt b 20 1, leAt b 21 1, leAt b 22 2⟩
/-- Slice budget in µs: 0 means 500 (R343). -/
def GristHead.us (h : GristHead) : Nat := if h.budget = 0 then 500 else h.budget
/-- Every byte of a stretch is zero. -/
def zeroAt (b : List Byte) (i n : Nat) : Bool := (slice b i n).all (· == 0)
/-- The words of a stretch. -/
def wordsAt (b : List Byte) (i n : Nat) : List Nat := (List.range (n / 4)).map (fun k => leAt b (i + 4 * k) 4)
/-- An instruction stream ends with END and uses no refused opcode (R345); `w` bits a cycle, the first argument bounds the walk. -/
def streamOk (w : Nat) : Nat → List Nat → Bool
  | 0, _ => false
  | _ + 1, [] => false
  | n + 1, x :: xs =>
    let op := x / 2 ^ 28 % 16
    let cnt := x % 2 ^ 24 + 1
    if op = 0 then xs.isEmpty
    else if op = 2 then streamOk w n (xs.drop ((cnt * w + 31) / 32))
    else if op = 4 then (!xs.isEmpty) && streamOk w n (xs.drop 1)
    else if op ≤ 9 then streamOk w n xs
    else false
/-- A slice entry passes (R344, R347 reason 7). -/
def sliceOk (h : GristHead) (b : List Byte) (i : Nat) : Bool :=
  let e := 64 + 64 * i
  let lo := 64 + 64 * h.slices
  let hi := h.length - 96
  let off := leAt b e 4
  let size := leAt b (e + 4) 4
  let moff := leAt b (e + 8) 4
  let msize := leAt b (e + 12) 4
  decide (off % 4 = 0 ∧ size % 4 = 0 ∧ lo ≤ off ∧ off + size ≤ hi) && (moff == 0 || decide (lo ≤ moff ∧ moff + msize ≤ hi))
    && decide (size + msize ≤ 65536) && decide (leAt b (e + 16) 4 ≤ h.us * 600) && decide (leAt b (e + 32) 1 ≤ 2) && zeroAt b (e + 33) 31
/-- Reason for which a package is rejected, 0 when it passes (R347): the bytes, those received, the core design, the
grist keys and the active version. -/
def gristReason (b : List Byte) (received design : Nat) (keys : List Nat) (active : Nat) : Nat :=
  let h := gristHead b
  let b := b.take h.length
  if gristBytes < h.length ∨ h.length ≠ received then 1
  else if leAt b 0 4 ≠ 0x54535247 ∨ h.format ≠ 1 ∨ !(zeroAt b 6 2 && zeroAt b 48 16 && (List.range 6).all (fun i => zeroAt b (25 + 4 * i) 3)) then 2
  else if h.target ≠ design then 3
  else if 4 ≤ h.keyid ∨ keys.getD h.keyid 0 = 0 then 4
  else if !sigOk (keys.getD h.keyid 0) (b.take (h.length - 96)) (b.drop (h.length - 96)) then 5
  else if h.version ≤ active then 6
  else if h.slices = 0 ∨ 32 < h.slices ∨ !(h.budget == 0 || decide (100 ≤ h.budget ∧ h.budget ≤ 2000)) ∨ h.length < 160 + 64 * h.slices
      ∨ !(List.range h.slices).all (sliceOk h b) then 7
  else if !(List.range h.slices).all (fun i =>
      let e := 64 + 64 * i
      let ws := wordsAt b (leAt b e 4) (leAt b (e + 4) 4)
      streamOk (if leAt b (e + 32) 1 = 1 then 32 else 1) (ws.length + 1) ws) then 8
  else 0
/-- GRIST_VERIFY (R347): the package received in the staged slot is staged or rejected. -/
def gristVerify (s : State) : State :=
  if s.rd uBRW BRW_GRIST_STAT_STATE ≠ 2 then s
  else
    let n := Tab.get (fun _ => 0) s.dl 3
    let b := s.peek (flashKey 0 gristStaged) n
    let h := gristHead b
    let why := gristReason b n s.variant.design (s.variant.keys.take 4) (s.rd uBRW BRW_GRIST_ACTIVE_VERSION)
    if why = 0 then
      (((s.wr uBRW BRW_GRIST_STAT_STATE 3).wr uBRW BRW_GRIST_STAGED_VERSION h.version).raise 0x7020 s.puActive h.version h.length h.slices).workDone 3 0
    else
      (((s.wr uBRW BRW_GRIST_STAT_STATE 4).wr uBRW BRW_GRIST_STAT_REASON why).raise 0x7021 s.puActive why h.version).workDone 3 4
/-- GRIST_VERIFY. -/
def execGristVerify (s : State) : Outcome State Fault Refusal := .next (gristVerify s)

/-- BRW_GRIST_STAT.STORES follows the stores that hold the committed package. -/
def State.showStores (s : State) : State := s.wr uBRW BRW_GRIST_STAT_STORES s.grist.committed.length
/-- Digest of the package in a slot, over its LENGTH. -/
def State.gristSha (s : State) (slot : Nat) : Nat :=
  sha384 (s.peek (flashKey 0 slot) (gristHead (s.peek (flashKey 0 slot) 64)).length)
/-- Cellar that holds a region's grist store (R348). -/
def gristCellar (r : Nat) : Nat := 4 * Config.host.north r
/-- Key of the first byte of a region's grist store: the last 24 MiB below the save area, or the variant record's place (R348). -/
def State.gristStore (s : State) (r : Nat) : Nat :=
  let p := if s.variant.gristArea = (0, 0) then (15, 0x11D800000) else s.variant.gristArea
  stackKey (gristCellar r) (p.1 % 16) p.2
/-- The package in a slot, over its LENGTH. -/
def State.gristPkg (s : State) (slot : Nat) : List Byte :=
  s.peek (flashKey 0 slot) (gristHead (s.peek (flashKey 0 slot) 64)).length
/-- Cellar of a region's host image store (R522). -/
def storeCellar (r : Nat) : Nat := 4 * Config.host.north r + 1
/-- Channel and channel address of every host image store (R522). -/
def State.imagePlace (s : State) : Nat × Nat :=
  let p := if s.variant.imageArea = (0, 0) then (15, 0x11EFF0000) else s.variant.imageArea
  (p.1 % 16, p.2)
/-- The committed package travels by bulk from the active Brewhouse to a region's store: described at the commit, reported complete by the copy
(R42, R43, R348; assumption 84: its check value). -/
def State.gristTransfer (s : State) (done : Bool) (r : Nat) : State :=
  s.bulkPacket done s.puActive (puCel (gristCellar r)) (gristHead (s.peek (flashKey 0 gristStaged) 64)).length (s.gristSha gristStaged % 2 ^ 32)
/-- The commit of the staged package: no store holds it yet, and it goes to every store in use (R348). -/
def State.gristCommit (s : State) : State :=
  let s := State.showStores { s.wr uBRW BRW_GRIST_STAT_STATE 5 with grist := { s.grist with committed := [] } }
  s.each ((List.range Config.host.regions).filter (fun r => !s.regionLost r && !s.regionShut r)) (fun s r => s.gristTransfer false r)
/-- GRIST_STORE_COPY (R348, R349): the committed package has been written into a region's store and read back; a copy that
fails its check leaves the store without any package. -/
def gristStoreCopy (s : State) (r sha : Nat) : State :=
  if s.rd uBRW BRW_GRIST_STAT_STATE ≠ 5 then s
  else
    let s := s.gristTransfer true r
    let g := s.grist
    if sha = s.gristSha gristStaged then
      State.showStores { s.poke (s.gristStore r) (s.gristPkg gristStaged) with grist := { g with committed := if g.committed.contains r then g.committed else g.committed ++ [r] } }
    else State.showStores { s with grist := ⟨g.active.filter (· != r), g.committed.filter (· != r)⟩ }
/-- GRIST_STORE_COPY. -/
def execGristStoreCopy (r : RegionId) (sha : BitVec 384) (s : State) : Outcome State Fault Refusal := .next (gristStoreCopy s r.val sha.toNat)
/-- GRIST_STORE_REWRITE (R349): a failed or lost store is written again from flash, with what it should hold. -/
def gristStoreRewrite (s : State) (r : Nat) : State :=
  let g := s.grist
  let act := s.rd uBRW BRW_GRIST_ACTIVE_VERSION != 0 && !g.active.contains r
  let com := s.rd uBRW BRW_GRIST_STAT_STATE == 5 && !g.committed.contains r
  if s.regionLost r || !(act || com) then s
  else
    let s := s.poke (s.gristStore r) (s.gristPkg (if com then gristStaged else gristActive))
    let s : State := { s with grist := ⟨if act then g.active ++ [r] else g.active, if com then g.committed ++ [r] else g.committed⟩ }
    s.showStores.raise 0x7023 (puCel (gristCellar r)) r
/-- GRIST_STORE_REWRITE. -/
def execGristStoreRewrite (r : RegionId) (s : State) : Outcome State Fault Refusal := .next (gristStoreRewrite s r.val)
/-- A region's store is lost with its memory (R349). -/
def State.storeLost (s : State) (r : Nat) : State :=
  State.showStores { s with grist := ⟨s.grist.active.filter (· != r), s.grist.committed.filter (· != r)⟩ }
/-- The committed package takes effect at a core rotation, once every store that is in use holds it (R348). -/
def State.gristActivate (s : State) (rot : Nat) : State :=
  let use := (List.range Config.host.regions).filter (fun r => !s.regionLost r && !s.regionShut r && bit s.variant.regions r)
  if s.rd uBRW BRW_GRIST_STAT_STATE ≠ 5 ∨ !use.all (fun r => s.grist.committed.contains r) then s
  else
    let v := s.rd uBRW BRW_GRIST_STAGED_VERSION
    let old := s.rd uBRW BRW_GRIST_ACTIVE_VERSION
    let s : State := { s.flashCopy gristStaged gristActive gristBytes with grist := ⟨s.grist.committed, []⟩ }
    let s := ((s.wr uBRW BRW_GRIST_ACTIVE_VERSION v).wr uBRW BRW_GRIST_STAGED_VERSION 0).wr uBRW BRW_GRIST_STAT_STATE 0
    ((s.wr uBRW BRW_GRIST_ACTROT_COUNT rot).showStores).raise 0x7022 s.puActive v old rot
/-- Where the package in effect is read for a region: its store, or the active slot while the store holds the committed package that follows it (R348, R349). -/
def State.gristBase (s : State) (r : Nat) : Nat := if s.grist.committed.contains r then flashKey 0 gristActive else s.gristStore r
/-- The package in effect as a steep of a region takes it (R343, R344, R349). -/
def State.gristPlan (s : State) (r : Nat) : GristPlan :=
  let at_ := s.gristBase r
  let b := s.peek at_ (64 + 64 * 32)
  let h := gristHead b
  let part (i off : Nat) : List Byte := s.peek (at_ + leAt b (64 + 64 * i + off) 4) (leAt b (68 + 64 * i + off) 4)
  ⟨(List.range h.slices).map (fun i =>
      let w := part i 0
      ⟨leAt b (80 + 64 * i) 4, leAt b (84 + 64 * i) 4, leAt b (88 + 64 * i) 8, leAt b (96 + 64 * i) 1, wordsAt w 0 w.length,
        if leAt b (72 + 64 * i) 4 = 0 then [] else part i 8⟩),
    h.us, (List.range 6).map (fun i => leAt b (24 + 4 * i) 1)⟩

end Sys2Proof.Machine
end

