-- ==== Sys2Proof/Machine/Pair.lean ====
section
/-! DEFINITION. The Brewhouse pair: heartbeats, mirrors, reigns, loss of contact, the FAILSAFE_N hold; and the matched delays (R44, R45, R57-R72). -/
namespace Sys2Proof.Machine
open Sys2Proof Host

/-- Register fields of the BRW and HCH pages that a mirror carries: policy, postures and overrides, committed RW2K values, the Hatch configuration (R57). -/
def mirrorFields : List (Nat × Fld) :=
  [(uBRW, BRW_QPOLICY_POLICY), (uBRW, BRW_POSTURE_FLOOR), (uBRW, BRW_POSTURE_WAFER),
   (uBRW, BRW_POSTURE_OVR), (uBRW, BRW_PWRCYC_CFG_LIMIT), (uHCH, HCH_CTRL_DISABLE), (uHCH, HCH_BACKSTOP_US)]
/-- The state that a mirror carries, as it stands, under a cut epoch (R57). -/
def State.mirrorImage (s : State) (epoch : Nat) : Mirror :=
  ⟨epoch, mirrorFields.foldl (fun m f => putReg m f.1 f.2 0 (s.rd f.1 f.2)) [], s.twk, s.plan, s.cnt uBRW BRW_DIG_TICKS_COUNT,
    s.cels.map (fun e => (e.1, e.2.passStart)), s.variant.defects, s.mbx.acks⟩
/-- A mirror's flits: the epoch, the counts, each register with its key, each staged proposal's class and nonce, each Cellar's scrub, each defect, each slot's SEQ (assumption 84: their order). -/
def mirrorFlits (m : Mirror) : List (BitVec 64) :=
  ([m.epoch, m.digTicks, m.plan.start, m.plan.rot] ++ m.regs.flatMap (fun e => [e.1, e.2]) ++ m.twk.proposals.flatMap (fun p => [p.cls, p.nonce])
    ++ m.scrubs.flatMap (fun e => [e.1, e.2]) ++ m.defects ++ m.acks.flatMap (fun e => [e.1, e.2])).map (BitVec.ofNat 64)
/-- Payload flits cut into packets of 8 at most (R31). -/
def flitGroups : Nat → List (BitVec 64) → List (List (BitVec 64))
  | 0, _ => []
  | n + 1, l => if l.isEmpty then [] else l.take 8 :: flitGroups n (l.drop 8)
/-- A mirror goes to the standby as class 5 packets, where one runs (R33, R57). -/
def State.sendMirror (s : State) : State :=
  if s.bhAlive s.standby then
    let e := s.rd uBRW BRW_CUT_EPOCH_DONE
    let l := mirrorFlits (s.mirrorImage e)
    let (f, d) := (Config.host.brewField s.active, Config.host.brewField s.standby)
    let n := (s.brew s.active).reign
    let s := s.each (flitGroups l.length l) (fun s g => s.unicast 5 f 18 d 18 n (Config.imageVal 0x57 0 % 255 + 1) 0 g)
    { s with pair := { s.pair with mirrorSent := some e } }
  else s
/-- A mirror is complete: the standby holds its state and follows the active Brewhouse's reign, the Halls' logs hold only unanswered requests, and the
standby may take over; a standby that had none has no copies of earlier events (R26, R57, R59, R63; assumption 172: the copy is as of the acknowledgement). -/
def State.mirrorDone (s : State) : State :=
  let e := s.pair.mirrorSent.getD (s.rd uBRW BRW_CUT_EPOCH_DONE)
  let was := (s.brew s.standby).mirrored
  let n := (s.brew s.active).reign
  let s := s.updBrew s.standby (fun w => { w with mirrored := true, reign := max w.reign n, seen := max w.seen n })
  let s : State := { s with
    pair := { s.pair with mirrorSent := none, mirrorAsked := [], mirror := some (s.mirrorImage e) }
    halls := (s.halls.map (fun e => (e.1, { e.2 with log := e.2.log.filter (·.request) }))).filter (fun e => decide (e.2 ≠ hall0 e.1))
    transit := if was then s.transit else s.transit.map (fun e => { e with copy := false }) }
  (s.wr uBRW BRW_MIRROR_EPOCH_EPOCH e).flag uBRW BRW_ROLE_UNMIRRORED false
/-- The active Brewhouse goes on without a standby: UNMIRRORED is set and STANDBY_OK falls; 0x8041 where the standby had answered until now or
the active Brewhouse had gone on as mirrored (R68, R69, R71). -/
def State.unmirror (s : State) : State :=
  let new := !s.isSet uBRW BRW_ROLE_UNMIRRORED || s.isSet uBRW BRW_ROLE_STANDBY_OK
  let s := (s.flag uBRW BRW_ROLE_UNMIRRORED true).flag uBRW BRW_ROLE_STANDBY_OK false
  let s : State := { s with pair := { s.pair with mirrorSent := none } }
  if new then s.raise 0x8041 s.puActive else s
/-- The state that a Brewhouse which becomes active has: what its mirror carries (R57, R62); without one yet, the two agree. The Cellars keep their
own place in a scrub, and DIG_TICKS goes on from the mirror's count. -/
def State.loadMirror (s : State) : State :=
  match s.pair.mirror with
  | none => s
  | some m =>
    let s := s.each mirrorFields (fun s f => s.wr f.1 f.2 ((Tab.find (fkey f.1 f.2 0) m.regs).getD f.2.rst))
    let s := (s.zeroCnt uBRW BRW_DIG_TICKS_COUNT).count uBRW BRW_DIG_TICKS_COUNT m.digTicks
    { s with twk := { m.twk with verifying := [] }, plan := m.plan, variant := { s.variant with defects := m.defects }, mbx := { s.mbx with acks := m.acks } }
/-- A Hall asks the active Brewhouse for something: while none runs to answer, the request stands in its log (R59, R386): 16 loss of a region
to be declared, 17 a chip reset, 18 a region's descriptors and maps. -/
def State.hallAsk (s : State) (r action arg : Nat) : State :=
  if s.bhAlive s.active then s
  else s.updHall r (fun h =>
    if h.log.length < 256 ∧ !h.log.contains ⟨action, arg, true⟩ then { h with log := h.log ++ [⟨action, arg, true⟩] } else h)
/-- MIRROR_REQUEST (R59): the Hall's log is full. -/
def mirrorRequest (s : State) (r : Nat) : State :=
  if (s.hall r).log.length < 256 then s
  else State.sendMirror { s with pair := { s.pair with mirrorAsked := if s.pair.mirrorAsked.contains r then s.pair.mirrorAsked else s.pair.mirrorAsked ++ [r] } }
/-- MIRROR_REQUEST. -/
def execMirrorRequest (r : RegionId) (s : State) : Outcome State Fault Refusal := .next (mirrorRequest s r.val)

/-- Number of a heartbeat path. -/
def pathNo : HbPath → Nat
  | .column => 0
  | .relay => 1
  | .mesh => 2
/-- Relay column of a Brewhouse's heartbeat: the one west of the Brewhouses', unless its route holds a dead hop (R60). -/
def State.relayCol (s : State) (w : Bh) : Nat :=
  let g := Config.host
  let c := g.col (g.brewField w)
  let west := c - 1
  let x := g.brewField w
  let y := g.brewField (otherBh w)
  let p := g.field west (g.row x)
  let q := g.field west (g.row y)
  let keys := routeKeys g.fields x p ++ routeKeys g.fields p q ++ routeKeys g.fields q y
  if keys.any (fun k => (s.hop k).dead) then c + 1 else west
/-- A heartbeat leaves a Brewhouse on one path (R60). TYPE of the direct packet is a constant of the firmware, neither a marker nor 0x7E. -/
def State.sendHeartbeat (s : State) (w : Bh) (path : HbPath) : State :=
  let g := Config.host
  let f := g.brewField w
  let d := g.brewField (otherBh w)
  let n := (s.brew w).reign
  match path with
  | .column => s.routePacket f ⟨mkHead 2 0 d 18 f 18 0 n (Config.imageVal 0x60 0 % 125 + 1), []⟩
  | .relay => s.routePacket f ⟨mkHead 2 0 (g.field (s.relayCol w) (g.row f)) 0 f 18 0 n 0x7E, []⟩
  | .mesh => s.emit (.ask 0x60 (puBrw w) (puBrw (otherBh w)) n)
/-- HEARTBEAT_SEND (R60): the active Brewhouse sends on three paths every 50 µs; a path without an answer since the last
one counts in BRW_HB_MISS (R69); before the first there is no period to miss. -/
def heartbeatSend (s : State) (w : Bh) : State :=
  if !s.bhAlive w then s
  else
    let got := (s.brew w).got
    let miss (s : State) (i : Nat) (F : Fld) : State := if w = s.active ∧ (got.getD [true, true, true]).getD i false = false then s.count uBRW F else s
    let s := miss (miss (miss s 0 BRW_HB_MISS_STAIR1) 1 BRW_HB_MISS_STAIR2) 2 BRW_HB_MISS_MESH
    let s := s.updBrew w (fun x => { x with got := some [false, false, false] })
    s.each [HbPath.column, .relay, .mesh] (fun s p => s.sendHeartbeat w p)
/-- HEARTBEAT_SEND. -/
def execHeartbeatSend (w : Bh) (s : State) : Outcome State Fault Refusal := .next (heartbeatSend s w)
/-- HALL_POLL_TIMEOUT (R61): Halls that have not answered count against the majority; the standby stays standby. -/
def hallPollTimeout (s : State) : State := s.updBrew s.standby (fun w => { w with poll := none })
/-- The standby may poll for a takeover, or for the end of the wafer at reign 127: it runs and holds a complete mirror (R61, R63, R64). -/
def State.mayTakeOver (s : State) : Bool := s.bhAlive s.standby && (s.brew s.standby).mirrored
/-- A unit adopts a reign: it follows the highest that it has received (R62 #5, R63). -/
def State.adoptReign (s : State) (u n : Nat) : State := s.updClock u (fun c => { c with reign := max c.reign n })
/-- The units of the fields that a broadcast reaches over live hops adopt its reign, each Hall hears it, and resends its unanswered requests (R59, R62 #5, R63, R65). -/
def State.reignHeard (s : State) (w : Bh) (n : Nat) : State :=
  let t := s.liveTree (Config.host.brewField w)
  s.each ((List.range Config.host.fields).filter (fun f => t.getD f 7 != 7 && !s.regionLost (regionOfField f))) (fun s f =>
    let s := s.each ((localPorts f).filterMap (portUnit f)) (fun s u => s.adoptReign u n)
    let r := regionOfField f
    if (localPorts f).contains 1 then
      let asked := (s.hall r).log.filter (·.request)
      (s.updHall r (fun h => { h with noContact := false, lastHeard := s.now })).emits (asked.map (fun e => .ask e.action (puHal r) (puBrw w) e.arg))
    else s)
/-- A Brewhouse becomes active under a reign above any it has seen: broadcast, Halls adopt it, beats and the rest resume
(R62 #4-#6, R63, R64, R67); its own counter goes on as wall time. -/
def State.assumeReign (s : State) (w : Bh) : State :=
  let x := s.brew w
  let n := min 127 (max x.reign x.seen + 1)
  let s := s.updBrew w (fun y => { y with reign := n, seen := n, mirrored := true, poll := none, lastHb := s.now, got := none })
  let code := match w with | .a => 0 | .b => 1
  let s := (((s.wr uBRW BRW_ROLE_ACTIVE code).wr uBRW BRW_ROLE_REIGN n).flag uBRW BRW_ROLE_STANDBY_OK false).flag uBRW BRW_ROLE_TAKEOVER_BUSY false
  let s : State := { (s.wr uTMB TMB_STAT_SOURCE code).flag uTMB TMB_STAT_BEAT_ON true with pair := { s.pair with mirrorSent := none } }
  let f := Config.host.brewField w
  let s := s.routePacket f ⟨mkHead 2 0 0 0 f 18 2 n (Config.imageVal 0x62 0 % 125 + 1), []⟩
  (s.reignHeard w n).findPartition
/-- A Brewhouse becomes standby of a higher reign and discards its policy state (R63): the active state is the other one's, as its mirror has it. -/
def State.stepDown (s : State) (w : Bh) (reign : Nat) : State :=
  let s := s.updBrew w (fun x => { x with reign := reign, seen := max x.seen reign, mirrored := false, poll := none, lastHb := s.now, got := none })
  if s.active = w then
    let o := otherBh w
    let s := (s.wr uBRW BRW_ROLE_ACTIVE (match o with | .a => 0 | .b => 1)).wr uBRW BRW_ROLE_REIGN reign
    (s.wr uTMB TMB_STAT_SOURCE (match o with | .a => 0 | .b => 1)).loadMirror
  else s
/-- REIGN_STEP_DOWN (R63): a packet of a higher reign reaches a Brewhouse; it takes a mirror from the new active one. -/
def reignStepDown (s : State) (w : Bh) (reign : Nat) : State :=
  let s := s.updBrew w (fun x => { x with seen := max x.seen reign })
  if reign ≤ (s.brew w).reign then s else (s.stepDown w reign).sendMirror

/-- The reigns that Brewhouses have heard in packets since a state: one higher than a Brewhouse's own makes it the standby of that reign (R63). -/
def State.reignsHeard (s t : State) : State :=
  t.each [Bh.a, .b] (fun t w => if (s.brew w).seen < (t.brew w).seen then reignStepDown t w (t.brew w).seen else t)
/-- HEARTBEAT_RECEIVE (R60, R61, R63, R68): the heartbeat carries its sender's reign; the standby answers on the same path; at the active Brewhouse the
standby is there, and one that had gone unmirrored is sent a mirror. -/
def heartbeatReceive (s : State) (w : Bh) (path : HbPath) : State :=
  if !s.bhAlive w then s
  else
    let s := reignStepDown s w (s.brew (otherBh w)).reign
    let s := s.updBrew w (fun x => { x with lastHb := s.now, got := x.got.map (·.set (pathNo path) true), poll := none })
    if w = s.active then
      let s := s.flag uBRW BRW_ROLE_STANDBY_OK true
      if (s.isSet uBRW BRW_ROLE_UNMIRRORED || !(s.brew s.standby).mirrored) && s.pair.mirrorSent.isNone then s.sendMirror else s
    else s.sendHeartbeat w path

/-- BREWHOUSE_CONTACT_LOSS (R65): the region's gate cells close and withhold with reason 4. -/
def brewhouseContactLoss (s : State) (r : Nat) : State := (s.updHall r (fun h => { h with noContact := true })).closeGates r 4
/-- BREWHOUSE_CONTACT_LOSS. -/
def execBrewhouseContactLoss (r : RegionId) (s : State) : Outcome State Fault Refusal := .next (brewhouseContactLoss s r.val)
/-- FAILSAFE_REFRESH (R72, R515): an active Brewhouse that has handed the wafer over holds FAILSAFE_N deasserted. -/
def failsafeRefresh (s : State) : State :=
  if !s.bhAlive s.active || s.rd uBRW BRW_BOOT_STAGE < 11 || s.isSet uBRW BRW_BOOT_STOPPED then s
  else { s with pair := { s.pair with refreshed := s.now, failsafe := false } }
/-- FAILSAFE_REFRESH. -/
def execFailsafeRefresh (s : State) : Outcome State Fault Refusal := .next (failsafeRefresh s)
/-- FAILSAFE_LAPSE (R72): the hold was not refreshed. -/
def execFailsafeLapse (s : State) : Outcome State Fault Refusal := .next { s with pair := { s.pair with failsafe := true } }

/-- Sensor of a self-timed datapath's unit, by its key (R44, R474). -/
def datapathSensor : Datapath → Nat
  | .taster k => 16 * (k.val / 10) + k.val % 10
  | .cellar c => 16 * (c.val / 4) + 10 + c.val % 4
/-- MATCHED_DELAY_LENGTHEN (R44, R45): the next request after the band has risen. -/
def matchedDelayLengthen (s : State) (u : Datapath) : State :=
  let md := mdOf (s.sensorBand (datapathSensor u))
  if (s.delay (datapathUnit u)).md < md then s.updDelay (datapathUnit u) (fun _ => ⟨md, s.now⟩) else s
/-- MATCHED_DELAY_LENGTHEN. -/
def execMatchedDelayLengthen (u : Datapath) (s : State) : Outcome State Fault Refusal := .next (matchedDelayLengthen s u)
/-- MATCHED_DELAY_SHORTEN (R45): the lower band has held for 10 ms. -/
def matchedDelayShorten (s : State) (u : Datapath) : State :=
  let md := mdOf (s.sensorBand (datapathSensor u))
  if md < (s.delay (datapathUnit u)).md then s.updDelay (datapathUnit u) (fun _ => ⟨md, s.now⟩) else s
/-- MATCHED_DELAY_SHORTEN. -/
def execMatchedDelayShorten (u : Datapath) (s : State) : Outcome State Fault Refusal := .next (matchedDelayShorten s u)

end Sys2Proof.Machine
end

