-- ==== Sys2Proof/Machine/Record.lean ====
section
/-! DEFINITION. The record log, and what a replay compares with it (R467-R471). -/
namespace Sys2Proof.Machine
open Sys2Proof Host

/-- Bytes of the log that is in force: PRV_REC_CFG.MIB as the last chip reset applied it (R467). -/
def State.logBytes (s : State) : Nat := s.rd uPRV PRV_REC_CFG_MIB 1 * 2 ^ 20
/-- Bytes that an entry takes (R468). -/
def entrySize (n : Nat) : Nat := 64 + (n + 31) / 32 * 32
/-- An entry put in the log, unless recording is off for its context or the log is full (R468, R469). Context 0 stands for
the entries of weight slices, which belong to no context. -/
def State.record (s : State) (kind ctx step : Nat) (input : List Byte) : State :=
  if s.rd uPRV PRV_REC_CFG_MODE ≠ 1 ∨ (ctx ≠ 0 ∧ s.rd uPRV PRV_CTX_CFG_RECORD ctx = 0) ∨ s.isSet uPRV PRV_REC_STAT_FULL then s
  else
    let keep := if input.length ≤ 65536 then input else []
    let used := s.rd uPRV PRV_REC_USED_BYTES
    let seq := s.rd uPRV PRV_REC_POS_SEQ
    if s.logBytes < used + entrySize keep.length then
      (s.flag uPRV PRV_REC_STAT_FULL true).raise 0xD020 s.puActive (s.rd uPRV PRV_REC_CFG_MIB 1) (seq - 1)
    else
      let e : RecEnt := ⟨kind, if input.length ≤ 65536 then 0 else 1, ctx, step, s.now, seq, sha3Nat input, keep⟩
      let s : State := { s with prv := { s.prv with log := s.prv.log ++ [e] } }
      (s.wr uPRV PRV_REC_USED_BYTES (used + entrySize keep.length)).wr uPRV PRV_REC_POS_SEQ (seq + 1)
/-- A mismatch of a replayed input: 0xD021 (R471). -/
def State.replayDiffers (s : State) (code ctx step seq : Nat) : State :=
  match s.prv.replay with
  | none => s
  | some x =>
    let s : State := { s with prv := { s.prv with replay := some { x with bad := x.bad + 1 } } }
    (s.flag uPRV PRV_REC_STAT_MISMATCH true).raise code s.puActive ctx step seq
/-- An entry is compared once (R471). -/
def State.replayUsed (s : State) (seq : Nat) : State :=
  match s.prv.replay with
  | none => s
  | some x => { s with prv := { s.prv with replay := some { x with used := seq :: x.used } } }
/-- The 44 bytes of a KIND 3 or KIND 4 entry (R468). -/
def sliceInput (e : SliceEnt) (door digest : Nat) : List Byte :=
  leBytes 4 e.tensor ++ leBytes 4 e.slice ++ leBytes 2 e.gen ++ leBytes 2 door ++ leBytes 32 digest
/-- A weight slice has been verified against a manifest or reloaded from the servers: it is recorded, or compared with
its entry in a replay (R468, R471). -/
def State.recordSlice (s : State) (kind : Nat) (e : SliceEnt) (door digest : Nat) : State :=
  match s.prv.replay with
  | some _ =>
    match s.prv.log.find? (fun x => (x.kind == 3 || x.kind == 4) && leAt x.payload 0 4 == e.tensor && leAt x.payload 4 4 == e.slice) with
    | some x => if leAt x.payload 12 32 = digest then s else s.replayDiffers 0xD021 0 0 x.seq
    | none => s
  | none => s.record kind 0 0 (sliceInput e door digest)

end Sys2Proof.Machine
end

