-- ==== Sys2Proof/Machine/Cellar.lean ====
section
/-! DEFINITION. Cellars: the poison map, SUSPECT channels, the slice table and repairs (R280-R283, R286-R304). -/
namespace Sys2Proof.Machine
open Sys2Proof Host

/-- Bytes of a channel (R148). -/
def chanBytes : Nat := 0x120000000
/-- The channel is SUSPECT (R283). -/
def State.chanSuspect (s : State) (c ch : Nat) : Bool := bit (s.rd (uCEL c) CEL_STAT_SUSPECT) ch
/-- The channel is fenced: every request to it is refused (R104, R306). -/
def State.chanFenced (s : State) (c ch : Nat) : Bool := bit (s.rd (uCEL c) CEL_CH_CTRL_FENCE) ch
/-- The Cellar's scrub, digests and repairs run: it is neither FENCED nor out of use (R338, R266). -/
def State.celRuns (s : State) (c : Nat) : Bool :=
  let u := s.unit (puCel c)
  !(u.absent || u.off || u.fenced || u.perm) && !s.regionLost (regionOfStack c)
/-- Place of the save area as (channel, address): the variant record's, or the default (R308). -/
def State.saveArea (s : State) : Nat × Nat := if s.variant.saveArea = (0, 0) then (15, 0x11F000000) else s.variant.saveArea

/-- First and last granule of a range of bytes. -/
def gransOf (addr n : Nat) : Nat × Nat := (addr / 256, (addr + n - 1) / 256)
/-- The granules of a range of bytes. -/
def granList (addr n : Nat) : List Nat :=
  let g := gransOf addr n
  (List.range (g.2 + 1 - g.1)).map (g.1 + ·)
/-- A granule is entered. -/
def State.granIn (s : State) (c ch g : Nat) : Bool := (s.cel c).psn.any (fun e => e.2.ch == ch && e.2.gran == g)
/-- A granule lies in a range entry. -/
def State.granRange (s : State) (c ch g : Nat) : Bool :=
  (s.cel c).rng.any (fun e => e.2.ch == ch && decide (e.2.start ≤ g ∧ g < e.2.start + e.2.len))
/-- Counts that follow the tables of a Cellar (R311, R312). -/
def State.showCel (s : State) (c : Nat) : State :=
  let x := s.cel c
  let u := uCEL c
  let s := (s.wr u CEL_PSN_STAT_ENTRIES x.psn.length).wr u CEL_PSN_RANGES_USED x.rng.length
  let s := (s.wr u CEL_REP_STAT_QUEUED x.queue.length).wr u CEL_REP_STAT_RUNNING x.running.length
  (s.wr u CEL_SLICE_COUNT_VALID (x.slices.filter (fun e => e.2.state == 3)).length).wr u CEL_SLICE_COUNT_USED x.slices.length
/-- An entry of the slice table; an index that is not listed is EMPTY. -/
def State.slice (s : State) (c i : Nat) : Option SliceEnt := Tab.find i (s.cel c).slices
/-- An entry of the slice table changed. -/
def State.updSlice (s : State) (c i : Nat) (f : SliceEnt → SliceEnt) : State :=
  s.updCel c (fun x => { x with slices := x.slices.map (fun e => if e.1 = i then (e.1, f e.2) else e) })
/-- Slices in VALID or DOUBT that a granule lies in. -/
def State.slicesAt (s : State) (c ch g : Nat) : List Nat :=
  ((s.cel c).slices.filter (fun e => (e.2.state == 3 || e.2.state == 6) && e.2.ch == ch
    && decide ((gransOf e.2.addr e.2.length).1 ≤ g ∧ g ≤ (gransOf e.2.addr e.2.length).2))).map (·.1)
/-- Marks on the entered granules of a slice. -/
def State.markGrans (s : State) (c i : Nat) (f : PsnEnt → PsnEnt) : State :=
  match s.slice c i with
  | none => s
  | some e => s.updCel c (fun x => { x with psn := x.psn.map (fun p =>
      if p.2.ch = e.ch ∧ (gransOf e.addr e.length).1 ≤ p.2.gran ∧ p.2.gran ≤ (gransOf e.addr e.length).2 then (p.1, f p.2) else p) })
/-- A repair of a slice that a granule lies in is queued or running: REPAIR of its entry (R280). -/
def State.granRepair (s : State) (c ch g : Nat) : Bool :=
  let x := s.cel c
  (x.queue ++ x.running).any (fun r => match Tab.find r.slice x.slices with
    | some e => e.ch == ch && decide ((gransOf e.addr e.length).1 ≤ g ∧ g ≤ (gransOf e.addr e.length).2)
    | none => false)
/-- NOSRC of an entry: no repair covers its granule, and it lies in no slice in VALID or DOUBT or nothing serves as reference (R280, R286, R301). -/
def State.granNosrc (s : State) (c : Nat) (p : PsnEnt) : Bool :=
  !s.granRepair c p.ch p.gran && (p.nosrc || (s.slicesAt c p.ch p.gran).isEmpty)

/-- The history entry of a Cellar or channel (R255, R283, R305): verdict 0x12. -/
def State.celEntry (s : State) (c source : Nat) : HistEntry :=
  ⟨0x12, source, true, false, false, false, 0, postureCode (s.posture (regionOfStack c)), s.optime, s.attic.pcyc, 0⟩
/-- A channel becomes SUSPECT (R283): its granule entries are freed; 0x5004 with the cause; a history entry but for a failed steep. -/
def State.suspectChan (s : State) (c ch cause : Nat) : State :=
  if s.chanSuspect c ch then s
  else
    let n := ((s.cel c).psn.filter (fun e => e.2.ch == ch)).length
    let s := s.updCel c (fun x => { x with psn := x.psn.filter (fun e => e.2.ch != ch), queue := x.queue.filter (fun r =>
      match Tab.find r.slice x.slices with | some e => e.ch != ch | none => false) })
    let u := uCEL c
    let s := s.wr u CEL_STAT_SUSPECT (orBit (s.rd u CEL_STAT_SUSPECT) ch)
    let pass := s.rd u CEL_STP_STAT_PASS
    let s := s.wr u CEL_STP_STAT_PASS (if bit pass ch then pass - 2 ^ ch else pass)
    let s := if cause = 1 then s.flag u CEL_PSN_STAT_OVF true else s
    let s := if cause = 5 then s.raise 0x5004 (puChan c ch) cause n
      else s.raiseHist (s.celEntry c (if cause = 4 then 10 else 7)) 0x5004 (puChan c ch) cause n
    s.showCel c
/-- A slice's range entry, put in or its reason changed; with all 16 in use its channel becomes SUSPECT (R280, R283, R290). -/
def State.rangeIn (s : State) (c i reason : Nat) : State :=
  match s.slice c i with
  | none => s
  | some e =>
    let x := s.cel c
    if x.rng.any (fun r => r.2.slice == i) then
      s.updCel c (fun x => { x with rng := x.rng.map (fun r => if r.2.slice = i then (r.1, { r.2 with reason := reason }) else r) })
    else match (List.range 16).find? (fun k => (Tab.find k x.rng).isNone) with
      | none => s.suspectChan c e.ch 3
      | some k =>
        let g := gransOf e.addr e.length
        (s.updCel c (fun x => { x with rng := Tab.insert k ⟨e.ch, g.1, g.2 + 1 - g.1, reason, i⟩ x.rng })).showCel c
/-- A slice's range entry leaves the map (R282). -/
def State.rangeOut (s : State) (c i : Nat) : State :=
  (s.updCel c (fun x => { x with rng := x.rng.filter (fun r => r.2.slice != i) })).showCel c
/-- A slice's STATE, with its range entry (R290). -/
def State.sliceState (s : State) (c i st : Nat) : State :=
  let s := (s.updSlice c i (fun e => { e with state := st })).updCel c (fun x =>
    if st = 3 ∨ x.rot.outside.contains i then x else { x with rot := { x.rot with outside := i :: x.rot.outside } })
  (match st with
    | 4 => s.rangeIn c i 3
    | 5 => s.rangeIn c i 1
    | 6 => s.rangeIn c i 2
    | _ => s.rangeOut c i).showCel c

/-- Reference of a repair (R301): EXPECTED; else for a RELOAD the majority digest, which PEER holds; else LOCAL, or PEER. -/
def repairRef (e : SliceEnt) (kind : Nat) : Option Nat :=
  if e.ref then some e.expected
  else if kind = 2 then (if e.peerOk then some e.peerDig else none)
  else if e.localOk then some e.localDig
  else if e.peerOk then some e.peerDig
  else none
/-- A repair of a slice is queued or runs. -/
def State.inRepair (s : State) (c i : Nat) : Bool := ((s.cel c).queue ++ (s.cel c).running).any (fun r => r.slice == i)
/-- A repair arises (R301, R302, R304): it is queued; without a reference its granules are marked NOSRC; a slice already queued, or repaired with the granule
still to come, needs no second one, but a RELOAD takes the place of a granule repair that waits; a full queue drops and counts it. -/
def State.needRepair (s : State) (c i kind g : Nat) : State :=
  match s.slice c i with
  | none => s
  | some e =>
    let written (r : Repair) := r.slice == i && r.wrote.any (fun w =>
      decide ((gransOf (e.addr + w.1) w.2).1 ≤ g ∧ g ≤ (gransOf (e.addr + w.1) w.2).2))
    let s := if kind = 1 then s.updCel c (fun x => { x with running := x.running.map (fun r => if written r then { r with late := g :: r.late } else r) }) else s
    let x := s.cel c
    let covered := if kind = 1 then x.queue.any (fun r => r.slice == i) || x.running.any (fun r => r.slice == i && !written r)
      else (x.queue ++ x.running).any (fun r => r.slice == i && r.kind == 2)
    if s.chanSuspect c e.ch || covered then s
    else match repairRef e kind with
      | none => s.markGrans c i (fun p => { p with nosrc := true })
      | some d =>
        if x.queue.any (fun r => r.slice == i) then s.updCel c (fun x => { x with queue := x.queue.map (fun r =>
          if r.slice = i then { r with kind := kind, reference := d } else r) })
        else if 64 ≤ x.queue.length then s.count (uCEL c) CEL_REP_FAIL_COUNT
        else
          let s := s.updCel c (fun x => { x with queue := x.queue ++ [⟨i, kind, d, s.now, 0, [], false, 0, [], [], [], false⟩] })
          (s.markGrans c i (fun p => { p with nosrc := false })).showCel c
/-- Slices in RELOAD whose running repair has written the granule's block (R304). -/
def State.reloadsAt (s : State) (c ch g : Nat) : List Nat :=
  ((s.cel c).slices.filter (fun e => e.2.state == 5 && e.2.ch == ch && (s.cel c).running.any (fun r => r.slice == e.1 && r.wrote.any (fun w =>
    decide ((gransOf (e.2.addr + w.1) w.2).1 ≤ g ∧ g ≤ (gransOf (e.2.addr + w.1) w.2).2))))).map (·.1)
/-- A need that a full queue has dropped arises again at the slice's next scrub or digest (R302): a RELOAD, or a repair of an entered granule. -/
def State.needAgain (s : State) (c i g : Nat) : State :=
  match s.slice c i with
  | none => s
  | some e =>
    if s.inRepair c i then s
    else if e.state = 5 then s.needRepair c i 2 0
    else if (e.state = 3 ∨ e.state = 6) ∧ s.granIn c e.ch g = true then s.needRepair c i 1 g
    else s
/-- A granule enters the map (R280, R283, R286): at the lowest free position; a full map makes the channel SUSPECT; a slice
in VALID or DOUBT that holds it needs a repair. -/
def State.psnEnter (s : State) (c ch g origin : Nat) : State :=
  let x := s.cel c
  if s.chanSuspect c ch || s.granIn c ch g then s
  else match (List.range 65536).find? (fun k => (Tab.find k x.psn).isNone) with
    | none => s.suspectChan c ch 1
    | some k =>
      let on := s.slicesAt c ch g ++ s.reloadsAt c ch g
      let s := s.updCel c (fun x => { x with psn := Tab.insert k ⟨ch, g, origin, false, s.optime % 2 ^ 28⟩ x.psn })
      (s.each on (fun s i => s.needRepair c i 1 g)).showCel c
/-- Granules leave the map. -/
def State.psnLeave (s : State) (c : Nat) (f : PsnEnt → Bool) : State :=
  (s.updCel c (fun x => { x with psn := x.psn.filter (fun e => !f e.2) })).showCel c
/-- A granule that a repair cleared fails again within 24 hours of operating time: a history entry against its channel
(R305). -/
def State.againFails (s : State) (c ch : Nat) (gs : List Nat) : Bool :=
  (s.cel c).fixed.any (fun x => x.1 == ch && gs.contains x.2.1 && decide (s.optime ≤ x.2.2 + 98304))
/-- An event of a memory channel, raised once per epoch, with the history entry of R305 where it is due; a later event of
the epoch leaves the entry to itself. -/
def State.chanEvent (s : State) (c ch : Nat) (again : Bool) (code p5 p6 p7 : Nat) : State :=
  let p := puChan c ch
  if s.marks.contains (p, code, 0) then
    let s := s.quiet code p
    if again then s.histEntry p (s.celEntry c 7) else s
  else
    let s : State := { s with marks := (p, code, 0) :: s.marks }
    if again then s.raiseHist (s.celEntry c 7) code p p5 p6 p7 else s.raise code p p5 p6 p7

/-- An exchange record (R298), as its fields. -/
structure Xrec where
  rtype : Nat
  rstat : Nat
  gen : Nat
  src : Nat
  dst : Nat
  tensor : Nat
  slice : Nat
  lch : Nat
  length : Nat
  digest : Nat
/-- The fields of an exchange record's payload. -/
def Xrec.ofBytes (b : List Byte) : Xrec :=
  ⟨leAt b 0 1, leAt b 1 1, leAt b 2 2, leAt b 4 4, leAt b 8 4, leAt b 12 4, leAt b 16 4, leAt b 20 2 % 8192, leAt b 24 4, leAt b 32 32⟩
/-- The payload of an exchange record. -/
def Xrec.bytes (r : Xrec) : List Byte :=
  leBytes 1 r.rtype ++ leBytes 1 r.rstat ++ leBytes 2 r.gen ++ leBytes 4 r.src ++ leBytes 4 r.dst ++ leBytes 4 r.tensor ++ leBytes 4 r.slice
    ++ leBytes 2 r.lch ++ leBytes 2 0 ++ leBytes 4 r.length ++ leBytes 4 0 ++ leBytes 32 r.digest
/-- Header of an exchange record (R298). -/
def xrecHeader : Header := ⟨0x3F, 0, 0, 0, 0, 0, 0, 0, 4, 0⟩
/-- A Cellar's record reaches a Door by bulk, and the Door sends it on stream 4,094 (R42, R43, R296, R298). -/
def State.sendRec (s : State) (c door : Nat) (r : Xrec) : State :=
  if (s.door door).shut then s
  else (s.bulk (puCel c) (puDor door) (xrecHeader.bytes ++ r.bytes)).doorInsert door 4094 xrecHeader r.bytes
/-- The wafer's own identifier (R295). -/
def State.waferId (s : State) : Nat := s.rd uBRW BRW_DIG_WAFER_ID
/-- A record about a slice. -/
def State.recOf (s : State) (e : SliceEnt) (rtype dst digest : Nat) : Xrec :=
  ⟨rtype, 0, e.gen, s.waferId, dst, e.tensor, e.slice, e.lch, e.length, digest⟩
/-- A record is ignored at a Cellar: counted, and 0x5060 (R298, R314). -/
def State.ignoreRec (s : State) (c reason src : Nat) : State :=
  let s := (s.count (uCEL c) CEL_DIG_IGN_COUNT).updCel c (fun x => { x with ignored := x.ignored + 1 })
  if s.marks.contains (puCel c, 0x5060, 0) then s.quiet 0x5060 (puCel c)
  else (s.raiseOnce 0 0x5060 (puCel c) (s.cel c).ignored reason src).updCel c (fun x => { x with ignored := 0 })
/-- Door and destination wafer of a source: a listed peer's index, or 0xFF for the servers; in Server mode all goes through the server Door, and without one nowhere (R295, R296). -/
def sourceDoor (t : Rotation) (src : Nat) : Option (Nat × Nat) :=
  if src = 0xFF then t.srvDoor.map (fun d => (d, 0))
  else (t.peers.find? (fun p => p.1 == src)).bind (fun p =>
    if t.server then t.srvDoor.map (fun d => (d, p.2.1)) else some (p.2.2, p.2.1))
/-- The sources of a repair, in order (R301). -/
def repairSources (t : Rotation) (e : SliceEnt) (ref : Nat) : List Nat :=
  let srv := if t.srvDoor.isSome then [0xFF] else []
  if t.server then srv
  else (t.peers.filter (fun p => e.peerOk && e.peer == p.1 && e.peerDig == ref)).map (·.1) ++ srv
/-- A running repair changed. -/
def State.updRepair (s : State) (c i : Nat) (f : Repair → Repair) : State :=
  s.updCel c (fun x => { x with running := x.running.map (fun r => if r.slice = i then f r else r) })
/-- The running repair of a slice. -/
def State.repairOf (s : State) (c i : Nat) : Option Repair := (s.cel c).running.find? (fun r => r.slice == i)
/-- A repair ends without a good copy: the slice is BAD (R303, R304). -/
def State.repairBad (s : State) (c i : Nat) : State :=
  let s := s.count (uCEL c) CEL_REP_FAIL_COUNT
  (s.updCel c (fun x => { x with running := x.running.filter (fun r => r.slice != i) })).sliceState c i 4
/-- The next source of a repair is asked, or the repair has failed with the code of its last failure (R302, R303). -/
def State.askSource (s : State) (c i code : Nat) : State :=
  match s.repairOf c i, s.slice c i with
  | some r, some e =>
    (match r.left with
    | [] => (s.repairBad c i).raise 0x5012 (puCel c) e.tensor e.slice code
    | src :: rest =>
      let s := s.updRepair c i (fun r => { r with src := src, left := rest, announced := false, got := 0, form := [], wrote := [], late := [], readback := false })
      let s := match sourceDoor (s.cel c).rot src with
        | some (d, w) => s.sendRec c d (s.recOf e 4 w 0)
        | none => s
      s.raiseOnce 0 0x5010 (puCel c) e.tensor e.slice (src * 2 ^ 24 + r.kind))
  | _, _ => s
/-- REPAIR_START (R301, R302, R304): the first repair that waits for none of its own slice; a granule repair takes its reference anew, and one of a slice that has
become BAD meanwhile is no more. -/
def repairStart (s : State) (c : Nat) : State :=
  let x := s.cel c
  match x.queue.find? (fun r => !x.running.any (fun q => q.slice == r.slice)) with
  | none => s
  | some r =>
    if 4 ≤ x.running.length || !s.celRuns c then s
    else
      let rest := x.queue.erase r
      match s.slice c r.slice with
      | none => (s.updCel c (fun x => { x with queue := rest })).showCel c
      | some e =>
        if e.state ≠ 3 ∧ e.state ≠ 5 ∧ e.state ≠ 6 then (s.updCel c (fun x => { x with queue := rest })).showCel c
        else
          let d := if r.kind = 1 then (repairRef e 1).getD r.reference else r.reference
          let s := s.updCel c (fun x => { x with
            queue := rest, running := x.running ++ [{ r with reference := d, start := s.now, left := repairSources x.rot e d }] })
          (s.askSource c r.slice 0).showCel c
/-- REPAIR_START. -/
def execRepairStart (c : StackId) (s : State) : Outcome State Fault Refusal := .next (if s.unitStopped (uCEL c.val) then s else repairStart s c.val)

/-- One block of a slice as it lies in memory: header, payload, trailer and eight zero bytes (R128, R287). -/
def blockSize (h : Header) : Nat := 16 * h.len + 32
/-- What a block adds to the digest form (R288). -/
def digestForm (h : Header) (payload : List Byte) : List Byte :=
  leBytes 1 h.fmt ++ leBytes 1 (h.flags - h.flags % 2) ++ leBytes 2 h.layer ++ leBytes 2 h.op ++ leBytes 2 h.len ++ payload
/-- What a walk over a slice's bytes finds (R289): the digest form, the offsets and sizes of the blocks whose trailers fail, and the offset of a format fault. -/
structure Walk where
  form : List Byte
  bad : List (Nat × Nat)
  fault : Option Nat
  deriving DecidableEq, Repr
/-- The blocks of a slice walked in address order, past those whose trailers fail; the first argument bounds their number (R288, R289). -/
def walkSlice (p : Profile) : Nat → Nat → List Byte → Walk
  | 0, off, _ => ⟨[], [], some off⟩
  | n + 1, off, bs =>
    if bs.isEmpty then ⟨[], [], none⟩
    else
      let h := Header.ofBytes bs
      if bs.length < blockSize h || !fmtKnown h.fmt then ⟨[], [], some off⟩
      else
        let b := bs.take (24 + 16 * h.len)
        let w := walkSlice p n (off + blockSize h) (bs.drop (blockSize h))
        ⟨digestForm h (slice b 16 (16 * h.len)) ++ w.form, if trailerOk p b then w.bad else (off, 24 + 16 * h.len) :: w.bad, w.fault⟩

end Sys2Proof.Machine
end

