-- ==== Sys2Proof/Machine/CellarIo.lean ====
section
/-! DEFINITION. Blocks through a Cellar, rescans, patrol scrub, refresh, the save area and the poison map's window (R277-R286, R305-R311, R147). -/
namespace Sys2Proof.Machine
open Sys2Proof Host

/-- Words 5 to 7 of an event about a block at an address (R156 0x6002, R314 0x5001). -/
def blockWords (addr : Nat) (h : Header) : Nat × Nat × Nat := (addr, h.ctx * 2 ^ 16 + addr / 2 ^ 32 % 16, h.layer * 2 ^ 16 + h.op)
/-- A read block with POISON set in its header (R104, R281). -/
def poisonBytes (bs : List Byte) : List Byte :=
  match bs with
  | a :: f :: rest => a :: (if f.toNat % 2 = 0 then f + 1#8 else f) :: rest
  | _ => bs
/-- What a Cellar forwards of a read block, whether it failed its check, and the bytes it absorbs; counted and reported: a failed header test
is a check failure, since a read cannot be shortened (R137, R140-R142, R277, R601). -/
def State.cellarJudge (s : State) (c ch addr : Nat) (bs : List Byte) (again : Bool) : State × List Byte × Bool × Nat :=
  let u := uCEL c
  let h := Header.ofBytes bs
  let w := blockWords addr h
  let failed := s.count u CKU_CNT_FAIL_COUNT 1 ch
  match rxClass s.tbProfile none bs with
  | .short => (failed.chanEvent c ch again 0x6005 addr bs.length 0xFFFFFFFF, bs, true, 0)
  | .framing =>
    let body := 16 + 16 * h.len
    let late := decide (body + 8 < bs.length)
    (failed.chanEvent c ch again 0x6005 addr bs.length (body + 8), if late then bs.take body else bs, true, if late then bs.length - body else 0)
  | .reject _ | .mismatch => (failed.chanEvent c ch again 0x6002 w.1 w.2.1 w.2.2, bs, true, 0)
  | .pass =>
    let s := s.count u CKU_CNT_BLOCKS_COUNT 1 ch
    (if h.poison then s.count u CKU_CNT_POISON_IN_COUNT 1 ch else s, bs, false, 0)
/-- The block's bytes do not fit its LEN: a framing failure, which enters nothing in the map and asks for no rescan (R140, R141, R279). -/
def framed (p : Profile) (bs : List Byte) : Bool :=
  match rxClass p none bs with
  | .short | .framing => true
  | _ => false
/-- A granule as a read corrected it: the bytes of a read block that lie in it, the rest as they lie in memory. -/
def State.corrected (s : State) (c ch addr : Nat) (bs : List Byte) (g : Nat) : List Byte :=
  ((s.peek (stackKey c ch (256 * g)) 256).zip (List.range 256)).map (fun x =>
    let a := 256 * g + x.2
    if addr ≤ a ∧ a < addr + bs.length then bs.getD (a - addr) x.1 else x.1)
/-- Granules queued for rewrite with their corrected bytes, once each (R278, R285). -/
def State.queueRewrite (s : State) (c ch addr : Nat) (bs : List Byte) (gs : List Nat) : State :=
  s.updCel c (fun x => { x with
    rewrite := x.rewrite ++ (gs.filter (fun g => !x.rewrite.any (fun e => e.1 == ch && e.2.1 == g))).map (fun g => (ch, g, s.corrected c ch addr bs g)) })
/-- A read block that raised no CL_ECC_UE: one that fails its check enters its granules and is rescanned (R141, R279). -/
def State.readChecked (s : State) (c ch addr : Nat) (bs : List Byte) (gs : List Nat) (entered : Bool) : State × List Byte × Bool × Nat :=
  let j := s.cellarJudge c ch addr bs (s.againFails c ch gs)
  if j.2.2.1 && !framed s.tbProfile bs then
    let s := j.1.each gs (fun s g => s.psnEnter c ch g 2)
    (if entered then s else s.updCel c (fun x => { x with rescans := x.rescans ++ [⟨ch, addr, bs.length, 0⟩] }), j.2)
  else j
/-- A read block that raised CL_ECC_UE is one that failed its check; a failed header test, or framing failure, that it also shows is told as that (R140, R278, R601). DESIGN CHOICE (assumption 55): of such a read
whose trailer mismatches as well only 0x5001 is told, with no 0x6002: the spec gives no rule for the two together, and its data no longer are what was written. -/
def State.readDamaged (s : State) (c ch addr : Nat) (bs : List Byte) (gs ues : List Nat) : State × List Byte × Bool × Nat :=
  let u := uCEL c
  let w := blockWords (256 * ues.headD 0) (Header.ofBytes bs)
  let s := s.count u CEL_ECC_UE_COUNT ues.length ch
  let again := s.againFails c ch ues
  let s := s.each ues (fun s g => s.psnEnter c ch g 0)
  let j := match rxClass s.tbProfile none bs with
    | .mismatch | .pass => (s.count u CKU_CNT_FAIL_COUNT 1 ch, bs, true, 0)
    | .reject _ => ((s.cellarJudge c ch addr bs false).1.each gs (fun s g => s.psnEnter c ch g 2), bs, true, 0)
    | _ => s.cellarJudge c ch addr bs false
  (j.1.chanEvent c ch again 0x5001 w.1 w.2.1 w.2.2, j.2)
/-- CL_MNT_LOOP is high: the Cellar's steep runs the channel's slice, whose test blocks go through its in-line unit (R333, R334). -/
def State.mntLoop (s : State) (c ch : Nat) : Bool :=
  match s.eng (uCEL c) with
  | some x => x.phase == 4 && x.slice == ch + 1
  | none => false
/-- A test block looped through the in-line unit: CL_RDO_* is suppressed, and the bytes that would have left count as looped; its
result goes into the steep's signature (R333, R334, R421; assumption 174). -/
def State.loopBlock (s : State) (c ch : Nat) (bs : List Byte) : State :=
  let body := 16 + 16 * (Header.ofBytes bs).len
  let k := if decide (16 ≤ bs.length) && rxClass s.tbProfile none bs == .framing && decide (body + 8 < bs.length) then bs.length - body else 0
  let u := uCEL c
  let s := ((s.count u CEL_BYTES_MAINT bs.length ch).count u CEL_BYTES_RDI_BYTES bs.length ch).count u CEL_BYTES_LOOP_BYTES (bs.length - k) ch
  s.updCel c (fun x => { x with absorbed := x.absorbed.set ch (x.absorbed.getD ch 0 + k) })
/-- CELLAR_READ_BLOCK (R277-R281, R305, R310, R334, R421, R600): a block that a host read, or a looped maintenance read, presents on CL_RDI_*. -/
def cellarReadBlock (s : State) (c ch addr merge : Nat) (bs : List Byte) (ce ue : List Nat) (test : Bool) : State :=
  if test then (if s.mntLoop c ch then s.loopBlock c ch bs else s)
  else if s.chanFenced c ch then s
  else
    let u := uCEL c
    let gs := granList addr bs.length
    let entered := gs.any (fun g => s.granIn c ch g)
    let poisoned := s.chanSuspect c ch || entered || gs.any (fun g => s.granRange c ch g)
    let ces := (ce.map (· / 256)).eraseDups
    let ues := (ue.map (· / 256)).eraseDups
    let s := (s.count u CEL_BYTES_RDI_BYTES bs.length ch).count u CEL_ECC_CE_COUNT ces.length ch
    let r := if ues.isEmpty then (s.queueRewrite c ch addr bs ces).readChecked c ch addr bs gs entered else s.readDamaged c ch addr bs gs ues
    let out := if poisoned then poisonBytes r.2.1 else r.2.1
    let s := (r.1.count u CEL_BYTES_DELIV out.length ch).count u CEL_BYTES_SAVED ((merge - 1) * out.length) ch
    let s := (s.count u CKU_CNT_ABSORB_BYTES r.2.2.2 ch).updCel c (fun x => { x with
      absorbed := x.absorbed.set ch (x.absorbed.getD ch 0 + r.2.2.2) })
    s.emit (.cellarRd c ch out r.2.2.1)
/-- CELLAR_READ_BLOCK. -/
def execCellarReadBlock (c : StackId) (ch : ChanId) (addr : BitVec 36) (merge : BitVec 4) (bytes : List Byte)
    (ce ue : List (BitVec 36)) (test : Bool) (s : State) : Outcome State Fault Refusal :=
  .next (cellarReadBlock s c.val ch.val addr.toNat merge.toNat bytes (ce.map (·.toNat)) (ue.map (·.toNat)) test)

/-- The enabled window of lowest number that holds an address (R147); one that runs past its channel's end matches only addresses within it (R155). -/
def State.windowAt (s : State) (c ch addr : Nat) : Option Nat :=
  (((Tab.range (4096 * c) (4096 * (c + 1)) s.wins).find? (fun e => e.2.en && e.2.chan == ch
    && decide (e.2.base ≤ addr ∧ addr < e.2.base + 256 * e.2.gran ∧ addr < chanBytes))).map (fun e => e.1 % 4096))
/-- The alive verdict of a written block in its window, counted and reported; whether it is a repeat or a loss. A block with a framing failure has
no verdict: its stream is unsynchronised, and it is only counted (R136, R145, R146). -/
def State.windowJudge (s : State) (c ch addr : Nat) (bs : List Byte) : State × Bool :=
  match s.windowAt c ch addr with
  | none => (s, false)
  | some w =>
    let u := uCEL c
    let k := 4096 * c + w
    let h := Header.ofBytes bs
    if bs.length < 16 ∨ bs.length ≠ 24 + 16 * h.len then
      ((s.updWinStream k (fun x => { x with sync := false })).count u CKU_CNT_FAIL_COUNT 1 ch, false)
    else
      let v := aliveJudge (s.winStream k) h.alive
      let s := s.updWinStream k (fun _ => v.2)
      match v.1 with
      | .good => (s, false)
      | .again => ((s.count u CKU_CNT_REPEAT_COUNT 1 ch).raiseOnce w 0x6010 (puChan c ch) w h.alive h.seq, true)
      | .loss g => (((s.count u CKU_CNT_LOSS_COUNT 1 ch).count u CKU_CNT_GAP_COUNT g ch).raiseOnce w 0x6011 (puChan c ch) w g h.seq, true)
/-- A host write into a slice under repair ends the repair (R304). -/
def State.writeRepair (s : State) (c ch addr n : Nat) : State :=
  s.each (s.cel c).running (fun s r => match s.slice c r.slice with
    | some e =>
      if e.ch = ch ∧ e.addr < addr + n ∧ addr < e.addr + e.length then
        (s.repairBad c r.slice).raise 0x5050 (puCel c) e.tensor e.slice addr
      else s
    | none => s)
/-- CELLAR_WRITE_BLOCK (R136, R145, R147, R282, R285, R304, R310): the block passes unchanged to the stack. -/
def cellarWriteBlock (s : State) (c ch addr : Nat) (bs : List Byte) : State :=
  if s.chanFenced c ch then s
  else
    let s := (s.count (uCEL c) CEL_BYTES_WRITTEN bs.length ch).poke (stackKey c ch addr) bs
    let s := s.writeRepair c ch addr bs.length
    let gs := granList addr bs.length
    let s := s.updCel c (fun x => { x with overtaken := x.overtaken ++ ((x.rewrite.filter (fun e => e.1 == ch && gs.contains e.2.1)).map (fun e => (e.1, e.2.1))) })
    let j := s.windowJudge c ch addr bs
    if j.2 then j.1.each gs (fun s g => s.psnEnter c ch g 3)
    else j.1.psnLeave c (fun p => p.ch == ch && decide (addr ≤ 256 * p.gran ∧ 256 * p.gran + 256 ≤ addr + bs.length))
/-- CELLAR_WRITE_BLOCK. -/
def execCellarWriteBlock (c : StackId) (ch : ChanId) (addr : BitVec 36) (bytes : List Byte) (s : State) : Outcome State Fault Refusal :=
  .next (cellarWriteBlock s c.val ch.val addr.toNat bytes)

/-- Words of 0x5005 (R314). -/
def State.rescanEvent (s : State) (c ch what addr : Nat) : State :=
  if what = 2 then s.raiseHistAt (puCel c) (s.celEntry c 7) 0x5005 (puChan c ch) 2 addr (addr / 2 ^ 32 % 16)
  else s.raise 0x5005 (puChan c ch) 1 addr (addr / 2 ^ 32 % 16)
/-- Errors that a maintenance read raised: corrected ones are counted, one to a granule; each uncorrectable one is counted, entered with origin 1 and
reported by what found it (R280, R314, R600). -/
def State.mntErrors (s : State) (c ch : Nat) (ce ue : List Nat) (what : Nat) : State :=
  let ces := (ce.map (· / 256)).eraseDups
  let ues := (ue.map (· / 256)).eraseDups
  let s := (s.count (uCEL c) CEL_ECC_CE_COUNT ces.length ch).count (uCEL c) CEL_ECC_UE_COUNT ues.length ch
  s.each ues (fun s g =>
    let again := s.againFails c ch [g]
    (s.psnEnter c ch g 1).chanEvent c ch again 0x5002 (256 * g) (g / 2 ^ 24 % 16) what)
/-- RESCAN_DONE (R279, R600). -/
def rescanDone (s : State) (c ch : Nat) (bs : List Byte) (ce ue : List Nat) : State :=
  match (s.cel c).rescans.find? (fun r => r.ch == ch) with
  | none => s
  | some r =>
    let rest (s : State) := s.updCel c (fun x => { x with rescans := x.rescans.erase r })
    let s := (s.count (uCEL c) CEL_BYTES_MAINT bs.length ch).mntErrors c ch ce ue 2
    if !ue.isEmpty || rxClass s.tbProfile none bs != .pass then (rest s).rescanEvent c ch 1 r.addr
    else if r.passed = 0 then
      s.updCel c (fun x => { x with rescans := x.rescans.map (fun q => if q = r then { q with passed := 1 } else q) })
    else
      let gs := granList r.addr r.len
      ((rest s).psnLeave c (fun p => p.ch == ch && gs.contains p.gran)).rescanEvent c ch 2 r.addr
/-- RESCAN_DONE. -/
def execRescanDone (c : StackId) (ch : ChanId) (bytes : List Byte) (ce ue : List (BitVec 36)) (s : State) : Outcome State Fault Refusal :=
  .next (if s.unitStopped (uCEL c.val) then s
    else rescanDone (s.item (chCel c.val)) c.val ch.val bytes (ce.map (·.toNat)) (ue.map (·.toNat)))

/-- Corrected granules that wait are written back, but for those that a host write has overtaken (R278, R285). -/
def State.writeBack (s : State) (c : Nat) : State :=
  let x := s.cel c
  let s := s.each x.rewrite (fun s e =>
    if x.overtaken.contains (e.1, e.2.1) then s.count (uCEL c) CEL_ECC_RACE_COUNT
    else (s.poke (stackKey c e.1 (256 * e.2.1)) e.2.2).count (uCEL c) CEL_BYTES_MAINT 256 e.1)
  s.updCel c (fun x => { x with rewrite := [], overtaken := [] })
/-- The scrub goes on to the next granule; a pass that ends begins the next one (R284). -/
def State.scrubOn (s : State) (c : Nat) : State :=
  let u := uCEL c
  let ch := s.rd u CEL_SCRUB_POS_CH
  let g := s.rd u CEL_SCRUB_POS_GRAN
  if ch < 15 then s.wr u CEL_SCRUB_POS_CH (ch + 1)
  else if (g + 1) * 256 < chanBytes then (s.wr u CEL_SCRUB_POS_CH 0).wr u CEL_SCRUB_POS_GRAN (g + 1)
  else
    let period := s.rd u CEL_SCRUB_CFG_PERIOD_H
    let hours := (s.now - (s.cel c).passStart) / 3600000000000
    let late := decide (2 * period * 3600000000000 < s.now - (s.cel c).passStart)
    let s := ((s.wr u CEL_SCRUB_POS_CH 0).wr u CEL_SCRUB_POS_GRAN 0).count u CEL_SCRUB_PASS_COUNT
    let s := s.updCel c (fun x => { x with passStart := s.now, passCe := List.replicate 16 0, passTold := [] })
    if late then (s.count u CEL_SCRUB_LATE_COUNT).raiseOnce 0 0x5030 (puCel c) 0 hours period else s
/-- SCRUB_GRANULE (R284-R286): the read of the granule at CEL_SCRUB_POS; what an earlier read corrected is written back first. -/
def scrubGranule (s : State) (c : Nat) (err : ReadErr) (data : List Byte) : State :=
  if !s.celRuns c then s
  else
    let u := uCEL c
    let ch := s.rd u CEL_SCRUB_POS_CH
    let g := s.rd u CEL_SCRUB_POS_GRAN
    let s := (s.writeBack c).count u CEL_BYTES_MAINT 256 ch
    let s := match err with
      | .clean => s
      | .correctable =>
        let n := (s.cel c).passCe.getD ch 0 + 1
        let s := ((s.count u CEL_ECC_CE_COUNT 1 ch).queueRewrite c ch (256 * g) (data.take 256) [g]).updCel c (fun x =>
          { x with passCe := x.passCe.set ch n })
        if s.rd u CEL_CE_CFG_LIMIT < n && !(s.cel c).passTold.contains ch then
          (s.updCel c (fun x => { x with passTold := ch :: x.passTold })).raiseOnce 0 0x5003 (puChan c ch) n (s.rd u CEL_CE_CFG_LIMIT)
            (s.cnt u CEL_SCRUB_PASS_COUNT + 1)
        else s
      | .uncorrectable =>
        let again := s.againFails c ch [g]
        let was := s.slicesAt c ch g
        let had := s.granIn c ch g
        let s := (s.count u CEL_ECC_UE_COUNT 1 ch).psnEnter c ch g 1
        let s := if had then s.each was (fun s i => s.needRepair c i 1 g) else s
        s.chanEvent c ch again 0x5002 (256 * g) (g / 2 ^ 24 % 16) 0
    let s := s.each ((s.cel c).slices.filter (fun e => e.2.ch == ch && decide ((gransOf e.2.addr e.2.length).1 ≤ g ∧ g ≤ (gransOf e.2.addr e.2.length).2)))
      (fun s e => s.needAgain c e.1 g)
    s.scrubOn c
/-- SCRUB_GRANULE. -/
def execScrubGranule (c : StackId) (err : ReadErr) (data : List Byte) (s : State) : Outcome State Fault Refusal :=
  .next (if s.unitStopped (uCEL c.val) then s else scrubGranule (s.item (chCel c.val)) c.val err data)

/-- CL_REF_MULT for a kiln band; a broken sensor counts as K4 (R307, R477). -/
def refMult (band : Nat) : Nat := if band ≤ 2 then 0 else if band = 3 then 1 else 2
/-- The band of a Cellar's own sensor (R14, R307). -/
def State.celBand (s : State) (c : Nat) : Nat :=
  s.sensorBand (16 * (c / 4) + 10 + c % 4)
/-- CL_REF_MULT driven at another setting (R307). -/
def State.setMult (s : State) (c m : Nat) : State :=
  let old := s.rd (uCEL c) CEL_STAT_REFMULT
  if m = old then s else (s.wr (uCEL c) CEL_STAT_REFMULT m).raiseOnce 0 0x5040 (puCel c) old m (s.celBand c)
/-- REFRESH_MULT_LOWER (R307). -/
def refreshMultLower (s : State) (c : Nat) : State :=
  let m := refMult (s.celBand c)
  if m < s.rd (uCEL c) CEL_STAT_REFMULT then s.setMult c m else s
/-- REFRESH_MULT_LOWER. -/
def execRefreshMultLower (c : StackId) (s : State) : Outcome State Fault Refusal := .next (refreshMultLower s c.val)

/-- What the save area holds now, as a reset leaves it (R308): repairs that run are abandoned and queued again, ahead of those that wait (R304). A second reset
before the restore leaves it as it is, for the tables that it would save are still empty. DESIGN CHOICE (assumption 200): the area's contents stand here and not in
the stack's bytes, since the spec gives its pages no layout; its two copies and their CRC-32C are the operands of SAVE_AREA_RESTORE. -/
def State.saveCel (s : State) (c : Nat) : Option SaveArea :=
  let x := s.cel c
  if x.hold then x.saved
  else some ⟨x.psn, x.rng, x.slices, s.rd (uCEL c) CEL_STAT_SUSPECT,
    x.running.map (fun r => { r with src := 0, left := [], announced := false, got := 0, form := [], wrote := [], late := [], readback := false }) ++ x.queue, s.attic.pcyc⟩
/-- A Cellar of the region has still to restore its save area: the host does not get the region (R309). -/
def State.regionHeld (s : State) (r : Nat) : Bool := (stacksOf r).any (fun c => (s.cel c).hold && !(s.unit (puCel c)).absent)
/-- A region that the handoff left to its Cellars is released to the host with the last restore (R309, R515). -/
def State.releaseRegion (s : State) (r : Nat) : State :=
  if s.fw.stage ≤ 11 || s.regionHeld r || s.regionLost r || s.regionShut r || s.stopped || s.resets.any (fun x => x.level == 4 || (x.level == 3 && x.at_ == r)) then s
  else s.each (clustersOf r) (fun s k =>
    if (s.replayOf k).isEmpty && !s.resets.any (fun x => x.level == 2 && x.at_ == k) then s.updPort k (fun p => { p with hold := false, allow := 0 }) else s)
/-- The restore itself: the newest copy that passes; none passes: every channel is SUSPECT; another power-cycle
count, or a return from LOST, leaves the tables empty (R309, R382). -/
def State.restoreCel (s : State) (c : Nat) (pass : List Bool) (firstBad : Nat) : State :=
  let x := s.cel c
  let s := s.updCel c (fun x => { x with hold := false, saved := none })
  match x.saved with
  | none => (s.flag (uCEL c) CEL_STAT_RESTORED false).showCel c
  | some a =>
    if a.pcyc ≠ s.attic.pcyc then (s.flag (uCEL c) CEL_STAT_RESTORED false).showCel c
    else if pass.contains true then
      let s := s.updCel c (fun x => { x with psn := a.psn, rng := a.rng, slices := a.slices, queue := a.repairs.take 64, running := [] })
      ((s.wr (uCEL c) CEL_STAT_SUSPECT a.suspect).flag (uCEL c) CEL_STAT_RESTORED true).showCel c
    else
      let s := (s.flag (uCEL c) CEL_STAT_RESTORED false).raise 0x5041 (puCel c) firstBad
      s.each (List.range 16) (fun s ch => s.suspectChan c ch 2)
/-- SAVE_AREA_RESTORE (R309, R382): after the last of a region's restores the host can have the region. -/
def saveAreaRestore (s : State) (c : Nat) (pass : List Bool) (firstBad : Nat) : State :=
  let t := s.restoreCel c pass firstBad
  if (s.cel c).hold then t.releaseRegion (regionOfStack c) else t
/-- SAVE_AREA_RESTORE. -/
def execSaveAreaRestore (c : StackId) (pass : List Bool) (firstBad : Nat) (s : State) : Outcome State Fault Refusal :=
  .next (saveAreaRestore s c.val pass firstBad)

/-- CHANNEL_CLEAR: a write of CEL_CH_CTRL (R283, R306, R311). -/
def channelClear (s : State) (c data : Nat) : State :=
  let u := uCEL c
  let pass := s.rd u CEL_STP_STAT_PASS
  let fence := (List.range 16).foldl (fun v ch => if bit data ch || (s.unit (puChan c ch)).perm then orBit v ch else v) 0
  let s := s.wr u CEL_CH_CTRL_FENCE fence
  s.each (List.range 16) (fun s ch =>
    if bit data (16 + ch) && s.chanSuspect c ch && bit pass ch then s.wr u CEL_STAT_SUSPECT (s.rd u CEL_STAT_SUSPECT - 2 ^ ch) else s)

/-- The 64 bits of a granule entry with its REPAIR and NOSRC (R280). -/
def psnWord (p : PsnEnt) (repair nosrc : Bool) : Nat :=
  let b (x : Bool) := if x then 1 else 0
  p.ch * 2 ^ 60 + p.gran % 2 ^ 28 * 2 ^ 32 + p.origin * 2 ^ 30 + b repair * 2 ^ 29 + b nosrc * 2 ^ 28 + p.optime % 2 ^ 28
/-- The 64 bits of a range entry (R280). -/
def rngWord (p : RngEnt) : Nat := p.ch * 2 ^ 60 + p.start % 2 ^ 28 * 2 ^ 32 + p.len % 2 ^ 19 * 2 ^ 13 + p.reason * 2 ^ 10
/-- The entry that CEL_PSN_SEL presents; a free position reads as zero. -/
def State.psnShown (s : State) (c : Nat) : Nat :=
  ((Tab.find (s.rd (uCEL c) CEL_PSN_SEL_INDEX) (s.cel c).psn).map (fun p => psnWord p (s.granRepair c p.ch p.gran) (s.granNosrc c p))).getD 0
/-- POISON_MAP_READ (R311): a read of CEL_PSN_HI advances CEL_PSN_SEL. -/
def poisonMapRead (s : State) (c : Nat) : State :=
  (s.emit (.word (BitVec.ofNat 32 (s.psnShown c / 2 ^ 32)))).wr (uCEL c) CEL_PSN_SEL_INDEX (s.rd (uCEL c) CEL_PSN_SEL_INDEX + 1)

end Sys2Proof.Machine
end

