-- ==== Sys2Proof/Machine/Steeps.lean ====
section
/-! DEFINITION. Steeps: the queue of each engine, a core's swap-out, slices, failures, and the rotation (R316-R340). -/
namespace Sys2Proof.Machine
open Sys2Proof Host

/-- Units that an engine tests (R319, R332). -/
def engineUnits (e : Nat) : List Nat :=
  if uTST 0 ≤ e then (List.range 1024).map (puCore (e - uTST 0))
  else if uCEL 0 ≤ e then [puCel (e - uCEL 0)]
  else if uDOR 0 ≤ e then [puDor (e - uDOR 0)]
  else (clustersOf (e - uHAL 0)).map puTst
/-- A core is named by a closure case (R248). -/
def State.closureCases (s : State) (k p : Nat) : List (Nat × Case) :=
  s.adj.flatMap (fun a => (a.2.cases.filter (fun c => c.closure && c.cluster == k && c.core == p)).map (fun c => (a.1, c)))
/-- A Tap is TAP_SUSPECT (R253, R319): a verdict has fenced it, and no steep has failed since. -/
def State.tapSuspect (s : State) (k i : Nat) : Bool :=
  (s.unit (puTap k i)).fenced
    && ((s.histOf (puTap k i)).entries.find? (fun e => [0x05, 0x10, 0x11].contains e.verdict)).map (·.verdict) == some 0x05
/-- Class of a unit's entry in its queue, none where it has none (R317, R319, R340, R350): 0 the core that a suspect Taster left, 1 requalification, 2 a case or a
suspect Tap, 3 FENCED, a core's Tap among them, 4 overdue, 5 due; a unit that the engine has taken has no entry. -/
def State.stpClass (s : State) (p : Nat) : Option Nat :=
  let u := s.unit p
  let x := s.stpOf p
  let k := puidMajor p
  let i := puidMinor p
  let core := puidKind p == 0
  if u.absent || u.off || u.perm || u.scan || (s.runOf p).isSome || (core && (s.coreResetting k i || s.widerReset k)) then none
  else if x.head then some 0
  else if core && (s.adjOf k).requalOn && (s.adjOf k).requal.contains i then some 1
  else if core && (s.tapSuspect k i || !(s.closureCases k i).isEmpty) then some 2
  else if u.fenced then (if core && (s.logicalOf k i).isSome then none else some 3)
  else if x.first || (core && (s.unit (puTap k i)).fenced) then some 3
  else if x.overdue then some 4
  else if x.due.isSome then some 5
  else none
/-- The queue of an engine, first entry first, as (class, unit). -/
def State.stpQueue (s : State) (e : Nat) : List (Nat × Nat) :=
  let q := (engineUnits e).filterMap (fun p => (s.stpClass p).map (fun c => (c, p)))
  let key (x : Nat × Nat) : Nat × Nat × Nat := (x.1, (s.stpOf x.2).deferred, ((s.stpOf x.2).due).getD 0)
  sortBy (fun a b =>
    let x := key a
    let y := key b
    decide (x.1 < y.1 ∨ (x.1 = y.1 ∧ (x.2.1 < y.2.1 ∨ (x.2.1 = y.2.1 ∧ x.2.2 ≤ y.2.2))))) q
/-- The entry that a free engine takes (R319). -/
def State.stpNext (s : State) (e : Nat) : Option (Nat × Nat) :=
  (s.stpQueue e).find? (fun x => (s.stpOf x.2).deferred == 0 || decide ((s.stpOf x.2).deferred + 1000000 ≤ s.now))
/-- An attempt is deferred: to the end of its class, counted and reported with a reason of R353 (R319). -/
def State.stpDefer (s : State) (p reason : Nat) : State :=
  let s := s.updStpOf p (fun x => { x with deferred := s.now })
  let k := puidMajor p
  if puidKind p = 0 then (s.count (uTST k) TST_STP_DEFER_COUNT).raiseOnce 0 0x7011 (puTst k) reason (puidMinor p)
  else s.raiseOnce 0 0x7011 (puHal (regionOfPuid p)) reason p
/-- Version that a unit's slices are passed under: the package's for a core, the image's for Onasen's own units (R324). -/
def State.stpVer (s : State) (p : Nat) : Nat := if puidKind p = 0 then s.rd uBRW BRW_GRIST_ACTIVE_VERSION else s.fw.ver % 2 ^ 32
/-- A unit's own slices that still count toward its steep (R324). -/
def State.ownPassed (s : State) (p : Nat) : Nat := if (s.stpOf p).ver = s.stpVer p then (s.stpOf p).passed else 0
/-- Its Tap's slices that still count toward a core's steep: built-in ones, under the image that runs (R324). -/
def State.tapPassed (s : State) (k p : Nat) : Nat :=
  let x := s.stpOf (puCore k p)
  if x.tapVer = s.fw.ver % 2 ^ 32 then x.tapPassed else 0
/-- Slices that still count toward a unit's steep, a Tap's included (R324, R350). -/
def State.stpPassed (s : State) (p : Nat) : Nat := s.ownPassed p + (if puidKind p = 0 then s.tapPassed (puidMajor p) (puidMinor p) else 0)
/-- The next steep of a core includes its Tap (R317, R318, R330, R331): by the plan, in a requalification, for a case, or for a Tap that is FENCED or under way; never
one that is PERMANENT. -/
def State.tapDue (s : State) (k p : Nat) : Bool :=
  let n := (s.plan.unitH + s.plan.coreH - 1) / s.plan.coreH
  let c := s.stpClass (puCore k p)
  let tap := s.unit (puTap k p)
  !(tap.perm || tap.absent) && ((n != 0 && (s.plan.rot + p) % n == 0 && decide ((s.stpOf (puCore k p)).lastTap ≤ s.plan.start))
    || c == some 1 || c == some 2 || tap.fenced || decide (0 < s.tapPassed k p))
/-- Expected signature of a built-in slice (R342): that of the responses that the firmware image fixes for it; 1 Tap, 2 Taster, 3 Cellar, 4 Door. DESIGN CHOICE (assumption 201): what the
vectors are, and what alarms, summaries and identities they must bring (R331-R333), stands in the response bits alone. -/
def builtIn (ver kind i : Nat) : Nat := respSig (Config.imageResp ver kind i)
/-- Region rests at K5 (R322). -/
def State.atK5 (s : State) (r : Nat) : Bool := s.rd (uHAL r) HAL_THM_STAT_BAND == 5
/-- TST_STP_OVERDUE and BRW_STP_OVERDUE follow the overdue cores (R350, R351). -/
def State.showOverdue (s : State) (k : Nat) : State :=
  let n (f : Nat → Bool) := (s.stp.filter (fun e => puidKind e.1 == 0 && e.2.overdue && f e.1)).length
  (s.wr (uTST k) TST_STP_OVERDUE_COUNT (n (fun p => puidMajor p == k))).wr uBRW BRW_STP_OVERDUE_COUNT (n (fun _ => true))
/-- The slice of the package that runs, none while a Tap's slice does. -/
def runSlice (x : StpRun) : Option GristSlice := if x.slice ≤ x.tapN then none else x.pkg.slices[x.slice - x.tapN - 1]?
/-- A slice of the package travels by bulk from the region's store to the Taster (R43, R349). -/
def State.sliceLoad (s : State) (x : StpRun) (i : Nat) : State :=
  let k := puidMajor x.unit
  match x.pkg.slices[i]? with
  | some g => s.bulk (puCel (gristCellar (regionOfCluster k))) (puTst k) (g.words.flatMap (leBytes 4) ++ g.mask)
  | none => s
/-- The prediction of the slice that is next exceeds its budget, at the rate at which the Hall counted last (R321). -/
def State.overrun (s : State) (x : StpRun) : Bool :=
  match runSlice x, (s.hall (regionOfCluster (puidMajor x.unit))).clk with
  | some g, some c => puidKind x.unit == 0 && decide (x.pkg.us * c < g.cycles * 100)
  | _, _ => false
/-- The slice of a core that has become a steep's own starts, unless it would overrun: at the margin of the band that the Taster's sensor reads now, or at the same one
when it is repeated, the Tap drives it; the next slice is loaded meanwhile (R92, R321, R322, R323, R349). -/
def State.sliceStart (s : State) (x : StpRun) : State :=
  let k := puidMajor x.unit
  match if puidKind x.unit = 0 then runSlice x else none with
  | none => s
  | some g =>
    if s.overrun x then (s.stpEnd (engineOf x.unit)).stpDefer x.unit 3
    else
      let m := if x.repeated then x.margin else x.pkg.margins.getD (s.sensorBand (16 * (k / 10) + k % 10)) 0
      let s := (s.updEng (engineOf x.unit) (fun _ => some { x with margin := m })).emit (.wrap k (puidMinor x.unit) (sliceOps g m))
      if x.repeated then s else s.sliceLoad x (x.slice - x.tapN)
/-- A steep of a core begins with what the package in effect gives (R324-R326, R329): by the swap of its logical core, in
place, or in place of its logical core when forced. -/
def State.stpCore (s : State) (k p phase : Nat) (forced : Option Nat) : State :=
  let u := puCore k p
  let g := s.gristPlan (regionOfCluster k)
  let tap := s.tapDue k p
  let n := if tap then 2 else 0
  let t := s.tapPassed k p
  let done := s.ownPassed u
  let img := s.fw.ver % 2 ^ 32
  let x : StpRun := ⟨u, phase, if t < n then t + 1 else n + done + 1, n + g.slices.length, n, false, !tap && (s.stpOf u).tapBad, false, g, 0, s.stpVer u, img, forced⟩
  let s := s.updStpOf u (fun y => { y with
    passed := done, ver := s.stpVer u, tapPassed := t, tapVer := img, tapBad := !tap && y.tapBad, forced := forced.isSome, back := none, head := false })
  let s := (s.updEng (uTST k) (fun _ => some x)).setUnit u (fun y => { y with steep := true })
  let s := s.sliceLoad x (x.slice - x.tapN - 1)
  if phase = 1 then s.updCore (ckey k p) (fun c => { c with fence := true })
  else s.updCore (ckey k p) (fun c => { c with fence := true, rst := true, wrapEn := false, cleared := false })
/-- A steep of one of Onasen's own units begins with its first slice (R332, R333, R336). -/
def State.stpOwn (s : State) (p total : Nat) : State :=
  let done := s.ownPassed p
  let s := s.updStpOf p (fun x => { x with passed := done, ver := s.stpVer p })
  (s.updEng (engineOf p) (fun _ => some ⟨p, 4, done + 1, total, 0, false, false, false, ⟨[], 500, []⟩, 0, s.stpVer p, s.fw.ver % 2 ^ 32, none⟩)).setUnit p
    (fun x => { x with steep := true })
/-- The lane and mode of a Door's slice: slice 1 is its own logic; then near end and far end of each lane (R316). -/
def laneSlice (i : Nat) : Nat × Nat := ((i - 2) / 2, (i - 2) % 2 + 1)
/-- A Door's slice needs no loop: the far end of an edge link whose servers do not loop (R336). -/
def State.noLoop (s : State) (n i : Nat) : Bool := 2 ≤ i && (laneSlice i).2 == 2 && decide (nFields ≤ n) && !bit s.variant.loops (n - nFields)
/-- A Door puts the lane of its slice in loop-back, while its other three lanes are up (R336); one that is still returning from its own loop-back is waited for; else
the attempt ends. -/
def State.laneLoop (s : State) (n i : Nat) : State :=
  let l := (laneSlice i).1
  let d := s.door n
  if Nat.lor d.lanes (2 ^ l) = 15 then s.updDoor n (fun d => { d with lb := d.lb.set l (laneSlice i).2 })
  else if (List.range 4).all (fun j => j == l || bit d.lanes j || d.lb.getD j 0 == 3) then s
  else (s.stpEnd (uDOR n)).updStpOf (puDor n) (fun x => { x with deferred := s.now })
/-- LANE_RETURN (R122, R336): a Door that waits for the lane's return goes on with its slice. -/
def laneBack (s : State) (n l us : Nat) : State :=
  let s := laneReturn s n l us
  match s.eng (uDOR n) with
  | some x => if 2 ≤ x.slice ∧ (s.door n).lb.getD (laneSlice x.slice).1 0 = 0 then s.laneLoop n x.slice else s
  | none => s
/-- LANE_RETURN. -/
def execLaneReturn (n : DoorId) (l : LaneId) (us : Nat) (s : State) : Outcome State Fault Refusal :=
  .next (laneBack s n.val l.val us)
/-- A Cellar or a Door of the region is under steep: units of each kind go one at a time (R318). -/
def State.kindBusy (s : State) (r kind : Nat) : Bool :=
  s.engs.any (fun e => match e.2 with | some x => puidKind x.unit == kind && regionOfEngine e.1 == r | none => false)
/-- STEEP_START (R318-R321, R326, R328, R332, R339, R349): `cyc100` is the region's cycle count of the last 100 µs. -/
def steepStart (s : State) (e cyc100 : Nat) : State :=
  let r := regionOfEngine e
  if (s.eng e).isSome || (s.hall r).procHeld || s.atK5 r || s.stopped || s.partReset r || s.regionLost r || s.regionShut r then s
  else
  let s := s.updHall r (fun h => { h with clk := some cyc100 })
  match s.stpNext e with
    | none => s
    | some (_, u) =>
      let k := puidMajor u
      let p := puidMinor u
      match puidKind u with
      | 0 =>
        let g := s.gristPlan r
        let n := if s.tapDue k p then 2 else 0
        let cyc := ((g.slices[s.ownPassed u]?).map (·.cycles)).getD 0
        if !s.tstTrusted k then s.stpDefer u 4
        else if s.rd uBRW BRW_GRIST_ACTIVE_VERSION = 0 ∨ !s.grist.active.contains r then s.stpDefer u 6
        else if n ≤ s.tapPassed k p ∧ g.us * cyc100 < cyc * 100 then s.stpDefer u 3
        else if (s.unit u).fenced then s.stpCore k p 3 none
        else match (s.stpOf u).back with
        | some l => s.stpCore k p 3 (some l)
        | none =>
          if (s.spares k).length < 2 then
            let s := s.stpDefer u 2
            if (s.stpOf u).overdue && (s.logicalOf k p).isSome then s.updStpOf u (fun x => { x with forced := true }) else s
          else s.stpCore k p (if (s.logicalOf k p).isSome then 1 else 3) none
      | 2 =>
        if (s.adjOf k).adopter.isNone && (s.adopterFor k).isNone then s.stpDefer u 5
        else
          let s := s.stpOwn u 24
          if (s.adjOf k).adopter.isSome then s else s.leaveService k
      | 5 => if s.kindBusy r 5 then s else s.stpOwn u 16
      | _ =>
        if s.kindBusy r 6 then s
        else
          let s := s.stpOwn u 9
          let i := s.stpPassed u + 1
          if 2 ≤ i then s.laneLoop k i else s
/-- The unit number of a steep engine. -/
def engineNo : Engine → Nat
  | .taster k => uTST k.val
  | .hall r => uHAL r.val
  | .cellar c => uCEL c.val
  | .door n => uDOR n.val
/-- A steep engine does nothing: its unit is stopped, or Moldom halts the stage (R404, R576). -/
def State.engineHeld (s : State) (e : Engine) : Bool :=
  match e with
  | .taster k => s.stageHeld k.val 6
  | e => s.unitStopped (engineNo e)
/-- STEEP_START. -/
def execSteepStart (e : Engine) (cyc100 : Nat) (s : State) : Outcome State Fault Refusal := .next (if s.engineHeld e then s else steepStart s (engineNo e) cyc100)

/-- A core has ended its steep within a requalification; with the last one 0x4033 (R263, R330). A core that fails is a policy event of its own, which may begin another. -/
def State.requalDone (s : State) (k p : Nat) (ok : Bool) : State :=
  let a := s.adjOf k
  if !a.requalOn || !a.requal.contains p then s
  else
    let left := a.requal.filter (· != p)
    let good := a.requalOk && ok
    if left.isEmpty then
      (s.updAdjOf k (fun a => { a with requal := [], requalOn := false, requalOk := true })).raise 0x4033 (puTst k) (if good then 1 else 0) a.requalN
    else s.updAdjOf k (fun a => { a with requal := left, requalOk := good })
/-- The closure cases of a core give their verdicts by its steep (R248). DESIGN CHOICE (assumption 209): a steering command whose case has no repeat, because the steep resolves it
or no slot was free, kills no context; R230 kills where the repeat does not pass and says nothing of a failure that is not repeated. -/
def State.closureDone (s : State) (k p : Nat) (coreFail tapFail : Bool) : State :=
  s.each (s.closureCases k p) (fun s hc =>
    let h := hc.1
    let c := hc.2
    let s := s.dropCase h c.no
    let s := if coreFail then s.sendVerdict h (verdictOf c 0x01 (puCore k p) false false (c.layer * 2 ^ 16 + c.op)) else s
    let s := if tapFail then s.sendVerdict h (verdictOf c 0x05 (puTap k p) false false 0) else s
    if coreFail || tapFail then s else s.sendVerdict h (verdictOf c 0x02 (puCore k p) false true 0))
/-- The history entry of a failed steep (R255, R338). -/
def State.stpEntry (s : State) (p : Nat) : HistEntry :=
  ⟨0x10, 5, true, false, false, false, 0, postureCode (s.posture (regionOfPuid p)), s.optime, s.attic.pcyc, 0⟩
/-- A unit failed a test: history entry and 0x7001 (R338, R353). -/
def State.stpFailed (s : State) (p test slice reason w7 : Nat) : State :=
  s.raiseHist (s.stpEntry p) 0x7001 p (test * 2 ^ 24 + slice) reason w7
/-- What a failed unit enters: FENCED, or PERMANENT where it was FENCED (R253, R338). -/
def State.failState (s : State) (p : Nat) : State := if s.standing p = 0 then s.enterFenced p else s.enterPermanent p
/-- A steep fails (R338): test and reason as R353 codes them. -/
def State.stpFail (s : State) (e : Nat) (x : StpRun) (test reason : Nat) : State :=
  let p := x.unit
  let k := puidMajor p
  let i := puidMinor p
  let core := puidKind p == 0
  let s := if core then s.count (uTST k) TST_STP_FAIL_COUNT else s
  let s := (s.stpFailed p test x.slice reason x.ver).updStpOf p (fun y => { y with
    due := none, deferred := 0, first := false, head := false, passed := 0, tapPassed := 0, tapBad := false, back := none, forced := false, overdue := false })
  let s := if core then (s.requalDone k i false).closureDone k i true x.tapFail else s
  let s := if puidKind p = 6 then (s.shutLink k).stpEnd e else (s.failState p).stpEnd e
  if core then (s.updCore (ckey k i) (fun c => { c with rst := true, wrapEn := false, fence := true })).showOverdue k else s
/-- A steep has passed its last slice (R324, R325 #9): a FENCED unit returns to service; a core's wrapper is reset and off, and it goes on to its final clear. -/
def State.stpComplete (s : State) (e : Nat) (x : StpRun) : State :=
  let p := x.unit
  let k := puidMajor p
  let i := puidMinor p
  let s := s.updStpOf p (fun y => { y with
    due := none, deferred := 0, first := false, head := false, passed := 0, tapPassed := 0, tapBad := false, back := none, overdue := false, forced := false, lastWall := s.now
    lastTap := if x.tapN ≠ 0 ∧ !x.tapFail then s.now else y.lastTap, lastOp := s.optime })
  match puidKind p with
  | 0 =>
    let s := ((s.count (uTST k) TST_STP_DONE_COUNT).showOverdue k).updAdjOf k (fun a => { a with unlocated := a.unlocated.filter (· != i) })
    let s := if x.tapN ≠ 0 && !x.tapFail && (s.unit (puTap k i)).fenced then s.returnService (puTap k i) else s
    let s := (s.closureDone k i false x.tapFail).requalDone k i !x.tapFail
    let s := if (s.core (ckey k i)).wrapEn then s.emit (.wrap k i [wrapReset]) else s
    (s.updEng e (fun _ => some { x with phase := 5 })).updCore (ckey k i) (fun c => { c with wrapEn := false })
  | 2 => ((s.stpEnd e).returnService p)
  | 5 => ((s.wr (uCEL k) CEL_STP_LAST_OPTIME s.optime).stpEnd e).returnService p
  | _ => ((s.wr (uDOR k) DOR_STP_LAST_OPTIME s.optime).stpEnd e).returnService p
/-- A steep goes on with a slice, or is complete; none starts at K5 (R322, R323). -/
def State.stpGo (s : State) (e : Nat) (x : StpRun) (next : Nat) : State :=
  if x.total < next then s.stpComplete e x
  else
    let x : StpRun := { x with slice := next, repeated := false, looped := false }
    let s := s.updEng e (fun _ => some x)
    if s.atK5 (regionOfEngine e) then s.stpAbandon e 5
    else if puidKind x.unit = 6 then s.laneLoop (puidMajor x.unit) x.slice
    else s.sliceStart x
/-- The slice that runs has passed: the Tap's slices come first, then the unit's own that have not passed yet (R324, R331). -/
def State.stpOn (s : State) (e : Nat) (x : StpRun) : State :=
  let s := s.updStpOf x.unit (fun y => if x.slice ≤ x.tapN then { y with tapPassed := x.slice } else { y with passed := x.slice - x.tapN })
  s.stpGo e x (if x.slice < x.tapN then x.slice + 1 else x.tapN + (s.stpOf x.unit).passed + 1)
/-- Expected signature of the slice that runs (R323, R342). -/
def stpExpected (x : StpRun) : Nat :=
  match puidKind x.unit with
  | 0 => if x.slice ≤ x.tapN then builtIn x.img 1 x.slice else ((runSlice x).map (·.expect)).getD 0
  | 2 => builtIn x.img 2 x.slice
  | 5 => builtIn x.img 3 x.slice
  | _ => builtIn x.img 4 x.slice
/-- The signature of what came back: of a slice of the package its unmasked bits alone (R323). -/
def stpSig (x : StpRun) (resp : List Bool) : Nat :=
  match if puidKind x.unit = 0 then runSlice x else none with
  | some g => respSig (unmasked g resp)
  | none => respSig resp
/-- The slice of a Taster's steep that tests its collector, as the image has it (R265, R332; assumption 187). -/
def testsCollector (x : StpRun) : Bool := Config.imageVal (0x332 * 2 ^ 32 + x.img) x.slice % 2 == 0
/-- Of a Cellar's slice, the in-line unit has failed, and one of its other parts has, by the response bits that differ from the image's: the first of them are the in-line
unit's (R333, R338; assumption 187). -/
def cellarParts (x : StpRun) (resp : List Bool) : Bool × Bool :=
  let want := Config.imageResp x.img 3 x.slice
  let n := Config.imageVal (0x333 * 2 ^ 32 + x.img) x.slice
  (decide (resp.take n ≠ want.take n), decide (resp.drop n ≠ want.drop n))
/-- SLICE_COMPARE (R265, R321, R323, R331-R333, R338): a slice that differs is repeated once; a Cellar's slice has not ended before its PHY loop-back has. -/
def sliceCompare (s : State) (e : Nat) (resp : List Bool) (cyc100 : Nat) : State :=
  match s.eng e with
  | none => s
  | some x =>
    let k := puidMajor x.unit
    let i := puidMinor x.unit
    if x.phase ≠ 4 ∨ (puidKind x.unit = 6 ∧ 2 ≤ x.slice) ∨ (puidKind x.unit = 5 ∧ !x.looped) then s
    else
    let s := s.updHall (regionOfEngine e) (fun h => { h with clk := some cyc100 })
    let again : StpRun := { x with repeated := true, looped := false }
    if stpSig x resp = stpExpected x then
      let p := if puidKind x.unit = 0 ∧ x.slice ≤ x.tapN then puTap k i else x.unit
      (if x.repeated then s.raiseOnce 0 0x7002 p x.slice x.ver else s).stpOn e x
    else if !x.repeated then (s.updEng e (fun _ => some again)).sliceStart again
    else match puidKind x.unit with
      | 0 =>
        if x.slice ≤ x.tapN then
          let s := (s.stpFailed (puTap k i) 2 x.slice 3 x.ver).failState (puTap k i)
          let s := s.updStpOf x.unit (fun y => { y with tapPassed := 0, tapBad := true })
          s.stpGo e { x with tapFail := true } (x.tapN + (s.stpOf x.unit).passed + 1)
        else s.stpFail e x 1 1
      | 2 =>
        let s := s.stpFail e x 3 3
        if testsCollector x then s.updAdjOf k (fun a => { a with collector := true }) else s
      | 5 =>
        let w := cellarParts x resp
        let s := if w.1 then (s.stpFailed x.unit 4 x.slice 3 x.ver).suspectChan k (x.slice - 1) 5 else s
        if w.2 then s.stpFail e x 4 3 else s.stpOn e x
      | _ => s.stpFail e x 6 3
/-- SLICE_COMPARE. -/
def execSliceCompare (e : Engine) (resp : List Bool) (cyc100 : Nat) (s : State) : Outcome State Fault Refusal :=
  .next (if s.engineHeld e then s else sliceCompare s (engineNo e) resp cyc100)
/-- SLICE_ABORT (R320, R353): never a failure; the slices that have passed are kept, and the unit is held in reset. -/
def sliceAbort (s : State) (e us : Nat) : State :=
  match s.eng e with
  | none => s
  | some x =>
    if x.phase ≠ 4 then s
    else
      let core := puidKind x.unit == 0
      let tap := core && decide (x.slice ≤ x.tapN)
      let s := if core then s.count (uTST (puidMajor x.unit)) TST_STP_ABORT_COUNT else s
      let s := s.raiseOnce 0 0x7010 (if tap then puTap (puidMajor x.unit) (puidMinor x.unit) else x.unit) x.slice (if core && !tap then x.pkg.us else 500) us
      (if core && x.forced.isNone then s.stpEnd e else s.stpHold e).updStpOf x.unit (fun y => { y with deferred := s.now })
/-- SLICE_ABORT. -/
def execSliceAbort (e : Engine) (us : Nat) (s : State) : Outcome State Fault Refusal := .next (sliceAbort s (engineNo e) us)

/-- Place of a unit among those of its kind in its region, and their number (R318). -/
def kindPlace (p : Nat) : Nat × Nat :=
  let r := regionOfPuid p
  let l := match puidKind p with
    | 2 => (clustersOf r).map puTst
    | 5 => (stacksOf r).map puCel
    | _ => (doorsOf r).map puDor
  (l.idxOf p, l.length)
/-- Wall time for which the plan has a unit (R318): a core at its place in the rotation; DESIGN CHOICE (assumption 202): Onasen's own units of a kind in a region at equal steps
of UNIT_H from the rotation whose number UNIT_H / CORE_H, rounded up, divides. -/
def State.planned (s : State) (p : Nat) : Nat :=
  let hour := 3600000000000
  let q := s.plan
  if puidKind p = 0 then q.start + puidMinor p * (q.coreH * hour) / 1024
  else
    let n := max 1 ((q.unitH + q.coreH - 1) / q.coreH)
    let x := kindPlace p
    q.start - q.rot % n * (q.coreH * hour) + x.1 * (q.unitH * hour) / max 1 x.2
/-- STEEP_DUE (R318): a unit's planned due time has come; before the first rotation there is no plan. -/
def steepDue (s : State) (p : Nat) : State :=
  let u := s.unit p
  if u.absent || u.perm || (s.stpOf p).due.isSome || s.plan.coreH = 0 || s.now < s.planned p then s
  else s.updStpOf p (fun x => { x with due := some (s.planned p) })
/-- PUID of a steeped unit. -/
def steepPuid : SteepUnit → Nat
  | .core k p => puCore k.val p.val
  | .taster k => puTst k.val
  | .cellar c => puCel c.val
  | .door n => puDor n.val
/-- STEEP_DUE. -/
def execSteepDue (u : SteepUnit) (s : State) : Outcome State Fault Refusal := .next (steepDue s (steepPuid u))
/-- STEEP_WITHDRAW (R327, R330): no boundary came within 2 s; a boundary already taken stands. In a requalification the core goes behind the others, and the last one
waits for its first boundary. -/
def steepWithdraw (s : State) (k p : Nat) : State :=
  let u := puCore k p
  match s.runOf u with
  | none => s
  | some x =>
    if x.phase ≠ 1 || (s.core (ckey k p)).rst || ((s.port k).mig.map (·.src)) == some p || (s.logicalOf k p).isNone then s
    else
      let a := s.adjOf k
      if a.requalOn && a.requal.contains p then
        if a.requal.all (· == p) then s else (s.stpEnd (uTST k)).updStpOf u (fun y => { y with deferred := s.now })
      else (s.stpEnd (uTST k)).stpDefer u 1
/-- STEEP_WITHDRAW. -/
def execSteepWithdraw (k : ClusterId) (p : CoreId) (s : State) : Outcome State Fault Refusal := .next (steepWithdraw s k.val p.val)
/-- The final clear of a steep has succeeded (R325 #9, R253): the core joins the free spares, held in reset, or is back under
its logical core; a FENCED one is IN SERVICE again. -/
def State.stpFinal (s : State) (k p : Nat) (forced : Bool) : State :=
  let s := s.stpEnd (uTST k)
  let s := if (s.unit (puCore k p)).fenced then s.returnService (puCore k p) else s
  if forced then s else s.updCore (ckey k p) (fun c => { c with rst := true, fence := false })
/-- SECRET_CLEAR_DONE (R90, R91, R261, R321, R325, R338, R368): it succeeds when every row and every key register reads zero. -/
def secretClearDone (s : State) (k p : Nat) (rowsZero : Bool) (keyZero : Nat) : State :=
  let c := ckey k p
  if !(s.core c).rst then s
  else
    let ok := rowsZero && keyZero == 15
    let s := s.updCore c (fun x => { x with cleared := ok })
    if s.resets.any (fun x => x.level == 1 && x.at_ == c && x.step == 5) then
      (if ok then s.coreResetDone k p else s)
    else match s.runOf (puCore k p) with
      | none => s
      | some x =>
        if x.phase = 4 then s
        else if !ok then s.stpFail (uTST k) x 1 2
        else if x.phase = 5 then s.stpFinal k p x.forced.isSome
        else if x.total ≤ x.slice - 1 then s.stpComplete (uTST k) x
        else if s.overrun x then (s.stpEnd (uTST k)).stpDefer x.unit 3
        else ((s.updEng (uTST k) (fun _ => some { x with phase := 4 })).updCore c (fun y => { y with wrapEn := true })).sliceStart { x with phase := 4 }
/-- SECRET_CLEAR_DONE. -/
def execSecretClearDone (k : ClusterId) (p : CoreId) (rowsZero : Bool) (keyZero : BitVec 4) (s : State) : Outcome State Fault Refusal :=
  .next (secretClearDone s k.val p.val rowsZero keyZero.toNat)
/-- CORE_OVERDUE (R329): reported at most once an epoch; without a borrowable spare it awaits a forced steep, unless its cluster
is adopted (R339). -/
def coreOverdue (s : State) (k p : Nat) : State :=
  let u := puCore k p
  let x := s.unit u
  if x.absent || x.perm || (s.stpOf u).overdue then s
  else
    let force := s.tstTrusted k && decide ((s.spares k).length < 2) && (s.logicalOf k p).isSome
    let s := (s.updStpOf u (fun y => { y with overdue := true, forced := force })).showOverdue k
    let late := (List.range 1024).filter (fun i => (s.stpOf (puCore k i)).overdue)
    let since (i : Nat) : Nat := s.now - max s.plan.ready (s.stpOf (puCore k i)).lastWall
    s.raiseOnce 0 0x7012 (puTst k) late.length ((late.foldl (fun m i => max m (since i)) 0) / 878906250)
/-- CORE_OVERDUE. -/
def execCoreOverdue (k : ClusterId) (p : CoreId) (s : State) : Outcome State Fault Refusal := .next (coreOverdue s k.val p.val)
/-- FORCED_STEEP_BOUNDARY (R329): the core is fenced, its logical core's entry made invalid, and the steep runs in place; the
expected duration of 0x7013 is a free value. -/
def forcedSteepBoundary (s : State) (k p : Nat) : State :=
  let u := puCore k p
  match s.logicalOf k p with
  | none => s
  | some l =>
    if !(s.stpOf u).overdue || (s.stpClass u).isNone || !s.tstTrusted k || decide (2 ≤ (s.spares k).length) || (s.eng (uTST k)).isSome
      || (s.core (ckey k p)).cmd.isSome || !s.grist.active.contains (regionOfCluster k) || s.atK5 (regionOfCluster k) || s.stopped
      || (s.hall (regionOfCluster k)).procHeld then s
    else
      let us := Config.openVal s.fresh
      let s := s.draw.stpCore k p 3 (some l)
      let s := s.updPort k (fun x => { x with coreShadow := x.coreShadow ++ [(l, 0)], commit := true })
      s.raise 0x7013 u l p us
/-- FORCED_STEEP_BOUNDARY. -/
def execForcedSteepBoundary (k : ClusterId) (p : CoreId) (s : State) : Outcome State Fault Refusal := .next (forcedSteepBoundary s k.val p.val)

/-- Units of a kind that count in a period: those that may be steeped and were not since a wall time (R353 0x7031). -/
def State.unsteeped (s : State) (ps : List Nat) (since : Nat) : Nat :=
  (ps.filter (fun p => !(s.unit p).absent && !(s.unit p).perm && decide ((s.stpOf p).lastWall < since))).length
/-- The core period that ends has cores not steeped (R353 0x7031). -/
def State.corePeriod (s : State) (since : Nat) : State :=
  s.each (List.range Config.host.clusters) (fun s k =>
    let n := s.unsteeped ((List.range 1024).map (puCore k)) since
    if n = 0 then s else s.raiseOnce 0 0x7031 (puTst k) 0 n s.plan.coreH)
/-- Taps of a cluster that count in a period: not steeped with their cores since a wall time (R316, R353). -/
def State.tapsUnsteeped (s : State) (k since : Nat) : Nat :=
  ((List.range 1024).filter (fun p => !(s.unit (puTap k p)).absent && !(s.unit (puTap k p)).perm && !(s.unit (puCore k p)).absent
    && decide ((s.stpOf (puCore k p)).lastTap < since))).length
/-- The period of Taps, Tasters, Cellars and Doors that ends has units not steeped: a Taster reports its Taps, a Hall the first other kind, once each (R353, R354). -/
def State.unitPeriod (s : State) (since : Nat) : State :=
  let s := s.each (List.range Config.host.clusters) (fun s k =>
    let n := s.tapsUnsteeped k since
    if n = 0 then s else s.raiseOnce 0 0x7031 (puTst k) 1 n s.plan.unitH)
  s.each (List.range Config.host.regions) (fun s r =>
    s.each [(2, (clustersOf r).map puTst), (5, (stacksOf r).map puCel), (6, (doorsOf r).map puDor)] (fun s x =>
      let n := s.unsteeped x.2 since
      if n = 0 then s else s.raiseOnce 0 0x7031 (puHal r) x.1 n s.plan.unitH))
/-- Steeps brought forward to this rotation: the Taster of the cluster (R253 ATOMIC). -/
def State.steepsFirst (s : State) : State :=
  let ks := (s.steepFirst.filter (fun x => x.1 == 0)).map (·.2)
  let s := s.each ks (fun s k => s.updStpOf (puTst k) (fun x => { x with due := some s.now, first := true }))
  { s with steepFirst := s.steepFirst.filter (fun x => x.1 != 0) }
/-- CORE_ROTATION_START (R318, R348, R351, R353): a new plan; a committed package takes effect. -/
def coreRotationStart (s : State) : State :=
  let old := s.plan
  let h := s.rd uBRW BRW_STP_PERIOD_CORE_H
  let uh := s.rd uBRW BRW_STP_PERIOD_UNIT_H
  let n := (old.unitH + old.coreH - 1) / old.coreH
  let s := if s.cnt uBRW BRW_STP_ROT_COUNT = 0 then s
    else
      let s := s.corePeriod old.start
      if n ≠ 0 ∧ (old.rot + 1) % n = 0 then s.unitPeriod (s.now - old.unitH * 3600000000000) else s
  let s := s.count uBRW BRW_STP_ROT_COUNT
  let rot := s.cnt uBRW BRW_STP_ROT_COUNT
  let s : State := { s with plan := ⟨s.now, h, uh, rot, old.ready⟩ }
  (s.gristActivate rot).steepsFirst
/-- CORE_ROTATION_START. -/
def execCoreRotationStart (s : State) : Outcome State Fault Refusal := .next (if s.stopped then s else coreRotationStart s)

/-- PHY_LOOPBACK (R333, R338): the loop-back that the running slice of a Cellar has asked for on CL_PHY_LB is over; one with errors makes its channel SUSPECT. -/
def phyLoopback (s : State) (c ch errs : Nat) : State :=
  match s.eng (uCEL c) with
  | none => s
  | some x =>
    if x.phase ≠ 4 ∨ x.slice ≠ ch + 1 ∨ x.looped then s
    else
      let s := s.updEng (uCEL c) (fun _ => some { x with looped := true })
      if errs = 0 then s else (s.stpFailed (puChan c ch) 7 (ch + 1) 4 errs).suspectChan c ch 5
/-- PHY_LOOPBACK. -/
def execPhyLoopback (c : StackId) (ch : ChanId) (errs : BitVec 16) (s : State) : Outcome State Fault Refusal :=
  .next (phyLoopback s c.val ch.val errs.toNat)
/-- CHANNEL_MARCH: a write of CEL_STP_CTRL.CHSTEEP (R335): a march starts on each channel named that is SUSPECT and fenced. -/
def channelMarch (s : State) (c data : Nat) : State :=
  s.each ((List.range 16).filter (fun ch => bit data ch && s.chanSuspect c ch && s.chanFenced c ch)) (fun s ch =>
    s.wr (uCEL c) CEL_STP_STAT_BUSY (orBit (s.rd (uCEL c) CEL_STP_STAT_BUSY) ch))
/-- The stretches of a channel, as (address, bytes), outside some areas in rising order, from an address on. -/
def outside : List (Nat × Nat) → Nat → List (Nat × Nat)
  | [], a => [(a, chanBytes - a)]
  | (b, n) :: rest, a => (a, min b chanBytes - a) :: outside rest (max a (b + n))
/-- The areas of a channel that a march skips, in rising order: the save area, the grist store and the host image store (R308, R335, R348, R522). -/
def State.marchSkips (s : State) (c ch : Nat) : List (Nat × Nat) :=
  let r := regionOfStack c
  let g := if s.variant.gristArea = (0, 0) then (15, 0x11D800000) else s.variant.gristArea
  let l := [(s.saveArea, 16777216)] ++ (if c = gristCellar r then [((g.1 % 16, g.2), gristBytes)] else [])
    ++ (if c = storeCellar r then [(s.imagePlace, 65536)] else [])
  sortBy (fun a b => decide (a.1 ≤ b.1)) ((l.filter (fun x => x.1.1 == ch)).map (fun x => (x.1.2, x.2)))
/-- MARCH_DONE (R335, R338): what the channel held is gone, and the last pass has left 0xAA in it, but for the areas that a march skips. -/
def marchDone (s : State) (c ch bad : Nat) (ue : Bool) : State :=
  let u := uCEL c
  let busy := s.rd u CEL_STP_STAT_BUSY
  if !bit busy ch then s
  else
    let s := (s.wr u CEL_STP_STAT_BUSY (busy - 2 ^ ch)).each (outside (s.marchSkips c ch) 0) (fun s x => s.poke (stackKey c ch x.1) (List.replicate x.2 0xAA#8))
    if bad = 0 && !ue then s.wr u CEL_STP_STAT_PASS (orBit (s.rd u CEL_STP_STAT_PASS) ch)
    else s.stpFailed (puChan c ch) 5 0 (if bad ≠ 0 then 6 else 7) bad
/-- MARCH_DONE. -/
def execMarchDone (c : StackId) (ch : ChanId) (miscompares : Nat) (ue : Bool) (s : State) : Outcome State Fault Refusal :=
  .next (marchDone s c.val ch.val miscompares ue)
/-- LANE_LOOPBACK_END (R336, R338): a lane with errors is held down, with a history entry against it. -/
def laneLoopbackEnd (s : State) (n l errs checked : Nat) : State :=
  let e := uDOR n
  match s.eng e with
  | none => s
  | some x =>
    if x.slice < 2 ∨ (laneSlice x.slice).1 ≠ l ∨ (s.door n).lb.getD l 0 ≠ (laneSlice x.slice).2 then s
    else
      let mode := (laneSlice x.slice).2
      -- a lane that dropped for its loop-back returns without an event: 3 until then
      let s := s.updDoor n (fun d => { d with lb := d.lb.set l (if bit d.lanes l then 0 else 3) })
      if errs = 0 then
        if s.noLoop n (x.slice + 1) then s.stpOn e { x with slice := x.slice + 1 } else s.stpOn e x
      else
        let up := (s.door n).lanes
        let s := s.updDoor n (fun d => { d with lb := d.lb.set l 0, heldLanes := orBit d.heldLanes l, lanes := if bit d.lanes l then d.lanes - 2 ^ l else d.lanes })
        let s := if up ≠ 0 ∧ (s.door n).lanes = 0 then s.raise 0xC013 (puDor n) 0 else s
        let s := (s.wr e DOR_STP_STAT_HELD (s.door n).heldLanes).raiseHist (s.stpEntry (puLane n l)) 0xC011 (puLane n l) mode errs checked
        (s.stpEnd e).updStpOf (puDor n) (fun y => { y with due := none, deferred := 0, first := false, passed := 0 })
/-- LANE_LOOPBACK_END. -/
def execLaneLoopbackEnd (n : DoorId) (l : LaneId) (errs : BitVec 16) (checked : Nat) (s : State) : Outcome State Fault Refusal :=
  .next (laneLoopbackEnd s n.val l.val errs.toNat checked)

end Sys2Proof.Machine
end

