-- ==== Sys2Proof/Machine/Resets.lean ====
section
/-! DEFINITION. Hangs, and resets of cores, clusters, regions and the wafer (R355-R377). -/
namespace Sys2Proof.Machine
open Sys2Proof Host

/-- Every register and counter of a run of units is as after their reset. -/
def State.dropUnits (s : State) (lo hi : Nat) : State :=
  let f {α : Type} (m : Tab α) : Tab α := Tab.drop (ukey lo) (ukey hi) m
  { s with regs := f s.regs, ecnt := f s.ecnt, rcnt := f s.rcnt, fill := f s.fill, shown := f s.shown
           clocks := Tab.drop lo hi s.clocks, delays := Tab.drop lo hi s.delays, scans := Tab.drop lo hi s.scans, engs := Tab.drop lo hi s.engs
           cutUnits := (Tab.range lo hi s.cutUnits).foldl (fun m e => Tab.insert e.1 { e.2 with wasReset := true } m) s.cutUnits }
/-- A counter that counts since the last chip reset, as another state holds and shows it (R109, R388). -/
def State.keepCnt (s old : State) (u : Nat) (F : Fld) : State :=
  { s with rcnt := putCnt s.rcnt (fkey u F 0) (old.cnt u F), shown := putCnt s.shown (fkey u F 0) (old.shownCnt u F) }
/-- A unit is marked as reset since its last marker (R400). -/
def State.markReset (s : State) (u : Nat) : State := s.updCutUnit u (fun x => { x with wasReset := true })
/-- A Taster and its Taps are reset (R374): its map, its place in the Loft and its units' standing stay. -/
def State.resetCluster (s : State) (k : Nat) : State :=
  let lo := 1024 * k
  let hi := 1024 * (k + 1)
  let x := s.port k
  let a := s.adjOf k
  let s := ((((s.dropUnits (uTST k) (uTST k + 1)).keepCnt s (uTST k) TST_RST_ENGINE_COUNT).dropUnits (uTAP k 0) (uTAP (k + 1) 0))).markReset (uTST k)
  let s : State := { s with
    taps := Tab.drop lo hi s.taps, cores := Tab.drop lo hi s.cores, adj := Tab.erase k s.adj, rpl := Tab.erase k s.rpl
    pairs := Tab.erase k s.pairs, bins := Tab.drop (64 * k) (64 * (k + 1)) s.bins, bank := Tab.drop (128 * k) (128 * (k + 1)) s.bank
    stp := s.stp.map (fun e => if (puidKind e.1 = 0 ∨ puidKind e.1 = 2) ∧ puidMajor e.1 = k then (e.1, { e.2 with passed := 0, tapPassed := 0, tapBad := false, back := none }) else e)
    hangs := s.hangs.filter (fun h => h.1 != k), chans := Tab.erase (chTst k) (Tab.drop (chTap k 0) (chTap (k + 1) 0) s.chans)
    steps := s.steps.map (fun st => { st with cmds := st.cmds.filter (fun g => g.cluster != k) }) }
  let s := s.updAdjOf k (fun y => { y with unlocated := a.unlocated, collector := a.collector })
  let s := s.updPort k (fun _ => { port0 k with hold := true, base := x.base, coreLive := x.coreLive, killing := [] })
  let s := s.updSeg k (fun g => { g with buffer := [], dropped := 0, rateUs := 0, rateCount := 0 })
  s.each ((s.units.filter (fun e => puidKind e.1 == 0 && puidMajor e.1 == k)).map (fun e => puidMinor e.1)) (fun s p =>
    if s.coreOut k p then s.updCore (ckey k p) (fun c => { c with fence := true, rst := true }) else s)
/-- A Cellar is reset (R78, R306, R308, R309): its save area is as it left it, unless the stack has lost it; its channel fences stand. -/
def State.resetCellar (s : State) (c : Nat) (keep : Bool) : State :=
  let fences := s.rd (uCEL c) CEL_CH_CTRL_FENCE
  let save := if keep then s.saveCel c else none
  let s := (s.dropUnits (uCEL c) (uCEL c + 1)).markReset (uCEL c)
  let s : State := { s with
    wins := Tab.drop (4096 * c) (4096 * (c + 1)) s.wins, winAlive := Tab.drop (4096 * c) (4096 * (c + 1)) s.winAlive
    stp := s.stp.map (fun e => if e.1 = puCel c then (e.1, { e.2 with passed := 0 }) else e), chans := Tab.erase (chCel c) s.chans
    mem := if keep then s.mem else Tab.drop (stackKey c 0 0) (stackKey c 16 0) s.mem
    fw := { s.fw with checks := s.fw.checks.filter (fun q => 4 * Config.host.north q.1 + 1 != c) } }
  let s := (s.updCel c (fun _ => { cel0 c with saved := save, hold := true })).wr (uCEL c) CEL_CH_CTRL_FENCE fences
  if (s.unit (puCel c)).perm then s.fenceStack c
  else s.each (List.range 16) (fun s ch => if (s.unit (puChan c ch)).perm then s.fenceChan c ch else s)
/-- A Door is reset: a Shuttered link stays so until a chip reset (R374, R423). -/
def State.resetDoor (s : State) (n : Nat) : State :=
  let d := s.door n
  let s := (s.dropUnits (uDOR n) (uDOR n + 1)).markReset (uDOR n)
  let s : State := { s with
    streams := Tab.drop (8192 * n) (8192 * (n + 1)) s.streams, reloads := Tab.erase n s.reloads
    stp := s.stp.map (fun e => if e.1 = puDor n then (e.1, { e.2 with passed := 0 }) else e) }
  s.updDoor n (fun _ => { door0 n with shut := d.shut, heldLanes := d.heldLanes })
/-- A gate cell is reset. -/
def State.resetGate (s : State) (g : Nat) : State :=
  let a := (s.gate g).audited
  ((s.dropUnits (uGATE g) (uGATE g + 1)).keepCnt s (uGATE g) HCH_WITHHELD_COUNT).updGate g (fun _ => { gate0 g with audited := a })
/-- The region's Onasen units that a partition reset resets: all but the Hall, the routers, a Brewhouse and the PCIe gate (R374, R376). -/
def State.resetRegion (s : State) (r : Nat) (keep : Bool) : State :=
  let s := s.each (clustersOf r) (fun s k => s.resetCluster k)
  let s := s.each (stacksOf r) (fun s c => s.resetCellar c keep)
  let s := s.each (doorsOf r) (fun s n => s.resetDoor n)
  let s := s.each ((s.gatesOf r).filter (· != nLinks)) (fun s g => s.resetGate g)
  if keep then s else s.storeLost r

/-- A command's LIMIT in region cycles, none where it never expires (R355). -/
def State.limitOf (s : State) (k cmd : Nat) : Option Nat :=
  match s.descOf k cmd with
  | some d => if d.limit = 0 then none else some (d.limit * 1024)
  | none => none
/-- COMMAND_EXPIRE (R355-R358, R391): a command that completes in the expiry cycle is complete. -/
def commandExpire (s : State) (k p : Nat) (ending : Bool) : State :=
  let c := s.core (ckey k p)
  match c.cmd with
  | none => s
  | some cmd =>
    if (s.limitOf k cmd).isNone || c.expired || s.unitStopped (uTST k) then s
    else
      let u := uHAL (regionOfCluster k)
      if ending then s.count u HAL_TMO_LATE_COUNT
      else
        let d := s.descOf k cmd
        let t := (d.map (·.tclass)).getD 0
        let s := (s.updCore (ckey k p) (fun x => { x with expired := true })).count u HAL_TMO_CNT_COUNT
        let s := s.raiseOnce 0 0x8001 (puCore k p) (cmd * 2 ^ 18 + t) (s.ctxOfCmd k cmd * 2 ^ 16) (s.stepOfCmd k cmd)
        let s := s.trace k 5 0x30 (some p) d (cmd * 2 ^ 18 + t)
        { s with hangs := s.hangs ++ [(k, p, cmd)] }
/-- COMMAND_EXPIRE. -/
def execCommandExpire (k : ClusterId) (p : CoreId) (ending : Bool) (s : State) : Outcome State Fault Refusal :=
  .next (commandExpire s k.val p.val ending)
/-- The repeat that a command of context 0 is: withdrawn, with its result absent (R386). -/
def State.withdrawRunning (s : State) (k : Nat) : State :=
  match s.rqFind k 2 with
  | some (h, q) => s.withdrawRq k h q
  | none => s
/-- A cluster's suspects' cores are fenced and reset (R368 #3). -/
def State.resetSuspects (s : State) (k : Nat) (cs : List Nat) : State :=
  s.each ((s.running k).filter (fun e => cs.contains (s.ctxOfCmd k e.2))) (fun s e => s.coreReset k e.1 0)
/-- HANG_REPORT (R358, R361, R367-R369, R383, R386): the cluster's first report reaches the Hall. -/
def hangReport (s : State) (k : Nat) : State :=
  let r := regionOfCluster k
  match s.hangs.find? (fun h => h.1 == k) with
  | none => s
  | some h =>
    if (s.hall r).procHeld || s.stopped then s
    else
      let p := h.2.1
      let cmd := h.2.2
      let c := s.ctxOfCmd k cmd
      let step := s.stepOfCmd k cmd
      let t := (s.checker k).getD k
      let s : State := { s with hangs := (s.hangs.takeWhile (· != h)) ++ (s.hangs.dropWhile (· != h)).drop 1 }
      let s := (s.count (uTST t) TST_HANG_CNT_COUNT).bankCount k 17 1 none
      if s.widerReset k then s.addSuspects k [c]
      else if c = 0 then (s.coreReset k p 0).withdrawRunning k
      else if (s.ctx c).state = 2 ∨ (s.ctx c).killed then s.coreReset k p 0
      else match s.replayOf k with
        | x :: _ =>
          if x.cur = some c then
            let s := s.coreReset k p 0
            let s := s.updSet k (fun y => { y with guilty := y.guilty ++ [c], cur := none, started := false })
            let s := (s.count (uHAL r) HAL_HANG_CNT_GUILTY).raise 0x8011 (puHal r) (c * 2 ^ 16) step k
            (s.killCtx c 2 step k 1 0).replaysGo
          else if !x.noticed && s.resets.any (fun y => y.level == 1 && y.at_ / 1024 == k) then
            (s.addSuspects k [c]).coreReset k p 0
          else ((s.addSuspects k [c]).escalated (puTst k) 1 2 s.now).engineReset k 1
        | [] =>
          let n := (s.setsOf k).filter (fun w => decide (s.now < w + 600000000000))
          let cs := (s.runCtxs k ++ [c]).eraseDups
          let s := s.openSet k p cmd c step (sortBy (fun a b => decide (a ≤ b)) cs)
          if 2 ≤ n.length then
            let s := (s.escalated (puTst k) 1 2 s.now).engineReset k 3
            s.each (List.range 1024) (fun s i => s.updStpOf (puCore k i) (fun y => { y with first := true }))
          else s.resetSuspects k cs
/-- HANG_REPORT. -/
def execHangReport (k : ClusterId) (s : State) : Outcome State Fault Refusal := .next (hangReport (s.item (chTst k.val)) k.val)
/-- KILL_DONE (R362): no command of the first context under kill remains queued. -/
def killDone (s : State) (k : Nat) : State :=
  match (s.port k).killing with
  | [] => s
  | c :: rest =>
    let s := s.updPort k (fun x => { x with killing := rest })
    let gone := ((s.rplOf k).cmds.filter (fun x => !x.started && s.ctxOfCmd k x.cmd == c)).map (·.cmd)
    s.dropCmds k gone.contains
/-- KILL_DONE. -/
def execKillDone (k : ClusterId) (s : State) : Outcome State Fault Refusal := .next (killDone s k.val)
/-- CORE_RESET_ESCALATE (R361): a core reset, or the confirmation of a kill, is overdue. -/
def coreResetEscalate (s : State) (k p : Nat) : State :=
  if s.widerReset k then s
  else match s.resets.find? (fun x => x.level == 1 && x.at_ == ckey k p) with
    | some x => (s.escalated (puTap k p) 1 2 x.start).engineReset k 1
    | none => if (s.port k).killing.isEmpty then s else (s.escalated (puTst k) 1 2 (s.now - 200000)).engineReset k 1
/-- CORE_RESET_ESCALATE. -/
def execCoreResetEscalate (k : ClusterId) (p : CoreId) (s : State) : Outcome State Fault Refusal := .next (coreResetEscalate s k.val p.val)

/-- Entries of a cluster's map that name a core out of service, written anew: a free spare each, lowest first, or invalid (R262, R386, R519). -/
def State.mapRepairs (s : State) (k : Nat) : List (Nat × Nat) :=
  let out (p : Nat) : Bool := let u := s.unit (puCore k p); u.absent || u.off || u.fenced || u.perm
  let bad := ((s.mapped k).filter (fun e => out e.1)).map (·.2)
  let free := s.spares k
  (bad.zip (List.range bad.length)).map (fun x => (x.1, match free[x.2]? with | some q => q + 1024 | none => 0))
/-- Logical cores whose entries are invalid for want of a spare: 0x4022, and the policy as though it were Strict (R262). -/
def State.noSpares (s : State) (k : Nat) (fix : List (Nat × Nat)) : State :=
  s.each (fix.filter (fun e => e.2 == 0)) (fun s e => (s.raiseOnce 0 0x4022 (puTst k) e.1).drainWafer (puTst k))
/-- CLUSTER_RESET_DONE (R373 #4, #5): the cluster's SRAM, the adjudication scratch in it, queue and cores are clear; both tables are written and committed. -/
def clusterResetDone (s : State) (k : Nat) : State :=
  if !s.resets.any (fun x => x.level == 2 && x.at_ == k && x.step == 3) then s
  else
    let s : State := { s with
      resets := s.resets.map (fun x => if x.level = 2 ∧ x.at_ = k then { x with step := 5 } else x)
      hangs := s.hangs.filter (fun h => h.1 != k) }
    let s := (s.dropCmds k (fun _ => true)).updRplOf k (fun x => { x with scratch := [] })
    let fix := s.mapRepairs k
    let s := (s.updPort k (fun x => { x with clRst := false, killing := [], coreShadow := fix, commit := true })).noSpares k fix
    s.each ((Tab.range (1024 * k) (1024 * (k + 1)) s.cores).map (fun e => e.1 % 1024)) (fun s p =>
      if (s.runOf (puCore k p)).isSome then s
      else s.updCore (ckey k p) (fun c => { c with cmd := none, expired := false, stopped := false, fence := s.coreOut k p, rst := s.coreOut k p || c.rst }))
/-- CLUSTER_RESET_DONE. -/
def execClusterResetDone (k : ClusterId) (s : State) : Outcome State Fault Refusal := .next (clusterResetDone s k.val)
/-- RESET_DONE (R555, R365): the level, the scope and the contexts interrupted, 17 to a record. -/
def State.notifyReset (s : State) (level at_ : Nat) (cs : List Nat) : State :=
  s.notifyList 0x0015 0 (fun _ => [(level, 1), (0, 1), (at_, 2), (cs.length, 2)]) 17 cs
/-- An engine reset whose tables are in force is complete (R373 #6). -/
def State.engineDone (s : State) (k : Nat) : State :=
  match s.resets.find? (fun x => x.level == 2 && x.at_ == k && x.step == 5) with
  | none => s
  | some x =>
    let s : State := { s with resets := s.resets.filter (fun y => !(y.level == 2 && y.at_ == k)) }
    let s := (s.count (uTST k) TST_RST_ENGINE_COUNT).count (uHAL (regionOfCluster k)) HAL_RST_ENGINE_COUNT
    let s := s.raise 0x8020 (puTst k) x.cause ((s.now - x.start) / 1000) x.suspects.length
    let s := (s.notifyReset 2 k x.suspects).trace k 5 0x31 none none 18
    let s := s.updPort k (fun y => { y with absorb := false, hold := !(s.replayOf k).isEmpty || s.stopped, allow := 0 })
    ((s.replayGo k).showHold).rplRegion (regionOfCluster k)
/-- MAP_COMMIT_DONE (R99, R261, R373, R456). -/
def mapCommitDone (s : State) (k : Nat) : State := (s.mapCommitted k).engineDone k
/-- MAP_COMMIT_DONE. -/
def execMapCommitDone (k : ClusterId) (s : State) : Outcome State Fault Refusal := .next (mapCommitDone s k.val)

/-- The direction back from a neighbour. -/
def dirBack : Dir → Dir
  | .n => .s | .e => .w | .s => .n | .w => .e
/-- All directions, in the order of HL_ISO_N. -/
def allDirs : List Dir := [.n, .e, .s, .w]
/-- Neighbours' crossings toward a region absorb (R364). -/
def State.absorbToward (s : State) (r : Nat) : State :=
  s.each allDirs (fun s d => match regionTo r d with
    | some q => s.updHall q (fun h => { h with absorb := h.absorb.set (dirNo (dirBack d)) true })
    | none => s)
/-- The accounts of absorbed bytes of the region's Tasters and Doors go into HAL_ABS before those units reset (R365). -/
def State.closeAbsorbed (s : State) (r : Nat) : State :=
  let t := ((clustersOf r).map (fun k => s.cnt (uTST k) TST_ABS_BYTES)).sum
  let d := ((doorsOf r).map (fun n => s.cnt (uDOR n) DOR_BYTES_BYTES 4 + s.cnt (uDOR n) DOR_BYTES_BYTES 9)).sum
  s.count (uHAL r) HAL_ABS_BYTES (t + d)
/-- A cluster that neither its own Taster nor an adopter checks: it is held in reset (R341). -/
def State.orphan (s : State) (k : Nat) : Bool := !s.tstTrusted k && (s.adjOf k).adopter.isNone
/-- Neighbours of a region give no answer to the cases of others (R247, R270). -/
def State.neighboursGone (s : State) (r : Nat) : State :=
  s.each s.adj (fun s e => s.each (e.2.cases.filter (fun c => match c.asked with | some t => regionOfCluster t == r | none => false)) (fun s c =>
    neighbourTimeout s e.1 c.no))
/-- A region's processes end, as its reset or Shutter begins: steeps, cases, lower resets, swaps (R270, R340, R361). -/
def State.quietRegion (s : State) (r : Nat) : State :=
  let s := s.stpAbandonRegion r 1
  let s := s.each (clustersOf r) (fun s k => s.endCases k 4)
  let s : State := { s with resets := s.resets.filter (fun x => !((x.level == 1 && regionOfCluster (x.at_ / 1024) == r) || (x.level == 2 && regionOfCluster x.at_ == r)
    || (x.level == 3 && x.at_ == r))) }
  (s.each (clustersOf r) (fun s k => (s.updPort k (fun p => { p with hold := true, allow := 0, drain := some 2047, mig := none })).updSet k
    (fun x => { x with cur := none, started := false }))).neighboursGone r
/-- The region's Onasen units and host logic are reset, and tested; retraining is asked for (R374 #4-#6). -/
def State.partUnits (s : State) (r : Nat) (keep : Bool) : State :=
  let s : State := { s with resets := s.resets.map (fun x => if x.level = 3 ∧ x.at_ = r then { x with step := 6 } else x) }
  s.resetRegion r keep
/-- A partition reset starts (R361, R374, R382, R489); cause 1 escalation, 2 stall, 3 request, 4 return from LOST, 5 and 6
return from a Shutter, automatic and by an operator. While the Hall's processor restarts it waits (R499). -/
def State.startPart (s : State) (r cause : Nat) : State :=
  if s.resets.any (fun x => x.level == 4 || (x.level == 3 && x.at_ == r)) then s
  else if (s.hall r).procHeld then { s with resetsDue := s.resetsDue ++ [(3, r, cause)] }
  else
    let live := sortBy (fun a b => decide (a ≤ b)) ((clustersOf r).flatMap (fun k => s.liveCtxs k)).eraseDups
    let s := s.each (clustersOf r) (fun s k => s.addSuspects k (s.liveCtxs k))
    let s := (s.quietRegion r).hallAct r 4 r
    let s : State := { s with resets := s.resets ++ [⟨3, r, 2, cause, s.now, live, 0⟩] }
    let s := (s.each (clustersOf r) (fun s k => s.trace k 5 0x31 none none 3)).fwHold
    if 4 ≤ cause then (s.absorbToward r).partUnits r (cause != 4) else s.closeGates r 7
/-- The region's outgoing traffic has drained or its bound has passed (R374 #3-#6). -/
def State.partDrained (s : State) (r : Nat) : State :=
  if !s.resets.any (fun x => x.level == 3 && x.at_ == r && x.step == 2) then s
  else ((s.closeAbsorbed r).absorbToward r).partUnits r true
/-- The Brewhouse's copies of broadcast descriptors loaded into a Taster (R375). -/
def State.reloadDescs (s : State) (k : Nat) : State :=
  s.each s.descCopy (fun s e => (s.loadAt k (e.1 / 256) (e.1 % 256) e.2.length e.2).1)
/-- #9 of R374 in a cluster: the Brewhouse reloads its broadcast descriptors, and the host core image is broadcast from the region's store (R374, R375, R522). -/
def State.reloadCluster (s : State) (k : Nat) : State :=
  let s := s.reloadDescs k
  if s.fw.image = [] then s else s.emit (.bulk (puCel (4 * Config.host.north (regionOfCluster k) + 1)) (puTst k) s.fw.image)
/-- The same in a region; with no Brewhouse alive to answer, the Hall's request stands in its log (R59, R386). -/
def State.reloadRegion (s : State) (r : Nat) : State :=
  if s.bhAlive s.active then s.each (clustersOf r) (fun s k => s.reloadCluster k) else s.hallAsk r 18 r
/-- A region is back from LOST: its Hall runs the slot of the other Halls, and its accounts restart (R382, R424, R530). -/
def State.unlose (s : State) (r : Nat) : State :=
  let h := s.hall r
  if !h.lost then s
  else
    let s := s.updHall r (fun h => { h with lost := false })
    let v := s.rd uBRW BRW_LOST_REGIONS
    let s := s.wr uBRW BRW_LOST_REGIONS (if bit v r then v - 2 ^ r else v)
    let other := (((List.range Config.host.regions).filter (fun q => q != r && !s.regionLost q)).head?).getD r
    let slot := (s.proc other).slot
    let s := s.updProc r (fun p => { p with state := 0, slot := slot, next := slot, cause := 0, wdog := [] })
    ((s.raise 0x8034 s.puActive r ((s.now - h.lostAt) / 1000000)).unvoid 1 r).notifyRegion r 4
/-- The pages of a region's units read SHUTTERED, or no longer (R488). -/
def State.shutUnits (s : State) (r : Nat) (b : Bool) : State :=
  s.each ((clustersOf r).map puTst ++ (stacksOf r).map puCel ++ (doorsOf r).map puDor) (fun s p =>
    if puidKind p = 6 ∧ (s.door (puidMajor p)).shut then s else s.updUnit p (fun u => { u with shut := b }))
/-- A region is back from a Shutter (R489). -/
def State.unshut (s : State) (r cause : Nat) : State :=
  if !(s.hall r).shut then s
  else
    let at_ := (s.thmOf r).shutAt
    let s := (s.updHall r (fun h => { h with shut := false })).shutUnits r false
    let s := ((s.flag (uHAL r) HAL_THM_STAT_SHUT false).wr (uHAL r) HAL_THM_STAT_CAUSE 0)
    (s.raise 0x1012 s.puActive r ((s.now - at_) / 1000000) (if cause = 5 then 1 else 2)).notifyRegion r 2
/-- REGION_READY (R112, R264, R361, R374 #9-#10, R375, R406): the third reset of the region within 10 minutes leaves it SHUTTERED, and the operator's
request that brings such a region back starts the count anew (assumption 194). -/
def regionReady (s : State) (r : Nat) : State :=
  match s.resets.find? (fun x => x.level == 3 && x.at_ == r && x.step == 7) with
  | none => s
  | some x =>
    if s.regionHeld r then s
    else
      let s : State := { s with resets := s.resets.filter (fun y => !(y.level == 3 && y.at_ == r)) }
      let s := s.each (clustersOf r) (fun s k =>
        let fix := s.mapRepairs k
        (s.updPort k (fun p => { p with coreLive := fix.foldl (fun m e => Tab.insert e.1 e.2 m) p.coreLive, absorb := false, drain := none })).noSpares k fix)
      let s := s.reloadRegion r
      let s := s.each (clustersOf r) (fun s k => if s.tstTrusted k then s else s.adopt k)
      let s := (s.updHall r (fun h => { h with pgLoss := false, oc := false, resetAt := some s.now })).emergCheck
      let s := ((s.unlose r).unshut r x.cause).mapChanged
      let back := (s.hall r).shutReset && (x.cause == 3 || x.cause == 6)
      let n := if back then [s.now] else ((s.hall r).resets.filter (fun w => decide (s.now < w + 600000000000))) ++ [s.now]
      let third := decide (3 ≤ n.length)
      let s := s.updHall r (fun h => { h with resets := n, shutReset := third })
      let s := (s.count (uHAL r) HAL_RST_PART_COUNT).raise 0x8021 (puHal r) (if 5 ≤ x.cause then 3 else x.cause) ((s.now - x.start) / 1000000) x.failed
      let s := if third then ((s.shutUnits r true).raise 0x8026 (puHal r) r n.length).notifyRegion r 1 else if back then s.shutUnits r false else s
      let s := s.notifyReset 3 r x.suspects
      let s := s.each (clustersOf r) (fun s k =>
        (s.updPort k (fun p => { p with clRst := s.orphan k, hold := s.orphan k || third || s.stopped || !(s.replayOf k).isEmpty })).trace k 5 0x31 none none 19)
      (if third then s else s.each (clustersOf r) (fun s k => s.replayGo k)).showHold
/-- REGION_READY. -/
def execRegionReady (r : RegionId) (s : State) : Outcome State Fault Refusal := .next (regionReady s r.val)
/-- NEIGHBOUR_RESET_COMPLETE (R364, R386, R387): HL_ABSORB_N toward a neighbour whose reset is complete is released; what HL_ABS_BYTES has reported meanwhile
counts in the Hall's own account (assumption 195). -/
def neighbourResetComplete (s : State) (r : Nat) (d : Dir) (bytes : Nat) : State :=
  match regionTo r d with
  | none => s
  | some q =>
    if s.partReset q || s.regionLost q || s.regionShut q then s
    else (s.updHall r (fun h => { h with absorb := h.absorb.set (dirNo d) false })).count (uHAL r) HAL_ABS_BYTES
      (if (s.hall r).absorb.getD (dirNo d) false then bytes else 0)
/-- NEIGHBOUR_RESET_COMPLETE. -/
def execNeighbourResetComplete (r : RegionId) (d : Dir) (bytes : Nat) (s : State) : Outcome State Fault Refusal :=
  .next (neighbourResetComplete s r.val d bytes)
/-- ENGINE_RESET_ESCALATE (R361). -/
def engineResetEscalate (s : State) (k : Nat) : State :=
  match s.resets.find? (fun x => x.level == 2 && x.at_ == k) with
  | none => s
  | some x => (s.escalated (puTst k) 2 3 x.start).startPart (regionOfCluster k) 1
/-- ENGINE_RESET_ESCALATE. -/
def execEngineResetEscalate (k : ClusterId) (s : State) : Outcome State Fault Refusal := .next (engineResetEscalate s k.val)
/-- STALL_WATCHDOG (R359): disarmed while the region resets, is LOST or is SHUTTERED. -/
def stallWatchdog (s : State) (r : Nat) : State :=
  let inReset := s.resets.any (fun x => x.level == 4 || (x.level == 3 && x.at_ == r))
  if inReset || s.regionLost r || s.regionShut r then s
  else (s.raise 0x8002 (puHal r) r (s.hall r).cyc (s.rd (uHAL r) HAL_STALL_CFG_MS)).startPart r 2
/-- STALL_WATCHDOG. -/
def execStallWatchdog (r : RegionId) (s : State) : Outcome State Fault Refusal := .next (stallWatchdog s r.val)

/-- A chip reset begins, started by the active Brewhouse alone (R24, R361, R377): cause 1 escalation, 2 request; it supersedes every other reset and arms the watchdog. -/
def State.chipReset (s : State) (cause : Nat) : State :=
  if !s.bhAlive s.active || s.resets.any (fun x => x.level == 4) then s
  else
    let s := (s.raise 0x8022 s.puActive cause).wr uBRW BRW_RST_CHIP_COUNT (s.rd uBRW BRW_RST_CHIP_COUNT + 1)
    let s : State := { s with resets := [⟨4, 0, 1, cause, s.now, [], 0⟩], resetsDue := [], pad := { s.pad with armed := some s.now } }
    (s.each (List.range Config.host.regions) (fun s r => s.closeGates r 7)).fwHold
/-- The registers that flash holds through a restart (R351, R387-R389, R420, R539) and the sizes applied at it (R411, R467). -/
def State.flashRegs (s : State) : Tab Nat :=
  let one (m : Tab Nat) (u : Nat) (F : Fld) : Tab Nat := putReg m u F 0 (s.rd u F)
  let m := [BRW_RST_STAT_LAST, BRW_RST_STAT_PCWIN, BRW_RST_CHIP_COUNT, BRW_PWRCYC_COUNT, BRW_GRIST_ACTIVE_VERSION, BRW_GRIST_STAGED_VERSION,
    BRW_WAFER_Q_REPLACE, BRW_FW_STAGED_VER, BRW_FW_SVN_MIN, BRW_FW_STAT_TRIAL, BRW_FW_STAT_TRIES].foldl (fun m F => one m uBRW F) []
  let m := putReg (one m uPRV PRV_REC_CFG_MIB) uPRV PRV_REC_CFG_MIB 1 (s.rd uPRV PRV_REC_CFG_MIB)
  putReg (one m uLFT LFT_CFG_SIZE_GIB) uLFT LFT_CFG_SIZE_GIB 1 (s.rd uLFT LFT_CFG_SIZE_GIB)
/-- The channel fences that Cellars drive: a chip reset of the Cellars releases none (R78). -/
def State.fenceRegs (s : State) (m : Tab Nat) : Tab Nat :=
  (List.range nStacks).foldl (fun m c => if s.rd (uCEL c) CEL_CH_CTRL_FENCE = 0 then m else putReg m (uCEL c) CEL_CH_CTRL_FENCE 0 (s.rd (uCEL c) CEL_CH_CTRL_FENCE)) m
/-- The wafer restarts (R53, R257, R377, R511): every unit as after reset, with what flash, the pad logic and, but for a power-on, the
stacks, the time counters, the supplies and the clamps keep (R56, R113, R114); a STATE for which no table was found ends. Stage 1 of bring-up begins. -/
def State.restart (s : State) (power : Bool) : State :=
  let wall : BitVec 64 := if power then 0 else s.wall
  let r := State.reset
  let f := FwSt.start
  let hist := if power then s.histFlash else s.hist
  let beats := fkey uTMB TMB_BEAT_SEQ_SEQ 0
  { r with
    pending := s.pending, wall := wall, tickAt := wall.toNat, fresh := s.fresh, sent := s.sent, regs := if power then s.flashRegs else s.fenceRegs s.flashRegs
    refLost := if power then [] else s.refLost
    rcnt := if power then [] else putCnt [] beats (s.cnt uTMB TMB_BEAT_SEQ_SEQ), shown := if power then [] else putCnt [] beats (s.shownCnt uTMB TMB_BEAT_SEQ_SEQ)
    halls := if power then [] else (s.halls.map (fun e => (e.1, { hall0 e.1 with
      pg := e.2.pg, pgLoss := e.2.pgLoss && !e.2.pg, iso := e.2.iso, isoAt := e.2.isoAt, resetAt := e.2.resetAt }))).filter (fun e => decide (e.2 ≠ hall0 e.1))
    clocks := if power then [] else (s.clocks.map (fun e => (e.1, { clock0 e.1 with skew := e.2.skew, fix := e.2.fix, fixAt := e.2.fixAt }))).filter (fun e => decide (e.2 ≠ clock0 e.1))
    transit := if power then [] else s.transit
    mem := if power then Tab.range (2 ^ 40) (2 ^ 41) s.mem else s.mem
    hist := hist, histFlash := hist, attic := { s.attic with flash := if power then s.attic.flash else s.attic.flash ++ s.attic.staged, staged := [], nWall := if power then 0 else s.attic.nWall }
    units := (hist.filter (fun e => e.2.state != 0)).foldl (fun m e => Tab.upd unit0 m e.1 (fun u => { u with fenced := e.2.state == 1, perm := e.2.state == 2 }))
      ((s.units.map (fun e => (e.1, { unit0 e.1 with absent := e.2.absent }))).filter (fun e => decide (e.2 ≠ unit0 e.1)))
    variant := s.variant, chanMap := s.chanMap, voids := if power then [] else s.voids.filter (·.declared)
    ports := (List.range Config.host.clusters).map (fun k =>
      (k, { port0 k with base := (s.port k).base, coreLive := (s.port k).coreLive, hold := true }))
    cels := if power then [] else (List.range nStacks).map (fun c => (c, { cel0 c with saved := s.saveCel c, hold := true }))
    grist := ⟨if power then [] else s.grist.active, []⟩
    stp := s.stp.map (fun e => (e.1, { stpOf0 e.1 with lastOp := e.2.lastOp }))
    pad := { s.pad with armed := if power then none else s.pad.armed, allow := if power then 0 else s.pad.allow }
    dbg := if power then DbgSt.start else { DbgSt.start with ir := s.dbg.ir, resp := if s.dbg.busy then (s.dbg.resp.1, s.dbg.resp.2.1, 6, s.dbg.resp.2.2.2) else s.dbg.resp }
    fw := { f with boot := s.fw.boot, trial := s.fw.trial, tries := s.fw.tries, valid := s.fw.valid, hostboot := s.fw.hostboot
                   mapVer := s.fw.mapVer, cold := power, stage := 1, bootAt := wall.toNat } }
/-- The wafer's egress has drained or its bound has passed (R377 #2-#4): what is staged reaches flash, a running replay ends
unfinished (R471), and the wafer restarts. -/
def State.chipDrained (s : State) : State :=
  if !s.resets.any (fun x => x.level == 4) then s
  else
    let s := match s.prv.replay with
      | some x => s.raise 0xD023 s.puActive x.delivered 2 x.bad
      | none => s
    s.restart false
/-- PARTITION_RESET_ESCALATE (R361): the Hall asks for a chip reset; with no Brewhouse alive to start it, the request stands in its log (R59, R386). -/
def partitionResetEscalate (s : State) (r : Nat) : State :=
  match s.resets.find? (fun x => x.level == 3 && x.at_ == r) with
  | none => s
  | some x => ((s.escalated (puHal r) 3 4 x.start).hallAsk r 17 r).chipReset 1
/-- PARTITION_RESET_ESCALATE. -/
def execPartitionResetEscalate (r : RegionId) (s : State) : Outcome State Fault Refusal := .next (partitionResetEscalate s r.val)
/-- What a scope absorbs from the end of its drain on (R363, R365): its bytes in TST_ABS; the contexts of the blocks are reported as interrupted when the reset
completes, and join the cluster's replay set at engine level. At partition level the neighbours absorb, and their Halls count (R364). -/
def State.absorbedAt (s : State) (sc : Scope) (bytes : Nat) (cs : List Nat) : State :=
  let note (s : State) (level at_ : Nat) : State :=
    { s with resets := s.resets.map (fun x => if x.level = level ∧ x.at_ = at_ then { x with suspects := (x.suspects ++ cs).eraseDups } else x) }
  match sc with
  | .core k p => if s.resets.any (fun x => x.level == 1 && x.at_ == ckey k.val p.val) then (note s 1 (ckey k.val p.val)).count (uTST k.val) TST_ABS_BYTES bytes else s
  | .cluster k =>
    if s.resets.any (fun x => x.level == 2 && x.at_ == k.val) then ((note s 2 k.val).addSuspects k.val cs).count (uTST k.val) TST_ABS_BYTES bytes else s
  | .region r => note s 3 r.val
  | .wafer => s
/-- A drain ends (R366), and absorbing begins. -/
def drainEnd (s : State) (sc : Scope) (bytes : Nat) (cs : List Nat) : State :=
  match sc with
  | .core k p => (s.coreDrained k.val p.val).absorbedAt sc bytes cs
  | .cluster k => (s.engineDrained k.val).absorbedAt sc bytes cs
  | .region r => (s.partDrained r.val).absorbedAt sc bytes cs
  | .wafer => s.chipDrained
/-- DRAIN_COMPLETE (R366): TS_DRAINED or its equivalent has risen. -/
def execDrainComplete (sc : Scope) (bytes : Nat) (ctxs : List Ctx) (s : State) : Outcome State Fault Refusal :=
  .next (drainEnd s sc bytes (ctxs.map (·.toNat)))
/-- DRAIN_BOUND (R366): the bound has passed. -/
def execDrainBound (sc : Scope) (bytes : Nat) (ctxs : List Ctx) (s : State) : Outcome State Fault Refusal :=
  .next (drainEnd s sc bytes (ctxs.map (·.toNat)))

end Sys2Proof.Machine
end

