-- ==== Sys2Proof/Machine/Thermal.lean ====
section
/-! DEFINITION. Sensors, kiln bands, throttle ladders, the power cap, hard limits and the Shutter (R476-R497, R337). -/
namespace Sys2Proof.Machine
open Sys2Proof Host

/-- Keys of a region's sensors. -/
def sensorsOf (r : Nat) : List Nat :=
  (Config.host.fieldsOf r).flatMap (fun f => ((List.range 16).filter (sensorThere f)).map (16 * f + ·))
/-- A sensor works (R477). -/
def State.sensorOk (s : State) (i : Nat) : Bool := (s.sensor i).broken == 0
/-- The region's sensor that reads hottest. -/
def State.hottest (s : State) (r : Nat) : Nat :=
  (sensorsOf r).foldl (fun b i => if (s.sensor b).temp < (s.sensor i).temp then i else b) ((sensorsOf r).headD 0)
/-- A reading as a parameter word. -/
def tempWord (t : Int) : Nat := (t % 2 ^ 32).toNat

/-- Junction limit in °C; 115 until the variant record has set it (R478, R487). -/
def State.tj (s : State) : Nat := let v := s.rd uTHM THM_LIM_TJ_TJ; if v = 0 then 115 else v
/-- Lower bound of a band in 1/16 °C (R478). -/
def State.bandBound (s : State) (k : Nat) : Int :=
  match k with
  | 1 => 720
  | 2 => 1200
  | 3 => 1520
  | 4 => 1680
  | _ => 16 * (s.tj : Int)
/-- The highest band whose bound a value reaches. -/
def State.bandAt (s : State) (t : Int) : Nat := ((List.range 6).filter (fun k => k == 0 || decide (s.bandBound k ≤ t))).foldl max 0
/-- A sensor's band after two consecutive readings (R478). -/
def State.bandNext (s : State) (band : Nat) (prev new : Int) : Nat :=
  let up := s.bandAt (min prev new)
  if band < up then up
  else if 0 < band ∧ max prev new < s.bandBound band - 48 then s.bandAt (new + 48)
  else band
/-- Temperature of a raw count: linear between the calibration points that enclose it, along the nearest segment beyond
them, to the nearest unit (R476). -/
def interpolate (cal : List (Int × Nat)) (raw : Nat) : Option Int :=
  match cal with
  | [(t1, n1), (t2, n2), (t3, n3)] =>
    let seg (ta : Int) (na : Nat) (tb : Int) (nb : Nat) : Int :=
      let d := (na : Int) - nb
      ta + (2 * ((tb - ta) * ((na : Int) - raw)) + d) / (2 * d)
    if n2 ≤ raw then some (seg t1 n1 t2 n2) else some (seg t2 n2 t3 n3)
  | _ => none

/-- Deepest level of a method: Divide 3, Skip 7 (R481). -/
def deepest (m : Nat) : Nat := if m = 0 then 3 else 7
/-- First level of a ladder (R482). -/
def entryLevel (m : Nat) : Nat := if m = 0 then 1 else 4
/-- A record of the region's throttle and the Taster's kiln band (R413). -/
def State.throttleTrace (s : State) (k : Nat) : State :=
  let u := uHAL (regionOfCluster k)
  s.trace k 6 0x40 none none (s.rd u HAL_THM_STAT_LEVEL + s.rd u HAL_THM_STAT_METHOD * 8 + s.sensorBand (16 * (k / 10) + k % 10) * 16)
/-- The throttle at the deepest of the three requests; a change is driven, told and acknowledged (R481, R483, R484); a
written method takes effect when every request is at level 0. -/
def State.driveThr (s : State) (r : Nat) : State :=
  let u := uHAL r
  let x := s.thmOf r
  let m := s.rd u HAL_THM_STAT_METHOD
  let limit := !x.trips.isEmpty || (s.hall r).shut
  let lvl := max (max x.bandLvl x.capLvl) (if limit then deepest m else 0)
  let m' := if lvl = 0 then s.rd u HAL_THM_CFG_METHOD else m
  let old := m * 2 ^ 11 + s.rd u HAL_THM_STAT_LEVEL * 2 ^ 8
  let new := m' * 2 ^ 11 + lvl * 2 ^ 8
  let s := ((s.flag u HAL_THM_STAT_REQ_LIMIT limit).flag u HAL_THM_STAT_REQ_CAP (x.capLvl != 0)).flag u HAL_THM_STAT_REQ_BAND (x.bandLvl != 0)
  if old = new then s
  else
    let req := (if limit then 64 else 0) + (if x.capLvl = 0 then 0 else 32) + (if x.bandLvl = 0 then 0 else 16)
    let s := ((s.wr u HAL_THM_STAT_METHOD m').wr u HAL_THM_STAT_LEVEL lvl).hallAct r 6 lvl
    let s := match x.lvlAt with
      | some t => if lvl = 0 then s.count u HAL_THR_TIME_US ((s.now - t) / 1000) else s
      | none => s
    let s := s.updThmOf r (fun y => { y with waiting := true, lvlAt := if lvl = 0 then none else if y.lvlAt.isSome then y.lvlAt else some s.now })
    let s := s.each (clustersOf r) (fun s k => s.throttleTrace k)
    s.raiseOnce 0 0x1010 (puHal r) old new req
/-- THROTTLE_ACK (R484). -/
def execThrottleAck (r : RegionId) (s : State) : Outcome State Fault Refusal := .next (s.updThmOf r.val (fun y => { y with waiting := false }))
/-- THROTTLE_ACK_TIMEOUT (R484): the setting is driven again; NOACK and 0x1010 with a late acknowledgement. -/
def throttleAckTimeout (s : State) (r : Nat) : State :=
  if !(s.thmOf r).waiting then s
  else
    let u := uHAL r
    let v := s.rd u HAL_THM_STAT_METHOD * 2 ^ 11 + s.rd u HAL_THM_STAT_LEVEL * 2 ^ 8
    let b (F : Fld) (n : Nat) := if s.isSet u F then n else 0
    (s.flag u HAL_THM_STAT_NOACK true).raiseOnce 0 0x1010 (puHal r) v v
      (128 + b HAL_THM_STAT_REQ_LIMIT 64 + b HAL_THM_STAT_REQ_CAP 32 + b HAL_THM_STAT_REQ_BAND 16)
/-- THROTTLE_ACK_TIMEOUT. -/
def execThrottleAckTimeout (r : RegionId) (s : State) : Outcome State Fault Refusal := .next (throttleAckTimeout s r.val)

/-- The region's band: the highest of its working sensors, each broken one as K4; K5 with none working (R479). -/
def State.regionBandNow (s : State) (r : Nat) : Nat :=
  let l := sensorsOf r
  if l.all (fun i => !s.sensorOk i) then 5 else (l.map s.sensorBand).foldl max 0
/-- A region's sensors may have changed: its band and all that follows from it (R479-R482, R486, R492, R340, R497). -/
def State.regionThm (s : State) (r : Nat) : State :=
  let u := uHAL r
  let old := s.rd u HAL_THM_STAT_BAND
  let new := s.regionBandNow r
  let ok := ((sensorsOf r).filter s.sensorOk).length
  let had := s.rd u HAL_THM_STAT_WORKING
  let s := s.wr u HAL_THM_STAT_WORKING ok
  let s := if ok = 0 ∧ had ≠ 0 then s.raise 0x1004 (puHal r) r else s
  let s := s.updThmOf r (fun y => { y with trips := y.trips.filter (fun l => !(l == 1 && decide (new < 5)) && !(l == 2 && decide (0 < ok))) })
  let s := if old = new then s
    else
      let s := s.wr u HAL_THM_STAT_BAND new
      let p := puSensor (s.hottest r / 16) (s.hottest r % 16)
      let s := if 4 ≤ old ∨ 4 ≤ new then s.raise 0x1001 (puHal r) old new p else s.raiseOnce 0 0x1001 (puHal r) old new p
      let s := if new = 5 then s.stpAbandonRegion r 5 else s
      if new = 4 then s.updThmOf r (fun y => { y with bandLvl := if y.bandLvl = 0 then entryLevel (s.rd u HAL_THM_STAT_METHOD) else y.bandLvl }) else s
  (s.driveThr r).emergCheck
/-- A Cellar whose own sensor asks for more drives the higher refresh multiplier at once (R307). -/
def State.multUp (s : State) (i : Nat) : State :=
  if 10 ≤ i % 16 ∧ i % 16 < 14 then
    let c := 4 * (i / 16) + (i % 16 - 10)
    if s.rd (uCEL c) CEL_STAT_REFMULT < refMult (s.celBand c) then s.setMult c (refMult (s.celBand c)) else s
  else s
/-- A sensor breaks: 0x1002 with its reason, and its Cellar counts it as K4 (R307, R477). -/
def State.sensorBreak (s : State) (i reason : Nat) : State :=
  let x := s.sensor i
  ((s.updSensor i (fun x => { x with broken := reason, good := 0, periods := 0 })).raise 0x1002 (puSensor (i / 16) (i % 16)) reason (tempWord x.temp) x.raw).multUp i
/-- SENSOR_READING (R476-R479): raw count, temperature, band; what breaks the sensor; its Cellar's refresh multiplier; its region. -/
def sensorReading (s : State) (f i raw : Nat) : State :=
  let n := 16 * f + i
  if !sensorThere f i then s
  else
    let x := s.sensor n
    let same := if x.read && x.raw == raw then x.sameAt else s.now
    let old := s.sensorBand n
    let s := match (Tab.find (puSensor f i) s.fw.cal).bind (fun c => interpolate c raw) with
      | none =>
        let s := s.updSensor n (fun x => { x with read := true, raw := raw, sameAt := same })
        if x.broken = 0 then s.sensorBreak n 5 else s
      | some t =>
        let prev := if x.read then x.temp else t
        let s := s.updSensor n (fun x => { x with read := true, temp := t, raw := raw, sameAt := same, band := if x.read then s.bandNext x.band prev t else x.band })
        let bad := decide (t < -640 ∨ 2400 < t)
        if x.broken ≠ 0 then (if bad then s.updSensor n (fun x => { x with good := 0 }) else s)
        else if bad then s.sensorBreak n 1
        else if same + 1000000000 ≤ s.now ∧ x.read then s.sensorBreak n 2
        else s
    let s := s.multUp n
    let s := if i < 10 ∧ s.sensorBand n ≠ old then s.throttleTrace (10 * f + i) else s
    s.regionThm (regionOfField f)
/-- SENSOR_READING. -/
def execSensorReading (f : FieldId) (i : Fin 16) (raw : BitVec 16) (s : State) : Outcome State Fault Refusal :=
  .next (sensorReading s f.val i.val raw.toNat)

/-- A sensor passes the checks of a period (R337, R477): two passed in a row bring a broken one back, but for reason 5. -/
def State.sensorPass (s : State) (i : Nat) : State :=
  let x := s.sensor i
  if x.broken = 0 ∨ x.broken = 5 then s
  else if x.good = 0 then s.updSensor i (fun x => { x with good := 1, periods := x.periods + 1 })
  else
    let s := s.updSensor i (fun x => { x with broken := 0, good := 0, periods := 0, sameAt := s.now })
    (s.raise 0x1003 (puSensor (i / 16) (i % 16)) (x.periods + 1)).regionThm (regionOfField (i / 16))
/-- Key, PUID, test code and failure reason of an analogue part's check; reason 0 is a pass (R337, R353). -/
def anaKey : Analogue → Nat
  | .sensor f i => 16 * f.val + i.val
  | .rail r => 65536 + r.val
  | .flagCell r c => 131072 + 8 * r.val + c.val
/-- Twice the distance, in 1/16 °C, of a sensor from the median of its field's other sensors that work and have been read; the median of an even number is the mean of
the middle two (R337; DESIGN CHOICE, assumption 204), and none is no distance. -/
def State.offMedian (s : State) (f i : Nat) : Nat :=
  let l := sortBy (fun (a b : Int) => decide (a ≤ b)) (((List.range 16).filter (fun j => j != i && sensorThere f j && s.sensorOk (16 * f + j) && (s.sensor (16 * f + j)).read)).map
    (fun j => (s.sensor (16 * f + j)).temp))
  let n := l.length
  if n = 0 then 0 else (2 * (s.sensor (16 * f + i)).temp - (l.getD ((n - 1) / 2) 0 + l.getD (n / 2) 0)).natAbs
/-- The reason of a failed check (R337, R353). -/
def State.anaReason (s : State) : Analogue → AnaResult → Nat
  | .sensor f i, x => if x.refCount ≠ 1000 then 3 else if (s.sensor (16 * f.val + i.val)).read && decide (480 < s.offMedian f.val i.val) then 5 else 0
  | .rail _, x => if 15 < x.spread then 5 else 0
  | .flagCell _ _, x => if x.misread then 6 else 0
/-- The unit of an analogue part. -/
def anaUnit : Analogue → Nat
  | .sensor f i => puSensor f.val i.val
  | .rail r => puSupply r.val 1
  | .flagCell r _ => puSupply r.val 0
/-- ANALOGUE_CHECK (R14, R337): a part that fails is checked again after 1 s; of a part that the configuration lacks there is no check. -/
def analogueCheck (s : State) (part : Analogue) (x : AnaResult) : State :=
  let k := anaKey part
  if !puidOk (anaUnit part) then s
  else if s.anaReason part x = 0 then match part with
    | .sensor f i => s.sensorPass (16 * f.val + i.val)
    | _ => s
  else
    let s : State := { s with ana := if s.ana.contains k then s.ana else s.ana ++ [k] }
    match part with
    | .sensor f i => s.updSensor (16 * f.val + i.val) (fun y => if y.broken = 0 then y else { y with good := 0, periods := y.periods + 1 })
    | _ => s
/-- ANALOGUE_CHECK. -/
def execAnalogueCheck (part : Analogue) (res : AnaResult) (s : State) : Outcome State Fault Refusal := .next (analogueCheck s part res)
/-- ANALOGUE_RECHECK (R337, R338): the second failure counts: history entry, 0x7001, a sensor is broken for reason 3 or 4, and
an input cell is set aside. -/
def analogueRecheck (s : State) (part : Analogue) (x : AnaResult) : State :=
  let k := anaKey part
  if !s.ana.contains k then s
  else
    let why := s.anaReason part x
    let s : State := { s with ana := s.ana.filter (· != k) }
    if why = 0 then s
    else
      let s := s.stpFailed (anaUnit part) (match part with | .sensor _ _ => 8 | _ => 9) 0 why 0
      match part with
      | .sensor f i =>
        let n := 16 * f.val + i.val
        if (s.sensor n).broken ≠ 0 then s else (s.sensorBreak n (if why = 3 then 3 else 4)).regionThm (regionOfField f.val)
      | .flagCell r c => s.updHall r.val (fun h => { h with cellsOut := if h.cellsOut.contains c.val then h.cellsOut else h.cellsOut ++ [c.val] })
      | .rail _ => s
/-- ANALOGUE_RECHECK. -/
def execAnalogueRecheck (part : Analogue) (res : AnaResult) (s : State) : Outcome State Fault Refusal := .next (analogueRecheck s part res)

/-- The cap's ladder at another level: 0x1040 (R485, R496). -/
def State.setCap (s : State) (r lvl : Nat) : State :=
  if lvl = (s.thmOf r).capLvl then s
  else (s.updThmOf r (fun y => { y with capLvl := lvl })).raiseOnce 0 0x1040 (puHal r) (s.rd (uHAL r) HAL_PWR_EST_W) (s.rd (uHAL r) HAL_PWR_BUDGET_W) lvl
/-- A level one deeper: the entry level from 0, and no deeper than the deepest (R482). -/
def deeper (m lvl : Nat) : Nat := if lvl = 0 then entryLevel m else min (deepest m) (lvl + 1)
/-- LADDER_DEEPEN (R482): the cause has persisted for 10 ms. -/
def ladderDeepen (s : State) (r : Nat) (l : Ladder) : State :=
  let m := s.rd (uHAL r) HAL_THM_STAT_METHOD
  let x := s.thmOf r
  match l with
  | .band => if s.rd (uHAL r) HAL_THM_STAT_BAND = 4 then (s.updThmOf r (fun y => { y with bandLvl := deeper m y.bandLvl })).driveThr r else s
  | .cap => if x.capCause then (s.setCap r (deeper m x.capLvl)).driveThr r else s
/-- LADDER_DEEPEN. -/
def execLadderDeepen (r : RegionId) (l : Ladder) (s : State) : Outcome State Fault Refusal := .next (ladderDeepen s r.val l)
/-- LADDER_RELEASE (R482, R483): the cause has been gone for 100 ms. -/
def ladderRelease (s : State) (r : Nat) (l : Ladder) : State :=
  let x := s.thmOf r
  match l with
  | .band => if s.rd (uHAL r) HAL_THM_STAT_BAND = 4 then s else (s.updThmOf r (fun y => { y with bandLvl := y.bandLvl - 1 })).driveThr r
  | .cap => if x.capCause then s else (s.setCap r (x.capLvl - 1)).driveThr r
/-- LADDER_RELEASE. -/
def execLadderRelease (r : RegionId) (l : Ladder) (s : State) : Outcome State Fault Refusal := .next (ladderRelease s r.val l)

/-- Watts of Onasen at full load in a posture (R73). -/
def postureWatts : Posture → Nat
  | .strong => 3100
  | .session => 2400
  | .small => 1500
/-- What a running total has gained since it was last read; a unit's reset restarts its counters. -/
def gained (last now : Nat) : Nat := if last ≤ now then now - last else now
/-- POWER_ESTIMATE (R1, R485): the region's watts over the last 1 ms, with one region's share of Onasen's own, a forty-second of the reference host, and the cap's cause. -/
def powerEstimate (s : State) (r : Nat) : State :=
  match s.variant.power with
  | none => s
  | some (idle, pjProd, pjL1, pjL2, _) =>
    let core := match s.active with | .a => 65 | .b => 73
    if s.procDown core then s
    else
      let x := s.thmOf r
      let l1 := ((clustersOf r).map (fun k => s.cnt (uTST k) TST_L1_RD_BYTES + s.cnt (uTST k) TST_L1_WR_BYTES)).sum
      let l2 := ((stacksOf r).flatMap (fun c => (List.range 16).map (fun ch => s.cnt (uCEL c) CEL_BYTES_DELIV ch + s.cnt (uCEL c) CEL_BYTES_WRITTEN ch))).sum
      let pj := gained x.lastProd x.prod * pjProd + gained x.lastL1 l1 * pjL1 + gained x.lastL2 l2 * pjL2
      let w := min 65535 (((idle * 1000000000 + pj) * nRegions + postureWatts (s.posture r) * 1000000000) / (nRegions * 1000000000))
      let budget := s.rd (uHAL r) HAL_PWR_BUDGET_W
      let overN := if budget < w then x.overN + 1 else 0
      let low := if 10 * w < 9 * budget then (match x.lowAt with | some t => some t | none => some s.now) else none
      let ends := match low with | some t => decide (t + 100000000 ≤ s.now) | none => false
      let cause := (x.capCause && !ends) || decide (3 ≤ overN)
      let s := (s.wr (uHAL r) HAL_PWR_EST_W w).updThmOf r (fun y => { y with
        overN := overN, lowAt := low, capCause := cause, lastProd := x.prod, lastL1 := l1, lastL2 := l2 })
      if cause && x.capLvl == 0 then (s.setCap r (entryLevel (s.rd (uHAL r) HAL_THM_STAT_METHOD))).driveThr r else s
/-- POWER_ESTIMATE. -/
def execPowerEstimate (r : RegionId) (s : State) : Outcome State Fault Refusal := .next (powerEstimate s r.val)

/-- Steps 2 to 5 of R488: deepest throttle, gate cells withhold, holds, context kills, egress drained and absorbed, and
the host logic in reset. A partition reset of the region stops (R493). -/
def State.shutRegion (s : State) (r cause : Nat) : State :=
  if (s.hall r).shut || (s.hall r).lost then s
  else
    let cs := sortBy (fun a b => decide (a ≤ b)) ((clustersOf r).flatMap (fun k => s.liveCtxs k)).eraseDups
    let s := (s.updHall r (fun h => { h with shut := true })).hallAct r 7 cause
    let s := (s.driveThr r).closeGates r 7
    let s := s.quietRegion r
    let s := s.each cs (fun s c =>
      let k := ((clustersOf r).find? (fun k => (s.liveCtxs k).contains c)).getD 0
      (s.killCtx c 6 0 k 1 0).raise 0x8060 (puHal r) (c * 2 ^ 16) 3 r)
    let s := s.absorbToward r
    let s := s.each (stacksOf r) (fun s c => s.updCel c (fun x => { x with hold := true }))
    let s := s.each (clustersOf r) (fun s k =>
      let s := s.each (s.running k) (fun s e => s.loseCommand k e.1)
      let s := (s.updRplOf k (fun x => { x with cmds := [], units := [] })).updReplayOf k (fun _ => [])
      { s with hangs := s.hangs.filter (fun h => h.1 != k) })
    let s := s.each (doorsOf r) (fun s n => s.updDoor n (fun d => { d with lanes := 0 }))
    let s := (((s.flag (uHAL r) HAL_THM_STAT_SHUT true).wr (uHAL r) HAL_THM_STAT_CAUSE cause).count (uHAL r) HAL_LIM_TRIP_SHUT).updThmOf r
      (fun y => { y with shutAt := s.now, shuts := y.shuts.filter (fun t => decide (s.optime < t + 98304)) ++ [s.optime] })
    let s := s.raise 0x1011 (puHal r) cause (tempWord (s.sensor (s.hottest r)).temp) cs.length
    ((s.shutUnits r true).notifyRegion r 1).emergCheck
/-- Code of a limit (R496). -/
def limitNo : Limit → Nat
  | .junction => 1
  | .noSensor => 2
  | .supplyLow => 3
  | .supplyHigh => 4
  | .clockRatio => 5
/-- LIMIT_TRIP (R486, R488, R481): 0x1020; a clock-ratio trip only drives the deepest level. -/
def limitTrip (s : State) (r : Nat) (l : Limit) (measured : Nat) : State :=
  if (s.hall r).lost then s
  else
    let n := limitNo l
    let u := uHAL r
    let src := match l with
      | .junction => puSensor (s.hottest r / 16) (s.hottest r % 16)
      | .supplyLow => puSupply r 1
      | .supplyHigh => puSupply r 1
      | _ => puHal r
    let lim := match l with
      | .junction => s.tj
      | .noSensor => 0
      | .supplyLow => s.rd uTHM THM_LIM_VDD_VMIN
      | .supplyHigh => s.rd uTHM THM_LIM_VDD_VMAX
      | .clockRatio => s.rd uTHM THM_LIM_CLK_CYC
    let F := match l with
      | .junction => HAL_LIM_TRIP_TJ
      | .noSensor => HAL_LIM_TRIP_TJ
      | .clockRatio => HAL_LIM_TRIP_CLK
      | _ => HAL_LIM_TRIP_VDD
    let s := (s.updThmOf r (fun y => { y with trips := if y.trips.contains n then y.trips else y.trips ++ [n] })).count u F
    let s := ((s.raise 0x1020 src n measured lim).driveThr r).emergCheck
    if n = 5 then s else s.shutRegion r n
/-- LIMIT_TRIP. -/
def execLimitTrip (r : RegionId) (l : Limit) (measured : Nat) (s : State) : Outcome State Fault Refusal := .next (limitTrip s r.val l measured)
/-- CLOCK_RATIO_PERSIST (R486): the excess has lasted 100 µs at the deepest level. -/
def clockRatioPersist (s : State) (r count : Nat) : State :=
  if (s.thmOf r).trips.contains 5 then (s.updThmOf r (fun y => { y with clkOver := count })).shutRegion r 5 else s
/-- CLOCK_RATIO_PERSIST. -/
def execClockRatioPersist (r : RegionId) (count : Nat) (s : State) : Outcome State Fault Refusal := .next (clockRatioPersist s r.val count)
/-- SHUTTER_RETURN (R489): every comparator has been clear for 10 s; a first Shutter within 24 h of operating time returns by itself. -/
def shutterReturn (s : State) (r : Nat) : State :=
  if !(s.hall r).shut then s
  else
    let s := (s.clearTrips r).updThmOf r (fun y => { y with clearAt := s.now })
    let x := s.thmOf r
    if !x.trips.isEmpty ∨ 3 < s.rd (uHAL r) HAL_THM_STAT_BAND ∨ 1 < x.shuts.length then s
    else s.startPart r 5
/-- SHUTTER_RETURN. -/
def execShutterReturn (r : RegionId) (s : State) : Outcome State Fault Refusal := .next (shutterReturn s r.val)

/-- A limit tightened from one value to another: 0x1021. -/
def State.tighten (s : State) (F : Fld) (n new : Nat) : State :=
  (s.raise 0x1021 s.puActive n (s.rd uTHM F) new).wr uTHM F new
/-- LIMIT_TIGHTEN (R487, R493): a write that loosens a limit or leaves its floor is ignored; a junction limit below a
present reading trips at once. -/
def limitTighten (s : State) (off data : Nat) : State :=
  if off = 0x54 then
    let v := data % 256
    if v < s.tj ∧ 105 ≤ v then
      let s := s.tighten THM_LIM_TJ_TJ 1 v
      let hot := (List.range Config.host.regions).filter (fun r => (sensorsOf r).any (fun i =>
        (s.sensor i).read && s.sensorOk i && decide (16 * (v : Int) ≤ (s.sensor i).temp)))
      s.each hot (fun s r =>
        let s := s.each (sensorsOf r) (fun s i =>
          if (s.sensor i).read && s.sensorOk i && decide (16 * (v : Int) ≤ (s.sensor i).temp) then (s.updSensor i (fun x => { x with band := 5 })).multUp i else s)
        limitTrip (s.regionThm r) r .junction (tempWord (s.sensor (s.hottest r)).temp))
    else s
  else if off = 0x58 then
    let lo := data % 65536
    let hi := data / 65536
    let s := if s.rd uTHM THM_LIM_VDD_VMIN < lo ∧ lo ≤ 700 then s.tighten THM_LIM_VDD_VMIN 3 lo else s
    if hi < s.rd uTHM THM_LIM_VDD_VMAX ∧ 800 ≤ hi then s.tighten THM_LIM_VDD_VMAX 4 hi else s
  else if off = 0x5C then
    let v := data % 65536
    if v < s.rd uTHM THM_LIM_CLK_CYC ∧ s.variant.nominal ≤ v then s.tighten THM_LIM_CLK_CYC 5 v else s
  else s

end Sys2Proof.Machine
end

