-- ==== Sys2Proof/Machine/Firmware.lean ====
section
/-! DEFINITION. Firmware bundles, host images, processor restarts, activations and rollbacks (R498-R500, R504, R505, R521, R527-R538). -/
namespace Sys2Proof.Machine
open Sys2Proof Host

/-- The component table meets R504. -/
def compsOk (b : List Byte) (h : BundleHead) : Bool :=
  let es := (List.range h.components).map (compAt b)
  let count (k : Nat) := (es.filter (fun e => e.1 == k)).length
  decide (5 ≤ h.components ∧ h.components ≤ 8)
    && es.all (fun e => decide (1 ≤ e.1 ∧ e.1 ≤ 15 ∧ e.2.1 + e.2.2 ≤ h.length) && (e.1 != 4 || decide (e.2.2 ≤ 1048576)))
    && (List.range 16).all (fun k => if 1 ≤ k ∧ k ≤ 5 then count k == 1 else decide (count k ≤ 1))
    && (List.range h.components).all (fun i => zeroAt b (257 + 16 * i) 3)
/-- The vendor key digests that the ROM holds (R505): constants of the ROM. -/
def vkd (i : Nat) : Nat := Config.imageVal 0x505 i % 2 ^ 384
/-- MAGIC, FORMAT and the reserved fields of a bundle. -/
def bundleForm (b : List Byte) (h : BundleHead) : Bool :=
  Sys2Proof.slice b 0 4 == [0x4F#8, 0x4E#8, 0x46#8, 0x57#8] && h.format == 1 && zeroAt b 26 6 && zeroAt b 224 32
/-- The vendor key is one the ROM knows. -/
def vendorOk (b : List Byte) : Bool := let d := sha384 (Sys2Proof.slice b 32 96); d == vkd 0 || d == vkd 1
/-- Why a received bundle is rejected, 0 when it passes (R527): bytes in the slot, bytes received, minimum SVN, running INTKEY. -/
def bundleReason (b : List Byte) (received svn intkey : Nat) : Nat :=
  let h := bundleHead b
  let b := b.take h.length
  if fwBytes < h.length ∨ h.length ≠ received then 1
  else if !bundleForm b h then 2
  else if h.config ≠ Config.host.fields then 3
  else if !vendorOk b then 4
  else if !sigOk h.vendor (b.take (h.length - 96)) (b.drop (h.length - 96)) then 5
  else if h.svn < svn then 6
  else if h.intkey ≠ intkey then 7
  else if !compsOk b h then 8
  else 0
/-- The ROM accepts a bundle (R505). -/
def romAccepts (b : List Byte) (svn : Nat) : Bool :=
  let h := bundleHead b
  let b := b.take h.length
  decide (h.length ≤ fwBytes) && bundleForm b h && h.config == Config.host.fields && vendorOk b
    && sigOk h.vendor (b.take (h.length - 96)) (b.drop (h.length - 96)) && decide (svn ≤ h.svn) && compsOk b h
/-- A host image's VERSION, TARGET, block length and block (R521). -/
structure ImageHead where
  version : Nat
  target : Nat
  length : Nat
  block : List Byte
  deriving DecidableEq, Repr
/-- The head of a host image. -/
def imageHead (b : List Byte) : ImageHead := ⟨leAt b 8 4, leAt b 12 4, leAt b 16 4, Sys2Proof.slice b 64 (leAt b 16 4)⟩
/-- Why a host image is rejected, 0 when it passes (R521, R527): the bytes, those received where it has just come, the core
design, the running INTKEY and the tensor-block profile. -/
def imageReason (b : List Byte) (received : Option Nat) (design intkey : Nat) (p : Profile) : Nat :=
  let h := imageHead b
  let n := 64 + h.length + 96
  let hd := Header.ofBytes h.block
  if 1048576 < n ∨ (received.map (fun r => r != n)).getD false then 1
  else if Sys2Proof.slice b 0 4 ≠ [0x4F#8, 0x4E#8, 0x48#8, 0x49#8] ∨ leAt b 4 2 ≠ 1 ∨ !(zeroAt b 6 2 && zeroAt b 20 44)
    ∨ hd.fmt ≠ 0x3F ∨ hd.flags ≠ 0 ∨ hd.ctx ≠ 0 ∨ hd.layer ≠ 0 ∨ hd.op ≠ 0 ∨ hd.len = 0 ∨ 3072 < hd.len ∨ h.length ≠ 24 + 16 * hd.len then 2
  else if h.target ≠ design then 3
  else if !sigOk intkey (b.take (64 + h.length)) (Sys2Proof.slice b (64 + h.length) 96) then 5
  else if !trailerOk p h.block then 9
  else 0

/-- A bit of VALID set or cleared (R503). -/
def State.setValid (s : State) (i : Nat) (b : Bool) : State :=
  let v := s.fw.valid
  { s with fw := { s.fw with valid := if b then orBit v i else if bit v i then v - 2 ^ i else v } }
/-- BUNDLE_VERIFY (R527, R557): a received bundle is staged or rejected; a host image that passes is the one HOSTBOOT names
from the next chip reset on. -/
def bundleVerify (s : State) (hostImage : Bool) : State :=
  let got (t : Nat) := Tab.get (fun _ => 0) s.dl t
  if hostImage then
    if got 12 = 0 then s
    else
      let s : State := { s with dl := Tab.put (fun _ => 0) s.dl 12 0 }
      let slot := 1 - s.fw.hostboot
      let b := s.peek (flashKey 0 (hostSlot slot)) 1048576
      let why := imageReason b (some (got 2)) s.variant.design s.fw.intkey s.tbProfile
      if why = 0 then
        let s := s.setValid (2 + slot) true
        State.workDone { s with fw := { s.fw with hostboot := slot } } 2 0
      else (s.raise 0xA002 s.puActive why (imageHead b).version 2).workDone 2 4
  else if s.rd uBRW BRW_FW_STAT_STATE ≠ 2 then s
  else
    let slot := 1 - s.fw.boot
    let b := s.slotBytes slot
    let h := bundleHead b
    let why := bundleReason b (got 1) (s.rd uBRW BRW_FW_SVN_MIN) s.fw.intkey
    if why = 0 then
      let s := ((s.setValid slot true).wr uBRW BRW_FW_STAT_STATE 3).wr uBRW BRW_FW_STAGED_VER h.fwver
      (s.raise 0xA001 s.puActive h.fwver h.svn h.length).workDone 1 0
    else
      let s := (s.wr uBRW BRW_FW_STAT_STATE 4).wr uBRW BRW_FW_STAT_REASON why
      (s.raise 0xA002 s.puActive why h.fwver 1).workDone 1 4
/-- BUNDLE_VERIFY. -/
def execBundleVerify (hostImage : Bool) (s : State) : Outcome State Fault Refusal := .next (bundleVerify s hostImage)

/-- Onasen's feature map: a constant of the running image, with the base set (R537). -/
def State.ourMap (s : State) : Nat := orBit (Config.imageVal 0x1F8 s.fw.ver % 1024) 0
/-- The common set shown. -/
def State.setCommon (s : State) (m : Nat) : State := s.each (List.range 4) (fun s i => s.wr uBRW BRW_FEAT_COMMON_MAP (m / 2 ^ (32 * i)) i)
/-- Every processor. -/
def allProcs : List Nat := List.range Config.host.regions ++ procsOf .a ++ procsOf .b
/-- A processor is there to be restarted: its Hall's region is not lost, its Brewhouse runs, it is not halted. -/
def State.procThere (s : State) (i : Nat) : Bool :=
  (s.proc i).state != 3 && (if i < 64 then !s.regionLost i else s.bhAlive (procBh i))
/-- The active scheduler core. -/
def schedOf : Bh → Nat
  | .a => 66
  | .b => 74
/-- MIXED follows the slots that processors run (R535). -/
def State.showMixed (s : State) : State :=
  let v := (s.proc (schedOf s.active)).slot
  s.flag uBRW BRW_FW_STAT_MIXED (allProcs.any (fun i => s.procThere i && (s.proc i).slot != v))
/-- The active scheduler core runs a bundle: PRV_FWVER follows, and bits its map lacks leave the common set with a
FEATURES record (R535, R538). -/
def State.runVersion (s : State) : State :=
  let slot := (s.proc (schedOf s.active)).slot
  let s : State := { s with fw := { s.fw with ver := s.slotVer slot } }
  let s := (s.wr uPRV PRV_FWVER_VER s.fw.ver).wr uBRW BRW_IFVER_MIN (Config.imageVal 0x1F0 s.fw.ver)
  let old := s.commonSet
  let new := Nat.land old s.ourMap
  if old = new then s else (s.setCommon new).notify 0x0024 0 [(new, 16)]

/-- A planned handover is possible (R531). -/
def State.handoverOk (s : State) : Bool :=
  s.isSet uBRW BRW_ROLE_STANDBY_OK && s.mayTakeOver && decide (s.rd uBRW BRW_ROLE_REIGN ≤ 125)
/-- A planned handover (R530 #3): the standby becomes active, the former active Brewhouse its standby; 0xA00A. -/
def State.handover (s : State) : State :=
  let old := s.active
  let s := s.assumeReign s.standby
  let n := s.rd uBRW BRW_ROLE_REIGN
  let s := (s.stepDown old n).flag uBRW BRW_ROLE_STANDBY_OK true
  (s.sendMirror.raise 0xA00A s.puActive n).runVersion
/-- The waves of Halls (R530 #1). -/
def hallWaves : List (List Nat) :=
  let g := Config.host
  (List.range g.regionRows).map (fun p => (List.range g.cols).map (fun c => g.regionRows * c + p))
/-- The order in which a Brewhouse's processors restart: power-management, scheduler, security (R530). -/
def bhOrder : Bh → List (List Nat)
  | .a => [[65], [66], [64]]
  | .b => [[73], [74], [72]]
/-- An activation or rollback ends (R530 #5, R533). -/
def State.actEnd (s : State) (a : ActRun) : State :=
  if a.back then
    ((({ s with fw := { s.fw with act := none } } : State).wr uBRW BRW_FW_STAT_STATE 0).wr uBRW BRW_FW_STAGED_VER 0).showHold.showMixed
  else
    let s : State := { s with fw := { s.fw with act := none, boot := a.slot, trial := true, tries := 0, quietAt := s.now, golden := false } }
    let s := ((s.wr uBRW BRW_FW_STAT_STATE 0).wr uBRW BRW_FW_STAGED_VER 0).flag uBRW BRW_FW_STAT_TRIAL true
    let s := (s.wr uBRW BRW_FW_STAT_TRIES 0).showHold.showMixed
    (s.raise 0xA006 s.puActive (s.slotVer a.slot) ((s.now - a.start) / 1000000)).workDone 4 0
/-- The activation's position changed. -/
def State.updAct (s : State) (f : ActRun → ActRun) : State := { s with fw := { s.fw with act := s.fw.act.map f } }
/-- An activation goes on (R530, R531, R536): the current group's processors that are there and not done begin their loads;
a group that is done gives way to the next; after the Halls the Brewhouses' part is settled. The first argument bounds the groups. -/
def State.actGo (s : State) : Nat → State
  | 0 => s
  | n + 1 =>
    match s.fw.act with
    | none => s
    | some a =>
      if a.heldAt.isSome then s
      else match a.groups with
        | [] =>
          if a.handAt.isSome then s.actEnd a
          else
            let gs := if s.handoverOk then bhOrder s.standby ++ bhOrder s.active else bhOrder s.active
            (s.updAct (fun x => { x with groups := gs, handAt := some (if s.handoverOk then 3 else 0) })).actGo n
        | g :: gs =>
          if a.handAt = some a.groups.length then ((if s.handoverOk then s.handover else s).updAct (fun x => { x with handAt := some 0 })).actGo n
          else
            let todo := g.filter (fun i => s.procThere i && !a.done.contains i)
            if todo.isEmpty then (s.updAct (fun x => { x with groups := gs, going := [] })).actGo n
            else
              let start := todo.filter (fun i => !a.going.contains i)
              let s := s.updAct (fun x => { x with going := x.going ++ start })
              s.each start (fun s i => s.loadBegin i a.slot (if a.back then 4 else 1))
/-- Bound on the groups of an activation. -/
def actFuel : Nat := 40
/-- An activation starts (R528, R530): 0xA003; it is held at once where something holds it. -/
def State.actStart (s : State) : State :=
  let slot := 1 - s.fw.boot
  let old := s.fw.ver
  let s : State := { s with fw := { s.fw with act := some ⟨slot, s.now, hallWaves, [], [], none, none, false⟩ } }
  let s := ((s.wr uBRW BRW_FW_STAT_STATE 5).wr uBRW BRW_FW_STAT_SWITCHED 0).wr uBRW BRW_FW_HOLD_MS 0
  ((s.raise 0xA003 s.puActive (s.slotVer slot) old).fwHold).actGo actFuel
/-- ACTIVATION_RESUME (R528, R532): nothing holds the activation any more. -/
def activationResume (s : State) : State :=
  match s.fw.act with
  | none => s
  | some a => match a.heldAt with
    | none => s
    | some t =>
      if s.holdBits ≠ 0 then s
      else
        let s := (s.bump uBRW BRW_FW_HOLD_MS ((s.now - t) / 1000000)).updAct (fun x => { x with heldAt := none })
        ((s.wr uBRW BRW_FW_STAT_STATE 5).showHold).actGo actFuel
/-- ACTIVATION_RESUME. -/
def execActivationResume (s : State) : Outcome State Fault Refusal := .next (activationResume s)
/-- A rollback (R533): every processor that runs the failing slot restarts from the other one, in the reverse of the order of R530. -/
def State.rollback (s : State) (i : Nat) : State :=
  let bad := match s.fw.act with | some a => a.slot | none => s.fw.boot
  let ver := s.slotVer bad
  let order := hallWaves ++ bhOrder s.standby ++ bhOrder s.active
  let gs := (order.reverse.map (fun g => g.filter (fun j => (s.proc j).slot == bad))).filter (fun g => !g.isEmpty)
  let s := s.each allProcs (fun s j => if (s.proc j).state = 1 then s.updProc j (fun p => { p with state := 0 }) else s)
  let s := s.workDone 4 5
  let s : State := { s.setValid bad false with fw := { s.fw with act := some ⟨if s.fw.golden then 2 else 1 - bad, s.now, gs, [], [], some 0, none, true⟩ } }
  let s := s.setValid bad false
  let s := (s.wr uBRW BRW_FW_STAT_STATE 7).wr uBRW BRW_FW_STAT_SWITCHED 0
  (s.raise 0xA00B s.puActive i ver).actGo actFuel

/-- Work that a Hall's processor held while it restarted begins: resets that had come due (R386, R499, R536). -/
def State.hallBack (s : State) (r : Nat) : State :=
  let s := s.updHall r (fun h => { h with procHeld := false })
  let due := s.resetsDue.filter (fun d => d.1 == 3 && d.2.1 == r)
  let s : State := { s with resetsDue := s.resetsDue.filter (fun d => !(d.1 == 3 && d.2.1 == r)) }
  s.each due (fun s d => s.startPart r d.2.2)
/-- PROCESSOR_LOAD_DONE (R529): the copy's digest agrees and the switch phase begins; else the copy is made again. -/
def processorLoadDone (s : State) (i sha : Nat) : State :=
  let p := s.proc i
  if p.state ≠ 1 then s
  else if sha ≠ s.slotComp p.next (procKind i) then s
  else
    let s := (s.loadCopy true i p.next).updProc i (fun p => { p with state := 2 })
    if i < 64 then s.updHall i (fun h => { h with procHeld := true }) else s
/-- PROCESSOR_LOAD_DONE. -/
def execProcessorLoadDone (i : Byte) (sha : BitVec 384) (s : State) : Outcome State Fault Refusal :=
  .next (processorLoadDone s i.toNat sha.toNat)
/-- PROCESSOR_SWITCH_DONE (R529, R530, R535, R542): 0xA005; what waited for it goes on. -/
def processorSwitchDone (s : State) (i us : Nat) : State :=
  let p := s.proc i
  if p.state ≠ 2 then s
  else
    let s := s.updProc i (fun p => { p with state := 0, slot := p.next, cause := 0, restarts := satAdd 65535 p.restarts 1 })
    let s := s.raiseOnce 0 0xA005 (procPuid i) i p.cause us
    let s := if i < 64 then s.hallBack i else s
    let s := s.showMixed
    let s := if i = schedOf s.active then s.runVersion else s
    let s := if p.cause = 3 then s.workDone (100 + i) 0 else s
    if p.cause = 1 ∨ p.cause = 4 then
      let s := s.updAct (fun x => { x with going := x.going.filter (· != i), done := x.done ++ [i] })
      let n := (s.fw.act.map (fun a => a.done.length)).getD 0
      (s.wr uBRW BRW_FW_STAT_SWITCHED n).actGo actFuel
    else s
/-- PROCESSOR_WATCHDOG (R533, R577): a missed service restarts the processor; the third within 10 minutes rolls back, halts
the Hall, or holds the Brewhouse. -/
def processorWatchdog (s : State) (i : Nat) : State :=
  let p := s.proc i
  if !allProcs.contains i || p.state == 3 || s.dbg.halted.any (fun h => h.1 == i) || !s.procThere i then s
  else
    let ws := p.wdog.filter (fun t => decide (s.now < t + 600000000000)) ++ [s.now]
    let restart (s : State) : State :=
      let s := s.updProc i (fun p => { p with state := 2, next := if p.state = 2 then p.next else p.slot, cause := if p.state = 2 then p.cause else 2 })
      if i < 64 then s.updHall i (fun h => { h with procHeld := true }) else s
    let s := s.updProc i (fun p => { p with wdog := ws })
    let s : State := { s with fw := { s.fw with quietAt := s.now } }
    if ws.length < 3 then restart s
    else if (s.fw.trial && p.slot == s.fw.boot && s.fw.act.isNone) || (match s.fw.act with | some a => !a.back && a.done.contains i | none => false) then s.rollback i
    else if i < 64 then
      let s := s.updProc i (fun p => { p with state := 3 })
      let s := (s.updHall i (fun h => { h with procHeld := true, shutReset := true })).setUnit (puHal i) (fun u => { u with fenced := true })
      (s.raise 0xA009 (puHal i) i ws.length).shutRegion i 0
    else
      let hold (s : State) : State := match procBh i with
        | .a => { s with fw := { s.fw with outA := true } }
        | .b => { s with fw := { s.fw with outB := true } }
      if procBh i ≠ s.active then
        ((hold s).flag uBRW BRW_ROLE_UNMIRRORED true).raise 0xA009 (procPuid i) i ws.length
      else if s.handoverOk then
        let s := hold s.handover
        ((s.flag uBRW BRW_ROLE_UNMIRRORED true).flag uBRW BRW_ROLE_STANDBY_OK false).raise 0xA009 (procPuid i) i ws.length
      else (restart s).raise 0xA009 (procPuid i) i ws.length
/-- PROCESSOR_WATCHDOG. -/
def execProcessorWatchdog (i : Byte) (s : State) : Outcome State Fault Refusal := .next (processorWatchdog s i.toNat)
/-- TRIAL_CLEAR (R534): 10 minutes without a watchdog restart. -/
def trialClear (s : State) : State :=
  if !s.fw.trial then s
  else
    let s : State := { s with fw := { s.fw with trial := false, tries := 0 } }
    ((s.flag uBRW BRW_FW_STAT_TRIAL false).wr uBRW BRW_FW_STAT_TRIES 0).raise 0xA007 s.puActive (s.slotVer s.fw.boot)
/-- TRIAL_CLEAR. -/
def execTrialClear (s : State) : Outcome State Fault Refusal := .next (trialClear s)

end Sys2Proof.Machine
end

