-- ==== Sys2Proof/Machine/Records.lean ====
section
/-! DEFINITION. The variant record and the calibration record: their form, their items, and what a record in force sets (R507-R510). -/
namespace Sys2Proof.Machine
open Sys2Proof Host

/-- The items of a record: TAG and payload, padded to 4 bytes; none where one runs over the end (R507). The first argument bounds the walk. -/
def recItems : Nat → List Byte → Option (List (Nat × List Byte))
  | 0, _ => none
  | n + 1, b =>
    if b.isEmpty then some []
    else
      let size := leAt b 2 2
      let padded := 4 + (size + 3) / 4 * 4
      if b.length < padded ∨ !zeroAt b (4 + size) (padded - 4 - size) then none
      else (recItems n (b.drop padded)).map (fun l => (leAt b 0 2, Sys2Proof.slice b 4 size) :: l)
/-- LENGTH and VERSION of a record. -/
def recLength (b : List Byte) : Nat := leAt b 12 4
def recVersion (b : List Byte) : Nat := leAt b 8 4
/-- The items of a record of whole length. -/
def recBody (b : List Byte) : Option (List (Nat × List Byte)) :=
  let n := recLength b
  recItems n (Sys2Proof.slice b 64 (n - 160))
/-- Payload of an item, where present. -/
def itemOf (items : List (Nat × List Byte)) (tag : Nat) : Option (List Byte) := (items.find? (fun e => e.1 == tag)).map (·.2)
/-- Bytes of a bitmap of `n` units (R1, R508): 6 of the reference host's regions, 12 of its links, 42 of its stacks. -/
def mapBytes (n : Nat) : Nat := (n + 7) / 8
/-- SIZE that an item of a variant record must have (R508). -/
def itemSizeOk (tag : Nat) (p : List Byte) : Bool :=
  let n := p.length
  match tag with
  | 0x0001 => n == 8
  | 0x0002 => n == mapBytes nRegions + 1
  | 0x0003 => n == mapBytes nLinks + 2
  | 0x0004 => n == mapBytes nStacks
  | 0x0005 => n % 4 == 0
  | 0x0006 => n == 8
  | 0x0007 => n == 19
  | 0x0008 => if leAt p 0 1 = 0 then n == 28 && decide (8 ≤ leAt p 1 1 ∧ leAt p 1 1 ≤ 64) else n == 1 && decide (leAt p 0 1 ≤ 5)
  | 0x0009 => n == 26
  | 0x000A => n == 9
  | 0x000B => n == 8 + 2 * nRegions
  | 0x000C => n == 576
  | 0x000D => n % 4 == 0
  | 0x000E => n == 2 * Config.host.links
  | 0x000F => n == 16
  | t => bit t 15
/-- A required item holds a value where one is required: identity, regions and their minimum, opcodes, state bytes and
repeat count, limits (R509). -/
def itemValueOk (tag : Nat) (p : List Byte) : Bool :=
  match tag with
  | 0x0001 => leAt p 0 4 != 0 && leAt p 4 4 != 0
  | 0x0002 => leAt p 0 6 != 0 && leAt p 6 1 != 0
  | 0x0007 => (List.range 5).all (fun i => leAt p (2 * i) 2 != 0) && leAt p 11 4 != 0 && leAt p 17 2 != 0
  | 0x0009 => decide (leAt p 4 1 ≤ Config.host.fields)
  | 0x000A => leAt p 0 1 != 0 && (List.range 4).all (fun i => leAt p (1 + 2 * i) 2 != 0)
  | _ => true
/-- The items without which a variant record is refused (R509). -/
def requiredItems : List Nat := [0x0001, 0x0002, 0x0007, 0x0009, 0x000A, 0x000C]
/-- Why a record is refused, 0 when it verifies (R507-R509, R541): 1 signature, 2 format, 3 VERSION, 4 CONFIG, 5 required item. -/
def recReason (variant : Bool) (b : List Byte) (size intkey : Nat) : Nat :=
  let n := recLength b
  let b := b.take n
  if n < 160 ∨ size < n ∨ b.length ≠ n then 2
  else if !sigOk intkey (b.take (n - 96)) (b.drop (n - 96)) then 1
  else if leAt b 0 4 ≠ (if variant then 0x52564E4F else 0x41434E4F) ∨ leAt b 4 2 ≠ 1 ∨ !(zeroAt b 6 2 && zeroAt b 18 46) then 2
  else if leAt b 16 2 ≠ Config.host.fields then 4
  else match recBody b with
    | none => 2
    | some items =>
      if variant then
        if !items.all (fun e => itemSizeOk e.1 e.2) ∨ 1 < (items.filter (fun e => e.1 == 8)).length then 2
        else if !requiredItems.all (fun t => (itemOf items t).isSome) ∨ !items.all (fun e => itemValueOk e.1 e.2) then 5
        else 0
      else if (items.map (·.1)) = [0x0101] ∧ items.all (fun e => e.2.length % 16 == 0) then 0 else 2

/-- A placement: physical channel and channel address. -/
def placeAt (p : List Byte) (i : Nat) : Nat × Nat := (leAt p i 2, leAt p (i + 2) 5)
/-- The PCIe gate field that a configuration has by default (R599). -/
def pcieDefault : Nat := if Config.host.fields = 84 then 40 else if Config.host.fields = 42 then 21 else 10
/-- The record's fields as State holds them, absent items as R509 says. -/
def variantOf (version : Nat) (items : List (Nat × List Byte)) : VariantSt :=
  let it (t : Nat) : List Byte := (itemOf items t).getD []
  let has (t : Nat) : Bool := (itemOf items t).isSome
  let words (t n : Nat) : List Nat := (List.range ((it t).length / n)).map (fun i => leAt (it t) (n * i) n)
  let t8 := it 8
  let gate := leAt (it 9) 4 1
  { version := version, serial := leAt (it 1) 0 4, design := leAt (it 1) 4 4
    regions := leAt (it 2) 0 (mapBytes nRegions), minRegions := leAt (it 2) (mapBytes nRegions) 1
    links := if has 3 then leAt (it 3) 0 (mapBytes nLinks) else 2 ^ Config.host.links - 1, loops := leAt (it 3) (mapBytes nLinks) 2
    stackSet := if has 4 then leAt (it 4) 0 (mapBytes nStacks) else 2 ^ (4 * Config.host.fields) - 1
    absent := words 5 4, latency := if has 6 then words 6 1 else List.replicate 8 0
    opcodes := (words 7 2).take 5, keyMask := leAt (it 7) 10 1, archBytes := leAt (it 7) 11 4, rptBase := leAt (it 7) 15 2, rptCount := leAt (it 7) 17 2
    tb := if has 8 then ⟨leAt t8 0 1, leAt t8 1 1, leAt t8 2 8, leAt t8 10 8, leAt t8 18 8, leAt t8 26 1 % 2 == 1, leAt t8 27 1 % 2 == 1⟩
      else ⟨1, 0, 0, 0, 0, false, false⟩
    scratch := leAt (it 9) 0 4, pcie := if gate = 0 then pcieDefault else gate - 1
    saveArea := placeAt (it 9) 5, gristArea := placeAt (it 9) 12, imageArea := placeAt (it 9) 19
    tj := leAt (it 10) 0 1, vmin := leAt (it 10) 1 2, vmax := leAt (it 10) 3 2, cyc := leAt (it 10) 5 2, nominal := leAt (it 10) 7 2
    power := if has 11 then some (leAt (it 11) 0 2, leAt (it 11) 2 2, leAt (it 11) 4 2, leAt (it 11) 6 2, (words 11 2).drop 4) else none
    keys := (List.range 6).map (fun i => beNat (Sys2Proof.slice (it 12) (96 * i) 96)), defects := words 13 4
    cap := if has 14 then some (words 14 2) else none, ctx0Seed := if has 15 then some (leAt (it 15) 0 16) else none }
/-- The calibration entries of a record: T signed and N of three pairs, kept where N strictly descends (R510). -/
def calOf (items : List (Nat × List Byte)) : Tab (List (Int × Nat)) :=
  let p := (itemOf items 0x0101).getD []
  (List.range (p.length / 16)).foldl (fun m i =>
    let e := Sys2Proof.slice p (16 * i) 16
    let pair (j : Nat) : Int × Nat := ((BitVec.ofNat 16 (leAt e (4 + 4 * j) 2)).toInt, leAt e (6 + 4 * j) 2)
    if (pair 1).2 < (pair 0).2 ∧ (pair 2).2 < (pair 1).2 then Tab.insert (leAt e 0 4) [pair 0, pair 1, pair 2] m else m) []

/-- Flash address and size of a record's copy (R501). -/
def recPlace (variant : Bool) (copy : Nat) : Nat × Nat :=
  if variant then (0x20000 + copy * 0x20000, 0x20000) else (0x60000 + copy * 0x10000, 0x10000)
/-- A record's copy as read from the primary device. -/
def State.recCopy (s : State) (variant : Bool) (copy : Nat) : List Byte :=
  let p := recPlace variant copy
  s.peek (flashKey 0 p.1) p.2
/-- The copies of a record, higher VERSION first. -/
def State.recOrder (s : State) (variant : Bool) : List (List Byte) :=
  let a := s.recCopy variant 0
  let b := s.recCopy variant 1
  if recVersion a < recVersion b then [b, a] else [a, b]
/-- The first copy that verifies, and the refusals before it as (reason, VERSION) (R507). -/
def State.recPick (s : State) (variant : Bool) : Option (List Byte) × List (Nat × Nat) :=
  let size := (recPlace variant 0).2
  let why (b : List Byte) : Nat := recReason variant b size s.fw.intkey
  match s.recOrder variant with
  | [a, b] =>
    if why a = 0 then (some (a.take (recLength a)), [])
    else if why b = 0 then (some (b.take (recLength b)), [(why a, recVersion a)])
    else (none, [(why a, recVersion a), (why b, recVersion b)])
  | _ => (none, [])
/-- Copy that the next write replaces: the one that does not verify, else the one of lower VERSION. -/
def State.recOlder (s : State) (variant : Bool) : Nat :=
  let size := (recPlace variant 0).2
  let a := s.recCopy variant 0
  let b := s.recCopy variant 1
  if recReason variant a size s.fw.intkey ≠ 0 then 0
  else if recReason variant b size s.fw.intkey ≠ 0 then 1
  else if recVersion a < recVersion b then 0 else 1
/-- A record written to both devices as the newer copy (R526). -/
def State.recWrite (s : State) (variant : Bool) (b : List Byte) : State :=
  let p := recPlace variant (s.recOlder variant)
  s.flashWrite p.1 (b ++ List.replicate (p.2 - b.length) 0xFF#8)
/-- A variant record in force: the limits, budgets and identity that registers show (R343, R485, R487, R539). -/
def State.variantIn (s : State) (b : List Byte) : State :=
  let v := variantOf (recVersion b) ((recBody b).getD [])
  let s : State := { s with variant := v }
  let s := ((s.wr uBRW BRW_VAR_VER_VER v.version).wr uBRW BRW_VAR_STAT_DEFECTS v.defects.length).wr uBRW BRW_GRIST_TARGET_ID v.design
  let s := (((s.wr uTHM THM_LIM_TJ_TJ v.tj).wr uTHM THM_LIM_VDD_VMAX v.vmax).wr uTHM THM_LIM_VDD_VMIN v.vmin).wr uTHM THM_LIM_CLK_CYC v.cyc
  match v.power with
  | none => s
  | some (_, _, _, _, bud) => s.each (bud.zip (List.range Config.host.regions)) (fun s e => s.wr (uHAL e.2) HAL_PWR_BUDGET_W e.1)
/-- A calibration record in force (R510, R526). -/
def State.calIn (s : State) (b : List Byte) : State :=
  { (s.flag uBRW BRW_VAR_STAT_CAL_OK true) with fw := { s.fw with cal := calOf ((recBody b).getD []) } }

end Sys2Proof.Machine
end

