-- ==== Sys2Proof/Machine/Slices.lean ====
section
/-! DEFINITION. Weight slices: the slice table's commands, digests, the digest rotation and comparison with other copies (R287-R299, R312, R454). -/
namespace Sys2Proof.Machine
open Sys2Proof Host

/-- The staged bytes 0 to 63 as an entry in LOADING; STATE, VALIDITY and ROT are taken as zero (R287, R312). -/
def stagedSlice (x : Nat) : SliceEnt :=
  ⟨bits x 31 0, bits x 63 32, bits x 79 64, bits x 92 80, bits x 99 96, bit x 100, 1, false, false, 0, bits x 163 128, bits x 223 192, 0,
    bits x 511 256, 0, 0⟩
/-- A WRITE breaks a rule of R312: ADDR or LENGTH outside R287, the channel end or the save area crossed, a non-EMPTY
slice overlapped, or REF set with EXPECTED zero. -/
def State.sliceBad (s : State) (c x : Nat) (e : SliceEnt) : Bool :=
  let a := s.saveArea
  let meets (lo n : Nat) := decide (e.addr < lo + n ∧ lo < e.addr + e.length)
  e.addr % 16 != 0 || bits x 167 164 != 0 || e.length % 16 != 0 || decide (e.length < 32) || decide (67108864 < e.length)
    || decide (chanBytes < e.addr + e.length) || (a.1 == e.ch && meets a.2 16777216)
    || (s.cel c).slices.any (fun o => o.2.ch == e.ch && meets o.2.addr o.2.length)
    || (e.ref && e.expected == 0)
/-- CEL_SLICE_CMD.STATUS; a command that ends is told to the host (R291, R312, R555). -/
def State.sliceStatus (s : State) (c st : Nat) : State := s.wr (uCEL c) CEL_SLICE_CMD_STATUS st
/-- The SLICE record (R555): Cellar, index, STATUS, STATE. -/
def State.notifySlice (s : State) (c i : Nat) : State :=
  if !bit s.commonSet 5 then s else s.notify 0x0021 0 [(c, 2), (i, 2), (s.rd (uCEL c) CEL_SLICE_CMD_STATUS, 1), (((s.slice c i).map (·.state)).getD 0, 1)]
/-- SLICE_WRITE (R287, R312). -/
def sliceWrite (s : State) (c : Nat) : State :=
  let i := s.rd (uCEL c) CEL_SLICE_SEL_INDEX
  let x := s.rd (uCEL c) CEL_SLICE_STAGE
  let e := stagedSlice x
  if (s.slice c i).isSome then s.sliceStatus c 3
  else if s.sliceBad c x e then s.sliceStatus c 4
  else
    let s := s.updCel c (fun y => { y with slices := Tab.insert i e y.slices, rot := { y.rot with outside := i :: y.rot.outside } })
    (s.sliceStatus c 2).showCel c
/-- SLICE_VERIFY (R291, R312). -/
def sliceVerify (s : State) (c : Nat) : State :=
  let i := s.rd (uCEL c) CEL_SLICE_SEL_INDEX
  match s.slice c i with
  | some e =>
    if e.state = 1 then ((s.sliceState c i 2).updCel c (fun x => { x with cmds := x.cmds ++ [(i, 2)] })).sliceStatus c 1
    else s.sliceStatus c 3
  | none => s.sliceStatus c 3
/-- A slice leaves the rotation (R293). -/
def State.rotDrop (s : State) (c i : Nat) : State :=
  s.updCel c (fun x => { x with rot := { x.rot with todo := x.rot.todo.filter (· != i), engs := x.rot.engs.filter (·.1 != i) } })
/-- SLICE_DROP (R282, R290, R293, R312): its repairs and third-copy requests end with it. -/
def sliceDrop (s : State) (c : Nat) : State :=
  let i := s.rd (uCEL c) CEL_SLICE_SEL_INDEX
  let s := (s.rangeOut c i).rotDrop c i
  let s := s.updCel c (fun x => { x with
    slices := Tab.erase i x.slices, queue := x.queue.filter (fun r => r.slice != i), running := x.running.filter (fun r => r.slice != i)
    third := x.third.filter (fun t => t.1 != i), cmds := x.cmds.filter (fun t => t.1 != i) })
  (s.sliceStatus c 2).showCel c
/-- SLICE_REDIGEST (R312). -/
def sliceRedigest (s : State) (c : Nat) : State :=
  let i := s.rd (uCEL c) CEL_SLICE_SEL_INDEX
  match s.slice c i with
  | some e =>
    if e.state = 3 ∨ e.state = 6 then (s.updCel c (fun x => { x with cmds := x.cmds ++ [(i, 4)] })).sliceStatus c 1
    else s.sliceStatus c 3
  | none => s.sliceStatus c 3

/-- Wafer identifier of the peer whose digest an entry holds. -/
def State.peerWafer (s : State) (c : Nat) (e : SliceEnt) : Nat :=
  (((s.cel c).rot.peers.find? (fun p => p.1 == e.peer)).map (fun p => p.2.1)).getD 0
/-- The third copy is asked for: of the listed peer next after the one that PEER is from, the first following the last, or of the servers where none is listed (R299). -/
def State.askThird (s : State) (c i : Nat) (e : SliceEnt) : State :=
  let t := (s.cel c).rot
  if (s.cel c).third.any (fun x => x.1 == i) then s
  else
    let others := t.peers.filter (fun p => p.1 != e.peer)
    let src := match (others.filter (fun p => decide (e.peer < p.1)) ++ others).head? with | some p => p.1 | none => 0xFF
    let s := s.updCel c (fun x => { x with third := x.third ++ [(i, src)] })
    match sourceDoor t src with
    | some (d, w) => s.sendRec c d (s.recOf e 2 w 0)
    | none => s
/-- A slice compared with its reference or its held copy, while VALID or DOUBT (R299); `fresh`: LOCAL is newly computed. -/
def State.compareSlice (s : State) (c i : Nat) (fresh : Bool) : State :=
  let u := uCEL c
  match s.slice c i with
  | none => s
  | some e =>
    if !e.localOk || (e.state != 3 && e.state != 6) then s
    else if e.ref then
      if e.localDig = e.expected then (s.sliceState c i 3).count u CEL_DIG_CMP_COUNT
      else (((s.count u CEL_DIG_MISM_COUNT).sliceState c i 5).raise 0x5020 (puCel c) e.tensor e.slice 2).needRepair c i 2 0
    else if !e.peerOk then (if fresh then s.count u CEL_DIG_UNCMP_COUNT else s)
    else if e.localDig = e.peerDig then
      ((s.sliceState c i 3).count u CEL_DIG_CMP_COUNT).updCel c (fun x => { x with third := x.third.filter (fun t => t.1 != i) })
    else ((s.sliceState c i 6).count u CEL_DIG_MISM_COUNT).askThird c i e
/-- RTYPE 1 to every listed peer (R298). -/
def State.sendDigest (s : State) (c i : Nat) : State :=
  let t := (s.cel c).rot
  match s.slice c i with
  | none => s
  | some e =>
    if s.waferId = 0 then s
    else s.each t.peers (fun s p => match sourceDoor t p.1 with
      | some (d, w) => s.sendRec c d (s.recOf e 1 w e.localDig)
      | none => s)

/-- The slice record of a weight set, hashed (R454). -/
def sliceHash (e : SliceEnt) : Nat :=
  sha3Nat (leBytes 4 e.tensor ++ leBytes 4 e.slice ++ leBytes 2 e.gen ++ leBytes 2 0 ++ leBytes 32 e.localDig)
/-- A digested slice added to the sums of its weight sets (R454). -/
def addSums (t : Rotation) (e : SliceEnt) : Rotation :=
  { t with sums := t.sums.map (fun x =>
    match t.sets.find? (fun y => y.1 == x.1) with
    | some (_, lo, hi) => if lo ≤ e.tensor ∧ e.tensor ≤ hi then (x.1, (x.2.1 + sliceHash e) % 2 ^ 256, x.2.2 + 1) else x
    | none => x) }
/-- A rotation ends once nothing is left to digest: it is counted, and reported for the weight sets (R293, R454). -/
def State.rotEnd (s : State) (c : Nat) : State :=
  let x := s.cel c
  if !x.rot.on || !x.rot.todo.isEmpty then s
  else
    let rep := x.rot.sums.map (fun y =>
      let out := match x.rot.sets.find? (fun z => z.1 == y.1) with
        | some (_, lo, hi) => x.slices.any (fun e => decide (lo ≤ e.2.tensor ∧ e.2.tensor ≤ hi) && (e.2.state != 3 || x.rot.outside.contains e.1))
        | none => false
      (y.1, y.2.1, y.2.2, out))
    let s := (s.count (uCEL c) CEL_DIG_ROT_COUNT).updCel c (fun x => { x with
      rot := { x.rot with on := false, late := false, outside := [], engs := [], allow := 0 }, reports := if rep.isEmpty then x.reports else x.reports ++ [rep] })
    s.wr (uCEL c) CEL_DIG_LAG_BYTES 0
/-- A slice has been digested or skipped in the rotation: its engine is free for the next (R293, R294). -/
def State.rotOut (s : State) (c i : Nat) (add : Bool) : State :=
  match s.slice c i with
  | none => s
  | some e =>
    if !(s.cel c).rot.todo.contains i then s
    else (s.updCel c (fun x => if add then { x with rot := addSums x.rot e } else x)).rotDrop c i
/-- A slice skipped in this rotation (R289); a repair of its entered granules that was dropped arises again (R302). -/
def State.skipSlice (s : State) (c i : Nat) : State :=
  let s := (s.count (uCEL c) CEL_DIG_SKIP_COUNT).rotOut c i false
  match s.slice c i with
  | none => s
  | some e => match (granList e.addr e.length).find? (fun g => s.granIn c e.ch g) with
    | some g => s.needAgain c i g
    | none => s
/-- The four engines hold the first slices in table order, and absorb what the allowance still gives, the first slice first; a slice that is
part-way through keeps its engine, with its SHA3 state, across ticks (R293, R294). -/
def feedEngines (len : Nat → Nat) (t : Rotation) : Rotation :=
  let r := (t.todo.take 4).foldl (fun (a : Nat × List (Nat × Nat)) i =>
    let had := ((t.engs.find? (·.1 == i)).map (·.2)).getD 0
    let n := min a.1 (len i - had)
    (a.1 - n, if had + n = 0 then a.2 else a.2 ++ [(i, had + n)])) (t.allow, [])
  { t with allow := r.1, engs := r.2 }
/-- The engines go on: slices that hold an entered granule are skipped as their turn comes, the others absorb the allowance, and what no engine can
take is CEL_DIG_LAG; the rotation ends with its last slice (R289, R293, R294). -/
def State.rotFeed (s : State) (c : Nat) : State :=
  let s := s.each (s.cel c).rot.todo (fun s i =>
    match s.slice c i with
    | some e => if ((s.cel c).rot.todo.take 4).contains i && (granList e.addr e.length).any (fun g => s.granIn c e.ch g) then s.skipSlice c i else s
    | none => s)
  let s := s.updCel c (fun x => { x with rot := feedEngines (fun i => ((Tab.find i x.slices).map (·.length)).getD 0) x.rot })
  (s.wr (uCEL c) CEL_DIG_LAG_BYTES (min (2 ^ 32 - 1) (s.cel c).rot.allow)).rotEnd c
/-- A slice's digest is over, and the engines go on. -/
def State.rotDone (s : State) (c i : Nat) (add : Bool) : State := (s.rotOut c i add).rotFeed c
/-- The whole of a slice has been absorbed: by an engine in the rotation, or on a command ahead of it (R291, R293, R312). -/
def State.absorbed (s : State) (c i : Nat) (e : SliceEnt) : Bool :=
  (s.cel c).cmds.any (fun t => t.1 == i) || (s.cel c).rot.engs.contains (i, e.length)
/-- A command's digest is over: its STATUS, and the host is told (R291, R312, R555). -/
def State.sliceCmdEnd (s : State) (c i : Nat) : State :=
  if !(s.cel c).cmds.any (fun t => t.1 == i) then s
  else ((s.updCel c (fun x => { x with cmds := x.cmds.filter (fun t => t.1 != i) })).sliceStatus c 2).notifySlice c i
/-- A slice's digest has been computed: a verify decides the slice, any other digest is compared, and a LOCAL that changed goes to the peers
(R288, R291, R298, R299). -/
def State.sliceDigested (s : State) (c i : Nat) (e : SliceEnt) (d : Nat) : State :=
  let same := e.localOk && e.localDig == d
  let s := s.updSlice c i (fun e => { e with localDig := d, localOk := true, rot := s.cnt (uCEL c) CEL_DIG_ROT_COUNT })
  let s := if e.state = 2 then
      (if e.ref then
        (if d = e.expected then ((s.sliceState c i 3).compareSlice c i true).recordSlice 3 e 0 e.expected
         else (s.sliceState c i 4).raise 0x5020 (puCel c) e.tensor e.slice 1)
       else (s.sliceState c i 3).compareSlice c i true)
    else s.compareSlice c i true
  let s := if same then s else s.sendDigest c i
  (s.rotDone c i true).sliceCmdEnd c i
/-- SLICE_DIGEST_DONE (R27, R288-R291, R299, R302, R304, R305, R600): the slice's bytes have been read. Every block whose trailer fails is entered and rescanned,
and a format fault makes the slice BAD. Of a Cellar that has been FENCED meanwhile the slice counts as uncompared (R338). -/
def sliceDigestDone (s : State) (c i : Nat) (bs : List Byte) (ce ue : List Nat) : State :=
  match s.slice c i with
  | none => s
  | some e =>
    if !s.absorbed c i e || (s.digestWait c).isSome then s
    else if !s.celRuns c then (s.count (uCEL c) CEL_DIG_UNCMP_COUNT).rotOut c i false
    else
      let s := (s.count (uCEL c) CEL_BYTES_MAINT bs.length e.ch).mntErrors c e.ch ce ue 1
      if e.state = 4 ∨ e.state = 5 ∨ e.state = 1 then (s.needAgain c i 0).rotDone c i false
      else if !ue.isEmpty || (granList e.addr e.length).any (fun g => s.granIn c e.ch g) then (s.skipSlice c i).rotFeed c
      else
        let w := walkSlice s.tbProfile (bs.length / 32 + 1) 0 bs
        let s := s.each w.bad (fun s b =>
          let s := if s.againFails c e.ch (granList (e.addr + b.1) b.2) then s.histEntry (puChan c e.ch) (s.celEntry c 7) else s
          (s.each (granList (e.addr + b.1) b.2) (fun s g => s.psnEnter c e.ch g 2)).updCel c (fun x => { x with
            rescans := x.rescans ++ [⟨e.ch, e.addr + b.1, b.2, 0⟩] }))
        match w.fault with
        | some off => (((s.sliceState c i 4).raise 0x5024 (puCel c) e.tensor e.slice off).rotDone c i false).sliceCmdEnd c i
        | none => if w.bad.isEmpty then s.sliceDigested c i e (sha3Nat w.form) else s.rotDone c i false
/-- SLICE_DIGEST_DONE. -/
def execSliceDigestDone (c : StackId) (i : Fin 16384) (bytes : List Byte) (ce ue : List (BitVec 36)) (s : State) :
    Outcome State Fault Refusal :=
  .next (if s.unitStopped (uCEL c.val) then s
    else sliceDigestDone (s.item (chCel c.val)) c.val i.val bytes (ce.map (·.toNat)) (ue.map (·.toNat)))

/-- A digest tick is due: a PASS verdict has been given since the last one and MIN_US has passed, or MAX_US has (R292, R313). -/
def State.tickDue (s : State) : Bool :=
  let most := max 1 (s.rd uBRW BRW_DIG_TICK_MAX_US)
  let us := (s.now - s.tickAt) / 1000
  (s.passSeen && decide (min (s.rd uBRW BRW_DIG_TICK_MIN_US) most ≤ us)) || decide (most ≤ us)
/-- DIGEST_TICK_SEND (R292): a class 2 wafer broadcast of the active Brewhouse, when a tick is due (assumption 84: its TYPE). -/
def digestTickSend (s : State) : State :=
  if !s.tickDue || !s.bhAlive s.active then s
  else
    let s : State := { s.count uBRW BRW_DIG_TICKS_COUNT with tickAt := s.now, passSeen := false }
    let f := Config.host.brewField s.active
    s.routePacket f ⟨mkHead 2 0 0 0 f 18 2 (s.brew s.active).reign (Config.imageVal 0x292 0 % 125 + 1), []⟩
/-- DIGEST_TICK_SEND. -/
def execDigestTickSend (s : State) : Outcome State Fault Refusal := .next (if s.stopped then s else digestTickSend s)
/-- Ticks of a rotation by posture (R293). -/
def rotTicks : Posture → Nat
  | .strong => 1024
  | .session => 4096
  | .small => 16384
/-- The exchange configuration and weight sets that a rotation takes at its start (R295, R473). -/
def State.rotConfig (s : State) (t : Rotation) : Rotation :=
  let peers := (List.range 3).filterMap (fun i =>
    let d := s.rd uBRW BRW_DIG_PEER_DOOR_DOOR i
    if s.isSet uBRW BRW_DIG_PEER_DOOR_VALID i && decide (d < nFields) && s.waferId != 0 then some (i, s.rd uBRW BRW_DIG_PEER_ID_WAFER i, d) else none)
  let sets := (List.range 16).filterMap (fun i =>
    if s.isSet uPRV PRV_WSET_STAT_EN i then some (i, s.rd uPRV PRV_WSET_TLO_TENSOR i, s.rd uPRV PRV_WSET_THI_TENSOR i) else none)
  { t with
    server := s.isSet uBRW BRW_DIG_CTRL_JOIN, peers := peers
    srvDoor := if s.isSet uBRW BRW_DIG_SERVER_VALID && s.waferId != 0 then some (s.rd uBRW BRW_DIG_SERVER_DOOR) else none
    sets := sets, sums := sets.map (fun x => (x.1, 0, 0)) }
/-- A rotation begins (R293). -/
def State.rotStart (s : State) (c : Nat) : State :=
  let x := s.cel c
  let live := x.slices.filter (fun e => e.2.state == 3 || e.2.state == 6)
  let v := (live.map (·.2.length)).sum
  let p := s.posture (regionOfStack c)
  let r := rotTicks p
  let b := (v + r - 1) / r
  let s := s.updCel c (fun x => { x with rot := s.rotConfig { x.rot with
    on := true, late := false, r := r, v := v, b := b, ticks := 0, allow := 0, todo := live.map (·.1), engs := []
    outside := (x.slices.filter (fun e => e.2.state != 3)).map (·.1) } })
  let u := uCEL c
  ((s.wr u CEL_DIG_STAT_POSTURE (postureCode p)).wr u CEL_DIG_BPT_BYTES b).wr u CEL_SLICE_V v
/-- DIGEST_TICK (R27, R289, R293-R295): a Cellar takes a tick, and its engines go on; while the map of a cluster of its field waits it takes none. -/
def digestTick (s : State) (c : Nat) : State :=
  if !s.celRuns c then s
  else match s.digestWait c with
  | some k => s.mapWaits k
  | none =>
    let u := uCEL c
    let s := if (s.cel c).rot.on then s else s.rotStart c
    let s := s.updCel c (fun x => { x with rot := { x.rot with ticks := x.rot.ticks + 1, allow := x.rot.allow + x.rot.b } })
    let t := (s.cel c).rot
    let s := s.wr u CEL_DIG_TICK_COUNT t.ticks
    let s := if t.r < t.ticks && !t.late then
        ((s.updCel c (fun x => { x with rot := { x.rot with late := true } })).flag u CEL_DIG_STAT_LATE true).raiseOnce 0 0x5030 (puCel c) 1 t.ticks t.r
      else s
    s.rotFeed c
/-- DIGEST_TICK. -/
def execDigestTick (c : StackId) (s : State) : Outcome State Fault Refusal := .next (if s.unitStopped (uCEL c.val) then s else digestTick s c.val)

end Sys2Proof.Machine
end

