-- ==== Sys2Proof/Machine/Scan.lean ====
section
/-! DEFINITION. Memory scans, scan profiles, stream resynchronisation and stream windows (R146-R155). -/
namespace Sys2Proof.Machine
open Sys2Proof Host

/-- Unit number of a scan engine's page. -/
def scanUnit : ScanUnit → Nat
  | .cellar c => uCEL c.val
  | .brew => uBRW
/-- PUID that a scan engine's events carry. -/
def State.scanPuid (s : State) : ScanUnit → Nat
  | .cellar c => puCel c.val
  | .brew => s.puActive
/-- Size of a scan space (R148). -/
def spaceSize : ScanUnit → Nat → Option Nat
  | .cellar _, n => if n < 16 then some chanBytes else if n = 16 then some (16 * chanBytes) else none
  | .brew, n => if n = 0 then some 16777216 else if n ≤ 2 then some 134217728 else none
/-- Channel and channel address of a scan address in a Cellar (R148). -/
def scanPlace (space a : Nat) : Nat × Nat := if space < 16 then (space, a) else (a / chanBytes, a % chanBytes)
/-- The profile that a scan has sampled. -/
def scanProfileOf (x : ScanSt) : Profile := ⟨x.w, x.poly, x.init, x.refin, x.refout, x.xorout⟩
/-- The scan profile of a page (R134, R155). -/
def State.scProfile (s : State) (u : Nat) : Profile :=
  ⟨s.rd u CKU_SC_CFG_WIDTH, s.rd u CKU_SC_POLY, s.rd u CKU_SC_INIT, s.isSet u CKU_SC_CFG_REFIN, s.isSet u CKU_SC_CFG_REFOUT, s.rd u CKU_SC_XOR⟩
/-- A scan completes with a status and, where it has one, a valid result; else the result register is open (R152-R154). -/
def State.scanEnd (s : State) (u : Nat) (code addr : Nat) (result : Option Nat) : State :=
  let s := s.updScan u (fun x => { x with busy := false, abort := false })
  let s := (s.wr u CKU_SCAN_STAT_CODE code).flag u CKU_SCAN_STAT_BUSY false
  let s := (s.wr u CKU_SCAN_STAT_SEQ (s.rd u CKU_SCAN_STAT_SEQ + 1)).wr u CKU_SCAN_ADDR_ADDR addr
  match result with
  | some r => s.wr u CKU_SCAN_RESULT_VAL r
  | none => (s.wr u CKU_SCAN_RESULT_VAL (Config.openVal s.fresh)).draw
/-- A scan begins with its parameters sampled, and is tested in the order of R149; origin 0 the register window, 1 firmware (R149, R153). -/
def State.scanBegin (s : State) (v : ScanUnit) (origin : Nat) (p : Profile) (sp start len : Nat) (cmp : Bool) (exp : Nat) : State :=
  let u := scanUnit v
  let s := s.updScan u (fun _ => ⟨false, false, sp, start, len, cmp, exp, p.w, p.poly, p.init, p.refin, p.refout, p.xorout, 0, crcStart p, origin⟩)
  let s := s.wr u CKU_SCAN_STAT_ORIGIN origin
  if 2 ^ 40 - 64 < len then s.scanEnd u 3 start none
  else if len = 0 then s.scanEnd u 2 start (some (crcEnd p (crcStart p)))
  else match spaceSize v sp with
    | none => s.scanEnd u 4 start none
    | some n =>
      if n < start + len then s.scanEnd u 4 start none
      else (s.updScan u (fun x => { x with busy := true })).flag u CKU_SCAN_STAT_BUSY true
/-- SCAN_GO: a write of CKU_SCAN_CTRL with GO (R149, R153): refused while a scan runs or with ABORT. DESIGN CHOICE (assumption 207): CMP and SPACE of a write whose GO
is ignored for BUSY are not stored; R153 says only that the GO is ignored. -/
def scanGo (s : State) (v : ScanUnit) (data : Nat) : State :=
  let u := scanUnit v
  if bit data 30 && bit data 31 then s.flag u CKU_SCAN_STAT_OVERRUN true
  else
    let set := (s.flag u CKU_SCAN_CTRL_CMP (bit data 8)).wr u CKU_SCAN_CTRL_SPACE (bits data 4 0)
    if !bit data 31 then set
    else if (s.scan u).busy then s.flag u CKU_SCAN_STAT_OVERRUN true
    else set.scanBegin v 0 (s.scProfile u) (bits data 4 0) (s.rd u CKU_SCAN_START_ADDR) (s.rd u CKU_SCAN_LEN_LEN) (bit data 8) (s.rd u CKU_SCAN_EXP_VAL)
/-- SCAN_ABORT (R153): no effect when no scan runs. -/
def scanAbort (s : State) (v : ScanUnit) : State :=
  let u := scanUnit v
  if (s.scan u).busy then s.updScan u (fun x => { x with abort := true }) else s
/-- A scan stops at poison (R151). -/
def State.scanPoison (s : State) (v : ScanUnit) (sp line : Nat) : State :=
  (s.scanEnd (scanUnit v) 5 line none).raise 0x6021 (s.scanPuid v) sp line (line / 2 ^ 32 % 256)
/-- A line's error in a Cellar is counted; an uncorrectable one is entered and reported (R151, R600). -/
def State.scanErr (s : State) (v : ScanUnit) (sp line : Nat) (err : ReadErr) : State :=
  match v with
  | .brew => s
  | .cellar c =>
    let p := scanPlace sp line
    s.mntErrors c.val p.1 (if err = .correctable then [p.2] else []) (if err = .uncorrectable then [p.2] else []) 3
/-- A global stop holds a scan: a Cellar's from its STOP marker to its RESUME marker, the Brewhouse's while the stop is complete (R153, R404, R405). -/
def State.scanHeld (s : State) : ScanUnit → Bool
  | .cellar c => s.unitStopped (uCEL c.val)
  | .brew => s.stop.phase == 2
/-- SCAN_LINE_DONE (R150-R153): the line at the scan's place has been read; a global stop holds the scan. DESIGN CHOICE (assumption 177):
the bytes read that 0x6022 reports are those of the whole lines read. -/
def scanLineDone (s : State) (v : ScanUnit) (data : List Byte) (err : ReadErr) : State :=
  let u := scanUnit v
  let x := s.scan u
  if !x.busy || s.scanHeld v then s
  else
    let at_ := x.start + x.fed
    let line := at_ / 64 * 64
    let poisoned := match v with
      | .cellar c => (let p := scanPlace x.space line; s.granIn c.val p.1 (p.2 / 256))
      | .brew => false
    if poisoned then s.scanPoison v x.space line
    else
      let s := match v with
        | .cellar c => s.count (uCEL c.val) CEL_BYTES_MAINT 64 (scanPlace x.space line).1
        | .brew => s
      let s := s.scanErr v x.space line err
      if err = .uncorrectable then s.scanPoison v x.space line
      else
        let n := min (64 - at_ % 64) (x.len - x.fed)
        let bs := slice (data ++ List.replicate (64 - data.length) 0#8) (at_ % 64) n
        let crc := crcFeed (scanProfileOf x) x.crc bs
        let fed := x.fed + n
        let s := s.updScan u (fun x => { x with fed := fed, crc := crc })
        if fed = x.len then
          let r := crcEnd (scanProfileOf x) crc
          if x.cmp && r != x.exp % 2 ^ x.w then (s.scanEnd u 1 (x.start + fed) (some r)).raise 0x6020 (s.scanPuid v) x.space r x.exp
          else s.scanEnd u 0 (x.start + fed) (some r)
        else if x.abort then
          let bytes := ((x.start + fed + 63) / 64 - x.start / 64) * 64
          (s.scanEnd u 6 (x.start + fed) none).raise 0x6022 (s.scanPuid v) x.space bytes (bytes / 2 ^ 32 % 256)
        else s
/-- SCAN_PROFILE_WRITE: a write of CKU_SC_CFG (R133, R155). -/
def scanProfileWrite (s : State) (v : ScanUnit) (data : Nat) : State :=
  let u := scanUnit v
  let k := bits data 14 12
  if k = 0 then
    if 8 ≤ bits data 6 0 ∧ bits data 6 0 ≤ 64 then
      (((s.wr u CKU_SC_CFG_PRESET 0).wr u CKU_SC_CFG_WIDTH (bits data 6 0)).flag u CKU_SC_CFG_REFIN (bit data 8)).flag u CKU_SC_CFG_REFOUT (bit data 9)
    else s
  else match crcPreset k with
    | none => s
    | some p =>
      let s := (((s.wr u CKU_SC_CFG_PRESET k).wr u CKU_SC_CFG_WIDTH p.w).flag u CKU_SC_CFG_REFIN p.refin).flag u CKU_SC_CFG_REFOUT p.refout
      ((s.wr u CKU_SC_POLY p.poly).wr u CKU_SC_INIT p.init).wr u CKU_SC_XOR p.xorout
/-- STREAM_RESYNC: a write of CKU_STRM_CTRL (R146): the selected receive stream or window, at its next SOP. -/
def streamResync (s : State) (v : StreamUnit) (data : Nat) : State :=
  if !bit data 0 then s
  else match v with
    | .door n =>
      if s.isSet (uDOR n.val) CKU_STRM_SEL_DIR then
        s.updStream (skey n.val 1 (s.rd (uDOR n.val) CKU_STRM_SEL_STREAM)) (fun x => { x with resync := true })
      else s
    | .cellar c => s.updWinStream (4096 * c.val + s.rd (uCEL c.val) CKU_STRM_SEL_STREAM) (fun x => { x with resync := true })
/-- WINDOW_APPLY: a write of CKU_WIN_BASE_HI (R146, R147). -/
def windowApply (s : State) (c data : Nat) : State :=
  let k := 4096 * c + s.rd (uCEL c) CKU_WIN_SEL_WIN
  (s.updWin k (fun w => { w with
    en := bit data 31, chan := bits data 7 4, base := w.heldBase + bits data 3 0 * 2 ^ 32, gran := w.heldGran })).updWinStream k
    (fun x => { x with sync := false, resync := false })

end Sys2Proof.Machine
end

