-- ==== Sys2Proof/Machine/Loft.lean ====
section
/-! DEFINITION. The Loft: trace segments in stack memory, attribution bins and the counter bank's configuration (R409-R419). -/
namespace Sys2Proof.Machine
open Sys2Proof Host

/-- Segment size Z in MiB under the Loft size and the record-and-replay share in force (R411). -/
def State.loftZ (s : State) : Nat := (s.rd uLFT LFT_CFG_SIZE_GIB 1 * 1024 - s.rd uPRV PRV_REC_CFG_MIB 1) / nClusters
/-- Records of a segment (R411). -/
def State.segCap (s : State) : Nat := s.loftZ * 32768
/-- Key of record `i` of a Taster's segment: channel 14 of stack 4f + (j mod 4), downward from the channel's top in ascending j (R411, R412). -/
def State.segKey (s : State) (k i : Nat) : Nat :=
  let f := k / 10
  let j := k % 10
  stackKey (4 * f + j % 4) 14 (0x120000000 - (j / 4 + 1) * (s.loftZ * 2 ^ 20) + 32 * i)
/-- The 32 bytes of a record (R412). -/
def recBytes (x : TraceRec) : List Byte :=
  leBytes 8 x.wall ++ leBytes 8 (x.type % 2 ^ 8 * 2 ^ 56 + x.flags % 2 ^ 6 * 2 ^ 50 + x.core % 2 ^ 10 * 2 ^ 40 + x.cyc % 2 ^ 40)
    ++ leBytes 8 (x.step % 2 ^ 48 * 2 ^ 16 + x.ctx % 2 ^ 12 * 2 ^ 4) ++ leBytes 8 (x.layer % 2 ^ 16 * 2 ^ 48 + x.op % 2 ^ 16 * 2 ^ 32 + x.param % 2 ^ 32)
/-- A record carried by bulk to its segment and written there (R42, R43); a segment that fills wraps, or stops under Stop (R412, R414, R416). -/
def State.segWrite (s : State) (k : Nat) (x : TraceRec) : State :=
  let g := s.seg k
  let cap := s.segCap
  if g.stopped ∨ cap = 0 then
    ((s.updSeg k (fun g => { g with dropped := g.dropped + 1 })).count uLFT LFT_SEG_DROPPED_COUNT 1 k).raiseOnce 0 0x9040 (puTst k) (g.dropped + 1) 3
  else
    let s := (s.bulk (puTst k) (puCel (4 * (k / 10) + k % 10 % 4)) (recBytes x)).poke (s.segKey k g.next) (recBytes x)
    if g.next + 1 < cap then s.updSeg k (fun g => { g with next := g.next + 1 })
    else if s.isSet uLFT LFT_CFG_MODE then
      (s.updSeg k (fun g => { g with next := cap, stopped := true })).raiseOnce 0 0x9041 (puTst k) cap
    else s.updSeg k (fun g => { g with next := 0, wrapped := true, wraps := satAdd 65535 g.wraps 1 })
/-- Every record of a Taster's buffer written to its segment (R404, R414). -/
def State.segFlush (s : State) (k : Nat) : State :=
  let b := (s.seg k).buffer
  (s.updSeg k (fun g => { g with buffer := [] })).each b (fun s x => s.segWrite k x)
/-- TRACE_WRITE (R414-R416): the oldest record of the buffer is written when the mesh accepts it, and waits otherwise. -/
def traceWrite (s : State) (k : Nat) (accepted : Bool) : State :=
  match (s.seg k).buffer with
  | [] => s
  | x :: xs => if accepted then (s.updSeg k (fun g => { g with buffer := xs })).segWrite k x else s
/-- TRACE_WRITE. -/
def execTraceWrite (k : ClusterId) (accepted : Bool) (s : State) : Outcome State Fault Refusal :=
  .next (if s.stageHeld k.val 7 then s else traceWrite s k.val accepted)
/-- TRACE_RESTART (R416): a 1 returns every segment to index 0 and clears WRAPPED and STOPPED. -/
def traceRestart (s : State) (data : Nat) : State :=
  if bit data 0 then
    { s with segs := (s.segs.map (fun e => (e.1, { e.2 with next := 0, wrapped := false, stopped := false }))).filter (fun e => decide (e.2 ≠ seg0 e.1)) }
  else s
/-- A Taster that writes records for a cluster is there: its own, or an adopter (R413, R414). -/
def State.tracing (s : State) (k : Nat) : Bool :=
  !s.regionLost (regionOfCluster k) && !(s.unit (puTst k)).absent && (s.tstTrusted k || (s.adjOf k).adopter.isSome)
/-- Every cluster. -/
def allClusters : List Nat := List.range (10 * Config.host.fields)
/-- TRACE_MARK (R413): a write of LFT_MARK makes every Taster write a record of TYPE 0x53. -/
def traceMark (s : State) (data : Nat) : State :=
  s.each (allClusters.filter s.tracing) (fun s k => s.trace k 7 0x53 none none data)
/-- Word `j` of the record that LFT_RD_INDEX selects in the segment of LFT_SEL (R418). -/
def State.loftWord (s : State) (j : Nat) : Nat :=
  let k := s.rd uLFT LFT_SEL_TASTER
  let i := s.rd uLFT LFT_RD_INDEX_INDEX
  if k < 10 * Config.host.fields ∧ i < s.segCap then leNat (s.peek (s.segKey k i + 4 * j) 4) else 0
/-- LOFT_WINDOW_READ (R418): a read of LFT_RD_WIN7 answers the record's last word and advances the index. -/
def loftWindowRead (s : State) : State :=
  (s.wr uLFT LFT_RD_INDEX_INDEX (s.rd uLFT LFT_RD_INDEX_INDEX + 1)).emit (.word (BitVec.ofNat 32 (s.loftWord 7)))

/-- ATTRIBUTION_BIN_WRITE (R409, R433): MATCH, MASK and EN go to the selected bin, in every Taster where BCAST is set. -/
def attributionBinWrite (s : State) (k data : Nat) : State :=
  let u := uTST k
  let b := s.rd u TST_ATB_SEL_BIN
  let x : BinSt := ⟨s.rd u TST_ATB_MATCH_LAYER, s.rd u TST_ATB_MATCH_OP, s.rd u TST_ATB_MASK_LAYER, s.rd u TST_ATB_MASK_OP, bit data 0⟩
  let ks := if s.isSet u TST_ATB_SEL_BCAST then allClusters else [k]
  (s.flag u TST_ATB_CTRL_EN (bit data 0)).each ks (fun s k => s.updBin (64 * k + b) (fun _ => x))
/-- COUNTER_CONFIG_WRITE (R410, R433): the selected counter of the bank takes an event and a filter, and is cleared. -/
def counterConfigWrite (s : State) (k data : Nat) : State :=
  let i := s.rd (uTST k) TST_CNT_SEL_INDEX
  (s.updBankCfg (128 * k + i) (fun _ => ⟨bits data 5 0, bits data 14 8⟩)).zeroCnt (uTST k) TST_CNT_COUNT i

end Sys2Proof.Machine
end

