-- ==== Sys2Proof/Machine/Report.lean ====
section
/-! DEFINITION. What becomes of an event: its Attic record, its history entry, its report on the management network (R26, R257, R379, R380, R425-R431, R569, R570). -/
namespace Sys2Proof.Machine
open Sys2Proof Host

/-- Records that the Attic holds, and that staging holds (R425, R428). -/
def atticSize : Nat := 131072
def stagingSize : Nat := 2048
/-- Reports that the queue holds (R570). -/
def reportSize : Nat := 512

/-- The source's region clock is stretched or stopped (R417, R426). -/
def State.stretchedAt (s : State) (p : Nat) : Bool :=
  let r := regionOfPuid p
  s.rd (uHAL r) HAL_THM_STAT_LEVEL != 0 || (s.seg ((clustersOf r).headD 0)).stretched
/-- Word 0 of an event's record: CODE, SEV and FLAGS as they stand when it is recorded (R426). -/
def State.recWord0 (s : State) (e : Ev) : Nat :=
  let n (b : Bool) (i : Nat) := if b then 2 ^ i else 0
  e.code % 2 ^ 16 * 2 ^ 16 + sevOf e.code * 2 ^ 8
    + (n e.carried 0 + n s.absent 1 + n s.stopped 2 + n s.dbg.until_.isSome 3 + n (s.stretchedAt e.puid) 4)
/-- The record of an event under a sequence number (R426). -/
def State.atticRec (s : State) (e : Ev) (seq : Nat) : AttRec :=
  ⟨s.recWord0 e, s.attic.pcyc % 2 ^ 32, s.optime % 2 ^ 32, seq, e.puid, e.p5, e.p6, e.p7⟩
/-- Words 0 to 7 of a record. -/
def recWords (a : AttRec) : List Nat := [a.code, a.pcyc, a.optime, a.seq, a.puid, a.p5, a.p6, a.p7]

/-- The token buckets filled for the whole seconds that have passed (R570; assumption 17). -/
def State.mgmtFill (s : State) : State :=
  let n := (s.now - s.mgt.filled) / 1000000000
  if n = 0 then s
  else
    let rate := s.rd uBRW BRW_MGT_CFG_RATE
    let top := s.rd uBRW BRW_MGT_CFG_BURST
    { s with mgt := { s.mgt with filled := s.mgt.filled + n * 1000000000, tokens := s.mgt.tokens.map (fun t => min top (t + n * rate)) } }
/-- The queue without the newest of its reports of a SEV. -/
def dropNewest (sev : Nat) (q : List Rpt) : List Rpt :=
  match q.reverse.findIdx? (fun x => x.sev == sev) with
  | some i => (q.reverse.eraseIdx i).reverse
  | none => q
/-- A report put in the queue; a full queue gives up the newest report of its lowest SEV to one of higher SEV, and
otherwise takes none (R570). -/
def State.mgmtPut (s : State) (x : Rpt) (head : Bool := false) : State :=
  let put (s : State) (q : List Rpt) : State := { s with mgt := { s.mgt with queue := if head then x :: q else q ++ [x] } }
  let q := s.mgt.queue
  if q.length < reportSize then put s q
  else
    let low := (q.map (·.sev)).foldl min 4
    let gone := if low < x.sev then (q.reverse.find? (fun y => y.sev == low)).getD x else x
    let s := if low < x.sev then put s (dropNewest low q) else s
    let s := s.count uBRW BRW_MGT_DROP_COUNT
    s.raiseOnce 0 0xB030 s.puActive (s.cnt uBRW BRW_MGT_DROP_COUNT) ((gone.record.headD 0) / 2 ^ 28)
/-- An event's report (R569, R570): a stage report, or an event that spends a token of its class unless it is of SEV 4. -/
def State.mgmtEvent (s : State) (e : Ev) (a : AttRec) : State :=
  let s := s.mgmtFill
  let c := e.code / 2 ^ 12
  let sev := sevOf e.code
  if c = 0 then s.mgmtPut ⟨2, sev, recWords a, []⟩
  else if sev = 4 then s.mgmtPut ⟨0, sev, recWords a, []⟩
  else
    let t := s.mgt.tokens.getD c 0
    if t = 0 then
      let x := s.mgt.supp.getD c (0, 0, 0)
      { s.count uBRW BRW_MGT_DROP_COUNT with mgt := { s.mgt with supp := s.mgt.supp.set c (x.1 + 1, if x.1 = 0 then e.code else x.2.1, e.code) } }
    else ({ s with mgt := { s.mgt with tokens := s.mgt.tokens.set c (t - 1) } } : State).mgmtPut ⟨0, sev, recWords a, []⟩

/-- Records in the partitions and in staging; while an erase runs, the record of the clear and what is staged (R425, R430). -/
def State.atticCount (s : State) : Nat :=
  (if s.attic.erasing.isSome then 1 else s.attic.flash.length) + s.attic.staged.length
/-- An event that the recorder itself makes and writes at once (R429, R430). -/
def State.ownEvent (s : State) (code p5 p6 : Nat) : Ev := ⟨code, s.puActive, p5 % 2 ^ 32, p6 % 2 ^ 32, 0, s.now, none, false, false, true⟩
/-- Such an event goes to the Hall of the Brewhouse's region and to the standby too (R26). -/
def State.ownTold (s : State) (code : Nat) : State :=
  s.emits [.ask 0x26 s.puActive (puHal (bhRegion s.active)) code, .ask 0x26 s.puActive (puBrw s.standby) code]
/-- A record that leaves one slot free, or has taken 0xFFFF_FFFE, is followed by 0x9050, and the recorder stops (R427, R429). -/
def State.atticClose (s : State) : State :=
  let q := s.attic.nextSeq
  if s.atticCount + 1 ≠ atticSize ∧ q ≠ 0xFFFFFFFF then s
  else
    let s := s.evt uBRW 9
    let e := s.ownEvent 0x9050 (s.atticCount + 1) 0
    let r := s.atticRec e q
    let s : State := { s with attic := { s.attic with
      staged := s.attic.staged ++ [r], full := true, nextSeq := q + 1, lastSeq := q } }
    (s.mgmtEvent e r).ownTold 0x9050
/-- A record dropped and counted (R428, R429). -/
def State.atticDrop (s : State) : State := { s with attic := { s.attic with dropped := satAdd (2 ^ 32 - 1) s.attic.dropped 1 } }
/-- An event recorded: its sequence number, 0 where the Attic did not record it, and the state after (R427-R429). -/
def State.recordEvent (s : State) (e : Ev) : Nat × State :=
  let a := s.attic
  if a.full || decide (0xFFFFFFFF ≤ a.nextSeq) then (0, s.atticDrop)
  else if stagingSize ≤ a.staged.length then
    (0, (s.atticDrop.flag uATT ATT_STAT_STAGEOVF true).raiseOnce 0 0x9052 s.puActive (satAdd (2 ^ 32 - 1) a.dropped 1))
  else
    let q := a.nextSeq
    let r := s.atticRec e q
    (q, { s with attic := { a with staged := a.staged ++ [r], nextSeq := q + 1, lastSeq := q } })

/-- The active Brewhouse records: its bring-up has passed stage 3 (R512), and it runs: with both Brewhouses lost nothing is recorded (R71). -/
def State.recording (s : State) : Bool := decide (4 ≤ s.fw.stage) && s.bhAlive s.active
/-- An event reaches the Hall of its region, where its source is no Hall (R26). -/
def State.tellHall (s : State) (e : Ev) : State :=
  if e.told || puidKind e.puid = 3 then s else s.emit (.ask 0x26 e.puid (puHal (regionOfPuid e.puid)) e.code)
/-- EVENT_RECORD (R26, R257, R425-R429, R569): the oldest event on its way reaches both Brewhouses and, where its source is no Hall, the Hall of its
region; the active one records it, and with that the standby's copy goes; it makes its history entry and is reported. While none records, the Halls
have their copies and the events wait (R71). -/
def eventRecord (s : State) : State :=
  match s.transit with
  | [] => s
  | e :: es =>
    if !s.recording then { s.each s.transit State.tellHall with transit := s.transit.map (fun e => { e with told := true }) }
    else
      let (q, s) := ({ s.tellHall e with transit := es } : State).recordEvent e
      let s := s.mgmtEvent e (s.atticRec e q)
      let s := match e.hist with
        | some (p, h) => s.histEntry p { h with seq := q }
        | none => s
      if q = 0 then s else s.atticClose
/-- EVENT_RECORD. -/
def execEventRecord (s : State) : Outcome State Fault Refusal := .next (eventRecord s)

/-- Staged records programmed to both devices (R428). -/
def State.atticFlush (s : State) : State :=
  if s.attic.erasing.isSome then s else { s with attic := { s.attic with flash := s.attic.flash ++ s.attic.staged, staged := [] } }
/-- ATTIC_PROGRAM (R71, R428, R430): while an erase runs, staged records wait for it; with no active Brewhouse nothing is written. -/
def execAtticProgram (s : State) : Outcome State Fault Refusal := .next (if s.firmDown || !s.bhAlive s.active then s else s.atticFlush)
/-- A clear of the Attic begins: what is staged is programmed, and the sequence number of 0x9051 is taken (R427, R430). -/
def State.atticErase (s : State) : State :=
  let a := s.attic
  if a.erasing.isSome || decide (0xFFFFFFFF ≤ a.nextSeq) then s
  else
    let s := s.atticFlush
    { s with attic := { s.attic with erasing := some (s.attic.flash.length, a.lastSeq), nextSeq := a.nextSeq + 1, lastSeq := a.nextSeq, full := false } }
/-- ATTIC_ERASE_DONE (R430): both partitions are empty, the counts clear, and 0x9051 stands at index 0, before what was staged. -/
def atticEraseDone (s : State) : State :=
  match s.attic.erasing with
  | none => s
  | some (held, last) =>
    let s := s.evt uBRW 9
    let e := s.ownEvent 0x9051 held last
    let r := s.atticRec e (last + 1)
    let s : State := { s with attic := { s.attic with flash := [r], erasing := none, dropped := 0 } }
    ((s.mgmtEvent e r).ownTold 0x9051).atticClose
/-- ATTIC_ERASE_DONE. -/
def execAtticEraseDone (s : State) : Outcome State Fault Refusal := .next (atticEraseDone s)
/-- The record at an index; zeros at or beyond COUNT (R431). -/
def State.atticAt (s : State) (i : Nat) : List Nat :=
  (((s.attic.flash ++ s.attic.staged)[i]?).map recWords).getD (List.replicate 8 0)
/-- ATTIC_WINDOW_READ (R431): a read of ATT_WIN7 answers word 7, latches word 3 and advances the cursor. -/
def atticWindowRead (s : State) : State :=
  let i := s.rd uATT ATT_CURSOR_INDEX
  let w := s.atticAt i
  ((s.wr uATT ATT_LASTSEQ_SEQ (w.getD 3 0)).wr uATT ATT_CURSOR_INDEX ((i + 1) % atticSize)).emit (.word (BitVec.ofNat 32 (w.getD 7 0)))

/-- Power cycles that the limit still permits in the present window (R380). -/
def State.pcAllowance (s : State) : Nat :=
  s.rd uBRW BRW_PWRCYC_CFG_LIMIT - (s.pad.times.filter (fun t => decide (s.optime < t + 98304))).length
/-- The allowance rewritten in the pad logic (R380). -/
def State.padRewrite (s : State) : State := { s with pad := { s.pad with allow := s.pcAllowance } }
/-- OPTIME_ADVANCE (R427, R380): the counter advances, and the window of 24 hours moves. -/
def optimeAdvance (s : State) : State :=
  ({ s with attic := { s.attic with n := s.attic.n + 1, nWall := s.now } } : State).padRewrite
/-- OPTIME_ADVANCE. -/
def execOptimeAdvance (s : State) : Outcome State Fault Refusal := .next (optimeAdvance s)

end Sys2Proof.Machine
end

