-- ==== Sys2Proof/Machine/Seeds.lean ====
section
/-! DEFINITION. Seeds and their setting, the draw port and DRW_CALC (R448-R453), and the input digest (R457). -/
namespace Sys2Proof.Machine
open Sys2Proof Host

/-- The input digest of a context chained over one more DIGEST (R457, R468). -/
def State.inputChain (s : State) (c digest : Nat) : State :=
  let old := Tab.get (fun _ => 0) s.prv.ind c
  { s with prv := { s.prv with ind := Tab.put (fun _ => 0) s.prv.ind c (sha3Nat (leBytes 32 old ++ leBytes 32 digest)) } }
/-- A seed takes effect: a KIND 2 entry is recorded and the input digest goes on (R448, R468). -/
def State.seedTake (s : State) (c seed : Nat) : State :=
  let b := leBytes 16 seed
  ((s.updSeedOf c (fun _ => some seed)).record 2 c 0 b).inputChain c (sha3Nat b)
/-- A seed is refused: STATUS 2 and 0xD031 (R449). -/
def State.seedRefuse (s : State) (c : Nat) : State := (s.wr uDRW DRW_SEED_CTRL_STATUS 2).raiseOnce 0 0xD031 s.puActive c
/-- A seed may be set: the context is free, or in use and has not drawn (R449). -/
def State.seedMay (s : State) (c : Nat) : Bool :=
  c != 0 && ((s.ctx c).state == 0 || ((s.ctx c).state == 1 && !(s.ctx c).drawn))
/-- A SET every Hall has answered is decided, and held loads are served (R449). -/
def State.seedDecide1 (s : State) (x : SeedSet) : State :=
  let s : State := { s with prv := { s.prv with setting := s.prv.setting.filter (fun y => !y.left.isEmpty) } }
  let s := if x.refused then s.seedRefuse x.ctx else (s.wr uDRW DRW_SEED_CTRL_STATUS 1).seedTake x.ctx x.seed
  let s := if s.prv.setting.any (fun y => y.ctx == x.ctx) then s
    else s.each (s.prv.heldLoads.filter (fun e => e.2 == x.ctx)) (fun s e => s.seedServe e.1 e.2)
  match x.msg with
  | some m => if x.refused then s.refuse m 5 else s.answer m 0 []
  | none => s
/-- Every SET whose Halls have all answered is decided, oldest first (R449). -/
def State.seedDecide (s : State) : State := s.each (s.prv.setting.filter (fun x => x.left.isEmpty)) (fun s x => s.seedDecide1 x)
/-- A SET begins: refused at once, or sent to every Hall (R449). -/
def State.seedSet (s : State) (c seed : Nat) (m : Option Msg) : State :=
  if !s.seedMay c then
    let s := s.seedRefuse c
    match m with
    | some m => s.refuse m 5
    | none => s
  else
    let rs := (List.range Config.host.regions).filter (fun r => !s.regionLost r && !(s.unit (puHal r)).absent && !(s.unit (puHal r)).off)
    let s : State := { s.wr uDRW DRW_SEED_CTRL_STATUS 3 with prv := { s.prv with setting := s.prv.setting ++ [⟨c, seed, rs, false, m⟩] } }
    (s.emits (rs.map (fun r => .ask 0x449 s.puActive (puHal r) c))).seedDecide
/-- DRW_SEED_SET (R449): a write of DRW_SEED_CTRL; a SET while one is under decision is decided beside it. -/
def drwSeedSet (s : State) (data : Nat) : State :=
  if !bit data 31 then s else s.seedSet (s.rd uDRW DRW_SEED_SEL_CTX) (s.rd uDRW DRW_SEED) none
/-- A Hall's answer to one SET. -/
def seedAnswerOf (x : SeedSet) (r : Nat) (refuse : Bool) : SeedSet := { x with left := x.left.filter (· != r), refused := x.refused || refuse }
/-- A Hall is LOST: it leaves every decision to the others (R449). -/
def State.seedAnswered (s : State) (r : Nat) (refuse : Bool) : State :=
  State.seedDecide { s with prv := { s.prv with setting := s.prv.setting.map (fun x => if x.left.contains r then seedAnswerOf x r refuse else x) } }
/-- SEED_SET_ANSWER (R449): the Hall answers the oldest SET it has not answered. A Hall that has served a load of the context
refuses; any other holds the seed and accepts. -/
def seedSetAnswer (s : State) (r : Nat) : State :=
  match s.prv.setting.findIdx? (fun x => x.left.contains r) with
  | none => s
  | some i => State.seedDecide { s with prv := { s.prv with setting := s.prv.setting.modify i (fun x => seedAnswerOf x r (s.prv.served.contains (r, x.ctx))) } }
/-- SEED_SET_ANSWER. -/
def execSeedSetAnswer (r : RegionId) (s : State) : Outcome State Fault Refusal := .next (seedSetAnswer s r.val)

/-- DRAW_REQUEST (R447, R449, R450, R452): accepted, and its result presented, once the context's seed is in the cache;
one behind another that waits waits with it, and none is acknowledged during a global stop. -/
def drawRequest (s : State) (k c layer op step idx : Nat) : State :=
  if s.unitStopped (uTST k) then s
  else
    let ctr := drawCounter c layer op step (2 ^ 35 + idx % 2 ^ 35)
    let s := s.noteDraw c
    State.drawDrain k ((s.rplOf k).drawWait ++ [ctr]) s
/-- DRAW_REQUEST. -/
def execDrawRequest (k : ClusterId) (ctx : Ctx) (layer oper : BitVec 16) (step : Step) (idx : BitVec 35) (s : State) : Outcome State Fault Refusal :=
  .next (drawRequest s k.val ctx.toNat layer.toNat oper.toNat step.toNat idx.toNat)
/-- DRAW_CALC (R453): a write of DRW_CALC_CTRL. -/
def drawCalc (s : State) (data : Nat) : State :=
  let s := s.wr uDRW DRW_CALC_CTRL_KEYSEL data
  if !bit data 31 then s
  else
    let ctr := s.rd uDRW DRW_CALC_CTR
    let c := s.rd uDRW DRW_SEED_SEL_CTX
    let own := bit data 0
    if !own && !bit ctr 35 then s.wr uDRW DRW_CALC_STAT_CODE 2
    else
      let s := if !own && s.unseeded c then s.count uDRW DRW_STAT_UNSEEDED else s
      (s.wr uDRW DRW_CALC_OUT (drawOf (if own then s.rd uDRW DRW_KAT_KEY else s.seedNow c) ctr)).wr uDRW DRW_CALC_STAT_CODE 1

/-- An identifier becomes free: its seed and every cached copy are gone, its chain and last digest with them (R385, R448, R459). -/
def State.seedFree (s : State) (c : Nat) : State :=
  let s := s.updSeedOf c (fun _ => none)
  let s : State := { s with
    prv := { s.prv with ind := Tab.put (fun _ => 0) s.prv.ind c 0, chain := Tab.put (fun _ => 0) s.prv.chain c 0
                        served := s.prv.served.filter (fun e => e.2 != c), input := s.prv.input.filter (fun e => e.1 != c) }
    rpl := s.rpl.map (fun e => (e.1, { e.2 with seeds := e.2.seeds.filter (fun y => y.1 != c) })) }
  let s : State := { s with rpl := s.rpl.filter (fun e => decide (e.2 ≠ rplOf0 e.1)) }
  (((s.wr uPRV PRV_CTX_CFG_PROV 0 c).wr uPRV PRV_LASTSTEP_STEP 0 c).wr uPRV PRV_DIG 0 c).wr uPRV PRV_STAT_BROKEN 0 c

end Sys2Proof.Machine
end

