-- ==== Sys2Proof/Machine/Cuts.lean ====
section
/-! DEFINITION. Cuts, the global stop, the conservation audit and void accounts (R385, R392-R406, R420-R424). -/
namespace Sys2Proof.Machine
open Sys2Proof Host

/-- A class 1 wafer broadcast of the active Brewhouse with one payload flit (R31, R394). -/
def State.castCut (s : State) (type payload : Nat) : State :=
  let f := Config.host.brewField s.active
  s.routePacket f ⟨mkHead 1 1 0 0 f 18 2 (s.brew s.active).reign type, [BitVec.ofNat 64 payload]⟩
/-- Code of a cut's kind (R394). -/
def kindNo : CutKind → Nat
  | .count => 0
  | .stop => 1
  | .resume => 2
/-- Voids whose cause has come since the last cut began are declared, each by 0x9011 (R424). -/
def State.declareVoids (s : State) : State :=
  let new := s.voids.filter (fun v => !v.declared)
  let s := s.each new (fun s v => s.raise 0x9011 s.puActive v.cause v.place (cutName s.cutNo))
  { s with voids := s.voids.map (fun v => { v with declared := true }) }
/-- A cut begins (R392, R394, R424, R460): its number, CUT_BEGIN, voids declared, pair configuration taken. -/
def State.startCut (s : State) (k : CutKind) : State :=
  let n := s.cutNo + 1
  let s : State := { s with cutNo := n, cut := some ⟨n, k, s.now, 0, 0, 0, []⟩, cutDue := false }
  ((s.flag uBRW BRW_CUT_STAT_BUSY true).castCut 1 (cutName n + kindNo k * 2 ^ 32)).declareVoids.pairApply
/-- A request ignored: OVERRUN (R401, R406). -/
def State.cutOverrun (s : State) : State := s.flag uBRW BRW_CUT_STAT_OVERRUN true
/-- CUT_START (R392, R401, R404, R499): a periodic cut that falls due while one runs, or while a processor of the active
Brewhouse restarts, waits; during a stop none starts. -/
def cutStart (s : State) : State :=
  if s.stopped then s else if s.cut.isSome || s.firmDown then { s with cutDue := true } else s.startCut .count
/-- CUT_START. -/
def execCutStart (s : State) : Outcome State Fault Refusal := .next (cutStart s)
/-- A cut that waited for a processor's restart starts (R499). -/
def State.cutWaited (s : State) : State := if s.cutDue && !s.stopped && s.cut.isNone && !s.firmDown then s.startCut .count else s
/-- CUT_GO (R392, R401). -/
def cutGo (s : State) : State := if s.cut.isSome then s.cutOverrun else if s.firmDown then { s with cutDue := true } else s.startCut .count
/-- A global stop requested: 1 register, 2 Moldom (R403, R406): refused while no debug unlock is in force. -/
def State.stopReq (s : State) (origin : Nat) : State :=
  if s.dbg.until_.isNone then s.raise 0x9022 s.puActive origin
  else if s.stopped ∨ s.cut.isSome then s.cutOverrun
  else State.startCut { s with stop := ⟨1, s.now, 0, origin⟩ } .stop
/-- The RESUME cut starts (R405): 1 request, 2 STOP_MAX_S. -/
def State.resumeCut (s : State) (cause : Nat) : State := State.startCut { s with stop := { s.stop with phase := 3, cause := cause } } .resume
/-- A resume requested (R405, R406). -/
def State.resumeReq (s : State) : State := if s.stop.phase = 2 ∧ s.cut.isNone then s.resumeCut 1 else s.cutOverrun
/-- STOP_MAX_TIMEOUT (R405): STOP_MAX_S has passed; the RESUME cut waits for a cut that runs. -/
def stopMaxTimeout (s : State) : State :=
  if s.stop.phase ≠ 2 ∨ s.rd uBRW BRW_CUT_CFG_STOP_MAX_S = 0 then s
  else if s.cut.isSome then { s with stop := { s.stop with cause := 2 } } else s.resumeCut 2
/-- STOP_MAX_TIMEOUT. -/
def execStopMaxTimeout (s : State) : Outcome State Fault Refusal := .next (stopMaxTimeout s)

/-- Number of a unit in the table of cut units: the Brewhouses apart, the active one's pages being the wafer's. -/
def cutKey : Node → Nat
  | .brew .a => 0x202000
  | .brew .b => 0x202001
  | u => nodeUnit u
/-- The runs of unit numbers whose counters a unit copies at its marker, its edge cells' with its own (R395). -/
def State.markRuns (s : State) : Node → List (Nat × Nat)
  | .hall r => (uHAL r.val, uHAL r.val + 1) :: (s.gatesOf r.val).map (fun g => (uGATE g, uGATE g + 1))
  | .taster k => [(uTST k.val, uTST k.val + 1), (uTAP k.val 0, uTAP (k.val + 1) 0)]
  | .cellar c => [(uCEL c.val, uCEL c.val + 1)]
  | .door n => [(uDOR n.val, uDOR n.val + 1)]
  | .router f => [(uRTR f.val, uRTR f.val + 1)]
  | .brew w => if w = s.active then [(0, 0x40)] else []
/-- Keys of the counters of a run of units, and of a Taster's dropped trace records, which its own marker takes (R435). -/
def State.markKeys (s : State) (u : Node) : List (Nat × Nat) :=
  let lft := fkey uLFT LFT_SEG_DROPPED_COUNT 0
  match u with
  | .taster k => (lft + k.val, lft + k.val + 1) :: (s.markRuns u).map (fun r => (ukey r.1, ukey r.2))
  | .brew _ => (s.markRuns u).flatMap (fun r => [(ukey r.1, lft), (lft + 1024, ukey r.2)])
  | _ => (s.markRuns u).map (fun r => (ukey r.1, ukey r.2))
/-- Every counter of a run of keys copied into the bank being filled; epoch counters restart (R395, R402). -/
def State.copyRun (s : State) (lo hi : Nat) : State :=
  { s with
    fill := Tab.cover (Tab.range lo hi s.ecnt) (Tab.cover (Tab.range lo hi s.rcnt) (Tab.drop lo hi s.fill))
    ecnt := Tab.drop lo hi s.ecnt }
/-- The filled bank of a run of keys presented (R399). -/
def State.showRun (s : State) (lo hi : Nat) : State := { s with shown := Tab.cover (Tab.range lo hi s.fill) (Tab.drop lo hi s.shown) }

/-- The unit that counts a PUID's events by epochs: the one whose marker it takes (R393, R395). -/
def puidNode (p : Nat) : Nat :=
  let k := puidMajor p
  match puidKind p with
  | 0 => uTST k
  | 1 => uTST k
  | 2 => uTST k
  | 4 => 0x202000 + k
  | 5 => uCEL k
  | 6 => uDOR k
  | 7 => uRTR k
  | 8 => uCEL k
  | 9 => uDOR k
  | _ => uHAL (regionOfPuid p)
/-- A unit is there to take a marker: neither lost nor held in reset (R400). -/
def State.markable (s : State) (u : Node) : Bool :=
  !s.regionLost (nodeRegion u) && !(s.unit (puNode u)).off && !(s.unit (puNode u)).absent && (match u with | .brew w => s.bhAlive w | _ => true)

/-- The difference of an account of unsigned 64-bit counts. -/
def accDiff (l r : List Nat) : Int := (l.map Int.ofNat).sum - (r.map Int.ofNat).sum
/-- An audit fails: 0x9010 with its account and signed difference (R423). -/
def State.auditFail (s : State) (p account : Nat) (d : Int) : State :=
  (s.count uBRW BRW_AUD_FAIL_COUNT).raise 0x9010 p account (d % 2 ^ 32).toNat (cutName s.cutNo)
/-- A place's accounts are void: its region lost, or its field cut off (R424). -/
def State.voidAt (s : State) (f : Nat) : Bool := s.regionLost (regionOfField f) || s.cutoff.contains f
/-- A Door's accounts: transmit bytes, receive bytes, credits, with their differences (R421; assumption 36). -/
def State.doorAudit (s : State) (n : Nat) (x : Sample) : List (Nat × Int) :=
  let c (i : Nat) := s.cnt (uDOR n) DOR_BYTES_BYTES i
  let tx := accDiff [c dTXI, x.inTx, c dINS, c dAPP] [c dTXO, c dABSTX, x.heldTx]
  let rx := accDiff [c dRXI, x.inRx] [c dRXO, c dDIV, c dSTRIP, c dABSRX, x.heldRx]
  let out := accDiff [s.cnt (uDOR n) DOR_CR_ISS_COUNT] [s.cnt (uDOR n) DOR_CR_RET_COUNT, s.cnt (uDOR n) DOR_CR_CONS_COUNT, x.inRx / 16]
  let past : Int := match s.variant.cap with
    | some l => out - ((l.getD n 0 : Int) - x.occ)
    | none => 0
  let cr : Int := if out < 0 then out else if 0 < past then past else 0
  [(1, tx), (2, rx), (3, cr)].filter (fun a => a.2 ≠ 0)
/-- A Door's audit at its marker; a failed account Shutters the link (R421, R423, R434). -/
def State.auditDoor (s : State) (n : Nat) (x : Sample) : State :=
  if (s.door n).shut || s.voidAt (Config.host.linkField n) then s
  else
    let bad := s.doorAudit n x
    let s := s.each bad (fun s a => (s.auditFail (puDor n) a.1 a.2).wr (uDOR n) DOR_AUD_STAT_FAILED
      (orBit (s.rd (uDOR n) DOR_AUD_STAT_FAILED) (a.1 - 1)))
    if bad.isEmpty then s else s.shutLink n
/-- A gate cell's audit at its Hall's marker: IN + NOTE = OUT + DISC + 16·HELD (R421, R423). -/
def State.auditGate (s : State) (r g : Nat) : State :=
  let u := uGATE g
  if (s.gate g).audited || (decide (g < nLinks) && (s.door g).shut) || s.voidAt (if g < nLinks then Config.host.linkField g else s.pcieField) then s
  else
    let d := accDiff [s.cnt u HCH_IN_BYTES, s.cnt u HCH_NOTE_BYTES] [s.cnt u HCH_OUT_BYTES, s.cnt u HCH_DISC_BYTES, 16 * heldGran (s.gate g).held]
    if d = 0 then s
    else
      let s := (s.auditFail (puHal r) 4 d).updGate g (fun y => { y with audited := g == nLinks })
      if g < nLinks then s.shutLink g else s.gateWithholdAll g 7 (fun b => b.priv)
/-- The read paths' audit at a Cellar's marker: RDI = DELIV + LOOP + ABS + HELD (R421, R423). -/
def State.auditCellar (s : State) (c : Nat) (x : Sample) : State :=
  if s.voidAt (fieldOfStack c) then s
  else s.each (List.range 16) (fun s ch =>
    let u := uCEL c
    let d := accDiff [s.cnt u CEL_BYTES_RDI_BYTES ch, x.inRd.getD ch 0] [s.cnt u CEL_BYTES_DELIV ch, s.cnt u CEL_BYTES_LOOP_BYTES ch,
      (s.cel c).absorbed.getD ch 0, x.held.getD ch 0]
    if d = 0 then s
    else ((s.auditFail (puChan c ch) 5 d).flag u CEL_AUD_STAT_FAILED true ch).suspectChan c ch 4)

/-- Terms that a unit samples at its marker, and counts of its ports since the last (R407, R410, R421). -/
def State.sampleTerms (s : State) (u : Node) (x : Sample) : State :=
  match u with
  | .taster k =>
    let n := uTST k.val
    let s := (s.count n TST_L1_RD_BYTES x.l1rd).count n TST_L1_WR_BYTES x.l1wr
    let s := (s.bankCount k.val 10 x.l1rd none).bankCount k.val 11 x.l1wr none
    let held := ((List.range 1024).filter (fun p => (s.core (ckey k.val p)).stopped)).length
    if s.unitStopped n then s.bankCount k.val 16 (held * (x.cyc - (s.cutUnit n).cyc)) none else s
  | .door d =>
    let n := uDOR d.val
    let s := ((s.count n DOR_CR_ISS_COUNT x.iss).count n DOR_CR_RET_COUNT x.ret).wr n DOR_CR_CAP_OCC x.occ
    let s := (s.wr n DOR_HELD_TX x.heldTx).wr n DOR_HELD_RX x.heldRx
    s.each (List.range 4) (fun s l => s.dcount d.val (10 + l) (x.lanes.getD l 0))
  | .cellar c => s.each (List.range 16) (fun s ch => s.wr (uCEL c.val) CEL_AUD_HELD_BYTES (x.held.getD ch 0) ch)
  | .hall r =>
    match (s.thmOf r.val).lvlAt with
    | some t => (s.count (uHAL r.val) HAL_THR_TIME_US ((s.now - t) / 1000)).updThmOf r.val (fun y => { y with lvlAt := some s.now })
    | none => s
  | _ => s
/-- A unit's audits (R420, R421). -/
def State.auditUnit (s : State) (u : Node) (x : Sample) : State :=
  match u with
  | .hall r => s.each (s.gatesOf r.val) (fun s g => s.auditGate r.val g)
  | .door n => s.auditDoor n.val x
  | .cellar c => s.auditCellar c.val x
  | _ => s
/-- The marker of one class of a hop follows the packets that wait to leave on it, and its count names them (R395, R396). -/
def State.markHop (s : State) (f : Nat) (h : Hop) (c name : Nat) : State :=
  let n := hopNo h
  let waits := ((s.router f).inq.filter (fun e => e.pkt.cls == c && !e.pkt.marker && e.legs.contains n)).length
  let p : Packet := ⟨mkHead c 1 ((hopTo f h).getD 0) 0 f 0 0 0 0, [BitVec.ofNat 64 (name + ((s.hop (hkey f h)).sent.getD c 0 + waits) % 2 ^ 32 * 2 ^ 32)]⟩
  s.updRouter f (fun r => { r with inq := r.inq ++ [⟨6, p, [n], []⟩] })
/-- Channel markers on a unit's outgoing channels, each with the sender's count (R395, R396). -/
def State.sendMarks (s : State) (u : Node) : State :=
  let name := cutName s.cutNo
  match u with
  | .router f => (s.each (allHops.filter (fun h => s.hopLive f.val h)) (fun s h => s.each [2, 3, 4, 5] (fun s c => s.markHop f.val h c name))).pump
  | .taster k =>
    let taps := (List.range 1024).filter (fun p => let u := s.unit (puTap k.val p); !(u.off || u.absent))
    let waits (p : Nat) := let t := s.tap (ckey k.val p); t.alarms.length + t.summaries.length + t.usages.length
    let own := (s.chan (chTst k.val)).items + ((s.verdictsOf (regionOfCluster k.val)).filter (fun v => v.cluster == k.val)).length
      + (s.hangs.filter (fun h => h.1 == k.val)).length
    s.emits (taps.map (fun p => .ask 0x396 (puTap k.val p) (puTst k.val) ((s.chan (chTap k.val p)).items + waits p))
      ++ [.ask 0x396 (puTst k.val) (puHal (regionOfCluster k.val)) own])
  | .cellar c => s.emit (.ask 0x396 (puCel c.val) (puCel c.val) (s.chan (chCel c.val)).items)
  | _ => s
/-- Kind of the cut whose marker a unit takes now; one that comes after the cut's completion is taken under the same number (R400). -/
def State.markKind (s : State) : CutKind := match s.cut with | some c => c.kind | none => if s.stop.phase = 2 then .stop else .resume
/-- What a Taster does at its marker: the trace record, and at a STOP marker the buffer written and a running slice to be
rerun (R340, R404, R413). TP_STOP of every core follows the marker (State.unitStopped). -/
def State.markTaster (s : State) (k : Nat) : State :=
  let name := cutName s.cutNo
  match s.markKind with
  | .count => s.trace k 7 0x50 none none name
  | .resume =>
    (s.trace k 7 0x52 none none name).each ((Tab.range (1024 * k) (1024 * (k + 1)) s.cores).map (·.1)) (fun s c =>
      s.updCore c (fun y => { y with stopped := false }))
  | .stop =>
    let s := (s.trace k 7 0x51 none none name).segFlush k
    s
/-- A slice that runs on an engine when its unit stops is abandoned: 0x7014 with reason 2 (R340). -/
def State.pauseSlice (s : State) (e : Nat) : State :=
  match s.eng e with
  | some x => if x.phase = 4 then (s.raiseOnce 0 0x7014 x.unit 2 x.slice).updEng e (fun _ => some { x with repeated := false, looped := false }) else s
  | none => s
/-- After the stop it is rerun in full: a core's is driven again on its wrapper (R340). -/
def State.rerunSlice (s : State) (e : Nat) : State :=
  match s.eng e with
  | some x => if x.phase = 4 then s.sliceStart x else s
  | none => s
/-- At a RESUME marker a Hall releases the TS_HOLD that a reset's end left up for the stop (R405, R406). -/
def State.markHall (s : State) (r : Nat) : State :=
  if s.partReset r || s.regionShut r then s
  else s.each (clustersOf r) (fun s k =>
    if (s.port k).hold && (s.replayOf k).isEmpty && !s.resets.any (fun x => x.level == 2 && x.at_ == k) then
      s.updPort k (fun p => { p with hold := false })
    else s)
/-- The field whose router a unit reports to: its own, or its region's north field (R28, R398). -/
def nodeField : Node → Nat
  | .hall r => Config.host.north r.val
  | .taster k => fieldOfCluster k.val
  | .cellar c => fieldOfStack c.val
  | .door n => Config.host.linkField n.val
  | .router f => f.val
  | .brew w => Config.host.brewField w
/-- Channels into a unit whose other end is held in reset: their records are empty (R396, R400). -/
def State.emptyChans (s : State) (u : Node) : List Nat :=
  match u with
  | .hall r => ((clustersOf r.val).filter (fun k => (s.unit (puTst k)).off || (s.unit (puTst k)).absent)).map chTst
  | .taster k => (s.units.filter (fun e => puidKind e.1 == 1 && puidMajor e.1 == k.val && (e.2.off || e.2.absent))).map (fun e => chTap k.val (puidMinor e.1))
  | _ => []
/-- CUT_MARKER (R395, R396, R399, R400, R404, R405, R420-R423): a unit takes its marker, once for each cut; a CUT_BEGIN of a cut that it has taken it answers as
complete, to its field's router. -/
def cutMarker (s : State) (u : Node) (x : Sample) : State :=
  let n := cutKey u
  if s.cutNo = 0 ∨ !s.markable u then s
  else if (s.cutUnit n).taken = s.cutNo then s.emit (.ask 0x395 (puNode u) (puRtr (nodeField u)) (cutName s.cutNo))
  else
    let s := s.sampleTerms u x
    let s := s.auditUnit u x
    let s := s.each (s.markKeys u) (fun s r => s.copyRun r.1 r.2)
    let s : State := { s.updCutUnit n (fun c => { c with
        taken := s.cutNo, fillReset := c.wasReset, fillClk := false, wasReset := false, wall := (s.localTime u).toNat, cyc := x.cyc }) with
      marks := s.marks.filter (fun m => puidNode m.1 != n) }
    let s := s.each (s.emptyChans u) (fun s c => s.updChan c (fun x => { x with closedAt := s.cutNo, flagged := false, recCut := s.cutNo, recN := 0 }))
    let s := (s.updClock (nodeUnit u) (fun c => { c with corr := 0 })).sendMarks u
    let s := if s.markKind = .stop then s.pauseSlice n else if s.markKind = .resume then s.rerunSlice n else s
    match u with
    | .taster k => s.markTaster k.val
    | .hall r => if s.markKind = .resume then s.markHall r.val else s
    | _ => s
/-- CUT_MARKER. -/
def execCutMarker (u : Node) (sample : Sample) (s : State) : Outcome State Fault Refusal := .next (cutMarker s u sample)

/-- Number of a channel. -/
def chanNo : Channel → Nat
  | .hop f h c => chHop f.val (hopNo h) c.val
  | .tapReport k p => chTap k.val p.val
  | .tasterHall k => chTst k.val
  | .cellarEngine c => chCel c.val
/-- Items received on a channel. -/
def State.chanGot (s : State) : Channel → Nat
  | .hop f h c => (s.hop (hkey f.val h)).recv.getD c.val 0
  | c => (s.chan (chanNo c)).items
/-- The receiving unit's place in the table of cut units, and its field (R397). -/
def chanEnd : Channel → Nat × Nat
  | .hop f _ _ => (uRTR f.val, f.val)
  | .tapReport k _ => (uTST k.val, fieldOfCluster k.val)
  | .tasterHall k => (uHAL (regionOfCluster k.val), fieldOfCluster k.val)
  | .cellarEngine c => (uCEL c.val, fieldOfStack c.val)
/-- The consequence of a channel's failed audit (R423). -/
def State.chanFail (s : State) (c : Channel) (d : Int) : State :=
  match c with
  | .hop f h _ => (s.auditFail (puRtr f.val) 6 d).hopDead f.val h 0 (((s.hop (hkey f.val h)).copies.head?.map (·.fails)).getD 0)
  | .tapReport k p =>
    let r := regionOfCluster k.val
    (s.auditFail (puTst k.val) 7 d).verdictEffect r
      { code := 5, cluster := k.val, core := p.val, cmd := 0, puid := puTap k.val p.val, source := 10, priv := false, gated := false
        unrepeated := false, erratic := false, ctx := 0, step := 0, layer := 0, op := 0, extra := 0 }
  | .tasterHall k => (s.auditFail (puHal (regionOfCluster k.val)) 7 d).enterFenced (puHal (regionOfCluster k.val))
  | .cellarEngine c =>
    ((s.auditFail (puCel c.val) 7 d).enterFenced (puCel c.val)).updStpOf (puCel c.val) (fun y => { y with due := some s.now, first := true })
/-- The other end of a hop lies where accounts are void (R424). -/
def State.chanVoid (s : State) (c : Channel) : Bool :=
  s.voidAt (chanEnd c).2 || (match c with
    | .hop f h _ => (match hopTo f.val h with | some g => s.voidAt g | none => true) || (s.hop (hkey f.val h)).dead
    | _ => false)
/-- CHANNEL_MARKER (R396, R397, R423): the record closes, and the sender's count is compared; one closed by time is not audited. -/
def channelMarker (s : State) (c : Channel) (sent : Nat) : State :=
  let k := chanNo c
  if s.cutNo = 0 ∨ (s.chan k).closedAt = s.cutNo then s
  else
    let s := s.updChan k (fun x => { x with closedAt := s.cutNo, flagged := false })
    let d : Int := (sent : Int) - s.chanGot c
    if d = 0 || s.chanVoid c then s else s.chanFail c d
/-- CHANNEL_MARKER. -/
def execChannelMarker (c : Channel) (sent : BitVec 32) (s : State) : Outcome State Fault Refusal := .next (channelMarker s c sent.toNat)
/-- CHANNEL_RECORD_TIMEOUT (R397): a record still open 1 ms after the receiver's marker is closed and flagged. -/
def channelRecordTimeout (s : State) (c : Channel) : State :=
  if s.cutNo = 0 ∨ (s.chan (chanNo c)).closedAt = s.cutNo ∨ (s.cutUnit (chanEnd c).1).taken ≠ s.cutNo then s
  else s.updChan (chanNo c) (fun x => { x with closedAt := s.cutNo, flagged := true })
/-- CHANNEL_RECORD_TIMEOUT. -/
def execChannelRecordTimeout (c : Channel) (s : State) : Outcome State Fault Refusal := .next (channelRecordTimeout s c)
/-- Number of an edge cell in the table of cut units. -/
def edgeKey : Edge → Nat
  | .tap k p => uTAP k.val p.val
  | .gate g => uGATE g.val
  | .inline c ch => 0x203000 + 16 * c.val + ch.val
/-- EDGE_MARKER_TIMEOUT (R400): the cell's shadow holds the last values that crossed, flagged CLKSTOP. -/
def edgeMarkerTimeout (s : State) (e : Edge) : State :=
  if s.cutNo = 0 then s else s.updCutUnit (edgeKey e) (fun c => { c with taken := s.cutNo, fillClk := true, wall := s.now })
/-- EDGE_MARKER_TIMEOUT. -/
def execEdgeMarkerTimeout (e : Edge) (s : State) : Outcome State Fault Refusal := .next (edgeMarkerTimeout s e)

/-- Retired identifiers that a completed cut frees (R385). -/
def State.freeRetired (s : State) (n : Nat) : State :=
  let out := (s.ctxs.filter (fun e => e.2.state == 2 && decide (e.2.retCut < n) && decide (e.2.seenCut < n))).map (·.1)
  s.each out (fun s c =>
    let waited := n - (s.ctx c).retCut
    let s : State := { s.updCtx c (fun _ => ctx0 c) with gates := s.gates.map (fun e => (e.1, { e.2 with marks := e.2.marks.filter (fun m => m.ctx != c) })) }
    let s := s.wr uBRW BRW_RET_STAT_RETIRED (s.rd uBRW BRW_RET_STAT_RETIRED - 1)
    (s.seedFree c).raise 0x8051 s.puActive c waited |>.notify 0x0016 c [])
/-- A completed STOP cut puts the stop in force, a completed RESUME cut ends it (R404, R405). -/
def State.stopEdge (s : State) (k : CutKind) (name : Nat) : State :=
  match k with
  | .count => s
  | .stop =>
    let t : State := { s.flag uBRW BRW_CUT_STAT_STOPPED true with stop := { s.stop with phase := 2, since := s.now } }
    t.raise 0x9020 s.puActive name s.stop.origin
  | .resume =>
    let t : State := { s.flag uBRW BRW_CUT_STAT_STOPPED false with stop := ⟨0, 0, 0, 0⟩ }
    t.raise 0x9021 s.puActive name ((s.now - s.stop.since) / 1000000) s.stop.cause
/-- The cut of a Moldom STOP or RESUME is complete, and so is the command (R574). -/
def State.dbgDone (s : State) (k : CutKind) : State :=
  if k ≠ .count ∧ s.dbg.busy then
    { s with dbg := { s.dbg with busy := false, resp := (s.dbg.resp.1, s.dbg.resp.2.1, 0, s.dbg.resp.2.2.2) } }
  else s
/-- A cut completes (R398-R401, R404, R405). -/
def State.completeCut (s : State) (x : CutRun) : State :=
  let ticks := (s.now - x.began) / 10
  let name := cutName x.no
  let s := (((s.wr uBRW BRW_CUT_EPOCH_DONE name).wr uBRW BRW_CUT_TIME_NS x.began).wr uBRW BRW_CUT_DUR_TICKS ticks).wr uBRW BRW_CUT_STAT_FLAGGED (min 65535 x.flagged)
  let s := if 2000 < ticks ∨ x.flagged ≠ 0 then (s.flag uBRW BRW_CUT_STAT_LATE true).raiseOnce 0 0x9001 s.puActive name ticks x.flagged else s
  let s := ({ s.flag uBRW BRW_CUT_STAT_BUSY false with cut := none } : State).castCut 3 name
  let s := (((s.stopEdge x.kind name).dbgDone x.kind).freeRetired x.no).sendMirror
  if s.stop.phase = 2 ∧ s.stop.cause ≠ 0 then s.resumeCut s.stop.cause
  else if s.cutDue && !s.stopped then s.startCut .count else s
/-- The output of a router toward the active Brewhouse up the broadcast tree (R36, R394); none at the root. -/
def State.cutUp (s : State) (f : Nat) : Option Nat :=
  match (s.router f).table with
  | some t => if t.tree.getD f 7 < 6 then some (t.tree.getD f 7) else none
  | none => [0, 1, 2, 3].find? (fun h => match hopField f h with
    | some g => (treeHops (Config.host.brewField s.active) g).any (fun d => hopTo g d == some f)
    | none => false)
/-- The fields whose subtrees report to a router (R394, R398). -/
def State.cutKids (s : State) (f : Nat) : List Nat :=
  ((List.range 6).filterMap (hopField f)).filter (fun g => match s.cutUp g with | some h => hopField g h == some f | none => false)
/-- Sums of a subtree: its own router's units and what its children have reported (R394). -/
def cutSum (own : Report) (x : CutRun) (kids : List Nat) : Report :=
  (x.sums.filter (fun e => kids.contains e.1)).foldl (fun a e => ⟨a.took + e.2.took, a.flagged + e.2.flagged, a.failed + e.2.failed⟩) own
/-- Payload of a CUT_REPORT, its counts saturating in their fields (R394). -/
def cutPayload (name : Nat) (r : Report) : BitVec 64 :=
  BitVec.ofNat 64 (name + min 65535 r.took * 2 ^ 32 + min 4095 r.flagged * 2 ^ 48 + min 15 r.failed * 2 ^ 60)
/-- A router's report goes up the tree (R394). -/
def State.sendReport (s : State) (f : Nat) (r : Report) : State :=
  match s.cutUp f with
  | none => s
  | some h => (s.updRouter f (fun y => { y with inq := y.inq ++ [⟨6, ⟨mkHead 1 1 (Config.host.brewField s.active) 18 f 0 0 (s.brew s.active).reign 2,
      [cutPayload (cutName s.cutNo) r]⟩, [h], []⟩] })).pump
/-- CUT_REPORT (R394, R398): the units of a field have told their router what they took, flagged and found; once every child subtree has reported, the sums go up the
tree; those of the active Brewhouse's own router complete the cut. DESIGN CHOICE (assumption 206): the report counts where it arrives as it is sent. -/
def cutReport (s : State) (f : Nat) (own : Report) : State :=
  match s.cut with
  | none => s
  | some x =>
    let kids := s.cutKids f
    if x.sums.any (·.1 == f) || !kids.all (fun g => x.sums.any (·.1 == g)) then s
    else
      let r := cutSum own x kids
      if f = Config.host.brewField s.active then s.completeCut { x with took := r.took, flagged := x.flagged + r.flagged, failed := min 15 r.failed }
      else State.sendReport { s with cut := some { x with sums := x.sums ++ [(f, r)] } } f r
/-- CUT_REPORT. -/
def execCutReport (f : FieldId) (rep : Report) (s : State) : Outcome State Fault Refusal := .next (cutReport s f.val rep)
/-- CUT_REPORT_TIMEOUT (R398): the child counts as flagged with its subtree. -/
def cutReportTimeout (s : State) (f units : Nat) : State :=
  match s.cut with
  | none => s
  | some x =>
    if x.sums.any (·.1 == f) then s
    else if f = Config.host.brewField s.active then s.completeCut { x with flagged := x.flagged + units }
    else { s with cut := some { x with sums := x.sums ++ [(f, ⟨0, units, 0⟩)] } }
/-- CUT_REPORT_TIMEOUT. -/
def execCutReportTimeout (f : FieldId) (units : Nat) (s : State) : Outcome State Fault Refusal := .next (cutReportTimeout s f.val units)
/-- Number of the last completed cut, counted without wrapping. -/
def State.cutDoneNo (s : State) : Nat := if s.cut.isSome then s.cutNo - 1 else s.cutNo
/-- CUT_DONE (R399): a unit that took the completed cut's marker presents the filled bank, its edge cells with it. -/
def cutDone (s : State) (u : Node) : State :=
  let n := cutKey u
  let c := s.cutUnit n
  let d := s.cutDoneNo
  if d = 0 ∨ c.taken ≠ d ∨ c.shown = d then s
  else
    let s := s.each (s.markKeys u) (fun s r => s.showRun r.1 r.2)
    let s := s.updCutUnit n (fun c => { c with shown := d, showReset := c.fillReset, showClk := c.fillClk })
    let edges := (s.markRuns u).filter (fun r => decide (0x1000 ≤ r.1))
    let edge (k : Nat) : Bool := edges.any (fun r => decide (r.1 ≤ k ∧ k < r.2)) || (match u with
      | .cellar c => decide (0x203000 + 16 * c.val ≤ k ∧ k < 0x203000 + 16 * (c.val + 1))
      | _ => false)
    { s with cutUnits := s.cutUnits.map (fun e => if edge e.1 then (e.1, { e.2 with shown := d, showClk := e.2.fillClk && e.2.taken == d, fillClk := false }) else e) }
/-- CUT_DONE. -/
def execCutDone (u : Node) (s : State) : Outcome State Fault Refusal := .next (cutDone s u)
/-- CORE_STOPPED (R88, R404): a core of a stopped cluster has raised TP_STOPPED. -/
def coreStopped (s : State) (k p : Nat) : State :=
  if s.unitStopped (uTST k) then s.updCore (ckey k p) (fun c => { c with stopped := true }) else s
/-- CORE_STOPPED. -/
def execCoreStopped (k : ClusterId) (p : CoreId) (s : State) : Outcome State Fault Refusal := .next (coreStopped s k.val p.val)
/-- STOP_CORE_TIMEOUT (R404): a core that has not stopped within 1 ms is flagged. -/
def stopCoreTimeout (s : State) (k p : Nat) : State :=
  match s.cut with
  | some x => if x.kind = .stop && !(s.core (ckey k p)).stopped then { s with cut := some { x with flagged := x.flagged + 1 } } else s
  | none => s
/-- STOP_CORE_TIMEOUT. -/
def execStopCoreTimeout (k : ClusterId) (p : CoreId) (s : State) : Outcome State Fault Refusal := .next (stopCoreTimeout s k.val p.val)

end Sys2Proof.Machine
end

