-- ==== Sys2Proof/Machine/Supply.lean ====
section
/-! DEFINITION. Loss of a region's supply, clamps, REFCLK, power-cycle requests and the pad watchdog (R112-R114, R119, R378-R382, R572). -/
namespace Sys2Proof.Machine
open Sys2Proof Host

/-- A region clamps its crossings from a neighbour, or releases them: 0x8033 at a change (R113, R114). -/
def State.setClamp (s : State) (r : Nat) (d : Dir) (q : Nat) (on : Bool) : State :=
  if (s.hall r).iso.getD (dirNo d) false = on then s
  else (s.updHall r (fun h => { h with iso := h.iso.set (dirNo d) on, isoAt := if on then h.isoAt.set (dirNo d) s.now else h.isoAt })).raise 0x8033 (puHal r) (dirNo d) (if on then 1 else 0) q
/-- Every powered neighbour of a region clamps the crossings from it (R113, R381 #2-#3). -/
def State.isolate (s : State) (q : Nat) : State :=
  s.each allDirs (fun s d => match regionTo q d with
    | none => s
    | some r => if (s.hall r).pg then s.setClamp r (dirBack d) q true else s)
/-- Logical channels whose physical channel lies in a region's stacks (R381 #7). -/
def State.lostChans (s : State) (r : Nat) : List Nat :=
  (List.range (64 * Config.host.fields)).filter (fun l => match s.physChan l with
    | some ph => regionOfStack (ph / 16) == r
    | none => false)
/-- A region is declared LOST by the active Brewhouse (R381 #4-#7, R386, R419, R424, R492, R536): its units and stacks are
lost, its contexts killed with notices of reason 7, its accounts void, its channels told to the host. -/
def State.declareLost (s : State) (r : Nat) (oc : Bool) : State :=
  if (s.hall r).lost then s.updHall r (fun h => { h with lostOc := h.lostOc || oc })
  else
    let live := sortBy (fun a b => decide (a ≤ b)) ((clustersOf r).flatMap (fun k => s.liveCtxs k)).eraseDups
    let at_ (c : Nat) : Nat := ((clustersOf r).find? (fun k => (s.liveCtxs k).contains c)).getD 0
    let homes := live.map (fun c => (c, at_ c))
    let chans := s.lostChans r
    let s := s.quietRegion r
    let s := s.updHall r (fun h => { h with
      lost := true, lostAt := s.now, lostOc := oc, pg := false, log := [], procHeld := false, iso := [false, false, false, false]
      losses := h.losses.filter (fun t => decide (s.optime < t + 98304)) ++ [s.optime] })
    let s := s.wr uBRW BRW_LOST_REGIONS (orBit (s.rd uBRW BRW_LOST_REGIONS) r)
    let s := s.raise 0x8032 s.puActive r live.length chans.length
    let s := s.each homes (fun s c => (s.killCtx c.1 5 0 c.2 2 7).raise 0x8060 (puHal r) (c.1 * 2 ^ 16) 3 r)
    let s := s.resetRegion r false
    let s := s.each (clustersOf r) (fun s k =>
      ((s.updReplayOf k (fun _ => [])).updSeg k (fun g => { g with lost := true, buffer := [] })).updPort k (fun p => { p with hold := true }))
    let s : State := { s.updVerdictsOf r (fun _ => []) with
      voids := if s.voids.any (fun v => v.cause == 1 && v.place == r) then s.voids else s.voids ++ [⟨1, r, false⟩]
      hangs := s.hangs.filter (fun h => regionOfCluster h.1 != r), resetsDue := s.resetsDue.filter (fun d => !(d.1 == 3 && d.2.1 == r))
      thm := Tab.erase r s.thm }
    let s := ((s.wr (uHAL r) HAL_THM_STAT_BAND 0).wr (uHAL r) HAL_THM_STAT_LEVEL 0).flag (uHAL r) HAL_THM_STAT_SHUT false
    let s := (s.updHall r (fun h => { h with shut := false })).updProc r (fun p => { p with state := 4 })
    let s := (s.notifyRegion r 3).notifyList 0x0017 0 (fun n => [(r, 1), (n, 1)]) 19 chans
    let s := ((s.seedAnswered r false).emergCheck.mapChanged).updAct (fun a => { a with going := a.going.filter (· != r) })
    let s := if r = bhRegion s.standby then (s.updBrew s.standby (fun w => { w with mirrored := false, poll := none })).unmirror else s
    s.showHold.actGo actFuel
/-- The loss of a region that no active Brewhouse can declare yet stands as a request in the logs of its powered neighbours' Halls (R59, R381). -/
def State.lossAsked (s : State) (r : Nat) : State :=
  s.each (allDirs.filterMap (regionTo r)) (fun s q => if s.regionLost q || (s.hall q).pgLoss then s else s.hallAsk q 16 r)
/-- With both Brewhouses without supply, entries staged and not yet programmed are lost (R257). -/
def State.histUnstaged (s : State) : State :=
  if (s.hall (bhRegion .a)).pg || (s.hall (bhRegion .b)).pg then s else { s with hist := s.histFlash, histStaged := [] }
/-- An input cell of a region's power-good and over-current pins serves (R112, R337): its own region's, a neighbour's, or one of the pads' regions. -/
def State.cellServes (s : State) (r : Nat) : Bool :=
  let out := (s.hall r).cellsOut
  !out.contains 0 || allDirs.any (fun d => (regionTo r d).isSome && !out.contains (1 + dirNo d))
    || ((r == bhRegion .a || r == bhRegion .b) && [5, 6].any (fun c => !out.contains c))
/-- PG_LOSS_RECOGNISED (R112, R113, R337, R381): the flag, the clamps and 0x8030 at once; LOST is declared by the active
Brewhouse, or by its successor where the region holds it. -/
def pgLossRecognised (s : State) (r : Nat) : State :=
  if (s.hall r).pgLoss || !s.cellServes r then s
  else
    let s := ((s.updHall r (fun h => { h with pgLoss := true, pg := false })).histUnstaged).raise 0x8030 (puSupply r 0) r 3
    let s := (s.isolate r).emergCheck
    if s.bhAlive s.active then s.declareLost r (s.hall r).oc else s.lossAsked r
/-- OVERCURRENT_RECOGNISED (R112, R381). -/
def overcurrentRecognised (s : State) (r : Nat) : State :=
  if (s.hall r).oc || !s.cellServes r then s
  else
    let s := (s.updHall r (fun h => { h with oc := true })).raise 0x8031 (puSupply r 0) r
    let s := (s.isolate r).emergCheck
    if s.bhAlive s.active then s.declareLost r true else s.lossAsked r
/-- CLAMP_APPLY (R113): the neighbour's rail falls below 0.60 V. -/
def execClampApply (r : RegionId) (d : Dir) (s : State) : Outcome State Fault Refusal :=
  .next (match regionTo r.val d with | some q => s.setClamp r.val d q true | none => s)
/-- CLAMP_RELEASE (R114): only on the command of an active Brewhouse that runs, and after the region behind the clamp has completed a reset since. -/
def clampRelease (s : State) (r : Nat) (d : Dir) : State :=
  match regionTo r d with
  | none => s
  | some q =>
    let since := (s.hall r).isoAt.getD (dirNo d) 0
    if !s.bhAlive s.active || s.regionLost q || s.partReset q || (s.hall q).pgLoss || (s.hall q).oc || !(s.hall q).resetAt.any (fun t => decide (since < t)) then s
    else s.setClamp r d q false
/-- CLAMP_RELEASE. -/
def execClampRelease (r : RegionId) (d : Dir) (s : State) : Outcome State Fault Refusal := .next (clampRelease s r.val d)
/-- LOST_REGION_RETURN (R113, R382): the powered region clamps its crossings from neighbours without power; power-good has held for 1 s; a first loss without over-current returns by itself. -/
def lostRegionReturn (s : State) (r : Nat) : State :=
  if !(s.hall r).lost then s
  else
    let s := s.updHall r (fun h => { h with pg := true })
    let s := s.each allDirs (fun s d => match regionTo r d with
      | some q => if (s.hall q).pg then s else s.setClamp r d q true
      | none => s)
    let x := s.hall r
    if x.lostOc ∨ 1 < (x.losses.filter (fun t => decide (s.optime < t + 98304))).length then s else s.startPart r 4
/-- LOST_REGION_RETURN. -/
def execLostRegionReturn (r : RegionId) (s : State) : Outcome State Fault Refusal := .next (lostRegionReturn s r.val)

/-- Clocks of a region's units that keep a local wall time, a Brewhouse's among them (R51, R53, R119). -/
def timedUnits (r : Nat) : List Nat :=
  uHAL r :: ([Bh.a, .b].filterMap (fun w => if bhRegion w = r then some (nodeUnit (.brew w)) else none) ++ (clustersOf r).map uTST ++ (stacksOf r).map uCEL ++ (doorsOf r).map uDOR ++ (Config.host.fieldsOf r).map uRTR)
/-- REFCLK_LOSS (R119): local wall time holds, 0xC030, and the gate cells close; the spec names no reason for their notices. -/
def refclkLoss (s : State) (r missed : Nat) : State :=
  if (Tab.find r s.refLost).isSome then s
  else
    let s := State.raise { s with refLost := Tab.insert r s.now s.refLost } 0xC030 (puHal r) r missed
    (s.closeGates r (1 + Config.refclkReason s.fresh % 7)).draw
/-- REFCLK_LOSS. -/
def execRefclkLoss (r : RegionId) (missed : Nat) (s : State) : Outcome State Fault Refusal := .next (refclkLoss s r.val missed)
/-- REFCLK_RESTORE (R119): it has returned for 100 µs; the held local times lag by the outage and realign by R53. -/
def refclkRestore (s : State) (r us : Nat) : State :=
  match Tab.find r s.refLost with
  | none => s
  | some t =>
    let lag : Int := ((s.now - t) / 10 : Nat)
    let s := s.each (timedUnits r) (fun s u => s.updClock u (fun c =>
      { c with skew := c.skew - lag, fixAt := if c.fixAt + 10 ≤ t then c.fixAt else s.now }))
    State.raise { s with refLost := Tab.erase r s.refLost } 0xC031 (puHal r) r us
/-- REFCLK_RESTORE. -/
def execRefclkRestore (r : RegionId) (us : Nat) (s : State) : Outcome State Fault Refusal := .next (refclkRestore s r.val us)

/-- Everything on its way to the recorder recorded, and what is staged programmed (R572 #3). -/
def State.settle (s : State) : State :=
  let s := s.each (List.range s.transit.length) (fun s _ => eventRecord s)
  s.atticFlush.histProgram
/-- Requests counted in the present window (R380). -/
def State.pcWindow (s : State) : Nat := (s.pad.times.filter (fun t => decide (s.optime < t + 98304))).length
/-- A low pulse on PWRCYC_REQ_N by the pads of some Brewhouses' regions, where those have left high impedance (R115, R118, R379). -/
def State.pulse (s : State) (ws : List Bh) : State := if ws.any s.padOn then s.emit .powerPulse else s
/-- A power cycle requested by the active Brewhouse, while it runs (R24, R379, R380, R572): cause 1 escalation, 2 request; whether the limit permits it. -/
def State.powerCycle (s : State) (cause : Nat) : Bool × State :=
  let limit := s.rd uBRW BRW_PWRCYC_CFG_LIMIT
  if !s.bhAlive s.active then (false, s)
  else if s.pcAllowance = 0 then (false, s.raise 0x8025 s.puActive s.pcWindow limit)
  else
    let s : State := { s with pad := { s.pad with times := s.pad.times.filter (fun t => decide (s.optime < t + 98304)) ++ [s.optime] } }
    let s := if cause = 1 then s.wr uBRW BRW_RST_STAT_LAST 5 else s
    let s := ((s.bump uBRW BRW_PWRCYC_COUNT).wr uBRW BRW_RST_STAT_PCWIN s.pcWindow).padRewrite
    let s := s.mgmtPut ⟨4, 4, recWords (s.atticRec (⟨0x8023, s.puActive, cause, s.pcWindow, 0, s.now, none, false, false, false⟩ : Ev) 0), []⟩ true
    (true, (s.raise 0x8023 s.puActive cause s.pcWindow).settle.pulse [s.active])
/-- POWER_CYCLE_REQUEST (R361, R380, R572). -/
def execPowerCycleRequest (cause : PcCause) (s : State) : Outcome State Fault Refusal :=
  .next (s.powerCycle (match cause with | .escalation => 1 | .fleet => 2)).2
/-- CHIP_RESET_WATCHDOG (R378-R380): armed for 120 s; a pulse where the allowance permits one, else the refusal is reported
by a running Brewhouse or kept in the pad logic. -/
def chipResetWatchdog (s : State) : State :=
  if s.pad.armed.isNone then s
  else
    let s : State := { s with pad := { s.pad with armed := none } }
    if s.pad.allow ≠ 0 then ({ s with pad := { s.pad with allow := s.pad.allow - 1, made := s.pad.made + 1 } } : State).pulse [.a, .b]
    else if s.recording then s.raise 0x8025 s.puActive s.pcWindow (s.rd uBRW BRW_PWRCYC_CFG_LIMIT)
    else { s with pad := { s.pad with refused := true } }
/-- CHIP_RESET_WATCHDOG. -/
def execChipResetWatchdog (s : State) : Outcome State Fault Refusal := .next (chipResetWatchdog s)
/-- REPLAY_START_TIMEOUT (R369): the suspect under replay has not been started within 100 ms. -/
def replayStartTimeout (s : State) (k : Nat) : State :=
  match s.replayOf k with
  | [] => s
  | x :: _ => match x.cur with
    | none => s
    | some c => if x.started then s else (s.killUnreplayed k c 2).replaysGo
/-- REPLAY_START_TIMEOUT. -/
def execReplayStartTimeout (k : ClusterId) (s : State) : Outcome State Fault Refusal := .next (replayStartTimeout s k.val)

end Sys2Proof.Machine
end

