-- ==== Sys2Proof/Machine/Boot.lean ====
section
/-! DEFINITION. Bring-up: power-on, the eleven stages, stops, handoff, host image loads (R341, R505, R506, R511-R525). -/
namespace Sys2Proof.Machine
open Sys2Proof Host

/-- POWER_ON (R118, R511): the pads' rails have been within their windows for 1 ms, and stage 1 begins. -/
def execPowerOn (s : State) : Outcome State Fault Refusal :=
  let s := s.restart true
  .next { s with pad := { s.pad with live := true } }
/-- XSPI_BUS_TIMEOUT (R513): A has not released the bus within 3 s and counts as failed at stage 2. -/
def xspiBusTimeout (s : State) : State :=
  if s.fw.stage ≠ 2 ∨ s.isSet uBRW BRW_BOOT_STOPPED then s else { s with fw := { s.fw with outA := true } }
/-- XSPI_BUS_TIMEOUT. -/
def execXspiBusTimeout (s : State) : Outcome State Fault Refusal := .next (xspiBusTimeout s)

/-- An event of stages 1 to 3, recorded at the end of stage 4 (R512); a source of 0 stands for the Brewhouse that is active then. -/
def State.early (s : State) (code p p5 p6 p7 : Nat) (h : Option (Nat × HistEntry)) : State :=
  { s with fw := { s.fw with early := s.fw.early ++ [⟨code, p, p5 % 2 ^ 32, p6 % 2 ^ 32, p7 % 2 ^ 32, s.now, h, false, true, false⟩] } }
/-- The events of stages 1 to 3 go on their way, in order (R512). -/
def State.earlyOut (s : State) : State :=
  let s := s.each s.fw.early (fun s e =>
    let p := if e.puid = 0 then s.puActive else e.puid
    { s.evt (unitOfPuid p) (e.code / 2 ^ 12) with transit := s.transit ++ [{ e with puid := p }] })
  { s with fw := { s.fw with early := [] } }
/-- The history entry of a self-test that failed at bring-up: verdict 0x11, SOURCE 6 (R341). -/
def State.bootEntry (s : State) (p : Nat) : HistEntry :=
  ⟨0x11, 6, true, false, false, false, 0, postureCode (s.posture (regionOfPuid p)), s.optime, s.attic.pcyc, 0⟩
/-- Code of a unit's test (R353); a Brewhouse, a router and a Hall have none, and theirs is a free value. -/
def State.testCode (s : State) (p : Nat) : Nat :=
  match puidKind p with
  | 0 => 1
  | 1 => 2
  | 2 => 3
  | 5 => 4
  | 6 => 6
  | 8 => 7
  | _ => Config.openVal s.fresh
/-- A unit failed its test at bring-up: history entry and 0x7030; the number of the check is a free value (R341, R353). -/
def State.bootFail (s : State) (p : Nat) (early : Bool) : State :=
  let t := s.testCode p
  let s := s.draw
  let c := Config.openVal s.fresh
  let s := s.draw
  if early then s.early 0x7030 p t c 0 (some (p, s.bootEntry p)) else s.raiseHist (s.bootEntry p) 0x7030 p t c
/-- What is lost with a unit that is out of service at bring-up (R264, R266, R306, R341). -/
def State.scopeLost (s : State) (p : Nat) : State :=
  let k := puidMajor p
  let i := puidMinor p
  match puidKind p with
  | 0 => s.updCore (ckey k i) (fun c => { c with fence := true, rst := true })
  | 1 => (s.updUnit (puCore k i) (fun u => { u with off := true })).updCore (ckey k i) (fun c => { c with fence := true, rst := true })
  | 2 => s.adopt k
  | 3 => (s.updHall k (fun h => { h with shutReset := true })).shutUnits k true
  | 5 => s.fenceStack k
  | 6 => s.shutLink k
  | 8 => s.fenceChan k i
  | 9 =>
    let s := s.updDoor k (fun d => { d with heldLanes := orBit d.heldLanes i })
    s.wr (uDOR k) DOR_STP_STAT_HELD (s.door k).heldLanes
  | _ => s
/-- A unit that fails at stages 4 to 8, or in the self-test of a partition reset (R341, R374 #5); a lane whose loop-back failed is held down under R338. -/
def State.stageFail (s : State) (loops : List LoopFail) (p : Nat) : State :=
  if puidKind p = 9 then
    match loops.find? (fun x => x.lane.toNat == p) with
    | some x => (s.scopeLost p).raiseHist (s.stpEntry p) 0xC011 p (if x.far then 2 else 1) x.errs.toNat x.checked
    | none => s
  else ((s.bootFail p false).updUnit p (fun u => { u with off := true })).scopeLost p
/-- MEMORY_RETRAIN_DONE (R374 #5-#6, R382): the region's self-test and retraining are over: a unit that failed loses its scope; save areas can be restored, after a
loss they are not. -/
def memoryRetrainDone (s : State) (r : Nat) (failed : List Nat) : State :=
  match s.resets.find? (fun x => x.level == 3 && x.at_ == r && x.step == 6) with
  | none => s
  | some x =>
    let bad := (failed.filter (fun p => puidOk p && [1, 2, 5, 6].contains (puidKind p) && regionOfPuid p == r)).eraseDups
    let s : State := { s with resets := s.resets.map (fun y => if y.level = 3 ∧ y.at_ = r then { y with step := 7, failed := bad.length } else y) }
    let s := s.each bad (fun s p => s.stageFail [] p)
    if x.cause = 4 then s.each (stacksOf r) (fun s c => s.updCel c (fun y => { y with hold := false, saved := none })) else s
/-- MEMORY_RETRAIN_DONE. -/
def execMemoryRetrainDone (r : RegionId) (failed : List Puid) (s : State) : Outcome State Fault Refusal :=
  .next (memoryRetrainDone s r.val (failed.map (·.toNat)))
/-- Units of some kinds that their history keeps out of service (R258, R306). DESIGN CHOICE (assumption 196): a sensor that is FENCED or PERMANENT is broken,
for reason 3 or 4 of R477, the two that write a history entry (R338); the history does not say which. -/
def State.mergeKinds (s : State) (ks : List Nat) : State :=
  s.each ((s.units.filter (fun e => ks.contains (puidKind e.1) && (e.2.perm || e.2.fenced))).map (·.1))
    (fun s p =>
      if puidKind p = 1 then s
      else if puidKind p = 10 then
        let n := 16 * puidMajor p + puidMinor p
        (s.updSensor n (fun x => { x with broken := if Config.openVal s.fresh % 2 = 0 then 3 else 4 })).draw
      else s.scopeLost p)

/-- A region is usable: enabled, its Hall passed, a Taster and a channel in service (R514). -/
def State.regionOk (s : State) (r : Nat) : Bool :=
  bit s.variant.regions r && !s.regionLost r && !s.regionShut r && !(s.unit (puHal r)).off
    && (clustersOf r).any (fun k => s.tstTrusted k)
    && (stacksOf r).any (fun c => !(s.unit (puCel c)).absent && decide (s.rd (uCEL c) CEL_CH_CTRL_FENCE ≠ 65535))
/-- Bring-up stops (R515): every region is held in reset, the wafer stays Shuttered, the watchdog is disarmed. -/
def State.bootStop (s : State) (n reason concerned ms : Nat) : State :=
  let s := s.each (List.range Config.host.regions) (fun s r => (s.updHall r (fun h => { h with shutReset := true })).shutUnits r true)
  let s := ((s.wr uBRW BRW_BOOT_STAGE n).flag uBRW BRW_BOOT_STOPPED true).wr uBRW BRW_BOOT_REASON reason
  let s : State := { s.wr uBRW BRW_BOOT_MS_MS ((s.now - s.fw.bootAt) / 1000000) with pad := { s.pad with armed := none } }
  if reason ≤ 3 then s else s.raise (0x0100 + n) s.puActive reason concerned ms
/-- The report of a stage (R512, R540). -/
def State.bootReport (s : State) (n : Nat) (res : StageResult) : State :=
  let k := res.failed.length
  let s := (s.wr uBRW BRW_BOOT_STAGE n).wr uBRW BRW_BOOT_MS_MS ((s.now - s.fw.bootAt) / 1000000)
  let s := s.bump uBRW BRW_BOOT_UNITS_FAILED k
  let s : State := { s with fw := { s.fw with stage := n + 1 } }
  let first := ((res.failed.head?).map (·.toNat)).getD 0
  let code := if k = 0 then n else 0x0200 + n
  let p6 := if k = 0 then res.tested else k
  if n ≤ 3 then s.early code 0 res.ms p6 (if k = 0 then 0 else first) none
  else (s.wr uBRW BRW_BOOT_UNITS_USABLE res.usable).raise code s.puActive res.ms p6 (if k = 0 then 0 else first)

/-- A Brewhouse is held in reset until the next chip reset (R511). -/
def State.brewOut (s : State) (p : Nat) : State :=
  if puidMajor p = 0 then { s with fw := { s.fw with outA := true } } else { s with fw := { s.fw with outB := true } }
/-- Brewhouses that failed in stages 1 to 3 are held in reset (R511). -/
def State.brewsOut (s : State) (ps : List Nat) : State :=
  s.each (ps.filter (fun p => puidKind p == 4)) (fun s p => (s.bootFail p true).brewOut p)
/-- Brewhouses and routers that the history keeps out of service, read with the records of stage 3: a Brewhouse is held in reset, and a router carries nothing (R258). -/
def State.keptOut (s : State) (kind : Nat) : List Nat :=
  (s.units.filter (fun e => puidKind e.1 == kind && (e.2.perm || e.2.fenced))).map (·.1)
/-- Candidates of the ROM in order, as (number, slot) with slot 2 for the golden one (R505, R506). -/
def State.bootCandidates (s : State) : List (Nat × Nat) :=
  (if s.fw.trial && s.fw.tries == 2 then [] else [(1, s.fw.boot)])
    ++ (if bit s.fw.valid (1 - s.fw.boot) then [(2, 1 - s.fw.boot)] else []) ++ [(3, 2)]
/-- Stage 2 ends: the first candidate that the ROM accepts is booted (R505, R506, R535); none, and bring-up stops. -/
def State.bootBundle (s : State) : Option State :=
  match s.bootCandidates.find? (fun c => romAccepts (s.slotBytes c.2) (s.rd uBRW BRW_FW_SVN_MIN)) with
  | none => none
  | some (i, slot) =>
    let h := bundleHead (s.peek (slotKey slot) 256)
    let tries := if i = 1 ∧ s.fw.trial then min 2 (s.fw.tries + 1) else s.fw.tries
    let s : State := { s with fw := { s.fw with
      tries := tries, golden := i == 3, ver := h.fwver, intkey := h.intkey
      procs := allProcs.foldl (fun m j => Tab.put (fun _ => ⟨0, 0, 0, 0, [], 0⟩) m j ⟨0, slot, slot, 0, [], 0⟩) s.fw.procs } }
    let s := ((s.flag uBRW BRW_BOOT_GOLDEN (i == 3)).flag uBRW BRW_BOOT_FALLBACK (i == 2)).wr uBRW BRW_BOOT_SLOT (if i = 3 then 0 else slot)
    let s := ((s.flag uBRW BRW_FW_STAT_TRIAL s.fw.trial).wr uBRW BRW_FW_STAT_TRIES tries).wr uPRV PRV_FWVER_VER h.fwver
    let s := s.wr uBRW BRW_IFVER_MIN (Config.imageVal 0x1F0 h.fwver)
    some (if i = 1 then s else s.early 0xA008 0 i tries h.fwver none)
/-- Units that the variant record disables or declares absent (R77, R508, R519). -/
def State.markAbsent (s : State) : State :=
  let v := s.variant
  let gone (r : Nat) : Bool := !bit v.regions r
  let rs := (List.range Config.host.regions).filter gone
  let ps := rs.flatMap (fun r => [puHal r] ++ (clustersOf r).map puTst)
    ++ ((List.range (4 * Config.host.fields)).filter (fun c => gone (regionOfStack c) || !bit v.stackSet c)).map puCel
    ++ ((List.range Config.host.links).filter (fun n => gone (regionOfDoor n) || !bit v.links n)).map puDor ++ v.absent
  let s : State := { s with units := s.units.map (fun e => (e.1, { e.2 with absent := false })) }
  let s : State := { s with units := s.units.filter (fun e => decide (e.2 ≠ unit0 e.1)) }
  s.each ps (fun s p => s.updUnit p (fun u => { u with absent := true }))
/-- Every copy of a store that failed goes into an early 0xA013 (R380). -/
def State.noteCopies (s : State) (which : Nat) (l : List (Nat × Nat)) : State := s.each l (fun s x => s.early 0xA013 0 which x.1 x.2 none)
/-- A calibration record put into force where one verified (R380). -/
def State.calPicked (s : State) (c : Option (List Byte)) : State :=
  match c with
  | some b => s.calIn b
  | none => s
/-- Both records in force: counters advanced, what the pad logic kept taken over (R507, R518). -/
def State.recordsIn (s : State) : State :=
  let s : State := { s with attic := { s.attic with n := s.attic.n + 1, nWall := s.now, pcyc := s.attic.pcyc + (if s.fw.cold then 1 else 0) } }
  let s := s.wr uBRW BRW_PWRCYC_COUNT (s.rd uBRW BRW_PWRCYC_COUNT + s.pad.made)
  let s : State := { s with pad := { s.pad with times := s.pad.times ++ List.replicate s.pad.made s.optime } }
  let s := s.wr uBRW BRW_RST_STAT_PCWIN s.pcWindow
  let s := if s.pad.made = 0 then s else s.wr uBRW BRW_RST_STAT_LAST 5
  let s := if s.pad.refused then s.early 0x8025 0 s.pcWindow (s.rd uBRW BRW_PWRCYC_CFG_LIMIT) 0 none else s
  (State.padRewrite { s with pad := { s.pad with made := 0, refused := false } }).markAbsent
/-- The calibration record after a variant record that verified. -/
def State.bootCal (s : State) (b : List Byte) (c : Option (List Byte) × List (Nat × Nat)) : State :=
  (((s.noteCopies 2 c.2).variantIn b).calPicked c.1).recordsIn
/-- The variant record: none that verifies ends the boot. -/
def State.bootVariant (s : State) (v : Option (List Byte) × List (Nat × Nat)) : Option State :=
  let s := s.noteCopies 1 v.2
  v.1.map (fun b => s.bootCal b (s.recPick false))
/-- Stage 3 ends: both records verified and in force, counters advanced, what the pad logic kept taken over (R380, R507, R518). -/
def State.bootRecords (s : State) : Option State :=
  match s.bootVariant (s.recPick true) with
  | none => none
  | some t => some (t.each (t.keptOut 4) (fun s p => s.brewOut p))
/-- Stage 4 ends: hops live but those of routers that did not train or that the history keeps out (R258), roles, beats (R36, R513); the early events go out. -/
def State.bootStair (s : State) (ps : List Nat) : State :=
  let dead := ((ps ++ s.keptOut 7).filter (fun p => puidKind p == 7)).map puidMajor ++ (ps.filter (fun p => puidKind p == 3)).map (fun p => Config.host.north (puidMajor p))
  let s := s.each (List.range Config.host.fields) (fun s f => s.each allHops (fun s h =>
    match hopTo f h with
    | none => s
    | some g => if dead.contains f || dead.contains g then s else s.updHop (hkey f h) (fun x => { x with live := true })))
  let w : Bh := if s.fw.outA then .b else .a
  let code := match w with | .a => 0 | .b => 1
  let s := ((s.wr uBRW BRW_ROLE_ACTIVE code).wr uTMB TMB_STAT_SOURCE code).flag uTMB TMB_STAT_BEAT_ON true
  let s := (s.updBrew .a (fun x => { x with lastHb := s.now })).updBrew .b (fun x => { x with lastHb := s.now })
  s.earlyOut

/-- Cores of a cluster that are out of service at stage 9 (R519). -/
def State.outCores (s : State) (k : Nat) : List Nat :=
  ((s.units.filter (fun e => puidKind e.1 == 0 && puidMajor e.1 == k && (e.2.absent || e.2.off || e.2.fenced || e.2.perm))).map (fun e => puidMinor e.1)
    ++ (s.variant.defects.filter (fun p => puidKind p == 0 && puidMajor p == k)).map puidMinor).eraseDups
/-- The factory defect map merged: its units are out of service (R519). -/
def State.mergeDefects (s : State) : State :=
  s.each s.variant.defects (fun s p => (s.updUnit p (fun u => { u with off := true })).scopeLost p)
/-- Both map tables written at stage 9, from the saved maps or anew (R519, R520). -/
def State.bootMaps (s : State) : State :=
  let s := s.mergeDefects
  let saved := s.fw.mapVer == s.variant.version + 1
  let ks := (List.range Config.host.clusters).filter (fun k => bit s.variant.regions (regionOfCluster k))
  if saved then
    s.each ks (fun s k =>
      let fix := s.mapRepairs k
      (s.updPort k (fun p => { p with coreLive := fix.foldl (fun m e => Tab.insert e.1 e.2 m) p.coreLive })).noSpares k fix)
  else
    let s := s.each ks (fun s k =>
      let out := s.outCores k
      let g := Config.host
      (s.updPort k (fun p => { p with base := some out, coreLive := [] })).noSpares k
        ((List.range (g.logical - (1024 - out.length))).map (fun i => (i + (1024 - out.length), 0))))
    { s with chanMap := [], fw := { s.fw with mapVer := s.variant.version + 1 } }
/-- The host image that the ROM's order finds first: its slot's bytes (R521). -/
def State.pickImage (s : State) : Option (List Byte) :=
  let hb := s.fw.hostboot
  let cands := [flashKey 0 (hostSlot hb)] ++ (if bit s.fw.valid (2 + (1 - hb)) then [flashKey 0 (hostSlot (1 - hb))] else []) ++ [flashKey 1 (hostSlot 0)]
  (cands.map (fun k => s.peek k 1048576)).find? (fun b => imageReason b none s.variant.design s.fw.intkey s.tbProfile == 0)
/-- Key of the first byte of a region's host image store (R522). -/
def State.imageStore (s : State) (r : Nat) : Nat := stackKey (storeCellar r) s.imagePlace.1 s.imagePlace.2
/-- The Cellar of a region's store as a scan engine. -/
def storeEngine (r : Nat) : ScanUnit := if h : storeCellar r < nStacks then .cellar ⟨storeCellar r, h⟩ else .brew
/-- The first scan of a store that waits for its engine begins, once the engine is free: header and payload, compared with the trailer (R149, R153, R524). -/
def State.checkNext (s : State) (r : Nat) : State :=
  let b := s.fw.image
  if (s.scan (uCEL (storeCellar r))).busy || !s.fw.checks.any (·.1 == r) then s
  else s.scanBegin (storeEngine r) 1 s.tbProfile s.imagePlace.1 s.imagePlace.2 (b.length - 8) true (leNat (b.drop (b.length - 8)))
/-- Firmware asks the store's Cellar for a scan of a region's image block (R153, R524). -/
def State.askCheck (s : State) (r why : Nat) : State :=
  State.checkNext { s with fw := { s.fw with checks := s.fw.checks ++ [(r, why)] } } r
/-- The image block written into a region's store, which its Cellar then scans (R524). -/
def State.writeStore (s : State) (r : Nat) : State := (s.poke (s.imageStore r) s.fw.image).askCheck r 0
/-- The image that was picked put into force: its version shown, its block written into the store of every region (R523, R524). -/
def State.imageIn (s : State) (o : Option (List Byte)) : State :=
  match o with
  | none => s
  | some b =>
    let h := imageHead b
    let s : State := { s.wr uBRW BRW_HOSTIMG_VER h.version with fw := { s.fw with image := h.block } }
    s.each ((List.range Config.host.regions).filter (fun r => s.regionOk r)) (fun s r => s.writeStore r)
/-- Stage 9 ends: maps, map digest; the image for stage 10 is verified and stored (R456, R519-R524). -/
def State.bootTables (s : State) : State :=
  let s := s.bootMaps
  let s := (s.wr uBRW BRW_BOOT_STAGE 9).mapChanged
  s.imageIn s.pickImage
/-- Handoff (R72, R309, R378, R515, R534, R579): holds fall, but for those of a region with a Cellar still to restore and of a cluster
held in reset for want of an adopter (R341), FAILSAFE_N is held deasserted, the steep plan and the cuts start,
and the wafer is host-absent until a HELLO. -/
def State.handoff (s : State) : State :=
  let s := s.each (List.range Config.host.clusters) (fun s k =>
    if s.regionShut (regionOfCluster k) || s.regionLost (regionOfCluster k) || s.regionHeld (regionOfCluster k) then s
    else if s.orphan k then s.updPort k (fun p => { p with clRst := true })
    else s.updPort k (fun p => { p with hold := false, allow := 0 }))
  let s : State := { s with
    pad := { s.pad with armed := none }, pair := { s.pair with failsafe := false, refreshed := s.now }, plan := { s.plan with ready := s.now }
    mbx := { s.mbx with absentAt := s.now, hbAt := s.now }, fw := { s.fw with quietAt := s.now } }
  (s.flag (uMBX 0) MBX_STAT_ABSENT true).raise 0xB001 s.puActive 0 3

/-- Stage 5 ends: the host logic of a powered region whose Hall passed has come out of its reset (R114, R511, R517). -/
def State.hallsPassed (s : State) : State :=
  s.each ((List.range Config.host.regions).filter (fun r => (s.hall r).pg && !(s.unit (puHal r)).off && !(s.hall r).shutReset))
    (fun s r => s.updHall r (fun h => { h with resetAt := some s.now }))
/-- Why bring-up stops at the end of a stage, with the unit concerned (R514); 0 where it does not. -/
def State.stopReason (s : State) (n usable : Nat) : Nat × Nat :=
  let r := regionOfField s.pcieField
  let h := s.unit (puHal r)
  if n = 3 ∧ s.fw.outA ∧ s.fw.outB then (1, 0)
  else if (n = 4 ∨ n = 5) ∧ (h.off ∨ h.absent) then (4, puHal r)
  else if 4 ≤ n ∧ n ≤ 10 ∧ usable < s.variant.minRegions then (5, 0)
  else if n = 10 ∧ s.fw.image = [] then (6, 0)
  else (0, 0)
/-- The work whose end a stage's result reports; none where bring-up cannot go on: (state, stop reason). -/
def State.stageWork (s : State) (n : Nat) (ps : List Nat) (loops : List LoopFail) : State × Nat :=
  let units (s : State) : State := s.each ps (fun s p => s.stageFail loops p)
  match n with
  | 1 => (s.brewsOut ps, 0)
  | 2 =>
    let s := s.brewsOut ps
    match s.bootBundle with
    | some t => (t, 0)
    | none => (s, 2)
  | 3 =>
    let s := s.brewsOut ps
    if s.fw.outA ∧ s.fw.outB then (s, 1)
    else match s.bootRecords with
      | some t => (t, if t.fw.outA ∧ t.fw.outB then 1 else 0)
      | none => (s, 3)
  | 4 => (units (s.bootStair ps), 0)
  | 5 => (((units s).mergeKinds [3]).hallsPassed, 0)
  | 6 => ((units s).mergeKinds [0, 2, 10], 0)
  | 7 => ((units s).mergeKinds [5, 8], 0)
  | 8 => ((units s).mergeKinds [6, 9], 0)
  | 9 => (s.bootTables, 0)
  | 11 => (s.handoff, 0)
  | _ => (units s, 0)
/-- BRINGUP_STAGE (R14, R511-R515): no unit has a reserved PUID; the stage in progress ends with its report, or bring-up stops. -/
def bringupStage (s : State) (res : StageResult) : State :=
  let n := s.fw.stage
  if n = 0 ∨ 11 < n ∨ s.isSet uBRW BRW_BOOT_STOPPED then s
  else
    let res : StageResult := { res with failed := res.failed.filter (fun p => puidOk p.toNat && (puidKind p.toNat != 9 || res.loops.any (·.lane == p))) }
    let (s, stop) := s.stageWork n (res.failed.map (·.toNat)) res.loops
    let why := if stop ≠ 0 then (stop, 0) else s.stopReason n res.usable
    if why.1 ≠ 0 then
      let s := if n ≤ 3 then s else (s.wr uBRW BRW_BOOT_UNITS_USABLE res.usable).bump uBRW BRW_BOOT_UNITS_FAILED res.failed.length
      s.bootStop n why.1 why.2 res.ms
    else s.bootReport n res
/-- BRINGUP_STAGE. -/
def execBringupStage (res : StageResult) (s : State) : Outcome State Fault Refusal := .next (bringupStage s res)

/-- A region's store has failed: it is written again once, and the region's loads are repeated; failing again leaves the region out (R524). -/
def State.storeFailed (s : State) (r : Nat) : State :=
  if s.fw.badStores.contains r then s.updHall r (fun h => { h with shutReset := true })
  else State.writeStore { s with fw := { s.fw with badStores := s.fw.badStores ++ [r], badLoads := s.fw.badLoads.filter (fun x => decide (regionOfCluster (x / 1024) ≠ r)) } } r
/-- A core whose load has failed twice from a good store has failed, and its identity goes to a free core (R519, R524). -/
def State.loadFailed (s : State) (k p : Nat) : State :=
  let s := (s.bootFail (puCore k p) false).updUnit (puCore k p) (fun u => { u with off := true })
  let s := s.updCore (ckey k p) (fun x => { x with rst := true, fence := true })
  let fix := s.mapRepairs k
  let s := (s.updPort k (fun x => { x with coreLive := fix.foldl (fun m e => Tab.insert e.1 e.2 m) x.coreLive })).noSpares k fix
  s.mapChanged
/-- A scan that firmware asked for has ended: other than DONE_OK the store has failed; else a load that asked shows a failed core (R524). -/
def State.checkEnded (s : State) (r code : Nat) : State :=
  match s.fw.checks.find? (·.1 == r) with
  | none => s
  | some q =>
    let s : State := { s with fw := { s.fw with checks := s.fw.checks.erase q } }
    if code ≠ 0 then s.storeFailed r
    else if q.2 = 0 then s
    else s.loadFailed ((q.2 - 1) / 1024) ((q.2 - 1) % 1024)
/-- A scan line done, and what follows the end of its scan: firmware acts on a scan that it asked for, and the next one that waits begins (R153, R524). -/
def scanLineNext (s : State) (v : ScanUnit) (data : List Byte) (err : ReadErr) : State :=
  let u := scanUnit v
  let was := s.scan u
  let s := scanLineDone s v data err
  if !was.busy || (s.scan u).busy then s
  else match (List.range nRegions).find? (fun r => uCEL (storeCellar r) == u) with
    | none => s
    | some r => (if was.origin = 1 then s.checkEnded r (s.rd u CKU_SCAN_STAT_CODE) else s).checkNext r
/-- SCAN_LINE_DONE. -/
def execScanLineDone (u : ScanUnit) (data : List Byte) (err : ReadErr) (s : State) : Outcome State Fault Refusal :=
  .next (scanLineNext s u data err)
/-- BOOT_LOAD_DONE (R524, R525): a bad load is repeated once; then the store's Cellar scans the block again. -/
def bootLoadDone (s : State) (k p : Nat) (bad : Bool) : State :=
  let c := ckey k p
  let u := s.unit (puCore k p)
  if s.fw.image = [] || u.off || u.absent || (s.logicalOf k p).isNone then s
  else if !bad then { s with fw := { s.fw with badLoads := s.fw.badLoads.filter (· != c) } }
  else if !s.fw.badLoads.contains c then { s with fw := { s.fw with badLoads := s.fw.badLoads ++ [c] } }
  else State.askCheck { s with fw := { s.fw with badLoads := s.fw.badLoads.filter (· != c) } } (regionOfCluster k) (c + 1)
/-- BOOT_LOAD_DONE. -/
def execBootLoadDone (k : ClusterId) (p : CoreId) (bad : Bool) (s : State) : Outcome State Fault Refusal := .next (bootLoadDone s k.val p.val bad)

end Sys2Proof.Machine
end

