-- ==== Sys2Proof/Machine/Provenance.lean ====
section
/-! DEFINITION. Weight epochs, provenance chains, and the replay of the record log (R454-R459, R470, R471). -/
namespace Sys2Proof.Machine
open Sys2Proof Host

/-- A Cellar holds a slice of a weight set (R455). -/
def State.holdsSet (s : State) (c set : Nat) : Bool :=
  let lo := s.rd uPRV PRV_WSET_TLO_TENSOR set
  let hi := s.rd uPRV PRV_WSET_THI_TENSOR set
  (s.cel c).slices.any (fun e => decide (lo ≤ e.2.tensor ∧ e.2.tensor ≤ hi) && e.2.state != 0)
/-- A weight epoch of a set closes once every Cellar that holds a slice of it has reported since the last close (R455). -/
def State.closeEpoch (s : State) (set : Nat) : State :=
  let holders := (s.cels.map (·.1)).filter (fun c => s.holdsSet c set)
  let mine := s.prv.reports.filter (fun r => r.set == set && holders.contains r.stack)
  if holders.isEmpty || !holders.all (fun c => mine.any (fun r => r.stack == c && r.fresh)) then s
  else
    let sum := (mine.map (·.sum)).sum % 2 ^ 256
    let n := (mine.map (·.count)).sum
    let missing := mine.any (·.missing)
    let d := if missing then 0 else sha3Nat (leBytes 32 sum ++ leBytes 8 n ++ leBytes 4 (s.rd uPRV PRV_WSET_TLO_TENSOR set) ++ leBytes 4 (s.rd uPRV PRV_WSET_THI_TENSOR set))
    let s : State := { s with prv := { s.prv with reports := s.prv.reports.map (fun r => if r.set = set then { r with fresh := false } else r) } }
    ((s.flag uPRV PRV_WSET_STAT_MISSING missing set).wr uPRV PRV_WSET_EPOCH_COUNT (s.rd uPRV PRV_WSET_EPOCH_COUNT set + 1) set).wr uPRV PRV_WSD d set
/-- WEIGHT_SET_REPORT (R454, R455): a Cellar's oldest rotation report replaces its latest one of each set. -/
def weightSetReport (s : State) (c : Nat) : State :=
  match (s.cel c).reports with
  | [] => s
  | rep :: rest =>
    let s := s.updCel c (fun x => { x with reports := rest })
    s.each rep (fun s y =>
      let s : State := { s with prv := { s.prv with
        reports := s.prv.reports.filter (fun r => !(r.set == y.1 && r.stack == c)) ++ [⟨y.1, c, y.2.1, y.2.2.1, y.2.2.2, true⟩] } }
      s.closeEpoch y.1)
/-- WEIGHT_SET_REPORT. -/
def execWeightSetReport (c : StackId) (s : State) : Outcome State Fault Refusal := .next (weightSetReport s c.val)

/-- The context that a replay maps to this one, as recorded (R470). -/
def State.recordedCtx (s : State) (c : Nat) : Option Nat :=
  match s.prv.replay with
  | some x => (x.map.find? (fun e => e.2 == c)).map (·.1)
  | none => none
/-- The next entry of a kind of a recorded context that has not been compared yet (R471). -/
def State.nextEntry (s : State) (kind c : Nat) : Option RecEnt :=
  match s.prv.replay with
  | some x => s.prv.log.find? (fun e => e.kind == kind && e.ctx == c && !x.used.contains e.seq)
  | none => none
/-- A provenance digest compared with its KIND 5 entry in a replay: the first that differs is reported (R471). -/
def State.replayProv (s : State) (c step p : Nat) : State :=
  match s.recordedCtx c with
  | none => s
  | some rc => match s.prv.log.find? (fun e => e.kind == 5 && e.ctx == rc && e.step == step) with
    | none => s
    | some e =>
      if leNat e.payload = p ∨ (s.prv.replay.map (·.provBad)).getD false then s
      else
        let s := s.replayDiffers 0xD022 c step e.seq
        { s with prv := { s.prv with replay := s.prv.replay.map (fun x => { x with provBad := true }) } }
/-- A weight epoch MISSING at a verdict is reported once per epoch (R459). -/
def State.tellMissing (s : State) (set : Nat) : State :=
  let n := s.rd uPRV PRV_WSET_EPOCH_COUNT set
  if !s.isSet uPRV PRV_WSET_STAT_MISSING set || s.prv.told.contains (set, n) then s
  else State.raiseOnce { s with prv := { s.prv with told := s.prv.told ++ [(set, n)] } } 0 0xD002 s.puActive set n
/-- The 185 bytes that a step hashes (R457). -/
def State.provBytes (s : State) (x : StepRec) : List Byte :=
  let get (m : Tab Nat) : Nat := Tab.get (fun _ => 0) m x.ctx
  leBytes 32 (get s.prv.chain) ++ leBytes 32 (s.rd uPRV PRV_WSD (s.rd uPRV PRV_CTX_CFG_WSET x.ctx)) ++ leBytes 32 (get s.prv.ind)
    ++ leBytes 32 x.mapDig ++ leBytes 32 (s.rd uPRV PRV_PROG x.ctx) ++ leBytes 8 (s.rd uPRV PRV_FWVER_VER) ++ leBytes 2 x.ctx
    ++ leBytes 6 x.step ++ leBytes 4 x.index ++ leBytes 4 x.value ++ leBytes 1 x.verdict
/-- PROVENANCE_STEP (R457-R459, R468, R471): the oldest step record is hashed into its context's chain, unless the chain
has ended or broken since. -/
def provenanceStep (s : State) : State :=
  match s.prv.queue with
  | [] => s
  | x :: rest =>
    let s := ({ s with prv := { s.prv with queue := rest } } : State).wr uPRV PRV_STAT_QUEUE rest.length
    let c := x.ctx
    if !s.isSet uPRV PRV_CTX_CFG_PROV c || s.isSet uPRV PRV_STAT_BROKEN c then s
    else
      let s := s.tellMissing (s.rd uPRV PRV_CTX_CFG_WSET c)
      let p := sha3Nat (s.provBytes x)
      let s : State := { s with prv := { s.prv with chain := Tab.put (fun _ => 0) s.prv.chain c p } }
      let s := ((s.wr uPRV PRV_DIG p c).wr uPRV PRV_LASTSTEP_STEP x.step c).record 5 c x.step (leBytes 32 p)
      let s := s.replayProv c x.step p
      if bit s.commonSet 6 then s.notify 0x0020 c [(x.step, 6), (0, 2), (p, 32)] else s
/-- PROVENANCE_STEP. -/
def execProvenanceStep (s : State) : Outcome State Fault Refusal := .next (provenanceStep s)
/-- Contexts that keep provenance. -/
def State.provCtxs (s : State) : List Nat := (List.range 4096).filter (fun c => s.isSet uPRV PRV_CTX_CFG_PROV c)
/-- PROVENANCE_ENABLE (R457, R458): a write of PRV_CTX_CFG for the selected context; PROV restarts its chain, and a 257th
context is refused. -/
def provenanceEnable (s : State) (data : Nat) : State :=
  let c := s.rd uPRV PRV_SEL_CTX
  let s := (s.wr uPRV PRV_CTX_CFG_WSET (bits data 7 4) c).flag uPRV PRV_CTX_CFG_RECORD (bit data 1) c
  if !bit data 0 then s.flag uPRV PRV_CTX_CFG_PROV false c
  else if !s.isSet uPRV PRV_CTX_CFG_PROV c && decide (256 ≤ s.provCtxs.length) then s
  else
    let s : State := { s with prv := { s.prv with chain := Tab.put (fun _ => 0) s.prv.chain c 0 } }
    (s.flag uPRV PRV_CTX_CFG_PROV true c).flag uPRV PRV_STAT_BROKEN false c

/-- The 64-byte header of an entry (R468), with its context as given. -/
def recHeader (e : RecEnt) (ctx : Nat) : List Byte :=
  leBytes 1 e.kind ++ leBytes 1 e.eflags ++ leBytes 2 ctx ++ leBytes 6 e.step ++ leBytes 2 0 ++ leBytes 4 e.payload.length
    ++ leBytes 8 e.wall ++ leBytes 4 e.seq ++ leBytes 4 0 ++ leBytes 32 e.digest
/-- A record whose body is given as bytes. -/
def State.notifyBytes (s : State) (ctype ctx : Nat) (b : List Byte) (more : Bool) : State :=
  s.notify ctype ctx ((b.take 40).map (fun x => (x.toNat, 1))) more
/-- REPLAY_DELIVER (R470, R471, R555): the next entry goes to host software as REC_ENTRY and REC_DATA; after the last one
the replay is over. -/
def replayDeliver (s : State) : State :=
  match s.prv.replay with
  | none => s
  | some x =>
    let finish (s : State) (n : Nat) : State :=
      let bad := (s.prv.replay.map (·.bad)).getD 0
      (({ s with prv := { s.prv with replay := none } } : State).wr uPRV PRV_REC_CFG_MODE 0).raise 0xD023 s.puActive n 1 bad
    match s.prv.log[x.pos]? with
    | none => finish s x.delivered
    | some e =>
      let c := ((x.map.find? (fun m => m.1 == e.ctx)).map (·.2)).getD e.ctx
      let s := s.notifyBytes 0x0022 c (recHeader e c) false
      let cs := if e.payload.isEmpty then [] else chunks 40 (e.payload.length + 1) e.payload
      let s := s.each (cs.zip (List.range cs.length)) (fun s d => s.notifyBytes 0x0023 c d.1 (d.2 + 1 != cs.length))
      let s : State := { s with prv := { s.prv with replay := some { x with pos := x.pos + 1, delivered := x.delivered + 1 } } }
      let s := s.wr uPRV PRV_REC_POS_SEQ (e.seq + 1)
      if s.prv.log.length ≤ x.pos + 1 then finish s (x.delivered + 1) else s
/-- REPLAY_DELIVER. -/
def execReplayDeliver (s : State) : Outcome State Fault Refusal := .next (replayDeliver s)

end Sys2Proof.Machine
end

