-- ==== Sys2Proof/Machine/Mailbox.lean ====
section
/-! DEFINITION. Mailbox slots, the checks of a message, the completion ring, MSI-X, host absence (R543-R560). -/
namespace Sys2Proof.Machine
open Sys2Proof Host

/-- A message from its bytes (R544): header, then payload; missing bytes read zero. -/
def msgOf (slot : Nat) (b : List Byte) : Msg :=
  let len := leAt b 8 2
  ⟨slot, leAt b 0 1, leAt b 1 1, leAt b 2 2, leAt b 4 4, len, leAt b 10 2, leAt b 12 2 % 4096,
   leAt b 14 2 * 16 + leAt b 12 2 / 4096, (b.drop 16).take (min len 240)⟩
/-- The bytes of a slot. -/
def State.slotBytesAt (s : State) (n : Nat) : List Byte :=
  (List.range 64).flatMap (fun i => leBytes 4 (Tab.get (fun _ => 0) s.mbx.slots (64 * n + i)))
/-- SEQ last taken from a slot (MBX_SLOT_ACK). -/
def State.slotAck (s : State) (n : Nat) : Nat := Tab.get (fun _ => 0) s.mbx.acks n
/-- A message comes from the fleet (R571). -/
def fromFleet (m : Msg) : Bool := m.slot == 0xFE

/-- Message types that exist (R550). -/
def msgTypes : List Nat := [0x0001, 0x0101, 0x0102, 0x0103, 0x0104, 0x0105, 0x0106, 0x0107, 0x0108, 0x0111, 0x0112, 0x0113,
  0x0120, 0x0200, 0x0300, 0x0301, 0x0302, 0x0400, 0x0401, 0x0402]
/-- Types that the fleet may use; the host may use all (R550). -/
def fleetTypes : List Nat := [0x0120, 0x0200, 0x0300, 0x0301, 0x0302, 0x0400, 0x0401, 0x0402]
/-- The type exists and its sender may use it; a power cycle is the fleet's alone (R550, R572). -/
def typeOk (m : Msg) : Bool :=
  if fromFleet m then fleetTypes.contains m.type else msgTypes.contains m.type && !(m.type == 0x0120 && leAt m.payload 0 1 == 5)
/-- The message's feature bit lies in a set (R550). -/
def featureOk (m : Msg) (set : Nat) : Bool :=
  match m.type with
  | 0x0104 => bit set 9
  | 0x0105 => bit set 6 || bit set 8
  | 0x0106 | 0x0107 | 0x0108 => bit set 8
  | 0x0200 => bit set 1
  | 0x0300 | 0x0301 => bit set 2
  | 0x0400 => bit set (if leAt m.payload 0 1 = 3 then 4 else 3)
  | 0x0401 | 0x0402 => bit set 3
  | _ => bit set 0
/-- Powers of two from 64 to 65,536 (R550). -/
def ringSizes : List Nat := [64, 128, 256, 512, 1024, 2048, 4096, 8192, 16384, 32768, 65536]
/-- A class payload is as its class says (R561). -/
def classOk (cls : Nat) (p : List Byte) : Bool :=
  let n (i k : Nat) := leAt p i k
  match cls with
  | 1 => p.length == 2 && decide (n 0 1 ≤ 1) && decide (n 1 1 ≤ 1)
  | 2 => p.length == 1 && decide (n 0 1 ≤ 2)
  | 3 => p.length == 1 && decide (n 0 1 ≤ 1)
  | 4 => p.length == 4
  | 5 => p.length == 0
  | 6 => p.length == 2 && decide (1 ≤ n 0 2 ∧ n 0 2 ≤ 1440)
  | 7 => n 1 3 == 0 &&
      (((n 0 1 == 1 || n 0 1 == 2) && p.length == 52) || ((n 0 1 == 3 || n 0 1 == 4) && p.length == 8) || (n 0 1 == 5 && p.length == 5 && decide (n 4 1 ≤ 1)))
  | _ => p.length == 1 && decide (n 0 1 ≤ 15)
/-- LEN and payload meet the type (R550, R561). -/
def payloadOk (m : Msg) : Bool :=
  let p := m.payload
  let n (i k : Nat) := leAt p i k
  match m.type with
  | 0x0001 => m.len == 32 && n 16 8 % 64 == 0 && ringSizes.contains (n 24 4) && n 28 4 == 0
  | 0x0103 => m.len == 16
  | 0x0104 => m.len == 6
  | 0x0105 => m.len == 44 && n 6 2 == 0
  | 0x0106 => decide (8 ≤ m.len) && n 4 4 == 0
  | 0x0107 => m.len == 8
  | 0x0108 => m.len % 4 == 0 && (List.range (m.len / 2)).all (fun i => decide (n (2 * i) 2 < 4096))
  | 0x0111 | 0x0113 => m.len == 2 && decide (n 0 2 < Config.host.clusters)
  | 0x0112 => m.len == 8 && decide (n 0 2 < Config.host.clusters)
  | 0x0120 => m.len == 4 && n 1 1 == 0 && decide (2 ≤ n 0 1 ∧ n 0 1 ≤ 5)
      && (n 0 1 != 2 || decide (n 2 2 < Config.host.clusters)) && (n 0 1 != 3 || decide (n 2 2 < Config.host.regions))
  | 0x0200 => m.len == 44 && (decide (n 0 1 ≤ 2) || n 0 1 == 255) && n 1 1 == 0 && (List.range 42).all (fun i => decide (n (2 + i) 1 ≤ 3))
  | 0x0300 => decide (4 ≤ m.len) && n 1 3 == 0 && ((n 0 1 == 0 || decide (8 < n 0 1)) || classOk (n 0 1) (p.drop 4))
  | 0x0301 => m.len == 112 && n 1 7 == 0
  | 0x0400 => decide (8 ≤ m.len) && decide (1 ≤ n 0 1 ∧ n 0 1 ≤ 5) && decide (n 1 1 ≤ 1) && n 2 2 == 0
  | 0x0402 => m.len == 1 && (allProcs.contains (n 0 1))
  | _ => m.len == 0
/-- LEN, FLAGS, reserved fields and payload are correct (R544, R547). -/
def formatOk (m : Msg) : Bool :=
  decide (m.len ≤ 240) && m.payload.length == m.len && decide (m.flags ≤ 1) && m.rsv == 0 && m.seq != 0 && payloadOk m
/-- The first of checks 1 to 5 that a message fails, as its status; 0 where it passes them (R543, R547, R550, R561, R571). -/
def State.msgStatus (s : State) (m : Msg) : Nat :=
  if m.type ≠ 1 ∧ m.major ≠ s.mbx.major then 2
  else if !typeOk m then 8
  else if !(if fromFleet m then bit s.ourMap 0 else featureOk m (if m.type = 1 then s.ourMap else s.commonSet)) then 3
  else if !formatOk m then 4
  else if (m.type = 0x0300 ∨ m.type = 0x0301) ∧ (leAt m.payload 0 1 = 0 ∨ 8 < leAt m.payload 0 1) then 8
  else if s.absent && m.type != 1 && !fromFleet m then 6
  else 0
/-- A message that passes the checks waits to be carried out; any other is refused (R547). -/
def State.msgTake (s : State) (m : Msg) : State :=
  let st := s.msgStatus m
  if st ≠ 0 then s.refuse m st else { s with mbx := { s.mbx with inbox := s.mbx.inbox ++ [m] } }
/-- MAILBOX_SCAN (R499, R545-R547): the slots in ascending order; a slot named as changed had its SEQ rewritten during the
copy and is read again at the next scan. -/
def mailboxScan (s : State) (changed : List Nat) : State :=
  if !s.recording || s.firmDown then s
  else s.each (List.range 64) (fun s n =>
    let q := Tab.get (fun _ => 0) s.mbx.slots (64 * n + 1)
    if q = 0 ∨ q = s.slotAck n ∨ changed.contains n then s
    else
      let m := msgOf n (s.slotBytesAt n)
      let s : State := { s with mbx := { s.mbx with acks := Tab.put (fun _ => 0) s.mbx.acks n q } }
      (s.count (uMBX 0) MBX_TAKEN_COUNT).msgTake m)
/-- MAILBOX_SCAN. -/
def execMailboxScan (changed : List (Fin 64)) (s : State) : Outcome State Fault Refusal := .next (mailboxScan s (changed.map (·.val)))
/-- FLEET_MESSAGE (R543, R571): one message at a time; another is answered busy. -/
def fleetMessage (s : State) (b : List Byte) : State :=
  if !s.recording then s
  else
    let m := msgOf 0xFE b
    if s.mgt.fleet then
      s.mctpOut (mctpVendor 3 (cplBytes ⟨1, 9, m.seq, 0xFE, m.ctx, s.now, false, false, mkBody [(m.type, 2)]⟩ 0 0))
    else State.msgTake { s with mgt := { s.mgt with fleet := true } } m
/-- FLEET_MESSAGE. -/
def execFleetMessage (msg : List Byte) (s : State) : Outcome State Fault Refusal := .next (fleetMessage s msg)

/-- A body carried out on the oldest message of a type that waits, which is taken from the queue; without one nothing happens. -/
def State.onMsg (s : State) (type : Nat) (f : State → Msg → State) : State :=
  match s.mbx.inbox.find? (fun m => m.type == type) with
  | none => s
  | some m => f { s with mbx := { s.mbx with inbox := s.mbx.inbox.erase m } } m

/-- The host is absent from now on (R369, R549, R559): cause 1 heartbeat, 2 link down. -/
def State.hostGone (s : State) (cause : Nat) : State :=
  if s.absent then s
  else
    let since := (s.now - s.mbx.hbAt) / 1000000
    let s : State := { s with mbx := { s.mbx with absentAt := s.now, absDrop := 0 } }
    let s := ((s.flag (uMBX 0) MBX_STAT_ABSENT true).flag (uMBX 0) MBX_STAT_LINKDOWN (cause == 2)).raise 0xB001 s.puActive since cause
    s.each (s.replays.map (·.1)) (fun s k => (s.updSet k (fun x => { x with cur := none, started := false })).replayGo k)
/-- HOST_HEARTBEAT (R549): a write of MBX_HB; only a changed value is a heartbeat, and it ends no absence (R560). -/
def hostHeartbeat (s : State) (data : Nat) : State :=
  if data = s.rd (uMBX 0) MBX_HB_COUNT then s
  else { s.wr (uMBX 0) MBX_HB_COUNT data with mbx := { s.mbx with hbAt := s.now } }
/-- HOST_ABSENT (R549): the heartbeat has not changed for 2 s. -/
def execHostAbsent (s : State) : Outcome State Fault Refusal := .next (s.hostGone 1)
/-- PCIE_LINK_DOWN (R122, R549). -/
def pcieLinkDown (s : State) (linkState : Nat) : State := (s.raise 0xC020 s.puActive linkState).hostGone 2
/-- PCIE_LINK_DOWN. -/
def execPcieLinkDown (linkState : Word) (s : State) : Outcome State Fault Refusal := .next (pcieLinkDown s linkState.toNat)

/-- An MSI-X entry's message is sent, or waits for the end of its holdoff (R558). -/
def State.announce (s : State) (v : Nat) : State :=
  let hold := s.rd (uMBX 0) MBX_MSI_CFG_HOLDOFF_US * 1000
  if s.mbx.msiSent.getD v false && decide (s.now < s.mbx.msiAt.getD v 0 + hold) then
    { s with mbx := { s.mbx with msiDue := s.mbx.msiDue.set v true } }
  else
    { s.emit (.msi v) with mbx := { s.mbx with msiAt := s.mbx.msiAt.set v s.now, msiSent := s.mbx.msiSent.set v true, msiDue := s.mbx.msiDue.set v false } }
/-- A record goes to the ring at the tail (R121, R552, R554, R558). -/
def State.ringWrite (s : State) (c : Cpl) : State :=
  let u := uMBX 0
  let i := s.rd u MBX_RING_TAIL_INDEX
  let ph := s.rd u MBX_RING_TAIL_PHASE
  let n := s.mbx.note + 1
  let s : State := { s.emit (.hostWrite (s.rd u MBX_RING_BASE_ADDR + 64 * i) (cplBytes c ph n)) with mbx := { s.mbx with note := n } }
  let last := i + 1 == s.rd u MBX_RING_CFG_ENTRIES
  let s := (s.wr u MBX_RING_TAIL_INDEX (if last then 0 else i + 1)).wr u MBX_RING_TAIL_PHASE (if last then 1 - ph else ph)
  s.announce (vecOf c.ctype)
/-- COMPLETION_WRITE (R552, R554, R559): while the host is there and the ring has room, the oldest record goes out; after
records were dropped, OVERFLOW goes before it, but not before the answer to a HELLO. -/
def completionWrite (s : State) : State :=
  if s.absent || !s.ringRoom then s
  else match s.mbx.out with
    | [] => s
    | c :: cs =>
      if s.mbx.lost ≠ 0 ∧ c.ctype ≠ 2 then
        let o : Cpl := ⟨0x0027, 0, 0, 0xFF, 0, s.now, false, false, mkBody [(s.mbx.lost, 4)]⟩
        (State.ringWrite { s with mbx := { s.mbx with lost := 0 } } o).mbxCounts
      else (State.ringWrite { s with mbx := { s.mbx with out := cs } } c).mbxCounts
/-- COMPLETION_WRITE. -/
def execCompletionWrite (s : State) : Outcome State Fault Refusal := .next (completionWrite s)
/-- RING_HEAD_WRITE (R554): the driver has read up to an index. -/
def ringHeadWrite (s : State) (data : Nat) : State := (s.wr (uMBX 0) MBX_RING_HEAD_INDEX data).mbxCounts
/-- MSI_HOLDOFF_END (R558, R559): the message that a record written meanwhile waits for; none while the host is absent. -/
def msiHoldoffEnd (s : State) (v : Nat) : State :=
  if s.absent || !s.mbx.msiDue.getD v false then s
  else { s.emit (.msi v) with mbx := { s.mbx with msiAt := s.mbx.msiAt.set v s.now, msiDue := s.mbx.msiDue.set v false } }
/-- MSI_HOLDOFF_END. -/
def execMsiHoldoffEnd (vec : Fin 8) (s : State) : Outcome State Fault Refusal := .next (msiHoldoffEnd s vec.val)

/-- The set that a HELLO negotiates (R538). -/
def State.negotiated (s : State) (m : Msg) : Nat := if m.major = s.rd uBRW BRW_IFVER_MAJ then Nat.land (leAt m.payload 0 16) s.ourMap else 1
/-- Features negotiated by a HELLO: common set, the driver's map, 0xA031 where the versions differ, 0xA030 (R538, R541). -/
def State.negotiate (s : State) (m : Msg) : State :=
  let ours := s.rd uBRW BRW_IFVER_MAJ
  let set := s.negotiated m
  let s := s.setCommon set
  let s := s.each (List.range 4) (fun s i => s.wr uBRW BRW_FEAT_HOST_MAP (leAt m.payload (4 * i) 4) i)
  let s := (s.flag uBRW BRW_IFVER_BASEONLY (m.major != ours)).flag uBRW BRW_IFVER_NEGOTIATED true
  let s := if m.major = ours then s else s.raise 0xA031 s.puActive m.major ours
  let s := s.raiseOnce 0 0xA030 s.puActive set m.major m.minor
  { s with mbx := { s.mbx with major := m.major } }
/-- The ring that a HELLO names, empty (R554). -/
def State.armRing (s : State) (m : Msg) : State :=
  let u := uMBX 0
  let s := (s.wr u MBX_RING_BASE_ADDR (leAt m.payload 16 8)).wr u MBX_RING_CFG_ENTRIES (leAt m.payload 24 4)
  let s := ((s.wr u MBX_RING_TAIL_INDEX 0).wr u MBX_RING_TAIL_PHASE 1).wr u MBX_RING_HEAD_INDEX 0
  { s with mbx := { s.mbx with note := 0 } }
/-- HELLO (R538, R549, R554, R560): negotiation, a new ring, and the end of an absence: HELLO_ANS first, then the records
held, then HOST_RETURN and 0xB002. -/
def hello (s : State) : State :=
  s.onMsg 0x0001 (fun s m =>
    let u := uMBX 0
    let was := s.absent
    let note := s.mbx.note
    let set := s.negotiated m
    let ms := (s.now - s.mbx.absentAt) / 1000000
    let kept := s.mbx.kept
    let drop := s.mbx.absDrop
    let ans : Cpl := ⟨2, 0, m.seq, m.slot, 0, s.now, false, false,
      mkBody [(s.rd uBRW BRW_IFVER_MAJ, 1), (s.rd uBRW BRW_IFVER_MIN, 1), (0, 2), (s.ourMap, 16), (set, 16), (note, 4)]⟩
    let ret : Cpl := ⟨0x0026, 0, 0, 0xFF, 0, s.now, false, false, mkBody [(ms, 8), (kept.length, 2), (drop, 4)]⟩
    let s := (s.negotiate m).armRing m
    let s : State := { s with mbx := { s.mbx with
      out := ans :: s.mbx.out ++ kept ++ (if was then [ret] else []), kept := [], absDrop := 0, hbAt := s.now } }
    let s := ((s.flag u MBX_STAT_ABSENT false).flag u MBX_STAT_LINKDOWN false).mbxCounts
    if was then s.raise 0xB002 s.puActive ms kept.length drop else s)
/-- HELLO. -/
def execHello (s : State) : Outcome State Fault Refusal := .next (hello s)

end Sys2Proof.Machine
end

