-- ==== Sys2Proof/Machine/Messages.lean ====
section
/-! DEFINITION. What the messages of the host and the fleet do, but for HELLO and two-key changes (R550, R551, R556, R557). -/
namespace Sys2Proof.Machine
open Sys2Proof Host

/-- The wafer has been handed over; after a stop only what R515 lists is served. -/
def State.handedOff (s : State) : Bool := decide (12 ≤ s.fw.stage) && !s.isSet uBRW BRW_BOOT_STOPPED
/-- The context that a message names is in use (R551). -/
def State.inUse (s : State) (c : Nat) : Bool := c != 0 && (s.ctx c).state == 1 && s.handedOff
/-- A context in use is acted on and the message done; else it is refused (R551). -/
def State.withCtx (s : State) (m : Msg) (ok : Bool) (f : State → State) : State :=
  if s.inUse m.ctx && ok then (f s).answer m 0 [] else s.refuse m 5

/-- CTX_OPEN (R263, R385, R468, R470, R551). -/
def ctxOpen (s : State) : State :=
  s.onMsg 0x0101 (fun s m =>
    let c := m.ctx
    if c = 0 ∨ (s.ctx c).state ≠ 0 ∨ !s.handedOff ∨ s.rd uBRW BRW_WAFER_Q_STATE ≠ 0 ∨ s.isSet uBRW BRW_WAFER_Q_REPLACE then s.refuse m 5
    else
      let s := (s.updCtx c (fun _ => { ctx0 c with state := 1 })).record 6 c 0 []
      let seed : Option RecEnt := match s.recordedCtx c with
        | none => none
        | some rc => (s.prv.log.filter (fun e => e.kind == 2 && e.ctx == rc)).getLast?
      let s := match seed with
        | some e => s.seedTake c (leNat e.payload)
        | none => s
      s.answer m 0 [])
/-- CTX_OPEN. -/
def execCtxOpen (s : State) : Outcome State Fault Refusal := .next (ctxOpen s)
/-- CTX_TEARDOWN (R383, R386, R468): the context is retired, and leaves its replay sets. -/
def ctxTeardown (s : State) : State :=
  s.onMsg 0x0102 (fun s m => s.withCtx m true (fun s => (((s.record 7 m.ctx 0 []).leaveSets m.ctx).retire m.ctx).replaysGo))
/-- CTX_TEARDOWN. -/
def execCtxTeardown (s : State) : Outcome State Fault Refusal := .next (ctxTeardown s)
/-- SEED_SET (R449, R551): completed by the decision of the Halls; busy while another is under decision. -/
def seedSetMsg (s : State) : State :=
  s.onMsg 0x0103 (fun s m => s.seedSet m.ctx (leNat m.payload) (some m))
/-- SEED_SET. -/
def execSeedSet (s : State) : Outcome State Fault Refusal := .next (seedSetMsg s)
/-- CTX_RESUME (R254): the taint is cleared where the cut's STEP lies below it. -/
def ctxResume (s : State) : State :=
  s.onMsg 0x0104 (fun s m =>
    let ok := match (s.ctx m.ctx).taint with
      | some t => decide (leAt m.payload 0 6 < t)
      | none => false
    s.withCtx m ok (fun s => (s.updCtx m.ctx (fun x => { x with taint := none })).regate m.ctx))
/-- CTX_RESUME. -/
def execCtxResume (s : State) : Outcome State Fault Refusal := .next (ctxResume s)

/-- The entry of a declared input, whose data is still to come: room is taken for what it declares, and above 65,536 bytes
only the digest is kept (R468, R469). Its SEQ plus 1, or 0 where it is not recorded. -/
def State.recordInput (s : State) (c step len digest : Nat) : Nat × State :=
  if s.rd uPRV PRV_REC_CFG_MODE ≠ 1 ∨ s.rd uPRV PRV_CTX_CFG_RECORD c = 0 ∨ s.isSet uPRV PRV_REC_STAT_FULL then (0, s)
  else
    let used := s.rd uPRV PRV_REC_USED_BYTES
    let seq := s.rd uPRV PRV_REC_POS_SEQ
    let size := entrySize (if len ≤ 65536 then len else 0)
    if s.logBytes < used + size then
      (0, (s.flag uPRV PRV_REC_STAT_FULL true).raise 0xD020 s.puActive (s.rd uPRV PRV_REC_CFG_MIB 1) (seq - 1))
    else
      let e : RecEnt := ⟨1, if len ≤ 65536 then 0 else 1, c, step, s.now, seq, digest, []⟩
      let s : State := { s with prv := { s.prv with log := s.prv.log ++ [e] } }
      (seq + 1, (s.wr uPRV PRV_REC_USED_BYTES (used + size)).wr uPRV PRV_REC_POS_SEQ (seq + 1))
/-- A declared input compared with the next KIND 1 entry of its context in a replay (R471). -/
def State.replayInput (s : State) (c step digest : Nat) : State :=
  match s.recordedCtx c with
  | none => s
  | some rc => match s.nextEntry 1 rc with
    | none => s
    | some e =>
      let s := s.replayUsed e.seq
      if e.digest = digest ∧ e.step = step then s else s.replayDiffers 0xD021 c step e.seq
/-- INPUT_DECLARE (R457, R468, R471). -/
def inputDeclare (s : State) : State :=
  s.onMsg 0x0105 (fun s m => s.withCtx m true (fun s =>
    let c := m.ctx
    let step := leAt m.payload 0 6
    let len := leAt m.payload 8 4
    let digest := leAt m.payload 12 32
    let (q, s) := (s.replayInput c step digest).recordInput c step len digest
    let s : State := { s with prv := { s.prv with input := s.prv.input.filter (fun e => e.1 != c) ++ [(c, q, len, 0)] } }
    s.inputChain c digest))
/-- INPUT_DECLARE. -/
def execInputDeclare (s : State) : Outcome State Fault Refusal := .next (inputDeclare s)
/-- INPUT_DATA (R550): the next bytes of the context's last declared input, kept in its entry. -/
def inputData (s : State) : State :=
  s.onMsg 0x0106 (fun s m =>
    match s.prv.input.find? (fun e => e.1 == m.ctx) with
    | none => s.refuse m 5
    | some (_, q, len, got) =>
      let bs := m.payload.drop 8
      if !s.inUse m.ctx then s.refuse m 5
      else if leAt m.payload 0 4 ≠ got ∨ len < got + bs.length then s.refuse m 4
      else
        let s : State := { s with prv := { s.prv with
          input := s.prv.input.map (fun e => if e.1 = m.ctx then (m.ctx, q, len, got + bs.length) else e)
          log := s.prv.log.map (fun e => if e.seq + 1 = q ∧ e.eflags = 0 then { e with payload := e.payload ++ bs } else e) } }
        s.answer m 0 [])
/-- INPUT_DATA. -/
def execInputData (s : State) : Outcome State Fault Refusal := .next (inputData s)
/-- MARK (R468). -/
def markMsg (s : State) : State := s.onMsg 0x0107 (fun s m => s.withCtx m true (fun s => s.record 8 m.ctx 0 m.payload))
/-- MARK. -/
def execMark (s : State) : Outcome State Fault Refusal := .next (markMsg s)
/-- REPLAY_RUN (R470). -/
def replayRun (s : State) : State :=
  s.onMsg 0x0108 (fun s m =>
    if s.isSet uPRV PRV_REC_STAT_FULL || s.rd uPRV PRV_REC_CFG_MODE != 2 || s.prv.replay.isSome || !s.handedOff then s.refuse m 5
    else
      let map := (List.range (m.len / 4)).map (fun i => (leAt m.payload (4 * i) 2, leAt m.payload (4 * i + 2) 2))
      let s : State := { s with prv := { s.prv with replay := some ⟨map, 0, 0, 0, [], false⟩ } }
      (s.wr uPRV PRV_REC_POS_SEQ 0).answer m 0 [])
/-- REPLAY_RUN. -/
def execReplayRun (s : State) : Outcome State Fault Refusal := .next (replayRun s)

/-- The context is the suspect under replay in a cluster (R369). -/
def State.isSuspect (s : State) (k c : Nat) : Bool := (s.replayOf k).any (fun x => x.cur == some c)
/-- REPLAY_STARTED (R369). -/
def replayStarted (s : State) : State :=
  s.onMsg 0x0111 (fun s m =>
    let k := leAt m.payload 0 2
    s.withCtx m (s.isSuspect k m.ctx) (fun s => s.updSet k (fun x => { x with started := true })))
/-- REPLAY_STARTED. -/
def execReplayStarted (s : State) : Outcome State Fault Refusal := .next (replayStarted s)
/-- REPLAY_DONE (R369): the suspect is cleared when it has completed the step of the first expiry; the next one follows. -/
def replayDone (s : State) : State :=
  s.onMsg 0x0112 (fun s m =>
    let k := leAt m.payload 0 2
    let ok := s.isSuspect k m.ctx && (s.replayOf k).any (fun x => decide (x.step ≤ leAt m.payload 2 6))
    s.withCtx m ok (fun s =>
      (s.updSet k (fun x => { x with cleared := x.cleared ++ [m.ctx], cur := none, started := false })).replayGo k))
/-- REPLAY_DONE. -/
def execReplayDone (s : State) : Outcome State Fault Refusal := .next (replayDone s)
/-- REPLAY_DECLINE (R369). -/
def replayDecline (s : State) : State :=
  s.onMsg 0x0113 (fun s m =>
    let k := leAt m.payload 0 2
    s.withCtx m (s.isSuspect k m.ctx) (fun s => (s.killUnreplayed k m.ctx 2).replaysGo))
/-- REPLAY_DECLINE. -/
def execReplayDecline (s : State) : Outcome State Fault Refusal := .next (replayDecline s)

/-- An operator's request for a partition reset may start: with the supply good after a loss, and no comparator tripping
after a Shutter (R382, R489). The cause under which it runs. -/
def State.partCause (s : State) (r : Nat) : Option Nat :=
  if s.regionLost r then (if (s.hall r).pg then some 4 else none)
  else if (s.hall r).shut then (if (s.thmOf r).trips.isEmpty then some 6 else none)
  else some 3
/-- RESET_REQ (R361, R382, R489, R515, R572). -/
def resetReq (s : State) : State :=
  s.onMsg 0x0120 (fun s m =>
    let at_ := leAt m.payload 2 2
    match leAt m.payload 0 1 with
    | 2 =>
      let r := regionOfCluster at_
      if !s.handedOff || s.regionLost r || s.regionShut r || (s.unit (puTst at_)).absent then s.refuse m 5
      else (s.engineReset at_ 2).answer m 1 []
    | 3 =>
      if !s.handedOff || (s.unit (puHal at_)).absent then s.refuse m 5
      else match s.partCause at_ with
        | none => s.refuse m 5
        | some c => (s.startPart at_ c).answer m 1 []
    | 4 => (s.answer m 1 []).chipReset 2
    | _ =>
      let (ok, t) := s.powerCycle 2
      if ok then t.answer m 1 [] else t.refuse m 7)
/-- RESET_REQ. -/
def execResetReq (s : State) : Outcome State Fault Refusal := .next (resetReq s)

/-- Regions whose override differs from none. -/
def State.overridden (s : State) : Nat := ((List.range Config.host.regions).filter (fun r => s.rd uBRW BRW_POSTURE_OVR / 4 ^ r % 4 != 3)).length
/-- Postures put in force, with 0xB040 where one changed (R556, R582). -/
def State.setPostures (s : State) (wafer ovr : Nat) : State :=
  let old := s.rd uBRW BRW_POSTURE_WAFER
  if wafer = old ∧ ovr = s.rd uBRW BRW_POSTURE_OVR then s
  else
    let s := (s.wr uBRW BRW_POSTURE_WAFER wafer).wr uBRW BRW_POSTURE_OVR ovr
    s.raise 0xB040 s.puActive old wafer s.overridden
/-- POSTURE_SET (R184, R556). -/
def postureSet (s : State) : State :=
  s.onMsg 0x0200 (fun s m =>
    let w := leAt m.payload 0 1
    let floor := s.rd uBRW BRW_POSTURE_FLOOR
    let os := (List.range 42).map (fun r => if r < Config.host.regions then leAt m.payload (2 + r) 1 else 3)
    if (w ≠ 255 ∧ floor < w) ∨ os.any (fun o => o != 3 && decide (floor < o)) then s.refuse m 7
    else
      let ovr := ((os.zip (List.range 42)).map (fun e => e.1 * 4 ^ e.2)).sum + (4 ^ 48 - 4 ^ 42)
      (s.setPostures (if w = 255 then s.rd uBRW BRW_POSTURE_WAFER else w) ovr).sendMirror.answer m 0 [])
/-- POSTURE_SET. -/
def execPostureSet (s : State) : Outcome State Fault Refusal := .next (postureSet s)

/-- Where a download of a target goes: the first key, and one past the last byte it may have (R347, R501, R521, R527, R550).
Records wait in the Brewhouse, above the flash. -/
def State.dlPlace (s : State) (t : Nat) : Nat × Nat :=
  match t with
  | 1 => (slotKey (1 - s.fw.boot), fwBytes)
  | 2 => (flashKey 0 (hostSlot (1 - s.fw.hostboot)), 1048576)
  | 3 => (flashKey 0 gristStaged, gristBytes)
  | 4 => (2 ^ 41, 131072)
  | _ => (2 ^ 41 + 2 ^ 20, 131072)
/-- A download of a target may not go on now: 5 the staged bundle or package is in use, 9 the last one is under
verification (R348, R536). -/
def State.dlBlocked (s : State) (t : Nat) : Nat :=
  match t with
  | 1 => if s.fw.act.isSome then 5 else if s.rd uBRW BRW_FW_STAT_STATE = 2 then 9 else 0
  | 2 => if Tab.get (fun _ => 0) s.dl 12 ≠ 0 then 9 else 0
  | 3 => if s.rd uBRW BRW_GRIST_STAT_STATE = 5 then 5 else if s.rd uBRW BRW_GRIST_STAT_STATE = 2 then 9 else 0
  | _ => 0
/-- A download begins: what its slot held is gone (R347, R527). -/
def State.dlBegin (s : State) (t : Nat) : State :=
  match t with
  | 1 => ((s.setValid (1 - s.fw.boot) false).wr uBRW BRW_FW_STAT_STATE 1).wr uBRW BRW_FW_STAGED_VER 0
  | 2 => s.setValid (2 + (1 - s.fw.hostboot)) false
  | 3 => (s.wr uBRW BRW_GRIST_STAT_STATE 1).wr uBRW BRW_GRIST_STAGED_VERSION 0
  | _ => s
/-- Bytes received of a download (`dl` by target), and whether it is open (`dl` by target plus 20). -/
def State.dlGot (s : State) (t : Nat) : Nat := Tab.get (fun _ => 0) s.dl t
def State.setDl (s : State) (i v : Nat) : State := { s with dl := Tab.put (fun _ => 0) s.dl i v }
/-- The last chunk has come: verification starts, or the record waits for its proposal (R557). -/
def State.dlEnd (s : State) (t n : Nat) (m : Msg) : State :=
  let s := s.setDl (t + 20) 0
  let work (s : State) : State := State.answer { s with mbx := { s.mbx with work := s.mbx.work ++ [(t, m)] } } m 1 [(0, 2), (n, 4)]
  match t with
  | 1 => work (s.wr uBRW BRW_FW_STAT_STATE 2)
  | 2 => work (s.setDl 12 1)
  | 3 => work (s.wr uBRW BRW_GRIST_STAT_STATE 2)
  | _ => s.answer m 0 [(0, 2), (n, 4)]
/-- DL_CHUNK (R347, R527, R536, R550, R557). -/
def dlChunk (s : State) : State :=
  s.onMsg 0x0400 (fun s m =>
    let t := leAt m.payload 0 1
    let off := leAt m.payload 4 4
    let bs := m.payload.drop 8
    let n := off + bs.length
    let stop := s.dlBlocked t
    if stop ≠ 0 then s.refuse m stop
    else if (off ≠ 0 ∧ (off ≠ s.dlGot t ∨ s.dlGot (t + 20) = 0)) ∨ (s.dlPlace t).2 < n then s.refuse m 4
    else
      let s := if off = 0 then s.dlBegin t else s
      let k := (s.dlPlace t).1 + off
      let s := s.poke k bs
      let s := if t = 3 then s.poke (k + 2 ^ 28) bs else s
      let s := (s.setDl t n).setDl (t + 20) 1
      if bit (leAt m.payload 1 1) 0 then s.dlEnd t n m else s.answer m 0 [(0, 2), (n, 4)])
/-- DL_CHUNK. -/
def execDlChunk (s : State) : Outcome State Fault Refusal := .next (dlChunk s)
/-- FW_ACTIVATE (R528, R536): refused while an activation runs or with no bundle staged. -/
def fwActivate (s : State) : State :=
  s.onMsg 0x0401 (fun s m =>
    if s.rd uBRW BRW_FW_STAT_STATE ≠ 3 ∨ s.fw.act.isSome ∨ !s.handedOff then s.refuse m 5
    else State.actStart (State.answer { s with mbx := { s.mbx with work := s.mbx.work ++ [(4, m)] } } m 1 []))
/-- FW_ACTIVATE. -/
def execFwActivate (s : State) : Outcome State Fault Refusal := .next (fwActivate s)
/-- PROC_RESTART (R386, R529): from the slot that the processor runs; a Hall's waits for a reset of its region. -/
def procRestart (s : State) : State :=
  s.onMsg 0x0402 (fun s m =>
    let i := leAt m.payload 0 1
    let p := s.proc i
    if !s.procThere i ∨ !s.handedOff then s.refuse m 5
    else if p.state ≠ 0 ∨ p.cause ≠ 0 ∨ s.fw.act.isSome then s.refuse m 9
    else
      let s := s.updProc i (fun p => { p with next := p.slot, cause := 3 })
      State.procsGo (State.answer { s with mbx := { s.mbx with work := s.mbx.work ++ [(100 + i, m)] } } m 1 []))
/-- PROC_RESTART. -/
def execProcRestart (s : State) : Outcome State Fault Refusal := .next (procRestart s)

end Sys2Proof.Machine
end

