-- ==== Sys2Proof/Machine/TwoKey.lean ====
section
/-! DEFINITION. Two-key changes, what each class commits, and the debug unlock (R58, R526, R556, R561-R566, R578). -/
namespace Sys2Proof.Machine
open Sys2Proof Host

/-- Length of a proposal's window in ns (R565). -/
def twkWindow : Nat := 60000000000
/-- A TWK record (R555): 1 staged, 2 committed, 3 expired, 4 withdrawn. -/
def State.notifyTwk (s : State) (p : Proposal) (what : Nat) : State :=
  s.notify 0x0025 0 [(p.cls, 1), (what, 1), (p.origin, 1), (0, 1), (p.nonce, 8)]
/-- A proposal goes without a commit: 0xA022 with the endorsements held, and its TWK record (R562, R565). -/
def State.twkDrop (s : State) (p : Proposal) (what : Nat) : State :=
  let s : State := { s with twk := { s.twk with proposals := s.twk.proposals.filter (fun q => q.cls != p.cls) } }
  (s.raise 0xA022 s.puActive p.cls p.nonce ((if p.host then 1 else 0) + (if p.fleet then 2 else 0))).notifyTwk p what
/-- The staged proposal of a class. -/
def State.proposal (s : State) (cls : Nat) : Option Proposal := s.twk.proposals.find? (fun p => p.cls == cls)

/-- The record received by DL_CHUNK for a variant change of kind 1 or 2. -/
def State.stagedRec (s : State) (kind : Nat) : List Byte := s.peek (s.dlPlace (3 + kind)).1 (s.dlGot (3 + kind))
/-- Why the record of a variant change is refused, 0 when it may be staged (R526, R541). -/
def State.stagedReason (s : State) (kind : Nat) : Nat :=
  let b := s.stagedRec kind
  let why := recReason (kind == 1) b (recPlace (kind == 1) 0).2 s.fw.intkey
  if why ≠ 0 then why else if recLength b ≠ b.length then 2 else if kind = 1 ∧ recVersion b ≤ s.variant.version then 3 else 0
/-- A variant change may be staged (R526, R561): status 0, or of the refusal, with the state after a record is found bad. -/
def State.variantMay (s : State) (p : List Byte) : Nat × State :=
  let kind := leAt p 0 1
  if kind = 1 ∨ kind = 2 then
    if sha384 (s.stagedRec kind) ≠ beNat (p.drop 4) then (5, s)
    else
      let why := s.stagedReason kind
      if why = 0 then (0, s) else (5, s.raise 0xA013 s.puActive kind why (recVersion (s.stagedRec kind)))
  else if kind = 5 then (if bit s.fw.valid (leAt p 4 1) then 0 else 5, s)
  else (if puidOk (leAt p 4 4) then 0 else 4, s)
/-- TWK_PROPOSE (R526, R561, R562): the nonce comes from the security core's random source. -/
def twkPropose (s : State) : State :=
  s.onMsg 0x0300 (fun s m =>
    let cls := leAt m.payload 0 1
    let pay := m.payload.drop 4
    let (st, s) := if cls = 7 then s.variantMay pay else (0, s)
    if st ≠ 0 then s.refuse m st
    else
      let s := match s.proposal cls with
        | some old => s.twkDrop old 4
        | none => s
      let p : Proposal := ⟨cls, pay, Config.openVal s.fresh % 2 ^ 64, if fromFleet m then 2 else 1, s.now, false, false, false,
        if cls = 7 ∧ leAt pay 0 1 ≤ 2 then s.stagedRec (leAt pay 0 1) else []⟩
      let s : State := { s.draw with twk := { s.twk with proposals := s.twk.proposals ++ [p] } }
      let s := ((s.raise 0xA020 s.puActive cls p.nonce p.origin).notifyTwk p 1).sendMirror
      s.answer m 0 [(cls, 1), (0, 5), (p.nonce, 8), (60000, 4)])
/-- TWK_PROPOSE. -/
def execTwkPropose (s : State) : Outcome State Fault Refusal := .next (twkPropose s)
/-- TWK_ENDORSE (R563, R564): the endorsement goes to verification; its role comes from the path. -/
def twkEndorse (s : State) : State :=
  s.onMsg 0x0301 (fun s m =>
    let e : Endorsement := ⟨leAt m.payload 0 1, leAt m.payload 8 8, if fromFleet m then 2 else 1, m.payload.drop 16, m, s.now⟩
    { s with twk := { s.twk with verifying := s.twk.verifying ++ [e] } })
/-- TWK_ENDORSE. -/
def execTwkEndorse (s : State) : Outcome State Fault Refusal := .next (twkEndorse s)

/-- Effect of a committed variant change, with the record it carries (R526). -/
def State.variantChange (s : State) (p b : List Byte) : State :=
  let told (s : State) (kind x : Nat) : State := s.raise 0xA012 s.puActive kind x
  let q := leAt p 4 4
  match leAt p 0 1 with
  | 1 => told ((s.recWrite true b).flag uBRW BRW_VAR_STAT_PENDING true) 1 (recVersion b)
  | 2 => told ((s.recWrite false b).calIn b) 2 (recVersion b)
  | 3 =>
    let st := s.standing q
    told (if st = 0 then s.enterFenced q else if st = 2 then s.setHistState q 1 else s) 3 q
  | 4 =>
    let s := s.returnService q
    let s : State := { s with hist := Tab.erase q s.hist, histStaged := s.histStaged.filter (· != q) }
    told s 4 q
  | _ =>
    let slot := leAt p 4 1
    if !bit s.fw.valid slot then s else
    let b := s.slotBytes slot
    let svn := (bundleHead b).svn
    let old := s.rd uBRW BRW_FW_SVN_MIN
    let s := s.poke (flashKey 1 (fwSlot 0)) b
    let s := s.poke (flashKey 1 (hostSlot 0)) (s.peek (flashKey 0 (hostSlot s.fw.hostboot)) 1048576)
    let s := if old < svn then (s.wr uBRW BRW_FW_SVN_MIN svn).raise 0xA040 s.puActive svn old else s
    told s 5 0
/-- A posture floor in force: every weaker posture becomes the floor (R556). -/
def State.setFloor (s : State) (f : Nat) : State :=
  let s := s.wr uBRW BRW_POSTURE_FLOOR f
  let o := s.rd uBRW BRW_POSTURE_OVR
  let ovr := ((List.range 48).map (fun r => let x := o / 4 ^ r % 4; (if x ≠ 3 ∧ f < x then f else x) * 4 ^ r)).sum
  s.setPostures (min f (s.rd uBRW BRW_POSTURE_WAFER)) ovr
/-- A debug unlock begins (R578). -/
def State.unlock (s : State) (minutes nonce : Nat) : State :=
  let at_ := if s.dbg.until_.isSome then s.dbg.from_ else s.now
  State.raise { s with dbg := { s.dbg with until_ := some (s.now + minutes * twkWindow), from_ := at_ } } 0xE001 s.puActive minutes nonce
/-- What a class commits (R561). -/
def State.classEffect (s : State) (p : Proposal) : State :=
  let v := leAt p.payload 0 1
  match p.cls with
  | 1 =>
    let s := s.wr uBRW BRW_QPOLICY_POLICY v
    if bit (leAt p.payload 1 1) 0 && s.isSet uBRW BRW_WAFER_Q_REPLACE then (s.flag uBRW BRW_WAFER_Q_REPLACE false).notifyWafer else s
  | 2 => s.setFloor v
  | 3 => let s := s.wr uHCH HCH_CTRL_DISABLE v; if v = 1 then s.openGates else s
  | 4 =>
    -- a package staged before a reset shows STATE 0 and its version (R351)
    let st := s.rd uBRW BRW_GRIST_STAT_STATE
    if (st = 3 ∨ (st = 0 ∧ s.rd uBRW BRW_GRIST_STAGED_VERSION ≠ 0)) ∧ s.rd uBRW BRW_GRIST_STAGED_VERSION = leAt p.payload 0 4 then
      s.gristCommit
    else s
  | 5 => s.atticErase
  | 6 => s.unlock (leAt p.payload 0 2) p.nonce
  | 7 => s.variantChange p.payload p.record
  | _ => (s.wr uBRW BRW_PWRCYC_CFG_LIMIT v).padRewrite
/-- A two-key class changes a RW2K field of a page (R588). -/
def lockedBy (u cls : Nat) : Bool := (u == uBRW && (cls == 1 || cls == 2 || cls == 8)) || (u == uHCH && cls == 3)
/-- A commit takes effect (R58, R565): 0xA011 where no standby holds it, 0xA021, its TWK record, and the change. -/
def State.commit (s : State) (p : Proposal) (mirrored : Bool) : State :=
  let s := if mirrored then s else s.raise 0xA011 s.puActive p.cls p.nonce
  let s := ((s.raise 0xA021 s.puActive p.cls p.nonce).wr uTWK TWK_STAT_LAST p.cls).count uTWK TWK_COMMITS_COUNT
  let s := if lockedBy uBRW p.cls then s.wr uBRW PG_LOCK_LAST p.cls else if lockedBy uHCH p.cls then s.wr uHCH PG_LOCK_LAST p.cls else s
  (s.notifyTwk p 2).classEffect p
/-- A standby is there to hold a mirror (R58, R68). -/
def State.standbyHolds (s : State) : Bool := s.bhAlive s.standby && !s.isSet uBRW BRW_ROLE_UNMIRRORED
/-- Commits that wait go on (R58, R499, R566): with a standby a mirror is sent that carries them; without one they take
effect; while a processor of the active Brewhouse restarts they wait. -/
def State.commitsGo (s : State) : State :=
  if s.firmDown || s.twk.committing.isEmpty then s
  else if s.standbyHolds then
    if s.pair.mirrorSent.isSome then s
    else State.sendMirror { s with twk := { s.twk with committing := s.twk.committing.map (fun e => (true, e.2)) } }
  else
    let l := s.twk.committing
    let s : State := { s with twk := { s.twk with committing := [] } }
    s.each l (fun s e => s.commit e.2 false)
/-- A proposal that holds both endorsements commits (R565). -/
def State.toCommit (s : State) (p : Proposal) : State :=
  State.commitsGo { s with twk := { s.twk with
    proposals := s.twk.proposals.filter (fun q => q.cls != p.cls), committing := s.twk.committing ++ [(false, p)] } }
/-- MIRROR_ACK (R57-R59, R63): the mirror under way is complete, and the commits it carries take effect. -/
def mirrorAck (s : State) : State :=
  match s.pair.mirrorSent with
  | none => s
  | some epoch =>
    let s := s.mirrorDone
    if s.firmDown then s
    else
      let l := s.twk.committing.filter (·.1)
      let s : State := { s with twk := { s.twk with committing := s.twk.committing.filter (fun e => !e.1) } }
      let s := s.each l (fun s e => s.commit e.2 true)
      State.commitsGo { s with pair := { s.pair with mirror := some (s.mirrorImage epoch) } }
/-- MIRROR_ACK. -/
def execMirrorAck (s : State) : Outcome State Fault Refusal := .next (mirrorAck s)
/-- PROCESSOR_SWITCH_DONE: cuts and commits that waited for the processor go on (R499). -/
def execProcessorSwitchDone (i : Byte) (us : Nat) (s : State) : Outcome State Fault Refusal :=
  .next (processorSwitchDone s i.toNat us).cutWaited.commitsGo

/-- The endorsement statement (R563). -/
def State.statement (s : State) (p : Proposal) (role : Nat) : List Byte :=
  [0x4F#8, 0x4E#8, 0x54#8, 0x4B#8] ++ leBytes 1 p.cls ++ leBytes 1 role ++ leBytes 2 0 ++ leBytes 8 p.nonce ++ leBytes 4 s.variant.serial ++ leBytes 4 0
    ++ beBytes 48 (sha384 p.payload)
/-- Why an endorsement is refused, 0 when it counts (R564, R565). -/
def State.endorseReason (s : State) (e : Endorsement) : Nat :=
  match s.proposal e.cls with
  | none => 2
  | some p =>
    let key := s.variant.keys.getD (3 + e.role) 0
    if p.nonce ≠ e.nonce ∨ p.staged + twkWindow < e.taken then 2
    else if key = 0 then 3
    else if (if e.role = 1 then p.host else p.fleet) then 4
    else if !sigOk key (s.statement p e.role) e.sig then 1
    else 0
/-- A proposal whose window has ended, with nothing of it under verification any more, expires (R565). -/
def State.expireDue (s : State) (cls : Nat) : State :=
  match s.proposal cls with
  | none => s
  | some p => if p.due && !s.twk.verifying.any (fun e => e.cls == cls && e.nonce == p.nonce && decide (e.taken ≤ p.staged + twkWindow)) then s.twkDrop p 3 else s
/-- ENDORSEMENT_VERIFY (R563-R565): the oldest endorsement is verified; the second one commits its proposal. -/
def endorsementVerify (s : State) : State :=
  match s.twk.verifying with
  | [] => s
  | e :: es =>
    let s : State := { s with twk := { s.twk with verifying := es } }
    let why := s.endorseReason e
    if why ≠ 0 then
      (((s.count uTWK TWK_REFUSED_COUNT).raiseOnce 0 0xA023 s.puActive e.cls e.nonce why).refuse e.msg 5).expireDue e.cls
    else match s.proposal e.cls with
      | none => s
      | some p =>
        let p := if e.role = 1 then { p with host := true } else { p with fleet := true }
        let s := s.answer e.msg 0 []
        if p.host && p.fleet then s.toCommit p
        else
          let s : State := { s with twk := { s.twk with proposals := s.twk.proposals.map (fun q => if q.cls = p.cls then p else q) } }
          s.expireDue e.cls
/-- ENDORSEMENT_VERIFY. -/
def execEndorsementVerify (s : State) : Outcome State Fault Refusal := .next (endorsementVerify s)
/-- PROPOSAL_EXPIRE (R565): the window of a class's proposal has ended. -/
def proposalExpire (s : State) (cls : Nat) : State :=
  State.expireDue { s with twk := { s.twk with proposals := s.twk.proposals.map (fun q => if q.cls = cls then { q with due := true } else q) } } cls
/-- PROPOSAL_EXPIRE. -/
def execProposalExpire (cls : Fin 9) (s : State) : Outcome State Fault Refusal := .next (proposalExpire s cls.val)

/-- A processor that Moldom halted is let run: what waited for it goes on (R499, R577). -/
def State.procRelease (s : State) (i : Nat) : State :=
  if !s.dbg.halted.any (fun h => h.1 == i) then s
  else
    let s : State := { s with dbg := { s.dbg with halted := s.dbg.halted.filter (fun h => h.1 != i) } }
    let s := (s.raise 0xE011 (procPuid i) i 2 (Config.openVal s.fresh)).draw
    let s := if i < 64 && (s.proc i).state != 2 then s.hallBack i else s
    s.cutWaited.commitsGo
/-- A halted pipeline stage is released (R576). -/
def State.pipeRelease (s : State) (k st : Nat) : State :=
  if !s.dbg.pipes.contains (k, st) then s
  else State.raise { s with dbg := { s.dbg with pipes := s.dbg.pipes.filter (fun e => e != (k, st)) } } 0xE012 (puTst k) st 0
/-- The end of a stop that the end of an unlock orders (R578): at once, or after the cut that runs. -/
def State.unlockResume (s : State) : State :=
  if s.stop.phase = 0 ∨ s.stop.phase = 3 then s
  else if s.stop.phase = 2 ∧ s.cut.isNone then s.resumeCut 1
  else { s with stop := { s.stop with cause := 1 } }
/-- A debug unlock ends (R578): cause 1 expiry, 2 DEBUG_LOCK. -/
def State.unlockEnd (s : State) (cause : Nat) : State :=
  if s.dbg.until_.isNone then s
  else
    let used := (s.now - s.dbg.from_) / twkWindow
    let s := s.each s.dbg.pipes (fun s e => s.pipeRelease e.1 e.2)
    let s := s.each s.dbg.halted (fun s h => s.procRelease h.1)
    let s : State := { s with dbg := { s.dbg with until_ := none } }
    (s.unlockResume).raise 0xE002 s.puActive cause used
/-- DEBUG_LOCK (R550, R578). -/
def debugLock (s : State) : State := s.onMsg 0x0302 (fun s m => (s.unlockEnd 2).answer m 0 [])
/-- DEBUG_LOCK. -/
def execDebugLock (s : State) : Outcome State Fault Refusal := .next (debugLock s)
/-- DEBUG_UNLOCK_EXPIRE (R578). -/
def execDebugUnlockExpire (s : State) : Outcome State Fault Refusal := .next (s.unlockEnd 1)

end Sys2Proof.Machine
end

