-- ==== Sys2Proof/Machine/Mgmt.lean ====
section
/-! DEFINITION. Management over I3C and MCTP: address, control messages, reports (R499, R567-R570). -/
namespace Sys2Proof.Machine
open Sys2Proof Host

/-- ENTDAA (R567): the tray controller assigns the dynamic address. -/
def execEntdaa (addr : BitVec 7) (s : State) : Outcome State Fault Refusal := .next { s with mgt := { s.mgt with addr := some addr.toNat } }
/-- The highest region band (THM_SUM.MAXBAND). -/
def State.maxBand (s : State) : Nat := ((List.range Config.host.regions).map (fun r => s.rd (uHAL r) HAL_THM_STAT_BAND)).foldl max 0
/-- The response of an MCTP control command: request header, completion code, data. -/
def ctlResponse (body : List Byte) (code : Nat) (data : List Byte) : List Byte :=
  leBytes 1 0 ++ leBytes 1 (leAt body 0 1 % 128) ++ leBytes 1 (leAt body 1 1) ++ leBytes 1 code ++ data
/-- Set Endpoint ID: an EID of 8 to 254 is accepted (R567). -/
def State.setEid (s : State) (body : List Byte) : State :=
  let op := leAt body 2 1 % 4
  let eid := leAt body 3 1
  if 1 < op ∨ eid < 8 ∨ eid = 255 then s.mctpOut (ctlResponse body 2 [])
  else
    let s : State := { s with mgt := { s.mgt with eid := some eid } }
    (s.raise 0xB031 s.puActive eid).mctpOut (ctlResponse body 0 (leBytes 1 0 ++ leBytes 1 eid ++ leBytes 1 0))
/-- A control command answered (R568). The layouts are those of DSP0236. -/
def State.mctpControl (s : State) (body : List Byte) : State :=
  let answer (code : Nat) (data : List Byte) : State := s.mctpOut (ctlResponse body code data)
  match leAt body 1 1 with
  | 1 => s.setEid body
  | 2 => answer 0 (leBytes 1 (s.mgt.eid.getD 0) ++ leBytes 2 0)
  | 4 =>
    let t := leAt body 2 1
    if t = 0 ∨ t = 0x7F ∨ t = 0xFF then answer 0 (leBytes 1 1 ++ leBytes 4 (Config.imageVal 0x568 t)) else answer 0x80 []
  | 5 => answer 0 (leBytes 1 1 ++ leBytes 1 0x7F)
  | 6 =>
    if leAt body 2 1 = 0 then answer 0 (leBytes 1 0xFF ++ leBytes 1 1 ++ beBytes 4 (Config.imageVal 0x250 0) ++ leBytes 2 (Config.imageVal 0x568 0x100))
    else answer 2 []
  | _ => answer 5 []
/-- MCTP_MESSAGE (R568): control requests are answered, a vendor-defined message of subtype 2 is a fleet message; any other
message is discarded and counted. -/
def mctpMessage (s : State) (type : Nat) (body : List Byte) : State :=
  if !s.recording then s
  else if type = 0 ∧ 2 ≤ body.length ∧ bit (leAt body 0 1) 7 then s.mctpControl body
  else if type = 0x7F ∧ body.take 4 = beBytes 4 (Config.imageVal 0x250 0) ∧ leAt body 4 1 = 2 ∧ 5 ≤ body.length then fleetMessage s (body.drop 5)
  else { s with mgt := { s.mgt with discarded := s.mgt.discarded + 1 } }
/-- MCTP_MESSAGE. -/
def execMctpMessage (msgType : BitVec 7) (body : List Byte) (s : State) : Outcome State Fault Refusal := .next (mctpMessage s msgType.toNat body)

/-- The 64 bytes of a report (R569). -/
def State.reportBytes (s : State) (x : Rpt) (n : Nat) : List Byte :=
  let rec32 := (x.record.flatMap (fun w => leBytes 4 w) ++ List.replicate 32 0).take 32
  rec32 ++ leBytes 4 s.variant.serial ++ leBytes 4 n ++ leBytes 1 x.kind ++ leBytes 3 0 ++ (x.extra ++ List.replicate 20 0).take 20
/-- REPORT_COLLECT (R499, R567, R569): the oldest queued report goes to the tray controller. -/
def reportCollect (s : State) : State :=
  match s.mgt.queue with
  | [] => s
  | x :: xs =>
    if s.mgt.addr.isNone || s.firmDown then s
    else
      let n := s.mgt.rnum + 1
      let t : State := { s.mctpOut (mctpVendor 1 (s.reportBytes x n)) with mgt := { s.mgt with queue := xs, rnum := n } }
      t.count uBRW BRW_MGT_SENT_COUNT
/-- REPORT_COLLECT. -/
def execReportCollect (s : State) : Outcome State Fault Refusal := .next (reportCollect s)
/-- REPORT_SUMMARY (R499, R570): one report for each class that suppressed events. -/
def reportSummary (s : State) : State :=
  if !s.recording || s.firmDown then s
  else
    let l := (s.mgt.supp.zip (List.range 16)).filter (fun e => e.1.1 != 0)
    let s : State := { s with mgt := { s.mgt with supp := List.replicate 15 (0, 0, 0) } }
    s.each l (fun s e => s.mgmtPut ⟨1, 0, [], leBytes 1 e.2 ++ leBytes 3 0 ++ leBytes 4 e.1.1 ++ leBytes 2 e.1.2.1 ++ leBytes 2 e.1.2.2⟩)
/-- REPORT_SUMMARY. -/
def execReportSummary (s : State) : Outcome State Fault Refusal := .next (reportSummary s)
/-- STATUS_REPORT (R499, R569, R570). -/
def statusReport (s : State) : State :=
  if !s.recording || s.firmDown then s
  else
    let n (b : Bool) (v : Nat) := if b then v else 0
    let bits := n s.absent 1 + n (!s.pair.failsafe) 2 + n s.dbg.until_.isSome 4
    let x := leBytes 1 (s.rd uBRW BRW_WAFER_Q_STATE) ++ leBytes 1 (s.rd uBRW BRW_POSTURE_WAFER) ++ leBytes 1 s.maxBand ++ leBytes 1 bits
      ++ leBytes 4 (s.rd uBRW BRW_CUT_EPOCH_DONE)
    State.mgmtPut { s with mgt := { s.mgt with lastStatus := s.now } } ⟨3, 0, [], x⟩
/-- STATUS_REPORT. -/
def execStatusReport (s : State) : Outcome State Fault Refusal := .next (statusReport s)

end Sys2Proof.Machine
end

