-- ==== Sys2Proof/Machine/Takeover.lean ====
section
/-! DEFINITION. Takeover by the standby Brewhouse, and its silence (R58-R68, R390, R536, R566). -/
namespace Sys2Proof.Machine
open Sys2Proof Host

/-- The active Brewhouse is lost with no reign left: the wafer is Shuttered (R64). -/
def State.shutWafer (s : State) : State :=
  let s := s.each (List.range Config.host.regions) (fun s r =>
    ((s.closeGates r 7).updHall r (fun h => { h with shutReset := true })).shutUnits r true)
  { s with pair := { s.pair with failsafe := true } }
/-- The cut in progress goes on under the new reign: its marker is broadcast again under the same number (R62 #6). -/
def State.cutAgain (s : State) : State :=
  match s.cut with
  | none => s
  | some x => State.castCut { s with cut := some { x with sums := [] } } 1 (cutName x.no + kindNo x.kind * 2 ^ 32)
/-- An activation goes on without the lost Brewhouse's processors and without a handover (R536). -/
def leftOut (a : ActRun) (old : Bh) : ActRun :=
  let mine (i : Nat) : Bool := decide (i < 64) || procBh i != old
  { a with handAt := a.handAt.map (fun _ => 0), groups := a.groups.filter (fun g => g.all mine), going := a.going.filter mine }
/-- The standby takes over (R26, R57, R62-R64, R67, R68, R536, R566): cause 1 power-good lost, 2 Hall poll. It records the events that it has staged,
holds the state that its mirror carries, and answers the requests in the Halls' logs (R59, R386). -/
def State.takeover (s : State) (cause : Nat) : State :=
  let old := s.active
  let us := (s.now - (s.brew s.standby).lastHb) / 1000
  let s : State := { s with transit := (s.transit.filter (·.copy)).map (fun e => { e with carried := true }) }
  let s := (s.assumeReign s.standby).updBrew old (fun w => { w with mirrored := false })
  let s := s.loadMirror
  let s := (s.count uBRW BRW_TAKEOVERS_COUNT).raise 0x8040 s.puActive (s.rd uBRW BRW_ROLE_REIGN) cause us
  let s := (s.updAct (fun a => leftOut a old)).cutAgain
  let due := (List.range Config.host.regions).filter (fun r => ((s.hall r).pgLoss || (s.hall r).oc) && !(s.hall r).lost)
  let s := s.each due (fun s r => s.declareLost r (s.hall r).oc)
  let asked := (List.range Config.host.regions).flatMap (fun r => (s.hall r).log.filter (·.request))
  let s := s.each (List.range Config.host.regions) (fun s r => s.updHall r (fun h => { h with log := h.log.filter (fun e => !e.request) }))
  let s := s.each (asked.filter (fun e => e.action == 18)) (fun s e => s.reloadRegion e.arg)
  let s := (s.runVersion.actGo actFuel).commitsGo
  if asked.any (fun e => e.action == 17) then s.chipReset 1 else s
/-- No reign is left: the highest that the standby has, has seen or is shown is 127 (R64). -/
def State.lastReign (s : State) : Bool :=
  let x := s.brew s.standby
  decide (127 ≤ max (s.rd uBRW BRW_ROLE_REIGN) (max x.reign x.seen))
/-- The active Brewhouse is found lost: the standby takes over, or at reign 127 the wafer is Shuttered (R61, R64). -/
def State.activeGone (s : State) (cause : Nat) : State :=
  let s := s.updBrew s.standby (fun w => { w with poll := none })
  if s.lastReign then s.shutWafer else s.takeover cause
/-- The standby may find the active Brewhouse lost: it may take over, or it runs and no reign is left (R61, R63, R64). -/
def State.mayEnd (s : State) : Bool := s.mayTakeOver || (s.bhAlive s.standby && s.lastReign)
/-- HEARTBEAT_SILENCE (R61, R64): the standby has heard nothing for 1 ms; with the active Brewhouse's power-good lost it
takes over, else it polls the Halls. -/
def heartbeatSilence (s : State) : State :=
  let gone := !(s.hall (bhRegion s.active)).pg || s.regionLost (bhRegion s.active)
  if !s.mayEnd then s
  else if gone then s.activeGone 1
  else
    let s := s.updBrew s.standby (fun w => { w with poll := some [] })
    s.emits ((List.range Config.host.regions).map (fun r => .ask 0x61 (puBrw s.standby) (puHal r) 0))
/-- Halls that make a majority (R61). -/
def majority : Nat := Config.host.regions / 2 + 1
/-- HALL_POLL_ANSWER (R61, R64): a Hall without contact counts once; a majority of them shows the active Brewhouse lost. -/
def hallPollAnswer (s : State) (r : Nat) (noContact : Bool) : State :=
  match (s.brew s.standby).poll with
  | none => s
  | some l =>
    if !noContact || l.contains r then s
    else
      let s := s.updBrew s.standby (fun w => { w with poll := some (l ++ [r]) })
      if majority ≤ l.length + 1 && s.mayEnd then s.activeGone 2 else s
/-- STANDBY_SILENCE (R58, R68): the active Brewhouse goes on unmirrored, and commits that waited for a mirror take effect. -/
def standbySilence (s : State) : State :=
  s.unmirror.commitsGo
/-- STANDBY_SILENCE. -/
def execStandbySilence (s : State) : Outcome State Fault Refusal := .next (standbySilence s)

end Sys2Proof.Machine
end

