-- ==== Sys2Proof/Machine/Window.lean ====
section
/-! DEFINITION. The register window, its reads: the page map, the common header, what each field shows, latches and cursors (R18, R19, R120, R399, R402, R585-R598). -/
namespace Sys2Proof.Machine
open Sys2Proof Host

/-- Class code of a page, 0 for a reserved one (R586, R587). -/
def pageClass (p : Nat) : Nat :=
  let g := Config.host
  if p = 0 then 1
  else if p = 1 then 2
  else if 0x10 ≤ p ∧ p < 0x20 then 3
  else if 0x20 ≤ p ∧ p < 0x28 then p - 0x1C
  else if 0x40 ≤ p ∧ p < 0x40 + g.regions then 0x10
  else if 0x80 ≤ p ∧ p < 0x80 + g.links then 0x11
  else if 0x100 ≤ p ∧ p < 0x100 + 4 * g.fields then 0x12
  else if 0x400 ≤ p ∧ p < 0x400 + g.clusters then 0x13
  else if 0x800 ≤ p ∧ p < 0x840 then 0x14
  else 0
/-- First page of a class that has instances (R586). -/
def classFirst (c : Nat) : Nat :=
  if c = 3 then 0x10 else if c = 0x10 then 0x40 else if c = 0x11 then 0x80 else if c = 0x12 then 0x100 else if c = 0x13 then 0x400 else 0x800
/-- PG_ID.INSTANCE of a page (R586, R588). -/
def pageInst (p : Nat) : Nat :=
  let c := pageClass p
  if c = 3 ∨ 0x10 ≤ c then p - classFirst c else 0
/-- A class served by the active Brewhouse (R586). -/
def classGlobal (c : Nat) : Bool := decide (1 ≤ c ∧ c < 0x10)
/-- PG_CAP of a class (R588, R155): TWOKEY, GLOBAL, INDIRECT, STREAMS, SCAN, CKU. -/
def classCap (c : Nat) : Nat :=
  if c = 0 then 0
  else if c = 1 then 32 + 16 + 2 + 1
  else if c = 0xB then 32 + 16
  else if c < 0x10 then 16
  else if c = 0x11 then 4 + 1
  else if c = 0x12 then 4 + 2 + 1
  else if c = 0x14 then 8
  else 0
/-- Bring-up stage of a class's units (R511). -/
def classStage (c : Nat) : Nat := if c = 0x10 then 5 else if c = 0x12 then 7 else if c = 0x11 then 8 else 6
/-- Unit whose registers a page shows: its own number, or the Tap that a window's selector names (R586, R596, R597). -/
def State.pageUnit (s : State) (p : Nat) : Option Nat :=
  let c := pageClass p
  if c = 0 then none
  else if c = 0x14 then
    if s.rd p TAP_WIN_SEL_KIND = 1 ∧ s.rd p TAP_WIN_SEL_CLUSTER < Config.host.clusters ∧ s.rd p TAP_WIN_SEL_CORE < 1024 then
      some (uTAP (s.rd p TAP_WIN_SEL_CLUSTER) (s.rd p TAP_WIN_SEL_CORE))
    else none
  else some p
/-- Cluster and core of a Tap's unit number. -/
def tapOf (u : Nat) : Nat × Nat := ((u - 0x1000) / 1024, (u - 0x1000) % 1024)
/-- PUID of the unit of a page that is not global. -/
def classPuid (c u : Nat) : Nat :=
  if c = 0x10 then puHal (u - 0x40) else if c = 0x11 then puDor (u - 0x80) else if c = 0x12 then puCel (u - 0x100)
  else if c = 0x13 then puTst (u - 0x400) else puTap (tapOf u).1 (tapOf u).2
/-- PG_STAT.STATE of a unit's page: 0 absent, 1 off, 2 on, 3 steep, 4 fenced, 5 Shuttered, 6 lost, the first that applies in
the order of R591. -/
def State.unitState (s : State) (c u : Nat) : Nat :=
  let q := classPuid c u
  let r := regionOfPuid q
  let x := s.unit q
  let k := (tapOf u).1
  let absent := x.absent || (c == 0x14 && (s.unit (puTst k)).absent)
  let off := x.off || decide (s.fw.stage < classStage c) || (c != 0x10 && s.resets.any (fun y => y.level == 3 && y.at_ == r && y.step == 6))
  let steep := x.steep || s.fw.stage == classStage c || (c == 0x14 && (match s.eng (uTST k) with
    | some y => y.unit == puCore k (tapOf u).2 && y.tapN != 0
    | none => false))
  let fenced := x.fenced || x.perm || x.scan || (c == 0x10 && (s.proc r).state == 3)
  if absent then 0
  else if s.regionLost r then 6
  else if off then 1
  else if c ≠ 0x10 ∧ (x.shut || s.regionShut r) then 5
  else if steep then 3
  else if fenced then 4
  else 2
/-- PG_STAT.STATE of a page; a global page reads ON, a reserved page zero (R588, R591, R592, R597). -/
def State.pageState (s : State) (p : Nat) : Nat :=
  let c := pageClass p
  if classGlobal c then 2
  else match s.pageUnit p with
    | none => 0
    | some u => s.unitState c u
/-- Key in `cutUnits` of the unit whose cut a page describes: a Tap's Taster, the active Brewhouse for a global page (R395, R399). -/
def State.pageCut (s : State) (c u : Nat) : Nat :=
  if classGlobal c then cutKey (.brew s.active) else if c = 0x14 then uTST (tapOf u).1 else u
/-- PG_STAT.STALE (R596): the region's clock has not advanced over the last complete beat interval. -/
def State.pageStale (s : State) (c u : Nat) : Bool := c == 0x14 && (s.seg (tapOf u).1).clkstop
/-- PG_LOCK of a page, zero where it has no RW2K field (R588). -/
def State.pageLock (s : State) (u : Nat) : Nat :=
  let b (x : Bool) := if x then 1 else 0
  if u ≠ uBRW ∧ u ≠ uHCH then 0
  else ((List.range 8).map (fun i => b (lockedBy u (i + 1) && (s.proposal (i + 1)).isSome) * 2 ^ (8 + i))).sum
    + b (s.twk.committing.any (fun e => lockedBy u e.2.cls)) * 2 ^ 7 + s.rd u PG_LOCK_LAST
/-- A word of the common header (R588-R592). A page with nothing behind it shows PG_ID, PG_CAP and PG_CTRL alone. -/
def State.pageHeader (s : State) (p off : Nat) : Nat :=
  let c := pageClass p
  let b (x : Bool) (i : Nat) := if x then 2 ^ i else 0
  if c = 0 then 0
  else if off = 0 then c * 2 ^ 24 + pageInst p * 2 ^ 12 + 1
  else if off = 4 then classCap c
  else if off = 8 then s.rd p PG_CTRL_OWNER
  else match s.pageUnit p with
    | none => 0
    | some u =>
      let y := s.cutUnit (s.pageCut c u)
      if off = 0xC then
        b (!classGlobal c && (s.unit (classPuid c u)).perm) 12 + b (s.pageStale c u) 11 + b y.showClk 9 + b y.showReset 8 + s.pageState p
      else if off = 0x10 then s.shownCnt u PG_EVT_RAW_CLASS
      else if off = 0x14 then s.rd u PG_EVT_EN_CLASS
      else if off = 0x18 then s.rd u PG_EVT_CLASS
      else if off = 0x1C then s.pageLock u
      else if off = 0x20 then cutName y.shown
      else 0

/-- The fields of the CKU block that a page class has (R155). DESIGN CHOICE (assumption 207): the Brewhouse page shows the wafer's tensor-block profile in CKU_TB_*, the one
profile of every CKU (R134), though the Brewhouse has no in-line path that uses it. -/
def ckuOf (c : Nat) : List Fld :=
  if c = 1 then fieldsCku.filter (fun F => decide (F.off < 0x480))
  else if c = 0x11 then fieldsCku.filter (fun F => decide (F.off < 0x420 ∨ (0x480 ≤ F.off ∧ F.off < 0x4D0)))
  else if c = 0x12 then fieldsCku
  else []
/-- The page-specific fields of a page class (R587); only MBX page 0x010 holds the ring's. -/
def classFields (c i : Nat) : List Fld :=
  if c = 1 then fieldsBrw ++ ckuOf c
  else if c = 2 then fieldsStr
  else if c = 3 then (if i = 0 then fieldsMbx else [])
  else if c = 4 then fieldsAtt
  else if c = 5 then fieldsLft
  else if c = 6 then fieldsPrv
  else if c = 7 then fieldsDrw
  else if c = 8 then fieldsTwk
  else if c = 9 then fieldsTmb
  else if c = 0xA then fieldsThm
  else if c = 0xB then fieldsHch
  else if c = 0x10 then fieldsHal
  else if c = 0x11 then fieldsDor ++ ckuOf c
  else if c = 0x12 then fieldsCel ++ ckuOf c
  else if c = 0x13 then fieldsTst
  else if c = 0x14 then fieldsTap
  else []

/-- A truth value as a bit. -/
def b2n (x : Bool) : Nat := if x then 1 else 0
/-- A two's complement number of `w` bits. -/
def twos (w : Nat) (x : Int) : Nat := (x % 2 ^ w).toNat
/-- Index that a page's selector gives a field that stands for one of many (the selector registers of chapters 02-14). -/
def State.fldIndex (s : State) (u : Nat) (F : Fld) : Nat :=
  if [CKU_CNT_BLOCKS_COUNT, CKU_CNT_FAIL_COUNT, CKU_CNT_REJECT_COUNT, CKU_CNT_REPEAT_COUNT, CKU_CNT_LOSS_COUNT, CKU_CNT_GAP_COUNT,
      CKU_CNT_POISON_IN_COUNT, CKU_CNT_ABSORB_BYTES].contains F then s.rd u CKU_CNT_SEL_PATH
  else if F = CEL_ECC_CE_COUNT ∨ F = CEL_ECC_UE_COUNT then s.rd u CEL_ECC_SEL_CH
  else if [CEL_BYTES_DELIV, CEL_BYTES_SAVED, CEL_BYTES_WRITTEN, CEL_BYTES_MAINT].contains F then s.rd u CEL_BYTES_SEL_CH
  else if [CEL_BYTES_RDI_BYTES, CEL_BYTES_LOOP_BYTES, CEL_AUD_HELD_BYTES, CEL_AUD_STAT_FAILED].contains F then s.rd u CEL_AUD_SEL_CH
  else if F = DOR_BYTES_BYTES then s.rd u DOR_BYTES_SEL_SEL
  else if F = TST_CNT_COUNT then s.rd u TST_CNT_SEL_INDEX
  else if F = BRW_FEAT_COMMON_MAP ∨ F = BRW_FEAT_HOST_MAP then s.rd u BRW_FEAT_SEL_WORD
  else if F = LFT_SEG_DROPPED_COUNT then s.rd u LFT_SEL_TASTER
  else if [PRV_CTX_CFG_WSET, PRV_CTX_CFG_RECORD, PRV_CTX_CFG_PROV, PRV_PROG, PRV_LASTSTEP_STEP, PRV_DIG, PRV_STAT_BROKEN].contains F then s.rd u PRV_SEL_CTX
  else if F = PRV_WSET_TLO_TENSOR then 16 + s.rd u PRV_WSET_SEL_SET
  else if [PRV_WSET_THI_TENSOR, PRV_WSET_STAT_MISSING, PRV_WSET_STAT_EN, PRV_WSET_EPOCH_COUNT, PRV_WSD].contains F then
    s.rd u PRV_WSET_SEL_SET
  else 0
/-- What a stored field or a counter shows: counters show the last completed shadow (R399). -/
def State.fldStored (s : State) (u : Nat) (F : Fld) (i : Nat) : Nat :=
  match F.bank with
  | .live => s.rd u F i
  | _ => s.shownCnt u F i

/-- Fields of the BRW page that show a present state (R69, R274, R389, R539, R581). -/
def State.viewBrw (s : State) (F : Fld) : Option Nat :=
  if F = BRW_HIST_WIN then some (((List.range 4).map (fun i => s.histWin i * 2 ^ (32 * i))).sum)
  else if F = BRW_HIST_STAT_TABLES then some s.histTables
  else if F = BRW_RST_STAT_PCWIN then some s.pcWindow
  else if F = BRW_RET_Q_STATE then some (s.ctx (s.rd uBRW BRW_RET_SEL_CTX)).state
  else if F = BRW_FEAT_OURS_MAP then some (s.ourMap / 2 ^ (32 * s.rd uBRW BRW_FEAT_SEL_WORD) % 2 ^ 32)
  else if F = BRW_MGT_STAT_EID_VALID then some (b2n s.mgt.eid.isSome)
  else if F = BRW_MGT_STAT_EID then some (s.mgt.eid.getD 0)
  else if F = BRW_MGT_STAT_QUEUED then some s.mgt.queue.length
  else if F = BRW_MGT_VID_IANA then some (Config.imageVal 0x250 s.fw.ver % 2 ^ 32)
  else if F = BRW_DBG_STAT_UNLOCKED then some (b2n s.dbg.until_.isSome)
  else if F = BRW_DBG_STAT_HALTED then some s.dbg.halted.length
  else if F = BRW_DBG_STAT_MINUTES then some ((s.dbg.until_.getD 0 - s.now) / twkWindow)
  else if F = BRW_DBG_PIPE_TASTERS then some (s.dbg.pipes.map (·.1)).eraseDups.length
  else
    let i := s.rd uBRW BRW_PROC_SEL_INDEX
    let there := decide (i < Config.host.regions ∨ (64 ≤ i ∧ i < 67) ∨ (72 ≤ i ∧ i < 75))
    let of (v : Nat) : Option Nat := some (if there then v else 0)
    if F = BRW_PROC_STAT_STATE then of (if s.dbg.halted.any (fun h => h.1 == i) then 3 else (s.proc i).state)
    else if F = BRW_PROC_STAT_SLOT then of (if (s.proc i).slot = 1 then 1 else 0)
    else if F = BRW_PROC_STAT_WDOG then of (min 255 ((s.proc i).wdog.filter (fun t => decide (s.now < t + 600000000000))).length)
    else if F = BRW_PROC_STAT_RESTARTS then of (s.proc i).restarts
    else none
/-- Fields of the TMB, STR and HCH pages that show a selected unit (R56, R70, R109, R434); a selector that names none shows zero. -/
def State.viewLinks (s : State) (c : Nat) (F : Fld) : Option Nat :=
  if c = 9 then
    if F = TMB_NOW_NS then some (s.brewTime s.active)
    else if F = TMB_STAT_BEAT_ON then some (b2n (s.isSet uTMB TMB_STAT_BEAT_ON && s.bhAlive s.active && (Tab.find (bhRegion s.active) s.refLost).isNone))
    else if F = TMB_CYC_CYC then some (let r := s.rd uTMB TMB_CYC_SEL_REGION; if r < Config.host.regions then (s.hall r).cyc else 0)
    else none
  else if c = 2 then
    let f := s.rd uSTR STR_SEL_FIELD
    let h := s.rd uSTR STR_SEL_PORT
    let fOk := decide (f < Config.host.fields)
    if F = STR_PORTS_DETOUR then some (if fOk then ((List.range 6).map (fun h => b2n (s.hop (8 * f + h)).detour * 2 ^ h)).sum else 0)
    else if F = STR_PORTS_LIVE then some (if fOk then ((List.range 6).map (fun h => b2n (s.hopLive f (hopOf h)) * 2 ^ h)).sum else 0)
    else if F = STR_HOP_DELAY_DELAY then some (if fOk ∧ h < 6 then (s.hop (8 * f + h)).delay else 0)
    else if F = STR_RETRY_COUNT then some (if fOk ∧ h < 6 then s.shownCnt (uRTR f) F h else 0)
    else none
  else if c = 0xB then
    let g := s.rd uHCH HCH_SEL_GATE
    if F = HCH_HELD_GRAN then some (if g < nGates then heldGran (s.gate g).held else 0)
    else if [HCH_WITHHELD_COUNT, HCH_IN_BYTES, HCH_OUT_BYTES, HCH_DISC_BYTES, HCH_NOTE_BYTES].contains F then
      some (if g < nGates then s.shownCnt (uGATE g) F else 0)
    else none
  else none
/-- Fields of the ATT, LFT and MBX pages that show a present state (R431, R435, R436, R579). -/
def State.viewRecords (s : State) (c : Nat) (F : Fld) (i : Nat) : Option Nat :=
  if c = 4 then
    if F = ATT_FULL_FULL then some (b2n s.attic.full)
    else if F = ATT_DROPPED_COUNT then some s.attic.dropped
    else if F = ATT_STAT_STAGED then some s.attic.staged.length
    else if F = ATT_STAT_COUNT then some s.atticCount
    else if F = ATT_NEXTSEQ_SEQ then some s.attic.nextSeq
    else if F = ATT_OPTIME_TIME then some (s.optime % 2 ^ 32)
    else if F = ATT_PCYC_COUNT then some s.attic.pcyc
    else if F = ATT_WIN then
      let w := s.atticAt (s.rd uATT ATT_CURSOR_INDEX)
      some (((List.range 8).map (fun j => w.getD j 0 * 2 ^ (32 * j))).sum)
    else none
  else if c = 5 then
    let k := s.rd uLFT LFT_SEL_TASTER
    let g := s.seg k
    let of (v : Nat) : Option Nat := some (if k < Config.host.clusters then v else 0)
    if F = LFT_SEG_MIB then some s.loftZ
    else if F = LFT_SEG_NEXT_INDEX then of g.next
    else if F = LFT_SEG_STAT_WRAPPED then of (b2n g.wrapped)
    else if F = LFT_SEG_STAT_STOPPED then of (b2n g.stopped)
    else if F = LFT_SEG_STAT_LOST then of (b2n g.lost)
    else if F = LFT_SEG_STAT_WRAPS then of g.wraps
    else if F = LFT_RD_WIN then some (((List.range 8).map (fun j => s.loftWord j * 2 ^ (32 * j))).sum)
    else none
  else if c = 3 then if F = MBX_SLOT_ACK_SEQ then some (s.slotAck i) else none
  else none
/-- Fields of the TWK, THM and PRV pages that show a present state (R473, R495, R580). -/
def State.viewPolicy (s : State) (c : Nat) (F : Fld) : Option Nat :=
  if c = 8 then
    let p := s.proposal (s.rd uTWK TWK_SEL_CLASS)
    if F = TWK_STAT_STAGED then some (((List.range 8).map (fun i => b2n (s.proposal (i + 1)).isSome * 2 ^ i)).sum)
    else if F = TWK_NONCE_NONCE then some ((p.map (·.nonce)).getD 0)
    else if F = TWK_PROP_ORIGIN then some ((p.map (·.origin)).getD 0)
    else if F = TWK_PROP_FLEET then some ((p.map (fun x => b2n x.fleet)).getD 0)
    else if F = TWK_PROP_HOST then some ((p.map (fun x => b2n x.host)).getD 0)
    else if F = TWK_LEFT_MS then some ((p.map (fun x => (x.staged + twkWindow - s.now) / 1000000)).getD 0)
    else none
  else if c = 0xA then
    let f := s.rd uTHM THM_SEL_FIELD
    let i := s.rd uTHM THM_SEL_SENSOR
    let y := s.sensor (16 * f + i)
    let of (v : Nat) : Option Nat := some (if sensorThere f i then v else 0)
    let halls (p : Nat → Bool) : Option Nat := some ((List.range Config.host.regions).filter p).length
    if F = THM_TEMP_BROKEN then of (b2n (y.broken != 0))
    else if F = THM_TEMP_PRESENT then of 1
    else if F = THM_TEMP_BAND then of (s.sensorBand (16 * f + i))
    else if F = THM_TEMP_REASON then of y.broken
    else if F = THM_TEMP_T then of (twos 16 y.temp)
    else if F = THM_RAW_COUNT then of y.raw
    else if F = THM_SUM_MAXBAND then some s.maxBand
    else if F = THM_SUM_THROTTLED then halls (fun r => s.rd (uHAL r) HAL_THM_STAT_LEVEL != 0)
    else if F = THM_SUM_SHUT then halls (fun r => (s.hall r).shut)
    else if F = THM_SUM_BROKEN then some (min 255 (s.sens.filter (fun e => e.2.broken != 0)).length)
    else none
  else if c = 6 then if F = PRV_MAPDIG then some s.prv.mapDig else none
  else none
/-- The step of R374 in progress in a partition reset (R387): #3 to #5 begin and end within the command that ends the drain or the retraining, #9 and #10 within
REGION_READY; after the retraining #7 lasts while a Cellar holds, then #8 while a Door that can be trained is not. -/
def State.partStep (s : State) (r : Nat) (x : Reset) : Nat :=
  if x.step ≠ 7 then x.step
  else if (stacksOf r).any (fun c => (s.cel c).hold && !(s.unit (puCel c)).absent) then 7
  else if (doorsOf r).any (fun n => (s.door n).lanes == 0 && !(s.door n).shut && !(s.unit (puDor n)).absent) then 8
  else 9
/-- Fields of a Hall's page that show a present state (R356, R387). -/
def State.viewHal (s : State) (r : Nat) (F : Fld) (i : Nat) : Option Nat :=
  let h := s.hall r
  let xs := s.resets.filter (fun x => (x.level == 3 && x.at_ == r) || (x.level == 2 && regionOfCluster x.at_ == r)
    || (x.level == 1 && regionOfCluster (x.at_ / 1024) == r))
  let n := s.rd (uHAL r) HAL_RPL_SEL_CLUSTER
  let x : Option ReplaySet := if n < (clustersOf r).length then (s.replayOf (clusterAt r n)).head? else none
  if F = HAL_TMO_CLASS_LIMIT then some (s.tmoLimit r i)
  else if F = HAL_RST_STAT_LEVEL then some ((xs.map (·.level)).foldl max 0)
  else if F = HAL_RST_STAT_STEP then some (((xs.find? (fun x => x.level == 3)).map (s.partStep r)).getD 0)
  else if F = HAL_RPL_STAT_ACTIVE then some (b2n x.isSome)
  else if F = HAL_RPL_STAT_REMAIN then some ((x.map (fun y => (remaining y).length)).getD 0)
  else if F = HAL_RPL_STAT_CTX then some ((x.bind (·.cur)).getD 0)
  else if F = HAL_PWR_ISO then some (((List.range 4).map (fun d => b2n (h.iso.getD d false) * 2 ^ d)).sum)
  else if F = HAL_PWR_LOST then some (b2n h.lost)
  else if F = HAL_PWR_OC then some (b2n h.oc)
  else if F = HAL_PWR_PGLOSS then some (b2n h.pgLoss)
  else if F = HAL_PWR_PG then some (b2n h.pg)
  else none
/-- Fields of the CKU block that show a present state (R134, R147, R155). -/
def State.viewCku (s : State) (c u : Nat) (F : Fld) : Option Nat :=
  let t := s.tbProfile
  let w := s.win (4096 * (u - 0x100) + s.rd u CKU_WIN_SEL_WIN)
  let st := s.rd u CKU_STRM_SEL_STREAM
  let rx := c == 0x12 || s.isSet u CKU_STRM_SEL_DIR
  let y := if c = 0x12 then s.winStream (4096 * (u - 0x100) + st) else s.stream (skey (u - 0x80) (b2n rx) st)
  if F = CKU_TB_CFG_PRESET then some s.variant.tb.preset
  else if F = CKU_TB_CFG_REFOUT then some (b2n t.refout)
  else if F = CKU_TB_CFG_REFIN then some (b2n t.refin)
  else if F = CKU_TB_CFG_WIDTH then some t.w
  else if F = CKU_TB_POLY_POLY then some t.poly
  else if F = CKU_TB_INIT_INIT then some t.init
  else if F = CKU_TB_XOR_XOR then some t.xorout
  else if F = CKU_STRM_STAT_SYNC then some (if rx then b2n y.sync else 1)
  else if F = CKU_STRM_STAT_NEXT then some y.e
  else if F = CKU_WIN_BASE_LO_ADDR then some w.heldBase
  else if F = CKU_WIN_BASE_HI_EN then some (b2n w.en)
  else if F = CKU_WIN_BASE_HI_CHANNEL then some w.chan
  else if F = CKU_WIN_BASE_HI_ADDR then some (w.base / 2 ^ 32)
  else if F = CKU_WIN_SIZE_GRAN then some w.heldGran
  else none
/-- Fields of a Door's page that show a present state (R352, R423, R424, R434). -/
def State.viewDor (s : State) (n : Nat) (F : Fld) : Option Nat :=
  if F = DOR_STP_STAT_LOOP then some (((List.range 4).map (fun l => b2n ([1, 2].contains ((s.door n).lb.getD l 0)) * 2 ^ l)).sum)
  else if F = DOR_CR_CAP_CAP then some ((s.variant.cap.map (fun l => l.getD n 0)).getD 0)
  else if F = DOR_AUD_STAT_SHUTTERED then some (b2n ((s.door n).shut || s.regionShut (regionOfDoor n)))
  else if F = DOR_AUD_STAT_VOID then some (b2n ((s.door n).shut || s.voidAt (Config.host.linkField n)))
  else none
/-- Fields of a Cellar's page that show a present state (R280, R293, R311). -/
def State.viewCel (s : State) (c : Nat) (F : Fld) : Option Nat :=
  if F = CEL_STAT_BAND then some (s.celBand c)
  else if F = CEL_PSN_ENTRY then some (s.psnShown c)
  else if F = CEL_RNG_ENTRY then some (((Tab.find (s.rd (uCEL c) CEL_RNG_SEL_INDEX) (s.cel c).rng).map rngWord).getD 0)
  else if F = CEL_SLICE_V then some (s.cel c).rot.v
  else none
/-- Fields of a Taster's page that show a present state (R190, R232, R233, R273, R350, R388, R433). -/
def State.viewTst (s : State) (k : Nat) (F : Fld) : Option Nat :=
  let u := uTST k
  let r := regionOfCluster k
  let p := s.port k
  let core := s.rd u TST_STP_SEL_CORE
  let x := s.stpOf (puCore k core)
  let a := s.adjOf k
  let cfg := s.bankCfg (128 * k + s.rd u TST_CNT_SEL_INDEX)
  if F = TST_RES_STAT_OVERRIDE then some (b2n (s.rd uBRW BRW_POSTURE_OVR / 4 ^ r % 4 != 3))
  else if F = TST_RES_STAT_POSTURE then some (postureCode (s.posture r))
  else if F = TST_RPL_STAT_PENDING then some (s.rplPending k)
  else if F = TST_RPL_STAT_HOLD then some (min 256 ((s.rplHold k + 255) / 256))
  else if F = TST_RPL_STAT_MULT then some (match s.rateMult k with | 1 => 0 | 2 => 1 | _ => 2)
  else if F = TST_RPL_STAT_LEAD then some (b2n (s.steps.any (fun x => x.region == r && x.verdict.isNone && x.lead == k)))
  else if F = TST_DESC_POOL_FREE then some (s.poolFree k)
  else if F = TST_DESC_CTRL_STATUS then some (s.descStatus k)
  else if F = TST_ADJ_STAT_OPEN then some a.cases.length
  else if F = TST_RPL_STAT_TRUSTED then some (b2n (s.tstTrusted k))
  else if F = TST_DESC_CTRL_VALID then some (b2n ((s.slot k (s.rd u TST_DESC_SEL_KIND) (s.rd u TST_DESC_SEL_INDEX)).state == 1))
  else if F = TST_ADJ_STAT_ADOPTER then some (a.adopter.getD k)
  else if F = TST_ADJ_STAT_ADOPTED then some (a.adopted.getD 0)
  else if F = TST_ADJ_STAT_ADOPTING then some (b2n a.adopted.isSome)
  else if F = TST_SPARES_LENT then some ((List.range 1024).filter (fun c => (s.core (ckey k c)).lent)).length
  else if F = TST_SPARES_FREE then some (s.spares k).length
  else if F = TST_STP_STAT_CORE then some (match s.eng u with | some y => (if puidKind y.unit = 0 then puidMinor y.unit else 0) | none => 0)
  else if F = TST_STP_STAT_ACTIVE then some (b2n (s.eng u).isSome)
  else if F = TST_STP_STAT_SLICE then some (match s.eng u with | some y => y.slice | none => 0)
  else if F = TST_STP_STAT_QUEUE then some (s.stpQueue u).length
  else if F = TST_STP_LAST_OPTIME then some (x.lastOp % 2 ^ 32)
  else if F = TST_STP_CORE_PASSED then some (s.stpPassed (puCore k core))
  else if F = TST_STP_CORE_TAPDUE then some (b2n (s.tapDue k core))
  else if F = TST_STP_CORE_FORCED then some (b2n x.forced)
  else if F = TST_STP_CORE_OVERDUE then some (b2n x.overdue)
  else if F = TST_HANG_STAT_HOLD then some (b2n p.hold)
  else if F = TST_HANG_STAT_ABSORB then some (b2n p.absorb)
  else if F = TST_HANG_STAT_DRAIN then some (b2n p.drain.isSome)
  else if F = TST_HANG_STAT_ALLOW then some p.allow
  else if F = TST_CNT_CFG_BIN then some cfg.bin
  else if F = TST_CNT_CFG_EVENT then some cfg.event
  else none
/-- What a field of a page's unit shows: a write-only one zero (R18). -/
def State.fldShown (s : State) (c u : Nat) (F : Fld) (i : Nat) : Nat :=
  if F.acc = .wo then 0
  else
    let v := if F.cls = 0xFE then s.viewCku c u F
      else if c = 1 then s.viewBrw F
      else if c = 0x10 then s.viewHal (u - 0x40) F i
      else if c = 0x11 then s.viewDor (u - 0x80) F
      else if c = 0x12 then s.viewCel (u - 0x100) F
      else if c = 0x13 then s.viewTst (u - 0x400) F
      else if c = 0x14 then
        (if F = TAP_RES_STAT_QFILL then
          (let t := s.tap (ckey (tapOf u).1 (tapOf u).2); some (min 128 (t.qin - t.drained)))
        else none)
      else (s.viewLinks c F).orElse (fun _ => (s.viewRecords c F i).orElse (fun _ => s.viewPolicy c F))
    (v.getD (s.fldStored u F (if 1 < F.n then i else s.fldIndex u F))) % 2 ^ F.width
/-- Where a word lies in a field: element and word number, where it holds any of it. -/
def fldAt (F : Fld) (off : Nat) : Option (Nat × Nat) :=
  let words := (F.lo + F.width + 31) / 32
  (List.range F.n).findSome? (fun i =>
    let a := F.off + F.stride * i
    if a ≤ off ∧ off < a + 4 * words then some (i, (off - a) / 4) else none)
/-- The fields of a page class that a word holds, each with its element and word number. -/
def fldsAt (c i off : Nat) : List (Fld × Nat × Nat) := (classFields c i).filterMap (fun F => (fldAt F off).map (fun x => (F, x)))
/-- Word `j` of a number. -/
def wordOf (x j : Nat) : Nat := x / 2 ^ (32 * j) % 2 ^ 32
/-- A word of the fields of a page's unit. -/
def State.fldWord (s : State) (c i u off : Nat) : Nat :=
  ((fldsAt c i off).map (fun e => wordOf (s.fldShown c u e.1 e.2.1 * 2 ^ e.1.lo) e.2.2)).sum
/-- The 128 bytes of a slice table entry as a number (R287). -/
def sliceImage (e : SliceEnt) : Nat :=
  e.tensor + e.slice * 2 ^ 32 + e.gen * 2 ^ 64 + e.lch * 2 ^ 80 + e.ch * 2 ^ 96 + b2n e.ref * 2 ^ 100 + e.state * 2 ^ 104 + b2n e.localOk * 2 ^ 112
    + b2n e.peerOk * 2 ^ 113 + e.peer * 2 ^ 114 + e.addr * 2 ^ 128 + e.length * 2 ^ 192 + e.rot * 2 ^ 224 + e.expected * 2 ^ 256
    + e.localDig * 2 ^ 512 + e.peerDig * 2 ^ 768
/-- A page-specific word of a page that is there (R312, R544, R585, R597). -/
def State.pageWord (s : State) (p off : Nat) : Nat :=
  let c := pageClass p
  let i := pageInst p
  if c = 3 ∧ 0x800 ≤ off ∧ off < 0xC00 then Tab.get (fun _ => 0) s.mbx.slots (256 * i + (off - 0x800) / 4)
  else if c = 0x12 ∧ 0x680 ≤ off ∧ off < 0x700 then
    ((s.slice i (s.rd p CEL_SLICE_SEL_INDEX)).map (fun e => wordOf (sliceImage e) ((off - 0x680) / 4))).getD 0
  else match s.pageUnit p with
    | none => 0
    | some u => s.fldWord c i u off
/-- High word of a read-only LO/HI pair that a LO word belongs to (R595). -/
def pairHi (c i off : Nat) : Option Fld :=
  ((fldsAt c i off).find? (fun e => decide (e.1.acc = .ro ∧ 32 < e.1.width ∧ e.1.width ≤ 64) && e.2.2 == 0)).map (·.1)
/-- The word is the high word of such a pair. -/
def isHi (c i off : Nat) : Bool := decide (4 ≤ off) && (pairHi c i (off - 4)).isSome
/-- A page-specific word as a read answers it: the high word of a pair shows what was latched, TMB_NOW_HI and TMB_CYC_HI
zero before the first latch (R56, R595). -/
def State.pageRead (s : State) (p off : Nat) : Nat :=
  let c := pageClass p
  if isHi c (pageInst p) off then
    (Tab.find (4096 * p + off) s.latch).getD (if c = 9 then 0 else s.pageWord p off)
  else s.pageWord p off
/-- The word that a read of the window answers (R585, R591, R592, R597). -/
def State.winWord (s : State) (offset : Nat) : Nat :=
  let p := offset / 4096
  let off := offset % 4096 / 4 * 4
  let c := pageClass p
  let st := s.pageState p
  if c = 0 then 0
  else if off < 0x40 then s.pageHeader p off
  else if c = 0x14 ∧ off = 0xF00 then s.rd p TAP_WIN_SEL_KIND * 2 ^ 28 + s.rd p TAP_WIN_SEL_CLUSTER * 2 ^ 16 + s.rd p TAP_WIN_SEL_CORE
  else if st = 0 ∨ st = 1 ∨ st = 6 then 0
  else s.pageRead p off
/-- What a read of the window changes: the LO of a pair latches its HI, and the four cursors advance (R595). -/
def State.winTouch (s : State) (offset : Nat) : State :=
  let p := offset / 4096
  let off := offset % 4096 / 4 * 4
  let c := pageClass p
  let st := s.pageState p
  let quiet (t : State) : State := { t with sent := s.sent }
  if c = 0 ∨ off < 0x40 ∨ st = 0 ∨ st = 1 ∨ st = 6 then s
  else if c = 4 ∧ off = 0x7C then quiet (atticWindowRead s)
  else if c = 5 ∧ off = 0x8C then quiet (loftWindowRead s)
  else if c = 1 ∧ off = 0x9C then quiet (historyWindowRead s)
  else if c = 0x12 ∧ off = 0x80 then quiet (poisonMapRead s (pageInst p))
  else if (pairHi c (pageInst p) off).isSome then { s with latch := Tab.insert (4096 * p + off + 4) (s.pageWord p (off + 4)) s.latch }
  else s
/-- A read of the window, from the host or Moldom: counted (R598), with its answer. -/
def State.winRead (s : State) (offset : Nat) : State × Nat :=
  ((s.count uBRW BRW_WIN_RD_COUNT).winTouch offset, s.winWord offset)
/-- A read of the window by the host. -/
def State.hostRead (s : State) (offset : Nat) : State :=
  let x := s.winRead offset
  x.1.emit (.word (BitVec.ofNat 32 x.2))

end Sys2Proof.Machine
end

