-- ==== Sys2Proof/Machine/WindowWrite.lean ====
section
/-! DEFINITION. The register window, its writes: access types, values a register takes, registers whose write is an operation, and the register commands of the table (R18, R19, R120, R585-R598). -/
namespace Sys2Proof.Machine
open Sys2Proof Host

/-- A number with its word `j` replaced. -/
def setWord (x j d : Nat) : Nat := x - wordOf x j * 2 ^ (32 * j) + d * 2 ^ (32 * j)
/-- The values that a register with a stated range takes; others are ignored (R311, R351, R387, R432, R435, R581). -/
def fldRange (F : Fld) : Option (Nat × Nat) :=
  if F = CEL_SCRUB_CFG_PERIOD_H then some (1, 168)
  else if F = BRW_STP_PERIOD_ANA_MIN then some (10, 240)
  else if F = BRW_STP_PERIOD_UNIT_H then some (4, 24)
  else if F = BRW_STP_PERIOD_CORE_H then some (1, 4)
  else if F = HAL_STALL_CFG_MS then some (10, 1000)
  else if F = BRW_CUT_CFG_PERIOD_MS then some (10, 10000)
  else if F = LFT_CFG_SIZE_GIB then some (1, 512)
  else if F = LFT_RATE_REC_PER_US then some (1, 64)
  else if F = BRW_MGT_CFG_STATUS_S then some (1, 255)
  else if F = PRV_REC_CFG_MODE then some (0, 2)
  else none
/-- What a field holds after a write of a value, none where the write is ignored (R109, R155, R313, R356, R467, R494, R581). -/
def State.fldTakes (s : State) (u : Nat) (F : Fld) (i v : Nat) : Option Nat :=
  if F = HCH_BACKSTOP_US ∨ F = BRW_DIG_TICK_MAX_US ∨ F = BRW_MGT_CFG_RATE ∨ F = BRW_MGT_CFG_BURST then some (max 1 v)
  else if F = PRV_REC_CFG_MIB then (if nClusters + v ≤ s.rd uLFT LFT_CFG_SIZE_GIB * 1024 then some v else none)
  else if F = HAL_PWR_BUDGET_W then
    (match s.variant.power with
      | some (_, _, _, _, l) => if v ≤ l.getD (u - 0x40) 0 then some v else none
      | none => some v)
  else if F = CKU_SC_POLY ∨ F = CKU_SC_INIT ∨ F = CKU_SC_XOR then some (v % 2 ^ s.rd u CKU_SC_CFG_WIDTH)
  else if F = HAL_TMO_CLASS_LIMIT then some (Nat.xor v (tmoDefault i))
  else match fldRange F with
    | some (lo, hi) => if lo ≤ v ∧ v ≤ hi then some v else none
    | none => some v
/-- Index under which a written value is held: the low tensor bound of a weight set waits for the high one (R473). -/
def State.fldHeld (s : State) (u : Nat) (F : Fld) (i : Nat) : Nat :=
  if F = PRV_WSET_TLO_TENSOR then 16 + s.rd u PRV_WSET_SEL_SET else if 1 < F.n then i else s.fldIndex u F
/-- A word written to a field by its access type (R18). -/
def State.fldWrite (s : State) (u : Nat) (F : Fld) (i j d : Nat) : State :=
  let k := s.fldHeld u F i
  let old := if F = HAL_TMO_CLASS_LIMIT then s.tmoLimit (u - 0x40) i else s.rd u F k
  let new := setWord (old * 2 ^ F.lo) j d / 2 ^ F.lo % 2 ^ F.width
  let ones := d * 2 ^ (32 * j) / 2 ^ F.lo % 2 ^ F.width
  match F.acc with
  | .ro => s
  | .rw2k => s
  | .w1c => s.wr u F (old - Nat.land old ones) k
  | _ => match s.fldTakes u F i new with
    | some v => s.wr u F v k
    | none => s
/-- What follows a write of a word: a log started (R468), a weight-set range taken (R473), a throttle method at level 0 (R483). -/
def State.afterWrite (s0 s : State) (c u off : Nat) : State :=
  if c = 6 ∧ off = 0x180 ∧ s0.rd uPRV PRV_REC_CFG_MODE ≠ 1 ∧ s.rd uPRV PRV_REC_CFG_MODE = 1 then
    let s : State := { s with prv := { s.prv with log := [] } }
    ((s.wr uPRV PRV_REC_USED_BYTES 0).wr uPRV PRV_REC_POS_SEQ 0).flag uPRV PRV_REC_STAT_FULL false
  else if c = 6 ∧ off = 0xD8 then
    let k := s.rd uPRV PRV_WSET_SEL_SET
    s.wr uPRV PRV_WSET_TLO_TENSOR (s.rd uPRV PRV_WSET_TLO_TENSOR (16 + k)) k
  else if c = 0x10 ∧ off = 0xC4 then s.driveThr (u - 0x40)
  else s
/-- A word holds a RW2K field. -/
def twoKeyWord (c i off : Nat) : Bool := (fldsAt c i off).any (fun e => e.1.acc == .rw2k)
/-- A write of a word without an operation of its own: every field by its type, and 0xA010 for a RW2K one (R18, R541, R542). -/
def State.plainWrite (s : State) (p c u off d : Nat) : State :=
  let i := pageInst p
  let t := (fldsAt c i off).foldl (fun t e => t.fldWrite u e.1 e.2.1 e.2.2 d) s
  let t := State.afterWrite s t c u off
  if twoKeyWord c i off then t.raiseOnce 0 0xA010 t.puActive p off d else t
/-- A mailbox slot's word (R544). -/
def State.slotWrite (s : State) (i off d : Nat) : State :=
  { s with mbx := { s.mbx with slots := Tab.put (fun _ => 0) s.mbx.slots (256 * i + (off - 0x800) / 4) d } }
/-- Bytes of a staging window replaced. -/
def putBytes (l : List Byte) (at_ : Nat) (bs : List Byte) : List Byte :=
  let l := l ++ List.replicate (at_ + bs.length - l.length) 0#8
  l.take at_ ++ bs ++ l.drop (at_ + bs.length)
/-- The unit of a page that holds a scan engine. -/
def scanAt (c i : Nat) : Option ScanUnit :=
  if c = 1 then some .brew else if c = 0x12 then (if h : i < nStacks then some (.cellar ⟨i, h⟩) else none) else none
/-- The unit of a page that holds streams or windows. -/
def streamAt (c i : Nat) : Option StreamUnit :=
  if c = 0x11 then (if h : i < nLinks then some (.door ⟨i, h⟩) else none)
  else if c = 0x12 then (if h : i < nStacks then some (.cellar ⟨i, h⟩) else none) else none
/-- CEL_SLICE_CMD: the operation named, others ignored (R312). -/
def State.sliceOp (s : State) (c op : Nat) : State :=
  if op = 1 then sliceWrite s c else if op = 2 then sliceVerify s c else if op = 3 then sliceDrop s c else if op = 4 then sliceRedigest s c else s
/-- BRW_CUT_CTRL: GO, STOP and RESUME, in this order (R432). -/
def State.cutOp (s : State) (d : Nat) : State :=
  let s := if bit d 31 then cutGo s else s
  let s := if bit d 30 then s.stopReq 1 else s
  if bit d 29 then s.resumeReq else s
/-- A write of a register of the CKU block whose write is an operation (R146, R147, R153, R155). -/
def State.ckuWrite (s : State) (c i u off d : Nat) : Option State :=
  let sv := scanAt c i
  if off = 0x420 then sv.map (fun v => scanProfileWrite s v d)
  else if off = 0x450 then sv.map (fun v => if bit d 30 && !bit d 31 then scanGo (scanAbort s v) v d else scanGo s v d)
  else if off = 0x4C8 then (streamAt c i).map (fun v => streamResync s v d)
  else if c = 0x12 ∧ off = 0x4D4 then some (s.updWin (4096 * i + s.rd u CKU_WIN_SEL_WIN) (fun w => { w with heldBase := d }))
  else if c = 0x12 ∧ off = 0x4D8 then some (windowApply s i d)
  else if c = 0x12 ∧ off = 0x4DC then some (s.updWin (4096 * i + s.rd u CKU_WIN_SEL_WIN) (fun w => { w with heldGran := d }))
  else none
/-- A write of a register whose write is an operation, none for any other (the registers of chapters 03-14). -/
def State.opWrite (s : State) (c i u off d : Nat) : Option State :=
  match s.ckuWrite c i u off d with
  | some t => some t
  | none =>
    if c = 1 ∧ off = 0x88 then some (historySelect s d)
    else if c = 1 ∧ off = 0x180 then some (s.cutOp d)
    else if c = 3 ∧ 0x800 ≤ off ∧ off < 0xC00 then some (s.slotWrite i off d)
    else if c = 3 ∧ i = 0 ∧ off = 0x50 then some (ringHeadWrite s d)
    else if c = 3 ∧ i = 0 ∧ off = 0x54 then some (hostHeartbeat s d)
    else if c = 5 ∧ off = 0x50 then some (traceRestart s d)
    else if c = 5 ∧ off = 0x54 then some (traceMark s d)
    else if c = 6 ∧ off = 0x44 then some (provenanceEnable s d)
    else if c = 7 ∧ off = 0x54 then some (drwSeedSet s d)
    else if c = 7 ∧ off = 0x80 then some (drawCalc s d)
    else if c = 0xA ∧ (off = 0x54 ∨ off = 0x58 ∨ off = 0x5C) then some (limitTighten s off d)
    else if c = 0x12 ∧ off = 0x44 then some (channelClear s i d)
    else if c = 0x12 ∧ off = 0x100 then some (channelMarch s i d)
    else if c = 0x12 ∧ off = 0x504 then some (s.sliceOp i (bits d 2 0))
    else if c = 0x13 ∧ off = 0x204 then
      some (if bit d 0 && bit d 1 then s else if bit d 0 then descriptorLoad s i else if bit d 1 then descriptorInvalidate s i else s)
    else if c = 0x13 ∧ off = 0x30C then some (attributionBinWrite s i d)
    else if c = 0x13 ∧ off = 0x344 then some (counterConfigWrite s i d)
    else if c = 0x13 ∧ 0x800 ≤ off then some (s.updRplOf i (fun x => { x with stage := putBytes x.stage (off - 0x800) (leBytes 4 d) }))
    else none
/-- PG_CTRL.OWNER: set while 0, released by its own value or 0, else unchanged (R589). -/
def State.ownerWrite (s : State) (p d : Nat) : State :=
  let v := d % 256
  let cur := s.rd p PG_CTRL_OWNER
  if cur = 0 then s.wr p PG_CTRL_OWNER v else if v = cur ∨ v = 0 then s.wr p PG_CTRL_OWNER 0 else s
/-- TAP_WIN_SEL: the PUID as written (R597). -/
def State.selectWrite (s : State) (p d : Nat) : State :=
  ((s.wr p TAP_WIN_SEL_KIND (bits d 31 28)).wr p TAP_WIN_SEL_CLUSTER (bits d 27 16)).wr p TAP_WIN_SEL_CORE (bits d 15 0)
/-- A word written to the unit of a page that accepts writes. -/
def State.unitWrite (s : State) (p u off d : Nat) : State :=
  let c := pageClass p
  if off = 0x14 then s.wr u PG_EVT_EN_CLASS d
  else if off = 0x18 then s.wr u PG_EVT_CLASS (s.rd u PG_EVT_CLASS - Nat.land (s.rd u PG_EVT_CLASS) d)
  else if off < 0x40 then s
  else (s.opWrite c (pageInst p) u off d).getD (s.plainWrite p c u off d)
/-- An access that writes, as the page's state lets it: a reserved page ignores it; an ABSENT, OFF, SHUTTERED or LOST one
ignores and counts it; a Tap whose clock stands drops it (R591, R592, R596, R598). -/
def State.written (s : State) (p : Nat) (f : State → State) : State :=
  let s := s.count uBRW BRW_WIN_WR_COUNT
  let st := s.pageState p
  let c := pageClass p
  if c = 0 then s
  else if st = 0 ∨ st = 1 ∨ st = 5 ∨ st = 6 then s.count uBRW BRW_WIN_STAT_STATEW
  else if (match s.pageUnit p with | some u => s.pageStale c u | none => false) then s
  else f s
/-- A write of the window, from the host or Moldom. What belongs to a Tap window itself is written whatever its Tap's state
(R596, R597). -/
def State.winWrite (s : State) (offset d : Nat) : State :=
  let p := offset / 4096
  let off := offset % 4096 / 4 * 4
  if pageClass p = 0x14 ∧ off = 8 then (s.count uBRW BRW_WIN_WR_COUNT).ownerWrite p d
  else if pageClass p = 0x14 ∧ off = 0xF00 then (s.count uBRW BRW_WIN_WR_COUNT).selectWrite p d
  else s.written p (fun s =>
    if off = 8 then s.ownerWrite p d
    else match s.pageUnit p with
      | some u => s.unitWrite p u off d
      | none => s)
/-- Offset of a register of a unit's page. -/
def regAt (u off : Nat) : Nat := 4096 * u + off

/-- The standby Brewhouse is about to take over: it polls the Halls (R62 #2-#3). -/
def State.takingOver (s : State) : Bool := (s.brew s.standby).poll.isSome
/-- The word that the active Brewhouse answers a read with for a unit that does not answer: the header with UNREACHED, and
zero elsewhere (R594). -/
def State.unreachedWord (s : State) (offset : Nat) : Nat :=
  let off := offset % 4096 / 4 * 4
  if 0x40 ≤ off then 0
  else
    let w := s.pageHeader (offset / 4096) off
    if off = 0xC then Nat.lor w (2 ^ 10) else w
/-- PAGE_UNREACHED (R594): a unit's page does not answer; one of a LOST region, a reserved or a global page is answered as ever. -/
def pageUnreached (s : State) (offset : Nat) (write : Bool) : State :=
  let p := offset / 4096
  let c := pageClass p
  if c < 0x10 ∨ s.pageState p = 6 then s
  else
    let s := s.count uBRW BRW_WIN_STAT_UNREACH
    if write then s.count uBRW BRW_WIN_WR_COUNT
    else (s.count uBRW BRW_WIN_RD_COUNT).emit (.word (BitVec.ofNat 32 (s.unreachedWord offset)))
/-- WINDOW_PARTIAL_WRITE (R120, R122): ignored, and 0xC021. -/
def windowPartialWrite (s : State) (offset be : Nat) : State :=
  let s := s.count uBRW BRW_WIN_WR_COUNT
  if be = 15 then s else s.raise 0xC021 s.puActive offset be
/-- An access of the host to the window: held during a takeover, in order, else done (R66). -/
def State.hostAcc (s : State) (x : HostAcc) (f : State → State) : State :=
  if s.takingOver then { s with pair := { s.pair with waiting := s.pair.waiting ++ [x] } } else f s
/-- A held access done. -/
def State.hostDo (s : State) (x : HostAcc) : State :=
  match x with
  | .read o => s.hostRead o
  | .write o d => s.winWrite o d.toNat
  | .unreached o w => pageUnreached s o w
  | .part o be => windowPartialWrite s o be
/-- The accesses held, oldest first, once no takeover goes on (R66). -/
def State.hostGo (s : State) : State :=
  if s.takingOver then s else State.each { s with pair := { s.pair with waiting := [] } } s.pair.waiting State.hostDo
/-- A write of the host. -/
def State.hostWrite (s : State) (offset d : Nat) : State := s.hostAcc (.write offset (BitVec.ofNat 32 d)) (fun s => s.winWrite offset d)
/-- A write of the host to a register whose write is the operation given. -/
def State.hostOp (s : State) (u off d : Nat) (f : State → State) : State := s.hostAcc (.write (regAt u off) (BitVec.ofNat 32 d)) (fun s => s.written u f)
/-- A read of the host. -/
def State.hostGet (s : State) (offset : Nat) : State := s.hostAcc (.read offset) (fun s => s.hostRead offset)

/-- OWNER_CLAIM (R589). -/
def execOwnerClaim (page : BitVec 12) (data : Word) (s : State) : Outcome State Fault Refusal := .next (s.hostWrite (regAt page.toNat 8) data.toNat)
/-- TAP_WINDOW_SELECT (R597). -/
def execTapWindowSelect (w : Fin 64) (data : Word) (s : State) : Outcome State Fault Refusal := .next (s.hostWrite (regAt (uWIN w.val) 0xF00) data.toNat)
/-- PAGE_UNREACHED. -/
def execPageUnreached (offset : BitVec 24) (write : Bool) (s : State) : Outcome State Fault Refusal := 
  .next (s.hostAcc (.unreached offset.toNat write) (fun s => pageUnreached s offset.toNat write))
/-- LO_HI_LATCH_READ (R120, R595): a read of the window. -/
def execLoHiLatchRead (offset : BitVec 24) (s : State) : Outcome State Fault Refusal := .next (s.hostGet offset.toNat)
/-- WINDOW_PARTIAL_WRITE. -/
def execWindowPartialWrite (offset : BitVec 24) (be : BitVec 4) (s : State) : Outcome State Fault Refusal := 
  .next (s.hostAcc (.part offset.toNat be.toNat) (fun s => windowPartialWrite s offset.toNat be.toNat))
/-- RW2K_DIRECT_WRITE (R18). -/
def execRw2kDirectWrite (offset : BitVec 24) (data : Word) (s : State) : Outcome State Fault Refusal := .next (s.hostWrite offset.toNat data.toNat)
/-- REGISTER_WRITE (R585). -/
def execRegisterWrite (offset : BitVec 24) (data : Word) (s : State) : Outcome State Fault Refusal := .next (s.hostWrite offset.toNat data.toNat)

/-- SLICE_WRITE: a write of CEL_SLICE_CMD with OP 1. -/
def execSliceWrite (c : StackId) (s : State) : Outcome State Fault Refusal := .next (s.hostOp (uCEL c.val) 0x504 1 (fun s => sliceWrite s c.val))
/-- SLICE_VERIFY: OP 2. -/
def execSliceVerify (c : StackId) (s : State) : Outcome State Fault Refusal := .next (s.hostOp (uCEL c.val) 0x504 2 (fun s => sliceVerify s c.val))
/-- SLICE_DROP: OP 3. -/
def execSliceDrop (c : StackId) (s : State) : Outcome State Fault Refusal := .next (s.hostOp (uCEL c.val) 0x504 3 (fun s => sliceDrop s c.val))
/-- SLICE_REDIGEST: OP 4. -/
def execSliceRedigest (c : StackId) (s : State) : Outcome State Fault Refusal := .next (s.hostOp (uCEL c.val) 0x504 4 (fun s => sliceRedigest s c.val))
/-- CHANNEL_CLEAR: a write of CEL_CH_CTRL. -/
def execChannelClear (c : StackId) (data : Word) (s : State) : Outcome State Fault Refusal :=
  .next (s.hostOp (uCEL c.val) 0x44 data.toNat (fun s => channelClear s c.val data.toNat))
/-- CHANNEL_MARCH: a write of CEL_STP_CTRL. -/
def execChannelMarch (c : StackId) (data : Word) (s : State) : Outcome State Fault Refusal :=
  .next (s.hostOp (uCEL c.val) 0x100 data.toNat (fun s => channelMarch s c.val data.toNat))
/-- POISON_MAP_READ: a read of CEL_PSN_HI. -/
def execPoisonMapRead (c : StackId) (s : State) : Outcome State Fault Refusal := .next (s.hostGet (regAt (uCEL c.val) 0x80))
/-- SCAN_GO: a write of CKU_SCAN_CTRL with GO. -/
def execScanGo (u : ScanUnit) (data : Word) (s : State) : Outcome State Fault Refusal := .next (s.hostOp (scanUnit u) 0x450 data.toNat (fun s => scanGo s u data.toNat))
/-- SCAN_ABORT: a write of CKU_SCAN_CTRL with ABORT alone. -/
def execScanAbort (u : ScanUnit) (s : State) : Outcome State Fault Refusal := .next (s.hostOp (scanUnit u) 0x450 (2 ^ 30) (fun s => scanAbort s u))
/-- SCAN_PROFILE_WRITE: a write of CKU_SC_CFG. -/
def execScanProfileWrite (u : ScanUnit) (data : Word) (s : State) : Outcome State Fault Refusal :=
  .next (s.hostOp (scanUnit u) 0x420 data.toNat (fun s => scanProfileWrite s u data.toNat))
/-- Page of a unit with streams or windows. -/
def streamUnitNo : StreamUnit → Nat
  | .door n => uDOR n.val
  | .cellar c => uCEL c.val
/-- STREAM_RESYNC: a write of CKU_STRM_CTRL. -/
def execStreamResync (u : StreamUnit) (data : Word) (s : State) : Outcome State Fault Refusal :=
  .next (s.hostOp (streamUnitNo u) 0x4C8 data.toNat (fun s => streamResync s u data.toNat))
/-- WINDOW_APPLY: a write of CKU_WIN_BASE_HI. -/
def execWindowApply (c : StackId) (data : Word) (s : State) : Outcome State Fault Refusal :=
  .next (s.hostOp (uCEL c.val) 0x4D8 data.toNat (fun s => windowApply s c.val data.toNat))
/-- HISTORY_SELECT: a write of BRW_HIST_PUID. -/
def execHistorySelect (data : Word) (s : State) : Outcome State Fault Refusal := .next (s.hostOp uBRW 0x88 data.toNat (fun s => historySelect s data.toNat))
/-- HISTORY_WINDOW_READ: a read of BRW_HIST_WIN3. -/
def execHistoryWindowRead (s : State) : Outcome State Fault Refusal := .next (s.hostGet (regAt uBRW 0x9C))
/-- CUT_GO: a write of BRW_CUT_CTRL with GO. -/
def execCutGo (s : State) : Outcome State Fault Refusal := .next (s.hostOp uBRW 0x180 (2 ^ 31) cutGo)
/-- GLOBAL_STOP: a write of BRW_CUT_CTRL with STOP. -/
def execGlobalStop (s : State) : Outcome State Fault Refusal := .next (s.hostOp uBRW 0x180 (2 ^ 30) (fun s => s.stopReq 1))
/-- GLOBAL_RESUME: a write of BRW_CUT_CTRL with RESUME. -/
def execGlobalResume (s : State) : Outcome State Fault Refusal := .next (s.hostOp uBRW 0x180 (2 ^ 29) State.resumeReq)
/-- ATTRIBUTION_BIN_WRITE: a write of TST_ATB_CTRL. -/
def execAttributionBinWrite (k : ClusterId) (data : Word) (s : State) : Outcome State Fault Refusal :=
  .next (s.hostOp (uTST k.val) 0x30C data.toNat (fun s => attributionBinWrite s k.val data.toNat))
/-- COUNTER_CONFIG_WRITE: a write of TST_CNT_CFG. -/
def execCounterConfigWrite (k : ClusterId) (data : Word) (s : State) : Outcome State Fault Refusal :=
  .next (s.hostOp (uTST k.val) 0x344 data.toNat (fun s => counterConfigWrite s k.val data.toNat))
/-- DESCRIPTOR_LOAD: a write of TST_DESC_CTRL with LOAD. -/
def execDescriptorLoad (k : ClusterId) (s : State) : Outcome State Fault Refusal := .next (s.hostOp (uTST k.val) 0x204 1 (fun s => descriptorLoad s k.val))
/-- DESCRIPTOR_INVALIDATE: a write of TST_DESC_CTRL with INVAL. -/
def execDescriptorInvalidate (k : ClusterId) (s : State) : Outcome State Fault Refusal :=
  .next (s.hostOp (uTST k.val) 0x204 2 (fun s => descriptorInvalidate s k.val))
/-- TRACE_RESTART: a write of LFT_CTRL. -/
def execTraceRestart (data : Word) (s : State) : Outcome State Fault Refusal := .next (s.hostOp uLFT 0x50 data.toNat (fun s => traceRestart s data.toNat))
/-- TRACE_MARK: a write of LFT_MARK. -/
def execTraceMark (data : Word) (s : State) : Outcome State Fault Refusal := .next (s.hostOp uLFT 0x54 data.toNat (fun s => traceMark s data.toNat))
/-- LOFT_WINDOW_READ: a read of LFT_RD_WIN7. -/
def execLoftWindowRead (s : State) : Outcome State Fault Refusal := .next (s.hostGet (regAt uLFT 0x8C))
/-- ATTIC_WINDOW_READ: a read of ATT_WIN7. -/
def execAtticWindowRead (s : State) : Outcome State Fault Refusal := .next (s.hostGet (regAt uATT 0x7C))
/-- DRW_SEED_SET: a write of DRW_SEED_CTRL. -/
def execDrwSeedSet (data : Word) (s : State) : Outcome State Fault Refusal := .next (s.hostOp uDRW 0x54 data.toNat (fun s => drwSeedSet s data.toNat))
/-- DRAW_CALC: a write of DRW_CALC_CTRL. -/
def execDrawCalc (data : Word) (s : State) : Outcome State Fault Refusal := .next (s.hostOp uDRW 0x80 data.toNat (fun s => drawCalc s data.toNat))
/-- PROVENANCE_ENABLE: a write of PRV_CTX_CFG. -/
def execProvenanceEnable (data : Word) (s : State) : Outcome State Fault Refusal := .next (s.hostOp uPRV 0x44 data.toNat (fun s => provenanceEnable s data.toNat))
/-- LIMIT_TIGHTEN: a write of a limit register of the THM page. -/
def execLimitTighten (off : BitVec 12) (data : Word) (s : State) : Outcome State Fault Refusal :=
  .next (s.hostOp uTHM off.toNat data.toNat (fun s => limitTighten s off.toNat data.toNat))
/-- HOST_HEARTBEAT: a write of MBX_HB. -/
def execHostHeartbeat (data : Word) (s : State) : Outcome State Fault Refusal := .next (s.hostOp (uMBX 0) 0x54 data.toNat (fun s => hostHeartbeat s data.toNat))
/-- RING_HEAD_WRITE: a write of MBX_RING_HEAD. -/
def execRingHeadWrite (data : Word) (s : State) : Outcome State Fault Refusal := .next (s.hostOp (uMBX 0) 0x50 data.toNat (fun s => ringHeadWrite s data.toNat))

end Sys2Proof.Machine
end

