-- ==== Sys2Proof/Machine/Debug.lean ====
section
/-! DEFINITION. The debug port: the TAP, Moldom's commands, halted processors and pipeline stages, and scan (R573-R578). -/
namespace Sys2Proof.Machine
open Sys2Proof Host

/-- TAP_RESET (R573): Test-Logic-Reset selects IDCODE. -/
def execTapReset (s : State) : Outcome State Fault Refusal := .next { s with dbg := { s.dbg with ir := 1 } }

/-- What the next Capture-DR loads (R574). -/
def State.respond (s : State) (opc : Nat) (m : Moldom) (status data : Nat) : State :=
  { s with dbg := { s.dbg with resp := (opc, m.tag.toNat, status, m.addr.toNat, data % 2 ^ 32) } }
/-- A Moldom command, given what it answers with its status and data: one issued while another is BUSY is discarded, and its
response shows BUSY with the earlier TAG (R574). -/
def State.moldom (s : State) (opc : Nat) (m : Moldom) (f : State → State × Nat × Nat) : State :=
  if s.dbg.busy then s
  else
    let x := f s
    x.1.respond opc m x.2.1 x.2.2
/-- A command that a debug unlock must be in force for: else LOCKED, 0xE010 and no effect (R575, R584). -/
def State.unlockedOnly (s : State) (opc : Nat) (m : Moldom) (f : State → State × Nat × Nat) : State :=
  s.moldom opc m (fun s => if s.dbg.until_.isNone then (s.raiseOnce 0 0xE010 s.puActive opc m.target.toNat, 2, 0) else f s)

/-- NOP (R574, R575): the capture of the last response is repeated. -/
def execNop (_ : Moldom) (s : State) : Outcome State Fault Refusal := .next s
/-- The identification words (R575): none above 5. -/
def State.identWord (s : State) (a : Nat) : Option Nat :=
  if a = 0 then some (s.winWord (regAt uBRW 0x1C0))
  else if a = 1 then some (s.fw.ver % 2 ^ 32)
  else if a = 2 then some (s.fw.ver / 2 ^ 32)
  else if a = 3 then some s.variant.serial
  else if a = 4 then some (s.winWord (regAt uBRW 0x270))
  else if a = 5 then some (s.winWord (regAt uBRW 0x1F0))
  else none
/-- IDENT. -/
def execIdent (m : Moldom) (s : State) : Outcome State Fault Refusal :=
  .next (s.moldom 0x01 m (fun s => match s.identWord m.addr.toNat with
    | some w => (s, 0, w)
    | none => (s, 5, 0)))
/-- An address is an aligned word of the window. -/
def windowAddr (a : Nat) : Bool := decide (a < 2 ^ 24) && a % 4 == 0
/-- WINDOW_READ (R575). -/
def execWindowRead (m : Moldom) (s : State) : Outcome State Fault Refusal :=
  .next (s.unlockedOnly 0x10 m (fun s =>
    if windowAddr m.addr.toNat then (let x := s.winRead m.addr.toNat; (x.1, 0, x.2)) else (s, 5, 0)))
/-- WINDOW_WRITE (R575). -/
def execWindowWrite (m : Moldom) (s : State) : Outcome State Fault Refusal :=
  .next (s.unlockedOnly 0x11 m (fun s =>
    if windowAddr m.addr.toNat then (s.winWrite m.addr.toNat m.data.toNat, 0, m.data.toNat) else (s, 5, 0)))

/-- A firmware processor's index (R539). -/
def procIndex (i : Nat) : Bool := decide (i < Config.host.regions) || (decide (64 ≤ i) && decide (i < 67)) || (decide (72 ≤ i) && decide (i < 75))
/-- Key of a byte of an SRAM in the memory table: Halls and processors by target, Tasters above (assumption 37). -/
def sramKey (target addr : Nat) : Nat := target * 2 ^ 24 + addr
/-- The place that a memory command names, or its status: 4 bad target, 5 access fault, 6 the unit is not there (R575). -/
def State.memPlace (s : State) (target addr : Nat) : Sum Nat Nat :=
  let word (there : Bool) : Sum Nat Nat := if !there then .inr 6 else if addr % 4 = 0 ∧ addr < 2 ^ 24 then .inl (sramKey target addr) else .inr 5
  if procIndex target then word (s.procThere target)
  else if 0x1000 ≤ target ∧ target < 0x1000 + Config.host.clusters then
    let k := target - 0x1000
    word (!s.regionLost (regionOfCluster k) && !(s.unit (puTst k)).absent)
  else if 0x2000 ≤ target ∧ target < 0x2A00 ∧ (target - 0x2000) % 512 < 4 * Config.host.fields then
    let c := (target - 0x2000) % 512
    let a := (target - 0x2000) / 512 * 2 ^ 34 + 4 * addr
    if s.regionLost (regionOfStack c) || (s.unit (puCel c)).absent then .inr 6
    else if 16 * chanBytes < a + 4 then .inr 5
    else
      let p := scanPlace 16 a
      .inl (stackKey c p.1 p.2)
  else .inr 4
/-- MEMORY_READ (R575). -/
def execMemoryRead (m : Moldom) (s : State) : Outcome State Fault Refusal :=
  .next (s.unlockedOnly 0x12 m (fun s => match s.memPlace m.target.toNat m.addr.toNat with
    | .inl k => (s, 0, leNat (s.peek k 4))
    | .inr st => (s, st, 0)))
/-- MEMORY_WRITE (R575). -/
def execMemoryWrite (m : Moldom) (s : State) : Outcome State Fault Refusal :=
  .next (s.unlockedOnly 0x13 m (fun s => match s.memPlace m.target.toNat m.addr.toNat with
    | .inl k => (s.poke k (leBytes 4 m.data.toNat), 0, m.data.toNat)
    | .inr st => (s, st, 0)))

/-- A processor is halted by Moldom. -/
def State.isHalted (s : State) (i : Nat) : Bool := s.dbg.halted.any (fun h => h.1 == i)
/-- A processor halts: 0xE011 with 1 halt, 3 breakpoint or 4 watchpoint; it is treated as restarting (R499, R577, R583). -/
def State.haltProc (s : State) (i cause what addr : Nat) : State :=
  let s : State := { s with dbg := { s.dbg with halted := s.dbg.halted.filter (fun h => h.1 != i) ++ [(i, cause)] } }
  let s := if i < 64 then s.updHall i (fun h => { h with procHeld := true }) else s
  s.raise 0xE011 (procPuid i) i what addr
/-- The state with a fresh address of a processor's next instruction, which the spec leaves to its firmware (assumption 3). -/
def State.haltFresh (s : State) (i cause : Nat) : State := (s.haltProc i cause 1 (Config.openVal s.fresh)).draw
/-- A command to a processor: 4 for no such processor, 6 for one that is not there (R575). -/
def State.onProc (s : State) (i : Nat) (f : State → State × Nat × Nat) : State × Nat × Nat :=
  if !procIndex i then (s, 4, 0) else if !s.procThere i then (s, 6, 0) else f s
/-- PROCESSOR_HALT (R577). -/
def execProcessorHalt (m : Moldom) (s : State) : Outcome State Fault Refusal :=
  let i := m.target.toNat
  .next (s.unlockedOnly 0x20 m (fun s => s.onProc i (fun s => (if s.isHalted i then s else s.haltFresh i 1, 0, 0))))
/-- PROCESSOR_RUN (R575). -/
def execProcessorRun (m : Moldom) (s : State) : Outcome State Fault Refusal :=
  let i := m.target.toNat
  .next (s.unlockedOnly 0x21 m (fun s => s.onProc i (fun s => (s.procRelease i, 0, 0))))
/-- PROCESSOR_STEP (R575): one instruction of a halted processor; any other is refused. -/
def execProcessorStep (m : Moldom) (s : State) : Outcome State Fault Refusal :=
  let i := m.target.toNat
  .next (s.unlockedOnly 0x22 m (fun s => s.onProc i (fun s => if s.isHalted i then (s.haltFresh i 2, 0, 0) else (s, 6, 0))))
/-- A breakpoint set or cleared (R575). -/
def State.setBreak (s : State) (i addr d : Nat) : State :=
  let l := s.dbg.breaks.filter (fun b => !(b.1 == i && b.2.1 == bits d 1 0))
  { s with dbg := { s.dbg with breaks := if bit d 31 then l ++ [(i, bits d 1 0, addr)] else l } }
/-- A watchpoint set or cleared: 1 read, 2 write, 3 both (R575). -/
def State.setWatch (s : State) (i addr d : Nat) : State :=
  let l := s.dbg.watches.filter (fun b => !(b.1 == i && b.2.1 == bits d 0 0))
  { s with dbg := { s.dbg with watches := if bit d 31 then l ++ [(i, bits d 0 0, bits d 2 1, addr)] else l } }
/-- SET_BREAKPOINT. -/
def execSetBreakpoint (m : Moldom) (s : State) : Outcome State Fault Refusal :=
  let i := m.target.toNat
  .next (s.unlockedOnly 0x23 m (fun s => s.onProc i (fun s => (s.setBreak i m.addr.toNat m.data.toNat, 0, m.data.toNat))))
/-- SET_WATCHPOINT. -/
def execSetWatchpoint (m : Moldom) (s : State) : Outcome State Fault Refusal :=
  let i := m.target.toNat
  .next (s.unlockedOnly 0x24 m (fun s => s.onProc i (fun s => (s.setWatch i m.addr.toNat m.data.toNat, 0, m.data.toNat))))
/-- PROCESSOR_STATUS (R575): halted, and why. -/
def execProcessorStatus (m : Moldom) (s : State) : Outcome State Fault Refusal :=
  let i := m.target.toNat
  .next (s.unlockedOnly 0x25 m (fun s => s.onProc i (fun s =>
    (s, 0, match s.dbg.halted.find? (fun h => h.1 == i) with | some h => 1 + 2 * h.2 | none => 0))))
/-- PROCESSOR_BREAK_HIT (R575, R577): a running processor comes to a point that is set, while the unlock lasts. -/
def processorBreakHit (s : State) (i : Nat) (watch : Bool) (addr : Nat) : State :=
  let set := if watch then s.dbg.watches.any (fun w => w.1 == i && w.2.2.1 != 0 && w.2.2.2 == addr) else s.dbg.breaks.any (fun b => b.1 == i && b.2.2 == addr)
  if s.dbg.until_.isNone || s.isHalted i || !set || !s.procThere i then s
  else s.haltProc i (if watch then 4 else 3) (if watch then 4 else 3) addr
/-- PROCESSOR_BREAK_HIT. -/
def execProcessorBreakHit (i : Byte) (watch : Bool) (addr : Word) (s : State) : Outcome State Fault Refusal :=
  .next (processorBreakHit s i.toNat watch addr.toNat)

/-- A STOP or RESUME that was honoured runs until its cut is complete; one that was ignored is refused by state (R403-R406, R574). -/
def State.stopOrder (s t : State) : State × Nat × Nat :=
  if t.stop.phase ≠ s.stop.phase then ({ t with dbg := { t.dbg with busy := true } }, 1, 0) else (t, 6, 0)
/-- MOLDOM_STOP (R403): while no unlock is in force also 0x9022. -/
def execMoldomStop (m : Moldom) (s : State) : Outcome State Fault Refusal :=
  .next (s.moldom 0x30 m (fun s =>
    if s.dbg.until_.isNone then ((s.raiseOnce 0 0xE010 s.puActive 0x30 m.target.toNat).stopReq 2, 2, 0) else s.stopOrder (s.stopReq 2)))
/-- MOLDOM_RESUME (R405). -/
def execMoldomResume (m : Moldom) (s : State) : Outcome State Fault Refusal :=
  .next (s.unlockedOnly 0x31 m (fun s => s.stopOrder s.resumeReq))

/-- A command to a stage of a Taster: 4 for no such Taster, 5 for no such stage, 6 for a Taster that is not there (R576). -/
def State.onStage (s : State) (m : Moldom) (f : State → Nat → Nat → State × Nat × Nat) : State × Nat × Nat :=
  let k := m.target.toNat
  let st := m.addr.toNat
  if Config.host.clusters ≤ k then (s, 4, 0)
  else if 8 ≤ st then (s, 5, 0)
  else if s.regionLost (regionOfCluster k) || (s.unit (puTst k)).absent then (s, 6, 0)
  else f s k st
/-- A stage's acknowledge is withheld: 0xE012 (R576, R583). -/
def State.pipeHalt (s : State) (k st : Nat) : State :=
  if s.dbg.pipes.contains (k, st) then s
  else State.raise { s with dbg := { s.dbg with pipes := s.dbg.pipes ++ [(k, st)] } } 0xE012 (puTst k) st 1
/-- PIPELINE_HALT (R576): stage 0 only during a global stop. -/
def execPipelineHalt (m : Moldom) (s : State) : Outcome State Fault Refusal :=
  .next (s.unlockedOnly 0x40 m (fun s => s.onStage m (fun s k st => if st = 0 ∧ s.stop.phase ≠ 2 then (s, 6, 0) else (s.pipeHalt k st, 0, 0))))
/-- PIPELINE_RELEASE (R576). -/
def execPipelineRelease (m : Moldom) (s : State) : Outcome State Fault Refusal :=
  .next (s.unlockedOnly 0x41 m (fun s => s.onStage m (fun s k st => (s.pipeRelease k st, 0, 0))))

/-- Bytes of a memory table in a run of keys zeroed. -/
def State.wipe (s : State) (lo hi : Nat) : State := { s with mem := Tab.drop lo hi s.mem }
/-- The secrets of a unit cleared (R577): a Taster's SRAM, seed cache and hold buffer; a Hall's, Cellar's or Door's SRAM, stream
and map state. -/
def State.clearSecrets (s : State) (p : Nat) : State :=
  let n := puidMajor p
  match puidKind p with
  | 2 =>
    let s := (s.wipe (sramKey (0x1000 + n) 0) (sramKey (0x1001 + n) 0)).rptDrop n (fun _ => true)
    -- what it was computing for commands of other clusters is not to come
    let s := s.each ((s.rplOf n).units.filter (fun u => u.home != n)) (fun s u => s.updRcmd u.home u.cmd (fun c => { c with stopped := true }))
    let s := s.dropCmds n (fun _ => true)
    let s := if s.rd (uTST n) TST_DESC_CTRL_STATUS = 1 then s.wr (uTST n) TST_DESC_CTRL_STATUS 0 else s
    { s.unitsOut n (fun _ => true) with
             rpl := Tab.upd rplOf0 (s.unitsOut n (fun _ => true)).rpl n (fun x => { rplOf0 n with lost := x.lost }), pairs := Tab.erase n s.pairs
             adj := Tab.upd adjOf0 s.adj n (fun a => { a with cases := [] })
             prv := { s.prv with heldLoads := s.prv.heldLoads.filter (fun e => e.1 != n) } }
  | 3 =>
    let s := s.wipe (sramKey n 0) (sramKey (n + 1) 0)
    { s with halls := Tab.upd hall0 s.halls n (fun h => { h with log := [] })
             prv := { s.prv with served := s.prv.served.filter (fun e => e.1 != n) } }
  | 5 =>
    { s with winAlive := Tab.drop (4096 * n) (4096 * (n + 1)) s.winAlive, wins := Tab.drop (4096 * n) (4096 * (n + 1)) s.wins
             cels := Tab.upd cel0 s.cels n (fun x => { cel0 n with saved := x.saved, hold := x.hold }) }
  | _ =>
    { s with streams := Tab.drop (8192 * n) (8192 * (n + 1)) s.streams, reloads := Tab.erase n s.reloads }
/-- Units that may be scanned: Tasters, Halls, Cellars and Doors (R577). -/
def scannable (p : Nat) : Bool := puidOk p && (puidKind p == 2 || puidKind p == 3 || puidKind p == 5 || puidKind p == 6)
/-- SCAN_ENABLE (R577): the unit leaves service until its steep passes; any other unit is refused. -/
def execScanEnable (m : Moldom) (s : State) : Outcome State Fault Refusal :=
  let p := m.target.toNat * 2 ^ 16 + m.addr.toNat % 2 ^ 16
  .next (s.unlockedOnly 0x50 m (fun s =>
    if !puidOk p then (s, 4, 0)
    else if !scannable p || s.regionLost (regionOfPuid p) || (s.unit p).absent then (s, 6, 0)
    else
      let s := s.updUnit p (fun u => { u with scan := true })
      let s := (if puidKind p = 2 then s.leaveService (puidMajor p) else s).clearSecrets p
      ((State.raise { s with dbg := { s.dbg with scan := s.dbg.scan.filter (· != p) ++ [p] } } 0xE013 p), 0, 0)))

end Sys2Proof.Machine
end

