-- ==== Sys2Proof/Machine/Exchange.lean ====
section
/-! DEFINITION. Exchange records, third copies and reloads between wafers (R296-R304). -/
namespace Sys2Proof.Machine
open Sys2Proof Host

/-- The Cellar that counts what a Door could not route: that of the Door's field, the lowest of its four (R296; assumption 27). -/
def doorCellar (n : Nat) : Nat := 4 * Config.host.linkField n
/-- Where an incoming record goes (R296): its Cellar, or the reason it is ignored for. -/
def State.routeRec (s : State) (r : Xrec) : Nat ⊕ Nat :=
  if s.waferId = 0 ∨ (r.dst ≠ 0 ∧ r.dst ≠ s.waferId) then .inr 3
  else match s.physChan r.lch with
    | some ph => .inl (ph / 16)
    | none => .inr 4
/-- The slice of a record at a Cellar: its index; else the reason: 2 unknown slice, 1 another GEN (R298). -/
def State.findSlice (s : State) (c : Nat) (r : Xrec) : Nat ⊕ Nat :=
  let l := (s.cel c).slices.filter (fun e => e.2.tensor == r.tensor && e.2.slice == r.slice)
  match l.find? (fun e => e.2.gen == r.gen) with
  | some e => .inl e.1
  | none => .inr (if l.isEmpty then 2 else 1)
/-- What is done with a record's slice, where it is routed and found; it is ignored otherwise. -/
def State.withSlice (s : State) (n : Nat) (r : Xrec) (f : Nat → Nat → State) : State :=
  match s.routeRec r with
  | .inr k => s.ignoreRec (doorCellar n) k r.src
  | .inl c => match s.findSlice c r with
    | .inr k => s.ignoreRec c k r.src
    | .inl i => f c i
/-- A record of a reserved RTYPE is absorbed, and counted where it is routed; 0x5060 has no reason for it (R298, R311, R314). -/
def State.absorbRec (s : State) (n : Nat) (r : Xrec) : State :=
  s.count (uCEL (match s.routeRec r with | .inl c => c | .inr _ => doorCellar n)) CEL_DIG_IGN_COUNT
/-- DIGEST_RECORD (R298, R299, R311): RTYPE 1 replaces PEER; a reserved RTYPE is absorbed. -/
def digestRecord (s : State) (n : Nat) (b : List Byte) : State :=
  let r := Xrec.ofBytes b
  if r.rtype = 0 ∨ 6 < r.rtype then s.absorbRec n r
  else if r.rtype ≠ 1 then s
  else s.withSlice n r (fun c i =>
    let idx := (((s.cel c).rot.peers.find? (fun p => p.2.1 == r.src)).map (·.1)).getD 3
    (s.updSlice c i (fun e => { e with peerOk := true, peer := idx, peerDig := r.digest })).compareSlice c i false)
/-- DIGEST_RECORD. -/
def execDigestRecord (n : DoorId) (payload : List Byte) (s : State) : Outcome State Fault Refusal := .next (digestRecord s n.val payload)

/-- A refusal, RTYPE 6, back to a record's sender (R297, R299). -/
def State.refuseRec (s : State) (c n : Nat) (r : Xrec) (rstat : Nat) : State :=
  s.sendRec c n { r with rtype := 6, rstat := rstat, src := s.waferId, dst := r.src, digest := 0 }
/-- A request routed to its slice; a slice that is not there is refused (R299). -/
def State.requestAt (s : State) (n : Nat) (r : Xrec) (f : Nat → Nat → SliceEnt → State) : State :=
  match s.routeRec r with
  | .inr k => s.ignoreRec (doorCellar n) k r.src
  | .inl c => match s.findSlice c r with
    | .inr _ => s.refuseRec c n r 1
    | .inl i => match s.slice c i with
      | some e => f c i e
      | none => s.refuseRec c n r 1
/-- THIRD_COPY_REQUEST (R299). -/
def thirdCopyRequest (s : State) (n : Nat) (b : List Byte) : State :=
  let r := Xrec.ofBytes b
  s.requestAt n r (fun c _ e =>
    if e.state = 3 then s.sendRec c n (s.recOf e 3 r.src e.localDig) else s.refuseRec c n r 2)
/-- THIRD_COPY_REQUEST. -/
def execThirdCopyRequest (n : DoorId) (payload : List Byte) (s : State) : Outcome State Fault Refusal :=
  .next (thirdCopyRequest s n.val payload)

/-- A third copy is no longer awaited. -/
def State.thirdOver (s : State) (c i : Nat) : State := s.updCel c (fun x => { x with third := x.third.filter (fun t => t.1 != i) })
/-- A disagreement stays undecided (R299). -/
def State.undecided (s : State) (c i : Nat) : State :=
  match s.slice c i with
  | some e => (s.thirdOver c i).raise 0x5023 (puCel c) e.tensor e.slice (s.peerWafer c e)
  | none => s.thirdOver c i
/-- THIRD_COPY_ANSWER (R299). -/
def thirdCopyAnswer (s : State) (n : Nat) (b : List Byte) : State :=
  let r := Xrec.ofBytes b
  s.withSlice n r (fun c i => match s.slice c i with
    | none => s
    | some e =>
      if e.state ≠ 6 ∨ !(s.cel c).third.any (fun t => t.1 == i) then s
      else if r.digest = e.peerDig then
        (((s.thirdOver c i).sliceState c i 5).raise 0x5021 (puCel c) e.tensor e.slice (s.peerWafer c e)).needRepair c i 2 0
      else if r.digest = e.localDig then ((s.thirdOver c i).sliceState c i 3).raise 0x5022 (puCel c) e.tensor e.slice (s.peerWafer c e)
      else s.undecided c i)
/-- THIRD_COPY_ANSWER. -/
def execThirdCopyAnswer (n : DoorId) (payload : List Byte) (s : State) : Outcome State Fault Refusal := .next (thirdCopyAnswer s n.val payload)
/-- THIRD_COPY_TIMEOUT (R299). -/
def thirdCopyTimeout (s : State) (c i : Nat) : State := if (s.cel c).third.any (fun t => t.1 == i) then s.undecided c i else s
/-- THIRD_COPY_TIMEOUT. -/
def execThirdCopyTimeout (c : StackId) (i : Fin 16384) (s : State) : Outcome State Fault Refusal := .next (thirdCopyTimeout s c.val i.val)

/-- The blocks of a stored slice sent by a Door on stream 4,093, in slice order; the first argument bounds their number (R297). -/
def State.sendBlocks (s : State) (n : Nat) : Nat → List Byte → State
  | 0, _ => s
  | k + 1, bs =>
    let h := Header.ofBytes bs
    if bs.length < blockSize h then s
    else (s.doorInsert n 4093 h (Sys2Proof.slice bs 16 (16 * h.len))).sendBlocks n k (bs.drop (blockSize h))
/-- RELOAD_REQUEST (R297, R300, R303): the announcement and every block of the slice, or a refusal; a slice that is being
repaired here is refused as busy. The reload is sent whole at once (assumption 28). -/
def reloadRequest (s : State) (n : Nat) (b : List Byte) : State :=
  let r := Xrec.ofBytes b
  s.requestAt n r (fun c i e =>
    if e.state = 5 ∨ (s.repairOf c i).isSome then s.refuseRec c n r 3
    else if e.state ≠ 3 then s.refuseRec c n r 2
    else
      let bs := s.peek (stackKey c e.ch e.addr) e.length
      (((s.count (uCEL c) CEL_BYTES_MAINT e.length e.ch).sendRec c n (s.recOf e 5 r.src 0)).bulk (puCel c) (puDor n) bs).sendBlocks n (e.length / 32 + 1) bs)
/-- RELOAD_REQUEST. -/
def execReloadRequest (n : DoorId) (payload : List Byte) (s : State) : Outcome State Fault Refusal := .next (reloadRequest s n.val payload)

/-- RELOAD_ANNOUNCEMENT (R297, R302): it opens a reload at the Door for the repair that asked for it. -/
def reloadAnnouncement (s : State) (n : Nat) (b : List Byte) : State :=
  let r := Xrec.ofBytes b
  s.withSlice n r (fun c i => match s.repairOf c i with
    | some q =>
      if q.readback then s
      else (s.updReloadOf n (fun _ => [⟨c, i, r.length, 0⟩])).updRepair c i (fun q => { q with announced := true, got := 0, form := [] })
    | none => s.updReloadOf n (fun _ => [⟨c, i, r.length, 0⟩]))
/-- RELOAD_ANNOUNCEMENT. -/
def execReloadAnnouncement (n : DoorId) (payload : List Byte) (s : State) : Outcome State Fault Refusal :=
  .next (reloadAnnouncement s n.val payload)

/-- A reload block written where the repair asks for it: every block of a RELOAD, or one that overlaps an entered granule (R302). -/
def State.writeBlock (s : State) (c i : Nat) (q : Repair) (e : SliceEnt) (h : Header) (payload : List Byte) : State :=
  let a := e.addr + q.got
  let n := blockSize h
  if q.kind = 2 ∨ (granList a n).any (fun g => s.granIn c e.ch g) then
    let bs := h.bytes ++ payload ++ trailerOf s.tbProfile h payload ++ List.replicate 8 0#8
    ((s.poke (stackKey c e.ch a) bs).count (uCEL c) CEL_BYTES_MAINT n e.ch).updRepair c i (fun q => { q with wrote := q.wrote ++ [(q.got, n)] })
  else s
/-- RELOAD_BLOCK (R297, R302, R303): a reload whose LENGTH is reached is closed; a further block is absorbed, and fails the source of the repair that
still waits for more of it. -/
def reloadBlock (s : State) (n : Nat) (bs : List Byte) (bad : Bool) : State :=
  let h := Header.ofBytes bs
  match s.reloadOf n with
  | [] => s.ignoreRec (doorCellar n) 5 0
  | o :: _ =>
    let past := decide (o.length < o.got + blockSize h)
    let s := if past then s.ignoreRec (doorCellar n) 5 0
      else s.updReloadOf n (fun _ => [{ o with got := o.got + blockSize h }])
    match s.repairOf o.cellar o.slice, s.slice o.cellar o.slice with
    | some q, some e =>
      if !q.announced || q.readback then s
      else if past || bad then s.askSource o.cellar o.slice 3
      else
        let payload := Sys2Proof.slice bs 16 (16 * h.len)
        let s := s.writeBlock o.cellar o.slice q e h payload
        let s := s.updRepair o.cellar o.slice (fun q => { q with got := q.got + blockSize h, form := q.form ++ digestForm h payload })
        (match s.repairOf o.cellar o.slice with
        | some q =>
          if q.got < e.length then s
          else if sha3Nat q.form = q.reference then s.updRepair o.cellar o.slice (fun q => { q with readback := true })
          else s.askSource o.cellar o.slice 4
        | none => s)
    | _, _ => s
/-- RELOAD_BLOCK. -/
def execReloadBlock (n : DoorId) (bytes : List Byte) (bad : Bool) (s : State) : Outcome State Fault Refusal :=
  .next (reloadBlock s n.val bytes bad)
/-- RELOAD_REFUSAL (R299, R303): a third copy refused leaves the slice undecided; a source that refuses has failed. -/
def reloadRefusal (s : State) (n : Nat) (b : List Byte) : State :=
  let r := Xrec.ofBytes b
  s.withSlice n r (fun c i =>
    if (s.cel c).third.any (fun t => t.1 == i) then s.undecided c i
    else match s.repairOf c i with
      | some q => if q.announced || q.readback then s else s.askSource c i 1
      | none => s)
/-- RELOAD_REFUSAL. -/
def execReloadRefusal (n : DoorId) (payload : List Byte) (s : State) : Outcome State Fault Refusal := .next (reloadRefusal s n.val payload)
/-- RELOAD_TIMEOUT (R303). -/
def reloadTimeout (s : State) (c i : Nat) : State :=
  match s.repairOf c i with
  | some q => if q.readback then s else s.askSource c i 2
  | none => s
/-- RELOAD_TIMEOUT. -/
def execReloadTimeout (c : StackId) (i : Fin 16384) (s : State) : Outcome State Fault Refusal := .next (reloadTimeout s c.val i.val)

/-- Every written block, read back as it lies in the slice, passes its trailer; the first argument bounds their number. -/
def readBackOk (p : Profile) : Nat → List Byte → Bool
  | 0, bs => bs.isEmpty
  | k + 1, bs =>
    if bs.isEmpty then true
    else
      let h := Header.ofBytes bs
      decide (blockSize h ≤ bs.length) && trailerOk p (bs.take (24 + 16 * h.len)) && readBackOk p k (bs.drop (blockSize h))
/-- REPAIR_READBACK (R302-R305): the granule entries, but for those made after their blocks were written, and the range entry leave the map, LOCAL is the reference,
the slice is VALID; a slice that has gone into RELOAD during a granule repair awaits its RELOAD. -/
def repairReadback (s : State) (c i : Nat) (bs : List Byte) (ce ue : List Nat) : State :=
  match s.repairOf c i, s.slice c i with
  | some q, some e =>
    if !q.readback then s
    else
      let s := ((s.count (uCEL c) CEL_BYTES_MAINT bs.length e.ch).count (uCEL c) CEL_ECC_CE_COUNT ((ce.map (· / 256)).eraseDups).length e.ch).count
        (uCEL c) CEL_ECC_UE_COUNT ((ue.map (· / 256)).eraseDups).length e.ch
      if !ue.isEmpty ∨ bs.length ≠ (q.wrote.map (·.2)).sum ∨ !readBackOk s.tbProfile (bs.length / 32 + 1) bs then s.askSource c i 5
      else
        let g := gransOf e.addr e.length
        let mine (p : PsnEnt) := p.ch == e.ch && decide (g.1 ≤ p.gran ∧ p.gran ≤ g.2) && !q.late.contains p.gran
        let gone := ((s.cel c).psn.filter (fun p => mine p.2)).map (fun p => (p.2.ch, p.2.gran, s.optime))
        let s := s.psnLeave c mine
        let s := s.updCel c (fun x => { x with fixed := x.fixed ++ gone, running := x.running.filter (fun r => r.slice != i) })
        let same := (e.localOk && e.localDig == q.reference) || (e.state == 5 && q.kind == 1)
        let s := if e.state = 5 ∧ q.kind = 1 then s
          else (s.updSlice c i (fun e => { e with localDig := q.reference, localOk := true })).sliceState c i 3
        let s := if same then s else s.sendDigest c i
        let s := if q.src = 0xFF then s.recordSlice 4 e (((s.cel c).rot.srvDoor).getD 0) q.reference else s
        ((s.count (uCEL c) CEL_REP_DONE_COUNT).raiseOnce 0 0x5011 (puCel c) e.tensor e.slice ((s.now - q.start) / 1000)).showCel c
  | _, _ => s
/-- REPAIR_READBACK. -/
def execRepairReadback (c : StackId) (i : Fin 16384) (bytes : List Byte) (ce ue : List (BitVec 36)) (s : State) : Outcome State Fault Refusal :=
  .next (if s.unitStopped (uCEL c.val) then s else repairReadback (s.item (chCel c.val)) c.val i.val bytes (ce.map (·.toNat)) (ue.map (·.toNat)))

end Sys2Proof.Machine
end

