-- ==== Sys2Proof/Machine/Held.lean ====
section
/-! DEFINITION. The commands that may end a takeover or its poll: the host accesses held meanwhile are done after them (R61, R62, R66; assumption 173). -/
namespace Sys2Proof.Machine
open Sys2Proof Host

/-- HEARTBEAT_SILENCE. -/
def execHeartbeatSilence (s : State) : Outcome State Fault Refusal := .next (heartbeatSilence s).hostGo
/-- HALL_POLL_ANSWER. -/
def execHallPollAnswer (r : RegionId) (noContact : Bool) (s : State) : Outcome State Fault Refusal := .next (hallPollAnswer s r.val noContact).hostGo
/-- HALL_POLL_TIMEOUT. -/
def execHallPollTimeout (s : State) : Outcome State Fault Refusal := .next (hallPollTimeout s).hostGo
/-- HEARTBEAT_RECEIVE. -/
def execHeartbeatReceive (w : Bh) (path : HbPath) (s : State) : Outcome State Fault Refusal := .next (heartbeatReceive s w path).hostGo
/-- STAIR_PACKET_RECEIVE: a Brewhouse that has heard a higher reign in a checked packet steps down (R63). -/
def execStairPacketReceive (f : FieldId) (h : Option Hop) (violation : Bool) (head : BitVec 64)
    (payload : List (BitVec 64)) (crc : BitVec 16) (resid : BitVec 16) (s : State) : Outcome State Fault Refusal :=
  let t := stairPacketReceive s f.val h violation head payload crc resid.toNat
  if !packetOk violation head payload crc || ([Bh.a, .b].all (fun w => decide ((t.brew w).seen ≤ (s.brew w).seen))) then .next t
  else .next (s.reignsHeard t).hostGo
/-- REIGN_STEP_DOWN. -/
def execReignStepDown (w : Bh) (reign : BitVec 7) (s : State) : Outcome State Fault Refusal := .next (reignStepDown s w reign.toNat).hostGo
/-- PG_LOSS_RECOGNISED. -/
def execPgLossRecognised (r : RegionId) (s : State) : Outcome State Fault Refusal := .next (pgLossRecognised s r.val).hostGo
/-- OVERCURRENT_RECOGNISED. -/
def execOvercurrentRecognised (r : RegionId) (s : State) : Outcome State Fault Refusal := .next (overcurrentRecognised s r.val).hostGo

end Sys2Proof.Machine
end

