-- ==== Sys2Proof/Machine/Dispatch.lean ====
section
/-! DEFINITION. The dispatch: one arm per command, a direct call of its meaning or a rejection by name. -/
namespace Sys2Proof.Machine
open Sys2Proof

/-- The effect of a command on everything but the queue. -/
def exec (i : Instr) (s : State) : Host.Outcome State Fault Refusal :=
  match i with
  | .stairPacketReceive f h violation head payload crc resid => Sys2Proof.Machine.execStairPacketReceive f h violation head payload crc resid s
  | .hopCheckResult f h ok => Sys2Proof.Machine.execHopCheckResult f h ok s
  | .hopAckTimeout f h => Sys2Proof.Machine.execHopAckTimeout f h s
  | .detourTablesWrite us => Sys2Proof.Machine.execDetourTablesWrite us s
  | .detourTableArrive f => Sys2Proof.Machine.execDetourTableArrive f s
  | .matchedDelayLengthen u => Sys2Proof.Machine.execMatchedDelayLengthen u s
  | .matchedDelayShorten u => Sys2Proof.Machine.execMatchedDelayShorten u s
  | .timeBeatEmit => Sys2Proof.Machine.execTimeBeatEmit s
  | .hopDelayEcho f h delay => Sys2Proof.Machine.execHopDelayEcho f h delay s
  | .beatReceive u beat delay reign cyc => Sys2Proof.Machine.execBeatReceive u beat delay reign cyc s
  | .beatLossTimeout u => Sys2Proof.Machine.execBeatLossTimeout u s
  | .mirrorAck => Sys2Proof.Machine.execMirrorAck s
  | .mirrorRequest r => Sys2Proof.Machine.execMirrorRequest r s
  | .heartbeatSend b0 => Sys2Proof.Machine.execHeartbeatSend b0 s
  | .heartbeatReceive b0 path => Sys2Proof.Machine.execHeartbeatReceive b0 path s
  | .heartbeatSilence => Sys2Proof.Machine.execHeartbeatSilence s
  | .hallPollAnswer r noContact => Sys2Proof.Machine.execHallPollAnswer r noContact s
  | .hallPollTimeout => Sys2Proof.Machine.execHallPollTimeout s
  | .reignStepDown b0 reign => Sys2Proof.Machine.execReignStepDown b0 reign s
  | .standbySilence => Sys2Proof.Machine.execStandbySilence s
  | .brewhouseContactLoss r => Sys2Proof.Machine.execBrewhouseContactLoss r s
  | .failsafeRefresh => Sys2Proof.Machine.execFailsafeRefresh s
  | .failsafeLapse => Sys2Proof.Machine.execFailsafeLapse s
  | .productIssue k p cyc iss => Sys2Proof.Machine.execProductIssue k p cyc iss s
  | .residueUnitDrained k p cyc => Sys2Proof.Machine.execResidueUnitDrained k p cyc s
  | .accumulationClose k p cyc idx acc exp => Sys2Proof.Machine.execAccumulationClose k p cyc idx acc exp s
  | .discardPresentation k p cyc port pres => Sys2Proof.Machine.execDiscardPresentation k p cyc port pres s
  | .atomicDiscardPresentation k port pres => Sys2Proof.Machine.execAtomicDiscardPresentation k port pres s
  | .commandStart k p cyc id l0rd l0wr => Sys2Proof.Machine.execCommandStart k p cyc id l0rd l0wr s
  | .commandEnd k p cyc l0rd l0wr => Sys2Proof.Machine.execCommandEnd k p cyc l0rd l0wr s
  | .issueLimitExpire k p => Sys2Proof.Machine.execIssueLimitExpire k p s
  | .descriptorArrive k desc opr => Sys2Proof.Machine.execDescriptorArrive k desc opr s
  | .seedLoadDone k ctx => Sys2Proof.Machine.execSeedLoadDone k ctx s
  | .residueAlarm k p => Sys2Proof.Machine.execResidueAlarm k p s
  | .residueSummary k p => Sys2Proof.Machine.execResidueSummary k p s
  | .usageReport k p => Sys2Proof.Machine.execUsageReport k p s
  | .replicaReadLine k tag data last err => Sys2Proof.Machine.execReplicaReadLine k tag data last err s
  | .replicaReadStale k id pos => Sys2Proof.Machine.execReplicaReadStale k id pos s
  | .replicaCompare k id pos upset => Sys2Proof.Machine.execReplicaCompare k id pos upset s
  | .descriptorLoad k => Sys2Proof.Machine.execDescriptorLoad k s
  | .descriptorInvalidate k => Sys2Proof.Machine.execDescriptorInvalidate k s
  | .descriptorBroadcastAnswer k t => Sys2Proof.Machine.execDescriptorBroadcastAnswer k t s
  | .privPartialSelection k t ctx step upset => Sys2Proof.Machine.execPrivPartialSelection k t ctx step upset s
  | .privOutcome k id out => Sys2Proof.Machine.execPrivOutcome k id out s
  | .gateBlockArrive g stream step bytes => Sys2Proof.Machine.execGateBlockArrive g stream step bytes s
  | .gateVerdict g ctx step v => Sys2Proof.Machine.execGateVerdict g ctx step v s
  | .gateBackstop g => Sys2Proof.Machine.execGateBackstop g s
  | .doorTransmitBlock n stream bytes => Sys2Proof.Machine.execDoorTransmitBlock n stream bytes s
  | .doorReceiveBlock n stream limit bytes => Sys2Proof.Machine.execDoorReceiveBlock n stream limit bytes s
  | .linkTrained n => Sys2Proof.Machine.execLinkTrained n s
  | .laneDrop n l laneBytes => Sys2Proof.Machine.execLaneDrop n l laneBytes s
  | .laneReturn n l us => Sys2Proof.Machine.execLaneReturn n l us s
  | .cellarReadBlock s0 c addr merge bytes ce ue test => Sys2Proof.Machine.execCellarReadBlock s0 c addr merge bytes ce ue test s
  | .cellarWriteBlock s0 c addr bytes => Sys2Proof.Machine.execCellarWriteBlock s0 c addr bytes s
  | .rescanDone s0 c bytes ce ue => Sys2Proof.Machine.execRescanDone s0 c bytes ce ue s
  | .scrubGranule s0 err data => Sys2Proof.Machine.execScrubGranule s0 err data s
  | .sliceWrite s0 => Sys2Proof.Machine.execSliceWrite s0 s
  | .sliceVerify s0 => Sys2Proof.Machine.execSliceVerify s0 s
  | .sliceDrop s0 => Sys2Proof.Machine.execSliceDrop s0 s
  | .sliceRedigest s0 => Sys2Proof.Machine.execSliceRedigest s0 s
  | .sliceDigestDone s0 i0 bytes ce ue => Sys2Proof.Machine.execSliceDigestDone s0 i0 bytes ce ue s
  | .digestTickSend => Sys2Proof.Machine.execDigestTickSend s
  | .digestTick s0 => Sys2Proof.Machine.execDigestTick s0 s
  | .digestRecord n payload => Sys2Proof.Machine.execDigestRecord n payload s
  | .thirdCopyRequest n payload => Sys2Proof.Machine.execThirdCopyRequest n payload s
  | .thirdCopyAnswer n payload => Sys2Proof.Machine.execThirdCopyAnswer n payload s
  | .thirdCopyTimeout s0 i0 => Sys2Proof.Machine.execThirdCopyTimeout s0 i0 s
  | .repairStart s0 => Sys2Proof.Machine.execRepairStart s0 s
  | .reloadRequest n payload => Sys2Proof.Machine.execReloadRequest n payload s
  | .reloadAnnouncement n payload => Sys2Proof.Machine.execReloadAnnouncement n payload s
  | .reloadBlock n bytes bad => Sys2Proof.Machine.execReloadBlock n bytes bad s
  | .reloadRefusal n payload => Sys2Proof.Machine.execReloadRefusal n payload s
  | .reloadTimeout s0 i0 => Sys2Proof.Machine.execReloadTimeout s0 i0 s
  | .repairReadback s0 i0 bytes ce ue => Sys2Proof.Machine.execRepairReadback s0 i0 bytes ce ue s
  | .refreshMultLower s0 => Sys2Proof.Machine.execRefreshMultLower s0 s
  | .saveAreaRestore s0 pass firstBad => Sys2Proof.Machine.execSaveAreaRestore s0 pass firstBad s
  | .channelClear s0 data => Sys2Proof.Machine.execChannelClear s0 data s
  | .poisonMapRead s0 => Sys2Proof.Machine.execPoisonMapRead s0 s
  | .scanGo u data => Sys2Proof.Machine.execScanGo u data s
  | .scanAbort u => Sys2Proof.Machine.execScanAbort u s
  | .scanLineDone u data err => Sys2Proof.Machine.execScanLineDone u data err s
  | .scanProfileWrite u data => Sys2Proof.Machine.execScanProfileWrite u data s
  | .streamResync u data => Sys2Proof.Machine.execStreamResync u data s
  | .windowApply s0 data => Sys2Proof.Machine.execWindowApply s0 data s
  | .mapCommitDone k => Sys2Proof.Machine.execMapCommitDone k s
  | .mapMiss k chanTable entry => Sys2Proof.Machine.execMapMiss k chanTable entry s
  | .repeatStart k => Sys2Proof.Machine.execRepeatStart k s
  | .repeatDone k ncore view => Sys2Proof.Machine.execRepeatDone k ncore view s
  | .repeatWithdraw k => Sys2Proof.Machine.execRepeatWithdraw k s
  | .referenceT1Done k cno upset => Sys2Proof.Machine.execReferenceT1Done k cno upset s
  | .neighbourRequest t k cno upset => Sys2Proof.Machine.execNeighbourRequest t k cno upset s
  | .neighbourAnswer k cno => Sys2Proof.Machine.execNeighbourAnswer k cno s
  | .neighbourTimeout k cno => Sys2Proof.Machine.execNeighbourTimeout k cno s
  | .hallVerdict r => Sys2Proof.Machine.execHallVerdict r s
  | .fenceBoundary k p => Sys2Proof.Machine.execFenceBoundary k p s
  | .migrationDone k cycles err => Sys2Proof.Machine.execMigrationDone k cycles err s
  | .eventRecord => Sys2Proof.Machine.execEventRecord s
  | .waferDrained => Sys2Proof.Machine.execWaferDrained s
  | .historyProgram => Sys2Proof.Machine.execHistoryProgram s
  | .atticProgram => Sys2Proof.Machine.execAtticProgram s
  | .poisonReport k p ctx layer oper => Sys2Proof.Machine.execPoisonReport k p ctx layer oper s
  | .historySelect data => Sys2Proof.Machine.execHistorySelect data s
  | .historyWindowRead => Sys2Proof.Machine.execHistoryWindowRead s
  | .coreRotationStart => Sys2Proof.Machine.execCoreRotationStart s
  | .steepDue u => Sys2Proof.Machine.execSteepDue u s
  | .steepStart e cyc100 => Sys2Proof.Machine.execSteepStart e cyc100 s
  | .steepWithdraw k p => Sys2Proof.Machine.execSteepWithdraw k p s
  | .secretClearDone k p rowsZero keyZero => Sys2Proof.Machine.execSecretClearDone k p rowsZero keyZero s
  | .sliceCompare e resp cyc100 => Sys2Proof.Machine.execSliceCompare e resp cyc100 s
  | .sliceAbort e us => Sys2Proof.Machine.execSliceAbort e us s
  | .coreOverdue k p => Sys2Proof.Machine.execCoreOverdue k p s
  | .forcedSteepBoundary k p => Sys2Proof.Machine.execForcedSteepBoundary k p s
  | .phyLoopback s0 c errs => Sys2Proof.Machine.execPhyLoopback s0 c errs s
  | .channelMarch s0 data => Sys2Proof.Machine.execChannelMarch s0 data s
  | .marchDone s0 c miscompares ue => Sys2Proof.Machine.execMarchDone s0 c miscompares ue s
  | .laneLoopbackEnd n l errs checked => Sys2Proof.Machine.execLaneLoopbackEnd n l errs checked s
  | .analogueCheck part res => Sys2Proof.Machine.execAnalogueCheck part res s
  | .analogueRecheck part res => Sys2Proof.Machine.execAnalogueRecheck part res s
  | .gristVerify => Sys2Proof.Machine.execGristVerify s
  | .gristStoreCopy r sha => Sys2Proof.Machine.execGristStoreCopy r sha s
  | .gristStoreRewrite r => Sys2Proof.Machine.execGristStoreRewrite r s
  | .commandExpire k p ending => Sys2Proof.Machine.execCommandExpire k p ending s
  | .hangReport k => Sys2Proof.Machine.execHangReport k s
  | .stallWatchdog r => Sys2Proof.Machine.execStallWatchdog r s
  | .drainComplete sc bytes ctxs => Sys2Proof.Machine.execDrainComplete sc bytes ctxs s
  | .drainBound sc bytes ctxs => Sys2Proof.Machine.execDrainBound sc bytes ctxs s
  | .killDone k => Sys2Proof.Machine.execKillDone k s
  | .coreResetEscalate k p => Sys2Proof.Machine.execCoreResetEscalate k p s
  | .clusterResetDone k => Sys2Proof.Machine.execClusterResetDone k s
  | .engineResetEscalate k => Sys2Proof.Machine.execEngineResetEscalate k s
  | .memoryRetrainDone r failed => Sys2Proof.Machine.execMemoryRetrainDone r failed s
  | .regionReady r => Sys2Proof.Machine.execRegionReady r s
  | .neighbourResetComplete r d bytes => Sys2Proof.Machine.execNeighbourResetComplete r d bytes s
  | .partitionResetEscalate r => Sys2Proof.Machine.execPartitionResetEscalate r s
  | .chipResetWatchdog => Sys2Proof.Machine.execChipResetWatchdog s
  | .powerCycleRequest cause => Sys2Proof.Machine.execPowerCycleRequest cause s
  | .replayStartTimeout k => Sys2Proof.Machine.execReplayStartTimeout k s
  | .pgLossRecognised r => Sys2Proof.Machine.execPgLossRecognised r s
  | .overcurrentRecognised r => Sys2Proof.Machine.execOvercurrentRecognised r s
  | .clampApply r d => Sys2Proof.Machine.execClampApply r d s
  | .clampRelease r d => Sys2Proof.Machine.execClampRelease r d s
  | .lostRegionReturn r => Sys2Proof.Machine.execLostRegionReturn r s
  | .refclkLoss r missed => Sys2Proof.Machine.execRefclkLoss r missed s
  | .refclkRestore r us => Sys2Proof.Machine.execRefclkRestore r us s
  | .retiredBlockDiscard k ctx bytes => Sys2Proof.Machine.execRetiredBlockDiscard k ctx bytes s
  | .throttleAck r => Sys2Proof.Machine.execThrottleAck r s
  | .throttleAckTimeout r => Sys2Proof.Machine.execThrottleAckTimeout r s
  | .cutStart => Sys2Proof.Machine.execCutStart s
  | .cutGo => Sys2Proof.Machine.execCutGo s
  | .globalStop => Sys2Proof.Machine.execGlobalStop s
  | .globalResume => Sys2Proof.Machine.execGlobalResume s
  | .stopMaxTimeout => Sys2Proof.Machine.execStopMaxTimeout s
  | .cutMarker u sample => Sys2Proof.Machine.execCutMarker u sample s
  | .channelMarker c sent => Sys2Proof.Machine.execChannelMarker c sent s
  | .channelRecordTimeout c => Sys2Proof.Machine.execChannelRecordTimeout c s
  | .edgeMarkerTimeout e => Sys2Proof.Machine.execEdgeMarkerTimeout e s
  | .cutReport f rep => Sys2Proof.Machine.execCutReport f rep s
  | .cutReportTimeout f units => Sys2Proof.Machine.execCutReportTimeout f units s
  | .cutDone u => Sys2Proof.Machine.execCutDone u s
  | .coreStopped k p => Sys2Proof.Machine.execCoreStopped k p s
  | .stopCoreTimeout k p => Sys2Proof.Machine.execStopCoreTimeout k p s
  | .attributionBinWrite k data => Sys2Proof.Machine.execAttributionBinWrite k data s
  | .counterConfigWrite k data => Sys2Proof.Machine.execCounterConfigWrite k data s
  | .traceWrite k accepted => Sys2Proof.Machine.execTraceWrite k accepted s
  | .traceRestart data => Sys2Proof.Machine.execTraceRestart data s
  | .traceMark data => Sys2Proof.Machine.execTraceMark data s
  | .loftWindowRead => Sys2Proof.Machine.execLoftWindowRead s
  | .atticEraseDone => Sys2Proof.Machine.execAtticEraseDone s
  | .atticWindowRead => Sys2Proof.Machine.execAtticWindowRead s
  | .optimeAdvance => Sys2Proof.Machine.execOptimeAdvance s
  | .drwSeedSet data => Sys2Proof.Machine.execDrwSeedSet data s
  | .seedSetAnswer r => Sys2Proof.Machine.execSeedSetAnswer r s
  | .drawRequest k ctx layer oper step idx => Sys2Proof.Machine.execDrawRequest k ctx layer oper step idx s
  | .drawCalc data => Sys2Proof.Machine.execDrawCalc data s
  | .weightSetReport s0 => Sys2Proof.Machine.execWeightSetReport s0 s
  | .provenanceStep => Sys2Proof.Machine.execProvenanceStep s
  | .provenanceEnable data => Sys2Proof.Machine.execProvenanceEnable data s
  | .pairStepTimeout k => Sys2Proof.Machine.execPairStepTimeout k s
  | .pairDigestRecord n record => Sys2Proof.Machine.execPairDigestRecord n record s
  | .pairValue n records => Sys2Proof.Machine.execPairValue n records s
  | .pairUnmatchedTimeout k step => Sys2Proof.Machine.execPairUnmatchedTimeout k step s
  | .sensorReading f i0 raw => Sys2Proof.Machine.execSensorReading f i0 raw s
  | .ladderDeepen r l => Sys2Proof.Machine.execLadderDeepen r l s
  | .ladderRelease r l => Sys2Proof.Machine.execLadderRelease r l s
  | .powerEstimate r => Sys2Proof.Machine.execPowerEstimate r s
  | .limitTrip r l measured => Sys2Proof.Machine.execLimitTrip r l measured s
  | .clockRatioPersist r count => Sys2Proof.Machine.execClockRatioPersist r count s
  | .shutterReturn r => Sys2Proof.Machine.execShutterReturn r s
  | .limitTighten off data => Sys2Proof.Machine.execLimitTighten off data s
  | .emergencyEnd => Sys2Proof.Machine.execEmergencyEnd s
  | .powerOn => Sys2Proof.Machine.execPowerOn s
  | .bringupStage res => Sys2Proof.Machine.execBringupStage res s
  | .xspiBusTimeout => Sys2Proof.Machine.execXspiBusTimeout s
  | .bootLoadDone k p bad => Sys2Proof.Machine.execBootLoadDone k p bad s
  | .bundleVerify hostImage => Sys2Proof.Machine.execBundleVerify hostImage s
  | .activationResume => Sys2Proof.Machine.execActivationResume s
  | .processorLoadDone i0 sha => Sys2Proof.Machine.execProcessorLoadDone i0 sha s
  | .processorSwitchDone i0 us => Sys2Proof.Machine.execProcessorSwitchDone i0 us s
  | .processorWatchdog i0 => Sys2Proof.Machine.execProcessorWatchdog i0 s
  | .trialClear => Sys2Proof.Machine.execTrialClear s
  | .mailboxScan changed => Sys2Proof.Machine.execMailboxScan changed s
  | .hello => Sys2Proof.Machine.execHello s
  | .ctxOpen => Sys2Proof.Machine.execCtxOpen s
  | .ctxTeardown => Sys2Proof.Machine.execCtxTeardown s
  | .seedSet => Sys2Proof.Machine.execSeedSet s
  | .ctxResume => Sys2Proof.Machine.execCtxResume s
  | .inputDeclare => Sys2Proof.Machine.execInputDeclare s
  | .inputData => Sys2Proof.Machine.execInputData s
  | .mark => Sys2Proof.Machine.execMark s
  | .replayRun => Sys2Proof.Machine.execReplayRun s
  | .replayDeliver => Sys2Proof.Machine.execReplayDeliver s
  | .replayStarted => Sys2Proof.Machine.execReplayStarted s
  | .replayDone => Sys2Proof.Machine.execReplayDone s
  | .replayDecline => Sys2Proof.Machine.execReplayDecline s
  | .resetReq => Sys2Proof.Machine.execResetReq s
  | .postureSet => Sys2Proof.Machine.execPostureSet s
  | .twkPropose => Sys2Proof.Machine.execTwkPropose s
  | .twkEndorse => Sys2Proof.Machine.execTwkEndorse s
  | .endorsementVerify => Sys2Proof.Machine.execEndorsementVerify s
  | .proposalExpire cls => Sys2Proof.Machine.execProposalExpire cls s
  | .debugLock => Sys2Proof.Machine.execDebugLock s
  | .debugUnlockExpire => Sys2Proof.Machine.execDebugUnlockExpire s
  | .dlChunk => Sys2Proof.Machine.execDlChunk s
  | .fwActivate => Sys2Proof.Machine.execFwActivate s
  | .procRestart => Sys2Proof.Machine.execProcRestart s
  | .hostHeartbeat data => Sys2Proof.Machine.execHostHeartbeat data s
  | .hostAbsent => Sys2Proof.Machine.execHostAbsent s
  | .pcieLinkDown linkState => Sys2Proof.Machine.execPcieLinkDown linkState s
  | .completionWrite => Sys2Proof.Machine.execCompletionWrite s
  | .ringHeadWrite data => Sys2Proof.Machine.execRingHeadWrite data s
  | .msiHoldoffEnd vec => Sys2Proof.Machine.execMsiHoldoffEnd vec s
  | .entdaa addr => Sys2Proof.Machine.execEntdaa addr s
  | .mctpMessage msgType body => Sys2Proof.Machine.execMctpMessage msgType body s
  | .fleetMessage msg => Sys2Proof.Machine.execFleetMessage msg s
  | .reportCollect => Sys2Proof.Machine.execReportCollect s
  | .reportSummary => Sys2Proof.Machine.execReportSummary s
  | .statusReport => Sys2Proof.Machine.execStatusReport s
  | .tapReset => Sys2Proof.Machine.execTapReset s
  | .nop m => Sys2Proof.Machine.execNop m s
  | .ident m => Sys2Proof.Machine.execIdent m s
  | .windowRead m => Sys2Proof.Machine.execWindowRead m s
  | .windowWrite m => Sys2Proof.Machine.execWindowWrite m s
  | .memoryRead m => Sys2Proof.Machine.execMemoryRead m s
  | .memoryWrite m => Sys2Proof.Machine.execMemoryWrite m s
  | .processorHalt m => Sys2Proof.Machine.execProcessorHalt m s
  | .processorRun m => Sys2Proof.Machine.execProcessorRun m s
  | .processorStep m => Sys2Proof.Machine.execProcessorStep m s
  | .setBreakpoint m => Sys2Proof.Machine.execSetBreakpoint m s
  | .setWatchpoint m => Sys2Proof.Machine.execSetWatchpoint m s
  | .processorStatus m => Sys2Proof.Machine.execProcessorStatus m s
  | .processorBreakHit i0 watch addr => Sys2Proof.Machine.execProcessorBreakHit i0 watch addr s
  | .moldomStop m => Sys2Proof.Machine.execMoldomStop m s
  | .moldomResume m => Sys2Proof.Machine.execMoldomResume m s
  | .pipelineHalt m => Sys2Proof.Machine.execPipelineHalt m s
  | .pipelineRelease m => Sys2Proof.Machine.execPipelineRelease m s
  | .scanEnable m => Sys2Proof.Machine.execScanEnable m s
  | .ownerClaim page data => Sys2Proof.Machine.execOwnerClaim page data s
  | .tapWindowSelect w data => Sys2Proof.Machine.execTapWindowSelect w data s
  | .pageUnreached offset write => Sys2Proof.Machine.execPageUnreached offset write s
  | .loHiLatchRead offset => Sys2Proof.Machine.execLoHiLatchRead offset s
  | .windowPartialWrite offset be => Sys2Proof.Machine.execWindowPartialWrite offset be s
  | .rw2kDirectWrite offset data => Sys2Proof.Machine.execRw2kDirectWrite offset data s
  | .registerWrite offset data => Sys2Proof.Machine.execRegisterWrite offset data s

end Sys2Proof.Machine
end

