-- ==== Sys2Proof/Machine/Step.lean ====
section
/-! DEFINITION. One step: the command at the front of the queue, or 10 ns of wall time when none waits. -/
namespace Sys2Proof.Machine
open Sys2Proof

/-- The state with one command taken off the front of its queue. -/
def State.rest (s : State) (cs : List Instr) : State := { s with pending := cs }

/-- One tick of the time base with no command waiting: wall time goes on by 10 ns (R20, R53; assumption 6). -/
def State.tick (s : State) : State := { s with wall := s.wall + 10 }

/-- One step: the effect of the command at the front on the state with the queue's rest; an empty queue lets a tick pass. -/
def step (s : State) : Host.Outcome State Fault Refusal :=
  match s.pending with
  | [] => .next s.tick
  | c :: cs => exec c (s.rest cs)

/-- The state with the command that a table word spells put at the front of its queue; no word spells one, so it is `s`. -/
def State.withFetchWord (s : State) (nbits w : Nat) : State :=
  match decodeTableWord nbits w with
  | some c => { s with pending := c :: s.pending }
  | none => s

end Sys2Proof.Machine
end

