-- ==== Sys2Proof/Safety.lean ====
section
/-! DEFINITION. What counts as a safe run: every step completes, and memory keeps its canonical form. -/
namespace Sys2Proof.Machine
open Sys2Proof

/-- The next step completes: neither a fault nor a refusal. -/
def State.completes (s : State) : Prop := ∃ t, step s = .next t

/-- The states that a safe run passes through: memory in its canonical form, so that equal memories are equal data. -/
def State.safe (s : State) : Bool := Memory.wf s.mem

/-- A run of `n` steps that all complete and stay safe. -/
def State.safeRun : Nat → State → Prop
  | 0, s => s.safe = true
  | n + 1, s => s.safe = true ∧ ∃ t, step s = .next t ∧ State.safeRun n t

end Sys2Proof.Machine
end

