-- ==== Sys2Proof/Frames.lean ====
section
/-! DEFINITION. What a command may change: the parts of State, and for every command the parts outside which its effect
changes nothing. -/
namespace Sys2Proof.Machine
open Sys2Proof

/-- The parts of State, one for each field. -/
inductive Part where
  | pending | wall | fresh | regs | ecnt | rcnt | fill | shown
  | units | transit | marks | sent | routers | hops | tablesDue | tree
  | cutoff | delays | clocks | refLost | pair | gates | doors | streams
  | wins | winAlive | scans | taps | cores | ports | adj | rpl
  | steps | verdicts | replays | setsOpened | ctxs | hist | histFlash | histStaged
  | histLatch | drainSince | halls | resets | hangs | cut | cutNo | cutDue
  | cutUnits | chans | stop | voids | bins | bank | segs | attic
  | mem | variant | mbx | twk | mgt | dbg | cels | reloads
  | chanMap | descCopy | seeds | idleKills | prv | pairs | steepFirst | stp
  | engs | plan | grist | ana | dl | fw | sens | thm
  | emerg | pad | resetsDue | tickAt | passSeen | latch
  deriving DecidableEq, Repr
/-- A part is the same in two states. -/
def Part.same : Part → State → State → Prop
  | .pending, s, t => t.pending = s.pending
  | .wall, s, t => t.wall = s.wall
  | .fresh, s, t => t.fresh = s.fresh
  | .regs, s, t => t.regs = s.regs
  | .ecnt, s, t => t.ecnt = s.ecnt
  | .rcnt, s, t => t.rcnt = s.rcnt
  | .fill, s, t => t.fill = s.fill
  | .shown, s, t => t.shown = s.shown
  | .units, s, t => t.units = s.units
  | .transit, s, t => t.transit = s.transit
  | .marks, s, t => t.marks = s.marks
  | .sent, s, t => t.sent = s.sent
  | .routers, s, t => t.routers = s.routers
  | .hops, s, t => t.hops = s.hops
  | .tablesDue, s, t => t.tablesDue = s.tablesDue
  | .tree, s, t => t.tree = s.tree
  | .cutoff, s, t => t.cutoff = s.cutoff
  | .delays, s, t => t.delays = s.delays
  | .clocks, s, t => t.clocks = s.clocks
  | .refLost, s, t => t.refLost = s.refLost
  | .pair, s, t => t.pair = s.pair
  | .gates, s, t => t.gates = s.gates
  | .doors, s, t => t.doors = s.doors
  | .streams, s, t => t.streams = s.streams
  | .wins, s, t => t.wins = s.wins
  | .winAlive, s, t => t.winAlive = s.winAlive
  | .scans, s, t => t.scans = s.scans
  | .taps, s, t => t.taps = s.taps
  | .cores, s, t => t.cores = s.cores
  | .ports, s, t => t.ports = s.ports
  | .adj, s, t => t.adj = s.adj
  | .rpl, s, t => t.rpl = s.rpl
  | .steps, s, t => t.steps = s.steps
  | .verdicts, s, t => t.verdicts = s.verdicts
  | .replays, s, t => t.replays = s.replays
  | .setsOpened, s, t => t.setsOpened = s.setsOpened
  | .ctxs, s, t => t.ctxs = s.ctxs
  | .hist, s, t => t.hist = s.hist
  | .histFlash, s, t => t.histFlash = s.histFlash
  | .histStaged, s, t => t.histStaged = s.histStaged
  | .histLatch, s, t => t.histLatch = s.histLatch
  | .drainSince, s, t => t.drainSince = s.drainSince
  | .halls, s, t => t.halls = s.halls
  | .resets, s, t => t.resets = s.resets
  | .hangs, s, t => t.hangs = s.hangs
  | .cut, s, t => t.cut = s.cut
  | .cutNo, s, t => t.cutNo = s.cutNo
  | .cutDue, s, t => t.cutDue = s.cutDue
  | .cutUnits, s, t => t.cutUnits = s.cutUnits
  | .chans, s, t => t.chans = s.chans
  | .stop, s, t => t.stop = s.stop
  | .voids, s, t => t.voids = s.voids
  | .bins, s, t => t.bins = s.bins
  | .bank, s, t => t.bank = s.bank
  | .segs, s, t => t.segs = s.segs
  | .attic, s, t => t.attic = s.attic
  | .mem, s, t => t.mem = s.mem
  | .variant, s, t => t.variant = s.variant
  | .mbx, s, t => t.mbx = s.mbx
  | .twk, s, t => t.twk = s.twk
  | .mgt, s, t => t.mgt = s.mgt
  | .dbg, s, t => t.dbg = s.dbg
  | .cels, s, t => t.cels = s.cels
  | .reloads, s, t => t.reloads = s.reloads
  | .chanMap, s, t => t.chanMap = s.chanMap
  | .descCopy, s, t => t.descCopy = s.descCopy
  | .seeds, s, t => t.seeds = s.seeds
  | .idleKills, s, t => t.idleKills = s.idleKills
  | .prv, s, t => t.prv = s.prv
  | .pairs, s, t => t.pairs = s.pairs
  | .steepFirst, s, t => t.steepFirst = s.steepFirst
  | .stp, s, t => t.stp = s.stp
  | .engs, s, t => t.engs = s.engs
  | .plan, s, t => t.plan = s.plan
  | .grist, s, t => t.grist = s.grist
  | .ana, s, t => t.ana = s.ana
  | .dl, s, t => t.dl = s.dl
  | .fw, s, t => t.fw = s.fw
  | .sens, s, t => t.sens = s.sens
  | .thm, s, t => t.thm = s.thm
  | .emerg, s, t => t.emerg = s.emerg
  | .pad, s, t => t.pad = s.pad
  | .resetsDue, s, t => t.resetsDue = s.resetsDue
  | .tickAt, s, t => t.tickAt = s.tickAt
  | .passSeen, s, t => t.passSeen = s.passSeen
  | .latch, s, t => t.latch = s.latch

/-- Two states are the same but for some parts. -/
def State.sameBut (ps : List Part) (s t : State) : Prop := ∀ p : Part, ps.contains p = false → p.same s t

/-! The sets of ten and more parts, each named once. -/
/-- What digestRecord, thirdCopyRequest, repairStart and others may change. -/
def Part.group1 : List Part :=
  [.regs, .ecnt, .rcnt, .transit, .marks, .sent, .routers, .hops, .clocks, .pair, .streams, .halls, .cels]
/-- What repeatDone, referenceT1Done, neighbourAnswer and others may change. -/
def Part.group2 : List Part :=
  [.regs, .ecnt, .rcnt, .transit, .marks, .sent, .routers, .hops, .clocks, .pair, .gates, .cores, .ports, .adj,
   .rpl, .verdicts, .replays, .ctxs, .halls, .resets, .segs, .mbx, .idleKills, .fw, .emerg]
/-- What poisonReport, replayStartTimeout, hostAbsent and others may change. -/
def Part.group3 : List Part :=
  [.regs, .ecnt, .rcnt, .transit, .marks, .sent, .routers, .hops, .clocks, .pair, .gates, .cores, .ports, .adj,
   .rpl, .replays, .ctxs, .halls, .resets, .segs, .mbx, .idleKills, .fw, .emerg]
/-- What ownerClaim, tapWindowSelect, rw2kDirectWrite and others may change. -/
def Part.group4 : List Part :=
  [.fresh, .regs, .ecnt, .rcnt, .units, .transit, .marks, .sent, .routers, .hops, .clocks, .pair, .gates, .doors,
   .streams, .wins, .winAlive, .scans, .taps, .cores, .ports, .adj, .rpl, .steps, .verdicts, .replays, .ctxs,
   .histLatch, .halls, .resets, .hangs, .cut, .cutNo, .cutDue, .stop, .voids, .bins, .bank, .segs, .mbx, .mgt,
   .cels, .descCopy, .seeds, .idleKills, .prv, .stp, .engs, .fw, .sens, .thm, .emerg]
/-- What replicaReadLine, replicaReadStale, privPartialSelection may change. -/
def Part.group5 : List Part :=
  [.regs, .ecnt, .rcnt, .transit, .marks, .sent, .routers, .hops, .clocks, .pair, .adj, .rpl, .verdicts, .halls,
   .segs]
/-- What laneReturn, steepWithdraw, sliceAbort may change. -/
def Part.group6 : List Part :=
  [.regs, .ecnt, .rcnt, .units, .transit, .marks, .sent, .doors, .cores, .ports, .adj, .prv, .stp, .engs]
/-- What stallWatchdog, engineResetEscalate, lostRegionReturn may change. -/
def Part.group7 : List Part :=
  [.regs, .ecnt, .rcnt, .fill, .shown, .units, .transit, .marks, .sent, .routers, .hops, .delays, .clocks, .pair,
   .gates, .doors, .streams, .wins, .winAlive, .scans, .taps, .cores, .ports, .adj, .rpl, .steps, .verdicts,
   .replays, .setsOpened, .ctxs, .halls, .resets, .hangs, .cutUnits, .chans, .bins, .bank, .segs, .mem, .mbx,
   .cels, .reloads, .idleKills, .prv, .pairs, .stp, .engs, .grist, .fw, .emerg, .resetsDue]
/-- What drwSeedSet, seedSetAnswer, seedSet may change. -/
def Part.group8 : List Part :=
  [.regs, .ecnt, .rcnt, .transit, .marks, .sent, .routers, .hops, .clocks, .pair, .adj, .rpl, .verdicts, .ctxs,
   .halls, .segs, .mbx, .mgt, .seeds, .prv]
/-- What pairStepTimeout, pairDigestRecord, pairValue may change. -/
def Part.group9 : List Part :=
  [.regs, .ecnt, .rcnt, .transit, .marks, .sent, .routers, .hops, .clocks, .pair, .streams, .halls, .pairs]
/-- What hopCheckResult, hopAckTimeout may change. -/
def Part.group10 : List Part :=
  [.regs, .ecnt, .rcnt, .transit, .sent, .routers, .hops, .cutoff, .clocks, .pair, .halls, .voids]
/-- What mirrorAck, standbySilence may change. -/
def Part.group11 : List Part :=
  [.regs, .ecnt, .rcnt, .units, .transit, .marks, .sent, .routers, .hops, .clocks, .pair, .gates, .doors, .cores,
   .ports, .adj, .rpl, .verdicts, .ctxs, .hist, .histStaged, .drainSince, .halls, .segs, .attic, .mem, .mbx, .twk,
   .dbg, .prv, .stp, .engs, .grist, .fw, .pad]
/-- What heartbeatReceive, reignStepDown may change. -/
def Part.group12 : List Part :=
  [.fresh, .regs, .ecnt, .rcnt, .units, .transit, .marks, .sent, .routers, .hops, .clocks, .pair, .gates, .doors,
   .streams, .wins, .winAlive, .scans, .taps, .cores, .ports, .adj, .rpl, .steps, .verdicts, .replays, .ctxs,
   .histLatch, .halls, .resets, .hangs, .cut, .cutNo, .cutDue, .stop, .voids, .bins, .bank, .segs, .variant, .mbx,
   .twk, .mgt, .cels, .descCopy, .seeds, .idleKills, .prv, .stp, .engs, .plan, .fw, .sens, .thm, .emerg, .latch]
/-- What heartbeatSilence, hallPollAnswer may change. -/
def Part.group13 : List Part :=
  [.fresh, .regs, .ecnt, .rcnt, .fill, .shown, .units, .transit, .marks, .sent, .routers, .hops, .cutoff, .delays,
   .clocks, .pair, .gates, .doors, .streams, .wins, .winAlive, .scans, .taps, .cores, .ports, .adj, .rpl, .steps,
   .verdicts, .replays, .ctxs, .hist, .histStaged, .histLatch, .drainSince, .halls, .resets, .hangs, .cut, .cutNo,
   .cutDue, .cutUnits, .chans, .stop, .voids, .bins, .bank, .segs, .attic, .mem, .variant, .mbx, .twk, .mgt, .dbg,
   .cels, .reloads, .descCopy, .seeds, .idleKills, .prv, .pairs, .stp, .engs, .plan, .grist, .fw, .sens, .thm,
   .emerg, .pad, .resetsDue, .latch]
/-- What cellarReadBlock, sliceCompare may change. -/
def Part.group14 : List Part :=
  [.regs, .ecnt, .rcnt, .units, .transit, .marks, .sent, .routers, .hops, .clocks, .pair, .gates, .doors, .cores,
   .ports, .adj, .rpl, .verdicts, .ctxs, .hist, .histStaged, .drainSince, .halls, .voids, .segs, .mbx, .cels, .prv,
   .stp, .engs]
/-- What analogueCheck, analogueRecheck may change. -/
def Part.group15 : List Part :=
  [.regs, .ecnt, .rcnt, .units, .transit, .marks, .sent, .routers, .hops, .clocks, .pair, .doors, .cores, .ports,
   .adj, .halls, .segs, .prv, .stp, .engs, .ana, .fw, .sens, .thm, .emerg]
/-- What drainComplete, drainBound may change. -/
def Part.group16 : List Part :=
  [.wall, .regs, .ecnt, .rcnt, .fill, .shown, .units, .transit, .marks, .sent, .routers, .hops, .tablesDue, .tree,
   .cutoff, .delays, .clocks, .refLost, .pair, .gates, .doors, .streams, .wins, .winAlive, .scans, .taps, .cores,
   .ports, .adj, .rpl, .steps, .verdicts, .replays, .setsOpened, .ctxs, .hist, .histFlash, .histStaged, .histLatch,
   .drainSince, .halls, .resets, .hangs, .cut, .cutNo, .cutDue, .cutUnits, .chans, .stop, .voids, .bins, .bank,
   .segs, .attic, .mem, .mbx, .twk, .mgt, .dbg, .cels, .reloads, .descCopy, .seeds, .idleKills, .prv, .pairs,
   .steepFirst, .stp, .engs, .plan, .grist, .ana, .dl, .fw, .sens, .thm, .emerg, .pad, .resetsDue, .tickAt,
   .passSeen, .latch]
/-- What globalStop, globalResume may change. -/
def Part.group17 : List Part :=
  [.regs, .ecnt, .rcnt, .transit, .sent, .routers, .hops, .clocks, .pair, .halls, .cut, .cutNo, .cutDue, .stop,
   .voids]
/-- What cutReport, cutReportTimeout may change. -/
def Part.group18 : List Part :=
  [.regs, .ecnt, .transit, .marks, .sent, .routers, .hops, .clocks, .pair, .gates, .rpl, .ctxs, .halls, .cut,
   .cutNo, .cutDue, .stop, .voids, .mbx, .dbg, .seeds, .prv]
/-- What limitTrip, clockRatioPersist may change. -/
def Part.group19 : List Part :=
  [.regs, .ecnt, .rcnt, .units, .transit, .marks, .sent, .routers, .hops, .clocks, .pair, .gates, .doors, .taps,
   .cores, .ports, .adj, .rpl, .steps, .verdicts, .replays, .ctxs, .halls, .resets, .hangs, .segs, .mbx, .cels,
   .idleKills, .prv, .stp, .engs, .fw, .thm, .emerg]
/-- What replayDone, replayDecline may change. -/
def Part.group20 : List Part :=
  [.regs, .ecnt, .rcnt, .transit, .marks, .sent, .routers, .hops, .clocks, .pair, .gates, .cores, .ports, .adj,
   .rpl, .replays, .ctxs, .halls, .resets, .segs, .mbx, .mgt, .idleKills, .fw, .emerg]
/-- What moldomStop, moldomResume may change. -/
def Part.group21 : List Part :=
  [.regs, .ecnt, .transit, .marks, .sent, .routers, .hops, .clocks, .pair, .halls, .cut, .cutNo, .cutDue, .stop,
   .voids, .dbg]
/-- What stairPacketReceive may change. -/
def Part.group22 : List Part :=
  [.fresh, .regs, .ecnt, .rcnt, .units, .transit, .marks, .sent, .routers, .hops, .clocks, .pair, .gates, .doors,
   .streams, .wins, .winAlive, .scans, .taps, .cores, .ports, .adj, .rpl, .steps, .verdicts, .replays, .ctxs,
   .histLatch, .halls, .resets, .hangs, .cut, .cutNo, .cutDue, .chans, .stop, .voids, .bins, .bank, .segs,
   .variant, .mbx, .twk, .mgt, .cels, .descCopy, .seeds, .idleKills, .prv, .stp, .engs, .plan, .fw, .sens, .thm,
   .emerg, .latch]
/-- What timeBeatEmit may change. -/
def Part.group23 : List Part :=
  [.fresh, .regs, .ecnt, .rcnt, .sent, .routers, .hops, .clocks, .pair, .halls]
/-- What hallPollTimeout may change. -/
def Part.group24 : List Part :=
  [.fresh, .regs, .ecnt, .rcnt, .units, .transit, .marks, .sent, .routers, .hops, .clocks, .pair, .gates, .doors,
   .streams, .wins, .winAlive, .scans, .taps, .cores, .ports, .adj, .rpl, .steps, .verdicts, .replays, .ctxs,
   .histLatch, .halls, .resets, .hangs, .cut, .cutNo, .cutDue, .stop, .voids, .bins, .bank, .segs, .mbx, .mgt,
   .cels, .descCopy, .seeds, .idleKills, .prv, .stp, .engs, .fw, .sens, .thm, .emerg, .latch]
/-- What atomicDiscardPresentation may change. -/
def Part.group25 : List Part :=
  [.regs, .ecnt, .rcnt, .transit, .marks, .sent, .routers, .hops, .clocks, .pair, .adj, .rpl, .halls, .segs]
/-- What commandStart may change. -/
def Part.group26 : List Part :=
  [.regs, .ecnt, .rcnt, .transit, .marks, .sent, .gates, .taps, .cores, .adj, .rpl, .steps, .segs, .pairs]
/-- What commandEnd may change. -/
def Part.group27 : List Part :=
  [.regs, .ecnt, .rcnt, .transit, .marks, .sent, .routers, .hops, .clocks, .pair, .streams, .taps, .cores, .adj,
   .rpl, .steps, .verdicts, .halls, .segs, .pairs]
/-- What descriptorArrive may change. -/
def Part.group28 : List Part :=
  [.regs, .ecnt, .rcnt, .transit, .marks, .sent, .routers, .hops, .clocks, .pair, .gates, .streams, .taps, .adj,
   .rpl, .steps, .verdicts, .halls, .segs, .pairs]
/-- What seedLoadDone may change. -/
def Part.group29 : List Part :=
  [.regs, .ecnt, .rcnt, .transit, .marks, .sent, .routers, .hops, .clocks, .pair, .adj, .rpl, .verdicts, .ctxs,
   .halls, .segs, .prv]
/-- What residueAlarm may change. -/
def Part.group30 : List Part :=
  [.regs, .ecnt, .rcnt, .transit, .marks, .sent, .routers, .hops, .clocks, .pair, .gates, .taps, .cores, .ports,
   .adj, .rpl, .replays, .ctxs, .halls, .resets, .chans, .segs, .mbx, .idleKills, .fw, .emerg]
/-- What residueSummary may change. -/
def Part.group31 : List Part :=
  [.regs, .ecnt, .rcnt, .transit, .marks, .sent, .routers, .hops, .clocks, .pair, .gates, .streams, .taps, .cores,
   .ports, .adj, .rpl, .steps, .verdicts, .replays, .ctxs, .halls, .resets, .chans, .segs, .mbx, .idleKills,
   .pairs, .fw, .emerg]
/-- What replicaCompare may change. -/
def Part.group32 : List Part :=
  [.fresh, .regs, .ecnt, .rcnt, .transit, .marks, .sent, .routers, .hops, .clocks, .pair, .adj, .rpl, .verdicts,
   .halls, .segs, .pairs]
/-- What privOutcome may change. -/
def Part.group33 : List Part :=
  [.regs, .ecnt, .rcnt, .transit, .marks, .sent, .routers, .hops, .clocks, .pair, .gates, .adj, .rpl, .steps,
   .verdicts, .halls, .chans, .segs, .prv, .passSeen]
/-- What rescanDone may change. -/
def Part.group34 : List Part :=
  [.regs, .ecnt, .rcnt, .units, .transit, .marks, .sent, .routers, .hops, .clocks, .pair, .gates, .doors, .cores,
   .ports, .adj, .rpl, .verdicts, .ctxs, .hist, .histStaged, .drainSince, .halls, .chans, .voids, .segs, .mbx,
   .cels, .prv, .stp, .engs]
/-- What scrubGranule may change. -/
def Part.group35 : List Part :=
  [.regs, .ecnt, .rcnt, .units, .transit, .marks, .sent, .routers, .hops, .clocks, .pair, .gates, .doors, .cores,
   .ports, .adj, .rpl, .verdicts, .ctxs, .hist, .histStaged, .drainSince, .halls, .chans, .voids, .segs, .mem,
   .mbx, .cels, .prv, .stp, .engs]
/-- What sliceDigestDone may change. -/
def Part.group36 : List Part :=
  [.regs, .ecnt, .rcnt, .units, .transit, .marks, .sent, .routers, .hops, .clocks, .pair, .gates, .doors, .streams,
   .cores, .ports, .adj, .rpl, .verdicts, .ctxs, .hist, .histStaged, .drainSince, .halls, .chans, .voids, .segs,
   .mbx, .cels, .prv, .stp, .engs]
/-- What digestTickSend may change. -/
def Part.group37 : List Part :=
  [.ecnt, .rcnt, .sent, .routers, .hops, .clocks, .pair, .halls, .tickAt, .passSeen]
/-- What reloadBlock may change. -/
def Part.group38 : List Part :=
  [.regs, .ecnt, .rcnt, .transit, .marks, .sent, .routers, .hops, .clocks, .pair, .streams, .halls, .mem, .cels,
   .reloads]
/-- What repairReadback may change. -/
def Part.group39 : List Part :=
  [.regs, .ecnt, .rcnt, .transit, .marks, .sent, .routers, .hops, .clocks, .pair, .streams, .halls, .chans, .cels,
   .prv]
/-- What scanLineDone may change. -/
def Part.group40 : List Part :=
  [.fresh, .regs, .ecnt, .rcnt, .units, .transit, .marks, .sent, .routers, .hops, .clocks, .pair, .gates, .doors,
   .scans, .cores, .ports, .adj, .rpl, .verdicts, .ctxs, .hist, .histStaged, .drainSince, .halls, .voids, .segs,
   .mem, .mbx, .cels, .prv, .stp, .engs, .fw]
/-- What mapCommitDone may change. -/
def Part.group41 : List Part :=
  [.regs, .ecnt, .rcnt, .transit, .marks, .sent, .routers, .hops, .clocks, .pair, .gates, .cores, .ports, .adj,
   .rpl, .verdicts, .replays, .ctxs, .halls, .resets, .segs, .mbx, .idleKills, .prv, .fw, .emerg]
/-- What repeatWithdraw may change. -/
def Part.group42 : List Part :=
  [.regs, .ecnt, .rcnt, .transit, .marks, .sent, .routers, .hops, .clocks, .pair, .gates, .cores, .ports, .adj,
   .rpl, .steps, .verdicts, .replays, .ctxs, .halls, .resets, .segs, .mbx, .idleKills, .prv, .fw, .emerg,
   .passSeen]
/-- What hallVerdict may change. -/
def Part.group43 : List Part :=
  [.regs, .ecnt, .rcnt, .units, .transit, .marks, .sent, .routers, .hops, .clocks, .pair, .gates, .doors, .cores,
   .ports, .adj, .rpl, .verdicts, .replays, .ctxs, .hist, .histStaged, .drainSince, .halls, .resets, .chans, .segs,
   .mbx, .idleKills, .prv, .steepFirst, .stp, .engs, .fw, .emerg]
/-- What eventRecord may change. -/
def Part.group44 : List Part :=
  [.regs, .ecnt, .rcnt, .units, .transit, .marks, .sent, .routers, .hops, .clocks, .pair, .gates, .doors, .cores,
   .ports, .adj, .rpl, .verdicts, .ctxs, .hist, .histStaged, .drainSince, .halls, .voids, .segs, .attic, .mbx,
   .mgt, .prv, .stp, .engs]
/-- What coreRotationStart may change. -/
def Part.group45 : List Part :=
  [.regs, .ecnt, .rcnt, .transit, .marks, .mem, .steepFirst, .stp, .plan, .grist]
/-- What steepStart may change. -/
def Part.group46 : List Part :=
  [.regs, .ecnt, .rcnt, .units, .transit, .marks, .sent, .routers, .hops, .clocks, .pair, .gates, .doors, .cores,
   .ports, .adj, .rpl, .verdicts, .ctxs, .halls, .segs, .mbx, .prv, .stp, .engs]
/-- What secretClearDone may change. -/
def Part.group47 : List Part :=
  [.regs, .ecnt, .rcnt, .units, .transit, .marks, .sent, .routers, .hops, .clocks, .pair, .gates, .doors, .cores,
   .ports, .adj, .rpl, .verdicts, .replays, .ctxs, .hist, .histStaged, .drainSince, .halls, .resets, .voids, .segs,
   .mbx, .idleKills, .prv, .stp, .engs, .fw, .emerg]
/-- What forcedSteepBoundary may change. -/
def Part.group48 : List Part :=
  [.fresh, .regs, .ecnt, .rcnt, .units, .transit, .sent, .routers, .hops, .clocks, .pair, .cores, .ports, .halls,
   .prv, .stp, .engs]
/-- What laneLoopbackEnd may change. -/
def Part.group49 : List Part :=
  [.regs, .ecnt, .rcnt, .units, .transit, .marks, .sent, .routers, .hops, .clocks, .pair, .doors, .cores, .ports,
   .adj, .rpl, .verdicts, .hist, .histStaged, .halls, .segs, .prv, .stp, .engs]
/-- What hangReport may change. -/
def Part.group50 : List Part :=
  [.regs, .ecnt, .rcnt, .transit, .marks, .sent, .routers, .hops, .clocks, .pair, .gates, .cores, .ports, .adj,
   .rpl, .steps, .verdicts, .replays, .setsOpened, .ctxs, .halls, .resets, .hangs, .chans, .segs, .mbx, .idleKills,
   .prv, .stp, .fw, .emerg, .passSeen]
/-- What coreResetEscalate may change. -/
def Part.group51 : List Part :=
  [.regs, .ecnt, .rcnt, .transit, .marks, .sent, .routers, .hops, .clocks, .pair, .ports, .replays, .setsOpened,
   .halls, .resets, .segs, .fw, .emerg]
/-- What clusterResetDone may change. -/
def Part.group52 : List Part :=
  [.regs, .ecnt, .transit, .marks, .cores, .ports, .rpl, .steps, .drainSince, .resets, .hangs, .mbx]
/-- What memoryRetrainDone may change. -/
def Part.group53 : List Part :=
  [.fresh, .regs, .ecnt, .rcnt, .units, .transit, .marks, .sent, .routers, .hops, .clocks, .pair, .gates, .doors,
   .cores, .adj, .rpl, .verdicts, .ctxs, .halls, .resets, .voids, .segs, .mbx, .cels, .prv, .fw]
/-- What regionReady may change. -/
def Part.group54 : List Part :=
  [.regs, .ecnt, .rcnt, .units, .transit, .marks, .sent, .routers, .hops, .clocks, .pair, .gates, .cores, .ports,
   .adj, .rpl, .verdicts, .replays, .ctxs, .drainSince, .halls, .resets, .voids, .segs, .mbx, .idleKills, .prv,
   .fw, .emerg]
/-- What partitionResetEscalate may change. -/
def Part.group55 : List Part :=
  [.regs, .ecnt, .rcnt, .transit, .sent, .routers, .hops, .clocks, .pair, .gates, .ctxs, .halls, .resets, .mbx,
   .fw, .emerg, .pad, .resetsDue]
/-- What powerCycleRequest may change. -/
def Part.group56 : List Part :=
  [.regs, .ecnt, .rcnt, .units, .transit, .marks, .sent, .routers, .hops, .clocks, .pair, .gates, .doors, .cores,
   .ports, .adj, .rpl, .verdicts, .ctxs, .hist, .histFlash, .histStaged, .drainSince, .halls, .voids, .segs,
   .attic, .mbx, .mgt, .prv, .stp, .engs, .pad]
/-- What pgLossRecognised may change. -/
def Part.group57 : List Part :=
  [.fresh, .regs, .ecnt, .rcnt, .fill, .shown, .units, .transit, .marks, .sent, .routers, .hops, .cutoff, .delays,
   .clocks, .pair, .gates, .doors, .streams, .wins, .winAlive, .scans, .taps, .cores, .ports, .adj, .rpl, .steps,
   .verdicts, .replays, .ctxs, .hist, .histStaged, .histLatch, .halls, .resets, .hangs, .cut, .cutNo, .cutDue,
   .cutUnits, .chans, .stop, .voids, .bins, .bank, .segs, .mem, .variant, .mbx, .twk, .mgt, .cels, .reloads,
   .descCopy, .seeds, .idleKills, .prv, .pairs, .stp, .engs, .plan, .grist, .fw, .sens, .thm, .emerg, .resetsDue,
   .latch]
/-- What overcurrentRecognised may change. -/
def Part.group58 : List Part :=
  [.fresh, .regs, .ecnt, .rcnt, .fill, .shown, .units, .transit, .marks, .sent, .routers, .hops, .cutoff, .delays,
   .clocks, .pair, .gates, .doors, .streams, .wins, .winAlive, .scans, .taps, .cores, .ports, .adj, .rpl, .steps,
   .verdicts, .replays, .ctxs, .histLatch, .halls, .resets, .hangs, .cut, .cutNo, .cutDue, .cutUnits, .chans,
   .stop, .voids, .bins, .bank, .segs, .mem, .variant, .mbx, .twk, .mgt, .cels, .reloads, .descCopy, .seeds,
   .idleKills, .prv, .pairs, .stp, .engs, .plan, .grist, .fw, .sens, .thm, .emerg, .resetsDue, .latch]
/-- What refclkLoss may change. -/
def Part.group59 : List Part :=
  [.fresh, .regs, .ecnt, .rcnt, .transit, .sent, .refLost, .gates, .ctxs, .mbx]
/-- What cutStart may change. -/
def Part.group60 : List Part :=
  [.regs, .ecnt, .transit, .sent, .routers, .hops, .clocks, .pair, .halls, .cut, .cutNo, .cutDue, .voids]
/-- What cutGo may change. -/
def Part.group61 : List Part :=
  [.regs, .ecnt, .rcnt, .transit, .sent, .routers, .hops, .clocks, .pair, .halls, .cut, .cutNo, .cutDue, .voids]
/-- What stopMaxTimeout may change. -/
def Part.group62 : List Part :=
  [.regs, .ecnt, .transit, .sent, .routers, .hops, .clocks, .pair, .halls, .cut, .cutNo, .cutDue, .stop, .voids]
/-- What cutMarker may change. -/
def Part.group63 : List Part :=
  [.regs, .ecnt, .rcnt, .fill, .units, .transit, .marks, .sent, .routers, .hops, .clocks, .pair, .gates, .doors,
   .cores, .ports, .adj, .ctxs, .halls, .cutUnits, .chans, .voids, .segs, .mem, .mbx, .cels, .prv, .stp, .engs,
   .thm]
/-- What channelMarker may change. -/
def Part.group64 : List Part :=
  [.regs, .ecnt, .rcnt, .units, .transit, .marks, .sent, .routers, .hops, .cutoff, .clocks, .pair, .gates, .doors,
   .cores, .ports, .adj, .rpl, .verdicts, .replays, .ctxs, .hist, .histStaged, .drainSince, .halls, .resets,
   .chans, .voids, .segs, .mbx, .idleKills, .prv, .steepFirst, .stp, .engs, .fw, .emerg]
/-- What traceWrite may change. -/
def Part.group65 : List Part :=
  [.regs, .ecnt, .rcnt, .transit, .marks, .sent, .routers, .hops, .clocks, .pair, .halls, .segs, .mem]
/-- What sensorReading may change. -/
def Part.group66 : List Part :=
  [.regs, .ecnt, .rcnt, .units, .transit, .marks, .sent, .routers, .hops, .clocks, .pair, .doors, .cores, .ports,
   .adj, .halls, .segs, .prv, .stp, .engs, .fw, .sens, .thm, .emerg]
/-- What shutterReturn may change. -/
def Part.group67 : List Part :=
  [.regs, .ecnt, .rcnt, .fill, .shown, .units, .transit, .marks, .sent, .routers, .hops, .delays, .clocks, .pair,
   .gates, .doors, .streams, .wins, .winAlive, .scans, .taps, .cores, .ports, .adj, .rpl, .steps, .verdicts,
   .replays, .setsOpened, .ctxs, .halls, .resets, .hangs, .cutUnits, .chans, .bins, .bank, .segs, .mem, .mbx,
   .cels, .reloads, .idleKills, .prv, .pairs, .stp, .engs, .grist, .fw, .thm, .emerg, .resetsDue]
/-- What limitTighten may change. -/
def Part.group68 : List Part :=
  [.regs, .ecnt, .rcnt, .units, .transit, .marks, .sent, .routers, .hops, .clocks, .pair, .gates, .doors, .taps,
   .cores, .ports, .adj, .rpl, .steps, .verdicts, .replays, .ctxs, .halls, .resets, .hangs, .segs, .mbx, .cels,
   .idleKills, .prv, .stp, .engs, .fw, .sens, .thm, .emerg]
/-- What emergencyEnd may change. -/
def Part.group69 : List Part :=
  [.regs, .ecnt, .transit, .sent, .routers, .hops, .clocks, .pair, .halls, .fw, .thm, .emerg]
/-- What powerOn may change. -/
def Part.group70 : List Part :=
  [.wall, .regs, .ecnt, .rcnt, .fill, .shown, .units, .transit, .marks, .routers, .hops, .tablesDue, .tree,
   .cutoff, .delays, .clocks, .refLost, .pair, .gates, .doors, .streams, .wins, .winAlive, .scans, .taps, .cores,
   .ports, .adj, .rpl, .steps, .verdicts, .replays, .setsOpened, .ctxs, .hist, .histFlash, .histStaged, .histLatch,
   .drainSince, .halls, .resets, .hangs, .cut, .cutNo, .cutDue, .cutUnits, .chans, .stop, .voids, .bins, .bank,
   .segs, .attic, .mem, .mbx, .twk, .mgt, .dbg, .cels, .reloads, .descCopy, .seeds, .idleKills, .prv, .pairs,
   .steepFirst, .stp, .engs, .plan, .grist, .ana, .dl, .fw, .sens, .thm, .emerg, .pad, .resetsDue, .tickAt,
   .passSeen, .latch]
/-- What bringupStage may change. -/
def Part.group71 : List Part :=
  [.fresh, .regs, .ecnt, .rcnt, .units, .transit, .marks, .sent, .routers, .hops, .clocks, .pair, .gates, .doors,
   .scans, .cores, .ports, .adj, .rpl, .verdicts, .ctxs, .drainSince, .halls, .voids, .segs, .attic, .mem,
   .variant, .mbx, .chanMap, .prv, .plan, .fw, .sens, .pad]
/-- What activationResume may change. -/
def Part.group72 : List Part :=
  [.regs, .ecnt, .rcnt, .transit, .sent, .routers, .hops, .cutoff, .clocks, .pair, .halls, .voids, .variant, .mbx,
   .twk, .mgt, .plan, .fw]
/-- What processorSwitchDone may change. -/
def Part.group73 : List Part :=
  [.regs, .ecnt, .rcnt, .fill, .shown, .units, .transit, .marks, .sent, .routers, .hops, .cutoff, .delays, .clocks,
   .pair, .gates, .doors, .streams, .wins, .winAlive, .scans, .taps, .cores, .ports, .adj, .rpl, .steps, .verdicts,
   .replays, .setsOpened, .ctxs, .hist, .histStaged, .drainSince, .halls, .resets, .hangs, .cut, .cutNo, .cutDue,
   .cutUnits, .chans, .voids, .bins, .bank, .segs, .attic, .mem, .variant, .mbx, .twk, .mgt, .dbg, .cels, .reloads,
   .idleKills, .prv, .pairs, .stp, .engs, .plan, .grist, .fw, .emerg, .pad, .resetsDue]
/-- What processorWatchdog may change. -/
def Part.group74 : List Part :=
  [.regs, .ecnt, .rcnt, .units, .transit, .marks, .sent, .routers, .hops, .cutoff, .clocks, .pair, .gates, .doors,
   .taps, .cores, .ports, .adj, .rpl, .steps, .verdicts, .replays, .ctxs, .halls, .resets, .hangs, .voids, .segs,
   .variant, .mbx, .twk, .mgt, .cels, .idleKills, .prv, .stp, .engs, .plan, .fw, .thm, .emerg]
/-- What ctxOpen may change. -/
def Part.group75 : List Part :=
  [.regs, .ecnt, .rcnt, .transit, .marks, .sent, .ctxs, .mbx, .mgt, .seeds, .prv]
/-- What ctxTeardown may change. -/
def Part.group76 : List Part :=
  [.regs, .ecnt, .rcnt, .transit, .marks, .sent, .routers, .hops, .clocks, .pair, .gates, .cores, .ports, .adj,
   .rpl, .replays, .ctxs, .halls, .resets, .segs, .mbx, .mgt, .idleKills, .prv, .fw, .emerg]
/-- What ctxResume may change. -/
def Part.group77 : List Part :=
  [.regs, .ecnt, .rcnt, .transit, .marks, .sent, .gates, .ctxs, .mbx, .mgt]
/-- What resetReq may change. -/
def Part.group78 : List Part :=
  [.regs, .ecnt, .rcnt, .fill, .shown, .units, .transit, .marks, .sent, .routers, .hops, .delays, .clocks, .pair,
   .gates, .doors, .streams, .wins, .winAlive, .scans, .taps, .cores, .ports, .adj, .rpl, .steps, .verdicts,
   .replays, .setsOpened, .ctxs, .hist, .histFlash, .histStaged, .drainSince, .halls, .resets, .hangs, .cutUnits,
   .chans, .voids, .bins, .bank, .segs, .attic, .mem, .mbx, .mgt, .cels, .reloads, .idleKills, .prv, .pairs, .stp,
   .engs, .grist, .fw, .emerg, .pad, .resetsDue]
/-- What postureSet may change. -/
def Part.group79 : List Part :=
  [.regs, .ecnt, .rcnt, .transit, .marks, .sent, .routers, .hops, .clocks, .pair, .halls, .mbx, .mgt]
/-- What twkPropose may change. -/
def Part.group80 : List Part :=
  [.fresh, .regs, .ecnt, .rcnt, .transit, .marks, .sent, .routers, .hops, .clocks, .pair, .halls, .mbx, .twk, .mgt]
/-- What endorsementVerify may change. -/
def Part.group81 : List Part :=
  [.regs, .ecnt, .rcnt, .units, .transit, .marks, .sent, .routers, .hops, .clocks, .pair, .gates, .doors, .cores,
   .ports, .adj, .rpl, .verdicts, .ctxs, .hist, .histStaged, .drainSince, .halls, .segs, .attic, .mem, .mbx, .twk,
   .mgt, .dbg, .prv, .stp, .engs, .grist, .fw, .pad]
/-- What debugLock may change. -/
def Part.group82 : List Part :=
  [.fresh, .regs, .ecnt, .rcnt, .fill, .shown, .units, .transit, .marks, .sent, .routers, .hops, .delays, .clocks,
   .pair, .gates, .doors, .streams, .wins, .winAlive, .scans, .taps, .cores, .ports, .adj, .rpl, .steps, .verdicts,
   .replays, .setsOpened, .ctxs, .hist, .histStaged, .drainSince, .halls, .resets, .hangs, .cut, .cutNo, .cutDue,
   .cutUnits, .chans, .stop, .voids, .bins, .bank, .segs, .attic, .mem, .mbx, .twk, .mgt, .dbg, .cels, .reloads,
   .idleKills, .prv, .pairs, .stp, .engs, .grist, .fw, .emerg, .pad, .resetsDue]
/-- What debugUnlockExpire may change. -/
def Part.group83 : List Part :=
  [.fresh, .regs, .ecnt, .rcnt, .fill, .shown, .units, .transit, .marks, .sent, .routers, .hops, .delays, .clocks,
   .pair, .gates, .doors, .streams, .wins, .winAlive, .scans, .taps, .cores, .ports, .adj, .rpl, .steps, .verdicts,
   .replays, .setsOpened, .ctxs, .hist, .histStaged, .drainSince, .halls, .resets, .hangs, .cut, .cutNo, .cutDue,
   .cutUnits, .chans, .stop, .voids, .bins, .bank, .segs, .attic, .mem, .mbx, .twk, .dbg, .cels, .reloads,
   .idleKills, .prv, .pairs, .stp, .engs, .grist, .fw, .emerg, .pad, .resetsDue]
/-- What dlChunk may change. -/
def Part.group84 : List Part :=
  [.regs, .ecnt, .rcnt, .transit, .marks, .sent, .mem, .mbx, .mgt, .dl, .fw]
/-- What fwActivate may change. -/
def Part.group85 : List Part :=
  [.regs, .ecnt, .rcnt, .transit, .marks, .sent, .routers, .hops, .cutoff, .clocks, .pair, .halls, .voids,
   .variant, .mbx, .twk, .mgt, .plan, .fw, .emerg]
/-- What procRestart may change. -/
def Part.group86 : List Part :=
  [.regs, .ecnt, .rcnt, .transit, .marks, .sent, .routers, .hops, .clocks, .pair, .halls, .mbx, .mgt, .fw]
/-- What windowWrite may change. -/
def Part.group87 : List Part :=
  [.fresh, .regs, .ecnt, .rcnt, .units, .transit, .marks, .sent, .routers, .hops, .clocks, .pair, .gates, .doors,
   .streams, .wins, .winAlive, .scans, .taps, .cores, .ports, .adj, .rpl, .steps, .verdicts, .replays, .ctxs,
   .histLatch, .halls, .resets, .hangs, .cut, .cutNo, .cutDue, .stop, .voids, .bins, .bank, .segs, .mbx, .mgt,
   .dbg, .cels, .descCopy, .seeds, .idleKills, .prv, .stp, .engs, .fw, .sens, .thm, .emerg]
/-- What processorRun may change. -/
def Part.group88 : List Part :=
  [.fresh, .regs, .ecnt, .rcnt, .fill, .shown, .units, .transit, .marks, .sent, .routers, .hops, .delays, .clocks,
   .pair, .gates, .doors, .streams, .wins, .winAlive, .scans, .taps, .cores, .ports, .adj, .rpl, .steps, .verdicts,
   .replays, .setsOpened, .ctxs, .hist, .histStaged, .drainSince, .halls, .resets, .hangs, .cut, .cutNo, .cutDue,
   .cutUnits, .chans, .voids, .bins, .bank, .segs, .attic, .mem, .mbx, .twk, .dbg, .cels, .reloads, .idleKills,
   .prv, .pairs, .stp, .engs, .grist, .fw, .emerg, .pad, .resetsDue]
/-- What scanEnable may change. -/
def Part.group89 : List Part :=
  [.regs, .ecnt, .rcnt, .units, .transit, .marks, .sent, .routers, .hops, .clocks, .pair, .gates, .doors, .streams,
   .wins, .winAlive, .cores, .ports, .adj, .rpl, .steps, .verdicts, .ctxs, .halls, .segs, .mem, .mbx, .dbg, .cels,
   .reloads, .prv, .pairs, .stp, .engs]

/-- The parts that a command's effect may change; every other part of State is as it was, whatever the state (the queue is
in none: a step takes the front command off it and a meaning leaves the rest). -/
def touches : Instr → List Part
  | .stairPacketReceive _ _ _ _ _ _ _ => Part.group22
  | .hopCheckResult _ _ _ => Part.group10
  | .hopAckTimeout _ _ => Part.group10
  | .detourTablesWrite _ => [.regs, .ecnt, .transit, .tablesDue, .tree, .cutoff, .voids]
  | .detourTableArrive _ => [.sent, .routers, .hops, .tablesDue, .clocks, .pair, .halls]
  | .matchedDelayLengthen _ => [.delays]
  | .matchedDelayShorten _ => [.delays]
  | .timeBeatEmit => Part.group23
  | .hopDelayEcho _ _ _ => [.hops]
  | .beatReceive _ _ _ _ _ => [.regs, .ecnt, .rcnt, .clocks, .halls, .segs]
  | .beatLossTimeout _ => [.regs, .ecnt, .transit, .marks]
  | .mirrorAck => Part.group11
  | .mirrorRequest _ => [.sent, .routers, .hops, .clocks, .pair, .halls]
  | .heartbeatSend _ => [.ecnt, .rcnt, .sent, .routers, .hops, .clocks, .pair, .halls]
  | .heartbeatReceive _ _ => Part.group12
  | .heartbeatSilence => Part.group13
  | .hallPollAnswer _ _ => Part.group13
  | .hallPollTimeout => Part.group24
  | .reignStepDown _ _ => Part.group12
  | .standbySilence => Part.group11
  | .brewhouseContactLoss _ => [.regs, .ecnt, .rcnt, .transit, .sent, .gates, .ctxs, .halls, .mbx]
  | .failsafeRefresh => [.pair]
  | .failsafeLapse => [.pair]
  | .productIssue _ _ _ _ => [.regs, .ecnt, .rcnt, .transit, .marks, .taps]
  | .residueUnitDrained _ _ _ => [.regs, .ecnt, .rcnt, .transit, .marks, .taps]
  | .accumulationClose _ _ _ _ _ _ => [.regs, .ecnt, .rcnt, .transit, .marks, .taps]
  | .discardPresentation _ _ _ _ _ => [.regs, .ecnt, .rcnt, .transit, .marks, .taps]
  | .atomicDiscardPresentation _ _ _ => Part.group25
  | .commandStart _ _ _ _ _ _ => Part.group26
  | .commandEnd _ _ _ _ _ => Part.group27
  | .issueLimitExpire _ _ => [.regs, .taps]
  | .descriptorArrive _ _ _ => Part.group28
  | .seedLoadDone _ _ => Part.group29
  | .residueAlarm _ _ => Part.group30
  | .residueSummary _ _ => Part.group31
  | .usageReport _ _ => [.ecnt, .rcnt, .taps, .chans, .thm]
  | .replicaReadLine _ _ _ _ _ => Part.group5
  | .replicaReadStale _ _ _ => Part.group5
  | .replicaCompare _ _ _ _ => Part.group32
  | .descriptorLoad _ => [.regs, .ecnt, .rcnt, .transit, .marks, .pair, .rpl]
  | .descriptorInvalidate _ => [.regs, .ecnt, .rcnt, .pair, .rpl, .descCopy]
  | .descriptorBroadcastAnswer _ _ => [.regs, .ecnt, .transit, .marks, .rpl, .descCopy]
  | .privPartialSelection _ _ _ _ _ => Part.group5
  | .privOutcome _ _ _ => Part.group33
  | .gateBlockArrive _ _ _ _ => [.regs, .ecnt, .rcnt, .transit, .sent, .gates, .ctxs, .mbx]
  | .gateVerdict _ _ _ _ => [.regs, .ecnt, .rcnt, .transit, .sent, .gates, .ctxs, .mbx]
  | .gateBackstop _ => [.regs, .ecnt, .rcnt, .transit, .sent, .gates, .ctxs, .mbx]
  | .doorTransmitBlock _ _ _ => [.regs, .ecnt, .rcnt, .transit, .marks, .sent, .doors, .streams, .ctxs]
  | .doorReceiveBlock _ _ _ _ => [.regs, .ecnt, .rcnt, .transit, .marks, .sent, .doors, .streams, .ctxs]
  | .linkTrained _ => [.regs, .ecnt, .rcnt, .transit, .doors, .streams, .cutUnits, .voids]
  | .laneDrop _ _ _ => [.regs, .ecnt, .transit, .doors]
  | .laneReturn _ _ _ => Part.group6
  | .cellarReadBlock _ _ _ _ _ _ _ _ => Part.group14
  | .cellarWriteBlock _ _ _ _ => [.regs, .ecnt, .rcnt, .transit, .marks, .winAlive, .mem, .cels]
  | .rescanDone _ _ _ _ _ => Part.group34
  | .scrubGranule _ _ _ => Part.group35
  | .sliceWrite _ => [.regs, .ecnt, .rcnt, .pair, .cels]
  | .sliceVerify _ => [.regs, .ecnt, .rcnt, .transit, .pair, .cels]
  | .sliceDrop _ => [.regs, .ecnt, .rcnt, .pair, .cels]
  | .sliceRedigest _ => [.regs, .ecnt, .rcnt, .pair, .cels]
  | .sliceDigestDone _ _ _ _ _ => Part.group36
  | .digestTickSend => Part.group37
  | .digestTick _ => [.regs, .ecnt, .rcnt, .transit, .marks, .cels]
  | .digestRecord _ _ => Part.group1
  | .thirdCopyRequest _ _ => Part.group1
  | .thirdCopyAnswer _ _ => [.regs, .ecnt, .rcnt, .transit, .marks, .cels]
  | .thirdCopyTimeout _ _ => [.regs, .ecnt, .transit, .cels]
  | .repairStart _ => Part.group1
  | .reloadRequest _ _ => Part.group1
  | .reloadAnnouncement _ _ => [.regs, .ecnt, .rcnt, .transit, .marks, .cels, .reloads]
  | .reloadBlock _ _ _ => Part.group38
  | .reloadRefusal _ _ => Part.group1
  | .reloadTimeout _ _ => Part.group1
  | .repairReadback _ _ _ _ _ => Part.group39
  | .refreshMultLower _ => [.regs, .ecnt, .transit, .marks]
  | .saveAreaRestore _ _ _ => [.regs, .ecnt, .transit, .ports, .cels]
  | .channelClear _ _ => [.regs, .ecnt, .rcnt, .pair]
  | .poisonMapRead _ => [.regs, .ecnt, .rcnt, .sent, .pair, .latch]
  | .scanGo _ _ => [.fresh, .regs, .ecnt, .rcnt, .pair, .scans]
  | .scanAbort _ => [.ecnt, .rcnt, .pair, .scans]
  | .scanLineDone _ _ _ => Part.group40
  | .scanProfileWrite _ _ => [.regs, .ecnt, .rcnt, .pair]
  | .streamResync _ _ => [.ecnt, .rcnt, .pair, .streams, .winAlive]
  | .windowApply _ _ => [.ecnt, .rcnt, .pair, .wins, .winAlive]
  | .mapCommitDone _ => Part.group41
  | .mapMiss _ _ _ => [.regs, .ecnt, .rcnt, .transit, .marks]
  | .repeatStart _ => [.sent, .gates, .adj, .rpl, .steps]
  | .repeatDone _ _ _ => Part.group2
  | .repeatWithdraw _ => Part.group42
  | .referenceT1Done _ _ _ => Part.group2
  | .neighbourRequest _ _ _ _ => [.ecnt, .rcnt, .adj, .rpl]
  | .neighbourAnswer _ _ => Part.group2
  | .neighbourTimeout _ _ => Part.group2
  | .hallVerdict _ => Part.group43
  | .fenceBoundary _ _ => [.regs, .ecnt, .transit, .marks, .cores, .ports, .drainSince, .mbx]
  | .migrationDone _ _ _ => [.ports]
  | .eventRecord => Part.group44
  | .waferDrained => [.regs, .ecnt, .transit, .mbx]
  | .historyProgram => [.histFlash, .histStaged]
  | .atticProgram => [.attic]
  | .poisonReport _ _ _ _ _ => Part.group3
  | .historySelect _ => [.regs, .ecnt, .rcnt, .pair, .histLatch]
  | .historyWindowRead => [.regs, .ecnt, .rcnt, .sent, .pair, .latch]
  | .coreRotationStart => Part.group45
  | .steepDue _ => [.stp]
  | .steepStart _ _ => Part.group46
  | .steepWithdraw _ _ => Part.group6
  | .secretClearDone _ _ _ _ => Part.group47
  | .sliceCompare _ _ _ => Part.group14
  | .sliceAbort _ _ => Part.group6
  | .coreOverdue _ _ => [.regs, .ecnt, .transit, .marks, .stp]
  | .forcedSteepBoundary _ _ => Part.group48
  | .phyLoopback _ _ _ => [.regs, .ecnt, .transit, .cels, .engs]
  | .channelMarch _ _ => [.regs, .ecnt, .rcnt, .pair]
  | .marchDone _ _ _ _ => [.regs, .ecnt, .transit, .mem]
  | .laneLoopbackEnd _ _ _ _ => Part.group49
  | .analogueCheck _ _ => Part.group15
  | .analogueRecheck _ _ => Part.group15
  | .gristVerify => [.regs, .ecnt, .transit, .sent, .mbx, .mgt]
  | .gristStoreCopy _ _ => [.regs, .sent, .routers, .hops, .clocks, .pair, .halls, .mem, .grist]
  | .gristStoreRewrite _ => [.regs, .ecnt, .transit, .mem, .grist]
  | .commandExpire _ _ _ => [.regs, .ecnt, .rcnt, .transit, .marks, .cores, .hangs, .segs]
  | .hangReport _ => Part.group50
  | .stallWatchdog _ => Part.group7
  | .drainComplete _ _ _ => Part.group16
  | .drainBound _ _ _ => Part.group16
  | .killDone _ => [.regs, .ports, .rpl, .steps]
  | .coreResetEscalate _ _ => Part.group51
  | .clusterResetDone _ => Part.group52
  | .engineResetEscalate _ => Part.group7
  | .memoryRetrainDone _ _ => Part.group53
  | .regionReady _ => Part.group54
  | .neighbourResetComplete _ _ _ => [.ecnt, .rcnt, .halls]
  | .partitionResetEscalate _ => Part.group55
  | .chipResetWatchdog => [.regs, .ecnt, .transit, .sent, .pad]
  | .powerCycleRequest _ => Part.group56
  | .replayStartTimeout _ => Part.group3
  | .pgLossRecognised _ => Part.group57
  | .overcurrentRecognised _ => Part.group58
  | .clampApply _ _ => [.regs, .ecnt, .transit, .halls]
  | .clampRelease _ _ => [.regs, .ecnt, .transit, .halls]
  | .lostRegionReturn _ => Part.group7
  | .refclkLoss _ _ => Part.group59
  | .refclkRestore _ _ => [.regs, .ecnt, .transit, .clocks, .refLost]
  | .retiredBlockDiscard _ _ _ => [.regs, .ecnt, .rcnt, .transit, .marks, .ctxs]
  | .throttleAck _ => [.thm]
  | .throttleAckTimeout _ => [.regs, .ecnt, .transit, .marks]
  | .cutStart => Part.group60
  | .cutGo => Part.group61
  | .globalStop => Part.group17
  | .globalResume => Part.group17
  | .stopMaxTimeout => Part.group62
  | .cutMarker _ _ => Part.group63
  | .channelMarker _ _ => Part.group64
  | .channelRecordTimeout _ => [.chans]
  | .edgeMarkerTimeout _ => [.cutUnits]
  | .cutReport _ _ => Part.group18
  | .cutReportTimeout _ _ => Part.group18
  | .cutDone _ => [.shown, .cutUnits]
  | .coreStopped _ _ => [.cores]
  | .stopCoreTimeout _ _ => [.cut]
  | .attributionBinWrite _ _ => [.regs, .ecnt, .rcnt, .pair, .bins]
  | .counterConfigWrite _ _ => [.ecnt, .rcnt, .pair, .bank]
  | .traceWrite _ _ => Part.group65
  | .traceRestart _ => [.ecnt, .rcnt, .pair, .segs]
  | .traceMark _ => [.regs, .ecnt, .rcnt, .transit, .marks, .pair, .segs]
  | .loftWindowRead => [.regs, .ecnt, .rcnt, .sent, .pair, .latch]
  | .atticEraseDone => [.regs, .ecnt, .rcnt, .transit, .marks, .sent, .attic, .mgt]
  | .atticWindowRead => [.regs, .ecnt, .rcnt, .sent, .pair, .latch]
  | .optimeAdvance => [.attic, .pad]
  | .drwSeedSet _ => Part.group8
  | .seedSetAnswer _ => Part.group8
  | .drawRequest _ _ _ _ _ _ => [.ecnt, .rcnt, .sent, .rpl, .ctxs]
  | .drawCalc _ => [.regs, .ecnt, .rcnt, .pair]
  | .weightSetReport _ => [.regs, .cels, .prv]
  | .provenanceStep => [.regs, .ecnt, .transit, .marks, .mbx, .prv]
  | .provenanceEnable _ => [.regs, .ecnt, .rcnt, .pair, .prv]
  | .pairStepTimeout _ => Part.group9
  | .pairDigestRecord _ _ => Part.group9
  | .pairValue _ _ => Part.group9
  | .pairUnmatchedTimeout _ _ => [.regs, .ecnt, .rcnt, .transit, .marks, .pairs]
  | .sensorReading _ _ _ => Part.group66
  | .ladderDeepen _ _ => [.regs, .ecnt, .rcnt, .transit, .marks, .halls, .segs, .thm]
  | .ladderRelease _ _ => [.regs, .ecnt, .rcnt, .transit, .marks, .halls, .segs, .thm]
  | .powerEstimate _ => [.regs, .ecnt, .rcnt, .transit, .marks, .halls, .segs, .thm]
  | .limitTrip _ _ _ => Part.group19
  | .clockRatioPersist _ _ => Part.group19
  | .shutterReturn _ => Part.group67
  | .limitTighten _ _ => Part.group68
  | .emergencyEnd => Part.group69
  | .powerOn => Part.group70
  | .bringupStage _ => Part.group71
  | .xspiBusTimeout => [.fw]
  | .bootLoadDone _ _ _ => [.fresh, .regs, .scans, .fw]
  | .bundleVerify _ => [.regs, .ecnt, .transit, .sent, .mbx, .mgt, .dl, .fw]
  | .activationResume => Part.group72
  | .processorLoadDone _ _ => [.sent, .routers, .hops, .clocks, .pair, .halls, .fw]
  | .processorSwitchDone _ _ => Part.group73
  | .processorWatchdog _ => Part.group74
  | .trialClear => [.regs, .ecnt, .transit, .fw]
  | .mailboxScan _ => [.regs, .ecnt, .rcnt, .transit, .marks, .sent, .mbx, .mgt]
  | .hello => [.regs, .ecnt, .transit, .marks, .mbx]
  | .ctxOpen => Part.group75
  | .ctxTeardown => Part.group76
  | .seedSet => Part.group8
  | .ctxResume => Part.group77
  | .inputDeclare => [.regs, .ecnt, .rcnt, .transit, .marks, .sent, .mbx, .mgt, .prv]
  | .inputData => [.regs, .ecnt, .rcnt, .transit, .marks, .sent, .mbx, .mgt, .prv]
  | .mark => [.regs, .ecnt, .rcnt, .transit, .marks, .sent, .mbx, .mgt, .prv]
  | .replayRun => [.regs, .ecnt, .rcnt, .transit, .marks, .sent, .mbx, .mgt, .prv]
  | .replayDeliver => [.regs, .ecnt, .transit, .mbx, .prv]
  | .replayStarted => [.regs, .ecnt, .rcnt, .transit, .marks, .sent, .replays, .mbx, .mgt]
  | .replayDone => Part.group20
  | .replayDecline => Part.group20
  | .resetReq => Part.group78
  | .postureSet => Part.group79
  | .twkPropose => Part.group80
  | .twkEndorse => [.mbx, .twk]
  | .endorsementVerify => Part.group81
  | .proposalExpire _ => [.regs, .ecnt, .transit, .mbx, .twk]
  | .debugLock => Part.group82
  | .debugUnlockExpire => Part.group83
  | .dlChunk => Part.group84
  | .fwActivate => Part.group85
  | .procRestart => Part.group86
  | .hostHeartbeat _ => [.regs, .ecnt, .rcnt, .pair, .mbx]
  | .hostAbsent => Part.group3
  | .pcieLinkDown _ => Part.group3
  | .completionWrite => [.regs, .sent, .mbx]
  | .ringHeadWrite _ => [.regs, .ecnt, .rcnt, .pair]
  | .msiHoldoffEnd _ => [.sent, .mbx]
  | .entdaa _ => [.mgt]
  | .mctpMessage _ _ => [.regs, .ecnt, .rcnt, .transit, .marks, .sent, .mbx, .mgt]
  | .fleetMessage _ => [.regs, .ecnt, .rcnt, .transit, .marks, .sent, .mbx, .mgt]
  | .reportCollect => [.ecnt, .rcnt, .sent, .mgt]
  | .reportSummary => [.regs, .ecnt, .rcnt, .transit, .marks, .mgt]
  | .statusReport => [.regs, .ecnt, .rcnt, .transit, .marks, .mgt]
  | .tapReset => [.dbg]
  | .nop _ => []
  | .ident _ => [.dbg]
  | .windowRead _ => [.regs, .ecnt, .rcnt, .transit, .marks, .sent, .dbg, .latch]
  | .windowWrite _ => Part.group87
  | .memoryRead _ => [.regs, .ecnt, .transit, .marks, .dbg]
  | .memoryWrite _ => [.regs, .ecnt, .transit, .marks, .mem, .dbg]
  | .processorHalt _ => [.fresh, .regs, .ecnt, .transit, .marks, .halls, .dbg]
  | .processorRun _ => Part.group88
  | .processorStep _ => [.fresh, .regs, .ecnt, .transit, .marks, .halls, .dbg]
  | .setBreakpoint _ => [.regs, .ecnt, .transit, .marks, .dbg]
  | .setWatchpoint _ => [.regs, .ecnt, .transit, .marks, .dbg]
  | .processorStatus _ => [.regs, .ecnt, .transit, .marks, .dbg]
  | .processorBreakHit _ _ _ => [.regs, .ecnt, .transit, .halls, .dbg]
  | .moldomStop _ => Part.group21
  | .moldomResume _ => Part.group21
  | .pipelineHalt _ => [.regs, .ecnt, .transit, .marks, .dbg]
  | .pipelineRelease _ => [.regs, .ecnt, .transit, .marks, .dbg]
  | .scanEnable _ => Part.group89
  | .ownerClaim _ _ => Part.group4
  | .tapWindowSelect _ _ => Part.group4
  | .pageUnreached _ _ => [.ecnt, .rcnt, .sent, .pair]
  | .loHiLatchRead _ => [.regs, .ecnt, .rcnt, .sent, .pair, .latch]
  | .windowPartialWrite _ _ => [.regs, .ecnt, .rcnt, .transit, .pair]
  | .rw2kDirectWrite _ _ => Part.group4
  | .registerWrite _ _ => Part.group4

end Sys2Proof.Machine
end

