-- ==== Sys2Proof/WellFormed.lean ====
section
/-! DEFINITION. Which operands a port can present: the bounds of the spec that the operand types do not hold. No meaning depends on these checks; each command has its effect on any operands. -/
namespace Sys2Proof

/-- A block on a port is never shorter than its 16-byte header (R123, R124). -/
def blockWf (bs : List Byte) : Bool := decide (16 ≤ bs.length)

/-- A digest or record travels in a block of a record of 32 bytes each, one to 32 of them (R464). -/
def pairRecordWf (r : List Byte) : Bool := r.length == 32

/-- An exchange record is one payload of 64 bytes (R298). -/
def exchangeWf (p : List Byte) : Bool := p.length == 64

/-- A granule is 256 bytes (R280). -/
def granuleWf (bs : List Byte) : Bool := bs.length == 256

/-- A scan reads whole lines of 64 bytes (R150). -/
def lineWf (bs : List Byte) : Bool := bs.length == 64

/-- Numbers strictly rising: a set of lanes or slots, each named once. -/
def risingWf : List Nat → Bool
  | [] => true
  | [_] => true
  | a :: b :: t => decide (a < b) && risingWf (b :: t)

/-- A block of a stack lies in its channel's 36-bit space (R98). -/
def inChannelWf (addr : BitVec 36) (bs : List Byte) : Bool := decide (addr.toNat + bs.length ≤ 2 ^ 36)

/-- Processors: one in each Hall, and the security, power-management and scheduler core of each Brewhouse (R498). -/
def processorWf (i : Byte) : Bool := decide (i.toNat < nRegions) || [64, 65, 66, 72, 73, 74].contains i.toNat

/-- A unit's sample has one count for each lane of a link and one for each channel of a stack (R395, R420, R421). -/
def sampleWf (u : Node) (x : Sample) : Bool :=
  match u with
  | .door _ => x.lanes.length == 4
  | .cellar _ => x.held.length == 16 && x.inRd.length == 16
  | _ => true

/-- A mailbox message is a 16-byte header and at most 240 bytes of payload (R544). -/
def messageWf (m : List Byte) : Bool := decide (16 ≤ m.length ∧ m.length ≤ 256)

/-- The operands of a command lie in the bounds the spec gives the port that presents them. -/
def Instr.wf : Instr → Bool
  | .productIssue _ _ _ _ => true
  | .gateBlockArrive _ _ _ bytes => blockWf bytes
  | .doorTransmitBlock _ _ bytes => blockWf bytes
  | .doorReceiveBlock _ _ _ bytes => blockWf bytes
  | .cellarReadBlock _ _ addr _ bytes _ _ _ => blockWf bytes && inChannelWf addr bytes
  | .cellarWriteBlock _ _ addr bytes => blockWf bytes && inChannelWf addr bytes
  | .scrubGranule _ _ data => granuleWf data
  | .scanLineDone _ data _ => lineWf data
  | .digestRecord _ p => exchangeWf p
  | .thirdCopyRequest _ p => exchangeWf p
  | .thirdCopyAnswer _ p => exchangeWf p
  | .reloadRequest _ p => exchangeWf p
  | .reloadAnnouncement _ p => exchangeWf p
  | .reloadRefusal _ p => exchangeWf p
  | .reloadBlock _ bytes _ => blockWf bytes
  | .saveAreaRestore _ pass _ => pass.length == 2
  | .cutMarker u x => sampleWf u x
  | .pairDigestRecord _ r => pairRecordWf r
  | .pairValue _ rs => decide (1 ≤ rs.length ∧ rs.length ≤ 32) && rs.all pairRecordWf
  | .bringupStage res => decide (res.failed.length ≤ res.tested)
  | .processorLoadDone i _ => processorWf i
  | .processorSwitchDone i _ => processorWf i
  | .processorWatchdog i => processorWf i
  | .processorBreakHit i _ _ => processorWf i
  | .mailboxScan changed => risingWf (changed.map (·.val))
  | .fleetMessage m => messageWf m
  -- the operand types of the others hold every bound
  | .stairPacketReceive .. | .hopCheckResult .. | .hopAckTimeout .. | .detourTablesWrite ..
  | .detourTableArrive .. | .matchedDelayLengthen .. | .matchedDelayShorten .. | .timeBeatEmit
  | .hopDelayEcho .. | .beatReceive .. | .beatLossTimeout .. | .mirrorAck | .mirrorRequest ..
  | .heartbeatSend .. | .heartbeatReceive .. | .heartbeatSilence | .hallPollAnswer .. | .hallPollTimeout
  | .reignStepDown .. | .standbySilence | .brewhouseContactLoss .. | .failsafeRefresh | .failsafeLapse
  | .residueUnitDrained .. | .accumulationClose .. | .discardPresentation .. | .atomicDiscardPresentation ..
  | .commandStart .. | .commandEnd .. | .issueLimitExpire .. | .descriptorArrive .. | .seedLoadDone ..
  | .residueAlarm .. | .residueSummary .. | .usageReport .. | .replicaReadLine .. | .replicaReadStale ..
  | .replicaCompare .. | .descriptorLoad .. | .descriptorInvalidate .. | .descriptorBroadcastAnswer ..
  | .privPartialSelection .. | .privOutcome .. | .gateVerdict .. | .gateBackstop .. | .linkTrained ..
  | .laneDrop .. | .laneReturn .. | .rescanDone .. | .sliceWrite .. | .sliceVerify .. | .sliceDrop ..
  | .sliceRedigest .. | .sliceDigestDone .. | .digestTickSend | .digestTick .. | .thirdCopyTimeout ..
  | .repairStart .. | .reloadTimeout .. | .repairReadback .. | .refreshMultLower .. | .channelClear ..
  | .poisonMapRead .. | .scanGo .. | .scanAbort .. | .scanProfileWrite .. | .streamResync ..
  | .windowApply .. | .mapCommitDone .. | .mapMiss .. | .repeatStart .. | .repeatDone .. | .repeatWithdraw ..
  | .referenceT1Done .. | .neighbourRequest .. | .neighbourAnswer .. | .neighbourTimeout .. | .hallVerdict ..
  | .fenceBoundary .. | .migrationDone .. | .eventRecord | .waferDrained | .historyProgram | .atticProgram
  | .poisonReport .. | .historySelect .. | .historyWindowRead | .coreRotationStart | .steepDue ..
  | .steepStart .. | .steepWithdraw .. | .secretClearDone .. | .sliceCompare .. | .sliceAbort ..
  | .coreOverdue .. | .forcedSteepBoundary .. | .phyLoopback .. | .channelMarch .. | .marchDone ..
  | .laneLoopbackEnd .. | .analogueCheck .. | .analogueRecheck .. | .gristVerify | .gristStoreCopy ..
  | .gristStoreRewrite .. | .commandExpire .. | .hangReport .. | .stallWatchdog .. | .drainComplete ..
  | .drainBound .. | .killDone .. | .coreResetEscalate .. | .clusterResetDone .. | .engineResetEscalate ..
  | .memoryRetrainDone .. | .regionReady .. | .neighbourResetComplete .. | .partitionResetEscalate ..
  | .chipResetWatchdog | .powerCycleRequest .. | .replayStartTimeout .. | .pgLossRecognised ..
  | .overcurrentRecognised .. | .clampApply .. | .clampRelease .. | .lostRegionReturn .. | .refclkLoss ..
  | .refclkRestore .. | .retiredBlockDiscard .. | .throttleAck .. | .throttleAckTimeout .. | .cutStart
  | .cutGo | .globalStop | .globalResume | .stopMaxTimeout | .channelMarker .. | .channelRecordTimeout ..
  | .edgeMarkerTimeout .. | .cutReport .. | .cutReportTimeout .. | .cutDone .. | .coreStopped ..
  | .stopCoreTimeout .. | .attributionBinWrite .. | .counterConfigWrite .. | .traceWrite ..
  | .traceRestart .. | .traceMark .. | .loftWindowRead | .atticEraseDone | .atticWindowRead | .optimeAdvance
  | .drwSeedSet .. | .seedSetAnswer .. | .drawRequest .. | .drawCalc .. | .weightSetReport ..
  | .provenanceStep | .provenanceEnable .. | .pairStepTimeout .. | .pairUnmatchedTimeout ..
  | .sensorReading .. | .ladderDeepen .. | .ladderRelease .. | .powerEstimate .. | .limitTrip ..
  | .clockRatioPersist .. | .shutterReturn .. | .limitTighten .. | .emergencyEnd | .powerOn | .xspiBusTimeout
  | .bootLoadDone .. | .bundleVerify .. | .activationResume | .trialClear | .hello | .ctxOpen | .ctxTeardown
  | .seedSet | .ctxResume | .inputDeclare | .inputData | .mark | .replayRun | .replayDeliver | .replayStarted
  | .replayDone | .replayDecline | .resetReq | .postureSet | .twkPropose | .twkEndorse | .endorsementVerify
  | .proposalExpire .. | .debugLock | .debugUnlockExpire | .dlChunk | .fwActivate | .procRestart
  | .hostHeartbeat .. | .hostAbsent | .pcieLinkDown .. | .completionWrite | .ringHeadWrite ..
  | .msiHoldoffEnd .. | .entdaa .. | .mctpMessage .. | .reportCollect | .reportSummary | .statusReport
  | .tapReset | .nop .. | .ident .. | .windowRead .. | .windowWrite .. | .memoryRead .. | .memoryWrite ..
  | .processorHalt .. | .processorRun .. | .processorStep .. | .setBreakpoint .. | .setWatchpoint ..
  | .processorStatus .. | .moldomStop .. | .moldomResume .. | .pipelineHalt .. | .pipelineRelease ..
  | .scanEnable .. | .ownerClaim .. | .tapWindowSelect .. | .pageUnreached .. | .loHiLatchRead ..
  | .windowPartialWrite .. | .rw2kDirectWrite .. | .registerWrite .. => true

end Sys2Proof
end

