-- ==== Sys2Proof/Claims.lean ====
section
/-! DEFINITION. The words the statements are made of. -/
namespace Sys2Proof.Claims
open Sys2Proof Sys2Proof.Machine

/-- The command completes, and of its next state `Q` holds. -/
def runs (c : Instr) (s : State) (Q : State → Prop) : Prop := ∃ t, exec c s = .next t ∧ Q t
/-- The event that a unit raises now (R26). -/
def event (s : State) (code p : Nat) (p5 p6 p7 : Nat := 0) : Ev :=
  ⟨code, p, p5 % 2 ^ 32, p6 % 2 ^ 32, p7 % 2 ^ 32, s.timeIn (regionOfPuid p), none, false, true, false⟩
/-- The event has gone on its way behind every earlier one. -/
abbrev raised (s t : State) (code p : Nat) (p5 p6 p7 : Nat := 0) : Prop :=
  t.transit = s.transit ++ [event s code p p5 p6 p7]
/-- A write to a page takes effect: the page is implemented and neither absent, off, shuttered nor lost, and its unit's clock
has not stopped (R591, R594). -/
def writable (s : State) (p : Nat) : Bool :=
  pageClass p != 0 && !([0, 1, 5, 6].contains (s.pageState p)) &&
    !(match s.pageUnit p with | some u => s.pageStale (pageClass p) u | none => false)
/-- The oldest message of a type that has been taken from its slot and waits for the processors (R547). -/
abbrev first (s : State) (type : Nat) (m : Msg) : Prop := s.mbx.inbox.find? (fun x => x.type == type) = some m
/-- The state once that message is in hand. -/
abbrev inHand (s : State) (m : Msg) : State := { s with mbx := { s.mbx with inbox := s.mbx.inbox.erase m } }
/-- An answer to this message goes to the completion ring at once: the host is present, the ring has room, and the message came
from a slot and asks for an answer. -/
abbrev hears (s : State) (m : Msg) : Prop := s.absent = false ∧ s.ringRoom = true ∧ m.slot ≠ 0xFE ∧ m.flags % 2 = 0
/-- The answer to the message with this status waits for the ring (R552). -/
abbrev told (t : State) (m : Msg) (status : Nat) : Prop :=
  ∃ c ∈ t.mbx.out, c.ctype = 1 ∧ c.status = status ∧ c.mseq = m.seq ∧ c.slot = m.slot ∧ c.ctx = m.ctx
/-- The debug port takes a command that asks for the unlock: none is running and the unlock stands (R575, R578). -/
abbrev unlocked (s : State) : Prop := s.dbg.busy = false ∧ s.dbg.until_.isNone = false
/-- The response that the debug port holds (R574). -/
abbrev responds (t : State) (opc : Nat) (m : Moldom) (status data : Nat) : Prop :=
  t.dbg.resp = (opc, m.tag.toNat, status, m.addr.toNat, data % 2 ^ 32)
/-- One byte of memory as it reads; a byte that nothing has written reads 0 (assumption 5). -/
def byteAt (s : State) (a : Nat) : Byte := Tab.get (fun _ => 0#8) s.mem a
/-- Every register field outside the named ones, by unit, field and index, reads as before. -/
def regsBut (s t : State) (keys : List Nat) : Prop := ∀ a, a ∉ keys → Tab.find a t.regs = Tab.find a s.regs
end Sys2Proof.Claims
end

