-- ==== Sys2Proof/Certificates/Slice0/Obligations.lean ====
section
/-! DEFINITION. The statements for the provers: what the commands do, what they leave alone, and what every step keeps. -/
open Sys2Proof Sys2Proof.Machine Sys2Proof.Claims

/-- A Stair packet's check result goes back to its sender and a failing packet is discarded (R30, R35, R36, R113, R394, R396).
Nothing crosses a clamped edge, and an input buffer that holds two packets of the class takes no third; any other packet that arrives on a hop is answered with its check result (a Brewhouse that hears a higher reign in one that passes then steps down), and one that fails is discarded: it only leaves the sender's wires; one handed in by a local unit that fails has no effect at all. -/
def Obligations.StairPacketCheck : Prop :=
  ∀ (f : FieldId) (h : Hop) (v : Bool) (head : BitVec 64) (payload : List (BitVec 64)) (crc resid : BitVec 16) (s : State),
    let p : Packet := ⟨head, payload⟩
    let full := decide (p.cls < 6 ∧ 2 ≤ (s.router f.val).inPort (hopNo h) p.cls)
    ((s.hopClamped f.val h || full) = true → runs (.stairPacketReceive f (some h) v head payload crc resid) s (fun t => t = s)) ∧
    ((s.hopClamped f.val h || full) = false → packetOk v head payload crc = true →
      runs (.stairPacketReceive f (some h) v head payload crc resid) s (fun t => ∃ u : State, Out.hopCheck f.val h true ∈ u.sent ∧
        (t = u ∨ t = (s.reignsHeard u).hostGo))) ∧
    (packetOk v head payload crc = false →
      ((s.hopClamped f.val h || full) = false →
        runs (.stairPacketReceive f (some h) v head payload crc resid) s (fun t =>
          Out.hopCheck f.val h false ∈ t.sent ∧ t = ((s.lineDone f.val h p).emit (.hopCheck f.val h false)).pump)) ∧
      runs (.stairPacketReceive f none v head payload crc resid) s (fun t => t = s))

/-- A checked packet frees its copy; a failing one is sent again, at most three times; then the hop is dead (R37, R38, R113).
On a hop that no clamp closes a good result frees the copy of the packet that was carried first, and the others keep their order; a failing result sends that packet again and counts the retry while fewer than three resends of it were made; after three, or when a transfer goes unacknowledged for 1 µs, a live hop is dead: its copies wait at the router for the tables, ahead of every later packet, and 0xC001 is raised with the hop's number, the cause and the resends of the packet concerned. Behind a clamp no result is heard. -/
def Obligations.HopRetry : Prop :=
  ∀ (f : FieldId) (h : Hop) (s : State),
    let x := s.hop (hkey f.val h)
    let dies (t : State) (cause fails : Nat) : Prop :=
      (t.hop (hkey f.val h)).dead = true ∧ (t.hop (hkey f.val h)).copies = [] ∧
      raised s t 0xC001 (puRtr f.val) (hopNo h) cause fails ∧
      ((x.copies.filter (fun c => !c.pkt.marker)).map (fun c => (c.pkt, [hopNo h]))) <+: ((t.router f.val).inq.map (fun e => (e.pkt, e.legs)))
    (s.hopClamped f.val h = true → ∀ ok : Bool, runs (.hopCheckResult f h ok) s (fun t => t = s)) ∧
    (s.hopClamped f.val h = false → ∀ c rest, x.copies = c :: rest →
      runs (.hopCheckResult f h true) s (fun t =>
        (rest.map (·.pkt)).Sublist ((t.hop (hkey f.val h)).copies.map (·.pkt))) ∧
      (c.fails < 3 →
        runs (.hopCheckResult f h false) s (fun t =>
          t.sent = .hop f.val h c.pkt.head c.pkt.payload :: s.sent ∧
          (∃ d ∈ (t.hop (hkey f.val h)).copies, d.pkt = c.pkt ∧ d.fails = c.fails + 1) ∧
          (rest.map (·.pkt)).Sublist ((t.hop (hkey f.val h)).copies.map (·.pkt)) ∧
          t.cnt (uRTR f.val) STR_RETRY_COUNT (hopNo h) =
            satAdd (fldTop STR_RETRY_COUNT) (s.cnt (uRTR f.val) STR_RETRY_COUNT (hopNo h)) 1)) ∧
      (3 ≤ c.fails → x.dead = false → runs (.hopCheckResult f h false) s (fun t => dies t 0 c.fails))) ∧
    (x.dead = false → runs (.hopAckTimeout f h) s (fun t => dies t 1 ((x.onWires.map (·.fails)).getD 0)))

/-- Detour tables go to every router and take effect there (R38, R39, R40, R424).
The tables are made from the live-hop map and are due at every router, and 0xC002 is raised with the number of dead hops, the routers written and the microseconds taken; a router that receives its tables routes by them and is no longer waited for; one that waits for none is unchanged. -/
def Obligations.DetourTables : Prop :=
  ∀ (s : State),
    (∀ us : Nat, runs (.detourTablesWrite us) s (fun t =>
      t.tablesDue = List.range Config.host.fields ∧ t.tree = some s.makeTables ∧
      raised s t 0xC002 s.puActive s.deadHops.length Config.host.fields us)) ∧
    (∀ f : FieldId,
      (s.tablesDue.contains f.val = true →
        runs (.detourTableArrive f) s (fun t =>
          t.tablesDue = s.tablesDue.erase f.val ∧ (t.router f.val).table = s.tree ∧ t.transit = s.transit)) ∧
      (s.tablesDue.contains f.val = false → runs (.detourTableArrive f) s (fun t => t = s)))

/-- Matched delays follow the band; beats, echoes and a beat that is missed (R44, R45, R51, R52, R53, R55, R56, R63, R113, R119, R359, R417).
A datapath whose sensor's band needs a longer or a shorter matched delay takes it now; a beat is a class 0 broadcast of the wall time with a path delay of zero, to which the Brewhouse's own router adds the beat's time in it (a free value, assumption 191), while the active Brewhouse runs and has its REFCLK (assumption 84: its TYPE and the order of its flits are the model's); an echo sets the hop's delay, but not over a clamp; a unit that hears a beat notes its time and reign and is corrected by one tick at most, not at all without REFCLK; one that hears none for 3 ms raises 0x9030 once an epoch with the milliseconds since the last. -/
def Obligations.TimeBeats : Prop :=
  ∀ (s : State),
    (∀ u : Datapath,
      ((s.delay (datapathUnit u)).md < mdOf (s.sensorBand (datapathSensor u)) →
        runs (.matchedDelayLengthen u) s (fun t => t.delay (datapathUnit u) = ⟨mdOf (s.sensorBand (datapathSensor u)), s.now⟩)) ∧
      (mdOf (s.sensorBand (datapathSensor u)) < (s.delay (datapathUnit u)).md →
        runs (.matchedDelayShorten u) s (fun t => t.delay (datapathUnit u) = ⟨mdOf (s.sensorBand (datapathSensor u)), s.now⟩))) ∧
    (s.bhAlive s.active = true → (Tab.find (bhRegion s.active) s.refLost).isSome = false →
      runs .timeBeatEmit s (fun t => t.isSet uTMB TMB_STAT_BEAT_ON = true ∧ ∃ s' : State,
        s'.sent = s.sent ∧ s'.routers = s.routers ∧ s'.hops = s.hops ∧ s'.fresh = s.fresh + 1 ∧
        t = s'.routePacket (Config.host.brewField s.active) (addDelay
          ⟨mkHead 0 2 0 0 (Config.host.brewField s.active) 18 2 (s.brew s.active).reign (Config.imageVal 0x51 0),
            [BitVec.ofNat 64 (s.brewTime s.active), 0]⟩ (Config.openVal s.fresh)))) ∧
    ((s.bhAlive s.active = false ∨ (Tab.find (bhRegion s.active) s.refLost).isSome = true) → runs .timeBeatEmit s (fun t => t = s)) ∧
    (∀ (f : FieldId) (h : Hop) (d : BitVec 16),
      (s.hopClamped f.val h = false → runs (.hopDelayEcho f h d) s (fun t => (t.hop (hkey f.val h)).delay = d.toNat)) ∧
      (s.hopClamped f.val h = true → runs (.hopDelayEcho f h d) s (fun t => t = s))) ∧
    (∀ (u : Node) (beat : BitVec 64) (d : BitVec 16) (reign : BitVec 7) (cyc : Nat),
      runs (.beatReceive u beat d reign cyc) s (fun t =>
        (t.clock (nodeUnit u)).lastBeat = s.now ∧
        (t.clock (nodeUnit u)).reign = max (s.clock (nodeUnit u)).reign reign.toNat ∧
        (t.clock (nodeUnit u)).fix =
          (if (Tab.find (nodeRegion u) s.refLost).isSome then 0 else s.beatSkew u beat.toNat d.toNat))) ∧
    (∀ u : Node, s.marks.contains (puNode u, 0x9030, 0) = false →
      runs (.beatLossTimeout u) s (fun t =>
        raised s t 0x9030 (puNode u) ((s.now - (s.clock (nodeUnit u)).lastBeat) / 1000000)))

/-- Heartbeats, polls and FAILSAFE_N of the Brewhouse pair (R60, R61, R64, R65, R66, R68, R69, R72, R515).
A heartbeat heard on a path is noted with its time and ends a poll, and one of a higher reign makes its hearer follow that reign; a path that has not answered since the last heartbeat is counted, but not before the first; a poll's answer without contact counts once toward the majority; a poll's bound ends it; silence with the other region's power good starts a poll of every Hall; host accesses held during a poll are done once it has ended; a Hall without contact closes its gate cells and says so; the active Brewhouse past stage 11 refreshes FAILSAFE_N, and an unrefreshed hold lapses. -/
def Obligations.PairContact : Prop :=
  ∀ (s : State),
    (∀ (b' : Bh) (p : HbPath), s.bhAlive b' = true →
      runs (.heartbeatReceive b' p) s (fun t => ∃ u : State, t = u.hostGo ∧
        (u.brew b').lastHb = s.now ∧ (u.brew b').poll = none ∧
        ((s.brew (otherBh b')).reign ≤ (s.brew b').reign →
          (u.brew b').got = (s.brew b').got.map (·.set (pathNo p) true) ∧ (u.brew b').reign = (s.brew b').reign) ∧
        ((s.brew b').reign < (s.brew (otherBh b')).reign → (u.brew b').got = none ∧ (u.brew b').reign = (s.brew (otherBh b')).reign))) ∧
    (∀ b' : Bh, s.bhAlive b' = true → runs (.heartbeatSend b') s (fun t =>
      (t.brew b').got = some [false, false, false] ∧ Out.ask 0x60 (puBrw b') (puBrw (otherBh b')) (s.brew b').reign ∈ t.sent ∧
      ((s.brew b').got = none → t.ecnt = s.ecnt ∧ t.rcnt = s.rcnt ∧ t.regs = s.regs))) ∧
    (s.bhAlive s.standby = true → (s.brew s.standby).mirrored = true →
      (s.hall (bhRegion s.active)).pg = true → s.regionLost (bhRegion s.active) = false →
      runs .heartbeatSilence s (fun t => (t.brew s.standby).poll = some [] ∧
        t.sent = ((List.range Config.host.regions).map (fun r => Out.ask 0x61 (puBrw s.standby) (puHal r) 0)).reverse ++ s.sent)) ∧
    (∀ (r : RegionId) (l : List Nat), (s.brew s.standby).poll = some l → l.contains r.val = false → l.length + 1 < majority →
      runs (.hallPollAnswer r true) s (fun t => (t.brew s.standby).poll = some (l ++ [r.val]))) ∧
    runs .hallPollTimeout s (fun t => t = (s.updBrew s.standby (fun w => { w with poll := none })).hostGo) ∧
    (∀ r : RegionId, runs (.brewhouseContactLoss r) s (fun t => (t.hall r.val).noContact = true)) ∧
    (s.bhAlive s.active = true → 11 ≤ s.rd uBRW BRW_BOOT_STAGE → s.isSet uBRW BRW_BOOT_STOPPED = false →
      runs .failsafeRefresh s (fun t => t.pair.refreshed = s.now ∧ t.pair.failsafe = false)) ∧
    runs .failsafeLapse s (fun t => t = { s with pair := { s.pair with failsafe := true } })

/-- Mirrors, a higher reign and a standby that falls silent (R57, R58, R59, R63, R66, R68).
A Hall whose log of 256 actions is full asks for a mirror and one is sent at once while the standby lives, under the cut epoch then reached; an acknowledged mirror is held by the standby, clears UNMIRRORED, takes over the cut epoch that it carried and leaves only unanswered requests in the Halls' logs; a Brewhouse that hears a higher reign leaves the role to the other, one that hears a lower or equal one only notes it; a silent standby sets UNMIRRORED and raises 0x8041, where it had answered until then. -/
def Obligations.PairMirror : Prop :=
  ∀ (s : State),
    (∀ r : RegionId, 256 ≤ (s.hall r.val).log.length →
      runs (.mirrorRequest r) s (fun t => t.pair.mirrorAsked.contains r.val = true ∧
        (s.bhAlive s.standby = true → t.pair.mirrorSent = some (s.rd uBRW BRW_CUT_EPOCH_DONE)))) ∧
    (∀ e : Nat, s.pair.mirrorSent = some e → s.twk.committing = [] →
      runs .mirrorAck s (fun t => t.isSet uBRW BRW_ROLE_UNMIRRORED = false ∧ t.pair.mirrorSent = none ∧
        (t.brew s.standby).mirrored = true ∧ t.pair.mirror.map (·.epoch) = some e ∧
        (∀ r : RegionId, ∀ x ∈ (t.hall r.val).log, x.request = true) ∧
        t.rd uBRW BRW_MIRROR_EPOCH_EPOCH = e % 2 ^ 32)) ∧
    (∀ (b' : Bh) (reign : BitVec 7),
      ((s.brew b').reign < reign.toNat → s.active = b' →
        runs (.reignStepDown b' reign) s (fun t => ∃ u : State, t = u.hostGo ∧ u.active = otherBh b' ∧
          (u.brew b').reign = reign.toNat ∧ u.rd uBRW BRW_ROLE_REIGN = reign.toNat)) ∧
      (reign.toNat ≤ (s.brew b').reign →
        runs (.reignStepDown b' reign) s (fun t =>
          t = (s.updBrew b' (fun x => { x with seen := max x.seen reign.toNat })).hostGo))) ∧
    (s.isSet uBRW BRW_ROLE_UNMIRRORED = false ∨ s.isSet uBRW BRW_ROLE_STANDBY_OK = true → s.twk.committing = [] →
      runs .standbySilence s (fun t => t.isSet uBRW BRW_ROLE_UNMIRRORED = true ∧ t.isSet uBRW BRW_ROLE_STANDBY_OK = false ∧
        raised s t 0x8041 s.puActive))

/-- A Tap's time, the products of an issue cycle and accumulations that close (R164, R166, R168, R178, R183, R188, R602).
A drain slot lets the Tap's queue run on through its cycle, in a global stop too. What a port shows earlier than the slowest port does waits for it; of the slowest port (assumption 197: the order of the ports within a cycle is the model's) an issue cycle of no invocation does nothing more; an element format that no product may have raises 0x2011 with its code, and more products than a quarter of the lanes under a limit raise 0x2012 with the count and the quarter; an accumulation that nothing opened and whose residue is not zero is shown as a mismatch of kind 1, and an open one closes with its value, which the closure counts where the unit is covered. -/
def Obligations.TapChecks : Prop :=
  ∀ (k : ClusterId) (p : CoreId) (cyc : Nat) (s : State),
    let q := ckey k.val p.val
    runs (.residueUnitDrained k p cyc) s (fun t => t = s.tapTo k.val p.val cyc 4) ∧
    (∀ iss : IssueCycle,
      let s' := s.tapTo k.val p.val cyc 0
      let fa := iss.fmtA.toNat
      let fx := iss.fmtX.toNat
      (s.latency 0 ≠ s.tapLag → runs (.productIssue k p cyc iss) s (fun t =>
        t = s'.updTap q (fun x => { x with held := insertHeld (cyc - s.latency 0, .product iss) x.held }))) ∧
      (s.latency 0 = s.tapLag →
        (invAt (s'.tap q) (cyc - s.latency 0) = none → runs (.productIssue k p cyc iss) s (fun t => t = s')) ∧
        (∀ v, invAt (s'.tap q) (cyc - s.latency 0) = some v → s'.tapChecks k.val p.val = true →
          (iss.lanes ≠ [] → (numFmt fa = none ∨ numFmt fx = none) → s'.marks.contains (puTap k.val p.val, 0x2011, 0) = false →
            runs (.productIssue k p cyc iss) s (fun t =>
              event s 0x2011 (puTap k.val p.val) v.cmd 1 (if (numFmt fa).isNone then fa else fx) ∈ t.transit)) ∧
          (v.limited = true → min (fmtLanes fa) (fmtLanes fx) / 4 < iss.lanes.length →
            s'.marks.contains (puTap k.val p.val, 0x2012, 0) = false →
            runs (.productIssue k p cyc iss) s (fun t =>
              event s 0x2012 (puTap k.val p.val) v.cmd iss.lanes.length (min (fmtLanes fa) (fmtLanes fx) / 4) ∈ t.transit))))) ∧
    (∀ (idx : Fin 64) (acc : BitVec 96) (e : BitVec 10),
      let s' := s.tapTo k.val p.val cyc 1
      (s.latency 1 ≠ s.tapLag → runs (.accumulationClose k p cyc idx acc e) s (fun t =>
        t = s'.updTap q (fun x => { x with held := insertHeld (cyc - s.latency 1, .close idx.val acc.toInt e.toInt) x.held }))) ∧
      (∀ v : Inv, s.latency 1 = s.tapLag → invAt (s'.tap q) (cyc - s.latency 1) = some v → s'.tapChecks k.val p.val = true →
        (v.accs.find? (fun a => a.idx == idx.val && a.closed.isNone) = none → resRot (rho ⟨acc.toInt, 0⟩) e.toInt ≠ 0 →
          runs (.accumulationClose k p cyc idx acc e) s (fun t =>
            t.rd (uTAP k.val p.val) TAP_RES_LAST_RKIND = 1 ∧
            t.rd (uTAP k.val p.val) TAP_RES_LAST_OBS = resRot (rho ⟨acc.toInt, 0⟩) e.toInt % 2 ^ 13)) ∧
        (∀ a, v.accs.find? (fun a => a.idx == idx.val && a.closed.isNone) = some a →
          let x := e.toInt + a.sa + a.sx - 254
          runs (.accumulationClose k p cyc idx acc e) s (fun t =>
            t = (((s'.updAcc k.val p.val v.start idx.val (fun a => { a with closed := some (acc.toInt, e.toInt) })).updInv k.val p.val v.start
              (fun v => { v with leafSum := (v.leafSum + if a.covered then resRot (rho ⟨acc.toInt, 0⟩) x else 0) % resMod })).tapLatch
                k.val p.val v.cmd (.exact ⟨acc.toInt, x⟩)).tapSettle k.val p.val))))

/-- A command starts and ends on a core (R86, R87, R95, R169, R174, R180, R183, R184, R188, R205, R211, R227).
A command that starts is the core's command from the cycle its message crossed, with no residue of the last one's outcome; one that ends leaves the core none; when a PRIV issue limit expires unstarted its oldest wait is dropped, and with it the drive of that command. -/
def Obligations.TapCommands : Prop :=
  ∀ (k : ClusterId) (p : CoreId) (s : State),
    (∀ (cyc : Nat) (id : CmdId) (rd wr : Nat),
      runs (.commandStart k p cyc id rd wr) s (fun t =>
        (t.core (ckey k.val p.val)).cmd = some id.toNat ∧ (t.core (ckey k.val p.val)).startCyc = cyc - s.latency 3 ∧
        (t.core (ckey k.val p.val)).expired = false ∧ (t.core (ckey k.val p.val)).cleared = false)) ∧
    (∀ (cyc rd wr : Nat), runs (.commandEnd k p cyc rd wr) s (fun t => (t.core (ckey k.val p.val)).cmd = none)) ∧
    runs (.issueLimitExpire k p) s (fun t =>
      (t.tap (ckey k.val p.val)).waiting = (s.tap (ckey k.val p.val)).waiting.drop 1 ∧
      (∀ w, (s.tap (ckey k.val p.val)).waiting.head? = some w → (t.tap (ckey k.val p.val)).driven.contains w.1 = false))

/-- Alarms, summaries, usage reports and discard ports (R167, R175, R176, R185, R187, R190, R191, R192, R231, R236, R265, R408, R410).
The oldest alarm, summary or usage report of a Tap leaves its list when the Taster takes it, an alarm raising 0x2000 plus its kind; a summary waits while an alarm of its command does; a Taster that is held takes none; a discard that is shown earlier than the slowest port shows its cycle waits for it, and one of the reserved kind 3 is counted as skipped and raises 0x2011 with reason 2; an atomic discard without a finite result is counted as skipped, one of a format outside the port raises 0x2011 with reason 1. -/
def Obligations.TapReports : Prop :=
  ∀ (k : ClusterId) (p : CoreId) (s : State),
    (s.checkHeld k.val 0 = false →
      (∀ a as, (s.tap (ckey k.val p.val)).alarms = a :: as → s.marks.contains (puTap k.val p.val, 0x2000 + a.rkind, 0) = false →
        runs (.residueAlarm k p) s (fun t => (t.tap (ckey k.val p.val)).alarms = as ∧
          ∃ e ∈ t.transit, e.code = 0x2000 + a.rkind ∧ e.puid = puTap k.val p.val)) ∧
      (∀ y ys, (s.tap (ckey k.val p.val)).summaries = y :: ys →
        ((s.tap (ckey k.val p.val)).alarms.any (fun a => a.cmd == y.cmd) = false →
          runs (.residueSummary k p) s (fun t => (t.tap (ckey k.val p.val)).summaries = ys)) ∧
        ((s.tap (ckey k.val p.val)).alarms.any (fun a => a.cmd == y.cmd) = true →
          runs (.residueSummary k p) s (fun t => (t.tap (ckey k.val p.val)).summaries = y :: ys))) ∧
      (∀ y ys, (s.tap (ckey k.val p.val)).usages = y :: ys →
        runs (.usageReport k p) s (fun t => (t.tap (ckey k.val p.val)).usages = ys ∧
          (t.thmOf (regionOfCluster k.val)).prod = (s.thmOf (regionOfCluster k.val)).prod + y.products))) ∧
    (s.checkHeld k.val 0 = true →
      runs (.residueAlarm k p) s (fun t => t = s) ∧ runs (.residueSummary k p) s (fun t => t = s) ∧
      runs (.usageReport k p) s (fun t => t = s)) ∧
    (∀ (cyc : Nat) (port : Fin 6) (pres : DscPres) (v : Inv),
      let s' := s.tapTo k.val p.val cyc 2
      s.latency 2 = s.tapLag →
      invAt (s'.tap (ckey k.val p.val)) (cyc - s.latency 2) = some v → s'.tapChecks k.val p.val = true → pres.kind.toNat = 3 →
      runs (.discardPresentation k p cyc port pres) s (fun t =>
        t.cnt (uTAP k.val p.val) TAP_RES_SKIPPED_COUNT = satAdd (2 ^ 32 - 1) (s'.cnt (uTAP k.val p.val) TAP_RES_SKIPPED_COUNT) 1 ∧
        (s'.marks.contains (puTap k.val p.val, 0x2011, 0) = false → event s 0x2011 (puTap k.val p.val) v.cmd 2 port.val ∈ t.transit))) ∧
    (∀ (cyc : Nat) (port : Fin 6) (pres : DscPres), s.latency 2 ≠ s.tapLag →
      runs (.discardPresentation k p cyc port pres) s (fun t => t = (s.tapTo k.val p.val cyc 2).updTap (ckey k.val p.val) (fun x =>
        { x with held := insertHeld (cyc - s.latency 2, .present port.val pres) x.held }))) ∧
    (∀ (port : Fin 8) (pres : DscPres) (h : Nat), s.checker k.val = some h →
      (pres.nf = true → runs (.atomicDiscardPresentation k port pres) s (fun t =>
        t.cnt (uTST h) TST_ATM_SKIPPED_COUNT = satAdd (2 ^ 32 - 1) (s.cnt (uTST h) TST_ATM_SKIPPED_COUNT) 1)) ∧
      (pres.nf = false → [1, 2, 3].contains pres.sfmt.toNat = false → s.marks.contains (puTst h, 0x2011, 0) = false →
        runs (.atomicDiscardPresentation k port pres) s (fun t =>
          event s 0x2011 (puTst h) (pres.tag.toNat % 1024) 1 pres.sfmt.toNat ∈ t.transit)))

/-- Commands, seeds, replica reads and comparisons at a Taster (R27, R94, R179, R193, R203, R205, R206, R220, R222, R224, R448, R449, R450).
On a cluster that a Taster checks a command whose context's seed is neither cached nor asked for asks the Hall for it; on one that none checks a context with no command there yet is refused; a seed load of a context under a SET is held back and any other that was asked for is served; a line of a read that ends in an error drops its unit with 0x3013 and the error; a stale Y read drops its unit; a unit whose value or format differs from the host's raises 0x3001; a stage that Moldom or a stop holds does nothing. -/
def Obligations.ReplicaUnits : Prop :=
  ∀ (k : ClusterId) (s : State),
    (∀ (x : BitVec 128) (opr : Option (BitVec 384)),
      let c := (s.descIn k.val x.toNat (opr.map (·.toNat))).ctx
      ((s.checker k.val).isSome = true →
        (s.rplOf k.val).seeds.find? (fun e => e.1 == c) = none → (s.rplOf k.val).seedAsked.contains c = false →
        runs (.descriptorArrive k x opr) s (fun t => Out.ask 0x450 (puTst k.val) (puHal (regionOfCluster k.val)) c ∈ t.sent)) ∧
      ((s.checker k.val).isNone = true → bits x.toNat 11 0 ≠ 0 → (s.liveCtxs k.val).contains (bits x.toNat 11 0) = false →
        runs (.descriptorArrive k x opr) s (fun t =>
          t = s.emit (.ask 0x27 (puHal (regionOfCluster k.val)) (puTst k.val) (bits x.toNat 11 0))))) ∧
    (∀ ctx : Ctx,
      (s.prv.setting.any (fun x => x.ctx == ctx.toNat) = true →
        runs (.seedLoadDone k ctx) s (fun t => t.prv.heldLoads.contains (k.val, ctx.toNat) = true ∧ t.rpl = s.rpl)) ∧
      (s.prv.setting.any (fun x => x.ctx == ctx.toNat) = false → (s.rplOf k.val).seedAsked.contains ctx.toNat = true →
        runs (.seedLoadDone k ctx) s (fun t => t.prv.served.contains (regionOfCluster k.val, ctx.toNat) = true))) ∧
    (∀ (tag : BitVec 6) (data : BitVec 512) (last : Bool) (err : BitVec 2) (h : Nat) (u : RplUnit),
      s.stageHeld k.val 1 = false → s.checker k.val = some h →
      (s.rplOf k.val).units.find? (fun u => match u.req with | some r => r.1 == tag.toNat | none => false) = some u →
      last = true → (err = 1 ∨ err = 2) → s.marks.contains (puTst h, 0x3013, 0) = false →
      runs (.replicaReadLine k tag data last err) s (fun t =>
        event s 0x3013 (puTst h) u.cmd err.toNat ((u.req.map (·.2)).getD 0) ∈ t.transit)) ∧
    (∀ (tag : BitVec 6) (data : BitVec 512) (last : Bool) (err : BitVec 2), s.stageHeld k.val 1 = true →
      runs (.replicaReadLine k tag data last err) s (fun t => t = s)) ∧
    (∀ (id : CmdId) (pos h : Nat), s.checker k.val = some h →
      (∀ u : RplUnit, (s.rplOf k.val).units.find? (fun u => s.unitIs id.toNat pos u && decide (u.stage = 0)) = some u →
        ((s.rcmd u.home id.toNat).map (·.ended)).getD false = true →
        runs (.replicaReadStale k id pos) s (fun t => t = (s.dropUnit k.val h u 7 0).rplRegion (regionOfCluster k.val))) ∧
      (∀ (j : Nat) (u : RplUnit) (upset : Option CaseVal) (d : Desc) (c : RplCmd) (job : Job) (r : Done) (y : El) (host : CaseVal),
        s.comparable k.val id.toNat pos = some (j, u) →
        s.stageHeld k.val 2 = false → s.stageHeld k.val 3 = false → s.stageHeld k.val 4 = false →
        s.descOf u.home u.cmd = some d → s.rcmd u.home u.cmd = some c → s.unitJob u = some job → d.mayvary = false →
        s.unitEval u = .ok (r, y, host) → (CaseVal.same (upset.getD r.val) host = false ∨ job.outFmt ≠ y.fmt) →
        s.marks.contains (puTst h, 0x3001, 0) = false →
        runs (.replicaCompare k id pos upset) s (fun t => ∃ e ∈ t.transit, e.code = 0x3001 ∧ e.puid = puTst h)))

/-- Descriptor loads, broadcasts, partial selections and outcomes (R211, R226, R227, R375, R603).
A LOAD of index 0 ends with STATUS 5, one with BCAST set is busy with STATUS 1 until every trusted Taster has answered; the last answer of a broadcast load ends it with its status; an INVAL with BCAST empties the active Brewhouse's copy; a rank's partial selection of its slice joins what the lead holds of the row; an outcome is one item on the Taster's channel to its Hall. -/
def Obligations.DescriptorStore : Prop :=
  ∀ (k : ClusterId) (s : State),
    (writable s (uTST k.val) = true → s.takingOver = false → s.descStatus k.val ≠ 1 →
      (s.isSet (uTST k.val) TST_DESC_SEL_BCAST = false → s.rd (uTST k.val) TST_DESC_SEL_INDEX = 0 →
        runs (.descriptorLoad k) s (fun t => t.rd (uTST k.val) TST_DESC_CTRL_STATUS = 5)) ∧
      (s.isSet (uTST k.val) TST_DESC_SEL_BCAST = true →
        runs (.descriptorLoad k) s (fun t => t.rd (uTST k.val) TST_DESC_CTRL_STATUS = 1 ∧ (t.rplOf k.val).bcast.isSome = true) ∧
        runs (.descriptorInvalidate k) s (fun t =>
          t.descBytes (256 * s.rd (uTST k.val) TST_DESC_SEL_KIND + s.rd (uTST k.val) TST_DESC_SEL_INDEX) = []))) ∧
    (∀ (j : ClusterId) (b' : Broadcast), (s.rplOf k.val).bcast = some b' → b'.left.contains j.val = true →
      b'.left.filter (· != j.val) = [] → b'.inval = false → b'.refusal = none →
      runs (.descriptorBroadcastAnswer k j) s (fun t => (t.rplOf k.val).bcast = none ∧
        t.rd (uTST k.val) TST_DESC_CTRL_STATUS = (s.loadAt j.val b'.kind b'.index b'.len b'.bytes).2 % 8)) ∧
    (∀ (j : ClusterId) (ctx : Ctx) (step : Step) (upset : Option CaseVal) (x : StepCheck) (u : RplUnit) (c : RplCmd) (lo hi : Nat)
        (v : Done) (hv : El × CaseVal) (l : List (Word × Word)),
      s.stepOf (regionOfCluster k.val) ctx.toNat step.toNat = some x → x.lead = k.val → regionOfCluster j.val = regionOfCluster k.val →
      (s.rplOf j.val).units.filter (fun u => s.ofStep ctx.toNat step.toNat u && decide (u.stage = 1) && isSlice u) = [u] →
      u.role = .slice lo hi → s.unitEval u = .ok (v, hv) → upset.getD v.val = .row l → s.rcmd u.home u.cmd = some c →
      runs (.privPartialSelection k j ctx step upset) s (fun t => ∃ c', t.rcmd u.home u.cmd = some c' ∧
        (u.e, lo, hi, l.map (fun e => (e.1.toNat, e.2.toNat))) ∈ c'.parts)) ∧
    (∀ (id : CmdId) (out : PrivOutcome),
      runs (.privOutcome k id out) s (fun t => (t.chan (chTst k.val)).items = ((s.chan (chTst k.val)).items + 1) % 2 ^ 32))

/-- A gate cell holds a PRIV block until its verdict and lets every other block go (R106, R107).
At a gate cell of an open context a block that is not PRIV goes out at once, where nothing of its stream waits before it, however full the cell is; a PRIV block without a verdict is held, and waits outside where it finds no space; a pass lets the held block out, a fail discards an original and lets a re-executed one out, and the backstop withholds it under a notice. -/
def Obligations.GateCells : Prop :=
  ∀ (g : GateId) (s : State),
    (∀ (stream : BitVec 12) (step : Step) (bytes : List Byte),
      let x := s.gate g.val
      let h := Header.ofBytes bytes
      x.outside = [] → (s.ctx h.ctx).gate = 0 →
      (h.priv = false → x.held.any (fun y => y.stream == stream.toNat && !y.ready) = false →
        runs (.gateBlockArrive g stream step bytes) s (fun t =>
          Out.gate g.val stream.toNat bytes ∈ t.sent ∧ (x.held = [] → (t.gate g.val).held = []))) ∧
      (h.priv = true → s.isSet uHCH HCH_CTRL_DISABLE = false → s.gateClosed g.val = none →
        (s.ctx h.ctx).taint = none → gateMark x h.ctx step.toNat = none →
        (x.held = [] → bytes.length ≤ gateSpace →
          runs (.gateBlockArrive g stream step bytes) s (fun t =>
            t.sent = s.sent ∧ (t.gate g.val).held.map (fun b => (b.stream, b.bytes)) = [(stream.toNat, bytes)])) ∧
        (gateSpace < heldBytes x.held + bytes.length →
          runs (.gateBlockArrive g stream step bytes) s (fun t =>
            t.sent = s.sent ∧ (t.gate g.val).held = x.held ∧ (t.gate g.val).outside.map (·.bytes) = [bytes])))) ∧
    (∀ (b' : HeldBlock) (ctx : Ctx) (step : Step), (s.gate g.val).held = [b'] → (s.gate g.val).outside = [] →
      b'.priv = true → b'.ready = false → b'.notice = false → b'.ctx = ctx.toNat → b'.step = step.toNat →
      runs (.gateVerdict g ctx step .pass) s (fun t =>
        Out.gate g.val b'.stream b'.bytes ∈ t.sent ∧ (t.gate g.val).held = []) ∧
      (b'.redo = false → runs (.gateVerdict g ctx step .fail) s (fun t => t.sent = s.sent ∧ (t.gate g.val).held = [])) ∧
      (b'.redo = true → runs (.gateVerdict g ctx step .fail) s (fun t =>
        Out.gate g.val b'.stream b'.bytes ∈ t.sent ∧ (t.gate g.val).held = [])) ∧
      (s.unitStopped (uHAL (s.gateRegion g.val)) = false → gateMark (s.gate g.val) b'.ctx b'.step = none →
        runs (.gateBackstop g) s (fun t => (t.gate g.val).held = [] ∧
          ((gateMark (t.gate g.val) b'.ctx b'.step).map (·.noticed)) = some true)))

/-- Blocks, lanes and a link that trains at a Door (R122, R136, R138, R139, R144, R145, R146, R336, R384, R420, R421, R423).
A Shuttered Door takes no block; a block whose header fails its test raises 0x6004 with the test, in any context; any block of a live context that is sent goes out on its stream, one of a retired context is absorbed and counted; an incoming block that the Door judges fit to pass below stream 4,093 goes on with its mark; a lane that falls raises 0xC010, but not in loop-back, the last one 0xC013 in any case, one that returns raises 0xC012, but not one that fell for its loop-back, whose return ends it (a Door's steep that waits for it goes on with its loop). -/
def Obligations.DoorBlocks : Prop :=
  ∀ (n : DoorId) (s : State),
    let goesOn (u t : State) : Prop := t = u ∨ ∃ x, s.eng (uDOR n.val) = some x ∧ t = u.laneLoop n.val x.slice
    (∀ (stream limit : BitVec 12) (bytes : List Byte), (s.door n.val).shut = true →
      runs (.doorTransmitBlock n stream bytes) s (fun t => t = s) ∧
      runs (.doorReceiveBlock n stream limit bytes) s (fun t => t = s)) ∧
    (∀ (stream : BitVec 12) (bytes : List Byte), (s.door n.val).shut = false →
      (s.isRetired (Header.ofBytes bytes).ctx = false →
        runs (.doorTransmitBlock n stream bytes) s (fun t => ∃ out, Out.doorTx n.val stream.toNat out ∈ t.sent)) ∧
      (s.isRetired (Header.ofBytes bytes).ctx = true →
        runs (.doorTransmitBlock n stream bytes) s (fun t => t.sent = s.sent ∧
          (t.door n.val).retBlocks = (s.door n.val).retBlocks + 1 ∧ (t.door n.val).retLast = (Header.ofBytes bytes).ctx)) ∧
      (headerTest (Header.ofBytes bytes) none ≠ 0 → s.marks.contains (puDor n.val, 0x6004, stream.toNat) = false →
        runs (.doorTransmitBlock n stream bytes) s (fun t =>
          event s 0x6004 (puDor n.val) stream.toNat (headerTest (Header.ofBytes bytes) none) (Header.ofBytes bytes).len ∈ t.transit))) ∧
    (∀ (stream limit : BitVec 12) (bytes out : List Byte) (bad : Bool), (s.door n.val).shut = false → stream.toNat < 4093 →
      s.isRetired (Header.ofBytes bytes).ctx = false →
      (((s.dcount n.val dRXI bytes.length).count (uDOR n.val) DOR_CR_CONS_COUNT ((bytes.length + 15) / 16)).doorJudge n.val
        stream.toNat limit.toNat bytes).2.1 = some (out, bad) →
      runs (.doorReceiveBlock n stream limit bytes) s (fun t => Out.doorRx n.val stream.toNat out bad ∈ t.sent)) ∧
    runs (.linkTrained n) s (fun t => (t.door n.val).lanes = 15 - (s.door n.val).heldLanes % 16) ∧
    (∀ (l : LaneId) (x : Nat),
      (bit (s.door n.val).lanes l.val = true →
        runs (.laneDrop n l x) s (fun t => (t.door n.val).lanes = (s.door n.val).lanes - 2 ^ l.val ∧
          ((s.door n.val).lb.getD l.val 0 = 0 →
            event s 0xC010 (puLane n.val l.val) (s.door n.val).lanes ((s.door n.val).lanes - 2 ^ l.val) x ∈ t.transit) ∧
          ((s.door n.val).lanes = 2 ^ l.val → event s 0xC013 (puDor n.val) ∈ t.transit))) ∧
      (bit (s.door n.val).lanes l.val = false → bit (s.door n.val).heldLanes l.val = false → (s.door n.val).lb.getD l.val 0 = 0 →
        runs (.laneReturn n l x) s (fun t => ∃ u : State, goesOn u t ∧ (u.door n.val).lanes = (s.door n.val).lanes + 2 ^ l.val ∧
          raised s u 0xC012 (puLane n.val l.val) x)) ∧
      (bit (s.door n.val).lanes l.val = false → bit (s.door n.val).heldLanes l.val = false → (s.door n.val).lb.getD l.val 0 = 3 →
        runs (.laneReturn n l x) s (fun t => ∃ u : State, goesOn u t ∧
          (u.door n.val).lanes = (s.door n.val).lanes + 2 ^ l.val ∧ (u.door n.val).lb.getD l.val 0 = 0 ∧ u.transit = s.transit)))

/-- What a Cellar does with the blocks, re-reads and scrubs of a channel that is not fenced (R136, R145, R277, R279, R281, R283, R284, R285, R286, R307, R309, R311, R334, R382).
Every block read is delivered, marked bad where a read error stood in it, but a test block is not; every block written is in memory; a fenced channel takes neither; the first clean re-read of a rescan waits for the second; a scrub holds a corrected granule for its rewrite, and first writes back what an earlier read corrected, unless a host write has overtaken it; a lower band lowers the refresh multiple; a restored save area brings the poison map back and one that fails everywhere raises 0x5041; CLEAR returns a suspect channel that passed its steep; a read of the poison map answers with its word. -/
def Obligations.CellarBlocks : Prop :=
  ∀ (c : StackId) (s : State),
    (∀ (ch : ChanId) (addr : BitVec 36) (merge : BitVec 4) (bytes : List Byte) (ce ue : List (BitVec 36)),
      (s.chanFenced c.val ch.val = false →
        runs (.cellarReadBlock c ch addr merge bytes ce ue false) s (fun t =>
          ∃ out bad, t.sent.head? = some (.cellarRd c.val ch.val out bad) ∧ (ue ≠ [] → bad = true)) ∧
        runs (.cellarWriteBlock c ch addr bytes) s (fun t => t.peek (stackKey c.val ch.val addr.toNat) bytes.length = bytes)) ∧
      (s.chanFenced c.val ch.val = true →
        runs (.cellarReadBlock c ch addr merge bytes ce ue false) s (fun t => t = s) ∧
        runs (.cellarWriteBlock c ch addr bytes) s (fun t => t = s)) ∧
      runs (.cellarReadBlock c ch addr merge bytes ce ue true) s (fun t =>
        t.sent = s.sent ∧ t.transit = s.transit ∧ (s.mntLoop c.val ch.val = false → t = s))) ∧
    (s.unitStopped (uCEL c.val) = false →
      (∀ (ch : ChanId) (bytes : List Byte) (ce : List (BitVec 36)) (r : Rescan),
        (s.cel c.val).rescans.find? (fun r => r.ch == ch.val) = some r → r.passed = 0 → rxClass s.tbProfile none bytes = .pass →
        runs (.rescanDone c ch bytes ce []) s (fun t =>
          (t.cel c.val).rescans = (s.cel c.val).rescans.map (fun q => if q = r then { q with passed := 1 } else q))) ∧
      (∀ data : List Byte, s.celRuns c.val = true → data.length = 256 →
        runs (.scrubGranule c .correctable data) s (fun t => (t.cel c.val).rewrite =
          [(s.rd (uCEL c.val) CEL_SCRUB_POS_CH, s.rd (uCEL c.val) CEL_SCRUB_POS_GRAN, data)])) ∧
      (∀ (err : ReadErr) (data old : List Byte) (ch g : Nat), s.celRuns c.val = true → (s.cel c.val).rewrite = [(ch, g, old)] →
        ((s.cel c.val).overtaken.contains (ch, g) = false → runs (.scrubGranule c err data) s (fun t =>
          t.peek (stackKey c.val ch (256 * g)) old.length = old)) ∧
        ((s.cel c.val).overtaken.contains (ch, g) = true → runs (.scrubGranule c err data) s (fun t => t.mem = s.mem)))) ∧
    (refMult (s.celBand c.val) < s.rd (uCEL c.val) CEL_STAT_REFMULT →
      runs (.refreshMultLower c) s (fun t => t.rd (uCEL c.val) CEL_STAT_REFMULT = refMult (s.celBand c.val) % 4)) ∧
    (∀ (pass : List Bool) (bad : Nat) (a : SaveArea), (s.cel c.val).saved = some a → a.pcyc = s.attic.pcyc →
      (pass.contains true = true → runs (.saveAreaRestore c pass bad) s (fun t =>
        (t.cel c.val).psn = a.psn ∧ (t.cel c.val).saved = none ∧ t.isSet (uCEL c.val) CEL_STAT_RESTORED = true)) ∧
      (pass.contains true = false → runs (.saveAreaRestore c pass bad) s (fun t => event s 0x5041 (puCel c.val) bad ∈ t.transit))) ∧
    (∀ ch : ChanId, writable s (uCEL c.val) = true → s.takingOver = false → s.chanSuspect c.val ch.val = true →
      bit (s.rd (uCEL c.val) CEL_STP_STAT_PASS) ch.val = true →
      runs (.channelClear c (BitVec.ofNat 32 (2 ^ (16 + ch.val)))) s (fun t =>
        t.rd (uCEL c.val) CEL_STAT_SUSPECT = (s.rd (uCEL c.val) CEL_STAT_SUSPECT - 2 ^ ch.val) % 2 ^ 16)) ∧
    (s.takingOver = false → runs (.poisonMapRead c) s (fun t =>
      t.sent.head? = some (.word (BitVec.ofNat 32 (s.winWord (regAt (uCEL c.val) 0x80))))))

/-- WRITE, VERIFY, DROP and REDIGEST of a slice (R282, R287, R290, R291, R293, R312).
Through the write of CEL_SLICE_CMD: WRITE enters the staged slice into an empty entry with STATUS 2, refuses a used entry with 3 and a bad stage with 4; VERIFY queues a LOADING slice, REDIGEST a VALID or DOUBT one, with STATUS 1, any other is refused with 3; DROP leaves the entry EMPTY with STATUS 2. -/
def Obligations.SliceCommands : Prop :=
  ∀ (c : StackId) (s : State), writable s (uCEL c.val) = true → s.takingOver = false →
    let u := uCEL c.val
    let i := s.rd u CEL_SLICE_SEL_INDEX
    ((s.slice c.val i).isSome = true → runs (.sliceWrite c) s (fun t => t.rd u CEL_SLICE_CMD_STATUS = 3)) ∧
    (s.slice c.val i = none → s.sliceBad c.val (s.rd u CEL_SLICE_STAGE) (stagedSlice (s.rd u CEL_SLICE_STAGE)) = true →
      runs (.sliceWrite c) s (fun t => t.rd u CEL_SLICE_CMD_STATUS = 4)) ∧
    (s.slice c.val i = none → s.sliceBad c.val (s.rd u CEL_SLICE_STAGE) (stagedSlice (s.rd u CEL_SLICE_STAGE)) = false →
      runs (.sliceWrite c) s (fun t => t.rd u CEL_SLICE_CMD_STATUS = 2 ∧
        t.slice c.val i = some (stagedSlice (s.rd u CEL_SLICE_STAGE)))) ∧
    runs (.sliceDrop c) s (fun t => t.slice c.val i = none ∧ t.rd u CEL_SLICE_CMD_STATUS = 2) ∧
    (∀ e, s.slice c.val i = some e →
      (e.state = 1 → runs (.sliceVerify c) s (fun t => (i, 2) ∈ (t.cel c.val).cmds ∧ t.rd u CEL_SLICE_CMD_STATUS = 1)) ∧
      (e.state ≠ 1 → runs (.sliceVerify c) s (fun t => t.rd u CEL_SLICE_CMD_STATUS = 3)) ∧
      (e.state = 3 ∨ e.state = 6 →
        runs (.sliceRedigest c) s (fun t => (i, 4) ∈ (t.cel c.val).cmds ∧ t.rd u CEL_SLICE_CMD_STATUS = 1)) ∧
      (e.state ≠ 3 → e.state ≠ 6 → runs (.sliceRedigest c) s (fun t => t.rd u CEL_SLICE_CMD_STATUS = 3)))

/-- Digest ticks, digests and exchange records (R288, R289, R291, R292, R293, R295, R298, R299, R304).
A tick that is due is broadcast, one that is not due is not; a Cellar whose rotation runs counts it, but takes none while the map of its field waits; a read of a slice with a bad block header raises 0x5024 with its offset; a peer's record of a reserved type is absorbed and counted, one of another type here does nothing, one of type 1 is taken as the slice's peer digest; a third copy asked of a valid slice is answered on stream 4,094; an answer that agrees with the local copy raises 0x5022, with the peer's 0x5021; none in time raises 0x5023. -/
def Obligations.SliceExchange : Prop :=
  ∀ (c : StackId) (n : DoorId) (s : State),
    (s.stopped = false →
      (s.tickDue = true → s.bhAlive s.active = true → runs .digestTickSend s (fun t => t.tickAt = s.now ∧ t.passSeen = false ∧
        ∃ s' : State, s'.sent = s.sent ∧ s'.routers = s.routers ∧ s'.hops = s.hops ∧
          t = s'.routePacket (Config.host.brewField s.active)
            ⟨mkHead 2 0 0 0 (Config.host.brewField s.active) 18 2 (s.brew s.active).reign (Config.imageVal 0x292 0 % 125 + 1), []⟩)) ∧
      (s.tickDue = false → runs .digestTickSend s (fun t => t = s))) ∧
    (s.unitStopped (uCEL c.val) = false → s.celRuns c.val = true →
      (s.digestWait c.val = none → (s.cel c.val).rot.on = true →
        runs (.digestTick c) s (fun t => t.rd (uCEL c.val) CEL_DIG_TICK_COUNT = ((s.cel c.val).rot.ticks + 1) % 2 ^ 32)) ∧
      (∀ k, s.digestWait c.val = some k → runs (.digestTick c) s (fun t => t.cels = s.cels))) ∧
    (∀ (i : Fin 16384) (bytes : List Byte) (ce : List (BitVec 36)) (e : SliceEnt) (off : Nat), s.unitStopped (uCEL c.val) = false →
      s.celRuns c.val = true → s.slice c.val i.val = some e → s.absorbed c.val i.val e = true → s.digestWait c.val = none →
      e.state ≠ 1 → e.state ≠ 4 → e.state ≠ 5 →
      (granList e.addr e.length).any (fun g => s.granIn c.val e.ch g) = false →
      (walkSlice s.tbProfile (bytes.length / 32 + 1) 0 bytes).fault = some off →
      runs (.sliceDigestDone c i bytes ce []) s (fun t => event s 0x5024 (puCel c.val) e.tensor e.slice off ∈ t.transit)) ∧
    (∀ payload : List Byte,
      let r := Xrec.ofBytes payload
      (r.rtype = 0 ∨ 6 < r.rtype → runs (.digestRecord n payload) s (fun t => t = s.absorbRec n.val r)) ∧
      (2 ≤ r.rtype → r.rtype ≤ 6 → runs (.digestRecord n payload) s (fun t => t = s)) ∧
      (∀ (k i : Nat) (e : SliceEnt), s.routeRec r = .inl k → s.findSlice k r = .inl i → s.slice k i = some e →
        (r.rtype = 1 → e.localOk = false →
          runs (.digestRecord n payload) s (fun t => (t.slice k i).map (·.peerDig) = some r.digest)) ∧
        (e.state = 3 → (s.door n.val).shut = false →
          runs (.thirdCopyRequest n payload) s (fun t => ∃ out, Out.doorTx n.val 4094 out ∈ t.sent)) ∧
        (e.state = 6 → (s.cel k).third.any (fun t => t.1 == i) = true →
          (r.digest = e.peerDig → runs (.thirdCopyAnswer n payload) s (fun t =>
            event s 0x5021 (puCel k) e.tensor e.slice (s.peerWafer k e) ∈ t.transit)) ∧
          (r.digest ≠ e.peerDig → r.digest = e.localDig → runs (.thirdCopyAnswer n payload) s (fun t =>
            event s 0x5022 (puCel k) e.tensor e.slice (s.peerWafer k e) ∈ t.transit))))) ∧
    (∀ (i : Fin 16384) (e : SliceEnt), s.slice c.val i.val = some e → (s.cel c.val).third.any (fun t => t.1 == i.val) = true →
      runs (.thirdCopyTimeout c i) s (fun t =>
        raised s t 0x5023 (puCel c.val) e.tensor e.slice (s.peerWafer c.val e) ∧
        (t.cel c.val).third.any (fun t => t.1 == i.val) = false))

/-- Repairs and reloads of a slice (R297, R299, R300, R302, R303, R305).
The oldest queued repair of a slice that can be repaired starts while fewer than four run; a reload asked of a valid slice is announced on stream 4,094; an announcement opens a reload at the Door; a block of an open reload advances it, one of none, or one that would pass its length, is counted as ignored with reason 5; a refusal or a time-out turns to the next source with its reason; a good read-back ends the repair with 0x5011 and a bad one turns to the next source. -/
def Obligations.SliceRepairs : Prop :=
  ∀ (c : StackId) (n : DoorId) (s : State),
    (∀ (r : Repair) (rest : List Repair) (e : SliceEnt), s.unitStopped (uCEL c.val) = false → s.celRuns c.val = true →
      (s.cel c.val).queue = r :: rest → (s.cel c.val).running.length < 4 → s.slice c.val r.slice = some e →
      s.repairOf c.val r.slice = none → (e.state = 3 ∨ e.state = 5 ∨ e.state = 6) →
      repairSources (s.cel c.val).rot e (if r.kind = 1 then (repairRef e 1).getD r.reference else r.reference) ≠ [] →
      runs (.repairStart c) s (fun t => (t.cel c.val).queue = rest ∧
        (t.cel c.val).running.length = (s.cel c.val).running.length + 1)) ∧
    (∀ payload : List Byte,
      let r := Xrec.ofBytes payload
      ∀ (k i : Nat) (e : SliceEnt), s.routeRec r = .inl k → s.findSlice k r = .inl i → s.slice k i = some e →
        (e.state = 3 → s.repairOf k i = none → (s.door n.val).shut = false →
          runs (.reloadRequest n payload) s (fun t => ∃ out, Out.doorTx n.val 4094 out ∈ t.sent)) ∧
        (s.repairOf k i = none →
          runs (.reloadAnnouncement n payload) s (fun t => t.reloadOf n.val = [⟨k, i, r.length, 0⟩])) ∧
        (∀ q, s.repairOf k i = some q → q.announced = false → q.readback = false →
          (s.cel k).third.any (fun t => t.1 == i) = false →
          runs (.reloadRefusal n payload) s (fun t => t = s.askSource k i 1))) ∧
    (∀ (bytes : List Byte) (bad : Bool),
      (s.reloadOf n.val = [] → s.marks.contains (puCel (doorCellar n.val), 0x5060, 0) = false →
        runs (.reloadBlock n bytes bad) s (fun t => ∃ e ∈ t.transit, e.code = 0x5060 ∧ e.p6 = 5)) ∧
      (∀ o, s.reloadOf n.val = [o] → s.repairOf o.cellar o.slice = none → o.length < o.got + blockSize (Header.ofBytes bytes) →
        s.marks.contains (puCel (doorCellar n.val), 0x5060, 0) = false →
        runs (.reloadBlock n bytes bad) s (fun t => t.reloadOf n.val = [o] ∧ ∃ e ∈ t.transit, e.code = 0x5060 ∧ e.p6 = 5)) ∧
      (∀ o, s.reloadOf n.val = [o] → s.repairOf o.cellar o.slice = none → o.got + blockSize (Header.ofBytes bytes) ≤ o.length →
        runs (.reloadBlock n bytes bad) s (fun t =>
          t.reloadOf n.val = [{ o with got := o.got + blockSize (Header.ofBytes bytes) }]))) ∧
    (∀ (i : Fin 16384) (q : Repair), s.repairOf c.val i.val = some q →
      (q.readback = false → runs (.reloadTimeout c i) s (fun t => t = s.askSource c.val i.val 2)) ∧
      (∀ (bytes : List Byte) (ce ue : List (BitVec 36)) (e : SliceEnt), s.unitStopped (uCEL c.val) = false →
        s.slice c.val i.val = some e → q.readback = true →
        let good := bytes.length = (q.wrote.map (·.2)).sum ∧ readBackOk s.tbProfile (bytes.length / 32 + 1) bytes = true
        (good → s.marks.contains (puCel c.val, 0x5011, 0) = false →
          runs (.repairReadback c i bytes ce []) s (fun t => ∃ x ∈ t.transit, x.code = 0x5011 ∧ x.puid = puCel c.val)) ∧
        ((ue ≠ [] ∨ ¬ good) →
          runs (.repairReadback c i bytes ce ue) s (fun t => ∃ u : State, u.cels = s.cels ∧ t = u.askSource c.val i.val 5))))

/-- GO, ABORT, lines and the profile of a memory scan (R133, R149, R150, R151, R153, R155).
GO with ABORT, or GO while a scan runs, sets OVERRUN; GO of length 0 ends with code 2 at once and of a range inside its space makes the scan busy for the register window; ABORT marks a running scan; a line with an uncorrectable error ends a scan with code 5, and otherwise the last line ends one without comparison with code 0; a preset loads the scan profile. -/
def Obligations.MemoryScans : Prop :=
  ∀ (v : ScanUnit) (s : State),
    let u := scanUnit v
    (writable s u = true → s.takingOver = false → ∀ data : Word,
      (bit data.toNat 31 = true → bit data.toNat 30 = true →
        runs (.scanGo v data) s (fun t => t.isSet u CKU_SCAN_STAT_OVERRUN = true)) ∧
      (bit data.toNat 31 = true → bit data.toNat 30 = false →
        ((s.scan u).busy = true → runs (.scanGo v data) s (fun t => t.isSet u CKU_SCAN_STAT_OVERRUN = true)) ∧
        ((s.scan u).busy = false → s.rd u CKU_SCAN_LEN_LEN = 0 →
          runs (.scanGo v data) s (fun t => t.rd u CKU_SCAN_STAT_CODE = 2 ∧ (t.scan u).busy = false)) ∧
        (∀ n, (s.scan u).busy = false → 0 < s.rd u CKU_SCAN_LEN_LEN → s.rd u CKU_SCAN_LEN_LEN ≤ 2 ^ 40 - 64 →
          spaceSize v (bits data.toNat 4 0) = some n → s.rd u CKU_SCAN_START_ADDR + s.rd u CKU_SCAN_LEN_LEN ≤ n →
          runs (.scanGo v data) s (fun t => t.isSet u CKU_SCAN_STAT_BUSY = true ∧ (t.scan u).busy = true ∧
            (t.scan u).len = s.rd u CKU_SCAN_LEN_LEN ∧ t.rd u CKU_SCAN_STAT_ORIGIN = 0))) ∧
      (∀ p, crcPreset (bits data.toNat 14 12) = some p → bits data.toNat 14 12 ≠ 0 →
        runs (.scanProfileWrite v data) s (fun t =>
          t.rd u CKU_SC_CFG_WIDTH = p.w % 2 ^ 7 ∧ t.rd u CKU_SC_POLY = p.poly % 2 ^ 64))) ∧
    (writable s u = true → s.takingOver = false → (s.scan u).busy = true → runs (.scanAbort v) s (fun t => (t.scan u).abort = true)) ∧
    (∀ data : List Byte, (s.scan u).busy = true → s.scanHeld v = false →
      (v = .brew ∨ s.fw.checks = [] → runs (.scanLineDone v data .uncorrectable) s (fun t => t.rd u CKU_SCAN_STAT_CODE = 5 ∧ (t.scan u).busy = false)) ∧
      (∀ err : ReadErr, v = .brew → err ≠ .uncorrectable → (s.scan u).cmp = false →
        (s.scan u).len - (s.scan u).fed ≤ 64 - ((s.scan u).start + (s.scan u).fed) % 64 → (s.scan u).fed ≤ (s.scan u).len →
        runs (.scanLineDone v data err) s (fun t => t.rd u CKU_SCAN_STAT_CODE = 0 ∧ (t.scan u).busy = false)))

/-- Resynchronised streams, stream windows and maps of a cluster (R99, R146, R147, R261, R276, R373, R456).
RESYNC marks the selected stream of a Cellar, or of a Door's receive side, to resynchronise at its next SOP; the write of WIN_BASE_HI puts the held base, the enable and the channel in force; a committed map takes effect at the core; a dispatch to an invalid entry raises 0x4043 with the entry. -/
def Obligations.StreamsAndMaps : Prop :=
  ∀ (s : State),
    (∀ (c : StackId) (data : Word), writable s (uCEL c.val) = true → s.takingOver = false →
      (bit data.toNat 0 = true → runs (.streamResync (.cellar c) data) s (fun t =>
        (t.winStream (4096 * c.val + s.rd (uCEL c.val) CKU_STRM_SEL_STREAM)).resync = true)) ∧
      runs (.windowApply c data) s (fun t =>
        let k := 4096 * c.val + s.rd (uCEL c.val) CKU_WIN_SEL_WIN
        (t.win k).en = bit data.toNat 31 ∧ (t.win k).chan = bits data.toNat 7 4 ∧
        (t.win k).base = (s.win k).heldBase + bits data.toNat 3 0 * 2 ^ 32 ∧ (t.win k).gran = (s.win k).heldGran ∧
        (t.winStream k).sync = false)) ∧
    (∀ (n : DoorId) (data : Word), writable s (uDOR n.val) = true → s.takingOver = false → bit data.toNat 0 = true →
      s.isSet (uDOR n.val) CKU_STRM_SEL_DIR = true →
      runs (.streamResync (.door n) data) s (fun t =>
        (t.stream (skey n.val 1 (s.rd (uDOR n.val) CKU_STRM_SEL_STREAM))).resync = true)) ∧
    (∀ k : ClusterId,
      ((s.port k.val).commit = true → (s.port k.val).mig = none →
        s.resets.find? (fun x => x.level == 2 && x.at_ == k.val && x.step == 5) = none →
        runs (.mapCommitDone k) s (fun t => (t.port k.val).commit = false ∧ (t.port k.val).coreShadow = [])) ∧
      (∀ (chan : Bool) (entry : BitVec 13), s.marks.contains (puTst k.val, 0x4043, 0) = false →
        runs (.mapMiss k chan entry) s (fun t => raised s t 0x4043 (puTst k.val) entry.toNat (if chan then 1 else 0))))

/-- Repeats and references of a case (R241, R243, R245, R246, R247, R250, R273).
The request at a cluster's repeat port starts, and of a step's repeats the next in start order is then asked for; when the repeat is done, what the Tap captured or the scratch view holds joins the case and the next request follows; a request withdrawn leaves its case without; a stage that is not held takes the reference of a case from its held inputs; a neighbour that is asked computes the same and counts it, and its answer or its silence settles or moves the case on. -/
def Obligations.Adjudication : Prop :=
  ∀ (k : ClusterId) (s : State),
    (∀ h q, s.rqFind k.val 1 = some (h, q) →
      let u := s.rqSet h q (some { q with stage := 2 })
      ((∀ no, q.what ≠ .case no) → (∀ cmd, q.what ≠ .gated cmd) → runs (.repeatStart k) s (fun t => t = u)) ∧
      (∀ cmd, q.what = .gated cmd → runs (.repeatStart k) s (fun t =>
        t = match u.descOf k.val cmd with | some d => u.redoStep (regionOfCluster k.val) d.ctx d.step | none => u)) ∧
      (∀ no, q.what = .case no → runs (.repeatStart k) s (fun t => t = u.updCase h no (fun c => { c with rpt := 2 }))) ∧
      runs (.repeatWithdraw k) s (fun t => t = s.withdrawRq k.val h q)) ∧
    (∀ h q (n : BitVec 4) (view : Option CaseVal), s.rqFind k.val 2 = some (h, q) →
      let u := s.rqSet h q none
      let tap := s.tap (ckey k.val q.core)
      ((∀ no, q.what ≠ .case no) → runs (.repeatDone k n view) s (fun t => t = u.rptGo k.val)) ∧
      (∀ no, q.what = .case no → runs (.repeatDone k n view) s (fun t =>
        t = ((u.updCase h no (fun c => { c with
          rpt := 3, ncore := n.toNat, tm := c.tm || tap.alarms.any (fun a => s.repeatCmd a.cmd),
          c2 := match (if q.mode = 0 then tap.rpt else view) with | some v => .val v | none => .absent })).settleCase h no).rptGo k.val))) ∧
    (∀ (no : Nat) (c : Case) (upset : Option CaseVal), s.caseOf k.val no = some c →
      (s.stageHeld k.val 5 = false → Got.waits c.t1 = true → c.held ≠ .none →
        let r := s.recompute k.val c upset
        runs (.referenceT1Done k no upset) s (fun t =>
          t = (r.1.updCase k.val no (fun c => { c with
            t1 := match r.2 with | some v => .val v | none => .absent })).settleCase k.val no)) ∧
      (∀ j : ClusterId, s.stageHeld j.val 5 = false → c.asked = some j.val → c.t2p = none → waitsAdopter c k.val = false →
        runs (.neighbourRequest j k no upset) s (fun t =>
          t.cnt (uTST j.val) TST_ADJ_SERVED_COUNT = (s.count (uTST j.val) TST_ADJ_SERVED_COUNT).cnt (uTST j.val) TST_ADJ_SERVED_COUNT ∧
          (t.caseOf k.val no).map (·.t2p) = some (s.recompute j.val c upset).2)) ∧
      (∀ v, s.stageHeld k.val 5 = false → c.t2p = some v → Got.waits c.t2 = true →
        runs (.neighbourAnswer k no) s (fun t =>
          t = (s.updCase k.val no (fun c => { c with t2 := .val v, t2p := none })).settleCase k.val no)) ∧
      (s.unitStopped (uTST k.val) = false → Got.waits c.t2 = true → c.asked.isSome = true → waitsAdopter c k.val = false →
        let u := s.updCase k.val no (fun c => { c with t2p := none, tries := c.tries + 1 })
        (c.tries = 0 → runs (.neighbourTimeout k no) s (fun t =>
          t = (u.askNeighbour k.val no (c.cluster :: c.asked.toList ++ c.used)).settleCase k.val no)) ∧
        (c.tries ≠ 0 → runs (.neighbourTimeout k no) s (fun t =>
          t = (u.updCase k.val no (fun c => { c with t2 := .absent })).settleCase k.val no))))

/-- A verdict at the Hall, migration to a spare, poison at a core and a unit's history (R253, R259, R260, R261, R262, R267, R269, R270, R274, R275).
The oldest verdict is one item of its Taster's channel and raises 0x4000 plus its code; a fenced idle core asks for the first spare, one under steep only while a second stays free, and without one raises 0x4022; a core copied is mapped to the spare; poison delivered to a live context raises 0x4050, to any other is only counted; HIST_PUID latches the unit's table. -/
def Obligations.VerdictsAndSpares : Prop :=
  ∀ (s : State),
    (∀ (r : RegionId) (v : Verdict) (vs : List Verdict), s.verdictsOf r.val = v :: vs → (s.hall r.val).procHeld = false →
      runs (.hallVerdict r) s (fun t =>
        (t.chan (chTst v.cluster)).items = ((s.chan (chTst v.cluster)).items + 1) % 2 ^ 32 ∧
        ∃ e ∈ t.transit, e.code = 0x4000 + v.code ∧ e.puid = v.puid)) ∧
    (∀ (k : ClusterId) (p : CoreId) (l : Nat),
      (s.core (ckey k.val p.val)).fence = true → (s.core (ckey k.val p.val)).cmd = none → s.coreResetting k.val p.val = false →
      (s.port k.val).mig = none → s.widerReset k.val = false → s.logicalOf k.val p.val = some l →
      (∀ d ds, s.spares k.val = d :: ds → ((s.unit (puCore k.val p.val)).steep = false ∨ ds ≠ []) → runs (.fenceBoundary k p) s (fun t =>
        (t.port k.val).mig = some ⟨p.val, d, l, (s.unit (puCore k.val p.val)).steep, none⟩)) ∧
      ((s.unit (puCore k.val p.val)).steep = true → (s.spares k.val).length < 2 → runs (.fenceBoundary k p) s (fun t => t = s)) ∧
      (s.spares k.val = [] → (s.unit (puCore k.val p.val)).steep = false → s.marks.contains (puTst k.val, 0x4022, 0) = false →
        runs (.fenceBoundary k p) s (fun t => event s 0x4022 (puTst k.val) l ∈ t.transit))) ∧
    (∀ (k : ClusterId) (cycles : Nat) (err : Bool) (m : Migration), (s.port k.val).mig = some m →
      runs (.migrationDone k cycles err) s (fun t => (t.port k.val).mig = some { m with copied := some cycles } ∧
        (t.port k.val).commit = true ∧ (t.port k.val).coreShadow = (s.port k.val).coreShadow ++ [(m.logical, m.dst + 1024)])) ∧
    (∀ (k : ClusterId) (p : CoreId) (ctx : Ctx) (layer oper : BitVec 16),
      (ctx.toNat ≠ 0 → (s.ctx ctx.toNat).state = 1 → (s.ctx ctx.toNat).killed = false →
        runs (.poisonReport k p ctx layer oper) s (fun t => ∃ e ∈ t.transit, e.code = 0x4050 ∧ e.puid = puCore k.val p.val ∧
          e.p5 = ctx.toNat * 2 ^ 16 % 2 ^ 32 ∧ e.p6 = layer.toNat * 2 ^ 16 + oper.toNat)) ∧
      (ctx.toNat = 0 ∨ (s.ctx ctx.toNat).state ≠ 1 ∨ (s.ctx ctx.toNat).killed = true → runs (.poisonReport k p ctx layer oper) s (fun t =>
        t = s.count (uTST k.val) TST_PSN_RETIRED_COUNT))) ∧
    (∀ data : Word, writable s uBRW = true → s.takingOver = false → runs (.historySelect data) s (fun t =>
      t.histLatch = (if (s.histOf data.toNat).made then some (s.histOf data.toNat) else none) ∧
      t.isSet uBRW BRW_HIST_STAT_FOUND = (s.histOf data.toNat).made))

/-- A unit falls due, a rotation starts, and a slice-test run begins or is withdrawn (R318, R319, R321, R326, R327, R328, R329, R332, R339, R348, R351, R353).
A unit that is present and not permanently fenced becomes due at its planned time once that has come, and not before (assumption 202: the places of units other than cores in the plan are the model's); a rotation takes its lengths from the period registers; an idle Cellar's engine takes the Cellar up while no other of the region is, and a Taster takes up a fenced core that is next; a core that waits is withdrawn and put off, but the last one of a requalification waits on; a core that is overdue and cannot be spared is marked forced, and at its boundary it is taken up with 0x7013. -/
def Obligations.SteepStarts : Prop :=
  ∀ (s : State),
    (∀ u : SteepUnit, (s.unit (steepPuid u)).absent = false → (s.unit (steepPuid u)).perm = false →
      (s.stpOf (steepPuid u)).due = none → s.plan.coreH ≠ 0 →
      (s.planned (steepPuid u) ≤ s.now → runs (.steepDue u) s (fun t => (t.stpOf (steepPuid u)).due = some (s.planned (steepPuid u)))) ∧
      (s.now < s.planned (steepPuid u) → runs (.steepDue u) s (fun t => t = s))) ∧
    (s.stopped = false → runs .coreRotationStart s (fun t => t.plan.start = s.now ∧ t.plan.ready = s.plan.ready ∧
      t.plan.coreH = s.rd uBRW BRW_STP_PERIOD_CORE_H ∧ t.plan.unitH = s.rd uBRW BRW_STP_PERIOD_UNIT_H)) ∧
    (∀ (e : Engine) (cyc100 cls u : Nat), s.engineHeld e = false → (s.eng (engineNo e)).isSome = false →
      (s.hall (regionOfEngine (engineNo e))).procHeld = false → s.atK5 (regionOfEngine (engineNo e)) = false → s.stopped = false →
      s.partReset (regionOfEngine (engineNo e)) = false → s.regionLost (regionOfEngine (engineNo e)) = false →
      s.regionShut (regionOfEngine (engineNo e)) = false → s.stpNext (engineNo e) = some (cls, u) →
      (puidKind u = 5 → s.kindBusy (regionOfEngine (engineNo e)) 5 = false → runs (.steepStart e cyc100) s (fun t =>
        (t.eng (engineOf u)).map (fun x => (x.unit, x.phase, x.total)) = some (u, 4, 16) ∧ (t.unit u).steep = true ∧
        (t.hall (regionOfEngine (engineNo e))).clk = some cyc100)) ∧
      (puidKind u = 0 → s.tstTrusted (puidMajor u) = true → s.rd uBRW BRW_GRIST_ACTIVE_VERSION ≠ 0 →
        s.grist.active.contains (regionOfEngine (engineNo e)) = true → s.tapDue (puidMajor u) (puidMinor u) = true →
        s.tapPassed (puidMajor u) (puidMinor u) < 2 → (s.unit u).fenced = true →
        runs (.steepStart e cyc100) s (fun t =>
          (t.eng (uTST (puidMajor u))).map (·.phase) = some 3 ∧ (t.core (ckey (puidMajor u) (puidMinor u))).rst = true))) ∧
    (∀ (k : ClusterId) (p : CoreId) (x : StpRun), s.runOf (puCore k.val p.val) = some x → x.phase = 1 →
      (s.core (ckey k.val p.val)).rst = false → (s.port k.val).mig.map (·.src) ≠ some p.val → (s.logicalOf k.val p.val).isNone = false →
      let last := (s.adjOf k.val).requalOn && (s.adjOf k.val).requal.contains p.val && (s.adjOf k.val).requal.all (· == p.val)
      (last = false → runs (.steepWithdraw k p) s (fun t => (t.eng (uTST k.val)).isNone = true ∧
        (t.stpOf (puCore k.val p.val)).deferred = s.now)) ∧
      (last = true → runs (.steepWithdraw k p) s (fun t => t = s))) ∧
    (∀ (k : ClusterId) (p : CoreId), (s.unit (puCore k.val p.val)).absent = false → (s.unit (puCore k.val p.val)).perm = false →
      (s.stpOf (puCore k.val p.val)).overdue = false → s.marks.contains (puTst k.val, 0x7012, 0) = false →
      runs (.coreOverdue k p) s (fun t => (t.stpOf (puCore k.val p.val)).overdue = true ∧
        ∃ e ∈ t.transit, e.code = 0x7012 ∧ e.puid = puTst k.val)) ∧
    (∀ (k : ClusterId) (p : CoreId) (l : Nat), s.logicalOf k.val p.val = some l →
      (s.stpOf (puCore k.val p.val)).overdue = true → (s.stpClass (puCore k.val p.val)).isNone = false → s.tstTrusted k.val = true →
      (s.spares k.val).length < 2 → (s.eng (uTST k.val)).isSome = false → (s.core (ckey k.val p.val)).cmd.isSome = false →
      s.grist.active.contains (regionOfCluster k.val) = true → s.atK5 (regionOfCluster k.val) = false → s.stopped = false →
      (s.hall (regionOfCluster k.val)).procHeld = false →
      runs (.forcedSteepBoundary k p) s (fun t => (t.eng (uTST k.val)).map (·.forced) = some (some l) ∧
        (t.port k.val).commit = true ∧ ∃ us, event s 0x7013 (puCore k.val p.val) l p.val us ∈ t.transit))

/-- A slice's signature, its abort and the clearing of a core (R90, R91, R261, R320, R321, R322, R323, R325, R332, R338, R368).
At a core whose clearing succeeded in a run the next slice opens with its margin, unless it is predicted to overrun, which puts the core off; a clearing that fails is a failure; responses whose signature differs for the first time have the slice repeated; a signature that agrees moves a run that has slices left on to the next, unless that would overrun; a Taster's second mismatch is a failure with 0x7001; an aborted slice ends the attempt and puts the unit off, one of Onasen's own units staying held. -/
def Obligations.SliceVerdicts : Prop :=
  ∀ (s : State),
    (∀ (k : ClusterId) (p : CoreId) (x : StpRun), (s.core (ckey k.val p.val)).rst = true →
      s.resets.any (fun y => y.level == 1 && y.at_ == ckey k.val p.val && y.step == 5) = false →
      s.runOf (puCore k.val p.val) = some x → x.phase ≠ 4 →
      (x.phase ≠ 5 → x.slice ≤ x.total → 0 < x.slice →
        (s.overrun x = false → runs (.secretClearDone k p true 15) s (fun t =>
          (∃ m, t.eng (uTST k.val) = some { x with phase := 4, margin := m }) ∧ (t.core (ckey k.val p.val)).wrapEn = true ∧
          (t.core (ckey k.val p.val)).cleared = true)) ∧
        (s.overrun x = true → runs (.secretClearDone k p true 15) s (fun t =>
          (t.eng (uTST k.val)).isNone = true ∧ (t.stpOf (puCore k.val p.val)).deferred = s.now))) ∧
      (∀ key : BitVec 4, runs (.secretClearDone k p false key) s (fun t =>
        ∃ e ∈ t.transit, e.code = 0x7001 ∧ e.puid = puCore k.val p.val ∧ e.p6 = 2))) ∧
    (∀ (e : Engine) (x : StpRun) (resp : List Bool) (cyc100 : Nat), s.engineHeld e = false → s.eng (engineNo e) = some x → x.phase = 4 →
      puidKind x.unit ≠ 6 → (puidKind x.unit = 5 → x.looped = true) →
      let s' := s.updHall (regionOfEngine (engineNo e)) (fun h => { h with clk := some cyc100 })
      let again : StpRun := { x with repeated := true, looped := false }
      let next := if x.slice = x.tapN then x.tapN + (s.stpOf x.unit).passed + 1 else x.slice + 1
      let on : StpRun := { x with slice := next, repeated := false, looped := false }
      (stpSig x resp = stpExpected x → next ≤ x.total → s.atK5 (regionOfEngine (engineNo e)) = false → s'.overrun on = false →
        runs (.sliceCompare e resp cyc100) s (fun t =>
          (∃ m, t.eng (engineNo e) = some { on with margin := m }) ∧
          (x.tapN < x.slice → (t.stpOf x.unit).passed = x.slice - x.tapN) ∧ (x.slice ≤ x.tapN → (t.stpOf x.unit).tapPassed = x.slice))) ∧
      (stpSig x resp ≠ stpExpected x → x.repeated = false →
        runs (.sliceCompare e resp cyc100) s (fun t => t = (s'.updEng (engineNo e) (fun _ => some again)).sliceStart again)) ∧
      (stpSig x resp ≠ stpExpected x → x.repeated = true → puidKind x.unit = 2 →
        runs (.sliceCompare e resp cyc100) s (fun t => ∃ e' ∈ t.transit, e'.code = 0x7001 ∧ e'.puid = x.unit ∧ e'.p6 = 3))) ∧
    (∀ (e : Engine) (x : StpRun) (us : Nat), s.eng (engineNo e) = some x → x.phase = 4 →
      let tap := decide (puidKind x.unit = 0 ∧ x.slice ≤ x.tapN)
      let p := if tap then puTap (puidMajor x.unit) (puidMinor x.unit) else x.unit
      runs (.sliceAbort e us) s (fun t => (t.eng (engineNo e)).isNone = true ∧ (t.stpOf x.unit).deferred = s.now ∧
        (puidKind x.unit ≠ 0 → t.units = s.units) ∧
        (s.marks.contains (p, 0x7010, 0) = false →
          event s 0x7010 p x.slice (if puidKind x.unit = 0 ∧ tap = false then x.pkg.us else 500) us ∈ t.transit)))

/-- Memory channels, lanes and analogue parts under test (R14, R333, R335, R336, R337, R338).
A loop-back that the running slice of a Cellar has asked for is over, and a channel whose loop-back shows errors becomes suspect with 0x7001; no slice has asked, nothing happens; a march starts on each named channel that is suspect and fenced, and its end is a pass or an entry in the history; a lane whose loopback shows errors is held with 0xC011; an analogue part that fails its check is checked again, and failing again raises 0x7001; one that the configuration lacks is not checked. -/
def Obligations.MemoryAndLaneTests : Prop :=
  ∀ (s : State),
    (∀ (c : StackId) (ch : ChanId) (errs : BitVec 16),
      (s.eng (uCEL c.val) = none → runs (.phyLoopback c ch errs) s (fun t => t = s)) ∧
      (∀ x : StpRun, s.eng (uCEL c.val) = some x → x.phase = 4 → x.slice = ch.val + 1 → x.looped = false →
        (errs = 0 → runs (.phyLoopback c ch errs) s (fun t => t = s.updEng (uCEL c.val) (fun _ => some { x with looped := true }))) ∧
        (errs ≠ 0 → runs (.phyLoopback c ch errs) s (fun t => t.chanSuspect c.val ch.val = true ∧
          ∃ e ∈ t.transit, e.code = 0x7001 ∧ e.puid = puChan c.val ch.val ∧ e.p7 = errs.toNat)))) ∧
    (∀ (c : StackId) (data : Word) (ch : ChanId), writable s (uCEL c.val) = true → s.takingOver = false → bit data.toNat ch.val = true →
      s.chanSuspect c.val ch.val = true → s.chanFenced c.val ch.val = true →
      runs (.channelMarch c data) s (fun t => bit (t.rd (uCEL c.val) CEL_STP_STAT_BUSY) ch.val = true)) ∧
    (∀ (c : StackId) (ch : ChanId), bit (s.rd (uCEL c.val) CEL_STP_STAT_BUSY) ch.val = true →
      runs (.marchDone c ch 0 false) s (fun t => bit (t.rd (uCEL c.val) CEL_STP_STAT_PASS) ch.val = true) ∧
      (∀ (bad : Nat) (ue : Bool), bad ≠ 0 → runs (.marchDone c ch bad ue) s (fun t =>
        ∃ e ∈ t.transit, e.code = 0x7001 ∧ e.puid = puChan c.val ch.val ∧ e.p6 = 6 ∧ e.p7 = bad % 2 ^ 32))) ∧
    (∀ (n : DoorId) (l : LaneId) (errs : BitVec 16) (checked : Nat) (x : StpRun), s.eng (uDOR n.val) = some x → 2 ≤ x.slice →
      (laneSlice x.slice).1 = l.val → (s.door n.val).lb.getD l.val 0 = (laneSlice x.slice).2 → errs ≠ 0 →
      runs (.laneLoopbackEnd n l errs checked) s (fun t => bit (t.door n.val).heldLanes l.val = true ∧
        (t.eng (uDOR n.val)).isNone = true ∧
        ∃ e ∈ t.transit, e.code = 0xC011 ∧ e.puid = puLane n.val l.val ∧ e.p5 = (laneSlice x.slice).2 ∧ e.p6 = errs.toNat)) ∧
    (∀ (part : Analogue) (res : AnaResult),
      (puidOk (anaUnit part) = true → s.anaReason part res ≠ 0 → runs (.analogueCheck part res) s (fun t => t.ana.contains (anaKey part) = true)) ∧
      (puidOk (anaUnit part) = false → runs (.analogueCheck part res) s (fun t => t = s)) ∧
      (s.anaReason part res = 0 → runs (.analogueCheck part res) s (fun t => t.ana = s.ana)) ∧
      (s.ana.contains (anaKey part) = true →
        runs (.analogueRecheck part res) s (fun t => t.ana = s.ana.filter (· != anaKey part) ∧
          (s.anaReason part res ≠ 0 → ∃ e ∈ t.transit, e.code = 0x7001 ∧ e.puid = anaUnit part ∧ e.p6 = s.anaReason part res))))

/-- A Grist package is verified, copied to the stores and written back (R347, R348, R349).
A staged package that passes every check becomes verified and raises 0x7020, one that fails any raises 0x7021 with the reason; a store whose copy hashes right is committed and one whose copy does not is dropped; a store that comes back without the package is rewritten with 0x7023. -/
def Obligations.GristPackages : Prop :=
  ∀ (s : State) (n : Nat) (why : Nat),
    (s.rd uBRW BRW_GRIST_STAT_STATE = 2 → n = Tab.get (fun _ => 0) s.dl 3 →
      why = gristReason (s.peek (flashKey 0 gristStaged) n) n s.variant.design (s.variant.keys.take 4) (s.rd uBRW BRW_GRIST_ACTIVE_VERSION) →
      runs .gristVerify s (fun t => if why = 0 then t.rd uBRW BRW_GRIST_STAT_STATE = 3 ∧
          event s 0x7020 s.puActive (gristHead (s.peek (flashKey 0 gristStaged) n)).version
            (gristHead (s.peek (flashKey 0 gristStaged) n)).length (gristHead (s.peek (flashKey 0 gristStaged) n)).slices ∈ t.transit
        else t.rd uBRW BRW_GRIST_STAT_STATE = 4 ∧
          event s 0x7021 s.puActive why (gristHead (s.peek (flashKey 0 gristStaged) n)).version ∈ t.transit)) ∧
    (∀ (r : RegionId) (sha : BitVec 384), s.rd uBRW BRW_GRIST_STAT_STATE = 5 →
      (sha.toNat = s.gristSha gristStaged → runs (.gristStoreCopy r sha) s (fun t =>
        t.grist.committed.contains r.val = true ∧ t.grist.active = s.grist.active)) ∧
      (sha.toNat ≠ s.gristSha gristStaged → runs (.gristStoreCopy r sha) s (fun t =>
        t.grist.committed.contains r.val = false ∧ t.grist.active.contains r.val = false))) ∧
    (∀ (r : RegionId), s.regionLost r.val = false → s.rd uBRW BRW_GRIST_ACTIVE_VERSION ≠ 0 → s.grist.active.contains r.val = false →
      runs (.gristStoreRewrite r) s (fun t => t.grist.active.contains r.val = true ∧
        raised s t 0x7023 (puCel (gristCellar r.val)) r.val))

/-- A command's limit, its hang report, the stall watchdog and a replay that does not start (R355, R358, R359, R361, R362, R367, R369, R383, R386, R391).
A command that passes its limit before it ends is marked expired, raises 0x8001 and joins the hang reports, one that ends in that moment only counts as late; the oldest report of a cluster is one item of its channel and is taken off, and a core that ran no context is reset; a stalled region raises 0x8002; a replay that does not start kills its context with 0x8013; a killed context's commands leave the queue. -/
def Obligations.CommandTimeouts : Prop :=
  ∀ (k : ClusterId) (s : State),
    (∀ (p : CoreId) (cmd : Nat), (s.core (ckey k.val p.val)).cmd = some cmd → (s.limitOf k.val cmd).isNone = false →
      (s.core (ckey k.val p.val)).expired = false → s.unitStopped (uTST k.val) = false →
      runs (.commandExpire k p true) s (fun t => t = s.count (uHAL (regionOfCluster k.val)) HAL_TMO_LATE_COUNT) ∧
      runs (.commandExpire k p false) s (fun t => (t.core (ckey k.val p.val)).expired = true ∧
        t.hangs = s.hangs ++ [(k.val, p.val, cmd)] ∧
        (s.marks.contains (puCore k.val p.val, 0x8001, 0) = false → ∃ e ∈ t.transit, e.code = 0x8001 ∧ e.puid = puCore k.val p.val))) ∧
    (∀ (p cmd : Nat), s.hangs.find? (fun h => h.1 == k.val) = some (k.val, p, cmd) →
      (s.hall (regionOfCluster k.val)).procHeld = false → s.stopped = false →
      runs (.hangReport k) s (fun t => (t.chan (chTst k.val)).items = ((s.chan (chTst k.val)).items + 1) % 2 ^ 32 ∧
        t.hangs = s.hangs.takeWhile (· != (k.val, p, cmd)) ++ (s.hangs.dropWhile (· != (k.val, p, cmd))).drop 1 ∧
        (s.widerReset k.val = false → s.ctxOfCmd k.val cmd = 0 →
          t.resets.any (fun x => x.level == 1 && x.at_ == ckey k.val p) = true))) ∧
    (∀ (r : RegionId), s.resets.any (fun x => x.level == 4 || (x.level == 3 && x.at_ == r.val)) = false →
      s.regionLost r.val = false → s.regionShut r.val = false →
      runs (.stallWatchdog r) s (fun t =>
        event s 0x8002 (puHal r.val) r.val (s.hall r.val).cyc (s.rd (uHAL r.val) HAL_STALL_CFG_MS) ∈ t.transit ∧
        ((s.hall r.val).procHeld = true → t.resetsDue = s.resetsDue ++ [(3, r.val, 2)]))) ∧
    (∀ (x : ReplaySet) (xs : List ReplaySet) (c : Nat), s.replayOf k.val = x :: xs → x.cur = some c → x.started = false →
      runs (.replayStartTimeout k) s (fun t =>
        event s 0x8013 (puHal (regionOfCluster k.val)) (c * 2 ^ 16) 2 k.val ∈ t.transit)) ∧
    (∀ (c : Nat) (rest : List Nat), (s.port k.val).killing = c :: rest →
      runs (.killDone k) s (fun t => (t.port k.val).killing = rest))

/-- The steps of a core, engine and region reset (R112, R264, R361, R364, R365, R366, R373, R374, R375, R382, R386, R406).
When a core's egress has drained, or its bound has passed, the core is held in reset with its wrapper off; a cluster's engine then absorbs and is in reset; a region's neighbours absorb and its units enter reset, the contexts of its absorbed blocks noted; a wafer restarts and keeps its memory, its history and what waits; a cluster that has been reset runs again on its repaired map; memory that has trained moves its region on with no unit failed, and a region that is ready raises 0x8021; a neighbour that is back is no longer absorbed, and what was absorbed toward it counts. -/
def Obligations.ResetSteps : Prop :=
  ∀ (s : State),
    (∀ (k : ClusterId) (p : CoreId), s.resets.any (fun x => x.level == 1 && x.at_ == ckey k.val p.val && x.step == 4) = true →
      let held (t : State) : Prop := (t.core (ckey k.val p.val)).rst = true ∧ (t.core (ckey k.val p.val)).wrapEn = false
      ∀ (bytes : Nat) (cs : List Ctx), runs (.drainComplete (.core k p) bytes cs) s held ∧ runs (.drainBound (.core k p) bytes cs) s held) ∧
    (∀ (k : ClusterId), s.resets.any (fun x => x.level == 2 && x.at_ == k.val && x.step == 2) = true →
      let held (t : State) : Prop := (t.port k.val).clRst = true ∧ (t.port k.val).absorb = true ∧ (t.port k.val).drain = none
      ∀ (bytes : Nat) (cs : List Ctx), runs (.drainComplete (.cluster k) bytes cs) s held ∧ runs (.drainBound (.cluster k) bytes cs) s held) ∧
    (∀ (r : RegionId), s.resets.any (fun x => x.level == 3 && x.at_ == r.val && x.step == 2) = true →
      ∀ (bytes : Nat) (cs : List Ctx),
        let u := ((s.closeAbsorbed r.val).absorbToward r.val).partUnits r.val true
        let held (t : State) : Prop := t = { u with resets := u.resets.map (fun x =>
          if x.level = 3 ∧ x.at_ = r.val then { x with suspects := (x.suspects ++ cs.map (·.toNat)).eraseDups } else x) }
        runs (.drainComplete (.region r) bytes cs) s held ∧ runs (.drainBound (.region r) bytes cs) s held) ∧
    (s.resets.any (fun x => x.level == 4) = true →
      let started (t : State) : Prop := t.hist = s.hist ∧ t.mem = s.mem ∧ t.resets = [] ∧ t.fw.stage = 1
      ∀ (bytes : Nat) (cs : List Ctx), runs (.drainComplete .wafer bytes cs) s started ∧ runs (.drainBound .wafer bytes cs) s started) ∧
    (∀ (k : ClusterId), s.resets.any (fun x => x.level == 2 && x.at_ == k.val && x.step == 3) = true →
      runs (.clusterResetDone k) s (fun t => (t.port k.val).clRst = false ∧ (t.port k.val).killing = [] ∧
        (t.port k.val).commit = true ∧ t.hangs = s.hangs.filter (fun h => h.1 != k.val))) ∧
    (∀ (r : RegionId) (x : Reset), s.resets.find? (fun y => y.level == 3 && y.at_ == r.val && y.step == 6) = some x →
      runs (.memoryRetrainDone r []) s (fun t =>
        t.resets = s.resets.map (fun y => if y.level = 3 ∧ y.at_ = r.val then { y with step := 7, failed := 0 } else y) ∧
        (x.cause = 4 → ∀ c ∈ stacksOf r.val, (t.cel c).hold = false))) ∧
    (∀ (r : RegionId) (x : Reset), s.resets.find? (fun y => y.level == 3 && y.at_ == r.val && y.step == 7) = some x →
      s.regionHeld r.val = false → runs (.regionReady r) s (fun t =>
        event s 0x8021 (puHal r.val) (if 5 ≤ x.cause then 3 else x.cause) ((s.now - x.start) / 1000000) x.failed ∈ t.transit)) ∧
    (∀ (r : RegionId) (d : Dir) (q : Nat), regionTo r.val d = some q → s.partReset q = false → s.regionLost q = false →
      s.regionShut q = false →
      ∀ bytes : Nat, runs (.neighbourResetComplete r d bytes) s (fun t =>
        t = (s.updHall r.val (fun h => { h with absorb := h.absorb.set (dirNo d) false })).count (uHAL r.val) HAL_ABS_BYTES
          (if (s.hall r.val).absorb.getD (dirNo d) false then bytes else 0)))

/-- A reset that does not finish goes to the next level, up to the power pulse (R24, R118, R361, R378, R380, R572).
A core reset that runs over time raises 0x8024 and becomes an engine reset, an engine reset a region's, a region's reset the wafer's where an active Brewhouse runs; when the wafer's runs over time and a power cycle is allowed the supply is pulsed by the pads that are live and powered, and where none is allowed 0x8025 says so; a power cycle that is asked for pulses the supply within its allowance and raises 0x8025 beyond it, and without an active Brewhouse that runs it does nothing. -/
def Obligations.ResetEscalation : Prop :=
  ∀ (s : State),
    (∀ (k : ClusterId) (p : CoreId) (x : Reset), s.widerReset k.val = false →
      s.resets.find? (fun y => y.level == 1 && y.at_ == ckey k.val p.val) = some x →
      runs (.coreResetEscalate k p) s (fun t => event s 0x8024 (puTap k.val p.val) 1 2 ((s.now - x.start) / 1000) ∈ t.transit ∧
        t.resets.any (fun y => y.level == 2 && y.at_ == k.val) = true)) ∧
    (∀ (k : ClusterId) (x : Reset), s.resets.find? (fun y => y.level == 2 && y.at_ == k.val) = some x →
      runs (.engineResetEscalate k) s (fun t => event s 0x8024 (puTst k.val) 2 3 ((s.now - x.start) / 1000) ∈ t.transit)) ∧
    (∀ (r : RegionId) (x : Reset), s.resets.find? (fun y => y.level == 3 && y.at_ == r.val) = some x →
      runs (.partitionResetEscalate r) s (fun t => event s 0x8024 (puHal r.val) 3 4 ((s.now - x.start) / 1000) ∈ t.transit ∧
        (s.bhAlive s.active = true → t.resets.any (fun y => y.level == 4) = true))) ∧
    (s.pad.armed.isSome = true →
      (s.pad.allow ≠ 0 → runs .chipResetWatchdog s (fun t =>
        t.sent = (if s.padOn .a || s.padOn .b then .powerPulse :: s.sent else s.sent) ∧ t.pad.allow = s.pad.allow - 1 ∧
        t.pad.made = s.pad.made + 1 ∧ t.pad.armed = none)) ∧
      (s.pad.allow = 0 → s.recording = true → runs .chipResetWatchdog s (fun t =>
        raised s t 0x8025 s.puActive s.pcWindow (s.rd uBRW BRW_PWRCYC_CFG_LIMIT) ∧ t.pad.armed = none))) ∧
    (∀ cause : PcCause,
      (s.bhAlive s.active = false → runs (.powerCycleRequest cause) s (fun t => t = s)) ∧
      (s.bhAlive s.active = true → s.pcAllowance = 0 → runs (.powerCycleRequest cause) s (fun t => t.sent = s.sent ∧
        raised s t 0x8025 s.puActive s.pcWindow (s.rd uBRW BRW_PWRCYC_CFG_LIMIT))) ∧
      (s.bhAlive s.active = true → s.pcAllowance ≠ 0 → runs (.powerCycleRequest cause) s (fun t => (s.padOn s.active = true → Out.powerPulse ∈ t.sent) ∧
        t.pad.times = s.pad.times.filter (fun x => decide (s.optime < x + 98304)) ++ [s.optime])))

/-- Supplies, clamps, reference clocks, retired blocks and the throttle's acknowledgement (R53, R112, R113, R114, R119, R381, R382, R384, R385, R388, R484).
A supply that is lost or over current, by an input cell that serves, raises 0x8030 or 0x8031; a clamp that is put on, or taken off once the region behind it has been reset since, raises 0x8033 with its direction and neighbour; a lost region whose supply returns clamps its crossings from neighbours without power and may start again; a reference clock that is lost raises 0xC030 and one that returns 0xC031; a block of a retired context is counted; an acknowledged throttle no longer waits, and one that is not acknowledged is flagged. -/
def Obligations.SuppliesAndClocks : Prop :=
  ∀ (r : RegionId) (s : State),
    ((s.hall r.val).pgLoss = false → s.cellServes r.val = true → runs (.pgLossRecognised r) s (fun t => event s 0x8030 (puSupply r.val 0) r.val 3 ∈ t.transit)) ∧
    ((s.hall r.val).oc = false → s.cellServes r.val = true → runs (.overcurrentRecognised r) s (fun t => event s 0x8031 (puSupply r.val 0) r.val ∈ t.transit)) ∧
    (∀ (d : Dir) (q : Nat), regionTo r.val d = some q →
      (s.hall r.val).iso.getD (dirNo d) false = false →
        runs (.clampApply r d) s (fun t => (t.hall r.val).iso = (s.hall r.val).iso.set (dirNo d) true ∧
          raised s t 0x8033 (puHal r.val) (dirNo d) 1 q)) ∧
    (∀ (d : Dir) (q : Nat), regionTo r.val d = some q →
      (s.hall r.val).iso.getD (dirNo d) false = true → s.regionLost q = false → s.partReset q = false →
      (s.hall q).pgLoss = false → (s.hall q).oc = false → s.bhAlive s.active = true →
      (s.hall q).resetAt.any (fun x => decide ((s.hall r.val).isoAt.getD (dirNo d) 0 < x)) = true →
        runs (.clampRelease r d) s (fun t => (t.hall r.val).iso = (s.hall r.val).iso.set (dirNo d) false ∧
          raised s t 0x8033 (puHal r.val) (dirNo d) 0 q)) ∧
    ((s.hall r.val).lost = true →
      let back (u : State) : Prop := (u.hall r.val).pg = true ∧ u.resets = s.resets ∧ ((s.hall r.val).iso.length = 4 →
        ∀ (d : Dir) (q : Nat), regionTo r.val d = some q → (s.hall q).pg = false → (u.hall r.val).iso.getD (dirNo d) false = true)
      ((s.hall r.val).lostOc = true → runs (.lostRegionReturn r) s back) ∧
      ((s.hall r.val).lostOc = false → ((s.hall r.val).losses.filter (fun x => decide (s.optime < x + 98304))).length ≤ 1 →
        runs (.lostRegionReturn r) s (fun t => ∃ u, back u ∧ t = u.startPart r.val 4))) ∧
    (∀ missed : Nat, Tab.find r.val s.refLost = none → runs (.refclkLoss r missed) s (fun t =>
      Tab.find r.val t.refLost = some s.now ∧ event s 0xC030 (puHal r.val) r.val missed ∈ t.transit)) ∧
    (∀ us x : Nat, Tab.find r.val s.refLost = some x → runs (.refclkRestore r us) s (fun t =>
      Tab.find r.val t.refLost = none ∧
      t.transit = s.transit ++ [{ event s 0xC031 (puHal r.val) r.val us with wall := s.now }])) ∧
    (∀ (k : ClusterId) (ctx : Ctx) (bytes : BitVec 16), runs (.retiredBlockDiscard k ctx bytes) s (fun t =>
      (t.ctx ctx.toNat).seenCut = s.cutNo + 1 ∧
      (s.marks.contains (puTst k.val, 0x8052, 0) = false → ∃ e ∈ t.transit, e.code = 0x8052 ∧ e.puid = puTst k.val))) ∧
    runs (.throttleAck r) s (fun t => (t.thmOf r.val).waiting = false) ∧
    ((s.thmOf r.val).waiting = true → runs (.throttleAckTimeout r) s (fun t => t.isSet (uHAL r.val) HAL_THM_STAT_NOACK = true))

/-- A cut starts, a global stop and its resume (R392, R401, R404, R405, R499).
A cut that is due starts with the next number when none runs and the processors are up, and else waits; a stop that is not permitted raises 0x9022, one that is permitted starts a stop cut, a stop or resume at a wrong moment sets OVERRUN; a resume starts a resume cut, and so does a stop that has lasted as long as it may. -/
def Obligations.CutsAndStops : Prop :=
  ∀ (s : State),
    (s.stopped = false →
      (s.cut = none → s.firmDown = false → runs .cutStart s (fun t => t.cutNo = s.cutNo + 1 ∧
        t.cut = some ⟨s.cutNo + 1, .count, s.now, 0, 0, 0, []⟩ ∧ t.cutDue = false)) ∧
      (s.cut.isSome = true ∨ s.firmDown = true → runs .cutStart s (fun t => t = { s with cutDue := true }))) ∧
    (writable s uBRW = true → s.takingOver = false →
      (s.cut = none → s.firmDown = false → runs .cutGo s (fun t => t.cutNo = s.cutNo + 1 ∧
        t.cut = some ⟨s.cutNo + 1, .count, s.now, 0, 0, 0, []⟩)) ∧
      (s.cut.isSome = true → runs .cutGo s (fun t => t.isSet uBRW BRW_CUT_STAT_OVERRUN = true ∧ t.cut = s.cut ∧ t.cutNo = s.cutNo)) ∧
      (s.dbg.until_.isNone = true → runs .globalStop s (fun t => t.stop = s.stop ∧ raised s t 0x9022 s.puActive 1)) ∧
      (s.dbg.until_.isNone = false → s.stopped = false → s.cut = none → runs .globalStop s (fun t =>
        t.stop.phase = 1 ∧ t.stop.origin = 1 ∧ t.cut = some ⟨s.cutNo + 1, .stop, s.now, 0, 0, 0, []⟩)) ∧
      (s.stop.phase = 2 → s.cut = none → runs .globalResume s (fun t =>
        t.stop.phase = 3 ∧ t.stop.cause = 1 ∧ t.cut = some ⟨s.cutNo + 1, .resume, s.now, 0, 0, 0, []⟩)) ∧
      (s.stop.phase ≠ 2 → runs .globalResume s (fun t => t.isSet uBRW BRW_CUT_STAT_OVERRUN = true ∧ t.stop = s.stop ∧ t.cut = s.cut))) ∧
    (s.stop.phase = 2 → s.rd uBRW BRW_CUT_CFG_STOP_MAX_S ≠ 0 →
      (s.cut = none → runs .stopMaxTimeout s (fun t => t.stop.phase = 3 ∧ t.stop.cause = 2 ∧
        t.cut = some ⟨s.cutNo + 1, .resume, s.now, 0, 0, 0, []⟩)) ∧
      (s.cut.isSome = true → runs .stopMaxTimeout s (fun t => t = { s with stop := { s.stop with cause := 2 } })))

/-- Markers, channels and reports of a cut (R88, R394, R395, R396, R397, R398, R399, R400, R404, R405, R420, R423).
A node that can be marked takes its copies at the first marker of a cut, and answers a repeat as complete; a channel whose count agrees closes, one whose record does not come is flagged once its end has its marker, an edge without a marker takes its copies late; a field's report counts once every subtree below it has reported, in the sums it sends up the tree, or as flagged where it does not come, and that of the Brewhouse's own field completes the cut; a node shows its copies once; a core stops at a boundary in a stop, and one that does not is counted as flagged. -/
def Obligations.CutMarkers : Prop :=
  ∀ (s : State),
    (∀ (u : Node) (x : Sample), s.cutNo ≠ 0 → (s.cutUnit (cutKey u)).taken ≠ s.cutNo → s.markable u = true →
      runs (.cutMarker u x) s (fun t => (t.cutUnit (cutKey u)).taken = s.cutNo ∧
        (t.cutUnit (cutKey u)).wall = (s.localTime u).toNat ∧ (t.cutUnit (cutKey u)).cyc = x.cyc ∧ (t.cutUnit (cutKey u)).fillReset = (s.cutUnit (cutKey u)).wasReset)) ∧
    (∀ (u : Node) (x : Sample), s.cutNo ≠ 0 → (s.cutUnit (cutKey u)).taken = s.cutNo → s.markable u = true →
      runs (.cutMarker u x) s (fun t => t = s.emit (.ask 0x395 (puNode u) (puRtr (nodeField u)) (cutName s.cutNo)))) ∧
    (∀ (c : Channel) (sent : BitVec 32), s.cutNo ≠ 0 → (s.chan (chanNo c)).closedAt ≠ s.cutNo →
      sent.toNat = s.chanGot c ∨ s.chanVoid c = true →
      runs (.channelMarker c sent) s (fun t => t = s.updChan (chanNo c) (fun x => { x with closedAt := s.cutNo, flagged := false }))) ∧
    (∀ (c : Channel), s.cutNo ≠ 0 → (s.chan (chanNo c)).closedAt ≠ s.cutNo → (s.cutUnit (chanEnd c).1).taken = s.cutNo →
      runs (.channelRecordTimeout c) s (fun t => t = s.updChan (chanNo c) (fun x => { x with closedAt := s.cutNo, flagged := true }))) ∧
    (∀ (e : Edge), s.cutNo ≠ 0 → runs (.edgeMarkerTimeout e) s (fun t => (t.cutUnit (edgeKey e)).taken = s.cutNo ∧
      (t.cutUnit (edgeKey e)).fillClk = true ∧ (t.cutUnit (edgeKey e)).wall = s.now)) ∧
    (∀ (f : FieldId) (rep : Report) (x : CutRun), s.cut = some x → x.sums.any (·.1 == f.val) = false →
      ((s.cutKids f.val).all (fun g => x.sums.any (·.1 == g)) = false → runs (.cutReport f rep) s (fun t => t = s)) ∧
      ((s.cutKids f.val).all (fun g => x.sums.any (·.1 == g)) = true →
        (f.val ≠ Config.host.brewField s.active → runs (.cutReport f rep) s (fun t =>
          let u : State := { s with cut := some { x with sums := x.sums ++ [(f.val, cutSum rep x (s.cutKids f.val))] } }
          t.cut = u.cut ∧ (s.cutUp f.val = none → t = u))) ∧
        (f.val = Config.host.brewField s.active → s.stop.cause = 0 → s.cutDue = false →
          runs (.cutReport f rep) s (fun t => t.cut = none ∧ t.cutNo = s.cutNo)))) ∧
    (∀ (f : FieldId) (units : Nat) (x : CutRun), s.cut = some x → x.sums.any (·.1 == f.val) = false →
      (f.val ≠ Config.host.brewField s.active → runs (.cutReportTimeout f units) s (fun t =>
        t = { s with cut := some { x with sums := x.sums ++ [(f.val, ⟨0, units, 0⟩)] } })) ∧
      (f.val = Config.host.brewField s.active → s.stop.cause = 0 → s.cutDue = false →
        runs (.cutReportTimeout f units) s (fun t => t.cut = none ∧ t.cutNo = s.cutNo))) ∧
    (∀ (u : Node), s.cutDoneNo ≠ 0 → (s.cutUnit (cutKey u)).taken = s.cutDoneNo → (s.cutUnit (cutKey u)).shown ≠ s.cutDoneNo →
      runs (.cutDone u) s (fun t => (t.cutUnit (cutKey u)).shown = s.cutDoneNo)) ∧
    (∀ (k : ClusterId) (p : CoreId),
      (s.unitStopped (uTST k.val) = true → runs (.coreStopped k p) s (fun t => (t.core (ckey k.val p.val)).stopped = true)) ∧
      (∀ x : CutRun, s.cut = some x → x.kind = .stop → (s.core (ckey k.val p.val)).stopped = false →
        runs (.stopCoreTimeout k p) s (fun t => t = { s with cut := some { x with flagged := x.flagged + 1 } })))

/-- Attribution bins, counter configurations and the trace (R409, R410, R413, R414, R416, R433).
A write of an attribution bin stores its match fields in that bin of the cluster, or of every cluster in a broadcast; a counter's configuration is stored and its count starts at 0; a record that memory takes leaves the buffer and stands in the segment; a restart empties every segment's state; a mark is traced at every cluster that traces. -/
def Obligations.CountersAndTrace : Prop :=
  ∀ (k : ClusterId) (s : State),
    (∀ data : Word, writable s (uTST k.val) = true → s.takingOver = false →
      (s.isSet (uTST k.val) TST_ATB_SEL_BCAST = false → runs (.attributionBinWrite k data) s (fun t =>
        t.bin (64 * k.val + s.rd (uTST k.val) TST_ATB_SEL_BIN) =
          ⟨s.rd (uTST k.val) TST_ATB_MATCH_LAYER, s.rd (uTST k.val) TST_ATB_MATCH_OP, s.rd (uTST k.val) TST_ATB_MASK_LAYER,
            s.rd (uTST k.val) TST_ATB_MASK_OP, bit data.toNat 0⟩)) ∧
      (s.isSet (uTST k.val) TST_ATB_SEL_BCAST = true → runs (.attributionBinWrite k data) s (fun t => ∀ j ∈ allClusters,
        (t.bin (64 * j + s.rd (uTST k.val) TST_ATB_SEL_BIN)).en = bit data.toNat 0)) ∧
      runs (.counterConfigWrite k data) s (fun t =>
        t.bankCfg (128 * k.val + s.rd (uTST k.val) TST_CNT_SEL_INDEX) = ⟨bits data.toNat 5 0, bits data.toNat 14 8⟩ ∧
        t.cnt (uTST k.val) TST_CNT_COUNT (s.rd (uTST k.val) TST_CNT_SEL_INDEX) = 0)) ∧
    (∀ (x : TraceRec) (xs : List TraceRec), s.stageHeld k.val 7 = false → (s.seg k.val).buffer = x :: xs →
      runs (.traceWrite k false) s (fun t => t = s) ∧
      runs (.traceWrite k true) s (fun t => (t.seg k.val).buffer = xs ∧
        ((s.seg k.val).stopped = false → s.segCap ≠ 0 →
          t.mem = (s.poke (s.segKey k.val (s.seg k.val).next) (recBytes x)).mem))) ∧
    (∀ data : Word, writable s uLFT = true → s.takingOver = false →
      (bit data.toNat 0 = true → runs (.traceRestart data) s (fun t => ∀ j,
        (t.seg j).next = 0 ∧ (t.seg j).wrapped = false ∧ (t.seg j).stopped = false ∧ (t.seg j).buffer = (s.seg j).buffer)) ∧
      runs (.traceMark data) s (fun t => t = (s.count uBRW BRW_WIN_WR_COUNT).each
        (allClusters.filter (fun j => (s.count uBRW BRW_WIN_WR_COUNT).tracing j)) (fun s j => s.trace j 7 0x53 none none data.toNat)))

/-- The event at the front is recorded, programmed and erased, and the stores are read through their windows (R26, R71, R257, R263, R274, R380, R418, R425, R427, R428, R430, R431, R499).
While the active Brewhouse records, the front event is staged in an attic that has room, and told once to the Hall of its region where its source is no Hall; with none that records the events wait, and their Halls are told; programming moves what is staged to flash while an active Brewhouse runs; an erase leaves only its own record; one step of operating time is counted and the pad rewritten; a drained wafer raises 0x4032; a read of a window answers the word of that address. -/
def Obligations.AtticAndHistory : Prop :=
  ∀ (s : State),
    (s.recording = false → runs .eventRecord s (fun t => t.attic = s.attic ∧ t.transit = s.transit.map (fun e => { e with told := true }) ∧
      ∀ e ∈ s.transit, e.told = false → puidKind e.puid ≠ 3 → Out.ask 0x26 e.puid (puHal (regionOfPuid e.puid)) e.code ∈ t.sent)) ∧
    (∀ (e : Ev) (es : List Ev), s.transit = e :: es → s.recording = true →
      (e.told = false → puidKind e.puid ≠ 3 → runs .eventRecord s (fun t => Out.ask 0x26 e.puid (puHal (regionOfPuid e.puid)) e.code ∈ t.sent)) ∧
      (s.attic.full = false → s.attic.nextSeq < 0xFFFFFFFF → s.attic.staged.length < stagingSize →
        runs .eventRecord s (fun t => s.attic.staged ++ [s.atticRec e s.attic.nextSeq] <+: t.attic.staged)) ∧
      (s.attic.full = true → runs .eventRecord s (fun t =>
        t.attic.staged = s.attic.staged ∧ t.attic.flash = s.attic.flash ∧ t.attic.nextSeq = s.attic.nextSeq))) ∧
    (s.firmDown = false → runs .historyProgram s (fun t => t = { s with histFlash := s.hist, histStaged := [] }) ∧
      (s.bhAlive s.active = false → runs .atticProgram s (fun t => t = s)) ∧
      (s.bhAlive s.active = true → s.attic.erasing = none → runs .atticProgram s (fun t =>
        t.attic.flash = s.attic.flash ++ s.attic.staged ∧ t.attic.staged = []))) ∧
    (∀ held last : Nat, s.attic.erasing = some (held, last) → runs .atticEraseDone s (fun t => t.attic.erasing = none ∧
      t.attic.dropped = 0 ∧ t.attic.flash.map (fun r => (r.seq, r.p5, r.p6)) = [(last + 1, held % 2 ^ 32, last % 2 ^ 32)])) ∧
    runs .optimeAdvance s (fun t => t.attic.n = s.attic.n + 1 ∧ t.attic.nWall = s.now ∧ t.pad.allow = t.pcAllowance) ∧
    (s.rd uBRW BRW_WAFER_Q_STATE = 1 → s.ctxs.all (fun e => e.1 == 0 || e.2.state != 1) = true →
      runs .waferDrained s (fun t => t.rd uBRW BRW_WAFER_Q_STATE = 2 ∧
        event s 0x4032 s.puActive ((s.now - s.drainSince) / 1000000) ∈ t.transit)) ∧
    (s.takingOver = false →
      runs .loftWindowRead s (fun t => t.sent.head? = some (.word (BitVec.ofNat 32 (s.winWord (regAt uLFT 0x8C))))) ∧
      runs .historyWindowRead s (fun t => t.sent.head? = some (.word (BitVec.ofNat 32 (s.winWord (regAt uBRW 0x9C))))) ∧
      runs .atticWindowRead s (fun t => t.sent.head? = some (.word (BitVec.ofNat 32 (s.winWord (regAt uATT 0x7C))))))

/-- Seeds are set at every Hall, and a draw is the block function of seed and counter (R447, R449, R450, R452, R453).
A seed is set only for a context that may take one, and is then told to the Hall of every region in use; the last Hall to agree settles it and a Hall still waited for does not; a draw whose seed the Taster holds answers the block of that seed and counter, and the calculation port does the same with its own key, or refuses a counter that is not a draw's. -/
def Obligations.Draws : Prop :=
  ∀ (s : State),
    (∀ (data : Word) (c : Nat), writable s uDRW = true → s.takingOver = false → bit data.toNat 31 = true → c = s.rd uDRW DRW_SEED_SEL_CTX →
      (s.seedMay c = false → runs (.drwSeedSet data) s (fun t => t.prv.setting = s.prv.setting ∧
        t.rd uDRW DRW_SEED_CTRL_STATUS = 2 ∧
        (s.marks.contains (s.puActive, 0xD031, 0) = false → event s 0xD031 s.puActive c ∈ t.transit))) ∧
      (s.seedMay c = true → runs (.drwSeedSet data) s (fun t => ∀ r, r < Config.host.regions → s.regionLost r = false →
        (s.unit (puHal r)).absent = false → (s.unit (puHal r)).off = false → Out.ask 0x449 s.puActive (puHal r) c ∈ t.sent))) ∧
    (∀ (r : RegionId) (x : SeedSet), s.prv.setting = [x] →
      (r.val ∈ x.left → (∃ q ∈ x.left, q ≠ r.val) → runs (.seedSetAnswer r) s (fun t =>
        t.prv.setting = [seedAnswerOf x r.val (s.prv.served.contains (r.val, x.ctx))] ∧ t.seeds = s.seeds)) ∧
      (x.left = [r.val] → x.refused = false → s.prv.served.contains (r.val, x.ctx) = false →
        runs (.seedSetAnswer r) s (fun t => t.prv.setting = [] ∧ t.seedOf x.ctx = some x.seed))) ∧
    (∀ (k : ClusterId) (ctx : Ctx) (layer oper : BitVec 16) (step : Step) (idx : BitVec 35) (ctr : Nat) (e : Nat × Nat),
      s.unitStopped (uTST k.val) = false → (s.rplOf k.val).drawWait = [] →
      ctr = drawCounter ctx.toNat layer.toNat oper.toNat step.toNat (2 ^ 35 + idx.toNat) →
      (s.rplOf k.val).seeds.find? (fun e => e.1 == ctr / 2 ^ 116) = some e →
      runs (.drawRequest k ctx layer oper step idx) s (fun t =>
        t.sent = .ask 0x452 (puTst k.val) (puTst k.val) (drawOf e.2 ctr) :: s.sent ∧ (t.ctx ctx.toNat).drawn = true ∧
        (t.rplOf k.val).drawWait = [])) ∧
    (∀ data : Word, writable s uDRW = true → s.takingOver = false → bit data.toNat 31 = true →
      (bit data.toNat 0 = true → runs (.drawCalc data) s (fun t => t.rd uDRW DRW_CALC_STAT_CODE = 1 ∧
        t.rd uDRW DRW_CALC_OUT = drawOf (s.rd uDRW DRW_KAT_KEY) (s.rd uDRW DRW_CALC_CTR) % 2 ^ DRW_CALC_OUT.width)) ∧
      (bit data.toNat 0 = false → bit (s.rd uDRW DRW_CALC_CTR) 35 = true → runs (.drawCalc data) s (fun t =>
        t.rd uDRW DRW_CALC_STAT_CODE = 1 ∧ t.rd uDRW DRW_CALC_OUT =
          drawOf (s.seedNow (s.rd uDRW DRW_SEED_SEL_CTX)) (s.rd uDRW DRW_CALC_CTR) % 2 ^ DRW_CALC_OUT.width)) ∧
      (bit data.toNat 0 = false → bit (s.rd uDRW DRW_CALC_CTR) 35 = false → runs (.drawCalc data) s (fun t =>
        t.rd uDRW DRW_CALC_STAT_CODE = 2 ∧ t.rd uDRW DRW_CALC_OUT = s.rd uDRW DRW_CALC_OUT)))

/-- Weight-set reports, provenance digests and the compared pair (R454, R455, R457, R458, R459, R463, R464, R465, R468, R471).
A Cellar's oldest report is taken off and noted under its set; a provenance step of a context that has provenance chains the digest of its bytes; enabling starts the chain at 0 and disabling ends it; a pair's step that runs out of time closes; a peer's digest for a step not known yet is kept, its values are added, and a step unmatched in time is settled. -/
def Obligations.ProvenanceAndPair : Prop :=
  ∀ (s : State),
    (∀ (c : StackId) (rep : List (Nat × Nat × Nat × Bool)) (rest : List (List (Nat × Nat × Nat × Bool))), (s.cel c.val).reports = rep :: rest →
      runs (.weightSetReport c) s (fun t => (t.cel c.val).reports = rest ∧
        (∀ y, rep = [y] → ∃ r ∈ t.prv.reports, r.set = y.1 ∧ r.stack = c.val ∧ r.sum = y.2.1))) ∧
    (∀ (x : StepRec) (rest : List StepRec), s.prv.queue = x :: rest → runs .provenanceStep s (fun t => t.prv.queue = rest ∧
      (s.isSet uPRV PRV_CTX_CFG_PROV x.ctx = false ∨ s.isSet uPRV PRV_STAT_BROKEN x.ctx = true → t.prv.chain = s.prv.chain) ∧
      (s.isSet uPRV PRV_CTX_CFG_PROV x.ctx = true → s.isSet uPRV PRV_STAT_BROKEN x.ctx = false →
        Tab.get (fun _ => 0) t.prv.chain x.ctx = sha3Nat (s.provBytes x)))) ∧
    (∀ (data : Word) (c : Nat), writable s uPRV = true → s.takingOver = false → c = s.rd uPRV PRV_SEL_CTX →
      (bit data.toNat 0 = false → runs (.provenanceEnable data) s (fun t => t.isSet uPRV PRV_CTX_CFG_PROV c = false ∧
        t.prv.chain = s.prv.chain)) ∧
      (bit data.toNat 0 = true → s.isSet uPRV PRV_CTX_CFG_PROV c = true ∨ s.provCtxs.length < 256 →
        runs (.provenanceEnable data) s (fun t => t.isSet uPRV PRV_CTX_CFG_PROV c = true ∧
          t.isSet uPRV PRV_STAT_BROKEN c = false ∧ Tab.get (fun _ => 0) t.prv.chain c = 0))) ∧
    (∀ (k : ClusterId) (c x : Nat), s.pairCtx = some c → (s.pairOf k.val).cur = some x →
      runs (.pairStepTimeout k) s (fun t => (t.pairOf k.val).values = [] ∧ (t.pairOf k.val).partial_ = false ∧
        (t.pairOf k.val).sums = [])) ∧
    (∀ (n : DoorId) (r : List Byte),
      (leAt r 0 1 = 1 → leAt r 2 2 % 1024 < 840 → s.pairCtx.isNone = false → s.pairStepOf (leAt r 2 2 % 1024) (leAt r 4 6) = none →
        runs (.pairDigestRecord n r) s (fun t => (t.pairOf (leAt r 2 2 % 1024)).steps.head? =
          some ⟨leAt r 4 6, 0, false, [], some (leAt r 16 16, bit (leAt r 1 1) 0), [], false, 4, s.now⟩)) ∧
      (leAt r 0 1 = 2 → leAt r 2 2 % 1024 < 840 → runs (.pairValue n [r]) s (fun t =>
        (t.pairStepOf (leAt r 2 2 % 1024) (leAt r 4 6)).map (·.peerVals) =
          (s.pairStepOf (leAt r 2 2 % 1024) (leAt r 4 6)).map (fun y => y.peerVals ++ [leAt r 16 16])))) ∧
    (∀ (k : ClusterId) (step : Step) (y : PairStep), s.pairStepOf k.val step.toNat = some y → y.state = 0 → y.peer.isNone = true →
      runs (.pairUnmatchedTimeout k step) s (fun t => (t.pairStepOf k.val step.toNat).map (·.state) = some 1 ∧
        (s.marks.contains (puTst k.val, 0xD011, 0) = false → ∃ e ∈ t.transit, e.code = 0xD011 ∧ e.puid = puTst k.val)))

/-- Sensor readings, the throttle ladders and the power estimate (R476, R479, R482, R483, R485).
A reading of a sound calibrated sensor stores its interpolated temperature, one out of range breaks it with reason 1 and an uncalibrated sensor breaks with reason 5; the band's ladder deepens in band 4 only and releases outside it, the power cap's by its cause; the estimate in watts is the idle power, the counted work and the region's share of the posture's watts, at most 65,535. -/
def Obligations.SensorsAndThrottle : Prop :=
  ∀ (s : State),
    (∀ (f : FieldId) (i : Fin 16) (raw : BitVec 16), sensorThere f.val i.val = true → (s.sensor (16 * f.val + i.val)).broken = 0 →
      (∀ (cal : List (Int × Nat)) (v : Int), Tab.find (puSensor f.val i.val) s.fw.cal = some cal → interpolate cal raw.toNat = some v →
        (-640 ≤ v → v ≤ 2400 → (s.sensor (16 * f.val + i.val)).read = false → runs (.sensorReading f i raw) s (fun t =>
          (t.sensor (16 * f.val + i.val)).temp = v ∧ (t.sensor (16 * f.val + i.val)).raw = raw.toNat ∧
          (t.sensor (16 * f.val + i.val)).read = true ∧ (t.sensor (16 * f.val + i.val)).broken = 0)) ∧
        (v < -640 ∨ 2400 < v → runs (.sensorReading f i raw) s (fun t => (t.sensor (16 * f.val + i.val)).broken = 1 ∧
          ∃ e ∈ t.transit, e.code = 0x1002 ∧ e.puid = puSensor f.val i.val ∧ e.p5 = 1))) ∧
      (Tab.find (puSensor f.val i.val) s.fw.cal = none → runs (.sensorReading f i raw) s (fun t =>
        (t.sensor (16 * f.val + i.val)).broken = 5))) ∧
    (∀ (r : RegionId),
      (s.rd (uHAL r.val) HAL_THM_STAT_BAND = 4 →
        runs (.ladderDeepen r .band) s (fun t =>
          (t.thmOf r.val).bandLvl = deeper (s.rd (uHAL r.val) HAL_THM_STAT_METHOD) (s.thmOf r.val).bandLvl) ∧
        runs (.ladderRelease r .band) s (fun t => t = s)) ∧
      (s.rd (uHAL r.val) HAL_THM_STAT_BAND ≠ 4 →
        runs (.ladderDeepen r .band) s (fun t => t = s) ∧
        runs (.ladderRelease r .band) s (fun t => (t.thmOf r.val).bandLvl = (s.thmOf r.val).bandLvl - 1)) ∧
      ((s.thmOf r.val).capCause = true →
        runs (.ladderDeepen r .cap) s (fun t =>
          (t.thmOf r.val).capLvl = deeper (s.rd (uHAL r.val) HAL_THM_STAT_METHOD) (s.thmOf r.val).capLvl) ∧
        runs (.ladderRelease r .cap) s (fun t => t = s)) ∧
      ((s.thmOf r.val).capCause = false →
        runs (.ladderDeepen r .cap) s (fun t => t = s) ∧
        runs (.ladderRelease r .cap) s (fun t => (t.thmOf r.val).capLvl = (s.thmOf r.val).capLvl - 1)) ∧
      (s.variant.power = none → runs (.powerEstimate r) s (fun t => t = s)) ∧
      (∀ idle pjProd pjL1 pjL2 rest, s.variant.power = some (idle, pjProd, pjL1, pjL2, rest) →
        s.procDown (match s.active with | .a => 65 | .b => 73) = false →
        runs (.powerEstimate r) s (fun t => (t.thmOf r.val).lastProd = (s.thmOf r.val).prod ∧
          t.rd (uHAL r.val) HAL_PWR_EST_W = min 65535 (((idle * 1000000000
            + (gained (s.thmOf r.val).lastProd (s.thmOf r.val).prod * pjProd
              + gained (s.thmOf r.val).lastL1 (((clustersOf r.val).map (fun k =>
                  s.cnt (uTST k) TST_L1_RD_BYTES + s.cnt (uTST k) TST_L1_WR_BYTES)).sum) * pjL1
              + gained (s.thmOf r.val).lastL2 (((stacksOf r.val).flatMap (fun c => (List.range 16).map (fun ch =>
                  s.cnt (uCEL c) CEL_BYTES_DELIV ch + s.cnt (uCEL c) CEL_BYTES_WRITTEN ch))).sum) * pjL2)) * nRegions
            + postureWatts (s.posture r.val) * 1000000000) / (nRegions * 1000000000)))))

/-- Limits trip and tighten, and an emergency ends (R481, R486, R487, R488, R489, R492, R493).
A limit that trips in a region that is not lost raises 0x1020 with its number and measured value; a clock ratio that persists shutters the region with 0x1011; a shuttered region starts again once nothing holds it; the junction and clock limits can only be tightened, within their floor; an emergency with no region left ends with 0x1031. -/
def Obligations.LimitsAndEmergency : Prop :=
  ∀ (s : State),
    (∀ (r : RegionId) (l : Limit) (measured : Nat),
      ((s.hall r.val).lost = true → runs (.limitTrip r l measured) s (fun t => t = s)) ∧
      ((s.hall r.val).lost = false → runs (.limitTrip r l measured) s (fun t =>
        ∃ e ∈ t.transit, e.code = 0x1020 ∧ e.p5 = limitNo l ∧ e.p6 = measured % 2 ^ 32))) ∧
    (∀ (r : RegionId) (count : Nat), (s.thmOf r.val).trips.contains 5 = true → (s.hall r.val).shut = false → (s.hall r.val).lost = false →
      runs (.clockRatioPersist r count) s (fun t => ∃ e ∈ t.transit, e.code = 0x1011 ∧ e.puid = puHal r.val ∧ e.p5 = 5)) ∧
    (∀ (r : RegionId) (s1 : State), (s.hall r.val).shut = true →
      s1 = (s.clearTrips r.val).updThmOf r.val (fun y => { y with clearAt := s.now }) →
      ((s1.thmOf r.val).trips.isEmpty = true → s.rd (uHAL r.val) HAL_THM_STAT_BAND ≤ 3 → (s1.thmOf r.val).shuts.length ≤ 1 →
        runs (.shutterReturn r) s (fun t => t = s1.startPart r.val 5)) ∧
      ((s1.thmOf r.val).trips.isEmpty = false → runs (.shutterReturn r) s (fun t => t = s1))) ∧
    (∀ data : Word, writable s uTHM = true → s.takingOver = false →
      (105 ≤ data.toNat % 256 → data.toNat % 256 < s.tj → runs (.limitTighten 0x54 data) s (fun t =>
        ((∀ r i, i ∈ sensorsOf r → (s.sensor i).temp < 16 * ((data.toNat % 256 : Nat) : Int)) →
          t.rd uTHM THM_LIM_TJ_TJ = data.toNat % 256 ∧ t.thm = s.thm) ∧
        event s 0x1021 s.puActive 1 (s.rd uTHM THM_LIM_TJ_TJ) (data.toNat % 256) ∈ t.transit)) ∧
      (data.toNat % 256 < 105 ∨ s.tj ≤ data.toNat % 256 → runs (.limitTighten 0x54 data) s (fun t => t.regs = s.regs)) ∧
      (data.toNat % 65536 < s.rd uTHM THM_LIM_CLK_CYC → s.variant.nominal ≤ data.toNat % 65536 →
        runs (.limitTighten 0x5C data) s (fun t => t.rd uTHM THM_LIM_CLK_CYC = data.toNat % 65536)) ∧
      (s.rd uTHM THM_LIM_CLK_CYC ≤ data.toNat % 65536 → runs (.limitTighten 0x5C data) s (fun t => t.regs = s.regs))) ∧
    (∀ s1 : State, s1 = s.each (s.thm.map (·.1)) (fun s r => if (s.hall r).shut then s else s.clearTrips r) →
      s.emerg.active = true → s1.emergRegions = ([], [], []) →
      runs .emergencyEnd s (fun t => t.emerg = ⟨false, 0, 0⟩ ∧
        event s 0x1031 s.puActive ((s.now - s.emerg.since) / 1000000) s.emerg.held ∈ t.transit))

/-- Power on, the stages of bring-up and the loads of the cores (R14, R118, R153, R257, R511, R513, R515, R524, R525).
Power on keeps the flash stores, the history as programmed, makes the pads live and starts stage 1 with the wall at 0; a stage that passes goes to the next, one that stops sets STOPPED, a reserved PUID among the failed, and a lane without its loop-back result, counting for nothing; an xSPI bus that hangs puts Brewhouse A out; a core's bad load is noted once, and a good one clears the note; a second bad load has firmware ask the store's Cellar for a scan, whose clean end fails the core with 0x7030. -/
def Obligations.BootAndLoads : Prop :=
  ∀ (s : State),
    runs .powerOn s (fun t => t.hist = s.histFlash ∧ t.pad.live = true ∧ t.transit = [] ∧ t.wall = 0 ∧ t.fw.stage = 1 ∧
      t.attic.flash = s.attic.flash ∧ t.mem = Tab.range (2 ^ 40) (2 ^ 41) s.mem ∧ t.resets = []) ∧
    (∀ (res : StageResult) (s1 : State) (stop : Nat), s.fw.stage ≠ 0 → s.fw.stage ≤ 11 → s.isSet uBRW BRW_BOOT_STOPPED = false →
      s.stageWork s.fw.stage ((res.failed.filter (fun p => puidOk p.toNat && (puidKind p.toNat != 9 || res.loops.any (·.lane == p)))).map (·.toNat)) res.loops = (s1, stop) →
      (stop = 0 → (s1.stopReason s.fw.stage res.usable).1 = 0 → runs (.bringupStage res) s (fun t =>
        t.fw.stage = s.fw.stage + 1 ∧ t.rd uBRW BRW_BOOT_STAGE = s.fw.stage)) ∧
      (stop ≠ 0 → runs (.bringupStage res) s (fun t => t.isSet uBRW BRW_BOOT_STOPPED = true ∧ t.fw.stage = s1.fw.stage))) ∧
    (s.fw.stage = 2 → s.isSet uBRW BRW_BOOT_STOPPED = false →
      runs .xspiBusTimeout s (fun t => t = { s with fw := { s.fw with outA := true } })) ∧
    (s.fw.stage ≠ 2 → runs .xspiBusTimeout s (fun t => t = s)) ∧
    (∀ (k : ClusterId) (p : CoreId), s.fw.image ≠ [] → (s.unit (puCore k.val p.val)).off = false →
      (s.unit (puCore k.val p.val)).absent = false → (s.logicalOf k.val p.val).isNone = false →
      runs (.bootLoadDone k p false) s (fun t => t.fw.badLoads = s.fw.badLoads.filter (· != ckey k.val p.val)) ∧
      (s.fw.badLoads.contains (ckey k.val p.val) = false →
        runs (.bootLoadDone k p true) s (fun t => t.fw.badLoads = s.fw.badLoads ++ [ckey k.val p.val])) ∧
      (s.fw.badLoads.contains (ckey k.val p.val) = true → runs (.bootLoadDone k p true) s (fun t =>
        t.fw.badLoads = s.fw.badLoads.filter (· != ckey k.val p.val) ∧
        t.fw.checks = s.fw.checks ++ [(regionOfCluster k.val, ckey k.val p.val + 1)] ∧
        ((s.scan (uCEL (storeCellar (regionOfCluster k.val)))).busy = false →
          t.rd (uCEL (storeCellar (regionOfCluster k.val))) CKU_SCAN_STAT_ORIGIN = 1)))) ∧
    (∀ (r : RegionId) (k : ClusterId) (p : CoreId) (data : List Byte) (err : ReadErr) (s1 : State),
      let v := storeEngine r.val
      let u := uCEL (storeCellar r.val)
      s1 = scanLineDone s v data err → (s.scan u).busy = true → (s.scan u).origin = 1 → (s1.scan u).busy = false →
      s1.rd u CKU_SCAN_STAT_CODE = 0 → s.fw.checks.find? (·.1 == r.val) = some (r.val, ckey k.val p.val + 1) →
      runs (.scanLineDone v data err) s (fun t => (t.unit (puCore k.val p.val)).off = true ∧
        ∃ e ∈ t.transit, e.code = 0x7030 ∧ e.puid = puCore k.val p.val))

/-- A bundle is verified, processors load and switch, and a trial ends (R499, R527, R528, R529, R530, R532, R533, R534, R535, R542, R557, R577).
A staged bundle that passes becomes valid with 0xA001, one that fails gives its reason with 0xA002; an activation that was held goes on once nothing holds it; a processor whose load hashes right is ready to switch, its switch raises 0xA005; a watchdog that fires for the first or second time restarts the processor from the slot it runs; a trial that holds is cleared with 0xA007. -/
def Obligations.FirmwareRuns : Prop :=
  ∀ (s : State),
    (∀ (why : Nat) (h : BundleHead), s.rd uBRW BRW_FW_STAT_STATE = 2 → h = bundleHead (s.slotBytes (1 - s.fw.boot)) →
      why = bundleReason (s.slotBytes (1 - s.fw.boot)) (Tab.get (fun _ => 0) s.dl 1) (s.rd uBRW BRW_FW_SVN_MIN) s.fw.intkey →
      runs (.bundleVerify false) s (fun t => if why = 0 then
          t.rd uBRW BRW_FW_STAT_STATE = 3 ∧ bit t.fw.valid (1 - s.fw.boot) = true ∧ event s 0xA001 s.puActive h.fwver h.svn h.length ∈ t.transit
        else t.rd uBRW BRW_FW_STAT_STATE = 4 ∧ t.fw.valid = s.fw.valid ∧ event s 0xA002 s.puActive why h.fwver 1 ∈ t.transit)) ∧
    (∀ (a : ActRun) (x : Nat), s.fw.act = some a → a.heldAt = some x →
      (s.holdBits ≠ 0 → runs .activationResume s (fun t => t = s)) ∧
      (s.holdBits = 0 → runs .activationResume s (fun t =>
        t = ((((s.bump uBRW BRW_FW_HOLD_MS ((s.now - x) / 1000000)).updAct (fun y => { y with heldAt := none })).wr
          uBRW BRW_FW_STAT_STATE 5).showHold).actGo actFuel))) ∧
    (∀ (i : Byte) (sha : BitVec 384), (s.proc i.toNat).state = 1 →
      (sha.toNat = s.slotComp (s.proc i.toNat).next (procKind i.toNat) → runs (.processorLoadDone i sha) s (fun t =>
        (t.proc i.toNat).state = 2 ∧ (i.toNat < 64 → (t.hall i.toNat).procHeld = true))) ∧
      (sha.toNat ≠ s.slotComp (s.proc i.toNat).next (procKind i.toNat) → runs (.processorLoadDone i sha) s (fun t => t = s))) ∧
    (∀ (i : Byte) (us : Nat), (s.proc i.toNat).state = 2 → s.marks.contains (procPuid i.toNat, 0xA005, 0) = false →
      runs (.processorSwitchDone i us) s (fun t =>
        event s 0xA005 (procPuid i.toNat) i.toNat (s.proc i.toNat).cause us ∈ t.transit)) ∧
    (∀ (i : Byte) (ws : List Nat), allProcs.contains i.toNat = true → (s.proc i.toNat).state ≠ 3 →
      s.dbg.halted.any (fun h => h.1 == i.toNat) = false → s.procThere i.toNat = true →
      ws = (s.proc i.toNat).wdog.filter (fun x => decide (s.now < x + 600000000000)) ++ [s.now] → ws.length < 3 →
      runs (.processorWatchdog i) s (fun t => (t.proc i.toNat).state = 2 ∧ (t.proc i.toNat).wdog = ws ∧ t.fw.quietAt = s.now ∧
        ((s.proc i.toNat).state ≠ 2 → (t.proc i.toNat).next = (s.proc i.toNat).slot ∧ (t.proc i.toNat).cause = 2))) ∧
    (s.fw.trial = true → runs .trialClear s (fun t => t.fw.trial = false ∧ t.fw.tries = 0 ∧
      raised s t 0xA007 s.puActive (s.slotVer s.fw.boot)))

/-- Mailbox slots are taken, and contexts are opened, seeded, resumed, fed and closed by messages (R254, R263, R383, R385, R386, R449, R457, R499, R538, R545, R549, R550).
A slot whose number has changed is taken once; a hello answers, frees what was kept and makes the host present; a context opens from the free state, else the message is refused with status 5, and a context that is closed retires with 0x8050; a seed goes to every Hall or is refused; a context resumes after its taint; an input is declared and its data taken in order; a mark is recorded. -/
def Obligations.MessagesOfContexts : Prop :=
  ∀ (s : State) (m : Msg),
    (s.recording = true → s.firmDown = false → ∀ (changed : List (Fin 64)) (n : Fin 64),
      Tab.get (fun _ => 0) s.mbx.slots (64 * n.val + 1) ≠ 0 → n ∉ changed →
      runs (.mailboxScan changed) s (fun t => t.slotAck n.val = Tab.get (fun _ => 0) s.mbx.slots (64 * n.val + 1))) ∧
    (first s 0x0001 m → runs .hello s (fun t => t.mbx.hbAt = s.now ∧ t.mbx.kept = [] ∧ t.mbx.note = 0 ∧ t.absent = false ∧
      ∃ c ∈ t.mbx.out, c.ctype = 2 ∧ c.mseq = m.seq ∧ c.slot = m.slot)) ∧
    (first s 0x0101 m → m.ctx ≠ 0 →
      ((s.ctx m.ctx).state = 0 → s.handedOff = true → s.rd uBRW BRW_WAFER_Q_STATE = 0 → s.isSet uBRW BRW_WAFER_Q_REPLACE = false →
        runs .ctxOpen s (fun t => (t.ctx m.ctx).state = 1 ∧ (hears s m → told t m 0))) ∧
      ((s.ctx m.ctx).state ≠ 0 → runs .ctxOpen s (fun t => t.ctx m.ctx = s.ctx m.ctx ∧ (hears s m → told t m 5)))) ∧
    (first s 0x0102 m →
      (s.inUse m.ctx = true → runs .ctxTeardown s (fun t => event s 0x8050 s.puActive m.ctx ∈ t.transit)) ∧
      (s.inUse m.ctx = false → runs .ctxTeardown s (fun t => t.ctxs = s.ctxs ∧ (hears s m → told t m 5)))) ∧
    (first s 0x0103 m →
      (s.seedMay m.ctx = false → runs .seedSet s (fun t => t.prv.setting = s.prv.setting ∧ t.seeds = s.seeds ∧
        t.rd uDRW DRW_SEED_CTRL_STATUS = 2)) ∧
      (s.seedMay m.ctx = true → runs .seedSet s (fun t => ∀ r, r < Config.host.regions → s.regionLost r = false →
        (s.unit (puHal r)).absent = false → (s.unit (puHal r)).off = false → Out.ask 0x449 s.puActive (puHal r) m.ctx ∈ t.sent))) ∧
    (first s 0x0104 m →
      (∀ x, (s.ctx m.ctx).taint = some x → s.inUse m.ctx = true → leAt m.payload 0 6 < x →
        runs .ctxResume s (fun t => t = (((inHand s m).updCtx m.ctx (fun y => { y with taint := none })).regate m.ctx).answer m 0 [])) ∧
      ((s.ctx m.ctx).taint = none → runs .ctxResume s (fun t => t.ctxs = s.ctxs ∧ (hears s m → told t m 5)))) ∧
    (first s 0x0105 m → s.inUse m.ctx = true → runs .inputDeclare s (fun t =>
      ∃ q, (m.ctx, q, leAt m.payload 8 4, 0) ∈ t.prv.input)) ∧
    (first s 0x0106 m → ∀ c q len got, s.prv.input.find? (fun e => e.1 == m.ctx) = some (c, q, len, got) → s.inUse m.ctx = true →
      (leAt m.payload 0 4 = got → got + (m.payload.drop 8).length ≤ len → runs .inputData s (fun t =>
        (m.ctx, q, len, got + (m.payload.drop 8).length) ∈ t.prv.input ∧ (hears s m → told t m 0))) ∧
      (leAt m.payload 0 4 ≠ got → runs .inputData s (fun t => t.prv = s.prv ∧ (hears s m → told t m 4)))) ∧
    (first s 0x0107 m → s.inUse m.ctx = true → runs .mark s (fun t => t.prv = (s.record 8 m.ctx 0 m.payload).prv ∧
      (hears s m → told t m 0)))

/-- A recording is replayed, the replays of a hang are answered, resets and postures are asked for (R184, R361, R369, R382, R470, R471, R489, R515, R555, R556, R572).
A replay starts from the log's first entry with its map, delivers one entry at a time and ends with 0xD023; a replay set's context is started, done or declined, declining kills it with 0x8013; a cluster's reset is started on request, and the wafer's too; a posture within its floor is set and one above it is refused with status 7. -/
def Obligations.MessagesOfReplays : Prop :=
  ∀ (s : State) (m : Msg),
    (first s 0x0108 m → s.isSet uPRV PRV_REC_STAT_FULL = false → s.rd uPRV PRV_REC_CFG_MODE = 2 → s.prv.replay = none →
      s.handedOff = true → runs .replayRun s (fun t => t.rd uPRV PRV_REC_POS_SEQ = 0 ∧
        t.prv.replay = some ⟨(List.range (m.len / 4)).map (fun i => (leAt m.payload (4 * i) 2, leAt m.payload (4 * i + 2) 2)), 0, 0, 0, [], false⟩ ∧
        (hears s m → told t m 0))) ∧
    (∀ x, s.prv.replay = some x →
      (s.prv.log.length ≤ x.pos → runs .replayDeliver s (fun t => t.prv.replay = none ∧
        raised s t 0xD023 s.puActive x.delivered 1 x.bad)) ∧
      (x.pos + 1 < s.prv.log.length → runs .replayDeliver s (fun t =>
        t.prv.replay = some { x with pos := x.pos + 1, delivered := x.delivered + 1 }))) ∧
    (∀ k, k = leAt m.payload 0 2 → s.inUse m.ctx = true → s.isSuspect k m.ctx = true →
      (first s 0x0111 m → runs .replayStarted s (fun t => t.replayOf k = (s.replayOf k).map (fun x => { x with started := true }))) ∧
      (first s 0x0112 m → (s.replayOf k).any (fun x => decide (x.step ≤ leAt m.payload 2 6)) = true →
        runs .replayDone s (fun t => t = (((inHand s m).updSet k (fun x => { x with
          cleared := x.cleared ++ [m.ctx], cur := none, started := false })).replayGo k).answer m 0 [])) ∧
      (first s 0x0113 m → runs .replayDecline s (fun t =>
        event s 0x8013 (puHal (regionOfCluster k)) (m.ctx * 2 ^ 16) 2 k ∈ t.transit))) ∧
    (∀ k, k = leAt m.payload 2 2 → first s 0x0120 m → leAt m.payload 0 1 = 2 → s.handedOff = true →
      s.regionLost (regionOfCluster k) = false → s.regionShut (regionOfCluster k) = false → (s.unit (puTst k)).absent = false →
      s.widerReset k = false →
      runs .resetReq s (fun t => t.resets.any (fun x => x.level == 2 && x.at_ == k) = true ∧ (t.port k).hold = true)) ∧
    (first s 0x0120 m → leAt m.payload 0 1 = 4 → s.resets.any (fun x => x.level == 4) = false → s.bhAlive s.active = true →
      runs .resetReq s (fun t => t.resets = [⟨4, 0, 1, 2, s.now, [], 0⟩] ∧ event s 0x8022 s.puActive 2 ∈ t.transit)) ∧
    (∀ w, w = leAt m.payload 0 1 → first s 0x0200 m →
      (w < 4 → w ≤ s.rd uBRW BRW_POSTURE_FLOOR →
        (∀ r, r < Config.host.regions → leAt m.payload (2 + r) 1 = 3 ∨ leAt m.payload (2 + r) 1 ≤ s.rd uBRW BRW_POSTURE_FLOOR) →
        runs .postureSet s (fun t => t.rd uBRW BRW_POSTURE_WAFER = w)) ∧
      (w ≠ 255 → s.rd uBRW BRW_POSTURE_FLOOR < w → runs .postureSet s (fun t =>
        t.rd uBRW BRW_POSTURE_WAFER = s.rd uBRW BRW_POSTURE_WAFER ∧ t.rd uBRW BRW_POSTURE_OVR = s.rd uBRW BRW_POSTURE_OVR ∧
        (hears s m → told t m 7))))

/-- Proposals and endorsements under two keys, the debug unlock's end, downloads and firmware requests (R347, R386, R526, R527, R528, R536, R550, R561, R563, R564, R565, R578).
A proposal of a class stands with its payload and the role that made it; an endorsement waits to be verified, one that is refused raises 0xA023, the first of the two keys is noted; a proposal that is due with no endorsement waiting is dropped with 0xA022; an unlock that ends raises 0xE002; a first chunk of a download is written to its place and a chunk out of order is refused with status 4; a verified bundle's activation raises 0xA003 and is refused with status 5 otherwise; a processor that runs undisturbed is restarted on request. -/
def Obligations.TwoKeyAndDownloads : Prop :=
  ∀ (s : State) (m : Msg),
    (first s 0x0300 m → leAt m.payload 0 1 ≠ 7 → runs .twkPropose s (fun t =>
      (t.twk.proposals.getLast?).map (fun p => (p.cls, p.payload, p.origin, p.host, p.fleet)) =
        some (leAt m.payload 0 1, m.payload.drop 4, if fromFleet m then 2 else 1, false, false) ∧
      (t.twk.proposals.filter (fun p => p.cls == leAt m.payload 0 1)).length = 1)) ∧
    (first s 0x0301 m → runs .twkEndorse s (fun t => t.mbx.inbox = s.mbx.inbox.erase m ∧ t.twk.verifying = s.twk.verifying ++
      [⟨leAt m.payload 0 1, leAt m.payload 8 8, if fromFleet m then 2 else 1, m.payload.drop 16, m, s.now⟩])) ∧
    (∀ (e : Endorsement) (es : List Endorsement), s.twk.verifying = e :: es →
      (s.endorseReason e ≠ 0 → s.marks.contains (s.puActive, 0xA023, 0) = false → runs .endorsementVerify s (fun t =>
        t.twk.verifying = es ∧ event s 0xA023 s.puActive e.cls e.nonce (s.endorseReason e) ∈ t.transit ∧
        t.twk.committing = s.twk.committing)) ∧
      (∀ p, s.proposal e.cls = some p → p.due = false → p.host = false → p.fleet = false →
        runs .endorsementVerify s (fun t => t.twk.verifying = es ∧ (s.endorseReason e = 0 →
          (t.proposal e.cls).map (fun q => (q.nonce, q.host, q.fleet)) = some (p.nonce, decide (e.role = 1), decide (e.role ≠ 1)))))) ∧
    (∀ (cls : Fin 9),
      (s.proposal cls.val = none → runs (.proposalExpire cls) s (fun t => t.twk.proposals = s.twk.proposals ∧ t.transit = s.transit)) ∧
      (∀ p, s.proposal cls.val = some p → s.twk.verifying = [] → runs (.proposalExpire cls) s (fun t => t.proposal cls.val = none ∧
        event s 0xA022 s.puActive cls.val p.nonce ((if p.host then 1 else 0) + (if p.fleet then 2 else 0)) ∈ t.transit))) ∧
    (s.dbg.until_.isNone = false →
      runs .debugUnlockExpire s (fun t => t.dbg.until_ = none ∧ ∃ e ∈ t.transit, e.code = 0xE002 ∧ e.p5 = 1) ∧
      (first s 0x0302 m → runs .debugLock s (fun t => t.dbg.until_ = none ∧ ∃ e ∈ t.transit, e.code = 0xE002 ∧ e.p5 = 2))) ∧
    (s.dbg.until_.isNone = true → runs .debugUnlockExpire s (fun t => t = s)) ∧
    (∀ d, d = leAt m.payload 0 1 → first s 0x0400 m → s.dlBlocked d = 0 →
      (leAt m.payload 4 4 = 0 → d ≠ 3 → (m.payload.drop 8).length ≤ (s.dlPlace d).2 → runs .dlChunk s (fun t =>
        t.mem = (s.poke (s.dlPlace d).1 (m.payload.drop 8)).mem ∧ t.dlGot d = (m.payload.drop 8).length)) ∧
      (leAt m.payload 4 4 ≠ 0 → leAt m.payload 4 4 ≠ s.dlGot d → runs .dlChunk s (fun t => t.mem = s.mem ∧ t.dl = s.dl ∧
        (hears s m → told t m 4)))) ∧
    (first s 0x0401 m →
      (s.rd uBRW BRW_FW_STAT_STATE = 3 → s.fw.act = none → s.handedOff = true → runs .fwActivate s (fun t =>
        event s 0xA003 s.puActive (s.slotVer (1 - s.fw.boot)) s.fw.ver ∈ t.transit)) ∧
      (s.rd uBRW BRW_FW_STAT_STATE ≠ 3 → runs .fwActivate s (fun t => t.fw = s.fw ∧ (hears s m → told t m 5)))) ∧
    (∀ i, i = leAt m.payload 0 1 → first s 0x0402 m → s.procThere i = true → s.handedOff = true → s.fw.act = none →
      (s.proc i).state = 0 → (s.proc i).cause = 0 → runs .procRestart s (fun t =>
        (t.proc i).next = (s.proc i).slot ∧ (t.proc i).cause = 3))

/-- The host's heartbeat and absence, the completion ring and its interrupts (R122, R549, R552, R554, R558, R559, R560).
A new heartbeat count is stored with its time; a host that falls silent raises 0xB001, a link that drops raises 0xC020; the oldest completion is written to the ring at its tail; the host's head index is stored; an interrupt that was held back goes out. -/
def Obligations.HostAndRing : Prop :=
  ∀ (s : State),
    (∀ data : Word, writable s (uMBX 0) = true → s.takingOver = false → data.toNat ≠ s.rd (uMBX 0) MBX_HB_COUNT →
      runs (.hostHeartbeat data) s (fun t => t.rd (uMBX 0) MBX_HB_COUNT = data.toNat ∧ t.mbx.hbAt = s.now)) ∧
    (∀ data : Word, writable s (uMBX 0) = true → s.takingOver = false → data.toNat = s.rd (uMBX 0) MBX_HB_COUNT →
      runs (.hostHeartbeat data) s (fun t => t.mbx.hbAt = s.mbx.hbAt)) ∧
    (s.absent = false →
      runs .hostAbsent s (fun t => event s 0xB001 s.puActive ((s.now - s.mbx.hbAt) / 1000000) 1 ∈ t.transit) ∧
      (∀ x : Word, runs (.pcieLinkDown x) s (fun t => event s 0xC020 s.puActive x.toNat ∈ t.transit ∧
        event s 0xB001 s.puActive ((s.now - s.mbx.hbAt) / 1000000) 2 ∈ t.transit))) ∧
    (s.absent = true → runs .hostAbsent s (fun t => t = s) ∧
      (∀ x : Word, runs (.pcieLinkDown x) s (fun t => raised s t 0xC020 s.puActive x.toNat))) ∧
    (∀ (c : Cpl) (cs : List Cpl), s.absent = false → s.ringRoom = true → s.mbx.out = c :: cs → s.mbx.lost = 0 ∨ c.ctype = 2 →
      runs .completionWrite s (fun t => t.mbx.out = cs ∧ t.mbx.note = s.mbx.note + 1 ∧
        Out.hostWrite (s.rd (uMBX 0) MBX_RING_BASE_ADDR + 64 * s.rd (uMBX 0) MBX_RING_TAIL_INDEX)
          (cplBytes c (s.rd (uMBX 0) MBX_RING_TAIL_PHASE) (s.mbx.note + 1)) ∈ t.sent)) ∧
    (s.ringRoom = false → runs .completionWrite s (fun t => t = s)) ∧
    (∀ data : Word, writable s (uMBX 0) = true → s.takingOver = false → runs (.ringHeadWrite data) s (fun t =>
      t.rd (uMBX 0) MBX_RING_HEAD_INDEX = data.toNat % 2 ^ MBX_RING_HEAD_INDEX.width)) ∧
    (∀ vec : Fin 8, s.absent = false → s.mbx.msiDue.getD vec.val false = true → runs (.msiHoldoffEnd vec) s (fun t =>
      t.sent = .msi vec.val :: s.sent ∧ t.mbx.msiDue = s.mbx.msiDue.set vec.val false)) ∧
    (∀ vec : Fin 8, s.mbx.msiDue.getD vec.val false = false → runs (.msiHoldoffEnd vec) s (fun t => t = s))

/-- The management port's address, messages and reports, and the debug TAP's reset (R118, R499, R543, R567, R568, R569, R570, R571, R573).
The address given is held; a control request for the endpoint is answered, a message of an unknown type is counted as discarded; a second fleet message is answered as busy; the oldest report is sent with its number once there is an address, and nothing is driven while the pads are at high impedance; a summary clears the suppressed counts; a status report joins the queue; a TAP reset selects the ID register. -/
def Obligations.ManagementReports : Prop :=
  ∀ (s : State),
    (∀ addr : BitVec 7, runs (.entdaa addr) s (fun t => t.mgt.addr = some addr.toNat)) ∧
    (∀ (ty : BitVec 7) (body : List Byte), s.recording = true →
      (ty.toNat = 0 → 2 ≤ body.length → bit (leAt body 0 1) 7 = true → leAt body 1 1 = 2 → runs (.mctpMessage ty body) s (fun t =>
        t.sent = (if s.padOn s.active then .mctp (ctlResponse body 0 (leBytes 1 (s.mgt.eid.getD 0) ++ leBytes 2 0)) :: s.sent else s.sent) ∧
        t.mgt = s.mgt)) ∧
      (ty.toNat ≠ 0 → ty.toNat ≠ 0x7F → runs (.mctpMessage ty body) s (fun t =>
        t.sent = s.sent ∧ t.mgt.discarded = s.mgt.discarded + 1))) ∧
    (∀ msg : List Byte, s.recording = true →
      (s.mgt.fleet = true → runs (.fleetMessage msg) s (fun t => t.mgt.fleet = true ∧ t.mbx = s.mbx ∧
        ∃ b, t.sent = (if s.padOn s.active then .mctp (mctpVendor 3 b) :: s.sent else s.sent))) ∧
      (s.mgt.fleet = false → State.msgStatus { s with mgt := { s.mgt with fleet := true } } (msgOf 0xFE msg) = 0 →
        runs (.fleetMessage msg) s (fun t => t.mgt.fleet = true ∧ t.mbx.inbox = s.mbx.inbox ++ [msgOf 0xFE msg]))) ∧
    (∀ (x : Rpt) (xs : List Rpt), s.mgt.queue = x :: xs → s.mgt.addr.isNone = false → s.firmDown = false →
      runs .reportCollect s (fun t => t.mgt.queue = xs ∧ t.mgt.rnum = s.mgt.rnum + 1 ∧
        t.sent = (if s.padOn s.active then .mctp (mctpVendor 1 (s.reportBytes x (s.mgt.rnum + 1))) :: s.sent else s.sent))) ∧
    (s.recording = true → s.firmDown = false →
      runs .reportSummary s (fun t => t.mgt.supp = List.replicate 15 (0, 0, 0)) ∧
      runs .statusReport s (fun t => t.mgt.lastStatus = s.now ∧
        (s.mgt.queue.length < reportSize → (t.mgt.queue.getLast?).map (·.kind) = some 3 ∧ t.mgt.queue.length = s.mgt.queue.length + 1))) ∧
    (runs .tapReset s (fun t => t.dbg.ir = 1))

/-- The debug port's commands under the unlock (R403, R405, R574, R575, R576, R577).
While a command runs, no other is taken; without the unlock every command that needs it answers status 2; with it, an identity word is given, windows and memory are read and written, a processor halts, runs, steps, breaks and reports its state, the wafer stops and resumes, a stage of a pipeline is held and let go, and a unit is put under scan with 0xE013. -/
def Obligations.DebugPort : Prop :=
  ∀ (m : Moldom) (s : State),
    runs (.nop m) s (fun t => t = s) ∧
    (s.dbg.busy = true → runs (.ident m) s (fun t => t = s) ∧ runs (.windowWrite m) s (fun t => t = s) ∧
      runs (.memoryWrite m) s (fun t => t = s) ∧ runs (.moldomStop m) s (fun t => t = s)) ∧
    (s.dbg.busy = false → s.dbg.until_.isNone = true →
      runs (.windowRead m) s (fun t => responds t 0x10 m 2 0) ∧
      runs (.windowWrite m) s (fun t => responds t 0x11 m 2 0) ∧
      runs (.memoryRead m) s (fun t => responds t 0x12 m 2 0 ∧ t.mem = s.mem) ∧
      runs (.memoryWrite m) s (fun t => responds t 0x13 m 2 0 ∧ t.mem = s.mem) ∧
      runs (.processorHalt m) s (fun t => responds t 0x20 m 2 0 ∧ t.dbg.halted = s.dbg.halted) ∧
      runs (.scanEnable m) s (fun t => responds t 0x50 m 2 0 ∧ t.dbg.scan = s.dbg.scan) ∧
      runs (.moldomStop m) s (fun t => responds t 0x30 m 2 0 ∧ t.stop = s.stop)) ∧
    (s.dbg.busy = false → ∀ w, s.identWord m.addr.toNat = some w → runs (.ident m) s (fun t => responds t 0x01 m 0 w)) ∧
    (unlocked s →
      (windowAddr m.addr.toNat = true →
        runs (.windowRead m) s (fun t => responds t 0x10 m 0 (s.winWord m.addr.toNat)) ∧
        runs (.windowWrite m) s (fun t => t = (s.winWrite m.addr.toNat m.data.toNat).respond 0x11 m 0 m.data.toNat)) ∧
      (∀ a, s.memPlace m.target.toNat m.addr.toNat = .inl a →
        runs (.memoryRead m) s (fun t => responds t 0x12 m 0 (leNat (s.peek a 4)) ∧ t.mem = s.mem) ∧
        runs (.memoryWrite m) s (fun t => responds t 0x13 m 0 m.data.toNat ∧ t.mem = (s.poke a (leBytes 4 m.data.toNat)).mem)) ∧
      (∀ st, s.memPlace m.target.toNat m.addr.toNat = .inr st →
        runs (.memoryRead m) s (fun t => responds t 0x12 m st 0) ∧
        runs (.memoryWrite m) s (fun t => responds t 0x13 m st 0 ∧ t.mem = s.mem)) ∧
      (∀ i, i = m.target.toNat → procIndex i = true → s.procThere i = true →
        (s.isHalted i = false →
          runs (.processorHalt m) s (fun t => responds t 0x20 m 0 0 ∧ t.isHalted i = true ∧
            (i < 64 → (t.hall i).procHeld = true) ∧ ∃ e ∈ t.transit, e.code = 0xE011 ∧ e.puid = procPuid i) ∧
          runs (.processorStep m) s (fun t => responds t 0x22 m 6 0 ∧ t.dbg.halted = s.dbg.halted)) ∧
        (s.isHalted i = true →
          runs (.processorRun m) s (fun t => responds t 0x21 m 0 0 ∧
            ∃ e ∈ t.transit, e.code = 0xE011 ∧ e.puid = procPuid i ∧ e.p6 = 2) ∧
          runs (.processorStep m) s (fun t => responds t 0x22 m 0 0 ∧ (i, 2) ∈ t.dbg.halted)) ∧
        runs (.setBreakpoint m) s (fun t => responds t 0x23 m 0 m.data.toNat ∧ (bit m.data.toNat 31 = true →
          (i, bits m.data.toNat 1 0, m.addr.toNat) ∈ t.dbg.breaks)) ∧
        runs (.setWatchpoint m) s (fun t => responds t 0x24 m 0 m.data.toNat ∧ (bit m.data.toNat 31 = true →
          (i, bits m.data.toNat 0 0, bits m.data.toNat 2 1, m.addr.toNat) ∈ t.dbg.watches)) ∧
        (s.isHalted i = false → runs (.processorStatus m) s (fun t => responds t 0x25 m 0 0)) ∧
        (∀ h, s.dbg.halted.find? (fun h => h.1 == i) = some h →
          runs (.processorStatus m) s (fun t => responds t 0x25 m 0 (1 + 2 * h.2)))) ∧
      (s.stopped = false → s.cut = none → runs (.moldomStop m) s (fun t => responds t 0x30 m 1 0 ∧ t.dbg.busy = true ∧
        t.stop.phase = 1 ∧ t.stop.origin = 2 ∧ t.cut = some ⟨s.cutNo + 1, .stop, s.now, 0, 0, 0, []⟩)) ∧
      (s.stop.phase = 2 → s.cut = none → runs (.moldomResume m) s (fun t => responds t 0x31 m 1 0 ∧ t.dbg.busy = true ∧
        t.stop.phase = 3 ∧ t.cut = some ⟨s.cutNo + 1, .resume, s.now, 0, 0, 0, []⟩)) ∧
      (∀ k st, k = m.target.toNat → st = m.addr.toNat → k < Config.host.clusters → st < 8 →
        s.regionLost (regionOfCluster k) = false → (s.unit (puTst k)).absent = false →
        ((st = 0 → s.stop.phase = 2) → s.dbg.pipes.contains (k, st) = false → runs (.pipelineHalt m) s (fun t =>
          responds t 0x40 m 0 0 ∧ t.dbg.pipes = s.dbg.pipes ++ [(k, st)] ∧ raised s t 0xE012 (puTst k) st 1)) ∧
        (s.dbg.pipes.contains (k, st) = true → runs (.pipelineRelease m) s (fun t =>
          responds t 0x41 m 0 0 ∧ t.dbg.pipes = s.dbg.pipes.filter (fun e => e != (k, st)) ∧ raised s t 0xE012 (puTst k) st 0))) ∧
      (∀ p, p = m.target.toNat * 2 ^ 16 + m.addr.toNat % 2 ^ 16 → puidOk p = true → scannable p = true →
        s.regionLost (regionOfPuid p) = false → (s.unit p).absent = false →
        runs (.scanEnable m) s (fun t => responds t 0x50 m 0 0 ∧ t.dbg.scan = s.dbg.scan.filter (· != p) ++ [p] ∧
          (t.unit p).scan = true ∧ raised s t 0xE013 p))) ∧
    (∀ (i : Byte) (addr : Word), s.dbg.until_.isNone = false → s.isHalted i.toNat = false → s.procThere i.toNat = true →
      (s.dbg.breaks.any (fun b => b.1 == i.toNat && b.2.2 == addr.toNat) = true →
        runs (.processorBreakHit i false addr) s (fun t => (i.toNat, 3) ∈ t.dbg.halted ∧
          raised s t 0xE011 (procPuid i.toNat) i.toNat 3 addr.toNat)) ∧
      (s.dbg.watches.any (fun w => w.1 == i.toNat && w.2.2.1 != 0 && w.2.2.2 == addr.toNat) = true →
        runs (.processorBreakHit i true addr) s (fun t => (i.toNat, 4) ∈ t.dbg.halted ∧
          raised s t 0xE011 (procPuid i.toNat) i.toNat 4 addr.toNat)))

/-- Register writes and reads through the window (R18, R66, R120, R122, R585, R589, R594, R595, R597).
A page that is off, absent, shuttered or lost ignores a write and counts it, a reserved page ignores it; the event enable is stored, a written 1 clears its event bit; a Hall's stall limit is stored within 10 to 1,000 ms, a two-key word is left and raises 0xA010; an owner claims a free page and only it or 0 lets it go; a Tap window selects its unit; an unreached page answers its header alone; the low word of a pair latches the high one; a partial write raises 0xC021; while the standby is taking over, a host's access is held behind those held before it, and nothing else changes. -/
def Obligations.WindowRegisters : Prop :=
  ∀ (s : State),
    (s.takingOver = true →
      let held (x : HostAcc) : State := { s with pair := { s.pair with waiting := s.pair.waiting ++ [x] } }
      (∀ (offset : BitVec 24) (data : Word),
        runs (.registerWrite offset data) s (fun t => t = held (.write offset.toNat data)) ∧
        runs (.rw2kDirectWrite offset data) s (fun t => t = held (.write offset.toNat data)) ∧
        runs (.loHiLatchRead offset) s (fun t => t = held (.read offset.toNat)) ∧
        (∀ wr, runs (.pageUnreached offset wr) s (fun t => t = held (.unreached offset.toNat wr))) ∧
        (∀ be : BitVec 4, runs (.windowPartialWrite offset be) s (fun t => t = held (.part offset.toNat be.toNat)))) ∧
      (∀ (page : BitVec 12) (data : Word),
        runs (.ownerClaim page data) s (fun t => t = held (.write (regAt page.toNat 8) data))) ∧
      (∀ (w : Fin 64) (data : Word),
        runs (.tapWindowSelect w data) s (fun t => t = held (.write (regAt (uWIN w.val) 0xF00) data)))) ∧
    (∀ (offset : BitVec 24) (data : Word) (p off : Nat), s.takingOver = false → p = offset.toNat / 4096 → off = offset.toNat % 4096 / 4 * 4 →
      ∀ c, c = Instr.registerWrite offset data ∨ c = Instr.rw2kDirectWrite offset data →
      (pageClass p = 0 → runs c s (fun t => t = s.count uBRW BRW_WIN_WR_COUNT)) ∧
      (pageClass p ≠ 0 → pageClass p ≠ 0x14 → [0, 1, 5, 6].contains (s.pageState p) = true →
        runs c s (fun t => t = (s.count uBRW BRW_WIN_WR_COUNT).count uBRW BRW_WIN_STAT_STATEW)) ∧
      (∀ u, writable s p = true → s.pageUnit p = some u →
        (off = 0x14 → runs c s (fun t => t.rd u PG_EVT_EN_CLASS = data.toNat % 2 ^ 15)) ∧
        (off = 0x18 → s.rd u PG_EVT_CLASS < 2 ^ 15 → runs c s (fun t =>
          t.rd u PG_EVT_CLASS = s.rd u PG_EVT_CLASS - Nat.land (s.rd u PG_EVT_CLASS) data.toNat)) ∧
        (off < 0x40 → off ≠ 8 → off ≠ 0x14 → off ≠ 0x18 → runs c s (fun t => t = s.count uBRW BRW_WIN_WR_COUNT)) ∧
        (0x40 ≤ off → twoKeyWord (pageClass p) (pageInst p) off = true →
          (s.count uBRW BRW_WIN_WR_COUNT).opWrite (pageClass p) (pageInst p) u off data.toNat = none →
          s.marks.contains (s.puActive, 0xA010, 0) = false →
          runs c s (fun t => event s 0xA010 s.puActive p off data.toNat ∈ t.transit)))) ∧
    (∀ (r : RegionId) (data : Word), writable s (uHAL r.val) = true → s.takingOver = false →
      runs (.registerWrite (BitVec.ofNat 24 (regAt (uHAL r.val) 0x88)) data) s (fun t =>
        t.rd (uHAL r.val) HAL_STALL_CFG_MS = (if 10 ≤ data.toNat % 65536 ∧ data.toNat % 65536 ≤ 1000 then data.toNat % 65536
          else s.rd (uHAL r.val) HAL_STALL_CFG_MS) ∧ t.transit = s.transit)) ∧
    (∀ (page : BitVec 12) (data : Word), s.takingOver = false → writable s page.toNat = true ∨ pageClass page.toNat = 0x14 →
      runs (.ownerClaim page data) s (fun t => t.rd page.toNat PG_CTRL_OWNER =
        if s.rd page.toNat PG_CTRL_OWNER = 0 then data.toNat % 256
        else if data.toNat % 256 = s.rd page.toNat PG_CTRL_OWNER ∨ data.toNat % 256 = 0 then 0
        else s.rd page.toNat PG_CTRL_OWNER)) ∧
    (∀ (w : Fin 64) (data : Word), s.takingOver = false → runs (.tapWindowSelect w data) s (fun t => t.rd (uWIN w.val) TAP_WIN_SEL_KIND = bits data.toNat 31 28 ∧
      t.rd (uWIN w.val) TAP_WIN_SEL_CLUSTER = bits data.toNat 27 16 ∧ t.rd (uWIN w.val) TAP_WIN_SEL_CORE = bits data.toNat 15 0)) ∧
    (∀ (offset : BitVec 24) (p off : Nat), s.takingOver = false → p = offset.toNat / 4096 → off = offset.toNat % 4096 / 4 * 4 →
      (pageClass p < 0x10 → ∀ wr, runs (.pageUnreached offset wr) s (fun t => t = s)) ∧
      (0x10 ≤ pageClass p → s.pageState p ≠ 6 →
        runs (.pageUnreached offset true) s (fun t =>
          t = (s.count uBRW BRW_WIN_STAT_UNREACH).count uBRW BRW_WIN_WR_COUNT) ∧
        (0x40 ≤ off → runs (.pageUnreached offset false) s (fun t => t.sent = .word 0 :: s.sent))) ∧
      runs (.loHiLatchRead offset) s (fun t => t.sent = .word (BitVec.ofNat 32 (s.winWord offset.toNat)) :: s.sent) ∧
      (pageClass p = 0x13 → 0x40 ≤ off → [0, 1, 6].contains (s.pageState p) = false → (pairHi 0x13 (pageInst p) off).isSome = true →
        runs (.loHiLatchRead offset) s (fun t => Tab.find (4096 * p + off + 4) t.latch = some (s.pageWord p (off + 4)))) ∧
      (∀ be : BitVec 4, be ≠ 15 → runs (.windowPartialWrite offset be) s (fun t => raised s t 0xC021 s.puActive offset.toNat be.toNat)) ∧
      runs (.windowPartialWrite offset 15) s (fun t => t = s.count uBRW BRW_WIN_WR_COUNT))

/-- A step runs the command at the front of the queue (R20, R26).
For every command and state, a step of the state with that command at the front of its queue is the command's effect on the state with the queue's rest. The queue is the model's own (log entry 6). -/
def Obligations.StepRunsFrontCommand : Prop :=
  ∀ (c : Instr) (s : State), step { s with pending := c :: s.pending } = exec c s

/-- With no command waiting 10 ns of wall time pass (R20, R53).
A step of a state whose queue is empty lets 10 ns of wall time pass and changes nothing else. That the idle block counts time is the model's choice (log entry 6); the 10 ns resolution is the spec's. -/
def Obligations.IdleTick : Prop :=
  ∀ s : State, s.pending = [] → step s = .next { s with wall := s.wall + 10 }

/-- Every command answers a next state (R19, R574, R585).
For every command and every state the command's effect is a next state: no command of the block faults or is refused. -/
def Obligations.EveryCommandCompletes : Prop :=
  ∀ (c : Instr) (s : State), ∃ t, exec c s = .next t

/-- A command leaves every part of the state alone that its list does not name (R18, R26, R585).
For every command, when it answers a next state, each of the parts of the state outside the command's list of parts (touches) is as before: registers, counters, memory, queues and every table of a unit kind. -/
def Obligations.EveryCommandFrame : Prop :=
  ∀ (c : Instr) (s t : State), exec c s = .next t → State.sameBut (touches c) s t

/-- Register writes leave every other register alone (R18, R585, R589, R597).
A claim, a Tap selection, a head index, a heartbeat, a draw calculation and an attribution bin change only their own fields, of which each is named; a partial write that is whole, a step of operating time and an xSPI timeout change no register; and a unit that falls due, a throttle acknowledged and a supply clamp change no other unit's entry. -/
def Obligations.RegisterFrames : Prop :=
  ∀ (s t : State),
    (∀ (page : BitVec 12) (data : Word), exec (.ownerClaim page data) s = .next t → writable s page.toNat = true ∨ pageClass page.toNat = 0x14 →
      regsBut s t [fkey page.toNat PG_CTRL_OWNER 0]) ∧
    (∀ (w : Fin 64) (data : Word), exec (.tapWindowSelect w data) s = .next t →
      regsBut s t [fkey (uWIN w.val) TAP_WIN_SEL_KIND 0, fkey (uWIN w.val) TAP_WIN_SEL_CLUSTER 0, fkey (uWIN w.val) TAP_WIN_SEL_CORE 0]) ∧
    (∀ data : Word, exec (.ringHeadWrite data) s = .next t →
      regsBut s t [fkey (uMBX 0) MBX_RING_HEAD_INDEX 0, fkey (uMBX 0) MBX_STAT_PENDING 0, fkey (uMBX 0) MBX_STAT_HELD 0]) ∧
    (∀ data : Word, exec (.hostHeartbeat data) s = .next t → regsBut s t [fkey (uMBX 0) MBX_HB_COUNT 0]) ∧
    (∀ data : Word, exec (.drawCalc data) s = .next t →
      regsBut s t [fkey uDRW DRW_CALC_CTRL_KEYSEL 0, fkey uDRW DRW_CALC_STAT_CODE 0, fkey uDRW DRW_CALC_OUT 0]) ∧
    (∀ (k : ClusterId) (data : Word), exec (.attributionBinWrite k data) s = .next t → regsBut s t [fkey (uTST k.val) TST_ATB_CTRL_EN 0]) ∧
    (∀ offset : BitVec 24, exec (.windowPartialWrite offset 15) s = .next t → regsBut s t []) ∧
    (exec .optimeAdvance s = .next t → regsBut s t []) ∧
    (exec .xspiBusTimeout s = .next t → regsBut s t []) ∧
    (∀ u : SteepUnit, exec (.steepDue u) s = .next t → ∀ p, p ≠ steepPuid u → t.stpOf p = s.stpOf p) ∧
    (∀ r : RegionId, exec (.throttleAck r) s = .next t → ∀ q, q ≠ r.val → t.thmOf q = s.thmOf q) ∧
    (∀ (r : RegionId) (d : Dir), exec (.clampApply r d) s = .next t → ∀ q, q ≠ r.val → t.hall q = s.hall q)

/-- Bytes outside the stored ones read as before (R136, R145, R147, R282, R335, R338, R347, R414, R416, R527, R536, R575).
A Cellar write stores its bytes from its channel's address on, a debug write its four bytes at the place of its address, a trace write its record at the segment's next place, a first download chunk its bytes at the download's place; every byte outside reads as before; a march leaves 0xAA in its channel alone, outside the areas that it skips; and the stored bytes read back. -/
def Obligations.MemoryFrames : Prop :=
  ∀ (s t : State) (a : Nat),
    (∀ (c : StackId) (ch : ChanId) (addr : BitVec 36) (bytes : List Byte), exec (.cellarWriteBlock c ch addr bytes) s = .next t →
      (a < stackKey c.val ch.val addr.toNat ∨ stackKey c.val ch.val addr.toNat + bytes.length ≤ a → byteAt t a = byteAt s a) ∧
      (s.chanFenced c.val ch.val = true → byteAt t a = byteAt s a) ∧
      (∀ i, i < bytes.length → s.chanFenced c.val ch.val = false → a = stackKey c.val ch.val addr.toNat + i →
        byteAt t a = bytes.getD i 0)) ∧
    (∀ (m : Moldom) (k : Nat), exec (.memoryWrite m) s = .next t → s.memPlace m.target.toNat m.addr.toNat = .inl k →
      (a < k ∨ k + 4 ≤ a → byteAt t a = byteAt s a) ∧
      (unlocked s → ∀ i, i < 4 → a = k + i → byteAt t a = (leBytes 4 m.data.toNat).getD i 0)) ∧
    (∀ (m : Moldom) (st : Nat), exec (.memoryWrite m) s = .next t → s.memPlace m.target.toNat m.addr.toNat = .inr st →
      byteAt t a = byteAt s a) ∧
    (∀ (k : ClusterId) (acc : Bool) (x : TraceRec) (xs : List TraceRec), exec (.traceWrite k acc) s = .next t →
      (s.seg k.val).buffer = x :: xs →
      a < s.segKey k.val (s.seg k.val).next ∨ s.segKey k.val (s.seg k.val).next + (recBytes x).length ≤ a → byteAt t a = byteAt s a) ∧
    (∀ m : Msg, exec .dlChunk s = .next t → first s 0x0400 m → leAt m.payload 0 1 ≠ 3 → leAt m.payload 4 4 = 0 →
      a < (s.dlPlace (leAt m.payload 0 1)).1 ∨ (s.dlPlace (leAt m.payload 0 1)).1 + (m.payload.drop 8).length ≤ a →
      byteAt t a = byteAt s a) ∧
    (∀ (c : StackId) (ch : ChanId) (bad : Nat) (ue : Bool), exec (.marchDone c ch bad ue) s = .next t →
      (a < stackKey c.val ch.val 0 ∨ stackKey c.val ch.val chanBytes ≤ a → byteAt t a = byteAt s a) ∧
      (∀ i, i < chanBytes → a = stackKey c.val ch.val i → bit (s.rd (uCEL c.val) CEL_STP_STAT_BUSY) ch.val = true →
        byteAt t a = if (s.marchSkips c.val ch.val).any (fun x => decide (x.1 ≤ i ∧ i < x.1 + x.2)) then byteAt s a else 0xAA#8))

/-- Every step keeps memory in its canonical form (R309, R335, R416, R575).
From every state whose memory lists its addresses strictly rising and no byte equal to what an unlisted address reads as, every step that answers a next state leaves memory in that form, so that equal memories are equal data. The form and the 0 that an unlisted byte reads as are the model's (log entry 5). -/
def Obligations.EveryStepKeepsMemoryCanonical : Prop :=
  ∀ s t : State, Memory.wf s.mem = true → step s = .next t → Memory.wf t.mem = true

/-- The Attic's sequence number never falls (R427, R430).
From every state, whatever command runs, and through a takeover, a wafer reset, an erase or a power cycle, the sequence number that the next Attic record takes is never below what it was: no record is ever numbered twice. -/
def Obligations.AtticSequenceNeverFalls : Prop :=
  ∀ (n : Nat) (s t : State), n ≤ s.attic.nextSeq → step s = .next t → n ≤ t.attic.nextSeq

/-- A step takes one command off the queue, and what was sent stays sent (R20, R26).
A step of a state with a command waiting leaves exactly the commands behind it waiting, in their order; no command puts one into the queue; and everything the block has sent stays sent below what it sends now, which is the model's record of its outputs (log entry 4). -/
def Obligations.QueueAndSent : Prop :=
  ∀ (s t : State), step s = .next t → t.pending = s.pending.tail ∧ s.sent <:+ t.sent

/-- Events on their way stay in their order until they are recorded (R26, R425).
Every command but the recording of the front event, a Brewhouse's takeover, a drain's end, a power cycle, power on and a reset request keeps the events that are on their way in their order, and puts what it raises behind them; an acknowledged mirror does so too, but for the mark that the standby holds a copy. -/
def Obligations.EventsKeepTheirOrder : Prop :=
  ∀ (c : Instr) (s t : State), exec c s = .next t →
    (∀ x y, c ≠ .hallPollAnswer x y) → (∀ x b cs, c ≠ .drainComplete x b cs) → (∀ x b cs, c ≠ .drainBound x b cs) →
    (∀ x, c ≠ .powerCycleRequest x) → c ≠ .heartbeatSilence → c ≠ .eventRecord → c ≠ .powerOn → c ≠ .resetReq →
    s.transit.map (fun e => { e with copy := false }) <+: t.transit.map (fun e => { e with copy := false }) ∧
    (c ≠ .mirrorAck → s.transit <+: t.transit)

/-- What reset leaves (R18, R588, R597).
At reset no command waits and nothing has been sent or raised, memory is empty and canonical, every register field reads the reset value that its table gives, every counter reads 0, and the hardware's wall time is 0. -/
def Obligations.ResetHoldsInvariants : Prop :=
  State.reset.pending = [] ∧ State.reset.sent = [] ∧ State.reset.transit = [] ∧ State.reset.wall = 0 ∧
  Memory.wf State.reset.mem = true ∧ (∀ a, byteAt State.reset a = 0) ∧
  (∀ u F i, State.reset.rd u F i = F.rst) ∧ (∀ u F i, State.reset.cnt u F i = 0) ∧
  (∀ u, State.reset.rd u PG_EVT_EN_CLASS = 0x7FFF) ∧ (∀ u, State.reset.rd u HAL_STALL_CFG_MS = 50) ∧
  (∀ u, State.reset.rd u TAP_WIN_SEL_KIND = 1) ∧ State.reset.rd uBRW BRW_POSTURE_WAFER = 1

/-- A global stop is honoured only under the debug unlock (R403).
A stop that is written to BRW_CUT_CTRL or asked for by the debug protocol's stop command is refused with 0x9022 while no debug unlock is in force, and nothing stops; under the unlock, with no cut running and nothing stopped, either starts a STOP cut. -/
def Obligations.GlobalStopNeedsUnlock : Prop :=
  ∀ (s : State) (m : Moldom), writable s uBRW = true → s.takingOver = false → s.dbg.busy = false →
    (s.dbg.until_ = none →
      runs .globalStop s (fun t => t.stop = s.stop ∧ t.cut = s.cut ∧ event s 0x9022 s.puActive 1 ∈ t.transit) ∧
      runs (.moldomStop m) s (fun t => t.stop = s.stop ∧ t.cut = s.cut ∧ event s 0x9022 s.puActive 2 ∈ t.transit)) ∧
    (s.dbg.until_ ≠ none → s.stopped = false → s.cut = none →
      runs .globalStop s (fun t => t.stop.phase = 1 ∧ t.cut.map (·.kind) = some .stop) ∧
      runs (.moldomStop m) s (fun t => t.stop.phase = 1 ∧ t.cut.map (·.kind) = some .stop))

/-- A class has at most one staged proposal, and a new one withdraws it (R562).
Where each class has at most one staged proposal, each still has after a new proposal is staged; the one of its class that was staged is withdrawn with its endorsements and raises 0xA022, the new one has no endorsement, a nonce of 64 bits and the sender as its origin, and raises 0xA020 with its class and nonce. -/
def Obligations.OneProposalPerClass : Prop :=
  ∀ (s : State) (m : Msg) (cls : Nat), first s 0x0300 m → cls = leAt m.payload 0 1 →
    (cls = 7 → ((inHand s m).variantMay (m.payload.drop 4)).1 = 0) → (s.twk.proposals.map (·.cls)).Nodup →
    runs .twkPropose s (fun t => (t.twk.proposals.map (·.cls)).Nodup ∧
      (∃ p, t.proposal cls = some p ∧ p.payload = m.payload.drop 4 ∧ p.host = false ∧ p.fleet = false ∧ p.nonce < 2 ^ 64 ∧
        p.origin = (if fromFleet m then 2 else 1) ∧ event s 0xA020 s.puActive cls p.nonce p.origin ∈ t.transit) ∧
      (∀ old, s.proposal cls = some old → event s 0xA022 s.puActive cls old.nonce
        ((if old.host then 1 else 0) + (if old.fleet then 2 else 0)) ∈ t.transit) ∧
      (∀ d, d ≠ cls → t.proposal d = s.proposal d))

/-- A reserved page reads zero and ignores writes, and an ABSENT instance keeps its identity (R592).
Every word of a reserved page reads 0, and, outside a takeover, a read of it answers 0 and a write of it changes nothing but the window's count of writes; a unit that is declared absent, by region, stack, link or edge cell, shows state 0 and still gives its page's PG_ID and PG_CAP, whatever else the state holds. -/
def Obligations.ReservedPages : Prop :=
  ∀ (s : State),
    (∀ (offset : BitVec 24) (data : Word), pageClass (offset.toNat / 4096) = 0 →
      s.winWord offset.toNat = 0 ∧ (s.takingOver = false →
        runs (.loHiLatchRead offset) s (fun t => t.sent = .word 0 :: s.sent) ∧
        runs (.registerWrite offset data) s (fun t => t = s.count uBRW BRW_WIN_WR_COUNT))) ∧
    (∀ (p u : Nat), 0x10 ≤ pageClass p → s.pageUnit p = some u → (s.unit (classPuid (pageClass p) u)).absent = true →
      s.pageState p = 0 ∧ s.winWord (4096 * p) = pageClass p * 2 ^ 24 + pageInst p * 2 ^ 12 + 1 ∧
      s.winWord (4096 * p + 4) = classCap (pageClass p))
end

