-- ==== Sys2Proof/Laws/Tab.lean ====
section
/-! SUPPORT. The laws of sparse tables: a read after a write, and every operation keeps the canonical form; with them
the laws of memory. -/
namespace Sys2Proof

variable {α : Type}

/-- The value at the key that was listed. -/
theorem Tab.find_insert_same (k : Nat) (v : α) (m : Tab α) : Tab.find k (Tab.insert k v m) = some v := by
  induction m with
  | nil => simp [Tab.insert, Tab.find]
  | cons e t ih =>
    obtain ⟨k', v'⟩ := e
    simp only [Tab.insert]
    split
    · simp [Tab.find]
    · split
      · simp [Tab.find]
      · rename_i h; simp [Tab.find, h, ih]

/-- Listing a key leaves every other key's value. -/
theorem Tab.find_insert_other {k j : Nat} (h : j ≠ k) (v : α) (m : Tab α) : Tab.find j (Tab.insert k v m) = Tab.find j m := by
  induction m with
  | nil => simp [Tab.insert, Tab.find, Ne.symm h]
  | cons e t ih =>
    obtain ⟨k', v'⟩ := e
    simp only [Tab.insert]
    split
    · simp [Tab.find, Ne.symm h]
    · split
      · rename_i h'; subst h'; simp [Tab.find, Ne.symm h]
      · simp only [Tab.find, ih]

/-- A key that was taken out is not listed. -/
theorem Tab.find_erase_same (k : Nat) (m : Tab α) : Tab.find k (Tab.erase k m) = none := by
  induction m with
  | nil => simp [Tab.erase, Tab.find]
  | cons e t ih =>
    obtain ⟨k', v'⟩ := e
    simp only [Tab.erase]
    split
    · exact ih
    · rename_i h; simp [Tab.find, h, ih]

/-- Taking a key out leaves every other key's value. -/
theorem Tab.find_erase_other {k j : Nat} (h : j ≠ k) (m : Tab α) : Tab.find j (Tab.erase k m) = Tab.find j m := by
  induction m with
  | nil => simp [Tab.erase]
  | cons e t ih =>
    obtain ⟨k', v'⟩ := e
    simp only [Tab.erase]
    split
    · rename_i h'; subst h'; simp [Tab.find, Ne.symm h, ih]
    · simp only [Tab.find, ih]

/-- A read after a write to the same key gives the value written. -/
@[simp] theorem Tab.get_put_same [DecidableEq α] (d : Nat → α) (m : Tab α) (k : Nat) (v : α) :
    Tab.get d (Tab.put d m k v) k = v := by
  unfold Tab.put Tab.get
  split
  · rename_i h; simp [Tab.find_erase_same, h]
  · simp [Tab.find_insert_same]

/-- A write leaves every other key's value. -/
theorem Tab.get_put_other [DecidableEq α] (d : Nat → α) (m : Tab α) {k j : Nat} (h : j ≠ k) (v : α) :
    Tab.get d (Tab.put d m k v) j = Tab.get d m j := by
  unfold Tab.put Tab.get
  split
  · rw [Tab.find_erase_other h]
  · rw [Tab.find_insert_other h]

/-- The changed key holds the function's value. -/
@[simp] theorem Tab.get_upd_same [DecidableEq α] (d : Nat → α) (m : Tab α) (k : Nat) (f : α → α) :
    Tab.get d (Tab.upd d m k f) k = f (Tab.get d m k) := Tab.get_put_same d m k _

/-- A change of one key leaves every other key's value. -/
theorem Tab.get_upd_other [DecidableEq α] (d : Nat → α) (m : Tab α) {k j : Nat} (h : j ≠ k) (f : α → α) :
    Tab.get d (Tab.upd d m k f) j = Tab.get d m j := Tab.get_put_other d m h _

/-- A weaker lower bound. -/
theorem Tab.sorted_weaken {lo lo' : Option Nat} (h : ∀ a, lo' = some a → ∃ b, lo = some b ∧ a ≤ b) {m : Tab α}
    (hm : Tab.sorted lo m = true) : Tab.sorted lo' m = true := by
  cases m with
  | nil => rfl
  | cons e t =>
    obtain ⟨k, v⟩ := e
    simp only [Tab.sorted, Bool.and_eq_true] at hm ⊢
    refine ⟨?_, hm.2⟩
    cases lo' with
    | none => rfl
    | some a =>
      obtain ⟨b, rfl, hab⟩ := h a rfl
      simp only [decide_eq_true_eq] at hm ⊢
      omega

/-- Filtering keeps the order. -/
theorem Tab.sorted_filter (p : Nat × α → Bool) {lo : Option Nat} {m : Tab α} (h : Tab.sorted lo m = true) :
    Tab.sorted lo (m.filter p) = true := by
  induction m generalizing lo with
  | nil => rfl
  | cons e t ih =>
    obtain ⟨k, v⟩ := e
    simp only [Tab.sorted, Bool.and_eq_true] at h
    simp only [List.filter_cons]
    split
    · simp only [Tab.sorted, Bool.and_eq_true]; exact ⟨h.1, ih h.2⟩
    · refine Tab.sorted_weaken (lo := some k) ?_ (ih h.2)
      intro a ha; subst ha
      exact ⟨k, rfl, by simpa using Nat.le_of_lt (of_decide_eq_true h.1)⟩

/-- Filtering keeps the canonical form. -/
theorem Tab.wf_filter [DecidableEq α] {d : Nat → α} (p : Nat × α → Bool) {m : Tab α} (h : Tab.wf d m = true) :
    Tab.wf d (m.filter p) = true := by
  simp only [Tab.wf, Bool.and_eq_true, List.all_eq_true] at h ⊢
  exact ⟨Tab.sorted_filter p h.1, fun e he => h.2 e (List.mem_filter.mp he).1⟩

/-- Cutting a range out keeps the canonical form. -/
theorem Tab.wf_drop [DecidableEq α] {d : Nat → α} (lo hi : Nat) {m : Tab α} (h : Tab.wf d m = true) :
    Tab.wf d (Tab.drop lo hi m) = true := Tab.wf_filter _ h

/-- Keeping a range alone keeps the canonical form. -/
theorem Tab.wf_range [DecidableEq α] {d : Nat → α} (lo hi : Nat) {m : Tab α} (h : Tab.wf d m = true) :
    Tab.wf d (Tab.range lo hi m) = true := Tab.wf_filter _ h

/-- Taking a key out keeps the order. -/
theorem Tab.sorted_erase (k : Nat) {lo : Option Nat} {m : Tab α} (h : Tab.sorted lo m = true) :
    Tab.sorted lo (Tab.erase k m) = true := by
  induction m generalizing lo with
  | nil => rfl
  | cons e t ih =>
    obtain ⟨k', v'⟩ := e
    simp only [Tab.sorted, Bool.and_eq_true] at h
    simp only [Tab.erase]
    split
    · refine Tab.sorted_weaken (lo := some k') ?_ (ih h.2)
      intro a ha; subst ha
      exact ⟨k', rfl, by simpa using Nat.le_of_lt (of_decide_eq_true h.1)⟩
    · simp only [Tab.sorted, Bool.and_eq_true]; exact ⟨h.1, ih h.2⟩

/-- A bound below a key, as the order states it. -/
theorem Tab.bound {k : Nat} : ∀ {lo : Option Nat}, (∀ a, lo = some a → a < k) →
    (match lo with | none => true | some l => decide (l < k)) = true
  | none, _ => rfl
  | some a, h => decide_eq_true (h a rfl)

/-- Listing a key above the bound keeps the order. -/
theorem Tab.sorted_insert (k : Nat) (v : α) {lo : Option Nat} (hk : ∀ a, lo = some a → a < k) {m : Tab α}
    (h : Tab.sorted lo m = true) : Tab.sorted lo (Tab.insert k v m) = true := by
  induction m generalizing lo with
  | nil => simp only [Tab.insert, Tab.sorted, Bool.and_true]; exact Tab.bound hk
  | cons e t ih =>
    obtain ⟨k', v'⟩ := e
    simp only [Tab.sorted, Bool.and_eq_true] at h
    simp only [Tab.insert]
    split
    · rename_i hlt
      simp only [Tab.sorted, Bool.and_eq_true]; exact ⟨Tab.bound hk, decide_eq_true hlt, h.2⟩
    · rename_i hge
      split
      · rename_i heq; subst heq
        simp only [Tab.sorted, Bool.and_eq_true]; exact ⟨h.1, h.2⟩
      · rename_i hne
        simp only [Tab.sorted, Bool.and_eq_true]
        exact ⟨h.1, ih (lo := some k') (by intro a ha; cases ha; omega) h.2⟩

/-- What is listed after a key was taken out was listed before. -/
theorem Tab.mem_erase {k : Nat} {m : Tab α} {e : Nat × α} (h : e ∈ Tab.erase k m) : e ∈ m := by
  induction m with
  | nil => exact h
  | cons x t ih =>
    obtain ⟨k', v'⟩ := x
    simp only [Tab.erase] at h
    split at h
    · exact List.mem_cons_of_mem _ (ih h)
    · cases h with
      | head => exact List.mem_cons_self
      | tail _ h => exact List.mem_cons_of_mem _ (ih h)

/-- What is listed after a key was listed is that entry or was listed before. -/
theorem Tab.mem_insert {k : Nat} {v : α} {m : Tab α} {e : Nat × α} (h : e ∈ Tab.insert k v m) : e = (k, v) ∨ e ∈ m := by
  induction m with
  | nil => simp only [Tab.insert, List.mem_singleton] at h; exact .inl h
  | cons x t ih =>
    obtain ⟨k', v'⟩ := x
    simp only [Tab.insert] at h
    split at h
    · simpa using h
    · split at h
      · cases h with
        | head => exact .inl rfl
        | tail _ h => exact .inr (List.mem_cons_of_mem _ h)
      · cases h with
        | head => exact .inr List.mem_cons_self
        | tail _ h => exact (ih h).imp id (List.mem_cons_of_mem _)

/-- Listing a value other than the default keeps the canonical form. -/
theorem Tab.wf_insert [DecidableEq α] {d : Nat → α} {k : Nat} {v : α} (hv : v ≠ d k) {m : Tab α} (h : Tab.wf d m = true) :
    Tab.wf d (Tab.insert k v m) = true := by
  simp only [Tab.wf, Bool.and_eq_true, List.all_eq_true, decide_eq_true_eq] at h ⊢
  refine ⟨Tab.sorted_insert k v (by intro a ha; cases ha) h.1, fun e he => ?_⟩
  rcases Tab.mem_insert he with rfl | he
  · exact hv
  · exact h.2 e he

/-- Taking a key out keeps the canonical form. -/
theorem Tab.wf_erase [DecidableEq α] {d : Nat → α} (k : Nat) {m : Tab α} (h : Tab.wf d m = true) :
    Tab.wf d (Tab.erase k m) = true := by
  simp only [Tab.wf, Bool.and_eq_true, List.all_eq_true, decide_eq_true_eq] at h ⊢
  exact ⟨Tab.sorted_erase k h.1, fun e he => h.2 e (Tab.mem_erase he)⟩

/-- A write keeps the canonical form. -/
theorem Tab.wf_put [DecidableEq α] {d : Nat → α} {m : Tab α} (k : Nat) (v : α) (h : Tab.wf d m = true) :
    Tab.wf d (Tab.put d m k v) = true := by
  unfold Tab.put
  split
  · exact Tab.wf_erase k h
  · rename_i hv; exact Tab.wf_insert hv h

/-- A fold of operations that each keep the canonical form keeps it. -/
theorem Tab.wf_foldl [DecidableEq α] {β : Type} {d : Nat → α} {f : Tab α → β → Tab α} {l : List β}
    (hf : ∀ m, ∀ x ∈ l, Tab.wf d m = true → Tab.wf d (f m x) = true) {m : Tab α} (h : Tab.wf d m = true) :
    Tab.wf d (l.foldl f m) = true := by
  induction l generalizing m with
  | nil => exact h
  | cons x l ih => exact ih (fun m y hy => hf m y (List.mem_cons_of_mem _ hy)) (hf m x List.mem_cons_self h)

/-- A listed entry of a table in canonical form is not the default. -/
theorem Tab.wf_ne [DecidableEq α] {d : Nat → α} {m : Tab α} (h : Tab.wf d m = true) {e : Nat × α} (he : e ∈ m) : e.2 ≠ d e.1 := by
  simp only [Tab.wf, Bool.and_eq_true, List.all_eq_true, decide_eq_true_eq] at h
  exact h.2 e he

namespace Machine

/-- Writing bytes keeps memory's canonical form. -/
theorem mem_wf_poke (k : Nat) (bs : List Byte) {m : Tab Byte} (h : Memory.wf m = true) :
    Memory.wf ((bs.zip (List.range bs.length)).foldl (fun m e => Tab.put (fun _ => 0#8) m (k + e.2) e.1) m) = true :=
  Tab.wf_foldl (fun _ _ _ h => Tab.wf_put _ _ h) h

/-- Moving listed bytes to other places keeps memory's canonical form. -/
theorem mem_wf_move (f : Nat → Nat) {src m : Tab Byte} (hs : Memory.wf src = true) (h : Memory.wf m = true) :
    Memory.wf (src.foldl (fun a e => Tab.insert (f e.1) e.2 a) m) = true :=
  Tab.wf_foldl (fun _ _ he h => Tab.wf_insert (d := fun _ => 0#8) (Tab.wf_ne hs he) h) h

end Machine
end Sys2Proof
end

