-- ==== Sys2Proof/Laws/Kept.lean ====
section
/-! SUPPORT. One lemma for every operation on the state: it leaves the queue, keeps memory's canonical form, never lowers the
Attic's next sequence number, takes back nothing it sent, and changes nothing outside the parts that its mask names. -/
namespace Sys2Proof.Machine
open Sys2Proof Host
/-- The place of a part in a set of parts, written as a number. -/
def Part.bit : Part → Nat
  | .pending => 0
  | .wall => 1
  | .fresh => 2
  | .regs => 3
  | .ecnt => 4
  | .rcnt => 5
  | .fill => 6
  | .shown => 7
  | .units => 8
  | .transit => 9
  | .marks => 10
  | .sent => 11
  | .routers => 12
  | .hops => 13
  | .tablesDue => 14
  | .tree => 15
  | .cutoff => 16
  | .delays => 17
  | .clocks => 18
  | .refLost => 19
  | .pair => 20
  | .gates => 21
  | .doors => 22
  | .streams => 23
  | .wins => 24
  | .winAlive => 25
  | .scans => 26
  | .taps => 27
  | .cores => 28
  | .ports => 29
  | .adj => 30
  | .rpl => 31
  | .steps => 32
  | .verdicts => 33
  | .replays => 34
  | .setsOpened => 35
  | .ctxs => 36
  | .hist => 37
  | .histFlash => 38
  | .histStaged => 39
  | .histLatch => 40
  | .drainSince => 41
  | .halls => 42
  | .resets => 43
  | .hangs => 44
  | .cut => 45
  | .cutNo => 46
  | .cutDue => 47
  | .cutUnits => 48
  | .chans => 49
  | .stop => 50
  | .voids => 51
  | .bins => 52
  | .bank => 53
  | .segs => 54
  | .attic => 55
  | .mem => 56
  | .variant => 57
  | .mbx => 58
  | .twk => 59
  | .mgt => 60
  | .dbg => 61
  | .cels => 62
  | .reloads => 63
  | .chanMap => 64
  | .descCopy => 65
  | .seeds => 66
  | .idleKills => 67
  | .prv => 68
  | .pairs => 69
  | .steepFirst => 70
  | .stp => 71
  | .engs => 72
  | .plan => 73
  | .grist => 74
  | .ana => 75
  | .dl => 76
  | .fw => 77
  | .sens => 78
  | .thm => 79
  | .emerg => 80
  | .pad => 81
  | .resetsDue => 82
  | .tickAt => 83
  | .passSeen => 84
  | .latch => 85
/-- What a run from one state to another keeps: the queue, memory's canonical form, the Attic's sequence numbers, what was
sent, the events on their way (but for the operations that take them off: bit 86), and every part whose bit the mask does not hold. -/
structure Kept (A : Nat) (s t : State) : Prop where
  queue : t.pending = s.pending
  mem : Memory.wf s.mem = true → Memory.wf t.mem = true
  seq : s.attic.nextSeq ≤ t.attic.nextSeq
  said : s.sent <:+ t.sent
  events : A.testBit 86 = false → s.transit <+: t.transit
  parts : ∀ p : Part, A.testBit p.bit = false → p.same s t
theorem mask_testBit {A i : Nat} (h : 2 ^ i ||| A = A) : A.testBit i = true := by
  rw [← h, Nat.testBit_or]; simp [Nat.testBit_two_pow_self]
theorem mask_sub {a M A : Nat} (h : a ||| M = M) (hA : M ||| A = A) : a ||| A = A := by
  rw [← hA, ← Nat.or_assoc, h]
theorem Kept.refl (A : Nat) (s : State) : Kept A s s := ⟨rfl, id, Nat.le_refl _, List.suffix_refl _, fun _ => List.prefix_refl _, fun p _ => by cases p <;> rfl⟩
theorem Kept.u_wall {A : Nat} {s0 s : State} (h : Kept A s0 s) {v} (hA : 2 ||| A = A) : Kept A s0 { s with wall := v } :=
  ⟨h.queue, h.mem, h.seq, h.said, h.events, fun p hp => by cases p <;> first | exact h.parts _ hp | exact absurd (mask_testBit (i := 1) hA) (by rw [show A.testBit 1 = false from hp]; decide)⟩
theorem Kept.u_fresh {A : Nat} {s0 s : State} (h : Kept A s0 s) {v} (hA : 4 ||| A = A) : Kept A s0 { s with fresh := v } :=
  ⟨h.queue, h.mem, h.seq, h.said, h.events, fun p hp => by cases p <;> first | exact h.parts _ hp | exact absurd (mask_testBit (i := 2) hA) (by rw [show A.testBit 2 = false from hp]; decide)⟩
theorem Kept.u_regs {A : Nat} {s0 s : State} (h : Kept A s0 s) {v} (hA : 8 ||| A = A) : Kept A s0 { s with regs := v } :=
  ⟨h.queue, h.mem, h.seq, h.said, h.events, fun p hp => by cases p <;> first | exact h.parts _ hp | exact absurd (mask_testBit (i := 3) hA) (by rw [show A.testBit 3 = false from hp]; decide)⟩
theorem Kept.u_ecnt {A : Nat} {s0 s : State} (h : Kept A s0 s) {v} (hA : 16 ||| A = A) : Kept A s0 { s with ecnt := v } :=
  ⟨h.queue, h.mem, h.seq, h.said, h.events, fun p hp => by cases p <;> first | exact h.parts _ hp | exact absurd (mask_testBit (i := 4) hA) (by rw [show A.testBit 4 = false from hp]; decide)⟩
theorem Kept.u_rcnt {A : Nat} {s0 s : State} (h : Kept A s0 s) {v} (hA : 32 ||| A = A) : Kept A s0 { s with rcnt := v } :=
  ⟨h.queue, h.mem, h.seq, h.said, h.events, fun p hp => by cases p <;> first | exact h.parts _ hp | exact absurd (mask_testBit (i := 5) hA) (by rw [show A.testBit 5 = false from hp]; decide)⟩
theorem Kept.u_fill {A : Nat} {s0 s : State} (h : Kept A s0 s) {v} (hA : 64 ||| A = A) : Kept A s0 { s with fill := v } :=
  ⟨h.queue, h.mem, h.seq, h.said, h.events, fun p hp => by cases p <;> first | exact h.parts _ hp | exact absurd (mask_testBit (i := 6) hA) (by rw [show A.testBit 6 = false from hp]; decide)⟩
theorem Kept.u_shown {A : Nat} {s0 s : State} (h : Kept A s0 s) {v} (hA : 128 ||| A = A) : Kept A s0 { s with shown := v } :=
  ⟨h.queue, h.mem, h.seq, h.said, h.events, fun p hp => by cases p <;> first | exact h.parts _ hp | exact absurd (mask_testBit (i := 7) hA) (by rw [show A.testBit 7 = false from hp]; decide)⟩
theorem Kept.u_units {A : Nat} {s0 s : State} (h : Kept A s0 s) {v} (hA : 256 ||| A = A) : Kept A s0 { s with units := v } :=
  ⟨h.queue, h.mem, h.seq, h.said, h.events, fun p hp => by cases p <;> first | exact h.parts _ hp | exact absurd (mask_testBit (i := 8) hA) (by rw [show A.testBit 8 = false from hp]; decide)⟩
theorem Kept.u_marks {A : Nat} {s0 s : State} (h : Kept A s0 s) {v} (hA : 1024 ||| A = A) : Kept A s0 { s with marks := v } :=
  ⟨h.queue, h.mem, h.seq, h.said, h.events, fun p hp => by cases p <;> first | exact h.parts _ hp | exact absurd (mask_testBit (i := 10) hA) (by rw [show A.testBit 10 = false from hp]; decide)⟩
theorem Kept.u_routers {A : Nat} {s0 s : State} (h : Kept A s0 s) {v} (hA : 4096 ||| A = A) : Kept A s0 { s with routers := v } :=
  ⟨h.queue, h.mem, h.seq, h.said, h.events, fun p hp => by cases p <;> first | exact h.parts _ hp | exact absurd (mask_testBit (i := 12) hA) (by rw [show A.testBit 12 = false from hp]; decide)⟩
theorem Kept.u_hops {A : Nat} {s0 s : State} (h : Kept A s0 s) {v} (hA : 8192 ||| A = A) : Kept A s0 { s with hops := v } :=
  ⟨h.queue, h.mem, h.seq, h.said, h.events, fun p hp => by cases p <;> first | exact h.parts _ hp | exact absurd (mask_testBit (i := 13) hA) (by rw [show A.testBit 13 = false from hp]; decide)⟩
theorem Kept.u_tablesDue {A : Nat} {s0 s : State} (h : Kept A s0 s) {v} (hA : 16384 ||| A = A) : Kept A s0 { s with tablesDue := v } :=
  ⟨h.queue, h.mem, h.seq, h.said, h.events, fun p hp => by cases p <;> first | exact h.parts _ hp | exact absurd (mask_testBit (i := 14) hA) (by rw [show A.testBit 14 = false from hp]; decide)⟩
theorem Kept.u_tree {A : Nat} {s0 s : State} (h : Kept A s0 s) {v} (hA : 32768 ||| A = A) : Kept A s0 { s with tree := v } :=
  ⟨h.queue, h.mem, h.seq, h.said, h.events, fun p hp => by cases p <;> first | exact h.parts _ hp | exact absurd (mask_testBit (i := 15) hA) (by rw [show A.testBit 15 = false from hp]; decide)⟩
theorem Kept.u_cutoff {A : Nat} {s0 s : State} (h : Kept A s0 s) {v} (hA : 65536 ||| A = A) : Kept A s0 { s with cutoff := v } :=
  ⟨h.queue, h.mem, h.seq, h.said, h.events, fun p hp => by cases p <;> first | exact h.parts _ hp | exact absurd (mask_testBit (i := 16) hA) (by rw [show A.testBit 16 = false from hp]; decide)⟩
theorem Kept.u_delays {A : Nat} {s0 s : State} (h : Kept A s0 s) {v} (hA : 131072 ||| A = A) : Kept A s0 { s with delays := v } :=
  ⟨h.queue, h.mem, h.seq, h.said, h.events, fun p hp => by cases p <;> first | exact h.parts _ hp | exact absurd (mask_testBit (i := 17) hA) (by rw [show A.testBit 17 = false from hp]; decide)⟩
theorem Kept.u_clocks {A : Nat} {s0 s : State} (h : Kept A s0 s) {v} (hA : 262144 ||| A = A) : Kept A s0 { s with clocks := v } :=
  ⟨h.queue, h.mem, h.seq, h.said, h.events, fun p hp => by cases p <;> first | exact h.parts _ hp | exact absurd (mask_testBit (i := 18) hA) (by rw [show A.testBit 18 = false from hp]; decide)⟩
theorem Kept.u_refLost {A : Nat} {s0 s : State} (h : Kept A s0 s) {v} (hA : 524288 ||| A = A) : Kept A s0 { s with refLost := v } :=
  ⟨h.queue, h.mem, h.seq, h.said, h.events, fun p hp => by cases p <;> first | exact h.parts _ hp | exact absurd (mask_testBit (i := 19) hA) (by rw [show A.testBit 19 = false from hp]; decide)⟩
theorem Kept.u_pair {A : Nat} {s0 s : State} (h : Kept A s0 s) {v} (hA : 1048576 ||| A = A) : Kept A s0 { s with pair := v } :=
  ⟨h.queue, h.mem, h.seq, h.said, h.events, fun p hp => by cases p <;> first | exact h.parts _ hp | exact absurd (mask_testBit (i := 20) hA) (by rw [show A.testBit 20 = false from hp]; decide)⟩
theorem Kept.u_gates {A : Nat} {s0 s : State} (h : Kept A s0 s) {v} (hA : 2097152 ||| A = A) : Kept A s0 { s with gates := v } :=
  ⟨h.queue, h.mem, h.seq, h.said, h.events, fun p hp => by cases p <;> first | exact h.parts _ hp | exact absurd (mask_testBit (i := 21) hA) (by rw [show A.testBit 21 = false from hp]; decide)⟩
theorem Kept.u_doors {A : Nat} {s0 s : State} (h : Kept A s0 s) {v} (hA : 4194304 ||| A = A) : Kept A s0 { s with doors := v } :=
  ⟨h.queue, h.mem, h.seq, h.said, h.events, fun p hp => by cases p <;> first | exact h.parts _ hp | exact absurd (mask_testBit (i := 22) hA) (by rw [show A.testBit 22 = false from hp]; decide)⟩
theorem Kept.u_streams {A : Nat} {s0 s : State} (h : Kept A s0 s) {v} (hA : 8388608 ||| A = A) : Kept A s0 { s with streams := v } :=
  ⟨h.queue, h.mem, h.seq, h.said, h.events, fun p hp => by cases p <;> first | exact h.parts _ hp | exact absurd (mask_testBit (i := 23) hA) (by rw [show A.testBit 23 = false from hp]; decide)⟩
theorem Kept.u_wins {A : Nat} {s0 s : State} (h : Kept A s0 s) {v} (hA : 16777216 ||| A = A) : Kept A s0 { s with wins := v } :=
  ⟨h.queue, h.mem, h.seq, h.said, h.events, fun p hp => by cases p <;> first | exact h.parts _ hp | exact absurd (mask_testBit (i := 24) hA) (by rw [show A.testBit 24 = false from hp]; decide)⟩
theorem Kept.u_winAlive {A : Nat} {s0 s : State} (h : Kept A s0 s) {v} (hA : 33554432 ||| A = A) : Kept A s0 { s with winAlive := v } :=
  ⟨h.queue, h.mem, h.seq, h.said, h.events, fun p hp => by cases p <;> first | exact h.parts _ hp | exact absurd (mask_testBit (i := 25) hA) (by rw [show A.testBit 25 = false from hp]; decide)⟩
theorem Kept.u_scans {A : Nat} {s0 s : State} (h : Kept A s0 s) {v} (hA : 67108864 ||| A = A) : Kept A s0 { s with scans := v } :=
  ⟨h.queue, h.mem, h.seq, h.said, h.events, fun p hp => by cases p <;> first | exact h.parts _ hp | exact absurd (mask_testBit (i := 26) hA) (by rw [show A.testBit 26 = false from hp]; decide)⟩
theorem Kept.u_taps {A : Nat} {s0 s : State} (h : Kept A s0 s) {v} (hA : 134217728 ||| A = A) : Kept A s0 { s with taps := v } :=
  ⟨h.queue, h.mem, h.seq, h.said, h.events, fun p hp => by cases p <;> first | exact h.parts _ hp | exact absurd (mask_testBit (i := 27) hA) (by rw [show A.testBit 27 = false from hp]; decide)⟩
theorem Kept.u_cores {A : Nat} {s0 s : State} (h : Kept A s0 s) {v} (hA : 268435456 ||| A = A) : Kept A s0 { s with cores := v } :=
  ⟨h.queue, h.mem, h.seq, h.said, h.events, fun p hp => by cases p <;> first | exact h.parts _ hp | exact absurd (mask_testBit (i := 28) hA) (by rw [show A.testBit 28 = false from hp]; decide)⟩
theorem Kept.u_ports {A : Nat} {s0 s : State} (h : Kept A s0 s) {v} (hA : 536870912 ||| A = A) : Kept A s0 { s with ports := v } :=
  ⟨h.queue, h.mem, h.seq, h.said, h.events, fun p hp => by cases p <;> first | exact h.parts _ hp | exact absurd (mask_testBit (i := 29) hA) (by rw [show A.testBit 29 = false from hp]; decide)⟩
theorem Kept.u_adj {A : Nat} {s0 s : State} (h : Kept A s0 s) {v} (hA : 1073741824 ||| A = A) : Kept A s0 { s with adj := v } :=
  ⟨h.queue, h.mem, h.seq, h.said, h.events, fun p hp => by cases p <;> first | exact h.parts _ hp | exact absurd (mask_testBit (i := 30) hA) (by rw [show A.testBit 30 = false from hp]; decide)⟩
theorem Kept.u_rpl {A : Nat} {s0 s : State} (h : Kept A s0 s) {v} (hA : 2147483648 ||| A = A) : Kept A s0 { s with rpl := v } :=
  ⟨h.queue, h.mem, h.seq, h.said, h.events, fun p hp => by cases p <;> first | exact h.parts _ hp | exact absurd (mask_testBit (i := 31) hA) (by rw [show A.testBit 31 = false from hp]; decide)⟩
theorem Kept.u_steps {A : Nat} {s0 s : State} (h : Kept A s0 s) {v} (hA : 4294967296 ||| A = A) : Kept A s0 { s with steps := v } :=
  ⟨h.queue, h.mem, h.seq, h.said, h.events, fun p hp => by cases p <;> first | exact h.parts _ hp | exact absurd (mask_testBit (i := 32) hA) (by rw [show A.testBit 32 = false from hp]; decide)⟩
theorem Kept.u_verdicts {A : Nat} {s0 s : State} (h : Kept A s0 s) {v} (hA : 8589934592 ||| A = A) : Kept A s0 { s with verdicts := v } :=
  ⟨h.queue, h.mem, h.seq, h.said, h.events, fun p hp => by cases p <;> first | exact h.parts _ hp | exact absurd (mask_testBit (i := 33) hA) (by rw [show A.testBit 33 = false from hp]; decide)⟩
theorem Kept.u_replays {A : Nat} {s0 s : State} (h : Kept A s0 s) {v} (hA : 17179869184 ||| A = A) : Kept A s0 { s with replays := v } :=
  ⟨h.queue, h.mem, h.seq, h.said, h.events, fun p hp => by cases p <;> first | exact h.parts _ hp | exact absurd (mask_testBit (i := 34) hA) (by rw [show A.testBit 34 = false from hp]; decide)⟩
theorem Kept.u_setsOpened {A : Nat} {s0 s : State} (h : Kept A s0 s) {v} (hA : 34359738368 ||| A = A) : Kept A s0 { s with setsOpened := v } :=
  ⟨h.queue, h.mem, h.seq, h.said, h.events, fun p hp => by cases p <;> first | exact h.parts _ hp | exact absurd (mask_testBit (i := 35) hA) (by rw [show A.testBit 35 = false from hp]; decide)⟩
theorem Kept.u_ctxs {A : Nat} {s0 s : State} (h : Kept A s0 s) {v} (hA : 68719476736 ||| A = A) : Kept A s0 { s with ctxs := v } :=
  ⟨h.queue, h.mem, h.seq, h.said, h.events, fun p hp => by cases p <;> first | exact h.parts _ hp | exact absurd (mask_testBit (i := 36) hA) (by rw [show A.testBit 36 = false from hp]; decide)⟩
theorem Kept.u_hist {A : Nat} {s0 s : State} (h : Kept A s0 s) {v} (hA : 137438953472 ||| A = A) : Kept A s0 { s with hist := v } :=
  ⟨h.queue, h.mem, h.seq, h.said, h.events, fun p hp => by cases p <;> first | exact h.parts _ hp | exact absurd (mask_testBit (i := 37) hA) (by rw [show A.testBit 37 = false from hp]; decide)⟩
theorem Kept.u_histFlash {A : Nat} {s0 s : State} (h : Kept A s0 s) {v} (hA : 274877906944 ||| A = A) : Kept A s0 { s with histFlash := v } :=
  ⟨h.queue, h.mem, h.seq, h.said, h.events, fun p hp => by cases p <;> first | exact h.parts _ hp | exact absurd (mask_testBit (i := 38) hA) (by rw [show A.testBit 38 = false from hp]; decide)⟩
theorem Kept.u_histStaged {A : Nat} {s0 s : State} (h : Kept A s0 s) {v} (hA : 549755813888 ||| A = A) : Kept A s0 { s with histStaged := v } :=
  ⟨h.queue, h.mem, h.seq, h.said, h.events, fun p hp => by cases p <;> first | exact h.parts _ hp | exact absurd (mask_testBit (i := 39) hA) (by rw [show A.testBit 39 = false from hp]; decide)⟩
theorem Kept.u_histLatch {A : Nat} {s0 s : State} (h : Kept A s0 s) {v} (hA : 1099511627776 ||| A = A) : Kept A s0 { s with histLatch := v } :=
  ⟨h.queue, h.mem, h.seq, h.said, h.events, fun p hp => by cases p <;> first | exact h.parts _ hp | exact absurd (mask_testBit (i := 40) hA) (by rw [show A.testBit 40 = false from hp]; decide)⟩
theorem Kept.u_drainSince {A : Nat} {s0 s : State} (h : Kept A s0 s) {v} (hA : 2199023255552 ||| A = A) : Kept A s0 { s with drainSince := v } :=
  ⟨h.queue, h.mem, h.seq, h.said, h.events, fun p hp => by cases p <;> first | exact h.parts _ hp | exact absurd (mask_testBit (i := 41) hA) (by rw [show A.testBit 41 = false from hp]; decide)⟩
theorem Kept.u_halls {A : Nat} {s0 s : State} (h : Kept A s0 s) {v} (hA : 4398046511104 ||| A = A) : Kept A s0 { s with halls := v } :=
  ⟨h.queue, h.mem, h.seq, h.said, h.events, fun p hp => by cases p <;> first | exact h.parts _ hp | exact absurd (mask_testBit (i := 42) hA) (by rw [show A.testBit 42 = false from hp]; decide)⟩
theorem Kept.u_resets {A : Nat} {s0 s : State} (h : Kept A s0 s) {v} (hA : 8796093022208 ||| A = A) : Kept A s0 { s with resets := v } :=
  ⟨h.queue, h.mem, h.seq, h.said, h.events, fun p hp => by cases p <;> first | exact h.parts _ hp | exact absurd (mask_testBit (i := 43) hA) (by rw [show A.testBit 43 = false from hp]; decide)⟩
theorem Kept.u_hangs {A : Nat} {s0 s : State} (h : Kept A s0 s) {v} (hA : 17592186044416 ||| A = A) : Kept A s0 { s with hangs := v } :=
  ⟨h.queue, h.mem, h.seq, h.said, h.events, fun p hp => by cases p <;> first | exact h.parts _ hp | exact absurd (mask_testBit (i := 44) hA) (by rw [show A.testBit 44 = false from hp]; decide)⟩
theorem Kept.u_cut {A : Nat} {s0 s : State} (h : Kept A s0 s) {v} (hA : 35184372088832 ||| A = A) : Kept A s0 { s with cut := v } :=
  ⟨h.queue, h.mem, h.seq, h.said, h.events, fun p hp => by cases p <;> first | exact h.parts _ hp | exact absurd (mask_testBit (i := 45) hA) (by rw [show A.testBit 45 = false from hp]; decide)⟩
theorem Kept.u_cutNo {A : Nat} {s0 s : State} (h : Kept A s0 s) {v} (hA : 70368744177664 ||| A = A) : Kept A s0 { s with cutNo := v } :=
  ⟨h.queue, h.mem, h.seq, h.said, h.events, fun p hp => by cases p <;> first | exact h.parts _ hp | exact absurd (mask_testBit (i := 46) hA) (by rw [show A.testBit 46 = false from hp]; decide)⟩
theorem Kept.u_cutDue {A : Nat} {s0 s : State} (h : Kept A s0 s) {v} (hA : 140737488355328 ||| A = A) : Kept A s0 { s with cutDue := v } :=
  ⟨h.queue, h.mem, h.seq, h.said, h.events, fun p hp => by cases p <;> first | exact h.parts _ hp | exact absurd (mask_testBit (i := 47) hA) (by rw [show A.testBit 47 = false from hp]; decide)⟩
theorem Kept.u_cutUnits {A : Nat} {s0 s : State} (h : Kept A s0 s) {v} (hA : 281474976710656 ||| A = A) : Kept A s0 { s with cutUnits := v } :=
  ⟨h.queue, h.mem, h.seq, h.said, h.events, fun p hp => by cases p <;> first | exact h.parts _ hp | exact absurd (mask_testBit (i := 48) hA) (by rw [show A.testBit 48 = false from hp]; decide)⟩
theorem Kept.u_chans {A : Nat} {s0 s : State} (h : Kept A s0 s) {v} (hA : 562949953421312 ||| A = A) : Kept A s0 { s with chans := v } :=
  ⟨h.queue, h.mem, h.seq, h.said, h.events, fun p hp => by cases p <;> first | exact h.parts _ hp | exact absurd (mask_testBit (i := 49) hA) (by rw [show A.testBit 49 = false from hp]; decide)⟩
theorem Kept.u_stop {A : Nat} {s0 s : State} (h : Kept A s0 s) {v} (hA : 1125899906842624 ||| A = A) : Kept A s0 { s with stop := v } :=
  ⟨h.queue, h.mem, h.seq, h.said, h.events, fun p hp => by cases p <;> first | exact h.parts _ hp | exact absurd (mask_testBit (i := 50) hA) (by rw [show A.testBit 50 = false from hp]; decide)⟩
theorem Kept.u_voids {A : Nat} {s0 s : State} (h : Kept A s0 s) {v} (hA : 2251799813685248 ||| A = A) : Kept A s0 { s with voids := v } :=
  ⟨h.queue, h.mem, h.seq, h.said, h.events, fun p hp => by cases p <;> first | exact h.parts _ hp | exact absurd (mask_testBit (i := 51) hA) (by rw [show A.testBit 51 = false from hp]; decide)⟩
theorem Kept.u_bins {A : Nat} {s0 s : State} (h : Kept A s0 s) {v} (hA : 4503599627370496 ||| A = A) : Kept A s0 { s with bins := v } :=
  ⟨h.queue, h.mem, h.seq, h.said, h.events, fun p hp => by cases p <;> first | exact h.parts _ hp | exact absurd (mask_testBit (i := 52) hA) (by rw [show A.testBit 52 = false from hp]; decide)⟩
theorem Kept.u_bank {A : Nat} {s0 s : State} (h : Kept A s0 s) {v} (hA : 9007199254740992 ||| A = A) : Kept A s0 { s with bank := v } :=
  ⟨h.queue, h.mem, h.seq, h.said, h.events, fun p hp => by cases p <;> first | exact h.parts _ hp | exact absurd (mask_testBit (i := 53) hA) (by rw [show A.testBit 53 = false from hp]; decide)⟩
theorem Kept.u_segs {A : Nat} {s0 s : State} (h : Kept A s0 s) {v} (hA : 18014398509481984 ||| A = A) : Kept A s0 { s with segs := v } :=
  ⟨h.queue, h.mem, h.seq, h.said, h.events, fun p hp => by cases p <;> first | exact h.parts _ hp | exact absurd (mask_testBit (i := 54) hA) (by rw [show A.testBit 54 = false from hp]; decide)⟩
theorem Kept.u_variant {A : Nat} {s0 s : State} (h : Kept A s0 s) {v} (hA : 144115188075855872 ||| A = A) : Kept A s0 { s with variant := v } :=
  ⟨h.queue, h.mem, h.seq, h.said, h.events, fun p hp => by cases p <;> first | exact h.parts _ hp | exact absurd (mask_testBit (i := 57) hA) (by rw [show A.testBit 57 = false from hp]; decide)⟩
theorem Kept.u_mbx {A : Nat} {s0 s : State} (h : Kept A s0 s) {v} (hA : 288230376151711744 ||| A = A) : Kept A s0 { s with mbx := v } :=
  ⟨h.queue, h.mem, h.seq, h.said, h.events, fun p hp => by cases p <;> first | exact h.parts _ hp | exact absurd (mask_testBit (i := 58) hA) (by rw [show A.testBit 58 = false from hp]; decide)⟩
theorem Kept.u_twk {A : Nat} {s0 s : State} (h : Kept A s0 s) {v} (hA : 576460752303423488 ||| A = A) : Kept A s0 { s with twk := v } :=
  ⟨h.queue, h.mem, h.seq, h.said, h.events, fun p hp => by cases p <;> first | exact h.parts _ hp | exact absurd (mask_testBit (i := 59) hA) (by rw [show A.testBit 59 = false from hp]; decide)⟩
theorem Kept.u_mgt {A : Nat} {s0 s : State} (h : Kept A s0 s) {v} (hA : 1152921504606846976 ||| A = A) : Kept A s0 { s with mgt := v } :=
  ⟨h.queue, h.mem, h.seq, h.said, h.events, fun p hp => by cases p <;> first | exact h.parts _ hp | exact absurd (mask_testBit (i := 60) hA) (by rw [show A.testBit 60 = false from hp]; decide)⟩
theorem Kept.u_dbg {A : Nat} {s0 s : State} (h : Kept A s0 s) {v} (hA : 2305843009213693952 ||| A = A) : Kept A s0 { s with dbg := v } :=
  ⟨h.queue, h.mem, h.seq, h.said, h.events, fun p hp => by cases p <;> first | exact h.parts _ hp | exact absurd (mask_testBit (i := 61) hA) (by rw [show A.testBit 61 = false from hp]; decide)⟩
theorem Kept.u_cels {A : Nat} {s0 s : State} (h : Kept A s0 s) {v} (hA : 4611686018427387904 ||| A = A) : Kept A s0 { s with cels := v } :=
  ⟨h.queue, h.mem, h.seq, h.said, h.events, fun p hp => by cases p <;> first | exact h.parts _ hp | exact absurd (mask_testBit (i := 62) hA) (by rw [show A.testBit 62 = false from hp]; decide)⟩
theorem Kept.u_reloads {A : Nat} {s0 s : State} (h : Kept A s0 s) {v} (hA : 9223372036854775808 ||| A = A) : Kept A s0 { s with reloads := v } :=
  ⟨h.queue, h.mem, h.seq, h.said, h.events, fun p hp => by cases p <;> first | exact h.parts _ hp | exact absurd (mask_testBit (i := 63) hA) (by rw [show A.testBit 63 = false from hp]; decide)⟩
theorem Kept.u_chanMap {A : Nat} {s0 s : State} (h : Kept A s0 s) {v} (hA : 18446744073709551616 ||| A = A) : Kept A s0 { s with chanMap := v } :=
  ⟨h.queue, h.mem, h.seq, h.said, h.events, fun p hp => by cases p <;> first | exact h.parts _ hp | exact absurd (mask_testBit (i := 64) hA) (by rw [show A.testBit 64 = false from hp]; decide)⟩
theorem Kept.u_descCopy {A : Nat} {s0 s : State} (h : Kept A s0 s) {v} (hA : 36893488147419103232 ||| A = A) : Kept A s0 { s with descCopy := v } :=
  ⟨h.queue, h.mem, h.seq, h.said, h.events, fun p hp => by cases p <;> first | exact h.parts _ hp | exact absurd (mask_testBit (i := 65) hA) (by rw [show A.testBit 65 = false from hp]; decide)⟩
theorem Kept.u_seeds {A : Nat} {s0 s : State} (h : Kept A s0 s) {v} (hA : 73786976294838206464 ||| A = A) : Kept A s0 { s with seeds := v } :=
  ⟨h.queue, h.mem, h.seq, h.said, h.events, fun p hp => by cases p <;> first | exact h.parts _ hp | exact absurd (mask_testBit (i := 66) hA) (by rw [show A.testBit 66 = false from hp]; decide)⟩
theorem Kept.u_idleKills {A : Nat} {s0 s : State} (h : Kept A s0 s) {v} (hA : 147573952589676412928 ||| A = A) : Kept A s0 { s with idleKills := v } :=
  ⟨h.queue, h.mem, h.seq, h.said, h.events, fun p hp => by cases p <;> first | exact h.parts _ hp | exact absurd (mask_testBit (i := 67) hA) (by rw [show A.testBit 67 = false from hp]; decide)⟩
theorem Kept.u_prv {A : Nat} {s0 s : State} (h : Kept A s0 s) {v} (hA : 295147905179352825856 ||| A = A) : Kept A s0 { s with prv := v } :=
  ⟨h.queue, h.mem, h.seq, h.said, h.events, fun p hp => by cases p <;> first | exact h.parts _ hp | exact absurd (mask_testBit (i := 68) hA) (by rw [show A.testBit 68 = false from hp]; decide)⟩
theorem Kept.u_pairs {A : Nat} {s0 s : State} (h : Kept A s0 s) {v} (hA : 590295810358705651712 ||| A = A) : Kept A s0 { s with pairs := v } :=
  ⟨h.queue, h.mem, h.seq, h.said, h.events, fun p hp => by cases p <;> first | exact h.parts _ hp | exact absurd (mask_testBit (i := 69) hA) (by rw [show A.testBit 69 = false from hp]; decide)⟩
theorem Kept.u_steepFirst {A : Nat} {s0 s : State} (h : Kept A s0 s) {v} (hA : 1180591620717411303424 ||| A = A) : Kept A s0 { s with steepFirst := v } :=
  ⟨h.queue, h.mem, h.seq, h.said, h.events, fun p hp => by cases p <;> first | exact h.parts _ hp | exact absurd (mask_testBit (i := 70) hA) (by rw [show A.testBit 70 = false from hp]; decide)⟩
theorem Kept.u_stp {A : Nat} {s0 s : State} (h : Kept A s0 s) {v} (hA : 2361183241434822606848 ||| A = A) : Kept A s0 { s with stp := v } :=
  ⟨h.queue, h.mem, h.seq, h.said, h.events, fun p hp => by cases p <;> first | exact h.parts _ hp | exact absurd (mask_testBit (i := 71) hA) (by rw [show A.testBit 71 = false from hp]; decide)⟩
theorem Kept.u_engs {A : Nat} {s0 s : State} (h : Kept A s0 s) {v} (hA : 4722366482869645213696 ||| A = A) : Kept A s0 { s with engs := v } :=
  ⟨h.queue, h.mem, h.seq, h.said, h.events, fun p hp => by cases p <;> first | exact h.parts _ hp | exact absurd (mask_testBit (i := 72) hA) (by rw [show A.testBit 72 = false from hp]; decide)⟩
theorem Kept.u_plan {A : Nat} {s0 s : State} (h : Kept A s0 s) {v} (hA : 9444732965739290427392 ||| A = A) : Kept A s0 { s with plan := v } :=
  ⟨h.queue, h.mem, h.seq, h.said, h.events, fun p hp => by cases p <;> first | exact h.parts _ hp | exact absurd (mask_testBit (i := 73) hA) (by rw [show A.testBit 73 = false from hp]; decide)⟩
theorem Kept.u_grist {A : Nat} {s0 s : State} (h : Kept A s0 s) {v} (hA : 18889465931478580854784 ||| A = A) : Kept A s0 { s with grist := v } :=
  ⟨h.queue, h.mem, h.seq, h.said, h.events, fun p hp => by cases p <;> first | exact h.parts _ hp | exact absurd (mask_testBit (i := 74) hA) (by rw [show A.testBit 74 = false from hp]; decide)⟩
theorem Kept.u_ana {A : Nat} {s0 s : State} (h : Kept A s0 s) {v} (hA : 37778931862957161709568 ||| A = A) : Kept A s0 { s with ana := v } :=
  ⟨h.queue, h.mem, h.seq, h.said, h.events, fun p hp => by cases p <;> first | exact h.parts _ hp | exact absurd (mask_testBit (i := 75) hA) (by rw [show A.testBit 75 = false from hp]; decide)⟩
theorem Kept.u_dl {A : Nat} {s0 s : State} (h : Kept A s0 s) {v} (hA : 75557863725914323419136 ||| A = A) : Kept A s0 { s with dl := v } :=
  ⟨h.queue, h.mem, h.seq, h.said, h.events, fun p hp => by cases p <;> first | exact h.parts _ hp | exact absurd (mask_testBit (i := 76) hA) (by rw [show A.testBit 76 = false from hp]; decide)⟩
theorem Kept.u_fw {A : Nat} {s0 s : State} (h : Kept A s0 s) {v} (hA : 151115727451828646838272 ||| A = A) : Kept A s0 { s with fw := v } :=
  ⟨h.queue, h.mem, h.seq, h.said, h.events, fun p hp => by cases p <;> first | exact h.parts _ hp | exact absurd (mask_testBit (i := 77) hA) (by rw [show A.testBit 77 = false from hp]; decide)⟩
theorem Kept.u_sens {A : Nat} {s0 s : State} (h : Kept A s0 s) {v} (hA : 302231454903657293676544 ||| A = A) : Kept A s0 { s with sens := v } :=
  ⟨h.queue, h.mem, h.seq, h.said, h.events, fun p hp => by cases p <;> first | exact h.parts _ hp | exact absurd (mask_testBit (i := 78) hA) (by rw [show A.testBit 78 = false from hp]; decide)⟩
theorem Kept.u_thm {A : Nat} {s0 s : State} (h : Kept A s0 s) {v} (hA : 604462909807314587353088 ||| A = A) : Kept A s0 { s with thm := v } :=
  ⟨h.queue, h.mem, h.seq, h.said, h.events, fun p hp => by cases p <;> first | exact h.parts _ hp | exact absurd (mask_testBit (i := 79) hA) (by rw [show A.testBit 79 = false from hp]; decide)⟩
theorem Kept.u_emerg {A : Nat} {s0 s : State} (h : Kept A s0 s) {v} (hA : 1208925819614629174706176 ||| A = A) : Kept A s0 { s with emerg := v } :=
  ⟨h.queue, h.mem, h.seq, h.said, h.events, fun p hp => by cases p <;> first | exact h.parts _ hp | exact absurd (mask_testBit (i := 80) hA) (by rw [show A.testBit 80 = false from hp]; decide)⟩
theorem Kept.u_pad {A : Nat} {s0 s : State} (h : Kept A s0 s) {v} (hA : 2417851639229258349412352 ||| A = A) : Kept A s0 { s with pad := v } :=
  ⟨h.queue, h.mem, h.seq, h.said, h.events, fun p hp => by cases p <;> first | exact h.parts _ hp | exact absurd (mask_testBit (i := 81) hA) (by rw [show A.testBit 81 = false from hp]; decide)⟩
theorem Kept.u_resetsDue {A : Nat} {s0 s : State} (h : Kept A s0 s) {v} (hA : 4835703278458516698824704 ||| A = A) : Kept A s0 { s with resetsDue := v } :=
  ⟨h.queue, h.mem, h.seq, h.said, h.events, fun p hp => by cases p <;> first | exact h.parts _ hp | exact absurd (mask_testBit (i := 82) hA) (by rw [show A.testBit 82 = false from hp]; decide)⟩
theorem Kept.u_tickAt {A : Nat} {s0 s : State} (h : Kept A s0 s) {v} (hA : 9671406556917033397649408 ||| A = A) : Kept A s0 { s with tickAt := v } :=
  ⟨h.queue, h.mem, h.seq, h.said, h.events, fun p hp => by cases p <;> first | exact h.parts _ hp | exact absurd (mask_testBit (i := 83) hA) (by rw [show A.testBit 83 = false from hp]; decide)⟩
theorem Kept.u_passSeen {A : Nat} {s0 s : State} (h : Kept A s0 s) {v} (hA : 19342813113834066795298816 ||| A = A) : Kept A s0 { s with passSeen := v } :=
  ⟨h.queue, h.mem, h.seq, h.said, h.events, fun p hp => by cases p <;> first | exact h.parts _ hp | exact absurd (mask_testBit (i := 84) hA) (by rw [show A.testBit 84 = false from hp]; decide)⟩
theorem Kept.u_latch {A : Nat} {s0 s : State} (h : Kept A s0 s) {v} (hA : 38685626227668133590597632 ||| A = A) : Kept A s0 { s with latch := v } :=
  ⟨h.queue, h.mem, h.seq, h.said, h.events, fun p hp => by cases p <;> first | exact h.parts _ hp | exact absurd (mask_testBit (i := 85) hA) (by rw [show A.testBit 85 = false from hp]; decide)⟩
theorem Kept.u_mem {A : Nat} {s0 s : State} (h : Kept A s0 s) {v} (hm : Memory.wf s.mem = true → Memory.wf v = true) (hA : 72057594037927936 ||| A = A) : Kept A s0 { s with mem := v } :=
  ⟨h.queue, fun w => hm (h.mem w), h.seq, h.said, h.events, fun p hp => by cases p <;> first | exact h.parts _ hp | exact absurd (mask_testBit (i := 56) hA) (by rw [show A.testBit 56 = false from hp]; decide)⟩
theorem Kept.u_attic {A : Nat} {s0 s : State} (h : Kept A s0 s) {v} (ha : s.attic.nextSeq ≤ v.nextSeq) (hA : 36028797018963968 ||| A = A) : Kept A s0 { s with attic := v } :=
  ⟨h.queue, h.mem, Nat.le_trans h.seq ha, h.said, h.events, fun p hp => by cases p <;> first | exact h.parts _ hp | exact absurd (mask_testBit (i := 55) hA) (by rw [show A.testBit 55 = false from hp]; decide)⟩
theorem Kept.u_transit {A : Nat} {s0 s : State} (h : Kept A s0 s) {v} (hg : s.transit <+: v ∨ A.testBit 86 = true) (hA : 512 ||| A = A) : Kept A s0 { s with transit := v } :=
  ⟨h.queue, h.mem, h.seq, h.said, fun e => (h.events e).trans (hg.resolve_right (by rw [e]; exact Bool.false_ne_true)), fun p hp => by cases p <;> first | exact h.parts _ hp | exact absurd (mask_testBit (i := 9) hA) (by rw [show A.testBit 9 = false from hp]; decide)⟩
theorem Kept.u_sent {A : Nat} {s0 s : State} (h : Kept A s0 s) {v} (hn : s.sent <:+ v) (hA : 2048 ||| A = A) : Kept A s0 { s with sent := v } :=
  ⟨h.queue, h.mem, h.seq, h.said.trans hn, h.events, fun p hp => by cases p <;> first | exact h.parts _ hp | exact absurd (mask_testBit (i := 11) hA) (by rw [show A.testBit 11 = false from hp]; decide)⟩
theorem Kept.u_sentBack {A : Nat} {s0 s t : State} (h : Kept A s0 t) (hs : Kept A s0 s) (hA : 2048 ||| A = A) : Kept A s0 { t with sent := s.sent } :=
  ⟨h.queue, h.mem, h.seq, hs.said, h.events, fun p hp => by cases p <;> first | exact h.parts _ hp | exact absurd (mask_testBit (i := 11) hA) (by rw [show A.testBit 11 = false from hp]; decide)⟩
/-- The frame of the first part of an answer. -/
def KeptL {α : Type} (A : Nat) (s0 : State) (p : State × α) : Prop := Kept A s0 p.1
/-- The frame of the second part of an answer. -/
def KeptR {α : Type} (A : Nat) (s0 : State) (p : α × State) : Prop := Kept A s0 p.2
/-- The frame of an answer that may be none. -/
def KeptS (A : Nat) (s0 : State) (o : Option State) : Prop := ∀ r, o = some r → Kept A s0 r
/-- The frame of an outcome: of its next state, where it has one. -/
def KeptO (A : Nat) (s0 : State) (o : Host.Outcome State Fault Refusal) : Prop := ∀ r, o = .next r → Kept A s0 r
variable {A : Nat} {s0 : State}
theorem KeptO.next {s : State} (h : Kept A s0 s) : KeptO A s0 (.next s) := fun _ e => by cases e; exact h
theorem KeptO.fault (f : Fault) : KeptO A s0 (.fault f) := fun _ e => by cases e
theorem KeptO.refused (f : Refusal) : KeptO A s0 (.refused f) := fun _ e => by cases e
theorem KeptL.mk {α : Type} {s : State} {x : α} (h : Kept A s0 s) : KeptL A s0 (s, x) := h
theorem KeptR.mk {α : Type} {s : State} {x : α} (h : Kept A s0 s) : KeptR A s0 (x, s) := h
theorem KeptL.fst {α : Type} {p : State × α} (h : KeptL A s0 p) : Kept A s0 p.1 := h
theorem KeptR.snd {α : Type} {p : α × State} (h : KeptR A s0 p) : Kept A s0 p.2 := h
theorem KeptL.of_eq {α : Type} {p : State × α} (h : KeptL A s0 p) {s : State} {x : α} (e : p = (s, x)) : Kept A s0 s := by subst e; exact h
theorem KeptR.of_eq {α : Type} {p : α × State} (h : KeptR A s0 p) {s : State} {x : α} (e : p = (x, s)) : Kept A s0 s := by subst e; exact h
theorem KeptS.of_eq {o : Option State} (h : KeptS A s0 o) {s : State} (e : o = some s) : Kept A s0 s := h s e
theorem KeptS.some {s : State} (h : Kept A s0 s) : KeptS A s0 (some s) := fun _ e => by cases e; exact h
theorem KeptS.none : KeptS A s0 none := fun _ e => by cases e
theorem KeptS.map {α : Type} {f : α → State} (h : ∀ x, Kept A s0 (f x)) (o : Option α) : KeptS A s0 (o.map f) :=
  fun _ e => by cases o <;> cases e; exact h _
theorem KeptS.getD {o : Option State} {d : State} (h : KeptS A s0 o) (hd : Kept A s0 d) : Kept A s0 (o.getD d) := by
  cases o
  · exact hd
  · exact h _ rfl
theorem Kept.foldl {α : Type} {f : State → α → State} {s : State} (hf : ∀ x y, Kept A s0 x → Kept A s0 (f x y)) (h : Kept A s0 s) (l : List α) :
    Kept A s0 (l.foldl f s) := by
  induction l generalizing s with
  | nil => exact h
  | cons a l ih => exact ih (hf _ _ h)
theorem Kept.ite {c : Prop} [Decidable c] {a d : State} (ha : Kept A s0 a) (hd : Kept A s0 d) : Kept A s0 (if c then a else d) := by
  split
  · exact ha
  · exact hd
theorem Kept.dite {c : Prop} [Decidable c] {a : c → State} {d : ¬ c → State} (ha : ∀ h, Kept A s0 (a h)) (hd : ∀ h, Kept A s0 (d h)) : Kept A s0 (if h : c then a h else d h) := by
  split
  · exact ha _
  · exact hd _
theorem Kept.cond {c : Bool} {a d : State} (ha : Kept A s0 a) (hd : Kept A s0 d) : Kept A s0 (bif c then a else d) := by
  cases c
  · exact hd
  · exact ha
theorem KeptL.ite {α : Type} {c : Prop} [Decidable c] {a d : State × α} (ha : KeptL A s0 a) (hd : KeptL A s0 d) : KeptL A s0 (if c then a else d) := by
  split
  · exact ha
  · exact hd
theorem KeptL.dite {α : Type} {c : Prop} [Decidable c] {a : c → State × α} {d : ¬ c → State × α} (ha : ∀ h, KeptL A s0 (a h)) (hd : ∀ h, KeptL A s0 (d h)) : KeptL A s0 (if h : c then a h else d h) := by
  split
  · exact ha _
  · exact hd _
theorem KeptL.cond {α : Type} {c : Bool} {a d : State × α} (ha : KeptL A s0 a) (hd : KeptL A s0 d) : KeptL A s0 (bif c then a else d) := by
  cases c
  · exact hd
  · exact ha
theorem KeptR.ite {α : Type} {c : Prop} [Decidable c] {a d : α × State} (ha : KeptR A s0 a) (hd : KeptR A s0 d) : KeptR A s0 (if c then a else d) := by
  split
  · exact ha
  · exact hd
theorem KeptR.dite {α : Type} {c : Prop} [Decidable c] {a : c → α × State} {d : ¬ c → α × State} (ha : ∀ h, KeptR A s0 (a h)) (hd : ∀ h, KeptR A s0 (d h)) : KeptR A s0 (if h : c then a h else d h) := by
  split
  · exact ha _
  · exact hd _
theorem KeptR.cond {α : Type} {c : Bool} {a d : α × State} (ha : KeptR A s0 a) (hd : KeptR A s0 d) : KeptR A s0 (bif c then a else d) := by
  cases c
  · exact hd
  · exact ha
theorem KeptS.ite {c : Prop} [Decidable c] {a d : Option State} (ha : KeptS A s0 a) (hd : KeptS A s0 d) : KeptS A s0 (if c then a else d) := by
  split
  · exact ha
  · exact hd
theorem KeptS.dite {c : Prop} [Decidable c] {a : c → Option State} {d : ¬ c → Option State} (ha : ∀ h, KeptS A s0 (a h)) (hd : ∀ h, KeptS A s0 (d h)) : KeptS A s0 (if h : c then a h else d h) := by
  split
  · exact ha _
  · exact hd _
theorem KeptS.cond {c : Bool} {a d : Option State} (ha : KeptS A s0 a) (hd : KeptS A s0 d) : KeptS A s0 (bif c then a else d) := by
  cases c
  · exact hd
  · exact ha
theorem KeptO.ite {c : Prop} [Decidable c] {a d : Host.Outcome State Fault Refusal} (ha : KeptO A s0 a) (hd : KeptO A s0 d) : KeptO A s0 (if c then a else d) := by
  split
  · exact ha
  · exact hd
theorem KeptO.dite {c : Prop} [Decidable c] {a : c → Host.Outcome State Fault Refusal} {d : ¬ c → Host.Outcome State Fault Refusal} (ha : ∀ h, KeptO A s0 (a h)) (hd : ∀ h, KeptO A s0 (d h)) : KeptO A s0 (if h : c then a h else d h) := by
  split
  · exact ha _
  · exact hd _
theorem KeptO.cond {c : Bool} {a d : Host.Outcome State Fault Refusal} (ha : KeptO A s0 a) (hd : KeptO A s0 d) : KeptO A s0 (bif c then a else d) := by
  cases c
  · exact hd
  · exact ha
theorem Kept.u_regs_ecnt {A : Nat} {s0 s : State} (hs : Kept A s0 s) {v0} {v1} (hA : 24 ||| A = A) : Kept A s0 { s with regs := v0, ecnt := v1 } := by
  have h := Kept.u_regs hs (v := v0) (mask_sub (by decide) hA)
  have h := Kept.u_ecnt h (v := v1) (mask_sub (by decide) hA)
  exact h
theorem Kept.u_ecnt_rcnt {A : Nat} {s0 s : State} (hs : Kept A s0 s) {v0} {v1} (hA : 48 ||| A = A) : Kept A s0 { s with ecnt := v0, rcnt := v1 } := by
  have h := Kept.u_ecnt hs (v := v0) (mask_sub (by decide) hA)
  have h := Kept.u_rcnt h (v := v1) (mask_sub (by decide) hA)
  exact h
theorem Kept.u_cutoff_voids {A : Nat} {s0 s : State} (hs : Kept A s0 s) {v0} {v1} (hA : 2251799813750784 ||| A = A) : Kept A s0 { s with cutoff := v0, voids := v1 } := by
  have h := Kept.u_cutoff hs (v := v0) (mask_sub (by decide) hA)
  have h := Kept.u_voids h (v := v1) (mask_sub (by decide) hA)
  exact h
theorem Kept.u_tablesDue_tree {A : Nat} {s0 s : State} (hs : Kept A s0 s) {v0} {v1} (hA : 49152 ||| A = A) : Kept A s0 { s with tablesDue := v0, tree := v1 } := by
  have h := Kept.u_tablesDue hs (v := v0) (mask_sub (by decide) hA)
  have h := Kept.u_tree h (v := v1) (mask_sub (by decide) hA)
  exact h
theorem Kept.u_fw_emerg {A : Nat} {s0 s : State} (hs : Kept A s0 s) {v0} {v1} (hA : 1360041547066457821544448 ||| A = A) : Kept A s0 { s with fw := v0, emerg := v1 } := by
  have h := Kept.u_fw hs (v := v0) (mask_sub (by decide) hA)
  have h := Kept.u_emerg h (v := v1) (mask_sub (by decide) hA)
  exact h
theorem Kept.u_hist_histStaged {A : Nat} {s0 s : State} (hs : Kept A s0 s) {v0} {v1} (hA : 687194767360 ||| A = A) : Kept A s0 { s with hist := v0, histStaged := v1 } := by
  have h := Kept.u_hist hs (v := v0) (mask_sub (by decide) hA)
  have h := Kept.u_histStaged h (v := v1) (mask_sub (by decide) hA)
  exact h
theorem Kept.u_histFlash_histStaged {A : Nat} {s0 s : State} (hs : Kept A s0 s) {v0} {v1} (hA : 824633720832 ||| A = A) : Kept A s0 { s with histFlash := v0, histStaged := v1 } := by
  have h := Kept.u_histFlash hs (v := v0) (mask_sub (by decide) hA)
  have h := Kept.u_histStaged h (v := v1) (mask_sub (by decide) hA)
  exact h
theorem Kept.u_variant_mbx_twk_plan {A : Nat} {s0 s : State} (hs : Kept A s0 s) {v0} {v1} {v2} {v3} (hA : 9445741772055821418496 ||| A = A) : Kept A s0 { s with variant := v0, mbx := v1, twk := v2, plan := v3 } := by
  have h := Kept.u_variant hs (v := v0) (mask_sub (by decide) hA)
  have h := Kept.u_mbx h (v := v1) (mask_sub (by decide) hA)
  have h := Kept.u_twk h (v := v2) (mask_sub (by decide) hA)
  have h := Kept.u_plan h (v := v3) (mask_sub (by decide) hA)
  exact h
theorem Kept.u_transit_pair_halls {A : Nat} {s0 s : State} (hs : Kept A s0 s) {v0} {v1} {v2} (hg : s.transit <+: v0 ∨ A.testBit 86 = true) (hA : 4398047560192 ||| A = A) : Kept A s0 { s with transit := v0, pair := v1, halls := v2 } := by
  have h := Kept.u_transit hs (v := v0) hg (mask_sub (by decide) hA)
  have h := Kept.u_pair h (v := v1) (mask_sub (by decide) hA)
  have h := Kept.u_halls h (v := v2) (mask_sub (by decide) hA)
  exact h
theorem Kept.u_regs_ecnt_rcnt_fill_shown_delays_clocks_scans_cutUnits_engs {A : Nat} {s0 s : State} (hs : Kept A s0 s) {v0} {v1} {v2} {v3} {v4} {v5} {v6} {v7} {v8} {v9} (hA : 4722366764344689426680 ||| A = A) : Kept A s0 { s with regs := v0, ecnt := v1, rcnt := v2, fill := v3, shown := v4, delays := v5, clocks := v6, scans := v7, cutUnits := v8, engs := v9 } := by
  have h := Kept.u_regs hs (v := v0) (mask_sub (by decide) hA)
  have h := Kept.u_ecnt h (v := v1) (mask_sub (by decide) hA)
  have h := Kept.u_rcnt h (v := v2) (mask_sub (by decide) hA)
  have h := Kept.u_fill h (v := v3) (mask_sub (by decide) hA)
  have h := Kept.u_shown h (v := v4) (mask_sub (by decide) hA)
  have h := Kept.u_delays h (v := v5) (mask_sub (by decide) hA)
  have h := Kept.u_clocks h (v := v6) (mask_sub (by decide) hA)
  have h := Kept.u_scans h (v := v7) (mask_sub (by decide) hA)
  have h := Kept.u_cutUnits h (v := v8) (mask_sub (by decide) hA)
  have h := Kept.u_engs h (v := v9) (mask_sub (by decide) hA)
  exact h
theorem Kept.u_rcnt_shown {A : Nat} {s0 s : State} (hs : Kept A s0 s) {v0} {v1} (hA : 160 ||| A = A) : Kept A s0 { s with rcnt := v0, shown := v1 } := by
  have h := Kept.u_rcnt hs (v := v0) (mask_sub (by decide) hA)
  have h := Kept.u_shown h (v := v1) (mask_sub (by decide) hA)
  exact h
theorem Kept.u_taps_cores_adj_rpl_steps_hangs_chans_bins_bank_pairs_stp {A : Nat} {s0 s : State} (hs : Kept A s0 s) {v0} {v1} {v2} {v3} {v4} {v5} {v6} {v7} {v8} {v9} {v10} (hA : 2951493143142468681728 ||| A = A) : Kept A s0 { s with taps := v0, cores := v1, adj := v2, rpl := v3, steps := v4, hangs := v5, chans := v6, bins := v7, bank := v8, pairs := v9, stp := v10 } := by
  have h := Kept.u_taps hs (v := v0) (mask_sub (by decide) hA)
  have h := Kept.u_cores h (v := v1) (mask_sub (by decide) hA)
  have h := Kept.u_adj h (v := v2) (mask_sub (by decide) hA)
  have h := Kept.u_rpl h (v := v3) (mask_sub (by decide) hA)
  have h := Kept.u_steps h (v := v4) (mask_sub (by decide) hA)
  have h := Kept.u_hangs h (v := v5) (mask_sub (by decide) hA)
  have h := Kept.u_chans h (v := v6) (mask_sub (by decide) hA)
  have h := Kept.u_bins h (v := v7) (mask_sub (by decide) hA)
  have h := Kept.u_bank h (v := v8) (mask_sub (by decide) hA)
  have h := Kept.u_pairs h (v := v9) (mask_sub (by decide) hA)
  have h := Kept.u_stp h (v := v10) (mask_sub (by decide) hA)
  exact h
theorem Kept.u_wins_winAlive_chans_mem_stp_fw {A : Nat} {s0 s : State} (hs : Kept A s0 s) {v0} {v1} {v2} {v3} {v4} {v5} (hm : Memory.wf s.mem = true → Memory.wf v3 = true) (hA : 153476983313807511126016 ||| A = A) : Kept A s0 { s with wins := v0, winAlive := v1, chans := v2, mem := v3, stp := v4, fw := v5 } := by
  have h := Kept.u_wins hs (v := v0) (mask_sub (by decide) hA)
  have h := Kept.u_winAlive h (v := v1) (mask_sub (by decide) hA)
  have h := Kept.u_chans h (v := v2) (mask_sub (by decide) hA)
  have h := Kept.u_mem h (v := v3) hm (mask_sub (by decide) hA)
  have h := Kept.u_stp h (v := v4) (mask_sub (by decide) hA)
  have h := Kept.u_fw h (v := v5) (mask_sub (by decide) hA)
  exact h
theorem Kept.u_streams_reloads_stp {A : Nat} {s0 s : State} (hs : Kept A s0 s) {v0} {v1} {v2} (hA : 2370406613471685771264 ||| A = A) : Kept A s0 { s with streams := v0, reloads := v1, stp := v2 } := by
  have h := Kept.u_streams hs (v := v0) (mask_sub (by decide) hA)
  have h := Kept.u_reloads h (v := v1) (mask_sub (by decide) hA)
  have h := Kept.u_stp h (v := v2) (mask_sub (by decide) hA)
  exact h
theorem Kept.u_resets_pad_resetsDue {A : Nat} {s0 s : State} (hs : Kept A s0 s) {v0} {v1} {v2} (hA : 7253554917696571141259264 ||| A = A) : Kept A s0 { s with resets := v0, pad := v1, resetsDue := v2 } := by
  have h := Kept.u_resets hs (v := v0) (mask_sub (by decide) hA)
  have h := Kept.u_pad h (v := v1) (mask_sub (by decide) hA)
  have h := Kept.u_resetsDue h (v := v2) (mask_sub (by decide) hA)
  exact h
theorem Kept.u_restart {A : Nat} {s0 s : State} (hs : Kept A s0 s) {v0} {v1} {v2} {v3} {v4} {v5} {v6} {v7} {v8} {v9} {v10} {v11} {v12} {v13} {v14} {v15} {v16} {v17} {v18} {v19} {v20} {v21} {v22} {v23} {v24} {v25} {v26} {v27} {v28} {v29} {v30} {v31} {v32} {v33} {v34} {v35} {v36} {v37} {v38} {v39} {v40} {v41} {v42} {v43} {v44} {v45} {v46} {v47} {v48} {v49} {v50} {v51} {v52} {v53} {v54} {v55} {v56} {v57} {v58} {v59} {v60} {v61} {v62} {v63} {v64} {v65} {v66} {v67} {v68} {v69} {v70} {v71} {v72} {v73} {v74} {v75} {v76} {v77} {v78} {v79} {v80} (hg : s.transit <+: v7 ∨ A.testBit 86 = true) (ha : s.attic.nextSeq ≤ v52.nextSeq) (hm : Memory.wf s.mem = true → Memory.wf v53 = true) (hA : 77371233864477005395785722 ||| A = A) : Kept A s0 { s with wall := v0, regs := v1, ecnt := v2, rcnt := v3, fill := v4, shown := v5, units := v6, transit := v7, marks := v8, routers := v9, hops := v10, tablesDue := v11, tree := v12, cutoff := v13, delays := v14, clocks := v15, refLost := v16, pair := v17, gates := v18, doors := v19, streams := v20, wins := v21, winAlive := v22, scans := v23, taps := v24, cores := v25, ports := v26, adj := v27, rpl := v28, steps := v29, verdicts := v30, replays := v31, setsOpened := v32, ctxs := v33, hist := v34, histFlash := v35, histStaged := v36, histLatch := v37, drainSince := v38, halls := v39, resets := v40, hangs := v41, cut := v42, cutNo := v43, cutDue := v44, cutUnits := v45, chans := v46, stop := v47, voids := v48, bins := v49, bank := v50, segs := v51, attic := v52, mem := v53, mbx := v54, twk := v55, mgt := v56, dbg := v57, cels := v58, reloads := v59, descCopy := v60, seeds := v61, idleKills := v62, prv := v63, pairs := v64, steepFirst := v65, stp := v66, engs := v67, plan := v68, grist := v69, ana := v70, dl := v71, fw := v72, sens := v73, thm := v74, emerg := v75, pad := v76, resetsDue := v77, tickAt := v78, passSeen := v79, latch := v80 } := by
  have h := Kept.u_wall hs (v := v0) (mask_sub (by decide) hA)
  have h := Kept.u_regs h (v := v1) (mask_sub (by decide) hA)
  have h := Kept.u_ecnt h (v := v2) (mask_sub (by decide) hA)
  have h := Kept.u_rcnt h (v := v3) (mask_sub (by decide) hA)
  have h := Kept.u_fill h (v := v4) (mask_sub (by decide) hA)
  have h := Kept.u_shown h (v := v5) (mask_sub (by decide) hA)
  have h := Kept.u_units h (v := v6) (mask_sub (by decide) hA)
  have h := Kept.u_transit h (v := v7) hg (mask_sub (by decide) hA)
  have h := Kept.u_marks h (v := v8) (mask_sub (by decide) hA)
  have h := Kept.u_routers h (v := v9) (mask_sub (by decide) hA)
  have h := Kept.u_hops h (v := v10) (mask_sub (by decide) hA)
  have h := Kept.u_tablesDue h (v := v11) (mask_sub (by decide) hA)
  have h := Kept.u_tree h (v := v12) (mask_sub (by decide) hA)
  have h := Kept.u_cutoff h (v := v13) (mask_sub (by decide) hA)
  have h := Kept.u_delays h (v := v14) (mask_sub (by decide) hA)
  have h := Kept.u_clocks h (v := v15) (mask_sub (by decide) hA)
  have h := Kept.u_refLost h (v := v16) (mask_sub (by decide) hA)
  have h := Kept.u_pair h (v := v17) (mask_sub (by decide) hA)
  have h := Kept.u_gates h (v := v18) (mask_sub (by decide) hA)
  have h := Kept.u_doors h (v := v19) (mask_sub (by decide) hA)
  have h := Kept.u_streams h (v := v20) (mask_sub (by decide) hA)
  have h := Kept.u_wins h (v := v21) (mask_sub (by decide) hA)
  have h := Kept.u_winAlive h (v := v22) (mask_sub (by decide) hA)
  have h := Kept.u_scans h (v := v23) (mask_sub (by decide) hA)
  have h := Kept.u_taps h (v := v24) (mask_sub (by decide) hA)
  have h := Kept.u_cores h (v := v25) (mask_sub (by decide) hA)
  have h := Kept.u_ports h (v := v26) (mask_sub (by decide) hA)
  have h := Kept.u_adj h (v := v27) (mask_sub (by decide) hA)
  have h := Kept.u_rpl h (v := v28) (mask_sub (by decide) hA)
  have h := Kept.u_steps h (v := v29) (mask_sub (by decide) hA)
  have h := Kept.u_verdicts h (v := v30) (mask_sub (by decide) hA)
  have h := Kept.u_replays h (v := v31) (mask_sub (by decide) hA)
  have h := Kept.u_setsOpened h (v := v32) (mask_sub (by decide) hA)
  have h := Kept.u_ctxs h (v := v33) (mask_sub (by decide) hA)
  have h := Kept.u_hist h (v := v34) (mask_sub (by decide) hA)
  have h := Kept.u_histFlash h (v := v35) (mask_sub (by decide) hA)
  have h := Kept.u_histStaged h (v := v36) (mask_sub (by decide) hA)
  have h := Kept.u_histLatch h (v := v37) (mask_sub (by decide) hA)
  have h := Kept.u_drainSince h (v := v38) (mask_sub (by decide) hA)
  have h := Kept.u_halls h (v := v39) (mask_sub (by decide) hA)
  have h := Kept.u_resets h (v := v40) (mask_sub (by decide) hA)
  have h := Kept.u_hangs h (v := v41) (mask_sub (by decide) hA)
  have h := Kept.u_cut h (v := v42) (mask_sub (by decide) hA)
  have h := Kept.u_cutNo h (v := v43) (mask_sub (by decide) hA)
  have h := Kept.u_cutDue h (v := v44) (mask_sub (by decide) hA)
  have h := Kept.u_cutUnits h (v := v45) (mask_sub (by decide) hA)
  have h := Kept.u_chans h (v := v46) (mask_sub (by decide) hA)
  have h := Kept.u_stop h (v := v47) (mask_sub (by decide) hA)
  have h := Kept.u_voids h (v := v48) (mask_sub (by decide) hA)
  have h := Kept.u_bins h (v := v49) (mask_sub (by decide) hA)
  have h := Kept.u_bank h (v := v50) (mask_sub (by decide) hA)
  have h := Kept.u_segs h (v := v51) (mask_sub (by decide) hA)
  have h := Kept.u_attic h (v := v52) ha (mask_sub (by decide) hA)
  have h := Kept.u_mem h (v := v53) hm (mask_sub (by decide) hA)
  have h := Kept.u_mbx h (v := v54) (mask_sub (by decide) hA)
  have h := Kept.u_twk h (v := v55) (mask_sub (by decide) hA)
  have h := Kept.u_mgt h (v := v56) (mask_sub (by decide) hA)
  have h := Kept.u_dbg h (v := v57) (mask_sub (by decide) hA)
  have h := Kept.u_cels h (v := v58) (mask_sub (by decide) hA)
  have h := Kept.u_reloads h (v := v59) (mask_sub (by decide) hA)
  have h := Kept.u_descCopy h (v := v60) (mask_sub (by decide) hA)
  have h := Kept.u_seeds h (v := v61) (mask_sub (by decide) hA)
  have h := Kept.u_idleKills h (v := v62) (mask_sub (by decide) hA)
  have h := Kept.u_prv h (v := v63) (mask_sub (by decide) hA)
  have h := Kept.u_pairs h (v := v64) (mask_sub (by decide) hA)
  have h := Kept.u_steepFirst h (v := v65) (mask_sub (by decide) hA)
  have h := Kept.u_stp h (v := v66) (mask_sub (by decide) hA)
  have h := Kept.u_engs h (v := v67) (mask_sub (by decide) hA)
  have h := Kept.u_plan h (v := v68) (mask_sub (by decide) hA)
  have h := Kept.u_grist h (v := v69) (mask_sub (by decide) hA)
  have h := Kept.u_ana h (v := v70) (mask_sub (by decide) hA)
  have h := Kept.u_dl h (v := v71) (mask_sub (by decide) hA)
  have h := Kept.u_fw h (v := v72) (mask_sub (by decide) hA)
  have h := Kept.u_sens h (v := v73) (mask_sub (by decide) hA)
  have h := Kept.u_thm h (v := v74) (mask_sub (by decide) hA)
  have h := Kept.u_emerg h (v := v75) (mask_sub (by decide) hA)
  have h := Kept.u_pad h (v := v76) (mask_sub (by decide) hA)
  have h := Kept.u_resetsDue h (v := v77) (mask_sub (by decide) hA)
  have h := Kept.u_tickAt h (v := v78) (mask_sub (by decide) hA)
  have h := Kept.u_passSeen h (v := v79) (mask_sub (by decide) hA)
  have h := Kept.u_latch h (v := v80) (mask_sub (by decide) hA)
  exact h
theorem Kept.u_resets_hangs {A : Nat} {s0 s : State} (hs : Kept A s0 s) {v0} {v1} (hA : 26388279066624 ||| A = A) : Kept A s0 { s with resets := v0, hangs := v1 } := by
  have h := Kept.u_resets hs (v := v0) (mask_sub (by decide) hA)
  have h := Kept.u_hangs h (v := v1) (mask_sub (by decide) hA)
  exact h
theorem Kept.u_rpl_prv {A : Nat} {s0 s : State} (hs : Kept A s0 s) {v0} {v1} (hA : 295147905181500309504 ||| A = A) : Kept A s0 { s with rpl := v0, prv := v1 } := by
  have h := Kept.u_rpl hs (v := v0) (mask_sub (by decide) hA)
  have h := Kept.u_prv h (v := v1) (mask_sub (by decide) hA)
  exact h
theorem Kept.u_cut_cutNo_cutDue {A : Nat} {s0 s : State} (hs : Kept A s0 s) {v0} {v1} {v2} (hA : 246290604621824 ||| A = A) : Kept A s0 { s with cut := v0, cutNo := v1, cutDue := v2 } := by
  have h := Kept.u_cut hs (v := v0) (mask_sub (by decide) hA)
  have h := Kept.u_cutNo h (v := v1) (mask_sub (by decide) hA)
  have h := Kept.u_cutDue h (v := v2) (mask_sub (by decide) hA)
  exact h
theorem Kept.u_ecnt_fill {A : Nat} {s0 s : State} (hs : Kept A s0 s) {v0} {v1} (hA : 80 ||| A = A) : Kept A s0 { s with ecnt := v0, fill := v1 } := by
  have h := Kept.u_ecnt hs (v := v0) (mask_sub (by decide) hA)
  have h := Kept.u_fill h (v := v1) (mask_sub (by decide) hA)
  exact h
theorem Kept.u_hangs_voids_thm_resetsDue {A : Nat} {s0 s : State} (hs : Kept A s0 s) {v0} {v1} {v2} {v3} (hA : 5440166190535223285907456 ||| A = A) : Kept A s0 { s with hangs := v0, voids := v1, thm := v2, resetsDue := v3 } := by
  have h := Kept.u_hangs hs (v := v0) (mask_sub (by decide) hA)
  have h := Kept.u_voids h (v := v1) (mask_sub (by decide) hA)
  have h := Kept.u_thm h (v := v2) (mask_sub (by decide) hA)
  have h := Kept.u_resetsDue h (v := v3) (mask_sub (by decide) hA)
  exact h
theorem Kept.u_tickAt_passSeen {A : Nat} {s0 s : State} (hs : Kept A s0 s) {v0} {v1} (hA : 29014219670751100192948224 ||| A = A) : Kept A s0 { s with tickAt := v0, passSeen := v1 } := by
  have h := Kept.u_tickAt hs (v := v0) (mask_sub (by decide) hA)
  have h := Kept.u_passSeen h (v := v1) (mask_sub (by decide) hA)
  exact h
theorem Kept.u_chanMap_fw {A : Nat} {s0 s : State} (hs : Kept A s0 s) {v0} {v1} (hA : 151134174195902356389888 ||| A = A) : Kept A s0 { s with chanMap := v0, fw := v1 } := by
  have h := Kept.u_chanMap hs (v := v0) (mask_sub (by decide) hA)
  have h := Kept.u_fw h (v := v1) (mask_sub (by decide) hA)
  exact h
theorem Kept.u_pair_mbx_plan_fw_pad {A : Nat} {s0 s : State} (hs : Kept A s0 s) {v0} {v1} {v2} {v3} {v4} (hA : 2578412387877202439438336 ||| A = A) : Kept A s0 { s with pair := v0, mbx := v1, plan := v2, fw := v3, pad := v4 } := by
  have h := Kept.u_pair hs (v := v0) (mask_sub (by decide) hA)
  have h := Kept.u_mbx h (v := v1) (mask_sub (by decide) hA)
  have h := Kept.u_plan h (v := v2) (mask_sub (by decide) hA)
  have h := Kept.u_fw h (v := v3) (mask_sub (by decide) hA)
  have h := Kept.u_pad h (v := v4) (mask_sub (by decide) hA)
  exact h
theorem Kept.u_adj_rpl_prv_pairs {A : Nat} {s0 s : State} (hs : Kept A s0 s) {v0} {v1} {v2} {v3} (hA : 885443715541279703040 ||| A = A) : Kept A s0 { s with adj := v0, rpl := v1, prv := v2, pairs := v3 } := by
  have h := Kept.u_adj hs (v := v0) (mask_sub (by decide) hA)
  have h := Kept.u_rpl h (v := v1) (mask_sub (by decide) hA)
  have h := Kept.u_prv h (v := v2) (mask_sub (by decide) hA)
  have h := Kept.u_pairs h (v := v3) (mask_sub (by decide) hA)
  exact h
theorem Kept.u_halls_prv {A : Nat} {s0 s : State} (hs : Kept A s0 s) {v0} {v1} (hA : 295147909577399336960 ||| A = A) : Kept A s0 { s with halls := v0, prv := v1 } := by
  have h := Kept.u_halls hs (v := v0) (mask_sub (by decide) hA)
  have h := Kept.u_prv h (v := v1) (mask_sub (by decide) hA)
  exact h
theorem Kept.u_wins_winAlive_cels {A : Nat} {s0 s : State} (hs : Kept A s0 s) {v0} {v1} {v2} (hA : 4611686018477719552 ||| A = A) : Kept A s0 { s with wins := v0, winAlive := v1, cels := v2 } := by
  have h := Kept.u_wins hs (v := v0) (mask_sub (by decide) hA)
  have h := Kept.u_winAlive h (v := v1) (mask_sub (by decide) hA)
  have h := Kept.u_cels h (v := v2) (mask_sub (by decide) hA)
  exact h
theorem Kept.u_streams_reloads {A : Nat} {s0 s : State} (hs : Kept A s0 s) {v0} {v1} (hA : 9223372036863164416 ||| A = A) : Kept A s0 { s with streams := v0, reloads := v1 } := by
  have h := Kept.u_streams hs (v := v0) (mask_sub (by decide) hA)
  have h := Kept.u_reloads h (v := v1) (mask_sub (by decide) hA)
  exact h

/-- The mask of a set of parts. -/
def maskOf : List Part → Nat
  | [] => 0
  | p :: ps => 2 ^ p.bit ||| maskOf ps
/-- The part at a place. -/
def Part.ofBit : Nat → Option Part
  | 0 => some .pending
  | 1 => some .wall
  | 2 => some .fresh
  | 3 => some .regs
  | 4 => some .ecnt
  | 5 => some .rcnt
  | 6 => some .fill
  | 7 => some .shown
  | 8 => some .units
  | 9 => some .transit
  | 10 => some .marks
  | 11 => some .sent
  | 12 => some .routers
  | 13 => some .hops
  | 14 => some .tablesDue
  | 15 => some .tree
  | 16 => some .cutoff
  | 17 => some .delays
  | 18 => some .clocks
  | 19 => some .refLost
  | 20 => some .pair
  | 21 => some .gates
  | 22 => some .doors
  | 23 => some .streams
  | 24 => some .wins
  | 25 => some .winAlive
  | 26 => some .scans
  | 27 => some .taps
  | 28 => some .cores
  | 29 => some .ports
  | 30 => some .adj
  | 31 => some .rpl
  | 32 => some .steps
  | 33 => some .verdicts
  | 34 => some .replays
  | 35 => some .setsOpened
  | 36 => some .ctxs
  | 37 => some .hist
  | 38 => some .histFlash
  | 39 => some .histStaged
  | 40 => some .histLatch
  | 41 => some .drainSince
  | 42 => some .halls
  | 43 => some .resets
  | 44 => some .hangs
  | 45 => some .cut
  | 46 => some .cutNo
  | 47 => some .cutDue
  | 48 => some .cutUnits
  | 49 => some .chans
  | 50 => some .stop
  | 51 => some .voids
  | 52 => some .bins
  | 53 => some .bank
  | 54 => some .segs
  | 55 => some .attic
  | 56 => some .mem
  | 57 => some .variant
  | 58 => some .mbx
  | 59 => some .twk
  | 60 => some .mgt
  | 61 => some .dbg
  | 62 => some .cels
  | 63 => some .reloads
  | 64 => some .chanMap
  | 65 => some .descCopy
  | 66 => some .seeds
  | 67 => some .idleKills
  | 68 => some .prv
  | 69 => some .pairs
  | 70 => some .steepFirst
  | 71 => some .stp
  | 72 => some .engs
  | 73 => some .plan
  | 74 => some .grist
  | 75 => some .ana
  | 76 => some .dl
  | 77 => some .fw
  | 78 => some .sens
  | 79 => some .thm
  | 80 => some .emerg
  | 81 => some .pad
  | 82 => some .resetsDue
  | 83 => some .tickAt
  | 84 => some .passSeen
  | 85 => some .latch
  | _ => none
theorem Part.ofBit_bit (p : Part) : Part.ofBit p.bit = some p := by cases p <;> rfl
theorem Part.bit_ne {p q : Part} (h : p ≠ q) : p.bit ≠ q.bit := by
  intro e
  have h1 := Part.ofBit_bit p
  rw [e, Part.ofBit_bit q] at h1
  exact h (Option.some.inj h1).symm
/-- A part that is not in a set has no bit in its mask. -/
theorem maskOf_testBit {ps : List Part} {p : Part} (h : ps.contains p = false) : (maskOf ps).testBit p.bit = false := by
  induction ps with
  | nil => simp [maskOf]
  | cons q ps ih =>
    simp only [List.contains_cons, Bool.or_eq_false_iff] at h
    have hne : q ≠ p := by
      intro e; subst e; simp at h
    rw [maskOf, Nat.testBit_or, ih h.2, Nat.testBit_two_pow_of_ne (Part.bit_ne hne)]
    rfl
/-- What is kept but for a mask is the same but for its parts. -/
theorem Kept.sameBut {ps : List Part} {s t : State} (h : Kept (maskOf ps) s t) : State.sameBut ps s t :=
  fun p hp => h.parts p (maskOf_testBit hp)
theorem Part.bit_lt (p : Part) : p.bit < 86 := by cases p <;> decide
/-- The same where events may leave the queue to the recorder. -/
theorem Kept.sameButEvents {ps : List Part} {s t : State} (h : Kept (2 ^ 86 ||| maskOf ps) s t) : State.sameBut ps s t :=
  fun p hp => h.parts p (by
    rw [Nat.testBit_or, maskOf_testBit hp, Nat.testBit_two_pow_of_ne (Nat.ne_of_gt p.bit_lt)]
    rfl)
/-- An event on its way stays on its way. -/
theorem Kept.event {A : Nat} {s t : State} (h : Kept A s t) (hA : A.testBit 86 = false) {e : Ev} (he : e ∈ s.transit) : e ∈ t.transit :=
  (h.events hA).subset he
end Sys2Proof.Machine
end

