-- ==== Sys2Proof/Machine/Pins.lean ====
section
/-! DEFINITION. Onasen's output pins as a state shows them, between two commands (R72, R115, R118, R379, R516; assumption 192). -/
namespace Sys2Proof.Machine
open Sys2Proof

/-- A pad of the active Brewhouse's region: driven at a level, or at high impedance, as every pad is while its rails have not settled (R118); the
pad logic of the standby's side is held at high impedance. -/
def State.pad_ (s : State) (level : Option Bool) : Option Bool := if s.padOn s.active then level else none
/-- Bring-up has stopped for want of a bundle: every xSPI pin is at high impedance (R516). -/
def State.xspiOff (s : State) : Bool := s.isSet uBRW BRW_BOOT_STOPPED && s.rd uBRW BRW_BOOT_REASON == 2
/-- An xSPI pin. -/
def State.xspi_ (s : State) (level : Option Bool) : Option Bool := if s.xspiOff then none else s.pad_ level
/-- XSPI_RST_N: low until Brewhouse start (R115). -/
def State.xspiRstN (s : State) : Option Bool := s.xspi_ (some (s.fw.stage != 0))
/-- XSPI_CS0_N and XSPI_CS1_N: the selects of the primary and the golden device, both high between transfers (R115): each command ends what it transfers. -/
def State.xspiCs0N (s : State) : Option Bool := s.xspi_ (some true)
def State.xspiCs1N (s : State) : Option Bool := s.xspi_ (some true)
/-- FAILSAFE_N: high while the active Brewhouse drives it, else left to the integrator's pull-down (R72, R115). -/
def State.failsafeN (s : State) : Option Bool := s.pad_ (if s.pair.failsafe then none else some true)
/-- PWRCYC_REQ_N between its low pulses: open drain, left to the integrator's pull-up (R115, R379). -/
def State.pwrcycReqN (_ : State) : Option Bool := none
/-- TDO outside Shift-DR and Shift-IR, where every state of this model stands: a scan is one command (R115). -/
def State.tdo (_ : State) : Option Bool := none
/-- CL_PHY_LB of a channel: high from the start of its slice in the Cellar's steep until the loop-back is over (R333). -/
def State.phyLb (s : State) (c ch : Nat) : Bool :=
  match s.eng (uCEL c) with
  | some x => x.phase == 4 && x.slice == ch + 1 && !x.looped
  | none => false

end Sys2Proof.Machine
end

