-- ==== Sys2Proof/Laws/Kept0.lean ====
section
/-! SUPPORT. What every operation on the state keeps, part 1: callees come before their callers. -/
namespace Sys2Proof.Machine
open Sys2Proof Host
theorem kept_updHall {A : Nat} {s0 : State} {s : Sys2Proof.Machine.State} {k : Nat} {f : Sys2Proof.HallSt → Sys2Proof.HallSt} (h_s : Kept A s0 s) (hA : 4398046511104 ||| A = A) :
    Kept A s0 (State.updHall s k f) := by
  unfold State.updHall
  refine Kept.u_halls ?_ (mask_sub (by decide) hA)
  exact h_s
theorem kept_updCutUnit {A : Nat} {s0 : State} {s : Sys2Proof.Machine.State} {k : Nat} {f : Sys2Proof.CutUnit → Sys2Proof.CutUnit} (h_s : Kept A s0 s) (hA : 281474976710656 ||| A = A) :
    Kept A s0 (State.updCutUnit s k f) := by
  unfold State.updCutUnit
  refine Kept.u_cutUnits ?_ (mask_sub (by decide) hA)
  exact h_s
theorem kept_updSensor {A : Nat} {s0 : State} {s : Sys2Proof.Machine.State} {k : Nat} {f : Sys2Proof.SensorSt → Sys2Proof.SensorSt} (h_s : Kept A s0 s) (hA : 302231454903657293676544 ||| A = A) :
    Kept A s0 (State.updSensor s k f) := by
  unfold State.updSensor
  refine Kept.u_sens ?_ (mask_sub (by decide) hA)
  exact h_s
theorem kept_updReloadOf {A : Nat} {s0 : State} {s : Sys2Proof.Machine.State} {k : Nat} {f : List Sys2Proof.OpenReload → List Sys2Proof.OpenReload} (h_s : Kept A s0 s) (hA : 9223372036854775808 ||| A = A) :
    Kept A s0 (State.updReloadOf s k f) := by
  unfold State.updReloadOf
  refine Kept.u_reloads ?_ (mask_sub (by decide) hA)
  exact h_s
theorem kept_updPairOf {A : Nat} {s0 : State} {s : Sys2Proof.Machine.State} {k : Nat} {f : Sys2Proof.PairTst → Sys2Proof.PairTst} (h_s : Kept A s0 s) (hA : 590295810358705651712 ||| A = A) :
    Kept A s0 (State.updPairOf s k f) := by
  unfold State.updPairOf
  refine Kept.u_pairs ?_ (mask_sub (by decide) hA)
  exact h_s
theorem kept_updSeedOf {A : Nat} {s0 : State} {s : Sys2Proof.Machine.State} {k : Nat} {f : Option Nat → Option Nat} (h_s : Kept A s0 s) (hA : 73786976294838206464 ||| A = A) :
    Kept A s0 (State.updSeedOf s k f) := by
  unfold State.updSeedOf
  refine Kept.u_seeds ?_ (mask_sub (by decide) hA)
  exact h_s
theorem kept_updDelay {A : Nat} {s0 : State} {s : Sys2Proof.Machine.State} {k : Nat} {f : Sys2Proof.DelaySt → Sys2Proof.DelaySt} (h_s : Kept A s0 s) (hA : 131072 ||| A = A) :
    Kept A s0 (State.updDelay s k f) := by
  unfold State.updDelay
  refine Kept.u_delays ?_ (mask_sub (by decide) hA)
  exact h_s
theorem kept_updSetsOf {A : Nat} {s0 : State} {s : Sys2Proof.Machine.State} {k : Nat} {f : List Nat → List Nat} (h_s : Kept A s0 s) (hA : 34359738368 ||| A = A) :
    Kept A s0 (State.updSetsOf s k f) := by
  unfold State.updSetsOf
  refine Kept.u_setsOpened ?_ (mask_sub (by decide) hA)
  exact h_s
theorem kept_updWinStream {A : Nat} {s0 : State} {s : Sys2Proof.Machine.State} {k : Nat} {f : Sys2Proof.StreamSt → Sys2Proof.StreamSt} (h_s : Kept A s0 s) (hA : 33554432 ||| A = A) :
    Kept A s0 (State.updWinStream s k f) := by
  unfold State.updWinStream
  refine Kept.u_winAlive ?_ (mask_sub (by decide) hA)
  exact h_s
theorem kept_updChan {A : Nat} {s0 : State} {s : Sys2Proof.Machine.State} {k : Nat} {f : Sys2Proof.ChanRec → Sys2Proof.ChanRec} (h_s : Kept A s0 s) (hA : 562949953421312 ||| A = A) :
    Kept A s0 (State.updChan s k f) := by
  unfold State.updChan
  refine Kept.u_chans ?_ (mask_sub (by decide) hA)
  exact h_s
theorem kept_updRouter {A : Nat} {s0 : State} {s : Sys2Proof.Machine.State} {k : Nat} {f : Sys2Proof.RouterSt → Sys2Proof.RouterSt} (h_s : Kept A s0 s) (hA : 4096 ||| A = A) :
    Kept A s0 (State.updRouter s k f) := by
  unfold State.updRouter
  refine Kept.u_routers ?_ (mask_sub (by decide) hA)
  exact h_s
theorem kept_updCore {A : Nat} {s0 : State} {s : Sys2Proof.Machine.State} {k : Nat} {f : Sys2Proof.CoreSt → Sys2Proof.CoreSt} (h_s : Kept A s0 s) (hA : 268435456 ||| A = A) :
    Kept A s0 (State.updCore s k f) := by
  unfold State.updCore
  refine Kept.u_cores ?_ (mask_sub (by decide) hA)
  exact h_s
theorem kept_updStream {A : Nat} {s0 : State} {s : Sys2Proof.Machine.State} {k : Nat} {f : Sys2Proof.StreamSt → Sys2Proof.StreamSt} (h_s : Kept A s0 s) (hA : 8388608 ||| A = A) :
    Kept A s0 (State.updStream s k f) := by
  unfold State.updStream
  refine Kept.u_streams ?_ (mask_sub (by decide) hA)
  exact h_s
theorem kept_updBankCfg {A : Nat} {s0 : State} {s : Sys2Proof.Machine.State} {k : Nat} {f : Sys2Proof.BankCfg → Sys2Proof.BankCfg} (h_s : Kept A s0 s) (hA : 9007199254740992 ||| A = A) :
    Kept A s0 (State.updBankCfg s k f) := by
  unfold State.updBankCfg
  refine Kept.u_bank ?_ (mask_sub (by decide) hA)
  exact h_s
theorem kept_updTap {A : Nat} {s0 : State} {s : Sys2Proof.Machine.State} {k : Nat} {f : Sys2Proof.TapSt → Sys2Proof.TapSt} (h_s : Kept A s0 s) (hA : 134217728 ||| A = A) :
    Kept A s0 (State.updTap s k f) := by
  unfold State.updTap
  refine Kept.u_taps ?_ (mask_sub (by decide) hA)
  exact h_s
theorem kept_updVerdictsOf {A : Nat} {s0 : State} {s : Sys2Proof.Machine.State} {k : Nat} {f : List Sys2Proof.Verdict → List Sys2Proof.Verdict} (h_s : Kept A s0 s) (hA : 8589934592 ||| A = A) :
    Kept A s0 (State.updVerdictsOf s k f) := by
  unfold State.updVerdictsOf
  refine Kept.u_verdicts ?_ (mask_sub (by decide) hA)
  exact h_s
theorem kept_updCel {A : Nat} {s0 : State} {s : Sys2Proof.Machine.State} {k : Nat} {f : Sys2Proof.CelSt → Sys2Proof.CelSt} (h_s : Kept A s0 s) (hA : 4611686018427387904 ||| A = A) :
    Kept A s0 (State.updCel s k f) := by
  unfold State.updCel
  refine Kept.u_cels ?_ (mask_sub (by decide) hA)
  exact h_s
theorem kept_updCtx {A : Nat} {s0 : State} {s : Sys2Proof.Machine.State} {k : Nat} {f : Sys2Proof.CtxSt → Sys2Proof.CtxSt} (h_s : Kept A s0 s) (hA : 68719476736 ||| A = A) :
    Kept A s0 (State.updCtx s k f) := by
  unfold State.updCtx
  refine Kept.u_ctxs ?_ (mask_sub (by decide) hA)
  exact h_s
theorem kept_updUnit {A : Nat} {s0 : State} {s : Sys2Proof.Machine.State} {k : Nat} {f : Sys2Proof.UnitSt → Sys2Proof.UnitSt} (h_s : Kept A s0 s) (hA : 256 ||| A = A) :
    Kept A s0 (State.updUnit s k f) := by
  unfold State.updUnit
  refine Kept.u_units ?_ (mask_sub (by decide) hA)
  exact h_s
theorem kept_updDoor {A : Nat} {s0 : State} {s : Sys2Proof.Machine.State} {k : Nat} {f : Sys2Proof.DoorSt → Sys2Proof.DoorSt} (h_s : Kept A s0 s) (hA : 4194304 ||| A = A) :
    Kept A s0 (State.updDoor s k f) := by
  unfold State.updDoor
  refine Kept.u_doors ?_ (mask_sub (by decide) hA)
  exact h_s
theorem kept_updGate {A : Nat} {s0 : State} {s : Sys2Proof.Machine.State} {k : Nat} {f : Sys2Proof.GateSt → Sys2Proof.GateSt} (h_s : Kept A s0 s) (hA : 2097152 ||| A = A) :
    Kept A s0 (State.updGate s k f) := by
  unfold State.updGate
  refine Kept.u_gates ?_ (mask_sub (by decide) hA)
  exact h_s
theorem kept_updBin {A : Nat} {s0 : State} {s : Sys2Proof.Machine.State} {k : Nat} {f : Sys2Proof.BinSt → Sys2Proof.BinSt} (h_s : Kept A s0 s) (hA : 4503599627370496 ||| A = A) :
    Kept A s0 (State.updBin s k f) := by
  unfold State.updBin
  refine Kept.u_bins ?_ (mask_sub (by decide) hA)
  exact h_s
theorem kept_updWin {A : Nat} {s0 : State} {s : Sys2Proof.Machine.State} {k : Nat} {f : Sys2Proof.WinSt → Sys2Proof.WinSt} (h_s : Kept A s0 s) (hA : 16777216 ||| A = A) :
    Kept A s0 (State.updWin s k f) := by
  unfold State.updWin
  refine Kept.u_wins ?_ (mask_sub (by decide) hA)
  exact h_s
theorem kept_updDescBytes {A : Nat} {s0 : State} {s : Sys2Proof.Machine.State} {k : Nat} {f : List Sys2Proof.Byte → List Sys2Proof.Byte} (h_s : Kept A s0 s) (hA : 36893488147419103232 ||| A = A) :
    Kept A s0 (State.updDescBytes s k f) := by
  unfold State.updDescBytes
  refine Kept.u_descCopy ?_ (mask_sub (by decide) hA)
  exact h_s
theorem kept_updScan {A : Nat} {s0 : State} {s : Sys2Proof.Machine.State} {k : Nat} {f : Sys2Proof.ScanSt → Sys2Proof.ScanSt} (h_s : Kept A s0 s) (hA : 67108864 ||| A = A) :
    Kept A s0 (State.updScan s k f) := by
  unfold State.updScan
  refine Kept.u_scans ?_ (mask_sub (by decide) hA)
  exact h_s
theorem kept_updHop {A : Nat} {s0 : State} {s : Sys2Proof.Machine.State} {k : Nat} {f : Sys2Proof.HopSt → Sys2Proof.HopSt} (h_s : Kept A s0 s) (hA : 8192 ||| A = A) :
    Kept A s0 (State.updHop s k f) := by
  unfold State.updHop
  refine Kept.u_hops ?_ (mask_sub (by decide) hA)
  exact h_s
theorem kept_updPort {A : Nat} {s0 : State} {s : Sys2Proof.Machine.State} {k : Nat} {f : Sys2Proof.TstPorts → Sys2Proof.TstPorts} (h_s : Kept A s0 s) (hA : 536870912 ||| A = A) :
    Kept A s0 (State.updPort s k f) := by
  unfold State.updPort
  refine Kept.u_ports ?_ (mask_sub (by decide) hA)
  exact h_s
theorem kept_updAdjOf {A : Nat} {s0 : State} {s : Sys2Proof.Machine.State} {k : Nat} {f : Sys2Proof.AdjSt → Sys2Proof.AdjSt} (h_s : Kept A s0 s) (hA : 1073741824 ||| A = A) :
    Kept A s0 (State.updAdjOf s k f) := by
  unfold State.updAdjOf
  refine Kept.u_adj ?_ (mask_sub (by decide) hA)
  exact h_s
theorem kept_updThmOf {A : Nat} {s0 : State} {s : Sys2Proof.Machine.State} {k : Nat} {f : Sys2Proof.ThmSt → Sys2Proof.ThmSt} (h_s : Kept A s0 s) (hA : 604462909807314587353088 ||| A = A) :
    Kept A s0 (State.updThmOf s k f) := by
  unfold State.updThmOf
  refine Kept.u_thm ?_ (mask_sub (by decide) hA)
  exact h_s
theorem kept_updReplayOf {A : Nat} {s0 : State} {s : Sys2Proof.Machine.State} {k : Nat} {f : List Sys2Proof.ReplaySet → List Sys2Proof.ReplaySet} (h_s : Kept A s0 s) (hA : 17179869184 ||| A = A) :
    Kept A s0 (State.updReplayOf s k f) := by
  unfold State.updReplayOf
  refine Kept.u_replays ?_ (mask_sub (by decide) hA)
  exact h_s
theorem kept_updEng {A : Nat} {s0 : State} {s : Sys2Proof.Machine.State} {k : Nat} {f : Option Sys2Proof.StpRun → Option Sys2Proof.StpRun} (h_s : Kept A s0 s) (hA : 4722366482869645213696 ||| A = A) :
    Kept A s0 (State.updEng s k f) := by
  unfold State.updEng
  refine Kept.u_engs ?_ (mask_sub (by decide) hA)
  exact h_s
theorem kept_updRplOf {A : Nat} {s0 : State} {s : Sys2Proof.Machine.State} {k : Nat} {f : Sys2Proof.RplSt → Sys2Proof.RplSt} (h_s : Kept A s0 s) (hA : 2147483648 ||| A = A) :
    Kept A s0 (State.updRplOf s k f) := by
  unfold State.updRplOf
  refine Kept.u_rpl ?_ (mask_sub (by decide) hA)
  exact h_s
theorem kept_updStpOf {A : Nat} {s0 : State} {s : Sys2Proof.Machine.State} {k : Nat} {f : Sys2Proof.StpUnit → Sys2Proof.StpUnit} (h_s : Kept A s0 s) (hA : 2361183241434822606848 ||| A = A) :
    Kept A s0 (State.updStpOf s k f) := by
  unfold State.updStpOf
  refine Kept.u_stp ?_ (mask_sub (by decide) hA)
  exact h_s
theorem kept_updHistOf {A : Nat} {s0 : State} {s : Sys2Proof.Machine.State} {k : Nat} {f : Sys2Proof.HistTable → Sys2Proof.HistTable} (h_s : Kept A s0 s) (hA : 137438953472 ||| A = A) :
    Kept A s0 (State.updHistOf s k f) := by
  unfold State.updHistOf
  refine Kept.u_hist ?_ (mask_sub (by decide) hA)
  exact h_s
theorem kept_updClock {A : Nat} {s0 : State} {s : Sys2Proof.Machine.State} {k : Nat} {f : Sys2Proof.ClockSt → Sys2Proof.ClockSt} (h_s : Kept A s0 s) (hA : 262144 ||| A = A) :
    Kept A s0 (State.updClock s k f) := by
  unfold State.updClock
  refine Kept.u_clocks ?_ (mask_sub (by decide) hA)
  exact h_s
theorem kept_updSeg {A : Nat} {s0 : State} {s : Sys2Proof.Machine.State} {k : Nat} {f : Sys2Proof.SegSt → Sys2Proof.SegSt} (h_s : Kept A s0 s) (hA : 18014398509481984 ||| A = A) :
    Kept A s0 (State.updSeg s k f) := by
  unfold State.updSeg
  refine Kept.u_segs ?_ (mask_sub (by decide) hA)
  exact h_s
theorem kept_poke {A : Nat} {s0 : State} {s : Sys2Proof.Machine.State} {k : Nat} {bs : List Sys2Proof.Byte} (h_s : Kept A s0 s) (hA : 72057594037927936 ||| A = A) :
    Kept A s0 (State.poke s k bs) := by
  unfold State.poke
  refine Kept.u_mem ?_ ?_ (mask_sub (by decide) hA)
  · exact h_s
  · exact fun h => mem_wf_poke _ _ h
theorem kept_evt {A : Nat} {s0 : State} {s : Sys2Proof.Machine.State} {u : Nat} {c : Nat} (h_s : Kept A s0 s) (hA : 24 ||| A = A) :
    Kept A s0 (State.evt s u c) := by
  unfold State.evt
  refine Kept.u_regs_ecnt ?_ (mask_sub (by decide) hA)
  exact h_s
theorem kept_raise {A : Nat} {s0 : State} {s : State} {code p p5 p6 p7 : Nat} (h_s : Kept A s0 s) (hA : 536 ||| A = A) :
    Kept A s0 (State.raise s code p p5 p6 p7) := by
  unfold State.raise
  refine Kept.u_transit ?_ ?_ (mask_sub (by decide) hA)
  · exact kept_evt h_s (mask_sub (by decide) hA)
  · exact Or.inl (List.prefix_append s.transit _)
theorem kept_updBrew {A : Nat} {s0 : State} {s : Sys2Proof.Machine.State} {b' : Sys2Proof.Bh} {f : Sys2Proof.BrewSt → Sys2Proof.BrewSt} (h_s : Kept A s0 s) (hA : 1048576 ||| A = A) :
    Kept A s0 (State.updBrew s b' f) := by
  unfold State.updBrew
  split
  · extract_lets -merge -useContext -underBinder x1
    refine Kept.u_pair ?_ (mask_sub (by decide) hA)
    exact h_s
  · extract_lets -merge -useContext -underBinder x2
    refine Kept.u_pair ?_ (mask_sub (by decide) hA)
    exact h_s
theorem kept_zeroCnt {A : Nat} {s0 : State} {s : Sys2Proof.Machine.State} {u : Nat} {F : Sys2Proof.Fld} {i : optParam Nat 0} (h_s : Kept A s0 s) (hA : 48 ||| A = A) :
    Kept A s0 (State.zeroCnt s u F i) := by
  unfold State.zeroCnt
  refine Kept.u_ecnt_rcnt ?_ (mask_sub (by decide) hA)
  exact h_s
theorem kept_emit {A : Nat} {s0 : State} {s : Sys2Proof.Machine.State} {o : Sys2Proof.Out} (h_s : Kept A s0 s) (hA : 2048 ||| A = A) :
    Kept A s0 (State.emit s o) := by
  unfold State.emit
  refine Kept.u_sent ?_ ?_ (mask_sub (by decide) hA)
  · exact h_s
  · exact List.suffix_cons _ _
theorem kept_mctpOut {A : Nat} {s0 : State} {s : Sys2Proof.Machine.State} {body : List Sys2Proof.Byte} (h_s : Kept A s0 s) (hA : 2048 ||| A = A) :
    Kept A s0 (State.mctpOut s body) := by
  unfold State.mctpOut
  refine Kept.ite ?_ ?_
  · refine kept_emit ?_ (mask_sub (by decide) hA)
    · exact h_s
  · exact h_s
theorem kept_quiet {A : Nat} {s0 : State} {s : Sys2Proof.Machine.State} {code : Nat} {p : Nat} (h_s : Kept A s0 s) (hA : 24 ||| A = A) :
    Kept A s0 (State.quiet s code p) := by
  unfold State.quiet
  refine kept_evt ?_ (mask_sub (by decide) hA)
  · exact h_s
theorem kept_count {A : Nat} {s0 : State} {s : Sys2Proof.Machine.State} {u : Nat} {F : Sys2Proof.Fld} {n : optParam Nat 1} {i : optParam Nat 0} (h_s : Kept A s0 s) (hA : 48 ||| A = A) :
    Kept A s0 (State.count s u F n i) := by
  unfold State.count
  extract_lets -merge -useContext -underBinder x1
  split
  · extract_lets -merge -useContext -underBinder x2
    refine Kept.u_rcnt ?_ (mask_sub (by decide) hA)
    exact h_s
  · refine Kept.u_ecnt ?_ (mask_sub (by decide) hA)
    exact h_s
theorem kept_wr {A : Nat} {s0 : State} {s : Sys2Proof.Machine.State} {u : Nat} {F : Sys2Proof.Fld} {v : Nat} {i : optParam Nat 0} (h_s : Kept A s0 s) (hA : 8 ||| A = A) :
    Kept A s0 (State.wr s u F v i) := by
  unfold State.wr
  refine Kept.u_regs ?_ (mask_sub (by decide) hA)
  exact h_s
theorem kept_flag {A : Nat} {s0 : State} {s : Sys2Proof.Machine.State} {u : Nat} {F : Sys2Proof.Fld} {b : Bool} {i : optParam Nat 0} (h_s : Kept A s0 s) (hA : 8 ||| A = A) :
    Kept A s0 (State.flag s u F b i) := by
  unfold State.flag
  refine kept_wr ?_ (mask_sub (by decide) hA)
  · exact h_s
theorem kept_each {A : Nat} {s0 : State} {α : Type} {s : Sys2Proof.Machine.State} {l : List α} {f : Sys2Proof.Machine.State → α → Sys2Proof.Machine.State} (h_s : Kept A s0 s) (h_f : ∀ y0 y1, Kept A s0 y0 → Kept A s0 (f y0 y1)) :
    Kept A s0 (State.each s l f) := by
  unfold State.each
  refine Kept.foldl (fun _ _ h1 => ?_) ?_ _
  · refine h_f _ _ ?_
    · exact h1
  · exact h_s
theorem kept_bump {A : Nat} {s0 : State} {s : Sys2Proof.Machine.State} {u : Nat} {F : Sys2Proof.Fld} {n : optParam Nat 1} {i : optParam Nat 0} (h_s : Kept A s0 s) (hA : 8 ||| A = A) :
    Kept A s0 (State.bump s u F n i) := by
  unfold State.bump
  refine kept_wr ?_ (mask_sub (by decide) hA)
  · exact h_s
theorem kept_raiseHistAt {A : Nat} {s0 : State} {s : State} {q : Nat} {e : HistEntry} {code p p5 p6 p7 : Nat} (h_s : Kept A s0 s) (hA : 536 ||| A = A) :
    Kept A s0 (State.raiseHistAt s q e code p p5 p6 p7) := by
  unfold State.raiseHistAt
  refine Kept.u_transit ?_ ?_ (mask_sub (by decide) hA)
  · exact kept_evt h_s (mask_sub (by decide) hA)
  · exact Or.inl (List.prefix_append s.transit _)
theorem kept_raiseHist {A : Nat} {s0 : State} {s : Sys2Proof.Machine.State} {e : Sys2Proof.HistEntry} {code : Nat} {p : Nat} {p5 : optParam Nat 0} {p6 : optParam Nat 0} {p7 : optParam Nat 0} (h_s : Kept A s0 s) (hA : 536 ||| A = A) :
    Kept A s0 (State.raiseHist s e code p p5 p6 p7) := by
  unfold State.raiseHist
  refine kept_raiseHistAt ?_ (mask_sub (by decide) hA)
  · exact h_s
theorem kept_raiseOnce {A : Nat} {s0 : State} {s : Sys2Proof.Machine.State} {key : Nat} {code : Nat} {p : Nat} {p5 : optParam Nat 0} {p6 : optParam Nat 0} {p7 : optParam Nat 0} (h_s : Kept A s0 s) (hA : 1560 ||| A = A) :
    Kept A s0 (State.raiseOnce s key code p p5 p6 p7) := by
  unfold State.raiseOnce
  extract_lets -merge -useContext -underBinder x1
  have h1 : Kept A s0 x1 := by
    unfold x1
    refine kept_raise ?_ (mask_sub (by decide) hA)
    · exact h_s
  clear_value x1
  refine Kept.ite ?_ ?_
  · refine kept_quiet ?_ (mask_sub (by decide) hA)
    · exact h_s
  · refine Kept.u_marks ?_ (mask_sub (by decide) hA)
    exact h1
theorem kept_hallAct {A : Nat} {s0 : State} {s : Sys2Proof.Machine.State} {r : Nat} {action : Nat} {arg : Nat} (h_s : Kept A s0 s) (hA : 4398046511104 ||| A = A) :
    Kept A s0 (State.hallAct s r action arg) := by
  unfold State.hallAct
  refine kept_updHall ?_ (mask_sub (by decide) hA)
  · exact h_s
theorem kept_emits {A : Nat} {s0 : State} {s : Sys2Proof.Machine.State} {os : List Sys2Proof.Out} (h_s : Kept A s0 s) (hA : 2048 ||| A = A) :
    Kept A s0 (State.emits s os) := by
  unfold State.emits
  refine Kept.u_sent ?_ ?_ (mask_sub (by decide) hA)
  · exact h_s
  · exact List.suffix_append _ _
theorem kept_noteItem {A : Nat} {s0 : State} {s : Sys2Proof.Machine.State} {c : Nat} (h_s : Kept A s0 s) (hA : 562949953421312 ||| A = A) :
    Kept A s0 (State.noteItem s c) := by
  unfold State.noteItem
  refine Kept.ite ?_ ?_
  · exact h_s
  · refine kept_updChan ?_ (mask_sub (by decide) hA)
    · exact h_s
theorem kept_item {A : Nat} {s0 : State} {s : Sys2Proof.Machine.State} {c : Nat} (h_s : Kept A s0 s) (hA : 562949953421312 ||| A = A) :
    Kept A s0 (State.item s c) := by
  unfold State.item
  refine kept_noteItem ?_ (mask_sub (by decide) hA)
  · refine kept_updChan ?_ (mask_sub (by decide) hA)
    · exact h_s
theorem kept_mapWaits {A : Nat} {s0 : State} {s : Sys2Proof.Machine.State} {k : Nat} (h_s : Kept A s0 s) (hA : 1560 ||| A = A) :
    Kept A s0 (State.mapWaits s k) := by
  unfold State.mapWaits
  refine kept_raiseOnce ?_ (mask_sub (by decide) hA)
  · exact h_s
theorem kept_draw {A : Nat} {s0 : State} {s : Sys2Proof.Machine.State} (h_s : Kept A s0 s) (hA : 4 ||| A = A) :
    Kept A s0 (State.draw s) := by
  unfold State.draw
  refine Kept.u_fresh ?_ (mask_sub (by decide) hA)
  exact h_s
theorem kept_bankCount {A : Nat} {s0 : State} {s : Sys2Proof.Machine.State} {k : Nat} {event : Nat} {n : Nat} {b : Option Nat} (h_s : Kept A s0 s) (hA : 48 ||| A = A) :
    Kept A s0 (State.bankCount s k event n b) := by
  unfold State.bankCount
  refine Kept.ite ?_ ?_
  · exact h_s
  · refine kept_each ?_ (fun _ _ h1 => ?_)
    · exact h_s
    · refine Kept.ite ?_ ?_
      · refine kept_count ?_ (mask_sub (by decide) hA)
        · exact h1
      · exact h1
theorem kept_tracePut {A : Nat} {s0 : State} {s : Sys2Proof.Machine.State} {k : Nat} {x : Sys2Proof.TraceRec} (h_s : Kept A s0 s) (hA : 18014398509483576 ||| A = A) :
    Kept A s0 (State.tracePut s k x) := by
  unfold State.tracePut
  extract_lets -merge -useContext -underBinder x1 x2 x3 x4 x5
  refine Kept.ite ?_ ?_
  · refine kept_raiseOnce ?_ (mask_sub (by decide) hA)
    · refine kept_count ?_ (mask_sub (by decide) hA)
      · refine kept_updSeg ?_ (mask_sub (by decide) hA)
        · exact h_s
  · refine kept_updSeg ?_ (mask_sub (by decide) hA)
    · exact h_s
theorem kept_trace {A : Nat} {s0 : State} {s : Sys2Proof.Machine.State} {k : Nat} {cls : Nat} {type : Nat} {core : Option Nat} {d : Option Sys2Proof.Desc} {param : Nat} (h_s : Kept A s0 s) (hA : 18014398509483576 ||| A = A) :
    Kept A s0 (State.trace s k cls type core d param) := by
  unfold State.trace
  extract_lets -merge -useContext -underBinder x1 x2
  refine Kept.ite ?_ ?_
  · exact h_s
  · refine kept_tracePut ?_ (mask_sub (by decide) hA)
    · exact h_s
theorem kept_unitsOut {A : Nat} {s0 : State} {s : Sys2Proof.Machine.State} {k : Nat} {gone : Sys2Proof.RplUnit → Bool} (h_s : Kept A s0 s) (hA : 2147483648 ||| A = A) :
    Kept A s0 (State.unitsOut s k gone) := by
  unfold State.unitsOut
  refine kept_updRplOf ?_ (mask_sub (by decide) hA)
  · exact h_s
theorem kept_updSlot {A : Nat} {s0 : State} {s : Sys2Proof.Machine.State} {k : Nat} {kind : Nat} {i : Nat} {d : Sys2Proof.DescSlot} (h_s : Kept A s0 s) (hA : 2147483648 ||| A = A) :
    Kept A s0 (State.updSlot s k kind i d) := by
  unfold State.updSlot
  refine kept_updRplOf ?_ (mask_sub (by decide) hA)
  · exact h_s
theorem kept_freeAt {A : Nat} {s0 : State} {s : Sys2Proof.Machine.State} {k : Nat} {kind : Nat} {i : Nat} (h_s : Kept A s0 s) (hA : 2147483656 ||| A = A) :
    Kept A s0 (State.freeAt s k kind i) := by
  unfold State.freeAt
  extract_lets -merge -useContext -underBinder x1 x2
  have h1 : Kept A s0 x1 := by
    unfold x1
    refine kept_updSlot ?_ (mask_sub (by decide) hA)
    · exact h_s
  have h2 : Kept A s0 x2 := by
    unfold x2
    refine Kept.ite ?_ ?_
    · refine kept_updRplOf ?_ (mask_sub (by decide) hA)
      · exact h1
    · exact h1
  clear_value x1 x2
  refine Kept.ite ?_ ?_
  · split
    · refine Kept.ite ?_ ?_
      · refine kept_wr ?_ (mask_sub (by decide) hA)
        · refine kept_updRplOf ?_ (mask_sub (by decide) hA)
          · exact h2
      · exact h2
    · exact h2
  · exact h_s
theorem kept_freeSlots {A : Nat} {s0 : State} {s : Sys2Proof.Machine.State} {k : Nat} (h_s : Kept A s0 s) (hA : 2147483656 ||| A = A) :
    Kept A s0 (State.freeSlots s k) := by
  unfold State.freeSlots
  extract_lets -merge -useContext -underBinder x1 x2
  have h2 : Kept A s0 x2 := by
    unfold x2
    refine kept_each ?_ (fun _ _ h4 => ?_)
    · exact h_s
    · refine kept_freeAt ?_ (mask_sub (by decide) hA)
      · exact h4
  clear_value x2
  refine kept_each ?_ (fun _ _ h3 => ?_)
  · exact h2
  · refine kept_freeAt ?_ (mask_sub (by decide) hA)
    · exact h3
theorem kept_dropCmds {A : Nat} {s0 : State} {s : Sys2Proof.Machine.State} {k : Nat} {gone : Nat → Bool} (h_s : Kept A s0 s) (hA : 6442450952 ||| A = A) :
    Kept A s0 (State.dropCmds s k gone) := by
  unfold State.dropCmds
  extract_lets -merge -useContext -underBinder x1 x2 x3
  have h1 : Kept A s0 x1 := by
    unfold x1
    refine kept_updRplOf ?_ (mask_sub (by decide) hA)
    · exact h_s
  have h2 : Kept A s0 x2 := by
    unfold x2
    refine kept_each ?_ (fun _ _ h4 => ?_)
    · exact h1
    · refine kept_unitsOut ?_ (mask_sub (by decide) hA)
      · exact h4
  have h3 : Kept A s0 x3 := by
    unfold x3
    refine Kept.u_steps ?_ (mask_sub (by decide) hA)
    exact h2
  clear_value x1 x2 x3
  refine kept_freeSlots ?_ (mask_sub (by decide) hA)
  · exact h3
theorem kept_updRcmd {A : Nat} {s0 : State} {s : Sys2Proof.Machine.State} {k : Nat} {cmd : Nat} {f : Sys2Proof.RplCmd → Sys2Proof.RplCmd} (h_s : Kept A s0 s) (hA : 2147483648 ||| A = A) :
    Kept A s0 (State.updRcmd s k cmd f) := by
  unfold State.updRcmd
  refine kept_updRplOf ?_ (mask_sub (by decide) hA)
  · exact h_s
theorem kept_returnCredit {A : Nat} {s0 : State} {s : Sys2Proof.Machine.State} {f : Nat} {port : Nat} {c : Nat} (h_s : Kept A s0 s) (hA : 8192 ||| A = A) :
    Kept A s0 (State.returnCredit s f port c) := by
  unfold State.returnCredit
  split
  · exact h_s
  · refine kept_updHop ?_ (mask_sub (by decide) hA)
    · exact h_s
theorem kept_deliverPort {A : Nat} {s0 : State} {s : Sys2Proof.Machine.State} {f : Nat} {p : Sys2Proof.Packet} {port : Nat} (h_s : Kept A s0 s) (hA : 4398047823872 ||| A = A) :
    Kept A s0 (State.deliverPort s f p port) := by
  unfold State.deliverPort
  extract_lets -merge -useContext -underBinder x1 x2
  refine Kept.ite ?_ ?_
  · exact h_s
  · split
    · extract_lets -merge -useContext -underBinder x3
      have h3 : Kept A s0 x3 := by
        unfold x3
        refine Kept.ite ?_ ?_
        · exact h_s
        · refine kept_updBrew ?_ (mask_sub (by decide) hA)
          · exact h_s
      clear_value x3
      refine kept_emit ?_ (mask_sub (by decide) hA)
      · exact h3
    · extract_lets -merge -useContext -underBinder x4
      have h4 : Kept A s0 x4 := by
        unfold x4
        refine kept_emit ?_ (mask_sub (by decide) hA)
        · refine kept_updClock ?_ (mask_sub (by decide) hA)
          · exact h_s
      clear_value x4
      refine Kept.ite ?_ ?_
      · refine Kept.ite ?_ ?_
        · refine kept_updClock ?_ (mask_sub (by decide) hA)
          · exact h_s
        · refine Kept.ite ?_ ?_
          · refine kept_updHall ?_ (mask_sub (by decide) hA)
            · exact h4
          · exact h4
      · refine kept_emit ?_ (mask_sub (by decide) hA)
        · exact h_s
theorem kept_enqueue {A : Nat} {s0 : State} {s : Sys2Proof.Machine.State} {f : Nat} {port : Nat} {p : Sys2Proof.Packet} (h_s : Kept A s0 s) (hA : 4096 ||| A = A) :
    Kept A s0 (State.enqueue s f port p) := by
  unfold State.enqueue
  refine kept_updRouter ?_ (mask_sub (by decide) hA)
  · exact h_s
theorem kept_relay {A : Nat} {s0 : State} {s : Sys2Proof.Machine.State} {f : Nat} {p : Sys2Proof.Packet} (h_s : Kept A s0 s) (hA : 4096 ||| A = A) :
    Kept A s0 (State.relay s f p) := by
  unfold State.relay
  extract_lets -merge -useContext -underBinder x1 x2
  split
  · extract_lets -merge -useContext -underBinder x3
    split
    · refine Kept.ite ?_ ?_
      · exact h_s
      · refine kept_enqueue ?_ (mask_sub (by decide) hA)
        · exact h_s
theorem kept_deliver {A : Nat} {s0 : State} {s : Sys2Proof.Machine.State} {f : Nat} {p : Sys2Proof.Packet} (h_s : Kept A s0 s) (hA : 4398047827968 ||| A = A) :
    Kept A s0 (State.deliver s f p) := by
  unfold State.deliver
  extract_lets -merge -useContext -underBinder x1
  refine Kept.ite ?_ ?_
  · refine kept_each ?_ (fun _ _ h2 => ?_)
    · exact h_s
    · refine kept_deliverPort ?_ (mask_sub (by decide) hA)
      · exact h2
  · refine Kept.ite ?_ ?_
    · refine kept_deliverPort ?_ (mask_sub (by decide) hA)
      · exact h_s
    · refine Kept.ite ?_ ?_
      · refine kept_relay ?_ (mask_sub (by decide) hA)
        · exact h_s
      · refine kept_deliverPort ?_ (mask_sub (by decide) hA)
        · exact h_s
theorem kept_sendHop {A : Nat} {s0 : State} {s : Sys2Proof.Machine.State} {f : Nat} {h : Sys2Proof.Hop} {p : Sys2Proof.Packet} (h_s : Kept A s0 s) (hA : 10240 ||| A = A) :
    Kept A s0 (State.sendHop s f h p) := by
  unfold State.sendHop
  refine kept_emit ?_ (mask_sub (by decide) hA)
  · refine kept_updHop ?_ (mask_sub (by decide) hA)
    · exact h_s
theorem kept_serve {A : Nat} {s0 : State} {s : Sys2Proof.Machine.State} {f : Nat} {e : Sys2Proof.InPkt} {l : Nat} (h_s : Kept A s0 s) (hA : 4398047836160 ||| A = A) :
    Kept A s0 (State.serve s f e l) := by
  unfold State.serve
  extract_lets -merge -useContext -underBinder x1 x2 x3
  have h1 : Kept A s0 x1 := by
    unfold x1
    refine kept_updRouter ?_ (mask_sub (by decide) hA)
    · exact h_s
  have h2 : Kept A s0 x2 := by
    unfold x2
    refine Kept.ite ?_ ?_
    · refine kept_returnCredit ?_ (mask_sub (by decide) hA)
      · exact h1
    · exact h1
  have h3 : Kept A s0 x3 := by
    unfold x3
    refine kept_sendHop ?_ (mask_sub (by decide) hA)
    · exact h2
  clear_value x1 x2 x3
  refine Kept.ite ?_ ?_
  · refine kept_deliver ?_ (mask_sub (by decide) hA)
    · exact h2
  · refine Kept.ite ?_ ?_
    · refine kept_updHop ?_ (mask_sub (by decide) hA)
      · exact h3
    · exact h3
theorem kept_pumpOne {A : Nat} {s0 : State} {s : Sys2Proof.Machine.State} (h_s : Kept A s0 s) (hA : 4398047836160 ||| A = A) :
    Kept A s0 (State.pumpOne s) := by
  unfold State.pumpOne
  split
  · exact h_s
  · refine kept_serve ?_ (mask_sub (by decide) hA)
    · exact h_s
theorem kept_pump {A : Nat} {s0 : State} {s : Sys2Proof.Machine.State} (h_s : Kept A s0 s) (hA : 4398047836160 ||| A = A) :
    Kept A s0 (State.pump s) := by
  unfold State.pump
  refine kept_each ?_ (fun _ _ h1 => ?_)
  · exact h_s
  · refine kept_pumpOne ?_ (mask_sub (by decide) hA)
    · exact h1
theorem kept_routePacket {A : Nat} {s0 : State} {s : Sys2Proof.Machine.State} {f : Nat} {p : Sys2Proof.Packet} (h_s : Kept A s0 s) (hA : 4398047836160 ||| A = A) :
    Kept A s0 (State.routePacket s f p) := by
  unfold State.routePacket
  refine kept_pump ?_ (mask_sub (by decide) hA)
  · refine kept_enqueue ?_ (mask_sub (by decide) hA)
    · exact h_s
theorem kept_timeBeatEmit {A : Nat} {s0 : State} {s : Sys2Proof.Machine.State} (h_s : Kept A s0 s) (hA : 4398047836220 ||| A = A) :
    Kept A s0 (timeBeatEmit s) := by
  unfold timeBeatEmit
  extract_lets -merge -useContext -underBinder x1 x2 x3 x4 x5
  have h3 : Kept A s0 x3 := by
    unfold x3
    refine kept_flag ?_ (mask_sub (by decide) hA)
    · refine kept_count ?_ (mask_sub (by decide) hA)
      · exact h_s
  have h4 : Kept A s0 x4 := by
    unfold x4
    refine kept_flag ?_ (mask_sub (by decide) hA)
    · exact h3
  clear_value x3 x4
  refine Kept.ite ?_ ?_
  · exact h_s
  · refine kept_routePacket ?_ (mask_sub (by decide) hA)
    · refine kept_draw ?_ (mask_sub (by decide) hA)
      · exact h4
theorem kept_findPartition {A : Nat} {s0 : State} {s : Sys2Proof.Machine.State} (h_s : Kept A s0 s) (hA : 2251799813750784 ||| A = A) :
    Kept A s0 (State.findPartition s) := by
  unfold State.findPartition
  extract_lets -merge -useContext -underBinder x1 x2
  refine Kept.u_cutoff_voids ?_ (mask_sub (by decide) hA)
  exact h_s
theorem kept_hopDelayEcho {A : Nat} {s0 : State} {s : Sys2Proof.Machine.State} {f : Nat} {h : Sys2Proof.Hop} {delay : Nat} (h_s : Kept A s0 s) (hA : 8192 ||| A = A) :
    Kept A s0 (hopDelayEcho s f h delay) := by
  unfold hopDelayEcho
  refine Kept.ite ?_ ?_
  · exact h_s
  · refine kept_updHop ?_ (mask_sub (by decide) hA)
    · exact h_s
theorem kept_execHopDelayEcho {A : Nat} {s0 : State} {f : Sys2Proof.FieldId} {h : Sys2Proof.Hop} {delay : BitVec 16} {s : Sys2Proof.Machine.State} (h_s : Kept A s0 s) (hA : 8192 ||| A = A) :
    KeptO A s0 (execHopDelayEcho f h delay s) := by
  unfold execHopDelayEcho
  refine KeptO.next ?_
  refine kept_hopDelayEcho ?_ (mask_sub (by decide) hA)
  · exact h_s
theorem kept_detourTableArrive {A : Nat} {s0 : State} {s : Sys2Proof.Machine.State} {f : Nat} (h_s : Kept A s0 s) (hA : 4398047852544 ||| A = A) :
    Kept A s0 (detourTableArrive s f) := by
  unfold detourTableArrive
  extract_lets -merge -useContext -underBinder x1 x2 x3 x4 x5 x6
  have h2 : Kept A s0 x2 := by
    unfold x2
    refine kept_updRouter ?_ (mask_sub (by decide) hA)
    · exact h_s
  have h3 : Kept A s0 x3 := by
    unfold x3
    refine Kept.u_tablesDue ?_ (mask_sub (by decide) hA)
    exact h2
  have h4 : Kept A s0 x4 := by
    unfold x4
    refine kept_each ?_ (fun _ _ h8 => ?_)
    · exact h3
    · refine kept_updHop ?_ (mask_sub (by decide) hA)
      · exact h8
  have h6 : Kept A s0 x6 := by
    unfold x6
    refine kept_updRouter ?_ (mask_sub (by decide) hA)
    · exact h4
  clear_value x2 x3 x4 x6
  refine Kept.ite ?_ ?_
  · exact h_s
  · refine kept_pump ?_ (mask_sub (by decide) hA)
    · refine kept_each ?_ (fun _ _ h7 => ?_)
      · exact h6
      · refine kept_returnCredit ?_ (mask_sub (by decide) hA)
        · exact h7
theorem kept_execDetourTableArrive {A : Nat} {s0 : State} {f : Sys2Proof.FieldId} {s : Sys2Proof.Machine.State} (h_s : Kept A s0 s) (hA : 4398047852544 ||| A = A) :
    KeptO A s0 (execDetourTableArrive f s) := by
  unfold execDetourTableArrive
  refine KeptO.next ?_
  refine kept_detourTableArrive ?_ (mask_sub (by decide) hA)
  · exact h_s
theorem kept_detourTablesWrite {A : Nat} {s0 : State} {s : Sys2Proof.Machine.State} {us : Nat} (h_s : Kept A s0 s) (hA : 2251799813800472 ||| A = A) :
    Kept A s0 (detourTablesWrite s us) := by
  unfold detourTablesWrite
  extract_lets -merge -useContext -underBinder x1
  have h1 : Kept A s0 x1 := by
    unfold x1
    refine Kept.u_tablesDue_tree ?_ (mask_sub (by decide) hA)
    exact h_s
  clear_value x1
  refine kept_raise ?_ (mask_sub (by decide) hA)
  · refine kept_findPartition ?_ (mask_sub (by decide) hA)
    · exact h1
theorem kept_execDetourTablesWrite {A : Nat} {s0 : State} {us : Nat} {s : Sys2Proof.Machine.State} (h_s : Kept A s0 s) (hA : 2251799813800472 ||| A = A) :
    KeptO A s0 (execDetourTablesWrite us s) := by
  unfold execDetourTablesWrite
  refine KeptO.next ?_
  refine kept_detourTablesWrite ?_ (mask_sub (by decide) hA)
  · exact h_s
theorem kept_execTimeBeatEmit {A : Nat} {s0 : State} {s : Sys2Proof.Machine.State} (h_s : Kept A s0 s) (hA : 4398047836220 ||| A = A) :
    KeptO A s0 (execTimeBeatEmit s) := by
  unfold execTimeBeatEmit
  refine KeptO.next ?_
  refine kept_timeBeatEmit ?_ (mask_sub (by decide) hA)
  · exact h_s
theorem kept_beatReceive {A : Nat} {s0 : State} {s : Sys2Proof.Machine.State} {u : Sys2Proof.Node} {beat : Nat} {delay : Nat} {reign : Nat} {cyc : Nat} (h_s : Kept A s0 s) (hA : 18018796556255288 ||| A = A) :
    Kept A s0 (beatReceive s u beat delay reign cyc) := by
  unfold beatReceive
  extract_lets -merge -useContext -underBinder x1 x2 x3 x4 x5 x6 x7
  have h6 : Kept A s0 x6 := by
    unfold x6
    refine kept_updClock ?_ (mask_sub (by decide) hA)
    · exact h_s
  have h7 : Kept A s0 x7 := by
    unfold x7
    refine Kept.ite ?_ ?_
    · refine kept_count ?_ (mask_sub (by decide) hA)
      · exact h6
    · exact h6
  clear_value x6 x7
  split
  · extract_lets -merge -useContext -underBinder x8 x9 x10 x11
    have h8 : Kept A s0 x8 := by
      unfold x8
      refine kept_wr ?_ (mask_sub (by decide) hA)
      · exact h7
    have h10 : Kept A s0 x10 := by
      unfold x10
      refine kept_updHall ?_ (mask_sub (by decide) hA)
      · exact h8
    clear_value x8 x10
    refine kept_each ?_ (fun _ _ h12 => ?_)
    · exact h10
    · refine kept_updSeg ?_ (mask_sub (by decide) hA)
      · exact h12
  · exact h7
theorem kept_execBeatReceive {A : Nat} {s0 : State} {u : Sys2Proof.Node} {beat : BitVec 64} {delay : BitVec 16} {reign : BitVec 7} {cyc : Nat} {s : Sys2Proof.Machine.State} (h_s : Kept A s0 s) (hA : 18018796556255288 ||| A = A) :
    KeptO A s0 (execBeatReceive u beat delay reign cyc s) := by
  unfold execBeatReceive
  refine KeptO.next ?_
  refine kept_beatReceive ?_ (mask_sub (by decide) hA)
  · exact h_s
theorem kept_execBeatLossTimeout {A : Nat} {s0 : State} {u : Sys2Proof.Node} {s : Sys2Proof.Machine.State} (h_s : Kept A s0 s) (hA : 1560 ||| A = A) :
    KeptO A s0 (execBeatLossTimeout u s) := by
  unfold execBeatLossTimeout
  refine KeptO.next ?_
  refine kept_raiseOnce ?_ (mask_sub (by decide) hA)
  · exact h_s
theorem kept_lineDone {A : Nat} {s0 : State} {s : Sys2Proof.Machine.State} {f : Nat} {h : Sys2Proof.Hop} {p : Sys2Proof.Packet} (h_s : Kept A s0 s) (hA : 8192 ||| A = A) :
    Kept A s0 (State.lineDone s f h p) := by
  unfold State.lineDone
  split
  · exact h_s
  · refine kept_updHop ?_ (mask_sub (by decide) hA)
    · exact h_s
theorem kept_stairPacketReceive {A : Nat} {s0 : State} {s : Sys2Proof.Machine.State} {f : Nat} {h : Option Sys2Proof.Hop} {violation : Bool} {head : BitVec 64} {payload : List (BitVec 64)} {crc : BitVec 16} {resid : Nat} (h_s : Kept A s0 s) (hA : 567348001257472 ||| A = A) :
    Kept A s0 (stairPacketReceive s f h violation head payload crc resid) := by
  unfold stairPacketReceive
  extract_lets -merge -useContext -underBinder x1 x2 x3
  split
  · refine Kept.ite ?_ ?_
    · exact h_s
    · refine Kept.ite ?_ ?_
      · refine kept_updRouter ?_ (mask_sub (by decide) hA)
        · exact h_s
      · refine Kept.ite ?_ ?_
        · exact h_s
        · refine Kept.ite ?_ ?_
          · exact h_s
          · refine kept_routePacket ?_ (mask_sub (by decide) hA)
            · exact h_s
  · extract_lets -merge -useContext -underBinder x4 x5 x6
    have h5 : Kept A s0 x5 := by
      unfold x5
      refine kept_emit ?_ (mask_sub (by decide) hA)
      · refine kept_lineDone ?_ (mask_sub (by decide) hA)
        · exact h_s
    have h6 : Kept A s0 x6 := by
      unfold x6
      refine Kept.ite ?_ ?_
      · exact h5
      · refine kept_noteItem ?_ (mask_sub (by decide) hA)
        · refine kept_updHop ?_ (mask_sub (by decide) hA)
          · exact h5
    clear_value x5 x6
    refine Kept.ite ?_ ?_
    · exact h_s
    · refine Kept.ite ?_ ?_
      · refine kept_pump ?_ (mask_sub (by decide) hA)
        · exact h5
      · refine Kept.ite ?_ ?_
        · refine kept_pump ?_ (mask_sub (by decide) hA)
          · refine kept_returnCredit ?_ (mask_sub (by decide) hA)
            · refine kept_updRouter ?_ (mask_sub (by decide) hA)
              · exact h6
        · refine Kept.ite ?_ ?_
          · refine kept_pump ?_ (mask_sub (by decide) hA)
            · refine kept_returnCredit ?_ (mask_sub (by decide) hA)
              · exact h6
          · refine kept_pump ?_ (mask_sub (by decide) hA)
            · refine kept_enqueue ?_ (mask_sub (by decide) hA)
              · exact h6
theorem kept_hopDead {A : Nat} {s0 : State} {s : Sys2Proof.Machine.State} {f : Nat} {h : Sys2Proof.Hop} {cause : Nat} {fails : Nat} (h_s : Kept A s0 s) (hA : 2256197861587512 ||| A = A) :
    Kept A s0 (State.hopDead s f h cause fails) := by
  unfold State.hopDead
  extract_lets -merge -useContext -underBinder x1 x2 x3 x4 x5 x6
  have h4 : Kept A s0 x4 := by
    unfold x4
    refine kept_updHop ?_ (mask_sub (by decide) hA)
    · exact h_s
  have h6 : Kept A s0 x6 := by
    unfold x6
    refine kept_updRouter ?_ (mask_sub (by decide) hA)
    · exact h4
  clear_value x4 x6
  refine Kept.ite ?_ ?_
  · exact h_s
  · refine kept_pump ?_ (mask_sub (by decide) hA)
    · refine kept_findPartition ?_ (mask_sub (by decide) hA)
      · refine kept_raise ?_ (mask_sub (by decide) hA)
        · refine kept_count ?_ (mask_sub (by decide) hA)
          · exact h6
theorem kept_hopResult {A : Nat} {s0 : State} {s : Sys2Proof.Machine.State} {f : Nat} {h : Sys2Proof.Hop} {ok : Bool} (h_s : Kept A s0 s) (hA : 2256197861587512 ||| A = A) :
    Kept A s0 (State.hopResult s f h ok) := by
  unfold State.hopResult
  extract_lets -merge -useContext -underBinder x1
  refine Kept.ite ?_ ?_
  · exact h_s
  · split
    · exact h_s
    · extract_lets -merge -useContext -underBinder x2
      refine Kept.ite ?_ ?_
      · refine kept_pump ?_ (mask_sub (by decide) hA)
        · refine kept_updHop ?_ (mask_sub (by decide) hA)
          · exact h_s
      · refine Kept.ite ?_ ?_
        · refine kept_emit ?_ (mask_sub (by decide) hA)
          · refine kept_count ?_ (mask_sub (by decide) hA)
            · refine kept_updHop ?_ (mask_sub (by decide) hA)
              · exact h_s
        · refine kept_hopDead ?_ (mask_sub (by decide) hA)
          · exact h_s
theorem kept_execHopCheckResult {A : Nat} {s0 : State} {f : Sys2Proof.FieldId} {h : Sys2Proof.Hop} {ok : Bool} {s : Sys2Proof.Machine.State} (h_s : Kept A s0 s) (hA : 2256197861587512 ||| A = A) :
    KeptO A s0 (execHopCheckResult f h ok s) := by
  unfold execHopCheckResult
  refine KeptO.next ?_
  refine kept_hopResult ?_ (mask_sub (by decide) hA)
  · exact h_s
theorem kept_execHopAckTimeout {A : Nat} {s0 : State} {f : Sys2Proof.FieldId} {h : Sys2Proof.Hop} {s : Sys2Proof.Machine.State} (h_s : Kept A s0 s) (hA : 2256197861587512 ||| A = A) :
    KeptO A s0 (execHopAckTimeout f h s) := by
  unfold execHopAckTimeout
  refine KeptO.next ?_
  refine kept_hopDead ?_ (mask_sub (by decide) hA)
  · exact h_s
theorem kept_unicast {A : Nat} {s0 : State} {s : Sys2Proof.Machine.State} {cls : Nat} {sf : Nat} {sp : Nat} {df : Nat} {dp : Nat} {reign : Nat} {type : Nat} {tag : Nat} {payload : List (BitVec 64)} (h_s : Kept A s0 s) (hA : 4398047836160 ||| A = A) :
    Kept A s0 (State.unicast s cls sf sp df dp reign type tag payload) := by
  unfold State.unicast
  refine kept_routePacket ?_ (mask_sub (by decide) hA)
  · exact h_s
theorem kept_bulkPacket {A : Nat} {s0 : State} {s : Sys2Proof.Machine.State} {done : Bool} {src : Nat} {dst : Nat} {len : Nat} {check : Nat} (h_s : Kept A s0 s) (hA : 4398047836160 ||| A = A) :
    Kept A s0 (State.bulkPacket s done src dst len check) := by
  unfold State.bulkPacket
  extract_lets -merge -useContext -underBinder x1 x2
  refine kept_unicast ?_ (mask_sub (by decide) hA)
  · exact h_s
theorem kept_bulk {A : Nat} {s0 : State} {s : Sys2Proof.Machine.State} {src : Nat} {dst : Nat} {bs : List Sys2Proof.Byte} (h_s : Kept A s0 s) (hA : 4398047836160 ||| A = A) :
    Kept A s0 (State.bulk s src dst bs) := by
  unfold State.bulk
  extract_lets -merge -useContext -underBinder x1
  refine kept_bulkPacket ?_ (mask_sub (by decide) hA)
  · refine kept_emit ?_ (mask_sub (by decide) hA)
    · refine kept_bulkPacket ?_ (mask_sub (by decide) hA)
      · exact h_s
theorem kept_sendHeld {A : Nat} {s0 : State} {s : Sys2Proof.Machine.State} {h : Nat} {t : Nat} {no : Nat} {x : Sys2Proof.Held} (h_s : Kept A s0 s) (hA : 4398047836160 ||| A = A) :
    Kept A s0 (State.sendHeld s h t no x) := by
  unfold State.sendHeld
  extract_lets -merge -useContext -underBinder x1 x2 x3
  refine Kept.ite ?_ ?_
  · refine kept_each ?_ (fun _ _ h4 => ?_)
    · exact h_s
    · refine kept_unicast ?_ (mask_sub (by decide) hA)
      · exact h4
  · refine kept_bulk ?_ (mask_sub (by decide) hA)
    · exact h_s
theorem kept_scratchWrite {A : Nat} {s0 : State} {s : Sys2Proof.Machine.State} {k : Nat} {addr : Nat} {data : BitVec 512} (h_s : Kept A s0 s) (hA : 2147485696 ||| A = A) :
    KeptL A s0 (State.scratchWrite s k addr data) := by
  unfold State.scratchWrite
  extract_lets -merge -useContext -underBinder x1 x2
  refine KeptL.ite ?_ ?_
  · refine KeptL.mk ?_
    refine kept_emit ?_ (mask_sub (by decide) hA)
    · refine kept_updRplOf ?_ (mask_sub (by decide) hA)
      · exact h_s
  · refine KeptL.mk ?_
    exact h_s
theorem kept_scratchPut {A : Nat} {s0 : State} {s : Sys2Proof.Machine.State} {k : Nat} {gs : List (Nat × Nat)} (h_s : Kept A s0 s) (hA : 2147485696 ||| A = A) :
    Kept A s0 (State.scratchPut s k gs) := by
  unfold State.scratchPut
  refine kept_each ?_ (fun _ _ h1 => ?_)
  · exact h_s
  · extract_lets -merge -useContext -underBinder x2
    refine KeptL.fst ?_
    refine kept_scratchWrite ?_ (mask_sub (by decide) hA)
    · exact h1
theorem kept_rqSet {A : Nat} {s0 : State} {s : Sys2Proof.Machine.State} {h : Nat} {q : Sys2Proof.RptReq} {n : Option Sys2Proof.RptReq} (h_s : Kept A s0 s) (hA : 1073741824 ||| A = A) :
    Kept A s0 (State.rqSet s h q n) := by
  unfold State.rqSet
  refine kept_updAdjOf ?_ (mask_sub (by decide) hA)
  · exact h_s
theorem kept_rptGo {A : Nat} {s0 : State} {s : Sys2Proof.Machine.State} {k : Nat} (h_s : Kept A s0 s) (hA : 3221227520 ||| A = A) :
    Kept A s0 (State.rptGo s k) := by
  unfold State.rptGo
  split
  · exact h_s
  · extract_lets -merge -useContext -underBinder x1
    refine Kept.ite ?_ ?_
    · exact h_s
    · clear_value x1
      split
      · exact h_s
      · extract_lets -merge -useContext -underBinder x2
        have h2 : Kept A s0 x2 := by
          unfold x2
          split
          · refine kept_scratchPut ?_ (mask_sub (by decide) hA)
            · exact h_s
          · exact h_s
        clear_value x2
        refine kept_emit ?_ (mask_sub (by decide) hA)
        · refine kept_rqSet ?_ (mask_sub (by decide) hA)
          · exact h2
theorem kept_updCase {A : Nat} {s0 : State} {s : Sys2Proof.Machine.State} {h : Nat} {no : Nat} {f : Sys2Proof.Case → Sys2Proof.Case} (h_s : Kept A s0 s) (hA : 1073741824 ||| A = A) :
    Kept A s0 (State.updCase s h no f) := by
  unfold State.updCase
  refine kept_updAdjOf ?_ (mask_sub (by decide) hA)
  · exact h_s
theorem kept_askNeighbour {A : Nat} {s0 : State} {s : Sys2Proof.Machine.State} {h : Nat} {no : Nat} {asked : List Nat} (h_s : Kept A s0 s) (hA : 4399121577984 ||| A = A) :
    Kept A s0 (State.askNeighbour s h no asked) := by
  unfold State.askNeighbour
  split
  · exact h_s
  · split
    · refine kept_updCase ?_ (mask_sub (by decide) hA)
      · exact h_s
    · refine kept_sendHeld ?_ (mask_sub (by decide) hA)
      · refine kept_updCase ?_ (mask_sub (by decide) hA)
        · exact h_s
theorem kept_rptAsk {A : Nat} {s0 : State} {s : Sys2Proof.Machine.State} {h : Nat} {k : Nat} {what : Sys2Proof.RptFor} {mode : Nat} {core : Nat} {cmd : Nat} (h_s : Kept A s0 s) (hA : 3221227520 ||| A = A) :
    Kept A s0 (State.rptAsk s h k what mode core cmd) := by
  unfold State.rptAsk
  refine kept_rptGo ?_ (mask_sub (by decide) hA)
  · refine kept_updAdjOf ?_ (mask_sub (by decide) hA)
    · exact h_s
theorem kept_askRepeat {A : Nat} {s0 : State} {s : Sys2Proof.Machine.State} {h : Nat} {no : Nat} (h_s : Kept A s0 s) (hA : 3221227520 ||| A = A) :
    Kept A s0 (State.askRepeat s h no) := by
  unfold State.askRepeat
  split
  · exact h_s
  · extract_lets -merge -useContext -underBinder x1
    refine Kept.ite ?_ ?_
    · refine kept_updCase ?_ (mask_sub (by decide) hA)
      · exact h_s
    · refine kept_rptAsk ?_ (mask_sub (by decide) hA)
      · refine kept_updCase ?_ (mask_sub (by decide) hA)
        · exact h_s
theorem kept_secured {A : Nat} {s0 : State} {s : Sys2Proof.Machine.State} {h : Nat} {no : Nat} {x : Sys2Proof.Held} (h_s : Kept A s0 s) (hA : 4401269061632 ||| A = A) :
    Kept A s0 (State.secured s h no x) := by
  unfold State.secured
  refine kept_askNeighbour ?_ (mask_sub (by decide) hA)
  · refine kept_askRepeat ?_ (mask_sub (by decide) hA)
    · refine kept_updCase ?_ (mask_sub (by decide) hA)
      · exact h_s
theorem kept_sendVerdict {A : Nat} {s0 : State} {s : Sys2Proof.Machine.State} {h : Nat} {v : Sys2Proof.Verdict} (h_s : Kept A s0 s) (hA : 18014407099418168 ||| A = A) :
    Kept A s0 (State.sendVerdict s h v) := by
  unfold State.sendVerdict
  extract_lets -merge -useContext -underBinder x1 x2 x3 x4
  have h2 : Kept A s0 x2 := by
    unfold x2
    refine kept_wr ?_ (mask_sub (by decide) hA)
    · refine kept_wr ?_ (mask_sub (by decide) hA)
      · exact h_s
  have h3 : Kept A s0 x3 := by
    unfold x3
    split
    · refine kept_count ?_ (mask_sub (by decide) hA)
      · exact h2
    · exact h2
  have h4 : Kept A s0 x4 := by
    unfold x4
    refine kept_trace ?_ (mask_sub (by decide) hA)
    · exact h3
  clear_value x2 x3 x4
  refine kept_updVerdictsOf ?_ (mask_sub (by decide) hA)
  · exact h4
theorem kept_rptDrop {A : Nat} {s0 : State} {s : Sys2Proof.Machine.State} {h : Nat} {gone : Sys2Proof.RptReq → Bool} (h_s : Kept A s0 s) (hA : 3221227520 ||| A = A) :
    Kept A s0 (State.rptDrop s h gone) := by
  unfold State.rptDrop
  extract_lets -merge -useContext -underBinder x1 x2
  have h2 : Kept A s0 x2 := by
    unfold x2
    refine kept_updAdjOf ?_ (mask_sub (by decide) hA)
    · exact h_s
  clear_value x2
  refine kept_each ?_ (fun _ _ h3 => ?_)
  · exact h2
  · refine kept_rptGo ?_ (mask_sub (by decide) hA)
    · refine Kept.ite ?_ ?_
      · refine kept_emit ?_ (mask_sub (by decide) hA)
        · exact h3
      · exact h3
theorem kept_dropCase {A : Nat} {s0 : State} {s : Sys2Proof.Machine.State} {h : Nat} {no : Nat} (h_s : Kept A s0 s) (hA : 3221227520 ||| A = A) :
    Kept A s0 (State.dropCase s h no) := by
  unfold State.dropCase
  extract_lets -merge -useContext -underBinder x1 x2
  have h2 : Kept A s0 x2 := by
    unfold x2
    refine kept_unitsOut ?_ (mask_sub (by decide) hA)
    · exact h_s
  clear_value x2
  refine kept_rptDrop ?_ (mask_sub (by decide) hA)
  · refine kept_updAdjOf ?_ (mask_sub (by decide) hA)
    · exact h2
theorem kept_inconclusive {A : Nat} {s0 : State} {s : Sys2Proof.Machine.State} {h : Nat} {c : Sys2Proof.Case} {reason : Nat} (h_s : Kept A s0 s) (hA : 18014410320645688 ||| A = A) :
    Kept A s0 (State.inconclusive s h c reason) := by
  unfold State.inconclusive
  refine kept_sendVerdict ?_ (mask_sub (by decide) hA)
  · refine kept_dropCase ?_ (mask_sub (by decide) hA)
    · exact h_s
theorem kept_openCase {A : Nat} {s0 : State} {s : Sys2Proof.Machine.State} {k : Nat} {c : Sys2Proof.Case} (h_s : Kept A s0 s) (hA : 4401269063224 ||| A = A) :
    KeptL A s0 (State.openCase s k c) := by
  unfold State.openCase
  split
  · refine KeptL.mk ?_
    exact h_s
  · extract_lets -merge -useContext -underBinder x1 x2 x3 x4 x5 x6
    have h2 : Kept A s0 x2 := by
      unfold x2
      refine kept_count ?_ (mask_sub (by decide) hA)
      · exact h_s
    have h5 : Kept A s0 x5 := by
      unfold x5
      refine kept_updAdjOf ?_ (mask_sub (by decide) hA)
      · exact h_s
    have h6 : Kept A s0 x6 := by
      unfold x6
      refine kept_count ?_ (mask_sub (by decide) hA)
      · exact h5
    clear_value x2 x5 x6
    refine KeptL.ite ?_ ?_
    · refine KeptL.mk ?_
      exact h_s
    · refine KeptL.ite ?_ ?_
      · refine KeptL.mk ?_
        refine kept_raiseOnce ?_ (mask_sub (by decide) hA)
        · exact h2
      · refine KeptL.mk ?_
        refine Kept.ite ?_ ?_
        · exact h6
        · refine kept_secured ?_ (mask_sub (by decide) hA)
          · exact h6
theorem kept_endCases {A : Nat} {s0 : State} {s : Sys2Proof.Machine.State} {k : Nat} {reason : Nat} (h_s : Kept A s0 s) (hA : 18014410320645688 ||| A = A) :
    Kept A s0 (State.endCases s k reason) := by
  unfold State.endCases
  refine kept_each ?_ (fun _ _ h1 => ?_)
  · exact h_s
  · refine kept_each ?_ (fun _ _ h2 => ?_)
    · exact h1
    · refine kept_inconclusive ?_ (mask_sub (by decide) hA)
      · exact h2
theorem kept_updInv {A : Nat} {s0 : State} {s : Sys2Proof.Machine.State} {k : Nat} {p : Nat} {st : Nat} {f : Sys2Proof.Inv → Sys2Proof.Inv} (h_s : Kept A s0 s) (hA : 134217728 ||| A = A) :
    Kept A s0 (State.updInv s k p st f) := by
  unfold State.updInv
  refine kept_updTap ?_ (mask_sub (by decide) hA)
  · exact h_s
theorem kept_tapPreskip {A : Nat} {s0 : State} {s : Sys2Proof.Machine.State} {k : Nat} {p : Nat} {st : Nat} {early : Bool} (h_s : Kept A s0 s) (hA : 134217776 ||| A = A) :
    Kept A s0 (State.tapPreskip s k p st early) := by
  unfold State.tapPreskip
  refine kept_updInv ?_ (mask_sub (by decide) hA)
  · refine kept_count ?_ (mask_sub (by decide) hA)
    · exact h_s
theorem kept_tapMismatch {A : Nat} {s0 : State} {s : Sys2Proof.Machine.State} {k : Nat} {p : Nat} {st : Nat} {rkind : Nat} {pred : Nat} {obs : Nat} {pos : Nat} {seq : Nat} {idx : Nat} {port : Nat} {cap : Sys2Proof.Capture} (h_s : Kept A s0 s) (hA : 134217784 ||| A = A) :
    Kept A s0 (State.tapMismatch s k p st rkind pred obs pos seq idx port cap) := by
  unfold State.tapMismatch
  split
  · exact h_s
  · extract_lets -merge -useContext -underBinder x1 x2 x3 x4 x5 x6 x7
    have h3 : Kept A s0 x3 := by
      unfold x3
      refine kept_count ?_ (mask_sub (by decide) hA)
      · exact h_s
    have h4 : Kept A s0 x4 := by
      unfold x4
      refine kept_wr ?_ (mask_sub (by decide) hA)
      · refine kept_wr ?_ (mask_sub (by decide) hA)
        · refine kept_wr ?_ (mask_sub (by decide) hA)
          · exact h3
    have h5 : Kept A s0 x5 := by
      unfold x5
      refine kept_wr ?_ (mask_sub (by decide) hA)
      · refine kept_wr ?_ (mask_sub (by decide) hA)
        · exact h4
    have h7 : Kept A s0 x7 := by
      unfold x7
      refine kept_updInv ?_ (mask_sub (by decide) hA)
      · exact h5
    clear_value x3 x4 x5 x7
    refine Kept.ite ?_ ?_
    · refine kept_updTap ?_ (mask_sub (by decide) hA)
      · exact h7
    · exact h7
theorem kept_tapFinish {A : Nat} {s0 : State} {s : Sys2Proof.Machine.State} {k : Nat} {p : Nat} {v : Sys2Proof.Inv} (h_s : Kept A s0 s) (hA : 134219320 ||| A = A) :
    Kept A s0 (State.tapFinish s k p v) := by
  unfold State.tapFinish
  extract_lets -merge -useContext -underBinder x1 x2 x3 x4 x5 x6 x7 x8 x9
  have h5 : Kept A s0 x5 := by
    unfold x5
    refine Kept.ite ?_ ?_
    · refine kept_count ?_ (mask_sub (by decide) hA)
      · exact h_s
    · exact h_s
  have h6 : Kept A s0 x6 := by
    unfold x6
    refine Kept.ite ?_ ?_
    · refine kept_tapMismatch ?_ (mask_sub (by decide) hA)
      · exact h5
    · exact h5
  have h9 : Kept A s0 x9 := by
    unfold x9
    refine Kept.ite ?_ ?_
    · exact h6
    · refine kept_raiseOnce ?_ (mask_sub (by decide) hA)
      · exact h6
  clear_value x5 x6 x9
  refine kept_updTap ?_ (mask_sub (by decide) hA)
  · exact h9
theorem kept_tapFinishDone {A : Nat} {s0 : State} {s : Sys2Proof.Machine.State} {k : Nat} {p : Nat} {cyc : Nat} (h_s : Kept A s0 s) (hA : 134219320 ||| A = A) :
    Kept A s0 (State.tapFinishDone s k p cyc) := by
  unfold State.tapFinishDone
  extract_lets -merge -useContext -underBinder x1
  refine kept_each ?_ (fun _ _ h2 => ?_)
  · exact h_s
  · split
    · refine kept_tapFinish ?_ (mask_sub (by decide) hA)
      · exact h2
    · exact h2
theorem kept_tapCompare {A : Nat} {s0 : State} {s : Sys2Proof.Machine.State} {k : Nat} {p : Nat} {st : Nat} {a : Sys2Proof.AccUnit} {acc : Int} {e : Int} (h_s : Kept A s0 s) (hA : 134217784 ||| A = A) :
    Kept A s0 (State.tapCompare s k p st a acc e) := by
  unfold State.tapCompare
  extract_lets -merge -useContext -underBinder x1
  refine Kept.ite ?_ ?_
  · exact h_s
  · refine kept_tapMismatch ?_ (mask_sub (by decide) hA)
    · exact h_s
theorem kept_tapSettle {A : Nat} {s0 : State} {s : Sys2Proof.Machine.State} {k : Nat} {p : Nat} (h_s : Kept A s0 s) (hA : 134217784 ||| A = A) :
    Kept A s0 (State.tapSettle s k p) := by
  unfold State.tapSettle
  extract_lets -merge -useContext -underBinder x1
  refine kept_each ?_ (fun _ _ h2 => ?_)
  · exact h_s
  · refine kept_each ?_ (fun _ _ h3 => ?_)
    · exact h2
    · split
      · refine kept_updInv ?_ (mask_sub (by decide) hA)
        · refine kept_tapCompare ?_ (mask_sub (by decide) hA)
          · exact h3
      · exact h3
theorem kept_tapDrainTo {A : Nat} {s0 : State} {s : Sys2Proof.Machine.State} {k : Nat} {p : Nat} {cyc : Nat} (h_s : Kept A s0 s) (hA : 134217728 ||| A = A) :
    Kept A s0 (State.tapDrainTo s k p cyc) := by
  unfold State.tapDrainTo
  refine kept_updTap ?_ (mask_sub (by decide) hA)
  · exact h_s
theorem kept_tapGo {A : Nat} {s0 : State} {s : Sys2Proof.Machine.State} {k : Nat} {p : Nat} {cyc : Nat} (h_s : Kept A s0 s) (hA : 134219320 ||| A = A) :
    Kept A s0 (State.tapGo s k p cyc) := by
  unfold State.tapGo
  refine kept_tapFinishDone ?_ (mask_sub (by decide) hA)
  · refine kept_tapSettle ?_ (mask_sub (by decide) hA)
    · refine kept_tapDrainTo ?_ (mask_sub (by decide) hA)
      · exact h_s
theorem kept_tapOpen {A : Nat} {s0 : State} {s : Sys2Proof.Machine.State} {k : Nat} {p : Nat} {v : Sys2Proof.Inv} {q : Nat} {cov : Bool} (h_s : Kept A s0 s) (hA : 134217784 ||| A = A) :
    Kept A s0 (State.tapOpen s k p v q cov) := by
  unfold State.tapOpen
  extract_lets -merge -useContext -underBinder x1 x2
  have h2 : Kept A s0 x2 := by
    unfold x2
    refine Kept.ite ?_ ?_
    · exact h_s
    · refine kept_wr ?_ (mask_sub (by decide) hA)
      · refine Kept.ite ?_ ?_
        · refine kept_count ?_ (mask_sub (by decide) hA)
          · exact h_s
        · refine kept_count ?_ (mask_sub (by decide) hA)
          · exact h_s
  clear_value x2
  refine kept_updInv ?_ (mask_sub (by decide) hA)
  · exact h2
theorem kept_tapSkip {A : Nat} {s0 : State} {s : Sys2Proof.Machine.State} {k : Nat} {p : Nat} {st : Nat} {early : Bool} (h_s : Kept A s0 s) (hA : 134217776 ||| A = A) :
    Kept A s0 (State.tapSkip s k p st early) := by
  unfold State.tapSkip
  refine kept_updInv ?_ (mask_sub (by decide) hA)
  · refine kept_count ?_ (mask_sub (by decide) hA)
    · exact h_s
theorem kept_tapUnit {A : Nat} {s0 : State} {s : Sys2Proof.Machine.State} {k : Nat} {p : Nat} {st : Nat} {seq : Nat} {lane : Nat} {r : Nat} {cap : Sys2Proof.CapProd} {cov : Bool} {dropped : Bool} {spoiled : Bool} (h_s : Kept A s0 s) (hA : 134217728 ||| A = A) :
    Kept A s0 (State.tapUnit s k p st seq lane r cap cov dropped spoiled) := by
  unfold State.tapUnit
  refine kept_updInv ?_ (mask_sub (by decide) hA)
  · exact h_s
theorem kept_tapQueued {A : Nat} {s0 : State} {s : Sys2Proof.Machine.State} {k : Nat} {p : Nat} {need : Nat} (h_s : Kept A s0 s) (hA : 134217728 ||| A = A) :
    Kept A s0 (State.tapQueued s k p need) := by
  unfold State.tapQueued
  refine kept_updTap ?_ (mask_sub (by decide) hA)
  · exact h_s
theorem kept_tapDropped {A : Nat} {s0 : State} {s : Sys2Proof.Machine.State} {k : Nat} {p : Nat} {st : Nat} (h_s : Kept A s0 s) (hA : 134219320 ||| A = A) :
    Kept A s0 (State.tapDropped s k p st) := by
  unfold State.tapDropped
  extract_lets -merge -useContext -underBinder x1 x2
  have h2 : Kept A s0 x2 := by
    unfold x2
    refine kept_updInv ?_ (mask_sub (by decide) hA)
    · refine kept_count ?_ (mask_sub (by decide) hA)
      · exact h_s
  clear_value x2
  refine kept_raiseOnce ?_ (mask_sub (by decide) hA)
  · exact h2
theorem kept_updAcc {A : Nat} {s0 : State} {s : Sys2Proof.Machine.State} {k : Nat} {p : Nat} {st : Nat} {idx : Nat} {f : Sys2Proof.AccUnit → Sys2Proof.AccUnit} (h_s : Kept A s0 s) (hA : 134217728 ||| A = A) :
    Kept A s0 (State.updAcc s k p st idx f) := by
  unfold State.updAcc
  refine kept_updInv ?_ (mask_sub (by decide) hA)
  · exact h_s
theorem kept_tapProduct {A : Nat} {s0 : State} {s : Sys2Proof.Machine.State} {k : Nat} {p : Nat} {st : Nat} {kwin : Nat} {n : Nat} {unknown : Bool} {wide : Bool} {c : Nat} {iss : Sys2Proof.IssueCycle} {lane : Nat} (h_s : Kept A s0 s) (hA : 134219320 ||| A = A) :
    Kept A s0 (State.tapProduct s k p st kwin n unknown wide c iss lane) := by
  unfold State.tapProduct
  split
  · exact h_s
  · extract_lets -merge -useContext -underBinder x1 x2 x3 x4 x5 x6 x7 x8 x9 x10
    have h5 : Kept A s0 x5 := by
      unfold x5
      refine kept_tapOpen ?_ (mask_sub (by decide) hA)
      · exact h_s
    have h10 : Kept A s0 x10 := by
      unfold x10
      refine Kept.ite ?_ ?_
      · exact h_s
      · refine kept_updInv ?_ (mask_sub (by decide) hA)
        · refine kept_tapOpen ?_ (mask_sub (by decide) hA)
          · exact h_s
    clear_value x5 x10
    refine Kept.ite ?_ ?_
    · refine Kept.ite ?_ ?_
      · refine kept_tapSkip ?_ (mask_sub (by decide) hA)
        · exact h5
      · refine Kept.ite ?_ ?_
        · refine kept_tapUnit ?_ (mask_sub (by decide) hA)
          · exact h5
        · split
          · refine kept_tapSkip ?_ (mask_sub (by decide) hA)
            · refine kept_tapUnit ?_ (mask_sub (by decide) hA)
              · exact h5
          · refine Kept.ite ?_ ?_
            · refine kept_tapQueued ?_ (mask_sub (by decide) hA)
              · refine kept_tapUnit ?_ (mask_sub (by decide) hA)
                · exact h5
            · refine kept_tapDropped ?_ (mask_sub (by decide) hA)
              · refine kept_tapUnit ?_ (mask_sub (by decide) hA)
                · exact h5
    · split
      · exact h10
      · refine Kept.ite ?_ ?_
        · refine kept_tapSkip ?_ (mask_sub (by decide) hA)
          · refine kept_updAcc ?_ (mask_sub (by decide) hA)
            · exact h10
        · refine Kept.ite ?_ ?_
          · refine kept_tapSkip ?_ (mask_sub (by decide) hA)
            · refine kept_updAcc ?_ (mask_sub (by decide) hA)
              · exact h10
          · refine Kept.ite ?_ ?_
            · exact h10
            · refine Kept.ite ?_ ?_
              · refine kept_raiseOnce ?_ (mask_sub (by decide) hA)
                · refine kept_tapSkip ?_ (mask_sub (by decide) hA)
                  · refine kept_updAcc ?_ (mask_sub (by decide) hA)
                    · exact h10
              · split
                · refine kept_tapSkip ?_ (mask_sub (by decide) hA)
                  · refine kept_updAcc ?_ (mask_sub (by decide) hA)
                    · exact h10
                · extract_lets -merge -useContext -underBinder x11 x12
                  have h11 : Kept A s0 x11 := by
                    unfold x11
                    refine kept_tapQueued ?_ (mask_sub (by decide) hA)
                    · exact h10
                  clear_value x11
                  refine Kept.ite ?_ ?_
                  · refine kept_updAcc ?_ (mask_sub (by decide) hA)
                    · exact h11
                  · refine kept_tapDropped ?_ (mask_sub (by decide) hA)
                    · refine kept_updAcc ?_ (mask_sub (by decide) hA)
                      · exact h10
theorem kept_tapIssue {A : Nat} {s0 : State} {s : Sys2Proof.Machine.State} {k : Nat} {p : Nat} {c : Nat} {iss : Sys2Proof.IssueCycle} (h_s : Kept A s0 s) (hA : 134219320 ||| A = A) :
    Kept A s0 (State.tapIssue s k p c iss) := by
  unfold State.tapIssue
  split
  · exact h_s
  · extract_lets -merge -useContext -underBinder x1 x2 x3 x4 x5 x6 x7 x8 x9 x10
    have h8 : Kept A s0 x8 := by
      unfold x8
      refine kept_updInv ?_ (mask_sub (by decide) hA)
      · exact h_s
    have h9 : Kept A s0 x9 := by
      unfold x9
      refine Kept.ite ?_ ?_
      · refine kept_raiseOnce ?_ (mask_sub (by decide) hA)
        · exact h8
      · exact h8
    have h10 : Kept A s0 x10 := by
      unfold x10
      refine Kept.ite ?_ ?_
      · refine kept_raiseOnce ?_ (mask_sub (by decide) hA)
        · exact h9
      · exact h9
    clear_value x8 x9 x10
    refine Kept.ite ?_ ?_
    · exact h_s
    · refine kept_each ?_ (fun _ _ h11 => ?_)
      · exact h10
      · refine kept_tapProduct ?_ (mask_sub (by decide) hA)
        · exact h11
theorem kept_tapLatch {A : Nat} {s0 : State} {s : Sys2Proof.Machine.State} {k : Nat} {p : Nat} {cmd : Nat} {v : Sys2Proof.CaseVal} (h_s : Kept A s0 s) (hA : 134217728 ||| A = A) :
    Kept A s0 (State.tapLatch s k p cmd v) := by
  unfold State.tapLatch
  refine Kept.ite ?_ ?_
  · refine kept_updTap ?_ (mask_sub (by decide) hA)
    · exact h_s
  · exact h_s
theorem kept_tapClose {A : Nat} {s0 : State} {s : Sys2Proof.Machine.State} {k : Nat} {p : Nat} {c : Nat} {idx : Nat} {acc : Int} {e : Int} (h_s : Kept A s0 s) (hA : 134217784 ||| A = A) :
    Kept A s0 (State.tapClose s k p c idx acc e) := by
  unfold State.tapClose
  split
  · exact h_s
  · refine Kept.ite ?_ ?_
    · exact h_s
    · split
      · extract_lets -merge -useContext -underBinder x1 x2 x3
        have h2 : Kept A s0 x2 := by
          unfold x2
          refine kept_updInv ?_ (mask_sub (by decide) hA)
          · exact h_s
        have h3 : Kept A s0 x3 := by
          unfold x3
          refine kept_tapLatch ?_ (mask_sub (by decide) hA)
          · exact h2
        clear_value x2 x3
        refine Kept.ite ?_ ?_
        · exact h3
        · refine kept_tapMismatch ?_ (mask_sub (by decide) hA)
          · exact h3
      · extract_lets -merge -useContext -underBinder x4 x5
        have h5 : Kept A s0 x5 := by
          unfold x5
          refine kept_updInv ?_ (mask_sub (by decide) hA)
          · refine kept_updAcc ?_ (mask_sub (by decide) hA)
            · exact h_s
        clear_value x5
        refine kept_tapSettle ?_ (mask_sub (by decide) hA)
        · refine kept_tapLatch ?_ (mask_sub (by decide) hA)
          · exact h5
theorem kept_stepMismatch {A : Nat} {s0 : State} {s : Sys2Proof.Machine.State} {k : Nat} {p : Nat} {st : Nat} {kind : Nat} {tag : Nat} {port : Nat} {pres : Sys2Proof.DscPres} {u : Option Sys2Proof.ProdUnit} {pred : Nat} {obs : Nat} {bound : Bool} (h_s : Kept A s0 s) (hA : 134217784 ||| A = A) :
    Kept A s0 (State.stepMismatch s k p st kind tag port pres u pred obs bound) := by
  unfold State.stepMismatch
  extract_lets -merge -useContext -underBinder x1 x2
  have h2 : Kept A s0 x2 := by
    unfold x2
    refine Kept.ite ?_ ?_
    · exact h_s
    · split
      · refine kept_tapMismatch ?_ (mask_sub (by decide) hA)
        · exact h_s
      · refine kept_tapMismatch ?_ (mask_sub (by decide) hA)
        · exact h_s
  clear_value x2
  refine Kept.ite ?_ ?_
  · exact h2
  · refine kept_tapMismatch ?_ (mask_sub (by decide) hA)
    · exact h2
theorem kept_tapPresent {A : Nat} {s0 : State} {s : Sys2Proof.Machine.State} {k : Nat} {p : Nat} {c : Nat} {port : Nat} {pres : Sys2Proof.DscPres} (h_s : Kept A s0 s) (hA : 134219320 ||| A = A) :
    Kept A s0 (State.tapPresent s k p c port pres) := by
  unfold State.tapPresent
  split
  · exact h_s
  · extract_lets -merge -useContext -underBinder x1 x2 x3 x4
    have h4 : ∀ y4_0, Kept A s0 y4_0 → Kept A s0 (x4 y4_0) := by
      intro y4_0 h4_0
      unfold x4
      refine kept_raiseOnce ?_ (mask_sub (by decide) hA)
      · refine kept_count ?_ (mask_sub (by decide) hA)
        · exact h4_0
    clear_value x4
    refine Kept.ite ?_ ?_
    · exact h_s
    · refine Kept.ite ?_ ?_
      · refine h4 _ ?_
        · exact h_s
      · split
        · refine kept_tapPreskip ?_ (mask_sub (by decide) hA)
          · exact h_s
        · extract_lets -merge -useContext -underBinder x5 x6
          split
          · refine kept_tapPreskip ?_ (mask_sub (by decide) hA)
            · exact h_s
          · refine kept_raiseOnce ?_ (mask_sub (by decide) hA)
            · refine kept_tapPreskip ?_ (mask_sub (by decide) hA)
              · exact h_s
          · refine h4 _ ?_
            · refine kept_updInv ?_ (mask_sub (by decide) hA)
              · exact h_s
          · extract_lets -merge -useContext -underBinder x7 x8 x9
            have h7 : Kept A s0 x7 := by
              unfold x7
              refine kept_updInv ?_ (mask_sub (by decide) hA)
              · exact h_s
            have h8 : Kept A s0 x8 := by
              unfold x8
              refine kept_tapLatch ?_ (mask_sub (by decide) hA)
              · exact h7
            clear_value x7 x8
            refine Kept.ite ?_ ?_
            · exact h8
            · refine kept_stepMismatch ?_ (mask_sub (by decide) hA)
              · refine kept_updInv ?_ (mask_sub (by decide) hA)
                · refine kept_count ?_ (mask_sub (by decide) hA)
                  · exact h8
theorem kept_tapAct {A : Nat} {s0 : State} {s : Sys2Proof.Machine.State} {k : Nat} {p : Nat} {c : Nat} {z4 : Sys2Proof.TapIn} (h_s : Kept A s0 s) (hA : 134219320 ||| A = A) :
    Kept A s0 (State.tapAct s k p c z4) := by
  unfold State.tapAct
  split
  · refine kept_tapIssue ?_ (mask_sub (by decide) hA)
    · exact h_s
  · refine kept_tapClose ?_ (mask_sub (by decide) hA)
    · exact h_s
  · refine kept_tapPresent ?_ (mask_sub (by decide) hA)
    · exact h_s
theorem kept_tapTo {A : Nat} {s0 : State} {s : Sys2Proof.Machine.State} {k : Nat} {p : Nat} {cyc : Nat} {rank : Nat} (h_s : Kept A s0 s) (hA : 134219320 ||| A = A) :
    Kept A s0 (State.tapTo s k p cyc rank) := by
  unfold State.tapTo
  extract_lets -merge -useContext -underBinder x1 x2 x3 x4
  have h4 : Kept A s0 x4 := by
    unfold x4
    refine Kept.ite ?_ ?_
    · exact h_s
    · refine kept_updTap ?_ (mask_sub (by decide) hA)
      · exact h_s
  clear_value x4
  refine kept_tapGo ?_ (mask_sub (by decide) hA)
  · refine kept_each ?_ (fun _ _ h5 => ?_)
    · exact h4
    · refine kept_tapAct ?_ (mask_sub (by decide) hA)
      · refine kept_tapGo ?_ (mask_sub (by decide) hA)
        · exact h5
theorem kept_tapPort {A : Nat} {s0 : State} {s : Sys2Proof.Machine.State} {k : Nat} {p : Nat} {cyc : Nat} {lat : Nat} {x : Sys2Proof.TapIn} (h_s : Kept A s0 s) (hA : 134219320 ||| A = A) :
    Kept A s0 (State.tapPort s k p cyc lat x) := by
  unfold State.tapPort
  extract_lets -merge -useContext -underBinder x1
  have h1 : Kept A s0 x1 := by
    unfold x1
    refine kept_tapTo ?_ (mask_sub (by decide) hA)
    · exact h_s
  clear_value x1
  refine Kept.ite ?_ ?_
  · refine kept_tapAct ?_ (mask_sub (by decide) hA)
    · exact h1
  · refine kept_updTap ?_ (mask_sub (by decide) hA)
    · exact h1
theorem kept_execDiscardPresentation {A : Nat} {s0 : State} {k : Sys2Proof.ClusterId} {p : Sys2Proof.CoreId} {cyc : Nat} {port : Fin 6} {pres : Sys2Proof.DscPres} {s : Sys2Proof.Machine.State} (h_s : Kept A s0 s) (hA : 134219320 ||| A = A) :
    KeptO A s0 (execDiscardPresentation k p cyc port pres s) := by
  unfold execDiscardPresentation
  refine KeptO.next ?_
  refine kept_tapPort ?_ (mask_sub (by decide) hA)
  · exact h_s
theorem kept_tapTime {A : Nat} {s0 : State} {s : Sys2Proof.Machine.State} {k : Nat} {p : Nat} {cyc : Nat} (h_s : Kept A s0 s) (hA : 134219320 ||| A = A) :
    Kept A s0 (State.tapTime s k p cyc) := by
  unfold State.tapTime
  refine kept_tapTo ?_ (mask_sub (by decide) hA)
  · exact h_s
theorem kept_showLimit {A : Nat} {s0 : State} {s : Sys2Proof.Machine.State} {k : Nat} {p : Nat} (h_s : Kept A s0 s) (hA : 8 ||| A = A) :
    Kept A s0 (State.showLimit s k p) := by
  unfold State.showLimit
  refine kept_flag ?_ (mask_sub (by decide) hA)
  · exact h_s
theorem kept_tapStart {A : Nat} {s0 : State} {s : Sys2Proof.Machine.State} {k : Nat} {p : Nat} {cyc : Nat} {cmd : Nat} {l0rd : Nat} {l0wr : Nat} (h_s : Kept A s0 s) (hA : 402654776 ||| A = A) :
    Kept A s0 (State.tapStart s k p cyc cmd l0rd l0wr) := by
  unfold State.tapStart
  extract_lets -merge -useContext -underBinder x1 x2 x3 x4 x5 x6 x7 x8 x9 x10 x11 x12
  have h2 : Kept A s0 x2 := by
    unfold x2
    refine kept_tapTime ?_ (mask_sub (by decide) hA)
    · refine kept_updTap ?_ (mask_sub (by decide) hA)
      · exact h_s
  have h4 : Kept A s0 x4 := by
    unfold x4
    refine kept_count ?_ (mask_sub (by decide) hA)
    · refine kept_count ?_ (mask_sub (by decide) hA)
      · exact h2
  have h10 : Kept A s0 x10 := by
    unfold x10
    refine kept_updTap ?_ (mask_sub (by decide) hA)
    · exact h4
  have h11 : Kept A s0 x11 := by
    unfold x11
    refine kept_updCore ?_ (mask_sub (by decide) hA)
    · exact h10
  have h12 : Kept A s0 x12 := by
    unfold x12
    refine kept_flag ?_ (mask_sub (by decide) hA)
    · refine kept_wr ?_ (mask_sub (by decide) hA)
      · exact h11
  clear_value x2 x4 x10 x11 x12
  refine kept_showLimit ?_ (mask_sub (by decide) hA)
  · exact h12
theorem kept_execAccumulationClose {A : Nat} {s0 : State} {k : Sys2Proof.ClusterId} {p : Sys2Proof.CoreId} {cyc : Nat} {idx : Fin 64} {acc : BitVec 96} {exp : BitVec 10} {s : Sys2Proof.Machine.State} (h_s : Kept A s0 s) (hA : 134219320 ||| A = A) :
    KeptO A s0 (execAccumulationClose k p cyc idx acc exp s) := by
  unfold execAccumulationClose
  refine KeptO.next ?_
  refine kept_tapPort ?_ (mask_sub (by decide) hA)
  · exact h_s
theorem kept_issueLimitExpire {A : Nat} {s0 : State} {s : Sys2Proof.Machine.State} {k : Nat} {p : Nat} (h_s : Kept A s0 s) (hA : 134217736 ||| A = A) :
    Kept A s0 (issueLimitExpire s k p) := by
  unfold issueLimitExpire
  refine kept_showLimit ?_ (mask_sub (by decide) hA)
  · refine kept_updTap ?_ (mask_sub (by decide) hA)
    · exact h_s
theorem kept_execIssueLimitExpire {A : Nat} {s0 : State} {k : Sys2Proof.ClusterId} {p : Sys2Proof.CoreId} {s : Sys2Proof.Machine.State} (h_s : Kept A s0 s) (hA : 134217736 ||| A = A) :
    KeptO A s0 (execIssueLimitExpire k p s) := by
  unfold execIssueLimitExpire
  refine KeptO.next ?_
  refine kept_issueLimitExpire ?_ (mask_sub (by decide) hA)
  · exact h_s
theorem kept_tapCoreReset {A : Nat} {s0 : State} {s : Sys2Proof.Machine.State} {k : Nat} {p : Nat} (h_s : Kept A s0 s) (hA : 134217784 ||| A = A) :
    Kept A s0 (State.tapCoreReset s k p) := by
  unfold State.tapCoreReset
  extract_lets -merge -useContext -underBinder x1 x2
  have h2 : Kept A s0 x2 := by
    unfold x2
    refine kept_updTap ?_ (mask_sub (by decide) hA)
    · refine kept_count ?_ (mask_sub (by decide) hA)
      · exact h_s
  clear_value x2
  refine kept_showLimit ?_ (mask_sub (by decide) hA)
  · refine kept_flag ?_ (mask_sub (by decide) hA)
    · exact h2
theorem kept_tapEnd {A : Nat} {s0 : State} {s : Sys2Proof.Machine.State} {k : Nat} {p : Nat} {cyc : Nat} {l0rd : Nat} {l0wr : Nat} (h_s : Kept A s0 s) (hA : 402654776 ||| A = A) :
    Kept A s0 (State.tapEnd s k p cyc l0rd l0wr) := by
  unfold State.tapEnd
  extract_lets -merge -useContext -underBinder x1 x2 x3 x4 x5
  have h3 : Kept A s0 x3 := by
    unfold x3
    refine kept_count ?_ (mask_sub (by decide) hA)
    · refine kept_count ?_ (mask_sub (by decide) hA)
      · exact h_s
  have h4 : Kept A s0 x4 := by
    unfold x4
    refine kept_updTap ?_ (mask_sub (by decide) hA)
    · exact h3
  have h5 : Kept A s0 x5 := by
    unfold x5
    refine kept_flag ?_ (mask_sub (by decide) hA)
    · refine kept_updCore ?_ (mask_sub (by decide) hA)
      · exact h4
  clear_value x3 x4 x5
  refine kept_showLimit ?_ (mask_sub (by decide) hA)
  · refine kept_tapTime ?_ (mask_sub (by decide) hA)
    · exact h5
theorem kept_execResidueUnitDrained {A : Nat} {s0 : State} {k : Sys2Proof.ClusterId} {p : Sys2Proof.CoreId} {cyc : Nat} {s : Sys2Proof.Machine.State} (h_s : Kept A s0 s) (hA : 134219320 ||| A = A) :
    KeptO A s0 (execResidueUnitDrained k p cyc s) := by
  unfold execResidueUnitDrained
  refine KeptO.next ?_
  refine kept_tapTo ?_ (mask_sub (by decide) hA)
  · exact h_s
theorem kept_tapContext {A : Nat} {s0 : State} {s : Sys2Proof.Machine.State} {k : Nat} {p : Nat} {x : Sys2Proof.TapCtx} (h_s : Kept A s0 s) (hA : 134217736 ||| A = A) :
    Kept A s0 (State.tapContext s k p x) := by
  unfold State.tapContext
  extract_lets -merge -useContext -underBinder x1 x2 x3 x4 x5
  have h5 : Kept A s0 x5 := by
    unfold x5
    refine kept_updTap ?_ (mask_sub (by decide) hA)
    · exact h_s
  clear_value x5
  refine kept_showLimit ?_ (mask_sub (by decide) hA)
  · exact h5
theorem kept_execProductIssue {A : Nat} {s0 : State} {k : Sys2Proof.ClusterId} {p : Sys2Proof.CoreId} {cyc : Nat} {iss : Sys2Proof.IssueCycle} {s : Sys2Proof.Machine.State} (h_s : Kept A s0 s) (hA : 134219320 ||| A = A) :
    KeptO A s0 (execProductIssue k p cyc iss s) := by
  unfold execProductIssue
  refine KeptO.next ?_
  refine kept_tapPort ?_ (mask_sub (by decide) hA)
  · exact h_s
theorem kept_mbxCounts {A : Nat} {s0 : State} {s : Sys2Proof.Machine.State} (h_s : Kept A s0 s) (hA : 8 ||| A = A) :
    Kept A s0 (State.mbxCounts s) := by
  unfold State.mbxCounts
  refine kept_wr ?_ (mask_sub (by decide) hA)
  · refine kept_wr ?_ (mask_sub (by decide) hA)
    · exact h_s
theorem kept_cpl {A : Nat} {s0 : State} {s : Sys2Proof.Machine.State} {c : Sys2Proof.Cpl} (h_s : Kept A s0 s) (hA : 288230376151712280 ||| A = A) :
    Kept A s0 (State.cpl s c) := by
  unfold State.cpl
  extract_lets -merge -useContext -underBinder x1 x2 x3 x4
  refine Kept.ite ?_ ?_
  · refine Kept.ite ?_ ?_
    · refine kept_mbxCounts ?_ (mask_sub (by decide) hA)
      · refine Kept.u_mbx ?_ (mask_sub (by decide) hA)
        exact h_s
    · refine kept_bump ?_ (mask_sub (by decide) hA)
      · refine Kept.u_mbx ?_ (mask_sub (by decide) hA)
        exact h_s
  · refine Kept.ite ?_ ?_
    · refine kept_raise ?_ (mask_sub (by decide) hA)
      · refine kept_bump ?_ (mask_sub (by decide) hA)
        · refine Kept.u_mbx ?_ (mask_sub (by decide) hA)
          exact h_s
    · refine kept_mbxCounts ?_ (mask_sub (by decide) hA)
      · refine Kept.u_mbx ?_ (mask_sub (by decide) hA)
        exact h_s
theorem kept_notify {A : Nat} {s0 : State} {s : Sys2Proof.Machine.State} {ctype : Nat} {ctx : Nat} {fs : List (Nat × Nat)} {more : optParam Bool Bool.false} (h_s : Kept A s0 s) (hA : 288230376151712280 ||| A = A) :
    Kept A s0 (State.notify s ctype ctx fs more) := by
  unfold State.notify
  refine kept_cpl ?_ (mask_sub (by decide) hA)
  · exact h_s
theorem kept_answer {A : Nat} {s0 : State} {s : Sys2Proof.Machine.State} {m : Sys2Proof.Msg} {status : Nat} {fs : List (Nat × Nat)} (h_s : Kept A s0 s) (hA : 1441151880758561304 ||| A = A) :
    Kept A s0 (State.answer s m status fs) := by
  unfold State.answer
  extract_lets -merge -useContext -underBinder x1 x2 x3
  have h2 : Kept A s0 x2 := by
    unfold x2
    refine kept_mctpOut ?_ (mask_sub (by decide) hA)
    · exact h_s
  clear_value x2
  refine Kept.ite ?_ ?_
  · refine Kept.u_mgt ?_ (mask_sub (by decide) hA)
    exact h2
  · refine Kept.ite ?_ ?_
    · exact h_s
    · refine kept_cpl ?_ (mask_sub (by decide) hA)
      · exact h_s
theorem kept_workDone {A : Nat} {s0 : State} {s : Sys2Proof.Machine.State} {what : Nat} {status : Nat} (h_s : Kept A s0 s) (hA : 1441151880758561304 ||| A = A) :
    Kept A s0 (State.workDone s what status) := by
  unfold State.workDone
  extract_lets -merge -useContext -underBinder x1 x2 x3
  have h3 : Kept A s0 x3 := by
    unfold x3
    refine Kept.u_mbx ?_ (mask_sub (by decide) hA)
    exact h_s
  clear_value x3
  refine kept_each ?_ (fun _ _ h4 => ?_)
  · exact h3
  · refine kept_answer ?_ (mask_sub (by decide) hA)
    · exact h4
theorem kept_notifyRegion {A : Nat} {s0 : State} {s : Sys2Proof.Machine.State} {r : Nat} {what : Nat} (h_s : Kept A s0 s) (hA : 288230376151712280 ||| A = A) :
    Kept A s0 (State.notifyRegion s r what) := by
  unfold State.notifyRegion
  refine kept_notify ?_ (mask_sub (by decide) hA)
  · exact h_s
theorem kept_notifyList {A : Nat} {s0 : State} {s : Sys2Proof.Machine.State} {ctype : Nat} {ctx : Nat} {head : Nat → List (Nat × Nat)} {n : Nat} {vs : List Nat} (h_s : Kept A s0 s) (hA : 288230376151712280 ||| A = A) :
    Kept A s0 (State.notifyList s ctype ctx head n vs) := by
  unfold State.notifyList
  extract_lets -merge -useContext -underBinder x1
  refine kept_each ?_ (fun _ _ h2 => ?_)
  · exact h_s
  · refine kept_notify ?_ (mask_sub (by decide) hA)
    · exact h2
theorem kept_notifyKill {A : Nat} {s0 : State} {s : Sys2Proof.Machine.State} {c : Nat} {cause : Nat} {step : Nat} {cluster : Nat} (h_s : Kept A s0 s) (hA : 288230376151712280 ||| A = A) :
    Kept A s0 (State.notifyKill s c cause step cluster) := by
  unfold State.notifyKill
  refine kept_notify ?_ (mask_sub (by decide) hA)
  · exact h_s
theorem kept_notifyWafer {A : Nat} {s0 : State} {s : Sys2Proof.Machine.State} (h_s : Kept A s0 s) (hA : 288230376151712280 ||| A = A) :
    Kept A s0 (State.notifyWafer s) := by
  unfold State.notifyWafer
  refine kept_notify ?_ (mask_sub (by decide) hA)
  · exact h_s
theorem kept_refuse {A : Nat} {s0 : State} {s : Sys2Proof.Machine.State} {m : Sys2Proof.Msg} {status : Nat} (h_s : Kept A s0 s) (hA : 1441151880758562360 ||| A = A) :
    Kept A s0 (State.refuse s m status) := by
  unfold State.refuse
  extract_lets -merge -useContext -underBinder x1
  have h1 : Kept A s0 x1 := by
    unfold x1
    refine kept_raiseOnce ?_ (mask_sub (by decide) hA)
    · refine kept_count ?_ (mask_sub (by decide) hA)
      · exact h_s
  clear_value x1
  refine kept_answer ?_ (mask_sub (by decide) hA)
  · exact h1
theorem kept_noteRelease {A : Nat} {s0 : State} {s : Sys2Proof.Machine.State} {b : Sys2Proof.HeldBlock} (h_s : Kept A s0 s) (hA : 68719476736 ||| A = A) :
    Kept A s0 (State.noteRelease s b) := by
  unfold State.noteRelease
  refine Kept.ite ?_ ?_
  · refine kept_updCtx ?_ (mask_sub (by decide) hA)
    · exact h_s
  · exact h_s
theorem kept_gateOut {A : Nat} {s0 : State} {s : Sys2Proof.Machine.State} {g : Nat} {b : Sys2Proof.HeldBlock} (h_s : Kept A s0 s) (hA : 68719478832 ||| A = A) :
    Kept A s0 (State.gateOut s g b) := by
  unfold State.gateOut
  refine kept_emit ?_ (mask_sub (by decide) hA)
  · refine kept_noteRelease ?_ (mask_sub (by decide) hA)
    · refine kept_count ?_ (mask_sub (by decide) hA)
      · exact h_s
theorem kept_gateFlush {A : Nat} {s0 : State} {s : Sys2Proof.Machine.State} {g : Nat} (h_s : Kept A s0 s) (hA : 68721575992 ||| A = A) :
    Kept A s0 (State.gateFlush s g) := by
  unfold State.gateFlush
  extract_lets -merge -useContext -underBinder x1 x2
  have h2 : Kept A s0 x2 := by
    unfold x2
    refine kept_updGate ?_ (mask_sub (by decide) hA)
    · exact h_s
  clear_value x2
  refine kept_wr ?_ (mask_sub (by decide) hA)
  · refine kept_each ?_ (fun _ _ h3 => ?_)
    · exact h2
    · refine kept_gateOut ?_ (mask_sub (by decide) hA)
      · exact h3
theorem kept_gateDiscard {A : Nat} {s0 : State} {s : Sys2Proof.Machine.State} {g : Nat} {f : Sys2Proof.HeldBlock → Bool} (h_s : Kept A s0 s) (hA : 2097200 ||| A = A) :
    Kept A s0 (State.gateDiscard s g f) := by
  unfold State.gateDiscard
  extract_lets -merge -useContext -underBinder x1 x2 x3
  refine kept_updGate ?_ (mask_sub (by decide) hA)
  · refine kept_count ?_ (mask_sub (by decide) hA)
    · exact h_s
theorem kept_gateWithhold {A : Nat} {s0 : State} {s : Sys2Proof.Machine.State} {g : Nat} {c : Nat} {t : Nat} {reason : Nat} {f : Sys2Proof.HeldBlock → Bool} (h_s : Kept A s0 s) (hA : 288230376153809464 ||| A = A) :
    Kept A s0 (State.gateWithhold s g c t reason f) := by
  unfold State.gateWithhold
  extract_lets -merge -useContext -underBinder x1 x2 x3
  clear_value x3
  split
  · exact h_s
  · extract_lets -merge -useContext -underBinder x4 x5 x6
    have h5 : Kept A s0 x5 := by
      unfold x5
      refine kept_count ?_ (mask_sub (by decide) hA)
      · exact h_s
    have h6 : Kept A s0 x6 := by
      unfold x6
      refine Kept.ite ?_ ?_
      · exact h5
      · refine kept_notify ?_ (mask_sub (by decide) hA)
        · refine kept_count ?_ (mask_sub (by decide) hA)
          · refine kept_count ?_ (mask_sub (by decide) hA)
            · exact h5
    clear_value x5 x6
    refine kept_updGate ?_ (mask_sub (by decide) hA)
    · exact h6
theorem kept_gateTake {A : Nat} {s0 : State} {s : Sys2Proof.Machine.State} {g : Nat} {b : Sys2Proof.HeldBlock} (h_s : Kept A s0 s) (hA : 288230376153809464 ||| A = A) :
    Kept A s0 (State.gateTake s g b) := by
  unfold State.gateTake
  extract_lets -merge -useContext -underBinder x1 x2 x3
  have h1 : Kept A s0 x1 := by
    unfold x1
    refine kept_count ?_ (mask_sub (by decide) hA)
    · exact h_s
  have h2 : Kept A s0 x2 := by
    unfold x2
    refine Kept.ite ?_ ?_
    · refine kept_updGate ?_ (mask_sub (by decide) hA)
      · exact h1
    · exact h1
  have h3 : ∀ y3_0 y3_1, Kept A s0 y3_0 → Kept A s0 (x3 y3_0 y3_1) := by
    intro y3_0 y3_1 h3_0
    unfold x3
    refine kept_updGate ?_ (mask_sub (by decide) hA)
    · exact h3_0
  clear_value x1 x2 x3
  split
  · refine h3 _ _ ?_
    · exact h2
  · refine h3 _ _ ?_
    · exact h2
  · refine kept_gateDiscard ?_ (mask_sub (by decide) hA)
    · refine h3 _ _ ?_
      · exact h2
  · refine kept_gateWithhold ?_ (mask_sub (by decide) hA)
    · refine h3 _ _ ?_
      · exact h2
theorem kept_gateRefill {A : Nat} {s0 : State} {s : State} {g n : Nat} (h_s : Kept A s0 s) (hA : 288230444873288248 ||| A = A) :
    Kept A s0 (State.gateRefill s g n) := by
  induction n generalizing s with
  | zero => exact h_s
  | succ n ih =>
    unfold State.gateRefill
    extract_lets -merge -useContext -underBinder x1
    split
    · exact h_s
    · refine Kept.ite ?_ h_s
      refine ih ?_
      refine kept_gateFlush ?_ (mask_sub (by decide) hA)
      refine kept_gateTake ?_ (mask_sub (by decide) hA)
      exact kept_updGate h_s (mask_sub (by decide) hA)
theorem kept_gateSettle {A : Nat} {s0 : State} {s : Sys2Proof.Machine.State} {g : Nat} (h_s : Kept A s0 s) (hA : 288230444873288248 ||| A = A) :
    Kept A s0 (State.gateSettle s g) := by
  unfold State.gateSettle
  extract_lets -merge -useContext -underBinder x1
  have h1 : Kept A s0 x1 := by
    unfold x1
    refine kept_gateFlush ?_ (mask_sub (by decide) hA)
    · exact h_s
  clear_value x1
  refine kept_gateRefill ?_ (mask_sub (by decide) hA)
  · exact h1
theorem kept_gateBlockArrive {A : Nat} {s0 : State} {s : Sys2Proof.Machine.State} {g : Nat} {stream : Nat} {step : Nat} {bytes : List Sys2Proof.Byte} (h_s : Kept A s0 s) (hA : 288230444873288248 ||| A = A) :
    Kept A s0 (gateBlockArrive s g stream step bytes) := by
  unfold gateBlockArrive
  extract_lets -merge -useContext -underBinder x1 x2 x3
  refine Kept.ite ?_ ?_
  · refine kept_gateSettle ?_ (mask_sub (by decide) hA)
    · refine kept_gateTake ?_ (mask_sub (by decide) hA)
      · exact h_s
  · refine kept_updGate ?_ (mask_sub (by decide) hA)
    · exact h_s
theorem kept_execGateBlockArrive {A : Nat} {s0 : State} {g : Sys2Proof.GateId} {stream : BitVec 12} {step : Sys2Proof.Step} {bytes : List Sys2Proof.Byte} {s : Sys2Proof.Machine.State} (h_s : Kept A s0 s) (hA : 288230444873288248 ||| A = A) :
    KeptO A s0 (execGateBlockArrive g stream step bytes s) := by
  unfold execGateBlockArrive
  refine KeptO.next ?_
  refine kept_gateBlockArrive ?_ (mask_sub (by decide) hA)
  · exact h_s
theorem kept_gateBackstop {A : Nat} {s0 : State} {s : Sys2Proof.Machine.State} {g : Nat} (h_s : Kept A s0 s) (hA : 288230444873288248 ||| A = A) :
    Kept A s0 (gateBackstop s g) := by
  unfold gateBackstop
  split
  · exact h_s
  · refine kept_gateSettle ?_ (mask_sub (by decide) hA)
    · refine kept_gateWithhold ?_ (mask_sub (by decide) hA)
      · exact h_s
theorem kept_openGates {A : Nat} {s0 : State} {s : Sys2Proof.Machine.State} (h_s : Kept A s0 s) (hA : 288230444873288248 ||| A = A) :
    Kept A s0 (State.openGates s) := by
  unfold State.openGates
  refine kept_each ?_ (fun _ _ h1 => ?_)
  · exact h_s
  · refine kept_gateSettle ?_ (mask_sub (by decide) hA)
    · refine kept_updGate ?_ (mask_sub (by decide) hA)
      · exact h1
theorem kept_regateAt {A : Nat} {s0 : State} {s : Sys2Proof.Machine.State} {c : Nat} {g : Nat} (h_s : Kept A s0 s) (hA : 288230444873288248 ||| A = A) :
    Kept A s0 (State.regateAt s c g) := by
  unfold State.regateAt
  extract_lets -merge -useContext -underBinder x1 x2 x3 x4
  refine Kept.ite ?_ ?_
  · exact h_s
  · refine kept_gateSettle ?_ (mask_sub (by decide) hA)
    · refine kept_each ?_ (fun _ _ h5 => ?_)
      · exact h_s
      · split
        · exact h5
        · split
          · refine kept_gateDiscard ?_ (mask_sub (by decide) hA)
            · exact h5
          · refine kept_gateWithhold ?_ (mask_sub (by decide) hA)
            · exact h5
          · exact h5
theorem kept_gateVerdict {A : Nat} {s0 : State} {s : Sys2Proof.Machine.State} {g : Nat} {c : Nat} {t : Nat} {v : Sys2Proof.GateVerdict} (h_s : Kept A s0 s) (hA : 288230444873288248 ||| A = A) :
    Kept A s0 (gateVerdict s g c t v) := by
  unfold gateVerdict
  extract_lets -merge -useContext -underBinder x1 x2 x3 x4
  have h2 : Kept A s0 x2 := by
    unfold x2
    refine kept_updGate ?_ (mask_sub (by decide) hA)
    · exact h_s
  have h4 : Kept A s0 x4 := by
    unfold x4
    split
    · refine kept_updGate ?_ (mask_sub (by decide) hA)
      · exact h2
    · refine kept_updGate ?_ (mask_sub (by decide) hA)
      · refine kept_gateDiscard ?_ (mask_sub (by decide) hA)
        · exact h2
    · refine kept_gateWithhold ?_ (mask_sub (by decide) hA)
      · exact h2
  clear_value x2 x4
  refine kept_gateSettle ?_ (mask_sub (by decide) hA)
  · exact h4
theorem kept_execGateVerdict {A : Nat} {s0 : State} {g : Sys2Proof.GateId} {ctx : Sys2Proof.Ctx} {step : Sys2Proof.Step} {v : Sys2Proof.GateVerdict} {s : Sys2Proof.Machine.State} (h_s : Kept A s0 s) (hA : 288230444873288248 ||| A = A) :
    KeptO A s0 (execGateVerdict g ctx step v s) := by
  unfold execGateVerdict
  refine KeptO.next ?_
  refine kept_gateVerdict ?_ (mask_sub (by decide) hA)
  · exact h_s
theorem kept_gateWithholdAll {A : Nat} {s0 : State} {s : Sys2Proof.Machine.State} {g : Nat} {reason : Nat} {f : Sys2Proof.HeldBlock → Bool} (h_s : Kept A s0 s) (hA : 288230444873288248 ||| A = A) :
    Kept A s0 (State.gateWithholdAll s g reason f) := by
  unfold State.gateWithholdAll
  extract_lets -merge -useContext -underBinder x1
  refine kept_gateSettle ?_ (mask_sub (by decide) hA)
  · refine kept_each ?_ (fun _ _ h2 => ?_)
    · exact h_s
    · refine kept_gateWithhold ?_ (mask_sub (by decide) hA)
      · exact h2
theorem kept_regate {A : Nat} {s0 : State} {s : Sys2Proof.Machine.State} {c : Nat} (h_s : Kept A s0 s) (hA : 288230444873288248 ||| A = A) :
    Kept A s0 (State.regate s c) := by
  unfold State.regate
  refine kept_each ?_ (fun _ _ h1 => ?_)
  · exact h_s
  · refine kept_regateAt ?_ (mask_sub (by decide) hA)
    · exact h1
theorem kept_markRedo {A : Nat} {s0 : State} {s : Sys2Proof.Machine.State} {r : Nat} {c : Nat} {t : Nat} (h_s : Kept A s0 s) (hA : 2097152 ||| A = A) :
    Kept A s0 (State.markRedo s r c t) := by
  unfold State.markRedo
  refine kept_each ?_ (fun _ _ h1 => ?_)
  · exact h_s
  · refine kept_updGate ?_ (mask_sub (by decide) hA)
    · exact h1
theorem kept_verdictTo {A : Nat} {s0 : State} {s : Sys2Proof.Machine.State} {r : Nat} {c : Nat} {t : Nat} {v : Sys2Proof.GateVerdict} (h_s : Kept A s0 s) (hA : 288230444873288248 ||| A = A) :
    Kept A s0 (State.verdictTo s r c t v) := by
  unfold State.verdictTo
  refine kept_each ?_ (fun _ _ h1 => ?_)
  · exact h_s
  · refine kept_gateVerdict ?_ (mask_sub (by decide) hA)
    · exact h1
theorem kept_closeGates {A : Nat} {s0 : State} {s : Sys2Proof.Machine.State} {r : Nat} {reason : Nat} (h_s : Kept A s0 s) (hA : 288230444873288248 ||| A = A) :
    Kept A s0 (State.closeGates s r reason) := by
  unfold State.closeGates
  refine kept_each ?_ (fun _ _ h1 => ?_)
  · exact h_s
  · refine kept_gateWithholdAll ?_ (mask_sub (by decide) hA)
    · exact h1
theorem kept_execGateBackstop {A : Nat} {s0 : State} {g : Sys2Proof.GateId} {s : Sys2Proof.Machine.State} (h_s : Kept A s0 s) (hA : 288230444873288248 ||| A = A) :
    KeptO A s0 (execGateBackstop g s) := by
  unfold execGateBackstop
  refine KeptO.next ?_
  refine Kept.ite ?_ ?_
  · exact h_s
  · refine kept_gateBackstop ?_ (mask_sub (by decide) hA)
    · exact h_s
theorem kept_mapChanged {A : Nat} {s0 : State} {s : Sys2Proof.Machine.State} (h_s : Kept A s0 s) (hA : 295147905179352826424 ||| A = A) :
    Kept A s0 (State.mapChanged s) := by
  unfold State.mapChanged
  extract_lets -merge -useContext -underBinder x1 x2 x3 x4
  have h3 : Kept A s0 x3 := by
    unfold x3
    refine Kept.u_prv ?_ (mask_sub (by decide) hA)
    exact h_s
  have h4 : Kept A s0 x4 := by
    unfold x4
    refine kept_count ?_ (mask_sub (by decide) hA)
    · exact h3
  clear_value x3 x4
  refine Kept.ite ?_ ?_
  · exact h_s
  · refine kept_raise ?_ (mask_sub (by decide) hA)
    · exact h4
theorem kept_setUnit {A : Nat} {s0 : State} {s : Sys2Proof.Machine.State} {p : Nat} {f : Sys2Proof.UnitSt → Sys2Proof.UnitSt} (h_s : Kept A s0 s) (hA : 295147905179352826680 ||| A = A) :
    Kept A s0 (State.setUnit s p f) := by
  unfold State.setUnit
  extract_lets -merge -useContext -underBinder x1 x2 x3
  have h2 : Kept A s0 x2 := by
    unfold x2
    refine kept_updUnit ?_ (mask_sub (by decide) hA)
    · exact h_s
  clear_value x2
  refine Kept.ite ?_ ?_
  · exact h2
  · refine kept_mapChanged ?_ (mask_sub (by decide) hA)
    · exact h2
theorem kept_stpDiscard {A : Nat} {s0 : State} {s : Sys2Proof.Machine.State} {p : Nat} (h_s : Kept A s0 s) (hA : 2361183241434822606848 ||| A = A) :
    Kept A s0 (State.stpDiscard s p) := by
  unfold State.stpDiscard
  refine kept_updStpOf ?_ (mask_sub (by decide) hA)
  · exact h_s
theorem kept_unadopt {A : Nat} {s0 : State} {s : Sys2Proof.Machine.State} {k : Nat} (h_s : Kept A s0 s) (hA : 1073743384 ||| A = A) :
    Kept A s0 (State.unadopt s k) := by
  unfold State.unadopt
  split
  · exact h_s
  · extract_lets -merge -useContext -underBinder x1
    have h1 : Kept A s0 x1 := by
      unfold x1
      refine kept_updAdjOf ?_ (mask_sub (by decide) hA)
      · refine kept_updAdjOf ?_ (mask_sub (by decide) hA)
        · exact h_s
    clear_value x1
    refine kept_raiseOnce ?_ (mask_sub (by decide) hA)
    · exact h1
theorem kept_loopsOut {A : Nat} {s0 : State} {s : Sys2Proof.Machine.State} {n : Nat} (h_s : Kept A s0 s) (hA : 4194304 ||| A = A) :
    Kept A s0 (State.loopsOut s n) := by
  unfold State.loopsOut
  refine kept_updDoor ?_ (mask_sub (by decide) hA)
  · exact h_s
theorem kept_unlend {A : Nat} {s0 : State} {s : Sys2Proof.Machine.State} {k : Nat} (h_s : Kept A s0 s) (hA : 268435456 ||| A = A) :
    Kept A s0 (State.unlend s k) := by
  unfold State.unlend
  refine kept_each ?_ (fun _ _ h1 => ?_)
  · exact h_s
  · refine kept_updCore ?_ (mask_sub (by decide) hA)
    · exact h1
theorem kept_stpRelease {A : Nat} {s0 : State} {s : Sys2Proof.Machine.State} {x : Sys2Proof.StpRun} (h_s : Kept A s0 s) (hA : 805308416 ||| A = A) :
    Kept A s0 (State.stpRelease s x) := by
  unfold State.stpRelease
  extract_lets -merge -useContext -underBinder x1 x2 x3 x4 x5
  have h5 : Kept A s0 x5 := by
    unfold x5
    refine Kept.ite ?_ ?_
    · refine kept_emit ?_ (mask_sub (by decide) hA)
      · exact h_s
    · exact h_s
  clear_value x5
  refine Kept.ite ?_ ?_
  · exact h_s
  · split
    · refine Kept.ite ?_ ?_
      · refine kept_updCore ?_ (mask_sub (by decide) hA)
        · exact h5
      · refine kept_updPort ?_ (mask_sub (by decide) hA)
        · refine kept_updCore ?_ (mask_sub (by decide) hA)
          · exact h5
    · refine kept_updCore ?_ (mask_sub (by decide) hA)
      · exact h5
theorem kept_stpEnd {A : Nat} {s0 : State} {s : Sys2Proof.Machine.State} {e : Nat} (h_s : Kept A s0 s) (hA : 5017514388050881285944 ||| A = A) :
    Kept A s0 (State.stpEnd s e) := by
  unfold State.stpEnd
  split
  · exact h_s
  · extract_lets -merge -useContext -underBinder x1 x2 x3 x4
    have h1 : Kept A s0 x1 := by
      unfold x1
      refine kept_setUnit ?_ (mask_sub (by decide) hA)
      · refine kept_updEng ?_ (mask_sub (by decide) hA)
        · exact h_s
    have h2 : Kept A s0 x2 := by
      unfold x2
      refine Kept.ite ?_ ?_
      · refine kept_unadopt ?_ (mask_sub (by decide) hA)
        · exact h1
      · exact h1
    have h3 : Kept A s0 x3 := by
      unfold x3
      refine Kept.ite ?_ ?_
      · refine kept_loopsOut ?_ (mask_sub (by decide) hA)
        · exact h2
      · exact h2
    have h4 : Kept A s0 x4 := by
      unfold x4
      refine Kept.ite ?_ ?_
      · refine kept_unlend ?_ (mask_sub (by decide) hA)
        · exact h3
      · exact h3
    clear_value x1 x2 x3 x4
    refine kept_stpRelease ?_ (mask_sub (by decide) hA)
    · exact h4
theorem kept_stpAbandon {A : Nat} {s0 : State} {s : Sys2Proof.Machine.State} {e : Nat} {reason : Nat} (h_s : Kept A s0 s) (hA : 7378697629485703892792 ||| A = A) :
    Kept A s0 (State.stpAbandon s e reason) := by
  unfold State.stpAbandon
  split
  · exact h_s
  · extract_lets -merge -useContext -underBinder x1 x2 x3
    have h1 : Kept A s0 x1 := by
      unfold x1
      refine kept_raiseOnce ?_ (mask_sub (by decide) hA)
      · exact h_s
    have h2 : Kept A s0 x2 := by
      unfold x2
      refine Kept.ite ?_ ?_
      · refine kept_stpDiscard ?_ (mask_sub (by decide) hA)
        · exact h1
      · exact h1
    have h3 : Kept A s0 x3 := by
      unfold x3
      refine kept_updStpOf ?_ (mask_sub (by decide) hA)
      · refine kept_stpEnd ?_ (mask_sub (by decide) hA)
        · exact h2
    clear_value x1 x2 x3
    split
    · refine kept_updPort ?_ (mask_sub (by decide) hA)
      · exact h3
    · exact h3
theorem kept_stpLet {A : Nat} {s0 : State} {s : Sys2Proof.Machine.State} {p : Nat} (h_s : Kept A s0 s) (hA : 2656331146614712304440 ||| A = A) :
    Kept A s0 (State.stpLet s p) := by
  unfold State.stpLet
  extract_lets -merge -useContext -underBinder x1
  have h1 : Kept A s0 x1 := by
    unfold x1
    split
    · refine kept_updPort ?_ (mask_sub (by decide) hA)
      · exact h_s
    · exact h_s
  clear_value x1
  refine kept_setUnit ?_ (mask_sub (by decide) hA)
  · refine kept_updStpOf ?_ (mask_sub (by decide) hA)
    · refine kept_stpDiscard ?_ (mask_sub (by decide) hA)
      · exact h1
theorem kept_stpAbandonRegion {A : Nat} {s0 : State} {s : Sys2Proof.Machine.State} {r : Nat} {reason : Nat} (h_s : Kept A s0 s) (hA : 7378697629485703892792 ||| A = A) :
    Kept A s0 (State.stpAbandonRegion s r reason) := by
  unfold State.stpAbandonRegion
  extract_lets -merge -useContext -underBinder x1
  have h1 : Kept A s0 x1 := by
    unfold x1
    refine kept_each ?_ (fun _ _ h3 => ?_)
    · exact h_s
    · refine kept_stpAbandon ?_ (mask_sub (by decide) hA)
      · exact h3
  clear_value x1
  refine Kept.ite ?_ ?_
  · exact h1
  · refine kept_each ?_ (fun _ _ h2 => ?_)
    · exact h1
    · refine kept_stpLet ?_ (mask_sub (by decide) hA)
      · exact h2
theorem kept_stpHold {A : Nat} {s0 : State} {s : Sys2Proof.Machine.State} {e : Nat} (h_s : Kept A s0 s) (hA : 7083549724304740452352 ||| A = A) :
    Kept A s0 (State.stpHold s e) := by
  unfold State.stpHold
  split
  · exact h_s
  · extract_lets -merge -useContext -underBinder x1 x2 x3
    have h3 : Kept A s0 x3 := by
      unfold x3
      refine kept_updEng ?_ (mask_sub (by decide) hA)
      · exact h_s
    clear_value x3
    refine Kept.ite ?_ ?_
    · refine kept_loopsOut ?_ (mask_sub (by decide) hA)
      · exact h3
    · refine Kept.ite ?_ ?_
      · exact h3
      · refine kept_updStpOf ?_ (mask_sub (by decide) hA)
        · refine kept_updCore ?_ (mask_sub (by decide) hA)
          · refine kept_unlend ?_ (mask_sub (by decide) hA)
            · refine kept_emit ?_ (mask_sub (by decide) hA)
              · exact h3
theorem kept_stpFenced {A : Nat} {s0 : State} {s : Sys2Proof.Machine.State} {p : Nat} (h_s : Kept A s0 s) (hA : 5017514388050881285944 ||| A = A) :
    Kept A s0 (State.stpFenced s p) := by
  unfold State.stpFenced
  split
  · refine kept_stpEnd ?_ (mask_sub (by decide) hA)
    · exact h_s
  · exact h_s
theorem kept_loadCopy {A : Nat} {s0 : State} {s : Sys2Proof.Machine.State} {done : Bool} {i : Nat} {slot : Nat} (h_s : Kept A s0 s) (hA : 4398047836160 ||| A = A) :
    Kept A s0 (State.loadCopy s done i slot) := by
  unfold State.loadCopy
  extract_lets -merge -useContext -underBinder x1 x2
  refine Kept.ite ?_ ?_
  · exact h_s
  · refine kept_bulkPacket ?_ (mask_sub (by decide) hA)
    · exact h_s
theorem kept_updProc {A : Nat} {s0 : State} {s : Sys2Proof.Machine.State} {i : Nat} {f : Sys2Proof.ProcSt → Sys2Proof.ProcSt} (h_s : Kept A s0 s) (hA : 151115727451828646838272 ||| A = A) :
    Kept A s0 (State.updProc s i f) := by
  unfold State.updProc
  extract_lets -merge -useContext -underBinder x1
  refine Kept.u_fw ?_ (mask_sub (by decide) hA)
  exact h_s
theorem kept_loadBegin {A : Nat} {s0 : State} {s : Sys2Proof.Machine.State} {i : Nat} {slot : Nat} {cause : Nat} (h_s : Kept A s0 s) (hA : 151115727456226694674432 ||| A = A) :
    Kept A s0 (State.loadBegin s i slot cause) := by
  unfold State.loadBegin
  refine kept_loadCopy ?_ (mask_sub (by decide) hA)
  · refine kept_updProc ?_ (mask_sub (by decide) hA)
    · exact h_s
theorem kept_clearTrips {A : Nat} {s0 : State} {s : Sys2Proof.Machine.State} {r : Nat} (h_s : Kept A s0 s) (hA : 604462909807314587353088 ||| A = A) :
    Kept A s0 (State.clearTrips s r) := by
  unfold State.clearTrips
  refine kept_updThmOf ?_ (mask_sub (by decide) hA)
  · exact h_s
theorem kept_procsGo {A : Nat} {s0 : State} {s : Sys2Proof.Machine.State} (h_s : Kept A s0 s) (hA : 151115727456226694674432 ||| A = A) :
    Kept A s0 (State.procsGo s) := by
  unfold State.procsGo
  extract_lets -merge -useContext -underBinder x1
  refine kept_each ?_ (fun _ _ h2 => ?_)
  · exact h_s
  · refine kept_loadBegin ?_ (mask_sub (by decide) hA)
    · exact h2
theorem kept_showHold {A : Nat} {s0 : State} {s : Sys2Proof.Machine.State} (h_s : Kept A s0 s) (hA : 151115727456226694674440 ||| A = A) :
    Kept A s0 (State.showHold s) := by
  unfold State.showHold
  extract_lets -merge -useContext -underBinder x1 x2
  have h2 : Kept A s0 x2 := by
    unfold x2
    refine kept_procsGo ?_ (mask_sub (by decide) hA)
    · exact h_s
  clear_value x2
  refine kept_flag ?_ (mask_sub (by decide) hA)
  · refine kept_flag ?_ (mask_sub (by decide) hA)
    · refine kept_flag ?_ (mask_sub (by decide) hA)
      · exact h2
theorem kept_emergencyEnd {A : Nat} {s0 : State} {s : Sys2Proof.Machine.State} (h_s : Kept A s0 s) (hA : 1964504456878170456734232 ||| A = A) :
    Kept A s0 (emergencyEnd s) := by
  unfold emergencyEnd
  extract_lets -merge -useContext -underBinder x1 x2 x3 x4 x5
  have h1 : Kept A s0 x1 := by
    unfold x1
    refine kept_each ?_ (fun _ _ h6 => ?_)
    · exact h_s
    · refine Kept.ite ?_ ?_
      · exact h6
      · refine kept_clearTrips ?_ (mask_sub (by decide) hA)
        · exact h6
  have h4 : Kept A s0 x4 := by
    unfold x4
    refine kept_flag ?_ (mask_sub (by decide) hA)
    · exact h1
  have h5 : Kept A s0 x5 := by
    unfold x5
    refine Kept.u_emerg ?_ (mask_sub (by decide) hA)
    exact h4
  clear_value x1 x4 x5
  refine Kept.ite ?_ ?_
  · exact h1
  · refine kept_showHold ?_ (mask_sub (by decide) hA)
    · refine kept_raise ?_ (mask_sub (by decide) hA)
      · exact h5
theorem kept_fwHold {A : Nat} {s0 : State} {s : Sys2Proof.Machine.State} (h_s : Kept A s0 s) (hA : 1360041547070855869381144 ||| A = A) :
    Kept A s0 (State.fwHold s) := by
  unfold State.fwHold
  split
  · exact h_s
  · extract_lets -merge -useContext -underBinder x1 x2 x3 x4 x5 x6
    have h1 : Kept A s0 x1 := by
      unfold x1
      refine kept_showHold ?_ (mask_sub (by decide) hA)
      · exact h_s
    have h3 : Kept A s0 x3 := by
      unfold x3
      refine kept_each ?_ (fun _ _ h7 => ?_)
      · exact h1
      · refine kept_updProc ?_ (mask_sub (by decide) hA)
        · exact h7
    have h6 : Kept A s0 x6 := by
      unfold x6
      refine Kept.u_fw_emerg ?_ (mask_sub (by decide) hA)
      exact h3
    clear_value x1 x3 x6
    refine Kept.ite ?_ ?_
    · exact h1
    · refine kept_raise ?_ (mask_sub (by decide) hA)
      · refine kept_wr ?_ (mask_sub (by decide) hA)
        · exact h6
theorem kept_emergCheck {A : Nat} {s0 : State} {s : Sys2Proof.Machine.State} (h_s : Kept A s0 s) (hA : 1360041547070855869381144 ||| A = A) :
    Kept A s0 (State.emergCheck s) := by
  unfold State.emergCheck
  extract_lets -merge -useContext -underBinder x1 x2 x3 x4 x5
  have h2 : Kept A s0 x2 := by
    unfold x2
    refine kept_flag ?_ (mask_sub (by decide) hA)
    · refine kept_flag ?_ (mask_sub (by decide) hA)
      · refine kept_flag ?_ (mask_sub (by decide) hA)
        · exact h_s
  have h4 : Kept A s0 x4 := by
    unfold x4
    refine kept_flag ?_ (mask_sub (by decide) hA)
    · exact h2
  have h5 : Kept A s0 x5 := by
    unfold x5
    refine Kept.u_emerg ?_ (mask_sub (by decide) hA)
    exact h4
  clear_value x2 x4 x5
  refine Kept.ite ?_ ?_
  · exact h2
  · refine kept_fwHold ?_ (mask_sub (by decide) hA)
    · refine kept_raise ?_ (mask_sub (by decide) hA)
      · exact h5
end Sys2Proof.Machine
end

