-- ==== Sys2Proof/Laws/Kept1.lean ====
section
/-! SUPPORT. What every operation on the state keeps, part 2: callees come before their callers. -/
namespace Sys2Proof.Machine
open Sys2Proof Host
theorem kept_execEmergencyEnd {A : Nat} {s0 : State} {s : Sys2Proof.Machine.State} (h_s : Kept A s0 s) (hA : 1964504456878170456734232 ||| A = A) :
    KeptO A s0 (execEmergencyEnd s) := by
  unfold execEmergencyEnd
  refine KeptO.next ?_
  refine kept_emergencyEnd ?_ (mask_sub (by decide) hA)
  · exact h_s
theorem kept_updSet {A : Nat} {s0 : State} {s : Sys2Proof.Machine.State} {k : Nat} {f : Sys2Proof.ReplaySet → Sys2Proof.ReplaySet} (h_s : Kept A s0 s) (hA : 17179869184 ||| A = A) :
    Kept A s0 (State.updSet s k f) := by
  unfold State.updSet
  refine kept_updReplayOf ?_ (mask_sub (by decide) hA)
  · exact h_s
theorem kept_dropGated {A : Nat} {s0 : State} {s : Sys2Proof.Machine.State} {k : Nat} {c : Nat} (h_s : Kept A s0 s) (hA : 3221227520 ||| A = A) :
    Kept A s0 (State.dropGated s k c) := by
  unfold State.dropGated
  split
  · refine kept_rptDrop ?_ (mask_sub (by decide) hA)
    · exact h_s
  · exact h_s
theorem kept_showDrain {A : Nat} {s0 : State} {s : Sys2Proof.Machine.State} {k : Nat} (h_s : Kept A s0 s) (hA : 536870912 ||| A = A) :
    Kept A s0 (State.showDrain s k) := by
  unfold State.showDrain
  refine kept_updPort ?_ (mask_sub (by decide) hA)
  · exact h_s
theorem kept_coreReset {A : Nat} {s0 : State} {s : Sys2Proof.Machine.State} {k : Nat} {p : Nat} {cause : Nat} (h_s : Kept A s0 s) (hA : 1360041565094051277192760 ||| A = A) :
    Kept A s0 (State.coreReset s k p cause) := by
  unfold State.coreReset
  extract_lets -merge -useContext -underBinder x1 x2
  have h1 : Kept A s0 x1 := by
    unfold x1
    refine kept_hallAct ?_ (mask_sub (by decide) hA)
    · refine kept_updCore ?_ (mask_sub (by decide) hA)
      · exact h_s
  have h2 : Kept A s0 x2 := by
    unfold x2
    refine kept_trace ?_ (mask_sub (by decide) hA)
    · exact h1
  clear_value x1 x2
  refine Kept.ite ?_ ?_
  · exact h_s
  · refine kept_fwHold ?_ (mask_sub (by decide) hA)
    · refine kept_showDrain ?_ (mask_sub (by decide) hA)
      · refine Kept.u_resets ?_ (mask_sub (by decide) hA)
        exact h2
theorem kept_leaveSets {A : Nat} {s0 : State} {s : Sys2Proof.Machine.State} {c : Nat} (h_s : Kept A s0 s) (hA : 17179869184 ||| A = A) :
    Kept A s0 (State.leaveSets s c) := by
  unfold State.leaveSets
  refine Kept.u_replays ?_ (mask_sub (by decide) hA)
  exact h_s
theorem kept_retire {A : Nat} {s0 : State} {s : Sys2Proof.Machine.State} {c : Nat} (h_s : Kept A s0 s) (hA : 288230445410159160 ||| A = A) :
    Kept A s0 (State.retire s c) := by
  unfold State.retire
  extract_lets -merge -useContext -underBinder x1 x2
  have h1 : Kept A s0 x1 := by
    unfold x1
    refine kept_updCtx ?_ (mask_sub (by decide) hA)
    · exact h_s
  have h2 : Kept A s0 x2 := by
    unfold x2
    refine kept_each ?_ (fun _ _ h3 => ?_)
    · exact h1
    · refine Kept.ite ?_ ?_
      · exact h3
      · refine kept_updPort ?_ (mask_sub (by decide) hA)
        · exact h3
  clear_value x1 x2
  refine Kept.ite ?_ ?_
  · exact h_s
  · refine kept_regate ?_ (mask_sub (by decide) hA)
    · refine kept_raise ?_ (mask_sub (by decide) hA)
      · refine kept_bump ?_ (mask_sub (by decide) hA)
        · exact h2
theorem kept_killCtx {A : Nat} {s0 : State} {s : Sys2Proof.Machine.State} {c : Nat} {cause : Nat} {step : Nat} {cluster : Nat} {mode : Nat} {reason : Nat} (h_s : Kept A s0 s) (hA : 1360189427277106227985976 ||| A = A) :
    Kept A s0 (State.killCtx s c cause step cluster mode reason) := by
  unfold State.killCtx
  extract_lets -merge -useContext -underBinder x1 x2 x3 x4 x5 x6 x7
  have h1 : Kept A s0 x1 := by
    unfold x1
    refine kept_updCtx ?_ (mask_sub (by decide) hA)
    · exact h_s
  have h3 : Kept A s0 x3 := by
    unfold x3
    refine kept_each ?_ (fun _ _ h11 => ?_)
    · exact h1
    · refine kept_updPort ?_ (mask_sub (by decide) hA)
      · exact h11
  have h4 : Kept A s0 x4 := by
    unfold x4
    refine kept_each ?_ (fun _ _ h10 => ?_)
    · exact h3
    · refine kept_dropGated ?_ (mask_sub (by decide) hA)
      · exact h10
  have h5 : Kept A s0 x5 := by
    unfold x5
    refine kept_each ?_ (fun _ _ h8 => ?_)
    · exact h4
    · refine kept_each ?_ (fun _ _ h9 => ?_)
      · exact h8
      · refine kept_coreReset ?_ (mask_sub (by decide) hA)
        · exact h9
  have h6 : Kept A s0 x6 := by
    unfold x6
    refine kept_hallAct ?_ (mask_sub (by decide) hA)
    · refine kept_notifyKill ?_ (mask_sub (by decide) hA)
      · refine kept_regate ?_ (mask_sub (by decide) hA)
        · exact h5
  have h7 : Kept A s0 x7 := by
    unfold x7
    refine kept_leaveSets ?_ (mask_sub (by decide) hA)
    · exact h6
  clear_value x1 x3 x4 x5 x6 x7
  refine Kept.ite ?_ ?_
  · refine Kept.u_idleKills ?_ (mask_sub (by decide) hA)
    exact h_s
  · refine Kept.ite ?_ ?_
    · exact h7
    · refine kept_retire ?_ (mask_sub (by decide) hA)
      · exact h7
theorem kept_killUnreplayed {A : Nat} {s0 : State} {s : Sys2Proof.Machine.State} {k : Nat} {c : Nat} {reason : Nat} (h_s : Kept A s0 s) (hA : 1360189427277106227985976 ||| A = A) :
    Kept A s0 (State.killUnreplayed s k c reason) := by
  unfold State.killUnreplayed
  extract_lets -merge -useContext -underBinder x1 x2
  have h2 : Kept A s0 x2 := by
    unfold x2
    refine kept_updSet ?_ (mask_sub (by decide) hA)
    · exact h_s
  clear_value x2
  refine kept_raise ?_ (mask_sub (by decide) hA)
  · refine kept_killCtx ?_ (mask_sub (by decide) hA)
    · exact h2
theorem kept_escalated {A : Nat} {s0 : State} {s : Sys2Proof.Machine.State} {p : Nat} {from_ : Nat} {to_ : Nat} {start : Nat} (h_s : Kept A s0 s) (hA : 536 ||| A = A) :
    Kept A s0 (State.escalated s p from_ to_ start) := by
  unfold State.escalated
  refine kept_raise ?_ (mask_sub (by decide) hA)
  · refine kept_wr ?_ (mask_sub (by decide) hA)
    · exact h_s
theorem kept_notifyHang {A : Nat} {s0 : State} {s : Sys2Proof.Machine.State} {k : Nat} {x : Sys2Proof.ReplaySet} (h_s : Kept A s0 s) (hA : 288230376151712280 ||| A = A) :
    Kept A s0 (State.notifyHang s k x) := by
  unfold State.notifyHang
  refine kept_notifyList ?_ (mask_sub (by decide) hA)
  · exact h_s
theorem kept_endSet {A : Nat} {s0 : State} {s : Sys2Proof.Machine.State} {k : Nat} {x : Sys2Proof.ReplaySet} (h_s : Kept A s0 s) (hA : 17716740664 ||| A = A) :
    Kept A s0 (State.endSet s k x) := by
  unfold State.endSet
  extract_lets -merge -useContext -underBinder x1 x2
  have h1 : Kept A s0 x1 := by
    unfold x1
    refine kept_updPort ?_ (mask_sub (by decide) hA)
    · refine kept_updReplayOf ?_ (mask_sub (by decide) hA)
      · exact h_s
  clear_value x1
  refine Kept.ite ?_ ?_
  · refine kept_raiseHist ?_ (mask_sub (by decide) hA)
    · refine kept_count ?_ (mask_sub (by decide) hA)
      · exact h1
  · exact h1
theorem kept_replayGo {A : Nat} {s0 : State} {s : Sys2Proof.Machine.State} {k : Nat} (h_s : Kept A s0 s) (hA : 1360189427277106227985976 ||| A = A) :
    Kept A s0 (State.replayGo s k) := by
  unfold State.replayGo
  split
  · exact h_s
  · extract_lets -merge -useContext -underBinder x1 x2
    have h1 : Kept A s0 x1 := by
      unfold x1
      refine Kept.ite ?_ ?_
      · exact h_s
      · refine kept_updSet ?_ (mask_sub (by decide) hA)
        · refine kept_notifyHang ?_ (mask_sub (by decide) hA)
          · exact h_s
    have h2 : Kept A s0 x2 := by
      unfold x2
      refine Kept.ite ?_ ?_
      · refine kept_each ?_ (fun _ _ h5 => ?_)
        · exact h1
        · refine kept_killUnreplayed ?_ (mask_sub (by decide) hA)
          · exact h5
      · exact h1
    clear_value x1 x2
    refine Kept.ite ?_ ?_
    · exact h_s
    · split
      · exact h2
      · split
        · refine kept_endSet ?_ (mask_sub (by decide) hA)
          · exact h2
        · extract_lets -merge -useContext -underBinder x3 x4
          have h4 : Kept A s0 x4 := by
            unfold x4
            refine kept_updSet ?_ (mask_sub (by decide) hA)
            · exact h2
          clear_value x4
          refine kept_notify ?_ (mask_sub (by decide) hA)
          · refine kept_updPort ?_ (mask_sub (by decide) hA)
            · exact h4
theorem kept_replaysGo {A : Nat} {s0 : State} {s : Sys2Proof.Machine.State} (h_s : Kept A s0 s) (hA : 1360189427277106227985976 ||| A = A) :
    Kept A s0 (State.replaysGo s) := by
  unfold State.replaysGo
  refine kept_each ?_ (fun _ _ h1 => ?_)
  · exact h_s
  · refine kept_replayGo ?_ (mask_sub (by decide) hA)
    · exact h1
theorem kept_openSet {A : Nat} {s0 : State} {s : Sys2Proof.Machine.State} {k : Nat} {core : Nat} {cmd : Nat} {ctx : Nat} {step : Nat} {suspects : List Nat} (h_s : Kept A s0 s) (hA : 4450122990104 ||| A = A) :
    Kept A s0 (State.openSet s k core cmd ctx step suspects) := by
  unfold State.openSet
  extract_lets -merge -useContext -underBinder x1 x2 x3 x4 x5
  have h3 : Kept A s0 x3 := by
    unfold x3
    refine kept_updReplayOf ?_ (mask_sub (by decide) hA)
    · exact h_s
  have h4 : Kept A s0 x4 := by
    unfold x4
    refine kept_hallAct ?_ (mask_sub (by decide) hA)
    · refine kept_updPort ?_ (mask_sub (by decide) hA)
      · exact h3
  have h5 : Kept A s0 x5 := by
    unfold x5
    refine kept_updSetsOf ?_ (mask_sub (by decide) hA)
    · exact h4
  clear_value x3 x4 x5
  refine kept_raise ?_ (mask_sub (by decide) hA)
  · refine kept_wr ?_ (mask_sub (by decide) hA)
    · exact h5
theorem kept_addSuspects {A : Nat} {s0 : State} {s : Sys2Proof.Machine.State} {k : Nat} {cs : List Nat} (h_s : Kept A s0 s) (hA : 4450122990104 ||| A = A) :
    Kept A s0 (State.addSuspects s k cs) := by
  unfold State.addSuspects
  extract_lets -merge -useContext -underBinder x1
  refine Kept.ite ?_ ?_
  · exact h_s
  · split
    · refine kept_updSet ?_ (mask_sub (by decide) hA)
      · exact h_s
    · refine kept_openSet ?_ (mask_sub (by decide) hA)
      · exact h_s
theorem kept_coreResetDone {A : Nat} {s0 : State} {s : Sys2Proof.Machine.State} {k : Nat} {p : Nat} (h_s : Kept A s0 s) (hA : 1362550610518541050592824 ||| A = A) :
    Kept A s0 (State.coreResetDone s k p) := by
  unfold State.coreResetDone
  extract_lets -merge -useContext -underBinder x1 x2 x3
  have h1 : Kept A s0 x1 := by
    unfold x1
    refine Kept.u_resets ?_ (mask_sub (by decide) hA)
    exact h_s
  have h2 : Kept A s0 x2 := by
    unfold x2
    refine kept_stpDiscard ?_ (mask_sub (by decide) hA)
    · refine kept_updCore ?_ (mask_sub (by decide) hA)
      · exact h1
  have h3 : Kept A s0 x3 := by
    unfold x3
    refine kept_trace ?_ (mask_sub (by decide) hA)
    · refine kept_count ?_ (mask_sub (by decide) hA)
      · refine kept_count ?_ (mask_sub (by decide) hA)
        · exact h2
  clear_value x1 x2 x3
  refine kept_showHold ?_ (mask_sub (by decide) hA)
  · refine kept_replayGo ?_ (mask_sub (by decide) hA)
    · refine kept_showDrain ?_ (mask_sub (by decide) hA)
      · exact h3
theorem kept_loseCommand {A : Nat} {s0 : State} {s : Sys2Proof.Machine.State} {k : Nat} {p : Nat} (h_s : Kept A s0 s) (hA : 6845104184 ||| A = A) :
    Kept A s0 (State.loseCommand s k p) := by
  unfold State.loseCommand
  split
  · refine kept_tapCoreReset ?_ (mask_sub (by decide) hA)
    · exact h_s
  · extract_lets -merge -useContext -underBinder x1
    have h1 : Kept A s0 x1 := by
      unfold x1
      refine kept_updCore ?_ (mask_sub (by decide) hA)
      · refine kept_tapCoreReset ?_ (mask_sub (by decide) hA)
        · exact h_s
    clear_value x1
    refine Kept.ite ?_ ?_
    · exact h1
    · refine kept_dropCmds ?_ (mask_sub (by decide) hA)
      · exact h1
theorem kept_engineDrained {A : Nat} {s0 : State} {s : Sys2Proof.Machine.State} {k : Nat} (h_s : Kept A s0 s) (hA : 18023211648159288 ||| A = A) :
    Kept A s0 (State.engineDrained s k) := by
  unfold State.engineDrained
  extract_lets -merge -useContext -underBinder x1 x2 x3
  have h1 : Kept A s0 x1 := by
    unfold x1
    refine Kept.u_resets ?_ (mask_sub (by decide) hA)
    exact h_s
  have h2 : Kept A s0 x2 := by
    unfold x2
    refine kept_endCases ?_ (mask_sub (by decide) hA)
    · exact h1
  have h3 : Kept A s0 x3 := by
    unfold x3
    refine kept_each ?_ (fun _ _ h4 => ?_)
    · exact h2
    · refine kept_loseCommand ?_ (mask_sub (by decide) hA)
      · exact h4
  clear_value x1 x2 x3
  refine Kept.ite ?_ ?_
  · exact h_s
  · refine kept_updPort ?_ (mask_sub (by decide) hA)
    · exact h3
theorem kept_engineReset {A : Nat} {s0 : State} {s : Sys2Proof.Machine.State} {k : Nat} {cause : Nat} (h_s : Kept A s0 s) (hA : 1360041565094102548364856 ||| A = A) :
    Kept A s0 (State.engineReset s k cause) := by
  unfold State.engineReset
  extract_lets -merge -useContext -underBinder x1 x2 x3 x4 x5
  have h2 : Kept A s0 x2 := by
    unfold x2
    refine kept_hallAct ?_ (mask_sub (by decide) hA)
    · exact h_s
  have h3 : Kept A s0 x3 := by
    unfold x3
    refine Kept.u_resets ?_ (mask_sub (by decide) hA)
    exact h2
  have h4 : Kept A s0 x4 := by
    unfold x4
    refine kept_addSuspects ?_ (mask_sub (by decide) hA)
    · exact h3
  have h5 : Kept A s0 x5 := by
    unfold x5
    refine kept_updSet ?_ (mask_sub (by decide) hA)
    · refine kept_updPort ?_ (mask_sub (by decide) hA)
      · exact h4
  clear_value x2 x3 x4 x5
  refine Kept.ite ?_ ?_
  · exact h_s
  · refine kept_fwHold ?_ (mask_sub (by decide) hA)
    · refine kept_trace ?_ (mask_sub (by decide) hA)
      · exact h5
theorem kept_coreDrained {A : Nat} {s0 : State} {s : Sys2Proof.Machine.State} {k : Nat} {p : Nat} (h_s : Kept A s0 s) (hA : 8803474997304 ||| A = A) :
    Kept A s0 (State.coreDrained s k p) := by
  unfold State.coreDrained
  extract_lets -merge -useContext -underBinder x1 x2
  have h1 : Kept A s0 x1 := by
    unfold x1
    refine kept_loseCommand ?_ (mask_sub (by decide) hA)
    · exact h_s
  have h2 : Kept A s0 x2 := by
    unfold x2
    refine Kept.u_resets ?_ (mask_sub (by decide) hA)
    exact h1
  clear_value x1 x2
  refine Kept.ite ?_ ?_
  · exact h_s
  · refine kept_showDrain ?_ (mask_sub (by decide) hA)
    · refine kept_updCore ?_ (mask_sub (by decide) hA)
      · exact h2
theorem kept_dcount {A : Nat} {s0 : State} {s : Sys2Proof.Machine.State} {n : Nat} {i : Nat} {k : Nat} (h_s : Kept A s0 s) (hA : 48 ||| A = A) :
    Kept A s0 (State.dcount s n i k) := by
  unfold State.dcount
  refine kept_count ?_ (mask_sub (by decide) hA)
  · exact h_s
theorem kept_unsync {A : Nat} {s0 : State} {s : Sys2Proof.Machine.State} {n : Nat} {st : Nat} (h_s : Kept A s0 s) (hA : 8388608 ||| A = A) :
    Kept A s0 (State.unsync s n st) := by
  unfold State.unsync
  refine kept_updStream ?_ (mask_sub (by decide) hA)
  · exact h_s
theorem kept_doorJudge {A : Nat} {s0 : State} {s : Sys2Proof.Machine.State} {n : Nat} {st : Nat} {limit : Nat} {bs : List Sys2Proof.Byte} (h_s : Kept A s0 s) (hA : 8390200 ||| A = A) :
    KeptL A s0 (State.doorJudge s n st limit bs) := by
  unfold State.doorJudge
  extract_lets -merge -useContext -underBinder x1 x2 x3 x4
  split
  · refine KeptL.mk ?_
    refine kept_raiseOnce ?_ (mask_sub (by decide) hA)
    · refine kept_unsync ?_ (mask_sub (by decide) hA)
      · refine kept_count ?_ (mask_sub (by decide) hA)
        · exact h_s
  · refine KeptL.mk ?_
    refine kept_raiseOnce ?_ (mask_sub (by decide) hA)
    · refine kept_unsync ?_ (mask_sub (by decide) hA)
      · refine kept_count ?_ (mask_sub (by decide) hA)
        · exact h_s
  · refine KeptL.mk ?_
    refine kept_raiseOnce ?_ (mask_sub (by decide) hA)
    · refine kept_unsync ?_ (mask_sub (by decide) hA)
      · refine kept_count ?_ (mask_sub (by decide) hA)
        · exact h_s
  · extract_lets -merge -useContext -underBinder x5
    have h5 : Kept A s0 x5 := by
      unfold x5
      refine kept_raiseOnce ?_ (mask_sub (by decide) hA)
      · refine kept_unsync ?_ (mask_sub (by decide) hA)
        · refine kept_count ?_ (mask_sub (by decide) hA)
          · exact h_s
    clear_value x5
    refine KeptL.ite ?_ ?_
    · refine KeptL.mk ?_
      exact h5
    · refine KeptL.mk ?_
      exact h5
  · extract_lets -merge -useContext -underBinder x6 x7 x8
    have h7 : Kept A s0 x7 := by
      unfold x7
      refine kept_updStream ?_ (mask_sub (by decide) hA)
      · exact h_s
    have h8 : ∀ y8_0, Kept A s0 y8_0 → Kept A s0 (x8 y8_0) := by
      intro y8_0 h8_0
      unfold x8
      extract_lets -merge -useContext -underBinder x9
      have h9 : Kept A s0 x9 := by
        unfold x9
        refine kept_count ?_ (mask_sub (by decide) hA)
        · exact h8_0
      clear_value x9
      refine Kept.ite ?_ ?_
      · refine kept_count ?_ (mask_sub (by decide) hA)
        · exact h9
      · exact h9
    clear_value x7 x8
    split
    · refine KeptL.mk ?_
      refine h8 _ ?_
      · exact h7
    · refine KeptL.mk ?_
      refine kept_raiseOnce ?_ (mask_sub (by decide) hA)
      · refine kept_count ?_ (mask_sub (by decide) hA)
        · exact h7
    · refine KeptL.mk ?_
      refine h8 _ ?_
      · refine kept_raiseOnce ?_ (mask_sub (by decide) hA)
        · refine kept_count ?_ (mask_sub (by decide) hA)
          · refine kept_count ?_ (mask_sub (by decide) hA)
            · exact h7
theorem kept_doorRetired {A : Nat} {s0 : State} {s : Sys2Proof.Machine.State} {n : Nat} {c : Nat} {path : Nat} {bytes : Nat} {absorbed : Nat} (h_s : Kept A s0 s) (hA : 68723672632 ||| A = A) :
    Kept A s0 (State.doorRetired s n c path bytes absorbed) := by
  unfold State.doorRetired
  extract_lets -merge -useContext -underBinder x1 x2 x3 x4
  have h1 : Kept A s0 x1 := by
    unfold x1
    refine kept_count ?_ (mask_sub (by decide) hA)
    · refine kept_count ?_ (mask_sub (by decide) hA)
      · refine kept_dcount ?_ (mask_sub (by decide) hA)
        · exact h_s
  have h2 : Kept A s0 x2 := by
    unfold x2
    refine kept_count ?_ (mask_sub (by decide) hA)
    · exact h1
  have h3 : Kept A s0 x3 := by
    unfold x3
    refine kept_updDoor ?_ (mask_sub (by decide) hA)
    · refine kept_updCtx ?_ (mask_sub (by decide) hA)
      · exact h2
  clear_value x1 x2 x3
  refine kept_raiseOnce ?_ (mask_sub (by decide) hA)
  · exact h3
theorem kept_rxAbsorb {A : Nat} {s0 : State} {s : Sys2Proof.Machine.State} {n : Nat} {k : Nat} (h_s : Kept A s0 s) (hA : 48 ||| A = A) :
    Kept A s0 (State.rxAbsorb s n k) := by
  unfold State.rxAbsorb
  refine kept_count ?_ (mask_sub (by decide) hA)
  · refine kept_dcount ?_ (mask_sub (by decide) hA)
    · exact h_s
theorem kept_doorForward {A : Nat} {s0 : State} {s : Sys2Proof.Machine.State} {n : Nat} {st : Nat} {bytes : List Sys2Proof.Byte} {bad : Bool} (h_s : Kept A s0 s) (hA : 2096 ||| A = A) :
    Kept A s0 (State.doorForward s n st bytes bad) := by
  unfold State.doorForward
  refine Kept.ite ?_ ?_
  · refine kept_dcount ?_ (mask_sub (by decide) hA)
    · exact h_s
  · refine kept_emit ?_ (mask_sub (by decide) hA)
    · refine kept_dcount ?_ (mask_sub (by decide) hA)
      · exact h_s
theorem kept_doorReceiveBlock {A : Nat} {s0 : State} {s : Sys2Proof.Machine.State} {n : Nat} {st : Nat} {limit : Nat} {bs : List Sys2Proof.Byte} (h_s : Kept A s0 s) (hA : 68732063288 ||| A = A) :
    Kept A s0 (doorReceiveBlock s n st limit bs) := by
  unfold doorReceiveBlock
  extract_lets -merge -useContext -underBinder x1 x2 x3 x4
  have h1 : Kept A s0 x1 := by
    unfold x1
    refine kept_count ?_ (mask_sub (by decide) hA)
    · refine kept_dcount ?_ (mask_sub (by decide) hA)
      · exact h_s
  have h2 : KeptL A s0 x2 := by
    unfold x2
    refine kept_doorJudge ?_ (mask_sub (by decide) hA)
    · exact h1
  have h4 : Kept A s0 x4 := by
    unfold x4
    refine kept_dcount ?_ (mask_sub (by decide) hA)
    · refine kept_rxAbsorb ?_ (mask_sub (by decide) hA)
      · refine KeptL.fst ?_
        exact h2
  clear_value x1 x2 x4
  refine Kept.ite ?_ ?_
  · exact h_s
  · refine Kept.ite ?_ ?_
    · refine kept_doorRetired ?_ (mask_sub (by decide) hA)
      · refine kept_dcount ?_ (mask_sub (by decide) hA)
        · refine kept_count ?_ (mask_sub (by decide) hA)
          · refine KeptL.fst ?_
            exact h2
    · split
      · refine kept_doorForward ?_ (mask_sub (by decide) hA)
        · exact h4
      · exact h4
theorem kept_laneDrop {A : Nat} {s0 : State} {s : Sys2Proof.Machine.State} {n : Nat} {l : Nat} {bytes : Nat} (h_s : Kept A s0 s) (hA : 4194840 ||| A = A) :
    Kept A s0 (laneDrop s n l bytes) := by
  unfold laneDrop
  extract_lets -merge -useContext -underBinder x1 x2 x3 x4
  have h3 : Kept A s0 x3 := by
    unfold x3
    refine kept_updDoor ?_ (mask_sub (by decide) hA)
    · exact h_s
  have h4 : Kept A s0 x4 := by
    unfold x4
    refine Kept.ite ?_ ?_
    · exact h3
    · refine kept_raise ?_ (mask_sub (by decide) hA)
      · exact h3
  clear_value x3 x4
  refine Kept.ite ?_ ?_
  · exact h_s
  · refine Kept.ite ?_ ?_
    · refine kept_raise ?_ (mask_sub (by decide) hA)
      · exact h4
    · exact h4
theorem kept_execLaneDrop {A : Nat} {s0 : State} {n : Sys2Proof.DoorId} {l : Sys2Proof.LaneId} {laneBytes : Nat} {s : Sys2Proof.Machine.State} (h_s : Kept A s0 s) (hA : 4194840 ||| A = A) :
    KeptO A s0 (execLaneDrop n l laneBytes s) := by
  unfold execLaneDrop
  refine KeptO.next ?_
  refine kept_laneDrop ?_ (mask_sub (by decide) hA)
  · exact h_s
theorem kept_execDoorReceiveBlock {A : Nat} {s0 : State} {n : Sys2Proof.DoorId} {stream : BitVec 12} {limit : BitVec 12} {bytes : List Sys2Proof.Byte} {s : Sys2Proof.Machine.State} (h_s : Kept A s0 s) (hA : 68732063288 ||| A = A) :
    KeptO A s0 (execDoorReceiveBlock n stream limit bytes s) := by
  unfold execDoorReceiveBlock
  refine KeptO.next ?_
  refine kept_doorReceiveBlock ?_ (mask_sub (by decide) hA)
  · exact h_s
theorem kept_stamp {A : Nat} {s0 : State} {s : Sys2Proof.Machine.State} {n : Nat} {st : Nat} (h_s : Kept A s0 s) (hA : 8388608 ||| A = A) :
    KeptR A s0 (State.stamp s n st) := by
  unfold State.stamp
  extract_lets -merge -useContext -underBinder x1
  refine KeptR.mk ?_
  refine kept_updStream ?_ (mask_sub (by decide) hA)
  · exact h_s
theorem kept_doorSend {A : Nat} {s0 : State} {s : Sys2Proof.Machine.State} {n : Nat} {st : Nat} {h : Sys2Proof.Header} {payload : List Sys2Proof.Byte} (h_s : Kept A s0 s) (hA : 8390704 ||| A = A) :
    Kept A s0 (State.doorSend s n st h payload) := by
  unfold State.doorSend
  extract_lets -merge -useContext -underBinder x1 x2 x3 x4
  have h1 : KeptR A s0 x1 := by
    unfold x1
    refine kept_stamp ?_ (mask_sub (by decide) hA)
    · exact h_s
  have h4 : Kept A s0 x4 := by
    unfold x4
    refine kept_dcount ?_ (mask_sub (by decide) hA)
    · refine kept_dcount ?_ (mask_sub (by decide) hA)
      · refine KeptR.snd ?_
        exact h1
  clear_value x1 x4
  refine kept_emit ?_ (mask_sub (by decide) hA)
  · exact h4
theorem kept_doorTransmitBlock {A : Nat} {s0 : State} {s : Sys2Proof.Machine.State} {n : Nat} {st : Nat} {bytes : List Sys2Proof.Byte} (h_s : Kept A s0 s) (hA : 68732063288 ||| A = A) :
    Kept A s0 (doorTransmitBlock s n st bytes) := by
  unfold doorTransmitBlock
  extract_lets -merge -useContext -underBinder x1 x2 x3 x4 x5 x6 x7 x8
  have h3 : Kept A s0 x3 := by
    unfold x3
    refine kept_dcount ?_ (mask_sub (by decide) hA)
    · exact h_s
  have h5 : Kept A s0 x5 := by
    unfold x5
    refine Kept.ite ?_ ?_
    · exact h3
    · refine kept_raiseOnce ?_ (mask_sub (by decide) hA)
      · refine kept_count ?_ (mask_sub (by decide) hA)
        · exact h3
  have h6 : Kept A s0 x6 := by
    unfold x6
    refine kept_doorSend ?_ (mask_sub (by decide) hA)
    · refine kept_count ?_ (mask_sub (by decide) hA)
      · exact h3
  have h8 : Kept A s0 x8 := by
    unfold x8
    refine kept_dcount ?_ (mask_sub (by decide) hA)
    · refine kept_count ?_ (mask_sub (by decide) hA)
      · refine kept_count ?_ (mask_sub (by decide) hA)
        · exact h3
  clear_value x3 x5 x6 x8
  refine Kept.ite ?_ ?_
  · exact h_s
  · refine Kept.ite ?_ ?_
    · refine kept_doorRetired ?_ (mask_sub (by decide) hA)
      · refine kept_dcount ?_ (mask_sub (by decide) hA)
        · exact h5
    · refine Kept.ite ?_ ?_
      · refine Kept.ite ?_ ?_
        · refine kept_count ?_ (mask_sub (by decide) hA)
          · exact h6
        · exact h6
      · refine kept_raiseOnce ?_ (mask_sub (by decide) hA)
        · refine kept_doorSend ?_ (mask_sub (by decide) hA)
          · exact h8
theorem kept_doorInsert {A : Nat} {s0 : State} {s : Sys2Proof.Machine.State} {n : Nat} {st : Nat} {h : Sys2Proof.Header} {payload : List Sys2Proof.Byte} (h_s : Kept A s0 s) (hA : 8390704 ||| A = A) :
    Kept A s0 (State.doorInsert s n st h payload) := by
  unfold State.doorInsert
  refine Kept.ite ?_ ?_
  · exact h_s
  · refine kept_doorSend ?_ (mask_sub (by decide) hA)
    · refine kept_dcount ?_ (mask_sub (by decide) hA)
      · exact h_s
theorem kept_execDoorTransmitBlock {A : Nat} {s0 : State} {n : Sys2Proof.DoorId} {stream : BitVec 12} {bytes : List Sys2Proof.Byte} {s : Sys2Proof.Machine.State} (h_s : Kept A s0 s) (hA : 68732063288 ||| A = A) :
    KeptO A s0 (execDoorTransmitBlock n stream bytes s) := by
  unfold execDoorTransmitBlock
  refine KeptO.next ?_
  refine kept_doorTransmitBlock ?_ (mask_sub (by decide) hA)
  · exact h_s
theorem kept_streamsReset {A : Nat} {s0 : State} {s : Sys2Proof.Machine.State} {n : Nat} (h_s : Kept A s0 s) (hA : 8388608 ||| A = A) :
    Kept A s0 (State.streamsReset s n) := by
  unfold State.streamsReset
  refine Kept.u_streams ?_ (mask_sub (by decide) hA)
  exact h_s
theorem kept_unvoid {A : Nat} {s0 : State} {s : Sys2Proof.Machine.State} {cause : Nat} {place : Nat} (h_s : Kept A s0 s) (hA : 2251799813685784 ||| A = A) :
    Kept A s0 (State.unvoid s cause place) := by
  unfold State.unvoid
  extract_lets -merge -useContext -underBinder x1 x2 x3
  have h3 : Kept A s0 x3 := by
    unfold x3
    refine Kept.u_voids ?_ (mask_sub (by decide) hA)
    exact h_s
  clear_value x3
  refine Kept.ite ?_ ?_
  · refine kept_raise ?_ (mask_sub (by decide) hA)
    · exact h3
  · exact h3
theorem kept_doorRestart {A : Nat} {s0 : State} {s : Sys2Proof.Machine.State} {n : Nat} (h_s : Kept A s0 s) (hA : 281474976710704 ||| A = A) :
    Kept A s0 (State.doorRestart s n) := by
  unfold State.doorRestart
  extract_lets -merge -useContext -underBinder x1 x2
  have h1 : Kept A s0 x1 := by
    unfold x1
    refine kept_each ?_ (fun _ _ h3 => ?_)
    · exact h_s
    · refine kept_zeroCnt ?_ (mask_sub (by decide) hA)
      · exact h3
  have h2 : Kept A s0 x2 := by
    unfold x2
    refine kept_zeroCnt ?_ (mask_sub (by decide) hA)
    · refine kept_zeroCnt ?_ (mask_sub (by decide) hA)
      · refine kept_zeroCnt ?_ (mask_sub (by decide) hA)
        · exact h1
  clear_value x1 x2
  refine kept_updCutUnit ?_ (mask_sub (by decide) hA)
  · exact h2
theorem kept_linkTrained {A : Nat} {s0 : State} {s : Sys2Proof.Machine.State} {n : Nat} (h_s : Kept A s0 s) (hA : 2533274802979384 ||| A = A) :
    Kept A s0 (linkTrained s n) := by
  unfold linkTrained
  extract_lets -merge -useContext -underBinder x1 x2 x3
  have h2 : Kept A s0 x2 := by
    unfold x2
    refine kept_updDoor ?_ (mask_sub (by decide) hA)
    · refine kept_streamsReset ?_ (mask_sub (by decide) hA)
      · exact h_s
  have h3 : Kept A s0 x3 := by
    unfold x3
    refine Kept.ite ?_ ?_
    · refine kept_raise ?_ (mask_sub (by decide) hA)
      · exact h2
    · exact h2
  clear_value x2 x3
  refine Kept.ite ?_ ?_
  · exact h3
  · refine kept_unvoid ?_ (mask_sub (by decide) hA)
    · refine kept_doorRestart ?_ (mask_sub (by decide) hA)
      · exact h3
theorem kept_execLinkTrained {A : Nat} {s0 : State} {n : Sys2Proof.DoorId} {s : Sys2Proof.Machine.State} (h_s : Kept A s0 s) (hA : 2533274802979384 ||| A = A) :
    KeptO A s0 (execLinkTrained n s) := by
  unfold execLinkTrained
  refine KeptO.next ?_
  refine kept_linkTrained ?_ (mask_sub (by decide) hA)
  · exact h_s
theorem kept_laneReturn {A : Nat} {s0 : State} {s : Sys2Proof.Machine.State} {n : Nat} {l : Nat} {us : Nat} (h_s : Kept A s0 s) (hA : 4194840 ||| A = A) :
    Kept A s0 (laneReturn s n l us) := by
  unfold laneReturn
  extract_lets -merge -useContext -underBinder x1 x2
  have h2 : Kept A s0 x2 := by
    unfold x2
    refine kept_updDoor ?_ (mask_sub (by decide) hA)
    · exact h_s
  clear_value x2
  refine Kept.ite ?_ ?_
  · exact h_s
  · refine Kept.ite ?_ ?_
    · exact h2
    · refine kept_raise ?_ (mask_sub (by decide) hA)
      · exact h2
theorem kept_pairUnmatched {A : Nat} {s0 : State} {s : Sys2Proof.Machine.State} {k : Nat} {t : Nat} (h_s : Kept A s0 s) (hA : 1592 ||| A = A) :
    Kept A s0 (State.pairUnmatched s k t) := by
  unfold State.pairUnmatched
  extract_lets -merge -useContext -underBinder x1
  have h1 : Kept A s0 x1 := by
    unfold x1
    refine kept_count ?_ (mask_sub (by decide) hA)
    · exact h_s
  clear_value x1
  refine kept_raiseOnce ?_ (mask_sub (by decide) hA)
  · exact h1
theorem kept_pairPut {A : Nat} {s0 : State} {s : Sys2Proof.Machine.State} {k : Nat} {y : Sys2Proof.PairStep} (h_s : Kept A s0 s) (hA : 590295810358705653304 ||| A = A) :
    Kept A s0 (State.pairPut s k y) := by
  unfold State.pairPut
  extract_lets -merge -useContext -underBinder x1 x2
  refine kept_updPairOf ?_ (mask_sub (by decide) hA)
  · refine kept_each ?_ (fun _ _ h3 => ?_)
    · exact h_s
    · refine kept_pairUnmatched ?_ (mask_sub (by decide) hA)
      · exact h3
theorem kept_updPairStep {A : Nat} {s0 : State} {s : Sys2Proof.Machine.State} {k : Nat} {t : Nat} {f : Sys2Proof.PairStep → Sys2Proof.PairStep} (h_s : Kept A s0 s) (hA : 590295810358705651712 ||| A = A) :
    Kept A s0 (State.updPairStep s k t f) := by
  unfold State.updPairStep
  refine kept_updPairOf ?_ (mask_sub (by decide) hA)
  · exact h_s
theorem kept_pairSend {A : Nat} {s0 : State} {s : Sys2Proof.Machine.State} {k : Nat} {rs : List (List Sys2Proof.Byte)} (h_s : Kept A s0 s) (hA : 4398056224816 ||| A = A) :
    Kept A s0 (State.pairSend s k rs) := by
  unfold State.pairSend
  refine kept_each ?_ (fun _ _ h1 => ?_)
  · exact h_s
  · refine kept_doorInsert ?_ (mask_sub (by decide) hA)
    · refine kept_bulk ?_ (mask_sub (by decide) hA)
      · exact h1
theorem kept_pairSendValues {A : Nat} {s0 : State} {s : Sys2Proof.Machine.State} {k : Nat} {y : Sys2Proof.PairStep} (h_s : Kept A s0 s) (hA : 4398056224816 ||| A = A) :
    Kept A s0 (State.pairSendValues s k y) := by
  unfold State.pairSendValues
  extract_lets -merge -useContext -underBinder x1 x2
  refine kept_pairSend ?_ (mask_sub (by decide) hA)
  · exact h_s
theorem kept_pairDiverge {A : Nat} {s0 : State} {s : Sys2Proof.Machine.State} {k : Nat} {t : Nat} {op : Nat} (h_s : Kept A s0 s) (hA : 8 ||| A = A) :
    Kept A s0 (State.pairDiverge s k t op) := by
  unfold State.pairDiverge
  extract_lets -merge -useContext -underBinder x1 x2 x3
  refine Kept.ite ?_ ?_
  · refine kept_wr ?_ (mask_sub (by decide) hA)
    · refine kept_wr ?_ (mask_sub (by decide) hA)
      · refine kept_wr ?_ (mask_sub (by decide) hA)
        · refine kept_wr ?_ (mask_sub (by decide) hA)
          · refine kept_flag ?_ (mask_sub (by decide) hA)
            · exact h_s
  · exact h_s
theorem kept_pairLocalise {A : Nat} {s0 : State} {s : Sys2Proof.Machine.State} {k : Nat} {t : Nat} (h_s : Kept A s0 s) (hA : 590295810358705652248 ||| A = A) :
    Kept A s0 (State.pairLocalise s k t) := by
  unfold State.pairLocalise
  split
  · exact h_s
  · extract_lets -merge -useContext -underBinder x1
    have h1 : Kept A s0 x1 := by
      unfold x1
      refine kept_updPairStep ?_ (mask_sub (by decide) hA)
      · exact h_s
    clear_value x1
    refine Kept.ite ?_ ?_
    · exact h_s
    · split
      · refine kept_pairDiverge ?_ (mask_sub (by decide) hA)
        · refine kept_raise ?_ (mask_sub (by decide) hA)
          · exact h1
      · refine kept_pairDiverge ?_ (mask_sub (by decide) hA)
        · refine kept_raise ?_ (mask_sub (by decide) hA)
          · exact h1
theorem kept_pairCompare {A : Nat} {s0 : State} {s : Sys2Proof.Machine.State} {k : Nat} {t : Nat} (h_s : Kept A s0 s) (hA : 590295814756761877048 ||| A = A) :
    Kept A s0 (State.pairCompare s k t) := by
  unfold State.pairCompare
  split
  · exact h_s
  · refine Kept.ite ?_ ?_
    · exact h_s
    · split
      · exact h_s
      · extract_lets -merge -useContext -underBinder x1 x2 x3 x4
        have h1 : ∀ y1_0, Kept A s0 y1_0 → Kept A s0 (x1 y1_0) := by
          intro y1_0 h1_0
          unfold x1
          refine kept_updPairStep ?_ (mask_sub (by decide) hA)
          · exact h1_0
        have h2 : Kept A s0 x2 := by
          unfold x2
          refine kept_updPairStep ?_ (mask_sub (by decide) hA)
          · exact h_s
        have h3 : Kept A s0 x3 := by
          unfold x3
          refine kept_raise ?_ (mask_sub (by decide) hA)
          · exact h2
        have h4 : Kept A s0 x4 := by
          unfold x4
          refine Kept.ite ?_ ?_
          · exact h3
          · refine kept_pairSendValues ?_ (mask_sub (by decide) hA)
            · exact h3
        clear_value x1 x2 x3 x4
        refine Kept.ite ?_ ?_
        · refine kept_count ?_ (mask_sub (by decide) hA)
          · refine h1 _ ?_
            · exact h_s
        · refine Kept.ite ?_ ?_
          · refine kept_count ?_ (mask_sub (by decide) hA)
            · refine h1 _ ?_
              · exact h_s
          · refine kept_pairLocalise ?_ (mask_sub (by decide) hA)
            · refine kept_pairDiverge ?_ (mask_sub (by decide) hA)
              · exact h4
theorem kept_pairDigestIn {A : Nat} {s0 : State} {s : Sys2Proof.Machine.State} {r : List Sys2Proof.Byte} (h_s : Kept A s0 s) (hA : 590295814756761878072 ||| A = A) :
    Kept A s0 (State.pairDigestIn s r) := by
  unfold State.pairDigestIn
  extract_lets -merge -useContext -underBinder x1 x2 x3
  refine Kept.ite ?_ ?_
  · exact h_s
  · split
    · refine kept_pairCompare ?_ (mask_sub (by decide) hA)
      · refine kept_updPairStep ?_ (mask_sub (by decide) hA)
        · exact h_s
    · refine kept_pairPut ?_ (mask_sub (by decide) hA)
      · exact h_s
theorem kept_pairValueIn {A : Nat} {s0 : State} {s : Sys2Proof.Machine.State} {r : List Sys2Proof.Byte} (h_s : Kept A s0 s) (hA : 590295810358705652248 ||| A = A) :
    Kept A s0 (State.pairValueIn s r) := by
  unfold State.pairValueIn
  extract_lets -merge -useContext -underBinder x1 x2
  refine Kept.ite ?_ ?_
  · exact h_s
  · refine kept_pairLocalise ?_ (mask_sub (by decide) hA)
    · refine kept_updPairStep ?_ (mask_sub (by decide) hA)
      · exact h_s
theorem kept_pairAskIn {A : Nat} {s0 : State} {s : Sys2Proof.Machine.State} {r : List Sys2Proof.Byte} (h_s : Kept A s0 s) (hA : 4398056224816 ||| A = A) :
    Kept A s0 (State.pairAskIn s r) := by
  unfold State.pairAskIn
  extract_lets -merge -useContext -underBinder x1
  split
  · refine Kept.ite ?_ ?_
    · refine kept_pairSendValues ?_ (mask_sub (by decide) hA)
      · exact h_s
    · exact h_s
  · exact h_s
theorem kept_pairIn {A : Nat} {s0 : State} {s : Sys2Proof.Machine.State} {r : List Sys2Proof.Byte} (h_s : Kept A s0 s) (hA : 590295814756761878072 ||| A = A) :
    Kept A s0 (State.pairIn s r) := by
  unfold State.pairIn
  split
  · refine kept_pairDigestIn ?_ (mask_sub (by decide) hA)
    · exact h_s
  · refine kept_pairValueIn ?_ (mask_sub (by decide) hA)
    · exact h_s
  · refine kept_pairAskIn ?_ (mask_sub (by decide) hA)
    · exact h_s
  · exact h_s
theorem kept_execPairValue {A : Nat} {s0 : State} {z0 : Sys2Proof.DoorId} {records : List (List Sys2Proof.Byte)} {s : Sys2Proof.Machine.State} (h_s : Kept A s0 s) (hA : 590295814756761878072 ||| A = A) :
    KeptO A s0 (execPairValue z0 records s) := by
  unfold execPairValue
  refine KeptO.next ?_
  refine kept_each ?_ (fun _ _ h1 => ?_)
  · exact h_s
  · refine kept_pairIn ?_ (mask_sub (by decide) hA)
    · exact h1
theorem kept_pairClose {A : Nat} {s0 : State} {s : Sys2Proof.Machine.State} {k : Nat} {c : Nat} {t : Nat} (h_s : Kept A s0 s) (hA : 590295814756761878072 ||| A = A) :
    Kept A s0 (State.pairClose s k c t) := by
  unfold State.pairClose
  extract_lets -merge -useContext -underBinder x1 x2 x3 x4 x5 x6 x7 x8 x9
  have h6 : Kept A s0 x6 := by
    unfold x6
    refine kept_updPairOf ?_ (mask_sub (by decide) hA)
    · exact h_s
  have h8 : Kept A s0 x8 := by
    unfold x8
    refine kept_pairPut ?_ (mask_sub (by decide) hA)
    · exact h6
  have h9 : Kept A s0 x9 := by
    unfold x9
    refine kept_pairSend ?_ (mask_sub (by decide) hA)
    · exact h8
  clear_value x6 x8 x9
  refine kept_pairCompare ?_ (mask_sub (by decide) hA)
  · exact h9
theorem kept_pairTry {A : Nat} {s0 : State} {s : Sys2Proof.Machine.State} {k : Nat} (h_s : Kept A s0 s) (hA : 590295814756761878072 ||| A = A) :
    Kept A s0 (State.pairTry s k) := by
  unfold State.pairTry
  split
  · extract_lets -merge -useContext -underBinder x1 x2 x3
    refine Kept.ite ?_ ?_
    · refine kept_pairClose ?_ (mask_sub (by decide) hA)
      · exact h_s
    · exact h_s
  · exact h_s
theorem kept_execPairDigestRecord {A : Nat} {s0 : State} {z0 : Sys2Proof.DoorId} {record : List Sys2Proof.Byte} {s : Sys2Proof.Machine.State} (h_s : Kept A s0 s) (hA : 590295814756761878072 ||| A = A) :
    KeptO A s0 (execPairDigestRecord z0 record s) := by
  unfold execPairDigestRecord
  refine KeptO.next ?_
  refine kept_pairIn ?_ (mask_sub (by decide) hA)
  · exact h_s
theorem kept_pairStepTimeout {A : Nat} {s0 : State} {s : Sys2Proof.Machine.State} {k : Nat} (h_s : Kept A s0 s) (hA : 590295814756761878072 ||| A = A) :
    Kept A s0 (pairStepTimeout s k) := by
  unfold pairStepTimeout
  split
  · refine kept_pairClose ?_ (mask_sub (by decide) hA)
    · exact h_s
  · exact h_s
theorem kept_pairUnchecked {A : Nat} {s0 : State} {s : Sys2Proof.Machine.State} {k : Nat} {d : Sys2Proof.Desc} (h_s : Kept A s0 s) (hA : 590295810358705651712 ||| A = A) :
    Kept A s0 (State.pairUnchecked s k d) := by
  unfold State.pairUnchecked
  split
  · refine Kept.ite ?_ ?_
    · refine kept_updPairOf ?_ (mask_sub (by decide) hA)
      · exact h_s
    · exact h_s
  · exact h_s
theorem kept_pairCommand {A : Nat} {s0 : State} {s : Sys2Proof.Machine.State} {k : Nat} {d : Sys2Proof.Desc} (h_s : Kept A s0 s) (hA : 590295810358705651712 ||| A = A) :
    Kept A s0 (State.pairCommand s k d) := by
  unfold State.pairCommand
  split
  · exact h_s
  · refine Kept.ite ?_ ?_
    · exact h_s
    · refine kept_updPairOf ?_ (mask_sub (by decide) hA)
      · exact h_s
theorem kept_pairSample {A : Nat} {s0 : State} {s : Sys2Proof.Machine.State} {k : Nat} {d : Sys2Proof.Desc} {pos : Nat} {host : Nat} (h_s : Kept A s0 s) (hA : 590295810358705651712 ||| A = A) :
    Kept A s0 (State.pairSample s k d pos host) := by
  unfold State.pairSample
  split
  · exact h_s
  · refine Kept.ite ?_ ?_
    · refine kept_updPairOf ?_ (mask_sub (by decide) hA)
      · exact h_s
    · exact h_s
theorem kept_pairApply {A : Nat} {s0 : State} {s : Sys2Proof.Machine.State} (h_s : Kept A s0 s) (hA : 8 ||| A = A) :
    Kept A s0 (State.pairApply s) := by
  unfold State.pairApply
  extract_lets -merge -useContext -underBinder x1
  have h1 : ∀ y1_0 y1_1, Kept A s0 y1_0 → Kept A s0 (x1 y1_0 y1_1) := by
    intro y1_0 y1_1 h1_0
    unfold x1
    refine kept_wr ?_ (mask_sub (by decide) hA)
    · exact h1_0
  clear_value x1
  refine kept_wr ?_ (mask_sub (by decide) hA)
  · refine kept_wr ?_ (mask_sub (by decide) hA)
    · refine kept_wr ?_ (mask_sub (by decide) hA)
      · refine kept_wr ?_ (mask_sub (by decide) hA)
        · refine kept_wr ?_ (mask_sub (by decide) hA)
          · refine h1 _ _ ?_
            · exact h_s
theorem kept_pairUnmatchedTimeout {A : Nat} {s0 : State} {s : Sys2Proof.Machine.State} {k : Nat} {t : Nat} (h_s : Kept A s0 s) (hA : 590295810358705653304 ||| A = A) :
    Kept A s0 (pairUnmatchedTimeout s k t) := by
  unfold pairUnmatchedTimeout
  split
  · refine Kept.ite ?_ ?_
    · refine kept_pairUnmatched ?_ (mask_sub (by decide) hA)
      · refine kept_updPairStep ?_ (mask_sub (by decide) hA)
        · exact h_s
    · exact h_s
  · exact h_s
theorem kept_execPairUnmatchedTimeout {A : Nat} {s0 : State} {k : Sys2Proof.ClusterId} {step : Sys2Proof.Step} {s : Sys2Proof.Machine.State} (h_s : Kept A s0 s) (hA : 590295810358705653304 ||| A = A) :
    KeptO A s0 (execPairUnmatchedTimeout k step s) := by
  unfold execPairUnmatchedTimeout
  refine KeptO.next ?_
  refine kept_pairUnmatchedTimeout ?_ (mask_sub (by decide) hA)
  · exact h_s
theorem kept_pairReport {A : Nat} {s0 : State} {s : Sys2Proof.Machine.State} {k : Nat} {d : Sys2Proof.Desc} {y : Sys2Proof.Summary} (h_s : Kept A s0 s) (hA : 590295810358705651712 ||| A = A) :
    Kept A s0 (State.pairReport s k d y) := by
  unfold State.pairReport
  split
  · exact h_s
  · refine Kept.ite ?_ ?_
    · exact h_s
    · refine Kept.ite ?_ ?_
      · refine kept_updPairOf ?_ (mask_sub (by decide) hA)
        · exact h_s
      · refine kept_updPairOf ?_ (mask_sub (by decide) hA)
        · exact h_s
theorem kept_execPairStepTimeout {A : Nat} {s0 : State} {k : Sys2Proof.ClusterId} {s : Sys2Proof.Machine.State} (h_s : Kept A s0 s) (hA : 590295814756761878072 ||| A = A) :
    KeptO A s0 (execPairStepTimeout k s) := by
  unfold execPairStepTimeout
  refine KeptO.next ?_
  refine kept_pairStepTimeout ?_ (mask_sub (by decide) hA)
  · exact h_s
theorem kept_updRunit {A : Nat} {s0 : State} {s : Sys2Proof.Machine.State} {k : Nat} {u : Sys2Proof.RplUnit} {f : Sys2Proof.RplUnit → Sys2Proof.RplUnit} (h_s : Kept A s0 s) (hA : 2147483648 ||| A = A) :
    Kept A s0 (State.updRunit s k u f) := by
  unfold State.updRunit
  refine kept_updRplOf ?_ (mask_sub (by decide) hA)
  · exact h_s
theorem kept_unitPass {A : Nat} {s0 : State} {s : Sys2Proof.Machine.State} {k : Nat} {j : Nat} {h : Nat} {u : Sys2Proof.RplUnit} {pos : Nat} (h_s : Kept A s0 s) (hA : 18014400656967224 ||| A = A) :
    Kept A s0 (State.unitPass s k j h u pos) := by
  unfold State.unitPass
  refine kept_trace ?_ (mask_sub (by decide) hA)
  · refine kept_count ?_ (mask_sub (by decide) hA)
    · refine kept_updRunit ?_ (mask_sub (by decide) hA)
      · exact h_s
theorem kept_unitFail {A : Nat} {s0 : State} {s : Sys2Proof.Machine.State} {k : Nat} {j : Nat} {h : Nat} {u : Sys2Proof.RplUnit} {d : Sys2Proof.Desc} {gated : Bool} {pos : Nat} {code : Nat} {word6 : Nat} {word7 : Nat} {c : Sys2Proof.Case} (h_s : Kept A s0 s) (hA : 18018799778545208 ||| A = A) :
    Kept A s0 (State.unitFail s k j h u d gated pos code word6 word7 c) := by
  unfold State.unitFail
  extract_lets -merge -useContext -underBinder x1 x2 x3 x4 x5 x6 x7 x8 x9 x10 x11 x12 x13
  have h1 : Kept A s0 x1 := by
    unfold x1
    refine kept_updRunit ?_ (mask_sub (by decide) hA)
    · exact h_s
  have h2 : Kept A s0 x2 := by
    unfold x2
    refine kept_bankCount ?_ (mask_sub (by decide) hA)
    · refine kept_count ?_ (mask_sub (by decide) hA)
      · exact h1
  have h3 : Kept A s0 x3 := by
    unfold x3
    refine kept_trace ?_ (mask_sub (by decide) hA)
    · exact h2
  have h4 : Kept A s0 x4 := by
    unfold x4
    refine kept_trace ?_ (mask_sub (by decide) hA)
    · exact h3
  have h5 : Kept A s0 x5 := by
    unfold x5
    refine kept_raiseOnce ?_ (mask_sub (by decide) hA)
    · exact h4
  have h6 : Kept A s0 x6 := by
    unfold x6
    refine Kept.ite ?_ ?_
    · refine kept_updRcmd ?_ (mask_sub (by decide) hA)
      · exact h5
    · exact h5
  have h11 : KeptL A s0 x11 := by
    unfold x11
    refine kept_openCase ?_ (mask_sub (by decide) hA)
    · exact h6
  have h12 : Kept A s0 x12 := by
    unfold x12
    refine KeptL.fst ?_
    exact h11
  have h13 : Kept A s0 x13 := by
    unfold x13
    refine Kept.ite ?_ ?_
    · refine kept_updRplOf ?_ (mask_sub (by decide) hA)
      · exact h12
    · exact h12
  clear_value x1 x2 x3 x4 x5 x6 x11 x12 x13
  refine Kept.ite ?_ ?_
  · refine kept_updRcmd ?_ (mask_sub (by decide) hA)
    · exact h13
  · exact h13
theorem kept_rereadDone {A : Nat} {s0 : State} {s : Sys2Proof.Machine.State} {k : Nat} {h : Nat} {u : Sys2Proof.RplUnit} {no : Nat} (h_s : Kept A s0 s) (hA : 4401269061632 ||| A = A) :
    Kept A s0 (State.rereadDone s k h u no) := by
  unfold State.rereadDone
  extract_lets -merge -useContext -underBinder x1
  have h1 : Kept A s0 x1 := by
    unfold x1
    refine kept_unitsOut ?_ (mask_sub (by decide) hA)
    · exact h_s
  clear_value x1
  split
  · refine kept_secured ?_ (mask_sub (by decide) hA)
    · exact h1
  · exact h1
theorem kept_dropUnit {A : Nat} {s0 : State} {s : Sys2Proof.Machine.State} {k : Nat} {h : Nat} {u : Sys2Proof.RplUnit} {cause : Nat} {addr : Nat} (h_s : Kept A s0 s) (hA : 18014410320645688 ||| A = A) :
    Kept A s0 (State.dropUnit s k h u cause addr) := by
  unfold State.dropUnit
  extract_lets -merge -useContext -underBinder x1 x2 x3
  have h1 : Kept A s0 x1 := by
    unfold x1
    refine kept_updRplOf ?_ (mask_sub (by decide) hA)
    · refine kept_updRunit ?_ (mask_sub (by decide) hA)
      · exact h_s
  have h2 : Kept A s0 x2 := by
    unfold x2
    refine Kept.ite ?_ ?_
    · refine kept_updRcmd ?_ (mask_sub (by decide) hA)
      · exact h1
    · exact h1
  have h3 : Kept A s0 x3 := by
    unfold x3
    refine Kept.ite ?_ ?_
    · refine kept_count ?_ (mask_sub (by decide) hA)
      · exact h2
    · refine kept_raiseOnce ?_ (mask_sub (by decide) hA)
      · refine kept_count ?_ (mask_sub (by decide) hA)
        · exact h2
  clear_value x1 x2 x3
  split
  · split
    · refine kept_inconclusive ?_ (mask_sub (by decide) hA)
      · exact h3
    · exact h3
  · exact h3
theorem kept_unitGo {A : Nat} {s0 : State} {s : Sys2Proof.Machine.State} {k : Nat} {h : Nat} {u : Sys2Proof.RplUnit} (h_s : Kept A s0 s) (hA : 18018808368479800 ||| A = A) :
    Kept A s0 (State.unitGo s k h u) := by
  unfold State.unitGo
  refine Kept.ite ?_ ?_
  · exact h_s
  · split
    · split
      · refine kept_rereadDone ?_ (mask_sub (by decide) hA)
        · exact h_s
      · refine kept_updRunit ?_ (mask_sub (by decide) hA)
        · exact h_s
    · refine Kept.ite ?_ ?_
      · exact h_s
      · refine Kept.ite ?_ ?_
        · exact h_s
        · split
          · exact h_s
          · refine kept_emit ?_ (mask_sub (by decide) hA)
            · refine kept_updRunit ?_ (mask_sub (by decide) hA)
              · exact h_s
    · refine kept_dropUnit ?_ (mask_sub (by decide) hA)
      · exact h_s
    · refine kept_dropUnit ?_ (mask_sub (by decide) hA)
      · exact h_s
theorem kept_rplGo {A : Nat} {s0 : State} {s : Sys2Proof.Machine.State} {k : Nat} (h_s : Kept A s0 s) (hA : 18018808368479800 ||| A = A) :
    Kept A s0 (State.rplGo s k) := by
  unfold State.rplGo
  split
  · exact h_s
  · refine kept_each ?_ (fun _ _ h1 => ?_)
    · exact h_s
    · refine kept_unitGo ?_ (mask_sub (by decide) hA)
      · exact h1
theorem kept_rplRegion {A : Nat} {s0 : State} {s : Sys2Proof.Machine.State} {r : Nat} (h_s : Kept A s0 s) (hA : 18018808368479800 ||| A = A) :
    Kept A s0 (State.rplRegion s r) := by
  unfold State.rplRegion
  refine kept_each ?_ (fun _ _ h1 => ?_)
  · exact h_s
  · refine kept_rplGo ?_ (mask_sub (by decide) hA)
    · exact h1
theorem kept_replicaCompare {A : Nat} {s0 : State} {s : Sys2Proof.Machine.State} {k : Nat} {cmd : Nat} {pos : Nat} {upset : Option Sys2Proof.CaseVal} (h_s : Kept A s0 s) (hA : 590313829167074131516 ||| A = A) :
    Kept A s0 (replicaCompare s k cmd pos upset) := by
  unfold replicaCompare
  split
  · split
    · extract_lets -merge -useContext -underBinder x1 x2 x3 x4
      have h1 : ∀ y1_0, Kept A s0 y1_0 → Kept A s0 (x1 y1_0) := by
        intro y1_0 h1_0
        unfold x1
        refine kept_updRunit ?_ (mask_sub (by decide) hA)
        · exact h1_0
      have h2 : Kept A s0 x2 := by
        unfold x2
        refine Kept.ite ?_ ?_
        · refine kept_pairSample ?_ (mask_sub (by decide) hA)
          · exact h_s
        · exact h_s
      have h4 : Kept A s0 x4 := by
        unfold x4
        refine Kept.ite ?_ ?_
        · split
          · split
            · refine kept_raiseOnce ?_ (mask_sub (by decide) hA)
              · refine kept_count ?_ (mask_sub (by decide) hA)
                · refine kept_draw ?_ (mask_sub (by decide) hA)
                  · refine kept_updRplOf ?_ (mask_sub (by decide) hA)
                    · refine h1 _ ?_
                      · exact h2
            · refine kept_count ?_ (mask_sub (by decide) hA)
              · refine h1 _ ?_
                · exact h2
            · extract_lets -merge -useContext -underBinder x5 x6 x7 x8
              have h6 : Kept A s0 x6 := by
                unfold x6
                refine Kept.ite ?_ ?_
                · exact h2
                · refine kept_updRplOf ?_ (mask_sub (by decide) hA)
                  · exact h2
              clear_value x6
              refine Kept.ite ?_ ?_
              · refine kept_unitPass ?_ (mask_sub (by decide) hA)
                · exact h6
              · refine kept_unitFail ?_ (mask_sub (by decide) hA)
                · exact h6
          · refine kept_count ?_ (mask_sub (by decide) hA)
            · refine h1 _ ?_
              · exact h2
        · refine Kept.ite ?_ ?_
          · refine kept_unitPass ?_ (mask_sub (by decide) hA)
            · exact h2
          · refine kept_unitFail ?_ (mask_sub (by decide) hA)
            · exact h2
      clear_value x1 x2 x4
      refine Kept.ite ?_ ?_
      · refine kept_rplRegion ?_ (mask_sub (by decide) hA)
        · exact h4
      · refine kept_rplGo ?_ (mask_sub (by decide) hA)
        · refine kept_updRunit ?_ (mask_sub (by decide) hA)
          · exact h4
    · exact h_s
  · exact h_s
theorem kept_execReplicaCompare {A : Nat} {s0 : State} {k : Sys2Proof.ClusterId} {id : Sys2Proof.CmdId} {pos : Nat} {upset : Option Sys2Proof.CaseVal} {s : Sys2Proof.Machine.State} (h_s : Kept A s0 s) (hA : 590313829167074131516 ||| A = A) :
    KeptO A s0 (execReplicaCompare k id pos upset s) := by
  unfold execReplicaCompare
  refine KeptO.next ?_
  refine Kept.ite ?_ ?_
  · exact h_s
  · refine kept_replicaCompare ?_ (mask_sub (by decide) hA)
    · exact h_s
theorem kept_enterUnit {A : Nat} {s0 : State} {s : Sys2Proof.Machine.State} {k : Nat} {u : Sys2Proof.RplUnit} (h_s : Kept A s0 s) (hA : 2147485240 ||| A = A) :
    Kept A s0 (State.enterUnit s k u) := by
  unfold State.enterUnit
  split
  · exact h_s
  · extract_lets -merge -useContext -underBinder x1 x2
    have h1 : Kept A s0 x1 := by
      unfold x1
      refine kept_count ?_ (mask_sub (by decide) hA)
      · exact h_s
    have h2 : Kept A s0 x2 := by
      unfold x2
      refine kept_updRplOf ?_ (mask_sub (by decide) hA)
      · exact h_s
    clear_value x1 x2
    refine Kept.ite ?_ ?_
    · refine kept_raiseOnce ?_ (mask_sub (by decide) hA)
      · exact h1
    · refine Kept.ite ?_ ?_
      · exact h2
      · refine kept_bankCount ?_ (mask_sub (by decide) hA)
        · refine kept_count ?_ (mask_sub (by decide) hA)
          · exact h2
theorem kept_headUnits {A : Nat} {s0 : State} {s : Sys2Proof.Machine.State} {k : Nat} {d : Sys2Proof.Desc} {o : Sys2Proof.Opr} {e : Nat} {host : Sys2Proof.CaseVal} (h_s : Kept A s0 s) (hA : 2147485240 ||| A = A) :
    Kept A s0 (State.headUnits s k d o e host) := by
  unfold State.headUnits
  extract_lets -merge -useContext -underBinder x1 x2 x3 x4
  refine kept_each ?_ (fun _ _ h5 => ?_)
  · exact h_s
  · refine kept_each ?_ (fun _ _ h6 => ?_)
    · exact h5
    · split
      · refine Kept.ite ?_ ?_
        · refine kept_each ?_ (fun _ _ h7 => ?_)
          · exact h6
          · extract_lets -merge -useContext -underBinder x8 x9
            refine Kept.ite ?_ ?_
            · refine kept_enterUnit ?_ (mask_sub (by decide) hA)
              · exact h7
            · exact h7
        · exact h6
      · exact h6
theorem kept_replicaReadLine {A : Nat} {s0 : State} {s : Sys2Proof.Machine.State} {k : Nat} {tag : Nat} {data : Nat} {last : Bool} {err : Nat} (h_s : Kept A s0 s) (hA : 18018808368479800 ||| A = A) :
    Kept A s0 (replicaReadLine s k tag data last err) := by
  unfold replicaReadLine
  split
  · extract_lets -merge -useContext -underBinder x1 x2 x3 x4 x5 x6
    have h2 : Kept A s0 x2 := by
      unfold x2
      refine kept_dropUnit ?_ (mask_sub (by decide) hA)
      · exact h_s
    have h5 : Kept A s0 x5 := by
      unfold x5
      refine kept_updRunit ?_ (mask_sub (by decide) hA)
      · exact h_s
    have h6 : Kept A s0 x6 := by
      unfold x6
      refine Kept.ite ?_ ?_
      · refine kept_dropUnit ?_ (mask_sub (by decide) hA)
        · exact h5
      · split
        · refine kept_headUnits ?_ (mask_sub (by decide) hA)
          · exact h5
        · exact h5
    clear_value x2 x5 x6
    refine Kept.ite ?_ ?_
    · refine kept_rplRegion ?_ (mask_sub (by decide) hA)
      · refine kept_updRplOf ?_ (mask_sub (by decide) hA)
        · exact h2
    · refine Kept.ite ?_ ?_
      · refine kept_rplRegion ?_ (mask_sub (by decide) hA)
        · exact h6
      · refine kept_rplGo ?_ (mask_sub (by decide) hA)
        · exact h6
  · refine Kept.ite ?_ ?_
    · refine kept_rplGo ?_ (mask_sub (by decide) hA)
      · refine kept_updRplOf ?_ (mask_sub (by decide) hA)
        · exact h_s
    · exact h_s
theorem kept_noteDraw {A : Nat} {s0 : State} {s : Sys2Proof.Machine.State} {c : Nat} (h_s : Kept A s0 s) (hA : 68719476736 ||| A = A) :
    Kept A s0 (State.noteDraw s c) := by
  unfold State.noteDraw
  refine kept_updCtx ?_ (mask_sub (by decide) hA)
  · exact h_s
theorem kept_seedFor {A : Nat} {s0 : State} {s : Sys2Proof.Machine.State} {k : Nat} {c : Nat} (h_s : Kept A s0 s) (hA : 2147485696 ||| A = A) :
    KeptL A s0 (State.seedFor s k c) := by
  unfold State.seedFor
  extract_lets -merge -useContext -underBinder x1
  split
  · refine KeptL.mk ?_
    refine kept_updRplOf ?_ (mask_sub (by decide) hA)
    · exact h_s
  · refine KeptL.ite ?_ ?_
    · refine KeptL.mk ?_
      exact h_s
    · refine KeptL.mk ?_
      refine kept_emit ?_ (mask_sub (by decide) hA)
      · refine kept_updRplOf ?_ (mask_sub (by decide) hA)
        · exact h_s
theorem kept_drawOut {A : Nat} {s0 : State} {s : Sys2Proof.Machine.State} {k : Nat} {ctr : Nat} {seed : Nat} (h_s : Kept A s0 s) (hA : 2096 ||| A = A) :
    Kept A s0 (State.drawOut s k ctr seed) := by
  unfold State.drawOut
  extract_lets -merge -useContext -underBinder x1 x2
  have h1 : Kept A s0 x1 := by
    unfold x1
    refine kept_count ?_ (mask_sub (by decide) hA)
    · exact h_s
  have h2 : Kept A s0 x2 := by
    unfold x2
    refine Kept.ite ?_ ?_
    · refine kept_count ?_ (mask_sub (by decide) hA)
      · exact h1
    · exact h1
  clear_value x1 x2
  refine kept_emit ?_ (mask_sub (by decide) hA)
  · exact h2
theorem kept_drawDrain {A : Nat} {s0 : State} {s : State} {k : Nat} {l : List Nat} (h_s : Kept A s0 s) (hA : 2147485744 ||| A = A) :
    Kept A s0 (State.drawDrain k l s) := by
  induction l generalizing s with
  | nil => exact kept_updRplOf h_s (mask_sub (by decide) hA)
  | cons c l ih =>
    unfold State.drawDrain
    split
    · next e =>
      have h := KeptL.of_eq (kept_seedFor (k := k) (c := c / 2 ^ 116) h_s (mask_sub (by decide) hA)) e
      exact ih (kept_drawOut h (mask_sub (by decide) hA))
    · next e =>
      have h := KeptL.of_eq (kept_seedFor (k := k) (c := c / 2 ^ 116) h_s (mask_sub (by decide) hA)) e
      exact kept_updRplOf h (mask_sub (by decide) hA)
theorem kept_drawGo {A : Nat} {s0 : State} {s : Sys2Proof.Machine.State} {k : Nat} (h_s : Kept A s0 s) (hA : 2147485744 ||| A = A) :
    Kept A s0 (State.drawGo s k) := by
  unfold State.drawGo
  refine kept_drawDrain ?_ (mask_sub (by decide) hA)
  · exact h_s
theorem kept_sampleCmd {A : Nat} {s0 : State} {s : Sys2Proof.Machine.State} {k : Nat} {h : Nat} {c : Sys2Proof.RplCmd} {d : Sys2Proof.Desc} {o : Sys2Proof.Opr} {seed : Option Nat} (h_s : Kept A s0 s) (hA : 2147485240 ||| A = A) :
    Kept A s0 (State.sampleCmd s k h c d o seed) := by
  unfold State.sampleCmd
  refine Kept.ite ?_ ?_
  · refine kept_each ?_ (fun _ _ h1 => ?_)
    · exact h_s
    · refine kept_enterUnit ?_ (mask_sub (by decide) hA)
      · exact h1
  · split
    · exact h_s
    · exact h_s
    · exact h_s
    · extract_lets -merge -useContext -underBinder x2 x3
      have h3 : Kept A s0 x3 := by
        unfold x3
        refine Kept.ite ?_ ?_
        · refine kept_count ?_ (mask_sub (by decide) hA)
          · exact h_s
        · exact h_s
      clear_value x3
      refine kept_each ?_ (fun _ _ h4 => ?_)
      · exact h3
      · refine kept_enterUnit ?_ (mask_sub (by decide) hA)
        · exact h4
    · refine kept_updRplOf ?_ (mask_sub (by decide) hA)
      · exact h_s
theorem kept_seedServe {A : Nat} {s0 : State} {s : Sys2Proof.Machine.State} {k : Nat} {c : Nat} (h_s : Kept A s0 s) (hA : 295165924056440782392 ||| A = A) :
    Kept A s0 (State.seedServe s k c) := by
  unfold State.seedServe
  extract_lets -merge -useContext -underBinder x1 x2 x3 x4 x5 x6 x7
  have h4 : Kept A s0 x4 := by
    unfold x4
    refine Kept.u_prv ?_ (mask_sub (by decide) hA)
    exact h_s
  have h5 : Kept A s0 x5 := by
    unfold x5
    refine kept_noteDraw ?_ (mask_sub (by decide) hA)
    · exact h4
  have h6 : Kept A s0 x6 := by
    unfold x6
    refine kept_updRplOf ?_ (mask_sub (by decide) hA)
    · exact h5
  have h7 : Kept A s0 x7 := by
    unfold x7
    refine kept_drawGo ?_ (mask_sub (by decide) hA)
    · exact h6
  clear_value x4 x5 x6 x7
  refine Kept.ite ?_ ?_
  · exact h_s
  · split
    · exact h7
    · extract_lets -merge -useContext -underBinder x8
      refine kept_rplGo ?_ (mask_sub (by decide) hA)
      · refine kept_each ?_ (fun _ _ h9 => ?_)
        · exact h7
        · extract_lets -merge -useContext -underBinder x10 x11
          have h11 : Kept A s0 x11 := by
            unfold x11
            refine kept_updRplOf ?_ (mask_sub (by decide) hA)
            · exact h9
          clear_value x11
          refine Kept.ite ?_ ?_
          · exact h11
          · split
            · refine kept_sampleCmd ?_ (mask_sub (by decide) hA)
              · exact h11
            · exact h11
theorem kept_seedLoadDone {A : Nat} {s0 : State} {s : Sys2Proof.Machine.State} {k : Nat} {c : Nat} (h_s : Kept A s0 s) (hA : 295165924056440782392 ||| A = A) :
    Kept A s0 (seedLoadDone s k c) := by
  unfold seedLoadDone
  extract_lets -merge -useContext -underBinder x1
  refine Kept.ite ?_ ?_
  · refine Kept.ite ?_ ?_
    · exact h_s
    · refine Kept.u_prv ?_ (mask_sub (by decide) hA)
      exact h_s
  · refine kept_seedServe ?_ (mask_sub (by decide) hA)
    · exact h_s
theorem kept_execSeedLoadDone {A : Nat} {s0 : State} {k : Sys2Proof.ClusterId} {ctx : Sys2Proof.Ctx} {s : Sys2Proof.Machine.State} (h_s : Kept A s0 s) (hA : 295165924056440782392 ||| A = A) :
    KeptO A s0 (execSeedLoadDone k ctx s) := by
  unfold execSeedLoadDone
  refine KeptO.next ?_
  refine kept_seedLoadDone ?_ (mask_sub (by decide) hA)
  · exact h_s
theorem kept_replicaReadStale {A : Nat} {s0 : State} {s : Sys2Proof.Machine.State} {k : Nat} {cmd : Nat} {pos : Nat} (h_s : Kept A s0 s) (hA : 18018808368479800 ||| A = A) :
    Kept A s0 (replicaReadStale s k cmd pos) := by
  unfold replicaReadStale
  split
  · refine Kept.ite ?_ ?_
    · refine kept_rplRegion ?_ (mask_sub (by decide) hA)
      · refine kept_dropUnit ?_ (mask_sub (by decide) hA)
        · exact h_s
    · exact h_s
  · exact h_s
theorem kept_execReplicaReadStale {A : Nat} {s0 : State} {k : Sys2Proof.ClusterId} {id : Sys2Proof.CmdId} {pos : Nat} {s : Sys2Proof.Machine.State} (h_s : Kept A s0 s) (hA : 18018808368479800 ||| A = A) :
    KeptO A s0 (execReplicaReadStale k id pos s) := by
  unfold execReplicaReadStale
  refine KeptO.next ?_
  refine kept_replicaReadStale ?_ (mask_sub (by decide) hA)
  · exact h_s
theorem kept_execReplicaReadLine {A : Nat} {s0 : State} {k : Sys2Proof.ClusterId} {tag : BitVec 6} {data : BitVec 512} {last : Bool} {err : BitVec 2} {s : Sys2Proof.Machine.State} (h_s : Kept A s0 s) (hA : 18018808368479800 ||| A = A) :
    KeptO A s0 (execReplicaReadLine k tag data last err s) := by
  unfold execReplicaReadLine
  refine KeptO.next ?_
  refine Kept.ite ?_ ?_
  · exact h_s
  · refine kept_replicaReadLine ?_ (mask_sub (by decide) hA)
    · exact h_s
theorem kept_histRoom {A : Nat} {s0 : State} {s : Sys2Proof.Machine.State} {p : Nat} (h_s : Kept A s0 s) (hA : 687194768920 ||| A = A) :
    KeptL A s0 (State.histRoom s p) := by
  unfold State.histRoom
  extract_lets -merge -useContext -underBinder x1
  have h1 : ∀ y1_0, Kept A s0 y1_0 → Kept A s0 (x1 y1_0) := by
    intro y1_0 h1_0
    unfold x1
    refine kept_updHistOf ?_ (mask_sub (by decide) hA)
    · exact h1_0
  clear_value x1
  refine KeptL.ite ?_ ?_
  · refine KeptL.mk ?_
    exact h_s
  · refine KeptL.ite ?_ ?_
    · refine KeptL.mk ?_
      refine h1 _ ?_
      · exact h_s
    · split
      · refine KeptL.mk ?_
        refine h1 _ ?_
        · refine Kept.u_hist_histStaged ?_ (mask_sub (by decide) hA)
          exact h_s
      · refine KeptL.mk ?_
        refine kept_raiseOnce ?_ (mask_sub (by decide) hA)
        · refine kept_flag ?_ (mask_sub (by decide) hA)
          · exact h_s
theorem kept_histStage {A : Nat} {s0 : State} {s : Sys2Proof.Machine.State} {p : Nat} (h_s : Kept A s0 s) (hA : 549755813888 ||| A = A) :
    Kept A s0 (State.histStage s p) := by
  unfold State.histStage
  refine Kept.ite ?_ ?_
  · exact h_s
  · refine Kept.u_histStaged ?_ (mask_sub (by decide) hA)
    exact h_s
theorem kept_setHistState {A : Nat} {s0 : State} {s : Sys2Proof.Machine.State} {p : Nat} {st : Nat} (h_s : Kept A s0 s) (hA : 295147905866547595064 ||| A = A) :
    Kept A s0 (State.setHistState s p st) := by
  unfold State.setHistState
  split
  · next y1 _ e2 =>
      have h3 : Kept A s0 y1 := KeptL.of_eq (by
        refine kept_histRoom ?_ (mask_sub (by decide) hA)
        · exact h_s
        ) e2
      extract_lets -merge -useContext -underBinder x4
      have h4 : Kept A s0 x4 := by
        unfold x4
        refine Kept.ite ?_ ?_
        · refine kept_histStage ?_ (mask_sub (by decide) hA)
          · refine kept_updHistOf ?_ (mask_sub (by decide) hA)
            · exact h3
        · exact h3
      clear_value x4
      refine kept_setUnit ?_ (mask_sub (by decide) hA)
      · exact h4
theorem kept_drainWafer {A : Nat} {s0 : State} {s : Sys2Proof.Machine.State} {p : Nat} (h_s : Kept A s0 s) (hA : 288232575174967832 ||| A = A) :
    Kept A s0 (State.drainWafer s p) := by
  unfold State.drainWafer
  extract_lets -merge -useContext -underBinder x1 x2 x3
  have h1 : Kept A s0 x1 := by
    unfold x1
    refine kept_wr ?_ (mask_sub (by decide) hA)
    · exact h_s
  have h2 : Kept A s0 x2 := by
    unfold x2
    refine kept_wr ?_ (mask_sub (by decide) hA)
    · exact h1
  have h3 : Kept A s0 x3 := by
    unfold x3
    refine Kept.u_drainSince ?_ (mask_sub (by decide) hA)
    exact h2
  clear_value x1 x2 x3
  refine Kept.ite ?_ ?_
  · refine kept_notifyWafer ?_ (mask_sub (by decide) hA)
    · refine kept_raise ?_ (mask_sub (by decide) hA)
      · exact h3
  · exact h1
theorem kept_policyEvent {A : Nat} {s0 : State} {s : Sys2Proof.Machine.State} {p : Nat} (h_s : Kept A s0 s) (hA : 288232576248709656 ||| A = A) :
    Kept A s0 (State.policyEvent s p) := by
  unfold State.policyEvent
  extract_lets -merge -useContext -underBinder x1 x2
  refine Kept.ite ?_ ?_
  · refine kept_drainWafer ?_ (mask_sub (by decide) hA)
    · exact h_s
  · refine kept_updAdjOf ?_ (mask_sub (by decide) hA)
    · exact h_s
theorem kept_fenceCore {A : Nat} {s0 : State} {s : Sys2Proof.Machine.State} {k : Nat} {p : Nat} (h_s : Kept A s0 s) (hA : 5017514388050881285944 ||| A = A) :
    Kept A s0 (State.fenceCore s k p) := by
  unfold State.fenceCore
  extract_lets -merge -useContext -underBinder x1
  have h1 : Kept A s0 x1 := by
    unfold x1
    refine Kept.ite ?_ ?_
    · refine kept_stpEnd ?_ (mask_sub (by decide) hA)
      · exact h_s
    · refine kept_stpFenced ?_ (mask_sub (by decide) hA)
      · exact h_s
  clear_value x1
  refine kept_updCore ?_ (mask_sub (by decide) hA)
  · exact h1
theorem kept_restartCase {A : Nat} {s0 : State} {s : Sys2Proof.Machine.State} {k : Nat} {src : Nat} {t : Nat} {c : Sys2Proof.Case} (h_s : Kept A s0 s) (hA : 18018808368479800 ||| A = A) :
    Kept A s0 (State.restartCase s k src t c) := by
  unfold State.restartCase
  extract_lets -merge -useContext -underBinder x1 x2 x3 x4 x5 x6 x7 x8
  have h6 : Kept A s0 x6 := by
    unfold x6
    refine kept_dropCase ?_ (mask_sub (by decide) hA)
    · exact h_s
  have h8 : Kept A s0 x8 := by
    unfold x8
    refine kept_updAdjOf ?_ (mask_sub (by decide) hA)
    · exact h6
  clear_value x6 x8
  refine Kept.ite ?_ ?_
  · refine kept_inconclusive ?_ (mask_sub (by decide) hA)
    · exact h_s
  · clear_value x4
    split
    · refine kept_updRplOf ?_ (mask_sub (by decide) hA)
      · exact h8
    · refine Kept.ite ?_ ?_
      · exact h8
      · refine kept_askNeighbour ?_ (mask_sub (by decide) hA)
        · refine Kept.ite ?_ ?_
          · refine kept_askRepeat ?_ (mask_sub (by decide) hA)
            · exact h8
          · exact h8
theorem kept_adoptFrom {A : Nat} {s0 : State} {s : Sys2Proof.Machine.State} {k : Nat} {src : Nat} (h_s : Kept A s0 s) (hA : 306249253241765432 ||| A = A) :
    Kept A s0 (State.adoptFrom s k src) := by
  unfold State.adoptFrom
  extract_lets -merge -useContext -underBinder x1
  refine Kept.ite ?_ ?_
  · exact h_s
  · split
    · extract_lets -merge -useContext -underBinder x2 x3 x4 x5 x6 x7
      have h2 : Kept A s0 x2 := by
        unfold x2
        refine kept_each ?_ (fun _ _ h9 => ?_)
        · exact h_s
        · refine kept_rptDrop ?_ (mask_sub (by decide) hA)
          · exact h9
      have h4 : Kept A s0 x4 := by
        unfold x4
        refine kept_updAdjOf ?_ (mask_sub (by decide) hA)
        · exact h2
      have h5 : Kept A s0 x5 := by
        unfold x5
        refine kept_updAdjOf ?_ (mask_sub (by decide) hA)
        · exact h4
      have h6 : Kept A s0 x6 := by
        unfold x6
        refine kept_updAdjOf ?_ (mask_sub (by decide) hA)
        · exact h5
      have h7 : Kept A s0 x7 := by
        unfold x7
        refine kept_each ?_ (fun _ _ h8 => ?_)
        · exact h6
        · refine kept_restartCase ?_ (mask_sub (by decide) hA)
          · exact h8
      clear_value x2 x4 x5 x6 x7
      refine kept_raiseOnce ?_ (mask_sub (by decide) hA)
      · refine kept_rplGo ?_ (mask_sub (by decide) hA)
        · refine kept_rptGo ?_ (mask_sub (by decide) hA)
          · exact h7
    · extract_lets -merge -useContext -underBinder x10 x11
      have h10 : Kept A s0 x10 := by
        unfold x10
        refine kept_each ?_ (fun _ _ h12 => ?_)
        · exact h_s
        · refine kept_inconclusive ?_ (mask_sub (by decide) hA)
          · exact h12
      have h11 : Kept A s0 x11 := by
        unfold x11
        refine kept_rptDrop ?_ (mask_sub (by decide) hA)
        · exact h10
      clear_value x10 x11
      refine kept_closeGates ?_ (mask_sub (by decide) hA)
      · refine kept_raiseOnce ?_ (mask_sub (by decide) hA)
        · refine kept_updAdjOf ?_ (mask_sub (by decide) hA)
          · exact h11
theorem kept_adopt {A : Nat} {s0 : State} {s : Sys2Proof.Machine.State} {k : Nat} (h_s : Kept A s0 s) (hA : 306249253241765432 ||| A = A) :
    Kept A s0 (State.adopt s k) := by
  unfold State.adopt
  refine kept_adoptFrom ?_ (mask_sub (by decide) hA)
  · exact h_s
theorem kept_leaveService {A : Nat} {s0 : State} {s : Sys2Proof.Machine.State} {k : Nat} (h_s : Kept A s0 s) (hA : 7379003878737871912760 ||| A = A) :
    Kept A s0 (State.leaveService s k) := by
  unfold State.leaveService
  extract_lets -merge -useContext -underBinder x1
  have h1 : Kept A s0 x1 := by
    unfold x1
    refine kept_stpAbandon ?_ (mask_sub (by decide) hA)
    · exact h_s
  clear_value x1
  split
  · refine kept_adopt ?_ (mask_sub (by decide) hA)
    · exact h1
  · refine kept_adopt ?_ (mask_sub (by decide) hA)
    · refine kept_adoptFrom ?_ (mask_sub (by decide) hA)
      · refine kept_updAdjOf ?_ (mask_sub (by decide) hA)
        · exact h1
theorem kept_enterFenced {A : Nat} {s0 : State} {s : Sys2Proof.Machine.State} {p : Nat} (h_s : Kept A s0 s) (hA : 7379003881624089935672 ||| A = A) :
    Kept A s0 (State.enterFenced s p) := by
  unfold State.enterFenced
  extract_lets -merge -useContext -underBinder x1
  have h1 : Kept A s0 x1 := by
    unfold x1
    refine kept_hallAct ?_ (mask_sub (by decide) hA)
    · refine kept_setHistState ?_ (mask_sub (by decide) hA)
      · exact h_s
  clear_value x1
  refine Kept.ite ?_ ?_
  · exact h_s
  · split
    · refine kept_policyEvent ?_ (mask_sub (by decide) hA)
      · refine kept_fenceCore ?_ (mask_sub (by decide) hA)
        · exact h1
    · refine kept_policyEvent ?_ (mask_sub (by decide) hA)
      · refine kept_leaveService ?_ (mask_sub (by decide) hA)
        · exact h1
    · exact h1
theorem kept_taintCtx {A : Nat} {s0 : State} {s : Sys2Proof.Machine.State} {r : Nat} {c : Nat} {step : Nat} (h_s : Kept A s0 s) (hA : 288230444873288248 ||| A = A) :
    Kept A s0 (State.taintCtx s r c step) := by
  unfold State.taintCtx
  extract_lets -merge -useContext -underBinder x1 x2 x3 x4
  have h3 : Kept A s0 x3 := by
    unfold x3
    refine kept_regate ?_ (mask_sub (by decide) hA)
    · refine kept_updCtx ?_ (mask_sub (by decide) hA)
      · exact h_s
  have h4 : Kept A s0 x4 := by
    unfold x4
    refine kept_raise ?_ (mask_sub (by decide) hA)
    · exact h3
  clear_value x3 x4
  refine Kept.ite ?_ ?_
  · exact h_s
  · refine kept_notify ?_ (mask_sub (by decide) hA)
    · exact h4
theorem kept_verdictEffect {A : Nat} {s0 : State} {s : Sys2Proof.Machine.State} {r : Nat} {v : Sys2Proof.Verdict} (h_s : Kept A s0 s) (hA : 1368748716530202272087864 ||| A = A) :
    Kept A s0 (State.verdictEffect s r v) := by
  unfold State.verdictEffect
  extract_lets -merge -useContext -underBinder x1 x2 x3
  have h2 : Kept A s0 x2 := by
    unfold x2
    refine kept_raiseHist ?_ (mask_sub (by decide) hA)
    · exact h_s
  have h3 : Kept A s0 x3 := by
    unfold x3
    split
    · refine kept_enterFenced ?_ (mask_sub (by decide) hA)
      · exact h2
    · refine kept_enterFenced ?_ (mask_sub (by decide) hA)
      · exact h2
    · refine kept_enterFenced ?_ (mask_sub (by decide) hA)
      · exact h2
    · extract_lets -merge -useContext -underBinder x4
      have h4 : Kept A s0 x4 := by
        unfold x4
        refine kept_killCtx ?_ (mask_sub (by decide) hA)
        · exact h2
      clear_value x4
      refine kept_replaysGo ?_ (mask_sub (by decide) hA)
      · refine Kept.u_steepFirst ?_ (mask_sub (by decide) hA)
        exact h4
    · refine kept_updAdjOf ?_ (mask_sub (by decide) hA)
      · exact h2
    · exact h2
  clear_value x2 x3
  refine Kept.ite ?_ ?_
  · refine kept_taintCtx ?_ (mask_sub (by decide) hA)
    · exact h3
  · exact h3
theorem kept_hallVerdict {A : Nat} {s0 : State} {s : Sys2Proof.Machine.State} {r : Nat} (h_s : Kept A s0 s) (hA : 1368748717093152225509176 ||| A = A) :
    Kept A s0 (hallVerdict s r) := by
  unfold hallVerdict
  split
  · exact h_s
  · refine Kept.ite ?_ ?_
    · exact h_s
    · refine kept_verdictEffect ?_ (mask_sub (by decide) hA)
      · refine kept_hallAct ?_ (mask_sub (by decide) hA)
        · refine kept_item ?_ (mask_sub (by decide) hA)
          · refine kept_updVerdictsOf ?_ (mask_sub (by decide) hA)
            · exact h_s
theorem kept_execHallVerdict {A : Nat} {s0 : State} {r : Sys2Proof.RegionId} {s : Sys2Proof.Machine.State} (h_s : Kept A s0 s) (hA : 1368748717093152225509176 ||| A = A) :
    KeptO A s0 (execHallVerdict r s) := by
  unfold execHallVerdict
  refine KeptO.next ?_
  refine kept_hallVerdict ?_ (mask_sub (by decide) hA)
  · exact h_s
theorem kept_returnService {A : Nat} {s0 : State} {s : Sys2Proof.Machine.State} {p : Nat} (h_s : Kept A s0 s) (hA : 295147905867889772344 ||| A = A) :
    Kept A s0 (State.returnService s p) := by
  unfold State.returnService
  extract_lets -merge -useContext -underBinder x1
  have h1 : Kept A s0 x1 := by
    unfold x1
    refine Kept.ite ?_ ?_
    · exact h_s
    · refine kept_setHistState ?_ (mask_sub (by decide) hA)
      · exact h_s
  clear_value x1
  split
  · refine kept_updCore ?_ (mask_sub (by decide) hA)
    · exact h1
  · refine kept_unadopt ?_ (mask_sub (by decide) hA)
    · refine kept_updAdjOf ?_ (mask_sub (by decide) hA)
      · exact h1
  · exact h1
theorem kept_migrationDone {A : Nat} {s0 : State} {s : Sys2Proof.Machine.State} {k : Nat} {cycles : Nat} (h_s : Kept A s0 s) (hA : 536870912 ||| A = A) :
    Kept A s0 (migrationDone s k cycles) := by
  unfold migrationDone
  split
  · exact h_s
  · refine kept_updPort ?_ (mask_sub (by decide) hA)
    · exact h_s
theorem kept_fenceStack {A : Nat} {s0 : State} {s : Sys2Proof.Machine.State} {c : Nat} (h_s : Kept A s0 s) (hA : 8 ||| A = A) :
    Kept A s0 (State.fenceStack s c) := by
  unfold State.fenceStack
  refine kept_wr ?_ (mask_sub (by decide) hA)
  · exact h_s
theorem kept_shutLink {A : Nat} {s0 : State} {s : Sys2Proof.Machine.State} {n : Nat} (h_s : Kept A s0 s) (hA : 295150156979170706232 ||| A = A) :
    Kept A s0 (State.shutLink s n) := by
  unfold State.shutLink
  extract_lets -merge -useContext -underBinder x1
  have h1 : Kept A s0 x1 := by
    unfold x1
    refine Kept.u_voids ?_ (mask_sub (by decide) hA)
    exact h_s
  clear_value x1
  refine kept_setUnit ?_ (mask_sub (by decide) hA)
  · refine kept_updDoor ?_ (mask_sub (by decide) hA)
    · exact h1
theorem kept_fenceChan {A : Nat} {s0 : State} {s : Sys2Proof.Machine.State} {c : Nat} {ch : Nat} (h_s : Kept A s0 s) (hA : 8 ||| A = A) :
    Kept A s0 (State.fenceChan s c ch) := by
  unfold State.fenceChan
  refine kept_wr ?_ (mask_sub (by decide) hA)
  · exact h_s
theorem kept_permEffect {A : Nat} {s0 : State} {s : Sys2Proof.Machine.State} {p : Nat} (h_s : Kept A s0 s) (hA : 7379006130537685598008 ||| A = A) :
    Kept A s0 (State.permEffect s p) := by
  unfold State.permEffect
  extract_lets -merge -useContext -underBinder x1
  split
  · refine kept_fenceCore ?_ (mask_sub (by decide) hA)
    · exact h_s
  · refine kept_leaveService ?_ (mask_sub (by decide) hA)
    · exact h_s
  · refine kept_fenceStack ?_ (mask_sub (by decide) hA)
    · exact h_s
  · refine kept_shutLink ?_ (mask_sub (by decide) hA)
    · exact h_s
  · refine kept_fenceChan ?_ (mask_sub (by decide) hA)
    · exact h_s
  · exact h_s
theorem kept_enterPermanent {A : Nat} {s0 : State} {s : Sys2Proof.Machine.State} {p : Nat} (h_s : Kept A s0 s) (hA : 7379006133423903620920 ||| A = A) :
    Kept A s0 (State.enterPermanent s p) := by
  unfold State.enterPermanent
  extract_lets -merge -useContext -underBinder x1 x2 x3
  have h3 : Kept A s0 x3 := by
    unfold x3
    refine kept_raise ?_ (mask_sub (by decide) hA)
    · refine kept_setHistState ?_ (mask_sub (by decide) hA)
      · exact h_s
  clear_value x3
  refine Kept.ite ?_ ?_
  · exact h_s
  · refine kept_policyEvent ?_ (mask_sub (by decide) hA)
    · refine kept_permEffect ?_ (mask_sub (by decide) hA)
      · exact h3
theorem kept_histEntry {A : Nat} {s0 : State} {s : Sys2Proof.Machine.State} {p : Nat} {e : Sys2Proof.HistEntry} (h_s : Kept A s0 s) (hA : 7379006133423903620920 ||| A = A) :
    Kept A s0 (State.histEntry s p e) := by
  unfold State.histEntry
  split
  · next y1 _ e2 =>
      have h3 : Kept A s0 y1 := KeptL.of_eq (by
        refine kept_histRoom ?_ (mask_sub (by decide) hA)
        · exact h_s
        ) e2
      extract_lets -merge -useContext -underBinder x4
      have h4 : Kept A s0 x4 := by
        unfold x4
        refine kept_histStage ?_ (mask_sub (by decide) hA)
        · refine kept_updHistOf ?_ (mask_sub (by decide) hA)
          · exact h3
      clear_value x4
      refine Kept.ite ?_ ?_
      · exact h3
      · refine Kept.ite ?_ ?_
        · refine kept_enterPermanent ?_ (mask_sub (by decide) hA)
          · exact h4
        · exact h4
theorem kept_mapMiss {A : Nat} {s0 : State} {s : Sys2Proof.Machine.State} {k : Nat} {chanTable : Bool} {entry : Nat} (h_s : Kept A s0 s) (hA : 1592 ||| A = A) :
    Kept A s0 (mapMiss s k chanTable entry) := by
  unfold mapMiss
  refine kept_raiseOnce ?_ (mask_sub (by decide) hA)
  · refine kept_count ?_ (mask_sub (by decide) hA)
    · exact h_s
theorem kept_execMapMiss {A : Nat} {s0 : State} {k : Sys2Proof.ClusterId} {chanTable : Bool} {entry : BitVec 13} {s : Sys2Proof.Machine.State} (h_s : Kept A s0 s) (hA : 1592 ||| A = A) :
    KeptO A s0 (execMapMiss k chanTable entry s) := by
  unfold execMapMiss
  refine KeptO.next ?_
  refine kept_mapMiss ?_ (mask_sub (by decide) hA)
  · exact h_s
theorem kept_historySelect {A : Nat} {s0 : State} {s : Sys2Proof.Machine.State} {p : Nat} (h_s : Kept A s0 s) (hA : 1099511627784 ||| A = A) :
    Kept A s0 (historySelect s p) := by
  unfold historySelect
  extract_lets -merge -useContext -underBinder x1 x2 x3
  have h2 : Kept A s0 x2 := by
    unfold x2
    refine kept_wr ?_ (mask_sub (by decide) hA)
    · exact h_s
  have h3 : Kept A s0 x3 := by
    unfold x3
    refine Kept.u_histLatch ?_ (mask_sub (by decide) hA)
    exact h2
  clear_value x2 x3
  refine kept_flag ?_ (mask_sub (by decide) hA)
  · exact h3
theorem kept_waferDrained {A : Nat} {s0 : State} {s : Sys2Proof.Machine.State} (h_s : Kept A s0 s) (hA : 288230376151712280 ||| A = A) :
    Kept A s0 (waferDrained s) := by
  unfold waferDrained
  refine Kept.ite ?_ ?_
  · refine kept_notifyWafer ?_ (mask_sub (by decide) hA)
    · refine kept_raise ?_ (mask_sub (by decide) hA)
      · refine kept_wr ?_ (mask_sub (by decide) hA)
        · exact h_s
  · exact h_s
theorem kept_execWaferDrained {A : Nat} {s0 : State} {s : Sys2Proof.Machine.State} (h_s : Kept A s0 s) (hA : 288230376151712280 ||| A = A) :
    KeptO A s0 (execWaferDrained s) := by
  unfold execWaferDrained
  refine KeptO.next ?_
  refine kept_waferDrained ?_ (mask_sub (by decide) hA)
  · exact h_s
theorem kept_histProgram {A : Nat} {s0 : State} {s : Sys2Proof.Machine.State} (h_s : Kept A s0 s) (hA : 824633720832 ||| A = A) :
    Kept A s0 (State.histProgram s) := by
  unfold State.histProgram
  refine Kept.u_histFlash_histStaged ?_ (mask_sub (by decide) hA)
  exact h_s
theorem kept_execHistoryProgram {A : Nat} {s0 : State} {s : Sys2Proof.Machine.State} (h_s : Kept A s0 s) (hA : 824633720832 ||| A = A) :
    KeptO A s0 (execHistoryProgram s) := by
  unfold execHistoryProgram
  refine KeptO.next ?_
  refine Kept.ite ?_ ?_
  · exact h_s
  · refine kept_histProgram ?_ (mask_sub (by decide) hA)
    · exact h_s
theorem kept_mapCommitted {A : Nat} {s0 : State} {s : Sys2Proof.Machine.State} {k : Nat} (h_s : Kept A s0 s) (hA : 295147909578204644920 ||| A = A) :
    Kept A s0 (State.mapCommitted s k) := by
  unfold State.mapCommitted
  extract_lets -merge -useContext -underBinder x1 x2 x3 x4
  have h3 : Kept A s0 x3 := by
    unfold x3
    refine kept_updPort ?_ (mask_sub (by decide) hA)
    · exact h_s
  have h4 : Kept A s0 x4 := by
    unfold x4
    split
    · split
      · extract_lets -merge -useContext -underBinder x5 x6
        have h5 : Kept A s0 x5 := by
          unfold x5
          refine kept_updPort ?_ (mask_sub (by decide) hA)
          · exact h3
        have h6 : Kept A s0 x6 := by
          unfold x6
          refine kept_updCore ?_ (mask_sub (by decide) hA)
          · refine kept_updCore ?_ (mask_sub (by decide) hA)
            · exact h5
        clear_value x5 x6
        refine kept_raiseOnce ?_ (mask_sub (by decide) hA)
        · refine kept_hallAct ?_ (mask_sub (by decide) hA)
          · exact h6
      · exact h3
    · exact h3
  clear_value x3 x4
  refine Kept.ite ?_ ?_
  · exact h_s
  · refine kept_mapChanged ?_ (mask_sub (by decide) hA)
    · exact h4
theorem kept_historyWindowRead {A : Nat} {s0 : State} {s : Sys2Proof.Machine.State} (h_s : Kept A s0 s) (hA : 2056 ||| A = A) :
    Kept A s0 (historyWindowRead s) := by
  unfold historyWindowRead
  extract_lets -merge -useContext -underBinder x1
  refine kept_wr ?_ (mask_sub (by decide) hA)
  · refine kept_emit ?_ (mask_sub (by decide) hA)
    · exact h_s
theorem kept_fenceBoundary {A : Nat} {s0 : State} {s : Sys2Proof.Machine.State} {k : Nat} {p : Nat} (h_s : Kept A s0 s) (hA : 288232575980275224 ||| A = A) :
    Kept A s0 (fenceBoundary s k p) := by
  unfold fenceBoundary
  extract_lets -merge -useContext -underBinder x1
  refine Kept.ite ?_ ?_
  · exact h_s
  · split
    · refine Kept.ite ?_ ?_
      · refine kept_updCore ?_ (mask_sub (by decide) hA)
        · exact h_s
      · exact h_s
    · extract_lets -merge -useContext -underBinder x2
      refine Kept.ite ?_ ?_
      · exact h_s
      · split
        · extract_lets -merge -useContext -underBinder x3
          have h3 : Kept A s0 x3 := by
            unfold x3
            refine kept_updCore ?_ (mask_sub (by decide) hA)
            · refine kept_updPort ?_ (mask_sub (by decide) hA)
              · exact h_s
          clear_value x3
          refine Kept.ite ?_ ?_
          · refine kept_updCore ?_ (mask_sub (by decide) hA)
            · exact h3
          · exact h3
        · extract_lets -merge -useContext -underBinder x4
          have h4 : Kept A s0 x4 := by
            unfold x4
            refine kept_updPort ?_ (mask_sub (by decide) hA)
            · exact h_s
          clear_value x4
          refine kept_drainWafer ?_ (mask_sub (by decide) hA)
          · refine kept_raiseOnce ?_ (mask_sub (by decide) hA)
            · exact h4
theorem kept_execFenceBoundary {A : Nat} {s0 : State} {k : Sys2Proof.ClusterId} {p : Sys2Proof.CoreId} {s : Sys2Proof.Machine.State} (h_s : Kept A s0 s) (hA : 288232575980275224 ||| A = A) :
    KeptO A s0 (execFenceBoundary k p s) := by
  unfold execFenceBoundary
  refine KeptO.next ?_
  refine kept_fenceBoundary ?_ (mask_sub (by decide) hA)
  · exact h_s
theorem kept_execMigrationDone {A : Nat} {s0 : State} {k : Sys2Proof.ClusterId} {cycles : Nat} {z2 : Bool} {s : Sys2Proof.Machine.State} (h_s : Kept A s0 s) (hA : 536870912 ||| A = A) :
    KeptO A s0 (execMigrationDone k cycles z2 s) := by
  unfold execMigrationDone
  refine KeptO.next ?_
  refine kept_migrationDone ?_ (mask_sub (by decide) hA)
  · exact h_s
theorem kept_loadAt {A : Nat} {s0 : State} {s : Sys2Proof.Machine.State} {k : Nat} {kind : Nat} {i : Nat} {len : Nat} {bytes : List Sys2Proof.Byte} (h_s : Kept A s0 s) (hA : 2147483648 ||| A = A) :
    KeptL A s0 (State.loadAt s k kind i len bytes) := by
  unfold State.loadAt
  extract_lets -merge -useContext -underBinder x1 x2
  refine KeptL.ite ?_ ?_
  · refine KeptL.mk ?_
    exact h_s
  · refine KeptL.ite ?_ ?_
    · refine KeptL.mk ?_
      exact h_s
    · refine KeptL.ite ?_ ?_
      · refine KeptL.mk ?_
        exact h_s
      · refine KeptL.ite ?_ ?_
        · refine KeptL.mk ?_
          refine kept_updSlot ?_ (mask_sub (by decide) hA)
          · exact h_s
        · split
          · refine KeptL.mk ?_
            exact h_s
          · extract_lets -merge -useContext -underBinder x3
            have h3 : Kept A s0 x3 := by
              unfold x3
              refine kept_updRplOf ?_ (mask_sub (by decide) hA)
              · exact h_s
            clear_value x3
            refine KeptL.mk ?_
            refine kept_updSlot ?_ (mask_sub (by decide) hA)
            · exact h3
theorem kept_loadRefused {A : Nat} {s0 : State} {s : Sys2Proof.Machine.State} {k : Nat} {st : Nat} (h_s : Kept A s0 s) (hA : 1560 ||| A = A) :
    Kept A s0 (State.loadRefused s k st) := by
  unfold State.loadRefused
  refine Kept.ite ?_ ?_
  · exact h_s
  · refine kept_raiseOnce ?_ (mask_sub (by decide) hA)
    · exact h_s
theorem kept_descriptorBroadcastAnswer {A : Nat} {s0 : State} {s : Sys2Proof.Machine.State} {k : Nat} {t : Nat} (h_s : Kept A s0 s) (hA : 36893488149566588440 ||| A = A) :
    Kept A s0 (descriptorBroadcastAnswer s k t) := by
  unfold descriptorBroadcastAnswer
  extract_lets -merge -useContext -underBinder x1
  split
  · exact h_s
  · extract_lets -merge -useContext -underBinder x2 x3 x4 x5 x6 x7 x8 x9
    have h2 : Kept A s0 x2 := by
      unfold x2
      refine Kept.ite ?_ ?_
      · refine kept_freeAt ?_ (mask_sub (by decide) hA)
        · exact h_s
      · exact h_s
    have h3 : KeptL A s0 x3 := by
      unfold x3
      refine KeptL.ite ?_ ?_
      · refine KeptL.mk ?_
        exact h2
      · refine kept_loadAt ?_ (mask_sub (by decide) hA)
        · exact h2
    have h4 : Kept A s0 x4 := by
      unfold x4
      refine Kept.ite ?_ ?_
      · refine KeptL.fst ?_
        exact h3
      · refine kept_loadRefused ?_ (mask_sub (by decide) hA)
        · refine KeptL.fst ?_
          exact h3
    have h7 : Kept A s0 x7 := by
      unfold x7
      refine kept_updRplOf ?_ (mask_sub (by decide) hA)
      · exact h4
    have h9 : Kept A s0 x9 := by
      unfold x9
      refine Kept.ite ?_ ?_
      · refine kept_updDescBytes ?_ (mask_sub (by decide) hA)
        · exact h7
      · exact h7
    clear_value x2 x3 x4 x7 x9
    refine Kept.ite ?_ ?_
    · exact h_s
    · refine Kept.ite ?_ ?_
      · exact h2
      · refine Kept.ite ?_ ?_
        · refine kept_wr ?_ (mask_sub (by decide) hA)
          · exact h9
        · refine kept_updRplOf ?_ (mask_sub (by decide) hA)
          · exact h4
theorem kept_invalAt {A : Nat} {s0 : State} {s : Sys2Proof.Machine.State} {k : Nat} {kind : Nat} {i : Nat} (h_s : Kept A s0 s) (hA : 2147483648 ||| A = A) :
    Kept A s0 (State.invalAt s k kind i) := by
  unfold State.invalAt
  extract_lets -merge -useContext -underBinder x1
  refine Kept.ite ?_ ?_
  · refine kept_updSlot ?_ (mask_sub (by decide) hA)
    · exact h_s
  · exact h_s
theorem kept_descriptorInvalidate {A : Nat} {s0 : State} {s : Sys2Proof.Machine.State} {k : Nat} (h_s : Kept A s0 s) (hA : 36893488149566586888 ||| A = A) :
    Kept A s0 (descriptorInvalidate s k) := by
  unfold descriptorInvalidate
  extract_lets -merge -useContext -underBinder x1 x2 x3 x4 x5 x6 x7
  have h4 : Kept A s0 x4 := by
    unfold x4
    refine kept_wr ?_ (mask_sub (by decide) hA)
    · exact h_s
  have h6 : Kept A s0 x6 := by
    unfold x6
    refine kept_each ?_ (fun _ _ h8 => ?_)
    · exact h4
    · refine kept_invalAt ?_ (mask_sub (by decide) hA)
      · exact h8
  have h7 : Kept A s0 x7 := by
    unfold x7
    refine kept_freeSlots ?_ (mask_sub (by decide) hA)
    · refine kept_updRplOf ?_ (mask_sub (by decide) hA)
      · refine kept_invalAt ?_ (mask_sub (by decide) hA)
        · exact h4
  clear_value x4 x6 x7
  refine Kept.ite ?_ ?_
  · exact h_s
  · refine Kept.ite ?_ ?_
    · refine kept_freeSlots ?_ (mask_sub (by decide) hA)
      · refine kept_updRplOf ?_ (mask_sub (by decide) hA)
        · refine kept_updDescBytes ?_ (mask_sub (by decide) hA)
          · exact h6
    · refine Kept.ite ?_ ?_
      · exact h7
      · refine kept_wr ?_ (mask_sub (by decide) hA)
        · refine kept_updRplOf ?_ (mask_sub (by decide) hA)
          · exact h7
theorem kept_descriptorLoad {A : Nat} {s0 : State} {s : Sys2Proof.Machine.State} {k : Nat} (h_s : Kept A s0 s) (hA : 2147485208 ||| A = A) :
    Kept A s0 (descriptorLoad s k) := by
  unfold descriptorLoad
  extract_lets -merge -useContext -underBinder x1 x2 x3 x4 x5 x6
  have h6 : KeptL A s0 x6 := by
    unfold x6
    refine kept_loadAt ?_ (mask_sub (by decide) hA)
    · refine kept_updRplOf ?_ (mask_sub (by decide) hA)
      · exact h_s
  clear_value x6
  refine Kept.ite ?_ ?_
  · exact h_s
  · refine Kept.ite ?_ ?_
    · refine kept_wr ?_ (mask_sub (by decide) hA)
      · refine kept_updRplOf ?_ (mask_sub (by decide) hA)
        · exact h_s
    · refine kept_loadRefused ?_ (mask_sub (by decide) hA)
      · refine kept_wr ?_ (mask_sub (by decide) hA)
        · refine KeptL.fst ?_
          exact h6
theorem kept_execDescriptorBroadcastAnswer {A : Nat} {s0 : State} {k : Sys2Proof.ClusterId} {t : Sys2Proof.ClusterId} {s : Sys2Proof.Machine.State} (h_s : Kept A s0 s) (hA : 36893488149566588440 ||| A = A) :
    KeptO A s0 (execDescriptorBroadcastAnswer k t s) := by
  unfold execDescriptorBroadcastAnswer
  refine KeptO.next ?_
  refine kept_descriptorBroadcastAnswer ?_ (mask_sub (by decide) hA)
  · exact h_s
theorem kept_peakCnt {A : Nat} {s0 : State} {s : Sys2Proof.Machine.State} {u : Nat} {F : Sys2Proof.Fld} {v : Nat} (h_s : Kept A s0 s) (hA : 16 ||| A = A) :
    Kept A s0 (State.peakCnt s u F v) := by
  unfold State.peakCnt
  refine Kept.u_ecnt ?_ (mask_sub (by decide) hA)
  exact h_s
theorem kept_steerKill {A : Nat} {s0 : State} {s : Sys2Proof.Machine.State} {k : Nat} {c : Nat} {step : Nat} (h_s : Kept A s0 s) (hA : 1360189427277106227985976 ||| A = A) :
    Kept A s0 (State.steerKill s k c step) := by
  unfold State.steerKill
  refine kept_killCtx ?_ (mask_sub (by decide) hA)
  · refine kept_raise ?_ (mask_sub (by decide) hA)
    · exact h_s
theorem kept_updStep {A : Nat} {s0 : State} {s : Sys2Proof.Machine.State} {r : Nat} {c : Nat} {t : Nat} {f : Sys2Proof.StepCheck → Sys2Proof.StepCheck} (h_s : Kept A s0 s) (hA : 4294967296 ||| A = A) :
    Kept A s0 (State.updStep s r c t f) := by
  unfold State.updStep
  refine Kept.u_steps ?_ (mask_sub (by decide) hA)
  exact h_s
theorem kept_askRedo {A : Nat} {s0 : State} {s : Sys2Proof.Machine.State} {r : Nat} {c : Nat} {t : Nat} {g : Sys2Proof.GatedCmd} (h_s : Kept A s0 s) (hA : 7516194816 ||| A = A) :
    Kept A s0 (State.askRedo s r c t g) := by
  unfold State.askRedo
  extract_lets -merge -useContext -underBinder x1
  have h1 : ∀ y1_0, Kept A s0 (x1 y1_0) := by
    intro y1_0
    unfold x1
    refine kept_updStep ?_ (mask_sub (by decide) hA)
    · exact h_s
  clear_value x1
  split
  · refine kept_rptAsk ?_ (mask_sub (by decide) hA)
    · refine h1 _
  · refine h1 _
theorem kept_redoStep {A : Nat} {s0 : State} {s : Sys2Proof.Machine.State} {r : Nat} {c : Nat} {t : Nat} (h_s : Kept A s0 s) (hA : 7518291968 ||| A = A) :
    Kept A s0 (State.redoStep s r c t) := by
  unfold State.redoStep
  split
  · exact h_s
  · extract_lets -merge -useContext -underBinder x1 x2 x3
    have h3 : Kept A s0 x3 := by
      unfold x3
      refine kept_updStep ?_ (mask_sub (by decide) hA)
      · exact h_s
    clear_value x3
    refine Kept.ite ?_ ?_
    · exact h_s
    · refine kept_markRedo ?_ (mask_sub (by decide) hA)
      · refine kept_each ?_ (fun _ _ h4 => ?_)
        · exact h3
        · split
          · refine Kept.ite ?_ ?_
            · exact h4
            · refine kept_askRedo ?_ (mask_sub (by decide) hA)
              · exact h4
          · exact h4
theorem kept_privIncomplete {A : Nat} {s0 : State} {s : Sys2Proof.Machine.State} {k : Nat} {cmd : Nat} (h_s : Kept A s0 s) (hA : 18018812665544248 ||| A = A) :
    Kept A s0 (State.privIncomplete s k cmd) := by
  unfold State.privIncomplete
  split
  · extract_lets -merge -useContext -underBinder x1 x2 x3
    refine Kept.ite ?_ ?_
    · exact h_s
    · refine Kept.ite ?_ ?_
      · refine kept_rplRegion ?_ (mask_sub (by decide) hA)
        · refine kept_each ?_ (fun _ _ h4 => ?_)
          · exact h_s
          · extract_lets -merge -useContext -underBinder x5
            refine kept_enterUnit ?_ (mask_sub (by decide) hA)
            · exact h4
      · refine Kept.ite ?_ ?_
        · refine kept_updRcmd ?_ (mask_sub (by decide) hA)
          · exact h_s
        · refine Kept.ite ?_ ?_
          · refine kept_redoStep ?_ (mask_sub (by decide) hA)
            · refine kept_updStep ?_ (mask_sub (by decide) hA)
              · exact h_s
          · refine kept_rptAsk ?_ (mask_sub (by decide) hA)
            · exact h_s
  · exact h_s
end Sys2Proof.Machine
end

