-- ==== Sys2Proof/Laws/Kept2.lean ====
section
/-! SUPPORT. What every operation on the state keeps, part 3: callees come before their callers. -/
namespace Sys2Proof.Machine
open Sys2Proof Host
theorem kept_stepRecord {A : Nat} {s0 : State} {s : Sys2Proof.Machine.State} {c : Nat} {t : Nat} {token : Nat × Nat} {verdict : Nat} (h_s : Kept A s0 s) (hA : 295147905179352826392 ||| A = A) :
    Kept A s0 (State.stepRecord s c t token verdict) := by
  unfold State.stepRecord
  extract_lets -merge -useContext -underBinder x1 x2
  refine Kept.ite ?_ ?_
  · exact h_s
  · refine Kept.ite ?_ ?_
    · refine kept_raise ?_ (mask_sub (by decide) hA)
      · refine kept_flag ?_ (mask_sub (by decide) hA)
        · exact h_s
    · refine kept_wr ?_ (mask_sub (by decide) hA)
      · refine Kept.u_prv ?_ (mask_sub (by decide) hA)
        exact h_s
theorem kept_stepVerdict {A : Nat} {s0 : State} {s : Sys2Proof.Machine.State} {r : Nat} {c : Nat} {t : Nat} (h_s : Kept A s0 s) (hA : 19343108279758058811571768 ||| A = A) :
    Kept A s0 (State.stepVerdict s r c t) := by
  unfold State.stepVerdict
  split
  · exact h_s
  · refine Kept.ite ?_ ?_
    · exact h_s
    · split
      · exact h_s
      · extract_lets -merge -useContext -underBinder x1 x2 x3 x4 x5 x6 x7 x8 x9
        have h1 : Kept A s0 x1 := by
          unfold x1
          refine kept_updStep ?_ (mask_sub (by decide) hA)
          · exact h_s
        have h2 : Kept A s0 x2 := by
          unfold x2
          refine kept_emit ?_ (mask_sub (by decide) hA)
          · exact h1
        have h3 : Kept A s0 x3 := by
          unfold x3
          refine kept_each ?_ (fun _ _ h10 => ?_)
          · exact h2
          · refine kept_raise ?_ (mask_sub (by decide) hA)
            · exact h10
        have h4 : Kept A s0 x4 := by
          unfold x4
          split
          · exact h3
          · refine Kept.ite ?_ ?_
            · refine kept_raise ?_ (mask_sub (by decide) hA)
              · exact h3
            · exact h3
          · refine Kept.u_passSeen ?_ (mask_sub (by decide) hA)
            exact h3
        have h7 : Kept A s0 x7 := by
          unfold x7
          refine kept_peakCnt ?_ (mask_sub (by decide) hA)
          · exact h4
        have h8 : Kept A s0 x8 := by
          unfold x8
          refine Kept.ite ?_ ?_
          · refine kept_raiseOnce ?_ (mask_sub (by decide) hA)
            · refine kept_count ?_ (mask_sub (by decide) hA)
              · exact h7
          · exact h7
        have h9 : Kept A s0 x9 := by
          unfold x9
          refine kept_stepRecord ?_ (mask_sub (by decide) hA)
          · exact h8
        clear_value x1 x2 x3 x4 x7 x8 x9
        refine kept_rplRegion ?_ (mask_sub (by decide) hA)
        · exact h9
theorem kept_privPartialSelection {A : Nat} {s0 : State} {s : Sys2Proof.Machine.State} {k : Nat} {t : Nat} {c : Nat} {step : Nat} {upset : Option Sys2Proof.CaseVal} (h_s : Kept A s0 s) (hA : 18018808368479800 ||| A = A) :
    Kept A s0 (privPartialSelection s k t c step upset) := by
  unfold privPartialSelection
  extract_lets -merge -useContext -underBinder x1
  split
  · exact h_s
  · extract_lets -merge -useContext -underBinder x2 x3 x4 x5
    have h3 : Kept A s0 x3 := by
      unfold x3
      refine kept_each ?_ (fun _ _ h9 => ?_)
      · exact h_s
      · split
        · extract_lets -merge -useContext -underBinder x10
          refine kept_updRcmd ?_ (mask_sub (by decide) hA)
          · refine kept_updRunit ?_ (mask_sub (by decide) hA)
            · exact h9
        · exact h9
    have h4 : Kept A s0 x4 := by
      unfold x4
      refine kept_each ?_ (fun _ _ h8 => ?_)
      · exact h3
      · refine kept_updRunit ?_ (mask_sub (by decide) hA)
        · exact h8
    have h5 : Kept A s0 x5 := by
      unfold x5
      refine kept_each ?_ (fun _ _ h6 => ?_)
      · exact h4
      · refine kept_each ?_ (fun _ _ h7 => ?_)
        · exact h6
        · refine kept_updRunit ?_ (mask_sub (by decide) hA)
          · exact h7
    clear_value x3 x4 x5
    refine Kept.ite ?_ ?_
    · exact h_s
    · refine kept_rplRegion ?_ (mask_sub (by decide) hA)
      · exact h5
theorem kept_execPrivPartialSelection {A : Nat} {s0 : State} {k : Sys2Proof.ClusterId} {t : Sys2Proof.ClusterId} {ctx : Sys2Proof.Ctx} {step : Sys2Proof.Step} {upset : Option Sys2Proof.CaseVal} {s : Sys2Proof.Machine.State} (h_s : Kept A s0 s) (hA : 18018808368479800 ||| A = A) :
    KeptO A s0 (execPrivPartialSelection k t ctx step upset s) := by
  unfold execPrivPartialSelection
  refine KeptO.next ?_
  refine kept_privPartialSelection ?_ (mask_sub (by decide) hA)
  · exact h_s
theorem kept_steerAgain {A : Nat} {s0 : State} {s : Sys2Proof.Machine.State} {k : Nat} (h_s : Kept A s0 s) (hA : 1360189427277106227985976 ||| A = A) :
    Kept A s0 (State.steerAgain s k) := by
  unfold State.steerAgain
  split
  · split
    · refine kept_steerKill ?_ (mask_sub (by decide) hA)
      · refine kept_rptGo ?_ (mask_sub (by decide) hA)
        · refine kept_rqSet ?_ (mask_sub (by decide) hA)
          · exact h_s
    · exact h_s
  · exact h_s
theorem kept_gatedEnd {A : Nat} {s0 : State} {s : Sys2Proof.Machine.State} {k : Nat} {d : Sys2Proof.Desc} {sampler : Bool} (h_s : Kept A s0 s) (hA : 4294967296 ||| A = A) :
    Kept A s0 (State.gatedEnd s k d sampler) := by
  unfold State.gatedEnd
  extract_lets -merge -useContext -underBinder x1
  refine kept_updStep ?_ (mask_sub (by decide) hA)
  · exact h_s
theorem kept_outcomeIn {A : Nat} {s0 : State} {s : Sys2Proof.Machine.State} {k : Nat} {cmd : Nat} {d : Sys2Proof.Desc} {isRedo : Bool} {o : Sys2Proof.PrivOutcome} (h_s : Kept A s0 s) (hA : 19343108279758058813668920 ||| A = A) :
    Kept A s0 (State.outcomeIn s k cmd d isRedo o) := by
  unfold State.outcomeIn
  extract_lets -merge -useContext -underBinder x1 x2 x3 x4 x5
  have h5 : Kept A s0 x5 := by
    unfold x5
    refine kept_updStep ?_ (mask_sub (by decide) hA)
    · exact h_s
  clear_value x5
  refine kept_stepVerdict ?_ (mask_sub (by decide) hA)
  · refine kept_redoStep ?_ (mask_sub (by decide) hA)
    · exact h5
theorem kept_privOutcome {A : Nat} {s0 : State} {s : Sys2Proof.Machine.State} {k : Nat} {cmd : Nat} {out : Sys2Proof.PrivOutcome} (h_s : Kept A s0 s) (hA : 19343108279758058813668920 ||| A = A) :
    Kept A s0 (privOutcome s k cmd out) := by
  unfold privOutcome
  split
  · refine Kept.ite ?_ ?_
    · exact h_s
    · split
      · exact h_s
      · extract_lets -merge -useContext -underBinder x1 x2 x3
        have h2 : Kept A s0 x2 := by
          unfold x2
          split
          · refine kept_updStep ?_ (mask_sub (by decide) hA)
            · exact h_s
          · exact h_s
        have h3 : Kept A s0 x3 := by
          unfold x3
          refine Kept.ite ?_ ?_
          · refine kept_bankCount ?_ (mask_sub (by decide) hA)
            · refine kept_count ?_ (mask_sub (by decide) hA)
              · exact h2
          · refine Kept.ite ?_ ?_
            · refine kept_count ?_ (mask_sub (by decide) hA)
              · exact h2
            · exact h2
        clear_value x2 x3
        refine Kept.ite ?_ ?_
        · refine kept_outcomeIn ?_ (mask_sub (by decide) hA)
          · exact h3
        · exact h3
  · exact h_s
theorem kept_execPrivOutcome {A : Nat} {s0 : State} {k : Sys2Proof.ClusterId} {id : Sys2Proof.CmdId} {out : Sys2Proof.PrivOutcome} {s : Sys2Proof.Machine.State} (h_s : Kept A s0 s) (hA : 19343108280321008767090232 ||| A = A) :
    KeptO A s0 (execPrivOutcome k id out s) := by
  unfold execPrivOutcome
  refine KeptO.next ?_
  refine kept_privOutcome ?_ (mask_sub (by decide) hA)
  · refine kept_item ?_ (mask_sub (by decide) hA)
    · exact h_s
theorem kept_gatedStart {A : Nat} {s0 : State} {s : Sys2Proof.Machine.State} {k : Nat} {d : Sys2Proof.Desc} (h_s : Kept A s0 s) (hA : 7518291968 ||| A = A) :
    Kept A s0 (State.gatedStart s k d) := by
  unfold State.gatedStart
  extract_lets -merge -useContext -underBinder x1 x2 x3
  have h3 : Kept A s0 x3 := by
    unfold x3
    split
    · refine kept_updStep ?_ (mask_sub (by decide) hA)
      · exact h_s
    · refine Kept.u_steps ?_ (mask_sub (by decide) hA)
      exact h_s
  clear_value x3
  refine kept_redoStep ?_ (mask_sub (by decide) hA)
  · exact h3
theorem kept_unfitCmd {A : Nat} {s0 : State} {s : Sys2Proof.Machine.State} {k : Nat} {d : Sys2Proof.Desc} {w : Sys2Proof.Machine.Unfit} (h_s : Kept A s0 s) (hA : 590295810358705653304 ||| A = A) :
    Kept A s0 (State.unfitCmd s k d w) := by
  unfold State.unfitCmd
  extract_lets -merge -useContext -underBinder x1
  split
  · exact h_s
  · refine kept_pairUnchecked ?_ (mask_sub (by decide) hA)
    · refine kept_raiseOnce ?_ (mask_sub (by decide) hA)
      · refine kept_count ?_ (mask_sub (by decide) hA)
        · exact h_s
  · refine kept_raiseOnce ?_ (mask_sub (by decide) hA)
    · refine kept_count ?_ (mask_sub (by decide) hA)
      · exact h_s
theorem kept_coverage {A : Nat} {s0 : State} {s : Sys2Proof.Machine.State} {k : Nat} {d : Sys2Proof.Desc} (h_s : Kept A s0 s) (hA : 134217736 ||| A = A) :
    Kept A s0 (State.coverage s k d) := by
  unfold State.coverage
  extract_lets -merge -useContext -underBinder x1
  refine kept_each ?_ (fun _ _ h2 => ?_)
  · exact h_s
  · refine kept_tapContext ?_ (mask_sub (by decide) hA)
    · exact h2
theorem kept_firstStart {A : Nat} {s0 : State} {s : Sys2Proof.Machine.State} {k : Nat} {d : Sys2Proof.Desc} {c : Sys2Proof.RplCmd} (h_s : Kept A s0 s) (hA : 590295810366223945272 ||| A = A) :
    Kept A s0 (State.firstStart s k d c) := by
  unfold State.firstStart
  extract_lets -merge -useContext -underBinder x1 x2 x3 x4
  have h2 : Kept A s0 x2 := by
    unfold x2
    refine kept_updRplOf ?_ (mask_sub (by decide) hA)
    · exact h_s
  have h3 : Kept A s0 x3 := by
    unfold x3
    refine Kept.ite ?_ ?_
    · refine kept_pairUnchecked ?_ (mask_sub (by decide) hA)
      · refine kept_raiseOnce ?_ (mask_sub (by decide) hA)
        · refine kept_count ?_ (mask_sub (by decide) hA)
          · exact h2
    · exact h2
  clear_value x2 x3
  refine Kept.ite ?_ ?_
  · refine kept_gatedStart ?_ (mask_sub (by decide) hA)
    · exact h3
  · exact h3
theorem kept_descriptorIn {A : Nat} {s0 : State} {s : Sys2Proof.Machine.State} {k : Nat} {x : Nat} {opr : Option Nat} (h_s : Kept A s0 s) (hA : 590313829171513802296 ||| A = A) :
    Kept A s0 (State.descriptorIn s k x opr) := by
  unfold State.descriptorIn
  extract_lets -merge -useContext -underBinder x1 x2 x3 x4 x5 x6 x7 x8 x9 x10 x11 x12 x13 x14 x15 x16 x17 x18 x19 x20
  have h13 : Kept A s0 x13 := by
    unfold x13
    refine kept_updRplOf ?_ (mask_sub (by decide) hA)
    · exact h_s
  have h14 : Kept A s0 x14 := by
    unfold x14
    refine kept_each ?_ (fun _ _ h21 => ?_)
    · exact h13
    · refine kept_unitsOut ?_ (mask_sub (by decide) hA)
      · exact h21
  have h15 : Kept A s0 x15 := by
    unfold x15
    refine kept_unfitCmd ?_ (mask_sub (by decide) hA)
    · refine kept_coverage ?_ (mask_sub (by decide) hA)
      · exact h14
  have h16 : Kept A s0 x16 := by
    unfold x16
    clear_value x5
    split
    · refine Kept.ite ?_ ?_
      · refine kept_raiseOnce ?_ (mask_sub (by decide) hA)
        · exact h15
      · exact h15
    · exact h15
  have h17 : KeptL A s0 x17 := by
    unfold x17
    refine kept_seedFor ?_ (mask_sub (by decide) hA)
    · exact h16
  have h18 : Kept A s0 x18 := by
    unfold x18
    refine KeptL.fst ?_
    exact h17
  have h19 : Kept A s0 x19 := by
    unfold x19
    refine Kept.ite ?_ ?_
    · refine kept_mapWaits ?_ (mask_sub (by decide) hA)
      · exact h18
    · clear_value x5
      split
      · refine Kept.ite ?_ ?_
        · exact h18
        · refine kept_sampleCmd ?_ (mask_sub (by decide) hA)
          · exact h18
      · exact h18
  have h20 : Kept A s0 x20 := by
    unfold x20
    refine Kept.ite ?_ ?_
    · refine kept_updRcmd ?_ (mask_sub (by decide) hA)
      · refine kept_firstStart ?_ (mask_sub (by decide) hA)
        · refine kept_pairUnchecked ?_ (mask_sub (by decide) hA)
          · exact h19
    · exact h19
  clear_value x13 x14 x15 x16 x17 x18 x19 x20
  refine kept_pairTry ?_ (mask_sub (by decide) hA)
  · refine kept_rplRegion ?_ (mask_sub (by decide) hA)
    · refine kept_pairCommand ?_ (mask_sub (by decide) hA)
      · exact h20
theorem kept_descriptorArrive {A : Nat} {s0 : State} {s : Sys2Proof.Machine.State} {k : Nat} {x : Nat} {opr : Option Nat} (h_s : Kept A s0 s) (hA : 590313829171513802296 ||| A = A) :
    Kept A s0 (descriptorArrive s k x opr) := by
  unfold descriptorArrive
  extract_lets -merge -useContext -underBinder x1
  refine Kept.ite ?_ ?_
  · refine kept_emit ?_ (mask_sub (by decide) hA)
    · exact h_s
  · refine kept_descriptorIn ?_ (mask_sub (by decide) hA)
    · exact h_s
theorem kept_repeatAlarm {A : Nat} {s0 : State} {s : Sys2Proof.Machine.State} {k : Nat} (h_s : Kept A s0 s) (hA : 1360189427277106227985976 ||| A = A) :
    Kept A s0 (State.repeatAlarm s k) := by
  unfold State.repeatAlarm
  split
  · split
    · refine kept_updCase ?_ (mask_sub (by decide) hA)
      · exact h_s
    · refine kept_steerAgain ?_ (mask_sub (by decide) hA)
      · exact h_s
    · exact h_s
  · exact h_s
theorem kept_residueAlarm {A : Nat} {s0 : State} {s : Sys2Proof.Machine.State} {k : Nat} {p : Nat} (h_s : Kept A s0 s) (hA : 1360189427277106362203704 ||| A = A) :
    Kept A s0 (residueAlarm s k p) := by
  unfold residueAlarm
  split
  · exact h_s
  · extract_lets -merge -useContext -underBinder x1 x2 x3 x4 x5 x6 x7 x8 x9 x10 x11
    have h1 : Kept A s0 x1 := by
      unfold x1
      refine kept_updTap ?_ (mask_sub (by decide) hA)
      · exact h_s
    have h5 : Kept A s0 x5 := by
      unfold x5
      refine kept_bankCount ?_ (mask_sub (by decide) hA)
      · refine kept_count ?_ (mask_sub (by decide) hA)
        · exact h1
    have h6 : Kept A s0 x6 := by
      unfold x6
      refine kept_trace ?_ (mask_sub (by decide) hA)
      · exact h5
    have h7 : Kept A s0 x7 := by
      unfold x7
      refine kept_raiseOnce ?_ (mask_sub (by decide) hA)
      · exact h6
    have h10 : Kept A s0 x10 := by
      unfold x10
      refine Kept.ite ?_ ?_
      · refine kept_updRcmd ?_ (mask_sub (by decide) hA)
        · exact h7
      · exact h7
    have h11 : KeptL A s0 x11 := by
      unfold x11
      refine kept_openCase ?_ (mask_sub (by decide) hA)
      · exact h10
    clear_value x1 x5 x6 x7 x10 x11
    refine Kept.ite ?_ ?_
    · refine kept_repeatAlarm ?_ (mask_sub (by decide) hA)
      · exact h7
    · refine Kept.ite ?_ ?_
      · refine kept_updRcmd ?_ (mask_sub (by decide) hA)
        · refine KeptL.fst ?_
          exact h11
      · refine KeptL.fst ?_
        exact h11
theorem kept_usageReport {A : Nat} {s0 : State} {s : Sys2Proof.Machine.State} {k : Nat} {p : Nat} (h_s : Kept A s0 s) (hA : 604462909807314721570864 ||| A = A) :
    Kept A s0 (usageReport s k p) := by
  unfold usageReport
  split
  · exact h_s
  · extract_lets -merge -useContext -underBinder x1 x2 x3 x4
    have h1 : Kept A s0 x1 := by
      unfold x1
      refine kept_updThmOf ?_ (mask_sub (by decide) hA)
      · refine kept_updTap ?_ (mask_sub (by decide) hA)
        · exact h_s
    have h3 : Kept A s0 x3 := by
      unfold x3
      refine kept_bankCount ?_ (mask_sub (by decide) hA)
      · refine kept_bankCount ?_ (mask_sub (by decide) hA)
        · exact h1
    have h4 : Kept A s0 x4 := by
      unfold x4
      refine kept_bankCount ?_ (mask_sub (by decide) hA)
      · refine kept_bankCount ?_ (mask_sub (by decide) hA)
        · exact h3
    clear_value x1 x3 x4
    refine kept_bankCount ?_ (mask_sub (by decide) hA)
    · refine kept_bankCount ?_ (mask_sub (by decide) hA)
      · exact h4
theorem kept_execUsageReport {A : Nat} {s0 : State} {k : Sys2Proof.ClusterId} {p : Sys2Proof.CoreId} {s : Sys2Proof.Machine.State} (h_s : Kept A s0 s) (hA : 604462910370264674992176 ||| A = A) :
    KeptO A s0 (execUsageReport k p s) := by
  unfold execUsageReport
  refine KeptO.next ?_
  refine Kept.ite ?_ ?_
  · exact h_s
  · refine kept_usageReport ?_ (mask_sub (by decide) hA)
    · refine kept_item ?_ (mask_sub (by decide) hA)
      · exact h_s
theorem kept_atomicDiscard {A : Nat} {s0 : State} {s : Sys2Proof.Machine.State} {k : Nat} {port : Nat} {pres : Sys2Proof.DscPres} (h_s : Kept A s0 s) (hA : 18018799778545208 ||| A = A) :
    Kept A s0 (atomicDiscard s k port pres) := by
  unfold atomicDiscard
  split
  · exact h_s
  · extract_lets -merge -useContext -underBinder x1 x2 x3 x4 x5 x6
    have h3 : ∀ y3_0, Kept A s0 y3_0 → Kept A s0 (x3 y3_0) := by
      intro y3_0 h3_0
      unfold x3
      refine kept_count ?_ (mask_sub (by decide) hA)
      · exact h3_0
    clear_value x3
    refine Kept.ite ?_ ?_
    · refine h3 _ ?_
      · exact h_s
    · refine Kept.ite ?_ ?_
      · refine kept_raiseOnce ?_ (mask_sub (by decide) hA)
        · refine h3 _ ?_
          · exact h_s
      · split
        · extract_lets -merge -useContext -underBinder x7 x8 x9 x10 x11 x12 x13 x14 x15 x16
          have h8 : Kept A s0 x8 := by
            unfold x8
            refine kept_bankCount ?_ (mask_sub (by decide) hA)
            · refine kept_count ?_ (mask_sub (by decide) hA)
              · exact h_s
          have h10 : Kept A s0 x10 := by
            unfold x10
            refine kept_count ?_ (mask_sub (by decide) hA)
            · exact h8
          have h11 : Kept A s0 x11 := by
            unfold x11
            refine kept_raiseOnce ?_ (mask_sub (by decide) hA)
            · exact h10
          have h12 : Kept A s0 x12 := by
            unfold x12
            refine kept_trace ?_ (mask_sub (by decide) hA)
            · exact h11
          have h13 : Kept A s0 x13 := by
            unfold x13
            refine Kept.ite ?_ ?_
            · refine kept_updRcmd ?_ (mask_sub (by decide) hA)
              · exact h12
            · exact h12
          have h16 : KeptL A s0 x16 := by
            unfold x16
            refine kept_openCase ?_ (mask_sub (by decide) hA)
            · exact h13
          clear_value x8 x10 x11 x12 x13 x16
          refine Kept.ite ?_ ?_
          · exact h8
          · refine Kept.ite ?_ ?_
            · refine kept_updRcmd ?_ (mask_sub (by decide) hA)
              · refine KeptL.fst ?_
                exact h16
            · refine KeptL.fst ?_
              exact h16
        · refine kept_raiseOnce ?_ (mask_sub (by decide) hA)
          · refine h3 _ ?_
            · exact h_s
theorem kept_residueSummary {A : Nat} {s0 : State} {s : Sys2Proof.Machine.State} {k : Nat} {p : Nat} (h_s : Kept A s0 s) (hA : 1360779723087477961145912 ||| A = A) :
    Kept A s0 (residueSummary s k p) := by
  unfold residueSummary
  split
  · exact h_s
  · extract_lets -merge -useContext -underBinder x1 x2 x3 x4 x5 x6 x7 x8 x9 x10 x11
    have h1 : Kept A s0 x1 := by
      unfold x1
      refine kept_updTap ?_ (mask_sub (by decide) hA)
      · exact h_s
    have h6 : Kept A s0 x6 := by
      unfold x6
      refine kept_count ?_ (mask_sub (by decide) hA)
      · exact h1
    have h7 : Kept A s0 x7 := by
      unfold x7
      refine kept_trace ?_ (mask_sub (by decide) hA)
      · exact h6
    have h8 : Kept A s0 x8 := by
      unfold x8
      refine kept_bankCount ?_ (mask_sub (by decide) hA)
      · refine kept_bankCount ?_ (mask_sub (by decide) hA)
        · refine kept_bankCount ?_ (mask_sub (by decide) hA)
          · refine kept_bankCount ?_ (mask_sub (by decide) hA)
            · exact h7
    have h9 : Kept A s0 x9 := by
      unfold x9
      clear_value x3
      split
      · refine kept_pairReport ?_ (mask_sub (by decide) hA)
        · exact h8
      · exact h8
    have h10 : Kept A s0 x10 := by
      unfold x10
      refine Kept.ite ?_ ?_
      · refine kept_privIncomplete ?_ (mask_sub (by decide) hA)
        · refine kept_raiseOnce ?_ (mask_sub (by decide) hA)
          · refine kept_count ?_ (mask_sub (by decide) hA)
            · exact h9
      · exact h9
    have h11 : Kept A s0 x11 := by
      unfold x11
      refine Kept.ite ?_ ?_
      · refine kept_steerAgain ?_ (mask_sub (by decide) hA)
        · exact h10
      · exact h10
    clear_value x1 x6 x7 x8 x9 x10 x11
    refine Kept.ite ?_ ?_
    · exact h_s
    · refine kept_pairTry ?_ (mask_sub (by decide) hA)
      · exact h11
theorem kept_execAtomicDiscardPresentation {A : Nat} {s0 : State} {k : Sys2Proof.ClusterId} {port : Fin 8} {pres : Sys2Proof.DscPres} {s : Sys2Proof.Machine.State} (h_s : Kept A s0 s) (hA : 18018799778545208 ||| A = A) :
    KeptO A s0 (execAtomicDiscardPresentation k port pres s) := by
  unfold execAtomicDiscardPresentation
  refine KeptO.next ?_
  refine kept_atomicDiscard ?_ (mask_sub (by decide) hA)
  · exact h_s
theorem kept_commandStart {A : Nat} {s0 : State} {s : Sys2Proof.Machine.State} {k : Nat} {p : Nat} {cyc : Nat} {cmd : Nat} {l0rd : Nat} {l0wr : Nat} (h_s : Kept A s0 s) (hA : 590313824765136080440 ||| A = A) :
    Kept A s0 (commandStart s k p cyc cmd l0rd l0wr) := by
  unfold commandStart
  extract_lets -merge -useContext -underBinder x1 x2 x3 x4 x5
  have h1 : Kept A s0 x1 := by
    unfold x1
    refine kept_tapStart ?_ (mask_sub (by decide) hA)
    · exact h_s
  have h3 : Kept A s0 x3 := by
    unfold x3
    clear_value x2
    split
    · extract_lets -merge -useContext -underBinder x6
      have h6 : Kept A s0 x6 := by
        unfold x6
        refine Kept.ite ?_ ?_
        · exact h1
        · refine kept_firstStart ?_ (mask_sub (by decide) hA)
          · exact h1
      clear_value x6
      refine kept_updRcmd ?_ (mask_sub (by decide) hA)
      · exact h6
    · extract_lets -merge -useContext -underBinder x7
      refine Kept.ite ?_ ?_
      · exact h1
      · refine kept_raiseOnce ?_ (mask_sub (by decide) hA)
        · refine kept_count ?_ (mask_sub (by decide) hA)
          · exact h1
  clear_value x1 x3
  refine kept_bankCount ?_ (mask_sub (by decide) hA)
  · refine kept_trace ?_ (mask_sub (by decide) hA)
    · exact h3
theorem kept_execResidueAlarm {A : Nat} {s0 : State} {k : Sys2Proof.ClusterId} {p : Sys2Proof.CoreId} {s : Sys2Proof.Machine.State} (h_s : Kept A s0 s) (hA : 1360189427840056315625016 ||| A = A) :
    KeptO A s0 (execResidueAlarm k p s) := by
  unfold execResidueAlarm
  refine KeptO.next ?_
  refine Kept.ite ?_ ?_
  · exact h_s
  · refine kept_residueAlarm ?_ (mask_sub (by decide) hA)
    · refine kept_item ?_ (mask_sub (by decide) hA)
      · exact h_s
theorem kept_execResidueSummary {A : Nat} {s0 : State} {k : Sys2Proof.ClusterId} {p : Sys2Proof.CoreId} {s : Sys2Proof.Machine.State} (h_s : Kept A s0 s) (hA : 1360779723650427914567224 ||| A = A) :
    KeptO A s0 (execResidueSummary k p s) := by
  unfold execResidueSummary
  refine KeptO.next ?_
  refine Kept.ite ?_ ?_
  · exact h_s
  · refine kept_residueSummary ?_ (mask_sub (by decide) hA)
    · refine kept_item ?_ (mask_sub (by decide) hA)
      · exact h_s
theorem kept_execCommandStart {A : Nat} {s0 : State} {k : Sys2Proof.ClusterId} {p : Sys2Proof.CoreId} {cyc : Nat} {id : Sys2Proof.CmdId} {l0rd : Nat} {l0wr : Nat} {s : Sys2Proof.Machine.State} (h_s : Kept A s0 s) (hA : 590313824765136080440 ||| A = A) :
    KeptO A s0 (execCommandStart k p cyc id l0rd l0wr s) := by
  unfold execCommandStart
  refine KeptO.next ?_
  refine kept_commandStart ?_ (mask_sub (by decide) hA)
  · exact h_s
theorem kept_commandEnd {A : Nat} {s0 : State} {s : Sys2Proof.Machine.State} {k : Nat} {p : Nat} {cyc : Nat} {l0rd : Nat} {l0wr : Nat} (h_s : Kept A s0 s) (hA : 590313829171780140600 ||| A = A) :
    Kept A s0 (commandEnd s k p cyc l0rd l0wr) := by
  unfold commandEnd
  extract_lets -merge -useContext -underBinder x1 x2
  have h2 : Kept A s0 x2 := by
    unfold x2
    refine kept_tapEnd ?_ (mask_sub (by decide) hA)
    · exact h_s
  clear_value x2
  split
  · exact h2
  · extract_lets -merge -useContext -underBinder x3 x4 x5
    have h5 : Kept A s0 x5 := by
      unfold x5
      refine kept_trace ?_ (mask_sub (by decide) hA)
      · exact h2
    clear_value x5
    clear_value x3
    split
    · extract_lets -merge -useContext -underBinder x6 x7
      have h6 : Kept A s0 x6 := by
        unfold x6
        refine kept_updRcmd ?_ (mask_sub (by decide) hA)
        · exact h5
      have h7 : Kept A s0 x7 := by
        unfold x7
        refine Kept.ite ?_ ?_
        · refine kept_rplRegion ?_ (mask_sub (by decide) hA)
          · refine kept_gatedEnd ?_ (mask_sub (by decide) hA)
            · exact h6
        · refine kept_rplGo ?_ (mask_sub (by decide) hA)
          · exact h6
      clear_value x6 x7
      refine Kept.ite ?_ ?_
      · refine kept_updRcmd ?_ (mask_sub (by decide) hA)
        · exact h5
      · refine kept_pairTry ?_ (mask_sub (by decide) hA)
        · refine kept_freeSlots ?_ (mask_sub (by decide) hA)
          · exact h7
    · exact h5
theorem kept_execCommandEnd {A : Nat} {s0 : State} {k : Sys2Proof.ClusterId} {p : Sys2Proof.CoreId} {cyc : Nat} {l0rd : Nat} {l0wr : Nat} {s : Sys2Proof.Machine.State} (h_s : Kept A s0 s) (hA : 590313829171780140600 ||| A = A) :
    KeptO A s0 (execCommandEnd k p cyc l0rd l0wr s) := by
  unfold execCommandEnd
  refine KeptO.next ?_
  refine kept_commandEnd ?_ (mask_sub (by decide) hA)
  · exact h_s
theorem kept_execDescriptorArrive {A : Nat} {s0 : State} {k : Sys2Proof.ClusterId} {desc : BitVec 128} {opr : Option (BitVec 384)} {s : Sys2Proof.Machine.State} (h_s : Kept A s0 s) (hA : 590313829171513802296 ||| A = A) :
    KeptO A s0 (execDescriptorArrive k desc opr s) := by
  unfold execDescriptorArrive
  refine KeptO.next ?_
  refine kept_descriptorArrive ?_ (mask_sub (by decide) hA)
  · exact h_s
theorem kept_recompute {A : Nat} {s0 : State} {s : Sys2Proof.Machine.State} {t : Nat} {c : Sys2Proof.Case} {upset : Option Sys2Proof.CaseVal} (h_s : Kept A s0 s) (hA : 2147483648 ||| A = A) :
    KeptL A s0 (State.recompute s t c upset) := by
  unfold State.recompute
  extract_lets -merge -useContext -underBinder x1
  refine KeptL.mk ?_
  clear_value x1
  split
  · refine kept_updRplOf ?_ (mask_sub (by decide) hA)
    · exact h_s
  · exact h_s
theorem kept_neighbourRequest {A : Nat} {s0 : State} {s : Sys2Proof.Machine.State} {t : Nat} {h : Nat} {no : Nat} {upset : Option Sys2Proof.CaseVal} (h_s : Kept A s0 s) (hA : 3221225520 ||| A = A) :
    Kept A s0 (neighbourRequest s t h no upset) := by
  unfold neighbourRequest
  split
  · exact h_s
  · extract_lets -merge -useContext -underBinder x1
    have h1 : KeptL A s0 x1 := by
      unfold x1
      refine kept_recompute ?_ (mask_sub (by decide) hA)
      · refine kept_count ?_ (mask_sub (by decide) hA)
        · exact h_s
    clear_value x1
    refine Kept.ite ?_ ?_
    · exact h_s
    · refine kept_updCase ?_ (mask_sub (by decide) hA)
      · refine KeptL.fst ?_
        exact h1
theorem kept_execNeighbourRequest {A : Nat} {s0 : State} {t : Sys2Proof.ClusterId} {k : Sys2Proof.ClusterId} {case : Nat} {upset : Option Sys2Proof.CaseVal} {s : Sys2Proof.Machine.State} (h_s : Kept A s0 s) (hA : 3221225520 ||| A = A) :
    KeptO A s0 (execNeighbourRequest t k case upset s) := by
  unfold execNeighbourRequest
  refine KeptO.next ?_
  refine Kept.ite ?_ ?_
  · exact h_s
  · refine kept_neighbourRequest ?_ (mask_sub (by decide) hA)
    · exact h_s
theorem kept_steering {A : Nat} {s0 : State} {s : Sys2Proof.Machine.State} {c : Sys2Proof.Case} (h_s : Kept A s0 s) (hA : 1360189427277106227985976 ||| A = A) :
    Kept A s0 (State.steering s c) := by
  unfold State.steering
  refine Kept.ite ?_ ?_
  · exact h_s
  · refine Kept.ite ?_ ?_
    · refine kept_raise ?_ (mask_sub (by decide) hA)
      · exact h_s
    · refine kept_steerKill ?_ (mask_sub (by decide) hA)
      · exact h_s
theorem kept_settleCase {A : Nat} {s0 : State} {s : Sys2Proof.Machine.State} {h : Nat} {no : Nat} (h_s : Kept A s0 s) (hA : 1360189427277114817920568 ||| A = A) :
    Kept A s0 (State.settleCase s h no) := by
  unfold State.settleCase
  split
  · exact h_s
  · extract_lets -merge -useContext -underBinder x1 x2
    refine Kept.ite ?_ ?_
    · exact h_s
    · refine Kept.ite ?_ ?_
      · refine kept_sendVerdict ?_ (mask_sub (by decide) hA)
        · refine kept_updCase ?_ (mask_sub (by decide) hA)
          · exact h_s
      · refine kept_rplRegion ?_ (mask_sub (by decide) hA)
        · refine kept_steering ?_ (mask_sub (by decide) hA)
          · refine kept_sendVerdict ?_ (mask_sub (by decide) hA)
            · refine kept_dropCase ?_ (mask_sub (by decide) hA)
              · exact h_s
theorem kept_referenceT1Done {A : Nat} {s0 : State} {s : Sys2Proof.Machine.State} {h : Nat} {no : Nat} {upset : Option Sys2Proof.CaseVal} (h_s : Kept A s0 s) (hA : 1360189427277114817920568 ||| A = A) :
    Kept A s0 (referenceT1Done s h no upset) := by
  unfold referenceT1Done
  split
  · exact h_s
  · extract_lets -merge -useContext -underBinder x1
    have h1 : KeptL A s0 x1 := by
      unfold x1
      refine kept_recompute ?_ (mask_sub (by decide) hA)
      · exact h_s
    clear_value x1
    refine Kept.ite ?_ ?_
    · exact h_s
    · refine kept_settleCase ?_ (mask_sub (by decide) hA)
      · refine kept_updCase ?_ (mask_sub (by decide) hA)
        · refine KeptL.fst ?_
          exact h1
theorem kept_withdrawRq {A : Nat} {s0 : State} {s : Sys2Proof.Machine.State} {k : Nat} {h : Nat} {q : Sys2Proof.RptReq} (h_s : Kept A s0 s) (hA : 20703297689016365261012536 ||| A = A) :
    Kept A s0 (State.withdrawRq s k h q) := by
  unfold State.withdrawRq
  extract_lets -merge -useContext -underBinder x1 x2 x3
  have h1 : Kept A s0 x1 := by
    unfold x1
    refine kept_rqSet ?_ (mask_sub (by decide) hA)
    · exact h_s
  have h2 : Kept A s0 x2 := by
    unfold x2
    refine Kept.ite ?_ ?_
    · refine kept_emit ?_ (mask_sub (by decide) hA)
      · exact h1
    · exact h1
  have h3 : Kept A s0 x3 := by
    unfold x3
    split
    · refine kept_settleCase ?_ (mask_sub (by decide) hA)
      · refine kept_updCase ?_ (mask_sub (by decide) hA)
        · exact h2
    · split
      · refine kept_outcomeIn ?_ (mask_sub (by decide) hA)
        · exact h2
      · exact h2
    · refine kept_steerKill ?_ (mask_sub (by decide) hA)
      · exact h2
  clear_value x1 x2 x3
  refine kept_rptGo ?_ (mask_sub (by decide) hA)
  · exact h3
theorem kept_repeatWithdraw {A : Nat} {s0 : State} {s : Sys2Proof.Machine.State} {k : Nat} (h_s : Kept A s0 s) (hA : 20703297689016365261012536 ||| A = A) :
    Kept A s0 (repeatWithdraw s k) := by
  unfold repeatWithdraw
  split
  · exact h_s
  · refine kept_withdrawRq ?_ (mask_sub (by decide) hA)
    · exact h_s
theorem kept_execRepeatWithdraw {A : Nat} {s0 : State} {k : Sys2Proof.ClusterId} {s : Sys2Proof.Machine.State} (h_s : Kept A s0 s) (hA : 20703297689016365261012536 ||| A = A) :
    KeptO A s0 (execRepeatWithdraw k s) := by
  unfold execRepeatWithdraw
  refine KeptO.next ?_
  refine kept_repeatWithdraw ?_ (mask_sub (by decide) hA)
  · exact h_s
theorem kept_repeatStart {A : Nat} {s0 : State} {s : Sys2Proof.Machine.State} {k : Nat} (h_s : Kept A s0 s) (hA : 7518291968 ||| A = A) :
    Kept A s0 (repeatStart s k) := by
  unfold repeatStart
  split
  · exact h_s
  · extract_lets -merge -useContext -underBinder x1
    have h1 : Kept A s0 x1 := by
      unfold x1
      refine kept_rqSet ?_ (mask_sub (by decide) hA)
      · exact h_s
    clear_value x1
    split
    · refine kept_updCase ?_ (mask_sub (by decide) hA)
      · exact h1
    · split
      · refine kept_redoStep ?_ (mask_sub (by decide) hA)
        · exact h1
      · exact h1
    · exact h1
theorem kept_execRepeatStart {A : Nat} {s0 : State} {k : Sys2Proof.ClusterId} {s : Sys2Proof.Machine.State} (h_s : Kept A s0 s) (hA : 7518291968 ||| A = A) :
    KeptO A s0 (execRepeatStart k s) := by
  unfold execRepeatStart
  refine KeptO.next ?_
  refine kept_repeatStart ?_ (mask_sub (by decide) hA)
  · exact h_s
theorem kept_neighbourTimeout {A : Nat} {s0 : State} {s : Sys2Proof.Machine.State} {h : Nat} {no : Nat} (h_s : Kept A s0 s) (hA : 1360189427277114817920568 ||| A = A) :
    Kept A s0 (neighbourTimeout s h no) := by
  unfold neighbourTimeout
  split
  · exact h_s
  · extract_lets -merge -useContext -underBinder x1
    have h1 : Kept A s0 x1 := by
      unfold x1
      refine kept_updCase ?_ (mask_sub (by decide) hA)
      · exact h_s
    clear_value x1
    refine Kept.ite ?_ ?_
    · exact h_s
    · refine Kept.ite ?_ ?_
      · refine kept_settleCase ?_ (mask_sub (by decide) hA)
        · refine kept_askNeighbour ?_ (mask_sub (by decide) hA)
          · exact h1
      · refine kept_settleCase ?_ (mask_sub (by decide) hA)
        · refine kept_updCase ?_ (mask_sub (by decide) hA)
          · exact h1
theorem kept_execNeighbourTimeout {A : Nat} {s0 : State} {k : Sys2Proof.ClusterId} {case : Nat} {s : Sys2Proof.Machine.State} (h_s : Kept A s0 s) (hA : 1360189427277114817920568 ||| A = A) :
    KeptO A s0 (execNeighbourTimeout k case s) := by
  unfold execNeighbourTimeout
  refine KeptO.next ?_
  refine Kept.ite ?_ ?_
  · exact h_s
  · refine kept_neighbourTimeout ?_ (mask_sub (by decide) hA)
    · exact h_s
theorem kept_repeatDone {A : Nat} {s0 : State} {s : Sys2Proof.Machine.State} {k : Nat} {ncore : Nat} {view : Option Sys2Proof.CaseVal} (h_s : Kept A s0 s) (hA : 1360189427277114817920568 ||| A = A) :
    Kept A s0 (repeatDone s k ncore view) := by
  unfold repeatDone
  split
  · exact h_s
  · extract_lets -merge -useContext -underBinder x1 x2
    have h1 : Kept A s0 x1 := by
      unfold x1
      refine kept_rqSet ?_ (mask_sub (by decide) hA)
      · exact h_s
    have h2 : Kept A s0 x2 := by
      unfold x2
      split
      · extract_lets -merge -useContext -underBinder x3 x4
        refine kept_settleCase ?_ (mask_sub (by decide) hA)
        · refine kept_updCase ?_ (mask_sub (by decide) hA)
          · exact h1
      · exact h1
    clear_value x1 x2
    refine kept_rptGo ?_ (mask_sub (by decide) hA)
    · exact h2
theorem kept_poisonReport {A : Nat} {s0 : State} {s : Sys2Proof.Machine.State} {k : Nat} {p : Nat} {c : Nat} {layer : Nat} {op : Nat} (h_s : Kept A s0 s) (hA : 1360189427277106227985976 ||| A = A) :
    Kept A s0 (poisonReport s k p c layer op) := by
  unfold poisonReport
  extract_lets -merge -useContext -underBinder x1 x2 x3
  have h3 : Kept A s0 x3 := by
    unfold x3
    refine kept_raise ?_ (mask_sub (by decide) hA)
    · refine kept_count ?_ (mask_sub (by decide) hA)
      · exact h_s
  clear_value x3
  refine Kept.ite ?_ ?_
  · refine kept_count ?_ (mask_sub (by decide) hA)
    · exact h_s
  · refine kept_replaysGo ?_ (mask_sub (by decide) hA)
    · refine kept_killCtx ?_ (mask_sub (by decide) hA)
      · exact h3
theorem kept_execPoisonReport {A : Nat} {s0 : State} {k : Sys2Proof.ClusterId} {p : Sys2Proof.CoreId} {ctx : Sys2Proof.Ctx} {layer : BitVec 16} {oper : BitVec 16} {s : Sys2Proof.Machine.State} (h_s : Kept A s0 s) (hA : 1360189427277106227985976 ||| A = A) :
    KeptO A s0 (execPoisonReport k p ctx layer oper s) := by
  unfold execPoisonReport
  refine KeptO.next ?_
  refine kept_poisonReport ?_ (mask_sub (by decide) hA)
  · exact h_s
theorem kept_neighbourAnswer {A : Nat} {s0 : State} {s : Sys2Proof.Machine.State} {h : Nat} {no : Nat} (h_s : Kept A s0 s) (hA : 1360189427277114817920568 ||| A = A) :
    Kept A s0 (neighbourAnswer s h no) := by
  unfold neighbourAnswer
  split
  · exact h_s
  · split
    · refine Kept.ite ?_ ?_
      · refine kept_settleCase ?_ (mask_sub (by decide) hA)
        · refine kept_updCase ?_ (mask_sub (by decide) hA)
          · exact h_s
      · exact h_s
    · exact h_s
theorem kept_execNeighbourAnswer {A : Nat} {s0 : State} {k : Sys2Proof.ClusterId} {case : Nat} {s : Sys2Proof.Machine.State} (h_s : Kept A s0 s) (hA : 1360189427277114817920568 ||| A = A) :
    KeptO A s0 (execNeighbourAnswer k case s) := by
  unfold execNeighbourAnswer
  refine KeptO.next ?_
  refine Kept.ite ?_ ?_
  · exact h_s
  · refine kept_neighbourAnswer ?_ (mask_sub (by decide) hA)
    · exact h_s
theorem kept_retiredBlockDiscard {A : Nat} {s0 : State} {s : Sys2Proof.Machine.State} {k : Nat} {c : Nat} {bytes : Nat} (h_s : Kept A s0 s) (hA : 68719478328 ||| A = A) :
    Kept A s0 (retiredBlockDiscard s k c bytes) := by
  unfold retiredBlockDiscard
  extract_lets -merge -useContext -underBinder x1 x2
  have h1 : Kept A s0 x1 := by
    unfold x1
    refine kept_count ?_ (mask_sub (by decide) hA)
    · refine kept_count ?_ (mask_sub (by decide) hA)
      · refine kept_count ?_ (mask_sub (by decide) hA)
        · exact h_s
  have h2 : Kept A s0 x2 := by
    unfold x2
    refine kept_bankCount ?_ (mask_sub (by decide) hA)
    · refine kept_updCtx ?_ (mask_sub (by decide) hA)
      · exact h1
  clear_value x1 x2
  refine kept_raiseOnce ?_ (mask_sub (by decide) hA)
  · exact h2
theorem kept_execReferenceT1Done {A : Nat} {s0 : State} {k : Sys2Proof.ClusterId} {case : Nat} {upset : Option Sys2Proof.CaseVal} {s : Sys2Proof.Machine.State} (h_s : Kept A s0 s) (hA : 1360189427277114817920568 ||| A = A) :
    KeptO A s0 (execReferenceT1Done k case upset s) := by
  unfold execReferenceT1Done
  refine KeptO.next ?_
  refine Kept.ite ?_ ?_
  · exact h_s
  · refine kept_referenceT1Done ?_ (mask_sub (by decide) hA)
    · exact h_s
theorem kept_execRetiredBlockDiscard {A : Nat} {s0 : State} {k : Sys2Proof.ClusterId} {ctx : Sys2Proof.Ctx} {bytes : BitVec 16} {s : Sys2Proof.Machine.State} (h_s : Kept A s0 s) (hA : 68719478328 ||| A = A) :
    KeptO A s0 (execRetiredBlockDiscard k ctx bytes s) := by
  unfold execRetiredBlockDiscard
  refine KeptO.next ?_
  refine kept_retiredBlockDiscard ?_ (mask_sub (by decide) hA)
  · exact h_s
theorem kept_execRepeatDone {A : Nat} {s0 : State} {k : Sys2Proof.ClusterId} {ncore : BitVec 4} {view : Option Sys2Proof.CaseVal} {s : Sys2Proof.Machine.State} (h_s : Kept A s0 s) (hA : 1360189427277114817920568 ||| A = A) :
    KeptO A s0 (execRepeatDone k ncore view s) := by
  unfold execRepeatDone
  refine KeptO.next ?_
  refine kept_repeatDone ?_ (mask_sub (by decide) hA)
  · exact h_s
theorem kept_gristVerify {A : Nat} {s0 : State} {s : Sys2Proof.Machine.State} (h_s : Kept A s0 s) (hA : 1441151880758561304 ||| A = A) :
    Kept A s0 (gristVerify s) := by
  unfold gristVerify
  extract_lets -merge -useContext -underBinder x1 x2 x3 x4
  refine Kept.ite ?_ ?_
  · exact h_s
  · refine Kept.ite ?_ ?_
    · refine kept_workDone ?_ (mask_sub (by decide) hA)
      · refine kept_raise ?_ (mask_sub (by decide) hA)
        · refine kept_wr ?_ (mask_sub (by decide) hA)
          · refine kept_wr ?_ (mask_sub (by decide) hA)
            · exact h_s
    · refine kept_workDone ?_ (mask_sub (by decide) hA)
      · refine kept_raise ?_ (mask_sub (by decide) hA)
        · refine kept_wr ?_ (mask_sub (by decide) hA)
          · refine kept_wr ?_ (mask_sub (by decide) hA)
            · exact h_s
theorem kept_execGristVerify {A : Nat} {s0 : State} {s : Sys2Proof.Machine.State} (h_s : Kept A s0 s) (hA : 1441151880758561304 ||| A = A) :
    KeptO A s0 (execGristVerify s) := by
  unfold execGristVerify
  refine KeptO.next ?_
  refine kept_gristVerify ?_ (mask_sub (by decide) hA)
  · exact h_s
theorem kept_flashWrite {A : Nat} {s0 : State} {s : Sys2Proof.Machine.State} {addr : Nat} {bs : List Sys2Proof.Byte} (h_s : Kept A s0 s) (hA : 72057594037927936 ||| A = A) :
    Kept A s0 (State.flashWrite s addr bs) := by
  unfold State.flashWrite
  refine kept_poke ?_ (mask_sub (by decide) hA)
  · refine kept_poke ?_ (mask_sub (by decide) hA)
    · exact h_s
theorem kept_showStores {A : Nat} {s0 : State} {s : Sys2Proof.Machine.State} (h_s : Kept A s0 s) (hA : 8 ||| A = A) :
    Kept A s0 (State.showStores s) := by
  unfold State.showStores
  refine kept_wr ?_ (mask_sub (by decide) hA)
  · exact h_s
theorem kept_gristStoreRewrite {A : Nat} {s0 : State} {s : Sys2Proof.Machine.State} {r : Nat} (h_s : Kept A s0 s) (hA : 18889537989072618783256 ||| A = A) :
    Kept A s0 (gristStoreRewrite s r) := by
  unfold gristStoreRewrite
  extract_lets -merge -useContext -underBinder x1 x2 x3 x4 x5
  have h4 : Kept A s0 x4 := by
    unfold x4
    refine kept_poke ?_ (mask_sub (by decide) hA)
    · exact h_s
  have h5 : Kept A s0 x5 := by
    unfold x5
    refine Kept.u_grist ?_ (mask_sub (by decide) hA)
    exact h4
  clear_value x4 x5
  refine Kept.ite ?_ ?_
  · exact h_s
  · refine kept_raise ?_ (mask_sub (by decide) hA)
    · refine kept_showStores ?_ (mask_sub (by decide) hA)
      · exact h5
theorem kept_execGristStoreRewrite {A : Nat} {s0 : State} {r : Sys2Proof.RegionId} {s : Sys2Proof.Machine.State} (h_s : Kept A s0 s) (hA : 18889537989072618783256 ||| A = A) :
    KeptO A s0 (execGristStoreRewrite r s) := by
  unfold execGristStoreRewrite
  refine KeptO.next ?_
  refine kept_gristStoreRewrite ?_ (mask_sub (by decide) hA)
  · exact h_s
theorem kept_gristTransfer {A : Nat} {s0 : State} {s : Sys2Proof.Machine.State} {done : Bool} {r : Nat} (h_s : Kept A s0 s) (hA : 4398047836160 ||| A = A) :
    Kept A s0 (State.gristTransfer s done r) := by
  unfold State.gristTransfer
  refine kept_bulkPacket ?_ (mask_sub (by decide) hA)
  · exact h_s
theorem kept_gristStoreCopy {A : Nat} {s0 : State} {s : Sys2Proof.Machine.State} {r : Nat} {sha : Nat} (h_s : Kept A s0 s) (hA : 18889537993470666618888 ||| A = A) :
    Kept A s0 (gristStoreCopy s r sha) := by
  unfold gristStoreCopy
  extract_lets -merge -useContext -underBinder x1 x2 x3
  have h1 : Kept A s0 x1 := by
    unfold x1
    refine kept_gristTransfer ?_ (mask_sub (by decide) hA)
    · exact h_s
  have h3 : Kept A s0 x3 := by
    unfold x3
    refine kept_poke ?_ (mask_sub (by decide) hA)
    · exact h1
  clear_value x1 x3
  refine Kept.ite ?_ ?_
  · exact h_s
  · refine Kept.ite ?_ ?_
    · refine kept_showStores ?_ (mask_sub (by decide) hA)
      · refine Kept.u_grist ?_ (mask_sub (by decide) hA)
        exact h3
    · refine kept_showStores ?_ (mask_sub (by decide) hA)
      · refine Kept.u_grist ?_ (mask_sub (by decide) hA)
        exact h1
theorem kept_execGristStoreCopy {A : Nat} {s0 : State} {r : Sys2Proof.RegionId} {sha : BitVec 384} {s : Sys2Proof.Machine.State} (h_s : Kept A s0 s) (hA : 18889537993470666618888 ||| A = A) :
    KeptO A s0 (execGristStoreCopy r sha s) := by
  unfold execGristStoreCopy
  refine KeptO.next ?_
  refine kept_gristStoreCopy ?_ (mask_sub (by decide) hA)
  · exact h_s
theorem kept_gristCommit {A : Nat} {s0 : State} {s : Sys2Proof.Machine.State} (h_s : Kept A s0 s) (hA : 18889465935876628690952 ||| A = A) :
    Kept A s0 (State.gristCommit s) := by
  unfold State.gristCommit
  extract_lets -merge -useContext -underBinder x1 x2 x3
  have h1 : Kept A s0 x1 := by
    unfold x1
    refine kept_wr ?_ (mask_sub (by decide) hA)
    · exact h_s
  have h3 : Kept A s0 x3 := by
    unfold x3
    refine kept_showStores ?_ (mask_sub (by decide) hA)
    · refine Kept.u_grist ?_ (mask_sub (by decide) hA)
      exact h1
  clear_value x1 x3
  refine kept_each ?_ (fun _ _ h4 => ?_)
  · exact h3
  · refine kept_gristTransfer ?_ (mask_sub (by decide) hA)
    · exact h4
theorem kept_storeLost {A : Nat} {s0 : State} {s : Sys2Proof.Machine.State} {r : Nat} (h_s : Kept A s0 s) (hA : 18889465931478580854792 ||| A = A) :
    Kept A s0 (State.storeLost s r) := by
  unfold State.storeLost
  refine kept_showStores ?_ (mask_sub (by decide) hA)
  · refine Kept.u_grist ?_ (mask_sub (by decide) hA)
    exact h_s
theorem kept_flashCopy {A : Nat} {s0 : State} {s : State} {src dst n : Nat} (h_s : Kept A s0 s) (hA : 72057594037927936 ||| A = A) :
    Kept A s0 (State.flashCopy s src dst n) := by
  unfold State.flashCopy
  extract_lets -merge -useContext -underBinder x1
  refine Kept.u_mem h_s (fun h => ?_) (mask_sub (by decide) hA)
  have h0 := mem_wf_move (fun k => k - flashKey 0 src + flashKey 0 dst) (Tab.wf_range (flashKey 0 src) (flashKey 0 (src + n)) h) (Tab.wf_drop (flashKey 0 dst) (flashKey 0 (dst + n)) h)
  exact mem_wf_move (fun k => k - flashKey 1 src + flashKey 1 dst) (Tab.wf_range _ _ h0) (Tab.wf_drop _ _ h0)
theorem kept_gristActivate {A : Nat} {s0 : State} {s : Sys2Proof.Machine.State} {rot : Nat} (h_s : Kept A s0 s) (hA : 18889537989072618783256 ||| A = A) :
    Kept A s0 (State.gristActivate s rot) := by
  unfold State.gristActivate
  extract_lets -merge -useContext -underBinder x1 x2 x3 x4 x5 x6
  have h4 : Kept A s0 x4 := by
    unfold x4
    refine kept_flashCopy ?_ (mask_sub (by decide) hA)
    · exact h_s
  have h5 : Kept A s0 x5 := by
    unfold x5
    refine Kept.u_grist ?_ (mask_sub (by decide) hA)
    exact h4
  have h6 : Kept A s0 x6 := by
    unfold x6
    refine kept_wr ?_ (mask_sub (by decide) hA)
    · refine kept_wr ?_ (mask_sub (by decide) hA)
      · refine kept_wr ?_ (mask_sub (by decide) hA)
        · exact h5
  clear_value x4 x5 x6
  refine Kept.ite ?_ ?_
  · exact h_s
  · refine kept_raise ?_ (mask_sub (by decide) hA)
    · refine kept_showStores ?_ (mask_sub (by decide) hA)
      · refine kept_wr ?_ (mask_sub (by decide) hA)
        · exact h6
theorem kept_record {A : Nat} {s0 : State} {s : Sys2Proof.Machine.State} {kind : Nat} {ctx : Nat} {step : Nat} {input : List Sys2Proof.Byte} (h_s : Kept A s0 s) (hA : 295147905179352826392 ||| A = A) :
    Kept A s0 (State.record s kind ctx step input) := by
  unfold State.record
  extract_lets -merge -useContext -underBinder x1 x2 x3 x4 x5 x6
  have h6 : Kept A s0 x6 := by
    unfold x6
    refine Kept.u_prv ?_ (mask_sub (by decide) hA)
    exact h_s
  clear_value x6
  refine Kept.ite ?_ ?_
  · exact h_s
  · refine Kept.ite ?_ ?_
    · refine kept_raise ?_ (mask_sub (by decide) hA)
      · refine kept_flag ?_ (mask_sub (by decide) hA)
        · exact h_s
    · refine kept_wr ?_ (mask_sub (by decide) hA)
      · refine kept_wr ?_ (mask_sub (by decide) hA)
        · exact h6
theorem kept_replayDiffers {A : Nat} {s0 : State} {s : Sys2Proof.Machine.State} {code : Nat} {ctx : Nat} {step : Nat} {seq : Nat} (h_s : Kept A s0 s) (hA : 295147905179352826392 ||| A = A) :
    Kept A s0 (State.replayDiffers s code ctx step seq) := by
  unfold State.replayDiffers
  split
  · exact h_s
  · extract_lets -merge -useContext -underBinder x1 x2
    have h2 : Kept A s0 x2 := by
      unfold x2
      refine Kept.u_prv ?_ (mask_sub (by decide) hA)
      exact h_s
    clear_value x2
    refine kept_raise ?_ (mask_sub (by decide) hA)
    · refine kept_flag ?_ (mask_sub (by decide) hA)
      · exact h2
theorem kept_replayUsed {A : Nat} {s0 : State} {s : Sys2Proof.Machine.State} {seq : Nat} (h_s : Kept A s0 s) (hA : 295147905179352825856 ||| A = A) :
    Kept A s0 (State.replayUsed s seq) := by
  unfold State.replayUsed
  split
  · exact h_s
  · extract_lets -merge -useContext -underBinder x1
    refine Kept.u_prv ?_ (mask_sub (by decide) hA)
    exact h_s
theorem kept_recordSlice {A : Nat} {s0 : State} {s : Sys2Proof.Machine.State} {kind : Nat} {e : Sys2Proof.SliceEnt} {door : Nat} {digest : Nat} (h_s : Kept A s0 s) (hA : 295147905179352826392 ||| A = A) :
    Kept A s0 (State.recordSlice s kind e door digest) := by
  unfold State.recordSlice
  split
  · split
    · refine Kept.ite ?_ ?_
      · exact h_s
      · refine kept_replayDiffers ?_ (mask_sub (by decide) hA)
        · exact h_s
    · exact h_s
  · refine kept_record ?_ (mask_sub (by decide) hA)
    · exact h_s
theorem kept_markGrans {A : Nat} {s0 : State} {s : Sys2Proof.Machine.State} {c : Nat} {i : Nat} {f : Sys2Proof.PsnEnt → Sys2Proof.PsnEnt} (h_s : Kept A s0 s) (hA : 4611686018427387904 ||| A = A) :
    Kept A s0 (State.markGrans s c i f) := by
  unfold State.markGrans
  split
  · exact h_s
  · refine kept_updCel ?_ (mask_sub (by decide) hA)
    · exact h_s
theorem kept_ignoreRec {A : Nat} {s0 : State} {s : Sys2Proof.Machine.State} {c : Nat} {reason : Nat} {src : Nat} (h_s : Kept A s0 s) (hA : 4611686018427389496 ||| A = A) :
    Kept A s0 (State.ignoreRec s c reason src) := by
  unfold State.ignoreRec
  extract_lets -merge -useContext -underBinder x1
  have h1 : Kept A s0 x1 := by
    unfold x1
    refine kept_updCel ?_ (mask_sub (by decide) hA)
    · refine kept_count ?_ (mask_sub (by decide) hA)
      · exact h_s
  clear_value x1
  refine Kept.ite ?_ ?_
  · refine kept_quiet ?_ (mask_sub (by decide) hA)
    · exact h1
  · refine kept_updCel ?_ (mask_sub (by decide) hA)
    · refine kept_raiseOnce ?_ (mask_sub (by decide) hA)
      · exact h1
theorem kept_showCel {A : Nat} {s0 : State} {s : Sys2Proof.Machine.State} {c : Nat} (h_s : Kept A s0 s) (hA : 8 ||| A = A) :
    Kept A s0 (State.showCel s c) := by
  unfold State.showCel
  extract_lets -merge -useContext -underBinder x1 x2 x3 x4
  have h3 : Kept A s0 x3 := by
    unfold x3
    refine kept_wr ?_ (mask_sub (by decide) hA)
    · refine kept_wr ?_ (mask_sub (by decide) hA)
      · exact h_s
  have h4 : Kept A s0 x4 := by
    unfold x4
    refine kept_wr ?_ (mask_sub (by decide) hA)
    · refine kept_wr ?_ (mask_sub (by decide) hA)
      · exact h3
  clear_value x3 x4
  refine kept_wr ?_ (mask_sub (by decide) hA)
  · refine kept_wr ?_ (mask_sub (by decide) hA)
    · exact h4
theorem kept_updSlice {A : Nat} {s0 : State} {s : Sys2Proof.Machine.State} {c : Nat} {i : Nat} {f : Sys2Proof.SliceEnt → Sys2Proof.SliceEnt} (h_s : Kept A s0 s) (hA : 4611686018427387904 ||| A = A) :
    Kept A s0 (State.updSlice s c i f) := by
  unfold State.updSlice
  refine kept_updCel ?_ (mask_sub (by decide) hA)
  · exact h_s
theorem kept_suspectChan {A : Nat} {s0 : State} {s : Sys2Proof.Machine.State} {c : Nat} {ch : Nat} {cause : Nat} (h_s : Kept A s0 s) (hA : 4611686018427388440 ||| A = A) :
    Kept A s0 (State.suspectChan s c ch cause) := by
  unfold State.suspectChan
  extract_lets -merge -useContext -underBinder x1 x2 x3 x4 x5 x6 x7 x8
  have h2 : Kept A s0 x2 := by
    unfold x2
    refine kept_updCel ?_ (mask_sub (by decide) hA)
    · exact h_s
  have h4 : Kept A s0 x4 := by
    unfold x4
    refine kept_wr ?_ (mask_sub (by decide) hA)
    · exact h2
  have h6 : Kept A s0 x6 := by
    unfold x6
    refine kept_wr ?_ (mask_sub (by decide) hA)
    · exact h4
  have h7 : Kept A s0 x7 := by
    unfold x7
    refine Kept.ite ?_ ?_
    · refine kept_flag ?_ (mask_sub (by decide) hA)
      · exact h6
    · exact h6
  have h8 : Kept A s0 x8 := by
    unfold x8
    refine Kept.ite ?_ ?_
    · refine kept_raise ?_ (mask_sub (by decide) hA)
      · exact h7
    · refine kept_raiseHist ?_ (mask_sub (by decide) hA)
      · exact h7
  clear_value x2 x4 x6 x7 x8
  refine Kept.ite ?_ ?_
  · exact h_s
  · refine kept_showCel ?_ (mask_sub (by decide) hA)
    · exact h8
theorem kept_rangeIn {A : Nat} {s0 : State} {s : Sys2Proof.Machine.State} {c : Nat} {i : Nat} {reason : Nat} (h_s : Kept A s0 s) (hA : 4611686018427388440 ||| A = A) :
    Kept A s0 (State.rangeIn s c i reason) := by
  unfold State.rangeIn
  split
  · exact h_s
  · extract_lets -merge -useContext -underBinder x1
    refine Kept.ite ?_ ?_
    · refine kept_updCel ?_ (mask_sub (by decide) hA)
      · exact h_s
    · split
      · refine kept_suspectChan ?_ (mask_sub (by decide) hA)
        · exact h_s
      · extract_lets -merge -useContext -underBinder x2
        refine kept_showCel ?_ (mask_sub (by decide) hA)
        · refine kept_updCel ?_ (mask_sub (by decide) hA)
          · exact h_s
theorem kept_rangeOut {A : Nat} {s0 : State} {s : Sys2Proof.Machine.State} {c : Nat} {i : Nat} (h_s : Kept A s0 s) (hA : 4611686018427387912 ||| A = A) :
    Kept A s0 (State.rangeOut s c i) := by
  unfold State.rangeOut
  refine kept_showCel ?_ (mask_sub (by decide) hA)
  · refine kept_updCel ?_ (mask_sub (by decide) hA)
    · exact h_s
theorem kept_sliceState {A : Nat} {s0 : State} {s : Sys2Proof.Machine.State} {c : Nat} {i : Nat} {st : Nat} (h_s : Kept A s0 s) (hA : 4611686018427388440 ||| A = A) :
    Kept A s0 (State.sliceState s c i st) := by
  unfold State.sliceState
  extract_lets -merge -useContext -underBinder x1
  have h1 : Kept A s0 x1 := by
    unfold x1
    refine kept_updCel ?_ (mask_sub (by decide) hA)
    · refine kept_updSlice ?_ (mask_sub (by decide) hA)
      · exact h_s
  clear_value x1
  refine kept_showCel ?_ (mask_sub (by decide) hA)
  · split
    · refine kept_rangeIn ?_ (mask_sub (by decide) hA)
      · exact h1
    · refine kept_rangeIn ?_ (mask_sub (by decide) hA)
      · exact h1
    · refine kept_rangeIn ?_ (mask_sub (by decide) hA)
      · exact h1
    · refine kept_rangeOut ?_ (mask_sub (by decide) hA)
      · exact h1
theorem kept_repairBad {A : Nat} {s0 : State} {s : Sys2Proof.Machine.State} {c : Nat} {i : Nat} (h_s : Kept A s0 s) (hA : 4611686018427388472 ||| A = A) :
    Kept A s0 (State.repairBad s c i) := by
  unfold State.repairBad
  extract_lets -merge -useContext -underBinder x1
  have h1 : Kept A s0 x1 := by
    unfold x1
    refine kept_count ?_ (mask_sub (by decide) hA)
    · exact h_s
  clear_value x1
  refine kept_sliceState ?_ (mask_sub (by decide) hA)
  · refine kept_updCel ?_ (mask_sub (by decide) hA)
    · exact h1
theorem kept_updRepair {A : Nat} {s0 : State} {s : Sys2Proof.Machine.State} {c : Nat} {i : Nat} {f : Sys2Proof.Repair → Sys2Proof.Repair} (h_s : Kept A s0 s) (hA : 4611686018427387904 ||| A = A) :
    Kept A s0 (State.updRepair s c i f) := by
  unfold State.updRepair
  refine kept_updCel ?_ (mask_sub (by decide) hA)
  · exact h_s
theorem kept_sendRec {A : Nat} {s0 : State} {s : Sys2Proof.Machine.State} {c : Nat} {door : Nat} {r : Sys2Proof.Machine.Xrec} (h_s : Kept A s0 s) (hA : 4398056224816 ||| A = A) :
    Kept A s0 (State.sendRec s c door r) := by
  unfold State.sendRec
  refine Kept.ite ?_ ?_
  · exact h_s
  · refine kept_doorInsert ?_ (mask_sub (by decide) hA)
    · refine kept_bulk ?_ (mask_sub (by decide) hA)
      · exact h_s
theorem kept_askSource {A : Nat} {s0 : State} {s : Sys2Proof.Machine.State} {c : Nat} {i : Nat} {code : Nat} (h_s : Kept A s0 s) (hA : 4611690416483614264 ||| A = A) :
    Kept A s0 (State.askSource s c i code) := by
  unfold State.askSource
  split
  · split
    · refine kept_raise ?_ (mask_sub (by decide) hA)
      · refine kept_repairBad ?_ (mask_sub (by decide) hA)
        · exact h_s
    · extract_lets -merge -useContext -underBinder x1 x2
      have h1 : Kept A s0 x1 := by
        unfold x1
        refine kept_updRepair ?_ (mask_sub (by decide) hA)
        · exact h_s
      have h2 : Kept A s0 x2 := by
        unfold x2
        split
        · refine kept_sendRec ?_ (mask_sub (by decide) hA)
          · exact h1
        · exact h1
      clear_value x1 x2
      refine kept_raiseOnce ?_ (mask_sub (by decide) hA)
      · exact h2
  · exact h_s
theorem kept_repairStart {A : Nat} {s0 : State} {s : Sys2Proof.Machine.State} {c : Nat} (h_s : Kept A s0 s) (hA : 4611690416483614264 ||| A = A) :
    Kept A s0 (repairStart s c) := by
  unfold repairStart
  extract_lets -merge -useContext -underBinder x1
  split
  · exact h_s
  · extract_lets -merge -useContext -underBinder x2
    refine Kept.ite ?_ ?_
    · exact h_s
    · split
      · refine kept_showCel ?_ (mask_sub (by decide) hA)
        · refine kept_updCel ?_ (mask_sub (by decide) hA)
          · exact h_s
      · extract_lets -merge -useContext -underBinder x3 x4
        have h4 : Kept A s0 x4 := by
          unfold x4
          refine kept_updCel ?_ (mask_sub (by decide) hA)
          · exact h_s
        clear_value x4
        refine Kept.ite ?_ ?_
        · refine kept_showCel ?_ (mask_sub (by decide) hA)
          · refine kept_updCel ?_ (mask_sub (by decide) hA)
            · exact h_s
        · refine kept_showCel ?_ (mask_sub (by decide) hA)
          · refine kept_askSource ?_ (mask_sub (by decide) hA)
            · exact h4
theorem kept_needRepair {A : Nat} {s0 : State} {s : Sys2Proof.Machine.State} {c : Nat} {i : Nat} {kind : Nat} {g : Nat} (h_s : Kept A s0 s) (hA : 4611686018427387960 ||| A = A) :
    Kept A s0 (State.needRepair s c i kind g) := by
  unfold State.needRepair
  split
  · exact h_s
  · extract_lets -merge -useContext -underBinder x1 x2 x3 x4
    have h2 : Kept A s0 x2 := by
      unfold x2
      refine Kept.ite ?_ ?_
      · refine kept_updCel ?_ (mask_sub (by decide) hA)
        · exact h_s
      · exact h_s
    clear_value x2
    refine Kept.ite ?_ ?_
    · exact h2
    · split
      · refine kept_markGrans ?_ (mask_sub (by decide) hA)
        · exact h2
      · extract_lets -merge -useContext -underBinder x5
        have h5 : Kept A s0 x5 := by
          unfold x5
          refine kept_updCel ?_ (mask_sub (by decide) hA)
          · exact h2
        clear_value x5
        refine Kept.ite ?_ ?_
        · refine kept_updCel ?_ (mask_sub (by decide) hA)
          · exact h2
        · refine Kept.ite ?_ ?_
          · refine kept_count ?_ (mask_sub (by decide) hA)
            · exact h2
          · refine kept_showCel ?_ (mask_sub (by decide) hA)
            · refine kept_markGrans ?_ (mask_sub (by decide) hA)
              · exact h5
theorem kept_chanEvent {A : Nat} {s0 : State} {s : Sys2Proof.Machine.State} {c : Nat} {ch : Nat} {again : Bool} {code : Nat} {p5 : Nat} {p6 : Nat} {p7 : Nat} (h_s : Kept A s0 s) (hA : 7379006133423903620920 ||| A = A) :
    Kept A s0 (State.chanEvent s c ch again code p5 p6 p7) := by
  unfold State.chanEvent
  extract_lets -merge -useContext -underBinder x1 x2 x3
  have h2 : Kept A s0 x2 := by
    unfold x2
    refine kept_quiet ?_ (mask_sub (by decide) hA)
    · exact h_s
  have h3 : Kept A s0 x3 := by
    unfold x3
    refine Kept.u_marks ?_ (mask_sub (by decide) hA)
    exact h_s
  clear_value x2 x3
  refine Kept.ite ?_ ?_
  · refine Kept.ite ?_ ?_
    · refine kept_histEntry ?_ (mask_sub (by decide) hA)
      · exact h2
    · exact h2
  · refine Kept.ite ?_ ?_
    · refine kept_raiseHist ?_ (mask_sub (by decide) hA)
      · exact h3
    · refine kept_raise ?_ (mask_sub (by decide) hA)
      · exact h3
theorem kept_psnLeave {A : Nat} {s0 : State} {s : Sys2Proof.Machine.State} {c : Nat} {f : Sys2Proof.PsnEnt → Bool} (h_s : Kept A s0 s) (hA : 4611686018427387912 ||| A = A) :
    Kept A s0 (State.psnLeave s c f) := by
  unfold State.psnLeave
  refine kept_showCel ?_ (mask_sub (by decide) hA)
  · refine kept_updCel ?_ (mask_sub (by decide) hA)
    · exact h_s
theorem kept_execRepairStart {A : Nat} {s0 : State} {c : Sys2Proof.StackId} {s : Sys2Proof.Machine.State} (h_s : Kept A s0 s) (hA : 4611690416483614264 ||| A = A) :
    KeptO A s0 (execRepairStart c s) := by
  unfold execRepairStart
  refine KeptO.next ?_
  refine Kept.ite ?_ ?_
  · exact h_s
  · refine kept_repairStart ?_ (mask_sub (by decide) hA)
    · exact h_s
theorem kept_needAgain {A : Nat} {s0 : State} {s : Sys2Proof.Machine.State} {c : Nat} {i : Nat} {g : Nat} (h_s : Kept A s0 s) (hA : 4611686018427387960 ||| A = A) :
    Kept A s0 (State.needAgain s c i g) := by
  unfold State.needAgain
  split
  · exact h_s
  · refine Kept.ite ?_ ?_
    · exact h_s
    · refine Kept.ite ?_ ?_
      · refine kept_needRepair ?_ (mask_sub (by decide) hA)
        · exact h_s
      · refine Kept.ite ?_ ?_
        · refine kept_needRepair ?_ (mask_sub (by decide) hA)
          · exact h_s
        · exact h_s
theorem kept_psnEnter {A : Nat} {s0 : State} {s : Sys2Proof.Machine.State} {c : Nat} {ch : Nat} {g : Nat} {origin : Nat} (h_s : Kept A s0 s) (hA : 4611686018427388472 ||| A = A) :
    Kept A s0 (State.psnEnter s c ch g origin) := by
  unfold State.psnEnter
  extract_lets -merge -useContext -underBinder x1
  refine Kept.ite ?_ ?_
  · exact h_s
  · split
    · refine kept_suspectChan ?_ (mask_sub (by decide) hA)
      · exact h_s
    · extract_lets -merge -useContext -underBinder x2 x3
      have h3 : Kept A s0 x3 := by
        unfold x3
        refine kept_updCel ?_ (mask_sub (by decide) hA)
        · exact h_s
      clear_value x3
      refine kept_showCel ?_ (mask_sub (by decide) hA)
      · refine kept_each ?_ (fun _ _ h4 => ?_)
        · exact h3
        · refine kept_needRepair ?_ (mask_sub (by decide) hA)
          · exact h4
theorem kept_showOverdue {A : Nat} {s0 : State} {s : Sys2Proof.Machine.State} {k : Nat} (h_s : Kept A s0 s) (hA : 8 ||| A = A) :
    Kept A s0 (State.showOverdue s k) := by
  unfold State.showOverdue
  extract_lets -merge -useContext -underBinder x1
  refine kept_wr ?_ (mask_sub (by decide) hA)
  · refine kept_wr ?_ (mask_sub (by decide) hA)
    · exact h_s
theorem kept_coreOverdue {A : Nat} {s0 : State} {s : Sys2Proof.Machine.State} {k : Nat} {p : Nat} (h_s : Kept A s0 s) (hA : 2361183241434822608408 ||| A = A) :
    Kept A s0 (coreOverdue s k p) := by
  unfold coreOverdue
  extract_lets -merge -useContext -underBinder x1 x2 x3 x4 x5 x6
  have h4 : Kept A s0 x4 := by
    unfold x4
    refine kept_showOverdue ?_ (mask_sub (by decide) hA)
    · refine kept_updStpOf ?_ (mask_sub (by decide) hA)
      · exact h_s
  clear_value x4
  refine Kept.ite ?_ ?_
  · exact h_s
  · refine kept_raiseOnce ?_ (mask_sub (by decide) hA)
    · exact h4
theorem kept_stpFailed {A : Nat} {s0 : State} {s : Sys2Proof.Machine.State} {p : Nat} {test : Nat} {slice : Nat} {reason : Nat} {w7 : Nat} (h_s : Kept A s0 s) (hA : 536 ||| A = A) :
    Kept A s0 (State.stpFailed s p test slice reason w7) := by
  unfold State.stpFailed
  refine kept_raiseHist ?_ (mask_sub (by decide) hA)
  · exact h_s
theorem kept_closureDone {A : Nat} {s0 : State} {s : Sys2Proof.Machine.State} {k : Nat} {p : Nat} {coreFail : Bool} {tapFail : Bool} (h_s : Kept A s0 s) (hA : 18014410320645688 ||| A = A) :
    Kept A s0 (State.closureDone s k p coreFail tapFail) := by
  unfold State.closureDone
  refine kept_each ?_ (fun _ _ h1 => ?_)
  · exact h_s
  · extract_lets -merge -useContext -underBinder x2 x3 x4 x5 x6
    have h4 : Kept A s0 x4 := by
      unfold x4
      refine kept_dropCase ?_ (mask_sub (by decide) hA)
      · exact h1
    have h5 : Kept A s0 x5 := by
      unfold x5
      refine Kept.ite ?_ ?_
      · refine kept_sendVerdict ?_ (mask_sub (by decide) hA)
        · exact h4
      · exact h4
    have h6 : Kept A s0 x6 := by
      unfold x6
      refine Kept.ite ?_ ?_
      · refine kept_sendVerdict ?_ (mask_sub (by decide) hA)
        · exact h5
      · exact h5
    clear_value x4 x5 x6
    refine Kept.ite ?_ ?_
    · exact h6
    · refine kept_sendVerdict ?_ (mask_sub (by decide) hA)
      · exact h6
theorem kept_requalDone {A : Nat} {s0 : State} {s : Sys2Proof.Machine.State} {k : Nat} {p : Nat} {ok : Bool} (h_s : Kept A s0 s) (hA : 1073742360 ||| A = A) :
    Kept A s0 (State.requalDone s k p ok) := by
  unfold State.requalDone
  extract_lets -merge -useContext -underBinder x1 x2 x3
  refine Kept.ite ?_ ?_
  · exact h_s
  · refine Kept.ite ?_ ?_
    · refine kept_raise ?_ (mask_sub (by decide) hA)
      · refine kept_updAdjOf ?_ (mask_sub (by decide) hA)
        · exact h_s
    · refine kept_updAdjOf ?_ (mask_sub (by decide) hA)
      · exact h_s
theorem kept_failState {A : Nat} {s0 : State} {s : Sys2Proof.Machine.State} {p : Nat} (h_s : Kept A s0 s) (hA : 7379006133423903620920 ||| A = A) :
    Kept A s0 (State.failState s p) := by
  unfold State.failState
  refine Kept.ite ?_ ?_
  · refine kept_enterFenced ?_ (mask_sub (by decide) hA)
    · exact h_s
  · refine kept_enterPermanent ?_ (mask_sub (by decide) hA)
    · exact h_s
theorem kept_stpFail {A : Nat} {s0 : State} {s : Sys2Proof.Machine.State} {e : Nat} {x : Sys2Proof.StpRun} {test : Nat} {reason : Nat} (h_s : Kept A s0 s) (hA : 7379006133423903620920 ||| A = A) :
    Kept A s0 (State.stpFail s e x test reason) := by
  unfold State.stpFail
  extract_lets -merge -useContext -underBinder x1 x2 x3 x4 x5 x6 x7 x8
  have h5 : Kept A s0 x5 := by
    unfold x5
    refine Kept.ite ?_ ?_
    · refine kept_count ?_ (mask_sub (by decide) hA)
      · exact h_s
    · exact h_s
  have h6 : Kept A s0 x6 := by
    unfold x6
    refine kept_updStpOf ?_ (mask_sub (by decide) hA)
    · refine kept_stpFailed ?_ (mask_sub (by decide) hA)
      · exact h5
  have h7 : Kept A s0 x7 := by
    unfold x7
    refine Kept.ite ?_ ?_
    · refine kept_closureDone ?_ (mask_sub (by decide) hA)
      · refine kept_requalDone ?_ (mask_sub (by decide) hA)
        · exact h6
    · exact h6
  have h8 : Kept A s0 x8 := by
    unfold x8
    refine Kept.ite ?_ ?_
    · refine kept_stpEnd ?_ (mask_sub (by decide) hA)
      · refine kept_shutLink ?_ (mask_sub (by decide) hA)
        · exact h7
    · refine kept_stpEnd ?_ (mask_sub (by decide) hA)
      · refine kept_failState ?_ (mask_sub (by decide) hA)
        · exact h7
  clear_value x5 x6 x7 x8
  refine Kept.ite ?_ ?_
  · refine kept_showOverdue ?_ (mask_sub (by decide) hA)
    · refine kept_updCore ?_ (mask_sub (by decide) hA)
      · exact h8
  · exact h8
theorem kept_phyLoopback {A : Nat} {s0 : State} {s : Sys2Proof.Machine.State} {c : Nat} {ch : Nat} {errs : Nat} (h_s : Kept A s0 s) (hA : 4726978168888072602136 ||| A = A) :
    Kept A s0 (phyLoopback s c ch errs) := by
  unfold phyLoopback
  split
  · exact h_s
  · extract_lets -merge -useContext -underBinder x1
    have h1 : Kept A s0 x1 := by
      unfold x1
      refine kept_updEng ?_ (mask_sub (by decide) hA)
      · exact h_s
    clear_value x1
    refine Kept.ite ?_ ?_
    · exact h_s
    · refine Kept.ite ?_ ?_
      · exact h1
      · refine kept_suspectChan ?_ (mask_sub (by decide) hA)
        · refine kept_stpFailed ?_ (mask_sub (by decide) hA)
          · exact h1
theorem kept_stpDefer {A : Nat} {s0 : State} {s : Sys2Proof.Machine.State} {p : Nat} {reason : Nat} (h_s : Kept A s0 s) (hA : 2361183241434822608440 ||| A = A) :
    Kept A s0 (State.stpDefer s p reason) := by
  unfold State.stpDefer
  extract_lets -merge -useContext -underBinder x1 x2
  have h1 : Kept A s0 x1 := by
    unfold x1
    refine kept_updStpOf ?_ (mask_sub (by decide) hA)
    · exact h_s
  clear_value x1
  refine Kept.ite ?_ ?_
  · refine kept_raiseOnce ?_ (mask_sub (by decide) hA)
    · refine kept_count ?_ (mask_sub (by decide) hA)
      · exact h1
  · refine kept_raiseOnce ?_ (mask_sub (by decide) hA)
    · exact h1
theorem kept_sliceLoad {A : Nat} {s0 : State} {s : Sys2Proof.Machine.State} {x : Sys2Proof.StpRun} {i : Nat} (h_s : Kept A s0 s) (hA : 4398047836160 ||| A = A) :
    Kept A s0 (State.sliceLoad s x i) := by
  unfold State.sliceLoad
  extract_lets -merge -useContext -underBinder x1
  split
  · refine kept_bulk ?_ (mask_sub (by decide) hA)
    · exact h_s
  · exact h_s
theorem kept_sliceStart {A : Nat} {s0 : State} {s : Sys2Proof.Machine.State} {x : Sys2Proof.StpRun} (h_s : Kept A s0 s) (hA : 7378697633883751726904 ||| A = A) :
    Kept A s0 (State.sliceStart s x) := by
  unfold State.sliceStart
  extract_lets -merge -useContext -underBinder x1
  split
  · exact h_s
  · extract_lets -merge -useContext -underBinder x2 x3
    have h3 : Kept A s0 x3 := by
      unfold x3
      refine kept_emit ?_ (mask_sub (by decide) hA)
      · refine kept_updEng ?_ (mask_sub (by decide) hA)
        · exact h_s
    clear_value x3
    refine Kept.ite ?_ ?_
    · refine kept_stpDefer ?_ (mask_sub (by decide) hA)
      · refine kept_stpEnd ?_ (mask_sub (by decide) hA)
        · exact h_s
    · refine Kept.ite ?_ ?_
      · exact h3
      · refine kept_sliceLoad ?_ (mask_sub (by decide) hA)
        · exact h3
theorem kept_laneLoop {A : Nat} {s0 : State} {s : Sys2Proof.Machine.State} {n : Nat} {i : Nat} (h_s : Kept A s0 s) (hA : 7378697629485703892792 ||| A = A) :
    Kept A s0 (State.laneLoop s n i) := by
  unfold State.laneLoop
  extract_lets -merge -useContext -underBinder x1 x2
  refine Kept.ite ?_ ?_
  · refine kept_updDoor ?_ (mask_sub (by decide) hA)
    · exact h_s
  · refine Kept.ite ?_ ?_
    · exact h_s
    · refine kept_updStpOf ?_ (mask_sub (by decide) hA)
      · refine kept_stpEnd ?_ (mask_sub (by decide) hA)
        · exact h_s
theorem kept_stpComplete {A : Nat} {s0 : State} {s : Sys2Proof.Machine.State} {e : Nat} {x : Sys2Proof.StpRun} (h_s : Kept A s0 s) (hA : 7378715644582145560376 ||| A = A) :
    Kept A s0 (State.stpComplete s e x) := by
  unfold State.stpComplete
  extract_lets -merge -useContext -underBinder x1 x2 x3 x4
  have h4 : Kept A s0 x4 := by
    unfold x4
    refine kept_updStpOf ?_ (mask_sub (by decide) hA)
    · exact h_s
  clear_value x4
  split
  · extract_lets -merge -useContext -underBinder x5 x6 x7 x8
    have h5 : Kept A s0 x5 := by
      unfold x5
      refine kept_updAdjOf ?_ (mask_sub (by decide) hA)
      · refine kept_showOverdue ?_ (mask_sub (by decide) hA)
        · refine kept_count ?_ (mask_sub (by decide) hA)
          · exact h4
    have h6 : Kept A s0 x6 := by
      unfold x6
      refine Kept.ite ?_ ?_
      · refine kept_returnService ?_ (mask_sub (by decide) hA)
        · exact h5
      · exact h5
    have h7 : Kept A s0 x7 := by
      unfold x7
      refine kept_requalDone ?_ (mask_sub (by decide) hA)
      · refine kept_closureDone ?_ (mask_sub (by decide) hA)
        · exact h6
    have h8 : Kept A s0 x8 := by
      unfold x8
      refine Kept.ite ?_ ?_
      · refine kept_emit ?_ (mask_sub (by decide) hA)
        · exact h7
      · exact h7
    clear_value x5 x6 x7 x8
    refine kept_updCore ?_ (mask_sub (by decide) hA)
    · refine kept_updEng ?_ (mask_sub (by decide) hA)
      · exact h8
  · refine kept_returnService ?_ (mask_sub (by decide) hA)
    · refine kept_stpEnd ?_ (mask_sub (by decide) hA)
      · exact h4
  · refine kept_returnService ?_ (mask_sub (by decide) hA)
    · refine kept_stpEnd ?_ (mask_sub (by decide) hA)
      · refine kept_wr ?_ (mask_sub (by decide) hA)
        · exact h4
  · refine kept_returnService ?_ (mask_sub (by decide) hA)
    · refine kept_stpEnd ?_ (mask_sub (by decide) hA)
      · refine kept_wr ?_ (mask_sub (by decide) hA)
        · exact h4
theorem kept_stpGo {A : Nat} {s0 : State} {s : Sys2Proof.Machine.State} {e : Nat} {x : Sys2Proof.StpRun} {next : Nat} (h_s : Kept A s0 s) (hA : 7378715648980193394488 ||| A = A) :
    Kept A s0 (State.stpGo s e x next) := by
  unfold State.stpGo
  extract_lets -merge -useContext -underBinder x1 x2
  have h2 : Kept A s0 x2 := by
    unfold x2
    refine kept_updEng ?_ (mask_sub (by decide) hA)
    · exact h_s
  clear_value x2
  refine Kept.ite ?_ ?_
  · refine kept_stpComplete ?_ (mask_sub (by decide) hA)
    · exact h_s
  · refine Kept.ite ?_ ?_
    · refine kept_stpAbandon ?_ (mask_sub (by decide) hA)
      · exact h2
    · refine Kept.ite ?_ ?_
      · refine kept_laneLoop ?_ (mask_sub (by decide) hA)
        · exact h2
      · refine kept_sliceStart ?_ (mask_sub (by decide) hA)
        · exact h2
theorem kept_stpFinal {A : Nat} {s0 : State} {s : Sys2Proof.Machine.State} {k : Nat} {p : Nat} {forced : Bool} (h_s : Kept A s0 s) (hA : 5017514388738076053304 ||| A = A) :
    Kept A s0 (State.stpFinal s k p forced) := by
  unfold State.stpFinal
  extract_lets -merge -useContext -underBinder x1 x2
  have h1 : Kept A s0 x1 := by
    unfold x1
    refine kept_stpEnd ?_ (mask_sub (by decide) hA)
    · exact h_s
  have h2 : Kept A s0 x2 := by
    unfold x2
    refine Kept.ite ?_ ?_
    · refine kept_returnService ?_ (mask_sub (by decide) hA)
      · exact h1
    · exact h1
  clear_value x1 x2
  refine Kept.ite ?_ ?_
  · exact h2
  · refine kept_updCore ?_ (mask_sub (by decide) hA)
    · exact h2
theorem kept_steepDue {A : Nat} {s0 : State} {s : Sys2Proof.Machine.State} {p : Nat} (h_s : Kept A s0 s) (hA : 2361183241434822606848 ||| A = A) :
    Kept A s0 (steepDue s p) := by
  unfold steepDue
  extract_lets -merge -useContext -underBinder x1
  refine Kept.ite ?_ ?_
  · exact h_s
  · refine kept_updStpOf ?_ (mask_sub (by decide) hA)
    · exact h_s
theorem kept_steepWithdraw {A : Nat} {s0 : State} {s : Sys2Proof.Machine.State} {k : Nat} {p : Nat} (h_s : Kept A s0 s) (hA : 7378697629485703892792 ||| A = A) :
    Kept A s0 (steepWithdraw s k p) := by
  unfold steepWithdraw
  extract_lets -merge -useContext -underBinder x1
  split
  · exact h_s
  · extract_lets -merge -useContext -underBinder x2
    refine Kept.ite ?_ ?_
    · exact h_s
    · refine Kept.ite ?_ ?_
      · refine Kept.ite ?_ ?_
        · exact h_s
        · refine kept_updStpOf ?_ (mask_sub (by decide) hA)
          · refine kept_stpEnd ?_ (mask_sub (by decide) hA)
            · exact h_s
      · refine kept_stpDefer ?_ (mask_sub (by decide) hA)
        · refine kept_stpEnd ?_ (mask_sub (by decide) hA)
          · exact h_s
theorem kept_execSteepWithdraw {A : Nat} {s0 : State} {k : Sys2Proof.ClusterId} {p : Sys2Proof.CoreId} {s : Sys2Proof.Machine.State} (h_s : Kept A s0 s) (hA : 7378697629485703892792 ||| A = A) :
    KeptO A s0 (execSteepWithdraw k p s) := by
  unfold execSteepWithdraw
  refine KeptO.next ?_
  refine kept_steepWithdraw ?_ (mask_sub (by decide) hA)
  · exact h_s
theorem kept_unitPeriod {A : Nat} {s0 : State} {s : Sys2Proof.Machine.State} {since : Nat} (h_s : Kept A s0 s) (hA : 1560 ||| A = A) :
    Kept A s0 (State.unitPeriod s since) := by
  unfold State.unitPeriod
  extract_lets -merge -useContext -underBinder x1
  have h1 : Kept A s0 x1 := by
    unfold x1
    refine kept_each ?_ (fun _ _ h5 => ?_)
    · exact h_s
    · extract_lets -merge -useContext -underBinder x6
      refine Kept.ite ?_ ?_
      · exact h5
      · refine kept_raiseOnce ?_ (mask_sub (by decide) hA)
        · exact h5
  clear_value x1
  refine kept_each ?_ (fun _ _ h2 => ?_)
  · exact h1
  · refine kept_each ?_ (fun _ _ h3 => ?_)
    · exact h2
    · extract_lets -merge -useContext -underBinder x4
      refine Kept.ite ?_ ?_
      · exact h3
      · refine kept_raiseOnce ?_ (mask_sub (by decide) hA)
        · exact h3
theorem kept_execPhyLoopback {A : Nat} {s0 : State} {c : Sys2Proof.StackId} {ch : Sys2Proof.ChanId} {errs : BitVec 16} {s : Sys2Proof.Machine.State} (h_s : Kept A s0 s) (hA : 4726978168888072602136 ||| A = A) :
    KeptO A s0 (execPhyLoopback c ch errs s) := by
  unfold execPhyLoopback
  refine KeptO.next ?_
  refine kept_phyLoopback ?_ (mask_sub (by decide) hA)
  · exact h_s
theorem kept_execCoreOverdue {A : Nat} {s0 : State} {k : Sys2Proof.ClusterId} {p : Sys2Proof.CoreId} {s : Sys2Proof.Machine.State} (h_s : Kept A s0 s) (hA : 2361183241434822608408 ||| A = A) :
    KeptO A s0 (execCoreOverdue k p s) := by
  unfold execCoreOverdue
  refine KeptO.next ?_
  refine kept_coreOverdue ?_ (mask_sub (by decide) hA)
  · exact h_s
theorem kept_corePeriod {A : Nat} {s0 : State} {s : Sys2Proof.Machine.State} {since : Nat} (h_s : Kept A s0 s) (hA : 1560 ||| A = A) :
    Kept A s0 (State.corePeriod s since) := by
  unfold State.corePeriod
  refine kept_each ?_ (fun _ _ h1 => ?_)
  · exact h_s
  · extract_lets -merge -useContext -underBinder x2
    refine Kept.ite ?_ ?_
    · exact h1
    · refine kept_raiseOnce ?_ (mask_sub (by decide) hA)
      · exact h1
theorem kept_steepsFirst {A : Nat} {s0 : State} {s : Sys2Proof.Machine.State} (h_s : Kept A s0 s) (hA : 3541774862152233910272 ||| A = A) :
    Kept A s0 (State.steepsFirst s) := by
  unfold State.steepsFirst
  extract_lets -merge -useContext -underBinder x1 x2
  have h2 : Kept A s0 x2 := by
    unfold x2
    refine kept_each ?_ (fun _ _ h3 => ?_)
    · exact h_s
    · refine kept_updStpOf ?_ (mask_sub (by decide) hA)
      · exact h3
  clear_value x2
  refine Kept.u_steepFirst ?_ (mask_sub (by decide) hA)
  exact h2
theorem kept_coreRotationStart {A : Nat} {s0 : State} {s : Sys2Proof.Machine.State} (h_s : Kept A s0 s) (hA : 31876045816964143121976 ||| A = A) :
    Kept A s0 (coreRotationStart s) := by
  unfold coreRotationStart
  extract_lets -merge -useContext -underBinder x1 x2 x3 x4 x5 x6 x7 x8 x9
  have h5 : Kept A s0 x5 := by
    unfold x5
    refine kept_corePeriod ?_ (mask_sub (by decide) hA)
    · exact h_s
  have h6 : Kept A s0 x6 := by
    unfold x6
    refine Kept.ite ?_ ?_
    · exact h_s
    · refine Kept.ite ?_ ?_
      · refine kept_unitPeriod ?_ (mask_sub (by decide) hA)
        · exact h5
      · exact h5
  have h7 : Kept A s0 x7 := by
    unfold x7
    refine kept_count ?_ (mask_sub (by decide) hA)
    · exact h6
  have h9 : Kept A s0 x9 := by
    unfold x9
    refine Kept.u_plan ?_ (mask_sub (by decide) hA)
    exact h7
  clear_value x5 x6 x7 x9
  refine kept_steepsFirst ?_ (mask_sub (by decide) hA)
  · refine kept_gristActivate ?_ (mask_sub (by decide) hA)
    · exact h9
theorem kept_execCoreRotationStart {A : Nat} {s0 : State} {s : Sys2Proof.Machine.State} (h_s : Kept A s0 s) (hA : 31876045816964143121976 ||| A = A) :
    KeptO A s0 (execCoreRotationStart s) := by
  unfold execCoreRotationStart
  refine KeptO.next ?_
  refine Kept.ite ?_ ?_
  · exact h_s
  · refine kept_coreRotationStart ?_ (mask_sub (by decide) hA)
    · exact h_s
theorem kept_stpOn {A : Nat} {s0 : State} {s : Sys2Proof.Machine.State} {e : Nat} {x : Sys2Proof.StpRun} (h_s : Kept A s0 s) (hA : 7378715648980193394488 ||| A = A) :
    Kept A s0 (State.stpOn s e x) := by
  unfold State.stpOn
  extract_lets -merge -useContext -underBinder x1
  have h1 : Kept A s0 x1 := by
    unfold x1
    refine kept_updStpOf ?_ (mask_sub (by decide) hA)
    · exact h_s
  clear_value x1
  refine kept_stpGo ?_ (mask_sub (by decide) hA)
  · exact h1
theorem kept_laneLoopbackEnd {A : Nat} {s0 : State} {s : Sys2Proof.Machine.State} {n : Nat} {l : Nat} {errs : Nat} {checked : Nat} (h_s : Kept A s0 s) (hA : 7378715648980193394488 ||| A = A) :
    Kept A s0 (laneLoopbackEnd s n l errs checked) := by
  unfold laneLoopbackEnd
  extract_lets -merge -useContext -underBinder x1
  split
  · exact h_s
  · extract_lets -merge -useContext -underBinder x2 x3 x4 x5 x6 x7
    have h3 : Kept A s0 x3 := by
      unfold x3
      refine kept_updDoor ?_ (mask_sub (by decide) hA)
      · exact h_s
    have h5 : Kept A s0 x5 := by
      unfold x5
      refine kept_updDoor ?_ (mask_sub (by decide) hA)
      · exact h3
    have h6 : Kept A s0 x6 := by
      unfold x6
      refine Kept.ite ?_ ?_
      · refine kept_raise ?_ (mask_sub (by decide) hA)
        · exact h5
      · exact h5
    have h7 : Kept A s0 x7 := by
      unfold x7
      refine kept_raiseHist ?_ (mask_sub (by decide) hA)
      · refine kept_wr ?_ (mask_sub (by decide) hA)
        · exact h6
    clear_value x3 x5 x6 x7
    refine Kept.ite ?_ ?_
    · exact h_s
    · refine Kept.ite ?_ ?_
      · refine Kept.ite ?_ ?_
        · refine kept_stpOn ?_ (mask_sub (by decide) hA)
          · exact h3
        · refine kept_stpOn ?_ (mask_sub (by decide) hA)
          · exact h3
      · refine kept_updStpOf ?_ (mask_sub (by decide) hA)
        · refine kept_stpEnd ?_ (mask_sub (by decide) hA)
          · exact h7
theorem kept_execSteepDue {A : Nat} {s0 : State} {u : Sys2Proof.SteepUnit} {s : Sys2Proof.Machine.State} (h_s : Kept A s0 s) (hA : 2361183241434822606848 ||| A = A) :
    KeptO A s0 (execSteepDue u s) := by
  unfold execSteepDue
  refine KeptO.next ?_
  refine kept_steepDue ?_ (mask_sub (by decide) hA)
  · exact h_s
theorem kept_secretClearDone {A : Nat} {s0 : State} {s : Sys2Proof.Machine.State} {k : Nat} {p : Nat} {rowsZero : Bool} {keyZero : Nat} (h_s : Kept A s0 s) (hA : 1367568127161284674469688 ||| A = A) :
    Kept A s0 (secretClearDone s k p rowsZero keyZero) := by
  unfold secretClearDone
  extract_lets -merge -useContext -underBinder x1 x2 x3
  have h3 : Kept A s0 x3 := by
    unfold x3
    refine kept_updCore ?_ (mask_sub (by decide) hA)
    · exact h_s
  clear_value x3
  refine Kept.ite ?_ ?_
  · exact h_s
  · refine Kept.ite ?_ ?_
    · refine Kept.ite ?_ ?_
      · refine kept_coreResetDone ?_ (mask_sub (by decide) hA)
        · exact h3
      · exact h3
    · split
      · exact h3
      · refine Kept.ite ?_ ?_
        · exact h3
        · refine Kept.ite ?_ ?_
          · refine kept_stpFail ?_ (mask_sub (by decide) hA)
            · exact h3
          · refine Kept.ite ?_ ?_
            · refine kept_stpFinal ?_ (mask_sub (by decide) hA)
              · exact h3
            · refine Kept.ite ?_ ?_
              · refine kept_stpComplete ?_ (mask_sub (by decide) hA)
                · exact h3
              · refine Kept.ite ?_ ?_
                · refine kept_stpDefer ?_ (mask_sub (by decide) hA)
                  · refine kept_stpEnd ?_ (mask_sub (by decide) hA)
                    · exact h3
                · refine kept_sliceStart ?_ (mask_sub (by decide) hA)
                  · refine kept_updCore ?_ (mask_sub (by decide) hA)
                    · refine kept_updEng ?_ (mask_sub (by decide) hA)
                      · exact h3
theorem kept_sliceCompare {A : Nat} {s0 : State} {s : Sys2Proof.Machine.State} {e : Nat} {resp : List Bool} {cyc100 : Nat} (h_s : Kept A s0 s) (hA : 7383617819442331008824 ||| A = A) :
    Kept A s0 (sliceCompare s e resp cyc100) := by
  unfold sliceCompare
  split
  · exact h_s
  · extract_lets -merge -useContext -underBinder x1 x2 x3 x4 x5
    have h3 : Kept A s0 x3 := by
      unfold x3
      refine kept_updHall ?_ (mask_sub (by decide) hA)
      · exact h_s
    clear_value x3
    refine Kept.ite ?_ ?_
    · exact h_s
    · refine Kept.ite ?_ ?_
      · refine kept_stpOn ?_ (mask_sub (by decide) hA)
        · refine Kept.ite ?_ ?_
          · refine kept_raiseOnce ?_ (mask_sub (by decide) hA)
            · exact h3
          · exact h3
      · refine Kept.ite ?_ ?_
        · refine kept_sliceStart ?_ (mask_sub (by decide) hA)
          · refine kept_updEng ?_ (mask_sub (by decide) hA)
            · exact h3
        · split
          · extract_lets -merge -useContext -underBinder x6 x7
            have h6 : Kept A s0 x6 := by
              unfold x6
              refine kept_failState ?_ (mask_sub (by decide) hA)
              · refine kept_stpFailed ?_ (mask_sub (by decide) hA)
                · exact h3
            have h7 : Kept A s0 x7 := by
              unfold x7
              refine kept_updStpOf ?_ (mask_sub (by decide) hA)
              · exact h6
            clear_value x6 x7
            refine Kept.ite ?_ ?_
            · refine kept_stpGo ?_ (mask_sub (by decide) hA)
              · exact h7
            · refine kept_stpFail ?_ (mask_sub (by decide) hA)
              · exact h3
          · extract_lets -merge -useContext -underBinder x8
            have h8 : Kept A s0 x8 := by
              unfold x8
              refine kept_stpFail ?_ (mask_sub (by decide) hA)
              · exact h3
            clear_value x8
            refine Kept.ite ?_ ?_
            · refine kept_updAdjOf ?_ (mask_sub (by decide) hA)
              · exact h8
            · exact h8
          · extract_lets -merge -useContext -underBinder x9 x10
            have h10 : Kept A s0 x10 := by
              unfold x10
              refine Kept.ite ?_ ?_
              · refine kept_suspectChan ?_ (mask_sub (by decide) hA)
                · refine kept_stpFailed ?_ (mask_sub (by decide) hA)
                  · exact h3
              · exact h3
            clear_value x10
            refine Kept.ite ?_ ?_
            · refine kept_stpFail ?_ (mask_sub (by decide) hA)
              · exact h10
            · refine kept_stpOn ?_ (mask_sub (by decide) hA)
              · exact h10
          · refine kept_stpFail ?_ (mask_sub (by decide) hA)
            · exact h3
theorem kept_laneBack {A : Nat} {s0 : State} {s : Sys2Proof.Machine.State} {n : Nat} {l : Nat} {us : Nat} (h_s : Kept A s0 s) (hA : 7378697629485703892792 ||| A = A) :
    Kept A s0 (laneBack s n l us) := by
  unfold laneBack
  extract_lets -merge -useContext -underBinder x1
  have h1 : Kept A s0 x1 := by
    unfold x1
    refine kept_laneReturn ?_ (mask_sub (by decide) hA)
    · exact h_s
  clear_value x1
  split
  · refine Kept.ite ?_ ?_
    · refine kept_laneLoop ?_ (mask_sub (by decide) hA)
      · exact h1
    · exact h1
  · exact h1
theorem kept_marchDone {A : Nat} {s0 : State} {s : Sys2Proof.Machine.State} {c : Nat} {ch : Nat} {bad : Nat} {ue : Bool} (h_s : Kept A s0 s) (hA : 72057594037928472 ||| A = A) :
    Kept A s0 (marchDone s c ch bad ue) := by
  unfold marchDone
  extract_lets -merge -useContext -underBinder x1 x2 x3
  have h3 : Kept A s0 x3 := by
    unfold x3
    refine kept_each ?_ (fun _ _ h4 => ?_)
    · refine kept_wr ?_ (mask_sub (by decide) hA)
      · exact h_s
    · refine kept_poke ?_ (mask_sub (by decide) hA)
      · exact h4
  clear_value x3
  refine Kept.ite ?_ ?_
  · exact h_s
  · refine Kept.ite ?_ ?_
    · refine kept_wr ?_ (mask_sub (by decide) hA)
      · exact h3
    · refine kept_stpFailed ?_ (mask_sub (by decide) hA)
      · exact h3
theorem kept_sliceAbort {A : Nat} {s0 : State} {s : Sys2Proof.Machine.State} {e : Nat} {us : Nat} (h_s : Kept A s0 s) (hA : 7378697629485703892792 ||| A = A) :
    Kept A s0 (sliceAbort s e us) := by
  unfold sliceAbort
  split
  · exact h_s
  · extract_lets -merge -useContext -underBinder x1 x2 x3 x4
    have h3 : Kept A s0 x3 := by
      unfold x3
      refine Kept.ite ?_ ?_
      · refine kept_count ?_ (mask_sub (by decide) hA)
        · exact h_s
      · exact h_s
    have h4 : Kept A s0 x4 := by
      unfold x4
      refine kept_raiseOnce ?_ (mask_sub (by decide) hA)
      · exact h3
    clear_value x3 x4
    refine Kept.ite ?_ ?_
    · exact h_s
    · refine kept_updStpOf ?_ (mask_sub (by decide) hA)
      · refine Kept.ite ?_ ?_
        · refine kept_stpEnd ?_ (mask_sub (by decide) hA)
          · exact h4
        · refine kept_stpHold ?_ (mask_sub (by decide) hA)
          · exact h4
theorem kept_execSliceAbort {A : Nat} {s0 : State} {e : Sys2Proof.Engine} {us : Nat} {s : Sys2Proof.Machine.State} (h_s : Kept A s0 s) (hA : 7378697629485703892792 ||| A = A) :
    KeptO A s0 (execSliceAbort e us s) := by
  unfold execSliceAbort
  refine KeptO.next ?_
  refine kept_sliceAbort ?_ (mask_sub (by decide) hA)
  · exact h_s
theorem kept_channelMarch {A : Nat} {s0 : State} {s : Sys2Proof.Machine.State} {c : Nat} {data : Nat} (h_s : Kept A s0 s) (hA : 8 ||| A = A) :
    Kept A s0 (channelMarch s c data) := by
  unfold channelMarch
  refine kept_each ?_ (fun _ _ h1 => ?_)
  · exact h_s
  · refine kept_wr ?_ (mask_sub (by decide) hA)
    · exact h1
theorem kept_stpOwn {A : Nat} {s0 : State} {s : Sys2Proof.Machine.State} {p : Nat} {total : Nat} (h_s : Kept A s0 s) (hA : 7378697629483820647224 ||| A = A) :
    Kept A s0 (State.stpOwn s p total) := by
  unfold State.stpOwn
  extract_lets -merge -useContext -underBinder x1 x2
  have h2 : Kept A s0 x2 := by
    unfold x2
    refine kept_updStpOf ?_ (mask_sub (by decide) hA)
    · exact h_s
  clear_value x2
  refine kept_setUnit ?_ (mask_sub (by decide) hA)
  · refine kept_updEng ?_ (mask_sub (by decide) hA)
    · exact h2
theorem kept_stpCore {A : Nat} {s0 : State} {s : Sys2Proof.Machine.State} {k : Nat} {p : Nat} {phase : Nat} {forced : Option Nat} (h_s : Kept A s0 s) (hA : 7378697633882136918840 ||| A = A) :
    Kept A s0 (State.stpCore s k p phase forced) := by
  unfold State.stpCore
  extract_lets -merge -useContext -underBinder x1 x2 x3 x4 x5 x6 x7 x8 x9 x10 x11
  have h9 : Kept A s0 x9 := by
    unfold x9
    refine kept_updStpOf ?_ (mask_sub (by decide) hA)
    · exact h_s
  have h10 : Kept A s0 x10 := by
    unfold x10
    refine kept_setUnit ?_ (mask_sub (by decide) hA)
    · refine kept_updEng ?_ (mask_sub (by decide) hA)
      · exact h9
  have h11 : Kept A s0 x11 := by
    unfold x11
    refine kept_sliceLoad ?_ (mask_sub (by decide) hA)
    · exact h10
  clear_value x9 x10 x11
  refine Kept.ite ?_ ?_
  · refine kept_updCore ?_ (mask_sub (by decide) hA)
    · exact h11
  · refine kept_updCore ?_ (mask_sub (by decide) hA)
    · exact h11
theorem kept_steepStart {A : Nat} {s0 : State} {s : Sys2Proof.Machine.State} {e : Nat} {cyc100 : Nat} (h_s : Kept A s0 s) (hA : 7379003878737871912760 ||| A = A) :
    Kept A s0 (steepStart s e cyc100) := by
  unfold steepStart
  extract_lets -merge -useContext -underBinder x1 x2
  have h2 : Kept A s0 x2 := by
    unfold x2
    refine kept_updHall ?_ (mask_sub (by decide) hA)
    · exact h_s
  clear_value x2
  refine Kept.ite ?_ ?_
  · exact h_s
  · split
    · exact h2
    · extract_lets -merge -useContext -underBinder x3 x4
      split
      · extract_lets -merge -useContext -underBinder x5 x6 x7
        refine Kept.ite ?_ ?_
        · refine kept_stpDefer ?_ (mask_sub (by decide) hA)
          · exact h2
        · refine Kept.ite ?_ ?_
          · refine kept_stpDefer ?_ (mask_sub (by decide) hA)
            · exact h2
          · refine Kept.ite ?_ ?_
            · refine kept_stpDefer ?_ (mask_sub (by decide) hA)
              · exact h2
            · refine Kept.ite ?_ ?_
              · refine kept_stpCore ?_ (mask_sub (by decide) hA)
                · exact h2
              · split
                · refine kept_stpCore ?_ (mask_sub (by decide) hA)
                  · exact h2
                · extract_lets -merge -useContext -underBinder x8
                  have h8 : Kept A s0 x8 := by
                    unfold x8
                    refine kept_stpDefer ?_ (mask_sub (by decide) hA)
                    · exact h2
                  clear_value x8
                  refine Kept.ite ?_ ?_
                  · refine Kept.ite ?_ ?_
                    · refine kept_updStpOf ?_ (mask_sub (by decide) hA)
                      · exact h8
                    · exact h8
                  · refine kept_stpCore ?_ (mask_sub (by decide) hA)
                    · exact h2
      · extract_lets -merge -useContext -underBinder x9
        have h9 : Kept A s0 x9 := by
          unfold x9
          refine kept_stpOwn ?_ (mask_sub (by decide) hA)
          · exact h2
        clear_value x9
        refine Kept.ite ?_ ?_
        · refine kept_stpDefer ?_ (mask_sub (by decide) hA)
          · exact h2
        · refine Kept.ite ?_ ?_
          · exact h9
          · refine kept_leaveService ?_ (mask_sub (by decide) hA)
            · exact h9
      · refine Kept.ite ?_ ?_
        · exact h2
        · refine kept_stpOwn ?_ (mask_sub (by decide) hA)
          · exact h2
      · extract_lets -merge -useContext -underBinder x10 x11
        have h10 : Kept A s0 x10 := by
          unfold x10
          refine kept_stpOwn ?_ (mask_sub (by decide) hA)
          · exact h2
        clear_value x10
        refine Kept.ite ?_ ?_
        · exact h2
        · refine Kept.ite ?_ ?_
          · refine kept_laneLoop ?_ (mask_sub (by decide) hA)
            · exact h10
          · exact h10
theorem kept_execSteepStart {A : Nat} {s0 : State} {e : Sys2Proof.Engine} {cyc100 : Nat} {s : Sys2Proof.Machine.State} (h_s : Kept A s0 s) (hA : 7379003878737871912760 ||| A = A) :
    KeptO A s0 (execSteepStart e cyc100 s) := by
  unfold execSteepStart
  refine KeptO.next ?_
  refine Kept.ite ?_ ?_
  · exact h_s
  · refine kept_steepStart ?_ (mask_sub (by decide) hA)
    · exact h_s
theorem kept_forcedSteepBoundary {A : Nat} {s0 : State} {s : Sys2Proof.Machine.State} {k : Nat} {p : Nat} (h_s : Kept A s0 s) (hA : 7378697633882673789756 ||| A = A) :
    Kept A s0 (forcedSteepBoundary s k p) := by
  unfold forcedSteepBoundary
  extract_lets -merge -useContext -underBinder x1
  split
  · exact h_s
  · extract_lets -merge -useContext -underBinder x2 x3 x4
    have h3 : Kept A s0 x3 := by
      unfold x3
      refine kept_stpCore ?_ (mask_sub (by decide) hA)
      · refine kept_draw ?_ (mask_sub (by decide) hA)
        · exact h_s
    have h4 : Kept A s0 x4 := by
      unfold x4
      refine kept_updPort ?_ (mask_sub (by decide) hA)
      · exact h3
    clear_value x3 x4
    refine Kept.ite ?_ ?_
    · exact h_s
    · refine kept_raise ?_ (mask_sub (by decide) hA)
      · exact h4
theorem kept_execSecretClearDone {A : Nat} {s0 : State} {k : Sys2Proof.ClusterId} {p : Sys2Proof.CoreId} {rowsZero : Bool} {keyZero : BitVec 4} {s : Sys2Proof.Machine.State} (h_s : Kept A s0 s) (hA : 1367568127161284674469688 ||| A = A) :
    KeptO A s0 (execSecretClearDone k p rowsZero keyZero s) := by
  unfold execSecretClearDone
  refine KeptO.next ?_
  refine kept_secretClearDone ?_ (mask_sub (by decide) hA)
  · exact h_s
theorem kept_execLaneLoopbackEnd {A : Nat} {s0 : State} {n : Sys2Proof.DoorId} {l : Sys2Proof.LaneId} {errs : BitVec 16} {checked : Nat} {s : Sys2Proof.Machine.State} (h_s : Kept A s0 s) (hA : 7378715648980193394488 ||| A = A) :
    KeptO A s0 (execLaneLoopbackEnd n l errs checked s) := by
  unfold execLaneLoopbackEnd
  refine KeptO.next ?_
  refine kept_laneLoopbackEnd ?_ (mask_sub (by decide) hA)
  · exact h_s
theorem kept_execSliceCompare {A : Nat} {s0 : State} {e : Sys2Proof.Engine} {resp : List Bool} {cyc100 : Nat} {s : Sys2Proof.Machine.State} (h_s : Kept A s0 s) (hA : 7383617819442331008824 ||| A = A) :
    KeptO A s0 (execSliceCompare e resp cyc100 s) := by
  unfold execSliceCompare
  refine KeptO.next ?_
  refine Kept.ite ?_ ?_
  · exact h_s
  · refine kept_sliceCompare ?_ (mask_sub (by decide) hA)
    · exact h_s
end Sys2Proof.Machine
end

