-- ==== Sys2Proof/Laws/Kept3.lean ====
section
/-! SUPPORT. What every operation on the state keeps, part 4: callees come before their callers. -/
namespace Sys2Proof.Machine
open Sys2Proof Host
theorem kept_execMarchDone {A : Nat} {s0 : State} {c : Sys2Proof.StackId} {ch : Sys2Proof.ChanId} {miscompares : Nat} {ue : Bool} {s : Sys2Proof.Machine.State} (h_s : Kept A s0 s) (hA : 72057594037928472 ||| A = A) :
    KeptO A s0 (execMarchDone c ch miscompares ue s) := by
  unfold execMarchDone
  refine KeptO.next ?_
  refine kept_marchDone ?_ (mask_sub (by decide) hA)
  · exact h_s
theorem kept_execLaneReturn {A : Nat} {s0 : State} {n : Sys2Proof.DoorId} {l : Sys2Proof.LaneId} {us : Nat} {s : Sys2Proof.Machine.State} (h_s : Kept A s0 s) (hA : 7378697629485703892792 ||| A = A) :
    KeptO A s0 (execLaneReturn n l us s) := by
  unfold execLaneReturn
  refine KeptO.next ?_
  refine kept_laneBack ?_ (mask_sub (by decide) hA)
  · exact h_s
theorem kept_execForcedSteepBoundary {A : Nat} {s0 : State} {k : Sys2Proof.ClusterId} {p : Sys2Proof.CoreId} {s : Sys2Proof.Machine.State} (h_s : Kept A s0 s) (hA : 7378697633882673789756 ||| A = A) :
    KeptO A s0 (execForcedSteepBoundary k p s) := by
  unfold execForcedSteepBoundary
  refine KeptO.next ?_
  refine kept_forcedSteepBoundary ?_ (mask_sub (by decide) hA)
  · exact h_s
theorem kept_writeBack {A : Nat} {s0 : State} {s : Sys2Proof.Machine.State} {c : Nat} (h_s : Kept A s0 s) (hA : 4683743612465315888 ||| A = A) :
    Kept A s0 (State.writeBack s c) := by
  unfold State.writeBack
  extract_lets -merge -useContext -underBinder x1 x2
  have h2 : Kept A s0 x2 := by
    unfold x2
    refine kept_each ?_ (fun _ _ h3 => ?_)
    · exact h_s
    · refine Kept.ite ?_ ?_
      · refine kept_count ?_ (mask_sub (by decide) hA)
        · exact h3
      · refine kept_count ?_ (mask_sub (by decide) hA)
        · refine kept_poke ?_ (mask_sub (by decide) hA)
          · exact h3
  clear_value x2
  refine kept_updCel ?_ (mask_sub (by decide) hA)
  · exact h2
theorem kept_channelClear {A : Nat} {s0 : State} {s : Sys2Proof.Machine.State} {c : Nat} {data : Nat} (h_s : Kept A s0 s) (hA : 8 ||| A = A) :
    Kept A s0 (channelClear s c data) := by
  unfold channelClear
  extract_lets -merge -useContext -underBinder x1 x2 x3 x4
  have h4 : Kept A s0 x4 := by
    unfold x4
    refine kept_wr ?_ (mask_sub (by decide) hA)
    · exact h_s
  clear_value x4
  refine kept_each ?_ (fun _ _ h5 => ?_)
  · exact h4
  · refine Kept.ite ?_ ?_
    · refine kept_wr ?_ (mask_sub (by decide) hA)
      · exact h5
    · exact h5
theorem kept_restoreCel {A : Nat} {s0 : State} {s : Sys2Proof.Machine.State} {c : Nat} {pass : List Bool} {firstBad : Nat} (h_s : Kept A s0 s) (hA : 4611686018427388440 ||| A = A) :
    Kept A s0 (State.restoreCel s c pass firstBad) := by
  unfold State.restoreCel
  extract_lets -merge -useContext -underBinder x1 x2
  have h2 : Kept A s0 x2 := by
    unfold x2
    refine kept_updCel ?_ (mask_sub (by decide) hA)
    · exact h_s
  clear_value x2
  split
  · refine kept_showCel ?_ (mask_sub (by decide) hA)
    · refine kept_flag ?_ (mask_sub (by decide) hA)
      · exact h2
  · extract_lets -merge -useContext -underBinder x3 x4
    have h3 : Kept A s0 x3 := by
      unfold x3
      refine kept_updCel ?_ (mask_sub (by decide) hA)
      · exact h2
    have h4 : Kept A s0 x4 := by
      unfold x4
      refine kept_raise ?_ (mask_sub (by decide) hA)
      · refine kept_flag ?_ (mask_sub (by decide) hA)
        · exact h2
    clear_value x3 x4
    refine Kept.ite ?_ ?_
    · refine kept_showCel ?_ (mask_sub (by decide) hA)
      · refine kept_flag ?_ (mask_sub (by decide) hA)
        · exact h2
    · refine Kept.ite ?_ ?_
      · refine kept_showCel ?_ (mask_sub (by decide) hA)
        · refine kept_flag ?_ (mask_sub (by decide) hA)
          · refine kept_wr ?_ (mask_sub (by decide) hA)
            · exact h3
      · refine kept_each ?_ (fun _ _ h5 => ?_)
        · exact h4
        · refine kept_suspectChan ?_ (mask_sub (by decide) hA)
          · exact h5
theorem kept_releaseRegion {A : Nat} {s0 : State} {s : Sys2Proof.Machine.State} {r : Nat} (h_s : Kept A s0 s) (hA : 536870912 ||| A = A) :
    Kept A s0 (State.releaseRegion s r) := by
  unfold State.releaseRegion
  refine Kept.ite ?_ ?_
  · exact h_s
  · refine kept_each ?_ (fun _ _ h1 => ?_)
    · exact h_s
    · refine Kept.ite ?_ ?_
      · refine kept_updPort ?_ (mask_sub (by decide) hA)
        · exact h1
      · exact h1
theorem kept_saveAreaRestore {A : Nat} {s0 : State} {s : Sys2Proof.Machine.State} {c : Nat} {pass : List Bool} {firstBad : Nat} (h_s : Kept A s0 s) (hA : 4611686018964259352 ||| A = A) :
    Kept A s0 (saveAreaRestore s c pass firstBad) := by
  unfold saveAreaRestore
  extract_lets -merge -useContext -underBinder x1
  have h1 : Kept A s0 x1 := by
    unfold x1
    refine kept_restoreCel ?_ (mask_sub (by decide) hA)
    · exact h_s
  clear_value x1
  refine Kept.ite ?_ ?_
  · refine kept_releaseRegion ?_ (mask_sub (by decide) hA)
    · exact h1
  · exact h1
theorem kept_execSaveAreaRestore {A : Nat} {s0 : State} {c : Sys2Proof.StackId} {pass : List Bool} {firstBad : Nat} {s : Sys2Proof.Machine.State} (h_s : Kept A s0 s) (hA : 4611686018964259352 ||| A = A) :
    KeptO A s0 (execSaveAreaRestore c pass firstBad s) := by
  unfold execSaveAreaRestore
  refine KeptO.next ?_
  refine kept_saveAreaRestore ?_ (mask_sub (by decide) hA)
  · exact h_s
theorem kept_mntErrors {A : Nat} {s0 : State} {s : Sys2Proof.Machine.State} {c : Nat} {ch : Nat} {ce : List Nat} {ue : List Nat} {what : Nat} (h_s : Kept A s0 s) (hA : 7383617819442331008824 ||| A = A) :
    Kept A s0 (State.mntErrors s c ch ce ue what) := by
  unfold State.mntErrors
  extract_lets -merge -useContext -underBinder x1 x2 x3
  have h3 : Kept A s0 x3 := by
    unfold x3
    refine kept_count ?_ (mask_sub (by decide) hA)
    · refine kept_count ?_ (mask_sub (by decide) hA)
      · exact h_s
  clear_value x3
  refine kept_each ?_ (fun _ _ h4 => ?_)
  · exact h3
  · extract_lets -merge -useContext -underBinder x5
    refine kept_chanEvent ?_ (mask_sub (by decide) hA)
    · refine kept_psnEnter ?_ (mask_sub (by decide) hA)
      · exact h4
theorem kept_cellarJudge {A : Nat} {s0 : State} {s : Sys2Proof.Machine.State} {c : Nat} {ch : Nat} {addr : Nat} {bs : List Sys2Proof.Byte} {again : Bool} (h_s : Kept A s0 s) (hA : 7379006133423903620920 ||| A = A) :
    KeptL A s0 (State.cellarJudge s c ch addr bs again) := by
  unfold State.cellarJudge
  extract_lets -merge -useContext -underBinder x1 x2 x3 x4
  have h4 : Kept A s0 x4 := by
    unfold x4
    refine kept_count ?_ (mask_sub (by decide) hA)
    · exact h_s
  clear_value x4
  split
  · refine KeptL.mk ?_
    refine kept_chanEvent ?_ (mask_sub (by decide) hA)
    · exact h4
  · extract_lets -merge -useContext -underBinder x5 x6
    refine KeptL.mk ?_
    refine kept_chanEvent ?_ (mask_sub (by decide) hA)
    · exact h4
  · refine KeptL.mk ?_
    refine kept_chanEvent ?_ (mask_sub (by decide) hA)
    · exact h4
  · refine KeptL.mk ?_
    refine kept_chanEvent ?_ (mask_sub (by decide) hA)
    · exact h4
  · extract_lets -merge -useContext -underBinder x7
    have h7 : Kept A s0 x7 := by
      unfold x7
      refine kept_count ?_ (mask_sub (by decide) hA)
      · exact h_s
    clear_value x7
    refine KeptL.mk ?_
    refine Kept.ite ?_ ?_
    · refine kept_count ?_ (mask_sub (by decide) hA)
      · exact h7
    · exact h7
theorem kept_readDamaged {A : Nat} {s0 : State} {s : Sys2Proof.Machine.State} {c : Nat} {ch : Nat} {addr : Nat} {bs : List Sys2Proof.Byte} {gs : List Nat} {ues : List Nat} (h_s : Kept A s0 s) (hA : 7383617819442331008824 ||| A = A) :
    KeptL A s0 (State.readDamaged s c ch addr bs gs ues) := by
  unfold State.readDamaged
  extract_lets -merge -useContext -underBinder x1 x2 x3 x4 x5 x6
  have h3 : Kept A s0 x3 := by
    unfold x3
    refine kept_count ?_ (mask_sub (by decide) hA)
    · exact h_s
  have h5 : Kept A s0 x5 := by
    unfold x5
    refine kept_each ?_ (fun _ _ h8 => ?_)
    · exact h3
    · refine kept_psnEnter ?_ (mask_sub (by decide) hA)
      · exact h8
  have h6 : KeptL A s0 x6 := by
    unfold x6
    split
    · refine KeptL.mk ?_
      refine kept_count ?_ (mask_sub (by decide) hA)
      · exact h5
    · refine KeptL.mk ?_
      refine kept_count ?_ (mask_sub (by decide) hA)
      · exact h5
    · refine KeptL.mk ?_
      refine kept_each ?_ (fun _ _ h7 => ?_)
      · refine KeptL.fst ?_
        refine kept_cellarJudge ?_ (mask_sub (by decide) hA)
        · exact h5
      · refine kept_psnEnter ?_ (mask_sub (by decide) hA)
        · exact h7
    · refine kept_cellarJudge ?_ (mask_sub (by decide) hA)
      · exact h5
  clear_value x3 x5 x6
  refine KeptL.mk ?_
  refine kept_chanEvent ?_ (mask_sub (by decide) hA)
  · refine KeptL.fst ?_
    exact h6
theorem kept_setMult {A : Nat} {s0 : State} {s : Sys2Proof.Machine.State} {c : Nat} {m : Nat} (h_s : Kept A s0 s) (hA : 1560 ||| A = A) :
    Kept A s0 (State.setMult s c m) := by
  unfold State.setMult
  extract_lets -merge -useContext -underBinder x1
  refine Kept.ite ?_ ?_
  · exact h_s
  · refine kept_raiseOnce ?_ (mask_sub (by decide) hA)
    · refine kept_wr ?_ (mask_sub (by decide) hA)
      · exact h_s
theorem kept_readChecked {A : Nat} {s0 : State} {s : Sys2Proof.Machine.State} {c : Nat} {ch : Nat} {addr : Nat} {bs : List Sys2Proof.Byte} {gs : List Nat} {entered : Bool} (h_s : Kept A s0 s) (hA : 7383617819442331008824 ||| A = A) :
    KeptL A s0 (State.readChecked s c ch addr bs gs entered) := by
  unfold State.readChecked
  extract_lets -merge -useContext -underBinder x1 x2
  have h1 : KeptL A s0 x1 := by
    unfold x1
    refine kept_cellarJudge ?_ (mask_sub (by decide) hA)
    · exact h_s
  have h2 : Kept A s0 x2 := by
    unfold x2
    refine kept_each ?_ (fun _ _ h3 => ?_)
    · refine KeptL.fst ?_
      exact h1
    · refine kept_psnEnter ?_ (mask_sub (by decide) hA)
      · exact h3
  clear_value x1 x2
  refine KeptL.ite ?_ ?_
  · refine KeptL.mk ?_
    refine Kept.ite ?_ ?_
    · exact h2
    · refine kept_updCel ?_ (mask_sub (by decide) hA)
      · exact h2
  · exact h1
theorem kept_queueRewrite {A : Nat} {s0 : State} {s : Sys2Proof.Machine.State} {c : Nat} {ch : Nat} {addr : Nat} {bs : List Sys2Proof.Byte} {gs : List Nat} (h_s : Kept A s0 s) (hA : 4611686018427387904 ||| A = A) :
    Kept A s0 (State.queueRewrite s c ch addr bs gs) := by
  unfold State.queueRewrite
  refine kept_updCel ?_ (mask_sub (by decide) hA)
  · exact h_s
theorem kept_scrubOn {A : Nat} {s0 : State} {s : Sys2Proof.Machine.State} {c : Nat} (h_s : Kept A s0 s) (hA : 4611686018427389496 ||| A = A) :
    Kept A s0 (State.scrubOn s c) := by
  unfold State.scrubOn
  extract_lets -merge -useContext -underBinder x1 x2 x3 x4 x5 x6 x7 x8
  have h7 : Kept A s0 x7 := by
    unfold x7
    refine kept_count ?_ (mask_sub (by decide) hA)
    · refine kept_wr ?_ (mask_sub (by decide) hA)
      · refine kept_wr ?_ (mask_sub (by decide) hA)
        · exact h_s
  have h8 : Kept A s0 x8 := by
    unfold x8
    refine kept_updCel ?_ (mask_sub (by decide) hA)
    · exact h7
  clear_value x7 x8
  refine Kept.ite ?_ ?_
  · refine kept_wr ?_ (mask_sub (by decide) hA)
    · exact h_s
  · refine Kept.ite ?_ ?_
    · refine kept_wr ?_ (mask_sub (by decide) hA)
      · refine kept_wr ?_ (mask_sub (by decide) hA)
        · exact h_s
    · refine Kept.ite ?_ ?_
      · refine kept_raiseOnce ?_ (mask_sub (by decide) hA)
        · refine kept_count ?_ (mask_sub (by decide) hA)
          · exact h8
      · exact h8
theorem kept_scrubGranule {A : Nat} {s0 : State} {s : Sys2Proof.Machine.State} {c : Nat} {err : Sys2Proof.ReadErr} {data : List Sys2Proof.Byte} (h_s : Kept A s0 s) (hA : 7383689877036368936760 ||| A = A) :
    Kept A s0 (scrubGranule s c err data) := by
  unfold scrubGranule
  extract_lets -merge -useContext -underBinder x1 x2 x3 x4 x5 x6
  have h4 : Kept A s0 x4 := by
    unfold x4
    refine kept_count ?_ (mask_sub (by decide) hA)
    · refine kept_writeBack ?_ (mask_sub (by decide) hA)
      · exact h_s
  have h5 : Kept A s0 x5 := by
    unfold x5
    split
    · exact h4
    · extract_lets -merge -useContext -underBinder x8 x9
      have h9 : Kept A s0 x9 := by
        unfold x9
        refine kept_updCel ?_ (mask_sub (by decide) hA)
        · refine kept_queueRewrite ?_ (mask_sub (by decide) hA)
          · refine kept_count ?_ (mask_sub (by decide) hA)
            · exact h4
      clear_value x9
      refine Kept.ite ?_ ?_
      · refine kept_raiseOnce ?_ (mask_sub (by decide) hA)
        · refine kept_updCel ?_ (mask_sub (by decide) hA)
          · exact h9
      · exact h9
    · extract_lets -merge -useContext -underBinder x10 x11 x12 x13 x14
      have h13 : Kept A s0 x13 := by
        unfold x13
        refine kept_psnEnter ?_ (mask_sub (by decide) hA)
        · refine kept_count ?_ (mask_sub (by decide) hA)
          · exact h4
      have h14 : Kept A s0 x14 := by
        unfold x14
        refine Kept.ite ?_ ?_
        · refine kept_each ?_ (fun _ _ h15 => ?_)
          · exact h13
          · refine kept_needRepair ?_ (mask_sub (by decide) hA)
            · exact h15
        · exact h13
      clear_value x13 x14
      refine kept_chanEvent ?_ (mask_sub (by decide) hA)
      · exact h14
  have h6 : Kept A s0 x6 := by
    unfold x6
    refine kept_each ?_ (fun _ _ h7 => ?_)
    · exact h5
    · refine kept_needAgain ?_ (mask_sub (by decide) hA)
      · exact h7
  clear_value x4 x5 x6
  refine Kept.ite ?_ ?_
  · exact h_s
  · refine kept_scrubOn ?_ (mask_sub (by decide) hA)
    · exact h6
theorem kept_writeRepair {A : Nat} {s0 : State} {s : Sys2Proof.Machine.State} {c : Nat} {ch : Nat} {addr : Nat} {n : Nat} (h_s : Kept A s0 s) (hA : 4611686018427388472 ||| A = A) :
    Kept A s0 (State.writeRepair s c ch addr n) := by
  unfold State.writeRepair
  refine kept_each ?_ (fun _ _ h1 => ?_)
  · exact h_s
  · split
    · refine Kept.ite ?_ ?_
      · refine kept_raise ?_ (mask_sub (by decide) hA)
        · refine kept_repairBad ?_ (mask_sub (by decide) hA)
          · exact h1
      · exact h1
    · exact h1
theorem kept_windowJudge {A : Nat} {s0 : State} {s : Sys2Proof.Machine.State} {c : Nat} {ch : Nat} {addr : Nat} {bs : List Sys2Proof.Byte} (h_s : Kept A s0 s) (hA : 33556024 ||| A = A) :
    KeptL A s0 (State.windowJudge s c ch addr bs) := by
  unfold State.windowJudge
  split
  · refine KeptL.mk ?_
    exact h_s
  · extract_lets -merge -useContext -underBinder x1 x2 x3 x4 x5
    have h5 : Kept A s0 x5 := by
      unfold x5
      refine kept_updWinStream ?_ (mask_sub (by decide) hA)
      · exact h_s
    clear_value x5
    refine KeptL.ite ?_ ?_
    · refine KeptL.mk ?_
      refine kept_count ?_ (mask_sub (by decide) hA)
      · refine kept_updWinStream ?_ (mask_sub (by decide) hA)
        · exact h_s
    · split
      · refine KeptL.mk ?_
        exact h5
      · refine KeptL.mk ?_
        refine kept_raiseOnce ?_ (mask_sub (by decide) hA)
        · refine kept_count ?_ (mask_sub (by decide) hA)
          · exact h5
      · refine KeptL.mk ?_
        refine kept_raiseOnce ?_ (mask_sub (by decide) hA)
        · refine kept_count ?_ (mask_sub (by decide) hA)
          · refine kept_count ?_ (mask_sub (by decide) hA)
            · exact h5
theorem kept_cellarWriteBlock {A : Nat} {s0 : State} {s : Sys2Proof.Machine.State} {c : Nat} {ch : Nat} {addr : Nat} {bs : List Sys2Proof.Byte} (h_s : Kept A s0 s) (hA : 4683743612498871864 ||| A = A) :
    Kept A s0 (cellarWriteBlock s c ch addr bs) := by
  unfold cellarWriteBlock
  extract_lets -merge -useContext -underBinder x1 x2 x3 x4 x5
  have h1 : Kept A s0 x1 := by
    unfold x1
    refine kept_poke ?_ (mask_sub (by decide) hA)
    · refine kept_count ?_ (mask_sub (by decide) hA)
      · exact h_s
  have h2 : Kept A s0 x2 := by
    unfold x2
    refine kept_writeRepair ?_ (mask_sub (by decide) hA)
    · exact h1
  have h4 : Kept A s0 x4 := by
    unfold x4
    refine kept_updCel ?_ (mask_sub (by decide) hA)
    · exact h2
  have h5 : KeptL A s0 x5 := by
    unfold x5
    refine kept_windowJudge ?_ (mask_sub (by decide) hA)
    · exact h4
  clear_value x1 x2 x4 x5
  refine Kept.ite ?_ ?_
  · exact h_s
  · refine Kept.ite ?_ ?_
    · refine kept_each ?_ (fun _ _ h6 => ?_)
      · refine KeptL.fst ?_
        exact h5
      · refine kept_psnEnter ?_ (mask_sub (by decide) hA)
        · exact h6
    · refine kept_psnLeave ?_ (mask_sub (by decide) hA)
      · refine KeptL.fst ?_
        exact h5
theorem kept_loopBlock {A : Nat} {s0 : State} {s : Sys2Proof.Machine.State} {c : Nat} {ch : Nat} {bs : List Sys2Proof.Byte} (h_s : Kept A s0 s) (hA : 4611686018427387952 ||| A = A) :
    Kept A s0 (State.loopBlock s c ch bs) := by
  unfold State.loopBlock
  extract_lets -merge -useContext -underBinder x1 x2 x3 x4
  have h4 : Kept A s0 x4 := by
    unfold x4
    refine kept_count ?_ (mask_sub (by decide) hA)
    · refine kept_count ?_ (mask_sub (by decide) hA)
      · refine kept_count ?_ (mask_sub (by decide) hA)
        · exact h_s
  clear_value x4
  refine kept_updCel ?_ (mask_sub (by decide) hA)
  · exact h4
theorem kept_cellarReadBlock {A : Nat} {s0 : State} {s : Sys2Proof.Machine.State} {c : Nat} {ch : Nat} {addr : Nat} {merge : Nat} {bs : List Sys2Proof.Byte} {ce : List Nat} {ue : List Nat} {test : Bool} (h_s : Kept A s0 s) (hA : 7383617819442331008824 ||| A = A) :
    Kept A s0 (cellarReadBlock s c ch addr merge bs ce ue test) := by
  unfold cellarReadBlock
  extract_lets -merge -useContext -underBinder x1 x2 x3 x4 x5 x6 x7 x8 x9 x10 x11
  have h7 : Kept A s0 x7 := by
    unfold x7
    refine kept_count ?_ (mask_sub (by decide) hA)
    · refine kept_count ?_ (mask_sub (by decide) hA)
      · exact h_s
  have h8 : KeptL A s0 x8 := by
    unfold x8
    refine KeptL.ite ?_ ?_
    · refine kept_readChecked ?_ (mask_sub (by decide) hA)
      · refine kept_queueRewrite ?_ (mask_sub (by decide) hA)
        · exact h7
    · refine kept_readDamaged ?_ (mask_sub (by decide) hA)
      · exact h7
  have h10 : Kept A s0 x10 := by
    unfold x10
    refine kept_count ?_ (mask_sub (by decide) hA)
    · refine kept_count ?_ (mask_sub (by decide) hA)
      · refine KeptL.fst ?_
        exact h8
  have h11 : Kept A s0 x11 := by
    unfold x11
    refine kept_updCel ?_ (mask_sub (by decide) hA)
    · refine kept_count ?_ (mask_sub (by decide) hA)
      · exact h10
  clear_value x7 x8 x10 x11
  refine Kept.ite ?_ ?_
  · refine Kept.ite ?_ ?_
    · refine kept_loopBlock ?_ (mask_sub (by decide) hA)
      · exact h_s
    · exact h_s
  · refine Kept.ite ?_ ?_
    · exact h_s
    · refine kept_emit ?_ (mask_sub (by decide) hA)
      · exact h11
theorem kept_execCellarReadBlock {A : Nat} {s0 : State} {c : Sys2Proof.StackId} {ch : Sys2Proof.ChanId} {addr : BitVec 36} {merge : BitVec 4} {bytes : List Sys2Proof.Byte} {ce : List (BitVec 36)} {ue : List (BitVec 36)} {test : Bool} {s : Sys2Proof.Machine.State} (h_s : Kept A s0 s) (hA : 7383617819442331008824 ||| A = A) :
    KeptO A s0 (execCellarReadBlock c ch addr merge bytes ce ue test s) := by
  unfold execCellarReadBlock
  refine KeptO.next ?_
  refine kept_cellarReadBlock ?_ (mask_sub (by decide) hA)
  · exact h_s
theorem kept_refreshMultLower {A : Nat} {s0 : State} {s : Sys2Proof.Machine.State} {c : Nat} (h_s : Kept A s0 s) (hA : 1560 ||| A = A) :
    Kept A s0 (refreshMultLower s c) := by
  unfold refreshMultLower
  extract_lets -merge -useContext -underBinder x1
  refine Kept.ite ?_ ?_
  · refine kept_setMult ?_ (mask_sub (by decide) hA)
    · exact h_s
  · exact h_s
theorem kept_execRefreshMultLower {A : Nat} {s0 : State} {c : Sys2Proof.StackId} {s : Sys2Proof.Machine.State} (h_s : Kept A s0 s) (hA : 1560 ||| A = A) :
    KeptO A s0 (execRefreshMultLower c s) := by
  unfold execRefreshMultLower
  refine KeptO.next ?_
  refine kept_refreshMultLower ?_ (mask_sub (by decide) hA)
  · exact h_s
theorem kept_rescanEvent {A : Nat} {s0 : State} {s : Sys2Proof.Machine.State} {c : Nat} {ch : Nat} {what : Nat} {addr : Nat} (h_s : Kept A s0 s) (hA : 536 ||| A = A) :
    Kept A s0 (State.rescanEvent s c ch what addr) := by
  unfold State.rescanEvent
  refine Kept.ite ?_ ?_
  · refine kept_raiseHistAt ?_ (mask_sub (by decide) hA)
    · exact h_s
  · refine kept_raise ?_ (mask_sub (by decide) hA)
    · exact h_s
theorem kept_rescanDone {A : Nat} {s0 : State} {s : Sys2Proof.Machine.State} {c : Nat} {ch : Nat} {bs : List Sys2Proof.Byte} {ce : List Nat} {ue : List Nat} (h_s : Kept A s0 s) (hA : 7383617819442331008824 ||| A = A) :
    Kept A s0 (rescanDone s c ch bs ce ue) := by
  unfold rescanDone
  split
  · exact h_s
  · extract_lets -merge -useContext -underBinder x1 x2 x3
    have h1 : ∀ y1_0, Kept A s0 y1_0 → Kept A s0 (x1 y1_0) := by
      intro y1_0 h1_0
      unfold x1
      refine kept_updCel ?_ (mask_sub (by decide) hA)
      · exact h1_0
    have h2 : Kept A s0 x2 := by
      unfold x2
      refine kept_mntErrors ?_ (mask_sub (by decide) hA)
      · refine kept_count ?_ (mask_sub (by decide) hA)
        · exact h_s
    clear_value x1 x2
    refine Kept.ite ?_ ?_
    · refine kept_rescanEvent ?_ (mask_sub (by decide) hA)
      · refine h1 _ ?_
        · exact h2
    · refine Kept.ite ?_ ?_
      · refine kept_updCel ?_ (mask_sub (by decide) hA)
        · exact h2
      · refine kept_rescanEvent ?_ (mask_sub (by decide) hA)
        · refine kept_psnLeave ?_ (mask_sub (by decide) hA)
          · refine h1 _ ?_
            · exact h2
theorem kept_execRescanDone {A : Nat} {s0 : State} {c : Sys2Proof.StackId} {ch : Sys2Proof.ChanId} {bytes : List Sys2Proof.Byte} {ce : List (BitVec 36)} {ue : List (BitVec 36)} {s : Sys2Proof.Machine.State} (h_s : Kept A s0 s) (hA : 7383618382392284430136 ||| A = A) :
    KeptO A s0 (execRescanDone c ch bytes ce ue s) := by
  unfold execRescanDone
  refine KeptO.next ?_
  refine Kept.ite ?_ ?_
  · exact h_s
  · refine kept_rescanDone ?_ (mask_sub (by decide) hA)
    · refine kept_item ?_ (mask_sub (by decide) hA)
      · exact h_s
theorem kept_execCellarWriteBlock {A : Nat} {s0 : State} {c : Sys2Proof.StackId} {ch : Sys2Proof.ChanId} {addr : BitVec 36} {bytes : List Sys2Proof.Byte} {s : Sys2Proof.Machine.State} (h_s : Kept A s0 s) (hA : 4683743612498871864 ||| A = A) :
    KeptO A s0 (execCellarWriteBlock c ch addr bytes s) := by
  unfold execCellarWriteBlock
  refine KeptO.next ?_
  refine kept_cellarWriteBlock ?_ (mask_sub (by decide) hA)
  · exact h_s
theorem kept_execScrubGranule {A : Nat} {s0 : State} {c : Sys2Proof.StackId} {err : Sys2Proof.ReadErr} {data : List Sys2Proof.Byte} {s : Sys2Proof.Machine.State} (h_s : Kept A s0 s) (hA : 7383690439986322358072 ||| A = A) :
    KeptO A s0 (execScrubGranule c err data s) := by
  unfold execScrubGranule
  refine KeptO.next ?_
  refine Kept.ite ?_ ?_
  · exact h_s
  · refine kept_scrubGranule ?_ (mask_sub (by decide) hA)
    · refine kept_item ?_ (mask_sub (by decide) hA)
      · exact h_s
theorem kept_poisonMapRead {A : Nat} {s0 : State} {s : Sys2Proof.Machine.State} {c : Nat} (h_s : Kept A s0 s) (hA : 2056 ||| A = A) :
    Kept A s0 (poisonMapRead s c) := by
  unfold poisonMapRead
  refine kept_wr ?_ (mask_sub (by decide) hA)
  · refine kept_emit ?_ (mask_sub (by decide) hA)
    · exact h_s
theorem kept_sendMirror {A : Nat} {s0 : State} {s : Sys2Proof.Machine.State} (h_s : Kept A s0 s) (hA : 4398047836160 ||| A = A) :
    Kept A s0 (State.sendMirror s) := by
  unfold State.sendMirror
  extract_lets -merge -useContext -underBinder x1 x2
  refine Kept.ite ?_ ?_
  · split
    · extract_lets -merge -useContext -underBinder x3 x4 x5
      have h4 : Kept A s0 x4 := by
        unfold x4
        refine kept_each ?_ (fun _ _ h6 => ?_)
        · exact h_s
        · refine kept_unicast ?_ (mask_sub (by decide) hA)
          · exact h6
      clear_value x4
      refine Kept.u_pair ?_ (mask_sub (by decide) hA)
      exact h4
  · exact h_s
theorem kept_loadMirror {A : Nat} {s0 : State} {s : Sys2Proof.Machine.State} (h_s : Kept A s0 s) (hA : 9445741772055821418552 ||| A = A) :
    Kept A s0 (State.loadMirror s) := by
  unfold State.loadMirror
  split
  · exact h_s
  · extract_lets -merge -useContext -underBinder x1 x2 x3 x4 x5
    have h1 : Kept A s0 x1 := by
      unfold x1
      refine kept_each ?_ (fun _ _ h6 => ?_)
      · exact h_s
      · refine kept_wr ?_ (mask_sub (by decide) hA)
        · exact h6
    have h2 : Kept A s0 x2 := by
      unfold x2
      refine kept_count ?_ (mask_sub (by decide) hA)
      · refine kept_zeroCnt ?_ (mask_sub (by decide) hA)
        · exact h1
    clear_value x1 x2
    refine Kept.u_variant_mbx_twk_plan ?_ (mask_sub (by decide) hA)
    exact h2
theorem kept_stepDown {A : Nat} {s0 : State} {s : Sys2Proof.Machine.State} {w : Sys2Proof.Bh} {reign : Nat} (h_s : Kept A s0 s) (hA : 9445741772055822467128 ||| A = A) :
    Kept A s0 (State.stepDown s w reign) := by
  unfold State.stepDown
  extract_lets -merge -useContext -underBinder x1 x2 x3
  have h1 : Kept A s0 x1 := by
    unfold x1
    refine kept_updBrew ?_ (mask_sub (by decide) hA)
    · exact h_s
  have h3 : Kept A s0 x3 := by
    unfold x3
    refine kept_wr ?_ (mask_sub (by decide) hA)
    · refine kept_wr ?_ (mask_sub (by decide) hA)
      · exact h1
  clear_value x1 x3
  refine Kept.ite ?_ ?_
  · refine kept_loadMirror ?_ (mask_sub (by decide) hA)
    · refine kept_wr ?_ (mask_sub (by decide) hA)
      · exact h3
  · exact h1
theorem kept_reignStepDown {A : Nat} {s0 : State} {s : Sys2Proof.Machine.State} {w : Sys2Proof.Bh} {reign : Nat} (h_s : Kept A s0 s) (hA : 9445741776453869254712 ||| A = A) :
    Kept A s0 (reignStepDown s w reign) := by
  unfold reignStepDown
  extract_lets -merge -useContext -underBinder x1
  have h1 : Kept A s0 x1 := by
    unfold x1
    refine kept_updBrew ?_ (mask_sub (by decide) hA)
    · exact h_s
  clear_value x1
  refine Kept.ite ?_ ?_
  · exact h1
  · refine kept_sendMirror ?_ (mask_sub (by decide) hA)
    · refine kept_stepDown ?_ (mask_sub (by decide) hA)
      · exact h1
theorem kept_reignsHeard {A : Nat} {s0 : State} {s : Sys2Proof.Machine.State} {t : Sys2Proof.Machine.State} (h_t : Kept A s0 t) (hA : 9445741776453869254712 ||| A = A) :
    Kept A s0 (State.reignsHeard s t) := by
  unfold State.reignsHeard
  refine kept_each ?_ (fun _ _ h1 => ?_)
  · exact h_t
  · refine Kept.ite ?_ ?_
    · refine kept_reignStepDown ?_ (mask_sub (by decide) hA)
      · exact h1
    · exact h1
theorem kept_matchedDelayLengthen {A : Nat} {s0 : State} {s : Sys2Proof.Machine.State} {u : Sys2Proof.Datapath} (h_s : Kept A s0 s) (hA : 131072 ||| A = A) :
    Kept A s0 (matchedDelayLengthen s u) := by
  unfold matchedDelayLengthen
  extract_lets -merge -useContext -underBinder x1
  refine Kept.ite ?_ ?_
  · refine kept_updDelay ?_ (mask_sub (by decide) hA)
    · exact h_s
  · exact h_s
theorem kept_hallAsk {A : Nat} {s0 : State} {s : Sys2Proof.Machine.State} {r : Nat} {action : Nat} {arg : Nat} (h_s : Kept A s0 s) (hA : 4398046511104 ||| A = A) :
    Kept A s0 (State.hallAsk s r action arg) := by
  unfold State.hallAsk
  refine Kept.ite ?_ ?_
  · exact h_s
  · refine kept_updHall ?_ (mask_sub (by decide) hA)
    · exact h_s
theorem kept_sendHeartbeat {A : Nat} {s0 : State} {s : Sys2Proof.Machine.State} {w : Sys2Proof.Bh} {path : Sys2Proof.HbPath} (h_s : Kept A s0 s) (hA : 4398047836160 ||| A = A) :
    Kept A s0 (State.sendHeartbeat s w path) := by
  unfold State.sendHeartbeat
  extract_lets -merge -useContext -underBinder x1 x2 x3 x4
  split
  · refine kept_routePacket ?_ (mask_sub (by decide) hA)
    · exact h_s
  · refine kept_routePacket ?_ (mask_sub (by decide) hA)
    · exact h_s
  · refine kept_emit ?_ (mask_sub (by decide) hA)
    · exact h_s
theorem kept_heartbeatReceive {A : Nat} {s0 : State} {s : Sys2Proof.Machine.State} {w : Sys2Proof.Bh} {path : Sys2Proof.HbPath} (h_s : Kept A s0 s) (hA : 9445741776453869254712 ||| A = A) :
    Kept A s0 (heartbeatReceive s w path) := by
  unfold heartbeatReceive
  extract_lets -merge -useContext -underBinder x1 x2 x3
  have h1 : Kept A s0 x1 := by
    unfold x1
    refine kept_reignStepDown ?_ (mask_sub (by decide) hA)
    · exact h_s
  have h2 : Kept A s0 x2 := by
    unfold x2
    refine kept_updBrew ?_ (mask_sub (by decide) hA)
    · exact h1
  have h3 : Kept A s0 x3 := by
    unfold x3
    refine kept_flag ?_ (mask_sub (by decide) hA)
    · exact h2
  clear_value x1 x2 x3
  refine Kept.ite ?_ ?_
  · exact h_s
  · refine Kept.ite ?_ ?_
    · refine Kept.ite ?_ ?_
      · refine kept_sendMirror ?_ (mask_sub (by decide) hA)
        · exact h3
      · exact h3
    · refine kept_sendHeartbeat ?_ (mask_sub (by decide) hA)
      · exact h2
theorem kept_execMatchedDelayLengthen {A : Nat} {s0 : State} {u : Sys2Proof.Datapath} {s : Sys2Proof.Machine.State} (h_s : Kept A s0 s) (hA : 131072 ||| A = A) :
    KeptO A s0 (execMatchedDelayLengthen u s) := by
  unfold execMatchedDelayLengthen
  refine KeptO.next ?_
  refine kept_matchedDelayLengthen ?_ (mask_sub (by decide) hA)
  · exact h_s
theorem kept_mirrorRequest {A : Nat} {s0 : State} {s : Sys2Proof.Machine.State} {r : Nat} (h_s : Kept A s0 s) (hA : 4398047836160 ||| A = A) :
    Kept A s0 (mirrorRequest s r) := by
  unfold mirrorRequest
  extract_lets -merge -useContext -underBinder x1
  refine Kept.ite ?_ ?_
  · exact h_s
  · refine kept_sendMirror ?_ (mask_sub (by decide) hA)
    · refine Kept.u_pair ?_ (mask_sub (by decide) hA)
      exact h_s
theorem kept_adoptReign {A : Nat} {s0 : State} {s : Sys2Proof.Machine.State} {u : Nat} {n : Nat} (h_s : Kept A s0 s) (hA : 262144 ||| A = A) :
    Kept A s0 (State.adoptReign s u n) := by
  unfold State.adoptReign
  refine kept_updClock ?_ (mask_sub (by decide) hA)
  · exact h_s
theorem kept_matchedDelayShorten {A : Nat} {s0 : State} {s : Sys2Proof.Machine.State} {u : Sys2Proof.Datapath} (h_s : Kept A s0 s) (hA : 131072 ||| A = A) :
    Kept A s0 (matchedDelayShorten s u) := by
  unfold matchedDelayShorten
  extract_lets -merge -useContext -underBinder x1
  refine Kept.ite ?_ ?_
  · refine kept_updDelay ?_ (mask_sub (by decide) hA)
    · exact h_s
  · exact h_s
theorem kept_execMatchedDelayShorten {A : Nat} {s0 : State} {u : Sys2Proof.Datapath} {s : Sys2Proof.Machine.State} (h_s : Kept A s0 s) (hA : 131072 ||| A = A) :
    KeptO A s0 (execMatchedDelayShorten u s) := by
  unfold execMatchedDelayShorten
  refine KeptO.next ?_
  refine kept_matchedDelayShorten ?_ (mask_sub (by decide) hA)
  · exact h_s
theorem kept_reignHeard {A : Nat} {s0 : State} {s : Sys2Proof.Machine.State} {w : Sys2Proof.Bh} {n : Nat} (h_s : Kept A s0 s) (hA : 4398046775296 ||| A = A) :
    Kept A s0 (State.reignHeard s w n) := by
  unfold State.reignHeard
  extract_lets -merge -useContext -underBinder x1
  refine kept_each ?_ (fun _ _ h2 => ?_)
  · exact h_s
  · extract_lets -merge -useContext -underBinder x3 x4 x5
    have h3 : Kept A s0 x3 := by
      unfold x3
      refine kept_each ?_ (fun _ _ h6 => ?_)
      · exact h2
      · refine kept_adoptReign ?_ (mask_sub (by decide) hA)
        · exact h6
    clear_value x3
    refine Kept.ite ?_ ?_
    · refine kept_emits ?_ (mask_sub (by decide) hA)
      · refine kept_updHall ?_ (mask_sub (by decide) hA)
        · exact h3
    · exact h3
theorem kept_assumeReign {A : Nat} {s0 : State} {s : Sys2Proof.Machine.State} {w : Sys2Proof.Bh} (h_s : Kept A s0 s) (hA : 2256197861586952 ||| A = A) :
    Kept A s0 (State.assumeReign s w) := by
  unfold State.assumeReign
  extract_lets -merge -useContext -underBinder x1 x2 x3 x4 x5 x6 x7 x8 x9 x10
  have h3 : Kept A s0 x3 := by
    unfold x3
    refine kept_updBrew ?_ (mask_sub (by decide) hA)
    · exact h_s
  have h5 : Kept A s0 x5 := by
    unfold x5
    refine kept_flag ?_ (mask_sub (by decide) hA)
    · refine kept_flag ?_ (mask_sub (by decide) hA)
      · refine kept_wr ?_ (mask_sub (by decide) hA)
        · refine kept_wr ?_ (mask_sub (by decide) hA)
          · exact h3
  have h6 : Kept A s0 x6 := by
    unfold x6
    refine kept_flag ?_ (mask_sub (by decide) hA)
    · refine kept_wr ?_ (mask_sub (by decide) hA)
      · exact h5
  have h8 : Kept A s0 x8 := by
    unfold x8
    refine Kept.u_pair ?_ (mask_sub (by decide) hA)
    exact h6
  have h10 : Kept A s0 x10 := by
    unfold x10
    refine kept_routePacket ?_ (mask_sub (by decide) hA)
    · exact h8
  clear_value x3 x5 x6 x8 x10
  refine kept_findPartition ?_ (mask_sub (by decide) hA)
  · refine kept_reignHeard ?_ (mask_sub (by decide) hA)
    · exact h10
theorem kept_hallPollTimeout {A : Nat} {s0 : State} {s : Sys2Proof.Machine.State} (h_s : Kept A s0 s) (hA : 1048576 ||| A = A) :
    Kept A s0 (hallPollTimeout s) := by
  unfold hallPollTimeout
  refine kept_updBrew ?_ (mask_sub (by decide) hA)
  · exact h_s
theorem kept_brewhouseContactLoss {A : Nat} {s0 : State} {s : Sys2Proof.Machine.State} {r : Nat} (h_s : Kept A s0 s) (hA : 288234842919799352 ||| A = A) :
    Kept A s0 (brewhouseContactLoss s r) := by
  unfold brewhouseContactLoss
  refine kept_closeGates ?_ (mask_sub (by decide) hA)
  · refine kept_updHall ?_ (mask_sub (by decide) hA)
    · exact h_s
theorem kept_execBrewhouseContactLoss {A : Nat} {s0 : State} {r : Sys2Proof.RegionId} {s : Sys2Proof.Machine.State} (h_s : Kept A s0 s) (hA : 288234842919799352 ||| A = A) :
    KeptO A s0 (execBrewhouseContactLoss r s) := by
  unfold execBrewhouseContactLoss
  refine KeptO.next ?_
  refine kept_brewhouseContactLoss ?_ (mask_sub (by decide) hA)
  · exact h_s
theorem kept_mirrorDone {A : Nat} {s0 : State} {s : Sys2Proof.Machine.State} (h_s : Kept A s0 s) (hA : 77371252455340665228755464 ||| A = A) :
    Kept A s0 (State.mirrorDone s) := by
  unfold State.mirrorDone
  extract_lets -merge -useContext -underBinder x1 x2 x3 x4 x5 x6
  have h4 : Kept A s0 x4 := by
    unfold x4
    refine kept_updBrew ?_ (mask_sub (by decide) hA)
    · exact h_s
  have h6 : Kept A s0 x6 := by
    unfold x6
    refine Kept.u_transit_pair_halls ?_ ?_ (mask_sub (by decide) hA)
    · exact h4
    · exact Or.inr (mask_testBit (i := 86) (mask_sub (by decide) hA))
  clear_value x4 x6
  refine kept_flag ?_ (mask_sub (by decide) hA)
  · refine kept_wr ?_ (mask_sub (by decide) hA)
    · exact h6
theorem kept_execMirrorRequest {A : Nat} {s0 : State} {r : Sys2Proof.RegionId} {s : Sys2Proof.Machine.State} (h_s : Kept A s0 s) (hA : 4398047836160 ||| A = A) :
    KeptO A s0 (execMirrorRequest r s) := by
  unfold execMirrorRequest
  refine KeptO.next ?_
  refine kept_mirrorRequest ?_ (mask_sub (by decide) hA)
  · exact h_s
theorem kept_failsafeRefresh {A : Nat} {s0 : State} {s : Sys2Proof.Machine.State} (h_s : Kept A s0 s) (hA : 1048576 ||| A = A) :
    Kept A s0 (failsafeRefresh s) := by
  unfold failsafeRefresh
  extract_lets -merge -useContext -underBinder x1
  refine Kept.ite ?_ ?_
  · exact h_s
  · refine Kept.u_pair ?_ (mask_sub (by decide) hA)
    exact h_s
theorem kept_execFailsafeRefresh {A : Nat} {s0 : State} {s : Sys2Proof.Machine.State} (h_s : Kept A s0 s) (hA : 1048576 ||| A = A) :
    KeptO A s0 (execFailsafeRefresh s) := by
  unfold execFailsafeRefresh
  refine KeptO.next ?_
  refine kept_failsafeRefresh ?_ (mask_sub (by decide) hA)
  · exact h_s
theorem kept_execFailsafeLapse {A : Nat} {s0 : State} {s : Sys2Proof.Machine.State} (h_s : Kept A s0 s) (hA : 1048576 ||| A = A) :
    KeptO A s0 (execFailsafeLapse s) := by
  unfold execFailsafeLapse
  extract_lets -merge -useContext -underBinder x1
  refine KeptO.next ?_
  refine Kept.u_pair ?_ (mask_sub (by decide) hA)
  exact h_s
theorem kept_heartbeatSend {A : Nat} {s0 : State} {s : Sys2Proof.Machine.State} {w : Sys2Proof.Bh} (h_s : Kept A s0 s) (hA : 4398047836208 ||| A = A) :
    Kept A s0 (heartbeatSend s w) := by
  unfold heartbeatSend
  extract_lets -merge -useContext -underBinder x1 x2 x3 x4
  have h2 : ∀ y2_0 y2_1 y2_2, Kept A s0 y2_0 → Kept A s0 (x2 y2_0 y2_1 y2_2) := by
    intro y2_0 y2_1 y2_2 h2_0
    unfold x2
    refine Kept.ite ?_ ?_
    · refine kept_count ?_ (mask_sub (by decide) hA)
      · exact h2_0
    · exact h2_0
  have h3 : Kept A s0 x3 := by
    unfold x3
    refine h2 _ _ _ ?_
    · refine h2 _ _ _ ?_
      · refine h2 _ _ _ ?_
        · exact h_s
  have h4 : Kept A s0 x4 := by
    unfold x4
    refine kept_updBrew ?_ (mask_sub (by decide) hA)
    · exact h3
  clear_value x2 x3 x4
  refine Kept.ite ?_ ?_
  · exact h_s
  · refine kept_each ?_ (fun _ _ h5 => ?_)
    · exact h4
    · refine kept_sendHeartbeat ?_ (mask_sub (by decide) hA)
      · exact h5
theorem kept_execHeartbeatSend {A : Nat} {s0 : State} {w : Sys2Proof.Bh} {s : Sys2Proof.Machine.State} (h_s : Kept A s0 s) (hA : 4398047836208 ||| A = A) :
    KeptO A s0 (execHeartbeatSend w s) := by
  unfold execHeartbeatSend
  refine KeptO.next ?_
  refine kept_heartbeatSend ?_ (mask_sub (by decide) hA)
  · exact h_s
theorem kept_unmirror {A : Nat} {s0 : State} {s : Sys2Proof.Machine.State} (h_s : Kept A s0 s) (hA : 1049112 ||| A = A) :
    Kept A s0 (State.unmirror s) := by
  unfold State.unmirror
  extract_lets -merge -useContext -underBinder x1 x2 x3 x4
  have h2 : Kept A s0 x2 := by
    unfold x2
    refine kept_flag ?_ (mask_sub (by decide) hA)
    · refine kept_flag ?_ (mask_sub (by decide) hA)
      · exact h_s
  have h4 : Kept A s0 x4 := by
    unfold x4
    refine Kept.u_pair ?_ (mask_sub (by decide) hA)
    exact h2
  clear_value x2 x4
  refine Kept.ite ?_ ?_
  · refine kept_raise ?_ (mask_sub (by decide) hA)
    · exact h4
  · exact h4
theorem kept_notifyReset {A : Nat} {s0 : State} {s : Sys2Proof.Machine.State} {level : Nat} {at_ : Nat} {cs : List Nat} (h_s : Kept A s0 s) (hA : 288230376151712280 ||| A = A) :
    Kept A s0 (State.notifyReset s level at_ cs) := by
  unfold State.notifyReset
  refine kept_notifyList ?_ (mask_sub (by decide) hA)
  · exact h_s
theorem kept_withdrawRunning {A : Nat} {s0 : State} {s : Sys2Proof.Machine.State} {k : Nat} (h_s : Kept A s0 s) (hA : 20703297689016365261012536 ||| A = A) :
    Kept A s0 (State.withdrawRunning s k) := by
  unfold State.withdrawRunning
  split
  · refine kept_withdrawRq ?_ (mask_sub (by decide) hA)
    · exact h_s
  · exact h_s
theorem kept_shutUnits {A : Nat} {s0 : State} {s : Sys2Proof.Machine.State} {r : Nat} {b : Bool} (h_s : Kept A s0 s) (hA : 256 ||| A = A) :
    Kept A s0 (State.shutUnits s r b) := by
  unfold State.shutUnits
  refine kept_each ?_ (fun _ _ h1 => ?_)
  · exact h_s
  · refine Kept.ite ?_ ?_
    · exact h1
    · refine kept_updUnit ?_ (mask_sub (by decide) hA)
      · exact h1
theorem kept_markReset {A : Nat} {s0 : State} {s : Sys2Proof.Machine.State} {u : Nat} (h_s : Kept A s0 s) (hA : 281474976710656 ||| A = A) :
    Kept A s0 (State.markReset s u) := by
  unfold State.markReset
  refine kept_updCutUnit ?_ (mask_sub (by decide) hA)
  · exact h_s
theorem kept_dropUnits {A : Nat} {s0 : State} {s : Sys2Proof.Machine.State} {lo : Nat} {hi : Nat} (h_s : Kept A s0 s) (hA : 4722366764344689426680 ||| A = A) :
    Kept A s0 (State.dropUnits s lo hi) := by
  unfold State.dropUnits
  extract_lets -merge -useContext -underBinder x1
  refine Kept.u_regs_ecnt_rcnt_fill_shown_delays_clocks_scans_cutUnits_engs ?_ (mask_sub (by decide) hA)
  exact h_s
theorem kept_keepCnt {A : Nat} {s0 : State} {s : Sys2Proof.Machine.State} {old : Sys2Proof.Machine.State} {u : Nat} {F : Sys2Proof.Fld} (h_s : Kept A s0 s) (hA : 160 ||| A = A) :
    Kept A s0 (State.keepCnt s old u F) := by
  unfold State.keepCnt
  refine Kept.u_rcnt_shown ?_ (mask_sub (by decide) hA)
  exact h_s
theorem kept_resetCluster {A : Nat} {s0 : State} {s : Sys2Proof.Machine.State} {k : Nat} (h_s : Kept A s0 s) (hA : 7673877921886204461304 ||| A = A) :
    Kept A s0 (State.resetCluster s k) := by
  unfold State.resetCluster
  extract_lets -merge -useContext -underBinder x1 x2 x3 x4 x5 x6 x7 x8 x9
  have h5 : Kept A s0 x5 := by
    unfold x5
    refine kept_markReset ?_ (mask_sub (by decide) hA)
    · refine kept_dropUnits ?_ (mask_sub (by decide) hA)
      · refine kept_keepCnt ?_ (mask_sub (by decide) hA)
        · refine kept_dropUnits ?_ (mask_sub (by decide) hA)
          · exact h_s
  have h6 : Kept A s0 x6 := by
    unfold x6
    refine Kept.u_taps_cores_adj_rpl_steps_hangs_chans_bins_bank_pairs_stp ?_ (mask_sub (by decide) hA)
    exact h5
  have h7 : Kept A s0 x7 := by
    unfold x7
    refine kept_updAdjOf ?_ (mask_sub (by decide) hA)
    · exact h6
  have h8 : Kept A s0 x8 := by
    unfold x8
    refine kept_updPort ?_ (mask_sub (by decide) hA)
    · exact h7
  have h9 : Kept A s0 x9 := by
    unfold x9
    refine kept_updSeg ?_ (mask_sub (by decide) hA)
    · exact h8
  clear_value x5 x6 x7 x8 x9
  refine kept_each ?_ (fun _ _ h10 => ?_)
  · exact h9
  · refine Kept.ite ?_ ?_
    · refine kept_updCore ?_ (mask_sub (by decide) hA)
      · exact h10
    · exact h10
theorem kept_resetCellar {A : Nat} {s0 : State} {s : Sys2Proof.Machine.State} {c : Nat} {keep : Bool} (h_s : Kept A s0 s) (hA : 158203961764170627940600 ||| A = A) :
    Kept A s0 (State.resetCellar s c keep) := by
  unfold State.resetCellar
  extract_lets -merge -useContext -underBinder x1 x2 x3 x4 x5 x6
  have h3 : Kept A s0 x3 := by
    unfold x3
    refine kept_markReset ?_ (mask_sub (by decide) hA)
    · refine kept_dropUnits ?_ (mask_sub (by decide) hA)
      · exact h_s
  have h5 : Kept A s0 x5 := by
    unfold x5
    refine Kept.u_wins_winAlive_chans_mem_stp_fw ?_ ?_ (mask_sub (by decide) hA)
    · exact h3
    · exact fun h => by split <;> first | exact h | exact Tab.wf_drop _ _ h | exact Tab.wf_range _ _ h
  have h6 : Kept A s0 x6 := by
    unfold x6
    refine kept_wr ?_ (mask_sub (by decide) hA)
    · refine kept_updCel ?_ (mask_sub (by decide) hA)
      · exact h5
  clear_value x3 x5 x6
  refine Kept.ite ?_ ?_
  · refine kept_fenceStack ?_ (mask_sub (by decide) hA)
    · exact h6
  · refine kept_each ?_ (fun _ _ h7 => ?_)
    · exact h6
    · refine Kept.ite ?_ ?_
      · refine kept_fenceChan ?_ (mask_sub (by decide) hA)
        · exact h7
      · exact h7
theorem kept_resetDoor {A : Nat} {s0 : State} {s : Sys2Proof.Machine.State} {n : Nat} (h_s : Kept A s0 s) (hA : 7092773377816379392248 ||| A = A) :
    Kept A s0 (State.resetDoor s n) := by
  unfold State.resetDoor
  extract_lets -merge -useContext -underBinder x1 x2 x3
  have h2 : Kept A s0 x2 := by
    unfold x2
    refine kept_markReset ?_ (mask_sub (by decide) hA)
    · refine kept_dropUnits ?_ (mask_sub (by decide) hA)
      · exact h_s
  have h3 : Kept A s0 x3 := by
    unfold x3
    refine Kept.u_streams_reloads_stp ?_ (mask_sub (by decide) hA)
    exact h2
  clear_value x2 x3
  refine kept_updDoor ?_ (mask_sub (by decide) hA)
  · exact h3
theorem kept_resetGate {A : Nat} {s0 : State} {s : Sys2Proof.Machine.State} {g : Nat} (h_s : Kept A s0 s) (hA : 4722366764344691523832 ||| A = A) :
    Kept A s0 (State.resetGate s g) := by
  unfold State.resetGate
  extract_lets -merge -useContext -underBinder x1
  refine kept_updGate ?_ (mask_sub (by decide) hA)
  · refine kept_keepCnt ?_ (mask_sub (by decide) hA)
    · refine kept_dropUnits ?_ (mask_sub (by decide) hA)
      · exact h_s
theorem kept_resetRegion {A : Nat} {s0 : State} {s : Sys2Proof.Machine.State} {r : Nat} {keep : Bool} (h_s : Kept A s0 s) (hA : 177692978420842817257720 ||| A = A) :
    Kept A s0 (State.resetRegion s r keep) := by
  unfold State.resetRegion
  extract_lets -merge -useContext -underBinder x1 x2 x3 x4
  have h1 : Kept A s0 x1 := by
    unfold x1
    refine kept_each ?_ (fun _ _ h8 => ?_)
    · exact h_s
    · refine kept_resetCluster ?_ (mask_sub (by decide) hA)
      · exact h8
  have h2 : Kept A s0 x2 := by
    unfold x2
    refine kept_each ?_ (fun _ _ h7 => ?_)
    · exact h1
    · refine kept_resetCellar ?_ (mask_sub (by decide) hA)
      · exact h7
  have h3 : Kept A s0 x3 := by
    unfold x3
    refine kept_each ?_ (fun _ _ h6 => ?_)
    · exact h2
    · refine kept_resetDoor ?_ (mask_sub (by decide) hA)
      · exact h6
  have h4 : Kept A s0 x4 := by
    unfold x4
    refine kept_each ?_ (fun _ _ h5 => ?_)
    · exact h3
    · refine kept_resetGate ?_ (mask_sub (by decide) hA)
      · exact h5
  clear_value x1 x2 x3 x4
  refine Kept.ite ?_ ?_
  · exact h4
  · refine kept_storeLost ?_ (mask_sub (by decide) hA)
    · exact h4
theorem kept_neighboursGone {A : Nat} {s0 : State} {s : Sys2Proof.Machine.State} {r : Nat} (h_s : Kept A s0 s) (hA : 1360189427277114817920568 ||| A = A) :
    Kept A s0 (State.neighboursGone s r) := by
  unfold State.neighboursGone
  refine kept_each ?_ (fun _ _ h1 => ?_)
  · exact h_s
  · refine kept_each ?_ (fun _ _ h2 => ?_)
    · exact h1
    · refine kept_neighbourTimeout ?_ (mask_sub (by decide) hA)
      · exact h2
theorem kept_quietRegion {A : Nat} {s0 : State} {s : Sys2Proof.Machine.State} {r : Nat} (h_s : Kept A s0 s) (hA : 1367568124906598642761528 ||| A = A) :
    Kept A s0 (State.quietRegion s r) := by
  unfold State.quietRegion
  extract_lets -merge -useContext -underBinder x1 x2 x3
  have h1 : Kept A s0 x1 := by
    unfold x1
    refine kept_stpAbandonRegion ?_ (mask_sub (by decide) hA)
    · exact h_s
  have h2 : Kept A s0 x2 := by
    unfold x2
    refine kept_each ?_ (fun _ _ h5 => ?_)
    · exact h1
    · refine kept_endCases ?_ (mask_sub (by decide) hA)
      · exact h5
  have h3 : Kept A s0 x3 := by
    unfold x3
    refine Kept.u_resets ?_ (mask_sub (by decide) hA)
    exact h2
  clear_value x1 x2 x3
  refine kept_neighboursGone ?_ (mask_sub (by decide) hA)
  · refine kept_each ?_ (fun _ _ h4 => ?_)
    · exact h3
    · refine kept_updSet ?_ (mask_sub (by decide) hA)
      · refine kept_updPort ?_ (mask_sub (by decide) hA)
        · exact h4
theorem kept_partUnits {A : Nat} {s0 : State} {s : Sys2Proof.Machine.State} {r : Nat} {keep : Bool} (h_s : Kept A s0 s) (hA : 177692978429638910279928 ||| A = A) :
    Kept A s0 (State.partUnits s r keep) := by
  unfold State.partUnits
  extract_lets -merge -useContext -underBinder x1
  have h1 : Kept A s0 x1 := by
    unfold x1
    refine Kept.u_resets ?_ (mask_sub (by decide) hA)
    exact h_s
  clear_value x1
  refine kept_resetRegion ?_ (mask_sub (by decide) hA)
  · exact h1
theorem kept_absorbToward {A : Nat} {s0 : State} {s : Sys2Proof.Machine.State} {r : Nat} (h_s : Kept A s0 s) (hA : 4398046511104 ||| A = A) :
    Kept A s0 (State.absorbToward s r) := by
  unfold State.absorbToward
  refine kept_each ?_ (fun _ _ h1 => ?_)
  · exact h_s
  · split
    · refine kept_updHall ?_ (mask_sub (by decide) hA)
      · exact h1
    · exact h1
theorem kept_startPart {A : Nat} {s0 : State} {s : Sys2Proof.Machine.State} {r : Nat} {cause : Nat} (h_s : Kept A s0 s) (hA : 6222765086595456861356024 ||| A = A) :
    Kept A s0 (State.startPart s r cause) := by
  unfold State.startPart
  extract_lets -merge -useContext -underBinder x1 x2 x3 x4 x5
  have h2 : Kept A s0 x2 := by
    unfold x2
    refine kept_each ?_ (fun _ _ h7 => ?_)
    · exact h_s
    · refine kept_addSuspects ?_ (mask_sub (by decide) hA)
      · exact h7
  have h3 : Kept A s0 x3 := by
    unfold x3
    refine kept_hallAct ?_ (mask_sub (by decide) hA)
    · refine kept_quietRegion ?_ (mask_sub (by decide) hA)
      · exact h2
  have h4 : Kept A s0 x4 := by
    unfold x4
    refine Kept.u_resets ?_ (mask_sub (by decide) hA)
    exact h3
  have h5 : Kept A s0 x5 := by
    unfold x5
    refine kept_fwHold ?_ (mask_sub (by decide) hA)
    · refine kept_each ?_ (fun _ _ h6 => ?_)
      · exact h4
      · refine kept_trace ?_ (mask_sub (by decide) hA)
        · exact h6
  clear_value x2 x3 x4 x5
  refine Kept.ite ?_ ?_
  · exact h_s
  · refine Kept.ite ?_ ?_
    · refine Kept.u_resetsDue ?_ (mask_sub (by decide) hA)
      exact h_s
    · refine Kept.ite ?_ ?_
      · refine kept_partUnits ?_ (mask_sub (by decide) hA)
        · refine kept_absorbToward ?_ (mask_sub (by decide) hA)
          · exact h5
      · refine kept_closeGates ?_ (mask_sub (by decide) hA)
        · exact h5
theorem kept_engineResetEscalate {A : Nat} {s0 : State} {s : Sys2Proof.Machine.State} {k : Nat} (h_s : Kept A s0 s) (hA : 6222765086595456861356024 ||| A = A) :
    Kept A s0 (engineResetEscalate s k) := by
  unfold engineResetEscalate
  split
  · exact h_s
  · refine kept_startPart ?_ (mask_sub (by decide) hA)
    · refine kept_escalated ?_ (mask_sub (by decide) hA)
      · exact h_s
theorem kept_execEngineResetEscalate {A : Nat} {s0 : State} {k : Sys2Proof.ClusterId} {s : Sys2Proof.Machine.State} (h_s : Kept A s0 s) (hA : 6222765086595456861356024 ||| A = A) :
    KeptO A s0 (execEngineResetEscalate k s) := by
  unfold execEngineResetEscalate
  refine KeptO.next ?_
  refine kept_engineResetEscalate ?_ (mask_sub (by decide) hA)
  · exact h_s
theorem kept_chipReset {A : Nat} {s0 : State} {s : Sys2Proof.Machine.State} {cause : Nat} (h_s : Kept A s0 s) (hA : 8613596752997871883926072 ||| A = A) :
    Kept A s0 (State.chipReset s cause) := by
  unfold State.chipReset
  extract_lets -merge -useContext -underBinder x1 x2 x3
  have h1 : Kept A s0 x1 := by
    unfold x1
    refine kept_wr ?_ (mask_sub (by decide) hA)
    · refine kept_raise ?_ (mask_sub (by decide) hA)
      · exact h_s
  have h3 : Kept A s0 x3 := by
    unfold x3
    refine Kept.u_resets_pad_resetsDue ?_ (mask_sub (by decide) hA)
    exact h1
  clear_value x1 x3
  refine Kept.ite ?_ ?_
  · exact h_s
  · refine kept_fwHold ?_ (mask_sub (by decide) hA)
    · refine kept_each ?_ (fun _ _ h4 => ?_)
      · exact h3
      · refine kept_closeGates ?_ (mask_sub (by decide) hA)
        · exact h4
theorem kept_partitionResetEscalate {A : Nat} {s0 : State} {s : Sys2Proof.Machine.State} {r : Nat} (h_s : Kept A s0 s) (hA : 8613596752997871883926072 ||| A = A) :
    Kept A s0 (partitionResetEscalate s r) := by
  unfold partitionResetEscalate
  split
  · exact h_s
  · refine kept_chipReset ?_ (mask_sub (by decide) hA)
    · refine kept_hallAsk ?_ (mask_sub (by decide) hA)
      · refine kept_escalated ?_ (mask_sub (by decide) hA)
        · exact h_s
theorem kept_killDone {A : Nat} {s0 : State} {s : Sys2Proof.Machine.State} {k : Nat} (h_s : Kept A s0 s) (hA : 6979321864 ||| A = A) :
    Kept A s0 (killDone s k) := by
  unfold killDone
  split
  · exact h_s
  · extract_lets -merge -useContext -underBinder x1 x2
    have h1 : Kept A s0 x1 := by
      unfold x1
      refine kept_updPort ?_ (mask_sub (by decide) hA)
      · exact h_s
    clear_value x1
    refine kept_dropCmds ?_ (mask_sub (by decide) hA)
    · exact h1
theorem kept_closeAbsorbed {A : Nat} {s0 : State} {s : Sys2Proof.Machine.State} {r : Nat} (h_s : Kept A s0 s) (hA : 48 ||| A = A) :
    Kept A s0 (State.closeAbsorbed s r) := by
  unfold State.closeAbsorbed
  extract_lets -merge -useContext -underBinder x1 x2
  refine kept_count ?_ (mask_sub (by decide) hA)
  · exact h_s
theorem kept_partDrained {A : Nat} {s0 : State} {s : Sys2Proof.Machine.State} {r : Nat} (h_s : Kept A s0 s) (hA : 177692978434036956791032 ||| A = A) :
    Kept A s0 (State.partDrained s r) := by
  unfold State.partDrained
  refine Kept.ite ?_ ?_
  · exact h_s
  · refine kept_partUnits ?_ (mask_sub (by decide) hA)
    · refine kept_absorbToward ?_ (mask_sub (by decide) hA)
      · refine kept_closeAbsorbed ?_ (mask_sub (by decide) hA)
        · exact h_s
theorem kept_execKillDone {A : Nat} {s0 : State} {k : Sys2Proof.ClusterId} {s : Sys2Proof.Machine.State} (h_s : Kept A s0 s) (hA : 6979321864 ||| A = A) :
    KeptO A s0 (execKillDone k s) := by
  unfold execKillDone
  refine KeptO.next ?_
  refine kept_killDone ?_ (mask_sub (by decide) hA)
  · exact h_s
theorem kept_reloadDescs {A : Nat} {s0 : State} {s : Sys2Proof.Machine.State} {k : Nat} (h_s : Kept A s0 s) (hA : 2147483648 ||| A = A) :
    Kept A s0 (State.reloadDescs s k) := by
  unfold State.reloadDescs
  refine kept_each ?_ (fun _ _ h1 => ?_)
  · exact h_s
  · refine KeptL.fst ?_
    refine kept_loadAt ?_ (mask_sub (by decide) hA)
    · exact h1
theorem kept_reloadCluster {A : Nat} {s0 : State} {s : Sys2Proof.Machine.State} {k : Nat} (h_s : Kept A s0 s) (hA : 2147485696 ||| A = A) :
    Kept A s0 (State.reloadCluster s k) := by
  unfold State.reloadCluster
  extract_lets -merge -useContext -underBinder x1
  have h1 : Kept A s0 x1 := by
    unfold x1
    refine kept_reloadDescs ?_ (mask_sub (by decide) hA)
    · exact h_s
  clear_value x1
  refine Kept.ite ?_ ?_
  · exact h1
  · refine kept_emit ?_ (mask_sub (by decide) hA)
    · exact h1
theorem kept_noSpares {A : Nat} {s0 : State} {s : Sys2Proof.Machine.State} {k : Nat} {fix : List (Nat × Nat)} (h_s : Kept A s0 s) (hA : 288232575174968856 ||| A = A) :
    Kept A s0 (State.noSpares s k fix) := by
  unfold State.noSpares
  refine kept_each ?_ (fun _ _ h1 => ?_)
  · exact h_s
  · refine kept_drainWafer ?_ (mask_sub (by decide) hA)
    · refine kept_raiseOnce ?_ (mask_sub (by decide) hA)
      · exact h1
theorem kept_reloadRegion {A : Nat} {s0 : State} {s : Sys2Proof.Machine.State} {r : Nat} (h_s : Kept A s0 s) (hA : 4400193996800 ||| A = A) :
    Kept A s0 (State.reloadRegion s r) := by
  unfold State.reloadRegion
  refine Kept.ite ?_ ?_
  · refine kept_each ?_ (fun _ _ h1 => ?_)
    · exact h_s
    · refine kept_reloadCluster ?_ (mask_sub (by decide) hA)
      · exact h1
  · refine kept_hallAsk ?_ (mask_sub (by decide) hA)
    · exact h_s
theorem kept_unshut {A : Nat} {s0 : State} {s : Sys2Proof.Machine.State} {r : Nat} {cause : Nat} (h_s : Kept A s0 s) (hA : 288234774198223640 ||| A = A) :
    Kept A s0 (State.unshut s r cause) := by
  unfold State.unshut
  extract_lets -merge -useContext -underBinder x1 x2 x3
  have h2 : Kept A s0 x2 := by
    unfold x2
    refine kept_shutUnits ?_ (mask_sub (by decide) hA)
    · refine kept_updHall ?_ (mask_sub (by decide) hA)
      · exact h_s
  have h3 : Kept A s0 x3 := by
    unfold x3
    refine kept_wr ?_ (mask_sub (by decide) hA)
    · refine kept_flag ?_ (mask_sub (by decide) hA)
      · exact h2
  clear_value x2 x3
  refine Kept.ite ?_ ?_
  · exact h_s
  · refine kept_notifyRegion ?_ (mask_sub (by decide) hA)
    · refine kept_raise ?_ (mask_sub (by decide) hA)
      · exact h3
theorem kept_unlose {A : Nat} {s0 : State} {s : Sys2Proof.Machine.State} {r : Nat} (h_s : Kept A s0 s) (hA : 151116017938402658746904 ||| A = A) :
    Kept A s0 (State.unlose s r) := by
  unfold State.unlose
  extract_lets -merge -useContext -underBinder x1 x2 x3 x4 x5 x6 x7
  have h2 : Kept A s0 x2 := by
    unfold x2
    refine kept_updHall ?_ (mask_sub (by decide) hA)
    · exact h_s
  have h4 : Kept A s0 x4 := by
    unfold x4
    refine kept_wr ?_ (mask_sub (by decide) hA)
    · exact h2
  have h7 : Kept A s0 x7 := by
    unfold x7
    refine kept_updProc ?_ (mask_sub (by decide) hA)
    · exact h4
  clear_value x2 x4 x7
  refine Kept.ite ?_ ?_
  · exact h_s
  · refine kept_notifyRegion ?_ (mask_sub (by decide) hA)
    · refine kept_unvoid ?_ (mask_sub (by decide) hA)
      · refine kept_raise ?_ (mask_sub (by decide) hA)
        · exact h7
theorem kept_regionReady {A : Nat} {s0 : State} {s : Sys2Proof.Machine.State} {r : Nat} (h_s : Kept A s0 s) (hA : 1360484577436293007687480 ||| A = A) :
    Kept A s0 (regionReady s r) := by
  unfold regionReady
  split
  · exact h_s
  · extract_lets -merge -useContext -underBinder x1 x2 x3 x4 x5 x6 x7 x8 x9 x10 x11 x12 x13 x14
    have h1 : Kept A s0 x1 := by
      unfold x1
      refine Kept.u_resets ?_ (mask_sub (by decide) hA)
      exact h_s
    have h2 : Kept A s0 x2 := by
      unfold x2
      refine kept_each ?_ (fun _ _ h18 => ?_)
      · exact h1
      · extract_lets -merge -useContext -underBinder x19
        refine kept_noSpares ?_ (mask_sub (by decide) hA)
        · refine kept_updPort ?_ (mask_sub (by decide) hA)
          · exact h18
    have h3 : Kept A s0 x3 := by
      unfold x3
      refine kept_reloadRegion ?_ (mask_sub (by decide) hA)
      · exact h2
    have h4 : Kept A s0 x4 := by
      unfold x4
      refine kept_each ?_ (fun _ _ h17 => ?_)
      · exact h3
      · refine Kept.ite ?_ ?_
        · exact h17
        · refine kept_adopt ?_ (mask_sub (by decide) hA)
          · exact h17
    have h5 : Kept A s0 x5 := by
      unfold x5
      refine kept_emergCheck ?_ (mask_sub (by decide) hA)
      · refine kept_updHall ?_ (mask_sub (by decide) hA)
        · exact h4
    have h6 : Kept A s0 x6 := by
      unfold x6
      refine kept_mapChanged ?_ (mask_sub (by decide) hA)
      · refine kept_unshut ?_ (mask_sub (by decide) hA)
        · refine kept_unlose ?_ (mask_sub (by decide) hA)
          · exact h5
    have h10 : Kept A s0 x10 := by
      unfold x10
      refine kept_updHall ?_ (mask_sub (by decide) hA)
      · exact h6
    have h11 : Kept A s0 x11 := by
      unfold x11
      refine kept_raise ?_ (mask_sub (by decide) hA)
      · refine kept_count ?_ (mask_sub (by decide) hA)
        · exact h10
    have h12 : Kept A s0 x12 := by
      unfold x12
      refine Kept.ite ?_ ?_
      · refine kept_notifyRegion ?_ (mask_sub (by decide) hA)
        · refine kept_raise ?_ (mask_sub (by decide) hA)
          · refine kept_shutUnits ?_ (mask_sub (by decide) hA)
            · exact h11
      · refine Kept.ite ?_ ?_
        · refine kept_shutUnits ?_ (mask_sub (by decide) hA)
          · exact h11
        · exact h11
    have h13 : Kept A s0 x13 := by
      unfold x13
      refine kept_notifyReset ?_ (mask_sub (by decide) hA)
      · exact h12
    have h14 : Kept A s0 x14 := by
      unfold x14
      refine kept_each ?_ (fun _ _ h16 => ?_)
      · exact h13
      · refine kept_trace ?_ (mask_sub (by decide) hA)
        · refine kept_updPort ?_ (mask_sub (by decide) hA)
          · exact h16
    clear_value x1 x2 x3 x4 x5 x6 x10 x11 x12 x13 x14
    refine Kept.ite ?_ ?_
    · exact h_s
    · refine kept_showHold ?_ (mask_sub (by decide) hA)
      · refine Kept.ite ?_ ?_
        · exact h14
        · refine kept_each ?_ (fun _ _ h15 => ?_)
          · exact h14
          · refine kept_replayGo ?_ (mask_sub (by decide) hA)
            · exact h15
theorem kept_absorbedAt {A : Nat} {s0 : State} {s : Sys2Proof.Machine.State} {sc : Sys2Proof.Scope} {bytes : Nat} {cs : List Nat} (h_s : Kept A s0 s) (hA : 13246216012344 ||| A = A) :
    Kept A s0 (State.absorbedAt s sc bytes cs) := by
  unfold State.absorbedAt
  extract_lets -merge -useContext -underBinder x1
  have h1 : ∀ y1_0 y1_1 y1_2, Kept A s0 y1_0 → Kept A s0 (x1 y1_0 y1_1 y1_2) := by
    intro y1_0 y1_1 y1_2 h1_0
    unfold x1
    refine Kept.u_resets ?_ (mask_sub (by decide) hA)
    exact h1_0
  clear_value x1
  split
  · refine Kept.ite ?_ ?_
    · refine kept_count ?_ (mask_sub (by decide) hA)
      · refine h1 _ _ _ ?_
        · exact h_s
    · exact h_s
  · refine Kept.ite ?_ ?_
    · refine kept_count ?_ (mask_sub (by decide) hA)
      · refine kept_addSuspects ?_ (mask_sub (by decide) hA)
        · refine h1 _ _ _ ?_
          · exact h_s
    · exact h_s
  · refine h1 _ _ _ ?_
    · exact h_s
  · exact h_s
theorem kept_restart {A : Nat} {s0 : State} {s : Sys2Proof.Machine.State} {power : Bool} (h_s : Kept A s0 s) (hA : 154742486319813272576980986 ||| A = A) :
    Kept A s0 (State.restart s power) := by
  unfold State.restart
  extract_lets -merge -useContext -underBinder x1 x2 x3 x4 x5 x6 x7 x8
  refine Kept.u_restart ?_ ?_ ?_ ?_ (mask_sub (by decide) hA)
  · exact h_s
  · exact Or.inr (mask_testBit (i := 86) (mask_sub (by decide) hA))
  · exact Nat.le_refl _
  · exact fun h => by split <;> first | exact h | exact Tab.wf_drop _ _ h | exact Tab.wf_range _ _ h
theorem kept_chipDrained {A : Nat} {s0 : State} {s : Sys2Proof.Machine.State} (h_s : Kept A s0 s) (hA : 154742486319813272576980986 ||| A = A) :
    Kept A s0 (State.chipDrained s) := by
  unfold State.chipDrained
  extract_lets -merge -useContext -underBinder x1
  have h1 : Kept A s0 x1 := by
    unfold x1
    split
    · refine kept_raise ?_ (mask_sub (by decide) hA)
      · exact h_s
    · exact h_s
  clear_value x1
  refine Kept.ite ?_ ?_
  · exact h_s
  · refine kept_restart ?_ (mask_sub (by decide) hA)
    · exact h1
theorem kept_drainEnd {A : Nat} {s0 : State} {s : Sys2Proof.Machine.State} {sc : Sys2Proof.Scope} {bytes : Nat} {cs : List Nat} (h_s : Kept A s0 s) (hA : 154742486319813272576983034 ||| A = A) :
    Kept A s0 (drainEnd s sc bytes cs) := by
  unfold drainEnd
  split
  · refine kept_absorbedAt ?_ (mask_sub (by decide) hA)
    · refine kept_coreDrained ?_ (mask_sub (by decide) hA)
      · exact h_s
  · refine kept_absorbedAt ?_ (mask_sub (by decide) hA)
    · refine kept_engineDrained ?_ (mask_sub (by decide) hA)
      · exact h_s
  · refine kept_absorbedAt ?_ (mask_sub (by decide) hA)
    · refine kept_partDrained ?_ (mask_sub (by decide) hA)
      · exact h_s
  · refine kept_chipDrained ?_ (mask_sub (by decide) hA)
    · exact h_s
theorem kept_execDrainComplete {A : Nat} {s0 : State} {sc : Sys2Proof.Scope} {bytes : Nat} {ctxs : List Sys2Proof.Ctx} {s : Sys2Proof.Machine.State} (h_s : Kept A s0 s) (hA : 154742486319813272576983034 ||| A = A) :
    KeptO A s0 (execDrainComplete sc bytes ctxs s) := by
  unfold execDrainComplete
  refine KeptO.next ?_
  refine kept_drainEnd ?_ (mask_sub (by decide) hA)
  · exact h_s
theorem kept_clusterResetDone {A : Nat} {s0 : State} {s : Sys2Proof.Machine.State} {k : Nat} (h_s : Kept A s0 s) (hA : 288258970701792792 ||| A = A) :
    Kept A s0 (clusterResetDone s k) := by
  unfold clusterResetDone
  extract_lets -merge -useContext -underBinder x1 x2 x3 x4
  have h1 : Kept A s0 x1 := by
    unfold x1
    refine Kept.u_resets_hangs ?_ (mask_sub (by decide) hA)
    exact h_s
  have h2 : Kept A s0 x2 := by
    unfold x2
    refine kept_updRplOf ?_ (mask_sub (by decide) hA)
    · refine kept_dropCmds ?_ (mask_sub (by decide) hA)
      · exact h1
  have h4 : Kept A s0 x4 := by
    unfold x4
    refine kept_noSpares ?_ (mask_sub (by decide) hA)
    · refine kept_updPort ?_ (mask_sub (by decide) hA)
      · exact h2
  clear_value x1 x2 x4
  refine Kept.ite ?_ ?_
  · exact h_s
  · refine kept_each ?_ (fun _ _ h5 => ?_)
    · exact h4
    · refine Kept.ite ?_ ?_
      · exact h5
      · refine kept_updCore ?_ (mask_sub (by decide) hA)
        · exact h5
theorem kept_engineDone {A : Nat} {s0 : State} {s : Sys2Proof.Machine.State} {k : Nat} (h_s : Kept A s0 s) (hA : 1360189427277114817920568 ||| A = A) :
    Kept A s0 (State.engineDone s k) := by
  unfold State.engineDone
  split
  · exact h_s
  · extract_lets -merge -useContext -underBinder x1 x2 x3 x4 x5
    have h1 : Kept A s0 x1 := by
      unfold x1
      refine Kept.u_resets ?_ (mask_sub (by decide) hA)
      exact h_s
    have h2 : Kept A s0 x2 := by
      unfold x2
      refine kept_count ?_ (mask_sub (by decide) hA)
      · refine kept_count ?_ (mask_sub (by decide) hA)
        · exact h1
    have h3 : Kept A s0 x3 := by
      unfold x3
      refine kept_raise ?_ (mask_sub (by decide) hA)
      · exact h2
    have h4 : Kept A s0 x4 := by
      unfold x4
      refine kept_trace ?_ (mask_sub (by decide) hA)
      · refine kept_notifyReset ?_ (mask_sub (by decide) hA)
        · exact h3
    have h5 : Kept A s0 x5 := by
      unfold x5
      refine kept_updPort ?_ (mask_sub (by decide) hA)
      · exact h4
    clear_value x1 x2 x3 x4 x5
    refine kept_rplRegion ?_ (mask_sub (by decide) hA)
    · refine kept_showHold ?_ (mask_sub (by decide) hA)
      · refine kept_replayGo ?_ (mask_sub (by decide) hA)
        · exact h5
theorem kept_mapCommitDone {A : Nat} {s0 : State} {s : Sys2Proof.Machine.State} {k : Nat} (h_s : Kept A s0 s) (hA : 1360484575182294170746424 ||| A = A) :
    Kept A s0 (mapCommitDone s k) := by
  unfold mapCommitDone
  refine kept_engineDone ?_ (mask_sub (by decide) hA)
  · refine kept_mapCommitted ?_ (mask_sub (by decide) hA)
    · exact h_s
theorem kept_execMapCommitDone {A : Nat} {s0 : State} {k : Sys2Proof.ClusterId} {s : Sys2Proof.Machine.State} (h_s : Kept A s0 s) (hA : 1360484575182294170746424 ||| A = A) :
    KeptO A s0 (execMapCommitDone k s) := by
  unfold execMapCommitDone
  refine KeptO.next ?_
  refine kept_mapCommitDone ?_ (mask_sub (by decide) hA)
  · exact h_s
theorem kept_execRegionReady {A : Nat} {s0 : State} {r : Sys2Proof.RegionId} {s : Sys2Proof.Machine.State} (h_s : Kept A s0 s) (hA : 1360484577436293007687480 ||| A = A) :
    KeptO A s0 (execRegionReady r s) := by
  unfold execRegionReady
  refine KeptO.next ?_
  refine kept_regionReady ?_ (mask_sub (by decide) hA)
  · exact h_s
theorem kept_execDrainBound {A : Nat} {s0 : State} {sc : Sys2Proof.Scope} {bytes : Nat} {ctxs : List Sys2Proof.Ctx} {s : Sys2Proof.Machine.State} (h_s : Kept A s0 s) (hA : 154742486319813272576983034 ||| A = A) :
    KeptO A s0 (execDrainBound sc bytes ctxs s) := by
  unfold execDrainBound
  refine KeptO.next ?_
  refine kept_drainEnd ?_ (mask_sub (by decide) hA)
  · exact h_s
theorem kept_commandExpire {A : Nat} {s0 : State} {s : Sys2Proof.Machine.State} {k : Nat} {p : Nat} {ending : Bool} (h_s : Kept A s0 s) (hA : 18031990963963448 ||| A = A) :
    Kept A s0 (commandExpire s k p ending) := by
  unfold commandExpire
  extract_lets -merge -useContext -underBinder x1
  split
  · exact h_s
  · extract_lets -merge -useContext -underBinder x2 x3 x4 x5 x6 x7
    have h5 : Kept A s0 x5 := by
      unfold x5
      refine kept_count ?_ (mask_sub (by decide) hA)
      · refine kept_updCore ?_ (mask_sub (by decide) hA)
        · exact h_s
    have h6 : Kept A s0 x6 := by
      unfold x6
      refine kept_raiseOnce ?_ (mask_sub (by decide) hA)
      · exact h5
    have h7 : Kept A s0 x7 := by
      unfold x7
      refine kept_trace ?_ (mask_sub (by decide) hA)
      · exact h6
    clear_value x5 x6 x7
    refine Kept.ite ?_ ?_
    · exact h_s
    · refine Kept.ite ?_ ?_
      · refine kept_count ?_ (mask_sub (by decide) hA)
        · exact h_s
      · refine Kept.u_hangs ?_ (mask_sub (by decide) hA)
        exact h7
theorem kept_stallWatchdog {A : Nat} {s0 : State} {s : Sys2Proof.Machine.State} {r : Nat} (h_s : Kept A s0 s) (hA : 6222765086595456861356024 ||| A = A) :
    Kept A s0 (stallWatchdog s r) := by
  unfold stallWatchdog
  extract_lets -merge -useContext -underBinder x1
  refine Kept.ite ?_ ?_
  · exact h_s
  · refine kept_startPart ?_ (mask_sub (by decide) hA)
    · refine kept_raise ?_ (mask_sub (by decide) hA)
      · exact h_s
theorem kept_execStallWatchdog {A : Nat} {s0 : State} {r : Sys2Proof.RegionId} {s : Sys2Proof.Machine.State} (h_s : Kept A s0 s) (hA : 6222765086595456861356024 ||| A = A) :
    KeptO A s0 (execStallWatchdog r s) := by
  unfold execStallWatchdog
  refine KeptO.next ?_
  refine kept_stallWatchdog ?_ (mask_sub (by decide) hA)
  · exact h_s
theorem kept_resetSuspects {A : Nat} {s0 : State} {s : Sys2Proof.Machine.State} {k : Nat} {cs : List Nat} (h_s : Kept A s0 s) (hA : 1360041565094051277192760 ||| A = A) :
    Kept A s0 (State.resetSuspects s k cs) := by
  unfold State.resetSuspects
  refine kept_each ?_ (fun _ _ h1 => ?_)
  · exact h_s
  · refine kept_coreReset ?_ (mask_sub (by decide) hA)
    · exact h1
theorem kept_execClusterResetDone {A : Nat} {s0 : State} {k : Sys2Proof.ClusterId} {s : Sys2Proof.Machine.State} (h_s : Kept A s0 s) (hA : 288258970701792792 ||| A = A) :
    KeptO A s0 (execClusterResetDone k s) := by
  unfold execClusterResetDone
  refine KeptO.next ?_
  refine kept_clusterResetDone ?_ (mask_sub (by decide) hA)
  · exact h_s
theorem kept_hangReport {A : Nat} {s0 : State} {s : Sys2Proof.Machine.State} {k : Nat} (h_s : Kept A s0 s) (hA : 20705658872275426629402168 ||| A = A) :
    Kept A s0 (hangReport s k) := by
  unfold hangReport
  extract_lets -merge -useContext -underBinder x1
  split
  · exact h_s
  · extract_lets -merge -useContext -underBinder x2 x3 x4 x5 x6 x7 x8
    have h7 : Kept A s0 x7 := by
      unfold x7
      refine Kept.u_hangs ?_ (mask_sub (by decide) hA)
      exact h_s
    have h8 : Kept A s0 x8 := by
      unfold x8
      refine kept_bankCount ?_ (mask_sub (by decide) hA)
      · refine kept_count ?_ (mask_sub (by decide) hA)
        · exact h7
    clear_value x7 x8
    refine Kept.ite ?_ ?_
    · exact h_s
    · refine Kept.ite ?_ ?_
      · refine kept_addSuspects ?_ (mask_sub (by decide) hA)
        · exact h8
      · refine Kept.ite ?_ ?_
        · refine kept_withdrawRunning ?_ (mask_sub (by decide) hA)
          · refine kept_coreReset ?_ (mask_sub (by decide) hA)
            · exact h8
        · refine Kept.ite ?_ ?_
          · refine kept_coreReset ?_ (mask_sub (by decide) hA)
            · exact h8
          · split
            · extract_lets -merge -useContext -underBinder x9 x10 x11
              have h9 : Kept A s0 x9 := by
                unfold x9
                refine kept_coreReset ?_ (mask_sub (by decide) hA)
                · exact h8
              have h10 : Kept A s0 x10 := by
                unfold x10
                refine kept_updSet ?_ (mask_sub (by decide) hA)
                · exact h9
              have h11 : Kept A s0 x11 := by
                unfold x11
                refine kept_raise ?_ (mask_sub (by decide) hA)
                · refine kept_count ?_ (mask_sub (by decide) hA)
                  · exact h10
              clear_value x9 x10 x11
              refine Kept.ite ?_ ?_
              · refine kept_replaysGo ?_ (mask_sub (by decide) hA)
                · refine kept_killCtx ?_ (mask_sub (by decide) hA)
                  · exact h11
              · refine Kept.ite ?_ ?_
                · refine kept_coreReset ?_ (mask_sub (by decide) hA)
                  · refine kept_addSuspects ?_ (mask_sub (by decide) hA)
                    · exact h8
                · refine kept_engineReset ?_ (mask_sub (by decide) hA)
                  · refine kept_escalated ?_ (mask_sub (by decide) hA)
                    · refine kept_addSuspects ?_ (mask_sub (by decide) hA)
                      · exact h8
            · extract_lets -merge -useContext -underBinder x12 x13 x14 x15
              have h14 : Kept A s0 x14 := by
                unfold x14
                refine kept_openSet ?_ (mask_sub (by decide) hA)
                · exact h8
              have h15 : Kept A s0 x15 := by
                unfold x15
                refine kept_engineReset ?_ (mask_sub (by decide) hA)
                · refine kept_escalated ?_ (mask_sub (by decide) hA)
                  · exact h14
              clear_value x14 x15
              refine Kept.ite ?_ ?_
              · refine kept_each ?_ (fun _ _ h16 => ?_)
                · exact h15
                · refine kept_updStpOf ?_ (mask_sub (by decide) hA)
                  · exact h16
              · refine kept_resetSuspects ?_ (mask_sub (by decide) hA)
                · exact h14
theorem kept_execHangReport {A : Nat} {s0 : State} {k : Sys2Proof.ClusterId} {s : Sys2Proof.Machine.State} (h_s : Kept A s0 s) (hA : 20705658872838376582823480 ||| A = A) :
    KeptO A s0 (execHangReport k s) := by
  unfold execHangReport
  refine KeptO.next ?_
  refine kept_hangReport ?_ (mask_sub (by decide) hA)
  · refine kept_item ?_ (mask_sub (by decide) hA)
    · exact h_s
theorem kept_neighbourResetComplete {A : Nat} {s0 : State} {s : Sys2Proof.Machine.State} {r : Nat} {d : Sys2Proof.Dir} {bytes : Nat} (h_s : Kept A s0 s) (hA : 4398046511152 ||| A = A) :
    Kept A s0 (neighbourResetComplete s r d bytes) := by
  unfold neighbourResetComplete
  split
  · exact h_s
  · refine Kept.ite ?_ ?_
    · exact h_s
    · refine kept_count ?_ (mask_sub (by decide) hA)
      · refine kept_updHall ?_ (mask_sub (by decide) hA)
        · exact h_s
theorem kept_execNeighbourResetComplete {A : Nat} {s0 : State} {r : Sys2Proof.RegionId} {d : Sys2Proof.Dir} {bytes : Nat} {s : Sys2Proof.Machine.State} (h_s : Kept A s0 s) (hA : 4398046511152 ||| A = A) :
    KeptO A s0 (execNeighbourResetComplete r d bytes s) := by
  unfold execNeighbourResetComplete
  refine KeptO.next ?_
  refine kept_neighbourResetComplete ?_ (mask_sub (by decide) hA)
  · exact h_s
theorem kept_coreResetEscalate {A : Nat} {s0 : State} {s : Sys2Proof.Machine.State} {k : Nat} {p : Nat} (h_s : Kept A s0 s) (hA : 1360041565094102548364856 ||| A = A) :
    Kept A s0 (coreResetEscalate s k p) := by
  unfold coreResetEscalate
  refine Kept.ite ?_ ?_
  · exact h_s
  · split
    · refine kept_engineReset ?_ (mask_sub (by decide) hA)
      · refine kept_escalated ?_ (mask_sub (by decide) hA)
        · exact h_s
    · refine Kept.ite ?_ ?_
      · exact h_s
      · refine kept_engineReset ?_ (mask_sub (by decide) hA)
        · refine kept_escalated ?_ (mask_sub (by decide) hA)
          · exact h_s
theorem kept_execCoreResetEscalate {A : Nat} {s0 : State} {k : Sys2Proof.ClusterId} {p : Sys2Proof.CoreId} {s : Sys2Proof.Machine.State} (h_s : Kept A s0 s) (hA : 1360041565094102548364856 ||| A = A) :
    KeptO A s0 (execCoreResetEscalate k p s) := by
  unfold execCoreResetEscalate
  refine KeptO.next ?_
  refine kept_coreResetEscalate ?_ (mask_sub (by decide) hA)
  · exact h_s
theorem kept_execCommandExpire {A : Nat} {s0 : State} {k : Sys2Proof.ClusterId} {p : Sys2Proof.CoreId} {ending : Bool} {s : Sys2Proof.Machine.State} (h_s : Kept A s0 s) (hA : 18031990963963448 ||| A = A) :
    KeptO A s0 (execCommandExpire k p ending s) := by
  unfold execCommandExpire
  refine KeptO.next ?_
  refine kept_commandExpire ?_ (mask_sub (by decide) hA)
  · exact h_s
theorem kept_execPartitionResetEscalate {A : Nat} {s0 : State} {r : Sys2Proof.RegionId} {s : Sys2Proof.Machine.State} (h_s : Kept A s0 s) (hA : 8613596752997871883926072 ||| A = A) :
    KeptO A s0 (execPartitionResetEscalate r s) := by
  unfold execPartitionResetEscalate
  refine KeptO.next ?_
  refine kept_partitionResetEscalate ?_ (mask_sub (by decide) hA)
  · exact h_s
theorem kept_throttleTrace {A : Nat} {s0 : State} {s : Sys2Proof.Machine.State} {k : Nat} (h_s : Kept A s0 s) (hA : 18014398509483576 ||| A = A) :
    Kept A s0 (State.throttleTrace s k) := by
  unfold State.throttleTrace
  extract_lets -merge -useContext -underBinder x1
  refine kept_trace ?_ (mask_sub (by decide) hA)
  · exact h_s
theorem kept_driveThr {A : Nat} {s0 : State} {s : Sys2Proof.Machine.State} {r : Nat} (h_s : Kept A s0 s) (hA : 604462927826111143347768 ||| A = A) :
    Kept A s0 (State.driveThr s r) := by
  unfold State.driveThr
  extract_lets -merge -useContext -underBinder x1 x2 x3 x4 x5 x6 x7 x8 x9 x10 x11 x12 x13 x14
  have h9 : Kept A s0 x9 := by
    unfold x9
    refine kept_flag ?_ (mask_sub (by decide) hA)
    · refine kept_flag ?_ (mask_sub (by decide) hA)
      · refine kept_flag ?_ (mask_sub (by decide) hA)
        · exact h_s
  have h11 : Kept A s0 x11 := by
    unfold x11
    refine kept_hallAct ?_ (mask_sub (by decide) hA)
    · refine kept_wr ?_ (mask_sub (by decide) hA)
      · refine kept_wr ?_ (mask_sub (by decide) hA)
        · exact h9
  have h12 : Kept A s0 x12 := by
    unfold x12
    split
    · refine Kept.ite ?_ ?_
      · refine kept_count ?_ (mask_sub (by decide) hA)
        · exact h11
      · exact h11
    · exact h11
  have h13 : Kept A s0 x13 := by
    unfold x13
    refine kept_updThmOf ?_ (mask_sub (by decide) hA)
    · exact h12
  have h14 : Kept A s0 x14 := by
    unfold x14
    refine kept_each ?_ (fun _ _ h15 => ?_)
    · exact h13
    · refine kept_throttleTrace ?_ (mask_sub (by decide) hA)
      · exact h15
  clear_value x9 x11 x12 x13 x14
  refine Kept.ite ?_ ?_
  · exact h9
  · refine kept_raiseOnce ?_ (mask_sub (by decide) hA)
    · exact h14
theorem kept_setCap {A : Nat} {s0 : State} {s : Sys2Proof.Machine.State} {r : Nat} {lvl : Nat} (h_s : Kept A s0 s) (hA : 604462909807314587354648 ||| A = A) :
    Kept A s0 (State.setCap s r lvl) := by
  unfold State.setCap
  refine Kept.ite ?_ ?_
  · exact h_s
  · refine kept_raiseOnce ?_ (mask_sub (by decide) hA)
    · refine kept_updThmOf ?_ (mask_sub (by decide) hA)
      · exact h_s
theorem kept_ladderRelease {A : Nat} {s0 : State} {s : Sys2Proof.Machine.State} {r : Nat} {l : Sys2Proof.Ladder} (h_s : Kept A s0 s) (hA : 604462927826111143347768 ||| A = A) :
    Kept A s0 (ladderRelease s r l) := by
  unfold ladderRelease
  extract_lets -merge -useContext -underBinder x1
  split
  · refine Kept.ite ?_ ?_
    · exact h_s
    · refine kept_driveThr ?_ (mask_sub (by decide) hA)
      · refine kept_updThmOf ?_ (mask_sub (by decide) hA)
        · exact h_s
  · refine Kept.ite ?_ ?_
    · exact h_s
    · refine kept_driveThr ?_ (mask_sub (by decide) hA)
      · refine kept_setCap ?_ (mask_sub (by decide) hA)
        · exact h_s
theorem kept_shutterReturn {A : Nat} {s0 : State} {s : Sys2Proof.Machine.State} {r : Nat} (h_s : Kept A s0 s) (hA : 6827227996402771448709112 ||| A = A) :
    Kept A s0 (shutterReturn s r) := by
  unfold shutterReturn
  extract_lets -merge -useContext -underBinder x1 x2
  have h1 : Kept A s0 x1 := by
    unfold x1
    refine kept_updThmOf ?_ (mask_sub (by decide) hA)
    · refine kept_clearTrips ?_ (mask_sub (by decide) hA)
      · exact h_s
  clear_value x1
  refine Kept.ite ?_ ?_
  · exact h_s
  · refine Kept.ite ?_ ?_
    · exact h1
    · refine kept_startPart ?_ (mask_sub (by decide) hA)
      · exact h1
theorem kept_throttleAckTimeout {A : Nat} {s0 : State} {s : Sys2Proof.Machine.State} {r : Nat} (h_s : Kept A s0 s) (hA : 1560 ||| A = A) :
    Kept A s0 (throttleAckTimeout s r) := by
  unfold throttleAckTimeout
  extract_lets -merge -useContext -underBinder x1 x2 x3
  refine Kept.ite ?_ ?_
  · exact h_s
  · refine kept_raiseOnce ?_ (mask_sub (by decide) hA)
    · refine kept_flag ?_ (mask_sub (by decide) hA)
      · exact h_s
theorem kept_multUp {A : Nat} {s0 : State} {s : Sys2Proof.Machine.State} {i : Nat} (h_s : Kept A s0 s) (hA : 1560 ||| A = A) :
    Kept A s0 (State.multUp s i) := by
  unfold State.multUp
  extract_lets -merge -useContext -underBinder x1
  refine Kept.ite ?_ ?_
  · refine Kept.ite ?_ ?_
    · refine kept_setMult ?_ (mask_sub (by decide) hA)
      · exact h_s
    · exact h_s
  · exact h_s
theorem kept_regionThm {A : Nat} {s0 : State} {s : Sys2Proof.Machine.State} {r : Nat} (h_s : Kept A s0 s) (hA : 1971883172522054670106424 ||| A = A) :
    Kept A s0 (State.regionThm s r) := by
  unfold State.regionThm
  extract_lets -merge -useContext -underBinder x1 x2 x3 x4 x5 x6 x7 x8 x9 x10 x11 x12 x13
  have h6 : Kept A s0 x6 := by
    unfold x6
    refine kept_wr ?_ (mask_sub (by decide) hA)
    · exact h_s
  have h7 : Kept A s0 x7 := by
    unfold x7
    refine Kept.ite ?_ ?_
    · refine kept_raise ?_ (mask_sub (by decide) hA)
      · exact h6
    · exact h6
  have h8 : Kept A s0 x8 := by
    unfold x8
    refine kept_updThmOf ?_ (mask_sub (by decide) hA)
    · exact h7
  have h9 : Kept A s0 x9 := by
    unfold x9
    refine kept_wr ?_ (mask_sub (by decide) hA)
    · exact h8
  have h11 : Kept A s0 x11 := by
    unfold x11
    refine Kept.ite ?_ ?_
    · refine kept_raise ?_ (mask_sub (by decide) hA)
      · exact h9
    · refine kept_raiseOnce ?_ (mask_sub (by decide) hA)
      · exact h9
  have h12 : Kept A s0 x12 := by
    unfold x12
    refine Kept.ite ?_ ?_
    · refine kept_stpAbandonRegion ?_ (mask_sub (by decide) hA)
      · exact h11
    · exact h11
  have h13 : Kept A s0 x13 := by
    unfold x13
    refine Kept.ite ?_ ?_
    · exact h8
    · refine Kept.ite ?_ ?_
      · refine kept_updThmOf ?_ (mask_sub (by decide) hA)
        · exact h12
      · exact h12
  clear_value x6 x7 x8 x9 x11 x12 x13
  refine kept_emergCheck ?_ (mask_sub (by decide) hA)
  · refine kept_driveThr ?_ (mask_sub (by decide) hA)
    · exact h13
theorem kept_sensorBreak {A : Nat} {s0 : State} {s : Sys2Proof.Machine.State} {i : Nat} {reason : Nat} (h_s : Kept A s0 s) (hA : 302231454903657293678104 ||| A = A) :
    Kept A s0 (State.sensorBreak s i reason) := by
  unfold State.sensorBreak
  extract_lets -merge -useContext -underBinder x1
  refine kept_multUp ?_ (mask_sub (by decide) hA)
  · refine kept_raise ?_ (mask_sub (by decide) hA)
    · refine kept_updSensor ?_ (mask_sub (by decide) hA)
      · exact h_s
theorem kept_analogueRecheck {A : Nat} {s0 : State} {s : Sys2Proof.Machine.State} {part : Sys2Proof.Analogue} {x : Sys2Proof.AnaResult} (h_s : Kept A s0 s) (hA : 2311893559288669125492536 ||| A = A) :
    Kept A s0 (analogueRecheck s part x) := by
  unfold analogueRecheck
  extract_lets -merge -useContext -underBinder x1 x2 x3 x4
  have h3 : Kept A s0 x3 := by
    unfold x3
    refine Kept.u_ana ?_ (mask_sub (by decide) hA)
    exact h_s
  have h4 : Kept A s0 x4 := by
    unfold x4
    refine kept_stpFailed ?_ (mask_sub (by decide) hA)
    · exact h3
  clear_value x3 x4
  refine Kept.ite ?_ ?_
  · exact h_s
  · refine Kept.ite ?_ ?_
    · exact h3
    · split
      · extract_lets -merge -useContext -underBinder x5
        refine Kept.ite ?_ ?_
        · exact h4
        · refine kept_regionThm ?_ (mask_sub (by decide) hA)
          · refine kept_sensorBreak ?_ (mask_sub (by decide) hA)
            · exact h4
      · refine kept_updHall ?_ (mask_sub (by decide) hA)
        · exact h4
      · exact h4
theorem kept_ladderDeepen {A : Nat} {s0 : State} {s : Sys2Proof.Machine.State} {r : Nat} {l : Sys2Proof.Ladder} (h_s : Kept A s0 s) (hA : 604462927826111143347768 ||| A = A) :
    Kept A s0 (ladderDeepen s r l) := by
  unfold ladderDeepen
  extract_lets -merge -useContext -underBinder x1 x2
  split
  · refine Kept.ite ?_ ?_
    · refine kept_driveThr ?_ (mask_sub (by decide) hA)
      · refine kept_updThmOf ?_ (mask_sub (by decide) hA)
        · exact h_s
    · exact h_s
  · refine Kept.ite ?_ ?_
    · refine kept_driveThr ?_ (mask_sub (by decide) hA)
      · refine kept_setCap ?_ (mask_sub (by decide) hA)
        · exact h_s
    · exact h_s
theorem kept_shutRegion {A : Nat} {s0 : State} {s : Sys2Proof.Machine.State} {r : Nat} {cause : Nat} (h_s : Kept A s0 s) (hA : 1972035646417528272731960 ||| A = A) :
    Kept A s0 (State.shutRegion s r cause) := by
  unfold State.shutRegion
  extract_lets -merge -useContext -underBinder x1 x2 x3 x4 x5 x6 x7 x8 x9 x10 x11
  have h2 : Kept A s0 x2 := by
    unfold x2
    refine kept_hallAct ?_ (mask_sub (by decide) hA)
    · refine kept_updHall ?_ (mask_sub (by decide) hA)
      · exact h_s
  have h3 : Kept A s0 x3 := by
    unfold x3
    refine kept_closeGates ?_ (mask_sub (by decide) hA)
    · refine kept_driveThr ?_ (mask_sub (by decide) hA)
      · exact h2
  have h4 : Kept A s0 x4 := by
    unfold x4
    refine kept_quietRegion ?_ (mask_sub (by decide) hA)
    · exact h3
  have h5 : Kept A s0 x5 := by
    unfold x5
    refine kept_each ?_ (fun _ _ h18 => ?_)
    · exact h4
    · extract_lets -merge -useContext -underBinder x19
      refine kept_raise ?_ (mask_sub (by decide) hA)
      · refine kept_killCtx ?_ (mask_sub (by decide) hA)
        · exact h18
  have h6 : Kept A s0 x6 := by
    unfold x6
    refine kept_absorbToward ?_ (mask_sub (by decide) hA)
    · exact h5
  have h7 : Kept A s0 x7 := by
    unfold x7
    refine kept_each ?_ (fun _ _ h17 => ?_)
    · exact h6
    · refine kept_updCel ?_ (mask_sub (by decide) hA)
      · exact h17
  have h8 : Kept A s0 x8 := by
    unfold x8
    refine kept_each ?_ (fun _ _ h13 => ?_)
    · exact h7
    · extract_lets -merge -useContext -underBinder x14 x15
      have h14 : Kept A s0 x14 := by
        unfold x14
        refine kept_each ?_ (fun _ _ h16 => ?_)
        · exact h13
        · refine kept_loseCommand ?_ (mask_sub (by decide) hA)
          · exact h16
      have h15 : Kept A s0 x15 := by
        unfold x15
        refine kept_updReplayOf ?_ (mask_sub (by decide) hA)
        · refine kept_updRplOf ?_ (mask_sub (by decide) hA)
          · exact h14
      clear_value x14 x15
      refine Kept.u_hangs ?_ (mask_sub (by decide) hA)
      exact h15
  have h9 : Kept A s0 x9 := by
    unfold x9
    refine kept_each ?_ (fun _ _ h12 => ?_)
    · exact h8
    · refine kept_updDoor ?_ (mask_sub (by decide) hA)
      · exact h12
  have h10 : Kept A s0 x10 := by
    unfold x10
    refine kept_updThmOf ?_ (mask_sub (by decide) hA)
    · refine kept_count ?_ (mask_sub (by decide) hA)
      · refine kept_wr ?_ (mask_sub (by decide) hA)
        · refine kept_flag ?_ (mask_sub (by decide) hA)
          · exact h9
  have h11 : Kept A s0 x11 := by
    unfold x11
    refine kept_raise ?_ (mask_sub (by decide) hA)
    · exact h10
  clear_value x2 x3 x4 x5 x6 x7 x8 x9 x10 x11
  refine Kept.ite ?_ ?_
  · exact h_s
  · refine kept_emergCheck ?_ (mask_sub (by decide) hA)
    · refine kept_notifyRegion ?_ (mask_sub (by decide) hA)
      · refine kept_shutUnits ?_ (mask_sub (by decide) hA)
        · exact h11
theorem kept_limitTrip {A : Nat} {s0 : State} {s : Sys2Proof.Machine.State} {r : Nat} {l : Sys2Proof.Limit} {measured : Nat} (h_s : Kept A s0 s) (hA : 1972035646417528272731960 ||| A = A) :
    Kept A s0 (limitTrip s r l measured) := by
  unfold limitTrip
  extract_lets -merge -useContext -underBinder x1 x2 x3 x4 x5 x6 x7
  have h6 : Kept A s0 x6 := by
    unfold x6
    refine kept_count ?_ (mask_sub (by decide) hA)
    · refine kept_updThmOf ?_ (mask_sub (by decide) hA)
      · exact h_s
  have h7 : Kept A s0 x7 := by
    unfold x7
    refine kept_emergCheck ?_ (mask_sub (by decide) hA)
    · refine kept_driveThr ?_ (mask_sub (by decide) hA)
      · refine kept_raise ?_ (mask_sub (by decide) hA)
        · exact h6
  clear_value x6 x7
  refine Kept.ite ?_ ?_
  · exact h_s
  · refine Kept.ite ?_ ?_
    · exact h7
    · refine kept_shutRegion ?_ (mask_sub (by decide) hA)
      · exact h7
theorem kept_sensorPass {A : Nat} {s0 : State} {s : Sys2Proof.Machine.State} {i : Nat} (h_s : Kept A s0 s) (hA : 2274114627425711963782968 ||| A = A) :
    Kept A s0 (State.sensorPass s i) := by
  unfold State.sensorPass
  extract_lets -merge -useContext -underBinder x1 x2
  have h2 : Kept A s0 x2 := by
    unfold x2
    refine kept_updSensor ?_ (mask_sub (by decide) hA)
    · exact h_s
  clear_value x2
  refine Kept.ite ?_ ?_
  · exact h_s
  · refine Kept.ite ?_ ?_
    · refine kept_updSensor ?_ (mask_sub (by decide) hA)
      · exact h_s
    · refine kept_regionThm ?_ (mask_sub (by decide) hA)
      · refine kept_raise ?_ (mask_sub (by decide) hA)
        · exact h2
theorem kept_analogueCheck {A : Nat} {s0 : State} {s : Sys2Proof.Machine.State} {part : Sys2Proof.Analogue} {x : Sys2Proof.AnaResult} (h_s : Kept A s0 s) (hA : 2311893559288669125492536 ||| A = A) :
    Kept A s0 (analogueCheck s part x) := by
  unfold analogueCheck
  extract_lets -merge -useContext -underBinder x1 x2
  have h2 : Kept A s0 x2 := by
    unfold x2
    refine Kept.u_ana ?_ (mask_sub (by decide) hA)
    exact h_s
  clear_value x2
  refine Kept.ite ?_ ?_
  · exact h_s
  · refine Kept.ite ?_ ?_
    · split
      · refine kept_sensorPass ?_ (mask_sub (by decide) hA)
        · exact h_s
      · exact h_s
    · split
      · refine kept_updSensor ?_ (mask_sub (by decide) hA)
        · exact h2
      · exact h2
theorem kept_execAnalogueCheck {A : Nat} {s0 : State} {part : Sys2Proof.Analogue} {res : Sys2Proof.AnaResult} {s : Sys2Proof.Machine.State} (h_s : Kept A s0 s) (hA : 2311893559288669125492536 ||| A = A) :
    KeptO A s0 (execAnalogueCheck part res s) := by
  unfold execAnalogueCheck
  refine KeptO.next ?_
  refine kept_analogueCheck ?_ (mask_sub (by decide) hA)
  · exact h_s
theorem kept_powerEstimate {A : Nat} {s0 : State} {s : Sys2Proof.Machine.State} {r : Nat} (h_s : Kept A s0 s) (hA : 604462927826111143347768 ||| A = A) :
    Kept A s0 (powerEstimate s r) := by
  unfold powerEstimate
  split
  · exact h_s
  · extract_lets -merge -useContext -underBinder x1 x2 x3 x4 x5 x6 x7 x8 x9 x10 x11 x12
    have h12 : Kept A s0 x12 := by
      unfold x12
      refine kept_updThmOf ?_ (mask_sub (by decide) hA)
      · refine kept_wr ?_ (mask_sub (by decide) hA)
        · exact h_s
    clear_value x12
    refine Kept.ite ?_ ?_
    · exact h_s
    · refine Kept.ite ?_ ?_
      · refine kept_driveThr ?_ (mask_sub (by decide) hA)
        · refine kept_setCap ?_ (mask_sub (by decide) hA)
          · exact h12
      · exact h12
theorem kept_execPowerEstimate {A : Nat} {s0 : State} {r : Sys2Proof.RegionId} {s : Sys2Proof.Machine.State} (h_s : Kept A s0 s) (hA : 604462927826111143347768 ||| A = A) :
    KeptO A s0 (execPowerEstimate r s) := by
  unfold execPowerEstimate
  refine KeptO.next ?_
  refine kept_powerEstimate ?_ (mask_sub (by decide) hA)
  · exact h_s
theorem kept_execLadderRelease {A : Nat} {s0 : State} {r : Sys2Proof.RegionId} {l : Sys2Proof.Ladder} {s : Sys2Proof.Machine.State} (h_s : Kept A s0 s) (hA : 604462927826111143347768 ||| A = A) :
    KeptO A s0 (execLadderRelease r l s) := by
  unfold execLadderRelease
  refine KeptO.next ?_
  refine kept_ladderRelease ?_ (mask_sub (by decide) hA)
  · exact h_s
theorem kept_tighten {A : Nat} {s0 : State} {s : Sys2Proof.Machine.State} {F : Sys2Proof.Fld} {n : Nat} {new : Nat} (h_s : Kept A s0 s) (hA : 536 ||| A = A) :
    Kept A s0 (State.tighten s F n new) := by
  unfold State.tighten
  refine kept_wr ?_ (mask_sub (by decide) hA)
  · refine kept_raise ?_ (mask_sub (by decide) hA)
    · exact h_s
theorem kept_clockRatioPersist {A : Nat} {s0 : State} {s : Sys2Proof.Machine.State} {r : Nat} {count : Nat} (h_s : Kept A s0 s) (hA : 1972035646417528272731960 ||| A = A) :
    Kept A s0 (clockRatioPersist s r count) := by
  unfold clockRatioPersist
  refine Kept.ite ?_ ?_
  · refine kept_shutRegion ?_ (mask_sub (by decide) hA)
    · refine kept_updThmOf ?_ (mask_sub (by decide) hA)
      · exact h_s
  · exact h_s
theorem kept_limitTighten {A : Nat} {s0 : State} {s : Sys2Proof.Machine.State} {off : Nat} {data : Nat} (h_s : Kept A s0 s) (hA : 2274267101321185566408504 ||| A = A) :
    Kept A s0 (limitTighten s off data) := by
  unfold limitTighten
  extract_lets -merge -useContext -underBinder x1 x2 x3 x4 x5 x6 x7
  have h2 : Kept A s0 x2 := by
    unfold x2
    refine kept_tighten ?_ (mask_sub (by decide) hA)
    · exact h_s
  have h6 : Kept A s0 x6 := by
    unfold x6
    refine Kept.ite ?_ ?_
    · refine kept_tighten ?_ (mask_sub (by decide) hA)
      · exact h_s
    · exact h_s
  clear_value x2 x6
  refine Kept.ite ?_ ?_
  · refine Kept.ite ?_ ?_
    · refine kept_each ?_ (fun _ _ h8 => ?_)
      · exact h2
      · extract_lets -merge -useContext -underBinder x9
        have h9 : Kept A s0 x9 := by
          unfold x9
          refine kept_each ?_ (fun _ _ h10 => ?_)
          · exact h8
          · refine Kept.ite ?_ ?_
            · refine kept_multUp ?_ (mask_sub (by decide) hA)
              · refine kept_updSensor ?_ (mask_sub (by decide) hA)
                · exact h10
            · exact h10
        clear_value x9
        refine kept_limitTrip ?_ (mask_sub (by decide) hA)
        · refine kept_regionThm ?_ (mask_sub (by decide) hA)
          · exact h9
    · exact h_s
  · refine Kept.ite ?_ ?_
    · refine Kept.ite ?_ ?_
      · refine kept_tighten ?_ (mask_sub (by decide) hA)
        · exact h6
      · exact h6
    · refine Kept.ite ?_ ?_
      · refine Kept.ite ?_ ?_
        · refine kept_tighten ?_ (mask_sub (by decide) hA)
          · exact h_s
        · exact h_s
      · exact h_s
theorem kept_sensorReading {A : Nat} {s0 : State} {s : Sys2Proof.Machine.State} {f : Nat} {i : Nat} {raw : Nat} (h_s : Kept A s0 s) (hA : 2274114627425711963782968 ||| A = A) :
    Kept A s0 (sensorReading s f i raw) := by
  unfold sensorReading
  extract_lets -merge -useContext -underBinder x1 x2 x3 x4 x5 x6 x7
  have h5 : Kept A s0 x5 := by
    unfold x5
    split
    · extract_lets -merge -useContext -underBinder x8
      have h8 : Kept A s0 x8 := by
        unfold x8
        refine kept_updSensor ?_ (mask_sub (by decide) hA)
        · exact h_s
      clear_value x8
      refine Kept.ite ?_ ?_
      · refine kept_sensorBreak ?_ (mask_sub (by decide) hA)
        · exact h8
      · exact h8
    · extract_lets -merge -useContext -underBinder x9 x10 x11
      have h10 : Kept A s0 x10 := by
        unfold x10
        refine kept_updSensor ?_ (mask_sub (by decide) hA)
        · exact h_s
      clear_value x10
      refine Kept.ite ?_ ?_
      · refine Kept.ite ?_ ?_
        · refine kept_updSensor ?_ (mask_sub (by decide) hA)
          · exact h10
        · exact h10
      · refine Kept.ite ?_ ?_
        · refine kept_sensorBreak ?_ (mask_sub (by decide) hA)
          · exact h10
        · refine Kept.ite ?_ ?_
          · refine kept_sensorBreak ?_ (mask_sub (by decide) hA)
            · exact h10
          · exact h10
  have h6 : Kept A s0 x6 := by
    unfold x6
    refine kept_multUp ?_ (mask_sub (by decide) hA)
    · exact h5
  have h7 : Kept A s0 x7 := by
    unfold x7
    refine Kept.ite ?_ ?_
    · refine kept_throttleTrace ?_ (mask_sub (by decide) hA)
      · exact h6
    · exact h6
  clear_value x5 x6 x7
  refine Kept.ite ?_ ?_
  · exact h_s
  · refine kept_regionThm ?_ (mask_sub (by decide) hA)
    · exact h7
end Sys2Proof.Machine
end

