-- ==== Sys2Proof/Laws/Kept4.lean ====
section
/-! SUPPORT. What every operation on the state keeps, part 5: callees come before their callers. -/
namespace Sys2Proof.Machine
open Sys2Proof Host
theorem kept_execAnalogueRecheck {A : Nat} {s0 : State} {part : Sys2Proof.Analogue} {res : Sys2Proof.AnaResult} {s : Sys2Proof.Machine.State} (h_s : Kept A s0 s) (hA : 2311893559288669125492536 ||| A = A) :
    KeptO A s0 (execAnalogueRecheck part res s) := by
  unfold execAnalogueRecheck
  refine KeptO.next ?_
  refine kept_analogueRecheck ?_ (mask_sub (by decide) hA)
  · exact h_s
theorem kept_execShutterReturn {A : Nat} {s0 : State} {r : Sys2Proof.RegionId} {s : Sys2Proof.Machine.State} (h_s : Kept A s0 s) (hA : 6827227996402771448709112 ||| A = A) :
    KeptO A s0 (execShutterReturn r s) := by
  unfold execShutterReturn
  refine KeptO.next ?_
  refine kept_shutterReturn ?_ (mask_sub (by decide) hA)
  · exact h_s
theorem kept_execSensorReading {A : Nat} {s0 : State} {f : Sys2Proof.FieldId} {i : Fin 16} {raw : BitVec 16} {s : Sys2Proof.Machine.State} (h_s : Kept A s0 s) (hA : 2274114627425711963782968 ||| A = A) :
    KeptO A s0 (execSensorReading f i raw s) := by
  unfold execSensorReading
  refine KeptO.next ?_
  refine kept_sensorReading ?_ (mask_sub (by decide) hA)
  · exact h_s
theorem kept_execThrottleAck {A : Nat} {s0 : State} {r : Sys2Proof.RegionId} {s : Sys2Proof.Machine.State} (h_s : Kept A s0 s) (hA : 604462909807314587353088 ||| A = A) :
    KeptO A s0 (execThrottleAck r s) := by
  unfold execThrottleAck
  refine KeptO.next ?_
  refine kept_updThmOf ?_ (mask_sub (by decide) hA)
  · exact h_s
theorem kept_execLimitTrip {A : Nat} {s0 : State} {r : Sys2Proof.RegionId} {l : Sys2Proof.Limit} {measured : Nat} {s : Sys2Proof.Machine.State} (h_s : Kept A s0 s) (hA : 1972035646417528272731960 ||| A = A) :
    KeptO A s0 (execLimitTrip r l measured s) := by
  unfold execLimitTrip
  refine KeptO.next ?_
  refine kept_limitTrip ?_ (mask_sub (by decide) hA)
  · exact h_s
theorem kept_execThrottleAckTimeout {A : Nat} {s0 : State} {r : Sys2Proof.RegionId} {s : Sys2Proof.Machine.State} (h_s : Kept A s0 s) (hA : 1560 ||| A = A) :
    KeptO A s0 (execThrottleAckTimeout r s) := by
  unfold execThrottleAckTimeout
  refine KeptO.next ?_
  refine kept_throttleAckTimeout ?_ (mask_sub (by decide) hA)
  · exact h_s
theorem kept_execClockRatioPersist {A : Nat} {s0 : State} {r : Sys2Proof.RegionId} {count : Nat} {s : Sys2Proof.Machine.State} (h_s : Kept A s0 s) (hA : 1972035646417528272731960 ||| A = A) :
    KeptO A s0 (execClockRatioPersist r count s) := by
  unfold execClockRatioPersist
  refine KeptO.next ?_
  refine kept_clockRatioPersist ?_ (mask_sub (by decide) hA)
  · exact h_s
theorem kept_execLadderDeepen {A : Nat} {s0 : State} {r : Sys2Proof.RegionId} {l : Sys2Proof.Ladder} {s : Sys2Proof.Machine.State} (h_s : Kept A s0 s) (hA : 604462927826111143347768 ||| A = A) :
    KeptO A s0 (execLadderDeepen r l s) := by
  unfold execLadderDeepen
  refine KeptO.next ?_
  refine kept_ladderDeepen ?_ (mask_sub (by decide) hA)
  · exact h_s
theorem kept_setValid {A : Nat} {s0 : State} {s : Sys2Proof.Machine.State} {i : Nat} {b : Bool} (h_s : Kept A s0 s) (hA : 151115727451828646838272 ||| A = A) :
    Kept A s0 (State.setValid s i b) := by
  unfold State.setValid
  extract_lets -merge -useContext -underBinder x1 x2
  refine Kept.u_fw ?_ (mask_sub (by decide) hA)
  exact h_s
theorem kept_bundleVerify {A : Nat} {s0 : State} {s : Sys2Proof.Machine.State} {hostImage : Bool} (h_s : Kept A s0 s) (hA : 226675032329623728818712 ||| A = A) :
    Kept A s0 (bundleVerify s hostImage) := by
  unfold bundleVerify
  extract_lets -merge -useContext -underBinder x1 x2 x3 x4 x5 x6 x7 x8 x9 x10 x11 x12 x13
  have h2 : Kept A s0 x2 := by
    unfold x2
    refine Kept.u_dl ?_ (mask_sub (by decide) hA)
    exact h_s
  have h6 : Kept A s0 x6 := by
    unfold x6
    refine kept_setValid ?_ (mask_sub (by decide) hA)
    · exact h2
  have h12 : Kept A s0 x12 := by
    unfold x12
    refine kept_wr ?_ (mask_sub (by decide) hA)
    · refine kept_wr ?_ (mask_sub (by decide) hA)
      · refine kept_setValid ?_ (mask_sub (by decide) hA)
        · exact h_s
  have h13 : Kept A s0 x13 := by
    unfold x13
    refine kept_wr ?_ (mask_sub (by decide) hA)
    · refine kept_wr ?_ (mask_sub (by decide) hA)
      · exact h_s
  clear_value x2 x6 x12 x13
  refine Kept.ite ?_ ?_
  · refine Kept.ite ?_ ?_
    · exact h_s
    · refine Kept.ite ?_ ?_
      · refine kept_workDone ?_ (mask_sub (by decide) hA)
        · refine Kept.u_fw ?_ (mask_sub (by decide) hA)
          exact h6
      · refine kept_workDone ?_ (mask_sub (by decide) hA)
        · refine kept_raise ?_ (mask_sub (by decide) hA)
          · exact h2
  · refine Kept.ite ?_ ?_
    · exact h_s
    · refine Kept.ite ?_ ?_
      · refine kept_workDone ?_ (mask_sub (by decide) hA)
        · refine kept_raise ?_ (mask_sub (by decide) hA)
          · exact h12
      · refine kept_workDone ?_ (mask_sub (by decide) hA)
        · refine kept_raise ?_ (mask_sub (by decide) hA)
          · exact h13
theorem kept_execBundleVerify {A : Nat} {s0 : State} {hostImage : Bool} {s : Sys2Proof.Machine.State} (h_s : Kept A s0 s) (hA : 226675032329623728818712 ||| A = A) :
    KeptO A s0 (execBundleVerify hostImage s) := by
  unfold execBundleVerify
  refine KeptO.next ?_
  refine kept_bundleVerify ?_ (mask_sub (by decide) hA)
  · exact h_s
theorem kept_updAct {A : Nat} {s0 : State} {s : Sys2Proof.Machine.State} {f : Sys2Proof.ActRun → Sys2Proof.ActRun} (h_s : Kept A s0 s) (hA : 151115727451828646838272 ||| A = A) :
    Kept A s0 (State.updAct s f) := by
  unfold State.updAct
  extract_lets -merge -useContext -underBinder x1
  refine Kept.u_fw ?_ (mask_sub (by decide) hA)
  exact h_s
theorem kept_showMixed {A : Nat} {s0 : State} {s : Sys2Proof.Machine.State} (h_s : Kept A s0 s) (hA : 8 ||| A = A) :
    Kept A s0 (State.showMixed s) := by
  unfold State.showMixed
  extract_lets -merge -useContext -underBinder x1
  refine kept_flag ?_ (mask_sub (by decide) hA)
  · exact h_s
theorem kept_actEnd {A : Nat} {s0 : State} {s : Sys2Proof.Machine.State} {a : Sys2Proof.ActRun} (h_s : Kept A s0 s) (hA : 151117168608107453233688 ||| A = A) :
    Kept A s0 (State.actEnd s a) := by
  unfold State.actEnd
  extract_lets -merge -useContext -underBinder x1 x2 x3 x4 x5
  have h3 : Kept A s0 x3 := by
    unfold x3
    refine Kept.u_fw ?_ (mask_sub (by decide) hA)
    exact h_s
  have h4 : Kept A s0 x4 := by
    unfold x4
    refine kept_flag ?_ (mask_sub (by decide) hA)
    · refine kept_wr ?_ (mask_sub (by decide) hA)
      · refine kept_wr ?_ (mask_sub (by decide) hA)
        · exact h3
  have h5 : Kept A s0 x5 := by
    unfold x5
    refine kept_showMixed ?_ (mask_sub (by decide) hA)
    · refine kept_showHold ?_ (mask_sub (by decide) hA)
      · refine kept_wr ?_ (mask_sub (by decide) hA)
        · exact h4
  clear_value x3 x4 x5
  refine Kept.ite ?_ ?_
  · refine kept_showMixed ?_ (mask_sub (by decide) hA)
    · refine kept_showHold ?_ (mask_sub (by decide) hA)
      · refine kept_wr ?_ (mask_sub (by decide) hA)
        · refine kept_wr ?_ (mask_sub (by decide) hA)
          · refine Kept.u_fw ?_ (mask_sub (by decide) hA)
            exact h_s
  · refine kept_workDone ?_ (mask_sub (by decide) hA)
    · refine kept_raise ?_ (mask_sub (by decide) hA)
      · exact h5
theorem kept_setCommon {A : Nat} {s0 : State} {s : Sys2Proof.Machine.State} {m : Nat} (h_s : Kept A s0 s) (hA : 8 ||| A = A) :
    Kept A s0 (State.setCommon s m) := by
  unfold State.setCommon
  refine kept_each ?_ (fun _ _ h1 => ?_)
  · exact h_s
  · refine kept_wr ?_ (mask_sub (by decide) hA)
    · exact h1
theorem kept_runVersion {A : Nat} {s0 : State} {s : Sys2Proof.Machine.State} (h_s : Kept A s0 s) (hA : 151116015682204798550552 ||| A = A) :
    Kept A s0 (State.runVersion s) := by
  unfold State.runVersion
  extract_lets -merge -useContext -underBinder x1 x2 x3 x4 x5 x6
  have h3 : Kept A s0 x3 := by
    unfold x3
    refine Kept.u_fw ?_ (mask_sub (by decide) hA)
    exact h_s
  have h4 : Kept A s0 x4 := by
    unfold x4
    refine kept_wr ?_ (mask_sub (by decide) hA)
    · refine kept_wr ?_ (mask_sub (by decide) hA)
      · exact h3
  clear_value x3 x4
  refine Kept.ite ?_ ?_
  · exact h4
  · refine kept_notify ?_ (mask_sub (by decide) hA)
    · refine kept_setCommon ?_ (mask_sub (by decide) hA)
      · exact h4
theorem kept_handover {A : Nat} {s0 : State} {s : Sys2Proof.Machine.State} (h_s : Kept A s0 s) (hA : 160561471480082329844280 ||| A = A) :
    Kept A s0 (State.handover s) := by
  unfold State.handover
  extract_lets -merge -useContext -underBinder x1 x2 x3 x4
  have h2 : Kept A s0 x2 := by
    unfold x2
    refine kept_assumeReign ?_ (mask_sub (by decide) hA)
    · exact h_s
  have h4 : Kept A s0 x4 := by
    unfold x4
    refine kept_flag ?_ (mask_sub (by decide) hA)
    · refine kept_stepDown ?_ (mask_sub (by decide) hA)
      · exact h2
  clear_value x2 x4
  refine kept_runVersion ?_ (mask_sub (by decide) hA)
  · refine kept_raise ?_ (mask_sub (by decide) hA)
    · refine kept_sendMirror ?_ (mask_sub (by decide) hA)
      · exact h4
theorem kept_actGo {A : Nat} {s0 : State} {s : State} {n : Nat} (h_s : Kept A s0 s) (hA : 160562624401586936691256 ||| A = A) :
    Kept A s0 (State.actGo s n) := by
  induction n generalizing s with
  | zero => exact h_s
  | succ n ih =>
    unfold State.actGo
    split
    · exact h_s
    · refine Kept.ite h_s ?_
      split
      · refine Kept.ite (kept_actEnd h_s (mask_sub (by decide) hA)) ?_
        exact ih (kept_updAct h_s (mask_sub (by decide) hA))
      · refine Kept.ite (ih (kept_updAct (Kept.ite (kept_handover h_s (mask_sub (by decide) hA)) h_s) (mask_sub (by decide) hA))) ?_
        extract_lets -merge -useContext -underBinder x1 x2 x3
        refine Kept.ite (ih (kept_updAct h_s (mask_sub (by decide) hA))) ?_
        refine kept_each (kept_updAct h_s (mask_sub (by decide) hA)) (fun _ _ h => ?_)
        exact kept_loadBegin h (mask_sub (by decide) hA)
theorem kept_activationResume {A : Nat} {s0 : State} {s : Sys2Proof.Machine.State} (h_s : Kept A s0 s) (hA : 160562624401586936691256 ||| A = A) :
    Kept A s0 (activationResume s) := by
  unfold activationResume
  split
  · exact h_s
  · split
    · exact h_s
    · extract_lets -merge -useContext -underBinder x1
      have h1 : Kept A s0 x1 := by
        unfold x1
        refine kept_updAct ?_ (mask_sub (by decide) hA)
        · refine kept_bump ?_ (mask_sub (by decide) hA)
          · exact h_s
      clear_value x1
      refine Kept.ite ?_ ?_
      · exact h_s
      · refine kept_actGo ?_ (mask_sub (by decide) hA)
        · refine kept_showHold ?_ (mask_sub (by decide) hA)
          · refine kept_wr ?_ (mask_sub (by decide) hA)
            · exact h1
theorem kept_rollback {A : Nat} {s0 : State} {s : Sys2Proof.Machine.State} {i : Nat} (h_s : Kept A s0 s) (hA : 160562624401586936691256 ||| A = A) :
    Kept A s0 (State.rollback s i) := by
  unfold State.rollback
  extract_lets -merge -useContext -underBinder x1 x2 x3 x4 x5 x6 x7 x8 x9 x10 x11
  have h5 : Kept A s0 x5 := by
    unfold x5
    refine kept_each ?_ (fun _ _ h12 => ?_)
    · exact h_s
    · refine Kept.ite ?_ ?_
      · refine kept_updProc ?_ (mask_sub (by decide) hA)
        · exact h12
      · exact h12
  have h6 : Kept A s0 x6 := by
    unfold x6
    refine kept_workDone ?_ (mask_sub (by decide) hA)
    · exact h5
  have h7 : Kept A s0 x7 := by
    unfold x7
    refine kept_setValid ?_ (mask_sub (by decide) hA)
    · exact h6
  have h9 : Kept A s0 x9 := by
    unfold x9
    refine Kept.u_fw ?_ (mask_sub (by decide) hA)
    exact h7
  have h10 : Kept A s0 x10 := by
    unfold x10
    refine kept_setValid ?_ (mask_sub (by decide) hA)
    · exact h9
  have h11 : Kept A s0 x11 := by
    unfold x11
    refine kept_wr ?_ (mask_sub (by decide) hA)
    · refine kept_wr ?_ (mask_sub (by decide) hA)
      · exact h10
  clear_value x5 x6 x7 x9 x10 x11
  refine kept_actGo ?_ (mask_sub (by decide) hA)
  · refine kept_raise ?_ (mask_sub (by decide) hA)
    · exact h11
theorem kept_processorWatchdog {A : Nat} {s0 : State} {s : Sys2Proof.Machine.State} {i : Nat} (h_s : Kept A s0 s) (hA : 1981482255132512363036472 ||| A = A) :
    Kept A s0 (processorWatchdog s i) := by
  unfold processorWatchdog
  extract_lets -merge -useContext -underBinder x1 x2 x3 x4 x5 x6 x7 x8 x9 x10
  have h3 : ∀ y3_0, Kept A s0 y3_0 → Kept A s0 (x3 y3_0) := by
    intro y3_0 h3_0
    unfold x3
    extract_lets -merge -useContext -underBinder x13
    have h13 : Kept A s0 x13 := by
      unfold x13
      refine kept_updProc ?_ (mask_sub (by decide) hA)
      · exact h3_0
    clear_value x13
    refine Kept.ite ?_ ?_
    · refine kept_updHall ?_ (mask_sub (by decide) hA)
      · exact h13
    · exact h13
  have h4 : Kept A s0 x4 := by
    unfold x4
    refine kept_updProc ?_ (mask_sub (by decide) hA)
    · exact h_s
  have h6 : Kept A s0 x6 := by
    unfold x6
    refine Kept.u_fw ?_ (mask_sub (by decide) hA)
    exact h4
  have h7 : Kept A s0 x7 := by
    unfold x7
    refine kept_updProc ?_ (mask_sub (by decide) hA)
    · exact h6
  have h8 : Kept A s0 x8 := by
    unfold x8
    refine kept_setUnit ?_ (mask_sub (by decide) hA)
    · refine kept_updHall ?_ (mask_sub (by decide) hA)
      · exact h7
  have h9 : ∀ y9_0, Kept A s0 y9_0 → Kept A s0 (x9 y9_0) := by
    intro y9_0 h9_0
    unfold x9
    split
    · extract_lets -merge -useContext -underBinder x11
      refine Kept.u_fw ?_ (mask_sub (by decide) hA)
      exact h9_0
    · extract_lets -merge -useContext -underBinder x12
      refine Kept.u_fw ?_ (mask_sub (by decide) hA)
      exact h9_0
  have h10 : Kept A s0 x10 := by
    unfold x10
    refine h9 _ ?_
    · refine kept_handover ?_ (mask_sub (by decide) hA)
      · exact h6
  clear_value x3 x4 x6 x7 x8 x9 x10
  refine Kept.ite ?_ ?_
  · exact h_s
  · refine Kept.ite ?_ ?_
    · refine h3 _ ?_
      · exact h6
    · refine Kept.ite ?_ ?_
      · refine kept_rollback ?_ (mask_sub (by decide) hA)
        · exact h6
      · refine Kept.ite ?_ ?_
        · refine kept_shutRegion ?_ (mask_sub (by decide) hA)
          · refine kept_raise ?_ (mask_sub (by decide) hA)
            · exact h8
        · refine Kept.ite ?_ ?_
          · refine kept_raise ?_ (mask_sub (by decide) hA)
            · refine kept_flag ?_ (mask_sub (by decide) hA)
              · refine h9 _ ?_
                · exact h6
          · refine Kept.ite ?_ ?_
            · refine kept_raise ?_ (mask_sub (by decide) hA)
              · refine kept_flag ?_ (mask_sub (by decide) hA)
                · refine kept_flag ?_ (mask_sub (by decide) hA)
                  · exact h10
            · refine kept_raise ?_ (mask_sub (by decide) hA)
              · refine h3 _ ?_
                · exact h6
theorem kept_execProcessorWatchdog {A : Nat} {s0 : State} {i : Sys2Proof.Byte} {s : Sys2Proof.Machine.State} (h_s : Kept A s0 s) (hA : 1981482255132512363036472 ||| A = A) :
    KeptO A s0 (execProcessorWatchdog i s) := by
  unfold execProcessorWatchdog
  refine KeptO.next ?_
  refine kept_processorWatchdog ?_ (mask_sub (by decide) hA)
  · exact h_s
theorem kept_actStart {A : Nat} {s0 : State} {s : Sys2Proof.Machine.State} (h_s : Kept A s0 s) (hA : 1369488444016216111397432 ||| A = A) :
    Kept A s0 (State.actStart s) := by
  unfold State.actStart
  extract_lets -merge -useContext -underBinder x1 x2 x3 x4 x5
  have h4 : Kept A s0 x4 := by
    unfold x4
    refine Kept.u_fw ?_ (mask_sub (by decide) hA)
    exact h_s
  have h5 : Kept A s0 x5 := by
    unfold x5
    refine kept_wr ?_ (mask_sub (by decide) hA)
    · refine kept_wr ?_ (mask_sub (by decide) hA)
      · refine kept_wr ?_ (mask_sub (by decide) hA)
        · exact h4
  clear_value x4 x5
  refine kept_actGo ?_ (mask_sub (by decide) hA)
  · refine kept_fwHold ?_ (mask_sub (by decide) hA)
    · refine kept_raise ?_ (mask_sub (by decide) hA)
      · exact h5
theorem kept_hallBack {A : Nat} {s0 : State} {s : Sys2Proof.Machine.State} {r : Nat} (h_s : Kept A s0 s) (hA : 6222765086595456861356024 ||| A = A) :
    Kept A s0 (State.hallBack s r) := by
  unfold State.hallBack
  extract_lets -merge -useContext -underBinder x1 x2 x3
  have h1 : Kept A s0 x1 := by
    unfold x1
    refine kept_updHall ?_ (mask_sub (by decide) hA)
    · exact h_s
  have h3 : Kept A s0 x3 := by
    unfold x3
    refine Kept.u_resetsDue ?_ (mask_sub (by decide) hA)
    exact h1
  clear_value x1 x3
  refine kept_each ?_ (fun _ _ h4 => ?_)
  · exact h3
  · refine kept_startPart ?_ (mask_sub (by decide) hA)
    · exact h4
theorem kept_processorSwitchDone {A : Nat} {s0 : State} {s : Sys2Proof.Machine.State} {i : Nat} {us : Nat} (h_s : Kept A s0 s) (hA : 6232211695310440951660536 ||| A = A) :
    Kept A s0 (processorSwitchDone s i us) := by
  unfold processorSwitchDone
  extract_lets -merge -useContext -underBinder x1 x2 x3 x4 x5 x6 x7 x8 x9
  have h2 : Kept A s0 x2 := by
    unfold x2
    refine kept_updProc ?_ (mask_sub (by decide) hA)
    · exact h_s
  have h3 : Kept A s0 x3 := by
    unfold x3
    refine kept_raiseOnce ?_ (mask_sub (by decide) hA)
    · exact h2
  have h4 : Kept A s0 x4 := by
    unfold x4
    refine Kept.ite ?_ ?_
    · refine kept_hallBack ?_ (mask_sub (by decide) hA)
      · exact h3
    · exact h3
  have h5 : Kept A s0 x5 := by
    unfold x5
    refine kept_showMixed ?_ (mask_sub (by decide) hA)
    · exact h4
  have h6 : Kept A s0 x6 := by
    unfold x6
    refine Kept.ite ?_ ?_
    · refine kept_runVersion ?_ (mask_sub (by decide) hA)
      · exact h5
    · exact h5
  have h7 : Kept A s0 x7 := by
    unfold x7
    refine Kept.ite ?_ ?_
    · refine kept_workDone ?_ (mask_sub (by decide) hA)
      · exact h6
    · exact h6
  have h8 : Kept A s0 x8 := by
    unfold x8
    refine kept_updAct ?_ (mask_sub (by decide) hA)
    · exact h7
  clear_value x2 x3 x4 x5 x6 x7 x8
  refine Kept.ite ?_ ?_
  · exact h_s
  · refine Kept.ite ?_ ?_
    · refine kept_actGo ?_ (mask_sub (by decide) hA)
      · refine kept_wr ?_ (mask_sub (by decide) hA)
        · exact h8
    · exact h7
theorem kept_trialClear {A : Nat} {s0 : State} {s : Sys2Proof.Machine.State} (h_s : Kept A s0 s) (hA : 151115727451828646838808 ||| A = A) :
    Kept A s0 (trialClear s) := by
  unfold trialClear
  extract_lets -merge -useContext -underBinder x1 x2
  have h2 : Kept A s0 x2 := by
    unfold x2
    refine Kept.u_fw ?_ (mask_sub (by decide) hA)
    exact h_s
  clear_value x2
  refine Kept.ite ?_ ?_
  · exact h_s
  · refine kept_raise ?_ (mask_sub (by decide) hA)
    · refine kept_wr ?_ (mask_sub (by decide) hA)
      · refine kept_flag ?_ (mask_sub (by decide) hA)
        · exact h2
theorem kept_execTrialClear {A : Nat} {s0 : State} {s : Sys2Proof.Machine.State} (h_s : Kept A s0 s) (hA : 151115727451828646838808 ||| A = A) :
    KeptO A s0 (execTrialClear s) := by
  unfold execTrialClear
  refine KeptO.next ?_
  refine kept_trialClear ?_ (mask_sub (by decide) hA)
  · exact h_s
theorem kept_execActivationResume {A : Nat} {s0 : State} {s : Sys2Proof.Machine.State} (h_s : Kept A s0 s) (hA : 160562624401586936691256 ||| A = A) :
    KeptO A s0 (execActivationResume s) := by
  unfold execActivationResume
  refine KeptO.next ?_
  refine kept_activationResume ?_ (mask_sub (by decide) hA)
  · exact h_s
theorem kept_processorLoadDone {A : Nat} {s0 : State} {s : Sys2Proof.Machine.State} {i : Nat} {sha : Nat} (h_s : Kept A s0 s) (hA : 151115727456226694674432 ||| A = A) :
    Kept A s0 (processorLoadDone s i sha) := by
  unfold processorLoadDone
  extract_lets -merge -useContext -underBinder x1 x2
  have h2 : Kept A s0 x2 := by
    unfold x2
    refine kept_updProc ?_ (mask_sub (by decide) hA)
    · refine kept_loadCopy ?_ (mask_sub (by decide) hA)
      · exact h_s
  clear_value x2
  refine Kept.ite ?_ ?_
  · exact h_s
  · refine Kept.ite ?_ ?_
    · exact h_s
    · refine Kept.ite ?_ ?_
      · refine kept_updHall ?_ (mask_sub (by decide) hA)
        · exact h2
      · exact h2
theorem kept_execProcessorLoadDone {A : Nat} {s0 : State} {i : Sys2Proof.Byte} {sha : BitVec 384} {s : Sys2Proof.Machine.State} (h_s : Kept A s0 s) (hA : 151115727456226694674432 ||| A = A) :
    KeptO A s0 (execProcessorLoadDone i sha s) := by
  unfold execProcessorLoadDone
  refine KeptO.next ?_
  refine kept_processorLoadDone ?_ (mask_sub (by decide) hA)
  · exact h_s
theorem kept_variantIn {A : Nat} {s0 : State} {s : Sys2Proof.Machine.State} {b : List Sys2Proof.Byte} (h_s : Kept A s0 s) (hA : 144115188075855880 ||| A = A) :
    Kept A s0 (State.variantIn s b) := by
  unfold State.variantIn
  extract_lets -merge -useContext -underBinder x1 x2 x3 x4
  have h2 : Kept A s0 x2 := by
    unfold x2
    refine Kept.u_variant ?_ (mask_sub (by decide) hA)
    exact h_s
  have h3 : Kept A s0 x3 := by
    unfold x3
    refine kept_wr ?_ (mask_sub (by decide) hA)
    · refine kept_wr ?_ (mask_sub (by decide) hA)
      · refine kept_wr ?_ (mask_sub (by decide) hA)
        · exact h2
  have h4 : Kept A s0 x4 := by
    unfold x4
    refine kept_wr ?_ (mask_sub (by decide) hA)
    · refine kept_wr ?_ (mask_sub (by decide) hA)
      · refine kept_wr ?_ (mask_sub (by decide) hA)
        · refine kept_wr ?_ (mask_sub (by decide) hA)
          · exact h3
  clear_value x2 x3 x4
  split
  · exact h4
  · refine kept_each ?_ (fun _ _ h5 => ?_)
    · exact h4
    · refine kept_wr ?_ (mask_sub (by decide) hA)
      · exact h5
theorem kept_calIn {A : Nat} {s0 : State} {s : Sys2Proof.Machine.State} {b : List Sys2Proof.Byte} (h_s : Kept A s0 s) (hA : 151115727451828646838280 ||| A = A) :
    Kept A s0 (State.calIn s b) := by
  unfold State.calIn
  extract_lets -merge -useContext -underBinder x1 x2
  have h1 : Kept A s0 x1 := by
    unfold x1
    refine kept_flag ?_ (mask_sub (by decide) hA)
    · exact h_s
  clear_value x1
  refine Kept.u_fw ?_ (mask_sub (by decide) hA)
  exact h1
theorem kept_recWrite {A : Nat} {s0 : State} {s : Sys2Proof.Machine.State} {variant : Bool} {b : List Sys2Proof.Byte} (h_s : Kept A s0 s) (hA : 72057594037927936 ||| A = A) :
    Kept A s0 (State.recWrite s variant b) := by
  unfold State.recWrite
  extract_lets -merge -useContext -underBinder x1
  refine kept_flashWrite ?_ (mask_sub (by decide) hA)
  · exact h_s
theorem kept_segWrite {A : Nat} {s0 : State} {s : Sys2Proof.Machine.State} {k : Nat} {x : Sys2Proof.TraceRec} (h_s : Kept A s0 s) (hA : 90076390595247672 ||| A = A) :
    Kept A s0 (State.segWrite s k x) := by
  unfold State.segWrite
  extract_lets -merge -useContext -underBinder x1 x2 x3
  have h3 : Kept A s0 x3 := by
    unfold x3
    refine kept_poke ?_ (mask_sub (by decide) hA)
    · refine kept_bulk ?_ (mask_sub (by decide) hA)
      · exact h_s
  clear_value x3
  refine Kept.ite ?_ ?_
  · refine kept_raiseOnce ?_ (mask_sub (by decide) hA)
    · refine kept_count ?_ (mask_sub (by decide) hA)
      · refine kept_updSeg ?_ (mask_sub (by decide) hA)
        · exact h_s
  · refine Kept.ite ?_ ?_
    · refine kept_updSeg ?_ (mask_sub (by decide) hA)
      · exact h3
    · refine Kept.ite ?_ ?_
      · refine kept_raiseOnce ?_ (mask_sub (by decide) hA)
        · refine kept_updSeg ?_ (mask_sub (by decide) hA)
          · exact h3
      · refine kept_updSeg ?_ (mask_sub (by decide) hA)
        · exact h3
theorem kept_traceWrite {A : Nat} {s0 : State} {s : Sys2Proof.Machine.State} {k : Nat} {accepted : Bool} (h_s : Kept A s0 s) (hA : 90076390595247672 ||| A = A) :
    Kept A s0 (traceWrite s k accepted) := by
  unfold traceWrite
  split
  · exact h_s
  · refine Kept.ite ?_ ?_
    · refine kept_segWrite ?_ (mask_sub (by decide) hA)
      · refine kept_updSeg ?_ (mask_sub (by decide) hA)
        · exact h_s
    · exact h_s
theorem kept_execTraceWrite {A : Nat} {s0 : State} {k : Sys2Proof.ClusterId} {accepted : Bool} {s : Sys2Proof.Machine.State} (h_s : Kept A s0 s) (hA : 90076390595247672 ||| A = A) :
    KeptO A s0 (execTraceWrite k accepted s) := by
  unfold execTraceWrite
  refine KeptO.next ?_
  refine Kept.ite ?_ ?_
  · exact h_s
  · refine kept_traceWrite ?_ (mask_sub (by decide) hA)
    · exact h_s
theorem kept_traceMark {A : Nat} {s0 : State} {s : Sys2Proof.Machine.State} {data : Nat} (h_s : Kept A s0 s) (hA : 18014398509483576 ||| A = A) :
    Kept A s0 (traceMark s data) := by
  unfold traceMark
  refine kept_each ?_ (fun _ _ h1 => ?_)
  · exact h_s
  · refine kept_trace ?_ (mask_sub (by decide) hA)
    · exact h1
theorem kept_counterConfigWrite {A : Nat} {s0 : State} {s : Sys2Proof.Machine.State} {k : Nat} {data : Nat} (h_s : Kept A s0 s) (hA : 9007199254741040 ||| A = A) :
    Kept A s0 (counterConfigWrite s k data) := by
  unfold counterConfigWrite
  extract_lets -merge -useContext -underBinder x1
  refine kept_zeroCnt ?_ (mask_sub (by decide) hA)
  · refine kept_updBankCfg ?_ (mask_sub (by decide) hA)
    · exact h_s
theorem kept_segFlush {A : Nat} {s0 : State} {s : Sys2Proof.Machine.State} {k : Nat} (h_s : Kept A s0 s) (hA : 90076390595247672 ||| A = A) :
    Kept A s0 (State.segFlush s k) := by
  unfold State.segFlush
  extract_lets -merge -useContext -underBinder x1
  refine kept_each ?_ (fun _ _ h2 => ?_)
  · refine kept_updSeg ?_ (mask_sub (by decide) hA)
    · exact h_s
  · refine kept_segWrite ?_ (mask_sub (by decide) hA)
    · exact h2
theorem kept_attributionBinWrite {A : Nat} {s0 : State} {s : Sys2Proof.Machine.State} {k : Nat} {data : Nat} (h_s : Kept A s0 s) (hA : 4503599627370504 ||| A = A) :
    Kept A s0 (attributionBinWrite s k data) := by
  unfold attributionBinWrite
  extract_lets -merge -useContext -underBinder x1 x2 x3 x4
  refine kept_each ?_ (fun _ _ h5 => ?_)
  · refine kept_flag ?_ (mask_sub (by decide) hA)
    · exact h_s
  · refine kept_updBin ?_ (mask_sub (by decide) hA)
    · exact h5
theorem kept_traceRestart {A : Nat} {s0 : State} {s : Sys2Proof.Machine.State} {data : Nat} (h_s : Kept A s0 s) (hA : 18014398509481984 ||| A = A) :
    Kept A s0 (traceRestart s data) := by
  unfold traceRestart
  refine Kept.ite ?_ ?_
  · refine Kept.u_segs ?_ (mask_sub (by decide) hA)
    exact h_s
  · exact h_s
theorem kept_loftWindowRead {A : Nat} {s0 : State} {s : Sys2Proof.Machine.State} (h_s : Kept A s0 s) (hA : 2056 ||| A = A) :
    Kept A s0 (loftWindowRead s) := by
  unfold loftWindowRead
  refine kept_emit ?_ (mask_sub (by decide) hA)
  · refine kept_wr ?_ (mask_sub (by decide) hA)
    · exact h_s
theorem kept_padRewrite {A : Nat} {s0 : State} {s : Sys2Proof.Machine.State} (h_s : Kept A s0 s) (hA : 2417851639229258349412352 ||| A = A) :
    Kept A s0 (State.padRewrite s) := by
  unfold State.padRewrite
  extract_lets -merge -useContext -underBinder x1
  refine Kept.u_pad ?_ (mask_sub (by decide) hA)
  exact h_s
theorem kept_optimeAdvance {A : Nat} {s0 : State} {s : Sys2Proof.Machine.State} (h_s : Kept A s0 s) (hA : 2417851675258055368376320 ||| A = A) :
    Kept A s0 (optimeAdvance s) := by
  unfold optimeAdvance
  extract_lets -merge -useContext -underBinder x1
  refine kept_padRewrite ?_ (mask_sub (by decide) hA)
  · refine Kept.u_attic ?_ ?_ (mask_sub (by decide) hA)
    · exact h_s
    · exact Nat.le_refl _
theorem kept_execOptimeAdvance {A : Nat} {s0 : State} {s : Sys2Proof.Machine.State} (h_s : Kept A s0 s) (hA : 2417851675258055368376320 ||| A = A) :
    KeptO A s0 (execOptimeAdvance s) := by
  unfold execOptimeAdvance
  refine KeptO.next ?_
  refine kept_optimeAdvance ?_ (mask_sub (by decide) hA)
  · exact h_s
theorem kept_ownTold {A : Nat} {s0 : State} {s : Sys2Proof.Machine.State} {code : Nat} (h_s : Kept A s0 s) (hA : 2048 ||| A = A) :
    Kept A s0 (State.ownTold s code) := by
  unfold State.ownTold
  refine kept_emits ?_ (mask_sub (by decide) hA)
  · exact h_s
theorem kept_mgmtFill {A : Nat} {s0 : State} {s : Sys2Proof.Machine.State} (h_s : Kept A s0 s) (hA : 1152921504606846976 ||| A = A) :
    Kept A s0 (State.mgmtFill s) := by
  unfold State.mgmtFill
  extract_lets -merge -useContext -underBinder x1 x2 x3 x4
  refine Kept.ite ?_ ?_
  · exact h_s
  · refine Kept.u_mgt ?_ (mask_sub (by decide) hA)
    exact h_s
theorem kept_mgmtPut {A : Nat} {s0 : State} {s : Sys2Proof.Machine.State} {x : Sys2Proof.Rpt} {head : optParam Bool Bool.false} (h_s : Kept A s0 s) (hA : 1152921504606848568 ||| A = A) :
    Kept A s0 (State.mgmtPut s x head) := by
  unfold State.mgmtPut
  extract_lets -merge -useContext -underBinder x1 x2 x3 x4 x5 x6
  have h1 : ∀ y1_0 y1_1, Kept A s0 y1_0 → Kept A s0 (x1 y1_0 y1_1) := by
    intro y1_0 y1_1 h1_0
    unfold x1
    extract_lets -merge -useContext -underBinder x7
    refine Kept.u_mgt ?_ (mask_sub (by decide) hA)
    exact h1_0
  have h5 : Kept A s0 x5 := by
    unfold x5
    refine Kept.ite ?_ ?_
    · refine h1 _ _ ?_
      · exact h_s
    · exact h_s
  have h6 : Kept A s0 x6 := by
    unfold x6
    refine kept_count ?_ (mask_sub (by decide) hA)
    · exact h5
  clear_value x1 x5 x6
  refine Kept.ite ?_ ?_
  · refine h1 _ _ ?_
    · exact h_s
  · refine kept_raiseOnce ?_ (mask_sub (by decide) hA)
    · exact h6
theorem kept_mgmtEvent {A : Nat} {s0 : State} {s : Sys2Proof.Machine.State} {e : Sys2Proof.Ev} {a : Sys2Proof.AttRec} (h_s : Kept A s0 s) (hA : 1152921504606848568 ||| A = A) :
    Kept A s0 (State.mgmtEvent s e a) := by
  unfold State.mgmtEvent
  extract_lets -merge -useContext -underBinder x1 x2 x3 x4 x5 x6 x7 x8
  have h1 : Kept A s0 x1 := by
    unfold x1
    refine kept_mgmtFill ?_ (mask_sub (by decide) hA)
    · exact h_s
  have h6 : Kept A s0 x6 := by
    unfold x6
    refine kept_count ?_ (mask_sub (by decide) hA)
    · exact h1
  clear_value x1 x6
  refine Kept.ite ?_ ?_
  · refine kept_mgmtPut ?_ (mask_sub (by decide) hA)
    · exact h1
  · refine Kept.ite ?_ ?_
    · refine kept_mgmtPut ?_ (mask_sub (by decide) hA)
      · exact h1
    · refine Kept.ite ?_ ?_
      · refine Kept.u_mgt ?_ (mask_sub (by decide) hA)
        exact h6
      · refine kept_mgmtPut ?_ (mask_sub (by decide) hA)
        · refine Kept.u_mgt ?_ (mask_sub (by decide) hA)
          exact h1
theorem kept_atticClose {A : Nat} {s0 : State} {s : Sys2Proof.Machine.State} (h_s : Kept A s0 s) (hA : 1188950301625814584 ||| A = A) :
    Kept A s0 (State.atticClose s) := by
  unfold State.atticClose
  extract_lets -merge -useContext -underBinder x1 x2 x3 x4 x5 x6
  have h2 : Kept A s0 x2 := by
    unfold x2
    refine kept_evt ?_ (mask_sub (by decide) hA)
    · exact h_s
  have h6 : Kept A s0 x6 := by
    unfold x6
    refine Kept.u_attic ?_ ?_ (mask_sub (by decide) hA)
    · exact h2
    · exact Nat.le_succ _
  clear_value x2 x6
  refine Kept.ite ?_ ?_
  · exact h_s
  · refine kept_ownTold ?_ (mask_sub (by decide) hA)
    · refine kept_mgmtEvent ?_ (mask_sub (by decide) hA)
      · exact h6
theorem kept_atticDrop {A : Nat} {s0 : State} {s : Sys2Proof.Machine.State} (h_s : Kept A s0 s) (hA : 36028797018963968 ||| A = A) :
    Kept A s0 (State.atticDrop s) := by
  unfold State.atticDrop
  extract_lets -merge -useContext -underBinder x1
  refine Kept.u_attic ?_ ?_ (mask_sub (by decide) hA)
  · exact h_s
  · exact Nat.le_refl _
theorem kept_recordEvent {A : Nat} {s0 : State} {s : Sys2Proof.Machine.State} {e : Sys2Proof.Ev} (h_s : Kept A s0 s) (hA : 36028797018965528 ||| A = A) :
    KeptR A s0 (State.recordEvent s e) := by
  unfold State.recordEvent
  extract_lets -merge -useContext -underBinder x1 x2 x3
  refine KeptR.ite ?_ ?_
  · refine KeptR.mk ?_
    refine kept_atticDrop ?_ (mask_sub (by decide) hA)
    · exact h_s
  · refine KeptR.ite ?_ ?_
    · refine KeptR.mk ?_
      refine kept_raiseOnce ?_ (mask_sub (by decide) hA)
      · refine kept_flag ?_ (mask_sub (by decide) hA)
        · refine kept_atticDrop ?_ (mask_sub (by decide) hA)
          · exact h_s
    · refine KeptR.mk ?_
      refine Kept.u_attic ?_ ?_ (mask_sub (by decide) hA)
      · exact h_s
      · exact Nat.le_succ _
theorem kept_tellHall {A : Nat} {s0 : State} {s : Sys2Proof.Machine.State} {e : Sys2Proof.Ev} (h_s : Kept A s0 s) (hA : 2048 ||| A = A) :
    Kept A s0 (State.tellHall s e) := by
  unfold State.tellHall
  refine Kept.ite ?_ ?_
  · exact h_s
  · refine kept_emit ?_ (mask_sub (by decide) hA)
    · exact h_s
theorem kept_eventRecord {A : Nat} {s0 : State} {s : Sys2Proof.Machine.State} (h_s : Kept A s0 s) (hA : 77378632650419992710627128 ||| A = A) :
    Kept A s0 (eventRecord s) := by
  unfold eventRecord
  split
  · exact h_s
  · extract_lets -merge -useContext -underBinder x1 x2
    have h1 : Kept A s0 x1 := by
      unfold x1
      refine kept_each ?_ (fun _ _ h8 => ?_)
      · exact h_s
      · refine kept_tellHall ?_ (mask_sub (by decide) hA)
        · exact h8
    have h2 : Kept A s0 x2 := by
      unfold x2
      refine kept_tellHall ?_ (mask_sub (by decide) hA)
      · exact h_s
    clear_value x1 x2
    refine Kept.ite ?_ ?_
    · refine Kept.u_transit ?_ ?_ (mask_sub (by decide) hA)
      · exact h1
      · exact Or.inr (mask_testBit (i := 86) (mask_sub (by decide) hA))
    · split
      · next y3 e4 =>
          have h5 : Kept A s0 y3 := KeptR.of_eq (by
            refine kept_recordEvent ?_ (mask_sub (by decide) hA)
            · refine Kept.u_transit ?_ ?_ (mask_sub (by decide) hA)
              · exact h2
              · exact Or.inr (mask_testBit (i := 86) (mask_sub (by decide) hA))
            ) e4
          extract_lets -merge -useContext -underBinder x6 x7
          have h6 : Kept A s0 x6 := by
            unfold x6
            refine kept_mgmtEvent ?_ (mask_sub (by decide) hA)
            · exact h5
          have h7 : Kept A s0 x7 := by
            unfold x7
            split
            · refine kept_histEntry ?_ (mask_sub (by decide) hA)
              · exact h6
            · exact h6
          clear_value x6 x7
          refine Kept.ite ?_ ?_
          · exact h7
          · refine kept_atticClose ?_ (mask_sub (by decide) hA)
            · exact h7
theorem kept_atticFlush {A : Nat} {s0 : State} {s : Sys2Proof.Machine.State} (h_s : Kept A s0 s) (hA : 36028797018963968 ||| A = A) :
    Kept A s0 (State.atticFlush s) := by
  unfold State.atticFlush
  extract_lets -merge -useContext -underBinder x1
  refine Kept.ite ?_ ?_
  · exact h_s
  · refine Kept.u_attic ?_ ?_ (mask_sub (by decide) hA)
    · exact h_s
    · exact Nat.le_refl _
theorem kept_execAtticProgram {A : Nat} {s0 : State} {s : Sys2Proof.Machine.State} (h_s : Kept A s0 s) (hA : 36028797018963968 ||| A = A) :
    KeptO A s0 (execAtticProgram s) := by
  unfold execAtticProgram
  refine KeptO.next ?_
  refine Kept.ite ?_ ?_
  · exact h_s
  · refine kept_atticFlush ?_ (mask_sub (by decide) hA)
    · exact h_s
theorem kept_execEventRecord {A : Nat} {s0 : State} {s : Sys2Proof.Machine.State} (h_s : Kept A s0 s) (hA : 77378632650419992710627128 ||| A = A) :
    KeptO A s0 (execEventRecord s) := by
  unfold execEventRecord
  refine KeptO.next ?_
  refine kept_eventRecord ?_ (mask_sub (by decide) hA)
  · exact h_s
theorem kept_atticWindowRead {A : Nat} {s0 : State} {s : Sys2Proof.Machine.State} (h_s : Kept A s0 s) (hA : 2056 ||| A = A) :
    Kept A s0 (atticWindowRead s) := by
  unfold atticWindowRead
  extract_lets -merge -useContext -underBinder x1 x2
  refine kept_emit ?_ (mask_sub (by decide) hA)
  · refine kept_wr ?_ (mask_sub (by decide) hA)
    · refine kept_wr ?_ (mask_sub (by decide) hA)
      · exact h_s
theorem kept_atticErase {A : Nat} {s0 : State} {s : State} (h_s : Kept A s0 s) (hA : 36028797018963968 ||| A = A) :
    Kept A s0 (State.atticErase s) := by
  have hs : s.atticFlush.attic.nextSeq = s.attic.nextSeq := by
    unfold State.atticFlush
    extract_lets
    split <;> rfl
  unfold State.atticErase
  extract_lets -merge -useContext -underBinder x1 x2 x3
  have h2 : Kept A s0 x2 := by
    unfold x2
    exact kept_atticFlush h_s (mask_sub (by decide) hA)
  refine Kept.ite h_s ?_
  refine Kept.u_attic h2 ?_ (mask_sub (by decide) hA)
  show s.atticFlush.attic.nextSeq ≤ s.attic.nextSeq + 1
  rw [hs]
  omega
theorem kept_atticEraseDone {A : Nat} {s0 : State} {s : Sys2Proof.Machine.State} (h_s : Kept A s0 s) (hA : 1188950301625814584 ||| A = A) :
    Kept A s0 (atticEraseDone s) := by
  unfold atticEraseDone
  split
  · exact h_s
  · extract_lets -merge -useContext -underBinder x1 x2 x3 x4 x5
    have h1 : Kept A s0 x1 := by
      unfold x1
      refine kept_evt ?_ (mask_sub (by decide) hA)
      · exact h_s
    have h5 : Kept A s0 x5 := by
      unfold x5
      refine Kept.u_attic ?_ ?_ (mask_sub (by decide) hA)
      · exact h1
      · exact Nat.le_refl _
    clear_value x1 x5
    refine kept_atticClose ?_ (mask_sub (by decide) hA)
    · refine kept_ownTold ?_ (mask_sub (by decide) hA)
      · refine kept_mgmtEvent ?_ (mask_sub (by decide) hA)
        · exact h5
theorem kept_execAtticEraseDone {A : Nat} {s0 : State} {s : Sys2Proof.Machine.State} (h_s : Kept A s0 s) (hA : 1188950301625814584 ||| A = A) :
    KeptO A s0 (execAtticEraseDone s) := by
  unfold execAtticEraseDone
  refine KeptO.next ?_
  refine kept_atticEraseDone ?_ (mask_sub (by decide) hA)
  · exact h_s
theorem kept_seedRefuse {A : Nat} {s0 : State} {s : Sys2Proof.Machine.State} {c : Nat} (h_s : Kept A s0 s) (hA : 1560 ||| A = A) :
    Kept A s0 (State.seedRefuse s c) := by
  unfold State.seedRefuse
  refine kept_raiseOnce ?_ (mask_sub (by decide) hA)
  · refine kept_wr ?_ (mask_sub (by decide) hA)
    · exact h_s
theorem kept_inputChain {A : Nat} {s0 : State} {s : Sys2Proof.Machine.State} {c : Nat} {digest : Nat} (h_s : Kept A s0 s) (hA : 295147905179352825856 ||| A = A) :
    Kept A s0 (State.inputChain s c digest) := by
  unfold State.inputChain
  extract_lets -merge -useContext -underBinder x1 x2
  refine Kept.u_prv ?_ (mask_sub (by decide) hA)
  exact h_s
theorem kept_seedTake {A : Nat} {s0 : State} {s : Sys2Proof.Machine.State} {c : Nat} {seed : Nat} (h_s : Kept A s0 s) (hA : 368934881474191032856 ||| A = A) :
    Kept A s0 (State.seedTake s c seed) := by
  unfold State.seedTake
  extract_lets -merge -useContext -underBinder x1
  refine kept_inputChain ?_ (mask_sub (by decide) hA)
  · refine kept_record ?_ (mask_sub (by decide) hA)
    · refine kept_updSeedOf ?_ (mask_sub (by decide) hA)
      · exact h_s
theorem kept_seedDecide1 {A : Nat} {s0 : State} {s : Sys2Proof.Machine.State} {x : Sys2Proof.SeedSet} (h_s : Kept A s0 s) (hA : 370394052232037547576 ||| A = A) :
    Kept A s0 (State.seedDecide1 s x) := by
  unfold State.seedDecide1
  extract_lets -merge -useContext -underBinder x1 x2 x3 x4
  have h2 : Kept A s0 x2 := by
    unfold x2
    refine Kept.u_prv ?_ (mask_sub (by decide) hA)
    exact h_s
  have h3 : Kept A s0 x3 := by
    unfold x3
    refine Kept.ite ?_ ?_
    · refine kept_seedRefuse ?_ (mask_sub (by decide) hA)
      · exact h2
    · refine kept_seedTake ?_ (mask_sub (by decide) hA)
      · refine kept_wr ?_ (mask_sub (by decide) hA)
        · exact h2
  have h4 : Kept A s0 x4 := by
    unfold x4
    refine Kept.ite ?_ ?_
    · exact h3
    · refine kept_each ?_ (fun _ _ h5 => ?_)
      · exact h3
      · refine kept_seedServe ?_ (mask_sub (by decide) hA)
        · exact h5
  clear_value x2 x3 x4
  split
  · refine Kept.ite ?_ ?_
    · refine kept_refuse ?_ (mask_sub (by decide) hA)
      · exact h4
    · refine kept_answer ?_ (mask_sub (by decide) hA)
      · exact h4
  · exact h4
theorem kept_seedDecide {A : Nat} {s0 : State} {s : Sys2Proof.Machine.State} (h_s : Kept A s0 s) (hA : 370394052232037547576 ||| A = A) :
    Kept A s0 (State.seedDecide s) := by
  unfold State.seedDecide
  refine kept_each ?_ (fun _ _ h1 => ?_)
  · exact h_s
  · refine kept_seedDecide1 ?_ (mask_sub (by decide) hA)
    · exact h1
theorem kept_seedSet {A : Nat} {s0 : State} {s : Sys2Proof.Machine.State} {c : Nat} {seed : Nat} {m : Option Sys2Proof.Msg} (h_s : Kept A s0 s) (hA : 370394052232037547576 ||| A = A) :
    Kept A s0 (State.seedSet s c seed m) := by
  unfold State.seedSet
  extract_lets -merge -useContext -underBinder x1 x2 x3 x4 x5
  have h1 : Kept A s0 x1 := by
    unfold x1
    refine kept_seedRefuse ?_ (mask_sub (by decide) hA)
    · exact h_s
  have h3 : Kept A s0 x3 := by
    unfold x3
    refine kept_wr ?_ (mask_sub (by decide) hA)
    · exact h_s
  have h5 : Kept A s0 x5 := by
    unfold x5
    refine Kept.u_prv ?_ (mask_sub (by decide) hA)
    exact h3
  clear_value x1 x3 x5
  refine Kept.ite ?_ ?_
  · split
    · refine kept_refuse ?_ (mask_sub (by decide) hA)
      · exact h1
    · exact h1
  · refine kept_seedDecide ?_ (mask_sub (by decide) hA)
    · refine kept_emits ?_ (mask_sub (by decide) hA)
      · exact h5
theorem kept_drawCalc {A : Nat} {s0 : State} {s : Sys2Proof.Machine.State} {data : Nat} (h_s : Kept A s0 s) (hA : 56 ||| A = A) :
    Kept A s0 (drawCalc s data) := by
  unfold drawCalc
  extract_lets -merge -useContext -underBinder x1 x2 x3 x4 x5
  have h1 : Kept A s0 x1 := by
    unfold x1
    refine kept_wr ?_ (mask_sub (by decide) hA)
    · exact h_s
  have h5 : Kept A s0 x5 := by
    unfold x5
    refine Kept.ite ?_ ?_
    · refine kept_count ?_ (mask_sub (by decide) hA)
      · exact h1
    · exact h1
  clear_value x1 x5
  refine Kept.ite ?_ ?_
  · exact h1
  · refine Kept.ite ?_ ?_
    · refine kept_wr ?_ (mask_sub (by decide) hA)
      · exact h1
    · refine kept_wr ?_ (mask_sub (by decide) hA)
      · refine kept_wr ?_ (mask_sub (by decide) hA)
        · exact h5
theorem kept_seedAnswered {A : Nat} {s0 : State} {s : Sys2Proof.Machine.State} {r : Nat} {refuse : Bool} (h_s : Kept A s0 s) (hA : 370394052232037547576 ||| A = A) :
    Kept A s0 (State.seedAnswered s r refuse) := by
  unfold State.seedAnswered
  extract_lets -merge -useContext -underBinder x1
  refine kept_seedDecide ?_ (mask_sub (by decide) hA)
  · refine Kept.u_prv ?_ (mask_sub (by decide) hA)
    exact h_s
theorem kept_seedSetAnswer {A : Nat} {s0 : State} {s : Sys2Proof.Machine.State} {r : Nat} (h_s : Kept A s0 s) (hA : 370394052232037547576 ||| A = A) :
    Kept A s0 (seedSetAnswer s r) := by
  unfold seedSetAnswer
  split
  · exact h_s
  · extract_lets -merge -useContext -underBinder x1
    refine kept_seedDecide ?_ (mask_sub (by decide) hA)
    · refine Kept.u_prv ?_ (mask_sub (by decide) hA)
      exact h_s
theorem kept_execSeedSetAnswer {A : Nat} {s0 : State} {r : Sys2Proof.RegionId} {s : Sys2Proof.Machine.State} (h_s : Kept A s0 s) (hA : 370394052232037547576 ||| A = A) :
    KeptO A s0 (execSeedSetAnswer r s) := by
  unfold execSeedSetAnswer
  refine KeptO.next ?_
  refine kept_seedSetAnswer ?_ (mask_sub (by decide) hA)
  · exact h_s
theorem kept_drawRequest {A : Nat} {s0 : State} {s : Sys2Proof.Machine.State} {k : Nat} {c : Nat} {layer : Nat} {op : Nat} {step : Nat} {idx : Nat} (h_s : Kept A s0 s) (hA : 70866962480 ||| A = A) :
    Kept A s0 (drawRequest s k c layer op step idx) := by
  unfold drawRequest
  extract_lets -merge -useContext -underBinder x1 x2
  have h2 : Kept A s0 x2 := by
    unfold x2
    refine kept_noteDraw ?_ (mask_sub (by decide) hA)
    · exact h_s
  clear_value x2
  refine Kept.ite ?_ ?_
  · exact h_s
  · refine kept_drawDrain ?_ (mask_sub (by decide) hA)
    · exact h2
theorem kept_execDrawRequest {A : Nat} {s0 : State} {k : Sys2Proof.ClusterId} {ctx : Sys2Proof.Ctx} {layer : BitVec 16} {oper : BitVec 16} {step : Sys2Proof.Step} {idx : BitVec 35} {s : Sys2Proof.Machine.State} (h_s : Kept A s0 s) (hA : 70866962480 ||| A = A) :
    KeptO A s0 (execDrawRequest k ctx layer oper step idx s) := by
  unfold execDrawRequest
  refine KeptO.next ?_
  refine kept_drawRequest ?_ (mask_sub (by decide) hA)
  · exact h_s
theorem kept_seedFree {A : Nat} {s0 : State} {s : Sys2Proof.Machine.State} {c : Nat} (h_s : Kept A s0 s) (hA : 368934881476338515976 ||| A = A) :
    Kept A s0 (State.seedFree s c) := by
  unfold State.seedFree
  extract_lets -merge -useContext -underBinder x1 x2 x3 x4
  have h1 : Kept A s0 x1 := by
    unfold x1
    refine kept_updSeedOf ?_ (mask_sub (by decide) hA)
    · exact h_s
  have h3 : Kept A s0 x3 := by
    unfold x3
    refine Kept.u_rpl_prv ?_ (mask_sub (by decide) hA)
    exact h1
  have h4 : Kept A s0 x4 := by
    unfold x4
    refine Kept.u_rpl ?_ (mask_sub (by decide) hA)
    exact h3
  clear_value x1 x3 x4
  refine kept_wr ?_ (mask_sub (by decide) hA)
  · refine kept_wr ?_ (mask_sub (by decide) hA)
    · refine kept_wr ?_ (mask_sub (by decide) hA)
      · refine kept_wr ?_ (mask_sub (by decide) hA)
        · exact h4
theorem kept_drwSeedSet {A : Nat} {s0 : State} {s : Sys2Proof.Machine.State} {data : Nat} (h_s : Kept A s0 s) (hA : 370394052232037547576 ||| A = A) :
    Kept A s0 (drwSeedSet s data) := by
  unfold drwSeedSet
  refine Kept.ite ?_ ?_
  · exact h_s
  · refine kept_seedSet ?_ (mask_sub (by decide) hA)
    · exact h_s
theorem kept_castCut {A : Nat} {s0 : State} {s : Sys2Proof.Machine.State} {type : Nat} {payload : Nat} (h_s : Kept A s0 s) (hA : 4398047836160 ||| A = A) :
    Kept A s0 (State.castCut s type payload) := by
  unfold State.castCut
  extract_lets -merge -useContext -underBinder x1
  refine kept_routePacket ?_ (mask_sub (by decide) hA)
  · exact h_s
theorem kept_freeRetired {A : Nat} {s0 : State} {s : Sys2Proof.Machine.State} {n : Nat} (h_s : Kept A s0 s) (hA : 369223111921211802136 ||| A = A) :
    Kept A s0 (State.freeRetired s n) := by
  unfold State.freeRetired
  extract_lets -merge -useContext -underBinder x1
  refine kept_each ?_ (fun _ _ h2 => ?_)
  · exact h_s
  · extract_lets -merge -useContext -underBinder x3 x4 x5 x6
    have h4 : Kept A s0 x4 := by
      unfold x4
      refine kept_updCtx ?_ (mask_sub (by decide) hA)
      · exact h2
    have h5 : Kept A s0 x5 := by
      unfold x5
      refine Kept.u_gates ?_ (mask_sub (by decide) hA)
      exact h4
    have h6 : Kept A s0 x6 := by
      unfold x6
      refine kept_wr ?_ (mask_sub (by decide) hA)
      · exact h5
    clear_value x4 x5 x6
    refine kept_notify ?_ (mask_sub (by decide) hA)
    · refine kept_raise ?_ (mask_sub (by decide) hA)
      · refine kept_seedFree ?_ (mask_sub (by decide) hA)
        · exact h6
theorem kept_dbgDone {A : Nat} {s0 : State} {s : Sys2Proof.Machine.State} {k : Sys2Proof.CutKind} (h_s : Kept A s0 s) (hA : 2305843009213693952 ||| A = A) :
    Kept A s0 (State.dbgDone s k) := by
  unfold State.dbgDone
  extract_lets -merge -useContext -underBinder x1
  refine Kept.ite ?_ ?_
  · refine Kept.u_dbg ?_ (mask_sub (by decide) hA)
    exact h_s
  · exact h_s
theorem kept_stopEdge {A : Nat} {s0 : State} {s : Sys2Proof.Machine.State} {k : Sys2Proof.CutKind} {name : Nat} (h_s : Kept A s0 s) (hA : 1125899906843160 ||| A = A) :
    Kept A s0 (State.stopEdge s k name) := by
  unfold State.stopEdge
  split
  · exact h_s
  · extract_lets -merge -useContext -underBinder x1 x2 x3
    have h1 : Kept A s0 x1 := by
      unfold x1
      refine kept_flag ?_ (mask_sub (by decide) hA)
      · exact h_s
    have h3 : Kept A s0 x3 := by
      unfold x3
      refine Kept.u_stop ?_ (mask_sub (by decide) hA)
      exact h1
    clear_value x1 x3
    refine kept_raise ?_ (mask_sub (by decide) hA)
    · exact h3
  · extract_lets -merge -useContext -underBinder x4 x5
    have h4 : Kept A s0 x4 := by
      unfold x4
      refine kept_flag ?_ (mask_sub (by decide) hA)
      · exact h_s
    have h5 : Kept A s0 x5 := by
      unfold x5
      refine Kept.u_stop ?_ (mask_sub (by decide) hA)
      exact h4
    clear_value x4 x5
    refine kept_raise ?_ (mask_sub (by decide) hA)
    · exact h5
theorem kept_declareVoids {A : Nat} {s0 : State} {s : Sys2Proof.Machine.State} (h_s : Kept A s0 s) (hA : 2251799813685784 ||| A = A) :
    Kept A s0 (State.declareVoids s) := by
  unfold State.declareVoids
  extract_lets -merge -useContext -underBinder x1 x2
  have h2 : Kept A s0 x2 := by
    unfold x2
    refine kept_each ?_ (fun _ _ h3 => ?_)
    · exact h_s
    · refine kept_raise ?_ (mask_sub (by decide) hA)
      · exact h3
  clear_value x2
  refine Kept.u_voids ?_ (mask_sub (by decide) hA)
  exact h2
theorem kept_startCut {A : Nat} {s0 : State} {s : Sys2Proof.Machine.State} {k : Sys2Proof.CutKind} (h_s : Kept A s0 s) (hA : 2502488466143768 ||| A = A) :
    Kept A s0 (State.startCut s k) := by
  unfold State.startCut
  extract_lets -merge -useContext -underBinder x1 x2
  have h2 : Kept A s0 x2 := by
    unfold x2
    refine Kept.u_cut_cutNo_cutDue ?_ (mask_sub (by decide) hA)
    exact h_s
  clear_value x2
  refine kept_pairApply ?_ (mask_sub (by decide) hA)
  · refine kept_declareVoids ?_ (mask_sub (by decide) hA)
    · refine kept_castCut ?_ (mask_sub (by decide) hA)
      · refine kept_flag ?_ (mask_sub (by decide) hA)
        · exact h2
theorem kept_resumeCut {A : Nat} {s0 : State} {s : Sys2Proof.Machine.State} {cause : Nat} (h_s : Kept A s0 s) (hA : 3628388372986392 ||| A = A) :
    Kept A s0 (State.resumeCut s cause) := by
  unfold State.resumeCut
  extract_lets -merge -useContext -underBinder x1
  refine kept_startCut ?_ (mask_sub (by decide) hA)
  · refine Kept.u_stop ?_ (mask_sub (by decide) hA)
    exact h_s
theorem kept_completeCut {A : Nat} {s0 : State} {s : Sys2Proof.Machine.State} {x : Sys2Proof.CutRun} (h_s : Kept A s0 s) (hA : 371532583318798482968 ||| A = A) :
    Kept A s0 (State.completeCut s x) := by
  unfold State.completeCut
  extract_lets -merge -useContext -underBinder x1 x2 x3 x4 x5 x6 x7
  have h3 : Kept A s0 x3 := by
    unfold x3
    refine kept_wr ?_ (mask_sub (by decide) hA)
    · refine kept_wr ?_ (mask_sub (by decide) hA)
      · refine kept_wr ?_ (mask_sub (by decide) hA)
        · refine kept_wr ?_ (mask_sub (by decide) hA)
          · exact h_s
  have h4 : Kept A s0 x4 := by
    unfold x4
    refine Kept.ite ?_ ?_
    · refine kept_raiseOnce ?_ (mask_sub (by decide) hA)
      · refine kept_flag ?_ (mask_sub (by decide) hA)
        · exact h3
    · exact h3
  have h5 : Kept A s0 x5 := by
    unfold x5
    refine kept_flag ?_ (mask_sub (by decide) hA)
    · exact h4
  have h6 : Kept A s0 x6 := by
    unfold x6
    refine kept_castCut ?_ (mask_sub (by decide) hA)
    · refine Kept.u_cut ?_ (mask_sub (by decide) hA)
      exact h5
  have h7 : Kept A s0 x7 := by
    unfold x7
    refine kept_sendMirror ?_ (mask_sub (by decide) hA)
    · refine kept_freeRetired ?_ (mask_sub (by decide) hA)
      · refine kept_dbgDone ?_ (mask_sub (by decide) hA)
        · refine kept_stopEdge ?_ (mask_sub (by decide) hA)
          · exact h6
  clear_value x3 x4 x5 x6 x7
  refine Kept.ite ?_ ?_
  · refine kept_resumeCut ?_ (mask_sub (by decide) hA)
    · exact h7
  · refine Kept.ite ?_ ?_
    · refine kept_startCut ?_ (mask_sub (by decide) hA)
      · exact h7
    · exact h7
theorem kept_sendReport {A : Nat} {s0 : State} {s : Sys2Proof.Machine.State} {f : Nat} {r : Sys2Proof.Report} (h_s : Kept A s0 s) (hA : 4398047836160 ||| A = A) :
    Kept A s0 (State.sendReport s f r) := by
  unfold State.sendReport
  split
  · exact h_s
  · refine kept_pump ?_ (mask_sub (by decide) hA)
    · refine kept_updRouter ?_ (mask_sub (by decide) hA)
      · exact h_s
theorem kept_cutReport {A : Nat} {s0 : State} {s : Sys2Proof.Machine.State} {f : Nat} {own : Sys2Proof.Report} (h_s : Kept A s0 s) (hA : 371532583318798482968 ||| A = A) :
    Kept A s0 (cutReport s f own) := by
  unfold cutReport
  split
  · exact h_s
  · extract_lets -merge -useContext -underBinder x1 x2
    refine Kept.ite ?_ ?_
    · exact h_s
    · refine Kept.ite ?_ ?_
      · refine kept_completeCut ?_ (mask_sub (by decide) hA)
        · exact h_s
      · refine kept_sendReport ?_ (mask_sub (by decide) hA)
        · refine Kept.u_cut ?_ (mask_sub (by decide) hA)
          exact h_s
theorem kept_execCutReport {A : Nat} {s0 : State} {f : Sys2Proof.FieldId} {rep : Sys2Proof.Report} {s : Sys2Proof.Machine.State} (h_s : Kept A s0 s) (hA : 371532583318798482968 ||| A = A) :
    KeptO A s0 (execCutReport f rep s) := by
  unfold execCutReport
  refine KeptO.next ?_
  refine kept_cutReport ?_ (mask_sub (by decide) hA)
  · exact h_s
theorem kept_stopCoreTimeout {A : Nat} {s0 : State} {s : Sys2Proof.Machine.State} {k : Nat} {p : Nat} (h_s : Kept A s0 s) (hA : 35184372088832 ||| A = A) :
    Kept A s0 (stopCoreTimeout s k p) := by
  unfold stopCoreTimeout
  split
  · refine Kept.ite ?_ ?_
    · refine Kept.u_cut ?_ (mask_sub (by decide) hA)
      exact h_s
    · exact h_s
  · exact h_s
theorem kept_auditFail {A : Nat} {s0 : State} {s : Sys2Proof.Machine.State} {p : Nat} {account : Nat} {d : Int} (h_s : Kept A s0 s) (hA : 568 ||| A = A) :
    Kept A s0 (State.auditFail s p account d) := by
  unfold State.auditFail
  refine kept_raise ?_ (mask_sub (by decide) hA)
  · refine kept_count ?_ (mask_sub (by decide) hA)
    · exact h_s
theorem kept_chanFail {A : Nat} {s0 : State} {s : Sys2Proof.Machine.State} {c : Sys2Proof.Channel} {d : Int} (h_s : Kept A s0 s) (hA : 1368748718782002085838648 ||| A = A) :
    Kept A s0 (State.chanFail s c d) := by
  unfold State.chanFail
  split
  · refine kept_hopDead ?_ (mask_sub (by decide) hA)
    · refine kept_auditFail ?_ (mask_sub (by decide) hA)
      · exact h_s
  · extract_lets -merge -useContext -underBinder x1
    refine kept_verdictEffect ?_ (mask_sub (by decide) hA)
    · refine kept_auditFail ?_ (mask_sub (by decide) hA)
      · exact h_s
  · refine kept_enterFenced ?_ (mask_sub (by decide) hA)
    · refine kept_auditFail ?_ (mask_sub (by decide) hA)
      · exact h_s
  · refine kept_updStpOf ?_ (mask_sub (by decide) hA)
    · refine kept_enterFenced ?_ (mask_sub (by decide) hA)
      · refine kept_auditFail ?_ (mask_sub (by decide) hA)
        · exact h_s
theorem kept_stopMaxTimeout {A : Nat} {s0 : State} {s : Sys2Proof.Machine.State} (h_s : Kept A s0 s) (hA : 3628388372986392 ||| A = A) :
    Kept A s0 (stopMaxTimeout s) := by
  unfold stopMaxTimeout
  extract_lets -merge -useContext -underBinder x1
  refine Kept.ite ?_ ?_
  · exact h_s
  · refine Kept.ite ?_ ?_
    · refine Kept.u_stop ?_ (mask_sub (by decide) hA)
      exact h_s
    · refine kept_resumeCut ?_ (mask_sub (by decide) hA)
      · exact h_s
theorem kept_sampleTerms {A : Nat} {s0 : State} {s : Sys2Proof.Machine.State} {u : Sys2Proof.Node} {x : Sys2Proof.Sample} (h_s : Kept A s0 s) (hA : 604462909807314587353144 ||| A = A) :
    Kept A s0 (State.sampleTerms s u x) := by
  unfold State.sampleTerms
  split
  · extract_lets -merge -useContext -underBinder x1 x2 x3 x4
    have h2 : Kept A s0 x2 := by
      unfold x2
      refine kept_count ?_ (mask_sub (by decide) hA)
      · refine kept_count ?_ (mask_sub (by decide) hA)
        · exact h_s
    have h3 : Kept A s0 x3 := by
      unfold x3
      refine kept_bankCount ?_ (mask_sub (by decide) hA)
      · refine kept_bankCount ?_ (mask_sub (by decide) hA)
        · exact h2
    clear_value x2 x3
    refine Kept.ite ?_ ?_
    · refine kept_bankCount ?_ (mask_sub (by decide) hA)
      · exact h3
    · exact h3
  · extract_lets -merge -useContext -underBinder x5 x6 x7
    have h6 : Kept A s0 x6 := by
      unfold x6
      refine kept_wr ?_ (mask_sub (by decide) hA)
      · refine kept_count ?_ (mask_sub (by decide) hA)
        · refine kept_count ?_ (mask_sub (by decide) hA)
          · exact h_s
    have h7 : Kept A s0 x7 := by
      unfold x7
      refine kept_wr ?_ (mask_sub (by decide) hA)
      · refine kept_wr ?_ (mask_sub (by decide) hA)
        · exact h6
    clear_value x6 x7
    refine kept_each ?_ (fun _ _ h8 => ?_)
    · exact h7
    · refine kept_dcount ?_ (mask_sub (by decide) hA)
      · exact h8
  · refine kept_each ?_ (fun _ _ h9 => ?_)
    · exact h_s
    · refine kept_wr ?_ (mask_sub (by decide) hA)
      · exact h9
  · split
    · refine kept_updThmOf ?_ (mask_sub (by decide) hA)
      · refine kept_count ?_ (mask_sub (by decide) hA)
        · exact h_s
    · exact h_s
  · exact h_s
theorem kept_auditGate {A : Nat} {s0 : State} {s : Sys2Proof.Machine.State} {r : Nat} {g : Nat} (h_s : Kept A s0 s) (hA : 295438387424043993912 ||| A = A) :
    Kept A s0 (State.auditGate s r g) := by
  unfold State.auditGate
  extract_lets -merge -useContext -underBinder x1 x2 x3
  have h3 : Kept A s0 x3 := by
    unfold x3
    refine kept_updGate ?_ (mask_sub (by decide) hA)
    · refine kept_auditFail ?_ (mask_sub (by decide) hA)
      · exact h_s
  clear_value x3
  refine Kept.ite ?_ ?_
  · exact h_s
  · refine Kept.ite ?_ ?_
    · exact h_s
    · refine Kept.ite ?_ ?_
      · refine kept_shutLink ?_ (mask_sub (by decide) hA)
        · exact h3
      · refine kept_gateWithholdAll ?_ (mask_sub (by decide) hA)
        · exact h3
theorem kept_auditDoor {A : Nat} {s0 : State} {s : Sys2Proof.Machine.State} {n : Nat} {x : Sys2Proof.Sample} (h_s : Kept A s0 s) (hA : 295150156979170706232 ||| A = A) :
    Kept A s0 (State.auditDoor s n x) := by
  unfold State.auditDoor
  extract_lets -merge -useContext -underBinder x1 x2
  have h2 : Kept A s0 x2 := by
    unfold x2
    refine kept_each ?_ (fun _ _ h3 => ?_)
    · exact h_s
    · refine kept_wr ?_ (mask_sub (by decide) hA)
      · refine kept_auditFail ?_ (mask_sub (by decide) hA)
        · exact h3
  clear_value x2
  refine Kept.ite ?_ ?_
  · exact h_s
  · refine Kept.ite ?_ ?_
    · exact h2
    · refine kept_shutLink ?_ (mask_sub (by decide) hA)
      · exact h2
theorem kept_auditCellar {A : Nat} {s0 : State} {s : Sys2Proof.Machine.State} {c : Nat} {x : Sys2Proof.Sample} (h_s : Kept A s0 s) (hA : 4611686018427388472 ||| A = A) :
    Kept A s0 (State.auditCellar s c x) := by
  unfold State.auditCellar
  refine Kept.ite ?_ ?_
  · exact h_s
  · refine kept_each ?_ (fun _ _ h1 => ?_)
    · exact h_s
    · extract_lets -merge -useContext -underBinder x2 x3
      refine Kept.ite ?_ ?_
      · exact h1
      · refine kept_suspectChan ?_ (mask_sub (by decide) hA)
        · refine kept_flag ?_ (mask_sub (by decide) hA)
          · refine kept_auditFail ?_ (mask_sub (by decide) hA)
            · exact h1
theorem kept_auditUnit {A : Nat} {s0 : State} {s : Sys2Proof.Machine.State} {u : Sys2Proof.Node} {x : Sys2Proof.Sample} (h_s : Kept A s0 s) (hA : 300050073442471381816 ||| A = A) :
    Kept A s0 (State.auditUnit s u x) := by
  unfold State.auditUnit
  split
  · refine kept_each ?_ (fun _ _ h1 => ?_)
    · exact h_s
    · refine kept_auditGate ?_ (mask_sub (by decide) hA)
      · exact h1
  · refine kept_auditDoor ?_ (mask_sub (by decide) hA)
    · exact h_s
  · refine kept_auditCellar ?_ (mask_sub (by decide) hA)
    · exact h_s
  · exact h_s
theorem kept_copyRun {A : Nat} {s0 : State} {s : Sys2Proof.Machine.State} {lo : Nat} {hi : Nat} (h_s : Kept A s0 s) (hA : 80 ||| A = A) :
    Kept A s0 (State.copyRun s lo hi) := by
  unfold State.copyRun
  refine Kept.u_ecnt_fill ?_ (mask_sub (by decide) hA)
  exact h_s
theorem kept_markHop {A : Nat} {s0 : State} {s : Sys2Proof.Machine.State} {f : Nat} {h : Sys2Proof.Hop} {c : Nat} {name : Nat} (h_s : Kept A s0 s) (hA : 4096 ||| A = A) :
    Kept A s0 (State.markHop s f h c name) := by
  unfold State.markHop
  extract_lets -merge -useContext -underBinder x1 x2 x3
  refine kept_updRouter ?_ (mask_sub (by decide) hA)
  · exact h_s
theorem kept_sendMarks {A : Nat} {s0 : State} {s : Sys2Proof.Machine.State} {u : Sys2Proof.Node} (h_s : Kept A s0 s) (hA : 4398047836160 ||| A = A) :
    Kept A s0 (State.sendMarks s u) := by
  unfold State.sendMarks
  extract_lets -merge -useContext -underBinder x1
  split
  · refine kept_pump ?_ (mask_sub (by decide) hA)
    · refine kept_each ?_ (fun _ _ h2 => ?_)
      · exact h_s
      · refine kept_each ?_ (fun _ _ h3 => ?_)
        · exact h2
        · refine kept_markHop ?_ (mask_sub (by decide) hA)
          · exact h3
  · extract_lets -merge -useContext -underBinder x4 x5 x6
    refine kept_emits ?_ (mask_sub (by decide) hA)
    · exact h_s
  · refine kept_emit ?_ (mask_sub (by decide) hA)
    · exact h_s
  · exact h_s
theorem kept_pauseSlice {A : Nat} {s0 : State} {s : Sys2Proof.Machine.State} {e : Nat} (h_s : Kept A s0 s) (hA : 4722366482869645215256 ||| A = A) :
    Kept A s0 (State.pauseSlice s e) := by
  unfold State.pauseSlice
  split
  · refine Kept.ite ?_ ?_
    · refine kept_updEng ?_ (mask_sub (by decide) hA)
      · refine kept_raiseOnce ?_ (mask_sub (by decide) hA)
        · exact h_s
    · exact h_s
  · exact h_s
theorem kept_rerunSlice {A : Nat} {s0 : State} {s : Sys2Proof.Machine.State} {e : Nat} (h_s : Kept A s0 s) (hA : 7378697633883751726904 ||| A = A) :
    Kept A s0 (State.rerunSlice s e) := by
  unfold State.rerunSlice
  split
  · refine Kept.ite ?_ ?_
    · refine kept_sliceStart ?_ (mask_sub (by decide) hA)
      · exact h_s
    · exact h_s
  · exact h_s
theorem kept_markTaster {A : Nat} {s0 : State} {s : Sys2Proof.Machine.State} {k : Nat} (h_s : Kept A s0 s) (hA : 90076390863683128 ||| A = A) :
    Kept A s0 (State.markTaster s k) := by
  unfold State.markTaster
  extract_lets -merge -useContext -underBinder x1
  split
  · refine kept_trace ?_ (mask_sub (by decide) hA)
    · exact h_s
  · refine kept_each ?_ (fun _ _ h2 => ?_)
    · refine kept_trace ?_ (mask_sub (by decide) hA)
      · exact h_s
    · refine kept_updCore ?_ (mask_sub (by decide) hA)
      · exact h2
  · extract_lets -merge -useContext -underBinder x3
    have h3 : Kept A s0 x3 := by
      unfold x3
      refine kept_segFlush ?_ (mask_sub (by decide) hA)
      · refine kept_trace ?_ (mask_sub (by decide) hA)
        · exact h_s
    clear_value x3
    exact h3
theorem kept_markHall {A : Nat} {s0 : State} {s : Sys2Proof.Machine.State} {r : Nat} (h_s : Kept A s0 s) (hA : 536870912 ||| A = A) :
    Kept A s0 (State.markHall s r) := by
  unfold State.markHall
  refine Kept.ite ?_ ?_
  · exact h_s
  · refine kept_each ?_ (fun _ _ h1 => ?_)
    · exact h_s
    · refine Kept.ite ?_ ?_
      · refine kept_updPort ?_ (mask_sub (by decide) hA)
        · exact h1
      · exact h1
theorem kept_cutMarker {A : Nat} {s0 : State} {s : Sys2Proof.Machine.State} {u : Sys2Proof.Node} {x : Sys2Proof.Sample} (h_s : Kept A s0 s) (hA : 611846600525878930980728 ||| A = A) :
    Kept A s0 (cutMarker s u x) := by
  unfold cutMarker
  extract_lets -merge -useContext -underBinder x1 x2 x3 x4 x5 x6 x7 x8 x9
  have h2 : Kept A s0 x2 := by
    unfold x2
    refine kept_sampleTerms ?_ (mask_sub (by decide) hA)
    · exact h_s
  have h3 : Kept A s0 x3 := by
    unfold x3
    refine kept_auditUnit ?_ (mask_sub (by decide) hA)
    · exact h2
  have h4 : Kept A s0 x4 := by
    unfold x4
    refine kept_each ?_ (fun _ _ h11 => ?_)
    · exact h3
    · refine kept_copyRun ?_ (mask_sub (by decide) hA)
      · exact h11
  have h5 : Kept A s0 x5 := by
    unfold x5
    refine kept_updCutUnit ?_ (mask_sub (by decide) hA)
    · exact h4
  have h6 : Kept A s0 x6 := by
    unfold x6
    refine Kept.u_marks ?_ (mask_sub (by decide) hA)
    exact h5
  have h7 : Kept A s0 x7 := by
    unfold x7
    refine kept_each ?_ (fun _ _ h10 => ?_)
    · exact h6
    · refine kept_updChan ?_ (mask_sub (by decide) hA)
      · exact h10
  have h8 : Kept A s0 x8 := by
    unfold x8
    refine kept_sendMarks ?_ (mask_sub (by decide) hA)
    · refine kept_updClock ?_ (mask_sub (by decide) hA)
      · exact h7
  have h9 : Kept A s0 x9 := by
    unfold x9
    refine Kept.ite ?_ ?_
    · refine kept_pauseSlice ?_ (mask_sub (by decide) hA)
      · exact h8
    · refine Kept.ite ?_ ?_
      · refine kept_rerunSlice ?_ (mask_sub (by decide) hA)
        · exact h8
      · exact h8
  clear_value x2 x3 x4 x5 x6 x7 x8 x9
  refine Kept.ite ?_ ?_
  · exact h_s
  · refine Kept.ite ?_ ?_
    · refine kept_emit ?_ (mask_sub (by decide) hA)
      · exact h_s
    · split
      · refine kept_markTaster ?_ (mask_sub (by decide) hA)
        · exact h9
      · refine Kept.ite ?_ ?_
        · refine kept_markHall ?_ (mask_sub (by decide) hA)
          · exact h9
        · exact h9
      · exact h9
theorem kept_cutStart {A : Nat} {s0 : State} {s : Sys2Proof.Machine.State} (h_s : Kept A s0 s) (hA : 2502488466143768 ||| A = A) :
    Kept A s0 (cutStart s) := by
  unfold cutStart
  refine Kept.ite ?_ ?_
  · exact h_s
  · refine Kept.ite ?_ ?_
    · refine Kept.u_cutDue ?_ (mask_sub (by decide) hA)
      exact h_s
    · refine kept_startCut ?_ (mask_sub (by decide) hA)
      · exact h_s
theorem kept_edgeMarkerTimeout {A : Nat} {s0 : State} {s : Sys2Proof.Machine.State} {e : Sys2Proof.Edge} (h_s : Kept A s0 s) (hA : 281474976710656 ||| A = A) :
    Kept A s0 (edgeMarkerTimeout s e) := by
  unfold edgeMarkerTimeout
  refine Kept.ite ?_ ?_
  · exact h_s
  · refine kept_updCutUnit ?_ (mask_sub (by decide) hA)
    · exact h_s
theorem kept_execEdgeMarkerTimeout {A : Nat} {s0 : State} {e : Sys2Proof.Edge} {s : Sys2Proof.Machine.State} (h_s : Kept A s0 s) (hA : 281474976710656 ||| A = A) :
    KeptO A s0 (execEdgeMarkerTimeout e s) := by
  unfold execEdgeMarkerTimeout
  refine KeptO.next ?_
  refine kept_edgeMarkerTimeout ?_ (mask_sub (by decide) hA)
  · exact h_s
theorem kept_showRun {A : Nat} {s0 : State} {s : Sys2Proof.Machine.State} {lo : Nat} {hi : Nat} (h_s : Kept A s0 s) (hA : 128 ||| A = A) :
    Kept A s0 (State.showRun s lo hi) := by
  unfold State.showRun
  refine Kept.u_shown ?_ (mask_sub (by decide) hA)
  exact h_s
theorem kept_channelRecordTimeout {A : Nat} {s0 : State} {s : Sys2Proof.Machine.State} {c : Sys2Proof.Channel} (h_s : Kept A s0 s) (hA : 562949953421312 ||| A = A) :
    Kept A s0 (channelRecordTimeout s c) := by
  unfold channelRecordTimeout
  refine Kept.ite ?_ ?_
  · exact h_s
  · refine kept_updChan ?_ (mask_sub (by decide) hA)
    · exact h_s
theorem kept_execChannelRecordTimeout {A : Nat} {s0 : State} {c : Sys2Proof.Channel} {s : Sys2Proof.Machine.State} (h_s : Kept A s0 s) (hA : 562949953421312 ||| A = A) :
    KeptO A s0 (execChannelRecordTimeout c s) := by
  unfold execChannelRecordTimeout
  refine KeptO.next ?_
  refine kept_channelRecordTimeout ?_ (mask_sub (by decide) hA)
  · exact h_s
theorem kept_execCutMarker {A : Nat} {s0 : State} {u : Sys2Proof.Node} {sample : Sys2Proof.Sample} {s : Sys2Proof.Machine.State} (h_s : Kept A s0 s) (hA : 611846600525878930980728 ||| A = A) :
    KeptO A s0 (execCutMarker u sample s) := by
  unfold execCutMarker
  refine KeptO.next ?_
  refine kept_cutMarker ?_ (mask_sub (by decide) hA)
  · exact h_s
theorem kept_execCutStart {A : Nat} {s0 : State} {s : Sys2Proof.Machine.State} (h_s : Kept A s0 s) (hA : 2502488466143768 ||| A = A) :
    KeptO A s0 (execCutStart s) := by
  unfold execCutStart
  refine KeptO.next ?_
  refine kept_cutStart ?_ (mask_sub (by decide) hA)
  · exact h_s
theorem kept_cutWaited {A : Nat} {s0 : State} {s : Sys2Proof.Machine.State} (h_s : Kept A s0 s) (hA : 2502488466143768 ||| A = A) :
    Kept A s0 (State.cutWaited s) := by
  unfold State.cutWaited
  refine Kept.ite ?_ ?_
  · refine kept_startCut ?_ (mask_sub (by decide) hA)
    · exact h_s
  · exact h_s
theorem kept_channelMarker {A : Nat} {s0 : State} {s : Sys2Proof.Machine.State} {c : Sys2Proof.Channel} {sent : Nat} (h_s : Kept A s0 s) (hA : 1368748719344952039259960 ||| A = A) :
    Kept A s0 (channelMarker s c sent) := by
  unfold channelMarker
  extract_lets -merge -useContext -underBinder x1 x2 x3
  have h2 : Kept A s0 x2 := by
    unfold x2
    refine kept_updChan ?_ (mask_sub (by decide) hA)
    · exact h_s
  clear_value x2
  refine Kept.ite ?_ ?_
  · exact h_s
  · refine Kept.ite ?_ ?_
    · exact h2
    · refine kept_chanFail ?_ (mask_sub (by decide) hA)
      · exact h2
theorem kept_coreStopped {A : Nat} {s0 : State} {s : Sys2Proof.Machine.State} {k : Nat} {p : Nat} (h_s : Kept A s0 s) (hA : 268435456 ||| A = A) :
    Kept A s0 (coreStopped s k p) := by
  unfold coreStopped
  refine Kept.ite ?_ ?_
  · refine kept_updCore ?_ (mask_sub (by decide) hA)
    · exact h_s
  · exact h_s
theorem kept_execCoreStopped {A : Nat} {s0 : State} {k : Sys2Proof.ClusterId} {p : Sys2Proof.CoreId} {s : Sys2Proof.Machine.State} (h_s : Kept A s0 s) (hA : 268435456 ||| A = A) :
    KeptO A s0 (execCoreStopped k p s) := by
  unfold execCoreStopped
  refine KeptO.next ?_
  refine kept_coreStopped ?_ (mask_sub (by decide) hA)
  · exact h_s
theorem kept_cutDone {A : Nat} {s0 : State} {s : Sys2Proof.Machine.State} {u : Sys2Proof.Node} (h_s : Kept A s0 s) (hA : 281474976710784 ||| A = A) :
    Kept A s0 (cutDone s u) := by
  unfold cutDone
  extract_lets -merge -useContext -underBinder x1 x2 x3 x4 x5 x6 x7
  have h4 : Kept A s0 x4 := by
    unfold x4
    refine kept_each ?_ (fun _ _ h8 => ?_)
    · exact h_s
    · refine kept_showRun ?_ (mask_sub (by decide) hA)
      · exact h8
  have h5 : Kept A s0 x5 := by
    unfold x5
    refine kept_updCutUnit ?_ (mask_sub (by decide) hA)
    · exact h4
  clear_value x4 x5
  refine Kept.ite ?_ ?_
  · exact h_s
  · refine Kept.u_cutUnits ?_ (mask_sub (by decide) hA)
    exact h5
theorem kept_execCutDone {A : Nat} {s0 : State} {u : Sys2Proof.Node} {s : Sys2Proof.Machine.State} (h_s : Kept A s0 s) (hA : 281474976710784 ||| A = A) :
    KeptO A s0 (execCutDone u s) := by
  unfold execCutDone
  refine KeptO.next ?_
  refine kept_cutDone ?_ (mask_sub (by decide) hA)
  · exact h_s
theorem kept_cutReportTimeout {A : Nat} {s0 : State} {s : Sys2Proof.Machine.State} {f : Nat} {units : Nat} (h_s : Kept A s0 s) (hA : 371532583318798482968 ||| A = A) :
    Kept A s0 (cutReportTimeout s f units) := by
  unfold cutReportTimeout
  split
  · exact h_s
  · refine Kept.ite ?_ ?_
    · exact h_s
    · refine Kept.ite ?_ ?_
      · refine kept_completeCut ?_ (mask_sub (by decide) hA)
        · exact h_s
      · refine Kept.u_cut ?_ (mask_sub (by decide) hA)
        exact h_s
theorem kept_execChannelMarker {A : Nat} {s0 : State} {c : Sys2Proof.Channel} {sent : BitVec 32} {s : Sys2Proof.Machine.State} (h_s : Kept A s0 s) (hA : 1368748719344952039259960 ||| A = A) :
    KeptO A s0 (execChannelMarker c sent s) := by
  unfold execChannelMarker
  refine KeptO.next ?_
  refine kept_channelMarker ?_ (mask_sub (by decide) hA)
  · exact h_s
theorem kept_cutOverrun {A : Nat} {s0 : State} {s : Sys2Proof.Machine.State} (h_s : Kept A s0 s) (hA : 8 ||| A = A) :
    Kept A s0 (State.cutOverrun s) := by
  unfold State.cutOverrun
  refine kept_flag ?_ (mask_sub (by decide) hA)
  · exact h_s
theorem kept_resumeReq {A : Nat} {s0 : State} {s : Sys2Proof.Machine.State} (h_s : Kept A s0 s) (hA : 3628388372986392 ||| A = A) :
    Kept A s0 (State.resumeReq s) := by
  unfold State.resumeReq
  refine Kept.ite ?_ ?_
  · refine kept_resumeCut ?_ (mask_sub (by decide) hA)
    · exact h_s
  · refine kept_cutOverrun ?_ (mask_sub (by decide) hA)
    · exact h_s
theorem kept_execCutReportTimeout {A : Nat} {s0 : State} {f : Sys2Proof.FieldId} {units : Nat} {s : Sys2Proof.Machine.State} (h_s : Kept A s0 s) (hA : 371532583318798482968 ||| A = A) :
    KeptO A s0 (execCutReportTimeout f units s) := by
  unfold execCutReportTimeout
  refine KeptO.next ?_
  refine kept_cutReportTimeout ?_ (mask_sub (by decide) hA)
  · exact h_s
theorem kept_execStopCoreTimeout {A : Nat} {s0 : State} {k : Sys2Proof.ClusterId} {p : Sys2Proof.CoreId} {s : Sys2Proof.Machine.State} (h_s : Kept A s0 s) (hA : 35184372088832 ||| A = A) :
    KeptO A s0 (execStopCoreTimeout k p s) := by
  unfold execStopCoreTimeout
  refine KeptO.next ?_
  refine kept_stopCoreTimeout ?_ (mask_sub (by decide) hA)
  · exact h_s
theorem kept_execStopMaxTimeout {A : Nat} {s0 : State} {s : Sys2Proof.Machine.State} (h_s : Kept A s0 s) (hA : 3628388372986392 ||| A = A) :
    KeptO A s0 (execStopMaxTimeout s) := by
  unfold execStopMaxTimeout
  refine KeptO.next ?_
  refine kept_stopMaxTimeout ?_ (mask_sub (by decide) hA)
  · exact h_s
theorem kept_stopReq {A : Nat} {s0 : State} {s : Sys2Proof.Machine.State} {origin : Nat} (h_s : Kept A s0 s) (hA : 3628388372986392 ||| A = A) :
    Kept A s0 (State.stopReq s origin) := by
  unfold State.stopReq
  refine Kept.ite ?_ ?_
  · refine kept_raise ?_ (mask_sub (by decide) hA)
    · exact h_s
  · refine Kept.ite ?_ ?_
    · refine kept_cutOverrun ?_ (mask_sub (by decide) hA)
      · exact h_s
    · refine kept_startCut ?_ (mask_sub (by decide) hA)
      · refine Kept.u_stop ?_ (mask_sub (by decide) hA)
        exact h_s
theorem kept_cutGo {A : Nat} {s0 : State} {s : Sys2Proof.Machine.State} (h_s : Kept A s0 s) (hA : 2502488466143768 ||| A = A) :
    Kept A s0 (cutGo s) := by
  unfold cutGo
  refine Kept.ite ?_ ?_
  · refine kept_cutOverrun ?_ (mask_sub (by decide) hA)
    · exact h_s
  · refine Kept.ite ?_ ?_
    · refine Kept.u_cutDue ?_ (mask_sub (by decide) hA)
      exact h_s
    · refine kept_startCut ?_ (mask_sub (by decide) hA)
      · exact h_s
theorem kept_refclkRestore {A : Nat} {s0 : State} {s : Sys2Proof.Machine.State} {r : Nat} {us : Nat} (h_s : Kept A s0 s) (hA : 786968 ||| A = A) :
    Kept A s0 (refclkRestore s r us) := by
  unfold refclkRestore
  split
  · exact h_s
  · extract_lets -merge -useContext -underBinder x1 x2
    have h2 : Kept A s0 x2 := by
      unfold x2
      refine kept_each ?_ (fun _ _ h3 => ?_)
      · exact h_s
      · refine kept_updClock ?_ (mask_sub (by decide) hA)
        · exact h3
    clear_value x2
    refine kept_raise ?_ (mask_sub (by decide) hA)
    · refine Kept.u_refLost ?_ (mask_sub (by decide) hA)
      exact h2
theorem kept_setClamp {A : Nat} {s0 : State} {s : Sys2Proof.Machine.State} {r : Nat} {d : Sys2Proof.Dir} {q : Nat} {on : Bool} (h_s : Kept A s0 s) (hA : 4398046511640 ||| A = A) :
    Kept A s0 (State.setClamp s r d q on) := by
  unfold State.setClamp
  refine Kept.ite ?_ ?_
  · exact h_s
  · refine kept_raise ?_ (mask_sub (by decide) hA)
    · refine kept_updHall ?_ (mask_sub (by decide) hA)
      · exact h_s
theorem kept_lostRegionReturn {A : Nat} {s0 : State} {s : Sys2Proof.Machine.State} {r : Nat} (h_s : Kept A s0 s) (hA : 6222765086595456861356024 ||| A = A) :
    Kept A s0 (lostRegionReturn s r) := by
  unfold lostRegionReturn
  extract_lets -merge -useContext -underBinder x1 x2 x3
  have h1 : Kept A s0 x1 := by
    unfold x1
    refine kept_updHall ?_ (mask_sub (by decide) hA)
    · exact h_s
  have h2 : Kept A s0 x2 := by
    unfold x2
    refine kept_each ?_ (fun _ _ h4 => ?_)
    · exact h1
    · split
      · refine Kept.ite ?_ ?_
        · exact h4
        · refine kept_setClamp ?_ (mask_sub (by decide) hA)
          · exact h4
      · exact h4
  clear_value x1 x2
  refine Kept.ite ?_ ?_
  · exact h_s
  · refine Kept.ite ?_ ?_
    · exact h2
    · refine kept_startPart ?_ (mask_sub (by decide) hA)
      · exact h2
theorem kept_execLostRegionReturn {A : Nat} {s0 : State} {r : Sys2Proof.RegionId} {s : Sys2Proof.Machine.State} (h_s : Kept A s0 s) (hA : 6222765086595456861356024 ||| A = A) :
    KeptO A s0 (execLostRegionReturn r s) := by
  unfold execLostRegionReturn
  refine KeptO.next ?_
  refine kept_lostRegionReturn ?_ (mask_sub (by decide) hA)
  · exact h_s
theorem kept_refclkLoss {A : Nat} {s0 : State} {s : Sys2Proof.Machine.State} {r : Nat} {missed : Nat} (h_s : Kept A s0 s) (hA : 288230444873812540 ||| A = A) :
    Kept A s0 (refclkLoss s r missed) := by
  unfold refclkLoss
  extract_lets -merge -useContext -underBinder x1
  have h1 : Kept A s0 x1 := by
    unfold x1
    refine kept_raise ?_ (mask_sub (by decide) hA)
    · refine Kept.u_refLost ?_ (mask_sub (by decide) hA)
      exact h_s
  clear_value x1
  refine Kept.ite ?_ ?_
  · exact h_s
  · refine kept_draw ?_ (mask_sub (by decide) hA)
    · refine kept_closeGates ?_ (mask_sub (by decide) hA)
      · exact h1
theorem kept_execRefclkLoss {A : Nat} {s0 : State} {r : Sys2Proof.RegionId} {missed : Nat} {s : Sys2Proof.Machine.State} (h_s : Kept A s0 s) (hA : 288230444873812540 ||| A = A) :
    KeptO A s0 (execRefclkLoss r missed s) := by
  unfold execRefclkLoss
  refine KeptO.next ?_
  refine kept_refclkLoss ?_ (mask_sub (by decide) hA)
  · exact h_s
theorem kept_replayStartTimeout {A : Nat} {s0 : State} {s : Sys2Proof.Machine.State} {k : Nat} (h_s : Kept A s0 s) (hA : 1360189427277106227985976 ||| A = A) :
    Kept A s0 (replayStartTimeout s k) := by
  unfold replayStartTimeout
  split
  · exact h_s
  · split
    · exact h_s
    · refine Kept.ite ?_ ?_
      · exact h_s
      · refine kept_replaysGo ?_ (mask_sub (by decide) hA)
        · refine kept_killUnreplayed ?_ (mask_sub (by decide) hA)
          · exact h_s
theorem kept_histUnstaged {A : Nat} {s0 : State} {s : Sys2Proof.Machine.State} (h_s : Kept A s0 s) (hA : 687194767360 ||| A = A) :
    Kept A s0 (State.histUnstaged s) := by
  unfold State.histUnstaged
  refine Kept.ite ?_ ?_
  · exact h_s
  · refine Kept.u_hist_histStaged ?_ (mask_sub (by decide) hA)
    exact h_s
theorem kept_isolate {A : Nat} {s0 : State} {s : Sys2Proof.Machine.State} {q : Nat} (h_s : Kept A s0 s) (hA : 4398046511640 ||| A = A) :
    Kept A s0 (State.isolate s q) := by
  unfold State.isolate
  refine kept_each ?_ (fun _ _ h1 => ?_)
  · exact h_s
  · split
    · exact h1
    · refine Kept.ite ?_ ?_
      · refine kept_setClamp ?_ (mask_sub (by decide) hA)
        · exact h1
      · exact h1
theorem kept_declareLost {A : Nat} {s0 : State} {s : Sys2Proof.Machine.State} {r : Nat} {oc : Bool} (h_s : Kept A s0 s) (hA : 6836748392094016017481720 ||| A = A) :
    Kept A s0 (State.declareLost s r oc) := by
  unfold State.declareLost
  extract_lets -merge -useContext -underBinder x1 x2 x3 x4 x5 x6 x7 x8 x9 x10 x11 x12 x13 x14 x15 x16 x17 x18
  have h5 : Kept A s0 x5 := by
    unfold x5
    refine kept_quietRegion ?_ (mask_sub (by decide) hA)
    · exact h_s
  have h6 : Kept A s0 x6 := by
    unfold x6
    refine kept_updHall ?_ (mask_sub (by decide) hA)
    · exact h5
  have h7 : Kept A s0 x7 := by
    unfold x7
    refine kept_wr ?_ (mask_sub (by decide) hA)
    · exact h6
  have h8 : Kept A s0 x8 := by
    unfold x8
    refine kept_raise ?_ (mask_sub (by decide) hA)
    · exact h7
  have h9 : Kept A s0 x9 := by
    unfold x9
    refine kept_each ?_ (fun _ _ h20 => ?_)
    · exact h8
    · refine kept_raise ?_ (mask_sub (by decide) hA)
      · refine kept_killCtx ?_ (mask_sub (by decide) hA)
        · exact h20
  have h10 : Kept A s0 x10 := by
    unfold x10
    refine kept_resetRegion ?_ (mask_sub (by decide) hA)
    · exact h9
  have h11 : Kept A s0 x11 := by
    unfold x11
    refine kept_each ?_ (fun _ _ h19 => ?_)
    · exact h10
    · refine kept_updPort ?_ (mask_sub (by decide) hA)
      · refine kept_updSeg ?_ (mask_sub (by decide) hA)
        · refine kept_updReplayOf ?_ (mask_sub (by decide) hA)
          · exact h19
  have h12 : Kept A s0 x12 := by
    unfold x12
    refine kept_updVerdictsOf ?_ (mask_sub (by decide) hA)
    · exact h11
  have h13 : Kept A s0 x13 := by
    unfold x13
    refine Kept.u_hangs_voids_thm_resetsDue ?_ (mask_sub (by decide) hA)
    exact h12
  have h14 : Kept A s0 x14 := by
    unfold x14
    refine kept_flag ?_ (mask_sub (by decide) hA)
    · refine kept_wr ?_ (mask_sub (by decide) hA)
      · refine kept_wr ?_ (mask_sub (by decide) hA)
        · exact h13
  have h15 : Kept A s0 x15 := by
    unfold x15
    refine kept_updProc ?_ (mask_sub (by decide) hA)
    · refine kept_updHall ?_ (mask_sub (by decide) hA)
      · exact h14
  have h16 : Kept A s0 x16 := by
    unfold x16
    refine kept_notifyList ?_ (mask_sub (by decide) hA)
    · refine kept_notifyRegion ?_ (mask_sub (by decide) hA)
      · exact h15
  have h17 : Kept A s0 x17 := by
    unfold x17
    refine kept_updAct ?_ (mask_sub (by decide) hA)
    · refine kept_mapChanged ?_ (mask_sub (by decide) hA)
      · refine kept_emergCheck ?_ (mask_sub (by decide) hA)
        · refine kept_seedAnswered ?_ (mask_sub (by decide) hA)
          · exact h16
  have h18 : Kept A s0 x18 := by
    unfold x18
    refine Kept.ite ?_ ?_
    · refine kept_unmirror ?_ (mask_sub (by decide) hA)
      · refine kept_updBrew ?_ (mask_sub (by decide) hA)
        · exact h17
    · exact h17
  clear_value x5 x6 x7 x8 x9 x10 x11 x12 x13 x14 x15 x16 x17 x18
  refine Kept.ite ?_ ?_
  · refine kept_updHall ?_ (mask_sub (by decide) hA)
    · exact h_s
  · refine kept_actGo ?_ (mask_sub (by decide) hA)
    · refine kept_showHold ?_ (mask_sub (by decide) hA)
      · exact h18
theorem kept_lossAsked {A : Nat} {s0 : State} {s : Sys2Proof.Machine.State} {r : Nat} (h_s : Kept A s0 s) (hA : 4398046511104 ||| A = A) :
    Kept A s0 (State.lossAsked s r) := by
  unfold State.lossAsked
  refine kept_each ?_ (fun _ _ h1 => ?_)
  · exact h_s
  · refine Kept.ite ?_ ?_
    · exact h1
    · refine kept_hallAsk ?_ (mask_sub (by decide) hA)
      · exact h1
theorem kept_pgLossRecognised {A : Nat} {s0 : State} {s : Sys2Proof.Machine.State} {r : Nat} (h_s : Kept A s0 s) (hA : 6836748392094703212249080 ||| A = A) :
    Kept A s0 (pgLossRecognised s r) := by
  unfold pgLossRecognised
  extract_lets -merge -useContext -underBinder x1 x2
  have h1 : Kept A s0 x1 := by
    unfold x1
    refine kept_raise ?_ (mask_sub (by decide) hA)
    · refine kept_histUnstaged ?_ (mask_sub (by decide) hA)
      · refine kept_updHall ?_ (mask_sub (by decide) hA)
        · exact h_s
  have h2 : Kept A s0 x2 := by
    unfold x2
    refine kept_emergCheck ?_ (mask_sub (by decide) hA)
    · refine kept_isolate ?_ (mask_sub (by decide) hA)
      · exact h1
  clear_value x1 x2
  refine Kept.ite ?_ ?_
  · exact h_s
  · refine Kept.ite ?_ ?_
    · refine kept_declareLost ?_ (mask_sub (by decide) hA)
      · exact h2
    · refine kept_lossAsked ?_ (mask_sub (by decide) hA)
      · exact h2
theorem kept_pulse {A : Nat} {s0 : State} {s : Sys2Proof.Machine.State} {ws : List Sys2Proof.Bh} (h_s : Kept A s0 s) (hA : 2048 ||| A = A) :
    Kept A s0 (State.pulse s ws) := by
  unfold State.pulse
  refine Kept.ite ?_ ?_
  · refine kept_emit ?_ (mask_sub (by decide) hA)
    · exact h_s
  · exact h_s
theorem kept_chipResetWatchdog {A : Nat} {s0 : State} {s : Sys2Proof.Machine.State} (h_s : Kept A s0 s) (hA : 2417851639229258349414936 ||| A = A) :
    Kept A s0 (chipResetWatchdog s) := by
  unfold chipResetWatchdog
  extract_lets -merge -useContext -underBinder x1 x2 x3 x4
  have h2 : Kept A s0 x2 := by
    unfold x2
    refine Kept.u_pad ?_ (mask_sub (by decide) hA)
    exact h_s
  clear_value x2
  refine Kept.ite ?_ ?_
  · exact h_s
  · refine Kept.ite ?_ ?_
    · refine kept_pulse ?_ (mask_sub (by decide) hA)
      · refine Kept.u_pad ?_ (mask_sub (by decide) hA)
        exact h2
    · refine Kept.ite ?_ ?_
      · refine kept_raise ?_ (mask_sub (by decide) hA)
        · exact h2
      · refine Kept.u_pad ?_ (mask_sub (by decide) hA)
        exact h2
theorem kept_execChipResetWatchdog {A : Nat} {s0 : State} {s : Sys2Proof.Machine.State} (h_s : Kept A s0 s) (hA : 2417851639229258349414936 ||| A = A) :
    KeptO A s0 (execChipResetWatchdog s) := by
  unfold execChipResetWatchdog
  refine KeptO.next ?_
  refine kept_chipResetWatchdog ?_ (mask_sub (by decide) hA)
  · exact h_s
theorem kept_clampRelease {A : Nat} {s0 : State} {s : Sys2Proof.Machine.State} {r : Nat} {d : Sys2Proof.Dir} (h_s : Kept A s0 s) (hA : 4398046511640 ||| A = A) :
    Kept A s0 (clampRelease s r d) := by
  unfold clampRelease
  split
  · exact h_s
  · extract_lets -merge -useContext -underBinder x1
    refine Kept.ite ?_ ?_
    · exact h_s
    · refine kept_setClamp ?_ (mask_sub (by decide) hA)
      · exact h_s
theorem kept_execRefclkRestore {A : Nat} {s0 : State} {r : Sys2Proof.RegionId} {us : Nat} {s : Sys2Proof.Machine.State} (h_s : Kept A s0 s) (hA : 786968 ||| A = A) :
    KeptO A s0 (execRefclkRestore r us s) := by
  unfold execRefclkRestore
  refine KeptO.next ?_
  refine kept_refclkRestore ?_ (mask_sub (by decide) hA)
  · exact h_s
theorem kept_execClampApply {A : Nat} {s0 : State} {r : Sys2Proof.RegionId} {d : Sys2Proof.Dir} {s : Sys2Proof.Machine.State} (h_s : Kept A s0 s) (hA : 4398046511640 ||| A = A) :
    KeptO A s0 (execClampApply r d s) := by
  unfold execClampApply
  refine KeptO.next ?_
  split
  · refine kept_setClamp ?_ (mask_sub (by decide) hA)
    · exact h_s
  · exact h_s
theorem kept_execReplayStartTimeout {A : Nat} {s0 : State} {k : Sys2Proof.ClusterId} {s : Sys2Proof.Machine.State} (h_s : Kept A s0 s) (hA : 1360189427277106227985976 ||| A = A) :
    KeptO A s0 (execReplayStartTimeout k s) := by
  unfold execReplayStartTimeout
  refine KeptO.next ?_
  refine kept_replayStartTimeout ?_ (mask_sub (by decide) hA)
  · exact h_s
theorem kept_settle {A : Nat} {s0 : State} {s : Sys2Proof.Machine.State} (h_s : Kept A s0 s) (hA : 77378632650420267588534072 ||| A = A) :
    Kept A s0 (State.settle s) := by
  unfold State.settle
  extract_lets -merge -useContext -underBinder x1
  have h1 : Kept A s0 x1 := by
    unfold x1
    refine kept_each ?_ (fun _ _ h2 => ?_)
    · exact h_s
    · refine kept_eventRecord ?_ (mask_sub (by decide) hA)
      · exact h2
  clear_value x1
  refine kept_histProgram ?_ (mask_sub (by decide) hA)
  · refine kept_atticFlush ?_ (mask_sub (by decide) hA)
    · exact h1
theorem kept_overcurrentRecognised {A : Nat} {s0 : State} {s : Sys2Proof.Machine.State} {r : Nat} (h_s : Kept A s0 s) (hA : 6836748392094016017481720 ||| A = A) :
    Kept A s0 (overcurrentRecognised s r) := by
  unfold overcurrentRecognised
  extract_lets -merge -useContext -underBinder x1 x2
  have h1 : Kept A s0 x1 := by
    unfold x1
    refine kept_raise ?_ (mask_sub (by decide) hA)
    · refine kept_updHall ?_ (mask_sub (by decide) hA)
      · exact h_s
  have h2 : Kept A s0 x2 := by
    unfold x2
    refine kept_emergCheck ?_ (mask_sub (by decide) hA)
    · refine kept_isolate ?_ (mask_sub (by decide) hA)
      · exact h1
  clear_value x1 x2
  refine Kept.ite ?_ ?_
  · exact h_s
  · refine Kept.ite ?_ ?_
    · refine kept_declareLost ?_ (mask_sub (by decide) hA)
      · exact h2
    · refine kept_lossAsked ?_ (mask_sub (by decide) hA)
      · exact h2
theorem kept_execClampRelease {A : Nat} {s0 : State} {r : Sys2Proof.RegionId} {d : Sys2Proof.Dir} {s : Sys2Proof.Machine.State} (h_s : Kept A s0 s) (hA : 4398046511640 ||| A = A) :
    KeptO A s0 (execClampRelease r d s) := by
  unfold execClampRelease
  refine KeptO.next ?_
  refine kept_clampRelease ?_ (mask_sub (by decide) hA)
  · exact h_s
theorem kept_powerCycle {A : Nat} {s0 : State} {s : Sys2Proof.Machine.State} {cause : Nat} (h_s : Kept A s0 s) (hA : 79796484289649525937946424 ||| A = A) :
    KeptR A s0 (State.powerCycle s cause) := by
  unfold State.powerCycle
  extract_lets -merge -useContext -underBinder x1 x2 x3 x4 x5 x6
  have h3 : Kept A s0 x3 := by
    unfold x3
    refine Kept.u_pad ?_ (mask_sub (by decide) hA)
    exact h_s
  have h4 : Kept A s0 x4 := by
    unfold x4
    refine Kept.ite ?_ ?_
    · refine kept_wr ?_ (mask_sub (by decide) hA)
      · exact h3
    · exact h3
  have h5 : Kept A s0 x5 := by
    unfold x5
    refine kept_padRewrite ?_ (mask_sub (by decide) hA)
    · refine kept_wr ?_ (mask_sub (by decide) hA)
      · refine kept_bump ?_ (mask_sub (by decide) hA)
        · exact h4
  have h6 : Kept A s0 x6 := by
    unfold x6
    refine kept_mgmtPut ?_ (mask_sub (by decide) hA)
    · exact h5
  clear_value x3 x4 x5 x6
  refine KeptR.ite ?_ ?_
  · refine KeptR.mk ?_
    exact h_s
  · refine KeptR.ite ?_ ?_
    · refine KeptR.mk ?_
      refine kept_raise ?_ (mask_sub (by decide) hA)
      · exact h_s
    · refine KeptR.mk ?_
      refine kept_pulse ?_ (mask_sub (by decide) hA)
      · refine kept_settle ?_ (mask_sub (by decide) hA)
        · refine kept_raise ?_ (mask_sub (by decide) hA)
          · exact h6
theorem kept_execPowerCycleRequest {A : Nat} {s0 : State} {cause : Sys2Proof.PcCause} {s : Sys2Proof.Machine.State} (h_s : Kept A s0 s) (hA : 79796484289649525937946424 ||| A = A) :
    KeptO A s0 (execPowerCycleRequest cause s) := by
  unfold execPowerCycleRequest
  refine KeptO.next ?_
  refine KeptR.snd ?_
  refine kept_powerCycle ?_ (mask_sub (by decide) hA)
  · exact h_s
theorem kept_sliceStatus {A : Nat} {s0 : State} {s : Sys2Proof.Machine.State} {c : Nat} {st : Nat} (h_s : Kept A s0 s) (hA : 8 ||| A = A) :
    Kept A s0 (State.sliceStatus s c st) := by
  unfold State.sliceStatus
  refine kept_wr ?_ (mask_sub (by decide) hA)
  · exact h_s
theorem kept_sliceVerify {A : Nat} {s0 : State} {s : Sys2Proof.Machine.State} {c : Nat} (h_s : Kept A s0 s) (hA : 4611686018427388440 ||| A = A) :
    Kept A s0 (sliceVerify s c) := by
  unfold sliceVerify
  extract_lets -merge -useContext -underBinder x1
  split
  · refine Kept.ite ?_ ?_
    · refine kept_sliceStatus ?_ (mask_sub (by decide) hA)
      · refine kept_updCel ?_ (mask_sub (by decide) hA)
        · refine kept_sliceState ?_ (mask_sub (by decide) hA)
          · exact h_s
    · refine kept_sliceStatus ?_ (mask_sub (by decide) hA)
      · exact h_s
  · refine kept_sliceStatus ?_ (mask_sub (by decide) hA)
    · exact h_s
theorem kept_sendDigest {A : Nat} {s0 : State} {s : Sys2Proof.Machine.State} {c : Nat} {i : Nat} (h_s : Kept A s0 s) (hA : 4398056224816 ||| A = A) :
    Kept A s0 (State.sendDigest s c i) := by
  unfold State.sendDigest
  extract_lets -merge -useContext -underBinder x1
  split
  · exact h_s
  · refine Kept.ite ?_ ?_
    · exact h_s
    · refine kept_each ?_ (fun _ _ h2 => ?_)
      · exact h_s
      · split
        · refine kept_sendRec ?_ (mask_sub (by decide) hA)
          · exact h2
        · exact h2
theorem kept_rotDrop {A : Nat} {s0 : State} {s : Sys2Proof.Machine.State} {c : Nat} {i : Nat} (h_s : Kept A s0 s) (hA : 4611686018427387904 ||| A = A) :
    Kept A s0 (State.rotDrop s c i) := by
  unfold State.rotDrop
  refine kept_updCel ?_ (mask_sub (by decide) hA)
  · exact h_s
theorem kept_rotOut {A : Nat} {s0 : State} {s : Sys2Proof.Machine.State} {c : Nat} {i : Nat} {add : Bool} (h_s : Kept A s0 s) (hA : 4611686018427387904 ||| A = A) :
    Kept A s0 (State.rotOut s c i add) := by
  unfold State.rotOut
  split
  · exact h_s
  · refine Kept.ite ?_ ?_
    · exact h_s
    · refine kept_rotDrop ?_ (mask_sub (by decide) hA)
      · refine kept_updCel ?_ (mask_sub (by decide) hA)
        · exact h_s
theorem kept_skipSlice {A : Nat} {s0 : State} {s : Sys2Proof.Machine.State} {c : Nat} {i : Nat} (h_s : Kept A s0 s) (hA : 4611686018427387960 ||| A = A) :
    Kept A s0 (State.skipSlice s c i) := by
  unfold State.skipSlice
  extract_lets -merge -useContext -underBinder x1
  have h1 : Kept A s0 x1 := by
    unfold x1
    refine kept_rotOut ?_ (mask_sub (by decide) hA)
    · refine kept_count ?_ (mask_sub (by decide) hA)
      · exact h_s
  clear_value x1
  split
  · exact h1
  · split
    · refine kept_needAgain ?_ (mask_sub (by decide) hA)
      · exact h1
    · exact h1
theorem kept_rotEnd {A : Nat} {s0 : State} {s : Sys2Proof.Machine.State} {c : Nat} (h_s : Kept A s0 s) (hA : 4611686018427387960 ||| A = A) :
    Kept A s0 (State.rotEnd s c) := by
  unfold State.rotEnd
  extract_lets -merge -useContext -underBinder x1 x2 x3
  have h3 : Kept A s0 x3 := by
    unfold x3
    refine kept_updCel ?_ (mask_sub (by decide) hA)
    · refine kept_count ?_ (mask_sub (by decide) hA)
      · exact h_s
  clear_value x3
  refine Kept.ite ?_ ?_
  · exact h_s
  · refine kept_wr ?_ (mask_sub (by decide) hA)
    · exact h3
theorem kept_rotFeed {A : Nat} {s0 : State} {s : Sys2Proof.Machine.State} {c : Nat} (h_s : Kept A s0 s) (hA : 4611686018427387960 ||| A = A) :
    Kept A s0 (State.rotFeed s c) := by
  unfold State.rotFeed
  extract_lets -merge -useContext -underBinder x1 x2
  have h1 : Kept A s0 x1 := by
    unfold x1
    refine kept_each ?_ (fun _ _ h3 => ?_)
    · exact h_s
    · split
      · refine Kept.ite ?_ ?_
        · refine kept_skipSlice ?_ (mask_sub (by decide) hA)
          · exact h3
        · exact h3
      · exact h3
  have h2 : Kept A s0 x2 := by
    unfold x2
    refine kept_updCel ?_ (mask_sub (by decide) hA)
    · exact h1
  clear_value x1 x2
  refine kept_rotEnd ?_ (mask_sub (by decide) hA)
  · refine kept_wr ?_ (mask_sub (by decide) hA)
    · exact h2
theorem kept_rotDone {A : Nat} {s0 : State} {s : Sys2Proof.Machine.State} {c : Nat} {i : Nat} {add : Bool} (h_s : Kept A s0 s) (hA : 4611686018427387960 ||| A = A) :
    Kept A s0 (State.rotDone s c i add) := by
  unfold State.rotDone
  refine kept_rotFeed ?_ (mask_sub (by decide) hA)
  · refine kept_rotOut ?_ (mask_sub (by decide) hA)
    · exact h_s
theorem kept_notifySlice {A : Nat} {s0 : State} {s : Sys2Proof.Machine.State} {c : Nat} {i : Nat} (h_s : Kept A s0 s) (hA : 288230376151712280 ||| A = A) :
    Kept A s0 (State.notifySlice s c i) := by
  unfold State.notifySlice
  refine Kept.ite ?_ ?_
  · exact h_s
  · refine kept_notify ?_ (mask_sub (by decide) hA)
    · exact h_s
theorem kept_sliceCmdEnd {A : Nat} {s0 : State} {s : Sys2Proof.Machine.State} {c : Nat} {i : Nat} (h_s : Kept A s0 s) (hA : 4899916394579100184 ||| A = A) :
    Kept A s0 (State.sliceCmdEnd s c i) := by
  unfold State.sliceCmdEnd
  refine Kept.ite ?_ ?_
  · exact h_s
  · refine kept_notifySlice ?_ (mask_sub (by decide) hA)
    · refine kept_sliceStatus ?_ (mask_sub (by decide) hA)
      · refine kept_updCel ?_ (mask_sub (by decide) hA)
        · exact h_s
end Sys2Proof.Machine
end

