-- ==== Sys2Proof/Laws/Kept5.lean ====
section
/-! SUPPORT. What every operation on the state keeps, part 6: callees come before their callers. -/
namespace Sys2Proof.Machine
open Sys2Proof Host
theorem kept_askThird {A : Nat} {s0 : State} {s : Sys2Proof.Machine.State} {c : Nat} {i : Nat} {e : Sys2Proof.SliceEnt} (h_s : Kept A s0 s) (hA : 4611690416483612720 ||| A = A) :
    Kept A s0 (State.askThird s c i e) := by
  unfold State.askThird
  extract_lets -merge -useContext -underBinder x1 x2 x3 x4
  have h4 : Kept A s0 x4 := by
    unfold x4
    refine kept_updCel ?_ (mask_sub (by decide) hA)
    · exact h_s
  clear_value x4
  refine Kept.ite ?_ ?_
  · exact h_s
  · split
    · refine kept_sendRec ?_ (mask_sub (by decide) hA)
      · exact h4
    · exact h4
theorem kept_compareSlice {A : Nat} {s0 : State} {s : Sys2Proof.Machine.State} {c : Nat} {i : Nat} {fresh : Bool} (h_s : Kept A s0 s) (hA : 4611690416483613240 ||| A = A) :
    Kept A s0 (State.compareSlice s c i fresh) := by
  unfold State.compareSlice
  extract_lets -merge -useContext -underBinder x1
  split
  · exact h_s
  · refine Kept.ite ?_ ?_
    · exact h_s
    · refine Kept.ite ?_ ?_
      · refine Kept.ite ?_ ?_
        · refine kept_count ?_ (mask_sub (by decide) hA)
          · refine kept_sliceState ?_ (mask_sub (by decide) hA)
            · exact h_s
        · refine kept_needRepair ?_ (mask_sub (by decide) hA)
          · refine kept_raise ?_ (mask_sub (by decide) hA)
            · refine kept_sliceState ?_ (mask_sub (by decide) hA)
              · refine kept_count ?_ (mask_sub (by decide) hA)
                · exact h_s
      · refine Kept.ite ?_ ?_
        · refine Kept.ite ?_ ?_
          · refine kept_count ?_ (mask_sub (by decide) hA)
            · exact h_s
          · exact h_s
        · refine Kept.ite ?_ ?_
          · refine kept_updCel ?_ (mask_sub (by decide) hA)
            · refine kept_count ?_ (mask_sub (by decide) hA)
              · refine kept_sliceState ?_ (mask_sub (by decide) hA)
                · exact h_s
          · refine kept_askThird ?_ (mask_sub (by decide) hA)
            · refine kept_count ?_ (mask_sub (by decide) hA)
              · refine kept_sliceState ?_ (mask_sub (by decide) hA)
                · exact h_s
theorem kept_sliceDigested {A : Nat} {s0 : State} {s : Sys2Proof.Machine.State} {c : Nat} {i : Nat} {e : Sys2Proof.SliceEnt} {d : Nat} (h_s : Kept A s0 s) (hA : 300047825971988150840 ||| A = A) :
    Kept A s0 (State.sliceDigested s c i e d) := by
  unfold State.sliceDigested
  extract_lets -merge -useContext -underBinder x1 x2 x3 x4
  have h2 : Kept A s0 x2 := by
    unfold x2
    refine kept_updSlice ?_ (mask_sub (by decide) hA)
    · exact h_s
  have h3 : Kept A s0 x3 := by
    unfold x3
    refine Kept.ite ?_ ?_
    · refine Kept.ite ?_ ?_
      · refine Kept.ite ?_ ?_
        · refine kept_recordSlice ?_ (mask_sub (by decide) hA)
          · refine kept_compareSlice ?_ (mask_sub (by decide) hA)
            · refine kept_sliceState ?_ (mask_sub (by decide) hA)
              · exact h2
        · refine kept_raise ?_ (mask_sub (by decide) hA)
          · refine kept_sliceState ?_ (mask_sub (by decide) hA)
            · exact h2
      · refine kept_compareSlice ?_ (mask_sub (by decide) hA)
        · refine kept_sliceState ?_ (mask_sub (by decide) hA)
          · exact h2
    · refine kept_compareSlice ?_ (mask_sub (by decide) hA)
      · exact h2
  have h4 : Kept A s0 x4 := by
    unfold x4
    refine Kept.ite ?_ ?_
    · exact h3
    · refine kept_sendDigest ?_ (mask_sub (by decide) hA)
      · exact h3
  clear_value x2 x3 x4
  refine kept_sliceCmdEnd ?_ (mask_sub (by decide) hA)
  · refine kept_rotDone ?_ (mask_sub (by decide) hA)
    · exact h4
theorem kept_sliceDigestDone {A : Nat} {s0 : State} {s : Sys2Proof.Machine.State} {c : Nat} {i : Nat} {bs : List Sys2Proof.Byte} {ce : List Nat} {ue : List Nat} (h_s : Kept A s0 s) (hA : 7383617819442339397432 ||| A = A) :
    Kept A s0 (sliceDigestDone s c i bs ce ue) := by
  unfold sliceDigestDone
  split
  · exact h_s
  · extract_lets -merge -useContext -underBinder x1 x2 x3
    have h1 : Kept A s0 x1 := by
      unfold x1
      refine kept_mntErrors ?_ (mask_sub (by decide) hA)
      · refine kept_count ?_ (mask_sub (by decide) hA)
        · exact h_s
    have h3 : Kept A s0 x3 := by
      unfold x3
      refine kept_each ?_ (fun _ _ h4 => ?_)
      · exact h1
      · extract_lets -merge -useContext -underBinder x5
        have h5 : Kept A s0 x5 := by
          unfold x5
          refine Kept.ite ?_ ?_
          · refine kept_histEntry ?_ (mask_sub (by decide) hA)
            · exact h4
          · exact h4
        clear_value x5
        refine kept_updCel ?_ (mask_sub (by decide) hA)
        · refine kept_each ?_ (fun _ _ h6 => ?_)
          · exact h5
          · refine kept_psnEnter ?_ (mask_sub (by decide) hA)
            · exact h6
    clear_value x1 x3
    refine Kept.ite ?_ ?_
    · exact h_s
    · refine Kept.ite ?_ ?_
      · refine kept_rotOut ?_ (mask_sub (by decide) hA)
        · refine kept_count ?_ (mask_sub (by decide) hA)
          · exact h_s
      · refine Kept.ite ?_ ?_
        · refine kept_rotDone ?_ (mask_sub (by decide) hA)
          · refine kept_needAgain ?_ (mask_sub (by decide) hA)
            · exact h1
        · refine Kept.ite ?_ ?_
          · refine kept_rotFeed ?_ (mask_sub (by decide) hA)
            · refine kept_skipSlice ?_ (mask_sub (by decide) hA)
              · exact h1
          · split
            · refine kept_sliceCmdEnd ?_ (mask_sub (by decide) hA)
              · refine kept_rotDone ?_ (mask_sub (by decide) hA)
                · refine kept_raise ?_ (mask_sub (by decide) hA)
                  · refine kept_sliceState ?_ (mask_sub (by decide) hA)
                    · exact h3
            · refine Kept.ite ?_ ?_
              · refine kept_sliceDigested ?_ (mask_sub (by decide) hA)
                · exact h3
              · refine kept_rotDone ?_ (mask_sub (by decide) hA)
                · exact h3
theorem kept_execSliceDigestDone {A : Nat} {s0 : State} {c : Sys2Proof.StackId} {i : Fin 16384} {bytes : List Sys2Proof.Byte} {ce : List (BitVec 36)} {ue : List (BitVec 36)} {s : Sys2Proof.Machine.State} (h_s : Kept A s0 s) (hA : 7383618382392292818744 ||| A = A) :
    KeptO A s0 (execSliceDigestDone c i bytes ce ue s) := by
  unfold execSliceDigestDone
  refine KeptO.next ?_
  refine Kept.ite ?_ ?_
  · exact h_s
  · refine kept_sliceDigestDone ?_ (mask_sub (by decide) hA)
    · refine kept_item ?_ (mask_sub (by decide) hA)
      · exact h_s
theorem kept_digestTickSend {A : Nat} {s0 : State} {s : Sys2Proof.Machine.State} (h_s : Kept A s0 s) (hA : 29014219670755498240784432 ||| A = A) :
    Kept A s0 (digestTickSend s) := by
  unfold digestTickSend
  extract_lets -merge -useContext -underBinder x1 x2 x3
  have h1 : Kept A s0 x1 := by
    unfold x1
    refine kept_count ?_ (mask_sub (by decide) hA)
    · exact h_s
  have h2 : Kept A s0 x2 := by
    unfold x2
    refine Kept.u_tickAt_passSeen ?_ (mask_sub (by decide) hA)
    exact h1
  clear_value x1 x2
  refine Kept.ite ?_ ?_
  · exact h_s
  · refine kept_routePacket ?_ (mask_sub (by decide) hA)
    · exact h2
theorem kept_execDigestTickSend {A : Nat} {s0 : State} {s : Sys2Proof.Machine.State} (h_s : Kept A s0 s) (hA : 29014219670755498240784432 ||| A = A) :
    KeptO A s0 (execDigestTickSend s) := by
  unfold execDigestTickSend
  refine KeptO.next ?_
  refine Kept.ite ?_ ?_
  · exact h_s
  · refine kept_digestTickSend ?_ (mask_sub (by decide) hA)
    · exact h_s
theorem kept_rotStart {A : Nat} {s0 : State} {s : Sys2Proof.Machine.State} {c : Nat} (h_s : Kept A s0 s) (hA : 4611686018427387912 ||| A = A) :
    Kept A s0 (State.rotStart s c) := by
  unfold State.rotStart
  extract_lets -merge -useContext -underBinder x1 x2 x3 x4 x5 x6 x7 x8
  have h7 : Kept A s0 x7 := by
    unfold x7
    refine kept_updCel ?_ (mask_sub (by decide) hA)
    · exact h_s
  clear_value x7
  refine kept_wr ?_ (mask_sub (by decide) hA)
  · refine kept_wr ?_ (mask_sub (by decide) hA)
    · refine kept_wr ?_ (mask_sub (by decide) hA)
      · exact h7
theorem kept_digestTick {A : Nat} {s0 : State} {s : Sys2Proof.Machine.State} {c : Nat} (h_s : Kept A s0 s) (hA : 4611686018427389496 ||| A = A) :
    Kept A s0 (digestTick s c) := by
  unfold digestTick
  refine Kept.ite ?_ ?_
  · exact h_s
  · split
    · refine kept_mapWaits ?_ (mask_sub (by decide) hA)
      · exact h_s
    · extract_lets -merge -useContext -underBinder x1 x2 x3 x4 x5 x6
      have h2 : Kept A s0 x2 := by
        unfold x2
        refine Kept.ite ?_ ?_
        · exact h_s
        · refine kept_rotStart ?_ (mask_sub (by decide) hA)
          · exact h_s
      have h3 : Kept A s0 x3 := by
        unfold x3
        refine kept_updCel ?_ (mask_sub (by decide) hA)
        · exact h2
      have h5 : Kept A s0 x5 := by
        unfold x5
        refine kept_wr ?_ (mask_sub (by decide) hA)
        · exact h3
      have h6 : Kept A s0 x6 := by
        unfold x6
        refine Kept.ite ?_ ?_
        · refine kept_raiseOnce ?_ (mask_sub (by decide) hA)
          · refine kept_flag ?_ (mask_sub (by decide) hA)
            · refine kept_updCel ?_ (mask_sub (by decide) hA)
              · exact h5
        · exact h5
      clear_value x2 x3 x5 x6
      refine kept_rotFeed ?_ (mask_sub (by decide) hA)
      · exact h6
theorem kept_execDigestTick {A : Nat} {s0 : State} {c : Sys2Proof.StackId} {s : Sys2Proof.Machine.State} (h_s : Kept A s0 s) (hA : 4611686018427389496 ||| A = A) :
    KeptO A s0 (execDigestTick c s) := by
  unfold execDigestTick
  refine KeptO.next ?_
  refine Kept.ite ?_ ?_
  · exact h_s
  · refine kept_digestTick ?_ (mask_sub (by decide) hA)
    · exact h_s
theorem kept_sliceWrite {A : Nat} {s0 : State} {s : Sys2Proof.Machine.State} {c : Nat} (h_s : Kept A s0 s) (hA : 4611686018427387912 ||| A = A) :
    Kept A s0 (sliceWrite s c) := by
  unfold sliceWrite
  extract_lets -merge -useContext -underBinder x1 x2 x3 x4
  have h4 : Kept A s0 x4 := by
    unfold x4
    refine kept_updCel ?_ (mask_sub (by decide) hA)
    · exact h_s
  clear_value x4
  refine Kept.ite ?_ ?_
  · refine kept_sliceStatus ?_ (mask_sub (by decide) hA)
    · exact h_s
  · refine Kept.ite ?_ ?_
    · refine kept_sliceStatus ?_ (mask_sub (by decide) hA)
      · exact h_s
    · refine kept_showCel ?_ (mask_sub (by decide) hA)
      · refine kept_sliceStatus ?_ (mask_sub (by decide) hA)
        · exact h4
theorem kept_sliceRedigest {A : Nat} {s0 : State} {s : Sys2Proof.Machine.State} {c : Nat} (h_s : Kept A s0 s) (hA : 4611686018427387912 ||| A = A) :
    Kept A s0 (sliceRedigest s c) := by
  unfold sliceRedigest
  extract_lets -merge -useContext -underBinder x1
  split
  · refine Kept.ite ?_ ?_
    · refine kept_sliceStatus ?_ (mask_sub (by decide) hA)
      · refine kept_updCel ?_ (mask_sub (by decide) hA)
        · exact h_s
    · refine kept_sliceStatus ?_ (mask_sub (by decide) hA)
      · exact h_s
  · refine kept_sliceStatus ?_ (mask_sub (by decide) hA)
    · exact h_s
theorem kept_sliceDrop {A : Nat} {s0 : State} {s : Sys2Proof.Machine.State} {c : Nat} (h_s : Kept A s0 s) (hA : 4611686018427387912 ||| A = A) :
    Kept A s0 (sliceDrop s c) := by
  unfold sliceDrop
  extract_lets -merge -useContext -underBinder x1 x2 x3
  have h2 : Kept A s0 x2 := by
    unfold x2
    refine kept_rotDrop ?_ (mask_sub (by decide) hA)
    · refine kept_rangeOut ?_ (mask_sub (by decide) hA)
      · exact h_s
  have h3 : Kept A s0 x3 := by
    unfold x3
    refine kept_updCel ?_ (mask_sub (by decide) hA)
    · exact h2
  clear_value x2 x3
  refine kept_showCel ?_ (mask_sub (by decide) hA)
  · refine kept_sliceStatus ?_ (mask_sub (by decide) hA)
    · exact h3
theorem kept_scanEnd {A : Nat} {s0 : State} {s : Sys2Proof.Machine.State} {u : Nat} {code : Nat} {addr : Nat} {result : Option Nat} (h_s : Kept A s0 s) (hA : 67108876 ||| A = A) :
    Kept A s0 (State.scanEnd s u code addr result) := by
  unfold State.scanEnd
  extract_lets -merge -useContext -underBinder x1 x2 x3
  have h1 : Kept A s0 x1 := by
    unfold x1
    refine kept_updScan ?_ (mask_sub (by decide) hA)
    · exact h_s
  have h2 : Kept A s0 x2 := by
    unfold x2
    refine kept_flag ?_ (mask_sub (by decide) hA)
    · refine kept_wr ?_ (mask_sub (by decide) hA)
      · exact h1
  have h3 : Kept A s0 x3 := by
    unfold x3
    refine kept_wr ?_ (mask_sub (by decide) hA)
    · refine kept_wr ?_ (mask_sub (by decide) hA)
      · exact h2
  clear_value x1 x2 x3
  split
  · refine kept_wr ?_ (mask_sub (by decide) hA)
    · exact h3
  · refine kept_draw ?_ (mask_sub (by decide) hA)
    · refine kept_wr ?_ (mask_sub (by decide) hA)
      · exact h3
theorem kept_scanBegin {A : Nat} {s0 : State} {s : Sys2Proof.Machine.State} {v : Sys2Proof.ScanUnit} {origin : Nat} {p : Sys2Proof.Profile} {sp : Nat} {start : Nat} {len : Nat} {cmp : Bool} {exp : Nat} (h_s : Kept A s0 s) (hA : 67108876 ||| A = A) :
    Kept A s0 (State.scanBegin s v origin p sp start len cmp exp) := by
  unfold State.scanBegin
  extract_lets -merge -useContext -underBinder x1 x2 x3
  have h2 : Kept A s0 x2 := by
    unfold x2
    refine kept_updScan ?_ (mask_sub (by decide) hA)
    · exact h_s
  have h3 : Kept A s0 x3 := by
    unfold x3
    refine kept_wr ?_ (mask_sub (by decide) hA)
    · exact h2
  clear_value x2 x3
  refine Kept.ite ?_ ?_
  · refine kept_scanEnd ?_ (mask_sub (by decide) hA)
    · exact h3
  · refine Kept.ite ?_ ?_
    · refine kept_scanEnd ?_ (mask_sub (by decide) hA)
      · exact h3
    · split
      · refine kept_scanEnd ?_ (mask_sub (by decide) hA)
        · exact h3
      · refine Kept.ite ?_ ?_
        · refine kept_scanEnd ?_ (mask_sub (by decide) hA)
          · exact h3
        · refine kept_flag ?_ (mask_sub (by decide) hA)
          · refine kept_updScan ?_ (mask_sub (by decide) hA)
            · exact h3
theorem kept_scanGo {A : Nat} {s0 : State} {s : Sys2Proof.Machine.State} {v : Sys2Proof.ScanUnit} {data : Nat} (h_s : Kept A s0 s) (hA : 67108876 ||| A = A) :
    Kept A s0 (scanGo s v data) := by
  unfold scanGo
  extract_lets -merge -useContext -underBinder x1 x2
  have h2 : Kept A s0 x2 := by
    unfold x2
    refine kept_wr ?_ (mask_sub (by decide) hA)
    · refine kept_flag ?_ (mask_sub (by decide) hA)
      · exact h_s
  clear_value x2
  refine Kept.ite ?_ ?_
  · refine kept_flag ?_ (mask_sub (by decide) hA)
    · exact h_s
  · refine Kept.ite ?_ ?_
    · exact h2
    · refine Kept.ite ?_ ?_
      · refine kept_flag ?_ (mask_sub (by decide) hA)
        · exact h_s
      · refine kept_scanBegin ?_ (mask_sub (by decide) hA)
        · exact h2
theorem kept_scanPoison {A : Nat} {s0 : State} {s : Sys2Proof.Machine.State} {v : Sys2Proof.ScanUnit} {sp : Nat} {line : Nat} (h_s : Kept A s0 s) (hA : 67109404 ||| A = A) :
    Kept A s0 (State.scanPoison s v sp line) := by
  unfold State.scanPoison
  refine kept_raise ?_ (mask_sub (by decide) hA)
  · refine kept_scanEnd ?_ (mask_sub (by decide) hA)
    · exact h_s
theorem kept_scanErr {A : Nat} {s0 : State} {s : Sys2Proof.Machine.State} {v : Sys2Proof.ScanUnit} {sp : Nat} {line : Nat} {err : Sys2Proof.ReadErr} (h_s : Kept A s0 s) (hA : 7383617819442331008824 ||| A = A) :
    Kept A s0 (State.scanErr s v sp line err) := by
  unfold State.scanErr
  split
  · exact h_s
  · extract_lets -merge -useContext -underBinder x1
    refine kept_mntErrors ?_ (mask_sub (by decide) hA)
    · exact h_s
theorem kept_scanLineDone {A : Nat} {s0 : State} {s : Sys2Proof.Machine.State} {v : Sys2Proof.ScanUnit} {data : List Sys2Proof.Byte} {err : Sys2Proof.ReadErr} (h_s : Kept A s0 s) (hA : 7383617819442398117692 ||| A = A) :
    Kept A s0 (scanLineDone s v data err) := by
  unfold scanLineDone
  extract_lets -merge -useContext -underBinder x1 x2 x3 x4 x5 x6 x7 x8 x9 x10 x11 x12 x13 x14
  have h6 : Kept A s0 x6 := by
    unfold x6
    split
    · refine kept_count ?_ (mask_sub (by decide) hA)
      · exact h_s
    · exact h_s
  have h7 : Kept A s0 x7 := by
    unfold x7
    refine kept_scanErr ?_ (mask_sub (by decide) hA)
    · exact h6
  have h12 : Kept A s0 x12 := by
    unfold x12
    refine kept_updScan ?_ (mask_sub (by decide) hA)
    · exact h7
  clear_value x6 x7 x12
  refine Kept.ite ?_ ?_
  · exact h_s
  · refine Kept.ite ?_ ?_
    · refine kept_scanPoison ?_ (mask_sub (by decide) hA)
      · exact h_s
    · refine Kept.ite ?_ ?_
      · refine kept_scanPoison ?_ (mask_sub (by decide) hA)
        · exact h7
      · refine Kept.ite ?_ ?_
        · refine Kept.ite ?_ ?_
          · refine kept_raise ?_ (mask_sub (by decide) hA)
            · refine kept_scanEnd ?_ (mask_sub (by decide) hA)
              · exact h12
          · refine kept_scanEnd ?_ (mask_sub (by decide) hA)
            · exact h12
        · refine Kept.ite ?_ ?_
          · refine kept_raise ?_ (mask_sub (by decide) hA)
            · refine kept_scanEnd ?_ (mask_sub (by decide) hA)
              · exact h12
          · exact h12
theorem kept_scanAbort {A : Nat} {s0 : State} {s : Sys2Proof.Machine.State} {v : Sys2Proof.ScanUnit} (h_s : Kept A s0 s) (hA : 67108864 ||| A = A) :
    Kept A s0 (scanAbort s v) := by
  unfold scanAbort
  extract_lets -merge -useContext -underBinder x1
  refine Kept.ite ?_ ?_
  · refine kept_updScan ?_ (mask_sub (by decide) hA)
    · exact h_s
  · exact h_s
theorem kept_scanProfileWrite {A : Nat} {s0 : State} {s : Sys2Proof.Machine.State} {v : Sys2Proof.ScanUnit} {data : Nat} (h_s : Kept A s0 s) (hA : 8 ||| A = A) :
    Kept A s0 (scanProfileWrite s v data) := by
  unfold scanProfileWrite
  extract_lets -merge -useContext -underBinder x1 x2
  refine Kept.ite ?_ ?_
  · refine Kept.ite ?_ ?_
    · refine kept_flag ?_ (mask_sub (by decide) hA)
      · refine kept_flag ?_ (mask_sub (by decide) hA)
        · refine kept_wr ?_ (mask_sub (by decide) hA)
          · refine kept_wr ?_ (mask_sub (by decide) hA)
            · exact h_s
    · exact h_s
  · split
    · exact h_s
    · extract_lets -merge -useContext -underBinder x3
      have h3 : Kept A s0 x3 := by
        unfold x3
        refine kept_flag ?_ (mask_sub (by decide) hA)
        · refine kept_flag ?_ (mask_sub (by decide) hA)
          · refine kept_wr ?_ (mask_sub (by decide) hA)
            · refine kept_wr ?_ (mask_sub (by decide) hA)
              · exact h_s
      clear_value x3
      refine kept_wr ?_ (mask_sub (by decide) hA)
      · refine kept_wr ?_ (mask_sub (by decide) hA)
        · refine kept_wr ?_ (mask_sub (by decide) hA)
          · exact h3
theorem kept_windowApply {A : Nat} {s0 : State} {s : Sys2Proof.Machine.State} {c : Nat} {data : Nat} (h_s : Kept A s0 s) (hA : 50331648 ||| A = A) :
    Kept A s0 (windowApply s c data) := by
  unfold windowApply
  extract_lets -merge -useContext -underBinder x1
  refine kept_updWinStream ?_ (mask_sub (by decide) hA)
  · refine kept_updWin ?_ (mask_sub (by decide) hA)
    · exact h_s
theorem kept_streamResync {A : Nat} {s0 : State} {s : Sys2Proof.Machine.State} {v : Sys2Proof.StreamUnit} {data : Nat} (h_s : Kept A s0 s) (hA : 41943040 ||| A = A) :
    Kept A s0 (streamResync s v data) := by
  unfold streamResync
  refine Kept.ite ?_ ?_
  · exact h_s
  · split
    · refine Kept.ite ?_ ?_
      · refine kept_updStream ?_ (mask_sub (by decide) hA)
        · exact h_s
      · exact h_s
    · refine kept_updWinStream ?_ (mask_sub (by decide) hA)
      · exact h_s
theorem kept_checkNext {A : Nat} {s0 : State} {s : Sys2Proof.Machine.State} {r : Nat} (h_s : Kept A s0 s) (hA : 67108876 ||| A = A) :
    Kept A s0 (State.checkNext s r) := by
  unfold State.checkNext
  extract_lets -merge -useContext -underBinder x1
  refine Kept.ite ?_ ?_
  · exact h_s
  · refine kept_scanBegin ?_ (mask_sub (by decide) hA)
    · exact h_s
theorem kept_askCheck {A : Nat} {s0 : State} {s : Sys2Proof.Machine.State} {r : Nat} {why : Nat} (h_s : Kept A s0 s) (hA : 151115727451828713947148 ||| A = A) :
    Kept A s0 (State.askCheck s r why) := by
  unfold State.askCheck
  extract_lets -merge -useContext -underBinder x1
  refine kept_checkNext ?_ (mask_sub (by decide) hA)
  · refine Kept.u_fw ?_ (mask_sub (by decide) hA)
    exact h_s
theorem kept_bootLoadDone {A : Nat} {s0 : State} {s : Sys2Proof.Machine.State} {k : Nat} {p : Nat} {bad : Bool} (h_s : Kept A s0 s) (hA : 151115727451828713947148 ||| A = A) :
    Kept A s0 (bootLoadDone s k p bad) := by
  unfold bootLoadDone
  extract_lets -merge -useContext -underBinder x1 x2 x3 x4 x5
  refine Kept.ite ?_ ?_
  · exact h_s
  · refine Kept.ite ?_ ?_
    · refine Kept.u_fw ?_ (mask_sub (by decide) hA)
      exact h_s
    · refine Kept.ite ?_ ?_
      · refine Kept.u_fw ?_ (mask_sub (by decide) hA)
        exact h_s
      · refine kept_askCheck ?_ (mask_sub (by decide) hA)
        · refine Kept.u_fw ?_ (mask_sub (by decide) hA)
          exact h_s
theorem kept_execBootLoadDone {A : Nat} {s0 : State} {k : Sys2Proof.ClusterId} {p : Sys2Proof.CoreId} {bad : Bool} {s : Sys2Proof.Machine.State} (h_s : Kept A s0 s) (hA : 151115727451828713947148 ||| A = A) :
    KeptO A s0 (execBootLoadDone k p bad s) := by
  unfold execBootLoadDone
  refine KeptO.next ?_
  refine kept_bootLoadDone ?_ (mask_sub (by decide) hA)
  · exact h_s
theorem kept_scopeLost {A : Nat} {s0 : State} {s : Sys2Proof.Machine.State} {p : Nat} (h_s : Kept A s0 s) (hA : 295456406232680906552 ||| A = A) :
    Kept A s0 (State.scopeLost s p) := by
  unfold State.scopeLost
  extract_lets -merge -useContext -underBinder x1 x2
  split
  · refine kept_updCore ?_ (mask_sub (by decide) hA)
    · exact h_s
  · refine kept_updCore ?_ (mask_sub (by decide) hA)
    · refine kept_updUnit ?_ (mask_sub (by decide) hA)
      · exact h_s
  · refine kept_adopt ?_ (mask_sub (by decide) hA)
    · exact h_s
  · refine kept_shutUnits ?_ (mask_sub (by decide) hA)
    · refine kept_updHall ?_ (mask_sub (by decide) hA)
      · exact h_s
  · refine kept_fenceStack ?_ (mask_sub (by decide) hA)
    · exact h_s
  · refine kept_shutLink ?_ (mask_sub (by decide) hA)
    · exact h_s
  · refine kept_fenceChan ?_ (mask_sub (by decide) hA)
    · exact h_s
  · extract_lets -merge -useContext -underBinder x3
    have h3 : Kept A s0 x3 := by
      unfold x3
      refine kept_updDoor ?_ (mask_sub (by decide) hA)
      · exact h_s
    clear_value x3
    refine kept_wr ?_ (mask_sub (by decide) hA)
    · exact h3
  · exact h_s
theorem kept_early {A : Nat} {s0 : State} {s : Sys2Proof.Machine.State} {code : Nat} {p : Nat} {p5 : Nat} {p6 : Nat} {p7 : Nat} {h : Option (Nat × Sys2Proof.HistEntry)} (h_s : Kept A s0 s) (hA : 151115727451828646838272 ||| A = A) :
    Kept A s0 (State.early s code p p5 p6 p7 h) := by
  unfold State.early
  extract_lets -merge -useContext -underBinder x1
  refine Kept.u_fw ?_ (mask_sub (by decide) hA)
  exact h_s
theorem kept_bootFail {A : Nat} {s0 : State} {s : Sys2Proof.Machine.State} {p : Nat} {early : Bool} (h_s : Kept A s0 s) (hA : 151115727451828646838812 ||| A = A) :
    Kept A s0 (State.bootFail s p early) := by
  unfold State.bootFail
  extract_lets -merge -useContext -underBinder x1 x2 x3 x4
  have h2 : Kept A s0 x2 := by
    unfold x2
    refine kept_draw ?_ (mask_sub (by decide) hA)
    · exact h_s
  have h4 : Kept A s0 x4 := by
    unfold x4
    refine kept_draw ?_ (mask_sub (by decide) hA)
    · exact h2
  clear_value x2 x4
  refine Kept.ite ?_ ?_
  · refine kept_early ?_ (mask_sub (by decide) hA)
    · exact h4
  · refine kept_raiseHist ?_ (mask_sub (by decide) hA)
    · exact h4
theorem kept_stageFail {A : Nat} {s0 : State} {s : Sys2Proof.Machine.State} {loops : List Sys2Proof.LoopFail} {p : Nat} (h_s : Kept A s0 s) (hA : 151411183858061327744828 ||| A = A) :
    Kept A s0 (State.stageFail s loops p) := by
  unfold State.stageFail
  refine Kept.ite ?_ ?_
  · split
    · refine kept_raiseHist ?_ (mask_sub (by decide) hA)
      · refine kept_scopeLost ?_ (mask_sub (by decide) hA)
        · exact h_s
    · exact h_s
  · refine kept_scopeLost ?_ (mask_sub (by decide) hA)
    · refine kept_updUnit ?_ (mask_sub (by decide) hA)
      · refine kept_bootFail ?_ (mask_sub (by decide) hA)
        · exact h_s
theorem kept_brewOut {A : Nat} {s0 : State} {s : Sys2Proof.Machine.State} {p : Nat} (h_s : Kept A s0 s) (hA : 151115727451828646838272 ||| A = A) :
    Kept A s0 (State.brewOut s p) := by
  unfold State.brewOut
  extract_lets -merge -useContext -underBinder x1 x2
  refine Kept.ite ?_ ?_
  · refine Kept.u_fw ?_ (mask_sub (by decide) hA)
    exact h_s
  · refine Kept.u_fw ?_ (mask_sub (by decide) hA)
    exact h_s
theorem kept_brewsOut {A : Nat} {s0 : State} {s : Sys2Proof.Machine.State} {ps : List Nat} (h_s : Kept A s0 s) (hA : 151115727451828646838812 ||| A = A) :
    Kept A s0 (State.brewsOut s ps) := by
  unfold State.brewsOut
  refine kept_each ?_ (fun _ _ h1 => ?_)
  · exact h_s
  · refine kept_brewOut ?_ (mask_sub (by decide) hA)
    · refine kept_bootFail ?_ (mask_sub (by decide) hA)
      · exact h1
theorem kept_bootBundle {A : Nat} {s0 : State} {s : Sys2Proof.Machine.State} (h_s : Kept A s0 s) (hA : 151115727451828646838280 ||| A = A) :
    KeptS A s0 (State.bootBundle s) := by
  unfold State.bootBundle
  split
  · exact KeptS.none
  · extract_lets -merge -useContext -underBinder x1 x2 x3 x4 x5 x6 x7
    have h4 : Kept A s0 x4 := by
      unfold x4
      refine Kept.u_fw ?_ (mask_sub (by decide) hA)
      exact h_s
    have h5 : Kept A s0 x5 := by
      unfold x5
      refine kept_wr ?_ (mask_sub (by decide) hA)
      · refine kept_flag ?_ (mask_sub (by decide) hA)
        · refine kept_flag ?_ (mask_sub (by decide) hA)
          · exact h4
    have h6 : Kept A s0 x6 := by
      unfold x6
      refine kept_wr ?_ (mask_sub (by decide) hA)
      · refine kept_wr ?_ (mask_sub (by decide) hA)
        · refine kept_flag ?_ (mask_sub (by decide) hA)
          · exact h5
    have h7 : Kept A s0 x7 := by
      unfold x7
      refine kept_wr ?_ (mask_sub (by decide) hA)
      · exact h6
    clear_value x4 x5 x6 x7
    refine KeptS.some ?_
    refine Kept.ite ?_ ?_
    · exact h7
    · refine kept_early ?_ (mask_sub (by decide) hA)
      · exact h7
theorem kept_noteCopies {A : Nat} {s0 : State} {s : Sys2Proof.Machine.State} {which : Nat} {l : List (Nat × Nat)} (h_s : Kept A s0 s) (hA : 151115727451828646838272 ||| A = A) :
    Kept A s0 (State.noteCopies s which l) := by
  unfold State.noteCopies
  refine kept_each ?_ (fun _ _ h1 => ?_)
  · exact h_s
  · refine kept_early ?_ (mask_sub (by decide) hA)
    · exact h1
theorem kept_markAbsent {A : Nat} {s0 : State} {s : Sys2Proof.Machine.State} (h_s : Kept A s0 s) (hA : 256 ||| A = A) :
    Kept A s0 (State.markAbsent s) := by
  unfold State.markAbsent
  extract_lets -merge -useContext -underBinder x1 x2 x3 x4 x5 x6
  have h5 : Kept A s0 x5 := by
    unfold x5
    refine Kept.u_units ?_ (mask_sub (by decide) hA)
    exact h_s
  have h6 : Kept A s0 x6 := by
    unfold x6
    refine Kept.u_units ?_ (mask_sub (by decide) hA)
    exact h5
  clear_value x5 x6
  refine kept_each ?_ (fun _ _ h7 => ?_)
  · exact h6
  · refine kept_updUnit ?_ (mask_sub (by decide) hA)
    · exact h7
theorem kept_recordsIn {A : Nat} {s0 : State} {s : Sys2Proof.Machine.State} (h_s : Kept A s0 s) (hA : 2568967402709884015214856 ||| A = A) :
    Kept A s0 (State.recordsIn s) := by
  unfold State.recordsIn
  extract_lets -merge -useContext -underBinder x1 x2 x3 x4 x5 x6 x7 x8 x9
  have h2 : Kept A s0 x2 := by
    unfold x2
    refine Kept.u_attic ?_ ?_ (mask_sub (by decide) hA)
    · exact h_s
    · exact Nat.le_refl _
  have h3 : Kept A s0 x3 := by
    unfold x3
    refine kept_wr ?_ (mask_sub (by decide) hA)
    · exact h2
  have h5 : Kept A s0 x5 := by
    unfold x5
    refine Kept.u_pad ?_ (mask_sub (by decide) hA)
    exact h3
  have h6 : Kept A s0 x6 := by
    unfold x6
    refine kept_wr ?_ (mask_sub (by decide) hA)
    · exact h5
  have h7 : Kept A s0 x7 := by
    unfold x7
    refine Kept.ite ?_ ?_
    · exact h6
    · refine kept_wr ?_ (mask_sub (by decide) hA)
      · exact h6
  have h8 : Kept A s0 x8 := by
    unfold x8
    refine Kept.ite ?_ ?_
    · refine kept_early ?_ (mask_sub (by decide) hA)
      · exact h7
    · exact h7
  clear_value x2 x3 x5 x6 x7 x8
  refine kept_markAbsent ?_ (mask_sub (by decide) hA)
  · refine kept_padRewrite ?_ (mask_sub (by decide) hA)
    · refine Kept.u_pad ?_ (mask_sub (by decide) hA)
      exact h8
theorem kept_calPicked {A : Nat} {s0 : State} {s : Sys2Proof.Machine.State} {c : Option (List Sys2Proof.Byte)} (h_s : Kept A s0 s) (hA : 151115727451828646838280 ||| A = A) :
    Kept A s0 (State.calPicked s c) := by
  unfold State.calPicked
  split
  · refine kept_calIn ?_ (mask_sub (by decide) hA)
    · exact h_s
  · exact h_s
theorem kept_bootCal {A : Nat} {s0 : State} {s : Sys2Proof.Machine.State} {b : List Sys2Proof.Byte} {c : Option (List Sys2Proof.Byte) × List (Nat × Nat)} (h_s : Kept A s0 s) (hA : 2568967546825072091070728 ||| A = A) :
    Kept A s0 (State.bootCal s b c) := by
  unfold State.bootCal
  refine kept_recordsIn ?_ (mask_sub (by decide) hA)
  · refine kept_calPicked ?_ (mask_sub (by decide) hA)
    · refine kept_variantIn ?_ (mask_sub (by decide) hA)
      · refine kept_noteCopies ?_ (mask_sub (by decide) hA)
        · exact h_s
theorem kept_bootVariant {A : Nat} {s0 : State} {s : Sys2Proof.Machine.State} {v : Option (List Sys2Proof.Byte) × List (Nat × Nat)} (h_s : Kept A s0 s) (hA : 2568967546825072091070728 ||| A = A) :
    KeptS A s0 (State.bootVariant s v) := by
  unfold State.bootVariant
  extract_lets -merge -useContext -underBinder x1
  have h1 : Kept A s0 x1 := by
    unfold x1
    refine kept_noteCopies ?_ (mask_sub (by decide) hA)
    · exact h_s
  clear_value x1
  refine KeptS.map (fun _ => ?_) _
  · refine kept_bootCal ?_ (mask_sub (by decide) hA)
    · exact h1
theorem kept_bootRecords {A : Nat} {s0 : State} {s : Sys2Proof.Machine.State} (h_s : Kept A s0 s) (hA : 2568967546825072091070728 ||| A = A) :
    KeptS A s0 (State.bootRecords s) := by
  unfold State.bootRecords
  split
  · exact KeptS.none
  · next y1 e2 =>
      have h3 : Kept A s0 y1 := KeptS.of_eq (by
        refine kept_bootVariant ?_ (mask_sub (by decide) hA)
        · exact h_s
        ) e2
      refine KeptS.some ?_
      refine kept_each ?_ (fun _ _ h4 => ?_)
      · exact h3
      · refine kept_brewOut ?_ (mask_sub (by decide) hA)
        · exact h4
theorem kept_earlyOut {A : Nat} {s0 : State} {s : State} (h_s : Kept A s0 s) (hA : 151115727451828646838808 ||| A = A) :
    Kept A s0 (State.earlyOut s) := by
  unfold State.earlyOut
  extract_lets -merge -useContext -underBinder x1
  refine Kept.u_fw ?_ (mask_sub (by decide) hA)
  refine kept_each h_s (fun y e h => ?_)
  refine Kept.u_transit (kept_evt h (mask_sub (by decide) hA)) ?_ (mask_sub (by decide) hA)
  exact Or.inl (List.prefix_append y.transit _)
theorem kept_bootStair {A : Nat} {s0 : State} {s : Sys2Proof.Machine.State} {ps : List Nat} (h_s : Kept A s0 s) (hA : 151115727451828647895576 ||| A = A) :
    Kept A s0 (State.bootStair s ps) := by
  unfold State.bootStair
  extract_lets -merge -useContext -underBinder x1 x2 x3 x4 x5 x6
  have h2 : Kept A s0 x2 := by
    unfold x2
    refine kept_each ?_ (fun _ _ h7 => ?_)
    · exact h_s
    · refine kept_each ?_ (fun _ _ h8 => ?_)
      · exact h7
      · split
        · exact h8
        · refine Kept.ite ?_ ?_
          · exact h8
          · refine kept_updHop ?_ (mask_sub (by decide) hA)
            · exact h8
  have h5 : Kept A s0 x5 := by
    unfold x5
    refine kept_flag ?_ (mask_sub (by decide) hA)
    · refine kept_wr ?_ (mask_sub (by decide) hA)
      · refine kept_wr ?_ (mask_sub (by decide) hA)
        · exact h2
  have h6 : Kept A s0 x6 := by
    unfold x6
    refine kept_updBrew ?_ (mask_sub (by decide) hA)
    · refine kept_updBrew ?_ (mask_sub (by decide) hA)
      · exact h5
  clear_value x2 x5 x6
  refine kept_earlyOut ?_ (mask_sub (by decide) hA)
  · exact h6
theorem kept_hallsPassed {A : Nat} {s0 : State} {s : Sys2Proof.Machine.State} (h_s : Kept A s0 s) (hA : 4398046511104 ||| A = A) :
    Kept A s0 (State.hallsPassed s) := by
  unfold State.hallsPassed
  refine kept_each ?_ (fun _ _ h1 => ?_)
  · exact h_s
  · refine kept_updHall ?_ (mask_sub (by decide) hA)
    · exact h1
theorem kept_mergeKinds {A : Nat} {s0 : State} {s : Sys2Proof.Machine.State} {ks : List Nat} (h_s : Kept A s0 s) (hA : 302526911309889974583100 ||| A = A) :
    Kept A s0 (State.mergeKinds s ks) := by
  unfold State.mergeKinds
  refine kept_each ?_ (fun _ _ h1 => ?_)
  · exact h_s
  · extract_lets -merge -useContext -underBinder x2
    refine Kept.ite ?_ ?_
    · exact h1
    · refine Kept.ite ?_ ?_
      · refine kept_draw ?_ (mask_sub (by decide) hA)
        · refine kept_updSensor ?_ (mask_sub (by decide) hA)
          · exact h1
      · refine kept_scopeLost ?_ (mask_sub (by decide) hA)
        · exact h1
theorem kept_mergeDefects {A : Nat} {s0 : State} {s : Sys2Proof.Machine.State} (h_s : Kept A s0 s) (hA : 295456406232680906552 ||| A = A) :
    Kept A s0 (State.mergeDefects s) := by
  unfold State.mergeDefects
  refine kept_each ?_ (fun _ _ h1 => ?_)
  · exact h_s
  · refine kept_scopeLost ?_ (mask_sub (by decide) hA)
    · refine kept_updUnit ?_ (mask_sub (by decide) hA)
      · exact h1
theorem kept_bootMaps {A : Nat} {s0 : State} {s : Sys2Proof.Machine.State} (h_s : Kept A s0 s) (hA : 151429630604334597422904 ||| A = A) :
    Kept A s0 (State.bootMaps s) := by
  unfold State.bootMaps
  extract_lets -merge -useContext -underBinder x1 x2 x3 x4 x5
  have h1 : Kept A s0 x1 := by
    unfold x1
    refine kept_mergeDefects ?_ (mask_sub (by decide) hA)
    · exact h_s
  have h4 : Kept A s0 x4 := by
    unfold x4
    refine kept_each ?_ (fun _ _ h8 => ?_)
    · exact h1
    · extract_lets -merge -useContext -underBinder x9 x10
      refine kept_noSpares ?_ (mask_sub (by decide) hA)
      · refine kept_updPort ?_ (mask_sub (by decide) hA)
        · exact h8
  clear_value x1 x4
  refine Kept.ite ?_ ?_
  · refine kept_each ?_ (fun _ _ h6 => ?_)
    · exact h1
    · extract_lets -merge -useContext -underBinder x7
      refine kept_noSpares ?_ (mask_sub (by decide) hA)
      · refine kept_updPort ?_ (mask_sub (by decide) hA)
        · exact h6
  · refine Kept.u_chanMap_fw ?_ (mask_sub (by decide) hA)
    exact h4
theorem kept_writeStore {A : Nat} {s0 : State} {s : Sys2Proof.Machine.State} {r : Nat} (h_s : Kept A s0 s) (hA : 151115799509422751875084 ||| A = A) :
    Kept A s0 (State.writeStore s r) := by
  unfold State.writeStore
  refine kept_askCheck ?_ (mask_sub (by decide) hA)
  · refine kept_poke ?_ (mask_sub (by decide) hA)
    · exact h_s
theorem kept_imageIn {A : Nat} {s0 : State} {s : Sys2Proof.Machine.State} {o : Option (List Sys2Proof.Byte)} (h_s : Kept A s0 s) (hA : 151115799509422751875084 ||| A = A) :
    Kept A s0 (State.imageIn s o) := by
  unfold State.imageIn
  split
  · exact h_s
  · extract_lets -merge -useContext -underBinder x1 x2 x3 x4
    have h2 : Kept A s0 x2 := by
      unfold x2
      refine kept_wr ?_ (mask_sub (by decide) hA)
      · exact h_s
    have h4 : Kept A s0 x4 := by
      unfold x4
      refine Kept.u_fw ?_ (mask_sub (by decide) hA)
      exact h2
    clear_value x2 x4
    refine kept_each ?_ (fun _ _ h5 => ?_)
    · exact h4
    · refine kept_writeStore ?_ (mask_sub (by decide) hA)
      · exact h5
theorem kept_bootTables {A : Nat} {s0 : State} {s : Sys2Proof.Machine.State} (h_s : Kept A s0 s) (hA : 151429702661928702459708 ||| A = A) :
    Kept A s0 (State.bootTables s) := by
  unfold State.bootTables
  extract_lets -merge -useContext -underBinder x1 x2
  have h1 : Kept A s0 x1 := by
    unfold x1
    refine kept_bootMaps ?_ (mask_sub (by decide) hA)
    · exact h_s
  have h2 : Kept A s0 x2 := by
    unfold x2
    refine kept_mapChanged ?_ (mask_sub (by decide) hA)
    · refine kept_wr ?_ (mask_sub (by decide) hA)
      · exact h1
  clear_value x1 x2
  refine kept_imageIn ?_ (mask_sub (by decide) hA)
  · exact h2
theorem kept_handoff {A : Nat} {s0 : State} {s : Sys2Proof.Machine.State} (h_s : Kept A s0 s) (hA : 2578412387877202976309784 ||| A = A) :
    Kept A s0 (State.handoff s) := by
  unfold State.handoff
  extract_lets -merge -useContext -underBinder x1 x2 x3 x4 x5 x6 x7
  have h1 : Kept A s0 x1 := by
    unfold x1
    refine kept_each ?_ (fun _ _ h8 => ?_)
    · exact h_s
    · refine Kept.ite ?_ ?_
      · exact h8
      · refine Kept.ite ?_ ?_
        · refine kept_updPort ?_ (mask_sub (by decide) hA)
          · exact h8
        · refine kept_updPort ?_ (mask_sub (by decide) hA)
          · exact h8
  have h7 : Kept A s0 x7 := by
    unfold x7
    refine Kept.u_pair_mbx_plan_fw_pad ?_ (mask_sub (by decide) hA)
    exact h1
  clear_value x1 x7
  refine kept_raise ?_ (mask_sub (by decide) hA)
  · refine kept_flag ?_ (mask_sub (by decide) hA)
    · exact h7
theorem kept_stageWork {A : Nat} {s0 : State} {s : Sys2Proof.Machine.State} {n : Nat} {ps : List Nat} {loops : List Sys2Proof.LoopFail} (h_s : Kept A s0 s) (hA : 2880957709904568730795836 ||| A = A) :
    KeptL A s0 (State.stageWork s n ps loops) := by
  unfold State.stageWork
  extract_lets -merge -useContext -underBinder x1
  have h1 : ∀ y1_0, Kept A s0 y1_0 → Kept A s0 (x1 y1_0) := by
    intro y1_0 h1_0
    unfold x1
    refine kept_each ?_ (fun _ _ h10 => ?_)
    · exact h1_0
    · refine kept_stageFail ?_ (mask_sub (by decide) hA)
      · exact h10
  clear_value x1
  split
  · refine KeptL.mk ?_
    refine kept_brewsOut ?_ (mask_sub (by decide) hA)
    · exact h_s
  · extract_lets -merge -useContext -underBinder x2
    have h2 : Kept A s0 x2 := by
      unfold x2
      refine kept_brewsOut ?_ (mask_sub (by decide) hA)
      · exact h_s
    clear_value x2
    split
    · next y3 e4 =>
        have h5 : Kept A s0 y3 := KeptS.of_eq (by
          refine kept_bootBundle ?_ (mask_sub (by decide) hA)
          · exact h2
          ) e4
        refine KeptL.mk ?_
        exact h5
    · refine KeptL.mk ?_
      exact h2
  · extract_lets -merge -useContext -underBinder x6
    have h6 : Kept A s0 x6 := by
      unfold x6
      refine kept_brewsOut ?_ (mask_sub (by decide) hA)
      · exact h_s
    clear_value x6
    refine KeptL.ite ?_ ?_
    · refine KeptL.mk ?_
      exact h6
    · split
      · next y7 e8 =>
          have h9 : Kept A s0 y7 := KeptS.of_eq (by
            refine kept_bootRecords ?_ (mask_sub (by decide) hA)
            · exact h6
            ) e8
          refine KeptL.mk ?_
          exact h9
      · refine KeptL.mk ?_
        exact h6
  · refine KeptL.mk ?_
    refine h1 _ ?_
    · refine kept_bootStair ?_ (mask_sub (by decide) hA)
      · exact h_s
  · refine KeptL.mk ?_
    refine kept_hallsPassed ?_ (mask_sub (by decide) hA)
    · refine kept_mergeKinds ?_ (mask_sub (by decide) hA)
      · refine h1 _ ?_
        · exact h_s
  · refine KeptL.mk ?_
    refine kept_mergeKinds ?_ (mask_sub (by decide) hA)
    · refine h1 _ ?_
      · exact h_s
  · refine KeptL.mk ?_
    refine kept_mergeKinds ?_ (mask_sub (by decide) hA)
    · refine h1 _ ?_
      · exact h_s
  · refine KeptL.mk ?_
    refine kept_mergeKinds ?_ (mask_sub (by decide) hA)
    · refine h1 _ ?_
      · exact h_s
  · refine KeptL.mk ?_
    refine kept_bootTables ?_ (mask_sub (by decide) hA)
    · exact h_s
  · refine KeptL.mk ?_
    refine kept_handoff ?_ (mask_sub (by decide) hA)
    · exact h_s
  · refine KeptL.mk ?_
    refine h1 _ ?_
    · exact h_s
theorem kept_storeFailed {A : Nat} {s0 : State} {s : Sys2Proof.Machine.State} {r : Nat} (h_s : Kept A s0 s) (hA : 151115799513820798386188 ||| A = A) :
    Kept A s0 (State.storeFailed s r) := by
  unfold State.storeFailed
  extract_lets -merge -useContext -underBinder x1
  refine Kept.ite ?_ ?_
  · refine kept_updHall ?_ (mask_sub (by decide) hA)
    · exact h_s
  · refine kept_writeStore ?_ (mask_sub (by decide) hA)
    · refine Kept.u_fw ?_ (mask_sub (by decide) hA)
      exact h_s
theorem kept_bootStop {A : Nat} {s0 : State} {s : Sys2Proof.Machine.State} {n : Nat} {reason : Nat} {concerned : Nat} {ms : Nat} (h_s : Kept A s0 s) (hA : 2417851639233656395924248 ||| A = A) :
    Kept A s0 (State.bootStop s n reason concerned ms) := by
  unfold State.bootStop
  extract_lets -merge -useContext -underBinder x1 x2 x3 x4 x5
  have h1 : Kept A s0 x1 := by
    unfold x1
    refine kept_each ?_ (fun _ _ h6 => ?_)
    · exact h_s
    · refine kept_shutUnits ?_ (mask_sub (by decide) hA)
      · refine kept_updHall ?_ (mask_sub (by decide) hA)
        · exact h6
  have h2 : Kept A s0 x2 := by
    unfold x2
    refine kept_wr ?_ (mask_sub (by decide) hA)
    · refine kept_flag ?_ (mask_sub (by decide) hA)
      · refine kept_wr ?_ (mask_sub (by decide) hA)
        · exact h1
  have h3 : Kept A s0 x3 := by
    unfold x3
    refine kept_wr ?_ (mask_sub (by decide) hA)
    · exact h2
  have h5 : Kept A s0 x5 := by
    unfold x5
    refine Kept.u_pad ?_ (mask_sub (by decide) hA)
    exact h3
  clear_value x1 x2 x3 x5
  refine Kept.ite ?_ ?_
  · exact h5
  · refine kept_raise ?_ (mask_sub (by decide) hA)
    · exact h5
theorem kept_bootReport {A : Nat} {s0 : State} {s : Sys2Proof.Machine.State} {n : Nat} {res : Sys2Proof.StageResult} (h_s : Kept A s0 s) (hA : 151115727451828646838808 ||| A = A) :
    Kept A s0 (State.bootReport s n res) := by
  unfold State.bootReport
  extract_lets -merge -useContext -underBinder x1 x2 x3 x4 x5 x6 x7 x8
  have h2 : Kept A s0 x2 := by
    unfold x2
    refine kept_wr ?_ (mask_sub (by decide) hA)
    · refine kept_wr ?_ (mask_sub (by decide) hA)
      · exact h_s
  have h3 : Kept A s0 x3 := by
    unfold x3
    refine kept_bump ?_ (mask_sub (by decide) hA)
    · exact h2
  have h5 : Kept A s0 x5 := by
    unfold x5
    refine Kept.u_fw ?_ (mask_sub (by decide) hA)
    exact h3
  clear_value x2 x3 x5
  refine Kept.ite ?_ ?_
  · refine kept_early ?_ (mask_sub (by decide) hA)
    · exact h5
  · refine kept_raise ?_ (mask_sub (by decide) hA)
    · refine kept_wr ?_ (mask_sub (by decide) hA)
      · exact h5
theorem kept_bringupStage {A : Nat} {s0 : State} {s : Sys2Proof.Machine.State} {res : Sys2Proof.StageResult} (h_s : Kept A s0 s) (hA : 2880957709904568730795836 ||| A = A) :
    Kept A s0 (bringupStage s res) := by
  unfold bringupStage
  extract_lets -merge -useContext -underBinder x1 x2
  refine Kept.ite ?_ ?_
  · exact h_s
  · split
    · next y3 _ e4 =>
        have h5 : Kept A s0 y3 := KeptL.of_eq (by
          refine kept_stageWork ?_ (mask_sub (by decide) hA)
          · exact h_s
          ) e4
        extract_lets -merge -useContext -underBinder x6 x7
        have h7 : Kept A s0 x7 := by
          unfold x7
          refine Kept.ite ?_ ?_
          · exact h5
          · refine kept_bump ?_ (mask_sub (by decide) hA)
            · refine kept_wr ?_ (mask_sub (by decide) hA)
              · exact h5
        clear_value x7
        refine Kept.ite ?_ ?_
        · refine kept_bootStop ?_ (mask_sub (by decide) hA)
          · exact h7
        · refine kept_bootReport ?_ (mask_sub (by decide) hA)
          · exact h5
theorem kept_memoryRetrainDone {A : Nat} {s0 : State} {s : Sys2Proof.Machine.State} {r : Nat} {failed : List Nat} (h_s : Kept A s0 s) (hA : 151415795552875848154940 ||| A = A) :
    Kept A s0 (memoryRetrainDone s r failed) := by
  unfold memoryRetrainDone
  split
  · exact h_s
  · extract_lets -merge -useContext -underBinder x1 x2 x3
    have h2 : Kept A s0 x2 := by
      unfold x2
      refine Kept.u_resets ?_ (mask_sub (by decide) hA)
      exact h_s
    have h3 : Kept A s0 x3 := by
      unfold x3
      refine kept_each ?_ (fun _ _ h5 => ?_)
      · exact h2
      · refine kept_stageFail ?_ (mask_sub (by decide) hA)
        · exact h5
    clear_value x2 x3
    refine Kept.ite ?_ ?_
    · refine kept_each ?_ (fun _ _ h4 => ?_)
      · exact h3
      · refine kept_updCel ?_ (mask_sub (by decide) hA)
        · exact h4
    · exact h3
theorem kept_execPowerOn {A : Nat} {s0 : State} {s : Sys2Proof.Machine.State} (h_s : Kept A s0 s) (hA : 154742486319813272576980986 ||| A = A) :
    KeptO A s0 (execPowerOn s) := by
  unfold execPowerOn
  extract_lets -merge -useContext -underBinder x1 x2
  have h1 : Kept A s0 x1 := by
    unfold x1
    refine kept_restart ?_ (mask_sub (by decide) hA)
    · exact h_s
  clear_value x1
  refine KeptO.next ?_
  refine Kept.u_pad ?_ (mask_sub (by decide) hA)
  exact h1
theorem kept_loadFailed {A : Nat} {s0 : State} {s : Sys2Proof.Machine.State} {k : Nat} {p : Nat} (h_s : Kept A s0 s) (hA : 151411163589583979939644 ||| A = A) :
    Kept A s0 (State.loadFailed s k p) := by
  unfold State.loadFailed
  extract_lets -merge -useContext -underBinder x1 x2 x3 x4
  have h1 : Kept A s0 x1 := by
    unfold x1
    refine kept_updUnit ?_ (mask_sub (by decide) hA)
    · refine kept_bootFail ?_ (mask_sub (by decide) hA)
      · exact h_s
  have h2 : Kept A s0 x2 := by
    unfold x2
    refine kept_updCore ?_ (mask_sub (by decide) hA)
    · exact h1
  have h4 : Kept A s0 x4 := by
    unfold x4
    refine kept_noSpares ?_ (mask_sub (by decide) hA)
    · refine kept_updPort ?_ (mask_sub (by decide) hA)
      · exact h2
  clear_value x1 x2 x4
  refine kept_mapChanged ?_ (mask_sub (by decide) hA)
  · exact h4
theorem kept_checkEnded {A : Nat} {s0 : State} {s : Sys2Proof.Machine.State} {r : Nat} {code : Nat} (h_s : Kept A s0 s) (hA : 151411235651576131487548 ||| A = A) :
    Kept A s0 (State.checkEnded s r code) := by
  unfold State.checkEnded
  split
  · exact h_s
  · extract_lets -merge -useContext -underBinder x1 x2
    have h2 : Kept A s0 x2 := by
      unfold x2
      refine Kept.u_fw ?_ (mask_sub (by decide) hA)
      exact h_s
    clear_value x2
    refine Kept.ite ?_ ?_
    · refine kept_storeFailed ?_ (mask_sub (by decide) hA)
      · exact h2
    · refine Kept.ite ?_ ?_
      · exact h2
      · refine kept_loadFailed ?_ (mask_sub (by decide) hA)
        · exact h2
theorem kept_xspiBusTimeout {A : Nat} {s0 : State} {s : Sys2Proof.Machine.State} (h_s : Kept A s0 s) (hA : 151115727451828646838272 ||| A = A) :
    Kept A s0 (xspiBusTimeout s) := by
  unfold xspiBusTimeout
  extract_lets -merge -useContext -underBinder x1
  refine Kept.ite ?_ ?_
  · exact h_s
  · refine Kept.u_fw ?_ (mask_sub (by decide) hA)
    exact h_s
theorem kept_execXspiBusTimeout {A : Nat} {s0 : State} {s : Sys2Proof.Machine.State} (h_s : Kept A s0 s) (hA : 151115727451828646838272 ||| A = A) :
    KeptO A s0 (execXspiBusTimeout s) := by
  unfold execXspiBusTimeout
  refine KeptO.next ?_
  refine kept_xspiBusTimeout ?_ (mask_sub (by decide) hA)
  · exact h_s
theorem kept_scanLineNext {A : Nat} {s0 : State} {s : Sys2Proof.Machine.State} {v : Sys2Proof.ScanUnit} {data : List Sys2Proof.Byte} {err : Sys2Proof.ReadErr} (h_s : Kept A s0 s) (hA : 158499417328865082883900 ||| A = A) :
    Kept A s0 (scanLineNext s v data err) := by
  unfold scanLineNext
  extract_lets -merge -useContext -underBinder x1 x2 x3
  have h3 : Kept A s0 x3 := by
    unfold x3
    refine kept_scanLineDone ?_ (mask_sub (by decide) hA)
    · exact h_s
  clear_value x3
  refine Kept.ite ?_ ?_
  · exact h3
  · split
    · exact h3
    · refine kept_checkNext ?_ (mask_sub (by decide) hA)
      · refine Kept.ite ?_ ?_
        · refine kept_checkEnded ?_ (mask_sub (by decide) hA)
          · exact h3
        · exact h3
theorem kept_execScanLineDone {A : Nat} {s0 : State} {u : Sys2Proof.ScanUnit} {data : List Sys2Proof.Byte} {err : Sys2Proof.ReadErr} {s : Sys2Proof.Machine.State} (h_s : Kept A s0 s) (hA : 158499417328865082883900 ||| A = A) :
    KeptO A s0 (execScanLineDone u data err s) := by
  unfold execScanLineDone
  refine KeptO.next ?_
  refine kept_scanLineNext ?_ (mask_sub (by decide) hA)
  · exact h_s
theorem kept_execBringupStage {A : Nat} {s0 : State} {res : Sys2Proof.StageResult} {s : Sys2Proof.Machine.State} (h_s : Kept A s0 s) (hA : 2880957709904568730795836 ||| A = A) :
    KeptO A s0 (execBringupStage res s) := by
  unfold execBringupStage
  refine KeptO.next ?_
  refine kept_bringupStage ?_ (mask_sub (by decide) hA)
  · exact h_s
theorem kept_execMemoryRetrainDone {A : Nat} {s0 : State} {r : Sys2Proof.RegionId} {failed : List Sys2Proof.Puid} {s : Sys2Proof.Machine.State} (h_s : Kept A s0 s) (hA : 151415795552875848154940 ||| A = A) :
    KeptO A s0 (execMemoryRetrainDone r failed s) := by
  unfold execMemoryRetrainDone
  refine KeptO.next ?_
  refine kept_memoryRetrainDone ?_ (mask_sub (by decide) hA)
  · exact h_s
theorem kept_notifyBytes {A : Nat} {s0 : State} {s : Sys2Proof.Machine.State} {ctype : Nat} {ctx : Nat} {b : List Sys2Proof.Byte} {more : Bool} (h_s : Kept A s0 s) (hA : 288230376151712280 ||| A = A) :
    Kept A s0 (State.notifyBytes s ctype ctx b more) := by
  unfold State.notifyBytes
  refine kept_notify ?_ (mask_sub (by decide) hA)
  · exact h_s
theorem kept_replayProv {A : Nat} {s0 : State} {s : Sys2Proof.Machine.State} {c : Nat} {step : Nat} {p : Nat} (h_s : Kept A s0 s) (hA : 295147905179352826392 ||| A = A) :
    Kept A s0 (State.replayProv s c step p) := by
  unfold State.replayProv
  split
  · exact h_s
  · split
    · exact h_s
    · extract_lets -merge -useContext -underBinder x1 x2
      have h1 : Kept A s0 x1 := by
        unfold x1
        refine kept_replayDiffers ?_ (mask_sub (by decide) hA)
        · exact h_s
      clear_value x1
      refine Kept.ite ?_ ?_
      · exact h_s
      · refine Kept.u_prv ?_ (mask_sub (by decide) hA)
        exact h1
theorem kept_tellMissing {A : Nat} {s0 : State} {s : Sys2Proof.Machine.State} {set : Nat} (h_s : Kept A s0 s) (hA : 295147905179352827416 ||| A = A) :
    Kept A s0 (State.tellMissing s set) := by
  unfold State.tellMissing
  extract_lets -merge -useContext -underBinder x1 x2
  refine Kept.ite ?_ ?_
  · exact h_s
  · refine kept_raiseOnce ?_ (mask_sub (by decide) hA)
    · refine Kept.u_prv ?_ (mask_sub (by decide) hA)
      exact h_s
theorem kept_provenanceStep {A : Nat} {s0 : State} {s : Sys2Proof.Machine.State} (h_s : Kept A s0 s) (hA : 295436135555504539160 ||| A = A) :
    Kept A s0 (provenanceStep s) := by
  unfold provenanceStep
  split
  · exact h_s
  · extract_lets -merge -useContext -underBinder x1 x2 x3 x4 x5 x6 x7 x8 x9
    have h2 : Kept A s0 x2 := by
      unfold x2
      refine kept_wr ?_ (mask_sub (by decide) hA)
      · refine Kept.u_prv ?_ (mask_sub (by decide) hA)
        exact h_s
    have h4 : Kept A s0 x4 := by
      unfold x4
      refine kept_tellMissing ?_ (mask_sub (by decide) hA)
      · exact h2
    have h7 : Kept A s0 x7 := by
      unfold x7
      refine Kept.u_prv ?_ (mask_sub (by decide) hA)
      exact h4
    have h8 : Kept A s0 x8 := by
      unfold x8
      refine kept_record ?_ (mask_sub (by decide) hA)
      · refine kept_wr ?_ (mask_sub (by decide) hA)
        · refine kept_wr ?_ (mask_sub (by decide) hA)
          · exact h7
    have h9 : Kept A s0 x9 := by
      unfold x9
      refine kept_replayProv ?_ (mask_sub (by decide) hA)
      · exact h8
    clear_value x2 x4 x7 x8 x9
    refine Kept.ite ?_ ?_
    · exact h2
    · refine Kept.ite ?_ ?_
      · refine kept_notify ?_ (mask_sub (by decide) hA)
        · exact h9
      · exact h9
theorem kept_provenanceEnable {A : Nat} {s0 : State} {s : Sys2Proof.Machine.State} {data : Nat} (h_s : Kept A s0 s) (hA : 295147905179352825864 ||| A = A) :
    Kept A s0 (provenanceEnable s data) := by
  unfold provenanceEnable
  extract_lets -merge -useContext -underBinder x1 x2 x3 x4
  have h2 : Kept A s0 x2 := by
    unfold x2
    refine kept_flag ?_ (mask_sub (by decide) hA)
    · refine kept_wr ?_ (mask_sub (by decide) hA)
      · exact h_s
  have h4 : Kept A s0 x4 := by
    unfold x4
    refine Kept.u_prv ?_ (mask_sub (by decide) hA)
    exact h2
  clear_value x2 x4
  refine Kept.ite ?_ ?_
  · refine kept_flag ?_ (mask_sub (by decide) hA)
    · exact h2
  · refine Kept.ite ?_ ?_
    · exact h2
    · refine kept_flag ?_ (mask_sub (by decide) hA)
      · refine kept_flag ?_ (mask_sub (by decide) hA)
        · exact h4
theorem kept_execProvenanceStep {A : Nat} {s0 : State} {s : Sys2Proof.Machine.State} (h_s : Kept A s0 s) (hA : 295436135555504539160 ||| A = A) :
    KeptO A s0 (execProvenanceStep s) := by
  unfold execProvenanceStep
  refine KeptO.next ?_
  refine kept_provenanceStep ?_ (mask_sub (by decide) hA)
  · exact h_s
theorem kept_closeEpoch {A : Nat} {s0 : State} {s : Sys2Proof.Machine.State} {set : Nat} (h_s : Kept A s0 s) (hA : 295147905179352825864 ||| A = A) :
    Kept A s0 (State.closeEpoch s set) := by
  unfold State.closeEpoch
  extract_lets -merge -useContext -underBinder x1 x2 x3 x4 x5 x6 x7 x8
  have h8 : Kept A s0 x8 := by
    unfold x8
    refine Kept.u_prv ?_ (mask_sub (by decide) hA)
    exact h_s
  clear_value x8
  refine Kept.ite ?_ ?_
  · exact h_s
  · refine kept_wr ?_ (mask_sub (by decide) hA)
    · refine kept_wr ?_ (mask_sub (by decide) hA)
      · refine kept_flag ?_ (mask_sub (by decide) hA)
        · exact h8
theorem kept_replayDeliver {A : Nat} {s0 : State} {s : Sys2Proof.Machine.State} (h_s : Kept A s0 s) (hA : 295436135555504538136 ||| A = A) :
    Kept A s0 (replayDeliver s) := by
  unfold replayDeliver
  split
  · exact h_s
  · extract_lets -merge -useContext -underBinder x1
    have h1 : ∀ y1_0 y1_1, Kept A s0 y1_0 → Kept A s0 (x1 y1_0 y1_1) := by
      intro y1_0 y1_1 h1_0
      unfold x1
      extract_lets -merge -useContext -underBinder x10 x11
      refine kept_raise ?_ (mask_sub (by decide) hA)
      · refine kept_wr ?_ (mask_sub (by decide) hA)
        · refine Kept.u_prv ?_ (mask_sub (by decide) hA)
          exact h1_0
    clear_value x1
    split
    · refine h1 _ _ ?_
      · exact h_s
    · extract_lets -merge -useContext -underBinder x2 x3 x4 x5 x6 x7 x8
      have h3 : Kept A s0 x3 := by
        unfold x3
        refine kept_notifyBytes ?_ (mask_sub (by decide) hA)
        · exact h_s
      have h5 : Kept A s0 x5 := by
        unfold x5
        refine kept_each ?_ (fun _ _ h9 => ?_)
        · exact h3
        · refine kept_notifyBytes ?_ (mask_sub (by decide) hA)
          · exact h9
      have h7 : Kept A s0 x7 := by
        unfold x7
        refine Kept.u_prv ?_ (mask_sub (by decide) hA)
        exact h5
      have h8 : Kept A s0 x8 := by
        unfold x8
        refine kept_wr ?_ (mask_sub (by decide) hA)
        · exact h7
      clear_value x3 x5 x7 x8
      refine Kept.ite ?_ ?_
      · refine h1 _ _ ?_
        · exact h8
      · exact h8
theorem kept_execReplayDeliver {A : Nat} {s0 : State} {s : Sys2Proof.Machine.State} (h_s : Kept A s0 s) (hA : 295436135555504538136 ||| A = A) :
    KeptO A s0 (execReplayDeliver s) := by
  unfold execReplayDeliver
  refine KeptO.next ?_
  refine kept_replayDeliver ?_ (mask_sub (by decide) hA)
  · exact h_s
theorem kept_weightSetReport {A : Nat} {s0 : State} {s : Sys2Proof.Machine.State} {c : Nat} (h_s : Kept A s0 s) (hA : 299759591197780213768 ||| A = A) :
    Kept A s0 (weightSetReport s c) := by
  unfold weightSetReport
  split
  · exact h_s
  · extract_lets -merge -useContext -underBinder x1
    have h1 : Kept A s0 x1 := by
      unfold x1
      refine kept_updCel ?_ (mask_sub (by decide) hA)
      · exact h_s
    clear_value x1
    refine kept_each ?_ (fun _ _ h2 => ?_)
    · exact h1
    · extract_lets -merge -useContext -underBinder x3 x4
      have h4 : Kept A s0 x4 := by
        unfold x4
        refine Kept.u_prv ?_ (mask_sub (by decide) hA)
        exact h2
      clear_value x4
      refine kept_closeEpoch ?_ (mask_sub (by decide) hA)
      · exact h4
theorem kept_execWeightSetReport {A : Nat} {s0 : State} {c : Sys2Proof.StackId} {s : Sys2Proof.Machine.State} (h_s : Kept A s0 s) (hA : 299759591197780213768 ||| A = A) :
    KeptO A s0 (execWeightSetReport c s) := by
  unfold execWeightSetReport
  refine KeptO.next ?_
  refine kept_weightSetReport ?_ (mask_sub (by decide) hA)
  · exact h_s
theorem kept_hostGone {A : Nat} {s0 : State} {s : Sys2Proof.Machine.State} {cause : Nat} (h_s : Kept A s0 s) (hA : 1360189427277106227985976 ||| A = A) :
    Kept A s0 (State.hostGone s cause) := by
  unfold State.hostGone
  extract_lets -merge -useContext -underBinder x1 x2 x3 x4
  have h3 : Kept A s0 x3 := by
    unfold x3
    refine Kept.u_mbx ?_ (mask_sub (by decide) hA)
    exact h_s
  have h4 : Kept A s0 x4 := by
    unfold x4
    refine kept_raise ?_ (mask_sub (by decide) hA)
    · refine kept_flag ?_ (mask_sub (by decide) hA)
      · refine kept_flag ?_ (mask_sub (by decide) hA)
        · exact h3
  clear_value x3 x4
  refine Kept.ite ?_ ?_
  · exact h_s
  · refine kept_each ?_ (fun _ _ h5 => ?_)
    · exact h4
    · refine kept_replayGo ?_ (mask_sub (by decide) hA)
      · refine kept_updSet ?_ (mask_sub (by decide) hA)
        · exact h5
theorem kept_pcieLinkDown {A : Nat} {s0 : State} {s : Sys2Proof.Machine.State} {linkState : Nat} (h_s : Kept A s0 s) (hA : 1360189427277106227985976 ||| A = A) :
    Kept A s0 (pcieLinkDown s linkState) := by
  unfold pcieLinkDown
  refine kept_hostGone ?_ (mask_sub (by decide) hA)
  · refine kept_raise ?_ (mask_sub (by decide) hA)
    · exact h_s
theorem kept_ringHeadWrite {A : Nat} {s0 : State} {s : Sys2Proof.Machine.State} {data : Nat} (h_s : Kept A s0 s) (hA : 8 ||| A = A) :
    Kept A s0 (ringHeadWrite s data) := by
  unfold ringHeadWrite
  refine kept_mbxCounts ?_ (mask_sub (by decide) hA)
  · refine kept_wr ?_ (mask_sub (by decide) hA)
    · exact h_s
theorem kept_negotiate {A : Nat} {s0 : State} {s : Sys2Proof.Machine.State} {m : Sys2Proof.Msg} (h_s : Kept A s0 s) (hA : 288230376151713304 ||| A = A) :
    Kept A s0 (State.negotiate s m) := by
  unfold State.negotiate
  extract_lets -merge -useContext -underBinder x1 x2 x3 x4 x5 x6 x7 x8
  have h3 : Kept A s0 x3 := by
    unfold x3
    refine kept_setCommon ?_ (mask_sub (by decide) hA)
    · exact h_s
  have h4 : Kept A s0 x4 := by
    unfold x4
    refine kept_each ?_ (fun _ _ h9 => ?_)
    · exact h3
    · refine kept_wr ?_ (mask_sub (by decide) hA)
      · exact h9
  have h5 : Kept A s0 x5 := by
    unfold x5
    refine kept_flag ?_ (mask_sub (by decide) hA)
    · refine kept_flag ?_ (mask_sub (by decide) hA)
      · exact h4
  have h6 : Kept A s0 x6 := by
    unfold x6
    refine Kept.ite ?_ ?_
    · exact h5
    · refine kept_raise ?_ (mask_sub (by decide) hA)
      · exact h5
  have h7 : Kept A s0 x7 := by
    unfold x7
    refine kept_raiseOnce ?_ (mask_sub (by decide) hA)
    · exact h6
  clear_value x3 x4 x5 x6 x7
  refine Kept.u_mbx ?_ (mask_sub (by decide) hA)
  exact h7
theorem kept_msgTake {A : Nat} {s0 : State} {s : Sys2Proof.Machine.State} {m : Sys2Proof.Msg} (h_s : Kept A s0 s) (hA : 1441151880758562360 ||| A = A) :
    Kept A s0 (State.msgTake s m) := by
  unfold State.msgTake
  extract_lets -merge -useContext -underBinder x1 x2
  refine Kept.ite ?_ ?_
  · refine kept_refuse ?_ (mask_sub (by decide) hA)
    · exact h_s
  · refine Kept.u_mbx ?_ (mask_sub (by decide) hA)
    exact h_s
theorem kept_mailboxScan {A : Nat} {s0 : State} {s : Sys2Proof.Machine.State} {changed : List Nat} (h_s : Kept A s0 s) (hA : 1441151880758562360 ||| A = A) :
    Kept A s0 (mailboxScan s changed) := by
  unfold mailboxScan
  refine Kept.ite ?_ ?_
  · exact h_s
  · refine kept_each ?_ (fun _ _ h1 => ?_)
    · exact h_s
    · extract_lets -merge -useContext -underBinder x2 x3 x4 x5
      have h5 : Kept A s0 x5 := by
        unfold x5
        refine Kept.u_mbx ?_ (mask_sub (by decide) hA)
        exact h1
      clear_value x5
      refine Kept.ite ?_ ?_
      · exact h1
      · refine kept_msgTake ?_ (mask_sub (by decide) hA)
        · refine kept_count ?_ (mask_sub (by decide) hA)
          · exact h5
theorem kept_execMailboxScan {A : Nat} {s0 : State} {changed : List (Fin 64)} {s : Sys2Proof.Machine.State} (h_s : Kept A s0 s) (hA : 1441151880758562360 ||| A = A) :
    KeptO A s0 (execMailboxScan changed s) := by
  unfold execMailboxScan
  refine KeptO.next ?_
  refine kept_mailboxScan ?_ (mask_sub (by decide) hA)
  · exact h_s
theorem kept_msiHoldoffEnd {A : Nat} {s0 : State} {s : Sys2Proof.Machine.State} {v : Nat} (h_s : Kept A s0 s) (hA : 288230376151713792 ||| A = A) :
    Kept A s0 (msiHoldoffEnd s v) := by
  unfold msiHoldoffEnd
  extract_lets -merge -useContext -underBinder x1 x2
  have h1 : Kept A s0 x1 := by
    unfold x1
    refine kept_emit ?_ (mask_sub (by decide) hA)
    · exact h_s
  clear_value x1
  refine Kept.ite ?_ ?_
  · exact h_s
  · refine Kept.u_mbx ?_ (mask_sub (by decide) hA)
    exact h1
theorem kept_armRing {A : Nat} {s0 : State} {s : Sys2Proof.Machine.State} {m : Sys2Proof.Msg} (h_s : Kept A s0 s) (hA : 288230376151711752 ||| A = A) :
    Kept A s0 (State.armRing s m) := by
  unfold State.armRing
  extract_lets -merge -useContext -underBinder x1 x2 x3 x4
  have h2 : Kept A s0 x2 := by
    unfold x2
    refine kept_wr ?_ (mask_sub (by decide) hA)
    · refine kept_wr ?_ (mask_sub (by decide) hA)
      · exact h_s
  have h3 : Kept A s0 x3 := by
    unfold x3
    refine kept_wr ?_ (mask_sub (by decide) hA)
    · refine kept_wr ?_ (mask_sub (by decide) hA)
      · refine kept_wr ?_ (mask_sub (by decide) hA)
        · exact h2
  clear_value x2 x3
  refine Kept.u_mbx ?_ (mask_sub (by decide) hA)
  exact h3
theorem kept_onMsg {A : Nat} {s0 : State} {s : Sys2Proof.Machine.State} {type : Nat} {f : Sys2Proof.Machine.State → Sys2Proof.Msg → Sys2Proof.Machine.State} (h_s : Kept A s0 s) (h_f : ∀ y0 y1, Kept A s0 y0 → Kept A s0 (f y0 y1)) (hA : 288230376151711744 ||| A = A) :
    Kept A s0 (State.onMsg s type f) := by
  unfold State.onMsg
  split
  · exact h_s
  · extract_lets -merge -useContext -underBinder x1
    refine h_f _ _ ?_
    · refine Kept.u_mbx ?_ (mask_sub (by decide) hA)
      exact h_s
theorem kept_hello {A : Nat} {s0 : State} {s : Sys2Proof.Machine.State} (h_s : Kept A s0 s) (hA : 288230376151713304 ||| A = A) :
    Kept A s0 (hello s) := by
  unfold hello
  refine kept_onMsg ?_ (fun _ _ h1 => ?_) (mask_sub (by decide) hA)
  · exact h_s
  · extract_lets -merge -useContext -underBinder x2 x3 x4 x5 x6 x7 x8 x9 x10 x11 x12 x13 x14
    have h11 : Kept A s0 x11 := by
      unfold x11
      refine kept_armRing ?_ (mask_sub (by decide) hA)
      · refine kept_negotiate ?_ (mask_sub (by decide) hA)
        · exact h1
    have h13 : Kept A s0 x13 := by
      unfold x13
      refine Kept.u_mbx ?_ (mask_sub (by decide) hA)
      exact h11
    have h14 : Kept A s0 x14 := by
      unfold x14
      refine kept_mbxCounts ?_ (mask_sub (by decide) hA)
      · refine kept_flag ?_ (mask_sub (by decide) hA)
        · refine kept_flag ?_ (mask_sub (by decide) hA)
          · exact h13
    clear_value x11 x13 x14
    refine Kept.ite ?_ ?_
    · refine kept_raise ?_ (mask_sub (by decide) hA)
      · exact h14
    · exact h14
theorem kept_execMsiHoldoffEnd {A : Nat} {s0 : State} {vec : Fin 8} {s : Sys2Proof.Machine.State} (h_s : Kept A s0 s) (hA : 288230376151713792 ||| A = A) :
    KeptO A s0 (execMsiHoldoffEnd vec s) := by
  unfold execMsiHoldoffEnd
  refine KeptO.next ?_
  refine kept_msiHoldoffEnd ?_ (mask_sub (by decide) hA)
  · exact h_s
theorem kept_fleetMessage {A : Nat} {s0 : State} {s : Sys2Proof.Machine.State} {b : List Sys2Proof.Byte} (h_s : Kept A s0 s) (hA : 1441151880758562360 ||| A = A) :
    Kept A s0 (fleetMessage s b) := by
  unfold fleetMessage
  extract_lets -merge -useContext -underBinder x1 x2
  refine Kept.ite ?_ ?_
  · exact h_s
  · refine Kept.ite ?_ ?_
    · refine kept_mctpOut ?_ (mask_sub (by decide) hA)
      · exact h_s
    · refine kept_msgTake ?_ (mask_sub (by decide) hA)
      · refine Kept.u_mgt ?_ (mask_sub (by decide) hA)
        exact h_s
theorem kept_execFleetMessage {A : Nat} {s0 : State} {msg : List Sys2Proof.Byte} {s : Sys2Proof.Machine.State} (h_s : Kept A s0 s) (hA : 1441151880758562360 ||| A = A) :
    KeptO A s0 (execFleetMessage msg s) := by
  unfold execFleetMessage
  refine KeptO.next ?_
  refine kept_fleetMessage ?_ (mask_sub (by decide) hA)
  · exact h_s
theorem kept_announce {A : Nat} {s0 : State} {s : Sys2Proof.Machine.State} {v : Nat} (h_s : Kept A s0 s) (hA : 288230376151713792 ||| A = A) :
    Kept A s0 (State.announce s v) := by
  unfold State.announce
  extract_lets -merge -useContext -underBinder x1 x2 x3 x4
  have h3 : Kept A s0 x3 := by
    unfold x3
    refine kept_emit ?_ (mask_sub (by decide) hA)
    · exact h_s
  clear_value x3
  refine Kept.ite ?_ ?_
  · refine Kept.u_mbx ?_ (mask_sub (by decide) hA)
    exact h_s
  · refine Kept.u_mbx ?_ (mask_sub (by decide) hA)
    exact h3
theorem kept_ringWrite {A : Nat} {s0 : State} {s : Sys2Proof.Machine.State} {c : Sys2Proof.Cpl} (h_s : Kept A s0 s) (hA : 288230376151713800 ||| A = A) :
    Kept A s0 (State.ringWrite s c) := by
  unfold State.ringWrite
  extract_lets -merge -useContext -underBinder x1 x2 x3 x4 x5 x6 x7 x8 x9
  have h5 : Kept A s0 x5 := by
    unfold x5
    refine kept_emit ?_ (mask_sub (by decide) hA)
    · exact h_s
  have h7 : Kept A s0 x7 := by
    unfold x7
    refine Kept.u_mbx ?_ (mask_sub (by decide) hA)
    exact h5
  have h9 : Kept A s0 x9 := by
    unfold x9
    refine kept_wr ?_ (mask_sub (by decide) hA)
    · refine kept_wr ?_ (mask_sub (by decide) hA)
      · exact h7
  clear_value x5 x7 x9
  refine kept_announce ?_ (mask_sub (by decide) hA)
  · exact h9
theorem kept_execHello {A : Nat} {s0 : State} {s : Sys2Proof.Machine.State} (h_s : Kept A s0 s) (hA : 288230376151713304 ||| A = A) :
    KeptO A s0 (execHello s) := by
  unfold execHello
  refine KeptO.next ?_
  refine kept_hello ?_ (mask_sub (by decide) hA)
  · exact h_s
theorem kept_execPcieLinkDown {A : Nat} {s0 : State} {linkState : Sys2Proof.Word} {s : Sys2Proof.Machine.State} (h_s : Kept A s0 s) (hA : 1360189427277106227985976 ||| A = A) :
    KeptO A s0 (execPcieLinkDown linkState s) := by
  unfold execPcieLinkDown
  refine KeptO.next ?_
  refine kept_pcieLinkDown ?_ (mask_sub (by decide) hA)
  · exact h_s
theorem kept_hostHeartbeat {A : Nat} {s0 : State} {s : Sys2Proof.Machine.State} {data : Nat} (h_s : Kept A s0 s) (hA : 288230376151711752 ||| A = A) :
    Kept A s0 (hostHeartbeat s data) := by
  unfold hostHeartbeat
  extract_lets -merge -useContext -underBinder x1 x2
  have h1 : Kept A s0 x1 := by
    unfold x1
    refine kept_wr ?_ (mask_sub (by decide) hA)
    · exact h_s
  clear_value x1
  refine Kept.ite ?_ ?_
  · exact h_s
  · refine Kept.u_mbx ?_ (mask_sub (by decide) hA)
    exact h1
theorem kept_completionWrite {A : Nat} {s0 : State} {s : Sys2Proof.Machine.State} (h_s : Kept A s0 s) (hA : 288230376151713800 ||| A = A) :
    Kept A s0 (completionWrite s) := by
  unfold completionWrite
  refine Kept.ite ?_ ?_
  · exact h_s
  · split
    · exact h_s
    · extract_lets -merge -useContext -underBinder x1 x2 x3
      refine Kept.ite ?_ ?_
      · refine kept_mbxCounts ?_ (mask_sub (by decide) hA)
        · refine kept_ringWrite ?_ (mask_sub (by decide) hA)
          · refine Kept.u_mbx ?_ (mask_sub (by decide) hA)
            exact h_s
      · refine kept_mbxCounts ?_ (mask_sub (by decide) hA)
        · refine kept_ringWrite ?_ (mask_sub (by decide) hA)
          · refine Kept.u_mbx ?_ (mask_sub (by decide) hA)
            exact h_s
theorem kept_execHostAbsent {A : Nat} {s0 : State} {s : Sys2Proof.Machine.State} (h_s : Kept A s0 s) (hA : 1360189427277106227985976 ||| A = A) :
    KeptO A s0 (execHostAbsent s) := by
  unfold execHostAbsent
  refine KeptO.next ?_
  refine kept_hostGone ?_ (mask_sub (by decide) hA)
  · exact h_s
theorem kept_execCompletionWrite {A : Nat} {s0 : State} {s : Sys2Proof.Machine.State} (h_s : Kept A s0 s) (hA : 288230376151713800 ||| A = A) :
    KeptO A s0 (execCompletionWrite s) := by
  unfold execCompletionWrite
  refine KeptO.next ?_
  refine kept_completionWrite ?_ (mask_sub (by decide) hA)
  · exact h_s
theorem kept_inputData {A : Nat} {s0 : State} {s : Sys2Proof.Machine.State} (h_s : Kept A s0 s) (hA : 296589057060111388216 ||| A = A) :
    Kept A s0 (inputData s) := by
  unfold inputData
  refine kept_onMsg ?_ (fun _ _ h1 => ?_) (mask_sub (by decide) hA)
  · exact h_s
  · split
    · refine kept_refuse ?_ (mask_sub (by decide) hA)
      · exact h1
    · extract_lets -merge -useContext -underBinder x2 x3 x4
      have h4 : Kept A s0 x4 := by
        unfold x4
        refine Kept.u_prv ?_ (mask_sub (by decide) hA)
        exact h1
      clear_value x4
      refine Kept.ite ?_ ?_
      · refine kept_refuse ?_ (mask_sub (by decide) hA)
        · exact h1
      · refine Kept.ite ?_ ?_
        · refine kept_refuse ?_ (mask_sub (by decide) hA)
          · exact h1
        · refine kept_answer ?_ (mask_sub (by decide) hA)
          · exact h4
theorem kept_withCtx {A : Nat} {s0 : State} {s : Sys2Proof.Machine.State} {m : Sys2Proof.Msg} {ok : Bool} {f : Sys2Proof.Machine.State → Sys2Proof.Machine.State} (h_s : Kept A s0 s) (h_f : ∀ y0, Kept A s0 y0 → Kept A s0 (f y0)) (hA : 1441151880758562360 ||| A = A) :
    Kept A s0 (State.withCtx s m ok f) := by
  unfold State.withCtx
  refine Kept.ite ?_ ?_
  · refine kept_answer ?_ (mask_sub (by decide) hA)
    · refine h_f _ ?_
      · exact h_s
  · refine kept_refuse ?_ (mask_sub (by decide) hA)
    · exact h_s
theorem kept_replayStarted {A : Nat} {s0 : State} {s : Sys2Proof.Machine.State} (h_s : Kept A s0 s) (hA : 1441151897938431544 ||| A = A) :
    Kept A s0 (replayStarted s) := by
  unfold replayStarted
  refine kept_onMsg ?_ (fun _ _ h1 => ?_) (mask_sub (by decide) hA)
  · exact h_s
  · extract_lets -merge -useContext -underBinder x2
    refine kept_withCtx ?_ (fun _ h3 => ?_) (mask_sub (by decide) hA)
    · exact h1
    · refine kept_updSet ?_ (mask_sub (by decide) hA)
      · exact h3
theorem kept_resetReq {A : Nat} {s0 : State} {s : Sys2Proof.Machine.State} (h_s : Kept A s0 s) (hA : 86011870372366244927389688 ||| A = A) :
    Kept A s0 (resetReq s) := by
  unfold resetReq
  refine kept_onMsg ?_ (fun _ _ h1 => ?_) (mask_sub (by decide) hA)
  · exact h_s
  · extract_lets -merge -useContext -underBinder x2
    split
    · extract_lets -merge -useContext -underBinder x3
      refine Kept.ite ?_ ?_
      · refine kept_refuse ?_ (mask_sub (by decide) hA)
        · exact h1
      · refine kept_answer ?_ (mask_sub (by decide) hA)
        · refine kept_engineReset ?_ (mask_sub (by decide) hA)
          · exact h1
    · refine Kept.ite ?_ ?_
      · refine kept_refuse ?_ (mask_sub (by decide) hA)
        · exact h1
      · split
        · refine kept_refuse ?_ (mask_sub (by decide) hA)
          · exact h1
        · refine kept_answer ?_ (mask_sub (by decide) hA)
          · refine kept_startPart ?_ (mask_sub (by decide) hA)
            · exact h1
    · refine kept_chipReset ?_ (mask_sub (by decide) hA)
      · refine kept_answer ?_ (mask_sub (by decide) hA)
        · exact h1
    · split
      · next y4 e5 =>
          have h6 : Kept A s0 y4 := KeptR.of_eq (by
            refine kept_powerCycle ?_ (mask_sub (by decide) hA)
            · exact h1
            ) e5
          refine Kept.ite ?_ ?_
          · refine kept_answer ?_ (mask_sub (by decide) hA)
            · exact h6
          · refine kept_refuse ?_ (mask_sub (by decide) hA)
            · exact h6
theorem kept_markMsg {A : Nat} {s0 : State} {s : Sys2Proof.Machine.State} (h_s : Kept A s0 s) (hA : 296589057060111388216 ||| A = A) :
    Kept A s0 (markMsg s) := by
  unfold markMsg
  refine kept_onMsg ?_ (fun _ _ h1 => ?_) (mask_sub (by decide) hA)
  · exact h_s
  · refine kept_withCtx ?_ (fun _ h2 => ?_) (mask_sub (by decide) hA)
    · exact h1
    · refine kept_record ?_ (mask_sub (by decide) hA)
      · exact h2
theorem kept_replayDecline {A : Nat} {s0 : State} {s : Sys2Proof.Machine.State} (h_s : Kept A s0 s) (hA : 1360190580198610834832952 ||| A = A) :
    Kept A s0 (replayDecline s) := by
  unfold replayDecline
  refine kept_onMsg ?_ (fun _ _ h1 => ?_) (mask_sub (by decide) hA)
  · exact h_s
  · extract_lets -merge -useContext -underBinder x2
    refine kept_withCtx ?_ (fun _ h3 => ?_) (mask_sub (by decide) hA)
    · exact h1
    · refine kept_replaysGo ?_ (mask_sub (by decide) hA)
      · refine kept_killUnreplayed ?_ (mask_sub (by decide) hA)
        · exact h3
theorem kept_replayInput {A : Nat} {s0 : State} {s : Sys2Proof.Machine.State} {c : Nat} {step : Nat} {digest : Nat} (h_s : Kept A s0 s) (hA : 295147905179352826392 ||| A = A) :
    Kept A s0 (State.replayInput s c step digest) := by
  unfold State.replayInput
  split
  · exact h_s
  · split
    · exact h_s
    · extract_lets -merge -useContext -underBinder x1
      have h1 : Kept A s0 x1 := by
        unfold x1
        refine kept_replayUsed ?_ (mask_sub (by decide) hA)
        · exact h_s
      clear_value x1
      refine Kept.ite ?_ ?_
      · exact h1
      · refine kept_replayDiffers ?_ (mask_sub (by decide) hA)
        · exact h1
theorem kept_replayRun {A : Nat} {s0 : State} {s : Sys2Proof.Machine.State} (h_s : Kept A s0 s) (hA : 296589057060111388216 ||| A = A) :
    Kept A s0 (replayRun s) := by
  unfold replayRun
  refine kept_onMsg ?_ (fun _ _ h1 => ?_) (mask_sub (by decide) hA)
  · exact h_s
  · extract_lets -merge -useContext -underBinder x2 x3 x4
    have h4 : Kept A s0 x4 := by
      unfold x4
      refine Kept.u_prv ?_ (mask_sub (by decide) hA)
      exact h1
    clear_value x4
    refine Kept.ite ?_ ?_
    · refine kept_refuse ?_ (mask_sub (by decide) hA)
      · exact h1
    · refine kept_answer ?_ (mask_sub (by decide) hA)
      · refine kept_wr ?_ (mask_sub (by decide) hA)
        · exact h4
theorem kept_setPostures {A : Nat} {s0 : State} {s : Sys2Proof.Machine.State} {wafer : Nat} {ovr : Nat} (h_s : Kept A s0 s) (hA : 536 ||| A = A) :
    Kept A s0 (State.setPostures s wafer ovr) := by
  unfold State.setPostures
  extract_lets -merge -useContext -underBinder x1 x2
  have h2 : Kept A s0 x2 := by
    unfold x2
    refine kept_wr ?_ (mask_sub (by decide) hA)
    · refine kept_wr ?_ (mask_sub (by decide) hA)
      · exact h_s
  clear_value x2
  refine Kept.ite ?_ ?_
  · exact h_s
  · refine kept_raise ?_ (mask_sub (by decide) hA)
    · exact h2
theorem kept_postureSet {A : Nat} {s0 : State} {s : Sys2Proof.Machine.State} (h_s : Kept A s0 s) (hA : 1441156278806396472 ||| A = A) :
    Kept A s0 (postureSet s) := by
  unfold postureSet
  refine kept_onMsg ?_ (fun _ _ h1 => ?_) (mask_sub (by decide) hA)
  · exact h_s
  · extract_lets -merge -useContext -underBinder x2 x3 x4 x5
    refine Kept.ite ?_ ?_
    · refine kept_refuse ?_ (mask_sub (by decide) hA)
      · exact h1
    · refine kept_answer ?_ (mask_sub (by decide) hA)
      · refine kept_sendMirror ?_ (mask_sub (by decide) hA)
        · refine kept_setPostures ?_ (mask_sub (by decide) hA)
          · exact h1
theorem kept_ctxOpen {A : Nat} {s0 : State} {s : Sys2Proof.Machine.State} (h_s : Kept A s0 s) (hA : 370376033423669071416 ||| A = A) :
    Kept A s0 (ctxOpen s) := by
  unfold ctxOpen
  refine kept_onMsg ?_ (fun _ _ h1 => ?_) (mask_sub (by decide) hA)
  · exact h_s
  · extract_lets -merge -useContext -underBinder x2 x3 x4 x5
    have h3 : Kept A s0 x3 := by
      unfold x3
      refine kept_record ?_ (mask_sub (by decide) hA)
      · refine kept_updCtx ?_ (mask_sub (by decide) hA)
        · exact h1
    have h5 : Kept A s0 x5 := by
      unfold x5
      clear_value x4
      split
      · refine kept_seedTake ?_ (mask_sub (by decide) hA)
        · exact h3
      · exact h3
    clear_value x3 x5
    refine Kept.ite ?_ ?_
    · refine kept_refuse ?_ (mask_sub (by decide) hA)
      · exact h1
    · refine kept_answer ?_ (mask_sub (by decide) hA)
      · exact h5
theorem kept_execCtxOpen {A : Nat} {s0 : State} {s : Sys2Proof.Machine.State} (h_s : Kept A s0 s) (hA : 370376033423669071416 ||| A = A) :
    KeptO A s0 (execCtxOpen s) := by
  unfold execCtxOpen
  refine KeptO.next ?_
  refine kept_ctxOpen ?_ (mask_sub (by decide) hA)
  · exact h_s
theorem kept_execReplayDecline {A : Nat} {s0 : State} {s : Sys2Proof.Machine.State} (h_s : Kept A s0 s) (hA : 1360190580198610834832952 ||| A = A) :
    KeptO A s0 (execReplayDecline s) := by
  unfold execReplayDecline
  refine KeptO.next ?_
  refine kept_replayDecline ?_ (mask_sub (by decide) hA)
  · exact h_s
theorem kept_ctxTeardown {A : Nat} {s0 : State} {s : Sys2Proof.Machine.State} (h_s : Kept A s0 s) (hA : 1360485728103790187658808 ||| A = A) :
    Kept A s0 (ctxTeardown s) := by
  unfold ctxTeardown
  refine kept_onMsg ?_ (fun _ _ h1 => ?_) (mask_sub (by decide) hA)
  · exact h_s
  · refine kept_withCtx ?_ (fun _ h2 => ?_) (mask_sub (by decide) hA)
    · exact h1
    · refine kept_replaysGo ?_ (mask_sub (by decide) hA)
      · refine kept_retire ?_ (mask_sub (by decide) hA)
        · refine kept_leaveSets ?_ (mask_sub (by decide) hA)
          · refine kept_record ?_ (mask_sub (by decide) hA)
            · exact h2
theorem kept_seedSetMsg {A : Nat} {s0 : State} {s : Sys2Proof.Machine.State} (h_s : Kept A s0 s) (hA : 370394052232037547576 ||| A = A) :
    Kept A s0 (seedSetMsg s) := by
  unfold seedSetMsg
  refine kept_onMsg ?_ (fun _ _ h1 => ?_) (mask_sub (by decide) hA)
  · exact h_s
  · refine kept_seedSet ?_ (mask_sub (by decide) hA)
    · exact h1
theorem kept_execSeedSet {A : Nat} {s0 : State} {s : Sys2Proof.Machine.State} (h_s : Kept A s0 s) (hA : 370394052232037547576 ||| A = A) :
    KeptO A s0 (execSeedSet s) := by
  unfold execSeedSet
  refine KeptO.next ?_
  refine kept_seedSetMsg ?_ (mask_sub (by decide) hA)
  · exact h_s
theorem kept_dlBegin {A : Nat} {s0 : State} {s : Sys2Proof.Machine.State} {t : Nat} (h_s : Kept A s0 s) (hA : 151115727451828646838280 ||| A = A) :
    Kept A s0 (State.dlBegin s t) := by
  unfold State.dlBegin
  split
  · refine kept_wr ?_ (mask_sub (by decide) hA)
    · refine kept_wr ?_ (mask_sub (by decide) hA)
      · refine kept_setValid ?_ (mask_sub (by decide) hA)
        · exact h_s
  · refine kept_setValid ?_ (mask_sub (by decide) hA)
    · exact h_s
  · refine kept_wr ?_ (mask_sub (by decide) hA)
    · refine kept_wr ?_ (mask_sub (by decide) hA)
      · exact h_s
  · exact h_s
theorem kept_setDl {A : Nat} {s0 : State} {s : Sys2Proof.Machine.State} {i : Nat} {v : Nat} (h_s : Kept A s0 s) (hA : 75557863725914323419136 ||| A = A) :
    Kept A s0 (State.setDl s i v) := by
  unfold State.setDl
  refine Kept.u_dl ?_ (mask_sub (by decide) hA)
  exact h_s
theorem kept_dlEnd {A : Nat} {s0 : State} {s : Sys2Proof.Machine.State} {t : Nat} {n : Nat} {m : Sys2Proof.Msg} (h_s : Kept A s0 s) (hA : 75559304877795081980440 ||| A = A) :
    Kept A s0 (State.dlEnd s t n m) := by
  unfold State.dlEnd
  extract_lets -merge -useContext -underBinder x1 x2
  have h1 : Kept A s0 x1 := by
    unfold x1
    refine kept_setDl ?_ (mask_sub (by decide) hA)
    · exact h_s
  have h2 : ∀ y2_0, Kept A s0 y2_0 → Kept A s0 (x2 y2_0) := by
    intro y2_0 h2_0
    unfold x2
    extract_lets -merge -useContext -underBinder x3
    refine kept_answer ?_ (mask_sub (by decide) hA)
    · refine Kept.u_mbx ?_ (mask_sub (by decide) hA)
      exact h2_0
  clear_value x1 x2
  split
  · refine h2 _ ?_
    · refine kept_wr ?_ (mask_sub (by decide) hA)
      · exact h1
  · refine h2 _ ?_
    · refine kept_setDl ?_ (mask_sub (by decide) hA)
      · exact h1
  · refine h2 _ ?_
    · refine kept_wr ?_ (mask_sub (by decide) hA)
      · exact h1
  · refine kept_answer ?_ (mask_sub (by decide) hA)
    · exact h1
theorem kept_dlChunk {A : Nat} {s0 : State} {s : Sys2Proof.Machine.State} (h_s : Kept A s0 s) (hA : 226675104387217766747704 ||| A = A) :
    Kept A s0 (dlChunk s) := by
  unfold dlChunk
  refine kept_onMsg ?_ (fun _ _ h1 => ?_) (mask_sub (by decide) hA)
  · exact h_s
  · extract_lets -merge -useContext -underBinder x2 x3 x4 x5 x6 x7 x8 x9 x10 x11
    have h7 : Kept A s0 x7 := by
      unfold x7
      refine Kept.ite ?_ ?_
      · refine kept_dlBegin ?_ (mask_sub (by decide) hA)
        · exact h1
      · exact h1
    have h9 : Kept A s0 x9 := by
      unfold x9
      refine kept_poke ?_ (mask_sub (by decide) hA)
      · exact h7
    have h10 : Kept A s0 x10 := by
      unfold x10
      refine Kept.ite ?_ ?_
      · refine kept_poke ?_ (mask_sub (by decide) hA)
        · exact h9
      · exact h9
    have h11 : Kept A s0 x11 := by
      unfold x11
      refine kept_setDl ?_ (mask_sub (by decide) hA)
      · refine kept_setDl ?_ (mask_sub (by decide) hA)
        · exact h10
    clear_value x7 x9 x10 x11
    refine Kept.ite ?_ ?_
    · refine kept_refuse ?_ (mask_sub (by decide) hA)
      · exact h1
    · refine Kept.ite ?_ ?_
      · refine kept_refuse ?_ (mask_sub (by decide) hA)
        · exact h1
      · refine Kept.ite ?_ ?_
        · refine kept_dlEnd ?_ (mask_sub (by decide) hA)
          · exact h11
        · refine kept_answer ?_ (mask_sub (by decide) hA)
          · exact h11
theorem kept_execDlChunk {A : Nat} {s0 : State} {s : Sys2Proof.Machine.State} (h_s : Kept A s0 s) (hA : 226675104387217766747704 ||| A = A) :
    KeptO A s0 (execDlChunk s) := by
  unfold execDlChunk
  refine KeptO.next ?_
  refine kept_dlChunk ?_ (mask_sub (by decide) hA)
  · exact h_s
theorem kept_fwActivate {A : Nat} {s0 : State} {s : Sys2Proof.Machine.State} (h_s : Kept A s0 s) (hA : 1369488444016216111398456 ||| A = A) :
    Kept A s0 (fwActivate s) := by
  unfold fwActivate
  refine kept_onMsg ?_ (fun _ _ h1 => ?_) (mask_sub (by decide) hA)
  · exact h_s
  · extract_lets -merge -useContext -underBinder x2
    refine Kept.ite ?_ ?_
    · refine kept_refuse ?_ (mask_sub (by decide) hA)
      · exact h1
    · refine kept_actStart ?_ (mask_sub (by decide) hA)
      · refine kept_answer ?_ (mask_sub (by decide) hA)
        · refine Kept.u_mbx ?_ (mask_sub (by decide) hA)
          exact h1
theorem kept_recordInput {A : Nat} {s0 : State} {s : Sys2Proof.Machine.State} {c : Nat} {step : Nat} {len : Nat} {digest : Nat} (h_s : Kept A s0 s) (hA : 295147905179352826392 ||| A = A) :
    KeptR A s0 (State.recordInput s c step len digest) := by
  unfold State.recordInput
  extract_lets -merge -useContext -underBinder x1 x2 x3 x4 x5 x6
  have h6 : Kept A s0 x6 := by
    unfold x6
    refine Kept.u_prv ?_ (mask_sub (by decide) hA)
    exact h_s
  clear_value x6
  refine KeptR.ite ?_ ?_
  · refine KeptR.mk ?_
    exact h_s
  · refine KeptR.ite ?_ ?_
    · refine KeptR.mk ?_
      refine kept_raise ?_ (mask_sub (by decide) hA)
      · refine kept_flag ?_ (mask_sub (by decide) hA)
        · exact h_s
    · refine KeptR.mk ?_
      refine kept_wr ?_ (mask_sub (by decide) hA)
      · refine kept_wr ?_ (mask_sub (by decide) hA)
        · exact h6
theorem kept_inputDeclare {A : Nat} {s0 : State} {s : Sys2Proof.Machine.State} (h_s : Kept A s0 s) (hA : 296589057060111388216 ||| A = A) :
    Kept A s0 (inputDeclare s) := by
  unfold inputDeclare
  refine kept_onMsg ?_ (fun _ _ h1 => ?_) (mask_sub (by decide) hA)
  · exact h_s
  · refine kept_withCtx ?_ (fun _ h2 => ?_) (mask_sub (by decide) hA)
    · exact h1
    · extract_lets -merge -useContext -underBinder x3 x4 x5 x6
      split
      · next y7 e8 =>
          have h9 : Kept A s0 y7 := KeptR.of_eq (by
            refine kept_recordInput ?_ (mask_sub (by decide) hA)
            · refine kept_replayInput ?_ (mask_sub (by decide) hA)
              · exact h2
            ) e8
          extract_lets -merge -useContext -underBinder x10 x11
          have h11 : Kept A s0 x11 := by
            unfold x11
            refine Kept.u_prv ?_ (mask_sub (by decide) hA)
            exact h9
          clear_value x11
          refine kept_inputChain ?_ (mask_sub (by decide) hA)
          · exact h11
theorem kept_execInputDeclare {A : Nat} {s0 : State} {s : Sys2Proof.Machine.State} (h_s : Kept A s0 s) (hA : 296589057060111388216 ||| A = A) :
    KeptO A s0 (execInputDeclare s) := by
  unfold execInputDeclare
  refine KeptO.next ?_
  refine kept_inputDeclare ?_ (mask_sub (by decide) hA)
  · exact h_s
theorem kept_execReplayRun {A : Nat} {s0 : State} {s : Sys2Proof.Machine.State} (h_s : Kept A s0 s) (hA : 296589057060111388216 ||| A = A) :
    KeptO A s0 (execReplayRun s) := by
  unfold execReplayRun
  refine KeptO.next ?_
  refine kept_replayRun ?_ (mask_sub (by decide) hA)
  · exact h_s
theorem kept_replayDone {A : Nat} {s0 : State} {s : Sys2Proof.Machine.State} (h_s : Kept A s0 s) (hA : 1360190580198610834832952 ||| A = A) :
    Kept A s0 (replayDone s) := by
  unfold replayDone
  refine kept_onMsg ?_ (fun _ _ h1 => ?_) (mask_sub (by decide) hA)
  · exact h_s
  · extract_lets -merge -useContext -underBinder x2 x3
    refine kept_withCtx ?_ (fun _ h4 => ?_) (mask_sub (by decide) hA)
    · exact h1
    · refine kept_replayGo ?_ (mask_sub (by decide) hA)
      · refine kept_updSet ?_ (mask_sub (by decide) hA)
        · exact h4
theorem kept_ctxResume {A : Nat} {s0 : State} {s : Sys2Proof.Machine.State} (h_s : Kept A s0 s) (hA : 1441151949480136248 ||| A = A) :
    Kept A s0 (ctxResume s) := by
  unfold ctxResume
  refine kept_onMsg ?_ (fun _ _ h1 => ?_) (mask_sub (by decide) hA)
  · exact h_s
  · extract_lets -merge -useContext -underBinder x2
    refine kept_withCtx ?_ (fun _ h3 => ?_) (mask_sub (by decide) hA)
    · exact h1
    · refine kept_regate ?_ (mask_sub (by decide) hA)
      · refine kept_updCtx ?_ (mask_sub (by decide) hA)
        · exact h3
theorem kept_execCtxTeardown {A : Nat} {s0 : State} {s : Sys2Proof.Machine.State} (h_s : Kept A s0 s) (hA : 1360485728103790187658808 ||| A = A) :
    KeptO A s0 (execCtxTeardown s) := by
  unfold execCtxTeardown
  refine KeptO.next ?_
  refine kept_ctxTeardown ?_ (mask_sub (by decide) hA)
  · exact h_s
theorem kept_procRestart {A : Nat} {s0 : State} {s : Sys2Proof.Machine.State} (h_s : Kept A s0 s) (hA : 151117168608107453234744 ||| A = A) :
    Kept A s0 (procRestart s) := by
  unfold procRestart
  refine kept_onMsg ?_ (fun _ _ h1 => ?_) (mask_sub (by decide) hA)
  · exact h_s
  · extract_lets -merge -useContext -underBinder x2 x3 x4 x5
    have h4 : Kept A s0 x4 := by
      unfold x4
      refine kept_updProc ?_ (mask_sub (by decide) hA)
      · exact h1
    clear_value x4
    refine Kept.ite ?_ ?_
    · refine kept_refuse ?_ (mask_sub (by decide) hA)
      · exact h1
    · refine Kept.ite ?_ ?_
      · refine kept_refuse ?_ (mask_sub (by decide) hA)
        · exact h1
      · refine kept_procsGo ?_ (mask_sub (by decide) hA)
        · refine kept_answer ?_ (mask_sub (by decide) hA)
          · refine Kept.u_mbx ?_ (mask_sub (by decide) hA)
            exact h4
theorem kept_execProcRestart {A : Nat} {s0 : State} {s : Sys2Proof.Machine.State} (h_s : Kept A s0 s) (hA : 151117168608107453234744 ||| A = A) :
    KeptO A s0 (execProcRestart s) := by
  unfold execProcRestart
  refine KeptO.next ?_
  refine kept_procRestart ?_ (mask_sub (by decide) hA)
  · exact h_s
theorem kept_execFwActivate {A : Nat} {s0 : State} {s : Sys2Proof.Machine.State} (h_s : Kept A s0 s) (hA : 1369488444016216111398456 ||| A = A) :
    KeptO A s0 (execFwActivate s) := by
  unfold execFwActivate
  refine KeptO.next ?_
  refine kept_fwActivate ?_ (mask_sub (by decide) hA)
  · exact h_s
theorem kept_execReplayStarted {A : Nat} {s0 : State} {s : Sys2Proof.Machine.State} (h_s : Kept A s0 s) (hA : 1441151897938431544 ||| A = A) :
    KeptO A s0 (execReplayStarted s) := by
  unfold execReplayStarted
  refine KeptO.next ?_
  refine kept_replayStarted ?_ (mask_sub (by decide) hA)
  · exact h_s
theorem kept_execPostureSet {A : Nat} {s0 : State} {s : Sys2Proof.Machine.State} (h_s : Kept A s0 s) (hA : 1441156278806396472 ||| A = A) :
    KeptO A s0 (execPostureSet s) := by
  unfold execPostureSet
  refine KeptO.next ?_
  refine kept_postureSet ?_ (mask_sub (by decide) hA)
  · exact h_s
theorem kept_execCtxResume {A : Nat} {s0 : State} {s : Sys2Proof.Machine.State} (h_s : Kept A s0 s) (hA : 1441151949480136248 ||| A = A) :
    KeptO A s0 (execCtxResume s) := by
  unfold execCtxResume
  refine KeptO.next ?_
  refine kept_ctxResume ?_ (mask_sub (by decide) hA)
  · exact h_s
theorem kept_execInputData {A : Nat} {s0 : State} {s : Sys2Proof.Machine.State} (h_s : Kept A s0 s) (hA : 296589057060111388216 ||| A = A) :
    KeptO A s0 (execInputData s) := by
  unfold execInputData
  refine KeptO.next ?_
  refine kept_inputData ?_ (mask_sub (by decide) hA)
  · exact h_s
theorem kept_execMark {A : Nat} {s0 : State} {s : Sys2Proof.Machine.State} (h_s : Kept A s0 s) (hA : 296589057060111388216 ||| A = A) :
    KeptO A s0 (execMark s) := by
  unfold execMark
  refine KeptO.next ?_
  refine kept_markMsg ?_ (mask_sub (by decide) hA)
  · exact h_s
theorem kept_execReplayDone {A : Nat} {s0 : State} {s : Sys2Proof.Machine.State} (h_s : Kept A s0 s) (hA : 1360190580198610834832952 ||| A = A) :
    KeptO A s0 (execReplayDone s) := by
  unfold execReplayDone
  refine KeptO.next ?_
  refine kept_replayDone ?_ (mask_sub (by decide) hA)
  · exact h_s
theorem kept_execResetReq {A : Nat} {s0 : State} {s : Sys2Proof.Machine.State} (h_s : Kept A s0 s) (hA : 86011870372366244927389688 ||| A = A) :
    KeptO A s0 (execResetReq s) := by
  unfold execResetReq
  refine KeptO.next ?_
  refine kept_resetReq ?_ (mask_sub (by decide) hA)
  · exact h_s
theorem kept_unlock {A : Nat} {s0 : State} {s : Sys2Proof.Machine.State} {minutes : Nat} {nonce : Nat} (h_s : Kept A s0 s) (hA : 2305843009213694488 ||| A = A) :
    Kept A s0 (State.unlock s minutes nonce) := by
  unfold State.unlock
  extract_lets -merge -useContext -underBinder x1 x2
  refine kept_raise ?_ (mask_sub (by decide) hA)
  · refine Kept.u_dbg ?_ (mask_sub (by decide) hA)
    exact h_s
theorem kept_unlockResume {A : Nat} {s0 : State} {s : Sys2Proof.Machine.State} (h_s : Kept A s0 s) (hA : 3628388372986392 ||| A = A) :
    Kept A s0 (State.unlockResume s) := by
  unfold State.unlockResume
  extract_lets -merge -useContext -underBinder x1
  refine Kept.ite ?_ ?_
  · exact h_s
  · refine Kept.ite ?_ ?_
    · refine kept_resumeCut ?_ (mask_sub (by decide) hA)
      · exact h_s
    · refine Kept.u_stop ?_ (mask_sub (by decide) hA)
      exact h_s
theorem kept_notifyTwk {A : Nat} {s0 : State} {s : Sys2Proof.Machine.State} {p : Sys2Proof.Proposal} {what : Nat} (h_s : Kept A s0 s) (hA : 288230376151712280 ||| A = A) :
    Kept A s0 (State.notifyTwk s p what) := by
  unfold State.notifyTwk
  refine kept_notify ?_ (mask_sub (by decide) hA)
  · exact h_s
theorem kept_twkDrop {A : Nat} {s0 : State} {s : Sys2Proof.Machine.State} {p : Sys2Proof.Proposal} {what : Nat} (h_s : Kept A s0 s) (hA : 864691128455135768 ||| A = A) :
    Kept A s0 (State.twkDrop s p what) := by
  unfold State.twkDrop
  extract_lets -merge -useContext -underBinder x1 x2
  have h2 : Kept A s0 x2 := by
    unfold x2
    refine Kept.u_twk ?_ (mask_sub (by decide) hA)
    exact h_s
  clear_value x2
  refine kept_notifyTwk ?_ (mask_sub (by decide) hA)
  · refine kept_raise ?_ (mask_sub (by decide) hA)
    · exact h2
theorem kept_pipeRelease {A : Nat} {s0 : State} {s : Sys2Proof.Machine.State} {k : Nat} {st : Nat} (h_s : Kept A s0 s) (hA : 2305843009213694488 ||| A = A) :
    Kept A s0 (State.pipeRelease s k st) := by
  unfold State.pipeRelease
  extract_lets -merge -useContext -underBinder x1
  refine Kept.ite ?_ ?_
  · exact h_s
  · refine kept_raise ?_ (mask_sub (by decide) hA)
    · refine Kept.u_dbg ?_ (mask_sub (by decide) hA)
      exact h_s
theorem kept_setFloor {A : Nat} {s0 : State} {s : Sys2Proof.Machine.State} {f : Nat} (h_s : Kept A s0 s) (hA : 536 ||| A = A) :
    Kept A s0 (State.setFloor s f) := by
  unfold State.setFloor
  extract_lets -merge -useContext -underBinder x1 x2 x3
  have h1 : Kept A s0 x1 := by
    unfold x1
    refine kept_wr ?_ (mask_sub (by decide) hA)
    · exact h_s
  clear_value x1
  refine kept_setPostures ?_ (mask_sub (by decide) hA)
  · exact h1
theorem kept_variantChange {A : Nat} {s0 : State} {s : Sys2Proof.Machine.State} {p : List Sys2Proof.Byte} {b : List Sys2Proof.Byte} (h_s : Kept A s0 s) (hA : 158494803391046774701880 ||| A = A) :
    Kept A s0 (State.variantChange s p b) := by
  unfold State.variantChange
  extract_lets -merge -useContext -underBinder x1 x2
  have h1 : ∀ y1_0 y1_1 y1_2, Kept A s0 y1_0 → Kept A s0 (x1 y1_0 y1_1 y1_2) := by
    intro y1_0 y1_1 y1_2 h1_0
    unfold x1
    refine kept_raise ?_ (mask_sub (by decide) hA)
    · exact h1_0
  clear_value x1
  split
  · refine h1 _ _ _ ?_
    · refine kept_flag ?_ (mask_sub (by decide) hA)
      · refine kept_recWrite ?_ (mask_sub (by decide) hA)
        · exact h_s
  · refine h1 _ _ _ ?_
    · refine kept_calIn ?_ (mask_sub (by decide) hA)
      · refine kept_recWrite ?_ (mask_sub (by decide) hA)
        · exact h_s
  · extract_lets -merge -useContext -underBinder x3
    refine h1 _ _ _ ?_
    · refine Kept.ite ?_ ?_
      · refine kept_enterFenced ?_ (mask_sub (by decide) hA)
        · exact h_s
      · refine Kept.ite ?_ ?_
        · refine kept_setHistState ?_ (mask_sub (by decide) hA)
          · exact h_s
        · exact h_s
  · extract_lets -merge -useContext -underBinder x4 x5
    have h4 : Kept A s0 x4 := by
      unfold x4
      refine kept_returnService ?_ (mask_sub (by decide) hA)
      · exact h_s
    have h5 : Kept A s0 x5 := by
      unfold x5
      refine Kept.u_hist_histStaged ?_ (mask_sub (by decide) hA)
      exact h4
    clear_value x4 x5
    refine h1 _ _ _ ?_
    · exact h5
  · extract_lets -merge -useContext -underBinder x6 x7 x8 x9 x10 x11 x12
    have h10 : Kept A s0 x10 := by
      unfold x10
      refine kept_poke ?_ (mask_sub (by decide) hA)
      · exact h_s
    have h11 : Kept A s0 x11 := by
      unfold x11
      refine kept_poke ?_ (mask_sub (by decide) hA)
      · exact h10
    have h12 : Kept A s0 x12 := by
      unfold x12
      refine Kept.ite ?_ ?_
      · refine kept_raise ?_ (mask_sub (by decide) hA)
        · refine kept_wr ?_ (mask_sub (by decide) hA)
          · exact h11
      · exact h11
    clear_value x10 x11 x12
    refine Kept.ite ?_ ?_
    · exact h_s
    · refine h1 _ _ _ ?_
      · exact h12
end Sys2Proof.Machine
end

