-- ==== Sys2Proof/Laws/Kept6.lean ====
section
/-! SUPPORT. What every operation on the state keeps, part 7: callees come before their callers. -/
namespace Sys2Proof.Machine
open Sys2Proof Host
theorem kept_classEffect {A : Nat} {s0 : State} {s : Sys2Proof.Machine.State} {p : Sys2Proof.Proposal} (h_s : Kept A s0 s) (hA : 2595238250423589937626936 ||| A = A) :
    Kept A s0 (State.classEffect s p) := by
  unfold State.classEffect
  extract_lets -merge -useContext -underBinder x1
  split
  · extract_lets -merge -useContext -underBinder x2
    have h2 : Kept A s0 x2 := by
      unfold x2
      refine kept_wr ?_ (mask_sub (by decide) hA)
      · exact h_s
    clear_value x2
    refine Kept.ite ?_ ?_
    · refine kept_notifyWafer ?_ (mask_sub (by decide) hA)
      · refine kept_flag ?_ (mask_sub (by decide) hA)
        · exact h2
    · exact h2
  · refine kept_setFloor ?_ (mask_sub (by decide) hA)
    · exact h_s
  · extract_lets -merge -useContext -underBinder x3
    have h3 : Kept A s0 x3 := by
      unfold x3
      refine kept_wr ?_ (mask_sub (by decide) hA)
      · exact h_s
    clear_value x3
    refine Kept.ite ?_ ?_
    · refine kept_openGates ?_ (mask_sub (by decide) hA)
      · exact h3
    · exact h3
  · extract_lets -merge -useContext -underBinder x4
    refine Kept.ite ?_ ?_
    · refine kept_gristCommit ?_ (mask_sub (by decide) hA)
      · exact h_s
    · exact h_s
  · refine kept_atticErase ?_ (mask_sub (by decide) hA)
    · exact h_s
  · refine kept_unlock ?_ (mask_sub (by decide) hA)
    · exact h_s
  · refine kept_variantChange ?_ (mask_sub (by decide) hA)
    · exact h_s
  · refine kept_padRewrite ?_ (mask_sub (by decide) hA)
    · refine kept_wr ?_ (mask_sub (by decide) hA)
      · exact h_s
theorem kept_commit {A : Nat} {s0 : State} {s : Sys2Proof.Machine.State} {p : Sys2Proof.Proposal} {mirrored : Bool} (h_s : Kept A s0 s) (hA : 2595238250423589937626936 ||| A = A) :
    Kept A s0 (State.commit s p mirrored) := by
  unfold State.commit
  extract_lets -merge -useContext -underBinder x1 x2 x3
  have h1 : Kept A s0 x1 := by
    unfold x1
    refine Kept.ite ?_ ?_
    · exact h_s
    · refine kept_raise ?_ (mask_sub (by decide) hA)
      · exact h_s
  have h2 : Kept A s0 x2 := by
    unfold x2
    refine kept_count ?_ (mask_sub (by decide) hA)
    · refine kept_wr ?_ (mask_sub (by decide) hA)
      · refine kept_raise ?_ (mask_sub (by decide) hA)
        · exact h1
  have h3 : Kept A s0 x3 := by
    unfold x3
    refine Kept.ite ?_ ?_
    · refine kept_wr ?_ (mask_sub (by decide) hA)
      · exact h2
    · refine Kept.ite ?_ ?_
      · refine kept_wr ?_ (mask_sub (by decide) hA)
        · exact h2
      · exact h2
  clear_value x1 x2 x3
  refine kept_classEffect ?_ (mask_sub (by decide) hA)
  · refine kept_notifyTwk ?_ (mask_sub (by decide) hA)
    · exact h3
theorem kept_commitsGo {A : Nat} {s0 : State} {s : Sys2Proof.Machine.State} (h_s : Kept A s0 s) (hA : 2595238826884342241050424 ||| A = A) :
    Kept A s0 (State.commitsGo s) := by
  unfold State.commitsGo
  extract_lets -merge -useContext -underBinder x1 x2 x3 x4
  have h4 : Kept A s0 x4 := by
    unfold x4
    refine Kept.u_twk ?_ (mask_sub (by decide) hA)
    exact h_s
  clear_value x4
  refine Kept.ite ?_ ?_
  · exact h_s
  · refine Kept.ite ?_ ?_
    · refine Kept.ite ?_ ?_
      · exact h_s
      · refine kept_sendMirror ?_ (mask_sub (by decide) hA)
        · refine Kept.u_twk ?_ (mask_sub (by decide) hA)
          exact h_s
    · refine kept_each ?_ (fun _ _ h5 => ?_)
      · exact h4
      · refine kept_commit ?_ (mask_sub (by decide) hA)
        · exact h5
theorem kept_procRelease {A : Nat} {s0 : State} {s : Sys2Proof.Machine.State} {i : Nat} (h_s : Kept A s0 s) (hA : 8640619646658250383179772 ||| A = A) :
    Kept A s0 (State.procRelease s i) := by
  unfold State.procRelease
  extract_lets -merge -useContext -underBinder x1 x2 x3 x4
  have h2 : Kept A s0 x2 := by
    unfold x2
    refine Kept.u_dbg ?_ (mask_sub (by decide) hA)
    exact h_s
  have h3 : Kept A s0 x3 := by
    unfold x3
    refine kept_draw ?_ (mask_sub (by decide) hA)
    · refine kept_raise ?_ (mask_sub (by decide) hA)
      · exact h2
  have h4 : Kept A s0 x4 := by
    unfold x4
    refine Kept.ite ?_ ?_
    · refine kept_hallBack ?_ (mask_sub (by decide) hA)
      · exact h3
    · exact h3
  clear_value x2 x3 x4
  refine Kept.ite ?_ ?_
  · exact h_s
  · refine kept_commitsGo ?_ (mask_sub (by decide) hA)
    · refine kept_cutWaited ?_ (mask_sub (by decide) hA)
      · exact h4
theorem kept_unlockEnd {A : Nat} {s0 : State} {s : Sys2Proof.Machine.State} {cause : Nat} (h_s : Kept A s0 s) (hA : 8640619647784150290022396 ||| A = A) :
    Kept A s0 (State.unlockEnd s cause) := by
  unfold State.unlockEnd
  extract_lets -merge -useContext -underBinder x1 x2 x3 x4 x5
  have h2 : Kept A s0 x2 := by
    unfold x2
    refine kept_each ?_ (fun _ _ h7 => ?_)
    · exact h_s
    · refine kept_pipeRelease ?_ (mask_sub (by decide) hA)
      · exact h7
  have h3 : Kept A s0 x3 := by
    unfold x3
    refine kept_each ?_ (fun _ _ h6 => ?_)
    · exact h2
    · refine kept_procRelease ?_ (mask_sub (by decide) hA)
      · exact h6
  have h5 : Kept A s0 x5 := by
    unfold x5
    refine Kept.u_dbg ?_ (mask_sub (by decide) hA)
    exact h3
  clear_value x2 x3 x5
  refine Kept.ite ?_ ?_
  · exact h_s
  · refine kept_raise ?_ (mask_sub (by decide) hA)
    · refine kept_unlockResume ?_ (mask_sub (by decide) hA)
      · exact h5
theorem kept_variantMay {A : Nat} {s0 : State} {s : Sys2Proof.Machine.State} {p : List Sys2Proof.Byte} (h_s : Kept A s0 s) (hA : 536 ||| A = A) :
    KeptR A s0 (State.variantMay s p) := by
  unfold State.variantMay
  extract_lets -merge -useContext -underBinder x1 x2
  refine KeptR.ite ?_ ?_
  · refine KeptR.ite ?_ ?_
    · refine KeptR.mk ?_
      exact h_s
    · refine KeptR.ite ?_ ?_
      · refine KeptR.mk ?_
        exact h_s
      · refine KeptR.mk ?_
        refine kept_raise ?_ (mask_sub (by decide) hA)
        · exact h_s
  · refine KeptR.ite ?_ ?_
    · refine KeptR.mk ?_
      exact h_s
    · refine KeptR.mk ?_
      exact h_s
theorem kept_twkPropose {A : Nat} {s0 : State} {s : Sys2Proof.Machine.State} (h_s : Kept A s0 s) (hA : 2017617031109819964 ||| A = A) :
    Kept A s0 (twkPropose s) := by
  unfold twkPropose
  refine kept_onMsg ?_ (fun _ _ h1 => ?_) (mask_sub (by decide) hA)
  · exact h_s
  · extract_lets -merge -useContext -underBinder x2 x3
    split
    · next y4 e5 =>
        have h6 : Kept A s0 y4 := KeptR.of_eq (by
          refine KeptR.ite ?_ ?_
          · refine kept_variantMay ?_ (mask_sub (by decide) hA)
            · exact h1
          · refine KeptR.mk ?_
            exact h1
          ) e5
        extract_lets -merge -useContext -underBinder x7 x8 x9 x10 x11 x12
        have h7 : Kept A s0 x7 := by
          unfold x7
          split
          · refine kept_twkDrop ?_ (mask_sub (by decide) hA)
            · exact h6
          · exact h6
        have h9 : Kept A s0 x9 := by
          unfold x9
          refine kept_draw ?_ (mask_sub (by decide) hA)
          · exact h7
        have h11 : Kept A s0 x11 := by
          unfold x11
          refine Kept.u_twk ?_ (mask_sub (by decide) hA)
          exact h9
        have h12 : Kept A s0 x12 := by
          unfold x12
          refine kept_sendMirror ?_ (mask_sub (by decide) hA)
          · refine kept_notifyTwk ?_ (mask_sub (by decide) hA)
            · refine kept_raise ?_ (mask_sub (by decide) hA)
              · exact h11
        clear_value x7 x9 x11 x12
        refine Kept.ite ?_ ?_
        · refine kept_refuse ?_ (mask_sub (by decide) hA)
          · exact h6
        · refine kept_answer ?_ (mask_sub (by decide) hA)
          · exact h12
theorem kept_expireDue {A : Nat} {s0 : State} {s : Sys2Proof.Machine.State} {cls : Nat} (h_s : Kept A s0 s) (hA : 864691128455135768 ||| A = A) :
    Kept A s0 (State.expireDue s cls) := by
  unfold State.expireDue
  split
  · exact h_s
  · refine Kept.ite ?_ ?_
    · refine kept_twkDrop ?_ (mask_sub (by decide) hA)
      · exact h_s
    · exact h_s
theorem kept_proposalExpire {A : Nat} {s0 : State} {s : Sys2Proof.Machine.State} {cls : Nat} (h_s : Kept A s0 s) (hA : 864691128455135768 ||| A = A) :
    Kept A s0 (proposalExpire s cls) := by
  unfold proposalExpire
  extract_lets -merge -useContext -underBinder x1
  refine kept_expireDue ?_ (mask_sub (by decide) hA)
  · refine Kept.u_twk ?_ (mask_sub (by decide) hA)
    exact h_s
theorem kept_debugLock {A : Nat} {s0 : State} {s : Sys2Proof.Machine.State} (h_s : Kept A s0 s) (hA : 8640620800705654896869372 ||| A = A) :
    Kept A s0 (debugLock s) := by
  unfold debugLock
  refine kept_onMsg ?_ (fun _ _ h1 => ?_) (mask_sub (by decide) hA)
  · exact h_s
  · refine kept_answer ?_ (mask_sub (by decide) hA)
    · refine kept_unlockEnd ?_ (mask_sub (by decide) hA)
      · exact h1
theorem kept_twkEndorse {A : Nat} {s0 : State} {s : Sys2Proof.Machine.State} (h_s : Kept A s0 s) (hA : 864691128455135232 ||| A = A) :
    Kept A s0 (twkEndorse s) := by
  unfold twkEndorse
  refine kept_onMsg ?_ (fun _ _ h1 => ?_) (mask_sub (by decide) hA)
  · exact h_s
  · extract_lets -merge -useContext -underBinder x2 x3
    refine Kept.u_twk ?_ (mask_sub (by decide) hA)
    exact h1
theorem kept_execTwkEndorse {A : Nat} {s0 : State} {s : Sys2Proof.Machine.State} (h_s : Kept A s0 s) (hA : 864691128455135232 ||| A = A) :
    KeptO A s0 (execTwkEndorse s) := by
  unfold execTwkEndorse
  refine KeptO.next ?_
  refine kept_twkEndorse ?_ (mask_sub (by decide) hA)
  · exact h_s
theorem kept_toCommit {A : Nat} {s0 : State} {s : Sys2Proof.Machine.State} {p : Sys2Proof.Proposal} (h_s : Kept A s0 s) (hA : 2595238826884342241050424 ||| A = A) :
    Kept A s0 (State.toCommit s p) := by
  unfold State.toCommit
  extract_lets -merge -useContext -underBinder x1
  refine kept_commitsGo ?_ (mask_sub (by decide) hA)
  · refine Kept.u_twk ?_ (mask_sub (by decide) hA)
    exact h_s
theorem kept_endorsementVerify {A : Nat} {s0 : State} {s : Sys2Proof.Machine.State} (h_s : Kept A s0 s) (hA : 2595239979805846847897400 ||| A = A) :
    Kept A s0 (endorsementVerify s) := by
  unfold endorsementVerify
  split
  · exact h_s
  · extract_lets -merge -useContext -underBinder x1 x2 x3
    have h2 : Kept A s0 x2 := by
      unfold x2
      refine Kept.u_twk ?_ (mask_sub (by decide) hA)
      exact h_s
    clear_value x2
    refine Kept.ite ?_ ?_
    · refine kept_expireDue ?_ (mask_sub (by decide) hA)
      · refine kept_refuse ?_ (mask_sub (by decide) hA)
        · refine kept_raiseOnce ?_ (mask_sub (by decide) hA)
          · refine kept_count ?_ (mask_sub (by decide) hA)
            · exact h2
    · split
      · exact h2
      · extract_lets -merge -useContext -underBinder x4 x5 x6 x7
        have h5 : Kept A s0 x5 := by
          unfold x5
          refine kept_answer ?_ (mask_sub (by decide) hA)
          · exact h2
        have h7 : Kept A s0 x7 := by
          unfold x7
          refine Kept.u_twk ?_ (mask_sub (by decide) hA)
          exact h5
        clear_value x5 x7
        refine Kept.ite ?_ ?_
        · refine kept_toCommit ?_ (mask_sub (by decide) hA)
          · exact h5
        · refine kept_expireDue ?_ (mask_sub (by decide) hA)
          · exact h7
theorem kept_execEndorsementVerify {A : Nat} {s0 : State} {s : Sys2Proof.Machine.State} (h_s : Kept A s0 s) (hA : 2595239979805846847897400 ||| A = A) :
    KeptO A s0 (execEndorsementVerify s) := by
  unfold execEndorsementVerify
  refine KeptO.next ?_
  refine kept_endorsementVerify ?_ (mask_sub (by decide) hA)
  · exact h_s
theorem kept_execDebugLock {A : Nat} {s0 : State} {s : Sys2Proof.Machine.State} (h_s : Kept A s0 s) (hA : 8640620800705654896869372 ||| A = A) :
    KeptO A s0 (execDebugLock s) := by
  unfold execDebugLock
  refine KeptO.next ?_
  refine kept_debugLock ?_ (mask_sub (by decide) hA)
  · exact h_s
theorem kept_execProcessorSwitchDone {A : Nat} {s0 : State} {i : Sys2Proof.Byte} {us : Nat} {s : Sys2Proof.Machine.State} (h_s : Kept A s0 s) (hA : 8650065676660682356375544 ||| A = A) :
    KeptO A s0 (execProcessorSwitchDone i us s) := by
  unfold execProcessorSwitchDone
  refine KeptO.next ?_
  refine kept_commitsGo ?_ (mask_sub (by decide) hA)
  · refine kept_cutWaited ?_ (mask_sub (by decide) hA)
    · refine kept_processorSwitchDone ?_ (mask_sub (by decide) hA)
      · exact h_s
theorem kept_execDebugUnlockExpire {A : Nat} {s0 : State} {s : Sys2Proof.Machine.State} (h_s : Kept A s0 s) (hA : 8640619647784150290022396 ||| A = A) :
    KeptO A s0 (execDebugUnlockExpire s) := by
  unfold execDebugUnlockExpire
  refine KeptO.next ?_
  refine kept_unlockEnd ?_ (mask_sub (by decide) hA)
  · exact h_s
theorem kept_mirrorAck {A : Nat} {s0 : State} {s : Sys2Proof.Machine.State} (h_s : Kept A s0 s) (hA : 79966491282220609422245688 ||| A = A) :
    Kept A s0 (mirrorAck s) := by
  unfold mirrorAck
  split
  · exact h_s
  · extract_lets -merge -useContext -underBinder x1 x2 x3 x4 x5 x6
    have h1 : Kept A s0 x1 := by
      unfold x1
      refine kept_mirrorDone ?_ (mask_sub (by decide) hA)
      · exact h_s
    have h4 : Kept A s0 x4 := by
      unfold x4
      refine Kept.u_twk ?_ (mask_sub (by decide) hA)
      exact h1
    have h5 : Kept A s0 x5 := by
      unfold x5
      refine kept_each ?_ (fun _ _ h7 => ?_)
      · exact h4
      · refine kept_commit ?_ (mask_sub (by decide) hA)
        · exact h7
    clear_value x1 x4 x5
    refine Kept.ite ?_ ?_
    · exact h1
    · refine kept_commitsGo ?_ (mask_sub (by decide) hA)
      · refine Kept.u_pair ?_ (mask_sub (by decide) hA)
        exact h5
theorem kept_execMirrorAck {A : Nat} {s0 : State} {s : Sys2Proof.Machine.State} (h_s : Kept A s0 s) (hA : 79966491282220609422245688 ||| A = A) :
    KeptO A s0 (execMirrorAck s) := by
  unfold execMirrorAck
  refine KeptO.next ?_
  refine kept_mirrorAck ?_ (mask_sub (by decide) hA)
  · exact h_s
theorem kept_execTwkPropose {A : Nat} {s0 : State} {s : Sys2Proof.Machine.State} (h_s : Kept A s0 s) (hA : 2017617031109819964 ||| A = A) :
    KeptO A s0 (execTwkPropose s) := by
  unfold execTwkPropose
  refine KeptO.next ?_
  refine kept_twkPropose ?_ (mask_sub (by decide) hA)
  · exact h_s
theorem kept_execProposalExpire {A : Nat} {s0 : State} {cls : Fin 9} {s : Sys2Proof.Machine.State} (h_s : Kept A s0 s) (hA : 864691128455135768 ||| A = A) :
    KeptO A s0 (execProposalExpire cls s) := by
  unfold execProposalExpire
  refine KeptO.next ?_
  refine kept_proposalExpire ?_ (mask_sub (by decide) hA)
  · exact h_s
theorem kept_standbySilence {A : Nat} {s0 : State} {s : Sys2Proof.Machine.State} (h_s : Kept A s0 s) (hA : 2595238826884342241050424 ||| A = A) :
    Kept A s0 (standbySilence s) := by
  unfold standbySilence
  refine kept_commitsGo ?_ (mask_sub (by decide) hA)
  · refine kept_unmirror ?_ (mask_sub (by decide) hA)
    · exact h_s
theorem kept_shutWafer {A : Nat} {s0 : State} {s : Sys2Proof.Machine.State} (h_s : Kept A s0 s) (hA : 288234842920848184 ||| A = A) :
    Kept A s0 (State.shutWafer s) := by
  unfold State.shutWafer
  extract_lets -merge -useContext -underBinder x1 x2
  have h1 : Kept A s0 x1 := by
    unfold x1
    refine kept_each ?_ (fun _ _ h3 => ?_)
    · exact h_s
    · refine kept_shutUnits ?_ (mask_sub (by decide) hA)
      · refine kept_updHall ?_ (mask_sub (by decide) hA)
        · refine kept_closeGates ?_ (mask_sub (by decide) hA)
          · exact h3
  clear_value x1
  refine Kept.u_pair ?_ (mask_sub (by decide) hA)
  exact h1
theorem kept_cutAgain {A : Nat} {s0 : State} {s : Sys2Proof.Machine.State} (h_s : Kept A s0 s) (hA : 39582419924992 ||| A = A) :
    Kept A s0 (State.cutAgain s) := by
  unfold State.cutAgain
  split
  · exact h_s
  · refine kept_castCut ?_ (mask_sub (by decide) hA)
    · refine Kept.u_cut ?_ (mask_sub (by decide) hA)
      exact h_s
theorem kept_takeover {A : Nat} {s0 : State} {s : Sys2Proof.Machine.State} {cause : Nat} (h_s : Kept A s0 s) (hA : 86625854828569418370859000 ||| A = A) :
    Kept A s0 (State.takeover s cause) := by
  unfold State.takeover
  extract_lets -merge -useContext -underBinder x1 x2 x3 x4 x5 x6 x7 x8 x9 x10 x11 x12 x13
  have h3 : Kept A s0 x3 := by
    unfold x3
    refine Kept.u_transit ?_ ?_ (mask_sub (by decide) hA)
    · exact h_s
    · exact Or.inr (mask_testBit (i := 86) (mask_sub (by decide) hA))
  have h4 : Kept A s0 x4 := by
    unfold x4
    refine kept_updBrew ?_ (mask_sub (by decide) hA)
    · refine kept_assumeReign ?_ (mask_sub (by decide) hA)
      · exact h3
  have h5 : Kept A s0 x5 := by
    unfold x5
    refine kept_loadMirror ?_ (mask_sub (by decide) hA)
    · exact h4
  have h6 : Kept A s0 x6 := by
    unfold x6
    refine kept_raise ?_ (mask_sub (by decide) hA)
    · refine kept_count ?_ (mask_sub (by decide) hA)
      · exact h5
  have h7 : Kept A s0 x7 := by
    unfold x7
    refine kept_cutAgain ?_ (mask_sub (by decide) hA)
    · refine kept_updAct ?_ (mask_sub (by decide) hA)
      · exact h6
  have h9 : Kept A s0 x9 := by
    unfold x9
    refine kept_each ?_ (fun _ _ h16 => ?_)
    · exact h7
    · refine kept_declareLost ?_ (mask_sub (by decide) hA)
      · exact h16
  have h11 : Kept A s0 x11 := by
    unfold x11
    refine kept_each ?_ (fun _ _ h15 => ?_)
    · exact h9
    · refine kept_updHall ?_ (mask_sub (by decide) hA)
      · exact h15
  have h12 : Kept A s0 x12 := by
    unfold x12
    refine kept_each ?_ (fun _ _ h14 => ?_)
    · exact h11
    · refine kept_reloadRegion ?_ (mask_sub (by decide) hA)
      · exact h14
  have h13 : Kept A s0 x13 := by
    unfold x13
    refine kept_commitsGo ?_ (mask_sub (by decide) hA)
    · refine kept_actGo ?_ (mask_sub (by decide) hA)
      · refine kept_runVersion ?_ (mask_sub (by decide) hA)
        · exact h12
  clear_value x3 x4 x5 x6 x7 x9 x11 x12 x13
  refine Kept.ite ?_ ?_
  · refine kept_chipReset ?_ (mask_sub (by decide) hA)
    · exact h13
  · exact h13
theorem kept_activeGone {A : Nat} {s0 : State} {s : Sys2Proof.Machine.State} {cause : Nat} (h_s : Kept A s0 s) (hA : 86625854828569418370859000 ||| A = A) :
    Kept A s0 (State.activeGone s cause) := by
  unfold State.activeGone
  extract_lets -merge -useContext -underBinder x1
  have h1 : Kept A s0 x1 := by
    unfold x1
    refine kept_updBrew ?_ (mask_sub (by decide) hA)
    · exact h_s
  clear_value x1
  refine Kept.ite ?_ ?_
  · refine kept_shutWafer ?_ (mask_sub (by decide) hA)
    · exact h1
  · refine kept_takeover ?_ (mask_sub (by decide) hA)
    · exact h1
theorem kept_execStandbySilence {A : Nat} {s0 : State} {s : Sys2Proof.Machine.State} (h_s : Kept A s0 s) (hA : 2595238826884342241050424 ||| A = A) :
    KeptO A s0 (execStandbySilence s) := by
  unfold execStandbySilence
  refine KeptO.next ?_
  refine kept_standbySilence ?_ (mask_sub (by decide) hA)
  · exact h_s
theorem kept_heartbeatSilence {A : Nat} {s0 : State} {s : Sys2Proof.Machine.State} (h_s : Kept A s0 s) (hA : 86625854828569418370859000 ||| A = A) :
    Kept A s0 (heartbeatSilence s) := by
  unfold heartbeatSilence
  extract_lets -merge -useContext -underBinder x1 x2
  have h2 : Kept A s0 x2 := by
    unfold x2
    refine kept_updBrew ?_ (mask_sub (by decide) hA)
    · exact h_s
  clear_value x2
  refine Kept.ite ?_ ?_
  · exact h_s
  · refine Kept.ite ?_ ?_
    · refine kept_activeGone ?_ (mask_sub (by decide) hA)
      · exact h_s
    · refine kept_emits ?_ (mask_sub (by decide) hA)
      · exact h2
theorem kept_hallPollAnswer {A : Nat} {s0 : State} {s : Sys2Proof.Machine.State} {r : Nat} {noContact : Bool} (h_s : Kept A s0 s) (hA : 86625854828569418370859000 ||| A = A) :
    Kept A s0 (hallPollAnswer s r noContact) := by
  unfold hallPollAnswer
  split
  · exact h_s
  · extract_lets -merge -useContext -underBinder x1
    have h1 : Kept A s0 x1 := by
      unfold x1
      refine kept_updBrew ?_ (mask_sub (by decide) hA)
      · exact h_s
    clear_value x1
    refine Kept.ite ?_ ?_
    · exact h_s
    · refine Kept.ite ?_ ?_
      · refine kept_activeGone ?_ (mask_sub (by decide) hA)
        · exact h1
      · exact h1
theorem kept_execEntdaa {A : Nat} {s0 : State} {addr : BitVec 7} {s : Sys2Proof.Machine.State} (h_s : Kept A s0 s) (hA : 1152921504606846976 ||| A = A) :
    KeptO A s0 (execEntdaa addr s) := by
  unfold execEntdaa
  extract_lets -merge -useContext -underBinder x1
  refine KeptO.next ?_
  refine Kept.u_mgt ?_ (mask_sub (by decide) hA)
  exact h_s
theorem kept_statusReport {A : Nat} {s0 : State} {s : Sys2Proof.Machine.State} (h_s : Kept A s0 s) (hA : 1152921504606848568 ||| A = A) :
    Kept A s0 (statusReport s) := by
  unfold statusReport
  extract_lets -merge -useContext -underBinder x1 x2 x3 x4
  refine Kept.ite ?_ ?_
  · exact h_s
  · refine kept_mgmtPut ?_ (mask_sub (by decide) hA)
    · refine Kept.u_mgt ?_ (mask_sub (by decide) hA)
      exact h_s
theorem kept_execStatusReport {A : Nat} {s0 : State} {s : Sys2Proof.Machine.State} (h_s : Kept A s0 s) (hA : 1152921504606848568 ||| A = A) :
    KeptO A s0 (execStatusReport s) := by
  unfold execStatusReport
  refine KeptO.next ?_
  refine kept_statusReport ?_ (mask_sub (by decide) hA)
  · exact h_s
theorem kept_reportCollect {A : Nat} {s0 : State} {s : Sys2Proof.Machine.State} (h_s : Kept A s0 s) (hA : 1152921504606849072 ||| A = A) :
    Kept A s0 (reportCollect s) := by
  unfold reportCollect
  split
  · exact h_s
  · extract_lets -merge -useContext -underBinder x1 x2 x3 x4
    have h2 : Kept A s0 x2 := by
      unfold x2
      refine kept_mctpOut ?_ (mask_sub (by decide) hA)
      · exact h_s
    have h4 : Kept A s0 x4 := by
      unfold x4
      refine Kept.u_mgt ?_ (mask_sub (by decide) hA)
      exact h2
    clear_value x2 x4
    refine Kept.ite ?_ ?_
    · exact h_s
    · refine kept_count ?_ (mask_sub (by decide) hA)
      · exact h4
theorem kept_setEid {A : Nat} {s0 : State} {s : Sys2Proof.Machine.State} {body : List Sys2Proof.Byte} (h_s : Kept A s0 s) (hA : 1152921504606849560 ||| A = A) :
    Kept A s0 (State.setEid s body) := by
  unfold State.setEid
  extract_lets -merge -useContext -underBinder x1 x2 x3 x4
  have h4 : Kept A s0 x4 := by
    unfold x4
    refine Kept.u_mgt ?_ (mask_sub (by decide) hA)
    exact h_s
  clear_value x4
  refine Kept.ite ?_ ?_
  · refine kept_mctpOut ?_ (mask_sub (by decide) hA)
    · exact h_s
  · refine kept_mctpOut ?_ (mask_sub (by decide) hA)
    · refine kept_raise ?_ (mask_sub (by decide) hA)
      · exact h4
theorem kept_mctpControl {A : Nat} {s0 : State} {s : Sys2Proof.Machine.State} {body : List Sys2Proof.Byte} (h_s : Kept A s0 s) (hA : 1152921504606849560 ||| A = A) :
    Kept A s0 (State.mctpControl s body) := by
  unfold State.mctpControl
  extract_lets -merge -useContext -underBinder x1
  have h1 : ∀ y1_0 y1_1, Kept A s0 (x1 y1_0 y1_1) := by
    intro y1_0 y1_1
    unfold x1
    refine kept_mctpOut ?_ (mask_sub (by decide) hA)
    · exact h_s
  clear_value x1
  split
  · refine kept_setEid ?_ (mask_sub (by decide) hA)
    · exact h_s
  · refine h1 _ _
  · extract_lets -merge -useContext -underBinder x2
    refine Kept.ite ?_ ?_
    · refine h1 _ _
    · refine h1 _ _
  · refine h1 _ _
  · refine Kept.ite ?_ ?_
    · refine h1 _ _
    · refine h1 _ _
  · refine h1 _ _
theorem kept_execReportCollect {A : Nat} {s0 : State} {s : Sys2Proof.Machine.State} (h_s : Kept A s0 s) (hA : 1152921504606849072 ||| A = A) :
    KeptO A s0 (execReportCollect s) := by
  unfold execReportCollect
  refine KeptO.next ?_
  refine kept_reportCollect ?_ (mask_sub (by decide) hA)
  · exact h_s
theorem kept_reportSummary {A : Nat} {s0 : State} {s : Sys2Proof.Machine.State} (h_s : Kept A s0 s) (hA : 1152921504606848568 ||| A = A) :
    Kept A s0 (reportSummary s) := by
  unfold reportSummary
  extract_lets -merge -useContext -underBinder x1 x2 x3
  have h3 : Kept A s0 x3 := by
    unfold x3
    refine Kept.u_mgt ?_ (mask_sub (by decide) hA)
    exact h_s
  clear_value x3
  refine Kept.ite ?_ ?_
  · exact h_s
  · refine kept_each ?_ (fun _ _ h4 => ?_)
    · exact h3
    · refine kept_mgmtPut ?_ (mask_sub (by decide) hA)
      · exact h4
theorem kept_execReportSummary {A : Nat} {s0 : State} {s : Sys2Proof.Machine.State} (h_s : Kept A s0 s) (hA : 1152921504606848568 ||| A = A) :
    KeptO A s0 (execReportSummary s) := by
  unfold execReportSummary
  refine KeptO.next ?_
  refine kept_reportSummary ?_ (mask_sub (by decide) hA)
  · exact h_s
theorem kept_mctpMessage {A : Nat} {s0 : State} {s : Sys2Proof.Machine.State} {type : Nat} {body : List Sys2Proof.Byte} (h_s : Kept A s0 s) (hA : 1441151880758562360 ||| A = A) :
    Kept A s0 (mctpMessage s type body) := by
  unfold mctpMessage
  extract_lets -merge -useContext -underBinder x1
  refine Kept.ite ?_ ?_
  · exact h_s
  · refine Kept.ite ?_ ?_
    · refine kept_mctpControl ?_ (mask_sub (by decide) hA)
      · exact h_s
    · refine Kept.ite ?_ ?_
      · refine kept_fleetMessage ?_ (mask_sub (by decide) hA)
        · exact h_s
      · refine Kept.u_mgt ?_ (mask_sub (by decide) hA)
        exact h_s
theorem kept_execMctpMessage {A : Nat} {s0 : State} {msgType : BitVec 7} {body : List Sys2Proof.Byte} {s : Sys2Proof.Machine.State} (h_s : Kept A s0 s) (hA : 1441151880758562360 ||| A = A) :
    KeptO A s0 (execMctpMessage msgType body s) := by
  unfold execMctpMessage
  refine KeptO.next ?_
  refine kept_mctpMessage ?_ (mask_sub (by decide) hA)
  · exact h_s
theorem kept_winTouch {A : Nat} {s0 : State} {s : State} {offset : Nat} (h_s : Kept A s0 s) (hA : 38685626227668133590599688 ||| A = A) :
    Kept A s0 (State.winTouch s offset) := by
  unfold State.winTouch
  extract_lets -merge -useContext -underBinder x1 x2 x3 x4 x5
  have h5 : ∀ y, Kept A s0 y → Kept A s0 (x5 y) := by
    intro y h
    unfold x5
    exact Kept.u_sentBack h h_s (mask_sub (by decide) hA)
  clear_value x5
  refine Kept.ite h_s (Kept.ite (h5 _ ?_) (Kept.ite (h5 _ ?_) (Kept.ite (h5 _ ?_) (Kept.ite (h5 _ ?_) (Kept.ite ?_ h_s)))))
  · exact kept_atticWindowRead h_s (mask_sub (by decide) hA)
  · exact kept_loftWindowRead h_s (mask_sub (by decide) hA)
  · exact kept_historyWindowRead h_s (mask_sub (by decide) hA)
  · exact kept_poisonMapRead h_s (mask_sub (by decide) hA)
  · exact Kept.u_latch h_s (mask_sub (by decide) hA)
theorem kept_winRead {A : Nat} {s0 : State} {s : Sys2Proof.Machine.State} {offset : Nat} (h_s : Kept A s0 s) (hA : 38685626227668133590599736 ||| A = A) :
    KeptL A s0 (State.winRead s offset) := by
  unfold State.winRead
  refine KeptL.mk ?_
  refine kept_winTouch ?_ (mask_sub (by decide) hA)
  · refine kept_count ?_ (mask_sub (by decide) hA)
    · exact h_s
theorem kept_hostRead {A : Nat} {s0 : State} {s : Sys2Proof.Machine.State} {offset : Nat} (h_s : Kept A s0 s) (hA : 38685626227668133590599736 ||| A = A) :
    Kept A s0 (State.hostRead s offset) := by
  unfold State.hostRead
  extract_lets -merge -useContext -underBinder x1
  have h1 : KeptL A s0 x1 := by
    unfold x1
    refine kept_winRead ?_ (mask_sub (by decide) hA)
    · exact h_s
  clear_value x1
  refine kept_emit ?_ (mask_sub (by decide) hA)
  · refine KeptL.fst ?_
    exact h1
theorem kept_ckuWrite {A : Nat} {s0 : State} {s : Sys2Proof.Machine.State} {c : Nat} {i : Nat} {u : Nat} {off : Nat} {d : Nat} (h_s : Kept A s0 s) (hA : 125829132 ||| A = A) :
    KeptS A s0 (State.ckuWrite s c i u off d) := by
  unfold State.ckuWrite
  extract_lets -merge -useContext -underBinder x1
  refine KeptS.ite ?_ ?_
  · refine KeptS.map (fun _ => ?_) _
    · refine kept_scanProfileWrite ?_ (mask_sub (by decide) hA)
      · exact h_s
  · refine KeptS.ite ?_ ?_
    · refine KeptS.map (fun _ => ?_) _
      · refine Kept.ite ?_ ?_
        · refine kept_scanGo ?_ (mask_sub (by decide) hA)
          · refine kept_scanAbort ?_ (mask_sub (by decide) hA)
            · exact h_s
        · refine kept_scanGo ?_ (mask_sub (by decide) hA)
          · exact h_s
    · refine KeptS.ite ?_ ?_
      · refine KeptS.map (fun _ => ?_) _
        · refine kept_streamResync ?_ (mask_sub (by decide) hA)
          · exact h_s
      · refine KeptS.ite ?_ ?_
        · refine KeptS.some ?_
          refine kept_updWin ?_ (mask_sub (by decide) hA)
          · exact h_s
        · refine KeptS.ite ?_ ?_
          · refine KeptS.some ?_
            refine kept_windowApply ?_ (mask_sub (by decide) hA)
            · exact h_s
          · refine KeptS.ite ?_ ?_
            · refine KeptS.some ?_
              refine kept_updWin ?_ (mask_sub (by decide) hA)
              · exact h_s
            · exact KeptS.none
theorem kept_cutOp {A : Nat} {s0 : State} {s : Sys2Proof.Machine.State} {d : Nat} (h_s : Kept A s0 s) (hA : 3628388372986392 ||| A = A) :
    Kept A s0 (State.cutOp s d) := by
  unfold State.cutOp
  extract_lets -merge -useContext -underBinder x1 x2
  have h1 : Kept A s0 x1 := by
    unfold x1
    refine Kept.ite ?_ ?_
    · refine kept_cutGo ?_ (mask_sub (by decide) hA)
      · exact h_s
    · exact h_s
  have h2 : Kept A s0 x2 := by
    unfold x2
    refine Kept.ite ?_ ?_
    · refine kept_stopReq ?_ (mask_sub (by decide) hA)
      · exact h1
    · exact h1
  clear_value x1 x2
  refine Kept.ite ?_ ?_
  · refine kept_resumeReq ?_ (mask_sub (by decide) hA)
    · exact h2
  · exact h2
theorem kept_slotWrite {A : Nat} {s0 : State} {s : Sys2Proof.Machine.State} {i : Nat} {off : Nat} {d : Nat} (h_s : Kept A s0 s) (hA : 288230376151711744 ||| A = A) :
    Kept A s0 (State.slotWrite s i off d) := by
  unfold State.slotWrite
  extract_lets -merge -useContext -underBinder x1
  refine Kept.u_mbx ?_ (mask_sub (by decide) hA)
  exact h_s
theorem kept_sliceOp {A : Nat} {s0 : State} {s : Sys2Proof.Machine.State} {c : Nat} {op : Nat} (h_s : Kept A s0 s) (hA : 4611686018427388440 ||| A = A) :
    Kept A s0 (State.sliceOp s c op) := by
  unfold State.sliceOp
  refine Kept.ite ?_ ?_
  · refine kept_sliceWrite ?_ (mask_sub (by decide) hA)
    · exact h_s
  · refine Kept.ite ?_ ?_
    · refine kept_sliceVerify ?_ (mask_sub (by decide) hA)
      · exact h_s
    · refine Kept.ite ?_ ?_
      · refine kept_sliceDrop ?_ (mask_sub (by decide) hA)
        · exact h_s
      · refine Kept.ite ?_ ?_
        · refine kept_sliceRedigest ?_ (mask_sub (by decide) hA)
          · exact h_s
        · exact h_s
theorem kept_opWrite {A : Nat} {s0 : State} {s : Sys2Proof.Machine.State} {c : Nat} {i : Nat} {u : Nat} {off : Nat} {d : Nat} (h_s : Kept A s0 s) (hA : 2274378951843021275283260 ||| A = A) :
    KeptS A s0 (State.opWrite s c i u off d) := by
  unfold State.opWrite
  split
  · next y1 e2 =>
      have h3 : Kept A s0 y1 := KeptS.of_eq (by
        refine kept_ckuWrite ?_ (mask_sub (by decide) hA)
        · exact h_s
        ) e2
      refine KeptS.some ?_
      exact h3
  · refine KeptS.ite ?_ ?_
    · refine KeptS.some ?_
      refine kept_historySelect ?_ (mask_sub (by decide) hA)
      · exact h_s
    · refine KeptS.ite ?_ ?_
      · refine KeptS.some ?_
        refine kept_cutOp ?_ (mask_sub (by decide) hA)
        · exact h_s
      · refine KeptS.ite ?_ ?_
        · refine KeptS.some ?_
          refine kept_slotWrite ?_ (mask_sub (by decide) hA)
          · exact h_s
        · refine KeptS.ite ?_ ?_
          · refine KeptS.some ?_
            refine kept_ringHeadWrite ?_ (mask_sub (by decide) hA)
            · exact h_s
          · refine KeptS.ite ?_ ?_
            · refine KeptS.some ?_
              refine kept_hostHeartbeat ?_ (mask_sub (by decide) hA)
              · exact h_s
            · refine KeptS.ite ?_ ?_
              · refine KeptS.some ?_
                refine kept_traceRestart ?_ (mask_sub (by decide) hA)
                · exact h_s
              · refine KeptS.ite ?_ ?_
                · refine KeptS.some ?_
                  refine kept_traceMark ?_ (mask_sub (by decide) hA)
                  · exact h_s
                · refine KeptS.ite ?_ ?_
                  · refine KeptS.some ?_
                    refine kept_provenanceEnable ?_ (mask_sub (by decide) hA)
                    · exact h_s
                  · refine KeptS.ite ?_ ?_
                    · refine KeptS.some ?_
                      refine kept_drwSeedSet ?_ (mask_sub (by decide) hA)
                      · exact h_s
                    · refine KeptS.ite ?_ ?_
                      · refine KeptS.some ?_
                        refine kept_drawCalc ?_ (mask_sub (by decide) hA)
                        · exact h_s
                      · refine KeptS.ite ?_ ?_
                        · refine KeptS.some ?_
                          refine kept_limitTighten ?_ (mask_sub (by decide) hA)
                          · exact h_s
                        · refine KeptS.ite ?_ ?_
                          · refine KeptS.some ?_
                            refine kept_channelClear ?_ (mask_sub (by decide) hA)
                            · exact h_s
                          · refine KeptS.ite ?_ ?_
                            · refine KeptS.some ?_
                              refine kept_channelMarch ?_ (mask_sub (by decide) hA)
                              · exact h_s
                            · refine KeptS.ite ?_ ?_
                              · refine KeptS.some ?_
                                refine kept_sliceOp ?_ (mask_sub (by decide) hA)
                                · exact h_s
                              · refine KeptS.ite ?_ ?_
                                · refine KeptS.some ?_
                                  refine Kept.ite ?_ ?_
                                  · exact h_s
                                  · refine Kept.ite ?_ ?_
                                    · refine kept_descriptorLoad ?_ (mask_sub (by decide) hA)
                                      · exact h_s
                                    · refine Kept.ite ?_ ?_
                                      · refine kept_descriptorInvalidate ?_ (mask_sub (by decide) hA)
                                        · exact h_s
                                      · exact h_s
                                · refine KeptS.ite ?_ ?_
                                  · refine KeptS.some ?_
                                    refine kept_attributionBinWrite ?_ (mask_sub (by decide) hA)
                                    · exact h_s
                                  · refine KeptS.ite ?_ ?_
                                    · refine KeptS.some ?_
                                      refine kept_counterConfigWrite ?_ (mask_sub (by decide) hA)
                                      · exact h_s
                                    · refine KeptS.ite ?_ ?_
                                      · refine KeptS.some ?_
                                        refine kept_updRplOf ?_ (mask_sub (by decide) hA)
                                        · exact h_s
                                      · exact KeptS.none
theorem kept_hostAcc {A : Nat} {s0 : State} {s : Sys2Proof.Machine.State} {x : Sys2Proof.HostAcc} {f : Sys2Proof.Machine.State → Sys2Proof.Machine.State} (h_s : Kept A s0 s) (h_f : ∀ y0, Kept A s0 y0 → Kept A s0 (f y0)) (hA : 1048576 ||| A = A) :
    Kept A s0 (State.hostAcc s x f) := by
  unfold State.hostAcc
  extract_lets -merge -useContext -underBinder x1
  refine Kept.ite ?_ ?_
  · refine Kept.u_pair ?_ (mask_sub (by decide) hA)
    exact h_s
  · refine h_f _ ?_
    · exact h_s
theorem kept_windowPartialWrite {A : Nat} {s0 : State} {s : Sys2Proof.Machine.State} {offset : Nat} {be : Nat} (h_s : Kept A s0 s) (hA : 568 ||| A = A) :
    Kept A s0 (windowPartialWrite s offset be) := by
  unfold windowPartialWrite
  extract_lets -merge -useContext -underBinder x1
  have h1 : Kept A s0 x1 := by
    unfold x1
    refine kept_count ?_ (mask_sub (by decide) hA)
    · exact h_s
  clear_value x1
  refine Kept.ite ?_ ?_
  · exact h1
  · refine kept_raise ?_ (mask_sub (by decide) hA)
    · exact h1
theorem kept_execWindowPartialWrite {A : Nat} {s0 : State} {offset : BitVec 24} {be : BitVec 4} {s : Sys2Proof.Machine.State} (h_s : Kept A s0 s) (hA : 1049144 ||| A = A) :
    KeptO A s0 (execWindowPartialWrite offset be s) := by
  unfold execWindowPartialWrite
  refine KeptO.next ?_
  refine kept_hostAcc ?_ (fun _ h1 => ?_) (mask_sub (by decide) hA)
  · exact h_s
  · refine kept_windowPartialWrite ?_ (mask_sub (by decide) hA)
    · exact h1
theorem kept_fldWrite {A : Nat} {s0 : State} {s : Sys2Proof.Machine.State} {u : Nat} {F : Sys2Proof.Fld} {i : Nat} {j : Nat} {d : Nat} (h_s : Kept A s0 s) (hA : 8 ||| A = A) :
    Kept A s0 (State.fldWrite s u F i j d) := by
  unfold State.fldWrite
  extract_lets -merge -useContext -underBinder x1 x2 x3 x4
  split
  · exact h_s
  · exact h_s
  · refine kept_wr ?_ (mask_sub (by decide) hA)
    · exact h_s
  · split
    · refine kept_wr ?_ (mask_sub (by decide) hA)
      · exact h_s
    · exact h_s
theorem kept_afterWrite {A : Nat} {s0 : State} {s0' : Sys2Proof.Machine.State} {s : Sys2Proof.Machine.State} {c : Nat} {u : Nat} {off : Nat} (h_s : Kept A s0 s) (hA : 604758075731290496173624 ||| A = A) :
    Kept A s0 (State.afterWrite s0' s c u off) := by
  unfold State.afterWrite
  extract_lets -merge -useContext -underBinder x1 x2 x3
  have h2 : Kept A s0 x2 := by
    unfold x2
    refine Kept.u_prv ?_ (mask_sub (by decide) hA)
    exact h_s
  clear_value x2
  refine Kept.ite ?_ ?_
  · refine kept_flag ?_ (mask_sub (by decide) hA)
    · refine kept_wr ?_ (mask_sub (by decide) hA)
      · refine kept_wr ?_ (mask_sub (by decide) hA)
        · exact h2
  · refine Kept.ite ?_ ?_
    · refine kept_wr ?_ (mask_sub (by decide) hA)
      · exact h_s
    · refine Kept.ite ?_ ?_
      · refine kept_driveThr ?_ (mask_sub (by decide) hA)
        · exact h_s
      · exact h_s
theorem kept_plainWrite {A : Nat} {s0 : State} {s : Sys2Proof.Machine.State} {p : Nat} {c : Nat} {u : Nat} {off : Nat} {d : Nat} (h_s : Kept A s0 s) (hA : 604758075731290496173624 ||| A = A) :
    Kept A s0 (State.plainWrite s p c u off d) := by
  unfold State.plainWrite
  extract_lets -merge -useContext -underBinder x1 x2 x3
  have h2 : Kept A s0 x2 := by
    unfold x2
    refine Kept.foldl (fun _ _ h4 => ?_) ?_ _
    · refine kept_fldWrite ?_ (mask_sub (by decide) hA)
      · exact h4
    · exact h_s
  have h3 : Kept A s0 x3 := by
    unfold x3
    refine kept_afterWrite ?_ (mask_sub (by decide) hA)
    · exact h2
  clear_value x2 x3
  refine Kept.ite ?_ ?_
  · refine kept_raiseOnce ?_ (mask_sub (by decide) hA)
    · exact h3
  · exact h3
theorem kept_unitWrite {A : Nat} {s0 : State} {s : Sys2Proof.Machine.State} {p : Nat} {u : Nat} {off : Nat} {d : Nat} (h_s : Kept A s0 s) (hA : 2274378951843021275283260 ||| A = A) :
    Kept A s0 (State.unitWrite s p u off d) := by
  unfold State.unitWrite
  extract_lets -merge -useContext -underBinder x1
  refine Kept.ite ?_ ?_
  · refine kept_wr ?_ (mask_sub (by decide) hA)
    · exact h_s
  · refine Kept.ite ?_ ?_
    · refine kept_wr ?_ (mask_sub (by decide) hA)
      · exact h_s
    · refine Kept.ite ?_ ?_
      · exact h_s
      · refine KeptS.getD ?_ ?_
        · refine kept_opWrite ?_ (mask_sub (by decide) hA)
          · exact h_s
        · refine kept_plainWrite ?_ (mask_sub (by decide) hA)
          · exact h_s
theorem kept_written {A : Nat} {s0 : State} {s : Sys2Proof.Machine.State} {p : Nat} {f : Sys2Proof.Machine.State → Sys2Proof.Machine.State} (h_s : Kept A s0 s) (h_f : ∀ y0, Kept A s0 y0 → Kept A s0 (f y0)) (hA : 48 ||| A = A) :
    Kept A s0 (State.written s p f) := by
  unfold State.written
  extract_lets -merge -useContext -underBinder x1 x2 x3
  have h1 : Kept A s0 x1 := by
    unfold x1
    refine kept_count ?_ (mask_sub (by decide) hA)
    · exact h_s
  clear_value x1
  refine Kept.ite ?_ ?_
  · exact h1
  · refine Kept.ite ?_ ?_
    · refine kept_count ?_ (mask_sub (by decide) hA)
      · exact h1
    · refine Kept.ite ?_ ?_
      · exact h1
      · refine h_f _ ?_
        · exact h1
theorem kept_hostOp {A : Nat} {s0 : State} {s : Sys2Proof.Machine.State} {u : Nat} {off : Nat} {d : Nat} {f : Sys2Proof.Machine.State → Sys2Proof.Machine.State} (h_s : Kept A s0 s) (h_f : ∀ y0, Kept A s0 y0 → Kept A s0 (f y0)) (hA : 1048624 ||| A = A) :
    Kept A s0 (State.hostOp s u off d f) := by
  unfold State.hostOp
  refine kept_hostAcc ?_ (fun _ h1 => ?_) (mask_sub (by decide) hA)
  · exact h_s
  · refine kept_written ?_ (fun _ h2 => ?_) (mask_sub (by decide) hA)
    · exact h1
    · refine h_f _ ?_
      · exact h2
theorem kept_execProvenanceEnable {A : Nat} {s0 : State} {data : Sys2Proof.Word} {s : Sys2Proof.Machine.State} (h_s : Kept A s0 s) (hA : 295147905179353874488 ||| A = A) :
    KeptO A s0 (execProvenanceEnable data s) := by
  unfold execProvenanceEnable
  refine KeptO.next ?_
  refine kept_hostOp ?_ (fun _ h1 => ?_) (mask_sub (by decide) hA)
  · exact h_s
  · refine kept_provenanceEnable ?_ (mask_sub (by decide) hA)
    · exact h1
theorem kept_execSliceVerify {A : Nat} {s0 : State} {c : Sys2Proof.StackId} {s : Sys2Proof.Machine.State} (h_s : Kept A s0 s) (hA : 4611686018428437048 ||| A = A) :
    KeptO A s0 (execSliceVerify c s) := by
  unfold execSliceVerify
  refine KeptO.next ?_
  refine kept_hostOp ?_ (fun _ h1 => ?_) (mask_sub (by decide) hA)
  · exact h_s
  · refine kept_sliceVerify ?_ (mask_sub (by decide) hA)
    · exact h1
theorem kept_execChannelMarch {A : Nat} {s0 : State} {c : Sys2Proof.StackId} {data : Sys2Proof.Word} {s : Sys2Proof.Machine.State} (h_s : Kept A s0 s) (hA : 1048632 ||| A = A) :
    KeptO A s0 (execChannelMarch c data s) := by
  unfold execChannelMarch
  refine KeptO.next ?_
  refine kept_hostOp ?_ (fun _ h1 => ?_) (mask_sub (by decide) hA)
  · exact h_s
  · refine kept_channelMarch ?_ (mask_sub (by decide) hA)
    · exact h1
theorem kept_ownerWrite {A : Nat} {s0 : State} {s : Sys2Proof.Machine.State} {p : Nat} {d : Nat} (h_s : Kept A s0 s) (hA : 8 ||| A = A) :
    Kept A s0 (State.ownerWrite s p d) := by
  unfold State.ownerWrite
  extract_lets -merge -useContext -underBinder x1 x2
  refine Kept.ite ?_ ?_
  · refine kept_wr ?_ (mask_sub (by decide) hA)
    · exact h_s
  · refine Kept.ite ?_ ?_
    · refine kept_wr ?_ (mask_sub (by decide) hA)
      · exact h_s
    · exact h_s
theorem kept_selectWrite {A : Nat} {s0 : State} {s : Sys2Proof.Machine.State} {p : Nat} {d : Nat} (h_s : Kept A s0 s) (hA : 8 ||| A = A) :
    Kept A s0 (State.selectWrite s p d) := by
  unfold State.selectWrite
  refine kept_wr ?_ (mask_sub (by decide) hA)
  · refine kept_wr ?_ (mask_sub (by decide) hA)
    · refine kept_wr ?_ (mask_sub (by decide) hA)
      · exact h_s
theorem kept_winWrite {A : Nat} {s0 : State} {s : Sys2Proof.Machine.State} {offset : Nat} {d : Nat} (h_s : Kept A s0 s) (hA : 2274378951843021275283260 ||| A = A) :
    Kept A s0 (State.winWrite s offset d) := by
  unfold State.winWrite
  extract_lets -merge -useContext -underBinder x1 x2
  refine Kept.ite ?_ ?_
  · refine kept_ownerWrite ?_ (mask_sub (by decide) hA)
    · refine kept_count ?_ (mask_sub (by decide) hA)
      · exact h_s
  · refine Kept.ite ?_ ?_
    · refine kept_selectWrite ?_ (mask_sub (by decide) hA)
      · refine kept_count ?_ (mask_sub (by decide) hA)
        · exact h_s
    · refine kept_written ?_ (fun _ h3 => ?_) (mask_sub (by decide) hA)
      · exact h_s
      · refine Kept.ite ?_ ?_
        · refine kept_ownerWrite ?_ (mask_sub (by decide) hA)
          · exact h3
        · split
          · refine kept_unitWrite ?_ (mask_sub (by decide) hA)
            · exact h3
          · exact h3
theorem kept_hostWrite {A : Nat} {s0 : State} {s : Sys2Proof.Machine.State} {offset : Nat} {d : Nat} (h_s : Kept A s0 s) (hA : 2274378951843021275283260 ||| A = A) :
    Kept A s0 (State.hostWrite s offset d) := by
  unfold State.hostWrite
  refine kept_hostAcc ?_ (fun _ h1 => ?_) (mask_sub (by decide) hA)
  · exact h_s
  · refine kept_winWrite ?_ (mask_sub (by decide) hA)
    · exact h1
theorem kept_execOwnerClaim {A : Nat} {s0 : State} {page : BitVec 12} {data : Sys2Proof.Word} {s : Sys2Proof.Machine.State} (h_s : Kept A s0 s) (hA : 2274378951843021275283260 ||| A = A) :
    KeptO A s0 (execOwnerClaim page data s) := by
  unfold execOwnerClaim
  refine KeptO.next ?_
  refine kept_hostWrite ?_ (mask_sub (by decide) hA)
  · exact h_s
theorem kept_execTraceMark {A : Nat} {s0 : State} {data : Sys2Proof.Word} {s : Sys2Proof.Machine.State} (h_s : Kept A s0 s) (hA : 18014398510532152 ||| A = A) :
    KeptO A s0 (execTraceMark data s) := by
  unfold execTraceMark
  refine KeptO.next ?_
  refine kept_hostOp ?_ (fun _ h1 => ?_) (mask_sub (by decide) hA)
  · exact h_s
  · refine kept_traceMark ?_ (mask_sub (by decide) hA)
    · exact h1
theorem kept_execDescriptorInvalidate {A : Nat} {s0 : State} {k : Sys2Proof.ClusterId} {s : Sys2Proof.Machine.State} (h_s : Kept A s0 s) (hA : 36893488149567635512 ||| A = A) :
    KeptO A s0 (execDescriptorInvalidate k s) := by
  unfold execDescriptorInvalidate
  refine KeptO.next ?_
  refine kept_hostOp ?_ (fun _ h1 => ?_) (mask_sub (by decide) hA)
  · exact h_s
  · refine kept_descriptorInvalidate ?_ (mask_sub (by decide) hA)
    · exact h1
theorem kept_execSliceWrite {A : Nat} {s0 : State} {c : Sys2Proof.StackId} {s : Sys2Proof.Machine.State} (h_s : Kept A s0 s) (hA : 4611686018428436536 ||| A = A) :
    KeptO A s0 (execSliceWrite c s) := by
  unfold execSliceWrite
  refine KeptO.next ?_
  refine kept_hostOp ?_ (fun _ h1 => ?_) (mask_sub (by decide) hA)
  · exact h_s
  · refine kept_sliceWrite ?_ (mask_sub (by decide) hA)
    · exact h1
theorem kept_execCutGo {A : Nat} {s0 : State} {s : Sys2Proof.Machine.State} (h_s : Kept A s0 s) (hA : 2502488466143800 ||| A = A) :
    KeptO A s0 (execCutGo s) := by
  unfold execCutGo
  refine KeptO.next ?_
  refine kept_hostOp ?_ (fun _ h1 => ?_) (mask_sub (by decide) hA)
  · exact h_s
  · refine kept_cutGo ?_ (mask_sub (by decide) hA)
    · exact h1
theorem kept_hostGet {A : Nat} {s0 : State} {s : Sys2Proof.Machine.State} {offset : Nat} (h_s : Kept A s0 s) (hA : 38685626227668133591648312 ||| A = A) :
    Kept A s0 (State.hostGet s offset) := by
  unfold State.hostGet
  refine kept_hostAcc ?_ (fun _ h1 => ?_) (mask_sub (by decide) hA)
  · exact h_s
  · refine kept_hostRead ?_ (mask_sub (by decide) hA)
    · exact h1
theorem kept_execPoisonMapRead {A : Nat} {s0 : State} {c : Sys2Proof.StackId} {s : Sys2Proof.Machine.State} (h_s : Kept A s0 s) (hA : 38685626227668133591648312 ||| A = A) :
    KeptO A s0 (execPoisonMapRead c s) := by
  unfold execPoisonMapRead
  refine KeptO.next ?_
  refine kept_hostGet ?_ (mask_sub (by decide) hA)
  · exact h_s
theorem kept_execTapWindowSelect {A : Nat} {s0 : State} {w : Fin 64} {data : Sys2Proof.Word} {s : Sys2Proof.Machine.State} (h_s : Kept A s0 s) (hA : 2274378951843021275283260 ||| A = A) :
    KeptO A s0 (execTapWindowSelect w data s) := by
  unfold execTapWindowSelect
  refine KeptO.next ?_
  refine kept_hostWrite ?_ (mask_sub (by decide) hA)
  · exact h_s
theorem kept_execDrawCalc {A : Nat} {s0 : State} {data : Sys2Proof.Word} {s : Sys2Proof.Machine.State} (h_s : Kept A s0 s) (hA : 1048632 ||| A = A) :
    KeptO A s0 (execDrawCalc data s) := by
  unfold execDrawCalc
  refine KeptO.next ?_
  refine kept_hostOp ?_ (fun _ h1 => ?_) (mask_sub (by decide) hA)
  · exact h_s
  · refine kept_drawCalc ?_ (mask_sub (by decide) hA)
    · exact h1
theorem kept_execChannelClear {A : Nat} {s0 : State} {c : Sys2Proof.StackId} {data : Sys2Proof.Word} {s : Sys2Proof.Machine.State} (h_s : Kept A s0 s) (hA : 1048632 ||| A = A) :
    KeptO A s0 (execChannelClear c data s) := by
  unfold execChannelClear
  refine KeptO.next ?_
  refine kept_hostOp ?_ (fun _ h1 => ?_) (mask_sub (by decide) hA)
  · exact h_s
  · refine kept_channelClear ?_ (mask_sub (by decide) hA)
    · exact h1
theorem kept_pageUnreached {A : Nat} {s0 : State} {s : Sys2Proof.Machine.State} {offset : Nat} {write : Bool} (h_s : Kept A s0 s) (hA : 2096 ||| A = A) :
    Kept A s0 (pageUnreached s offset write) := by
  unfold pageUnreached
  extract_lets -merge -useContext -underBinder x1 x2 x3
  have h3 : Kept A s0 x3 := by
    unfold x3
    refine kept_count ?_ (mask_sub (by decide) hA)
    · exact h_s
  clear_value x3
  refine Kept.ite ?_ ?_
  · exact h_s
  · refine Kept.ite ?_ ?_
    · refine kept_count ?_ (mask_sub (by decide) hA)
      · exact h3
    · refine kept_emit ?_ (mask_sub (by decide) hA)
      · refine kept_count ?_ (mask_sub (by decide) hA)
        · exact h3
theorem kept_hostDo {A : Nat} {s0 : State} {s : Sys2Proof.Machine.State} {x : Sys2Proof.HostAcc} (h_s : Kept A s0 s) (hA : 40960005179511154865880892 ||| A = A) :
    Kept A s0 (State.hostDo s x) := by
  unfold State.hostDo
  split
  · refine kept_hostRead ?_ (mask_sub (by decide) hA)
    · exact h_s
  · refine kept_winWrite ?_ (mask_sub (by decide) hA)
    · exact h_s
  · refine kept_pageUnreached ?_ (mask_sub (by decide) hA)
    · exact h_s
  · refine kept_windowPartialWrite ?_ (mask_sub (by decide) hA)
    · exact h_s
theorem kept_hostGo {A : Nat} {s0 : State} {s : Sys2Proof.Machine.State} (h_s : Kept A s0 s) (hA : 40960005179511154865880892 ||| A = A) :
    Kept A s0 (State.hostGo s) := by
  unfold State.hostGo
  extract_lets -merge -useContext -underBinder x1
  refine Kept.ite ?_ ?_
  · exact h_s
  · refine kept_each ?_ (fun _ _ h2 => ?_)
    · refine Kept.u_pair ?_ (mask_sub (by decide) hA)
      exact h_s
    · refine kept_hostDo ?_ (mask_sub (by decide) hA)
      · exact h2
theorem kept_execLoHiLatchRead {A : Nat} {s0 : State} {offset : BitVec 24} {s : Sys2Proof.Machine.State} (h_s : Kept A s0 s) (hA : 38685626227668133591648312 ||| A = A) :
    KeptO A s0 (execLoHiLatchRead offset s) := by
  unfold execLoHiLatchRead
  refine KeptO.next ?_
  refine kept_hostGet ?_ (mask_sub (by decide) hA)
  · exact h_s
theorem kept_execGlobalResume {A : Nat} {s0 : State} {s : Sys2Proof.Machine.State} (h_s : Kept A s0 s) (hA : 3628388372986424 ||| A = A) :
    KeptO A s0 (execGlobalResume s) := by
  unfold execGlobalResume
  refine KeptO.next ?_
  refine kept_hostOp ?_ (fun _ h1 => ?_) (mask_sub (by decide) hA)
  · exact h_s
  · refine kept_resumeReq ?_ (mask_sub (by decide) hA)
    · exact h1
theorem kept_execAtticWindowRead {A : Nat} {s0 : State} {s : Sys2Proof.Machine.State} (h_s : Kept A s0 s) (hA : 38685626227668133591648312 ||| A = A) :
    KeptO A s0 (execAtticWindowRead s) := by
  unfold execAtticWindowRead
  refine KeptO.next ?_
  refine kept_hostGet ?_ (mask_sub (by decide) hA)
  · exact h_s
theorem kept_execScanProfileWrite {A : Nat} {s0 : State} {u : Sys2Proof.ScanUnit} {data : Sys2Proof.Word} {s : Sys2Proof.Machine.State} (h_s : Kept A s0 s) (hA : 1048632 ||| A = A) :
    KeptO A s0 (execScanProfileWrite u data s) := by
  unfold execScanProfileWrite
  refine KeptO.next ?_
  refine kept_hostOp ?_ (fun _ h1 => ?_) (mask_sub (by decide) hA)
  · exact h_s
  · refine kept_scanProfileWrite ?_ (mask_sub (by decide) hA)
    · exact h1
theorem kept_execCounterConfigWrite {A : Nat} {s0 : State} {k : Sys2Proof.ClusterId} {data : Sys2Proof.Word} {s : Sys2Proof.Machine.State} (h_s : Kept A s0 s) (hA : 9007199255789616 ||| A = A) :
    KeptO A s0 (execCounterConfigWrite k data s) := by
  unfold execCounterConfigWrite
  refine KeptO.next ?_
  refine kept_hostOp ?_ (fun _ h1 => ?_) (mask_sub (by decide) hA)
  · exact h_s
  · refine kept_counterConfigWrite ?_ (mask_sub (by decide) hA)
    · exact h1
theorem kept_execRw2kDirectWrite {A : Nat} {s0 : State} {offset : BitVec 24} {data : Sys2Proof.Word} {s : Sys2Proof.Machine.State} (h_s : Kept A s0 s) (hA : 2274378951843021275283260 ||| A = A) :
    KeptO A s0 (execRw2kDirectWrite offset data s) := by
  unfold execRw2kDirectWrite
  refine KeptO.next ?_
  refine kept_hostWrite ?_ (mask_sub (by decide) hA)
  · exact h_s
theorem kept_execSliceDrop {A : Nat} {s0 : State} {c : Sys2Proof.StackId} {s : Sys2Proof.Machine.State} (h_s : Kept A s0 s) (hA : 4611686018428436536 ||| A = A) :
    KeptO A s0 (execSliceDrop c s) := by
  unfold execSliceDrop
  refine KeptO.next ?_
  refine kept_hostOp ?_ (fun _ h1 => ?_) (mask_sub (by decide) hA)
  · exact h_s
  · refine kept_sliceDrop ?_ (mask_sub (by decide) hA)
    · exact h1
theorem kept_execSliceRedigest {A : Nat} {s0 : State} {c : Sys2Proof.StackId} {s : Sys2Proof.Machine.State} (h_s : Kept A s0 s) (hA : 4611686018428436536 ||| A = A) :
    KeptO A s0 (execSliceRedigest c s) := by
  unfold execSliceRedigest
  refine KeptO.next ?_
  refine kept_hostOp ?_ (fun _ h1 => ?_) (mask_sub (by decide) hA)
  · exact h_s
  · refine kept_sliceRedigest ?_ (mask_sub (by decide) hA)
    · exact h1
theorem kept_execHistorySelect {A : Nat} {s0 : State} {data : Sys2Proof.Word} {s : Sys2Proof.Machine.State} (h_s : Kept A s0 s) (hA : 1099512676408 ||| A = A) :
    KeptO A s0 (execHistorySelect data s) := by
  unfold execHistorySelect
  refine KeptO.next ?_
  refine kept_hostOp ?_ (fun _ h1 => ?_) (mask_sub (by decide) hA)
  · exact h_s
  · refine kept_historySelect ?_ (mask_sub (by decide) hA)
    · exact h1
theorem kept_execGlobalStop {A : Nat} {s0 : State} {s : Sys2Proof.Machine.State} (h_s : Kept A s0 s) (hA : 3628388372986424 ||| A = A) :
    KeptO A s0 (execGlobalStop s) := by
  unfold execGlobalStop
  refine KeptO.next ?_
  refine kept_hostOp ?_ (fun _ h1 => ?_) (mask_sub (by decide) hA)
  · exact h_s
  · refine kept_stopReq ?_ (mask_sub (by decide) hA)
    · exact h1
theorem kept_execScanGo {A : Nat} {s0 : State} {u : Sys2Proof.ScanUnit} {data : Sys2Proof.Word} {s : Sys2Proof.Machine.State} (h_s : Kept A s0 s) (hA : 68157500 ||| A = A) :
    KeptO A s0 (execScanGo u data s) := by
  unfold execScanGo
  refine KeptO.next ?_
  refine kept_hostOp ?_ (fun _ h1 => ?_) (mask_sub (by decide) hA)
  · exact h_s
  · refine kept_scanGo ?_ (mask_sub (by decide) hA)
    · exact h1
theorem kept_execPageUnreached {A : Nat} {s0 : State} {offset : BitVec 24} {write : Bool} {s : Sys2Proof.Machine.State} (h_s : Kept A s0 s) (hA : 1050672 ||| A = A) :
    KeptO A s0 (execPageUnreached offset write s) := by
  unfold execPageUnreached
  refine KeptO.next ?_
  refine kept_hostAcc ?_ (fun _ h1 => ?_) (mask_sub (by decide) hA)
  · exact h_s
  · refine kept_pageUnreached ?_ (mask_sub (by decide) hA)
    · exact h1
theorem kept_execTraceRestart {A : Nat} {s0 : State} {data : Sys2Proof.Word} {s : Sys2Proof.Machine.State} (h_s : Kept A s0 s) (hA : 18014398510530608 ||| A = A) :
    KeptO A s0 (execTraceRestart data s) := by
  unfold execTraceRestart
  refine KeptO.next ?_
  refine kept_hostOp ?_ (fun _ h1 => ?_) (mask_sub (by decide) hA)
  · exact h_s
  · refine kept_traceRestart ?_ (mask_sub (by decide) hA)
    · exact h1
theorem kept_execStreamResync {A : Nat} {s0 : State} {u : Sys2Proof.StreamUnit} {data : Sys2Proof.Word} {s : Sys2Proof.Machine.State} (h_s : Kept A s0 s) (hA : 42991664 ||| A = A) :
    KeptO A s0 (execStreamResync u data s) := by
  unfold execStreamResync
  refine KeptO.next ?_
  refine kept_hostOp ?_ (fun _ h1 => ?_) (mask_sub (by decide) hA)
  · exact h_s
  · refine kept_streamResync ?_ (mask_sub (by decide) hA)
    · exact h1
theorem kept_execRingHeadWrite {A : Nat} {s0 : State} {data : Sys2Proof.Word} {s : Sys2Proof.Machine.State} (h_s : Kept A s0 s) (hA : 1048632 ||| A = A) :
    KeptO A s0 (execRingHeadWrite data s) := by
  unfold execRingHeadWrite
  refine KeptO.next ?_
  refine kept_hostOp ?_ (fun _ h1 => ?_) (mask_sub (by decide) hA)
  · exact h_s
  · refine kept_ringHeadWrite ?_ (mask_sub (by decide) hA)
    · exact h1
theorem kept_execRegisterWrite {A : Nat} {s0 : State} {offset : BitVec 24} {data : Sys2Proof.Word} {s : Sys2Proof.Machine.State} (h_s : Kept A s0 s) (hA : 2274378951843021275283260 ||| A = A) :
    KeptO A s0 (execRegisterWrite offset data s) := by
  unfold execRegisterWrite
  refine KeptO.next ?_
  refine kept_hostWrite ?_ (mask_sub (by decide) hA)
  · exact h_s
theorem kept_execHistoryWindowRead {A : Nat} {s0 : State} {s : Sys2Proof.Machine.State} (h_s : Kept A s0 s) (hA : 38685626227668133591648312 ||| A = A) :
    KeptO A s0 (execHistoryWindowRead s) := by
  unfold execHistoryWindowRead
  refine KeptO.next ?_
  refine kept_hostGet ?_ (mask_sub (by decide) hA)
  · exact h_s
theorem kept_execLimitTighten {A : Nat} {s0 : State} {off : BitVec 12} {data : Sys2Proof.Word} {s : Sys2Proof.Machine.State} (h_s : Kept A s0 s) (hA : 2274267101321185566408504 ||| A = A) :
    KeptO A s0 (execLimitTighten off data s) := by
  unfold execLimitTighten
  refine KeptO.next ?_
  refine kept_hostOp ?_ (fun _ h1 => ?_) (mask_sub (by decide) hA)
  · exact h_s
  · refine kept_limitTighten ?_ (mask_sub (by decide) hA)
    · exact h1
theorem kept_execDescriptorLoad {A : Nat} {s0 : State} {k : Sys2Proof.ClusterId} {s : Sys2Proof.Machine.State} (h_s : Kept A s0 s) (hA : 2148533816 ||| A = A) :
    KeptO A s0 (execDescriptorLoad k s) := by
  unfold execDescriptorLoad
  refine KeptO.next ?_
  refine kept_hostOp ?_ (fun _ h1 => ?_) (mask_sub (by decide) hA)
  · exact h_s
  · refine kept_descriptorLoad ?_ (mask_sub (by decide) hA)
    · exact h1
theorem kept_execDrwSeedSet {A : Nat} {s0 : State} {data : Sys2Proof.Word} {s : Sys2Proof.Machine.State} (h_s : Kept A s0 s) (hA : 370394052232037547576 ||| A = A) :
    KeptO A s0 (execDrwSeedSet data s) := by
  unfold execDrwSeedSet
  refine KeptO.next ?_
  refine kept_hostOp ?_ (fun _ h1 => ?_) (mask_sub (by decide) hA)
  · exact h_s
  · refine kept_drwSeedSet ?_ (mask_sub (by decide) hA)
    · exact h1
theorem kept_execHostHeartbeat {A : Nat} {s0 : State} {data : Sys2Proof.Word} {s : Sys2Proof.Machine.State} (h_s : Kept A s0 s) (hA : 288230376152760376 ||| A = A) :
    KeptO A s0 (execHostHeartbeat data s) := by
  unfold execHostHeartbeat
  refine KeptO.next ?_
  refine kept_hostOp ?_ (fun _ h1 => ?_) (mask_sub (by decide) hA)
  · exact h_s
  · refine kept_hostHeartbeat ?_ (mask_sub (by decide) hA)
    · exact h1
theorem kept_execScanAbort {A : Nat} {s0 : State} {u : Sys2Proof.ScanUnit} {s : Sys2Proof.Machine.State} (h_s : Kept A s0 s) (hA : 68157488 ||| A = A) :
    KeptO A s0 (execScanAbort u s) := by
  unfold execScanAbort
  refine KeptO.next ?_
  refine kept_hostOp ?_ (fun _ h1 => ?_) (mask_sub (by decide) hA)
  · exact h_s
  · refine kept_scanAbort ?_ (mask_sub (by decide) hA)
    · exact h1
theorem kept_execLoftWindowRead {A : Nat} {s0 : State} {s : Sys2Proof.Machine.State} (h_s : Kept A s0 s) (hA : 38685626227668133591648312 ||| A = A) :
    KeptO A s0 (execLoftWindowRead s) := by
  unfold execLoftWindowRead
  refine KeptO.next ?_
  refine kept_hostGet ?_ (mask_sub (by decide) hA)
  · exact h_s
theorem kept_execWindowApply {A : Nat} {s0 : State} {c : Sys2Proof.StackId} {data : Sys2Proof.Word} {s : Sys2Proof.Machine.State} (h_s : Kept A s0 s) (hA : 51380272 ||| A = A) :
    KeptO A s0 (execWindowApply c data s) := by
  unfold execWindowApply
  refine KeptO.next ?_
  refine kept_hostOp ?_ (fun _ h1 => ?_) (mask_sub (by decide) hA)
  · exact h_s
  · refine kept_windowApply ?_ (mask_sub (by decide) hA)
    · exact h1
theorem kept_execAttributionBinWrite {A : Nat} {s0 : State} {k : Sys2Proof.ClusterId} {data : Sys2Proof.Word} {s : Sys2Proof.Machine.State} (h_s : Kept A s0 s) (hA : 4503599628419128 ||| A = A) :
    KeptO A s0 (execAttributionBinWrite k data s) := by
  unfold execAttributionBinWrite
  refine KeptO.next ?_
  refine kept_hostOp ?_ (fun _ h1 => ?_) (mask_sub (by decide) hA)
  · exact h_s
  · refine kept_attributionBinWrite ?_ (mask_sub (by decide) hA)
    · exact h1
theorem kept_respond {A : Nat} {s0 : State} {s : Sys2Proof.Machine.State} {opc : Nat} {m : Sys2Proof.Moldom} {status : Nat} {data : Nat} (h_s : Kept A s0 s) (hA : 2305843009213693952 ||| A = A) :
    Kept A s0 (State.respond s opc m status data) := by
  unfold State.respond
  extract_lets -merge -useContext -underBinder x1
  refine Kept.u_dbg ?_ (mask_sub (by decide) hA)
  exact h_s
theorem kept_moldom {A : Nat} {s0 : State} {s : Sys2Proof.Machine.State} {opc : Nat} {m : Sys2Proof.Moldom} {f : Sys2Proof.Machine.State → Sys2Proof.Machine.State × Nat × Nat} (h_s : Kept A s0 s) (h_f : ∀ y0, Kept A s0 y0 → KeptL A s0 (f y0)) (hA : 2305843009213693952 ||| A = A) :
    Kept A s0 (State.moldom s opc m f) := by
  unfold State.moldom
  extract_lets -merge -useContext -underBinder x1
  have h1 : KeptL A s0 x1 := by
    unfold x1
    refine h_f _ ?_
    · exact h_s
  clear_value x1
  refine Kept.ite ?_ ?_
  · exact h_s
  · refine kept_respond ?_ (mask_sub (by decide) hA)
    · refine KeptL.fst ?_
      exact h1
theorem kept_unlockedOnly {A : Nat} {s0 : State} {s : Sys2Proof.Machine.State} {opc : Nat} {m : Sys2Proof.Moldom} {f : Sys2Proof.Machine.State → Sys2Proof.Machine.State × Nat × Nat} (h_s : Kept A s0 s) (h_f : ∀ y0, Kept A s0 y0 → KeptL A s0 (f y0)) (hA : 2305843009213695512 ||| A = A) :
    Kept A s0 (State.unlockedOnly s opc m f) := by
  unfold State.unlockedOnly
  refine kept_moldom ?_ (fun _ h1 => ?_) (mask_sub (by decide) hA)
  · exact h_s
  · refine KeptL.ite ?_ ?_
    · refine KeptL.mk ?_
      refine kept_raiseOnce ?_ (mask_sub (by decide) hA)
      · exact h1
    · refine h_f _ ?_
      · exact h1
theorem kept_onProc {A : Nat} {s0 : State} {s : Sys2Proof.Machine.State} {i : Nat} {f : Sys2Proof.Machine.State → Sys2Proof.Machine.State × Nat × Nat} (h_s : Kept A s0 s) (h_f : ∀ y0, Kept A s0 y0 → KeptL A s0 (f y0)) :
    KeptL A s0 (State.onProc s i f) := by
  unfold State.onProc
  refine KeptL.ite ?_ ?_
  · refine KeptL.mk ?_
    exact h_s
  · refine KeptL.ite ?_ ?_
    · refine KeptL.mk ?_
      exact h_s
    · refine h_f _ ?_
      · exact h_s
theorem kept_haltProc {A : Nat} {s0 : State} {s : Sys2Proof.Machine.State} {i : Nat} {cause : Nat} {what : Nat} {addr : Nat} (h_s : Kept A s0 s) (hA : 2305847407260205592 ||| A = A) :
    Kept A s0 (State.haltProc s i cause what addr) := by
  unfold State.haltProc
  extract_lets -merge -useContext -underBinder x1 x2 x3
  have h2 : Kept A s0 x2 := by
    unfold x2
    refine Kept.u_dbg ?_ (mask_sub (by decide) hA)
    exact h_s
  have h3 : Kept A s0 x3 := by
    unfold x3
    refine Kept.ite ?_ ?_
    · refine kept_updHall ?_ (mask_sub (by decide) hA)
      · exact h2
    · exact h2
  clear_value x2 x3
  refine kept_raise ?_ (mask_sub (by decide) hA)
  · exact h3
theorem kept_haltFresh {A : Nat} {s0 : State} {s : Sys2Proof.Machine.State} {i : Nat} {cause : Nat} (h_s : Kept A s0 s) (hA : 2305847407260205596 ||| A = A) :
    Kept A s0 (State.haltFresh s i cause) := by
  unfold State.haltFresh
  refine kept_draw ?_ (mask_sub (by decide) hA)
  · refine kept_haltProc ?_ (mask_sub (by decide) hA)
    · exact h_s
theorem kept_execProcessorStep {A : Nat} {s0 : State} {m : Sys2Proof.Moldom} {s : Sys2Proof.Machine.State} (h_s : Kept A s0 s) (hA : 2305847407260206620 ||| A = A) :
    KeptO A s0 (execProcessorStep m s) := by
  unfold execProcessorStep
  extract_lets -merge -useContext -underBinder x1
  refine KeptO.next ?_
  refine kept_unlockedOnly ?_ (fun _ h2 => ?_) (mask_sub (by decide) hA)
  · exact h_s
  · refine kept_onProc ?_ (fun _ h3 => ?_)
    · exact h2
    · refine KeptL.ite ?_ ?_
      · refine KeptL.mk ?_
        refine kept_haltFresh ?_ (mask_sub (by decide) hA)
        · exact h3
      · refine KeptL.mk ?_
        exact h3
theorem kept_processorBreakHit {A : Nat} {s0 : State} {s : Sys2Proof.Machine.State} {i : Nat} {watch : Bool} {addr : Nat} (h_s : Kept A s0 s) (hA : 2305847407260205592 ||| A = A) :
    Kept A s0 (processorBreakHit s i watch addr) := by
  unfold processorBreakHit
  extract_lets -merge -useContext -underBinder x1
  refine Kept.ite ?_ ?_
  · exact h_s
  · refine kept_haltProc ?_ (mask_sub (by decide) hA)
    · exact h_s
theorem kept_execProcessorBreakHit {A : Nat} {s0 : State} {i : Sys2Proof.Byte} {watch : Bool} {addr : Sys2Proof.Word} {s : Sys2Proof.Machine.State} (h_s : Kept A s0 s) (hA : 2305847407260205592 ||| A = A) :
    KeptO A s0 (execProcessorBreakHit i watch addr s) := by
  unfold execProcessorBreakHit
  refine KeptO.next ?_
  refine kept_processorBreakHit ?_ (mask_sub (by decide) hA)
  · exact h_s
theorem kept_pipeHalt {A : Nat} {s0 : State} {s : Sys2Proof.Machine.State} {k : Nat} {st : Nat} (h_s : Kept A s0 s) (hA : 2305843009213694488 ||| A = A) :
    Kept A s0 (State.pipeHalt s k st) := by
  unfold State.pipeHalt
  extract_lets -merge -useContext -underBinder x1
  refine Kept.ite ?_ ?_
  · exact h_s
  · refine kept_raise ?_ (mask_sub (by decide) hA)
    · refine Kept.u_dbg ?_ (mask_sub (by decide) hA)
      exact h_s
theorem kept_onStage {A : Nat} {s0 : State} {s : Sys2Proof.Machine.State} {m : Sys2Proof.Moldom} {f : Sys2Proof.Machine.State → Nat → Nat → Sys2Proof.Machine.State × Nat × Nat} (h_s : Kept A s0 s) (h_f : ∀ y0 y1 y2, Kept A s0 y0 → KeptL A s0 (f y0 y1 y2)) :
    KeptL A s0 (State.onStage s m f) := by
  unfold State.onStage
  extract_lets -merge -useContext -underBinder x1 x2
  refine KeptL.ite ?_ ?_
  · refine KeptL.mk ?_
    exact h_s
  · refine KeptL.ite ?_ ?_
    · refine KeptL.mk ?_
      exact h_s
    · refine KeptL.ite ?_ ?_
      · refine KeptL.mk ?_
        exact h_s
      · refine h_f _ _ _ ?_
        · exact h_s
theorem kept_execPipelineHalt {A : Nat} {s0 : State} {m : Sys2Proof.Moldom} {s : Sys2Proof.Machine.State} (h_s : Kept A s0 s) (hA : 2305843009213695512 ||| A = A) :
    KeptO A s0 (execPipelineHalt m s) := by
  unfold execPipelineHalt
  refine KeptO.next ?_
  refine kept_unlockedOnly ?_ (fun _ h1 => ?_) (mask_sub (by decide) hA)
  · exact h_s
  · refine kept_onStage ?_ (fun _ _ _ h2 => ?_)
    · exact h1
    · refine KeptL.ite ?_ ?_
      · refine KeptL.mk ?_
        exact h2
      · refine KeptL.mk ?_
        refine kept_pipeHalt ?_ (mask_sub (by decide) hA)
        · exact h2
theorem kept_execProcessorRun {A : Nat} {s0 : State} {m : Sys2Proof.Moldom} {s : Sys2Proof.Machine.State} (h_s : Kept A s0 s) (hA : 8640619646658250383179772 ||| A = A) :
    KeptO A s0 (execProcessorRun m s) := by
  unfold execProcessorRun
  extract_lets -merge -useContext -underBinder x1
  refine KeptO.next ?_
  refine kept_unlockedOnly ?_ (fun _ h2 => ?_) (mask_sub (by decide) hA)
  · exact h_s
  · refine kept_onProc ?_ (fun _ h3 => ?_)
    · exact h2
    · refine KeptL.mk ?_
      refine kept_procRelease ?_ (mask_sub (by decide) hA)
      · exact h3
theorem kept_execMemoryRead {A : Nat} {s0 : State} {m : Sys2Proof.Moldom} {s : Sys2Proof.Machine.State} (h_s : Kept A s0 s) (hA : 2305843009213695512 ||| A = A) :
    KeptO A s0 (execMemoryRead m s) := by
  unfold execMemoryRead
  refine KeptO.next ?_
  refine kept_unlockedOnly ?_ (fun _ h1 => ?_) (mask_sub (by decide) hA)
  · exact h_s
  · split
    · refine KeptL.mk ?_
      exact h1
    · refine KeptL.mk ?_
      exact h1
theorem kept_execProcessorHalt {A : Nat} {s0 : State} {m : Sys2Proof.Moldom} {s : Sys2Proof.Machine.State} (h_s : Kept A s0 s) (hA : 2305847407260206620 ||| A = A) :
    KeptO A s0 (execProcessorHalt m s) := by
  unfold execProcessorHalt
  extract_lets -merge -useContext -underBinder x1
  refine KeptO.next ?_
  refine kept_unlockedOnly ?_ (fun _ h2 => ?_) (mask_sub (by decide) hA)
  · exact h_s
  · refine kept_onProc ?_ (fun _ h3 => ?_)
    · exact h2
    · refine KeptL.mk ?_
      refine Kept.ite ?_ ?_
      · exact h3
      · refine kept_haltFresh ?_ (mask_sub (by decide) hA)
        · exact h3
theorem kept_stopOrder {A : Nat} {s0 : State} {s : Sys2Proof.Machine.State} {t : Sys2Proof.Machine.State} (h_t : Kept A s0 t) (hA : 2305843009213693952 ||| A = A) :
    KeptL A s0 (State.stopOrder s t) := by
  unfold State.stopOrder
  extract_lets -merge -useContext -underBinder x1
  refine KeptL.ite ?_ ?_
  · refine KeptL.mk ?_
    refine Kept.u_dbg ?_ (mask_sub (by decide) hA)
    exact h_t
  · refine KeptL.mk ?_
    exact h_t
theorem kept_execMoldomResume {A : Nat} {s0 : State} {m : Sys2Proof.Moldom} {s : Sys2Proof.Machine.State} (h_s : Kept A s0 s) (hA : 2309471397586681368 ||| A = A) :
    KeptO A s0 (execMoldomResume m s) := by
  unfold execMoldomResume
  refine KeptO.next ?_
  refine kept_unlockedOnly ?_ (fun _ h1 => ?_) (mask_sub (by decide) hA)
  · exact h_s
  · refine kept_stopOrder ?_ (mask_sub (by decide) hA)
    · refine kept_resumeReq ?_ (mask_sub (by decide) hA)
      · exact h1
theorem kept_execTapReset {A : Nat} {s0 : State} {s : Sys2Proof.Machine.State} (h_s : Kept A s0 s) (hA : 2305843009213693952 ||| A = A) :
    KeptO A s0 (execTapReset s) := by
  unfold execTapReset
  extract_lets -merge -useContext -underBinder x1
  refine KeptO.next ?_
  refine Kept.u_dbg ?_ (mask_sub (by decide) hA)
  exact h_s
theorem kept_setBreak {A : Nat} {s0 : State} {s : Sys2Proof.Machine.State} {i : Nat} {addr : Nat} {d : Nat} (h_s : Kept A s0 s) (hA : 2305843009213693952 ||| A = A) :
    Kept A s0 (State.setBreak s i addr d) := by
  unfold State.setBreak
  extract_lets -merge -useContext -underBinder x1 x2
  refine Kept.u_dbg ?_ (mask_sub (by decide) hA)
  exact h_s
theorem kept_execSetBreakpoint {A : Nat} {s0 : State} {m : Sys2Proof.Moldom} {s : Sys2Proof.Machine.State} (h_s : Kept A s0 s) (hA : 2305843009213695512 ||| A = A) :
    KeptO A s0 (execSetBreakpoint m s) := by
  unfold execSetBreakpoint
  extract_lets -merge -useContext -underBinder x1
  refine KeptO.next ?_
  refine kept_unlockedOnly ?_ (fun _ h2 => ?_) (mask_sub (by decide) hA)
  · exact h_s
  · refine kept_onProc ?_ (fun _ h3 => ?_)
    · exact h2
    · refine KeptL.mk ?_
      refine kept_setBreak ?_ (mask_sub (by decide) hA)
      · exact h3
theorem kept_execWindowWrite {A : Nat} {s0 : State} {m : Sys2Proof.Moldom} {s : Sys2Proof.Machine.State} (h_s : Kept A s0 s) (hA : 2274381257686030488977212 ||| A = A) :
    KeptO A s0 (execWindowWrite m s) := by
  unfold execWindowWrite
  refine KeptO.next ?_
  refine kept_unlockedOnly ?_ (fun _ h1 => ?_) (mask_sub (by decide) hA)
  · exact h_s
  · refine KeptL.ite ?_ ?_
    · refine KeptL.mk ?_
      refine kept_winWrite ?_ (mask_sub (by decide) hA)
      · exact h1
    · refine KeptL.mk ?_
      exact h1
theorem kept_execMoldomStop {A : Nat} {s0 : State} {m : Sys2Proof.Moldom} {s : Sys2Proof.Machine.State} (h_s : Kept A s0 s) (hA : 2309471397586681368 ||| A = A) :
    KeptO A s0 (execMoldomStop m s) := by
  unfold execMoldomStop
  refine KeptO.next ?_
  refine kept_moldom ?_ (fun _ h1 => ?_) (mask_sub (by decide) hA)
  · exact h_s
  · refine KeptL.ite ?_ ?_
    · refine KeptL.mk ?_
      refine kept_stopReq ?_ (mask_sub (by decide) hA)
      · refine kept_raiseOnce ?_ (mask_sub (by decide) hA)
        · exact h1
    · refine kept_stopOrder ?_ (mask_sub (by decide) hA)
      · refine kept_stopReq ?_ (mask_sub (by decide) hA)
        · exact h1
theorem kept_wipe {A : Nat} {s0 : State} {s : Sys2Proof.Machine.State} {lo : Nat} {hi : Nat} (h_s : Kept A s0 s) (hA : 72057594037927936 ||| A = A) :
    Kept A s0 (State.wipe s lo hi) := by
  unfold State.wipe
  refine Kept.u_mem ?_ ?_ (mask_sub (by decide) hA)
  · exact h_s
  · exact fun h => Tab.wf_drop _ _ h
theorem kept_clearSecrets {A : Nat} {s0 : State} {s : Sys2Proof.Machine.State} {p : Nat} (h_s : Kept A s0 s) (hA : 899350835592999995400 ||| A = A) :
    Kept A s0 (State.clearSecrets s p) := by
  unfold State.clearSecrets
  extract_lets -merge -useContext -underBinder x1
  split
  · extract_lets -merge -useContext -underBinder x2 x3 x4 x5 x6 x7
    have h2 : Kept A s0 x2 := by
      unfold x2
      refine kept_rptDrop ?_ (mask_sub (by decide) hA)
      · refine kept_wipe ?_ (mask_sub (by decide) hA)
        · exact h_s
    have h3 : Kept A s0 x3 := by
      unfold x3
      refine kept_each ?_ (fun _ _ h8 => ?_)
      · exact h2
      · refine kept_updRcmd ?_ (mask_sub (by decide) hA)
        · exact h8
    have h4 : Kept A s0 x4 := by
      unfold x4
      refine kept_dropCmds ?_ (mask_sub (by decide) hA)
      · exact h3
    have h5 : Kept A s0 x5 := by
      unfold x5
      refine Kept.ite ?_ ?_
      · refine kept_wr ?_ (mask_sub (by decide) hA)
        · exact h4
      · exact h4
    have h6 : Kept A s0 x6 := by
      unfold x6
      refine kept_unitsOut ?_ (mask_sub (by decide) hA)
      · exact h5
    clear_value x2 x3 x4 x5 x6
    refine Kept.u_adj_rpl_prv_pairs ?_ (mask_sub (by decide) hA)
    exact h6
  · extract_lets -merge -useContext -underBinder x9 x10
    have h9 : Kept A s0 x9 := by
      unfold x9
      refine kept_wipe ?_ (mask_sub (by decide) hA)
      · exact h_s
    clear_value x9
    refine Kept.u_halls_prv ?_ (mask_sub (by decide) hA)
    exact h9
  · refine Kept.u_wins_winAlive_cels ?_ (mask_sub (by decide) hA)
    exact h_s
  · refine Kept.u_streams_reloads ?_ (mask_sub (by decide) hA)
    exact h_s
theorem kept_execScanEnable {A : Nat} {s0 : State} {m : Sys2Proof.Moldom} {s : Sys2Proof.Machine.State} (h_s : Kept A s0 s) (hA : 7985512647759465037624 ||| A = A) :
    KeptO A s0 (execScanEnable m s) := by
  unfold execScanEnable
  extract_lets -merge -useContext -underBinder x1
  refine KeptO.next ?_
  refine kept_unlockedOnly ?_ (fun _ h2 => ?_) (mask_sub (by decide) hA)
  · exact h_s
  · extract_lets -merge -useContext -underBinder x3 x4 x5
    have h3 : Kept A s0 x3 := by
      unfold x3
      refine kept_updUnit ?_ (mask_sub (by decide) hA)
      · exact h2
    have h4 : Kept A s0 x4 := by
      unfold x4
      refine kept_clearSecrets ?_ (mask_sub (by decide) hA)
      · refine Kept.ite ?_ ?_
        · refine kept_leaveService ?_ (mask_sub (by decide) hA)
          · exact h3
        · exact h3
    clear_value x3 x4
    refine KeptL.ite ?_ ?_
    · refine KeptL.mk ?_
      exact h2
    · refine KeptL.ite ?_ ?_
      · refine KeptL.mk ?_
        exact h2
      · refine KeptL.mk ?_
        refine kept_raise ?_ (mask_sub (by decide) hA)
        · refine Kept.u_dbg ?_ (mask_sub (by decide) hA)
          exact h4
theorem kept_execProcessorStatus {A : Nat} {s0 : State} {m : Sys2Proof.Moldom} {s : Sys2Proof.Machine.State} (h_s : Kept A s0 s) (hA : 2305843009213695512 ||| A = A) :
    KeptO A s0 (execProcessorStatus m s) := by
  unfold execProcessorStatus
  extract_lets -merge -useContext -underBinder x1
  refine KeptO.next ?_
  refine kept_unlockedOnly ?_ (fun _ h2 => ?_) (mask_sub (by decide) hA)
  · exact h_s
  · refine kept_onProc ?_ (fun _ h3 => ?_)
    · exact h2
    · refine KeptL.mk ?_
      exact h3
theorem kept_execPipelineRelease {A : Nat} {s0 : State} {m : Sys2Proof.Moldom} {s : Sys2Proof.Machine.State} (h_s : Kept A s0 s) (hA : 2305843009213695512 ||| A = A) :
    KeptO A s0 (execPipelineRelease m s) := by
  unfold execPipelineRelease
  refine KeptO.next ?_
  refine kept_unlockedOnly ?_ (fun _ h1 => ?_) (mask_sub (by decide) hA)
  · exact h_s
  · refine kept_onStage ?_ (fun _ _ _ h2 => ?_)
    · exact h1
    · refine KeptL.mk ?_
      refine kept_pipeRelease ?_ (mask_sub (by decide) hA)
      · exact h2
theorem kept_execIdent {A : Nat} {s0 : State} {m : Sys2Proof.Moldom} {s : Sys2Proof.Machine.State} (h_s : Kept A s0 s) (hA : 2305843009213693952 ||| A = A) :
    KeptO A s0 (execIdent m s) := by
  unfold execIdent
  refine KeptO.next ?_
  refine kept_moldom ?_ (fun _ h1 => ?_) (mask_sub (by decide) hA)
  · exact h_s
  · split
    · refine KeptL.mk ?_
      exact h1
    · refine KeptL.mk ?_
      exact h1
theorem kept_execNop {A : Nat} {s0 : State} {z0 : Sys2Proof.Moldom} {s : Sys2Proof.Machine.State} (h_s : Kept A s0 s) :
    KeptO A s0 (execNop z0 s) := by
  unfold execNop
  refine KeptO.next ?_
  exact h_s
theorem kept_execWindowRead {A : Nat} {s0 : State} {m : Sys2Proof.Moldom} {s : Sys2Proof.Machine.State} (h_s : Kept A s0 s) (hA : 38685628533511142804295224 ||| A = A) :
    KeptO A s0 (execWindowRead m s) := by
  unfold execWindowRead
  refine KeptO.next ?_
  refine kept_unlockedOnly ?_ (fun _ h1 => ?_) (mask_sub (by decide) hA)
  · exact h_s
  · extract_lets -merge -useContext -underBinder x2
    have h2 : KeptL A s0 x2 := by
      unfold x2
      refine kept_winRead ?_ (mask_sub (by decide) hA)
      · exact h1
    clear_value x2
    refine KeptL.ite ?_ ?_
    · refine KeptL.mk ?_
      refine KeptL.fst ?_
      exact h2
    · refine KeptL.mk ?_
      exact h1
theorem kept_execMemoryWrite {A : Nat} {s0 : State} {m : Sys2Proof.Moldom} {s : Sys2Proof.Machine.State} (h_s : Kept A s0 s) (hA : 2377900603251623448 ||| A = A) :
    KeptO A s0 (execMemoryWrite m s) := by
  unfold execMemoryWrite
  refine KeptO.next ?_
  refine kept_unlockedOnly ?_ (fun _ h1 => ?_) (mask_sub (by decide) hA)
  · exact h_s
  · split
    · refine KeptL.mk ?_
      refine kept_poke ?_ (mask_sub (by decide) hA)
      · exact h1
    · refine KeptL.mk ?_
      exact h1
theorem kept_setWatch {A : Nat} {s0 : State} {s : Sys2Proof.Machine.State} {i : Nat} {addr : Nat} {d : Nat} (h_s : Kept A s0 s) (hA : 2305843009213693952 ||| A = A) :
    Kept A s0 (State.setWatch s i addr d) := by
  unfold State.setWatch
  extract_lets -merge -useContext -underBinder x1 x2
  refine Kept.u_dbg ?_ (mask_sub (by decide) hA)
  exact h_s
theorem kept_execSetWatchpoint {A : Nat} {s0 : State} {m : Sys2Proof.Moldom} {s : Sys2Proof.Machine.State} (h_s : Kept A s0 s) (hA : 2305843009213695512 ||| A = A) :
    KeptO A s0 (execSetWatchpoint m s) := by
  unfold execSetWatchpoint
  extract_lets -merge -useContext -underBinder x1
  refine KeptO.next ?_
  refine kept_unlockedOnly ?_ (fun _ h2 => ?_) (mask_sub (by decide) hA)
  · exact h_s
  · refine kept_onProc ?_ (fun _ h3 => ?_)
    · exact h2
    · refine KeptL.mk ?_
      refine kept_setWatch ?_ (mask_sub (by decide) hA)
      · exact h3
theorem kept_repairReadback {A : Nat} {s0 : State} {s : Sys2Proof.Machine.State} {c : Nat} {i : Nat} {bs : List Sys2Proof.Byte} {ce : List Nat} {ue : List Nat} (h_s : Kept A s0 s) (hA : 299759595595836440120 ||| A = A) :
    Kept A s0 (repairReadback s c i bs ce ue) := by
  unfold repairReadback
  split
  · extract_lets -merge -useContext -underBinder x1 x2 x3 x4 x5 x6 x7 x8 x9 x10
    have h1 : Kept A s0 x1 := by
      unfold x1
      refine kept_count ?_ (mask_sub (by decide) hA)
      · refine kept_count ?_ (mask_sub (by decide) hA)
        · refine kept_count ?_ (mask_sub (by decide) hA)
          · exact h_s
    have h5 : Kept A s0 x5 := by
      unfold x5
      refine kept_psnLeave ?_ (mask_sub (by decide) hA)
      · exact h1
    have h6 : Kept A s0 x6 := by
      unfold x6
      refine kept_updCel ?_ (mask_sub (by decide) hA)
      · exact h5
    have h8 : Kept A s0 x8 := by
      unfold x8
      refine Kept.ite ?_ ?_
      · exact h6
      · refine kept_sliceState ?_ (mask_sub (by decide) hA)
        · refine kept_updSlice ?_ (mask_sub (by decide) hA)
          · exact h6
    have h9 : Kept A s0 x9 := by
      unfold x9
      refine Kept.ite ?_ ?_
      · exact h8
      · refine kept_sendDigest ?_ (mask_sub (by decide) hA)
        · exact h8
    have h10 : Kept A s0 x10 := by
      unfold x10
      refine Kept.ite ?_ ?_
      · refine kept_recordSlice ?_ (mask_sub (by decide) hA)
        · exact h9
      · exact h9
    clear_value x1 x5 x6 x8 x9 x10
    refine Kept.ite ?_ ?_
    · exact h_s
    · refine Kept.ite ?_ ?_
      · refine kept_askSource ?_ (mask_sub (by decide) hA)
        · exact h1
      · refine kept_showCel ?_ (mask_sub (by decide) hA)
        · refine kept_raiseOnce ?_ (mask_sub (by decide) hA)
          · refine kept_count ?_ (mask_sub (by decide) hA)
            · exact h10
  · exact h_s
theorem kept_withSlice {A : Nat} {s0 : State} {s : Sys2Proof.Machine.State} {n : Nat} {r : Sys2Proof.Machine.Xrec} {f : Nat → Nat → Sys2Proof.Machine.State} (h_s : Kept A s0 s) (h_f : ∀ y0 y1, Kept A s0 (f y0 y1)) (hA : 4611686018427389496 ||| A = A) :
    Kept A s0 (State.withSlice s n r f) := by
  unfold State.withSlice
  split
  · refine kept_ignoreRec ?_ (mask_sub (by decide) hA)
    · exact h_s
  · split
    · refine kept_ignoreRec ?_ (mask_sub (by decide) hA)
      · exact h_s
    · refine h_f _ _
theorem kept_reloadAnnouncement {A : Nat} {s0 : State} {s : Sys2Proof.Machine.State} {n : Nat} {b : List Sys2Proof.Byte} (h_s : Kept A s0 s) (hA : 13835058055282165304 ||| A = A) :
    Kept A s0 (reloadAnnouncement s n b) := by
  unfold reloadAnnouncement
  extract_lets -merge -useContext -underBinder x1
  refine kept_withSlice ?_ (fun _ _ => ?_) (mask_sub (by decide) hA)
  · exact h_s
  · split
    · refine Kept.ite ?_ ?_
      · exact h_s
      · refine kept_updRepair ?_ (mask_sub (by decide) hA)
        · refine kept_updReloadOf ?_ (mask_sub (by decide) hA)
          · exact h_s
    · refine kept_updReloadOf ?_ (mask_sub (by decide) hA)
      · exact h_s
theorem kept_thirdOver {A : Nat} {s0 : State} {s : Sys2Proof.Machine.State} {c : Nat} {i : Nat} (h_s : Kept A s0 s) (hA : 4611686018427387904 ||| A = A) :
    Kept A s0 (State.thirdOver s c i) := by
  unfold State.thirdOver
  refine kept_updCel ?_ (mask_sub (by decide) hA)
  · exact h_s
theorem kept_undecided {A : Nat} {s0 : State} {s : Sys2Proof.Machine.State} {c : Nat} {i : Nat} (h_s : Kept A s0 s) (hA : 4611686018427388440 ||| A = A) :
    Kept A s0 (State.undecided s c i) := by
  unfold State.undecided
  split
  · refine kept_raise ?_ (mask_sub (by decide) hA)
    · refine kept_thirdOver ?_ (mask_sub (by decide) hA)
      · exact h_s
  · refine kept_thirdOver ?_ (mask_sub (by decide) hA)
    · exact h_s
theorem kept_reloadRefusal {A : Nat} {s0 : State} {s : Sys2Proof.Machine.State} {n : Nat} {b : List Sys2Proof.Byte} (h_s : Kept A s0 s) (hA : 4611690416483614264 ||| A = A) :
    Kept A s0 (reloadRefusal s n b) := by
  unfold reloadRefusal
  extract_lets -merge -useContext -underBinder x1
  refine kept_withSlice ?_ (fun _ _ => ?_) (mask_sub (by decide) hA)
  · exact h_s
  · refine Kept.ite ?_ ?_
    · refine kept_undecided ?_ (mask_sub (by decide) hA)
      · exact h_s
    · split
      · refine Kept.ite ?_ ?_
        · exact h_s
        · refine kept_askSource ?_ (mask_sub (by decide) hA)
          · exact h_s
      · exact h_s
theorem kept_refuseRec {A : Nat} {s0 : State} {s : Sys2Proof.Machine.State} {c : Nat} {n : Nat} {r : Sys2Proof.Machine.Xrec} {rstat : Nat} (h_s : Kept A s0 s) (hA : 4398056224816 ||| A = A) :
    Kept A s0 (State.refuseRec s c n r rstat) := by
  unfold State.refuseRec
  refine kept_sendRec ?_ (mask_sub (by decide) hA)
  · exact h_s
theorem kept_requestAt {A : Nat} {s0 : State} {s : Sys2Proof.Machine.State} {n : Nat} {r : Sys2Proof.Machine.Xrec} {f : Nat → Nat → Sys2Proof.SliceEnt → Sys2Proof.Machine.State} (h_s : Kept A s0 s) (h_f : ∀ y0 y1 y2, Kept A s0 (f y0 y1 y2)) (hA : 4611690416483614264 ||| A = A) :
    Kept A s0 (State.requestAt s n r f) := by
  unfold State.requestAt
  split
  · refine kept_ignoreRec ?_ (mask_sub (by decide) hA)
    · exact h_s
  · split
    · refine kept_refuseRec ?_ (mask_sub (by decide) hA)
      · exact h_s
    · split
      · refine h_f _ _ _
      · refine kept_refuseRec ?_ (mask_sub (by decide) hA)
        · exact h_s
theorem kept_writeBlock {A : Nat} {s0 : State} {s : Sys2Proof.Machine.State} {c : Nat} {i : Nat} {q : Sys2Proof.Repair} {e : Sys2Proof.SliceEnt} {h : Sys2Proof.Header} {payload : List Sys2Proof.Byte} (h_s : Kept A s0 s) (hA : 4683743612465315888 ||| A = A) :
    Kept A s0 (State.writeBlock s c i q e h payload) := by
  unfold State.writeBlock
  extract_lets -merge -useContext -underBinder x1 x2 x3
  refine Kept.ite ?_ ?_
  · refine kept_updRepair ?_ (mask_sub (by decide) hA)
    · refine kept_count ?_ (mask_sub (by decide) hA)
      · refine kept_poke ?_ (mask_sub (by decide) hA)
        · exact h_s
  · exact h_s
theorem kept_reloadBlock {A : Nat} {s0 : State} {s : Sys2Proof.Machine.State} {n : Nat} {bs : List Sys2Proof.Byte} {bad : Bool} (h_s : Kept A s0 s) (hA : 13907120047376318008 ||| A = A) :
    Kept A s0 (reloadBlock s n bs bad) := by
  unfold reloadBlock
  extract_lets -merge -useContext -underBinder x1
  split
  · refine kept_ignoreRec ?_ (mask_sub (by decide) hA)
    · exact h_s
  · extract_lets -merge -useContext -underBinder x2 x3
    have h3 : Kept A s0 x3 := by
      unfold x3
      refine Kept.ite ?_ ?_
      · refine kept_ignoreRec ?_ (mask_sub (by decide) hA)
        · exact h_s
      · refine kept_updReloadOf ?_ (mask_sub (by decide) hA)
        · exact h_s
    clear_value x3
    split
    · extract_lets -merge -useContext -underBinder x4 x5 x6
      have h5 : Kept A s0 x5 := by
        unfold x5
        refine kept_writeBlock ?_ (mask_sub (by decide) hA)
        · exact h3
      have h6 : Kept A s0 x6 := by
        unfold x6
        refine kept_updRepair ?_ (mask_sub (by decide) hA)
        · exact h5
      clear_value x5 x6
      refine Kept.ite ?_ ?_
      · exact h3
      · refine Kept.ite ?_ ?_
        · refine kept_askSource ?_ (mask_sub (by decide) hA)
          · exact h3
        · split
          · refine Kept.ite ?_ ?_
            · exact h6
            · refine Kept.ite ?_ ?_
              · refine kept_updRepair ?_ (mask_sub (by decide) hA)
                · exact h6
              · refine kept_askSource ?_ (mask_sub (by decide) hA)
                · exact h6
          · exact h6
    · exact h3
theorem kept_execReloadBlock {A : Nat} {s0 : State} {n : Sys2Proof.DoorId} {bytes : List Sys2Proof.Byte} {bad : Bool} {s : Sys2Proof.Machine.State} (h_s : Kept A s0 s) (hA : 13907120047376318008 ||| A = A) :
    KeptO A s0 (execReloadBlock n bytes bad s) := by
  unfold execReloadBlock
  refine KeptO.next ?_
  refine kept_reloadBlock ?_ (mask_sub (by decide) hA)
  · exact h_s
theorem kept_reloadTimeout {A : Nat} {s0 : State} {s : Sys2Proof.Machine.State} {c : Nat} {i : Nat} (h_s : Kept A s0 s) (hA : 4611690416483614264 ||| A = A) :
    Kept A s0 (reloadTimeout s c i) := by
  unfold reloadTimeout
  split
  · refine Kept.ite ?_ ?_
    · exact h_s
    · refine kept_askSource ?_ (mask_sub (by decide) hA)
      · exact h_s
  · exact h_s
theorem kept_execRepairReadback {A : Nat} {s0 : State} {c : Sys2Proof.StackId} {i : Fin 16384} {bytes : List Sys2Proof.Byte} {ce : List (BitVec 36)} {ue : List (BitVec 36)} {s : Sys2Proof.Machine.State} (h_s : Kept A s0 s) (hA : 299760158545789861432 ||| A = A) :
    KeptO A s0 (execRepairReadback c i bytes ce ue s) := by
  unfold execRepairReadback
  refine KeptO.next ?_
  refine Kept.ite ?_ ?_
  · exact h_s
  · refine kept_repairReadback ?_ (mask_sub (by decide) hA)
    · refine kept_item ?_ (mask_sub (by decide) hA)
      · exact h_s
theorem kept_thirdCopyTimeout {A : Nat} {s0 : State} {s : Sys2Proof.Machine.State} {c : Nat} {i : Nat} (h_s : Kept A s0 s) (hA : 4611686018427388440 ||| A = A) :
    Kept A s0 (thirdCopyTimeout s c i) := by
  unfold thirdCopyTimeout
  refine Kept.ite ?_ ?_
  · refine kept_undecided ?_ (mask_sub (by decide) hA)
    · exact h_s
  · exact h_s
theorem kept_execThirdCopyTimeout {A : Nat} {s0 : State} {c : Sys2Proof.StackId} {i : Fin 16384} {s : Sys2Proof.Machine.State} (h_s : Kept A s0 s) (hA : 4611686018427388440 ||| A = A) :
    KeptO A s0 (execThirdCopyTimeout c i s) := by
  unfold execThirdCopyTimeout
  refine KeptO.next ?_
  refine kept_thirdCopyTimeout ?_ (mask_sub (by decide) hA)
  · exact h_s
theorem kept_thirdCopyRequest {A : Nat} {s0 : State} {s : Sys2Proof.Machine.State} {n : Nat} {b : List Sys2Proof.Byte} (h_s : Kept A s0 s) (hA : 4611690416483614264 ||| A = A) :
    Kept A s0 (thirdCopyRequest s n b) := by
  unfold thirdCopyRequest
  extract_lets -merge -useContext -underBinder x1
  refine kept_requestAt ?_ (fun _ _ _ => ?_) (mask_sub (by decide) hA)
  · exact h_s
  · refine Kept.ite ?_ ?_
    · refine kept_sendRec ?_ (mask_sub (by decide) hA)
      · exact h_s
    · refine kept_refuseRec ?_ (mask_sub (by decide) hA)
      · exact h_s
theorem kept_thirdCopyAnswer {A : Nat} {s0 : State} {s : Sys2Proof.Machine.State} {n : Nat} {b : List Sys2Proof.Byte} (h_s : Kept A s0 s) (hA : 4611686018427389496 ||| A = A) :
    Kept A s0 (thirdCopyAnswer s n b) := by
  unfold thirdCopyAnswer
  extract_lets -merge -useContext -underBinder x1
  refine kept_withSlice ?_ (fun _ _ => ?_) (mask_sub (by decide) hA)
  · exact h_s
  · split
    · exact h_s
    · refine Kept.ite ?_ ?_
      · exact h_s
      · refine Kept.ite ?_ ?_
        · refine kept_needRepair ?_ (mask_sub (by decide) hA)
          · refine kept_raise ?_ (mask_sub (by decide) hA)
            · refine kept_sliceState ?_ (mask_sub (by decide) hA)
              · refine kept_thirdOver ?_ (mask_sub (by decide) hA)
                · exact h_s
        · refine Kept.ite ?_ ?_
          · refine kept_raise ?_ (mask_sub (by decide) hA)
            · refine kept_sliceState ?_ (mask_sub (by decide) hA)
              · refine kept_thirdOver ?_ (mask_sub (by decide) hA)
                · exact h_s
          · refine kept_undecided ?_ (mask_sub (by decide) hA)
            · exact h_s
theorem kept_absorbRec {A : Nat} {s0 : State} {s : Sys2Proof.Machine.State} {n : Nat} {r : Sys2Proof.Machine.Xrec} (h_s : Kept A s0 s) (hA : 48 ||| A = A) :
    Kept A s0 (State.absorbRec s n r) := by
  unfold State.absorbRec
  refine kept_count ?_ (mask_sub (by decide) hA)
  · exact h_s
theorem kept_digestRecord {A : Nat} {s0 : State} {s : Sys2Proof.Machine.State} {n : Nat} {b : List Sys2Proof.Byte} (h_s : Kept A s0 s) (hA : 4611690416483614264 ||| A = A) :
    Kept A s0 (digestRecord s n b) := by
  unfold digestRecord
  extract_lets -merge -useContext -underBinder x1
  refine Kept.ite ?_ ?_
  · refine kept_absorbRec ?_ (mask_sub (by decide) hA)
    · exact h_s
  · refine Kept.ite ?_ ?_
    · exact h_s
    · refine kept_withSlice ?_ (fun _ _ => ?_) (mask_sub (by decide) hA)
      · exact h_s
      · extract_lets -merge -useContext -underBinder x2
        refine kept_compareSlice ?_ (mask_sub (by decide) hA)
        · refine kept_updSlice ?_ (mask_sub (by decide) hA)
          · exact h_s
theorem kept_execDigestRecord {A : Nat} {s0 : State} {n : Sys2Proof.DoorId} {payload : List Sys2Proof.Byte} {s : Sys2Proof.Machine.State} (h_s : Kept A s0 s) (hA : 4611690416483614264 ||| A = A) :
    KeptO A s0 (execDigestRecord n payload s) := by
  unfold execDigestRecord
  refine KeptO.next ?_
  refine kept_digestRecord ?_ (mask_sub (by decide) hA)
  · exact h_s
theorem kept_execThirdCopyAnswer {A : Nat} {s0 : State} {n : Sys2Proof.DoorId} {payload : List Sys2Proof.Byte} {s : Sys2Proof.Machine.State} (h_s : Kept A s0 s) (hA : 4611686018427389496 ||| A = A) :
    KeptO A s0 (execThirdCopyAnswer n payload s) := by
  unfold execThirdCopyAnswer
  refine KeptO.next ?_
  refine kept_thirdCopyAnswer ?_ (mask_sub (by decide) hA)
  · exact h_s
theorem kept_sendBlocks {A : Nat} {s0 : State} {s : State} {n k : Nat} {bs : List Byte} (h_s : Kept A s0 s) (hA : 8390704 ||| A = A) :
    Kept A s0 (State.sendBlocks s n k bs) := by
  induction k generalizing s bs with
  | zero => exact h_s
  | succ k ih =>
    unfold State.sendBlocks
    extract_lets -merge -useContext -underBinder x1
    refine Kept.ite h_s ?_
    exact ih (kept_doorInsert h_s (mask_sub (by decide) hA))
theorem kept_reloadRequest {A : Nat} {s0 : State} {s : Sys2Proof.Machine.State} {n : Nat} {b : List Sys2Proof.Byte} (h_s : Kept A s0 s) (hA : 4611690416483614264 ||| A = A) :
    Kept A s0 (reloadRequest s n b) := by
  unfold reloadRequest
  extract_lets -merge -useContext -underBinder x1
  refine kept_requestAt ?_ (fun _ _ _ => ?_) (mask_sub (by decide) hA)
  · exact h_s
  · extract_lets -merge -useContext -underBinder x2
    refine Kept.ite ?_ ?_
    · refine kept_refuseRec ?_ (mask_sub (by decide) hA)
      · exact h_s
    · refine Kept.ite ?_ ?_
      · refine kept_refuseRec ?_ (mask_sub (by decide) hA)
        · exact h_s
      · refine kept_sendBlocks ?_ (mask_sub (by decide) hA)
        · refine kept_bulk ?_ (mask_sub (by decide) hA)
          · refine kept_sendRec ?_ (mask_sub (by decide) hA)
            · refine kept_count ?_ (mask_sub (by decide) hA)
              · exact h_s
theorem kept_execReloadRefusal {A : Nat} {s0 : State} {n : Sys2Proof.DoorId} {payload : List Sys2Proof.Byte} {s : Sys2Proof.Machine.State} (h_s : Kept A s0 s) (hA : 4611690416483614264 ||| A = A) :
    KeptO A s0 (execReloadRefusal n payload s) := by
  unfold execReloadRefusal
  refine KeptO.next ?_
  refine kept_reloadRefusal ?_ (mask_sub (by decide) hA)
  · exact h_s
theorem kept_execReloadTimeout {A : Nat} {s0 : State} {c : Sys2Proof.StackId} {i : Fin 16384} {s : Sys2Proof.Machine.State} (h_s : Kept A s0 s) (hA : 4611690416483614264 ||| A = A) :
    KeptO A s0 (execReloadTimeout c i s) := by
  unfold execReloadTimeout
  refine KeptO.next ?_
  refine kept_reloadTimeout ?_ (mask_sub (by decide) hA)
  · exact h_s
theorem kept_execThirdCopyRequest {A : Nat} {s0 : State} {n : Sys2Proof.DoorId} {payload : List Sys2Proof.Byte} {s : Sys2Proof.Machine.State} (h_s : Kept A s0 s) (hA : 4611690416483614264 ||| A = A) :
    KeptO A s0 (execThirdCopyRequest n payload s) := by
  unfold execThirdCopyRequest
  refine KeptO.next ?_
  refine kept_thirdCopyRequest ?_ (mask_sub (by decide) hA)
  · exact h_s
theorem kept_execReloadRequest {A : Nat} {s0 : State} {n : Sys2Proof.DoorId} {payload : List Sys2Proof.Byte} {s : Sys2Proof.Machine.State} (h_s : Kept A s0 s) (hA : 4611690416483614264 ||| A = A) :
    KeptO A s0 (execReloadRequest n payload s) := by
  unfold execReloadRequest
  refine KeptO.next ?_
  refine kept_reloadRequest ?_ (mask_sub (by decide) hA)
  · exact h_s
theorem kept_execReloadAnnouncement {A : Nat} {s0 : State} {n : Sys2Proof.DoorId} {payload : List Sys2Proof.Byte} {s : Sys2Proof.Machine.State} (h_s : Kept A s0 s) (hA : 13835058055282165304 ||| A = A) :
    KeptO A s0 (execReloadAnnouncement n payload s) := by
  unfold execReloadAnnouncement
  refine KeptO.next ?_
  refine kept_reloadAnnouncement ?_ (mask_sub (by decide) hA)
  · exact h_s
theorem kept_execHeartbeatSilence {A : Nat} {s0 : State} {s : Sys2Proof.Machine.State} (h_s : Kept A s0 s) (hA : 125613749405967462325239804 ||| A = A) :
    KeptO A s0 (execHeartbeatSilence s) := by
  unfold execHeartbeatSilence
  refine KeptO.next ?_
  refine kept_hostGo ?_ (mask_sub (by decide) hA)
  · refine kept_heartbeatSilence ?_ (mask_sub (by decide) hA)
    · exact h_s
theorem kept_execHallPollTimeout {A : Nat} {s0 : State} {s : Sys2Proof.Machine.State} (h_s : Kept A s0 s) (hA : 40960005179511154865880892 ||| A = A) :
    KeptO A s0 (execHallPollTimeout s) := by
  unfold execHallPollTimeout
  refine KeptO.next ?_
  refine kept_hostGo ?_ (mask_sub (by decide) hA)
  · refine kept_hallPollTimeout ?_ (mask_sub (by decide) hA)
    · exact h_s
theorem kept_execStairPacketReceive {A : Nat} {s0 : State} {f : Sys2Proof.FieldId} {h : Option Sys2Proof.Hop} {violation : Bool} {head : BitVec 64} {payload : List (BitVec 64)} {crc : BitVec 16} {resid : BitVec 16} {s : Sys2Proof.Machine.State} (h_s : Kept A s0 s) (hA : 40969450633615784489008956 ||| A = A) :
    KeptO A s0 (execStairPacketReceive f h violation head payload crc resid s) := by
  unfold execStairPacketReceive
  extract_lets -merge -useContext -underBinder x1
  have h1 : Kept A s0 x1 := by
    unfold x1
    refine kept_stairPacketReceive ?_ (mask_sub (by decide) hA)
    · exact h_s
  clear_value x1
  refine KeptO.ite ?_ ?_
  · refine KeptO.next ?_
    exact h1
  · refine KeptO.next ?_
    refine kept_hostGo ?_ (mask_sub (by decide) hA)
    · refine kept_reignsHeard ?_ (mask_sub (by decide) hA)
      · exact h1
theorem kept_execHeartbeatReceive {A : Nat} {s0 : State} {w : Sys2Proof.Bh} {path : Sys2Proof.HbPath} {s : Sys2Proof.Machine.State} (h_s : Kept A s0 s) (hA : 40969450633052834535587644 ||| A = A) :
    KeptO A s0 (execHeartbeatReceive w path s) := by
  unfold execHeartbeatReceive
  refine KeptO.next ?_
  refine kept_hostGo ?_ (mask_sub (by decide) hA)
  · refine kept_heartbeatReceive ?_ (mask_sub (by decide) hA)
    · exact h_s
theorem kept_execOvercurrentRecognised {A : Nat} {s0 : State} {r : Sys2Proof.RegionId} {s : Sys2Proof.Machine.State} (h_s : Kept A s0 s) (hA : 45824642969527244343951356 ||| A = A) :
    KeptO A s0 (execOvercurrentRecognised r s) := by
  unfold execOvercurrentRecognised
  refine KeptO.next ?_
  refine kept_hostGo ?_ (mask_sub (by decide) hA)
  · refine kept_overcurrentRecognised ?_ (mask_sub (by decide) hA)
    · exact h_s
theorem kept_execPgLossRecognised {A : Nat} {s0 : State} {r : Sys2Proof.RegionId} {s : Sys2Proof.Machine.State} (h_s : Kept A s0 s) (hA : 45824642969527931538718716 ||| A = A) :
    KeptO A s0 (execPgLossRecognised r s) := by
  unfold execPgLossRecognised
  refine KeptO.next ?_
  refine kept_hostGo ?_ (mask_sub (by decide) hA)
  · refine kept_pgLossRecognised ?_ (mask_sub (by decide) hA)
    · exact h_s
theorem kept_execHallPollAnswer {A : Nat} {s0 : State} {r : Sys2Proof.RegionId} {noContact : Bool} {s : Sys2Proof.Machine.State} (h_s : Kept A s0 s) (hA : 125613749405967462325239804 ||| A = A) :
    KeptO A s0 (execHallPollAnswer r noContact s) := by
  unfold execHallPollAnswer
  refine KeptO.next ?_
  refine kept_hostGo ?_ (mask_sub (by decide) hA)
  · refine kept_hallPollAnswer ?_ (mask_sub (by decide) hA)
    · exact h_s
theorem kept_execReignStepDown {A : Nat} {s0 : State} {w : Sys2Proof.Bh} {reign : BitVec 7} {s : Sys2Proof.Machine.State} (h_s : Kept A s0 s) (hA : 40969450633052834535587644 ||| A = A) :
    KeptO A s0 (execReignStepDown w reign s) := by
  unfold execReignStepDown
  refine KeptO.next ?_
  refine kept_hostGo ?_ (mask_sub (by decide) hA)
  · refine kept_reignStepDown ?_ (mask_sub (by decide) hA)
    · exact h_s
theorem kept_tick {A : Nat} {s0 : State} {s : Sys2Proof.Machine.State} (h_s : Kept A s0 s) (hA : 2 ||| A = A) :
    Kept A s0 (State.tick s) := by
  unfold State.tick
  refine Kept.u_wall ?_ (mask_sub (by decide) hA)
  exact h_s
end Sys2Proof.Machine
end

