-- ==== Sys2Proof/Laws/Sha.lean ====
section
/-! SUPPORT. A SHA-384 digest has 384 bits, so every digest a firmware check expects is one that a command can carry. -/
namespace Sys2Proof
open Sys2Proof.Machine

theorem sha384Block_lt (h : List Nat) (blk : List Byte) : ∀ x ∈ sha384Block h blk, x < 2 ^ 64 := by
  intro x hx
  unfold sha384Block at hx
  obtain ⟨p, -, rfl⟩ := List.mem_map.mp hx
  exact Nat.mod_lt _ (by decide)

theorem sha384Blocks_lt (n : Nat) (h : List Nat) (bs : List Byte) (hh : ∀ x ∈ h, x < 2 ^ 64) :
    ∀ x ∈ sha384Blocks n h bs, x < 2 ^ 64 := by
  induction n generalizing h bs with
  | zero => exact hh
  | succ n ih => exact ih _ _ (sha384Block_lt _ _)

theorem words_lt (l : List Nat) (hl : ∀ x ∈ l, x < 2 ^ 64) (a k : Nat) (ha : a < 2 ^ (64 * k)) :
    l.foldl (fun a x => a * 2 ^ 64 + x) a < 2 ^ (64 * (k + l.length)) := by
  induction l generalizing a k with
  | nil => simpa using ha
  | cons x l ih =>
    have hx := hl x (by simp)
    have := ih (fun y hy => hl y (by simp [hy])) (a * 2 ^ 64 + x) (k + 1) (by
      have : 2 ^ (64 * (k + 1)) = 2 ^ (64 * k) * 2 ^ 64 := by rw [Nat.mul_add, Nat.mul_one, Nat.pow_add]
      rw [this]
      calc a * 2 ^ 64 + x < a * 2 ^ 64 + 2 ^ 64 := by omega
        _ = (a + 1) * 2 ^ 64 := by rw [Nat.add_mul, Nat.one_mul]
        _ ≤ 2 ^ (64 * k) * 2 ^ 64 := Nat.mul_le_mul_right _ ha)
    simpa [Nat.add_assoc, Nat.add_comm 1] using this

/-- A digest is a number of 384 bits; the exponent is a variable, so that no tactic evaluates the power. -/
theorem sha384_lt_of (n : Nat) (hn : 64 * 6 ≤ n) (m : List Byte) : sha384 m < 2 ^ n := by
  have h := words_lt ((sha384Blocks ((sha384Pad m).length / 128) sha384H (sha384Pad m)).take 6)
    (fun x hx => sha384Blocks_lt _ _ _ (by decide) x (List.mem_of_mem_take hx)) 0 0 (by decide)
  refine Nat.lt_of_lt_of_le h (Nat.pow_le_pow_right Nat.two_pos (Nat.le_trans (Nat.mul_le_mul_left 64 ?_) hn))
  rw [Nat.zero_add]
  exact List.length_take_le 6 _

/-- So is the digest of a bundle's component. -/
theorem entrySha_lt_of (n : Nat) (hn : 64 * 6 ≤ n) (b : List Byte) (o : Option (Nat × Nat × Nat)) : entrySha b o < 2 ^ n := by
  cases o with
  | none => exact Nat.two_pow_pos n
  | some e => exact sha384_lt_of n hn _

theorem sha384_lt (m : List Byte) : sha384 m < 2 ^ 384 := sha384_lt_of 384 (Nat.le_refl 384) m

/-- So is the digest that a slot holds for a processor's component. -/
theorem slotComp_lt (s : State) (slot kind : Nat) : s.slotComp slot kind < 2 ^ 384 := by
  rw [State.slotComp]
  exact entrySha_lt_of 384 (Nat.le_refl 384) _ _

/-- And the digest of a GRIST package. -/
theorem gristSha_lt (s : State) (slot : Nat) : s.gristSha slot < 2 ^ 384 := by
  rw [State.gristSha]
  exact sha384_lt _

end Sys2Proof
end

