-- ==== Sys2Proof/Laws/State.lean ====
section
/-! SUPPORT. One lemma for every field and every named update: what the update leaves is as it was, what it changes is read
back. The named operations first, then the changes of one entry of a table. -/
namespace Sys2Proof.Machine
open Sys2Proof
variable (s : State)

/-! What `wr` leaves. -/
@[simp] theorem wr_pending (u : Nat) (G : Fld) (v i : Nat) : (s.wr u G v i).pending = s.pending := rfl
@[simp] theorem wr_wall (u : Nat) (G : Fld) (v i : Nat) : (s.wr u G v i).wall = s.wall := rfl
@[simp] theorem wr_fresh (u : Nat) (G : Fld) (v i : Nat) : (s.wr u G v i).fresh = s.fresh := rfl
@[simp] theorem wr_ecnt (u : Nat) (G : Fld) (v i : Nat) : (s.wr u G v i).ecnt = s.ecnt := rfl
@[simp] theorem wr_rcnt (u : Nat) (G : Fld) (v i : Nat) : (s.wr u G v i).rcnt = s.rcnt := rfl
@[simp] theorem wr_fill (u : Nat) (G : Fld) (v i : Nat) : (s.wr u G v i).fill = s.fill := rfl
@[simp] theorem wr_shown (u : Nat) (G : Fld) (v i : Nat) : (s.wr u G v i).shown = s.shown := rfl
@[simp] theorem wr_units (u : Nat) (G : Fld) (v i : Nat) : (s.wr u G v i).units = s.units := rfl
@[simp] theorem wr_transit (u : Nat) (G : Fld) (v i : Nat) : (s.wr u G v i).transit = s.transit := rfl
@[simp] theorem wr_marks (u : Nat) (G : Fld) (v i : Nat) : (s.wr u G v i).marks = s.marks := rfl
@[simp] theorem wr_sent (u : Nat) (G : Fld) (v i : Nat) : (s.wr u G v i).sent = s.sent := rfl
@[simp] theorem wr_routers (u : Nat) (G : Fld) (v i : Nat) : (s.wr u G v i).routers = s.routers := rfl
@[simp] theorem wr_hops (u : Nat) (G : Fld) (v i : Nat) : (s.wr u G v i).hops = s.hops := rfl
@[simp] theorem wr_tablesDue (u : Nat) (G : Fld) (v i : Nat) : (s.wr u G v i).tablesDue = s.tablesDue := rfl
@[simp] theorem wr_cutoff (u : Nat) (G : Fld) (v i : Nat) : (s.wr u G v i).cutoff = s.cutoff := rfl
@[simp] theorem wr_delays (u : Nat) (G : Fld) (v i : Nat) : (s.wr u G v i).delays = s.delays := rfl
@[simp] theorem wr_clocks (u : Nat) (G : Fld) (v i : Nat) : (s.wr u G v i).clocks = s.clocks := rfl
@[simp] theorem wr_pair (u : Nat) (G : Fld) (v i : Nat) : (s.wr u G v i).pair = s.pair := rfl
@[simp] theorem wr_gates (u : Nat) (G : Fld) (v i : Nat) : (s.wr u G v i).gates = s.gates := rfl
@[simp] theorem wr_doors (u : Nat) (G : Fld) (v i : Nat) : (s.wr u G v i).doors = s.doors := rfl
@[simp] theorem wr_streams (u : Nat) (G : Fld) (v i : Nat) : (s.wr u G v i).streams = s.streams := rfl
@[simp] theorem wr_wins (u : Nat) (G : Fld) (v i : Nat) : (s.wr u G v i).wins = s.wins := rfl
@[simp] theorem wr_winAlive (u : Nat) (G : Fld) (v i : Nat) : (s.wr u G v i).winAlive = s.winAlive := rfl
@[simp] theorem wr_scans (u : Nat) (G : Fld) (v i : Nat) : (s.wr u G v i).scans = s.scans := rfl
@[simp] theorem wr_taps (u : Nat) (G : Fld) (v i : Nat) : (s.wr u G v i).taps = s.taps := rfl
@[simp] theorem wr_cores (u : Nat) (G : Fld) (v i : Nat) : (s.wr u G v i).cores = s.cores := rfl
@[simp] theorem wr_ports (u : Nat) (G : Fld) (v i : Nat) : (s.wr u G v i).ports = s.ports := rfl
@[simp] theorem wr_adj (u : Nat) (G : Fld) (v i : Nat) : (s.wr u G v i).adj = s.adj := rfl
@[simp] theorem wr_rpl (u : Nat) (G : Fld) (v i : Nat) : (s.wr u G v i).rpl = s.rpl := rfl
@[simp] theorem wr_steps (u : Nat) (G : Fld) (v i : Nat) : (s.wr u G v i).steps = s.steps := rfl
@[simp] theorem wr_verdicts (u : Nat) (G : Fld) (v i : Nat) : (s.wr u G v i).verdicts = s.verdicts := rfl
@[simp] theorem wr_replays (u : Nat) (G : Fld) (v i : Nat) : (s.wr u G v i).replays = s.replays := rfl
@[simp] theorem wr_setsOpened (u : Nat) (G : Fld) (v i : Nat) : (s.wr u G v i).setsOpened = s.setsOpened := rfl
@[simp] theorem wr_ctxs (u : Nat) (G : Fld) (v i : Nat) : (s.wr u G v i).ctxs = s.ctxs := rfl
@[simp] theorem wr_hist (u : Nat) (G : Fld) (v i : Nat) : (s.wr u G v i).hist = s.hist := rfl
@[simp] theorem wr_histStaged (u : Nat) (G : Fld) (v i : Nat) : (s.wr u G v i).histStaged = s.histStaged := rfl
@[simp] theorem wr_histLatch (u : Nat) (G : Fld) (v i : Nat) : (s.wr u G v i).histLatch = s.histLatch := rfl
@[simp] theorem wr_drainSince (u : Nat) (G : Fld) (v i : Nat) : (s.wr u G v i).drainSince = s.drainSince := rfl
@[simp] theorem wr_halls (u : Nat) (G : Fld) (v i : Nat) : (s.wr u G v i).halls = s.halls := rfl
@[simp] theorem wr_resets (u : Nat) (G : Fld) (v i : Nat) : (s.wr u G v i).resets = s.resets := rfl
@[simp] theorem wr_hangs (u : Nat) (G : Fld) (v i : Nat) : (s.wr u G v i).hangs = s.hangs := rfl
@[simp] theorem wr_cut (u : Nat) (G : Fld) (v i : Nat) : (s.wr u G v i).cut = s.cut := rfl
@[simp] theorem wr_cutNo (u : Nat) (G : Fld) (v i : Nat) : (s.wr u G v i).cutNo = s.cutNo := rfl
@[simp] theorem wr_cutDue (u : Nat) (G : Fld) (v i : Nat) : (s.wr u G v i).cutDue = s.cutDue := rfl
@[simp] theorem wr_cutUnits (u : Nat) (G : Fld) (v i : Nat) : (s.wr u G v i).cutUnits = s.cutUnits := rfl
@[simp] theorem wr_chans (u : Nat) (G : Fld) (v i : Nat) : (s.wr u G v i).chans = s.chans := rfl
@[simp] theorem wr_stop (u : Nat) (G : Fld) (v i : Nat) : (s.wr u G v i).stop = s.stop := rfl
@[simp] theorem wr_voids (u : Nat) (G : Fld) (v i : Nat) : (s.wr u G v i).voids = s.voids := rfl
@[simp] theorem wr_bins (u : Nat) (G : Fld) (v i : Nat) : (s.wr u G v i).bins = s.bins := rfl
@[simp] theorem wr_bank (u : Nat) (G : Fld) (v i : Nat) : (s.wr u G v i).bank = s.bank := rfl
@[simp] theorem wr_segs (u : Nat) (G : Fld) (v i : Nat) : (s.wr u G v i).segs = s.segs := rfl
@[simp] theorem wr_attic (u : Nat) (G : Fld) (v i : Nat) : (s.wr u G v i).attic = s.attic := rfl
@[simp] theorem wr_mem (u : Nat) (G : Fld) (v i : Nat) : (s.wr u G v i).mem = s.mem := rfl
@[simp] theorem wr_variant (u : Nat) (G : Fld) (v i : Nat) : (s.wr u G v i).variant = s.variant := rfl
@[simp] theorem wr_mbx (u : Nat) (G : Fld) (v i : Nat) : (s.wr u G v i).mbx = s.mbx := rfl
@[simp] theorem wr_twk (u : Nat) (G : Fld) (v i : Nat) : (s.wr u G v i).twk = s.twk := rfl
@[simp] theorem wr_mgt (u : Nat) (G : Fld) (v i : Nat) : (s.wr u G v i).mgt = s.mgt := rfl
@[simp] theorem wr_dbg (u : Nat) (G : Fld) (v i : Nat) : (s.wr u G v i).dbg = s.dbg := rfl
@[simp] theorem wr_cels (u : Nat) (G : Fld) (v i : Nat) : (s.wr u G v i).cels = s.cels := rfl
@[simp] theorem wr_reloads (u : Nat) (G : Fld) (v i : Nat) : (s.wr u G v i).reloads = s.reloads := rfl
@[simp] theorem wr_chanMap (u : Nat) (G : Fld) (v i : Nat) : (s.wr u G v i).chanMap = s.chanMap := rfl
@[simp] theorem wr_descCopy (u : Nat) (G : Fld) (v i : Nat) : (s.wr u G v i).descCopy = s.descCopy := rfl
@[simp] theorem wr_seeds (u : Nat) (G : Fld) (v i : Nat) : (s.wr u G v i).seeds = s.seeds := rfl
@[simp] theorem wr_idleKills (u : Nat) (G : Fld) (v i : Nat) : (s.wr u G v i).idleKills = s.idleKills := rfl
@[simp] theorem wr_prv (u : Nat) (G : Fld) (v i : Nat) : (s.wr u G v i).prv = s.prv := rfl
@[simp] theorem wr_pairs (u : Nat) (G : Fld) (v i : Nat) : (s.wr u G v i).pairs = s.pairs := rfl
@[simp] theorem wr_steepFirst (u : Nat) (G : Fld) (v i : Nat) : (s.wr u G v i).steepFirst = s.steepFirst := rfl
@[simp] theorem wr_stp (u : Nat) (G : Fld) (v i : Nat) : (s.wr u G v i).stp = s.stp := rfl
@[simp] theorem wr_engs (u : Nat) (G : Fld) (v i : Nat) : (s.wr u G v i).engs = s.engs := rfl
@[simp] theorem wr_plan (u : Nat) (G : Fld) (v i : Nat) : (s.wr u G v i).plan = s.plan := rfl
@[simp] theorem wr_grist (u : Nat) (G : Fld) (v i : Nat) : (s.wr u G v i).grist = s.grist := rfl
@[simp] theorem wr_ana (u : Nat) (G : Fld) (v i : Nat) : (s.wr u G v i).ana = s.ana := rfl
@[simp] theorem wr_dl (u : Nat) (G : Fld) (v i : Nat) : (s.wr u G v i).dl = s.dl := rfl
@[simp] theorem wr_fw (u : Nat) (G : Fld) (v i : Nat) : (s.wr u G v i).fw = s.fw := rfl
@[simp] theorem wr_sens (u : Nat) (G : Fld) (v i : Nat) : (s.wr u G v i).sens = s.sens := rfl
@[simp] theorem wr_thm (u : Nat) (G : Fld) (v i : Nat) : (s.wr u G v i).thm = s.thm := rfl
@[simp] theorem wr_emerg (u : Nat) (G : Fld) (v i : Nat) : (s.wr u G v i).emerg = s.emerg := rfl
@[simp] theorem wr_pad (u : Nat) (G : Fld) (v i : Nat) : (s.wr u G v i).pad = s.pad := rfl
@[simp] theorem wr_resetsDue (u : Nat) (G : Fld) (v i : Nat) : (s.wr u G v i).resetsDue = s.resetsDue := rfl
@[simp] theorem wr_latch (u : Nat) (G : Fld) (v i : Nat) : (s.wr u G v i).latch = s.latch := rfl
@[simp] theorem wr_tree (u : Nat) (G : Fld) (v i : Nat) : (s.wr u G v i).tree = s.tree := rfl
@[simp] theorem wr_refLost (u : Nat) (G : Fld) (v i : Nat) : (s.wr u G v i).refLost = s.refLost := rfl
@[simp] theorem wr_histFlash (u : Nat) (G : Fld) (v i : Nat) : (s.wr u G v i).histFlash = s.histFlash := rfl
@[simp] theorem wr_tickAt (u : Nat) (G : Fld) (v i : Nat) : (s.wr u G v i).tickAt = s.tickAt := rfl
@[simp] theorem wr_passSeen (u : Nat) (G : Fld) (v i : Nat) : (s.wr u G v i).passSeen = s.passSeen := rfl

/-! What `flag` leaves. -/
@[simp] theorem flag_pending (u : Nat) (G : Fld) (v : Bool) (i : Nat) : (s.flag u G v i).pending = s.pending := rfl
@[simp] theorem flag_wall (u : Nat) (G : Fld) (v : Bool) (i : Nat) : (s.flag u G v i).wall = s.wall := rfl
@[simp] theorem flag_fresh (u : Nat) (G : Fld) (v : Bool) (i : Nat) : (s.flag u G v i).fresh = s.fresh := rfl
@[simp] theorem flag_ecnt (u : Nat) (G : Fld) (v : Bool) (i : Nat) : (s.flag u G v i).ecnt = s.ecnt := rfl
@[simp] theorem flag_rcnt (u : Nat) (G : Fld) (v : Bool) (i : Nat) : (s.flag u G v i).rcnt = s.rcnt := rfl
@[simp] theorem flag_fill (u : Nat) (G : Fld) (v : Bool) (i : Nat) : (s.flag u G v i).fill = s.fill := rfl
@[simp] theorem flag_shown (u : Nat) (G : Fld) (v : Bool) (i : Nat) : (s.flag u G v i).shown = s.shown := rfl
@[simp] theorem flag_units (u : Nat) (G : Fld) (v : Bool) (i : Nat) : (s.flag u G v i).units = s.units := rfl
@[simp] theorem flag_transit (u : Nat) (G : Fld) (v : Bool) (i : Nat) : (s.flag u G v i).transit = s.transit := rfl
@[simp] theorem flag_marks (u : Nat) (G : Fld) (v : Bool) (i : Nat) : (s.flag u G v i).marks = s.marks := rfl
@[simp] theorem flag_sent (u : Nat) (G : Fld) (v : Bool) (i : Nat) : (s.flag u G v i).sent = s.sent := rfl
@[simp] theorem flag_routers (u : Nat) (G : Fld) (v : Bool) (i : Nat) : (s.flag u G v i).routers = s.routers := rfl
@[simp] theorem flag_hops (u : Nat) (G : Fld) (v : Bool) (i : Nat) : (s.flag u G v i).hops = s.hops := rfl
@[simp] theorem flag_tablesDue (u : Nat) (G : Fld) (v : Bool) (i : Nat) : (s.flag u G v i).tablesDue = s.tablesDue := rfl
@[simp] theorem flag_cutoff (u : Nat) (G : Fld) (v : Bool) (i : Nat) : (s.flag u G v i).cutoff = s.cutoff := rfl
@[simp] theorem flag_delays (u : Nat) (G : Fld) (v : Bool) (i : Nat) : (s.flag u G v i).delays = s.delays := rfl
@[simp] theorem flag_clocks (u : Nat) (G : Fld) (v : Bool) (i : Nat) : (s.flag u G v i).clocks = s.clocks := rfl
@[simp] theorem flag_pair (u : Nat) (G : Fld) (v : Bool) (i : Nat) : (s.flag u G v i).pair = s.pair := rfl
@[simp] theorem flag_gates (u : Nat) (G : Fld) (v : Bool) (i : Nat) : (s.flag u G v i).gates = s.gates := rfl
@[simp] theorem flag_doors (u : Nat) (G : Fld) (v : Bool) (i : Nat) : (s.flag u G v i).doors = s.doors := rfl
@[simp] theorem flag_streams (u : Nat) (G : Fld) (v : Bool) (i : Nat) : (s.flag u G v i).streams = s.streams := rfl
@[simp] theorem flag_wins (u : Nat) (G : Fld) (v : Bool) (i : Nat) : (s.flag u G v i).wins = s.wins := rfl
@[simp] theorem flag_winAlive (u : Nat) (G : Fld) (v : Bool) (i : Nat) : (s.flag u G v i).winAlive = s.winAlive := rfl
@[simp] theorem flag_scans (u : Nat) (G : Fld) (v : Bool) (i : Nat) : (s.flag u G v i).scans = s.scans := rfl
@[simp] theorem flag_taps (u : Nat) (G : Fld) (v : Bool) (i : Nat) : (s.flag u G v i).taps = s.taps := rfl
@[simp] theorem flag_cores (u : Nat) (G : Fld) (v : Bool) (i : Nat) : (s.flag u G v i).cores = s.cores := rfl
@[simp] theorem flag_ports (u : Nat) (G : Fld) (v : Bool) (i : Nat) : (s.flag u G v i).ports = s.ports := rfl
@[simp] theorem flag_adj (u : Nat) (G : Fld) (v : Bool) (i : Nat) : (s.flag u G v i).adj = s.adj := rfl
@[simp] theorem flag_rpl (u : Nat) (G : Fld) (v : Bool) (i : Nat) : (s.flag u G v i).rpl = s.rpl := rfl
@[simp] theorem flag_steps (u : Nat) (G : Fld) (v : Bool) (i : Nat) : (s.flag u G v i).steps = s.steps := rfl
@[simp] theorem flag_verdicts (u : Nat) (G : Fld) (v : Bool) (i : Nat) : (s.flag u G v i).verdicts = s.verdicts := rfl
@[simp] theorem flag_replays (u : Nat) (G : Fld) (v : Bool) (i : Nat) : (s.flag u G v i).replays = s.replays := rfl
@[simp] theorem flag_setsOpened (u : Nat) (G : Fld) (v : Bool) (i : Nat) : (s.flag u G v i).setsOpened = s.setsOpened := rfl
@[simp] theorem flag_ctxs (u : Nat) (G : Fld) (v : Bool) (i : Nat) : (s.flag u G v i).ctxs = s.ctxs := rfl
@[simp] theorem flag_hist (u : Nat) (G : Fld) (v : Bool) (i : Nat) : (s.flag u G v i).hist = s.hist := rfl
@[simp] theorem flag_histStaged (u : Nat) (G : Fld) (v : Bool) (i : Nat) : (s.flag u G v i).histStaged = s.histStaged := rfl
@[simp] theorem flag_histLatch (u : Nat) (G : Fld) (v : Bool) (i : Nat) : (s.flag u G v i).histLatch = s.histLatch := rfl
@[simp] theorem flag_drainSince (u : Nat) (G : Fld) (v : Bool) (i : Nat) : (s.flag u G v i).drainSince = s.drainSince := rfl
@[simp] theorem flag_halls (u : Nat) (G : Fld) (v : Bool) (i : Nat) : (s.flag u G v i).halls = s.halls := rfl
@[simp] theorem flag_resets (u : Nat) (G : Fld) (v : Bool) (i : Nat) : (s.flag u G v i).resets = s.resets := rfl
@[simp] theorem flag_hangs (u : Nat) (G : Fld) (v : Bool) (i : Nat) : (s.flag u G v i).hangs = s.hangs := rfl
@[simp] theorem flag_cut (u : Nat) (G : Fld) (v : Bool) (i : Nat) : (s.flag u G v i).cut = s.cut := rfl
@[simp] theorem flag_cutNo (u : Nat) (G : Fld) (v : Bool) (i : Nat) : (s.flag u G v i).cutNo = s.cutNo := rfl
@[simp] theorem flag_cutDue (u : Nat) (G : Fld) (v : Bool) (i : Nat) : (s.flag u G v i).cutDue = s.cutDue := rfl
@[simp] theorem flag_cutUnits (u : Nat) (G : Fld) (v : Bool) (i : Nat) : (s.flag u G v i).cutUnits = s.cutUnits := rfl
@[simp] theorem flag_chans (u : Nat) (G : Fld) (v : Bool) (i : Nat) : (s.flag u G v i).chans = s.chans := rfl
@[simp] theorem flag_stop (u : Nat) (G : Fld) (v : Bool) (i : Nat) : (s.flag u G v i).stop = s.stop := rfl
@[simp] theorem flag_voids (u : Nat) (G : Fld) (v : Bool) (i : Nat) : (s.flag u G v i).voids = s.voids := rfl
@[simp] theorem flag_bins (u : Nat) (G : Fld) (v : Bool) (i : Nat) : (s.flag u G v i).bins = s.bins := rfl
@[simp] theorem flag_bank (u : Nat) (G : Fld) (v : Bool) (i : Nat) : (s.flag u G v i).bank = s.bank := rfl
@[simp] theorem flag_segs (u : Nat) (G : Fld) (v : Bool) (i : Nat) : (s.flag u G v i).segs = s.segs := rfl
@[simp] theorem flag_attic (u : Nat) (G : Fld) (v : Bool) (i : Nat) : (s.flag u G v i).attic = s.attic := rfl
@[simp] theorem flag_mem (u : Nat) (G : Fld) (v : Bool) (i : Nat) : (s.flag u G v i).mem = s.mem := rfl
@[simp] theorem flag_variant (u : Nat) (G : Fld) (v : Bool) (i : Nat) : (s.flag u G v i).variant = s.variant := rfl
@[simp] theorem flag_mbx (u : Nat) (G : Fld) (v : Bool) (i : Nat) : (s.flag u G v i).mbx = s.mbx := rfl
@[simp] theorem flag_twk (u : Nat) (G : Fld) (v : Bool) (i : Nat) : (s.flag u G v i).twk = s.twk := rfl
@[simp] theorem flag_mgt (u : Nat) (G : Fld) (v : Bool) (i : Nat) : (s.flag u G v i).mgt = s.mgt := rfl
@[simp] theorem flag_dbg (u : Nat) (G : Fld) (v : Bool) (i : Nat) : (s.flag u G v i).dbg = s.dbg := rfl
@[simp] theorem flag_cels (u : Nat) (G : Fld) (v : Bool) (i : Nat) : (s.flag u G v i).cels = s.cels := rfl
@[simp] theorem flag_reloads (u : Nat) (G : Fld) (v : Bool) (i : Nat) : (s.flag u G v i).reloads = s.reloads := rfl
@[simp] theorem flag_chanMap (u : Nat) (G : Fld) (v : Bool) (i : Nat) : (s.flag u G v i).chanMap = s.chanMap := rfl
@[simp] theorem flag_descCopy (u : Nat) (G : Fld) (v : Bool) (i : Nat) : (s.flag u G v i).descCopy = s.descCopy := rfl
@[simp] theorem flag_seeds (u : Nat) (G : Fld) (v : Bool) (i : Nat) : (s.flag u G v i).seeds = s.seeds := rfl
@[simp] theorem flag_idleKills (u : Nat) (G : Fld) (v : Bool) (i : Nat) : (s.flag u G v i).idleKills = s.idleKills := rfl
@[simp] theorem flag_prv (u : Nat) (G : Fld) (v : Bool) (i : Nat) : (s.flag u G v i).prv = s.prv := rfl
@[simp] theorem flag_pairs (u : Nat) (G : Fld) (v : Bool) (i : Nat) : (s.flag u G v i).pairs = s.pairs := rfl
@[simp] theorem flag_steepFirst (u : Nat) (G : Fld) (v : Bool) (i : Nat) : (s.flag u G v i).steepFirst = s.steepFirst := rfl
@[simp] theorem flag_stp (u : Nat) (G : Fld) (v : Bool) (i : Nat) : (s.flag u G v i).stp = s.stp := rfl
@[simp] theorem flag_engs (u : Nat) (G : Fld) (v : Bool) (i : Nat) : (s.flag u G v i).engs = s.engs := rfl
@[simp] theorem flag_plan (u : Nat) (G : Fld) (v : Bool) (i : Nat) : (s.flag u G v i).plan = s.plan := rfl
@[simp] theorem flag_grist (u : Nat) (G : Fld) (v : Bool) (i : Nat) : (s.flag u G v i).grist = s.grist := rfl
@[simp] theorem flag_ana (u : Nat) (G : Fld) (v : Bool) (i : Nat) : (s.flag u G v i).ana = s.ana := rfl
@[simp] theorem flag_dl (u : Nat) (G : Fld) (v : Bool) (i : Nat) : (s.flag u G v i).dl = s.dl := rfl
@[simp] theorem flag_fw (u : Nat) (G : Fld) (v : Bool) (i : Nat) : (s.flag u G v i).fw = s.fw := rfl
@[simp] theorem flag_sens (u : Nat) (G : Fld) (v : Bool) (i : Nat) : (s.flag u G v i).sens = s.sens := rfl
@[simp] theorem flag_thm (u : Nat) (G : Fld) (v : Bool) (i : Nat) : (s.flag u G v i).thm = s.thm := rfl
@[simp] theorem flag_emerg (u : Nat) (G : Fld) (v : Bool) (i : Nat) : (s.flag u G v i).emerg = s.emerg := rfl
@[simp] theorem flag_pad (u : Nat) (G : Fld) (v : Bool) (i : Nat) : (s.flag u G v i).pad = s.pad := rfl
@[simp] theorem flag_resetsDue (u : Nat) (G : Fld) (v : Bool) (i : Nat) : (s.flag u G v i).resetsDue = s.resetsDue := rfl
@[simp] theorem flag_latch (u : Nat) (G : Fld) (v : Bool) (i : Nat) : (s.flag u G v i).latch = s.latch := rfl
@[simp] theorem flag_tree (u : Nat) (G : Fld) (v : Bool) (i : Nat) : (s.flag u G v i).tree = s.tree := rfl
@[simp] theorem flag_refLost (u : Nat) (G : Fld) (v : Bool) (i : Nat) : (s.flag u G v i).refLost = s.refLost := rfl
@[simp] theorem flag_histFlash (u : Nat) (G : Fld) (v : Bool) (i : Nat) : (s.flag u G v i).histFlash = s.histFlash := rfl
@[simp] theorem flag_tickAt (u : Nat) (G : Fld) (v : Bool) (i : Nat) : (s.flag u G v i).tickAt = s.tickAt := rfl
@[simp] theorem flag_passSeen (u : Nat) (G : Fld) (v : Bool) (i : Nat) : (s.flag u G v i).passSeen = s.passSeen := rfl

/-! What `bump` leaves. -/
@[simp] theorem bump_pending (u : Nat) (G : Fld) (n i : Nat) : (s.bump u G n i).pending = s.pending := rfl
@[simp] theorem bump_wall (u : Nat) (G : Fld) (n i : Nat) : (s.bump u G n i).wall = s.wall := rfl
@[simp] theorem bump_fresh (u : Nat) (G : Fld) (n i : Nat) : (s.bump u G n i).fresh = s.fresh := rfl
@[simp] theorem bump_ecnt (u : Nat) (G : Fld) (n i : Nat) : (s.bump u G n i).ecnt = s.ecnt := rfl
@[simp] theorem bump_rcnt (u : Nat) (G : Fld) (n i : Nat) : (s.bump u G n i).rcnt = s.rcnt := rfl
@[simp] theorem bump_fill (u : Nat) (G : Fld) (n i : Nat) : (s.bump u G n i).fill = s.fill := rfl
@[simp] theorem bump_shown (u : Nat) (G : Fld) (n i : Nat) : (s.bump u G n i).shown = s.shown := rfl
@[simp] theorem bump_units (u : Nat) (G : Fld) (n i : Nat) : (s.bump u G n i).units = s.units := rfl
@[simp] theorem bump_transit (u : Nat) (G : Fld) (n i : Nat) : (s.bump u G n i).transit = s.transit := rfl
@[simp] theorem bump_marks (u : Nat) (G : Fld) (n i : Nat) : (s.bump u G n i).marks = s.marks := rfl
@[simp] theorem bump_sent (u : Nat) (G : Fld) (n i : Nat) : (s.bump u G n i).sent = s.sent := rfl
@[simp] theorem bump_routers (u : Nat) (G : Fld) (n i : Nat) : (s.bump u G n i).routers = s.routers := rfl
@[simp] theorem bump_hops (u : Nat) (G : Fld) (n i : Nat) : (s.bump u G n i).hops = s.hops := rfl
@[simp] theorem bump_tablesDue (u : Nat) (G : Fld) (n i : Nat) : (s.bump u G n i).tablesDue = s.tablesDue := rfl
@[simp] theorem bump_cutoff (u : Nat) (G : Fld) (n i : Nat) : (s.bump u G n i).cutoff = s.cutoff := rfl
@[simp] theorem bump_delays (u : Nat) (G : Fld) (n i : Nat) : (s.bump u G n i).delays = s.delays := rfl
@[simp] theorem bump_clocks (u : Nat) (G : Fld) (n i : Nat) : (s.bump u G n i).clocks = s.clocks := rfl
@[simp] theorem bump_pair (u : Nat) (G : Fld) (n i : Nat) : (s.bump u G n i).pair = s.pair := rfl
@[simp] theorem bump_gates (u : Nat) (G : Fld) (n i : Nat) : (s.bump u G n i).gates = s.gates := rfl
@[simp] theorem bump_doors (u : Nat) (G : Fld) (n i : Nat) : (s.bump u G n i).doors = s.doors := rfl
@[simp] theorem bump_streams (u : Nat) (G : Fld) (n i : Nat) : (s.bump u G n i).streams = s.streams := rfl
@[simp] theorem bump_wins (u : Nat) (G : Fld) (n i : Nat) : (s.bump u G n i).wins = s.wins := rfl
@[simp] theorem bump_winAlive (u : Nat) (G : Fld) (n i : Nat) : (s.bump u G n i).winAlive = s.winAlive := rfl
@[simp] theorem bump_scans (u : Nat) (G : Fld) (n i : Nat) : (s.bump u G n i).scans = s.scans := rfl
@[simp] theorem bump_taps (u : Nat) (G : Fld) (n i : Nat) : (s.bump u G n i).taps = s.taps := rfl
@[simp] theorem bump_cores (u : Nat) (G : Fld) (n i : Nat) : (s.bump u G n i).cores = s.cores := rfl
@[simp] theorem bump_ports (u : Nat) (G : Fld) (n i : Nat) : (s.bump u G n i).ports = s.ports := rfl
@[simp] theorem bump_adj (u : Nat) (G : Fld) (n i : Nat) : (s.bump u G n i).adj = s.adj := rfl
@[simp] theorem bump_rpl (u : Nat) (G : Fld) (n i : Nat) : (s.bump u G n i).rpl = s.rpl := rfl
@[simp] theorem bump_steps (u : Nat) (G : Fld) (n i : Nat) : (s.bump u G n i).steps = s.steps := rfl
@[simp] theorem bump_verdicts (u : Nat) (G : Fld) (n i : Nat) : (s.bump u G n i).verdicts = s.verdicts := rfl
@[simp] theorem bump_replays (u : Nat) (G : Fld) (n i : Nat) : (s.bump u G n i).replays = s.replays := rfl
@[simp] theorem bump_setsOpened (u : Nat) (G : Fld) (n i : Nat) : (s.bump u G n i).setsOpened = s.setsOpened := rfl
@[simp] theorem bump_ctxs (u : Nat) (G : Fld) (n i : Nat) : (s.bump u G n i).ctxs = s.ctxs := rfl
@[simp] theorem bump_hist (u : Nat) (G : Fld) (n i : Nat) : (s.bump u G n i).hist = s.hist := rfl
@[simp] theorem bump_histStaged (u : Nat) (G : Fld) (n i : Nat) : (s.bump u G n i).histStaged = s.histStaged := rfl
@[simp] theorem bump_histLatch (u : Nat) (G : Fld) (n i : Nat) : (s.bump u G n i).histLatch = s.histLatch := rfl
@[simp] theorem bump_drainSince (u : Nat) (G : Fld) (n i : Nat) : (s.bump u G n i).drainSince = s.drainSince := rfl
@[simp] theorem bump_halls (u : Nat) (G : Fld) (n i : Nat) : (s.bump u G n i).halls = s.halls := rfl
@[simp] theorem bump_resets (u : Nat) (G : Fld) (n i : Nat) : (s.bump u G n i).resets = s.resets := rfl
@[simp] theorem bump_hangs (u : Nat) (G : Fld) (n i : Nat) : (s.bump u G n i).hangs = s.hangs := rfl
@[simp] theorem bump_cut (u : Nat) (G : Fld) (n i : Nat) : (s.bump u G n i).cut = s.cut := rfl
@[simp] theorem bump_cutNo (u : Nat) (G : Fld) (n i : Nat) : (s.bump u G n i).cutNo = s.cutNo := rfl
@[simp] theorem bump_cutDue (u : Nat) (G : Fld) (n i : Nat) : (s.bump u G n i).cutDue = s.cutDue := rfl
@[simp] theorem bump_cutUnits (u : Nat) (G : Fld) (n i : Nat) : (s.bump u G n i).cutUnits = s.cutUnits := rfl
@[simp] theorem bump_chans (u : Nat) (G : Fld) (n i : Nat) : (s.bump u G n i).chans = s.chans := rfl
@[simp] theorem bump_stop (u : Nat) (G : Fld) (n i : Nat) : (s.bump u G n i).stop = s.stop := rfl
@[simp] theorem bump_voids (u : Nat) (G : Fld) (n i : Nat) : (s.bump u G n i).voids = s.voids := rfl
@[simp] theorem bump_bins (u : Nat) (G : Fld) (n i : Nat) : (s.bump u G n i).bins = s.bins := rfl
@[simp] theorem bump_bank (u : Nat) (G : Fld) (n i : Nat) : (s.bump u G n i).bank = s.bank := rfl
@[simp] theorem bump_segs (u : Nat) (G : Fld) (n i : Nat) : (s.bump u G n i).segs = s.segs := rfl
@[simp] theorem bump_attic (u : Nat) (G : Fld) (n i : Nat) : (s.bump u G n i).attic = s.attic := rfl
@[simp] theorem bump_mem (u : Nat) (G : Fld) (n i : Nat) : (s.bump u G n i).mem = s.mem := rfl
@[simp] theorem bump_variant (u : Nat) (G : Fld) (n i : Nat) : (s.bump u G n i).variant = s.variant := rfl
@[simp] theorem bump_mbx (u : Nat) (G : Fld) (n i : Nat) : (s.bump u G n i).mbx = s.mbx := rfl
@[simp] theorem bump_twk (u : Nat) (G : Fld) (n i : Nat) : (s.bump u G n i).twk = s.twk := rfl
@[simp] theorem bump_mgt (u : Nat) (G : Fld) (n i : Nat) : (s.bump u G n i).mgt = s.mgt := rfl
@[simp] theorem bump_dbg (u : Nat) (G : Fld) (n i : Nat) : (s.bump u G n i).dbg = s.dbg := rfl
@[simp] theorem bump_cels (u : Nat) (G : Fld) (n i : Nat) : (s.bump u G n i).cels = s.cels := rfl
@[simp] theorem bump_reloads (u : Nat) (G : Fld) (n i : Nat) : (s.bump u G n i).reloads = s.reloads := rfl
@[simp] theorem bump_chanMap (u : Nat) (G : Fld) (n i : Nat) : (s.bump u G n i).chanMap = s.chanMap := rfl
@[simp] theorem bump_descCopy (u : Nat) (G : Fld) (n i : Nat) : (s.bump u G n i).descCopy = s.descCopy := rfl
@[simp] theorem bump_seeds (u : Nat) (G : Fld) (n i : Nat) : (s.bump u G n i).seeds = s.seeds := rfl
@[simp] theorem bump_idleKills (u : Nat) (G : Fld) (n i : Nat) : (s.bump u G n i).idleKills = s.idleKills := rfl
@[simp] theorem bump_prv (u : Nat) (G : Fld) (n i : Nat) : (s.bump u G n i).prv = s.prv := rfl
@[simp] theorem bump_pairs (u : Nat) (G : Fld) (n i : Nat) : (s.bump u G n i).pairs = s.pairs := rfl
@[simp] theorem bump_steepFirst (u : Nat) (G : Fld) (n i : Nat) : (s.bump u G n i).steepFirst = s.steepFirst := rfl
@[simp] theorem bump_stp (u : Nat) (G : Fld) (n i : Nat) : (s.bump u G n i).stp = s.stp := rfl
@[simp] theorem bump_engs (u : Nat) (G : Fld) (n i : Nat) : (s.bump u G n i).engs = s.engs := rfl
@[simp] theorem bump_plan (u : Nat) (G : Fld) (n i : Nat) : (s.bump u G n i).plan = s.plan := rfl
@[simp] theorem bump_grist (u : Nat) (G : Fld) (n i : Nat) : (s.bump u G n i).grist = s.grist := rfl
@[simp] theorem bump_ana (u : Nat) (G : Fld) (n i : Nat) : (s.bump u G n i).ana = s.ana := rfl
@[simp] theorem bump_dl (u : Nat) (G : Fld) (n i : Nat) : (s.bump u G n i).dl = s.dl := rfl
@[simp] theorem bump_fw (u : Nat) (G : Fld) (n i : Nat) : (s.bump u G n i).fw = s.fw := rfl
@[simp] theorem bump_sens (u : Nat) (G : Fld) (n i : Nat) : (s.bump u G n i).sens = s.sens := rfl
@[simp] theorem bump_thm (u : Nat) (G : Fld) (n i : Nat) : (s.bump u G n i).thm = s.thm := rfl
@[simp] theorem bump_emerg (u : Nat) (G : Fld) (n i : Nat) : (s.bump u G n i).emerg = s.emerg := rfl
@[simp] theorem bump_pad (u : Nat) (G : Fld) (n i : Nat) : (s.bump u G n i).pad = s.pad := rfl
@[simp] theorem bump_resetsDue (u : Nat) (G : Fld) (n i : Nat) : (s.bump u G n i).resetsDue = s.resetsDue := rfl
@[simp] theorem bump_latch (u : Nat) (G : Fld) (n i : Nat) : (s.bump u G n i).latch = s.latch := rfl
@[simp] theorem bump_tree (u : Nat) (G : Fld) (n i : Nat) : (s.bump u G n i).tree = s.tree := rfl
@[simp] theorem bump_refLost (u : Nat) (G : Fld) (n i : Nat) : (s.bump u G n i).refLost = s.refLost := rfl
@[simp] theorem bump_histFlash (u : Nat) (G : Fld) (n i : Nat) : (s.bump u G n i).histFlash = s.histFlash := rfl
@[simp] theorem bump_tickAt (u : Nat) (G : Fld) (n i : Nat) : (s.bump u G n i).tickAt = s.tickAt := rfl
@[simp] theorem bump_passSeen (u : Nat) (G : Fld) (n i : Nat) : (s.bump u G n i).passSeen = s.passSeen := rfl

/-! What `zeroCnt` leaves. -/
@[simp] theorem zeroCnt_pending (u : Nat) (G : Fld) (i : Nat) : (s.zeroCnt u G i).pending = s.pending := rfl
@[simp] theorem zeroCnt_wall (u : Nat) (G : Fld) (i : Nat) : (s.zeroCnt u G i).wall = s.wall := rfl
@[simp] theorem zeroCnt_fresh (u : Nat) (G : Fld) (i : Nat) : (s.zeroCnt u G i).fresh = s.fresh := rfl
@[simp] theorem zeroCnt_regs (u : Nat) (G : Fld) (i : Nat) : (s.zeroCnt u G i).regs = s.regs := rfl
@[simp] theorem zeroCnt_fill (u : Nat) (G : Fld) (i : Nat) : (s.zeroCnt u G i).fill = s.fill := rfl
@[simp] theorem zeroCnt_shown (u : Nat) (G : Fld) (i : Nat) : (s.zeroCnt u G i).shown = s.shown := rfl
@[simp] theorem zeroCnt_units (u : Nat) (G : Fld) (i : Nat) : (s.zeroCnt u G i).units = s.units := rfl
@[simp] theorem zeroCnt_transit (u : Nat) (G : Fld) (i : Nat) : (s.zeroCnt u G i).transit = s.transit := rfl
@[simp] theorem zeroCnt_marks (u : Nat) (G : Fld) (i : Nat) : (s.zeroCnt u G i).marks = s.marks := rfl
@[simp] theorem zeroCnt_sent (u : Nat) (G : Fld) (i : Nat) : (s.zeroCnt u G i).sent = s.sent := rfl
@[simp] theorem zeroCnt_routers (u : Nat) (G : Fld) (i : Nat) : (s.zeroCnt u G i).routers = s.routers := rfl
@[simp] theorem zeroCnt_hops (u : Nat) (G : Fld) (i : Nat) : (s.zeroCnt u G i).hops = s.hops := rfl
@[simp] theorem zeroCnt_tablesDue (u : Nat) (G : Fld) (i : Nat) : (s.zeroCnt u G i).tablesDue = s.tablesDue := rfl
@[simp] theorem zeroCnt_cutoff (u : Nat) (G : Fld) (i : Nat) : (s.zeroCnt u G i).cutoff = s.cutoff := rfl
@[simp] theorem zeroCnt_delays (u : Nat) (G : Fld) (i : Nat) : (s.zeroCnt u G i).delays = s.delays := rfl
@[simp] theorem zeroCnt_clocks (u : Nat) (G : Fld) (i : Nat) : (s.zeroCnt u G i).clocks = s.clocks := rfl
@[simp] theorem zeroCnt_pair (u : Nat) (G : Fld) (i : Nat) : (s.zeroCnt u G i).pair = s.pair := rfl
@[simp] theorem zeroCnt_gates (u : Nat) (G : Fld) (i : Nat) : (s.zeroCnt u G i).gates = s.gates := rfl
@[simp] theorem zeroCnt_doors (u : Nat) (G : Fld) (i : Nat) : (s.zeroCnt u G i).doors = s.doors := rfl
@[simp] theorem zeroCnt_streams (u : Nat) (G : Fld) (i : Nat) : (s.zeroCnt u G i).streams = s.streams := rfl
@[simp] theorem zeroCnt_wins (u : Nat) (G : Fld) (i : Nat) : (s.zeroCnt u G i).wins = s.wins := rfl
@[simp] theorem zeroCnt_winAlive (u : Nat) (G : Fld) (i : Nat) : (s.zeroCnt u G i).winAlive = s.winAlive := rfl
@[simp] theorem zeroCnt_scans (u : Nat) (G : Fld) (i : Nat) : (s.zeroCnt u G i).scans = s.scans := rfl
@[simp] theorem zeroCnt_taps (u : Nat) (G : Fld) (i : Nat) : (s.zeroCnt u G i).taps = s.taps := rfl
@[simp] theorem zeroCnt_cores (u : Nat) (G : Fld) (i : Nat) : (s.zeroCnt u G i).cores = s.cores := rfl
@[simp] theorem zeroCnt_ports (u : Nat) (G : Fld) (i : Nat) : (s.zeroCnt u G i).ports = s.ports := rfl
@[simp] theorem zeroCnt_adj (u : Nat) (G : Fld) (i : Nat) : (s.zeroCnt u G i).adj = s.adj := rfl
@[simp] theorem zeroCnt_rpl (u : Nat) (G : Fld) (i : Nat) : (s.zeroCnt u G i).rpl = s.rpl := rfl
@[simp] theorem zeroCnt_steps (u : Nat) (G : Fld) (i : Nat) : (s.zeroCnt u G i).steps = s.steps := rfl
@[simp] theorem zeroCnt_verdicts (u : Nat) (G : Fld) (i : Nat) : (s.zeroCnt u G i).verdicts = s.verdicts := rfl
@[simp] theorem zeroCnt_replays (u : Nat) (G : Fld) (i : Nat) : (s.zeroCnt u G i).replays = s.replays := rfl
@[simp] theorem zeroCnt_setsOpened (u : Nat) (G : Fld) (i : Nat) : (s.zeroCnt u G i).setsOpened = s.setsOpened := rfl
@[simp] theorem zeroCnt_ctxs (u : Nat) (G : Fld) (i : Nat) : (s.zeroCnt u G i).ctxs = s.ctxs := rfl
@[simp] theorem zeroCnt_hist (u : Nat) (G : Fld) (i : Nat) : (s.zeroCnt u G i).hist = s.hist := rfl
@[simp] theorem zeroCnt_histStaged (u : Nat) (G : Fld) (i : Nat) : (s.zeroCnt u G i).histStaged = s.histStaged := rfl
@[simp] theorem zeroCnt_histLatch (u : Nat) (G : Fld) (i : Nat) : (s.zeroCnt u G i).histLatch = s.histLatch := rfl
@[simp] theorem zeroCnt_drainSince (u : Nat) (G : Fld) (i : Nat) : (s.zeroCnt u G i).drainSince = s.drainSince := rfl
@[simp] theorem zeroCnt_halls (u : Nat) (G : Fld) (i : Nat) : (s.zeroCnt u G i).halls = s.halls := rfl
@[simp] theorem zeroCnt_resets (u : Nat) (G : Fld) (i : Nat) : (s.zeroCnt u G i).resets = s.resets := rfl
@[simp] theorem zeroCnt_hangs (u : Nat) (G : Fld) (i : Nat) : (s.zeroCnt u G i).hangs = s.hangs := rfl
@[simp] theorem zeroCnt_cut (u : Nat) (G : Fld) (i : Nat) : (s.zeroCnt u G i).cut = s.cut := rfl
@[simp] theorem zeroCnt_cutNo (u : Nat) (G : Fld) (i : Nat) : (s.zeroCnt u G i).cutNo = s.cutNo := rfl
@[simp] theorem zeroCnt_cutDue (u : Nat) (G : Fld) (i : Nat) : (s.zeroCnt u G i).cutDue = s.cutDue := rfl
@[simp] theorem zeroCnt_cutUnits (u : Nat) (G : Fld) (i : Nat) : (s.zeroCnt u G i).cutUnits = s.cutUnits := rfl
@[simp] theorem zeroCnt_chans (u : Nat) (G : Fld) (i : Nat) : (s.zeroCnt u G i).chans = s.chans := rfl
@[simp] theorem zeroCnt_stop (u : Nat) (G : Fld) (i : Nat) : (s.zeroCnt u G i).stop = s.stop := rfl
@[simp] theorem zeroCnt_voids (u : Nat) (G : Fld) (i : Nat) : (s.zeroCnt u G i).voids = s.voids := rfl
@[simp] theorem zeroCnt_bins (u : Nat) (G : Fld) (i : Nat) : (s.zeroCnt u G i).bins = s.bins := rfl
@[simp] theorem zeroCnt_bank (u : Nat) (G : Fld) (i : Nat) : (s.zeroCnt u G i).bank = s.bank := rfl
@[simp] theorem zeroCnt_segs (u : Nat) (G : Fld) (i : Nat) : (s.zeroCnt u G i).segs = s.segs := rfl
@[simp] theorem zeroCnt_attic (u : Nat) (G : Fld) (i : Nat) : (s.zeroCnt u G i).attic = s.attic := rfl
@[simp] theorem zeroCnt_mem (u : Nat) (G : Fld) (i : Nat) : (s.zeroCnt u G i).mem = s.mem := rfl
@[simp] theorem zeroCnt_variant (u : Nat) (G : Fld) (i : Nat) : (s.zeroCnt u G i).variant = s.variant := rfl
@[simp] theorem zeroCnt_mbx (u : Nat) (G : Fld) (i : Nat) : (s.zeroCnt u G i).mbx = s.mbx := rfl
@[simp] theorem zeroCnt_twk (u : Nat) (G : Fld) (i : Nat) : (s.zeroCnt u G i).twk = s.twk := rfl
@[simp] theorem zeroCnt_mgt (u : Nat) (G : Fld) (i : Nat) : (s.zeroCnt u G i).mgt = s.mgt := rfl
@[simp] theorem zeroCnt_dbg (u : Nat) (G : Fld) (i : Nat) : (s.zeroCnt u G i).dbg = s.dbg := rfl
@[simp] theorem zeroCnt_cels (u : Nat) (G : Fld) (i : Nat) : (s.zeroCnt u G i).cels = s.cels := rfl
@[simp] theorem zeroCnt_reloads (u : Nat) (G : Fld) (i : Nat) : (s.zeroCnt u G i).reloads = s.reloads := rfl
@[simp] theorem zeroCnt_chanMap (u : Nat) (G : Fld) (i : Nat) : (s.zeroCnt u G i).chanMap = s.chanMap := rfl
@[simp] theorem zeroCnt_descCopy (u : Nat) (G : Fld) (i : Nat) : (s.zeroCnt u G i).descCopy = s.descCopy := rfl
@[simp] theorem zeroCnt_seeds (u : Nat) (G : Fld) (i : Nat) : (s.zeroCnt u G i).seeds = s.seeds := rfl
@[simp] theorem zeroCnt_idleKills (u : Nat) (G : Fld) (i : Nat) : (s.zeroCnt u G i).idleKills = s.idleKills := rfl
@[simp] theorem zeroCnt_prv (u : Nat) (G : Fld) (i : Nat) : (s.zeroCnt u G i).prv = s.prv := rfl
@[simp] theorem zeroCnt_pairs (u : Nat) (G : Fld) (i : Nat) : (s.zeroCnt u G i).pairs = s.pairs := rfl
@[simp] theorem zeroCnt_steepFirst (u : Nat) (G : Fld) (i : Nat) : (s.zeroCnt u G i).steepFirst = s.steepFirst := rfl
@[simp] theorem zeroCnt_stp (u : Nat) (G : Fld) (i : Nat) : (s.zeroCnt u G i).stp = s.stp := rfl
@[simp] theorem zeroCnt_engs (u : Nat) (G : Fld) (i : Nat) : (s.zeroCnt u G i).engs = s.engs := rfl
@[simp] theorem zeroCnt_plan (u : Nat) (G : Fld) (i : Nat) : (s.zeroCnt u G i).plan = s.plan := rfl
@[simp] theorem zeroCnt_grist (u : Nat) (G : Fld) (i : Nat) : (s.zeroCnt u G i).grist = s.grist := rfl
@[simp] theorem zeroCnt_ana (u : Nat) (G : Fld) (i : Nat) : (s.zeroCnt u G i).ana = s.ana := rfl
@[simp] theorem zeroCnt_dl (u : Nat) (G : Fld) (i : Nat) : (s.zeroCnt u G i).dl = s.dl := rfl
@[simp] theorem zeroCnt_fw (u : Nat) (G : Fld) (i : Nat) : (s.zeroCnt u G i).fw = s.fw := rfl
@[simp] theorem zeroCnt_sens (u : Nat) (G : Fld) (i : Nat) : (s.zeroCnt u G i).sens = s.sens := rfl
@[simp] theorem zeroCnt_thm (u : Nat) (G : Fld) (i : Nat) : (s.zeroCnt u G i).thm = s.thm := rfl
@[simp] theorem zeroCnt_emerg (u : Nat) (G : Fld) (i : Nat) : (s.zeroCnt u G i).emerg = s.emerg := rfl
@[simp] theorem zeroCnt_pad (u : Nat) (G : Fld) (i : Nat) : (s.zeroCnt u G i).pad = s.pad := rfl
@[simp] theorem zeroCnt_resetsDue (u : Nat) (G : Fld) (i : Nat) : (s.zeroCnt u G i).resetsDue = s.resetsDue := rfl
@[simp] theorem zeroCnt_latch (u : Nat) (G : Fld) (i : Nat) : (s.zeroCnt u G i).latch = s.latch := rfl
@[simp] theorem zeroCnt_tree (u : Nat) (G : Fld) (i : Nat) : (s.zeroCnt u G i).tree = s.tree := rfl
@[simp] theorem zeroCnt_refLost (u : Nat) (G : Fld) (i : Nat) : (s.zeroCnt u G i).refLost = s.refLost := rfl
@[simp] theorem zeroCnt_histFlash (u : Nat) (G : Fld) (i : Nat) : (s.zeroCnt u G i).histFlash = s.histFlash := rfl
@[simp] theorem zeroCnt_tickAt (u : Nat) (G : Fld) (i : Nat) : (s.zeroCnt u G i).tickAt = s.tickAt := rfl
@[simp] theorem zeroCnt_passSeen (u : Nat) (G : Fld) (i : Nat) : (s.zeroCnt u G i).passSeen = s.passSeen := rfl

/-! What `emit` leaves. -/
@[simp] theorem emit_pending (x : Out) : (s.emit x).pending = s.pending := rfl
@[simp] theorem emit_wall (x : Out) : (s.emit x).wall = s.wall := rfl
@[simp] theorem emit_fresh (x : Out) : (s.emit x).fresh = s.fresh := rfl
@[simp] theorem emit_regs (x : Out) : (s.emit x).regs = s.regs := rfl
@[simp] theorem emit_ecnt (x : Out) : (s.emit x).ecnt = s.ecnt := rfl
@[simp] theorem emit_rcnt (x : Out) : (s.emit x).rcnt = s.rcnt := rfl
@[simp] theorem emit_fill (x : Out) : (s.emit x).fill = s.fill := rfl
@[simp] theorem emit_shown (x : Out) : (s.emit x).shown = s.shown := rfl
@[simp] theorem emit_units (x : Out) : (s.emit x).units = s.units := rfl
@[simp] theorem emit_transit (x : Out) : (s.emit x).transit = s.transit := rfl
@[simp] theorem emit_marks (x : Out) : (s.emit x).marks = s.marks := rfl
@[simp] theorem emit_routers (x : Out) : (s.emit x).routers = s.routers := rfl
@[simp] theorem emit_hops (x : Out) : (s.emit x).hops = s.hops := rfl
@[simp] theorem emit_tablesDue (x : Out) : (s.emit x).tablesDue = s.tablesDue := rfl
@[simp] theorem emit_cutoff (x : Out) : (s.emit x).cutoff = s.cutoff := rfl
@[simp] theorem emit_delays (x : Out) : (s.emit x).delays = s.delays := rfl
@[simp] theorem emit_clocks (x : Out) : (s.emit x).clocks = s.clocks := rfl
@[simp] theorem emit_pair (x : Out) : (s.emit x).pair = s.pair := rfl
@[simp] theorem emit_gates (x : Out) : (s.emit x).gates = s.gates := rfl
@[simp] theorem emit_doors (x : Out) : (s.emit x).doors = s.doors := rfl
@[simp] theorem emit_streams (x : Out) : (s.emit x).streams = s.streams := rfl
@[simp] theorem emit_wins (x : Out) : (s.emit x).wins = s.wins := rfl
@[simp] theorem emit_winAlive (x : Out) : (s.emit x).winAlive = s.winAlive := rfl
@[simp] theorem emit_scans (x : Out) : (s.emit x).scans = s.scans := rfl
@[simp] theorem emit_taps (x : Out) : (s.emit x).taps = s.taps := rfl
@[simp] theorem emit_cores (x : Out) : (s.emit x).cores = s.cores := rfl
@[simp] theorem emit_ports (x : Out) : (s.emit x).ports = s.ports := rfl
@[simp] theorem emit_adj (x : Out) : (s.emit x).adj = s.adj := rfl
@[simp] theorem emit_rpl (x : Out) : (s.emit x).rpl = s.rpl := rfl
@[simp] theorem emit_steps (x : Out) : (s.emit x).steps = s.steps := rfl
@[simp] theorem emit_verdicts (x : Out) : (s.emit x).verdicts = s.verdicts := rfl
@[simp] theorem emit_replays (x : Out) : (s.emit x).replays = s.replays := rfl
@[simp] theorem emit_setsOpened (x : Out) : (s.emit x).setsOpened = s.setsOpened := rfl
@[simp] theorem emit_ctxs (x : Out) : (s.emit x).ctxs = s.ctxs := rfl
@[simp] theorem emit_hist (x : Out) : (s.emit x).hist = s.hist := rfl
@[simp] theorem emit_histStaged (x : Out) : (s.emit x).histStaged = s.histStaged := rfl
@[simp] theorem emit_histLatch (x : Out) : (s.emit x).histLatch = s.histLatch := rfl
@[simp] theorem emit_drainSince (x : Out) : (s.emit x).drainSince = s.drainSince := rfl
@[simp] theorem emit_halls (x : Out) : (s.emit x).halls = s.halls := rfl
@[simp] theorem emit_resets (x : Out) : (s.emit x).resets = s.resets := rfl
@[simp] theorem emit_hangs (x : Out) : (s.emit x).hangs = s.hangs := rfl
@[simp] theorem emit_cut (x : Out) : (s.emit x).cut = s.cut := rfl
@[simp] theorem emit_cutNo (x : Out) : (s.emit x).cutNo = s.cutNo := rfl
@[simp] theorem emit_cutDue (x : Out) : (s.emit x).cutDue = s.cutDue := rfl
@[simp] theorem emit_cutUnits (x : Out) : (s.emit x).cutUnits = s.cutUnits := rfl
@[simp] theorem emit_chans (x : Out) : (s.emit x).chans = s.chans := rfl
@[simp] theorem emit_stop (x : Out) : (s.emit x).stop = s.stop := rfl
@[simp] theorem emit_voids (x : Out) : (s.emit x).voids = s.voids := rfl
@[simp] theorem emit_bins (x : Out) : (s.emit x).bins = s.bins := rfl
@[simp] theorem emit_bank (x : Out) : (s.emit x).bank = s.bank := rfl
@[simp] theorem emit_segs (x : Out) : (s.emit x).segs = s.segs := rfl
@[simp] theorem emit_attic (x : Out) : (s.emit x).attic = s.attic := rfl
@[simp] theorem emit_mem (x : Out) : (s.emit x).mem = s.mem := rfl
@[simp] theorem emit_variant (x : Out) : (s.emit x).variant = s.variant := rfl
@[simp] theorem emit_mbx (x : Out) : (s.emit x).mbx = s.mbx := rfl
@[simp] theorem emit_twk (x : Out) : (s.emit x).twk = s.twk := rfl
@[simp] theorem emit_mgt (x : Out) : (s.emit x).mgt = s.mgt := rfl
@[simp] theorem emit_dbg (x : Out) : (s.emit x).dbg = s.dbg := rfl
@[simp] theorem emit_cels (x : Out) : (s.emit x).cels = s.cels := rfl
@[simp] theorem emit_reloads (x : Out) : (s.emit x).reloads = s.reloads := rfl
@[simp] theorem emit_chanMap (x : Out) : (s.emit x).chanMap = s.chanMap := rfl
@[simp] theorem emit_descCopy (x : Out) : (s.emit x).descCopy = s.descCopy := rfl
@[simp] theorem emit_seeds (x : Out) : (s.emit x).seeds = s.seeds := rfl
@[simp] theorem emit_idleKills (x : Out) : (s.emit x).idleKills = s.idleKills := rfl
@[simp] theorem emit_prv (x : Out) : (s.emit x).prv = s.prv := rfl
@[simp] theorem emit_pairs (x : Out) : (s.emit x).pairs = s.pairs := rfl
@[simp] theorem emit_steepFirst (x : Out) : (s.emit x).steepFirst = s.steepFirst := rfl
@[simp] theorem emit_stp (x : Out) : (s.emit x).stp = s.stp := rfl
@[simp] theorem emit_engs (x : Out) : (s.emit x).engs = s.engs := rfl
@[simp] theorem emit_plan (x : Out) : (s.emit x).plan = s.plan := rfl
@[simp] theorem emit_grist (x : Out) : (s.emit x).grist = s.grist := rfl
@[simp] theorem emit_ana (x : Out) : (s.emit x).ana = s.ana := rfl
@[simp] theorem emit_dl (x : Out) : (s.emit x).dl = s.dl := rfl
@[simp] theorem emit_fw (x : Out) : (s.emit x).fw = s.fw := rfl
@[simp] theorem emit_sens (x : Out) : (s.emit x).sens = s.sens := rfl
@[simp] theorem emit_thm (x : Out) : (s.emit x).thm = s.thm := rfl
@[simp] theorem emit_emerg (x : Out) : (s.emit x).emerg = s.emerg := rfl
@[simp] theorem emit_pad (x : Out) : (s.emit x).pad = s.pad := rfl
@[simp] theorem emit_resetsDue (x : Out) : (s.emit x).resetsDue = s.resetsDue := rfl
@[simp] theorem emit_latch (x : Out) : (s.emit x).latch = s.latch := rfl
@[simp] theorem emit_tree (x : Out) : (s.emit x).tree = s.tree := rfl
@[simp] theorem emit_refLost (x : Out) : (s.emit x).refLost = s.refLost := rfl
@[simp] theorem emit_histFlash (x : Out) : (s.emit x).histFlash = s.histFlash := rfl
@[simp] theorem emit_tickAt (x : Out) : (s.emit x).tickAt = s.tickAt := rfl
@[simp] theorem emit_passSeen (x : Out) : (s.emit x).passSeen = s.passSeen := rfl

/-! What `emits` leaves. -/
@[simp] theorem emits_pending (l : List Out) : (s.emits l).pending = s.pending := rfl
@[simp] theorem emits_wall (l : List Out) : (s.emits l).wall = s.wall := rfl
@[simp] theorem emits_fresh (l : List Out) : (s.emits l).fresh = s.fresh := rfl
@[simp] theorem emits_regs (l : List Out) : (s.emits l).regs = s.regs := rfl
@[simp] theorem emits_ecnt (l : List Out) : (s.emits l).ecnt = s.ecnt := rfl
@[simp] theorem emits_rcnt (l : List Out) : (s.emits l).rcnt = s.rcnt := rfl
@[simp] theorem emits_fill (l : List Out) : (s.emits l).fill = s.fill := rfl
@[simp] theorem emits_shown (l : List Out) : (s.emits l).shown = s.shown := rfl
@[simp] theorem emits_units (l : List Out) : (s.emits l).units = s.units := rfl
@[simp] theorem emits_transit (l : List Out) : (s.emits l).transit = s.transit := rfl
@[simp] theorem emits_marks (l : List Out) : (s.emits l).marks = s.marks := rfl
@[simp] theorem emits_routers (l : List Out) : (s.emits l).routers = s.routers := rfl
@[simp] theorem emits_hops (l : List Out) : (s.emits l).hops = s.hops := rfl
@[simp] theorem emits_tablesDue (l : List Out) : (s.emits l).tablesDue = s.tablesDue := rfl
@[simp] theorem emits_cutoff (l : List Out) : (s.emits l).cutoff = s.cutoff := rfl
@[simp] theorem emits_delays (l : List Out) : (s.emits l).delays = s.delays := rfl
@[simp] theorem emits_clocks (l : List Out) : (s.emits l).clocks = s.clocks := rfl
@[simp] theorem emits_pair (l : List Out) : (s.emits l).pair = s.pair := rfl
@[simp] theorem emits_gates (l : List Out) : (s.emits l).gates = s.gates := rfl
@[simp] theorem emits_doors (l : List Out) : (s.emits l).doors = s.doors := rfl
@[simp] theorem emits_streams (l : List Out) : (s.emits l).streams = s.streams := rfl
@[simp] theorem emits_wins (l : List Out) : (s.emits l).wins = s.wins := rfl
@[simp] theorem emits_winAlive (l : List Out) : (s.emits l).winAlive = s.winAlive := rfl
@[simp] theorem emits_scans (l : List Out) : (s.emits l).scans = s.scans := rfl
@[simp] theorem emits_taps (l : List Out) : (s.emits l).taps = s.taps := rfl
@[simp] theorem emits_cores (l : List Out) : (s.emits l).cores = s.cores := rfl
@[simp] theorem emits_ports (l : List Out) : (s.emits l).ports = s.ports := rfl
@[simp] theorem emits_adj (l : List Out) : (s.emits l).adj = s.adj := rfl
@[simp] theorem emits_rpl (l : List Out) : (s.emits l).rpl = s.rpl := rfl
@[simp] theorem emits_steps (l : List Out) : (s.emits l).steps = s.steps := rfl
@[simp] theorem emits_verdicts (l : List Out) : (s.emits l).verdicts = s.verdicts := rfl
@[simp] theorem emits_replays (l : List Out) : (s.emits l).replays = s.replays := rfl
@[simp] theorem emits_setsOpened (l : List Out) : (s.emits l).setsOpened = s.setsOpened := rfl
@[simp] theorem emits_ctxs (l : List Out) : (s.emits l).ctxs = s.ctxs := rfl
@[simp] theorem emits_hist (l : List Out) : (s.emits l).hist = s.hist := rfl
@[simp] theorem emits_histStaged (l : List Out) : (s.emits l).histStaged = s.histStaged := rfl
@[simp] theorem emits_histLatch (l : List Out) : (s.emits l).histLatch = s.histLatch := rfl
@[simp] theorem emits_drainSince (l : List Out) : (s.emits l).drainSince = s.drainSince := rfl
@[simp] theorem emits_halls (l : List Out) : (s.emits l).halls = s.halls := rfl
@[simp] theorem emits_resets (l : List Out) : (s.emits l).resets = s.resets := rfl
@[simp] theorem emits_hangs (l : List Out) : (s.emits l).hangs = s.hangs := rfl
@[simp] theorem emits_cut (l : List Out) : (s.emits l).cut = s.cut := rfl
@[simp] theorem emits_cutNo (l : List Out) : (s.emits l).cutNo = s.cutNo := rfl
@[simp] theorem emits_cutDue (l : List Out) : (s.emits l).cutDue = s.cutDue := rfl
@[simp] theorem emits_cutUnits (l : List Out) : (s.emits l).cutUnits = s.cutUnits := rfl
@[simp] theorem emits_chans (l : List Out) : (s.emits l).chans = s.chans := rfl
@[simp] theorem emits_stop (l : List Out) : (s.emits l).stop = s.stop := rfl
@[simp] theorem emits_voids (l : List Out) : (s.emits l).voids = s.voids := rfl
@[simp] theorem emits_bins (l : List Out) : (s.emits l).bins = s.bins := rfl
@[simp] theorem emits_bank (l : List Out) : (s.emits l).bank = s.bank := rfl
@[simp] theorem emits_segs (l : List Out) : (s.emits l).segs = s.segs := rfl
@[simp] theorem emits_attic (l : List Out) : (s.emits l).attic = s.attic := rfl
@[simp] theorem emits_mem (l : List Out) : (s.emits l).mem = s.mem := rfl
@[simp] theorem emits_variant (l : List Out) : (s.emits l).variant = s.variant := rfl
@[simp] theorem emits_mbx (l : List Out) : (s.emits l).mbx = s.mbx := rfl
@[simp] theorem emits_twk (l : List Out) : (s.emits l).twk = s.twk := rfl
@[simp] theorem emits_mgt (l : List Out) : (s.emits l).mgt = s.mgt := rfl
@[simp] theorem emits_dbg (l : List Out) : (s.emits l).dbg = s.dbg := rfl
@[simp] theorem emits_cels (l : List Out) : (s.emits l).cels = s.cels := rfl
@[simp] theorem emits_reloads (l : List Out) : (s.emits l).reloads = s.reloads := rfl
@[simp] theorem emits_chanMap (l : List Out) : (s.emits l).chanMap = s.chanMap := rfl
@[simp] theorem emits_descCopy (l : List Out) : (s.emits l).descCopy = s.descCopy := rfl
@[simp] theorem emits_seeds (l : List Out) : (s.emits l).seeds = s.seeds := rfl
@[simp] theorem emits_idleKills (l : List Out) : (s.emits l).idleKills = s.idleKills := rfl
@[simp] theorem emits_prv (l : List Out) : (s.emits l).prv = s.prv := rfl
@[simp] theorem emits_pairs (l : List Out) : (s.emits l).pairs = s.pairs := rfl
@[simp] theorem emits_steepFirst (l : List Out) : (s.emits l).steepFirst = s.steepFirst := rfl
@[simp] theorem emits_stp (l : List Out) : (s.emits l).stp = s.stp := rfl
@[simp] theorem emits_engs (l : List Out) : (s.emits l).engs = s.engs := rfl
@[simp] theorem emits_plan (l : List Out) : (s.emits l).plan = s.plan := rfl
@[simp] theorem emits_grist (l : List Out) : (s.emits l).grist = s.grist := rfl
@[simp] theorem emits_ana (l : List Out) : (s.emits l).ana = s.ana := rfl
@[simp] theorem emits_dl (l : List Out) : (s.emits l).dl = s.dl := rfl
@[simp] theorem emits_fw (l : List Out) : (s.emits l).fw = s.fw := rfl
@[simp] theorem emits_sens (l : List Out) : (s.emits l).sens = s.sens := rfl
@[simp] theorem emits_thm (l : List Out) : (s.emits l).thm = s.thm := rfl
@[simp] theorem emits_emerg (l : List Out) : (s.emits l).emerg = s.emerg := rfl
@[simp] theorem emits_pad (l : List Out) : (s.emits l).pad = s.pad := rfl
@[simp] theorem emits_resetsDue (l : List Out) : (s.emits l).resetsDue = s.resetsDue := rfl
@[simp] theorem emits_latch (l : List Out) : (s.emits l).latch = s.latch := rfl
@[simp] theorem emits_tree (l : List Out) : (s.emits l).tree = s.tree := rfl
@[simp] theorem emits_refLost (l : List Out) : (s.emits l).refLost = s.refLost := rfl
@[simp] theorem emits_histFlash (l : List Out) : (s.emits l).histFlash = s.histFlash := rfl
@[simp] theorem emits_tickAt (l : List Out) : (s.emits l).tickAt = s.tickAt := rfl
@[simp] theorem emits_passSeen (l : List Out) : (s.emits l).passSeen = s.passSeen := rfl

/-! What `evt` leaves. -/
@[simp] theorem evt_pending (u c : Nat) : (s.evt u c).pending = s.pending := rfl
@[simp] theorem evt_wall (u c : Nat) : (s.evt u c).wall = s.wall := rfl
@[simp] theorem evt_fresh (u c : Nat) : (s.evt u c).fresh = s.fresh := rfl
@[simp] theorem evt_rcnt (u c : Nat) : (s.evt u c).rcnt = s.rcnt := rfl
@[simp] theorem evt_fill (u c : Nat) : (s.evt u c).fill = s.fill := rfl
@[simp] theorem evt_shown (u c : Nat) : (s.evt u c).shown = s.shown := rfl
@[simp] theorem evt_units (u c : Nat) : (s.evt u c).units = s.units := rfl
@[simp] theorem evt_transit (u c : Nat) : (s.evt u c).transit = s.transit := rfl
@[simp] theorem evt_marks (u c : Nat) : (s.evt u c).marks = s.marks := rfl
@[simp] theorem evt_sent (u c : Nat) : (s.evt u c).sent = s.sent := rfl
@[simp] theorem evt_routers (u c : Nat) : (s.evt u c).routers = s.routers := rfl
@[simp] theorem evt_hops (u c : Nat) : (s.evt u c).hops = s.hops := rfl
@[simp] theorem evt_tablesDue (u c : Nat) : (s.evt u c).tablesDue = s.tablesDue := rfl
@[simp] theorem evt_cutoff (u c : Nat) : (s.evt u c).cutoff = s.cutoff := rfl
@[simp] theorem evt_delays (u c : Nat) : (s.evt u c).delays = s.delays := rfl
@[simp] theorem evt_clocks (u c : Nat) : (s.evt u c).clocks = s.clocks := rfl
@[simp] theorem evt_pair (u c : Nat) : (s.evt u c).pair = s.pair := rfl
@[simp] theorem evt_gates (u c : Nat) : (s.evt u c).gates = s.gates := rfl
@[simp] theorem evt_doors (u c : Nat) : (s.evt u c).doors = s.doors := rfl
@[simp] theorem evt_streams (u c : Nat) : (s.evt u c).streams = s.streams := rfl
@[simp] theorem evt_wins (u c : Nat) : (s.evt u c).wins = s.wins := rfl
@[simp] theorem evt_winAlive (u c : Nat) : (s.evt u c).winAlive = s.winAlive := rfl
@[simp] theorem evt_scans (u c : Nat) : (s.evt u c).scans = s.scans := rfl
@[simp] theorem evt_taps (u c : Nat) : (s.evt u c).taps = s.taps := rfl
@[simp] theorem evt_cores (u c : Nat) : (s.evt u c).cores = s.cores := rfl
@[simp] theorem evt_ports (u c : Nat) : (s.evt u c).ports = s.ports := rfl
@[simp] theorem evt_adj (u c : Nat) : (s.evt u c).adj = s.adj := rfl
@[simp] theorem evt_rpl (u c : Nat) : (s.evt u c).rpl = s.rpl := rfl
@[simp] theorem evt_steps (u c : Nat) : (s.evt u c).steps = s.steps := rfl
@[simp] theorem evt_verdicts (u c : Nat) : (s.evt u c).verdicts = s.verdicts := rfl
@[simp] theorem evt_replays (u c : Nat) : (s.evt u c).replays = s.replays := rfl
@[simp] theorem evt_setsOpened (u c : Nat) : (s.evt u c).setsOpened = s.setsOpened := rfl
@[simp] theorem evt_ctxs (u c : Nat) : (s.evt u c).ctxs = s.ctxs := rfl
@[simp] theorem evt_hist (u c : Nat) : (s.evt u c).hist = s.hist := rfl
@[simp] theorem evt_histStaged (u c : Nat) : (s.evt u c).histStaged = s.histStaged := rfl
@[simp] theorem evt_histLatch (u c : Nat) : (s.evt u c).histLatch = s.histLatch := rfl
@[simp] theorem evt_drainSince (u c : Nat) : (s.evt u c).drainSince = s.drainSince := rfl
@[simp] theorem evt_halls (u c : Nat) : (s.evt u c).halls = s.halls := rfl
@[simp] theorem evt_resets (u c : Nat) : (s.evt u c).resets = s.resets := rfl
@[simp] theorem evt_hangs (u c : Nat) : (s.evt u c).hangs = s.hangs := rfl
@[simp] theorem evt_cut (u c : Nat) : (s.evt u c).cut = s.cut := rfl
@[simp] theorem evt_cutNo (u c : Nat) : (s.evt u c).cutNo = s.cutNo := rfl
@[simp] theorem evt_cutDue (u c : Nat) : (s.evt u c).cutDue = s.cutDue := rfl
@[simp] theorem evt_cutUnits (u c : Nat) : (s.evt u c).cutUnits = s.cutUnits := rfl
@[simp] theorem evt_chans (u c : Nat) : (s.evt u c).chans = s.chans := rfl
@[simp] theorem evt_stop (u c : Nat) : (s.evt u c).stop = s.stop := rfl
@[simp] theorem evt_voids (u c : Nat) : (s.evt u c).voids = s.voids := rfl
@[simp] theorem evt_bins (u c : Nat) : (s.evt u c).bins = s.bins := rfl
@[simp] theorem evt_bank (u c : Nat) : (s.evt u c).bank = s.bank := rfl
@[simp] theorem evt_segs (u c : Nat) : (s.evt u c).segs = s.segs := rfl
@[simp] theorem evt_attic (u c : Nat) : (s.evt u c).attic = s.attic := rfl
@[simp] theorem evt_mem (u c : Nat) : (s.evt u c).mem = s.mem := rfl
@[simp] theorem evt_variant (u c : Nat) : (s.evt u c).variant = s.variant := rfl
@[simp] theorem evt_mbx (u c : Nat) : (s.evt u c).mbx = s.mbx := rfl
@[simp] theorem evt_twk (u c : Nat) : (s.evt u c).twk = s.twk := rfl
@[simp] theorem evt_mgt (u c : Nat) : (s.evt u c).mgt = s.mgt := rfl
@[simp] theorem evt_dbg (u c : Nat) : (s.evt u c).dbg = s.dbg := rfl
@[simp] theorem evt_cels (u c : Nat) : (s.evt u c).cels = s.cels := rfl
@[simp] theorem evt_reloads (u c : Nat) : (s.evt u c).reloads = s.reloads := rfl
@[simp] theorem evt_chanMap (u c : Nat) : (s.evt u c).chanMap = s.chanMap := rfl
@[simp] theorem evt_descCopy (u c : Nat) : (s.evt u c).descCopy = s.descCopy := rfl
@[simp] theorem evt_seeds (u c : Nat) : (s.evt u c).seeds = s.seeds := rfl
@[simp] theorem evt_idleKills (u c : Nat) : (s.evt u c).idleKills = s.idleKills := rfl
@[simp] theorem evt_prv (u c : Nat) : (s.evt u c).prv = s.prv := rfl
@[simp] theorem evt_pairs (u c : Nat) : (s.evt u c).pairs = s.pairs := rfl
@[simp] theorem evt_steepFirst (u c : Nat) : (s.evt u c).steepFirst = s.steepFirst := rfl
@[simp] theorem evt_stp (u c : Nat) : (s.evt u c).stp = s.stp := rfl
@[simp] theorem evt_engs (u c : Nat) : (s.evt u c).engs = s.engs := rfl
@[simp] theorem evt_plan (u c : Nat) : (s.evt u c).plan = s.plan := rfl
@[simp] theorem evt_grist (u c : Nat) : (s.evt u c).grist = s.grist := rfl
@[simp] theorem evt_ana (u c : Nat) : (s.evt u c).ana = s.ana := rfl
@[simp] theorem evt_dl (u c : Nat) : (s.evt u c).dl = s.dl := rfl
@[simp] theorem evt_fw (u c : Nat) : (s.evt u c).fw = s.fw := rfl
@[simp] theorem evt_sens (u c : Nat) : (s.evt u c).sens = s.sens := rfl
@[simp] theorem evt_thm (u c : Nat) : (s.evt u c).thm = s.thm := rfl
@[simp] theorem evt_emerg (u c : Nat) : (s.evt u c).emerg = s.emerg := rfl
@[simp] theorem evt_pad (u c : Nat) : (s.evt u c).pad = s.pad := rfl
@[simp] theorem evt_resetsDue (u c : Nat) : (s.evt u c).resetsDue = s.resetsDue := rfl
@[simp] theorem evt_latch (u c : Nat) : (s.evt u c).latch = s.latch := rfl
@[simp] theorem evt_tree (u c : Nat) : (s.evt u c).tree = s.tree := rfl
@[simp] theorem evt_refLost (u c : Nat) : (s.evt u c).refLost = s.refLost := rfl
@[simp] theorem evt_histFlash (u c : Nat) : (s.evt u c).histFlash = s.histFlash := rfl
@[simp] theorem evt_tickAt (u c : Nat) : (s.evt u c).tickAt = s.tickAt := rfl
@[simp] theorem evt_passSeen (u c : Nat) : (s.evt u c).passSeen = s.passSeen := rfl

/-! What `raise` leaves. -/
@[simp] theorem raise_pending (c p x y z : Nat) : (s.raise c p x y z).pending = s.pending := rfl
@[simp] theorem raise_wall (c p x y z : Nat) : (s.raise c p x y z).wall = s.wall := rfl
@[simp] theorem raise_fresh (c p x y z : Nat) : (s.raise c p x y z).fresh = s.fresh := rfl
@[simp] theorem raise_rcnt (c p x y z : Nat) : (s.raise c p x y z).rcnt = s.rcnt := rfl
@[simp] theorem raise_fill (c p x y z : Nat) : (s.raise c p x y z).fill = s.fill := rfl
@[simp] theorem raise_shown (c p x y z : Nat) : (s.raise c p x y z).shown = s.shown := rfl
@[simp] theorem raise_units (c p x y z : Nat) : (s.raise c p x y z).units = s.units := rfl
@[simp] theorem raise_marks (c p x y z : Nat) : (s.raise c p x y z).marks = s.marks := rfl
@[simp] theorem raise_sent (c p x y z : Nat) : (s.raise c p x y z).sent = s.sent := rfl
@[simp] theorem raise_routers (c p x y z : Nat) : (s.raise c p x y z).routers = s.routers := rfl
@[simp] theorem raise_hops (c p x y z : Nat) : (s.raise c p x y z).hops = s.hops := rfl
@[simp] theorem raise_tablesDue (c p x y z : Nat) : (s.raise c p x y z).tablesDue = s.tablesDue := rfl
@[simp] theorem raise_cutoff (c p x y z : Nat) : (s.raise c p x y z).cutoff = s.cutoff := rfl
@[simp] theorem raise_delays (c p x y z : Nat) : (s.raise c p x y z).delays = s.delays := rfl
@[simp] theorem raise_clocks (c p x y z : Nat) : (s.raise c p x y z).clocks = s.clocks := rfl
@[simp] theorem raise_pair (c p x y z : Nat) : (s.raise c p x y z).pair = s.pair := rfl
@[simp] theorem raise_gates (c p x y z : Nat) : (s.raise c p x y z).gates = s.gates := rfl
@[simp] theorem raise_doors (c p x y z : Nat) : (s.raise c p x y z).doors = s.doors := rfl
@[simp] theorem raise_streams (c p x y z : Nat) : (s.raise c p x y z).streams = s.streams := rfl
@[simp] theorem raise_wins (c p x y z : Nat) : (s.raise c p x y z).wins = s.wins := rfl
@[simp] theorem raise_winAlive (c p x y z : Nat) : (s.raise c p x y z).winAlive = s.winAlive := rfl
@[simp] theorem raise_scans (c p x y z : Nat) : (s.raise c p x y z).scans = s.scans := rfl
@[simp] theorem raise_taps (c p x y z : Nat) : (s.raise c p x y z).taps = s.taps := rfl
@[simp] theorem raise_cores (c p x y z : Nat) : (s.raise c p x y z).cores = s.cores := rfl
@[simp] theorem raise_ports (c p x y z : Nat) : (s.raise c p x y z).ports = s.ports := rfl
@[simp] theorem raise_adj (c p x y z : Nat) : (s.raise c p x y z).adj = s.adj := rfl
@[simp] theorem raise_rpl (c p x y z : Nat) : (s.raise c p x y z).rpl = s.rpl := rfl
@[simp] theorem raise_steps (c p x y z : Nat) : (s.raise c p x y z).steps = s.steps := rfl
@[simp] theorem raise_verdicts (c p x y z : Nat) : (s.raise c p x y z).verdicts = s.verdicts := rfl
@[simp] theorem raise_replays (c p x y z : Nat) : (s.raise c p x y z).replays = s.replays := rfl
@[simp] theorem raise_setsOpened (c p x y z : Nat) : (s.raise c p x y z).setsOpened = s.setsOpened := rfl
@[simp] theorem raise_ctxs (c p x y z : Nat) : (s.raise c p x y z).ctxs = s.ctxs := rfl
@[simp] theorem raise_hist (c p x y z : Nat) : (s.raise c p x y z).hist = s.hist := rfl
@[simp] theorem raise_histStaged (c p x y z : Nat) : (s.raise c p x y z).histStaged = s.histStaged := rfl
@[simp] theorem raise_histLatch (c p x y z : Nat) : (s.raise c p x y z).histLatch = s.histLatch := rfl
@[simp] theorem raise_drainSince (c p x y z : Nat) : (s.raise c p x y z).drainSince = s.drainSince := rfl
@[simp] theorem raise_halls (c p x y z : Nat) : (s.raise c p x y z).halls = s.halls := rfl
@[simp] theorem raise_resets (c p x y z : Nat) : (s.raise c p x y z).resets = s.resets := rfl
@[simp] theorem raise_hangs (c p x y z : Nat) : (s.raise c p x y z).hangs = s.hangs := rfl
@[simp] theorem raise_cut (c p x y z : Nat) : (s.raise c p x y z).cut = s.cut := rfl
@[simp] theorem raise_cutNo (c p x y z : Nat) : (s.raise c p x y z).cutNo = s.cutNo := rfl
@[simp] theorem raise_cutDue (c p x y z : Nat) : (s.raise c p x y z).cutDue = s.cutDue := rfl
@[simp] theorem raise_cutUnits (c p x y z : Nat) : (s.raise c p x y z).cutUnits = s.cutUnits := rfl
@[simp] theorem raise_chans (c p x y z : Nat) : (s.raise c p x y z).chans = s.chans := rfl
@[simp] theorem raise_stop (c p x y z : Nat) : (s.raise c p x y z).stop = s.stop := rfl
@[simp] theorem raise_voids (c p x y z : Nat) : (s.raise c p x y z).voids = s.voids := rfl
@[simp] theorem raise_bins (c p x y z : Nat) : (s.raise c p x y z).bins = s.bins := rfl
@[simp] theorem raise_bank (c p x y z : Nat) : (s.raise c p x y z).bank = s.bank := rfl
@[simp] theorem raise_segs (c p x y z : Nat) : (s.raise c p x y z).segs = s.segs := rfl
@[simp] theorem raise_attic (c p x y z : Nat) : (s.raise c p x y z).attic = s.attic := rfl
@[simp] theorem raise_mem (c p x y z : Nat) : (s.raise c p x y z).mem = s.mem := rfl
@[simp] theorem raise_variant (c p x y z : Nat) : (s.raise c p x y z).variant = s.variant := rfl
@[simp] theorem raise_mbx (c p x y z : Nat) : (s.raise c p x y z).mbx = s.mbx := rfl
@[simp] theorem raise_twk (c p x y z : Nat) : (s.raise c p x y z).twk = s.twk := rfl
@[simp] theorem raise_mgt (c p x y z : Nat) : (s.raise c p x y z).mgt = s.mgt := rfl
@[simp] theorem raise_dbg (c p x y z : Nat) : (s.raise c p x y z).dbg = s.dbg := rfl
@[simp] theorem raise_cels (c p x y z : Nat) : (s.raise c p x y z).cels = s.cels := rfl
@[simp] theorem raise_reloads (c p x y z : Nat) : (s.raise c p x y z).reloads = s.reloads := rfl
@[simp] theorem raise_chanMap (c p x y z : Nat) : (s.raise c p x y z).chanMap = s.chanMap := rfl
@[simp] theorem raise_descCopy (c p x y z : Nat) : (s.raise c p x y z).descCopy = s.descCopy := rfl
@[simp] theorem raise_seeds (c p x y z : Nat) : (s.raise c p x y z).seeds = s.seeds := rfl
@[simp] theorem raise_idleKills (c p x y z : Nat) : (s.raise c p x y z).idleKills = s.idleKills := rfl
@[simp] theorem raise_prv (c p x y z : Nat) : (s.raise c p x y z).prv = s.prv := rfl
@[simp] theorem raise_pairs (c p x y z : Nat) : (s.raise c p x y z).pairs = s.pairs := rfl
@[simp] theorem raise_steepFirst (c p x y z : Nat) : (s.raise c p x y z).steepFirst = s.steepFirst := rfl
@[simp] theorem raise_stp (c p x y z : Nat) : (s.raise c p x y z).stp = s.stp := rfl
@[simp] theorem raise_engs (c p x y z : Nat) : (s.raise c p x y z).engs = s.engs := rfl
@[simp] theorem raise_plan (c p x y z : Nat) : (s.raise c p x y z).plan = s.plan := rfl
@[simp] theorem raise_grist (c p x y z : Nat) : (s.raise c p x y z).grist = s.grist := rfl
@[simp] theorem raise_ana (c p x y z : Nat) : (s.raise c p x y z).ana = s.ana := rfl
@[simp] theorem raise_dl (c p x y z : Nat) : (s.raise c p x y z).dl = s.dl := rfl
@[simp] theorem raise_fw (c p x y z : Nat) : (s.raise c p x y z).fw = s.fw := rfl
@[simp] theorem raise_sens (c p x y z : Nat) : (s.raise c p x y z).sens = s.sens := rfl
@[simp] theorem raise_thm (c p x y z : Nat) : (s.raise c p x y z).thm = s.thm := rfl
@[simp] theorem raise_emerg (c p x y z : Nat) : (s.raise c p x y z).emerg = s.emerg := rfl
@[simp] theorem raise_pad (c p x y z : Nat) : (s.raise c p x y z).pad = s.pad := rfl
@[simp] theorem raise_resetsDue (c p x y z : Nat) : (s.raise c p x y z).resetsDue = s.resetsDue := rfl
@[simp] theorem raise_latch (c p x y z : Nat) : (s.raise c p x y z).latch = s.latch := rfl
@[simp] theorem raise_tree (c p x y z : Nat) : (s.raise c p x y z).tree = s.tree := rfl
@[simp] theorem raise_refLost (c p x y z : Nat) : (s.raise c p x y z).refLost = s.refLost := rfl
@[simp] theorem raise_histFlash (c p x y z : Nat) : (s.raise c p x y z).histFlash = s.histFlash := rfl
@[simp] theorem raise_tickAt (c p x y z : Nat) : (s.raise c p x y z).tickAt = s.tickAt := rfl
@[simp] theorem raise_passSeen (c p x y z : Nat) : (s.raise c p x y z).passSeen = s.passSeen := rfl

/-! What `raiseHistAt` leaves. -/
@[simp] theorem raiseHistAt_pending (q : Nat) (e : HistEntry) (c p x y z : Nat) : (s.raiseHistAt q e c p x y z).pending = s.pending := rfl
@[simp] theorem raiseHistAt_wall (q : Nat) (e : HistEntry) (c p x y z : Nat) : (s.raiseHistAt q e c p x y z).wall = s.wall := rfl
@[simp] theorem raiseHistAt_fresh (q : Nat) (e : HistEntry) (c p x y z : Nat) : (s.raiseHistAt q e c p x y z).fresh = s.fresh := rfl
@[simp] theorem raiseHistAt_rcnt (q : Nat) (e : HistEntry) (c p x y z : Nat) : (s.raiseHistAt q e c p x y z).rcnt = s.rcnt := rfl
@[simp] theorem raiseHistAt_fill (q : Nat) (e : HistEntry) (c p x y z : Nat) : (s.raiseHistAt q e c p x y z).fill = s.fill := rfl
@[simp] theorem raiseHistAt_shown (q : Nat) (e : HistEntry) (c p x y z : Nat) : (s.raiseHistAt q e c p x y z).shown = s.shown := rfl
@[simp] theorem raiseHistAt_units (q : Nat) (e : HistEntry) (c p x y z : Nat) : (s.raiseHistAt q e c p x y z).units = s.units := rfl
@[simp] theorem raiseHistAt_marks (q : Nat) (e : HistEntry) (c p x y z : Nat) : (s.raiseHistAt q e c p x y z).marks = s.marks := rfl
@[simp] theorem raiseHistAt_sent (q : Nat) (e : HistEntry) (c p x y z : Nat) : (s.raiseHistAt q e c p x y z).sent = s.sent := rfl
@[simp] theorem raiseHistAt_routers (q : Nat) (e : HistEntry) (c p x y z : Nat) : (s.raiseHistAt q e c p x y z).routers = s.routers := rfl
@[simp] theorem raiseHistAt_hops (q : Nat) (e : HistEntry) (c p x y z : Nat) : (s.raiseHistAt q e c p x y z).hops = s.hops := rfl
@[simp] theorem raiseHistAt_tablesDue (q : Nat) (e : HistEntry) (c p x y z : Nat) : (s.raiseHistAt q e c p x y z).tablesDue = s.tablesDue := rfl
@[simp] theorem raiseHistAt_cutoff (q : Nat) (e : HistEntry) (c p x y z : Nat) : (s.raiseHistAt q e c p x y z).cutoff = s.cutoff := rfl
@[simp] theorem raiseHistAt_delays (q : Nat) (e : HistEntry) (c p x y z : Nat) : (s.raiseHistAt q e c p x y z).delays = s.delays := rfl
@[simp] theorem raiseHistAt_clocks (q : Nat) (e : HistEntry) (c p x y z : Nat) : (s.raiseHistAt q e c p x y z).clocks = s.clocks := rfl
@[simp] theorem raiseHistAt_pair (q : Nat) (e : HistEntry) (c p x y z : Nat) : (s.raiseHistAt q e c p x y z).pair = s.pair := rfl
@[simp] theorem raiseHistAt_gates (q : Nat) (e : HistEntry) (c p x y z : Nat) : (s.raiseHistAt q e c p x y z).gates = s.gates := rfl
@[simp] theorem raiseHistAt_doors (q : Nat) (e : HistEntry) (c p x y z : Nat) : (s.raiseHistAt q e c p x y z).doors = s.doors := rfl
@[simp] theorem raiseHistAt_streams (q : Nat) (e : HistEntry) (c p x y z : Nat) : (s.raiseHistAt q e c p x y z).streams = s.streams := rfl
@[simp] theorem raiseHistAt_wins (q : Nat) (e : HistEntry) (c p x y z : Nat) : (s.raiseHistAt q e c p x y z).wins = s.wins := rfl
@[simp] theorem raiseHistAt_winAlive (q : Nat) (e : HistEntry) (c p x y z : Nat) : (s.raiseHistAt q e c p x y z).winAlive = s.winAlive := rfl
@[simp] theorem raiseHistAt_scans (q : Nat) (e : HistEntry) (c p x y z : Nat) : (s.raiseHistAt q e c p x y z).scans = s.scans := rfl
@[simp] theorem raiseHistAt_taps (q : Nat) (e : HistEntry) (c p x y z : Nat) : (s.raiseHistAt q e c p x y z).taps = s.taps := rfl
@[simp] theorem raiseHistAt_cores (q : Nat) (e : HistEntry) (c p x y z : Nat) : (s.raiseHistAt q e c p x y z).cores = s.cores := rfl
@[simp] theorem raiseHistAt_ports (q : Nat) (e : HistEntry) (c p x y z : Nat) : (s.raiseHistAt q e c p x y z).ports = s.ports := rfl
@[simp] theorem raiseHistAt_adj (q : Nat) (e : HistEntry) (c p x y z : Nat) : (s.raiseHistAt q e c p x y z).adj = s.adj := rfl
@[simp] theorem raiseHistAt_rpl (q : Nat) (e : HistEntry) (c p x y z : Nat) : (s.raiseHistAt q e c p x y z).rpl = s.rpl := rfl
@[simp] theorem raiseHistAt_steps (q : Nat) (e : HistEntry) (c p x y z : Nat) : (s.raiseHistAt q e c p x y z).steps = s.steps := rfl
@[simp] theorem raiseHistAt_verdicts (q : Nat) (e : HistEntry) (c p x y z : Nat) : (s.raiseHistAt q e c p x y z).verdicts = s.verdicts := rfl
@[simp] theorem raiseHistAt_replays (q : Nat) (e : HistEntry) (c p x y z : Nat) : (s.raiseHistAt q e c p x y z).replays = s.replays := rfl
@[simp] theorem raiseHistAt_setsOpened (q : Nat) (e : HistEntry) (c p x y z : Nat) : (s.raiseHistAt q e c p x y z).setsOpened = s.setsOpened := rfl
@[simp] theorem raiseHistAt_ctxs (q : Nat) (e : HistEntry) (c p x y z : Nat) : (s.raiseHistAt q e c p x y z).ctxs = s.ctxs := rfl
@[simp] theorem raiseHistAt_hist (q : Nat) (e : HistEntry) (c p x y z : Nat) : (s.raiseHistAt q e c p x y z).hist = s.hist := rfl
@[simp] theorem raiseHistAt_histStaged (q : Nat) (e : HistEntry) (c p x y z : Nat) : (s.raiseHistAt q e c p x y z).histStaged = s.histStaged := rfl
@[simp] theorem raiseHistAt_histLatch (q : Nat) (e : HistEntry) (c p x y z : Nat) : (s.raiseHistAt q e c p x y z).histLatch = s.histLatch := rfl
@[simp] theorem raiseHistAt_drainSince (q : Nat) (e : HistEntry) (c p x y z : Nat) : (s.raiseHistAt q e c p x y z).drainSince = s.drainSince := rfl
@[simp] theorem raiseHistAt_halls (q : Nat) (e : HistEntry) (c p x y z : Nat) : (s.raiseHistAt q e c p x y z).halls = s.halls := rfl
@[simp] theorem raiseHistAt_resets (q : Nat) (e : HistEntry) (c p x y z : Nat) : (s.raiseHistAt q e c p x y z).resets = s.resets := rfl
@[simp] theorem raiseHistAt_hangs (q : Nat) (e : HistEntry) (c p x y z : Nat) : (s.raiseHistAt q e c p x y z).hangs = s.hangs := rfl
@[simp] theorem raiseHistAt_cut (q : Nat) (e : HistEntry) (c p x y z : Nat) : (s.raiseHistAt q e c p x y z).cut = s.cut := rfl
@[simp] theorem raiseHistAt_cutNo (q : Nat) (e : HistEntry) (c p x y z : Nat) : (s.raiseHistAt q e c p x y z).cutNo = s.cutNo := rfl
@[simp] theorem raiseHistAt_cutDue (q : Nat) (e : HistEntry) (c p x y z : Nat) : (s.raiseHistAt q e c p x y z).cutDue = s.cutDue := rfl
@[simp] theorem raiseHistAt_cutUnits (q : Nat) (e : HistEntry) (c p x y z : Nat) : (s.raiseHistAt q e c p x y z).cutUnits = s.cutUnits := rfl
@[simp] theorem raiseHistAt_chans (q : Nat) (e : HistEntry) (c p x y z : Nat) : (s.raiseHistAt q e c p x y z).chans = s.chans := rfl
@[simp] theorem raiseHistAt_stop (q : Nat) (e : HistEntry) (c p x y z : Nat) : (s.raiseHistAt q e c p x y z).stop = s.stop := rfl
@[simp] theorem raiseHistAt_voids (q : Nat) (e : HistEntry) (c p x y z : Nat) : (s.raiseHistAt q e c p x y z).voids = s.voids := rfl
@[simp] theorem raiseHistAt_bins (q : Nat) (e : HistEntry) (c p x y z : Nat) : (s.raiseHistAt q e c p x y z).bins = s.bins := rfl
@[simp] theorem raiseHistAt_bank (q : Nat) (e : HistEntry) (c p x y z : Nat) : (s.raiseHistAt q e c p x y z).bank = s.bank := rfl
@[simp] theorem raiseHistAt_segs (q : Nat) (e : HistEntry) (c p x y z : Nat) : (s.raiseHistAt q e c p x y z).segs = s.segs := rfl
@[simp] theorem raiseHistAt_attic (q : Nat) (e : HistEntry) (c p x y z : Nat) : (s.raiseHistAt q e c p x y z).attic = s.attic := rfl
@[simp] theorem raiseHistAt_mem (q : Nat) (e : HistEntry) (c p x y z : Nat) : (s.raiseHistAt q e c p x y z).mem = s.mem := rfl
@[simp] theorem raiseHistAt_variant (q : Nat) (e : HistEntry) (c p x y z : Nat) : (s.raiseHistAt q e c p x y z).variant = s.variant := rfl
@[simp] theorem raiseHistAt_mbx (q : Nat) (e : HistEntry) (c p x y z : Nat) : (s.raiseHistAt q e c p x y z).mbx = s.mbx := rfl
@[simp] theorem raiseHistAt_twk (q : Nat) (e : HistEntry) (c p x y z : Nat) : (s.raiseHistAt q e c p x y z).twk = s.twk := rfl
@[simp] theorem raiseHistAt_mgt (q : Nat) (e : HistEntry) (c p x y z : Nat) : (s.raiseHistAt q e c p x y z).mgt = s.mgt := rfl
@[simp] theorem raiseHistAt_dbg (q : Nat) (e : HistEntry) (c p x y z : Nat) : (s.raiseHistAt q e c p x y z).dbg = s.dbg := rfl
@[simp] theorem raiseHistAt_cels (q : Nat) (e : HistEntry) (c p x y z : Nat) : (s.raiseHistAt q e c p x y z).cels = s.cels := rfl
@[simp] theorem raiseHistAt_reloads (q : Nat) (e : HistEntry) (c p x y z : Nat) : (s.raiseHistAt q e c p x y z).reloads = s.reloads := rfl
@[simp] theorem raiseHistAt_chanMap (q : Nat) (e : HistEntry) (c p x y z : Nat) : (s.raiseHistAt q e c p x y z).chanMap = s.chanMap := rfl
@[simp] theorem raiseHistAt_descCopy (q : Nat) (e : HistEntry) (c p x y z : Nat) : (s.raiseHistAt q e c p x y z).descCopy = s.descCopy := rfl
@[simp] theorem raiseHistAt_seeds (q : Nat) (e : HistEntry) (c p x y z : Nat) : (s.raiseHistAt q e c p x y z).seeds = s.seeds := rfl
@[simp] theorem raiseHistAt_idleKills (q : Nat) (e : HistEntry) (c p x y z : Nat) : (s.raiseHistAt q e c p x y z).idleKills = s.idleKills := rfl
@[simp] theorem raiseHistAt_prv (q : Nat) (e : HistEntry) (c p x y z : Nat) : (s.raiseHistAt q e c p x y z).prv = s.prv := rfl
@[simp] theorem raiseHistAt_pairs (q : Nat) (e : HistEntry) (c p x y z : Nat) : (s.raiseHistAt q e c p x y z).pairs = s.pairs := rfl
@[simp] theorem raiseHistAt_steepFirst (q : Nat) (e : HistEntry) (c p x y z : Nat) : (s.raiseHistAt q e c p x y z).steepFirst = s.steepFirst := rfl
@[simp] theorem raiseHistAt_stp (q : Nat) (e : HistEntry) (c p x y z : Nat) : (s.raiseHistAt q e c p x y z).stp = s.stp := rfl
@[simp] theorem raiseHistAt_engs (q : Nat) (e : HistEntry) (c p x y z : Nat) : (s.raiseHistAt q e c p x y z).engs = s.engs := rfl
@[simp] theorem raiseHistAt_plan (q : Nat) (e : HistEntry) (c p x y z : Nat) : (s.raiseHistAt q e c p x y z).plan = s.plan := rfl
@[simp] theorem raiseHistAt_grist (q : Nat) (e : HistEntry) (c p x y z : Nat) : (s.raiseHistAt q e c p x y z).grist = s.grist := rfl
@[simp] theorem raiseHistAt_ana (q : Nat) (e : HistEntry) (c p x y z : Nat) : (s.raiseHistAt q e c p x y z).ana = s.ana := rfl
@[simp] theorem raiseHistAt_dl (q : Nat) (e : HistEntry) (c p x y z : Nat) : (s.raiseHistAt q e c p x y z).dl = s.dl := rfl
@[simp] theorem raiseHistAt_fw (q : Nat) (e : HistEntry) (c p x y z : Nat) : (s.raiseHistAt q e c p x y z).fw = s.fw := rfl
@[simp] theorem raiseHistAt_sens (q : Nat) (e : HistEntry) (c p x y z : Nat) : (s.raiseHistAt q e c p x y z).sens = s.sens := rfl
@[simp] theorem raiseHistAt_thm (q : Nat) (e : HistEntry) (c p x y z : Nat) : (s.raiseHistAt q e c p x y z).thm = s.thm := rfl
@[simp] theorem raiseHistAt_emerg (q : Nat) (e : HistEntry) (c p x y z : Nat) : (s.raiseHistAt q e c p x y z).emerg = s.emerg := rfl
@[simp] theorem raiseHistAt_pad (q : Nat) (e : HistEntry) (c p x y z : Nat) : (s.raiseHistAt q e c p x y z).pad = s.pad := rfl
@[simp] theorem raiseHistAt_resetsDue (q : Nat) (e : HistEntry) (c p x y z : Nat) : (s.raiseHistAt q e c p x y z).resetsDue = s.resetsDue := rfl
@[simp] theorem raiseHistAt_latch (q : Nat) (e : HistEntry) (c p x y z : Nat) : (s.raiseHistAt q e c p x y z).latch = s.latch := rfl
@[simp] theorem raiseHistAt_tree (q : Nat) (e : HistEntry) (c p x y z : Nat) : (s.raiseHistAt q e c p x y z).tree = s.tree := rfl
@[simp] theorem raiseHistAt_refLost (q : Nat) (e : HistEntry) (c p x y z : Nat) : (s.raiseHistAt q e c p x y z).refLost = s.refLost := rfl
@[simp] theorem raiseHistAt_histFlash (q : Nat) (e : HistEntry) (c p x y z : Nat) : (s.raiseHistAt q e c p x y z).histFlash = s.histFlash := rfl
@[simp] theorem raiseHistAt_tickAt (q : Nat) (e : HistEntry) (c p x y z : Nat) : (s.raiseHistAt q e c p x y z).tickAt = s.tickAt := rfl
@[simp] theorem raiseHistAt_passSeen (q : Nat) (e : HistEntry) (c p x y z : Nat) : (s.raiseHistAt q e c p x y z).passSeen = s.passSeen := rfl

/-! What `quiet` leaves. -/
@[simp] theorem quiet_pending (c p : Nat) : (s.quiet c p).pending = s.pending := rfl
@[simp] theorem quiet_wall (c p : Nat) : (s.quiet c p).wall = s.wall := rfl
@[simp] theorem quiet_fresh (c p : Nat) : (s.quiet c p).fresh = s.fresh := rfl
@[simp] theorem quiet_rcnt (c p : Nat) : (s.quiet c p).rcnt = s.rcnt := rfl
@[simp] theorem quiet_fill (c p : Nat) : (s.quiet c p).fill = s.fill := rfl
@[simp] theorem quiet_shown (c p : Nat) : (s.quiet c p).shown = s.shown := rfl
@[simp] theorem quiet_units (c p : Nat) : (s.quiet c p).units = s.units := rfl
@[simp] theorem quiet_transit (c p : Nat) : (s.quiet c p).transit = s.transit := rfl
@[simp] theorem quiet_marks (c p : Nat) : (s.quiet c p).marks = s.marks := rfl
@[simp] theorem quiet_sent (c p : Nat) : (s.quiet c p).sent = s.sent := rfl
@[simp] theorem quiet_routers (c p : Nat) : (s.quiet c p).routers = s.routers := rfl
@[simp] theorem quiet_hops (c p : Nat) : (s.quiet c p).hops = s.hops := rfl
@[simp] theorem quiet_tablesDue (c p : Nat) : (s.quiet c p).tablesDue = s.tablesDue := rfl
@[simp] theorem quiet_cutoff (c p : Nat) : (s.quiet c p).cutoff = s.cutoff := rfl
@[simp] theorem quiet_delays (c p : Nat) : (s.quiet c p).delays = s.delays := rfl
@[simp] theorem quiet_clocks (c p : Nat) : (s.quiet c p).clocks = s.clocks := rfl
@[simp] theorem quiet_pair (c p : Nat) : (s.quiet c p).pair = s.pair := rfl
@[simp] theorem quiet_gates (c p : Nat) : (s.quiet c p).gates = s.gates := rfl
@[simp] theorem quiet_doors (c p : Nat) : (s.quiet c p).doors = s.doors := rfl
@[simp] theorem quiet_streams (c p : Nat) : (s.quiet c p).streams = s.streams := rfl
@[simp] theorem quiet_wins (c p : Nat) : (s.quiet c p).wins = s.wins := rfl
@[simp] theorem quiet_winAlive (c p : Nat) : (s.quiet c p).winAlive = s.winAlive := rfl
@[simp] theorem quiet_scans (c p : Nat) : (s.quiet c p).scans = s.scans := rfl
@[simp] theorem quiet_taps (c p : Nat) : (s.quiet c p).taps = s.taps := rfl
@[simp] theorem quiet_cores (c p : Nat) : (s.quiet c p).cores = s.cores := rfl
@[simp] theorem quiet_ports (c p : Nat) : (s.quiet c p).ports = s.ports := rfl
@[simp] theorem quiet_adj (c p : Nat) : (s.quiet c p).adj = s.adj := rfl
@[simp] theorem quiet_rpl (c p : Nat) : (s.quiet c p).rpl = s.rpl := rfl
@[simp] theorem quiet_steps (c p : Nat) : (s.quiet c p).steps = s.steps := rfl
@[simp] theorem quiet_verdicts (c p : Nat) : (s.quiet c p).verdicts = s.verdicts := rfl
@[simp] theorem quiet_replays (c p : Nat) : (s.quiet c p).replays = s.replays := rfl
@[simp] theorem quiet_setsOpened (c p : Nat) : (s.quiet c p).setsOpened = s.setsOpened := rfl
@[simp] theorem quiet_ctxs (c p : Nat) : (s.quiet c p).ctxs = s.ctxs := rfl
@[simp] theorem quiet_hist (c p : Nat) : (s.quiet c p).hist = s.hist := rfl
@[simp] theorem quiet_histStaged (c p : Nat) : (s.quiet c p).histStaged = s.histStaged := rfl
@[simp] theorem quiet_histLatch (c p : Nat) : (s.quiet c p).histLatch = s.histLatch := rfl
@[simp] theorem quiet_drainSince (c p : Nat) : (s.quiet c p).drainSince = s.drainSince := rfl
@[simp] theorem quiet_halls (c p : Nat) : (s.quiet c p).halls = s.halls := rfl
@[simp] theorem quiet_resets (c p : Nat) : (s.quiet c p).resets = s.resets := rfl
@[simp] theorem quiet_hangs (c p : Nat) : (s.quiet c p).hangs = s.hangs := rfl
@[simp] theorem quiet_cut (c p : Nat) : (s.quiet c p).cut = s.cut := rfl
@[simp] theorem quiet_cutNo (c p : Nat) : (s.quiet c p).cutNo = s.cutNo := rfl
@[simp] theorem quiet_cutDue (c p : Nat) : (s.quiet c p).cutDue = s.cutDue := rfl
@[simp] theorem quiet_cutUnits (c p : Nat) : (s.quiet c p).cutUnits = s.cutUnits := rfl
@[simp] theorem quiet_chans (c p : Nat) : (s.quiet c p).chans = s.chans := rfl
@[simp] theorem quiet_stop (c p : Nat) : (s.quiet c p).stop = s.stop := rfl
@[simp] theorem quiet_voids (c p : Nat) : (s.quiet c p).voids = s.voids := rfl
@[simp] theorem quiet_bins (c p : Nat) : (s.quiet c p).bins = s.bins := rfl
@[simp] theorem quiet_bank (c p : Nat) : (s.quiet c p).bank = s.bank := rfl
@[simp] theorem quiet_segs (c p : Nat) : (s.quiet c p).segs = s.segs := rfl
@[simp] theorem quiet_attic (c p : Nat) : (s.quiet c p).attic = s.attic := rfl
@[simp] theorem quiet_mem (c p : Nat) : (s.quiet c p).mem = s.mem := rfl
@[simp] theorem quiet_variant (c p : Nat) : (s.quiet c p).variant = s.variant := rfl
@[simp] theorem quiet_mbx (c p : Nat) : (s.quiet c p).mbx = s.mbx := rfl
@[simp] theorem quiet_twk (c p : Nat) : (s.quiet c p).twk = s.twk := rfl
@[simp] theorem quiet_mgt (c p : Nat) : (s.quiet c p).mgt = s.mgt := rfl
@[simp] theorem quiet_dbg (c p : Nat) : (s.quiet c p).dbg = s.dbg := rfl
@[simp] theorem quiet_cels (c p : Nat) : (s.quiet c p).cels = s.cels := rfl
@[simp] theorem quiet_reloads (c p : Nat) : (s.quiet c p).reloads = s.reloads := rfl
@[simp] theorem quiet_chanMap (c p : Nat) : (s.quiet c p).chanMap = s.chanMap := rfl
@[simp] theorem quiet_descCopy (c p : Nat) : (s.quiet c p).descCopy = s.descCopy := rfl
@[simp] theorem quiet_seeds (c p : Nat) : (s.quiet c p).seeds = s.seeds := rfl
@[simp] theorem quiet_idleKills (c p : Nat) : (s.quiet c p).idleKills = s.idleKills := rfl
@[simp] theorem quiet_prv (c p : Nat) : (s.quiet c p).prv = s.prv := rfl
@[simp] theorem quiet_pairs (c p : Nat) : (s.quiet c p).pairs = s.pairs := rfl
@[simp] theorem quiet_steepFirst (c p : Nat) : (s.quiet c p).steepFirst = s.steepFirst := rfl
@[simp] theorem quiet_stp (c p : Nat) : (s.quiet c p).stp = s.stp := rfl
@[simp] theorem quiet_engs (c p : Nat) : (s.quiet c p).engs = s.engs := rfl
@[simp] theorem quiet_plan (c p : Nat) : (s.quiet c p).plan = s.plan := rfl
@[simp] theorem quiet_grist (c p : Nat) : (s.quiet c p).grist = s.grist := rfl
@[simp] theorem quiet_ana (c p : Nat) : (s.quiet c p).ana = s.ana := rfl
@[simp] theorem quiet_dl (c p : Nat) : (s.quiet c p).dl = s.dl := rfl
@[simp] theorem quiet_fw (c p : Nat) : (s.quiet c p).fw = s.fw := rfl
@[simp] theorem quiet_sens (c p : Nat) : (s.quiet c p).sens = s.sens := rfl
@[simp] theorem quiet_thm (c p : Nat) : (s.quiet c p).thm = s.thm := rfl
@[simp] theorem quiet_emerg (c p : Nat) : (s.quiet c p).emerg = s.emerg := rfl
@[simp] theorem quiet_pad (c p : Nat) : (s.quiet c p).pad = s.pad := rfl
@[simp] theorem quiet_resetsDue (c p : Nat) : (s.quiet c p).resetsDue = s.resetsDue := rfl
@[simp] theorem quiet_latch (c p : Nat) : (s.quiet c p).latch = s.latch := rfl
@[simp] theorem quiet_tree (c p : Nat) : (s.quiet c p).tree = s.tree := rfl
@[simp] theorem quiet_refLost (c p : Nat) : (s.quiet c p).refLost = s.refLost := rfl
@[simp] theorem quiet_histFlash (c p : Nat) : (s.quiet c p).histFlash = s.histFlash := rfl
@[simp] theorem quiet_tickAt (c p : Nat) : (s.quiet c p).tickAt = s.tickAt := rfl
@[simp] theorem quiet_passSeen (c p : Nat) : (s.quiet c p).passSeen = s.passSeen := rfl

/-! What `draw` leaves. -/
@[simp] theorem draw_pending  : (s.draw).pending = s.pending := rfl
@[simp] theorem draw_wall  : (s.draw).wall = s.wall := rfl
@[simp] theorem draw_regs  : (s.draw).regs = s.regs := rfl
@[simp] theorem draw_ecnt  : (s.draw).ecnt = s.ecnt := rfl
@[simp] theorem draw_rcnt  : (s.draw).rcnt = s.rcnt := rfl
@[simp] theorem draw_fill  : (s.draw).fill = s.fill := rfl
@[simp] theorem draw_shown  : (s.draw).shown = s.shown := rfl
@[simp] theorem draw_units  : (s.draw).units = s.units := rfl
@[simp] theorem draw_transit  : (s.draw).transit = s.transit := rfl
@[simp] theorem draw_marks  : (s.draw).marks = s.marks := rfl
@[simp] theorem draw_sent  : (s.draw).sent = s.sent := rfl
@[simp] theorem draw_routers  : (s.draw).routers = s.routers := rfl
@[simp] theorem draw_hops  : (s.draw).hops = s.hops := rfl
@[simp] theorem draw_tablesDue  : (s.draw).tablesDue = s.tablesDue := rfl
@[simp] theorem draw_cutoff  : (s.draw).cutoff = s.cutoff := rfl
@[simp] theorem draw_delays  : (s.draw).delays = s.delays := rfl
@[simp] theorem draw_clocks  : (s.draw).clocks = s.clocks := rfl
@[simp] theorem draw_pair  : (s.draw).pair = s.pair := rfl
@[simp] theorem draw_gates  : (s.draw).gates = s.gates := rfl
@[simp] theorem draw_doors  : (s.draw).doors = s.doors := rfl
@[simp] theorem draw_streams  : (s.draw).streams = s.streams := rfl
@[simp] theorem draw_wins  : (s.draw).wins = s.wins := rfl
@[simp] theorem draw_winAlive  : (s.draw).winAlive = s.winAlive := rfl
@[simp] theorem draw_scans  : (s.draw).scans = s.scans := rfl
@[simp] theorem draw_taps  : (s.draw).taps = s.taps := rfl
@[simp] theorem draw_cores  : (s.draw).cores = s.cores := rfl
@[simp] theorem draw_ports  : (s.draw).ports = s.ports := rfl
@[simp] theorem draw_adj  : (s.draw).adj = s.adj := rfl
@[simp] theorem draw_rpl  : (s.draw).rpl = s.rpl := rfl
@[simp] theorem draw_steps  : (s.draw).steps = s.steps := rfl
@[simp] theorem draw_verdicts  : (s.draw).verdicts = s.verdicts := rfl
@[simp] theorem draw_replays  : (s.draw).replays = s.replays := rfl
@[simp] theorem draw_setsOpened  : (s.draw).setsOpened = s.setsOpened := rfl
@[simp] theorem draw_ctxs  : (s.draw).ctxs = s.ctxs := rfl
@[simp] theorem draw_hist  : (s.draw).hist = s.hist := rfl
@[simp] theorem draw_histStaged  : (s.draw).histStaged = s.histStaged := rfl
@[simp] theorem draw_histLatch  : (s.draw).histLatch = s.histLatch := rfl
@[simp] theorem draw_drainSince  : (s.draw).drainSince = s.drainSince := rfl
@[simp] theorem draw_halls  : (s.draw).halls = s.halls := rfl
@[simp] theorem draw_resets  : (s.draw).resets = s.resets := rfl
@[simp] theorem draw_hangs  : (s.draw).hangs = s.hangs := rfl
@[simp] theorem draw_cut  : (s.draw).cut = s.cut := rfl
@[simp] theorem draw_cutNo  : (s.draw).cutNo = s.cutNo := rfl
@[simp] theorem draw_cutDue  : (s.draw).cutDue = s.cutDue := rfl
@[simp] theorem draw_cutUnits  : (s.draw).cutUnits = s.cutUnits := rfl
@[simp] theorem draw_chans  : (s.draw).chans = s.chans := rfl
@[simp] theorem draw_stop  : (s.draw).stop = s.stop := rfl
@[simp] theorem draw_voids  : (s.draw).voids = s.voids := rfl
@[simp] theorem draw_bins  : (s.draw).bins = s.bins := rfl
@[simp] theorem draw_bank  : (s.draw).bank = s.bank := rfl
@[simp] theorem draw_segs  : (s.draw).segs = s.segs := rfl
@[simp] theorem draw_attic  : (s.draw).attic = s.attic := rfl
@[simp] theorem draw_mem  : (s.draw).mem = s.mem := rfl
@[simp] theorem draw_variant  : (s.draw).variant = s.variant := rfl
@[simp] theorem draw_mbx  : (s.draw).mbx = s.mbx := rfl
@[simp] theorem draw_twk  : (s.draw).twk = s.twk := rfl
@[simp] theorem draw_mgt  : (s.draw).mgt = s.mgt := rfl
@[simp] theorem draw_dbg  : (s.draw).dbg = s.dbg := rfl
@[simp] theorem draw_cels  : (s.draw).cels = s.cels := rfl
@[simp] theorem draw_reloads  : (s.draw).reloads = s.reloads := rfl
@[simp] theorem draw_chanMap  : (s.draw).chanMap = s.chanMap := rfl
@[simp] theorem draw_descCopy  : (s.draw).descCopy = s.descCopy := rfl
@[simp] theorem draw_seeds  : (s.draw).seeds = s.seeds := rfl
@[simp] theorem draw_idleKills  : (s.draw).idleKills = s.idleKills := rfl
@[simp] theorem draw_prv  : (s.draw).prv = s.prv := rfl
@[simp] theorem draw_pairs  : (s.draw).pairs = s.pairs := rfl
@[simp] theorem draw_steepFirst  : (s.draw).steepFirst = s.steepFirst := rfl
@[simp] theorem draw_stp  : (s.draw).stp = s.stp := rfl
@[simp] theorem draw_engs  : (s.draw).engs = s.engs := rfl
@[simp] theorem draw_plan  : (s.draw).plan = s.plan := rfl
@[simp] theorem draw_grist  : (s.draw).grist = s.grist := rfl
@[simp] theorem draw_ana  : (s.draw).ana = s.ana := rfl
@[simp] theorem draw_dl  : (s.draw).dl = s.dl := rfl
@[simp] theorem draw_fw  : (s.draw).fw = s.fw := rfl
@[simp] theorem draw_sens  : (s.draw).sens = s.sens := rfl
@[simp] theorem draw_thm  : (s.draw).thm = s.thm := rfl
@[simp] theorem draw_emerg  : (s.draw).emerg = s.emerg := rfl
@[simp] theorem draw_pad  : (s.draw).pad = s.pad := rfl
@[simp] theorem draw_resetsDue  : (s.draw).resetsDue = s.resetsDue := rfl
@[simp] theorem draw_latch  : (s.draw).latch = s.latch := rfl
@[simp] theorem draw_tree  : (s.draw).tree = s.tree := rfl
@[simp] theorem draw_refLost  : (s.draw).refLost = s.refLost := rfl
@[simp] theorem draw_histFlash  : (s.draw).histFlash = s.histFlash := rfl
@[simp] theorem draw_tickAt  : (s.draw).tickAt = s.tickAt := rfl
@[simp] theorem draw_passSeen  : (s.draw).passSeen = s.passSeen := rfl

/-! What `poke` leaves. -/
@[simp] theorem poke_pending (k : Nat) (l : List Byte) : (s.poke k l).pending = s.pending := rfl
@[simp] theorem poke_wall (k : Nat) (l : List Byte) : (s.poke k l).wall = s.wall := rfl
@[simp] theorem poke_fresh (k : Nat) (l : List Byte) : (s.poke k l).fresh = s.fresh := rfl
@[simp] theorem poke_regs (k : Nat) (l : List Byte) : (s.poke k l).regs = s.regs := rfl
@[simp] theorem poke_ecnt (k : Nat) (l : List Byte) : (s.poke k l).ecnt = s.ecnt := rfl
@[simp] theorem poke_rcnt (k : Nat) (l : List Byte) : (s.poke k l).rcnt = s.rcnt := rfl
@[simp] theorem poke_fill (k : Nat) (l : List Byte) : (s.poke k l).fill = s.fill := rfl
@[simp] theorem poke_shown (k : Nat) (l : List Byte) : (s.poke k l).shown = s.shown := rfl
@[simp] theorem poke_units (k : Nat) (l : List Byte) : (s.poke k l).units = s.units := rfl
@[simp] theorem poke_transit (k : Nat) (l : List Byte) : (s.poke k l).transit = s.transit := rfl
@[simp] theorem poke_marks (k : Nat) (l : List Byte) : (s.poke k l).marks = s.marks := rfl
@[simp] theorem poke_sent (k : Nat) (l : List Byte) : (s.poke k l).sent = s.sent := rfl
@[simp] theorem poke_routers (k : Nat) (l : List Byte) : (s.poke k l).routers = s.routers := rfl
@[simp] theorem poke_hops (k : Nat) (l : List Byte) : (s.poke k l).hops = s.hops := rfl
@[simp] theorem poke_tablesDue (k : Nat) (l : List Byte) : (s.poke k l).tablesDue = s.tablesDue := rfl
@[simp] theorem poke_cutoff (k : Nat) (l : List Byte) : (s.poke k l).cutoff = s.cutoff := rfl
@[simp] theorem poke_delays (k : Nat) (l : List Byte) : (s.poke k l).delays = s.delays := rfl
@[simp] theorem poke_clocks (k : Nat) (l : List Byte) : (s.poke k l).clocks = s.clocks := rfl
@[simp] theorem poke_pair (k : Nat) (l : List Byte) : (s.poke k l).pair = s.pair := rfl
@[simp] theorem poke_gates (k : Nat) (l : List Byte) : (s.poke k l).gates = s.gates := rfl
@[simp] theorem poke_doors (k : Nat) (l : List Byte) : (s.poke k l).doors = s.doors := rfl
@[simp] theorem poke_streams (k : Nat) (l : List Byte) : (s.poke k l).streams = s.streams := rfl
@[simp] theorem poke_wins (k : Nat) (l : List Byte) : (s.poke k l).wins = s.wins := rfl
@[simp] theorem poke_winAlive (k : Nat) (l : List Byte) : (s.poke k l).winAlive = s.winAlive := rfl
@[simp] theorem poke_scans (k : Nat) (l : List Byte) : (s.poke k l).scans = s.scans := rfl
@[simp] theorem poke_taps (k : Nat) (l : List Byte) : (s.poke k l).taps = s.taps := rfl
@[simp] theorem poke_cores (k : Nat) (l : List Byte) : (s.poke k l).cores = s.cores := rfl
@[simp] theorem poke_ports (k : Nat) (l : List Byte) : (s.poke k l).ports = s.ports := rfl
@[simp] theorem poke_adj (k : Nat) (l : List Byte) : (s.poke k l).adj = s.adj := rfl
@[simp] theorem poke_rpl (k : Nat) (l : List Byte) : (s.poke k l).rpl = s.rpl := rfl
@[simp] theorem poke_steps (k : Nat) (l : List Byte) : (s.poke k l).steps = s.steps := rfl
@[simp] theorem poke_verdicts (k : Nat) (l : List Byte) : (s.poke k l).verdicts = s.verdicts := rfl
@[simp] theorem poke_replays (k : Nat) (l : List Byte) : (s.poke k l).replays = s.replays := rfl
@[simp] theorem poke_setsOpened (k : Nat) (l : List Byte) : (s.poke k l).setsOpened = s.setsOpened := rfl
@[simp] theorem poke_ctxs (k : Nat) (l : List Byte) : (s.poke k l).ctxs = s.ctxs := rfl
@[simp] theorem poke_hist (k : Nat) (l : List Byte) : (s.poke k l).hist = s.hist := rfl
@[simp] theorem poke_histStaged (k : Nat) (l : List Byte) : (s.poke k l).histStaged = s.histStaged := rfl
@[simp] theorem poke_histLatch (k : Nat) (l : List Byte) : (s.poke k l).histLatch = s.histLatch := rfl
@[simp] theorem poke_drainSince (k : Nat) (l : List Byte) : (s.poke k l).drainSince = s.drainSince := rfl
@[simp] theorem poke_halls (k : Nat) (l : List Byte) : (s.poke k l).halls = s.halls := rfl
@[simp] theorem poke_resets (k : Nat) (l : List Byte) : (s.poke k l).resets = s.resets := rfl
@[simp] theorem poke_hangs (k : Nat) (l : List Byte) : (s.poke k l).hangs = s.hangs := rfl
@[simp] theorem poke_cut (k : Nat) (l : List Byte) : (s.poke k l).cut = s.cut := rfl
@[simp] theorem poke_cutNo (k : Nat) (l : List Byte) : (s.poke k l).cutNo = s.cutNo := rfl
@[simp] theorem poke_cutDue (k : Nat) (l : List Byte) : (s.poke k l).cutDue = s.cutDue := rfl
@[simp] theorem poke_cutUnits (k : Nat) (l : List Byte) : (s.poke k l).cutUnits = s.cutUnits := rfl
@[simp] theorem poke_chans (k : Nat) (l : List Byte) : (s.poke k l).chans = s.chans := rfl
@[simp] theorem poke_stop (k : Nat) (l : List Byte) : (s.poke k l).stop = s.stop := rfl
@[simp] theorem poke_voids (k : Nat) (l : List Byte) : (s.poke k l).voids = s.voids := rfl
@[simp] theorem poke_bins (k : Nat) (l : List Byte) : (s.poke k l).bins = s.bins := rfl
@[simp] theorem poke_bank (k : Nat) (l : List Byte) : (s.poke k l).bank = s.bank := rfl
@[simp] theorem poke_segs (k : Nat) (l : List Byte) : (s.poke k l).segs = s.segs := rfl
@[simp] theorem poke_attic (k : Nat) (l : List Byte) : (s.poke k l).attic = s.attic := rfl
@[simp] theorem poke_variant (k : Nat) (l : List Byte) : (s.poke k l).variant = s.variant := rfl
@[simp] theorem poke_mbx (k : Nat) (l : List Byte) : (s.poke k l).mbx = s.mbx := rfl
@[simp] theorem poke_twk (k : Nat) (l : List Byte) : (s.poke k l).twk = s.twk := rfl
@[simp] theorem poke_mgt (k : Nat) (l : List Byte) : (s.poke k l).mgt = s.mgt := rfl
@[simp] theorem poke_dbg (k : Nat) (l : List Byte) : (s.poke k l).dbg = s.dbg := rfl
@[simp] theorem poke_cels (k : Nat) (l : List Byte) : (s.poke k l).cels = s.cels := rfl
@[simp] theorem poke_reloads (k : Nat) (l : List Byte) : (s.poke k l).reloads = s.reloads := rfl
@[simp] theorem poke_chanMap (k : Nat) (l : List Byte) : (s.poke k l).chanMap = s.chanMap := rfl
@[simp] theorem poke_descCopy (k : Nat) (l : List Byte) : (s.poke k l).descCopy = s.descCopy := rfl
@[simp] theorem poke_seeds (k : Nat) (l : List Byte) : (s.poke k l).seeds = s.seeds := rfl
@[simp] theorem poke_idleKills (k : Nat) (l : List Byte) : (s.poke k l).idleKills = s.idleKills := rfl
@[simp] theorem poke_prv (k : Nat) (l : List Byte) : (s.poke k l).prv = s.prv := rfl
@[simp] theorem poke_pairs (k : Nat) (l : List Byte) : (s.poke k l).pairs = s.pairs := rfl
@[simp] theorem poke_steepFirst (k : Nat) (l : List Byte) : (s.poke k l).steepFirst = s.steepFirst := rfl
@[simp] theorem poke_stp (k : Nat) (l : List Byte) : (s.poke k l).stp = s.stp := rfl
@[simp] theorem poke_engs (k : Nat) (l : List Byte) : (s.poke k l).engs = s.engs := rfl
@[simp] theorem poke_plan (k : Nat) (l : List Byte) : (s.poke k l).plan = s.plan := rfl
@[simp] theorem poke_grist (k : Nat) (l : List Byte) : (s.poke k l).grist = s.grist := rfl
@[simp] theorem poke_ana (k : Nat) (l : List Byte) : (s.poke k l).ana = s.ana := rfl
@[simp] theorem poke_dl (k : Nat) (l : List Byte) : (s.poke k l).dl = s.dl := rfl
@[simp] theorem poke_fw (k : Nat) (l : List Byte) : (s.poke k l).fw = s.fw := rfl
@[simp] theorem poke_sens (k : Nat) (l : List Byte) : (s.poke k l).sens = s.sens := rfl
@[simp] theorem poke_thm (k : Nat) (l : List Byte) : (s.poke k l).thm = s.thm := rfl
@[simp] theorem poke_emerg (k : Nat) (l : List Byte) : (s.poke k l).emerg = s.emerg := rfl
@[simp] theorem poke_pad (k : Nat) (l : List Byte) : (s.poke k l).pad = s.pad := rfl
@[simp] theorem poke_resetsDue (k : Nat) (l : List Byte) : (s.poke k l).resetsDue = s.resetsDue := rfl
@[simp] theorem poke_latch (k : Nat) (l : List Byte) : (s.poke k l).latch = s.latch := rfl
@[simp] theorem poke_tree (k : Nat) (l : List Byte) : (s.poke k l).tree = s.tree := rfl
@[simp] theorem poke_refLost (k : Nat) (l : List Byte) : (s.poke k l).refLost = s.refLost := rfl
@[simp] theorem poke_histFlash (k : Nat) (l : List Byte) : (s.poke k l).histFlash = s.histFlash := rfl
@[simp] theorem poke_tickAt (k : Nat) (l : List Byte) : (s.poke k l).tickAt = s.tickAt := rfl
@[simp] theorem poke_passSeen (k : Nat) (l : List Byte) : (s.poke k l).passSeen = s.passSeen := rfl

/-! What `count` leaves. -/
@[simp] theorem count_pending (u : Nat) (G : Fld) (n i : Nat) : (s.count u G n i).pending = s.pending := by unfold State.count; dsimp only; split <;> rfl
@[simp] theorem count_wall (u : Nat) (G : Fld) (n i : Nat) : (s.count u G n i).wall = s.wall := by unfold State.count; dsimp only; split <;> rfl
@[simp] theorem count_fresh (u : Nat) (G : Fld) (n i : Nat) : (s.count u G n i).fresh = s.fresh := by unfold State.count; dsimp only; split <;> rfl
@[simp] theorem count_regs (u : Nat) (G : Fld) (n i : Nat) : (s.count u G n i).regs = s.regs := by unfold State.count; dsimp only; split <;> rfl
@[simp] theorem count_fill (u : Nat) (G : Fld) (n i : Nat) : (s.count u G n i).fill = s.fill := by unfold State.count; dsimp only; split <;> rfl
@[simp] theorem count_shown (u : Nat) (G : Fld) (n i : Nat) : (s.count u G n i).shown = s.shown := by unfold State.count; dsimp only; split <;> rfl
@[simp] theorem count_units (u : Nat) (G : Fld) (n i : Nat) : (s.count u G n i).units = s.units := by unfold State.count; dsimp only; split <;> rfl
@[simp] theorem count_transit (u : Nat) (G : Fld) (n i : Nat) : (s.count u G n i).transit = s.transit := by unfold State.count; dsimp only; split <;> rfl
@[simp] theorem count_marks (u : Nat) (G : Fld) (n i : Nat) : (s.count u G n i).marks = s.marks := by unfold State.count; dsimp only; split <;> rfl
@[simp] theorem count_sent (u : Nat) (G : Fld) (n i : Nat) : (s.count u G n i).sent = s.sent := by unfold State.count; dsimp only; split <;> rfl
@[simp] theorem count_routers (u : Nat) (G : Fld) (n i : Nat) : (s.count u G n i).routers = s.routers := by unfold State.count; dsimp only; split <;> rfl
@[simp] theorem count_hops (u : Nat) (G : Fld) (n i : Nat) : (s.count u G n i).hops = s.hops := by unfold State.count; dsimp only; split <;> rfl
@[simp] theorem count_tablesDue (u : Nat) (G : Fld) (n i : Nat) : (s.count u G n i).tablesDue = s.tablesDue := by unfold State.count; dsimp only; split <;> rfl
@[simp] theorem count_cutoff (u : Nat) (G : Fld) (n i : Nat) : (s.count u G n i).cutoff = s.cutoff := by unfold State.count; dsimp only; split <;> rfl
@[simp] theorem count_delays (u : Nat) (G : Fld) (n i : Nat) : (s.count u G n i).delays = s.delays := by unfold State.count; dsimp only; split <;> rfl
@[simp] theorem count_clocks (u : Nat) (G : Fld) (n i : Nat) : (s.count u G n i).clocks = s.clocks := by unfold State.count; dsimp only; split <;> rfl
@[simp] theorem count_pair (u : Nat) (G : Fld) (n i : Nat) : (s.count u G n i).pair = s.pair := by unfold State.count; dsimp only; split <;> rfl
@[simp] theorem count_gates (u : Nat) (G : Fld) (n i : Nat) : (s.count u G n i).gates = s.gates := by unfold State.count; dsimp only; split <;> rfl
@[simp] theorem count_doors (u : Nat) (G : Fld) (n i : Nat) : (s.count u G n i).doors = s.doors := by unfold State.count; dsimp only; split <;> rfl
@[simp] theorem count_streams (u : Nat) (G : Fld) (n i : Nat) : (s.count u G n i).streams = s.streams := by unfold State.count; dsimp only; split <;> rfl
@[simp] theorem count_wins (u : Nat) (G : Fld) (n i : Nat) : (s.count u G n i).wins = s.wins := by unfold State.count; dsimp only; split <;> rfl
@[simp] theorem count_winAlive (u : Nat) (G : Fld) (n i : Nat) : (s.count u G n i).winAlive = s.winAlive := by unfold State.count; dsimp only; split <;> rfl
@[simp] theorem count_scans (u : Nat) (G : Fld) (n i : Nat) : (s.count u G n i).scans = s.scans := by unfold State.count; dsimp only; split <;> rfl
@[simp] theorem count_taps (u : Nat) (G : Fld) (n i : Nat) : (s.count u G n i).taps = s.taps := by unfold State.count; dsimp only; split <;> rfl
@[simp] theorem count_cores (u : Nat) (G : Fld) (n i : Nat) : (s.count u G n i).cores = s.cores := by unfold State.count; dsimp only; split <;> rfl
@[simp] theorem count_ports (u : Nat) (G : Fld) (n i : Nat) : (s.count u G n i).ports = s.ports := by unfold State.count; dsimp only; split <;> rfl
@[simp] theorem count_adj (u : Nat) (G : Fld) (n i : Nat) : (s.count u G n i).adj = s.adj := by unfold State.count; dsimp only; split <;> rfl
@[simp] theorem count_rpl (u : Nat) (G : Fld) (n i : Nat) : (s.count u G n i).rpl = s.rpl := by unfold State.count; dsimp only; split <;> rfl
@[simp] theorem count_steps (u : Nat) (G : Fld) (n i : Nat) : (s.count u G n i).steps = s.steps := by unfold State.count; dsimp only; split <;> rfl
@[simp] theorem count_verdicts (u : Nat) (G : Fld) (n i : Nat) : (s.count u G n i).verdicts = s.verdicts := by unfold State.count; dsimp only; split <;> rfl
@[simp] theorem count_replays (u : Nat) (G : Fld) (n i : Nat) : (s.count u G n i).replays = s.replays := by unfold State.count; dsimp only; split <;> rfl
@[simp] theorem count_setsOpened (u : Nat) (G : Fld) (n i : Nat) : (s.count u G n i).setsOpened = s.setsOpened := by unfold State.count; dsimp only; split <;> rfl
@[simp] theorem count_ctxs (u : Nat) (G : Fld) (n i : Nat) : (s.count u G n i).ctxs = s.ctxs := by unfold State.count; dsimp only; split <;> rfl
@[simp] theorem count_hist (u : Nat) (G : Fld) (n i : Nat) : (s.count u G n i).hist = s.hist := by unfold State.count; dsimp only; split <;> rfl
@[simp] theorem count_histStaged (u : Nat) (G : Fld) (n i : Nat) : (s.count u G n i).histStaged = s.histStaged := by unfold State.count; dsimp only; split <;> rfl
@[simp] theorem count_histLatch (u : Nat) (G : Fld) (n i : Nat) : (s.count u G n i).histLatch = s.histLatch := by unfold State.count; dsimp only; split <;> rfl
@[simp] theorem count_drainSince (u : Nat) (G : Fld) (n i : Nat) : (s.count u G n i).drainSince = s.drainSince := by unfold State.count; dsimp only; split <;> rfl
@[simp] theorem count_halls (u : Nat) (G : Fld) (n i : Nat) : (s.count u G n i).halls = s.halls := by unfold State.count; dsimp only; split <;> rfl
@[simp] theorem count_resets (u : Nat) (G : Fld) (n i : Nat) : (s.count u G n i).resets = s.resets := by unfold State.count; dsimp only; split <;> rfl
@[simp] theorem count_hangs (u : Nat) (G : Fld) (n i : Nat) : (s.count u G n i).hangs = s.hangs := by unfold State.count; dsimp only; split <;> rfl
@[simp] theorem count_cut (u : Nat) (G : Fld) (n i : Nat) : (s.count u G n i).cut = s.cut := by unfold State.count; dsimp only; split <;> rfl
@[simp] theorem count_cutNo (u : Nat) (G : Fld) (n i : Nat) : (s.count u G n i).cutNo = s.cutNo := by unfold State.count; dsimp only; split <;> rfl
@[simp] theorem count_cutDue (u : Nat) (G : Fld) (n i : Nat) : (s.count u G n i).cutDue = s.cutDue := by unfold State.count; dsimp only; split <;> rfl
@[simp] theorem count_cutUnits (u : Nat) (G : Fld) (n i : Nat) : (s.count u G n i).cutUnits = s.cutUnits := by unfold State.count; dsimp only; split <;> rfl
@[simp] theorem count_chans (u : Nat) (G : Fld) (n i : Nat) : (s.count u G n i).chans = s.chans := by unfold State.count; dsimp only; split <;> rfl
@[simp] theorem count_stop (u : Nat) (G : Fld) (n i : Nat) : (s.count u G n i).stop = s.stop := by unfold State.count; dsimp only; split <;> rfl
@[simp] theorem count_voids (u : Nat) (G : Fld) (n i : Nat) : (s.count u G n i).voids = s.voids := by unfold State.count; dsimp only; split <;> rfl
@[simp] theorem count_bins (u : Nat) (G : Fld) (n i : Nat) : (s.count u G n i).bins = s.bins := by unfold State.count; dsimp only; split <;> rfl
@[simp] theorem count_bank (u : Nat) (G : Fld) (n i : Nat) : (s.count u G n i).bank = s.bank := by unfold State.count; dsimp only; split <;> rfl
@[simp] theorem count_segs (u : Nat) (G : Fld) (n i : Nat) : (s.count u G n i).segs = s.segs := by unfold State.count; dsimp only; split <;> rfl
@[simp] theorem count_attic (u : Nat) (G : Fld) (n i : Nat) : (s.count u G n i).attic = s.attic := by unfold State.count; dsimp only; split <;> rfl
@[simp] theorem count_mem (u : Nat) (G : Fld) (n i : Nat) : (s.count u G n i).mem = s.mem := by unfold State.count; dsimp only; split <;> rfl
@[simp] theorem count_variant (u : Nat) (G : Fld) (n i : Nat) : (s.count u G n i).variant = s.variant := by unfold State.count; dsimp only; split <;> rfl
@[simp] theorem count_mbx (u : Nat) (G : Fld) (n i : Nat) : (s.count u G n i).mbx = s.mbx := by unfold State.count; dsimp only; split <;> rfl
@[simp] theorem count_twk (u : Nat) (G : Fld) (n i : Nat) : (s.count u G n i).twk = s.twk := by unfold State.count; dsimp only; split <;> rfl
@[simp] theorem count_mgt (u : Nat) (G : Fld) (n i : Nat) : (s.count u G n i).mgt = s.mgt := by unfold State.count; dsimp only; split <;> rfl
@[simp] theorem count_dbg (u : Nat) (G : Fld) (n i : Nat) : (s.count u G n i).dbg = s.dbg := by unfold State.count; dsimp only; split <;> rfl
@[simp] theorem count_cels (u : Nat) (G : Fld) (n i : Nat) : (s.count u G n i).cels = s.cels := by unfold State.count; dsimp only; split <;> rfl
@[simp] theorem count_reloads (u : Nat) (G : Fld) (n i : Nat) : (s.count u G n i).reloads = s.reloads := by unfold State.count; dsimp only; split <;> rfl
@[simp] theorem count_chanMap (u : Nat) (G : Fld) (n i : Nat) : (s.count u G n i).chanMap = s.chanMap := by unfold State.count; dsimp only; split <;> rfl
@[simp] theorem count_descCopy (u : Nat) (G : Fld) (n i : Nat) : (s.count u G n i).descCopy = s.descCopy := by unfold State.count; dsimp only; split <;> rfl
@[simp] theorem count_seeds (u : Nat) (G : Fld) (n i : Nat) : (s.count u G n i).seeds = s.seeds := by unfold State.count; dsimp only; split <;> rfl
@[simp] theorem count_idleKills (u : Nat) (G : Fld) (n i : Nat) : (s.count u G n i).idleKills = s.idleKills := by unfold State.count; dsimp only; split <;> rfl
@[simp] theorem count_prv (u : Nat) (G : Fld) (n i : Nat) : (s.count u G n i).prv = s.prv := by unfold State.count; dsimp only; split <;> rfl
@[simp] theorem count_pairs (u : Nat) (G : Fld) (n i : Nat) : (s.count u G n i).pairs = s.pairs := by unfold State.count; dsimp only; split <;> rfl
@[simp] theorem count_steepFirst (u : Nat) (G : Fld) (n i : Nat) : (s.count u G n i).steepFirst = s.steepFirst := by unfold State.count; dsimp only; split <;> rfl
@[simp] theorem count_stp (u : Nat) (G : Fld) (n i : Nat) : (s.count u G n i).stp = s.stp := by unfold State.count; dsimp only; split <;> rfl
@[simp] theorem count_engs (u : Nat) (G : Fld) (n i : Nat) : (s.count u G n i).engs = s.engs := by unfold State.count; dsimp only; split <;> rfl
@[simp] theorem count_plan (u : Nat) (G : Fld) (n i : Nat) : (s.count u G n i).plan = s.plan := by unfold State.count; dsimp only; split <;> rfl
@[simp] theorem count_grist (u : Nat) (G : Fld) (n i : Nat) : (s.count u G n i).grist = s.grist := by unfold State.count; dsimp only; split <;> rfl
@[simp] theorem count_ana (u : Nat) (G : Fld) (n i : Nat) : (s.count u G n i).ana = s.ana := by unfold State.count; dsimp only; split <;> rfl
@[simp] theorem count_dl (u : Nat) (G : Fld) (n i : Nat) : (s.count u G n i).dl = s.dl := by unfold State.count; dsimp only; split <;> rfl
@[simp] theorem count_fw (u : Nat) (G : Fld) (n i : Nat) : (s.count u G n i).fw = s.fw := by unfold State.count; dsimp only; split <;> rfl
@[simp] theorem count_sens (u : Nat) (G : Fld) (n i : Nat) : (s.count u G n i).sens = s.sens := by unfold State.count; dsimp only; split <;> rfl
@[simp] theorem count_thm (u : Nat) (G : Fld) (n i : Nat) : (s.count u G n i).thm = s.thm := by unfold State.count; dsimp only; split <;> rfl
@[simp] theorem count_emerg (u : Nat) (G : Fld) (n i : Nat) : (s.count u G n i).emerg = s.emerg := by unfold State.count; dsimp only; split <;> rfl
@[simp] theorem count_pad (u : Nat) (G : Fld) (n i : Nat) : (s.count u G n i).pad = s.pad := by unfold State.count; dsimp only; split <;> rfl
@[simp] theorem count_resetsDue (u : Nat) (G : Fld) (n i : Nat) : (s.count u G n i).resetsDue = s.resetsDue := by unfold State.count; dsimp only; split <;> rfl
@[simp] theorem count_latch (u : Nat) (G : Fld) (n i : Nat) : (s.count u G n i).latch = s.latch := by unfold State.count; dsimp only; split <;> rfl
@[simp] theorem count_tree (u : Nat) (G : Fld) (n i : Nat) : (s.count u G n i).tree = s.tree := by unfold State.count; dsimp only; split <;> rfl
@[simp] theorem count_refLost (u : Nat) (G : Fld) (n i : Nat) : (s.count u G n i).refLost = s.refLost := by unfold State.count; dsimp only; split <;> rfl
@[simp] theorem count_histFlash (u : Nat) (G : Fld) (n i : Nat) : (s.count u G n i).histFlash = s.histFlash := by unfold State.count; dsimp only; split <;> rfl
@[simp] theorem count_tickAt (u : Nat) (G : Fld) (n i : Nat) : (s.count u G n i).tickAt = s.tickAt := by unfold State.count; dsimp only; split <;> rfl
@[simp] theorem count_passSeen (u : Nat) (G : Fld) (n i : Nat) : (s.count u G n i).passSeen = s.passSeen := by unfold State.count; dsimp only; split <;> rfl

/-! What the named operations change. -/
@[simp] theorem emit_sent (x : Out) : (s.emit x).sent = x :: s.sent := rfl
@[simp] theorem emits_sent (l : List Out) : (s.emits l).sent = l.reverse ++ s.sent := rfl
@[simp] theorem draw_fresh : s.draw.fresh = s.fresh + 1 := rfl
@[simp] theorem raise_transit (c p x y z : Nat) :
    (s.raise c p x y z).transit = s.transit ++ [⟨c, p, x % 2 ^ 32, y % 2 ^ 32, z % 2 ^ 32, s.timeIn (regionOfPuid p), none, false, true, false⟩] := rfl
@[simp] theorem raiseHistAt_transit (q : Nat) (e : HistEntry) (c p x y z : Nat) :
    (s.raiseHistAt q e c p x y z).transit =
      s.transit ++ [⟨c, p, x % 2 ^ 32, y % 2 ^ 32, z % 2 ^ 32, s.timeIn (regionOfPuid p), some (q, e), false, true, false⟩] := rfl
/-- The first event of its source, code and key in an epoch goes on its way. -/
theorem raiseOnce_transit {key c p x y z : Nat} (h : s.marks.contains (p, c, key) = false) :
    (s.raiseOnce key c p x y z).transit = s.transit ++ [⟨c, p, x % 2 ^ 32, y % 2 ^ 32, z % 2 ^ 32, s.timeIn (regionOfPuid p), none, false, true, false⟩] := by
  unfold State.raiseOnce
  rw [if_neg (by rw [h]; exact Bool.false_ne_true)]
  rfl
/-- A later event of the same source, code and key is only counted. -/
theorem raiseOnce_again {key c p x y z : Nat} (h : s.marks.contains (p, c, key) = true) :
    s.raiseOnce key c p x y z = s.quiet c p := by
  unfold State.raiseOnce; rw [if_pos h]
@[simp] theorem now_of_wall {t : State} (h : t.wall = s.wall) : t.now = s.now := by unfold State.now; rw [h]

/-- The value of a field that was listed or not, after it was written. -/
theorem find_putReg_same (m : Tab Nat) (u : Nat) (G : Fld) (i v : Nat) :
    (Tab.find (fkey u G i) (putReg m u G i v)).getD G.rst = v % 2 ^ G.width := by
  unfold putReg
  split
  · rename_i h; rw [Tab.find_erase_same, h]; rfl
  · rw [Tab.find_insert_same]; rfl
/-- A field written leaves every other key. -/
theorem find_putReg_other (m : Tab Nat) (u : Nat) (G : Fld) (i v : Nat) {k : Nat} (h : k ≠ fkey u G i) :
    Tab.find k (putReg m u G i v) = Tab.find k m := by
  unfold putReg
  split
  · exact Tab.find_erase_other h m
  · exact Tab.find_insert_other h _ m
/-- A field read after it was written holds the value, cut to its width. -/
@[simp] theorem rd_wr_same (u : Nat) (G : Fld) (v i : Nat) : (s.wr u G v i).rd u G i = v % 2 ^ G.width :=
  find_putReg_same s.regs u G i v
/-- A field written leaves every other field. -/
theorem rd_wr_other {u u' : Nat} {G G' : Fld} {i i' : Nat} (v : Nat) (h : fkey u' G' i' ≠ fkey u G i) :
    (s.wr u G v i).rd u' G' i' = s.rd u' G' i' := by
  unfold State.rd State.wr
  dsimp only
  rw [find_putReg_other s.regs u G i v h]
/-- Two fields of a unit at different places have different keys. -/
theorem fkey_ne {u u' : Nat} {G G' : Fld} {i i' : Nat} (hi : i < 2 ^ 17) (hi' : i' < 2 ^ 17)
    (h : (u * 4096 + G.off) * 32 + G.lo ≠ (u' * 4096 + G'.off) * 32 + G'.lo) : fkey u G i ≠ fkey u' G' i' := by
  unfold fkey; omega
/-- What reads the register table alone reads it of any state with the same table. -/
theorem rd_congr {t : State} (h : t.regs = s.regs) (u : Nat) (G : Fld) (i : Nat) : t.rd u G i = s.rd u G i := by
  unfold State.rd; rw [h]
/-- A flag read after it was set. -/
@[simp] theorem rd_flag_same (u : Nat) (G : Fld) (v : Bool) (i : Nat) :
    (s.flag u G v i).rd u G i = (if v then 1 else 0) % 2 ^ G.width := rd_wr_same s u G _ i
/-- A saturating field after it counted. -/
@[simp] theorem rd_bump_same (u : Nat) (G : Fld) (n i : Nat) :
    (s.bump u G n i).rd u G i = satAdd (fldTop G) (s.rd u G i) n % 2 ^ G.width := rd_wr_same s u G _ i
/-- An epoch counter after it counted: saturating (R402). -/
theorem cnt_count_epoch {u : Nat} {G : Fld} {n i : Nat} (h : G.bank ≠ .running) :
    (s.count u G n i).cnt u G i = satAdd (fldTop G) (s.cnt u G i) n := by
  unfold State.count
  cases hb : G.bank <;> simp_all [State.cnt, putCnt]
/-- A running counter after it counted: saturating at 32 bits or fewer, but for the beats of TMB_BEAT_SEQ, which wrap as a 64-bit counter does (R56, R402, R420). -/
theorem cnt_count_running {u : Nat} {G : Fld} {n i : Nat} (h : G.bank = .running) :
    (s.count u G n i).cnt u G i =
      if G.width = 64 ∨ G = TMB_BEAT_SEQ_SEQ then (s.cnt u G i + n) % 2 ^ G.width else min (fldTop G) (s.cnt u G i + n) := by
  unfold State.count
  simp [h, State.cnt, putCnt]
/-- A byte written is read back. -/
theorem peek_congr {t : State} (h : t.mem = s.mem) (k n : Nat) : t.peek k n = s.peek k n := by unfold State.peek; rw [h]

/-! The entries of `units`. -/
@[simp] theorem unit_updUnit_same (k : Nat) (g : UnitSt → UnitSt) : (s.updUnit k g).unit k = g (s.unit k) := Tab.get_upd_same _ _ _ _
theorem unit_updUnit_other {k j : Nat} (h : j ≠ k) (g : UnitSt → UnitSt) : (s.updUnit k g).unit j = s.unit j := Tab.get_upd_other _ _ h _
theorem unit_congr {t : State} (h : t.units = s.units) (k : Nat) : t.unit k = s.unit k := by unfold State.unit; rw [h]
@[simp] theorem updUnit_pending (k : Nat) (g : UnitSt → UnitSt) : (s.updUnit k g).pending = s.pending := rfl
@[simp] theorem updUnit_wall (k : Nat) (g : UnitSt → UnitSt) : (s.updUnit k g).wall = s.wall := rfl
@[simp] theorem updUnit_fresh (k : Nat) (g : UnitSt → UnitSt) : (s.updUnit k g).fresh = s.fresh := rfl
@[simp] theorem updUnit_regs (k : Nat) (g : UnitSt → UnitSt) : (s.updUnit k g).regs = s.regs := rfl
@[simp] theorem updUnit_ecnt (k : Nat) (g : UnitSt → UnitSt) : (s.updUnit k g).ecnt = s.ecnt := rfl
@[simp] theorem updUnit_rcnt (k : Nat) (g : UnitSt → UnitSt) : (s.updUnit k g).rcnt = s.rcnt := rfl
@[simp] theorem updUnit_fill (k : Nat) (g : UnitSt → UnitSt) : (s.updUnit k g).fill = s.fill := rfl
@[simp] theorem updUnit_shown (k : Nat) (g : UnitSt → UnitSt) : (s.updUnit k g).shown = s.shown := rfl
@[simp] theorem updUnit_transit (k : Nat) (g : UnitSt → UnitSt) : (s.updUnit k g).transit = s.transit := rfl
@[simp] theorem updUnit_marks (k : Nat) (g : UnitSt → UnitSt) : (s.updUnit k g).marks = s.marks := rfl
@[simp] theorem updUnit_sent (k : Nat) (g : UnitSt → UnitSt) : (s.updUnit k g).sent = s.sent := rfl
@[simp] theorem updUnit_routers (k : Nat) (g : UnitSt → UnitSt) : (s.updUnit k g).routers = s.routers := rfl
@[simp] theorem updUnit_hops (k : Nat) (g : UnitSt → UnitSt) : (s.updUnit k g).hops = s.hops := rfl
@[simp] theorem updUnit_tablesDue (k : Nat) (g : UnitSt → UnitSt) : (s.updUnit k g).tablesDue = s.tablesDue := rfl
@[simp] theorem updUnit_cutoff (k : Nat) (g : UnitSt → UnitSt) : (s.updUnit k g).cutoff = s.cutoff := rfl
@[simp] theorem updUnit_delays (k : Nat) (g : UnitSt → UnitSt) : (s.updUnit k g).delays = s.delays := rfl
@[simp] theorem updUnit_clocks (k : Nat) (g : UnitSt → UnitSt) : (s.updUnit k g).clocks = s.clocks := rfl
@[simp] theorem updUnit_pair (k : Nat) (g : UnitSt → UnitSt) : (s.updUnit k g).pair = s.pair := rfl
@[simp] theorem updUnit_gates (k : Nat) (g : UnitSt → UnitSt) : (s.updUnit k g).gates = s.gates := rfl
@[simp] theorem updUnit_doors (k : Nat) (g : UnitSt → UnitSt) : (s.updUnit k g).doors = s.doors := rfl
@[simp] theorem updUnit_streams (k : Nat) (g : UnitSt → UnitSt) : (s.updUnit k g).streams = s.streams := rfl
@[simp] theorem updUnit_wins (k : Nat) (g : UnitSt → UnitSt) : (s.updUnit k g).wins = s.wins := rfl
@[simp] theorem updUnit_winAlive (k : Nat) (g : UnitSt → UnitSt) : (s.updUnit k g).winAlive = s.winAlive := rfl
@[simp] theorem updUnit_scans (k : Nat) (g : UnitSt → UnitSt) : (s.updUnit k g).scans = s.scans := rfl
@[simp] theorem updUnit_taps (k : Nat) (g : UnitSt → UnitSt) : (s.updUnit k g).taps = s.taps := rfl
@[simp] theorem updUnit_cores (k : Nat) (g : UnitSt → UnitSt) : (s.updUnit k g).cores = s.cores := rfl
@[simp] theorem updUnit_ports (k : Nat) (g : UnitSt → UnitSt) : (s.updUnit k g).ports = s.ports := rfl
@[simp] theorem updUnit_adj (k : Nat) (g : UnitSt → UnitSt) : (s.updUnit k g).adj = s.adj := rfl
@[simp] theorem updUnit_rpl (k : Nat) (g : UnitSt → UnitSt) : (s.updUnit k g).rpl = s.rpl := rfl
@[simp] theorem updUnit_steps (k : Nat) (g : UnitSt → UnitSt) : (s.updUnit k g).steps = s.steps := rfl
@[simp] theorem updUnit_verdicts (k : Nat) (g : UnitSt → UnitSt) : (s.updUnit k g).verdicts = s.verdicts := rfl
@[simp] theorem updUnit_replays (k : Nat) (g : UnitSt → UnitSt) : (s.updUnit k g).replays = s.replays := rfl
@[simp] theorem updUnit_setsOpened (k : Nat) (g : UnitSt → UnitSt) : (s.updUnit k g).setsOpened = s.setsOpened := rfl
@[simp] theorem updUnit_ctxs (k : Nat) (g : UnitSt → UnitSt) : (s.updUnit k g).ctxs = s.ctxs := rfl
@[simp] theorem updUnit_hist (k : Nat) (g : UnitSt → UnitSt) : (s.updUnit k g).hist = s.hist := rfl
@[simp] theorem updUnit_histStaged (k : Nat) (g : UnitSt → UnitSt) : (s.updUnit k g).histStaged = s.histStaged := rfl
@[simp] theorem updUnit_histLatch (k : Nat) (g : UnitSt → UnitSt) : (s.updUnit k g).histLatch = s.histLatch := rfl
@[simp] theorem updUnit_drainSince (k : Nat) (g : UnitSt → UnitSt) : (s.updUnit k g).drainSince = s.drainSince := rfl
@[simp] theorem updUnit_halls (k : Nat) (g : UnitSt → UnitSt) : (s.updUnit k g).halls = s.halls := rfl
@[simp] theorem updUnit_resets (k : Nat) (g : UnitSt → UnitSt) : (s.updUnit k g).resets = s.resets := rfl
@[simp] theorem updUnit_hangs (k : Nat) (g : UnitSt → UnitSt) : (s.updUnit k g).hangs = s.hangs := rfl
@[simp] theorem updUnit_cut (k : Nat) (g : UnitSt → UnitSt) : (s.updUnit k g).cut = s.cut := rfl
@[simp] theorem updUnit_cutNo (k : Nat) (g : UnitSt → UnitSt) : (s.updUnit k g).cutNo = s.cutNo := rfl
@[simp] theorem updUnit_cutDue (k : Nat) (g : UnitSt → UnitSt) : (s.updUnit k g).cutDue = s.cutDue := rfl
@[simp] theorem updUnit_cutUnits (k : Nat) (g : UnitSt → UnitSt) : (s.updUnit k g).cutUnits = s.cutUnits := rfl
@[simp] theorem updUnit_chans (k : Nat) (g : UnitSt → UnitSt) : (s.updUnit k g).chans = s.chans := rfl
@[simp] theorem updUnit_stop (k : Nat) (g : UnitSt → UnitSt) : (s.updUnit k g).stop = s.stop := rfl
@[simp] theorem updUnit_voids (k : Nat) (g : UnitSt → UnitSt) : (s.updUnit k g).voids = s.voids := rfl
@[simp] theorem updUnit_bins (k : Nat) (g : UnitSt → UnitSt) : (s.updUnit k g).bins = s.bins := rfl
@[simp] theorem updUnit_bank (k : Nat) (g : UnitSt → UnitSt) : (s.updUnit k g).bank = s.bank := rfl
@[simp] theorem updUnit_segs (k : Nat) (g : UnitSt → UnitSt) : (s.updUnit k g).segs = s.segs := rfl
@[simp] theorem updUnit_attic (k : Nat) (g : UnitSt → UnitSt) : (s.updUnit k g).attic = s.attic := rfl
@[simp] theorem updUnit_mem (k : Nat) (g : UnitSt → UnitSt) : (s.updUnit k g).mem = s.mem := rfl
@[simp] theorem updUnit_variant (k : Nat) (g : UnitSt → UnitSt) : (s.updUnit k g).variant = s.variant := rfl
@[simp] theorem updUnit_mbx (k : Nat) (g : UnitSt → UnitSt) : (s.updUnit k g).mbx = s.mbx := rfl
@[simp] theorem updUnit_twk (k : Nat) (g : UnitSt → UnitSt) : (s.updUnit k g).twk = s.twk := rfl
@[simp] theorem updUnit_mgt (k : Nat) (g : UnitSt → UnitSt) : (s.updUnit k g).mgt = s.mgt := rfl
@[simp] theorem updUnit_dbg (k : Nat) (g : UnitSt → UnitSt) : (s.updUnit k g).dbg = s.dbg := rfl
@[simp] theorem updUnit_cels (k : Nat) (g : UnitSt → UnitSt) : (s.updUnit k g).cels = s.cels := rfl
@[simp] theorem updUnit_reloads (k : Nat) (g : UnitSt → UnitSt) : (s.updUnit k g).reloads = s.reloads := rfl
@[simp] theorem updUnit_chanMap (k : Nat) (g : UnitSt → UnitSt) : (s.updUnit k g).chanMap = s.chanMap := rfl
@[simp] theorem updUnit_descCopy (k : Nat) (g : UnitSt → UnitSt) : (s.updUnit k g).descCopy = s.descCopy := rfl
@[simp] theorem updUnit_seeds (k : Nat) (g : UnitSt → UnitSt) : (s.updUnit k g).seeds = s.seeds := rfl
@[simp] theorem updUnit_idleKills (k : Nat) (g : UnitSt → UnitSt) : (s.updUnit k g).idleKills = s.idleKills := rfl
@[simp] theorem updUnit_prv (k : Nat) (g : UnitSt → UnitSt) : (s.updUnit k g).prv = s.prv := rfl
@[simp] theorem updUnit_pairs (k : Nat) (g : UnitSt → UnitSt) : (s.updUnit k g).pairs = s.pairs := rfl
@[simp] theorem updUnit_steepFirst (k : Nat) (g : UnitSt → UnitSt) : (s.updUnit k g).steepFirst = s.steepFirst := rfl
@[simp] theorem updUnit_stp (k : Nat) (g : UnitSt → UnitSt) : (s.updUnit k g).stp = s.stp := rfl
@[simp] theorem updUnit_engs (k : Nat) (g : UnitSt → UnitSt) : (s.updUnit k g).engs = s.engs := rfl
@[simp] theorem updUnit_plan (k : Nat) (g : UnitSt → UnitSt) : (s.updUnit k g).plan = s.plan := rfl
@[simp] theorem updUnit_grist (k : Nat) (g : UnitSt → UnitSt) : (s.updUnit k g).grist = s.grist := rfl
@[simp] theorem updUnit_ana (k : Nat) (g : UnitSt → UnitSt) : (s.updUnit k g).ana = s.ana := rfl
@[simp] theorem updUnit_dl (k : Nat) (g : UnitSt → UnitSt) : (s.updUnit k g).dl = s.dl := rfl
@[simp] theorem updUnit_fw (k : Nat) (g : UnitSt → UnitSt) : (s.updUnit k g).fw = s.fw := rfl
@[simp] theorem updUnit_sens (k : Nat) (g : UnitSt → UnitSt) : (s.updUnit k g).sens = s.sens := rfl
@[simp] theorem updUnit_thm (k : Nat) (g : UnitSt → UnitSt) : (s.updUnit k g).thm = s.thm := rfl
@[simp] theorem updUnit_emerg (k : Nat) (g : UnitSt → UnitSt) : (s.updUnit k g).emerg = s.emerg := rfl
@[simp] theorem updUnit_pad (k : Nat) (g : UnitSt → UnitSt) : (s.updUnit k g).pad = s.pad := rfl
@[simp] theorem updUnit_resetsDue (k : Nat) (g : UnitSt → UnitSt) : (s.updUnit k g).resetsDue = s.resetsDue := rfl
@[simp] theorem updUnit_latch (k : Nat) (g : UnitSt → UnitSt) : (s.updUnit k g).latch = s.latch := rfl
@[simp] theorem updUnit_tree (k : Nat) (g : UnitSt → UnitSt) : (s.updUnit k g).tree = s.tree := rfl
@[simp] theorem updUnit_refLost (k : Nat) (g : UnitSt → UnitSt) : (s.updUnit k g).refLost = s.refLost := rfl
@[simp] theorem updUnit_histFlash (k : Nat) (g : UnitSt → UnitSt) : (s.updUnit k g).histFlash = s.histFlash := rfl
@[simp] theorem updUnit_tickAt (k : Nat) (g : UnitSt → UnitSt) : (s.updUnit k g).tickAt = s.tickAt := rfl
@[simp] theorem updUnit_passSeen (k : Nat) (g : UnitSt → UnitSt) : (s.updUnit k g).passSeen = s.passSeen := rfl

/-! The entries of `routers`. -/
@[simp] theorem router_updRouter_same (k : Nat) (g : RouterSt → RouterSt) : (s.updRouter k g).router k = g (s.router k) := Tab.get_upd_same _ _ _ _
theorem router_updRouter_other {k j : Nat} (h : j ≠ k) (g : RouterSt → RouterSt) : (s.updRouter k g).router j = s.router j := Tab.get_upd_other _ _ h _
theorem router_congr {t : State} (h : t.routers = s.routers) (k : Nat) : t.router k = s.router k := by unfold State.router; rw [h]
@[simp] theorem updRouter_pending (k : Nat) (g : RouterSt → RouterSt) : (s.updRouter k g).pending = s.pending := rfl
@[simp] theorem updRouter_wall (k : Nat) (g : RouterSt → RouterSt) : (s.updRouter k g).wall = s.wall := rfl
@[simp] theorem updRouter_fresh (k : Nat) (g : RouterSt → RouterSt) : (s.updRouter k g).fresh = s.fresh := rfl
@[simp] theorem updRouter_regs (k : Nat) (g : RouterSt → RouterSt) : (s.updRouter k g).regs = s.regs := rfl
@[simp] theorem updRouter_ecnt (k : Nat) (g : RouterSt → RouterSt) : (s.updRouter k g).ecnt = s.ecnt := rfl
@[simp] theorem updRouter_rcnt (k : Nat) (g : RouterSt → RouterSt) : (s.updRouter k g).rcnt = s.rcnt := rfl
@[simp] theorem updRouter_fill (k : Nat) (g : RouterSt → RouterSt) : (s.updRouter k g).fill = s.fill := rfl
@[simp] theorem updRouter_shown (k : Nat) (g : RouterSt → RouterSt) : (s.updRouter k g).shown = s.shown := rfl
@[simp] theorem updRouter_units (k : Nat) (g : RouterSt → RouterSt) : (s.updRouter k g).units = s.units := rfl
@[simp] theorem updRouter_transit (k : Nat) (g : RouterSt → RouterSt) : (s.updRouter k g).transit = s.transit := rfl
@[simp] theorem updRouter_marks (k : Nat) (g : RouterSt → RouterSt) : (s.updRouter k g).marks = s.marks := rfl
@[simp] theorem updRouter_sent (k : Nat) (g : RouterSt → RouterSt) : (s.updRouter k g).sent = s.sent := rfl
@[simp] theorem updRouter_hops (k : Nat) (g : RouterSt → RouterSt) : (s.updRouter k g).hops = s.hops := rfl
@[simp] theorem updRouter_tablesDue (k : Nat) (g : RouterSt → RouterSt) : (s.updRouter k g).tablesDue = s.tablesDue := rfl
@[simp] theorem updRouter_cutoff (k : Nat) (g : RouterSt → RouterSt) : (s.updRouter k g).cutoff = s.cutoff := rfl
@[simp] theorem updRouter_delays (k : Nat) (g : RouterSt → RouterSt) : (s.updRouter k g).delays = s.delays := rfl
@[simp] theorem updRouter_clocks (k : Nat) (g : RouterSt → RouterSt) : (s.updRouter k g).clocks = s.clocks := rfl
@[simp] theorem updRouter_pair (k : Nat) (g : RouterSt → RouterSt) : (s.updRouter k g).pair = s.pair := rfl
@[simp] theorem updRouter_gates (k : Nat) (g : RouterSt → RouterSt) : (s.updRouter k g).gates = s.gates := rfl
@[simp] theorem updRouter_doors (k : Nat) (g : RouterSt → RouterSt) : (s.updRouter k g).doors = s.doors := rfl
@[simp] theorem updRouter_streams (k : Nat) (g : RouterSt → RouterSt) : (s.updRouter k g).streams = s.streams := rfl
@[simp] theorem updRouter_wins (k : Nat) (g : RouterSt → RouterSt) : (s.updRouter k g).wins = s.wins := rfl
@[simp] theorem updRouter_winAlive (k : Nat) (g : RouterSt → RouterSt) : (s.updRouter k g).winAlive = s.winAlive := rfl
@[simp] theorem updRouter_scans (k : Nat) (g : RouterSt → RouterSt) : (s.updRouter k g).scans = s.scans := rfl
@[simp] theorem updRouter_taps (k : Nat) (g : RouterSt → RouterSt) : (s.updRouter k g).taps = s.taps := rfl
@[simp] theorem updRouter_cores (k : Nat) (g : RouterSt → RouterSt) : (s.updRouter k g).cores = s.cores := rfl
@[simp] theorem updRouter_ports (k : Nat) (g : RouterSt → RouterSt) : (s.updRouter k g).ports = s.ports := rfl
@[simp] theorem updRouter_adj (k : Nat) (g : RouterSt → RouterSt) : (s.updRouter k g).adj = s.adj := rfl
@[simp] theorem updRouter_rpl (k : Nat) (g : RouterSt → RouterSt) : (s.updRouter k g).rpl = s.rpl := rfl
@[simp] theorem updRouter_steps (k : Nat) (g : RouterSt → RouterSt) : (s.updRouter k g).steps = s.steps := rfl
@[simp] theorem updRouter_verdicts (k : Nat) (g : RouterSt → RouterSt) : (s.updRouter k g).verdicts = s.verdicts := rfl
@[simp] theorem updRouter_replays (k : Nat) (g : RouterSt → RouterSt) : (s.updRouter k g).replays = s.replays := rfl
@[simp] theorem updRouter_setsOpened (k : Nat) (g : RouterSt → RouterSt) : (s.updRouter k g).setsOpened = s.setsOpened := rfl
@[simp] theorem updRouter_ctxs (k : Nat) (g : RouterSt → RouterSt) : (s.updRouter k g).ctxs = s.ctxs := rfl
@[simp] theorem updRouter_hist (k : Nat) (g : RouterSt → RouterSt) : (s.updRouter k g).hist = s.hist := rfl
@[simp] theorem updRouter_histStaged (k : Nat) (g : RouterSt → RouterSt) : (s.updRouter k g).histStaged = s.histStaged := rfl
@[simp] theorem updRouter_histLatch (k : Nat) (g : RouterSt → RouterSt) : (s.updRouter k g).histLatch = s.histLatch := rfl
@[simp] theorem updRouter_drainSince (k : Nat) (g : RouterSt → RouterSt) : (s.updRouter k g).drainSince = s.drainSince := rfl
@[simp] theorem updRouter_halls (k : Nat) (g : RouterSt → RouterSt) : (s.updRouter k g).halls = s.halls := rfl
@[simp] theorem updRouter_resets (k : Nat) (g : RouterSt → RouterSt) : (s.updRouter k g).resets = s.resets := rfl
@[simp] theorem updRouter_hangs (k : Nat) (g : RouterSt → RouterSt) : (s.updRouter k g).hangs = s.hangs := rfl
@[simp] theorem updRouter_cut (k : Nat) (g : RouterSt → RouterSt) : (s.updRouter k g).cut = s.cut := rfl
@[simp] theorem updRouter_cutNo (k : Nat) (g : RouterSt → RouterSt) : (s.updRouter k g).cutNo = s.cutNo := rfl
@[simp] theorem updRouter_cutDue (k : Nat) (g : RouterSt → RouterSt) : (s.updRouter k g).cutDue = s.cutDue := rfl
@[simp] theorem updRouter_cutUnits (k : Nat) (g : RouterSt → RouterSt) : (s.updRouter k g).cutUnits = s.cutUnits := rfl
@[simp] theorem updRouter_chans (k : Nat) (g : RouterSt → RouterSt) : (s.updRouter k g).chans = s.chans := rfl
@[simp] theorem updRouter_stop (k : Nat) (g : RouterSt → RouterSt) : (s.updRouter k g).stop = s.stop := rfl
@[simp] theorem updRouter_voids (k : Nat) (g : RouterSt → RouterSt) : (s.updRouter k g).voids = s.voids := rfl
@[simp] theorem updRouter_bins (k : Nat) (g : RouterSt → RouterSt) : (s.updRouter k g).bins = s.bins := rfl
@[simp] theorem updRouter_bank (k : Nat) (g : RouterSt → RouterSt) : (s.updRouter k g).bank = s.bank := rfl
@[simp] theorem updRouter_segs (k : Nat) (g : RouterSt → RouterSt) : (s.updRouter k g).segs = s.segs := rfl
@[simp] theorem updRouter_attic (k : Nat) (g : RouterSt → RouterSt) : (s.updRouter k g).attic = s.attic := rfl
@[simp] theorem updRouter_mem (k : Nat) (g : RouterSt → RouterSt) : (s.updRouter k g).mem = s.mem := rfl
@[simp] theorem updRouter_variant (k : Nat) (g : RouterSt → RouterSt) : (s.updRouter k g).variant = s.variant := rfl
@[simp] theorem updRouter_mbx (k : Nat) (g : RouterSt → RouterSt) : (s.updRouter k g).mbx = s.mbx := rfl
@[simp] theorem updRouter_twk (k : Nat) (g : RouterSt → RouterSt) : (s.updRouter k g).twk = s.twk := rfl
@[simp] theorem updRouter_mgt (k : Nat) (g : RouterSt → RouterSt) : (s.updRouter k g).mgt = s.mgt := rfl
@[simp] theorem updRouter_dbg (k : Nat) (g : RouterSt → RouterSt) : (s.updRouter k g).dbg = s.dbg := rfl
@[simp] theorem updRouter_cels (k : Nat) (g : RouterSt → RouterSt) : (s.updRouter k g).cels = s.cels := rfl
@[simp] theorem updRouter_reloads (k : Nat) (g : RouterSt → RouterSt) : (s.updRouter k g).reloads = s.reloads := rfl
@[simp] theorem updRouter_chanMap (k : Nat) (g : RouterSt → RouterSt) : (s.updRouter k g).chanMap = s.chanMap := rfl
@[simp] theorem updRouter_descCopy (k : Nat) (g : RouterSt → RouterSt) : (s.updRouter k g).descCopy = s.descCopy := rfl
@[simp] theorem updRouter_seeds (k : Nat) (g : RouterSt → RouterSt) : (s.updRouter k g).seeds = s.seeds := rfl
@[simp] theorem updRouter_idleKills (k : Nat) (g : RouterSt → RouterSt) : (s.updRouter k g).idleKills = s.idleKills := rfl
@[simp] theorem updRouter_prv (k : Nat) (g : RouterSt → RouterSt) : (s.updRouter k g).prv = s.prv := rfl
@[simp] theorem updRouter_pairs (k : Nat) (g : RouterSt → RouterSt) : (s.updRouter k g).pairs = s.pairs := rfl
@[simp] theorem updRouter_steepFirst (k : Nat) (g : RouterSt → RouterSt) : (s.updRouter k g).steepFirst = s.steepFirst := rfl
@[simp] theorem updRouter_stp (k : Nat) (g : RouterSt → RouterSt) : (s.updRouter k g).stp = s.stp := rfl
@[simp] theorem updRouter_engs (k : Nat) (g : RouterSt → RouterSt) : (s.updRouter k g).engs = s.engs := rfl
@[simp] theorem updRouter_plan (k : Nat) (g : RouterSt → RouterSt) : (s.updRouter k g).plan = s.plan := rfl
@[simp] theorem updRouter_grist (k : Nat) (g : RouterSt → RouterSt) : (s.updRouter k g).grist = s.grist := rfl
@[simp] theorem updRouter_ana (k : Nat) (g : RouterSt → RouterSt) : (s.updRouter k g).ana = s.ana := rfl
@[simp] theorem updRouter_dl (k : Nat) (g : RouterSt → RouterSt) : (s.updRouter k g).dl = s.dl := rfl
@[simp] theorem updRouter_fw (k : Nat) (g : RouterSt → RouterSt) : (s.updRouter k g).fw = s.fw := rfl
@[simp] theorem updRouter_sens (k : Nat) (g : RouterSt → RouterSt) : (s.updRouter k g).sens = s.sens := rfl
@[simp] theorem updRouter_thm (k : Nat) (g : RouterSt → RouterSt) : (s.updRouter k g).thm = s.thm := rfl
@[simp] theorem updRouter_emerg (k : Nat) (g : RouterSt → RouterSt) : (s.updRouter k g).emerg = s.emerg := rfl
@[simp] theorem updRouter_pad (k : Nat) (g : RouterSt → RouterSt) : (s.updRouter k g).pad = s.pad := rfl
@[simp] theorem updRouter_resetsDue (k : Nat) (g : RouterSt → RouterSt) : (s.updRouter k g).resetsDue = s.resetsDue := rfl
@[simp] theorem updRouter_latch (k : Nat) (g : RouterSt → RouterSt) : (s.updRouter k g).latch = s.latch := rfl
@[simp] theorem updRouter_tree (k : Nat) (g : RouterSt → RouterSt) : (s.updRouter k g).tree = s.tree := rfl
@[simp] theorem updRouter_refLost (k : Nat) (g : RouterSt → RouterSt) : (s.updRouter k g).refLost = s.refLost := rfl
@[simp] theorem updRouter_histFlash (k : Nat) (g : RouterSt → RouterSt) : (s.updRouter k g).histFlash = s.histFlash := rfl
@[simp] theorem updRouter_tickAt (k : Nat) (g : RouterSt → RouterSt) : (s.updRouter k g).tickAt = s.tickAt := rfl
@[simp] theorem updRouter_passSeen (k : Nat) (g : RouterSt → RouterSt) : (s.updRouter k g).passSeen = s.passSeen := rfl

/-! The entries of `hops`. -/
@[simp] theorem hop_updHop_same (k : Nat) (g : HopSt → HopSt) : (s.updHop k g).hop k = g (s.hop k) := Tab.get_upd_same _ _ _ _
theorem hop_updHop_other {k j : Nat} (h : j ≠ k) (g : HopSt → HopSt) : (s.updHop k g).hop j = s.hop j := Tab.get_upd_other _ _ h _
theorem hop_congr {t : State} (h : t.hops = s.hops) (k : Nat) : t.hop k = s.hop k := by unfold State.hop; rw [h]
@[simp] theorem updHop_pending (k : Nat) (g : HopSt → HopSt) : (s.updHop k g).pending = s.pending := rfl
@[simp] theorem updHop_wall (k : Nat) (g : HopSt → HopSt) : (s.updHop k g).wall = s.wall := rfl
@[simp] theorem updHop_fresh (k : Nat) (g : HopSt → HopSt) : (s.updHop k g).fresh = s.fresh := rfl
@[simp] theorem updHop_regs (k : Nat) (g : HopSt → HopSt) : (s.updHop k g).regs = s.regs := rfl
@[simp] theorem updHop_ecnt (k : Nat) (g : HopSt → HopSt) : (s.updHop k g).ecnt = s.ecnt := rfl
@[simp] theorem updHop_rcnt (k : Nat) (g : HopSt → HopSt) : (s.updHop k g).rcnt = s.rcnt := rfl
@[simp] theorem updHop_fill (k : Nat) (g : HopSt → HopSt) : (s.updHop k g).fill = s.fill := rfl
@[simp] theorem updHop_shown (k : Nat) (g : HopSt → HopSt) : (s.updHop k g).shown = s.shown := rfl
@[simp] theorem updHop_units (k : Nat) (g : HopSt → HopSt) : (s.updHop k g).units = s.units := rfl
@[simp] theorem updHop_transit (k : Nat) (g : HopSt → HopSt) : (s.updHop k g).transit = s.transit := rfl
@[simp] theorem updHop_marks (k : Nat) (g : HopSt → HopSt) : (s.updHop k g).marks = s.marks := rfl
@[simp] theorem updHop_sent (k : Nat) (g : HopSt → HopSt) : (s.updHop k g).sent = s.sent := rfl
@[simp] theorem updHop_routers (k : Nat) (g : HopSt → HopSt) : (s.updHop k g).routers = s.routers := rfl
@[simp] theorem updHop_tablesDue (k : Nat) (g : HopSt → HopSt) : (s.updHop k g).tablesDue = s.tablesDue := rfl
@[simp] theorem updHop_cutoff (k : Nat) (g : HopSt → HopSt) : (s.updHop k g).cutoff = s.cutoff := rfl
@[simp] theorem updHop_delays (k : Nat) (g : HopSt → HopSt) : (s.updHop k g).delays = s.delays := rfl
@[simp] theorem updHop_clocks (k : Nat) (g : HopSt → HopSt) : (s.updHop k g).clocks = s.clocks := rfl
@[simp] theorem updHop_pair (k : Nat) (g : HopSt → HopSt) : (s.updHop k g).pair = s.pair := rfl
@[simp] theorem updHop_gates (k : Nat) (g : HopSt → HopSt) : (s.updHop k g).gates = s.gates := rfl
@[simp] theorem updHop_doors (k : Nat) (g : HopSt → HopSt) : (s.updHop k g).doors = s.doors := rfl
@[simp] theorem updHop_streams (k : Nat) (g : HopSt → HopSt) : (s.updHop k g).streams = s.streams := rfl
@[simp] theorem updHop_wins (k : Nat) (g : HopSt → HopSt) : (s.updHop k g).wins = s.wins := rfl
@[simp] theorem updHop_winAlive (k : Nat) (g : HopSt → HopSt) : (s.updHop k g).winAlive = s.winAlive := rfl
@[simp] theorem updHop_scans (k : Nat) (g : HopSt → HopSt) : (s.updHop k g).scans = s.scans := rfl
@[simp] theorem updHop_taps (k : Nat) (g : HopSt → HopSt) : (s.updHop k g).taps = s.taps := rfl
@[simp] theorem updHop_cores (k : Nat) (g : HopSt → HopSt) : (s.updHop k g).cores = s.cores := rfl
@[simp] theorem updHop_ports (k : Nat) (g : HopSt → HopSt) : (s.updHop k g).ports = s.ports := rfl
@[simp] theorem updHop_adj (k : Nat) (g : HopSt → HopSt) : (s.updHop k g).adj = s.adj := rfl
@[simp] theorem updHop_rpl (k : Nat) (g : HopSt → HopSt) : (s.updHop k g).rpl = s.rpl := rfl
@[simp] theorem updHop_steps (k : Nat) (g : HopSt → HopSt) : (s.updHop k g).steps = s.steps := rfl
@[simp] theorem updHop_verdicts (k : Nat) (g : HopSt → HopSt) : (s.updHop k g).verdicts = s.verdicts := rfl
@[simp] theorem updHop_replays (k : Nat) (g : HopSt → HopSt) : (s.updHop k g).replays = s.replays := rfl
@[simp] theorem updHop_setsOpened (k : Nat) (g : HopSt → HopSt) : (s.updHop k g).setsOpened = s.setsOpened := rfl
@[simp] theorem updHop_ctxs (k : Nat) (g : HopSt → HopSt) : (s.updHop k g).ctxs = s.ctxs := rfl
@[simp] theorem updHop_hist (k : Nat) (g : HopSt → HopSt) : (s.updHop k g).hist = s.hist := rfl
@[simp] theorem updHop_histStaged (k : Nat) (g : HopSt → HopSt) : (s.updHop k g).histStaged = s.histStaged := rfl
@[simp] theorem updHop_histLatch (k : Nat) (g : HopSt → HopSt) : (s.updHop k g).histLatch = s.histLatch := rfl
@[simp] theorem updHop_drainSince (k : Nat) (g : HopSt → HopSt) : (s.updHop k g).drainSince = s.drainSince := rfl
@[simp] theorem updHop_halls (k : Nat) (g : HopSt → HopSt) : (s.updHop k g).halls = s.halls := rfl
@[simp] theorem updHop_resets (k : Nat) (g : HopSt → HopSt) : (s.updHop k g).resets = s.resets := rfl
@[simp] theorem updHop_hangs (k : Nat) (g : HopSt → HopSt) : (s.updHop k g).hangs = s.hangs := rfl
@[simp] theorem updHop_cut (k : Nat) (g : HopSt → HopSt) : (s.updHop k g).cut = s.cut := rfl
@[simp] theorem updHop_cutNo (k : Nat) (g : HopSt → HopSt) : (s.updHop k g).cutNo = s.cutNo := rfl
@[simp] theorem updHop_cutDue (k : Nat) (g : HopSt → HopSt) : (s.updHop k g).cutDue = s.cutDue := rfl
@[simp] theorem updHop_cutUnits (k : Nat) (g : HopSt → HopSt) : (s.updHop k g).cutUnits = s.cutUnits := rfl
@[simp] theorem updHop_chans (k : Nat) (g : HopSt → HopSt) : (s.updHop k g).chans = s.chans := rfl
@[simp] theorem updHop_stop (k : Nat) (g : HopSt → HopSt) : (s.updHop k g).stop = s.stop := rfl
@[simp] theorem updHop_voids (k : Nat) (g : HopSt → HopSt) : (s.updHop k g).voids = s.voids := rfl
@[simp] theorem updHop_bins (k : Nat) (g : HopSt → HopSt) : (s.updHop k g).bins = s.bins := rfl
@[simp] theorem updHop_bank (k : Nat) (g : HopSt → HopSt) : (s.updHop k g).bank = s.bank := rfl
@[simp] theorem updHop_segs (k : Nat) (g : HopSt → HopSt) : (s.updHop k g).segs = s.segs := rfl
@[simp] theorem updHop_attic (k : Nat) (g : HopSt → HopSt) : (s.updHop k g).attic = s.attic := rfl
@[simp] theorem updHop_mem (k : Nat) (g : HopSt → HopSt) : (s.updHop k g).mem = s.mem := rfl
@[simp] theorem updHop_variant (k : Nat) (g : HopSt → HopSt) : (s.updHop k g).variant = s.variant := rfl
@[simp] theorem updHop_mbx (k : Nat) (g : HopSt → HopSt) : (s.updHop k g).mbx = s.mbx := rfl
@[simp] theorem updHop_twk (k : Nat) (g : HopSt → HopSt) : (s.updHop k g).twk = s.twk := rfl
@[simp] theorem updHop_mgt (k : Nat) (g : HopSt → HopSt) : (s.updHop k g).mgt = s.mgt := rfl
@[simp] theorem updHop_dbg (k : Nat) (g : HopSt → HopSt) : (s.updHop k g).dbg = s.dbg := rfl
@[simp] theorem updHop_cels (k : Nat) (g : HopSt → HopSt) : (s.updHop k g).cels = s.cels := rfl
@[simp] theorem updHop_reloads (k : Nat) (g : HopSt → HopSt) : (s.updHop k g).reloads = s.reloads := rfl
@[simp] theorem updHop_chanMap (k : Nat) (g : HopSt → HopSt) : (s.updHop k g).chanMap = s.chanMap := rfl
@[simp] theorem updHop_descCopy (k : Nat) (g : HopSt → HopSt) : (s.updHop k g).descCopy = s.descCopy := rfl
@[simp] theorem updHop_seeds (k : Nat) (g : HopSt → HopSt) : (s.updHop k g).seeds = s.seeds := rfl
@[simp] theorem updHop_idleKills (k : Nat) (g : HopSt → HopSt) : (s.updHop k g).idleKills = s.idleKills := rfl
@[simp] theorem updHop_prv (k : Nat) (g : HopSt → HopSt) : (s.updHop k g).prv = s.prv := rfl
@[simp] theorem updHop_pairs (k : Nat) (g : HopSt → HopSt) : (s.updHop k g).pairs = s.pairs := rfl
@[simp] theorem updHop_steepFirst (k : Nat) (g : HopSt → HopSt) : (s.updHop k g).steepFirst = s.steepFirst := rfl
@[simp] theorem updHop_stp (k : Nat) (g : HopSt → HopSt) : (s.updHop k g).stp = s.stp := rfl
@[simp] theorem updHop_engs (k : Nat) (g : HopSt → HopSt) : (s.updHop k g).engs = s.engs := rfl
@[simp] theorem updHop_plan (k : Nat) (g : HopSt → HopSt) : (s.updHop k g).plan = s.plan := rfl
@[simp] theorem updHop_grist (k : Nat) (g : HopSt → HopSt) : (s.updHop k g).grist = s.grist := rfl
@[simp] theorem updHop_ana (k : Nat) (g : HopSt → HopSt) : (s.updHop k g).ana = s.ana := rfl
@[simp] theorem updHop_dl (k : Nat) (g : HopSt → HopSt) : (s.updHop k g).dl = s.dl := rfl
@[simp] theorem updHop_fw (k : Nat) (g : HopSt → HopSt) : (s.updHop k g).fw = s.fw := rfl
@[simp] theorem updHop_sens (k : Nat) (g : HopSt → HopSt) : (s.updHop k g).sens = s.sens := rfl
@[simp] theorem updHop_thm (k : Nat) (g : HopSt → HopSt) : (s.updHop k g).thm = s.thm := rfl
@[simp] theorem updHop_emerg (k : Nat) (g : HopSt → HopSt) : (s.updHop k g).emerg = s.emerg := rfl
@[simp] theorem updHop_pad (k : Nat) (g : HopSt → HopSt) : (s.updHop k g).pad = s.pad := rfl
@[simp] theorem updHop_resetsDue (k : Nat) (g : HopSt → HopSt) : (s.updHop k g).resetsDue = s.resetsDue := rfl
@[simp] theorem updHop_latch (k : Nat) (g : HopSt → HopSt) : (s.updHop k g).latch = s.latch := rfl
@[simp] theorem updHop_tree (k : Nat) (g : HopSt → HopSt) : (s.updHop k g).tree = s.tree := rfl
@[simp] theorem updHop_refLost (k : Nat) (g : HopSt → HopSt) : (s.updHop k g).refLost = s.refLost := rfl
@[simp] theorem updHop_histFlash (k : Nat) (g : HopSt → HopSt) : (s.updHop k g).histFlash = s.histFlash := rfl
@[simp] theorem updHop_tickAt (k : Nat) (g : HopSt → HopSt) : (s.updHop k g).tickAt = s.tickAt := rfl
@[simp] theorem updHop_passSeen (k : Nat) (g : HopSt → HopSt) : (s.updHop k g).passSeen = s.passSeen := rfl

/-! The entries of `delays`. -/
@[simp] theorem delay_updDelay_same (k : Nat) (g : DelaySt → DelaySt) : (s.updDelay k g).delay k = g (s.delay k) := Tab.get_upd_same _ _ _ _
theorem delay_updDelay_other {k j : Nat} (h : j ≠ k) (g : DelaySt → DelaySt) : (s.updDelay k g).delay j = s.delay j := Tab.get_upd_other _ _ h _
theorem delay_congr {t : State} (h : t.delays = s.delays) (k : Nat) : t.delay k = s.delay k := by unfold State.delay; rw [h]
@[simp] theorem updDelay_pending (k : Nat) (g : DelaySt → DelaySt) : (s.updDelay k g).pending = s.pending := rfl
@[simp] theorem updDelay_wall (k : Nat) (g : DelaySt → DelaySt) : (s.updDelay k g).wall = s.wall := rfl
@[simp] theorem updDelay_fresh (k : Nat) (g : DelaySt → DelaySt) : (s.updDelay k g).fresh = s.fresh := rfl
@[simp] theorem updDelay_regs (k : Nat) (g : DelaySt → DelaySt) : (s.updDelay k g).regs = s.regs := rfl
@[simp] theorem updDelay_ecnt (k : Nat) (g : DelaySt → DelaySt) : (s.updDelay k g).ecnt = s.ecnt := rfl
@[simp] theorem updDelay_rcnt (k : Nat) (g : DelaySt → DelaySt) : (s.updDelay k g).rcnt = s.rcnt := rfl
@[simp] theorem updDelay_fill (k : Nat) (g : DelaySt → DelaySt) : (s.updDelay k g).fill = s.fill := rfl
@[simp] theorem updDelay_shown (k : Nat) (g : DelaySt → DelaySt) : (s.updDelay k g).shown = s.shown := rfl
@[simp] theorem updDelay_units (k : Nat) (g : DelaySt → DelaySt) : (s.updDelay k g).units = s.units := rfl
@[simp] theorem updDelay_transit (k : Nat) (g : DelaySt → DelaySt) : (s.updDelay k g).transit = s.transit := rfl
@[simp] theorem updDelay_marks (k : Nat) (g : DelaySt → DelaySt) : (s.updDelay k g).marks = s.marks := rfl
@[simp] theorem updDelay_sent (k : Nat) (g : DelaySt → DelaySt) : (s.updDelay k g).sent = s.sent := rfl
@[simp] theorem updDelay_routers (k : Nat) (g : DelaySt → DelaySt) : (s.updDelay k g).routers = s.routers := rfl
@[simp] theorem updDelay_hops (k : Nat) (g : DelaySt → DelaySt) : (s.updDelay k g).hops = s.hops := rfl
@[simp] theorem updDelay_tablesDue (k : Nat) (g : DelaySt → DelaySt) : (s.updDelay k g).tablesDue = s.tablesDue := rfl
@[simp] theorem updDelay_cutoff (k : Nat) (g : DelaySt → DelaySt) : (s.updDelay k g).cutoff = s.cutoff := rfl
@[simp] theorem updDelay_clocks (k : Nat) (g : DelaySt → DelaySt) : (s.updDelay k g).clocks = s.clocks := rfl
@[simp] theorem updDelay_pair (k : Nat) (g : DelaySt → DelaySt) : (s.updDelay k g).pair = s.pair := rfl
@[simp] theorem updDelay_gates (k : Nat) (g : DelaySt → DelaySt) : (s.updDelay k g).gates = s.gates := rfl
@[simp] theorem updDelay_doors (k : Nat) (g : DelaySt → DelaySt) : (s.updDelay k g).doors = s.doors := rfl
@[simp] theorem updDelay_streams (k : Nat) (g : DelaySt → DelaySt) : (s.updDelay k g).streams = s.streams := rfl
@[simp] theorem updDelay_wins (k : Nat) (g : DelaySt → DelaySt) : (s.updDelay k g).wins = s.wins := rfl
@[simp] theorem updDelay_winAlive (k : Nat) (g : DelaySt → DelaySt) : (s.updDelay k g).winAlive = s.winAlive := rfl
@[simp] theorem updDelay_scans (k : Nat) (g : DelaySt → DelaySt) : (s.updDelay k g).scans = s.scans := rfl
@[simp] theorem updDelay_taps (k : Nat) (g : DelaySt → DelaySt) : (s.updDelay k g).taps = s.taps := rfl
@[simp] theorem updDelay_cores (k : Nat) (g : DelaySt → DelaySt) : (s.updDelay k g).cores = s.cores := rfl
@[simp] theorem updDelay_ports (k : Nat) (g : DelaySt → DelaySt) : (s.updDelay k g).ports = s.ports := rfl
@[simp] theorem updDelay_adj (k : Nat) (g : DelaySt → DelaySt) : (s.updDelay k g).adj = s.adj := rfl
@[simp] theorem updDelay_rpl (k : Nat) (g : DelaySt → DelaySt) : (s.updDelay k g).rpl = s.rpl := rfl
@[simp] theorem updDelay_steps (k : Nat) (g : DelaySt → DelaySt) : (s.updDelay k g).steps = s.steps := rfl
@[simp] theorem updDelay_verdicts (k : Nat) (g : DelaySt → DelaySt) : (s.updDelay k g).verdicts = s.verdicts := rfl
@[simp] theorem updDelay_replays (k : Nat) (g : DelaySt → DelaySt) : (s.updDelay k g).replays = s.replays := rfl
@[simp] theorem updDelay_setsOpened (k : Nat) (g : DelaySt → DelaySt) : (s.updDelay k g).setsOpened = s.setsOpened := rfl
@[simp] theorem updDelay_ctxs (k : Nat) (g : DelaySt → DelaySt) : (s.updDelay k g).ctxs = s.ctxs := rfl
@[simp] theorem updDelay_hist (k : Nat) (g : DelaySt → DelaySt) : (s.updDelay k g).hist = s.hist := rfl
@[simp] theorem updDelay_histStaged (k : Nat) (g : DelaySt → DelaySt) : (s.updDelay k g).histStaged = s.histStaged := rfl
@[simp] theorem updDelay_histLatch (k : Nat) (g : DelaySt → DelaySt) : (s.updDelay k g).histLatch = s.histLatch := rfl
@[simp] theorem updDelay_drainSince (k : Nat) (g : DelaySt → DelaySt) : (s.updDelay k g).drainSince = s.drainSince := rfl
@[simp] theorem updDelay_halls (k : Nat) (g : DelaySt → DelaySt) : (s.updDelay k g).halls = s.halls := rfl
@[simp] theorem updDelay_resets (k : Nat) (g : DelaySt → DelaySt) : (s.updDelay k g).resets = s.resets := rfl
@[simp] theorem updDelay_hangs (k : Nat) (g : DelaySt → DelaySt) : (s.updDelay k g).hangs = s.hangs := rfl
@[simp] theorem updDelay_cut (k : Nat) (g : DelaySt → DelaySt) : (s.updDelay k g).cut = s.cut := rfl
@[simp] theorem updDelay_cutNo (k : Nat) (g : DelaySt → DelaySt) : (s.updDelay k g).cutNo = s.cutNo := rfl
@[simp] theorem updDelay_cutDue (k : Nat) (g : DelaySt → DelaySt) : (s.updDelay k g).cutDue = s.cutDue := rfl
@[simp] theorem updDelay_cutUnits (k : Nat) (g : DelaySt → DelaySt) : (s.updDelay k g).cutUnits = s.cutUnits := rfl
@[simp] theorem updDelay_chans (k : Nat) (g : DelaySt → DelaySt) : (s.updDelay k g).chans = s.chans := rfl
@[simp] theorem updDelay_stop (k : Nat) (g : DelaySt → DelaySt) : (s.updDelay k g).stop = s.stop := rfl
@[simp] theorem updDelay_voids (k : Nat) (g : DelaySt → DelaySt) : (s.updDelay k g).voids = s.voids := rfl
@[simp] theorem updDelay_bins (k : Nat) (g : DelaySt → DelaySt) : (s.updDelay k g).bins = s.bins := rfl
@[simp] theorem updDelay_bank (k : Nat) (g : DelaySt → DelaySt) : (s.updDelay k g).bank = s.bank := rfl
@[simp] theorem updDelay_segs (k : Nat) (g : DelaySt → DelaySt) : (s.updDelay k g).segs = s.segs := rfl
@[simp] theorem updDelay_attic (k : Nat) (g : DelaySt → DelaySt) : (s.updDelay k g).attic = s.attic := rfl
@[simp] theorem updDelay_mem (k : Nat) (g : DelaySt → DelaySt) : (s.updDelay k g).mem = s.mem := rfl
@[simp] theorem updDelay_variant (k : Nat) (g : DelaySt → DelaySt) : (s.updDelay k g).variant = s.variant := rfl
@[simp] theorem updDelay_mbx (k : Nat) (g : DelaySt → DelaySt) : (s.updDelay k g).mbx = s.mbx := rfl
@[simp] theorem updDelay_twk (k : Nat) (g : DelaySt → DelaySt) : (s.updDelay k g).twk = s.twk := rfl
@[simp] theorem updDelay_mgt (k : Nat) (g : DelaySt → DelaySt) : (s.updDelay k g).mgt = s.mgt := rfl
@[simp] theorem updDelay_dbg (k : Nat) (g : DelaySt → DelaySt) : (s.updDelay k g).dbg = s.dbg := rfl
@[simp] theorem updDelay_cels (k : Nat) (g : DelaySt → DelaySt) : (s.updDelay k g).cels = s.cels := rfl
@[simp] theorem updDelay_reloads (k : Nat) (g : DelaySt → DelaySt) : (s.updDelay k g).reloads = s.reloads := rfl
@[simp] theorem updDelay_chanMap (k : Nat) (g : DelaySt → DelaySt) : (s.updDelay k g).chanMap = s.chanMap := rfl
@[simp] theorem updDelay_descCopy (k : Nat) (g : DelaySt → DelaySt) : (s.updDelay k g).descCopy = s.descCopy := rfl
@[simp] theorem updDelay_seeds (k : Nat) (g : DelaySt → DelaySt) : (s.updDelay k g).seeds = s.seeds := rfl
@[simp] theorem updDelay_idleKills (k : Nat) (g : DelaySt → DelaySt) : (s.updDelay k g).idleKills = s.idleKills := rfl
@[simp] theorem updDelay_prv (k : Nat) (g : DelaySt → DelaySt) : (s.updDelay k g).prv = s.prv := rfl
@[simp] theorem updDelay_pairs (k : Nat) (g : DelaySt → DelaySt) : (s.updDelay k g).pairs = s.pairs := rfl
@[simp] theorem updDelay_steepFirst (k : Nat) (g : DelaySt → DelaySt) : (s.updDelay k g).steepFirst = s.steepFirst := rfl
@[simp] theorem updDelay_stp (k : Nat) (g : DelaySt → DelaySt) : (s.updDelay k g).stp = s.stp := rfl
@[simp] theorem updDelay_engs (k : Nat) (g : DelaySt → DelaySt) : (s.updDelay k g).engs = s.engs := rfl
@[simp] theorem updDelay_plan (k : Nat) (g : DelaySt → DelaySt) : (s.updDelay k g).plan = s.plan := rfl
@[simp] theorem updDelay_grist (k : Nat) (g : DelaySt → DelaySt) : (s.updDelay k g).grist = s.grist := rfl
@[simp] theorem updDelay_ana (k : Nat) (g : DelaySt → DelaySt) : (s.updDelay k g).ana = s.ana := rfl
@[simp] theorem updDelay_dl (k : Nat) (g : DelaySt → DelaySt) : (s.updDelay k g).dl = s.dl := rfl
@[simp] theorem updDelay_fw (k : Nat) (g : DelaySt → DelaySt) : (s.updDelay k g).fw = s.fw := rfl
@[simp] theorem updDelay_sens (k : Nat) (g : DelaySt → DelaySt) : (s.updDelay k g).sens = s.sens := rfl
@[simp] theorem updDelay_thm (k : Nat) (g : DelaySt → DelaySt) : (s.updDelay k g).thm = s.thm := rfl
@[simp] theorem updDelay_emerg (k : Nat) (g : DelaySt → DelaySt) : (s.updDelay k g).emerg = s.emerg := rfl
@[simp] theorem updDelay_pad (k : Nat) (g : DelaySt → DelaySt) : (s.updDelay k g).pad = s.pad := rfl
@[simp] theorem updDelay_resetsDue (k : Nat) (g : DelaySt → DelaySt) : (s.updDelay k g).resetsDue = s.resetsDue := rfl
@[simp] theorem updDelay_latch (k : Nat) (g : DelaySt → DelaySt) : (s.updDelay k g).latch = s.latch := rfl
@[simp] theorem updDelay_tree (k : Nat) (g : DelaySt → DelaySt) : (s.updDelay k g).tree = s.tree := rfl
@[simp] theorem updDelay_refLost (k : Nat) (g : DelaySt → DelaySt) : (s.updDelay k g).refLost = s.refLost := rfl
@[simp] theorem updDelay_histFlash (k : Nat) (g : DelaySt → DelaySt) : (s.updDelay k g).histFlash = s.histFlash := rfl
@[simp] theorem updDelay_tickAt (k : Nat) (g : DelaySt → DelaySt) : (s.updDelay k g).tickAt = s.tickAt := rfl
@[simp] theorem updDelay_passSeen (k : Nat) (g : DelaySt → DelaySt) : (s.updDelay k g).passSeen = s.passSeen := rfl

/-! The entries of `clocks`. -/
@[simp] theorem clock_updClock_same (k : Nat) (g : ClockSt → ClockSt) : (s.updClock k g).clock k = g (s.clock k) := Tab.get_upd_same _ _ _ _
theorem clock_updClock_other {k j : Nat} (h : j ≠ k) (g : ClockSt → ClockSt) : (s.updClock k g).clock j = s.clock j := Tab.get_upd_other _ _ h _
theorem clock_congr {t : State} (h : t.clocks = s.clocks) (k : Nat) : t.clock k = s.clock k := by unfold State.clock; rw [h]
@[simp] theorem updClock_pending (k : Nat) (g : ClockSt → ClockSt) : (s.updClock k g).pending = s.pending := rfl
@[simp] theorem updClock_wall (k : Nat) (g : ClockSt → ClockSt) : (s.updClock k g).wall = s.wall := rfl
@[simp] theorem updClock_fresh (k : Nat) (g : ClockSt → ClockSt) : (s.updClock k g).fresh = s.fresh := rfl
@[simp] theorem updClock_regs (k : Nat) (g : ClockSt → ClockSt) : (s.updClock k g).regs = s.regs := rfl
@[simp] theorem updClock_ecnt (k : Nat) (g : ClockSt → ClockSt) : (s.updClock k g).ecnt = s.ecnt := rfl
@[simp] theorem updClock_rcnt (k : Nat) (g : ClockSt → ClockSt) : (s.updClock k g).rcnt = s.rcnt := rfl
@[simp] theorem updClock_fill (k : Nat) (g : ClockSt → ClockSt) : (s.updClock k g).fill = s.fill := rfl
@[simp] theorem updClock_shown (k : Nat) (g : ClockSt → ClockSt) : (s.updClock k g).shown = s.shown := rfl
@[simp] theorem updClock_units (k : Nat) (g : ClockSt → ClockSt) : (s.updClock k g).units = s.units := rfl
@[simp] theorem updClock_transit (k : Nat) (g : ClockSt → ClockSt) : (s.updClock k g).transit = s.transit := rfl
@[simp] theorem updClock_marks (k : Nat) (g : ClockSt → ClockSt) : (s.updClock k g).marks = s.marks := rfl
@[simp] theorem updClock_sent (k : Nat) (g : ClockSt → ClockSt) : (s.updClock k g).sent = s.sent := rfl
@[simp] theorem updClock_routers (k : Nat) (g : ClockSt → ClockSt) : (s.updClock k g).routers = s.routers := rfl
@[simp] theorem updClock_hops (k : Nat) (g : ClockSt → ClockSt) : (s.updClock k g).hops = s.hops := rfl
@[simp] theorem updClock_tablesDue (k : Nat) (g : ClockSt → ClockSt) : (s.updClock k g).tablesDue = s.tablesDue := rfl
@[simp] theorem updClock_cutoff (k : Nat) (g : ClockSt → ClockSt) : (s.updClock k g).cutoff = s.cutoff := rfl
@[simp] theorem updClock_delays (k : Nat) (g : ClockSt → ClockSt) : (s.updClock k g).delays = s.delays := rfl
@[simp] theorem updClock_pair (k : Nat) (g : ClockSt → ClockSt) : (s.updClock k g).pair = s.pair := rfl
@[simp] theorem updClock_gates (k : Nat) (g : ClockSt → ClockSt) : (s.updClock k g).gates = s.gates := rfl
@[simp] theorem updClock_doors (k : Nat) (g : ClockSt → ClockSt) : (s.updClock k g).doors = s.doors := rfl
@[simp] theorem updClock_streams (k : Nat) (g : ClockSt → ClockSt) : (s.updClock k g).streams = s.streams := rfl
@[simp] theorem updClock_wins (k : Nat) (g : ClockSt → ClockSt) : (s.updClock k g).wins = s.wins := rfl
@[simp] theorem updClock_winAlive (k : Nat) (g : ClockSt → ClockSt) : (s.updClock k g).winAlive = s.winAlive := rfl
@[simp] theorem updClock_scans (k : Nat) (g : ClockSt → ClockSt) : (s.updClock k g).scans = s.scans := rfl
@[simp] theorem updClock_taps (k : Nat) (g : ClockSt → ClockSt) : (s.updClock k g).taps = s.taps := rfl
@[simp] theorem updClock_cores (k : Nat) (g : ClockSt → ClockSt) : (s.updClock k g).cores = s.cores := rfl
@[simp] theorem updClock_ports (k : Nat) (g : ClockSt → ClockSt) : (s.updClock k g).ports = s.ports := rfl
@[simp] theorem updClock_adj (k : Nat) (g : ClockSt → ClockSt) : (s.updClock k g).adj = s.adj := rfl
@[simp] theorem updClock_rpl (k : Nat) (g : ClockSt → ClockSt) : (s.updClock k g).rpl = s.rpl := rfl
@[simp] theorem updClock_steps (k : Nat) (g : ClockSt → ClockSt) : (s.updClock k g).steps = s.steps := rfl
@[simp] theorem updClock_verdicts (k : Nat) (g : ClockSt → ClockSt) : (s.updClock k g).verdicts = s.verdicts := rfl
@[simp] theorem updClock_replays (k : Nat) (g : ClockSt → ClockSt) : (s.updClock k g).replays = s.replays := rfl
@[simp] theorem updClock_setsOpened (k : Nat) (g : ClockSt → ClockSt) : (s.updClock k g).setsOpened = s.setsOpened := rfl
@[simp] theorem updClock_ctxs (k : Nat) (g : ClockSt → ClockSt) : (s.updClock k g).ctxs = s.ctxs := rfl
@[simp] theorem updClock_hist (k : Nat) (g : ClockSt → ClockSt) : (s.updClock k g).hist = s.hist := rfl
@[simp] theorem updClock_histStaged (k : Nat) (g : ClockSt → ClockSt) : (s.updClock k g).histStaged = s.histStaged := rfl
@[simp] theorem updClock_histLatch (k : Nat) (g : ClockSt → ClockSt) : (s.updClock k g).histLatch = s.histLatch := rfl
@[simp] theorem updClock_drainSince (k : Nat) (g : ClockSt → ClockSt) : (s.updClock k g).drainSince = s.drainSince := rfl
@[simp] theorem updClock_halls (k : Nat) (g : ClockSt → ClockSt) : (s.updClock k g).halls = s.halls := rfl
@[simp] theorem updClock_resets (k : Nat) (g : ClockSt → ClockSt) : (s.updClock k g).resets = s.resets := rfl
@[simp] theorem updClock_hangs (k : Nat) (g : ClockSt → ClockSt) : (s.updClock k g).hangs = s.hangs := rfl
@[simp] theorem updClock_cut (k : Nat) (g : ClockSt → ClockSt) : (s.updClock k g).cut = s.cut := rfl
@[simp] theorem updClock_cutNo (k : Nat) (g : ClockSt → ClockSt) : (s.updClock k g).cutNo = s.cutNo := rfl
@[simp] theorem updClock_cutDue (k : Nat) (g : ClockSt → ClockSt) : (s.updClock k g).cutDue = s.cutDue := rfl
@[simp] theorem updClock_cutUnits (k : Nat) (g : ClockSt → ClockSt) : (s.updClock k g).cutUnits = s.cutUnits := rfl
@[simp] theorem updClock_chans (k : Nat) (g : ClockSt → ClockSt) : (s.updClock k g).chans = s.chans := rfl
@[simp] theorem updClock_stop (k : Nat) (g : ClockSt → ClockSt) : (s.updClock k g).stop = s.stop := rfl
@[simp] theorem updClock_voids (k : Nat) (g : ClockSt → ClockSt) : (s.updClock k g).voids = s.voids := rfl
@[simp] theorem updClock_bins (k : Nat) (g : ClockSt → ClockSt) : (s.updClock k g).bins = s.bins := rfl
@[simp] theorem updClock_bank (k : Nat) (g : ClockSt → ClockSt) : (s.updClock k g).bank = s.bank := rfl
@[simp] theorem updClock_segs (k : Nat) (g : ClockSt → ClockSt) : (s.updClock k g).segs = s.segs := rfl
@[simp] theorem updClock_attic (k : Nat) (g : ClockSt → ClockSt) : (s.updClock k g).attic = s.attic := rfl
@[simp] theorem updClock_mem (k : Nat) (g : ClockSt → ClockSt) : (s.updClock k g).mem = s.mem := rfl
@[simp] theorem updClock_variant (k : Nat) (g : ClockSt → ClockSt) : (s.updClock k g).variant = s.variant := rfl
@[simp] theorem updClock_mbx (k : Nat) (g : ClockSt → ClockSt) : (s.updClock k g).mbx = s.mbx := rfl
@[simp] theorem updClock_twk (k : Nat) (g : ClockSt → ClockSt) : (s.updClock k g).twk = s.twk := rfl
@[simp] theorem updClock_mgt (k : Nat) (g : ClockSt → ClockSt) : (s.updClock k g).mgt = s.mgt := rfl
@[simp] theorem updClock_dbg (k : Nat) (g : ClockSt → ClockSt) : (s.updClock k g).dbg = s.dbg := rfl
@[simp] theorem updClock_cels (k : Nat) (g : ClockSt → ClockSt) : (s.updClock k g).cels = s.cels := rfl
@[simp] theorem updClock_reloads (k : Nat) (g : ClockSt → ClockSt) : (s.updClock k g).reloads = s.reloads := rfl
@[simp] theorem updClock_chanMap (k : Nat) (g : ClockSt → ClockSt) : (s.updClock k g).chanMap = s.chanMap := rfl
@[simp] theorem updClock_descCopy (k : Nat) (g : ClockSt → ClockSt) : (s.updClock k g).descCopy = s.descCopy := rfl
@[simp] theorem updClock_seeds (k : Nat) (g : ClockSt → ClockSt) : (s.updClock k g).seeds = s.seeds := rfl
@[simp] theorem updClock_idleKills (k : Nat) (g : ClockSt → ClockSt) : (s.updClock k g).idleKills = s.idleKills := rfl
@[simp] theorem updClock_prv (k : Nat) (g : ClockSt → ClockSt) : (s.updClock k g).prv = s.prv := rfl
@[simp] theorem updClock_pairs (k : Nat) (g : ClockSt → ClockSt) : (s.updClock k g).pairs = s.pairs := rfl
@[simp] theorem updClock_steepFirst (k : Nat) (g : ClockSt → ClockSt) : (s.updClock k g).steepFirst = s.steepFirst := rfl
@[simp] theorem updClock_stp (k : Nat) (g : ClockSt → ClockSt) : (s.updClock k g).stp = s.stp := rfl
@[simp] theorem updClock_engs (k : Nat) (g : ClockSt → ClockSt) : (s.updClock k g).engs = s.engs := rfl
@[simp] theorem updClock_plan (k : Nat) (g : ClockSt → ClockSt) : (s.updClock k g).plan = s.plan := rfl
@[simp] theorem updClock_grist (k : Nat) (g : ClockSt → ClockSt) : (s.updClock k g).grist = s.grist := rfl
@[simp] theorem updClock_ana (k : Nat) (g : ClockSt → ClockSt) : (s.updClock k g).ana = s.ana := rfl
@[simp] theorem updClock_dl (k : Nat) (g : ClockSt → ClockSt) : (s.updClock k g).dl = s.dl := rfl
@[simp] theorem updClock_fw (k : Nat) (g : ClockSt → ClockSt) : (s.updClock k g).fw = s.fw := rfl
@[simp] theorem updClock_sens (k : Nat) (g : ClockSt → ClockSt) : (s.updClock k g).sens = s.sens := rfl
@[simp] theorem updClock_thm (k : Nat) (g : ClockSt → ClockSt) : (s.updClock k g).thm = s.thm := rfl
@[simp] theorem updClock_emerg (k : Nat) (g : ClockSt → ClockSt) : (s.updClock k g).emerg = s.emerg := rfl
@[simp] theorem updClock_pad (k : Nat) (g : ClockSt → ClockSt) : (s.updClock k g).pad = s.pad := rfl
@[simp] theorem updClock_resetsDue (k : Nat) (g : ClockSt → ClockSt) : (s.updClock k g).resetsDue = s.resetsDue := rfl
@[simp] theorem updClock_latch (k : Nat) (g : ClockSt → ClockSt) : (s.updClock k g).latch = s.latch := rfl
@[simp] theorem updClock_tree (k : Nat) (g : ClockSt → ClockSt) : (s.updClock k g).tree = s.tree := rfl
@[simp] theorem updClock_refLost (k : Nat) (g : ClockSt → ClockSt) : (s.updClock k g).refLost = s.refLost := rfl
@[simp] theorem updClock_histFlash (k : Nat) (g : ClockSt → ClockSt) : (s.updClock k g).histFlash = s.histFlash := rfl
@[simp] theorem updClock_tickAt (k : Nat) (g : ClockSt → ClockSt) : (s.updClock k g).tickAt = s.tickAt := rfl
@[simp] theorem updClock_passSeen (k : Nat) (g : ClockSt → ClockSt) : (s.updClock k g).passSeen = s.passSeen := rfl

/-! The entries of `gates`. -/
@[simp] theorem gate_updGate_same (k : Nat) (g : GateSt → GateSt) : (s.updGate k g).gate k = g (s.gate k) := Tab.get_upd_same _ _ _ _
theorem gate_updGate_other {k j : Nat} (h : j ≠ k) (g : GateSt → GateSt) : (s.updGate k g).gate j = s.gate j := Tab.get_upd_other _ _ h _
theorem gate_congr {t : State} (h : t.gates = s.gates) (k : Nat) : t.gate k = s.gate k := by unfold State.gate; rw [h]
@[simp] theorem updGate_pending (k : Nat) (g : GateSt → GateSt) : (s.updGate k g).pending = s.pending := rfl
@[simp] theorem updGate_wall (k : Nat) (g : GateSt → GateSt) : (s.updGate k g).wall = s.wall := rfl
@[simp] theorem updGate_fresh (k : Nat) (g : GateSt → GateSt) : (s.updGate k g).fresh = s.fresh := rfl
@[simp] theorem updGate_regs (k : Nat) (g : GateSt → GateSt) : (s.updGate k g).regs = s.regs := rfl
@[simp] theorem updGate_ecnt (k : Nat) (g : GateSt → GateSt) : (s.updGate k g).ecnt = s.ecnt := rfl
@[simp] theorem updGate_rcnt (k : Nat) (g : GateSt → GateSt) : (s.updGate k g).rcnt = s.rcnt := rfl
@[simp] theorem updGate_fill (k : Nat) (g : GateSt → GateSt) : (s.updGate k g).fill = s.fill := rfl
@[simp] theorem updGate_shown (k : Nat) (g : GateSt → GateSt) : (s.updGate k g).shown = s.shown := rfl
@[simp] theorem updGate_units (k : Nat) (g : GateSt → GateSt) : (s.updGate k g).units = s.units := rfl
@[simp] theorem updGate_transit (k : Nat) (g : GateSt → GateSt) : (s.updGate k g).transit = s.transit := rfl
@[simp] theorem updGate_marks (k : Nat) (g : GateSt → GateSt) : (s.updGate k g).marks = s.marks := rfl
@[simp] theorem updGate_sent (k : Nat) (g : GateSt → GateSt) : (s.updGate k g).sent = s.sent := rfl
@[simp] theorem updGate_routers (k : Nat) (g : GateSt → GateSt) : (s.updGate k g).routers = s.routers := rfl
@[simp] theorem updGate_hops (k : Nat) (g : GateSt → GateSt) : (s.updGate k g).hops = s.hops := rfl
@[simp] theorem updGate_tablesDue (k : Nat) (g : GateSt → GateSt) : (s.updGate k g).tablesDue = s.tablesDue := rfl
@[simp] theorem updGate_cutoff (k : Nat) (g : GateSt → GateSt) : (s.updGate k g).cutoff = s.cutoff := rfl
@[simp] theorem updGate_delays (k : Nat) (g : GateSt → GateSt) : (s.updGate k g).delays = s.delays := rfl
@[simp] theorem updGate_clocks (k : Nat) (g : GateSt → GateSt) : (s.updGate k g).clocks = s.clocks := rfl
@[simp] theorem updGate_pair (k : Nat) (g : GateSt → GateSt) : (s.updGate k g).pair = s.pair := rfl
@[simp] theorem updGate_doors (k : Nat) (g : GateSt → GateSt) : (s.updGate k g).doors = s.doors := rfl
@[simp] theorem updGate_streams (k : Nat) (g : GateSt → GateSt) : (s.updGate k g).streams = s.streams := rfl
@[simp] theorem updGate_wins (k : Nat) (g : GateSt → GateSt) : (s.updGate k g).wins = s.wins := rfl
@[simp] theorem updGate_winAlive (k : Nat) (g : GateSt → GateSt) : (s.updGate k g).winAlive = s.winAlive := rfl
@[simp] theorem updGate_scans (k : Nat) (g : GateSt → GateSt) : (s.updGate k g).scans = s.scans := rfl
@[simp] theorem updGate_taps (k : Nat) (g : GateSt → GateSt) : (s.updGate k g).taps = s.taps := rfl
@[simp] theorem updGate_cores (k : Nat) (g : GateSt → GateSt) : (s.updGate k g).cores = s.cores := rfl
@[simp] theorem updGate_ports (k : Nat) (g : GateSt → GateSt) : (s.updGate k g).ports = s.ports := rfl
@[simp] theorem updGate_adj (k : Nat) (g : GateSt → GateSt) : (s.updGate k g).adj = s.adj := rfl
@[simp] theorem updGate_rpl (k : Nat) (g : GateSt → GateSt) : (s.updGate k g).rpl = s.rpl := rfl
@[simp] theorem updGate_steps (k : Nat) (g : GateSt → GateSt) : (s.updGate k g).steps = s.steps := rfl
@[simp] theorem updGate_verdicts (k : Nat) (g : GateSt → GateSt) : (s.updGate k g).verdicts = s.verdicts := rfl
@[simp] theorem updGate_replays (k : Nat) (g : GateSt → GateSt) : (s.updGate k g).replays = s.replays := rfl
@[simp] theorem updGate_setsOpened (k : Nat) (g : GateSt → GateSt) : (s.updGate k g).setsOpened = s.setsOpened := rfl
@[simp] theorem updGate_ctxs (k : Nat) (g : GateSt → GateSt) : (s.updGate k g).ctxs = s.ctxs := rfl
@[simp] theorem updGate_hist (k : Nat) (g : GateSt → GateSt) : (s.updGate k g).hist = s.hist := rfl
@[simp] theorem updGate_histStaged (k : Nat) (g : GateSt → GateSt) : (s.updGate k g).histStaged = s.histStaged := rfl
@[simp] theorem updGate_histLatch (k : Nat) (g : GateSt → GateSt) : (s.updGate k g).histLatch = s.histLatch := rfl
@[simp] theorem updGate_drainSince (k : Nat) (g : GateSt → GateSt) : (s.updGate k g).drainSince = s.drainSince := rfl
@[simp] theorem updGate_halls (k : Nat) (g : GateSt → GateSt) : (s.updGate k g).halls = s.halls := rfl
@[simp] theorem updGate_resets (k : Nat) (g : GateSt → GateSt) : (s.updGate k g).resets = s.resets := rfl
@[simp] theorem updGate_hangs (k : Nat) (g : GateSt → GateSt) : (s.updGate k g).hangs = s.hangs := rfl
@[simp] theorem updGate_cut (k : Nat) (g : GateSt → GateSt) : (s.updGate k g).cut = s.cut := rfl
@[simp] theorem updGate_cutNo (k : Nat) (g : GateSt → GateSt) : (s.updGate k g).cutNo = s.cutNo := rfl
@[simp] theorem updGate_cutDue (k : Nat) (g : GateSt → GateSt) : (s.updGate k g).cutDue = s.cutDue := rfl
@[simp] theorem updGate_cutUnits (k : Nat) (g : GateSt → GateSt) : (s.updGate k g).cutUnits = s.cutUnits := rfl
@[simp] theorem updGate_chans (k : Nat) (g : GateSt → GateSt) : (s.updGate k g).chans = s.chans := rfl
@[simp] theorem updGate_stop (k : Nat) (g : GateSt → GateSt) : (s.updGate k g).stop = s.stop := rfl
@[simp] theorem updGate_voids (k : Nat) (g : GateSt → GateSt) : (s.updGate k g).voids = s.voids := rfl
@[simp] theorem updGate_bins (k : Nat) (g : GateSt → GateSt) : (s.updGate k g).bins = s.bins := rfl
@[simp] theorem updGate_bank (k : Nat) (g : GateSt → GateSt) : (s.updGate k g).bank = s.bank := rfl
@[simp] theorem updGate_segs (k : Nat) (g : GateSt → GateSt) : (s.updGate k g).segs = s.segs := rfl
@[simp] theorem updGate_attic (k : Nat) (g : GateSt → GateSt) : (s.updGate k g).attic = s.attic := rfl
@[simp] theorem updGate_mem (k : Nat) (g : GateSt → GateSt) : (s.updGate k g).mem = s.mem := rfl
@[simp] theorem updGate_variant (k : Nat) (g : GateSt → GateSt) : (s.updGate k g).variant = s.variant := rfl
@[simp] theorem updGate_mbx (k : Nat) (g : GateSt → GateSt) : (s.updGate k g).mbx = s.mbx := rfl
@[simp] theorem updGate_twk (k : Nat) (g : GateSt → GateSt) : (s.updGate k g).twk = s.twk := rfl
@[simp] theorem updGate_mgt (k : Nat) (g : GateSt → GateSt) : (s.updGate k g).mgt = s.mgt := rfl
@[simp] theorem updGate_dbg (k : Nat) (g : GateSt → GateSt) : (s.updGate k g).dbg = s.dbg := rfl
@[simp] theorem updGate_cels (k : Nat) (g : GateSt → GateSt) : (s.updGate k g).cels = s.cels := rfl
@[simp] theorem updGate_reloads (k : Nat) (g : GateSt → GateSt) : (s.updGate k g).reloads = s.reloads := rfl
@[simp] theorem updGate_chanMap (k : Nat) (g : GateSt → GateSt) : (s.updGate k g).chanMap = s.chanMap := rfl
@[simp] theorem updGate_descCopy (k : Nat) (g : GateSt → GateSt) : (s.updGate k g).descCopy = s.descCopy := rfl
@[simp] theorem updGate_seeds (k : Nat) (g : GateSt → GateSt) : (s.updGate k g).seeds = s.seeds := rfl
@[simp] theorem updGate_idleKills (k : Nat) (g : GateSt → GateSt) : (s.updGate k g).idleKills = s.idleKills := rfl
@[simp] theorem updGate_prv (k : Nat) (g : GateSt → GateSt) : (s.updGate k g).prv = s.prv := rfl
@[simp] theorem updGate_pairs (k : Nat) (g : GateSt → GateSt) : (s.updGate k g).pairs = s.pairs := rfl
@[simp] theorem updGate_steepFirst (k : Nat) (g : GateSt → GateSt) : (s.updGate k g).steepFirst = s.steepFirst := rfl
@[simp] theorem updGate_stp (k : Nat) (g : GateSt → GateSt) : (s.updGate k g).stp = s.stp := rfl
@[simp] theorem updGate_engs (k : Nat) (g : GateSt → GateSt) : (s.updGate k g).engs = s.engs := rfl
@[simp] theorem updGate_plan (k : Nat) (g : GateSt → GateSt) : (s.updGate k g).plan = s.plan := rfl
@[simp] theorem updGate_grist (k : Nat) (g : GateSt → GateSt) : (s.updGate k g).grist = s.grist := rfl
@[simp] theorem updGate_ana (k : Nat) (g : GateSt → GateSt) : (s.updGate k g).ana = s.ana := rfl
@[simp] theorem updGate_dl (k : Nat) (g : GateSt → GateSt) : (s.updGate k g).dl = s.dl := rfl
@[simp] theorem updGate_fw (k : Nat) (g : GateSt → GateSt) : (s.updGate k g).fw = s.fw := rfl
@[simp] theorem updGate_sens (k : Nat) (g : GateSt → GateSt) : (s.updGate k g).sens = s.sens := rfl
@[simp] theorem updGate_thm (k : Nat) (g : GateSt → GateSt) : (s.updGate k g).thm = s.thm := rfl
@[simp] theorem updGate_emerg (k : Nat) (g : GateSt → GateSt) : (s.updGate k g).emerg = s.emerg := rfl
@[simp] theorem updGate_pad (k : Nat) (g : GateSt → GateSt) : (s.updGate k g).pad = s.pad := rfl
@[simp] theorem updGate_resetsDue (k : Nat) (g : GateSt → GateSt) : (s.updGate k g).resetsDue = s.resetsDue := rfl
@[simp] theorem updGate_latch (k : Nat) (g : GateSt → GateSt) : (s.updGate k g).latch = s.latch := rfl
@[simp] theorem updGate_tree (k : Nat) (g : GateSt → GateSt) : (s.updGate k g).tree = s.tree := rfl
@[simp] theorem updGate_refLost (k : Nat) (g : GateSt → GateSt) : (s.updGate k g).refLost = s.refLost := rfl
@[simp] theorem updGate_histFlash (k : Nat) (g : GateSt → GateSt) : (s.updGate k g).histFlash = s.histFlash := rfl
@[simp] theorem updGate_tickAt (k : Nat) (g : GateSt → GateSt) : (s.updGate k g).tickAt = s.tickAt := rfl
@[simp] theorem updGate_passSeen (k : Nat) (g : GateSt → GateSt) : (s.updGate k g).passSeen = s.passSeen := rfl

/-! The entries of `doors`. -/
@[simp] theorem door_updDoor_same (k : Nat) (g : DoorSt → DoorSt) : (s.updDoor k g).door k = g (s.door k) := Tab.get_upd_same _ _ _ _
theorem door_updDoor_other {k j : Nat} (h : j ≠ k) (g : DoorSt → DoorSt) : (s.updDoor k g).door j = s.door j := Tab.get_upd_other _ _ h _
theorem door_congr {t : State} (h : t.doors = s.doors) (k : Nat) : t.door k = s.door k := by unfold State.door; rw [h]
@[simp] theorem updDoor_pending (k : Nat) (g : DoorSt → DoorSt) : (s.updDoor k g).pending = s.pending := rfl
@[simp] theorem updDoor_wall (k : Nat) (g : DoorSt → DoorSt) : (s.updDoor k g).wall = s.wall := rfl
@[simp] theorem updDoor_fresh (k : Nat) (g : DoorSt → DoorSt) : (s.updDoor k g).fresh = s.fresh := rfl
@[simp] theorem updDoor_regs (k : Nat) (g : DoorSt → DoorSt) : (s.updDoor k g).regs = s.regs := rfl
@[simp] theorem updDoor_ecnt (k : Nat) (g : DoorSt → DoorSt) : (s.updDoor k g).ecnt = s.ecnt := rfl
@[simp] theorem updDoor_rcnt (k : Nat) (g : DoorSt → DoorSt) : (s.updDoor k g).rcnt = s.rcnt := rfl
@[simp] theorem updDoor_fill (k : Nat) (g : DoorSt → DoorSt) : (s.updDoor k g).fill = s.fill := rfl
@[simp] theorem updDoor_shown (k : Nat) (g : DoorSt → DoorSt) : (s.updDoor k g).shown = s.shown := rfl
@[simp] theorem updDoor_units (k : Nat) (g : DoorSt → DoorSt) : (s.updDoor k g).units = s.units := rfl
@[simp] theorem updDoor_transit (k : Nat) (g : DoorSt → DoorSt) : (s.updDoor k g).transit = s.transit := rfl
@[simp] theorem updDoor_marks (k : Nat) (g : DoorSt → DoorSt) : (s.updDoor k g).marks = s.marks := rfl
@[simp] theorem updDoor_sent (k : Nat) (g : DoorSt → DoorSt) : (s.updDoor k g).sent = s.sent := rfl
@[simp] theorem updDoor_routers (k : Nat) (g : DoorSt → DoorSt) : (s.updDoor k g).routers = s.routers := rfl
@[simp] theorem updDoor_hops (k : Nat) (g : DoorSt → DoorSt) : (s.updDoor k g).hops = s.hops := rfl
@[simp] theorem updDoor_tablesDue (k : Nat) (g : DoorSt → DoorSt) : (s.updDoor k g).tablesDue = s.tablesDue := rfl
@[simp] theorem updDoor_cutoff (k : Nat) (g : DoorSt → DoorSt) : (s.updDoor k g).cutoff = s.cutoff := rfl
@[simp] theorem updDoor_delays (k : Nat) (g : DoorSt → DoorSt) : (s.updDoor k g).delays = s.delays := rfl
@[simp] theorem updDoor_clocks (k : Nat) (g : DoorSt → DoorSt) : (s.updDoor k g).clocks = s.clocks := rfl
@[simp] theorem updDoor_pair (k : Nat) (g : DoorSt → DoorSt) : (s.updDoor k g).pair = s.pair := rfl
@[simp] theorem updDoor_gates (k : Nat) (g : DoorSt → DoorSt) : (s.updDoor k g).gates = s.gates := rfl
@[simp] theorem updDoor_streams (k : Nat) (g : DoorSt → DoorSt) : (s.updDoor k g).streams = s.streams := rfl
@[simp] theorem updDoor_wins (k : Nat) (g : DoorSt → DoorSt) : (s.updDoor k g).wins = s.wins := rfl
@[simp] theorem updDoor_winAlive (k : Nat) (g : DoorSt → DoorSt) : (s.updDoor k g).winAlive = s.winAlive := rfl
@[simp] theorem updDoor_scans (k : Nat) (g : DoorSt → DoorSt) : (s.updDoor k g).scans = s.scans := rfl
@[simp] theorem updDoor_taps (k : Nat) (g : DoorSt → DoorSt) : (s.updDoor k g).taps = s.taps := rfl
@[simp] theorem updDoor_cores (k : Nat) (g : DoorSt → DoorSt) : (s.updDoor k g).cores = s.cores := rfl
@[simp] theorem updDoor_ports (k : Nat) (g : DoorSt → DoorSt) : (s.updDoor k g).ports = s.ports := rfl
@[simp] theorem updDoor_adj (k : Nat) (g : DoorSt → DoorSt) : (s.updDoor k g).adj = s.adj := rfl
@[simp] theorem updDoor_rpl (k : Nat) (g : DoorSt → DoorSt) : (s.updDoor k g).rpl = s.rpl := rfl
@[simp] theorem updDoor_steps (k : Nat) (g : DoorSt → DoorSt) : (s.updDoor k g).steps = s.steps := rfl
@[simp] theorem updDoor_verdicts (k : Nat) (g : DoorSt → DoorSt) : (s.updDoor k g).verdicts = s.verdicts := rfl
@[simp] theorem updDoor_replays (k : Nat) (g : DoorSt → DoorSt) : (s.updDoor k g).replays = s.replays := rfl
@[simp] theorem updDoor_setsOpened (k : Nat) (g : DoorSt → DoorSt) : (s.updDoor k g).setsOpened = s.setsOpened := rfl
@[simp] theorem updDoor_ctxs (k : Nat) (g : DoorSt → DoorSt) : (s.updDoor k g).ctxs = s.ctxs := rfl
@[simp] theorem updDoor_hist (k : Nat) (g : DoorSt → DoorSt) : (s.updDoor k g).hist = s.hist := rfl
@[simp] theorem updDoor_histStaged (k : Nat) (g : DoorSt → DoorSt) : (s.updDoor k g).histStaged = s.histStaged := rfl
@[simp] theorem updDoor_histLatch (k : Nat) (g : DoorSt → DoorSt) : (s.updDoor k g).histLatch = s.histLatch := rfl
@[simp] theorem updDoor_drainSince (k : Nat) (g : DoorSt → DoorSt) : (s.updDoor k g).drainSince = s.drainSince := rfl
@[simp] theorem updDoor_halls (k : Nat) (g : DoorSt → DoorSt) : (s.updDoor k g).halls = s.halls := rfl
@[simp] theorem updDoor_resets (k : Nat) (g : DoorSt → DoorSt) : (s.updDoor k g).resets = s.resets := rfl
@[simp] theorem updDoor_hangs (k : Nat) (g : DoorSt → DoorSt) : (s.updDoor k g).hangs = s.hangs := rfl
@[simp] theorem updDoor_cut (k : Nat) (g : DoorSt → DoorSt) : (s.updDoor k g).cut = s.cut := rfl
@[simp] theorem updDoor_cutNo (k : Nat) (g : DoorSt → DoorSt) : (s.updDoor k g).cutNo = s.cutNo := rfl
@[simp] theorem updDoor_cutDue (k : Nat) (g : DoorSt → DoorSt) : (s.updDoor k g).cutDue = s.cutDue := rfl
@[simp] theorem updDoor_cutUnits (k : Nat) (g : DoorSt → DoorSt) : (s.updDoor k g).cutUnits = s.cutUnits := rfl
@[simp] theorem updDoor_chans (k : Nat) (g : DoorSt → DoorSt) : (s.updDoor k g).chans = s.chans := rfl
@[simp] theorem updDoor_stop (k : Nat) (g : DoorSt → DoorSt) : (s.updDoor k g).stop = s.stop := rfl
@[simp] theorem updDoor_voids (k : Nat) (g : DoorSt → DoorSt) : (s.updDoor k g).voids = s.voids := rfl
@[simp] theorem updDoor_bins (k : Nat) (g : DoorSt → DoorSt) : (s.updDoor k g).bins = s.bins := rfl
@[simp] theorem updDoor_bank (k : Nat) (g : DoorSt → DoorSt) : (s.updDoor k g).bank = s.bank := rfl
@[simp] theorem updDoor_segs (k : Nat) (g : DoorSt → DoorSt) : (s.updDoor k g).segs = s.segs := rfl
@[simp] theorem updDoor_attic (k : Nat) (g : DoorSt → DoorSt) : (s.updDoor k g).attic = s.attic := rfl
@[simp] theorem updDoor_mem (k : Nat) (g : DoorSt → DoorSt) : (s.updDoor k g).mem = s.mem := rfl
@[simp] theorem updDoor_variant (k : Nat) (g : DoorSt → DoorSt) : (s.updDoor k g).variant = s.variant := rfl
@[simp] theorem updDoor_mbx (k : Nat) (g : DoorSt → DoorSt) : (s.updDoor k g).mbx = s.mbx := rfl
@[simp] theorem updDoor_twk (k : Nat) (g : DoorSt → DoorSt) : (s.updDoor k g).twk = s.twk := rfl
@[simp] theorem updDoor_mgt (k : Nat) (g : DoorSt → DoorSt) : (s.updDoor k g).mgt = s.mgt := rfl
@[simp] theorem updDoor_dbg (k : Nat) (g : DoorSt → DoorSt) : (s.updDoor k g).dbg = s.dbg := rfl
@[simp] theorem updDoor_cels (k : Nat) (g : DoorSt → DoorSt) : (s.updDoor k g).cels = s.cels := rfl
@[simp] theorem updDoor_reloads (k : Nat) (g : DoorSt → DoorSt) : (s.updDoor k g).reloads = s.reloads := rfl
@[simp] theorem updDoor_chanMap (k : Nat) (g : DoorSt → DoorSt) : (s.updDoor k g).chanMap = s.chanMap := rfl
@[simp] theorem updDoor_descCopy (k : Nat) (g : DoorSt → DoorSt) : (s.updDoor k g).descCopy = s.descCopy := rfl
@[simp] theorem updDoor_seeds (k : Nat) (g : DoorSt → DoorSt) : (s.updDoor k g).seeds = s.seeds := rfl
@[simp] theorem updDoor_idleKills (k : Nat) (g : DoorSt → DoorSt) : (s.updDoor k g).idleKills = s.idleKills := rfl
@[simp] theorem updDoor_prv (k : Nat) (g : DoorSt → DoorSt) : (s.updDoor k g).prv = s.prv := rfl
@[simp] theorem updDoor_pairs (k : Nat) (g : DoorSt → DoorSt) : (s.updDoor k g).pairs = s.pairs := rfl
@[simp] theorem updDoor_steepFirst (k : Nat) (g : DoorSt → DoorSt) : (s.updDoor k g).steepFirst = s.steepFirst := rfl
@[simp] theorem updDoor_stp (k : Nat) (g : DoorSt → DoorSt) : (s.updDoor k g).stp = s.stp := rfl
@[simp] theorem updDoor_engs (k : Nat) (g : DoorSt → DoorSt) : (s.updDoor k g).engs = s.engs := rfl
@[simp] theorem updDoor_plan (k : Nat) (g : DoorSt → DoorSt) : (s.updDoor k g).plan = s.plan := rfl
@[simp] theorem updDoor_grist (k : Nat) (g : DoorSt → DoorSt) : (s.updDoor k g).grist = s.grist := rfl
@[simp] theorem updDoor_ana (k : Nat) (g : DoorSt → DoorSt) : (s.updDoor k g).ana = s.ana := rfl
@[simp] theorem updDoor_dl (k : Nat) (g : DoorSt → DoorSt) : (s.updDoor k g).dl = s.dl := rfl
@[simp] theorem updDoor_fw (k : Nat) (g : DoorSt → DoorSt) : (s.updDoor k g).fw = s.fw := rfl
@[simp] theorem updDoor_sens (k : Nat) (g : DoorSt → DoorSt) : (s.updDoor k g).sens = s.sens := rfl
@[simp] theorem updDoor_thm (k : Nat) (g : DoorSt → DoorSt) : (s.updDoor k g).thm = s.thm := rfl
@[simp] theorem updDoor_emerg (k : Nat) (g : DoorSt → DoorSt) : (s.updDoor k g).emerg = s.emerg := rfl
@[simp] theorem updDoor_pad (k : Nat) (g : DoorSt → DoorSt) : (s.updDoor k g).pad = s.pad := rfl
@[simp] theorem updDoor_resetsDue (k : Nat) (g : DoorSt → DoorSt) : (s.updDoor k g).resetsDue = s.resetsDue := rfl
@[simp] theorem updDoor_latch (k : Nat) (g : DoorSt → DoorSt) : (s.updDoor k g).latch = s.latch := rfl
@[simp] theorem updDoor_tree (k : Nat) (g : DoorSt → DoorSt) : (s.updDoor k g).tree = s.tree := rfl
@[simp] theorem updDoor_refLost (k : Nat) (g : DoorSt → DoorSt) : (s.updDoor k g).refLost = s.refLost := rfl
@[simp] theorem updDoor_histFlash (k : Nat) (g : DoorSt → DoorSt) : (s.updDoor k g).histFlash = s.histFlash := rfl
@[simp] theorem updDoor_tickAt (k : Nat) (g : DoorSt → DoorSt) : (s.updDoor k g).tickAt = s.tickAt := rfl
@[simp] theorem updDoor_passSeen (k : Nat) (g : DoorSt → DoorSt) : (s.updDoor k g).passSeen = s.passSeen := rfl

/-! The entries of `streams`. -/
@[simp] theorem stream_updStream_same (k : Nat) (g : StreamSt → StreamSt) : (s.updStream k g).stream k = g (s.stream k) := Tab.get_upd_same _ _ _ _
theorem stream_updStream_other {k j : Nat} (h : j ≠ k) (g : StreamSt → StreamSt) : (s.updStream k g).stream j = s.stream j := Tab.get_upd_other _ _ h _
theorem stream_congr {t : State} (h : t.streams = s.streams) (k : Nat) : t.stream k = s.stream k := by unfold State.stream; rw [h]
@[simp] theorem updStream_pending (k : Nat) (g : StreamSt → StreamSt) : (s.updStream k g).pending = s.pending := rfl
@[simp] theorem updStream_wall (k : Nat) (g : StreamSt → StreamSt) : (s.updStream k g).wall = s.wall := rfl
@[simp] theorem updStream_fresh (k : Nat) (g : StreamSt → StreamSt) : (s.updStream k g).fresh = s.fresh := rfl
@[simp] theorem updStream_regs (k : Nat) (g : StreamSt → StreamSt) : (s.updStream k g).regs = s.regs := rfl
@[simp] theorem updStream_ecnt (k : Nat) (g : StreamSt → StreamSt) : (s.updStream k g).ecnt = s.ecnt := rfl
@[simp] theorem updStream_rcnt (k : Nat) (g : StreamSt → StreamSt) : (s.updStream k g).rcnt = s.rcnt := rfl
@[simp] theorem updStream_fill (k : Nat) (g : StreamSt → StreamSt) : (s.updStream k g).fill = s.fill := rfl
@[simp] theorem updStream_shown (k : Nat) (g : StreamSt → StreamSt) : (s.updStream k g).shown = s.shown := rfl
@[simp] theorem updStream_units (k : Nat) (g : StreamSt → StreamSt) : (s.updStream k g).units = s.units := rfl
@[simp] theorem updStream_transit (k : Nat) (g : StreamSt → StreamSt) : (s.updStream k g).transit = s.transit := rfl
@[simp] theorem updStream_marks (k : Nat) (g : StreamSt → StreamSt) : (s.updStream k g).marks = s.marks := rfl
@[simp] theorem updStream_sent (k : Nat) (g : StreamSt → StreamSt) : (s.updStream k g).sent = s.sent := rfl
@[simp] theorem updStream_routers (k : Nat) (g : StreamSt → StreamSt) : (s.updStream k g).routers = s.routers := rfl
@[simp] theorem updStream_hops (k : Nat) (g : StreamSt → StreamSt) : (s.updStream k g).hops = s.hops := rfl
@[simp] theorem updStream_tablesDue (k : Nat) (g : StreamSt → StreamSt) : (s.updStream k g).tablesDue = s.tablesDue := rfl
@[simp] theorem updStream_cutoff (k : Nat) (g : StreamSt → StreamSt) : (s.updStream k g).cutoff = s.cutoff := rfl
@[simp] theorem updStream_delays (k : Nat) (g : StreamSt → StreamSt) : (s.updStream k g).delays = s.delays := rfl
@[simp] theorem updStream_clocks (k : Nat) (g : StreamSt → StreamSt) : (s.updStream k g).clocks = s.clocks := rfl
@[simp] theorem updStream_pair (k : Nat) (g : StreamSt → StreamSt) : (s.updStream k g).pair = s.pair := rfl
@[simp] theorem updStream_gates (k : Nat) (g : StreamSt → StreamSt) : (s.updStream k g).gates = s.gates := rfl
@[simp] theorem updStream_doors (k : Nat) (g : StreamSt → StreamSt) : (s.updStream k g).doors = s.doors := rfl
@[simp] theorem updStream_wins (k : Nat) (g : StreamSt → StreamSt) : (s.updStream k g).wins = s.wins := rfl
@[simp] theorem updStream_winAlive (k : Nat) (g : StreamSt → StreamSt) : (s.updStream k g).winAlive = s.winAlive := rfl
@[simp] theorem updStream_scans (k : Nat) (g : StreamSt → StreamSt) : (s.updStream k g).scans = s.scans := rfl
@[simp] theorem updStream_taps (k : Nat) (g : StreamSt → StreamSt) : (s.updStream k g).taps = s.taps := rfl
@[simp] theorem updStream_cores (k : Nat) (g : StreamSt → StreamSt) : (s.updStream k g).cores = s.cores := rfl
@[simp] theorem updStream_ports (k : Nat) (g : StreamSt → StreamSt) : (s.updStream k g).ports = s.ports := rfl
@[simp] theorem updStream_adj (k : Nat) (g : StreamSt → StreamSt) : (s.updStream k g).adj = s.adj := rfl
@[simp] theorem updStream_rpl (k : Nat) (g : StreamSt → StreamSt) : (s.updStream k g).rpl = s.rpl := rfl
@[simp] theorem updStream_steps (k : Nat) (g : StreamSt → StreamSt) : (s.updStream k g).steps = s.steps := rfl
@[simp] theorem updStream_verdicts (k : Nat) (g : StreamSt → StreamSt) : (s.updStream k g).verdicts = s.verdicts := rfl
@[simp] theorem updStream_replays (k : Nat) (g : StreamSt → StreamSt) : (s.updStream k g).replays = s.replays := rfl
@[simp] theorem updStream_setsOpened (k : Nat) (g : StreamSt → StreamSt) : (s.updStream k g).setsOpened = s.setsOpened := rfl
@[simp] theorem updStream_ctxs (k : Nat) (g : StreamSt → StreamSt) : (s.updStream k g).ctxs = s.ctxs := rfl
@[simp] theorem updStream_hist (k : Nat) (g : StreamSt → StreamSt) : (s.updStream k g).hist = s.hist := rfl
@[simp] theorem updStream_histStaged (k : Nat) (g : StreamSt → StreamSt) : (s.updStream k g).histStaged = s.histStaged := rfl
@[simp] theorem updStream_histLatch (k : Nat) (g : StreamSt → StreamSt) : (s.updStream k g).histLatch = s.histLatch := rfl
@[simp] theorem updStream_drainSince (k : Nat) (g : StreamSt → StreamSt) : (s.updStream k g).drainSince = s.drainSince := rfl
@[simp] theorem updStream_halls (k : Nat) (g : StreamSt → StreamSt) : (s.updStream k g).halls = s.halls := rfl
@[simp] theorem updStream_resets (k : Nat) (g : StreamSt → StreamSt) : (s.updStream k g).resets = s.resets := rfl
@[simp] theorem updStream_hangs (k : Nat) (g : StreamSt → StreamSt) : (s.updStream k g).hangs = s.hangs := rfl
@[simp] theorem updStream_cut (k : Nat) (g : StreamSt → StreamSt) : (s.updStream k g).cut = s.cut := rfl
@[simp] theorem updStream_cutNo (k : Nat) (g : StreamSt → StreamSt) : (s.updStream k g).cutNo = s.cutNo := rfl
@[simp] theorem updStream_cutDue (k : Nat) (g : StreamSt → StreamSt) : (s.updStream k g).cutDue = s.cutDue := rfl
@[simp] theorem updStream_cutUnits (k : Nat) (g : StreamSt → StreamSt) : (s.updStream k g).cutUnits = s.cutUnits := rfl
@[simp] theorem updStream_chans (k : Nat) (g : StreamSt → StreamSt) : (s.updStream k g).chans = s.chans := rfl
@[simp] theorem updStream_stop (k : Nat) (g : StreamSt → StreamSt) : (s.updStream k g).stop = s.stop := rfl
@[simp] theorem updStream_voids (k : Nat) (g : StreamSt → StreamSt) : (s.updStream k g).voids = s.voids := rfl
@[simp] theorem updStream_bins (k : Nat) (g : StreamSt → StreamSt) : (s.updStream k g).bins = s.bins := rfl
@[simp] theorem updStream_bank (k : Nat) (g : StreamSt → StreamSt) : (s.updStream k g).bank = s.bank := rfl
@[simp] theorem updStream_segs (k : Nat) (g : StreamSt → StreamSt) : (s.updStream k g).segs = s.segs := rfl
@[simp] theorem updStream_attic (k : Nat) (g : StreamSt → StreamSt) : (s.updStream k g).attic = s.attic := rfl
@[simp] theorem updStream_mem (k : Nat) (g : StreamSt → StreamSt) : (s.updStream k g).mem = s.mem := rfl
@[simp] theorem updStream_variant (k : Nat) (g : StreamSt → StreamSt) : (s.updStream k g).variant = s.variant := rfl
@[simp] theorem updStream_mbx (k : Nat) (g : StreamSt → StreamSt) : (s.updStream k g).mbx = s.mbx := rfl
@[simp] theorem updStream_twk (k : Nat) (g : StreamSt → StreamSt) : (s.updStream k g).twk = s.twk := rfl
@[simp] theorem updStream_mgt (k : Nat) (g : StreamSt → StreamSt) : (s.updStream k g).mgt = s.mgt := rfl
@[simp] theorem updStream_dbg (k : Nat) (g : StreamSt → StreamSt) : (s.updStream k g).dbg = s.dbg := rfl
@[simp] theorem updStream_cels (k : Nat) (g : StreamSt → StreamSt) : (s.updStream k g).cels = s.cels := rfl
@[simp] theorem updStream_reloads (k : Nat) (g : StreamSt → StreamSt) : (s.updStream k g).reloads = s.reloads := rfl
@[simp] theorem updStream_chanMap (k : Nat) (g : StreamSt → StreamSt) : (s.updStream k g).chanMap = s.chanMap := rfl
@[simp] theorem updStream_descCopy (k : Nat) (g : StreamSt → StreamSt) : (s.updStream k g).descCopy = s.descCopy := rfl
@[simp] theorem updStream_seeds (k : Nat) (g : StreamSt → StreamSt) : (s.updStream k g).seeds = s.seeds := rfl
@[simp] theorem updStream_idleKills (k : Nat) (g : StreamSt → StreamSt) : (s.updStream k g).idleKills = s.idleKills := rfl
@[simp] theorem updStream_prv (k : Nat) (g : StreamSt → StreamSt) : (s.updStream k g).prv = s.prv := rfl
@[simp] theorem updStream_pairs (k : Nat) (g : StreamSt → StreamSt) : (s.updStream k g).pairs = s.pairs := rfl
@[simp] theorem updStream_steepFirst (k : Nat) (g : StreamSt → StreamSt) : (s.updStream k g).steepFirst = s.steepFirst := rfl
@[simp] theorem updStream_stp (k : Nat) (g : StreamSt → StreamSt) : (s.updStream k g).stp = s.stp := rfl
@[simp] theorem updStream_engs (k : Nat) (g : StreamSt → StreamSt) : (s.updStream k g).engs = s.engs := rfl
@[simp] theorem updStream_plan (k : Nat) (g : StreamSt → StreamSt) : (s.updStream k g).plan = s.plan := rfl
@[simp] theorem updStream_grist (k : Nat) (g : StreamSt → StreamSt) : (s.updStream k g).grist = s.grist := rfl
@[simp] theorem updStream_ana (k : Nat) (g : StreamSt → StreamSt) : (s.updStream k g).ana = s.ana := rfl
@[simp] theorem updStream_dl (k : Nat) (g : StreamSt → StreamSt) : (s.updStream k g).dl = s.dl := rfl
@[simp] theorem updStream_fw (k : Nat) (g : StreamSt → StreamSt) : (s.updStream k g).fw = s.fw := rfl
@[simp] theorem updStream_sens (k : Nat) (g : StreamSt → StreamSt) : (s.updStream k g).sens = s.sens := rfl
@[simp] theorem updStream_thm (k : Nat) (g : StreamSt → StreamSt) : (s.updStream k g).thm = s.thm := rfl
@[simp] theorem updStream_emerg (k : Nat) (g : StreamSt → StreamSt) : (s.updStream k g).emerg = s.emerg := rfl
@[simp] theorem updStream_pad (k : Nat) (g : StreamSt → StreamSt) : (s.updStream k g).pad = s.pad := rfl
@[simp] theorem updStream_resetsDue (k : Nat) (g : StreamSt → StreamSt) : (s.updStream k g).resetsDue = s.resetsDue := rfl
@[simp] theorem updStream_latch (k : Nat) (g : StreamSt → StreamSt) : (s.updStream k g).latch = s.latch := rfl
@[simp] theorem updStream_tree (k : Nat) (g : StreamSt → StreamSt) : (s.updStream k g).tree = s.tree := rfl
@[simp] theorem updStream_refLost (k : Nat) (g : StreamSt → StreamSt) : (s.updStream k g).refLost = s.refLost := rfl
@[simp] theorem updStream_histFlash (k : Nat) (g : StreamSt → StreamSt) : (s.updStream k g).histFlash = s.histFlash := rfl
@[simp] theorem updStream_tickAt (k : Nat) (g : StreamSt → StreamSt) : (s.updStream k g).tickAt = s.tickAt := rfl
@[simp] theorem updStream_passSeen (k : Nat) (g : StreamSt → StreamSt) : (s.updStream k g).passSeen = s.passSeen := rfl

/-! The entries of `wins`. -/
@[simp] theorem win_updWin_same (k : Nat) (g : WinSt → WinSt) : (s.updWin k g).win k = g (s.win k) := Tab.get_upd_same _ _ _ _
theorem win_updWin_other {k j : Nat} (h : j ≠ k) (g : WinSt → WinSt) : (s.updWin k g).win j = s.win j := Tab.get_upd_other _ _ h _
theorem win_congr {t : State} (h : t.wins = s.wins) (k : Nat) : t.win k = s.win k := by unfold State.win; rw [h]
@[simp] theorem updWin_pending (k : Nat) (g : WinSt → WinSt) : (s.updWin k g).pending = s.pending := rfl
@[simp] theorem updWin_wall (k : Nat) (g : WinSt → WinSt) : (s.updWin k g).wall = s.wall := rfl
@[simp] theorem updWin_fresh (k : Nat) (g : WinSt → WinSt) : (s.updWin k g).fresh = s.fresh := rfl
@[simp] theorem updWin_regs (k : Nat) (g : WinSt → WinSt) : (s.updWin k g).regs = s.regs := rfl
@[simp] theorem updWin_ecnt (k : Nat) (g : WinSt → WinSt) : (s.updWin k g).ecnt = s.ecnt := rfl
@[simp] theorem updWin_rcnt (k : Nat) (g : WinSt → WinSt) : (s.updWin k g).rcnt = s.rcnt := rfl
@[simp] theorem updWin_fill (k : Nat) (g : WinSt → WinSt) : (s.updWin k g).fill = s.fill := rfl
@[simp] theorem updWin_shown (k : Nat) (g : WinSt → WinSt) : (s.updWin k g).shown = s.shown := rfl
@[simp] theorem updWin_units (k : Nat) (g : WinSt → WinSt) : (s.updWin k g).units = s.units := rfl
@[simp] theorem updWin_transit (k : Nat) (g : WinSt → WinSt) : (s.updWin k g).transit = s.transit := rfl
@[simp] theorem updWin_marks (k : Nat) (g : WinSt → WinSt) : (s.updWin k g).marks = s.marks := rfl
@[simp] theorem updWin_sent (k : Nat) (g : WinSt → WinSt) : (s.updWin k g).sent = s.sent := rfl
@[simp] theorem updWin_routers (k : Nat) (g : WinSt → WinSt) : (s.updWin k g).routers = s.routers := rfl
@[simp] theorem updWin_hops (k : Nat) (g : WinSt → WinSt) : (s.updWin k g).hops = s.hops := rfl
@[simp] theorem updWin_tablesDue (k : Nat) (g : WinSt → WinSt) : (s.updWin k g).tablesDue = s.tablesDue := rfl
@[simp] theorem updWin_cutoff (k : Nat) (g : WinSt → WinSt) : (s.updWin k g).cutoff = s.cutoff := rfl
@[simp] theorem updWin_delays (k : Nat) (g : WinSt → WinSt) : (s.updWin k g).delays = s.delays := rfl
@[simp] theorem updWin_clocks (k : Nat) (g : WinSt → WinSt) : (s.updWin k g).clocks = s.clocks := rfl
@[simp] theorem updWin_pair (k : Nat) (g : WinSt → WinSt) : (s.updWin k g).pair = s.pair := rfl
@[simp] theorem updWin_gates (k : Nat) (g : WinSt → WinSt) : (s.updWin k g).gates = s.gates := rfl
@[simp] theorem updWin_doors (k : Nat) (g : WinSt → WinSt) : (s.updWin k g).doors = s.doors := rfl
@[simp] theorem updWin_streams (k : Nat) (g : WinSt → WinSt) : (s.updWin k g).streams = s.streams := rfl
@[simp] theorem updWin_winAlive (k : Nat) (g : WinSt → WinSt) : (s.updWin k g).winAlive = s.winAlive := rfl
@[simp] theorem updWin_scans (k : Nat) (g : WinSt → WinSt) : (s.updWin k g).scans = s.scans := rfl
@[simp] theorem updWin_taps (k : Nat) (g : WinSt → WinSt) : (s.updWin k g).taps = s.taps := rfl
@[simp] theorem updWin_cores (k : Nat) (g : WinSt → WinSt) : (s.updWin k g).cores = s.cores := rfl
@[simp] theorem updWin_ports (k : Nat) (g : WinSt → WinSt) : (s.updWin k g).ports = s.ports := rfl
@[simp] theorem updWin_adj (k : Nat) (g : WinSt → WinSt) : (s.updWin k g).adj = s.adj := rfl
@[simp] theorem updWin_rpl (k : Nat) (g : WinSt → WinSt) : (s.updWin k g).rpl = s.rpl := rfl
@[simp] theorem updWin_steps (k : Nat) (g : WinSt → WinSt) : (s.updWin k g).steps = s.steps := rfl
@[simp] theorem updWin_verdicts (k : Nat) (g : WinSt → WinSt) : (s.updWin k g).verdicts = s.verdicts := rfl
@[simp] theorem updWin_replays (k : Nat) (g : WinSt → WinSt) : (s.updWin k g).replays = s.replays := rfl
@[simp] theorem updWin_setsOpened (k : Nat) (g : WinSt → WinSt) : (s.updWin k g).setsOpened = s.setsOpened := rfl
@[simp] theorem updWin_ctxs (k : Nat) (g : WinSt → WinSt) : (s.updWin k g).ctxs = s.ctxs := rfl
@[simp] theorem updWin_hist (k : Nat) (g : WinSt → WinSt) : (s.updWin k g).hist = s.hist := rfl
@[simp] theorem updWin_histStaged (k : Nat) (g : WinSt → WinSt) : (s.updWin k g).histStaged = s.histStaged := rfl
@[simp] theorem updWin_histLatch (k : Nat) (g : WinSt → WinSt) : (s.updWin k g).histLatch = s.histLatch := rfl
@[simp] theorem updWin_drainSince (k : Nat) (g : WinSt → WinSt) : (s.updWin k g).drainSince = s.drainSince := rfl
@[simp] theorem updWin_halls (k : Nat) (g : WinSt → WinSt) : (s.updWin k g).halls = s.halls := rfl
@[simp] theorem updWin_resets (k : Nat) (g : WinSt → WinSt) : (s.updWin k g).resets = s.resets := rfl
@[simp] theorem updWin_hangs (k : Nat) (g : WinSt → WinSt) : (s.updWin k g).hangs = s.hangs := rfl
@[simp] theorem updWin_cut (k : Nat) (g : WinSt → WinSt) : (s.updWin k g).cut = s.cut := rfl
@[simp] theorem updWin_cutNo (k : Nat) (g : WinSt → WinSt) : (s.updWin k g).cutNo = s.cutNo := rfl
@[simp] theorem updWin_cutDue (k : Nat) (g : WinSt → WinSt) : (s.updWin k g).cutDue = s.cutDue := rfl
@[simp] theorem updWin_cutUnits (k : Nat) (g : WinSt → WinSt) : (s.updWin k g).cutUnits = s.cutUnits := rfl
@[simp] theorem updWin_chans (k : Nat) (g : WinSt → WinSt) : (s.updWin k g).chans = s.chans := rfl
@[simp] theorem updWin_stop (k : Nat) (g : WinSt → WinSt) : (s.updWin k g).stop = s.stop := rfl
@[simp] theorem updWin_voids (k : Nat) (g : WinSt → WinSt) : (s.updWin k g).voids = s.voids := rfl
@[simp] theorem updWin_bins (k : Nat) (g : WinSt → WinSt) : (s.updWin k g).bins = s.bins := rfl
@[simp] theorem updWin_bank (k : Nat) (g : WinSt → WinSt) : (s.updWin k g).bank = s.bank := rfl
@[simp] theorem updWin_segs (k : Nat) (g : WinSt → WinSt) : (s.updWin k g).segs = s.segs := rfl
@[simp] theorem updWin_attic (k : Nat) (g : WinSt → WinSt) : (s.updWin k g).attic = s.attic := rfl
@[simp] theorem updWin_mem (k : Nat) (g : WinSt → WinSt) : (s.updWin k g).mem = s.mem := rfl
@[simp] theorem updWin_variant (k : Nat) (g : WinSt → WinSt) : (s.updWin k g).variant = s.variant := rfl
@[simp] theorem updWin_mbx (k : Nat) (g : WinSt → WinSt) : (s.updWin k g).mbx = s.mbx := rfl
@[simp] theorem updWin_twk (k : Nat) (g : WinSt → WinSt) : (s.updWin k g).twk = s.twk := rfl
@[simp] theorem updWin_mgt (k : Nat) (g : WinSt → WinSt) : (s.updWin k g).mgt = s.mgt := rfl
@[simp] theorem updWin_dbg (k : Nat) (g : WinSt → WinSt) : (s.updWin k g).dbg = s.dbg := rfl
@[simp] theorem updWin_cels (k : Nat) (g : WinSt → WinSt) : (s.updWin k g).cels = s.cels := rfl
@[simp] theorem updWin_reloads (k : Nat) (g : WinSt → WinSt) : (s.updWin k g).reloads = s.reloads := rfl
@[simp] theorem updWin_chanMap (k : Nat) (g : WinSt → WinSt) : (s.updWin k g).chanMap = s.chanMap := rfl
@[simp] theorem updWin_descCopy (k : Nat) (g : WinSt → WinSt) : (s.updWin k g).descCopy = s.descCopy := rfl
@[simp] theorem updWin_seeds (k : Nat) (g : WinSt → WinSt) : (s.updWin k g).seeds = s.seeds := rfl
@[simp] theorem updWin_idleKills (k : Nat) (g : WinSt → WinSt) : (s.updWin k g).idleKills = s.idleKills := rfl
@[simp] theorem updWin_prv (k : Nat) (g : WinSt → WinSt) : (s.updWin k g).prv = s.prv := rfl
@[simp] theorem updWin_pairs (k : Nat) (g : WinSt → WinSt) : (s.updWin k g).pairs = s.pairs := rfl
@[simp] theorem updWin_steepFirst (k : Nat) (g : WinSt → WinSt) : (s.updWin k g).steepFirst = s.steepFirst := rfl
@[simp] theorem updWin_stp (k : Nat) (g : WinSt → WinSt) : (s.updWin k g).stp = s.stp := rfl
@[simp] theorem updWin_engs (k : Nat) (g : WinSt → WinSt) : (s.updWin k g).engs = s.engs := rfl
@[simp] theorem updWin_plan (k : Nat) (g : WinSt → WinSt) : (s.updWin k g).plan = s.plan := rfl
@[simp] theorem updWin_grist (k : Nat) (g : WinSt → WinSt) : (s.updWin k g).grist = s.grist := rfl
@[simp] theorem updWin_ana (k : Nat) (g : WinSt → WinSt) : (s.updWin k g).ana = s.ana := rfl
@[simp] theorem updWin_dl (k : Nat) (g : WinSt → WinSt) : (s.updWin k g).dl = s.dl := rfl
@[simp] theorem updWin_fw (k : Nat) (g : WinSt → WinSt) : (s.updWin k g).fw = s.fw := rfl
@[simp] theorem updWin_sens (k : Nat) (g : WinSt → WinSt) : (s.updWin k g).sens = s.sens := rfl
@[simp] theorem updWin_thm (k : Nat) (g : WinSt → WinSt) : (s.updWin k g).thm = s.thm := rfl
@[simp] theorem updWin_emerg (k : Nat) (g : WinSt → WinSt) : (s.updWin k g).emerg = s.emerg := rfl
@[simp] theorem updWin_pad (k : Nat) (g : WinSt → WinSt) : (s.updWin k g).pad = s.pad := rfl
@[simp] theorem updWin_resetsDue (k : Nat) (g : WinSt → WinSt) : (s.updWin k g).resetsDue = s.resetsDue := rfl
@[simp] theorem updWin_latch (k : Nat) (g : WinSt → WinSt) : (s.updWin k g).latch = s.latch := rfl
@[simp] theorem updWin_tree (k : Nat) (g : WinSt → WinSt) : (s.updWin k g).tree = s.tree := rfl
@[simp] theorem updWin_refLost (k : Nat) (g : WinSt → WinSt) : (s.updWin k g).refLost = s.refLost := rfl
@[simp] theorem updWin_histFlash (k : Nat) (g : WinSt → WinSt) : (s.updWin k g).histFlash = s.histFlash := rfl
@[simp] theorem updWin_tickAt (k : Nat) (g : WinSt → WinSt) : (s.updWin k g).tickAt = s.tickAt := rfl
@[simp] theorem updWin_passSeen (k : Nat) (g : WinSt → WinSt) : (s.updWin k g).passSeen = s.passSeen := rfl

/-! The entries of `winAlive`. -/
@[simp] theorem winStream_updWinStream_same (k : Nat) (g : StreamSt → StreamSt) : (s.updWinStream k g).winStream k = g (s.winStream k) := Tab.get_upd_same _ _ _ _
theorem winStream_updWinStream_other {k j : Nat} (h : j ≠ k) (g : StreamSt → StreamSt) : (s.updWinStream k g).winStream j = s.winStream j := Tab.get_upd_other _ _ h _
theorem winStream_congr {t : State} (h : t.winAlive = s.winAlive) (k : Nat) : t.winStream k = s.winStream k := by unfold State.winStream; rw [h]
@[simp] theorem updWinStream_pending (k : Nat) (g : StreamSt → StreamSt) : (s.updWinStream k g).pending = s.pending := rfl
@[simp] theorem updWinStream_wall (k : Nat) (g : StreamSt → StreamSt) : (s.updWinStream k g).wall = s.wall := rfl
@[simp] theorem updWinStream_fresh (k : Nat) (g : StreamSt → StreamSt) : (s.updWinStream k g).fresh = s.fresh := rfl
@[simp] theorem updWinStream_regs (k : Nat) (g : StreamSt → StreamSt) : (s.updWinStream k g).regs = s.regs := rfl
@[simp] theorem updWinStream_ecnt (k : Nat) (g : StreamSt → StreamSt) : (s.updWinStream k g).ecnt = s.ecnt := rfl
@[simp] theorem updWinStream_rcnt (k : Nat) (g : StreamSt → StreamSt) : (s.updWinStream k g).rcnt = s.rcnt := rfl
@[simp] theorem updWinStream_fill (k : Nat) (g : StreamSt → StreamSt) : (s.updWinStream k g).fill = s.fill := rfl
@[simp] theorem updWinStream_shown (k : Nat) (g : StreamSt → StreamSt) : (s.updWinStream k g).shown = s.shown := rfl
@[simp] theorem updWinStream_units (k : Nat) (g : StreamSt → StreamSt) : (s.updWinStream k g).units = s.units := rfl
@[simp] theorem updWinStream_transit (k : Nat) (g : StreamSt → StreamSt) : (s.updWinStream k g).transit = s.transit := rfl
@[simp] theorem updWinStream_marks (k : Nat) (g : StreamSt → StreamSt) : (s.updWinStream k g).marks = s.marks := rfl
@[simp] theorem updWinStream_sent (k : Nat) (g : StreamSt → StreamSt) : (s.updWinStream k g).sent = s.sent := rfl
@[simp] theorem updWinStream_routers (k : Nat) (g : StreamSt → StreamSt) : (s.updWinStream k g).routers = s.routers := rfl
@[simp] theorem updWinStream_hops (k : Nat) (g : StreamSt → StreamSt) : (s.updWinStream k g).hops = s.hops := rfl
@[simp] theorem updWinStream_tablesDue (k : Nat) (g : StreamSt → StreamSt) : (s.updWinStream k g).tablesDue = s.tablesDue := rfl
@[simp] theorem updWinStream_cutoff (k : Nat) (g : StreamSt → StreamSt) : (s.updWinStream k g).cutoff = s.cutoff := rfl
@[simp] theorem updWinStream_delays (k : Nat) (g : StreamSt → StreamSt) : (s.updWinStream k g).delays = s.delays := rfl
@[simp] theorem updWinStream_clocks (k : Nat) (g : StreamSt → StreamSt) : (s.updWinStream k g).clocks = s.clocks := rfl
@[simp] theorem updWinStream_pair (k : Nat) (g : StreamSt → StreamSt) : (s.updWinStream k g).pair = s.pair := rfl
@[simp] theorem updWinStream_gates (k : Nat) (g : StreamSt → StreamSt) : (s.updWinStream k g).gates = s.gates := rfl
@[simp] theorem updWinStream_doors (k : Nat) (g : StreamSt → StreamSt) : (s.updWinStream k g).doors = s.doors := rfl
@[simp] theorem updWinStream_streams (k : Nat) (g : StreamSt → StreamSt) : (s.updWinStream k g).streams = s.streams := rfl
@[simp] theorem updWinStream_wins (k : Nat) (g : StreamSt → StreamSt) : (s.updWinStream k g).wins = s.wins := rfl
@[simp] theorem updWinStream_scans (k : Nat) (g : StreamSt → StreamSt) : (s.updWinStream k g).scans = s.scans := rfl
@[simp] theorem updWinStream_taps (k : Nat) (g : StreamSt → StreamSt) : (s.updWinStream k g).taps = s.taps := rfl
@[simp] theorem updWinStream_cores (k : Nat) (g : StreamSt → StreamSt) : (s.updWinStream k g).cores = s.cores := rfl
@[simp] theorem updWinStream_ports (k : Nat) (g : StreamSt → StreamSt) : (s.updWinStream k g).ports = s.ports := rfl
@[simp] theorem updWinStream_adj (k : Nat) (g : StreamSt → StreamSt) : (s.updWinStream k g).adj = s.adj := rfl
@[simp] theorem updWinStream_rpl (k : Nat) (g : StreamSt → StreamSt) : (s.updWinStream k g).rpl = s.rpl := rfl
@[simp] theorem updWinStream_steps (k : Nat) (g : StreamSt → StreamSt) : (s.updWinStream k g).steps = s.steps := rfl
@[simp] theorem updWinStream_verdicts (k : Nat) (g : StreamSt → StreamSt) : (s.updWinStream k g).verdicts = s.verdicts := rfl
@[simp] theorem updWinStream_replays (k : Nat) (g : StreamSt → StreamSt) : (s.updWinStream k g).replays = s.replays := rfl
@[simp] theorem updWinStream_setsOpened (k : Nat) (g : StreamSt → StreamSt) : (s.updWinStream k g).setsOpened = s.setsOpened := rfl
@[simp] theorem updWinStream_ctxs (k : Nat) (g : StreamSt → StreamSt) : (s.updWinStream k g).ctxs = s.ctxs := rfl
@[simp] theorem updWinStream_hist (k : Nat) (g : StreamSt → StreamSt) : (s.updWinStream k g).hist = s.hist := rfl
@[simp] theorem updWinStream_histStaged (k : Nat) (g : StreamSt → StreamSt) : (s.updWinStream k g).histStaged = s.histStaged := rfl
@[simp] theorem updWinStream_histLatch (k : Nat) (g : StreamSt → StreamSt) : (s.updWinStream k g).histLatch = s.histLatch := rfl
@[simp] theorem updWinStream_drainSince (k : Nat) (g : StreamSt → StreamSt) : (s.updWinStream k g).drainSince = s.drainSince := rfl
@[simp] theorem updWinStream_halls (k : Nat) (g : StreamSt → StreamSt) : (s.updWinStream k g).halls = s.halls := rfl
@[simp] theorem updWinStream_resets (k : Nat) (g : StreamSt → StreamSt) : (s.updWinStream k g).resets = s.resets := rfl
@[simp] theorem updWinStream_hangs (k : Nat) (g : StreamSt → StreamSt) : (s.updWinStream k g).hangs = s.hangs := rfl
@[simp] theorem updWinStream_cut (k : Nat) (g : StreamSt → StreamSt) : (s.updWinStream k g).cut = s.cut := rfl
@[simp] theorem updWinStream_cutNo (k : Nat) (g : StreamSt → StreamSt) : (s.updWinStream k g).cutNo = s.cutNo := rfl
@[simp] theorem updWinStream_cutDue (k : Nat) (g : StreamSt → StreamSt) : (s.updWinStream k g).cutDue = s.cutDue := rfl
@[simp] theorem updWinStream_cutUnits (k : Nat) (g : StreamSt → StreamSt) : (s.updWinStream k g).cutUnits = s.cutUnits := rfl
@[simp] theorem updWinStream_chans (k : Nat) (g : StreamSt → StreamSt) : (s.updWinStream k g).chans = s.chans := rfl
@[simp] theorem updWinStream_stop (k : Nat) (g : StreamSt → StreamSt) : (s.updWinStream k g).stop = s.stop := rfl
@[simp] theorem updWinStream_voids (k : Nat) (g : StreamSt → StreamSt) : (s.updWinStream k g).voids = s.voids := rfl
@[simp] theorem updWinStream_bins (k : Nat) (g : StreamSt → StreamSt) : (s.updWinStream k g).bins = s.bins := rfl
@[simp] theorem updWinStream_bank (k : Nat) (g : StreamSt → StreamSt) : (s.updWinStream k g).bank = s.bank := rfl
@[simp] theorem updWinStream_segs (k : Nat) (g : StreamSt → StreamSt) : (s.updWinStream k g).segs = s.segs := rfl
@[simp] theorem updWinStream_attic (k : Nat) (g : StreamSt → StreamSt) : (s.updWinStream k g).attic = s.attic := rfl
@[simp] theorem updWinStream_mem (k : Nat) (g : StreamSt → StreamSt) : (s.updWinStream k g).mem = s.mem := rfl
@[simp] theorem updWinStream_variant (k : Nat) (g : StreamSt → StreamSt) : (s.updWinStream k g).variant = s.variant := rfl
@[simp] theorem updWinStream_mbx (k : Nat) (g : StreamSt → StreamSt) : (s.updWinStream k g).mbx = s.mbx := rfl
@[simp] theorem updWinStream_twk (k : Nat) (g : StreamSt → StreamSt) : (s.updWinStream k g).twk = s.twk := rfl
@[simp] theorem updWinStream_mgt (k : Nat) (g : StreamSt → StreamSt) : (s.updWinStream k g).mgt = s.mgt := rfl
@[simp] theorem updWinStream_dbg (k : Nat) (g : StreamSt → StreamSt) : (s.updWinStream k g).dbg = s.dbg := rfl
@[simp] theorem updWinStream_cels (k : Nat) (g : StreamSt → StreamSt) : (s.updWinStream k g).cels = s.cels := rfl
@[simp] theorem updWinStream_reloads (k : Nat) (g : StreamSt → StreamSt) : (s.updWinStream k g).reloads = s.reloads := rfl
@[simp] theorem updWinStream_chanMap (k : Nat) (g : StreamSt → StreamSt) : (s.updWinStream k g).chanMap = s.chanMap := rfl
@[simp] theorem updWinStream_descCopy (k : Nat) (g : StreamSt → StreamSt) : (s.updWinStream k g).descCopy = s.descCopy := rfl
@[simp] theorem updWinStream_seeds (k : Nat) (g : StreamSt → StreamSt) : (s.updWinStream k g).seeds = s.seeds := rfl
@[simp] theorem updWinStream_idleKills (k : Nat) (g : StreamSt → StreamSt) : (s.updWinStream k g).idleKills = s.idleKills := rfl
@[simp] theorem updWinStream_prv (k : Nat) (g : StreamSt → StreamSt) : (s.updWinStream k g).prv = s.prv := rfl
@[simp] theorem updWinStream_pairs (k : Nat) (g : StreamSt → StreamSt) : (s.updWinStream k g).pairs = s.pairs := rfl
@[simp] theorem updWinStream_steepFirst (k : Nat) (g : StreamSt → StreamSt) : (s.updWinStream k g).steepFirst = s.steepFirst := rfl
@[simp] theorem updWinStream_stp (k : Nat) (g : StreamSt → StreamSt) : (s.updWinStream k g).stp = s.stp := rfl
@[simp] theorem updWinStream_engs (k : Nat) (g : StreamSt → StreamSt) : (s.updWinStream k g).engs = s.engs := rfl
@[simp] theorem updWinStream_plan (k : Nat) (g : StreamSt → StreamSt) : (s.updWinStream k g).plan = s.plan := rfl
@[simp] theorem updWinStream_grist (k : Nat) (g : StreamSt → StreamSt) : (s.updWinStream k g).grist = s.grist := rfl
@[simp] theorem updWinStream_ana (k : Nat) (g : StreamSt → StreamSt) : (s.updWinStream k g).ana = s.ana := rfl
@[simp] theorem updWinStream_dl (k : Nat) (g : StreamSt → StreamSt) : (s.updWinStream k g).dl = s.dl := rfl
@[simp] theorem updWinStream_fw (k : Nat) (g : StreamSt → StreamSt) : (s.updWinStream k g).fw = s.fw := rfl
@[simp] theorem updWinStream_sens (k : Nat) (g : StreamSt → StreamSt) : (s.updWinStream k g).sens = s.sens := rfl
@[simp] theorem updWinStream_thm (k : Nat) (g : StreamSt → StreamSt) : (s.updWinStream k g).thm = s.thm := rfl
@[simp] theorem updWinStream_emerg (k : Nat) (g : StreamSt → StreamSt) : (s.updWinStream k g).emerg = s.emerg := rfl
@[simp] theorem updWinStream_pad (k : Nat) (g : StreamSt → StreamSt) : (s.updWinStream k g).pad = s.pad := rfl
@[simp] theorem updWinStream_resetsDue (k : Nat) (g : StreamSt → StreamSt) : (s.updWinStream k g).resetsDue = s.resetsDue := rfl
@[simp] theorem updWinStream_latch (k : Nat) (g : StreamSt → StreamSt) : (s.updWinStream k g).latch = s.latch := rfl
@[simp] theorem updWinStream_tree (k : Nat) (g : StreamSt → StreamSt) : (s.updWinStream k g).tree = s.tree := rfl
@[simp] theorem updWinStream_refLost (k : Nat) (g : StreamSt → StreamSt) : (s.updWinStream k g).refLost = s.refLost := rfl
@[simp] theorem updWinStream_histFlash (k : Nat) (g : StreamSt → StreamSt) : (s.updWinStream k g).histFlash = s.histFlash := rfl
@[simp] theorem updWinStream_tickAt (k : Nat) (g : StreamSt → StreamSt) : (s.updWinStream k g).tickAt = s.tickAt := rfl
@[simp] theorem updWinStream_passSeen (k : Nat) (g : StreamSt → StreamSt) : (s.updWinStream k g).passSeen = s.passSeen := rfl

/-! The entries of `scans`. -/
@[simp] theorem scan_updScan_same (k : Nat) (g : ScanSt → ScanSt) : (s.updScan k g).scan k = g (s.scan k) := Tab.get_upd_same _ _ _ _
theorem scan_updScan_other {k j : Nat} (h : j ≠ k) (g : ScanSt → ScanSt) : (s.updScan k g).scan j = s.scan j := Tab.get_upd_other _ _ h _
theorem scan_congr {t : State} (h : t.scans = s.scans) (k : Nat) : t.scan k = s.scan k := by unfold State.scan; rw [h]
@[simp] theorem updScan_pending (k : Nat) (g : ScanSt → ScanSt) : (s.updScan k g).pending = s.pending := rfl
@[simp] theorem updScan_wall (k : Nat) (g : ScanSt → ScanSt) : (s.updScan k g).wall = s.wall := rfl
@[simp] theorem updScan_fresh (k : Nat) (g : ScanSt → ScanSt) : (s.updScan k g).fresh = s.fresh := rfl
@[simp] theorem updScan_regs (k : Nat) (g : ScanSt → ScanSt) : (s.updScan k g).regs = s.regs := rfl
@[simp] theorem updScan_ecnt (k : Nat) (g : ScanSt → ScanSt) : (s.updScan k g).ecnt = s.ecnt := rfl
@[simp] theorem updScan_rcnt (k : Nat) (g : ScanSt → ScanSt) : (s.updScan k g).rcnt = s.rcnt := rfl
@[simp] theorem updScan_fill (k : Nat) (g : ScanSt → ScanSt) : (s.updScan k g).fill = s.fill := rfl
@[simp] theorem updScan_shown (k : Nat) (g : ScanSt → ScanSt) : (s.updScan k g).shown = s.shown := rfl
@[simp] theorem updScan_units (k : Nat) (g : ScanSt → ScanSt) : (s.updScan k g).units = s.units := rfl
@[simp] theorem updScan_transit (k : Nat) (g : ScanSt → ScanSt) : (s.updScan k g).transit = s.transit := rfl
@[simp] theorem updScan_marks (k : Nat) (g : ScanSt → ScanSt) : (s.updScan k g).marks = s.marks := rfl
@[simp] theorem updScan_sent (k : Nat) (g : ScanSt → ScanSt) : (s.updScan k g).sent = s.sent := rfl
@[simp] theorem updScan_routers (k : Nat) (g : ScanSt → ScanSt) : (s.updScan k g).routers = s.routers := rfl
@[simp] theorem updScan_hops (k : Nat) (g : ScanSt → ScanSt) : (s.updScan k g).hops = s.hops := rfl
@[simp] theorem updScan_tablesDue (k : Nat) (g : ScanSt → ScanSt) : (s.updScan k g).tablesDue = s.tablesDue := rfl
@[simp] theorem updScan_cutoff (k : Nat) (g : ScanSt → ScanSt) : (s.updScan k g).cutoff = s.cutoff := rfl
@[simp] theorem updScan_delays (k : Nat) (g : ScanSt → ScanSt) : (s.updScan k g).delays = s.delays := rfl
@[simp] theorem updScan_clocks (k : Nat) (g : ScanSt → ScanSt) : (s.updScan k g).clocks = s.clocks := rfl
@[simp] theorem updScan_pair (k : Nat) (g : ScanSt → ScanSt) : (s.updScan k g).pair = s.pair := rfl
@[simp] theorem updScan_gates (k : Nat) (g : ScanSt → ScanSt) : (s.updScan k g).gates = s.gates := rfl
@[simp] theorem updScan_doors (k : Nat) (g : ScanSt → ScanSt) : (s.updScan k g).doors = s.doors := rfl
@[simp] theorem updScan_streams (k : Nat) (g : ScanSt → ScanSt) : (s.updScan k g).streams = s.streams := rfl
@[simp] theorem updScan_wins (k : Nat) (g : ScanSt → ScanSt) : (s.updScan k g).wins = s.wins := rfl
@[simp] theorem updScan_winAlive (k : Nat) (g : ScanSt → ScanSt) : (s.updScan k g).winAlive = s.winAlive := rfl
@[simp] theorem updScan_taps (k : Nat) (g : ScanSt → ScanSt) : (s.updScan k g).taps = s.taps := rfl
@[simp] theorem updScan_cores (k : Nat) (g : ScanSt → ScanSt) : (s.updScan k g).cores = s.cores := rfl
@[simp] theorem updScan_ports (k : Nat) (g : ScanSt → ScanSt) : (s.updScan k g).ports = s.ports := rfl
@[simp] theorem updScan_adj (k : Nat) (g : ScanSt → ScanSt) : (s.updScan k g).adj = s.adj := rfl
@[simp] theorem updScan_rpl (k : Nat) (g : ScanSt → ScanSt) : (s.updScan k g).rpl = s.rpl := rfl
@[simp] theorem updScan_steps (k : Nat) (g : ScanSt → ScanSt) : (s.updScan k g).steps = s.steps := rfl
@[simp] theorem updScan_verdicts (k : Nat) (g : ScanSt → ScanSt) : (s.updScan k g).verdicts = s.verdicts := rfl
@[simp] theorem updScan_replays (k : Nat) (g : ScanSt → ScanSt) : (s.updScan k g).replays = s.replays := rfl
@[simp] theorem updScan_setsOpened (k : Nat) (g : ScanSt → ScanSt) : (s.updScan k g).setsOpened = s.setsOpened := rfl
@[simp] theorem updScan_ctxs (k : Nat) (g : ScanSt → ScanSt) : (s.updScan k g).ctxs = s.ctxs := rfl
@[simp] theorem updScan_hist (k : Nat) (g : ScanSt → ScanSt) : (s.updScan k g).hist = s.hist := rfl
@[simp] theorem updScan_histStaged (k : Nat) (g : ScanSt → ScanSt) : (s.updScan k g).histStaged = s.histStaged := rfl
@[simp] theorem updScan_histLatch (k : Nat) (g : ScanSt → ScanSt) : (s.updScan k g).histLatch = s.histLatch := rfl
@[simp] theorem updScan_drainSince (k : Nat) (g : ScanSt → ScanSt) : (s.updScan k g).drainSince = s.drainSince := rfl
@[simp] theorem updScan_halls (k : Nat) (g : ScanSt → ScanSt) : (s.updScan k g).halls = s.halls := rfl
@[simp] theorem updScan_resets (k : Nat) (g : ScanSt → ScanSt) : (s.updScan k g).resets = s.resets := rfl
@[simp] theorem updScan_hangs (k : Nat) (g : ScanSt → ScanSt) : (s.updScan k g).hangs = s.hangs := rfl
@[simp] theorem updScan_cut (k : Nat) (g : ScanSt → ScanSt) : (s.updScan k g).cut = s.cut := rfl
@[simp] theorem updScan_cutNo (k : Nat) (g : ScanSt → ScanSt) : (s.updScan k g).cutNo = s.cutNo := rfl
@[simp] theorem updScan_cutDue (k : Nat) (g : ScanSt → ScanSt) : (s.updScan k g).cutDue = s.cutDue := rfl
@[simp] theorem updScan_cutUnits (k : Nat) (g : ScanSt → ScanSt) : (s.updScan k g).cutUnits = s.cutUnits := rfl
@[simp] theorem updScan_chans (k : Nat) (g : ScanSt → ScanSt) : (s.updScan k g).chans = s.chans := rfl
@[simp] theorem updScan_stop (k : Nat) (g : ScanSt → ScanSt) : (s.updScan k g).stop = s.stop := rfl
@[simp] theorem updScan_voids (k : Nat) (g : ScanSt → ScanSt) : (s.updScan k g).voids = s.voids := rfl
@[simp] theorem updScan_bins (k : Nat) (g : ScanSt → ScanSt) : (s.updScan k g).bins = s.bins := rfl
@[simp] theorem updScan_bank (k : Nat) (g : ScanSt → ScanSt) : (s.updScan k g).bank = s.bank := rfl
@[simp] theorem updScan_segs (k : Nat) (g : ScanSt → ScanSt) : (s.updScan k g).segs = s.segs := rfl
@[simp] theorem updScan_attic (k : Nat) (g : ScanSt → ScanSt) : (s.updScan k g).attic = s.attic := rfl
@[simp] theorem updScan_mem (k : Nat) (g : ScanSt → ScanSt) : (s.updScan k g).mem = s.mem := rfl
@[simp] theorem updScan_variant (k : Nat) (g : ScanSt → ScanSt) : (s.updScan k g).variant = s.variant := rfl
@[simp] theorem updScan_mbx (k : Nat) (g : ScanSt → ScanSt) : (s.updScan k g).mbx = s.mbx := rfl
@[simp] theorem updScan_twk (k : Nat) (g : ScanSt → ScanSt) : (s.updScan k g).twk = s.twk := rfl
@[simp] theorem updScan_mgt (k : Nat) (g : ScanSt → ScanSt) : (s.updScan k g).mgt = s.mgt := rfl
@[simp] theorem updScan_dbg (k : Nat) (g : ScanSt → ScanSt) : (s.updScan k g).dbg = s.dbg := rfl
@[simp] theorem updScan_cels (k : Nat) (g : ScanSt → ScanSt) : (s.updScan k g).cels = s.cels := rfl
@[simp] theorem updScan_reloads (k : Nat) (g : ScanSt → ScanSt) : (s.updScan k g).reloads = s.reloads := rfl
@[simp] theorem updScan_chanMap (k : Nat) (g : ScanSt → ScanSt) : (s.updScan k g).chanMap = s.chanMap := rfl
@[simp] theorem updScan_descCopy (k : Nat) (g : ScanSt → ScanSt) : (s.updScan k g).descCopy = s.descCopy := rfl
@[simp] theorem updScan_seeds (k : Nat) (g : ScanSt → ScanSt) : (s.updScan k g).seeds = s.seeds := rfl
@[simp] theorem updScan_idleKills (k : Nat) (g : ScanSt → ScanSt) : (s.updScan k g).idleKills = s.idleKills := rfl
@[simp] theorem updScan_prv (k : Nat) (g : ScanSt → ScanSt) : (s.updScan k g).prv = s.prv := rfl
@[simp] theorem updScan_pairs (k : Nat) (g : ScanSt → ScanSt) : (s.updScan k g).pairs = s.pairs := rfl
@[simp] theorem updScan_steepFirst (k : Nat) (g : ScanSt → ScanSt) : (s.updScan k g).steepFirst = s.steepFirst := rfl
@[simp] theorem updScan_stp (k : Nat) (g : ScanSt → ScanSt) : (s.updScan k g).stp = s.stp := rfl
@[simp] theorem updScan_engs (k : Nat) (g : ScanSt → ScanSt) : (s.updScan k g).engs = s.engs := rfl
@[simp] theorem updScan_plan (k : Nat) (g : ScanSt → ScanSt) : (s.updScan k g).plan = s.plan := rfl
@[simp] theorem updScan_grist (k : Nat) (g : ScanSt → ScanSt) : (s.updScan k g).grist = s.grist := rfl
@[simp] theorem updScan_ana (k : Nat) (g : ScanSt → ScanSt) : (s.updScan k g).ana = s.ana := rfl
@[simp] theorem updScan_dl (k : Nat) (g : ScanSt → ScanSt) : (s.updScan k g).dl = s.dl := rfl
@[simp] theorem updScan_fw (k : Nat) (g : ScanSt → ScanSt) : (s.updScan k g).fw = s.fw := rfl
@[simp] theorem updScan_sens (k : Nat) (g : ScanSt → ScanSt) : (s.updScan k g).sens = s.sens := rfl
@[simp] theorem updScan_thm (k : Nat) (g : ScanSt → ScanSt) : (s.updScan k g).thm = s.thm := rfl
@[simp] theorem updScan_emerg (k : Nat) (g : ScanSt → ScanSt) : (s.updScan k g).emerg = s.emerg := rfl
@[simp] theorem updScan_pad (k : Nat) (g : ScanSt → ScanSt) : (s.updScan k g).pad = s.pad := rfl
@[simp] theorem updScan_resetsDue (k : Nat) (g : ScanSt → ScanSt) : (s.updScan k g).resetsDue = s.resetsDue := rfl
@[simp] theorem updScan_latch (k : Nat) (g : ScanSt → ScanSt) : (s.updScan k g).latch = s.latch := rfl
@[simp] theorem updScan_tree (k : Nat) (g : ScanSt → ScanSt) : (s.updScan k g).tree = s.tree := rfl
@[simp] theorem updScan_refLost (k : Nat) (g : ScanSt → ScanSt) : (s.updScan k g).refLost = s.refLost := rfl
@[simp] theorem updScan_histFlash (k : Nat) (g : ScanSt → ScanSt) : (s.updScan k g).histFlash = s.histFlash := rfl
@[simp] theorem updScan_tickAt (k : Nat) (g : ScanSt → ScanSt) : (s.updScan k g).tickAt = s.tickAt := rfl
@[simp] theorem updScan_passSeen (k : Nat) (g : ScanSt → ScanSt) : (s.updScan k g).passSeen = s.passSeen := rfl

/-! The entries of `taps`. -/
@[simp] theorem tap_updTap_same (k : Nat) (g : TapSt → TapSt) : (s.updTap k g).tap k = g (s.tap k) := Tab.get_upd_same _ _ _ _
theorem tap_updTap_other {k j : Nat} (h : j ≠ k) (g : TapSt → TapSt) : (s.updTap k g).tap j = s.tap j := Tab.get_upd_other _ _ h _
theorem tap_congr {t : State} (h : t.taps = s.taps) (k : Nat) : t.tap k = s.tap k := by unfold State.tap; rw [h]
@[simp] theorem updTap_pending (k : Nat) (g : TapSt → TapSt) : (s.updTap k g).pending = s.pending := rfl
@[simp] theorem updTap_wall (k : Nat) (g : TapSt → TapSt) : (s.updTap k g).wall = s.wall := rfl
@[simp] theorem updTap_fresh (k : Nat) (g : TapSt → TapSt) : (s.updTap k g).fresh = s.fresh := rfl
@[simp] theorem updTap_regs (k : Nat) (g : TapSt → TapSt) : (s.updTap k g).regs = s.regs := rfl
@[simp] theorem updTap_ecnt (k : Nat) (g : TapSt → TapSt) : (s.updTap k g).ecnt = s.ecnt := rfl
@[simp] theorem updTap_rcnt (k : Nat) (g : TapSt → TapSt) : (s.updTap k g).rcnt = s.rcnt := rfl
@[simp] theorem updTap_fill (k : Nat) (g : TapSt → TapSt) : (s.updTap k g).fill = s.fill := rfl
@[simp] theorem updTap_shown (k : Nat) (g : TapSt → TapSt) : (s.updTap k g).shown = s.shown := rfl
@[simp] theorem updTap_units (k : Nat) (g : TapSt → TapSt) : (s.updTap k g).units = s.units := rfl
@[simp] theorem updTap_transit (k : Nat) (g : TapSt → TapSt) : (s.updTap k g).transit = s.transit := rfl
@[simp] theorem updTap_marks (k : Nat) (g : TapSt → TapSt) : (s.updTap k g).marks = s.marks := rfl
@[simp] theorem updTap_sent (k : Nat) (g : TapSt → TapSt) : (s.updTap k g).sent = s.sent := rfl
@[simp] theorem updTap_routers (k : Nat) (g : TapSt → TapSt) : (s.updTap k g).routers = s.routers := rfl
@[simp] theorem updTap_hops (k : Nat) (g : TapSt → TapSt) : (s.updTap k g).hops = s.hops := rfl
@[simp] theorem updTap_tablesDue (k : Nat) (g : TapSt → TapSt) : (s.updTap k g).tablesDue = s.tablesDue := rfl
@[simp] theorem updTap_cutoff (k : Nat) (g : TapSt → TapSt) : (s.updTap k g).cutoff = s.cutoff := rfl
@[simp] theorem updTap_delays (k : Nat) (g : TapSt → TapSt) : (s.updTap k g).delays = s.delays := rfl
@[simp] theorem updTap_clocks (k : Nat) (g : TapSt → TapSt) : (s.updTap k g).clocks = s.clocks := rfl
@[simp] theorem updTap_pair (k : Nat) (g : TapSt → TapSt) : (s.updTap k g).pair = s.pair := rfl
@[simp] theorem updTap_gates (k : Nat) (g : TapSt → TapSt) : (s.updTap k g).gates = s.gates := rfl
@[simp] theorem updTap_doors (k : Nat) (g : TapSt → TapSt) : (s.updTap k g).doors = s.doors := rfl
@[simp] theorem updTap_streams (k : Nat) (g : TapSt → TapSt) : (s.updTap k g).streams = s.streams := rfl
@[simp] theorem updTap_wins (k : Nat) (g : TapSt → TapSt) : (s.updTap k g).wins = s.wins := rfl
@[simp] theorem updTap_winAlive (k : Nat) (g : TapSt → TapSt) : (s.updTap k g).winAlive = s.winAlive := rfl
@[simp] theorem updTap_scans (k : Nat) (g : TapSt → TapSt) : (s.updTap k g).scans = s.scans := rfl
@[simp] theorem updTap_cores (k : Nat) (g : TapSt → TapSt) : (s.updTap k g).cores = s.cores := rfl
@[simp] theorem updTap_ports (k : Nat) (g : TapSt → TapSt) : (s.updTap k g).ports = s.ports := rfl
@[simp] theorem updTap_adj (k : Nat) (g : TapSt → TapSt) : (s.updTap k g).adj = s.adj := rfl
@[simp] theorem updTap_rpl (k : Nat) (g : TapSt → TapSt) : (s.updTap k g).rpl = s.rpl := rfl
@[simp] theorem updTap_steps (k : Nat) (g : TapSt → TapSt) : (s.updTap k g).steps = s.steps := rfl
@[simp] theorem updTap_verdicts (k : Nat) (g : TapSt → TapSt) : (s.updTap k g).verdicts = s.verdicts := rfl
@[simp] theorem updTap_replays (k : Nat) (g : TapSt → TapSt) : (s.updTap k g).replays = s.replays := rfl
@[simp] theorem updTap_setsOpened (k : Nat) (g : TapSt → TapSt) : (s.updTap k g).setsOpened = s.setsOpened := rfl
@[simp] theorem updTap_ctxs (k : Nat) (g : TapSt → TapSt) : (s.updTap k g).ctxs = s.ctxs := rfl
@[simp] theorem updTap_hist (k : Nat) (g : TapSt → TapSt) : (s.updTap k g).hist = s.hist := rfl
@[simp] theorem updTap_histStaged (k : Nat) (g : TapSt → TapSt) : (s.updTap k g).histStaged = s.histStaged := rfl
@[simp] theorem updTap_histLatch (k : Nat) (g : TapSt → TapSt) : (s.updTap k g).histLatch = s.histLatch := rfl
@[simp] theorem updTap_drainSince (k : Nat) (g : TapSt → TapSt) : (s.updTap k g).drainSince = s.drainSince := rfl
@[simp] theorem updTap_halls (k : Nat) (g : TapSt → TapSt) : (s.updTap k g).halls = s.halls := rfl
@[simp] theorem updTap_resets (k : Nat) (g : TapSt → TapSt) : (s.updTap k g).resets = s.resets := rfl
@[simp] theorem updTap_hangs (k : Nat) (g : TapSt → TapSt) : (s.updTap k g).hangs = s.hangs := rfl
@[simp] theorem updTap_cut (k : Nat) (g : TapSt → TapSt) : (s.updTap k g).cut = s.cut := rfl
@[simp] theorem updTap_cutNo (k : Nat) (g : TapSt → TapSt) : (s.updTap k g).cutNo = s.cutNo := rfl
@[simp] theorem updTap_cutDue (k : Nat) (g : TapSt → TapSt) : (s.updTap k g).cutDue = s.cutDue := rfl
@[simp] theorem updTap_cutUnits (k : Nat) (g : TapSt → TapSt) : (s.updTap k g).cutUnits = s.cutUnits := rfl
@[simp] theorem updTap_chans (k : Nat) (g : TapSt → TapSt) : (s.updTap k g).chans = s.chans := rfl
@[simp] theorem updTap_stop (k : Nat) (g : TapSt → TapSt) : (s.updTap k g).stop = s.stop := rfl
@[simp] theorem updTap_voids (k : Nat) (g : TapSt → TapSt) : (s.updTap k g).voids = s.voids := rfl
@[simp] theorem updTap_bins (k : Nat) (g : TapSt → TapSt) : (s.updTap k g).bins = s.bins := rfl
@[simp] theorem updTap_bank (k : Nat) (g : TapSt → TapSt) : (s.updTap k g).bank = s.bank := rfl
@[simp] theorem updTap_segs (k : Nat) (g : TapSt → TapSt) : (s.updTap k g).segs = s.segs := rfl
@[simp] theorem updTap_attic (k : Nat) (g : TapSt → TapSt) : (s.updTap k g).attic = s.attic := rfl
@[simp] theorem updTap_mem (k : Nat) (g : TapSt → TapSt) : (s.updTap k g).mem = s.mem := rfl
@[simp] theorem updTap_variant (k : Nat) (g : TapSt → TapSt) : (s.updTap k g).variant = s.variant := rfl
@[simp] theorem updTap_mbx (k : Nat) (g : TapSt → TapSt) : (s.updTap k g).mbx = s.mbx := rfl
@[simp] theorem updTap_twk (k : Nat) (g : TapSt → TapSt) : (s.updTap k g).twk = s.twk := rfl
@[simp] theorem updTap_mgt (k : Nat) (g : TapSt → TapSt) : (s.updTap k g).mgt = s.mgt := rfl
@[simp] theorem updTap_dbg (k : Nat) (g : TapSt → TapSt) : (s.updTap k g).dbg = s.dbg := rfl
@[simp] theorem updTap_cels (k : Nat) (g : TapSt → TapSt) : (s.updTap k g).cels = s.cels := rfl
@[simp] theorem updTap_reloads (k : Nat) (g : TapSt → TapSt) : (s.updTap k g).reloads = s.reloads := rfl
@[simp] theorem updTap_chanMap (k : Nat) (g : TapSt → TapSt) : (s.updTap k g).chanMap = s.chanMap := rfl
@[simp] theorem updTap_descCopy (k : Nat) (g : TapSt → TapSt) : (s.updTap k g).descCopy = s.descCopy := rfl
@[simp] theorem updTap_seeds (k : Nat) (g : TapSt → TapSt) : (s.updTap k g).seeds = s.seeds := rfl
@[simp] theorem updTap_idleKills (k : Nat) (g : TapSt → TapSt) : (s.updTap k g).idleKills = s.idleKills := rfl
@[simp] theorem updTap_prv (k : Nat) (g : TapSt → TapSt) : (s.updTap k g).prv = s.prv := rfl
@[simp] theorem updTap_pairs (k : Nat) (g : TapSt → TapSt) : (s.updTap k g).pairs = s.pairs := rfl
@[simp] theorem updTap_steepFirst (k : Nat) (g : TapSt → TapSt) : (s.updTap k g).steepFirst = s.steepFirst := rfl
@[simp] theorem updTap_stp (k : Nat) (g : TapSt → TapSt) : (s.updTap k g).stp = s.stp := rfl
@[simp] theorem updTap_engs (k : Nat) (g : TapSt → TapSt) : (s.updTap k g).engs = s.engs := rfl
@[simp] theorem updTap_plan (k : Nat) (g : TapSt → TapSt) : (s.updTap k g).plan = s.plan := rfl
@[simp] theorem updTap_grist (k : Nat) (g : TapSt → TapSt) : (s.updTap k g).grist = s.grist := rfl
@[simp] theorem updTap_ana (k : Nat) (g : TapSt → TapSt) : (s.updTap k g).ana = s.ana := rfl
@[simp] theorem updTap_dl (k : Nat) (g : TapSt → TapSt) : (s.updTap k g).dl = s.dl := rfl
@[simp] theorem updTap_fw (k : Nat) (g : TapSt → TapSt) : (s.updTap k g).fw = s.fw := rfl
@[simp] theorem updTap_sens (k : Nat) (g : TapSt → TapSt) : (s.updTap k g).sens = s.sens := rfl
@[simp] theorem updTap_thm (k : Nat) (g : TapSt → TapSt) : (s.updTap k g).thm = s.thm := rfl
@[simp] theorem updTap_emerg (k : Nat) (g : TapSt → TapSt) : (s.updTap k g).emerg = s.emerg := rfl
@[simp] theorem updTap_pad (k : Nat) (g : TapSt → TapSt) : (s.updTap k g).pad = s.pad := rfl
@[simp] theorem updTap_resetsDue (k : Nat) (g : TapSt → TapSt) : (s.updTap k g).resetsDue = s.resetsDue := rfl
@[simp] theorem updTap_latch (k : Nat) (g : TapSt → TapSt) : (s.updTap k g).latch = s.latch := rfl
@[simp] theorem updTap_tree (k : Nat) (g : TapSt → TapSt) : (s.updTap k g).tree = s.tree := rfl
@[simp] theorem updTap_refLost (k : Nat) (g : TapSt → TapSt) : (s.updTap k g).refLost = s.refLost := rfl
@[simp] theorem updTap_histFlash (k : Nat) (g : TapSt → TapSt) : (s.updTap k g).histFlash = s.histFlash := rfl
@[simp] theorem updTap_tickAt (k : Nat) (g : TapSt → TapSt) : (s.updTap k g).tickAt = s.tickAt := rfl
@[simp] theorem updTap_passSeen (k : Nat) (g : TapSt → TapSt) : (s.updTap k g).passSeen = s.passSeen := rfl

/-! The entries of `cores`. -/
@[simp] theorem core_updCore_same (k : Nat) (g : CoreSt → CoreSt) : (s.updCore k g).core k = g (s.core k) := Tab.get_upd_same _ _ _ _
theorem core_updCore_other {k j : Nat} (h : j ≠ k) (g : CoreSt → CoreSt) : (s.updCore k g).core j = s.core j := Tab.get_upd_other _ _ h _
theorem core_congr {t : State} (h : t.cores = s.cores) (k : Nat) : t.core k = s.core k := by unfold State.core; rw [h]
@[simp] theorem updCore_pending (k : Nat) (g : CoreSt → CoreSt) : (s.updCore k g).pending = s.pending := rfl
@[simp] theorem updCore_wall (k : Nat) (g : CoreSt → CoreSt) : (s.updCore k g).wall = s.wall := rfl
@[simp] theorem updCore_fresh (k : Nat) (g : CoreSt → CoreSt) : (s.updCore k g).fresh = s.fresh := rfl
@[simp] theorem updCore_regs (k : Nat) (g : CoreSt → CoreSt) : (s.updCore k g).regs = s.regs := rfl
@[simp] theorem updCore_ecnt (k : Nat) (g : CoreSt → CoreSt) : (s.updCore k g).ecnt = s.ecnt := rfl
@[simp] theorem updCore_rcnt (k : Nat) (g : CoreSt → CoreSt) : (s.updCore k g).rcnt = s.rcnt := rfl
@[simp] theorem updCore_fill (k : Nat) (g : CoreSt → CoreSt) : (s.updCore k g).fill = s.fill := rfl
@[simp] theorem updCore_shown (k : Nat) (g : CoreSt → CoreSt) : (s.updCore k g).shown = s.shown := rfl
@[simp] theorem updCore_units (k : Nat) (g : CoreSt → CoreSt) : (s.updCore k g).units = s.units := rfl
@[simp] theorem updCore_transit (k : Nat) (g : CoreSt → CoreSt) : (s.updCore k g).transit = s.transit := rfl
@[simp] theorem updCore_marks (k : Nat) (g : CoreSt → CoreSt) : (s.updCore k g).marks = s.marks := rfl
@[simp] theorem updCore_sent (k : Nat) (g : CoreSt → CoreSt) : (s.updCore k g).sent = s.sent := rfl
@[simp] theorem updCore_routers (k : Nat) (g : CoreSt → CoreSt) : (s.updCore k g).routers = s.routers := rfl
@[simp] theorem updCore_hops (k : Nat) (g : CoreSt → CoreSt) : (s.updCore k g).hops = s.hops := rfl
@[simp] theorem updCore_tablesDue (k : Nat) (g : CoreSt → CoreSt) : (s.updCore k g).tablesDue = s.tablesDue := rfl
@[simp] theorem updCore_cutoff (k : Nat) (g : CoreSt → CoreSt) : (s.updCore k g).cutoff = s.cutoff := rfl
@[simp] theorem updCore_delays (k : Nat) (g : CoreSt → CoreSt) : (s.updCore k g).delays = s.delays := rfl
@[simp] theorem updCore_clocks (k : Nat) (g : CoreSt → CoreSt) : (s.updCore k g).clocks = s.clocks := rfl
@[simp] theorem updCore_pair (k : Nat) (g : CoreSt → CoreSt) : (s.updCore k g).pair = s.pair := rfl
@[simp] theorem updCore_gates (k : Nat) (g : CoreSt → CoreSt) : (s.updCore k g).gates = s.gates := rfl
@[simp] theorem updCore_doors (k : Nat) (g : CoreSt → CoreSt) : (s.updCore k g).doors = s.doors := rfl
@[simp] theorem updCore_streams (k : Nat) (g : CoreSt → CoreSt) : (s.updCore k g).streams = s.streams := rfl
@[simp] theorem updCore_wins (k : Nat) (g : CoreSt → CoreSt) : (s.updCore k g).wins = s.wins := rfl
@[simp] theorem updCore_winAlive (k : Nat) (g : CoreSt → CoreSt) : (s.updCore k g).winAlive = s.winAlive := rfl
@[simp] theorem updCore_scans (k : Nat) (g : CoreSt → CoreSt) : (s.updCore k g).scans = s.scans := rfl
@[simp] theorem updCore_taps (k : Nat) (g : CoreSt → CoreSt) : (s.updCore k g).taps = s.taps := rfl
@[simp] theorem updCore_ports (k : Nat) (g : CoreSt → CoreSt) : (s.updCore k g).ports = s.ports := rfl
@[simp] theorem updCore_adj (k : Nat) (g : CoreSt → CoreSt) : (s.updCore k g).adj = s.adj := rfl
@[simp] theorem updCore_rpl (k : Nat) (g : CoreSt → CoreSt) : (s.updCore k g).rpl = s.rpl := rfl
@[simp] theorem updCore_steps (k : Nat) (g : CoreSt → CoreSt) : (s.updCore k g).steps = s.steps := rfl
@[simp] theorem updCore_verdicts (k : Nat) (g : CoreSt → CoreSt) : (s.updCore k g).verdicts = s.verdicts := rfl
@[simp] theorem updCore_replays (k : Nat) (g : CoreSt → CoreSt) : (s.updCore k g).replays = s.replays := rfl
@[simp] theorem updCore_setsOpened (k : Nat) (g : CoreSt → CoreSt) : (s.updCore k g).setsOpened = s.setsOpened := rfl
@[simp] theorem updCore_ctxs (k : Nat) (g : CoreSt → CoreSt) : (s.updCore k g).ctxs = s.ctxs := rfl
@[simp] theorem updCore_hist (k : Nat) (g : CoreSt → CoreSt) : (s.updCore k g).hist = s.hist := rfl
@[simp] theorem updCore_histStaged (k : Nat) (g : CoreSt → CoreSt) : (s.updCore k g).histStaged = s.histStaged := rfl
@[simp] theorem updCore_histLatch (k : Nat) (g : CoreSt → CoreSt) : (s.updCore k g).histLatch = s.histLatch := rfl
@[simp] theorem updCore_drainSince (k : Nat) (g : CoreSt → CoreSt) : (s.updCore k g).drainSince = s.drainSince := rfl
@[simp] theorem updCore_halls (k : Nat) (g : CoreSt → CoreSt) : (s.updCore k g).halls = s.halls := rfl
@[simp] theorem updCore_resets (k : Nat) (g : CoreSt → CoreSt) : (s.updCore k g).resets = s.resets := rfl
@[simp] theorem updCore_hangs (k : Nat) (g : CoreSt → CoreSt) : (s.updCore k g).hangs = s.hangs := rfl
@[simp] theorem updCore_cut (k : Nat) (g : CoreSt → CoreSt) : (s.updCore k g).cut = s.cut := rfl
@[simp] theorem updCore_cutNo (k : Nat) (g : CoreSt → CoreSt) : (s.updCore k g).cutNo = s.cutNo := rfl
@[simp] theorem updCore_cutDue (k : Nat) (g : CoreSt → CoreSt) : (s.updCore k g).cutDue = s.cutDue := rfl
@[simp] theorem updCore_cutUnits (k : Nat) (g : CoreSt → CoreSt) : (s.updCore k g).cutUnits = s.cutUnits := rfl
@[simp] theorem updCore_chans (k : Nat) (g : CoreSt → CoreSt) : (s.updCore k g).chans = s.chans := rfl
@[simp] theorem updCore_stop (k : Nat) (g : CoreSt → CoreSt) : (s.updCore k g).stop = s.stop := rfl
@[simp] theorem updCore_voids (k : Nat) (g : CoreSt → CoreSt) : (s.updCore k g).voids = s.voids := rfl
@[simp] theorem updCore_bins (k : Nat) (g : CoreSt → CoreSt) : (s.updCore k g).bins = s.bins := rfl
@[simp] theorem updCore_bank (k : Nat) (g : CoreSt → CoreSt) : (s.updCore k g).bank = s.bank := rfl
@[simp] theorem updCore_segs (k : Nat) (g : CoreSt → CoreSt) : (s.updCore k g).segs = s.segs := rfl
@[simp] theorem updCore_attic (k : Nat) (g : CoreSt → CoreSt) : (s.updCore k g).attic = s.attic := rfl
@[simp] theorem updCore_mem (k : Nat) (g : CoreSt → CoreSt) : (s.updCore k g).mem = s.mem := rfl
@[simp] theorem updCore_variant (k : Nat) (g : CoreSt → CoreSt) : (s.updCore k g).variant = s.variant := rfl
@[simp] theorem updCore_mbx (k : Nat) (g : CoreSt → CoreSt) : (s.updCore k g).mbx = s.mbx := rfl
@[simp] theorem updCore_twk (k : Nat) (g : CoreSt → CoreSt) : (s.updCore k g).twk = s.twk := rfl
@[simp] theorem updCore_mgt (k : Nat) (g : CoreSt → CoreSt) : (s.updCore k g).mgt = s.mgt := rfl
@[simp] theorem updCore_dbg (k : Nat) (g : CoreSt → CoreSt) : (s.updCore k g).dbg = s.dbg := rfl
@[simp] theorem updCore_cels (k : Nat) (g : CoreSt → CoreSt) : (s.updCore k g).cels = s.cels := rfl
@[simp] theorem updCore_reloads (k : Nat) (g : CoreSt → CoreSt) : (s.updCore k g).reloads = s.reloads := rfl
@[simp] theorem updCore_chanMap (k : Nat) (g : CoreSt → CoreSt) : (s.updCore k g).chanMap = s.chanMap := rfl
@[simp] theorem updCore_descCopy (k : Nat) (g : CoreSt → CoreSt) : (s.updCore k g).descCopy = s.descCopy := rfl
@[simp] theorem updCore_seeds (k : Nat) (g : CoreSt → CoreSt) : (s.updCore k g).seeds = s.seeds := rfl
@[simp] theorem updCore_idleKills (k : Nat) (g : CoreSt → CoreSt) : (s.updCore k g).idleKills = s.idleKills := rfl
@[simp] theorem updCore_prv (k : Nat) (g : CoreSt → CoreSt) : (s.updCore k g).prv = s.prv := rfl
@[simp] theorem updCore_pairs (k : Nat) (g : CoreSt → CoreSt) : (s.updCore k g).pairs = s.pairs := rfl
@[simp] theorem updCore_steepFirst (k : Nat) (g : CoreSt → CoreSt) : (s.updCore k g).steepFirst = s.steepFirst := rfl
@[simp] theorem updCore_stp (k : Nat) (g : CoreSt → CoreSt) : (s.updCore k g).stp = s.stp := rfl
@[simp] theorem updCore_engs (k : Nat) (g : CoreSt → CoreSt) : (s.updCore k g).engs = s.engs := rfl
@[simp] theorem updCore_plan (k : Nat) (g : CoreSt → CoreSt) : (s.updCore k g).plan = s.plan := rfl
@[simp] theorem updCore_grist (k : Nat) (g : CoreSt → CoreSt) : (s.updCore k g).grist = s.grist := rfl
@[simp] theorem updCore_ana (k : Nat) (g : CoreSt → CoreSt) : (s.updCore k g).ana = s.ana := rfl
@[simp] theorem updCore_dl (k : Nat) (g : CoreSt → CoreSt) : (s.updCore k g).dl = s.dl := rfl
@[simp] theorem updCore_fw (k : Nat) (g : CoreSt → CoreSt) : (s.updCore k g).fw = s.fw := rfl
@[simp] theorem updCore_sens (k : Nat) (g : CoreSt → CoreSt) : (s.updCore k g).sens = s.sens := rfl
@[simp] theorem updCore_thm (k : Nat) (g : CoreSt → CoreSt) : (s.updCore k g).thm = s.thm := rfl
@[simp] theorem updCore_emerg (k : Nat) (g : CoreSt → CoreSt) : (s.updCore k g).emerg = s.emerg := rfl
@[simp] theorem updCore_pad (k : Nat) (g : CoreSt → CoreSt) : (s.updCore k g).pad = s.pad := rfl
@[simp] theorem updCore_resetsDue (k : Nat) (g : CoreSt → CoreSt) : (s.updCore k g).resetsDue = s.resetsDue := rfl
@[simp] theorem updCore_latch (k : Nat) (g : CoreSt → CoreSt) : (s.updCore k g).latch = s.latch := rfl
@[simp] theorem updCore_tree (k : Nat) (g : CoreSt → CoreSt) : (s.updCore k g).tree = s.tree := rfl
@[simp] theorem updCore_refLost (k : Nat) (g : CoreSt → CoreSt) : (s.updCore k g).refLost = s.refLost := rfl
@[simp] theorem updCore_histFlash (k : Nat) (g : CoreSt → CoreSt) : (s.updCore k g).histFlash = s.histFlash := rfl
@[simp] theorem updCore_tickAt (k : Nat) (g : CoreSt → CoreSt) : (s.updCore k g).tickAt = s.tickAt := rfl
@[simp] theorem updCore_passSeen (k : Nat) (g : CoreSt → CoreSt) : (s.updCore k g).passSeen = s.passSeen := rfl

/-! The entries of `ports`. -/
@[simp] theorem port_updPort_same (k : Nat) (g : TstPorts → TstPorts) : (s.updPort k g).port k = g (s.port k) := Tab.get_upd_same _ _ _ _
theorem port_updPort_other {k j : Nat} (h : j ≠ k) (g : TstPorts → TstPorts) : (s.updPort k g).port j = s.port j := Tab.get_upd_other _ _ h _
theorem port_congr {t : State} (h : t.ports = s.ports) (k : Nat) : t.port k = s.port k := by unfold State.port; rw [h]
@[simp] theorem updPort_pending (k : Nat) (g : TstPorts → TstPorts) : (s.updPort k g).pending = s.pending := rfl
@[simp] theorem updPort_wall (k : Nat) (g : TstPorts → TstPorts) : (s.updPort k g).wall = s.wall := rfl
@[simp] theorem updPort_fresh (k : Nat) (g : TstPorts → TstPorts) : (s.updPort k g).fresh = s.fresh := rfl
@[simp] theorem updPort_regs (k : Nat) (g : TstPorts → TstPorts) : (s.updPort k g).regs = s.regs := rfl
@[simp] theorem updPort_ecnt (k : Nat) (g : TstPorts → TstPorts) : (s.updPort k g).ecnt = s.ecnt := rfl
@[simp] theorem updPort_rcnt (k : Nat) (g : TstPorts → TstPorts) : (s.updPort k g).rcnt = s.rcnt := rfl
@[simp] theorem updPort_fill (k : Nat) (g : TstPorts → TstPorts) : (s.updPort k g).fill = s.fill := rfl
@[simp] theorem updPort_shown (k : Nat) (g : TstPorts → TstPorts) : (s.updPort k g).shown = s.shown := rfl
@[simp] theorem updPort_units (k : Nat) (g : TstPorts → TstPorts) : (s.updPort k g).units = s.units := rfl
@[simp] theorem updPort_transit (k : Nat) (g : TstPorts → TstPorts) : (s.updPort k g).transit = s.transit := rfl
@[simp] theorem updPort_marks (k : Nat) (g : TstPorts → TstPorts) : (s.updPort k g).marks = s.marks := rfl
@[simp] theorem updPort_sent (k : Nat) (g : TstPorts → TstPorts) : (s.updPort k g).sent = s.sent := rfl
@[simp] theorem updPort_routers (k : Nat) (g : TstPorts → TstPorts) : (s.updPort k g).routers = s.routers := rfl
@[simp] theorem updPort_hops (k : Nat) (g : TstPorts → TstPorts) : (s.updPort k g).hops = s.hops := rfl
@[simp] theorem updPort_tablesDue (k : Nat) (g : TstPorts → TstPorts) : (s.updPort k g).tablesDue = s.tablesDue := rfl
@[simp] theorem updPort_cutoff (k : Nat) (g : TstPorts → TstPorts) : (s.updPort k g).cutoff = s.cutoff := rfl
@[simp] theorem updPort_delays (k : Nat) (g : TstPorts → TstPorts) : (s.updPort k g).delays = s.delays := rfl
@[simp] theorem updPort_clocks (k : Nat) (g : TstPorts → TstPorts) : (s.updPort k g).clocks = s.clocks := rfl
@[simp] theorem updPort_pair (k : Nat) (g : TstPorts → TstPorts) : (s.updPort k g).pair = s.pair := rfl
@[simp] theorem updPort_gates (k : Nat) (g : TstPorts → TstPorts) : (s.updPort k g).gates = s.gates := rfl
@[simp] theorem updPort_doors (k : Nat) (g : TstPorts → TstPorts) : (s.updPort k g).doors = s.doors := rfl
@[simp] theorem updPort_streams (k : Nat) (g : TstPorts → TstPorts) : (s.updPort k g).streams = s.streams := rfl
@[simp] theorem updPort_wins (k : Nat) (g : TstPorts → TstPorts) : (s.updPort k g).wins = s.wins := rfl
@[simp] theorem updPort_winAlive (k : Nat) (g : TstPorts → TstPorts) : (s.updPort k g).winAlive = s.winAlive := rfl
@[simp] theorem updPort_scans (k : Nat) (g : TstPorts → TstPorts) : (s.updPort k g).scans = s.scans := rfl
@[simp] theorem updPort_taps (k : Nat) (g : TstPorts → TstPorts) : (s.updPort k g).taps = s.taps := rfl
@[simp] theorem updPort_cores (k : Nat) (g : TstPorts → TstPorts) : (s.updPort k g).cores = s.cores := rfl
@[simp] theorem updPort_adj (k : Nat) (g : TstPorts → TstPorts) : (s.updPort k g).adj = s.adj := rfl
@[simp] theorem updPort_rpl (k : Nat) (g : TstPorts → TstPorts) : (s.updPort k g).rpl = s.rpl := rfl
@[simp] theorem updPort_steps (k : Nat) (g : TstPorts → TstPorts) : (s.updPort k g).steps = s.steps := rfl
@[simp] theorem updPort_verdicts (k : Nat) (g : TstPorts → TstPorts) : (s.updPort k g).verdicts = s.verdicts := rfl
@[simp] theorem updPort_replays (k : Nat) (g : TstPorts → TstPorts) : (s.updPort k g).replays = s.replays := rfl
@[simp] theorem updPort_setsOpened (k : Nat) (g : TstPorts → TstPorts) : (s.updPort k g).setsOpened = s.setsOpened := rfl
@[simp] theorem updPort_ctxs (k : Nat) (g : TstPorts → TstPorts) : (s.updPort k g).ctxs = s.ctxs := rfl
@[simp] theorem updPort_hist (k : Nat) (g : TstPorts → TstPorts) : (s.updPort k g).hist = s.hist := rfl
@[simp] theorem updPort_histStaged (k : Nat) (g : TstPorts → TstPorts) : (s.updPort k g).histStaged = s.histStaged := rfl
@[simp] theorem updPort_histLatch (k : Nat) (g : TstPorts → TstPorts) : (s.updPort k g).histLatch = s.histLatch := rfl
@[simp] theorem updPort_drainSince (k : Nat) (g : TstPorts → TstPorts) : (s.updPort k g).drainSince = s.drainSince := rfl
@[simp] theorem updPort_halls (k : Nat) (g : TstPorts → TstPorts) : (s.updPort k g).halls = s.halls := rfl
@[simp] theorem updPort_resets (k : Nat) (g : TstPorts → TstPorts) : (s.updPort k g).resets = s.resets := rfl
@[simp] theorem updPort_hangs (k : Nat) (g : TstPorts → TstPorts) : (s.updPort k g).hangs = s.hangs := rfl
@[simp] theorem updPort_cut (k : Nat) (g : TstPorts → TstPorts) : (s.updPort k g).cut = s.cut := rfl
@[simp] theorem updPort_cutNo (k : Nat) (g : TstPorts → TstPorts) : (s.updPort k g).cutNo = s.cutNo := rfl
@[simp] theorem updPort_cutDue (k : Nat) (g : TstPorts → TstPorts) : (s.updPort k g).cutDue = s.cutDue := rfl
@[simp] theorem updPort_cutUnits (k : Nat) (g : TstPorts → TstPorts) : (s.updPort k g).cutUnits = s.cutUnits := rfl
@[simp] theorem updPort_chans (k : Nat) (g : TstPorts → TstPorts) : (s.updPort k g).chans = s.chans := rfl
@[simp] theorem updPort_stop (k : Nat) (g : TstPorts → TstPorts) : (s.updPort k g).stop = s.stop := rfl
@[simp] theorem updPort_voids (k : Nat) (g : TstPorts → TstPorts) : (s.updPort k g).voids = s.voids := rfl
@[simp] theorem updPort_bins (k : Nat) (g : TstPorts → TstPorts) : (s.updPort k g).bins = s.bins := rfl
@[simp] theorem updPort_bank (k : Nat) (g : TstPorts → TstPorts) : (s.updPort k g).bank = s.bank := rfl
@[simp] theorem updPort_segs (k : Nat) (g : TstPorts → TstPorts) : (s.updPort k g).segs = s.segs := rfl
@[simp] theorem updPort_attic (k : Nat) (g : TstPorts → TstPorts) : (s.updPort k g).attic = s.attic := rfl
@[simp] theorem updPort_mem (k : Nat) (g : TstPorts → TstPorts) : (s.updPort k g).mem = s.mem := rfl
@[simp] theorem updPort_variant (k : Nat) (g : TstPorts → TstPorts) : (s.updPort k g).variant = s.variant := rfl
@[simp] theorem updPort_mbx (k : Nat) (g : TstPorts → TstPorts) : (s.updPort k g).mbx = s.mbx := rfl
@[simp] theorem updPort_twk (k : Nat) (g : TstPorts → TstPorts) : (s.updPort k g).twk = s.twk := rfl
@[simp] theorem updPort_mgt (k : Nat) (g : TstPorts → TstPorts) : (s.updPort k g).mgt = s.mgt := rfl
@[simp] theorem updPort_dbg (k : Nat) (g : TstPorts → TstPorts) : (s.updPort k g).dbg = s.dbg := rfl
@[simp] theorem updPort_cels (k : Nat) (g : TstPorts → TstPorts) : (s.updPort k g).cels = s.cels := rfl
@[simp] theorem updPort_reloads (k : Nat) (g : TstPorts → TstPorts) : (s.updPort k g).reloads = s.reloads := rfl
@[simp] theorem updPort_chanMap (k : Nat) (g : TstPorts → TstPorts) : (s.updPort k g).chanMap = s.chanMap := rfl
@[simp] theorem updPort_descCopy (k : Nat) (g : TstPorts → TstPorts) : (s.updPort k g).descCopy = s.descCopy := rfl
@[simp] theorem updPort_seeds (k : Nat) (g : TstPorts → TstPorts) : (s.updPort k g).seeds = s.seeds := rfl
@[simp] theorem updPort_idleKills (k : Nat) (g : TstPorts → TstPorts) : (s.updPort k g).idleKills = s.idleKills := rfl
@[simp] theorem updPort_prv (k : Nat) (g : TstPorts → TstPorts) : (s.updPort k g).prv = s.prv := rfl
@[simp] theorem updPort_pairs (k : Nat) (g : TstPorts → TstPorts) : (s.updPort k g).pairs = s.pairs := rfl
@[simp] theorem updPort_steepFirst (k : Nat) (g : TstPorts → TstPorts) : (s.updPort k g).steepFirst = s.steepFirst := rfl
@[simp] theorem updPort_stp (k : Nat) (g : TstPorts → TstPorts) : (s.updPort k g).stp = s.stp := rfl
@[simp] theorem updPort_engs (k : Nat) (g : TstPorts → TstPorts) : (s.updPort k g).engs = s.engs := rfl
@[simp] theorem updPort_plan (k : Nat) (g : TstPorts → TstPorts) : (s.updPort k g).plan = s.plan := rfl
@[simp] theorem updPort_grist (k : Nat) (g : TstPorts → TstPorts) : (s.updPort k g).grist = s.grist := rfl
@[simp] theorem updPort_ana (k : Nat) (g : TstPorts → TstPorts) : (s.updPort k g).ana = s.ana := rfl
@[simp] theorem updPort_dl (k : Nat) (g : TstPorts → TstPorts) : (s.updPort k g).dl = s.dl := rfl
@[simp] theorem updPort_fw (k : Nat) (g : TstPorts → TstPorts) : (s.updPort k g).fw = s.fw := rfl
@[simp] theorem updPort_sens (k : Nat) (g : TstPorts → TstPorts) : (s.updPort k g).sens = s.sens := rfl
@[simp] theorem updPort_thm (k : Nat) (g : TstPorts → TstPorts) : (s.updPort k g).thm = s.thm := rfl
@[simp] theorem updPort_emerg (k : Nat) (g : TstPorts → TstPorts) : (s.updPort k g).emerg = s.emerg := rfl
@[simp] theorem updPort_pad (k : Nat) (g : TstPorts → TstPorts) : (s.updPort k g).pad = s.pad := rfl
@[simp] theorem updPort_resetsDue (k : Nat) (g : TstPorts → TstPorts) : (s.updPort k g).resetsDue = s.resetsDue := rfl
@[simp] theorem updPort_latch (k : Nat) (g : TstPorts → TstPorts) : (s.updPort k g).latch = s.latch := rfl
@[simp] theorem updPort_tree (k : Nat) (g : TstPorts → TstPorts) : (s.updPort k g).tree = s.tree := rfl
@[simp] theorem updPort_refLost (k : Nat) (g : TstPorts → TstPorts) : (s.updPort k g).refLost = s.refLost := rfl
@[simp] theorem updPort_histFlash (k : Nat) (g : TstPorts → TstPorts) : (s.updPort k g).histFlash = s.histFlash := rfl
@[simp] theorem updPort_tickAt (k : Nat) (g : TstPorts → TstPorts) : (s.updPort k g).tickAt = s.tickAt := rfl
@[simp] theorem updPort_passSeen (k : Nat) (g : TstPorts → TstPorts) : (s.updPort k g).passSeen = s.passSeen := rfl

/-! The entries of `adj`. -/
@[simp] theorem adjOf_updAdjOf_same (k : Nat) (g : AdjSt → AdjSt) : (s.updAdjOf k g).adjOf k = g (s.adjOf k) := Tab.get_upd_same _ _ _ _
theorem adjOf_updAdjOf_other {k j : Nat} (h : j ≠ k) (g : AdjSt → AdjSt) : (s.updAdjOf k g).adjOf j = s.adjOf j := Tab.get_upd_other _ _ h _
theorem adjOf_congr {t : State} (h : t.adj = s.adj) (k : Nat) : t.adjOf k = s.adjOf k := by unfold State.adjOf; rw [h]
@[simp] theorem updAdjOf_pending (k : Nat) (g : AdjSt → AdjSt) : (s.updAdjOf k g).pending = s.pending := rfl
@[simp] theorem updAdjOf_wall (k : Nat) (g : AdjSt → AdjSt) : (s.updAdjOf k g).wall = s.wall := rfl
@[simp] theorem updAdjOf_fresh (k : Nat) (g : AdjSt → AdjSt) : (s.updAdjOf k g).fresh = s.fresh := rfl
@[simp] theorem updAdjOf_regs (k : Nat) (g : AdjSt → AdjSt) : (s.updAdjOf k g).regs = s.regs := rfl
@[simp] theorem updAdjOf_ecnt (k : Nat) (g : AdjSt → AdjSt) : (s.updAdjOf k g).ecnt = s.ecnt := rfl
@[simp] theorem updAdjOf_rcnt (k : Nat) (g : AdjSt → AdjSt) : (s.updAdjOf k g).rcnt = s.rcnt := rfl
@[simp] theorem updAdjOf_fill (k : Nat) (g : AdjSt → AdjSt) : (s.updAdjOf k g).fill = s.fill := rfl
@[simp] theorem updAdjOf_shown (k : Nat) (g : AdjSt → AdjSt) : (s.updAdjOf k g).shown = s.shown := rfl
@[simp] theorem updAdjOf_units (k : Nat) (g : AdjSt → AdjSt) : (s.updAdjOf k g).units = s.units := rfl
@[simp] theorem updAdjOf_transit (k : Nat) (g : AdjSt → AdjSt) : (s.updAdjOf k g).transit = s.transit := rfl
@[simp] theorem updAdjOf_marks (k : Nat) (g : AdjSt → AdjSt) : (s.updAdjOf k g).marks = s.marks := rfl
@[simp] theorem updAdjOf_sent (k : Nat) (g : AdjSt → AdjSt) : (s.updAdjOf k g).sent = s.sent := rfl
@[simp] theorem updAdjOf_routers (k : Nat) (g : AdjSt → AdjSt) : (s.updAdjOf k g).routers = s.routers := rfl
@[simp] theorem updAdjOf_hops (k : Nat) (g : AdjSt → AdjSt) : (s.updAdjOf k g).hops = s.hops := rfl
@[simp] theorem updAdjOf_tablesDue (k : Nat) (g : AdjSt → AdjSt) : (s.updAdjOf k g).tablesDue = s.tablesDue := rfl
@[simp] theorem updAdjOf_cutoff (k : Nat) (g : AdjSt → AdjSt) : (s.updAdjOf k g).cutoff = s.cutoff := rfl
@[simp] theorem updAdjOf_delays (k : Nat) (g : AdjSt → AdjSt) : (s.updAdjOf k g).delays = s.delays := rfl
@[simp] theorem updAdjOf_clocks (k : Nat) (g : AdjSt → AdjSt) : (s.updAdjOf k g).clocks = s.clocks := rfl
@[simp] theorem updAdjOf_pair (k : Nat) (g : AdjSt → AdjSt) : (s.updAdjOf k g).pair = s.pair := rfl
@[simp] theorem updAdjOf_gates (k : Nat) (g : AdjSt → AdjSt) : (s.updAdjOf k g).gates = s.gates := rfl
@[simp] theorem updAdjOf_doors (k : Nat) (g : AdjSt → AdjSt) : (s.updAdjOf k g).doors = s.doors := rfl
@[simp] theorem updAdjOf_streams (k : Nat) (g : AdjSt → AdjSt) : (s.updAdjOf k g).streams = s.streams := rfl
@[simp] theorem updAdjOf_wins (k : Nat) (g : AdjSt → AdjSt) : (s.updAdjOf k g).wins = s.wins := rfl
@[simp] theorem updAdjOf_winAlive (k : Nat) (g : AdjSt → AdjSt) : (s.updAdjOf k g).winAlive = s.winAlive := rfl
@[simp] theorem updAdjOf_scans (k : Nat) (g : AdjSt → AdjSt) : (s.updAdjOf k g).scans = s.scans := rfl
@[simp] theorem updAdjOf_taps (k : Nat) (g : AdjSt → AdjSt) : (s.updAdjOf k g).taps = s.taps := rfl
@[simp] theorem updAdjOf_cores (k : Nat) (g : AdjSt → AdjSt) : (s.updAdjOf k g).cores = s.cores := rfl
@[simp] theorem updAdjOf_ports (k : Nat) (g : AdjSt → AdjSt) : (s.updAdjOf k g).ports = s.ports := rfl
@[simp] theorem updAdjOf_rpl (k : Nat) (g : AdjSt → AdjSt) : (s.updAdjOf k g).rpl = s.rpl := rfl
@[simp] theorem updAdjOf_steps (k : Nat) (g : AdjSt → AdjSt) : (s.updAdjOf k g).steps = s.steps := rfl
@[simp] theorem updAdjOf_verdicts (k : Nat) (g : AdjSt → AdjSt) : (s.updAdjOf k g).verdicts = s.verdicts := rfl
@[simp] theorem updAdjOf_replays (k : Nat) (g : AdjSt → AdjSt) : (s.updAdjOf k g).replays = s.replays := rfl
@[simp] theorem updAdjOf_setsOpened (k : Nat) (g : AdjSt → AdjSt) : (s.updAdjOf k g).setsOpened = s.setsOpened := rfl
@[simp] theorem updAdjOf_ctxs (k : Nat) (g : AdjSt → AdjSt) : (s.updAdjOf k g).ctxs = s.ctxs := rfl
@[simp] theorem updAdjOf_hist (k : Nat) (g : AdjSt → AdjSt) : (s.updAdjOf k g).hist = s.hist := rfl
@[simp] theorem updAdjOf_histStaged (k : Nat) (g : AdjSt → AdjSt) : (s.updAdjOf k g).histStaged = s.histStaged := rfl
@[simp] theorem updAdjOf_histLatch (k : Nat) (g : AdjSt → AdjSt) : (s.updAdjOf k g).histLatch = s.histLatch := rfl
@[simp] theorem updAdjOf_drainSince (k : Nat) (g : AdjSt → AdjSt) : (s.updAdjOf k g).drainSince = s.drainSince := rfl
@[simp] theorem updAdjOf_halls (k : Nat) (g : AdjSt → AdjSt) : (s.updAdjOf k g).halls = s.halls := rfl
@[simp] theorem updAdjOf_resets (k : Nat) (g : AdjSt → AdjSt) : (s.updAdjOf k g).resets = s.resets := rfl
@[simp] theorem updAdjOf_hangs (k : Nat) (g : AdjSt → AdjSt) : (s.updAdjOf k g).hangs = s.hangs := rfl
@[simp] theorem updAdjOf_cut (k : Nat) (g : AdjSt → AdjSt) : (s.updAdjOf k g).cut = s.cut := rfl
@[simp] theorem updAdjOf_cutNo (k : Nat) (g : AdjSt → AdjSt) : (s.updAdjOf k g).cutNo = s.cutNo := rfl
@[simp] theorem updAdjOf_cutDue (k : Nat) (g : AdjSt → AdjSt) : (s.updAdjOf k g).cutDue = s.cutDue := rfl
@[simp] theorem updAdjOf_cutUnits (k : Nat) (g : AdjSt → AdjSt) : (s.updAdjOf k g).cutUnits = s.cutUnits := rfl
@[simp] theorem updAdjOf_chans (k : Nat) (g : AdjSt → AdjSt) : (s.updAdjOf k g).chans = s.chans := rfl
@[simp] theorem updAdjOf_stop (k : Nat) (g : AdjSt → AdjSt) : (s.updAdjOf k g).stop = s.stop := rfl
@[simp] theorem updAdjOf_voids (k : Nat) (g : AdjSt → AdjSt) : (s.updAdjOf k g).voids = s.voids := rfl
@[simp] theorem updAdjOf_bins (k : Nat) (g : AdjSt → AdjSt) : (s.updAdjOf k g).bins = s.bins := rfl
@[simp] theorem updAdjOf_bank (k : Nat) (g : AdjSt → AdjSt) : (s.updAdjOf k g).bank = s.bank := rfl
@[simp] theorem updAdjOf_segs (k : Nat) (g : AdjSt → AdjSt) : (s.updAdjOf k g).segs = s.segs := rfl
@[simp] theorem updAdjOf_attic (k : Nat) (g : AdjSt → AdjSt) : (s.updAdjOf k g).attic = s.attic := rfl
@[simp] theorem updAdjOf_mem (k : Nat) (g : AdjSt → AdjSt) : (s.updAdjOf k g).mem = s.mem := rfl
@[simp] theorem updAdjOf_variant (k : Nat) (g : AdjSt → AdjSt) : (s.updAdjOf k g).variant = s.variant := rfl
@[simp] theorem updAdjOf_mbx (k : Nat) (g : AdjSt → AdjSt) : (s.updAdjOf k g).mbx = s.mbx := rfl
@[simp] theorem updAdjOf_twk (k : Nat) (g : AdjSt → AdjSt) : (s.updAdjOf k g).twk = s.twk := rfl
@[simp] theorem updAdjOf_mgt (k : Nat) (g : AdjSt → AdjSt) : (s.updAdjOf k g).mgt = s.mgt := rfl
@[simp] theorem updAdjOf_dbg (k : Nat) (g : AdjSt → AdjSt) : (s.updAdjOf k g).dbg = s.dbg := rfl
@[simp] theorem updAdjOf_cels (k : Nat) (g : AdjSt → AdjSt) : (s.updAdjOf k g).cels = s.cels := rfl
@[simp] theorem updAdjOf_reloads (k : Nat) (g : AdjSt → AdjSt) : (s.updAdjOf k g).reloads = s.reloads := rfl
@[simp] theorem updAdjOf_chanMap (k : Nat) (g : AdjSt → AdjSt) : (s.updAdjOf k g).chanMap = s.chanMap := rfl
@[simp] theorem updAdjOf_descCopy (k : Nat) (g : AdjSt → AdjSt) : (s.updAdjOf k g).descCopy = s.descCopy := rfl
@[simp] theorem updAdjOf_seeds (k : Nat) (g : AdjSt → AdjSt) : (s.updAdjOf k g).seeds = s.seeds := rfl
@[simp] theorem updAdjOf_idleKills (k : Nat) (g : AdjSt → AdjSt) : (s.updAdjOf k g).idleKills = s.idleKills := rfl
@[simp] theorem updAdjOf_prv (k : Nat) (g : AdjSt → AdjSt) : (s.updAdjOf k g).prv = s.prv := rfl
@[simp] theorem updAdjOf_pairs (k : Nat) (g : AdjSt → AdjSt) : (s.updAdjOf k g).pairs = s.pairs := rfl
@[simp] theorem updAdjOf_steepFirst (k : Nat) (g : AdjSt → AdjSt) : (s.updAdjOf k g).steepFirst = s.steepFirst := rfl
@[simp] theorem updAdjOf_stp (k : Nat) (g : AdjSt → AdjSt) : (s.updAdjOf k g).stp = s.stp := rfl
@[simp] theorem updAdjOf_engs (k : Nat) (g : AdjSt → AdjSt) : (s.updAdjOf k g).engs = s.engs := rfl
@[simp] theorem updAdjOf_plan (k : Nat) (g : AdjSt → AdjSt) : (s.updAdjOf k g).plan = s.plan := rfl
@[simp] theorem updAdjOf_grist (k : Nat) (g : AdjSt → AdjSt) : (s.updAdjOf k g).grist = s.grist := rfl
@[simp] theorem updAdjOf_ana (k : Nat) (g : AdjSt → AdjSt) : (s.updAdjOf k g).ana = s.ana := rfl
@[simp] theorem updAdjOf_dl (k : Nat) (g : AdjSt → AdjSt) : (s.updAdjOf k g).dl = s.dl := rfl
@[simp] theorem updAdjOf_fw (k : Nat) (g : AdjSt → AdjSt) : (s.updAdjOf k g).fw = s.fw := rfl
@[simp] theorem updAdjOf_sens (k : Nat) (g : AdjSt → AdjSt) : (s.updAdjOf k g).sens = s.sens := rfl
@[simp] theorem updAdjOf_thm (k : Nat) (g : AdjSt → AdjSt) : (s.updAdjOf k g).thm = s.thm := rfl
@[simp] theorem updAdjOf_emerg (k : Nat) (g : AdjSt → AdjSt) : (s.updAdjOf k g).emerg = s.emerg := rfl
@[simp] theorem updAdjOf_pad (k : Nat) (g : AdjSt → AdjSt) : (s.updAdjOf k g).pad = s.pad := rfl
@[simp] theorem updAdjOf_resetsDue (k : Nat) (g : AdjSt → AdjSt) : (s.updAdjOf k g).resetsDue = s.resetsDue := rfl
@[simp] theorem updAdjOf_latch (k : Nat) (g : AdjSt → AdjSt) : (s.updAdjOf k g).latch = s.latch := rfl
@[simp] theorem updAdjOf_tree (k : Nat) (g : AdjSt → AdjSt) : (s.updAdjOf k g).tree = s.tree := rfl
@[simp] theorem updAdjOf_refLost (k : Nat) (g : AdjSt → AdjSt) : (s.updAdjOf k g).refLost = s.refLost := rfl
@[simp] theorem updAdjOf_histFlash (k : Nat) (g : AdjSt → AdjSt) : (s.updAdjOf k g).histFlash = s.histFlash := rfl
@[simp] theorem updAdjOf_tickAt (k : Nat) (g : AdjSt → AdjSt) : (s.updAdjOf k g).tickAt = s.tickAt := rfl
@[simp] theorem updAdjOf_passSeen (k : Nat) (g : AdjSt → AdjSt) : (s.updAdjOf k g).passSeen = s.passSeen := rfl

/-! The entries of `rpl`. -/
@[simp] theorem rplOf_updRplOf_same (k : Nat) (g : RplSt → RplSt) : (s.updRplOf k g).rplOf k = g (s.rplOf k) := Tab.get_upd_same _ _ _ _
theorem rplOf_updRplOf_other {k j : Nat} (h : j ≠ k) (g : RplSt → RplSt) : (s.updRplOf k g).rplOf j = s.rplOf j := Tab.get_upd_other _ _ h _
theorem rplOf_congr {t : State} (h : t.rpl = s.rpl) (k : Nat) : t.rplOf k = s.rplOf k := by unfold State.rplOf; rw [h]
@[simp] theorem updRplOf_pending (k : Nat) (g : RplSt → RplSt) : (s.updRplOf k g).pending = s.pending := rfl
@[simp] theorem updRplOf_wall (k : Nat) (g : RplSt → RplSt) : (s.updRplOf k g).wall = s.wall := rfl
@[simp] theorem updRplOf_fresh (k : Nat) (g : RplSt → RplSt) : (s.updRplOf k g).fresh = s.fresh := rfl
@[simp] theorem updRplOf_regs (k : Nat) (g : RplSt → RplSt) : (s.updRplOf k g).regs = s.regs := rfl
@[simp] theorem updRplOf_ecnt (k : Nat) (g : RplSt → RplSt) : (s.updRplOf k g).ecnt = s.ecnt := rfl
@[simp] theorem updRplOf_rcnt (k : Nat) (g : RplSt → RplSt) : (s.updRplOf k g).rcnt = s.rcnt := rfl
@[simp] theorem updRplOf_fill (k : Nat) (g : RplSt → RplSt) : (s.updRplOf k g).fill = s.fill := rfl
@[simp] theorem updRplOf_shown (k : Nat) (g : RplSt → RplSt) : (s.updRplOf k g).shown = s.shown := rfl
@[simp] theorem updRplOf_units (k : Nat) (g : RplSt → RplSt) : (s.updRplOf k g).units = s.units := rfl
@[simp] theorem updRplOf_transit (k : Nat) (g : RplSt → RplSt) : (s.updRplOf k g).transit = s.transit := rfl
@[simp] theorem updRplOf_marks (k : Nat) (g : RplSt → RplSt) : (s.updRplOf k g).marks = s.marks := rfl
@[simp] theorem updRplOf_sent (k : Nat) (g : RplSt → RplSt) : (s.updRplOf k g).sent = s.sent := rfl
@[simp] theorem updRplOf_routers (k : Nat) (g : RplSt → RplSt) : (s.updRplOf k g).routers = s.routers := rfl
@[simp] theorem updRplOf_hops (k : Nat) (g : RplSt → RplSt) : (s.updRplOf k g).hops = s.hops := rfl
@[simp] theorem updRplOf_tablesDue (k : Nat) (g : RplSt → RplSt) : (s.updRplOf k g).tablesDue = s.tablesDue := rfl
@[simp] theorem updRplOf_cutoff (k : Nat) (g : RplSt → RplSt) : (s.updRplOf k g).cutoff = s.cutoff := rfl
@[simp] theorem updRplOf_delays (k : Nat) (g : RplSt → RplSt) : (s.updRplOf k g).delays = s.delays := rfl
@[simp] theorem updRplOf_clocks (k : Nat) (g : RplSt → RplSt) : (s.updRplOf k g).clocks = s.clocks := rfl
@[simp] theorem updRplOf_pair (k : Nat) (g : RplSt → RplSt) : (s.updRplOf k g).pair = s.pair := rfl
@[simp] theorem updRplOf_gates (k : Nat) (g : RplSt → RplSt) : (s.updRplOf k g).gates = s.gates := rfl
@[simp] theorem updRplOf_doors (k : Nat) (g : RplSt → RplSt) : (s.updRplOf k g).doors = s.doors := rfl
@[simp] theorem updRplOf_streams (k : Nat) (g : RplSt → RplSt) : (s.updRplOf k g).streams = s.streams := rfl
@[simp] theorem updRplOf_wins (k : Nat) (g : RplSt → RplSt) : (s.updRplOf k g).wins = s.wins := rfl
@[simp] theorem updRplOf_winAlive (k : Nat) (g : RplSt → RplSt) : (s.updRplOf k g).winAlive = s.winAlive := rfl
@[simp] theorem updRplOf_scans (k : Nat) (g : RplSt → RplSt) : (s.updRplOf k g).scans = s.scans := rfl
@[simp] theorem updRplOf_taps (k : Nat) (g : RplSt → RplSt) : (s.updRplOf k g).taps = s.taps := rfl
@[simp] theorem updRplOf_cores (k : Nat) (g : RplSt → RplSt) : (s.updRplOf k g).cores = s.cores := rfl
@[simp] theorem updRplOf_ports (k : Nat) (g : RplSt → RplSt) : (s.updRplOf k g).ports = s.ports := rfl
@[simp] theorem updRplOf_adj (k : Nat) (g : RplSt → RplSt) : (s.updRplOf k g).adj = s.adj := rfl
@[simp] theorem updRplOf_steps (k : Nat) (g : RplSt → RplSt) : (s.updRplOf k g).steps = s.steps := rfl
@[simp] theorem updRplOf_verdicts (k : Nat) (g : RplSt → RplSt) : (s.updRplOf k g).verdicts = s.verdicts := rfl
@[simp] theorem updRplOf_replays (k : Nat) (g : RplSt → RplSt) : (s.updRplOf k g).replays = s.replays := rfl
@[simp] theorem updRplOf_setsOpened (k : Nat) (g : RplSt → RplSt) : (s.updRplOf k g).setsOpened = s.setsOpened := rfl
@[simp] theorem updRplOf_ctxs (k : Nat) (g : RplSt → RplSt) : (s.updRplOf k g).ctxs = s.ctxs := rfl
@[simp] theorem updRplOf_hist (k : Nat) (g : RplSt → RplSt) : (s.updRplOf k g).hist = s.hist := rfl
@[simp] theorem updRplOf_histStaged (k : Nat) (g : RplSt → RplSt) : (s.updRplOf k g).histStaged = s.histStaged := rfl
@[simp] theorem updRplOf_histLatch (k : Nat) (g : RplSt → RplSt) : (s.updRplOf k g).histLatch = s.histLatch := rfl
@[simp] theorem updRplOf_drainSince (k : Nat) (g : RplSt → RplSt) : (s.updRplOf k g).drainSince = s.drainSince := rfl
@[simp] theorem updRplOf_halls (k : Nat) (g : RplSt → RplSt) : (s.updRplOf k g).halls = s.halls := rfl
@[simp] theorem updRplOf_resets (k : Nat) (g : RplSt → RplSt) : (s.updRplOf k g).resets = s.resets := rfl
@[simp] theorem updRplOf_hangs (k : Nat) (g : RplSt → RplSt) : (s.updRplOf k g).hangs = s.hangs := rfl
@[simp] theorem updRplOf_cut (k : Nat) (g : RplSt → RplSt) : (s.updRplOf k g).cut = s.cut := rfl
@[simp] theorem updRplOf_cutNo (k : Nat) (g : RplSt → RplSt) : (s.updRplOf k g).cutNo = s.cutNo := rfl
@[simp] theorem updRplOf_cutDue (k : Nat) (g : RplSt → RplSt) : (s.updRplOf k g).cutDue = s.cutDue := rfl
@[simp] theorem updRplOf_cutUnits (k : Nat) (g : RplSt → RplSt) : (s.updRplOf k g).cutUnits = s.cutUnits := rfl
@[simp] theorem updRplOf_chans (k : Nat) (g : RplSt → RplSt) : (s.updRplOf k g).chans = s.chans := rfl
@[simp] theorem updRplOf_stop (k : Nat) (g : RplSt → RplSt) : (s.updRplOf k g).stop = s.stop := rfl
@[simp] theorem updRplOf_voids (k : Nat) (g : RplSt → RplSt) : (s.updRplOf k g).voids = s.voids := rfl
@[simp] theorem updRplOf_bins (k : Nat) (g : RplSt → RplSt) : (s.updRplOf k g).bins = s.bins := rfl
@[simp] theorem updRplOf_bank (k : Nat) (g : RplSt → RplSt) : (s.updRplOf k g).bank = s.bank := rfl
@[simp] theorem updRplOf_segs (k : Nat) (g : RplSt → RplSt) : (s.updRplOf k g).segs = s.segs := rfl
@[simp] theorem updRplOf_attic (k : Nat) (g : RplSt → RplSt) : (s.updRplOf k g).attic = s.attic := rfl
@[simp] theorem updRplOf_mem (k : Nat) (g : RplSt → RplSt) : (s.updRplOf k g).mem = s.mem := rfl
@[simp] theorem updRplOf_variant (k : Nat) (g : RplSt → RplSt) : (s.updRplOf k g).variant = s.variant := rfl
@[simp] theorem updRplOf_mbx (k : Nat) (g : RplSt → RplSt) : (s.updRplOf k g).mbx = s.mbx := rfl
@[simp] theorem updRplOf_twk (k : Nat) (g : RplSt → RplSt) : (s.updRplOf k g).twk = s.twk := rfl
@[simp] theorem updRplOf_mgt (k : Nat) (g : RplSt → RplSt) : (s.updRplOf k g).mgt = s.mgt := rfl
@[simp] theorem updRplOf_dbg (k : Nat) (g : RplSt → RplSt) : (s.updRplOf k g).dbg = s.dbg := rfl
@[simp] theorem updRplOf_cels (k : Nat) (g : RplSt → RplSt) : (s.updRplOf k g).cels = s.cels := rfl
@[simp] theorem updRplOf_reloads (k : Nat) (g : RplSt → RplSt) : (s.updRplOf k g).reloads = s.reloads := rfl
@[simp] theorem updRplOf_chanMap (k : Nat) (g : RplSt → RplSt) : (s.updRplOf k g).chanMap = s.chanMap := rfl
@[simp] theorem updRplOf_descCopy (k : Nat) (g : RplSt → RplSt) : (s.updRplOf k g).descCopy = s.descCopy := rfl
@[simp] theorem updRplOf_seeds (k : Nat) (g : RplSt → RplSt) : (s.updRplOf k g).seeds = s.seeds := rfl
@[simp] theorem updRplOf_idleKills (k : Nat) (g : RplSt → RplSt) : (s.updRplOf k g).idleKills = s.idleKills := rfl
@[simp] theorem updRplOf_prv (k : Nat) (g : RplSt → RplSt) : (s.updRplOf k g).prv = s.prv := rfl
@[simp] theorem updRplOf_pairs (k : Nat) (g : RplSt → RplSt) : (s.updRplOf k g).pairs = s.pairs := rfl
@[simp] theorem updRplOf_steepFirst (k : Nat) (g : RplSt → RplSt) : (s.updRplOf k g).steepFirst = s.steepFirst := rfl
@[simp] theorem updRplOf_stp (k : Nat) (g : RplSt → RplSt) : (s.updRplOf k g).stp = s.stp := rfl
@[simp] theorem updRplOf_engs (k : Nat) (g : RplSt → RplSt) : (s.updRplOf k g).engs = s.engs := rfl
@[simp] theorem updRplOf_plan (k : Nat) (g : RplSt → RplSt) : (s.updRplOf k g).plan = s.plan := rfl
@[simp] theorem updRplOf_grist (k : Nat) (g : RplSt → RplSt) : (s.updRplOf k g).grist = s.grist := rfl
@[simp] theorem updRplOf_ana (k : Nat) (g : RplSt → RplSt) : (s.updRplOf k g).ana = s.ana := rfl
@[simp] theorem updRplOf_dl (k : Nat) (g : RplSt → RplSt) : (s.updRplOf k g).dl = s.dl := rfl
@[simp] theorem updRplOf_fw (k : Nat) (g : RplSt → RplSt) : (s.updRplOf k g).fw = s.fw := rfl
@[simp] theorem updRplOf_sens (k : Nat) (g : RplSt → RplSt) : (s.updRplOf k g).sens = s.sens := rfl
@[simp] theorem updRplOf_thm (k : Nat) (g : RplSt → RplSt) : (s.updRplOf k g).thm = s.thm := rfl
@[simp] theorem updRplOf_emerg (k : Nat) (g : RplSt → RplSt) : (s.updRplOf k g).emerg = s.emerg := rfl
@[simp] theorem updRplOf_pad (k : Nat) (g : RplSt → RplSt) : (s.updRplOf k g).pad = s.pad := rfl
@[simp] theorem updRplOf_resetsDue (k : Nat) (g : RplSt → RplSt) : (s.updRplOf k g).resetsDue = s.resetsDue := rfl
@[simp] theorem updRplOf_latch (k : Nat) (g : RplSt → RplSt) : (s.updRplOf k g).latch = s.latch := rfl
@[simp] theorem updRplOf_tree (k : Nat) (g : RplSt → RplSt) : (s.updRplOf k g).tree = s.tree := rfl
@[simp] theorem updRplOf_refLost (k : Nat) (g : RplSt → RplSt) : (s.updRplOf k g).refLost = s.refLost := rfl
@[simp] theorem updRplOf_histFlash (k : Nat) (g : RplSt → RplSt) : (s.updRplOf k g).histFlash = s.histFlash := rfl
@[simp] theorem updRplOf_tickAt (k : Nat) (g : RplSt → RplSt) : (s.updRplOf k g).tickAt = s.tickAt := rfl
@[simp] theorem updRplOf_passSeen (k : Nat) (g : RplSt → RplSt) : (s.updRplOf k g).passSeen = s.passSeen := rfl

/-! The entries of `verdicts`. -/
@[simp] theorem verdictsOf_updVerdictsOf_same (k : Nat) (g : List Verdict → List Verdict) : (s.updVerdictsOf k g).verdictsOf k = g (s.verdictsOf k) := Tab.get_upd_same _ _ _ _
theorem verdictsOf_updVerdictsOf_other {k j : Nat} (h : j ≠ k) (g : List Verdict → List Verdict) : (s.updVerdictsOf k g).verdictsOf j = s.verdictsOf j := Tab.get_upd_other _ _ h _
theorem verdictsOf_congr {t : State} (h : t.verdicts = s.verdicts) (k : Nat) : t.verdictsOf k = s.verdictsOf k := by unfold State.verdictsOf; rw [h]
@[simp] theorem updVerdictsOf_pending (k : Nat) (g : List Verdict → List Verdict) : (s.updVerdictsOf k g).pending = s.pending := rfl
@[simp] theorem updVerdictsOf_wall (k : Nat) (g : List Verdict → List Verdict) : (s.updVerdictsOf k g).wall = s.wall := rfl
@[simp] theorem updVerdictsOf_fresh (k : Nat) (g : List Verdict → List Verdict) : (s.updVerdictsOf k g).fresh = s.fresh := rfl
@[simp] theorem updVerdictsOf_regs (k : Nat) (g : List Verdict → List Verdict) : (s.updVerdictsOf k g).regs = s.regs := rfl
@[simp] theorem updVerdictsOf_ecnt (k : Nat) (g : List Verdict → List Verdict) : (s.updVerdictsOf k g).ecnt = s.ecnt := rfl
@[simp] theorem updVerdictsOf_rcnt (k : Nat) (g : List Verdict → List Verdict) : (s.updVerdictsOf k g).rcnt = s.rcnt := rfl
@[simp] theorem updVerdictsOf_fill (k : Nat) (g : List Verdict → List Verdict) : (s.updVerdictsOf k g).fill = s.fill := rfl
@[simp] theorem updVerdictsOf_shown (k : Nat) (g : List Verdict → List Verdict) : (s.updVerdictsOf k g).shown = s.shown := rfl
@[simp] theorem updVerdictsOf_units (k : Nat) (g : List Verdict → List Verdict) : (s.updVerdictsOf k g).units = s.units := rfl
@[simp] theorem updVerdictsOf_transit (k : Nat) (g : List Verdict → List Verdict) : (s.updVerdictsOf k g).transit = s.transit := rfl
@[simp] theorem updVerdictsOf_marks (k : Nat) (g : List Verdict → List Verdict) : (s.updVerdictsOf k g).marks = s.marks := rfl
@[simp] theorem updVerdictsOf_sent (k : Nat) (g : List Verdict → List Verdict) : (s.updVerdictsOf k g).sent = s.sent := rfl
@[simp] theorem updVerdictsOf_routers (k : Nat) (g : List Verdict → List Verdict) : (s.updVerdictsOf k g).routers = s.routers := rfl
@[simp] theorem updVerdictsOf_hops (k : Nat) (g : List Verdict → List Verdict) : (s.updVerdictsOf k g).hops = s.hops := rfl
@[simp] theorem updVerdictsOf_tablesDue (k : Nat) (g : List Verdict → List Verdict) : (s.updVerdictsOf k g).tablesDue = s.tablesDue := rfl
@[simp] theorem updVerdictsOf_cutoff (k : Nat) (g : List Verdict → List Verdict) : (s.updVerdictsOf k g).cutoff = s.cutoff := rfl
@[simp] theorem updVerdictsOf_delays (k : Nat) (g : List Verdict → List Verdict) : (s.updVerdictsOf k g).delays = s.delays := rfl
@[simp] theorem updVerdictsOf_clocks (k : Nat) (g : List Verdict → List Verdict) : (s.updVerdictsOf k g).clocks = s.clocks := rfl
@[simp] theorem updVerdictsOf_pair (k : Nat) (g : List Verdict → List Verdict) : (s.updVerdictsOf k g).pair = s.pair := rfl
@[simp] theorem updVerdictsOf_gates (k : Nat) (g : List Verdict → List Verdict) : (s.updVerdictsOf k g).gates = s.gates := rfl
@[simp] theorem updVerdictsOf_doors (k : Nat) (g : List Verdict → List Verdict) : (s.updVerdictsOf k g).doors = s.doors := rfl
@[simp] theorem updVerdictsOf_streams (k : Nat) (g : List Verdict → List Verdict) : (s.updVerdictsOf k g).streams = s.streams := rfl
@[simp] theorem updVerdictsOf_wins (k : Nat) (g : List Verdict → List Verdict) : (s.updVerdictsOf k g).wins = s.wins := rfl
@[simp] theorem updVerdictsOf_winAlive (k : Nat) (g : List Verdict → List Verdict) : (s.updVerdictsOf k g).winAlive = s.winAlive := rfl
@[simp] theorem updVerdictsOf_scans (k : Nat) (g : List Verdict → List Verdict) : (s.updVerdictsOf k g).scans = s.scans := rfl
@[simp] theorem updVerdictsOf_taps (k : Nat) (g : List Verdict → List Verdict) : (s.updVerdictsOf k g).taps = s.taps := rfl
@[simp] theorem updVerdictsOf_cores (k : Nat) (g : List Verdict → List Verdict) : (s.updVerdictsOf k g).cores = s.cores := rfl
@[simp] theorem updVerdictsOf_ports (k : Nat) (g : List Verdict → List Verdict) : (s.updVerdictsOf k g).ports = s.ports := rfl
@[simp] theorem updVerdictsOf_adj (k : Nat) (g : List Verdict → List Verdict) : (s.updVerdictsOf k g).adj = s.adj := rfl
@[simp] theorem updVerdictsOf_rpl (k : Nat) (g : List Verdict → List Verdict) : (s.updVerdictsOf k g).rpl = s.rpl := rfl
@[simp] theorem updVerdictsOf_steps (k : Nat) (g : List Verdict → List Verdict) : (s.updVerdictsOf k g).steps = s.steps := rfl
@[simp] theorem updVerdictsOf_replays (k : Nat) (g : List Verdict → List Verdict) : (s.updVerdictsOf k g).replays = s.replays := rfl
@[simp] theorem updVerdictsOf_setsOpened (k : Nat) (g : List Verdict → List Verdict) : (s.updVerdictsOf k g).setsOpened = s.setsOpened := rfl
@[simp] theorem updVerdictsOf_ctxs (k : Nat) (g : List Verdict → List Verdict) : (s.updVerdictsOf k g).ctxs = s.ctxs := rfl
@[simp] theorem updVerdictsOf_hist (k : Nat) (g : List Verdict → List Verdict) : (s.updVerdictsOf k g).hist = s.hist := rfl
@[simp] theorem updVerdictsOf_histStaged (k : Nat) (g : List Verdict → List Verdict) : (s.updVerdictsOf k g).histStaged = s.histStaged := rfl
@[simp] theorem updVerdictsOf_histLatch (k : Nat) (g : List Verdict → List Verdict) : (s.updVerdictsOf k g).histLatch = s.histLatch := rfl
@[simp] theorem updVerdictsOf_drainSince (k : Nat) (g : List Verdict → List Verdict) : (s.updVerdictsOf k g).drainSince = s.drainSince := rfl
@[simp] theorem updVerdictsOf_halls (k : Nat) (g : List Verdict → List Verdict) : (s.updVerdictsOf k g).halls = s.halls := rfl
@[simp] theorem updVerdictsOf_resets (k : Nat) (g : List Verdict → List Verdict) : (s.updVerdictsOf k g).resets = s.resets := rfl
@[simp] theorem updVerdictsOf_hangs (k : Nat) (g : List Verdict → List Verdict) : (s.updVerdictsOf k g).hangs = s.hangs := rfl
@[simp] theorem updVerdictsOf_cut (k : Nat) (g : List Verdict → List Verdict) : (s.updVerdictsOf k g).cut = s.cut := rfl
@[simp] theorem updVerdictsOf_cutNo (k : Nat) (g : List Verdict → List Verdict) : (s.updVerdictsOf k g).cutNo = s.cutNo := rfl
@[simp] theorem updVerdictsOf_cutDue (k : Nat) (g : List Verdict → List Verdict) : (s.updVerdictsOf k g).cutDue = s.cutDue := rfl
@[simp] theorem updVerdictsOf_cutUnits (k : Nat) (g : List Verdict → List Verdict) : (s.updVerdictsOf k g).cutUnits = s.cutUnits := rfl
@[simp] theorem updVerdictsOf_chans (k : Nat) (g : List Verdict → List Verdict) : (s.updVerdictsOf k g).chans = s.chans := rfl
@[simp] theorem updVerdictsOf_stop (k : Nat) (g : List Verdict → List Verdict) : (s.updVerdictsOf k g).stop = s.stop := rfl
@[simp] theorem updVerdictsOf_voids (k : Nat) (g : List Verdict → List Verdict) : (s.updVerdictsOf k g).voids = s.voids := rfl
@[simp] theorem updVerdictsOf_bins (k : Nat) (g : List Verdict → List Verdict) : (s.updVerdictsOf k g).bins = s.bins := rfl
@[simp] theorem updVerdictsOf_bank (k : Nat) (g : List Verdict → List Verdict) : (s.updVerdictsOf k g).bank = s.bank := rfl
@[simp] theorem updVerdictsOf_segs (k : Nat) (g : List Verdict → List Verdict) : (s.updVerdictsOf k g).segs = s.segs := rfl
@[simp] theorem updVerdictsOf_attic (k : Nat) (g : List Verdict → List Verdict) : (s.updVerdictsOf k g).attic = s.attic := rfl
@[simp] theorem updVerdictsOf_mem (k : Nat) (g : List Verdict → List Verdict) : (s.updVerdictsOf k g).mem = s.mem := rfl
@[simp] theorem updVerdictsOf_variant (k : Nat) (g : List Verdict → List Verdict) : (s.updVerdictsOf k g).variant = s.variant := rfl
@[simp] theorem updVerdictsOf_mbx (k : Nat) (g : List Verdict → List Verdict) : (s.updVerdictsOf k g).mbx = s.mbx := rfl
@[simp] theorem updVerdictsOf_twk (k : Nat) (g : List Verdict → List Verdict) : (s.updVerdictsOf k g).twk = s.twk := rfl
@[simp] theorem updVerdictsOf_mgt (k : Nat) (g : List Verdict → List Verdict) : (s.updVerdictsOf k g).mgt = s.mgt := rfl
@[simp] theorem updVerdictsOf_dbg (k : Nat) (g : List Verdict → List Verdict) : (s.updVerdictsOf k g).dbg = s.dbg := rfl
@[simp] theorem updVerdictsOf_cels (k : Nat) (g : List Verdict → List Verdict) : (s.updVerdictsOf k g).cels = s.cels := rfl
@[simp] theorem updVerdictsOf_reloads (k : Nat) (g : List Verdict → List Verdict) : (s.updVerdictsOf k g).reloads = s.reloads := rfl
@[simp] theorem updVerdictsOf_chanMap (k : Nat) (g : List Verdict → List Verdict) : (s.updVerdictsOf k g).chanMap = s.chanMap := rfl
@[simp] theorem updVerdictsOf_descCopy (k : Nat) (g : List Verdict → List Verdict) : (s.updVerdictsOf k g).descCopy = s.descCopy := rfl
@[simp] theorem updVerdictsOf_seeds (k : Nat) (g : List Verdict → List Verdict) : (s.updVerdictsOf k g).seeds = s.seeds := rfl
@[simp] theorem updVerdictsOf_idleKills (k : Nat) (g : List Verdict → List Verdict) : (s.updVerdictsOf k g).idleKills = s.idleKills := rfl
@[simp] theorem updVerdictsOf_prv (k : Nat) (g : List Verdict → List Verdict) : (s.updVerdictsOf k g).prv = s.prv := rfl
@[simp] theorem updVerdictsOf_pairs (k : Nat) (g : List Verdict → List Verdict) : (s.updVerdictsOf k g).pairs = s.pairs := rfl
@[simp] theorem updVerdictsOf_steepFirst (k : Nat) (g : List Verdict → List Verdict) : (s.updVerdictsOf k g).steepFirst = s.steepFirst := rfl
@[simp] theorem updVerdictsOf_stp (k : Nat) (g : List Verdict → List Verdict) : (s.updVerdictsOf k g).stp = s.stp := rfl
@[simp] theorem updVerdictsOf_engs (k : Nat) (g : List Verdict → List Verdict) : (s.updVerdictsOf k g).engs = s.engs := rfl
@[simp] theorem updVerdictsOf_plan (k : Nat) (g : List Verdict → List Verdict) : (s.updVerdictsOf k g).plan = s.plan := rfl
@[simp] theorem updVerdictsOf_grist (k : Nat) (g : List Verdict → List Verdict) : (s.updVerdictsOf k g).grist = s.grist := rfl
@[simp] theorem updVerdictsOf_ana (k : Nat) (g : List Verdict → List Verdict) : (s.updVerdictsOf k g).ana = s.ana := rfl
@[simp] theorem updVerdictsOf_dl (k : Nat) (g : List Verdict → List Verdict) : (s.updVerdictsOf k g).dl = s.dl := rfl
@[simp] theorem updVerdictsOf_fw (k : Nat) (g : List Verdict → List Verdict) : (s.updVerdictsOf k g).fw = s.fw := rfl
@[simp] theorem updVerdictsOf_sens (k : Nat) (g : List Verdict → List Verdict) : (s.updVerdictsOf k g).sens = s.sens := rfl
@[simp] theorem updVerdictsOf_thm (k : Nat) (g : List Verdict → List Verdict) : (s.updVerdictsOf k g).thm = s.thm := rfl
@[simp] theorem updVerdictsOf_emerg (k : Nat) (g : List Verdict → List Verdict) : (s.updVerdictsOf k g).emerg = s.emerg := rfl
@[simp] theorem updVerdictsOf_pad (k : Nat) (g : List Verdict → List Verdict) : (s.updVerdictsOf k g).pad = s.pad := rfl
@[simp] theorem updVerdictsOf_resetsDue (k : Nat) (g : List Verdict → List Verdict) : (s.updVerdictsOf k g).resetsDue = s.resetsDue := rfl
@[simp] theorem updVerdictsOf_latch (k : Nat) (g : List Verdict → List Verdict) : (s.updVerdictsOf k g).latch = s.latch := rfl
@[simp] theorem updVerdictsOf_tree (k : Nat) (g : List Verdict → List Verdict) : (s.updVerdictsOf k g).tree = s.tree := rfl
@[simp] theorem updVerdictsOf_refLost (k : Nat) (g : List Verdict → List Verdict) : (s.updVerdictsOf k g).refLost = s.refLost := rfl
@[simp] theorem updVerdictsOf_histFlash (k : Nat) (g : List Verdict → List Verdict) : (s.updVerdictsOf k g).histFlash = s.histFlash := rfl
@[simp] theorem updVerdictsOf_tickAt (k : Nat) (g : List Verdict → List Verdict) : (s.updVerdictsOf k g).tickAt = s.tickAt := rfl
@[simp] theorem updVerdictsOf_passSeen (k : Nat) (g : List Verdict → List Verdict) : (s.updVerdictsOf k g).passSeen = s.passSeen := rfl

/-! The entries of `replays`. -/
@[simp] theorem replayOf_updReplayOf_same (k : Nat) (g : List ReplaySet → List ReplaySet) : (s.updReplayOf k g).replayOf k = g (s.replayOf k) := Tab.get_upd_same _ _ _ _
theorem replayOf_updReplayOf_other {k j : Nat} (h : j ≠ k) (g : List ReplaySet → List ReplaySet) : (s.updReplayOf k g).replayOf j = s.replayOf j := Tab.get_upd_other _ _ h _
theorem replayOf_congr {t : State} (h : t.replays = s.replays) (k : Nat) : t.replayOf k = s.replayOf k := by unfold State.replayOf; rw [h]
@[simp] theorem updReplayOf_pending (k : Nat) (g : List ReplaySet → List ReplaySet) : (s.updReplayOf k g).pending = s.pending := rfl
@[simp] theorem updReplayOf_wall (k : Nat) (g : List ReplaySet → List ReplaySet) : (s.updReplayOf k g).wall = s.wall := rfl
@[simp] theorem updReplayOf_fresh (k : Nat) (g : List ReplaySet → List ReplaySet) : (s.updReplayOf k g).fresh = s.fresh := rfl
@[simp] theorem updReplayOf_regs (k : Nat) (g : List ReplaySet → List ReplaySet) : (s.updReplayOf k g).regs = s.regs := rfl
@[simp] theorem updReplayOf_ecnt (k : Nat) (g : List ReplaySet → List ReplaySet) : (s.updReplayOf k g).ecnt = s.ecnt := rfl
@[simp] theorem updReplayOf_rcnt (k : Nat) (g : List ReplaySet → List ReplaySet) : (s.updReplayOf k g).rcnt = s.rcnt := rfl
@[simp] theorem updReplayOf_fill (k : Nat) (g : List ReplaySet → List ReplaySet) : (s.updReplayOf k g).fill = s.fill := rfl
@[simp] theorem updReplayOf_shown (k : Nat) (g : List ReplaySet → List ReplaySet) : (s.updReplayOf k g).shown = s.shown := rfl
@[simp] theorem updReplayOf_units (k : Nat) (g : List ReplaySet → List ReplaySet) : (s.updReplayOf k g).units = s.units := rfl
@[simp] theorem updReplayOf_transit (k : Nat) (g : List ReplaySet → List ReplaySet) : (s.updReplayOf k g).transit = s.transit := rfl
@[simp] theorem updReplayOf_marks (k : Nat) (g : List ReplaySet → List ReplaySet) : (s.updReplayOf k g).marks = s.marks := rfl
@[simp] theorem updReplayOf_sent (k : Nat) (g : List ReplaySet → List ReplaySet) : (s.updReplayOf k g).sent = s.sent := rfl
@[simp] theorem updReplayOf_routers (k : Nat) (g : List ReplaySet → List ReplaySet) : (s.updReplayOf k g).routers = s.routers := rfl
@[simp] theorem updReplayOf_hops (k : Nat) (g : List ReplaySet → List ReplaySet) : (s.updReplayOf k g).hops = s.hops := rfl
@[simp] theorem updReplayOf_tablesDue (k : Nat) (g : List ReplaySet → List ReplaySet) : (s.updReplayOf k g).tablesDue = s.tablesDue := rfl
@[simp] theorem updReplayOf_cutoff (k : Nat) (g : List ReplaySet → List ReplaySet) : (s.updReplayOf k g).cutoff = s.cutoff := rfl
@[simp] theorem updReplayOf_delays (k : Nat) (g : List ReplaySet → List ReplaySet) : (s.updReplayOf k g).delays = s.delays := rfl
@[simp] theorem updReplayOf_clocks (k : Nat) (g : List ReplaySet → List ReplaySet) : (s.updReplayOf k g).clocks = s.clocks := rfl
@[simp] theorem updReplayOf_pair (k : Nat) (g : List ReplaySet → List ReplaySet) : (s.updReplayOf k g).pair = s.pair := rfl
@[simp] theorem updReplayOf_gates (k : Nat) (g : List ReplaySet → List ReplaySet) : (s.updReplayOf k g).gates = s.gates := rfl
@[simp] theorem updReplayOf_doors (k : Nat) (g : List ReplaySet → List ReplaySet) : (s.updReplayOf k g).doors = s.doors := rfl
@[simp] theorem updReplayOf_streams (k : Nat) (g : List ReplaySet → List ReplaySet) : (s.updReplayOf k g).streams = s.streams := rfl
@[simp] theorem updReplayOf_wins (k : Nat) (g : List ReplaySet → List ReplaySet) : (s.updReplayOf k g).wins = s.wins := rfl
@[simp] theorem updReplayOf_winAlive (k : Nat) (g : List ReplaySet → List ReplaySet) : (s.updReplayOf k g).winAlive = s.winAlive := rfl
@[simp] theorem updReplayOf_scans (k : Nat) (g : List ReplaySet → List ReplaySet) : (s.updReplayOf k g).scans = s.scans := rfl
@[simp] theorem updReplayOf_taps (k : Nat) (g : List ReplaySet → List ReplaySet) : (s.updReplayOf k g).taps = s.taps := rfl
@[simp] theorem updReplayOf_cores (k : Nat) (g : List ReplaySet → List ReplaySet) : (s.updReplayOf k g).cores = s.cores := rfl
@[simp] theorem updReplayOf_ports (k : Nat) (g : List ReplaySet → List ReplaySet) : (s.updReplayOf k g).ports = s.ports := rfl
@[simp] theorem updReplayOf_adj (k : Nat) (g : List ReplaySet → List ReplaySet) : (s.updReplayOf k g).adj = s.adj := rfl
@[simp] theorem updReplayOf_rpl (k : Nat) (g : List ReplaySet → List ReplaySet) : (s.updReplayOf k g).rpl = s.rpl := rfl
@[simp] theorem updReplayOf_steps (k : Nat) (g : List ReplaySet → List ReplaySet) : (s.updReplayOf k g).steps = s.steps := rfl
@[simp] theorem updReplayOf_verdicts (k : Nat) (g : List ReplaySet → List ReplaySet) : (s.updReplayOf k g).verdicts = s.verdicts := rfl
@[simp] theorem updReplayOf_setsOpened (k : Nat) (g : List ReplaySet → List ReplaySet) : (s.updReplayOf k g).setsOpened = s.setsOpened := rfl
@[simp] theorem updReplayOf_ctxs (k : Nat) (g : List ReplaySet → List ReplaySet) : (s.updReplayOf k g).ctxs = s.ctxs := rfl
@[simp] theorem updReplayOf_hist (k : Nat) (g : List ReplaySet → List ReplaySet) : (s.updReplayOf k g).hist = s.hist := rfl
@[simp] theorem updReplayOf_histStaged (k : Nat) (g : List ReplaySet → List ReplaySet) : (s.updReplayOf k g).histStaged = s.histStaged := rfl
@[simp] theorem updReplayOf_histLatch (k : Nat) (g : List ReplaySet → List ReplaySet) : (s.updReplayOf k g).histLatch = s.histLatch := rfl
@[simp] theorem updReplayOf_drainSince (k : Nat) (g : List ReplaySet → List ReplaySet) : (s.updReplayOf k g).drainSince = s.drainSince := rfl
@[simp] theorem updReplayOf_halls (k : Nat) (g : List ReplaySet → List ReplaySet) : (s.updReplayOf k g).halls = s.halls := rfl
@[simp] theorem updReplayOf_resets (k : Nat) (g : List ReplaySet → List ReplaySet) : (s.updReplayOf k g).resets = s.resets := rfl
@[simp] theorem updReplayOf_hangs (k : Nat) (g : List ReplaySet → List ReplaySet) : (s.updReplayOf k g).hangs = s.hangs := rfl
@[simp] theorem updReplayOf_cut (k : Nat) (g : List ReplaySet → List ReplaySet) : (s.updReplayOf k g).cut = s.cut := rfl
@[simp] theorem updReplayOf_cutNo (k : Nat) (g : List ReplaySet → List ReplaySet) : (s.updReplayOf k g).cutNo = s.cutNo := rfl
@[simp] theorem updReplayOf_cutDue (k : Nat) (g : List ReplaySet → List ReplaySet) : (s.updReplayOf k g).cutDue = s.cutDue := rfl
@[simp] theorem updReplayOf_cutUnits (k : Nat) (g : List ReplaySet → List ReplaySet) : (s.updReplayOf k g).cutUnits = s.cutUnits := rfl
@[simp] theorem updReplayOf_chans (k : Nat) (g : List ReplaySet → List ReplaySet) : (s.updReplayOf k g).chans = s.chans := rfl
@[simp] theorem updReplayOf_stop (k : Nat) (g : List ReplaySet → List ReplaySet) : (s.updReplayOf k g).stop = s.stop := rfl
@[simp] theorem updReplayOf_voids (k : Nat) (g : List ReplaySet → List ReplaySet) : (s.updReplayOf k g).voids = s.voids := rfl
@[simp] theorem updReplayOf_bins (k : Nat) (g : List ReplaySet → List ReplaySet) : (s.updReplayOf k g).bins = s.bins := rfl
@[simp] theorem updReplayOf_bank (k : Nat) (g : List ReplaySet → List ReplaySet) : (s.updReplayOf k g).bank = s.bank := rfl
@[simp] theorem updReplayOf_segs (k : Nat) (g : List ReplaySet → List ReplaySet) : (s.updReplayOf k g).segs = s.segs := rfl
@[simp] theorem updReplayOf_attic (k : Nat) (g : List ReplaySet → List ReplaySet) : (s.updReplayOf k g).attic = s.attic := rfl
@[simp] theorem updReplayOf_mem (k : Nat) (g : List ReplaySet → List ReplaySet) : (s.updReplayOf k g).mem = s.mem := rfl
@[simp] theorem updReplayOf_variant (k : Nat) (g : List ReplaySet → List ReplaySet) : (s.updReplayOf k g).variant = s.variant := rfl
@[simp] theorem updReplayOf_mbx (k : Nat) (g : List ReplaySet → List ReplaySet) : (s.updReplayOf k g).mbx = s.mbx := rfl
@[simp] theorem updReplayOf_twk (k : Nat) (g : List ReplaySet → List ReplaySet) : (s.updReplayOf k g).twk = s.twk := rfl
@[simp] theorem updReplayOf_mgt (k : Nat) (g : List ReplaySet → List ReplaySet) : (s.updReplayOf k g).mgt = s.mgt := rfl
@[simp] theorem updReplayOf_dbg (k : Nat) (g : List ReplaySet → List ReplaySet) : (s.updReplayOf k g).dbg = s.dbg := rfl
@[simp] theorem updReplayOf_cels (k : Nat) (g : List ReplaySet → List ReplaySet) : (s.updReplayOf k g).cels = s.cels := rfl
@[simp] theorem updReplayOf_reloads (k : Nat) (g : List ReplaySet → List ReplaySet) : (s.updReplayOf k g).reloads = s.reloads := rfl
@[simp] theorem updReplayOf_chanMap (k : Nat) (g : List ReplaySet → List ReplaySet) : (s.updReplayOf k g).chanMap = s.chanMap := rfl
@[simp] theorem updReplayOf_descCopy (k : Nat) (g : List ReplaySet → List ReplaySet) : (s.updReplayOf k g).descCopy = s.descCopy := rfl
@[simp] theorem updReplayOf_seeds (k : Nat) (g : List ReplaySet → List ReplaySet) : (s.updReplayOf k g).seeds = s.seeds := rfl
@[simp] theorem updReplayOf_idleKills (k : Nat) (g : List ReplaySet → List ReplaySet) : (s.updReplayOf k g).idleKills = s.idleKills := rfl
@[simp] theorem updReplayOf_prv (k : Nat) (g : List ReplaySet → List ReplaySet) : (s.updReplayOf k g).prv = s.prv := rfl
@[simp] theorem updReplayOf_pairs (k : Nat) (g : List ReplaySet → List ReplaySet) : (s.updReplayOf k g).pairs = s.pairs := rfl
@[simp] theorem updReplayOf_steepFirst (k : Nat) (g : List ReplaySet → List ReplaySet) : (s.updReplayOf k g).steepFirst = s.steepFirst := rfl
@[simp] theorem updReplayOf_stp (k : Nat) (g : List ReplaySet → List ReplaySet) : (s.updReplayOf k g).stp = s.stp := rfl
@[simp] theorem updReplayOf_engs (k : Nat) (g : List ReplaySet → List ReplaySet) : (s.updReplayOf k g).engs = s.engs := rfl
@[simp] theorem updReplayOf_plan (k : Nat) (g : List ReplaySet → List ReplaySet) : (s.updReplayOf k g).plan = s.plan := rfl
@[simp] theorem updReplayOf_grist (k : Nat) (g : List ReplaySet → List ReplaySet) : (s.updReplayOf k g).grist = s.grist := rfl
@[simp] theorem updReplayOf_ana (k : Nat) (g : List ReplaySet → List ReplaySet) : (s.updReplayOf k g).ana = s.ana := rfl
@[simp] theorem updReplayOf_dl (k : Nat) (g : List ReplaySet → List ReplaySet) : (s.updReplayOf k g).dl = s.dl := rfl
@[simp] theorem updReplayOf_fw (k : Nat) (g : List ReplaySet → List ReplaySet) : (s.updReplayOf k g).fw = s.fw := rfl
@[simp] theorem updReplayOf_sens (k : Nat) (g : List ReplaySet → List ReplaySet) : (s.updReplayOf k g).sens = s.sens := rfl
@[simp] theorem updReplayOf_thm (k : Nat) (g : List ReplaySet → List ReplaySet) : (s.updReplayOf k g).thm = s.thm := rfl
@[simp] theorem updReplayOf_emerg (k : Nat) (g : List ReplaySet → List ReplaySet) : (s.updReplayOf k g).emerg = s.emerg := rfl
@[simp] theorem updReplayOf_pad (k : Nat) (g : List ReplaySet → List ReplaySet) : (s.updReplayOf k g).pad = s.pad := rfl
@[simp] theorem updReplayOf_resetsDue (k : Nat) (g : List ReplaySet → List ReplaySet) : (s.updReplayOf k g).resetsDue = s.resetsDue := rfl
@[simp] theorem updReplayOf_latch (k : Nat) (g : List ReplaySet → List ReplaySet) : (s.updReplayOf k g).latch = s.latch := rfl
@[simp] theorem updReplayOf_tree (k : Nat) (g : List ReplaySet → List ReplaySet) : (s.updReplayOf k g).tree = s.tree := rfl
@[simp] theorem updReplayOf_refLost (k : Nat) (g : List ReplaySet → List ReplaySet) : (s.updReplayOf k g).refLost = s.refLost := rfl
@[simp] theorem updReplayOf_histFlash (k : Nat) (g : List ReplaySet → List ReplaySet) : (s.updReplayOf k g).histFlash = s.histFlash := rfl
@[simp] theorem updReplayOf_tickAt (k : Nat) (g : List ReplaySet → List ReplaySet) : (s.updReplayOf k g).tickAt = s.tickAt := rfl
@[simp] theorem updReplayOf_passSeen (k : Nat) (g : List ReplaySet → List ReplaySet) : (s.updReplayOf k g).passSeen = s.passSeen := rfl

/-! The entries of `setsOpened`. -/
@[simp] theorem setsOf_updSetsOf_same (k : Nat) (g : List Nat → List Nat) : (s.updSetsOf k g).setsOf k = g (s.setsOf k) := Tab.get_upd_same _ _ _ _
theorem setsOf_updSetsOf_other {k j : Nat} (h : j ≠ k) (g : List Nat → List Nat) : (s.updSetsOf k g).setsOf j = s.setsOf j := Tab.get_upd_other _ _ h _
theorem setsOf_congr {t : State} (h : t.setsOpened = s.setsOpened) (k : Nat) : t.setsOf k = s.setsOf k := by unfold State.setsOf; rw [h]
@[simp] theorem updSetsOf_pending (k : Nat) (g : List Nat → List Nat) : (s.updSetsOf k g).pending = s.pending := rfl
@[simp] theorem updSetsOf_wall (k : Nat) (g : List Nat → List Nat) : (s.updSetsOf k g).wall = s.wall := rfl
@[simp] theorem updSetsOf_fresh (k : Nat) (g : List Nat → List Nat) : (s.updSetsOf k g).fresh = s.fresh := rfl
@[simp] theorem updSetsOf_regs (k : Nat) (g : List Nat → List Nat) : (s.updSetsOf k g).regs = s.regs := rfl
@[simp] theorem updSetsOf_ecnt (k : Nat) (g : List Nat → List Nat) : (s.updSetsOf k g).ecnt = s.ecnt := rfl
@[simp] theorem updSetsOf_rcnt (k : Nat) (g : List Nat → List Nat) : (s.updSetsOf k g).rcnt = s.rcnt := rfl
@[simp] theorem updSetsOf_fill (k : Nat) (g : List Nat → List Nat) : (s.updSetsOf k g).fill = s.fill := rfl
@[simp] theorem updSetsOf_shown (k : Nat) (g : List Nat → List Nat) : (s.updSetsOf k g).shown = s.shown := rfl
@[simp] theorem updSetsOf_units (k : Nat) (g : List Nat → List Nat) : (s.updSetsOf k g).units = s.units := rfl
@[simp] theorem updSetsOf_transit (k : Nat) (g : List Nat → List Nat) : (s.updSetsOf k g).transit = s.transit := rfl
@[simp] theorem updSetsOf_marks (k : Nat) (g : List Nat → List Nat) : (s.updSetsOf k g).marks = s.marks := rfl
@[simp] theorem updSetsOf_sent (k : Nat) (g : List Nat → List Nat) : (s.updSetsOf k g).sent = s.sent := rfl
@[simp] theorem updSetsOf_routers (k : Nat) (g : List Nat → List Nat) : (s.updSetsOf k g).routers = s.routers := rfl
@[simp] theorem updSetsOf_hops (k : Nat) (g : List Nat → List Nat) : (s.updSetsOf k g).hops = s.hops := rfl
@[simp] theorem updSetsOf_tablesDue (k : Nat) (g : List Nat → List Nat) : (s.updSetsOf k g).tablesDue = s.tablesDue := rfl
@[simp] theorem updSetsOf_cutoff (k : Nat) (g : List Nat → List Nat) : (s.updSetsOf k g).cutoff = s.cutoff := rfl
@[simp] theorem updSetsOf_delays (k : Nat) (g : List Nat → List Nat) : (s.updSetsOf k g).delays = s.delays := rfl
@[simp] theorem updSetsOf_clocks (k : Nat) (g : List Nat → List Nat) : (s.updSetsOf k g).clocks = s.clocks := rfl
@[simp] theorem updSetsOf_pair (k : Nat) (g : List Nat → List Nat) : (s.updSetsOf k g).pair = s.pair := rfl
@[simp] theorem updSetsOf_gates (k : Nat) (g : List Nat → List Nat) : (s.updSetsOf k g).gates = s.gates := rfl
@[simp] theorem updSetsOf_doors (k : Nat) (g : List Nat → List Nat) : (s.updSetsOf k g).doors = s.doors := rfl
@[simp] theorem updSetsOf_streams (k : Nat) (g : List Nat → List Nat) : (s.updSetsOf k g).streams = s.streams := rfl
@[simp] theorem updSetsOf_wins (k : Nat) (g : List Nat → List Nat) : (s.updSetsOf k g).wins = s.wins := rfl
@[simp] theorem updSetsOf_winAlive (k : Nat) (g : List Nat → List Nat) : (s.updSetsOf k g).winAlive = s.winAlive := rfl
@[simp] theorem updSetsOf_scans (k : Nat) (g : List Nat → List Nat) : (s.updSetsOf k g).scans = s.scans := rfl
@[simp] theorem updSetsOf_taps (k : Nat) (g : List Nat → List Nat) : (s.updSetsOf k g).taps = s.taps := rfl
@[simp] theorem updSetsOf_cores (k : Nat) (g : List Nat → List Nat) : (s.updSetsOf k g).cores = s.cores := rfl
@[simp] theorem updSetsOf_ports (k : Nat) (g : List Nat → List Nat) : (s.updSetsOf k g).ports = s.ports := rfl
@[simp] theorem updSetsOf_adj (k : Nat) (g : List Nat → List Nat) : (s.updSetsOf k g).adj = s.adj := rfl
@[simp] theorem updSetsOf_rpl (k : Nat) (g : List Nat → List Nat) : (s.updSetsOf k g).rpl = s.rpl := rfl
@[simp] theorem updSetsOf_steps (k : Nat) (g : List Nat → List Nat) : (s.updSetsOf k g).steps = s.steps := rfl
@[simp] theorem updSetsOf_verdicts (k : Nat) (g : List Nat → List Nat) : (s.updSetsOf k g).verdicts = s.verdicts := rfl
@[simp] theorem updSetsOf_replays (k : Nat) (g : List Nat → List Nat) : (s.updSetsOf k g).replays = s.replays := rfl
@[simp] theorem updSetsOf_ctxs (k : Nat) (g : List Nat → List Nat) : (s.updSetsOf k g).ctxs = s.ctxs := rfl
@[simp] theorem updSetsOf_hist (k : Nat) (g : List Nat → List Nat) : (s.updSetsOf k g).hist = s.hist := rfl
@[simp] theorem updSetsOf_histStaged (k : Nat) (g : List Nat → List Nat) : (s.updSetsOf k g).histStaged = s.histStaged := rfl
@[simp] theorem updSetsOf_histLatch (k : Nat) (g : List Nat → List Nat) : (s.updSetsOf k g).histLatch = s.histLatch := rfl
@[simp] theorem updSetsOf_drainSince (k : Nat) (g : List Nat → List Nat) : (s.updSetsOf k g).drainSince = s.drainSince := rfl
@[simp] theorem updSetsOf_halls (k : Nat) (g : List Nat → List Nat) : (s.updSetsOf k g).halls = s.halls := rfl
@[simp] theorem updSetsOf_resets (k : Nat) (g : List Nat → List Nat) : (s.updSetsOf k g).resets = s.resets := rfl
@[simp] theorem updSetsOf_hangs (k : Nat) (g : List Nat → List Nat) : (s.updSetsOf k g).hangs = s.hangs := rfl
@[simp] theorem updSetsOf_cut (k : Nat) (g : List Nat → List Nat) : (s.updSetsOf k g).cut = s.cut := rfl
@[simp] theorem updSetsOf_cutNo (k : Nat) (g : List Nat → List Nat) : (s.updSetsOf k g).cutNo = s.cutNo := rfl
@[simp] theorem updSetsOf_cutDue (k : Nat) (g : List Nat → List Nat) : (s.updSetsOf k g).cutDue = s.cutDue := rfl
@[simp] theorem updSetsOf_cutUnits (k : Nat) (g : List Nat → List Nat) : (s.updSetsOf k g).cutUnits = s.cutUnits := rfl
@[simp] theorem updSetsOf_chans (k : Nat) (g : List Nat → List Nat) : (s.updSetsOf k g).chans = s.chans := rfl
@[simp] theorem updSetsOf_stop (k : Nat) (g : List Nat → List Nat) : (s.updSetsOf k g).stop = s.stop := rfl
@[simp] theorem updSetsOf_voids (k : Nat) (g : List Nat → List Nat) : (s.updSetsOf k g).voids = s.voids := rfl
@[simp] theorem updSetsOf_bins (k : Nat) (g : List Nat → List Nat) : (s.updSetsOf k g).bins = s.bins := rfl
@[simp] theorem updSetsOf_bank (k : Nat) (g : List Nat → List Nat) : (s.updSetsOf k g).bank = s.bank := rfl
@[simp] theorem updSetsOf_segs (k : Nat) (g : List Nat → List Nat) : (s.updSetsOf k g).segs = s.segs := rfl
@[simp] theorem updSetsOf_attic (k : Nat) (g : List Nat → List Nat) : (s.updSetsOf k g).attic = s.attic := rfl
@[simp] theorem updSetsOf_mem (k : Nat) (g : List Nat → List Nat) : (s.updSetsOf k g).mem = s.mem := rfl
@[simp] theorem updSetsOf_variant (k : Nat) (g : List Nat → List Nat) : (s.updSetsOf k g).variant = s.variant := rfl
@[simp] theorem updSetsOf_mbx (k : Nat) (g : List Nat → List Nat) : (s.updSetsOf k g).mbx = s.mbx := rfl
@[simp] theorem updSetsOf_twk (k : Nat) (g : List Nat → List Nat) : (s.updSetsOf k g).twk = s.twk := rfl
@[simp] theorem updSetsOf_mgt (k : Nat) (g : List Nat → List Nat) : (s.updSetsOf k g).mgt = s.mgt := rfl
@[simp] theorem updSetsOf_dbg (k : Nat) (g : List Nat → List Nat) : (s.updSetsOf k g).dbg = s.dbg := rfl
@[simp] theorem updSetsOf_cels (k : Nat) (g : List Nat → List Nat) : (s.updSetsOf k g).cels = s.cels := rfl
@[simp] theorem updSetsOf_reloads (k : Nat) (g : List Nat → List Nat) : (s.updSetsOf k g).reloads = s.reloads := rfl
@[simp] theorem updSetsOf_chanMap (k : Nat) (g : List Nat → List Nat) : (s.updSetsOf k g).chanMap = s.chanMap := rfl
@[simp] theorem updSetsOf_descCopy (k : Nat) (g : List Nat → List Nat) : (s.updSetsOf k g).descCopy = s.descCopy := rfl
@[simp] theorem updSetsOf_seeds (k : Nat) (g : List Nat → List Nat) : (s.updSetsOf k g).seeds = s.seeds := rfl
@[simp] theorem updSetsOf_idleKills (k : Nat) (g : List Nat → List Nat) : (s.updSetsOf k g).idleKills = s.idleKills := rfl
@[simp] theorem updSetsOf_prv (k : Nat) (g : List Nat → List Nat) : (s.updSetsOf k g).prv = s.prv := rfl
@[simp] theorem updSetsOf_pairs (k : Nat) (g : List Nat → List Nat) : (s.updSetsOf k g).pairs = s.pairs := rfl
@[simp] theorem updSetsOf_steepFirst (k : Nat) (g : List Nat → List Nat) : (s.updSetsOf k g).steepFirst = s.steepFirst := rfl
@[simp] theorem updSetsOf_stp (k : Nat) (g : List Nat → List Nat) : (s.updSetsOf k g).stp = s.stp := rfl
@[simp] theorem updSetsOf_engs (k : Nat) (g : List Nat → List Nat) : (s.updSetsOf k g).engs = s.engs := rfl
@[simp] theorem updSetsOf_plan (k : Nat) (g : List Nat → List Nat) : (s.updSetsOf k g).plan = s.plan := rfl
@[simp] theorem updSetsOf_grist (k : Nat) (g : List Nat → List Nat) : (s.updSetsOf k g).grist = s.grist := rfl
@[simp] theorem updSetsOf_ana (k : Nat) (g : List Nat → List Nat) : (s.updSetsOf k g).ana = s.ana := rfl
@[simp] theorem updSetsOf_dl (k : Nat) (g : List Nat → List Nat) : (s.updSetsOf k g).dl = s.dl := rfl
@[simp] theorem updSetsOf_fw (k : Nat) (g : List Nat → List Nat) : (s.updSetsOf k g).fw = s.fw := rfl
@[simp] theorem updSetsOf_sens (k : Nat) (g : List Nat → List Nat) : (s.updSetsOf k g).sens = s.sens := rfl
@[simp] theorem updSetsOf_thm (k : Nat) (g : List Nat → List Nat) : (s.updSetsOf k g).thm = s.thm := rfl
@[simp] theorem updSetsOf_emerg (k : Nat) (g : List Nat → List Nat) : (s.updSetsOf k g).emerg = s.emerg := rfl
@[simp] theorem updSetsOf_pad (k : Nat) (g : List Nat → List Nat) : (s.updSetsOf k g).pad = s.pad := rfl
@[simp] theorem updSetsOf_resetsDue (k : Nat) (g : List Nat → List Nat) : (s.updSetsOf k g).resetsDue = s.resetsDue := rfl
@[simp] theorem updSetsOf_latch (k : Nat) (g : List Nat → List Nat) : (s.updSetsOf k g).latch = s.latch := rfl
@[simp] theorem updSetsOf_tree (k : Nat) (g : List Nat → List Nat) : (s.updSetsOf k g).tree = s.tree := rfl
@[simp] theorem updSetsOf_refLost (k : Nat) (g : List Nat → List Nat) : (s.updSetsOf k g).refLost = s.refLost := rfl
@[simp] theorem updSetsOf_histFlash (k : Nat) (g : List Nat → List Nat) : (s.updSetsOf k g).histFlash = s.histFlash := rfl
@[simp] theorem updSetsOf_tickAt (k : Nat) (g : List Nat → List Nat) : (s.updSetsOf k g).tickAt = s.tickAt := rfl
@[simp] theorem updSetsOf_passSeen (k : Nat) (g : List Nat → List Nat) : (s.updSetsOf k g).passSeen = s.passSeen := rfl

/-! The entries of `ctxs`. -/
@[simp] theorem ctx_updCtx_same (k : Nat) (g : CtxSt → CtxSt) : (s.updCtx k g).ctx k = g (s.ctx k) := Tab.get_upd_same _ _ _ _
theorem ctx_updCtx_other {k j : Nat} (h : j ≠ k) (g : CtxSt → CtxSt) : (s.updCtx k g).ctx j = s.ctx j := Tab.get_upd_other _ _ h _
theorem ctx_congr {t : State} (h : t.ctxs = s.ctxs) (k : Nat) : t.ctx k = s.ctx k := by unfold State.ctx; rw [h]
@[simp] theorem updCtx_pending (k : Nat) (g : CtxSt → CtxSt) : (s.updCtx k g).pending = s.pending := rfl
@[simp] theorem updCtx_wall (k : Nat) (g : CtxSt → CtxSt) : (s.updCtx k g).wall = s.wall := rfl
@[simp] theorem updCtx_fresh (k : Nat) (g : CtxSt → CtxSt) : (s.updCtx k g).fresh = s.fresh := rfl
@[simp] theorem updCtx_regs (k : Nat) (g : CtxSt → CtxSt) : (s.updCtx k g).regs = s.regs := rfl
@[simp] theorem updCtx_ecnt (k : Nat) (g : CtxSt → CtxSt) : (s.updCtx k g).ecnt = s.ecnt := rfl
@[simp] theorem updCtx_rcnt (k : Nat) (g : CtxSt → CtxSt) : (s.updCtx k g).rcnt = s.rcnt := rfl
@[simp] theorem updCtx_fill (k : Nat) (g : CtxSt → CtxSt) : (s.updCtx k g).fill = s.fill := rfl
@[simp] theorem updCtx_shown (k : Nat) (g : CtxSt → CtxSt) : (s.updCtx k g).shown = s.shown := rfl
@[simp] theorem updCtx_units (k : Nat) (g : CtxSt → CtxSt) : (s.updCtx k g).units = s.units := rfl
@[simp] theorem updCtx_transit (k : Nat) (g : CtxSt → CtxSt) : (s.updCtx k g).transit = s.transit := rfl
@[simp] theorem updCtx_marks (k : Nat) (g : CtxSt → CtxSt) : (s.updCtx k g).marks = s.marks := rfl
@[simp] theorem updCtx_sent (k : Nat) (g : CtxSt → CtxSt) : (s.updCtx k g).sent = s.sent := rfl
@[simp] theorem updCtx_routers (k : Nat) (g : CtxSt → CtxSt) : (s.updCtx k g).routers = s.routers := rfl
@[simp] theorem updCtx_hops (k : Nat) (g : CtxSt → CtxSt) : (s.updCtx k g).hops = s.hops := rfl
@[simp] theorem updCtx_tablesDue (k : Nat) (g : CtxSt → CtxSt) : (s.updCtx k g).tablesDue = s.tablesDue := rfl
@[simp] theorem updCtx_cutoff (k : Nat) (g : CtxSt → CtxSt) : (s.updCtx k g).cutoff = s.cutoff := rfl
@[simp] theorem updCtx_delays (k : Nat) (g : CtxSt → CtxSt) : (s.updCtx k g).delays = s.delays := rfl
@[simp] theorem updCtx_clocks (k : Nat) (g : CtxSt → CtxSt) : (s.updCtx k g).clocks = s.clocks := rfl
@[simp] theorem updCtx_pair (k : Nat) (g : CtxSt → CtxSt) : (s.updCtx k g).pair = s.pair := rfl
@[simp] theorem updCtx_gates (k : Nat) (g : CtxSt → CtxSt) : (s.updCtx k g).gates = s.gates := rfl
@[simp] theorem updCtx_doors (k : Nat) (g : CtxSt → CtxSt) : (s.updCtx k g).doors = s.doors := rfl
@[simp] theorem updCtx_streams (k : Nat) (g : CtxSt → CtxSt) : (s.updCtx k g).streams = s.streams := rfl
@[simp] theorem updCtx_wins (k : Nat) (g : CtxSt → CtxSt) : (s.updCtx k g).wins = s.wins := rfl
@[simp] theorem updCtx_winAlive (k : Nat) (g : CtxSt → CtxSt) : (s.updCtx k g).winAlive = s.winAlive := rfl
@[simp] theorem updCtx_scans (k : Nat) (g : CtxSt → CtxSt) : (s.updCtx k g).scans = s.scans := rfl
@[simp] theorem updCtx_taps (k : Nat) (g : CtxSt → CtxSt) : (s.updCtx k g).taps = s.taps := rfl
@[simp] theorem updCtx_cores (k : Nat) (g : CtxSt → CtxSt) : (s.updCtx k g).cores = s.cores := rfl
@[simp] theorem updCtx_ports (k : Nat) (g : CtxSt → CtxSt) : (s.updCtx k g).ports = s.ports := rfl
@[simp] theorem updCtx_adj (k : Nat) (g : CtxSt → CtxSt) : (s.updCtx k g).adj = s.adj := rfl
@[simp] theorem updCtx_rpl (k : Nat) (g : CtxSt → CtxSt) : (s.updCtx k g).rpl = s.rpl := rfl
@[simp] theorem updCtx_steps (k : Nat) (g : CtxSt → CtxSt) : (s.updCtx k g).steps = s.steps := rfl
@[simp] theorem updCtx_verdicts (k : Nat) (g : CtxSt → CtxSt) : (s.updCtx k g).verdicts = s.verdicts := rfl
@[simp] theorem updCtx_replays (k : Nat) (g : CtxSt → CtxSt) : (s.updCtx k g).replays = s.replays := rfl
@[simp] theorem updCtx_setsOpened (k : Nat) (g : CtxSt → CtxSt) : (s.updCtx k g).setsOpened = s.setsOpened := rfl
@[simp] theorem updCtx_hist (k : Nat) (g : CtxSt → CtxSt) : (s.updCtx k g).hist = s.hist := rfl
@[simp] theorem updCtx_histStaged (k : Nat) (g : CtxSt → CtxSt) : (s.updCtx k g).histStaged = s.histStaged := rfl
@[simp] theorem updCtx_histLatch (k : Nat) (g : CtxSt → CtxSt) : (s.updCtx k g).histLatch = s.histLatch := rfl
@[simp] theorem updCtx_drainSince (k : Nat) (g : CtxSt → CtxSt) : (s.updCtx k g).drainSince = s.drainSince := rfl
@[simp] theorem updCtx_halls (k : Nat) (g : CtxSt → CtxSt) : (s.updCtx k g).halls = s.halls := rfl
@[simp] theorem updCtx_resets (k : Nat) (g : CtxSt → CtxSt) : (s.updCtx k g).resets = s.resets := rfl
@[simp] theorem updCtx_hangs (k : Nat) (g : CtxSt → CtxSt) : (s.updCtx k g).hangs = s.hangs := rfl
@[simp] theorem updCtx_cut (k : Nat) (g : CtxSt → CtxSt) : (s.updCtx k g).cut = s.cut := rfl
@[simp] theorem updCtx_cutNo (k : Nat) (g : CtxSt → CtxSt) : (s.updCtx k g).cutNo = s.cutNo := rfl
@[simp] theorem updCtx_cutDue (k : Nat) (g : CtxSt → CtxSt) : (s.updCtx k g).cutDue = s.cutDue := rfl
@[simp] theorem updCtx_cutUnits (k : Nat) (g : CtxSt → CtxSt) : (s.updCtx k g).cutUnits = s.cutUnits := rfl
@[simp] theorem updCtx_chans (k : Nat) (g : CtxSt → CtxSt) : (s.updCtx k g).chans = s.chans := rfl
@[simp] theorem updCtx_stop (k : Nat) (g : CtxSt → CtxSt) : (s.updCtx k g).stop = s.stop := rfl
@[simp] theorem updCtx_voids (k : Nat) (g : CtxSt → CtxSt) : (s.updCtx k g).voids = s.voids := rfl
@[simp] theorem updCtx_bins (k : Nat) (g : CtxSt → CtxSt) : (s.updCtx k g).bins = s.bins := rfl
@[simp] theorem updCtx_bank (k : Nat) (g : CtxSt → CtxSt) : (s.updCtx k g).bank = s.bank := rfl
@[simp] theorem updCtx_segs (k : Nat) (g : CtxSt → CtxSt) : (s.updCtx k g).segs = s.segs := rfl
@[simp] theorem updCtx_attic (k : Nat) (g : CtxSt → CtxSt) : (s.updCtx k g).attic = s.attic := rfl
@[simp] theorem updCtx_mem (k : Nat) (g : CtxSt → CtxSt) : (s.updCtx k g).mem = s.mem := rfl
@[simp] theorem updCtx_variant (k : Nat) (g : CtxSt → CtxSt) : (s.updCtx k g).variant = s.variant := rfl
@[simp] theorem updCtx_mbx (k : Nat) (g : CtxSt → CtxSt) : (s.updCtx k g).mbx = s.mbx := rfl
@[simp] theorem updCtx_twk (k : Nat) (g : CtxSt → CtxSt) : (s.updCtx k g).twk = s.twk := rfl
@[simp] theorem updCtx_mgt (k : Nat) (g : CtxSt → CtxSt) : (s.updCtx k g).mgt = s.mgt := rfl
@[simp] theorem updCtx_dbg (k : Nat) (g : CtxSt → CtxSt) : (s.updCtx k g).dbg = s.dbg := rfl
@[simp] theorem updCtx_cels (k : Nat) (g : CtxSt → CtxSt) : (s.updCtx k g).cels = s.cels := rfl
@[simp] theorem updCtx_reloads (k : Nat) (g : CtxSt → CtxSt) : (s.updCtx k g).reloads = s.reloads := rfl
@[simp] theorem updCtx_chanMap (k : Nat) (g : CtxSt → CtxSt) : (s.updCtx k g).chanMap = s.chanMap := rfl
@[simp] theorem updCtx_descCopy (k : Nat) (g : CtxSt → CtxSt) : (s.updCtx k g).descCopy = s.descCopy := rfl
@[simp] theorem updCtx_seeds (k : Nat) (g : CtxSt → CtxSt) : (s.updCtx k g).seeds = s.seeds := rfl
@[simp] theorem updCtx_idleKills (k : Nat) (g : CtxSt → CtxSt) : (s.updCtx k g).idleKills = s.idleKills := rfl
@[simp] theorem updCtx_prv (k : Nat) (g : CtxSt → CtxSt) : (s.updCtx k g).prv = s.prv := rfl
@[simp] theorem updCtx_pairs (k : Nat) (g : CtxSt → CtxSt) : (s.updCtx k g).pairs = s.pairs := rfl
@[simp] theorem updCtx_steepFirst (k : Nat) (g : CtxSt → CtxSt) : (s.updCtx k g).steepFirst = s.steepFirst := rfl
@[simp] theorem updCtx_stp (k : Nat) (g : CtxSt → CtxSt) : (s.updCtx k g).stp = s.stp := rfl
@[simp] theorem updCtx_engs (k : Nat) (g : CtxSt → CtxSt) : (s.updCtx k g).engs = s.engs := rfl
@[simp] theorem updCtx_plan (k : Nat) (g : CtxSt → CtxSt) : (s.updCtx k g).plan = s.plan := rfl
@[simp] theorem updCtx_grist (k : Nat) (g : CtxSt → CtxSt) : (s.updCtx k g).grist = s.grist := rfl
@[simp] theorem updCtx_ana (k : Nat) (g : CtxSt → CtxSt) : (s.updCtx k g).ana = s.ana := rfl
@[simp] theorem updCtx_dl (k : Nat) (g : CtxSt → CtxSt) : (s.updCtx k g).dl = s.dl := rfl
@[simp] theorem updCtx_fw (k : Nat) (g : CtxSt → CtxSt) : (s.updCtx k g).fw = s.fw := rfl
@[simp] theorem updCtx_sens (k : Nat) (g : CtxSt → CtxSt) : (s.updCtx k g).sens = s.sens := rfl
@[simp] theorem updCtx_thm (k : Nat) (g : CtxSt → CtxSt) : (s.updCtx k g).thm = s.thm := rfl
@[simp] theorem updCtx_emerg (k : Nat) (g : CtxSt → CtxSt) : (s.updCtx k g).emerg = s.emerg := rfl
@[simp] theorem updCtx_pad (k : Nat) (g : CtxSt → CtxSt) : (s.updCtx k g).pad = s.pad := rfl
@[simp] theorem updCtx_resetsDue (k : Nat) (g : CtxSt → CtxSt) : (s.updCtx k g).resetsDue = s.resetsDue := rfl
@[simp] theorem updCtx_latch (k : Nat) (g : CtxSt → CtxSt) : (s.updCtx k g).latch = s.latch := rfl
@[simp] theorem updCtx_tree (k : Nat) (g : CtxSt → CtxSt) : (s.updCtx k g).tree = s.tree := rfl
@[simp] theorem updCtx_refLost (k : Nat) (g : CtxSt → CtxSt) : (s.updCtx k g).refLost = s.refLost := rfl
@[simp] theorem updCtx_histFlash (k : Nat) (g : CtxSt → CtxSt) : (s.updCtx k g).histFlash = s.histFlash := rfl
@[simp] theorem updCtx_tickAt (k : Nat) (g : CtxSt → CtxSt) : (s.updCtx k g).tickAt = s.tickAt := rfl
@[simp] theorem updCtx_passSeen (k : Nat) (g : CtxSt → CtxSt) : (s.updCtx k g).passSeen = s.passSeen := rfl

/-! The entries of `halls`. -/
@[simp] theorem hall_updHall_same (k : Nat) (g : HallSt → HallSt) : (s.updHall k g).hall k = g (s.hall k) := Tab.get_upd_same _ _ _ _
theorem hall_updHall_other {k j : Nat} (h : j ≠ k) (g : HallSt → HallSt) : (s.updHall k g).hall j = s.hall j := Tab.get_upd_other _ _ h _
theorem hall_congr {t : State} (h : t.halls = s.halls) (k : Nat) : t.hall k = s.hall k := by unfold State.hall; rw [h]
@[simp] theorem updHall_pending (k : Nat) (g : HallSt → HallSt) : (s.updHall k g).pending = s.pending := rfl
@[simp] theorem updHall_wall (k : Nat) (g : HallSt → HallSt) : (s.updHall k g).wall = s.wall := rfl
@[simp] theorem updHall_fresh (k : Nat) (g : HallSt → HallSt) : (s.updHall k g).fresh = s.fresh := rfl
@[simp] theorem updHall_regs (k : Nat) (g : HallSt → HallSt) : (s.updHall k g).regs = s.regs := rfl
@[simp] theorem updHall_ecnt (k : Nat) (g : HallSt → HallSt) : (s.updHall k g).ecnt = s.ecnt := rfl
@[simp] theorem updHall_rcnt (k : Nat) (g : HallSt → HallSt) : (s.updHall k g).rcnt = s.rcnt := rfl
@[simp] theorem updHall_fill (k : Nat) (g : HallSt → HallSt) : (s.updHall k g).fill = s.fill := rfl
@[simp] theorem updHall_shown (k : Nat) (g : HallSt → HallSt) : (s.updHall k g).shown = s.shown := rfl
@[simp] theorem updHall_units (k : Nat) (g : HallSt → HallSt) : (s.updHall k g).units = s.units := rfl
@[simp] theorem updHall_transit (k : Nat) (g : HallSt → HallSt) : (s.updHall k g).transit = s.transit := rfl
@[simp] theorem updHall_marks (k : Nat) (g : HallSt → HallSt) : (s.updHall k g).marks = s.marks := rfl
@[simp] theorem updHall_sent (k : Nat) (g : HallSt → HallSt) : (s.updHall k g).sent = s.sent := rfl
@[simp] theorem updHall_routers (k : Nat) (g : HallSt → HallSt) : (s.updHall k g).routers = s.routers := rfl
@[simp] theorem updHall_hops (k : Nat) (g : HallSt → HallSt) : (s.updHall k g).hops = s.hops := rfl
@[simp] theorem updHall_tablesDue (k : Nat) (g : HallSt → HallSt) : (s.updHall k g).tablesDue = s.tablesDue := rfl
@[simp] theorem updHall_cutoff (k : Nat) (g : HallSt → HallSt) : (s.updHall k g).cutoff = s.cutoff := rfl
@[simp] theorem updHall_delays (k : Nat) (g : HallSt → HallSt) : (s.updHall k g).delays = s.delays := rfl
@[simp] theorem updHall_clocks (k : Nat) (g : HallSt → HallSt) : (s.updHall k g).clocks = s.clocks := rfl
@[simp] theorem updHall_pair (k : Nat) (g : HallSt → HallSt) : (s.updHall k g).pair = s.pair := rfl
@[simp] theorem updHall_gates (k : Nat) (g : HallSt → HallSt) : (s.updHall k g).gates = s.gates := rfl
@[simp] theorem updHall_doors (k : Nat) (g : HallSt → HallSt) : (s.updHall k g).doors = s.doors := rfl
@[simp] theorem updHall_streams (k : Nat) (g : HallSt → HallSt) : (s.updHall k g).streams = s.streams := rfl
@[simp] theorem updHall_wins (k : Nat) (g : HallSt → HallSt) : (s.updHall k g).wins = s.wins := rfl
@[simp] theorem updHall_winAlive (k : Nat) (g : HallSt → HallSt) : (s.updHall k g).winAlive = s.winAlive := rfl
@[simp] theorem updHall_scans (k : Nat) (g : HallSt → HallSt) : (s.updHall k g).scans = s.scans := rfl
@[simp] theorem updHall_taps (k : Nat) (g : HallSt → HallSt) : (s.updHall k g).taps = s.taps := rfl
@[simp] theorem updHall_cores (k : Nat) (g : HallSt → HallSt) : (s.updHall k g).cores = s.cores := rfl
@[simp] theorem updHall_ports (k : Nat) (g : HallSt → HallSt) : (s.updHall k g).ports = s.ports := rfl
@[simp] theorem updHall_adj (k : Nat) (g : HallSt → HallSt) : (s.updHall k g).adj = s.adj := rfl
@[simp] theorem updHall_rpl (k : Nat) (g : HallSt → HallSt) : (s.updHall k g).rpl = s.rpl := rfl
@[simp] theorem updHall_steps (k : Nat) (g : HallSt → HallSt) : (s.updHall k g).steps = s.steps := rfl
@[simp] theorem updHall_verdicts (k : Nat) (g : HallSt → HallSt) : (s.updHall k g).verdicts = s.verdicts := rfl
@[simp] theorem updHall_replays (k : Nat) (g : HallSt → HallSt) : (s.updHall k g).replays = s.replays := rfl
@[simp] theorem updHall_setsOpened (k : Nat) (g : HallSt → HallSt) : (s.updHall k g).setsOpened = s.setsOpened := rfl
@[simp] theorem updHall_ctxs (k : Nat) (g : HallSt → HallSt) : (s.updHall k g).ctxs = s.ctxs := rfl
@[simp] theorem updHall_hist (k : Nat) (g : HallSt → HallSt) : (s.updHall k g).hist = s.hist := rfl
@[simp] theorem updHall_histStaged (k : Nat) (g : HallSt → HallSt) : (s.updHall k g).histStaged = s.histStaged := rfl
@[simp] theorem updHall_histLatch (k : Nat) (g : HallSt → HallSt) : (s.updHall k g).histLatch = s.histLatch := rfl
@[simp] theorem updHall_drainSince (k : Nat) (g : HallSt → HallSt) : (s.updHall k g).drainSince = s.drainSince := rfl
@[simp] theorem updHall_resets (k : Nat) (g : HallSt → HallSt) : (s.updHall k g).resets = s.resets := rfl
@[simp] theorem updHall_hangs (k : Nat) (g : HallSt → HallSt) : (s.updHall k g).hangs = s.hangs := rfl
@[simp] theorem updHall_cut (k : Nat) (g : HallSt → HallSt) : (s.updHall k g).cut = s.cut := rfl
@[simp] theorem updHall_cutNo (k : Nat) (g : HallSt → HallSt) : (s.updHall k g).cutNo = s.cutNo := rfl
@[simp] theorem updHall_cutDue (k : Nat) (g : HallSt → HallSt) : (s.updHall k g).cutDue = s.cutDue := rfl
@[simp] theorem updHall_cutUnits (k : Nat) (g : HallSt → HallSt) : (s.updHall k g).cutUnits = s.cutUnits := rfl
@[simp] theorem updHall_chans (k : Nat) (g : HallSt → HallSt) : (s.updHall k g).chans = s.chans := rfl
@[simp] theorem updHall_stop (k : Nat) (g : HallSt → HallSt) : (s.updHall k g).stop = s.stop := rfl
@[simp] theorem updHall_voids (k : Nat) (g : HallSt → HallSt) : (s.updHall k g).voids = s.voids := rfl
@[simp] theorem updHall_bins (k : Nat) (g : HallSt → HallSt) : (s.updHall k g).bins = s.bins := rfl
@[simp] theorem updHall_bank (k : Nat) (g : HallSt → HallSt) : (s.updHall k g).bank = s.bank := rfl
@[simp] theorem updHall_segs (k : Nat) (g : HallSt → HallSt) : (s.updHall k g).segs = s.segs := rfl
@[simp] theorem updHall_attic (k : Nat) (g : HallSt → HallSt) : (s.updHall k g).attic = s.attic := rfl
@[simp] theorem updHall_mem (k : Nat) (g : HallSt → HallSt) : (s.updHall k g).mem = s.mem := rfl
@[simp] theorem updHall_variant (k : Nat) (g : HallSt → HallSt) : (s.updHall k g).variant = s.variant := rfl
@[simp] theorem updHall_mbx (k : Nat) (g : HallSt → HallSt) : (s.updHall k g).mbx = s.mbx := rfl
@[simp] theorem updHall_twk (k : Nat) (g : HallSt → HallSt) : (s.updHall k g).twk = s.twk := rfl
@[simp] theorem updHall_mgt (k : Nat) (g : HallSt → HallSt) : (s.updHall k g).mgt = s.mgt := rfl
@[simp] theorem updHall_dbg (k : Nat) (g : HallSt → HallSt) : (s.updHall k g).dbg = s.dbg := rfl
@[simp] theorem updHall_cels (k : Nat) (g : HallSt → HallSt) : (s.updHall k g).cels = s.cels := rfl
@[simp] theorem updHall_reloads (k : Nat) (g : HallSt → HallSt) : (s.updHall k g).reloads = s.reloads := rfl
@[simp] theorem updHall_chanMap (k : Nat) (g : HallSt → HallSt) : (s.updHall k g).chanMap = s.chanMap := rfl
@[simp] theorem updHall_descCopy (k : Nat) (g : HallSt → HallSt) : (s.updHall k g).descCopy = s.descCopy := rfl
@[simp] theorem updHall_seeds (k : Nat) (g : HallSt → HallSt) : (s.updHall k g).seeds = s.seeds := rfl
@[simp] theorem updHall_idleKills (k : Nat) (g : HallSt → HallSt) : (s.updHall k g).idleKills = s.idleKills := rfl
@[simp] theorem updHall_prv (k : Nat) (g : HallSt → HallSt) : (s.updHall k g).prv = s.prv := rfl
@[simp] theorem updHall_pairs (k : Nat) (g : HallSt → HallSt) : (s.updHall k g).pairs = s.pairs := rfl
@[simp] theorem updHall_steepFirst (k : Nat) (g : HallSt → HallSt) : (s.updHall k g).steepFirst = s.steepFirst := rfl
@[simp] theorem updHall_stp (k : Nat) (g : HallSt → HallSt) : (s.updHall k g).stp = s.stp := rfl
@[simp] theorem updHall_engs (k : Nat) (g : HallSt → HallSt) : (s.updHall k g).engs = s.engs := rfl
@[simp] theorem updHall_plan (k : Nat) (g : HallSt → HallSt) : (s.updHall k g).plan = s.plan := rfl
@[simp] theorem updHall_grist (k : Nat) (g : HallSt → HallSt) : (s.updHall k g).grist = s.grist := rfl
@[simp] theorem updHall_ana (k : Nat) (g : HallSt → HallSt) : (s.updHall k g).ana = s.ana := rfl
@[simp] theorem updHall_dl (k : Nat) (g : HallSt → HallSt) : (s.updHall k g).dl = s.dl := rfl
@[simp] theorem updHall_fw (k : Nat) (g : HallSt → HallSt) : (s.updHall k g).fw = s.fw := rfl
@[simp] theorem updHall_sens (k : Nat) (g : HallSt → HallSt) : (s.updHall k g).sens = s.sens := rfl
@[simp] theorem updHall_thm (k : Nat) (g : HallSt → HallSt) : (s.updHall k g).thm = s.thm := rfl
@[simp] theorem updHall_emerg (k : Nat) (g : HallSt → HallSt) : (s.updHall k g).emerg = s.emerg := rfl
@[simp] theorem updHall_pad (k : Nat) (g : HallSt → HallSt) : (s.updHall k g).pad = s.pad := rfl
@[simp] theorem updHall_resetsDue (k : Nat) (g : HallSt → HallSt) : (s.updHall k g).resetsDue = s.resetsDue := rfl
@[simp] theorem updHall_latch (k : Nat) (g : HallSt → HallSt) : (s.updHall k g).latch = s.latch := rfl
@[simp] theorem updHall_tree (k : Nat) (g : HallSt → HallSt) : (s.updHall k g).tree = s.tree := rfl
@[simp] theorem updHall_refLost (k : Nat) (g : HallSt → HallSt) : (s.updHall k g).refLost = s.refLost := rfl
@[simp] theorem updHall_histFlash (k : Nat) (g : HallSt → HallSt) : (s.updHall k g).histFlash = s.histFlash := rfl
@[simp] theorem updHall_tickAt (k : Nat) (g : HallSt → HallSt) : (s.updHall k g).tickAt = s.tickAt := rfl
@[simp] theorem updHall_passSeen (k : Nat) (g : HallSt → HallSt) : (s.updHall k g).passSeen = s.passSeen := rfl

/-! The entries of `cutUnits`. -/
@[simp] theorem cutUnit_updCutUnit_same (k : Nat) (g : CutUnit → CutUnit) : (s.updCutUnit k g).cutUnit k = g (s.cutUnit k) := Tab.get_upd_same _ _ _ _
theorem cutUnit_updCutUnit_other {k j : Nat} (h : j ≠ k) (g : CutUnit → CutUnit) : (s.updCutUnit k g).cutUnit j = s.cutUnit j := Tab.get_upd_other _ _ h _
theorem cutUnit_congr {t : State} (h : t.cutUnits = s.cutUnits) (k : Nat) : t.cutUnit k = s.cutUnit k := by unfold State.cutUnit; rw [h]
@[simp] theorem updCutUnit_pending (k : Nat) (g : CutUnit → CutUnit) : (s.updCutUnit k g).pending = s.pending := rfl
@[simp] theorem updCutUnit_wall (k : Nat) (g : CutUnit → CutUnit) : (s.updCutUnit k g).wall = s.wall := rfl
@[simp] theorem updCutUnit_fresh (k : Nat) (g : CutUnit → CutUnit) : (s.updCutUnit k g).fresh = s.fresh := rfl
@[simp] theorem updCutUnit_regs (k : Nat) (g : CutUnit → CutUnit) : (s.updCutUnit k g).regs = s.regs := rfl
@[simp] theorem updCutUnit_ecnt (k : Nat) (g : CutUnit → CutUnit) : (s.updCutUnit k g).ecnt = s.ecnt := rfl
@[simp] theorem updCutUnit_rcnt (k : Nat) (g : CutUnit → CutUnit) : (s.updCutUnit k g).rcnt = s.rcnt := rfl
@[simp] theorem updCutUnit_fill (k : Nat) (g : CutUnit → CutUnit) : (s.updCutUnit k g).fill = s.fill := rfl
@[simp] theorem updCutUnit_shown (k : Nat) (g : CutUnit → CutUnit) : (s.updCutUnit k g).shown = s.shown := rfl
@[simp] theorem updCutUnit_units (k : Nat) (g : CutUnit → CutUnit) : (s.updCutUnit k g).units = s.units := rfl
@[simp] theorem updCutUnit_transit (k : Nat) (g : CutUnit → CutUnit) : (s.updCutUnit k g).transit = s.transit := rfl
@[simp] theorem updCutUnit_marks (k : Nat) (g : CutUnit → CutUnit) : (s.updCutUnit k g).marks = s.marks := rfl
@[simp] theorem updCutUnit_sent (k : Nat) (g : CutUnit → CutUnit) : (s.updCutUnit k g).sent = s.sent := rfl
@[simp] theorem updCutUnit_routers (k : Nat) (g : CutUnit → CutUnit) : (s.updCutUnit k g).routers = s.routers := rfl
@[simp] theorem updCutUnit_hops (k : Nat) (g : CutUnit → CutUnit) : (s.updCutUnit k g).hops = s.hops := rfl
@[simp] theorem updCutUnit_tablesDue (k : Nat) (g : CutUnit → CutUnit) : (s.updCutUnit k g).tablesDue = s.tablesDue := rfl
@[simp] theorem updCutUnit_cutoff (k : Nat) (g : CutUnit → CutUnit) : (s.updCutUnit k g).cutoff = s.cutoff := rfl
@[simp] theorem updCutUnit_delays (k : Nat) (g : CutUnit → CutUnit) : (s.updCutUnit k g).delays = s.delays := rfl
@[simp] theorem updCutUnit_clocks (k : Nat) (g : CutUnit → CutUnit) : (s.updCutUnit k g).clocks = s.clocks := rfl
@[simp] theorem updCutUnit_pair (k : Nat) (g : CutUnit → CutUnit) : (s.updCutUnit k g).pair = s.pair := rfl
@[simp] theorem updCutUnit_gates (k : Nat) (g : CutUnit → CutUnit) : (s.updCutUnit k g).gates = s.gates := rfl
@[simp] theorem updCutUnit_doors (k : Nat) (g : CutUnit → CutUnit) : (s.updCutUnit k g).doors = s.doors := rfl
@[simp] theorem updCutUnit_streams (k : Nat) (g : CutUnit → CutUnit) : (s.updCutUnit k g).streams = s.streams := rfl
@[simp] theorem updCutUnit_wins (k : Nat) (g : CutUnit → CutUnit) : (s.updCutUnit k g).wins = s.wins := rfl
@[simp] theorem updCutUnit_winAlive (k : Nat) (g : CutUnit → CutUnit) : (s.updCutUnit k g).winAlive = s.winAlive := rfl
@[simp] theorem updCutUnit_scans (k : Nat) (g : CutUnit → CutUnit) : (s.updCutUnit k g).scans = s.scans := rfl
@[simp] theorem updCutUnit_taps (k : Nat) (g : CutUnit → CutUnit) : (s.updCutUnit k g).taps = s.taps := rfl
@[simp] theorem updCutUnit_cores (k : Nat) (g : CutUnit → CutUnit) : (s.updCutUnit k g).cores = s.cores := rfl
@[simp] theorem updCutUnit_ports (k : Nat) (g : CutUnit → CutUnit) : (s.updCutUnit k g).ports = s.ports := rfl
@[simp] theorem updCutUnit_adj (k : Nat) (g : CutUnit → CutUnit) : (s.updCutUnit k g).adj = s.adj := rfl
@[simp] theorem updCutUnit_rpl (k : Nat) (g : CutUnit → CutUnit) : (s.updCutUnit k g).rpl = s.rpl := rfl
@[simp] theorem updCutUnit_steps (k : Nat) (g : CutUnit → CutUnit) : (s.updCutUnit k g).steps = s.steps := rfl
@[simp] theorem updCutUnit_verdicts (k : Nat) (g : CutUnit → CutUnit) : (s.updCutUnit k g).verdicts = s.verdicts := rfl
@[simp] theorem updCutUnit_replays (k : Nat) (g : CutUnit → CutUnit) : (s.updCutUnit k g).replays = s.replays := rfl
@[simp] theorem updCutUnit_setsOpened (k : Nat) (g : CutUnit → CutUnit) : (s.updCutUnit k g).setsOpened = s.setsOpened := rfl
@[simp] theorem updCutUnit_ctxs (k : Nat) (g : CutUnit → CutUnit) : (s.updCutUnit k g).ctxs = s.ctxs := rfl
@[simp] theorem updCutUnit_hist (k : Nat) (g : CutUnit → CutUnit) : (s.updCutUnit k g).hist = s.hist := rfl
@[simp] theorem updCutUnit_histStaged (k : Nat) (g : CutUnit → CutUnit) : (s.updCutUnit k g).histStaged = s.histStaged := rfl
@[simp] theorem updCutUnit_histLatch (k : Nat) (g : CutUnit → CutUnit) : (s.updCutUnit k g).histLatch = s.histLatch := rfl
@[simp] theorem updCutUnit_drainSince (k : Nat) (g : CutUnit → CutUnit) : (s.updCutUnit k g).drainSince = s.drainSince := rfl
@[simp] theorem updCutUnit_halls (k : Nat) (g : CutUnit → CutUnit) : (s.updCutUnit k g).halls = s.halls := rfl
@[simp] theorem updCutUnit_resets (k : Nat) (g : CutUnit → CutUnit) : (s.updCutUnit k g).resets = s.resets := rfl
@[simp] theorem updCutUnit_hangs (k : Nat) (g : CutUnit → CutUnit) : (s.updCutUnit k g).hangs = s.hangs := rfl
@[simp] theorem updCutUnit_cut (k : Nat) (g : CutUnit → CutUnit) : (s.updCutUnit k g).cut = s.cut := rfl
@[simp] theorem updCutUnit_cutNo (k : Nat) (g : CutUnit → CutUnit) : (s.updCutUnit k g).cutNo = s.cutNo := rfl
@[simp] theorem updCutUnit_cutDue (k : Nat) (g : CutUnit → CutUnit) : (s.updCutUnit k g).cutDue = s.cutDue := rfl
@[simp] theorem updCutUnit_chans (k : Nat) (g : CutUnit → CutUnit) : (s.updCutUnit k g).chans = s.chans := rfl
@[simp] theorem updCutUnit_stop (k : Nat) (g : CutUnit → CutUnit) : (s.updCutUnit k g).stop = s.stop := rfl
@[simp] theorem updCutUnit_voids (k : Nat) (g : CutUnit → CutUnit) : (s.updCutUnit k g).voids = s.voids := rfl
@[simp] theorem updCutUnit_bins (k : Nat) (g : CutUnit → CutUnit) : (s.updCutUnit k g).bins = s.bins := rfl
@[simp] theorem updCutUnit_bank (k : Nat) (g : CutUnit → CutUnit) : (s.updCutUnit k g).bank = s.bank := rfl
@[simp] theorem updCutUnit_segs (k : Nat) (g : CutUnit → CutUnit) : (s.updCutUnit k g).segs = s.segs := rfl
@[simp] theorem updCutUnit_attic (k : Nat) (g : CutUnit → CutUnit) : (s.updCutUnit k g).attic = s.attic := rfl
@[simp] theorem updCutUnit_mem (k : Nat) (g : CutUnit → CutUnit) : (s.updCutUnit k g).mem = s.mem := rfl
@[simp] theorem updCutUnit_variant (k : Nat) (g : CutUnit → CutUnit) : (s.updCutUnit k g).variant = s.variant := rfl
@[simp] theorem updCutUnit_mbx (k : Nat) (g : CutUnit → CutUnit) : (s.updCutUnit k g).mbx = s.mbx := rfl
@[simp] theorem updCutUnit_twk (k : Nat) (g : CutUnit → CutUnit) : (s.updCutUnit k g).twk = s.twk := rfl
@[simp] theorem updCutUnit_mgt (k : Nat) (g : CutUnit → CutUnit) : (s.updCutUnit k g).mgt = s.mgt := rfl
@[simp] theorem updCutUnit_dbg (k : Nat) (g : CutUnit → CutUnit) : (s.updCutUnit k g).dbg = s.dbg := rfl
@[simp] theorem updCutUnit_cels (k : Nat) (g : CutUnit → CutUnit) : (s.updCutUnit k g).cels = s.cels := rfl
@[simp] theorem updCutUnit_reloads (k : Nat) (g : CutUnit → CutUnit) : (s.updCutUnit k g).reloads = s.reloads := rfl
@[simp] theorem updCutUnit_chanMap (k : Nat) (g : CutUnit → CutUnit) : (s.updCutUnit k g).chanMap = s.chanMap := rfl
@[simp] theorem updCutUnit_descCopy (k : Nat) (g : CutUnit → CutUnit) : (s.updCutUnit k g).descCopy = s.descCopy := rfl
@[simp] theorem updCutUnit_seeds (k : Nat) (g : CutUnit → CutUnit) : (s.updCutUnit k g).seeds = s.seeds := rfl
@[simp] theorem updCutUnit_idleKills (k : Nat) (g : CutUnit → CutUnit) : (s.updCutUnit k g).idleKills = s.idleKills := rfl
@[simp] theorem updCutUnit_prv (k : Nat) (g : CutUnit → CutUnit) : (s.updCutUnit k g).prv = s.prv := rfl
@[simp] theorem updCutUnit_pairs (k : Nat) (g : CutUnit → CutUnit) : (s.updCutUnit k g).pairs = s.pairs := rfl
@[simp] theorem updCutUnit_steepFirst (k : Nat) (g : CutUnit → CutUnit) : (s.updCutUnit k g).steepFirst = s.steepFirst := rfl
@[simp] theorem updCutUnit_stp (k : Nat) (g : CutUnit → CutUnit) : (s.updCutUnit k g).stp = s.stp := rfl
@[simp] theorem updCutUnit_engs (k : Nat) (g : CutUnit → CutUnit) : (s.updCutUnit k g).engs = s.engs := rfl
@[simp] theorem updCutUnit_plan (k : Nat) (g : CutUnit → CutUnit) : (s.updCutUnit k g).plan = s.plan := rfl
@[simp] theorem updCutUnit_grist (k : Nat) (g : CutUnit → CutUnit) : (s.updCutUnit k g).grist = s.grist := rfl
@[simp] theorem updCutUnit_ana (k : Nat) (g : CutUnit → CutUnit) : (s.updCutUnit k g).ana = s.ana := rfl
@[simp] theorem updCutUnit_dl (k : Nat) (g : CutUnit → CutUnit) : (s.updCutUnit k g).dl = s.dl := rfl
@[simp] theorem updCutUnit_fw (k : Nat) (g : CutUnit → CutUnit) : (s.updCutUnit k g).fw = s.fw := rfl
@[simp] theorem updCutUnit_sens (k : Nat) (g : CutUnit → CutUnit) : (s.updCutUnit k g).sens = s.sens := rfl
@[simp] theorem updCutUnit_thm (k : Nat) (g : CutUnit → CutUnit) : (s.updCutUnit k g).thm = s.thm := rfl
@[simp] theorem updCutUnit_emerg (k : Nat) (g : CutUnit → CutUnit) : (s.updCutUnit k g).emerg = s.emerg := rfl
@[simp] theorem updCutUnit_pad (k : Nat) (g : CutUnit → CutUnit) : (s.updCutUnit k g).pad = s.pad := rfl
@[simp] theorem updCutUnit_resetsDue (k : Nat) (g : CutUnit → CutUnit) : (s.updCutUnit k g).resetsDue = s.resetsDue := rfl
@[simp] theorem updCutUnit_latch (k : Nat) (g : CutUnit → CutUnit) : (s.updCutUnit k g).latch = s.latch := rfl
@[simp] theorem updCutUnit_tree (k : Nat) (g : CutUnit → CutUnit) : (s.updCutUnit k g).tree = s.tree := rfl
@[simp] theorem updCutUnit_refLost (k : Nat) (g : CutUnit → CutUnit) : (s.updCutUnit k g).refLost = s.refLost := rfl
@[simp] theorem updCutUnit_histFlash (k : Nat) (g : CutUnit → CutUnit) : (s.updCutUnit k g).histFlash = s.histFlash := rfl
@[simp] theorem updCutUnit_tickAt (k : Nat) (g : CutUnit → CutUnit) : (s.updCutUnit k g).tickAt = s.tickAt := rfl
@[simp] theorem updCutUnit_passSeen (k : Nat) (g : CutUnit → CutUnit) : (s.updCutUnit k g).passSeen = s.passSeen := rfl

/-! The entries of `chans`. -/
@[simp] theorem chan_updChan_same (k : Nat) (g : ChanRec → ChanRec) : (s.updChan k g).chan k = g (s.chan k) := Tab.get_upd_same _ _ _ _
theorem chan_updChan_other {k j : Nat} (h : j ≠ k) (g : ChanRec → ChanRec) : (s.updChan k g).chan j = s.chan j := Tab.get_upd_other _ _ h _
theorem chan_congr {t : State} (h : t.chans = s.chans) (k : Nat) : t.chan k = s.chan k := by unfold State.chan; rw [h]
@[simp] theorem updChan_pending (k : Nat) (g : ChanRec → ChanRec) : (s.updChan k g).pending = s.pending := rfl
@[simp] theorem updChan_wall (k : Nat) (g : ChanRec → ChanRec) : (s.updChan k g).wall = s.wall := rfl
@[simp] theorem updChan_fresh (k : Nat) (g : ChanRec → ChanRec) : (s.updChan k g).fresh = s.fresh := rfl
@[simp] theorem updChan_regs (k : Nat) (g : ChanRec → ChanRec) : (s.updChan k g).regs = s.regs := rfl
@[simp] theorem updChan_ecnt (k : Nat) (g : ChanRec → ChanRec) : (s.updChan k g).ecnt = s.ecnt := rfl
@[simp] theorem updChan_rcnt (k : Nat) (g : ChanRec → ChanRec) : (s.updChan k g).rcnt = s.rcnt := rfl
@[simp] theorem updChan_fill (k : Nat) (g : ChanRec → ChanRec) : (s.updChan k g).fill = s.fill := rfl
@[simp] theorem updChan_shown (k : Nat) (g : ChanRec → ChanRec) : (s.updChan k g).shown = s.shown := rfl
@[simp] theorem updChan_units (k : Nat) (g : ChanRec → ChanRec) : (s.updChan k g).units = s.units := rfl
@[simp] theorem updChan_transit (k : Nat) (g : ChanRec → ChanRec) : (s.updChan k g).transit = s.transit := rfl
@[simp] theorem updChan_marks (k : Nat) (g : ChanRec → ChanRec) : (s.updChan k g).marks = s.marks := rfl
@[simp] theorem updChan_sent (k : Nat) (g : ChanRec → ChanRec) : (s.updChan k g).sent = s.sent := rfl
@[simp] theorem updChan_routers (k : Nat) (g : ChanRec → ChanRec) : (s.updChan k g).routers = s.routers := rfl
@[simp] theorem updChan_hops (k : Nat) (g : ChanRec → ChanRec) : (s.updChan k g).hops = s.hops := rfl
@[simp] theorem updChan_tablesDue (k : Nat) (g : ChanRec → ChanRec) : (s.updChan k g).tablesDue = s.tablesDue := rfl
@[simp] theorem updChan_cutoff (k : Nat) (g : ChanRec → ChanRec) : (s.updChan k g).cutoff = s.cutoff := rfl
@[simp] theorem updChan_delays (k : Nat) (g : ChanRec → ChanRec) : (s.updChan k g).delays = s.delays := rfl
@[simp] theorem updChan_clocks (k : Nat) (g : ChanRec → ChanRec) : (s.updChan k g).clocks = s.clocks := rfl
@[simp] theorem updChan_pair (k : Nat) (g : ChanRec → ChanRec) : (s.updChan k g).pair = s.pair := rfl
@[simp] theorem updChan_gates (k : Nat) (g : ChanRec → ChanRec) : (s.updChan k g).gates = s.gates := rfl
@[simp] theorem updChan_doors (k : Nat) (g : ChanRec → ChanRec) : (s.updChan k g).doors = s.doors := rfl
@[simp] theorem updChan_streams (k : Nat) (g : ChanRec → ChanRec) : (s.updChan k g).streams = s.streams := rfl
@[simp] theorem updChan_wins (k : Nat) (g : ChanRec → ChanRec) : (s.updChan k g).wins = s.wins := rfl
@[simp] theorem updChan_winAlive (k : Nat) (g : ChanRec → ChanRec) : (s.updChan k g).winAlive = s.winAlive := rfl
@[simp] theorem updChan_scans (k : Nat) (g : ChanRec → ChanRec) : (s.updChan k g).scans = s.scans := rfl
@[simp] theorem updChan_taps (k : Nat) (g : ChanRec → ChanRec) : (s.updChan k g).taps = s.taps := rfl
@[simp] theorem updChan_cores (k : Nat) (g : ChanRec → ChanRec) : (s.updChan k g).cores = s.cores := rfl
@[simp] theorem updChan_ports (k : Nat) (g : ChanRec → ChanRec) : (s.updChan k g).ports = s.ports := rfl
@[simp] theorem updChan_adj (k : Nat) (g : ChanRec → ChanRec) : (s.updChan k g).adj = s.adj := rfl
@[simp] theorem updChan_rpl (k : Nat) (g : ChanRec → ChanRec) : (s.updChan k g).rpl = s.rpl := rfl
@[simp] theorem updChan_steps (k : Nat) (g : ChanRec → ChanRec) : (s.updChan k g).steps = s.steps := rfl
@[simp] theorem updChan_verdicts (k : Nat) (g : ChanRec → ChanRec) : (s.updChan k g).verdicts = s.verdicts := rfl
@[simp] theorem updChan_replays (k : Nat) (g : ChanRec → ChanRec) : (s.updChan k g).replays = s.replays := rfl
@[simp] theorem updChan_setsOpened (k : Nat) (g : ChanRec → ChanRec) : (s.updChan k g).setsOpened = s.setsOpened := rfl
@[simp] theorem updChan_ctxs (k : Nat) (g : ChanRec → ChanRec) : (s.updChan k g).ctxs = s.ctxs := rfl
@[simp] theorem updChan_hist (k : Nat) (g : ChanRec → ChanRec) : (s.updChan k g).hist = s.hist := rfl
@[simp] theorem updChan_histStaged (k : Nat) (g : ChanRec → ChanRec) : (s.updChan k g).histStaged = s.histStaged := rfl
@[simp] theorem updChan_histLatch (k : Nat) (g : ChanRec → ChanRec) : (s.updChan k g).histLatch = s.histLatch := rfl
@[simp] theorem updChan_drainSince (k : Nat) (g : ChanRec → ChanRec) : (s.updChan k g).drainSince = s.drainSince := rfl
@[simp] theorem updChan_halls (k : Nat) (g : ChanRec → ChanRec) : (s.updChan k g).halls = s.halls := rfl
@[simp] theorem updChan_resets (k : Nat) (g : ChanRec → ChanRec) : (s.updChan k g).resets = s.resets := rfl
@[simp] theorem updChan_hangs (k : Nat) (g : ChanRec → ChanRec) : (s.updChan k g).hangs = s.hangs := rfl
@[simp] theorem updChan_cut (k : Nat) (g : ChanRec → ChanRec) : (s.updChan k g).cut = s.cut := rfl
@[simp] theorem updChan_cutNo (k : Nat) (g : ChanRec → ChanRec) : (s.updChan k g).cutNo = s.cutNo := rfl
@[simp] theorem updChan_cutDue (k : Nat) (g : ChanRec → ChanRec) : (s.updChan k g).cutDue = s.cutDue := rfl
@[simp] theorem updChan_cutUnits (k : Nat) (g : ChanRec → ChanRec) : (s.updChan k g).cutUnits = s.cutUnits := rfl
@[simp] theorem updChan_stop (k : Nat) (g : ChanRec → ChanRec) : (s.updChan k g).stop = s.stop := rfl
@[simp] theorem updChan_voids (k : Nat) (g : ChanRec → ChanRec) : (s.updChan k g).voids = s.voids := rfl
@[simp] theorem updChan_bins (k : Nat) (g : ChanRec → ChanRec) : (s.updChan k g).bins = s.bins := rfl
@[simp] theorem updChan_bank (k : Nat) (g : ChanRec → ChanRec) : (s.updChan k g).bank = s.bank := rfl
@[simp] theorem updChan_segs (k : Nat) (g : ChanRec → ChanRec) : (s.updChan k g).segs = s.segs := rfl
@[simp] theorem updChan_attic (k : Nat) (g : ChanRec → ChanRec) : (s.updChan k g).attic = s.attic := rfl
@[simp] theorem updChan_mem (k : Nat) (g : ChanRec → ChanRec) : (s.updChan k g).mem = s.mem := rfl
@[simp] theorem updChan_variant (k : Nat) (g : ChanRec → ChanRec) : (s.updChan k g).variant = s.variant := rfl
@[simp] theorem updChan_mbx (k : Nat) (g : ChanRec → ChanRec) : (s.updChan k g).mbx = s.mbx := rfl
@[simp] theorem updChan_twk (k : Nat) (g : ChanRec → ChanRec) : (s.updChan k g).twk = s.twk := rfl
@[simp] theorem updChan_mgt (k : Nat) (g : ChanRec → ChanRec) : (s.updChan k g).mgt = s.mgt := rfl
@[simp] theorem updChan_dbg (k : Nat) (g : ChanRec → ChanRec) : (s.updChan k g).dbg = s.dbg := rfl
@[simp] theorem updChan_cels (k : Nat) (g : ChanRec → ChanRec) : (s.updChan k g).cels = s.cels := rfl
@[simp] theorem updChan_reloads (k : Nat) (g : ChanRec → ChanRec) : (s.updChan k g).reloads = s.reloads := rfl
@[simp] theorem updChan_chanMap (k : Nat) (g : ChanRec → ChanRec) : (s.updChan k g).chanMap = s.chanMap := rfl
@[simp] theorem updChan_descCopy (k : Nat) (g : ChanRec → ChanRec) : (s.updChan k g).descCopy = s.descCopy := rfl
@[simp] theorem updChan_seeds (k : Nat) (g : ChanRec → ChanRec) : (s.updChan k g).seeds = s.seeds := rfl
@[simp] theorem updChan_idleKills (k : Nat) (g : ChanRec → ChanRec) : (s.updChan k g).idleKills = s.idleKills := rfl
@[simp] theorem updChan_prv (k : Nat) (g : ChanRec → ChanRec) : (s.updChan k g).prv = s.prv := rfl
@[simp] theorem updChan_pairs (k : Nat) (g : ChanRec → ChanRec) : (s.updChan k g).pairs = s.pairs := rfl
@[simp] theorem updChan_steepFirst (k : Nat) (g : ChanRec → ChanRec) : (s.updChan k g).steepFirst = s.steepFirst := rfl
@[simp] theorem updChan_stp (k : Nat) (g : ChanRec → ChanRec) : (s.updChan k g).stp = s.stp := rfl
@[simp] theorem updChan_engs (k : Nat) (g : ChanRec → ChanRec) : (s.updChan k g).engs = s.engs := rfl
@[simp] theorem updChan_plan (k : Nat) (g : ChanRec → ChanRec) : (s.updChan k g).plan = s.plan := rfl
@[simp] theorem updChan_grist (k : Nat) (g : ChanRec → ChanRec) : (s.updChan k g).grist = s.grist := rfl
@[simp] theorem updChan_ana (k : Nat) (g : ChanRec → ChanRec) : (s.updChan k g).ana = s.ana := rfl
@[simp] theorem updChan_dl (k : Nat) (g : ChanRec → ChanRec) : (s.updChan k g).dl = s.dl := rfl
@[simp] theorem updChan_fw (k : Nat) (g : ChanRec → ChanRec) : (s.updChan k g).fw = s.fw := rfl
@[simp] theorem updChan_sens (k : Nat) (g : ChanRec → ChanRec) : (s.updChan k g).sens = s.sens := rfl
@[simp] theorem updChan_thm (k : Nat) (g : ChanRec → ChanRec) : (s.updChan k g).thm = s.thm := rfl
@[simp] theorem updChan_emerg (k : Nat) (g : ChanRec → ChanRec) : (s.updChan k g).emerg = s.emerg := rfl
@[simp] theorem updChan_pad (k : Nat) (g : ChanRec → ChanRec) : (s.updChan k g).pad = s.pad := rfl
@[simp] theorem updChan_resetsDue (k : Nat) (g : ChanRec → ChanRec) : (s.updChan k g).resetsDue = s.resetsDue := rfl
@[simp] theorem updChan_latch (k : Nat) (g : ChanRec → ChanRec) : (s.updChan k g).latch = s.latch := rfl
@[simp] theorem updChan_tree (k : Nat) (g : ChanRec → ChanRec) : (s.updChan k g).tree = s.tree := rfl
@[simp] theorem updChan_refLost (k : Nat) (g : ChanRec → ChanRec) : (s.updChan k g).refLost = s.refLost := rfl
@[simp] theorem updChan_histFlash (k : Nat) (g : ChanRec → ChanRec) : (s.updChan k g).histFlash = s.histFlash := rfl
@[simp] theorem updChan_tickAt (k : Nat) (g : ChanRec → ChanRec) : (s.updChan k g).tickAt = s.tickAt := rfl
@[simp] theorem updChan_passSeen (k : Nat) (g : ChanRec → ChanRec) : (s.updChan k g).passSeen = s.passSeen := rfl

/-! The entries of `bins`. -/
@[simp] theorem bin_updBin_same (k : Nat) (g : BinSt → BinSt) : (s.updBin k g).bin k = g (s.bin k) := Tab.get_upd_same _ _ _ _
theorem bin_updBin_other {k j : Nat} (h : j ≠ k) (g : BinSt → BinSt) : (s.updBin k g).bin j = s.bin j := Tab.get_upd_other _ _ h _
theorem bin_congr {t : State} (h : t.bins = s.bins) (k : Nat) : t.bin k = s.bin k := by unfold State.bin; rw [h]
@[simp] theorem updBin_pending (k : Nat) (g : BinSt → BinSt) : (s.updBin k g).pending = s.pending := rfl
@[simp] theorem updBin_wall (k : Nat) (g : BinSt → BinSt) : (s.updBin k g).wall = s.wall := rfl
@[simp] theorem updBin_fresh (k : Nat) (g : BinSt → BinSt) : (s.updBin k g).fresh = s.fresh := rfl
@[simp] theorem updBin_regs (k : Nat) (g : BinSt → BinSt) : (s.updBin k g).regs = s.regs := rfl
@[simp] theorem updBin_ecnt (k : Nat) (g : BinSt → BinSt) : (s.updBin k g).ecnt = s.ecnt := rfl
@[simp] theorem updBin_rcnt (k : Nat) (g : BinSt → BinSt) : (s.updBin k g).rcnt = s.rcnt := rfl
@[simp] theorem updBin_fill (k : Nat) (g : BinSt → BinSt) : (s.updBin k g).fill = s.fill := rfl
@[simp] theorem updBin_shown (k : Nat) (g : BinSt → BinSt) : (s.updBin k g).shown = s.shown := rfl
@[simp] theorem updBin_units (k : Nat) (g : BinSt → BinSt) : (s.updBin k g).units = s.units := rfl
@[simp] theorem updBin_transit (k : Nat) (g : BinSt → BinSt) : (s.updBin k g).transit = s.transit := rfl
@[simp] theorem updBin_marks (k : Nat) (g : BinSt → BinSt) : (s.updBin k g).marks = s.marks := rfl
@[simp] theorem updBin_sent (k : Nat) (g : BinSt → BinSt) : (s.updBin k g).sent = s.sent := rfl
@[simp] theorem updBin_routers (k : Nat) (g : BinSt → BinSt) : (s.updBin k g).routers = s.routers := rfl
@[simp] theorem updBin_hops (k : Nat) (g : BinSt → BinSt) : (s.updBin k g).hops = s.hops := rfl
@[simp] theorem updBin_tablesDue (k : Nat) (g : BinSt → BinSt) : (s.updBin k g).tablesDue = s.tablesDue := rfl
@[simp] theorem updBin_cutoff (k : Nat) (g : BinSt → BinSt) : (s.updBin k g).cutoff = s.cutoff := rfl
@[simp] theorem updBin_delays (k : Nat) (g : BinSt → BinSt) : (s.updBin k g).delays = s.delays := rfl
@[simp] theorem updBin_clocks (k : Nat) (g : BinSt → BinSt) : (s.updBin k g).clocks = s.clocks := rfl
@[simp] theorem updBin_pair (k : Nat) (g : BinSt → BinSt) : (s.updBin k g).pair = s.pair := rfl
@[simp] theorem updBin_gates (k : Nat) (g : BinSt → BinSt) : (s.updBin k g).gates = s.gates := rfl
@[simp] theorem updBin_doors (k : Nat) (g : BinSt → BinSt) : (s.updBin k g).doors = s.doors := rfl
@[simp] theorem updBin_streams (k : Nat) (g : BinSt → BinSt) : (s.updBin k g).streams = s.streams := rfl
@[simp] theorem updBin_wins (k : Nat) (g : BinSt → BinSt) : (s.updBin k g).wins = s.wins := rfl
@[simp] theorem updBin_winAlive (k : Nat) (g : BinSt → BinSt) : (s.updBin k g).winAlive = s.winAlive := rfl
@[simp] theorem updBin_scans (k : Nat) (g : BinSt → BinSt) : (s.updBin k g).scans = s.scans := rfl
@[simp] theorem updBin_taps (k : Nat) (g : BinSt → BinSt) : (s.updBin k g).taps = s.taps := rfl
@[simp] theorem updBin_cores (k : Nat) (g : BinSt → BinSt) : (s.updBin k g).cores = s.cores := rfl
@[simp] theorem updBin_ports (k : Nat) (g : BinSt → BinSt) : (s.updBin k g).ports = s.ports := rfl
@[simp] theorem updBin_adj (k : Nat) (g : BinSt → BinSt) : (s.updBin k g).adj = s.adj := rfl
@[simp] theorem updBin_rpl (k : Nat) (g : BinSt → BinSt) : (s.updBin k g).rpl = s.rpl := rfl
@[simp] theorem updBin_steps (k : Nat) (g : BinSt → BinSt) : (s.updBin k g).steps = s.steps := rfl
@[simp] theorem updBin_verdicts (k : Nat) (g : BinSt → BinSt) : (s.updBin k g).verdicts = s.verdicts := rfl
@[simp] theorem updBin_replays (k : Nat) (g : BinSt → BinSt) : (s.updBin k g).replays = s.replays := rfl
@[simp] theorem updBin_setsOpened (k : Nat) (g : BinSt → BinSt) : (s.updBin k g).setsOpened = s.setsOpened := rfl
@[simp] theorem updBin_ctxs (k : Nat) (g : BinSt → BinSt) : (s.updBin k g).ctxs = s.ctxs := rfl
@[simp] theorem updBin_hist (k : Nat) (g : BinSt → BinSt) : (s.updBin k g).hist = s.hist := rfl
@[simp] theorem updBin_histStaged (k : Nat) (g : BinSt → BinSt) : (s.updBin k g).histStaged = s.histStaged := rfl
@[simp] theorem updBin_histLatch (k : Nat) (g : BinSt → BinSt) : (s.updBin k g).histLatch = s.histLatch := rfl
@[simp] theorem updBin_drainSince (k : Nat) (g : BinSt → BinSt) : (s.updBin k g).drainSince = s.drainSince := rfl
@[simp] theorem updBin_halls (k : Nat) (g : BinSt → BinSt) : (s.updBin k g).halls = s.halls := rfl
@[simp] theorem updBin_resets (k : Nat) (g : BinSt → BinSt) : (s.updBin k g).resets = s.resets := rfl
@[simp] theorem updBin_hangs (k : Nat) (g : BinSt → BinSt) : (s.updBin k g).hangs = s.hangs := rfl
@[simp] theorem updBin_cut (k : Nat) (g : BinSt → BinSt) : (s.updBin k g).cut = s.cut := rfl
@[simp] theorem updBin_cutNo (k : Nat) (g : BinSt → BinSt) : (s.updBin k g).cutNo = s.cutNo := rfl
@[simp] theorem updBin_cutDue (k : Nat) (g : BinSt → BinSt) : (s.updBin k g).cutDue = s.cutDue := rfl
@[simp] theorem updBin_cutUnits (k : Nat) (g : BinSt → BinSt) : (s.updBin k g).cutUnits = s.cutUnits := rfl
@[simp] theorem updBin_chans (k : Nat) (g : BinSt → BinSt) : (s.updBin k g).chans = s.chans := rfl
@[simp] theorem updBin_stop (k : Nat) (g : BinSt → BinSt) : (s.updBin k g).stop = s.stop := rfl
@[simp] theorem updBin_voids (k : Nat) (g : BinSt → BinSt) : (s.updBin k g).voids = s.voids := rfl
@[simp] theorem updBin_bank (k : Nat) (g : BinSt → BinSt) : (s.updBin k g).bank = s.bank := rfl
@[simp] theorem updBin_segs (k : Nat) (g : BinSt → BinSt) : (s.updBin k g).segs = s.segs := rfl
@[simp] theorem updBin_attic (k : Nat) (g : BinSt → BinSt) : (s.updBin k g).attic = s.attic := rfl
@[simp] theorem updBin_mem (k : Nat) (g : BinSt → BinSt) : (s.updBin k g).mem = s.mem := rfl
@[simp] theorem updBin_variant (k : Nat) (g : BinSt → BinSt) : (s.updBin k g).variant = s.variant := rfl
@[simp] theorem updBin_mbx (k : Nat) (g : BinSt → BinSt) : (s.updBin k g).mbx = s.mbx := rfl
@[simp] theorem updBin_twk (k : Nat) (g : BinSt → BinSt) : (s.updBin k g).twk = s.twk := rfl
@[simp] theorem updBin_mgt (k : Nat) (g : BinSt → BinSt) : (s.updBin k g).mgt = s.mgt := rfl
@[simp] theorem updBin_dbg (k : Nat) (g : BinSt → BinSt) : (s.updBin k g).dbg = s.dbg := rfl
@[simp] theorem updBin_cels (k : Nat) (g : BinSt → BinSt) : (s.updBin k g).cels = s.cels := rfl
@[simp] theorem updBin_reloads (k : Nat) (g : BinSt → BinSt) : (s.updBin k g).reloads = s.reloads := rfl
@[simp] theorem updBin_chanMap (k : Nat) (g : BinSt → BinSt) : (s.updBin k g).chanMap = s.chanMap := rfl
@[simp] theorem updBin_descCopy (k : Nat) (g : BinSt → BinSt) : (s.updBin k g).descCopy = s.descCopy := rfl
@[simp] theorem updBin_seeds (k : Nat) (g : BinSt → BinSt) : (s.updBin k g).seeds = s.seeds := rfl
@[simp] theorem updBin_idleKills (k : Nat) (g : BinSt → BinSt) : (s.updBin k g).idleKills = s.idleKills := rfl
@[simp] theorem updBin_prv (k : Nat) (g : BinSt → BinSt) : (s.updBin k g).prv = s.prv := rfl
@[simp] theorem updBin_pairs (k : Nat) (g : BinSt → BinSt) : (s.updBin k g).pairs = s.pairs := rfl
@[simp] theorem updBin_steepFirst (k : Nat) (g : BinSt → BinSt) : (s.updBin k g).steepFirst = s.steepFirst := rfl
@[simp] theorem updBin_stp (k : Nat) (g : BinSt → BinSt) : (s.updBin k g).stp = s.stp := rfl
@[simp] theorem updBin_engs (k : Nat) (g : BinSt → BinSt) : (s.updBin k g).engs = s.engs := rfl
@[simp] theorem updBin_plan (k : Nat) (g : BinSt → BinSt) : (s.updBin k g).plan = s.plan := rfl
@[simp] theorem updBin_grist (k : Nat) (g : BinSt → BinSt) : (s.updBin k g).grist = s.grist := rfl
@[simp] theorem updBin_ana (k : Nat) (g : BinSt → BinSt) : (s.updBin k g).ana = s.ana := rfl
@[simp] theorem updBin_dl (k : Nat) (g : BinSt → BinSt) : (s.updBin k g).dl = s.dl := rfl
@[simp] theorem updBin_fw (k : Nat) (g : BinSt → BinSt) : (s.updBin k g).fw = s.fw := rfl
@[simp] theorem updBin_sens (k : Nat) (g : BinSt → BinSt) : (s.updBin k g).sens = s.sens := rfl
@[simp] theorem updBin_thm (k : Nat) (g : BinSt → BinSt) : (s.updBin k g).thm = s.thm := rfl
@[simp] theorem updBin_emerg (k : Nat) (g : BinSt → BinSt) : (s.updBin k g).emerg = s.emerg := rfl
@[simp] theorem updBin_pad (k : Nat) (g : BinSt → BinSt) : (s.updBin k g).pad = s.pad := rfl
@[simp] theorem updBin_resetsDue (k : Nat) (g : BinSt → BinSt) : (s.updBin k g).resetsDue = s.resetsDue := rfl
@[simp] theorem updBin_latch (k : Nat) (g : BinSt → BinSt) : (s.updBin k g).latch = s.latch := rfl
@[simp] theorem updBin_tree (k : Nat) (g : BinSt → BinSt) : (s.updBin k g).tree = s.tree := rfl
@[simp] theorem updBin_refLost (k : Nat) (g : BinSt → BinSt) : (s.updBin k g).refLost = s.refLost := rfl
@[simp] theorem updBin_histFlash (k : Nat) (g : BinSt → BinSt) : (s.updBin k g).histFlash = s.histFlash := rfl
@[simp] theorem updBin_tickAt (k : Nat) (g : BinSt → BinSt) : (s.updBin k g).tickAt = s.tickAt := rfl
@[simp] theorem updBin_passSeen (k : Nat) (g : BinSt → BinSt) : (s.updBin k g).passSeen = s.passSeen := rfl

/-! The entries of `bank`. -/
@[simp] theorem bankCfg_updBankCfg_same (k : Nat) (g : BankCfg → BankCfg) : (s.updBankCfg k g).bankCfg k = g (s.bankCfg k) := Tab.get_upd_same _ _ _ _
theorem bankCfg_updBankCfg_other {k j : Nat} (h : j ≠ k) (g : BankCfg → BankCfg) : (s.updBankCfg k g).bankCfg j = s.bankCfg j := Tab.get_upd_other _ _ h _
theorem bankCfg_congr {t : State} (h : t.bank = s.bank) (k : Nat) : t.bankCfg k = s.bankCfg k := by unfold State.bankCfg; rw [h]
@[simp] theorem updBankCfg_pending (k : Nat) (g : BankCfg → BankCfg) : (s.updBankCfg k g).pending = s.pending := rfl
@[simp] theorem updBankCfg_wall (k : Nat) (g : BankCfg → BankCfg) : (s.updBankCfg k g).wall = s.wall := rfl
@[simp] theorem updBankCfg_fresh (k : Nat) (g : BankCfg → BankCfg) : (s.updBankCfg k g).fresh = s.fresh := rfl
@[simp] theorem updBankCfg_regs (k : Nat) (g : BankCfg → BankCfg) : (s.updBankCfg k g).regs = s.regs := rfl
@[simp] theorem updBankCfg_ecnt (k : Nat) (g : BankCfg → BankCfg) : (s.updBankCfg k g).ecnt = s.ecnt := rfl
@[simp] theorem updBankCfg_rcnt (k : Nat) (g : BankCfg → BankCfg) : (s.updBankCfg k g).rcnt = s.rcnt := rfl
@[simp] theorem updBankCfg_fill (k : Nat) (g : BankCfg → BankCfg) : (s.updBankCfg k g).fill = s.fill := rfl
@[simp] theorem updBankCfg_shown (k : Nat) (g : BankCfg → BankCfg) : (s.updBankCfg k g).shown = s.shown := rfl
@[simp] theorem updBankCfg_units (k : Nat) (g : BankCfg → BankCfg) : (s.updBankCfg k g).units = s.units := rfl
@[simp] theorem updBankCfg_transit (k : Nat) (g : BankCfg → BankCfg) : (s.updBankCfg k g).transit = s.transit := rfl
@[simp] theorem updBankCfg_marks (k : Nat) (g : BankCfg → BankCfg) : (s.updBankCfg k g).marks = s.marks := rfl
@[simp] theorem updBankCfg_sent (k : Nat) (g : BankCfg → BankCfg) : (s.updBankCfg k g).sent = s.sent := rfl
@[simp] theorem updBankCfg_routers (k : Nat) (g : BankCfg → BankCfg) : (s.updBankCfg k g).routers = s.routers := rfl
@[simp] theorem updBankCfg_hops (k : Nat) (g : BankCfg → BankCfg) : (s.updBankCfg k g).hops = s.hops := rfl
@[simp] theorem updBankCfg_tablesDue (k : Nat) (g : BankCfg → BankCfg) : (s.updBankCfg k g).tablesDue = s.tablesDue := rfl
@[simp] theorem updBankCfg_cutoff (k : Nat) (g : BankCfg → BankCfg) : (s.updBankCfg k g).cutoff = s.cutoff := rfl
@[simp] theorem updBankCfg_delays (k : Nat) (g : BankCfg → BankCfg) : (s.updBankCfg k g).delays = s.delays := rfl
@[simp] theorem updBankCfg_clocks (k : Nat) (g : BankCfg → BankCfg) : (s.updBankCfg k g).clocks = s.clocks := rfl
@[simp] theorem updBankCfg_pair (k : Nat) (g : BankCfg → BankCfg) : (s.updBankCfg k g).pair = s.pair := rfl
@[simp] theorem updBankCfg_gates (k : Nat) (g : BankCfg → BankCfg) : (s.updBankCfg k g).gates = s.gates := rfl
@[simp] theorem updBankCfg_doors (k : Nat) (g : BankCfg → BankCfg) : (s.updBankCfg k g).doors = s.doors := rfl
@[simp] theorem updBankCfg_streams (k : Nat) (g : BankCfg → BankCfg) : (s.updBankCfg k g).streams = s.streams := rfl
@[simp] theorem updBankCfg_wins (k : Nat) (g : BankCfg → BankCfg) : (s.updBankCfg k g).wins = s.wins := rfl
@[simp] theorem updBankCfg_winAlive (k : Nat) (g : BankCfg → BankCfg) : (s.updBankCfg k g).winAlive = s.winAlive := rfl
@[simp] theorem updBankCfg_scans (k : Nat) (g : BankCfg → BankCfg) : (s.updBankCfg k g).scans = s.scans := rfl
@[simp] theorem updBankCfg_taps (k : Nat) (g : BankCfg → BankCfg) : (s.updBankCfg k g).taps = s.taps := rfl
@[simp] theorem updBankCfg_cores (k : Nat) (g : BankCfg → BankCfg) : (s.updBankCfg k g).cores = s.cores := rfl
@[simp] theorem updBankCfg_ports (k : Nat) (g : BankCfg → BankCfg) : (s.updBankCfg k g).ports = s.ports := rfl
@[simp] theorem updBankCfg_adj (k : Nat) (g : BankCfg → BankCfg) : (s.updBankCfg k g).adj = s.adj := rfl
@[simp] theorem updBankCfg_rpl (k : Nat) (g : BankCfg → BankCfg) : (s.updBankCfg k g).rpl = s.rpl := rfl
@[simp] theorem updBankCfg_steps (k : Nat) (g : BankCfg → BankCfg) : (s.updBankCfg k g).steps = s.steps := rfl
@[simp] theorem updBankCfg_verdicts (k : Nat) (g : BankCfg → BankCfg) : (s.updBankCfg k g).verdicts = s.verdicts := rfl
@[simp] theorem updBankCfg_replays (k : Nat) (g : BankCfg → BankCfg) : (s.updBankCfg k g).replays = s.replays := rfl
@[simp] theorem updBankCfg_setsOpened (k : Nat) (g : BankCfg → BankCfg) : (s.updBankCfg k g).setsOpened = s.setsOpened := rfl
@[simp] theorem updBankCfg_ctxs (k : Nat) (g : BankCfg → BankCfg) : (s.updBankCfg k g).ctxs = s.ctxs := rfl
@[simp] theorem updBankCfg_hist (k : Nat) (g : BankCfg → BankCfg) : (s.updBankCfg k g).hist = s.hist := rfl
@[simp] theorem updBankCfg_histStaged (k : Nat) (g : BankCfg → BankCfg) : (s.updBankCfg k g).histStaged = s.histStaged := rfl
@[simp] theorem updBankCfg_histLatch (k : Nat) (g : BankCfg → BankCfg) : (s.updBankCfg k g).histLatch = s.histLatch := rfl
@[simp] theorem updBankCfg_drainSince (k : Nat) (g : BankCfg → BankCfg) : (s.updBankCfg k g).drainSince = s.drainSince := rfl
@[simp] theorem updBankCfg_halls (k : Nat) (g : BankCfg → BankCfg) : (s.updBankCfg k g).halls = s.halls := rfl
@[simp] theorem updBankCfg_resets (k : Nat) (g : BankCfg → BankCfg) : (s.updBankCfg k g).resets = s.resets := rfl
@[simp] theorem updBankCfg_hangs (k : Nat) (g : BankCfg → BankCfg) : (s.updBankCfg k g).hangs = s.hangs := rfl
@[simp] theorem updBankCfg_cut (k : Nat) (g : BankCfg → BankCfg) : (s.updBankCfg k g).cut = s.cut := rfl
@[simp] theorem updBankCfg_cutNo (k : Nat) (g : BankCfg → BankCfg) : (s.updBankCfg k g).cutNo = s.cutNo := rfl
@[simp] theorem updBankCfg_cutDue (k : Nat) (g : BankCfg → BankCfg) : (s.updBankCfg k g).cutDue = s.cutDue := rfl
@[simp] theorem updBankCfg_cutUnits (k : Nat) (g : BankCfg → BankCfg) : (s.updBankCfg k g).cutUnits = s.cutUnits := rfl
@[simp] theorem updBankCfg_chans (k : Nat) (g : BankCfg → BankCfg) : (s.updBankCfg k g).chans = s.chans := rfl
@[simp] theorem updBankCfg_stop (k : Nat) (g : BankCfg → BankCfg) : (s.updBankCfg k g).stop = s.stop := rfl
@[simp] theorem updBankCfg_voids (k : Nat) (g : BankCfg → BankCfg) : (s.updBankCfg k g).voids = s.voids := rfl
@[simp] theorem updBankCfg_bins (k : Nat) (g : BankCfg → BankCfg) : (s.updBankCfg k g).bins = s.bins := rfl
@[simp] theorem updBankCfg_segs (k : Nat) (g : BankCfg → BankCfg) : (s.updBankCfg k g).segs = s.segs := rfl
@[simp] theorem updBankCfg_attic (k : Nat) (g : BankCfg → BankCfg) : (s.updBankCfg k g).attic = s.attic := rfl
@[simp] theorem updBankCfg_mem (k : Nat) (g : BankCfg → BankCfg) : (s.updBankCfg k g).mem = s.mem := rfl
@[simp] theorem updBankCfg_variant (k : Nat) (g : BankCfg → BankCfg) : (s.updBankCfg k g).variant = s.variant := rfl
@[simp] theorem updBankCfg_mbx (k : Nat) (g : BankCfg → BankCfg) : (s.updBankCfg k g).mbx = s.mbx := rfl
@[simp] theorem updBankCfg_twk (k : Nat) (g : BankCfg → BankCfg) : (s.updBankCfg k g).twk = s.twk := rfl
@[simp] theorem updBankCfg_mgt (k : Nat) (g : BankCfg → BankCfg) : (s.updBankCfg k g).mgt = s.mgt := rfl
@[simp] theorem updBankCfg_dbg (k : Nat) (g : BankCfg → BankCfg) : (s.updBankCfg k g).dbg = s.dbg := rfl
@[simp] theorem updBankCfg_cels (k : Nat) (g : BankCfg → BankCfg) : (s.updBankCfg k g).cels = s.cels := rfl
@[simp] theorem updBankCfg_reloads (k : Nat) (g : BankCfg → BankCfg) : (s.updBankCfg k g).reloads = s.reloads := rfl
@[simp] theorem updBankCfg_chanMap (k : Nat) (g : BankCfg → BankCfg) : (s.updBankCfg k g).chanMap = s.chanMap := rfl
@[simp] theorem updBankCfg_descCopy (k : Nat) (g : BankCfg → BankCfg) : (s.updBankCfg k g).descCopy = s.descCopy := rfl
@[simp] theorem updBankCfg_seeds (k : Nat) (g : BankCfg → BankCfg) : (s.updBankCfg k g).seeds = s.seeds := rfl
@[simp] theorem updBankCfg_idleKills (k : Nat) (g : BankCfg → BankCfg) : (s.updBankCfg k g).idleKills = s.idleKills := rfl
@[simp] theorem updBankCfg_prv (k : Nat) (g : BankCfg → BankCfg) : (s.updBankCfg k g).prv = s.prv := rfl
@[simp] theorem updBankCfg_pairs (k : Nat) (g : BankCfg → BankCfg) : (s.updBankCfg k g).pairs = s.pairs := rfl
@[simp] theorem updBankCfg_steepFirst (k : Nat) (g : BankCfg → BankCfg) : (s.updBankCfg k g).steepFirst = s.steepFirst := rfl
@[simp] theorem updBankCfg_stp (k : Nat) (g : BankCfg → BankCfg) : (s.updBankCfg k g).stp = s.stp := rfl
@[simp] theorem updBankCfg_engs (k : Nat) (g : BankCfg → BankCfg) : (s.updBankCfg k g).engs = s.engs := rfl
@[simp] theorem updBankCfg_plan (k : Nat) (g : BankCfg → BankCfg) : (s.updBankCfg k g).plan = s.plan := rfl
@[simp] theorem updBankCfg_grist (k : Nat) (g : BankCfg → BankCfg) : (s.updBankCfg k g).grist = s.grist := rfl
@[simp] theorem updBankCfg_ana (k : Nat) (g : BankCfg → BankCfg) : (s.updBankCfg k g).ana = s.ana := rfl
@[simp] theorem updBankCfg_dl (k : Nat) (g : BankCfg → BankCfg) : (s.updBankCfg k g).dl = s.dl := rfl
@[simp] theorem updBankCfg_fw (k : Nat) (g : BankCfg → BankCfg) : (s.updBankCfg k g).fw = s.fw := rfl
@[simp] theorem updBankCfg_sens (k : Nat) (g : BankCfg → BankCfg) : (s.updBankCfg k g).sens = s.sens := rfl
@[simp] theorem updBankCfg_thm (k : Nat) (g : BankCfg → BankCfg) : (s.updBankCfg k g).thm = s.thm := rfl
@[simp] theorem updBankCfg_emerg (k : Nat) (g : BankCfg → BankCfg) : (s.updBankCfg k g).emerg = s.emerg := rfl
@[simp] theorem updBankCfg_pad (k : Nat) (g : BankCfg → BankCfg) : (s.updBankCfg k g).pad = s.pad := rfl
@[simp] theorem updBankCfg_resetsDue (k : Nat) (g : BankCfg → BankCfg) : (s.updBankCfg k g).resetsDue = s.resetsDue := rfl
@[simp] theorem updBankCfg_latch (k : Nat) (g : BankCfg → BankCfg) : (s.updBankCfg k g).latch = s.latch := rfl
@[simp] theorem updBankCfg_tree (k : Nat) (g : BankCfg → BankCfg) : (s.updBankCfg k g).tree = s.tree := rfl
@[simp] theorem updBankCfg_refLost (k : Nat) (g : BankCfg → BankCfg) : (s.updBankCfg k g).refLost = s.refLost := rfl
@[simp] theorem updBankCfg_histFlash (k : Nat) (g : BankCfg → BankCfg) : (s.updBankCfg k g).histFlash = s.histFlash := rfl
@[simp] theorem updBankCfg_tickAt (k : Nat) (g : BankCfg → BankCfg) : (s.updBankCfg k g).tickAt = s.tickAt := rfl
@[simp] theorem updBankCfg_passSeen (k : Nat) (g : BankCfg → BankCfg) : (s.updBankCfg k g).passSeen = s.passSeen := rfl

/-! The entries of `segs`. -/
@[simp] theorem seg_updSeg_same (k : Nat) (g : SegSt → SegSt) : (s.updSeg k g).seg k = g (s.seg k) := Tab.get_upd_same _ _ _ _
theorem seg_updSeg_other {k j : Nat} (h : j ≠ k) (g : SegSt → SegSt) : (s.updSeg k g).seg j = s.seg j := Tab.get_upd_other _ _ h _
theorem seg_congr {t : State} (h : t.segs = s.segs) (k : Nat) : t.seg k = s.seg k := by unfold State.seg; rw [h]
@[simp] theorem updSeg_pending (k : Nat) (g : SegSt → SegSt) : (s.updSeg k g).pending = s.pending := rfl
@[simp] theorem updSeg_wall (k : Nat) (g : SegSt → SegSt) : (s.updSeg k g).wall = s.wall := rfl
@[simp] theorem updSeg_fresh (k : Nat) (g : SegSt → SegSt) : (s.updSeg k g).fresh = s.fresh := rfl
@[simp] theorem updSeg_regs (k : Nat) (g : SegSt → SegSt) : (s.updSeg k g).regs = s.regs := rfl
@[simp] theorem updSeg_ecnt (k : Nat) (g : SegSt → SegSt) : (s.updSeg k g).ecnt = s.ecnt := rfl
@[simp] theorem updSeg_rcnt (k : Nat) (g : SegSt → SegSt) : (s.updSeg k g).rcnt = s.rcnt := rfl
@[simp] theorem updSeg_fill (k : Nat) (g : SegSt → SegSt) : (s.updSeg k g).fill = s.fill := rfl
@[simp] theorem updSeg_shown (k : Nat) (g : SegSt → SegSt) : (s.updSeg k g).shown = s.shown := rfl
@[simp] theorem updSeg_units (k : Nat) (g : SegSt → SegSt) : (s.updSeg k g).units = s.units := rfl
@[simp] theorem updSeg_transit (k : Nat) (g : SegSt → SegSt) : (s.updSeg k g).transit = s.transit := rfl
@[simp] theorem updSeg_marks (k : Nat) (g : SegSt → SegSt) : (s.updSeg k g).marks = s.marks := rfl
@[simp] theorem updSeg_sent (k : Nat) (g : SegSt → SegSt) : (s.updSeg k g).sent = s.sent := rfl
@[simp] theorem updSeg_routers (k : Nat) (g : SegSt → SegSt) : (s.updSeg k g).routers = s.routers := rfl
@[simp] theorem updSeg_hops (k : Nat) (g : SegSt → SegSt) : (s.updSeg k g).hops = s.hops := rfl
@[simp] theorem updSeg_tablesDue (k : Nat) (g : SegSt → SegSt) : (s.updSeg k g).tablesDue = s.tablesDue := rfl
@[simp] theorem updSeg_cutoff (k : Nat) (g : SegSt → SegSt) : (s.updSeg k g).cutoff = s.cutoff := rfl
@[simp] theorem updSeg_delays (k : Nat) (g : SegSt → SegSt) : (s.updSeg k g).delays = s.delays := rfl
@[simp] theorem updSeg_clocks (k : Nat) (g : SegSt → SegSt) : (s.updSeg k g).clocks = s.clocks := rfl
@[simp] theorem updSeg_pair (k : Nat) (g : SegSt → SegSt) : (s.updSeg k g).pair = s.pair := rfl
@[simp] theorem updSeg_gates (k : Nat) (g : SegSt → SegSt) : (s.updSeg k g).gates = s.gates := rfl
@[simp] theorem updSeg_doors (k : Nat) (g : SegSt → SegSt) : (s.updSeg k g).doors = s.doors := rfl
@[simp] theorem updSeg_streams (k : Nat) (g : SegSt → SegSt) : (s.updSeg k g).streams = s.streams := rfl
@[simp] theorem updSeg_wins (k : Nat) (g : SegSt → SegSt) : (s.updSeg k g).wins = s.wins := rfl
@[simp] theorem updSeg_winAlive (k : Nat) (g : SegSt → SegSt) : (s.updSeg k g).winAlive = s.winAlive := rfl
@[simp] theorem updSeg_scans (k : Nat) (g : SegSt → SegSt) : (s.updSeg k g).scans = s.scans := rfl
@[simp] theorem updSeg_taps (k : Nat) (g : SegSt → SegSt) : (s.updSeg k g).taps = s.taps := rfl
@[simp] theorem updSeg_cores (k : Nat) (g : SegSt → SegSt) : (s.updSeg k g).cores = s.cores := rfl
@[simp] theorem updSeg_ports (k : Nat) (g : SegSt → SegSt) : (s.updSeg k g).ports = s.ports := rfl
@[simp] theorem updSeg_adj (k : Nat) (g : SegSt → SegSt) : (s.updSeg k g).adj = s.adj := rfl
@[simp] theorem updSeg_rpl (k : Nat) (g : SegSt → SegSt) : (s.updSeg k g).rpl = s.rpl := rfl
@[simp] theorem updSeg_steps (k : Nat) (g : SegSt → SegSt) : (s.updSeg k g).steps = s.steps := rfl
@[simp] theorem updSeg_verdicts (k : Nat) (g : SegSt → SegSt) : (s.updSeg k g).verdicts = s.verdicts := rfl
@[simp] theorem updSeg_replays (k : Nat) (g : SegSt → SegSt) : (s.updSeg k g).replays = s.replays := rfl
@[simp] theorem updSeg_setsOpened (k : Nat) (g : SegSt → SegSt) : (s.updSeg k g).setsOpened = s.setsOpened := rfl
@[simp] theorem updSeg_ctxs (k : Nat) (g : SegSt → SegSt) : (s.updSeg k g).ctxs = s.ctxs := rfl
@[simp] theorem updSeg_hist (k : Nat) (g : SegSt → SegSt) : (s.updSeg k g).hist = s.hist := rfl
@[simp] theorem updSeg_histStaged (k : Nat) (g : SegSt → SegSt) : (s.updSeg k g).histStaged = s.histStaged := rfl
@[simp] theorem updSeg_histLatch (k : Nat) (g : SegSt → SegSt) : (s.updSeg k g).histLatch = s.histLatch := rfl
@[simp] theorem updSeg_drainSince (k : Nat) (g : SegSt → SegSt) : (s.updSeg k g).drainSince = s.drainSince := rfl
@[simp] theorem updSeg_halls (k : Nat) (g : SegSt → SegSt) : (s.updSeg k g).halls = s.halls := rfl
@[simp] theorem updSeg_resets (k : Nat) (g : SegSt → SegSt) : (s.updSeg k g).resets = s.resets := rfl
@[simp] theorem updSeg_hangs (k : Nat) (g : SegSt → SegSt) : (s.updSeg k g).hangs = s.hangs := rfl
@[simp] theorem updSeg_cut (k : Nat) (g : SegSt → SegSt) : (s.updSeg k g).cut = s.cut := rfl
@[simp] theorem updSeg_cutNo (k : Nat) (g : SegSt → SegSt) : (s.updSeg k g).cutNo = s.cutNo := rfl
@[simp] theorem updSeg_cutDue (k : Nat) (g : SegSt → SegSt) : (s.updSeg k g).cutDue = s.cutDue := rfl
@[simp] theorem updSeg_cutUnits (k : Nat) (g : SegSt → SegSt) : (s.updSeg k g).cutUnits = s.cutUnits := rfl
@[simp] theorem updSeg_chans (k : Nat) (g : SegSt → SegSt) : (s.updSeg k g).chans = s.chans := rfl
@[simp] theorem updSeg_stop (k : Nat) (g : SegSt → SegSt) : (s.updSeg k g).stop = s.stop := rfl
@[simp] theorem updSeg_voids (k : Nat) (g : SegSt → SegSt) : (s.updSeg k g).voids = s.voids := rfl
@[simp] theorem updSeg_bins (k : Nat) (g : SegSt → SegSt) : (s.updSeg k g).bins = s.bins := rfl
@[simp] theorem updSeg_bank (k : Nat) (g : SegSt → SegSt) : (s.updSeg k g).bank = s.bank := rfl
@[simp] theorem updSeg_attic (k : Nat) (g : SegSt → SegSt) : (s.updSeg k g).attic = s.attic := rfl
@[simp] theorem updSeg_mem (k : Nat) (g : SegSt → SegSt) : (s.updSeg k g).mem = s.mem := rfl
@[simp] theorem updSeg_variant (k : Nat) (g : SegSt → SegSt) : (s.updSeg k g).variant = s.variant := rfl
@[simp] theorem updSeg_mbx (k : Nat) (g : SegSt → SegSt) : (s.updSeg k g).mbx = s.mbx := rfl
@[simp] theorem updSeg_twk (k : Nat) (g : SegSt → SegSt) : (s.updSeg k g).twk = s.twk := rfl
@[simp] theorem updSeg_mgt (k : Nat) (g : SegSt → SegSt) : (s.updSeg k g).mgt = s.mgt := rfl
@[simp] theorem updSeg_dbg (k : Nat) (g : SegSt → SegSt) : (s.updSeg k g).dbg = s.dbg := rfl
@[simp] theorem updSeg_cels (k : Nat) (g : SegSt → SegSt) : (s.updSeg k g).cels = s.cels := rfl
@[simp] theorem updSeg_reloads (k : Nat) (g : SegSt → SegSt) : (s.updSeg k g).reloads = s.reloads := rfl
@[simp] theorem updSeg_chanMap (k : Nat) (g : SegSt → SegSt) : (s.updSeg k g).chanMap = s.chanMap := rfl
@[simp] theorem updSeg_descCopy (k : Nat) (g : SegSt → SegSt) : (s.updSeg k g).descCopy = s.descCopy := rfl
@[simp] theorem updSeg_seeds (k : Nat) (g : SegSt → SegSt) : (s.updSeg k g).seeds = s.seeds := rfl
@[simp] theorem updSeg_idleKills (k : Nat) (g : SegSt → SegSt) : (s.updSeg k g).idleKills = s.idleKills := rfl
@[simp] theorem updSeg_prv (k : Nat) (g : SegSt → SegSt) : (s.updSeg k g).prv = s.prv := rfl
@[simp] theorem updSeg_pairs (k : Nat) (g : SegSt → SegSt) : (s.updSeg k g).pairs = s.pairs := rfl
@[simp] theorem updSeg_steepFirst (k : Nat) (g : SegSt → SegSt) : (s.updSeg k g).steepFirst = s.steepFirst := rfl
@[simp] theorem updSeg_stp (k : Nat) (g : SegSt → SegSt) : (s.updSeg k g).stp = s.stp := rfl
@[simp] theorem updSeg_engs (k : Nat) (g : SegSt → SegSt) : (s.updSeg k g).engs = s.engs := rfl
@[simp] theorem updSeg_plan (k : Nat) (g : SegSt → SegSt) : (s.updSeg k g).plan = s.plan := rfl
@[simp] theorem updSeg_grist (k : Nat) (g : SegSt → SegSt) : (s.updSeg k g).grist = s.grist := rfl
@[simp] theorem updSeg_ana (k : Nat) (g : SegSt → SegSt) : (s.updSeg k g).ana = s.ana := rfl
@[simp] theorem updSeg_dl (k : Nat) (g : SegSt → SegSt) : (s.updSeg k g).dl = s.dl := rfl
@[simp] theorem updSeg_fw (k : Nat) (g : SegSt → SegSt) : (s.updSeg k g).fw = s.fw := rfl
@[simp] theorem updSeg_sens (k : Nat) (g : SegSt → SegSt) : (s.updSeg k g).sens = s.sens := rfl
@[simp] theorem updSeg_thm (k : Nat) (g : SegSt → SegSt) : (s.updSeg k g).thm = s.thm := rfl
@[simp] theorem updSeg_emerg (k : Nat) (g : SegSt → SegSt) : (s.updSeg k g).emerg = s.emerg := rfl
@[simp] theorem updSeg_pad (k : Nat) (g : SegSt → SegSt) : (s.updSeg k g).pad = s.pad := rfl
@[simp] theorem updSeg_resetsDue (k : Nat) (g : SegSt → SegSt) : (s.updSeg k g).resetsDue = s.resetsDue := rfl
@[simp] theorem updSeg_latch (k : Nat) (g : SegSt → SegSt) : (s.updSeg k g).latch = s.latch := rfl
@[simp] theorem updSeg_tree (k : Nat) (g : SegSt → SegSt) : (s.updSeg k g).tree = s.tree := rfl
@[simp] theorem updSeg_refLost (k : Nat) (g : SegSt → SegSt) : (s.updSeg k g).refLost = s.refLost := rfl
@[simp] theorem updSeg_histFlash (k : Nat) (g : SegSt → SegSt) : (s.updSeg k g).histFlash = s.histFlash := rfl
@[simp] theorem updSeg_tickAt (k : Nat) (g : SegSt → SegSt) : (s.updSeg k g).tickAt = s.tickAt := rfl
@[simp] theorem updSeg_passSeen (k : Nat) (g : SegSt → SegSt) : (s.updSeg k g).passSeen = s.passSeen := rfl

/-! The entries of `hist`. -/
@[simp] theorem histOf_updHistOf_same (k : Nat) (g : HistTable → HistTable) : (s.updHistOf k g).histOf k = g (s.histOf k) := Tab.get_upd_same _ _ _ _
theorem histOf_updHistOf_other {k j : Nat} (h : j ≠ k) (g : HistTable → HistTable) : (s.updHistOf k g).histOf j = s.histOf j := Tab.get_upd_other _ _ h _
theorem histOf_congr {t : State} (h : t.hist = s.hist) (k : Nat) : t.histOf k = s.histOf k := by unfold State.histOf; rw [h]
@[simp] theorem updHistOf_pending (k : Nat) (g : HistTable → HistTable) : (s.updHistOf k g).pending = s.pending := rfl
@[simp] theorem updHistOf_wall (k : Nat) (g : HistTable → HistTable) : (s.updHistOf k g).wall = s.wall := rfl
@[simp] theorem updHistOf_fresh (k : Nat) (g : HistTable → HistTable) : (s.updHistOf k g).fresh = s.fresh := rfl
@[simp] theorem updHistOf_regs (k : Nat) (g : HistTable → HistTable) : (s.updHistOf k g).regs = s.regs := rfl
@[simp] theorem updHistOf_ecnt (k : Nat) (g : HistTable → HistTable) : (s.updHistOf k g).ecnt = s.ecnt := rfl
@[simp] theorem updHistOf_rcnt (k : Nat) (g : HistTable → HistTable) : (s.updHistOf k g).rcnt = s.rcnt := rfl
@[simp] theorem updHistOf_fill (k : Nat) (g : HistTable → HistTable) : (s.updHistOf k g).fill = s.fill := rfl
@[simp] theorem updHistOf_shown (k : Nat) (g : HistTable → HistTable) : (s.updHistOf k g).shown = s.shown := rfl
@[simp] theorem updHistOf_units (k : Nat) (g : HistTable → HistTable) : (s.updHistOf k g).units = s.units := rfl
@[simp] theorem updHistOf_transit (k : Nat) (g : HistTable → HistTable) : (s.updHistOf k g).transit = s.transit := rfl
@[simp] theorem updHistOf_marks (k : Nat) (g : HistTable → HistTable) : (s.updHistOf k g).marks = s.marks := rfl
@[simp] theorem updHistOf_sent (k : Nat) (g : HistTable → HistTable) : (s.updHistOf k g).sent = s.sent := rfl
@[simp] theorem updHistOf_routers (k : Nat) (g : HistTable → HistTable) : (s.updHistOf k g).routers = s.routers := rfl
@[simp] theorem updHistOf_hops (k : Nat) (g : HistTable → HistTable) : (s.updHistOf k g).hops = s.hops := rfl
@[simp] theorem updHistOf_tablesDue (k : Nat) (g : HistTable → HistTable) : (s.updHistOf k g).tablesDue = s.tablesDue := rfl
@[simp] theorem updHistOf_cutoff (k : Nat) (g : HistTable → HistTable) : (s.updHistOf k g).cutoff = s.cutoff := rfl
@[simp] theorem updHistOf_delays (k : Nat) (g : HistTable → HistTable) : (s.updHistOf k g).delays = s.delays := rfl
@[simp] theorem updHistOf_clocks (k : Nat) (g : HistTable → HistTable) : (s.updHistOf k g).clocks = s.clocks := rfl
@[simp] theorem updHistOf_pair (k : Nat) (g : HistTable → HistTable) : (s.updHistOf k g).pair = s.pair := rfl
@[simp] theorem updHistOf_gates (k : Nat) (g : HistTable → HistTable) : (s.updHistOf k g).gates = s.gates := rfl
@[simp] theorem updHistOf_doors (k : Nat) (g : HistTable → HistTable) : (s.updHistOf k g).doors = s.doors := rfl
@[simp] theorem updHistOf_streams (k : Nat) (g : HistTable → HistTable) : (s.updHistOf k g).streams = s.streams := rfl
@[simp] theorem updHistOf_wins (k : Nat) (g : HistTable → HistTable) : (s.updHistOf k g).wins = s.wins := rfl
@[simp] theorem updHistOf_winAlive (k : Nat) (g : HistTable → HistTable) : (s.updHistOf k g).winAlive = s.winAlive := rfl
@[simp] theorem updHistOf_scans (k : Nat) (g : HistTable → HistTable) : (s.updHistOf k g).scans = s.scans := rfl
@[simp] theorem updHistOf_taps (k : Nat) (g : HistTable → HistTable) : (s.updHistOf k g).taps = s.taps := rfl
@[simp] theorem updHistOf_cores (k : Nat) (g : HistTable → HistTable) : (s.updHistOf k g).cores = s.cores := rfl
@[simp] theorem updHistOf_ports (k : Nat) (g : HistTable → HistTable) : (s.updHistOf k g).ports = s.ports := rfl
@[simp] theorem updHistOf_adj (k : Nat) (g : HistTable → HistTable) : (s.updHistOf k g).adj = s.adj := rfl
@[simp] theorem updHistOf_rpl (k : Nat) (g : HistTable → HistTable) : (s.updHistOf k g).rpl = s.rpl := rfl
@[simp] theorem updHistOf_steps (k : Nat) (g : HistTable → HistTable) : (s.updHistOf k g).steps = s.steps := rfl
@[simp] theorem updHistOf_verdicts (k : Nat) (g : HistTable → HistTable) : (s.updHistOf k g).verdicts = s.verdicts := rfl
@[simp] theorem updHistOf_replays (k : Nat) (g : HistTable → HistTable) : (s.updHistOf k g).replays = s.replays := rfl
@[simp] theorem updHistOf_setsOpened (k : Nat) (g : HistTable → HistTable) : (s.updHistOf k g).setsOpened = s.setsOpened := rfl
@[simp] theorem updHistOf_ctxs (k : Nat) (g : HistTable → HistTable) : (s.updHistOf k g).ctxs = s.ctxs := rfl
@[simp] theorem updHistOf_histStaged (k : Nat) (g : HistTable → HistTable) : (s.updHistOf k g).histStaged = s.histStaged := rfl
@[simp] theorem updHistOf_histLatch (k : Nat) (g : HistTable → HistTable) : (s.updHistOf k g).histLatch = s.histLatch := rfl
@[simp] theorem updHistOf_drainSince (k : Nat) (g : HistTable → HistTable) : (s.updHistOf k g).drainSince = s.drainSince := rfl
@[simp] theorem updHistOf_halls (k : Nat) (g : HistTable → HistTable) : (s.updHistOf k g).halls = s.halls := rfl
@[simp] theorem updHistOf_resets (k : Nat) (g : HistTable → HistTable) : (s.updHistOf k g).resets = s.resets := rfl
@[simp] theorem updHistOf_hangs (k : Nat) (g : HistTable → HistTable) : (s.updHistOf k g).hangs = s.hangs := rfl
@[simp] theorem updHistOf_cut (k : Nat) (g : HistTable → HistTable) : (s.updHistOf k g).cut = s.cut := rfl
@[simp] theorem updHistOf_cutNo (k : Nat) (g : HistTable → HistTable) : (s.updHistOf k g).cutNo = s.cutNo := rfl
@[simp] theorem updHistOf_cutDue (k : Nat) (g : HistTable → HistTable) : (s.updHistOf k g).cutDue = s.cutDue := rfl
@[simp] theorem updHistOf_cutUnits (k : Nat) (g : HistTable → HistTable) : (s.updHistOf k g).cutUnits = s.cutUnits := rfl
@[simp] theorem updHistOf_chans (k : Nat) (g : HistTable → HistTable) : (s.updHistOf k g).chans = s.chans := rfl
@[simp] theorem updHistOf_stop (k : Nat) (g : HistTable → HistTable) : (s.updHistOf k g).stop = s.stop := rfl
@[simp] theorem updHistOf_voids (k : Nat) (g : HistTable → HistTable) : (s.updHistOf k g).voids = s.voids := rfl
@[simp] theorem updHistOf_bins (k : Nat) (g : HistTable → HistTable) : (s.updHistOf k g).bins = s.bins := rfl
@[simp] theorem updHistOf_bank (k : Nat) (g : HistTable → HistTable) : (s.updHistOf k g).bank = s.bank := rfl
@[simp] theorem updHistOf_segs (k : Nat) (g : HistTable → HistTable) : (s.updHistOf k g).segs = s.segs := rfl
@[simp] theorem updHistOf_attic (k : Nat) (g : HistTable → HistTable) : (s.updHistOf k g).attic = s.attic := rfl
@[simp] theorem updHistOf_mem (k : Nat) (g : HistTable → HistTable) : (s.updHistOf k g).mem = s.mem := rfl
@[simp] theorem updHistOf_variant (k : Nat) (g : HistTable → HistTable) : (s.updHistOf k g).variant = s.variant := rfl
@[simp] theorem updHistOf_mbx (k : Nat) (g : HistTable → HistTable) : (s.updHistOf k g).mbx = s.mbx := rfl
@[simp] theorem updHistOf_twk (k : Nat) (g : HistTable → HistTable) : (s.updHistOf k g).twk = s.twk := rfl
@[simp] theorem updHistOf_mgt (k : Nat) (g : HistTable → HistTable) : (s.updHistOf k g).mgt = s.mgt := rfl
@[simp] theorem updHistOf_dbg (k : Nat) (g : HistTable → HistTable) : (s.updHistOf k g).dbg = s.dbg := rfl
@[simp] theorem updHistOf_cels (k : Nat) (g : HistTable → HistTable) : (s.updHistOf k g).cels = s.cels := rfl
@[simp] theorem updHistOf_reloads (k : Nat) (g : HistTable → HistTable) : (s.updHistOf k g).reloads = s.reloads := rfl
@[simp] theorem updHistOf_chanMap (k : Nat) (g : HistTable → HistTable) : (s.updHistOf k g).chanMap = s.chanMap := rfl
@[simp] theorem updHistOf_descCopy (k : Nat) (g : HistTable → HistTable) : (s.updHistOf k g).descCopy = s.descCopy := rfl
@[simp] theorem updHistOf_seeds (k : Nat) (g : HistTable → HistTable) : (s.updHistOf k g).seeds = s.seeds := rfl
@[simp] theorem updHistOf_idleKills (k : Nat) (g : HistTable → HistTable) : (s.updHistOf k g).idleKills = s.idleKills := rfl
@[simp] theorem updHistOf_prv (k : Nat) (g : HistTable → HistTable) : (s.updHistOf k g).prv = s.prv := rfl
@[simp] theorem updHistOf_pairs (k : Nat) (g : HistTable → HistTable) : (s.updHistOf k g).pairs = s.pairs := rfl
@[simp] theorem updHistOf_steepFirst (k : Nat) (g : HistTable → HistTable) : (s.updHistOf k g).steepFirst = s.steepFirst := rfl
@[simp] theorem updHistOf_stp (k : Nat) (g : HistTable → HistTable) : (s.updHistOf k g).stp = s.stp := rfl
@[simp] theorem updHistOf_engs (k : Nat) (g : HistTable → HistTable) : (s.updHistOf k g).engs = s.engs := rfl
@[simp] theorem updHistOf_plan (k : Nat) (g : HistTable → HistTable) : (s.updHistOf k g).plan = s.plan := rfl
@[simp] theorem updHistOf_grist (k : Nat) (g : HistTable → HistTable) : (s.updHistOf k g).grist = s.grist := rfl
@[simp] theorem updHistOf_ana (k : Nat) (g : HistTable → HistTable) : (s.updHistOf k g).ana = s.ana := rfl
@[simp] theorem updHistOf_dl (k : Nat) (g : HistTable → HistTable) : (s.updHistOf k g).dl = s.dl := rfl
@[simp] theorem updHistOf_fw (k : Nat) (g : HistTable → HistTable) : (s.updHistOf k g).fw = s.fw := rfl
@[simp] theorem updHistOf_sens (k : Nat) (g : HistTable → HistTable) : (s.updHistOf k g).sens = s.sens := rfl
@[simp] theorem updHistOf_thm (k : Nat) (g : HistTable → HistTable) : (s.updHistOf k g).thm = s.thm := rfl
@[simp] theorem updHistOf_emerg (k : Nat) (g : HistTable → HistTable) : (s.updHistOf k g).emerg = s.emerg := rfl
@[simp] theorem updHistOf_pad (k : Nat) (g : HistTable → HistTable) : (s.updHistOf k g).pad = s.pad := rfl
@[simp] theorem updHistOf_resetsDue (k : Nat) (g : HistTable → HistTable) : (s.updHistOf k g).resetsDue = s.resetsDue := rfl
@[simp] theorem updHistOf_latch (k : Nat) (g : HistTable → HistTable) : (s.updHistOf k g).latch = s.latch := rfl
@[simp] theorem updHistOf_tree (k : Nat) (g : HistTable → HistTable) : (s.updHistOf k g).tree = s.tree := rfl
@[simp] theorem updHistOf_refLost (k : Nat) (g : HistTable → HistTable) : (s.updHistOf k g).refLost = s.refLost := rfl
@[simp] theorem updHistOf_histFlash (k : Nat) (g : HistTable → HistTable) : (s.updHistOf k g).histFlash = s.histFlash := rfl
@[simp] theorem updHistOf_tickAt (k : Nat) (g : HistTable → HistTable) : (s.updHistOf k g).tickAt = s.tickAt := rfl
@[simp] theorem updHistOf_passSeen (k : Nat) (g : HistTable → HistTable) : (s.updHistOf k g).passSeen = s.passSeen := rfl

/-! The entries of `cels`. -/
@[simp] theorem cel_updCel_same (k : Nat) (g : CelSt → CelSt) : (s.updCel k g).cel k = g (s.cel k) := Tab.get_upd_same _ _ _ _
theorem cel_updCel_other {k j : Nat} (h : j ≠ k) (g : CelSt → CelSt) : (s.updCel k g).cel j = s.cel j := Tab.get_upd_other _ _ h _
theorem cel_congr {t : State} (h : t.cels = s.cels) (k : Nat) : t.cel k = s.cel k := by unfold State.cel; rw [h]
@[simp] theorem updCel_pending (k : Nat) (g : CelSt → CelSt) : (s.updCel k g).pending = s.pending := rfl
@[simp] theorem updCel_wall (k : Nat) (g : CelSt → CelSt) : (s.updCel k g).wall = s.wall := rfl
@[simp] theorem updCel_fresh (k : Nat) (g : CelSt → CelSt) : (s.updCel k g).fresh = s.fresh := rfl
@[simp] theorem updCel_regs (k : Nat) (g : CelSt → CelSt) : (s.updCel k g).regs = s.regs := rfl
@[simp] theorem updCel_ecnt (k : Nat) (g : CelSt → CelSt) : (s.updCel k g).ecnt = s.ecnt := rfl
@[simp] theorem updCel_rcnt (k : Nat) (g : CelSt → CelSt) : (s.updCel k g).rcnt = s.rcnt := rfl
@[simp] theorem updCel_fill (k : Nat) (g : CelSt → CelSt) : (s.updCel k g).fill = s.fill := rfl
@[simp] theorem updCel_shown (k : Nat) (g : CelSt → CelSt) : (s.updCel k g).shown = s.shown := rfl
@[simp] theorem updCel_units (k : Nat) (g : CelSt → CelSt) : (s.updCel k g).units = s.units := rfl
@[simp] theorem updCel_transit (k : Nat) (g : CelSt → CelSt) : (s.updCel k g).transit = s.transit := rfl
@[simp] theorem updCel_marks (k : Nat) (g : CelSt → CelSt) : (s.updCel k g).marks = s.marks := rfl
@[simp] theorem updCel_sent (k : Nat) (g : CelSt → CelSt) : (s.updCel k g).sent = s.sent := rfl
@[simp] theorem updCel_routers (k : Nat) (g : CelSt → CelSt) : (s.updCel k g).routers = s.routers := rfl
@[simp] theorem updCel_hops (k : Nat) (g : CelSt → CelSt) : (s.updCel k g).hops = s.hops := rfl
@[simp] theorem updCel_tablesDue (k : Nat) (g : CelSt → CelSt) : (s.updCel k g).tablesDue = s.tablesDue := rfl
@[simp] theorem updCel_cutoff (k : Nat) (g : CelSt → CelSt) : (s.updCel k g).cutoff = s.cutoff := rfl
@[simp] theorem updCel_delays (k : Nat) (g : CelSt → CelSt) : (s.updCel k g).delays = s.delays := rfl
@[simp] theorem updCel_clocks (k : Nat) (g : CelSt → CelSt) : (s.updCel k g).clocks = s.clocks := rfl
@[simp] theorem updCel_pair (k : Nat) (g : CelSt → CelSt) : (s.updCel k g).pair = s.pair := rfl
@[simp] theorem updCel_gates (k : Nat) (g : CelSt → CelSt) : (s.updCel k g).gates = s.gates := rfl
@[simp] theorem updCel_doors (k : Nat) (g : CelSt → CelSt) : (s.updCel k g).doors = s.doors := rfl
@[simp] theorem updCel_streams (k : Nat) (g : CelSt → CelSt) : (s.updCel k g).streams = s.streams := rfl
@[simp] theorem updCel_wins (k : Nat) (g : CelSt → CelSt) : (s.updCel k g).wins = s.wins := rfl
@[simp] theorem updCel_winAlive (k : Nat) (g : CelSt → CelSt) : (s.updCel k g).winAlive = s.winAlive := rfl
@[simp] theorem updCel_scans (k : Nat) (g : CelSt → CelSt) : (s.updCel k g).scans = s.scans := rfl
@[simp] theorem updCel_taps (k : Nat) (g : CelSt → CelSt) : (s.updCel k g).taps = s.taps := rfl
@[simp] theorem updCel_cores (k : Nat) (g : CelSt → CelSt) : (s.updCel k g).cores = s.cores := rfl
@[simp] theorem updCel_ports (k : Nat) (g : CelSt → CelSt) : (s.updCel k g).ports = s.ports := rfl
@[simp] theorem updCel_adj (k : Nat) (g : CelSt → CelSt) : (s.updCel k g).adj = s.adj := rfl
@[simp] theorem updCel_rpl (k : Nat) (g : CelSt → CelSt) : (s.updCel k g).rpl = s.rpl := rfl
@[simp] theorem updCel_steps (k : Nat) (g : CelSt → CelSt) : (s.updCel k g).steps = s.steps := rfl
@[simp] theorem updCel_verdicts (k : Nat) (g : CelSt → CelSt) : (s.updCel k g).verdicts = s.verdicts := rfl
@[simp] theorem updCel_replays (k : Nat) (g : CelSt → CelSt) : (s.updCel k g).replays = s.replays := rfl
@[simp] theorem updCel_setsOpened (k : Nat) (g : CelSt → CelSt) : (s.updCel k g).setsOpened = s.setsOpened := rfl
@[simp] theorem updCel_ctxs (k : Nat) (g : CelSt → CelSt) : (s.updCel k g).ctxs = s.ctxs := rfl
@[simp] theorem updCel_hist (k : Nat) (g : CelSt → CelSt) : (s.updCel k g).hist = s.hist := rfl
@[simp] theorem updCel_histStaged (k : Nat) (g : CelSt → CelSt) : (s.updCel k g).histStaged = s.histStaged := rfl
@[simp] theorem updCel_histLatch (k : Nat) (g : CelSt → CelSt) : (s.updCel k g).histLatch = s.histLatch := rfl
@[simp] theorem updCel_drainSince (k : Nat) (g : CelSt → CelSt) : (s.updCel k g).drainSince = s.drainSince := rfl
@[simp] theorem updCel_halls (k : Nat) (g : CelSt → CelSt) : (s.updCel k g).halls = s.halls := rfl
@[simp] theorem updCel_resets (k : Nat) (g : CelSt → CelSt) : (s.updCel k g).resets = s.resets := rfl
@[simp] theorem updCel_hangs (k : Nat) (g : CelSt → CelSt) : (s.updCel k g).hangs = s.hangs := rfl
@[simp] theorem updCel_cut (k : Nat) (g : CelSt → CelSt) : (s.updCel k g).cut = s.cut := rfl
@[simp] theorem updCel_cutNo (k : Nat) (g : CelSt → CelSt) : (s.updCel k g).cutNo = s.cutNo := rfl
@[simp] theorem updCel_cutDue (k : Nat) (g : CelSt → CelSt) : (s.updCel k g).cutDue = s.cutDue := rfl
@[simp] theorem updCel_cutUnits (k : Nat) (g : CelSt → CelSt) : (s.updCel k g).cutUnits = s.cutUnits := rfl
@[simp] theorem updCel_chans (k : Nat) (g : CelSt → CelSt) : (s.updCel k g).chans = s.chans := rfl
@[simp] theorem updCel_stop (k : Nat) (g : CelSt → CelSt) : (s.updCel k g).stop = s.stop := rfl
@[simp] theorem updCel_voids (k : Nat) (g : CelSt → CelSt) : (s.updCel k g).voids = s.voids := rfl
@[simp] theorem updCel_bins (k : Nat) (g : CelSt → CelSt) : (s.updCel k g).bins = s.bins := rfl
@[simp] theorem updCel_bank (k : Nat) (g : CelSt → CelSt) : (s.updCel k g).bank = s.bank := rfl
@[simp] theorem updCel_segs (k : Nat) (g : CelSt → CelSt) : (s.updCel k g).segs = s.segs := rfl
@[simp] theorem updCel_attic (k : Nat) (g : CelSt → CelSt) : (s.updCel k g).attic = s.attic := rfl
@[simp] theorem updCel_mem (k : Nat) (g : CelSt → CelSt) : (s.updCel k g).mem = s.mem := rfl
@[simp] theorem updCel_variant (k : Nat) (g : CelSt → CelSt) : (s.updCel k g).variant = s.variant := rfl
@[simp] theorem updCel_mbx (k : Nat) (g : CelSt → CelSt) : (s.updCel k g).mbx = s.mbx := rfl
@[simp] theorem updCel_twk (k : Nat) (g : CelSt → CelSt) : (s.updCel k g).twk = s.twk := rfl
@[simp] theorem updCel_mgt (k : Nat) (g : CelSt → CelSt) : (s.updCel k g).mgt = s.mgt := rfl
@[simp] theorem updCel_dbg (k : Nat) (g : CelSt → CelSt) : (s.updCel k g).dbg = s.dbg := rfl
@[simp] theorem updCel_reloads (k : Nat) (g : CelSt → CelSt) : (s.updCel k g).reloads = s.reloads := rfl
@[simp] theorem updCel_chanMap (k : Nat) (g : CelSt → CelSt) : (s.updCel k g).chanMap = s.chanMap := rfl
@[simp] theorem updCel_descCopy (k : Nat) (g : CelSt → CelSt) : (s.updCel k g).descCopy = s.descCopy := rfl
@[simp] theorem updCel_seeds (k : Nat) (g : CelSt → CelSt) : (s.updCel k g).seeds = s.seeds := rfl
@[simp] theorem updCel_idleKills (k : Nat) (g : CelSt → CelSt) : (s.updCel k g).idleKills = s.idleKills := rfl
@[simp] theorem updCel_prv (k : Nat) (g : CelSt → CelSt) : (s.updCel k g).prv = s.prv := rfl
@[simp] theorem updCel_pairs (k : Nat) (g : CelSt → CelSt) : (s.updCel k g).pairs = s.pairs := rfl
@[simp] theorem updCel_steepFirst (k : Nat) (g : CelSt → CelSt) : (s.updCel k g).steepFirst = s.steepFirst := rfl
@[simp] theorem updCel_stp (k : Nat) (g : CelSt → CelSt) : (s.updCel k g).stp = s.stp := rfl
@[simp] theorem updCel_engs (k : Nat) (g : CelSt → CelSt) : (s.updCel k g).engs = s.engs := rfl
@[simp] theorem updCel_plan (k : Nat) (g : CelSt → CelSt) : (s.updCel k g).plan = s.plan := rfl
@[simp] theorem updCel_grist (k : Nat) (g : CelSt → CelSt) : (s.updCel k g).grist = s.grist := rfl
@[simp] theorem updCel_ana (k : Nat) (g : CelSt → CelSt) : (s.updCel k g).ana = s.ana := rfl
@[simp] theorem updCel_dl (k : Nat) (g : CelSt → CelSt) : (s.updCel k g).dl = s.dl := rfl
@[simp] theorem updCel_fw (k : Nat) (g : CelSt → CelSt) : (s.updCel k g).fw = s.fw := rfl
@[simp] theorem updCel_sens (k : Nat) (g : CelSt → CelSt) : (s.updCel k g).sens = s.sens := rfl
@[simp] theorem updCel_thm (k : Nat) (g : CelSt → CelSt) : (s.updCel k g).thm = s.thm := rfl
@[simp] theorem updCel_emerg (k : Nat) (g : CelSt → CelSt) : (s.updCel k g).emerg = s.emerg := rfl
@[simp] theorem updCel_pad (k : Nat) (g : CelSt → CelSt) : (s.updCel k g).pad = s.pad := rfl
@[simp] theorem updCel_resetsDue (k : Nat) (g : CelSt → CelSt) : (s.updCel k g).resetsDue = s.resetsDue := rfl
@[simp] theorem updCel_latch (k : Nat) (g : CelSt → CelSt) : (s.updCel k g).latch = s.latch := rfl
@[simp] theorem updCel_tree (k : Nat) (g : CelSt → CelSt) : (s.updCel k g).tree = s.tree := rfl
@[simp] theorem updCel_refLost (k : Nat) (g : CelSt → CelSt) : (s.updCel k g).refLost = s.refLost := rfl
@[simp] theorem updCel_histFlash (k : Nat) (g : CelSt → CelSt) : (s.updCel k g).histFlash = s.histFlash := rfl
@[simp] theorem updCel_tickAt (k : Nat) (g : CelSt → CelSt) : (s.updCel k g).tickAt = s.tickAt := rfl
@[simp] theorem updCel_passSeen (k : Nat) (g : CelSt → CelSt) : (s.updCel k g).passSeen = s.passSeen := rfl

/-! The entries of `reloads`. -/
@[simp] theorem reloadOf_updReloadOf_same (k : Nat) (g : List OpenReload → List OpenReload) : (s.updReloadOf k g).reloadOf k = g (s.reloadOf k) := Tab.get_upd_same _ _ _ _
theorem reloadOf_updReloadOf_other {k j : Nat} (h : j ≠ k) (g : List OpenReload → List OpenReload) : (s.updReloadOf k g).reloadOf j = s.reloadOf j := Tab.get_upd_other _ _ h _
theorem reloadOf_congr {t : State} (h : t.reloads = s.reloads) (k : Nat) : t.reloadOf k = s.reloadOf k := by unfold State.reloadOf; rw [h]
@[simp] theorem updReloadOf_pending (k : Nat) (g : List OpenReload → List OpenReload) : (s.updReloadOf k g).pending = s.pending := rfl
@[simp] theorem updReloadOf_wall (k : Nat) (g : List OpenReload → List OpenReload) : (s.updReloadOf k g).wall = s.wall := rfl
@[simp] theorem updReloadOf_fresh (k : Nat) (g : List OpenReload → List OpenReload) : (s.updReloadOf k g).fresh = s.fresh := rfl
@[simp] theorem updReloadOf_regs (k : Nat) (g : List OpenReload → List OpenReload) : (s.updReloadOf k g).regs = s.regs := rfl
@[simp] theorem updReloadOf_ecnt (k : Nat) (g : List OpenReload → List OpenReload) : (s.updReloadOf k g).ecnt = s.ecnt := rfl
@[simp] theorem updReloadOf_rcnt (k : Nat) (g : List OpenReload → List OpenReload) : (s.updReloadOf k g).rcnt = s.rcnt := rfl
@[simp] theorem updReloadOf_fill (k : Nat) (g : List OpenReload → List OpenReload) : (s.updReloadOf k g).fill = s.fill := rfl
@[simp] theorem updReloadOf_shown (k : Nat) (g : List OpenReload → List OpenReload) : (s.updReloadOf k g).shown = s.shown := rfl
@[simp] theorem updReloadOf_units (k : Nat) (g : List OpenReload → List OpenReload) : (s.updReloadOf k g).units = s.units := rfl
@[simp] theorem updReloadOf_transit (k : Nat) (g : List OpenReload → List OpenReload) : (s.updReloadOf k g).transit = s.transit := rfl
@[simp] theorem updReloadOf_marks (k : Nat) (g : List OpenReload → List OpenReload) : (s.updReloadOf k g).marks = s.marks := rfl
@[simp] theorem updReloadOf_sent (k : Nat) (g : List OpenReload → List OpenReload) : (s.updReloadOf k g).sent = s.sent := rfl
@[simp] theorem updReloadOf_routers (k : Nat) (g : List OpenReload → List OpenReload) : (s.updReloadOf k g).routers = s.routers := rfl
@[simp] theorem updReloadOf_hops (k : Nat) (g : List OpenReload → List OpenReload) : (s.updReloadOf k g).hops = s.hops := rfl
@[simp] theorem updReloadOf_tablesDue (k : Nat) (g : List OpenReload → List OpenReload) : (s.updReloadOf k g).tablesDue = s.tablesDue := rfl
@[simp] theorem updReloadOf_cutoff (k : Nat) (g : List OpenReload → List OpenReload) : (s.updReloadOf k g).cutoff = s.cutoff := rfl
@[simp] theorem updReloadOf_delays (k : Nat) (g : List OpenReload → List OpenReload) : (s.updReloadOf k g).delays = s.delays := rfl
@[simp] theorem updReloadOf_clocks (k : Nat) (g : List OpenReload → List OpenReload) : (s.updReloadOf k g).clocks = s.clocks := rfl
@[simp] theorem updReloadOf_pair (k : Nat) (g : List OpenReload → List OpenReload) : (s.updReloadOf k g).pair = s.pair := rfl
@[simp] theorem updReloadOf_gates (k : Nat) (g : List OpenReload → List OpenReload) : (s.updReloadOf k g).gates = s.gates := rfl
@[simp] theorem updReloadOf_doors (k : Nat) (g : List OpenReload → List OpenReload) : (s.updReloadOf k g).doors = s.doors := rfl
@[simp] theorem updReloadOf_streams (k : Nat) (g : List OpenReload → List OpenReload) : (s.updReloadOf k g).streams = s.streams := rfl
@[simp] theorem updReloadOf_wins (k : Nat) (g : List OpenReload → List OpenReload) : (s.updReloadOf k g).wins = s.wins := rfl
@[simp] theorem updReloadOf_winAlive (k : Nat) (g : List OpenReload → List OpenReload) : (s.updReloadOf k g).winAlive = s.winAlive := rfl
@[simp] theorem updReloadOf_scans (k : Nat) (g : List OpenReload → List OpenReload) : (s.updReloadOf k g).scans = s.scans := rfl
@[simp] theorem updReloadOf_taps (k : Nat) (g : List OpenReload → List OpenReload) : (s.updReloadOf k g).taps = s.taps := rfl
@[simp] theorem updReloadOf_cores (k : Nat) (g : List OpenReload → List OpenReload) : (s.updReloadOf k g).cores = s.cores := rfl
@[simp] theorem updReloadOf_ports (k : Nat) (g : List OpenReload → List OpenReload) : (s.updReloadOf k g).ports = s.ports := rfl
@[simp] theorem updReloadOf_adj (k : Nat) (g : List OpenReload → List OpenReload) : (s.updReloadOf k g).adj = s.adj := rfl
@[simp] theorem updReloadOf_rpl (k : Nat) (g : List OpenReload → List OpenReload) : (s.updReloadOf k g).rpl = s.rpl := rfl
@[simp] theorem updReloadOf_steps (k : Nat) (g : List OpenReload → List OpenReload) : (s.updReloadOf k g).steps = s.steps := rfl
@[simp] theorem updReloadOf_verdicts (k : Nat) (g : List OpenReload → List OpenReload) : (s.updReloadOf k g).verdicts = s.verdicts := rfl
@[simp] theorem updReloadOf_replays (k : Nat) (g : List OpenReload → List OpenReload) : (s.updReloadOf k g).replays = s.replays := rfl
@[simp] theorem updReloadOf_setsOpened (k : Nat) (g : List OpenReload → List OpenReload) : (s.updReloadOf k g).setsOpened = s.setsOpened := rfl
@[simp] theorem updReloadOf_ctxs (k : Nat) (g : List OpenReload → List OpenReload) : (s.updReloadOf k g).ctxs = s.ctxs := rfl
@[simp] theorem updReloadOf_hist (k : Nat) (g : List OpenReload → List OpenReload) : (s.updReloadOf k g).hist = s.hist := rfl
@[simp] theorem updReloadOf_histStaged (k : Nat) (g : List OpenReload → List OpenReload) : (s.updReloadOf k g).histStaged = s.histStaged := rfl
@[simp] theorem updReloadOf_histLatch (k : Nat) (g : List OpenReload → List OpenReload) : (s.updReloadOf k g).histLatch = s.histLatch := rfl
@[simp] theorem updReloadOf_drainSince (k : Nat) (g : List OpenReload → List OpenReload) : (s.updReloadOf k g).drainSince = s.drainSince := rfl
@[simp] theorem updReloadOf_halls (k : Nat) (g : List OpenReload → List OpenReload) : (s.updReloadOf k g).halls = s.halls := rfl
@[simp] theorem updReloadOf_resets (k : Nat) (g : List OpenReload → List OpenReload) : (s.updReloadOf k g).resets = s.resets := rfl
@[simp] theorem updReloadOf_hangs (k : Nat) (g : List OpenReload → List OpenReload) : (s.updReloadOf k g).hangs = s.hangs := rfl
@[simp] theorem updReloadOf_cut (k : Nat) (g : List OpenReload → List OpenReload) : (s.updReloadOf k g).cut = s.cut := rfl
@[simp] theorem updReloadOf_cutNo (k : Nat) (g : List OpenReload → List OpenReload) : (s.updReloadOf k g).cutNo = s.cutNo := rfl
@[simp] theorem updReloadOf_cutDue (k : Nat) (g : List OpenReload → List OpenReload) : (s.updReloadOf k g).cutDue = s.cutDue := rfl
@[simp] theorem updReloadOf_cutUnits (k : Nat) (g : List OpenReload → List OpenReload) : (s.updReloadOf k g).cutUnits = s.cutUnits := rfl
@[simp] theorem updReloadOf_chans (k : Nat) (g : List OpenReload → List OpenReload) : (s.updReloadOf k g).chans = s.chans := rfl
@[simp] theorem updReloadOf_stop (k : Nat) (g : List OpenReload → List OpenReload) : (s.updReloadOf k g).stop = s.stop := rfl
@[simp] theorem updReloadOf_voids (k : Nat) (g : List OpenReload → List OpenReload) : (s.updReloadOf k g).voids = s.voids := rfl
@[simp] theorem updReloadOf_bins (k : Nat) (g : List OpenReload → List OpenReload) : (s.updReloadOf k g).bins = s.bins := rfl
@[simp] theorem updReloadOf_bank (k : Nat) (g : List OpenReload → List OpenReload) : (s.updReloadOf k g).bank = s.bank := rfl
@[simp] theorem updReloadOf_segs (k : Nat) (g : List OpenReload → List OpenReload) : (s.updReloadOf k g).segs = s.segs := rfl
@[simp] theorem updReloadOf_attic (k : Nat) (g : List OpenReload → List OpenReload) : (s.updReloadOf k g).attic = s.attic := rfl
@[simp] theorem updReloadOf_mem (k : Nat) (g : List OpenReload → List OpenReload) : (s.updReloadOf k g).mem = s.mem := rfl
@[simp] theorem updReloadOf_variant (k : Nat) (g : List OpenReload → List OpenReload) : (s.updReloadOf k g).variant = s.variant := rfl
@[simp] theorem updReloadOf_mbx (k : Nat) (g : List OpenReload → List OpenReload) : (s.updReloadOf k g).mbx = s.mbx := rfl
@[simp] theorem updReloadOf_twk (k : Nat) (g : List OpenReload → List OpenReload) : (s.updReloadOf k g).twk = s.twk := rfl
@[simp] theorem updReloadOf_mgt (k : Nat) (g : List OpenReload → List OpenReload) : (s.updReloadOf k g).mgt = s.mgt := rfl
@[simp] theorem updReloadOf_dbg (k : Nat) (g : List OpenReload → List OpenReload) : (s.updReloadOf k g).dbg = s.dbg := rfl
@[simp] theorem updReloadOf_cels (k : Nat) (g : List OpenReload → List OpenReload) : (s.updReloadOf k g).cels = s.cels := rfl
@[simp] theorem updReloadOf_chanMap (k : Nat) (g : List OpenReload → List OpenReload) : (s.updReloadOf k g).chanMap = s.chanMap := rfl
@[simp] theorem updReloadOf_descCopy (k : Nat) (g : List OpenReload → List OpenReload) : (s.updReloadOf k g).descCopy = s.descCopy := rfl
@[simp] theorem updReloadOf_seeds (k : Nat) (g : List OpenReload → List OpenReload) : (s.updReloadOf k g).seeds = s.seeds := rfl
@[simp] theorem updReloadOf_idleKills (k : Nat) (g : List OpenReload → List OpenReload) : (s.updReloadOf k g).idleKills = s.idleKills := rfl
@[simp] theorem updReloadOf_prv (k : Nat) (g : List OpenReload → List OpenReload) : (s.updReloadOf k g).prv = s.prv := rfl
@[simp] theorem updReloadOf_pairs (k : Nat) (g : List OpenReload → List OpenReload) : (s.updReloadOf k g).pairs = s.pairs := rfl
@[simp] theorem updReloadOf_steepFirst (k : Nat) (g : List OpenReload → List OpenReload) : (s.updReloadOf k g).steepFirst = s.steepFirst := rfl
@[simp] theorem updReloadOf_stp (k : Nat) (g : List OpenReload → List OpenReload) : (s.updReloadOf k g).stp = s.stp := rfl
@[simp] theorem updReloadOf_engs (k : Nat) (g : List OpenReload → List OpenReload) : (s.updReloadOf k g).engs = s.engs := rfl
@[simp] theorem updReloadOf_plan (k : Nat) (g : List OpenReload → List OpenReload) : (s.updReloadOf k g).plan = s.plan := rfl
@[simp] theorem updReloadOf_grist (k : Nat) (g : List OpenReload → List OpenReload) : (s.updReloadOf k g).grist = s.grist := rfl
@[simp] theorem updReloadOf_ana (k : Nat) (g : List OpenReload → List OpenReload) : (s.updReloadOf k g).ana = s.ana := rfl
@[simp] theorem updReloadOf_dl (k : Nat) (g : List OpenReload → List OpenReload) : (s.updReloadOf k g).dl = s.dl := rfl
@[simp] theorem updReloadOf_fw (k : Nat) (g : List OpenReload → List OpenReload) : (s.updReloadOf k g).fw = s.fw := rfl
@[simp] theorem updReloadOf_sens (k : Nat) (g : List OpenReload → List OpenReload) : (s.updReloadOf k g).sens = s.sens := rfl
@[simp] theorem updReloadOf_thm (k : Nat) (g : List OpenReload → List OpenReload) : (s.updReloadOf k g).thm = s.thm := rfl
@[simp] theorem updReloadOf_emerg (k : Nat) (g : List OpenReload → List OpenReload) : (s.updReloadOf k g).emerg = s.emerg := rfl
@[simp] theorem updReloadOf_pad (k : Nat) (g : List OpenReload → List OpenReload) : (s.updReloadOf k g).pad = s.pad := rfl
@[simp] theorem updReloadOf_resetsDue (k : Nat) (g : List OpenReload → List OpenReload) : (s.updReloadOf k g).resetsDue = s.resetsDue := rfl
@[simp] theorem updReloadOf_latch (k : Nat) (g : List OpenReload → List OpenReload) : (s.updReloadOf k g).latch = s.latch := rfl
@[simp] theorem updReloadOf_tree (k : Nat) (g : List OpenReload → List OpenReload) : (s.updReloadOf k g).tree = s.tree := rfl
@[simp] theorem updReloadOf_refLost (k : Nat) (g : List OpenReload → List OpenReload) : (s.updReloadOf k g).refLost = s.refLost := rfl
@[simp] theorem updReloadOf_histFlash (k : Nat) (g : List OpenReload → List OpenReload) : (s.updReloadOf k g).histFlash = s.histFlash := rfl
@[simp] theorem updReloadOf_tickAt (k : Nat) (g : List OpenReload → List OpenReload) : (s.updReloadOf k g).tickAt = s.tickAt := rfl
@[simp] theorem updReloadOf_passSeen (k : Nat) (g : List OpenReload → List OpenReload) : (s.updReloadOf k g).passSeen = s.passSeen := rfl

/-! The entries of `descCopy`. -/
@[simp] theorem descBytes_updDescBytes_same (k : Nat) (g : List Byte → List Byte) : (s.updDescBytes k g).descBytes k = g (s.descBytes k) := Tab.get_upd_same _ _ _ _
theorem descBytes_updDescBytes_other {k j : Nat} (h : j ≠ k) (g : List Byte → List Byte) : (s.updDescBytes k g).descBytes j = s.descBytes j := Tab.get_upd_other _ _ h _
theorem descBytes_congr {t : State} (h : t.descCopy = s.descCopy) (k : Nat) : t.descBytes k = s.descBytes k := by unfold State.descBytes; rw [h]
@[simp] theorem updDescBytes_pending (k : Nat) (g : List Byte → List Byte) : (s.updDescBytes k g).pending = s.pending := rfl
@[simp] theorem updDescBytes_wall (k : Nat) (g : List Byte → List Byte) : (s.updDescBytes k g).wall = s.wall := rfl
@[simp] theorem updDescBytes_fresh (k : Nat) (g : List Byte → List Byte) : (s.updDescBytes k g).fresh = s.fresh := rfl
@[simp] theorem updDescBytes_regs (k : Nat) (g : List Byte → List Byte) : (s.updDescBytes k g).regs = s.regs := rfl
@[simp] theorem updDescBytes_ecnt (k : Nat) (g : List Byte → List Byte) : (s.updDescBytes k g).ecnt = s.ecnt := rfl
@[simp] theorem updDescBytes_rcnt (k : Nat) (g : List Byte → List Byte) : (s.updDescBytes k g).rcnt = s.rcnt := rfl
@[simp] theorem updDescBytes_fill (k : Nat) (g : List Byte → List Byte) : (s.updDescBytes k g).fill = s.fill := rfl
@[simp] theorem updDescBytes_shown (k : Nat) (g : List Byte → List Byte) : (s.updDescBytes k g).shown = s.shown := rfl
@[simp] theorem updDescBytes_units (k : Nat) (g : List Byte → List Byte) : (s.updDescBytes k g).units = s.units := rfl
@[simp] theorem updDescBytes_transit (k : Nat) (g : List Byte → List Byte) : (s.updDescBytes k g).transit = s.transit := rfl
@[simp] theorem updDescBytes_marks (k : Nat) (g : List Byte → List Byte) : (s.updDescBytes k g).marks = s.marks := rfl
@[simp] theorem updDescBytes_sent (k : Nat) (g : List Byte → List Byte) : (s.updDescBytes k g).sent = s.sent := rfl
@[simp] theorem updDescBytes_routers (k : Nat) (g : List Byte → List Byte) : (s.updDescBytes k g).routers = s.routers := rfl
@[simp] theorem updDescBytes_hops (k : Nat) (g : List Byte → List Byte) : (s.updDescBytes k g).hops = s.hops := rfl
@[simp] theorem updDescBytes_tablesDue (k : Nat) (g : List Byte → List Byte) : (s.updDescBytes k g).tablesDue = s.tablesDue := rfl
@[simp] theorem updDescBytes_cutoff (k : Nat) (g : List Byte → List Byte) : (s.updDescBytes k g).cutoff = s.cutoff := rfl
@[simp] theorem updDescBytes_delays (k : Nat) (g : List Byte → List Byte) : (s.updDescBytes k g).delays = s.delays := rfl
@[simp] theorem updDescBytes_clocks (k : Nat) (g : List Byte → List Byte) : (s.updDescBytes k g).clocks = s.clocks := rfl
@[simp] theorem updDescBytes_pair (k : Nat) (g : List Byte → List Byte) : (s.updDescBytes k g).pair = s.pair := rfl
@[simp] theorem updDescBytes_gates (k : Nat) (g : List Byte → List Byte) : (s.updDescBytes k g).gates = s.gates := rfl
@[simp] theorem updDescBytes_doors (k : Nat) (g : List Byte → List Byte) : (s.updDescBytes k g).doors = s.doors := rfl
@[simp] theorem updDescBytes_streams (k : Nat) (g : List Byte → List Byte) : (s.updDescBytes k g).streams = s.streams := rfl
@[simp] theorem updDescBytes_wins (k : Nat) (g : List Byte → List Byte) : (s.updDescBytes k g).wins = s.wins := rfl
@[simp] theorem updDescBytes_winAlive (k : Nat) (g : List Byte → List Byte) : (s.updDescBytes k g).winAlive = s.winAlive := rfl
@[simp] theorem updDescBytes_scans (k : Nat) (g : List Byte → List Byte) : (s.updDescBytes k g).scans = s.scans := rfl
@[simp] theorem updDescBytes_taps (k : Nat) (g : List Byte → List Byte) : (s.updDescBytes k g).taps = s.taps := rfl
@[simp] theorem updDescBytes_cores (k : Nat) (g : List Byte → List Byte) : (s.updDescBytes k g).cores = s.cores := rfl
@[simp] theorem updDescBytes_ports (k : Nat) (g : List Byte → List Byte) : (s.updDescBytes k g).ports = s.ports := rfl
@[simp] theorem updDescBytes_adj (k : Nat) (g : List Byte → List Byte) : (s.updDescBytes k g).adj = s.adj := rfl
@[simp] theorem updDescBytes_rpl (k : Nat) (g : List Byte → List Byte) : (s.updDescBytes k g).rpl = s.rpl := rfl
@[simp] theorem updDescBytes_steps (k : Nat) (g : List Byte → List Byte) : (s.updDescBytes k g).steps = s.steps := rfl
@[simp] theorem updDescBytes_verdicts (k : Nat) (g : List Byte → List Byte) : (s.updDescBytes k g).verdicts = s.verdicts := rfl
@[simp] theorem updDescBytes_replays (k : Nat) (g : List Byte → List Byte) : (s.updDescBytes k g).replays = s.replays := rfl
@[simp] theorem updDescBytes_setsOpened (k : Nat) (g : List Byte → List Byte) : (s.updDescBytes k g).setsOpened = s.setsOpened := rfl
@[simp] theorem updDescBytes_ctxs (k : Nat) (g : List Byte → List Byte) : (s.updDescBytes k g).ctxs = s.ctxs := rfl
@[simp] theorem updDescBytes_hist (k : Nat) (g : List Byte → List Byte) : (s.updDescBytes k g).hist = s.hist := rfl
@[simp] theorem updDescBytes_histStaged (k : Nat) (g : List Byte → List Byte) : (s.updDescBytes k g).histStaged = s.histStaged := rfl
@[simp] theorem updDescBytes_histLatch (k : Nat) (g : List Byte → List Byte) : (s.updDescBytes k g).histLatch = s.histLatch := rfl
@[simp] theorem updDescBytes_drainSince (k : Nat) (g : List Byte → List Byte) : (s.updDescBytes k g).drainSince = s.drainSince := rfl
@[simp] theorem updDescBytes_halls (k : Nat) (g : List Byte → List Byte) : (s.updDescBytes k g).halls = s.halls := rfl
@[simp] theorem updDescBytes_resets (k : Nat) (g : List Byte → List Byte) : (s.updDescBytes k g).resets = s.resets := rfl
@[simp] theorem updDescBytes_hangs (k : Nat) (g : List Byte → List Byte) : (s.updDescBytes k g).hangs = s.hangs := rfl
@[simp] theorem updDescBytes_cut (k : Nat) (g : List Byte → List Byte) : (s.updDescBytes k g).cut = s.cut := rfl
@[simp] theorem updDescBytes_cutNo (k : Nat) (g : List Byte → List Byte) : (s.updDescBytes k g).cutNo = s.cutNo := rfl
@[simp] theorem updDescBytes_cutDue (k : Nat) (g : List Byte → List Byte) : (s.updDescBytes k g).cutDue = s.cutDue := rfl
@[simp] theorem updDescBytes_cutUnits (k : Nat) (g : List Byte → List Byte) : (s.updDescBytes k g).cutUnits = s.cutUnits := rfl
@[simp] theorem updDescBytes_chans (k : Nat) (g : List Byte → List Byte) : (s.updDescBytes k g).chans = s.chans := rfl
@[simp] theorem updDescBytes_stop (k : Nat) (g : List Byte → List Byte) : (s.updDescBytes k g).stop = s.stop := rfl
@[simp] theorem updDescBytes_voids (k : Nat) (g : List Byte → List Byte) : (s.updDescBytes k g).voids = s.voids := rfl
@[simp] theorem updDescBytes_bins (k : Nat) (g : List Byte → List Byte) : (s.updDescBytes k g).bins = s.bins := rfl
@[simp] theorem updDescBytes_bank (k : Nat) (g : List Byte → List Byte) : (s.updDescBytes k g).bank = s.bank := rfl
@[simp] theorem updDescBytes_segs (k : Nat) (g : List Byte → List Byte) : (s.updDescBytes k g).segs = s.segs := rfl
@[simp] theorem updDescBytes_attic (k : Nat) (g : List Byte → List Byte) : (s.updDescBytes k g).attic = s.attic := rfl
@[simp] theorem updDescBytes_mem (k : Nat) (g : List Byte → List Byte) : (s.updDescBytes k g).mem = s.mem := rfl
@[simp] theorem updDescBytes_variant (k : Nat) (g : List Byte → List Byte) : (s.updDescBytes k g).variant = s.variant := rfl
@[simp] theorem updDescBytes_mbx (k : Nat) (g : List Byte → List Byte) : (s.updDescBytes k g).mbx = s.mbx := rfl
@[simp] theorem updDescBytes_twk (k : Nat) (g : List Byte → List Byte) : (s.updDescBytes k g).twk = s.twk := rfl
@[simp] theorem updDescBytes_mgt (k : Nat) (g : List Byte → List Byte) : (s.updDescBytes k g).mgt = s.mgt := rfl
@[simp] theorem updDescBytes_dbg (k : Nat) (g : List Byte → List Byte) : (s.updDescBytes k g).dbg = s.dbg := rfl
@[simp] theorem updDescBytes_cels (k : Nat) (g : List Byte → List Byte) : (s.updDescBytes k g).cels = s.cels := rfl
@[simp] theorem updDescBytes_reloads (k : Nat) (g : List Byte → List Byte) : (s.updDescBytes k g).reloads = s.reloads := rfl
@[simp] theorem updDescBytes_chanMap (k : Nat) (g : List Byte → List Byte) : (s.updDescBytes k g).chanMap = s.chanMap := rfl
@[simp] theorem updDescBytes_seeds (k : Nat) (g : List Byte → List Byte) : (s.updDescBytes k g).seeds = s.seeds := rfl
@[simp] theorem updDescBytes_idleKills (k : Nat) (g : List Byte → List Byte) : (s.updDescBytes k g).idleKills = s.idleKills := rfl
@[simp] theorem updDescBytes_prv (k : Nat) (g : List Byte → List Byte) : (s.updDescBytes k g).prv = s.prv := rfl
@[simp] theorem updDescBytes_pairs (k : Nat) (g : List Byte → List Byte) : (s.updDescBytes k g).pairs = s.pairs := rfl
@[simp] theorem updDescBytes_steepFirst (k : Nat) (g : List Byte → List Byte) : (s.updDescBytes k g).steepFirst = s.steepFirst := rfl
@[simp] theorem updDescBytes_stp (k : Nat) (g : List Byte → List Byte) : (s.updDescBytes k g).stp = s.stp := rfl
@[simp] theorem updDescBytes_engs (k : Nat) (g : List Byte → List Byte) : (s.updDescBytes k g).engs = s.engs := rfl
@[simp] theorem updDescBytes_plan (k : Nat) (g : List Byte → List Byte) : (s.updDescBytes k g).plan = s.plan := rfl
@[simp] theorem updDescBytes_grist (k : Nat) (g : List Byte → List Byte) : (s.updDescBytes k g).grist = s.grist := rfl
@[simp] theorem updDescBytes_ana (k : Nat) (g : List Byte → List Byte) : (s.updDescBytes k g).ana = s.ana := rfl
@[simp] theorem updDescBytes_dl (k : Nat) (g : List Byte → List Byte) : (s.updDescBytes k g).dl = s.dl := rfl
@[simp] theorem updDescBytes_fw (k : Nat) (g : List Byte → List Byte) : (s.updDescBytes k g).fw = s.fw := rfl
@[simp] theorem updDescBytes_sens (k : Nat) (g : List Byte → List Byte) : (s.updDescBytes k g).sens = s.sens := rfl
@[simp] theorem updDescBytes_thm (k : Nat) (g : List Byte → List Byte) : (s.updDescBytes k g).thm = s.thm := rfl
@[simp] theorem updDescBytes_emerg (k : Nat) (g : List Byte → List Byte) : (s.updDescBytes k g).emerg = s.emerg := rfl
@[simp] theorem updDescBytes_pad (k : Nat) (g : List Byte → List Byte) : (s.updDescBytes k g).pad = s.pad := rfl
@[simp] theorem updDescBytes_resetsDue (k : Nat) (g : List Byte → List Byte) : (s.updDescBytes k g).resetsDue = s.resetsDue := rfl
@[simp] theorem updDescBytes_latch (k : Nat) (g : List Byte → List Byte) : (s.updDescBytes k g).latch = s.latch := rfl
@[simp] theorem updDescBytes_tree (k : Nat) (g : List Byte → List Byte) : (s.updDescBytes k g).tree = s.tree := rfl
@[simp] theorem updDescBytes_refLost (k : Nat) (g : List Byte → List Byte) : (s.updDescBytes k g).refLost = s.refLost := rfl
@[simp] theorem updDescBytes_histFlash (k : Nat) (g : List Byte → List Byte) : (s.updDescBytes k g).histFlash = s.histFlash := rfl
@[simp] theorem updDescBytes_tickAt (k : Nat) (g : List Byte → List Byte) : (s.updDescBytes k g).tickAt = s.tickAt := rfl
@[simp] theorem updDescBytes_passSeen (k : Nat) (g : List Byte → List Byte) : (s.updDescBytes k g).passSeen = s.passSeen := rfl

/-! The entries of `seeds`. -/
@[simp] theorem seedOf_updSeedOf_same (k : Nat) (g : Option Nat → Option Nat) : (s.updSeedOf k g).seedOf k = g (s.seedOf k) := Tab.get_upd_same _ _ _ _
theorem seedOf_updSeedOf_other {k j : Nat} (h : j ≠ k) (g : Option Nat → Option Nat) : (s.updSeedOf k g).seedOf j = s.seedOf j := Tab.get_upd_other _ _ h _
theorem seedOf_congr {t : State} (h : t.seeds = s.seeds) (k : Nat) : t.seedOf k = s.seedOf k := by unfold State.seedOf; rw [h]
@[simp] theorem updSeedOf_pending (k : Nat) (g : Option Nat → Option Nat) : (s.updSeedOf k g).pending = s.pending := rfl
@[simp] theorem updSeedOf_wall (k : Nat) (g : Option Nat → Option Nat) : (s.updSeedOf k g).wall = s.wall := rfl
@[simp] theorem updSeedOf_fresh (k : Nat) (g : Option Nat → Option Nat) : (s.updSeedOf k g).fresh = s.fresh := rfl
@[simp] theorem updSeedOf_regs (k : Nat) (g : Option Nat → Option Nat) : (s.updSeedOf k g).regs = s.regs := rfl
@[simp] theorem updSeedOf_ecnt (k : Nat) (g : Option Nat → Option Nat) : (s.updSeedOf k g).ecnt = s.ecnt := rfl
@[simp] theorem updSeedOf_rcnt (k : Nat) (g : Option Nat → Option Nat) : (s.updSeedOf k g).rcnt = s.rcnt := rfl
@[simp] theorem updSeedOf_fill (k : Nat) (g : Option Nat → Option Nat) : (s.updSeedOf k g).fill = s.fill := rfl
@[simp] theorem updSeedOf_shown (k : Nat) (g : Option Nat → Option Nat) : (s.updSeedOf k g).shown = s.shown := rfl
@[simp] theorem updSeedOf_units (k : Nat) (g : Option Nat → Option Nat) : (s.updSeedOf k g).units = s.units := rfl
@[simp] theorem updSeedOf_transit (k : Nat) (g : Option Nat → Option Nat) : (s.updSeedOf k g).transit = s.transit := rfl
@[simp] theorem updSeedOf_marks (k : Nat) (g : Option Nat → Option Nat) : (s.updSeedOf k g).marks = s.marks := rfl
@[simp] theorem updSeedOf_sent (k : Nat) (g : Option Nat → Option Nat) : (s.updSeedOf k g).sent = s.sent := rfl
@[simp] theorem updSeedOf_routers (k : Nat) (g : Option Nat → Option Nat) : (s.updSeedOf k g).routers = s.routers := rfl
@[simp] theorem updSeedOf_hops (k : Nat) (g : Option Nat → Option Nat) : (s.updSeedOf k g).hops = s.hops := rfl
@[simp] theorem updSeedOf_tablesDue (k : Nat) (g : Option Nat → Option Nat) : (s.updSeedOf k g).tablesDue = s.tablesDue := rfl
@[simp] theorem updSeedOf_cutoff (k : Nat) (g : Option Nat → Option Nat) : (s.updSeedOf k g).cutoff = s.cutoff := rfl
@[simp] theorem updSeedOf_delays (k : Nat) (g : Option Nat → Option Nat) : (s.updSeedOf k g).delays = s.delays := rfl
@[simp] theorem updSeedOf_clocks (k : Nat) (g : Option Nat → Option Nat) : (s.updSeedOf k g).clocks = s.clocks := rfl
@[simp] theorem updSeedOf_pair (k : Nat) (g : Option Nat → Option Nat) : (s.updSeedOf k g).pair = s.pair := rfl
@[simp] theorem updSeedOf_gates (k : Nat) (g : Option Nat → Option Nat) : (s.updSeedOf k g).gates = s.gates := rfl
@[simp] theorem updSeedOf_doors (k : Nat) (g : Option Nat → Option Nat) : (s.updSeedOf k g).doors = s.doors := rfl
@[simp] theorem updSeedOf_streams (k : Nat) (g : Option Nat → Option Nat) : (s.updSeedOf k g).streams = s.streams := rfl
@[simp] theorem updSeedOf_wins (k : Nat) (g : Option Nat → Option Nat) : (s.updSeedOf k g).wins = s.wins := rfl
@[simp] theorem updSeedOf_winAlive (k : Nat) (g : Option Nat → Option Nat) : (s.updSeedOf k g).winAlive = s.winAlive := rfl
@[simp] theorem updSeedOf_scans (k : Nat) (g : Option Nat → Option Nat) : (s.updSeedOf k g).scans = s.scans := rfl
@[simp] theorem updSeedOf_taps (k : Nat) (g : Option Nat → Option Nat) : (s.updSeedOf k g).taps = s.taps := rfl
@[simp] theorem updSeedOf_cores (k : Nat) (g : Option Nat → Option Nat) : (s.updSeedOf k g).cores = s.cores := rfl
@[simp] theorem updSeedOf_ports (k : Nat) (g : Option Nat → Option Nat) : (s.updSeedOf k g).ports = s.ports := rfl
@[simp] theorem updSeedOf_adj (k : Nat) (g : Option Nat → Option Nat) : (s.updSeedOf k g).adj = s.adj := rfl
@[simp] theorem updSeedOf_rpl (k : Nat) (g : Option Nat → Option Nat) : (s.updSeedOf k g).rpl = s.rpl := rfl
@[simp] theorem updSeedOf_steps (k : Nat) (g : Option Nat → Option Nat) : (s.updSeedOf k g).steps = s.steps := rfl
@[simp] theorem updSeedOf_verdicts (k : Nat) (g : Option Nat → Option Nat) : (s.updSeedOf k g).verdicts = s.verdicts := rfl
@[simp] theorem updSeedOf_replays (k : Nat) (g : Option Nat → Option Nat) : (s.updSeedOf k g).replays = s.replays := rfl
@[simp] theorem updSeedOf_setsOpened (k : Nat) (g : Option Nat → Option Nat) : (s.updSeedOf k g).setsOpened = s.setsOpened := rfl
@[simp] theorem updSeedOf_ctxs (k : Nat) (g : Option Nat → Option Nat) : (s.updSeedOf k g).ctxs = s.ctxs := rfl
@[simp] theorem updSeedOf_hist (k : Nat) (g : Option Nat → Option Nat) : (s.updSeedOf k g).hist = s.hist := rfl
@[simp] theorem updSeedOf_histStaged (k : Nat) (g : Option Nat → Option Nat) : (s.updSeedOf k g).histStaged = s.histStaged := rfl
@[simp] theorem updSeedOf_histLatch (k : Nat) (g : Option Nat → Option Nat) : (s.updSeedOf k g).histLatch = s.histLatch := rfl
@[simp] theorem updSeedOf_drainSince (k : Nat) (g : Option Nat → Option Nat) : (s.updSeedOf k g).drainSince = s.drainSince := rfl
@[simp] theorem updSeedOf_halls (k : Nat) (g : Option Nat → Option Nat) : (s.updSeedOf k g).halls = s.halls := rfl
@[simp] theorem updSeedOf_resets (k : Nat) (g : Option Nat → Option Nat) : (s.updSeedOf k g).resets = s.resets := rfl
@[simp] theorem updSeedOf_hangs (k : Nat) (g : Option Nat → Option Nat) : (s.updSeedOf k g).hangs = s.hangs := rfl
@[simp] theorem updSeedOf_cut (k : Nat) (g : Option Nat → Option Nat) : (s.updSeedOf k g).cut = s.cut := rfl
@[simp] theorem updSeedOf_cutNo (k : Nat) (g : Option Nat → Option Nat) : (s.updSeedOf k g).cutNo = s.cutNo := rfl
@[simp] theorem updSeedOf_cutDue (k : Nat) (g : Option Nat → Option Nat) : (s.updSeedOf k g).cutDue = s.cutDue := rfl
@[simp] theorem updSeedOf_cutUnits (k : Nat) (g : Option Nat → Option Nat) : (s.updSeedOf k g).cutUnits = s.cutUnits := rfl
@[simp] theorem updSeedOf_chans (k : Nat) (g : Option Nat → Option Nat) : (s.updSeedOf k g).chans = s.chans := rfl
@[simp] theorem updSeedOf_stop (k : Nat) (g : Option Nat → Option Nat) : (s.updSeedOf k g).stop = s.stop := rfl
@[simp] theorem updSeedOf_voids (k : Nat) (g : Option Nat → Option Nat) : (s.updSeedOf k g).voids = s.voids := rfl
@[simp] theorem updSeedOf_bins (k : Nat) (g : Option Nat → Option Nat) : (s.updSeedOf k g).bins = s.bins := rfl
@[simp] theorem updSeedOf_bank (k : Nat) (g : Option Nat → Option Nat) : (s.updSeedOf k g).bank = s.bank := rfl
@[simp] theorem updSeedOf_segs (k : Nat) (g : Option Nat → Option Nat) : (s.updSeedOf k g).segs = s.segs := rfl
@[simp] theorem updSeedOf_attic (k : Nat) (g : Option Nat → Option Nat) : (s.updSeedOf k g).attic = s.attic := rfl
@[simp] theorem updSeedOf_mem (k : Nat) (g : Option Nat → Option Nat) : (s.updSeedOf k g).mem = s.mem := rfl
@[simp] theorem updSeedOf_variant (k : Nat) (g : Option Nat → Option Nat) : (s.updSeedOf k g).variant = s.variant := rfl
@[simp] theorem updSeedOf_mbx (k : Nat) (g : Option Nat → Option Nat) : (s.updSeedOf k g).mbx = s.mbx := rfl
@[simp] theorem updSeedOf_twk (k : Nat) (g : Option Nat → Option Nat) : (s.updSeedOf k g).twk = s.twk := rfl
@[simp] theorem updSeedOf_mgt (k : Nat) (g : Option Nat → Option Nat) : (s.updSeedOf k g).mgt = s.mgt := rfl
@[simp] theorem updSeedOf_dbg (k : Nat) (g : Option Nat → Option Nat) : (s.updSeedOf k g).dbg = s.dbg := rfl
@[simp] theorem updSeedOf_cels (k : Nat) (g : Option Nat → Option Nat) : (s.updSeedOf k g).cels = s.cels := rfl
@[simp] theorem updSeedOf_reloads (k : Nat) (g : Option Nat → Option Nat) : (s.updSeedOf k g).reloads = s.reloads := rfl
@[simp] theorem updSeedOf_chanMap (k : Nat) (g : Option Nat → Option Nat) : (s.updSeedOf k g).chanMap = s.chanMap := rfl
@[simp] theorem updSeedOf_descCopy (k : Nat) (g : Option Nat → Option Nat) : (s.updSeedOf k g).descCopy = s.descCopy := rfl
@[simp] theorem updSeedOf_idleKills (k : Nat) (g : Option Nat → Option Nat) : (s.updSeedOf k g).idleKills = s.idleKills := rfl
@[simp] theorem updSeedOf_prv (k : Nat) (g : Option Nat → Option Nat) : (s.updSeedOf k g).prv = s.prv := rfl
@[simp] theorem updSeedOf_pairs (k : Nat) (g : Option Nat → Option Nat) : (s.updSeedOf k g).pairs = s.pairs := rfl
@[simp] theorem updSeedOf_steepFirst (k : Nat) (g : Option Nat → Option Nat) : (s.updSeedOf k g).steepFirst = s.steepFirst := rfl
@[simp] theorem updSeedOf_stp (k : Nat) (g : Option Nat → Option Nat) : (s.updSeedOf k g).stp = s.stp := rfl
@[simp] theorem updSeedOf_engs (k : Nat) (g : Option Nat → Option Nat) : (s.updSeedOf k g).engs = s.engs := rfl
@[simp] theorem updSeedOf_plan (k : Nat) (g : Option Nat → Option Nat) : (s.updSeedOf k g).plan = s.plan := rfl
@[simp] theorem updSeedOf_grist (k : Nat) (g : Option Nat → Option Nat) : (s.updSeedOf k g).grist = s.grist := rfl
@[simp] theorem updSeedOf_ana (k : Nat) (g : Option Nat → Option Nat) : (s.updSeedOf k g).ana = s.ana := rfl
@[simp] theorem updSeedOf_dl (k : Nat) (g : Option Nat → Option Nat) : (s.updSeedOf k g).dl = s.dl := rfl
@[simp] theorem updSeedOf_fw (k : Nat) (g : Option Nat → Option Nat) : (s.updSeedOf k g).fw = s.fw := rfl
@[simp] theorem updSeedOf_sens (k : Nat) (g : Option Nat → Option Nat) : (s.updSeedOf k g).sens = s.sens := rfl
@[simp] theorem updSeedOf_thm (k : Nat) (g : Option Nat → Option Nat) : (s.updSeedOf k g).thm = s.thm := rfl
@[simp] theorem updSeedOf_emerg (k : Nat) (g : Option Nat → Option Nat) : (s.updSeedOf k g).emerg = s.emerg := rfl
@[simp] theorem updSeedOf_pad (k : Nat) (g : Option Nat → Option Nat) : (s.updSeedOf k g).pad = s.pad := rfl
@[simp] theorem updSeedOf_resetsDue (k : Nat) (g : Option Nat → Option Nat) : (s.updSeedOf k g).resetsDue = s.resetsDue := rfl
@[simp] theorem updSeedOf_latch (k : Nat) (g : Option Nat → Option Nat) : (s.updSeedOf k g).latch = s.latch := rfl
@[simp] theorem updSeedOf_tree (k : Nat) (g : Option Nat → Option Nat) : (s.updSeedOf k g).tree = s.tree := rfl
@[simp] theorem updSeedOf_refLost (k : Nat) (g : Option Nat → Option Nat) : (s.updSeedOf k g).refLost = s.refLost := rfl
@[simp] theorem updSeedOf_histFlash (k : Nat) (g : Option Nat → Option Nat) : (s.updSeedOf k g).histFlash = s.histFlash := rfl
@[simp] theorem updSeedOf_tickAt (k : Nat) (g : Option Nat → Option Nat) : (s.updSeedOf k g).tickAt = s.tickAt := rfl
@[simp] theorem updSeedOf_passSeen (k : Nat) (g : Option Nat → Option Nat) : (s.updSeedOf k g).passSeen = s.passSeen := rfl

/-! The entries of `pairs`. -/
@[simp] theorem pairOf_updPairOf_same (k : Nat) (g : PairTst → PairTst) : (s.updPairOf k g).pairOf k = g (s.pairOf k) := Tab.get_upd_same _ _ _ _
theorem pairOf_updPairOf_other {k j : Nat} (h : j ≠ k) (g : PairTst → PairTst) : (s.updPairOf k g).pairOf j = s.pairOf j := Tab.get_upd_other _ _ h _
theorem pairOf_congr {t : State} (h : t.pairs = s.pairs) (k : Nat) : t.pairOf k = s.pairOf k := by unfold State.pairOf; rw [h]
@[simp] theorem updPairOf_pending (k : Nat) (g : PairTst → PairTst) : (s.updPairOf k g).pending = s.pending := rfl
@[simp] theorem updPairOf_wall (k : Nat) (g : PairTst → PairTst) : (s.updPairOf k g).wall = s.wall := rfl
@[simp] theorem updPairOf_fresh (k : Nat) (g : PairTst → PairTst) : (s.updPairOf k g).fresh = s.fresh := rfl
@[simp] theorem updPairOf_regs (k : Nat) (g : PairTst → PairTst) : (s.updPairOf k g).regs = s.regs := rfl
@[simp] theorem updPairOf_ecnt (k : Nat) (g : PairTst → PairTst) : (s.updPairOf k g).ecnt = s.ecnt := rfl
@[simp] theorem updPairOf_rcnt (k : Nat) (g : PairTst → PairTst) : (s.updPairOf k g).rcnt = s.rcnt := rfl
@[simp] theorem updPairOf_fill (k : Nat) (g : PairTst → PairTst) : (s.updPairOf k g).fill = s.fill := rfl
@[simp] theorem updPairOf_shown (k : Nat) (g : PairTst → PairTst) : (s.updPairOf k g).shown = s.shown := rfl
@[simp] theorem updPairOf_units (k : Nat) (g : PairTst → PairTst) : (s.updPairOf k g).units = s.units := rfl
@[simp] theorem updPairOf_transit (k : Nat) (g : PairTst → PairTst) : (s.updPairOf k g).transit = s.transit := rfl
@[simp] theorem updPairOf_marks (k : Nat) (g : PairTst → PairTst) : (s.updPairOf k g).marks = s.marks := rfl
@[simp] theorem updPairOf_sent (k : Nat) (g : PairTst → PairTst) : (s.updPairOf k g).sent = s.sent := rfl
@[simp] theorem updPairOf_routers (k : Nat) (g : PairTst → PairTst) : (s.updPairOf k g).routers = s.routers := rfl
@[simp] theorem updPairOf_hops (k : Nat) (g : PairTst → PairTst) : (s.updPairOf k g).hops = s.hops := rfl
@[simp] theorem updPairOf_tablesDue (k : Nat) (g : PairTst → PairTst) : (s.updPairOf k g).tablesDue = s.tablesDue := rfl
@[simp] theorem updPairOf_cutoff (k : Nat) (g : PairTst → PairTst) : (s.updPairOf k g).cutoff = s.cutoff := rfl
@[simp] theorem updPairOf_delays (k : Nat) (g : PairTst → PairTst) : (s.updPairOf k g).delays = s.delays := rfl
@[simp] theorem updPairOf_clocks (k : Nat) (g : PairTst → PairTst) : (s.updPairOf k g).clocks = s.clocks := rfl
@[simp] theorem updPairOf_pair (k : Nat) (g : PairTst → PairTst) : (s.updPairOf k g).pair = s.pair := rfl
@[simp] theorem updPairOf_gates (k : Nat) (g : PairTst → PairTst) : (s.updPairOf k g).gates = s.gates := rfl
@[simp] theorem updPairOf_doors (k : Nat) (g : PairTst → PairTst) : (s.updPairOf k g).doors = s.doors := rfl
@[simp] theorem updPairOf_streams (k : Nat) (g : PairTst → PairTst) : (s.updPairOf k g).streams = s.streams := rfl
@[simp] theorem updPairOf_wins (k : Nat) (g : PairTst → PairTst) : (s.updPairOf k g).wins = s.wins := rfl
@[simp] theorem updPairOf_winAlive (k : Nat) (g : PairTst → PairTst) : (s.updPairOf k g).winAlive = s.winAlive := rfl
@[simp] theorem updPairOf_scans (k : Nat) (g : PairTst → PairTst) : (s.updPairOf k g).scans = s.scans := rfl
@[simp] theorem updPairOf_taps (k : Nat) (g : PairTst → PairTst) : (s.updPairOf k g).taps = s.taps := rfl
@[simp] theorem updPairOf_cores (k : Nat) (g : PairTst → PairTst) : (s.updPairOf k g).cores = s.cores := rfl
@[simp] theorem updPairOf_ports (k : Nat) (g : PairTst → PairTst) : (s.updPairOf k g).ports = s.ports := rfl
@[simp] theorem updPairOf_adj (k : Nat) (g : PairTst → PairTst) : (s.updPairOf k g).adj = s.adj := rfl
@[simp] theorem updPairOf_rpl (k : Nat) (g : PairTst → PairTst) : (s.updPairOf k g).rpl = s.rpl := rfl
@[simp] theorem updPairOf_steps (k : Nat) (g : PairTst → PairTst) : (s.updPairOf k g).steps = s.steps := rfl
@[simp] theorem updPairOf_verdicts (k : Nat) (g : PairTst → PairTst) : (s.updPairOf k g).verdicts = s.verdicts := rfl
@[simp] theorem updPairOf_replays (k : Nat) (g : PairTst → PairTst) : (s.updPairOf k g).replays = s.replays := rfl
@[simp] theorem updPairOf_setsOpened (k : Nat) (g : PairTst → PairTst) : (s.updPairOf k g).setsOpened = s.setsOpened := rfl
@[simp] theorem updPairOf_ctxs (k : Nat) (g : PairTst → PairTst) : (s.updPairOf k g).ctxs = s.ctxs := rfl
@[simp] theorem updPairOf_hist (k : Nat) (g : PairTst → PairTst) : (s.updPairOf k g).hist = s.hist := rfl
@[simp] theorem updPairOf_histStaged (k : Nat) (g : PairTst → PairTst) : (s.updPairOf k g).histStaged = s.histStaged := rfl
@[simp] theorem updPairOf_histLatch (k : Nat) (g : PairTst → PairTst) : (s.updPairOf k g).histLatch = s.histLatch := rfl
@[simp] theorem updPairOf_drainSince (k : Nat) (g : PairTst → PairTst) : (s.updPairOf k g).drainSince = s.drainSince := rfl
@[simp] theorem updPairOf_halls (k : Nat) (g : PairTst → PairTst) : (s.updPairOf k g).halls = s.halls := rfl
@[simp] theorem updPairOf_resets (k : Nat) (g : PairTst → PairTst) : (s.updPairOf k g).resets = s.resets := rfl
@[simp] theorem updPairOf_hangs (k : Nat) (g : PairTst → PairTst) : (s.updPairOf k g).hangs = s.hangs := rfl
@[simp] theorem updPairOf_cut (k : Nat) (g : PairTst → PairTst) : (s.updPairOf k g).cut = s.cut := rfl
@[simp] theorem updPairOf_cutNo (k : Nat) (g : PairTst → PairTst) : (s.updPairOf k g).cutNo = s.cutNo := rfl
@[simp] theorem updPairOf_cutDue (k : Nat) (g : PairTst → PairTst) : (s.updPairOf k g).cutDue = s.cutDue := rfl
@[simp] theorem updPairOf_cutUnits (k : Nat) (g : PairTst → PairTst) : (s.updPairOf k g).cutUnits = s.cutUnits := rfl
@[simp] theorem updPairOf_chans (k : Nat) (g : PairTst → PairTst) : (s.updPairOf k g).chans = s.chans := rfl
@[simp] theorem updPairOf_stop (k : Nat) (g : PairTst → PairTst) : (s.updPairOf k g).stop = s.stop := rfl
@[simp] theorem updPairOf_voids (k : Nat) (g : PairTst → PairTst) : (s.updPairOf k g).voids = s.voids := rfl
@[simp] theorem updPairOf_bins (k : Nat) (g : PairTst → PairTst) : (s.updPairOf k g).bins = s.bins := rfl
@[simp] theorem updPairOf_bank (k : Nat) (g : PairTst → PairTst) : (s.updPairOf k g).bank = s.bank := rfl
@[simp] theorem updPairOf_segs (k : Nat) (g : PairTst → PairTst) : (s.updPairOf k g).segs = s.segs := rfl
@[simp] theorem updPairOf_attic (k : Nat) (g : PairTst → PairTst) : (s.updPairOf k g).attic = s.attic := rfl
@[simp] theorem updPairOf_mem (k : Nat) (g : PairTst → PairTst) : (s.updPairOf k g).mem = s.mem := rfl
@[simp] theorem updPairOf_variant (k : Nat) (g : PairTst → PairTst) : (s.updPairOf k g).variant = s.variant := rfl
@[simp] theorem updPairOf_mbx (k : Nat) (g : PairTst → PairTst) : (s.updPairOf k g).mbx = s.mbx := rfl
@[simp] theorem updPairOf_twk (k : Nat) (g : PairTst → PairTst) : (s.updPairOf k g).twk = s.twk := rfl
@[simp] theorem updPairOf_mgt (k : Nat) (g : PairTst → PairTst) : (s.updPairOf k g).mgt = s.mgt := rfl
@[simp] theorem updPairOf_dbg (k : Nat) (g : PairTst → PairTst) : (s.updPairOf k g).dbg = s.dbg := rfl
@[simp] theorem updPairOf_cels (k : Nat) (g : PairTst → PairTst) : (s.updPairOf k g).cels = s.cels := rfl
@[simp] theorem updPairOf_reloads (k : Nat) (g : PairTst → PairTst) : (s.updPairOf k g).reloads = s.reloads := rfl
@[simp] theorem updPairOf_chanMap (k : Nat) (g : PairTst → PairTst) : (s.updPairOf k g).chanMap = s.chanMap := rfl
@[simp] theorem updPairOf_descCopy (k : Nat) (g : PairTst → PairTst) : (s.updPairOf k g).descCopy = s.descCopy := rfl
@[simp] theorem updPairOf_seeds (k : Nat) (g : PairTst → PairTst) : (s.updPairOf k g).seeds = s.seeds := rfl
@[simp] theorem updPairOf_idleKills (k : Nat) (g : PairTst → PairTst) : (s.updPairOf k g).idleKills = s.idleKills := rfl
@[simp] theorem updPairOf_prv (k : Nat) (g : PairTst → PairTst) : (s.updPairOf k g).prv = s.prv := rfl
@[simp] theorem updPairOf_steepFirst (k : Nat) (g : PairTst → PairTst) : (s.updPairOf k g).steepFirst = s.steepFirst := rfl
@[simp] theorem updPairOf_stp (k : Nat) (g : PairTst → PairTst) : (s.updPairOf k g).stp = s.stp := rfl
@[simp] theorem updPairOf_engs (k : Nat) (g : PairTst → PairTst) : (s.updPairOf k g).engs = s.engs := rfl
@[simp] theorem updPairOf_plan (k : Nat) (g : PairTst → PairTst) : (s.updPairOf k g).plan = s.plan := rfl
@[simp] theorem updPairOf_grist (k : Nat) (g : PairTst → PairTst) : (s.updPairOf k g).grist = s.grist := rfl
@[simp] theorem updPairOf_ana (k : Nat) (g : PairTst → PairTst) : (s.updPairOf k g).ana = s.ana := rfl
@[simp] theorem updPairOf_dl (k : Nat) (g : PairTst → PairTst) : (s.updPairOf k g).dl = s.dl := rfl
@[simp] theorem updPairOf_fw (k : Nat) (g : PairTst → PairTst) : (s.updPairOf k g).fw = s.fw := rfl
@[simp] theorem updPairOf_sens (k : Nat) (g : PairTst → PairTst) : (s.updPairOf k g).sens = s.sens := rfl
@[simp] theorem updPairOf_thm (k : Nat) (g : PairTst → PairTst) : (s.updPairOf k g).thm = s.thm := rfl
@[simp] theorem updPairOf_emerg (k : Nat) (g : PairTst → PairTst) : (s.updPairOf k g).emerg = s.emerg := rfl
@[simp] theorem updPairOf_pad (k : Nat) (g : PairTst → PairTst) : (s.updPairOf k g).pad = s.pad := rfl
@[simp] theorem updPairOf_resetsDue (k : Nat) (g : PairTst → PairTst) : (s.updPairOf k g).resetsDue = s.resetsDue := rfl
@[simp] theorem updPairOf_latch (k : Nat) (g : PairTst → PairTst) : (s.updPairOf k g).latch = s.latch := rfl
@[simp] theorem updPairOf_tree (k : Nat) (g : PairTst → PairTst) : (s.updPairOf k g).tree = s.tree := rfl
@[simp] theorem updPairOf_refLost (k : Nat) (g : PairTst → PairTst) : (s.updPairOf k g).refLost = s.refLost := rfl
@[simp] theorem updPairOf_histFlash (k : Nat) (g : PairTst → PairTst) : (s.updPairOf k g).histFlash = s.histFlash := rfl
@[simp] theorem updPairOf_tickAt (k : Nat) (g : PairTst → PairTst) : (s.updPairOf k g).tickAt = s.tickAt := rfl
@[simp] theorem updPairOf_passSeen (k : Nat) (g : PairTst → PairTst) : (s.updPairOf k g).passSeen = s.passSeen := rfl

/-! The entries of `stp`. -/
@[simp] theorem stpOf_updStpOf_same (k : Nat) (g : StpUnit → StpUnit) : (s.updStpOf k g).stpOf k = g (s.stpOf k) := Tab.get_upd_same _ _ _ _
theorem stpOf_updStpOf_other {k j : Nat} (h : j ≠ k) (g : StpUnit → StpUnit) : (s.updStpOf k g).stpOf j = s.stpOf j := Tab.get_upd_other _ _ h _
theorem stpOf_congr {t : State} (h : t.stp = s.stp) (k : Nat) : t.stpOf k = s.stpOf k := by unfold State.stpOf; rw [h]
@[simp] theorem updStpOf_pending (k : Nat) (g : StpUnit → StpUnit) : (s.updStpOf k g).pending = s.pending := rfl
@[simp] theorem updStpOf_wall (k : Nat) (g : StpUnit → StpUnit) : (s.updStpOf k g).wall = s.wall := rfl
@[simp] theorem updStpOf_fresh (k : Nat) (g : StpUnit → StpUnit) : (s.updStpOf k g).fresh = s.fresh := rfl
@[simp] theorem updStpOf_regs (k : Nat) (g : StpUnit → StpUnit) : (s.updStpOf k g).regs = s.regs := rfl
@[simp] theorem updStpOf_ecnt (k : Nat) (g : StpUnit → StpUnit) : (s.updStpOf k g).ecnt = s.ecnt := rfl
@[simp] theorem updStpOf_rcnt (k : Nat) (g : StpUnit → StpUnit) : (s.updStpOf k g).rcnt = s.rcnt := rfl
@[simp] theorem updStpOf_fill (k : Nat) (g : StpUnit → StpUnit) : (s.updStpOf k g).fill = s.fill := rfl
@[simp] theorem updStpOf_shown (k : Nat) (g : StpUnit → StpUnit) : (s.updStpOf k g).shown = s.shown := rfl
@[simp] theorem updStpOf_units (k : Nat) (g : StpUnit → StpUnit) : (s.updStpOf k g).units = s.units := rfl
@[simp] theorem updStpOf_transit (k : Nat) (g : StpUnit → StpUnit) : (s.updStpOf k g).transit = s.transit := rfl
@[simp] theorem updStpOf_marks (k : Nat) (g : StpUnit → StpUnit) : (s.updStpOf k g).marks = s.marks := rfl
@[simp] theorem updStpOf_sent (k : Nat) (g : StpUnit → StpUnit) : (s.updStpOf k g).sent = s.sent := rfl
@[simp] theorem updStpOf_routers (k : Nat) (g : StpUnit → StpUnit) : (s.updStpOf k g).routers = s.routers := rfl
@[simp] theorem updStpOf_hops (k : Nat) (g : StpUnit → StpUnit) : (s.updStpOf k g).hops = s.hops := rfl
@[simp] theorem updStpOf_tablesDue (k : Nat) (g : StpUnit → StpUnit) : (s.updStpOf k g).tablesDue = s.tablesDue := rfl
@[simp] theorem updStpOf_cutoff (k : Nat) (g : StpUnit → StpUnit) : (s.updStpOf k g).cutoff = s.cutoff := rfl
@[simp] theorem updStpOf_delays (k : Nat) (g : StpUnit → StpUnit) : (s.updStpOf k g).delays = s.delays := rfl
@[simp] theorem updStpOf_clocks (k : Nat) (g : StpUnit → StpUnit) : (s.updStpOf k g).clocks = s.clocks := rfl
@[simp] theorem updStpOf_pair (k : Nat) (g : StpUnit → StpUnit) : (s.updStpOf k g).pair = s.pair := rfl
@[simp] theorem updStpOf_gates (k : Nat) (g : StpUnit → StpUnit) : (s.updStpOf k g).gates = s.gates := rfl
@[simp] theorem updStpOf_doors (k : Nat) (g : StpUnit → StpUnit) : (s.updStpOf k g).doors = s.doors := rfl
@[simp] theorem updStpOf_streams (k : Nat) (g : StpUnit → StpUnit) : (s.updStpOf k g).streams = s.streams := rfl
@[simp] theorem updStpOf_wins (k : Nat) (g : StpUnit → StpUnit) : (s.updStpOf k g).wins = s.wins := rfl
@[simp] theorem updStpOf_winAlive (k : Nat) (g : StpUnit → StpUnit) : (s.updStpOf k g).winAlive = s.winAlive := rfl
@[simp] theorem updStpOf_scans (k : Nat) (g : StpUnit → StpUnit) : (s.updStpOf k g).scans = s.scans := rfl
@[simp] theorem updStpOf_taps (k : Nat) (g : StpUnit → StpUnit) : (s.updStpOf k g).taps = s.taps := rfl
@[simp] theorem updStpOf_cores (k : Nat) (g : StpUnit → StpUnit) : (s.updStpOf k g).cores = s.cores := rfl
@[simp] theorem updStpOf_ports (k : Nat) (g : StpUnit → StpUnit) : (s.updStpOf k g).ports = s.ports := rfl
@[simp] theorem updStpOf_adj (k : Nat) (g : StpUnit → StpUnit) : (s.updStpOf k g).adj = s.adj := rfl
@[simp] theorem updStpOf_rpl (k : Nat) (g : StpUnit → StpUnit) : (s.updStpOf k g).rpl = s.rpl := rfl
@[simp] theorem updStpOf_steps (k : Nat) (g : StpUnit → StpUnit) : (s.updStpOf k g).steps = s.steps := rfl
@[simp] theorem updStpOf_verdicts (k : Nat) (g : StpUnit → StpUnit) : (s.updStpOf k g).verdicts = s.verdicts := rfl
@[simp] theorem updStpOf_replays (k : Nat) (g : StpUnit → StpUnit) : (s.updStpOf k g).replays = s.replays := rfl
@[simp] theorem updStpOf_setsOpened (k : Nat) (g : StpUnit → StpUnit) : (s.updStpOf k g).setsOpened = s.setsOpened := rfl
@[simp] theorem updStpOf_ctxs (k : Nat) (g : StpUnit → StpUnit) : (s.updStpOf k g).ctxs = s.ctxs := rfl
@[simp] theorem updStpOf_hist (k : Nat) (g : StpUnit → StpUnit) : (s.updStpOf k g).hist = s.hist := rfl
@[simp] theorem updStpOf_histStaged (k : Nat) (g : StpUnit → StpUnit) : (s.updStpOf k g).histStaged = s.histStaged := rfl
@[simp] theorem updStpOf_histLatch (k : Nat) (g : StpUnit → StpUnit) : (s.updStpOf k g).histLatch = s.histLatch := rfl
@[simp] theorem updStpOf_drainSince (k : Nat) (g : StpUnit → StpUnit) : (s.updStpOf k g).drainSince = s.drainSince := rfl
@[simp] theorem updStpOf_halls (k : Nat) (g : StpUnit → StpUnit) : (s.updStpOf k g).halls = s.halls := rfl
@[simp] theorem updStpOf_resets (k : Nat) (g : StpUnit → StpUnit) : (s.updStpOf k g).resets = s.resets := rfl
@[simp] theorem updStpOf_hangs (k : Nat) (g : StpUnit → StpUnit) : (s.updStpOf k g).hangs = s.hangs := rfl
@[simp] theorem updStpOf_cut (k : Nat) (g : StpUnit → StpUnit) : (s.updStpOf k g).cut = s.cut := rfl
@[simp] theorem updStpOf_cutNo (k : Nat) (g : StpUnit → StpUnit) : (s.updStpOf k g).cutNo = s.cutNo := rfl
@[simp] theorem updStpOf_cutDue (k : Nat) (g : StpUnit → StpUnit) : (s.updStpOf k g).cutDue = s.cutDue := rfl
@[simp] theorem updStpOf_cutUnits (k : Nat) (g : StpUnit → StpUnit) : (s.updStpOf k g).cutUnits = s.cutUnits := rfl
@[simp] theorem updStpOf_chans (k : Nat) (g : StpUnit → StpUnit) : (s.updStpOf k g).chans = s.chans := rfl
@[simp] theorem updStpOf_stop (k : Nat) (g : StpUnit → StpUnit) : (s.updStpOf k g).stop = s.stop := rfl
@[simp] theorem updStpOf_voids (k : Nat) (g : StpUnit → StpUnit) : (s.updStpOf k g).voids = s.voids := rfl
@[simp] theorem updStpOf_bins (k : Nat) (g : StpUnit → StpUnit) : (s.updStpOf k g).bins = s.bins := rfl
@[simp] theorem updStpOf_bank (k : Nat) (g : StpUnit → StpUnit) : (s.updStpOf k g).bank = s.bank := rfl
@[simp] theorem updStpOf_segs (k : Nat) (g : StpUnit → StpUnit) : (s.updStpOf k g).segs = s.segs := rfl
@[simp] theorem updStpOf_attic (k : Nat) (g : StpUnit → StpUnit) : (s.updStpOf k g).attic = s.attic := rfl
@[simp] theorem updStpOf_mem (k : Nat) (g : StpUnit → StpUnit) : (s.updStpOf k g).mem = s.mem := rfl
@[simp] theorem updStpOf_variant (k : Nat) (g : StpUnit → StpUnit) : (s.updStpOf k g).variant = s.variant := rfl
@[simp] theorem updStpOf_mbx (k : Nat) (g : StpUnit → StpUnit) : (s.updStpOf k g).mbx = s.mbx := rfl
@[simp] theorem updStpOf_twk (k : Nat) (g : StpUnit → StpUnit) : (s.updStpOf k g).twk = s.twk := rfl
@[simp] theorem updStpOf_mgt (k : Nat) (g : StpUnit → StpUnit) : (s.updStpOf k g).mgt = s.mgt := rfl
@[simp] theorem updStpOf_dbg (k : Nat) (g : StpUnit → StpUnit) : (s.updStpOf k g).dbg = s.dbg := rfl
@[simp] theorem updStpOf_cels (k : Nat) (g : StpUnit → StpUnit) : (s.updStpOf k g).cels = s.cels := rfl
@[simp] theorem updStpOf_reloads (k : Nat) (g : StpUnit → StpUnit) : (s.updStpOf k g).reloads = s.reloads := rfl
@[simp] theorem updStpOf_chanMap (k : Nat) (g : StpUnit → StpUnit) : (s.updStpOf k g).chanMap = s.chanMap := rfl
@[simp] theorem updStpOf_descCopy (k : Nat) (g : StpUnit → StpUnit) : (s.updStpOf k g).descCopy = s.descCopy := rfl
@[simp] theorem updStpOf_seeds (k : Nat) (g : StpUnit → StpUnit) : (s.updStpOf k g).seeds = s.seeds := rfl
@[simp] theorem updStpOf_idleKills (k : Nat) (g : StpUnit → StpUnit) : (s.updStpOf k g).idleKills = s.idleKills := rfl
@[simp] theorem updStpOf_prv (k : Nat) (g : StpUnit → StpUnit) : (s.updStpOf k g).prv = s.prv := rfl
@[simp] theorem updStpOf_pairs (k : Nat) (g : StpUnit → StpUnit) : (s.updStpOf k g).pairs = s.pairs := rfl
@[simp] theorem updStpOf_steepFirst (k : Nat) (g : StpUnit → StpUnit) : (s.updStpOf k g).steepFirst = s.steepFirst := rfl
@[simp] theorem updStpOf_engs (k : Nat) (g : StpUnit → StpUnit) : (s.updStpOf k g).engs = s.engs := rfl
@[simp] theorem updStpOf_plan (k : Nat) (g : StpUnit → StpUnit) : (s.updStpOf k g).plan = s.plan := rfl
@[simp] theorem updStpOf_grist (k : Nat) (g : StpUnit → StpUnit) : (s.updStpOf k g).grist = s.grist := rfl
@[simp] theorem updStpOf_ana (k : Nat) (g : StpUnit → StpUnit) : (s.updStpOf k g).ana = s.ana := rfl
@[simp] theorem updStpOf_dl (k : Nat) (g : StpUnit → StpUnit) : (s.updStpOf k g).dl = s.dl := rfl
@[simp] theorem updStpOf_fw (k : Nat) (g : StpUnit → StpUnit) : (s.updStpOf k g).fw = s.fw := rfl
@[simp] theorem updStpOf_sens (k : Nat) (g : StpUnit → StpUnit) : (s.updStpOf k g).sens = s.sens := rfl
@[simp] theorem updStpOf_thm (k : Nat) (g : StpUnit → StpUnit) : (s.updStpOf k g).thm = s.thm := rfl
@[simp] theorem updStpOf_emerg (k : Nat) (g : StpUnit → StpUnit) : (s.updStpOf k g).emerg = s.emerg := rfl
@[simp] theorem updStpOf_pad (k : Nat) (g : StpUnit → StpUnit) : (s.updStpOf k g).pad = s.pad := rfl
@[simp] theorem updStpOf_resetsDue (k : Nat) (g : StpUnit → StpUnit) : (s.updStpOf k g).resetsDue = s.resetsDue := rfl
@[simp] theorem updStpOf_latch (k : Nat) (g : StpUnit → StpUnit) : (s.updStpOf k g).latch = s.latch := rfl
@[simp] theorem updStpOf_tree (k : Nat) (g : StpUnit → StpUnit) : (s.updStpOf k g).tree = s.tree := rfl
@[simp] theorem updStpOf_refLost (k : Nat) (g : StpUnit → StpUnit) : (s.updStpOf k g).refLost = s.refLost := rfl
@[simp] theorem updStpOf_histFlash (k : Nat) (g : StpUnit → StpUnit) : (s.updStpOf k g).histFlash = s.histFlash := rfl
@[simp] theorem updStpOf_tickAt (k : Nat) (g : StpUnit → StpUnit) : (s.updStpOf k g).tickAt = s.tickAt := rfl
@[simp] theorem updStpOf_passSeen (k : Nat) (g : StpUnit → StpUnit) : (s.updStpOf k g).passSeen = s.passSeen := rfl

/-! The entries of `engs`. -/
@[simp] theorem eng_updEng_same (k : Nat) (g : Option StpRun → Option StpRun) : (s.updEng k g).eng k = g (s.eng k) := Tab.get_upd_same _ _ _ _
theorem eng_updEng_other {k j : Nat} (h : j ≠ k) (g : Option StpRun → Option StpRun) : (s.updEng k g).eng j = s.eng j := Tab.get_upd_other _ _ h _
theorem eng_congr {t : State} (h : t.engs = s.engs) (k : Nat) : t.eng k = s.eng k := by unfold State.eng; rw [h]
@[simp] theorem updEng_pending (k : Nat) (g : Option StpRun → Option StpRun) : (s.updEng k g).pending = s.pending := rfl
@[simp] theorem updEng_wall (k : Nat) (g : Option StpRun → Option StpRun) : (s.updEng k g).wall = s.wall := rfl
@[simp] theorem updEng_fresh (k : Nat) (g : Option StpRun → Option StpRun) : (s.updEng k g).fresh = s.fresh := rfl
@[simp] theorem updEng_regs (k : Nat) (g : Option StpRun → Option StpRun) : (s.updEng k g).regs = s.regs := rfl
@[simp] theorem updEng_ecnt (k : Nat) (g : Option StpRun → Option StpRun) : (s.updEng k g).ecnt = s.ecnt := rfl
@[simp] theorem updEng_rcnt (k : Nat) (g : Option StpRun → Option StpRun) : (s.updEng k g).rcnt = s.rcnt := rfl
@[simp] theorem updEng_fill (k : Nat) (g : Option StpRun → Option StpRun) : (s.updEng k g).fill = s.fill := rfl
@[simp] theorem updEng_shown (k : Nat) (g : Option StpRun → Option StpRun) : (s.updEng k g).shown = s.shown := rfl
@[simp] theorem updEng_units (k : Nat) (g : Option StpRun → Option StpRun) : (s.updEng k g).units = s.units := rfl
@[simp] theorem updEng_transit (k : Nat) (g : Option StpRun → Option StpRun) : (s.updEng k g).transit = s.transit := rfl
@[simp] theorem updEng_marks (k : Nat) (g : Option StpRun → Option StpRun) : (s.updEng k g).marks = s.marks := rfl
@[simp] theorem updEng_sent (k : Nat) (g : Option StpRun → Option StpRun) : (s.updEng k g).sent = s.sent := rfl
@[simp] theorem updEng_routers (k : Nat) (g : Option StpRun → Option StpRun) : (s.updEng k g).routers = s.routers := rfl
@[simp] theorem updEng_hops (k : Nat) (g : Option StpRun → Option StpRun) : (s.updEng k g).hops = s.hops := rfl
@[simp] theorem updEng_tablesDue (k : Nat) (g : Option StpRun → Option StpRun) : (s.updEng k g).tablesDue = s.tablesDue := rfl
@[simp] theorem updEng_cutoff (k : Nat) (g : Option StpRun → Option StpRun) : (s.updEng k g).cutoff = s.cutoff := rfl
@[simp] theorem updEng_delays (k : Nat) (g : Option StpRun → Option StpRun) : (s.updEng k g).delays = s.delays := rfl
@[simp] theorem updEng_clocks (k : Nat) (g : Option StpRun → Option StpRun) : (s.updEng k g).clocks = s.clocks := rfl
@[simp] theorem updEng_pair (k : Nat) (g : Option StpRun → Option StpRun) : (s.updEng k g).pair = s.pair := rfl
@[simp] theorem updEng_gates (k : Nat) (g : Option StpRun → Option StpRun) : (s.updEng k g).gates = s.gates := rfl
@[simp] theorem updEng_doors (k : Nat) (g : Option StpRun → Option StpRun) : (s.updEng k g).doors = s.doors := rfl
@[simp] theorem updEng_streams (k : Nat) (g : Option StpRun → Option StpRun) : (s.updEng k g).streams = s.streams := rfl
@[simp] theorem updEng_wins (k : Nat) (g : Option StpRun → Option StpRun) : (s.updEng k g).wins = s.wins := rfl
@[simp] theorem updEng_winAlive (k : Nat) (g : Option StpRun → Option StpRun) : (s.updEng k g).winAlive = s.winAlive := rfl
@[simp] theorem updEng_scans (k : Nat) (g : Option StpRun → Option StpRun) : (s.updEng k g).scans = s.scans := rfl
@[simp] theorem updEng_taps (k : Nat) (g : Option StpRun → Option StpRun) : (s.updEng k g).taps = s.taps := rfl
@[simp] theorem updEng_cores (k : Nat) (g : Option StpRun → Option StpRun) : (s.updEng k g).cores = s.cores := rfl
@[simp] theorem updEng_ports (k : Nat) (g : Option StpRun → Option StpRun) : (s.updEng k g).ports = s.ports := rfl
@[simp] theorem updEng_adj (k : Nat) (g : Option StpRun → Option StpRun) : (s.updEng k g).adj = s.adj := rfl
@[simp] theorem updEng_rpl (k : Nat) (g : Option StpRun → Option StpRun) : (s.updEng k g).rpl = s.rpl := rfl
@[simp] theorem updEng_steps (k : Nat) (g : Option StpRun → Option StpRun) : (s.updEng k g).steps = s.steps := rfl
@[simp] theorem updEng_verdicts (k : Nat) (g : Option StpRun → Option StpRun) : (s.updEng k g).verdicts = s.verdicts := rfl
@[simp] theorem updEng_replays (k : Nat) (g : Option StpRun → Option StpRun) : (s.updEng k g).replays = s.replays := rfl
@[simp] theorem updEng_setsOpened (k : Nat) (g : Option StpRun → Option StpRun) : (s.updEng k g).setsOpened = s.setsOpened := rfl
@[simp] theorem updEng_ctxs (k : Nat) (g : Option StpRun → Option StpRun) : (s.updEng k g).ctxs = s.ctxs := rfl
@[simp] theorem updEng_hist (k : Nat) (g : Option StpRun → Option StpRun) : (s.updEng k g).hist = s.hist := rfl
@[simp] theorem updEng_histStaged (k : Nat) (g : Option StpRun → Option StpRun) : (s.updEng k g).histStaged = s.histStaged := rfl
@[simp] theorem updEng_histLatch (k : Nat) (g : Option StpRun → Option StpRun) : (s.updEng k g).histLatch = s.histLatch := rfl
@[simp] theorem updEng_drainSince (k : Nat) (g : Option StpRun → Option StpRun) : (s.updEng k g).drainSince = s.drainSince := rfl
@[simp] theorem updEng_halls (k : Nat) (g : Option StpRun → Option StpRun) : (s.updEng k g).halls = s.halls := rfl
@[simp] theorem updEng_resets (k : Nat) (g : Option StpRun → Option StpRun) : (s.updEng k g).resets = s.resets := rfl
@[simp] theorem updEng_hangs (k : Nat) (g : Option StpRun → Option StpRun) : (s.updEng k g).hangs = s.hangs := rfl
@[simp] theorem updEng_cut (k : Nat) (g : Option StpRun → Option StpRun) : (s.updEng k g).cut = s.cut := rfl
@[simp] theorem updEng_cutNo (k : Nat) (g : Option StpRun → Option StpRun) : (s.updEng k g).cutNo = s.cutNo := rfl
@[simp] theorem updEng_cutDue (k : Nat) (g : Option StpRun → Option StpRun) : (s.updEng k g).cutDue = s.cutDue := rfl
@[simp] theorem updEng_cutUnits (k : Nat) (g : Option StpRun → Option StpRun) : (s.updEng k g).cutUnits = s.cutUnits := rfl
@[simp] theorem updEng_chans (k : Nat) (g : Option StpRun → Option StpRun) : (s.updEng k g).chans = s.chans := rfl
@[simp] theorem updEng_stop (k : Nat) (g : Option StpRun → Option StpRun) : (s.updEng k g).stop = s.stop := rfl
@[simp] theorem updEng_voids (k : Nat) (g : Option StpRun → Option StpRun) : (s.updEng k g).voids = s.voids := rfl
@[simp] theorem updEng_bins (k : Nat) (g : Option StpRun → Option StpRun) : (s.updEng k g).bins = s.bins := rfl
@[simp] theorem updEng_bank (k : Nat) (g : Option StpRun → Option StpRun) : (s.updEng k g).bank = s.bank := rfl
@[simp] theorem updEng_segs (k : Nat) (g : Option StpRun → Option StpRun) : (s.updEng k g).segs = s.segs := rfl
@[simp] theorem updEng_attic (k : Nat) (g : Option StpRun → Option StpRun) : (s.updEng k g).attic = s.attic := rfl
@[simp] theorem updEng_mem (k : Nat) (g : Option StpRun → Option StpRun) : (s.updEng k g).mem = s.mem := rfl
@[simp] theorem updEng_variant (k : Nat) (g : Option StpRun → Option StpRun) : (s.updEng k g).variant = s.variant := rfl
@[simp] theorem updEng_mbx (k : Nat) (g : Option StpRun → Option StpRun) : (s.updEng k g).mbx = s.mbx := rfl
@[simp] theorem updEng_twk (k : Nat) (g : Option StpRun → Option StpRun) : (s.updEng k g).twk = s.twk := rfl
@[simp] theorem updEng_mgt (k : Nat) (g : Option StpRun → Option StpRun) : (s.updEng k g).mgt = s.mgt := rfl
@[simp] theorem updEng_dbg (k : Nat) (g : Option StpRun → Option StpRun) : (s.updEng k g).dbg = s.dbg := rfl
@[simp] theorem updEng_cels (k : Nat) (g : Option StpRun → Option StpRun) : (s.updEng k g).cels = s.cels := rfl
@[simp] theorem updEng_reloads (k : Nat) (g : Option StpRun → Option StpRun) : (s.updEng k g).reloads = s.reloads := rfl
@[simp] theorem updEng_chanMap (k : Nat) (g : Option StpRun → Option StpRun) : (s.updEng k g).chanMap = s.chanMap := rfl
@[simp] theorem updEng_descCopy (k : Nat) (g : Option StpRun → Option StpRun) : (s.updEng k g).descCopy = s.descCopy := rfl
@[simp] theorem updEng_seeds (k : Nat) (g : Option StpRun → Option StpRun) : (s.updEng k g).seeds = s.seeds := rfl
@[simp] theorem updEng_idleKills (k : Nat) (g : Option StpRun → Option StpRun) : (s.updEng k g).idleKills = s.idleKills := rfl
@[simp] theorem updEng_prv (k : Nat) (g : Option StpRun → Option StpRun) : (s.updEng k g).prv = s.prv := rfl
@[simp] theorem updEng_pairs (k : Nat) (g : Option StpRun → Option StpRun) : (s.updEng k g).pairs = s.pairs := rfl
@[simp] theorem updEng_steepFirst (k : Nat) (g : Option StpRun → Option StpRun) : (s.updEng k g).steepFirst = s.steepFirst := rfl
@[simp] theorem updEng_stp (k : Nat) (g : Option StpRun → Option StpRun) : (s.updEng k g).stp = s.stp := rfl
@[simp] theorem updEng_plan (k : Nat) (g : Option StpRun → Option StpRun) : (s.updEng k g).plan = s.plan := rfl
@[simp] theorem updEng_grist (k : Nat) (g : Option StpRun → Option StpRun) : (s.updEng k g).grist = s.grist := rfl
@[simp] theorem updEng_ana (k : Nat) (g : Option StpRun → Option StpRun) : (s.updEng k g).ana = s.ana := rfl
@[simp] theorem updEng_dl (k : Nat) (g : Option StpRun → Option StpRun) : (s.updEng k g).dl = s.dl := rfl
@[simp] theorem updEng_fw (k : Nat) (g : Option StpRun → Option StpRun) : (s.updEng k g).fw = s.fw := rfl
@[simp] theorem updEng_sens (k : Nat) (g : Option StpRun → Option StpRun) : (s.updEng k g).sens = s.sens := rfl
@[simp] theorem updEng_thm (k : Nat) (g : Option StpRun → Option StpRun) : (s.updEng k g).thm = s.thm := rfl
@[simp] theorem updEng_emerg (k : Nat) (g : Option StpRun → Option StpRun) : (s.updEng k g).emerg = s.emerg := rfl
@[simp] theorem updEng_pad (k : Nat) (g : Option StpRun → Option StpRun) : (s.updEng k g).pad = s.pad := rfl
@[simp] theorem updEng_resetsDue (k : Nat) (g : Option StpRun → Option StpRun) : (s.updEng k g).resetsDue = s.resetsDue := rfl
@[simp] theorem updEng_latch (k : Nat) (g : Option StpRun → Option StpRun) : (s.updEng k g).latch = s.latch := rfl
@[simp] theorem updEng_tree (k : Nat) (g : Option StpRun → Option StpRun) : (s.updEng k g).tree = s.tree := rfl
@[simp] theorem updEng_refLost (k : Nat) (g : Option StpRun → Option StpRun) : (s.updEng k g).refLost = s.refLost := rfl
@[simp] theorem updEng_histFlash (k : Nat) (g : Option StpRun → Option StpRun) : (s.updEng k g).histFlash = s.histFlash := rfl
@[simp] theorem updEng_tickAt (k : Nat) (g : Option StpRun → Option StpRun) : (s.updEng k g).tickAt = s.tickAt := rfl
@[simp] theorem updEng_passSeen (k : Nat) (g : Option StpRun → Option StpRun) : (s.updEng k g).passSeen = s.passSeen := rfl

/-! The entries of `sens`. -/
@[simp] theorem sensor_updSensor_same (k : Nat) (g : SensorSt → SensorSt) : (s.updSensor k g).sensor k = g (s.sensor k) := Tab.get_upd_same _ _ _ _
theorem sensor_updSensor_other {k j : Nat} (h : j ≠ k) (g : SensorSt → SensorSt) : (s.updSensor k g).sensor j = s.sensor j := Tab.get_upd_other _ _ h _
theorem sensor_congr {t : State} (h : t.sens = s.sens) (k : Nat) : t.sensor k = s.sensor k := by unfold State.sensor; rw [h]
@[simp] theorem updSensor_pending (k : Nat) (g : SensorSt → SensorSt) : (s.updSensor k g).pending = s.pending := rfl
@[simp] theorem updSensor_wall (k : Nat) (g : SensorSt → SensorSt) : (s.updSensor k g).wall = s.wall := rfl
@[simp] theorem updSensor_fresh (k : Nat) (g : SensorSt → SensorSt) : (s.updSensor k g).fresh = s.fresh := rfl
@[simp] theorem updSensor_regs (k : Nat) (g : SensorSt → SensorSt) : (s.updSensor k g).regs = s.regs := rfl
@[simp] theorem updSensor_ecnt (k : Nat) (g : SensorSt → SensorSt) : (s.updSensor k g).ecnt = s.ecnt := rfl
@[simp] theorem updSensor_rcnt (k : Nat) (g : SensorSt → SensorSt) : (s.updSensor k g).rcnt = s.rcnt := rfl
@[simp] theorem updSensor_fill (k : Nat) (g : SensorSt → SensorSt) : (s.updSensor k g).fill = s.fill := rfl
@[simp] theorem updSensor_shown (k : Nat) (g : SensorSt → SensorSt) : (s.updSensor k g).shown = s.shown := rfl
@[simp] theorem updSensor_units (k : Nat) (g : SensorSt → SensorSt) : (s.updSensor k g).units = s.units := rfl
@[simp] theorem updSensor_transit (k : Nat) (g : SensorSt → SensorSt) : (s.updSensor k g).transit = s.transit := rfl
@[simp] theorem updSensor_marks (k : Nat) (g : SensorSt → SensorSt) : (s.updSensor k g).marks = s.marks := rfl
@[simp] theorem updSensor_sent (k : Nat) (g : SensorSt → SensorSt) : (s.updSensor k g).sent = s.sent := rfl
@[simp] theorem updSensor_routers (k : Nat) (g : SensorSt → SensorSt) : (s.updSensor k g).routers = s.routers := rfl
@[simp] theorem updSensor_hops (k : Nat) (g : SensorSt → SensorSt) : (s.updSensor k g).hops = s.hops := rfl
@[simp] theorem updSensor_tablesDue (k : Nat) (g : SensorSt → SensorSt) : (s.updSensor k g).tablesDue = s.tablesDue := rfl
@[simp] theorem updSensor_cutoff (k : Nat) (g : SensorSt → SensorSt) : (s.updSensor k g).cutoff = s.cutoff := rfl
@[simp] theorem updSensor_delays (k : Nat) (g : SensorSt → SensorSt) : (s.updSensor k g).delays = s.delays := rfl
@[simp] theorem updSensor_clocks (k : Nat) (g : SensorSt → SensorSt) : (s.updSensor k g).clocks = s.clocks := rfl
@[simp] theorem updSensor_pair (k : Nat) (g : SensorSt → SensorSt) : (s.updSensor k g).pair = s.pair := rfl
@[simp] theorem updSensor_gates (k : Nat) (g : SensorSt → SensorSt) : (s.updSensor k g).gates = s.gates := rfl
@[simp] theorem updSensor_doors (k : Nat) (g : SensorSt → SensorSt) : (s.updSensor k g).doors = s.doors := rfl
@[simp] theorem updSensor_streams (k : Nat) (g : SensorSt → SensorSt) : (s.updSensor k g).streams = s.streams := rfl
@[simp] theorem updSensor_wins (k : Nat) (g : SensorSt → SensorSt) : (s.updSensor k g).wins = s.wins := rfl
@[simp] theorem updSensor_winAlive (k : Nat) (g : SensorSt → SensorSt) : (s.updSensor k g).winAlive = s.winAlive := rfl
@[simp] theorem updSensor_scans (k : Nat) (g : SensorSt → SensorSt) : (s.updSensor k g).scans = s.scans := rfl
@[simp] theorem updSensor_taps (k : Nat) (g : SensorSt → SensorSt) : (s.updSensor k g).taps = s.taps := rfl
@[simp] theorem updSensor_cores (k : Nat) (g : SensorSt → SensorSt) : (s.updSensor k g).cores = s.cores := rfl
@[simp] theorem updSensor_ports (k : Nat) (g : SensorSt → SensorSt) : (s.updSensor k g).ports = s.ports := rfl
@[simp] theorem updSensor_adj (k : Nat) (g : SensorSt → SensorSt) : (s.updSensor k g).adj = s.adj := rfl
@[simp] theorem updSensor_rpl (k : Nat) (g : SensorSt → SensorSt) : (s.updSensor k g).rpl = s.rpl := rfl
@[simp] theorem updSensor_steps (k : Nat) (g : SensorSt → SensorSt) : (s.updSensor k g).steps = s.steps := rfl
@[simp] theorem updSensor_verdicts (k : Nat) (g : SensorSt → SensorSt) : (s.updSensor k g).verdicts = s.verdicts := rfl
@[simp] theorem updSensor_replays (k : Nat) (g : SensorSt → SensorSt) : (s.updSensor k g).replays = s.replays := rfl
@[simp] theorem updSensor_setsOpened (k : Nat) (g : SensorSt → SensorSt) : (s.updSensor k g).setsOpened = s.setsOpened := rfl
@[simp] theorem updSensor_ctxs (k : Nat) (g : SensorSt → SensorSt) : (s.updSensor k g).ctxs = s.ctxs := rfl
@[simp] theorem updSensor_hist (k : Nat) (g : SensorSt → SensorSt) : (s.updSensor k g).hist = s.hist := rfl
@[simp] theorem updSensor_histStaged (k : Nat) (g : SensorSt → SensorSt) : (s.updSensor k g).histStaged = s.histStaged := rfl
@[simp] theorem updSensor_histLatch (k : Nat) (g : SensorSt → SensorSt) : (s.updSensor k g).histLatch = s.histLatch := rfl
@[simp] theorem updSensor_drainSince (k : Nat) (g : SensorSt → SensorSt) : (s.updSensor k g).drainSince = s.drainSince := rfl
@[simp] theorem updSensor_halls (k : Nat) (g : SensorSt → SensorSt) : (s.updSensor k g).halls = s.halls := rfl
@[simp] theorem updSensor_resets (k : Nat) (g : SensorSt → SensorSt) : (s.updSensor k g).resets = s.resets := rfl
@[simp] theorem updSensor_hangs (k : Nat) (g : SensorSt → SensorSt) : (s.updSensor k g).hangs = s.hangs := rfl
@[simp] theorem updSensor_cut (k : Nat) (g : SensorSt → SensorSt) : (s.updSensor k g).cut = s.cut := rfl
@[simp] theorem updSensor_cutNo (k : Nat) (g : SensorSt → SensorSt) : (s.updSensor k g).cutNo = s.cutNo := rfl
@[simp] theorem updSensor_cutDue (k : Nat) (g : SensorSt → SensorSt) : (s.updSensor k g).cutDue = s.cutDue := rfl
@[simp] theorem updSensor_cutUnits (k : Nat) (g : SensorSt → SensorSt) : (s.updSensor k g).cutUnits = s.cutUnits := rfl
@[simp] theorem updSensor_chans (k : Nat) (g : SensorSt → SensorSt) : (s.updSensor k g).chans = s.chans := rfl
@[simp] theorem updSensor_stop (k : Nat) (g : SensorSt → SensorSt) : (s.updSensor k g).stop = s.stop := rfl
@[simp] theorem updSensor_voids (k : Nat) (g : SensorSt → SensorSt) : (s.updSensor k g).voids = s.voids := rfl
@[simp] theorem updSensor_bins (k : Nat) (g : SensorSt → SensorSt) : (s.updSensor k g).bins = s.bins := rfl
@[simp] theorem updSensor_bank (k : Nat) (g : SensorSt → SensorSt) : (s.updSensor k g).bank = s.bank := rfl
@[simp] theorem updSensor_segs (k : Nat) (g : SensorSt → SensorSt) : (s.updSensor k g).segs = s.segs := rfl
@[simp] theorem updSensor_attic (k : Nat) (g : SensorSt → SensorSt) : (s.updSensor k g).attic = s.attic := rfl
@[simp] theorem updSensor_mem (k : Nat) (g : SensorSt → SensorSt) : (s.updSensor k g).mem = s.mem := rfl
@[simp] theorem updSensor_variant (k : Nat) (g : SensorSt → SensorSt) : (s.updSensor k g).variant = s.variant := rfl
@[simp] theorem updSensor_mbx (k : Nat) (g : SensorSt → SensorSt) : (s.updSensor k g).mbx = s.mbx := rfl
@[simp] theorem updSensor_twk (k : Nat) (g : SensorSt → SensorSt) : (s.updSensor k g).twk = s.twk := rfl
@[simp] theorem updSensor_mgt (k : Nat) (g : SensorSt → SensorSt) : (s.updSensor k g).mgt = s.mgt := rfl
@[simp] theorem updSensor_dbg (k : Nat) (g : SensorSt → SensorSt) : (s.updSensor k g).dbg = s.dbg := rfl
@[simp] theorem updSensor_cels (k : Nat) (g : SensorSt → SensorSt) : (s.updSensor k g).cels = s.cels := rfl
@[simp] theorem updSensor_reloads (k : Nat) (g : SensorSt → SensorSt) : (s.updSensor k g).reloads = s.reloads := rfl
@[simp] theorem updSensor_chanMap (k : Nat) (g : SensorSt → SensorSt) : (s.updSensor k g).chanMap = s.chanMap := rfl
@[simp] theorem updSensor_descCopy (k : Nat) (g : SensorSt → SensorSt) : (s.updSensor k g).descCopy = s.descCopy := rfl
@[simp] theorem updSensor_seeds (k : Nat) (g : SensorSt → SensorSt) : (s.updSensor k g).seeds = s.seeds := rfl
@[simp] theorem updSensor_idleKills (k : Nat) (g : SensorSt → SensorSt) : (s.updSensor k g).idleKills = s.idleKills := rfl
@[simp] theorem updSensor_prv (k : Nat) (g : SensorSt → SensorSt) : (s.updSensor k g).prv = s.prv := rfl
@[simp] theorem updSensor_pairs (k : Nat) (g : SensorSt → SensorSt) : (s.updSensor k g).pairs = s.pairs := rfl
@[simp] theorem updSensor_steepFirst (k : Nat) (g : SensorSt → SensorSt) : (s.updSensor k g).steepFirst = s.steepFirst := rfl
@[simp] theorem updSensor_stp (k : Nat) (g : SensorSt → SensorSt) : (s.updSensor k g).stp = s.stp := rfl
@[simp] theorem updSensor_engs (k : Nat) (g : SensorSt → SensorSt) : (s.updSensor k g).engs = s.engs := rfl
@[simp] theorem updSensor_plan (k : Nat) (g : SensorSt → SensorSt) : (s.updSensor k g).plan = s.plan := rfl
@[simp] theorem updSensor_grist (k : Nat) (g : SensorSt → SensorSt) : (s.updSensor k g).grist = s.grist := rfl
@[simp] theorem updSensor_ana (k : Nat) (g : SensorSt → SensorSt) : (s.updSensor k g).ana = s.ana := rfl
@[simp] theorem updSensor_dl (k : Nat) (g : SensorSt → SensorSt) : (s.updSensor k g).dl = s.dl := rfl
@[simp] theorem updSensor_fw (k : Nat) (g : SensorSt → SensorSt) : (s.updSensor k g).fw = s.fw := rfl
@[simp] theorem updSensor_thm (k : Nat) (g : SensorSt → SensorSt) : (s.updSensor k g).thm = s.thm := rfl
@[simp] theorem updSensor_emerg (k : Nat) (g : SensorSt → SensorSt) : (s.updSensor k g).emerg = s.emerg := rfl
@[simp] theorem updSensor_pad (k : Nat) (g : SensorSt → SensorSt) : (s.updSensor k g).pad = s.pad := rfl
@[simp] theorem updSensor_resetsDue (k : Nat) (g : SensorSt → SensorSt) : (s.updSensor k g).resetsDue = s.resetsDue := rfl
@[simp] theorem updSensor_latch (k : Nat) (g : SensorSt → SensorSt) : (s.updSensor k g).latch = s.latch := rfl
@[simp] theorem updSensor_tree (k : Nat) (g : SensorSt → SensorSt) : (s.updSensor k g).tree = s.tree := rfl
@[simp] theorem updSensor_refLost (k : Nat) (g : SensorSt → SensorSt) : (s.updSensor k g).refLost = s.refLost := rfl
@[simp] theorem updSensor_histFlash (k : Nat) (g : SensorSt → SensorSt) : (s.updSensor k g).histFlash = s.histFlash := rfl
@[simp] theorem updSensor_tickAt (k : Nat) (g : SensorSt → SensorSt) : (s.updSensor k g).tickAt = s.tickAt := rfl
@[simp] theorem updSensor_passSeen (k : Nat) (g : SensorSt → SensorSt) : (s.updSensor k g).passSeen = s.passSeen := rfl

/-! The entries of `thm`. -/
@[simp] theorem thmOf_updThmOf_same (k : Nat) (g : ThmSt → ThmSt) : (s.updThmOf k g).thmOf k = g (s.thmOf k) := Tab.get_upd_same _ _ _ _
theorem thmOf_updThmOf_other {k j : Nat} (h : j ≠ k) (g : ThmSt → ThmSt) : (s.updThmOf k g).thmOf j = s.thmOf j := Tab.get_upd_other _ _ h _
theorem thmOf_congr {t : State} (h : t.thm = s.thm) (k : Nat) : t.thmOf k = s.thmOf k := by unfold State.thmOf; rw [h]
@[simp] theorem updThmOf_pending (k : Nat) (g : ThmSt → ThmSt) : (s.updThmOf k g).pending = s.pending := rfl
@[simp] theorem updThmOf_wall (k : Nat) (g : ThmSt → ThmSt) : (s.updThmOf k g).wall = s.wall := rfl
@[simp] theorem updThmOf_fresh (k : Nat) (g : ThmSt → ThmSt) : (s.updThmOf k g).fresh = s.fresh := rfl
@[simp] theorem updThmOf_regs (k : Nat) (g : ThmSt → ThmSt) : (s.updThmOf k g).regs = s.regs := rfl
@[simp] theorem updThmOf_ecnt (k : Nat) (g : ThmSt → ThmSt) : (s.updThmOf k g).ecnt = s.ecnt := rfl
@[simp] theorem updThmOf_rcnt (k : Nat) (g : ThmSt → ThmSt) : (s.updThmOf k g).rcnt = s.rcnt := rfl
@[simp] theorem updThmOf_fill (k : Nat) (g : ThmSt → ThmSt) : (s.updThmOf k g).fill = s.fill := rfl
@[simp] theorem updThmOf_shown (k : Nat) (g : ThmSt → ThmSt) : (s.updThmOf k g).shown = s.shown := rfl
@[simp] theorem updThmOf_units (k : Nat) (g : ThmSt → ThmSt) : (s.updThmOf k g).units = s.units := rfl
@[simp] theorem updThmOf_transit (k : Nat) (g : ThmSt → ThmSt) : (s.updThmOf k g).transit = s.transit := rfl
@[simp] theorem updThmOf_marks (k : Nat) (g : ThmSt → ThmSt) : (s.updThmOf k g).marks = s.marks := rfl
@[simp] theorem updThmOf_sent (k : Nat) (g : ThmSt → ThmSt) : (s.updThmOf k g).sent = s.sent := rfl
@[simp] theorem updThmOf_routers (k : Nat) (g : ThmSt → ThmSt) : (s.updThmOf k g).routers = s.routers := rfl
@[simp] theorem updThmOf_hops (k : Nat) (g : ThmSt → ThmSt) : (s.updThmOf k g).hops = s.hops := rfl
@[simp] theorem updThmOf_tablesDue (k : Nat) (g : ThmSt → ThmSt) : (s.updThmOf k g).tablesDue = s.tablesDue := rfl
@[simp] theorem updThmOf_cutoff (k : Nat) (g : ThmSt → ThmSt) : (s.updThmOf k g).cutoff = s.cutoff := rfl
@[simp] theorem updThmOf_delays (k : Nat) (g : ThmSt → ThmSt) : (s.updThmOf k g).delays = s.delays := rfl
@[simp] theorem updThmOf_clocks (k : Nat) (g : ThmSt → ThmSt) : (s.updThmOf k g).clocks = s.clocks := rfl
@[simp] theorem updThmOf_pair (k : Nat) (g : ThmSt → ThmSt) : (s.updThmOf k g).pair = s.pair := rfl
@[simp] theorem updThmOf_gates (k : Nat) (g : ThmSt → ThmSt) : (s.updThmOf k g).gates = s.gates := rfl
@[simp] theorem updThmOf_doors (k : Nat) (g : ThmSt → ThmSt) : (s.updThmOf k g).doors = s.doors := rfl
@[simp] theorem updThmOf_streams (k : Nat) (g : ThmSt → ThmSt) : (s.updThmOf k g).streams = s.streams := rfl
@[simp] theorem updThmOf_wins (k : Nat) (g : ThmSt → ThmSt) : (s.updThmOf k g).wins = s.wins := rfl
@[simp] theorem updThmOf_winAlive (k : Nat) (g : ThmSt → ThmSt) : (s.updThmOf k g).winAlive = s.winAlive := rfl
@[simp] theorem updThmOf_scans (k : Nat) (g : ThmSt → ThmSt) : (s.updThmOf k g).scans = s.scans := rfl
@[simp] theorem updThmOf_taps (k : Nat) (g : ThmSt → ThmSt) : (s.updThmOf k g).taps = s.taps := rfl
@[simp] theorem updThmOf_cores (k : Nat) (g : ThmSt → ThmSt) : (s.updThmOf k g).cores = s.cores := rfl
@[simp] theorem updThmOf_ports (k : Nat) (g : ThmSt → ThmSt) : (s.updThmOf k g).ports = s.ports := rfl
@[simp] theorem updThmOf_adj (k : Nat) (g : ThmSt → ThmSt) : (s.updThmOf k g).adj = s.adj := rfl
@[simp] theorem updThmOf_rpl (k : Nat) (g : ThmSt → ThmSt) : (s.updThmOf k g).rpl = s.rpl := rfl
@[simp] theorem updThmOf_steps (k : Nat) (g : ThmSt → ThmSt) : (s.updThmOf k g).steps = s.steps := rfl
@[simp] theorem updThmOf_verdicts (k : Nat) (g : ThmSt → ThmSt) : (s.updThmOf k g).verdicts = s.verdicts := rfl
@[simp] theorem updThmOf_replays (k : Nat) (g : ThmSt → ThmSt) : (s.updThmOf k g).replays = s.replays := rfl
@[simp] theorem updThmOf_setsOpened (k : Nat) (g : ThmSt → ThmSt) : (s.updThmOf k g).setsOpened = s.setsOpened := rfl
@[simp] theorem updThmOf_ctxs (k : Nat) (g : ThmSt → ThmSt) : (s.updThmOf k g).ctxs = s.ctxs := rfl
@[simp] theorem updThmOf_hist (k : Nat) (g : ThmSt → ThmSt) : (s.updThmOf k g).hist = s.hist := rfl
@[simp] theorem updThmOf_histStaged (k : Nat) (g : ThmSt → ThmSt) : (s.updThmOf k g).histStaged = s.histStaged := rfl
@[simp] theorem updThmOf_histLatch (k : Nat) (g : ThmSt → ThmSt) : (s.updThmOf k g).histLatch = s.histLatch := rfl
@[simp] theorem updThmOf_drainSince (k : Nat) (g : ThmSt → ThmSt) : (s.updThmOf k g).drainSince = s.drainSince := rfl
@[simp] theorem updThmOf_halls (k : Nat) (g : ThmSt → ThmSt) : (s.updThmOf k g).halls = s.halls := rfl
@[simp] theorem updThmOf_resets (k : Nat) (g : ThmSt → ThmSt) : (s.updThmOf k g).resets = s.resets := rfl
@[simp] theorem updThmOf_hangs (k : Nat) (g : ThmSt → ThmSt) : (s.updThmOf k g).hangs = s.hangs := rfl
@[simp] theorem updThmOf_cut (k : Nat) (g : ThmSt → ThmSt) : (s.updThmOf k g).cut = s.cut := rfl
@[simp] theorem updThmOf_cutNo (k : Nat) (g : ThmSt → ThmSt) : (s.updThmOf k g).cutNo = s.cutNo := rfl
@[simp] theorem updThmOf_cutDue (k : Nat) (g : ThmSt → ThmSt) : (s.updThmOf k g).cutDue = s.cutDue := rfl
@[simp] theorem updThmOf_cutUnits (k : Nat) (g : ThmSt → ThmSt) : (s.updThmOf k g).cutUnits = s.cutUnits := rfl
@[simp] theorem updThmOf_chans (k : Nat) (g : ThmSt → ThmSt) : (s.updThmOf k g).chans = s.chans := rfl
@[simp] theorem updThmOf_stop (k : Nat) (g : ThmSt → ThmSt) : (s.updThmOf k g).stop = s.stop := rfl
@[simp] theorem updThmOf_voids (k : Nat) (g : ThmSt → ThmSt) : (s.updThmOf k g).voids = s.voids := rfl
@[simp] theorem updThmOf_bins (k : Nat) (g : ThmSt → ThmSt) : (s.updThmOf k g).bins = s.bins := rfl
@[simp] theorem updThmOf_bank (k : Nat) (g : ThmSt → ThmSt) : (s.updThmOf k g).bank = s.bank := rfl
@[simp] theorem updThmOf_segs (k : Nat) (g : ThmSt → ThmSt) : (s.updThmOf k g).segs = s.segs := rfl
@[simp] theorem updThmOf_attic (k : Nat) (g : ThmSt → ThmSt) : (s.updThmOf k g).attic = s.attic := rfl
@[simp] theorem updThmOf_mem (k : Nat) (g : ThmSt → ThmSt) : (s.updThmOf k g).mem = s.mem := rfl
@[simp] theorem updThmOf_variant (k : Nat) (g : ThmSt → ThmSt) : (s.updThmOf k g).variant = s.variant := rfl
@[simp] theorem updThmOf_mbx (k : Nat) (g : ThmSt → ThmSt) : (s.updThmOf k g).mbx = s.mbx := rfl
@[simp] theorem updThmOf_twk (k : Nat) (g : ThmSt → ThmSt) : (s.updThmOf k g).twk = s.twk := rfl
@[simp] theorem updThmOf_mgt (k : Nat) (g : ThmSt → ThmSt) : (s.updThmOf k g).mgt = s.mgt := rfl
@[simp] theorem updThmOf_dbg (k : Nat) (g : ThmSt → ThmSt) : (s.updThmOf k g).dbg = s.dbg := rfl
@[simp] theorem updThmOf_cels (k : Nat) (g : ThmSt → ThmSt) : (s.updThmOf k g).cels = s.cels := rfl
@[simp] theorem updThmOf_reloads (k : Nat) (g : ThmSt → ThmSt) : (s.updThmOf k g).reloads = s.reloads := rfl
@[simp] theorem updThmOf_chanMap (k : Nat) (g : ThmSt → ThmSt) : (s.updThmOf k g).chanMap = s.chanMap := rfl
@[simp] theorem updThmOf_descCopy (k : Nat) (g : ThmSt → ThmSt) : (s.updThmOf k g).descCopy = s.descCopy := rfl
@[simp] theorem updThmOf_seeds (k : Nat) (g : ThmSt → ThmSt) : (s.updThmOf k g).seeds = s.seeds := rfl
@[simp] theorem updThmOf_idleKills (k : Nat) (g : ThmSt → ThmSt) : (s.updThmOf k g).idleKills = s.idleKills := rfl
@[simp] theorem updThmOf_prv (k : Nat) (g : ThmSt → ThmSt) : (s.updThmOf k g).prv = s.prv := rfl
@[simp] theorem updThmOf_pairs (k : Nat) (g : ThmSt → ThmSt) : (s.updThmOf k g).pairs = s.pairs := rfl
@[simp] theorem updThmOf_steepFirst (k : Nat) (g : ThmSt → ThmSt) : (s.updThmOf k g).steepFirst = s.steepFirst := rfl
@[simp] theorem updThmOf_stp (k : Nat) (g : ThmSt → ThmSt) : (s.updThmOf k g).stp = s.stp := rfl
@[simp] theorem updThmOf_engs (k : Nat) (g : ThmSt → ThmSt) : (s.updThmOf k g).engs = s.engs := rfl
@[simp] theorem updThmOf_plan (k : Nat) (g : ThmSt → ThmSt) : (s.updThmOf k g).plan = s.plan := rfl
@[simp] theorem updThmOf_grist (k : Nat) (g : ThmSt → ThmSt) : (s.updThmOf k g).grist = s.grist := rfl
@[simp] theorem updThmOf_ana (k : Nat) (g : ThmSt → ThmSt) : (s.updThmOf k g).ana = s.ana := rfl
@[simp] theorem updThmOf_dl (k : Nat) (g : ThmSt → ThmSt) : (s.updThmOf k g).dl = s.dl := rfl
@[simp] theorem updThmOf_fw (k : Nat) (g : ThmSt → ThmSt) : (s.updThmOf k g).fw = s.fw := rfl
@[simp] theorem updThmOf_sens (k : Nat) (g : ThmSt → ThmSt) : (s.updThmOf k g).sens = s.sens := rfl
@[simp] theorem updThmOf_emerg (k : Nat) (g : ThmSt → ThmSt) : (s.updThmOf k g).emerg = s.emerg := rfl
@[simp] theorem updThmOf_pad (k : Nat) (g : ThmSt → ThmSt) : (s.updThmOf k g).pad = s.pad := rfl
@[simp] theorem updThmOf_resetsDue (k : Nat) (g : ThmSt → ThmSt) : (s.updThmOf k g).resetsDue = s.resetsDue := rfl
@[simp] theorem updThmOf_latch (k : Nat) (g : ThmSt → ThmSt) : (s.updThmOf k g).latch = s.latch := rfl
@[simp] theorem updThmOf_tree (k : Nat) (g : ThmSt → ThmSt) : (s.updThmOf k g).tree = s.tree := rfl
@[simp] theorem updThmOf_refLost (k : Nat) (g : ThmSt → ThmSt) : (s.updThmOf k g).refLost = s.refLost := rfl
@[simp] theorem updThmOf_histFlash (k : Nat) (g : ThmSt → ThmSt) : (s.updThmOf k g).histFlash = s.histFlash := rfl
@[simp] theorem updThmOf_tickAt (k : Nat) (g : ThmSt → ThmSt) : (s.updThmOf k g).tickAt = s.tickAt := rfl
@[simp] theorem updThmOf_passSeen (k : Nat) (g : ThmSt → ThmSt) : (s.updThmOf k g).passSeen = s.passSeen := rfl
end Sys2Proof.Machine
end

