-- ==== Sys2Proof/Tests/Slice0.lean ====
section
/-! SUPPORT. Small tests by evaluation, and for every statement with hypotheses one theorem that shows, clause by clause, a
concrete state and operands that meet them; where the clause's conclusion is small the same theorem evaluates it too. A
witness state is `State.reset` with one or two parts changed. -/
namespace Sys2Proof.Tests
open Sys2Proof Sys2Proof.Machine Sys2Proof.Claims
-- One theorem after the other: each waits for the kernel, and a thread for each would be too many.
set_option Elab.async false

/-- The state that a command leaves. -/
abbrev after (c : Instr) (s : State) : State := match exec c s with | .next t => t | _ => s
/-- The machine right after reset. -/
abbrev r0 : State := State.reset

/-- The same with bring-up behind it: every unit's page answers. -/
def rOn : State := { r0 with fw := { r0.fw with stage := 12 } }

/-- An idle step lets a tick pass (R20). -/
theorem test_idle_tick : (match step State.reset with | .next t => t.wall.toNat | _ => 0) = 10 := by decide

/-! Ill-formed operands that WellFormed refuses, one for each check. -/
theorem test_wf_block : Instr.wf (.gateBlockArrive 0 0 0 []) = false := by decide
theorem test_wf_channel : Instr.wf (.cellarWriteBlock 0 0 (BitVec.allOnes 36) (List.replicate 16 0)) = false := by decide +kernel
theorem test_wf_granule : Instr.wf (.scrubGranule 0 .clean [0]) = false := by decide
theorem test_wf_line : Instr.wf (.scanLineDone .brew [0] .clean) = false := by decide
theorem test_wf_exchange : Instr.wf (.digestRecord 0 [0]) = false := by decide
theorem test_wf_save : Instr.wf (.saveAreaRestore 0 [true] 0) = false := by decide
theorem test_wf_sample :
    Instr.wf (.cutMarker (.door 0) ⟨0, 0, 0, 0, 0, 0, 0, 0, [], 0, 0, [], []⟩) = false ∧
    Instr.wf (.cutMarker (.cellar 0) ⟨0, 0, 0, 0, 0, 0, 0, 0, [], 0, 0, [], []⟩) = false := by decide
theorem test_wf_pair : Instr.wf (.pairDigestRecord 0 [0]) = false ∧ Instr.wf (.pairValue 0 []) = false := by decide
theorem test_wf_stage : Instr.wf (.bringupStage ⟨0, 0, [1], 0, false, []⟩) = false := by decide
theorem test_wf_processor : Instr.wf (.processorWatchdog 42) = false := by decide
theorem test_wf_slots : Instr.wf (.mailboxScan [3, 2]) = false := by decide
theorem test_wf_message : Instr.wf (.fleetMessage [0]) = false := by decide
/-- No row of the table gives bits, so no word spells a command (log entry 8). -/
theorem test_no_word : decodeTableWord 8 0 = none := by decide

/-! Chapter 01: the Stair, the time base and the Brewhouse pair. -/
/-- A packet of class 0; a clamped west edge of the last region; an input port that holds two packets of the class. -/
def wPkt : Packet := ⟨1, []⟩
def wClamp : State := r0.updHall 41 (fun h => { h with iso := [false, false, false, true] })
def wCrowd : State := r0.updRouter 3 (fun x => { x with inq := [⟨1, wPkt, [0], []⟩, ⟨1, wPkt, [0], []⟩] })
theorem witness_StairPacketCheck :
    packetOk false 0 [] (BitVec.ofNat 16 (stairCrc 0 [])) = true ∧
    packetOk true 0 [] 0 = false ∧
    wClamp.hopClamped 83 .w = true ∧
    after (.stairPacketReceive 83 (some .w) false 0 [] (BitVec.ofNat 16 (stairCrc 0 [])) 0) wClamp = wClamp ∧
    wCrowd.hopClamped 3 .e = false ∧ (⟨0, []⟩ : Packet).cls < 6 ∧ (wCrowd.router 3).inPort (hopNo .e) (⟨0, []⟩ : Packet).cls = 2 ∧
    after (.stairPacketReceive 3 (some .e) false 0 [] (BitVec.ofNat 16 (stairCrc 0 [])) 0) wCrowd = wCrowd ∧
    (r0.hopClamped 3 .e || decide ((⟨0, []⟩ : Packet).cls < 6 ∧ 2 ≤ (r0.router 3).inPort (hopNo .e) (⟨0, []⟩ : Packet).cls)) = false ∧
    Out.hopCheck 3 .e true ∈ (after (.stairPacketReceive 3 (some .e) false 0 [] (BitVec.ofNat 16 (stairCrc 0 [])) 0) r0).sent ∧
    (after (.stairPacketReceive 3 (some .e) true 0 [] 0 0) r0).sent = [.hopCheck 3 .e false] ∧
    (after (.stairPacketReceive 3 none true 0 [] 0 0) r0) = r0 := by (repeat' apply And.intro) <;> decide +kernel

def wHop (fails : Nat) : State := r0.updHop (hkey 3 .e) (fun x => { x with live := true, copies := [⟨wPkt, 5, fails⟩] })
theorem witness_HopRetry :
    wClamp.hopClamped 83 .w = true ∧ after (.hopCheckResult 83 .w true) wClamp = wClamp ∧ (wHop 2).hopClamped 3 .e = false ∧
    ((wHop 2).hop (hkey 3 .e)).copies = [⟨wPkt, 5, 2⟩] ∧ ((wHop 2).hop (hkey 3 .e)).dead = false ∧
    ((after (.hopCheckResult 3 .e true) (wHop 2)).hop (hkey 3 .e)).copies = [] ∧
    ((after (.hopCheckResult 3 .e false) (wHop 2)).hop (hkey 3 .e)).copies = [⟨wPkt, 0, 3⟩] ∧
    ((wHop 3).hop (hkey 3 .e)).copies = [⟨wPkt, 5, 3⟩] ∧ ((wHop 3).hop (hkey 3 .e)).dead = false ∧
    ((after (.hopCheckResult 3 .e false) (wHop 3)).router 3).inq.map (fun e => (e.pkt, e.legs)) = [(wPkt, [1])] ∧
    raised (wHop 3) (after (.hopCheckResult 3 .e false) (wHop 3)) 0xC001 (puRtr 3) (hopNo .e) 0 3 ∧
    raised (wHop 3) (after (.hopAckTimeout 3 .e) (wHop 3)) 0xC001 (puRtr 3) (hopNo .e) 1 0 := by (repeat' apply And.intro) <;> decide +kernel

/-- The tables of a tree are due at two routers. -/
def wDue : State := { r0 with tablesDue := [0, 83], tree := some ⟨[6, 0], [], 0⟩ }
theorem witness_DetourTables :
    State.tablesDue wDue = [0, 83] ∧ (after (.detourTableArrive 83) wDue).tablesDue = [0] ∧
    ((after (.detourTableArrive 83) wDue).router 83).table = some ⟨[6, 0], [], 0⟩ ∧
    r0.tablesDue.contains 83 = false ∧ after (.detourTableArrive 83) r0 = r0 := by (repeat' apply And.intro) <;> decide +kernel

/-- A Taster whose sensor is in band 3, and one whose delay is longer than band 0 asks for. -/
def wHot : State := r0.updSensor (datapathSensor (.taster 7)) (fun x => { x with band := 3 })
def wLong : State := r0.updDelay (uCEL 2) (fun _ => ⟨3, 0⟩)
/-- No REFCLK at the Brewhouse; none at the last region's Hall. -/
def wNoRef (r : Nat) : State := { r0 with refLost := [(r, 0)] }
theorem witness_TimeBeats :
    (wHot.delay (datapathUnit (.taster 7))).md < mdOf (wHot.sensorBand (datapathSensor (.taster 7))) ∧
    ((after (.matchedDelayLengthen (.taster 7)) wHot).delay (uTST 7)).md = 2 ∧
    mdOf (wLong.sensorBand (datapathSensor (.cellar 2))) < (wLong.delay (datapathUnit (.cellar 2))).md ∧
    ((after (.matchedDelayShorten (.cellar 2)) wLong).delay (uCEL 2)).md = 0 ∧
    r0.bhAlive r0.active = true ∧ (Tab.find (bhRegion r0.active) r0.refLost).isSome = false ∧
    (wNoRef 19).bhAlive (wNoRef 19).active = true ∧ (Tab.find (bhRegion (wNoRef 19).active) (wNoRef 19).refLost).isSome = true ∧
    after .timeBeatEmit (wNoRef 19) = wNoRef 19 ∧
    r0.hopClamped 3 .e = false ∧ ((after (.hopDelayEcho 3 .e 9) r0).hop (hkey 3 .e)).delay = 9 ∧
    wClamp.hopClamped 83 .w = true ∧ after (.hopDelayEcho 83 .w 9) wClamp = wClamp ∧
    ((after (.beatReceive (.hall 41) 100 0 3 5) r0).clock (uHAL 41)).fix = 1 ∧ ((after (.beatReceive (.hall 41) 100 0 3 5) r0).clock (uHAL 41)).reign = 3 ∧
    ((after (.beatReceive (.hall 41) 100 0 3 5) (wNoRef 41)).clock (uHAL 41)).fix = 0 ∧
    r0.marks.contains (puNode (.hall 0), 0x9030, 0) = false ∧
    raised r0 (after (.beatLossTimeout (.hall 0)) r0) 0x9030 (puNode (.hall 0)) 0 := by (repeat' apply And.intro) <;> decide +kernel

/-- Both regions powered, the standby whole; a poll of which 20 Halls have answered; handoff past stage 11. -/
def wPair : State := { r0.updHall 19 (fun h => { h with pg := true }) with pair := { r0.pair with b := { r0.pair.b with mirrored := true } } }
def wPoll (n : Nat) : State := { r0 with pair := { r0.pair with b := { r0.pair.b with poll := some (List.range n) } } }
def wRunning : State := r0.wr uBRW BRW_BOOT_STAGE 11
def wHigher : State := r0.updBrew .b (fun x => { x with reign := 3 })
def wSentHb : State := { r0 with pair := { r0.pair with b := { r0.pair.b with got := some [true, false, true] } } }
theorem witness_PairContact :
    wSentHb.bhAlive .b = true ∧ ((after (.heartbeatReceive .b .relay) wSentHb).brew .b).got = some [true, true, true] ∧
    (wSentHb.brew (otherBh .b)).reign ≤ (wSentHb.brew .b).reign ∧
    wHigher.bhAlive .a = true ∧ (wHigher.brew .a).reign < (wHigher.brew (otherBh .a)).reign ∧
    r0.bhAlive .a = true ∧ (r0.brew .a).got = none ∧
    wPair.bhAlive wPair.standby = true ∧ (wPair.brew wPair.standby).reign < 127 ∧ (wPair.brew wPair.standby).mirrored = true ∧
    (wPair.hall (bhRegion wPair.active)).pg = true ∧ wPair.regionLost (bhRegion wPair.active) = false ∧
    ((after .heartbeatSilence wPair).brew wPair.standby).poll = some [] ∧
    ((wPoll 20).brew (wPoll 20).standby).poll = some (List.range 20) ∧ (List.range 20).contains 41 = false ∧ 20 + 1 < majority ∧
    ((after (.hallPollAnswer 41 true) (wPoll 20)).brew .b).poll = some (List.range 20 ++ [41]) ∧
    wRunning.bhAlive wRunning.active = true ∧ 11 ≤ wRunning.rd uBRW BRW_BOOT_STAGE ∧ wRunning.isSet uBRW BRW_BOOT_STOPPED = false ∧
    (after .failsafeRefresh wRunning).pair.failsafe = false := by (repeat' apply And.intro) <;> decide +kernel

def wLog : State := r0.updHall 5 (fun h => { h with log := List.replicate 256 ⟨1, 0, false⟩ })
def wMirror : State := { r0.flag uBRW BRW_ROLE_UNMIRRORED true with pair := { r0.pair with mirrorSent := some 6 } }
theorem witness_PairMirror :
    256 ≤ (wLog.hall 5).log.length ∧ wLog.bhAlive wLog.standby = true ∧ (after (.mirrorRequest 5) wLog).pair.mirrorSent = some 0 ∧
    wMirror.pair.mirrorSent = some 6 ∧ wMirror.twk.committing = [] ∧
    (r0.brew .a).reign < (1 : BitVec 7).toNat ∧ r0.active = .a ∧
    (r0.brew .b).reign ≤ 0 ∧ ((after (.reignStepDown .b 0) r0).brew .b).seen = 0 ∧
    r0.isSet uBRW BRW_ROLE_UNMIRRORED = false ∧ (r0.flag uBRW BRW_ROLE_STANDBY_OK true).isSet uBRW BRW_ROLE_STANDBY_OK = true ∧ r0.twk.committing = [] ∧
    (after .standbySilence r0).isSet uBRW BRW_ROLE_UNMIRRORED = true ∧ raised r0 (after .standbySilence r0) 0x8041 r0.puActive := by (repeat' apply And.intro) <;> decide +kernel

/-! Chapters 04 and 05: Taps, the replica and its descriptors. -/
/-- A stop that is complete: every unit is stopped. -/
def wStopped : State := { r0 with stop := { r0.stop with phase := 2 } }
/-- An invocation of command 9 that began at cycle 0. -/
def wInv : Inv :=
  ⟨9, 0, none, .strong, true, none, 0, [], [], [], 0, 0, 0, 0, 0, 0, 0, 0, 0, 0, false, 0, 0, 0, 0, none, 0, 0⟩
def wTap (accs : List AccUnit) : State := r0.updTap (ckey 1 2) (fun x => { x with invs := [{ wInv with accs := accs }] })
def wAcc : AccUnit := ⟨4, 0, 0, 0, 0, false, false, false, 0, 0, 0, 0, [], none⟩
/-- Nine lanes of a 32-lane format: more than the quarter that a limited core may issue. -/
def wNine (f : Byte) : IssueCycle := ⟨0x1FF, 0, 0, f, f, 0, 0, 0, 0⟩
/-- Commands are shown three cycles late, every other port at once. -/
def wSlow : State := { r0 with variant := { r0.variant with latency := [0, 0, 0, 3] } }
theorem witness_TapChecks :
    after (.residueUnitDrained 1 2 5) wStopped = wStopped.tapTo 1 2 5 4 ∧
    wSlow.latency 0 ≠ wSlow.tapLag ∧ wSlow.latency 1 ≠ wSlow.tapLag ∧ wSlow.latency 2 ≠ wSlow.tapLag ∧
    ((after (.productIssue 1 2 5 (wNine 0)) wSlow).tap (ckey 1 2)).held = [(5, .product (wNine 0))] ∧ r0.latency 0 = r0.tapLag ∧
    invAt ((r0.tapTo 1 2 5 0).tap (ckey 1 2)) (5 - r0.latency 0) = none ∧
    invAt (((wTap []).tapTo 1 2 5 0).tap (ckey 1 2)) (5 - r0.latency 0) = some wInv ∧
    ((wTap []).tapTo 1 2 5 0).tapChecks 1 2 = true ∧
    (wNine 0).lanes ≠ [] ∧ numFmt 0 = none ∧ ((wTap []).tapTo 1 2 5 0).marks.contains (puTap 1 2, 0x2011, 0) = false ∧
    event (wTap []) 0x2011 (puTap 1 2) 9 1 0 ∈ (after (.productIssue 1 2 5 (wNine 0)) (wTap [])).transit ∧
    (numFmt 0x20).isSome = true ∧ wInv.limited = true ∧ min (fmtLanes 0x20) (fmtLanes 0x20) / 4 < (wNine 0x20).lanes.length ∧
    ((wTap []).tapTo 1 2 5 0).marks.contains (puTap 1 2, 0x2012, 0) = false ∧
    event (wTap []) 0x2012 (puTap 1 2) 9 9 8 ∈ (after (.productIssue 1 2 5 (wNine 0x20)) (wTap [])).transit := by (repeat' apply And.intro) <;> decide +kernel
theorem witness_TapChecks_close :
    r0.latency 1 = r0.tapLag ∧
    invAt (((wTap []).tapTo 1 2 5 1).tap (ckey 1 2)) (5 - r0.latency 1) = some wInv ∧
    wInv.accs.find? (fun a => a.idx == 4 && a.closed.isNone) = none ∧ resRot (rho ⟨(1 : BitVec 96).toInt, 0⟩) (0 : BitVec 10).toInt ≠ 0 ∧
    (after (.accumulationClose 1 2 5 4 1 0) (wTap [])).rd (uTAP 1 2) TAP_RES_LAST_RKIND = 1 ∧
    (after (.accumulationClose 1 2 5 4 1 0) (wTap [])).rd (uTAP 1 2) TAP_RES_LAST_OBS = 1 ∧
    invAt (((wTap [wAcc]).tapTo 1 2 5 1).tap (ckey 1 2)) (5 - r0.latency 1) = some { wInv with accs := [wAcc] } ∧
    [wAcc].find? (fun a => a.idx == 4 && a.closed.isNone) = some wAcc ∧ wAcc.covered = false ∧
    (((after (.accumulationClose 1 2 5 4 1 0) (wTap [wAcc])).tap (ckey 1 2)).invs.map (·.accs)) = [[]] := by (repeat' apply And.intro) <;> decide +kernel

/-- A PRIV context of command 9 waits and is driven for. -/
def wDriven : State := r0.updTap (ckey 1 2) (fun x => { x with waiting := [(9, 0)], driven := [9] })
theorem witness_TapCommands :
    (wDriven.tap (ckey 1 2)).waiting.head? = some (9, 0) ∧ ((after (.issueLimitExpire 1 2) wDriven).tap (ckey 1 2)).waiting = [] ∧
    ((after (.issueLimitExpire 1 2) wDriven).tap (ckey 1 2)).driven = [] := by (repeat' apply And.intro) <;> decide +kernel

def wAlarm : Alarm := Alarm.make 9 2 3 0 1 0 0 0 0 .none
def wSummary (cmd : Nat) : Summary := Summary.make cmd 2 0 0 0 0 0 0 false false 0 0 0
/-- An alarm of command 9 waits, and a summary of the command given. -/
def wReports (cmd : Nat) : State := r0.updTap (ckey 1 2) (fun x => { x with
  alarms := [wAlarm], summaries := [wSummary cmd], usages := [⟨9, 5, 7, 0, 0, 0, 0⟩] })
def wDsc (kind : BitVec 2) (sfmt : Byte) (nf : Bool) : DscPres := ⟨kind, 3, 0, 0, 0, sfmt, 0, false, 0, 0, nf⟩
theorem witness_TapReports :
    (wReports 8).checkHeld 1 0 = false ∧ ((wReports 8).tap (ckey 1 2)).alarms = [wAlarm] ∧ wAlarm.rkind = 3 ∧
    (wReports 8).marks.contains (puTap 1 2, 0x2000 + wAlarm.rkind, 0) = false ∧
    ((after (.residueAlarm 1 2) (wReports 8)).tap (ckey 1 2)).alarms = [] ∧
    (∃ e ∈ (after (.residueAlarm 1 2) (wReports 8)).transit, e.code = 0x2000 + wAlarm.rkind ∧ e.puid = puTap 1 2) ∧
    ((wReports 8).tap (ckey 1 2)).summaries = [wSummary 8] ∧ ((wReports 8).tap (ckey 1 2)).alarms.any (fun a => a.cmd == (wSummary 8).cmd) = false ∧
    ((after (.residueSummary 1 2) (wReports 8)).tap (ckey 1 2)).summaries = [] ∧
    ((wReports 9).tap (ckey 1 2)).alarms.any (fun a => a.cmd == (wSummary 9).cmd) = true ∧
    ((after (.residueSummary 1 2) (wReports 9)).tap (ckey 1 2)).summaries = [wSummary 9] ∧
    ((wReports 8).tap (ckey 1 2)).usages = [⟨9, 5, 7, 0, 0, 0, 0⟩] ∧ ((after (.usageReport 1 2) (wReports 8)).tap (ckey 1 2)).usages = [] ∧
    ((after (.usageReport 1 2) (wReports 8)).thmOf (regionOfCluster 1)).prod = 7 ∧
    wStopped.checkHeld 1 0 = true ∧ after (.residueAlarm 1 2) wStopped = wStopped ∧
    r0.latency 2 = r0.tapLag ∧ invAt (((wTap []).tapTo 1 2 5 2).tap (ckey 1 2)) (5 - r0.latency 2) = some wInv ∧
    ((wTap []).tapTo 1 2 5 2).tapChecks 1 2 = true ∧ (wDsc 3 1 false).kind.toNat = 3 ∧
    (after (.discardPresentation 1 2 5 5 (wDsc 3 1 false)) (wTap [])).cnt (uTAP 1 2) TAP_RES_SKIPPED_COUNT = 1 ∧
    ((wTap []).tapTo 1 2 5 2).marks.contains (puTap 1 2, 0x2011, 0) = false ∧
    event (wTap []) 0x2011 (puTap 1 2) 9 2 5 ∈ (after (.discardPresentation 1 2 5 5 (wDsc 3 1 false)) (wTap [])).transit ∧
    r0.checker 1 = some 1 ∧ (wDsc 0 1 true).nf = true ∧
    (after (.atomicDiscardPresentation 1 7 (wDsc 0 1 true)) r0).cnt (uTST 1) TST_ATM_SKIPPED_COUNT = 1 ∧
    (wDsc 0 4 false).nf = false ∧ [1, 2, 3].contains (wDsc 0 4 false).sfmt.toNat = false ∧ r0.marks.contains (puTst 1, 0x2011, 0) = false ∧
    event r0 0x2011 (puTst 1) 3 1 4 ∈ (after (.atomicDiscardPresentation 1 7 (wDsc 0 4 false)) r0).transit := by (repeat' apply And.intro) <;> decide +kernel

/-- A command of one dot product of one element: X, W and Y rows of one FP32 block each, every element 0. -/
def wOpr : Nat := 9 * 2 ^ 370 + 2 ^ 308 + 2 ^ 284 + 2 ^ 260 + 0x1000 * 2 ^ 212 + 0x2000 * 2 ^ 132 + 0x3000 * 2 ^ 52
def wDesc : Desc := ⟨9, 0, 1, false, false, 0, 0, 0, 0, 0, some wOpr, 64, 0⟩
def wBlockHead : Nat := 1 + 2 ^ 104
def wGot : Tab Nat := [(0x100, wBlockHead), (0x101, 0), (0x200, wBlockHead), (0x201, 0), (0x300, wBlockHead), (0x301, 0)]
def wTree : TreeDesc := TreeDesc.ofNat (2 ^ 40 + 2 ^ 32 + 2 ^ 16 + 2 ^ 8 + 1)
def wUnit (priv : Bool) (req : Option (Nat × Nat)) (stage : Nat) : RplUnit := ⟨1, 9, 0, priv, .dot, .whole, some 1, wGot, req, false, stage⟩
def wRcmd : RplCmd := ⟨9, 0, true, true, 0, .dot, true, false, false, false, false, none, [], some wTree, none, none, 0⟩
def wRpl (priv : Bool) (req : Option (Nat × Nat)) (stage : Nat) : State := r0.updRplOf 1 (fun x => { x with
  descs := [wDesc], cmds := [wRcmd], units := [wUnit priv req stage] })
def wSet : State := { r0 with prv := { r0.prv with setting := [⟨4, 0, [], false, none⟩] } }
def wAsked : State := r0.updRplOf 1 (fun x => { x with seedAsked := [4] })
def wNoTst : State := r0.updUnit (puTst 1) (fun u => { u with absent := true })
/-- The unit's evaluation is complete and its value differs from the host's. -/
def wDiffers (s : State) (upset : CaseVal) : Bool :=
  match s.unitEval (wUnit true none 1) with
  | .ok (r, _, host) => CaseVal.same r.val host && !CaseVal.same upset host
  | _ => false
/-- A row of one element that a gated selection of one entry takes, at one rank. -/
def wSel : SfDesc := SfDesc.ofBytes [1, 1, 1, 0, 0, 0, 1]
def wSlice : RplUnit := { wUnit true none 1 with cls := .selection, role := .slice 0 1, cmp := none }
def wRankCmd : RplCmd := { wRcmd with cls := .selection, gated := true, sf := some wSel }
def wRank : State := { r0.updRplOf 1 (fun x => { x with descs := [wDesc], units := [wSlice], cmds := [wRankCmd] }) with steps := [⟨regionOfCluster 1, 0, 0, 0, 0, [], 0, 1, false, (0, 0), none⟩] }
theorem witness_ReplicaUnits :
    (r0.checker 1).isSome = true ∧ (r0.rplOf 1).seeds.find? (fun e => e.1 == (r0.descIn 1 (1 : BitVec 128).toNat none).ctx) = none ∧
    (r0.rplOf 1).seedAsked.contains (r0.descIn 1 (1 : BitVec 128).toNat none).ctx = false ∧
    (wNoTst.checker 1).isNone = true ∧ bits (1 : BitVec 128).toNat 11 0 ≠ 0 ∧ (wNoTst.liveCtxs 1).contains (bits (1 : BitVec 128).toNat 11 0) = false ∧
    (after (.descriptorArrive 1 1 none) wNoTst).sent = [.ask 0x27 (puHal (regionOfCluster 1)) (puTst 1) 1] ∧
    wSet.prv.setting.any (fun x => x.ctx == (4 : Ctx).toNat) = true ∧
    (after (.seedLoadDone 1 4) wSet).prv.heldLoads.contains (1, 4) = true ∧
    wAsked.prv.setting.any (fun x => x.ctx == (4 : Ctx).toNat) = false ∧ (wAsked.rplOf 1).seedAsked.contains 4 = true ∧
    (after (.seedLoadDone 1 4) wAsked).prv.served.contains (regionOfCluster 1, 4) = true ∧
    (wRpl false (some (5, 0x1000)) 0).stageHeld 1 1 = false ∧ (wRpl false (some (5, 0x1000)) 0).checker 1 = some 1 ∧
    ((wRpl false (some (5, 0x1000)) 0).rplOf 1).units.find? (fun u => match u.req with | some r => r.1 == 5 | none => false)
      = some (wUnit false (some (5, 0x1000)) 0) ∧
    event r0 0x3013 (puTst 1) 9 2 0x1000 ∈ (after (.replicaReadLine 1 5 0 true 2) (wRpl false (some (5, 0x1000)) 0)).transit ∧
    wStopped.stageHeld 1 1 = true ∧ after (.replicaReadLine 1 5 0 true 2) wStopped = wStopped ∧
    ((wRpl false none 0).rplOf 1).units.find? (fun u => (wRpl false none 0).unitIs 9 0 u && decide (u.stage = 0)) = some (wUnit false none 0) ∧
    (((wRpl false none 0).rcmd 1 9).map (·.ended)).getD false = true ∧
    after (.replicaReadStale 1 9 0) (wRpl false none 0)
      = ((wRpl false none 0).dropUnit 1 1 (wUnit false none 0) 7 0).rplRegion (regionOfCluster 1) := by (repeat' apply And.intro) <;> decide +kernel
theorem witness_ReplicaUnits_compare :
    (wRpl true none 1).checker 1 = some 1 ∧ (wRpl true none 1).comparable 1 9 0 = some (1, wUnit true none 1) ∧
    (wRpl true none 1).stageHeld 1 2 = false ∧ (wRpl true none 1).stageHeld 1 3 = false ∧ (wRpl true none 1).stageHeld 1 4 = false ∧
    (wRpl true none 1).descOf 1 9 = some wDesc ∧ (wRpl true none 1).rcmd 1 9 = some wRcmd ∧ wDesc.mayvary = false ∧
    (wRpl true none 1).unitJob (wUnit true none 1) = some (.dot wTree) ∧
    wDiffers (wRpl true none 1) (.elem 7 0x7F) = true ∧ (wRpl true none 1).marks.contains (puTst 1, 0x3001, 0) = false := by (repeat' apply And.intro) <;> decide +kernel

theorem witness_DescriptorStore :
    writable rOn (uTST 1) = true ∧ rOn.takingOver = false ∧ rOn.descStatus 1 ≠ 1 ∧
    rOn.isSet (uTST 1) TST_DESC_SEL_BCAST = false ∧ rOn.rd (uTST 1) TST_DESC_SEL_INDEX = 0 ∧
    (after (.descriptorLoad 1) rOn).rd (uTST 1) TST_DESC_CTRL_STATUS = 5 := by (repeat' apply And.intro) <;> decide +kernel
def wBcast : State := rOn.flag (uTST 1) TST_DESC_SEL_BCAST true
theorem witness_DescriptorStore_bcast :
    writable wBcast (uTST 1) = true ∧ wBcast.descStatus 1 ≠ 1 ∧ wBcast.isSet (uTST 1) TST_DESC_SEL_BCAST = true ∧
    (after (.descriptorLoad 1) wBcast).rd (uTST 1) TST_DESC_CTRL_STATUS = 1 := by (repeat' apply And.intro) <;> decide +kernel
def wLast : Broadcast := ⟨[839], none, false, 0, 1, [], 32⟩
def wLastS : State := rOn.updRplOf 1 (fun x => { x with bcast := some wLast })
theorem witness_DescriptorStore_answer :
    (wLastS.rplOf 1).bcast = some wLast ∧ wLast.left.contains 839 = true ∧ wLast.left.filter (· != 839) = [] ∧
    wLast.inval = false ∧ wLast.refusal = none ∧ ((after (.descriptorBroadcastAnswer 1 839) wLastS).rplOf 1).bcast = none ∧
    (after (.descriptorBroadcastAnswer 1 839) wLastS).rd (uTST 1) TST_DESC_CTRL_STATUS = (wLastS.loadAt 839 0 1 32 []).2 % 8 := by (repeat' apply And.intro) <;> decide +kernel
theorem witness_DescriptorStore_partial :
    (wRank.stepOf (regionOfCluster 1) 0 0).map (·.lead) = some 1 ∧
    (wRank.rplOf 1).units.filter (fun u => wRank.ofStep 0 0 u && decide (u.stage = 1) && isSlice u) = [wSlice] ∧
    wSlice.role = .slice 0 1 ∧ (match wRank.unitEval wSlice with | .ok (v, _) => v.val == .row [(0, 0)] | _ => false) = true ∧
    (wRank.rcmd 1 9).isSome = true := by (repeat' apply And.intro) <;> decide +kernel

/-! Chapters 02 and 03: gate cells, Doors, scans and streams. -/
/-- A block of a header and a trailer, with the flags given. -/
def wBlk (flags : Nat) : List Byte := leBytes 16 (1 + flags * 2 ^ 8) ++ leBytes 8 (blockCheck r0.tbProfile (Header.ofNat (1 + flags * 2 ^ 8)) [])
def wHeld : HeldBlock := ⟨3, 0, 5, true, wBlk 4, 0, false, false, false⟩
def wGate : State := r0.updGate 96 (fun x => { x with held := [wHeld] })
def wRedo : State := r0.updGate 96 (fun x => { x with held := [{ wHeld with redo := true }] })
theorem witness_GateCells :
    (r0.gate 96).held = [] ∧ (r0.gate 96).outside = [] ∧ (r0.gate 96).held.any (fun y => y.stream == 3 && !y.ready) = false ∧
    (r0.ctx (Header.ofBytes (wBlk 0)).ctx).gate = 0 ∧ (Header.ofBytes (wBlk 0)).priv = false ∧
    Out.gate 96 3 (wBlk 0) ∈ (after (.gateBlockArrive 96 3 5 (wBlk 0)) r0).sent ∧
    (wBlk 4).length ≤ gateSpace ∧ (r0.ctx (Header.ofBytes (wBlk 4)).ctx).gate = 0 ∧ (Header.ofBytes (wBlk 4)).priv = true ∧
    r0.isSet uHCH HCH_CTRL_DISABLE = false ∧ r0.gateClosed 96 = none ∧ (r0.ctx (Header.ofBytes (wBlk 4)).ctx).taint = none ∧
    gateMark (r0.gate 96) (Header.ofBytes (wBlk 4)).ctx 5 = none ∧
    ((after (.gateBlockArrive 96 3 5 (wBlk 4)) r0).gate 96).held.map (fun b => (b.stream, b.bytes)) = [(3, wBlk 4)] ∧
    (wGate.gate 96).held = [wHeld] ∧ (wGate.gate 96).outside = [] ∧ wHeld.priv = true ∧ wHeld.ready = false ∧ wHeld.notice = false ∧
    wHeld.ctx = (0 : Ctx).toNat ∧ wHeld.step = (5 : Step).toNat ∧ wHeld.redo = false ∧
    Out.gate 96 3 (wBlk 4) ∈ (after (.gateVerdict 96 0 5 .pass) wGate).sent ∧
    ((after (.gateVerdict 96 0 5 .fail) wGate).gate 96).held = [] ∧ (after (.gateVerdict 96 0 5 .fail) wGate).sent = [] ∧
    (wRedo.gate 96).held = [{ wHeld with redo := true }] ∧ Out.gate 96 3 (wBlk 4) ∈ (after (.gateVerdict 96 0 5 .fail) wRedo).sent ∧
    ((after (.gateVerdict 96 0 5 .fail) wRedo).gate 96).held = [] ∧
    wGate.unitStopped (uHAL (wGate.gateRegion 96)) = false ∧ gateMark (wGate.gate 96) wHeld.ctx wHeld.step = none ∧
    ((gateMark ((after (.gateBackstop 96) wGate).gate 96) 0 5).map (·.noticed)) = some true := by (repeat' apply And.intro) <;> decide +kernel
/-- A cell whose hold space is full to the last byte. -/
def wFull : State := r0.updGate 96 (fun x => { x with held := [{ wHeld with bytes := List.replicate gateSpace 0 }] })
theorem witness_GateCells_full :
    (wFull.gate 96).outside = [] ∧ (wFull.ctx (Header.ofBytes (wBlk 4)).ctx).gate = 0 ∧ wFull.isSet uHCH HCH_CTRL_DISABLE = false ∧
    wFull.gateClosed 96 = none ∧ gateSpace < Machine.heldBytes (wFull.gate 96).held + (wBlk 4).length := by
  refine ⟨rfl, rfl, by decide +kernel, by decide +kernel, ?_⟩
  · have h : (wFull.gate 96).held = [{ wHeld with bytes := List.replicate gateSpace 0 }] := by rfl
    rw [h]
    simp [Machine.heldBytes, wBlk, leBytes]

def wShut : State := r0.updDoor 95 (fun d => { d with shut := true })
/-- A header whose FMT is reserved. -/
def wBad : List Byte := leBytes 16 0xFF
def wUp : State := r0.updDoor 95 (fun d => { d with lanes := 8 })
/-- A lane that has yet to return from its own loop-back. -/
def wBack : State := r0.updDoor 95 (fun d => { d with lb := [0, 0, 0, 3] })
def wLoop : State := r0.updDoor 95 (fun d => { d with lanes := 8, lb := [0, 0, 0, 1] })
/-- Context 5 is retired; a block of it whose FMT is reserved. -/
def wRetired : State := r0.updCtx 5 (fun x => { x with state := 2 })
def wOld : List Byte := leBytes 16 (0xFF + 5 * 2 ^ 48)
theorem witness_DoorBlocks :
    (wShut.door 95).shut = true ∧ after (.doorTransmitBlock 95 1 (wBlk 0)) wShut = wShut ∧ after (.doorReceiveBlock 95 1 9 (wBlk 0)) wShut = wShut ∧
    (r0.door 95).shut = false ∧ r0.isRetired (Header.ofBytes (wBlk 0)).ctx = false ∧
    (after (.doorTransmitBlock 95 1 (wBlk 0)) r0).sent.any (fun o => match o with | .doorTx 95 1 _ => true | _ => false) = true ∧
    wRetired.isRetired (Header.ofBytes wOld).ctx = true ∧ ((after (.doorTransmitBlock 95 1 wOld) wRetired).door 95).retBlocks = 1 ∧
    (after (.doorTransmitBlock 95 1 wOld) wRetired).sent = [] ∧ headerTest (Header.ofBytes wOld) none ≠ 0 ∧
    event wRetired 0x6004 (puDor 95) 1 (headerTest (Header.ofBytes wOld) none) 0 ∈ (after (.doorTransmitBlock 95 1 wOld) wRetired).transit ∧
    headerTest (Header.ofBytes wBad) none ≠ 0 ∧
    r0.marks.contains (puDor 95, 0x6004, 1) = false ∧
    event r0 0x6004 (puDor 95) 1 (headerTest (Header.ofBytes wBad) none) 0 ∈ (after (.doorTransmitBlock 95 1 wBad) r0).transit ∧
    (4092 : BitVec 12).toNat < 4093 ∧
    (((r0.dcount 95 dRXI (wBlk 0).length).count (uDOR 95) DOR_CR_CONS_COUNT (((wBlk 0).length + 15) / 16)).doorJudge 95 4092 9 (wBlk 0)).2.1
      = some ((wBlk 0).take 16, false) ∧
    Out.doorRx 95 4092 ((wBlk 0).take 16) false ∈ (after (.doorReceiveBlock 95 4092 9 (wBlk 0)) r0).sent ∧
    (wUp.door 95).lb.getD 3 0 = 0 ∧ bit (wUp.door 95).lanes 3 = true ∧ (wUp.door 95).lanes = 2 ^ 3 ∧
    event wUp 0xC010 (puLane 95 3) 8 0 7 ∈ (after (.laneDrop 95 3 7) wUp).transit ∧ event wUp 0xC013 (puDor 95) ∈ (after (.laneDrop 95 3 7) wUp).transit ∧
    (wLoop.door 95).lb.getD 3 0 ≠ 0 ∧ (after (.laneDrop 95 3 7) wLoop).transit.map (·.code) = [0xC013] ∧
    (r0.door 95).lb.getD 3 0 = 0 ∧ bit (r0.door 95).lanes 3 = false ∧ bit (r0.door 95).heldLanes 3 = false ∧
    (wBack.door 95).lb.getD 3 0 = 3 ∧ bit (wBack.door 95).lanes 3 = false ∧ bit (wBack.door 95).heldLanes 3 = false ∧
    ((after (.laneReturn 95 3 7) wBack).door 95).lb = [0, 0, 0, 0] ∧ (after (.laneReturn 95 3 7) wBack).transit = [] ∧
    ((after (.laneReturn 95 3 7) r0).door 95).lanes = 8 ∧ raised r0 (after (.laneReturn 95 3 7) r0) 0xC012 (puLane 95 3) 7 := by (repeat' apply And.intro) <;> decide +kernel

/-! Chapter 07: Cellars. -/
def wFence : State := r0.wr (uCEL 335) CEL_CH_CTRL_FENCE (2 ^ 15)
def wRescan : Rescan := ⟨15, 64, 24, 0⟩
def wRescanS : State := r0.updCel 335 (fun x => { x with rescans := [wRescan] })
def wSaved (c : Nat) : State := r0.updCel 335 (fun x => { x with saved := some ⟨[(0, ⟨1, 2, 3, false, 0⟩)], [], [], 0, [], c⟩ })
def wSuspect : State := (rOn.wr (uCEL 335) CEL_STAT_SUSPECT (2 ^ 15)).wr (uCEL 335) CEL_STP_STAT_PASS (2 ^ 15)
theorem witness_CellarBlocks :
    r0.chanFenced 335 15 = false ∧
    (after (.cellarReadBlock 335 15 64 0 (wBlk 0) [] [80] false) r0).sent.map (fun o => match o with | .cellarRd 335 15 _ b => b | _ => false) = [true] ∧
    (after (.cellarWriteBlock 335 15 64 (wBlk 0)) r0).peek (stackKey 335 15 64) 24 = wBlk 0 ∧
    wFence.chanFenced 335 15 = true ∧ after (.cellarReadBlock 335 15 64 0 (wBlk 0) [] [] false) wFence = wFence ∧
    after (.cellarWriteBlock 335 15 64 (wBlk 0)) wFence = wFence ∧
    r0.mntLoop 335 15 = false ∧ after (.cellarReadBlock 335 15 64 0 (wBlk 0) [] [] true) r0 = r0 ∧
    wRescanS.unitStopped (uCEL 335) = false ∧ (wRescanS.cel 335).rescans.find? (fun r => r.ch == 15) = some wRescan ∧ wRescan.passed = 0 ∧
    rxClass wRescanS.tbProfile none (wBlk 0) = .pass ∧
    ((after (.rescanDone 335 15 (wBlk 0) [] []) wRescanS).cel 335).rescans = [{ wRescan with passed := 1 }] ∧
    r0.unitStopped (uCEL 335) = false ∧ r0.celRuns 335 = true ∧ (List.replicate 256 (7 : Byte)).length = 256 ∧
    refMult ((r0.wr (uCEL 335) CEL_STAT_REFMULT 2).celBand 335) < (r0.wr (uCEL 335) CEL_STAT_REFMULT 2).rd (uCEL 335) CEL_STAT_REFMULT ∧
    (after (.refreshMultLower 335) (r0.wr (uCEL 335) CEL_STAT_REFMULT 2)).rd (uCEL 335) CEL_STAT_REFMULT = 0 ∧
    (((wSaved 0).cel 335).saved.map (·.pcyc)) = some (wSaved 0).attic.pcyc ∧ [false, true].contains true = true ∧
    (after (.saveAreaRestore 335 [false, true] 0) (wSaved 0)).isSet (uCEL 335) CEL_STAT_RESTORED = true ∧
    [false, false].contains true = false ∧ event (wSaved 0) 0x5041 (puCel 335) 9 ∈ (after (.saveAreaRestore 335 [false, false] 9) (wSaved 0)).transit ∧
    writable wSuspect (uCEL 335) = true ∧ wSuspect.takingOver = false ∧ wSuspect.chanSuspect 335 15 = true ∧ bit (wSuspect.rd (uCEL 335) CEL_STP_STAT_PASS) 15 = true ∧
    (after (.channelClear 335 (BitVec.ofNat 32 (2 ^ 31))) wSuspect).rd (uCEL 335) CEL_STAT_SUSPECT = 0 := by (repeat' apply And.intro) <;> decide +kernel
/-- A granule that an earlier read corrected waits for its rewrite; a host write has overtaken it. -/
def wRewrite (late : Bool) : State := r0.updCel 335 (fun x => { x with
  rewrite := [(3, 2, List.replicate 256 9)], overtaken := if late then [(3, 2)] else [] })
theorem witness_CellarBlocks_scrub :
    ((after (.scrubGranule 335 .correctable (List.replicate 256 7)) r0).cel 335).rewrite = [(0, 0, List.replicate 256 7)] ∧
    ((wRewrite false).cel 335).rewrite = [(3, 2, List.replicate 256 9)] ∧ ((wRewrite false).cel 335).overtaken.contains (3, 2) = false ∧
    (after (.scrubGranule 335 .clean (List.replicate 256 0)) (wRewrite false)).peek (stackKey 335 3 512) 256 = List.replicate 256 (9 : Byte) ∧
    ((wRewrite true).cel 335).overtaken.contains (3, 2) = true ∧ (after (.scrubGranule 335 .clean (List.replicate 256 0)) (wRewrite true)).mem = [] := by (repeat' apply And.intro) <;> decide +kernel

/-- Slice 7 of tensor 3, on the last channel of the last Cellar, in a state and with its digests. -/
def wEnt (state : Nat) (localOk : Bool) : SliceEnt := ⟨3, 7, 1, 5375, 15, false, state, localOk, true, 0, 0, 32, 0, 0, 21, 22⟩
def wCel (state : Nat) (localOk : Bool) (f : CelSt → CelSt) : State :=
  (rOn.wr uBRW BRW_DIG_WAFER_ID 5).updCel 335 (fun x => f { x with slices := [(0, wEnt state localOk)] })
def wSame : CelSt → CelSt := fun x => x
/-- An empty entry whose staged slice is good. -/
def wStage : State := rOn.wr (uCEL 335) CEL_SLICE_STAGE (3 + 7 * 2 ^ 32 + 32 * 2 ^ 192)
theorem witness_SliceCommands :
    writable (wCel 3 true wSame) (uCEL 335) = true ∧ (wCel 3 true wSame).takingOver = false ∧ (wCel 3 true wSame).rd (uCEL 335) CEL_SLICE_SEL_INDEX = 0 ∧
    ((wCel 3 true wSame).slice 335 0).isSome = true ∧ (after (.sliceWrite 335) (wCel 3 true wSame)).rd (uCEL 335) CEL_SLICE_CMD_STATUS = 3 ∧
    rOn.slice 335 (rOn.rd (uCEL 335) CEL_SLICE_SEL_INDEX) = none ∧
    rOn.sliceBad 335 (rOn.rd (uCEL 335) CEL_SLICE_STAGE) (stagedSlice (rOn.rd (uCEL 335) CEL_SLICE_STAGE)) = true ∧
    writable rOn (uCEL 335) = true ∧ (after (.sliceWrite 335) rOn).rd (uCEL 335) CEL_SLICE_CMD_STATUS = 4 ∧
    writable wStage (uCEL 335) = true ∧ wStage.slice 335 (wStage.rd (uCEL 335) CEL_SLICE_SEL_INDEX) = none ∧
    wStage.sliceBad 335 (wStage.rd (uCEL 335) CEL_SLICE_STAGE) (stagedSlice (wStage.rd (uCEL 335) CEL_SLICE_STAGE)) = false ∧
    (after (.sliceWrite 335) wStage).rd (uCEL 335) CEL_SLICE_CMD_STATUS = 2 ∧
    (after (.sliceWrite 335) wStage).slice 335 0 = some (stagedSlice (wStage.rd (uCEL 335) CEL_SLICE_STAGE)) ∧
    (wCel 1 true wSame).slice 335 0 = some (wEnt 1 true) ∧ writable (wCel 1 true wSame) (uCEL 335) = true ∧
    (0, 2) ∈ ((after (.sliceVerify 335) (wCel 1 true wSame)).cel 335).cmds ∧
    (after (.sliceVerify 335) (wCel 3 true wSame)).rd (uCEL 335) CEL_SLICE_CMD_STATUS = 3 ∧
    (0, 4) ∈ ((after (.sliceRedigest 335) (wCel 3 true wSame)).cel 335).cmds ∧
    (0, 4) ∈ ((after (.sliceRedigest 335) (wCel 6 true wSame)).cel 335).cmds ∧
    (after (.sliceRedigest 335) (wCel 1 true wSame)).rd (uCEL 335) CEL_SLICE_CMD_STATUS = 3 ∧
    (after (.sliceDrop 335) (wCel 3 true wSame)).slice 335 0 = none ∧
    (after (.sliceDrop 335) (wCel 3 true wSame)).rd (uCEL 335) CEL_SLICE_CMD_STATUS = 2 := by (repeat' apply And.intro) <;> decide +kernel

def wRec (rtype digest : Nat) : List Byte := Xrec.bytes ⟨rtype, 0, 1, 9, 5, 3, 7, 5375, 32, digest⟩
/-- A tick is due; a cluster's map of the last field waits. -/
def wTick : State := { rOn with wall := 400000 }
def wUnmapped : State := rOn.updPort 839 (fun p => { p with commit := true })
/-- The maps of the last field's clusters are in force, and the engine has absorbed the slice. -/
def wMapped (s : State) : State := s.each (List.range 10) (fun s i => s.updPort (830 + i) (fun p => { p with base := some [] }))
def wTurn (x : CelSt) : CelSt := { x with rot := { x.rot with on := true, engs := [(0, 32)] } }
def wTurning : State := wMapped (wCel 3 true wTurn)
def wThird (x : CelSt) : CelSt := { x with third := [(0, 0xFF)] }
theorem witness_SliceExchange :
    rOn.stopped = false ∧ wTick.tickDue = true ∧ wTick.bhAlive wTick.active = true ∧ rOn.tickDue = false ∧ after .digestTickSend rOn = rOn ∧
    wTurning.unitStopped (uCEL 335) = false ∧ wTurning.digestWait 335 = none ∧ wTurning.celRuns 335 = true ∧ (wTurning.cel 335).rot.on = true ∧
    (after (.digestTick 335) wTurning).rd (uCEL 335) CEL_DIG_TICK_COUNT = 1 ∧
    wUnmapped.unitStopped (uCEL 335) = false ∧ wUnmapped.celRuns 335 = true ∧ (wUnmapped.digestWait 335).isSome = true ∧
    (after (.digestTick 335) wUnmapped).cels = wUnmapped.cels ∧
    wTurning.slice 335 0 = some (wEnt 3 true) ∧ wTurning.absorbed 335 0 (wEnt 3 true) = true ∧
    wTurning.digestWait 335 = none ∧ (wEnt 3 true).state ≠ 1 ∧ (wEnt 3 true).state ≠ 4 ∧ (wEnt 3 true).state ≠ 5 ∧
    (granList (wEnt 3 true).addr (wEnt 3 true).length).any (fun g => wTurning.granIn 335 (wEnt 3 true).ch g) = false ∧
    (walkSlice wTurning.tbProfile ([(0xFF : Byte)].length / 32 + 1) 0 [0xFF]).fault = some 0 ∧
    event wTurning 0x5024 (puCel 335) 3 7 0 ∈ (after (.sliceDigestDone 335 0 [0xFF] [] []) wTurning).transit ∧
    2 ≤ (Xrec.ofBytes (wRec 2 0)).rtype ∧ (Xrec.ofBytes (wRec 6 0)).rtype ≤ 6 ∧ after (.digestRecord 95 (wRec 2 0)) rOn = rOn ∧
    after (.digestRecord 95 (wRec 6 0)) rOn = rOn ∧ 6 < (Xrec.ofBytes (wRec 7 0)).rtype ∧
    (after (.digestRecord 95 (wRec 7 0)) rOn).cnt (uCEL (doorCellar 95)) CEL_DIG_IGN_COUNT = 1 ∧
    (wCel 3 false wSame).routeRec (Xrec.ofBytes (wRec 1 77)) = .inl 335 ∧ (wCel 3 false wSame).findSlice 335 (Xrec.ofBytes (wRec 1 77)) = .inl 0 ∧
    (Xrec.ofBytes (wRec 1 77)).rtype = 1 ∧ (wEnt 3 false).localOk = false ∧
    ((after (.digestRecord 95 (wRec 1 77)) (wCel 3 false wSame)).slice 335 0).map (·.peerDig) = some 77 ∧
    (wCel 3 true wSame).routeRec (Xrec.ofBytes (wRec 2 0)) = .inl 335 ∧ (wCel 3 true wSame).findSlice 335 (Xrec.ofBytes (wRec 2 0)) = .inl 0 ∧
    (wEnt 3 true).state = 3 ∧ ((wCel 3 true wSame).door 95).shut = false ∧
    (wEnt 6 true).state = 6 ∧ ((wCel 6 true wThird).cel 335).third.any (fun t => t.1 == 0) = true ∧
    (Xrec.ofBytes (wRec 3 22)).digest = (wEnt 6 true).peerDig ∧
    event rOn 0x5021 (puCel 335) 3 7 0 ∈ (after (.thirdCopyAnswer 95 (wRec 3 22)) (wCel 6 true wThird)).transit ∧
    (Xrec.ofBytes (wRec 3 21)).digest ≠ (wEnt 6 true).peerDig ∧ (Xrec.ofBytes (wRec 3 21)).digest = (wEnt 6 true).localDig ∧
    event rOn 0x5022 (puCel 335) 3 7 0 ∈ (after (.thirdCopyAnswer 95 (wRec 3 21)) (wCel 6 true wThird)).transit ∧
    raised (wCel 6 true wThird) (after (.thirdCopyTimeout 335 0) (wCel 6 true wThird)) 0x5023 (puCel 335) 3 7 0 := by (repeat' apply And.intro) <;> decide +kernel

def wRepair (readback : Bool) (wrote : List (Nat × Nat)) : Repair := ⟨0, 2, 22, 0, 0, [], false, 0, [], wrote, [], readback⟩
/-- Peer 0 holds the copy that the repair takes. -/
def wQueued : State := wCel 5 true (fun x => { x with queue := [wRepair false []], rot := { x.rot with peers := [(0, 9, 95)] } })
def wRepairing (readback : Bool) (wrote : List (Nat × Nat)) : State := wCel 4 true (fun x => { x with running := [wRepair readback wrote] })
def wOpen : OpenReload := ⟨335, 0, 4096, 0⟩
def wReload : State := rOn.updReloadOf 95 (fun _ => [wOpen])
def wShort : OpenReload := ⟨335, 0, 8, 0⟩
def wReloadShort : State := rOn.updReloadOf 95 (fun _ => [wShort])
theorem witness_SliceRepairs :
    wQueued.unitStopped (uCEL 335) = false ∧ wQueued.celRuns 335 = true ∧ (wQueued.cel 335).queue = [wRepair false []] ∧
    (wQueued.cel 335).running.length < 4 ∧ wQueued.slice 335 (wRepair false []).slice = some (wEnt 5 true) ∧ wQueued.repairOf 335 0 = none ∧
    (wEnt 5 true).state = 5 ∧ repairSources (wQueued.cel 335).rot (wEnt 5 true) (wRepair false []).reference ≠ [] ∧
    (wCel 3 true wSame).repairOf 335 0 = none ∧ (wCel 3 true wSame).routeRec (Xrec.ofBytes (wRec 4 0)) = .inl 335 ∧
    (wCel 3 true wSame).findSlice 335 (Xrec.ofBytes (wRec 4 0)) = .inl 0 ∧
    (after (.reloadAnnouncement 95 (wRec 5 0)) (wCel 3 true wSame)).reloadOf 95 = [⟨335, 0, 32, 0⟩] ∧
    (wRepairing false []).repairOf 335 0 = some (wRepair false []) ∧ (wRepair false []).announced = false ∧ (wRepair false []).readback = false ∧
    ((wRepairing false []).cel 335).third.any (fun t => t.1 == 0) = false ∧ (wRepairing false []).routeRec (Xrec.ofBytes (wRec 6 0)) = .inl 335 ∧
    (wRepairing false []).findSlice 335 (Xrec.ofBytes (wRec 6 0)) = .inl 0 ∧
    after (.reloadRefusal 95 (wRec 6 0)) (wRepairing false []) = (wRepairing false []).askSource 335 0 1 ∧
    after (.reloadTimeout 335 0) (wRepairing false []) = (wRepairing false []).askSource 335 0 2 ∧
    rOn.reloadOf 95 = [] ∧ rOn.marks.contains (puCel (doorCellar 95), 0x5060, 0) = false ∧
    (∃ e ∈ (after (.reloadBlock 95 (wBlk 0) false) rOn).transit, e.code = 0x5060 ∧ e.p6 = 5) ∧
    wReload.reloadOf 95 = [wOpen] ∧ wReload.repairOf wOpen.cellar wOpen.slice = none ∧
    wOpen.got + blockSize (Header.ofBytes (wBlk 0)) < wOpen.length ∧
    (after (.reloadBlock 95 (wBlk 0) false) wReload).reloadOf 95 = [{ wOpen with got := blockSize (Header.ofBytes (wBlk 0)) }] ∧
    wReloadShort.reloadOf 95 = [wShort] ∧ wReloadShort.repairOf wShort.cellar wShort.slice = none ∧
    wShort.length < wShort.got + blockSize (Header.ofBytes (wBlk 0)) ∧ wReloadShort.marks.contains (puCel (doorCellar 95), 0x5060, 0) = false ∧
    (after (.reloadBlock 95 (wBlk 0) false) wReloadShort).reloadOf 95 = [wShort] ∧
    (wRepairing true [(0, 32)]).repairOf 335 0 = some (wRepair true [(0, 32)]) ∧ (wRepairing true [(0, 32)]).slice 335 0 = some (wEnt 4 true) ∧
    (wBlk 0 ++ List.replicate 8 0).length = ((wRepair true [(0, 32)]).wrote.map (·.2)).sum ∧
    readBackOk rOn.tbProfile ((wBlk 0 ++ List.replicate 8 0).length / 32 + 1) (wBlk 0 ++ List.replicate 8 0) = true ∧
    (wRepairing true [(0, 32)]).unitStopped (uCEL 335) = false ∧ (wRepair true [(0, 32)]).readback = true ∧
    (wRepairing true [(0, 32)]).marks.contains (puCel 335, 0x5011, 0) = false ∧
    (∃ x ∈ (after (.repairReadback 335 0 (wBlk 0 ++ List.replicate 8 0) [] []) (wRepairing true [(0, 32)])).transit, x.code = 0x5011 ∧ x.puid = puCel 335) := by (repeat' apply And.intro) <;> decide +kernel

def wScanLen : State := rOn.wr uBRW CKU_SCAN_LEN_LEN 64
def wScan : State := rOn.updScan uBRW (fun x => { x with busy := true, len := 64 })
theorem witness_MemoryScans :
    writable rOn (scanUnit .brew) = true ∧ rOn.takingOver = false ∧ bit (0xC0000000 : Word).toNat 31 = true ∧ bit (0xC0000000 : Word).toNat 30 = true ∧
    (after (.scanGo .brew 0xC0000000) rOn).isSet uBRW CKU_SCAN_STAT_OVERRUN = true ∧
    bit (0x80000000 : Word).toNat 31 = true ∧ bit (0x80000000 : Word).toNat 30 = false ∧
    writable wScan uBRW = true ∧ (wScan.scan uBRW).busy = true ∧ (after (.scanGo .brew 0x80000000) wScan).isSet uBRW CKU_SCAN_STAT_OVERRUN = true ∧
    (rOn.scan uBRW).busy = false ∧ rOn.rd uBRW CKU_SCAN_LEN_LEN = 0 ∧ (after (.scanGo .brew 0x80000000) rOn).rd uBRW CKU_SCAN_STAT_CODE = 2 ∧
    writable wScanLen uBRW = true ∧ (wScanLen.scan uBRW).busy = false ∧ 0 < wScanLen.rd uBRW CKU_SCAN_LEN_LEN ∧
    wScanLen.rd uBRW CKU_SCAN_LEN_LEN ≤ 2 ^ 40 - 64 ∧ spaceSize .brew (bits (0x80000000 : Word).toNat 4 0) = some 16777216 ∧
    wScanLen.rd uBRW CKU_SCAN_START_ADDR + wScanLen.rd uBRW CKU_SCAN_LEN_LEN ≤ 16777216 ∧
    ((after (.scanGo .brew 0x80000000) wScanLen).scan uBRW).busy = true ∧
    crcPreset (bits (0x4000 : Word).toNat 14 12) = some ⟨64, 0x42F0E1EBA9EA3693, 0xFFFFFFFFFFFFFFFF, true, true, 0xFFFFFFFFFFFFFFFF⟩ ∧
    bits (0x4000 : Word).toNat 14 12 ≠ 0 ∧ (after (.scanProfileWrite .brew 0x4000) rOn).rd uBRW CKU_SC_CFG_WIDTH = 64 ∧
    ((after (.scanAbort .brew) wScan).scan uBRW).abort = true ∧
    wScan.scanHeld .brew = false ∧ (wScan.scan uBRW).cmp = false ∧ (wScan.scan uBRW).fed ≤ (wScan.scan uBRW).len ∧
    (wScan.scan uBRW).len - (wScan.scan uBRW).fed ≤ 64 - ((wScan.scan uBRW).start + (wScan.scan uBRW).fed) % 64 ∧
    (after (.scanLineDone .brew (List.replicate 64 0) .clean) wScan).rd uBRW CKU_SCAN_STAT_CODE = 0 ∧ wScan.fw.checks = [] := by (repeat' apply And.intro) <;> decide +kernel

def wRxDir : State := rOn.flag (uDOR 95) CKU_STRM_SEL_DIR true
def wCommit : State := r0.updPort 839 (fun p => { p with commit := true, coreShadow := [(0, 1024)] })
theorem witness_StreamsAndMaps :
    writable rOn (uCEL 335) = true ∧ bit (1 : Word).toNat 0 = true ∧
    ((after (.streamResync (.cellar 335) 1) rOn).winStream (4096 * 335)).resync = true ∧
    ((after (.windowApply 335 0x800000F0) rOn).win (4096 * 335)).en = true ∧ ((after (.windowApply 335 0x800000F0) rOn).win (4096 * 335)).chan = 15 ∧
    writable wRxDir (uDOR 95) = true ∧ wRxDir.isSet (uDOR 95) CKU_STRM_SEL_DIR = true ∧
    ((after (.streamResync (.door 95) 1) wRxDir).stream (skey 95 1 0)).resync = true ∧
    rOn.takingOver = false ∧ wRxDir.takingOver = false ∧ (wCommit.port 839).commit = true ∧ (wCommit.port 839).mig = none ∧
    wCommit.resets.find? (fun x => x.level == 2 && x.at_ == 839 && x.step == 5) = none ∧
    ((after (.mapCommitDone 839) wCommit).port 839).commit = false ∧ ((after (.mapCommitDone 839) wCommit).port 839).coreShadow = [] ∧
    r0.marks.contains (puTst 839, 0x4043, 0) = false ∧ raised r0 (after (.mapMiss 839 true 5) r0) 0x4043 (puTst 839) 5 1 := by (repeat' apply And.intro) <;> decide +kernel

/-! Chapter 06: adjudication, verdicts and spares. -/
/-- A case of an accumulation without products whose neighbour is asked; requests for its repeat and for that of a gated command. -/
def wCase : Case := ⟨5, 839, 2, 9, .residue 1, false, false, 0, 0, 0, 0, 0, .waiting, .waiting, .waiting, .waiting, .acc [] 4 127 127,
  ⟨0, 0⟩, 1, 0, none, false, false, some 838, 0, [], 1, 0, 0, false⟩
def wRq (stage : Nat) : RptReq := ⟨839, .case 5, 0, 2, 9, 0, stage⟩
def wRqGated (stage : Nat) : RptReq := ⟨839, .gated 9, 1, 0, 9, 0, stage⟩
def wAdj (rq : List RptReq) (c : Case) : State := (r0.updAdjOf 839 (fun a => { a with cases := [c], rq := rq })).updRplOf 839
  (fun x => { x with cmds := [wRcmd] })
theorem witness_Adjudication :
    (wAdj [wRq 1] wCase).rqFind 839 1 = some (839, wRq 1) ∧ (wRq 1).what = .case 5 ∧
    ((after (.repeatStart 839) (wAdj [wRq 1] wCase)).caseOf 839 5).map (·.rpt) = some 2 ∧
    (wAdj [wRqGated 1] wCase).rqFind 839 1 = some (839, wRqGated 1) ∧ (wRqGated 1).what = .gated 9 ∧
    ((after (.repeatStart 839) (wAdj [wRqGated 1] wCase)).adjOf 839).rq = [wRqGated 2] ∧
    ((wAdj [wRqGated 1] wCase).rqSet 839 (wRqGated 1) (some (wRqGated 2))).descOf 839 9 = none ∧
    (wAdj [wRq 2] wCase).rqFind 839 2 = some (839, wRq 2) ∧
    ((after (.repeatDone 839 3 none) (wAdj [wRq 2] wCase)).caseOf 839 5).map (fun c => (c.rpt, c.ncore, c.c2)) = some (3, 3, .absent) ∧
    (wAdj [wRqGated 2] wCase).rqFind 839 2 = some (839, wRqGated 2) ∧
    (wAdj [] wCase).caseOf 839 5 = some wCase ∧ (wAdj [] wCase).stageHeld 839 5 = false ∧ Got.waits wCase.t1 = true ∧ wCase.held ≠ .none ∧
    ((after (.referenceT1Done 839 5 none) (wAdj [] wCase)).caseOf 839 5).map (·.t1) = some (.val (.exact (Dy.sum []))) ∧
    (wAdj [] wCase).stageHeld 838 5 = false ∧ wCase.asked = some 838 ∧ wCase.t2p = none ∧ waitsAdopter wCase 839 = false ∧
    ((after (.neighbourRequest 838 839 5 none) (wAdj [] wCase)).caseOf 839 5).map (·.t2p) = some (some (.exact (Dy.sum []))) ∧
    (after (.neighbourRequest 838 839 5 none) (wAdj [] wCase)).cnt (uTST 838) TST_ADJ_SERVED_COUNT = 1 ∧
    (wAdj [] { wCase with t2p := some (.elem 1 0x7F) }).caseOf 839 5 = some { wCase with t2p := some (.elem 1 0x7F) } ∧ Got.waits wCase.t2 = true ∧
    ((after (.neighbourAnswer 839 5) (wAdj [] { wCase with t2p := some (.elem 1 0x7F) })).caseOf 839 5).map (·.t2) = some (.val (.elem 1 0x7F)) ∧
    (wAdj [] wCase).unitStopped (uTST 839) = false ∧ wCase.tries = 0 ∧ wCase.asked.isSome = true ∧
    (wAdj [] { wCase with tries := 1 }).caseOf 839 5 = some { wCase with tries := 1 } ∧
    ((after (.neighbourTimeout 839 5) (wAdj [] { wCase with tries := 1 })).caseOf 839 5).map (·.t2) = some .absent := by (repeat' apply And.intro) <;> decide +kernel

def wVerdict : Verdict := ⟨2, 839, 7, 9, puCore 839 7, 1, false, false, false, false, 0, 0, 0, 0, 0⟩
/-- Core 7 holds logical core 0 and is fenced; every other core may serve. -/
def wFencedCore : State := (r0.updPort 839 (fun p => { p with coreLive := [(0, 1024 + 7)] })).updCore (ckey 839 7) (fun c => { c with fence := true })
def wMig : Migration := ⟨7, 0, 0, false, none⟩
def wMigrating : State := wFencedCore.updPort 839 (fun p => { p with mig := some wMig })
/-- The same under steep; only core 0 is free beside it. -/
def wSteepCore : State := wFencedCore.updUnit (puCore 839 7) (fun u => { u with steep := true })
def wLive : State := r0.updCtx 4095 (fun x => { x with state := 1 })
def wKilled : State := r0.updCtx 4095 (fun x => { x with state := 1, killed := true })
theorem witness_VerdictsAndSpares :
    (r0.updVerdictsOf 41 (fun _ => [wVerdict])).verdictsOf 41 = [wVerdict] ∧ ((r0.updVerdictsOf 41 (fun _ => [wVerdict])).hall 41).procHeld = false ∧
    ((after (.hallVerdict 41) (r0.updVerdictsOf 41 (fun _ => [wVerdict]))).chan (chTst 839)).items = 1 ∧
    (wFencedCore.core (ckey 839 7)).fence = true ∧ (wFencedCore.core (ckey 839 7)).cmd = none ∧ wFencedCore.coreResetting 839 7 = false ∧
    (wFencedCore.port 839).mig = none ∧ wFencedCore.widerReset 839 = false ∧ wFencedCore.logicalOf 839 7 = some 0 ∧
    (wFencedCore.spares 839).head? = some 0 ∧ (wFencedCore.unit (puCore 839 7)).steep = false ∧ ((after (.fenceBoundary 839 7) wFencedCore).port 839).mig = some wMig ∧
    (wMigrating.port 839).mig = some wMig ∧ ((after (.migrationDone 839 33 false) wMigrating).port 839).mig = some { wMig with copied := some 33 } ∧
    (4095 : Ctx).toNat ≠ 0 ∧ (wLive.ctx (4095 : Ctx).toNat).state = 1 ∧ (wLive.ctx (4095 : Ctx).toNat).killed = false ∧
    (∃ e ∈ (after (.poisonReport 839 7 4095 1 2) wLive).transit, e.code = 0x4050 ∧ e.puid = puCore 839 7 ∧ e.p5 = 4095 * 2 ^ 16 ∧ e.p6 = 2 ^ 16 + 2) ∧
    (wKilled.ctx (4095 : Ctx).toNat).killed = true ∧ after (.poisonReport 839 7 4095 1 2) wKilled = wKilled.count (uTST 839) TST_PSN_RETIRED_COUNT ∧
    (wSteepCore.unit (puCore 839 7)).steep = true ∧ ((wSteepCore.spares 839).drop 1).head? = some 1 ∧
    ((after (.fenceBoundary 839 7) wSteepCore).port 839).mig = some { wMig with steep := true } ∧
    writable r0 uBRW = true ∧ r0.takingOver = false ∧ (after (.historySelect 5) r0).histLatch = none := by (repeat' apply And.intro) <;> decide +kernel

/-- A table that gives every key of a list but one the same value gives it for each of the others. -/
theorem find_others (f : Nat → Nat) (x : UnitSt) (l : List Nat) (p : Nat) (h : p ∈ l) (hp : p ≠ 7) :
    Tab.find (f p) ((l.filter (· != 7)).map (fun q => (f q, x))) = some x := by
  induction l with
  | nil => cases h
  | cons q l ih =>
    rcases List.mem_cons.mp h with e | h
    · subst e
      simp [hp, Tab.find]
    · by_cases hq : q = 7
      · simpa [List.filter_cons, hq] using ih h
      · simp only [List.filter_cons, bne_iff_ne, ne_eq, hq, not_false_eq_true, if_true, List.map_cons, Tab.find]
        split
        · rfl
        · exact ih h
/-- Every core but core 7 of cluster 839 is out of use. -/
@[irreducible] def wUnits : Tab UnitSt := ((List.range 1024).filter (· != 7)).map (fun p => (puCore 839 p, { unit0 0 with perm := true }))
def wNoSpare : State := { wFencedCore with units := wUnits }
theorem find_wUnits (l : List Nat) (hl : l = List.range 1024) (p : Nat) (hp : p ∈ l) (h : p ≠ 7) :
    Tab.find (puCore 839 p) wUnits = some { unit0 0 with perm := true } := by
  unfold wUnits
  rw [← hl]
  exact find_others (puCore 839) _ l p hp h
theorem unit_wUnits (s : State) (hu : s.units = wUnits) (l : List Nat) (hl : l = List.range 1024) (p : Nat) (hp : p ∈ l) (h : p ≠ 7) :
    s.unit (puCore 839 p) = { unit0 0 with perm := true } := by
  have e : Tab.find (puCore 839 p) s.units = some { unit0 0 with perm := true } := hu ▸ find_wUnits l hl p hp h
  unfold State.unit Tab.get
  rw [e]
  rfl
theorem noSpare (s : State) (h7 : ((s.mapped 839).map (·.1)).contains 7 = true)
    (key : ∀ l : List Nat, l = List.range 1024 → ∀ p ∈ l, p ≠ 7 → s.unit (puCore 839 p) = { unit0 0 with perm := true }) : s.spares 839 = [] := by
  unfold State.spares
  generalize List.range 1024 = l at *
  replace key := key l rfl
  apply List.filter_eq_nil_iff.mpr
  intro p hp
  by_cases h : p = 7
  · rw [h, h7]
    simp
  · have hc : s.coreUsable 839 p = false := by
      unfold State.coreUsable
      simp [key p hp h]
    simp [hc]
theorem units_with (s : State) (x : Tab UnitSt) : ({ s with units := x } : State).units = x := rfl
theorem wNoSpare_spares : wNoSpare.spares 839 = [] := noSpare wNoSpare (by decide +kernel) (unit_wUnits _ (units_with wFencedCore wUnits))
/-- The same with core 7 under steep. -/
def wNoSpareSteep : State := { wFencedCore with units := (puCore 839 7, { unit0 0 with steep := true }) :: wUnits }
theorem unit_wNoSpareSteep (l : List Nat) (hl : l = List.range 1024) (p : Nat) (hp : p ∈ l) (h : p ≠ 7) :
    wNoSpareSteep.unit (puCore 839 p) = { unit0 0 with perm := true } := by
  have n : puCore 839 7 ≠ puCore 839 p := by
    have b : p < 1024 := by
      rw [hl] at hp
      exact List.mem_range.mp hp
    clear hl hp
    simp only [puCore, puid]
    omega
  have e : Tab.find (puCore 839 p) wNoSpareSteep.units = some { unit0 0 with perm := true } := by
    show Tab.find (puCore 839 p) ((puCore 839 7, { unit0 0 with steep := true }) :: wUnits) = _
    rw [Tab.find, if_neg n]
    exact find_wUnits l hl p hp h
  unfold State.unit Tab.get
  rw [e]
  rfl
theorem witness_VerdictsAndSpares_one :
    (wNoSpareSteep.unit (puCore 839 7)).steep = true ∧ (wNoSpareSteep.core (ckey 839 7)).fence = true ∧
    wNoSpareSteep.logicalOf 839 7 = some 0 ∧ (wNoSpareSteep.spares 839).length < 2 := by
  have h : wNoSpareSteep.spares 839 = [] := noSpare _ (by decide +kernel) unit_wNoSpareSteep
  exact ⟨by decide +kernel, by decide +kernel, by decide +kernel, by rw [h]; decide⟩
theorem witness_VerdictsAndSpares_none :
    (wNoSpare.core (ckey 839 7)).fence = true ∧ (wNoSpare.core (ckey 839 7)).cmd = none ∧ wNoSpare.coreResetting 839 7 = false ∧
    (wNoSpare.port 839).mig = none ∧ wNoSpare.widerReset 839 = false ∧ wNoSpare.logicalOf 839 7 = some 0 ∧ wNoSpare.spares 839 = [] ∧
    (wNoSpare.unit (puCore 839 7)).steep = false ∧ wNoSpare.marks.contains (puTst 839, 0x4022, 0) = false :=
  ⟨by decide +kernel, by decide +kernel, by decide +kernel, by decide +kernel, by decide +kernel, by decide +kernel, wNoSpare_spares,
    by decide +kernel, by decide +kernel⟩

/-! Chapter 08: steeps, memory and lane tests, grist. -/
/-- A Cellar that is due; a fenced core that is due under an active package, with its Tap's turn. -/
def wDueCel : State := r0.updStpOf (puCel 335) (fun x => { x with due := some 0 })
def wDueCore : State :=
  { (((r0.updStpOf (puCore 839 7) (fun x => { x with due := some 0 })).updUnit (puCore 839 7) (fun u => { u with fenced := true })).updUnit
      (puTap 839 7) (fun u => { u with fenced := true })).wr uBRW BRW_GRIST_ACTIVE_VERSION 3 with grist := ⟨[41], []⟩ }
def wPlan : GristPlan := ⟨[⟨50, 9, 7253664961441836628, 0, [], []⟩, ⟨50, 9, 22, 0, [], []⟩], 100, [1, 1, 1, 1]⟩
/-- Nine response bits, whose bytes are 0x05 and 0x01; their CRC-64/XZ stands in the first slice. -/
def wResp : List Bool := [true, false, true, false, false, false, false, false, true]
def wCoreRun (phase slice : Nat) : StpRun := ⟨puCore 839 7, phase, slice, 2, 0, false, false, false, wPlan, 0, 3, 0, none⟩
def wWaits : State := wFencedCore.updEng (uTST 839) (fun _ => some (wCoreRun 1 1))
/-- The last core of a requalification. -/
def wLastOne : State := wWaits.updAdjOf 839 (fun a => { a with requalOn := true, requal := [7] })
/-- The plan of a rotation that began at 0. -/
def wRotation : State := { r0 with plan := ⟨0, 24, 168, 0, 0⟩ }
theorem witness_SteepStarts :
    (wRotation.unit (steepPuid (.door 95))).absent = false ∧ (wRotation.unit (steepPuid (.door 95))).perm = false ∧
    (wRotation.stpOf (steepPuid (.door 95))).due = none ∧ wRotation.plan.coreH ≠ 0 ∧ wRotation.now < wRotation.planned (steepPuid (.door 95)) ∧
    (wRotation.stpOf (puCore 839 0)).due = none ∧ wRotation.planned (steepPuid (.core 839 0)) ≤ wRotation.now ∧
    ((after (.steepDue (.core 839 0)) wRotation).stpOf (puCore 839 0)).due = some 0 ∧
    r0.stopped = false ∧
    wDueCel.engineHeld (.cellar 335) = false ∧ (wDueCel.eng (engineNo (.cellar 335))).isSome = false ∧
    (wDueCel.hall (regionOfEngine (engineNo (.cellar 335)))).procHeld = false ∧ wDueCel.atK5 (regionOfEngine (engineNo (.cellar 335))) = false ∧
    wDueCel.stopped = false ∧ wDueCel.partReset (regionOfEngine (engineNo (.cellar 335))) = false ∧
    wDueCel.regionLost (regionOfEngine (engineNo (.cellar 335))) = false ∧ wDueCel.regionShut (regionOfEngine (engineNo (.cellar 335))) = false ∧
    wDueCel.stpNext (engineNo (.cellar 335)) = some (5, puCel 335) ∧ puidKind (puCel 335) = 5 ∧
    wDueCel.kindBusy (regionOfEngine (engineNo (.cellar 335))) 5 = false ∧
    ((after (.steepStart (.cellar 335) 100) wDueCel).eng (uCEL 335)).map (fun x => (x.unit, x.phase, x.total)) = some (puCel 335, 4, 16) ∧
    wWaits.runOf (puCore 839 7) = some (wCoreRun 1 1) ∧ (wCoreRun 1 1).phase = 1 ∧ (wWaits.core (ckey 839 7)).rst = false ∧
    (wWaits.port 839).mig.map (·.src) ≠ some 7 ∧ (wWaits.logicalOf 839 7).isNone = false ∧ (wWaits.adjOf 839).requalOn = false ∧
    wLastOne.runOf (puCore 839 7) = some (wCoreRun 1 1) ∧ (wLastOne.adjOf 839).requalOn = true ∧ (wLastOne.adjOf 839).requal.contains 7 = true ∧
    (wLastOne.adjOf 839).requal.all (· == 7) = true ∧ after (.steepWithdraw 839 7) wLastOne = wLastOne ∧
    ((after (.steepWithdraw 839 7) wWaits).eng (uTST 839)).isNone = true ∧
    (r0.unit (puCore 839 1023)).absent = false ∧ (r0.unit (puCore 839 1023)).perm = false ∧ (r0.stpOf (puCore 839 1023)).overdue = false ∧
    r0.marks.contains (puTst 839, 0x7012, 0) = false ∧ ((after (.coreOverdue 839 1023) r0).stpOf (puCore 839 1023)).overdue = true := by (repeat' apply And.intro) <;> decide +kernel
theorem witness_SteepStarts_core :
    wDueCore.engineHeld (.taster 839) = false ∧ (wDueCore.eng (engineNo (.taster 839))).isSome = false ∧
    (wDueCore.hall (regionOfEngine (engineNo (.taster 839)))).procHeld = false ∧ wDueCore.atK5 (regionOfEngine (engineNo (.taster 839))) = false ∧
    wDueCore.stopped = false ∧ wDueCore.partReset (regionOfEngine (engineNo (.taster 839))) = false ∧
    wDueCore.regionLost (regionOfEngine (engineNo (.taster 839))) = false ∧ wDueCore.regionShut (regionOfEngine (engineNo (.taster 839))) = false ∧
    wDueCore.stpNext (engineNo (.taster 839)) = some (3, puCore 839 7) ∧ puidKind (puCore 839 7) = 0 ∧ wDueCore.tstTrusted (puidMajor (puCore 839 7)) = true ∧
    wDueCore.rd uBRW BRW_GRIST_ACTIVE_VERSION ≠ 0 ∧ wDueCore.grist.active.contains (regionOfEngine (engineNo (.taster 839))) = true ∧
    wDueCore.tapDue (puidMajor (puCore 839 7)) (puidMinor (puCore 839 7)) = true ∧ wDueCore.tapPassed (puidMajor (puCore 839 7)) (puidMinor (puCore 839 7)) < 2 ∧
    (wDueCore.unit (puCore 839 7)).fenced = true ∧
    ((after (.steepStart (.taster 839) 100) wDueCore).eng (uTST 839)).map (·.phase) = some 3 := by (repeat' apply And.intro) <;> decide +kernel
/-- The same core, mapped and overdue with no spare left. -/
def wForced : State := { wNoSpare.updStpOf (puCore 839 7) (fun x => { x with overdue := true }) with grist := ⟨[41], []⟩ }
theorem witness_SteepStarts_forced :
    wForced.logicalOf 839 7 = some 0 ∧ (wForced.stpOf (puCore 839 7)).overdue = true ∧ (wForced.stpClass (puCore 839 7)).isNone = false ∧
    wForced.tstTrusted 839 = true ∧ (wForced.spares 839).length < 2 ∧ (wForced.eng (uTST 839)).isSome = false ∧
    (wForced.core (ckey 839 7)).cmd.isSome = false ∧ wForced.grist.active.contains (regionOfCluster 839) = true ∧
    wForced.atK5 (regionOfCluster 839) = false ∧ wForced.stopped = false ∧ (wForced.hall (regionOfCluster 839)).procHeld = false := by
  have h : wForced.spares 839 = [] := noSpare _ (by decide +kernel) (unit_wUnits _ rfl)
  refine ⟨?_, ?_, ?_, ?_, by rw [h]; decide, ?_, ?_, ?_, ?_, ?_, ?_⟩ <;> decide +kernel

def wClearing (phase slice : Nat) : State := (r0.updCore (ckey 839 7) (fun c => { c with rst := true })).updEng (uTST 839) (fun _ => some (wCoreRun phase slice))
/-- The region's clock is so slow that the slice would overrun its budget. -/
def wSlowClk : State := (wClearing 3 2).updHall 41 (fun h => { h with clk := some 10 })
def wSlices (repeated : Bool) : State := r0.updEng (uTST 839) (fun _ => some { wCoreRun 4 1 with repeated := repeated })
def wTstRun : StpRun := ⟨puTst 839, 4, 1, 16, 0, true, false, false, ⟨[], 500, []⟩, 0, 0, 0, none⟩
def wTstSlices : State := r0.updEng (uHAL 41) (fun _ => some wTstRun)
theorem witness_SliceVerdicts :
    ((wClearing 3 2).core (ckey 839 7)).rst = true ∧
    (wClearing 3 2).resets.any (fun y => y.level == 1 && y.at_ == ckey 839 7 && y.step == 5) = false ∧
    (wClearing 3 2).runOf (puCore 839 7) = some (wCoreRun 3 2) ∧ (wCoreRun 3 2).phase ≠ 4 ∧ (wCoreRun 3 2).phase ≠ 5 ∧
    (wCoreRun 3 2).slice ≤ (wCoreRun 3 2).total ∧ 0 < (wCoreRun 3 2).slice ∧
    (wClearing 3 2).overrun (wCoreRun 3 2) = false ∧ ((after (.secretClearDone 839 7 true 15) (wClearing 3 2)).eng (uTST 839)).map (·.margin) = some 1 ∧
    wSlowClk.overrun (wCoreRun 3 2) = true ∧ ((after (.secretClearDone 839 7 true 15) wSlowClk).eng (uTST 839)).isNone = true ∧
    (∃ e ∈ (after (.secretClearDone 839 7 false 15) (wClearing 3 2)).transit, e.code = 0x7001 ∧ e.puid = puCore 839 7 ∧ e.p6 = 2) ∧
    (wSlices false).engineHeld (.taster 839) = false ∧ (wSlices false).eng (engineNo (.taster 839)) = some (wCoreRun 4 1) ∧
    puidKind (wCoreRun 4 1).unit ≠ 6 ∧ puidKind (wCoreRun 4 1).unit ≠ 5 ∧ stpSig (wCoreRun 4 1) wResp = stpExpected (wCoreRun 4 1) ∧
    (wCoreRun 4 1).slice + 1 ≤ (wCoreRun 4 1).total ∧ (wSlices false).atK5 (regionOfEngine (engineNo (.taster 839))) = false ∧
    ((wSlices false).updHall 41 (fun h => { h with clk := some 100 })).overrun (wCoreRun 4 2) = false ∧
    ((after (.sliceCompare (.taster 839) wResp 100) (wSlices false)).eng (uTST 839)).map (fun x => (x.slice, x.margin)) = some (2, 1) ∧
    stpSig (wCoreRun 4 1) [] ≠ stpExpected (wCoreRun 4 1) ∧ (wCoreRun 4 1).repeated = false ∧
    ((after (.sliceCompare (.taster 839) [] 100) (wSlices false)).eng (uTST 839)).map (fun x => (x.slice, x.repeated)) = some (1, true) ∧
    ((after (.sliceAbort (.taster 839) 9) (wSlices false)).eng (uTST 839)).isNone = true ∧
    event (wSlices false) 0x7010 (puCore 839 7) 1 100 9 ∈ (after (.sliceAbort (.taster 839) 9) (wSlices false)).transit := by (repeat' apply And.intro) <;> decide +kernel
theorem witness_SliceVerdicts_taster :
    wTstSlices.engineHeld (.hall 41) = false ∧ wTstSlices.eng (engineNo (.hall 41)) = some wTstRun ∧ wTstRun.phase = 4 ∧ puidKind wTstRun.unit = 2 ∧
    (stpSig wTstRun [] ≠ stpExpected wTstRun ∨ stpSig wTstRun [true] ≠ stpExpected wTstRun) ∧ wTstRun.repeated = true := by
  refine ⟨by decide +kernel, by decide +kernel, rfl, by decide +kernel, ?_, rfl⟩
  have h : stpSig wTstRun [] ≠ stpSig wTstRun [true] := by decide +kernel
  generalize stpExpected wTstRun = n
  omega

def wMarch : State := (rOn.wr (uCEL 335) CEL_STAT_SUSPECT (2 ^ 15)).wr (uCEL 335) CEL_CH_CTRL_FENCE (2 ^ 15)
def wMarching : State := r0.wr (uCEL 335) CEL_STP_STAT_BUSY (2 ^ 15)
def wLaneRun : StpRun := ⟨puDor 95, 4, 9, 9, 0, false, false, false, ⟨[], 500, []⟩, 0, 0, 0, none⟩
def wLane : State := (r0.updEng (uDOR 95) (fun _ => some wLaneRun)).updDoor 95 (fun d => { d with lb := [0, 0, 0, 2] })
/-- The Cellar's slice that loops its last channel's PHY back. -/
def wPhyRun : StpRun := ⟨puCel 335, 4, 16, 16, 0, false, false, false, ⟨[], 500, []⟩, 0, 0, 0, none⟩
def wPhy : State := r0.updEng (uCEL 335) (fun _ => some wPhyRun)
theorem witness_MemoryAndLaneTests :
    r0.eng (uCEL 335) = none ∧ wPhy.eng (uCEL 335) = some wPhyRun ∧ wPhyRun.phase = 4 ∧ wPhyRun.slice = 15 + 1 ∧ wPhyRun.looped = false ∧
    (5 : BitVec 16) ≠ 0 ∧ (after (.phyLoopback 335 15 5) wPhy).chanSuspect 335 15 = true ∧ (after (.phyLoopback 335 15 0) wPhy).eng (uCEL 335) = some { wPhyRun with looped := true } ∧
    writable wMarch (uCEL 335) = true ∧ wMarch.takingOver = false ∧ bit (0x8000 : Word).toNat 15 = true ∧ wMarch.chanSuspect 335 15 = true ∧ wMarch.chanFenced 335 15 = true ∧
    bit ((after (.channelMarch 335 0x8000) wMarch).rd (uCEL 335) CEL_STP_STAT_BUSY) 15 = true ∧
    bit (wMarching.rd (uCEL 335) CEL_STP_STAT_BUSY) 15 = true ∧
    wLane.eng (uDOR 95) = some wLaneRun ∧ 2 ≤ wLaneRun.slice ∧ (laneSlice wLaneRun.slice).1 = 3 ∧ (wLane.door 95).lb.getD 3 0 = (laneSlice wLaneRun.slice).2 ∧
    bit ((after (.laneLoopbackEnd 95 3 5 100) wLane).door 95).heldLanes 3 = true ∧
    (∃ e ∈ (after (.laneLoopbackEnd 95 3 5 100) wLane).transit, e.code = 0xC011 ∧ e.puid = puLane 95 3 ∧ e.p5 = 2 ∧ e.p6 = 5) ∧
    puidOk (anaUnit (.rail 41)) = true ∧ r0.anaReason (.rail 41) ⟨0, 16, false⟩ ≠ 0 ∧ (after (.analogueCheck (.rail 41) ⟨0, 16, false⟩) r0).ana.contains (anaKey (.rail 41)) = true ∧
    puidOk (anaUnit (.sensor 83 15)) = false ∧ after (.analogueCheck (.sensor 83 15) ⟨0, 16, false⟩) r0 = r0 ∧
    r0.anaReason (.rail 41) ⟨0, 15, false⟩ = 0 ∧ (after (.analogueCheck (.rail 41) ⟨0, 15, false⟩) r0).ana = [] ∧
    ({ r0 with ana := [anaKey (.rail 41)] } : State).ana.contains (anaKey (.rail 41)) = true ∧
    (∃ e ∈ (after (.analogueRecheck (.rail 41) ⟨0, 16, false⟩) { r0 with ana := [anaKey (.rail 41)] }).transit,
      e.code = 0x7001 ∧ e.puid = anaUnit (.rail 41) ∧ e.p6 = 5) := by (repeat' apply And.intro) <;> decide +kernel

def wGrist : State := r0.wr uBRW BRW_GRIST_STAT_STATE 5
def wActive : State := r0.wr uBRW BRW_GRIST_ACTIVE_VERSION 3
theorem witness_GristPackages :
    (r0.wr uBRW BRW_GRIST_STAT_STATE 2).rd uBRW BRW_GRIST_STAT_STATE = 2 ∧ Tab.get (fun _ => 0) (r0.wr uBRW BRW_GRIST_STAT_STATE 2).dl 3 = 0 ∧
    wGrist.rd uBRW BRW_GRIST_STAT_STATE = 5 ∧ (BitVec.ofNat 384 (wGrist.gristSha gristStaged)).toNat = wGrist.gristSha gristStaged ∧
    (BitVec.ofNat 384 (wGrist.gristSha gristStaged + 1)).toNat ≠ wGrist.gristSha gristStaged ∧
    wActive.regionLost 41 = false ∧ wActive.rd uBRW BRW_GRIST_ACTIVE_VERSION ≠ 0 ∧ wActive.grist.active.contains 41 = false ∧
    raised wActive (after (.gristStoreRewrite 41) wActive) 0x7023 (puCel (gristCellar 41)) 41 := by
  have h := gristSha_lt wGrist gristStaged
  refine ⟨by decide +kernel, by decide +kernel, by decide +kernel, ?_, ?_, by decide +kernel, by decide +kernel, by decide +kernel, by decide +kernel⟩
  · generalize wGrist.gristSha gristStaged = n at h ⊢
    exact (BitVec.toNat_ofNat n 384).trans (Nat.mod_eq_of_lt h)
  · generalize wGrist.gristSha gristStaged = n at h ⊢
    rw [BitVec.toNat_ofNat]
    omega

/-! Chapter 09: limits, hangs, resets, supplies and clocks. -/
/-- Cluster 839 holds a command in progress on core 7 that has a limit; a hang report of it; a replay set that waits. -/
def wLimit : State := (r0.updRplOf 839 (fun x => { x with descs := [{ wDesc with limit := 1 }] })).updCore (ckey 839 7)
  (fun c => { c with cmd := some 9 })
def wHangs : State := { r0 with hangs := [(839, 7, 9), (0, 0, 1)] }
def wReplay (started : Bool) : ReplaySet := ⟨7, 5, 0, [5], [], [], [], true, 9, some 5, 0, started⟩
def wReplays (started : Bool) : State := rOn.updReplayOf 839 (fun _ => [wReplay started])
theorem witness_CommandTimeouts :
    (wLimit.core (ckey 839 7)).cmd = some 9 ∧ (wLimit.limitOf 839 9).isNone = false ∧ (wLimit.core (ckey 839 7)).expired = false ∧
    wLimit.unitStopped (uTST 839) = false ∧ wLimit.marks.contains (puCore 839 7, 0x8001, 0) = false ∧
    (after (.commandExpire 839 7 false) wLimit).hangs = [(839, 7, 9)] ∧
    after (.commandExpire 839 7 true) wLimit = wLimit.count (uHAL 41) HAL_TMO_LATE_COUNT ∧
    wHangs.hangs.find? (fun h => h.1 == 839) = some (839, 7, 9) ∧ (wHangs.hall (regionOfCluster 839)).procHeld = false ∧
    wHangs.stopped = false ∧ wHangs.widerReset 839 = false ∧ wHangs.ctxOfCmd 839 9 = 0 ∧
    (after (.hangReport 839) wHangs).hangs = [(0, 0, 1)] ∧ ((after (.hangReport 839) wHangs).resets.map (fun x => (x.level, x.at_))) = [(1, ckey 839 7)] ∧
    r0.resets.any (fun x => x.level == 4 || (x.level == 3 && x.at_ == 41)) = false ∧ r0.regionLost 41 = false ∧ r0.regionShut 41 = false ∧
    ((r0.updHall 41 (fun h => { h with procHeld := true })).hall 41).procHeld = true ∧
    (wReplays false).replayOf 839 = [wReplay false] ∧ (wReplay false).cur = some 5 ∧ (wReplay false).started = false ∧
    ((r0.updPort 839 (fun p => { p with killing := [5] })).port 839).killing = [5] ∧
    after (.killDone 839) (r0.updPort 839 (fun p => { p with killing := [5] })) = r0 := by (repeat' apply And.intro) <;> decide +kernel

def wReset (level place step cause : Nat) : State := { r0 with resets := [⟨level, place, step, cause, 0, [], 0⟩] }
/-- The region absorbs toward its neighbour in the west. -/
def wAbsorbs : State := r0.updHall 41 (fun h => { h with absorb := [false, false, false, true] })
theorem witness_ResetSteps :
    (wReset 1 (ckey 839 7) 4 0).resets.any (fun x => x.level == 1 && x.at_ == ckey 839 7 && x.step == 4) = true ∧
    ((after (.drainComplete (.core 839 7) 64 [4095]) (wReset 1 (ckey 839 7) 4 0)).core (ckey 839 7)).rst = true ∧
    (wReset 2 839 2 0).resets.any (fun x => x.level == 2 && x.at_ == 839 && x.step == 2) = true ∧
    ((after (.drainBound (.cluster 839) 64 [4095]) (wReset 2 839 2 0)).port 839).clRst = true ∧
    (after (.drainBound (.cluster 839) 64 [4095]) (wReset 2 839 2 0)).cnt (uTST 839) TST_ABS_BYTES = 64 ∧
    ((after (.drainComplete (.core 839 7) 64 [4095]) (wReset 1 (ckey 839 7) 4 0)).resets.map (·.suspects)) = [[4095]] ∧
    (wReset 3 41 2 0).resets.any (fun x => x.level == 3 && x.at_ == 41 && x.step == 2) = true ∧
    (wReset 4 0 1 0).resets.any (fun x => x.level == 4) = true ∧
    (wReset 2 839 3 0).resets.any (fun x => x.level == 2 && x.at_ == 839 && x.step == 3) = true ∧
    ((after (.clusterResetDone 839) (wReset 2 839 3 0)).port 839).commit = true ∧
    (wReset 3 41 6 4).resets.find? (fun y => y.level == 3 && y.at_ == 41 && y.step == 6) = some ⟨3, 41, 6, 4, 0, [], 0⟩ ∧
    (after (.memoryRetrainDone 41 []) (wReset 3 41 6 4)).resets = [⟨3, 41, 7, 4, 0, [], 0⟩] ∧
    (wReset 3 41 7 4).resets.find? (fun y => y.level == 3 && y.at_ == 41 && y.step == 7) = some ⟨3, 41, 7, 4, 0, [], 0⟩ ∧
    ((after (.memoryRetrainDone 41 [BitVec.ofNat 32 (puDor 83)]) (wReset 3 41 6 4)).resets.map (·.failed)) = [1] ∧
    (wReset 3 41 7 4).regionHeld 41 = false ∧
    regionTo 41 .w = some 35 ∧ r0.partReset 35 = false ∧ r0.regionLost 35 = false ∧ r0.regionShut 35 = false ∧
    (after (.neighbourResetComplete 41 .w 64) wAbsorbs).cnt (uHAL 41) HAL_ABS_BYTES = 64 := by (repeat' apply And.intro) <;> decide +kernel

def wArmed (allow : Nat) : State := { rOn with pad := { rOn.pad with armed := some 0, allow := allow, live := true } }
/-- The active Brewhouse is held in reset. -/
def wNoBrew : State := { rOn with fw := { rOn.fw with outA := true } }
theorem witness_ResetEscalation :
    (wReset 1 (ckey 839 7) 4 0).widerReset 839 = false ∧
    (wReset 1 (ckey 839 7) 4 0).resets.find? (fun y => y.level == 1 && y.at_ == ckey 839 7) = some ⟨1, ckey 839 7, 4, 0, 0, [], 0⟩ ∧
    (∃ e ∈ (after (.coreResetEscalate 839 7) (wReset 1 (ckey 839 7) 4 0)).transit, e.code = 0x8024 ∧ e.p5 = 1 ∧ e.p6 = 2) ∧
    (wReset 2 839 2 0).resets.find? (fun y => y.level == 2 && y.at_ == 839) = some ⟨2, 839, 2, 0, 0, [], 0⟩ ∧
    (wReset 3 41 2 0).resets.find? (fun y => y.level == 3 && y.at_ == 41) = some ⟨3, 41, 2, 0, 0, [], 0⟩ ∧
    (wArmed 1).pad.armed.isSome = true ∧ (wArmed 1).pad.allow ≠ 0 ∧
    (wArmed 1).padOn .a = true ∧ (after .chipResetWatchdog (wArmed 1)).sent = [.powerPulse] ∧ r0.padOn .a = false ∧ r0.padOn .b = false ∧
    (after .chipResetWatchdog { wArmed 1 with pad := { (wArmed 1).pad with live := false } }).sent = [] ∧ r0.bhAlive r0.active = true ∧
    wNoBrew.bhAlive wNoBrew.active = false ∧ after (.powerCycleRequest .fleet) wNoBrew = wNoBrew ∧
    (wArmed 0).pad.armed.isSome = true ∧ (wArmed 0).pad.allow = 0 ∧ (wArmed 0).recording = true ∧
    (after .chipResetWatchdog (wArmed 0)).transit.map (·.code) = [0x8025] ∧
    (r0.wr uBRW BRW_PWRCYC_CFG_LIMIT 0).pcAllowance = 0 ∧ r0.pcAllowance ≠ 0 ∧
    (after (.powerCycleRequest .fleet) (r0.wr uBRW BRW_PWRCYC_CFG_LIMIT 0)).transit.map (·.code) = [0x8025] := by (repeat' apply And.intro) <;> decide +kernel

def wClamped : State := (r0.updHall 41 (fun h => { h with iso := [false, false, false, true] })).updHall 35 (fun h => { h with resetAt := some 10 })
def wLost (oc : Bool) : State := r0.updHall 41 (fun h => { h with lost := true, lostOc := oc })
def wLostTwo : State := (wLost true).updHall 35 (fun h => { h with pg := false })
theorem witness_SuppliesAndClocks :
    (r0.hall 41).pgLoss = false ∧ (r0.hall 41).oc = false ∧ r0.cellServes 41 = true ∧ regionTo 41 .w = some 35 ∧
    (r0.hall 41).iso.getD (dirNo .w) false = false ∧ (after (.clampApply 41 .w) r0).transit.map (fun e => (e.code, e.p5, e.p6, e.p7)) = [(0x8033, 3, 1, 35)] ∧
    (wClamped.hall 41).iso.getD (dirNo .w) false = true ∧ wClamped.regionLost 35 = false ∧ wClamped.partReset 35 = false ∧
    (wClamped.hall 35).pgLoss = false ∧ (wClamped.hall 35).oc = false ∧ wClamped.bhAlive wClamped.active = true ∧
    (wClamped.hall 35).resetAt.any (fun x => decide ((wClamped.hall 41).isoAt.getD (dirNo .w) 0 < x)) = true ∧
    ((after (.clampRelease 41 .w) wClamped).hall 41).iso = [false, false, false, false] ∧
    ((wLost true).hall 41).lost = true ∧ ((wLost true).hall 41).lostOc = true ∧
    ((wLost false).hall 41).lostOc = false ∧ (((wLost false).hall 41).losses.filter (fun x => decide ((wLost false).optime < x + 98304))).length ≤ 1 ∧
    ((after (.lostRegionReturn 41) (wLost false)).resets.map (fun x => (x.level, x.at_, x.cause))) = [(3, 41, 4)] ∧
    ((wLostTwo).hall 41).iso.length = 4 ∧ (wLostTwo.hall 35).pg = false ∧ ((after (.lostRegionReturn 41) wLostTwo).hall 41).iso = [false, false, false, true] ∧
    Tab.find 41 r0.refLost = none ∧ Tab.find 41 (after (.refclkLoss 41 3) r0).refLost = some 0 ∧
    Tab.find 41 (wNoRef 41).refLost = some 0 ∧ Tab.find 41 (after (.refclkRestore 41 3) (wNoRef 41)).refLost = none ∧
    r0.marks.contains (puTst 839, 0x8052, 0) = false ∧ (∃ e ∈ (after (.retiredBlockDiscard 839 4095 64) r0).transit, e.code = 0x8052) ∧
    ((r0.updThmOf 41 (fun x => { x with waiting := true })).thmOf 41).waiting = true ∧
    ((after (.throttleAck 41) (r0.updThmOf 41 (fun x => { x with waiting := true }))).thmOf 41).waiting = false := by (repeat' apply And.intro) <;> decide +kernel

/-! Chapters 10 and 11: cuts, stops, counters, trace, the Attic; seeds, draws, provenance and pairs. -/
def wCut (k : CutKind) : CutRun := ⟨5, k, 0, 0, 0, 0, []⟩
def wCutting (k : CutKind) : State := { rOn with cut := some (wCut k), cutNo := 5 }
def wFirmDown : State := rOn.updProc 66 (fun p => { p with state := 2 })
def wUnlocked : State := { rOn with dbg := { rOn.dbg with until_ := some 1000 } }
def wInStop : State := { rOn with stop := { rOn.stop with phase := 2 } }
def wMaxS (s : State) : State := s.wr uBRW BRW_CUT_CFG_STOP_MAX_S 60
theorem witness_CutsAndStops :
    rOn.stopped = false ∧ rOn.cut = none ∧ rOn.firmDown = false ∧
    (wCutting .count).stopped = false ∧ (wCutting .count).cut.isSome = true ∧ wFirmDown.firmDown = true ∧
    after .cutStart wFirmDown = { wFirmDown with cutDue := true } ∧
    writable rOn uBRW = true ∧ rOn.takingOver = false ∧ writable (wCutting .count) uBRW = true ∧
    (after .cutGo (wCutting .count)).isSet uBRW BRW_CUT_STAT_OVERRUN = true ∧
    rOn.dbg.until_.isNone = true ∧ (after .globalStop rOn).transit.map (fun e => (e.code, e.p5)) = [(0x9022, 1)] ∧
    writable wUnlocked uBRW = true ∧ wUnlocked.dbg.until_.isNone = false ∧ wUnlocked.stopped = false ∧ wUnlocked.cut = none ∧
    writable wInStop uBRW = true ∧ wInStop.stop.phase = 2 ∧ wInStop.cut = none ∧
    rOn.stop.phase ≠ 2 ∧ (after .globalResume rOn).isSet uBRW BRW_CUT_STAT_OVERRUN = true ∧
    (wMaxS wInStop).stop.phase = 2 ∧ (wMaxS wInStop).rd uBRW BRW_CUT_CFG_STOP_MAX_S ≠ 0 ∧ (wMaxS wInStop).cut = none ∧
    ({ wMaxS wInStop with cut := some (wCut .stop) } : State).cut.isSome = true := by (repeat' apply And.intro) <;> decide +kernel

def wCutDone : State := { (r0.updCutUnit (cutKey (.hall 41)) (fun x => { x with taken := 5 })) with cutNo := 5 }
def wSample : Sample := ⟨77, 0, 0, 0, 0, 0, 0, 0, [], 0, 0, [], []⟩
/-- Every field below the Brewhouse's has reported; a field that the tree does not reach. -/
def wAllIn : State := { wCutting .count with cut := some { wCut .count with sums := (rOn.cutKids 38).map (fun g => (g, ⟨0, 0, 0⟩)) } }
def wDetached : State := (wCutting .count).updRouter 83 (fun x => { x with table := some ⟨List.replicate 84 7, [], 0⟩ })
theorem witness_CutMarkers :
    (wCutting .count).cutNo ≠ 0 ∧ ((wCutting .count).cutUnit (cutKey (.hall 41))).taken ≠ (wCutting .count).cutNo ∧
    (wCutting .count).markable (.hall 41) = true ∧ (wCutting .count).markable (.brew .a) = true ∧
    ((after (.cutMarker (.hall 41) wSample) (wCutting .count)).cutUnit (cutKey (.hall 41))).cyc = 77 ∧
    ((wCutting .count).chan (chanNo (.tapReport 839 1023))).closedAt ≠ (wCutting .count).cutNo ∧
    (0 : BitVec 32).toNat = (wCutting .count).chanGot (.tapReport 839 1023) ∧
    (after (.channelMarker (.tapReport 839 1023) 0) (wCutting .count)).chan (chanNo (.tapReport 839 1023)) = ⟨0, 5, false, 0, 0⟩ ∧
    wCutDone.cutNo ≠ 0 ∧ (wCutDone.cutUnit (cutKey (.hall 41))).taken = wCutDone.cutNo ∧ wCutDone.markable (.hall 41) = true ∧
    (((wCutting .count).updCutUnit (uTST 839) (fun x => { x with taken := 5 })).cutUnit (chanEnd (.tapReport 839 1023)).1).taken = 5 ∧
    ((wCutting .count).updCutUnit (uTST 839) (fun x => { x with taken := 5 })).cutNo = 5 ∧
    ((after (.edgeMarkerTimeout (.gate 0)) (wCutting .count)).cutUnit (edgeKey (.gate 0))).fillClk = true ∧
    (wCutting .count).cut = some (wCut .count) ∧ (83 : FieldId).val ≠ Config.host.brewField (wCutting .count).active ∧
    (wCut .count).sums.any (·.1 == 83) = false ∧ ((wCutting .count).cutKids 83).all (fun g => (wCut .count).sums.any (·.1 == g)) = true ∧
    (after (.cutReport 83 ⟨1, 0, 0⟩) (wCutting .count)).cut.map (·.sums) = some [(83, ⟨1, 0, 0⟩)] ∧
    ((wCutting .count).cutKids 38).all (fun g => (wCut .count).sums.any (·.1 == g)) = false ∧ after (.cutReport 38 ⟨1, 0, 0⟩) (wCutting .count) = wCutting .count ∧
    wDetached.cutUp 83 = none ∧ (wAllIn.cut.map (fun x => x.sums.any (·.1 == 38))) = some false ∧
    (wAllIn.cutKids 38).all (fun g => (wAllIn.cut.map (·.sums)).getD [] |>.any (·.1 == g)) = true ∧
    wAllIn.stop.cause = 0 ∧ wAllIn.cutDue = false ∧ Config.host.brewField wAllIn.active = 38 ∧
    Config.host.brewField (wCutting .count).active = (38 : FieldId).val ∧ (wCutting .count).stop.cause = 0 ∧ (wCutting .count).cutDue = false ∧
    (after (.cutReportTimeout 83 3) (wCutting .count)).cut.map (·.sums) = some [(83, ⟨0, 3, 0⟩)] ∧
    wCutDone.cutDoneNo = 5 ∧ (wCutDone.cutUnit (cutKey (.hall 41))).taken = 5 ∧ (wCutDone.cutUnit (cutKey (.hall 41))).shown ≠ 5 ∧
    ((after (.cutDone (.hall 41)) wCutDone).cutUnit (cutKey (.hall 41))).shown = 5 ∧
    wStopped.unitStopped (uTST 839) = true ∧ ((after (.coreStopped 839 1023) wStopped).core (ckey 839 1023)).stopped = true ∧
    (wCutting .stop).cut = some (wCut .stop) ∧ (wCut .stop).kind = .stop ∧ ((wCutting .stop).core (ckey 839 1023)).stopped = false ∧
    (after (.stopCoreTimeout 839 1023) (wCutting .stop)).cut.map (·.flagged) = some 1 := by (repeat' apply And.intro) <;> decide +kernel

def wRec1 : TraceRec := ⟨0x53, 0, 7, 1, 2, 3, 4, 5, 6, 7⟩
def wTrace : State := (rOn.wr uLFT LFT_CFG_SIZE_GIB 2 1).updSeg 839 (fun x => { x with buffer := [wRec1] })
def wBcastBin : State := rOn.flag (uTST 839) TST_ATB_SEL_BCAST true
theorem witness_CountersAndTrace :
    writable rOn (uTST 839) = true ∧ rOn.isSet (uTST 839) TST_ATB_SEL_BCAST = false ∧
    ((after (.attributionBinWrite 839 1) rOn).bin (64 * 839 + 0)).en = true ∧
    writable wBcastBin (uTST 839) = true ∧ wBcastBin.isSet (uTST 839) TST_ATB_SEL_BCAST = true ∧
    (after (.counterConfigWrite 839 0x4003) rOn).bankCfg (128 * 839) = ⟨3, 64⟩ ∧
    wTrace.stageHeld 839 7 = false ∧ (wTrace.seg 839).buffer = [wRec1] ∧ (wTrace.seg 839).stopped = false ∧ wTrace.segCap ≠ 0 ∧
    writable rOn uLFT = true ∧ bit (1 : Word).toNat 0 = true ∧ ((after (.traceRestart 1) wTrace).seg 839).buffer = [wRec1] := by (repeat' apply And.intro) <;> decide +kernel

def wEv : Ev := ⟨0x8002, puHal 41, 1, 2, 3, 4, none, false, true, false⟩
def wAtticRec : AttRec := ⟨0x8002, 0, 0, 1, 0, 0, 0, 0⟩
def wRecording : State := { rOn with transit := [wEv], attic := { rOn.attic with staged := [wAtticRec], nextSeq := 2 } }
/-- No Brewhouse records yet; an event of a Taster. -/
def wEvTst : Ev := { wEv with code := 0x4042, puid := puTst 839 }
def wDeaf : State := { r0 with transit := [wEvTst] }
def wFromTst : State := { rOn with transit := [wEvTst] }
def wAtticFull : State := { wRecording with attic := { wRecording.attic with full := true } }
def wErasing : State := { rOn with attic := { rOn.attic with erasing := some (3, 9), flash := [wAtticRec] } }
def wDraining : State := (rOn.wr uBRW BRW_WAFER_Q_STATE 1).updCtx 4095 (fun x => { x with state := 2 })
theorem witness_AtticAndHistory :
    wDeaf.recording = false ∧ wDeaf.transit = [wEvTst] ∧ wEvTst.told = false ∧ (after .eventRecord wDeaf).transit = [{ wEvTst with told := true }] ∧
    (after .eventRecord wDeaf).sent = [.ask 0x26 (puTst 839) (puHal 41) 0x4042] ∧ after .eventRecord (after .eventRecord wDeaf) = after .eventRecord wDeaf ∧ wFromTst.recording = true ∧ wFromTst.transit = [wEvTst] ∧ puidKind wEvTst.puid ≠ 3 ∧
    Out.ask 0x26 (puTst 839) (puHal 41) 0x4042 ∈ (after .eventRecord wFromTst).sent ∧ rOn.takingOver = false ∧
    wRecording.transit = [wEv] ∧ wRecording.recording = true ∧ wRecording.attic.full = false ∧ wRecording.attic.nextSeq < 0xFFFFFFFF ∧
    wRecording.attic.staged.length < stagingSize ∧ wRecording.firmDown = false ∧ wRecording.bhAlive wRecording.active = true ∧ wRecording.attic.erasing = none ∧
    wNoBrew.firmDown = false ∧ wNoBrew.bhAlive wNoBrew.active = false ∧
    (after .eventRecord wRecording).attic.staged.length = 2 ∧
    wAtticFull.transit = [wEv] ∧ wAtticFull.recording = true ∧ wAtticFull.attic.full = true ∧
    (after .eventRecord wAtticFull).attic.staged = [wAtticRec] ∧ (after .atticProgram wRecording).attic.flash = [wAtticRec] ∧
    wErasing.attic.erasing = some (3, 9) ∧ (after .atticEraseDone wErasing).attic.flash.map (fun r => (r.seq, r.p5, r.p6)) = [(10, 3, 9)] ∧
    wDraining.rd uBRW BRW_WAFER_Q_STATE = 1 ∧ wDraining.ctxs.all (fun e => e.1 == 0 || e.2.state != 1) = true ∧
    (after .waferDrained wDraining).rd uBRW BRW_WAFER_Q_STATE = 2 := by (repeat' apply And.intro) <;> decide +kernel

def wSeedSet (left : List Nat) : SeedSet := ⟨5, 9, left, false, none⟩
def wSetting (left : List Nat) : State := { rOn with prv := { rOn.prv with setting := [wSeedSet left] } }
def wSelCtx (c : Nat) : State := rOn.wr uDRW DRW_SEED_SEL_CTX c
def wDrawing : State := r0.updRplOf 839 (fun x => { x with seeds := [(drawCounter 5 1 2 3 (2 ^ 35 + 4) / 2 ^ 116, 11)] })
theorem witness_Draws :
    writable (wSelCtx 0) uDRW = true ∧ bit (0x80000000 : Word).toNat 31 = true ∧ (wSelCtx 0).seedMay ((wSelCtx 0).rd uDRW DRW_SEED_SEL_CTX) = false ∧
    (wSelCtx 0).marks.contains ((wSelCtx 0).puActive, 0xD031, 0) = false ∧
    (after (.drwSeedSet 0x80000000) (wSelCtx 0)).rd uDRW DRW_SEED_CTRL_STATUS = 2 ∧
    (wSelCtx 4095).seedMay ((wSelCtx 4095).rd uDRW DRW_SEED_SEL_CTX) = true ∧
    (∃ r, r < Config.host.regions ∧ (wSelCtx 4095).regionLost r = false ∧ ((wSelCtx 4095).unit (puHal r)).absent = false ∧
      ((wSelCtx 4095).unit (puHal r)).off = false) ∧
    (wSetting [41, 40]).prv.setting = [wSeedSet [41, 40]] ∧ (41 ∈ (wSeedSet [41, 40]).left) ∧ (∃ q ∈ (wSeedSet [41, 40]).left, q ≠ 41) ∧
    (after (.seedSetAnswer 41) (wSetting [41, 40])).prv.setting = [wSeedSet [40]] ∧
    (wSetting [41]).prv.setting = [wSeedSet [41]] ∧ (wSeedSet [41]).refused = false ∧ (wSetting [41]).prv.served.contains (41, 5) = false ∧
    (after (.seedSetAnswer 41) (wSetting [41])).seedOf 5 = some 9 ∧
    wDrawing.unitStopped (uTST 839) = false ∧ (wDrawing.rplOf 839).drawWait = [] ∧
    (wDrawing.rplOf 839).seeds.find? (fun e => e.1 == drawCounter (5 : Ctx).toNat (1 : BitVec 16).toNat (2 : BitVec 16).toNat (3 : Step).toNat
      (2 ^ 35 + (4 : BitVec 35).toNat) / 2 ^ 116) = some (drawCounter 5 1 2 3 (2 ^ 35 + 4) / 2 ^ 116, 11) ∧
    bit (0x80000001 : Word).toNat 0 = true ∧ bit (0x80000000 : Word).toNat 0 = false ∧ bit (rOn.rd uDRW DRW_CALC_CTR) 35 = false ∧
    (after (.drawCalc 0x80000000) rOn).rd uDRW DRW_CALC_STAT_CODE = 2 ∧
    bit ((rOn.wr uDRW DRW_CALC_CTR (2 ^ 35)).rd uDRW DRW_CALC_CTR) 35 = true := by (repeat' apply And.intro) <;> decide +kernel

def wReports1 : State := r0.updCel 335 (fun x => { x with reports := [[(15, 21, 2, false)], []] })
def wStepRec (c : Nat) : StepRec := ⟨c, 3, 1, 2, 0, 0⟩
def wProvQ (c : Nat) (on : Bool) : State := { rOn.flag uPRV PRV_CTX_CFG_PROV on c with prv := { rOn.prv with queue := [wStepRec c] } }
def wPaired : State := ((rOn.flag uPRV PRV_PAIR_CFG_PAIRED true 1).wr uPRV PRV_PAIR_CFG_CTX 5 1).updPairOf 839 (fun x => { x with cur := some 3, values := [7] })
def wPairStep : PairStep := ⟨3, 0, false, [], none, [], false, 0, 0⟩
def wStep3 : State := rOn.updPairOf 839 (fun x => { x with steps := [wPairStep] })
def wDigRec : List Byte := [1, 0] ++ leBytes 2 839 ++ leBytes 6 3 ++ List.replicate 6 0 ++ leBytes 16 21
def wValRec : List Byte := [2, 0] ++ leBytes 2 839 ++ leBytes 6 3 ++ List.replicate 6 0 ++ leBytes 16 21
theorem witness_ProvenanceAndPair :
    (wReports1.cel 335).reports = [(15, 21, 2, false)] :: [[]] ∧ (after (.weightSetReport 335) wReports1).prv.reports.map (fun r => (r.set, r.stack, r.sum)) = [(15, 335, 21)] ∧
    (wProvQ 4095 false).prv.queue = [wStepRec 4095] ∧ (wProvQ 4095 false).isSet uPRV PRV_CTX_CFG_PROV 4095 = false ∧
    (wProvQ 4095 true).prv.queue = [wStepRec 4095] ∧ (wProvQ 4095 true).isSet uPRV PRV_CTX_CFG_PROV 4095 = true ∧
    (wProvQ 4095 true).isSet uPRV PRV_STAT_BROKEN 4095 = false ∧
    writable rOn uPRV = true ∧ bit (0 : Word).toNat 0 = false ∧ bit (1 : Word).toNat 0 = true ∧
    (wProvQ 0 true).isSet uPRV PRV_CTX_CFG_PROV ((wProvQ 0 true).rd uPRV PRV_SEL_CTX) = true ∧ writable (wProvQ 0 true) uPRV = true ∧
    wPaired.pairCtx = some 5 ∧ (wPaired.pairOf 839).cur = some 3 ∧
    leAt wDigRec 0 1 = 1 ∧ leAt wDigRec 2 2 % 1024 = 839 ∧ wPaired.pairCtx.isNone = false ∧
    wPaired.pairStepOf (leAt wDigRec 2 2 % 1024) (leAt wDigRec 4 6) = none ∧
    ((after (.pairDigestRecord 95 wDigRec) wPaired).pairOf 839).steps.map (·.peer) = [some (21, false)] ∧
    leAt wValRec 0 1 = 2 ∧ leAt wValRec 2 2 % 1024 < 840 ∧ (wStep3.pairStepOf (leAt wValRec 2 2 % 1024) (leAt wValRec 4 6)) = some wPairStep ∧
    ((after (.pairValue 95 [wValRec]) wStep3).pairStepOf 839 3).map (·.peerVals) = some [21] ∧
    wStep3.pairStepOf 839 (3 : Step).toNat = some wPairStep ∧ wPairStep.state = 0 ∧ wPairStep.peer.isNone = true ∧
    wStep3.marks.contains (puTst 839, 0xD011, 0) = false ∧
    ((after (.pairUnmatchedTimeout 839 3) wStep3).pairStepOf 839 3).map (·.state) = some 1 := by (repeat' apply And.intro) <;> decide +kernel

/-! Chapter 12: sensors, ladders, limits and the emergency. -/
def wCal : List (Int × Nat) := [(-640, 300), (400, 200), (2400, 100)]
def wCalS : State := { rOn with fw := { rOn.fw with cal := [(puSensor 82 14, wCal)] } }
def wBand4 : State := rOn.wr (uHAL 41) HAL_THM_STAT_BAND 4
def wCap : State := rOn.updThmOf 41 (fun x => { x with capCause := true })
def wPower : State := { rOn with variant := { rOn.variant with power := some (10, 1, 1, 1, []) } }
theorem witness_SensorsAndThrottle :
    sensorThere (82 : FieldId).val (14 : Fin 16).val = true ∧ (wCalS.sensor (16 * 82 + 14)).broken = 0 ∧
    Tab.find (puSensor 82 14) wCalS.fw.cal = some wCal ∧ interpolate wCal (300 : BitVec 16).toNat = some (-640) ∧
    interpolate wCal (100 : BitVec 16).toNat = some 2400 ∧ interpolate wCal (99 : BitVec 16).toNat = some 2420 ∧
    (wCalS.sensor (16 * 82 + 14)).read = false ∧ ((after (.sensorReading 82 14 100) wCalS).sensor (16 * 82 + 14)).temp = 2400 ∧
    ((after (.sensorReading 82 14 99) wCalS).sensor (16 * 82 + 14)).broken = 1 ∧
    (rOn.sensor (16 * 82 + 14)).broken = 0 ∧ Tab.find (puSensor 82 14) rOn.fw.cal = none ∧
    ((after (.sensorReading 82 14 100) rOn).sensor (16 * 82 + 14)).broken = 5 ∧
    wBand4.rd (uHAL 41) HAL_THM_STAT_BAND = 4 ∧ ((after (.ladderDeepen 41 .band) wBand4).thmOf 41).bandLvl ≠ 0 ∧
    rOn.rd (uHAL 41) HAL_THM_STAT_BAND ≠ 4 ∧ (wCap.thmOf 41).capCause = true ∧ after (.ladderRelease 41 .cap) wCap = wCap ∧
    (rOn.thmOf 41).capCause = false ∧ rOn.variant.power = none ∧
    wPower.variant.power = some (10, 1, 1, 1, []) ∧ wPower.procDown (match wPower.active with | .a => 65 | .b => 73) = false := by (repeat' apply And.intro) <;> decide +kernel

def wRatio : State := rOn.updThmOf 41 (fun x => { x with trips := [5] })
def wShutHall : State := rOn.updHall 41 (fun h => { h with shut := true })
def wShutTrip : State := wShutHall.updThmOf 41 (fun x => { x with trips := [1] })
def wCleared (s : State) : State := (s.clearTrips 41).updThmOf 41 (fun y => { y with clearAt := s.now })
def wLimits : State := ((rOn.wr uTHM THM_LIM_TJ_TJ 110).wr uTHM THM_LIM_CLK_CYC 1000)
def wEmergency : State := { rOn with emerg := ⟨true, 0, 1⟩ }
theorem witness_LimitsAndEmergency :
    ((wLost false).hall 41).lost = true ∧ after (.limitTrip 41 .junction 9) (wLost false) = wLost false ∧ (rOn.hall 41).lost = false ∧
    (wRatio.thmOf 41).trips.contains 5 = true ∧ (wRatio.hall 41).shut = false ∧ (wRatio.hall 41).lost = false ∧
    (wShutHall.hall 41).shut = true ∧ ((wCleared wShutHall).thmOf 41).trips.isEmpty = true ∧ wShutHall.rd (uHAL 41) HAL_THM_STAT_BAND ≤ 3 ∧
    ((wCleared wShutHall).thmOf 41).shuts.length ≤ 1 ∧
    writable wLimits uTHM = true ∧ 105 ≤ (105 : Word).toNat % 256 ∧ (105 : Word).toNat % 256 < wLimits.tj ∧
    (104 : Word).toNat % 256 < 105 ∧ wLimits.tj ≤ (110 : Word).toNat % 256 ∧
    (after (.limitTighten 0x54 110) wLimits).rd uTHM THM_LIM_TJ_TJ = 110 ∧
    (999 : Word).toNat % 65536 < wLimits.rd uTHM THM_LIM_CLK_CYC ∧ wLimits.variant.nominal ≤ (999 : Word).toNat % 65536 ∧
    (after (.limitTighten 0x5C 999) wLimits).rd uTHM THM_LIM_CLK_CYC = 999 ∧ wLimits.rd uTHM THM_LIM_CLK_CYC ≤ (1000 : Word).toNat % 65536 ∧
    wEmergency.emerg.active = true ∧
    (wEmergency.each (wEmergency.thm.map (·.1)) (fun s r => if (s.hall r).shut then s else s.clearTrips r)).emergRegions = ([], [], []) ∧
    (after .emergencyEnd wEmergency).emerg.active = false := by (repeat' apply And.intro) <;> decide +kernel

/-! Chapter 13: bring-up, boot loads, bundles and processors. -/
def wStageAt (n : Nat) : State := { r0 with fw := { r0.fw with stage := n } }
def wBothOut : State := { r0 with fw := { r0.fw with stage := 3, outA := true, outB := true } }
/-- A stage whose only failed parts are of a reserved kind, and a lane of which no loop-back is told. -/
def wStageRes : StageResult := ⟨5, 1, [0xC0000000, BitVec.ofNat 32 (puLane 95 3)], 42, false, []⟩
def wStageBad : List Nat := (wStageRes.failed.filter (fun p => puidOk p.toNat && (puidKind p.toNat != 9 || wStageRes.loops.any (·.lane == p)))).map (·.toNat)
/-- The far loop-back of that lane failed. -/
def wLaneFail : LoopFail := ⟨BitVec.ofNat 32 (puLane 95 3), true, 5, 100⟩
def wImage (bad : List Nat) : State := { wFencedCore with fw := { wFencedCore.fw with image := wBlk 0, badLoads := bad } }
def wStored : State := (wImage [ckey 839 7]).poke ((wImage [ckey 839 7]).imageStore (regionOfCluster 839)) (wBlk 0)
/-- Firmware's scan of the last region's store has one line left, for core 7 of cluster 839; that line read. -/
def wChecking : State := { wFencedCore.updScan (uCEL (storeCellar 41)) (fun x => { x with busy := true, len := 64, origin := 1 }) with
  fw := { wFencedCore.fw with checks := [(41, ckey 839 7 + 1)] } }
def wChecked : State := scanLineDone wChecking (storeEngine 41) (List.replicate 64 0) .clean
theorem witness_BootAndLoads :
    (wStageAt 1).fw.stage ≠ 0 ∧ (wStageAt 1).fw.stage ≤ 11 ∧ (wStageAt 1).isSet uBRW BRW_BOOT_STOPPED = false ∧
    (wStageAt 1).stageWork (wStageAt 1).fw.stage wStageBad wStageRes.loops = (wStageAt 1, 0) ∧ ((wStageAt 1).stopReason 1 42).1 = 0 ∧
    (after (.bringupStage wStageRes) (wStageAt 1)).fw.stage = 2 ∧
    wBothOut.isSet uBRW BRW_BOOT_STOPPED = false ∧ wBothOut.stageWork wBothOut.fw.stage wStageBad wStageRes.loops = (wBothOut, 1) ∧
    (after (.bringupStage wStageRes) wBothOut).isSet uBRW BRW_BOOT_STOPPED = true ∧
    (∃ e ∈ (after (.bringupStage ⟨5, 1, [wLaneFail.lane], 42, false, [wLaneFail]⟩) (wStageAt 8)).transit, e.code = 0xC011 ∧ e.p5 = 2 ∧ e.p6 = 5 ∧ e.p7 = 100) ∧
    (wStageAt 2).fw.stage = 2 ∧ (wStageAt 2).isSet uBRW BRW_BOOT_STOPPED = false ∧ (after .xspiBusTimeout (wStageAt 2)).fw.outA = true ∧
    (wImage []).fw.image ≠ [] ∧ ((wImage []).unit (puCore 839 7)).off = false ∧ ((wImage []).unit (puCore 839 7)).absent = false ∧
    ((wImage []).logicalOf 839 7).isNone = false ∧ (wImage []).fw.badLoads.contains (ckey 839 7) = false ∧
    (after (.bootLoadDone 839 7 true) (wImage [])).fw.badLoads = [ckey 839 7] ∧
    wStored.fw.image ≠ [] ∧ (wStored.unit (puCore 839 7)).off = false ∧ (wStored.unit (puCore 839 7)).absent = false ∧
    (wStored.logicalOf 839 7).isNone = false ∧ wStored.fw.badLoads.contains (ckey 839 7) = true ∧
    (wStored.scan (uCEL (storeCellar 41))).busy = false ∧
    (after (.bootLoadDone 839 7 true) wStored).fw.checks = [(41, ckey 839 7 + 1)] ∧
    (after (.bootLoadDone 839 7 true) wStored).rd (uCEL (storeCellar 41)) CKU_SCAN_STAT_ORIGIN = 1 ∧
    (wChecking.scan (uCEL (storeCellar 41))).busy = true ∧ (wChecking.scan (uCEL (storeCellar 41))).origin = 1 ∧
    (wChecked.scan (uCEL (storeCellar 41))).busy = false ∧ wChecked.rd (uCEL (storeCellar 41)) CKU_SCAN_STAT_CODE = 0 ∧
    wChecking.fw.checks.find? (·.1 == 41) = some (41, ckey 839 7 + 1) := by (repeat' apply And.intro) <;> decide +kernel

def wActRun : ActRun := ⟨1, 0, [], [], [], none, some 0, false⟩
def wHeldAct : State := { rOn with fw := { rOn.fw with act := some wActRun } }
def wEmergAct : State := { wHeldAct with emerg := ⟨true, 0, 0⟩ }
def wLoading : State := rOn.updProc 74 (fun p => { p with state := 1, next := 1, cause := 1 })
def wSwitching : State := rOn.updProc 74 (fun p => { p with state := 2, next := 1, cause := 1 })
def wTrial : State := { rOn with fw := { rOn.fw with trial := true } }
theorem witness_FirmwareRuns :
    (rOn.wr uBRW BRW_FW_STAT_STATE 2).rd uBRW BRW_FW_STAT_STATE = 2 ∧
    wEmergAct.fw.act = some wActRun ∧ wActRun.heldAt = some 0 ∧ wEmergAct.holdBits ≠ 0 ∧ after .activationResume wEmergAct = wEmergAct ∧
    wHeldAct.fw.act = some wActRun ∧ wHeldAct.holdBits = 0 ∧
    (wLoading.proc (74 : Byte).toNat).state = 1 ∧
    (BitVec.ofNat 384 (wLoading.slotComp 1 (procKind 74))).toNat = wLoading.slotComp (wLoading.proc (74 : Byte).toNat).next (procKind (74 : Byte).toNat) ∧
    (BitVec.ofNat 384 (wLoading.slotComp 1 (procKind 74) + 1)).toNat ≠ wLoading.slotComp (wLoading.proc (74 : Byte).toNat).next (procKind (74 : Byte).toNat) ∧
    (wSwitching.proc (74 : Byte).toNat).state = 2 ∧ wSwitching.marks.contains (procPuid (74 : Byte).toNat, 0xA005, 0) = false ∧
    allProcs.contains (74 : Byte).toNat = true ∧ (rOn.proc (74 : Byte).toNat).state ≠ 3 ∧
    rOn.dbg.halted.any (fun h => h.1 == (74 : Byte).toNat) = false ∧ rOn.procThere (74 : Byte).toNat = true ∧
    ((rOn.proc (74 : Byte).toNat).wdog.filter (fun x => decide (rOn.now < x + 600000000000)) ++ [rOn.now]).length < 3 ∧
    ((after (.processorWatchdog 74) rOn).proc 74).cause = 2 ∧
    wTrial.fw.trial = true ∧ (after .trialClear wTrial).fw.trial = false := by
  have h := slotComp_lt wLoading 1 (procKind 74)
  have e : wLoading.slotComp (wLoading.proc (74 : Byte).toNat).next (procKind (74 : Byte).toNat) = wLoading.slotComp 1 (procKind 74) :=
    congrArg (fun n => wLoading.slotComp n (procKind 74)) (by decide +kernel : (wLoading.proc 74).next = 1)
  have h1 : (BitVec.ofNat 384 (wLoading.slotComp 1 (procKind 74))).toNat = wLoading.slotComp (wLoading.proc (74 : Byte).toNat).next (procKind (74 : Byte).toNat) := by
    rw [e]
    generalize wLoading.slotComp 1 (procKind 74) = n at h ⊢
    exact (BitVec.toNat_ofNat n 384).trans (Nat.mod_eq_of_lt h)
  have h2 : (BitVec.ofNat 384 (wLoading.slotComp 1 (procKind 74) + 1)).toNat ≠ wLoading.slotComp (wLoading.proc (74 : Byte).toNat).next (procKind (74 : Byte).toNat) := by
    rw [e]
    generalize wLoading.slotComp 1 (procKind 74) = n at h ⊢
    rw [BitVec.toNat_ofNat]
    omega
  refine ⟨?_, ?_, ?_, ?_, ?_, ?_, ?_, ?_, h1, h2, ?_, ?_, ?_, ?_, ?_, ?_, ?_, ?_, ?_, ?_⟩ <;> decide +kernel

/-! Chapter 14: messages, two-key changes, the ring, management, the debug port and the window. -/
def wMsg (type ctx : Nat) (p : List Byte) : Msg := ⟨63, 1, 0, type, 7, p.length, 0, ctx, 0, p⟩
/-- The host is present with a ring of 16 records, and the message has been taken. -/
def wHost : State := (rOn.flag (uMBX 0) MBX_STAT_ABSENT false).wr (uMBX 0) MBX_RING_CFG_ENTRIES 16
def wGot1 (s : State) (m : Msg) : State := { s with mbx := { s.mbx with inbox := [m] } }
def wOpenCtx : State := wHost.updCtx 4095 (fun x => { x with state := 1 })
def wTainted : State := wHost.updCtx 4095 (fun x => { x with state := 1, taint := some 5 })
def wInput : State := { wOpenCtx with prv := { wOpenCtx.prv with input := [(4095, 2, 12, 4)] } }
def wSlots : State := { rOn with mbx := { rOn.mbx with slots := [(64 * 63 + 1, 7)] } }
def wSeed (c : Nat) : Msg := wMsg 0x0103 c (leBytes 16 11)
def wOpenMsg : Msg := wMsg 0x0101 4095 []
def wCloseMsg : Msg := wMsg 0x0102 4095 []
def wResume : Msg := wMsg 0x0104 4095 (leBytes 6 4)
def wDeclare : Msg := wMsg 0x0105 4095 (List.replicate 44 0)
def wData (off : Nat) : Msg := wMsg 0x0106 4095 (leBytes 4 off ++ leBytes 12 0)
def wMark : Msg := wMsg 0x0107 4095 (leBytes 8 1)
theorem witness_MessagesOfContexts :
    wSlots.recording = true ∧ wSlots.firmDown = false ∧ Tab.get (fun _ => 0) wSlots.mbx.slots (64 * (63 : Fin 64).val + 1) ≠ 0 ∧ (63 : Fin 64) ∉ ([62] : List (Fin 64)) ∧
    (after (.mailboxScan [62]) wSlots).slotAck 63 = 7 ∧
    first (wGot1 wHost (wMsg 1 0 [])) 0x0001 (wMsg 1 0 []) ∧
    first (wGot1 wHost wOpenMsg) 0x0101 wOpenMsg ∧ wOpenMsg.ctx ≠ 0 ∧ ((wGot1 wHost wOpenMsg).ctx wOpenMsg.ctx).state = 0 ∧
    (wGot1 wHost wOpenMsg).handedOff = true ∧ (wGot1 wHost wOpenMsg).rd uBRW BRW_WAFER_Q_STATE = 0 ∧
    (wGot1 wHost wOpenMsg).isSet uBRW BRW_WAFER_Q_REPLACE = false ∧ hears (wGot1 wHost wOpenMsg) wOpenMsg ∧
    ((after .ctxOpen (wGot1 wHost wOpenMsg)).ctx 4095).state = 1 ∧
    first (wGot1 wOpenCtx wOpenMsg) 0x0101 wOpenMsg ∧ ((wGot1 wOpenCtx wOpenMsg).ctx wOpenMsg.ctx).state ≠ 0 ∧
    told (after .ctxOpen (wGot1 wOpenCtx wOpenMsg)) wOpenMsg 5 ∧
    first (wGot1 wOpenCtx wCloseMsg) 0x0102 wCloseMsg ∧ (wGot1 wOpenCtx wCloseMsg).inUse wCloseMsg.ctx = true ∧
    first (wGot1 wHost wCloseMsg) 0x0102 wCloseMsg ∧ (wGot1 wHost wCloseMsg).inUse wCloseMsg.ctx = false ∧
    told (after .ctxTeardown (wGot1 wHost wCloseMsg)) wCloseMsg 5 ∧
    first (wGot1 wHost (wSeed 0)) 0x0103 (wSeed 0) ∧ (wGot1 wHost (wSeed 0)).seedMay (wSeed 0).ctx = false ∧
    first (wGot1 wHost (wSeed 4095)) 0x0103 (wSeed 4095) ∧ (wGot1 wHost (wSeed 4095)).seedMay (wSeed 4095).ctx = true ∧
    first (wGot1 wTainted wResume) 0x0104 wResume ∧ ((wGot1 wTainted wResume).ctx wResume.ctx).taint = some 5 ∧
    (wGot1 wTainted wResume).inUse wResume.ctx = true ∧ leAt wResume.payload 0 6 < 5 ∧
    first (wGot1 wOpenCtx wResume) 0x0104 wResume ∧ ((wGot1 wOpenCtx wResume).ctx wResume.ctx).taint = none ∧
    first (wGot1 wOpenCtx wDeclare) 0x0105 wDeclare ∧ (wGot1 wOpenCtx wDeclare).inUse wDeclare.ctx = true ∧
    first (wGot1 wInput (wData 4)) 0x0106 (wData 4) ∧ (wGot1 wInput (wData 4)).prv.input.find? (fun e => e.1 == (wData 4).ctx) = some (4095, 2, 12, 4) ∧
    (wGot1 wInput (wData 4)).inUse (wData 4).ctx = true ∧ leAt (wData 4).payload 0 4 = 4 ∧ 4 + ((wData 4).payload.drop 8).length ≤ 12 ∧
    (after .inputData (wGot1 wInput (wData 4))).prv.input = [(4095, 2, 12, 12)] ∧
    first (wGot1 wInput (wData 0)) 0x0106 (wData 0) ∧ leAt (wData 0).payload 0 4 ≠ 4 ∧
    first (wGot1 wOpenCtx wMark) 0x0107 wMark ∧ (wGot1 wOpenCtx wMark).inUse wMark.ctx = true := by (repeat' apply And.intro) <;> decide +kernel

def wReplayMode : State := wHost.wr uPRV PRV_REC_CFG_MODE 2
def wRunMsg : Msg := wMsg 0x0108 0 (leBytes 2 4095 ++ leBytes 2 5)
def wRecEnt : RecEnt := ⟨8, 0, 0, 0, 0, 0, 0, []⟩
def wReplaying (pos : Nat) : State := { wHost with prv := { wHost.prv with log := [wRecEnt, wRecEnt], replay := some ⟨[], pos, 1, 0, [], false⟩ } }
def wAsked1 (m : Msg) : State := wGot1 ((wHost.updCtx 5 (fun x => { x with state := 1 })).updReplayOf 839 (fun _ => [wReplay true])) m
def wOnSet (type : Nat) : Msg := wMsg type 5 (leBytes 2 839 ++ leBytes 6 0)
def wResetMsg (scope n : Nat) : Msg := wMsg 0x0120 0 (leBytes 2 scope ++ leBytes 2 n)
def wPostureMsg (w : Nat) : Msg := wMsg 0x0200 0 (leBytes 2 w ++ List.replicate 42 3)
theorem witness_MessagesOfReplays :
    first (wGot1 wReplayMode wRunMsg) 0x0108 wRunMsg ∧ (wGot1 wReplayMode wRunMsg).isSet uPRV PRV_REC_STAT_FULL = false ∧
    (wGot1 wReplayMode wRunMsg).rd uPRV PRV_REC_CFG_MODE = 2 ∧ (wGot1 wReplayMode wRunMsg).prv.replay = none ∧ (wGot1 wReplayMode wRunMsg).handedOff = true ∧
    (wReplaying 2).prv.replay = some ⟨[], 2, 1, 0, [], false⟩ ∧ (wReplaying 2).prv.log.length ≤ 2 ∧
    (after .replayDeliver (wReplaying 2)).prv.replay = none ∧
    (wReplaying 0).prv.replay = some ⟨[], 0, 1, 0, [], false⟩ ∧ 0 + 1 < (wReplaying 0).prv.log.length ∧
    (after .replayDeliver (wReplaying 0)).prv.replay = some ⟨[], 1, 2, 0, [], false⟩ ∧
    leAt (wOnSet 0x0111).payload 0 2 = 839 ∧ (wAsked1 (wOnSet 0x0111)).inUse (wOnSet 0x0111).ctx = true ∧ (wAsked1 (wOnSet 0x0111)).isSuspect 839 (wOnSet 0x0111).ctx = true ∧
    first (wAsked1 (wOnSet 0x0111)) 0x0111 (wOnSet 0x0111) ∧
    (wAsked1 (wOnSet 0x0112)).inUse (wOnSet 0x0112).ctx = true ∧ (wAsked1 (wOnSet 0x0112)).isSuspect 839 (wOnSet 0x0112).ctx = true ∧
    first (wAsked1 (wOnSet 0x0112)) 0x0112 (wOnSet 0x0112) ∧
    ((wAsked1 (wOnSet 0x0112)).replayOf 839).any (fun x => decide (x.step ≤ leAt (wOnSet 0x0112).payload 2 6)) = true ∧
    (wAsked1 (wOnSet 0x0113)).inUse (wOnSet 0x0113).ctx = true ∧ (wAsked1 (wOnSet 0x0113)).isSuspect 839 (wOnSet 0x0113).ctx = true ∧
    first (wAsked1 (wOnSet 0x0113)) 0x0113 (wOnSet 0x0113) ∧
    leAt (wResetMsg 2 839).payload 2 2 = 839 ∧ first (wGot1 wHost (wResetMsg 2 839)) 0x0120 (wResetMsg 2 839) ∧ leAt (wResetMsg 2 839).payload 0 1 = 2 ∧
    (wGot1 wHost (wResetMsg 2 839)).handedOff = true ∧ (wGot1 wHost (wResetMsg 2 839)).regionLost (regionOfCluster 839) = false ∧
    (wGot1 wHost (wResetMsg 2 839)).regionShut (regionOfCluster 839) = false ∧ ((wGot1 wHost (wResetMsg 2 839)).unit (puTst 839)).absent = false ∧
    (wGot1 wHost (wResetMsg 2 839)).widerReset 839 = false ∧
    first (wGot1 wHost (wResetMsg 4 0)) 0x0120 (wResetMsg 4 0) ∧ leAt (wResetMsg 4 0).payload 0 1 = 4 ∧
    (wGot1 wHost (wResetMsg 4 0)).resets.any (fun x => x.level == 4) = false ∧ (wGot1 wHost (wResetMsg 4 0)).bhAlive (wGot1 wHost (wResetMsg 4 0)).active = true ∧
    first (wGot1 wHost (wPostureMsg 2)) 0x0200 (wPostureMsg 2) ∧ leAt (wPostureMsg 2).payload 0 1 < 4 ∧
    leAt (wPostureMsg 2).payload 0 1 ≤ (wGot1 wHost (wPostureMsg 2)).rd uBRW BRW_POSTURE_FLOOR ∧
    (∀ r, r < Config.host.regions → leAt (wPostureMsg 2).payload (2 + r) 1 = 3 ∨
      leAt (wPostureMsg 2).payload (2 + r) 1 ≤ (wGot1 wHost (wPostureMsg 2)).rd uBRW BRW_POSTURE_FLOOR) ∧
    first (wGot1 (wHost.wr uBRW BRW_POSTURE_FLOOR 1) (wPostureMsg 2)) 0x0200 (wPostureMsg 2) ∧ leAt (wPostureMsg 2).payload 0 1 ≠ 255 ∧
    (wGot1 (wHost.wr uBRW BRW_POSTURE_FLOOR 1) (wPostureMsg 2)).rd uBRW BRW_POSTURE_FLOOR < leAt (wPostureMsg 2).payload 0 1 ∧
    told (after .postureSet (wGot1 (wHost.wr uBRW BRW_POSTURE_FLOOR 1) (wPostureMsg 2))) (wPostureMsg 2) 7 := by (repeat' apply And.intro) <;> decide +kernel

def wProp : Msg := wMsg 0x0300 0 (leBytes 4 5)
def wEndorseMsg : Msg := wMsg 0x0301 0 (leBytes 8 5 ++ leBytes 8 77 ++ List.replicate 96 0)
def wProposal : Proposal := ⟨5, [], 77, 1, 0, false, false, false, []⟩
def wEndorsement : Endorsement := ⟨5, 77, 1, [], wEndorseMsg, 0⟩
def wStaged (es : List Endorsement) : State := { wHost with twk := ⟨[wProposal], es, []⟩ }
def wLockMsg : Msg := wMsg 0x0302 0 []
def wChunk (target off : Nat) : Msg := wMsg 0x0400 0 (leBytes 4 target ++ leBytes 4 off ++ leBytes 4 0x44332211)
def wActMsg : Msg := wMsg 0x0401 0 []
def wValid : State := wHost.wr uBRW BRW_FW_STAT_STATE 3
def wRestart (i : Nat) : Msg := wMsg 0x0402 0 (leBytes 1 i)
theorem witness_TwoKeyAndDownloads :
    first (wGot1 wHost wProp) 0x0300 wProp ∧ leAt wProp.payload 0 1 ≠ 7 ∧
    first (wGot1 wHost wEndorseMsg) 0x0301 wEndorseMsg ∧
    (after .twkEndorse (wGot1 wHost wEndorseMsg)).twk.verifying.map (fun e => (e.cls, e.nonce, e.role)) = [(5, 77, 1)] ∧
    (wStaged [wEndorsement]).twk.verifying = [wEndorsement] ∧ (wStaged [wEndorsement]).endorseReason wEndorsement = 3 ∧
    (wStaged [wEndorsement]).marks.contains ((wStaged [wEndorsement]).puActive, 0xA023, 0) = false ∧
    (wStaged [wEndorsement]).proposal wEndorsement.cls = some wProposal ∧ wProposal.due = false ∧ wProposal.host = false ∧ wProposal.fleet = false ∧
    (∃ e ∈ (after .endorsementVerify (wStaged [wEndorsement])).transit, e.code = 0xA023 ∧ e.p5 = 5 ∧ e.p6 = 77 ∧ e.p7 = 3) ∧
    wHost.proposal (8 : Fin 9).val = none ∧ (wStaged []).proposal (5 : Fin 9).val = some wProposal ∧ (wStaged []).twk.verifying = [] ∧
    (after (.proposalExpire 5) (wStaged [])).transit.map (fun e => (e.code, e.p5, e.p6, e.p7)) = [(0xA022, 5, 77, 0)] ∧
    wUnlocked.dbg.until_.isNone = false ∧ (after .debugUnlockExpire wUnlocked).dbg.until_ = none ∧
    (wGot1 wUnlocked wLockMsg).dbg.until_.isNone = false ∧ first (wGot1 wUnlocked wLockMsg) 0x0302 wLockMsg ∧ wHost.dbg.until_.isNone = true ∧
    first (wGot1 wHost (wChunk 4 0)) 0x0400 (wChunk 4 0) ∧ leAt (wChunk 4 0).payload 0 1 = 4 ∧ (wGot1 wHost (wChunk 4 0)).dlBlocked 4 = 0 ∧
    leAt (wChunk 4 0).payload 4 4 = 0 ∧ ((wChunk 4 0).payload.drop 8).length ≤ ((wGot1 wHost (wChunk 4 0)).dlPlace 4).2 ∧
    (after .dlChunk (wGot1 wHost (wChunk 4 0))).dlGot 4 = 4 ∧
    first (wGot1 wHost (wChunk 5 9)) 0x0400 (wChunk 5 9) ∧ (wGot1 wHost (wChunk 5 9)).dlBlocked 5 = 0 ∧
    leAt (wChunk 5 9).payload 4 4 ≠ 0 ∧ leAt (wChunk 5 9).payload 4 4 ≠ (wGot1 wHost (wChunk 5 9)).dlGot 5 ∧
    told (after .dlChunk (wGot1 wHost (wChunk 5 9))) (wChunk 5 9) 4 ∧
    first (wGot1 wValid wActMsg) 0x0401 wActMsg ∧ (wGot1 wValid wActMsg).rd uBRW BRW_FW_STAT_STATE = 3 ∧ (wGot1 wValid wActMsg).fw.act = none ∧
    (wGot1 wValid wActMsg).handedOff = true ∧
    first (wGot1 wHost wActMsg) 0x0401 wActMsg ∧ (wGot1 wHost wActMsg).rd uBRW BRW_FW_STAT_STATE ≠ 3 ∧ told (after .fwActivate (wGot1 wHost wActMsg)) wActMsg 5 ∧
    leAt (wRestart 74).payload 0 1 = 74 ∧ first (wGot1 wHost (wRestart 74)) 0x0402 (wRestart 74) ∧ (wGot1 wHost (wRestart 74)).procThere 74 = true ∧
    (wGot1 wHost (wRestart 74)).handedOff = true ∧ (wGot1 wHost (wRestart 74)).fw.act = none ∧ ((wGot1 wHost (wRestart 74)).proc 74).state = 0 ∧
    ((wGot1 wHost (wRestart 74)).proc 74).cause = 0 := by (repeat' apply And.intro) <;> decide +kernel

def wCpl : Cpl := ⟨1, 0, 7, 63, 0, 0, false, false, List.replicate 40 0⟩
def wOut : State := { wHost with mbx := { wHost.mbx with out := [wCpl] } }
def wHeldOff : State := { wHost with mbx := { wHost.mbx with msiDue := [false, false, false, false, false, false, false, true] } }
theorem witness_HostAndRing :
    writable rOn (uMBX 0) = true ∧ (1 : Word).toNat ≠ rOn.rd (uMBX 0) MBX_HB_COUNT ∧ (0 : Word).toNat = rOn.rd (uMBX 0) MBX_HB_COUNT ∧
    (after (.hostHeartbeat 1) rOn).rd (uMBX 0) MBX_HB_COUNT = 1 ∧
    wHost.absent = false ∧ rOn.absent = true ∧ after .hostAbsent rOn = rOn ∧
    wOut.absent = false ∧ wOut.ringRoom = true ∧ wOut.mbx.out = [wCpl] ∧ wOut.mbx.lost = 0 ∧ (after .completionWrite wOut).mbx.out = [] ∧
    rOn.ringRoom = false ∧ wHeldOff.absent = false ∧ wHeldOff.mbx.msiDue.getD (7 : Fin 8).val false = true ∧
    (after (.msiHoldoffEnd 7) wHeldOff).sent = [.msi 7] ∧ wHost.mbx.msiDue.getD (7 : Fin 8).val false = false := by (repeat' apply And.intro) <;> decide +kernel

def wFleet : State := { rOn with mgt := { rOn.mgt with fleet := true } }
/-- DEBUG_LOCK from the fleet: VER 1.0, TYPE 0x0302, SEQ 7, LEN 0. -/
def wFleetMsg : List Byte := [1, 0] ++ leBytes 2 0x0302 ++ leBytes 4 7 ++ leBytes 8 0
def wRpt : Rpt := ⟨3, 0, [], []⟩
def wQueuedRpt : State := { rOn with mgt := { rOn.mgt with queue := [wRpt], addr := some 0x30 } }
theorem ourMap_bit (s : State) : bit s.ourMap 0 = true := by
  have h : s.ourMap = Config.imageVal 0x1F8 s.fw.ver % 1024 ||| 1 := rfl
  rw [bit, h, Nat.testBit_or]
  simp
theorem fleet_accepted : State.msgStatus { rOn with mgt := { rOn.mgt with fleet := true } } (msgOf 0xFE wFleetMsg) = 0 := by
  have f : fromFleet (msgOf 0xFE wFleetMsg) = true := by decide +kernel
  have a : ¬ ((msgOf 0xFE wFleetMsg).type ≠ 1 ∧ (msgOf 0xFE wFleetMsg).major ≠ rOn.mbx.major) := by decide +kernel
  have b : typeOk (msgOf 0xFE wFleetMsg) = true := by decide +kernel
  have c : formatOk (msgOf 0xFE wFleetMsg) = true := by decide +kernel
  have d : ¬ (((msgOf 0xFE wFleetMsg).type = 0x0300 ∨ (msgOf 0xFE wFleetMsg).type = 0x0301) ∧
    (leAt (msgOf 0xFE wFleetMsg).payload 0 1 = 0 ∨ 8 < leAt (msgOf 0xFE wFleetMsg).payload 0 1)) := by decide +kernel
  unfold State.msgStatus
  rw [if_neg a, f, b, c, if_neg d, ourMap_bit]
  simp
theorem witness_ManagementReports :
    rOn.recording = true ∧ rOn.firmDown = false ∧ 2 ≤ ([0x80, 2] : List Byte).length ∧ bit (leAt [0x80, 2] 0 1) 7 = true ∧ leAt [0x80, 2] 1 1 = 2 ∧
    (after (.mctpMessage 0 [0x80, 2]) rOn).mgt = rOn.mgt ∧ (after (.mctpMessage 5 []) rOn).mgt.discarded = 1 ∧
    wFleet.recording = true ∧ wFleet.mgt.fleet = true ∧ rOn.mgt.fleet = false ∧
    State.msgStatus { rOn with mgt := { rOn.mgt with fleet := true } } (msgOf 0xFE wFleetMsg) = 0 ∧
    wQueuedRpt.mgt.queue = [wRpt] ∧ wQueuedRpt.mgt.addr.isNone = false ∧ wQueuedRpt.firmDown = false ∧
    (after .reportCollect wQueuedRpt).mgt.rnum = 1 ∧ rOn.mgt.queue.length < reportSize ∧
    (after (.entdaa 0x30) rOn).mgt.addr = some 0x30 ∧ rOn.padOn rOn.active = false ∧ (wArmed 1).padOn (wArmed 1).active = true ∧
    (after (.mctpMessage 0 [0x80, 2]) rOn).sent = [] ∧ (after (.mctpMessage 0 [0x80, 2]) (wArmed 1)).sent.length = 1 := by
  refine ⟨?_, ?_, ?_, ?_, ?_, ?_, ?_, ?_, ?_, ?_, fleet_accepted, ?_, ?_, ?_, ?_, ?_, ?_, ?_, ?_, ?_, ?_⟩ <;> decide +kernel

def wMol (target : BitVec 16) (addr data : Word) : Moldom := ⟨9, target, addr, data⟩
def wBusy : State := { wUnlocked with dbg := { wUnlocked.dbg with busy := true } }
def wHalted : State := { wUnlocked with dbg := { wUnlocked.dbg with halted := [(74, 2)] } }
def wPiped : State := { wUnlocked with dbg := { wUnlocked.dbg with pipes := [(839, 7)] } }
def wStopUnlocked : State := { wUnlocked with stop := { wUnlocked.stop with phase := 2 } }
def wBroken : State := { wUnlocked with dbg := { wUnlocked.dbg with breaks := [(74, 3, 0x100)], watches := [(74, 1, 2, 0x200)] } }
def wScanMol : Moldom := wMol (BitVec.ofNat 16 (puTst 839 / 2 ^ 16)) (BitVec.ofNat 32 (puTst 839 % 2 ^ 16)) 0
theorem witness_DebugPort :
    wBusy.dbg.busy = true ∧ rOn.dbg.busy = false ∧ rOn.dbg.until_.isNone = true ∧
    responds (after (.windowRead (wMol 0 0 0)) rOn) 0x10 (wMol 0 0 0) 2 0 ∧
    rOn.identWord (wMol 0 3 0).addr.toNat = some 0 ∧ responds (after (.ident (wMol 0 3 0)) rOn) 0x01 (wMol 0 3 0) 0 0 ∧
    unlocked wUnlocked ∧ windowAddr (wMol 0 0xFFFFFC 0).addr.toNat = true ∧
    wUnlocked.memPlace (wMol 0x29 0xFFFFFC 0).target.toNat (wMol 0x29 0xFFFFFC 0).addr.toNat = .inl (sramKey 0x29 0xFFFFFC) ∧
    wUnlocked.memPlace (wMol 0x214F 0 0).target.toNat (wMol 0x214F 0 0).addr.toNat = .inl (stackKey 335 0 0) ∧
    responds (after (.memoryWrite (wMol 0x29 0xFFFFFC 7)) wUnlocked) 0x13 (wMol 0x29 0xFFFFFC 7) 0 7 ∧
    wUnlocked.memPlace (wMol 0x29 2 0).target.toNat (wMol 0x29 2 0).addr.toNat = .inr 5 ∧
    wUnlocked.memPlace (wMol 0x2A 0 0).target.toNat (wMol 0x2A 0 0).addr.toNat = .inr 4 ∧
    (wMol 74 0 0).target.toNat = 74 ∧ procIndex 74 = true ∧ wUnlocked.procThere 74 = true ∧ wUnlocked.isHalted 74 = false ∧
    responds (after (.processorStep (wMol 74 0 0)) wUnlocked) 0x22 (wMol 74 0 0) 6 0 ∧
    unlocked wHalted ∧ wHalted.procThere 74 = true ∧ wHalted.isHalted 74 = true ∧ wHalted.dbg.halted.find? (fun h => h.1 == 74) = some (74, 2) ∧
    responds (after (.processorStatus (wMol 74 0 0)) wHalted) 0x25 (wMol 74 0 0) 0 5 ∧
    bit (wMol 74 0x100 0x80000003).data.toNat 31 = true ∧
    (after (.setBreakpoint (wMol 74 0x100 0x80000003)) wUnlocked).dbg.breaks = [(74, 3, 0x100)] ∧
    wUnlocked.stopped = false ∧ wUnlocked.cut = none ∧ unlocked wStopUnlocked ∧ wStopUnlocked.stop.phase = 2 ∧ wStopUnlocked.cut = none ∧
    839 < Config.host.clusters ∧ wUnlocked.regionLost (regionOfCluster 839) = false ∧ (wUnlocked.unit (puTst 839)).absent = false ∧
    ((7 : Nat) = 0 → wUnlocked.stop.phase = 2) ∧ wUnlocked.dbg.pipes.contains (839, 7) = false ∧
    (after (.pipelineHalt (wMol 839 7 0)) wUnlocked).dbg.pipes = [(839, 7)] ∧
    ((0 : Nat) = 0 → wStopUnlocked.stop.phase = 2) ∧ wStopUnlocked.dbg.pipes.contains (839, 0) = false ∧
    unlocked wPiped ∧ wPiped.dbg.pipes.contains (839, 7) = true ∧ (after (.pipelineRelease (wMol 839 7 0)) wPiped).dbg.pipes = [] ∧
    wScanMol.target.toNat * 2 ^ 16 + wScanMol.addr.toNat % 2 ^ 16 = puTst 839 ∧ puidOk (puTst 839) = true ∧ scannable (puTst 839) = true ∧
    wUnlocked.regionLost (regionOfPuid (puTst 839)) = false ∧
    wBroken.dbg.until_.isNone = false ∧ wBroken.isHalted (74 : Byte).toNat = false ∧ wBroken.procThere (74 : Byte).toNat = true ∧
    wBroken.dbg.breaks.any (fun b => b.1 == (74 : Byte).toNat && b.2.2 == (0x100 : Word).toNat) = true ∧
    wBroken.dbg.watches.any (fun w => w.1 == (74 : Byte).toNat && w.2.2.1 != 0 && w.2.2.2 == (0x200 : Word).toNat) = true ∧
    (after (.processorBreakHit 74 false 0x100) wBroken).dbg.halted = [(74, 3)] := by (repeat' apply And.intro) <;> decide +kernel

def wPage (p off : Nat) : BitVec 24 := BitVec.ofNat 24 (4096 * p + off)
/-- The standby takes over: a host's access is held behind one held before it. -/
def wTaking : State := { rOn with pair := { rOn.pair with b := { rOn.pair.b with poll := some [] }, waiting := [.read 4] } }
theorem witness_WindowRegisters :
    wTaking.takingOver = true ∧ rOn.takingOver = false ∧
    (after (.registerWrite (wPage 0x747 0x14) 1) wTaking).pair.waiting = [.read 4, .write (wPage 0x747 0x14).toNat 1] ∧
    (after (.pageUnreached (wPage 0x747 0x40) true) wTaking).pair.waiting = [.read 4, .unreached (wPage 0x747 0x40).toNat true] ∧
    (after (.windowPartialWrite (wPage 0x747 0x40) 3) wTaking).pair.waiting = [.read 4, .part (wPage 0x747 0x40).toNat 3] ∧
    (after (.tapWindowSelect 63 7) wTaking).pair.waiting = [.read 4, .write (regAt (uWIN 63) 0xF00) 7] ∧
    pageClass ((wPage 0x30 0x40).toNat / 4096) = 0 ∧ after (.registerWrite (wPage 0x30 0x40) 1) rOn = rOn.count uBRW BRW_WIN_WR_COUNT ∧
    pageClass ((wPage 0x747 0x40).toNat / 4096) = 0x13 ∧ [0, 1, 5, 6].contains (r0.pageState 0x747) = true ∧
    after (.registerWrite (wPage 0x747 0x40) 1) r0 = (r0.count uBRW BRW_WIN_WR_COUNT).count uBRW BRW_WIN_STAT_STATEW ∧
    writable rOn 0x747 = true ∧ rOn.pageUnit 0x747 = some (uTST 839) ∧ (wPage 0x747 0x14).toNat % 4096 / 4 * 4 = 0x14 ∧
    (after (.registerWrite (wPage 0x747 0x14) 0xFFFF) rOn).rd (uTST 839) PG_EVT_EN_CLASS = 0x7FFF ∧
    (wPage 0x747 0x18).toNat % 4096 / 4 * 4 = 0x18 ∧ (rOn.wr (uTST 839) PG_EVT_CLASS 5).rd (uTST 839) PG_EVT_CLASS < 2 ^ 15 ∧
    writable (rOn.wr (uTST 839) PG_EVT_CLASS 5) 0x747 = true ∧
    (after (.registerWrite (wPage 0x747 0x18) 4) (rOn.wr (uTST 839) PG_EVT_CLASS 5)).rd (uTST 839) PG_EVT_CLASS = 1 ∧
    (wPage 0x747 0x3C).toNat % 4096 / 4 * 4 = 0x3C ∧
    writable rOn 0 = true ∧ rOn.pageUnit 0 = some uBRW ∧ twoKeyWord (pageClass 0) (pageInst 0) 0x80 = true ∧
    ((rOn.count uBRW BRW_WIN_WR_COUNT).opWrite (pageClass 0) (pageInst 0) uBRW 0x80 1).isNone = true ∧ rOn.marks.contains (rOn.puActive, 0xA010, 0) = false ∧
    event rOn 0xA010 rOn.puActive 0 0x80 1 ∈ (after (.rw2kDirectWrite (wPage 0 0x80) 1) rOn).transit ∧
    writable rOn (uHAL 41) = true ∧ 10 ≤ (1000 : Word).toNat % 65536 ∧ (1000 : Word).toNat % 65536 ≤ 1000 ∧
    (after (.registerWrite (BitVec.ofNat 24 (regAt (uHAL 41) 0x88)) 1000) rOn).rd (uHAL 41) HAL_STALL_CFG_MS = 1000 ∧
    (after (.registerWrite (BitVec.ofNat 24 (regAt (uHAL 41) 0x88)) 1001) rOn).rd (uHAL 41) HAL_STALL_CFG_MS = 50 ∧
    writable rOn (0x747 : BitVec 12).toNat = true ∧ (after (.ownerClaim 0x747 9) rOn).rd 0x747 PG_CTRL_OWNER = 9 ∧
    pageClass (0x83F : BitVec 12).toNat = 0x14 ∧
    pageClass ((wPage 0 0x40).toNat / 4096) < 0x10 ∧ 0x10 ≤ pageClass ((wPage 0x747 0x40).toNat / 4096) ∧ rOn.pageState 0x747 ≠ 6 ∧
    0x40 ≤ (wPage 0x747 0x40).toNat % 4096 / 4 * 4 ∧ (after (.pageUnreached (wPage 0x747 0x40) false) rOn).sent = [.word 0] ∧
    [0, 1, 6].contains (rOn.pageState 0x747) = false ∧ (pairHi 0x13 (pageInst 0x747) 0x290).isSome = true ∧ 0x40 ≤ 0x290 ∧
    (3 : BitVec 4) ≠ 15 ∧ raised rOn (after (.windowPartialWrite (wPage 0x747 0x40) 3) rOn) 0xC021 rOn.puActive (wPage 0x747 0x40).toNat 3 := by (repeat' apply And.intro) <;> decide +kernel

/-! The machine as a whole: idling, frames, invariants and reset. -/
/-- The command answers a next state; the machine steps to this state. -/
def completes (c : Instr) (s : State) : Bool := match exec c s with | .next _ => true | _ => false
def steps (s t : State) : Bool := match step s with | .next u => decide (u = t) | _ => false
theorem witness_IdleTick : r0.pending = [] ∧ steps r0 { r0 with wall := 10 } = true := by (repeat' apply And.intro) <;> decide +kernel
theorem witness_EveryCommandFrame : completes (.entdaa 0x7E) r0 = true ∧ after (.entdaa 0x7E) r0 ≠ r0 := by (repeat' apply And.intro) <;> decide +kernel
theorem witness_RegisterFrames :
    completes (.ownerClaim 0x747 9) rOn = true ∧ writable rOn (0x747 : BitVec 12).toNat = true ∧
    completes (.tapWindowSelect 63 0x20000001) rOn = true ∧
    completes (.ringHeadWrite 5) rOn = true ∧ completes (.hostHeartbeat 5) rOn = true ∧
    completes (.drawCalc 0x80000000) rOn = true ∧
    completes (.attributionBinWrite 839 1) rOn = true ∧
    completes (.windowPartialWrite 0 15) rOn = true ∧ completes .optimeAdvance rOn = true ∧
    completes .xspiBusTimeout rOn = true ∧ completes (.steepDue (.door 95)) rOn = true ∧
    completes (.throttleAck 41) rOn = true ∧ completes (.clampApply 41 .w) rOn = true := by (repeat' apply And.intro) <;> decide +kernel

theorem witness_MemoryFrames :
    completes (.cellarWriteBlock 335 15 0xFF0 (wBlk 0)) r0 = true ∧ r0.chanFenced 335 15 = false ∧
    wFence.chanFenced 335 15 = true ∧
    byteAt (after (.cellarWriteBlock 335 15 0xFF0 (wBlk 0)) r0) (stackKey 335 15 0xFF0) = (wBlk 0).getD 0 0 ∧ 0 < (wBlk 0).length ∧
    completes (.memoryWrite (wMol 0x29 0xFFFFFC 7)) wUnlocked = true ∧ unlocked wUnlocked ∧
    wUnlocked.memPlace (wMol 0x29 0xFFFFFC 7).target.toNat (wMol 0x29 0xFFFFFC 7).addr.toNat = .inl (sramKey 0x29 0xFFFFFC) ∧
    byteAt (after (.memoryWrite (wMol 0x29 0xFFFFFC 7)) wUnlocked) (sramKey 0x29 0xFFFFFC) = 7 ∧
    wUnlocked.memPlace (wMol 0x2A 0 0).target.toNat (wMol 0x2A 0 0).addr.toNat = .inr 4 ∧
    completes (.memoryWrite (wMol 0x2A 0 0)) wUnlocked = true ∧
    completes (.traceWrite 839 true) wTrace = true ∧ (wTrace.seg 839).buffer = [wRec1] ∧
    completes .dlChunk (wGot1 wHost (wChunk 4 0)) = true ∧ first (wGot1 wHost (wChunk 4 0)) 0x0400 (wChunk 4 0) ∧
    leAt (wChunk 4 0).payload 0 1 ≠ 3 ∧ leAt (wChunk 4 0).payload 4 4 = 0 ∧
    byteAt (after .dlChunk (wGot1 wHost (wChunk 4 0))) ((wGot1 wHost (wChunk 4 0)).dlPlace 4).1 = 0x11 ∧
    completes (.marchDone 335 15 0 false) wMarching = true ∧ wMarching.marchSkips 335 15 = [(0x11F000000, 0x1000000)] ∧
    bit (wMarching.rd (uCEL 335) CEL_STP_STAT_BUSY) (15 : ChanId).val = true := by (repeat' apply And.intro) <;> decide +kernel

def wStored1 : State := { r0 with mem := [(5, 1#8), (9, 2#8)], pending := [.entdaa 9], attic := { r0.attic with nextSeq := 7 } }
theorem witness_EveryStepKeepsMemoryCanonical : Memory.wf wStored1.mem = true ∧ steps wStored1 (after (.entdaa 9) { wStored1 with pending := [] }) = true := by (repeat' apply And.intro) <;> decide +kernel
theorem witness_AtticSequenceNeverFalls : 7 ≤ wStored1.attic.nextSeq ∧ steps wStored1 (after (.entdaa 9) { wStored1 with pending := [] }) = true := by (repeat' apply And.intro) <;> decide +kernel
theorem witness_QueueAndSent : steps wStored1 (after (.entdaa 9) { wStored1 with pending := [] }) = true ∧ wStored1.pending.tail = [] := by (repeat' apply And.intro) <;> decide +kernel
theorem witness_EventsKeepTheirOrder :
    completes (.clampApply 41 .w) wRecording = true ∧ wRecording.transit <+: (after (.clampApply 41 .w) wRecording).transit ∧
    (after (.clampApply 41 .w) wRecording).transit.length = 2 ∧ Instr.clampApply 41 .w ≠ .heartbeatSilence ∧ Instr.clampApply 41 .w ≠ .eventRecord ∧
    Instr.clampApply 41 .w ≠ .powerOn ∧ Instr.clampApply 41 .w ≠ .resetReq ∧ Instr.clampApply 41 .w ≠ .mirrorAck := by (repeat' apply And.intro) <;> decide +kernel
theorem witness_GlobalStopNeedsUnlock :
    writable rOn uBRW = true ∧ rOn.dbg.busy = false ∧ rOn.dbg.until_ = none ∧ event rOn 0x9022 rOn.puActive 2 ∈ (after (.moldomStop (wMol 0 0 0)) rOn).transit ∧
    writable wUnlocked uBRW = true ∧ wUnlocked.dbg.busy = false ∧ wUnlocked.dbg.until_ ≠ none ∧ wUnlocked.stopped = false ∧ wUnlocked.cut = none := by (repeat' apply And.intro) <;> decide +kernel
theorem witness_OneProposalPerClass :
    first (wGot1 (wStaged []) wProp) 0x0300 wProp ∧ leAt wProp.payload 0 1 = 5 ∧ ((wGot1 (wStaged []) wProp).twk.proposals.map (·.cls)).Nodup ∧
    (wGot1 (wStaged []) wProp).proposal 5 = some wProposal := by (repeat' apply And.intro) <;> decide +kernel
def wAbsentTst : State := rOn.updUnit (puTst 839) (fun u => { u with absent := true })
theorem witness_ReservedPages :
    pageClass ((wPage 0xFFF 0xFFC).toNat / 4096) = 0 ∧ rOn.takingOver = false ∧ rOn.winWord (wPage 0xFFF 0xFFC).toNat = 0 ∧
    0x10 ≤ pageClass 0x747 ∧ wAbsentTst.pageUnit 0x747 = some (uTST 839) ∧ (wAbsentTst.unit (classPuid (pageClass 0x747) (uTST 839))).absent = true ∧
    wAbsentTst.pageState 0x747 = 0 ∧ wAbsentTst.winWord (4096 * 0x747) = 0x13 * 2 ^ 24 + 839 * 2 ^ 12 + 1 := by (repeat' apply And.intro) <;> decide +kernel

end Sys2Proof.Tests
end

section
/-! What every command keeps: its own parts of the state, the queue, memory's form, and what was sent. The kept_ lemma of each command
is put under one name, so that a statement about every command is one use of it. -/
namespace Sys2Proof.Machine
open Sys2Proof Host Sys2Proof.Claims

/-- The commands that may take events off their way to the recorder, or mark them as copied. -/
def takesEvents : Instr → Bool
  | .drainComplete .. | .drainBound .. | .eventRecord | .powerCycleRequest _ | .powerOn | .resetReq | .mirrorAck | .heartbeatSilence
  | .hallPollAnswer .. => true
  | _ => false

/-- What a command may change, as a mask: its parts, and bit 86 where it may take events off their way. -/
def changes (c : Instr) : Nat := (takesEvents c).toNat * 2 ^ 86 ||| maskOf (touches c)

/-- The bits of the mask that stand for parts are those of the command's parts alone. -/
theorem changes_testBit {c : Instr} {p : Part} (h : (touches c).contains p = false) : (changes c).testBit p.bit = false := by
  have hp : p.bit ≠ 86 := Nat.ne_of_lt p.bit_lt
  have htake : ((takesEvents c).toNat * 2 ^ 86).testBit p.bit = false := by
    cases takesEvents c
    · exact (congrArg (fun n : Nat => n.testBit p.bit) (Nat.zero_mul _)).trans (Nat.zero_testBit _)
    · exact (congrArg (fun n : Nat => n.testBit p.bit) (Nat.one_mul _)).trans (Nat.testBit_two_pow_of_ne hp.symm)
  rw [changes, Nat.testBit_or, htake, maskOf_testBit h]
  rfl

/-- A command that takes no event off its way keeps the events on their way in their order. -/
theorem changes_events {c : Instr} (h : takesEvents c = false) : (changes c).testBit 86 = false := by
  have hparts : ∀ ps : List Part, (maskOf ps).testBit 86 = false := fun ps => by
    induction ps with
    | nil => rfl
    | cons p ps ih => rw [maskOf, Nat.testBit_or, ih, Nat.testBit_two_pow_of_ne (Nat.ne_of_lt p.bit_lt)]; rfl
  rw [changes, h, Nat.testBit_or, hparts]
  rfl

/-- Every command keeps what its mask does not name. -/
theorem exec_kept (c : Instr) (s : State) : KeptO (changes c) s (exec c s) := by
  refine match c with
    | .stairPacketReceive .. => kept_execStairPacketReceive (.refl _ s) ?_
    | .hopCheckResult .. => kept_execHopCheckResult (.refl _ s) ?_
    | .hopAckTimeout .. => kept_execHopAckTimeout (.refl _ s) ?_
    | .detourTablesWrite .. => kept_execDetourTablesWrite (.refl _ s) ?_
    | .detourTableArrive .. => kept_execDetourTableArrive (.refl _ s) ?_
    | .matchedDelayLengthen .. => kept_execMatchedDelayLengthen (.refl _ s) ?_
    | .matchedDelayShorten .. => kept_execMatchedDelayShorten (.refl _ s) ?_
    | .timeBeatEmit => kept_execTimeBeatEmit (.refl _ s) ?_
    | .hopDelayEcho .. => kept_execHopDelayEcho (.refl _ s) ?_
    | .beatReceive .. => kept_execBeatReceive (.refl _ s) ?_
    | .beatLossTimeout .. => kept_execBeatLossTimeout (.refl _ s) ?_
    | .mirrorAck => kept_execMirrorAck (.refl _ s) ?_
    | .mirrorRequest .. => kept_execMirrorRequest (.refl _ s) ?_
    | .heartbeatSend .. => kept_execHeartbeatSend (.refl _ s) ?_
    | .heartbeatReceive .. => kept_execHeartbeatReceive (.refl _ s) ?_
    | .heartbeatSilence => kept_execHeartbeatSilence (.refl _ s) ?_
    | .hallPollAnswer .. => kept_execHallPollAnswer (.refl _ s) ?_
    | .hallPollTimeout => kept_execHallPollTimeout (.refl _ s) ?_
    | .reignStepDown .. => kept_execReignStepDown (.refl _ s) ?_
    | .standbySilence => kept_execStandbySilence (.refl _ s) ?_
    | .brewhouseContactLoss .. => kept_execBrewhouseContactLoss (.refl _ s) ?_
    | .failsafeRefresh => kept_execFailsafeRefresh (.refl _ s) ?_
    | .failsafeLapse => kept_execFailsafeLapse (.refl _ s) ?_
    | .productIssue .. => kept_execProductIssue (.refl _ s) ?_
    | .residueUnitDrained .. => kept_execResidueUnitDrained (.refl _ s) ?_
    | .accumulationClose .. => kept_execAccumulationClose (.refl _ s) ?_
    | .discardPresentation .. => kept_execDiscardPresentation (.refl _ s) ?_
    | .atomicDiscardPresentation .. => kept_execAtomicDiscardPresentation (.refl _ s) ?_
    | .commandStart .. => kept_execCommandStart (.refl _ s) ?_
    | .commandEnd .. => kept_execCommandEnd (.refl _ s) ?_
    | .issueLimitExpire .. => kept_execIssueLimitExpire (.refl _ s) ?_
    | .descriptorArrive .. => kept_execDescriptorArrive (.refl _ s) ?_
    | .seedLoadDone .. => kept_execSeedLoadDone (.refl _ s) ?_
    | .residueAlarm .. => kept_execResidueAlarm (.refl _ s) ?_
    | .residueSummary .. => kept_execResidueSummary (.refl _ s) ?_
    | .usageReport .. => kept_execUsageReport (.refl _ s) ?_
    | .replicaReadLine .. => kept_execReplicaReadLine (.refl _ s) ?_
    | .replicaReadStale .. => kept_execReplicaReadStale (.refl _ s) ?_
    | .replicaCompare .. => kept_execReplicaCompare (.refl _ s) ?_
    | .descriptorLoad .. => kept_execDescriptorLoad (.refl _ s) ?_
    | .descriptorInvalidate .. => kept_execDescriptorInvalidate (.refl _ s) ?_
    | .descriptorBroadcastAnswer .. => kept_execDescriptorBroadcastAnswer (.refl _ s) ?_
    | .privPartialSelection .. => kept_execPrivPartialSelection (.refl _ s) ?_
    | .privOutcome .. => kept_execPrivOutcome (.refl _ s) ?_
    | .gateBlockArrive .. => kept_execGateBlockArrive (.refl _ s) ?_
    | .gateVerdict .. => kept_execGateVerdict (.refl _ s) ?_
    | .gateBackstop .. => kept_execGateBackstop (.refl _ s) ?_
    | .doorTransmitBlock .. => kept_execDoorTransmitBlock (.refl _ s) ?_
    | .doorReceiveBlock .. => kept_execDoorReceiveBlock (.refl _ s) ?_
    | .linkTrained .. => kept_execLinkTrained (.refl _ s) ?_
    | .laneDrop .. => kept_execLaneDrop (.refl _ s) ?_
    | .laneReturn .. => kept_execLaneReturn (.refl _ s) ?_
    | .cellarReadBlock .. => kept_execCellarReadBlock (.refl _ s) ?_
    | .cellarWriteBlock .. => kept_execCellarWriteBlock (.refl _ s) ?_
    | .rescanDone .. => kept_execRescanDone (.refl _ s) ?_
    | .scrubGranule .. => kept_execScrubGranule (.refl _ s) ?_
    | .sliceWrite .. => kept_execSliceWrite (.refl _ s) ?_
    | .sliceVerify .. => kept_execSliceVerify (.refl _ s) ?_
    | .sliceDrop .. => kept_execSliceDrop (.refl _ s) ?_
    | .sliceRedigest .. => kept_execSliceRedigest (.refl _ s) ?_
    | .sliceDigestDone .. => kept_execSliceDigestDone (.refl _ s) ?_
    | .digestTickSend => kept_execDigestTickSend (.refl _ s) ?_
    | .digestTick .. => kept_execDigestTick (.refl _ s) ?_
    | .digestRecord .. => kept_execDigestRecord (.refl _ s) ?_
    | .thirdCopyRequest .. => kept_execThirdCopyRequest (.refl _ s) ?_
    | .thirdCopyAnswer .. => kept_execThirdCopyAnswer (.refl _ s) ?_
    | .thirdCopyTimeout .. => kept_execThirdCopyTimeout (.refl _ s) ?_
    | .repairStart .. => kept_execRepairStart (.refl _ s) ?_
    | .reloadRequest .. => kept_execReloadRequest (.refl _ s) ?_
    | .reloadAnnouncement .. => kept_execReloadAnnouncement (.refl _ s) ?_
    | .reloadBlock .. => kept_execReloadBlock (.refl _ s) ?_
    | .reloadRefusal .. => kept_execReloadRefusal (.refl _ s) ?_
    | .reloadTimeout .. => kept_execReloadTimeout (.refl _ s) ?_
    | .repairReadback .. => kept_execRepairReadback (.refl _ s) ?_
    | .refreshMultLower .. => kept_execRefreshMultLower (.refl _ s) ?_
    | .saveAreaRestore .. => kept_execSaveAreaRestore (.refl _ s) ?_
    | .channelClear .. => kept_execChannelClear (.refl _ s) ?_
    | .poisonMapRead .. => kept_execPoisonMapRead (.refl _ s) ?_
    | .scanGo .. => kept_execScanGo (.refl _ s) ?_
    | .scanAbort .. => kept_execScanAbort (.refl _ s) ?_
    | .scanLineDone .. => kept_execScanLineDone (.refl _ s) ?_
    | .scanProfileWrite .. => kept_execScanProfileWrite (.refl _ s) ?_
    | .streamResync .. => kept_execStreamResync (.refl _ s) ?_
    | .windowApply .. => kept_execWindowApply (.refl _ s) ?_
    | .mapCommitDone .. => kept_execMapCommitDone (.refl _ s) ?_
    | .mapMiss .. => kept_execMapMiss (.refl _ s) ?_
    | .repeatStart .. => kept_execRepeatStart (.refl _ s) ?_
    | .repeatDone .. => kept_execRepeatDone (.refl _ s) ?_
    | .repeatWithdraw .. => kept_execRepeatWithdraw (.refl _ s) ?_
    | .referenceT1Done .. => kept_execReferenceT1Done (.refl _ s) ?_
    | .neighbourRequest .. => kept_execNeighbourRequest (.refl _ s) ?_
    | .neighbourAnswer .. => kept_execNeighbourAnswer (.refl _ s) ?_
    | .neighbourTimeout .. => kept_execNeighbourTimeout (.refl _ s) ?_
    | .hallVerdict .. => kept_execHallVerdict (.refl _ s) ?_
    | .fenceBoundary .. => kept_execFenceBoundary (.refl _ s) ?_
    | .migrationDone _ _ err => kept_execMigrationDone (z2 := err) (.refl _ s) ?_
    | .eventRecord => kept_execEventRecord (.refl _ s) ?_
    | .waferDrained => kept_execWaferDrained (.refl _ s) ?_
    | .historyProgram => kept_execHistoryProgram (.refl _ s) ?_
    | .atticProgram => kept_execAtticProgram (.refl _ s) ?_
    | .poisonReport .. => kept_execPoisonReport (.refl _ s) ?_
    | .historySelect .. => kept_execHistorySelect (.refl _ s) ?_
    | .historyWindowRead => kept_execHistoryWindowRead (.refl _ s) ?_
    | .coreRotationStart => kept_execCoreRotationStart (.refl _ s) ?_
    | .steepDue .. => kept_execSteepDue (.refl _ s) ?_
    | .steepStart .. => kept_execSteepStart (.refl _ s) ?_
    | .steepWithdraw .. => kept_execSteepWithdraw (.refl _ s) ?_
    | .secretClearDone .. => kept_execSecretClearDone (.refl _ s) ?_
    | .sliceCompare .. => kept_execSliceCompare (.refl _ s) ?_
    | .sliceAbort .. => kept_execSliceAbort (.refl _ s) ?_
    | .coreOverdue .. => kept_execCoreOverdue (.refl _ s) ?_
    | .forcedSteepBoundary .. => kept_execForcedSteepBoundary (.refl _ s) ?_
    | .phyLoopback .. => kept_execPhyLoopback (.refl _ s) ?_
    | .channelMarch .. => kept_execChannelMarch (.refl _ s) ?_
    | .marchDone .. => kept_execMarchDone (.refl _ s) ?_
    | .laneLoopbackEnd .. => kept_execLaneLoopbackEnd (.refl _ s) ?_
    | .analogueCheck .. => kept_execAnalogueCheck (.refl _ s) ?_
    | .analogueRecheck .. => kept_execAnalogueRecheck (.refl _ s) ?_
    | .gristVerify => kept_execGristVerify (.refl _ s) ?_
    | .gristStoreCopy .. => kept_execGristStoreCopy (.refl _ s) ?_
    | .gristStoreRewrite .. => kept_execGristStoreRewrite (.refl _ s) ?_
    | .commandExpire .. => kept_execCommandExpire (.refl _ s) ?_
    | .hangReport .. => kept_execHangReport (.refl _ s) ?_
    | .stallWatchdog .. => kept_execStallWatchdog (.refl _ s) ?_
    | .drainComplete .. => kept_execDrainComplete (.refl _ s) ?_
    | .drainBound .. => kept_execDrainBound (.refl _ s) ?_
    | .killDone .. => kept_execKillDone (.refl _ s) ?_
    | .coreResetEscalate .. => kept_execCoreResetEscalate (.refl _ s) ?_
    | .clusterResetDone .. => kept_execClusterResetDone (.refl _ s) ?_
    | .engineResetEscalate .. => kept_execEngineResetEscalate (.refl _ s) ?_
    | .memoryRetrainDone .. => kept_execMemoryRetrainDone (.refl _ s) ?_
    | .regionReady .. => kept_execRegionReady (.refl _ s) ?_
    | .neighbourResetComplete .. => kept_execNeighbourResetComplete (.refl _ s) ?_
    | .partitionResetEscalate .. => kept_execPartitionResetEscalate (.refl _ s) ?_
    | .chipResetWatchdog => kept_execChipResetWatchdog (.refl _ s) ?_
    | .powerCycleRequest .. => kept_execPowerCycleRequest (.refl _ s) ?_
    | .replayStartTimeout .. => kept_execReplayStartTimeout (.refl _ s) ?_
    | .pgLossRecognised .. => kept_execPgLossRecognised (.refl _ s) ?_
    | .overcurrentRecognised .. => kept_execOvercurrentRecognised (.refl _ s) ?_
    | .clampApply .. => kept_execClampApply (.refl _ s) ?_
    | .clampRelease .. => kept_execClampRelease (.refl _ s) ?_
    | .lostRegionReturn .. => kept_execLostRegionReturn (.refl _ s) ?_
    | .refclkLoss .. => kept_execRefclkLoss (.refl _ s) ?_
    | .refclkRestore .. => kept_execRefclkRestore (.refl _ s) ?_
    | .retiredBlockDiscard .. => kept_execRetiredBlockDiscard (.refl _ s) ?_
    | .throttleAck .. => kept_execThrottleAck (.refl _ s) ?_
    | .throttleAckTimeout .. => kept_execThrottleAckTimeout (.refl _ s) ?_
    | .cutStart => kept_execCutStart (.refl _ s) ?_
    | .cutGo => kept_execCutGo (.refl _ s) ?_
    | .globalStop => kept_execGlobalStop (.refl _ s) ?_
    | .globalResume => kept_execGlobalResume (.refl _ s) ?_
    | .stopMaxTimeout => kept_execStopMaxTimeout (.refl _ s) ?_
    | .cutMarker .. => kept_execCutMarker (.refl _ s) ?_
    | .channelMarker .. => kept_execChannelMarker (.refl _ s) ?_
    | .channelRecordTimeout .. => kept_execChannelRecordTimeout (.refl _ s) ?_
    | .edgeMarkerTimeout .. => kept_execEdgeMarkerTimeout (.refl _ s) ?_
    | .cutReport .. => kept_execCutReport (.refl _ s) ?_
    | .cutReportTimeout .. => kept_execCutReportTimeout (.refl _ s) ?_
    | .cutDone .. => kept_execCutDone (.refl _ s) ?_
    | .coreStopped .. => kept_execCoreStopped (.refl _ s) ?_
    | .stopCoreTimeout .. => kept_execStopCoreTimeout (.refl _ s) ?_
    | .attributionBinWrite .. => kept_execAttributionBinWrite (.refl _ s) ?_
    | .counterConfigWrite .. => kept_execCounterConfigWrite (.refl _ s) ?_
    | .traceWrite .. => kept_execTraceWrite (.refl _ s) ?_
    | .traceRestart .. => kept_execTraceRestart (.refl _ s) ?_
    | .traceMark .. => kept_execTraceMark (.refl _ s) ?_
    | .loftWindowRead => kept_execLoftWindowRead (.refl _ s) ?_
    | .atticEraseDone => kept_execAtticEraseDone (.refl _ s) ?_
    | .atticWindowRead => kept_execAtticWindowRead (.refl _ s) ?_
    | .optimeAdvance => kept_execOptimeAdvance (.refl _ s) ?_
    | .drwSeedSet .. => kept_execDrwSeedSet (.refl _ s) ?_
    | .seedSetAnswer .. => kept_execSeedSetAnswer (.refl _ s) ?_
    | .drawRequest .. => kept_execDrawRequest (.refl _ s) ?_
    | .drawCalc .. => kept_execDrawCalc (.refl _ s) ?_
    | .weightSetReport .. => kept_execWeightSetReport (.refl _ s) ?_
    | .provenanceStep => kept_execProvenanceStep (.refl _ s) ?_
    | .provenanceEnable .. => kept_execProvenanceEnable (.refl _ s) ?_
    | .pairStepTimeout .. => kept_execPairStepTimeout (.refl _ s) ?_
    | .pairDigestRecord n _ => kept_execPairDigestRecord (z0 := n) (.refl _ s) ?_
    | .pairValue n _ => kept_execPairValue (z0 := n) (.refl _ s) ?_
    | .pairUnmatchedTimeout .. => kept_execPairUnmatchedTimeout (.refl _ s) ?_
    | .sensorReading .. => kept_execSensorReading (.refl _ s) ?_
    | .ladderDeepen .. => kept_execLadderDeepen (.refl _ s) ?_
    | .ladderRelease .. => kept_execLadderRelease (.refl _ s) ?_
    | .powerEstimate .. => kept_execPowerEstimate (.refl _ s) ?_
    | .limitTrip .. => kept_execLimitTrip (.refl _ s) ?_
    | .clockRatioPersist .. => kept_execClockRatioPersist (.refl _ s) ?_
    | .shutterReturn .. => kept_execShutterReturn (.refl _ s) ?_
    | .limitTighten .. => kept_execLimitTighten (.refl _ s) ?_
    | .emergencyEnd => kept_execEmergencyEnd (.refl _ s) ?_
    | .powerOn => kept_execPowerOn (.refl _ s) ?_
    | .bringupStage .. => kept_execBringupStage (.refl _ s) ?_
    | .xspiBusTimeout => kept_execXspiBusTimeout (.refl _ s) ?_
    | .bootLoadDone .. => kept_execBootLoadDone (.refl _ s) ?_
    | .bundleVerify .. => kept_execBundleVerify (.refl _ s) ?_
    | .activationResume => kept_execActivationResume (.refl _ s) ?_
    | .processorLoadDone .. => kept_execProcessorLoadDone (.refl _ s) ?_
    | .processorSwitchDone .. => kept_execProcessorSwitchDone (.refl _ s) ?_
    | .processorWatchdog .. => kept_execProcessorWatchdog (.refl _ s) ?_
    | .trialClear => kept_execTrialClear (.refl _ s) ?_
    | .mailboxScan .. => kept_execMailboxScan (.refl _ s) ?_
    | .hello => kept_execHello (.refl _ s) ?_
    | .ctxOpen => kept_execCtxOpen (.refl _ s) ?_
    | .ctxTeardown => kept_execCtxTeardown (.refl _ s) ?_
    | .seedSet => kept_execSeedSet (.refl _ s) ?_
    | .ctxResume => kept_execCtxResume (.refl _ s) ?_
    | .inputDeclare => kept_execInputDeclare (.refl _ s) ?_
    | .inputData => kept_execInputData (.refl _ s) ?_
    | .mark => kept_execMark (.refl _ s) ?_
    | .replayRun => kept_execReplayRun (.refl _ s) ?_
    | .replayDeliver => kept_execReplayDeliver (.refl _ s) ?_
    | .replayStarted => kept_execReplayStarted (.refl _ s) ?_
    | .replayDone => kept_execReplayDone (.refl _ s) ?_
    | .replayDecline => kept_execReplayDecline (.refl _ s) ?_
    | .resetReq => kept_execResetReq (.refl _ s) ?_
    | .postureSet => kept_execPostureSet (.refl _ s) ?_
    | .twkPropose => kept_execTwkPropose (.refl _ s) ?_
    | .twkEndorse => kept_execTwkEndorse (.refl _ s) ?_
    | .endorsementVerify => kept_execEndorsementVerify (.refl _ s) ?_
    | .proposalExpire .. => kept_execProposalExpire (.refl _ s) ?_
    | .debugLock => kept_execDebugLock (.refl _ s) ?_
    | .debugUnlockExpire => kept_execDebugUnlockExpire (.refl _ s) ?_
    | .dlChunk => kept_execDlChunk (.refl _ s) ?_
    | .fwActivate => kept_execFwActivate (.refl _ s) ?_
    | .procRestart => kept_execProcRestart (.refl _ s) ?_
    | .hostHeartbeat .. => kept_execHostHeartbeat (.refl _ s) ?_
    | .hostAbsent => kept_execHostAbsent (.refl _ s) ?_
    | .pcieLinkDown .. => kept_execPcieLinkDown (.refl _ s) ?_
    | .completionWrite => kept_execCompletionWrite (.refl _ s) ?_
    | .ringHeadWrite .. => kept_execRingHeadWrite (.refl _ s) ?_
    | .msiHoldoffEnd .. => kept_execMsiHoldoffEnd (.refl _ s) ?_
    | .entdaa .. => kept_execEntdaa (.refl _ s) ?_
    | .mctpMessage .. => kept_execMctpMessage (.refl _ s) ?_
    | .fleetMessage .. => kept_execFleetMessage (.refl _ s) ?_
    | .reportCollect => kept_execReportCollect (.refl _ s) ?_
    | .reportSummary => kept_execReportSummary (.refl _ s) ?_
    | .statusReport => kept_execStatusReport (.refl _ s) ?_
    | .tapReset => kept_execTapReset (.refl _ s) ?_
    | .nop m => kept_execNop (z0 := m) (.refl _ s)
    | .ident .. => kept_execIdent (.refl _ s) ?_
    | .windowRead .. => kept_execWindowRead (.refl _ s) ?_
    | .windowWrite .. => kept_execWindowWrite (.refl _ s) ?_
    | .memoryRead .. => kept_execMemoryRead (.refl _ s) ?_
    | .memoryWrite .. => kept_execMemoryWrite (.refl _ s) ?_
    | .processorHalt .. => kept_execProcessorHalt (.refl _ s) ?_
    | .processorRun .. => kept_execProcessorRun (.refl _ s) ?_
    | .processorStep .. => kept_execProcessorStep (.refl _ s) ?_
    | .setBreakpoint .. => kept_execSetBreakpoint (.refl _ s) ?_
    | .setWatchpoint .. => kept_execSetWatchpoint (.refl _ s) ?_
    | .processorStatus .. => kept_execProcessorStatus (.refl _ s) ?_
    | .processorBreakHit .. => kept_execProcessorBreakHit (.refl _ s) ?_
    | .moldomStop .. => kept_execMoldomStop (.refl _ s) ?_
    | .moldomResume .. => kept_execMoldomResume (.refl _ s) ?_
    | .pipelineHalt .. => kept_execPipelineHalt (.refl _ s) ?_
    | .pipelineRelease .. => kept_execPipelineRelease (.refl _ s) ?_
    | .scanEnable .. => kept_execScanEnable (.refl _ s) ?_
    | .ownerClaim .. => kept_execOwnerClaim (.refl _ s) ?_
    | .tapWindowSelect .. => kept_execTapWindowSelect (.refl _ s) ?_
    | .pageUnreached .. => kept_execPageUnreached (.refl _ s) ?_
    | .loHiLatchRead .. => kept_execLoHiLatchRead (.refl _ s) ?_
    | .windowPartialWrite .. => kept_execWindowPartialWrite (.refl _ s) ?_
    | .rw2kDirectWrite .. => kept_execRw2kDirectWrite (.refl _ s) ?_
    | .registerWrite .. => kept_execRegisterWrite (.refl _ s) ?_
  all_goals
    simp only [changes, touches, takesEvents]
    decide

/-- Every command completes; a packet's arrival does so on either branch of its check. -/
theorem exec_completes (c : Instr) (s : State) : ∃ t, exec c s = .next t := by
  cases c with
  | stairPacketReceive f h violation head payload crc resid =>
    show ∃ t, execStairPacketReceive f h violation head payload crc resid s = .next t
    unfold execStairPacketReceive
    dsimp only
    split
    · exact ⟨_, rfl⟩
    · exact ⟨_, rfl⟩
  | _ => exact ⟨_, rfl⟩

/-- With a command waiting, a step is the effect of the first on the state with the others waiting. -/
theorem step_cons {s : State} {c : Instr} {cs : List Instr} (h : s.pending = c :: cs) : step s = exec c (s.rest cs) := by
  unfold step; rw [h]

/-- With none waiting, a step is a tick. -/
theorem step_nil {s : State} (h : s.pending = []) : step s = .next s.tick := by
  unfold step; rw [h]

/-- Settles O50: the mask of a command is that of its own parts. -/
theorem everyCommandFrame : Obligations.EveryCommandFrame := by
  unfold Obligations.EveryCommandFrame
  exact fun c s t h p hp => (exec_kept c s t h).parts p (changes_testBit hp)

/-- Settles O55: the command runs on the state with the rest of the queue, and keeps that queue and what was sent. -/
theorem queueAndSent : Obligations.QueueAndSent := by
  unfold Obligations.QueueAndSent
  intro s t h
  cases hq : s.pending with
  | nil =>
    rw [step_nil hq] at h
    cases h
    exact ⟨hq, List.suffix_refl _⟩
  | cons c cs =>
    rw [step_cons hq] at h
    have k := exec_kept c (s.rest cs) t h
    exact ⟨k.queue, k.said⟩

/-- Settles O47, by the definition of a step. -/
theorem stepRunsFrontCommand : Obligations.StepRunsFrontCommand := by
  unfold Obligations.StepRunsFrontCommand
  exact fun c s => step_cons rfl

/-- Settles O48. -/
theorem idleTick : Obligations.IdleTick := by
  unfold Obligations.IdleTick
  exact fun s h => step_nil h

/-- Settles O49. -/
theorem everyCommandCompletes : Obligations.EveryCommandCompletes := by
  unfold Obligations.EveryCommandCompletes
  exact exec_completes

/-- At reset every table is empty, so each register field reads its reset value. -/
theorem reset_rd (u : Nat) (F : Fld) (i : Nat) : State.reset.rd u F i = F.rst := rfl

/-- At reset no counter, epoch or running, has counted. -/
theorem reset_cnt (u : Nat) (F : Fld) (i : Nat) : State.reset.cnt u F i = 0 := by
  unfold State.cnt
  cases F.bank <;> rfl

/-- Settles O57. -/
theorem resetHoldsInvariants : Obligations.ResetHoldsInvariants := by
  unfold Obligations.ResetHoldsInvariants
  exact ⟨rfl, rfl, rfl, rfl, rfl, fun _ => rfl, reset_rd, reset_cnt, fun u => reset_rd u _ 0, fun u => reset_rd u _ 0, fun u => reset_rd u _ 0, rfl⟩

end Sys2Proof.Machine
end

section
/-! Register fields across the named updates, and the frames of the operations that stand in the statements of scope. -/
namespace Sys2Proof.Machine
open Sys2Proof Host Sys2Proof.Claims
variable (s : State)

/-- Two fields lie at different places of a page, so that no unit's one is any unit's other. -/
def Fld.apart (F G : Fld) : Bool :=
  decide (F.off < 4096 ∧ G.off < 4096 ∧ F.lo < 32 ∧ G.lo < 32 ∧ (F.off ≠ G.off ∨ F.lo ≠ G.lo))

/-- Fields that lie apart have different keys, whatever their units. -/
theorem fkey_apart {F G : Fld} (h : Fld.apart F G = true) (u v : Nat) : fkey u F 0 ≠ fkey v G 0 := by
  obtain ⟨hF, hG, hf, hg, hne⟩ := of_decide_eq_true h
  unfold fkey
  omega

/-- A field written leaves a field that lies apart, of its own unit and of any other. -/
theorem rd_wr_apart {F G : Fld} (h : Fld.apart F G = true) (u v x : Nat) : (s.wr v G x).rd u F = s.rd u F :=
  rd_wr_other s x (fkey_apart h u v)

theorem rd_flag_apart {F G : Fld} (h : Fld.apart F G = true) (u v : Nat) (b : Bool) : (s.flag v G b).rd u F = s.rd u F :=
  rd_wr_apart s h u v _

theorem rd_bump_apart {F G : Fld} (h : Fld.apart F G = true) (u v n : Nat) : (s.bump v G n).rd u F = s.rd u F :=
  rd_wr_apart s h u v _

/-- The event bits of a page are written to PG_EVT alone. -/
theorem rd_evt_apart {F : Fld} (h : Fld.apart F PG_EVT_CLASS = true) (u v c : Nat) : (s.evt v c).rd u F = s.rd u F := by
  unfold State.evt
  split
  · exact rd_wr_apart s h u v _
  · rfl

theorem rd_raise_apart {F : Fld} (h : Fld.apart F PG_EVT_CLASS = true) (u c p x y z : Nat) : (s.raise c p x y z).rd u F = s.rd u F :=
  rd_evt_apart s h u _ _

theorem rd_raiseHist_apart {F : Fld} (h : Fld.apart F PG_EVT_CLASS = true) (u : Nat) (e : HistEntry) (c p x y z : Nat) :
    (s.raiseHist e c p x y z).rd u F = s.rd u F := rd_evt_apart s h u _ _

/-- A bit set in a number is set, and the others are as before. -/
theorem bit_orBit (x c i : Nat) : bit (orBit x c) i = (bit x i || decide (c = i)) := by
  unfold bit orBit
  rw [show Nat.lor x (2 ^ c) = x ||| 2 ^ c from rfl, Nat.testBit_or, Nat.testBit_two_pow]

/-- A bit below a field's width survives the cut to that width. -/
theorem bit_mod_two_pow {w i : Nat} (h : i < w) (x : Nat) : bit (x % 2 ^ w) i = bit x i := by
  unfold bit
  rw [Nat.testBit_mod_two_pow, decide_eq_true h, Bool.true_and]

/-- Every part but one, and no event off its way: the mask for what an operation leaves of that part. -/
def allBut (p : Part) : Nat := 2 ^ 86 - 1 - 2 ^ p.bit

/-- Every part, but no event off its way. -/
def allButEvents : Nat := 2 ^ 86 - 1

end Sys2Proof.Machine
end

section
/-! Host accesses to the window outside a takeover and during one, and the tests of memory channels, lanes and analogue parts (R14, R333-R338). -/
namespace Sys2Proof.Machine
open Sys2Proof Host Sys2Proof.Claims
variable (s : State)

/-- Outside a takeover an access of the host is done at once. -/
theorem hostAcc_done {s : State} (h : s.takingOver = false) (x : HostAcc) (f : State → State) : s.hostAcc x f = f s := by
  unfold State.hostAcc; rw [h]; rfl

/-- During a takeover an access of the host waits behind those that wait, and nothing else changes. -/
theorem hostAcc_held {s : State} (h : s.takingOver = true) (x : HostAcc) (f : State → State) :
    s.hostAcc x f = { s with pair := { s.pair with waiting := s.pair.waiting ++ [x] } } := by
  unfold State.hostAcc; rw [h]; rfl

/-- What a write counts is not what a page's state rests on. -/
theorem pageState_counted (p : Nat) : (s.count uBRW BRW_WIN_WR_COUNT).pageState p = s.pageState p := rfl
theorem pageUnit_counted (p : Nat) : (s.count uBRW BRW_WIN_WR_COUNT).pageUnit p = s.pageUnit p := rfl
theorem pageStale_counted (c u : Nat) : (s.count uBRW BRW_WIN_WR_COUNT).pageStale c u = s.pageStale c u := rfl

/-- A write to a page that takes writes is counted and done. -/
theorem written_of_writable {s : State} {p : Nat} (h : writable s p = true) (f : State → State) :
    s.written p f = f (s.count uBRW BRW_WIN_WR_COUNT) := by
  unfold writable at h
  simp only [Bool.and_eq_true, bne_iff_ne, Bool.not_eq_true', List.contains_eq_mem, List.mem_cons, List.not_mem_nil, or_false,
    decide_eq_false_iff_not] at h
  obtain ⟨⟨hclass, hstate⟩, hstale⟩ := h
  unfold State.written
  dsimp only
  rw [pageState_counted, pageUnit_counted, if_neg hclass, if_neg hstate]
  simp only [pageStale_counted]
  exact if_neg (fun e => Bool.false_ne_true (hstale.symm.trans e))

/-- A host's write to a register whose write is an operation, on a page that takes writes. -/
theorem hostOp_of_writable {s : State} {u : Nat} (ht : s.takingOver = false) (hw : writable s u = true) (off d : Nat) (f : State → State) :
    s.hostOp u off d f = f (s.count uBRW BRW_WIN_WR_COUNT) :=
  (hostAcc_done ht _ _).trans (written_of_writable hw f)

/-- The loop-back's slice is over, and a loop-back with errors fails the channel's test. -/
theorem phyLoopback_some {s : State} {c ch : Nat} {x : StpRun} (he : s.eng (uCEL c) = some x) (hp : x.phase = 4) (hs : x.slice = ch + 1)
    (hl : x.looped = false) (errs : Nat) :
    phyLoopback s c ch errs = if errs = 0 then s.updEng (uCEL c) (fun _ => some { x with looped := true })
      else ((s.updEng (uCEL c) (fun _ => some { x with looped := true })).stpFailed (puChan c ch) 7 (ch + 1) 4 errs).suspectChan c ch 5 := by
  unfold phyLoopback
  rw [he]
  dsimp only
  rw [if_neg (by rw [hp, hs, hl]; simp)]

theorem phyLoopback_none {s : State} {c : Nat} (he : s.eng (uCEL c) = none) (ch errs : Nat) : phyLoopback s c ch errs = s := by
  unfold phyLoopback; rw [he]

/-- A channel's SUSPECT bit stays through the counts of its Cellar. -/
theorem showCel_chanSuspect (c ch d : Nat) : (s.showCel d).chanSuspect c ch = s.chanSuspect c ch := by
  unfold State.chanSuspect State.showCel
  simp (disch := decide) only [rd_wr_apart]

/-- A channel that becomes SUSPECT is SUSPECT. -/
theorem suspectChan_chanSuspect (c : Nat) {ch : Nat} (hch : ch < 16) (cause : Nat) : (s.suspectChan c ch cause).chanSuspect c ch = true := by
  unfold State.suspectChan
  split
  · assumption
  · dsimp only
    rw [showCel_chanSuspect]
    have hset : ∀ t : State, bit ((t.wr (uCEL c) CEL_STAT_SUSPECT (orBit (t.rd (uCEL c) CEL_STAT_SUSPECT) ch)).rd (uCEL c) CEL_STAT_SUSPECT) ch = true := by
      intro t
      rw [rd_wr_same, bit_mod_two_pow (show ch < CEL_STAT_SUSPECT.width from hch), bit_orBit, decide_eq_true rfl, Bool.or_true]
    unfold State.chanSuspect
    split <;> split <;> simp (disch := decide) only [rd_raise_apart, rd_raiseHist_apart, rd_flag_apart, rd_wr_apart, hset]

/-- A channel that becomes SUSPECT takes no event off its way. -/
theorem mem_suspectChan_transit {s : State} {e : Ev} (h : e ∈ s.transit) (c ch cause : Nat) : e ∈ (s.suspectChan c ch cause).transit :=
  (kept_suspectChan (A := allButEvents) (.refl _ s) (by decide)).event (by decide) h

/-- An event with a history entry, last on its way. -/
theorem mem_raiseHist_transit (h : HistEntry) (c p x y z : Nat) : ∃ e ∈ (s.raiseHist h c p x y z).transit,
    e.code = c ∧ e.puid = p ∧ e.p5 = x % 2 ^ 32 ∧ e.p6 = y % 2 ^ 32 ∧ e.p7 = z % 2 ^ 32 :=
  ⟨_, List.mem_append_right _ (List.mem_singleton_self _), rfl, rfl, rfl, rfl, rfl⟩

/-- The event of a failed test. -/
theorem mem_stpFailed_transit (p test slice reason w7 : Nat) : ∃ e ∈ (s.stpFailed p test slice reason w7).transit,
    e.code = 0x7001 ∧ e.puid = p ∧ e.p6 = reason % 2 ^ 32 ∧ e.p7 = w7 % 2 ^ 32 := by
  obtain ⟨e, hmem, hcode, hpuid, -, hp6, hp7⟩ := mem_raiseHist_transit s (s.stpEntry p) 0x7001 p (test * 2 ^ 24 + slice) reason w7
  exact ⟨e, hmem, hcode, hpuid, hp6, hp7⟩

/-- One-bit marks set one after the other in a field of a unit: those named are set, and the others are as before. -/
theorem bit_rd_each_orBit (u : Nat) (F : Fld) {i : Nat} (hi : i < F.width) (l : List Nat) :
    bit ((s.each l (fun s ch => s.wr u F (orBit (s.rd u F) ch))).rd u F) i = (bit (s.rd u F) i || decide (i ∈ l)) := by
  unfold State.each
  induction l generalizing s with
  | nil => simp
  | cons c l ih =>
    rw [List.foldl_cons, ih, rd_wr_same, bit_mod_two_pow hi, bit_orBit, Bool.or_assoc]
    simp [eq_comm]

/-- A channel named that is SUSPECT and fenced has its march running. -/
theorem channelMarch_busy {s : State} {c d ch : Nat} (hch : ch < 16) (hd : bit d ch = true) (hs : s.chanSuspect c ch = true)
    (hf : s.chanFenced c ch = true) : bit ((channelMarch s c d).rd (uCEL c) CEL_STP_STAT_BUSY) ch = true := by
  unfold channelMarch
  rw [bit_rd_each_orBit s _ _ (show ch < CEL_STP_STAT_BUSY.width from hch)]
  simp [hch, hd, hs, hf]

/-- A march that ends without an error sets the channel's PASS. -/
theorem marchDone_pass {s : State} {c ch : Nat} (hch : ch < 16) (hb : bit (s.rd (uCEL c) CEL_STP_STAT_BUSY) ch = true) :
    bit ((marchDone s c ch 0 false).rd (uCEL c) CEL_STP_STAT_PASS) ch = true := by
  unfold marchDone
  rw [if_neg (by rw [hb]; decide)]
  dsimp only
  rw [if_pos (by decide), rd_wr_same, bit_mod_two_pow (show ch < CEL_STP_STAT_PASS.width from hch), bit_orBit, decide_eq_true rfl, Bool.or_true]

/-- A march that ends with miscompares fails the channel's test for reason 6. -/
theorem marchDone_fails {s : State} {c ch bad : Nat} (ue : Bool) (hbad : bad ≠ 0) (hb : bit (s.rd (uCEL c) CEL_STP_STAT_BUSY) ch = true) :
    ∃ e ∈ (marchDone s c ch bad ue).transit, e.code = 0x7001 ∧ e.puid = puChan c ch ∧ e.p6 = 6 ∧ e.p7 = bad % 2 ^ 32 := by
  unfold marchDone
  rw [if_neg (by rw [hb]; decide)]
  dsimp only
  rw [if_neg (by simp [hbad]), if_pos hbad]
  exact mem_stpFailed_transit _ _ _ _ _ _

/-- A Door's lanes that leave loop-back stay held down where they were. -/
theorem loopsOut_heldLanes (n k : Nat) : ((s.loopsOut k).door n).heldLanes = (s.door n).heldLanes := by
  unfold State.loopsOut
  by_cases h : n = k
  · subst h; rw [door_updDoor_same]
  · rw [door_updDoor_other s h]

/-- A steep's end leaves the lanes that are held down. -/
theorem stpEnd_heldLanes (e n : Nat) : ((s.stpEnd e).door n).heldLanes = (s.door n).heldLanes := by
  unfold State.stpEnd
  cases he : s.eng e with
  | none => rfl
  | some x =>
    dsimp only
    have hset : ∀ t : State, (t.setUnit x.unit (fun u => { u with steep := false })).doors = t.doors := fun t =>
      (kept_setUnit (A := allBut .doors) (.refl _ t) (by decide)).parts .doors (by decide)
    have hadopt : ∀ t : State, (t.unadopt (puidMajor x.unit)).doors = t.doors := fun t =>
      (kept_unadopt (A := allBut .doors) (.refl _ t) (by decide)).parts .doors (by decide)
    have hlend : ∀ t : State, (t.unlend (puidMajor x.unit)).doors = t.doors := fun t =>
      (kept_unlend (A := allBut .doors) (.refl _ t) (by decide)).parts .doors (by decide)
    have hrel : ∀ t : State, (t.stpRelease x).doors = t.doors := fun t =>
      (kept_stpRelease (A := allBut .doors) (.refl _ t) (by decide)).parts .doors (by decide)
    rw [door_congr _ (hrel _)]
    split <;> split <;> split <;> simp only [loopsOut_heldLanes, door_congr _ (hlend _), door_congr _ (hadopt _), door_congr _ (hset _)] <;> rfl

/-- What an operation keeps, it keeps when it is done on a condition. -/
theorem Kept.onlyIf {A : Nat} {s0 s : State} {c : Prop} [Decidable c] (f : State → State) (hf : ∀ t, Kept A s0 t → Kept A s0 (f t))
    (h : Kept A s0 s) : Kept A s0 (if c then f s else s) := .ite (hf s h) h

/-- A steep's end frees its engine. -/
theorem stpEnd_eng (e : Nat) : (s.stpEnd e).eng e = none := by
  unfold State.stpEnd
  cases he : s.eng e with
  | none => exact he
  | some x =>
    refine (eng_congr (s.updEng e (fun _ => none)) (Kept.parts (A := allBut .engs) ?_ .engs (by decide)) e).trans (eng_updEng_same s e _)
    refine kept_stpRelease ?_ (by decide)
    refine .onlyIf (fun t => t.unlend (puidMajor x.unit)) (fun _ k => kept_unlend k (by decide)) ?_
    refine .onlyIf (fun t => t.loopsOut (puidMajor x.unit)) (fun _ k => kept_loopsOut k (by decide)) ?_
    refine .onlyIf (fun t => t.unadopt (puidMajor x.unit)) (fun _ k => kept_unadopt k (by decide)) ?_
    exact kept_setUnit (.refl _ _) (by decide)

/-- A steep's end takes no event off its way. -/
theorem mem_stpEnd_transit {s : State} {x : Ev} (h : x ∈ s.transit) (e : Nat) : x ∈ (s.stpEnd e).transit :=
  (kept_stpEnd (A := allButEvents) (.refl _ s) (by decide)).event (by decide) h

/-- An event, raised always or on a condition, leaves the Doors. -/
theorem raiseHist_doors (e : HistEntry) (c p x y z : Nat) : (s.raiseHist e c p x y z).doors = s.doors := rfl
theorem raiseIf_doors (P : Prop) [Decidable P] (c p x y z : Nat) : (if P then s.raise c p x y z else s).doors = s.doors := by
  split <;> rfl

/-- A lane whose loop-back shows errors is held down with its history entry and event, and its Door's steep is over. -/
theorem laneLoopbackEnd_fails {s : State} {n l errs checked : Nat} {x : StpRun} (he : s.eng (uDOR n) = some x) (hs : 2 ≤ x.slice)
    (hl : (laneSlice x.slice).1 = l) (hm : (s.door n).lb.getD l 0 = (laneSlice x.slice).2) (herr : errs ≠ 0) :
    bit ((laneLoopbackEnd s n l errs checked).door n).heldLanes l = true ∧ (laneLoopbackEnd s n l errs checked).eng (uDOR n) = none ∧
    ∃ e ∈ (laneLoopbackEnd s n l errs checked).transit,
      e.code = 0xC011 ∧ e.puid = puLane n l ∧ e.p5 = (laneSlice x.slice).2 % 2 ^ 32 ∧ e.p6 = errs % 2 ^ 32 := by
  have hgo : ¬ (x.slice < 2 ∨ (laneSlice x.slice).1 ≠ l ∨ (s.door n).lb.getD l 0 ≠ (laneSlice x.slice).2) := by
    rw [hl, hm]; simp; omega
  unfold laneLoopbackEnd
  dsimp only
  rw [he]
  dsimp only
  rw [if_neg hgo, if_neg herr]
  refine ⟨?_, ?_, ?_⟩
  · rw [door_congr _ (updStpOf_doors _ _ _), stpEnd_heldLanes]
    rw [door_congr _ (raiseHist_doors _ _ _ _ _ _ _), door_congr _ (wr_doors _ _ _ _ _), door_congr _ (raiseIf_doors _ _ _ _ _ _ _),
      door_updDoor_same, bit_orBit, decide_eq_true rfl, Bool.or_true]
  · rw [eng_congr _ (updStpOf_engs _ _ _), stpEnd_eng]
  · rw [updStpOf_transit]
    obtain ⟨e, hmem, hcode, hpuid, hp5, hp6, -⟩ := mem_raiseHist_transit _ _ _ _ _ _ _
    exact ⟨e, mem_stpEnd_transit hmem _, hcode, hpuid, hp5, hp6⟩

/-- A lane's slice tests its near end or its far end. -/
theorem laneSlice_mode_lt (i : Nat) : (laneSlice i).2 < 2 ^ 32 := by
  have h := Nat.mod_lt (i - 2) (show 0 < 2 by decide)
  unfold laneSlice
  dsimp only
  omega

/-- A part whose check fails waits to be checked again. -/
theorem analogueCheck_fails {s : State} {part : Analogue} {res : AnaResult} (hp : puidOk (anaUnit part) = true) (hr : s.anaReason part res ≠ 0) :
    (analogueCheck s part res).ana.contains (anaKey part) = true := by
  have hmem : (if s.ana.contains (anaKey part) then s.ana else s.ana ++ [anaKey part]).contains (anaKey part) = true := by
    split
    · assumption
    · simp
  unfold analogueCheck
  rw [if_neg (by rw [hp]; decide), if_neg hr]
  cases part <;> exact hmem

/-- A part whose check passes leaves the parts that wait as they are. -/
theorem analogueCheck_passes {s : State} {part : Analogue} {res : AnaResult} (hr : s.anaReason part res = 0) :
    (analogueCheck s part res).ana = s.ana := by
  unfold analogueCheck
  dsimp only
  rw [if_pos hr]
  split
  · rfl
  · cases part with
    | sensor f i => exact (kept_sensorPass (A := allBut .ana) (.refl _ s) (by decide)).parts .ana (by decide)
    | rail r => rfl
    | flagCell r c => rfl

/-- A part that the configuration lacks is not checked. -/
theorem analogueCheck_lacking {part : Analogue} (hp : puidOk (anaUnit part) = false) (res : AnaResult) : analogueCheck s part res = s := by
  unfold analogueCheck
  rw [if_pos (by rw [hp]; rfl)]

/-- The number of an analogue part's test (R337, R353). -/
def anaTest : Analogue → Nat
  | .sensor _ _ => 8
  | _ => 9

/-- What becomes of a part that fails its second check: a sensor may be broken, an input cell set aside. -/
def anaAside (s : State) (why : Nat) : Analogue → State
  | .sensor f i => if (s.sensor (16 * f.val + i.val)).broken ≠ 0 then s
      else (s.sensorBreak (16 * f.val + i.val) (if why = 3 then 3 else 4)).regionThm (regionOfField f.val)
  | .flagCell r c => s.updHall r.val (fun h => { h with cellsOut := if h.cellsOut.contains c.val then h.cellsOut else h.cellsOut ++ [c.val] })
  | .rail _ => s

/-- It leaves the parts that wait for their second check, and takes no event off its way. -/
theorem anaAside_kept (why : Nat) (part : Analogue) : Kept (allBut .ana) s (anaAside s why part) := by
  cases part with
  | sensor f i =>
    exact .ite (.refl _ s) (kept_regionThm (kept_sensorBreak (.refl _ s) (by decide)) (by decide))
  | flagCell r c => exact kept_updHall (.refl _ s) (by decide)
  | rail r => exact .refl _ s

/-- The second check of a part that waits for it: the part waits no longer, and one that fails again fails its test. -/
theorem analogueRecheck_waiting {s : State} {part : Analogue} (hc : s.ana.contains (anaKey part) = true) (res : AnaResult) :
    analogueRecheck s part res = if s.anaReason part res = 0 then { s with ana := s.ana.filter (· != anaKey part) }
      else anaAside (State.stpFailed { s with ana := s.ana.filter (· != anaKey part) } (anaUnit part)
        (anaTest part) 0 (s.anaReason part res) 0) (s.anaReason part res) part := by
  unfold analogueRecheck
  rw [if_neg (by rw [hc]; decide)]
  cases part <;> rfl

/-- The reasons of a failed check are small numbers (R337, R353). -/
theorem anaReason_lt (part : Analogue) (res : AnaResult) : s.anaReason part res < 2 ^ 32 := by
  cases part with
  | sensor f i =>
    simp only [State.anaReason]
    split
    · decide
    · split <;> decide
  | rail r => simp only [State.anaReason]; split <;> decide
  | flagCell r c => simp only [State.anaReason]; split <;> decide

/-- Settles O24: each command by the lemmas of its effect. -/
theorem memoryAndLaneTests : Obligations.MemoryAndLaneTests := by
  unfold Obligations.MemoryAndLaneTests
  intro s
  refine ⟨?loopback, ?march, ?marchEnd, ?lane, ?analogue⟩
  case loopback =>
    intro c ch errs
    have hmod : errs.toNat % 2 ^ 32 = errs.toNat := Nat.mod_eq_of_lt (Nat.lt_trans errs.isLt (by decide))
    refine ⟨fun he => ⟨_, rfl, phyLoopback_none he _ _⟩, fun x he hp hs hl => ⟨?_, ?_⟩⟩
    · rintro rfl
      exact ⟨_, rfl, phyLoopback_some he hp hs hl 0⟩
    · intro herr
      refine ⟨_, rfl, ?_⟩
      rw [phyLoopback_some he hp hs hl, if_neg (fun h : errs.toNat = 0 => herr (BitVec.eq_of_toNat_eq h))]
      obtain ⟨e, hmem, hcode, hpuid, -, hp7⟩ := mem_stpFailed_transit (s.updEng (uCEL c.val) (fun _ => some { x with looped := true }))
        (puChan c.val ch.val) 7 (ch.val + 1) 4 errs.toNat
      exact ⟨suspectChan_chanSuspect _ _ ch.isLt _, e, mem_suspectChan_transit hmem _ _ _, hcode, hpuid, hp7.trans hmod⟩
  case march =>
    intro c data ch hw ht hd hs hf
    refine ⟨_, rfl, ?_⟩
    rw [hostOp_of_writable ht hw]
    exact channelMarch_busy ch.isLt hd hs hf
  case marchEnd =>
    exact fun c ch hb => ⟨⟨_, rfl, marchDone_pass ch.isLt hb⟩, fun bad ue hbad => ⟨_, rfl, marchDone_fails ue hbad hb⟩⟩
  case lane =>
    intro n l errs checked x he hs hl hm herr
    obtain ⟨hheld, heng, e, hmem, hcode, hpuid, hp5, hp6⟩ :=
      laneLoopbackEnd_fails (checked := checked) he hs hl hm (fun h => herr (BitVec.eq_of_toNat_eq h))
    refine ⟨_, rfl, hheld, by rw [heng]; rfl, e, hmem, hcode, hpuid, ?_, ?_⟩
    · exact hp5.trans (Nat.mod_eq_of_lt (laneSlice_mode_lt _))
    · exact hp6.trans (Nat.mod_eq_of_lt (Nat.lt_trans errs.isLt (by decide)))
  case analogue =>
    intro part res
    refine ⟨fun hp hr => ⟨_, rfl, analogueCheck_fails hp hr⟩, fun hp => ⟨_, rfl, analogueCheck_lacking s hp res⟩,
      fun hr => ⟨_, rfl, analogueCheck_passes hr⟩, fun hc => ⟨_, rfl, ?_⟩⟩
    rw [analogueRecheck_waiting hc]
    split
    · next hr => exact ⟨rfl, fun h => absurd hr h⟩
    · have k := anaAside_kept (State.stpFailed { s with ana := s.ana.filter (· != anaKey part) } (anaUnit part)
        (anaTest part) 0 (s.anaReason part res) 0) (s.anaReason part res) part
      refine ⟨k.parts .ana (by decide), fun _ => ?_⟩
      obtain ⟨e, hmem, hcode, hpuid, hp6, -⟩ := mem_stpFailed_transit { s with ana := s.ana.filter (· != anaKey part) } (anaUnit part)
        (anaTest part) 0 (s.anaReason part res) 0
      exact ⟨e, k.event (by decide) hmem, hcode, hpuid, hp6.trans (Nat.mod_eq_of_lt (anaReason_lt s part res))⟩

end Sys2Proof.Machine
end

section
/-! The register window: what each kind of access does (R18, R585-R597), and which registers an operation leaves alone. -/
namespace Sys2Proof.Machine
open Sys2Proof Host Sys2Proof.Claims
variable (s : State)

/-! What an operation leaves of the registers. -/
theorem regsBut_of_regs {s t : State} (h : t.regs = s.regs) (ks : List Nat) : regsBut s t ks := fun _ _ => by rw [h]

theorem regsBut_wr {s0 s : State} {ks : List Nat} (h : regsBut s0 s ks) {u : Nat} {F : Fld} {i : Nat} (hk : fkey u F i ∈ ks) (v : Nat) :
    regsBut s0 (s.wr u F v i) ks := fun a ha =>
  (find_putReg_other s.regs u F i v (fun e => ha (by rw [e]; exact hk))).trans (h a ha)

theorem regsBut_congr {s0 s t : State} {ks : List Nat} (h : regsBut s0 s ks) (e : t.regs = s.regs) : regsBut s0 t ks := fun a ha => by
  rw [e]; exact h a ha

theorem regsBut_ite {s a b : State} {ks : List Nat} {c : Prop} [Decidable c] (ha : regsBut s a ks) (hb : regsBut s b ks) :
    regsBut s (if c then a else b) ks := by
  split
  · exact ha
  · exact hb

/-- A write that a page may ignore changes no register that the write itself leaves. -/
theorem regsBut_written {p : Nat} {f : State → State} {ks : List Nat} (h : regsBut s (f (s.count uBRW BRW_WIN_WR_COUNT)) ks) :
    regsBut s (s.written p f) ks := by
  have hcounted : regsBut s (s.count uBRW BRW_WIN_WR_COUNT) ks := regsBut_of_regs (count_regs _ _ _ _ _) ks
  exact regsBut_ite hcounted (regsBut_ite (regsBut_congr hcounted (count_regs _ _ _ _ _)) (regsBut_ite hcounted h))

/-- An access that may be held changes no register that the access itself leaves. -/
theorem regsBut_hostAcc {x : HostAcc} {f : State → State} {ks : List Nat} (h : regsBut s (f s) ks) : regsBut s (s.hostAcc x f) ks := by
  unfold State.hostAcc
  split
  · exact regsBut_of_regs rfl ks
  · exact h

theorem regsBut_hostOp {u off d : Nat} {f : State → State} {ks : List Nat} (h : regsBut s (f (s.count uBRW BRW_WIN_WR_COUNT)) ks) :
    regsBut s (s.hostOp u off d f) ks :=
  regsBut_hostAcc s (regsBut_written s h)

/-- Page and word of a register's offset. -/
theorem regAt_page {off : Nat} (h : off < 4096) (u : Nat) : regAt u off / 4096 = u := by unfold regAt; omega
theorem regAt_off {off : Nat} (h : off < 4096) (u : Nat) : regAt u off % 4096 / 4 * 4 = off / 4 * 4 := by unfold regAt; omega

/-- A write of PG_CTRL: a Tap window's whatever its Tap's state. -/
theorem winWrite_owner (p d : Nat) : s.winWrite (regAt p 8) d =
    if pageClass p = 0x14 then (s.count uBRW BRW_WIN_WR_COUNT).ownerWrite p d else s.written p (fun s => s.ownerWrite p d) := by
  unfold State.winWrite
  dsimp only
  rw [regAt_page (by decide), regAt_off (by decide)]
  by_cases h : pageClass p = 0x14
  · rw [if_pos ⟨h, by decide⟩, if_pos h]
  · rw [if_neg (fun e => h e.1), if_neg (fun e => h e.1), if_neg h]
    rfl

theorem pageClass_win : ∀ w : Fin 64, pageClass (uWIN w.val) = 0x14 := by decide

/-- A write of TAP_WIN_SEL. -/
theorem winWrite_select (w : Fin 64) (d : Nat) :
    s.winWrite (regAt (uWIN w.val) 0xF00) d = (s.count uBRW BRW_WIN_WR_COUNT).selectWrite (uWIN w.val) d := by
  unfold State.winWrite
  dsimp only
  rw [regAt_page (by decide), regAt_off (by decide), if_neg (fun e => absurd e.2 (by decide)), if_pos ⟨pageClass_win w, by decide⟩]

/-- A write of any other word. -/
theorem winWrite_word {offset p off : Nat} (hp : p = offset / 4096) (ho : off = offset % 4096 / 4 * 4)
    (hn : pageClass p = 0x14 → off ≠ 8 ∧ off ≠ 0xF00) (d : Nat) :
    s.winWrite offset d = s.written p (fun s => if off = 8 then s.ownerWrite p d else match s.pageUnit p with
      | some u => s.unitWrite p u off d
      | none => s) := by
  subst hp ho
  unfold State.winWrite
  dsimp only
  exact (if_neg (fun e => (hn e.1).1 e.2)).trans (if_neg (fun e => (hn e.1).2 e.2))

/-! The registers that each command of `RegisterFrames` writes. -/
theorem ownerWrite_regs (p d : Nat) : regsBut s (s.ownerWrite p d) [fkey p PG_CTRL_OWNER 0] := by
  have h0 : regsBut s s [fkey p PG_CTRL_OWNER 0] := regsBut_of_regs rfl _
  unfold State.ownerWrite
  dsimp only
  split
  · exact regsBut_wr h0 (List.mem_singleton_self _) _
  · split
    · exact regsBut_wr h0 (List.mem_singleton_self _) _
    · exact h0

theorem selectWrite_regs (p d : Nat) :
    regsBut s (s.selectWrite p d) [fkey p TAP_WIN_SEL_KIND 0, fkey p TAP_WIN_SEL_CLUSTER 0, fkey p TAP_WIN_SEL_CORE 0] := by
  unfold State.selectWrite
  exact regsBut_wr (regsBut_wr (regsBut_wr (regsBut_of_regs rfl _) (by simp) _) (by simp) _) (by simp) _

theorem ringHeadWrite_regs (d : Nat) : regsBut s (ringHeadWrite s d)
    [fkey (uMBX 0) MBX_RING_HEAD_INDEX 0, fkey (uMBX 0) MBX_STAT_PENDING 0, fkey (uMBX 0) MBX_STAT_HELD 0] := by
  unfold ringHeadWrite State.mbxCounts
  exact regsBut_wr (regsBut_wr (regsBut_wr (regsBut_of_regs rfl _) (by simp) _) (by simp) _) (by simp) _

theorem hostHeartbeat_regs (d : Nat) : regsBut s (hostHeartbeat s d) [fkey (uMBX 0) MBX_HB_COUNT 0] := by
  unfold hostHeartbeat
  split
  · exact regsBut_of_regs rfl _
  · exact regsBut_congr (regsBut_wr (regsBut_of_regs rfl _) (List.mem_singleton_self _) d) rfl

theorem drawCalc_regs (d : Nat) :
    regsBut s (drawCalc s d) [fkey uDRW DRW_CALC_CTRL_KEYSEL 0, fkey uDRW DRW_CALC_STAT_CODE 0, fkey uDRW DRW_CALC_OUT 0] := by
  have h0 : regsBut s (s.wr uDRW DRW_CALC_CTRL_KEYSEL d) [fkey uDRW DRW_CALC_CTRL_KEYSEL 0, fkey uDRW DRW_CALC_STAT_CODE 0, fkey uDRW DRW_CALC_OUT 0] :=
    regsBut_wr (regsBut_of_regs rfl _) (by simp) _
  unfold drawCalc
  dsimp only
  split
  · exact h0
  · split
    · exact regsBut_wr h0 (by simp) _
    · refine regsBut_wr (regsBut_wr ?_ (by simp) _) (by simp) _
      split
      · exact regsBut_congr h0 (count_regs _ _ _ _ _)
      · exact h0

theorem attributionBinWrite_regs (k d : Nat) : regsBut s (attributionBinWrite s k d) [fkey (uTST k) TST_ATB_CTRL_EN 0] := by
  unfold attributionBinWrite
  have hbins : ∀ (t : State) (ks : List Nat) (b : Nat) (x : BinSt), (t.each ks (fun s k => s.updBin (64 * k + b) (fun _ => x))).regs = t.regs :=
    fun t ks b x => (kept_each (A := allBut .regs) (.refl _ t) (fun _ _ k => kept_updBin k (by decide))).parts .regs (by decide)
  exact regsBut_congr (regsBut_wr (regsBut_of_regs rfl _) (List.mem_singleton_self _) _) (hbins _ _ _ _)

/-- A clamp changes the Hall of its own region alone. -/
theorem setClamp_hall_other {r q : Nat} (h : q ≠ r) (d : Dir) (n : Nat) (on : Bool) : (s.setClamp r d n on).hall q = s.hall q := by
  unfold State.setClamp
  split
  · rfl
  · exact (hall_congr _ (raise_halls _ _ _ _ _ _) q).trans (hall_updHall_other s h _)

/-- A steep that falls due changes its own unit's plan alone. -/
theorem steepDue_stpOf_other {p q : Nat} (h : q ≠ p) : (steepDue s p).stpOf q = s.stpOf q := by
  unfold steepDue
  dsimp only
  split
  · rfl
  · exact stpOf_updStpOf_other s h _

/-- Settles O51: each command changes the registers, or the entry, that its lemma names. -/
theorem registerFrames : Obligations.RegisterFrames := by
  unfold Obligations.RegisterFrames
  intro s t
  refine ⟨?owner, ?select, ?ring, ?heartbeat, ?draw, ?bin, ?part, ?optime, ?xspi, ?due, ?throttle, ?clamp⟩
  case owner =>
    rintro page data ⟨⟩ -
    refine regsBut_hostAcc s ?_
    rw [winWrite_owner]
    split
    · exact ownerWrite_regs _ _ _
    · exact regsBut_written s (ownerWrite_regs _ _ _)
  case select =>
    rintro w data ⟨⟩
    refine regsBut_hostAcc s ?_
    rw [winWrite_select]
    exact selectWrite_regs _ _ _
  case ring => rintro data ⟨⟩; exact regsBut_hostOp s (ringHeadWrite_regs _ _)
  case heartbeat => rintro data ⟨⟩; exact regsBut_hostOp s (hostHeartbeat_regs _ _)
  case draw => rintro data ⟨⟩; exact regsBut_hostOp s (drawCalc_regs _ _)
  case bin => rintro k data ⟨⟩; exact regsBut_hostOp s (attributionBinWrite_regs _ _ _)
  case part => rintro offset ⟨⟩; exact regsBut_hostAcc s (regsBut_of_regs (count_regs s uBRW BRW_WIN_WR_COUNT 1 0) [])
  case optime => rintro ⟨⟩; exact regsBut_of_regs rfl _
  case xspi =>
    rintro ⟨⟩
    exact regsBut_of_regs ((kept_execXspiBusTimeout (A := allBut .regs) (.refl _ s) (by decide) _ rfl).parts .regs (by decide)) _
  case due => rintro u ⟨⟩ p hp; exact steepDue_stpOf_other s hp
  case throttle => rintro r ⟨⟩ q hq; exact thmOf_updThmOf_other s hq _
  case clamp =>
    rintro r d ⟨⟩ q hq
    cases regionTo r.val d with
    | some n => exact setClamp_hall_other s hq d n true
    | none => rfl

end Sys2Proof.Machine
end

section
/-! Reads and writes of the register window by the host (R18, R66, R120, R122, R585-R597). -/
namespace Sys2Proof.Machine
open Sys2Proof Host Sys2Proof.Claims
variable (s : State)

/-! The words that hold a RW2K field (R18): three of the Brewhouse's page and one of the Hatch's, in each of which no other field can be written. -/

/-- A RW2K field lies in one word, at one of these offsets. -/
def rw2kPlaced (c : Nat) (F : Fld) : Bool :=
  F.acc != .rw2k || (decide (F.n = 1 ∧ (F.lo + F.width + 31) / 32 = 1) &&
    (c == 1 && [0x80, 0x14C, 0x260].contains F.off || c == 0xB && F.off == 0x40))

/-- A page has the fields of its class; of the mailbox pages only the first has any (R587). -/
theorem classFields_inst (c i : Nat) : classFields c i = classFields c 0 ∨ classFields c i = [] := by
  by_cases hc : c = 3
  · subst hc
    by_cases hi : i = 0
    · exact .inl (by rw [hi])
    · exact .inr (if_neg hi)
  · left
    unfold classFields
    rw [if_neg hc, if_neg hc]

theorem classFields_rw2kPlaced (c i : Nat) : (classFields c i).all (rw2kPlaced c) = true := by
  have hclasses : ∀ d : Fin 0x15, (classFields d.val 0).all (rw2kPlaced d.val) = true := by decide
  rcases classFields_inst c i with h | h <;> rw [h]
  · by_cases hc : c < 0x15
    · exact hclasses ⟨c, hc⟩
    · unfold classFields
      repeat rw [if_neg (by omega)]
      rfl
  · rfl

/-- A field of one word lies in the word at its offset alone. -/
theorem fldAt_isSome_one {F : Fld} {off : Nat} (hn : F.n = 1) (hw : (F.lo + F.width + 31) / 32 = 1) (h : (fldAt F off).isSome = true) :
    F.off ≤ off ∧ off < F.off + 4 := by
  unfold fldAt at h
  rw [hn, hw] at h
  by_cases hin : F.off ≤ off ∧ off < F.off + 4
  · exact hin
  · simp [hin] at h

theorem twoKeyWord_places {c i off : Nat} (h4 : off % 4 = 0) (h : twoKeyWord c i off = true) :
    c = 1 ∧ (off = 0x80 ∨ off = 0x14C ∨ off = 0x260) ∨ c = 0xB ∧ off = 0x40 := by
  unfold twoKeyWord fldsAt at h
  obtain ⟨e, he, hacc⟩ := List.any_eq_true.mp h
  obtain ⟨F, hF, hmap⟩ := List.mem_filterMap.mp he
  obtain ⟨x, hx, rfl⟩ := Option.map_eq_some_iff.mp hmap
  have hp := List.all_eq_true.mp (classFields_rw2kPlaced c i) F hF
  simp only [beq_iff_eq] at hacc
  simp only [rw2kPlaced, hacc, bne_self_eq_false, Bool.false_or, Bool.and_eq_true, decide_eq_true_eq, Bool.or_eq_true, beq_iff_eq,
    List.contains_eq_mem, List.mem_cons, List.not_mem_nil, or_false] at hp
  obtain ⟨⟨hn, hw⟩, hplace⟩ := hp
  have hin := fldAt_isSome_one hn hw (by rw [hx]; rfl)
  omega

/-- A field that the window never writes. -/
def Fld.fixed (F : Fld) : Bool := F.acc == .ro || F.acc == .rw2k

theorem fldsAt_fixed {c i off : Nat} (h : c = 1 ∧ (off = 0x80 ∨ off = 0x14C ∨ off = 0x260) ∨ c = 0xB ∧ off = 0x40) :
    (fldsAt c i off).all (fun e => Fld.fixed e.1) = true := by
  rcases h with ⟨rfl, rfl | rfl | rfl⟩ | ⟨rfl, rfl⟩ <;> rfl

theorem fldWrite_fixed {F : Fld} (h : Fld.fixed F = true) (u i j d : Nat) : s.fldWrite u F i j d = s := by
  unfold State.fldWrite
  simp only [Fld.fixed, Bool.or_eq_true, beq_iff_eq] at h
  rcases h with h | h <;> rw [h]

theorem fldWrites_fixed {l : List (Fld × Nat × Nat)} (h : l.all (fun e => Fld.fixed e.1) = true) (u d : Nat) :
    l.foldl (fun t e => t.fldWrite u e.1 e.2.1 e.2.2 d) s = s := by
  induction l with
  | nil => rfl
  | cons e l ih =>
    obtain ⟨he, hl⟩ := Bool.and_eq_true_iff.mp h
    rw [List.foldl_cons, fldWrite_fixed s he]
    exact ih hl

/-- A write of a word with a RW2K field changes no register and raises 0xA010 (R18). -/
theorem plainWrite_twoKey {c p off : Nat} (h4 : off % 4 = 0) (h : twoKeyWord c (pageInst p) off = true) (u d : Nat) :
    s.plainWrite p c u off d = s.raiseOnce 0 0xA010 s.puActive p off d := by
  have hplace := twoKeyWord_places h4 h
  unfold State.plainWrite
  dsimp only
  rw [fldWrites_fixed s (fldsAt_fixed hplace), if_pos h]
  unfold State.afterWrite
  rw [if_neg (by omega), if_neg (by omega), if_neg (by omega)]

/-! Writes. -/

/-- A word written to a page that takes writes, but for PG_CTRL and TAP_WIN_SEL. -/
theorem winWrite_unit {s : State} {offset p off u : Nat} (hp : p = offset / 4096) (ho : off = offset % 4096 / 4 * 4) (h8 : off ≠ 8)
    (hsel : pageClass p = 0x14 → off ≠ 0xF00) (hw : writable s p = true) (hu : s.pageUnit p = some u) (d : Nat) :
    s.winWrite offset d = (s.count uBRW BRW_WIN_WR_COUNT).unitWrite p u off d := by
  rw [winWrite_word s hp ho (fun e => ⟨h8, hsel e⟩), written_of_writable hw, if_neg h8, pageUnit_counted, hu]

theorem unitWrite_evtEn (p u d : Nat) : s.unitWrite p u 0x14 d = s.wr u PG_EVT_EN_CLASS d := rfl
theorem unitWrite_evt (p u d : Nat) : s.unitWrite p u 0x18 d = s.wr u PG_EVT_CLASS (s.rd u PG_EVT_CLASS - Nat.land (s.rd u PG_EVT_CLASS) d) := rfl
theorem unitWrite_header {off : Nat} (h : off < 0x40) (h14 : off ≠ 0x14) (h18 : off ≠ 0x18) (p u d : Nat) : s.unitWrite p u off d = s := by
  unfold State.unitWrite
  dsimp only
  rw [if_neg h14, if_neg h18, if_pos h]
theorem unitWrite_plain {s : State} {p u off d : Nat} (h : 0x40 ≤ off) (ho : s.opWrite (pageClass p) (pageInst p) u off d = none) :
    s.unitWrite p u off d = s.plainWrite p (pageClass p) u off d := by
  unfold State.unitWrite
  dsimp only
  rw [if_neg (by omega), if_neg (by omega), if_neg (by omega), ho]
  rfl

/-- A write to a reserved page is only counted. -/
theorem written_reserved {p : Nat} (h : pageClass p = 0) (f : State → State) : s.written p f = s.count uBRW BRW_WIN_WR_COUNT := by
  unfold State.written
  dsimp only
  rw [if_pos h]

/-- A write to a page that is ABSENT, OFF, SHUTTERED or LOST is counted twice. -/
theorem written_shut {p : Nat} (h : pageClass p ≠ 0) (hst : [0, 1, 5, 6].contains (s.pageState p) = true) (f : State → State) :
    s.written p f = (s.count uBRW BRW_WIN_WR_COUNT).count uBRW BRW_WIN_STAT_STATEW := by
  unfold State.written
  dsimp only
  rw [if_neg h, pageState_counted, if_pos (by simpa [or_assoc] using hst)]

/-- PG_CTRL.OWNER after a write of it (R589). -/
theorem ownerWrite_rd (p d : Nat) : (s.ownerWrite p d).rd p PG_CTRL_OWNER =
    if s.rd p PG_CTRL_OWNER = 0 then d % 256
    else if d % 256 = s.rd p PG_CTRL_OWNER ∨ d % 256 = 0 then 0 else s.rd p PG_CTRL_OWNER := by
  unfold State.ownerWrite
  dsimp only
  split
  · rw [rd_wr_same]; exact Nat.mod_mod _ _
  · split
    · rw [rd_wr_same]; rfl
    · rfl

/-- The low word of a number replaced: its low half word is that of the new one. -/
theorem setWord_low (x d : Nat) : setWord (x * 2 ^ 0) 0 d / 2 ^ 0 % 2 ^ 16 = d % 65536 := by
  unfold setWord wordOf
  omega

/-- A Hall's stall limit takes a value within its range alone (R387). -/
theorem fldTakes_stall (u i v : Nat) : s.fldTakes u HAL_STALL_CFG_MS i v = if 10 ≤ v ∧ v ≤ 1000 then some v else none := rfl

theorem fldWrite_stall (u d : Nat) : s.fldWrite u HAL_STALL_CFG_MS 0 0 d =
    if 10 ≤ d % 65536 ∧ d % 65536 ≤ 1000 then s.wr u HAL_STALL_CFG_MS (d % 65536) else s := by
  have htakes : s.fldWrite u HAL_STALL_CFG_MS 0 0 d =
      match s.fldTakes u HAL_STALL_CFG_MS 0 (setWord (s.rd u HAL_STALL_CFG_MS 0 * 2 ^ 0) 0 d / 2 ^ 0 % 2 ^ 16) with
      | some v => s.wr u HAL_STALL_CFG_MS v 0
      | none => s := rfl
  rw [htakes, setWord_low, fldTakes_stall]
  by_cases h : 10 ≤ d % 65536 ∧ d % 65536 ≤ 1000
  · rw [if_pos h, if_pos h]
  · rw [if_neg h, if_neg h]

theorem pageClass_hal : ∀ r : RegionId, pageClass (uHAL r.val) = 0x10 := by decide

theorem opWrite_stall (i u d : Nat) : s.opWrite 0x10 i u 0x88 d = none := rfl

theorem plainWrite_stall (p u d : Nat) : s.plainWrite p 0x10 u 0x88 d = s.fldWrite u HAL_STALL_CFG_MS 0 0 d := rfl

/-- A write of a Hall's stall limit. -/
theorem unitWrite_stall (r : RegionId) (u d : Nat) : s.unitWrite (uHAL r.val) u 0x88 d =
    if 10 ≤ d % 65536 ∧ d % 65536 ≤ 1000 then s.wr u HAL_STALL_CFG_MS (d % 65536) else s := by
  rw [unitWrite_plain (by decide) (by rw [pageClass_hal]; exact opWrite_stall s _ _ _), pageClass_hal, plainWrite_stall, fldWrite_stall]

theorem pageUnit_hal (r : RegionId) : s.pageUnit (uHAL r.val) = some (uHAL r.val) := by
  unfold State.pageUnit
  rw [pageClass_hal]
  rfl

/-! Reads. -/

/-- What a read changes is not what was sent: the cursor that it moves answers nothing of its own. -/
theorem winTouch_sent (offset : Nat) : (s.winTouch offset).sent = s.sent := by
  unfold State.winTouch
  dsimp only
  repeat' split
  all_goals rfl

/-- A read of the host answers the word. -/
theorem hostRead_sent (offset : Nat) : (s.hostRead offset).sent = .word (BitVec.ofNat 32 (s.winWord offset)) :: s.sent := by
  unfold State.hostRead State.winRead
  rw [emit_sent, winTouch_sent, count_sent]

/-- A read of the low word of a Taster's pair latches the high one (R595). -/
theorem hostRead_latch {offset p off : Nat} (hp : p = offset / 4096) (ho : off = offset % 4096 / 4 * 4) (hc : pageClass p = 0x13)
    (hoff : 0x40 ≤ off) (hst : [0, 1, 6].contains (s.pageState p) = false) (hhi : (pairHi 0x13 (pageInst p) off).isSome = true) :
    Tab.find (4096 * p + off + 4) (s.hostRead offset).latch = some (s.pageWord p (off + 4)) := by
  have hgo : ¬ (pageClass p = 0 ∨ off < 0x40 ∨ s.pageState p = 0 ∨ s.pageState p = 1 ∨ s.pageState p = 6) := by
    simp only [List.contains_eq_mem, List.mem_cons, List.not_mem_nil, or_false, decide_eq_false_iff_not, not_or] at hst
    omega
  have htouch : ((s.count uBRW BRW_WIN_RD_COUNT).winTouch offset).latch = Tab.insert (4096 * p + off + 4) (s.pageWord p (off + 4)) s.latch := by
    subst hp ho
    unfold State.winTouch
    dsimp only
    rw [show (s.count uBRW BRW_WIN_RD_COUNT).pageState (offset / 4096) = s.pageState (offset / 4096) from rfl, if_neg hgo, hc,
      if_neg (by omega), if_neg (by omega), if_neg (by omega), if_neg (by omega), if_pos hhi]
    rfl
  exact (congrArg (Tab.find _) htouch).trans (Tab.find_insert_same _ _ _)

/-- An access to a page that answers nothing: a reserved or a global page and one of a LOST region are answered as ever. -/
theorem pageUnreached_global {offset : Nat} (h : pageClass (offset / 4096) < 0x10) (wr : Bool) : pageUnreached s offset wr = s := by
  unfold pageUnreached
  exact if_pos (.inl h)

theorem pageUnreached_unit {offset : Nat} (h : 0x10 ≤ pageClass (offset / 4096)) (hst : s.pageState (offset / 4096) ≠ 6) (wr : Bool) :
    pageUnreached s offset wr = if wr then (s.count uBRW BRW_WIN_STAT_UNREACH).count uBRW BRW_WIN_WR_COUNT
      else ((s.count uBRW BRW_WIN_STAT_UNREACH).count uBRW BRW_WIN_RD_COUNT).emit
        (.word (BitVec.ofNat 32 ((s.count uBRW BRW_WIN_STAT_UNREACH).unreachedWord offset))) := by
  unfold pageUnreached
  exact if_neg (by omega)

/-- Past its header an unreached page answers zero. -/
theorem unreachedWord_body {offset : Nat} (h : 0x40 ≤ offset % 4096 / 4 * 4) : s.unreachedWord offset = 0 := if_pos h

/-- A partial write is ignored and raises 0xC021. -/
theorem windowPartialWrite_transit {be : Nat} (h : be ≠ 15) (offset : Nat) :
    raised s (windowPartialWrite s offset be) 0xC021 s.puActive offset be := by
  unfold windowPartialWrite raised
  dsimp only
  rw [if_neg h, raise_transit, count_transit]
  rfl

/-- Bits of a word fit the field that they are written to. -/
theorem bits_mod_self (x hi lo : Nat) : bits x hi lo % 2 ^ (hi + 1 - lo) = bits x hi lo := Nat.mod_mod _ _

/-- TAP_WIN_SEL after a write of it (R597). -/
theorem selectWrite_rd (p d : Nat) : (s.selectWrite p d).rd p TAP_WIN_SEL_KIND = bits d 31 28 ∧
    (s.selectWrite p d).rd p TAP_WIN_SEL_CLUSTER = bits d 27 16 ∧ (s.selectWrite p d).rd p TAP_WIN_SEL_CORE = bits d 15 0 := by
  unfold State.selectWrite
  refine ⟨?_, ?_, ?_⟩ <;> simp (disch := decide) only [rd_wr_apart, rd_wr_same]
  · exact bits_mod_self d 31 28
  · exact bits_mod_self d 27 16
  · exact bits_mod_self d 15 0

/-- A command that completes, with its next state in a known form. -/
theorem runs_of_exec {c : Instr} {s t u : State} {Q : State → Prop} (h : exec c s = .next t) (e : t = u) (hQ : Q u) : runs c s Q :=
  ⟨u, e ▸ h, hQ⟩

/-- A host's write of a word, by either of the two commands that present one (R18, R585). -/
theorem exec_write {c : Instr} {offset : BitVec 24} {data : Word} (hc : c = .registerWrite offset data ∨ c = .rw2kDirectWrite offset data) :
    exec c s = .next (s.hostWrite offset.toNat data.toNat) := by
  rcases hc with rfl | rfl <;> rfl

/-- During a takeover a host's write waits as it was presented. -/
theorem hostWrite_held {s : State} (h : s.takingOver = true) (offset : Nat) (data : Word) : s.hostWrite offset data.toNat =
    { s with pair := { s.pair with waiting := s.pair.waiting ++ [.write offset data] } } := by
  unfold State.hostWrite
  rw [hostAcc_held h, BitVec.ofNat_toNat, BitVec.setWidth_eq]

/-- Settles O46: an access is held or done, and one that is done by the lemma of its kind. -/
theorem windowRegisters : Obligations.WindowRegisters := by
  unfold Obligations.WindowRegisters
  intro s
  refine ⟨?held, ?write, ?stall, ?owner, ?select, ?read⟩
  case held =>
    intro ht
    refine ⟨fun offset data => ⟨⟨_, rfl, hostWrite_held ht _ _⟩, ⟨_, rfl, hostWrite_held ht _ _⟩, ⟨_, rfl, hostAcc_held ht _ _⟩,
      fun wr => ⟨_, rfl, hostAcc_held ht _ _⟩, fun be => ⟨_, rfl, hostAcc_held ht _ _⟩⟩,
      fun page data => ⟨_, rfl, hostWrite_held ht _ _⟩, fun w data => ⟨_, rfl, hostWrite_held ht _ _⟩⟩
  case write =>
    intro offset data p off ht hp ho c hc
    have hgo : s.hostWrite offset.toNat data.toNat = s.winWrite offset.toNat data.toNat := hostAcc_done ht _ _
    have hoff : off % 4 = 0 := by omega
    refine ⟨fun h0 => ⟨_, exec_write s hc, ?reserved⟩, fun h0 h14 hst => ⟨_, exec_write s hc, ?shut⟩, fun u hw hu => ?unit⟩
    case reserved =>
      rw [hgo, winWrite_word s hp ho (fun e => absurd (h0.symm.trans e) (by decide)), written_reserved s h0]
    case shut =>
      rw [hgo, winWrite_word s hp ho (fun e => absurd e h14), written_shut s h0 hst]
    case unit =>
      have hwr : off ≠ 8 → (pageClass p = 0x14 → off ≠ 0xF00) →
          s.hostWrite offset.toNat data.toNat = (s.count uBRW BRW_WIN_WR_COUNT).unitWrite p u off data.toNat :=
        fun h8 hsel => hgo.trans (winWrite_unit hp ho h8 hsel hw hu _)
      refine ⟨fun h => ?enable, fun h hlt => ?clear, fun h h8 h14 h18 => ?header, fun h h2k hop hmark => ?twoKey⟩
      case enable =>
        refine runs_of_exec (exec_write s hc) (hwr (by omega) (by omega)) ?_
        rw [h, unitWrite_evtEn, rd_wr_same]
        rfl
      case clear =>
        refine runs_of_exec (exec_write s hc) (hwr (by omega) (by omega)) ?_
        rw [h, unitWrite_evt, rd_wr_same]
        exact Nat.mod_eq_of_lt (Nat.lt_of_le_of_lt (Nat.sub_le _ _) hlt)
      case header => exact runs_of_exec (exec_write s hc) (hwr h8 (by omega)) (unitWrite_header _ h h14 h18 _ _ _)
      case twoKey =>
        have hplace := twoKeyWord_places hoff h2k
        have hnew : (s.count uBRW BRW_WIN_WR_COUNT).marks.contains ((s.count uBRW BRW_WIN_WR_COUNT).puActive, 0xA010, 0) = false := by
          rw [count_marks]; exact hmark
        refine runs_of_exec (exec_write s hc) (hwr (by omega) (by omega)) ?_
        rw [unitWrite_plain h hop, plainWrite_twoKey _ hoff h2k, raiseOnce_transit _ hnew]
        exact List.mem_append_right _ (List.mem_singleton_self _)
  case stall =>
    intro r data hw ht
    have hat : (BitVec.ofNat 24 (regAt (uHAL r.val) 0x88)).toNat = regAt (uHAL r.val) 0x88 := by
      rw [BitVec.toNat_ofNat]
      exact Nat.mod_eq_of_lt (by have hr : r.val < 42 := r.isLt; unfold regAt uHAL; omega)
    have hwr : s.hostWrite (regAt (uHAL r.val) 0x88) data.toNat = (s.count uBRW BRW_WIN_WR_COUNT).unitWrite (uHAL r.val) (uHAL r.val) 0x88 data.toNat :=
      (hostAcc_done ht _ _).trans (winWrite_unit (regAt_page (off := 0x88) (by decide) _).symm (regAt_off (off := 0x88) (by decide) _).symm
        (by decide) (fun _ => by decide) hw (pageUnit_hal s r) _)
    refine runs_of_exec rfl ((congrArg (fun o => s.hostWrite o data.toNat) hat).trans (hwr.trans (unitWrite_stall _ r _ _))) ?_
    split
    · exact ⟨(rd_wr_same _ _ _ _ _).trans (Nat.mod_mod _ _), rfl⟩
    · exact ⟨rfl, rfl⟩
  case owner =>
    intro page data ht hw
    have hwr : s.winWrite (regAt page.toNat 8) data.toNat = (s.count uBRW BRW_WIN_WR_COUNT).ownerWrite page.toNat data.toNat := by
      rw [winWrite_owner]
      split
      · rfl
      · next h => exact written_of_writable (hw.resolve_right h) _
    exact runs_of_exec rfl ((hostAcc_done ht _ _).trans hwr) (ownerWrite_rd _ _ _)
  case select =>
    intro w data ht
    exact runs_of_exec rfl ((hostAcc_done ht _ _).trans (winWrite_select s w _)) (selectWrite_rd _ _ _)
  case read =>
    intro offset p off ht hp ho
    subst hp ho
    refine ⟨fun h wr => ⟨_, rfl, (hostAcc_done ht _ _).trans (pageUnreached_global s h wr)⟩, fun h hst => ⟨?unreachedWrite, fun hoff => ?unreachedRead⟩,
      ?word, fun h13 hoff hst hhi => ?latch, fun be hbe => ?part, ⟨_, rfl, hostAcc_done ht _ _⟩⟩
    case unreachedWrite => exact ⟨_, rfl, (hostAcc_done ht _ _).trans (pageUnreached_unit s h hst true)⟩
    case unreachedRead =>
      refine runs_of_exec rfl ((hostAcc_done ht _ _).trans (pageUnreached_unit s h hst false)) ?_
      rw [if_neg Bool.false_ne_true, unreachedWord_body _ hoff, emit_sent, count_sent, count_sent]
      rfl
    case word => exact runs_of_exec rfl (hostAcc_done ht _ _) (hostRead_sent s _)
    case latch => exact runs_of_exec rfl (hostAcc_done ht _ _) (hostRead_latch s rfl rfl h13 hoff hst hhi)
    case part =>
      exact runs_of_exec rfl (hostAcc_done ht _ _) (windowPartialWrite_transit s (fun e => hbe (BitVec.eq_of_toNat_eq e)) _)

end Sys2Proof.Machine
end

section
/-! Power on, the stages of bring-up and the loads of the cores (R118, R153, R257, R511-R515, R524, R525). -/
namespace Sys2Proof.Machine
open Sys2Proof Host Sys2Proof.Claims
variable (s : State)

/-! The stages. -/

/-- The result of a stage but for reserved PUIDs and lanes without their loop-back result, which count for nothing. -/
def reported (res : StageResult) : StageResult :=
  { res with failed := res.failed.filter (fun p => puidOk p.toNat && (puidKind p.toNat != 9 || res.loops.any (·.lane == p))) }

/-- A stage in progress ends by its work, its stop and its report. -/
theorem bringupStage_running {s : State} (h0 : s.fw.stage ≠ 0) (h11 : s.fw.stage ≤ 11) (hrun : s.isSet uBRW BRW_BOOT_STOPPED = false)
    {res : StageResult} {s1 : State} {stop : Nat} (hwork : s.stageWork s.fw.stage ((reported res).failed.map (·.toNat)) res.loops = (s1, stop)) :
    bringupStage s res =
      let why := if stop ≠ 0 then (stop, 0) else s1.stopReason s.fw.stage res.usable
      if why.1 ≠ 0 then
        (if s.fw.stage ≤ 3 then s1 else (s1.wr uBRW BRW_BOOT_UNITS_USABLE res.usable).bump uBRW BRW_BOOT_UNITS_FAILED (reported res).failed.length).bootStop
          s.fw.stage why.1 why.2 res.ms
      else s1.bootReport s.fw.stage (reported res) := by
  have hgo : ¬ (s.fw.stage = 0 ∨ 11 < s.fw.stage ∨ s.isSet uBRW BRW_BOOT_STOPPED) := by
    rw [hrun, not_or, not_or]
    exact ⟨h0, by omega, Bool.false_ne_true⟩
  unfold bringupStage
  dsimp only
  rw [if_neg hgo]
  unfold reported at hwork
  dsimp only at hwork
  rw [hwork]
  rfl

/-- The report of a stage makes the next one the stage in progress. -/
theorem bootReport_stage (n : Nat) (res : StageResult) : (s.bootReport n res).fw.stage = n + 1 := by
  unfold State.bootReport
  dsimp only
  split
  · rfl
  · rw [raise_fw]; rfl

/-- The report of a stage shows it as the last one reported. -/
theorem bootReport_shown {n : Nat} (hn : n ≤ 11) (res : StageResult) : (s.bootReport n res).rd uBRW BRW_BOOT_STAGE = n := by
  have hshown : ∀ x k : Nat, (((s.wr uBRW BRW_BOOT_STAGE n).wr uBRW BRW_BOOT_MS_MS x).bump uBRW BRW_BOOT_UNITS_FAILED k).rd uBRW BRW_BOOT_STAGE = n := by
    intro x k
    simp (disch := decide) only [rd_bump_apart, rd_wr_apart, rd_wr_same]
    exact Nat.mod_eq_of_lt (show n < 2 ^ 4 by omega)
  unfold State.bootReport
  dsimp only
  split
  · exact hshown _ _
  · simp (disch := decide) only [rd_raise_apart, rd_wr_apart]
    exact hshown _ _

/-- A stage that stops bring-up sets STOPPED. -/
theorem bootStop_stopped (n reason concerned ms : Nat) : (s.bootStop n reason concerned ms).isSet uBRW BRW_BOOT_STOPPED = true := by
  have hset : ∀ (t : State) (x y : Nat), (((t.flag uBRW BRW_BOOT_STOPPED true).wr uBRW BRW_BOOT_REASON x).wr uBRW BRW_BOOT_MS_MS y).rd uBRW BRW_BOOT_STOPPED = 1 := by
    intro t x y
    unfold State.flag
    simp (disch := decide) only [rd_wr_apart, rd_wr_same]
    rfl
  unfold State.bootStop State.isSet
  dsimp only
  have hpad : ∀ (t : State) (q : PadSt), ({ t with pad := q } : State).rd uBRW BRW_BOOT_STOPPED = t.rd uBRW BRW_BOOT_STOPPED := fun _ _ => rfl
  split
  · rw [hpad, hset]
    rfl
  · rw [rd_raise_apart _ (by decide), hpad, hset]
    rfl

/-- A stop of bring-up leaves firmware's own state. -/
theorem bootStop_fw (n reason concerned ms : Nat) : (s.bootStop n reason concerned ms).fw = s.fw :=
  (kept_bootStop (A := allBut .fw) (.refl _ s) (by decide)).parts .fw (by decide)

/-! The loads and the scans that firmware asks for. -/

/-- The state with the cores whose load was bad noted anew. -/
def noteLoads (l : List Nat) : State := { s with fw := { s.fw with badLoads := l } }

/-- A core that takes a load: a good load clears its note, a bad one is noted, and a second bad one has the store checked. -/
theorem bootLoadDone_of_load {s : State} {k p : Nat} (him : s.fw.image ≠ []) (hoff : (s.unit (puCore k p)).off = false)
    (habs : (s.unit (puCore k p)).absent = false) (hlog : (s.logicalOf k p).isNone = false) (bad : Bool) :
    bootLoadDone s k p bad =
      if !bad then noteLoads s (s.fw.badLoads.filter (· != ckey k p))
      else if !s.fw.badLoads.contains (ckey k p) then noteLoads s (s.fw.badLoads ++ [ckey k p])
      else (noteLoads s (s.fw.badLoads.filter (· != ckey k p))).askCheck (regionOfCluster k) (ckey k p + 1) := by
  unfold bootLoadDone
  dsimp only
  rw [if_neg (by simp [him, hoff, habs, hlog])]
  rfl

/-- A scan begun leaves firmware's own state. -/
theorem checkNext_fw (r : Nat) : (s.checkNext r).fw = s.fw :=
  (kept_checkNext (A := allBut .fw) (.refl _ s) (by decide)).parts .fw (by decide)

/-- The stack of a region's store is one of the wafer's (R522). -/
theorem storeCellar_lt : ∀ r : RegionId, storeCellar r.val < nStacks := by decide

theorem regionOfCluster_lt (k : ClusterId) : regionOfCluster k.val < nRegions := by
  have hfield : ∀ f : Fin 84, regionOfField f.val < nRegions := by decide
  have hk : k.val < 840 := k.isLt
  exact hfield ⟨k.val / 10, by omega⟩

theorem scanUnit_storeEngine {r : Nat} (h : r < nRegions) : scanUnit (storeEngine r) = uCEL (storeCellar r) := by
  unfold storeEngine
  rw [dif_pos (storeCellar_lt ⟨r, h⟩)]
  rfl

/-- A store's Cellar is that of its region alone. -/
theorem find_storeCellar (r : RegionId) : (List.range nRegions).find? (fun q => uCEL (storeCellar q) == uCEL (storeCellar r.val)) = some r.val := by
  revert r
  decide

/-- The end of a scan leaves its origin. -/
theorem scanEnd_origin (u code addr : Nat) (result : Option Nat) : (s.scanEnd u code addr result).rd u CKU_SCAN_STAT_ORIGIN = s.rd u CKU_SCAN_STAT_ORIGIN := by
  unfold State.scanEnd
  dsimp only
  have hdraw : ∀ t : State, t.draw.rd u CKU_SCAN_STAT_ORIGIN = t.rd u CKU_SCAN_STAT_ORIGIN := fun _ => rfl
  cases result <;> simp (disch := decide) only [hdraw, rd_wr_apart, rd_flag_apart] <;> rfl

/-- A scan begun shows its origin. -/
theorem scanBegin_origin (v : ScanUnit) {origin : Nat} (ho : origin < 2) (p : Profile) (sp start len : Nat) (cmp : Bool) (exp : Nat) :
    (s.scanBegin v origin p sp start len cmp exp).rd (scanUnit v) CKU_SCAN_STAT_ORIGIN = origin := by
  have hshown : ∀ t : State, (t.wr (scanUnit v) CKU_SCAN_STAT_ORIGIN origin).rd (scanUnit v) CKU_SCAN_STAT_ORIGIN = origin := fun t =>
    (rd_wr_same _ _ _ _ _).trans (Nat.mod_eq_of_lt (show origin < 2 ^ 1 from ho))
  unfold State.scanBegin
  dsimp only
  split
  · rw [scanEnd_origin, hshown]
  · split
    · rw [scanEnd_origin, hshown]
    · split
      · rw [scanEnd_origin, hshown]
      · split
        · rw [scanEnd_origin, hshown]
        · rw [rd_flag_apart _ (by decide)]
          exact hshown _

/-- The scan that firmware has asked of a free engine begins, with firmware as its origin. -/
theorem askCheck_origin {r : Nat} (hr : r < nRegions) (hfree : (s.scan (uCEL (storeCellar r))).busy = false) (why : Nat) :
    (s.askCheck r why).rd (uCEL (storeCellar r)) CKU_SCAN_STAT_ORIGIN = 1 := by
  unfold State.askCheck State.checkNext
  dsimp only
  rw [if_neg ?free, ← scanUnit_storeEngine hr, scanBegin_origin _ _ (by decide)]
  case free =>
    rw [Bool.or_eq_true, not_or]
    exact ⟨fun h => Bool.false_ne_true (hfree.symm.trans h), by simp⟩

/-- A core has failed its load: its unit is out of service, and 0x7030 tells of it. -/
def coreFailed (k p : Nat) (t : State) : Prop :=
  (t.unit (puCore k p)).off = true ∧ ∃ e ∈ t.transit, e.code = 0x7030 ∧ e.puid = puCore k p

/-- What leaves the units and takes no event off its way leaves a core failed. -/
theorem coreFailed_of_kept {k p : Nat} {s t : State} (h : coreFailed k p s) (hu : t.units = s.units) (he : ∀ e ∈ s.transit, e ∈ t.transit) :
    coreFailed k p t := by
  obtain ⟨hoff, e, hmem, hcode, hpuid⟩ := h
  exact ⟨by unfold State.unit; rw [hu]; exact hoff, e, he e hmem, hcode, hpuid⟩

theorem coreFailed_updCore {k p : Nat} {s : State} (h : coreFailed k p s) (c : Nat) (g : CoreSt → CoreSt) : coreFailed k p (s.updCore c g) :=
  coreFailed_of_kept h (updCore_units _ _ _) fun _ he => he

theorem coreFailed_updPort {k p : Nat} {s : State} (h : coreFailed k p s) (c : Nat) (g : TstPorts → TstPorts) : coreFailed k p (s.updPort c g) :=
  coreFailed_of_kept h (updPort_units _ _ _) fun _ he => he

theorem coreFailed_noSpares {k p : Nat} {s : State} (h : coreFailed k p s) (c : Nat) (fix : List (Nat × Nat)) : coreFailed k p (s.noSpares c fix) :=
  coreFailed_of_kept h ((kept_noSpares (A := allBut .units) (.refl _ s) (by decide)).parts .units (by decide))
    fun _ he => (kept_noSpares (A := allButEvents) (.refl _ s) (by decide)).event (by decide) he

theorem coreFailed_mapChanged {k p : Nat} {s : State} (h : coreFailed k p s) : coreFailed k p s.mapChanged :=
  coreFailed_of_kept h ((kept_mapChanged (A := allBut .units) (.refl _ s) (by decide)).parts .units (by decide))
    fun _ he => (kept_mapChanged (A := allButEvents) (.refl _ s) (by decide)).event (by decide) he

theorem coreFailed_checkNext {k p : Nat} {s : State} (h : coreFailed k p s) (r : Nat) : coreFailed k p (s.checkNext r) :=
  coreFailed_of_kept h ((kept_checkNext (A := allBut .units) (.refl _ s) (by decide)).parts .units (by decide))
    fun _ he => (kept_checkNext (A := allButEvents) (.refl _ s) (by decide)).event (by decide) he

/-- A unit that fails its test at bring-up, past the stages whose events wait, has 0x7030 on its way. -/
theorem mem_bootFail_transit (p : Nat) : ∃ e ∈ (s.bootFail p false).transit, e.code = 0x7030 ∧ e.puid = p := by
  unfold State.bootFail
  dsimp only
  rw [if_neg Bool.false_ne_true]
  obtain ⟨e, hmem, hcode, hpuid, -⟩ := mem_raiseHist_transit s.draw.draw (s.draw.draw.bootEntry p) 0x7030 p (s.testCode p) (Config.openVal s.draw.fresh) 0
  exact ⟨e, hmem, hcode, hpuid⟩

/-- A core whose load has failed has failed. -/
theorem loadFailed_coreFailed (k p : Nat) : coreFailed k p (s.loadFailed k p) := by
  have hfail : coreFailed k p ((s.bootFail (puCore k p) false).updUnit (puCore k p) (fun u => { u with off := true })) := by
    exact ⟨by rw [unit_updUnit_same], by rw [updUnit_transit]; exact mem_bootFail_transit s _⟩
  unfold State.loadFailed
  dsimp only
  exact coreFailed_mapChanged (coreFailed_noSpares (coreFailed_updPort (coreFailed_updCore hfail _ _) _ _) _ _)

/-- A clean end of a scan that a load asked for fails the core of that load. -/
theorem checkEnded_coreFailed {r : Nat} {k : Nat} {p : CoreId} (hq : s.fw.checks.find? (·.1 == r) = some (r, ckey k p.val + 1)) :
    coreFailed k p.val (s.checkEnded r 0) := by
  have hp : p.val < 1024 := p.isLt
  unfold State.checkEnded
  rw [hq]
  dsimp only
  rw [if_neg (by decide), if_neg (Nat.succ_ne_zero _), Nat.add_sub_cancel, show ckey k p.val / 1024 = k by unfold ckey; omega,
    show ckey k p.val % 1024 = p.val by unfold ckey; omega]
  exact loadFailed_coreFailed _ _ _

/-- A scan line leaves firmware's own state. -/
theorem scanLineDone_fw (v : ScanUnit) (data : List Byte) (err : ReadErr) : (scanLineDone s v data err).fw = s.fw :=
  (kept_scanLineDone (A := allBut .fw) (.refl _ s) (by decide)).parts .fw (by decide)

/-- A line that ends a scan of a store that firmware had asked for is acted on, and the next scan of the store begins. -/
theorem scanLineNext_store {r : RegionId} {data : List Byte} {err : ReadErr} (hb : (s.scan (uCEL (storeCellar r.val))).busy = true)
    (ho : (s.scan (uCEL (storeCellar r.val))).origin = 1) (hend : ((scanLineDone s (storeEngine r.val) data err).scan (uCEL (storeCellar r.val))).busy = false) :
    scanLineNext s (storeEngine r.val) data err = ((scanLineDone s (storeEngine r.val) data err).checkEnded r.val
      ((scanLineDone s (storeEngine r.val) data err).rd (uCEL (storeCellar r.val)) CKU_SCAN_STAT_CODE)).checkNext r.val := by
  unfold scanLineNext
  dsimp only
  rw [scanUnit_storeEngine r.isLt, hb, hend, find_storeCellar r, ho]
  rfl

/-- Settles O38, clause by clause: a restart's own fields, a stage's report or stop, a bad load and the scan that follows it. -/
theorem bootAndLoads : Obligations.BootAndLoads := by
  unfold Obligations.BootAndLoads
  intro s
  refine ⟨?power, fun res s1 stop h0 h11 hrun hwork => ⟨?passes, ?stops⟩, ?hangs, ?notYet, fun k p him hoff habs hlog => ⟨?good, ?first, ?again⟩, ?ended⟩
  case power => exact ⟨_, rfl, rfl, rfl, rfl, rfl, rfl, rfl, rfl, rfl⟩
  case passes =>
    intro hstop hwhy
    have hgo : bringupStage s res = s1.bootReport s.fw.stage (reported res) := by
      subst hstop
      exact (bringupStage_running h0 h11 hrun hwork).trans (if_neg (fun h => h hwhy))
    exact runs_of_exec rfl hgo ⟨bootReport_stage _ _ _, bootReport_shown _ h11 _⟩
  case stops =>
    intro hstop
    have hgo := bringupStage_running h0 h11 hrun hwork
    rw [if_pos hstop] at hgo
    replace hgo := hgo.trans (if_pos hstop)
    refine runs_of_exec rfl hgo ⟨bootStop_stopped _ _ _ _ _, ?_⟩
    rw [bootStop_fw]
    split <;> rfl
  case hangs =>
    intro h2 hrun
    exact runs_of_exec rfl (if_neg (by rw [hrun, h2]; decide)) rfl
  case notYet => exact fun h2 => runs_of_exec rfl (if_pos (.inl h2)) rfl
  case good => exact runs_of_exec rfl (bootLoadDone_of_load him hoff habs hlog false) rfl
  case first =>
    intro hnew
    exact runs_of_exec rfl (((bootLoadDone_of_load him hoff habs hlog true).trans (if_neg (by decide))).trans (if_pos (by rw [hnew]; rfl))) rfl
  case again =>
    intro hold
    refine runs_of_exec rfl (((bootLoadDone_of_load him hoff habs hlog true).trans (if_neg (by decide))).trans (if_neg (by rw [hold]; decide))) ?_
    exact ⟨congrArg FwSt.badLoads (checkNext_fw _ _), congrArg FwSt.checks (checkNext_fw _ _),
      fun hfree => askCheck_origin (noteLoads s (s.fw.badLoads.filter (· != ckey k.val p.val))) (regionOfCluster_lt k) hfree _⟩
  case ended =>
    intro r k p data err s1 v u hs1 hb ho hend hcode hq
    subst hs1
    refine runs_of_exec rfl (scanLineNext_store s hb ho hend) (coreFailed_checkNext ?_ _)
    rw [hcode]
    exact checkEnded_coreFailed _ (by rw [scanLineDone_fw]; exact hq)

end Sys2Proof.Machine
end

section
/-! Events raised at most once in a cut epoch, and what an operation keeps of them and of time (R26, R157, R192). -/
namespace Sys2Proof.Machine
open Sys2Proof Host Sys2Proof.Claims
variable (s : State)

/-- What an operation keeps of wall time and of the clocks that are lost, it keeps of the events raised. -/
theorem Kept.event_eq {A : Nat} {s t : State} (h : Kept A s t) (hr : A.testBit Part.refLost.bit = false) (hw : A.testBit Part.wall.bit = false)
    (code p x y z : Nat) : Claims.event t code p x y z = Claims.event s code p x y z := by
  have hlost : t.refLost = s.refLost := h.parts .refLost hr
  unfold Claims.event State.timeIn
  rw [hlost, now_of_wall s (h.parts .wall hw)]

/-- The first event of its source, code and key in an epoch is on its way. -/
theorem mem_raiseOnce_transit {s : State} {key c p : Nat} (h : s.marks.contains (p, c, key) = false) (x y z : Nat) :
    event s c p x y z ∈ (s.raiseOnce key c p x y z).transit := by
  rw [raiseOnce_transit s h]
  exact List.mem_append_right _ (List.mem_singleton_self _)

/-- An event raised once in an epoch marks its own source, code and key alone. -/
theorem raiseOnce_marks_other {m : Nat × Nat × Nat} {key c p : Nat} (h : m ≠ (p, c, key)) (x y z : Nat) :
    (s.raiseOnce key c p x y z).marks.contains m = s.marks.contains m := by
  unfold State.raiseOnce
  split
  · rfl
  · show ((p, c, key) :: s.marks).contains m = _
    rw [List.contains_cons, beq_false_of_ne h, Bool.false_or]

/-- A trace record marks no event but 0x9040. -/
theorem trace_marks_other {m : Nat × Nat × Nat} (h : m.2.1 ≠ 0x9040) (k cls type : Nat) (core : Option Nat) (d : Option Desc) (param : Nat) :
    (s.trace k cls type core d param).marks.contains m = s.marks.contains m := by
  unfold State.trace
  split
  · rfl
  · unfold State.tracePut
    extract_lets g us level gap why
    split
    · rw [raiseOnce_marks_other _ (fun e => h (congrArg (·.2.1) e)), count_marks, updSeg_marks]
    · rfl

end Sys2Proof.Machine
end

section
/-! Taps: when a port's presentation takes effect, and what an issue cycle, an accumulation that closes and a presentation do then (R164-R169, R183, R188, R602). -/
namespace Sys2Proof.Machine
open Sys2Proof Host Sys2Proof.Claims
variable (s : State)

/-- Time on a Tap leaves the declared latencies. -/
theorem tapTo_variant (k p cyc rank : Nat) : (s.tapTo k p cyc rank).variant = s.variant :=
  (kept_tapTo (A := allBut .variant) (.refl _ s) (by decide)).parts .variant (by decide)

theorem tapTo_tapLag (k p cyc rank : Nat) : (s.tapTo k p cyc rank).tapLag = s.tapLag := by
  unfold State.tapLag State.latency
  rw [tapTo_variant]

/-- What the slowest port shows takes effect at once, behind what is ready by then. -/
theorem tapPort_slowest {s : State} {lat : Nat} (h : lat = s.tapLag) (k p cyc : Nat) (x : TapIn) :
    s.tapPort k p cyc lat x = (s.tapTo k p cyc x.rank).tapAct k p (cyc - lat) x := by
  unfold State.tapPort
  exact if_pos (h.trans (tapTo_tapLag s k p cyc x.rank).symm)

/-- What an earlier port shows is held by the cycle that it describes. -/
theorem tapPort_held {s : State} {lat : Nat} (h : lat ≠ s.tapLag) (k p cyc : Nat) (x : TapIn) :
    s.tapPort k p cyc lat x =
      (s.tapTo k p cyc x.rank).updTap (ckey k p) (fun t => { t with held := insertHeld (cyc - lat, x) t.held }) := by
  unfold State.tapPort
  exact if_neg (fun e => h (e.trans (tapTo_tapLag s k p cyc x.rank)))

/-- Time on a Tap leaves wall time, so that an event raised at its end is one raised now. -/
theorem tapTo_event (k p cyc rank code q x y z : Nat) : event (s.tapTo k p cyc rank) code q x y z = event s code q x y z :=
  (kept_tapTo (A := 134219320) (.refl _ s) (by decide)).event_eq (by decide) (by decide) code q x y z

/-- An invocation in progress in a cycle is one of the Tap's. -/
theorem mem_of_invAt {t : TapSt} {c : Nat} {v : Inv} (h : invAt t c = some v) : v ∈ t.invs := List.mem_of_find?_eq_some h

/-! An issue cycle. -/

/-- An issue cycle of no invocation does nothing. -/
theorem tapIssue_idle {s : State} {k p c : Nat} (h : invAt (s.tap (ckey k p)) c = none) (iss : IssueCycle) : s.tapIssue k p c iss = s := by
  unfold State.tapIssue
  rw [h]

/-- One of the two operand formats is none that a product may have (R602). -/
def fmtUnknown (iss : IssueCycle) : Bool := (numFmt iss.fmtA.toNat).isNone || (numFmt iss.fmtX.toNat).isNone
theorem fmtUnknown_iff {iss : IssueCycle} : fmtUnknown iss = true ↔ numFmt iss.fmtA.toNat = none ∨ numFmt iss.fmtX.toNat = none := by
  unfold fmtUnknown
  rw [Bool.or_eq_true, Option.isNone_iff_eq_none, Option.isNone_iff_eq_none]

/-- The lanes of an issue cycle's formats. -/
def issueLanes (iss : IssueCycle) : Nat := min (fmtLanes iss.fmtA.toNat) (fmtLanes iss.fmtX.toNat)

/-- An issue cycle counted in its invocation. -/
def issueCounted (k p c : Nat) (v : Inv) (iss : IssueCycle) : State :=
  s.updInv k p v.start (fun w => { w with
    ks := (c, iss.lanes.length) :: v.ks.filter (fun e => decide (c ≤ e.1 + 15)), products := w.products + iss.lanes.length
    prods := w.prods.filter (fun a => a.seq != iss.seq.toNat) })
theorem issueCounted_event (k p c : Nat) (v : Inv) (iss : IssueCycle) (code q x y z : Nat) :
    event (issueCounted s k p c v iss) code q x y z = event s code q x y z := rfl

/-- A format that no product may have is told of. -/
def formatTold (k p : Nat) (v : Inv) (iss : IssueCycle) : State :=
  if fmtUnknown iss then
    s.raiseOnce 0 0x2011 (puTap k p) v.cmd 1 (if (numFmt iss.fmtA.toNat).isNone then iss.fmtA.toNat else iss.fmtX.toNat)
  else s
/-- More products than a limited core may issue are told of. -/
def limitTold (k p : Nat) (v : Inv) (iss : IssueCycle) : State :=
  if v.limited && decide (issueLanes iss / 4 < iss.lanes.length) then
    s.raiseOnce 0 0x2012 (puTap k p) v.cmd iss.lanes.length (issueLanes iss / 4)
  else s

/-- An issue cycle with a valid lane is counted, its format and its limit are looked at, and its products follow. -/
theorem tapIssue_of_inv {s : State} {k p c : Nat} {v : Inv} {iss : IssueCycle} (hv : invAt (s.tap (ckey k p)) c = some v)
    (hc : s.tapChecks k p = true) (hl : iss.lanes ≠ []) :
    s.tapIssue k p c iss = (limitTold (formatTold (issueCounted s k p c v iss) k p v iss) k p v iss).each iss.lanes (fun s l =>
      s.tapProduct k p v.start (peak ((c, iss.lanes.length) :: v.ks.filter (fun e => decide (c ≤ e.1 + 15))) c) (issueLanes iss) (fmtUnknown iss)
        (!fmtUnknown iss && (fmtWide iss.fmtA.toNat || fmtWide iss.fmtX.toNat)) c iss l) := by
  unfold State.tapIssue
  rw [hv]
  dsimp only
  rw [hc, if_neg (by simp [hl])]
  rfl

/-- A format that no product may have raises 0x2011 with its code. -/
theorem mem_formatTold_transit {s : State} {k p : Nat} {v : Inv} {iss : IssueCycle} (hu : fmtUnknown iss = true)
    (hm : s.marks.contains (puTap k p, 0x2011, 0) = false) :
    event s 0x2011 (puTap k p) v.cmd 1 (if (numFmt iss.fmtA.toNat).isNone then iss.fmtA.toNat else iss.fmtX.toNat) ∈ (formatTold s k p v iss).transit := by
  unfold formatTold
  rw [if_pos hu]
  exact mem_raiseOnce_transit hm _ _ _

/-- More products than a quarter of the lanes under a limit raise 0x2012 with the count and the quarter. -/
theorem mem_limitTold_transit {s : State} {k p : Nat} {v : Inv} {iss : IssueCycle} (hlim : v.limited = true)
    (hn : issueLanes iss / 4 < iss.lanes.length) (hm : s.marks.contains (puTap k p, 0x2012, 0) = false) :
    event s 0x2012 (puTap k p) v.cmd iss.lanes.length (issueLanes iss / 4) ∈ (limitTold s k p v iss).transit := by
  unfold limitTold
  rw [if_pos (by rw [hlim, decide_eq_true hn]; rfl)]
  exact mem_raiseOnce_transit hm _ _ _

/-- What a look at the format leaves: 0x2011 is the one event that it marks, and it takes none back. -/
theorem formatTold_marks_other {m : Nat × Nat × Nat} (h : m.2.1 ≠ 0x2011) (k p : Nat) (v : Inv) (iss : IssueCycle) :
    (formatTold s k p v iss).marks.contains m = s.marks.contains m := by
  unfold formatTold
  split
  · exact raiseOnce_marks_other s (fun e => h (by rw [e])) _ _ _
  · rfl

theorem formatTold_kept (k p : Nat) (v : Inv) (iss : IssueCycle) : Kept 1560 s (formatTold s k p v iss) :=
  .ite (kept_raiseOnce (.refl _ s) (by decide)) (.refl _ s)

theorem limitTold_kept (k p : Nat) (v : Inv) (iss : IssueCycle) : Kept 1560 s (limitTold s k p v iss) :=
  .ite (kept_raiseOnce (.refl _ s) (by decide)) (.refl _ s)

/-- An event told of before an issue cycle's products is still on its way behind them. -/
theorem mem_tapIssue_transit {s : State} {k p c : Nat} {v : Inv} {iss : IssueCycle} (hv : invAt (s.tap (ckey k p)) c = some v)
    (hc : s.tapChecks k p = true) (hl : iss.lanes ≠ []) {e : Ev}
    (he : e ∈ (limitTold (formatTold (issueCounted s k p c v iss) k p v iss) k p v iss).transit) : e ∈ (s.tapIssue k p c iss).transit := by
  rw [tapIssue_of_inv hv hc hl]
  exact (kept_each (A := allButEvents) (.refl _ _) fun _ _ h => kept_tapProduct h (by decide)).event (by decide) he

/-- An issue cycle of a format that no product may have has 0x2011 on its way. -/
theorem mem_tapIssue_format {s : State} {k p c : Nat} {v : Inv} {iss : IssueCycle} (hv : invAt (s.tap (ckey k p)) c = some v)
    (hc : s.tapChecks k p = true) (hl : iss.lanes ≠ []) (hu : fmtUnknown iss = true) (hm : s.marks.contains (puTap k p, 0x2011, 0) = false) :
    event s 0x2011 (puTap k p) v.cmd 1 (if (numFmt iss.fmtA.toNat).isNone then iss.fmtA.toNat else iss.fmtX.toNat) ∈ (s.tapIssue k p c iss).transit := by
  refine mem_tapIssue_transit hv hc hl ((limitTold_kept _ _ _ _ _).event (by decide) ?_)
  rw [← issueCounted_event s k p c v iss]
  exact mem_formatTold_transit hu hm

/-- An issue cycle of more products than its limit allows has 0x2012 on its way. -/
theorem mem_tapIssue_limit {s : State} {k p c : Nat} {v : Inv} {iss : IssueCycle} (hv : invAt (s.tap (ckey k p)) c = some v)
    (hc : s.tapChecks k p = true) (hlim : v.limited = true) (hn : issueLanes iss / 4 < iss.lanes.length)
    (hm : s.marks.contains (puTap k p, 0x2012, 0) = false) :
    event s 0x2012 (puTap k p) v.cmd iss.lanes.length (issueLanes iss / 4) ∈ (s.tapIssue k p c iss).transit := by
  have hl : iss.lanes ≠ [] := List.ne_nil_of_length_pos (Nat.zero_lt_of_lt hn)
  refine mem_tapIssue_transit hv hc hl ?_
  rw [← issueCounted_event s k p c v iss, ← (formatTold_kept (issueCounted s k p c v iss) k p v iss).event_eq (by decide) (by decide)]
  exact mem_limitTold_transit hlim hn ((formatTold_marks_other _ (show 0x2012 ≠ 0x2011 by decide) k p v iss).trans hm)

/-! An accumulation that closes. -/

/-- An index that nothing opened is compared with zero. -/
theorem tapClose_unopened {s : State} {k p c idx : Nat} {v : Inv} {acc e : Int} (hv : invAt (s.tap (ckey k p)) c = some v) (hc : s.tapChecks k p = true)
    (ho : v.accs.find? (fun a => a.idx == idx && a.closed.isNone) = none) (hr : resRot (rho ⟨acc, 0⟩) e ≠ 0) :
    s.tapClose k p c idx acc e =
      ((s.updInv k p v.start (fun v => { v with leafSum := (v.leafSum + resRot (rho ⟨acc, 0⟩) e) % resMod })).tapLatch k p v.cmd (.exact ⟨acc, e⟩)).tapMismatch
        k p v.start 1 0 (resRot (rho ⟨acc, 0⟩) e) 0x3FFF 0 idx 7 (.acc [] true idx 0x7F 0x7F acc e) := by
  unfold State.tapClose
  rw [hv]
  dsimp only
  rw [hc, if_neg (by decide), ho]
  exact if_neg hr

/-- An open accumulation closes with its value, and a covered one counts in the closure. -/
theorem tapClose_open {s : State} {k p c idx : Nat} {v : Inv} {acc e : Int} {a : AccUnit} (hv : invAt (s.tap (ckey k p)) c = some v)
    (hc : s.tapChecks k p = true) (ho : v.accs.find? (fun a => a.idx == idx && a.closed.isNone) = some a) :
    s.tapClose k p c idx acc e =
      (((s.updAcc k p v.start idx (fun a => { a with closed := some (acc, e) })).updInv k p v.start
        (fun v => { v with leafSum := (v.leafSum + if a.covered then resRot (rho ⟨acc, 0⟩) (e + a.sa + a.sx - 254) else 0) % resMod })).tapLatch
          k p v.cmd (.exact ⟨acc, e + a.sa + a.sx - 254⟩)).tapSettle k p := by
  unfold State.tapClose
  rw [hv]
  dsimp only
  rw [hc, if_neg (by decide), ho]

/-- A latch of a repeat's result leaves the invocations. -/
theorem tapLatch_invs (k p cmd : Nat) (x : CaseVal) : ((s.tapLatch k p cmd x).tap (ckey k p)).invs = (s.tap (ckey k p)).invs := by
  unfold State.tapLatch
  split
  · rw [tap_updTap_same]
  · rfl

/-- A change of an invocation that leaves its first cycle leaves an invocation of that first cycle there. -/
theorem find_start_updInv {k p : Nat} {v : Inv} (hv : v ∈ (s.tap (ckey k p)).invs) {f : Inv → Inv} (hf : ∀ w, (f w).start = w.start) :
    (((s.updInv k p v.start f).tap (ckey k p)).invs.find? (fun w => w.start == v.start)).isSome = true := by
  unfold State.updInv
  rw [tap_updTap_same, List.find?_isSome]
  exact ⟨f v, List.mem_map.mpr ⟨v, hv, if_pos rfl⟩, by rw [hf]; exact beq_self_eq_true _⟩

theorem rd_updTap (q u : Nat) (f : TapSt → TapSt) (F : Fld) : (s.updTap q f).rd u F = s.rd u F := rfl
theorem rd_updInv (k p st u : Nat) (f : Inv → Inv) (F : Fld) : (s.updInv k p st f).rd u F = s.rd u F := rfl

/-- A mismatch is shown as the last one, with its kind and its observed residue. -/
theorem tapMismatch_shown {s : State} {k p st : Nat} (h : ((s.tap (ckey k p)).invs.find? (fun w => w.start == st)).isSome = true)
    (rkind pred obs pos seq idx port : Nat) (cap : Capture) :
    (s.tapMismatch k p st rkind pred obs pos seq idx port cap).rd (uTAP k p) TAP_RES_LAST_RKIND = rkind % 2 ^ 4 ∧
    (s.tapMismatch k p st rkind pred obs pos seq idx port cap).rd (uTAP k p) TAP_RES_LAST_OBS = obs % 2 ^ 13 := by
  obtain ⟨w, hw⟩ := Option.isSome_iff_exists.mp h
  unfold State.tapMismatch
  rw [hw]
  dsimp only
  constructor
  all_goals
    split
    all_goals
      simp (disch := decide) only [rd_updTap, rd_updInv, rd_wr_apart, rd_wr_same]
      rfl

/-! The three ports of a Tap, as commands: what the slowest one shows takes effect at once. -/

theorem exec_productIssue_slowest {s : State} (h : s.latency 0 = s.tapLag) (k : ClusterId) (p : CoreId) (cyc : Nat) (iss : IssueCycle) :
    exec (.productIssue k p cyc iss) s = .next ((s.tapTo k.val p.val cyc 0).tapIssue k.val p.val (cyc - s.latency 0) iss) :=
  congrArg Outcome.next (tapPort_slowest h k.val p.val cyc (.product iss))

theorem exec_accumulationClose_slowest {s : State} (h : s.latency 1 = s.tapLag) (k : ClusterId) (p : CoreId) (cyc : Nat) (idx : Fin 64)
    (acc : BitVec 96) (e : BitVec 10) : exec (.accumulationClose k p cyc idx acc e) s =
      .next ((s.tapTo k.val p.val cyc 1).tapClose k.val p.val (cyc - s.latency 1) idx.val acc.toInt e.toInt) :=
  congrArg Outcome.next (tapPort_slowest h k.val p.val cyc (.close idx.val acc.toInt e.toInt))

theorem exec_discardPresentation_slowest {s : State} (h : s.latency 2 = s.tapLag) (k : ClusterId) (p : CoreId) (cyc : Nat) (port : Fin 6)
    (pres : DscPres) : exec (.discardPresentation k p cyc port pres) s =
      .next ((s.tapTo k.val p.val cyc 2).tapPresent k.val p.val (cyc - s.latency 2) port.val pres) :=
  congrArg Outcome.next (tapPort_slowest h k.val p.val cyc (.present port.val pres))

/-- Settles O7, clause by clause: the Tap's time, an issue cycle, and an accumulation that closes. -/
theorem tapChecks : Obligations.TapChecks := by
  unfold Obligations.TapChecks
  intro k p cyc s q
  refine ⟨⟨_, rfl, rfl⟩, fun iss => ⟨?early, fun hlag => ⟨?idle, fun v hv hc => ⟨?format, ?limit⟩⟩⟩,
    fun idx acc e => ⟨?held, fun v hlag hv hc => ⟨?unopened, ?opened⟩⟩⟩
  case early => exact fun hlag => ⟨_, rfl, tapPort_held hlag _ _ _ _⟩
  case idle => exact fun hv => runs_of_exec (exec_productIssue_slowest hlag k p cyc iss) (tapIssue_idle hv iss) rfl
  case format =>
    intro hl hu hm
    refine runs_of_exec (exec_productIssue_slowest hlag k p cyc iss) rfl ?_
    rw [← tapTo_event s k.val p.val cyc 0]
    exact mem_tapIssue_format hv hc hl (fmtUnknown_iff.mpr hu) hm
  case limit =>
    intro hlim hn hm
    refine runs_of_exec (exec_productIssue_slowest hlag k p cyc iss) rfl ?_
    rw [← tapTo_event s k.val p.val cyc 0]
    exact mem_tapIssue_limit hv hc hlim hn hm
  case held => exact fun hlag => ⟨_, rfl, tapPort_held hlag _ _ _ _⟩
  case unopened =>
    intro ho hr
    refine runs_of_exec (exec_accumulationClose_slowest hlag k p cyc idx acc e) (tapClose_unopened hv hc ho hr) (tapMismatch_shown ?_ _ _ _ _ _ _ _ _)
    rw [tapLatch_invs]
    exact find_start_updInv _ (mem_of_invAt hv) fun _ => rfl
  case opened =>
    exact fun a ho => runs_of_exec (exec_accumulationClose_slowest hlag k p cyc idx acc e) (tapClose_open hv hc ho) rfl

end Sys2Proof.Machine
end

section
/-! Reports of a Tap at its Taster, and discard presentations that are not checked (R85, R167, R175, R176, R185, R187, R190-R192, R231, R236, R265, R410). -/
namespace Sys2Proof.Machine
open Sys2Proof Host Sys2Proof.Claims
variable (s : State)

/-- What leaves the table of Taps leaves each Tap. -/
theorem Kept.tap_eq {s t : State} (h : Kept (allBut .taps) s t) (q : Nat) : t.tap q = s.tap q := tap_congr s (h.parts .taps (by decide)) q

/-- An item that arrives on a channel is noted on the channel alone. -/
theorem item_kept (c : Nat) : Kept 562949953421312 s (s.item c) := kept_item (.refl _ s) (by decide)
theorem item_tap (c q : Nat) : (s.item c).tap q = s.tap q := tap_congr s ((item_kept s c).parts .taps (by decide)) q
theorem item_thmOf (c r : Nat) : (s.item c).thmOf r = s.thmOf r := thmOf_congr s ((item_kept s c).parts .thm (by decide)) r
theorem item_marks (c : Nat) : (s.item c).marks = s.marks := (item_kept s c).parts .marks (by decide)

/-- A Taster that is not held takes the second of its two ways (R404, R576). -/
theorem if_notHeld {s : State} {k : Nat} (h : s.checkHeld k 0 = false) (a b : State) : (if s.checkHeld k 0 = true then a else b) = b :=
  if_neg (by rw [h]; exact Bool.false_ne_true)

/-! An alarm. -/

/-- The oldest alarm taken by its Taster, counted and traced (R187, R190). -/
def alarmTaken (k p : Nat) (a : Alarm) (as : List Alarm) : State :=
  let t := s.updTap (ckey k p) (fun t => { t with alarms := as })
  ((t.count (uTST ((t.checker k).getD k)) TST_RES_ALARMS_COUNT).bankCount k 14 1 (some (t.binOf k a.cmd))).trace k 2 0x10 (some p) (t.descOf k a.cmd)
    (a.cmd * 2 ^ 18 + a.rkind * 2 ^ 14 + a.pos)
/-- The alarm told of (R191, R192). -/
def alarmTold (k p : Nat) (a : Alarm) (as : List Alarm) : State :=
  (alarmTaken s k p a as).raiseOnce 0 (0x2000 + a.rkind) (puTap k p) (a.cmd * 2 ^ 18 + a.rkind * 2 ^ 14 + a.pos) (a.pred * 2 ^ 13 + a.obs)
    ((((s.updTap (ckey k p) (fun t => { t with alarms := as })).descOf k a.cmd).map (fun d => d.layer * 2 ^ 16 + d.op)).getD 0)

/-- Behind what an alarm tells of, its case and its repeat leave the Taps and take no event back. -/
theorem residueAlarm_kept {s : State} {k p : Nat} {a : Alarm} {as : List Alarm} (h : (s.tap (ckey k p)).alarms = a :: as) :
    Kept (allBut .taps) (alarmTold s k p a as) (residueAlarm s k p) := by
  unfold residueAlarm
  split
  next hnil => exact absurd (h.symm.trans hnil) (List.cons_ne_nil _ _)
  next a' as' hcons =>
  obtain ⟨rfl, rfl⟩ := List.cons.inj (h.symm.trans hcons)
  extract_lets s1 h d lo s2 s3 told c gated failed r
  have hfail : Kept (allBut .taps) told failed := .ite (kept_updRcmd (.refl _ told) (by decide)) (.refl _ told)
  have hcase : Kept (allBut .taps) told r.1 := (kept_openCase hfail (by decide)).fst
  exact .ite (kept_repeatAlarm (.refl _ told) (by decide)) (.ite (kept_updRcmd hcase (by decide)) hcase)

/-- A trace record and the counters mark no alarm's event. -/
theorem alarmTaken_marks (k p : Nat) (a : Alarm) (as : List Alarm) :
    (alarmTaken s k p a as).marks.contains (puTap k p, 0x2000 + a.rkind, 0) = s.marks.contains (puTap k p, 0x2000 + a.rkind, 0) := by
  have hkind : a.rkind < 2 ^ 4 := BitVec.isLt _
  have hcode : 0x2000 + a.rkind ≠ 0x9040 := by omega
  unfold alarmTaken
  dsimp only
  rw [trace_marks_other _ hcode]
  congr 1
  exact (kept_bankCount (A := 48) (kept_count (.refl _ _) (by decide)) (by decide)).parts .marks (by decide)

/-- An alarm that its Taster takes leaves the list. -/
theorem residueAlarm_alarms {s : State} {k p : Nat} {a : Alarm} {as : List Alarm} (h : (s.tap (ckey k p)).alarms = a :: as) :
    ((residueAlarm s k p).tap (ckey k p)).alarms = as := by
  have htold : Kept (allBut .taps) (s.updTap (ckey k p) (fun t => { t with alarms := as })) (alarmTold s k p a as) :=
    kept_raiseOnce (kept_trace (kept_bankCount (kept_count (.refl _ _) (by decide)) (by decide)) (by decide)) (by decide)
  rw [(residueAlarm_kept h).tap_eq, htold.tap_eq, tap_updTap_same]

/-- The first alarm of its kind from a Tap in an epoch has its event on its way. -/
theorem mem_residueAlarm_transit {s : State} {k p : Nat} {a : Alarm} {as : List Alarm} (h : (s.tap (ckey k p)).alarms = a :: as)
    (hm : s.marks.contains (puTap k p, 0x2000 + a.rkind, 0) = false) :
    ∃ e ∈ (residueAlarm s k p).transit, e.code = 0x2000 + a.rkind ∧ e.puid = puTap k p :=
  ⟨_, (residueAlarm_kept h).event (by decide) (mem_raiseOnce_transit ((alarmTaken_marks s k p a as).trans hm) _ _ _), rfl, rfl⟩

/-! A summary and a usage report. -/

/-- A summary that no alarm of its command goes before leaves the list. -/
theorem residueSummary_taken {s : State} {k p : Nat} {y : Summary} {ys : List Summary} (h : (s.tap (ckey k p)).summaries = y :: ys)
    (ha : (s.tap (ckey k p)).alarms.any (fun a => a.cmd == y.cmd) = false) : ((residueSummary s k p).tap (ckey k p)).summaries = ys := by
  have hk : Kept (allBut .taps) (s.updTap (ckey k p) (fun t => { t with summaries := ys })) (residueSummary s k p) := by
    unfold residueSummary
    split
    next hnil => exact absurd (h.symm.trans hnil) (List.cons_ne_nil _ _)
    next y' ys' hcons =>
    obtain ⟨rfl, rfl⟩ := List.cons.inj (h.symm.trans hcons)
    rw [if_neg (by rw [ha]; exact Bool.false_ne_true)]
    extract_lets s1 h d bin b s2 s3 s4 paired told steered
    have hcount : Kept (allBut .taps) s1 s4 :=
      kept_bankCount (kept_bankCount (kept_bankCount (kept_bankCount (kept_trace (kept_count (.refl _ s1) (by decide)) (by decide)) (by decide)) (by decide))
        (by decide)) (by decide)
    have hpaired : Kept (allBut .taps) s1 paired := by
      unfold paired
      cases d with
      | none => exact hcount
      | some x => exact kept_pairReport hcount (by decide)
    have htold : Kept (allBut .taps) s1 told :=
      .ite (kept_privIncomplete (kept_raiseOnce (kept_count hpaired (by decide)) (by decide)) (by decide)) hpaired
    exact kept_pairTry (.ite (kept_steerAgain htold (by decide)) htold) (by decide)
  rw [hk.tap_eq, tap_updTap_same]

/-- A summary waits while an alarm of its command does. -/
theorem residueSummary_waits {s : State} {k p : Nat} {y : Summary} {ys : List Summary} (h : (s.tap (ckey k p)).summaries = y :: ys)
    (ha : (s.tap (ckey k p)).alarms.any (fun a => a.cmd == y.cmd) = true) : residueSummary s k p = s := by
  unfold residueSummary
  rw [h]
  exact if_pos ha

/-- A usage report leaves the list, and its products count in the region's estimate. -/
theorem usageReport_taken {s : State} {k p : Nat} {y : Usage} {ys : List Usage} (h : (s.tap (ckey k p)).usages = y :: ys) :
    ((usageReport s k p).tap (ckey k p)).usages = ys ∧
    ((usageReport s k p).thmOf (regionOfCluster k)).prod = (s.thmOf (regionOfCluster k)).prod + y.products := by
  have hk : Kept 48 ((s.updTap (ckey k p) (fun t => { t with usages := ys })).updThmOf (regionOfCluster k) (fun x => { x with prod := x.prod + y.products }))
      (usageReport s k p) := by
    unfold usageReport
    rw [h]
    exact kept_bankCount (kept_bankCount (kept_bankCount (kept_bankCount (kept_bankCount (kept_bankCount (.refl _ _) (by decide)) (by decide)) (by decide))
      (by decide)) (by decide)) (by decide)
  constructor
  · rw [tap_congr _ (hk.parts .taps (by decide)), tap_congr _ (updThmOf_taps _ _ _), tap_updTap_same]
  · rw [thmOf_congr _ (hk.parts .thm (by decide)), thmOf_updThmOf_same]
    rfl

/-! Presentations that are counted as skipped. -/

/-- The page bits of an event are counted at their own place. -/
theorem cnt_evt_apart {F : Fld} (h : Fld.apart F PG_EVT_RAW_CLASS = true) (u v c : Nat) : (s.evt v c).cnt u F = s.cnt u F := by
  unfold State.cnt State.evt
  cases F.bank with
  | running => rfl
  | live => exact Tab.get_put_other _ _ (fkey_apart h u v) _
  | epoch => exact Tab.get_put_other _ _ (fkey_apart h u v) _

/-- An event raised once leaves the counters but that of the page bits. -/
theorem cnt_raiseOnce_apart {F : Fld} (h : Fld.apart F PG_EVT_RAW_CLASS = true) (u key c p x y z : Nat) :
    (s.raiseOnce key c p x y z).cnt u F = s.cnt u F := by
  unfold State.raiseOnce
  split
  · exact cnt_evt_apart s h u _ _
  · exact cnt_evt_apart s h u _ _

/-- The first event of its source, code and key is on its way behind a count. -/
theorem mem_count_raiseOnce_transit {s : State} {key c p : Nat} (h : s.marks.contains (p, c, key) = false) (u : Nat) (F : Fld) (x y z : Nat) :
    event s c p x y z ∈ ((s.count u F).raiseOnce key c p x y z).transit := by
  rw [← (kept_count (A := 48) (u := u) (F := F) (.refl _ s) (by decide)).event_eq (by decide) (by decide)]
  exact mem_raiseOnce_transit (by rw [count_marks]; exact h) x y z

/-- A presentation of the reserved kind is counted as skipped and told of with reason 2. -/
theorem tapPresent_reserved {s : State} {k p c port : Nat} {pres : DscPres} {v : Inv} (hv : invAt (s.tap (ckey k p)) c = some v)
    (hc : s.tapChecks k p = true) (h3 : pres.kind.toNat = 3) : s.tapPresent k p c port pres =
      (s.count (uTAP k p) TAP_RES_SKIPPED_COUNT).raiseOnce 0 0x2011 (puTap k p) v.cmd 2 port := by
  unfold State.tapPresent
  rw [hv]
  dsimp only
  rw [hc, if_neg (by decide), if_pos h3]

/-- An atomic presentation without a finite result is counted as skipped. -/
theorem atomicDiscard_nonfinite {s : State} {k h : Nat} (hk : s.checker k = some h) {pres : DscPres} (hn : pres.nf = true) (port : Nat) :
    atomicDiscard s k port pres = s.count (uTST h) TST_ATM_SKIPPED_COUNT := by
  unfold atomicDiscard
  rw [hk]
  exact if_pos hn

/-- An atomic presentation of a format outside the port is counted as skipped and told of with reason 1. -/
theorem atomicDiscard_format {s : State} {k h : Nat} (hk : s.checker k = some h) {pres : DscPres} (hn : pres.nf = false)
    (hf : [1, 2, 3].contains pres.sfmt.toNat = false) (port : Nat) : atomicDiscard s k port pres =
      (s.count (uTST h) TST_ATM_SKIPPED_COUNT).raiseOnce 0 0x2011 (puTst h) (pres.tag.toNat % 1024) 1 pres.sfmt.toNat := by
  unfold atomicDiscard
  rw [hk]
  dsimp only
  rw [if_neg (by rw [hn]; exact Bool.false_ne_true), if_pos (by rw [hf]; rfl)]

/-- Settles O9, clause by clause: the three reports of a Tap, a Taster that is held, and the presentations on discard ports. -/
theorem tapReports : Obligations.TapReports := by
  unfold Obligations.TapReports
  intro k p s
  refine ⟨fun hfree => ⟨fun a as ha hm => ?alarm, fun y ys hy => ⟨fun ha => ?summary, fun ha => ?waits⟩, fun y ys hy => ?usage⟩,
    fun hheld => ?holds, fun cyc port pres v hlag hv hc h3 => ?reserved, fun cyc port pres hlag => ?early, fun port pres h hk => ⟨?nonfinite, ?format⟩⟩
  case alarm =>
    rw [← item_tap s (chTap k.val p.val)] at ha
    rw [← item_marks s (chTap k.val p.val)] at hm
    exact runs_of_exec rfl (if_notHeld hfree _ _) ⟨residueAlarm_alarms ha, mem_residueAlarm_transit ha hm⟩
  case summary =>
    rw [← item_tap s (chTap k.val p.val)] at hy ha
    exact runs_of_exec rfl (if_notHeld hfree _ _) (residueSummary_taken hy ha)
  case waits =>
    rw [← item_tap s (chTap k.val p.val)] at hy ha
    refine runs_of_exec rfl (if_notHeld hfree _ _) ?_
    rw [residueSummary_waits hy ha]
    exact hy
  case usage =>
    rw [← item_tap s (chTap k.val p.val)] at hy
    rw [← item_thmOf s (chTap k.val p.val)]
    exact runs_of_exec rfl (if_notHeld hfree _ _) (usageReport_taken hy)
  case holds => exact ⟨⟨_, rfl, if_pos hheld⟩, ⟨_, rfl, if_pos hheld⟩, ⟨_, rfl, if_pos hheld⟩⟩
  case reserved =>
    refine runs_of_exec (exec_discardPresentation_slowest hlag k p cyc port pres) (tapPresent_reserved hv hc h3) ⟨?_, fun hm => ?_⟩
    · rw [cnt_raiseOnce_apart _ (by decide), cnt_count_epoch _ (by decide)]
      rfl
    · rw [← tapTo_event s k.val p.val cyc 2]
      exact mem_count_raiseOnce_transit hm _ _ _ _ _
  case early => exact ⟨_, rfl, tapPort_held hlag _ _ _ _⟩
  case nonfinite =>
    exact fun hn => runs_of_exec rfl (atomicDiscard_nonfinite hk hn port.val) (cnt_count_epoch _ (by decide))
  case format =>
    intro hn hf hm
    exact runs_of_exec rfl (atomicDiscard_format hk hn hf port.val) (mem_count_raiseOnce_transit hm _ _ _ _ _)

end Sys2Proof.Machine
end

section
/-! Messages and their answers, and the requests of the host for replays, resets and postures (R361, R369, R382, R470, R471, R515, R547, R552, R555, R556). -/
namespace Sys2Proof.Machine
open Sys2Proof Host Sys2Proof.Claims
variable (s : State)

/-! Answers. -/

/-- A field that neither the host's absence nor the room of its ring is read from. -/
def Fld.offRing (G : Fld) : Bool :=
  Fld.apart MBX_STAT_ABSENT G && Fld.apart MBX_RING_CFG_ENTRIES G && Fld.apart MBX_RING_TAIL_INDEX G && Fld.apart MBX_RING_HEAD_INDEX G

/-- Whether a message is heard is read from the register table alone. -/
theorem hears_congr {s t : State} {m : Msg} (h : hears s m) (e : t.regs = s.regs) : hears t m := by
  unfold hears State.absent State.ringRoom State.isSet at h ⊢
  simp only [rd_congr s e]
  exact h

/-- A field that the ring is not read from leaves whether a message is heard. -/
theorem hears_wr {s : State} {m : Msg} (h : hears s m) {G : Fld} (hG : Fld.offRing G = true) (u v : Nat) : hears (s.wr u G v) m := by
  unfold Fld.offRing at hG
  simp only [Bool.and_eq_true] at hG
  obtain ⟨⟨⟨habs, hcfg⟩, htail⟩, hhead⟩ := hG
  unfold hears State.absent State.ringRoom State.isSet at h ⊢
  rw [rd_wr_apart s habs, rd_wr_apart s hcfg, rd_wr_apart s htail, rd_wr_apart s hhead]
  exact h

/-- The page bits of an event leave whether a message is heard. -/
theorem hears_evt {s : State} {m : Msg} (h : hears s m) (u c : Nat) : hears (s.evt u c) m := by
  unfold State.evt
  split
  · exact hears_wr h (G := PG_EVT_CLASS) (by decide) u _
  · exact hears_congr h rfl

theorem hears_raiseOnce {s : State} {m : Msg} (h : hears s m) (key c p x y z : Nat) : hears (s.raiseOnce key c p x y z) m := by
  unfold State.raiseOnce
  split
  · exact hears_evt h _ _
  · exact hears_congr (hears_evt h _ _) rfl

/-- The answer to a message that is heard waits for the ring. -/
theorem told_answer {s : State} {m : Msg} (h : hears s m) (status : Nat) (fs : List (Nat × Nat)) : told (s.answer m status fs) m status := by
  obtain ⟨habs, hroom, hslot, hquiet⟩ := h
  unfold State.answer
  dsimp only
  rw [if_neg hslot, if_neg (by omega)]
  unfold State.cpl
  rw [habs, hroom, if_neg Bool.false_ne_true, if_neg (by rw [Bool.not_true, Bool.false_and]; exact Bool.false_ne_true)]
  exact ⟨_, List.mem_append_right _ (List.mem_singleton_self _), rfl, rfl, rfl, rfl, rfl⟩

/-- The refusal of a message that is heard waits for the ring. -/
theorem told_refuse {s : State} {m : Msg} (h : hears s m) (status : Nat) : told (s.refuse m status) m status := by
  unfold State.refuse
  exact told_answer (hears_raiseOnce (hears_congr h (count_regs _ _ _ _ _)) _ _ _ _ _ _) _ _

/-- A field that neither an answer nor an event writes. -/
def Fld.offAnswer (F : Fld) : Bool :=
  Fld.apart F MBX_STAT_PENDING && Fld.apart F MBX_STAT_HELD && Fld.apart F MBX_ABS_DROP_COUNT && Fld.apart F MBX_RING_DROP_COUNT && Fld.apart F PG_EVT_CLASS

theorem rd_mbxCounts {F : Fld} (h : Fld.offAnswer F = true) (u : Nat) : s.mbxCounts.rd u F = s.rd u F := by
  unfold Fld.offAnswer at h
  simp only [Bool.and_eq_true] at h
  obtain ⟨⟨⟨⟨hp, hh⟩, _⟩, _⟩, _⟩ := h
  unfold State.mbxCounts
  rw [rd_wr_apart _ hh, rd_wr_apart _ hp]

/-- A completion writes the mailbox's own counts and the page bits. -/
theorem rd_cpl {F : Fld} (h : Fld.offAnswer F = true) (u : Nat) (c : Cpl) : (s.cpl c).rd u F = s.rd u F := by
  have hall := h
  unfold Fld.offAnswer at hall
  simp only [Bool.and_eq_true] at hall
  obtain ⟨⟨⟨⟨_, _⟩, habs⟩, hdrop⟩, hevt⟩ := hall
  unfold State.cpl
  split
  · split
    · rw [rd_mbxCounts _ h]; rfl
    · rw [rd_bump_apart _ habs]; rfl
  · split
    · rw [rd_raise_apart _ hevt, rd_bump_apart _ hdrop]; rfl
    · rw [rd_mbxCounts _ h]; rfl

theorem rd_answer {F : Fld} (h : Fld.offAnswer F = true) (u : Nat) (m : Msg) (status : Nat) (fs : List (Nat × Nat)) :
    (s.answer m status fs).rd u F = s.rd u F := by
  unfold State.answer
  dsimp only
  split
  · refine rd_congr s ?_ u F 0
    exact (kept_mctpOut (A := allBut .regs) (.refl _ s) (by decide)).parts .regs (by decide)
  · split
    · rfl
    · exact rd_cpl s h u _

theorem rd_raiseOnce_apart {F : Fld} (h : Fld.apart F PG_EVT_CLASS = true) (u key c p x y z : Nat) : (s.raiseOnce key c p x y z).rd u F = s.rd u F := by
  unfold State.raiseOnce
  split
  · exact rd_evt_apart s h u _ _
  · exact rd_evt_apart s h u _ _

theorem rd_refuse {F : Fld} (h : Fld.offAnswer F = true) (u : Nat) (m : Msg) (status : Nat) : (s.refuse m status).rd u F = s.rd u F := by
  have hevt : Fld.apart F PG_EVT_CLASS = true := by
    unfold Fld.offAnswer at h
    exact (Bool.and_eq_true _ _ ▸ h).2
  unfold State.refuse
  rw [rd_answer _ h, rd_raiseOnce_apart _ hevt, rd_congr s (count_regs _ _ _ _ _)]

/-- An answer leaves the recorder's and the replays' own state. -/
theorem answer_kept (m : Msg) (status : Nat) (fs : List (Nat × Nat)) : Kept 1441151880758561304 s (s.answer m status fs) :=
  kept_answer (.refl _ s) (by decide)

theorem answer_prv (m : Msg) (status : Nat) (fs : List (Nat × Nat)) : (s.answer m status fs).prv = s.prv :=
  (answer_kept s m status fs).parts .prv (by decide)
theorem answer_resets (m : Msg) (status : Nat) (fs : List (Nat × Nat)) : (s.answer m status fs).resets = s.resets :=
  (answer_kept s m status fs).parts .resets (by decide)
theorem answer_port (m : Msg) (status : Nat) (fs : List (Nat × Nat)) (k : Nat) : (s.answer m status fs).port k = s.port k :=
  port_congr s ((answer_kept s m status fs).parts .ports (by decide)) k
theorem answer_replayOf (m : Msg) (status : Nat) (fs : List (Nat × Nat)) (k : Nat) : (s.answer m status fs).replayOf k = s.replayOf k :=
  replayOf_congr s ((answer_kept s m status fs).parts .replays (by decide)) k

theorem answer_now (m : Msg) (status : Nat) (fs : List (Nat × Nat)) : (s.answer m status fs).now = s.now :=
  now_of_wall s ((answer_kept s m status fs).parts .wall (by decide))

/-- The oldest message of a type is taken from the queue and carried out. -/
theorem onMsg_first {s : State} {type : Nat} {m : Msg} (h : first s type m) (f : State → Msg → State) : s.onMsg type f = f (inHand s m) m := by
  unfold State.onMsg
  rw [h]

/-- A message that names a context in use and may be acted on is done. -/
theorem withCtx_ok {s : State} {m : Msg} {ok : Bool} (hu : s.inUse m.ctx = true) (hok : ok = true) (f : State → State) :
    s.withCtx m ok f = (f s).answer m 0 [] := by
  unfold State.withCtx
  rw [hu, hok]
  rfl

/-! Replays of a recording. -/

/-- The map of contexts that a replay's message carries, and the replay before its first entry (R470). -/
def replayAsked (m : Msg) : ReplayRun :=
  ⟨(List.range (m.len / 4)).map (fun i => (leAt m.payload (4 * i) 2, leAt m.payload (4 * i + 2) 2)), 0, 0, 0, [], false⟩
/-- The state with that replay under way. -/
def replayBegun (m : Msg) : State := { s with prv := { s.prv with replay := some (replayAsked m) } }

/-- A replay that may start delivers from the log's first entry on (R470). -/
theorem replayRun_starts {s : State} {m : Msg} (hm : first s 0x0108 m) (hfull : s.isSet uPRV PRV_REC_STAT_FULL = false)
    (hmode : s.rd uPRV PRV_REC_CFG_MODE = 2) (hnone : s.prv.replay = none) (hoff : s.handedOff = true) :
    replayRun s = ((replayBegun (inHand s m) m).wr uPRV PRV_REC_POS_SEQ 0).answer m 0 [] := by
  unfold replayRun
  rw [onMsg_first hm]
  refine if_neg ?_
  show ¬ (s.isSet uPRV PRV_REC_STAT_FULL || s.rd uPRV PRV_REC_CFG_MODE != 2 || s.prv.replay.isSome || !s.handedOff) = true
  simp only [hfull, hmode, hnone, hoff]
  decide

/-- Behind the last entry a replay is over, and 0xD023 tells how many were delivered. -/
theorem replayDeliver_ends {s : State} {x : ReplayRun} (hx : s.prv.replay = some x) (hend : s.prv.log.length ≤ x.pos) :
    (replayDeliver s).prv.replay = none ∧ raised s (replayDeliver s) 0xD023 s.puActive x.delivered 1 x.bad := by
  unfold replayDeliver
  rw [hx]
  dsimp only
  rw [List.getElem?_eq_none hend, hx]
  exact ⟨rfl, rfl⟩

/-- An entry before the last is delivered and the next one follows. -/
theorem replayDeliver_next {s : State} {x : ReplayRun} (hx : s.prv.replay = some x) (hnext : x.pos + 1 < s.prv.log.length) :
    (replayDeliver s).prv.replay = some { x with pos := x.pos + 1, delivered := x.delivered + 1 } := by
  unfold replayDeliver
  split
  next hnone => exact absurd (hx.symm.trans hnone) (by simp)
  next x' hsome =>
  obtain rfl := Option.some.inj (hx.symm.trans hsome)
  extract_lets finish
  split
  next hout => exact absurd (List.getElem?_eq_none_iff.mp hout) (by omega)
  next e _ =>
  extract_lets c s1 cs s2 s3 s4
  have hsent : Kept 288230376151712280 s s2 :=
    kept_each (kept_notifyBytes (.refl _ s) (by decide)) fun _ _ h => kept_notifyBytes h (by decide)
  have hprv : s2.prv = s.prv := hsent.parts .prv (by decide)
  rw [if_neg ?last]
  case last =>
    show ¬ s2.prv.log.length ≤ x.pos + 1
    rw [hprv]
    omega
  rfl

/-! The replays of a hang. -/

/-- A suspect whose replay has started is noted in its set. -/
theorem replayStarted_noted {s : State} {m : Msg} (hm : first s 0x0111 m) (hu : s.inUse m.ctx = true)
    (hs : s.isSuspect (leAt m.payload 0 2) m.ctx = true) :
    (replayStarted s).replayOf (leAt m.payload 0 2) = (s.replayOf (leAt m.payload 0 2)).map (fun x => { x with started := true }) := by
  have hdo : replayStarted s = ((inHand s m).updSet (leAt m.payload 0 2) (fun x => { x with started := true })).answer m 0 [] :=
    (onMsg_first hm _).trans (withCtx_ok (s := inHand s m) hu hs _)
  rw [hdo, answer_replayOf]
  exact replayOf_updReplayOf_same _ _ _

/-- A suspect that has completed the step is cleared, and its set goes on. -/
theorem replayDone_cleared {s : State} {m : Msg} (hm : first s 0x0112 m) (hu : s.inUse m.ctx = true)
    (hs : s.isSuspect (leAt m.payload 0 2) m.ctx = true) (hstep : (s.replayOf (leAt m.payload 0 2)).any (fun x => decide (x.step ≤ leAt m.payload 2 6)) = true) :
    replayDone s = (((inHand s m).updSet (leAt m.payload 0 2) (fun x => { x with
      cleared := x.cleared ++ [m.ctx], cur := none, started := false })).replayGo (leAt m.payload 0 2)).answer m 0 [] :=
  (onMsg_first hm _).trans (withCtx_ok (s := inHand s m) hu (Bool.and_eq_true_iff.mpr ⟨hs, hstep⟩) _)

/-- An event raised is on its way. -/
theorem mem_raise_transit (c p x y z : Nat) : event s c p x y z ∈ (s.raise c p x y z).transit :=
  List.mem_append_right _ (List.mem_singleton_self _)

/-- A suspect killed unreplayed is told of with 0x8013. -/
theorem mem_killUnreplayed_transit (k c reason : Nat) :
    event s 0x8013 (puHal (regionOfCluster k)) (c * 2 ^ 16) reason k ∈ (s.killUnreplayed k c reason).transit := by
  unfold State.killUnreplayed
  extract_lets st noted
  have hkill : Kept 1360189427277106227985976 s (noted.killCtx c 2 st k 1 0) := kept_killCtx (kept_updSet (.refl _ s) (by decide)) (by decide)
  rw [← hkill.event_eq (by decide) (by decide)]
  exact mem_raise_transit _ _ _ _ _ _

/-- A suspect whose replay is declined is killed. -/
theorem mem_replayDecline_transit {s : State} {m : Msg} (hm : first s 0x0113 m) (hu : s.inUse m.ctx = true)
    (hs : s.isSuspect (leAt m.payload 0 2) m.ctx = true) :
    event s 0x8013 (puHal (regionOfCluster (leAt m.payload 0 2))) (m.ctx * 2 ^ 16) 2 (leAt m.payload 0 2) ∈ (replayDecline s).transit := by
  have hdo : replayDecline s = (((inHand s m).killUnreplayed (leAt m.payload 0 2) m.ctx 2).replaysGo).answer m 0 [] :=
    (onMsg_first hm _).trans (withCtx_ok (s := inHand s m) hu hs _)
  rw [hdo]
  exact (kept_answer (A := allButEvents) (kept_replaysGo (.refl _ _) (by decide)) (by decide)).event (by decide)
    (mem_killUnreplayed_transit (inHand s m) _ _ _)

/-! Resets that are asked for. -/

/-- An engine reset that no wider one covers stands from then on, and the cluster is held. -/
theorem engineReset_starts {s : State} {k : Nat} (h : s.widerReset k = false) (cause : Nat) :
    (s.engineReset k cause).resets.any (fun x => x.level == 2 && x.at_ == k) = true ∧ ((s.engineReset k cause).port k).hold = true := by
  unfold State.engineReset
  rw [if_neg (by rw [h]; exact Bool.false_ne_true)]
  extract_lets live acted started joined held
  have hstands : started.resets.any (fun x => x.level == 2 && x.at_ == k) = true := by
    rw [List.any_append, List.any_cons]
    simp
  have hheld : (held.port k).hold = true := by
    unfold held State.updSet
    rw [port_congr _ (updReplayOf_ports _ _ _), port_updPort_same]
  constructor
  · have hk : Kept (allBut .resets) started ((held.trace k 5 0x31 none none 2).fwHold) :=
      kept_fwHold (kept_trace (kept_updSet (kept_updPort (kept_addSuspects (.refl _ _) (by decide)) (by decide)) (by decide)) (by decide)) (by decide)
    have hresets : ((held.trace k 5 0x31 none none 2).fwHold).resets = started.resets := hk.parts .resets (by decide)
    rw [hresets]
    exact hstands
  · have hk : Kept (allBut .ports) held ((held.trace k 5 0x31 none none 2).fwHold) :=
      kept_fwHold (kept_trace (.refl _ _) (by decide)) (by decide)
    rw [port_congr _ (hk.parts .ports (by decide))]
    exact hheld

/-- The request for an engine reset of a cluster in use starts it (R361, R515). -/
theorem resetReq_engine {s : State} {m : Msg} (hm : first s 0x0120 m) (h2 : leAt m.payload 0 1 = 2) (hoff : s.handedOff = true)
    (hlost : s.regionLost (regionOfCluster (leAt m.payload 2 2)) = false) (hshut : s.regionShut (regionOfCluster (leAt m.payload 2 2)) = false)
    (habs : (s.unit (puTst (leAt m.payload 2 2))).absent = false) :
    resetReq s = ((inHand s m).engineReset (leAt m.payload 2 2) 2).answer m 1 [] := by
  unfold resetReq
  rw [onMsg_first hm, h2]
  refine if_neg ?_
  show ¬ (!s.handedOff || s.regionLost (regionOfCluster (leAt m.payload 2 2)) || s.regionShut (regionOfCluster (leAt m.payload 2 2)) ||
    (s.unit (puTst (leAt m.payload 2 2))).absent) = true
  rw [hoff, hlost, hshut, habs]
  decide

/-- The request for a chip reset is answered, and the chip reset begins. -/
theorem resetReq_chip {s : State} {m : Msg} (hm : first s 0x0120 m) (h4 : leAt m.payload 0 1 = 4) :
    resetReq s = ((inHand s m).answer m 1 []).chipReset 2 := by
  unfold resetReq
  rw [onMsg_first hm, h4]
  rfl

/-- A chip reset that the active Brewhouse begins supersedes every other reset and raises 0x8022. -/
theorem chipReset_starts {s : State} (halive : s.bhAlive s.active = true) (hfree : s.resets.any (fun x => x.level == 4) = false) (cause : Nat) :
    (s.chipReset cause).resets = [⟨4, 0, 1, cause, s.now, [], 0⟩] ∧ event s 0x8022 s.puActive cause ∈ (s.chipReset cause).transit := by
  unfold State.chipReset
  rw [if_neg (by rw [halive, hfree]; decide)]
  extract_lets told pad begun
  have hk : Kept (allBut .resets) begun (begun.each (List.range Config.host.regions) (fun s r => s.closeGates r 7)).fwHold :=
    kept_fwHold (kept_each (.refl _ _) fun _ _ h => kept_closeGates h (by decide)) (by decide)
  exact ⟨hk.parts .resets (by decide), hk.event (by decide) (mem_raise_transit s _ _ _ _ _)⟩

/-- An answer leaves which Brewhouse is active, and whether it runs. -/
theorem answer_active (m : Msg) (status : Nat) (fs : List (Nat × Nat)) : (s.answer m status fs).active = s.active := by
  unfold State.active
  rw [rd_answer s (by decide)]

theorem answer_bhAlive (m : Msg) (status : Nat) (fs : List (Nat × Nat)) (w : Bh) : (s.answer m status fs).bhAlive w = s.bhAlive w := by
  have hk := answer_kept s m status fs
  have hfw : (s.answer m status fs).fw = s.fw := hk.parts .fw (by decide)
  have hhall : ∀ r, (s.answer m status fs).hall r = s.hall r := hall_congr s (hk.parts .halls (by decide))
  unfold State.bhAlive State.regionLost
  rw [hfw, hhall]

/-! Postures. -/

/-- Postures put in force show the wafer's. -/
theorem setPostures_wafer {w : Nat} (h : w < 4) (ovr : Nat) : (s.setPostures w ovr).rd uBRW BRW_POSTURE_WAFER = w := by
  unfold State.setPostures
  dsimp only
  split
  next hsame => exact hsame.1.symm
  next =>
    rw [rd_raise_apart _ (by decide), rd_wr_apart _ (by decide), rd_wr_same]
    exact Nat.mod_eq_of_lt h

/-- A posture, and overrides, within the floor are put in force. -/
theorem postureSet_within {s : State} {m : Msg} (hm : first s 0x0200 m) (hw : leAt m.payload 0 1 < 4)
    (hfloor : leAt m.payload 0 1 ≤ s.rd uBRW BRW_POSTURE_FLOOR)
    (hovr : ∀ r, r < Config.host.regions → leAt m.payload (2 + r) 1 = 3 ∨ leAt m.payload (2 + r) 1 ≤ s.rd uBRW BRW_POSTURE_FLOOR) :
    (postureSet s).rd uBRW BRW_POSTURE_WAFER = leAt m.payload 0 1 := by
  unfold postureSet
  rw [onMsg_first hm]
  extract_lets w floor os ovr
  rw [if_neg ?within, rd_answer _ (by decide), if_neg (by omega)]
  case within =>
    rw [not_or]
    refine ⟨fun h => Nat.not_lt.mpr hfloor h.2, ?_⟩
    rw [List.any_eq_true]
    rintro ⟨o, ho, habove⟩
    obtain ⟨r, -, rfl⟩ := List.mem_map.mp ho
    rw [Bool.and_eq_true, bne_iff_ne, decide_eq_true_eq] at habove
    obtain ⟨h3, habove⟩ := habove
    split at h3
    next hr =>
      rw [if_pos hr] at habove
      exact (hovr r hr).elim h3 (fun h => Nat.not_lt.mpr h habove)
    next => exact h3 rfl
  rw [rd_congr _ ((kept_sendMirror (A := allBut .regs) (.refl _ _) (by decide)).parts .regs (by decide))]
  exact setPostures_wafer _ hw _

/-- A posture above the floor is refused with status 7. -/
theorem postureSet_above {s : State} {m : Msg} (hm : first s 0x0200 m) (hw : leAt m.payload 0 1 ≠ 255)
    (hfloor : s.rd uBRW BRW_POSTURE_FLOOR < leAt m.payload 0 1) : postureSet s = (inHand s m).refuse m 7 := by
  unfold postureSet
  rw [onMsg_first hm]
  exact if_pos (.inl ⟨hw, hfloor⟩)

/-- Settles O41, clause by clause: the replay of a recording, the replays of a hang, and the requests for resets and postures. -/
theorem messagesOfReplays : Obligations.MessagesOfReplays := by
  unfold Obligations.MessagesOfReplays
  intro s m
  refine ⟨fun hm hfull hmode hnone hoff => ?run, fun x hx => ⟨fun hend => ?ends, fun hnext => ?next⟩,
    fun k hk hu hs => ⟨fun hm => ?started, fun hm hstep => ?done, fun hm => ?declined⟩, fun k hk hm h2 hoff hlost hshut habs hwider => ?engine,
    fun hm h4 hfree halive => ?chip,
    fun w hw hm => ⟨fun h4 hfloor hovr => ?within, fun h255 hfloor => ?above⟩⟩
  case run =>
    refine runs_of_exec rfl (replayRun_starts hm hfull hmode hnone hoff) ⟨?_, ?_, fun hear => ?_⟩
    · rw [rd_answer _ (by decide), rd_wr_same]
      rfl
    · rw [answer_prv]
      rfl
    · exact told_answer (hears_wr (hears_congr (t := replayBegun (inHand s m) m) hear rfl) (G := PRV_REC_POS_SEQ) (by decide) _ _) _ _
  case ends => exact runs_of_exec rfl rfl (replayDeliver_ends hx hend)
  case next => exact runs_of_exec rfl rfl (replayDeliver_next hx hnext)
  case started =>
    subst hk
    exact runs_of_exec rfl rfl (replayStarted_noted hm hu hs)
  case done =>
    subst hk
    exact runs_of_exec rfl rfl (replayDone_cleared hm hu hs hstep)
  case declined =>
    subst hk
    exact runs_of_exec rfl rfl (mem_replayDecline_transit hm hu hs)
  case engine =>
    subst hk
    obtain ⟨hstands, hheld⟩ := engineReset_starts (s := inHand s m) hwider 2
    refine runs_of_exec rfl (resetReq_engine hm h2 hoff hlost hshut habs) ?_
    rw [answer_resets, answer_port]
    exact ⟨hstands, hheld⟩
  case chip =>
    have hact := answer_active (inHand s m) m 1 []
    have halive' : ((inHand s m).answer m 1 []).bhAlive ((inHand s m).answer m 1 []).active = true := by
      rw [hact, answer_bhAlive]
      exact halive
    have hfree' : ((inHand s m).answer m 1 []).resets.any (fun x => x.level == 4) = false := by
      rw [answer_resets]
      exact hfree
    obtain ⟨hresets, htold⟩ := chipReset_starts halive' hfree' 2
    refine runs_of_exec rfl (resetReq_chip hm h4) ⟨?_, ?_⟩
    · rw [hresets, answer_now]
      rfl
    · have hunit : ((inHand s m).answer m 1 []).puActive = s.puActive := congrArg puBrw hact
      rw [hunit, (answer_kept (inHand s m) m 1 []).event_eq (by decide) (by decide)] at htold
      exact htold
  case within =>
    subst hw
    exact runs_of_exec rfl rfl (postureSet_within hm h4 hfloor hovr)
  case above =>
    subst hw
    refine runs_of_exec rfl (postureSet_above hm h255 hfloor) ⟨?_, ?_, fun hear => told_refuse (s := inHand s m) (hears_congr hear rfl) 7⟩
    · rw [rd_refuse _ (by decide)]
      rfl
    · rw [rd_refuse _ (by decide)]
      rfl

end Sys2Proof.Machine
end

section
/-! The descriptor stores, the partial selections that reach a step's lead, and outcomes (R210, R211, R226, R227, R375, R603). -/
namespace Sys2Proof.Machine
open Sys2Proof Host Sys2Proof.Claims
variable (s : State)

/-! Loads and invalidations as the host asks for them. -/

/-- Telling of a refused load leaves a field that is not the page's event bits. -/
theorem rd_loadRefused_apart {F : Fld} (h : Fld.apart F PG_EVT_CLASS = true) (u k st : Nat) : (s.loadRefused k st).rd u F = s.rd u F := by
  unfold State.loadRefused
  split
  · rfl
  · exact rd_raiseOnce_apart s h u _ _ _ _ _ _

/-- A Taster that has no load or invalidation under way starts a broadcast load with STATUS 1. -/
theorem descriptorLoad_broadcast {s : State} {k : Nat} (hfree : s.descStatus k ≠ 1) (hb : s.isSet (uTST k) TST_DESC_SEL_BCAST = true) :
    (descriptorLoad s k).rd (uTST k) TST_DESC_CTRL_STATUS = 1 ∧ ((descriptorLoad s k).rplOf k).bcast.isSome = true := by
  unfold descriptorLoad
  dsimp only
  rw [if_neg hfree, if_pos hb]
  refine ⟨rd_wr_same _ _ _ _ _, ?_⟩
  rw [rplOf_congr _ (wr_rpl _ _ _ _ _), rplOf_updRplOf_same]
  rfl

/-- A local load is refused with STATUS 5 at index 0, which names no descriptor. -/
theorem descriptorLoad_indexZero {s : State} {k : Nat} (hfree : s.descStatus k ≠ 1) (hb : s.isSet (uTST k) TST_DESC_SEL_BCAST = false)
    (hi : s.rd (uTST k) TST_DESC_SEL_INDEX = 0) : (descriptorLoad s k).rd (uTST k) TST_DESC_CTRL_STATUS = 5 := by
  unfold descriptorLoad State.loadAt
  dsimp only
  rw [if_neg hfree, if_neg (by rw [hb]; exact Bool.false_ne_true), if_pos hi, rd_loadRefused_apart _ (by decide)]
  exact rd_wr_same _ _ _ _ _

/-- Slots that become free leave the active Brewhouse's copies. -/
theorem freeSlots_descBytes (k i : Nat) : (s.freeSlots k).descBytes i = s.descBytes i :=
  descBytes_congr s ((kept_freeSlots (A := allBut .descCopy) (.refl _ s) (by decide)).parts .descCopy (by decide)) i

/-- A broadcast invalidation empties the active Brewhouse's copy of the descriptor. -/
theorem descriptorInvalidate_broadcast {s : State} {k : Nat} (hfree : s.descStatus k ≠ 1) (hb : s.isSet (uTST k) TST_DESC_SEL_BCAST = true) :
    (descriptorInvalidate s k).descBytes (256 * s.rd (uTST k) TST_DESC_SEL_KIND + s.rd (uTST k) TST_DESC_SEL_INDEX) = [] := by
  have hb' : (s.wr (uTST k) TST_DESC_CTRL_STATUS 1).isSet (uTST k) TST_DESC_SEL_BCAST = true := by
    unfold State.isSet
    rw [rd_wr_apart s (by decide)]
    exact hb
  unfold descriptorInvalidate
  dsimp only
  rw [if_neg hfree, if_pos hb', freeSlots_descBytes, descBytes_congr _ (updRplOf_descCopy _ _ _), descBytes_updDescBytes_same]

/-- The last answer of a broadcast load that no Taster has refused: the broadcast is over, and STATUS shows the last Taster's own status. -/
theorem descriptorBroadcastAnswer_last {s : State} {k t : Nat} {x : Broadcast} (hx : (s.rplOf k).bcast = some x)
    (hmem : x.left.contains t = true) (hlast : x.left.filter (· != t) = []) (hload : x.inval = false) (hnone : x.refusal = none) :
    ((descriptorBroadcastAnswer s k t).rplOf k).bcast = none ∧
      (descriptorBroadcastAnswer s k t).rd (uTST k) TST_DESC_CTRL_STATUS = (s.loadAt t x.kind x.index x.len x.bytes).2 % 8 := by
  unfold descriptorBroadcastAnswer
  rw [hx]
  dsimp only
  rw [hmem, hlast, hload, hnone]
  simp only [Bool.not_true, Bool.false_eq_true, if_false, Bool.false_and, false_or, List.isEmpty_nil, if_true]
  generalize s.loadAt t x.kind x.index x.len x.bytes = r
  by_cases h : r.2 = 2
  · simp only [if_pos h, if_true]
    refine ⟨?_, h ▸ rd_wr_same _ _ _ _ _⟩
    rw [rplOf_congr _ (wr_rpl _ _ _ _ _), rplOf_congr _ (updDescBytes_rpl _ _ _), rplOf_updRplOf_same]
  · simp only [if_neg h]
    refine ⟨?_, rd_wr_same _ _ _ _ _⟩
    rw [rplOf_congr _ (wr_rpl _ _ _ _ _), rplOf_updRplOf_same]

/-! Commands keep the partial selections that they have. -/

/-- Every command that a cluster's replica holds has the partial selections that it had. -/
def PartsKept (s t : State) : Prop := ∀ k cmd, (t.rcmd k cmd).map (·.parts) = (s.rcmd k cmd).map (·.parts)

theorem PartsKept.refl : PartsKept s s := fun _ _ => rfl

theorem PartsKept.trans {s t u : State} (h : PartsKept s t) (h' : PartsKept t u) : PartsKept s u :=
  fun k cmd => (h' k cmd).trans (h k cmd)

theorem partsKept_of_rpl {s t : State} (h : t.rpl = s.rpl) : PartsKept s t := by
  intro k cmd
  unfold State.rcmd
  rw [rplOf_congr s h]

/-- What does not change the replica's part of the state changes no partial selection. -/
theorem Kept.partsKept {s t : State} (h : Kept (allBut .rpl) s t) : PartsKept s t :=
  partsKept_of_rpl (h.parts .rpl (by decide))

theorem partsKept_each {α : Type} {f : State → α → State} (h : ∀ y a, PartsKept y (f y a)) (l : List α) : PartsKept s (s.each l f) := by
  induction l generalizing s with
  | nil => exact .refl s
  | cons a l ih => exact (h s a).trans (ih (f s a))

/-- Commands changed one by one, each keeping its number, are found as before. -/
theorem rcmd_updRplOf_cmds {k : Nat} {f : RplSt → RplSt} {g : RplCmd → RplCmd} (hf : ∀ x, (f x).cmds = x.cmds.map g)
    (hg : ∀ c, (g c).cmd = c.cmd) (cmd : Nat) : (s.updRplOf k f).rcmd k cmd = (s.rcmd k cmd).map g := by
  have hp : (fun c : RplCmd => c.cmd == cmd) ∘ g = (fun c => c.cmd == cmd) := funext fun c => by
    rw [Function.comp_apply, hg]
  unfold State.rcmd
  rw [rplOf_updRplOf_same, hf, List.find?_map, hp]

theorem rcmd_updRplOf_other {j k : Nat} (h : j ≠ k) (f : RplSt → RplSt) (cmd : Nat) : (s.updRplOf k f).rcmd j cmd = s.rcmd j cmd := by
  unfold State.rcmd
  rw [rplOf_updRplOf_other s h]

theorem partsKept_updRplOf_map {k : Nat} {f : RplSt → RplSt} {g : RplCmd → RplCmd} (hf : ∀ x, (f x).cmds = x.cmds.map g)
    (hg : ∀ c, (g c).cmd = c.cmd) (hparts : ∀ c, (g c).parts = c.parts) : PartsKept s (s.updRplOf k f) := by
  intro j cmd
  by_cases h : j = k
  · subst h
    rw [rcmd_updRplOf_cmds s hf hg, Option.map_map]
    exact congrArg (fun q => (s.rcmd j cmd).map q) (funext hparts)
  · rw [rcmd_updRplOf_other s h]

/-- A change of a Taster's replica that leaves its commands. -/
theorem partsKept_updRplOf {k : Nat} {f : RplSt → RplSt} (h : ∀ x, (f x).cmds = x.cmds) : PartsKept s (s.updRplOf k f) :=
  partsKept_updRplOf_map s (g := id) (fun x => by rw [h, List.map_id]) (fun _ => rfl) (fun _ => rfl)

/-- A change of the commands of one number leaves in every command what the change itself leaves. -/
theorem ite_cmd_keeps {α : Type} (g : RplCmd → α) {f : RplCmd → RplCmd} (h : ∀ c, g (f c) = g c) (cmd : Nat) (c : RplCmd) :
    g (if c.cmd = cmd then f c else c) = g c := by
  by_cases hc : c.cmd = cmd
  · rw [if_pos hc, h]
  · rw [if_neg hc]

/-- A change of one command that leaves its number. -/
theorem rcmd_updRcmd_same {k cmd : Nat} {f : RplCmd → RplCmd} (hf : ∀ c, (f c).cmd = c.cmd) {c : RplCmd} (h : s.rcmd k cmd = some c) :
    (s.updRcmd k cmd f).rcmd k cmd = some (f c) := by
  have hc : c.cmd = cmd := eq_of_beq (List.find?_some (p := fun c : RplCmd => c.cmd == cmd) h)
  unfold State.updRcmd
  rw [rcmd_updRplOf_cmds s (fun _ => rfl) (ite_cmd_keeps (·.cmd) hf cmd), h, Option.map_some, if_pos hc]

theorem partsKept_updRcmd {k cmd : Nat} {f : RplCmd → RplCmd} (hf : ∀ c, (f c).cmd = c.cmd) (hparts : ∀ c, (f c).parts = c.parts) :
    PartsKept s (s.updRcmd k cmd f) :=
  partsKept_updRplOf_map s (fun _ => rfl) (ite_cmd_keeps (·.cmd) hf cmd) (ite_cmd_keeps (·.parts) hparts cmd)

theorem partsKept_updRunit (k : Nat) (u : RplUnit) (f : RplUnit → RplUnit) : PartsKept s (s.updRunit k u f) :=
  partsKept_updRplOf s (fun _ => rfl)

theorem partsKept_unitsOut (k : Nat) (gone : RplUnit → Bool) : PartsKept s (s.unitsOut k gone) :=
  partsKept_updRplOf s (fun _ => rfl)

/-! Cases, whose requests write the scratch of their cluster and whose re-reads leave it. -/

theorem partsKept_scratchWrite (k addr : Nat) (data : BitVec 512) : PartsKept s (s.scratchWrite k addr data).1 := by
  unfold State.scratchWrite
  extract_lets base g
  split
  · dsimp only
    refine PartsKept.trans ?_ (partsKept_of_rpl (emit_rpl _ _))
    exact partsKept_updRplOf s fun _ => rfl
  · exact .refl s

theorem partsKept_scratchPut (k : Nat) (gs : List (Nat × Nat)) : PartsKept s (s.scratchPut k gs) :=
  partsKept_each s (fun y _ => partsKept_scratchWrite y k _ _) _

theorem partsKept_rptGo (k : Nat) : PartsKept s (s.rptGo k) := by
  have hsent (t : State) (h : Nat) (q : RptReq) (n : Option RptReq) (x : Out) : PartsKept t ((t.rqSet h q n).emit x) :=
    partsKept_of_rpl rfl
  unfold State.rptGo
  split
  · exact .refl s
  · dsimp only
    split
    · exact .refl s
    · split
      · exact .refl s
      · split
        · exact (partsKept_scratchPut s k _).trans (hsent _ _ _ _ _)
        · exact hsent s _ _ _ _

theorem partsKept_rptDrop (h : Nat) (gone : RptReq → Bool) : PartsKept s (s.rptDrop h gone) := by
  refine PartsKept.trans (t := s.updAdjOf h _) (partsKept_of_rpl rfl) (partsKept_each _ (fun y q => ?_) _)
  split
  · exact PartsKept.trans (partsKept_of_rpl (emit_rpl _ _)) (partsKept_rptGo _ _)
  · exact partsKept_rptGo y _

theorem partsKept_inconclusive (h : Nat) (c : Case) (reason : Nat) : PartsKept s (s.inconclusive h c reason) := by
  have hdrop (no : Nat) : PartsKept s (s.dropCase h no) :=
    ((partsKept_unitsOut s _ _).trans (partsKept_of_rpl (updAdjOf_rpl _ _ _))).trans (partsKept_rptDrop _ _ _)
  exact (hdrop c.no).trans (kept_sendVerdict (.refl _ _) (by decide)).partsKept

theorem partsKept_askRepeat (h no : Nat) : PartsKept s (s.askRepeat h no) := by
  unfold State.askRepeat
  split
  · exact .refl s
  · extract_lets atomic
    split
    · exact partsKept_of_rpl rfl
    · exact PartsKept.trans (partsKept_of_rpl rfl) (partsKept_rptGo _ _)

theorem partsKept_secured (h no : Nat) (x : Held) : PartsKept s (s.secured h no x) :=
  (PartsKept.trans (t := s.updCase h no _) (partsKept_of_rpl rfl) (partsKept_askRepeat _ h no)).trans
    (kept_askNeighbour (.refl _ _) (by decide)).partsKept

/-! Units that go on. -/

theorem partsKept_dropUnit (k h : Nat) (u : RplUnit) (cause addr : Nat) : PartsKept s (s.dropUnit k h u cause addr) := by
  unfold State.dropUnit
  extract_lets x1 x2 x3
  have h1 : PartsKept s x1 := (partsKept_updRunit s k u _).trans (partsKept_updRplOf _ (fun _ => rfl))
  have h2 : PartsKept s x2 := by
    unfold x2
    split
    · exact h1.trans (partsKept_updRcmd _ (fun _ => rfl) (fun _ => rfl))
    · exact h1
  have h3 : PartsKept s x3 := by
    unfold x3
    split
    · exact h2.trans (partsKept_of_rpl (count_rpl _ _ _ _ _))
    · exact h2.trans (kept_raiseOnce (kept_count (.refl _ _) (by decide)) (by decide)).partsKept
  split
  · split
    · exact h3.trans (partsKept_inconclusive _ _ _ _)
    · exact h3
  · exact h3

theorem partsKept_rereadDone (k h : Nat) (u : RplUnit) (no : Nat) : PartsKept s (s.rereadDone k h u no) := by
  unfold State.rereadDone
  dsimp only
  split
  · exact (partsKept_unitsOut s k _).trans (partsKept_secured _ _ _ _)
  · exact partsKept_unitsOut s k _

theorem partsKept_unitGo (k h : Nat) (u : RplUnit) : PartsKept s (s.unitGo k h u) := by
  unfold State.unitGo
  split
  · exact .refl s
  split
  next =>
    split
    · exact partsKept_rereadDone s k h u _
    · exact partsKept_updRunit s k u _
  next =>
    split
    · exact .refl s
    split
    · exact .refl s
    split
    · exact .refl s
    · exact (partsKept_updRunit s k u _).trans (partsKept_of_rpl (emit_rpl _ _))
  next => exact partsKept_dropUnit s k h u _ _
  next => exact partsKept_dropUnit s k h u _ _

theorem partsKept_rplRegion (r : Nat) : PartsKept s (s.rplRegion r) := by
  have hgo (y : State) (k : Nat) : PartsKept y (y.rplGo k) := by
    unfold State.rplGo
    split
    · exact .refl y
    · exact partsKept_each y (fun z u => partsKept_unitGo z k _ u) _
  exact partsKept_each s hgo _

/-! A partial selection, and an outcome. -/

/-- A command whose row `e` has the entries of the slice from `lo` to `hi`, in the place of what the slice had before (R226). -/
def partJoined (e lo hi : Nat) (es : List (Nat × Nat)) (c : RplCmd) : RplCmd :=
  { c with parts := c.parts.filter (fun q => !(q.1 == e && q.2.1 == lo)) ++ [(e, lo, hi, es)] }

theorem partJoined_cmd (e lo hi : Nat) (es : List (Nat × Nat)) (c : RplCmd) : (partJoined e lo hi es c).cmd = c.cmd := rfl

/-- A state in which a rank's slice is complete and its selection has reached the lead (R226). -/
def State.sliceJoined (s : State) (j : Nat) (u : RplUnit) (lo hi : Nat) (l : List (Word × Word)) : State :=
  (s.updRunit j u (fun u => { u with stage := 2 })).updRcmd u.home u.cmd (partJoined u.e lo hi (l.map (fun e => (e.1.toNat, e.2.toNat))))

/-- The selection of a rank's one slice of a step reaches the lead, and what follows in the region leaves every partial selection. -/
theorem privPartialSelection_sliceJoined {s : State} {k j c step : Nat} {upset : Option CaseVal} {x : StepCheck} {u : RplUnit} {lo hi : Nat}
    {v : Done} {hv : El × CaseVal} {l : List (Word × Word)} (hx : s.stepOf (regionOfCluster k) c step = some x) (hlead : x.lead = k)
    (hr : regionOfCluster j = regionOfCluster k)
    (hu : (s.rplOf j).units.filter (fun u => s.ofStep c step u && decide (u.stage = 1) && isSlice u) = [u])
    (hrole : u.role = .slice lo hi) (hev : s.unitEval u = .ok (v, hv)) (hl : upset.getD v.val = .row l) :
    PartsKept (s.sliceJoined j u lo hi l) (privPartialSelection s k j c step upset) := by
  have hmine : ((s.rplOf j).units.filter (fun u => s.ofStep c step u && decide (u.stage = 1))).filter isSlice = [u] := by
    rw [List.filter_filter, ← hu]
    exact List.filter_congr (fun _ _ => Bool.and_comm _ _)
  unfold privPartialSelection
  dsimp only
  rw [hx]
  dsimp only
  rw [if_neg (not_or.mpr ⟨not_not_intro hlead, not_not_intro hr⟩), hmine]
  have hone (f : State → RplUnit → State) : s.each [u] f = f s u := rfl
  rw [hone, hrole, hev]
  dsimp only
  rw [hl]
  refine PartsKept.trans (PartsKept.trans ?_ (partsKept_each _ (fun y i => partsKept_each y (fun z v => partsKept_updRunit z i v _) _) _))
    (partsKept_rplRegion _ _)
  exact partsKept_each _ (fun y v => partsKept_updRunit y j v _) _

/-- A slice that has reached the lead stands in its command. -/
theorem rcmd_sliceJoined {s : State} {u : RplUnit} {c : RplCmd} (hc : s.rcmd u.home u.cmd = some c) (j lo hi : Nat) (l : List (Word × Word)) :
    ((s.sliceJoined j u lo hi l).rcmd u.home u.cmd).map (·.parts) =
      some (c.parts.filter (fun q => !(q.1 == u.e && q.2.1 == lo)) ++ [(u.e, lo, hi, l.map (fun e => (e.1.toNat, e.2.toNat)))]) := by
  obtain ⟨c', hc', hparts⟩ : ∃ c', (s.updRunit j u (fun u => { u with stage := 2 })).rcmd u.home u.cmd = some c' ∧ c'.parts = c.parts := by
    have h := partsKept_updRunit s j u (fun u => { u with stage := 2 }) u.home u.cmd
    rw [hc] at h
    exact Option.map_eq_some_iff.mp h
  unfold State.sliceJoined
  rw [rcmd_updRcmd_same _ (partJoined_cmd _ _ _ _) hc', ← hparts]
  rfl

/-- An item is counted once on the channel on which it arrives. -/
theorem item_items (c : Nat) : ((s.item c).chan c).items = ((s.chan c).items + 1) % 2 ^ 32 := by
  unfold State.item State.noteItem
  split
  · rw [chan_updChan_same]
  · rw [chan_updChan_same, chan_updChan_same]

/-- Settles O11, clause by clause: loads and invalidations by the host, the last answer, a slice's selection, and an outcome. -/
theorem descriptorStore : Obligations.DescriptorStore := by
  unfold Obligations.DescriptorStore
  intro k s
  refine ⟨fun hw ht hfree => ?host, fun j x hx hmem hlast hload hnone => ?answer,
    fun j ctx step upset x u c lo hi v hv l hx hlead hr hu hrole hev hl hc => ?selection, fun id out => ?outcome⟩
  case host =>
    have hregs (F : Fld) : (s.count uBRW BRW_WIN_WR_COUNT).rd (uTST k.val) F = s.rd (uTST k.val) F := rd_congr s (count_regs _ _ _ _ _) _ _ _
    have hfree' : (s.count uBRW BRW_WIN_WR_COUNT).descStatus k.val ≠ 1 := fun h => hfree ((hregs _).symm.trans h)
    have hset : (s.count uBRW BRW_WIN_WR_COUNT).isSet (uTST k.val) TST_DESC_SEL_BCAST = s.isSet (uTST k.val) TST_DESC_SEL_BCAST :=
      congrArg (· != 0) (hregs _)
    refine ⟨fun hb hi => ?_, fun hb => ⟨?_, ?_⟩⟩
    · exact runs_of_exec rfl (hostOp_of_writable ht hw _ _ _) (descriptorLoad_indexZero hfree' (hset.trans hb) ((hregs _).trans hi))
    · exact runs_of_exec rfl (hostOp_of_writable ht hw _ _ _) (descriptorLoad_broadcast hfree' (hset.trans hb))
    · rw [← hregs, ← hregs]
      exact runs_of_exec rfl (hostOp_of_writable ht hw _ _ _) (descriptorInvalidate_broadcast hfree' (hset.trans hb))
  case answer => exact runs_of_exec rfl rfl (descriptorBroadcastAnswer_last hx hmem hlast hload hnone)
  case selection =>
    have hkept := privPartialSelection_sliceJoined hx hlead hr hu hrole hev hl u.home u.cmd
    rw [rcmd_sliceJoined hc] at hkept
    obtain ⟨c', hc', hparts⟩ := Option.map_eq_some_iff.mp hkept
    refine runs_of_exec rfl rfl ⟨c', hc', ?_⟩
    rw [hparts]
    exact List.mem_append_right _ (List.mem_singleton_self _)
  case outcome =>
    have hchan := (kept_privOutcome (A := allBut .chans) (k := k.val) (cmd := id.toNat) (out := out) (.refl _ (s.item (chTst k.val)))
      (by decide)).parts .chans (by decide)
    refine runs_of_exec rfl rfl ?_
    rw [chan_congr _ hchan]
    exact item_items s _

end Sys2Proof.Machine
end

section
/-! Adjudication: requests at the repeat ports, and the references of a case (R241, R243, R245-R247, R250, R273). -/
namespace Sys2Proof.Machine
open Sys2Proof Host Sys2Proof.Claims
variable (s : State)

/-! The request that stands at a cluster's repeat port, or runs. -/

/-- The state in which a request of a Taster has started. -/
def startedRq (h : Nat) (q : RptReq) : State := s.rqSet h q (some { q with stage := 2 })

/-- What follows when a request has started: a case notes it, and behind a gated command's the next repeat of its step is asked for (R241, R603). -/
def startFollows (k h : Nat) : RptFor → State
  | .case no => s.updCase h no (fun c => { c with rpt := 2 })
  | .gated cmd => match s.descOf k cmd with
    | some d => s.redoStep (regionOfCluster k) d.ctx d.step
    | none => s
  | .steering _ => s

/-- The request that stands at the port starts. -/
theorem repeatStart_found {s : State} {k h : Nat} {q : RptReq} {w : RptFor} (hq : s.rqFind k 1 = some (h, q)) (hw : q.what = w) :
    repeatStart s k = startFollows (startedRq s h q) k h w := by
  subst hw
  unfold repeatStart
  rw [hq]
  cases q with
  | mk cluster what mode core cmd addr stage => cases what <;> rfl

/-- The request that stands at the port is withdrawn. -/
theorem repeatWithdraw_found {s : State} {k h : Nat} {q : RptReq} (hq : s.rqFind k 1 = some (h, q)) : repeatWithdraw s k = s.withdrawRq k h q := by
  unfold repeatWithdraw
  rw [hq]

/-- A value that came, or did not, as a result of a case (R250). -/
def gotOf : Option CaseVal → Got
  | some v => .val v
  | none => .absent

/-- A case whose repeat is done: its second result, the core's count and what the Tap found (R242, R243, R250). -/
def repeated (core n : Nat) (view : Option CaseVal) (mode : Nat) (c : Case) : Case :=
  { c with
    rpt := 3, ncore := n, tm := c.tm || (s.tap core).alarms.any (fun a => s.repeatCmd a.cmd)
    c2 := gotOf (if mode = 0 then (s.tap core).rpt else view) }

/-- The done repeat of a case joins it, and a case with all its results settles. -/
theorem repeatDone_case {s : State} {k h no : Nat} {q : RptReq} (hq : s.rqFind k 2 = some (h, q)) (hw : q.what = .case no) (n : Nat)
    (view : Option CaseVal) : repeatDone s k n view =
      (((s.rqSet h q none).updCase h no (repeated s (ckey k q.core) n view q.mode)).settleCase h no).rptGo k := by
  unfold repeatDone
  rw [hq]
  dsimp only
  split
  · next no' hno =>
    obtain rfl := RptFor.case.inj (hw.symm.trans hno)
    rfl
  · next hno => exact absurd hw (hno no)

/-- The done repeat of a command leaves its place to the next request. -/
theorem repeatDone_command {s : State} {k h : Nat} {q : RptReq} (hq : s.rqFind k 2 = some (h, q)) (hw : ∀ no, q.what ≠ .case no) (n : Nat)
    (view : Option CaseVal) : repeatDone s k n view = (s.rqSet h q none).rptGo k := by
  unfold repeatDone
  rw [hq]
  dsimp only
  split
  · next no hno => exact absurd hno (hw no)
  · rfl

/-! The references of a case. -/

/-- A case changed and left its number is found as before. -/
theorem caseOf_updCase {f : Case → Case} (hf : ∀ c, (f c).no = c.no) (h no : Nat) :
    (s.updCase h no f).caseOf h no = (s.caseOf h no).map f := by
  have hnum (c : Case) : (if c.no = no then f c else c).no = c.no := by
    split
    · exact hf c
    · rfl
  have hp : (fun c : Case => c.no == no) ∘ (fun c => if c.no = no then f c else c) = (fun c => c.no == no) := funext fun c => by
    rw [Function.comp_apply, hnum]
  unfold State.caseOf State.updCase
  rw [adjOf_updAdjOf_same, List.find?_map, hp]
  cases hc : (s.adjOf h).cases.find? (fun c => c.no == no) with
  | none => rfl
  | some c =>
    have hno : c.no = no := eq_of_beq (List.find?_some (p := fun c : Case => c.no == no) hc)
    rw [Option.map_some, Option.map_some, if_pos hno]

/-- A case is found in the adjudication part alone. -/
theorem caseOf_congr {s t : State} (e : t.adj = s.adj) (h no : Nat) : t.caseOf h no = s.caseOf h no := by
  unfold State.caseOf
  rw [adjOf_congr s e]

/-- A counter is read from the two tables of counters alone. -/
theorem cnt_congr {s t : State} (he : t.ecnt = s.ecnt) (hr : t.rcnt = s.rcnt) (u : Nat) (F : Fld) (i : Nat) : t.cnt u F i = s.cnt u F i := by
  unfold State.cnt
  rw [he, hr]

/-- What a Taster recomputes rests on the case alone (R245). -/
theorem recompute_value {s t : State} (j : Nat) (c : Case) (upset : Option CaseVal) : (t.recompute j c upset).2 = (s.recompute j c upset).2 := by
  unfold State.recompute
  rfl

/-- A recompute changes the Taster's replica alone. -/
theorem kept_recompute_fst (j : Nat) (c : Case) (upset : Option CaseVal) : Kept (maskOf [.rpl]) s (s.recompute j c upset).1 :=
  kept_recompute (.refl _ s) (by decide)

/-- The reference of a case whose inputs are held comes from them, and a case with all its results settles (R245). -/
theorem referenceT1Done_held {s : State} {h no : Nat} {c : Case} (hc : s.caseOf h no = some c) (ht : Got.waits c.t1 = true) (hh : c.held ≠ .none)
    (upset : Option CaseVal) : referenceT1Done s h no upset =
      ((s.recompute h c upset).1.updCase h no (fun c' => { c' with t1 := gotOf (s.recompute h c upset).2 })).settleCase h no := by
  unfold referenceT1Done
  rw [hc]
  exact if_neg (by simp [ht, hh])

/-- A neighbour that a case has asked recomputes it and counts that (R246, R247, R273). -/
theorem neighbourRequest_asked {s : State} {j h no : Nat} {c : Case} (hc : s.caseOf h no = some c) (ha : c.asked = some j) (hp : c.t2p = none)
    (hw : waitsAdopter c h = false) (upset : Option CaseVal) : neighbourRequest s j h no upset =
      ((s.count (uTST j) TST_ADJ_SERVED_COUNT).recompute j c upset).1.updCase h no
        (fun c' => { c' with t2p := ((s.count (uTST j) TST_ADJ_SERVED_COUNT).recompute j c upset).2 }) := by
  unfold neighbourRequest
  rw [hc]
  exact if_neg (by simp [ha, hp, hw])

/-- A neighbour's answer is the second reference of a case that waits for it (R247). -/
theorem neighbourAnswer_waited {s : State} {h no : Nat} {c : Case} {v : CaseVal} (hc : s.caseOf h no = some c) (hv : c.t2p = some v)
    (ht : Got.waits c.t2 = true) :
    neighbourAnswer s h no = (s.updCase h no (fun c => { c with t2 := .val v, t2p := none })).settleCase h no := by
  unfold neighbourAnswer
  rw [hc]
  dsimp only
  rw [hv]
  exact if_pos ht

/-- A neighbour that a case waits for does not answer: after the first another is asked, after the second there is no second reference (R247, R270). -/
theorem neighbourTimeout_waited {s : State} {h no : Nat} {c : Case} (hc : s.caseOf h no = some c) (ht : Got.waits c.t2 = true)
    (ha : c.asked.isSome = true) (hw : waitsAdopter c h = false) :
    neighbourTimeout s h no =
      let u := s.updCase h no (fun c => { c with t2p := none, tries := c.tries + 1 })
      if c.tries = 0 then (u.askNeighbour h no (c.cluster :: c.asked.toList ++ c.used)).settleCase h no
      else (u.updCase h no (fun c => { c with t2 := .absent })).settleCase h no := by
  have hn : c.asked.isNone = false := by rw [← Option.not_isSome, ha]; rfl
  unfold neighbourTimeout
  rw [hc]
  exact if_neg (by simp only [ht, hn, hw]; decide)

/-- Settles O20, clause by clause: the requests at a repeat port, the reference, and the neighbour's request, answer and silence. -/
theorem adjudication : Obligations.Adjudication := by
  unfold Obligations.Adjudication
  intro k s
  refine ⟨fun h q hq => ⟨fun hcase hgated => ?plain, fun cmd hw => ?gated, fun no hw => ?case, ?withdrawn⟩,
    fun h q n view hq => ⟨fun hw => ?done, fun no hw => ?doneCase⟩,
    fun no c upset hc => ⟨fun hs ht hh => ?reference, fun j hs ha hp hw => ?request, fun v hs hv ht => ?answer,
      fun hs ht ha hw => ⟨fun h0 => ?first, fun h0 => ?second⟩⟩⟩
  case plain =>
    cases hw : q.what with
    | case no => exact absurd hw (hcase no)
    | gated cmd => exact absurd hw (hgated cmd)
    | steering cmd =>
      rw [← hw]
      exact runs_of_exec rfl (repeatStart_found hq hw) rfl
  case gated => exact runs_of_exec rfl (repeatStart_found hq hw) rfl
  case case => exact runs_of_exec rfl (repeatStart_found hq hw) rfl
  case withdrawn => exact runs_of_exec rfl (repeatWithdraw_found hq) rfl
  case done => exact runs_of_exec rfl (repeatDone_command hq hw _ _) rfl
  case doneCase => exact runs_of_exec rfl (repeatDone_case hq hw _ _) rfl
  case reference => exact runs_of_exec rfl ((if_neg (by rw [hs]; decide)).trans (referenceT1Done_held hc ht hh upset)) rfl
  case request =>
    have hk := kept_recompute_fst (s.count (uTST j.val) TST_ADJ_SERVED_COUNT) j.val c upset
    have hcase := caseOf_congr ((hk.parts .adj (by decide)).trans (count_adj s (uTST j.val) TST_ADJ_SERVED_COUNT 1 0)) k.val no
    refine runs_of_exec rfl ((if_neg (by rw [hs]; decide)).trans (neighbourRequest_asked hc ha hp hw upset)) ⟨?_, ?_⟩
    · exact cnt_congr (hk.parts .ecnt (by decide)) (hk.parts .rcnt (by decide)) _ _ _
    · refine (congrArg (Option.map Case.t2p) (caseOf_updCase _ ?keepsNo _ _)).trans ?_
      case keepsNo => exact fun _ => rfl
      rw [hcase, hc]
      exact congrArg some (recompute_value (t := s.count (uTST j.val) TST_ADJ_SERVED_COUNT) j.val c upset)
  case answer => exact runs_of_exec rfl ((if_neg (by rw [hs]; decide)).trans (neighbourAnswer_waited hc hv ht)) rfl
  case first => exact runs_of_exec rfl (((if_neg (by rw [hs]; decide)).trans (neighbourTimeout_waited hc ht ha hw)).trans (if_pos h0)) rfl
  case second => exact runs_of_exec rfl (((if_neg (by rw [hs]; decide)).trans (neighbourTimeout_waited hc ht ha hw)).trans (if_neg h0)) rfl

end Sys2Proof.Machine
end

section
/-! Verdicts at a Hall, migrations to a spare, poison that cores report, and the history window (R253, R259-R262, R267, R269, R270, R274, R275). -/
namespace Sys2Proof.Machine
open Sys2Proof Host Sys2Proof.Claims
variable (s : State)

/-! Verdicts. -/

/-- The event of a verdict stays on its way through what the Hall does about it (R253, R275). -/
theorem mem_verdictEffect_transit (r : Nat) (v : Verdict) :
    ∃ e ∈ (s.verdictEffect r v).transit, e.code = 0x4000 + v.code ∧ e.puid = v.puid := by
  unfold State.verdictEffect
  extract_lets w told killed acted
  obtain ⟨e, hmem, hcode, hpuid, -⟩ := mem_raiseHist_transit s (s.entryOf v) (0x4000 + v.code) v.puid w.1 w.2.1 w.2.2
  have hacted : Kept allButEvents told acted := by
    unfold acted
    split
    · exact kept_enterFenced (.refl _ told) (by decide)
    · exact kept_enterFenced (.refl _ told) (by decide)
    · exact kept_enterFenced (.refl _ told) (by decide)
    · exact kept_replaysGo (Kept.u_steepFirst (kept_killCtx (.refl _ told) (by decide)) (by decide)) (by decide)
    · exact kept_updAdjOf (.refl _ told) (by decide)
    · exact .refl _ told
  exact ⟨e, (Kept.ite (kept_taintCtx hacted (by decide)) hacted).event (by decide) hmem, hcode, hpuid⟩

/-- What a Hall does about a verdict counts no item. -/
theorem verdictEffect_chan (r : Nat) (v : Verdict) (c : Nat) : (s.verdictEffect r v).chan c = s.chan c :=
  chan_congr s ((kept_verdictEffect (A := allBut .chans) (.refl _ s) (by decide)).parts .chans (by decide)) c

/-- The oldest verdict on its way to a Hall is acted on, as one item of its Taster's channel (R253, R270). -/
theorem hallVerdict_oldest {s : State} {r : Nat} {v : Verdict} {vs : List Verdict} (hv : s.verdictsOf r = v :: vs)
    (hp : (s.hall r).procHeld = false) :
    hallVerdict s r = (((s.updVerdictsOf r (fun _ => vs)).item (chTst v.cluster)).hallAct r 1 v.puid).verdictEffect r v := by
  unfold hallVerdict
  rw [hv]
  exact if_neg (by rw [hp]; exact Bool.false_ne_true)

/-! Migrations. -/

/-- A core that is fenced and idle, in a cluster with no other migration or wider reset, so that it may be swapped out (R260). -/
def mayMigrate (k p : Nat) : Prop :=
  (s.core (ckey k p)).fence = true ∧ (s.core (ckey k p)).cmd = none ∧ s.coreResetting k p = false ∧ (s.port k).mig = none ∧ s.widerReset k = false

/-- The swap-out of core `p`, which serves as logical core `l`, for the spares that are free: the first takes its state, and without one its logical core
is lost (R260-R262). -/
def swapOut (k p l : Nat) : List Nat → State
  | d :: _ =>
    let u := (s.updPort k (fun x => { x with mig := some ⟨p, d, l, (s.unit (puCore k p)).steep, none⟩ })).updCore (ckey k p)
      (fun c => { c with logical := some l })
    if (s.unit (puCore k p)).steep then u.updCore (ckey k d) (fun c => { c with lent := true }) else u
  | [] => ((s.updPort k (fun x => { x with coreShadow := x.coreShadow ++ [(l, 0)], commit := true })).raiseOnce 0 0x4022 (puTst k) l).drainWafer
      (puCore k p)

/-- At its boundary a core that may be swapped out is, but a steep waits while it would borrow the last spare. -/
theorem fenceBoundary_of_mayMigrate {s : State} {k p l : Nat} (h : mayMigrate s k p) (hl : s.logicalOf k p = some l) :
    fenceBoundary s k p =
      if (s.unit (puCore k p)).steep && decide ((s.spares k).length < 2) then s else swapOut s k p l (s.spares k) := by
  obtain ⟨hfence, hcmd, hreset, hmig, hwider⟩ := h
  unfold fenceBoundary
  dsimp only
  rw [if_neg (by rw [hfence, hcmd, hreset, hmig, hwider]; decide), hl]
  cases s.spares k <;> rfl

/-- The first spare that is free takes a core's state. -/
theorem swapOut_mig (k p l d : Nat) (ds : List Nat) :
    ((swapOut s k p l (d :: ds)).port k).mig = some ⟨p, d, l, (s.unit (puCore k p)).steep, none⟩ := by
  unfold swapOut
  dsimp only
  split
  · rw [port_congr _ (updCore_ports _ _ _), port_congr _ (updCore_ports _ _ _), port_updPort_same]
  · rw [port_congr _ (updCore_ports _ _ _), port_updPort_same]

/-- A core without a spare is told of with 0x4022. -/
theorem mem_swapOut_transit {s : State} {k : Nat} (hm : s.marks.contains (puTst k, 0x4022, 0) = false) (p l : Nat) :
    event s 0x4022 (puTst k) l ∈ (swapOut s k p l []).transit :=
  (kept_drainWafer (A := allButEvents) (.refl _ _) (by decide)).event (by decide)
    (mem_raiseOnce_transit (s := s.updPort k (fun x => { x with coreShadow := x.coreShadow ++ [(l, 0)], commit := true })) hm l 0 0)

/-- The first spare is taken where there is a second one, or no steep asks for it. -/
theorem fenceBoundary_takes {s : State} {k p l d : Nat} {ds : List Nat} (h : mayMigrate s k p) (hl : s.logicalOf k p = some l)
    (hs : s.spares k = d :: ds) (hmore : (s.unit (puCore k p)).steep = false ∨ ds ≠ []) :
    ((fenceBoundary s k p).port k).mig = some ⟨p, d, l, (s.unit (puCore k p)).steep, none⟩ := by
  have hmay : ¬ ((s.unit (puCore k p)).steep && decide ((s.spares k).length < 2)) = true := by
    rcases hmore with hsteep | hds
    · rw [hsteep, Bool.false_and]
      exact Bool.false_ne_true
    · have hlen : 0 < ds.length := List.length_pos_iff.mpr hds
      rw [hs, List.length_cons, decide_eq_false (by omega), Bool.and_false]
      exact Bool.false_ne_true
  rw [fenceBoundary_of_mayMigrate h hl, if_neg hmay, hs]
  exact swapOut_mig s k p l d ds

/-- A steep waits while it would borrow the last spare. -/
theorem fenceBoundary_steepWaits {s : State} {k p l : Nat} (h : mayMigrate s k p) (hl : s.logicalOf k p = some l)
    (hsteep : (s.unit (puCore k p)).steep = true) (hlen : (s.spares k).length < 2) : fenceBoundary s k p = s := by
  rw [fenceBoundary_of_mayMigrate h hl]
  exact if_pos (by rw [hsteep, decide_eq_true hlen]; rfl)

/-- A fenced core without a spare is told of with 0x4022. -/
theorem mem_fenceBoundary_noSpare {s : State} {k p l : Nat} (h : mayMigrate s k p) (hl : s.logicalOf k p = some l) (hs : s.spares k = [])
    (hsteep : (s.unit (puCore k p)).steep = false) (hm : s.marks.contains (puTst k, 0x4022, 0) = false) :
    event s 0x4022 (puTst k) l ∈ (fenceBoundary s k p).transit := by
  rw [fenceBoundary_of_mayMigrate h hl, hs, hsteep]
  exact mem_swapOut_transit hm p l

/-- A core's copied state is mapped to the spare (R259, R261). -/
theorem migrationDone_port {s : State} {k : Nat} {m : Migration} (hm : (s.port k).mig = some m) (cycles : Nat) :
    (migrationDone s k cycles).port k = { s.port k with
      mig := some { m with copied := some cycles }, coreShadow := (s.port k).coreShadow ++ [(m.logical, m.dst + 1024)], commit := true } := by
  unfold migrationDone
  rw [hm]
  exact port_updPort_same s k _

/-! Poison. -/

/-- Poison delivered to a live context is told of, and kills it (R267, R268). -/
theorem mem_poisonReport_live {s : State} {c : Nat} (h0 : c ≠ 0) (hlive : (s.ctx c).state = 1) (hkill : (s.ctx c).killed = false) (k p layer op : Nat) :
    ∃ e ∈ (poisonReport s k p c layer op).transit, e.code = 0x4050 ∧ e.puid = puCore k p ∧ e.p5 = c * 2 ^ 16 % 2 ^ 32 ∧
      e.p6 = (layer * 2 ^ 16 + op) % 2 ^ 32 := by
  unfold poisonReport
  dsimp only
  rw [if_neg (by rw [hlive, hkill]; simp [h0])]
  exact ⟨_, (kept_replaysGo (A := allButEvents) (kept_killCtx (.refl _ _) (by decide)) (by decide)).event (by decide) (mem_raise_transit _ _ _ _ _ _),
    rfl, rfl, rfl, rfl⟩

/-- Poison delivered to any other context is only counted (R269). -/
theorem poisonReport_dead {s : State} {c : Nat} (h : c = 0 ∨ (s.ctx c).state ≠ 1 ∨ (s.ctx c).killed = true) (k p layer op : Nat) :
    poisonReport s k p c layer op = s.count (uTST k) TST_PSN_RETIRED_COUNT := by
  unfold poisonReport
  exact if_pos h

/-! The history window. -/

/-- A unit's table is latched, where it has one, and FOUND says so (R274). -/
theorem historySelect_latched (p : Nat) :
    (historySelect s p).histLatch = (if (s.histOf p).made then some (s.histOf p) else none) ∧
      (historySelect s p).isSet uBRW BRW_HIST_STAT_FOUND = (s.histOf p).made := by
  refine ⟨rfl, ?_⟩
  unfold historySelect State.isSet
  rw [rd_flag_same]
  cases (s.histOf p).made <;> rfl

/-- Settles O21, clause by clause: the oldest verdict, a fenced core's boundary, a core copied, poison, and the history window. -/
theorem verdictsAndSpares : Obligations.VerdictsAndSpares := by
  unfold Obligations.VerdictsAndSpares
  intro s
  refine ⟨fun r v vs hv hp => ?verdict, fun k p l hfence hcmd hreset hmig hwider hl => ?boundary, fun k cycles err m hm => ?copied,
    fun k p ctx layer oper => ⟨fun h0 hlive hkill => ?poison, fun hdead => ?counted⟩, fun data hw ht => ?window⟩
  case verdict =>
    refine runs_of_exec rfl (hallVerdict_oldest hv hp) ⟨?_, mem_verdictEffect_transit _ _ _⟩
    rw [verdictEffect_chan]
    exact item_items (s.updVerdictsOf r.val (fun _ => vs)) (chTst v.cluster)
  case boundary =>
    have hmay : mayMigrate s k.val p.val := ⟨hfence, hcmd, hreset, hmig, hwider⟩
    exact ⟨fun d ds hs hmore => runs_of_exec rfl rfl (fenceBoundary_takes hmay hl hs hmore),
      fun hsteep hlen => runs_of_exec rfl (fenceBoundary_steepWaits hmay hl hsteep hlen) rfl,
      fun hs hsteep hm => runs_of_exec rfl rfl (mem_fenceBoundary_noSpare hmay hl hs hsteep hm)⟩
  case copied =>
    refine runs_of_exec rfl rfl ?_
    rw [migrationDone_port hm]
    exact ⟨rfl, rfl, rfl⟩
  case poison =>
    obtain ⟨e, hmem, hcode, hpuid, hp5, hp6⟩ := mem_poisonReport_live h0 hlive hkill k.val p.val layer.toNat oper.toNat
    have hfits : layer.toNat * 2 ^ 16 + oper.toNat < 2 ^ 32 := by
      have hlayer : layer.toNat < 2 ^ 16 := layer.isLt
      have hoper : oper.toNat < 2 ^ 16 := oper.isLt
      omega
    exact runs_of_exec rfl rfl ⟨e, hmem, hcode, hpuid, hp5, hp6.trans (Nat.mod_eq_of_lt hfits)⟩
  case counted => exact runs_of_exec rfl (poisonReport_dead hdead _ _ _ _) rfl
  case window =>
    have hhist : (s.count uBRW BRW_WIN_WR_COUNT).histOf data.toNat = s.histOf data.toNat := histOf_congr s (count_hist _ _ _ _ _) _
    rw [← hhist]
    exact runs_of_exec rfl (hostOp_of_writable ht hw _ _ _) (historySelect_latched (s.count uBRW BRW_WIN_WR_COUNT) data.toNat)

end Sys2Proof.Machine
end

section
/-! Mailbox slots, and the messages that open, seed, resume, feed and close contexts (R254, R383, R449, R457, R468, R538, R545, R547, R549-R551). -/
namespace Sys2Proof.Machine
open Sys2Proof Host Sys2Proof.Claims
variable (s : State)

/-! Mailbox slots. -/

/-- The slots and the numbers last taken from them are as before. -/
def slotsKept (s t : State) : Prop := t.mbx.slots = s.mbx.slots ∧ t.mbx.acks = s.mbx.acks

theorem slotsKept_of_mbx {s t : State} (h : t.mbx = s.mbx) : slotsKept s t := by
  unfold slotsKept
  rw [h]
  exact ⟨rfl, rfl⟩

theorem slotsKept_trans {s t u : State} (h : slotsKept s t) (h' : slotsKept t u) : slotsKept s u := ⟨h'.1.trans h.1, h'.2.trans h.2⟩

/-- A record made for the host finds its place outside the slots. -/
theorem slotsKept_cpl (c : Cpl) : slotsKept s (s.cpl c) := by
  unfold State.cpl
  split
  · split
    · exact ⟨rfl, rfl⟩
    · exact ⟨rfl, rfl⟩
  · split
    · exact ⟨rfl, rfl⟩
    · exact ⟨rfl, rfl⟩

theorem slotsKept_answer (m : Msg) (status : Nat) (fs : List (Nat × Nat)) : slotsKept s (s.answer m status fs) := by
  unfold State.answer
  dsimp only
  split
  · exact slotsKept_of_mbx ((kept_mctpOut (A := allBut .mbx) (.refl _ s) (by decide)).parts .mbx (by decide))
  · split
    · exact ⟨rfl, rfl⟩
    · exact slotsKept_cpl s _

theorem slotsKept_refuse (m : Msg) (status : Nat) : slotsKept s (s.refuse m status) := by
  have hcounted : slotsKept s ((s.count (uMBX 0) MBX_REFUSED_COUNT).raiseOnce 0 0xB010 s.puActive m.type status m.slot) :=
    slotsKept_of_mbx ((kept_raiseOnce (A := allBut .mbx) (kept_count (.refl _ s) (by decide)) (by decide)).parts .mbx (by decide))
  exact slotsKept_trans hcounted (slotsKept_answer _ _ _ _)

/-- A message that is taken waits for the processors, or is refused; the slots are as before. -/
theorem slotsKept_msgTake (m : Msg) : slotsKept s (s.msgTake m) := by
  unfold State.msgTake
  dsimp only
  split
  · exact slotsKept_refuse s m _
  · exact ⟨rfl, rfl⟩

/-- The number that a slot holds. -/
def slotSeq (n : Nat) : Nat := Tab.get (fun _ => 0) s.mbx.slots (64 * n + 1)

/-- The message of a slot noted as taken. -/
def ackSlot (n : Nat) : State := { s with mbx := { s.mbx with acks := Tab.put (fun _ => 0) s.mbx.acks n (slotSeq s n) } }

/-- What a scan does with one slot (R545, R547). -/
def scanSlot (changed : List Nat) (n : Nat) : State :=
  if slotSeq s n = 0 ∨ slotSeq s n = s.slotAck n ∨ changed.contains n then s
  else ((ackSlot s n).count (uMBX 0) MBX_TAKEN_COUNT).msgTake (msgOf n (s.slotBytesAt n))

theorem mailboxScan_slots {s : State} (hr : s.recording = true) (hf : s.firmDown = false) (changed : List Nat) :
    mailboxScan s changed = s.each (List.range 64) (fun t n => scanSlot t changed n) := by
  unfold mailboxScan
  exact if_neg (by rw [hr, hf]; decide)

/-- A slot's message that is taken leaves the slots, and notes the slot's number. -/
theorem slotsKept_taken (n : Nat) (m : Msg) : slotsKept (ackSlot s n) (((ackSlot s n).count (uMBX 0) MBX_TAKEN_COUNT).msgTake m) :=
  slotsKept_trans (slotsKept_of_mbx (count_mbx _ _ _ _ _)) (slotsKept_msgTake _ m)

/-- A scan's look at one slot leaves what the slots hold. -/
theorem scanSlot_slotSeq (changed : List Nat) (n j : Nat) : slotSeq (scanSlot s changed n) j = slotSeq s j := by
  unfold scanSlot
  split
  · rfl
  · unfold slotSeq
    rw [(slotsKept_taken s n _).1]
    rfl

/-- The slot looked at is acknowledged unless it is empty or was rewritten meanwhile. -/
theorem scanSlot_ack_same {s : State} {changed : List Nat} {n : Nat} (h0 : slotSeq s n ≠ 0) (hc : changed.contains n = false) :
    (scanSlot s changed n).slotAck n = slotSeq s n := by
  unfold scanSlot
  split
  · next h =>
    rcases h with h | h | h
    · exact absurd h h0
    · exact h.symm
    · exact absurd h (by rw [hc]; exact Bool.false_ne_true)
  · unfold State.slotAck
    rw [(slotsKept_taken s n _).2]
    exact Tab.get_put_same _ _ _ _

/-- The other slots' acknowledgements stay. -/
theorem scanSlot_ack_other {n j : Nat} (h : j ≠ n) (changed : List Nat) : (scanSlot s changed n).slotAck j = s.slotAck j := by
  unfold scanSlot
  split
  · rfl
  · unfold State.slotAck
    rw [(slotsKept_taken s n _).2]
    exact Tab.get_put_other _ _ h _

/-- A slot that a scan has passed, or that was acknowledged before, is acknowledged after it. -/
theorem scanSlots_ack {s : State} {changed : List Nat} {n : Nat} (h0 : slotSeq s n ≠ 0) (hc : changed.contains n = false) (l : List Nat)
    (h : n ∈ l ∨ s.slotAck n = slotSeq s n) : (s.each l (fun t j => scanSlot t changed j)).slotAck n = slotSeq s n := by
  induction l generalizing s with
  | nil => exact h.resolve_left (List.not_mem_nil)
  | cons j l ih =>
    have hseq : slotSeq (scanSlot s changed j) n = slotSeq s n := scanSlot_slotSeq s changed j n
    rw [← hseq]
    refine ih (by rw [hseq]; exact h0) ?_
    rw [hseq]
    by_cases hj : n = j
    · subst hj
      exact .inr (scanSlot_ack_same h0 hc)
    · rw [scanSlot_ack_other s hj]
      exact h.imp_left fun hmem => (List.mem_cons.mp hmem).resolve_left hj

/-! HELLO. -/

/-- An event, raised or not, leaves the mailbox and whether the host is present. -/
theorem raiseIf_mbx (P : Prop) [Decidable P] (c p x y z : Nat) : (if P then s.raise c p x y z else s).mbx = s.mbx := by
  split <;> rfl

theorem raiseIf_absent (P : Prop) [Decidable P] (c p x y z : Nat) : (if P then s.raise c p x y z else s).absent = s.absent := by
  split
  · exact congrArg (· != 0) (rd_raise_apart s (by decide) _ _ _ _ _ _)
  · rfl

/-- A hello answers first, frees what was kept through an absence, and makes the host present (R538, R549, R560). -/
theorem hello_greets {s : State} {m : Msg} (hm : first s 0x0001 m) :
    (hello s).mbx.hbAt = s.now ∧ (hello s).mbx.kept = [] ∧ (hello s).mbx.note = 0 ∧ (hello s).absent = false ∧
      ∃ c ∈ (hello s).mbx.out, c.ctype = 2 ∧ c.mseq = m.seq ∧ c.slot = m.slot := by
  have hnow : (((inHand s m).negotiate m).armRing m).now = s.now := now_of_wall s
    ((kept_armRing (A := allBut .wall) (kept_negotiate (.refl _ (inHand s m)) (by decide)) (by decide)).parts .wall (by decide))
  unfold hello
  rw [onMsg_first hm]
  extract_lets u was note common ms kept drop ans ret armed box greeted shown
  have habs : shown.absent = false := by
    unfold State.absent State.isSet shown
    rw [rd_mbxCounts _ (by decide), rd_flag_apart _ (by decide), rd_flag_same]
    rfl
  rw [raiseIf_mbx, raiseIf_absent]
  exact ⟨hnow, rfl, rfl, habs, ans, List.mem_cons_self, rfl, rfl, rfl⟩

/-! The log of a recording. -/

/-- A field that neither an entry of the log nor an event writes. -/
def Fld.offLog (F : Fld) : Bool :=
  Fld.apart F PRV_REC_STAT_FULL && Fld.apart F PRV_REC_USED_BYTES && Fld.apart F PRV_REC_POS_SEQ && Fld.apart F PG_EVT_CLASS

theorem rd_record {F : Fld} (h : Fld.offLog F = true) (u kind ctx step : Nat) (input : List Byte) :
    (s.record kind ctx step input).rd u F = s.rd u F := by
  unfold Fld.offLog at h
  simp only [Bool.and_eq_true] at h
  obtain ⟨⟨⟨hfull, hused⟩, hseq⟩, hevt⟩ := h
  unfold State.record
  split
  · rfl
  · extract_lets keep used seq entry log
    split
    · rw [rd_raise_apart _ hevt, rd_flag_apart _ hfull]
    · rw [rd_wr_apart _ hseq, rd_wr_apart _ hused]
      rfl

/-- An entry of the log leaves whether a message is heard. -/
theorem hears_record {s : State} {m : Msg} (h : hears s m) (kind ctx step : Nat) (input : List Byte) : hears (s.record kind ctx step input) m := by
  unfold hears State.absent State.ringRoom State.isSet at h ⊢
  simp only [rd_record s (F := MBX_STAT_ABSENT) (by decide), rd_record s (F := MBX_RING_CFG_ENTRIES) (by decide),
    rd_record s (F := MBX_RING_TAIL_INDEX) (by decide), rd_record s (F := MBX_RING_HEAD_INDEX) (by decide)]
  exact h

/-- The active Brewhouse is read from BRW_ROLE alone. -/
theorem puActive_of_role {s t : State} (h : t.rd uBRW BRW_ROLE_ACTIVE = s.rd uBRW BRW_ROLE_ACTIVE) : t.puActive = s.puActive := by
  unfold State.puActive State.active
  rw [h]

/-- An entry of the log leaves which Brewhouse is active. -/
theorem record_puActive (kind ctx step : Nat) (input : List Byte) : (s.record kind ctx step input).puActive = s.puActive :=
  puActive_of_role (rd_record s (by decide) _ _ _ _ _)

/-- What an entry makes of the log rests on the registers, the log and the time alone. -/
theorem record_prv_congr {s t : State} (hregs : t.regs = s.regs) (hprv : t.prv = s.prv) (hwall : t.wall = s.wall) (kind ctx step : Nat)
    (input : List Byte) : (t.record kind ctx step input).prv = (s.record kind ctx step input).prv := by
  have hrd := rd_congr s hregs
  have hnow := now_of_wall s hwall
  unfold State.record State.isSet State.logBytes
  simp only [hrd, hnow]
  split
  · exact hprv
  · generalize (if input.length ≤ 65536 then input else []) = keep
    split
    · exact hprv
    · simp only [wr_prv, hprv]

/-! Contexts. -/

/-- A message that names no context in use, or may not be acted on, is refused (R551). -/
theorem withCtx_refused {s : State} {m : Msg} {ok : Bool} (h : (s.inUse m.ctx && ok) = false) (f : State → State) :
    s.withCtx m ok f = s.refuse m 5 := by
  unfold State.withCtx
  rw [h]
  rfl

/-- A context in use is not context 0, and is open. -/
theorem inUse_open {s : State} {c : Nat} (h : s.inUse c = true) : c ≠ 0 ∧ (s.ctx c).state = 1 := by
  unfold State.inUse at h
  simp only [Bool.and_eq_true, bne_iff_ne, beq_iff_eq] at h
  obtain ⟨⟨h0, hopen⟩, -⟩ := h
  exact ⟨h0, hopen⟩

/-- A refusal leaves the contexts and their own state. -/
theorem refuse_ctxs (m : Msg) (status : Nat) : (s.refuse m status).ctxs = s.ctxs :=
  (kept_refuse (A := allBut .ctxs) (.refl _ s) (by decide)).parts .ctxs (by decide)
theorem refuse_prv (m : Msg) (status : Nat) : (s.refuse m status).prv = s.prv :=
  (kept_refuse (A := allBut .prv) (.refl _ s) (by decide)).parts .prv (by decide)
theorem refuse_seeds (m : Msg) (status : Nat) : (s.refuse m status).seeds = s.seeds :=
  (kept_refuse (A := allBut .seeds) (.refl _ s) (by decide)).parts .seeds (by decide)
theorem answer_ctxs (m : Msg) (status : Nat) (fs : List (Nat × Nat)) : (s.answer m status fs).ctxs = s.ctxs :=
  (answer_kept s m status fs).parts .ctxs (by decide)

/-- The refusal of a message in hand is told where the message is heard. -/
theorem told_refuse_inHand {s : State} {m : Msg} (h : hears s m) (status : Nat) : told ((inHand s m).refuse m status) m status :=
  told_refuse (s := inHand s m) (hears_congr h rfl) status

/-- A seed that takes effect leaves whether a message is heard. -/
theorem hears_seedTake {s : State} {m : Msg} (h : hears s m) (c seed : Nat) : hears (s.seedTake c seed) m := by
  have hseeded : hears (s.updSeedOf c (fun _ => some seed)) m := hears_congr h rfl
  unfold State.seedTake
  exact hears_congr (hears_record hseeded 2 c 0 (leBytes 16 seed)) ((kept_inputChain (A := allBut .regs) (.refl _ _) (by decide)).parts .regs (by decide))

/-- The message in hand opens its context afresh, with its entry in the log. -/
def ctxOpened (m : Msg) : State := ((inHand s m).updCtx m.ctx (fun _ => { ctx0 m.ctx with state := 1 })).record 6 m.ctx 0 []

/-- The seed that a replay's log has for a context (R470). -/
def loggedSeed (c : Nat) : Option RecEnt :=
  match s.recordedCtx c with
  | none => none
  | some rc => (s.prv.log.filter (fun e => e.kind == 2 && e.ctx == rc)).getLast?

/-- The seed of an entry of the log takes effect; without one nothing does. -/
def seedFrom (c : Nat) : Option RecEnt → State
  | some e => s.seedTake c (leNat e.payload)
  | none => s

/-- A free context opens, and in a replay its recorded seed takes effect (R468, R470, R551). -/
theorem ctxOpen_free {s : State} {m : Msg} (hm : first s 0x0101 m) (h0 : m.ctx ≠ 0) (hfree : (s.ctx m.ctx).state = 0) (hoff : s.handedOff = true)
    (hq : s.rd uBRW BRW_WAFER_Q_STATE = 0) (hr : s.isSet uBRW BRW_WAFER_Q_REPLACE = false) :
    ctxOpen s = (seedFrom (ctxOpened s m) m.ctx (loggedSeed (ctxOpened s m) m.ctx)).answer m 0 [] := by
  unfold ctxOpen
  rw [onMsg_first hm]
  refine if_neg ?_
  show ¬ (m.ctx = 0 ∨ (s.ctx m.ctx).state ≠ 0 ∨ !s.handedOff ∨ s.rd uBRW BRW_WAFER_Q_STATE ≠ 0 ∨ s.isSet uBRW BRW_WAFER_Q_REPLACE)
  rw [hfree, hoff, hq, hr]
  simp [h0]

/-- A seed from the log leaves the contexts, and whether a message is heard. -/
theorem seedFrom_ctxs (c : Nat) (e : Option RecEnt) : (seedFrom s c e).ctxs = s.ctxs := by
  cases e with
  | none => rfl
  | some e => exact (kept_seedTake (A := allBut .ctxs) (.refl _ s) (by decide)).parts .ctxs (by decide)

theorem hears_seedFrom {s : State} {m : Msg} (h : hears s m) (c : Nat) (e : Option RecEnt) : hears (seedFrom s c e) m := by
  cases e with
  | none => exact h
  | some e => exact hears_seedTake h c _

/-- A context that opens is open. -/
theorem ctxOpened_state (m : Msg) : ((ctxOpened s m).ctx m.ctx).state = 1 := by
  have hk : Kept (allBut .ctxs) ((inHand s m).updCtx m.ctx (fun _ => { ctx0 m.ctx with state := 1 })) (ctxOpened s m) :=
    kept_record (.refl _ _) (by decide)
  rw [ctx_congr _ (hk.parts .ctxs (by decide)), ctx_updCtx_same]

/-- A context that is not free is not opened again. -/
theorem ctxOpen_taken {s : State} {m : Msg} (hm : first s 0x0101 m) (h : (s.ctx m.ctx).state ≠ 0) : ctxOpen s = (inHand s m).refuse m 5 := by
  unfold ctxOpen
  rw [onMsg_first hm]
  exact if_pos (.inr (.inl h))

/-- What an operation keeps of the registers, it keeps of which Brewhouse is active. -/
theorem Kept.puActive_eq {A : Nat} {s t : State} (h : Kept A s t) (hA : A.testBit Part.regs.bit = false) : t.puActive = s.puActive :=
  puActive_of_role (rd_congr s (h.parts .regs hA) _ _ _)

/-- An event before the gate cells are set anew stays on its way. -/
theorem mem_raise_regate_transit (u : Nat) (F : Fld) (code p c : Nat) :
    event s code p c ∈ (((s.bump u F).raise code p c).regate c).transit :=
  (kept_regate (A := allButEvents) (.refl _ _) (by decide)).event (by decide) (mem_raise_transit (s.bump u F) _ _ _ _ _)

/-- A context marked as retired, with its kill asked for by every Taster (R383; assumption 22). -/
def killAsked (c : Nat) : State :=
  (s.updCtx c (fun x => { x with
    state := 2, retCut := s.cutNo, seenCut := 0, taint := none
    gate := if x.killed && x.gate = 2 then 2 else 1 })).each (List.range Config.host.clusters) (fun s k =>
      if (s.port k).killing.contains c then s else s.updPort k (fun x => { x with killing := x.killing ++ [c] }))

theorem kept_killAsked (c : Nat) : Kept (maskOf [.ctxs, .ports]) s (killAsked s c) :=
  kept_each (kept_updCtx (.refl _ s) (by decide)) fun _ _ h => .ite h (kept_updPort h (by decide))

/-- A context that is not retired yet is. -/
theorem retire_first {s : State} {c : Nat} (h0 : c ≠ 0) (h2 : (s.ctx c).state ≠ 2) :
    s.retire c = (((killAsked s c).bump uBRW BRW_RET_STAT_RETIRED).raise 0x8050 (killAsked s c).puActive c).regate c := by
  unfold State.retire
  exact if_neg (not_or.mpr ⟨h0, h2⟩)

/-- A context that is retired is told of with 0x8050 (R383). -/
theorem mem_retire_transit {s : State} {c : Nat} (h0 : c ≠ 0) (h2 : (s.ctx c).state ≠ 2) : event s 0x8050 s.puActive c ∈ (s.retire c).transit := by
  have hk := kept_killAsked s c
  rw [retire_first h0 h2, ← hk.puActive_eq (by decide), ← hk.event_eq (by decide) (by decide)]
  exact mem_raise_regate_transit _ _ _ _ _ _

/-- A context in use that is closed is retired. -/
theorem mem_ctxTeardown_transit {s : State} {m : Msg} (hm : first s 0x0102 m) (hu : s.inUse m.ctx = true) :
    event s 0x8050 s.puActive m.ctx ∈ (ctxTeardown s).transit := by
  have hdo : ctxTeardown s = (((((inHand s m).record 7 m.ctx 0 []).leaveSets m.ctx).retire m.ctx).replaysGo).answer m 0 [] :=
    (onMsg_first hm _).trans (withCtx_ok (s := inHand s m) hu rfl _)
  obtain ⟨h0, hopen⟩ := inUse_open hu
  have hk : Kept (maskOf [.regs, .ecnt, .transit, .prv, .replays]) (inHand s m) (((inHand s m).record 7 m.ctx 0 []).leaveSets m.ctx) :=
    kept_leaveSets (kept_record (.refl _ _) (by decide)) (by decide)
  have hstate : ((((inHand s m).record 7 m.ctx 0 []).leaveSets m.ctx).ctx m.ctx).state ≠ 2 := by
    rw [ctx_congr _ (hk.parts .ctxs (by decide))]
    show (s.ctx m.ctx).state ≠ 2
    rw [hopen]
    decide
  have hact : (((inHand s m).record 7 m.ctx 0 []).leaveSets m.ctx).puActive = s.puActive := record_puActive (inHand s m) 7 m.ctx 0 []
  have htold := mem_retire_transit h0 hstate
  rw [hact, hk.event_eq (by decide) (by decide)] at htold
  rw [hdo]
  exact (kept_answer (A := allButEvents) (kept_replaysGo (.refl _ _) (by decide)) (by decide)).event (by decide) htold

/-- A context that is not in use is not closed. -/
theorem ctxTeardown_unused {s : State} {m : Msg} (hm : first s 0x0102 m) (hu : s.inUse m.ctx = false) : ctxTeardown s = (inHand s m).refuse m 5 :=
  (onMsg_first hm _).trans (withCtx_refused (s := inHand s m) (Bool.and_eq_false_iff.mpr (.inl hu)) _)

/-! Seeds. -/

/-- A seed that may not be set is refused (R449). -/
theorem seedSetMsg_refused {s : State} {m : Msg} (hm : first s 0x0103 m) (h : s.seedMay m.ctx = false) :
    seedSetMsg s = ((inHand s m).seedRefuse m.ctx).refuse m 5 := by
  unfold seedSetMsg State.seedSet
  rw [onMsg_first hm]
  exact if_pos (by show (!s.seedMay m.ctx) = true; rw [h]; rfl)

/-- The refusal of a seed shows in STATUS. -/
theorem rd_seedRefuse (c : Nat) : (s.seedRefuse c).rd uDRW DRW_SEED_CTRL_STATUS = 2 := by
  unfold State.seedRefuse
  rw [rd_raiseOnce_apart _ (by decide), rd_wr_same]
  rfl

/-- The regions whose Halls decide on a seed: those in use. -/
def seedRegions : List Nat :=
  (List.range Config.host.regions).filter (fun r => !s.regionLost r && !(s.unit (puHal r)).absent && !(s.unit (puHal r)).off)

theorem mem_seedRegions {s : State} {r : Nat} (hr : r < Config.host.regions) (hlost : s.regionLost r = false) (habs : (s.unit (puHal r)).absent = false)
    (hoff : (s.unit (puHal r)).off = false) : r ∈ seedRegions s :=
  List.mem_filter.mpr ⟨List.mem_range.mpr hr, by rw [hlost, habs, hoff]; rfl⟩

/-- A seed that may be set is put to the Hall of every region in use (R449). -/
theorem mem_seedSet_sent {s : State} {c : Nat} (h : s.seedMay c = true) (seed : Nat) (m : Option Msg) {r : Nat} (hr : r ∈ seedRegions s) :
    Out.ask 0x449 s.puActive (puHal r) c ∈ (s.seedSet c seed m).sent := by
  unfold State.seedSet
  rw [if_neg (by rw [h]; decide)]
  extract_lets rs status p asked
  have hact : asked.puActive = s.puActive :=
    puActive_of_role (rd_wr_apart s (F := BRW_ROLE_ACTIVE) (G := DRW_SEED_CTRL_STATUS) (by decide) uBRW uDRW 3)
  refine (kept_seedDecide (A := allButEvents) (.refl _ _) (by decide)).said.subset ?_
  rw [emits_sent, hact]
  exact List.mem_append_left _ (List.mem_reverse.mpr (List.mem_map_of_mem hr))

/-! Taints, inputs and marks. -/

/-- A context whose cut lies below its taint goes on without it (R254). -/
theorem ctxResume_tainted {s : State} {m : Msg} {x : Nat} (hm : first s 0x0104 m) (hx : (s.ctx m.ctx).taint = some x) (hu : s.inUse m.ctx = true)
    (hlt : leAt m.payload 0 6 < x) :
    ctxResume s = (((inHand s m).updCtx m.ctx (fun y => { y with taint := none })).regate m.ctx).answer m 0 [] := by
  have htaint : ((inHand s m).ctx m.ctx).taint = some x := hx
  unfold ctxResume
  rw [onMsg_first hm]
  dsimp only
  rw [htaint]
  exact withCtx_ok (s := inHand s m) hu (decide_eq_true hlt) _

/-- A context without a taint is not resumed. -/
theorem ctxResume_untainted {s : State} {m : Msg} (hm : first s 0x0104 m) (hx : (s.ctx m.ctx).taint = none) : ctxResume s = (inHand s m).refuse m 5 := by
  have htaint : ((inHand s m).ctx m.ctx).taint = none := hx
  unfold ctxResume
  rw [onMsg_first hm]
  dsimp only
  rw [htaint]
  exact withCtx_refused (s := inHand s m) (Bool.and_false _) _

/-- A declared input stands with its length and no data yet (R468). -/
theorem mem_inputDeclare_input {s : State} {m : Msg} (hm : first s 0x0105 m) (hu : s.inUse m.ctx = true) :
    ∃ q, (m.ctx, q, leAt m.payload 8 4, 0) ∈ (inputDeclare s).prv.input := by
  unfold inputDeclare
  rw [onMsg_first hm, withCtx_ok (s := inHand s m) hu rfl, answer_prv]
  exact ⟨_, List.mem_append_right _ (List.mem_singleton_self _)⟩

/-- The state once the next bytes of the last declared input of the message's context have come (R550). -/
def inputTaken (m : Msg) (q len got : Nat) : State :=
  let bs := m.payload.drop 8
  { inHand s m with prv := { s.prv with
    input := s.prv.input.map (fun e => if e.1 = m.ctx then (m.ctx, q, len, got + bs.length) else e)
    log := s.prv.log.map (fun e => if e.seq + 1 = q ∧ e.eflags = 0 then { e with payload := e.payload ++ bs } else e) } }

/-- Data in order, within what was declared, is taken. -/
theorem inputData_inOrder {s : State} {m : Msg} {c q len got : Nat} (hm : first s 0x0106 m)
    (hin : s.prv.input.find? (fun e => e.1 == m.ctx) = some (c, q, len, got)) (hu : s.inUse m.ctx = true) (hnext : leAt m.payload 0 4 = got)
    (hlen : got + (m.payload.drop 8).length ≤ len) : inputData s = (inputTaken s m q len got).answer m 0 [] := by
  have hin' : (inHand s m).prv.input.find? (fun e => e.1 == m.ctx) = some (c, q, len, got) := hin
  have hu' : (inHand s m).inUse m.ctx = true := hu
  unfold inputData
  rw [onMsg_first hm]
  dsimp only
  rw [hin']
  dsimp only
  rw [hu', if_neg (by decide), if_neg (by rw [hnext]; omega)]
  rfl

/-- The input that data came for stands with what it has now. -/
theorem mem_inputTaken {s : State} {m : Msg} {c q len got : Nat} (hin : s.prv.input.find? (fun e => e.1 == m.ctx) = some (c, q, len, got)) :
    (m.ctx, q, len, got + (m.payload.drop 8).length) ∈ (inputTaken s m q len got).prv.input := by
  have hctx : c = m.ctx := eq_of_beq (List.find?_some (p := fun e : Nat × Nat × Nat × Nat => e.1 == m.ctx) hin)
  exact List.mem_map.mpr ⟨(c, q, len, got), List.mem_of_find?_eq_some hin, if_pos hctx⟩

/-- Data out of order is refused with status 4. -/
theorem inputData_outOfOrder {s : State} {m : Msg} {c q len got : Nat} (hm : first s 0x0106 m)
    (hin : s.prv.input.find? (fun e => e.1 == m.ctx) = some (c, q, len, got)) (hu : s.inUse m.ctx = true) (hnext : leAt m.payload 0 4 ≠ got) :
    inputData s = (inHand s m).refuse m 4 := by
  have hin' : (inHand s m).prv.input.find? (fun e => e.1 == m.ctx) = some (c, q, len, got) := hin
  have hu' : (inHand s m).inUse m.ctx = true := hu
  unfold inputData
  rw [onMsg_first hm]
  dsimp only
  rw [hin']
  dsimp only
  rw [hu', if_neg (by decide), if_pos (.inl hnext)]

/-- A mark is an entry of the log (R468). -/
theorem markMsg_recorded {s : State} {m : Msg} (hm : first s 0x0107 m) (hu : s.inUse m.ctx = true) :
    markMsg s = ((inHand s m).record 8 m.ctx 0 m.payload).answer m 0 [] :=
  (onMsg_first hm _).trans (withCtx_ok (s := inHand s m) hu rfl _)

/-- Settles O40, clause by clause: the mailbox slots, HELLO, and the messages of a context's life. -/
theorem messagesOfContexts : Obligations.MessagesOfContexts := by
  unfold Obligations.MessagesOfContexts
  intro s m
  refine ⟨fun hr hf changed n h0 hn => ?scan, fun hm => ?hello,
    fun hm h0 => ⟨fun hfree hoff hq hrep => ?opens, fun htaken => ?taken⟩, fun hm => ⟨fun hu => ?closes, fun hu => ?unused⟩,
    fun hm => ⟨fun hmay => ?noSeed, fun hmay => ?seed⟩, fun hm => ⟨fun x hx hu hlt => ?resumes, fun hx => ?untainted⟩,
    fun hm hu => ?declares, fun hm c q len got hin hu => ⟨fun hnext hlen => ?data, fun hnext => ?disorder⟩, fun hm hu => ?marks⟩
  case scan =>
    have hc : (changed.map (·.val)).contains n.val = false := by
      rw [List.contains_eq_mem, decide_eq_false_iff_not]
      intro hmem
      obtain ⟨j, hj, hjn⟩ := List.mem_map.mp hmem
      exact hn (Fin.ext hjn ▸ hj)
    exact runs_of_exec rfl (mailboxScan_slots hr hf _) (scanSlots_ack h0 hc _ (.inl (List.mem_range.mpr n.isLt)))
  case hello => exact runs_of_exec rfl rfl (hello_greets hm)
  case opens =>
    refine runs_of_exec rfl (ctxOpen_free hm h0 hfree hoff hq hrep) ⟨?_, fun hear => ?_⟩
    · rw [ctx_congr _ (answer_ctxs _ _ _ _), ctx_congr _ (seedFrom_ctxs _ _ _)]
      exact ctxOpened_state s m
    · have hopened : hears (ctxOpened s m) m := hears_record (hears_congr (t := (inHand s m).updCtx m.ctx _) hear rfl) _ _ _ _
      exact told_answer (hears_seedFrom hopened _ _) _ _
  case taken => exact runs_of_exec rfl (ctxOpen_taken hm htaken) ⟨ctx_congr _ (refuse_ctxs (inHand s m) m 5) _, fun hear => told_refuse_inHand hear 5⟩
  case closes => exact runs_of_exec rfl rfl (mem_ctxTeardown_transit hm hu)
  case unused => exact runs_of_exec rfl (ctxTeardown_unused hm hu) ⟨refuse_ctxs (inHand s m) m 5, fun hear => told_refuse_inHand hear 5⟩
  case noSeed =>
    have hk : Kept (maskOf [.regs, .ecnt, .transit, .marks]) (inHand s m) ((inHand s m).seedRefuse m.ctx) := kept_seedRefuse (.refl _ _) (by decide)
    have hprv : ((inHand s m).seedRefuse m.ctx).prv = s.prv := hk.parts .prv (by decide)
    refine runs_of_exec rfl (seedSetMsg_refused hm hmay) ⟨?_, ?_, ?_⟩
    · rw [refuse_prv, hprv]
    · exact (refuse_seeds _ _ _).trans (hk.parts .seeds (by decide))
    · rw [rd_refuse _ (by decide), rd_seedRefuse]
  case seed =>
    exact runs_of_exec rfl (onMsg_first hm _) fun r hr hlost habs hoff =>
      mem_seedSet_sent (s := inHand s m) hmay _ _ (mem_seedRegions hr hlost habs hoff)
  case resumes => exact runs_of_exec rfl (ctxResume_tainted hm hx hu hlt) rfl
  case untainted => exact runs_of_exec rfl (ctxResume_untainted hm hx) ⟨refuse_ctxs (inHand s m) m 5, fun hear => told_refuse_inHand hear 5⟩
  case declares => exact runs_of_exec rfl rfl (mem_inputDeclare_input hm hu)
  case data =>
    refine runs_of_exec rfl (inputData_inOrder hm hin hu hnext hlen) ⟨?_, fun hear => ?_⟩
    · rw [answer_prv]
      exact mem_inputTaken hin
    · exact told_answer (s := inputTaken s m q len got) (hears_congr hear rfl) 0 []
  case disorder => exact runs_of_exec rfl (inputData_outOfOrder hm hin hu hnext) ⟨refuse_prv (inHand s m) m 4, fun hear => told_refuse_inHand hear 4⟩
  case marks =>
    refine runs_of_exec rfl (markMsg_recorded hm hu) ⟨?_, fun hear => told_answer (hears_record (s := inHand s m) (hears_congr hear rfl) _ _ _ _) _ _⟩
    rw [answer_prv]
    exact record_prv_congr (s := s) (t := inHand s m) rfl rfl rfl _ _ _ _

end Sys2Proof.Machine
end

section
/-! Memory in its canonical form, over every step (R309, R335, R416, R575). -/
namespace Sys2Proof.Machine
open Sys2Proof Host Sys2Proof.Claims

/-- Every command that runs on a memory in its canonical form leaves it so. -/
theorem exec_mem_wf {c : Instr} {s t : State} (hwf : Memory.wf s.mem = true) (h : exec c s = .next t) : Memory.wf t.mem = true :=
  (exec_kept c s t h).mem hwf

/-- Settles O53: a tick leaves memory alone, and a command keeps its form. -/
theorem everyStepKeepsMemoryCanonical : Obligations.EveryStepKeepsMemoryCanonical := by
  unfold Obligations.EveryStepKeepsMemoryCanonical
  intro s t hwf h
  cases hq : s.pending with
  | nil =>
    rw [step_nil hq] at h
    cases h
    exact hwf
  | cons c cs =>
    rw [step_cons hq] at h
    exact exec_mem_wf (s := s.rest cs) hwf h

end Sys2Proof.Machine
end

section
/-! The commands of a Cellar's slice table (R282, R287, R290, R291, R293, R312). -/
namespace Sys2Proof.Machine
open Sys2Proof Host Sys2Proof.Claims
variable (s : State)

/-! What shows of a Cellar's tables. -/

/-- A field other than the six that show the sizes of a Cellar's tables. -/
def Fld.offCel (F : Fld) : Bool :=
  Fld.apart F CEL_PSN_STAT_ENTRIES && Fld.apart F CEL_PSN_RANGES_USED && Fld.apart F CEL_REP_STAT_QUEUED && Fld.apart F CEL_REP_STAT_RUNNING &&
    Fld.apart F CEL_SLICE_COUNT_VALID && Fld.apart F CEL_SLICE_COUNT_USED

/-- The counts that follow a Cellar's tables leave every other register. -/
theorem rd_showCel {F : Fld} (h : Fld.offCel F = true) (u c : Nat) : (s.showCel c).rd u F = s.rd u F := by
  unfold Fld.offCel at h
  simp only [Bool.and_eq_true] at h
  obtain ⟨⟨⟨⟨⟨hentries, hranges⟩, hqueued⟩, hrunning⟩, hvalid⟩, hused⟩ := h
  unfold State.showCel
  dsimp only
  rw [rd_wr_apart _ hused, rd_wr_apart _ hvalid, rd_wr_apart _ hrunning, rd_wr_apart _ hqueued, rd_wr_apart _ hranges, rd_wr_apart _ hentries]

/-- They leave the Cellars and the events on their way. -/
theorem showCel_cel (c k : Nat) : (s.showCel c).cel k = s.cel k := rfl
theorem showCel_transit (c : Nat) : (s.showCel c).transit = s.transit := rfl

/-- STATUS reads as it was set. -/
theorem rd_sliceStatus (c : Nat) {st : Nat} (h : st < 8) : (s.sliceStatus c st).rd (uCEL c) CEL_SLICE_CMD_STATUS = st := by
  unfold State.sliceStatus
  rw [rd_wr_same]
  exact Nat.mod_eq_of_lt (Nat.lt_of_lt_of_le h (by decide))

/-! The commands. -/

/-- WRITE of a used entry is refused. -/
theorem sliceWrite_used {s : State} {c : Nat} (h : (s.slice c (s.rd (uCEL c) CEL_SLICE_SEL_INDEX)).isSome = true) :
    sliceWrite s c = s.sliceStatus c 3 := by
  unfold sliceWrite
  exact if_pos h

/-- WRITE of a stage that breaks a rule is refused. -/
theorem sliceWrite_bad {s : State} {c : Nat} (h : s.slice c (s.rd (uCEL c) CEL_SLICE_SEL_INDEX) = none)
    (hbad : s.sliceBad c (s.rd (uCEL c) CEL_SLICE_STAGE) (stagedSlice (s.rd (uCEL c) CEL_SLICE_STAGE)) = true) :
    sliceWrite s c = s.sliceStatus c 4 := by
  unfold sliceWrite
  dsimp only
  rw [h, if_neg (by decide), if_pos hbad]

/-- The state once the staged slice stands in the entry that is selected. -/
def sliceEntered (c : Nat) : State :=
  let i := s.rd (uCEL c) CEL_SLICE_SEL_INDEX
  s.updCel c (fun y => { y with
    slices := Tab.insert i (stagedSlice (s.rd (uCEL c) CEL_SLICE_STAGE)) y.slices, rot := { y.rot with outside := i :: y.rot.outside } })

/-- WRITE of a good stage into an empty entry enters it. -/
theorem sliceWrite_enters {s : State} {c : Nat} (h : s.slice c (s.rd (uCEL c) CEL_SLICE_SEL_INDEX) = none)
    (hgood : s.sliceBad c (s.rd (uCEL c) CEL_SLICE_STAGE) (stagedSlice (s.rd (uCEL c) CEL_SLICE_STAGE)) = false) :
    sliceWrite s c = ((sliceEntered s c).sliceStatus c 2).showCel c := by
  unfold sliceWrite
  dsimp only
  rw [h, if_neg (by decide), hgood, if_neg (by decide)]
  rfl

/-- What STATUS and the counts of the tables show leaves the entries. -/
theorem slice_sliceStatus_showCel (c st k i : Nat) : ((s.sliceStatus c st).showCel c).slice k i = s.slice k i := rfl

/-- The entry that is selected holds the staged slice. -/
theorem sliceEntered_slice (c : Nat) : (((sliceEntered s c).sliceStatus c 2).showCel c).slice c (s.rd (uCEL c) CEL_SLICE_SEL_INDEX) =
    some (stagedSlice (s.rd (uCEL c) CEL_SLICE_STAGE)) := by
  rw [slice_sliceStatus_showCel]
  unfold sliceEntered State.slice
  rw [cel_updCel_same]
  exact Tab.find_insert_same _ _ _

/-- A STATUS that is set stays through the counts of the tables. -/
theorem rd_sliceStatus_showCel (c : Nat) {st : Nat} (h : st < 8) : ((s.sliceStatus c st).showCel c).rd (uCEL c) CEL_SLICE_CMD_STATUS = st := by
  rw [rd_showCel _ (by decide), rd_sliceStatus s c h]

/-- DROP leaves the entry EMPTY. -/
theorem sliceDrop_slice (c : Nat) : (sliceDrop s c).slice c (s.rd (uCEL c) CEL_SLICE_SEL_INDEX) = none := by
  unfold sliceDrop
  dsimp only
  rw [slice_sliceStatus_showCel]
  unfold State.slice
  rw [cel_updCel_same]
  exact Tab.find_erase_same _ _

/-- It ends with STATUS 2. -/
theorem rd_sliceDrop (c : Nat) : (sliceDrop s c).rd (uCEL c) CEL_SLICE_CMD_STATUS = 2 := by
  unfold sliceDrop
  exact rd_sliceStatus_showCel _ c (by decide)

/-- VERIFY of a LOADING slice queues its digest. -/
theorem sliceVerify_loading {s : State} {c : Nat} {e : SliceEnt} (h : s.slice c (s.rd (uCEL c) CEL_SLICE_SEL_INDEX) = some e) (hst : e.state = 1) :
    sliceVerify s c = ((s.sliceState c (s.rd (uCEL c) CEL_SLICE_SEL_INDEX) 2).updCel c
      (fun x => { x with cmds := x.cmds ++ [(s.rd (uCEL c) CEL_SLICE_SEL_INDEX, 2)] })).sliceStatus c 1 := by
  unfold sliceVerify
  dsimp only
  rw [h]
  exact if_pos hst

/-- VERIFY of any other slice is refused. -/
theorem sliceVerify_refused {s : State} {c : Nat} {e : SliceEnt} (h : s.slice c (s.rd (uCEL c) CEL_SLICE_SEL_INDEX) = some e) (hst : e.state ≠ 1) :
    sliceVerify s c = s.sliceStatus c 3 := by
  unfold sliceVerify
  dsimp only
  rw [h]
  exact if_neg hst

/-- REDIGEST of a VALID or DOUBT slice queues its digest. -/
theorem sliceRedigest_queued {s : State} {c : Nat} {e : SliceEnt} (h : s.slice c (s.rd (uCEL c) CEL_SLICE_SEL_INDEX) = some e)
    (hst : e.state = 3 ∨ e.state = 6) :
    sliceRedigest s c =
      (s.updCel c (fun x => { x with cmds := x.cmds ++ [(s.rd (uCEL c) CEL_SLICE_SEL_INDEX, 4)] })).sliceStatus c 1 := by
  unfold sliceRedigest
  dsimp only
  rw [h]
  exact if_pos hst

/-- REDIGEST of any other slice is refused. -/
theorem sliceRedigest_refused {s : State} {c : Nat} {e : SliceEnt} (h : s.slice c (s.rd (uCEL c) CEL_SLICE_SEL_INDEX) = some e)
    (h3 : e.state ≠ 3) (h6 : e.state ≠ 6) : sliceRedigest s c = s.sliceStatus c 3 := by
  unfold sliceRedigest
  dsimp only
  rw [h]
  exact if_neg (not_or.mpr ⟨h3, h6⟩)

/-- A command put last in a Cellar's queue of digests waits there. -/
theorem mem_cmdQueued (c st : Nat) (q : Nat × Nat) :
    q ∈ (((s.updCel c (fun x => { x with cmds := x.cmds ++ [q] })).sliceStatus c st).cel c).cmds := by
  unfold State.sliceStatus
  rw [cel_congr _ (wr_cels _ _ _ _ _), cel_updCel_same]
  exact List.mem_append_right _ (List.mem_singleton_self _)

/-- Settles O15: each command through the write of CEL_SLICE_CMD, by the branch that the selected entry takes. -/
theorem sliceCommands : Obligations.SliceCommands := by
  unfold Obligations.SliceCommands
  intro c s hw ht
  have hop : ∀ (d : Nat) (f : State → State), s.hostOp (uCEL c.val) 0x504 d f = f (s.count uBRW BRW_WIN_WR_COUNT) :=
    fun d f => hostOp_of_writable ht hw 0x504 d f
  refine ⟨fun hused => ?used, fun hnone hbad => ?bad, fun hnone hgood => ?enters, ?drop,
    fun e he => ⟨fun hst => ?loading, fun hst => ?notLoading, fun hst => ?redigest, fun h3 h6 => ?refused⟩⟩
  case used => exact runs_of_exec rfl ((hop _ _).trans (sliceWrite_used hused)) (rd_sliceStatus _ _ (by decide))
  case bad => exact runs_of_exec rfl ((hop _ _).trans (sliceWrite_bad hnone hbad)) (rd_sliceStatus _ _ (by decide))
  case enters =>
    exact runs_of_exec rfl ((hop _ _).trans (sliceWrite_enters hnone hgood))
      ⟨rd_sliceStatus_showCel _ _ (by decide), sliceEntered_slice (s.count uBRW BRW_WIN_WR_COUNT) c.val⟩
  case drop =>
    exact runs_of_exec rfl (hop _ _) ⟨sliceDrop_slice (s.count uBRW BRW_WIN_WR_COUNT) c.val, rd_sliceDrop _ c.val⟩
  case loading =>
    exact runs_of_exec rfl ((hop _ _).trans (sliceVerify_loading he hst)) ⟨mem_cmdQueued _ _ _ _, rd_sliceStatus _ _ (by decide)⟩
  case notLoading => exact runs_of_exec rfl ((hop _ _).trans (sliceVerify_refused he hst)) (rd_sliceStatus _ _ (by decide))
  case redigest =>
    exact runs_of_exec rfl ((hop _ _).trans (sliceRedigest_queued he hst)) ⟨mem_cmdQueued _ _ _ _, rd_sliceStatus _ _ (by decide)⟩
  case refused => exact runs_of_exec rfl ((hop _ _).trans (sliceRedigest_refused he h3 h6)) (rd_sliceStatus _ _ (by decide))

end Sys2Proof.Machine
end

section
/-! Digest ticks, digests and the records that wafers exchange about their slices (R288, R289, R291-R299, R304). -/
namespace Sys2Proof.Machine
open Sys2Proof Host Sys2Proof.Claims
variable (s : State)

/-- Every part but those that an event's time rests on, and no event off its way. -/
def allButTime : Nat := 2 ^ 86 - 1 - 2 ^ Part.wall.bit - 2 ^ Part.refLost.bit

/-- What an operation keeps of time and events: an event that was made then is the one that would be made before it. -/
theorem Kept.event_of_time {s t : State} (h : Kept allButTime s t) (code p x y z : Nat) :
    Claims.event t code p x y z = Claims.event s code p x y z :=
  h.event_eq (by decide) (by decide) code p x y z

/-- An item on a channel is noted among the channels alone. -/
theorem exists_item_eq (c : Nat) : ∃ x, s.item c = { s with chans := x } := by
  unfold State.item State.noteItem
  split
  · exact ⟨_, rfl⟩
  · exact ⟨_, rfl⟩

/-- What every element leaves, a run over them leaves. -/
theorem each_keeps {α β : Type} (g : State → β) {f : State → α → State} (h : ∀ t a, g (f t a) = g t) (l : List α) : g (s.each l f) = g s := by
  unfold State.each
  induction l generalizing s with
  | nil => rfl
  | cons a l ih => exact (ih (f s a)).trans (h s a)

/-! Entries of the slice table. -/

/-- The entry of a key whose value alone was changed. -/
theorem find_map_at {α : Type} (i : Nat) (f : α → α) (m : Tab α) :
    Tab.find i (m.map (fun e => if e.1 = i then (e.1, f e.2) else e)) = (Tab.find i m).map f := by
  induction m with
  | nil => rfl
  | cons e m ih =>
    obtain ⟨k, v⟩ := e
    by_cases hk : k = i
    · simp [Tab.find, hk]
    · simpa [Tab.find, hk] using ih

/-- A table entry that was changed. -/
theorem slice_updSlice_same (c i : Nat) (f : SliceEnt → SliceEnt) : (s.updSlice c i f).slice c i = (s.slice c i).map f := by
  unfold State.updSlice State.slice
  rw [cel_updCel_same]
  exact find_map_at i f (s.cel c).slices

/-! Records that are sent. -/

/-- A block that a Door inserts leaves by its link. -/
theorem mem_doorInsert_sent {s : State} {n : Nat} (h : (s.door n).shut = false) (st : Nat) (hd : Header) (payload : List Byte) :
    ∃ out, Out.doorTx n st out ∈ (s.doorInsert n st hd payload).sent := by
  unfold State.doorInsert
  rw [if_neg (by rw [h]; decide)]
  exact ⟨_, List.mem_cons_self⟩

/-- A record leaves by the Door that it is sent to, on stream 4,094. -/
theorem mem_sendRec_sent {s : State} {n : Nat} (h : (s.door n).shut = false) (c : Nat) (r : Xrec) :
    ∃ out, Out.doorTx n 4094 out ∈ (s.sendRec c n r).sent := by
  unfold State.sendRec
  rw [if_neg (by rw [h]; decide)]
  refine mem_doorInsert_sent ?_ _ _ _
  rw [door_congr s ((kept_bulk (A := allBut .doors) (.refl _ s) (by decide)).parts .doors (by decide))]
  exact h

/-! Records that arrive. -/

/-- What is done with the slice of a record that is routed and found. -/
theorem withSlice_found {s : State} {r : Xrec} {k i : Nat} (hr : s.routeRec r = .inl k) (hf : s.findSlice k r = .inl i) (n : Nat)
    (f : Nat → Nat → State) : s.withSlice n r f = f k i := by
  unfold State.withSlice
  rw [hr]
  dsimp only
  rw [hf]

theorem requestAt_found {s : State} {r : Xrec} {k i : Nat} {e : SliceEnt} (hr : s.routeRec r = .inl k) (hf : s.findSlice k r = .inl i)
    (he : s.slice k i = some e) (n : Nat) (f : Nat → Nat → SliceEnt → State) : s.requestAt n r f = f k i e := by
  unfold State.requestAt
  rw [hr]
  dsimp only
  rw [hf]
  dsimp only
  rw [he]

/-- A record of a reserved type is absorbed. -/
theorem digestRecord_reserved {payload : List Byte} (h : (Xrec.ofBytes payload).rtype = 0 ∨ 6 < (Xrec.ofBytes payload).rtype) (n : Nat) :
    digestRecord s n payload = s.absorbRec n (Xrec.ofBytes payload) := by
  unfold digestRecord
  exact if_pos h

/-- A record of a type that other commands take does nothing here. -/
theorem digestRecord_other {payload : List Byte} (h2 : 2 ≤ (Xrec.ofBytes payload).rtype) (h6 : (Xrec.ofBytes payload).rtype ≤ 6) (n : Nat) :
    digestRecord s n payload = s := by
  unfold digestRecord
  dsimp only
  rw [if_neg (by omega), if_pos (by omega)]

/-- Without a digest of its own a slice is not compared. -/
theorem compareSlice_unhashed {s : State} {c i : Nat} (h : (s.slice c i).map (·.localOk) = some false) (fresh : Bool) :
    s.compareSlice c i fresh = s := by
  obtain ⟨e, he, hl⟩ := Option.map_eq_some_iff.mp h
  unfold State.compareSlice
  dsimp only
  rw [he]
  dsimp only
  rw [hl]
  rfl

/-- A peer's digest is taken as that of the slice. -/
theorem digestRecord_peerDig {s : State} {payload : List Byte} {k i : Nat} {e : SliceEnt} (hr : s.routeRec (Xrec.ofBytes payload) = .inl k)
    (hf : s.findSlice k (Xrec.ofBytes payload) = .inl i) (he : s.slice k i = some e) (h1 : (Xrec.ofBytes payload).rtype = 1)
    (hl : e.localOk = false) (n : Nat) :
    ((digestRecord s n payload).slice k i).map (·.peerDig) = some (Xrec.ofBytes payload).digest := by
  unfold digestRecord
  dsimp only
  rw [if_neg (by omega), if_neg (by omega), withSlice_found hr hf, compareSlice_unhashed (by rw [slice_updSlice_same, he]; exact congrArg some hl),
    slice_updSlice_same, he]
  rfl

/-- A third copy of a valid slice is sent. -/
theorem mem_thirdCopyRequest_sent {s : State} {payload : List Byte} {k i n : Nat} {e : SliceEnt} (hr : s.routeRec (Xrec.ofBytes payload) = .inl k)
    (hf : s.findSlice k (Xrec.ofBytes payload) = .inl i) (he : s.slice k i = some e) (h3 : e.state = 3) (hs : (s.door n).shut = false) :
    ∃ out, Out.doorTx n 4094 out ∈ (thirdCopyRequest s n payload).sent := by
  unfold thirdCopyRequest
  dsimp only
  rw [requestAt_found hr hf he, if_pos h3]
  exact mem_sendRec_sent hs _ _

/-- The state once the third copy of a disputed slice has decided its STATE. -/
def thirdDecided (c i st : Nat) : State := (s.thirdOver c i).sliceState c i st

theorem kept_thirdDecided (c i st : Nat) : Kept allButTime s (thirdDecided s c i st) :=
  kept_sliceState (kept_thirdOver (.refl _ s) (by decide)) (by decide)

/-- A third copy that agrees with the peer: the local copy is wrong. -/
theorem thirdCopyAnswer_peer {s : State} {payload : List Byte} {k i : Nat} {e : SliceEnt} (hr : s.routeRec (Xrec.ofBytes payload) = .inl k)
    (hf : s.findSlice k (Xrec.ofBytes payload) = .inl i) (he : s.slice k i = some e) (h6 : e.state = 6)
    (ht : (s.cel k).third.any (fun t => t.1 == i) = true) (hd : (Xrec.ofBytes payload).digest = e.peerDig) (n : Nat) :
    thirdCopyAnswer s n payload =
      ((thirdDecided s k i 5).raise 0x5021 (puCel k) e.tensor e.slice (s.peerWafer k e)).needRepair k i 2 0 := by
  unfold thirdCopyAnswer
  dsimp only
  rw [withSlice_found hr hf, he]
  dsimp only
  rw [if_neg (by simp [h6, ht]), if_pos hd]
  rfl

/-- A third copy that agrees with the local copy: the peer is wrong. -/
theorem thirdCopyAnswer_local {s : State} {payload : List Byte} {k i : Nat} {e : SliceEnt} (hr : s.routeRec (Xrec.ofBytes payload) = .inl k)
    (hf : s.findSlice k (Xrec.ofBytes payload) = .inl i) (he : s.slice k i = some e) (h6 : e.state = 6)
    (ht : (s.cel k).third.any (fun t => t.1 == i) = true) (hp : (Xrec.ofBytes payload).digest ≠ e.peerDig)
    (hl : (Xrec.ofBytes payload).digest = e.localDig) (n : Nat) :
    thirdCopyAnswer s n payload = (thirdDecided s k i 3).raise 0x5022 (puCel k) e.tensor e.slice (s.peerWafer k e) := by
  unfold thirdCopyAnswer
  dsimp only
  rw [withSlice_found hr hf, he]
  dsimp only
  rw [if_neg (by simp [h6, ht]), if_neg hp, if_pos hl]
  rfl

/-- An event raised once the third copy has decided is the one of the time before. -/
theorem mem_thirdDecided_raise (c i st code p x y z : Nat) : event s code p x y z ∈ ((thirdDecided s c i st).raise code p x y z).transit := by
  rw [← (kept_thirdDecided s c i st).event_of_time]
  exact mem_raise_transit _ _ _ _ _ _

/-- A third copy that does not come in time leaves the disagreement undecided, and is told of. -/
theorem thirdCopyTimeout_undecided {s : State} {c i : Nat} {e : SliceEnt} (he : s.slice c i = some e)
    (ht : (s.cel c).third.any (fun t => t.1 == i) = true) :
    thirdCopyTimeout s c i = (s.thirdOver c i).raise 0x5023 (puCel c) e.tensor e.slice (s.peerWafer c e) := by
  unfold thirdCopyTimeout State.undecided
  rw [if_pos ht, he]

/-- A third copy that is over is awaited no longer. -/
theorem thirdOver_third (c i : Nat) : ((s.thirdOver c i).cel c).third.any (fun t => t.1 == i) = false := by
  unfold State.thirdOver
  rw [cel_updCel_same]
  simp

/-! Ticks. -/

/-- Marks on granules leave the registers. -/
theorem markGrans_regs (c i : Nat) (f : PsnEnt → PsnEnt) : (s.markGrans c i f).regs = s.regs :=
  (kept_markGrans (A := allBut .regs) (.refl _ s) (by decide)).parts .regs (by decide)

/-- A repair that arises shows in the sizes of the Cellar's tables alone. -/
theorem rd_needRepair {F : Fld} (h : Fld.offCel F = true) (u c i kind g : Nat) : (s.needRepair c i kind g).rd u F = s.rd u F := by
  unfold State.needRepair
  split
  · rfl
  · extract_lets written t x covered
    have ht : t.rd u F = s.rd u F := by unfold t; split <;> rfl
    split
    · exact ht
    · split
      · exact (rd_congr t (markGrans_regs _ _ _ _) u F 0).trans ht
      · split
        · exact ht
        · split
          · exact (rd_congr t (count_regs _ _ _ _ _) u F 0).trans ht
          · exact (rd_showCel _ h u c).trans ((rd_congr _ (markGrans_regs _ _ _ _) u F 0).trans ht)

/-- So does one that arises again. -/
theorem rd_needAgain {F : Fld} (h : Fld.offCel F = true) (u c i g : Nat) : (s.needAgain c i g).rd u F = s.rd u F := by
  unfold State.needAgain
  split
  · rfl
  · split
    · rfl
    · split
      · exact rd_needRepair s h _ _ _ _ _
      · split
        · exact rd_needRepair s h _ _ _ _ _
        · rfl

/-- A slice that leaves the rotation leaves the registers. -/
theorem rotOut_regs (c i : Nat) (add : Bool) : (s.rotOut c i add).regs = s.regs :=
  (kept_rotOut (A := allBut .regs) (.refl _ s) (by decide)).parts .regs (by decide)

/-- A slice that is skipped is counted, and leaves the rotation. -/
theorem rd_skipSlice {F : Fld} (h : Fld.offCel F = true) (u c i : Nat) : (s.skipSlice c i).rd u F = s.rd u F := by
  unfold State.skipSlice
  extract_lets t
  have ht : t.rd u F = s.rd u F := rd_congr s ((rotOut_regs _ _ _ _).trans (count_regs _ _ _ _ _)) u F 0
  split
  · exact ht
  · split
    · exact (rd_needAgain t h _ _ _ _).trans ht
    · exact ht

/-- The end of a rotation shows in CEL_DIG_LAG alone. -/
theorem rd_rotEnd {F : Fld} (h : Fld.apart F CEL_DIG_LAG_BYTES = true) (u c : Nat) : (s.rotEnd c).rd u F = s.rd u F := by
  unfold State.rotEnd
  extract_lets x rep t
  split
  · rfl
  · exact (rd_wr_apart t h _ _ _).trans (rd_congr s (count_regs _ _ _ _ _) u F 0)

/-- The engines that go on show in CEL_DIG_LAG and in the sizes of the Cellar's tables alone. -/
theorem rd_rotFeed {F : Fld} (hc : Fld.offCel F = true) (hl : Fld.apart F CEL_DIG_LAG_BYTES = true) (u c : Nat) :
    (s.rotFeed c).rd u F = s.rd u F := by
  unfold State.rotFeed
  extract_lets t fed
  have ht : t.rd u F = s.rd u F := by
    refine each_keeps s (fun t => t.rd u F) (fun t i => ?_) _
    split
    · split
      · exact rd_skipSlice t hc _ _ _
      · rfl
    · rfl
  rw [rd_rotEnd _ hl, rd_wr_apart _ hl]
  exact ht

/-- The tick of a rotation that runs: it is counted, and the engines may absorb so much more. -/
def tickTaken (c : Nat) : State :=
  s.updCel c (fun x => { x with rot := { x.rot with ticks := x.rot.ticks + 1, allow := x.rot.allow + x.rot.b } })

/-- A rotation that is late is told of, which leaves the count of its ticks. -/
def lateTold (c : Nat) : State :=
  let t := (s.cel c).rot
  if t.r < t.ticks && !t.late then
    ((s.updCel c (fun x => { x with rot := { x.rot with late := true } })).flag (uCEL c) CEL_DIG_STAT_LATE true).raiseOnce 0 0x5030 (puCel c) 1 t.ticks t.r
  else s

theorem rd_lateTold {F : Fld} (hl : Fld.apart F CEL_DIG_STAT_LATE = true) (he : Fld.apart F PG_EVT_CLASS = true) (u c : Nat) :
    (lateTold s c).rd u F = s.rd u F := by
  unfold lateTold
  dsimp only
  split
  · rw [rd_raiseOnce_apart _ he, rd_flag_apart _ hl]
    rfl
  · rfl

/-- A tick of a rotation that runs, with no map awaited, feeds the engines. -/
theorem digestTick_runs {s : State} {c : Nat} (hruns : s.celRuns c = true) (hwait : s.digestWait c = none) (hon : (s.cel c).rot.on = true) :
    digestTick s c = (lateTold ((tickTaken s c).wr (uCEL c) CEL_DIG_TICK_COUNT ((s.cel c).rot.ticks + 1)) c).rotFeed c := by
  have hticks : ((tickTaken s c).cel c).rot.ticks = (s.cel c).rot.ticks + 1 := by unfold tickTaken; rw [cel_updCel_same]
  unfold digestTick
  rw [if_neg (by rw [hruns]; decide), hwait]
  dsimp only
  rw [if_pos hon, ← hticks]
  rfl

/-- The page shows the ticks of the rotation. -/
theorem digestTick_count {s : State} {c : Nat} (hruns : s.celRuns c = true) (hwait : s.digestWait c = none) (hon : (s.cel c).rot.on = true) :
    (digestTick s c).rd (uCEL c) CEL_DIG_TICK_COUNT = ((s.cel c).rot.ticks + 1) % 2 ^ 32 := by
  rw [digestTick_runs hruns hwait hon, rd_rotFeed _ (by decide) (by decide), rd_lateTold _ (by decide) (by decide), rd_wr_same]
  rfl

/-- While a map is awaited no tick is taken. -/
theorem digestTick_waits {s : State} {c k : Nat} (hruns : s.celRuns c = true) (hwait : s.digestWait c = some k) : digestTick s c = s.mapWaits k := by
  unfold digestTick
  rw [if_neg (by rw [hruns]; decide), hwait]

/-- The state whose digest tick goes out: the tick is counted, and the time to the next one runs. -/
def tickCounted : State := { s.count uBRW BRW_DIG_TICKS_COUNT with tickAt := s.now, passSeen := false }

/-- A tick that is due is broadcast by the active Brewhouse. -/
theorem digestTickSend_due {s : State} (hdue : s.tickDue = true) (hal : s.bhAlive s.active = true) :
    digestTickSend s = (tickCounted s).routePacket (Config.host.brewField s.active)
      ⟨mkHead 2 0 0 0 (Config.host.brewField s.active) 18 2 (s.brew s.active).reign (Config.imageVal 0x292 0 % 125 + 1), []⟩ := by
  unfold digestTickSend
  rw [if_neg (by rw [hdue, hal]; decide)]
  rfl

/-- One that is not due is not. -/
theorem digestTickSend_notDue {s : State} (h : s.tickDue = false) : digestTickSend s = s := by
  unfold digestTickSend
  exact if_pos (by rw [h]; rfl)

/-- A packet that is routed leaves the ticks. -/
theorem kept_routed (f : Nat) (p : Packet) : Kept (maskOf [.sent, .routers, .hops, .clocks, .pair, .halls]) s (s.routePacket f p) :=
  kept_routePacket (.refl _ s) (by decide)

/-! The digest of a slice. -/

/-- The state once a slice's bytes have been read without an uncorrectable error. -/
def sliceRead (c ch : Nat) (bs : List Byte) (ce : List Nat) : State := (s.count (uCEL c) CEL_BYTES_MAINT bs.length ch).mntErrors c ch ce [] 1

/-- The blocks whose trailers fail entered and to be read again (R279, R289). -/
def blocksEntered (c : Nat) (e : SliceEnt) (bad : List (Nat × Nat)) : State :=
  s.each bad (fun s b =>
    let s := if s.againFails c e.ch (granList (e.addr + b.1) b.2) then s.histEntry (puChan c e.ch) (s.celEntry c 7) else s
    (s.each (granList (e.addr + b.1) b.2) (fun s g => s.psnEnter c e.ch g 2)).updCel c (fun x => { x with
      rescans := x.rescans ++ [⟨e.ch, e.addr + b.1, b.2, 0⟩] }))

theorem kept_blocksEntered {A : Nat} {s0 : State} {s : State} (h : Kept A s0 s) (hA : 7383617819442331008824 ||| A = A) (c : Nat) (e : SliceEnt)
    (bad : List (Nat × Nat)) : Kept A s0 (blocksEntered s c e bad) :=
  kept_each h fun _ _ ht => kept_updCel (kept_each (.ite (kept_histEntry ht (mask_sub (by decide) hA)) ht)
    fun _ _ hu => kept_psnEnter hu (mask_sub (by decide) hA)) (mask_sub (by decide) hA)

/-- A slice whose bytes break the format is BAD, and is told of with the place (R289). -/
theorem sliceDigestDone_fault {s : State} {c i off : Nat} {bs : List Byte} {ce : List Nat} {e : SliceEnt} (hruns : s.celRuns c = true)
    (he : s.slice c i = some e) (habs : s.absorbed c i e = true) (hwait : s.digestWait c = none) (h1 : e.state ≠ 1) (h4 : e.state ≠ 4)
    (h5 : e.state ≠ 5) (hg : (granList e.addr e.length).any (fun g => s.granIn c e.ch g) = false)
    (hf : (walkSlice s.tbProfile (bs.length / 32 + 1) 0 bs).fault = some off) :
    sliceDigestDone s c i bs ce [] =
      (((((blocksEntered (sliceRead s c e.ch bs ce) c e (walkSlice s.tbProfile (bs.length / 32 + 1) 0 bs).bad).sliceState c i 4).raise
        0x5024 (puCel c) e.tensor e.slice off).rotDone c i false).sliceCmdEnd c i) := by
  unfold sliceDigestDone
  rw [he]
  dsimp only
  rw [if_neg (by rw [habs, hwait]; decide), if_neg (by rw [hruns]; decide), if_neg (by simp [h1, h4, h5]), if_neg (by
    rw [List.isEmpty_nil, Bool.not_true, Bool.false_or]
    exact ne_true_of_eq_false hg)]
  have hread : ((s.count (uCEL c) CEL_BYTES_MAINT bs.length e.ch).mntErrors c e.ch ce [] 1).tbProfile = s.tbProfile := rfl
  rw [hread, hf]
  rfl

/-- The event of that place goes on its way. -/
theorem mem_sliceDigestDone_fault {s : State} {c i off : Nat} {bs : List Byte} {ce : List Nat} {e : SliceEnt} (hruns : s.celRuns c = true)
    (he : s.slice c i = some e) (habs : s.absorbed c i e = true) (hwait : s.digestWait c = none) (h1 : e.state ≠ 1) (h4 : e.state ≠ 4)
    (h5 : e.state ≠ 5) (hg : (granList e.addr e.length).any (fun g => s.granIn c e.ch g) = false)
    (hf : (walkSlice s.tbProfile (bs.length / 32 + 1) 0 bs).fault = some off) :
    event s 0x5024 (puCel c) e.tensor e.slice off ∈ (sliceDigestDone s c i bs ce []).transit := by
  have hbad : Kept allButTime s ((blocksEntered (sliceRead s c e.ch bs ce) c e (walkSlice s.tbProfile (bs.length / 32 + 1) 0 bs).bad).sliceState c i 4) :=
    kept_sliceState (kept_blocksEntered (kept_mntErrors (kept_count (.refl _ s) (by decide)) (by decide)) (by decide) _ _ _) (by decide)
  rw [sliceDigestDone_fault hruns he habs hwait h1 h4 h5 hg hf, ← hbad.event_of_time]
  exact (kept_sliceCmdEnd (A := allButEvents) (kept_rotDone (.refl _ _) (by decide)) (by decide)).event (by decide) (mem_raise_transit _ _ _ _ _ _)

/-- Settles O16, clause by clause: ticks sent and taken, a slice that has been read, and the records of the exchange. -/
theorem sliceExchange : Obligations.SliceExchange := by
  unfold Obligations.SliceExchange
  intro c n s
  refine ⟨fun hstop => ⟨fun hdue hal => ?due, fun hnot => ?notDue⟩, fun hstop hruns => ⟨fun hwait hon => ?tick, fun k hwait => ?waits⟩,
    fun i bytes ce e off hstop hruns he habs hwait h1 h4 h5 hg hf => ?fault, fun payload => ⟨fun hres => ?reserved, fun h2 h6 => ?other,
      fun k i e hr hf he => ⟨fun h1 hl => ?peerDigest, fun h3 hs => ?third, fun h6 ht => ⟨fun hp => ?peer, fun hp hl => ?ours⟩⟩⟩,
    fun i e he ht => ?timeout⟩
  case due =>
    refine runs_of_exec rfl (if_neg (by rw [hstop]; decide)) ?_
    rw [digestTickSend_due hdue hal]
    have hk := kept_routed (tickCounted s) (Config.host.brewField s.active)
      ⟨mkHead 2 0 0 0 (Config.host.brewField s.active) 18 2 (s.brew s.active).reign (Config.imageVal 0x292 0 % 125 + 1), []⟩
    exact ⟨hk.parts .tickAt (by decide), hk.parts .passSeen (by decide), tickCounted s, rfl, rfl, rfl, rfl⟩
  case notDue => exact runs_of_exec rfl ((if_neg (by rw [hstop]; decide)).trans (digestTickSend_notDue hnot)) rfl
  case tick => exact runs_of_exec rfl (if_neg (by rw [hstop]; decide)) (digestTick_count hruns hwait hon)
  case waits =>
    exact runs_of_exec rfl ((if_neg (by rw [hstop]; decide)).trans (digestTick_waits hruns hwait))
      ((kept_mapWaits (A := allBut .cels) (.refl _ s) (by decide)).parts .cels (by decide))
  case fault =>
    refine runs_of_exec rfl (if_neg (by rw [hstop]; decide)) ?_
    obtain ⟨x, hx⟩ := exists_item_eq s (chCel c.val)
    rw [hx]
    exact mem_sliceDigestDone_fault (s := { s with chans := x }) hruns he habs hwait h1 h4 h5 hg hf
  case reserved => exact runs_of_exec rfl (digestRecord_reserved s hres n.val) rfl
  case other => exact runs_of_exec rfl (digestRecord_other s h2 h6 n.val) rfl
  case peerDigest => exact runs_of_exec rfl rfl (digestRecord_peerDig hr hf he h1 hl n.val)
  case third => exact runs_of_exec rfl rfl (mem_thirdCopyRequest_sent hr hf he h3 hs)
  case peer =>
    refine runs_of_exec rfl (thirdCopyAnswer_peer hr hf he h6 ht hp n.val) ?_
    exact (kept_needRepair (A := allButEvents) (.refl _ _) (by decide)).event (by decide) (mem_thirdDecided_raise s k i 5 _ _ _ _ _)
  case ours => exact runs_of_exec rfl (thirdCopyAnswer_local hr hf he h6 ht hp hl n.val) (mem_thirdDecided_raise s k i 3 _ _ _ _ _)
  case timeout => exact runs_of_exec rfl (thirdCopyTimeout_undecided he ht) ⟨rfl, thirdOver_third s c.val i.val⟩

end Sys2Proof.Machine
end

section
/-! Repairs of slices, and the reloads that serve them (R297, R299-R305). -/
namespace Sys2Proof.Machine
open Sys2Proof Host Sys2Proof.Claims
variable (s : State)

/-! Running repairs and open reloads. -/

/-- A change of a Cellar that leaves its running repairs. -/
theorem running_updCel {f : CelSt → CelSt} (hf : ∀ x, (f x).running = x.running) (c k : Nat) :
    ((s.updCel c f).cel k).running = (s.cel k).running := by
  by_cases h : k = c
  · subst h
    rw [cel_updCel_same, hf]
  · rw [cel_updCel_other s h]

/-- The running repair of a slice is read from those of its Cellar alone. -/
theorem repairOf_congr {s t : State} {c : Nat} (h : (t.cel c).running = (s.cel c).running) (i : Nat) : t.repairOf c i = s.repairOf c i := by
  unfold State.repairOf
  rw [h]

/-- A record that is ignored leaves the running repairs. -/
theorem ignoreRec_running (c reason src k : Nat) : ((s.ignoreRec c reason src).cel k).running = (s.cel k).running := by
  unfold State.ignoreRec
  extract_lets t
  have ht : (t.cel k).running = (s.cel k).running :=
    (running_updCel _ (f := fun x => { x with ignored := x.ignored + 1 }) (fun _ => rfl) c k).trans
      (congrArg CelSt.running (cel_congr s (count_cels _ _ _ _ _) k))
  split
  · exact ht
  · refine (running_updCel _ (f := fun x => { x with ignored := 0 }) (fun _ => rfl) c k).trans ?_
    rw [cel_congr t ((kept_raiseOnce (A := allBut .cels) (.refl _ t) (by decide)).parts .cels (by decide))]
    exact ht

/-- It leaves the open reloads. -/
theorem ignoreRec_reloadOf (c reason src n : Nat) : (s.ignoreRec c reason src).reloadOf n = s.reloadOf n :=
  reloadOf_congr s ((kept_ignoreRec (A := allBut .reloads) (.refl _ s) (by decide)).parts .reloads (by decide)) n

/-- The first record ignored in a cut epoch is told of with its reason (R314). -/
theorem mem_ignoreRec_transit {s : State} {c : Nat} (h : s.marks.contains (puCel c, 0x5060, 0) = false) (reason src : Nat) :
    ∃ e ∈ (s.ignoreRec c reason src).transit, e.code = 0x5060 ∧ e.p6 = reason % 2 ^ 32 := by
  unfold State.ignoreRec
  extract_lets t
  have ht : t.marks.contains (puCel c, 0x5060, 0) = false := by
    unfold t
    rw [updCel_marks, count_marks]
    exact h
  rw [if_neg (by rw [ht]; decide)]
  exact ⟨_, mem_raiseOnce_transit ht _ _ _, rfl, rfl⟩

/-- A block of no open reload is ignored. -/
theorem reloadBlock_unopened {s : State} {n : Nat} (h : s.reloadOf n = []) (bs : List Byte) (bad : Bool) :
    reloadBlock s n bs bad = s.ignoreRec (doorCellar n) 5 0 := by
  unfold reloadBlock
  rw [h]

/-- A block that would pass the length of a reload that no repair waits for is ignored. -/
theorem reloadBlock_past {s : State} {n : Nat} {o : OpenReload} {bs : List Byte} (ho : s.reloadOf n = [o])
    (hq : s.repairOf o.cellar o.slice = none) (hp : o.length < o.got + blockSize (Header.ofBytes bs)) (bad : Bool) :
    reloadBlock s n bs bad = s.ignoreRec (doorCellar n) 5 0 := by
  have hnone : (s.ignoreRec (doorCellar n) 5 0).repairOf o.cellar o.slice = none :=
    (repairOf_congr (ignoreRec_running s _ _ _ _) _).trans hq
  unfold reloadBlock
  rw [ho]
  dsimp only
  rw [if_pos (decide_eq_true hp), hnone]

/-- A block within it advances it. -/
theorem reloadBlock_advances {s : State} {n : Nat} {o : OpenReload} {bs : List Byte} (ho : s.reloadOf n = [o])
    (hq : s.repairOf o.cellar o.slice = none) (hp : o.got + blockSize (Header.ofBytes bs) ≤ o.length) (bad : Bool) :
    reloadBlock s n bs bad = s.updReloadOf n (fun _ => [{ o with got := o.got + blockSize (Header.ofBytes bs) }]) := by
  have hnone : (s.updReloadOf n (fun _ => [{ o with got := o.got + blockSize (Header.ofBytes bs) }])).repairOf o.cellar o.slice = none := hq
  unfold reloadBlock
  rw [ho]
  dsimp only
  rw [if_neg (by simp [hp]), hnone]

/-! Sources. -/

/-- A repair that asks a source starts over. -/
def repairAsks (src : Nat) (rest : List Nat) (r : Repair) : Repair :=
  { r with src := src, left := rest, announced := false, got := 0, form := [], wrote := [], late := [], readback := false }

/-- A repair with a source left asks it, which shows among the Cellars in the repair alone. -/
theorem askSource_cels {s : State} {c i : Nat} {q : Repair} {e : SliceEnt} {src : Nat} {rest : List Nat} (hq : s.repairOf c i = some q)
    (he : s.slice c i = some e) (hl : q.left = src :: rest) (code : Nat) :
    (s.askSource c i code).cels = (s.updRepair c i (repairAsks src rest)).cels := by
  unfold State.askSource
  rw [hq, he]
  dsimp only
  rw [hl]
  dsimp only
  refine Kept.parts (A := allBut .cels) (kept_raiseOnce ?_ (by decide)) .cels (by decide)
  split
  · exact kept_sendRec (.refl _ _) (by decide)
  · exact .refl _ _

/-- The repair `r` started with its reference `d`, the others of its queue still waiting. -/
def repairBegun (c : Nat) (r : Repair) (rest : List Repair) (e : SliceEnt) (d : Nat) : State :=
  s.updCel c (fun x => { x with
    queue := rest, running := x.running ++ [{ r with reference := d, start := s.now, left := repairSources x.rot e d }] })

/-- Without a running repair of its slice, a repair that starts is the slice's. -/
theorem repairBegun_repairOf {s : State} {c : Nat} {r : Repair} (h : s.repairOf c r.slice = none) (rest : List Repair) (e : SliceEnt) (d : Nat) :
    (repairBegun s c r rest e d).repairOf c r.slice =
      some { r with reference := d, start := s.now, left := repairSources (s.cel c).rot e d } := by
  have hold : (s.cel c).running.find? (fun q => q.slice == r.slice) = none := h
  unfold repairBegun State.repairOf
  rw [cel_updCel_same, List.find?_append, hold]
  simp

/-- The slice table is as it was. -/
theorem repairBegun_slice (c : Nat) (r : Repair) (rest : List Repair) (e : SliceEnt) (d i : Nat) :
    (repairBegun s c r rest e d).slice c i = s.slice c i := by
  unfold repairBegun State.slice
  rw [cel_updCel_same]

/-- The oldest queued repair starts where nothing stands against it. -/
theorem repairStart_begins {s : State} {c : Nat} {r : Repair} {rest : List Repair} {e : SliceEnt} (hruns : s.celRuns c = true)
    (hq : (s.cel c).queue = r :: rest) (hlt : (s.cel c).running.length < 4) (he : s.slice c r.slice = some e) (hnone : s.repairOf c r.slice = none)
    (hst : e.state = 3 ∨ e.state = 5 ∨ e.state = 6) :
    repairStart s c =
      ((repairBegun s c r rest e (if r.kind = 1 then (repairRef e 1).getD r.reference else r.reference)).askSource c r.slice 0).showCel c := by
  have hfree : (s.cel c).running.any (fun q => q.slice == r.slice) = false := by
    rw [List.any_eq_false]
    exact List.find?_eq_none.mp hnone
  unfold repairStart
  dsimp only
  rw [hq, List.find?_cons_of_pos (by rw [hfree]; rfl)]
  dsimp only
  rw [if_neg (by rw [hruns]; simp; omega), he]
  dsimp only
  rw [if_neg (by omega), List.erase_cons_head]
  rfl

/-! Records about reloads. -/

/-- A reload asked of a valid slice is announced. -/
theorem mem_reloadRequest_sent {s : State} {payload : List Byte} {k i n : Nat} {e : SliceEnt} (hr : s.routeRec (Xrec.ofBytes payload) = .inl k)
    (hf : s.findSlice k (Xrec.ofBytes payload) = .inl i) (he : s.slice k i = some e) (h3 : e.state = 3) (hq : s.repairOf k i = none)
    (hs : (s.door n).shut = false) : ∃ out, Out.doorTx n 4094 out ∈ (reloadRequest s n payload).sent := by
  unfold reloadRequest
  dsimp only
  rw [requestAt_found hr hf he, if_neg (by simp [h3, hq]), if_neg (by simp [h3])]
  have hopen : ((s.count (uCEL k) CEL_BYTES_MAINT e.length e.ch).door n).shut = false := by
    rw [door_congr s (count_doors _ _ _ _ _)]
    exact hs
  obtain ⟨out, hout⟩ := mem_sendRec_sent hopen k (s.recOf e 5 (Xrec.ofBytes payload).src 0)
  exact ⟨out, (kept_sendBlocks (A := allButEvents) (kept_bulk (.refl _ _) (by decide)) (by decide)).said.subset hout⟩

/-- An announcement that no repair waits for opens its reload at the Door. -/
theorem reloadAnnouncement_opens {s : State} {payload : List Byte} {k i : Nat} (hr : s.routeRec (Xrec.ofBytes payload) = .inl k)
    (hf : s.findSlice k (Xrec.ofBytes payload) = .inl i) (hq : s.repairOf k i = none) (n : Nat) :
    reloadAnnouncement s n payload = s.updReloadOf n (fun _ => [⟨k, i, (Xrec.ofBytes payload).length, 0⟩]) := by
  unfold reloadAnnouncement
  dsimp only
  rw [withSlice_found hr hf, hq]

/-- A source that refuses has failed. -/
theorem reloadRefusal_fails {s : State} {payload : List Byte} {k i : Nat} {q : Repair} (hr : s.routeRec (Xrec.ofBytes payload) = .inl k)
    (hf : s.findSlice k (Xrec.ofBytes payload) = .inl i) (hq : s.repairOf k i = some q) (ha : q.announced = false) (hb : q.readback = false)
    (ht : (s.cel k).third.any (fun t => t.1 == i) = false) (n : Nat) : reloadRefusal s n payload = s.askSource k i 1 := by
  unfold reloadRefusal
  dsimp only
  rw [withSlice_found hr hf, if_neg (by rw [ht]; decide), hq]
  dsimp only
  rw [if_neg (by rw [ha, hb]; decide)]

/-- A source that does not answer in time has failed. -/
theorem reloadTimeout_fails {s : State} {c i : Nat} {q : Repair} (hq : s.repairOf c i = some q) (hb : q.readback = false) :
    reloadTimeout s c i = s.askSource c i 2 := by
  unfold reloadTimeout
  rw [hq]
  dsimp only
  rw [if_neg (by rw [hb]; decide)]

/-! The read-back of a repair. -/

/-- The bytes of a read-back and its memory errors counted. -/
def readbackCounted (c : Nat) (e : SliceEnt) (bs : List Byte) (ce ue : List Nat) : State :=
  ((s.count (uCEL c) CEL_BYTES_MAINT bs.length e.ch).count (uCEL c) CEL_ECC_CE_COUNT ((ce.map (· / 256)).eraseDups).length e.ch).count
    (uCEL c) CEL_ECC_UE_COUNT ((ue.map (· / 256)).eraseDups).length e.ch

/-- The blocks that a repair has written have been read back whole, and pass their trailers. -/
def readbackGood (q : Repair) (bs : List Byte) : Prop :=
  bs.length = (q.wrote.map (·.2)).sum ∧ readBackOk s.tbProfile (bs.length / 32 + 1) bs = true

/-- A bad read-back fails the source. -/
theorem repairReadback_bad {s : State} {c i : Nat} {q : Repair} {e : SliceEnt} {bs : List Byte} {ue : List Nat} (hq : s.repairOf c i = some q)
    (he : s.slice c i = some e) (hb : q.readback = true) (h : ue ≠ [] ∨ ¬ readbackGood s q bs) (ce : List Nat) :
    repairReadback s c i bs ce ue = (readbackCounted s c e bs ce ue).askSource c i 5 := by
  have hfails : (!ue.isEmpty) = true ∨ bs.length ≠ (q.wrote.map (·.2)).sum ∨ (!readBackOk s.tbProfile (bs.length / 32 + 1) bs) = true := by
    rcases h with h | h
    · exact .inl (by simp [h])
    · refine .inr ?_
      rw [Bool.not_eq_true', ← Bool.not_eq_true]
      exact Classical.not_and_iff_not_or_not.mp h
  unfold repairReadback
  rw [hq, he]
  dsimp only
  rw [if_neg (by rw [hb]; decide)]
  exact if_pos hfails

/-- A good read-back ends the repair, and the first of a cut epoch is told of. -/
theorem mem_repairReadback_good {s : State} {c i : Nat} {q : Repair} {e : SliceEnt} {bs : List Byte} (hq : s.repairOf c i = some q)
    (he : s.slice c i = some e) (hb : q.readback = true) (h : readbackGood s q bs) (hm : s.marks.contains (puCel c, 0x5011, 0) = false) (ce : List Nat) :
    ∃ x ∈ (repairReadback s c i bs ce []).transit, x.code = 0x5011 ∧ x.puid = puCel c := by
  unfold repairReadback
  rw [hq, he]
  show ∃ x ∈ (if (!q.readback) = true then s else _).transit, _
  rw [if_neg (by rw [hb]; decide)]
  extract_lets counted grans mine gone left freed same valid told recorded
  obtain ⟨hlen, hok⟩ := h
  have hok' : readBackOk counted.tbProfile (bs.length / 32 + 1) bs = true := hok
  rw [if_neg (by rw [hok']; simp [hlen])]
  have hcounted : Kept (allBut .marks) s counted := kept_count (kept_count (kept_count (.refl _ s) (by decide)) (by decide)) (by decide)
  have hfreed : Kept (allBut .marks) s freed := kept_updCel (kept_psnLeave hcounted (by decide)) (by decide)
  have hvalid : Kept (allBut .marks) s valid := .ite hfreed (kept_sliceState (kept_updSlice hfreed (by decide)) (by decide))
  have htold : Kept (allBut .marks) s told := .ite hvalid (kept_sendDigest hvalid (by decide))
  have hrecorded : Kept (allBut .marks) s recorded := .ite (kept_recordSlice htold (by decide)) htold
  clear_value recorded
  have hmarks : (recorded.count (uCEL c) CEL_REP_DONE_COUNT).marks.contains (puCel c, 0x5011, 0) = false := by
    rw [count_marks, hrecorded.parts .marks (by decide)]
    exact hm
  rw [showCel_transit]
  exact ⟨_, mem_raiseOnce_transit hmarks _ _ _, rfl, rfl⟩

/-- Settles O17, clause by clause: the start of a repair, the records about reloads, their blocks, and the read-back. -/
theorem sliceRepairs : Obligations.SliceRepairs := by
  unfold Obligations.SliceRepairs
  intro c n s
  refine ⟨fun r rest e hstop hruns hq hlt he hnone hst hsrc => ?start, fun payload k i e hr hf he =>
      ⟨fun h3 hq hs => ?request, fun hq => ?announce, fun q hq ha hb ht => ?refusal⟩,
    fun bytes bad => ⟨fun ho hm => ?unopened, fun o ho hq hp hm => ?past, fun o ho hq hp => ?advance⟩,
    fun i q hq => ⟨fun hb => ?timeout, fun bytes ce ue e hstop he hb => ⟨fun hgood hm => ?good, fun hbad => ?bad⟩⟩⟩
  case start =>
    refine runs_of_exec rfl ((if_neg (by rw [hstop]; decide)).trans (repairStart_begins hruns hq hlt he hnone hst)) ?_
    obtain ⟨src, others, hleft⟩ := List.exists_cons_of_ne_nil hsrc
    rw [showCel_cel, cel_congr _ (askSource_cels (repairBegun_repairOf hnone rest e _) ((repairBegun_slice s _ _ _ _ _ _).trans he) hleft 0)]
    unfold State.updRepair repairBegun
    rw [cel_updCel_same, cel_updCel_same]
    simp
  case request => exact runs_of_exec rfl rfl (mem_reloadRequest_sent hr hf he h3 hq hs)
  case announce => exact runs_of_exec rfl (reloadAnnouncement_opens hr hf hq n.val) (reloadOf_updReloadOf_same s n.val _)
  case refusal => exact runs_of_exec rfl (reloadRefusal_fails hr hf hq ha hb ht n.val) rfl
  case unopened => exact runs_of_exec rfl (reloadBlock_unopened ho bytes bad) (mem_ignoreRec_transit hm 5 0)
  case past =>
    exact runs_of_exec rfl (reloadBlock_past ho hq hp bad) ⟨(ignoreRec_reloadOf s _ _ _ _).trans ho, mem_ignoreRec_transit hm 5 0⟩
  case advance => exact runs_of_exec rfl (reloadBlock_advances ho hq hp bad) (reloadOf_updReloadOf_same s n.val _)
  case timeout => exact runs_of_exec rfl (reloadTimeout_fails hq hb) rfl
  case good =>
    refine runs_of_exec rfl (if_neg (by rw [hstop]; decide)) ?_
    obtain ⟨x, hx⟩ := exists_item_eq s (chCel c.val)
    rw [hx]
    exact mem_repairReadback_good (s := { s with chans := x }) hq he hb hgood hm _
  case bad =>
    refine runs_of_exec rfl (if_neg (by rw [hstop]; decide)) ?_
    obtain ⟨x, hx⟩ := exists_item_eq s (chCel c.val)
    rw [hx]
    refine ⟨readbackCounted { s with chans := x } c.val e bytes _ _, rfl, repairReadback_bad (s := { s with chans := x }) hq he hb ?_ _⟩
    exact hbad.imp_left fun h => by simpa using h

end Sys2Proof.Machine
end

section
/-! A Grist package: its verification, its copies in the stores, and a store written back from flash (R347-R349). -/
namespace Sys2Proof.Machine
open Sys2Proof Host Sys2Proof.Claims
variable (s : State)

/-! Verification. -/

/-- A field that no answer writes is left when work is done with. -/
theorem rd_workDone {F : Fld} (h : Fld.offAnswer F = true) (u what status : Nat) : (s.workDone what status).rd u F = s.rd u F := by
  have hanswers : ∀ (l : List (Nat × Msg)) (fs : State → List (Nat × Nat)) (t : State),
      (t.each l (fun t w => t.answer w.2 status (fs t))).rd u F = t.rd u F := fun l fs => by
    unfold State.each
    induction l with
    | nil => exact fun _ => rfl
    | cons w l ih => exact fun t => (ih _).trans (rd_answer t h u w.2 status (fs t))
  unfold State.workDone
  extract_lets done work rest
  exact hanswers done (fun t => if 1 ≤ what ∧ what ≤ 3 then [(0, 2), (Tab.get (fun _ => 0) t.dl what, 4)] else []) rest

/-- The answers to a download whose work is done take no event off its way. -/
theorem mem_workDone_transit {s : State} {e : Ev} (h : e ∈ s.transit) (what status : Nat) : e ∈ (s.workDone what status).transit :=
  (kept_workDone (A := allButEvents) (.refl _ s) (by decide)).event (by decide) h

/-- The bytes of the staged package that were received, and its header. -/
def gristBytesIn (s : State) : List Byte := s.peek (flashKey 0 gristStaged) (Tab.get (fun _ => 0) s.dl 3)
def gristHeadIn (s : State) : GristHead := gristHead (gristBytesIn s)
/-- Why the package received is rejected, 0 when it passes (R347). -/
def gristReasonIn (s : State) : Nat :=
  gristReason (gristBytesIn s) (Tab.get (fun _ => 0) s.dl 3) s.variant.design (s.variant.keys.take 4) (s.rd uBRW BRW_GRIST_ACTIVE_VERSION)

/-- A package that passes is staged, with 0x7020. -/
theorem gristVerify_passes {s : State} (h2 : s.rd uBRW BRW_GRIST_STAT_STATE = 2) (h : gristReasonIn s = 0) :
    (gristVerify s).rd uBRW BRW_GRIST_STAT_STATE = 3 ∧
      event s 0x7020 s.puActive (gristHeadIn s).version (gristHeadIn s).length (gristHeadIn s).slices ∈ (gristVerify s).transit := by
  unfold gristVerify
  rw [if_neg (by rw [h2]; decide)]
  extract_lets n b head why
  rw [if_pos (show why = 0 from h)]
  refine ⟨?_, mem_workDone_transit (mem_raise_transit _ _ _ _ _ _) _ _⟩
  rw [rd_workDone _ (by decide), rd_raise_apart _ (by decide), rd_wr_apart _ (by decide), rd_wr_same]
  rfl

/-- A package that does not pass is rejected, with 0x7021. -/
theorem gristVerify_rejects {s : State} (h2 : s.rd uBRW BRW_GRIST_STAT_STATE = 2) (h : gristReasonIn s ≠ 0) :
    (gristVerify s).rd uBRW BRW_GRIST_STAT_STATE = 4 ∧
      event s 0x7021 s.puActive (gristReasonIn s) (gristHeadIn s).version ∈ (gristVerify s).transit := by
  unfold gristVerify
  rw [if_neg (by rw [h2]; decide)]
  extract_lets n b head why
  rw [if_neg (show why ≠ 0 from h)]
  refine ⟨?_, mem_workDone_transit (mem_raise_transit _ _ _ _ _ _) _ _⟩
  rw [rd_workDone _ (by decide), rd_raise_apart _ (by decide), rd_wr_apart _ (by decide), rd_wr_same]
  rfl

/-! The stores. -/

/-- The transfer of a package leaves the stores' contents and the flash. -/
theorem gristTransfer_grist (done : Bool) (r : Nat) : (s.gristTransfer done r).grist = s.grist :=
  (kept_gristTransfer (A := allBut .grist) (.refl _ s) (by decide)).parts .grist (by decide)

theorem gristTransfer_gristSha (done : Bool) (r slot : Nat) : (s.gristTransfer done r).gristSha slot = s.gristSha slot := by
  have hmem : (s.gristTransfer done r).mem = s.mem :=
    (kept_gristTransfer (A := allBut .mem) (.refl _ s) (by decide)).parts .mem (by decide)
  unfold State.gristSha
  simp only [peek_congr _ hmem]

/-- A region joins the stores that hold a package once. -/
theorem contains_joined (l : List Nat) (r : Nat) : (if l.contains r then l else l ++ [r]).contains r = true := by
  split
  · assumption
  · simp

/-- A region that leaves the stores is none of them. -/
theorem contains_left (l : List Nat) (r : Nat) : (l.filter (· != r)).contains r = false := by
  simp

/-- A copy with the package's digest joins the stores that hold the committed package. -/
theorem gristStoreCopy_good {s : State} (h5 : s.rd uBRW BRW_GRIST_STAT_STATE = 5) {sha : Nat} (h : sha = s.gristSha gristStaged) (r : Nat) :
    (gristStoreCopy s r sha).grist = { s.grist with
      committed := if s.grist.committed.contains r then s.grist.committed else s.grist.committed ++ [r] } := by
  unfold gristStoreCopy
  rw [if_neg (by rw [h5]; decide)]
  extract_lets moved held
  have hheld : held = s.grist := gristTransfer_grist s true r
  rw [if_pos (h.trans (gristTransfer_gristSha s true r gristStaged).symm), hheld]
  rfl

/-- A copy with another digest leaves the store with no package. -/
theorem gristStoreCopy_bad {s : State} (h5 : s.rd uBRW BRW_GRIST_STAT_STATE = 5) {sha : Nat} (h : sha ≠ s.gristSha gristStaged) (r : Nat) :
    (gristStoreCopy s r sha).grist = ⟨s.grist.active.filter (· != r), s.grist.committed.filter (· != r)⟩ := by
  unfold gristStoreCopy
  rw [if_neg (by rw [h5]; decide)]
  extract_lets moved held
  have hheld : held = s.grist := gristTransfer_grist s true r
  rw [if_neg (fun e => h (e.trans (gristTransfer_gristSha s true r gristStaged))), hheld]
  rfl

/-- An event raised behind an operation that kept the events, the wall time and the clocks is the next one on its way. -/
theorem Kept.raised {A : Nat} {s u : State} (h : Kept A s u) (ht : A.testBit Part.transit.bit = false) (hr : A.testBit Part.refLost.bit = false)
    (hw : A.testBit Part.wall.bit = false) (code p x y z : Nat) : Claims.raised s (u.raise code p x y z) code p x y z := by
  have htransit : u.transit = s.transit := h.parts .transit ht
  show u.transit ++ [Claims.event u code p x y z] = _
  rw [htransit, h.event_eq hr hw]

/-- A store in use that lacks the package in effect holds it again, with 0x7023. -/
theorem gristStoreRewrite_active {s : State} {r : Nat} (hlost : s.regionLost r = false) (hact : s.rd uBRW BRW_GRIST_ACTIVE_VERSION ≠ 0)
    (hnot : s.grist.active.contains r = false) :
    (gristStoreRewrite s r).grist.active = s.grist.active ++ [r] ∧ raised s (gristStoreRewrite s r) 0x7023 (puCel (gristCellar r)) r := by
  unfold gristStoreRewrite
  extract_lets held act com written back
  have hdo : act = true := by
    show (s.rd uBRW BRW_GRIST_ACTIVE_VERSION != 0 && !s.grist.active.contains r) = true
    rw [hnot, bne_iff_ne.mpr hact]
    rfl
  rw [if_neg (by rw [hlost, hdo]; exact Bool.false_ne_true)]
  constructor
  · rw [raise_grist, State.showStores, wr_grist]
    exact if_pos hdo
  · have hwritten : Kept (maskOf [.mem, .grist, .regs]) s written := kept_poke (.refl _ s) (by decide)
    have hback : Kept (maskOf [.mem, .grist, .regs]) s back := hwritten.u_grist (by decide)
    exact (kept_showStores hback (by decide)).raised (by decide) (by decide) (by decide) _ _ _ _ _

/-- Settles O25, clause by clause: the verification, a copy in a store, and a store written back. -/
theorem gristPackages : Obligations.GristPackages := by
  unfold Obligations.GristPackages
  intro s n why
  refine ⟨fun h2 hn hwhy => ?verify, fun r sha h5 => ⟨fun hgood => ?good, fun hbad => ?bad⟩, fun r hlost hact hnot => ?rewrite⟩
  case verify =>
    subst hn hwhy
    refine runs_of_exec rfl rfl ?_
    split
    next hpass => exact gristVerify_passes h2 hpass
    next hfail => exact gristVerify_rejects h2 hfail
  case good =>
    refine runs_of_exec rfl rfl ?_
    rw [gristStoreCopy_good h5 hgood]
    exact ⟨contains_joined _ _, rfl⟩
  case bad =>
    refine runs_of_exec rfl rfl ?_
    rw [gristStoreCopy_bad h5 hbad]
    exact ⟨contains_left _ _, contains_left _ _⟩
  case rewrite =>
    obtain ⟨hactive, hraised⟩ := gristStoreRewrite_active hlost hact hnot
    refine runs_of_exec rfl rfl ⟨?_, hraised⟩
    rw [hactive]
    simp

end Sys2Proof.Machine
end

section
/-! Steeps: when a unit falls due, a core rotation, what an engine takes up, a wait that ends, and a forced steep (R318, R319, R321, R326-R332, R339, R348, R351, R353). -/
namespace Sys2Proof.Machine
open Sys2Proof Host Sys2Proof.Claims
variable (s : State)

/-! The plan. -/

/-- A unit whose planned time has come is due at that time (R318). -/
theorem steepDue_comes {s : State} {p : Nat} (habs : (s.unit p).absent = false) (hperm : (s.unit p).perm = false) (hnot : (s.stpOf p).due = none)
    (hplan : s.plan.coreH ≠ 0) (h : s.planned p ≤ s.now) : ((steepDue s p).stpOf p).due = some (s.planned p) := by
  unfold steepDue
  extract_lets u
  rw [if_neg (by simp [u, habs, hperm, hnot, hplan, h]), stpOf_updStpOf_same]

/-- Before its planned time a unit does not fall due. -/
theorem steepDue_early {s : State} {p : Nat} (h : s.now < s.planned p) : steepDue s p = s := by
  unfold steepDue
  exact if_pos (by simp [h])

/-- A new rotation plans from now on by the period registers, and keeps when the wafer was ready (R318). -/
theorem coreRotationStart_plan : (coreRotationStart s).plan.start = s.now ∧ (coreRotationStart s).plan.ready = s.plan.ready ∧
    (coreRotationStart s).plan.coreH = s.rd uBRW BRW_STP_PERIOD_CORE_H ∧ (coreRotationStart s).plan.unitH = s.rd uBRW BRW_STP_PERIOD_UNIT_H := by
  unfold coreRotationStart
  extract_lets old h uh n told passed counted rot planned
  have hpassed : Kept (allBut .wall) s passed := by
    refine .ite (.refl _ s) ?_
    have htold : Kept (allBut .wall) s told := kept_corePeriod (.refl _ s) (by decide)
    exact .ite (kept_unitPeriod htold (by decide)) htold
  have hnow : counted.now = s.now := now_of_wall s ((kept_count hpassed (by decide)).parts .wall (by decide))
  have hplan : ((planned.gristActivate rot).steepsFirst).plan = planned.plan :=
    (kept_steepsFirst (A := allBut .plan) (kept_gristActivate (.refl _ planned) (by decide)) (by decide)).parts .plan (by decide)
  rw [hplan]
  exact ⟨hnow, rfl, rfl, rfl⟩

/-! What a steep begins with. -/

/-- A unit changed shows the change, whether or not the map is told of it. -/
theorem setUnit_unit_same (p : Nat) (f : UnitSt → UnitSt) : (s.setUnit p f).unit p = f (s.unit p) := by
  unfold State.setUnit
  extract_lets a t b
  have hsame : t.unit p = f (s.unit p) := unit_updUnit_same s p f
  split
  · exact hsame
  · exact (unit_congr t ((kept_mapChanged (A := allBut .units) (.refl _ t) (by decide)).parts .units (by decide)) p).trans hsame

/-- A unit changed leaves the engines. -/
theorem setUnit_eng (p : Nat) (f : UnitSt → UnitSt) (e : Nat) : (s.setUnit p f).eng e = s.eng e :=
  eng_congr s ((kept_setUnit (A := allBut .engs) (.refl _ s) (by decide)).parts .engs (by decide)) e

/-- One of Onasen's own units begins with its first slice that has not passed, under steep (R332). -/
theorem stpOwn_begins (p total : Nat) :
    ((s.stpOwn p total).eng (engineOf p)).map (fun x => (x.unit, x.phase, x.total)) = some (p, 4, total) ∧ ((s.stpOwn p total).unit p).steep = true := by
  unfold State.stpOwn
  extract_lets done noted
  constructor
  · rw [setUnit_eng, eng_updEng_same]
    rfl
  · rw [setUnit_unit_same]

/-- A core begins in the phase and for the logical core given, and one that serves no longer is held in reset (R325, R329). -/
theorem stpCore_begins (k p phase : Nat) (forced : Option Nat) :
    ((s.stpCore k p phase forced).eng (uTST k)).map (fun x => (x.phase, x.forced)) = some (phase, forced) ∧
      (phase ≠ 1 → ((s.stpCore k p phase forced).core (ckey k p)).rst = true) := by
  unfold State.stpCore
  extract_lets u g tap n t done img x noted begun loaded
  have hbegun : begun.eng (uTST k) = some x := by
    rw [setUnit_eng, eng_updEng_same]
  have hloaded : loaded.eng (uTST k) = some x :=
    (eng_congr begun ((kept_sliceLoad (A := allBut .engs) (.refl _ begun) (by decide)).parts .engs (by decide)) _).trans hbegun
  constructor
  · split <;> (rw [eng_congr loaded (updCore_engs loaded _ _), hloaded]; rfl)
  · intro hphase
    rw [if_neg hphase, core_updCore_same]

/-! What an engine takes up. -/

/-- The state in which a region's Hall holds the cycle count of the last 100 µs (R321). -/
def clocked (r cyc : Nat) : State := s.updHall r (fun h => { h with clk := some cyc })

/-- The count decides neither what is next nor what a steep takes from elsewhere. -/
theorem clocked_stpNext (r cyc e : Nat) : (clocked s r cyc).stpNext e = s.stpNext e := rfl
theorem clocked_kindBusy (r cyc q kind : Nat) : (clocked s r cyc).kindBusy q kind = s.kindBusy q kind := rfl
theorem clocked_tapDue (r cyc k p : Nat) : (clocked s r cyc).tapDue k p = s.tapDue k p := rfl
theorem clocked_tapPassed (r cyc k p : Nat) : (clocked s r cyc).tapPassed k p = s.tapPassed k p := rfl

/-- Nor whether a region is lost, or a Taster trusted. -/
theorem clocked_regionLost (r cyc q : Nat) : (clocked s r cyc).regionLost q = s.regionLost q := by
  unfold State.regionLost clocked
  by_cases h : q = r
  · rw [h, hall_updHall_same]
  · rw [hall_updHall_other s h]
theorem clocked_tstTrusted (r cyc k : Nat) : (clocked s r cyc).tstTrusted k = s.tstTrusted k := by
  unfold State.tstTrusted
  rw [clocked_regionLost]
  rfl

/-- The engine is free, in a region that runs, so that it takes what is next (R319, R322, R326, R339). -/
def mayStart (e : Nat) : Prop :=
  (s.eng e).isSome = false ∧ (s.hall (regionOfEngine e)).procHeld = false ∧ s.atK5 (regionOfEngine e) = false ∧ s.stopped = false ∧
    s.partReset (regionOfEngine e) = false ∧ s.regionLost (regionOfEngine e) = false ∧ s.regionShut (regionOfEngine e) = false

theorem not_stays_of_mayStart {s : State} {e : Nat} (h : mayStart s e) :
    ¬ ((s.eng e).isSome || (s.hall (regionOfEngine e)).procHeld || s.atK5 (regionOfEngine e) || s.stopped || s.partReset (regionOfEngine e) ||
      s.regionLost (regionOfEngine e) || s.regionShut (regionOfEngine e)) = true := by
  obtain ⟨hfree, hproc, hk5, hstop, hpart, hlost, hshut⟩ := h
  rw [hfree, hproc, hk5, hstop, hpart, hlost, hshut]
  decide

/-- A Cellar that is next is taken up while no other Cellar of the region is under steep (R318, R332). -/
theorem steepStart_cellar {s : State} {e cls u : Nat} (h : mayStart s e) (hn : s.stpNext e = some (cls, u)) (hu : puidKind u = 5)
    (hb : s.kindBusy (regionOfEngine e) 5 = false) (cyc : Nat) : steepStart s e cyc = (clocked s (regionOfEngine e) cyc).stpOwn u 16 := by
  unfold steepStart
  extract_lets r counted
  have hnext : counted.stpNext e = some (cls, u) := (clocked_stpNext s r cyc e).trans hn
  have hfree : counted.kindBusy r 5 = false := (clocked_kindBusy s r cyc r 5).trans hb
  rw [if_neg (not_stays_of_mayStart h), hnext]
  dsimp only
  rw [hu]
  exact if_neg (fun hbusy => Bool.false_ne_true (hfree.symm.trans hbusy))

/-- A fenced core that is next is taken up to be cleared, while its Tap's slices come first and have not all passed (R319, R325, R331). -/
theorem steepStart_fenced {s : State} {e cls u : Nat} (h : mayStart s e) (hn : s.stpNext e = some (cls, u)) (hu : puidKind u = 0)
    (htrust : s.tstTrusted (puidMajor u) = true) (hver : s.rd uBRW BRW_GRIST_ACTIVE_VERSION ≠ 0)
    (hstore : s.grist.active.contains (regionOfEngine e) = true) (htap : s.tapDue (puidMajor u) (puidMinor u) = true)
    (hpassed : s.tapPassed (puidMajor u) (puidMinor u) < 2) (hfenced : (s.unit u).fenced = true) (cyc : Nat) :
    steepStart s e cyc = (clocked s (regionOfEngine e) cyc).stpCore (puidMajor u) (puidMinor u) 3 none := by
  unfold steepStart
  extract_lets r counted
  have hnext : counted.stpNext e = some (cls, u) := (clocked_stpNext s r cyc e).trans hn
  have htrust : counted.tstTrusted (puidMajor u) = true := (clocked_tstTrusted s r cyc _).trans htrust
  rw [if_neg (not_stays_of_mayStart h), hnext]
  dsimp only
  rw [hu]
  refine (if_neg ?trusted).trans ((if_neg ?package).trans ((if_neg ?slow).trans (if_pos hfenced)))
  case trusted => rw [htrust]; decide
  case package =>
    rw [not_or]
    exact ⟨hver, by rw [show counted.grist.active.contains r = true from hstore]; decide⟩
  case slow =>
    have hdue : counted.tapDue (puidMajor u) (puidMinor u) = true := (clocked_tapDue s r cyc _ _).trans htap
    have hleft : counted.tapPassed (puidMajor u) (puidMinor u) < 2 :=
      Nat.lt_of_le_of_lt (Nat.le_of_eq (clocked_tapPassed s r cyc _ _)) hpassed
    rw [if_pos hdue]
    exact fun hslow => Nat.not_le.mpr hleft hslow.1

/-! A core that waits for its boundary, and one that is overdue. -/

/-- The core is the last one of a requalification that goes on (R330). -/
def lastOfRequal (k p : Nat) : Bool := (s.adjOf k).requalOn && (s.adjOf k).requal.contains p && (s.adjOf k).requal.all (· == p)

/-- A core that still serves and whose boundary has not come (R327). -/
def waitsForBoundary (k p : Nat) : Prop :=
  (s.core (ckey k p)).rst = false ∧ (s.port k).mig.map (·.src) ≠ some p ∧ (s.logicalOf k p).isNone = false

theorem not_stays_of_waitsForBoundary {s : State} {k p : Nat} (h : waitsForBoundary s k p) {x : StpRun} (hp : x.phase = 1) :
    ¬ (decide (x.phase ≠ 1) || (s.core (ckey k p)).rst || ((s.port k).mig.map (·.src)) == some p || (s.logicalOf k p).isNone) = true := by
  obtain ⟨hrst, hmig, hserves⟩ := h
  rw [hp, hrst, hserves, beq_false_of_ne hmig]
  decide

/-- An attempt is deferred from now on (R319). -/
theorem stpDefer_deferred (p reason : Nat) : ((s.stpDefer p reason).stpOf p).deferred = s.now := by
  unfold State.stpDefer
  extract_lets noted k
  have hnoted : (noted.stpOf p).deferred = s.now := by rw [stpOf_updStpOf_same]
  have hk : Kept (allBut .stp) noted (if puidKind p = 0 then (noted.count (uTST k) TST_STP_DEFER_COUNT).raiseOnce 0 0x7011 (puTst k) reason (puidMinor p)
      else noted.raiseOnce 0 0x7011 (puHal (regionOfPuid p)) reason p) :=
    .ite (kept_raiseOnce (kept_count (.refl _ noted) (by decide)) (by decide)) (kept_raiseOnce (.refl _ noted) (by decide))
  rw [stpOf_congr _ (hk.parts .stp (by decide))]
  exact hnoted

/-- An attempt deferred leaves the engines. -/
theorem stpDefer_eng (p reason e : Nat) : (s.stpDefer p reason).eng e = s.eng e :=
  eng_congr s ((kept_stpDefer (A := allBut .engs) (.refl _ s) (by decide)).parts .engs (by decide)) e

/-- A core that waits is withdrawn and put off. -/
theorem steepWithdraw_putsOff {s : State} {k p : Nat} {x : StpRun} (hx : s.runOf (puCore k p) = some x) (hp : x.phase = 1) (h : waitsForBoundary s k p)
    (hlast : lastOfRequal s k p = false) :
    (steepWithdraw s k p).eng (uTST k) = none ∧ ((steepWithdraw s k p).stpOf (puCore k p)).deferred = s.now := by
  have hnow : (s.stpEnd (uTST k)).now = s.now :=
    now_of_wall s ((kept_stpEnd (A := allBut .wall) (.refl _ s) (by decide)).parts .wall (by decide))
  unfold steepWithdraw
  extract_lets u a
  rw [hx]
  dsimp only
  rw [if_neg (not_stays_of_waitsForBoundary h hp)]
  split
  next hrequal =>
    rw [if_neg (fun hall => Bool.false_ne_true (hlast.symm.trans (by unfold lastOfRequal; rw [hrequal, hall]; rfl)))]
    exact ⟨stpEnd_eng s _, by rw [stpOf_updStpOf_same]⟩
  next =>
    exact ⟨by rw [stpDefer_eng, stpEnd_eng], (stpDefer_deferred _ u 1).trans hnow⟩

/-- The last core of a requalification waits on. -/
theorem steepWithdraw_last {s : State} {k p : Nat} (hlast : lastOfRequal s k p = true) : steepWithdraw s k p = s := by
  unfold lastOfRequal at hlast
  obtain ⟨hrequal, hall⟩ := Bool.and_eq_true_iff.mp hlast
  unfold steepWithdraw
  extract_lets u
  split
  next => rfl
  next => exact ite_eq_left_iff.mpr (fun _ => (if_pos hrequal).trans (if_pos hall))

/-- A core not steeped in time is overdue, which its Taster tells once in an epoch with 0x7012 (R329). -/
theorem coreOverdue_marks {s : State} {k p : Nat} (habs : (s.unit (puCore k p)).absent = false) (hperm : (s.unit (puCore k p)).perm = false)
    (hnot : (s.stpOf (puCore k p)).overdue = false) (hm : s.marks.contains (puTst k, 0x7012, 0) = false) :
    ((coreOverdue s k p).stpOf (puCore k p)).overdue = true ∧
      ∃ e ∈ (coreOverdue s k p).transit, e.code = 0x7012 ∧ e.puid = puTst k := by
  unfold coreOverdue
  extract_lets u x force shown late since
  rw [if_neg (by rw [habs, hperm, hnot]; decide)]
  have hshown : (shown.stpOf u).overdue = true := by
    show ((s.updStpOf u (fun y => { y with overdue := true, forced := force })).stpOf u).overdue = true
    rw [stpOf_updStpOf_same]
  refine ⟨?_, _, mem_raiseOnce_transit (s := shown) hm _ _ _, rfl, rfl⟩
  rw [stpOf_congr shown ((kept_raiseOnce (A := allBut .stp) (.refl _ shown) (by decide)).parts .stp (by decide))]
  exact hshown

/-- A core that serves, is overdue and cannot be spared, at a Taster that may take it up at its boundary (R329). -/
def mayForce (k p : Nat) : Prop :=
  (s.stpOf (puCore k p)).overdue = true ∧ (s.stpClass (puCore k p)).isNone = false ∧ s.tstTrusted k = true ∧ (s.spares k).length < 2 ∧
    (s.eng (uTST k)).isSome = false ∧ (s.core (ckey k p)).cmd.isSome = false ∧ s.grist.active.contains (regionOfCluster k) = true ∧
    s.atK5 (regionOfCluster k) = false ∧ s.stopped = false ∧ (s.hall (regionOfCluster k)).procHeld = false

/-- At its boundary it is taken up in place of its logical core, whose entry becomes invalid, with 0x7013. -/
theorem forcedSteepBoundary_takes {s : State} {k p l : Nat} (hl : s.logicalOf k p = some l) (h : mayForce s k p) :
    ((forcedSteepBoundary s k p).eng (uTST k)).map (·.forced) = some (some l) ∧ ((forcedSteepBoundary s k p).port k).commit = true ∧
      event s 0x7013 (puCore k p) l p (Config.openVal s.fresh) ∈ (forcedSteepBoundary s k p).transit := by
  obtain ⟨hover, hclass, htrust, hspares, hfree, hcmd, hstore, hk5, hstop, hproc⟩ := h
  unfold forcedSteepBoundary
  extract_lets u
  rw [hl]
  dsimp only
  rw [if_neg (by rw [hover, hclass, htrust, hfree, hcmd, hstore, hk5, hstop, hproc, decide_eq_false (by omega)]; decide)]
  have hbegun := (stpCore_begins s.draw k p 3 (some l)).1
  refine ⟨?_, ?_, ?_⟩
  · rw [eng_congr _ (raise_engs _ _ _ _ _ _), eng_congr _ (updPort_engs _ _ _)]
    have hforced := congrArg (Option.map Prod.snd) hbegun
    rw [Option.map_map] at hforced
    exact hforced
  · rw [port_congr _ (raise_ports _ _ _ _ _ _), port_updPort_same]
  · have hk : Kept (maskOf [.wall, .refLost] ^^^ allButEvents) s ((s.draw.stpCore k p 3 (some l)).updPort k (fun x => { x with
        coreShadow := x.coreShadow ++ [(l, 0)], commit := true })) :=
      kept_updPort (kept_stpCore (kept_draw (.refl _ s) (by decide)) (by decide)) (by decide)
    rw [← hk.event_eq (by decide) (by decide)]
    exact mem_raise_transit _ _ _ _ _ _

/-- Settles O22, clause by clause: a unit due, a rotation, what an engine takes up, a core withdrawn, overdue, or taken up by force. -/
theorem steepStarts : Obligations.SteepStarts := by
  unfold Obligations.SteepStarts
  intro s
  refine ⟨fun u habs hperm hnot hplan => ⟨fun hcome => ?comes, fun hearly => ?early⟩, fun hstop => ?rotation,
    fun e cyc cls u hheld hfree hproc hk5 hstop hpart hlost hshut hn => ?start,
    fun k p x hx hp hrst hmig hserves => ⟨fun hlast => ?putsOff, fun hlast => ?last⟩,
    fun k p habs hperm hnot hm => ?overdue,
    fun k p l hl hover hclass htrust hspares hfree hcmd hstore hk5 hstop hproc => ?forced⟩
  case comes => exact runs_of_exec rfl rfl (steepDue_comes habs hperm hnot hplan hcome)
  case early => exact runs_of_exec rfl (steepDue_early hearly) rfl
  case rotation => exact runs_of_exec rfl (if_neg (by rw [hstop]; decide)) (coreRotationStart_plan s)
  case start =>
    have hmay : mayStart s (engineNo e) := ⟨hfree, hproc, hk5, hstop, hpart, hlost, hshut⟩
    have hruns : (if s.engineHeld e then s else steepStart s (engineNo e) cyc) = steepStart s (engineNo e) cyc :=
      if_neg (by rw [hheld]; decide)
    constructor
    · intro hu hb
      obtain ⟨heng, hunit⟩ := stpOwn_begins (clocked s (regionOfEngine (engineNo e)) cyc) u 16
      refine runs_of_exec rfl (hruns.trans (steepStart_cellar hmay hn hu hb cyc)) ⟨heng, hunit, ?_⟩
      rw [hall_congr _ ((kept_stpOwn (A := allBut .halls) (.refl _ _) (by decide)).parts .halls (by decide)), clocked, hall_updHall_same]
    · intro hu htrust hver hstore htap hpassed hfenced
      obtain ⟨heng, hcore⟩ := stpCore_begins (clocked s (regionOfEngine (engineNo e)) cyc) (puidMajor u) (puidMinor u) 3 none
      refine runs_of_exec rfl (hruns.trans (steepStart_fenced hmay hn hu htrust hver hstore htap hpassed hfenced cyc)) ⟨?_, hcore (by decide)⟩
      have hphase := congrArg (Option.map Prod.fst) heng
      rw [Option.map_map] at hphase
      exact hphase
  case putsOff =>
    obtain ⟨heng, hdeferred⟩ := steepWithdraw_putsOff hx hp ⟨hrst, hmig, hserves⟩ hlast
    exact runs_of_exec rfl rfl ⟨by rw [heng]; rfl, hdeferred⟩
  case last => exact runs_of_exec rfl (steepWithdraw_last hlast) rfl
  case overdue => exact runs_of_exec rfl rfl (coreOverdue_marks habs hperm hnot hm)
  case forced =>
    obtain ⟨heng, hcommit, htold⟩ := forcedSteepBoundary_takes hl ⟨hover, hclass, htrust, hspares, hfree, hcmd, hstore, hk5, hstop, hproc⟩
    exact runs_of_exec rfl rfl ⟨heng, hcommit, _, htold⟩

end Sys2Proof.Machine
end

section
/-! Proposals and endorsements under two keys, and the end of a debug unlock (R526, R556, R561-R565, R578). -/
namespace Sys2Proof.Machine
open Sys2Proof Host Sys2Proof.Claims
variable (s : State)

/-! What leaves the two keys as they are. -/

theorem answer_twk (m : Msg) (status : Nat) (fs : List (Nat × Nat)) : (s.answer m status fs).twk = s.twk :=
  (answer_kept s m status fs).parts .twk (by decide)
theorem sendMirror_twk : s.sendMirror.twk = s.twk := (kept_sendMirror (A := allBut .twk) (.refl _ s) (by decide)).parts .twk (by decide)
theorem notifyTwk_twk (p : Proposal) (what : Nat) : (s.notifyTwk p what).twk = s.twk :=
  (kept_notifyTwk (A := allBut .twk) (.refl _ s) (by decide)).parts .twk (by decide)
theorem refuse_twk (m : Msg) (status : Nat) : (s.refuse m status).twk = s.twk :=
  (kept_refuse (A := allBut .twk) (.refl _ s) (by decide)).parts .twk (by decide)
theorem raiseOnce_twk (key c p x y z : Nat) : (s.raiseOnce key c p x y z).twk = s.twk :=
  (kept_raiseOnce (A := allBut .twk) (.refl _ s) (by decide)).parts .twk (by decide)

/-! Proposals. -/

/-- A proposal dropped leaves the proposals of the other classes, and all else of the two keys. -/
theorem twkDrop_twk (p : Proposal) (what : Nat) :
    (s.twkDrop p what).twk = { s.twk with proposals := s.twk.proposals.filter (fun q => q.cls != p.cls) } := by
  unfold State.twkDrop
  rw [notifyTwk_twk, raise_twk]

/-- A proposal dropped is told of with 0xA022 (R565). -/
theorem mem_twkDrop_transit (p : Proposal) (what : Nat) :
    event s 0xA022 s.puActive p.cls p.nonce ((if p.host then 1 else 0) + (if p.fleet then 2 else 0)) ∈ (s.twkDrop p what).transit := by
  unfold State.twkDrop
  extract_lets src left
  exact (kept_notifyTwk (A := allButEvents) (.refl _ _) (by decide)).event (by decide) (mem_raise_transit left _ _ _ _ _)

/-- A standing proposal has the class that it is found by. -/
theorem proposal_cls {s : State} {cls : Nat} {p : Proposal} (h : s.proposal cls = some p) : p.cls = cls :=
  beq_iff_eq.mp (List.find?_some (p := fun q : Proposal => q.cls == cls) h)

/-- A class has no proposal where none has its number. -/
theorem proposal_none {s : State} {cls : Nat} : s.proposal cls = none ↔ ∀ q ∈ s.twk.proposals, q.cls ≠ cls := by
  unfold State.proposal
  simp

/-- The state before a proposal of a class is staged: an earlier one of the class goes (R562). -/
def proposalGone (cls : Nat) : State :=
  match s.proposal cls with
  | some old => s.twkDrop old 4
  | none => s

theorem proposalGone_proposals (cls : Nat) : (proposalGone s cls).twk.proposals = s.twk.proposals.filter (fun q => q.cls != cls) := by
  unfold proposalGone
  split
  next old hold => rw [twkDrop_twk, proposal_cls hold]
  next hnone =>
    refine (List.filter_eq_self.mpr fun q hq => ?_).symm
    exact bne_iff_ne.mpr (proposal_none.mp hnone q hq)

/-- What a message proposes (R561): its class and payload, under a nonce that the security core draws. -/
def proposedBy (m : Msg) : Proposal :=
  ⟨leAt m.payload 0 1, m.payload.drop 4, Config.openVal s.fresh % 2 ^ 64, if fromFleet m then 2 else 1, s.now, false, false, false, []⟩
/-- The state in which a proposal stands last. -/
def proposalStaged (p : Proposal) : State := { s.draw with twk := { s.twk with proposals := s.twk.proposals ++ [p] } }

/-- A proposal that needs no check replaces the earlier one of its class, is told of with 0xA020, mirrored and answered. -/
theorem twkPropose_stages {s : State} {m : Msg} (hm : first s 0x0300 m) (h7 : leAt m.payload 0 1 ≠ 7) {g u : State} {p : Proposal}
    (hg : g = proposalGone (inHand s m) (leAt m.payload 0 1)) (hp : p = proposedBy g m) (hu : u = proposalStaged g p) :
    twkPropose s = (((u.raise 0xA020 u.puActive p.cls p.nonce p.origin).notifyTwk p 1).sendMirror).answer m 0
      [(p.cls, 1), (0, 5), (p.nonce, 8), (60000, 4)] := by
  subst hg hp hu
  unfold twkPropose
  rw [onMsg_first hm]
  extract_lets cls pay
  rw [if_neg (show cls ≠ 7 from h7)]
  dsimp only
  rw [if_neg (fun h : cls = 7 ∧ leAt pay 0 1 ≤ 2 => h7 h.1)]
  rfl

/-- So it stands last, the only one of its class (R562). -/
theorem twkPropose_proposals {s : State} {m : Msg} (hm : first s 0x0300 m) (h7 : leAt m.payload 0 1 ≠ 7) :
    (twkPropose s).twk.proposals = s.twk.proposals.filter (fun q => q.cls != leAt m.payload 0 1) ++
      [proposedBy (proposalGone (inHand s m) (leAt m.payload 0 1)) m] := by
  rw [twkPropose_stages hm h7 rfl rfl rfl]
  rw [answer_twk, sendMirror_twk, notifyTwk_twk, raise_twk, ← proposalGone_proposals (inHand s m)]
  rfl

/-! Proposals that are changed, and those whose window has ended. -/

/-- The state in which every proposal is changed. -/
def proposalsMapped (f : Proposal → Proposal) : State := { s with twk := { s.twk with proposals := s.twk.proposals.map f } }

/-- A change that keeps the classes changes the proposal of a class. -/
theorem proposalsMapped_proposal {f : Proposal → Proposal} (hf : ∀ q, (f q).cls = q.cls) (cls : Nat) :
    (proposalsMapped s f).proposal cls = (s.proposal cls).map f := by
  unfold State.proposal proposalsMapped
  rw [List.find?_map]
  exact congrArg (fun c => (s.twk.proposals.find? c).map f) (funext fun q => congrArg (· == cls) (hf q))

theorem proposal_congr {s t : State} (h : t.twk = s.twk) (cls : Nat) : t.proposal cls = s.proposal cls := by
  unfold State.proposal
  rw [h]

/-- A proposal whose window has not ended does not expire. -/
theorem expireDue_early {s : State} {cls : Nat} {p : Proposal} (h : s.proposal cls = some p) (hd : p.due = false) : s.expireDue cls = s := by
  unfold State.expireDue
  rw [h]
  exact if_neg (by rw [hd]; exact Bool.false_ne_true)

/-- A class with no proposal has none that expires. -/
theorem expireDue_none {s : State} {cls : Nat} (h : s.proposal cls = none) : s.expireDue cls = s := by
  unfold State.expireDue
  rw [h]

/-- A proposal whose window has ended expires when no endorsement is under verification (R565). -/
theorem expireDue_drops {s : State} {cls : Nat} {p : Proposal} (h : s.proposal cls = some p) (hd : p.due = true) (hv : s.twk.verifying = []) :
    s.expireDue cls = s.twkDrop p 3 := by
  unfold State.expireDue
  rw [h]
  exact if_pos (by rw [hd, hv]; rfl)

/-- An expiry leaves the endorsements under verification and the proposals that commit. -/
theorem expireDue_rest (cls : Nat) :
    (s.expireDue cls).twk.verifying = s.twk.verifying ∧ (s.expireDue cls).twk.committing = s.twk.committing := by
  unfold State.expireDue
  split
  next => exact ⟨rfl, rfl⟩
  next p _ =>
    split
    · rw [twkDrop_twk]
      exact ⟨rfl, rfl⟩
    · exact ⟨rfl, rfl⟩

/-- The window of a class's proposal has ended. -/
def windowEnded (cls : Nat) (q : Proposal) : Proposal := if q.cls = cls then { q with due := true } else q

theorem windowEnded_cls (cls : Nat) (q : Proposal) : (windowEnded cls q).cls = q.cls := by
  unfold windowEnded
  split <;> rfl

/-- With no proposal of the class nothing expires. -/
theorem proposalExpire_none {s : State} {cls : Nat} (h : s.proposal cls = none) :
    (proposalExpire s cls).twk.proposals = s.twk.proposals ∧ (proposalExpire s cls).transit = s.transit := by
  have hnone : (proposalsMapped s (windowEnded cls)).proposal cls = none := by
    rw [proposalsMapped_proposal s (windowEnded_cls cls), h]
    rfl
  have hdo : proposalExpire s cls = proposalsMapped s (windowEnded cls) := expireDue_none hnone
  rw [hdo]
  refine ⟨?_, rfl⟩
  exact (List.map_congr_left fun q hq => if_neg (proposal_none.mp h q hq)).trans (List.map_id _)

/-- A proposal with no endorsement under verification expires with 0xA022 (R565). -/
theorem proposalExpire_drops {s : State} {cls : Nat} {p : Proposal} (h : s.proposal cls = some p) (hv : s.twk.verifying = []) :
    (proposalExpire s cls).proposal cls = none ∧
      event s 0xA022 s.puActive cls p.nonce ((if p.host then 1 else 0) + (if p.fleet then 2 else 0)) ∈ (proposalExpire s cls).transit := by
  obtain rfl : p.cls = cls := proposal_cls h
  have hp : (proposalsMapped s (windowEnded p.cls)).proposal p.cls = some { p with due := true } := by
    rw [proposalsMapped_proposal s (windowEnded_cls p.cls), h]
    exact congrArg some (if_pos rfl)
  have hdo : proposalExpire s p.cls = (proposalsMapped s (windowEnded p.cls)).twkDrop { p with due := true } 3 := expireDue_drops hp rfl hv
  rw [hdo]
  constructor
  · rw [proposal_none, twkDrop_twk]
    exact fun q hq => bne_iff_ne.mp (List.mem_filter.mp hq).2
  · exact mem_twkDrop_transit (proposalsMapped s (windowEnded p.cls)) { p with due := true } 3

/-! Endorsements. -/

/-- An endorsement joins those that wait to be verified, in the role of the path that it came by (R563, R564). -/
theorem twkEndorse_waits {s : State} {m : Msg} (hm : first s 0x0301 m) :
    (twkEndorse s).mbx.inbox = s.mbx.inbox.erase m ∧ (twkEndorse s).twk.verifying = s.twk.verifying ++
      [⟨leAt m.payload 0 1, leAt m.payload 8 8, if fromFleet m then 2 else 1, m.payload.drop 16, m, s.now⟩] := by
  unfold twkEndorse
  rw [onMsg_first hm]
  exact ⟨rfl, rfl⟩

/-- The state in which the oldest endorsement is off the queue. -/
def endorsementTaken (es : List Endorsement) : State := { s with twk := { s.twk with verifying := es } }

/-- An endorsement that does not count is counted as refused, told of with 0xA023 and answered (R564). -/
theorem endorsementVerify_refuses {s : State} {e : Endorsement} {es : List Endorsement} (hv : s.twk.verifying = e :: es) (h : s.endorseReason e ≠ 0) :
    endorsementVerify s = (((((endorsementTaken s es).count uTWK TWK_REFUSED_COUNT).raiseOnce 0 0xA023 s.puActive e.cls e.nonce
      (s.endorseReason e)).refuse e.msg 5).expireDue e.cls) := by
  unfold endorsementVerify
  rw [hv]
  exact if_pos h

/-- It leaves the other endorsements and the proposals that commit. -/
theorem endorsementVerify_refused_twk {s : State} {e : Endorsement} {es : List Endorsement} (hv : s.twk.verifying = e :: es)
    (h : s.endorseReason e ≠ 0) : (endorsementVerify s).twk.verifying = es ∧ (endorsementVerify s).twk.committing = s.twk.committing := by
  rw [endorsementVerify_refuses hv h]
  rw [(expireDue_rest _ _).1, (expireDue_rest _ _).2, refuse_twk, raiseOnce_twk, count_twk]
  exact ⟨rfl, rfl⟩

/-- The first refusal of an epoch is on its way. -/
theorem mem_endorsementVerify_refused {s : State} {e : Endorsement} {es : List Endorsement} (hv : s.twk.verifying = e :: es)
    (h : s.endorseReason e ≠ 0) (hm : s.marks.contains (s.puActive, 0xA023, 0) = false) :
    event s 0xA023 s.puActive e.cls e.nonce (s.endorseReason e) ∈ (endorsementVerify s).transit := by
  rw [endorsementVerify_refuses hv h]
  have hk : Kept (maskOf [.ecnt, .rcnt]) (endorsementTaken s es) ((endorsementTaken s es).count uTWK TWK_REFUSED_COUNT) :=
    kept_count (.refl _ _) (by decide)
  have hmarks : ((endorsementTaken s es).count uTWK TWK_REFUSED_COUNT).marks.contains (s.puActive, 0xA023, 0) = false := by
    rw [count_marks]
    exact hm
  have htold := mem_raiseOnce_transit hmarks e.cls e.nonce (s.endorseReason e)
  rw [hk.event_eq (by decide) (by decide)] at htold
  exact (kept_expireDue (A := allButEvents) (kept_refuse (.refl _ _) (by decide)) (by decide)).event (by decide) htold

/-- A proposal with the endorsement of one role (R564, R565). -/
def endorsedBy (e : Endorsement) (p : Proposal) : Proposal := if e.role = 1 then { p with host := true } else { p with fleet := true }

theorem endorsedBy_cls (e : Endorsement) (p : Proposal) : (endorsedBy e p).cls = p.cls := by
  unfold endorsedBy
  split <;> rfl

/-- Every proposal of a proposal's class becomes that proposal. -/
def replacedBy (p q : Proposal) : Proposal := if q.cls = p.cls then p else q

theorem replacedBy_cls (p q : Proposal) : (replacedBy p q).cls = q.cls := by
  unfold replacedBy
  split
  next h => exact h.symm
  next => rfl

/-- The state in which an endorsement that counts is answered and noted with its proposal. -/
def firstKeyNoted (e : Endorsement) (es : List Endorsement) (p : Proposal) : State :=
  proposalsMapped ((endorsementTaken s es).answer e.msg 0 []) (replacedBy (endorsedBy e p))

/-- The first of the two keys is noted with the proposal, which stands on (R565). -/
theorem endorsementVerify_first {s : State} {e : Endorsement} {es : List Endorsement} {p : Proposal} (hv : s.twk.verifying = e :: es)
    (hp : s.proposal e.cls = some p) (hd : p.due = false) (hhost : p.host = false) (hfleet : p.fleet = false) (h : s.endorseReason e = 0) :
    (endorsementVerify s).twk.verifying = es ∧ (endorsementVerify s).proposal e.cls = some (endorsedBy e p) := by
  have htwk := answer_twk (endorsementTaken s es) e.msg 0 []
  have hone : ¬ ((endorsedBy e p).host && (endorsedBy e p).fleet) = true := by
    unfold endorsedBy
    split <;> simp [hhost, hfleet]
  have hdue : (endorsedBy e p).due = false := by
    unfold endorsedBy
    split <;> exact hd
  have hput : (firstKeyNoted s e es p).proposal e.cls = some (endorsedBy e p) := by
    unfold firstKeyNoted
    rw [proposalsMapped_proposal _ (replacedBy_cls _), proposal_congr htwk, show (endorsementTaken s es).proposal e.cls = some p from hp]
    exact congrArg some (if_pos (endorsedBy_cls e p).symm)
  have hdo : endorsementVerify s = firstKeyNoted s e es p := by
    unfold endorsementVerify
    rw [hv]
    dsimp -zeta only
    extract_lets src taken why
    have htaken : taken.proposal e.cls = some p := hp
    rw [if_neg (not_not_intro (show why = 0 from h)), htaken]
    exact (if_neg hone).trans (expireDue_early hput hdue)
  rw [hdo]
  exact ⟨congrArg TwkSt.verifying htwk, hput⟩

/-! The end of a debug unlock. -/

/-- An unlock that ends is over, and 0xE002 tells why (R578). -/
theorem unlockEnd_ends {s : State} (h : s.dbg.until_.isNone = false) (cause : Nat) :
    (s.unlockEnd cause).dbg.until_ = none ∧ ∃ e ∈ (s.unlockEnd cause).transit, e.code = 0xE002 ∧ e.p5 = cause % 2 ^ 32 := by
  unfold State.unlockEnd
  rw [if_neg (by rw [h]; exact Bool.false_ne_true)]
  extract_lets used piped released src locked
  have hdbg : locked.unlockResume.dbg = locked.dbg := (kept_unlockResume (A := allBut .dbg) (.refl _ locked) (by decide)).parts .dbg (by decide)
  refine ⟨?_, _, mem_raise_transit _ _ _ _ _ _, rfl, rfl⟩
  rw [raise_dbg, hdbg]

/-- With no unlock in force none ends. -/
theorem unlockEnd_locked {s : State} (h : s.dbg.until_.isNone = true) (cause : Nat) : s.unlockEnd cause = s := by
  unfold State.unlockEnd
  exact if_pos h

/-- DEBUG_LOCK ends the unlock and is answered. -/
theorem debugLock_ends {s : State} {m : Msg} (hm : first s 0x0302 m) (h : s.dbg.until_.isNone = false) :
    (debugLock s).dbg.until_ = none ∧ ∃ e ∈ (debugLock s).transit, e.code = 0xE002 ∧ e.p5 = 2 := by
  obtain ⟨hend, e, hmem, hcode, hp5⟩ := unlockEnd_ends (s := inHand s m) h 2
  unfold debugLock
  rw [onMsg_first hm]
  have hdbg := (kept_answer (A := allBut .dbg) (m := m) (status := 0) (fs := []) (.refl _ ((inHand s m).unlockEnd 2)) (by decide)).parts .dbg (by decide)
  refine ⟨?_, e, (kept_answer (A := allButEvents) (.refl _ _) (by decide)).event (by decide) hmem, hcode, hp5⟩
  rw [show _ = ((inHand s m).unlockEnd 2).dbg from hdbg]
  exact hend

end Sys2Proof.Machine
end

section
/-! Downloads, the activation of a firmware bundle, and a processor restarted on request (R347, R386, R527-R529, R536, R550). -/
namespace Sys2Proof.Machine
open Sys2Proof Host Sys2Proof.Claims
variable (s : State)

/-! Work that a message is accepted for. -/

/-- The state in which a message's work is noted, to be answered again when it is done, and the message answered as accepted (R550). -/
def accepted (what : Nat) (m : Msg) (fs : List (Nat × Nat)) : State :=
  State.answer { s with mbx := { s.mbx with work := s.mbx.work ++ [(what, m)] } } m 1 fs

/-- That changes no more than an answer does. -/
theorem accepted_kept (what : Nat) (m : Msg) (fs : List (Nat × Nat)) : Kept 1441151880758561304 s (accepted s what m fs) :=
  kept_answer (Kept.u_mbx (.refl _ s) (by decide)) (by decide)
theorem accepted_puActive (what : Nat) (m : Msg) (fs : List (Nat × Nat)) : (accepted s what m fs).puActive = s.puActive :=
  congrArg puBrw (answer_active _ m 1 fs)

/-! Downloads. -/

theorem dlGot_setDl_same (i v : Nat) : (s.setDl i v).dlGot i = v := Tab.get_put_same _ _ _ _
theorem dlGot_setDl_other {i j : Nat} (h : j ≠ i) (v : Nat) : (s.setDl i v).dlGot j = s.dlGot j := Tab.get_put_other _ _ h _
theorem setDl_mem (i v : Nat) : (s.setDl i v).mem = s.mem := rfl
theorem dlGot_congr {s t : State} (h : t.dl = s.dl) (i : Nat) : t.dlGot i = s.dlGot i := by
  unfold State.dlGot
  rw [h]

/-- A download that begins keeps memory, and where the target's bytes go. -/
theorem dlBegin_mem (d : Nat) : (s.dlBegin d).mem = s.mem :=
  (kept_dlBegin (A := allBut .mem) (.refl _ s) (by decide)).parts .mem (by decide)
theorem dlBegin_dlPlace (d i : Nat) : (s.dlBegin d).dlPlace i = s.dlPlace i := by
  have hfw : (s.dlBegin d).fw.boot = s.fw.boot ∧ (s.dlBegin d).fw.hostboot = s.fw.hostboot := by
    unfold State.dlBegin
    split <;> exact ⟨rfl, rfl⟩
  obtain ⟨hboot, hhost⟩ := hfw
  unfold State.dlPlace
  rw [hboot, hhost]

/-- Bytes written depend on the memory that was there alone. -/
theorem poke_mem_congr {s t : State} (h : t.mem = s.mem) (k : Nat) (bs : List Byte) : (t.poke k bs).mem = (s.poke k bs).mem := by
  unfold State.poke
  rw [h]

/-- The state that has taken a first chunk of a target. -/
def firstChunk (d : Nat) (bs : List Byte) : State :=
  (((s.dlBegin d).poke (s.dlPlace d).1 bs).setDl d bs.length).setDl (d + 20) 1

/-- It holds the chunk at the target's place, and all of it counts as received. -/
theorem firstChunk_mem (d : Nat) (bs : List Byte) : (firstChunk s d bs).mem = (s.poke (s.dlPlace d).1 bs).mem := by
  unfold firstChunk
  rw [setDl_mem, setDl_mem]
  exact poke_mem_congr (dlBegin_mem s d) _ _
theorem firstChunk_dlGot (d : Nat) (bs : List Byte) : (firstChunk s d bs).dlGot d = bs.length := by
  unfold firstChunk
  rw [dlGot_setDl_other _ (by omega), dlGot_setDl_same]

/-- A first chunk that fits is taken, and ends the download where it says that it is the last (R550). -/
theorem dlChunk_first {s : State} {m : Msg} (hm : first s 0x0400 m) (hfree : s.dlBlocked (leAt m.payload 0 1) = 0) (h0 : leAt m.payload 4 4 = 0)
    (h3 : leAt m.payload 0 1 ≠ 3) (hfits : (m.payload.drop 8).length ≤ (s.dlPlace (leAt m.payload 0 1)).2) {u : State}
    (hu : u = firstChunk (inHand s m) (leAt m.payload 0 1) (m.payload.drop 8)) :
    dlChunk s = if bit (leAt m.payload 1 1) 0 then u.dlEnd (leAt m.payload 0 1) (m.payload.drop 8).length m
      else u.answer m 0 [(0, 2), ((m.payload.drop 8).length, 4)] := by
  subst hu
  unfold dlChunk
  rw [onMsg_first hm]
  extract_lets d off bs n stop begun k stored dup taken
  have hn : n = bs.length := by
    show leAt m.payload 4 4 + bs.length = bs.length
    rw [h0, Nat.zero_add]
  have hbegun : begun = (inHand s m).dlBegin d := if_pos h0
  have hk : k = ((inHand s m).dlPlace d).1 := by
    show (begun.dlPlace d).1 + leAt m.payload 4 4 = _
    rw [h0, hbegun, dlBegin_dlPlace]
    rfl
  have hdup : dup = begun.poke k bs := if_neg h3
  have htaken : taken = firstChunk (inHand s m) d bs := by
    show (dup.setDl d n).setDl (d + 20) 1 = _
    rw [hdup, hbegun, hk, hn]
    rfl
  rw [if_neg (not_not_intro (show stop = 0 from hfree)), if_neg ?fits, htaken, hn]
  case fits =>
    rw [hn, not_or]
    exact ⟨fun h => h.1 h0, Nat.not_lt.mpr hfits⟩

/-- The end of a download, and the answer to a chunk, keep memory and what was received of the target. -/
theorem dlEnd_mem (d n : Nat) (m : Msg) : (s.dlEnd d n m).mem = s.mem :=
  (kept_dlEnd (A := allBut .mem) (.refl _ s) (by decide)).parts .mem (by decide)
theorem dlEnd_dlGot (d n : Nat) (m : Msg) : (s.dlEnd d n m).dlGot d = s.dlGot d := by
  have hclosed : (s.setDl (d + 20) 0).dlGot d = s.dlGot d := dlGot_setDl_other s (by omega) 0
  unfold State.dlEnd
  extract_lets closed work
  have hwork : ∀ t : State, (work t).dlGot d = t.dlGot d := fun t =>
    dlGot_congr ((accepted_kept t d m _).parts .dl (by decide)) d
  split
  · rw [hwork, dlGot_congr (wr_dl _ _ _ _ _), hclosed]
  · rw [hwork, dlGot_setDl_other _ (by decide), hclosed]
  · rw [hwork, dlGot_congr (wr_dl _ _ _ _ _), hclosed]
  · exact (dlGot_congr ((answer_kept _ _ _ _).parts .dl (by decide)) d).trans hclosed

/-- A first chunk stands at its target's place, and counts as received. -/
theorem dlChunk_first_stored {s : State} {m : Msg} (hm : first s 0x0400 m) (hfree : s.dlBlocked (leAt m.payload 0 1) = 0)
    (h0 : leAt m.payload 4 4 = 0) (h3 : leAt m.payload 0 1 ≠ 3) (hfits : (m.payload.drop 8).length ≤ (s.dlPlace (leAt m.payload 0 1)).2) :
    (dlChunk s).mem = (s.poke (s.dlPlace (leAt m.payload 0 1)).1 (m.payload.drop 8)).mem ∧
      (dlChunk s).dlGot (leAt m.payload 0 1) = (m.payload.drop 8).length := by
  rw [dlChunk_first hm hfree h0 h3 hfits rfl]
  have hmem := firstChunk_mem (inHand s m) (leAt m.payload 0 1) (m.payload.drop 8)
  have hgot := firstChunk_dlGot (inHand s m) (leAt m.payload 0 1) (m.payload.drop 8)
  split
  · exact ⟨(dlEnd_mem _ _ _ _).trans hmem, (dlEnd_dlGot _ _ _ _).trans hgot⟩
  · have hk := answer_kept (firstChunk (inHand s m) (leAt m.payload 0 1) (m.payload.drop 8)) m 0 [(0, 2), ((m.payload.drop 8).length, 4)]
    exact ⟨(hk.parts .mem (by decide)).trans hmem, (dlGot_congr (hk.parts .dl (by decide)) _).trans hgot⟩

/-- A chunk out of order is refused with status 4 (R550). -/
theorem dlChunk_disordered {s : State} {m : Msg} (hm : first s 0x0400 m) (hfree : s.dlBlocked (leAt m.payload 0 1) = 0) (h0 : leAt m.payload 4 4 ≠ 0)
    (hgot : leAt m.payload 4 4 ≠ s.dlGot (leAt m.payload 0 1)) : dlChunk s = (inHand s m).refuse m 4 := by
  unfold dlChunk
  rw [onMsg_first hm]
  exact (if_neg (not_not_intro hfree)).trans (if_pos (.inl ⟨h0, .inl hgot⟩))

/-! Firmware. -/

/-- An activation that starts is told of with 0xA003 (R528). -/
theorem mem_actStart_transit : event s 0xA003 s.puActive (s.slotVer (1 - s.fw.boot)) s.fw.ver ∈ s.actStart.transit := by
  unfold State.actStart
  extract_lets slot old src begun shown
  have hk : Kept (maskOf [.regs, .fw]) s shown :=
    kept_wr (kept_wr (kept_wr (Kept.u_fw (.refl _ s) (by decide)) (by decide)) (by decide)) (by decide)
  have hactive : shown.puActive = s.puActive := by
    unfold State.puActive State.active
    rw [rd_wr_apart _ (by decide), rd_wr_apart _ (by decide), rd_wr_apart _ (by decide)]
    rfl
  have hver : shown.slotVer slot = s.slotVer (1 - s.fw.boot) := by
    unfold State.slotVer
    rw [peek_congr s (hk.parts .mem (by decide))]
  have htold := mem_raise_transit shown 0xA003 shown.puActive (shown.slotVer slot) old 0
  rw [hk.event_eq (by decide) (by decide), hactive, hver] at htold
  rw [hactive, hver]
  exact (kept_actGo (A := allButEvents) (kept_fwHold (.refl _ _) (by decide)) (by decide)).event (by decide) htold

/-- The activation of a verified bundle starts once it is answered (R528, R536). -/
theorem mem_fwActivate_transit {s : State} {m : Msg} (hm : first s 0x0401 m) (h3 : s.rd uBRW BRW_FW_STAT_STATE = 3) (hnone : s.fw.act = none)
    (hoff : s.handedOff = true) : event s 0xA003 s.puActive (s.slotVer (1 - s.fw.boot)) s.fw.ver ∈ (fwActivate s).transit := by
  unfold fwActivate
  rw [onMsg_first hm, if_neg ?may]
  case may =>
    show ¬ (s.rd uBRW BRW_FW_STAT_STATE ≠ 3 ∨ s.fw.act.isSome ∨ !s.handedOff)
    rw [h3, hnone, hoff]
    decide
  have hk := accepted_kept (inHand s m) 4 m []
  have hfw : (accepted (inHand s m) 4 m []).fw = s.fw := hk.parts .fw (by decide)
  have hver : ∀ slot, (accepted (inHand s m) 4 m []).slotVer slot = s.slotVer slot := fun slot => by
    unfold State.slotVer
    rw [peek_congr s (hk.parts .mem (by decide))]
  have htold := mem_actStart_transit (accepted (inHand s m) 4 m [])
  rw [hk.event_eq (by decide) (by decide), accepted_puActive, hver, hfw] at htold
  exact htold

/-- Without a verified bundle an activation is refused with status 5. -/
theorem fwActivate_refuses {s : State} {m : Msg} (hm : first s 0x0401 m) (h3 : s.rd uBRW BRW_FW_STAT_STATE ≠ 3) :
    fwActivate s = (inHand s m).refuse m 5 := by
  unfold fwActivate
  rw [onMsg_first hm]
  exact if_pos (.inl h3)

/-- A processor's restart was asked for, from a slot. -/
def restarts (i slot : Nat) : Prop := (s.proc i).next = slot ∧ (s.proc i).cause = 3

theorem proc_congr {s t : State} (h : t.fw = s.fw) (i : Nat) : t.proc i = s.proc i := by
  unfold State.proc
  rw [h]

theorem proc_updProc_same (i : Nat) (f : ProcSt → ProcSt) : (s.updProc i f).proc i = f (s.proc i) := Tab.get_upd_same _ _ _ _
theorem proc_updProc_other {i j : Nat} (h : j ≠ i) (f : ProcSt → ProcSt) : (s.updProc i f).proc j = s.proc j := Tab.get_upd_other _ _ h _

/-- What the processors' entries are once one begins its load. -/
theorem loadBegin_proc (j slot cause i : Nat) :
    (s.loadBegin j slot cause).proc i = (s.updProc j (fun p => { p with state := 1, next := slot, cause := cause })).proc i := by
  unfold State.loadBegin
  exact proc_congr ((kept_loadCopy (A := allBut .fw) (.refl _ _) (by decide)).parts .fw (by decide)) i

/-- A restart asked for stays so while processors whose restart was asked for begin their loads, itself or another. -/
theorem restarts_loadBegin {s : State} {i slot : Nat} (h : restarts s i slot) (j : Nat) : restarts (s.loadBegin j (s.proc j).next 3) i slot := by
  obtain ⟨hnext, hcause⟩ := h
  unfold restarts
  rw [loadBegin_proc]
  by_cases hij : i = j
  · subst hij
    rw [proc_updProc_same]
    exact ⟨hnext, rfl⟩
  · rw [proc_updProc_other s hij]
    exact ⟨hnext, hcause⟩

/-- So it does when they go on (R529). -/
theorem restarts_procsGo {s : State} {i slot : Nat} (h : restarts s i slot) : restarts s.procsGo i slot := by
  have hloads : ∀ (l : List Nat) (t : State), restarts t i slot → restarts (t.each l (fun t j => t.loadBegin j (t.proc j).next 3)) i slot := fun l => by
    unfold State.each
    induction l with
    | nil => exact fun _ ht => ht
    | cons j l ih => exact fun t ht => ih _ (restarts_loadBegin ht j)
  exact hloads _ _ h

/-- A processor that runs undisturbed is restarted on request from the slot that it runs (R386, R529). -/
theorem procRestart_restarts {s : State} {m : Msg} (hm : first s 0x0402 m) (hthere : s.procThere (leAt m.payload 0 1) = true) (hoff : s.handedOff = true)
    (hnone : s.fw.act = none) (hstate : (s.proc (leAt m.payload 0 1)).state = 0) (hcause : (s.proc (leAt m.payload 0 1)).cause = 0) :
    restarts (procRestart s) (leAt m.payload 0 1) (s.proc (leAt m.payload 0 1)).slot := by
  unfold procRestart
  rw [onMsg_first hm]
  extract_lets i p asked
  rw [if_neg ?there, if_neg ?quiet]
  case there =>
    show ¬ (!s.procThere i ∨ !s.handedOff)
    rw [hthere, hoff]
    decide
  case quiet =>
    show ¬ ((s.proc i).state ≠ 0 ∨ (s.proc i).cause ≠ 0 ∨ s.fw.act.isSome)
    rw [hstate, hcause, hnone]
    decide
  refine restarts_procsGo ?_
  have hasked : asked.proc i = { s.proc i with next := (s.proc i).slot, cause := 3 } := proc_updProc_same _ _ _
  have hfw : (accepted asked (100 + i) m []).fw = asked.fw := (accepted_kept asked _ m []).parts .fw (by decide)
  change restarts (accepted asked (100 + i) m []) i (s.proc i).slot
  unfold restarts
  rw [proc_congr hfw, hasked]
  exact ⟨rfl, rfl⟩

/-- Settles O42, clause by clause: proposals, endorsements, windows that end, unlocks, downloads, activations and restarts. -/
theorem twoKeyAndDownloads : Obligations.TwoKeyAndDownloads := by
  unfold Obligations.TwoKeyAndDownloads
  intro s m
  refine ⟨fun hm h7 => ?propose, fun hm => ?endorse,
    fun e es hv => ⟨fun hwhy hmark => ?refused, fun p hp hd hhost hfleet => ?firstKey⟩,
    fun cls => ⟨fun hnone => ?noProposal, fun p hp hv => ?expires⟩,
    fun hopen => ⟨?unlockExpires, fun hm => ?locked⟩, fun hlocked => ?noUnlock,
    fun d hd hm hfree => ⟨fun h0 h3 hfits => ?chunk, fun h0 hgot => ?disordered⟩,
    fun hm => ⟨fun h3 hnone hoff => ?activated, fun h3 => ?notActivated⟩,
    fun i hi hm hthere hoff hnone hstate hcause => ?restarted⟩
  case propose =>
    refine runs_of_exec rfl rfl ?_
    rw [twkPropose_proposals hm h7, List.getLast?_append, List.filter_append, List.filter_filter]
    refine ⟨rfl, ?_⟩
    have hothers : s.twk.proposals.filter (fun q => q.cls == leAt m.payload 0 1 && q.cls != leAt m.payload 0 1) = [] := by
      simp
    rw [hothers]
    simp [proposedBy]
  case endorse => exact runs_of_exec rfl rfl (twkEndorse_waits hm)
  case refused =>
    obtain ⟨hverifying, hcommitting⟩ := endorsementVerify_refused_twk hv hwhy
    exact runs_of_exec rfl rfl ⟨hverifying, mem_endorsementVerify_refused hv hwhy hmark, hcommitting⟩
  case firstKey =>
    refine runs_of_exec rfl rfl ?_
    by_cases hwhy : s.endorseReason e = 0
    · obtain ⟨hverifying, hstands⟩ := endorsementVerify_first hv hp hd hhost hfleet hwhy
      refine ⟨hverifying, fun _ => ?_⟩
      rw [hstands]
      unfold endorsedBy
      split <;> simp [*]
    · exact ⟨(endorsementVerify_refused_twk hv hwhy).1, fun h => absurd h hwhy⟩
  case noProposal => exact runs_of_exec rfl rfl (proposalExpire_none hnone)
  case expires => exact runs_of_exec rfl rfl (proposalExpire_drops hp hv)
  case unlockExpires => exact runs_of_exec rfl rfl (unlockEnd_ends hopen 1)
  case locked => exact runs_of_exec rfl rfl (debugLock_ends hm hopen)
  case noUnlock => exact runs_of_exec rfl (unlockEnd_locked hlocked 1) rfl
  case chunk =>
    subst hd
    exact runs_of_exec rfl rfl (dlChunk_first_stored hm hfree h0 h3 hfits)
  case disordered =>
    subst hd
    have hk : Kept (maskOf [.regs, .ecnt, .rcnt, .transit, .marks, .sent, .mbx, .mgt]) (inHand s m) ((inHand s m).refuse m 4) :=
      kept_refuse (.refl _ _) (by decide)
    exact runs_of_exec rfl (dlChunk_disordered hm hfree h0 hgot) ⟨hk.parts .mem (by decide), hk.parts .dl (by decide),
      fun hear => told_refuse (s := inHand s m) (hears_congr hear rfl) 4⟩
  case activated => exact runs_of_exec rfl rfl (mem_fwActivate_transit hm h3 hnone hoff)
  case notActivated =>
    have hk : Kept (allBut .fw) (inHand s m) ((inHand s m).refuse m 5) := kept_refuse (.refl _ _) (by decide)
    exact runs_of_exec rfl (fwActivate_refuses hm h3) ⟨hk.parts .fw (by decide),
      fun hear => told_refuse (s := inHand s m) (hears_congr hear rfl) 5⟩
  case restarted =>
    subst hi
    exact runs_of_exec rfl rfl (procRestart_restarts hm hthere hoff hnone hstate hcause)

end Sys2Proof.Machine
end

section
/-! Limits of commands, hang reports, the stall watchdog, replays that do not start and kills that are done (R355-R369, R383, R386, R391). -/
namespace Sys2Proof.Machine
open Sys2Proof Host Sys2Proof.Claims
variable (s : State)

/-! A command at its limit. -/

/-- A core holds a command that has a limit and is not marked yet, and its Taster has not stopped. -/
def atLimit (k p cmd : Nat) : Prop :=
  (s.core (ckey k p)).cmd = some cmd ∧ (s.limitOf k cmd).isNone = false ∧ (s.core (ckey k p)).expired = false ∧ s.unitStopped (uTST k) = false

/-- That is what keeps the expiry from being ignored. -/
theorem not_ignored_of_atLimit {s : State} {k p cmd : Nat} (h : atLimit s k p cmd) :
    ¬ ((s.limitOf k cmd).isNone || (s.core (ckey k p)).expired || s.unitStopped (uTST k)) = true := by
  obtain ⟨-, hlimit, hexpired, hstopped⟩ := h
  rw [hlimit, hexpired, hstopped]
  decide

/-- A command that ends as its limit passes is complete, and counts as late (R357). -/
theorem commandExpire_ending {s : State} {k p cmd : Nat} (h : atLimit s k p cmd) :
    commandExpire s k p true = s.count (uHAL (regionOfCluster k)) HAL_TMO_LATE_COUNT := by
  unfold commandExpire
  dsimp only
  rw [h.1]
  exact if_neg (not_ignored_of_atLimit h)

/-- A command that passes its limit is marked, joins the hang reports, and raises 0x8001 the first time in the epoch (R355, R358, R391). -/
theorem commandExpire_passed {s : State} {k p cmd : Nat} (h : atLimit s k p cmd) :
    ((commandExpire s k p false).core (ckey k p)).expired = true ∧ (commandExpire s k p false).hangs = s.hangs ++ [(k, p, cmd)] ∧
    (s.marks.contains (puCore k p, 0x8001, 0) = false →
      ∃ e ∈ (commandExpire s k p false).transit, e.code = 0x8001 ∧ e.puid = puCore k p) := by
  unfold commandExpire
  dsimp only
  rw [h.1]
  dsimp only
  rw [if_neg (not_ignored_of_atLimit h), if_neg Bool.false_ne_true]
  generalize hmarked : (s.updCore (ckey k p) (fun x => { x with expired := true })).count (uHAL (regionOfCluster k)) HAL_TMO_CNT_COUNT = marked
  have hexpired : (marked.core (ckey k p)).expired = true := by
    rw [← hmarked, core_congr _ (count_cores _ _ _ _ _), core_updCore_same]
  have hhangs : marked.hangs = s.hangs := by
    rw [← hmarked, count_hangs, updCore_hangs]
  have hmarks : marked.marks = s.marks := by
    rw [← hmarked, count_marks, updCore_marks]
  refine ⟨?_, ?_, fun hfirst => ?_⟩
  · refine (congrArg CoreSt.expired (core_congr marked (Kept.parts (A := allBut .cores) ?_ .cores (by decide)) _)).trans hexpired
    exact Kept.u_hangs (kept_trace (kept_raiseOnce (.refl _ _) (by decide)) (by decide)) (by decide)
  · refine congrArg (· ++ [(k, p, cmd)]) ((Kept.parts (A := allBut .hangs) ?_ .hangs (by decide)).trans hhangs)
    exact kept_trace (kept_raiseOnce (.refl _ _) (by decide)) (by decide)
  · exact ⟨_, Kept.event (A := allButEvents) (Kept.u_hangs (kept_trace (.refl _ _) (by decide)) (by decide)) (by decide)
      (mem_raiseOnce_transit (hmarks ▸ hfirst) _ _ _), rfl, rfl⟩

/-! Core resets that stand while others start. -/

/-- An operation that keeps the list of resets keeps each of its entries. -/
theorem Kept.resets_prefix {s t : State} (h : Kept (allBut .resets) s t) : s.resets <+: t.resets :=
  have hresets : t.resets = s.resets := h.parts .resets (by decide)
  hresets ▸ List.prefix_refl _

/-- A run over elements that each leave the resets that stand leaves them. -/
theorem each_resets_prefix {α : Type} {f : State → α → State} (h : ∀ t a, t.resets <+: (f t a).resets) (l : List α) :
    s.resets <+: (s.each l f).resets := by
  unfold State.each
  induction l generalizing s with
  | nil => exact List.prefix_refl _
  | cons a l ih => exact (h s a).trans (ih (f s a))

/-- A core reset that starts stands behind those that do. -/
theorem coreReset_resets {s : State} {k p : Nat} (hwider : s.widerReset k = false) (hnone : s.coreResetting k p = false) (cause : Nat) :
    (s.coreReset k p cause).resets = s.resets ++ [⟨1, ckey k p, 4, cause, s.now, [], 0⟩] := by
  unfold State.coreReset
  rw [if_neg (by rw [hwider, hnone]; decide)]
  extract_lets fenced traced
  have hresets : traced.resets = s.resets :=
    (kept_trace (A := allBut .resets) (kept_hallAct (kept_updCore (.refl _ s) (by decide)) (by decide)) (by decide)).parts .resets (by decide)
  have hwall : traced.wall = s.wall :=
    (kept_trace (A := allBut .wall) (kept_hallAct (kept_updCore (.refl _ s) (by decide)) (by decide)) (by decide)).parts .wall (by decide)
  have hnow : traced.now = s.now := now_of_wall s hwall
  rw [← hresets, ← hnow]
  exact (kept_fwHold (kept_showDrain (.refl _ _) (by decide)) (by decide) : Kept (allBut .resets) _ _).parts .resets (by decide)

/-- A wider reset of its cluster, or a reset of the core itself that stands, covers a core reset. -/
theorem coreReset_covered {s : State} {k p : Nat} (h : (s.widerReset k || s.coreResetting k p) = true) (cause : Nat) : s.coreReset k p cause = s := by
  unfold State.coreReset
  exact if_pos h

/-- A core reset leaves the resets that stand. -/
theorem coreReset_resets_prefix (k p cause : Nat) : s.resets <+: (s.coreReset k p cause).resets := by
  cases hcovered : s.widerReset k || s.coreResetting k p with
  | true => exact (congrArg (s.resets <+: ·.resets) (coreReset_covered hcovered cause)).mpr (List.prefix_refl _)
  | false =>
    obtain ⟨hwider, hnone⟩ := Bool.or_eq_false_iff.mp hcovered
    rw [coreReset_resets hwider hnone]
    exact List.prefix_append _ _

/-- Outside a wider reset of its cluster a core that is to be reset is in reset (R361). -/
theorem coreReset_coreResetting {s : State} {k : Nat} (h : s.widerReset k = false) (p cause : Nat) : (s.coreReset k p cause).coreResetting k p = true := by
  cases hnone : s.coreResetting k p with
  | true =>
    rw [coreReset_covered (by rw [hnone, Bool.or_true])]
    exact hnone
  | false =>
    unfold State.coreResetting
    rw [coreReset_resets h hnone]
    simp

/-- A core reset that stands is one of those that do. -/
theorem coreResetting_of_prefix {s t : State} (h : s.resets <+: t.resets) {k p : Nat} (hs : s.coreResetting k p = true) : t.coreResetting k p = true := by
  unfold State.coreResetting at hs ⊢
  rw [List.any_eq_true] at hs ⊢
  obtain ⟨x, hx, hat⟩ := hs
  exact ⟨x, h.subset hx, hat⟩

/-- The kill of a context starts core resets and ends none (R371). -/
theorem killCtx_resets_prefix (c cause step cluster mode reason : Nat) : s.resets <+: (s.killCtx c cause step cluster mode reason).resets := by
  unfold State.killCtx
  extract_lets gated ks asked dropped reset told left
  have hdropped : Kept (allBut .resets) s dropped :=
    kept_each (kept_each (kept_updCtx (.refl _ s) (by decide)) fun _ _ h => kept_updPort h (by decide)) fun _ _ h => kept_dropGated h (by decide)
  have hreset : dropped.resets <+: reset.resets :=
    each_resets_prefix _ (fun _ _ => each_resets_prefix _ (fun _ _ => coreReset_resets_prefix _ _ _ _) _) _
  have hleft : Kept (allBut .resets) reset left :=
    kept_leaveSets (kept_hallAct (kept_notifyKill (kept_regate (.refl _ _) (by decide)) (by decide)) (by decide)) (by decide)
  have hended : Kept (allBut .resets) reset (if cause = 1 ∨ cause = 3 then left else left.retire c) := .ite hleft (kept_retire hleft (by decide))
  split
  · exact List.prefix_refl _
  · exact (hdropped.resets_prefix.trans hreset).trans hended.resets_prefix

theorem steerKill_resets_prefix (k c step : Nat) : s.resets <+: (s.steerKill k c step).resets :=
  killCtx_resets_prefix (s.raise 0x3021 (puHal (regionOfCluster k)) (c * 2 ^ 16) step 1) c 3 step k 2 1

theorem steering_resets_prefix (c : Case) : s.resets <+: (s.steering c).resets := by
  unfold State.steering
  split
  · exact List.prefix_refl _
  · split
    · exact List.prefix_refl _
    · exact steerKill_resets_prefix _ _ _ _

/-- A case that settles ends no reset. -/
theorem settleCase_resets_prefix (h no : Nat) : s.resets <+: (s.settleCase h no).resets := by
  unfold State.settleCase
  split
  · exact List.prefix_refl _
  next c _ =>
    extract_lets r v
    split
    · exact List.prefix_refl _
    · split
      · exact Kept.resets_prefix (kept_sendVerdict (kept_updCase (.refl _ s) (by decide)) (by decide))
      · have htold : Kept (allBut .resets) s ((s.dropCase h no).sendVerdict h v) := kept_sendVerdict (kept_dropCase (.refl _ s) (by decide)) (by decide)
        exact (htold.resets_prefix.trans (steering_resets_prefix _ c)).trans (Kept.resets_prefix (kept_rplRegion (.refl _ _) (by decide)))

/-- A repeat that is withdrawn ends no reset. -/
theorem withdrawRq_resets_prefix (k h : Nat) (q : RptReq) : s.resets <+: (s.withdrawRq k h q).resets := by
  unfold State.withdrawRq
  extract_lets out off told
  have hoff : Kept (allBut .resets) s off := .onlyIf (fun t => t.emit (.repeatOff k)) (fun _ h => kept_emit h (by decide)) (kept_rqSet (.refl _ s) (by decide))
  have htold : off.resets <+: told.resets := by
    unfold told
    split
    · exact (Kept.resets_prefix (kept_updCase (.refl _ off) (by decide))).trans (settleCase_resets_prefix _ _ _)
    · split
      · exact Kept.resets_prefix (kept_outcomeIn (.refl _ off) (by decide))
      · exact List.prefix_refl _
    · exact steerKill_resets_prefix _ _ _ _
  exact (hoff.resets_prefix.trans htold).trans (Kept.resets_prefix (kept_rptGo (.refl _ _) (by decide)))

theorem withdrawRunning_resets_prefix (k : Nat) : s.resets <+: (s.withdrawRunning k).resets := by
  unfold State.withdrawRunning
  split
  · exact withdrawRq_resets_prefix _ _ _ _
  · exact List.prefix_refl _

/-! The oldest hang report of a cluster. -/

/-- The Hall takes the oldest report of a cluster: it is not held, and no global stop is in force. -/
def takesReport (k : Nat) (h : Nat × Nat × Nat) : Prop :=
  s.hangs.find? (fun x => x.1 == k) = some h ∧ (s.hall (regionOfCluster k)).procHeld = false ∧ s.stopped = false

/-- The state once that report is off the list and counted. -/
def hangTaken (k : Nat) (h : Nat × Nat × Nat) : State :=
  (State.count { s with hangs := (s.hangs.takeWhile (· != h)) ++ (s.hangs.dropWhile (· != h)).drop 1 }
    (uTST ((s.checker k).getD k)) TST_HANG_CNT_COUNT).bankCount k 17 1 none

theorem hangTaken_hangs (k : Nat) (h : Nat × Nat × Nat) :
    (hangTaken s k h).hangs = s.hangs.takeWhile (· != h) ++ (s.hangs.dropWhile (· != h)).drop 1 :=
  (kept_bankCount (kept_count (.refl (allBut .hangs) _) (by decide)) (by decide)).parts .hangs (by decide)

theorem hangTaken_resets (k : Nat) (h : Nat × Nat × Nat) : (hangTaken s k h).resets = s.resets :=
  (kept_bankCount (kept_count (.refl (allBut .resets) _) (by decide)) (by decide)).parts .resets (by decide)

theorem hangTaken_widerReset (k : Nat) (h : Nat × Nat × Nat) : (hangTaken s k h).widerReset k = s.widerReset k := by
  unfold State.widerReset
  rw [hangTaken_resets]

/-- What follows from a report puts none on the list and takes no other off. -/
theorem hangReport_kept {s : State} {k : Nat} {h : Nat × Nat × Nat} (htakes : takesReport s k h) :
    Kept (allBut .hangs) (hangTaken s k h) (hangReport s k) := by
  obtain ⟨hfound, hheld, hstopped⟩ := htakes
  unfold hangReport hangTaken
  dsimp only
  rw [hfound]
  dsimp only
  rw [if_neg (by rw [hheld, hstopped]; decide)]
  generalize State.bankCount _ k 17 1 none = taken
  have hk : Kept (allBut .hangs) taken taken := .refl _ _
  refine .ite ?wider (.ite ?noContext (.ite ?ended ?replays))
  case wider => exact kept_addSuspects hk (by decide)
  case noContext => exact kept_withdrawRunning (kept_coreReset hk (by decide)) (by decide)
  case ended => exact kept_coreReset hk (by decide)
  case replays =>
    split
    · refine .ite ?guilty (.ite ?joins ?escalates)
      case guilty =>
        refine kept_replaysGo (kept_killCtx (kept_raise (kept_count ?_ (by decide)) (by decide)) (by decide)) (by decide)
        exact kept_updSet (kept_coreReset hk (by decide)) (by decide)
      case joins => exact kept_coreReset (kept_addSuspects hk (by decide)) (by decide)
      case escalates => exact kept_engineReset (kept_escalated (kept_addSuspects hk (by decide)) (by decide)) (by decide)
    · refine .ite ?engine ?suspects
      case engine =>
        refine kept_each ?_ fun _ _ h => kept_updStpOf h (by decide)
        exact kept_engineReset (kept_escalated (kept_openSet hk (by decide)) (by decide)) (by decide)
      case suspects => exact kept_resetSuspects (kept_openSet hk (by decide)) (by decide)

/-- A core that ran no context's command is reset, and its repeat withdrawn (R386). -/
theorem hangReport_noContext {s : State} {k p cmd : Nat} (htakes : takesReport s k (k, p, cmd)) (hwider : s.widerReset k = false)
    (hctx : s.ctxOfCmd k cmd = 0) : hangReport s k = ((hangTaken s k (k, p, cmd)).coreReset k p 0).withdrawRunning k := by
  obtain ⟨hfound, hheld, hstopped⟩ := htakes
  unfold hangReport
  dsimp only
  rw [hfound]
  dsimp only
  rw [if_neg (by rw [hheld, hstopped]; decide)]
  exact (if_neg (by rw [← hangTaken, hangTaken_widerReset, hwider]; exact Bool.false_ne_true)).trans (if_pos hctx)

/-- An item that arrives leaves what a report's handling rests on. -/
theorem takesReport_item {s : State} {k : Nat} {h : Nat × Nat × Nat} (htakes : takesReport s k h) (c : Nat) : takesReport (s.item c) k h := by
  obtain ⟨x, hx⟩ := exists_item_eq s c
  rw [hx]
  exact htakes

/-- The report itself is an item of its channel (R396), which its handling leaves. -/
theorem hangReport_items (k c : Nat) : ((hangReport (s.item c) k).chan c).items = ((s.chan c).items + 1) % 2 ^ 32 := by
  have hk : Kept (allBut .chans) (s.item c) (hangReport (s.item c) k) := kept_hangReport (.refl _ _) (by decide)
  rw [chan_congr _ (hk.parts .chans (by decide)), item_items]

/-- The report leaves the list, the others stay in order. -/
theorem hangReport_hangs {s : State} {k : Nat} {h : Nat × Nat × Nat} (htakes : takesReport s k h) :
    (hangReport s k).hangs = s.hangs.takeWhile (· != h) ++ (s.hangs.dropWhile (· != h)).drop 1 :=
  ((hangReport_kept htakes).parts .hangs (by decide)).trans (hangTaken_hangs s k h)

/-- A core that ran no context's command is in reset once its report is handled (R361). -/
theorem hangReport_coreResetting {s : State} {k p cmd : Nat} (htakes : takesReport s k (k, p, cmd)) (hwider : s.widerReset k = false)
    (hctx : s.ctxOfCmd k cmd = 0) : (hangReport s k).coreResetting k p = true := by
  rw [hangReport_noContext htakes hwider hctx]
  exact coreResetting_of_prefix (withdrawRunning_resets_prefix _ k) (coreReset_coreResetting ((hangTaken_widerReset s k _).trans hwider) p 0)

/-! A stalled region, a replay that does not start, a kill that is done. -/

/-- Nothing disarms a region's stall watchdog: no reset of the region or of the wafer, and the region is in use. -/
def watched (r : Nat) : Prop :=
  s.resets.any (fun x => x.level == 4 || (x.level == 3 && x.at_ == r)) = false ∧ s.regionLost r = false ∧ s.regionShut r = false

/-- A stalled region's watchdog raises 0x8002 and asks for the region's reset. -/
theorem stallWatchdog_fires {s : State} {r : Nat} (h : watched s r) :
    stallWatchdog s r = (s.raise 0x8002 (puHal r) r (s.hall r).cyc (s.rd (uHAL r) HAL_STALL_CFG_MS)).startPart r 2 := by
  obtain ⟨hreset, hlost, hshut⟩ := h
  unfold stallWatchdog
  exact if_neg (by rw [hreset, hlost, hshut]; decide)

/-- A region's reset that is asked for while the Hall's processor is held waits (R499). -/
theorem startPart_waits {s : State} {r : Nat} (hfree : s.resets.any (fun x => x.level == 4 || (x.level == 3 && x.at_ == r)) = false)
    (hheld : (s.hall r).procHeld = true) (cause : Nat) : s.startPart r cause = { s with resetsDue := s.resetsDue ++ [(3, r, cause)] } := by
  unfold State.startPart
  rw [if_neg (by rw [hfree]; exact Bool.false_ne_true), if_pos hheld]

/-- What a region's reset starts takes no event off its way. -/
theorem mem_startPart_transit {s : State} {e : Ev} (h : e ∈ s.transit) (r cause : Nat) : e ∈ (s.startPart r cause).transit :=
  (kept_startPart (A := allButEvents) (.refl _ s) (by decide)).event (by decide) h

/-- The first set of a cluster has a suspect under replay that has not started: the suspect is killed unreplayed, and every set goes on. -/
theorem replayStartTimeout_kills {s : State} {k c : Nat} {x : ReplaySet} {xs : List ReplaySet} (hset : s.replayOf k = x :: xs)
    (hcur : x.cur = some c) (hstarted : x.started = false) : replayStartTimeout s k = (s.killUnreplayed k c 2).replaysGo := by
  unfold replayStartTimeout
  rw [hset]
  dsimp only
  rw [hcur]
  exact if_neg (by rw [hstarted]; exact Bool.false_ne_true)

/-- The oldest kill of a cluster is the one that is confirmed; the others wait (R362). -/
theorem killDone_killing {s : State} {k c : Nat} {rest : List Nat} (h : (s.port k).killing = c :: rest) :
    ((killDone s k).port k).killing = rest := by
  unfold killDone
  rw [h]
  dsimp only
  rw [port_congr _ ((kept_dropCmds (A := allBut .ports) (.refl _ _) (by decide)).parts .ports (by decide)), port_updPort_same]

/-- Settles O26, command by command. -/
theorem commandTimeouts : Obligations.CommandTimeouts := by
  unfold Obligations.CommandTimeouts
  intro k s
  refine ⟨fun p cmd hcmd hlimit hexpired hstopped => ?limit, fun p cmd hfound hheld hstopped => ?report,
    fun r hfree hlost hshut => ?stall, fun x xs c hset hcur hstarted => ?replay, fun c rest hkilling => ?killed⟩
  case limit =>
    have hat : atLimit s k.val p.val cmd := ⟨hcmd, hlimit, hexpired, hstopped⟩
    exact ⟨runs_of_exec rfl (commandExpire_ending hat) rfl, runs_of_exec rfl rfl (commandExpire_passed hat)⟩
  case report =>
    have htakes : takesReport (s.item (chTst k.val)) k.val (k.val, p, cmd) := takesReport_item ⟨hfound, hheld, hstopped⟩ _
    have hitem := item_kept s (chTst k.val)
    refine runs_of_exec rfl rfl ⟨hangReport_items s _ _, ?_, fun hwider hctx => ?_⟩
    · have hhangs : (s.item (chTst k.val)).hangs = s.hangs := hitem.parts .hangs (by decide)
      rw [hangReport_hangs htakes, hhangs]
    · obtain ⟨chans, hchans⟩ := exists_item_eq s (chTst k.val)
      exact hangReport_coreResetting htakes (by rw [hchans]; exact hwider) (by rw [hchans]; exact hctx)
  case stall =>
    refine runs_of_exec rfl (stallWatchdog_fires ⟨hfree, hlost, hshut⟩) ⟨mem_startPart_transit (mem_raise_transit _ _ _ _ _ _) _ _, fun hheld => ?_⟩
    exact congrArg State.resetsDue (startPart_waits (s := s.raise 0x8002 (puHal r.val) r.val (s.hall r.val).cyc (s.rd (uHAL r.val) HAL_STALL_CFG_MS))
      hfree hheld 2)
  case replay =>
    exact runs_of_exec rfl (replayStartTimeout_kills hset hcur hstarted)
      ((kept_replaysGo (A := allButEvents) (.refl _ _) (by decide)).event (by decide) (mem_killUnreplayed_transit s _ _ _))
  case killed => exact runs_of_exec rfl rfl (killDone_killing hkilling)

end Sys2Proof.Machine
end

section
/-! The sequence number of the Attic, over every step (R427, R430). -/
namespace Sys2Proof.Machine
open Sys2Proof Host Sys2Proof.Claims

/-- No command lowers the number that the next record takes. -/
theorem exec_nextSeq_le {c : Instr} {s t : State} (h : exec c s = .next t) : s.attic.nextSeq ≤ t.attic.nextSeq := (exec_kept c s t h).seq

/-- Settles O54: a tick leaves the Attic, and no command lowers the number. -/
theorem atticSequenceNeverFalls : Obligations.AtticSequenceNeverFalls := by
  unfold Obligations.AtticSequenceNeverFalls
  intro n s t hn h
  cases hq : s.pending with
  | nil =>
    rw [step_nil hq] at h
    cases h
    exact hn
  | cons c cs =>
    rw [step_cons hq] at h
    exact Nat.le_trans hn (exec_nextSeq_le (s := s.rest cs) h)

end Sys2Proof.Machine
end

section
/-! Cuts that start, the global stop under the debug unlock, and its resume (R392, R401, R403-R406, R499, R574). -/
namespace Sys2Proof.Machine
open Sys2Proof Host Sys2Proof.Claims
variable (s : State)

/-- The state in which a cut of a kind has its number and is the one that runs, before its CUT_BEGIN goes out. -/
def cutBegun (k : CutKind) : State :=
  { s with cutNo := s.cutNo + 1, cut := some ⟨s.cutNo + 1, k, s.now, 0, 0, 0, []⟩, cutDue := false }

/-- What the start of a cut may change beyond its number, its run and the cut that is due: registers, voids, events and what the broadcast moves. -/
def cutMask : Nat := maskOf [.regs, .ecnt, .transit, .sent, .routers, .hops, .clocks, .pair, .halls, .voids]

/-- What goes out at the start of a cut leaves the cut that begins, the stop and the debug port as they are. -/
theorem startCut_kept {A : Nat} (k : CutKind) (hA : cutMask ||| A = A) : Kept A (cutBegun s k) (s.startCut k) :=
  kept_pairApply (kept_declareVoids (kept_castCut (kept_flag (.refl A (cutBegun s k)) (mask_sub (by decide) hA)) (mask_sub (by decide) hA))
    (mask_sub (by decide) hA)) (mask_sub (by decide) hA)

theorem startCut_cut (k : CutKind) : (s.startCut k).cut = some ⟨s.cutNo + 1, k, s.now, 0, 0, 0, []⟩ :=
  (startCut_kept (A := allBut .cut) s k (by decide)).parts .cut (by decide)
theorem startCut_cutNo (k : CutKind) : (s.startCut k).cutNo = s.cutNo + 1 :=
  (startCut_kept (A := allBut .cutNo) s k (by decide)).parts .cutNo (by decide)
theorem startCut_cutDue (k : CutKind) : (s.startCut k).cutDue = false :=
  (startCut_kept (A := allBut .cutDue) s k (by decide)).parts .cutDue (by decide)
theorem startCut_stop (k : CutKind) : (s.startCut k).stop = s.stop :=
  (startCut_kept (A := allBut .stop) s k (by decide)).parts .stop (by decide)

/-- The STOP cut of a request that is honoured starts (R403, R404). -/
def stopCut (origin : Nat) : State := State.startCut { s with stop := ⟨1, s.now, 0, origin⟩ } .stop

theorem stopCut_starts (origin : Nat) : (stopCut s origin).stop.phase = 1 ∧ (stopCut s origin).stop.origin = origin ∧
    (stopCut s origin).cut = some ⟨s.cutNo + 1, .stop, s.now, 0, 0, 0, []⟩ := by
  unfold stopCut
  rw [startCut_stop, startCut_cut]
  exact ⟨rfl, rfl, rfl⟩

theorem stopCut_kind (origin : Nat) : (stopCut s origin).stop.phase = 1 ∧ (stopCut s origin).cut.map (·.kind) = some .stop := by
  obtain ⟨hphase, -, hcut⟩ := stopCut_starts s origin
  exact ⟨hphase, by rw [hcut, Option.map_some]⟩

theorem resumeCut_starts (cause : Nat) : (s.resumeCut cause).stop.phase = 3 ∧ (s.resumeCut cause).stop.cause = cause ∧
    (s.resumeCut cause).cut = some ⟨s.cutNo + 1, .resume, s.now, 0, 0, 0, []⟩ := by
  unfold State.resumeCut
  rw [startCut_stop, startCut_cut]
  exact ⟨rfl, rfl, rfl⟩

/-- A request that is ignored shows OVERRUN (R401, R406). -/
theorem cutOverrun_set : s.cutOverrun.isSet uBRW BRW_CUT_STAT_OVERRUN = true := by
  unfold State.isSet State.cutOverrun
  rw [rd_flag_same]
  rfl

variable {s}

theorem cutStart_starts (hstop : s.stopped = false) (hcut : s.cut = none) (hup : s.firmDown = false) : cutStart s = s.startCut .count := by
  unfold cutStart
  rw [hstop, hcut, hup]
  rfl

theorem cutStart_waits (hstop : s.stopped = false) (h : s.cut.isSome = true ∨ s.firmDown = true) : cutStart s = { s with cutDue := true } := by
  unfold cutStart
  rw [hstop]
  exact if_pos (Bool.or_eq_true_iff.mpr h)

theorem cutGo_starts (hcut : s.cut = none) (hup : s.firmDown = false) : cutGo s = s.startCut .count := by
  unfold cutGo
  rw [hcut, hup]
  rfl

theorem cutGo_running (h : s.cut.isSome = true) : cutGo s = s.cutOverrun := if_pos h

theorem stopReq_locked (h : s.dbg.until_.isNone = true) (origin : Nat) : s.stopReq origin = s.raise 0x9022 s.puActive origin := if_pos h

theorem stopReq_starts (hu : s.dbg.until_.isNone = false) (hstop : s.stopped = false) (hcut : s.cut = none) (origin : Nat) :
    s.stopReq origin = stopCut s origin := by
  unfold State.stopReq
  rw [hu, hstop, hcut]
  rfl

theorem resumeReq_starts (hphase : s.stop.phase = 2) (hcut : s.cut = none) : s.resumeReq = s.resumeCut 1 :=
  if_pos ⟨hphase, by rw [hcut]; rfl⟩

theorem resumeReq_early (h : s.stop.phase ≠ 2) : s.resumeReq = s.cutOverrun := if_neg (fun e => h e.1)

theorem stopMaxTimeout_free (hphase : s.stop.phase = 2) (hmax : s.rd uBRW BRW_CUT_CFG_STOP_MAX_S ≠ 0) (hcut : s.cut = none) :
    stopMaxTimeout s = s.resumeCut 2 := by
  unfold stopMaxTimeout
  rw [if_neg (by simp [hphase, hmax]), hcut]
  rfl

theorem stopMaxTimeout_running (hphase : s.stop.phase = 2) (hmax : s.rd uBRW BRW_CUT_CFG_STOP_MAX_S ≠ 0) (hcut : s.cut.isSome = true) :
    stopMaxTimeout s = { s with stop := { s.stop with cause := 2 } } := by
  unfold stopMaxTimeout
  rw [if_neg (by simp [hphase, hmax]), if_pos hcut]

/-- The host's stop takes effect on the state that has counted its write. -/
theorem globalStop_locked (ht : s.takingOver = false) (hw : writable s uBRW = true) (hu : s.dbg.until_.isNone = true) :
    exec .globalStop s = .next ((s.count uBRW BRW_WIN_WR_COUNT).raise 0x9022 s.puActive 1) :=
  congrArg Outcome.next ((hostOp_of_writable ht hw _ _ _).trans (stopReq_locked (s := s.count uBRW BRW_WIN_WR_COUNT) hu 1))

theorem globalStop_unlocked (ht : s.takingOver = false) (hw : writable s uBRW = true) (hu : s.dbg.until_.isNone = false)
    (hstop : s.stopped = false) (hcut : s.cut = none) : exec .globalStop s = .next (stopCut (s.count uBRW BRW_WIN_WR_COUNT) 1) :=
  congrArg Outcome.next ((hostOp_of_writable ht hw _ _ _).trans (stopReq_starts (s := s.count uBRW BRW_WIN_WR_COUNT) hu hstop hcut 1))

/-- A command of the debug port that comes while none runs is answered by its own effect. -/
theorem moldom_free (h : s.dbg.busy = false) (opc : Nat) (m : Moldom) (f : State → State × Nat × Nat) :
    s.moldom opc m f = (f s).1.respond opc m (f s).2.1 (f s).2.2 := by
  unfold State.moldom
  rw [h]
  rfl

/-- Without the unlock the debug port's stop raises 0xE010 once in an epoch and is refused as the host's is. -/
theorem moldomStop_locked (hb : s.dbg.busy = false) (hu : s.dbg.until_.isNone = true) (m : Moldom) :
    exec (.moldomStop m) s =
      .next (((s.raiseOnce 0 0xE010 s.puActive 0x30 m.target.toNat).stopReq 2).respond 0x30 m 2 0) := by
  show Outcome.next (s.moldom _ _ _) = _
  rw [moldom_free hb, hu]
  rfl

/-- The debug port's command of a stop or a resume runs on until its cut is complete (R574). -/
def orderHeld (t : State) (opc : Nat) (m : Moldom) : State := State.respond { t with dbg := { t.dbg with busy := true } } opc m 1 0

theorem orderHeld_stop (t : State) (opc : Nat) (m : Moldom) : (orderHeld t opc m).stop = t.stop := rfl
theorem orderHeld_cut (t : State) (opc : Nat) (m : Moldom) : (orderHeld t opc m).cut = t.cut := rfl

theorem moldomStop_unlocked (hb : s.dbg.busy = false) (hu : s.dbg.until_.isNone = false) (hstop : s.stopped = false) (hcut : s.cut = none)
    (m : Moldom) : exec (.moldomStop m) s = .next (orderHeld (stopCut s 2) 0x30 m) := by
  have hphase : (stopCut s 2).stop.phase ≠ s.stop.phase := by
    have hzero : s.stop.phase = 0 := by simpa [State.stopped] using hstop
    rw [(stopCut_starts s 2).1, hzero]
    decide
  have horder : s.stopOrder (stopCut s 2) = ({ stopCut s 2 with dbg := { (stopCut s 2).dbg with busy := true } }, 1, 0) := if_pos hphase
  show Outcome.next (s.moldom _ _ _) = _
  rw [moldom_free hb, hu, stopReq_starts hu hstop hcut 2, horder]
  rfl

/-- A request that is refused after another event leaves the stop and the cut, and raises what it would have raised before that event. -/
theorem stopReq_raiseOnce_locked (hu : s.dbg.until_.isNone = true) (key c p x y z origin : Nat) :
    let t := (s.raiseOnce key c p x y z).stopReq origin
    t.stop = s.stop ∧ t.cut = s.cut ∧ event s 0x9022 s.puActive origin ∈ t.transit := by
  have hkept : Kept 1560 s (s.raiseOnce key c p x y z) := kept_raiseOnce (.refl _ s) (by decide)
  have hdbg : (s.raiseOnce key c p x y z).dbg = s.dbg := hkept.parts .dbg (by decide)
  have hact : (s.raiseOnce key c p x y z).puActive = s.puActive := puActive_of_role (rd_raiseOnce_apart s (by decide) _ _ _ _ _ _ _)
  dsimp only
  rw [stopReq_locked (by rw [hdbg]; exact hu), hact, ← hkept.event_eq (by decide) (by decide)]
  exact ⟨hkept.parts .stop (by decide), hkept.parts .cut (by decide), List.mem_append_right _ (List.mem_singleton_self _)⟩

/-- Settles O30: what a cut's start sends out leaves the cut and the stop as they were set. -/
theorem cutsAndStops : Obligations.CutsAndStops := by
  unfold Obligations.CutsAndStops
  intro s
  refine ⟨fun hstop => ⟨?due, ?waits⟩, fun hw ht => ⟨?go, ?again, ?locked, ?stop, ?resume, ?early⟩, fun hphase hmax => ⟨?maxFree, ?maxRunning⟩⟩
  case due =>
    intro hcut hup
    exact runs_of_exec rfl (cutStart_starts hstop hcut hup) ⟨startCut_cutNo s _, startCut_cut s _, startCut_cutDue s _⟩
  case waits =>
    intro h
    exact runs_of_exec rfl (cutStart_waits hstop h) rfl
  case go =>
    intro hcut hup
    exact runs_of_exec rfl ((hostOp_of_writable ht hw _ _ _).trans (cutGo_starts hcut hup)) ⟨startCut_cutNo _ _, startCut_cut _ _⟩
  case again =>
    intro hcut
    exact runs_of_exec rfl ((hostOp_of_writable ht hw _ _ _).trans (cutGo_running hcut)) ⟨cutOverrun_set _, rfl, rfl⟩
  case locked =>
    intro hu
    exact runs_of_exec (globalStop_locked ht hw hu) rfl ⟨rfl, rfl⟩
  case stop =>
    intro hu hstop hcut
    exact runs_of_exec (globalStop_unlocked ht hw hu hstop hcut) rfl (stopCut_starts _ 1)
  case resume =>
    intro hphase hcut
    exact runs_of_exec rfl ((hostOp_of_writable ht hw _ _ _).trans (resumeReq_starts hphase hcut)) (resumeCut_starts _ 1)
  case early =>
    intro hphase
    exact runs_of_exec rfl ((hostOp_of_writable ht hw _ _ _).trans (resumeReq_early hphase)) ⟨cutOverrun_set _, rfl, rfl⟩
  case maxFree =>
    intro hcut
    exact runs_of_exec rfl (stopMaxTimeout_free hphase hmax hcut) (resumeCut_starts s 2)
  case maxRunning =>
    intro hcut
    exact runs_of_exec rfl (stopMaxTimeout_running hphase hmax hcut) rfl

/-- Settles O58: both ways to ask for a stop come to the same request. -/
theorem globalStopNeedsUnlock : Obligations.GlobalStopNeedsUnlock := by
  unfold Obligations.GlobalStopNeedsUnlock
  intro s m hw ht hb
  refine ⟨fun hnone => ?locked, fun hsome hstop hcut => ?unlocked⟩
  case locked =>
    have hu : s.dbg.until_.isNone = true := by rw [hnone]; rfl
    exact ⟨runs_of_exec (globalStop_locked ht hw hu) rfl ⟨rfl, rfl, List.mem_append_right _ (List.mem_singleton_self _)⟩,
      runs_of_exec (moldomStop_locked hb hu m) rfl (stopReq_raiseOnce_locked hu _ _ _ _ _ _ 2)⟩
  case unlocked =>
    have hu : s.dbg.until_.isNone = false := Option.isNone_eq_false_iff.mpr (Option.isSome_iff_ne_none.mpr hsome)
    refine ⟨runs_of_exec (globalStop_unlocked ht hw hu hstop hcut) rfl ?_, runs_of_exec (moldomStop_unlocked hb hu hstop hcut m) rfl ?_⟩
    · exact stopCut_kind _ 1
    · rw [orderHeld_stop, orderHeld_cut]
      exact stopCut_kind s 2

end Sys2Proof.Machine
end

section
/-! Tables in canonical form whose every entry is changed. -/
namespace Sys2Proof

/-- What a key reads in a table with one more entry in front. -/
theorem Tab.get_cons {α : Type} (d : Nat → α) (k : Nat) (v : α) (m : Tab α) (j : Nat) :
    Tab.get d ((k, v) :: m) j = if k = j then v else Tab.get d m j := by
  unfold Tab.get
  rw [Tab.find]
  split <;> rfl

/-- A key at or below the bound of a sorted table reads its default. -/
theorem Tab.get_of_sorted_above {α : Type} (d : Nat → α) {k j : Nat} (hj : j ≤ k) {m : Tab α} (h : Tab.sorted (some k) m = true) :
    Tab.get d m j = d j := by
  induction m generalizing k with
  | nil => rfl
  | cons e m ih =>
    obtain ⟨k', v⟩ := e
    simp only [Tab.sorted, Bool.and_eq_true, decide_eq_true_eq] at h
    obtain ⟨hk, hm⟩ := h
    rw [Tab.get_cons, if_neg (by omega), ih (by omega) hm]

/-- Entries that equal their default can be dropped from a sorted table, where no later entry of the key comes to light. -/
theorem Tab.get_dropDefaults {α : Type} [DecidableEq α] (d : Nat → α) {lo : Option Nat} {m : Tab α} (h : Tab.sorted lo m = true) (j : Nat) :
    Tab.get d (m.filter (fun e => decide (e.2 ≠ d e.1))) j = Tab.get d m j := by
  induction m generalizing lo with
  | nil => rfl
  | cons e m ih =>
    obtain ⟨k, v⟩ := e
    obtain ⟨-, hm⟩ := Bool.and_eq_true_iff.mp h
    by_cases hv : v = d k
    · rw [List.filter_cons_of_neg (by simpa using hv), ih hm, Tab.get_cons]
      split
      case isTrue hkj => rw [← hkj, Tab.get_of_sorted_above d (Nat.le_refl k) hm, hv]
      case isFalse => rfl
    · rw [List.filter_cons_of_pos (by simpa using hv), Tab.get_cons, Tab.get_cons, ih hm]

/-- A change of every entry that leaves the default changes what each key reads. -/
theorem Tab.get_map {α : Type} {d : Nat → α} {g : α → α} (hg : ∀ k, g (d k) = d k) (m : Tab α) (j : Nat) :
    Tab.get d (m.map (fun e => (e.1, g e.2))) j = g (Tab.get d m j) := by
  induction m with
  | nil => exact (hg j).symm
  | cons e m ih =>
    obtain ⟨k, v⟩ := e
    rw [List.map_cons, Tab.get_cons, Tab.get_cons, ih]
    split <;> rfl

theorem Tab.sorted_map {α : Type} (g : α → α) (lo : Option Nat) (m : Tab α) :
    Tab.sorted lo (m.map (fun e => (e.1, g e.2))) = Tab.sorted lo m := by
  induction m generalizing lo with
  | nil => rfl
  | cons e m ih =>
    obtain ⟨k, v⟩ := e
    exact congrArg (_ && ·) (ih (some k))

end Sys2Proof
end

section
/-! What a restart of the trace does to the segments (R416). -/
namespace Sys2Proof.Machine
open Sys2Proof Host Sys2Proof.Claims

/-- A segment whose records are discarded, with its Taster's buffer as it was (R416). -/
def restartedSeg (g : SegSt) : SegSt := { g with next := 0, wrapped := false, stopped := false }

/-- The clause of O32 on restarts, as it holds: in canonical form, where each segment is listed once, a restart empties the state of every one
and leaves its buffer. -/
theorem traceRestart_seg_of_wf {s : State} (hwf : Tab.wf seg0 s.segs = true) {data : Nat} (h : bit data 0 = true) (j : Nat) :
    (traceRestart s data).seg j = restartedSeg (s.seg j) := by
  obtain ⟨hsorted, -⟩ := Bool.and_eq_true_iff.mp hwf
  unfold traceRestart
  rw [if_pos h]
  exact (Tab.get_dropDefaults seg0 ((Tab.sorted_map restartedSeg none s.segs).trans hsorted) j).trans
    (Tab.get_map (g := restartedSeg) (fun _ => rfl) s.segs j)

/-- A state with bring-up behind it, whose segment 0 is listed twice: with a next index, and with a record in its buffer. -/
def segTwice : State := { State.reset with
  fw := { State.reset.fw with stage := 12 }
  segs := [(0, { seg0 0 with next := 1 }), (0, { seg0 0 with buffer := [⟨0x53, 0, 0, 0, 0, 0, 0, 0, 0, 0⟩] })] }

theorem segTwice_writable : writable segTwice uLFT = true := by decide

/-- Refutes O32: where a segment is listed twice, a restart drops its first entry, which has become the default, and the buffer of the second
comes to light; of a table in canonical form the clause holds (`traceRestart_seg_of_wf`). -/
theorem not_countersAndTrace : ¬ Obligations.CountersAndTrace := by
  unfold Obligations.CountersAndTrace
  intro h
  obtain ⟨-, -, hrestart⟩ := h 0 segTwice
  obtain ⟨t, ht, hseg⟩ := (hrestart 1 segTwice_writable rfl).1 (by decide)
  have hnext : exec (.traceRestart 1) segTwice = .next (traceRestart (segTwice.count uBRW BRW_WIN_WR_COUNT) 1) :=
    congrArg Outcome.next (hostOp_of_writable rfl segTwice_writable _ _ _)
  obtain rfl : traceRestart (segTwice.count uBRW BRW_WIN_WR_COUNT) 1 = t := Outcome.next.inj (hnext.symm.trans ht)
  obtain ⟨-, -, -, hbuffer⟩ := hseg 0
  exact absurd (congrArg List.length hbuffer) (by decide)

end Sys2Proof.Machine
end

section
/-! SCAN_ENABLE of a Taster (R264, R577). -/
namespace Sys2Proof.Machine
open Sys2Proof Host Sys2Proof.Claims

/-- The codes of the events that are on their way once the command has run. -/
def codesAfter (c : Instr) (s : State) : List Nat :=
  match exec c s with
  | .next t => t.transit.map (·.code)
  | _ => []

theorem codesAfter_of_next {c : Instr} {s t : State} (h : exec c s = .next t) : codesAfter c s = t.transit.map (·.code) := by
  unfold codesAfter
  rw [h]

/-- A debug unlock is in force, and nothing else has happened since reset. -/
def unlockedReset : State := { State.reset with dbg := { State.reset.dbg with until_ := some 1000 } }

/-- SCAN_ENABLE of the last Taster. -/
def scanTaster : Moldom := ⟨0, BitVec.ofNat 16 (puTst 839 / 2 ^ 16), BitVec.ofNat 32 (puTst 839 % 2 ^ 16), 0⟩

/-- The Taster leaves service, so that another adopts its cluster (R264), before its scan is told (R577). -/
theorem scanTaster_codes : codesAfter (.scanEnable scanTaster) unlockedReset = [0x4040, 0xE013] := by decide +kernel

/-- Refutes O45: a Taster put under scan raises 0x4040 for its cluster's adoption before 0xE013, so that 0xE013 is not all that it raises. -/
theorem not_debugPort : ¬ Obligations.DebugPort := by
  unfold Obligations.DebugPort
  intro h
  obtain ⟨-, -, -, -, hunlocked, -⟩ := h scanTaster unlockedReset
  obtain ⟨-, -, -, -, -, -, -, hscan⟩ := hunlocked ⟨rfl, rfl⟩
  obtain ⟨t, ht, -, -, -, hraised⟩ := hscan (puTst 839) (by decide) (by decide) (by decide) (by decide) (by decide)
  have hcodes := codesAfter_of_next ht
  rw [scanTaster_codes, hraised] at hcodes
  exact absurd (congrArg List.length hcodes) (by decide)

end Sys2Proof.Machine
end


section
/-! One staged proposal of a class (R562). -/
namespace Sys2Proof.Machine
open Sys2Proof Host Sys2Proof.Claims
variable (s : State)

/-- A variant change that may be staged has changed nothing (R526). -/
theorem variantMay_passes {s : State} {pay : List Byte} (h : (s.variantMay pay).1 = 0) : s.variantMay pay = (0, s) := by
  have refused (t : State) : ((5, t) : Nat × State).1 ≠ 0 := Nat.succ_ne_zero 4
  have passes {n : Nat} (e : n = 0) : (n, s) = (0, s) := congrArg (·, s) e
  unfold State.variantMay at h ⊢
  extract_lets at h ⊢
  split at h
  next hrec =>
    rw [if_pos hrec]
    split at h
    next => exact absurd h (refused _)
    next hsha =>
      rw [if_neg hsha]
      split at h
      next hwhy => rw [if_pos hwhy]
      next => exact absurd h (refused _)
  next hrec =>
    rw [if_neg hrec]
    split at h
    next h5 => rw [if_pos h5]; exact passes h
    next h5 => rw [if_neg h5]; exact passes h

/-- What a message proposes, with the record that a variant change of kind 1 or 2 carries (R526, R561). -/
def stagedBy (m : Msg) : Proposal := { proposedBy s m with
  record := if leAt m.payload 0 1 = 7 ∧ leAt (m.payload.drop 4) 0 1 ≤ 2 then s.stagedRec (leAt (m.payload.drop 4) 0 1) else [] }

/-- The state in which a message's proposal stands, the only one of its class (R562). -/
def proposalIn (m : Msg) : State :=
  let g := proposalGone (inHand s m) (leAt m.payload 0 1)
  proposalStaged g (stagedBy g m)

/-- A proposal that passes its check is staged, told of with 0xA020, mirrored and answered. -/
theorem twkPropose_passes {s : State} {m : Msg} {cls : Nat} (hm : first s 0x0300 m) (hcls : cls = leAt m.payload 0 1)
    (h7 : cls = 7 → ((inHand s m).variantMay (m.payload.drop 4)).1 = 0) {p : Proposal} (hp : p = stagedBy (proposalGone (inHand s m) cls) m) :
    twkPropose s = ((((proposalIn s m).raise 0xA020 (proposalIn s m).puActive cls p.nonce p.origin).notifyTwk p 1).sendMirror).answer m 0
      [(cls, 1), (0, 5), (p.nonce, 8), (60000, 4)] := by
  subst hcls hp
  unfold twkPropose
  rw [onMsg_first hm]
  extract_lets cls pay
  have hmay : (if cls = 7 then (inHand s m).variantMay pay else (0, inHand s m)) = (0, inHand s m) := by
    split
    next h => exact variantMay_passes (h7 h)
    next => rfl
  rw [hmay]
  rfl

/-- So the proposals are those of the other classes, and the new one last. -/
theorem twkPropose_passes_proposals {s : State} {m : Msg} {cls : Nat} (hm : first s 0x0300 m) (hcls : cls = leAt m.payload 0 1)
    (h7 : cls = 7 → ((inHand s m).variantMay (m.payload.drop 4)).1 = 0) :
    (twkPropose s).twk.proposals = s.twk.proposals.filter (fun q => q.cls != cls) ++ [stagedBy (proposalGone (inHand s m) cls) m] := by
  rw [twkPropose_passes hm hcls h7 rfl, answer_twk, sendMirror_twk, notifyTwk_twk, raise_twk, ← proposalGone_proposals (inHand s m), hcls]
  rfl

/-- An event on its way to the staging of a proposal is on its way after it. -/
theorem mem_twkPropose_transit {s : State} {m : Msg} {cls : Nat} (hm : first s 0x0300 m) (hcls : cls = leAt m.payload 0 1)
    (h7 : cls = 7 → ((inHand s m).variantMay (m.payload.drop 4)).1 = 0) {e : Ev} {p : Proposal} (hp : p = stagedBy (proposalGone (inHand s m) cls) m)
    (h : e ∈ ((proposalIn s m).raise 0xA020 (proposalIn s m).puActive cls p.nonce p.origin).transit) : e ∈ (twkPropose s).transit := by
  rw [twkPropose_passes hm hcls h7 hp]
  exact (kept_answer (A := allButEvents) (kept_sendMirror (kept_notifyTwk (.refl _ _) (by decide)) (by decide)) (by decide)).event (by decide) h

/-- A proposal that goes leaves wall time, and which Brewhouse is active. -/
theorem kept_proposalGone {s0 s : State} (h : Kept allButTime s0 s) (cls : Nat) : Kept allButTime s0 (proposalGone s cls) := by
  unfold proposalGone
  split
  next => exact kept_twkDrop h (by decide)
  next => exact h

theorem proposalGone_puActive (cls : Nat) : (proposalGone s cls).puActive = s.puActive := by
  refine puActive_of_role ?_
  unfold proposalGone
  split
  next old _ => exact (rd_cpl _ (by decide) _ _).trans (rd_raise_apart _ (by decide) _ _ _ _ _ _)
  next => rfl

theorem proposalIn_kept (m : Msg) : Kept allButTime s (proposalIn s m) :=
  Kept.u_twk (kept_draw (kept_proposalGone (Kept.u_mbx (.refl _ s) (by decide)) _) (by decide)) (by decide)

/-- The new proposal is told of with 0xA020. -/
theorem mem_twkPropose_new {s : State} {m : Msg} {cls : Nat} (hm : first s 0x0300 m) (hcls : cls = leAt m.payload 0 1)
    (h7 : cls = 7 → ((inHand s m).variantMay (m.payload.drop 4)).1 = 0) {p : Proposal} (hp : p = stagedBy (proposalGone (inHand s m) cls) m) :
    event s 0xA020 s.puActive cls p.nonce p.origin ∈ (twkPropose s).transit := by
  have hact : (proposalIn s m).puActive = s.puActive := proposalGone_puActive (inHand s m) _
  have htold := mem_raise_transit (proposalIn s m) 0xA020 (proposalIn s m).puActive cls p.nonce p.origin
  refine mem_twkPropose_transit hm hcls h7 hp ?_
  rw [(proposalIn_kept s m).event_of_time, hact] at htold
  rw [hact]
  exact htold

/-- The one that stood is told of with 0xA022. -/
theorem mem_twkPropose_old {s : State} {m : Msg} {cls : Nat} (hm : first s 0x0300 m) (hcls : cls = leAt m.payload 0 1)
    (h7 : cls = 7 → ((inHand s m).variantMay (m.payload.drop 4)).1 = 0) {old : Proposal} (hold : s.proposal cls = some old) :
    event s 0xA022 s.puActive cls old.nonce ((if old.host then 1 else 0) + (if old.fleet then 2 else 0)) ∈ (twkPropose s).transit := by
  refine mem_twkPropose_transit hm hcls h7 rfl (List.mem_append_left _ ?_)
  have htold := mem_twkDrop_transit (inHand s m) old 4
  rw [proposal_cls hold] at htold
  have hgone : proposalGone (inHand s m) cls = (inHand s m).twkDrop old 4 := by
    unfold proposalGone
    rw [show (inHand s m).proposal cls = some old from hold]
  subst hcls
  show _ ∈ (proposalGone (inHand s m) _).transit
  rw [hgone]
  exact htold

/-- Settles O59: the other classes' proposals stay, and the new one stands alone in its class. -/
theorem oneProposalPerClass : Obligations.OneProposalPerClass := by
  unfold Obligations.OneProposalPerClass
  intro s m cls hm hcls h7 hnodup
  have hprops := twkPropose_passes_proposals hm hcls h7
  have hothers : ∀ q ∈ s.twk.proposals.filter (fun q => q.cls != cls), q.cls ≠ cls := fun q hq => bne_iff_ne.mp (List.mem_filter.mp hq).2
  have hnew : (stagedBy (proposalGone (inHand s m) cls) m).cls = cls := hcls.symm
  refine ⟨_, rfl, ?single, ⟨stagedBy (proposalGone (inHand s m) cls) m, ?stands, rfl, rfl, rfl, Nat.mod_lt _ (by decide), rfl, mem_twkPropose_new hm hcls h7 rfl⟩,
    fun old => mem_twkPropose_old hm hcls h7, fun d hd => ?others⟩
  case single =>
    rw [hprops, List.map_append, List.map_singleton, hnew]
    refine (hnodup.sublist (List.filter_sublist.map _)).append (List.nodup_singleton _) ?_
    simp
  case stands =>
    unfold State.proposal
    rw [hprops, List.find?_append, List.find?_eq_none.mpr (fun q hq => by simpa using hothers q hq)]
    simp [hnew]
  case others =>
    unfold State.proposal
    have hkeeps : (fun q : Proposal => decide ((q.cls != cls) = true ∧ (q.cls == d) = true)) = (fun q => q.cls == d) := by
      funext q
      by_cases hq : q.cls = d <;> simp [hq, hd]
    rw [hprops, List.find?_append, List.find?_filter, hkeeps, List.find?_singleton, hnew, if_neg (by simpa using hd.symm), Option.or_none]

end Sys2Proof.Machine
end

section
/-! Reserved pages, and the pages of units that are declared absent (R588, R591, R592). -/
namespace Sys2Proof.Machine
open Sys2Proof Host Sys2Proof.Claims
variable (s : State)

/-- A word of a reserved page reads 0 (R592). -/
theorem winWord_reserved {offset : Nat} (h : pageClass (offset / 4096) = 0) : s.winWord offset = 0 := by
  unfold State.winWord
  exact if_pos h

/-- A write to a reserved page is only counted, whatever word it names: the Tap windows' two own words lie on pages of their class. -/
theorem winWrite_reserved {offset : Nat} (h : pageClass (offset / 4096) = 0) (d : Nat) : s.winWrite offset d = s.count uBRW BRW_WIN_WR_COUNT :=
  (winWrite_word s rfl rfl (fun h14 => absurd (h.symm.trans h14) (by decide)) d).trans (written_reserved s h _)

/-- A word of a page's header is shown whatever the page's state. -/
theorem winWord_header {p off : Nat} (hp : pageClass p ≠ 0) (hoff : off < 0x40) : s.winWord (4096 * p + off) = s.pageHeader p (off / 4 * 4) := by
  have hpage : (4096 * p + off) / 4096 = p := by omega
  have hword : (4096 * p + off) % 4096 / 4 * 4 = off / 4 * 4 := by omega
  unfold State.winWord
  dsimp only
  rw [hpage, hword, if_neg hp, if_pos (by omega)]

/-- PG_ID of a page that is not reserved: its class, its number and version 1 (R588). -/
theorem pageHeader_id {p : Nat} (hp : pageClass p ≠ 0) : s.pageHeader p 0 = pageClass p * 2 ^ 24 + pageInst p * 2 ^ 12 + 1 := by
  unfold State.pageHeader
  dsimp only
  rw [if_neg hp, if_pos rfl]

/-- PG_CAP of a page that is not reserved: that of its class (R588). -/
theorem pageHeader_cap {p : Nat} (hp : pageClass p ≠ 0) : s.pageHeader p 4 = classCap (pageClass p) := by
  unfold State.pageHeader
  dsimp only
  rw [if_neg hp, if_neg (by decide), if_pos rfl]

/-- A unit that is declared absent shows state 0, whatever else holds of it (R591). -/
theorem unitState_absent {c u : Nat} (h : (s.unit (classPuid c u)).absent = true) : s.unitState c u = 0 := by
  unfold State.unitState
  dsimp only
  rw [h]
  rfl

theorem pageState_absent {p u : Nat} (hp : 0x10 ≤ pageClass p) (hu : s.pageUnit p = some u) (h : (s.unit (classPuid (pageClass p) u)).absent = true) :
    s.pageState p = 0 := by
  have hunit : classGlobal (pageClass p) = false := decide_eq_false (by omega)
  unfold State.pageState
  dsimp only
  rw [hunit, hu]
  exact unitState_absent s h

/-- Settles O60: a reserved page's reads and writes, and the header of an absent unit's page. -/
theorem reservedPages : Obligations.ReservedPages := by
  unfold Obligations.ReservedPages
  refine fun s => ⟨fun offset data h => ⟨winWord_reserved s h, fun ht => ⟨?read, ?write⟩⟩, fun p u hp hu habs => ?absent⟩
  case read =>
    refine runs_of_exec rfl (hostAcc_done ht _ _) ?_
    rw [hostRead_sent, winWord_reserved s h]
    rfl
  case write => exact runs_of_exec rfl (hostAcc_done ht _ _) (winWrite_reserved s h _)
  case absent =>
    have hclass : pageClass p ≠ 0 := by omega
    exact ⟨pageState_absent s hp hu habs, (winWord_header s hclass (off := 0) (by decide)).trans (pageHeader_id s hclass),
      (winWord_header s hclass (off := 4) (by decide)).trans (pageHeader_cap s hclass)⟩

end Sys2Proof.Machine
end

section
/-! Bundles that are verified, activations that go on, and processors that load, switch and are watched (R527-R535, R542, R577). -/
namespace Sys2Proof.Machine
open Sys2Proof Host Sys2Proof.Claims
variable (s : State)

/-! Verification. -/

/-- The bytes of the slot that a bundle is received in, and why they are rejected, 0 when they pass (R527). -/
def bundleIn : List Byte := s.slotBytes (1 - s.fw.boot)
def bundleWhy : Nat := bundleReason (bundleIn s) (Tab.get (fun _ => 0) s.dl 1) (s.rd uBRW BRW_FW_SVN_MIN) s.fw.intkey

/-- The state with that slot valid and its bundle shown as staged, and the state with the bundle shown as rejected. -/
def bundleStaged : State :=
  ((s.setValid (1 - s.fw.boot) true).wr uBRW BRW_FW_STAT_STATE 3).wr uBRW BRW_FW_STAGED_VER (bundleHead (bundleIn s)).fwver
def bundleRejected : State := (s.wr uBRW BRW_FW_STAT_STATE 4).wr uBRW BRW_FW_STAT_REASON (bundleWhy s)

/-- A bundle that has been received is staged or rejected. -/
theorem bundleVerify_received {s : State} (h2 : s.rd uBRW BRW_FW_STAT_STATE = 2) :
    bundleVerify s false = if bundleWhy s = 0 then
        ((bundleStaged s).raise 0xA001 (bundleStaged s).puActive (bundleHead (bundleIn s)).fwver (bundleHead (bundleIn s)).svn
          (bundleHead (bundleIn s)).length).workDone 1 0
      else ((bundleRejected s).raise 0xA002 (bundleRejected s).puActive (bundleWhy s) (bundleHead (bundleIn s)).fwver 1).workDone 1 4 := by
  unfold bundleVerify
  rw [if_neg Bool.false_ne_true, if_neg (not_not_intro h2)]
  rfl

theorem workDone_fw (what status : Nat) : (s.workDone what status).fw = s.fw :=
  (kept_workDone (A := allBut .fw) (.refl _ s) (by decide)).parts .fw (by decide)

/-- What both show is told of as of the state before: time is as it was, and which Brewhouse is active. -/
theorem bundleStaged_event (x y z : Nat) : event (bundleStaged s) 0xA001 (bundleStaged s).puActive x y z = event s 0xA001 s.puActive x y z := by
  have hk : Kept allButTime s (bundleStaged s) := kept_wr (kept_wr (kept_setValid (.refl _ s) (by decide)) (by decide)) (by decide)
  have hact : (bundleStaged s).puActive = s.puActive := by
    refine puActive_of_role ?_
    unfold bundleStaged
    rw [rd_wr_apart _ (by decide), rd_wr_apart _ (by decide)]
    rfl
  rw [hk.event_of_time, hact]
theorem bundleRejected_event (x y z : Nat) : event (bundleRejected s) 0xA002 (bundleRejected s).puActive x y z = event s 0xA002 s.puActive x y z := by
  have hk : Kept allButTime s (bundleRejected s) := kept_wr (kept_wr (.refl _ s) (by decide)) (by decide)
  have hact : (bundleRejected s).puActive = s.puActive := by
    refine puActive_of_role ?_
    unfold bundleRejected
    rw [rd_wr_apart _ (by decide), rd_wr_apart _ (by decide)]
  rw [hk.event_of_time, hact]

/-- A bundle that passes is staged in its slot, which becomes valid, with 0xA001. -/
theorem bundleVerify_passes {s : State} (h2 : s.rd uBRW BRW_FW_STAT_STATE = 2) (h : bundleWhy s = 0) :
    (bundleVerify s false).rd uBRW BRW_FW_STAT_STATE = 3 ∧ bit (bundleVerify s false).fw.valid (1 - s.fw.boot) = true ∧
      event s 0xA001 s.puActive (bundleHead (bundleIn s)).fwver (bundleHead (bundleIn s)).svn (bundleHead (bundleIn s)).length ∈
        (bundleVerify s false).transit := by
  have hdo := (bundleVerify_received h2).trans (if_pos h)
  rw [hdo]
  refine ⟨?shown, ?valid, mem_workDone_transit ?told _ _⟩
  case shown =>
    rw [rd_workDone _ (by decide), rd_raise_apart _ (by decide)]
    unfold bundleStaged
    rw [rd_wr_apart _ (by decide), rd_wr_same]
    rfl
  case valid =>
    rw [workDone_fw, raise_fw]
    show bit (orBit s.fw.valid (1 - s.fw.boot)) (1 - s.fw.boot) = true
    rw [bit_orBit, decide_eq_true rfl, Bool.or_true]
  case told =>
    rw [← bundleStaged_event]
    exact mem_raise_transit (bundleStaged s) _ _ _ _ _

/-- One that does not pass is rejected for its reason, with 0xA002. -/
theorem bundleVerify_rejects {s : State} (h2 : s.rd uBRW BRW_FW_STAT_STATE = 2) (h : bundleWhy s ≠ 0) :
    (bundleVerify s false).rd uBRW BRW_FW_STAT_STATE = 4 ∧ (bundleVerify s false).fw.valid = s.fw.valid ∧
      event s 0xA002 s.puActive (bundleWhy s) (bundleHead (bundleIn s)).fwver 1 ∈ (bundleVerify s false).transit := by
  have hdo := (bundleVerify_received h2).trans (if_neg h)
  rw [hdo]
  refine ⟨?shown, ?valid, mem_workDone_transit ?told _ _⟩
  case shown =>
    rw [rd_workDone _ (by decide), rd_raise_apart _ (by decide)]
    unfold bundleRejected
    rw [rd_wr_apart _ (by decide), rd_wr_same]
    rfl
  case valid =>
    unfold bundleRejected
    rw [workDone_fw, raise_fw, wr_fw, wr_fw]
  case told =>
    rw [← bundleRejected_event]
    exact mem_raise_transit (bundleRejected s) _ _ _ _ _

/-! Activations and processors. -/

/-- An activation that is held goes on once nothing holds it (R528, R532). -/
theorem activationResume_held {s : State} {a : ActRun} {x : Nat} (ha : s.fw.act = some a) (hx : a.heldAt = some x) :
    activationResume s = if s.holdBits ≠ 0 then s
      else ((((s.bump uBRW BRW_FW_HOLD_MS ((s.now - x) / 1000000)).updAct (fun y => { y with heldAt := none })).wr uBRW BRW_FW_STAT_STATE 5).showHold).actGo
        actFuel := by
  unfold activationResume
  rw [ha]
  dsimp only
  rw [hx]

/-- A load whose digest agrees makes the processor ready to switch, a Hall's without its Hall's work meanwhile (R529). -/
theorem processorLoadDone_agrees {s : State} {i sha : Nat} (h1 : (s.proc i).state = 1) (hsha : sha = s.slotComp (s.proc i).next (procKind i)) :
    ((processorLoadDone s i sha).proc i).state = 2 ∧ (i < 64 → ((processorLoadDone s i sha).hall i).procHeld = true) := by
  unfold processorLoadDone
  extract_lets p ready
  rw [if_neg (not_not_intro h1), if_neg (not_not_intro hsha)]
  have hready : (ready.proc i).state = 2 := congrArg ProcSt.state (proc_updProc_same _ _ _)
  split
  next =>
    refine ⟨?_, fun _ => ?_⟩
    · rw [proc_congr (updHall_fw _ _ _)]
      exact hready
    · rw [hall_updHall_same]
  next h64 => exact ⟨hready, fun h => absurd h h64⟩

/-- A load whose digest does not agree changes nothing: the copy is made again. -/
theorem processorLoadDone_differs {s : State} {i sha : Nat} (hsha : sha ≠ s.slotComp (s.proc i).next (procKind i)) : processorLoadDone s i sha = s := by
  unfold processorLoadDone
  dsimp only
  rw [if_pos hsha, ite_self]

/-- A processor that has switched is told of with 0xA005, with what it restarted for and how long the switch took (R530, R542). -/
theorem mem_processorSwitchDone_transit {s : State} {i : Nat} (h2 : (s.proc i).state = 2) (hnew : s.marks.contains (procPuid i, 0xA005, 0) = false)
    (us : Nat) : event s 0xA005 (procPuid i) i (s.proc i).cause us ∈ (processorSwitchDone s i us).transit := by
  unfold processorSwitchDone
  extract_lets p switched told back mixed ran done acted n
  rw [if_neg (not_not_intro h2)]
  have htold : event s 0xA005 (procPuid i) i p.cause us ∈ told.transit := mem_raiseOnce_transit (s := switched) hnew i p.cause us
  have hback : Kept allButEvents told back := .ite (kept_hallBack (.refl _ _) (by decide)) (.refl _ _)
  have hmixed : Kept allButEvents told mixed := kept_showMixed hback (by decide)
  have hran : Kept allButEvents told ran := .ite (kept_runVersion hmixed (by decide)) hmixed
  have hdone : Kept allButEvents told done := .ite (kept_workDone hran (by decide)) hran
  have hacted : Kept allButEvents told acted := kept_updAct hdone (by decide)
  exact Kept.event (.ite (kept_actGo (kept_wr hacted (by decide)) (by decide)) hdone) (by decide) htold

/-- A missed service. -/
def watchdogs (i : Nat) : List Nat := (s.proc i).wdog.filter (fun x => decide (s.now < x + 600000000000)) ++ [s.now]

/-- The state in which the watchdog's time is noted with the processor and for a trial (R533, R534). -/
def watchdogNoted (i : Nat) : State :=
  let t := s.updProc i (fun p => { p with wdog := watchdogs s i })
  { t with fw := { t.fw with quietAt := s.now } }

/-- The state in which a processor restarts from the slot it runs, one that switches as it does (R529). -/
def restarted (i : Nat) : State :=
  let t := s.updProc i (fun p => { p with
    state := 2, next := if p.state = 2 then p.next else p.slot, cause := if p.state = 2 then p.cause else 2 })
  if i < 64 then t.updHall i (fun h => { h with procHeld := true }) else t

/-- A watchdog that fires for the first or second time within 10 minutes restarts the processor (R533). -/
theorem processorWatchdog_restarts {s : State} {i : Nat} (hp : allProcs.contains i = true) (h3 : (s.proc i).state ≠ 3)
    (hhalt : s.dbg.halted.any (fun h => h.1 == i) = false) (hthere : s.procThere i = true) (hfew : (watchdogs s i).length < 3) :
    processorWatchdog s i = restarted (watchdogNoted s i) i := by
  have hgo : ¬ (!allProcs.contains i || (s.proc i).state == 3 || s.dbg.halted.any (fun h => h.1 == i) || !s.procThere i) = true := by
    rw [hp, hhalt, hthere, beq_false_of_ne h3]
    decide
  unfold processorWatchdog
  exact (if_neg hgo).trans (if_pos hfew)

theorem restarted_proc (i : Nat) : (restarted s i).proc i = { s.proc i with
    state := 2, next := if (s.proc i).state = 2 then (s.proc i).next else (s.proc i).slot
    cause := if (s.proc i).state = 2 then (s.proc i).cause else 2 } := by
  unfold restarted
  extract_lets t
  rw [apply_ite (fun u : State => u.proc i), proc_congr (updHall_fw _ _ _), ite_self]
  exact proc_updProc_same _ _ _
theorem restarted_quietAt (i : Nat) : (restarted s i).fw.quietAt = s.fw.quietAt := by
  unfold restarted
  extract_lets t
  rw [apply_ite State.fw, updHall_fw, ite_self]
  rfl
theorem watchdogNoted_proc (i : Nat) : (watchdogNoted s i).proc i = { s.proc i with wdog := watchdogs s i } :=
  proc_updProc_same s i (fun p => { p with wdog := watchdogs s i })

/-- A trial that holds is cleared, with 0xA007 (R534). -/
theorem trialClear_clears {s : State} (h : s.fw.trial = true) :
    (trialClear s).fw.trial = false ∧ (trialClear s).fw.tries = 0 ∧ raised s (trialClear s) 0xA007 s.puActive (s.slotVer s.fw.boot) := by
  unfold trialClear
  rw [if_neg (by rw [h]; decide)]
  exact ⟨rfl, rfl, rfl⟩

/-- Settles O39, clause by clause: a bundle received, an activation held, a load, a switch, a watchdog and a trial. -/
theorem firmwareRuns : Obligations.FirmwareRuns := by
  unfold Obligations.FirmwareRuns
  refine fun s => ⟨fun why h h2 hh hwhy => ?bundle, fun a x ha hx => ⟨fun hheld => ?held, fun hfree => ?resumed⟩,
    fun i sha h1 => ⟨fun hsha => ?agrees, fun hsha => ?differs⟩, fun i us h2 hnew => ?switched,
    fun i ws hp h3 hhalt hthere hws hfew => ?watchdog, fun h => ?trial⟩
  case bundle =>
    have hreason : why = bundleWhy s := by rw [hwhy, bundleWhy, bundleIn]
    have hhead : h = bundleHead (bundleIn s) := by rw [hh, bundleIn]
    refine ⟨_, rfl, ?_⟩
    beta_reduce
    rw [hreason, hhead]
    rw [ite_prop_iff_and]
    exact ⟨bundleVerify_passes h2, bundleVerify_rejects h2⟩
  case held => exact runs_of_exec rfl ((activationResume_held ha hx).trans (if_pos hheld)) rfl
  case resumed => exact runs_of_exec rfl ((activationResume_held ha hx).trans (if_neg (not_not_intro hfree))) rfl
  case agrees => exact runs_of_exec rfl rfl (processorLoadDone_agrees h1 hsha)
  case differs => exact runs_of_exec rfl (processorLoadDone_differs hsha) rfl
  case switched =>
    have htold := mem_processorSwitchDone_transit h2 hnew us
    exact ⟨_, rfl, (kept_commitsGo (A := allButEvents) (kept_cutWaited (.refl _ _) (by decide)) (by decide)).event (by decide) htold⟩
  case watchdog =>
    obtain rfl : ws = watchdogs s i.toNat := hws
    refine runs_of_exec rfl (processorWatchdog_restarts hp h3 hhalt hthere hfew) ?_
    rw [restarted_proc, restarted_quietAt, watchdogNoted_proc]
    exact ⟨rfl, rfl, rfl, fun hstate => ⟨if_neg hstate, if_neg hstate⟩⟩
  case trial => exact runs_of_exec rfl rfl (trialClear_clears h)

end Sys2Proof.Machine
end

section
/-! Limits that trip, the Shutter, limits that are tightened, and the end of an emergency (R481, R486-R489, R492, R493). -/
namespace Sys2Proof.Machine
open Sys2Proof Host Sys2Proof.Claims
variable (s : State)

/-- A limit that trips in a region that is not lost is told of with 0x1020: its number and what was measured (R486). -/
theorem mem_limitTrip_transit {s : State} {r : Nat} (h : (s.hall r).lost = false) (l : Limit) (measured : Nat) :
    ∃ e ∈ (limitTrip s r l measured).transit, e.code = 0x1020 ∧ e.p5 = limitNo l ∧ e.p6 = measured % 2 ^ 32 := by
  have hno : limitNo l % 2 ^ 32 = limitNo l := by cases l <;> rfl
  unfold limitTrip
  rw [if_neg (by rw [h]; exact Bool.false_ne_true)]
  extract_lets n u src lim F tripped checked
  have hchecked : Kept allButEvents (tripped.raise 0x1020 src n measured lim) checked := kept_emergCheck (kept_driveThr (.refl _ _) (by decide)) (by decide)
  exact ⟨_, Kept.event (.ite hchecked (kept_shutRegion hchecked (by decide))) (by decide) (mem_raise_transit tripped 0x1020 src n measured lim), rfl, hno, rfl⟩

/-- A region that is put in the Shutter is told of with 0x1011 and the cause (R488). -/
theorem mem_shutRegion_transit {s : State} {r : Nat} (hshut : (s.hall r).shut = false) (hlost : (s.hall r).lost = false) (cause : Nat) :
    ∃ e ∈ (s.shutRegion r cause).transit, e.code = 0x1011 ∧ e.puid = puHal r ∧ e.p5 = cause % 2 ^ 32 := by
  unfold State.shutRegion
  rw [if_neg (by rw [hshut, hlost]; exact Bool.false_ne_true)]
  extract_lets cs begun closed quieted killed absorbed held lost cut shown told
  exact ⟨_, (kept_emergCheck (A := allButEvents) (kept_notifyRegion (kept_shutUnits (.refl _ told) (by decide)) (by decide)) (by decide)).event (by decide)
    (mem_raise_transit shown _ _ _ _ _), rfl, rfl, rfl⟩

/-- A clock ratio that persists at the deepest level puts the region in the Shutter (R486). -/
theorem clockRatioPersist_tripped {s : State} {r : Nat} (h : (s.thmOf r).trips.contains 5 = true) (count : Nat) :
    clockRatioPersist s r count = (s.updThmOf r (fun y => { y with clkOver := count })).shutRegion r 5 := if_pos h

/-- The state in which a region's clear comparators have been told of (R489). -/
def comparatorsClear (r : Nat) : State := (s.clearTrips r).updThmOf r (fun y => { y with clearAt := s.now })

/-- A region in the Shutter starts again once no comparator trips, its band has fallen, and it is its first Shutter of the day (R489). -/
theorem shutterReturn_shut {s : State} {r : Nat} (h : (s.hall r).shut = true) :
    shutterReturn s r = if !((comparatorsClear s r).thmOf r).trips.isEmpty ∨ 3 < s.rd (uHAL r) HAL_THM_STAT_BAND ∨
        1 < ((comparatorsClear s r).thmOf r).shuts.length then comparatorsClear s r
      else (comparatorsClear s r).startPart r 5 := by
  unfold shutterReturn
  exact if_neg (by rw [h]; decide)

/-! Limits that are tightened. -/

/-- A reading that reaches a junction limit. -/
def tooHot (v i : Nat) : Bool := (s.sensor i).read && s.sensorOk i && decide (16 * (v : Int) ≤ (s.sensor i).temp)

/-- The junction limit trips in a region with such readings (R487). -/
def hotTrip (v : Nat) (s : State) (r : Nat) : State :=
  let t := s.each (sensorsOf r) (fun s i => if tooHot s v i then (s.updSensor i (fun x => { x with band := 5 })).multUp i else s)
  limitTrip (t.regionThm r) r .junction (tempWord (t.sensor (t.hottest r)).temp)

/-- A tighter junction limit within its floor takes effect, and trips where a reading reaches it (R487). -/
theorem limitTighten_junction {s : State} {data : Nat} (hfloor : 105 ≤ data % 256) (htight : data % 256 < s.tj) :
    limitTighten s 0x54 data = (s.tighten THM_LIM_TJ_TJ 1 (data % 256)).each
      ((List.range Config.host.regions).filter (fun r => (sensorsOf r).any (tooHot (s.tighten THM_LIM_TJ_TJ 1 (data % 256)) (data % 256))))
      (hotTrip (data % 256)) := by
  unfold limitTighten
  rw [if_pos rfl]
  exact if_pos ⟨htight, hfloor⟩

/-- Any other junction limit is ignored. -/
theorem limitTighten_junction_ignored {s : State} {data : Nat} (h : data % 256 < 105 ∨ s.tj ≤ data % 256) : limitTighten s 0x54 data = s := by
  unfold limitTighten
  rw [if_pos rfl]
  exact if_neg (by omega)

/-- With every reading below the limit no region trips. -/
theorem limitTighten_cool {s : State} {data : Nat} (hfloor : 105 ≤ data % 256) (htight : data % 256 < s.tj)
    (hcool : ∀ r i, i ∈ sensorsOf r → (s.sensor i).temp < 16 * ((data % 256 : Nat) : Int)) :
    limitTighten s 0x54 data = s.tighten THM_LIM_TJ_TJ 1 (data % 256) := by
  have hnone : (List.range Config.host.regions).filter (fun r => (sensorsOf r).any (tooHot (s.tighten THM_LIM_TJ_TJ 1 (data % 256)) (data % 256))) = [] := by
    refine List.filter_eq_nil_iff.mpr fun r _ => ?_
    rw [List.any_eq_true]
    rintro ⟨i, hi, hhot⟩
    have htemp : 16 * ((data % 256 : Nat) : Int) ≤ (s.sensor i).temp := of_decide_eq_true (Bool.and_eq_true_iff.mp hhot).2
    have := hcool r i hi
    omega
  rw [limitTighten_junction hfloor htight, hnone]
  rfl

/-- A limit tightened shows its value and is told of with 0x1021 (R493), whatever trips. -/
theorem rd_tighten (F : Fld) (n new : Nat) : (s.tighten F n new).rd uTHM F = new % 2 ^ F.width := rd_wr_same _ _ _ _ _
theorem mem_tighten_transit (F : Fld) (n new : Nat) : event s 0x1021 s.puActive n (s.rd uTHM F) new ∈ (s.tighten F n new).transit :=
  mem_raise_transit s 0x1021 s.puActive n (s.rd uTHM F) new

theorem kept_hotTrip {s0 s : State} (h : Kept allButEvents s0 s) (v r : Nat) : Kept allButEvents s0 (hotTrip v s r) := by
  unfold hotTrip
  extract_lets t
  refine kept_limitTrip (kept_regionThm (?_ : Kept allButEvents s0 t) (by decide)) (by decide)
  exact kept_each h fun t i ht => .ite (kept_multUp (kept_updSensor ht (by decide)) (by decide)) ht

theorem mem_limitTighten_transit {s : State} {data : Nat} (hfloor : 105 ≤ data % 256) (htight : data % 256 < s.tj) :
    event s 0x1021 s.puActive 1 (s.rd uTHM THM_LIM_TJ_TJ) (data % 256) ∈ (limitTighten s 0x54 data).transit := by
  rw [limitTighten_junction hfloor htight]
  exact Kept.event (kept_each (.refl _ _) fun _ r h => kept_hotTrip h _ r) (by decide) (mem_tighten_transit s THM_LIM_TJ_TJ 1 _)

/-- A tighter clock limit above the nominal ratio takes effect, and any other is ignored. -/
theorem limitTighten_clock {s : State} {data : Nat} (htight : data % 65536 < s.rd uTHM THM_LIM_CLK_CYC) (hfloor : s.variant.nominal ≤ data % 65536) :
    limitTighten s 0x5C data = s.tighten THM_LIM_CLK_CYC 5 (data % 65536) := by
  unfold limitTighten
  rw [if_neg (by decide), if_neg (by decide), if_pos rfl]
  exact if_pos ⟨htight, hfloor⟩
theorem limitTighten_clock_ignored {s : State} {data : Nat} (h : s.rd uTHM THM_LIM_CLK_CYC ≤ data % 65536) : limitTighten s 0x5C data = s := by
  unfold limitTighten
  rw [if_neg (by decide), if_neg (by decide), if_pos rfl]
  exact if_neg (by omega)

/-! The end of an emergency. -/

/-- The state in which the comparators of every region out of the Shutter have been told of as clear (R492). -/
def allClear : State := s.each (s.thm.map (·.1)) (fun s r => if (s.hall r).shut then s else s.clearTrips r)

/-- Only the regions' ladders and comparators change. -/
theorem allClear_kept : Kept (maskOf [.thm]) s (allClear s) :=
  kept_each (.refl _ s) fun _ _ h => .ite h (kept_clearTrips h (by decide))

/-- The state in which the emergency is over. -/
def emergencyOver : State := { s.flag uTHM THM_EMERG_ACTIVE false with emerg := ⟨false, 0, 0⟩ }

/-- An emergency that holds in no region ends, with 0x1031 (R492). -/
theorem emergencyEnd_ends {s : State} (hact : s.emerg.active = true) (hnone : (allClear s).emergRegions = ([], [], [])) :
    emergencyEnd s = ((emergencyOver (allClear s)).raise 0x1031 (emergencyOver (allClear s)).puActive ((s.now - s.emerg.since) / 1000000)
      s.emerg.held).showHold := by
  have hk := allClear_kept s
  have hemerg : (allClear s).emerg = s.emerg := hk.parts .emerg (by decide)
  have hnow : (allClear s).now = s.now := now_of_wall s (hk.parts .wall (by decide))
  rw [← hnow, ← hemerg]
  have hgo : ¬ (!(allClear s).emerg.active || !((allClear s).emergRegions.1.isEmpty && (allClear s).emergRegions.2.1.isEmpty &&
      (allClear s).emergRegions.2.2.isEmpty)) = true := by
    rw [hemerg, hact, hnone]
    decide
  unfold emergencyEnd
  exact if_neg hgo

/-- It is told of as of the state before: how long it lasted and how many activations it held. -/
theorem mem_emergencyEnd_transit {s : State} (hact : s.emerg.active = true) (hnone : (allClear s).emergRegions = ([], [], [])) :
    event s 0x1031 s.puActive ((s.now - s.emerg.since) / 1000000) s.emerg.held ∈ (emergencyEnd s).transit := by
  have hover : Kept allButTime s (emergencyOver (allClear s)) :=
    Kept.u_emerg (kept_flag (kept_each (.refl _ s) fun _ _ h => .ite h (kept_clearTrips h (by decide))) (by decide)) (by decide)
  have hrole : (emergencyOver (allClear s)).rd uBRW BRW_ROLE_ACTIVE = (allClear s).rd uBRW BRW_ROLE_ACTIVE :=
    rd_flag_apart (F := BRW_ROLE_ACTIVE) (G := THM_EMERG_ACTIVE) (allClear s) (by decide) uBRW uTHM false
  have hpu : (emergencyOver (allClear s)).puActive = s.puActive := (puActive_of_role hrole).trans ((allClear_kept s).puActive_eq (by decide))
  rw [emergencyEnd_ends hact hnone]
  refine (kept_showHold (A := allButEvents) (.refl _ _) (by decide)).event (by decide) ?_
  rw [hpu, ← hover.event_of_time]
  exact mem_raise_transit (emergencyOver (allClear s)) _ _ _ _ _

theorem emergencyEnd_emerg {s : State} (hact : s.emerg.active = true) (hnone : (allClear s).emergRegions = ([], [], [])) :
    (emergencyEnd s).emerg = ⟨false, 0, 0⟩ := by
  rw [emergencyEnd_ends hact hnone, show ∀ t : State, t.showHold.emerg = t.emerg from fun t =>
    (kept_showHold (A := allBut .emerg) (.refl _ t) (by decide)).parts .emerg (by decide)]
  rfl

/-- Settles O37, clause by clause: a trip, a clock ratio, the Shutter's return, each limit that is tightened and the emergency's end. -/
theorem limitsAndEmergency : Obligations.LimitsAndEmergency := by
  unfold Obligations.LimitsAndEmergency
  refine fun s => ⟨fun r l measured => ⟨fun hlost => ?lost, fun hin => ?trips⟩, fun r count htrip hshut hlost => ?clock,
    fun r s1 hshut hs1 => ⟨fun hclear hband hfirst => ?returns, fun htrip => ?stays⟩,
    fun data hw ht => ⟨fun hfloor htight => ?junction, fun hout => ?junctionIgnored, fun htight hfloor => ?ratio, fun hloose => ?ratioIgnored⟩,
    fun s1 hs1 hact hnone => ?emergency⟩
  case lost => exact runs_of_exec rfl (if_pos hlost) rfl
  case trips => exact runs_of_exec rfl rfl (mem_limitTrip_transit hin l measured)
  case clock =>
    exact runs_of_exec rfl (clockRatioPersist_tripped htrip count)
      (mem_shutRegion_transit (s := s.updThmOf r.val (fun y => { y with clkOver := count })) hshut hlost 5)
  case returns =>
    subst hs1
    refine runs_of_exec rfl ((shutterReturn_shut hshut).trans (if_neg ?_)) rfl
    rintro (htrip | hhot | hagain)
    · exact Bool.false_ne_true ((congrArg not hclear).symm.trans htrip)
    · omega
    · exact absurd hfirst (Nat.not_le.mpr hagain)
  case stays =>
    subst hs1
    exact runs_of_exec rfl ((shutterReturn_shut hshut).trans (if_pos (.inl (congrArg not htrip)))) rfl
  case junction =>
    refine runs_of_exec rfl (hostOp_of_writable ht hw _ _ _) ⟨fun hcool => ?_, mem_limitTighten_transit hfloor htight⟩
    have hdo : limitTighten (s.count uBRW BRW_WIN_WR_COUNT) (0x54 : BitVec 12).toNat data.toNat = _ := limitTighten_cool hfloor htight hcool
    rw [hdo]
    exact ⟨(rd_tighten _ _ _ _).trans (Nat.mod_mod _ _), rfl⟩
  case junctionIgnored =>
    exact runs_of_exec rfl ((hostOp_of_writable ht hw _ _ _).trans (limitTighten_junction_ignored hout)) rfl
  case ratio =>
    refine runs_of_exec rfl ((hostOp_of_writable ht hw _ _ _).trans (limitTighten_clock htight hfloor)) ?_
    exact (rd_tighten _ _ _ _).trans (Nat.mod_mod _ _)
  case ratioIgnored =>
    exact runs_of_exec rfl ((hostOp_of_writable ht hw _ _ _).trans (limitTighten_clock_ignored hloose)) rfl
  case emergency =>
    subst hs1
    exact runs_of_exec rfl rfl ⟨emergencyEnd_emerg hact hnone, mem_emergencyEnd_transit hact hnone⟩

end Sys2Proof.Machine
end

section
/-! The setting of seeds, draws at a Taster, and the calculation port (R447, R449, R450, R452, R453). -/
namespace Sys2Proof.Machine
open Sys2Proof Host Sys2Proof.Claims
variable (s : State)

/-! A seed is set. -/

/-- A seed that may not be set is refused (R449). -/
theorem seedSet_refused {s : State} {c : Nat} (h : s.seedMay c = false) (seed : Nat) : s.seedSet c seed none = s.seedRefuse c :=
  if_pos (congrArg not h)

/-- A refusal leaves what is being set. -/
theorem seedRefuse_prv (c : Nat) : (s.seedRefuse c).prv = s.prv :=
  (kept_seedRefuse (A := allBut .prv) (.refl _ s) (by decide)).parts .prv (by decide)

/-- A refusal is told of with 0xD031 (R449). -/
theorem mem_seedRefuse_transit {s : State} (h : s.marks.contains (s.puActive, 0xD031, 0) = false) (c : Nat) :
    event s 0xD031 s.puActive c ∈ (s.seedRefuse c).transit :=
  mem_raiseOnce_transit (s := s.wr uDRW DRW_SEED_CTRL_STATUS 2) h c 0 0

/-- A write of the seed's control starts a SET of the selected context. -/
theorem drwSeedSet_set {s : State} {data : Nat} (h : bit data 31 = true) :
    drwSeedSet s data = s.seedSet (s.rd uDRW DRW_SEED_SEL_CTX) (s.rd uDRW DRW_SEED) none :=
  if_neg (by rw [h]; decide)

/-! The Halls answer. -/

/-- The only SET that is decided on takes the answer of a Hall it waits for (R449). -/
theorem seedSetAnswer_only {s : State} {x : SeedSet} {r : Nat} (h : s.prv.setting = [x]) (hr : r ∈ x.left) :
    seedSetAnswer s r = State.seedDecide { s with prv := { s.prv with setting := [seedAnswerOf x r (s.prv.served.contains (r, x.ctx))] } } := by
  have hfind : [x].findIdx? (fun x => x.left.contains r) = some 0 := by
    rw [List.findIdx?_cons, if_pos (List.contains_iff_mem.mpr hr)]
  unfold seedSetAnswer
  rw [h, hfind]
  rfl

/-- While a Hall is still waited for nothing is decided. -/
theorem seedDecide_waits {s : State} {x : SeedSet} (h : s.prv.setting = [x]) (hw : x.left.isEmpty = false) : s.seedDecide = s := by
  unfold State.seedDecide
  rw [h, List.filter_cons_of_neg (p := fun x : SeedSet => x.left.isEmpty) (by rw [hw]; decide)]
  rfl

theorem each_one {α : Type} (a : α) (f : State → α → State) : s.each [a] f = f s a := rfl

/-- Once every Hall has answered, the SET is decided. -/
theorem seedDecide_only {s : State} {x : SeedSet} (h : s.prv.setting = [x]) (hw : x.left.isEmpty = true) : s.seedDecide = s.seedDecide1 x := by
  unfold State.seedDecide
  rw [h, List.filter_cons_of_pos (p := fun x : SeedSet => x.left.isEmpty) hw, List.filter_nil, each_one]

/-- The journal's record of an input leaves what is being set. -/
theorem record_setting (kind c step : Nat) (input : List Byte) : (s.record kind c step input).prv.setting = s.prv.setting := by
  unfold State.record
  extract_lets keep used seq e logged
  clear_value e
  split
  · rfl
  · split <;> rfl

/-- The input digests are no part of what is being set. -/
theorem ind_setting (ind : Tab Nat) : ({ s with prv := { s.prv with ind := ind } } : State).prv.setting = s.prv.setting := rfl

/-- A seed that takes effect leaves what else is being set, and stands. -/
theorem seedTake_setting (c seed : Nat) : (s.seedTake c seed).prv.setting = s.prv.setting := by
  unfold State.seedTake State.inputChain
  exact (ind_setting _ _).trans (record_setting (s.updSeedOf c (fun _ => some seed)) 2 c 0 (leBytes 16 seed))

theorem seedOf_seedTake (c seed : Nat) : (s.seedTake c seed).seedOf c = some seed := by
  unfold State.seedTake
  rw [seedOf_congr _ ((kept_inputChain (A := allBut .seeds) (kept_record (.refl _ (s.updSeedOf c (fun _ => some seed))) (by decide)) (by decide)).parts .seeds
    (by decide)), seedOf_updSeedOf_same]

/-- The state in which a Hall has noted whom it serves a load. -/
def loadNoted (k c : Nat) : State := { s with prv := { s.prv with
  served := if s.prv.served.contains (regionOfCluster k, c) then s.prv.served else s.prv.served ++ [(regionOfCluster k, c)]
  heldLoads := s.prv.heldLoads.filter (fun e => e != (k, c)) } }

/-- A load that is served changes nothing of the provenance state once it is noted. -/
theorem seedServe_kept {k c : Nat} (h : (s.rplOf k).seedAsked.contains c = true) : Kept (allBut .prv) (loadNoted s k c) (s.seedServe k c) := by
  unfold State.seedServe
  rw [if_neg (by rw [h]; decide)]
  extract_lets r seed loaded noted held cached drawn
  have hdrawn : Kept (allBut .prv) noted drawn := kept_drawGo (kept_updRplOf (kept_noteDraw (.refl _ noted) (by decide)) (by decide)) (by decide)
  clear_value drawn
  split
  · exact hdrawn
  · refine kept_rplGo (kept_each hdrawn fun t x ht => ?_) (by decide)
    extract_lets hadPlace placed
    have hplaced : Kept (allBut .prv) noted placed := kept_updRplOf ht (by decide)
    refine Kept.ite hplaced ?_
    split
    · exact kept_sampleCmd hplaced (by decide)
    · exact hplaced

theorem seedServe_setting (k c : Nat) : (s.seedServe k c).prv.setting = s.prv.setting := by
  by_cases h : (s.rplOf k).seedAsked.contains c = true
  · have hprv : (s.seedServe k c).prv = (loadNoted s k c).prv := (seedServe_kept s h).parts .prv (by decide)
    rw [hprv]
    rfl
  · unfold State.seedServe
    rw [if_pos (by rw [Bool.eq_false_iff.mpr h]; decide)]

/-- The state in which a SET that no Hall refused has taken effect. -/
def seedSettled (x : SeedSet) : State :=
  (State.wr { s with prv := { s.prv with setting := [] } } uDRW DRW_SEED_CTRL_STATUS 1).seedTake x.ctx x.seed

/-- The state once the loads that were held for it are served. -/
def seedInForce (x : SeedSet) : State :=
  (seedSettled s x).each ((seedSettled s x).prv.heldLoads.filter (fun e => e.2 == x.ctx)) (fun s e => s.seedServe e.1 e.2)

theorem seedSettled_setting (x : SeedSet) : (seedSettled s x).prv.setting = [] := seedTake_setting _ _ _

theorem seedInForce_setting (x : SeedSet) : (seedInForce s x).prv.setting = [] := by
  unfold seedInForce
  rw [each_keeps _ (fun t : State => t.prv.setting) (f := fun s (e : Nat × Nat) => s.seedServe e.1 e.2) (fun t e => seedServe_setting t e.1 e.2),
    seedSettled_setting]

theorem seedInForce_seedOf (x : SeedSet) : (seedInForce s x).seedOf x.ctx = some x.seed :=
  (seedOf_congr _ ((kept_each (A := allBut .seeds) (.refl _ _) fun _ _ ht => kept_seedServe ht (by decide)).parts .seeds (by decide)) _).trans
    (seedOf_seedTake _ _ _)

/-- The last SET ends, when no Hall refused it, with its seed in force, and a message that asked is answered (R449). -/
theorem seedDecide1_settles {s : State} {x : SeedSet} (h : s.prv.setting = [x]) (hw : x.left.isEmpty = true) (hr : x.refused = false) :
    s.seedDecide1 x = match x.msg with
      | some m => (seedInForce s x).answer m 0 []
      | none => seedInForce s x := by
  have hnone : s.prv.setting.filter (fun y => !y.left.isEmpty) = [] := by
    rw [h, List.filter_cons_of_neg (by rw [hw]; decide), List.filter_nil]
  unfold State.seedDecide1
  rw [hnone, hr]
  extract_lets was emptied settled served
  have hsettled : settled = seedSettled s x := by
    unfold settled
    exact if_neg Bool.false_ne_true
  have hserved : served = seedInForce s x := by
    unfold served
    rw [hsettled, if_neg (by rw [seedSettled_setting]; exact Bool.false_ne_true)]
    rfl
  rw [hserved]
  rfl

/-- The last Hall to agree settles a SET: none is left, and its seed stands (R449). -/
theorem seedDecide_settles {s : State} {x : SeedSet} (h : s.prv.setting = [x]) (hw : x.left.isEmpty = true) (hr : x.refused = false) :
    s.seedDecide.prv.setting = [] ∧ s.seedDecide.seedOf x.ctx = some x.seed := by
  rw [seedDecide_only h hw, seedDecide1_settles h hw hr]
  cases x.msg with
  | none => exact ⟨seedInForce_setting s x, seedInForce_seedOf s x⟩
  | some m =>
    dsimp only
    rw [answer_prv, seedOf_congr _ ((kept_answer (A := allBut .seeds) (.refl _ (seedInForce s x)) (by decide)).parts .seeds (by decide))]
    exact ⟨seedInForce_setting s x, seedInForce_seedOf s x⟩

/-! Draws. -/

/-- A seed that the Taster holds is found, and becomes the most recent (R450). -/
theorem seedFor_held {s : State} {k c : Nat} {e : Nat × Nat} (h : (s.rplOf k).seeds.find? (fun e => e.1 == c) = some e) :
    s.seedFor k c = (s.updRplOf k (fun x => { x with seeds := e :: x.seeds.filter (fun y => y.1 != c) }), some e.2) := by
  unfold State.seedFor
  dsimp only
  rw [h]

/-- A draw whose seed the Taster holds is answered at once with the block of seed and counter (R452). -/
theorem drawDrain_held {s : State} {k ctr : Nat} {e : Nat × Nat} (h : (s.rplOf k).seeds.find? (fun e => e.1 == ctr / 2 ^ 116) = some e) :
    State.drawDrain k [ctr] s =
      ((s.updRplOf k (fun x => { x with seeds := e :: x.seeds.filter (fun y => y.1 != ctr / 2 ^ 116) })).drawOut k ctr e.2).updRplOf k
        (fun x => { x with drawWait := [] }) := by
  unfold State.drawDrain
  rw [seedFor_held h]
  rfl

theorem drawOut_sent (k ctr seed : Nat) : (s.drawOut k ctr seed).sent = .ask 0x452 (puTst k) (puTst k) (drawOf seed ctr) :: s.sent := by
  unfold State.drawOut
  extract_lets counted told
  have htold : told.sent = s.sent := by
    unfold told
    split
    · exact (count_sent _ _ _ _ _).trans (count_sent _ _ _ _ _)
    · exact count_sent _ _ _ _ _
  exact congrArg _ htold

theorem drawDrain_held_sent {s : State} {k c ctr : Nat} {e : Nat × Nat} (h : (s.rplOf k).seeds.find? (fun e => e.1 == ctr / 2 ^ 116) = some e) :
    (State.drawDrain k [ctr] (s.noteDraw c)).sent = .ask 0x452 (puTst k) (puTst k) (drawOf e.2 ctr) :: s.sent := by
  rw [drawDrain_held (s := s.noteDraw c) h]
  exact drawOut_sent _ _ _ _

theorem drawDrain_held_wait {s : State} {k c ctr : Nat} {e : Nat × Nat} (h : (s.rplOf k).seeds.find? (fun e => e.1 == ctr / 2 ^ 116) = some e) :
    ((State.drawDrain k [ctr] (s.noteDraw c)).rplOf k).drawWait = [] := by
  rw [drawDrain_held (s := s.noteDraw c) h, rplOf_updRplOf_same]

/-- A context that draws is noted as one that has drawn (R449). -/
theorem drawDrain_drawn {s : State} {k c ctr : Nat} {e : Nat × Nat} (h : (s.rplOf k).seeds.find? (fun e => e.1 == ctr / 2 ^ 116) = some e) :
    ((State.drawDrain k [ctr] (s.noteDraw c)).ctx c).drawn = true := by
  rw [drawDrain_held (s := s.noteDraw c) h, ctx_congr _ ((kept_updRplOf (A := allBut .ctxs) (kept_drawOut (kept_updRplOf (.refl _ (s.noteDraw c)) (by decide))
    (by decide)) (by decide)).parts .ctxs (by decide))]
  exact congrArg CtxSt.drawn (ctx_updCtx_same _ _ _)

/-- A draw that is asked for at a Taster that runs, with none waiting before it (R452). -/
theorem drawRequest_first {s : State} {k c layer op step idx : Nat} (hrun : s.unitStopped (uTST k) = false) (hwait : (s.rplOf k).drawWait = []) :
    drawRequest s k c layer op step idx = State.drawDrain k [drawCounter c layer op step (2 ^ 35 + idx % 2 ^ 35)] (s.noteDraw c) := by
  unfold drawRequest
  rw [if_neg (by rw [hrun]; exact Bool.false_ne_true)]
  extract_lets ctr noted
  have hwait' : (noted.rplOf k).drawWait = [] := hwait
  rw [hwait']
  rfl

/-! The calculation port. -/

/-- The state in which the calculation port has its control's key. -/
def keySelected (data : Nat) : State := s.wr uDRW DRW_CALC_CTRL_KEYSEL data

theorem rd_keySelected {F : Fld} (h : Fld.apart F DRW_CALC_CTRL_KEYSEL = true) (data : Nat) : (keySelected s data).rd uDRW F = s.rd uDRW F :=
  rd_wr_apart s h uDRW uDRW data

/-- The port calculates the block of a key and the counter it shows (R453). -/
def calculated (key ctr : Nat) : State := (s.wr uDRW DRW_CALC_OUT (drawOf key ctr)).wr uDRW DRW_CALC_STAT_CODE 1

theorem rd_calculated_code (key ctr : Nat) : (calculated s key ctr).rd uDRW DRW_CALC_STAT_CODE = 1 := rd_wr_same _ _ _ _ _
theorem rd_calculated_out (key ctr : Nat) : (calculated s key ctr).rd uDRW DRW_CALC_OUT = drawOf key ctr % 2 ^ DRW_CALC_OUT.width := by
  unfold calculated
  rw [rd_wr_apart _ (by decide), rd_wr_same]

/-- With its own key the port takes any counter. -/
theorem drawCalc_own {s : State} {data : Nat} (hgo : bit data 31 = true) (hown : bit data 0 = true) :
    drawCalc s data = calculated (keySelected s data) (s.rd uDRW DRW_KAT_KEY) (s.rd uDRW DRW_CALC_CTR) := by
  rw [← rd_keySelected s (F := DRW_KAT_KEY) (by decide) data, ← rd_keySelected s (F := DRW_CALC_CTR) (by decide) data]
  unfold drawCalc
  rw [hgo, hown]
  rfl

/-- Counting leaves the seed that a context draws under. -/
theorem seedNow_count (u : Nat) (G : Fld) (n i c : Nat) : (s.count u G n i).seedNow c = s.seedNow c := by
  unfold State.seedNow
  rw [seedOf_congr s (count_seeds s u G n i), count_variant]

/-- With the selected context's seed the port takes the counter of a draw, whether or not it counts the context as unseeded. -/
theorem drawCalc_seed {s : State} {data : Nat} (hgo : bit data 31 = true) (hown : bit data 0 = false) (hctr : bit (s.rd uDRW DRW_CALC_CTR) 35 = true) :
    ∃ t, drawCalc s data = calculated t (s.seedNow (s.rd uDRW DRW_SEED_SEL_CTX)) (s.rd uDRW DRW_CALC_CTR) := by
  rw [← rd_keySelected s (F := DRW_CALC_CTR) (by decide) data] at hctr
  rw [← rd_keySelected s (F := DRW_CALC_CTR) (by decide) data, ← rd_keySelected s (F := DRW_SEED_SEL_CTX) (by decide) data]
  unfold drawCalc
  rw [hgo, hown]
  extract_lets selected ctr c own counted
  have hseed : counted.seedNow c = s.seedNow c := by
    unfold counted
    split
    · exact seedNow_count _ _ _ _ _ _
    · rfl
  rw [hseed]
  exact ⟨counted, (if_neg Bool.false_ne_true).trans (if_neg (by rw [Bool.not_eq_true]; exact congrArg not hctr))⟩

/-- A counter that is not a draw's is refused. -/
theorem drawCalc_refused {s : State} {data : Nat} (hgo : bit data 31 = true) (hown : bit data 0 = false) (hctr : bit (s.rd uDRW DRW_CALC_CTR) 35 = false) :
    drawCalc s data = (keySelected s data).wr uDRW DRW_CALC_STAT_CODE 2 := by
  rw [← rd_keySelected s (F := DRW_CALC_CTR) (by decide) data] at hctr
  unfold drawCalc
  rw [hgo, hown]
  exact if_pos (congrArg not hctr)

/-- Settles O34, clause by clause: a SET refused and sent, a Hall's answer while others are waited for and as the last, a draw, and the calculation port. -/
theorem draws : Obligations.Draws := by
  unfold Obligations.Draws
  refine fun s => ⟨fun data c hw ht hgo hc => ⟨fun hmay => ?refused, fun hmay => ?sent⟩,
    fun r x hset => ⟨fun hr hwait => ?waits, fun hlast hagreed hfree => ?settles⟩,
    fun k ctx layer oper step idx ctr e hrun hwait hctr hheld => ?draw,
    fun data hw ht hgo => ⟨fun hown => ?own, fun hown hbit => ?seed, fun hown hbit => ?calcRefused⟩⟩
  case refused =>
    subst hc
    refine runs_of_exec rfl ((hostOp_of_writable ht hw _ _ _).trans ((drwSeedSet_set hgo).trans (seedSet_refused (s := s.count uBRW BRW_WIN_WR_COUNT) hmay _))) ?_
    exact ⟨congrArg PrvSt.setting (seedRefuse_prv _ _), rd_seedRefuse _ _, fun hmark => mem_seedRefuse_transit (s := s.count uBRW BRW_WIN_WR_COUNT) hmark _⟩
  case sent =>
    subst hc
    refine runs_of_exec rfl ((hostOp_of_writable ht hw _ _ _).trans (drwSeedSet_set hgo)) fun r hr hlost habs hoff => ?_
    exact mem_seedSet_sent (s := s.count uBRW BRW_WIN_WR_COUNT) hmay _ _ (mem_seedRegions hr hlost habs hoff)
  case waits =>
    obtain ⟨q, hq, hne⟩ := hwait
    have hleft : (seedAnswerOf x r.val (s.prv.served.contains (r.val, x.ctx))).left.isEmpty = false :=
      List.isEmpty_eq_false_iff_exists_mem.mpr ⟨q, List.mem_filter.mpr ⟨hq, bne_iff_ne.mpr hne⟩⟩
    exact runs_of_exec rfl ((seedSetAnswer_only hset hr).trans (seedDecide_waits rfl hleft)) ⟨rfl, rfl⟩
  case settles =>
    have hleft : (seedAnswerOf x r.val (s.prv.served.contains (r.val, x.ctx))).left.isEmpty = true := by
      show (x.left.filter (· != r.val)).isEmpty = true
      rw [hlast, List.filter_cons_of_neg (by simp)]
      rfl
    have hagree : (seedAnswerOf x r.val (s.prv.served.contains (r.val, x.ctx))).refused = false := by
      show (x.refused || s.prv.served.contains (r.val, x.ctx)) = false
      rw [hagreed, hfree]
      rfl
    exact runs_of_exec rfl (seedSetAnswer_only hset (hlast ▸ List.mem_singleton_self _))
      (seedDecide_settles (x := seedAnswerOf x r.val (s.prv.served.contains (r.val, x.ctx))) rfl hleft hagree)
  case draw =>
    have hidx : idx.toNat % 2 ^ 35 = idx.toNat := Nat.mod_eq_of_lt idx.isLt
    have hdo : drawRequest s k.val ctx.toNat layer.toNat oper.toNat step.toNat idx.toNat = State.drawDrain k.val [ctr] (s.noteDraw ctx.toNat) := by
      rw [drawRequest_first hrun hwait, hidx, hctr]
    exact runs_of_exec rfl hdo ⟨drawDrain_held_sent hheld, drawDrain_drawn hheld, drawDrain_held_wait hheld⟩
  case own =>
    exact runs_of_exec rfl ((hostOp_of_writable ht hw _ _ _).trans (drawCalc_own hgo hown)) ⟨rd_calculated_code _ _ _, rd_calculated_out _ _ _⟩
  case seed =>
    obtain ⟨t, hdo⟩ := drawCalc_seed (s := s.count uBRW BRW_WIN_WR_COUNT) hgo hown hbit
    exact runs_of_exec rfl ((hostOp_of_writable ht hw _ _ _).trans hdo) ⟨rd_calculated_code _ _ _, rd_calculated_out _ _ _⟩
  case calcRefused =>
    refine runs_of_exec rfl ((hostOp_of_writable ht hw _ _ _).trans (drawCalc_refused hgo hown hbit)) ⟨rd_wr_same _ _ _ _ _, ?_⟩
    rw [rd_wr_apart _ (by decide), rd_keySelected _ (by decide)]
    rfl

end Sys2Proof.Machine
end

section
/-! A sensor's reading, the throttle's ladders and the estimate of a region's power (R476, R479, R482, R483, R485). -/
namespace Sys2Proof.Machine
open Sys2Proof Host Sys2Proof.Claims
variable (s : State)

/-! Readings. -/

/-- What follows from a reading, once the sensor has it: its Cellar's refresh, the trace of a band that moved, its region's band. -/
def readingFollows (f i old : Nat) : State :=
  (if i < 10 ∧ (s.multUp (16 * f + i)).sensorBand (16 * f + i) ≠ old then (s.multUp (16 * f + i)).throttleTrace (10 * f + i) else s.multUp (16 * f + i)).regionThm
    (regionOfField f)

theorem readingFollows_kept {A : Nat} {s0 s : State} (h : Kept A s0 s) (f i old : Nat) (hA : 1971883172522054670106424 ||| A = A) :
    Kept A s0 (readingFollows s f i old) := by
  have hmult : Kept A s0 (s.multUp (16 * f + i)) := kept_multUp h (mask_sub (by decide) hA)
  exact kept_regionThm (.ite (kept_throttleTrace hmult (mask_sub (by decide) hA)) hmult) hA

/-- What follows from a reading leaves the sensor. -/
theorem sensor_readingFollows (f i old n : Nat) : (readingFollows s f i old).sensor n = s.sensor n :=
  sensor_congr s ((readingFollows_kept (A := allBut .sens) (.refl _ s) f i old (by decide)).parts .sens (by decide)) n

/-- A sensor that breaks holds the reason (R477). -/
theorem sensorBreak_broken (n reason : Nat) : ((s.sensorBreak n reason).sensor n).broken = reason := by
  unfold State.sensorBreak
  rw [sensor_congr _ ((kept_multUp (A := allBut .sens) (kept_raise (.refl _ (s.updSensor n _)) (by decide)) (by decide)).parts .sens (by decide)),
    sensor_updSensor_same]

/-- A sensor that breaks is told of with 0x1002 and the reason (R477). -/
theorem mem_sensorBreak_transit (f i reason : Nat) (hi : i < 16) :
    ∃ e ∈ (s.sensorBreak (16 * f + i) reason).transit, e.code = 0x1002 ∧ e.puid = puSensor f i ∧ e.p5 = reason % 2 ^ 32 := by
  have hf : (16 * f + i) / 16 = f := by omega
  have hn : (16 * f + i) % 16 = i := by omega
  unfold State.sensorBreak
  rw [hf, hn]
  exact ⟨_, (kept_multUp (A := allButEvents) (.refl _ _) (by decide)).event (by decide) (mem_raise_transit _ _ _ _ _ _), rfl, rfl, rfl⟩

/-- A sensor without calibration takes the reading and breaks for reason 5 (R477). -/
theorem sensorReading_uncalibrated {s : State} {f i : Nat} (hthere : sensorThere f i = true) (hsound : (s.sensor (16 * f + i)).broken = 0)
    (hcal : Tab.find (puSensor f i) s.fw.cal = none) (raw : Nat) :
    ∃ t, sensorReading s f i raw = readingFollows (State.sensorBreak t (16 * f + i) 5) f i (s.sensorBand (16 * f + i)) := by
  unfold sensorReading
  rw [hcal, hthere, Option.bind_none]
  dsimp -zeta only
  extract_lets n x same old taken broken
  have hbroken : broken = taken.sensorBreak n 5 := if_pos hsound
  exact ⟨taken, congrArg (fun t => readingFollows t f i (s.sensorBand (16 * f + i))) hbroken⟩

/-- A sound sensor that reads a temperature out of range breaks for reason 1 (R477). -/
theorem sensorReading_outOfRange {s : State} {f i raw : Nat} {cal : List (Int × Nat)} {v : Int} (hthere : sensorThere f i = true)
    (hsound : (s.sensor (16 * f + i)).broken = 0) (hcal : Tab.find (puSensor f i) s.fw.cal = some cal) (hv : interpolate cal raw = some v)
    (hout : v < -640 ∨ 2400 < v) :
    ∃ t, sensorReading s f i raw = readingFollows (State.sensorBreak t (16 * f + i) 1) f i (s.sensorBand (16 * f + i)) := by
  unfold sensorReading
  rw [hcal, hthere, Option.bind_some, hv]
  dsimp -zeta only
  extract_lets n x same old prev taken bad broken
  have hbad : bad = true := decide_eq_true hout
  have hbroken : broken = taken.sensorBreak n 1 := (if_neg (not_not.mpr hsound)).trans (if_pos hbad)
  exact ⟨taken, congrArg (fun t => readingFollows t f i (s.sensorBand (16 * f + i))) hbroken⟩

/-- A sound sensor stores the first temperature it reads, when it is in range (R476). -/
theorem sensorReading_first {s : State} {f i raw : Nat} {cal : List (Int × Nat)} {v : Int} (hthere : sensorThere f i = true)
    (hsound : (s.sensor (16 * f + i)).broken = 0) (hcal : Tab.find (puSensor f i) s.fw.cal = some cal) (hv : interpolate cal raw = some v)
    (hlow : -640 ≤ v) (hhigh : v ≤ 2400) (hfirst : (s.sensor (16 * f + i)).read = false) :
    ∃ g : SensorSt → SensorSt, (∀ x, (g x).temp = v ∧ (g x).raw = raw ∧ (g x).read = true ∧ (g x).broken = x.broken) ∧
      sensorReading s f i raw = readingFollows (s.updSensor (16 * f + i) g) f i (s.sensorBand (16 * f + i)) := by
  unfold sensorReading
  rw [hcal, hthere, Option.bind_some, hv]
  dsimp -zeta only
  extract_lets n x same old prev taken bad kept
  have hbad : ¬ bad = true := fun h => by
    have := of_decide_eq_true h
    omega
  have hkept : kept = taken := (if_neg (not_not.mpr hsound)).trans ((if_neg hbad).trans (if_neg fun h => absurd h.2 (by rw [hfirst]; decide)))
  have hfollows := congrArg (fun t => readingFollows t f i (s.sensorBand (16 * f + i))) hkept
  refine ⟨_, ?_, hfollows⟩
  exact fun _ => ⟨rfl, rfl, rfl, rfl⟩

/-! The throttle's ladders. -/

/-- Driving the throttle notes that its acknowledgement is waited for and since when it holds, and leaves the ladders and the estimate's totals. -/
theorem driveThr_thmOf (r : Nat) : ∃ w l, (s.driveThr r).thmOf r = { s.thmOf r with waiting := w, lvlAt := l } := by
  unfold State.driveThr
  extract_lets u x m limit lvl m' was now shown req drawn counted driven traced
  have hshown : Kept (allBut .thm) s shown := kept_flag (kept_flag (kept_flag (.refl _ s) (by decide)) (by decide)) (by decide)
  clear_value shown
  split
  · exact ⟨(s.thmOf r).waiting, (s.thmOf r).lvlAt, thmOf_congr s (hshown.parts .thm (by decide)) r⟩
  · have hdrawn : Kept (allBut .thm) s drawn := kept_hallAct (kept_wr (kept_wr hshown (by decide)) (by decide)) (by decide)
    clear_value drawn
    have hcounted : counted.thmOf r = s.thmOf r := by
      unfold counted
      split
      · exact thmOf_congr s ((Kept.ite (kept_count hdrawn (by decide)) hdrawn).parts .thm (by decide)) r
      · exact thmOf_congr s (hdrawn.parts .thm (by decide)) r
    clear_value counted
    have hdriven : (traced.raiseOnce 0 0x1010 (puHal r) was now req).thmOf r = driven.thmOf r :=
      thmOf_congr driven ((kept_raiseOnce (A := allBut .thm) (kept_each (.refl _ driven) fun _ _ h => kept_throttleTrace h (by decide)) (by decide)).parts
        .thm (by decide)) r
    rw [hdriven, thmOf_updThmOf_same, hcounted]
    exact ⟨_, _, rfl⟩

/-- Setting the cap's level leaves the rest of a region's thermal state. -/
theorem setCap_thmOf (r lvl : Nat) : (s.setCap r lvl).thmOf r = { s.thmOf r with capLvl := lvl } := by
  unfold State.setCap
  split
  next h => rw [h]
  next h =>
    rw [thmOf_congr (s.updThmOf r (fun y => { y with capLvl := lvl })) ((kept_raiseOnce (A := allBut .thm) (.refl _ _) (by decide)).parts .thm (by decide)),
      thmOf_updThmOf_same]

/-- A ladder that moves is where the move left it once the throttle is driven. -/
theorem bandLvl_driveThr (r : Nat) : ((s.driveThr r).thmOf r).bandLvl = (s.thmOf r).bandLvl := by
  obtain ⟨w, l, h⟩ := driveThr_thmOf s r
  rw [h]
theorem capLvl_driveThr (r : Nat) : ((s.driveThr r).thmOf r).capLvl = (s.thmOf r).capLvl := by
  obtain ⟨w, l, h⟩ := driveThr_thmOf s r
  rw [h]
theorem lastProd_driveThr (r : Nat) : ((s.driveThr r).thmOf r).lastProd = (s.thmOf r).lastProd := by
  obtain ⟨w, l, h⟩ := driveThr_thmOf s r
  rw [h]

/-- The band's ladder that moves to a level (R482). -/
theorem bandLvl_moved (r : Nat) (g : Nat → Nat) :
    (((s.updThmOf r (fun y => { y with bandLvl := g y.bandLvl })).driveThr r).thmOf r).bandLvl = g (s.thmOf r).bandLvl := by
  rw [bandLvl_driveThr, thmOf_updThmOf_same]

/-- The cap's ladder that moves to a level (R485). -/
theorem capLvl_moved (r lvl : Nat) : (((s.setCap r lvl).driveThr r).thmOf r).capLvl = lvl := by
  rw [capLvl_driveThr, setCap_thmOf]

/-! The estimate. -/

/-- A field apart from the event bits is not traced into. -/
theorem rd_trace_apart {F : Fld} (h : Fld.apart F PG_EVT_CLASS = true) (u k cls type : Nat) (core : Option Nat) (d : Option Desc) (param : Nat) :
    (s.trace k cls type core d param).rd u F = s.rd u F := by
  unfold State.trace
  split
  · rfl
  · unfold State.tracePut
    extract_lets g us level gap why
    split
    · rw [rd_raiseOnce_apart _ h, rd_congr _ (count_regs _ _ _ _ _)]
      rfl
    · rfl

/-- Driving the throttle leaves the estimate that is shown. -/
theorem rd_driveThr_est (u r : Nat) : (s.driveThr r).rd u HAL_PWR_EST_W = s.rd u HAL_PWR_EST_W := by
  unfold State.driveThr
  extract_lets v x m limit lvl m' was now shown req drawn counted driven traced
  have hshown : shown.rd u HAL_PWR_EST_W = s.rd u HAL_PWR_EST_W := by
    unfold shown
    rw [rd_flag_apart _ (by decide), rd_flag_apart _ (by decide), rd_flag_apart _ (by decide)]
  split
  · exact hshown
  · have hdrawn : drawn.rd u HAL_PWR_EST_W = shown.rd u HAL_PWR_EST_W :=
      (rd_wr_apart (F := HAL_PWR_EST_W) (G := HAL_THM_STAT_LEVEL) _ (by decide) u v lvl).trans
        (rd_wr_apart (F := HAL_PWR_EST_W) (G := HAL_THM_STAT_METHOD) shown (by decide) u v m')
    clear_value drawn
    have hcounted : counted.regs = drawn.regs := by
      unfold counted
      split
      · exact (Kept.ite (kept_count (A := allBut .regs) (.refl _ drawn) (by decide)) (.refl _ drawn)).parts .regs (by decide)
      · rfl
    clear_value counted
    have htraced : traced.rd u HAL_PWR_EST_W = counted.rd u HAL_PWR_EST_W :=
      each_keeps driven (fun t : State => t.rd u HAL_PWR_EST_W) (fun t k => rd_trace_apart t (by decide) u k 6 0x40 none none _) _
    rw [rd_raiseOnce_apart _ (by decide), htraced, rd_congr _ hcounted, hdrawn, hshown]

theorem rd_setCap_est (u r lvl : Nat) : (s.setCap r lvl).rd u HAL_PWR_EST_W = s.rd u HAL_PWR_EST_W := by
  unfold State.setCap
  split
  · rfl
  · rw [rd_raiseOnce_apart _ (by decide)]
    rfl

/-- The watts of a region over the last period: idle power, counted work, and its share of the posture's watts (R485). -/
def regionWatts (r idle pjProd pjL1 pjL2 : Nat) : Nat :=
  min 65535 (((idle * 1000000000
    + (gained (s.thmOf r).lastProd (s.thmOf r).prod * pjProd
      + gained (s.thmOf r).lastL1 (((clustersOf r).map (fun k => s.cnt (uTST k) TST_L1_RD_BYTES + s.cnt (uTST k) TST_L1_WR_BYTES)).sum) * pjL1
      + gained (s.thmOf r).lastL2 (((stacksOf r).flatMap (fun c => (List.range 16).map (fun ch =>
          s.cnt (uCEL c) CEL_BYTES_DELIV ch + s.cnt (uCEL c) CEL_BYTES_WRITTEN ch))).sum) * pjL2)) * nRegions
    + postureWatts (s.posture r) * 1000000000) / (nRegions * 1000000000))

/-- The processor whose stop stops the estimates: the active Brewhouse's. -/
def estimateProc : Nat := match s.active with | .a => 65 | .b => 73

theorem regionWatts_lt (r idle pjProd pjL1 pjL2 : Nat) : regionWatts s r idle pjProd pjL1 pjL2 < 2 ^ HAL_PWR_EST_W.width :=
  Nat.lt_of_le_of_lt (Nat.min_le_left _ _) (by decide)

/-- An estimate shows the region's watts and takes the running totals as the last; the cap's ladder may then be entered. -/
theorem powerEstimate_shows {s : State} {r idle pjProd pjL1 pjL2 : Nat} {rest : List Nat} (h : s.variant.power = some (idle, pjProd, pjL1, pjL2, rest))
    (hup : s.procDown (estimateProc s) = false) :
    ((powerEstimate s r).thmOf r).lastProd = (s.thmOf r).prod ∧ (powerEstimate s r).rd (uHAL r) HAL_PWR_EST_W = regionWatts s r idle pjProd pjL1 pjL2 := by
  unfold powerEstimate
  rw [h]
  dsimp -zeta only
  extract_lets core x l1 l2 pj w budget overN low ends cause noted
  have hprod : (noted.thmOf r).lastProd = (s.thmOf r).prod := congrArg ThmSt.lastProd (thmOf_updThmOf_same _ _ _)
  have hw : w = regionWatts s r idle pjProd pjL1 pjL2 := rfl
  have hregs : noted.regs = (s.wr (uHAL r) HAL_PWR_EST_W w).regs := updThmOf_regs _ _ _
  clear_value noted w
  have hest : noted.rd (uHAL r) HAL_PWR_EST_W = regionWatts s r idle pjProd pjL1 pjL2 := by
    rw [rd_congr _ hregs, rd_wr_same, hw]
    exact Nat.mod_eq_of_lt (regionWatts_lt s r idle pjProd pjL1 pjL2)
  have hrun : ¬ s.procDown core = true := Bool.eq_false_iff.mp hup
  rw [if_neg hrun]
  split
  · rw [lastProd_driveThr, setCap_thmOf, rd_driveThr_est, rd_setCap_est]
    exact ⟨hprod, hest⟩
  · exact ⟨hprod, hest⟩

/-- Settles O36, clause by clause: a reading stored, out of range and uncalibrated, each ladder deepened and released, and the estimate. -/
theorem sensorsAndThrottle : Obligations.SensorsAndThrottle := by
  unfold Obligations.SensorsAndThrottle
  refine fun s => ⟨fun f i raw hthere hsound => ⟨fun cal v hcal hv => ⟨fun hlow hhigh hfirst => ?stored, fun hout => ?outOfRange⟩, fun hcal => ?uncalibrated⟩,
    fun r => ⟨fun hband => ⟨?bandDeepens, ?bandStays⟩, fun hband => ⟨?bandHolds, ?bandReleases⟩, fun hcause => ⟨?capDeepens, ?capStays⟩,
      fun hcause => ⟨?capHolds, ?capReleases⟩, fun hnone => ?noPower, fun idle pjProd pjL1 pjL2 rest hpower hup => ?estimate⟩⟩
  case stored =>
    obtain ⟨g, hg, hdo⟩ := sensorReading_first hthere hsound hcal hv hlow hhigh hfirst
    refine runs_of_exec rfl hdo ?_
    rw [sensor_readingFollows, sensor_updSensor_same]
    obtain ⟨htemp, hraw, hread, hbroken⟩ := hg (s.sensor (16 * f.val + i.val))
    exact ⟨htemp, hraw, hread, hbroken.trans hsound⟩
  case outOfRange =>
    obtain ⟨t, hdo⟩ := sensorReading_outOfRange hthere hsound hcal hv hout
    obtain ⟨e, he, hcode, hpuid, hreason⟩ := mem_sensorBreak_transit t f.val i.val 1 i.isLt
    refine runs_of_exec rfl hdo ⟨?_, e, (readingFollows_kept (A := allButEvents) (.refl _ _) _ _ _ (by decide)).event (by decide) he, hcode, hpuid, hreason⟩
    rw [sensor_readingFollows, sensorBreak_broken]
  case uncalibrated =>
    obtain ⟨t, hdo⟩ := sensorReading_uncalibrated hthere hsound hcal raw.toNat
    refine runs_of_exec rfl hdo ?_
    rw [sensor_readingFollows, sensorBreak_broken]
  case bandDeepens => exact runs_of_exec rfl (if_pos hband) (bandLvl_moved s r.val (deeper (s.rd (uHAL r.val) HAL_THM_STAT_METHOD)))
  case bandStays => exact runs_of_exec rfl (if_pos hband) rfl
  case bandHolds => exact runs_of_exec rfl (if_neg hband) rfl
  case bandReleases => exact runs_of_exec rfl (if_neg hband) (bandLvl_moved s r.val (· - 1))
  case capDeepens => exact runs_of_exec rfl (if_pos hcause) (capLvl_moved s r.val _)
  case capStays => exact runs_of_exec rfl (if_pos hcause) rfl
  case capHolds => exact runs_of_exec rfl (if_neg (Bool.eq_false_iff.mp hcause)) rfl
  case capReleases => exact runs_of_exec rfl (if_neg (Bool.eq_false_iff.mp hcause)) (capLvl_moved s r.val _)
  case noPower =>
    refine runs_of_exec rfl ?_ rfl
    unfold powerEstimate
    rw [hnone]
  case estimate => exact runs_of_exec rfl rfl (powerEstimate_shows hpower hup)

end Sys2Proof.Machine
end

section
/-! Provenance steps (R457, R458): the context of a step record is a number without bound, and the fields of a page are kept under numbers. -/
namespace Sys2Proof.Machine
open Sys2Proof Host Sys2Proof.Claims

/-- A number far above every context's, under which PROV lies where the page's number of queued step records does. -/
def strayCtx : Nat := fkey uPRV PRV_STAT_QUEUE 0 - fkey uPRV PRV_CTX_CFG_PROV 0

theorem fkey_strayCtx : fkey uPRV PRV_CTX_CFG_PROV strayCtx = fkey uPRV PRV_STAT_QUEUE 0 := by decide +kernel

theorem strayCtx_not_ctx : 2 ^ 16 ≤ strayCtx := by decide +kernel

/-- A step record of that number. -/
def strayStep : StepRec := ⟨strayCtx, 3, 1, 2, 0, 0⟩

/-- The state after reset, but with that step record queued and one record shown as queued. -/
def strayQueued : State := { State.reset.wr uPRV PRV_STAT_QUEUE 1 with prv := { State.reset.prv with queue := [strayStep] } }

/-- While a record is shown as queued, PROV of the number reads as set and BROKEN as clear. -/
theorem strayQueued_prov : strayQueued.isSet uPRV PRV_CTX_CFG_PROV strayCtx = true := by
  unfold State.isSet State.rd
  rw [fkey_strayCtx]
  decide +kernel
theorem strayQueued_broken : strayQueued.isSet uPRV PRV_STAT_BROKEN strayCtx = false := by decide +kernel

/-- Taking the record off shows none as queued, so that PROV reads as clear and no chain is begun. -/
theorem strayQueued_chain : (provenanceStep strayQueued).prv.chain = [] := by decide +kernel

theorem strayDigest_ne_zero : sha3Nat (strayQueued.provBytes strayStep) ≠ 0 := by decide +kernel

/-- Refutes O35: a step record may carry a number that is no context's, whose PROV field is the page's number of queued records; taking the record
off clears it before it is read, and the step is not hashed. -/
theorem not_provenanceAndPair : ¬ Obligations.ProvenanceAndPair := by
  unfold Obligations.ProvenanceAndPair
  intro h
  obtain ⟨-, hstep, -⟩ := h strayQueued
  obtain ⟨t, ht, -, -, hchain⟩ := hstep strayStep [] rfl
  obtain rfl : provenanceStep strayQueued = t := Outcome.next.inj ht
  have hdigest := hchain strayQueued_prov strayQueued_broken
  rw [strayQueued_chain] at hdigest
  exact strayDigest_ne_zero hdigest.symm

end Sys2Proof.Machine
end

section
/-! A change of one Brewhouse's state, and which of the pair packets that move may change: the reigns seen (R63). -/
namespace Sys2Proof.Machine
open Sys2Proof Host Sys2Proof.Claims
variable (s : State)

/-- A change of a Brewhouse's state leaves every part but the pair. -/
theorem updBrew_kept (w : Bh) (f : BrewSt → BrewSt) : Kept (maskOf [.pair]) s (s.updBrew w f) := kept_updBrew (.refl _ s) (by decide)
theorem updBrew_transit (w : Bh) (f : BrewSt → BrewSt) : (s.updBrew w f).transit = s.transit := (updBrew_kept s w f).parts .transit (by decide)
theorem updBrew_regs (w : Bh) (f : BrewSt → BrewSt) : (s.updBrew w f).regs = s.regs := (updBrew_kept s w f).parts .regs (by decide)
theorem updBrew_sent (w : Bh) (f : BrewSt → BrewSt) : (s.updBrew w f).sent = s.sent := (updBrew_kept s w f).parts .sent (by decide)

@[simp] theorem brew_updBrew_same (w : Bh) (f : BrewSt → BrewSt) : (s.updBrew w f).brew w = f (s.brew w) := by cases w <;> rfl

/-- A Brewhouse's state rests on the pair alone, and which is active on its register alone. -/
theorem brew_congr {s t : State} (h : t.pair = s.pair) (w : Bh) : t.brew w = s.brew w :=
  match w with
  | .a => congrArg PairSt.a h
  | .b => congrArg PairSt.b h
theorem active_congr {s t : State} (h : t.regs = s.regs) : t.active = s.active := by unfold State.active; rw [rd_congr s h]
theorem standby_congr {s t : State} (h : t.regs = s.regs) : t.standby = s.standby := by unfold State.standby; rw [active_congr h]

/-- The pair with other reigns seen. -/
def pairSeen (p : PairSt) (a b : Nat) : PairSt := { p with a := { p.a with seen := a }, b := { p.b with seen := b } }

/-- The pair is as it was but for the reigns that its Brewhouses have seen. -/
def SeenOnly (s t : State) : Prop := ∃ a b, t.pair = pairSeen s.pair a b

theorem SeenOnly.of_pair {s t : State} (h : t.pair = s.pair) : SeenOnly s t := ⟨s.pair.a.seen, s.pair.b.seen, h⟩
theorem SeenOnly.refl : SeenOnly s s := .of_pair rfl
theorem SeenOnly.trans {s t u : State} (h : SeenOnly s t) (h' : SeenOnly t u) : SeenOnly s u := by
  obtain ⟨a, b, h⟩ := h
  obtain ⟨a', b', h'⟩ := h'
  exact ⟨a', b', by rw [h', h]; rfl⟩
theorem SeenOnly.of_kept {A : Nat} {s t : State} (k : Kept A s t) (hA : A.testBit Part.pair.bit = false) : SeenOnly s t :=
  .of_pair (k.parts .pair hA)
theorem SeenOnly.each {α : Type} {f : State → α → State} (hf : ∀ t x, SeenOnly t (f t x)) (l : List α) : SeenOnly s (s.each l f) := by
  unfold State.each
  induction l generalizing s with
  | nil => exact .refl s
  | cons x l ih => exact (hf s x).trans (ih (f s x))

theorem SeenOnly.brew {s t : State} (h : SeenOnly s t) (w : Bh) : ∃ n, t.brew w = { s.brew w with seen := n } := by
  obtain ⟨a, b, h⟩ := h
  cases w with
  | a => exact ⟨a, congrArg PairSt.a h⟩
  | b => exact ⟨b, congrArg PairSt.b h⟩
theorem SeenOnly.reign {s t : State} (h : SeenOnly s t) (w : Bh) : (t.brew w).reign = (s.brew w).reign := by
  obtain ⟨n, e⟩ := h.brew w; rw [e]
theorem SeenOnly.got {s t : State} (h : SeenOnly s t) (w : Bh) : (t.brew w).got = (s.brew w).got := by
  obtain ⟨n, e⟩ := h.brew w; rw [e]
theorem SeenOnly.poll {s t : State} (h : SeenOnly s t) (w : Bh) : (t.brew w).poll = (s.brew w).poll := by
  obtain ⟨n, e⟩ := h.brew w; rw [e]
theorem SeenOnly.lastHb {s t : State} (h : SeenOnly s t) (w : Bh) : (t.brew w).lastHb = (s.brew w).lastHb := by
  obtain ⟨n, e⟩ := h.brew w; rw [e]
theorem SeenOnly.mirrored {s t : State} (h : SeenOnly s t) (w : Bh) : (t.brew w).mirrored = (s.brew w).mirrored := by
  obtain ⟨n, e⟩ := h.brew w; rw [e]

theorem seenOnly_updBrew (w : Bh) (g : BrewSt → Nat) : SeenOnly s (s.updBrew w (fun x => { x with seen := g x })) := by
  cases w with
  | a => exact ⟨g s.pair.a, s.pair.b.seen, rfl⟩
  | b => exact ⟨s.pair.a.seen, g s.pair.b, rfl⟩

/-- A packet at a local port may show a Brewhouse a reign, and changes nothing else of the pair. -/
theorem seenOnly_deliverPort (f : Nat) (p : Packet) (port : Nat) : SeenOnly s (s.deliverPort f p port) := by
  unfold State.deliverPort
  dsimp only
  split
  · exact .refl s
  · split
    · split
      · exact .of_pair rfl
      · exact (seenOnly_updBrew s _ _).trans (.of_pair rfl)
    · split
      · split
        · exact .of_pair rfl
        · split <;> exact .of_pair rfl
      · exact .of_pair rfl

theorem seenOnly_deliver (f : Nat) (p : Packet) : SeenOnly s (s.deliver f p) := by
  unfold State.deliver
  dsimp only
  split
  · exact .each s (fun t q => seenOnly_deliverPort t f p q) _
  · split
    · exact seenOnly_deliverPort s f p 18
    · split
      · exact .of_kept (kept_relay (A := allBut .pair) (.refl _ s) (by decide)) (by decide)
      · exact seenOnly_deliverPort s f p _

end Sys2Proof.Machine
end


section
/-! Events on their way: an acknowledged mirror marks them and keeps their order (R26, R57). -/
namespace Sys2Proof.Machine
open Sys2Proof Host Sys2Proof.Claims

/-- An event but for the mark that the standby holds a copy of it. -/
def unmarked (e : Ev) : Ev := { e with copy := false }

/-- A complete mirror leaves every event in its place; a standby that had no state loses the marks. -/
theorem mirrorDone_transit (s : State) : s.mirrorDone.transit.map unmarked = s.transit.map unmarked := by
  unfold State.mirrorDone
  dsimp only
  rw [flag_transit, wr_transit]
  dsimp only
  rw [updBrew_transit]
  split
  · rfl
  · rw [List.map_map]
    rfl

/-- What follows an acknowledged mirror, the commits that it carried and those that waited for it, takes no event off its way. -/
theorem mirrorAck_kept {s : State} {e : Nat} (h : s.pair.mirrorSent = some e) : Kept allButEvents s.mirrorDone (mirrorAck s) := by
  unfold mirrorAck
  rw [h]
  refine .ite (.refl _ _) (kept_commitsGo (Kept.u_pair (kept_each (Kept.u_twk (.refl _ _) (by decide)) ?_) (by decide)) (by decide))
  exact fun _ _ k => kept_commit k (by decide)

/-- An acknowledged mirror keeps the events on their way in their order, but for their marks. -/
theorem mirrorAck_transit (s : State) : s.transit.map unmarked <+: (mirrorAck s).transit.map unmarked := by
  cases h : s.pair.mirrorSent with
  | none => unfold mirrorAck; rw [h]
  | some e => rw [← mirrorDone_transit]; exact ((mirrorAck_kept h).events (by decide)).map _

/-- Of the commands that the statement speaks of, the acknowledged mirror alone touches an event on its way. -/
theorem takesEvents_eq_false {c : Instr} (hpoll : ∀ x y, c ≠ .hallPollAnswer x y) (hdrain : ∀ x b cs, c ≠ .drainComplete x b cs)
    (hbound : ∀ x b cs, c ≠ .drainBound x b cs) (hcycle : ∀ x, c ≠ .powerCycleRequest x) (hsil : c ≠ .heartbeatSilence)
    (hrec : c ≠ .eventRecord) (hon : c ≠ .powerOn) (hreset : c ≠ .resetReq) (hmir : c ≠ .mirrorAck) : takesEvents c = false := by
  cases c with
  | hallPollAnswer x y => exact absurd rfl (hpoll x y)
  | drainComplete x b cs => exact absurd rfl (hdrain x b cs)
  | drainBound x b cs => exact absurd rfl (hbound x b cs)
  | powerCycleRequest x => exact absurd rfl (hcycle x)
  | heartbeatSilence => exact absurd rfl hsil
  | eventRecord => exact absurd rfl hrec
  | powerOn => exact absurd rfl hon
  | resetReq => exact absurd rfl hreset
  | mirrorAck => exact absurd rfl hmir
  | _ => rfl

/-- Settles O56: a command that takes no event off its way keeps them as its mask says, and an acknowledged mirror but for their marks. -/
theorem eventsKeepTheirOrder : Obligations.EventsKeepTheirOrder := by
  unfold Obligations.EventsKeepTheirOrder
  intro c s t h hpoll hdrain hbound hcycle hsil hrec hon hreset
  by_cases hmir : c = .mirrorAck
  · subst hmir
    cases h
    exact ⟨mirrorAck_transit s, fun hne => absurd rfl hne⟩
  · have hkeep : s.transit <+: t.transit :=
      (exec_kept c s t h).events (changes_events (takesEvents_eq_false hpoll hdrain hbound hcycle hsil hrec hon hreset hmir))
    exact ⟨hkeep.map _, fun _ => hkeep⟩

end Sys2Proof.Machine
end

section
/-! Packets that arrive at a router and the check result that each hop hears (R30, R35, R36, R63). -/
namespace Sys2Proof.Machine
open Sys2Proof Host Sys2Proof.Claims
variable {s : State} {f : Nat} {h : Hop} {v : Bool} {head : BitVec 64} {payload : List (BitVec 64)} {crc : BitVec 16}

/-- A router takes nothing from a hop: its edge is clamped, or the input buffer holds two packets of the class (R35, R113). -/
def takesNone (s : State) (f : Nat) (h : Hop) (p : Packet) : Bool :=
  s.hopClamped f h || decide (p.cls < 6 ∧ 2 ≤ (s.router f).inPort (hopNo h) p.cls)

/-- What a router does first with a packet that it takes from a hop: the packet is off the sender's wires and its check result returns. -/
def hopChecked (s : State) (f : Nat) (h : Hop) (p : Packet) (ok : Bool) : State := (s.lineDone f h p).emit (.hopCheck f h ok)

theorem stairPacketReceive_takesNone (hno : takesNone s f h ⟨head, payload⟩ = true) (resid : Nat) :
    stairPacketReceive s f (some h) v head payload crc resid = s := if_pos hno

theorem stairPacketReceive_fails (hno : takesNone s f h ⟨head, payload⟩ = false) (hbad : packetOk v head payload crc = false) (resid : Nat) :
    stairPacketReceive s f (some h) v head payload crc resid = (hopChecked s f h ⟨head, payload⟩ false).pump := by
  unfold takesNone at hno
  unfold stairPacketReceive hopChecked
  dsimp only
  rw [hbad, if_neg (Bool.eq_false_iff.mp hno)]
  rfl

/-- What follows the check result of a packet that passes takes back nothing that was sent. -/
theorem stairPacketReceive_kept (hno : takesNone s f h ⟨head, payload⟩ = false) (hok : packetOk v head payload crc = true) (resid : Nat) :
    Kept allButEvents (hopChecked s f h ⟨head, payload⟩ true) (stairPacketReceive s f (some h) v head payload crc resid) := by
  unfold takesNone at hno
  unfold stairPacketReceive
  dsimp only
  rw [hok, if_neg (Bool.eq_false_iff.mp hno), if_neg (by decide)]
  have hnoted : ∀ c : Prop, ∀ [Decidable c], ∀ (k n : Nat) (g : HopSt → HopSt), Kept allButEvents (hopChecked s f h ⟨head, payload⟩ true)
      (if c then hopChecked s f h ⟨head, payload⟩ true else ((hopChecked s f h ⟨head, payload⟩ true).updHop k g).noteItem n) :=
    fun c _ k n g => .ite (.refl _ _) (kept_noteItem (kept_updHop (.refl _ _) (by decide)) (by decide))
  refine .ite ?_ (.ite ?_ ?_)
  · exact kept_pump (kept_returnCredit (kept_updRouter (hnoted _ _ _ _) (by decide)) (by decide)) (by decide)
  · exact kept_pump (kept_returnCredit (hnoted _ _ _ _) (by decide)) (by decide)
  · exact kept_pump (kept_enqueue (hnoted _ _ _ _) (by decide)) (by decide)

/-- A packet that a local unit hands in and that fails its check has no effect. -/
theorem stairPacketReceive_local_fails (hbad : packetOk v head payload crc = false) (resid : Nat) :
    stairPacketReceive s f none v head payload crc resid = s := by
  unfold stairPacketReceive
  dsimp only
  rw [hbad]
  rfl

/-- No Brewhouse steps down for a packet that fails its check, or that leaves the state as it is. -/
theorem exec_stairPacketReceive_plain {f : FieldId} {h : Option Hop} {resid : BitVec 16} {t : State}
    (ht : stairPacketReceive s f.val h v head payload crc resid.toNat = t) (hn : packetOk v head payload crc = false ∨ t = s) :
    exec (.stairPacketReceive f h v head payload crc resid) s = .next t := by
  subst ht
  refine if_pos ?_
  rcases hn with hbad | hsame
  · rw [hbad]; rfl
  · rw [hsame]; simp

/-- Settles O1, by what a router does with a packet that it takes and with one that it does not. -/
theorem stairPacketCheck : Obligations.StairPacketCheck := by
  unfold Obligations.StairPacketCheck
  intro f h v head payload crc resid s
  refine ⟨fun hno => ⟨_, exec_stairPacketReceive_plain (stairPacketReceive_takesNone hno _) (.inr rfl), rfl⟩, fun hno hok => ?_,
    fun hbad => ⟨fun hno => ⟨_, exec_stairPacketReceive_plain (stairPacketReceive_fails hno hbad _) (.inl hbad), ?_, rfl⟩,
      ⟨_, exec_stairPacketReceive_plain (stairPacketReceive_local_fails hbad _) (.inl hbad), rfl⟩⟩⟩
  · have hsent := (stairPacketReceive_kept hno hok resid.toNat).said.subset List.mem_cons_self
    by_cases hstep : (!packetOk v head payload crc || [Bh.a, .b].all (fun w => decide
        (((stairPacketReceive s f.val (some h) v head payload crc resid.toNat).brew w).seen ≤ (s.brew w).seen))) = true
    · exact ⟨_, if_pos hstep, _, hsent, .inl rfl⟩
    · exact ⟨_, if_neg hstep, _, hsent, .inr rfl⟩
  · exact (kept_pump (A := allButEvents) (.refl _ _) (by decide)).said.subset List.mem_cons_self

end Sys2Proof.Machine
end

section
/-! What a hop carries and what a router holds while packets move: copies stay until their check results return, and behind a dead hop
they wait (R33-R38). -/
namespace Sys2Proof.Machine
open Sys2Proof Host Sys2Proof.Claims
variable (s : State)

/-! The packets of a hop's copies, through transfers carried and packets started. -/
theorem ackFirst_pkts (l : List Copy) : (ackFirst l).map (·.pkt) = l.map (·.pkt) := by
  induction l with
  | nil => rfl
  | cons c l ih =>
    simp only [ackFirst]
    split
    · rfl
    · rw [List.map_cons, List.map_cons, ih]

theorem acked_pkts (x : HopSt) : x.acked.copies.map (·.pkt) = x.copies.map (·.pkt) := by
  unfold HopSt.acked
  split
  · rfl
  · exact ackFirst_pkts _

theorem put_copies (x : HopSt) : x.put.copies = x.copies := by
  unfold HopSt.put
  split <;> rfl

theorem carry_pkts (n : Nat) (x : HopSt) : (HopSt.carry n x).copies.map (·.pkt) = x.copies.map (·.pkt) := by
  induction n generalizing x with
  | zero => rfl
  | succ n ih => rw [HopSt.carry, ih, put_copies, acked_pkts]

theorem mem_insertGoing (y : Copy) (l : List Copy) : y ∈ insertGoing y l := by
  induction l with
  | nil => exact List.mem_singleton_self y
  | cons c l ih =>
    simp only [insertGoing]
    split
    · exact List.mem_cons_self
    · exact List.mem_cons_of_mem c ih

theorem insertGoing_sublist (y : Copy) (l : List Copy) : l.Sublist (insertGoing y l) := by
  induction l with
  | nil => exact List.nil_sublist _
  | cons c l ih =>
    simp only [insertGoing]
    split
    · exact List.sublist_cons_self _ _
    · exact ih.cons_cons c

/-- A packet that starts on a hop joins its copies with the resends counted so far. -/
theorem mem_start (x : HopSt) (p : Packet) (n : Nat) : (⟨p, 0, n⟩ : Copy) ∈ (x.start p n).copies := by
  unfold HopSt.start
  dsimp only
  split
  · rw [put_copies]; exact List.mem_append_right _ (List.mem_singleton_self _)
  · split
    · rw [put_copies]; exact mem_insertGoing _ _
    · exact List.mem_append_right _ (List.mem_singleton_self _)

/-- A packet that starts on a hop leaves the packets there in their order. -/
theorem start_pkts (x : HopSt) (p : Packet) (n : Nat) : (x.copies.map (·.pkt)).Sublist ((x.start p n).copies.map (·.pkt)) := by
  unfold HopSt.start
  dsimp only
  split
  · rw [put_copies]; exact (List.sublist_append_left _ _).map _
  · next c _ =>
    split
    · rw [put_copies]
      have hacked := (insertGoing_sublist ⟨p, 0, n⟩ (HopSt.carry (c.toGap - 1) x).acked.copies).map (·.pkt)
      rwa [acked_pkts, carry_pkts] at hacked
    · exact (List.sublist_append_left _ _).map _

/-! What moves a packet: one output of a router that can be served. -/
theorem firstReady_spec {f : Nat} {e : InPkt} {l : Nat} {rest before : List InPkt} (h : s.firstReady f before rest = some (e, l)) :
    l ∈ e.legs ∧ ∃ b, s.legReady f b e l = true := by
  induction rest generalizing before with
  | nil => exact absurd h (by simp [State.firstReady])
  | cons x rest ih =>
    simp only [State.firstReady] at h
    split at h
    · next l' hl =>
      obtain ⟨rfl, rfl⟩ := Prod.mk.inj (Option.some.inj h)
      exact ⟨List.mem_of_find?_eq_some hl, before, List.find?_some hl⟩
    · exact ih h

/-- An output that a router serves belongs to a waiting packet and can be served. -/
theorem nextServed_spec {f : Nat} {e : InPkt} {l : Nat} (h : s.nextServed f = some (e, l)) :
    l ∈ e.legs ∧ (l = 6 ∨ (l < 6 ∧ s.hopLive f (hopOf l) = true)) := by
  obtain ⟨c, -, hc⟩ := List.exists_of_findSome?_eq_some h
  obtain ⟨hmem, b, hready⟩ := firstReady_spec s hc
  refine ⟨hmem, ?_⟩
  simp only [State.legReady, Bool.or_eq_true, Bool.and_eq_true, decide_eq_true_eq, beq_iff_eq] at hready
  rcases hready with h6 | ⟨⟨⟨⟨hlt, hlive⟩, -⟩, -⟩, -⟩
  · exact .inl h6
  · exact .inr ⟨hlt, hlive⟩

/-- An output of a waiting packet taken: the packet leaves with its last one, and its place in the buffer is free again. -/
def outputTaken (f : Nat) (e : InPkt) (l : Nat) : State :=
  let t := s.updRouter f (fun r => { r with inq := servedIn e l r.inq })
  if (e.legs.erase l).isEmpty then t.returnCredit f e.port e.pkt.cls else t

/-- A packet sent on a hop; one that is no ordinary output of the packet carries detour traffic. -/
def outputSent (f : Nat) (e : InPkt) (l : Nat) : State :=
  let t := s.sendHop f (hopOf l) e.pkt
  if !e.pkt.marker && !(t.plainLegs f e.pkt).contains l then t.updHop (hkey f (hopOf l)) (fun y => { y with detour := true }) else t

theorem serve_local (f : Nat) (e : InPkt) : s.serve f e 6 = (outputTaken s f e 6).deliver f e.pkt := rfl
theorem serve_hop {l : Nat} (h : l ≠ 6) (f : Nat) (e : InPkt) : s.serve f e l = outputSent (outputTaken s f e l) f e l := if_neg h

/-- An output taken changes the router's queue and a hop's credits alone. -/
theorem outputTaken_kept (f : Nat) (e : InPkt) (l : Nat) : Kept (maskOf [.routers, .hops]) s (outputTaken s f e l) :=
  .ite (kept_returnCredit (kept_updRouter (.refl _ s) (by decide)) (by decide)) (kept_updRouter (.refl _ s) (by decide))

/-- A packet sent on a hop changes that hop alone. -/
theorem outputSent_kept (f : Nat) (e : InPkt) (l : Nat) : Kept (maskOf [.hops, .sent]) s (outputSent s f e l) :=
  .ite (kept_updHop (kept_sendHop (.refl _ s) (by decide)) (by decide)) (kept_sendHop (.refl _ s) (by decide))

/-- What every output served keeps, moving packets keeps. -/
theorem pump_induct {P : State → Prop} (hserve : ∀ t f e l, t.nextServed f = some (e, l) → P t → P (t.serve f e l)) {t : State} (h : P t) :
    P t.pump := by
  have hone : ∀ t : State, P t → P t.pumpOne := fun t ht => by
    unfold State.pumpOne
    split
    · exact ht
    · next f e l hsome =>
      obtain ⟨r, -, hr⟩ := List.exists_of_findSome?_eq_some hsome
      obtain ⟨⟨e', l'⟩, hnext, heq⟩ := Option.map_eq_some_iff.mp hr
      cases heq
      exact hserve t _ e l hnext ht
  unfold State.pump State.each
  generalize List.range (2 * t.legsWaiting) = ns
  induction ns generalizing t with
  | nil => exact h
  | cons n ns ih => exact ih (hone t h)

/-- A packet delivered changes no hop, and what waits at each router stays ahead of what the delivery adds. -/
theorem deliver_hops (f : Nat) (p : Packet) : (s.deliver f p).hops = s.hops :=
  (kept_deliver (A := allBut .hops) (.refl _ s) (by decide)).parts .hops (by decide)

theorem enqueue_inq (f port : Nat) (p : Packet) (g : Nat) : (s.router g).inq <+: ((s.enqueue f port p).router g).inq := by
  unfold State.enqueue
  by_cases h : g = f
  · subst h; rw [router_updRouter_same]; exact List.prefix_append _ _
  · rw [router_updRouter_other s h]

theorem relay_inq (f : Nat) (p : Packet) (g : Nat) : (s.router g).inq <+: ((s.relay f p).router g).inq := by
  have hite : ∀ (c : Prop) [Decidable c] (q : Packet), (s.router g).inq <+: ((if c then s else s.enqueue f 6 q).router g).inq := fun c _ q => by
    split
    · exact List.prefix_refl _
    · exact enqueue_inq s f 6 q g
  unfold State.relay
  dsimp only
  split
  · exact hite _ _
  · split
    · exact hite _ _
    · split
      · exact hite _ _
      · exact hite _ _

theorem deliver_inq (f : Nat) (p : Packet) (g : Nat) : (s.router g).inq <+: ((s.deliver f p).router g).inq := by
  have hport : ∀ (t : State) (q : Nat), (t.deliverPort f p q).routers = t.routers := fun t q =>
    (kept_deliverPort (A := allBut .routers) (.refl _ t) (by decide)).parts .routers (by decide)
  unfold State.deliver
  dsimp only
  split
  · rw [router_congr s (each_keeps s State.routers hport _)]
  · split
    · rw [router_congr s (hport s _)]
    · split
      · exact relay_inq s f p g
      · rw [router_congr s (hport s _)]

/-! The copies of every hop while packets move. -/

/-- Each hop still has the packets of its copies, in their order. -/
def CopiesStay (s t : State) : Prop := ∀ k, ((s.hop k).copies.map (·.pkt)).Sublist ((t.hop k).copies.map (·.pkt))

theorem CopiesStay.refl : CopiesStay s s := fun _ => List.Sublist.refl _
theorem CopiesStay.trans {s t u : State} (h : CopiesStay s t) (h' : CopiesStay t u) : CopiesStay s u := fun k => (h k).trans (h' k)
theorem copiesStay_of_hops {s t : State} (h : t.hops = s.hops) : CopiesStay s t := fun k => by rw [hop_congr s h]

theorem copiesStay_updHop (k : Nat) {g : HopSt → HopSt} (hg : ∀ x : HopSt, (x.copies.map (·.pkt)).Sublist ((g x).copies.map (·.pkt))) :
    CopiesStay s (s.updHop k g) := fun j => by
  by_cases h : j = k
  · subst h; rw [hop_updHop_same]; exact hg _
  · rw [hop_updHop_other s h]

theorem copiesStay_returnCredit (f port c : Nat) : CopiesStay s (s.returnCredit f port c) := by
  unfold State.returnCredit
  split
  · exact .refl s
  · exact copiesStay_updHop s _ fun _ => List.Sublist.refl _

theorem copiesStay_sendHop (f : Nat) (h : Hop) (p : Packet) : CopiesStay s (s.sendHop f h p) := by
  unfold State.sendHop
  refine (copiesStay_updHop s (hkey f h) ?_).trans (copiesStay_of_hops (emit_hops _ _))
  exact fun x => start_pkts x p 0

theorem copiesStay_outputTaken (f : Nat) (e : InPkt) (l : Nat) : CopiesStay s (outputTaken s f e l) := by
  unfold outputTaken
  dsimp only
  split
  · exact (copiesStay_of_hops (updRouter_hops s f _)).trans (copiesStay_returnCredit _ _ _ _)
  · exact copiesStay_of_hops (updRouter_hops s f _)

theorem copiesStay_outputSent (f : Nat) (e : InPkt) (l : Nat) : CopiesStay s (outputSent s f e l) := by
  unfold outputSent
  dsimp only
  split
  · exact (copiesStay_sendHop s _ _ _).trans (copiesStay_updHop _ _ fun _ => List.Sublist.refl _)
  · exact copiesStay_sendHop s _ _ _

theorem copiesStay_serve (f : Nat) (e : InPkt) (l : Nat) : CopiesStay s (s.serve f e l) := by
  by_cases h : l = 6
  · subst h
    exact (copiesStay_outputTaken s f e 6).trans (copiesStay_of_hops (deliver_hops _ f e.pkt))
  · rw [serve_hop s h]
    exact (copiesStay_outputTaken s f e l).trans (copiesStay_outputSent _ f e l)

theorem copiesStay_pump : CopiesStay s s.pump :=
  pump_induct (fun t f e l _ h => h.trans (copiesStay_serve t f e l)) (.refl s)

/-! A hop that is dead: nothing more is sent on it, and what waits for it alone stays ahead at its router. -/

theorem hopOf_hopNo (h : Hop) : hopOf (hopNo h) = h := by cases h <;> rfl
theorem hopNo_hopOf : ∀ {n : Nat}, n < 6 → hopNo (hopOf n) = n
  | 0, _ | 1, _ | 2, _ | 3, _ | 4, _ | 5, _ => rfl
theorem hopNo_lt (h : Hop) : hopNo h < 6 := by cases h <;> decide
theorem hkey_inj {f g : Nat} {h i : Hop} (e : hkey f h = hkey g i) : f = g ∧ h = i := by
  have hh := hopNo_lt h
  have hi := hopNo_lt i
  unfold hkey at e
  exact ⟨by omega, by rw [← hopOf_hopNo h, ← hopOf_hopNo i, show hopNo h = hopNo i by omega]⟩

/-- What a router knows a waiting packet by here: the packet and its outputs. -/
def waitsFor (e : InPkt) : Packet × List Nat := (e.pkt, e.legs)

/-- The hop is dead and without copies, and the packets of `l` wait for it alone, ahead at its router. -/
structure DeadHeld (f : Nat) (h : Hop) (l : List (Packet × List Nat)) (s : State) : Prop where
  dead : (s.hop (hkey f h)).dead = true
  copies : (s.hop (hkey f h)).copies = []
  ahead : l <+: (s.router f).inq.map waitsFor
  alone : ∀ e ∈ l, e.2 = [hopNo h]

variable {s} {f : Nat} {h : Hop} {l : List (Packet × List Nat)}

theorem DeadHeld.of_hops {t : State} (d : DeadHeld f h l s) (hh : t.hops = s.hops)
    (hr : ((s.router f).inq.map waitsFor) <+: ((t.router f).inq.map waitsFor)) : DeadHeld f h l t :=
  ⟨by rw [hop_congr s hh]; exact d.dead, by rw [hop_congr s hh]; exact d.copies, d.ahead.trans hr, d.alone⟩

theorem DeadHeld.emit (d : DeadHeld f h l s) (o : Out) : DeadHeld f h l (s.emit o) := d.of_hops rfl (List.prefix_refl _)

theorem DeadHeld.of_kept {A : Nat} {t : State} (d : DeadHeld f h l s) (k : Kept A s t) (hh : A.testBit Part.hops.bit = false)
    (hr : A.testBit Part.routers.bit = false) : DeadHeld f h l t :=
  d.of_hops (k.parts .hops hh) (by rw [router_congr s (k.parts .routers hr)])

theorem DeadHeld.updHop_same {g : HopSt → HopSt} (d : DeadHeld f h l s) (k : Nat) (hdead : ∀ x, (g x).dead = x.dead)
    (hcop : ∀ x, (g x).copies = x.copies) : DeadHeld f h l (s.updHop k g) := by
  by_cases hk : hkey f h = k
  · subst hk
    exact ⟨by rw [hop_updHop_same, hdead]; exact d.dead, by rw [hop_updHop_same, hcop]; exact d.copies, d.ahead, d.alone⟩
  · exact ⟨by rw [hop_updHop_other s hk]; exact d.dead, by rw [hop_updHop_other s hk]; exact d.copies, d.ahead, d.alone⟩

theorem DeadHeld.updHop_other {g : HopSt → HopSt} (d : DeadHeld f h l s) {k : Nat} (hk : hkey f h ≠ k) : DeadHeld f h l (s.updHop k g) :=
  ⟨by rw [hop_updHop_other s hk]; exact d.dead, by rw [hop_updHop_other s hk]; exact d.copies, d.ahead, d.alone⟩

/-- A packet served leaves those ahead of it that are not it. -/
theorem servedIn_ahead {e : InPkt} {n : Nat} {l : List (Packet × List Nat)} {q : List InPkt} (hne : ∀ x ∈ l, x ≠ waitsFor e)
    (hq : l <+: q.map waitsFor) : l <+: (servedIn e n q).map waitsFor := by
  induction q generalizing l with
  | nil => exact hq
  | cons x q ih =>
    cases l with
    | nil => exact List.nil_prefix
    | cons y l =>
      rw [List.map_cons, List.cons_prefix_cons] at hq
      obtain ⟨rfl, hq⟩ := hq
      have hx : x ≠ e := fun he => hne _ List.mem_cons_self (by rw [he])
      rw [servedIn, if_neg hx, List.map_cons, List.cons_prefix_cons]
      exact ⟨rfl, ih (fun z hz => hne z (List.mem_cons_of_mem _ hz)) hq⟩

/-- An output that can be served is not the dead hop's. -/
theorem DeadHeld.not_served (d : DeadHeld f h l s) {e : InPkt} {n : Nat} (hs : s.nextServed f = some (e, n)) : n ≠ hopNo h := by
  rintro rfl
  rcases (nextServed_spec s hs).2 with h6 | ⟨-, hlive⟩
  · exact absurd h6 (Nat.ne_of_lt (hopNo_lt h))
  · rw [hopOf_hopNo] at hlive
    simp [State.hopLive, d.dead] at hlive

theorem DeadHeld.returnCredit (d : DeadHeld f h l s) (g port c : Nat) : DeadHeld f h l (s.returnCredit g port c) := by
  unfold State.returnCredit
  split
  · exact d
  · exact d.updHop_same _ (fun _ => rfl) (fun _ => rfl)

theorem DeadHeld.outputTaken (d : DeadHeld f h l s) {g : Nat} {e : InPkt} {n : Nat} (hs : s.nextServed g = some (e, n)) :
    DeadHeld f h l (outputTaken s g e n) := by
  have htaken : DeadHeld f h l (s.updRouter g (fun r => { r with inq := servedIn e n r.inq })) := by
    by_cases hg : f = g
    · subst hg
      have hne : ∀ x ∈ l, x ≠ waitsFor e := fun x hx he => by
        have hlegs : n ∈ x.2 := by rw [he]; exact (nextServed_spec s hs).1
        rw [d.alone x hx, List.mem_singleton] at hlegs
        exact d.not_served hs hlegs
      refine ⟨d.dead, d.copies, ?_, d.alone⟩
      rw [router_updRouter_same]
      exact servedIn_ahead hne d.ahead
    · exact d.of_hops rfl (by rw [router_updRouter_other s hg])
  unfold Machine.outputTaken
  dsimp only
  split
  · exact htaken.returnCredit _ _ _
  · exact htaken

theorem DeadHeld.outputSent (d : DeadHeld f h l s) {g n : Nat} (hk : hkey f h ≠ hkey g (hopOf n)) (e : InPkt) :
    DeadHeld f h l (outputSent s g e n) := by
  have hsent : DeadHeld f h l (s.sendHop g (hopOf n) e.pkt) := (d.updHop_other hk).emit _
  unfold Machine.outputSent
  dsimp only
  split
  · exact hsent.updHop_other hk
  · exact hsent

theorem DeadHeld.serve (d : DeadHeld f h l s) {g : Nat} {e : InPkt} {n : Nat} (hs : s.nextServed g = some (e, n)) :
    DeadHeld f h l (s.serve g e n) := by
  have ht := d.outputTaken hs
  by_cases h6 : n = 6
  · subst h6
    exact ht.of_hops (deliver_hops _ g e.pkt) ((deliver_inq _ g e.pkt f).map _)
  · have hhop : hkey f h ≠ hkey g (hopOf n) := fun hk => by
      obtain ⟨rfl, rfl⟩ := hkey_inj hk
      rcases (nextServed_spec s hs).2 with h6' | ⟨hlt, -⟩
      · exact h6 h6'
      · exact d.not_served hs (hopNo_hopOf hlt).symm
    rw [serve_hop s h6]
    exact ht.outputSent hhop e

theorem DeadHeld.pump (d : DeadHeld f h l s) : DeadHeld f h l s.pump := pump_induct (fun _ _ _ _ hs ht => ht.serve hs) d

/-! A hop's check results. -/

/-- The hop once the packet that it carried first is acknowledged whole. -/
def firstCarried (c : Copy) (x : HopSt) : HopSt := { HopSt.carry (c.pkt.transfers.length - c.done) x with copies := x.copies.drop 1 }

theorem firstCarried_copies {c : Copy} {rest : List Copy} {x : HopSt} (h : x.copies = c :: rest) : (firstCarried c x).copies = rest := by
  show x.copies.drop 1 = rest
  rw [h, List.drop_one, List.tail_cons]

/-- The copies of a hop that is declared dead, as they wait at its router for the tables. -/
def waitBack (s : State) (f : Nat) (h : Hop) : List InPkt :=
  ((s.hop (hkey f h)).copies.filter (fun c => !c.pkt.marker)).map (fun c => ⟨7, c.pkt, [hopNo h], (s.legsOf f 6 c.pkt).erase (hopNo h)⟩)

theorem waitBack_waitsFor : (waitBack s f h).map waitsFor =
    ((s.hop (hkey f h)).copies.filter (fun c => !c.pkt.marker)).map (fun c => (c.pkt, [hopNo h])) := by
  unfold waitBack
  rw [List.map_map]
  rfl

theorem hopResult_clamped (hc : s.hopClamped f h = true) (ok : Bool) : s.hopResult f h ok = s := if_pos hc

theorem hopResult_good {c : Copy} {rest : List Copy} (hc : s.hopClamped f h = false) (hx : (s.hop (hkey f h)).copies = c :: rest) :
    s.hopResult f h true = (s.updHop (hkey f h) (firstCarried c)).pump := by
  unfold State.hopResult
  dsimp only
  rw [if_neg (by rw [hc]; decide), hx]
  rfl

theorem hopResult_retry {c : Copy} {rest : List Copy} (hc : s.hopClamped f h = false) (hx : (s.hop (hkey f h)).copies = c :: rest)
    (hf : c.fails < 3) : s.hopResult f h false =
      ((s.updHop (hkey f h) (fun x => (firstCarried c x).start c.pkt (c.fails + 1))).count (uRTR f) STR_RETRY_COUNT 1 (hopNo h)).emit
        (.hop f h c.pkt.head c.pkt.payload) := by
  unfold State.hopResult
  dsimp only
  rw [if_neg (by rw [hc]; decide), hx]
  dsimp only
  rw [if_neg (by decide), if_pos hf]
  rfl

theorem hopResult_dead {c : Copy} {rest : List Copy} (hc : s.hopClamped f h = false) (hx : (s.hop (hkey f h)).copies = c :: rest)
    (hf : 3 ≤ c.fails) : s.hopResult f h false = s.hopDead f h 0 c.fails := by
  unfold State.hopResult
  dsimp only
  rw [if_neg (by rw [hc]; decide), hx]
  dsimp only
  rw [if_neg (by decide), if_neg (by omega)]

/-- The hop taken out of the map, its copies gone from it and put ahead of what else waits at its router. -/
def hopCut (s : State) (f : Nat) (h : Hop) (more : List InPkt → List InPkt) : State :=
  (s.updHop (hkey f h) (fun x => { x with dead := true, copies := [], detour := false })).updRouter f
    (fun r => { r with inq := waitBack s f h ++ more r.inq })

theorem hopCut_held (more : List InPkt → List InPkt) : DeadHeld f h ((waitBack s f h).map waitsFor) (hopCut s f h more) := by
  unfold hopCut
  refine ⟨?_, ?_, ?_, ?_⟩
  · rw [hop_congr _ (updRouter_hops _ _ _), hop_updHop_same]
  · rw [hop_congr _ (updRouter_hops _ _ _), hop_updHop_same]
  · rw [router_updRouter_same, List.map_append]
    exact List.prefix_append _ _
  · rw [waitBack_waitsFor]
    intro e he
    obtain ⟨c, -, rfl⟩ := List.mem_map.mp he
    rfl

theorem hopDead_live (hd : (s.hop (hkey f h)).dead = false) (cause fails : Nat) :
    ∃ more, s.hopDead f h cause fails =
      ((((hopCut s f h more).count uSTR STR_DEAD_COUNT).raise 0xC001 (puRtr f) (hopNo h) cause fails).findPartition).pump := by
  unfold State.hopDead
  dsimp only
  rw [if_neg (by rw [hd]; decide)]
  simp only [List.append_assoc]
  exact ⟨fun q => q.filter (fun e => !(e.pkt.marker && e.legs.contains (hopNo h))) ++ _, rfl⟩

/-- A live hop declared dead: its copies wait ahead at its router, and 0xC001 is raised. -/
theorem hopDead_held (hd : (s.hop (hkey f h)).dead = false) (cause fails : Nat) :
    DeadHeld f h ((waitBack s f h).map waitsFor) (s.hopDead f h cause fails) ∧
    raised s (s.hopDead f h cause fails) 0xC001 (puRtr f) (hopNo h) cause fails := by
  obtain ⟨more, heq⟩ := hopDead_live hd cause fails
  rw [heq]
  constructor
  · exact ((hopCut_held more).of_kept (kept_findPartition (kept_raise (kept_count (.refl _ _) (by decide)) (by decide)) (by decide))
      (A := maskOf [.ecnt, .rcnt, .regs, .transit, .cutoff, .voids]) (by decide) (by decide)).pump
  · have hcut : Kept (maskOf [.hops, .routers, .ecnt, .rcnt]) s ((hopCut s f h more).count uSTR STR_DEAD_COUNT) :=
      kept_count (kept_updRouter (kept_updHop (.refl _ s) (by decide)) (by decide)) (by decide)
    have hpump : Kept (allBut .transit) (((hopCut s f h more).count uSTR STR_DEAD_COUNT).raise 0xC001 (puRtr f) (hopNo h) cause fails) _ :=
      kept_pump (kept_findPartition (.refl _ _) (by decide)) (by decide)
    exact (hpump.parts .transit (by decide)).trans (hcut.raised (by decide) (by decide) (by decide) 0xC001 (puRtr f) (hopNo h) cause fails)

/-- Settles O2, by what becomes of the copy of the packet that a hop carried first. -/
theorem hopRetry : Obligations.HopRetry := by
  unfold Obligations.HopRetry
  intro f h s
  have hdies : ∀ cause fails, (s.hop (hkey f.val h)).dead = false →
      let t := s.hopDead f.val h cause fails
      (t.hop (hkey f.val h)).dead = true ∧ (t.hop (hkey f.val h)).copies = [] ∧
      raised s t 0xC001 (puRtr f.val) (hopNo h) cause fails ∧
      (((s.hop (hkey f.val h)).copies.filter (fun c => !c.pkt.marker)).map (fun c => (c.pkt, [hopNo h]))) <+:
        ((t.router f.val).inq.map (fun e => (e.pkt, e.legs))) := fun cause fails hd => by
    obtain ⟨hheld, hraised⟩ := hopDead_held hd cause fails
    exact ⟨hheld.dead, hheld.copies, hraised, waitBack_waitsFor ▸ hheld.ahead⟩
  refine ⟨fun hc ok => ⟨_, rfl, hopResult_clamped hc ok⟩, fun hc c rest hx => ⟨?good, ?retry, ?third⟩, fun hd => ⟨_, rfl, hdies 1 _ hd⟩⟩
  case good =>
    refine runs_of_exec rfl (hopResult_good hc hx) ?_
    have hstay := copiesStay_pump (s.updHop (hkey f.val h) (firstCarried c)) (hkey f.val h)
    rwa [hop_updHop_same, firstCarried_copies hx] at hstay
  case retry =>
    intro hf
    refine runs_of_exec rfl (hopResult_retry hc hx hf) ?_
    have hhop : (((s.updHop (hkey f.val h) (fun x => (firstCarried c x).start c.pkt (c.fails + 1))).count (uRTR f.val) STR_RETRY_COUNT 1
        (hopNo h)).emit (.hop f.val h c.pkt.head c.pkt.payload)).hop (hkey f.val h) =
        (firstCarried c (s.hop (hkey f.val h))).start c.pkt (c.fails + 1) :=
      (hop_congr _ ((emit_hops _ _).trans (count_hops _ _ _ _ _)) _).trans (hop_updHop_same s (hkey f.val h) _)
    rw [hhop]
    refine ⟨rfl, ⟨_, mem_start _ _ _, rfl, rfl⟩, ?_, ?_⟩
    · have hrest := start_pkts (firstCarried c (s.hop (hkey f.val h))) c.pkt (c.fails + 1)
      rwa [firstCarried_copies hx] at hrest
    · exact cnt_count_epoch _ (by decide)
  case third => exact fun hf hd => runs_of_exec rfl (hopResult_dead hc hx hf) (hdies 0 _ hd)

end Sys2Proof.Machine
end

section
/-! Detour tables: what is made of the live-hop map, and what a router's tables are while packets move (R38-R40). -/
namespace Sys2Proof.Machine
open Sys2Proof Host Sys2Proof.Claims
variable (s : State)

/-! Packets that move leave every router its tables. -/
theorem table_updRouter (f g : Nat) {r : RouterSt → RouterSt} (hr : ∀ x, (r x).table = x.table) :
    ((s.updRouter f r).router g).table = (s.router g).table := by
  by_cases h : g = f
  · subst h; rw [router_updRouter_same, hr]
  · rw [router_updRouter_other s h]

theorem table_congr {s t : State} (h : t.routers = s.routers) (g : Nat) : (t.router g).table = (s.router g).table := by rw [router_congr s h]

theorem enqueue_table (f port : Nat) (p : Packet) (g : Nat) : ((s.enqueue f port p).router g).table = (s.router g).table :=
  table_updRouter s f g fun _ => rfl

theorem relay_table (f : Nat) (p : Packet) (g : Nat) : ((s.relay f p).router g).table = (s.router g).table := by
  have hite : ∀ (c : Prop) [Decidable c] (q : Packet), ((if c then s else s.enqueue f 6 q).router g).table = (s.router g).table := fun c _ q => by
    split
    · rfl
    · exact enqueue_table s f 6 q g
  unfold State.relay
  dsimp only
  split
  · exact hite _ _
  · split
    · exact hite _ _
    · split
      · exact hite _ _
      · exact hite _ _

theorem deliver_table (f : Nat) (p : Packet) (g : Nat) : ((s.deliver f p).router g).table = (s.router g).table := by
  have hport : ∀ (t : State) (q : Nat), (t.deliverPort f p q).routers = t.routers := fun t q =>
    (kept_deliverPort (A := allBut .routers) (.refl _ t) (by decide)).parts .routers (by decide)
  unfold State.deliver
  dsimp only
  split
  · exact table_congr (each_keeps s State.routers hport _) g
  · split
    · exact table_congr (hport s _) g
    · split
      · exact relay_table s f p g
      · exact table_congr (hport s _) g

theorem returnCredit_routers (f port c : Nat) : (s.returnCredit f port c).routers = s.routers :=
  (kept_returnCredit (A := allBut .routers) (.refl _ s) (by decide)).parts .routers (by decide)

theorem outputTaken_table (f : Nat) (e : InPkt) (l g : Nat) : ((outputTaken s f e l).router g).table = (s.router g).table := by
  refine Eq.trans ?_ (table_updRouter s f g (r := fun r => { r with inq := servedIn e l r.inq }) fun _ => rfl)
  unfold outputTaken
  dsimp only
  split
  · exact table_congr (returnCredit_routers _ _ _ _) g
  · rfl

theorem serve_table (f : Nat) (e : InPkt) (l g : Nat) : ((s.serve f e l).router g).table = (s.router g).table := by
  refine Eq.trans ?_ (outputTaken_table s f e l g)
  by_cases h : l = 6
  · subst h
    exact deliver_table _ f e.pkt g
  · rw [serve_hop s h]
    exact table_congr ((outputSent_kept _ f e l).parts .routers (by decide)) g

theorem pump_table (g : Nat) : (s.pump.router g).table = (s.router g).table :=
  pump_induct (P := fun t => (t.router g).table = (s.router g).table) (fun t f e l _ h => (serve_table t f e l g).trans h) rfl

/-! Tables made and taken. -/

/-- The tables of the live-hop map, due at every router. -/
def tablesMade : State := { s with tablesDue := List.range Config.host.fields, tree := some s.makeTables }

theorem detourTablesWrite_raised (us : Nat) :
    raised s (detourTablesWrite s us) 0xC002 s.puActive s.deadHops.length Config.host.fields us :=
  Kept.raised (A := maskOf [.tablesDue, .tree, .cutoff, .voids]) (u := (tablesMade s).findPartition)
    (kept_findPartition (Kept.u_tablesDue_tree (.refl _ s) (by decide)) (by decide)) (by decide) (by decide) (by decide) 0xC002 s.puActive
    s.deadHops.length Config.host.fields us

/-- A router with its new tables, waited for no longer. -/
def tablesPut (f : Nat) : State := { s.updRouter f (fun r => { r with table := s.tree }) with tablesDue := s.tablesDue.erase f }

/-- Its hops free of detour traffic. -/
def tablesTaken (f : Nat) : State := (tablesPut s f).each (List.range 6) (fun s h => s.updHop (8 * f + h) (fun x => { x with detour := false }))

theorem tablesTaken_table (f : Nat) : ((tablesTaken s f).router f).table = s.tree := by
  unfold tablesTaken
  rw [table_congr (each_keeps (tablesPut s f) State.routers (fun t h => updHop_routers t _ _) _)]
  exact congrArg RouterSt.table (router_updRouter_same s f (fun r => { r with table := s.tree }))

/-- What waited at a router goes on, by outputs that the new tables give it. -/
def tablesFollowed (f : Nat) (l : List InPkt) (t : State) : State :=
  State.pump ((t.updRouter f (fun r => { r with inq := l.filter (fun e => !e.legs.isEmpty) })).each (l.filter (fun e => e.legs.isEmpty))
    (fun s e => s.returnCredit f e.port e.pkt.cls))

theorem tablesFollowed_table (f : Nat) (l : List InPkt) (t : State) : ((tablesFollowed f l t).router f).table = (t.router f).table := by
  unfold tablesFollowed
  rw [pump_table, table_congr (each_keeps _ State.routers (fun u e => returnCredit_routers u _ _ _) _)]
  exact table_updRouter t f f fun _ => rfl

theorem detourTableArrive_due {f : Nat} (h : s.tablesDue.contains f = true) :
    ∃ l, detourTableArrive s f = tablesFollowed f l (tablesTaken s f) := by
  unfold detourTableArrive
  rw [if_neg (by rw [h]; decide)]
  exact ⟨_, rfl⟩

theorem tablesFollowed_kept (f : Nat) (l : List InPkt) :
    Kept (maskOf [.routers, .hops, .sent, .clocks, .pair, .halls]) (tablesPut s f) (tablesFollowed f l (tablesTaken s f)) :=
  kept_pump (kept_each (kept_updRouter (kept_each (.refl _ _) fun _ _ k => kept_updHop k (by decide)) (by decide))
    fun _ _ k => kept_returnCredit k (by decide)) (by decide)

/-- Settles O3: the tables made are due everywhere, and a router takes those that it waits for. -/
theorem detourTables : Obligations.DetourTables := by
  unfold Obligations.DetourTables
  intro s
  refine ⟨fun us => ⟨_, rfl, rfl, rfl, detourTablesWrite_raised s us⟩, fun f => ⟨fun hdue => ?_, fun hnot => ⟨_, rfl, ?_⟩⟩⟩
  · obtain ⟨l, heq⟩ := detourTableArrive_due s hdue
    have k := tablesFollowed_kept s f.val l
    refine runs_of_exec rfl heq ⟨k.parts .tablesDue (by decide), ?_, k.parts .transit (by decide)⟩
    rw [tablesFollowed_table, tablesTaken_table]
  · exact if_pos (by rw [hnot]; rfl)

end Sys2Proof.Machine
end

section
/-! Matched delays, beats and echoes (R44, R45, R51-R56). -/
namespace Sys2Proof.Machine
open Sys2Proof Host Sys2Proof.Claims
variable (s : State)

/-- A beat counted and told in TMB_STAT, before it is sent. -/
def beatNoted : State := ((s.count uTMB TMB_BEAT_SEQ_SEQ).flag uTMB TMB_STAT_BEAT_ON true).flag uTMB TMB_STAT_SOURCE (s.active == .b)

/-- The beat of the active Brewhouse: its wall time, and a path delay of zero. -/
def beatPacket : Packet :=
  ⟨mkHead 0 2 0 0 (Config.host.brewField s.active) 18 2 (s.brew s.active).reign (Config.imageVal 0x51 0), [BitVec.ofNat 64 (s.brewTime s.active), 0]⟩

theorem beatNoted_kept : Kept (maskOf [.regs, .ecnt, .rcnt]) s (beatNoted s) :=
  kept_flag (kept_flag (kept_count (.refl _ s) (by decide)) (by decide)) (by decide)

/-- A Brewhouse's wall time rests on the time base, its clock and the clocks lost alone. -/
theorem brewTime_kept {A : Nat} {s t : State} (k : Kept A s t) (hw : A.testBit Part.wall.bit = false) (hc : A.testBit Part.clocks.bit = false)
    (hr : A.testBit Part.refLost.bit = false) (w : Bh) : t.brewTime w = s.brewTime w := by
  have htime : ∀ r, t.timeIn r = s.timeIn r := fun r => by
    have hlost : t.refLost = s.refLost := k.parts .refLost hr
    unfold State.timeIn
    rw [hlost, now_of_wall s (k.parts .wall hw)]
  unfold State.brewTime State.localTime
  simp only [htime, clock_congr s (k.parts .clocks hc)]

theorem timeBeatEmit_beats {s : State} (hal : s.bhAlive s.active = true) (hclk : (Tab.find (bhRegion s.active) s.refLost).isSome = false) :
    timeBeatEmit s = (beatNoted s).draw.routePacket (Config.host.brewField s.active) (addDelay (beatPacket s) (Config.openVal s.fresh)) := by
  unfold timeBeatEmit
  dsimp only
  rw [if_neg (by rw [hal, hclk]; decide)]
  show (beatNoted s).draw.routePacket _ (addDelay ⟨_, [BitVec.ofNat 64 ((beatNoted s).brewTime s.active), 0]⟩ _) = _
  rw [brewTime_kept (beatNoted_kept s) (by decide) (by decide) (by decide)]
  rfl

theorem timeBeatEmit_silent {s : State} (h : s.bhAlive s.active = false ∨ (Tab.find (bhRegion s.active) s.refLost).isSome = true) :
    timeBeatEmit s = s := by
  refine if_pos ?_
  rcases h with h | h <;> rw [h] <;> simp

/-- While the active Brewhouse emits beats, TMB_STAT says so. -/
theorem beatNoted_on : (beatNoted s).isSet uTMB TMB_STAT_BEAT_ON = true := by
  unfold State.isSet beatNoted
  rw [rd_flag_apart _ (by decide), rd_flag_same]
  rfl

theorem routePacket_regs (f : Nat) (p : Packet) : (s.routePacket f p).regs = s.regs :=
  (kept_routePacket (A := allBut .regs) (.refl _ s) (by decide)).parts .regs (by decide)

/-- The clock that a beat makes of a unit's clock: no correction without REFCLK. -/
def beatClock (u : Node) (beat delay reign : Nat) : ClockSt :=
  (s.clock (nodeUnit u)).beat (s.timeIn (nodeRegion u)) s.now
    (if (Tab.find (nodeRegion u) s.refLost).isSome then 0 else s.beatSkew u beat delay) reign

/-- A unit's clock after a beat is the clock that the beat makes, whatever else its Hall samples. -/
theorem beatReceive_clock (u : Node) (beat delay reign cyc : Nat) :
    (beatReceive s u beat delay reign cyc).clock (nodeUnit u) = beatClock s u beat delay reign := by
  have hcounted : ∀ (t : State) (c : Prop) [Decidable c], Kept (allBut .clocks) t (if c then t.count uTMB TMB_STAT_MISALIGNED else t) :=
    fun t c _ => .ite (kept_count (.refl _ t) (by decide)) (.refl _ t)
  refine (clock_congr (s.updClock (nodeUnit u) (fun _ => beatClock s u beat delay reign)) (Kept.parts (A := allBut .clocks) ?_ .clocks (by decide)) _).trans (clock_updClock_same s _ _)
  unfold beatReceive
  dsimp only
  split
  · exact kept_each (kept_updHall (kept_wr (hcounted _ _) (by decide)) (by decide)) fun _ _ k => kept_updSeg k (by decide)
  · exact hcounted _ _

/-- Settles O4, clause by clause: matched delays, a beat sent and one not, an echo, a beat heard and one missed. -/
theorem timeBeats : Obligations.TimeBeats := by
  unfold Obligations.TimeBeats
  intro s
  refine ⟨fun u => ⟨?longer, ?shorter⟩, ?beat, ?silent, fun f h d => ⟨?echo, ?clamped⟩, ?heard, ?missed⟩
  case longer => exact fun h => runs_of_exec rfl (if_pos h) (delay_updDelay_same s _ _)
  case shorter => exact fun h => runs_of_exec rfl (if_pos h) (delay_updDelay_same s _ _)
  case beat =>
    intro hal hclk
    refine runs_of_exec rfl (timeBeatEmit_beats hal hclk) ⟨?_, (beatNoted s).draw, rfl, rfl, rfl, rfl, rfl⟩
    exact (congrArg (· != 0) (rd_congr _ (routePacket_regs _ _ _) uTMB TMB_STAT_BEAT_ON 0)).trans (beatNoted_on s)
  case silent => exact fun h => ⟨_, rfl, timeBeatEmit_silent h⟩
  case echo =>
    exact fun hc => runs_of_exec rfl (if_neg (by rw [hc]; decide)) (congrArg HopSt.delay (hop_updHop_same s (hkey f.val h) _))
  case clamped => exact fun hc => ⟨_, rfl, if_pos hc⟩
  case heard =>
    intro u beat d reign cyc
    refine ⟨_, rfl, ?_⟩
    dsimp only
    rw [beatReceive_clock]
    exact ⟨rfl, rfl, rfl⟩
  case missed => exact fun u hm => ⟨_, rfl, raiseOnce_transit s hm⟩

end Sys2Proof.Machine
end

section
/-! Packets that move show the Brewhouses reigns; heartbeats, polls and the hold of FAILSAFE_N (R60-R72). -/
namespace Sys2Proof.Machine
open Sys2Proof Host Sys2Proof.Claims
variable (s : State)

/-! The pair while packets move. -/
theorem seenOnly_serve (f : Nat) (e : InPkt) (l : Nat) : SeenOnly s (s.serve f e l) := by
  refine (SeenOnly.of_kept (outputTaken_kept s f e l) (by decide)).trans ?_
  by_cases h : l = 6
  · subst h
    exact seenOnly_deliver _ f e.pkt
  · rw [serve_hop s h]
    exact .of_kept (outputSent_kept _ f e l) (by decide)

theorem seenOnly_pump : SeenOnly s s.pump := pump_induct (fun t f e l _ h => h.trans (seenOnly_serve t f e l)) (.refl s)

theorem seenOnly_routePacket (f : Nat) (p : Packet) : SeenOnly s (s.routePacket f p) :=
  (SeenOnly.of_kept (kept_enqueue (A := allBut .pair) (.refl _ s) (by decide)) (by decide)).trans (seenOnly_pump _)

theorem seenOnly_sendHeartbeat (w : Bh) (path : HbPath) : SeenOnly s (s.sendHeartbeat w path) := by
  unfold State.sendHeartbeat
  cases path with
  | column => exact seenOnly_routePacket s _ _
  | relay => exact seenOnly_routePacket s _ _
  | mesh => exact .of_pair rfl

/-- A mirror's packets sent from the active Brewhouse's field to the standby's. -/
def mirrorPackets : State :=
  let l := mirrorFlits (s.mirrorImage (s.rd uBRW BRW_CUT_EPOCH_DONE))
  s.each (flitGroups l.length l) (fun t g => t.unicast 5 (Config.host.brewField s.active) 18 (Config.host.brewField s.standby) 18
    (s.brew s.active).reign (Config.imageVal 0x57 0 % 255 + 1) 0 g)

/-- A mirror under way to the standby. -/
def mirrorUnderWay (e : Nat) : State := { s with pair := { s.pair with mirrorSent := some e } }

theorem mirrorUnderWay_brew (e : Nat) (w : Bh) : (mirrorUnderWay s e).brew w = s.brew w := by cases w <;> rfl

theorem sendMirror_alive {s : State} (h : s.bhAlive s.standby = true) :
    s.sendMirror = mirrorUnderWay (mirrorPackets s) (s.rd uBRW BRW_CUT_EPOCH_DONE) := if_pos h
theorem sendMirror_alone {s : State} (h : s.bhAlive s.standby = false) : s.sendMirror = s := if_neg (by rw [h]; decide)

theorem seenOnly_mirrorPackets : SeenOnly s (mirrorPackets s) := .each s (fun t _ => seenOnly_routePacket t _ _) _

/-- A mirror sent changes nothing of a Brewhouse but the reign that it has seen. -/
theorem sendMirror_brew (w : Bh) : ∃ n, s.sendMirror.brew w = { s.brew w with seen := n } := by
  cases h : s.bhAlive s.standby with
  | false => exact ⟨_, by rw [sendMirror_alone h]⟩
  | true =>
    obtain ⟨n, hn⟩ := (seenOnly_mirrorPackets s).brew w
    rw [sendMirror_alive h]
    exact ⟨n, (mirrorUnderWay_brew _ _ w).trans hn⟩

/-! A heartbeat received. -/

/-- The pair once a heartbeat is noted at its hearer. -/
def heartbeatNoted (w : Bh) (path : HbPath) : State :=
  (reignStepDown s w (s.brew (otherBh w)).reign).updBrew w
    (fun x => { x with lastHb := (reignStepDown s w (s.brew (otherBh w)).reign).now, got := x.got.map (·.set (pathNo path) true), poll := none })

/-- What a heartbeat received answers or sends changes nothing of its hearer but the reign that it has seen. -/
theorem heartbeatReceive_brew {s : State} {w : Bh} (h : s.bhAlive w = true) (path : HbPath) :
    ∃ n, (heartbeatReceive s w path).brew w = { (heartbeatNoted s w path).brew w with seen := n } := by
  unfold heartbeatReceive
  rw [if_neg (by rw [h]; decide)]
  show ∃ n, (State.brew (if w = (heartbeatNoted s w path).active then _ else (heartbeatNoted s w path).sendHeartbeat w path) w) = _
  split
  · dsimp only
    have hset : ∀ t : State, (t.flag uBRW BRW_ROLE_STANDBY_OK true).brew w = t.brew w := fun t => brew_congr rfl w
    split
    · obtain ⟨n, hn⟩ := sendMirror_brew ((heartbeatNoted s w path).flag uBRW BRW_ROLE_STANDBY_OK true) w
      exact ⟨n, by rw [hset] at hn; exact hn⟩
    · exact ⟨_, hset _⟩
  · exact (seenOnly_sendHeartbeat _ w path).brew w

/-- A reign no higher than its own is only noted by a Brewhouse. -/
theorem reignStepDown_noted {s : State} {w : Bh} {n : Nat} (h : n ≤ (s.brew w).reign) :
    reignStepDown s w n = s.updBrew w (fun x => { x with seen := max x.seen n }) := by
  unfold reignStepDown
  dsimp only
  rw [brew_updBrew_same]
  exact if_pos h

theorem loadMirror_pair : s.loadMirror.pair = s.pair := (kept_loadMirror (A := allBut .pair) (.refl _ s) (by decide)).parts .pair (by decide)

/-- A Brewhouse that steps down follows the higher reign, without the answers of the reign before. -/
theorem stepDown_brew (w : Bh) (n : Nat) : (s.stepDown w n).brew w =
    { s.brew w with reign := n, seen := max (s.brew w).seen n, mirrored := false, poll := none, lastHb := s.now, got := none } := by
  refine Eq.trans ?_ (brew_updBrew_same s w (fun x => { x with
    reign := n, seen := max x.seen n, mirrored := false, poll := none, lastHb := s.now, got := none }))
  unfold State.stepDown
  dsimp only
  split
  · exact brew_congr (loadMirror_pair _) w
  · rfl

theorem reignStepDown_higher {s : State} {w : Bh} {n : Nat} (h : (s.brew w).reign < n) :
    reignStepDown s w n = ((s.updBrew w (fun x => { x with seen := max x.seen n })).stepDown w n).sendMirror := by
  unfold reignStepDown
  dsimp only
  rw [brew_updBrew_same]
  exact if_neg (by simpa using h)

theorem reignStepDown_higher_brew {s : State} {w : Bh} {n : Nat} (h : (s.brew w).reign < n) :
    ((reignStepDown s w n).brew w).got = none ∧ ((reignStepDown s w n).brew w).reign = n := by
  rw [reignStepDown_higher h]
  obtain ⟨k, hk⟩ := sendMirror_brew ((s.updBrew w (fun x => { x with seen := max x.seen n })).stepDown w n) w
  rw [hk, stepDown_brew]
  exact ⟨rfl, rfl⟩

theorem reignStepDown_now (w : Bh) (n : Nat) : (reignStepDown s w n).now = s.now :=
  now_of_wall s ((kept_reignStepDown (A := allBut .wall) (.refl _ s) (by decide)).parts .wall (by decide))

/-! Heartbeats sent. -/

/-- A path that has not answered since the last heartbeat is counted. -/
def missCounted (w : Bh) (got : Option (List Bool)) (i : Nat) (F : Fld) (s : State) : State :=
  if w = s.active ∧ (got.getD [true, true, true]).getD i false = false then s.count uBRW F else s

/-- The misses since the last heartbeat counted, on all three paths. -/
def missesCounted (w : Bh) : State :=
  missCounted w (s.brew w).got 2 BRW_HB_MISS_MESH (missCounted w (s.brew w).got 1 BRW_HB_MISS_STAIR2
    (missCounted w (s.brew w).got 0 BRW_HB_MISS_STAIR1 s))

/-- The paths' answers forgotten, as the next heartbeat leaves. -/
def awaited (w : Bh) : State := (missesCounted s w).updBrew w (fun x => { x with got := some [false, false, false] })

theorem heartbeatSend_alive {s : State} {w : Bh} (h : s.bhAlive w = true) :
    heartbeatSend s w = (((awaited s w).sendHeartbeat w .column).sendHeartbeat w .relay).sendHeartbeat w .mesh :=
  if_neg (by rw [h]; decide)

theorem missCounted_kept (w : Bh) (got : Option (List Bool)) (i : Nat) (F : Fld) {s0 s : State} (k : Kept (maskOf [.ecnt, .rcnt]) s0 s) :
    Kept (maskOf [.ecnt, .rcnt]) s0 (missCounted w got i F s) := .ite (kept_count k (by decide)) k

theorem missesCounted_kept (w : Bh) : Kept (maskOf [.ecnt, .rcnt]) s (missesCounted s w) :=
  missCounted_kept _ _ _ _ (missCounted_kept _ _ _ _ (missCounted_kept _ _ _ _ (.refl _ s)))

/-- Before the first heartbeat there is no miss to count. -/
theorem missesCounted_first {s : State} {w : Bh} (h : (s.brew w).got = none) : missesCounted s w = s := by
  have hnone : ∀ (t : State) (i : Nat) (F : Fld), i < 3 → missCounted w none i F t = t := fun t i F hi => by
    refine if_neg fun hm => ?_
    interval_cases i <;> exact Bool.noConfusion hm.2
  unfold missesCounted
  rw [h, hnone _ _ _ (by decide), hnone _ _ _ (by decide), hnone _ _ _ (by decide)]

theorem awaited_brew (w : Bh) : (awaited s w).brew w = { s.brew w with got := some [false, false, false] } := by
  unfold awaited
  rw [brew_updBrew_same, brew_congr ((missesCounted_kept s w).parts .pair (by decide))]

/-! Polls and the accesses that they hold. -/

/-- While the standby polls, the accesses that are held stay held. -/
theorem hostGo_polling {s : State} {l : List Nat} (h : (s.brew s.standby).poll = some l) : s.hostGo = s :=
  if_pos (by unfold State.takingOver; rw [h]; rfl)

/-- The standby polls, and these Halls have answered. -/
def polling (l : List Nat) : State := s.updBrew s.standby (fun w => { w with poll := some l })

theorem polling_standby (l : List Nat) : (polling s l).standby = s.standby := standby_congr (updBrew_regs s _ _)
theorem polling_poll (l : List Nat) : ((polling s l).brew s.standby).poll = some l := by unfold polling; rw [brew_updBrew_same]

theorem heartbeatSilence_polls {s : State} (hal : s.bhAlive s.standby = true) (hm : (s.brew s.standby).mirrored = true)
    (hpg : (s.hall (bhRegion s.active)).pg = true) (hlost : s.regionLost (bhRegion s.active) = false) :
    heartbeatSilence s = (polling s []).emits ((List.range Config.host.regions).map (fun r => .ask 0x61 (puBrw s.standby) (puHal r) 0)) := by
  have hmay : s.mayEnd = true := by unfold State.mayEnd State.mayTakeOver; rw [hal, hm]; rfl
  unfold heartbeatSilence
  dsimp only
  rw [if_neg (by rw [hmay]; decide), if_neg (by rw [hpg, hlost]; decide)]
  show (polling s []).emits (List.map (fun r => .ask 0x61 (puBrw (polling s []).standby) (puHal r) 0) _) = _
  rw [polling_standby]

theorem hallPollAnswer_counts {s : State} {r : Nat} {l : List Nat} (hp : (s.brew s.standby).poll = some l) (hr : l.contains r = false)
    (hl : l.length + 1 < majority) : hallPollAnswer s r true = polling s (l ++ [r]) := by
  unfold hallPollAnswer
  rw [hp]
  dsimp only
  rw [if_neg (by rw [hr]; decide), if_neg]
  · rfl
  · rw [decide_eq_false (by omega), Bool.false_and]; decide

/-- Settles O5, clause by clause: heartbeats heard and sent, polls, contact lost, and the hold of FAILSAFE_N. -/
theorem pairContact : Obligations.PairContact := by
  unfold Obligations.PairContact
  intro s
  refine ⟨?heard, ?sent, ?silence, ?answer, ⟨_, rfl, rfl⟩, ?contact, ?refresh, ⟨_, rfl, rfl⟩⟩
  case heard =>
    intro w p hal
    obtain ⟨n, hn⟩ := heartbeatReceive_brew hal p
    unfold heartbeatNoted at hn
    rw [brew_updBrew_same, reignStepDown_now] at hn
    refine ⟨_, rfl, _, rfl, by rw [hn], by rw [hn], fun hle => ?_, fun hlt => ?_⟩
    · rw [reignStepDown_noted hle, brew_updBrew_same] at hn
      rw [hn]
      exact ⟨rfl, rfl⟩
    · obtain ⟨hgot, hreign⟩ := reignStepDown_higher_brew hlt
      rw [hn]
      exact ⟨by rw [hgot]; rfl, hreign⟩
  case sent =>
    intro w hal
    refine runs_of_exec rfl (heartbeatSend_alive hal) ?_
    have hway : SeenOnly (awaited s w) (((awaited s w).sendHeartbeat w .column).sendHeartbeat w .relay) :=
      (seenOnly_sendHeartbeat _ w .column).trans (seenOnly_sendHeartbeat _ w .relay)
    refine ⟨?_, ?_, fun hnone => ?_⟩
    · rw [(hway.trans (seenOnly_sendHeartbeat _ w .mesh)).got, awaited_brew]
    · have hreign := hway.reign w
      rw [awaited_brew] at hreign
      exact hreign ▸ List.mem_cons_self
    · have k : Kept (maskOf [.pair, .sent, .routers, .hops, .clocks, .halls]) s
          ((((awaited s w).sendHeartbeat w .column).sendHeartbeat w .relay).sendHeartbeat w .mesh) := by
        unfold awaited
        rw [missesCounted_first hnone]
        exact kept_sendHeartbeat (kept_sendHeartbeat (kept_sendHeartbeat (kept_updBrew (.refl _ s) (by decide)) (by decide)) (by decide)) (by decide)
      exact ⟨k.parts .ecnt (by decide), k.parts .rcnt (by decide), k.parts .regs (by decide)⟩
  case silence =>
    intro hal hm hpg hlost
    refine runs_of_exec rfl ((congrArg State.hostGo (heartbeatSilence_polls hal hm hpg hlost)).trans (hostGo_polling (l := []) ?_)) ⟨?_, ?_⟩
    · exact (congrArg (fun w => ((polling s []).brew w).poll) (polling_standby s [])).trans (polling_poll s [])
    · exact polling_poll s []
    · exact congrArg (_ ++ ·) (updBrew_sent s _ _)
  case answer =>
    intro r l hp hr hl
    refine runs_of_exec rfl ((congrArg State.hostGo (hallPollAnswer_counts hp hr hl)).trans (hostGo_polling (l := l ++ [r.val]) ?_)) (polling_poll s _)
    rw [polling_standby, polling_poll]
  case contact =>
    intro r
    refine ⟨_, rfl, ?_⟩
    have hhalls : (brewhouseContactLoss s r.val).halls = (s.updHall r.val (fun h => { h with noContact := true })).halls :=
      (kept_closeGates (A := allBut .halls) (.refl _ _) (by decide)).parts .halls (by decide)
    dsimp only
    rw [hall_congr _ hhalls, hall_updHall_same]
  case refresh =>
    intro hal hst hrun
    refine runs_of_exec rfl (if_neg ?_) ⟨rfl, rfl⟩
    rw [hal, hrun, decide_eq_false (by omega)]
    decide

end Sys2Proof.Machine
end

section
/-! Mirrors asked for and acknowledged, reigns that a Brewhouse hears, and a standby that falls silent (R57-R59, R63, R68). -/
namespace Sys2Proof.Machine
open Sys2Proof Host Sys2Proof.Claims
variable (s : State)

/-! A mirror asked for. -/

/-- A Hall has asked for a mirror. -/
def mirrorAskedBy (r : Nat) : State :=
  { s with pair := { s.pair with mirrorAsked := if s.pair.mirrorAsked.contains r then s.pair.mirrorAsked else s.pair.mirrorAsked ++ [r] } }

theorem mirrorRequest_full {s : State} {r : Nat} (h : 256 ≤ (s.hall r).log.length) : mirrorRequest s r = (mirrorAskedBy s r).sendMirror :=
  if_neg (by omega)

theorem SeenOnly.mirrorAsked {s t : State} (h : SeenOnly s t) : t.pair.mirrorAsked = s.pair.mirrorAsked := by
  obtain ⟨a, b, e⟩ := h
  rw [e]
  rfl

theorem mirrorUnderWay_pair (e : Nat) : (mirrorUnderWay s e).pair = { s.pair with mirrorSent := some e } := rfl

theorem sendMirror_mirrorAsked : s.sendMirror.pair.mirrorAsked = s.pair.mirrorAsked := by
  cases h : s.bhAlive s.standby with
  | false => rw [sendMirror_alone h]
  | true => rw [sendMirror_alive h, mirrorUnderWay_pair]; exact (seenOnly_mirrorPackets s).mirrorAsked

/-! A mirror acknowledged, with no commit to take effect. -/

/-- The standby's copy, as of now, under the cut epoch that the mirror carried. -/
def copyKept (e : Nat) : State := { s with pair := { s.pair with mirror := some (s.mirrorImage e) } }

/-- No commit waits. -/
def commitsDone : State := { s with twk := { s.twk with committing := [] } }

theorem commitsGo_idle {s : State} (h : s.twk.committing = []) : s.commitsGo = s := by
  unfold State.commitsGo
  rw [h, List.isEmpty_nil, Bool.or_true]
  rfl

theorem mirrorDone_twk : s.mirrorDone.twk = s.twk := (kept_mirrorDone (A := 2 ^ 86 ||| allBut .twk) (.refl _ s) (by decide)).parts .twk (by decide)

theorem mirrorAck_idle {s : State} {e : Nat} (h : s.pair.mirrorSent = some e) (hc : s.twk.committing = []) :
    mirrorAck s = if s.mirrorDone.firmDown then s.mirrorDone else copyKept (commitsDone s.mirrorDone) e := by
  unfold mirrorAck
  rw [h]
  dsimp only
  rw [mirrorDone_twk, hc]
  show (if _ then _ else State.commitsGo (copyKept { s.mirrorDone with twk := { s.twk with committing := [] } } e)) = _
  rw [commitsGo_idle (show (copyKept _ e).twk.committing = [] from rfl), ← mirrorDone_twk]
  rfl

/-- Only unanswered requests stand in a Hall's log. -/
def onlyRequests (t : State) : Prop := ∀ r, ∀ x ∈ (t.hall r).log, x.request = true

/-- The Halls' logs without what is answered or not asked for. -/
def requestsKept (halls : Tab HallSt) : Tab HallSt :=
  (halls.map (fun e => (e.1, { e.2 with log := e.2.log.filter (·.request) }))).filter (fun e => decide (e.2 ≠ hall0 e.1))

theorem mem_of_find {α : Type} {k : Nat} {v : α} {m : Tab α} (h : Tab.find k m = some v) : (k, v) ∈ m := by
  induction m with
  | nil => exact absurd h (by simp [Tab.find])
  | cons e m ih =>
    obtain ⟨k', v'⟩ := e
    simp only [Tab.find] at h
    split at h
    · next hk => subst hk; cases h; exact List.mem_cons_self
    · exact List.mem_cons_of_mem _ (ih h)

theorem onlyRequests_requestsKept {t : State} {halls : Tab HallSt} (h : t.halls = requestsKept halls) : onlyRequests t := by
  intro r x hx
  unfold State.hall Tab.get at hx
  cases hf : Tab.find r t.halls with
  | none => rw [hf] at hx; exact absurd hx (by simp [hall0])
  | some g =>
    rw [hf, Option.getD_some] at hx
    have hmem := mem_of_find hf
    rw [h] at hmem
    obtain ⟨e, -, he⟩ := List.mem_map.mp (List.mem_filter.mp hmem).1
    rw [← (Prod.mk.inj he).2] at hx
    exact (List.mem_filter.mp hx).2

/-- The standby, as a complete mirror leaves it. -/
def standbyCopied : State :=
  s.updBrew s.standby (fun w => { w with mirrored := true, reign := max w.reign (s.brew s.active).reign, seen := max w.seen (s.brew s.active).reign })

/-- The state that a complete mirror leaves, but for what the registers tell of it. -/
def mirrorHeld (e : Nat) : State := { standbyCopied s with
  pair := { (standbyCopied s).pair with mirrorSent := none, mirrorAsked := [], mirror := some ((standbyCopied s).mirrorImage e) }
  halls := requestsKept (standbyCopied s).halls
  transit := if (s.brew s.standby).mirrored then (standbyCopied s).transit else (standbyCopied s).transit.map (fun e => { e with copy := false }) }

theorem mirrorDone_sent {s : State} {e : Nat} (h : s.pair.mirrorSent = some e) :
    s.mirrorDone = ((mirrorHeld s e).wr uBRW BRW_MIRROR_EPOCH_EPOCH e).flag uBRW BRW_ROLE_UNMIRRORED false := by
  unfold State.mirrorDone
  rw [h]
  rfl

theorem mirrorHeld_brew (e : Nat) : ((mirrorHeld s e).brew s.standby).mirrored = true := by
  have hbrew : ∀ w, (mirrorHeld s e).brew w = (standbyCopied s).brew w := fun w => by cases w <;> rfl
  rw [hbrew]
  unfold standbyCopied
  rw [brew_updBrew_same]

/-- What an acknowledged mirror leaves. -/
structure MirrorTaken (s : State) (e : Nat) (t : State) : Prop where
  unmirrored : t.isSet uBRW BRW_ROLE_UNMIRRORED = false
  sent : t.pair.mirrorSent = none
  mirrored : (t.brew s.standby).mirrored = true
  copy : t.pair.mirror.map (·.epoch) = some e
  logs : onlyRequests t
  epoch : t.rd uBRW BRW_MIRROR_EPOCH_EPOCH = e % 2 ^ 32

theorem mirrorDone_taken {s : State} {e : Nat} (h : s.pair.mirrorSent = some e) : MirrorTaken s e s.mirrorDone := by
  rw [mirrorDone_sent h]
  refine ⟨?_, rfl, mirrorHeld_brew s e, rfl, onlyRequests_requestsKept (halls := (standbyCopied s).halls) rfl, ?_⟩
  · unfold State.isSet
    rw [rd_flag_same]
    rfl
  · rw [rd_flag_apart _ (by decide), rd_wr_same]
    rfl

theorem MirrorTaken.copyKept {s : State} {e : Nat} {t : State} (h : MirrorTaken s e t) : MirrorTaken s e (copyKept (commitsDone t) e) :=
  ⟨h.unmirrored, h.sent, (congrArg BrewSt.mirrored (by cases s.standby <;> rfl)).trans h.mirrored, rfl, h.logs, h.epoch⟩

/-! A reign heard. -/

theorem loadMirror_rd {u : Nat} {F : Fld} (h : mirrorFields.all (fun f => decide (fkey u F 0 ≠ fkey f.1 f.2 0)) = true) : s.loadMirror.rd u F = s.rd u F := by
  unfold State.loadMirror
  split
  · rfl
  · next m _ =>
    have heach : ∀ (l : List (Nat × Fld)) (t : State), l.all (fun f => decide (fkey u F 0 ≠ fkey f.1 f.2 0)) = true →
        (t.each l (fun s f => s.wr f.1 f.2 ((Tab.find (fkey f.1 f.2 0) m.regs).getD f.2.rst))).rd u F = t.rd u F := fun l => by
      induction l with
      | nil => exact fun _ _ => rfl
      | cons f l ih =>
        intro t hl
        obtain ⟨hf, hl⟩ := Bool.and_eq_true_iff.mp hl
        exact (ih _ hl).trans (rd_wr_other t _ (of_decide_eq_true hf))
    exact heach mirrorFields s h

/-- The active Brewhouse that steps down leaves the role to the other, under the higher reign. -/
theorem stepDown_active {s : State} {w : Bh} (h : s.active = w) {n : Nat} (hn : n < 2 ^ 7) :
    (s.stepDown w n).active = otherBh w ∧ (s.stepDown w n).rd uBRW BRW_ROLE_REIGN = n := by
  unfold State.stepDown
  dsimp only
  rw [active_congr (updBrew_regs s _ _), if_pos h]
  constructor
  · unfold State.active
    rw [loadMirror_rd _ (by decide), rd_wr_apart _ (by decide), rd_wr_apart _ (by decide), rd_wr_same]
    cases w <;> rfl
  · rw [loadMirror_rd _ (by decide), rd_wr_apart _ (by decide), rd_wr_same]
    exact Nat.mod_eq_of_lt hn

theorem sendMirror_regs : s.sendMirror.regs = s.regs := (kept_sendMirror (A := allBut .regs) (.refl _ s) (by decide)).parts .regs (by decide)

theorem reignStepDown_active {s : State} {w : Bh} (h : s.active = w) {n : Nat} (hn : n < 2 ^ 7) (hlt : (s.brew w).reign < n) :
    (reignStepDown s w n).active = otherBh w ∧ (reignStepDown s w n).rd uBRW BRW_ROLE_REIGN = n := by
  rw [reignStepDown_higher hlt, active_congr (sendMirror_regs _), rd_congr _ (sendMirror_regs _)]
  exact stepDown_active ((active_congr (updBrew_regs s _ _)).trans h) hn

/-! A standby that falls silent. -/

/-- The active Brewhouse shown without a standby. -/
def unmirroredShown : State :=
  let t := (s.flag uBRW BRW_ROLE_UNMIRRORED true).flag uBRW BRW_ROLE_STANDBY_OK false
  { t with pair := { t.pair with mirrorSent := none } }

theorem standbySilence_idle {s : State} (h : s.isSet uBRW BRW_ROLE_UNMIRRORED = false ∨ s.isSet uBRW BRW_ROLE_STANDBY_OK = true)
    (hc : s.twk.committing = []) : standbySilence s = (unmirroredShown s).raise 0x8041 s.puActive := by
  have hactive : (unmirroredShown s).puActive = s.puActive := by
    refine congrArg puBrw ?_
    unfold State.active unmirroredShown
    dsimp only
    rw [show ∀ t : State, ({ t with pair := { t.pair with mirrorSent := none } } : State).rd uBRW BRW_ROLE_ACTIVE = t.rd uBRW BRW_ROLE_ACTIVE
      from fun _ => rfl, rd_flag_apart _ (by decide), rd_flag_apart _ (by decide)]
  have hun : s.unmirror = (unmirroredShown s).raise 0x8041 (unmirroredShown s).puActive := by
    refine if_pos ?_
    rcases h with h | h <;> rw [h] <;> simp
  unfold standbySilence
  rw [hun, hactive, commitsGo_idle (by exact hc)]

/-- Settles O6, clause by clause: a mirror asked for, one acknowledged, a reign heard, and a standby that falls silent. -/
theorem pairMirror : Obligations.PairMirror := by
  unfold Obligations.PairMirror
  intro s
  refine ⟨?asked, ?acked, fun w reign => ⟨?higher, ?noted⟩, ?silent⟩
  case asked =>
    intro r hfull
    refine runs_of_exec rfl (mirrorRequest_full hfull) ⟨?_, fun hal => ?_⟩
    · rw [sendMirror_mirrorAsked]
      exact contains_joined s.pair.mirrorAsked r.val
    · rw [sendMirror_alive (show (mirrorAskedBy s r.val).bhAlive (mirrorAskedBy s r.val).standby = true from hal), mirrorUnderWay_pair]
      rfl
  case acked =>
    intro e he hc
    refine runs_of_exec rfl (mirrorAck_idle he hc) ?_
    have hdone := mirrorDone_taken he
    split
    · obtain ⟨hun, hsent, hmir, hcopy, hlogs, hepoch⟩ := hdone
      exact ⟨hun, hsent, hmir, hcopy, fun r => hlogs r.val, hepoch⟩
    · obtain ⟨hun, hsent, hmir, hcopy, hlogs, hepoch⟩ := hdone.copyKept
      exact ⟨hun, hsent, hmir, hcopy, fun r => hlogs r.val, hepoch⟩
  case higher =>
    intro hlt hact
    obtain ⟨hother, hreign⟩ := reignStepDown_active hact reign.isLt hlt
    exact ⟨_, rfl, _, rfl, hother, (reignStepDown_higher_brew hlt).2, hreign⟩
  case noted => exact fun hle => runs_of_exec rfl (congrArg State.hostGo (reignStepDown_noted hle)) rfl
  case silent =>
    intro h hc
    refine runs_of_exec rfl (standbySilence_idle h hc) ⟨?_, ?_, rfl⟩
    · unfold State.isSet
      rw [rd_raise_apart _ (by decide)]
      show ((s.flag uBRW BRW_ROLE_UNMIRRORED true).flag uBRW BRW_ROLE_STANDBY_OK false).rd uBRW BRW_ROLE_UNMIRRORED != 0
      rw [rd_flag_apart _ (by decide), rd_flag_same]
      rfl
    · unfold State.isSet
      rw [rd_raise_apart _ (by decide)]
      show (((s.flag uBRW BRW_ROLE_UNMIRRORED true).flag uBRW BRW_ROLE_STANDBY_OK false).rd uBRW BRW_ROLE_STANDBY_OK != 0) = false
      rw [rd_flag_same]
      rfl

end Sys2Proof.Machine
end

section
/-! Commands that start and end on a core, and the limit of a PRIV wait (R86, R87, R169, R183). -/
namespace Sys2Proof.Machine
open Sys2Proof Host Sys2Proof.Claims
variable (s : State)

/-- What follows a command's start in its cluster leaves the cores. -/
theorem commandStart_cores (k p cyc cmd l0rd l0wr : Nat) :
    (commandStart s k p cyc cmd l0rd l0wr).cores = (s.tapStart k p cyc cmd l0rd l0wr).cores := by
  refine Kept.parts (A := allBut .cores) ?_ .cores (by decide)
  unfold commandStart
  refine kept_bankCount (kept_trace ?_ (by decide)) (by decide)
  split
  · exact kept_updRcmd (.ite (.refl _ _) (kept_firstStart (.refl _ _) (by decide))) (by decide)
  · exact .ite (.refl _ _) (kept_raiseOnce (kept_count (.refl _ _) (by decide)) (by decide))

/-- A core as the command that starts on it leaves it. -/
def coreStarted (cmd cyc : Nat) (x : CoreSt) : CoreSt :=
  { x with cmd := some cmd, startCyc := cyc, expired := false, cleared := false, wrapEn := false }

/-- The core that a command starts on is that command's from its first cycle. -/
theorem tapStart_core (k p cyc cmd l0rd l0wr : Nat) :
    ∃ x, (s.tapStart k p cyc cmd l0rd l0wr).core (ckey k p) = coreStarted cmd (cyc - s.latency 3) x := by
  unfold State.tapStart State.showLimit
  dsimp only
  rw [core_congr _ (flag_cores _ _ _ _ _), core_congr _ (flag_cores _ _ _ _ _), core_congr _ (wr_cores _ _ _ _ _), core_updCore_same]
  exact ⟨_, rfl⟩

/-- What follows a command's end in its cluster leaves the cores. -/
theorem commandEnd_cores (k p cyc l0rd l0wr : Nat) : (commandEnd s k p cyc l0rd l0wr).cores = (s.tapEnd k p cyc l0rd l0wr).cores := by
  refine Kept.parts (A := allBut .cores) ?_ .cores (by decide)
  unfold commandEnd
  dsimp only
  split
  · exact .refl _ _
  · have htold : ∀ c d par, Kept (allBut .cores) (s.tapEnd k p cyc l0rd l0wr) ((s.tapEnd k p cyc l0rd l0wr).trace k 0 0x02 c d par) :=
      fun c d par => kept_trace (.refl _ _) (by decide)
    split
    · refine .ite (kept_updRcmd (htold _ _ _) (by decide)) ?_
      refine kept_pairTry (kept_freeSlots (.ite ?_ ?_) (by decide)) (by decide)
      · exact kept_rplRegion (kept_gatedEnd (kept_updRcmd (htold _ _ _) (by decide)) (by decide)) (by decide)
      · exact kept_rplGo (kept_updRcmd (htold _ _ _) (by decide)) (by decide)
    · exact htold _ _ _

/-- A command's end leaves its core none. -/
theorem tapEnd_core (k p cyc l0rd l0wr : Nat) : ((s.tapEnd k p cyc l0rd l0wr).core (ckey k p)).cmd = none := by
  have hrest : ∀ t : State, ((t.tapTime k p cyc).showLimit k p).cores = t.cores := fun t =>
    (kept_showLimit (kept_tapTime (A := allBut .cores) (.refl _ t) (by decide)) (by decide)).parts .cores (by decide)
  unfold State.tapEnd
  dsimp only
  rw [core_congr _ (hrest _), core_congr _ (flag_cores _ _ _ _ _), core_updCore_same]

/-- The oldest wait that is dropped takes its command's drive with it. -/
theorem issueLimitExpire_tap (k p : Nat) : (issueLimitExpire s k p).tap (ckey k p) = { s.tap (ckey k p) with
    driven := (s.tap (ckey k p)).driven.filter (fun x => !((s.tap (ckey k p)).waiting.take 1).any (fun w => w.1 == x))
    waiting := (s.tap (ckey k p)).waiting.drop 1 } := by
  unfold issueLimitExpire State.showLimit
  rw [tap_congr _ (flag_taps _ _ _ _ _), tap_updTap_same]

/-- Settles O8: a command's start, its end, and the end of the oldest wait. -/
theorem tapCommands : Obligations.TapCommands := by
  unfold Obligations.TapCommands
  intro k p s
  refine ⟨fun cyc id rd wr => ⟨_, rfl, ?started⟩, fun cyc rd wr => ⟨_, rfl, ?ended⟩, ⟨_, rfl, ?expired⟩⟩
  case started =>
    obtain ⟨x, hx⟩ := tapStart_core s k.val p.val cyc id.toNat rd wr
    have hcore := (core_congr _ (commandStart_cores s k.val p.val cyc id.toNat rd wr) (ckey k.val p.val)).trans hx
    exact ⟨congrArg CoreSt.cmd hcore, congrArg CoreSt.startCyc hcore, congrArg CoreSt.expired hcore, congrArg CoreSt.cleared hcore⟩
  case ended =>
    exact (congrArg CoreSt.cmd (core_congr _ (commandEnd_cores s _ _ _ _ _) (ckey k.val p.val))).trans (tapEnd_core s _ _ _ _ _)
  case expired =>
    have htap := issueLimitExpire_tap s k.val p.val
    refine ⟨congrArg TapSt.waiting htap, fun w hw => ?_⟩
    obtain ⟨ws, hws⟩ := List.head?_eq_some_iff.mp hw
    refine (congrArg (fun x => x.driven.contains w.1) htap).trans ?_
    rw [hws]
    simp

end Sys2Proof.Machine
end

section
/-! Descriptors, seeds, replica reads and comparisons at a Taster (R94, R203-R206, R220-R224, R448-R450). -/
namespace Sys2Proof.Machine
open Sys2Proof Host Sys2Proof.Claims
variable (s : State)

/-! A descriptor that arrives asks for its context's seed. -/

/-- A cluster's Taster has the seeds that it had, and has asked for those that it had asked for. -/
def SeedsStay (k : Nat) (s t : State) : Prop := (t.rplOf k).seeds = (s.rplOf k).seeds ∧ (t.rplOf k).seedAsked = (s.rplOf k).seedAsked

theorem SeedsStay.refl (k : Nat) : SeedsStay k s s := ⟨rfl, rfl⟩
theorem SeedsStay.trans {k : Nat} {s t u : State} (h : SeedsStay k s t) (h' : SeedsStay k t u) : SeedsStay k s u :=
  ⟨h'.1.trans h.1, h'.2.trans h.2⟩
theorem SeedsStay.of_kept {A k : Nat} {s t : State} (h : Kept A s t) (hA : A.testBit Part.rpl.bit = false) : SeedsStay k s t := by
  unfold SeedsStay
  rw [rplOf_congr s (h.parts .rpl hA)]
  exact ⟨rfl, rfl⟩

theorem seedsStay_updRplOf (k j : Nat) {f : RplSt → RplSt} (hs : ∀ x, (f x).seeds = x.seeds) (ha : ∀ x, (f x).seedAsked = x.seedAsked) :
    SeedsStay k s (s.updRplOf j f) := by
  unfold SeedsStay
  by_cases h : k = j
  · subst h
    rw [rplOf_updRplOf_same]
    exact ⟨hs _, ha _⟩
  · rw [rplOf_updRplOf_other s h]
    exact ⟨rfl, rfl⟩

theorem seedsStay_unitsOut (k j : Nat) (p : RplUnit → Bool) : SeedsStay k s (s.unitsOut j p) :=
  seedsStay_updRplOf s k j (fun _ => rfl) fun _ => rfl

theorem SeedsStay.each {α : Type} {k : Nat} {f : State → α → State} (hf : ∀ t x, SeedsStay k t (f t x)) (l : List α) :
    SeedsStay k s (s.each l f) :=
  ⟨each_keeps s (fun t => (t.rplOf k).seeds) (fun t x => (hf t x).1) l, each_keeps s (fun t => (t.rplOf k).seedAsked) (fun t x => (hf t x).2) l⟩

/-- A seed that is neither in the cache nor asked for is asked for at the Hall. -/
theorem seedFor_asks {s : State} {k c : Nat} (hnone : (s.rplOf k).seeds.find? (fun e => e.1 == c) = none)
    (hask : (s.rplOf k).seedAsked.contains c = false) : Out.ask 0x450 (puTst k) (puHal (regionOfCluster k)) c ∈ (s.seedFor k c).1.sent := by
  unfold State.seedFor
  dsimp only
  rw [hnone]
  dsimp only
  rw [if_neg (by rw [hask]; decide)]
  exact List.mem_cons_self

/-- A descriptor that enters a Taster: its context's seed is looked for, and what was sent then stays sent. -/
theorem descriptorIn_seedFor (k x : Nat) (opr : Option Nat) :
    ∃ u, SeedsStay k s u ∧ Kept allButEvents (u.seedFor k (s.descIn k x opr).ctx).1 (s.descriptorIn k x opr) := by
  unfold State.descriptorIn
  extract_lets d r h w o on late cls outside gated sf c entered left covered told q asked sampled begun
  refine ⟨told, ?_, ?_⟩
  · have hentered : SeedsStay k s entered := seedsStay_updRplOf s k k (fun _ => rfl) fun _ => rfl
    have hleft : SeedsStay k entered left := by
      unfold left
      exact .each entered (fun t j => seedsStay_unitsOut t k j _) _
    have hcovered : Kept (allBut .rpl) left covered := kept_unfitCmd (kept_coverage (.refl _ _) (by decide)) (by decide)
    have htold : Kept (allBut .rpl) left told := by
      unfold told
      clear_value covered outside cls gated o
      split
      · exact .ite (kept_raiseOnce hcovered (by decide)) hcovered
      · exact hcovered
    exact (hentered.trans hleft).trans (.of_kept htold (by decide))
  · have hsampled : Kept allButEvents asked sampled := by
      unfold sampled
      refine .ite (kept_mapWaits (.refl _ _) (by decide)) ?_
      split
      · exact .ite (.refl _ _) (kept_sampleCmd (.refl _ _) (by decide))
      · exact .refl _ _
    have hbegun : Kept allButEvents asked begun :=
      .ite (kept_updRcmd (kept_firstStart (kept_pairUnchecked hsampled (by decide)) (by decide)) (by decide)) hsampled
    exact kept_pairTry (kept_rplRegion (kept_pairCommand hbegun (by decide)) (by decide)) (by decide)

theorem mem_descriptorIn_sent {s : State} {k x : Nat} {opr : Option Nat}
    (hnone : (s.rplOf k).seeds.find? (fun e => e.1 == (s.descIn k x opr).ctx) = none)
    (hask : (s.rplOf k).seedAsked.contains (s.descIn k x opr).ctx = false) :
    Out.ask 0x450 (puTst k) (puHal (regionOfCluster k)) (s.descIn k x opr).ctx ∈ (s.descriptorIn k x opr).sent := by
  obtain ⟨u, ⟨hseeds, hasked⟩, hk⟩ := descriptorIn_seedFor s k x opr
  exact hk.said.subset (seedFor_asks (by rw [hseeds]; exact hnone) (by rw [hasked]; exact hask))

/-! Seed loads. -/

/-- A load of a context under a SET is held back. -/
theorem seedLoadDone_held {s : State} {k c : Nat} (h : s.prv.setting.any (fun x => x.ctx == c) = true) :
    (seedLoadDone s k c).prv.heldLoads.contains (k, c) = true ∧ (seedLoadDone s k c).rpl = s.rpl := by
  unfold seedLoadDone
  rw [if_pos h]
  split
  · exact ⟨‹_›, rfl⟩
  · exact ⟨by simp, rfl⟩

/-- A load that was asked for is served, and the Hall notes whom it served. -/
theorem seedLoadDone_served {s : State} {k c : Nat} (h : s.prv.setting.any (fun x => x.ctx == c) = false)
    (hask : (s.rplOf k).seedAsked.contains c = true) : (seedLoadDone s k c).prv.served.contains (regionOfCluster k, c) = true := by
  unfold seedLoadDone
  rw [if_neg (by rw [h]; decide), (seedServe_kept s hask).parts .prv (by decide)]
  unfold loadNoted
  dsimp only
  split
  · assumption
  · simp

/-! Units that leave and units that fail. -/

/-- A unit whose read ends in an error leaves with 0x3013, which says the error and the address. -/
theorem mem_dropUnit_transit {s : State} {h cause : Nat} (hm : s.marks.contains (puTst h, 0x3013, 0) = false) (hc : cause ≠ 7) (k : Nat)
    (u : RplUnit) (addr : Nat) : event s 0x3013 (puTst h) u.cmd cause addr ∈ (s.dropUnit k h u cause addr).transit := by
  unfold State.dropUnit
  extract_lets left stopped told
  have hstopped : Kept (maskOf [.rpl]) s stopped :=
    .ite (kept_updRcmd (kept_updRplOf (kept_updRunit (.refl _ s) (by decide)) (by decide)) (by decide))
      (kept_updRplOf (kept_updRunit (.refl _ s) (by decide)) (by decide))
  have htold : event s 0x3013 (puTst h) u.cmd cause addr ∈ told.transit := by
    have hmarks : stopped.marks.contains (puTst h, 0x3013, 0) = false := by rw [hstopped.parts .marks (by decide)]; exact hm
    unfold told
    rw [if_neg hc, ← hstopped.event_eq (by decide) (by decide)]
    exact mem_count_raiseOnce_transit hmarks _ _ _ _ _
  clear_value told
  split
  · split
    · exact (kept_inconclusive (A := allButEvents) (.refl _ told) (by decide)).event (by decide) htold
    · exact htold
  · exact htold

/-- The last line of a read that ends in an error drops the unit that asked for it, and says so. -/
theorem replicaReadLine_error {s : State} {k tag h : Nat} {u : RplUnit} (hh : s.checker k = some h)
    (hu : (s.rplOf k).units.find? (fun u => match u.req with | some r => r.1 == tag | none => false) = some u) {err : Nat} (data : Nat)
    (herr : err = 1 ∨ err = 2) (hm : s.marks.contains (puTst h, 0x3013, 0) = false) :
    event s 0x3013 (puTst h) u.cmd err ((u.req.map (·.2)).getD 0) ∈ (replicaReadLine s k tag data true err).transit := by
  have hb : (true && (err == 1 || err == 2)) = true := by
    rcases herr with h | h <;> rw [h] <;> rfl
  have hdrop := mem_dropUnit_transit hm (cause := err) (by omega) k u ((u.req.map (·.2)).getD 0)
  unfold replicaReadLine
  split
  case h_1 h' u' hh' hu' =>
    obtain rfl : h = h' := Option.some.inj (hh.symm.trans hh')
    obtain rfl : u = u' := Option.some.inj (hu.symm.trans hu')
    rw [if_pos hb]
    exact (kept_rplRegion (A := allButEvents) (kept_updRplOf (.refl _ _) (by decide)) (by decide)).event (by decide) hdrop
  case h_2 hno => exact absurd hu (hno h u hh)

/-- A read that comes too late drops its unit. -/
theorem replicaReadStale_drops {s : State} {k cmd pos h : Nat} {u : RplUnit} (hh : s.checker k = some h)
    (hu : (s.rplOf k).units.find? (fun u => s.unitIs cmd pos u && decide (u.stage = 0)) = some u)
    (hend : ((s.rcmd u.home cmd).map (·.ended)).getD false = true) :
    replicaReadStale s k cmd pos = (s.dropUnit k h u 7 0).rplRegion (regionOfCluster k) := by
  unfold replicaReadStale
  rw [hh, hu]
  exact if_pos hend

/-! A comparison that fails. -/

/-- A failed unit raises its event, which names the Taster. -/
theorem mem_unitFail_transit {s : State} {h code : Nat} (hm : s.marks.contains (puTst h, code, 0) = false) (hc : code ≠ 0x9040) (k j : Nat)
    (u : RplUnit) (d : Desc) (gated : Bool) (pos w6 w7 : Nat) (c : Case) :
    ∃ e ∈ (s.unitFail k j h u d gated pos code w6 w7 c).transit, e.code = code ∧ e.puid = puTst h := by
  unfold State.unitFail
  extract_lets staged counted tracedIn tracedOut told failed got big held no opened left reread
  have hcounted : Kept (allBut .marks) s counted :=
    kept_bankCount (kept_count (kept_updRunit (.refl _ s) (by decide)) (by decide)) (by decide)
  have hmarks : tracedOut.marks.contains (puTst h, code, 0) = false := by
    rw [show tracedOut = (counted.trace _ _ _ _ _ _).trace _ _ _ _ _ _ from rfl, trace_marks_other _ hc, trace_marks_other _ hc,
      hcounted.parts .marks (by decide)]
    exact hm
  have htold : event tracedOut code (puTst h) (u.cmd * 2 ^ 18 + pos % 2 ^ 18) w6 w7 ∈ told.transit := mem_raiseOnce_transit hmarks _ _ _
  have hfailed : Kept allButEvents told failed := .ite (kept_updRcmd (.refl _ _) (by decide)) (.refl _ _)
  have hleft : Kept allButEvents told left := kept_openCase hfailed (by decide)
  have hreread : Kept allButEvents told reread := .ite (kept_updRplOf hleft (by decide)) hleft
  exact ⟨_, (Kept.ite (kept_updRcmd hreread (by decide)) hreread).event (by decide) htold, rfl, rfl⟩

/-- A comparison whose value or format differs fails its unit with 0x3001. -/
theorem replicaCompare_fails {s : State} {k cmd pos h j : Nat} {u : RplUnit} {upset : Option CaseVal} {d : Desc} {c : RplCmd} {job : Job}
    {r : Done} {y : El} {host : CaseVal} (hh : s.checker k = some h) (hcmp : s.comparable k cmd pos = some (j, u))
    (hd : s.descOf u.home u.cmd = some d) (hc : s.rcmd u.home u.cmd = some c) (hjob : s.unitJob u = some job) (hmay : d.mayvary = false)
    (heval : s.unitEval u = .ok (r, y, host)) (hdiff : CaseVal.same (upset.getD r.val) host = false ∨ job.outFmt ≠ y.fmt)
    (hm : s.marks.contains (puTst h, 0x3001, 0) = false) :
    ∃ e ∈ (replicaCompare s k cmd pos upset).transit, e.code = 0x3001 ∧ e.puid = puTst h := by
  have hpair : ¬ (CaseVal.same (upset.getD r.val) host && decide (job.outFmt = y.fmt)) = true := by
    rcases hdiff with h | h <;> simp [h]
  unfold replicaCompare
  rw [hh, hcmp]
  dsimp -zeta only
  rw [heval, hd, hc, hjob]
  dsimp -zeta only
  extract_lets done sampled _ _ value judged
  have hsampled : sampled.marks = s.marks := by
    have hk : Kept (allBut .marks) s sampled := .ite (kept_pairSample (.refl _ _) (by decide)) (.refl _ _)
    exact hk.parts .marks (by decide)
  obtain ⟨e, he, hcode, hpuid⟩ : ∃ e ∈ judged.transit, e.code = 0x3001 ∧ e.puid = puTst h := by
    rw [show judged = sampled.unitFail k j h u d c.gated pos 0x3001 _ _ _ from
      (if_neg (by rw [hmay]; decide)).trans (if_neg hpair)]
    exact mem_unitFail_transit (s := sampled) (code := 0x3001) (by rw [hsampled]; exact hm) (by decide) _ _ _ _ _ _ _ _ _
  refine ⟨e, ?_, hcode, hpuid⟩
  clear_value judged
  split
  · exact (kept_rplRegion (A := allButEvents) (.refl _ _) (by decide)).event (by decide) he
  · exact (kept_rplGo (A := allButEvents) (kept_updRunit (.refl _ _) (by decide)) (by decide)).event (by decide) he

/-- Settles O10: clause by clause, from what each of the Taster's commands does in the case that the clause names. -/
theorem replicaUnits : Obligations.ReplicaUnits := by
  unfold Obligations.ReplicaUnits
  intro k s
  refine ⟨fun x opr => ⟨fun hchk hnone hask => ?_, fun hchk hctx hlive => ?_⟩, fun ctx => ⟨fun hset => ?_, fun hset hask => ?_⟩,
    fun tag data last err h u hheld hh hu hlast herr hm => ?_, fun tag data last err hheld => ?_,
    fun id pos h hh => ⟨fun u hu hend => ?_, fun j u upset d c job r y host hcmp h2 h3 h4 hd hc hjob hmay heval hdiff hm => ?_⟩⟩
  · refine runs_of_exec rfl (if_neg ?_) (mem_descriptorIn_sent hnone hask)
    rw [Option.isNone_eq_false_iff.mpr hchk]
    simp
  · exact runs_of_exec rfl (if_pos (by rw [hchk, hlive, bne_iff_ne.mpr hctx]; rfl)) rfl
  · exact ⟨_, rfl, seedLoadDone_held hset⟩
  · exact ⟨_, rfl, seedLoadDone_served hset hask⟩
  · subst hlast
    refine runs_of_exec rfl (if_neg (by rw [hheld]; decide)) (replicaReadLine_error hh hu _ ?_ hm)
    rcases herr with rfl | rfl
    · exact .inl rfl
    · exact .inr rfl
  · exact runs_of_exec rfl (if_pos hheld) rfl
  · exact runs_of_exec rfl rfl (replicaReadStale_drops hh hu hend)
  · exact runs_of_exec rfl (if_neg (by rw [h2, h3, h4]; decide)) (replicaCompare_fails hh hcmp hd hc hjob hmay heval hdiff hm)

end Sys2Proof.Machine
end

section
/-! Blocks at a gate cell (R106, R107). -/
namespace Sys2Proof.Machine
open Sys2Proof Host Sys2Proof.Claims
variable (s : State)

/-! What leaves a queue. -/

/-- A ready block leaves the back of a queue in which no block of its stream waits. -/
theorem mem_leave_concat {b : HeldBlock} (hb : b.ready = true) :
    ∀ (bs : List HeldBlock) (blocked : List Nat), blocked.contains b.stream = false →
      bs.any (fun y => y.stream == b.stream && !y.ready) = false → b ∈ (leave blocked (bs ++ [b])).1
  | [], blocked, hblocked, _ => by
    rw [List.nil_append, leave, if_pos (by rw [hb, hblocked]; rfl)]
    exact List.mem_cons_self
  | y :: ys, blocked, hblocked, hwait => by
    rw [List.any_cons, Bool.or_eq_false_iff] at hwait
    obtain ⟨hy, hys⟩ := hwait
    rw [List.cons_append, leave]
    split
    · exact List.mem_cons_of_mem _ (mem_leave_concat hb ys blocked hblocked hys)
    · next hstay =>
      by_cases hs : y.stream = b.stream
      · have hready : y.ready = true := by
          rw [beq_iff_eq.mpr hs, Bool.true_and, Bool.not_eq_false'] at hy
          exact hy
        exact absurd (by rw [hready, hs, hblocked]; rfl) hstay
      · refine mem_leave_concat hb ys _ ?_ hys
        rw [List.contains_cons, hblocked, Bool.or_false]
        exact beq_false_of_ne (Ne.symm hs)

theorem leave_ready {b : HeldBlock} (hb : b.ready = true) : leave [] [b] = ([b], []) := by
  simp [leave, hb]
theorem leave_waiting {b : HeldBlock} (hb : b.ready = false) : leave [] [b] = ([], [b]) := by
  simp [leave, hb]

/-! A cell that is settled. -/

/-- Blocks that leave change no gate cell. -/
theorem eachOut_gates (g : Nat) (bs : List HeldBlock) : (s.each bs (fun s b => s.gateOut g b)).gates = s.gates :=
  each_keeps s State.gates (fun t b => (kept_gateOut (A := allBut .gates) (.refl _ t) (by decide)).parts .gates (by decide)) bs

theorem mem_gateOut_sent (g : Nat) (b : HeldBlock) : Out.gate g b.stream b.bytes ∈ (s.gateOut g b).sent := by
  unfold State.gateOut
  rw [emit_sent]
  exact List.mem_cons_self

/-- Every block that leaves goes out. -/
theorem mem_eachOut_sent (g : Nat) {b : HeldBlock} {bs : List HeldBlock} (h : b ∈ bs) :
    Out.gate g b.stream b.bytes ∈ (s.each bs (fun s b => s.gateOut g b)).sent := by
  induction bs generalizing s with
  | nil => exact absurd h List.not_mem_nil
  | cons y ys ih =>
    show _ ∈ ((s.gateOut g y).each ys (fun s b => s.gateOut g b)).sent
    rcases List.mem_cons.mp h with rfl | h
    · have hk : Kept allButEvents (s.gateOut g b) ((s.gateOut g b).each ys (fun s b => s.gateOut g b)) :=
        kept_each (.refl _ _) fun _ _ k => kept_gateOut k (by decide)
      exact hk.said.subset (mem_gateOut_sent s g b)
    · exact ih _ h

/-- A cell that is flushed keeps what may not leave. -/
theorem gate_gateFlush (g : Nat) : (s.gateFlush g).gate g = { s.gate g with held := (leave [] (s.gate g).held).2 } := by
  unfold State.gateFlush
  dsimp only
  rw [gate_congr _ (wr_gates _ _ _ _ _), gate_congr _ (eachOut_gates _ g _), gate_updGate_same]

theorem mem_gateFlush_sent {g : Nat} {b : HeldBlock} (h : b ∈ (leave [] (s.gate g).held).1) :
    Out.gate g b.stream b.bytes ∈ (s.gateFlush g).sent := mem_eachOut_sent _ g h
theorem gateFlush_sent_of_none {g : Nat} (h : (leave [] (s.gate g).held).1 = []) : (s.gateFlush g).sent = s.sent := by
  unfold State.gateFlush
  dsimp only
  rw [h]
  rfl

/-- With no block outside a cell that settles is flushed, and that is all. -/
theorem gateSettle_of_outside {g : Nat} (h : (s.gate g).outside = []) : s.gateSettle g = s.gateFlush g := by
  unfold State.gateSettle
  dsimp only
  rw [show ((s.gateFlush g).gate g).outside = [] from (congrArg GateSt.outside (gate_gateFlush s g)).trans h]
  rfl

/-! A block that arrives. -/

theorem gateAct_count (u : Nat) (F : Fld) (n i g : Nat) (b : HeldBlock) : (s.count u F n i).gateAct g b = s.gateAct g b := by
  unfold State.count
  dsimp only
  split <;> rfl

/-- At a cell of an open context a block that is not PRIV may go. -/
theorem gateAct_go {g : Nat} {b : HeldBlock} (hopen : (s.ctx b.ctx).gate = 0) (hpriv : b.priv = false) : s.gateAct g b = .go := by
  unfold State.gateAct
  simp [hopen, hpriv]

/-- At a cell that nothing closes a PRIV block without a verdict is held. -/
theorem gateAct_hold {g : Nat} {b : HeldBlock} (hon : s.isSet uHCH HCH_CTRL_DISABLE = false) (hopen : (s.ctx b.ctx).gate = 0)
    (hpriv : b.priv = true) (hcell : s.gateClosed g = none) (htaint : (s.ctx b.ctx).taint = none)
    (hmark : gateMark (s.gate g) b.ctx b.step = none) : s.gateAct g b = .hold := by
  unfold State.gateAct
  simp [hon, hopen, hpriv, hcell, htaint, hmark]

theorem gateFits_go {g : Nat} {b : HeldBlock} (hact : s.gateAct g b = .go)
    (hwait : (s.gate g).held.any (fun y => y.stream == b.stream && !y.ready) = false) : s.gateFits g b = true := by
  unfold State.gateFits
  dsimp only
  rw [hact, hwait]
  rfl
theorem gateFits_hold {g : Nat} {b : HeldBlock} (hact : s.gateAct g b = .hold) :
    s.gateFits g b = decide (heldBytes (s.gate g).held + b.bytes.length ≤ gateSpace) := by
  unfold State.gateFits
  dsimp only
  rw [hact]
  rfl

/-- A block that may leave, or may not. -/
def setReady (b : HeldBlock) (ready : Bool) : HeldBlock := { b with ready := ready }

/-- A cell with a block put at the back of what it holds. -/
def State.gatePut (s : State) (g : Nat) (b : HeldBlock) : State := s.updGate g (fun x => { x with held := x.held ++ [b] })

/-- A block that is not PRIV, or that is let in while the Hatch serves, is counted and put where its act says. -/
theorem gateTake_put {g : Nat} {b : HeldBlock} (hcnt : (s.isSet uHCH HCH_CTRL_DISABLE && b.priv) = false) {ready : Bool}
    (hact : s.gateAct g b = if ready then .go else .hold) :
    s.gateTake g b = (s.count (uGATE g) HCH_IN_BYTES b.bytes.length).gatePut g (setReady b ready) := by
  unfold State.gateTake
  extract_lets counted noted put
  have hnoted : noted = counted := if_neg (by
    rw [show counted.isSet uHCH HCH_CTRL_DISABLE = s.isSet uHCH HCH_CTRL_DISABLE from by unfold State.isSet; rw [rd_congr _ (count_regs _ _ _ _ _)], hcnt]
    decide)
  rw [hnoted, show counted.gateAct g b = _ from gateAct_count s _ _ _ _ g b, hact]
  cases ready <;> rfl

/-- The cell after a block was counted and put at its back. -/
theorem gate_gatePut (g : Nat) (n : Nat) (b : HeldBlock) :
    ((s.count (uGATE g) HCH_IN_BYTES n).gatePut g b).gate g = { s.gate g with held := (s.gate g).held ++ [b] } := by
  unfold State.gatePut
  rw [gate_updGate_same, gate_congr _ (count_gates _ _ _ _ _)]

/-- The block that arrives at a cell. -/
def arriving (s : State) (g stream step : Nat) (bytes : List Byte) : HeldBlock :=
  let h := Header.ofBytes bytes
  ⟨stream, h.ctx, step, h.priv, bytes, s.now, false, false,
    ((gateMark (s.gate g) h.ctx step).map (fun m => m.redo || m.verdict == some .fail)).getD false⟩

theorem gateBlockArrive_fits {g stream step : Nat} {bytes : List Byte} (hout : (s.gate g).outside = [])
    (hfits : s.gateFits g (arriving s g stream step bytes) = true) :
    gateBlockArrive s g stream step bytes = (s.gateTake g (arriving s g stream step bytes)).gateSettle g :=
  if_pos (by rw [hout]; exact hfits)
theorem gateBlockArrive_waits {g stream step : Nat} {bytes : List Byte}
    (hfits : s.gateFits g (arriving s g stream step bytes) = false) :
    gateBlockArrive s g stream step bytes = s.updGate g (fun x => { x with outside := x.outside ++ [arriving s g stream step bytes] }) :=
  if_neg (fun h => by
    have := (Bool.and_eq_true _ _ ▸ h : _ ∧ _).2
    exact absurd (hfits.symm.trans this) (by decide))

/-- A block that is not PRIV goes out at once where nothing of its stream waits. -/
theorem gateBlockArrive_go {g stream step : Nat} {bytes : List Byte} (hout : (s.gate g).outside = [])
    (hopen : (s.ctx (Header.ofBytes bytes).ctx).gate = 0) (hpriv : (Header.ofBytes bytes).priv = false)
    (hwait : (s.gate g).held.any (fun y => y.stream == stream && !y.ready) = false) :
    Out.gate g stream bytes ∈ (gateBlockArrive s g stream step bytes).sent ∧
      ((s.gate g).held = [] → ((gateBlockArrive s g stream step bytes).gate g).held = []) := by
  have hact : s.gateAct g (arriving s g stream step bytes) = .go := gateAct_go s hopen hpriv
  have hput := gate_gatePut s g (arriving s g stream step bytes).bytes.length (setReady (arriving s g stream step bytes) true)
  rw [gateBlockArrive_fits s hout (gateFits_go s hact hwait),
    gateTake_put s (ready := true) (by rw [show (arriving s g stream step bytes).priv = false from hpriv, Bool.and_false]) hact,
    gateSettle_of_outside _ ((congrArg GateSt.outside hput).trans hout)]
  refine ⟨mem_gateFlush_sent (b := setReady (arriving s g stream step bytes) true) _ ?_, fun hnone => ?_⟩
  · rw [congrArg GateSt.held hput]
    exact mem_leave_concat rfl _ [] rfl hwait
  · rw [gate_gateFlush, congrArg GateSt.held hput, hnone, List.nil_append, leave_ready rfl]

/-- A PRIV block without a verdict is held in a cell that is empty. -/
theorem gateBlockArrive_hold {g stream step : Nat} {bytes : List Byte} (hout : (s.gate g).outside = [])
    (hact : s.gateAct g (arriving s g stream step bytes) = .hold) (hon : s.isSet uHCH HCH_CTRL_DISABLE = false)
    (hnone : (s.gate g).held = []) (hlen : bytes.length ≤ gateSpace) :
    (gateBlockArrive s g stream step bytes).sent = s.sent ∧
      ((gateBlockArrive s g stream step bytes).gate g).held.map (fun b => (b.stream, b.bytes)) = [(stream, bytes)] := by
  have hput := gate_gatePut s g (arriving s g stream step bytes).bytes.length (setReady (arriving s g stream step bytes) false)
  have hleave : leave [] (({ s.gate g with held := (s.gate g).held ++ [setReady (arriving s g stream step bytes) false] } : GateSt).held) =
      ([], [setReady (arriving s g stream step bytes) false]) := by
    dsimp only
    rw [hnone]
    exact leave_waiting rfl
  rw [gateBlockArrive_fits s hout (by rw [gateFits_hold s hact, hnone]; simpa [heldBytes, arriving] using hlen),
    gateTake_put s (ready := false) (by rw [hon, Bool.false_and]) hact, gateSettle_of_outside _ ((congrArg GateSt.outside hput).trans hout)]
  refine ⟨?_, ?_⟩
  · rw [gateFlush_sent_of_none _ (by rw [hput, hleave])]
    exact count_sent _ _ _ _ _
  · rw [gate_gateFlush, hput, hleave]
    rfl

/-- A PRIV block that finds no space waits outside. -/
theorem gateBlockArrive_full {g stream step : Nat} {bytes : List Byte} (hout : (s.gate g).outside = [])
    (hact : s.gateAct g (arriving s g stream step bytes) = .hold) (hlen : gateSpace < heldBytes (s.gate g).held + bytes.length) :
    (gateBlockArrive s g stream step bytes).sent = s.sent ∧ ((gateBlockArrive s g stream step bytes).gate g).held = (s.gate g).held ∧
      ((gateBlockArrive s g stream step bytes).gate g).outside.map (·.bytes) = [bytes] := by
  rw [gateBlockArrive_waits s (by rw [gateFits_hold s hact]; exact decide_eq_false (by simpa [arriving] using hlen)), gate_updGate_same, hout]
  exact ⟨rfl, rfl, rfl⟩

/-! A verdict. -/

/-- The cell with its verdict noted and its one block let out goes out with it. -/
theorem gateSettle_lone {g : Nat} {b : HeldBlock} {u : State} (hu : (u.gate g).held = [setReady b true]) (ho : (u.gate g).outside = []) :
    Out.gate g b.stream b.bytes ∈ (u.gateSettle g).sent ∧ ((u.gateSettle g).gate g).held = [] := by
  rw [gateSettle_of_outside u ho]
  refine ⟨mem_gateFlush_sent (b := setReady b true) u ?_, ?_⟩
  · rw [hu, leave_ready rfl]
    exact List.mem_singleton_self _
  · rw [gate_gateFlush, hu, leave_ready rfl]

section
variable {s} {g c t : Nat} {b : HeldBlock} (hheld : (s.gate g).held = [b]) (hout : (s.gate g).outside = []) (hpriv : b.priv = true)
  (hready : b.ready = false) (hc : b.ctx = c) (ht : b.step = t)
include hheld hout hpriv hready hc ht

theorem gateVerdict_pass : Out.gate g b.stream b.bytes ∈ (gateVerdict s g c t .pass).sent ∧ ((gateVerdict s g c t .pass).gate g).held = [] := by
  unfold gateVerdict
  extract_lets mark marked mine judged
  refine gateSettle_lone ?_ ?_
  · simp [judged, marked, putMark, hheld, mine, hpriv, hready, hc, ht, setReady]
  · simp [judged, marked, putMark, hout]

theorem gateVerdict_fail_redo (hredo : b.redo = true) :
    Out.gate g b.stream b.bytes ∈ (gateVerdict s g c t .fail).sent ∧ ((gateVerdict s g c t .fail).gate g).held = [] := by
  unfold gateVerdict
  extract_lets mark marked mine judged
  refine gateSettle_lone ?_ ?_
  · simp [judged, State.gateDiscard, gate_congr _ (count_gates _ _ _ _ _), marked, putMark, hheld, mine, hpriv, hready, hc, ht, hredo, setReady]
  · simp [judged, State.gateDiscard, gate_congr _ (count_gates _ _ _ _ _), marked, putMark, hout]

theorem gateVerdict_fail_original (hnotice : b.notice = false) (hredo : b.redo = false) :
    (gateVerdict s g c t .fail).sent = s.sent ∧ ((gateVerdict s g c t .fail).gate g).held = [] := by
  unfold gateVerdict
  extract_lets mark marked mine judged
  have hjudged : (judged.gate g).held = [] := by
    simp [judged, State.gateDiscard, gate_congr _ (count_gates _ _ _ _ _), marked, putMark, hheld, mine, hpriv, hready, hc, ht, hredo, hnotice]
  have ho : (judged.gate g).outside = [] := by
    simp [judged, State.gateDiscard, gate_congr _ (count_gates _ _ _ _ _), marked, putMark, hout]
  rw [gateSettle_of_outside judged ho, gateFlush_sent_of_none judged (by rw [hjudged]; rfl), gate_gateFlush, hjudged]
  refine ⟨?_, rfl⟩
  have hk : Kept (maskOf [.gates, .ecnt, .rcnt]) s judged :=
    kept_updGate (kept_gateDiscard (kept_updGate (.refl _ s) (by decide)) (by decide)) (by decide)
  exact hk.parts .sent (by decide)

omit hc ht in
/-- The backstop sends out the block's notice in its place and marks its step noticed. -/
theorem gateBackstop_lone (hnotice : b.notice = false) (hmark : gateMark (s.gate g) b.ctx b.step = none) :
    ((gateBackstop s g).gate g).held = [] ∧ (gateMark ((gateBackstop s g).gate g) b.ctx b.step).map (·.noticed) = some true := by
  obtain ⟨count, hw⟩ : ∃ count, (s.gateWithhold g b.ctx b.step 2 (fun y => y.priv && !y.ready && y.arrived == b.arrived)).gate g =
      putMark { s.gate g with held := [noticeOf b count 2] } ⟨b.ctx, b.step, none, true, false⟩ := by
    unfold State.gateWithhold
    extract_lets x pick gone mark counted
    have hpick : pick b = true := by simp [pick, hnotice, hpriv, hready]
    have hgone : gone = [b] := by simp [gone, x, hheld, hpick]
    rw [hgone]
    dsimp -zeta only
    extract_lets told
    have hm : mark = ⟨b.ctx, b.step, none, false, false⟩ := by simp [mark, x, hmark]
    have htold : Kept (allBut .gates) s told :=
      .ite (kept_count (.refl _ s) (by decide))
        (kept_notify (kept_count (kept_count (kept_count (.refl _ s) (by decide)) (by decide)) (by decide)) (by decide))
    rw [gate_updGate_same, gate_congr _ (htold.parts .gates (by decide)), hm, hheld]
    exact ⟨1, by simp [withholdIn, hpick, x]⟩
  have ho : ((s.gateWithhold g b.ctx b.step 2 (fun y => y.priv && !y.ready && y.arrived == b.arrived)).gate g).outside = [] := by
    rw [hw]
    exact hout
  have hb : gateBackstop s g = (s.gateWithhold g b.ctx b.step 2 (fun y => y.priv && !y.ready && y.arrived == b.arrived)).gateSettle g := by
    unfold gateBackstop
    rw [hheld, List.find?_cons_of_pos (by rw [hready]; rfl)]
  rw [hb, gateSettle_of_outside _ ho, gate_gateFlush, hw]
  refine ⟨?_, ?_⟩
  · show (leave [] [noticeOf b count 2]).2 = []
    rw [leave_ready rfl]
  · show (gateMark (putMark _ _) b.ctx b.step).map (·.noticed) = some true
    simp [gateMark, putMark]
end

/-- Settles O12: clause by clause, from the act of the block and from what leaves the cell's queue. -/
theorem gateCells : Obligations.GateCells := by
  unfold Obligations.GateCells
  intro g s
  refine ⟨fun stream step bytes => ?_, fun b' ctx step hheld hout hpriv hready hnotice hc ht => ⟨?_, fun hredo => ?_, fun hredo => ?_, fun hrun hmark => ?_⟩⟩
  · intro x h hout hopen
    refine ⟨fun hpriv hwait => ⟨_, rfl, gateBlockArrive_go s hout hopen hpriv hwait⟩, fun hpriv hon hcell htaint hmark => ?_⟩
    have hact : s.gateAct g.val (arriving s g.val stream.toNat step.toNat bytes) = .hold := gateAct_hold s hon hopen hpriv hcell htaint hmark
    exact ⟨fun hnone hlen => ⟨_, rfl, gateBlockArrive_hold s hout hact hon hnone hlen⟩, fun hlen => ⟨_, rfl, gateBlockArrive_full s hout hact hlen⟩⟩
  · exact ⟨_, rfl, gateVerdict_pass hheld hout hpriv hready hc ht⟩
  · exact ⟨_, rfl, gateVerdict_fail_original hheld hout hpriv hready hc ht hnotice hredo⟩
  · exact ⟨_, rfl, gateVerdict_fail_redo hheld hout hpriv hready hc ht hredo⟩
  · exact runs_of_exec rfl (if_neg (by rw [hrun]; decide)) (gateBackstop_lone hheld hout hpriv hready hnotice hmark)

end Sys2Proof.Machine
end

section
/-! Blocks, lanes and training at a Door (R122, R136, R138, R139, R143-R146, R336, R384). -/
namespace Sys2Proof.Machine
open Sys2Proof Host Sys2Proof.Claims
variable (s : State)

theorem isRetired_of_kept {A : Nat} {s t : State} (h : Kept A s t) (hA : A.testBit Part.ctxs.bit = false) (c : Nat) :
    t.isRetired c = s.isRetired c := by
  unfold State.isRetired
  rw [ctx_congr s (h.parts .ctxs hA)]

/-! Blocks that are sent. -/

theorem mem_doorSend_sent (n st : Nat) (h : Header) (payload : List Byte) : ∃ out, Out.doorTx n st out ∈ (s.doorSend n st h payload).sent := by
  unfold State.doorSend
  extract_lets r stamped body counted
  rw [emit_sent]
  exact ⟨_, List.mem_cons_self⟩

/-- A block of a live context goes out on its stream, whole or as its stand-in. -/
theorem mem_doorTransmitBlock_sent {n : Nat} {bytes : List Byte} (st : Nat) (hopen : (s.door n).shut = false)
    (hlive : s.isRetired (Header.ofBytes bytes).ctx = false) : ∃ out, Out.doorTx n st out ∈ (doorTransmitBlock s n st bytes).sent := by
  unfold doorTransmitBlock
  rw [if_neg (by rw [hopen]; decide)]
  extract_lets u h entered test noted sent absorbed rejected
  have hentered : entered.isRetired h.ctx = false :=
    (isRetired_of_kept (A := allBut .ctxs) (kept_dcount (.refl _ s) (by decide)) (by decide) _).trans hlive
  rw [if_neg (by rw [hentered]; decide)]
  split
  · obtain ⟨out, hout⟩ := mem_doorSend_sent (entered.count u CKU_CNT_BLOCKS_COUNT 1 0) n st h (bytes.drop 16)
    have hk : Kept allButEvents sent (if h.poison then sent.count u CKU_CNT_POISON_IN_COUNT 1 0 else sent) :=
      .ite (kept_count (.refl _ _) (by decide)) (.refl _ _)
    exact ⟨out, hk.said.subset hout⟩
  · obtain ⟨out, hout⟩ := mem_doorSend_sent rejected n st (standIn h) []
    have hk : Kept allButEvents (rejected.doorSend n st (standIn h) [])
        ((rejected.doorSend n st (standIn h) []).raiseOnce st 0x6004 (puDor n) st test h.len) := kept_raiseOnce (.refl _ _) (by decide)
    exact ⟨out, hk.said.subset hout⟩

/-- A block that is absorbed as a retired context's counts once, and its context is the last. -/
theorem door_doorRetired (n c path bytes absorbed : Nat) : ∃ k, (s.doorRetired n c path bytes absorbed).door n =
    { s.door n with retBlocks := (s.door n).retBlocks + 1, retBytes := k, retLast := c } := by
  unfold State.doorRetired
  extract_lets counted absorbedAll noted d
  have hk : Kept (allBut .doors) s (absorbedAll.updCtx c (fun x => { x with seenCut := absorbedAll.cutNo + 1 })) :=
    kept_updCtx (kept_count (kept_count (kept_count (kept_dcount (.refl _ s) (by decide)) (by decide)) (by decide)) (by decide)) (by decide)
  rw [door_congr _ ((kept_raiseOnce (A := allBut .doors) (.refl _ noted) (by decide)).parts .doors (by decide))]
  unfold noted
  rw [door_updDoor_same, door_congr _ (hk.parts .doors (by decide))]
  exact ⟨_, rfl⟩

section
variable {s} {n : Nat} {bytes : List Byte} (hopen : (s.door n).shut = false)
include hopen

/-- A block of a retired context is counted, reported and absorbed. -/
theorem doorTransmitBlock_retired (st : Nat) (hret : s.isRetired (Header.ofBytes bytes).ctx = true) :
    doorTransmitBlock s n st bytes = ((if headerTest (Header.ofBytes bytes) none = 0 then s.dcount n dTXI bytes.length
      else ((s.dcount n dTXI bytes.length).count (uDOR n) CKU_CNT_REJECT_COUNT 1 0).raiseOnce st 0x6004 (puDor n) st
        (headerTest (Header.ofBytes bytes) none) (Header.ofBytes bytes).len).dcount n dABSTX bytes.length).doorRetired n
          (Header.ofBytes bytes).ctx 0 bytes.length 0 := by
  unfold doorTransmitBlock
  rw [if_neg (by rw [hopen]; decide)]
  extract_lets u h entered test noted sent absorbed rejected
  have hentered : entered.isRetired h.ctx = true :=
    (isRetired_of_kept (A := allBut .ctxs) (kept_dcount (.refl _ s) (by decide)) (by decide) _).trans hret
  rw [if_pos hentered]

theorem doorTransmitBlock_retired_counts (st : Nat) (hret : s.isRetired (Header.ofBytes bytes).ctx = true) :
    (doorTransmitBlock s n st bytes).sent = s.sent ∧
      ((doorTransmitBlock s n st bytes).door n).retBlocks = (s.door n).retBlocks + 1 ∧
      ((doorTransmitBlock s n st bytes).door n).retLast = (Header.ofBytes bytes).ctx := by
  rw [doorTransmitBlock_retired hopen st hret]
  generalize hnoted : ((if headerTest (Header.ofBytes bytes) none = 0 then s.dcount n dTXI bytes.length
    else _ : State).dcount n dABSTX bytes.length) = noted
  have hk : Kept (maskOf [.regs, .ecnt, .rcnt, .transit, .marks]) s noted := by
    rw [← hnoted]
    exact kept_dcount (.ite (kept_dcount (.refl _ s) (by decide))
      (kept_raiseOnce (kept_count (kept_dcount (.refl _ s) (by decide)) (by decide)) (by decide))) (by decide)
  obtain ⟨k, hdoor⟩ := door_doorRetired noted n (Header.ofBytes bytes).ctx 0 bytes.length 0
  rw [hdoor, door_congr _ (hk.parts .doors (by decide))]
  refine ⟨?_, rfl, rfl⟩
  rw [(kept_doorRetired (A := allBut .sent) (.refl _ noted) (by decide)).parts .sent (by decide)]
  exact hk.parts .sent (by decide)

/-- A block whose header fails its test raises 0x6004 with the test. -/
theorem mem_doorTransmitBlock_transit {st : Nat} (hfail : headerTest (Header.ofBytes bytes) none ≠ 0)
    (hm : s.marks.contains (puDor n, 0x6004, st) = false) :
    event s 0x6004 (puDor n) st (headerTest (Header.ofBytes bytes) none) (Header.ofBytes bytes).len ∈ (doorTransmitBlock s n st bytes).transit := by
  have hsaid : ∀ t : State, Kept (allBut .marks &&& allButTime) s t → event s 0x6004 (puDor n) st (headerTest (Header.ofBytes bytes) none)
      (Header.ofBytes bytes).len ∈ (t.raiseOnce st 0x6004 (puDor n) st (headerTest (Header.ofBytes bytes) none) (Header.ofBytes bytes).len).transit :=
    fun t h => by
      rw [← h.event_eq (by decide) (by decide)]
      exact mem_raiseOnce_transit (by rw [h.parts .marks (by decide)]; exact hm) _ _ _
  cases hret : s.isRetired (Header.ofBytes bytes).ctx with
  | true =>
    rw [doorTransmitBlock_retired hopen st hret, if_neg hfail]
    exact (kept_doorRetired (A := allButEvents) (kept_dcount (.refl _ _) (by decide)) (by decide)).event (by decide)
      (hsaid _ (kept_count (kept_dcount (.refl _ s) (by decide)) (by decide)))
  | false =>
    unfold doorTransmitBlock
    rw [if_neg (by rw [hopen]; decide)]
    extract_lets u h entered test noted sent absorbed rejected
    have hentered : entered.isRetired h.ctx = false :=
      (isRetired_of_kept (A := allBut .ctxs) (kept_dcount (.refl _ s) (by decide)) (by decide) _).trans hret
    rw [if_neg (by rw [hentered]; decide), if_neg hfail]
    exact hsaid _ (kept_doorSend (kept_dcount (kept_count (kept_count (kept_dcount (.refl _ s) (by decide)) (by decide)) (by decide))
      (by decide)) (by decide))

/-- An incoming block that the Door judges fit to pass goes on with its mark. -/
theorem mem_doorReceiveBlock_sent {st : Nat} (hst : st < 4093) (limit : Nat) {out : List Byte} {bad : Bool}
    (hlive : s.isRetired (Header.ofBytes bytes).ctx = false)
    (hpass : (((s.dcount n dRXI bytes.length).count (uDOR n) DOR_CR_CONS_COUNT ((bytes.length + 15) / 16)).doorJudge n st limit bytes).2.1 =
      some (out, bad)) : Out.doorRx n st out bad ∈ (doorReceiveBlock s n st limit bytes).sent := by
  unfold doorReceiveBlock
  rw [if_neg (by rw [hopen]; decide)]
  extract_lets counted r h absorbed
  have hr : r.1.isRetired h.ctx = false :=
    (isRetired_of_kept (A := allBut .ctxs) (kept_doorJudge (kept_count (kept_dcount (.refl _ s) (by decide)) (by decide)) (by decide))
      (by decide) _).trans hlive
  rw [if_neg (by rw [hr, Bool.and_false]; decide), show r.2.1 = some (out, bad) from hpass]
  show Out.doorRx n st out bad ∈ (absorbed.doorForward n st out bad).sent
  unfold State.doorForward
  rw [if_neg (by omega), emit_sent]
  exact List.mem_cons_self
end

/-! Training and lanes. -/

/-- A link that trains has every lane up but those that are held down. -/
theorem linkTrained_lanes (n : Nat) : ((linkTrained s n).door n).lanes = 15 - (s.door n).heldLanes % 16 := by
  unfold linkTrained
  extract_lets up trained told
  have htold : Kept (allBut .doors) trained told := .ite (kept_raise (.refl _ _) (by decide)) (.refl _ _)
  have hrest : Kept (allBut .doors) told (if (told.door n).shut then told else (told.doorRestart n).unvoid 3 n) :=
    .ite (.refl _ _) (kept_unvoid (kept_doorRestart (.refl _ _) (by decide)) (by decide))
  rw [door_congr _ (hrest.parts .doors (by decide)), door_congr _ (htold.parts .doors (by decide))]
  unfold trained
  rw [door_updDoor_same]
  rfl

/-- A lane that falls leaves the link; it is told unless its loop-back stands, and the last one in any case. -/
theorem laneDrop_up {n l : Nat} (hup : bit (s.door n).lanes l = true) (x : Nat) :
    ((laneDrop s n l x).door n).lanes = (s.door n).lanes - 2 ^ l ∧
      ((s.door n).lb.getD l 0 = 0 → event s 0xC010 (puLane n l) (s.door n).lanes ((s.door n).lanes - 2 ^ l) x ∈ (laneDrop s n l x).transit) ∧
      ((s.door n).lanes = 2 ^ l → event s 0xC013 (puDor n) ∈ (laneDrop s n l x).transit) := by
  unfold laneDrop
  extract_lets old new fallen told
  rw [if_neg (by rw [hup]; decide)]
  have htold : Kept (maskOf [.regs, .ecnt, .transit]) fallen told := .ite (.refl _ _) (kept_raise (.refl _ _) (by decide))
  have hend : Kept (maskOf [.regs, .ecnt, .transit]) told (if new = 0 then told.raise 0xC013 (puDor n) 0 else told) :=
    .ite (kept_raise (.refl _ _) (by decide)) (.refl _ _)
  refine ⟨?_, fun hlb => hend.event (by decide) ?_, fun hlast => ?_⟩
  · rw [door_congr _ (hend.parts .doors (by decide)), door_congr _ (htold.parts .doors (by decide))]
    unfold fallen
    rw [door_updDoor_same]
  · have hlb' : ¬ (fallen.door n).lb.getD l 0 ≠ 0 := by
      unfold fallen
      rw [door_updDoor_same]
      exact not_not_intro hlb
    unfold told
    rw [if_neg hlb', raise_transit]
    exact List.mem_append_right _ (List.mem_singleton_self _)
  · rw [if_pos (show new = 0 by unfold new old; omega), raise_transit]
    refine List.mem_append_right _ (List.mem_singleton.mpr ?_)
    rw [← (kept_updDoor (A := allButTime) (.refl _ s) (by decide)).event_of_time (t := fallen), ← htold.event_eq (by decide) (by decide)]
    rfl

/-- The Door with a lane back up; a lane that fell for its loop-back leaves it. -/
def laneUp (l : Nat) (d : DoorSt) : DoorSt :=
  { d with lanes := d.lanes + 2 ^ l, lb := if d.lb.getD l 0 = 3 then d.lb.set l 0 else d.lb }

/-- A lane that is down and not held comes back; it is told unless it fell for its loop-back. -/
theorem laneReturn_down {n l : Nat} (hheld : bit (s.door n).heldLanes l = false) (hdown : bit (s.door n).lanes l = false) (us : Nat) :
    ((laneReturn s n l us).door n) = laneUp l (s.door n) ∧
      ((s.door n).lb.getD l 0 = 0 → raised s (laneReturn s n l us) 0xC012 (puLane n l) us) ∧
      ((s.door n).lb.getD l 0 ≠ 0 → (laneReturn s n l us).transit = s.transit) := by
  unfold laneReturn
  extract_lets d back
  rw [if_neg (by rw [hheld, hdown]; decide)]
  have hback : back.door n = laneUp l (s.door n) := door_updDoor_same s n _
  refine ⟨?_, fun hlb => ?_, fun hlb => ?_⟩
  · split
    · exact hback
    · exact hback
  · rw [if_neg (not_not_intro hlb)]
    rfl
  · rw [if_pos hlb]
    rfl

theorem getD_laneUp_lb {l : Nat} {d : DoorSt} (h : d.lb.getD l 0 = 3) : (laneUp l d).lb.getD l 0 = 0 := by
  show (if d.lb.getD l 0 = 3 then d.lb.set l 0 else d.lb).getD l 0 = 0
  rw [if_pos h, List.getD_eq_getElem?_getD, List.getElem?_set_self']
  cases d.lb[l]? <;> rfl

theorem laneReturn_eng (n l us : Nat) : (laneReturn s n l us).eng (uDOR n) = s.eng (uDOR n) := by
  have hk : Kept (maskOf [.doors, .regs, .ecnt, .transit]) s (laneReturn s n l us) := kept_laneReturn (.refl _ s) (by decide)
  exact eng_congr s (hk.parts .engs (by decide)) _

/-- A Door's steep that waits for the lane goes on with its loop. -/
theorem laneBack_goesOn (n l us : Nat) : laneBack s n l us = laneReturn s n l us ∨
    ∃ x, s.eng (uDOR n) = some x ∧ laneBack s n l us = (laneReturn s n l us).laneLoop n x.slice := by
  unfold laneBack
  dsimp only
  split
  · next x hx =>
    split
    · exact .inr ⟨x, (laneReturn_eng s n l us).symm.trans hx, rfl⟩
    · exact .inl rfl
  · exact .inl rfl

/-- Settles O13: clause by clause, from the rules of the Door's paths and lanes above. -/
theorem doorBlocks : Obligations.DoorBlocks := by
  unfold Obligations.DoorBlocks
  intro n s goesOn
  refine ⟨fun st limit bytes hshut => ⟨runs_of_exec rfl (if_pos hshut) rfl, runs_of_exec rfl (if_pos hshut) rfl⟩,
    fun st bytes hopen => ⟨fun hlive => ⟨_, rfl, mem_doorTransmitBlock_sent s _ hopen hlive⟩,
      fun hret => ⟨_, rfl, doorTransmitBlock_retired_counts hopen _ hret⟩,
      fun hfail hm => ⟨_, rfl, mem_doorTransmitBlock_transit hopen hfail hm⟩⟩,
    fun st limit bytes out bad hopen hst hlive hpass => ⟨_, rfl, mem_doorReceiveBlock_sent hopen hst _ hlive hpass⟩,
    ⟨_, rfl, linkTrained_lanes s _⟩,
    fun l x => ⟨fun hup => ⟨_, rfl, laneDrop_up s hup x⟩, fun hdown hheld hlb => ?_, fun hdown hheld hlb => ?_⟩⟩
  · obtain ⟨hdoor, htold, -⟩ := laneReturn_down s hheld hdown x
    exact ⟨_, rfl, _, laneBack_goesOn s _ _ _, congrArg DoorSt.lanes hdoor, htold hlb⟩
  · obtain ⟨hdoor, -, hquiet⟩ := laneReturn_down s hheld hdown x
    exact ⟨_, rfl, _, laneBack_goesOn s _ _ _, congrArg DoorSt.lanes hdoor, (congrArg (fun d => d.lb.getD l.val 0) hdoor).trans (getD_laneUp_lb hlb),
      hquiet (by omega)⟩

end Sys2Proof.Machine
end

section
/-! Bytes of memory after bytes were written (assumption 5). -/
namespace Sys2Proof.Machine
open Sys2Proof Host Sys2Proof.Claims
variable (s : State)

theorem byteAt_congr {s t : State} (h : t.mem = s.mem) (a : Nat) : byteAt t a = byteAt s a := by unfold byteAt; rw [h]

/-- The written bytes in their place, each other byte as before. -/
theorem byteAt_poke (k : Nat) (bs : List Byte) (a : Nat) :
    byteAt (s.poke k bs) a = if k ≤ a ∧ a < k + bs.length then bs.getD (a - k) 0 else byteAt s a := by
  unfold byteAt State.poke
  dsimp only
  induction bs using List.reverseRecOn with
  | nil => rw [if_neg (by rw [List.length_nil]; omega)]; rfl
  | append_singleton bs b ih =>
    rw [List.length_append, List.length_singleton, List.range_succ, List.zip_append (List.length_range).symm, List.foldl_append,
      List.zip_cons_cons, List.zip_nil_left, List.foldl_cons, List.foldl_nil]
    by_cases ha : a = k + bs.length
    · subst ha
      rw [Tab.get_put_same, if_pos ⟨Nat.le_add_right _ _, Nat.lt_succ_self _⟩, Nat.add_sub_cancel_left]
      simp
    · rw [Tab.get_put_other _ _ ha, ih]
      by_cases hin : k ≤ a ∧ a < k + bs.length
      · rw [if_pos hin, if_pos (by omega), List.getD_append _ _ _ _ (by omega)]
      · rw [if_neg hin, if_neg (by omega)]

theorem byteAt_poke_out {k : Nat} {bs : List Byte} {a : Nat} (h : a < k ∨ k + bs.length ≤ a) : byteAt (s.poke k bs) a = byteAt s a := by
  rw [byteAt_poke, if_neg (by omega)]
theorem byteAt_poke_in {k i : Nat} {bs : List Byte} (h : i < bs.length) : byteAt (s.poke k bs) (k + i) = bs.getD i 0 := by
  rw [byteAt_poke, if_pos (by omega), Nat.add_sub_cancel_left]

/-- Written bytes read back. -/
theorem peek_poke (k : Nat) (bs : List Byte) : (s.poke k bs).peek k bs.length = bs := by
  refine List.ext_getElem (by simp [State.peek]) fun i _ hi => ?_
  have hb := byteAt_poke_in s (k := k) hi
  rw [List.getD_eq_getElem _ _ hi] at hb
  rw [← hb]
  simp [State.peek, byteAt]

/-- A host's block at a Cellar whose channel is not fenced leaves memory as the bytes that it stores do. -/
theorem cellarWriteBlock_mem {c ch : Nat} (h : s.chanFenced c ch = false) (addr : Nat) (bs : List Byte) :
    (cellarWriteBlock s c ch addr bs).mem = (s.poke (stackKey c ch addr) bs).mem := by
  unfold cellarWriteBlock
  rw [if_neg (by rw [h]; decide)]
  extract_lets stored repaired gs overtaken judged
  have hover : Kept (allBut .mem) stored overtaken := kept_updCel (kept_writeRepair (.refl _ _) (by decide)) (by decide)
  have hjudged : Kept (allBut .mem) stored judged.1 := kept_windowJudge hover (by decide)
  have hend : Kept (allBut .mem) stored (if judged.2 then judged.1.each gs (fun s g => s.psnEnter c ch g 3)
      else judged.1.psnLeave c (fun p => p.ch == ch && decide (addr ≤ 256 * p.gran ∧ 256 * p.gran + 256 ≤ addr + bs.length))) :=
    .ite (kept_each hjudged fun _ _ k => kept_psnEnter k (by decide)) (kept_psnLeave hjudged (by decide))
  rw [hend.parts .mem (by decide)]
  exact poke_mem_congr (count_mem _ _ _ _ _) _ _
theorem cellarWriteBlock_fenced {c ch : Nat} (h : s.chanFenced c ch = true) (addr : Nat) (bs : List Byte) :
    cellarWriteBlock s c ch addr bs = s := if_pos h

end Sys2Proof.Machine
end

section
/-! What the commands that store bytes leave of memory (R136, R335, R347, R414, R575). -/
namespace Sys2Proof.Machine
open Sys2Proof Host Sys2Proof.Claims
variable (s : State)

/-! A debug write and a trace write. -/

/-- A debug write with a place stores its word there when it is unlocked, and nothing else. -/
theorem memoryWrite_byteAt {m : Moldom} {k : Nat} (hp : s.memPlace m.target.toNat m.addr.toNat = .inl k)
    {t : State} (ht : exec (.memoryWrite m) s = .next t) {a : Nat} :
    (a < k ∨ k + 4 ≤ a → byteAt t a = byteAt s a) ∧
      (unlocked s → ∀ i, i < 4 → a = k + i → byteAt t a = (leBytes 4 m.data.toNat).getD i 0) := by
  obtain rfl : _ = t := Outcome.next.inj ht
  have hlen : (leBytes 4 m.data.toNat).length = 4 := by simp [leBytes]
  refine ⟨fun hout => ?_, fun ⟨hb, hu⟩ i hi ha => ?_⟩
  · unfold State.unlockedOnly State.moldom
    split
    · rfl
    · dsimp only
      split
      · exact byteAt_congr (kept_raiseOnce (A := allBut .mem) (.refl _ s) (by decide) |>.parts .mem (by decide)) a
      · rw [hp]
        exact byteAt_poke_out s (by rw [hlen]; exact hout)
  · unfold State.unlockedOnly
    rw [moldom_free hb, if_neg (by rw [hu]; decide)]
    dsimp only
    rw [hp, ha]
    exact byteAt_poke_in s (by rw [hlen]; exact hi)

/-- A debug write that has no place stores nothing. -/
theorem memoryWrite_nowhere {m : Moldom} {st : Nat} (hp : s.memPlace m.target.toNat m.addr.toNat = .inr st)
    {t : State} (ht : exec (.memoryWrite m) s = .next t) (a : Nat) : byteAt t a = byteAt s a := by
  obtain rfl : _ = t := Outcome.next.inj ht
  unfold State.unlockedOnly State.moldom
  split
  · rfl
  · dsimp only
    split
    · exact byteAt_congr (kept_raiseOnce (A := allBut .mem) (.refl _ s) (by decide) |>.parts .mem (by decide)) a
    · rw [hp]
      rfl

/-- A segment's record is stored in its place, and nothing else. -/
theorem segWrite_byteAt {k : Nat} {x : TraceRec} {a : Nat}
    (hout : a < s.segKey k (s.seg k).next ∨ s.segKey k (s.seg k).next + (recBytes x).length ≤ a) : byteAt (s.segWrite k x) a = byteAt s a := by
  unfold State.segWrite
  extract_lets g cap stored
  split
  · exact byteAt_congr (kept_raiseOnce (A := allBut .mem) (kept_count (kept_updSeg (.refl _ s) (by decide)) (by decide)) (by decide)
      |>.parts .mem (by decide)) a
  · have hstored : byteAt stored a = byteAt s a := by
      unfold stored
      rw [byteAt_poke_out _ hout]
      exact byteAt_congr ((kept_bulk (A := allBut .mem) (.refl _ s) (by decide)).parts .mem (by decide)) a
    split
    · exact (byteAt_congr (updSeg_mem _ _ _) a).trans hstored
    · split
      · exact (byteAt_congr ((kept_raiseOnce (A := allBut .mem) (kept_updSeg (.refl _ stored) (by decide)) (by decide)).parts .mem (by decide)) a).trans hstored
      · exact (byteAt_congr (updSeg_mem _ _ _) a).trans hstored

/-! A march. -/

/-- A stretch outside the areas ends with the channel. -/
theorem lt_of_mem_outside {l : List (Nat × Nat)} {a i : Nat} {x : Nat × Nat} (hx : x ∈ outside l a) (hlo : x.1 ≤ i) (hhi : i < x.1 + x.2) :
    i < chanBytes := by
  induction l generalizing a with
  | nil =>
    obtain rfl := List.mem_singleton.mp hx
    dsimp only at hlo hhi
    omega
  | cons y l ih =>
    rcases List.mem_cons.mp hx with rfl | hx
    · dsimp only at hlo hhi
      omega
    · exact ih hx

/-- The stretches outside areas in rising order hold exactly the bytes from their start on that no area holds. -/
theorem mem_outside_iff {l : List (Nat × Nat)} (hl : l.Pairwise (fun x y => x.1 ≤ y.1)) {a i : Nat} (hi : i < chanBytes) :
    (∃ x ∈ outside l a, x.1 ≤ i ∧ i < x.1 + x.2) ↔ a ≤ i ∧ ∀ x ∈ l, ¬ (x.1 ≤ i ∧ i < x.1 + x.2) := by
  induction l generalizing a with
  | nil =>
    simp only [outside, List.mem_singleton, exists_eq_left, List.not_mem_nil, false_imp_iff, implies_true, and_true]
    omega
  | cons y l ih =>
    obtain ⟨b, n⟩ := y
    obtain ⟨hfirst, hrest⟩ := List.pairwise_cons.mp hl
    rw [outside, List.exists_mem_cons_iff, ih hrest, List.forall_mem_cons]
    dsimp only
    constructor
    · rintro (⟨hlo, hhi⟩ | ⟨hlo, hno⟩)
      · exact ⟨hlo, by omega, fun x hx h => by have := hfirst x hx; dsimp only at this; omega⟩
      · exact ⟨by omega, by omega, hno⟩
    · rintro ⟨hlo, hout, hno⟩
      by_cases h : i < b
      · exact .inl ⟨hlo, by omega⟩
      · exact .inr ⟨by omega, hno⟩

/-- An element put in its place keeps a list in order, and a list that is sorted is in order. -/
theorem pairwise_insertBy (x : Nat × Nat) {l : List (Nat × Nat)} (hl : l.Pairwise (fun a b => a.1 ≤ b.1)) :
    (insertBy (fun a b => decide (a.1 ≤ b.1)) x l).Pairwise (fun a b => a.1 ≤ b.1) ∧
      ∀ y ∈ insertBy (fun a b => decide (a.1 ≤ b.1)) x l, y = x ∨ y ∈ l := by
  induction l with
  | nil => exact ⟨List.pairwise_singleton _ _, fun y h => .inl (List.mem_singleton.mp h)⟩
  | cons z l ih =>
    obtain ⟨hz, hl⟩ := List.pairwise_cons.mp hl
    obtain ⟨hp, hmem⟩ := ih hl
    rw [insertBy]
    split
    · next hle =>
      have hxz : x.1 ≤ z.1 := of_decide_eq_true hle
      refine ⟨List.pairwise_cons.mpr ⟨fun y hy => ?_, List.pairwise_cons.mpr ⟨hz, hl⟩⟩, fun y => List.mem_cons.mp⟩
      rcases List.mem_cons.mp hy with rfl | hy
      · exact hxz
      · exact hxz.trans (hz y hy)
    · next hle =>
      have hzx : z.1 ≤ x.1 := (not_le.mp fun h => hle (decide_eq_true h)).le
      refine ⟨List.pairwise_cons.mpr ⟨fun y hy => ?_, hp⟩, fun y hy => ?_⟩
      · rcases hmem y hy with rfl | hy
        · exact hzx
        · exact hz y hy
      · rcases List.mem_cons.mp hy with rfl | hy
        · exact .inr List.mem_cons_self
        · exact (hmem y hy).imp_right (List.mem_cons_of_mem _)
theorem pairwise_sortBy (l : List (Nat × Nat)) : (sortBy (fun a b => decide (a.1 ≤ b.1)) l).Pairwise (fun a b => a.1 ≤ b.1) := by
  induction l with
  | nil => exact .nil
  | cons x l ih => exact (pairwise_insertBy x ih).1

/-- Stretches of a channel written with one byte. -/
def filled (s : State) (c ch : Nat) (v : Byte) (l : List (Nat × Nat)) : State :=
  s.each l (fun s x => s.poke (stackKey c ch x.1) (List.replicate x.2 v))

theorem byteAt_filled_out {c ch : Nat} {v : Byte} {l : List (Nat × Nat)} {a : Nat}
    (h : ∀ x ∈ l, ¬ (stackKey c ch x.1 ≤ a ∧ a < stackKey c ch x.1 + x.2)) : byteAt (filled s c ch v l) a = byteAt s a := by
  induction l generalizing s with
  | nil => rfl
  | cons x l ih =>
    obtain ⟨hx, hl⟩ := List.forall_mem_cons.mp h
    show byteAt (filled (s.poke (stackKey c ch x.1) (List.replicate x.2 v)) c ch v l) a = _
    rw [ih _ hl, byteAt_poke_out s (by rw [List.length_replicate]; omega)]

theorem byteAt_filled_in {c ch : Nat} {v : Byte} {l : List (Nat × Nat)} {a : Nat}
    (h : ∃ x ∈ l, stackKey c ch x.1 ≤ a ∧ a < stackKey c ch x.1 + x.2) : byteAt (filled s c ch v l) a = v := by
  induction l generalizing s with
  | nil =>
    obtain ⟨x, hx, -⟩ := h
    exact absurd hx List.not_mem_nil
  | cons x l ih =>
    show byteAt (filled (s.poke (stackKey c ch x.1) (List.replicate x.2 v)) c ch v l) a = v
    by_cases hl : ∃ y ∈ l, stackKey c ch y.1 ≤ a ∧ a < stackKey c ch y.1 + y.2
    · exact ih _ hl
    · have hx : stackKey c ch x.1 ≤ a ∧ a < stackKey c ch x.1 + x.2 := (List.exists_mem_cons_iff _ _ _).mp h |>.resolve_right hl
      rw [byteAt_filled_out _ fun y hy e => hl ⟨y, hy, e⟩, byteAt_poke, if_pos (by rw [List.length_replicate]; exact hx),
        List.getD_replicate _ (by omega)]

theorem filled_mem_congr {s t : State} (h : t.mem = s.mem) (c ch : Nat) (v : Byte) (l : List (Nat × Nat)) :
    (filled t c ch v l).mem = (filled s c ch v l).mem := by
  induction l generalizing s t with
  | nil => exact h
  | cons x l ih => exact ih (poke_mem_congr h _ _)

/-- A march that was running leaves memory as its stretches, filled, do; another leaves all as it was. -/
theorem marchDone_mem {c ch : Nat} (bad : Nat) (ue : Bool) (hb : bit (s.rd (uCEL c) CEL_STP_STAT_BUSY) ch = true) (a : Nat) :
    byteAt (marchDone s c ch bad ue) a = byteAt (filled s c ch 0xAA#8 (outside (s.marchSkips c ch) 0)) a := by
  unfold marchDone
  extract_lets u busy done
  rw [if_neg (by rw [hb]; decide)]
  have hend : Kept (allBut .mem) done (if bad = 0 && !ue then done.wr u CEL_STP_STAT_PASS (orBit (done.rd u CEL_STP_STAT_PASS) ch)
      else done.stpFailed (puChan c ch) 5 0 (if bad ≠ 0 then 6 else 7) bad) :=
    .ite (kept_wr (.refl _ _) (by decide)) (kept_stpFailed (.refl _ _) (by decide))
  rw [byteAt_congr (hend.parts .mem (by decide))]
  exact byteAt_congr (filled_mem_congr (wr_mem _ _ _ _ _) c ch _ _) a
theorem marchDone_idle {c ch : Nat} (bad : Nat) (ue : Bool) (hb : bit (s.rd (uCEL c) CEL_STP_STAT_BUSY) ch = false) :
    marchDone s c ch bad ue = s := if_pos (by rw [hb]; decide)

theorem stackKey_add (c ch i : Nat) : stackKey c ch i = stackKey c ch 0 + i := by unfold stackKey; omega

theorem marchDone_byteAt_out {c ch bad : Nat} {ue : Bool} {a : Nat} (h : a < stackKey c ch 0 ∨ stackKey c ch chanBytes ≤ a) :
    byteAt (marchDone s c ch bad ue) a = byteAt s a := by
  cases hb : bit (s.rd (uCEL c) CEL_STP_STAT_BUSY) ch with
  | false => rw [marchDone_idle s bad ue hb]
  | true =>
    rw [marchDone_mem s bad ue hb, byteAt_filled_out]
    intro x hx ⟨hlo, hhi⟩
    have hkey := stackKey_add c ch x.1
    have hend := stackKey_add c ch chanBytes
    have := lt_of_mem_outside (i := a - stackKey c ch 0) hx (by omega) (by omega)
    omega

theorem marchDone_byteAt_in {c ch bad : Nat} {ue : Bool} {i : Nat} (hi : i < chanBytes)
    (hb : bit (s.rd (uCEL c) CEL_STP_STAT_BUSY) ch = true) : byteAt (marchDone s c ch bad ue) (stackKey c ch i) =
      if (s.marchSkips c ch).any (fun x => decide (x.1 ≤ i ∧ i < x.1 + x.2)) then byteAt s (stackKey c ch i) else 0xAA#8 := by
  have hi' := stackKey_add c ch i
  have hout := mem_outside_iff (a := 0) (pairwise_sortBy _ : (s.marchSkips c ch).Pairwise (fun x y => x.1 ≤ y.1)) hi
  rw [marchDone_mem s bad ue hb]
  split
  · next hskip =>
    obtain ⟨x, hx, hin⟩ := List.any_eq_true.mp hskip
    refine byteAt_filled_out s fun y hy ⟨hlo, hhi⟩ => ?_
    have hkey := stackKey_add c ch y.1
    exact (hout.mp ⟨y, hy, by omega, by omega⟩).2 x hx (of_decide_eq_true hin)
  · next hskip =>
    obtain ⟨x, hx, hin⟩ := hout.mpr ⟨Nat.zero_le i, fun x hx hin => hskip (List.any_eq_true.mpr ⟨x, hx, decide_eq_true hin⟩)⟩
    have hkey := stackKey_add c ch x.1
    exact byteAt_filled_in s ⟨x, hx, by omega, by omega⟩

/-- A first chunk that the download takes is stored in its place, and one that is refused nowhere. -/
theorem dlChunk_byteAt {m : Msg} (hm : first s 0x0400 m) (h3 : leAt m.payload 0 1 ≠ 3) (h0 : leAt m.payload 4 4 = 0) {a : Nat}
    (hout : a < (s.dlPlace (leAt m.payload 0 1)).1 ∨ (s.dlPlace (leAt m.payload 0 1)).1 + (m.payload.drop 8).length ≤ a) :
    byteAt (dlChunk s) a = byteAt s a := by
  have hrefuse : ∀ st, byteAt ((inHand s m).refuse m st) a = byteAt s a := fun st =>
    byteAt_congr (s := inHand s m) ((kept_refuse (A := allBut .mem) (.refl _ _) (by decide)).parts .mem (by decide)) a
  by_cases hfree : s.dlBlocked (leAt m.payload 0 1) = 0
  · by_cases hfits : (m.payload.drop 8).length ≤ (s.dlPlace (leAt m.payload 0 1)).2
    · rw [byteAt_congr (dlChunk_first_stored hm hfree h0 h3 hfits).1, byteAt_poke_out s hout]
    · unfold dlChunk
      rw [onMsg_first hm]
      extract_lets d off bs n stop begun k stored dup taken
      have hn : n = bs.length := by
        show leAt m.payload 4 4 + bs.length = bs.length
        rw [h0, Nat.zero_add]
      rw [if_neg (not_not_intro (show stop = 0 from hfree)), if_pos (.inr (by rw [hn]; exact not_le.mp hfits))]
      exact hrefuse 4
  · unfold dlChunk
    rw [onMsg_first hm]
    exact (congrArg (byteAt · a) (if_pos hfree)).trans (hrefuse _)

/-- Settles O52: each command's stored bytes, byte by byte. -/
theorem memoryFrames : Obligations.MemoryFrames := by
  unfold Obligations.MemoryFrames
  intro s t a
  refine ⟨fun c ch addr bytes ht => ?_, fun m k ht hp => memoryWrite_byteAt s hp ht, fun m st ht hp => memoryWrite_nowhere s hp ht a,
    fun k acc x xs ht hbuf hout => ?_, fun m ht hm h3 h0 hout => ?_, fun c ch bad ue ht => ?_⟩
  · obtain rfl : _ = t := Outcome.next.inj ht
    refine ⟨fun hout => ?_, fun hf => by rw [cellarWriteBlock_fenced s hf], fun i hi hf ha => ?_⟩
    · cases hf : s.chanFenced c.val ch.val with
      | true => rw [cellarWriteBlock_fenced s hf]
      | false => rw [byteAt_congr (cellarWriteBlock_mem s hf _ _), byteAt_poke_out s hout]
    · rw [byteAt_congr (cellarWriteBlock_mem s hf _ _), ha, byteAt_poke_in s hi]
  · obtain rfl : _ = t := Outcome.next.inj ht
    split
    · rfl
    · unfold traceWrite
      rw [hbuf]
      dsimp only
      split
      · rw [segWrite_byteAt]
        · exact byteAt_congr (updSeg_mem _ _ _) a
        · rw [seg_updSeg_same]
          exact hout
      · rfl
  · obtain rfl : _ = t := Outcome.next.inj ht
    exact dlChunk_byteAt s hm h3 h0 hout
  · obtain rfl : _ = t := Outcome.next.inj ht
    refine ⟨marchDone_byteAt_out s, fun i hi ha hb => ?_⟩
    subst ha
    exact marchDone_byteAt_in s hi hb

end Sys2Proof.Machine
end

section
/-! What a Cellar does with blocks, re-reads, scrubs and its save area (R145, R277-R286, R307-R311, R334). -/
namespace Sys2Proof.Machine
open Sys2Proof Host Sys2Proof.Claims
variable (s : State)

/-! Blocks that are read. -/

/-- A block with a framing failure has failed its check. -/
theorem cellarJudge_bad {bs : List Byte} (h : rxClass s.tbProfile none bs ≠ .pass) (c ch addr : Nat) (again : Bool) :
    (s.cellarJudge c ch addr bs again).2.2.1 = true := by
  unfold State.cellarJudge
  dsimp only
  split
  case h_5 hpass => exact absurd hpass h
  all_goals rfl

theorem readDamaged_bad (c ch addr : Nat) (bs : List Byte) (gs ues : List Nat) : (s.readDamaged c ch addr bs gs ues).2.2.1 = true := by
  unfold State.readDamaged
  extract_lets u w counted again entered j
  show j.2.2.1 = true
  unfold j
  split
  · rfl
  · rfl
  · rfl
  · next hpass _ => exact cellarJudge_bad entered hpass c ch addr false

/-- A read block that is not a test block is delivered, marked bad where a read error stood in it. -/
theorem cellarReadBlock_delivers {c ch : Nat} (h : s.chanFenced c ch = false) (addr merge : Nat) (bs : List Byte) (ce ue : List Nat) :
    ∃ out bad, (cellarReadBlock s c ch addr merge bs ce ue false).sent.head? = some (.cellarRd c ch out bad) ∧ (ue ≠ [] → bad = true) := by
  unfold cellarReadBlock
  rw [if_neg (by decide), if_neg (by rw [h]; decide)]
  extract_lets u gs entered poisoned ces ues counted r out delivered absorbed
  rw [emit_sent]
  refine ⟨_, _, rfl, fun hue => ?_⟩
  have hues : ues.isEmpty = false := by
    obtain ⟨a, l, rfl⟩ := List.exists_cons_of_ne_nil hue
    show (List.eraseDups ((a :: l).map (· / 256))).isEmpty = false
    rw [List.map_cons, List.eraseDups_cons]
    rfl
  unfold r
  rw [if_neg (by rw [hues]; decide)]
  exact readDamaged_bad _ _ _ _ _ _ _

/-- A test block goes nowhere and touches no event. -/
theorem cellarReadBlock_test (c ch addr merge : Nat) (bs : List Byte) (ce ue : List Nat) :
    (cellarReadBlock s c ch addr merge bs ce ue true).sent = s.sent ∧ (cellarReadBlock s c ch addr merge bs ce ue true).transit = s.transit ∧
      (s.mntLoop c ch = false → cellarReadBlock s c ch addr merge bs ce ue true = s) := by
  have hk : Kept (maskOf [.cels, .ecnt, .rcnt]) s (cellarReadBlock s c ch addr merge bs ce ue true) := by
    unfold cellarReadBlock
    rw [if_pos rfl]
    exact .ite (kept_loopBlock (.refl _ s) (by decide)) (.refl _ s)
  refine ⟨hk.parts .sent (by decide), hk.parts .transit (by decide), fun h => ?_⟩
  unfold cellarReadBlock
  rw [if_pos rfl, if_neg (by rw [h]; decide)]

/-! Re-reads. -/

/-- The first clean re-read of a rescan waits for the second. -/
theorem rescanDone_first {c ch : Nat} {bs : List Byte} (ce : List Nat) {r : Rescan}
    (hr : (s.cel c).rescans.find? (fun r => r.ch == ch) = some r) (hp : r.passed = 0) (hx : rxClass s.tbProfile none bs = .pass) :
    ((rescanDone s c ch bs ce []).cel c).rescans = (s.cel c).rescans.map (fun q => if q = r then { q with passed := 1 } else q) := by
  unfold rescanDone
  rw [hr]
  dsimp -zeta only
  extract_lets rest counted gs
  have hk : Kept (maskOf [.ecnt, .rcnt]) s counted := by
    rw [show counted = ((s.count (uCEL c) CEL_BYTES_MAINT bs.length ch).count (uCEL c) CEL_ECC_CE_COUNT ((ce.map (· / 256)).eraseDups).length
      ch).count (uCEL c) CEL_ECC_UE_COUNT 0 ch from rfl]
    exact kept_count (kept_count (kept_count (.refl _ s) (by decide)) (by decide)) (by decide)
  have hprof : counted.tbProfile = s.tbProfile := by
    unfold State.tbProfile
    rw [hk.parts .variant (by decide)]
  rw [if_neg (by rw [hprof, hx]; decide), if_pos hp, cel_updCel_same, cel_congr s (hk.parts .cels (by decide))]

/-! Scrubs. -/

/-- A Cellar's granules that wait for their rewrite are the same. -/
def RewriteKept (c : Nat) (s t : State) : Prop := (t.cel c).rewrite = (s.cel c).rewrite

theorem RewriteKept.trans {c : Nat} {s t u : State} (h : RewriteKept c s t) (h' : RewriteKept c t u) : RewriteKept c s u := Eq.trans h' h
theorem RewriteKept.of_kept {A c : Nat} {s t : State} (h : Kept A s t) (hA : A.testBit Part.cels.bit = false) : RewriteKept c s t := by
  unfold RewriteKept
  rw [cel_congr s (h.parts .cels hA)]
theorem rewriteKept_updCel (c : Nat) {f : CelSt → CelSt} (hf : ∀ x, (f x).rewrite = x.rewrite) : RewriteKept c s (s.updCel c f) := by
  unfold RewriteKept
  rw [cel_updCel_same]
  exact hf _
theorem RewriteKept.ite {c : Nat} {s t u : State} {p : Prop} [Decidable p] (ht : RewriteKept c s t) (hu : RewriteKept c s u) :
    RewriteKept c s (if p then t else u) := by
  split
  · exact ht
  · exact hu

theorem RewriteKept.each {α : Type} {c : Nat} {f : State → α → State} (hf : ∀ t x, RewriteKept c t (f t x)) (l : List α) :
    RewriteKept c s (s.each l f) := each_keeps s (fun t => (t.cel c).rewrite) hf l

theorem rewriteKept_raiseOnce (c key code p x y z : Nat) : RewriteKept c s (s.raiseOnce key code p x y z) :=
  .of_kept (A := allBut .cels) (kept_raiseOnce (.refl _ s) (by decide)) (by decide)

theorem rewriteKept_markGrans (c i : Nat) (f : PsnEnt → PsnEnt) : RewriteKept c s (s.markGrans c i f) := by
  unfold State.markGrans
  split
  · rfl
  · exact rewriteKept_updCel s c fun _ => rfl

theorem rewriteKept_showCel (c : Nat) : RewriteKept c s (s.showCel c) :=
  .of_kept (A := allBut .cels) (kept_showCel (.refl _ s) (by decide)) (by decide)

theorem rewriteKept_needRepair (c i kind g : Nat) : RewriteKept c s (s.needRepair c i kind g) := by
  unfold State.needRepair
  split
  · rfl
  · extract_lets written late x covered queued
    have hlate : RewriteKept c s late := .ite (rewriteKept_updCel s c fun _ => rfl) rfl
    refine hlate.trans ?_
    clear_value late
    refine .ite rfl ?_
    split
    · exact rewriteKept_markGrans _ _ _ _
    · refine .ite (rewriteKept_updCel _ _ fun _ => rfl) (.ite (.of_kept (A := allBut .cels) (kept_count (.refl _ _) (by decide)) (by decide)) ?_)
      extract_lets queued
      have hqueued : RewriteKept c late queued := by
        unfold queued
        exact rewriteKept_updCel late c fun _ => rfl
      clear_value queued
      exact (hqueued.trans (rewriteKept_markGrans queued c i _)).trans (rewriteKept_showCel _ c)

theorem rewriteKept_needAgain (c i g : Nat) : RewriteKept c s (s.needAgain c i g) := by
  unfold State.needAgain
  split
  · rfl
  · exact .ite rfl (.ite (rewriteKept_needRepair _ _ _ _ _) (.ite (rewriteKept_needRepair _ _ _ _ _) rfl))

theorem rewriteKept_scrubOn (c : Nat) : RewriteKept c s (s.scrubOn c) := by
  unfold State.scrubOn
  extract_lets u ch g period hours late counted next
  have hcounted : Kept (allBut .cels) s counted := kept_count (kept_wr (kept_wr (.refl _ _) (by decide)) (by decide)) (by decide)
  have hpass : RewriteKept c counted next := by
    unfold next
    exact rewriteKept_updCel counted c fun _ => rfl
  have hnext : RewriteKept c s next := (RewriteKept.of_kept hcounted (by decide)).trans hpass
  clear_value next
  split
  · exact .of_kept (A := allBut .cels) (kept_wr (.refl _ _) (by decide)) (by decide)
  · split
    · exact .of_kept (A := allBut .cels) (kept_wr (kept_wr (.refl _ _) (by decide)) (by decide)) (by decide)
    · exact .ite (hnext.trans (.of_kept (A := allBut .cels) (kept_raiseOnce (kept_count (.refl _ _) (by decide)) (by decide)) (by decide))) hnext

/-- A whole granule read at its own address is its own correction. -/
theorem corrected_whole (c ch g : Nat) {bs : List Byte} (h : bs.length = 256) : s.corrected c ch (256 * g) bs g = bs := by
  refine List.ext_getElem (by simp [State.corrected, State.peek, h]) fun i _ hi => ?_
  simp [State.corrected, State.peek, h ▸ hi]
  rw [if_pos hi, List.getElem?_eq_getElem hi, Option.getD_some]

/-- A corrected granule is queued for its rewrite where none is. -/
theorem queueRewrite_lone {c : Nat} (h : (s.cel c).rewrite = []) (ch g : Nat) {bs : List Byte} (hb : bs.length = 256) :
    ((s.queueRewrite c ch (256 * g) bs [g]).cel c).rewrite = [(ch, g, bs)] := by
  unfold State.queueRewrite
  rw [cel_updCel_same]
  dsimp only
  rw [h, List.nil_append, List.filter_cons_of_pos rfl, List.filter_nil, List.map_singleton, corrected_whole _ _ _ _ hb]

/-- A scrub holds the granule that was corrected for its rewrite. -/
theorem scrubGranule_correctable {c : Nat} (hrun : s.celRuns c = true) {data : List Byte} (hd : data.length = 256) :
    ((scrubGranule s c .correctable data).cel c).rewrite = [(s.rd (uCEL c) CEL_SCRUB_POS_CH, s.rd (uCEL c) CEL_SCRUB_POS_GRAN, data)] := by
  unfold scrubGranule
  rw [if_neg (by rw [hrun]; decide)]
  dsimp -zeta only
  extract_lets u ch g counted n held judged again
  have hnone : (counted.cel c).rewrite = [] := by
    unfold counted State.writeBack
    rw [cel_congr _ (count_cels _ _ _ _ _), cel_updCel_same]
  have hheld : (held.cel c).rewrite = [(ch, g, data)] := by
    unfold held
    rw [cel_updCel_same, List.take_of_length_le hd.le]
    exact queueRewrite_lone _ ((congrArg CelSt.rewrite (cel_congr _ (count_cels _ _ _ _ _) c)).trans hnone) ch g hd
  clear_value held counted
  have hjudged : RewriteKept c held judged := by
    unfold judged
    split
    · refine RewriteKept.trans ?_ (rewriteKept_raiseOnce _ c _ _ _ _ _ _)
      exact rewriteKept_updCel held c fun _ => rfl
    · rfl
  clear_value judged
  have hagain : RewriteKept c judged again :=
    .each judged (fun t (e : Nat × SliceEnt) => rewriteKept_needAgain t c e.1 g) _
  exact Eq.trans ((hjudged.trans hagain).trans (rewriteKept_scrubOn again c)) hheld

/-- Nothing after the write-back changes memory in a scrub. -/
theorem scrubGranule_mem {c : Nat} (hrun : s.celRuns c = true) (err : ReadErr) (data : List Byte) :
    (scrubGranule s c err data).mem = (s.writeBack c).mem := by
  unfold scrubGranule
  rw [if_neg (by rw [hrun]; decide)]
  extract_lets u ch g counted n held fails was had entered needed judged again
  have hcounted : Kept (allBut .mem) (s.writeBack c) counted := kept_count (.refl _ _) (by decide)
  have hheld : Kept (allBut .mem) (s.writeBack c) held :=
    kept_updCel (kept_queueRewrite (kept_count hcounted (by decide)) (by decide)) (by decide)
  have hentered : Kept (allBut .mem) (s.writeBack c) entered := kept_psnEnter (kept_count hcounted (by decide)) (by decide)
  have hneeded : Kept (allBut .mem) (s.writeBack c) needed := .ite (kept_each hentered fun _ _ k => kept_needRepair k (by decide)) hentered
  have hjudged : Kept (allBut .mem) (s.writeBack c) judged := by
    unfold judged
    cases err with
    | clean => exact hcounted
    | correctable => exact .ite (kept_raiseOnce (kept_updCel hheld (by decide)) (by decide)) hheld
    | uncorrectable => exact kept_chanEvent hneeded (by decide)
  have hagain : Kept (allBut .mem) (s.writeBack c) again := kept_each hjudged fun _ _ k => kept_needAgain k (by decide)
  exact (kept_scrubOn hagain (by decide)).parts .mem (by decide)

/-- What waited for its rewrite is written back, unless a host write has overtaken it. -/
theorem writeBack_lone_mem {c ch g : Nat} {old : List Byte} (h : (s.cel c).rewrite = [(ch, g, old)]) :
    (s.writeBack c).mem = if (s.cel c).overtaken.contains (ch, g) then s.mem else (s.poke (stackKey c ch (256 * g)) old).mem := by
  unfold State.writeBack
  dsimp only
  rw [updCel_mem, h]
  show (if (s.cel c).overtaken.contains (ch, g) then s.count (uCEL c) CEL_ECC_RACE_COUNT
    else (s.poke (stackKey c ch (256 * g)) old).count (uCEL c) CEL_BYTES_MAINT 256 ch).mem = _
  split
  · exact count_mem _ _ _ _ _
  · exact count_mem _ _ _ _ _

/-! Refresh, the save area and CLEAR. -/

theorem refreshMultLower_lowers {c : Nat} (h : refMult (s.celBand c) < s.rd (uCEL c) CEL_STAT_REFMULT) :
    (refreshMultLower s c).rd (uCEL c) CEL_STAT_REFMULT = refMult (s.celBand c) % 4 := by
  unfold refreshMultLower State.setMult
  dsimp only
  rw [if_pos h, if_neg (by omega), rd_raiseOnce_apart _ (by decide), rd_wr_same]
  rfl

/-- The counts that follow a Cellar's tables leave a field that lies apart from theirs. -/
theorem rd_showCel_apart {F : Fld} (h : [CEL_PSN_STAT_ENTRIES, CEL_PSN_RANGES_USED, CEL_REP_STAT_QUEUED, CEL_REP_STAT_RUNNING,
    CEL_SLICE_COUNT_VALID, CEL_SLICE_COUNT_USED].all (Fld.apart F) = true) (c u : Nat) : (s.showCel c).rd u F = s.rd u F := by
  simp only [List.all_cons, List.all_nil, Bool.and_true, Bool.and_eq_true] at h
  obtain ⟨h1, h2, h3, h4, h5, h6⟩ := h
  unfold State.showCel
  dsimp only
  rw [rd_wr_apart _ h6, rd_wr_apart _ h5, rd_wr_apart _ h4, rd_wr_apart _ h3, rd_wr_apart _ h2, rd_wr_apart _ h1]

theorem saveAreaRestore_kept (c : Nat) (pass : List Bool) (bad : Nat) :
    Kept (maskOf [.ports]) (s.restoreCel c pass bad) (saveAreaRestore s c pass bad) :=
  .ite (kept_releaseRegion (.refl _ _) (by decide)) (.refl _ _)

/-- A save area of this power cycle with a copy that passes brings the poison map back. -/
theorem restoreCel_pass {c : Nat} {a : SaveArea} (hs : (s.cel c).saved = some a) (hp : a.pcyc = s.attic.pcyc) {pass : List Bool}
    (hpass : pass.contains true = true) (bad : Nat) :
    ((s.restoreCel c pass bad).cel c).psn = a.psn ∧ ((s.restoreCel c pass bad).cel c).saved = none ∧
      (s.restoreCel c pass bad).isSet (uCEL c) CEL_STAT_RESTORED = true := by
  unfold State.restoreCel
  extract_lets x left told
  rw [show x.saved = some a from hs]
  dsimp -zeta only
  extract_lets tables
  rw [if_neg (show ¬ a.pcyc ≠ left.attic.pcyc from not_not_intro hp), if_pos hpass]
  have hcel : ∀ t : State, (((t.wr (uCEL c) CEL_STAT_SUSPECT a.suspect).flag (uCEL c) CEL_STAT_RESTORED true).showCel c).cel c = t.cel c := fun t =>
    cel_congr t ((kept_showCel (A := allBut .cels) (kept_flag (kept_wr (.refl _ t) (by decide)) (by decide)) (by decide)).parts .cels (by decide)) c
  refine ⟨?_, ?_, ?_⟩
  · rw [hcel, cel_updCel_same]
  · rw [hcel, cel_updCel_same, cel_updCel_same]
  · unfold State.isSet
    rw [rd_showCel_apart _ (by decide), rd_flag_same]
    rfl

/-- A save area of which no copy passes raises 0x5041. -/
theorem mem_restoreCel_transit {c : Nat} {a : SaveArea} (hs : (s.cel c).saved = some a) (hp : a.pcyc = s.attic.pcyc) {pass : List Bool}
    (hpass : pass.contains true = false) (bad : Nat) : event s 0x5041 (puCel c) bad ∈ (s.restoreCel c pass bad).transit := by
  unfold State.restoreCel
  extract_lets x left told
  rw [show x.saved = some a from hs]
  dsimp -zeta only
  extract_lets tables
  rw [if_neg (show ¬ a.pcyc ≠ left.attic.pcyc from not_not_intro hp), if_neg (by rw [hpass]; decide)]
  have hk : Kept allButEvents told (told.each (List.range 16) (fun s ch => s.suspectChan c ch 2)) :=
    kept_each (.refl _ _) fun _ _ k => kept_suspectChan k (by decide)
  refine hk.event (by decide) ?_
  unfold told
  rw [raise_transit]
  exact List.mem_append_right _ (List.mem_singleton_self _)

/-- A run over distinct elements of which one alone does anything is that one's. -/
theorem each_lone {α : Type} {f : State → α → State} {a : α} (hf : ∀ t b, b ≠ a → f t b = t) {l : List α} (hl : l.Nodup) (ha : a ∈ l) :
    s.each l f = f s a := by
  have hrest : ∀ (l : List α) (t : State), a ∉ l → t.each l f = t := by
    intro l
    induction l with
    | nil => exact fun _ _ => rfl
    | cons b l ih =>
      intro t h
      rw [List.mem_cons, not_or] at h
      show (f t b).each l f = t
      rw [hf t b (Ne.symm h.1), ih t h.2]
  induction l with
  | nil => exact absurd ha List.not_mem_nil
  | cons b l ih =>
    obtain ⟨hb, hl⟩ := List.nodup_cons.mp hl
    show (f s b).each l f = f s a
    rcases List.mem_cons.mp ha with rfl | ha
    · exact hrest l _ hb
    · rw [hf s b (fun e => hb (e ▸ ha))]
      exact ih hl ha

/-- CLEAR of one channel returns it when it is SUSPECT and passed its steep. -/
theorem channelClear_lone {c ch : Nat} (hch : ch < 16) (hsus : s.chanSuspect c ch = true) (hpass : bit (s.rd (uCEL c) CEL_STP_STAT_PASS) ch = true) :
    (channelClear s c (2 ^ (16 + ch))).rd (uCEL c) CEL_STAT_SUSPECT = (s.rd (uCEL c) CEL_STAT_SUSPECT - 2 ^ ch) % 2 ^ 16 := by
  unfold channelClear
  extract_lets u pass fence fenced
  have hrd : fenced.rd u CEL_STAT_SUSPECT = s.rd u CEL_STAT_SUSPECT := rd_wr_apart s (by decide) _ _ _
  rw [each_lone fenced (a := ch) ?other List.nodup_range (List.mem_range.mpr hch), if_pos, rd_wr_same, hrd]
  · rfl
  · have hown : bit (2 ^ (16 + ch)) (16 + ch) = true := Nat.testBit_two_pow_self
    rw [hown, show pass = _ from rfl, hpass, show fenced.chanSuspect c ch = s.chanSuspect c ch from congrArg (bit · ch) hrd, hsus]
    rfl
  case other =>
    intro t i hi
    refine if_neg ?_
    rw [show bit (2 ^ (16 + ch)) (16 + i) = false from Nat.testBit_two_pow_of_ne (by omega), Bool.false_and, Bool.false_and]
    decide

/-- What reads and writes of registers leave of a Cellar's channel. -/
theorem chanSuspect_congr {s t : State} (h : t.regs = s.regs) (c ch : Nat) : t.chanSuspect c ch = s.chanSuspect c ch := by
  unfold State.chanSuspect
  rw [rd_congr s h]

theorem item_celRuns (c k : Nat) : (s.item c).celRuns k = s.celRuns k := by
  have hk := item_kept s c
  unfold State.celRuns
  rw [unit_congr s (hk.parts .units (by decide))]
  unfold State.regionLost
  rw [hall_congr s (hk.parts .halls (by decide))]

theorem item_cel (c k : Nat) : (s.item c).cel k = s.cel k := cel_congr s ((item_kept s c).parts .cels (by decide)) k

/-- Settles O14: clause by clause. -/
theorem cellarBlocks : Obligations.CellarBlocks := by
  unfold Obligations.CellarBlocks
  intro c s
  refine ⟨fun ch addr merge bytes ce ue => ⟨fun hf => ⟨?_, ?_⟩, fun hf => ⟨?_, ?_⟩, ⟨_, rfl, cellarReadBlock_test s _ _ _ _ _ _ _⟩⟩, fun hrun => ⟨?_, ?_, ?_⟩,
    fun hlow => ⟨_, rfl, refreshMultLower_lowers s hlow⟩, fun pass bad a hs hp => ⟨fun hpass => ?_, fun hpass => ?_⟩, fun ch hw ht hsus hpass => ?_, fun ht => ?_⟩
  · obtain ⟨out, bad, hsent, hbad⟩ := cellarReadBlock_delivers s hf addr.toNat merge.toNat bytes (ce.map (·.toNat)) (ue.map (·.toNat))
    exact ⟨_, rfl, out, bad, hsent, fun hue => hbad (by simpa using hue)⟩
  · refine ⟨_, rfl, ?_⟩
    dsimp only
    rw [peek_congr _ (cellarWriteBlock_mem s hf _ _), peek_poke]
  · exact runs_of_exec rfl ((if_neg (by decide)).trans (if_pos hf)) rfl
  · exact runs_of_exec rfl (if_pos hf) rfl
  · intro ch bytes ce r hr hp hx
    refine runs_of_exec rfl (if_neg (by rw [hrun]; decide)) ?_
    have hcel := item_cel s (chCel c.val) c.val
    have hprof : (s.item (chCel c.val)).tbProfile = s.tbProfile := by
      unfold State.tbProfile
      rw [(item_kept s _).parts .variant (by decide)]
    have h := rescanDone_first (s.item (chCel c.val)) (c := c.val) (ch := ch.val) (bs := bytes) (ce.map (·.toNat)) (by rw [hcel]; exact hr) hp (by rw [hprof]; exact hx)
    rw [hcel] at h
    exact h
  · intro data hc hd
    refine runs_of_exec rfl (if_neg (by rw [hrun]; decide)) ?_
    have h := scrubGranule_correctable (s.item (chCel c.val)) (c := c.val) (by rw [item_celRuns]; exact hc) hd
    rw [rd_congr _ ((item_kept s _).parts .regs (by decide)), rd_congr _ ((item_kept s _).parts .regs (by decide))] at h
    exact h
  · intro err data old ch g hc hold
    have hmem := scrubGranule_mem (s.item (chCel c.val)) (c := c.val) (by rw [item_celRuns]; exact hc) err data
    rw [writeBack_lone_mem _ (by rw [item_cel]; exact hold), item_cel] at hmem
    refine ⟨fun hover => runs_of_exec rfl (if_neg (by rw [hrun]; decide)) ?_, fun hover => runs_of_exec rfl (if_neg (by rw [hrun]; decide)) ?_⟩
    · rw [if_neg (by rw [hover]; decide)] at hmem
      rw [peek_congr _ hmem, peek_poke]
    · rw [if_pos hover] at hmem
      exact hmem.trans ((item_kept s _).parts .mem (by decide))
  · have hk := saveAreaRestore_kept s c.val pass bad
    obtain ⟨hpsn, hsaved, hflag⟩ := restoreCel_pass s hs hp hpass bad
    refine ⟨_, rfl, ?_⟩
    dsimp only
    unfold State.isSet
    rw [cel_congr _ (hk.parts .cels (by decide)), rd_congr _ (hk.parts .regs (by decide))]
    exact ⟨hpsn, hsaved, hflag⟩
  · exact ⟨_, rfl, (saveAreaRestore_kept s c.val pass bad).event (by decide) (mem_restoreCel_transit s hs hp hpass bad)⟩
  · have hdata : (BitVec.ofNat 32 (2 ^ (16 + ch.val))).toNat = 2 ^ (16 + ch.val) := by
      rw [BitVec.toNat_ofNat, Nat.mod_eq_of_lt]
      exact Nat.pow_lt_pow_right (by decide) (by omega)
    refine runs_of_exec rfl (hostOp_of_writable ht hw _ _ _) ?_
    rw [hdata, channelClear_lone (s.count uBRW BRW_WIN_WR_COUNT) ch.isLt ((chanSuspect_congr (count_regs _ _ _ _ _) _ _).trans hsus)
      ((congrArg (bit · ch.val) (rd_congr _ (count_regs _ _ _ _ _) _ _ _)).trans hpass), rd_congr _ (count_regs _ _ _ _ _)]
  · exact runs_of_exec rfl (hostAcc_done ht _ _) rfl

end Sys2Proof.Machine
end

section
/-! Scans of a memory: how they begin, what a line does, how they end (R149-R155). -/
namespace Sys2Proof.Machine
open Sys2Proof Host Sys2Proof.Claims
variable (s : State)

/-! A scan's end. -/

/-- A scan that has ended shows its code and no longer runs. -/
theorem scanEnd_code (u : Nat) {code : Nat} (hc : code < 8) (addr : Nat) (result : Option Nat) :
    (s.scanEnd u code addr result).rd u CKU_SCAN_STAT_CODE = code := by
  have hshown : ∀ t : State, (t.wr u CKU_SCAN_STAT_CODE code).rd u CKU_SCAN_STAT_CODE = code := fun t =>
    (rd_wr_same _ _ _ _ _).trans (Nat.mod_eq_of_lt (show code < 2 ^ 3 from hc))
  have hdraw : ∀ t : State, t.draw.rd u CKU_SCAN_STAT_CODE = t.rd u CKU_SCAN_STAT_CODE := fun _ => rfl
  unfold State.scanEnd
  dsimp only
  cases result with
  | none => simp (disch := decide) only [hdraw, rd_wr_apart, rd_flag_apart, hshown]
  | some r => simp (disch := decide) only [rd_wr_apart, rd_flag_apart, hshown]
theorem scanEnd_idle (u code addr : Nat) (result : Option Nat) : ((s.scanEnd u code addr result).scan u).busy = false := by
  have hscan : ∀ t : State, (s.scanEnd u code addr result).scans = (s.updScan u (fun x => { x with busy := false, abort := false })).scans := by
    intro _
    unfold State.scanEnd
    cases result <;> rfl
  rw [scan_congr _ (hscan s), scan_updScan_same]

/-- A scan that has ended, and what is raised of its end. -/
def scanEnded (u code : Nat) (t : State) : Prop := t.rd u CKU_SCAN_STAT_CODE = code ∧ (t.scan u).busy = false

theorem scanEnded_scanEnd (u : Nat) {code : Nat} (hc : code < 8) (addr : Nat) (result : Option Nat) :
    scanEnded u code (s.scanEnd u code addr result) := ⟨scanEnd_code s u hc addr result, scanEnd_idle s u code addr result⟩
theorem scanEnded_raise {u code : Nat} {s : State} (h : scanEnded u code s) (c p x y z : Nat) : scanEnded u code (s.raise c p x y z) :=
  ⟨(rd_raise_apart s (by decide) u c p x y z).trans h.1, (congrArg ScanSt.busy (scan_congr s rfl u)).trans h.2⟩
theorem scanEnded_scanPoison (v : ScanUnit) (sp line : Nat) : scanEnded (scanUnit v) 5 (s.scanPoison v sp line) :=
  scanEnded_raise (scanEnded_scanEnd s _ (by decide) _ _) _ _ _ _ _

/-! GO. -/

theorem scanGo_abort (v : ScanUnit) {data : Nat} (h31 : bit data 31 = true) (h30 : bit data 30 = true) :
    (scanGo s v data).isSet (scanUnit v) CKU_SCAN_STAT_OVERRUN = true := by
  unfold scanGo State.isSet
  dsimp only
  rw [if_pos (by rw [h31, h30]; rfl), rd_flag_same]
  rfl

section
variable {s} {v : ScanUnit} {data : Nat} (h31 : bit data 31 = true) (h30 : bit data 30 = false)
include h31 h30

theorem scanGo_busy (hb : (s.scan (scanUnit v)).busy = true) : (scanGo s v data).isSet (scanUnit v) CKU_SCAN_STAT_OVERRUN = true := by
  unfold scanGo State.isSet
  dsimp only
  rw [if_neg (by rw [h30, Bool.false_and]; decide), if_neg (by rw [h31]; decide), if_pos hb, rd_flag_same]
  rfl

theorem scanGo_free (hb : (s.scan (scanUnit v)).busy = false) :
    scanGo s v data = ((s.flag (scanUnit v) CKU_SCAN_CTRL_CMP (bit data 8)).wr (scanUnit v) CKU_SCAN_CTRL_SPACE (bits data 4 0)).scanBegin v 0
      (s.scProfile (scanUnit v)) (bits data 4 0) (s.rd (scanUnit v) CKU_SCAN_START_ADDR) (s.rd (scanUnit v) CKU_SCAN_LEN_LEN) (bit data 8)
      (s.rd (scanUnit v) CKU_SCAN_EXP_VAL) := by
  unfold scanGo
  dsimp only
  rw [if_neg (by rw [h30, Bool.false_and]; decide), if_neg (by rw [h31]; decide), if_neg (by rw [hb]; decide)]
end

/-- A scan of no bytes ends with code 2 at once. -/
theorem scanBegin_empty (v : ScanUnit) (origin : Nat) (p : Profile) (sp start : Nat) (cmp : Bool) (exp : Nat) :
    scanEnded (scanUnit v) 2 (s.scanBegin v origin p sp start 0 cmp exp) := by
  unfold State.scanBegin
  dsimp only
  rw [if_neg (by omega), if_pos rfl]
  exact scanEnded_scanEnd _ _ (by decide) _ _

/-- A scan of a range inside its space runs. -/
theorem scanBegin_runs {v : ScanUnit} {sp start len n : Nat} (h0 : 0 < len) (hlen : len ≤ 2 ^ 40 - 64) (hsp : spaceSize v sp = some n)
    (hn : start + len ≤ n) (p : Profile) (cmp : Bool) (exp : Nat) :
    (s.scanBegin v 0 p sp start len cmp exp).isSet (scanUnit v) CKU_SCAN_STAT_BUSY = true ∧
      ((s.scanBegin v 0 p sp start len cmp exp).scan (scanUnit v)).busy = true ∧
      ((s.scanBegin v 0 p sp start len cmp exp).scan (scanUnit v)).len = len ∧
      (s.scanBegin v 0 p sp start len cmp exp).rd (scanUnit v) CKU_SCAN_STAT_ORIGIN = 0 := by
  refine ⟨?_, ?_, ?_, scanBegin_origin s v (by decide) p sp start len cmp exp⟩
  all_goals
    unfold State.scanBegin
    dsimp only
    rw [if_neg (by omega), if_neg (by omega), hsp]
    dsimp only
    rw [if_neg (by omega)]
  · unfold State.isSet
    rw [rd_flag_same]
    rfl
  · rw [scan_congr _ (flag_scans _ _ _ _ _), scan_updScan_same]
  · rw [scan_congr _ (flag_scans _ _ _ _ _), scan_updScan_same, scan_congr _ (wr_scans _ _ _ _ _), scan_updScan_same]

/-- A preset loads its width and its polynomial. -/
theorem scanProfileWrite_preset (v : ScanUnit) {data : Nat} {p : Profile} (hp : crcPreset (bits data 14 12) = some p) (h0 : bits data 14 12 ≠ 0) :
    (scanProfileWrite s v data).rd (scanUnit v) CKU_SC_CFG_WIDTH = p.w % 2 ^ 7 ∧
      (scanProfileWrite s v data).rd (scanUnit v) CKU_SC_POLY = p.poly % 2 ^ 64 := by
  unfold scanProfileWrite
  dsimp only
  rw [if_neg h0, hp]
  dsimp only
  refine ⟨?_, ?_⟩
  · simp (disch := decide) only [rd_wr_apart, rd_flag_apart, rd_wr_same]
    rfl
  · simp (disch := decide) only [rd_wr_apart, rd_wr_same]
    rfl

theorem scanAbort_marks (v : ScanUnit) (hb : (s.scan (scanUnit v)).busy = true) : ((scanAbort s v).scan (scanUnit v)).abort = true := by
  unfold scanAbort
  dsimp only
  rw [if_pos hb, scan_updScan_same]

/-! A line. -/

section
variable {s} {v : ScanUnit} (hb : (s.scan (scanUnit v)).busy = true) (hheld : s.scanHeld v = false)
include hb hheld

/-- A line with an uncorrectable error, or in poison, ends its scan with code 5. -/
theorem scanLineDone_uncorrectable (data : List Byte) : scanEnded (scanUnit v) 5 (scanLineDone s v data .uncorrectable) := by
  unfold scanLineDone
  extract_lets u x at_ line poisoned judged erred n bs crc fed stored r bytes
  rw [if_neg (by rw [show x.busy = true from hb, hheld]; decide)]
  clear_value poisoned erred x
  split
  · exact scanEnded_scanPoison _ _ _ _
  · rw [if_pos rfl]
    exact scanEnded_scanPoison _ _ _ _
end

/-- The Brewhouse's last line without comparison ends its scan with code 0. -/
theorem scanLineDone_last {s : State} (hb : (s.scan uBRW).busy = true) (hheld : s.scanHeld .brew = false) {err : ReadErr}
    (herr : err ≠ .uncorrectable) (hcmp : (s.scan uBRW).cmp = false)
    (hlast : (s.scan uBRW).len - (s.scan uBRW).fed ≤ 64 - ((s.scan uBRW).start + (s.scan uBRW).fed) % 64)
    (hfed : (s.scan uBRW).fed ≤ (s.scan uBRW).len) (data : List Byte) : scanEnded uBRW 0 (scanLineDone s .brew data err) := by
  unfold scanLineDone
  extract_lets u x at_ line place poisoned judged erred n bs crc fed stored r bytes
  have hn : fed = x.len := by
    have : n = x.len - x.fed := Nat.min_eq_right hlast
    show x.fed + n = x.len
    rw [this]
    exact Nat.add_sub_cancel' hfed
  rw [if_neg (by rw [show x.busy = true from hb, hheld]; decide), if_neg (show ¬ poisoned = true from Bool.false_ne_true), if_neg herr, if_pos hn,
    if_neg (by rw [show x.cmp = false from hcmp, Bool.false_and]; decide)]
  exact scanEnded_scanEnd _ _ (by decide) _ _

/-- What follows the end of a scan that no check of firmware's waits for is nothing. -/
theorem scanLineNext_ended {v : ScanUnit} {code : Nat} {data : List Byte} {err : ReadErr} (hidle : v = .brew ∨ s.fw.checks = [])
    (h : scanEnded (scanUnit v) code (scanLineDone s v data err)) : scanEnded (scanUnit v) code (scanLineNext s v data err) := by
  have hbrew : (List.range nRegions).find? (fun r => uCEL (storeCellar r) == uBRW) = none := by decide
  have hchecks : (scanLineDone s v data err).fw.checks = s.fw.checks :=
    congrArg FwSt.checks ((kept_scanLineDone (A := allBut .fw) (.refl _ s) (by decide)).parts .fw (by decide))
  unfold scanLineNext
  extract_lets u was done
  split
  · exact h
  · split
    · exact h
    · next r hr =>
      rcases hidle with rfl | hnone
      · exact absurd (hbrew.symm.trans hr) nofun
      · have hdone : done.fw.checks = [] := hchecks.trans hnone
        have hended : (if was.origin = 1 then done.checkEnded r (done.rd u CKU_SCAN_STAT_CODE) else done) = done := by
          split
          · unfold State.checkEnded
            rw [hdone]
            rfl
          · rfl
        rw [hended]
        unfold State.checkNext
        dsimp only
        rw [if_pos (by rw [hdone]; simp)]
        exact h

/-- Settles O18: clause by clause, from a scan's begin, its lines and its end. -/
theorem memoryScans : Obligations.MemoryScans := by
  unfold Obligations.MemoryScans
  intro v s u
  have hcount : ∀ (s : State) (F : Fld) (u : Nat), (s.count uBRW BRW_WIN_WR_COUNT).rd u F = s.rd u F := fun s F u => rd_congr s (count_regs s _ _ _ _) u F 0
  have hscan : ∀ (s : State) (u : Nat), (s.count uBRW BRW_WIN_WR_COUNT).scan u = s.scan u := fun s u => scan_congr s (count_scans s _ _ _ _) u
  refine ⟨fun hw ht data => ⟨fun h31 h30 => ?_, fun h31 h30 => ⟨fun hb => ?_, fun hb hlen => ?_, fun n hb h0 hlen hsp hn => ?_⟩, fun p hp h0 => ?_⟩,
    fun hw ht hb => ?_, fun data hb hheld => ⟨fun hidle => ?_, fun err hv herr hcmp hlast hfed => ?_⟩⟩
  · exact runs_of_exec rfl (hostOp_of_writable ht hw _ _ _) (scanGo_abort _ v h31 h30)
  · exact runs_of_exec rfl (hostOp_of_writable ht hw _ _ _) (scanGo_busy h31 h30 (by rw [hscan]; exact hb))
  · refine runs_of_exec rfl ((hostOp_of_writable ht hw _ _ _).trans (scanGo_free h31 h30 (by rw [hscan]; exact hb))) ?_
    rw [hcount, hcount _ CKU_SCAN_LEN_LEN, hlen]
    exact scanBegin_empty _ v _ _ _ _ _ _
  · refine runs_of_exec rfl ((hostOp_of_writable ht hw _ _ _).trans (scanGo_free h31 h30 (by rw [hscan]; exact hb))) ?_
    rw [hcount _ CKU_SCAN_START_ADDR, hcount _ CKU_SCAN_LEN_LEN]
    exact scanBegin_runs _ h0 hlen hsp hn _ _ _
  · exact runs_of_exec rfl (hostOp_of_writable ht hw _ _ _) (scanProfileWrite_preset _ v hp h0)
  · exact runs_of_exec rfl (hostOp_of_writable ht hw _ _ _) (scanAbort_marks _ v (by rw [hscan]; exact hb))
  · exact ⟨_, rfl, scanLineNext_ended s hidle (scanLineDone_uncorrectable hb hheld data)⟩
  · subst hv
    exact ⟨_, rfl, scanLineNext_ended s (.inl rfl) (scanLineDone_last hb hheld herr hcmp hlast hfed data)⟩

end Sys2Proof.Machine
end

section
/-! Streams that resynchronise, stream windows and the maps of a cluster (R99, R146, R147, R261, R276). -/
namespace Sys2Proof.Machine
open Sys2Proof Host Sys2Proof.Claims
variable (s : State)

/-- RESYNC of a Cellar marks the selected window's stream. -/
theorem streamResync_cellar (c : StackId) {data : Nat} (h : bit data 0 = true) :
    ((streamResync s (.cellar c) data).winStream (4096 * c.val + s.rd (uCEL c.val) CKU_STRM_SEL_STREAM)).resync = true := by
  unfold streamResync
  rw [if_neg (by rw [h]; decide)]
  dsimp only
  rw [winStream_updWinStream_same]

/-- RESYNC of a Door marks the selected stream of the receive side. -/
theorem streamResync_door (n : DoorId) {data : Nat} (h : bit data 0 = true) (hdir : s.isSet (uDOR n.val) CKU_STRM_SEL_DIR = true) :
    ((streamResync s (.door n) data).stream (skey n.val 1 (s.rd (uDOR n.val) CKU_STRM_SEL_STREAM))).resync = true := by
  unfold streamResync
  rw [if_neg (by rw [h]; decide)]
  dsimp only
  rw [if_pos hdir, stream_updStream_same]

/-- The write of WIN_BASE_HI puts a window in force and its stream out of step. -/
theorem windowApply_win (c data : Nat) : (windowApply s c data).win (4096 * c + s.rd (uCEL c) CKU_WIN_SEL_WIN) =
    { s.win (4096 * c + s.rd (uCEL c) CKU_WIN_SEL_WIN) with
      en := bit data 31, chan := bits data 7 4
      base := (s.win (4096 * c + s.rd (uCEL c) CKU_WIN_SEL_WIN)).heldBase + bits data 3 0 * 2 ^ 32
      gran := (s.win (4096 * c + s.rd (uCEL c) CKU_WIN_SEL_WIN)).heldGran } := by
  unfold windowApply
  dsimp only
  rw [win_congr _ (updWinStream_wins _ _ _), win_updWin_same]
theorem windowApply_winStream (c data : Nat) :
    ((windowApply s c data).winStream (4096 * c + s.rd (uCEL c) CKU_WIN_SEL_WIN)).sync = false := by
  unfold windowApply
  dsimp only
  rw [winStream_updWinStream_same]

/-- A map whose commit no migration waits for is in force at its core. -/
theorem mapCommitted_port {k : Nat} (hc : (s.port k).commit = true) (hm : (s.port k).mig = none) :
    ((s.mapCommitted k).port k).commit = false ∧ ((s.mapCommitted k).port k).coreShadow = [] := by
  unfold State.mapCommitted
  extract_lets x live committed moved done
  have hdone : done = committed := by
    unfold done
    rw [show x.mig = none from hm]
  rw [if_neg (by rw [show x.commit = true from hc]; decide), hdone]
  rw [port_congr _ ((kept_mapChanged (A := allBut .ports) (.refl _ _) (by decide)).parts .ports (by decide)), port_updPort_same]
  exact ⟨rfl, rfl⟩

/-- An engine that no reset waits with goes on as it is. -/
theorem mapCommitDone_idle {k : Nat}
    (hr : s.resets.find? (fun x => x.level == 2 && x.at_ == k && x.step == 5) = none) : mapCommitDone s k = s.mapCommitted k := by
  have hresets : (s.mapCommitted k).resets = s.resets :=
    (kept_mapCommitted (A := allBut .resets) (.refl _ s) (by decide)).parts .resets (by decide)
  unfold mapCommitDone State.engineDone
  rw [hresets, hr]

/-- The first dispatch of an epoch to an invalid entry raises 0x4043 with the entry. -/
theorem mapMiss_raised {k : Nat} (chan : Bool) (entry : Nat) (hm : s.marks.contains (puTst k, 0x4043, 0) = false) :
    raised s (mapMiss s k chan entry) 0x4043 (puTst k) entry (if chan then 1 else 0) := by
  have hk : Kept 48 s (s.count (uTST k) TST_MAP_MISS_COUNT) := kept_count (.refl _ s) (by decide)
  show (mapMiss s k chan entry).transit = _
  unfold mapMiss
  rw [raiseOnce_transit _ (by rw [count_marks]; exact hm), count_transit]
  exact congrArg (s.transit ++ [·]) (hk.event_eq (by decide) (by decide) 0x4043 (puTst k) entry (if chan then 1 else 0) 0)

/-- Settles O19: clause by clause, on a page that takes writes. -/
theorem streamsAndMaps : Obligations.StreamsAndMaps := by
  unfold Obligations.StreamsAndMaps
  intro s
  have hcount : ∀ (F : Fld) (u : Nat), (s.count uBRW BRW_WIN_WR_COUNT).rd u F = s.rd u F := fun F u => rd_congr s (count_regs s _ _ _ _) u F 0
  refine ⟨fun c data hw ht => ⟨fun h => ?_, ?_⟩, fun n data hw ht h hdir => ?_, fun k => ⟨fun hc hm hr => ?_, fun chan entry hm => ?_⟩⟩
  · refine runs_of_exec rfl (hostOp_of_writable ht hw _ _ _) ?_
    have := streamResync_cellar (s.count uBRW BRW_WIN_WR_COUNT) c h
    rw [hcount] at this
    exact this
  · refine runs_of_exec rfl (hostOp_of_writable ht hw _ _ _) ?_
    have hwin := windowApply_win (s.count uBRW BRW_WIN_WR_COUNT) c.val data.toNat
    have hstream := windowApply_winStream (s.count uBRW BRW_WIN_WR_COUNT) c.val data.toNat
    rw [hcount, win_congr s (count_wins s _ _ _ _)] at hwin
    rw [hcount] at hstream
    dsimp only
    rw [hwin]
    exact ⟨rfl, rfl, rfl, rfl, hstream⟩
  · refine runs_of_exec rfl (hostOp_of_writable ht hw _ _ _) ?_
    have := streamResync_door (s.count uBRW BRW_WIN_WR_COUNT) n h (by unfold State.isSet; rw [hcount]; exact hdir)
    rw [hcount] at this
    exact this
  · exact runs_of_exec rfl (mapCommitDone_idle s hr) (mapCommitted_port s hc hm)
  · exact ⟨_, rfl, mapMiss_raised s chan entry.toNat hm⟩

end Sys2Proof.Machine
end

section
/-! A slice's verdict, its abort and the clearing of a core under steep (R320-R323, R325, R338, R368). -/
namespace Sys2Proof.Machine
open Sys2Proof Host Sys2Proof.Claims
variable (s : State)

/-! Slices that start. -/

/-- The prediction of a slice rests on the rate at which its Hall counted last. -/
theorem overrun_congr {s t : State} (h : t.halls = s.halls) (x : StpRun) : t.overrun x = s.overrun x := by
  unfold State.overrun
  rw [hall_congr s h]

/-- A slice that is not predicted to overrun runs at its engine with its margin, and touches neither cores nor what has passed. -/
theorem sliceStart_runs {s : State} {x : StpRun} {e : Nat} (h : s.overrun x = false) (he : s.eng e = some x) :
    (∃ m, (s.sliceStart x).eng e = some { x with margin := m }) ∧ (s.sliceStart x).cores = s.cores ∧ (s.sliceStart x).stp = s.stp := by
  unfold State.sliceStart
  extract_lets k m
  split
  · exact ⟨⟨x.margin, he⟩, rfl, rfl⟩
  · next g _ =>
    rw [if_neg (by rw [h]; decide)]
    extract_lets driven
    have hend : Kept 4398047836160 driven (if x.repeated then driven else driven.sliceLoad x (x.slice - x.tapN)) :=
      .ite (.refl _ _) (kept_sliceLoad (.refl _ _) (by decide))
    rw [eng_congr _ (hend.parts .engs (by decide))]
    refine ⟨?_, hend.parts .cores (by decide), hend.parts .stp (by decide)⟩
    unfold driven
    rw [eng_congr _ (emit_engs _ _)]
    by_cases hk : e = engineOf x.unit
    · subst hk
      exact ⟨m, eng_updEng_same _ _ _⟩
    · exact ⟨x.margin, (eng_updEng_other _ hk _).trans he⟩

/-! The clearing of a core. -/

/-- A steep that fails raises 0x7001 of its unit with the reason. -/
theorem mem_stpFail_transit (e : Nat) (x : StpRun) (test reason : Nat) :
    ∃ v ∈ (s.stpFail e x test reason).transit, v.code = 0x7001 ∧ v.puid = x.unit ∧ v.p6 = reason % 2 ^ 32 := by
  unfold State.stpFail
  extract_lets p k i core counted failed closed ended
  obtain ⟨v, hv, hcode, hpuid, hp6, -⟩ := mem_stpFailed_transit counted p test x.slice reason x.ver
  have hfailed : Kept allButEvents (counted.stpFailed p test x.slice reason x.ver) failed := kept_updStpOf (.refl _ _) (by decide)
  have hclosed : Kept allButEvents (counted.stpFailed p test x.slice reason x.ver) closed :=
    .ite (kept_closureDone (kept_requalDone hfailed (by decide)) (by decide)) hfailed
  have hended : Kept allButEvents (counted.stpFailed p test x.slice reason x.ver) ended :=
    .ite (kept_stpEnd (kept_shutLink hclosed (by decide)) (by decide)) (kept_stpEnd (kept_failState hclosed (by decide)) (by decide))
  have hend : Kept allButEvents (counted.stpFailed p test x.slice reason x.ver)
      (if core then (ended.updCore (ckey k i) (fun c => { c with rst := true, wrapEn := false, fence := true })).showOverdue k else ended) :=
    .ite (kept_showOverdue (kept_updCore hended (by decide)) (by decide)) hended
  exact ⟨v, hend.event (by decide) hv, hcode, hpuid, hp6⟩

theorem engineOf_puCore (k : ClusterId) (p : CoreId) : engineOf (puCore k.val p.val) = uTST k.val := by
  have hk : k.val < 4096 := lt_of_lt_of_le k.isLt (by decide)
  have hp : p.val < 2 ^ 16 := lt_of_lt_of_le p.isLt (by decide)
  unfold engineOf puidKind puidMajor puCore puid
  rw [show (0 % 16 * 2 ^ 28 + k.val % 4096 * 2 ^ 16 + p.val % 2 ^ 16) / 2 ^ 28 = 0 by omega,
    show (0 % 16 * 2 ^ 28 + k.val % 4096 * 2 ^ 16 + p.val % 2 ^ 16) / 2 ^ 16 % 4096 = k.val by omega]
  rfl

/-- The steep of a unit stands at the unit's engine. -/
theorem eng_of_runOf {s : State} {u : Nat} {x : StpRun} (h : s.runOf u = some x) : s.eng (engineOf u) = some x ∧ x.unit = u := by
  unfold State.runOf at h
  split at h
  · next y hy =>
    split at h
    · next hu =>
      obtain rfl := Option.some.inj h
      exact ⟨hy, hu⟩
    · exact absurd h nofun
  · exact absurd h nofun

/-- The state whose core shows whether it was cleared. -/
def coreCleared (s : State) (c : Nat) (ok : Bool) : State := s.updCore c (fun x => { x with cleared := ok })

section
variable {s} {k p : Nat} {x : StpRun} (hrst : (s.core (ckey k p)).rst = true)
  (hres : s.resets.any (fun y => y.level == 1 && y.at_ == ckey k p && y.step == 5) = false) (hx : s.runOf (puCore k p) = some x) (hp : x.phase ≠ 4)
include hrst hres hx hp

/-- A clearing that fails is a failure with its reason. -/
theorem secretClearDone_fails (key : Nat) :
    ∃ e ∈ (secretClearDone s k p false key).transit, e.code = 0x7001 ∧ e.puid = puCore k p ∧ e.p6 = 2 := by
  obtain ⟨-, hu⟩ := eng_of_runOf hx
  unfold secretClearDone
  extract_lets c ok cleared
  have hidle : ¬ cleared.resets.any (fun x => x.level == 1 && x.at_ == c && x.step == 5) = true := by
    rw [show cleared.resets = s.resets from rfl, hres]
    decide
  rw [if_neg (by rw [hrst]; decide), if_neg hidle, show cleared.runOf (puCore k p) = some x from hx]
  dsimp -zeta only
  rw [if_neg hp, if_pos (show (!ok) = true from rfl), ← hu]
  exact mem_stpFail_transit _ _ _ _ _

/-- After a clearing that succeeded the next slice is up. -/
theorem secretClearDone_next (h5 : x.phase ≠ 5) (hlast : x.slice ≤ x.total) (h0 : 0 < x.slice) :
    secretClearDone s k p true 15 = if s.overrun x then ((coreCleared s (ckey k p) true).stpEnd (uTST k)).stpDefer x.unit 3
      else (((coreCleared s (ckey k p) true).updEng (uTST k) (fun _ => some { x with phase := 4 })).updCore (ckey k p)
        (fun y => { y with wrapEn := true })).sliceStart { x with phase := 4 } := by
  unfold secretClearDone
  extract_lets c ok cleared
  have hidle : ¬ cleared.resets.any (fun x => x.level == 1 && x.at_ == c && x.step == 5) = true := by
    rw [show cleared.resets = s.resets from rfl, hres]
    decide
  rw [if_neg (by rw [hrst]; decide), if_neg hidle, show cleared.runOf (puCore k p) = some x from hx]
  dsimp -zeta only
  rw [if_neg hp, if_neg (show ¬ (!ok) = true by decide), if_neg h5, if_neg (by omega)]
  rfl
end


/-- The clearing that succeeded leaves every part but the cores. -/
theorem coreCleared_kept (c : Nat) (ok : Bool) : Kept (maskOf [.cores]) s (coreCleared s c ok) := kept_updCore (.refl _ s) (by decide)

/-- The next slice of a cleared core runs with its margin, and its wrapper is on. -/
theorem clearedSlice_runs {s : State} {e c : Nat} {x : StpRun} (h : s.overrun x = false) :
    (∃ m, ((((coreCleared s c true).updEng e (fun _ => some { x with phase := 4 })).updCore c
        (fun y => { y with wrapEn := true })).sliceStart { x with phase := 4 }).eng e = some { x with phase := 4, margin := m }) ∧
      (((((coreCleared s c true).updEng e (fun _ => some { x with phase := 4 })).updCore c
        (fun y => { y with wrapEn := true })).sliceStart { x with phase := 4 }).core c).wrapEn = true ∧
      (((((coreCleared s c true).updEng e (fun _ => some { x with phase := 4 })).updCore c
        (fun y => { y with wrapEn := true })).sliceStart { x with phase := 4 }).core c).cleared = true := by
  have heng : (((coreCleared s c true).updEng e (fun _ => some { x with phase := 4 })).updCore c (fun y => { y with wrapEn := true })).eng e =
      some { x with phase := 4 } := by
    rw [eng_congr _ (updCore_engs _ _ _), eng_updEng_same]
  have hover : (((coreCleared s c true).updEng e (fun _ => some { x with phase := 4 })).updCore c (fun y => { y with wrapEn := true })).overrun
      { x with phase := 4 } = false := h
  obtain ⟨⟨m, hm⟩, hcores, -⟩ := sliceStart_runs hover heng
  rw [core_congr _ hcores, core_updCore_same, core_congr _ (updEng_cores _ _ _)]
  refine ⟨⟨m, hm⟩, rfl, ?_⟩
  unfold coreCleared
  rw [core_updCore_same]

/-! A slice's signature. -/

/-- What a slice passed notes of its unit. -/
def slicePassed (x : StpRun) (y : StpUnit) : StpUnit := if x.slice ≤ x.tapN then { y with tapPassed := x.slice } else { y with passed := x.slice - x.tapN }

/-- The slice that follows one that passed. -/
def sliceAfter (s : State) (x : StpRun) : Nat := if x.slice = x.tapN then x.tapN + (s.stpOf x.unit).passed + 1 else x.slice + 1

theorem sliceAfter_passed (x : StpRun) : (if x.slice < x.tapN then x.slice + 1 else x.tapN + (slicePassed x (s.stpOf x.unit)).passed + 1) = sliceAfter s x := by
  unfold sliceAfter slicePassed
  rcases Nat.lt_trichotomy x.slice x.tapN with h | h | h
  · rw [if_pos h, if_neg (by omega)]
  · rw [if_neg (by omega), if_pos h, if_pos (by omega)]
  · rw [if_neg (by omega), if_neg (by omega), if_neg (by omega)]
    dsimp only
    omega

/-- A run moved on to a slice. -/
def runAt (x : StpRun) (next : Nat) : StpRun := { x with slice := next, repeated := false, looped := false }

/-- A steep that has slices left starts the next one. -/
theorem stpGo_next {s : State} {e next : Nat} {x : StpRun} (hnext : next ≤ x.total) (hk5 : s.atK5 (regionOfEngine e) = false)
    (h6 : puidKind x.unit ≠ 6) : s.stpGo e x next = (s.updEng e (fun _ => some (runAt x next))).sliceStart (runAt x next) :=
  (if_neg (Nat.not_lt.mpr hnext)).trans ((if_neg (fun h => Bool.false_ne_true (hk5.symm.trans h))).trans (if_neg h6))

/-- A steep that has slices left goes on with the next one, unless it would overrun. -/
theorem stpOn_runs {s : State} {e : Nat} {x : StpRun} (hnext : sliceAfter s x ≤ x.total) (hk5 : s.atK5 (regionOfEngine e) = false)
    (h6 : puidKind x.unit ≠ 6) (hover : s.overrun (runAt x (sliceAfter s x)) = false) :
    (∃ m, (s.stpOn e x).eng e = some { runAt x (sliceAfter s x) with margin := m }) ∧ (s.stpOn e x).stpOf x.unit = slicePassed x (s.stpOf x.unit) := by
  unfold State.stpOn
  extract_lets noted
  have hnoted : noted.stpOf x.unit = slicePassed x (s.stpOf x.unit) := stpOf_updStpOf_same _ _ _
  rw [hnoted, sliceAfter_passed, stpGo_next hnext (show noted.atK5 (regionOfEngine e) = false from hk5) h6]
  obtain ⟨hm, -, hstp⟩ := sliceStart_runs (s := noted.updEng e (fun _ => some (runAt x (sliceAfter s x)))) hover (eng_updEng_same _ _ _)
  exact ⟨hm, (stpOf_congr _ hstp _).trans hnoted⟩

theorem not_sliceStays {x : StpRun} (hp : x.phase = 4) (h6 : puidKind x.unit ≠ 6) (h5 : puidKind x.unit = 5 → x.looped = true) :
    ¬ (x.phase ≠ 4 ∨ (puidKind x.unit = 6 ∧ 2 ≤ x.slice) ∨ (puidKind x.unit = 5 ∧ !x.looped)) := by
  rintro (h | ⟨h, -⟩ | ⟨h, hl⟩)
  · exact h hp
  · exact h6 h
  · rw [h5 h] at hl
    exact absurd hl (by decide)

section
variable {s} {e : Nat} {x : StpRun} (hx : s.eng e = some x) (hp : x.phase = 4) (h6 : puidKind x.unit ≠ 6)
  (h5 : puidKind x.unit = 5 → x.looped = true)
include hx hp h6 h5

/-- A signature that agrees moves the run on. -/
theorem sliceCompare_agrees {resp : List Bool} (hsig : stpSig x resp = stpExpected x) (hnext : sliceAfter s x ≤ x.total)
    (hk5 : s.atK5 (regionOfEngine e) = false) {cyc : Nat}
    (hover : (s.updHall (regionOfEngine e) (fun h => { h with clk := some cyc })).overrun (runAt x (sliceAfter s x)) = false) :
    (∃ m, (sliceCompare s e resp cyc).eng e = some { runAt x (sliceAfter s x) with margin := m }) ∧
      (sliceCompare s e resp cyc).stpOf x.unit = slicePassed x (s.stpOf x.unit) := by
  unfold sliceCompare
  rw [hx]
  dsimp -zeta only
  extract_lets k i clocked again p
  rw [if_neg (not_sliceStays hp h6 h5), if_pos hsig]
  generalize htold : (if x.repeated then clocked.raiseOnce 0 0x7002 p x.slice x.ver else clocked) = told
  have hk : Kept (maskOf [.regs, .ecnt, .transit, .marks]) clocked told := htold ▸ .ite (kept_raiseOnce (.refl _ _) (by decide)) (.refl _ _)
  have hband : told.atK5 (regionOfEngine e) = false := by
    rw [← htold, ← hk5]
    unfold State.atK5
    split
    · rw [rd_raiseOnce_apart _ (by decide)]
      rfl
    · rfl
  have hstp : told.stpOf x.unit = s.stpOf x.unit := stpOf_congr s (hk.parts .stp (by decide)) _
  have hafter : sliceAfter told x = sliceAfter s x := by
    unfold sliceAfter
    rw [hstp]
  have hruns := stpOn_runs (s := told) (e := e) (x := x) (by rw [hafter]; exact hnext) hband h6
    (by rw [hafter, overrun_congr (hk.parts .halls (by decide))]; exact hover)
  rw [hafter, hstp] at hruns
  exact hruns

/-- A signature that differs for the first time has the slice repeated. -/
theorem sliceCompare_repeats {resp : List Bool} (hsig : stpSig x resp ≠ stpExpected x) (hrep : x.repeated = false) (cyc : Nat) :
    sliceCompare s e resp cyc = ((s.updHall (regionOfEngine e) (fun h => { h with clk := some cyc })).updEng e
      (fun _ => some { x with repeated := true, looped := false })).sliceStart { x with repeated := true, looped := false } := by
  unfold sliceCompare
  rw [hx]
  dsimp -zeta only
  extract_lets k i clocked again p
  rw [if_neg (not_sliceStays hp h6 h5), if_neg hsig, if_pos (by rw [hrep]; rfl)]

/-- A Taster's second mismatch is a failure. -/
theorem sliceCompare_taster {resp : List Bool} (hsig : stpSig x resp ≠ stpExpected x) (hrep : x.repeated = true) (hkind : puidKind x.unit = 2) (cyc : Nat) :
    ∃ v ∈ (sliceCompare s e resp cyc).transit, v.code = 0x7001 ∧ v.puid = x.unit ∧ v.p6 = 3 := by
  unfold sliceCompare
  rw [hx]
  dsimp -zeta only
  extract_lets k i clocked again p
  rw [if_neg (not_sliceStays hp h6 h5), if_neg hsig, if_neg (by rw [hrep]; decide), hkind]
  obtain ⟨v, hv, hcode, hpuid, hp6⟩ := mem_stpFail_transit clocked e x 3 3
  have hk : Kept allButEvents (clocked.stpFail e x 3 3) (if testsCollector x then (clocked.stpFail e x 3 3).updAdjOf k (fun a => { a with collector := true })
      else clocked.stpFail e x 3 3) := .ite (kept_updAdjOf (.refl _ _) (by decide)) (.refl _ _)
  exact ⟨v, hk.event (by decide) hv, hcode, hpuid, hp6⟩
end

/-! A slice that is aborted. -/

/-- A unit that is held after an abort has left its engine. -/
theorem stpHold_eng (e : Nat) : (s.stpHold e).eng e = none := by
  unfold State.stpHold
  cases he : s.eng e with
  | none => exact he
  | some x =>
    dsimp only
    have hfree : (s.updEng e (fun _ => none)).eng e = none := eng_updEng_same _ _ _
    split
    · exact (eng_congr _ ((kept_loopsOut (A := allBut .engs) (.refl _ _) (by decide)).parts .engs (by decide)) _).trans hfree
    · split
      · exact hfree
      · refine (eng_congr _ (Kept.parts (A := allBut .engs) ?_ .engs (by decide)) _).trans hfree
        exact kept_updStpOf (kept_updCore (kept_unlend (kept_emit (.refl _ _) (by decide)) (by decide)) (by decide)) (by decide)

/-- One of Onasen's own units stays as it was. -/
theorem stpHold_units (e : Nat) : (s.stpHold e).units = s.units := (kept_stpHold (A := allBut .units) (.refl _ s) (by decide)).parts .units (by decide)

section
variable {s} {e : Nat} {x : StpRun} (hx : s.eng e = some x) (hp : x.phase = 4)
include hx hp

/-- The unit that an aborted slice is told of: a core's Tap in a slice of the Tap. -/
def abortedUnit (x : StpRun) : Nat :=
  if decide (puidKind x.unit = 0 ∧ x.slice ≤ x.tapN) then puTap (puidMajor x.unit) (puidMinor x.unit) else x.unit

/-- An aborted slice ends the attempt and puts its unit off, and is told once. -/
theorem sliceAbort_ends (us : Nat) : (sliceAbort s e us).eng e = none ∧ ((sliceAbort s e us).stpOf x.unit).deferred = s.now ∧
    (puidKind x.unit ≠ 0 → (sliceAbort s e us).units = s.units) ∧
    (s.marks.contains (abortedUnit x, 0x7010, 0) = false → event s 0x7010 (abortedUnit x) x.slice
      (if puidKind x.unit = 0 ∧ decide (puidKind x.unit = 0 ∧ x.slice ≤ x.tapN) = false then x.pkg.us else 500) us ∈ (sliceAbort s e us).transit) := by
  unfold sliceAbort
  rw [hx]
  dsimp -zeta only
  extract_lets core tap counted told
  rw [if_neg (not_not_intro hp)]
  have hcounted : Kept (maskOf [.regs, .ecnt, .rcnt, .transit, .marks]) s counted := .ite (kept_count (.refl _ s) (by decide)) (.refl _ s)
  have htold : Kept (maskOf [.regs, .ecnt, .rcnt, .transit, .marks]) s told := kept_raiseOnce hcounted (by decide)
  have htap : (tap = true) = (decide (puidKind x.unit = 0 ∧ x.slice ≤ x.tapN) = true) := by
    simp [tap, core]
  have hcore : ((core && !tap) = true) = (puidKind x.unit = 0 ∧ decide (puidKind x.unit = 0 ∧ x.slice ≤ x.tapN) = false) := by
    by_cases h : puidKind x.unit = 0 <;> simp [tap, core, h]
  have hunit : (if tap then puTap (puidMajor x.unit) (puidMinor x.unit) else x.unit) = abortedUnit x := by
    unfold abortedUnit
    simp only [htap]
  have htold' : told = counted.raiseOnce 0 0x7010 (abortedUnit x) x.slice
      (if puidKind x.unit = 0 ∧ decide (puidKind x.unit = 0 ∧ x.slice ≤ x.tapN) = false then x.pkg.us else 500) us := by
    unfold told
    rw [hunit]
    simp only [hcore]
  have hevent : s.marks.contains (abortedUnit x, 0x7010, 0) = false → event s 0x7010 (abortedUnit x) x.slice
      (if puidKind x.unit = 0 ∧ decide (puidKind x.unit = 0 ∧ x.slice ≤ x.tapN) = false then x.pkg.us else 500) us ∈ told.transit := by
    intro hm
    rw [← hcounted.event_eq (by decide) (by decide), htold']
    have hmarks : counted.marks = s.marks := Kept.parts (A := allBut .marks) (.ite (kept_count (.refl _ s) (by decide)) (.refl _ s)) .marks (by decide)
    exact mem_raiseOnce_transit (by rw [hmarks]; exact hm) _ _ _
  clear_value told
  refine ⟨?_, ?_, fun hkind => ?_, fun hm => ?_⟩
  · rw [eng_congr _ (updStpOf_engs _ _ _)]
    split
    · exact stpEnd_eng told e
    · exact stpHold_eng told e
  · rw [stpOf_updStpOf_same]
    exact now_of_wall s (htold.parts .wall (by decide))
  · rw [updStpOf_units, if_neg (by rw [show core = false from beq_false_of_ne hkind, Bool.false_and]; decide), stpHold_units]
    exact htold.parts .units (by decide)
  · rw [updStpOf_transit]
    split
    · exact mem_stpEnd_transit (hevent hm) e
    · exact (kept_stpHold (A := allButEvents) (.refl _ told) (by decide)).event (by decide) (hevent hm)
end

/-- Settles O23: clause by clause. -/
theorem sliceVerdicts : Obligations.SliceVerdicts := by
  unfold Obligations.SliceVerdicts
  intro s
  refine ⟨fun k p x hrst hres hx hp => ⟨fun h5 hlast h0 => ⟨fun hover => ?_, fun hover => ?_⟩, fun key => ⟨_, rfl, secretClearDone_fails hrst hres hx hp _⟩⟩,
    fun e x resp cyc hheld hx hp h6 h5 => ?_, fun e x us hx hp => ?_⟩
  · refine runs_of_exec rfl ((secretClearDone_next hrst hres hx hp h5 hlast h0).trans (if_neg (by rw [hover]; decide))) ?_
    exact clearedSlice_runs hover
  · refine runs_of_exec rfl ((secretClearDone_next hrst hres hx hp h5 hlast h0).trans (if_pos hover)) ?_
    obtain ⟨-, hu⟩ := eng_of_runOf hx
    refine ⟨?_, ?_⟩
    · rw [stpDefer_eng, stpEnd_eng]
      rfl
    · rw [← hu, stpDefer_deferred]
      exact now_of_wall s ((kept_stpEnd (A := allBut .wall) (.refl _ _) (by decide)).parts .wall (by decide))
  · intro s' again next on
    have hrun : ∀ {P : State → Prop}, P (sliceCompare s (engineNo e) resp cyc) → runs (.sliceCompare e resp cyc) s P := fun h =>
      runs_of_exec rfl (if_neg (by rw [hheld]; decide)) h
    refine ⟨fun hsig hnext hk5 hover => hrun ?_, fun hsig hrep => hrun ?_, fun hsig hrep hkind => hrun ?_⟩
    · obtain ⟨hm, hnoted⟩ := sliceCompare_agrees hx hp h6 h5 hsig hnext hk5 hover
      rw [hnoted]
      unfold slicePassed
      exact ⟨hm, fun h => by rw [if_neg (by omega)], fun h => by rw [if_pos h]⟩
    · exact sliceCompare_repeats hx hp h6 h5 hsig hrep cyc
    · exact sliceCompare_taster hx hp h6 h5 hsig hrep hkind cyc
  · intro tap p
    obtain ⟨heng, hdef, hunits, hevent⟩ := sliceAbort_ends hx hp us
    exact ⟨_, rfl, by rw [heng]; rfl, hdef, hunits, hevent⟩

end Sys2Proof.Machine
end

section
/-! The steps of a core, engine, region and chip reset (R364-R366, R373-R377, R382, R386, R406). -/
namespace Sys2Proof.Machine
open Sys2Proof Host Sys2Proof.Claims
variable (s : State)

/-! Drains that end. -/

/-- What a scope absorbs leaves the cores and, of a cluster's ports, whether they drain, absorb or reset. -/
theorem absorbedAt_cores (sc : Scope) (bytes : Nat) (cs : List Nat) : (s.absorbedAt sc bytes cs).cores = s.cores :=
  (kept_absorbedAt (A := allBut .cores) (.refl _ s) (by decide)).parts .cores (by decide)

/-- A core whose egress has drained is held in reset with its wrapper off. -/
theorem coreDrained_held {k p : Nat} (h : s.resets.any (fun x => x.level == 1 && x.at_ == ckey k p && x.step == 4) = true) :
    ((s.coreDrained k p).core (ckey k p)).rst = true ∧ ((s.coreDrained k p).core (ckey k p)).wrapEn = false := by
  unfold State.coreDrained
  rw [if_neg (by rw [h]; decide)]
  extract_lets lost stepped
  have hk : Kept (allBut .cores) (stepped.updCore (ckey k p) (fun x => { x with rst := true, wrapEn := false }))
      ((stepped.updCore (ckey k p) (fun x => { x with rst := true, wrapEn := false })).showDrain k) := kept_showDrain (.refl _ _) (by decide)
  rw [core_congr _ (hk.parts .cores (by decide)), core_updCore_same]
  exact ⟨rfl, rfl⟩

/-- A cluster's ports drain, absorb and reset alike. -/
def DrainKept (k : Nat) (s t : State) : Prop :=
  (t.port k).clRst = (s.port k).clRst ∧ (t.port k).absorb = (s.port k).absorb ∧ (t.port k).drain = (s.port k).drain

theorem DrainKept.of_ports {k : Nat} {s t : State} (h : t.ports = s.ports) : DrainKept k s t := by
  unfold DrainKept
  rw [port_congr s h]
  exact ⟨rfl, rfl, rfl⟩
theorem DrainKept.trans {k : Nat} {s t u : State} (h : DrainKept k s t) (h' : DrainKept k t u) : DrainKept k s u :=
  ⟨h'.1.trans h.1, h'.2.1.trans h.2.1, h'.2.2.trans h.2.2⟩

/-- Suspects that join a cluster's set may hold its ports, and no more. -/
theorem drainKept_addSuspects (k : Nat) (cs : List Nat) : DrainKept k s (s.addSuspects k cs) := by
  unfold State.addSuspects
  extract_lets live
  split
  · exact .of_ports rfl
  · split
    · exact .of_ports ((kept_updSet (A := allBut .ports) (.refl _ s) (by decide)).parts .ports (by decide))
    · unfold State.openSet
      extract_lets first all opened held counted
      have hheld : DrainKept k s held := by
        have hk : Kept (allBut .ports) (opened.updPort k (fun p => { p with hold := true, allow := 0 })) held := kept_hallAct (.refl _ _) (by decide)
        refine DrainKept.trans (t := opened.updPort k (fun p => { p with hold := true, allow := 0 })) ?_ (.of_ports (hk.parts .ports (by decide)))
        unfold DrainKept
        rw [port_updPort_same]
        exact ⟨rfl, rfl, rfl⟩
      exact hheld.trans (.of_ports rfl)

/-- A cluster whose drain has ended absorbs and is in reset. -/
theorem engineDrained_port {k : Nat} (h : s.resets.any (fun x => x.level == 2 && x.at_ == k && x.step == 2) = true) :
    ((s.engineDrained k).port k).clRst = true ∧ ((s.engineDrained k).port k).absorb = true ∧ ((s.engineDrained k).port k).drain = none := by
  unfold State.engineDrained
  rw [if_neg (by rw [h]; decide)]
  dsimp only
  rw [port_updPort_same]
  exact ⟨rfl, rfl, rfl⟩

/-- What a cluster's drain absorbed leaves its ports as they drain. -/
theorem drainKept_absorbedAt (k : ClusterId) (bytes : Nat) (cs : List Nat) : DrainKept k.val s (s.absorbedAt (.cluster k) bytes cs) := by
  unfold State.absorbedAt
  extract_lets note
  dsimp -zeta only
  split
  · have hnote : DrainKept k.val s (note s 2 k.val) := .of_ports rfl
    generalize note s 2 k.val = noted at hnote
    exact (hnote.trans (drainKept_addSuspects noted k.val cs)).trans (.of_ports (count_ports _ _ _ _ _))
  · exact .of_ports rfl

/-- A wafer whose egress has drained restarts, and keeps its memory and its history. -/
theorem chipDrained_started (h : s.resets.any (fun x => x.level == 4) = true) :
    s.chipDrained.hist = s.hist ∧ s.chipDrained.mem = s.mem ∧ s.chipDrained.resets = [] ∧ s.chipDrained.fw.stage = 1 := by
  unfold State.chipDrained
  rw [if_neg (by rw [h]; decide)]
  dsimp only
  split
  · exact ⟨rfl, rfl, rfl, rfl⟩
  · exact ⟨rfl, rfl, rfl, rfl⟩

/-! What follows. -/

/-- A cluster that has been reset runs again on its repaired map. -/
theorem clusterResetDone_port {k : Nat} (h : s.resets.any (fun x => x.level == 2 && x.at_ == k && x.step == 3) = true) :
    ((clusterResetDone s k).port k).clRst = false ∧ ((clusterResetDone s k).port k).killing = [] ∧ ((clusterResetDone s k).port k).commit = true ∧
      (clusterResetDone s k).hangs = s.hangs.filter (fun h => h.1 != k) := by
  unfold clusterResetDone
  rw [if_neg (by rw [h]; decide)]
  extract_lets stepped cleared fix written
  have hwritten : Kept (maskOf [.regs, .ecnt, .transit, .marks, .drainSince, .mbx])
      (cleared.updPort k (fun x => { x with clRst := false, killing := [], coreShadow := fix, commit := true })) written :=
    kept_noSpares (.refl _ _) (by decide)
  have hcleared : Kept (allBut .hangs) stepped cleared := kept_updRplOf (kept_dropCmds (.refl _ _) (by decide)) (by decide)
  have hcores : ∀ l : List Nat, Kept (maskOf [.cores]) written (written.each l (fun s p =>
      if (s.runOf (puCore k p)).isSome then s
      else s.updCore (ckey k p) (fun c => { c with cmd := none, expired := false, stopped := false, fence := s.coreOut k p, rst := s.coreOut k p || c.rst }))) :=
    fun l => kept_each (.refl _ _) (fun _ _ ht => .ite ht (kept_updCore ht (by decide)))
  have hports := fun l => ((hcores l).parts .ports (by decide)).trans (hwritten.parts .ports (by decide))
  have hhangs := fun l => ((hcores l).parts .hangs (by decide)).trans ((hwritten.parts .hangs (by decide)).trans (hcleared.parts .hangs (by decide)))
  rw [port_congr _ (hports _), port_updPort_same]
  exact ⟨rfl, rfl, rfl, hhangs _⟩

/-- What every one of some actions brings about for its own element under an invariant, and none undoes, holds at the end for all of them. -/
theorem each_reaches {α : Type} {f : State → α → State} {I : State → Prop} {P : State → α → Prop} (hinv : ∀ t x, I t → I (f t x))
    (hown : ∀ t x, I t → P (f t x) x) (hkeep : ∀ t x y, P t y → P (f t x) y) (l : List α) (hI : I s) : ∀ x ∈ l, P (s.each l f) x := by
  have hstay : ∀ (l : List α) (t : State) (x : α), P t x → P (t.each l f) x := by
    intro l
    induction l with
    | nil => exact fun _ _ h => h
    | cons y l ih => exact fun t x h => ih (f t y) x (hkeep t y x h)
  induction l generalizing s with
  | nil => exact fun _ h => absurd h List.not_mem_nil
  | cons y l ih =>
    intro x hx
    rcases List.mem_cons.mp hx with rfl | hx
    · exact hstay l (f s x) x (hown s x hI)
    · exact ih (f s y) (hinv s y hI) x hx

/-- Memory that has trained moves its region on with no unit failed. -/
theorem memoryRetrainDone_none {r : Nat} {x : Reset} (hx : s.resets.find? (fun y => y.level == 3 && y.at_ == r && y.step == 6) = some x) :
    (memoryRetrainDone s r []).resets = s.resets.map (fun y => if y.level = 3 ∧ y.at_ = r then { y with step := 7, failed := 0 } else y) ∧
      (x.cause = 4 → ∀ c ∈ stacksOf r, ((memoryRetrainDone s r []).cel c).hold = false) := by
  unfold memoryRetrainDone
  rw [hx]
  dsimp -zeta only
  extract_lets bad stepped failed
  have hcels : Kept (maskOf [.cels]) stepped (stepped.each (stacksOf r) (fun s c => s.updCel c (fun y => { y with hold := false, saved := none }))) :=
    kept_each (.refl _ _) (fun _ _ ht => kept_updCel ht (by decide))
  constructor
  · split
    · exact hcels.parts .resets (by decide)
    · exact rfl
  · intro hc c hmem
    rw [if_pos hc]
    refine each_reaches _ (I := fun _ => True) (P := fun t c => (t.cel c).hold = false) (fun _ _ _ => trivial) (fun t d _ => ?_) (fun t d e ht => ?_) _ trivial c hmem
    · rw [cel_updCel_same]
    · by_cases he : e = d
      · rw [he, cel_updCel_same]
      · rw [cel_updCel_other _ he]
        exact ht

/-- A region that is ready raises 0x8021. -/
theorem mem_regionReady_transit {r : Nat} {x : Reset} (hx : s.resets.find? (fun y => y.level == 3 && y.at_ == r && y.step == 7) = some x)
    (hheld : s.regionHeld r = false) :
    event s 0x8021 (puHal r) (if 5 ≤ x.cause then 3 else x.cause) ((s.now - x.start) / 1000000) x.failed ∈ (regionReady s r).transit := by
  unfold regionReady
  rw [hx]
  dsimp -zeta only
  rw [if_neg (by rw [hheld]; decide)]
  extract_lets ended mapped reloaded adopted supplied shown back n third stored told shut noted ports
  have hended : Kept allButTime s ended := Kept.u_resets (.refl _ s) (by decide)
  have hmapped : Kept allButTime s mapped := kept_each hended (fun _ _ ht => kept_noSpares (kept_updPort ht (by decide)) (by decide))
  have hreloaded : Kept allButTime s reloaded := kept_reloadRegion hmapped (by decide)
  have hadopted : Kept allButTime s adopted := kept_each hreloaded (fun _ _ ht => .ite ht (kept_adopt ht (by decide)))
  have hsupplied : Kept allButTime s supplied := kept_emergCheck (kept_updHall hadopted (by decide)) (by decide)
  have hshown : Kept allButTime s shown := kept_mapChanged (kept_unshut (kept_unlose hsupplied (by decide)) (by decide)) (by decide)
  have hstored : Kept allButTime s stored := kept_updHall hshown (by decide)
  have hcount : Kept allButTime s (stored.count (uHAL r) HAL_RST_PART_COUNT) := kept_count hstored (by decide)
  have htold : event s 0x8021 (puHal r) (if 5 ≤ x.cause then 3 else x.cause) ((s.now - x.start) / 1000000) x.failed ∈ told.transit := by
    have hnow : stored.now = s.now := now_of_wall s (hstored.parts .wall (by decide))
    rw [← hcount.event_of_time, ← hnow]
    exact List.mem_append_right _ (List.mem_singleton_self _)
  have hshut : Kept allButEvents told shut :=
    .ite (kept_notifyRegion (kept_raise (kept_shutUnits (.refl _ _) (by decide)) (by decide)) (by decide))
      (.ite (kept_shutUnits (.refl _ _) (by decide)) (.refl _ _))
  have hnoted : Kept allButEvents told noted := kept_notifyReset hshut (by decide)
  have hports : Kept allButEvents told ports := kept_each hnoted (fun _ _ ht => kept_trace (kept_updPort ht (by decide)) (by decide))
  have hdone : Kept allButEvents told ((if third then ports else ports.each (clustersOf r) (fun s k => s.replayGo k)).showHold) :=
    kept_showHold (.ite hports (kept_each hports (fun _ _ ht => kept_replayGo ht (by decide)))) (by decide)
  exact hdone.event (by decide) htold

/-- Settles O27: a drain that ends goes on with its scope's reset, and what follows by its own rule. -/
theorem resetSteps : Obligations.ResetSteps := by
  unfold Obligations.ResetSteps
  intro s
  have hends : ∀ (sc : Scope) (bytes : Nat) (cs : List Ctx) (Q : State → Prop), Q (drainEnd s sc bytes (cs.map (·.toNat))) →
      runs (.drainComplete sc bytes cs) s Q ∧ runs (.drainBound sc bytes cs) s Q := fun sc bytes cs Q hQ => ⟨runs_of_exec rfl rfl hQ, runs_of_exec rfl rfl hQ⟩
  refine ⟨?core, ?engine, ?region, ?wafer, ?cluster, ?memory, ?ready, ?neighbour⟩
  case core =>
    intro k p h held bytes cs
    refine hends _ _ _ _ ?_
    have hcores := absorbedAt_cores (s.coreDrained k.val p.val) (.core k p) bytes (cs.map (·.toNat))
    show ((drainEnd s (.core k p) bytes _).core _).rst = true ∧ ((drainEnd s (.core k p) bytes _).core _).wrapEn = false
    rw [show (drainEnd s (.core k p) bytes _).core _ = _ from core_congr _ hcores _]
    exact coreDrained_held s h
  case engine =>
    intro k h held bytes cs
    refine hends _ _ _ _ ?_
    obtain ⟨hrst, habsorb, hdrain⟩ := engineDrained_port s h
    obtain ⟨hrst', habsorb', hdrain'⟩ := drainKept_absorbedAt (s.engineDrained k.val) k bytes (cs.map (·.toNat))
    exact ⟨hrst'.trans hrst, habsorb'.trans habsorb, hdrain'.trans hdrain⟩
  case region =>
    intro r h bytes cs u held
    refine hends _ _ _ _ ?_
    show (s.partDrained r.val).absorbedAt (.region r) bytes (cs.map (·.toNat)) = _
    rw [show s.partDrained r.val = u from if_neg (by rw [h]; decide)]
    rfl
  case wafer =>
    intro h started bytes cs
    refine hends _ _ _ _ ?_
    exact chipDrained_started s h
  case cluster =>
    intro k h
    exact runs_of_exec rfl rfl (clusterResetDone_port s h)
  case memory =>
    intro r x hx
    exact runs_of_exec rfl rfl (memoryRetrainDone_none s hx)
  case ready =>
    intro r x hx hheld
    exact runs_of_exec rfl rfl (mem_regionReady_transit s hx hheld)
  case neighbour =>
    intro r d q hq hpart hlost hshut bytes
    refine runs_of_exec rfl rfl ?_
    show neighbourResetComplete s r.val d bytes = _
    unfold neighbourResetComplete
    rw [hq]
    exact if_neg (by rw [hpart, hlost, hshut]; decide)

end Sys2Proof.Machine
end

section
/-! What is recorded of the events on their way leaves of every Hall all but its contact with the Brewhouse (R65, R425-R428). -/
namespace Sys2Proof.Machine
open Sys2Proof Host Sys2Proof.Claims
variable (s : State)

/-- A Hall that has heard a Brewhouse, and may have contact again. -/
def hallHeard (h : HallSt) (heard : Nat) (noContact : Bool) : HallSt := { h with lastHeard := heard, noContact := noContact }

/-- Every Hall is as it was but for its contact with the Brewhouse. -/
def ContactOnly (s t : State) : Prop := ∀ r, ∃ heard noContact, t.hall r = hallHeard (s.hall r) heard noContact

theorem ContactOnly.of_halls {s t : State} (h : t.halls = s.halls) : ContactOnly s t :=
  fun r => ⟨(s.hall r).lastHeard, (s.hall r).noContact, hall_congr s h r⟩
theorem ContactOnly.refl : ContactOnly s s := .of_halls rfl
theorem ContactOnly.of_kept {A : Nat} {s t : State} (k : Kept A s t) (hA : A.testBit Part.halls.bit = false) : ContactOnly s t :=
  .of_halls (k.parts .halls hA)
theorem ContactOnly.trans {s t u : State} (h : ContactOnly s t) (h' : ContactOnly t u) : ContactOnly s u := by
  intro r
  obtain ⟨a, b, e⟩ := h r
  obtain ⟨a', b', e'⟩ := h' r
  exact ⟨a', b', by rw [e', e]; rfl⟩
theorem ContactOnly.each {α : Type} {f : State → α → State} (hf : ∀ t x, ContactOnly t (f t x)) (l : List α) : ContactOnly s (s.each l f) := by
  unfold State.each
  induction l generalizing s with
  | nil => exact .refl s
  | cons x l ih => exact (hf s x).trans (ih (f s x))

theorem ContactOnly.ite {s t u : State} {c : Prop} [Decidable c] (ht : ContactOnly s t) (hu : ContactOnly s u) : ContactOnly s (if c then t else u) := by
  split
  · exact ht
  · exact hu

theorem ContactOnly.pg {s t : State} (h : ContactOnly s t) (r : Nat) : (t.hall r).pg = (s.hall r).pg := by
  obtain ⟨a, b, e⟩ := h r; rw [e]; rfl

/-! Packets that move. -/

/-- A Hall that hears the Brewhouse. -/
theorem contactOnly_hears (q heard : Nat) : ContactOnly s (s.updHall q (fun h => { h with lastHeard := heard, noContact := false })) := by
  intro r
  by_cases hr : r = q
  · rw [hr, hall_updHall_same]
    exact ⟨heard, false, rfl⟩
  · rw [hall_updHall_other _ hr]
    exact ContactOnly.refl s r

theorem contactOnly_deliverPort (f : Nat) (p : Packet) (port : Nat) : ContactOnly s (s.deliverPort f p port) := by
  unfold State.deliverPort
  extract_lets x out told lower heard
  split
  · exact .refl s
  · split
    · exact .of_kept (A := allBut .halls) (kept_emit (.ite (.refl _ s) (kept_updBrew (.refl _ s) (by decide))) (by decide)) (by decide)
    · refine .ite (.ite (.of_kept (A := allBut .halls) (kept_updClock (.refl _ s) (by decide)) (by decide)) ?_)
        (.of_kept (A := allBut .halls) (kept_emit (.refl _ s) (by decide)) (by decide))
      extract_lets noted
      have hnoted : ContactOnly s noted := .of_kept (A := allBut .halls) (kept_emit (kept_updClock (.refl _ s) (by decide)) (by decide)) (by decide)
      exact .ite (hnoted.trans (contactOnly_hears noted _ _)) hnoted

theorem contactOnly_deliver (f : Nat) (p : Packet) : ContactOnly s (s.deliver f p) := by
  unfold State.deliver
  dsimp only
  split
  · exact .each s (fun t q => contactOnly_deliverPort t f p q) _
  · split
    · exact contactOnly_deliverPort s f p 18
    · split
      · exact .of_kept (kept_relay (A := allBut .halls) (.refl _ s) (by decide)) (by decide)
      · exact contactOnly_deliverPort s f p _

theorem contactOnly_serve (f : Nat) (e : InPkt) (l : Nat) : ContactOnly s (s.serve f e l) := by
  refine (ContactOnly.of_kept (outputTaken_kept s f e l) (by decide)).trans ?_
  by_cases h : l = 6
  · subst h
    exact contactOnly_deliver _ f e.pkt
  · rw [serve_hop s h]
    exact .of_kept (outputSent_kept _ f e l) (by decide)

theorem contactOnly_pump : ContactOnly s s.pump := pump_induct (fun t f e l _ h => h.trans (contactOnly_serve t f e l)) (.refl s)

theorem contactOnly_routePacket (f : Nat) (p : Packet) : ContactOnly s (s.routePacket f p) :=
  (ContactOnly.of_kept (kept_enqueue (A := allBut .halls) (.refl _ s) (by decide)) (by decide)).trans (contactOnly_pump _)

theorem contactOnly_bulk (src dst : Nat) (bs : List Byte) : ContactOnly s (s.bulk src dst bs) := by
  unfold State.bulk State.bulkPacket State.unicast
  exact ((contactOnly_routePacket s _ _).trans (.of_kept (A := allBut .halls) (kept_emit (.refl _ _) (by decide)) (by decide))).trans (contactOnly_routePacket _ _ _)

theorem contactOnly_sendHeld (h t no : Nat) (x : Held) : ContactOnly s (s.sendHeld h t no x) := by
  unfold State.sendHeld
  dsimp only
  split
  · exact .each s (fun t c => contactOnly_routePacket t _ _) _
  · exact contactOnly_bulk s _ _ _

/-! Cases and replicas of an adopted cluster. -/
theorem contactOnly_askNeighbour (h no : Nat) (asked : List Nat) : ContactOnly s (s.askNeighbour h no asked) := by
  unfold State.askNeighbour
  split
  · exact .refl s
  · split
    · exact .of_kept (A := allBut .halls) (kept_updCase (.refl _ s) (by decide)) (by decide)
    · exact (ContactOnly.of_kept (A := allBut .halls) (kept_updCase (.refl _ s) (by decide)) (by decide)).trans (contactOnly_sendHeld _ h _ no _)

theorem contactOnly_secured (h no : Nat) (x : Held) : ContactOnly s (s.secured h no x) :=
  (ContactOnly.of_kept (kept_askRepeat (A := allBut .halls) (kept_updCase (.refl _ s) (by decide)) (by decide)) (by decide)).trans (contactOnly_askNeighbour _ h no [])

theorem contactOnly_rereadDone (k h : Nat) (u : RplUnit) (no : Nat) : ContactOnly s (s.rereadDone k h u no) := by
  unfold State.rereadDone
  extract_lets out
  have hout : ContactOnly s out := .of_kept (A := allBut .halls) (kept_unitsOut (.refl _ s) (by decide)) (by decide)
  split
  · exact hout.trans (contactOnly_secured _ h no _)
  · exact hout

theorem contactOnly_unitGo (k h : Nat) (u : RplUnit) : ContactOnly s (s.unitGo k h u) := by
  unfold State.unitGo
  split
  · exact .refl s
  · split
    · split
      · exact contactOnly_rereadDone s k h u _
      · exact .of_kept (A := allBut .halls) (kept_updRunit (.refl _ s) (by decide)) (by decide)
    · refine .of_kept (A := allBut .halls) (.ite (.refl _ s) (.ite (.refl _ s) ?_)) (by decide)
      split
      · exact .refl _ s
      · exact kept_emit (kept_updRunit (.refl _ s) (by decide)) (by decide)
    · exact .of_kept (A := allBut .halls) (kept_dropUnit (.refl _ s) (by decide)) (by decide)
    · exact .of_kept (A := allBut .halls) (kept_dropUnit (.refl _ s) (by decide)) (by decide)

theorem contactOnly_rplGo (k : Nat) : ContactOnly s (s.rplGo k) := by
  unfold State.rplGo
  split
  · exact .refl s
  · exact .each s (fun t u => contactOnly_unitGo t k _ u) _

theorem contactOnly_restartCase (k src t : Nat) (c : Case) : ContactOnly s (s.restartCase k src t c) := by
  unfold State.restartCase
  extract_lets a keeps reads u no dropped again kept
  have hkept : Kept (allBut .halls) s kept := kept_updAdjOf (kept_dropCase (.refl _ s) (by decide)) (by decide)
  refine .ite (.of_kept (A := allBut .halls) (kept_inconclusive (.refl _ s) (by decide)) (by decide)) ?_
  clear_value kept u
  cases u with
  | some u => exact .of_kept (kept_updRplOf hkept (by decide)) (by decide)
  | none =>
    exact .ite (.of_kept hkept (by decide)) ((ContactOnly.of_kept (.ite (kept_askRepeat hkept (by decide)) hkept) (by decide)).trans (contactOnly_askNeighbour _ t no _))

theorem contactOnly_adoptFrom (k src : Nat) : ContactOnly s (s.adoptFrom k src) := by
  unfold State.adoptFrom
  extract_lets cs dropped mine cleared own taken
  split
  · exact .refl s
  · split
    · extract_lets adopted given restarted
      have hgiven : ContactOnly s given :=
        .of_kept (A := allBut .halls) (kept_updAdjOf (kept_updAdjOf (kept_updAdjOf (kept_each (.refl _ s) (fun _ _ h => kept_rptDrop h (by decide)))
          (by decide)) (by decide)) (by decide)) (by decide)
      have hgo := ((hgiven.trans (.each given (fun u c => contactOnly_restartCase u k src _ c) cs)).trans
        (.of_kept (A := allBut .halls) (kept_rptGo (.refl _ restarted) (by decide)) (by decide))).trans (contactOnly_rplGo (restarted.rptGo k) k)
      exact hgo.trans (.of_kept (A := allBut .halls) (kept_raiseOnce (.refl _ _) (by decide)) (by decide))
    · exact .of_kept (A := allBut .halls) (kept_closeGates (kept_raiseOnce (kept_updAdjOf (kept_rptDrop
        (kept_each (.refl _ s) (fun _ _ h => kept_inconclusive h (by decide))) (by decide)) (by decide)) (by decide)) (by decide)) (by decide)

theorem contactOnly_leaveService (k : Nat) : ContactOnly s (s.leaveService k) := by
  unfold State.leaveService
  extract_lets left freed
  have hleft : ContactOnly s left := .of_kept (A := allBut .halls) (kept_stpAbandon (.refl _ s) (by decide)) (by decide)
  split
  · exact hleft.trans (contactOnly_adoptFrom _ k k)
  · exact ((hleft.trans (.of_kept (A := allBut .halls) (kept_updAdjOf (.refl _ left) (by decide)) (by decide))).trans (contactOnly_adoptFrom _ _ k)).trans (contactOnly_adoptFrom _ k k)

theorem contactOnly_permEffect (p : Nat) : ContactOnly s (s.permEffect p) := by
  unfold State.permEffect
  extract_lets k
  split
  · exact .of_kept (A := allBut .halls) (kept_fenceCore (.refl _ s) (by decide)) (by decide)
  · exact contactOnly_leaveService s k
  · exact .of_kept (A := allBut .halls) (kept_fenceStack (.refl _ s) (by decide)) (by decide)
  · exact .of_kept (A := allBut .halls) (kept_shutLink (.refl _ s) (by decide)) (by decide)
  · exact .of_kept (A := allBut .halls) (kept_fenceChan (.refl _ s) (by decide)) (by decide)
  · exact .refl s

theorem contactOnly_enterPermanent (p : Nat) : ContactOnly s (s.enterPermanent p) := by
  unfold State.enterPermanent
  extract_lets prev n told
  split
  · exact .refl s
  · have htold : ContactOnly s told := .of_kept (A := allBut .halls) (kept_raise (kept_setHistState (.refl _ s) (by decide)) (by decide)) (by decide)
    exact (htold.trans (contactOnly_permEffect _ p)).trans (.of_kept (A := allBut .halls) (kept_policyEvent (.refl _ _) (by decide)) (by decide))

/-! Events recorded. -/
theorem contactOnly_histEntry (p : Nat) (e : HistEntry) : ContactOnly s (s.histEntry p e) := by
  unfold State.histEntry
  split
  next made room hroom =>
    have hmade : ContactOnly s made := .of_kept (A := allBut .halls) ((kept_histRoom (.refl _ s) (by decide)).of_eq hroom) (by decide)
    refine .ite hmade ?_
    extract_lets staged
    have hstaged : ContactOnly s staged :=
      hmade.trans (.of_kept (A := allBut .halls) (kept_histStage (kept_updHistOf (.refl _ made) (by decide)) (by decide)) (by decide))
    exact .ite (hstaged.trans (contactOnly_enterPermanent staged p)) hstaged

theorem contactOnly_eventRecord : ContactOnly s (eventRecord s) := by
  unfold eventRecord
  split
  · exact .refl s
  · split
    · exact .of_kept (A := 2 ^ 86 ||| allBut .halls) (.u_transit (kept_each (.refl _ s) (fun _ _ h => kept_tellHall h (by decide))) (.inr (by decide)) (by decide)) (by decide)
    · split
      next seq recorded hseq =>
        extract_lets reported written
        have hrecorded : Kept (2 ^ 86 ||| allBut .halls) s recorded :=
          (kept_recordEvent (.u_transit (kept_tellHall (.refl _ s) (by decide)) (.inr (by decide)) (by decide)) (by decide)).of_eq hseq
        have hwritten : ContactOnly s written := by
          have hreported : ContactOnly s reported := .of_kept (kept_mgmtEvent hrecorded (by decide)) (by decide)
          unfold written
          split
          · exact hreported.trans (contactOnly_histEntry reported _ _)
          · exact hreported
        exact .ite hwritten (hwritten.trans (.of_kept (A := allBut .halls) (kept_atticClose (.refl _ written) (by decide)) (by decide)))

theorem contactOnly_settle : ContactOnly s s.settle := by
  unfold State.settle
  extract_lets recorded
  exact (ContactOnly.each s (fun t _ => contactOnly_eventRecord t) _).trans
    (.of_kept (A := allBut .halls) (kept_histProgram (kept_atticFlush (.refl _ _) (by decide)) (by decide)) (by decide))

end Sys2Proof.Machine
end

section
/-! Resets that do not finish, and power cycles (R24, R118, R361, R378, R380, R572). -/
namespace Sys2Proof.Machine
open Sys2Proof Host Sys2Proof.Claims
variable (s : State)

/-- An escalation raises 0x8024 and covers nothing more yet. -/
theorem mem_escalated_transit (p from_ to_ start : Nat) : event s 0x8024 p from_ to_ ((s.now - start) / 1000) ∈ (s.escalated p from_ to_ start).transit :=
  List.mem_append_right _ (List.mem_singleton_self _)

/-- An engine's reset that no wider one covers starts. -/
theorem engineReset_started {k : Nat} (h : s.widerReset k = false) (cause : Nat) :
    (s.engineReset k cause).resets.any (fun y => y.level == 2 && y.at_ == k) = true := by
  unfold State.engineReset
  rw [if_neg (by rw [h]; decide)]
  extract_lets live logged begun joined held
  have hk : Kept (allBut .resets) begun ((held.trace k 5 0x31 none none 2).fwHold) :=
    kept_fwHold (kept_trace (kept_updSet (kept_updPort (kept_addSuspects (.refl _ begun) (by decide)) (by decide)) (by decide)) (by decide)) (by decide)
  rw [hk.parts .resets (by decide)]
  rw [show begun.resets = _ ++ [_] from rfl, List.any_append, Bool.or_eq_true]
  refine .inr ?_
  simp

/-- A wafer's reset that is asked for runs while an active Brewhouse runs. -/
theorem chipReset_any (h : s.bhAlive s.active = true) (cause : Nat) : (s.chipReset cause).resets.any (fun y => y.level == 4) = true := by
  by_cases hany : s.resets.any (fun x => x.level == 4) = true
  · unfold State.chipReset
    rw [if_pos (by rw [hany, Bool.or_true])]
    exact hany
  · rw [(chipReset_starts h (Bool.eq_false_iff.mpr hany) cause).1]
    rfl

/-- A hall that asks leaves a running Brewhouse's wafer as it is. -/
theorem hallAsk_alive (h : s.bhAlive s.active = true) (r action arg : Nat) : s.hallAsk r action arg = s := if_pos h

theorem escalated_bhAlive (p from_ to_ start : Nat) : (s.escalated p from_ to_ start).bhAlive (s.escalated p from_ to_ start).active = s.bhAlive s.active := by
  have hact : (s.escalated p from_ to_ start).active = s.active := by
    unfold State.active State.escalated
    rw [rd_raise_apart _ (by decide), rd_wr_apart _ (by decide)]
  rw [hact]
  rfl

/-- A core's reset that runs over time is told and becomes its engine's. -/
theorem coreResetEscalate_engine {k p : Nat} {x : Reset} (hfree : s.widerReset k = false)
    (hx : s.resets.find? (fun y => y.level == 1 && y.at_ == ckey k p) = some x) :
    event s 0x8024 (puTap k p) 1 2 ((s.now - x.start) / 1000) ∈ (coreResetEscalate s k p).transit ∧
      (coreResetEscalate s k p).resets.any (fun y => y.level == 2 && y.at_ == k) = true := by
  have hesc : coreResetEscalate s k p = (s.escalated (puTap k p) 1 2 x.start).engineReset k 1 := by
    unfold coreResetEscalate
    rw [if_neg (by rw [hfree]; decide), hx]
  have hev := mem_escalated_transit s (puTap k p) 1 2 x.start
  have hfree' : (s.escalated (puTap k p) 1 2 x.start).widerReset k = false := hfree
  rw [hesc]
  generalize s.escalated (puTap k p) 1 2 x.start = u at hev hfree'
  exact ⟨(kept_engineReset (A := allButEvents) (.refl _ u) (by decide)).event (by decide) hev, engineReset_started u hfree' 1⟩

/-- A region's reset that runs over time is told, and becomes the wafer's while an active Brewhouse runs. -/
theorem partitionResetEscalate_chip {r : Nat} {x : Reset} (hx : s.resets.find? (fun y => y.level == 3 && y.at_ == r) = some x) :
    event s 0x8024 (puHal r) 3 4 ((s.now - x.start) / 1000) ∈ (partitionResetEscalate s r).transit ∧
      (s.bhAlive s.active = true → (partitionResetEscalate s r).resets.any (fun y => y.level == 4) = true) := by
  have hesc : partitionResetEscalate s r = ((s.escalated (puHal r) 3 4 x.start).hallAsk r 17 r).chipReset 1 := by
    unfold partitionResetEscalate
    rw [hx]
  have hev := mem_escalated_transit s (puHal r) 3 4 x.start
  have hact := escalated_bhAlive s (puHal r) 3 4 x.start
  rw [hesc]
  generalize s.escalated (puHal r) 3 4 x.start = u at hev hact
  refine ⟨(kept_chipReset (A := allButEvents) (kept_hallAsk (.refl _ u) (by decide)) (by decide)).event (by decide) hev, fun hal => ?_⟩
  have hal' := hact.trans hal
  rw [hallAsk_alive u hal']
  exact chipReset_any u hal' 1

/-- A pulse by pads that are on. -/
theorem pulse_sent (ws : List Bh) : (s.pulse ws).sent = if ws.any s.padOn then .powerPulse :: s.sent else s.sent := by
  unfold State.pulse
  split <;> rfl

theorem pulse_pad (ws : List Bh) : (s.pulse ws).pad = s.pad := by
  unfold State.pulse
  split <;> rfl

/-- A pulse by either Brewhouse's pad, of a state whose supplies and pads are the first one's. -/
theorem pulse_both {s t : State} (hsent : t.sent = s.sent) (hlive : t.pad.live = s.pad.live) (hhalls : t.halls = s.halls) :
    (t.pulse [.a, .b]).sent = if s.padOn .a || s.padOn .b then .powerPulse :: s.sent else s.sent := by
  have hon : ∀ w, t.padOn w = s.padOn w := fun w => by
    unfold State.padOn
    rw [hlive, hall_congr s hhalls]
  rw [pulse_sent, hsent]
  simp only [List.any_cons, List.any_nil, Bool.or_false, hon]

/-- A report put in the queue leaves every register but its own counters. -/
theorem rd_mgmtPut {F : Fld} (hE : Fld.apart F PG_EVT_CLASS = true) (u : Nat) (x : Rpt) (head : Bool) : (s.mgmtPut x head).rd u F = s.rd u F := by
  unfold State.mgmtPut
  extract_lets put q low gone made counted
  split
  · rfl
  · rw [rd_raiseOnce_apart _ hE, rd_congr made (count_regs _ _ _ _ _)]
    unfold made
    split <;> rfl

/-- A power cycle within its allowance: one more in the window, and the supply pulsed by the active Brewhouse's pad where that is on. -/
theorem powerCycle_allowed {cause : Nat} (hal : s.bhAlive s.active = true) (h : s.pcAllowance ≠ 0) :
    (s.padOn s.active = true → Out.powerPulse ∈ (s.powerCycle cause).2.sent) ∧
      (s.powerCycle cause).2.pad.times = s.pad.times.filter (fun x => decide (s.optime < x + 98304)) ++ [s.optime] := by
  unfold State.powerCycle
  rw [if_neg (by rw [hal]; decide), if_neg h]
  extract_lets limit counted noted shown reported
  have hnoted : Kept (maskOf [.regs]) counted noted := .ite (kept_wr (.refl _ _) (by decide)) (.refl _ _)
  have hactive : reported.active = s.active := by
    have hcounted : counted.rd uBRW BRW_ROLE_ACTIVE = s.rd uBRW BRW_ROLE_ACTIVE := rfl
    have hnoted : noted.rd uBRW BRW_ROLE_ACTIVE = counted.rd uBRW BRW_ROLE_ACTIVE := by
      unfold noted
      split
      · exact rd_wr_apart _ (by decide) _ _ _
      · rfl
    have hshown : shown.rd uBRW BRW_ROLE_ACTIVE = noted.rd uBRW BRW_ROLE_ACTIVE :=
      (rd_wr_apart _ (by decide) _ _ _).trans (rd_bump_apart _ (by decide) _ _ _)
    unfold State.active
    rw [rd_mgmtPut _ (by decide), hshown, hnoted, hcounted]
  have hpadNoted : noted.pad = counted.pad := hnoted.parts .pad (by decide)
  have htimes : shown.pad.times = counted.pad.times := by
    show noted.pad.times = _
    rw [hpadNoted]
  have hlive : shown.pad.live = s.pad.live := by
    show noted.pad.live = _
    rw [hpadNoted]
  have hhalls : ContactOnly s shown := .of_kept (A := allBut .halls)
    (kept_padRewrite (kept_wr (kept_bump (.ite (kept_wr (.u_pad (.refl _ s) (by decide)) (by decide)) (.u_pad (.refl _ s) (by decide))) (by decide)) (by decide)) (by decide))
    (by decide)
  have htold : Kept (maskOf [.regs, .ecnt, .rcnt, .transit, .marks, .mgt]) shown (reported.raise 0x8023 reported.puActive cause reported.pcWindow) :=
    kept_raise (kept_mgmtPut (.refl _ shown) (by decide)) (by decide)
  generalize reported.raise 0x8023 reported.puActive cause reported.pcWindow = told at htold
  have hpad : told.settle.pad = shown.pad :=
    ((kept_settle (A := 2 ^ 86 ||| allBut .pad) (.refl _ told) (by decide)).parts .pad (by decide)).trans (htold.parts .pad (by decide))
  constructor
  · intro hon
    have hcontact : ContactOnly s told.settle := (hhalls.trans (.of_kept htold (by decide))).trans (contactOnly_settle told)
    have hpadOn : told.settle.padOn s.active = true := by
      unfold State.padOn at hon ⊢
      rw [hpad, hlive, hcontact.pg]
      exact hon
    rw [pulse_sent, hactive, if_pos (by rw [List.any_cons, hpadOn]; rfl)]
    exact List.mem_cons_self
  · rw [(kept_pulse (A := maskOf [.sent]) (.refl _ told.settle) (by decide)).parts .pad (by decide)]
    rw [hpad, htimes]

/-- Settles O28: clause by clause. -/
theorem resetEscalation : Obligations.ResetEscalation := by
  unfold Obligations.ResetEscalation
  intro s
  refine ⟨?core, ?engine, ?region, ?watchdog, ?asked⟩
  case core =>
    exact fun k p x hfree hx => runs_of_exec rfl rfl (coreResetEscalate_engine s hfree hx)
  case engine =>
    intro k x hx
    refine runs_of_exec rfl rfl ?_
    unfold engineResetEscalate
    rw [hx]
    exact mem_startPart_transit (mem_escalated_transit s _ _ _ _) _ 1
  case region =>
    exact fun r x hx => runs_of_exec rfl rfl (partitionResetEscalate_chip s hx)
  case watchdog =>
    intro harmed
    have harmed' : ¬(s.pad.armed.isNone = true) := by
      cases hp : s.pad.armed <;> simp [hp] at harmed ⊢
    constructor
    · intro hallow
      refine runs_of_exec rfl ((if_neg harmed').trans (if_pos hallow)) ?_
      refine ⟨pulse_both rfl rfl rfl, ?_⟩
      dsimp only
      rw [pulse_pad]
      exact ⟨rfl, rfl, rfl⟩
    · intro hallow hrec
      refine runs_of_exec rfl ((if_neg harmed').trans ((if_neg (not_not.mpr hallow)).trans (if_pos hrec))) ⟨rfl, rfl⟩
  case asked =>
    intro cause
    have hexec : ∀ c : PcCause, ∃ n, exec (.powerCycleRequest c) s = .next (s.powerCycle n).2 := fun c => ⟨_, rfl⟩
    obtain ⟨n, hn⟩ := hexec cause
    refine ⟨fun hdown => ?_, fun hal hnone => ?_, fun hal hsome => ⟨_, hn, powerCycle_allowed s hal hsome⟩⟩
    · refine runs_of_exec hn (u := s) ?_ rfl
      unfold State.powerCycle
      rw [if_pos (by rw [hdown]; rfl)]
    · refine runs_of_exec hn (u := s.raise 0x8025 s.puActive s.pcWindow (s.rd uBRW BRW_PWRCYC_CFG_LIMIT)) ?_ ⟨rfl, rfl⟩
      unfold State.powerCycle
      rw [if_neg (by rw [hal]; decide), if_pos hnone]

end Sys2Proof.Machine
end

section
/-! Supplies, clamps, reference clocks, retired blocks and the throttle's acknowledgement (R53, R112-R119, R381-R388, R484). -/
namespace Sys2Proof.Machine
open Sys2Proof Host Sys2Proof.Claims
variable (s : State)

/-! Supplies. -/
theorem mem_pgLossRecognised_transit {r : Nat} (hfresh : (s.hall r).pgLoss = false) (hcell : s.cellServes r = true) :
    event s 0x8030 (puSupply r 0) r 3 ∈ (pgLossRecognised s r).transit := by
  unfold pgLossRecognised
  rw [if_neg (by rw [hfresh, hcell]; decide)]
  extract_lets told shut
  have hunstaged : Kept allButTime s ((s.updHall r (fun h => { h with pgLoss := true, pg := false })).histUnstaged) :=
    kept_histUnstaged (kept_updHall (.refl _ s) (by decide)) (by decide)
  have htold : event s 0x8030 (puSupply r 0) r 3 ∈ told.transit := by
    rw [← hunstaged.event_of_time]
    exact List.mem_append_right _ (List.mem_singleton_self _)
  have hshut : Kept allButEvents told shut := kept_emergCheck (kept_isolate (.refl _ told) (by decide)) (by decide)
  have hdone : Kept allButEvents told (if shut.bhAlive shut.active then shut.declareLost r (shut.hall r).oc else shut.lossAsked r) :=
    .ite (kept_declareLost hshut (by decide)) (kept_lossAsked hshut (by decide))
  exact hdone.event (by decide) htold

theorem mem_overcurrentRecognised_transit {r : Nat} (hfresh : (s.hall r).oc = false) (hcell : s.cellServes r = true) :
    event s 0x8031 (puSupply r 0) r ∈ (overcurrentRecognised s r).transit := by
  unfold overcurrentRecognised
  rw [if_neg (by rw [hfresh, hcell]; decide)]
  extract_lets told shut
  have htold : event s 0x8031 (puSupply r 0) r ∈ told.transit := List.mem_append_right _ (List.mem_singleton_self _)
  have hshut : Kept allButEvents told shut := kept_emergCheck (kept_isolate (.refl _ told) (by decide)) (by decide)
  have hdone : Kept allButEvents told (if shut.bhAlive shut.active then shut.declareLost r true else shut.lossAsked r) :=
    .ite (kept_declareLost hshut (by decide)) (kept_lossAsked hshut (by decide))
  exact hdone.event (by decide) htold

theorem hostGo_transit {e : Ev} (h : e ∈ s.transit) : e ∈ s.hostGo.transit := (kept_hostGo (A := allButEvents) (.refl _ s) (by decide)).event (by decide) h

/-! Clamps. -/

/-- A clamp that changes is told. -/
theorem setClamp_changed {r : Nat} {d : Dir} {on : Bool} (h : (s.hall r).iso.getD (dirNo d) false ≠ on) (q : Nat) :
    ((s.setClamp r d q on).hall r).iso = (s.hall r).iso.set (dirNo d) on ∧
      (s.setClamp r d q on).transit = s.transit ++ [event s 0x8033 (puHal r) (dirNo d) (if on then 1 else 0) q] := by
  unfold State.setClamp
  rw [if_neg h]
  refine ⟨?_, rfl⟩
  rw [hall_congr _ (raise_halls _ _ _ _ _ _), hall_updHall_same]

/-- A flag of a list that is set stays set. -/
theorem getD_set_true {l : List Bool} {i j : Nat} (h : l.getD i false = true) : (l.set j true).getD i false = true := by
  by_cases hij : i = j
  · subst hij
    have hi : i < l.length := by
      by_contra hn
      rw [List.getD_eq_default _ _ (by omega)] at h
      exact absurd h (by decide)
    simp [List.getD, List.getElem?_set, hi]
  · simpa [List.getD, List.getElem?_set, Ne.symm hij] using h

/-- Every Hall is as it was but for its clamps. -/
def ClampsOnly (s t : State) : Prop := ∀ j, ∃ iso isoAt, t.hall j = { s.hall j with iso := iso, isoAt := isoAt }

theorem ClampsOnly.refl : ClampsOnly s s := fun j => ⟨(s.hall j).iso, (s.hall j).isoAt, rfl⟩
theorem ClampsOnly.trans {s t u : State} (h : ClampsOnly s t) (h' : ClampsOnly t u) : ClampsOnly s u := by
  intro j
  obtain ⟨a, b, e⟩ := h j
  obtain ⟨a', b', e'⟩ := h' j
  exact ⟨a', b', by rw [e', e]⟩

theorem clampsOnly_setClamp (r : Nat) (d : Dir) (q : Nat) (on : Bool) : ClampsOnly s (s.setClamp r d q on) := by
  unfold State.setClamp
  split
  · exact .refl s
  · intro j
    rw [hall_congr _ (raise_halls _ _ _ _ _ _)]
    by_cases hj : j = r
    · rw [hj, hall_updHall_same]
      exact ⟨_, _, rfl⟩
    · rw [hall_updHall_other _ hj]
      exact ⟨_, _, rfl⟩

/-- Clamps that are put on in turn: each that stands is put on, and the list of them keeps its length. -/
theorem setClamp_iso (r : Nat) (d : Dir) (q : Nat) : ((s.setClamp r d q true).hall r).iso = (s.hall r).iso.set (dirNo d) true ∨
    ((s.setClamp r d q true).hall r).iso = (s.hall r).iso ∧ (s.hall r).iso.getD (dirNo d) false = true := by
  by_cases h : (s.hall r).iso.getD (dirNo d) false = true
  · refine .inr ⟨?_, h⟩
    unfold State.setClamp
    rw [if_pos h]
  · exact .inl (setClamp_changed s h q).1

/-- No region is its own neighbour. -/
theorem regionTo_ne {r q : Nat} {d : Dir} (h : regionTo r d = some q) : q ≠ r := by
  have hrows : Config.host.regionRows = 6 := rfl
  unfold regionTo at h
  dsimp only at h
  rw [hrows] at h
  cases d with
  | n =>
    obtain ⟨hrow, rfl⟩ : r % 6 ≠ 0 ∧ r - 1 = q := by simpa using h
    omega
  | e =>
    obtain ⟨-, rfl⟩ : r / 6 + 1 < Config.host.cols ∧ r + 6 = q := by simpa using h
    omega
  | s =>
    obtain ⟨-, rfl⟩ : r % 6 + 1 < 6 ∧ r + 1 = q := by simpa using h
    omega
  | w =>
    obtain ⟨hcol, rfl⟩ : 6 ≤ r ∧ r - 6 = q := by simpa using h
    omega

/-- A region clamps its crossing in one direction from a neighbour without power (R113). -/
def clampUnpowered (r : Nat) (s : State) (d : Dir) : State :=
  match regionTo r d with
  | some q => if (s.hall q).pg then s else s.setClamp r d q true
  | none => s

theorem clampUnpowered_cases (r : Nat) (d : Dir) :
    clampUnpowered r s d = s ∧ (∀ q, regionTo r d = some q → (s.hall q).pg = true) ∨ ∃ q, clampUnpowered r s d = s.setClamp r d q true := by
  unfold clampUnpowered
  cases regionTo r d with
  | none => exact .inl ⟨rfl, fun _ h => absurd h (by simp)⟩
  | some q =>
    by_cases hpg : (s.hall q).pg = true
    · exact .inl ⟨if_pos hpg, fun _ h => Option.some.inj h ▸ hpg⟩
    · exact .inr ⟨q, if_neg hpg⟩

theorem clampsOnly_clampUnpowered (r : Nat) (d : Dir) : ClampsOnly s (clampUnpowered r s d) := by
  rcases clampUnpowered_cases s r d with ⟨h, -⟩ | ⟨q, h⟩
  · rw [h]
    exact .refl s
  · rw [h]
    exact clampsOnly_setClamp s r d q true

theorem clampsOnly_each (r : Nat) (ds : List Dir) : ClampsOnly s (s.each ds (clampUnpowered r)) := by
  induction ds generalizing s with
  | nil => exact .refl s
  | cons d ds ih => exact (clampsOnly_clampUnpowered s r d).trans (ih _)

theorem clampUnpowered_resets (r : Nat) (d : Dir) : (clampUnpowered r s d).resets = s.resets := by
  rcases clampUnpowered_cases s r d with ⟨h, -⟩ | ⟨q, h⟩
  · rw [h]
  · rw [h]
    exact (kept_setClamp (A := allBut .resets) (.refl _ s) (by decide)).parts .resets (by decide)

theorem clampUnpowered_length (r : Nat) (d : Dir) : ((clampUnpowered r s d).hall r).iso.length = (s.hall r).iso.length := by
  rcases clampUnpowered_cases s r d with ⟨h, -⟩ | ⟨q, h⟩
  · rw [h]
  · rcases setClamp_iso s r d q with hset | ⟨hset, -⟩
    · rw [h, hset, List.length_set]
    · rw [h, hset]

/-- A clamp that is on stays on while another is put on. -/
theorem clampUnpowered_stays {r : Nat} {d e : Dir} (h : (s.hall r).iso.getD (dirNo e) false = true) :
    ((clampUnpowered r s d).hall r).iso.getD (dirNo e) false = true := by
  rcases clampUnpowered_cases s r d with ⟨hd, -⟩ | ⟨q, hd⟩
  · rw [hd]
    exact h
  · rcases setClamp_iso s r d q with hset | ⟨hset, -⟩
    · rw [hd, hset]
      exact getD_set_true h
    · rw [hd, hset]
      exact h

/-- A neighbour without power is clamped. -/
theorem clampUnpowered_iso {r : Nat} (hlen : (s.hall r).iso.length = 4) {d : Dir} {q : Nat} (hq : regionTo r d = some q) (hpg : (s.hall q).pg = false) :
    ((clampUnpowered r s d).hall r).iso.getD (dirNo d) false = true := by
  have hd : dirNo d < 4 := by cases d <;> decide
  rcases clampUnpowered_cases s r d with ⟨-, hon⟩ | ⟨q', hs⟩
  · exact absurd (hon q hq) (by rw [hpg]; decide)
  · rw [hs]
    rcases setClamp_iso s r d q' with hset | ⟨hset, hon⟩
    · rw [hset]
      simp [List.getD, List.getElem?_set, hlen, hd]
    · rw [hset]
      exact hon

theorem clampUnpowered_all {r : Nat} (hlen : (s.hall r).iso.length = 4) {d : Dir} {q : Nat} (hq : regionTo r d = some q) (hpg : (s.hall q).pg = false) :
    ((s.each allDirs (clampUnpowered r)).hall r).iso.getD (dirNo d) false = true := by
  refine each_reaches s (I := fun t => (t.hall r).iso.length = 4 ∧ (t.hall q).pg = false)
    (P := fun t x => x = d → (t.hall r).iso.getD (dirNo d) false = true) ?_ ?_ ?_ allDirs ⟨hlen, hpg⟩ d (by cases d <;> decide) rfl
  · rintro t x ⟨hl, hp⟩
    obtain ⟨iso, isoAt, he⟩ := clampsOnly_clampUnpowered t r x q
    exact ⟨(clampUnpowered_length t r x).trans hl, by rw [he]; exact hp⟩
  · rintro t x ⟨hl, hp⟩ rfl
    exact clampUnpowered_iso t hl hq hp
  · intro t x y h hy
    exact clampUnpowered_stays t (h hy)

/-- A lost region whose supply is back: its Hall's pin, and its clamps toward neighbours without power. -/
def powered (s : State) (r : Nat) : State := (s.updHall r (fun h => { h with pg := true })).each allDirs (clampUnpowered r)

theorem powered_hall (r : Nat) : ∃ iso isoAt, (powered s r).hall r = { s.hall r with pg := true, iso := iso, isoAt := isoAt } := by
  obtain ⟨iso, isoAt, h⟩ := clampsOnly_each (s.updHall r (fun h => { h with pg := true })) r allDirs r
  exact ⟨iso, isoAt, by unfold powered; rw [h, hall_updHall_same]⟩

theorem powered_resets (r : Nat) : (powered s r).resets = s.resets :=
  (each_keeps _ (·.resets) (fun t d => clampUnpowered_resets t r d) allDirs)

theorem powered_iso {r : Nat} (hlen : (s.hall r).iso.length = 4) {d : Dir} {q : Nat} (hq : regionTo r d = some q) (hpg : (s.hall q).pg = false) :
    ((powered s r).hall r).iso.getD (dirNo d) false = true := by
  refine clampUnpowered_all _ ?_ hq ?_
  · rw [hall_updHall_same]
    exact hlen
  · rw [hall_updHall_other _ (regionTo_ne hq)]
    exact hpg

theorem powered_optime (r : Nat) : (powered s r).optime = s.optime := by
  have hk : Kept (maskOf [.regs, .ecnt, .transit, .halls]) s (powered s r) := kept_each (kept_updHall (.refl _ s) (by decide)) (fun t d ht => by
    rcases clampUnpowered_cases t r d with ⟨h, -⟩ | ⟨q, h⟩
    · rw [h]
      exact ht
    · rw [h]
      exact kept_setClamp ht (by decide))
  unfold State.optime
  rw [now_of_wall s (hk.parts .wall (by decide)), show (powered s r).attic = s.attic from hk.parts .attic (by decide)]

/-- A lost region returns: by itself after a first loss without over-current, and else it waits. -/
theorem lostRegionReturn_powered {r : Nat} (hlost : (s.hall r).lost = true) :
    lostRegionReturn s r = if (s.hall r).lostOc = true ∨ 1 < ((s.hall r).losses.filter (fun t => decide (s.optime < t + 98304))).length
      then powered s r else (powered s r).startPart r 4 := by
  have hdef : lostRegionReturn s r = if ((powered s r).hall r).lostOc = true ∨
      1 < (((powered s r).hall r).losses.filter (fun t => decide ((powered s r).optime < t + 98304))).length
      then powered s r else (powered s r).startPart r 4 := if_neg (by rw [hlost]; decide)
  obtain ⟨iso, isoAt, hh⟩ := powered_hall s r
  rw [hdef, hh, powered_optime]

/-! Reference clocks. -/
theorem regionOfPuid_puHal {r : Nat} (h : r < 4096) : regionOfPuid (puHal r) = r := by
  have hkind : puidKind (puHal r) = 3 := by unfold puidKind puHal puid; omega
  have hmajor : puidMajor (puHal r) = r := by unfold puidMajor puHal puid; omega
  unfold regionOfPuid
  rw [hkind]
  exact hmajor

/-- A lost clock holds its region's time, and is told. -/
theorem refclkLoss_told {r : Nat} (hr : r < 4096) (missed : Nat) (hrun : Tab.find r s.refLost = none) :
    Tab.find r (refclkLoss s r missed).refLost = some s.now ∧ event s 0xC030 (puHal r) r missed ∈ (refclkLoss s r missed).transit := by
  unfold refclkLoss
  rw [if_neg (by rw [hrun]; decide)]
  extract_lets told
  have hlost : told.refLost = Tab.insert r s.now s.refLost := raise_refLost _ _ _ _ _ _
  constructor
  · rw [show _ = told.refLost from (kept_draw (A := allBut .refLost) (kept_closeGates (.refl _ told) (by decide)) (by decide)).parts .refLost (by decide), hlost, Tab.find_insert_same]
  · refine (kept_draw (A := allButEvents) (kept_closeGates (.refl _ told) (by decide)) (by decide)).event (by decide) ?_
    have htime : event s 0xC030 (puHal r) r missed = event { s with refLost := Tab.insert r s.now s.refLost } 0xC030 (puHal r) r missed := by
      unfold event State.timeIn
      rw [regionOfPuid_puHal hr, hrun, Tab.find_insert_same]
      rfl
    rw [htime]
    exact List.mem_append_right _ (List.mem_singleton_self _)

/-- A clock that is back is told at the wall time. -/
theorem refclkRestore_told {r : Nat} (hr : r < 4096) (us : Nat) {x : Nat} (hx : Tab.find r s.refLost = some x) :
    Tab.find r (refclkRestore s r us).refLost = none ∧
      (refclkRestore s r us).transit = s.transit ++ [{ event s 0xC031 (puHal r) r us with wall := s.now }] := by
  unfold refclkRestore
  rw [hx]
  dsimp -zeta only
  extract_lets lag clocks
  have hk : Kept (maskOf [.clocks]) s clocks := kept_each (.refl _ s) (fun _ _ ht => kept_updClock ht (by decide))
  have hnow : clocks.now = s.now := now_of_wall s (hk.parts .wall (by decide))
  have htransit : clocks.transit = s.transit := hk.parts .transit (by decide)
  clear_value clocks
  constructor
  · rw [raise_refLost]
    exact Tab.find_erase_same r _
  · rw [raise_transit]
    have htime : State.timeIn { clocks with refLost := Tab.erase r clocks.refLost } (regionOfPuid (puHal r)) = s.now := by
      unfold State.timeIn
      rw [regionOfPuid_puHal hr, Tab.find_erase_same]
      exact hnow
    exact congrArg₂ (fun es w => es ++ [(⟨0xC031, puHal r, r % 2 ^ 32, us % 2 ^ 32, 0 % 2 ^ 32, w, none, false, true, false⟩ : Ev)]) htransit htime

/-! Retired blocks and the throttle. -/
theorem retiredBlockDiscard_seen (k c bytes : Nat) : ((retiredBlockDiscard s k c bytes).ctx c).seenCut = s.cutNo + 1 ∧
    (s.marks.contains (puTst k, 0x8052, 0) = false → ∃ e ∈ (retiredBlockDiscard s k c bytes).transit, e.code = 0x8052 ∧ e.puid = puTst k) := by
  unfold retiredBlockDiscard
  extract_lets counted seen
  have hcounted : Kept (maskOf [.ecnt, .rcnt]) s counted := kept_count (kept_count (kept_count (.refl _ s) (by decide)) (by decide)) (by decide)
  have hseen : Kept (maskOf [.ecnt, .rcnt]) (counted.updCtx c (fun x => { x with seenCut := counted.cutNo + 1 })) seen := kept_bankCount (.refl _ _) (by decide)
  constructor
  · rw [ctx_congr _ ((kept_raiseOnce (A := allBut .ctxs) (.refl _ seen) (by decide)).parts .ctxs (by decide)),
      ctx_congr _ (hseen.parts .ctxs (by decide)), ctx_updCtx_same]
    exact congrArg (· + 1) (hcounted.parts .cutNo (by decide))
  · intro hfirst
    have hmarks : seen.marks = s.marks := (hseen.parts .marks (by decide)).trans (hcounted.parts .marks (by decide))
    exact ⟨_, mem_raiseOnce_transit (by rw [hmarks]; exact hfirst) _ _ _, rfl, rfl⟩

theorem throttleAckTimeout_noack {r : Nat} (h : (s.thmOf r).waiting = true) : (throttleAckTimeout s r).isSet (uHAL r) HAL_THM_STAT_NOACK = true := by
  unfold throttleAckTimeout
  rw [if_neg (by rw [h]; decide)]
  extract_lets u v b
  unfold State.isSet
  rw [rd_raiseOnce_apart _ (by decide), rd_flag_same]
  decide

/-- Settles O29: clause by clause. -/
theorem suppliesAndClocks : Obligations.SuppliesAndClocks := by
  unfold Obligations.SuppliesAndClocks
  intro r s
  have hr : r.val < 4096 := lt_of_lt_of_le r.isLt (by decide)
  refine ⟨?loss, ?current, ?applied, ?released, ?returned, ?clockLost, ?clockBack, ?retired, ?ack, ?late⟩
  case loss =>
    intro hfresh hcell
    exact runs_of_exec rfl rfl (hostGo_transit _ (mem_pgLossRecognised_transit s hfresh hcell))
  case current =>
    intro hfresh hcell
    exact runs_of_exec rfl rfl (hostGo_transit _ (mem_overcurrentRecognised_transit s hfresh hcell))
  case applied =>
    intro d q hq hoff
    refine runs_of_exec (t := s.setClamp r.val d q true) ?_ rfl (setClamp_changed s (by rw [hoff]; decide) q)
    show execClampApply r d s = _
    unfold execClampApply
    rw [hq]
  case released =>
    intro d q hq hon hlost hpart hpg hoc hal hsince
    refine runs_of_exec (t := s.setClamp r.val d q false) ?_ rfl (setClamp_changed s (by rw [hon]; decide) q)
    show execClampRelease r d s = _
    unfold execClampRelease clampRelease
    rw [hq]
    dsimp only
    rw [if_neg (by rw [hal, hlost, hpart, hpg, hoc, hsince]; decide)]
  case returned =>
    intro hlost back
    have hback : back (powered s r.val) := by
      refine ⟨?_, powered_resets s r.val, fun hlen d q hq hpg => powered_iso s hlen hq hpg⟩
      obtain ⟨iso, isoAt, hh⟩ := powered_hall s r.val
      rw [hh]
    have hreturn := lostRegionReturn_powered s hlost
    constructor
    · intro hoc
      exact runs_of_exec rfl (hreturn.trans (if_pos (.inl hoc))) hback
    · intro hoc hfirst
      exact runs_of_exec rfl (hreturn.trans (if_neg (by rw [hoc]; simpa using hfirst))) ⟨_, hback, rfl⟩
  case clockLost =>
    intro missed hrun
    exact runs_of_exec rfl rfl (refclkLoss_told s hr missed hrun)
  case clockBack =>
    intro us x hx
    exact runs_of_exec rfl rfl (refclkRestore_told s hr us hx)
  case retired =>
    intro k ctx bytes
    exact runs_of_exec rfl rfl (retiredBlockDiscard_seen s k.val ctx.toNat bytes.toNat)
  case ack =>
    refine runs_of_exec rfl rfl ?_
    rw [thmOf_updThmOf_same]
  case late =>
    intro hwait
    exact runs_of_exec rfl rfl (throttleAckTimeout_noack s hwait)

end Sys2Proof.Machine
end

section
/-! The host's heartbeat and absence, the completion ring and its interrupts (R122, R549-R560). -/
namespace Sys2Proof.Machine
open Sys2Proof Host Sys2Proof.Claims
variable (s : State)

/-! Heartbeat and absence. -/

/-- A heartbeat count that differs from the last is stored with its time. -/
theorem hostHeartbeat_new {d : Nat} (hd : d < 2 ^ 32) (h : d ≠ s.rd (uMBX 0) MBX_HB_COUNT) :
    (hostHeartbeat s d).rd (uMBX 0) MBX_HB_COUNT = d ∧ (hostHeartbeat s d).mbx.hbAt = s.now := by
  unfold hostHeartbeat
  rw [if_neg h]
  refine ⟨?_, rfl⟩
  exact (rd_wr_same s (uMBX 0) MBX_HB_COUNT d 0).trans (Nat.mod_eq_of_lt hd)

/-- A write that is counted leaves the mailbox. -/
theorem count_hbAt : (s.count uBRW BRW_WIN_WR_COUNT).mbx.hbAt = s.mbx.hbAt := congrArg MbxSt.hbAt (count_mbx _ _ _ _ _)

theorem hostGone_absent (h : s.absent = true) (cause : Nat) : s.hostGone cause = s := if_pos h

/-- A host that is absent from now on is told with the time since its last heartbeat. -/
theorem mem_hostGone_transit (h : s.absent = false) (cause : Nat) :
    event s 0xB001 s.puActive ((s.now - s.mbx.hbAt) / 1000000) cause ∈ (s.hostGone cause).transit := by
  unfold State.hostGone
  rw [if_neg (by rw [h]; decide)]
  extract_lets since mbx noted told
  have htold : event s 0xB001 s.puActive since cause ∈ told.transit := List.mem_append_right _ (List.mem_singleton_self _)
  have hk : Kept allButEvents told (told.each (told.replays.map (·.1)) (fun s k => (s.updSet k (fun x => { x with cur := none, started := false })).replayGo k)) :=
    kept_each (.refl _ told) (fun _ _ ht => kept_replayGo (kept_updSet ht (by decide)) (by decide))
  exact hk.event (by decide) htold

/-- A raised event leaves whether the host is absent, and when it was heard last. -/
theorem absent_raise (c p x y z : Nat) : (s.raise c p x y z).absent = s.absent := by
  unfold State.absent State.isSet
  rw [rd_raise_apart _ (by decide)]

theorem pcieLinkDown_gone (h : s.absent = false) (x : Nat) : event s 0xC020 s.puActive x ∈ (pcieLinkDown s x).transit ∧
    event s 0xB001 s.puActive ((s.now - s.mbx.hbAt) / 1000000) 2 ∈ (pcieLinkDown s x).transit := by
  unfold pcieLinkDown
  have hact : (s.raise 0xC020 s.puActive x).puActive = s.puActive := by
    unfold State.puActive State.active
    rw [rd_raise_apart _ (by decide)]
  have hgone := mem_hostGone_transit (s.raise 0xC020 s.puActive x) ((absent_raise s _ _ _ _ _).trans h) 2
  have hkept : Kept allButEvents (s.raise 0xC020 s.puActive x) ((s.raise 0xC020 s.puActive x).hostGone 2) := kept_hostGone (.refl _ _) (by decide)
  refine ⟨hkept.event (by decide) (List.mem_append_right _ (List.mem_singleton_self _)), ?_⟩
  rw [hact] at hgone
  exact hgone

/-! The ring. -/

/-- An announcement sends or holds a message, and leaves the ring's records. -/
theorem announce_ring (v : Nat) : (s.announce v).mbx.out = s.mbx.out ∧ (s.announce v).mbx.note = s.mbx.note ∧ s.sent ⊆ (s.announce v).sent := by
  unfold State.announce
  dsimp only
  split
  · exact ⟨rfl, rfl, List.Subset.refl _⟩
  · exact ⟨rfl, rfl, List.subset_cons_self _ _⟩

/-- A record written to the ring goes to the tail, under the next note. -/
theorem ringWrite_done (c : Cpl) : (s.ringWrite c).mbx.out = s.mbx.out ∧ (s.ringWrite c).mbx.note = s.mbx.note + 1 ∧
    Out.hostWrite (s.rd (uMBX 0) MBX_RING_BASE_ADDR + 64 * s.rd (uMBX 0) MBX_RING_TAIL_INDEX)
      (cplBytes c (s.rd (uMBX 0) MBX_RING_TAIL_PHASE) (s.mbx.note + 1)) ∈ (s.ringWrite c).sent := by
  unfold State.ringWrite
  extract_lets u i ph n emitted mbx noted last moved
  obtain ⟨hout, hnote, hsent⟩ := announce_ring moved (vecOf c.ctype)
  have hmbx : moved.mbx = noted.mbx := (wr_mbx _ _ _ _ _).trans (wr_mbx _ _ _ _ _)
  have hmoved : moved.sent = noted.sent := (wr_sent _ _ _ _ _).trans (wr_sent _ _ _ _ _)
  rw [hmbx] at hout hnote
  rw [hmoved] at hsent
  exact ⟨hout, hnote, hsent List.mem_cons_self⟩

theorem completionWrite_full (h : s.ringRoom = false) : completionWrite s = s := if_pos (by rw [h]; simp)

/-- The oldest completion goes to a ring with room. -/
theorem completionWrite_oldest {c : Cpl} {cs : List Cpl} (habs : s.absent = false) (hroom : s.ringRoom = true) (hout : s.mbx.out = c :: cs)
    (hlost : s.mbx.lost = 0 ∨ c.ctype = 2) : completionWrite s = (State.ringWrite { s with mbx := { s.mbx with out := cs } } c).mbxCounts := by
  unfold completionWrite
  rw [if_neg (by rw [habs, hroom]; decide), hout]
  exact if_neg (fun h => hlost.elim h.1 h.2)

/-! Interrupts. -/
theorem msiHoldoffEnd_due {v : Nat} (habs : s.absent = false) (hdue : s.mbx.msiDue.getD v false = true) :
    msiHoldoffEnd s v = { s.emit (.msi v) with mbx := { s.mbx with msiAt := s.mbx.msiAt.set v s.now, msiDue := s.mbx.msiDue.set v false } } :=
  if_neg (by rw [habs, hdue]; decide)
theorem msiHoldoffEnd_none {v : Nat} (hdue : s.mbx.msiDue.getD v false = false) : msiHoldoffEnd s v = s := if_pos (by rw [hdue]; simp)

/-- Settles O43: clause by clause. -/
theorem hostAndRing : Obligations.HostAndRing := by
  unfold Obligations.HostAndRing
  intro s
  refine ⟨?beat, ?same, ?gone, ?absent, ?oldest, ?full, ?head, ?due, ?none⟩
  case beat =>
    intro data hw ht hnew
    exact runs_of_exec rfl (hostOp_of_writable ht hw _ _ _) (hostHeartbeat_new (s.count uBRW BRW_WIN_WR_COUNT) data.isLt hnew)
  case same =>
    intro data hw ht hsame
    exact runs_of_exec rfl ((hostOp_of_writable ht hw _ _ _).trans (if_pos hsame)) (count_hbAt s)
  case gone =>
    intro h
    exact ⟨runs_of_exec rfl rfl (mem_hostGone_transit s h 1), fun x => runs_of_exec rfl rfl (pcieLinkDown_gone s h x.toNat)⟩
  case absent =>
    intro h
    refine ⟨runs_of_exec rfl (hostGone_absent s h 1) rfl, fun x => ?_⟩
    exact runs_of_exec rfl (hostGone_absent _ ((absent_raise s _ _ _ _ _).trans h) 2) rfl
  case oldest =>
    intro c cs habs hroom hout hlost
    refine runs_of_exec rfl (completionWrite_oldest s habs hroom hout hlost) ?_
    obtain ⟨hleft, hnote, hsent⟩ := ringWrite_done { s with mbx := { s.mbx with out := cs } } c
    generalize State.ringWrite { s with mbx := { s.mbx with out := cs } } c = t at hleft hnote hsent
    have hmbx : t.mbxCounts.mbx = t.mbx := (kept_mbxCounts (A := allBut .mbx) (.refl _ t) (by decide)).parts .mbx (by decide)
    have hkept : t.mbxCounts.sent = t.sent := (kept_mbxCounts (A := allBut .sent) (.refl _ t) (by decide)).parts .sent (by decide)
    rw [hmbx, hkept]
    exact ⟨hleft, hnote, hsent⟩
  case full =>
    intro h
    exact runs_of_exec rfl (completionWrite_full s h) rfl
  case head =>
    intro data hw ht
    refine runs_of_exec rfl (hostOp_of_writable ht hw _ _ _) ?_
    unfold ringHeadWrite
    rw [rd_mbxCounts _ (by decide), rd_wr_same]
  case due =>
    intro vec habs hdue
    exact runs_of_exec rfl (msiHoldoffEnd_due s habs hdue) ⟨rfl, rfl⟩
  case none =>
    intro vec hdue
    exact runs_of_exec rfl (msiHoldoffEnd_none s hdue) rfl

end Sys2Proof.Machine
end

section
/-! The management port's messages and reports, and the debug TAP's reset (R499, R543, R567-R573). -/
namespace Sys2Proof.Machine
open Sys2Proof Host Sys2Proof.Claims
variable (s : State)

/-! Messages. -/
theorem mctpOut_sent (body : List Byte) : (s.mctpOut body).sent = if s.padOn s.active then .mctp body :: s.sent else s.sent := by
  unfold State.mctpOut
  split <;> rfl
theorem mctpOut_mgt (body : List Byte) : (s.mctpOut body).mgt = s.mgt := by
  unfold State.mctpOut
  split <;> rfl
theorem mctpOut_mbx (body : List Byte) : (s.mctpOut body).mbx = s.mbx := by
  unfold State.mctpOut
  split <;> rfl

/-- A control request for the endpoint is answered with it. -/
theorem mctpMessage_getEid {body : List Byte} (hrec : s.recording = true) (hlen : 2 ≤ body.length) (hreq : bit (leAt body 0 1) 7 = true) (hcmd : leAt body 1 1 = 2) :
    mctpMessage s 0 body = s.mctpOut (ctlResponse body 0 (leBytes 1 (s.mgt.eid.getD 0) ++ leBytes 2 0)) := by
  unfold mctpMessage
  rw [if_neg (by rw [hrec]; decide), if_pos ⟨rfl, hlen, hreq⟩]
  unfold State.mctpControl
  rw [hcmd]
  rfl

/-- A message of an unknown type is discarded and counted. -/
theorem mctpMessage_unknown {type : Nat} (hrec : s.recording = true) (h0 : type ≠ 0) (h7f : type ≠ 0x7F) (body : List Byte) :
    mctpMessage s type body = { s with mgt := { s.mgt with discarded := s.mgt.discarded + 1 } } := by
  unfold mctpMessage
  rw [if_neg (by rw [hrec]; decide), if_neg (fun h => h0 h.1), if_neg (fun h => h7f h.1)]

/-- A second fleet message is answered as busy. -/
theorem fleetMessage_busy (hrec : s.recording = true) (hbusy : s.mgt.fleet = true) (b : List Byte) :
    ∃ a, fleetMessage s b = s.mctpOut (mctpVendor 3 a) := by
  unfold fleetMessage
  rw [if_neg (by rw [hrec]; decide)]
  exact ⟨_, if_pos hbusy⟩

/-- A fleet message that passes the checks waits to be carried out. -/
theorem fleetMessage_taken (hrec : s.recording = true) (hfree : s.mgt.fleet = false) {b : List Byte}
    (hok : State.msgStatus { s with mgt := { s.mgt with fleet := true } } (msgOf 0xFE b) = 0) :
    fleetMessage s b = { s with mgt := { s.mgt with fleet := true }, mbx := { s.mbx with inbox := s.mbx.inbox ++ [msgOf 0xFE b] } } := by
  unfold fleetMessage
  rw [if_neg (by rw [hrec]; decide)]
  dsimp only
  rw [if_neg (by rw [hfree]; decide)]
  unfold State.msgTake
  exact if_neg (not_not.mpr hok)

/-! Reports. -/

/-- The oldest report goes out under its number. -/
theorem reportCollect_sent {x : Rpt} {xs : List Rpt} (hq : s.mgt.queue = x :: xs) (haddr : s.mgt.addr.isNone = false) (hup : s.firmDown = false) :
    (reportCollect s).mgt.queue = xs ∧ (reportCollect s).mgt.rnum = s.mgt.rnum + 1 ∧
      (reportCollect s).sent = if s.padOn s.active then .mctp (mctpVendor 1 (s.reportBytes x (s.mgt.rnum + 1))) :: s.sent else s.sent := by
  unfold reportCollect
  rw [hq]
  dsimp -zeta only
  rw [if_neg (by rw [haddr, hup]; decide)]
  extract_lets n sent mgt t
  rw [count_mgt, count_sent]
  exact ⟨rfl, rfl, mctpOut_sent s _⟩

/-- A report put in the queue leaves what is suppressed and when the last status went. -/
theorem mgmtPut_mgt (x : Rpt) (head : Bool) : ∃ q, (s.mgmtPut x head).mgt = { s.mgt with queue := q } := by
  unfold State.mgmtPut
  extract_lets put q low gone made counted
  split
  · exact ⟨_, rfl⟩
  · rw [show _ = counted.mgt from (kept_raiseOnce (A := allBut .mgt) (.refl _ counted) (by decide)).parts .mgt (by decide), count_mgt]
    unfold made
    split
    · exact ⟨_, rfl⟩
    · exact ⟨_, rfl⟩

/-- A report joins a queue with room. -/
theorem mgmtPut_room (h : s.mgt.queue.length < reportSize) (x : Rpt) : (s.mgmtPut x).mgt.queue = s.mgt.queue ++ [x] := by
  unfold State.mgmtPut
  dsimp only
  rw [if_pos h]
  rfl

/-- A summary clears what was suppressed. -/
theorem reportSummary_cleared (hrec : s.recording = true) (hup : s.firmDown = false) : (reportSummary s).mgt.supp = List.replicate 15 (0, 0, 0) := by
  unfold reportSummary
  rw [if_neg (by rw [hrec, hup]; decide)]
  extract_lets l mgt cleared
  refine (each_keeps cleared (·.mgt.supp) (fun t e => ?_) l).trans rfl
  obtain ⟨q, hq⟩ := mgmtPut_mgt t ⟨1, 0, [], leBytes 1 e.2 ++ leBytes 3 0 ++ leBytes 4 e.1.1 ++ leBytes 2 e.1.2.1 ++ leBytes 2 e.1.2.2⟩ false
  exact (congrArg MgtSt.supp hq :)

/-- A status report joins the queue. -/
theorem statusReport_queued (hrec : s.recording = true) (hup : s.firmDown = false) : (statusReport s).mgt.lastStatus = s.now ∧
    (s.mgt.queue.length < reportSize → ((statusReport s).mgt.queue.getLast?).map (·.kind) = some 3 ∧
      (statusReport s).mgt.queue.length = s.mgt.queue.length + 1) := by
  unfold statusReport
  rw [if_neg (by rw [hrec, hup]; decide)]
  extract_lets n bits x mgt
  constructor
  · obtain ⟨q, hq⟩ := mgmtPut_mgt { s with mgt := { s.mgt with lastStatus := s.now } } ⟨3, 0, [], x⟩ false
    rw [hq]
  · intro hroom
    rw [mgmtPut_room { s with mgt := { s.mgt with lastStatus := s.now } } hroom]
    refine ⟨?_, List.length_append⟩
    rw [List.getLast?_append]
    rfl

/-- Settles O44: clause by clause. -/
theorem managementReports : Obligations.ManagementReports := by
  unfold Obligations.ManagementReports
  intro s
  refine ⟨?address, ?mctp, ?fleet, ?collect, ?summary, ?tap⟩
  case address =>
    exact fun addr => runs_of_exec rfl rfl rfl
  case mctp =>
    intro ty body hrec
    constructor
    · intro hty hlen hreq hcmd
      refine runs_of_exec rfl (u := s.mctpOut (ctlResponse body 0 (leBytes 1 (s.mgt.eid.getD 0) ++ leBytes 2 0))) ?_ ⟨mctpOut_sent s _, mctpOut_mgt s _⟩
      rw [hty]
      exact mctpMessage_getEid s hrec hlen hreq hcmd
    · intro h0 h7f
      exact runs_of_exec rfl (mctpMessage_unknown s hrec h0 h7f body) ⟨rfl, rfl⟩
  case fleet =>
    intro msg hrec
    constructor
    · intro hbusy
      obtain ⟨a, ha⟩ := fleetMessage_busy s hrec hbusy msg
      exact runs_of_exec rfl ha ⟨by rw [mctpOut_mgt, hbusy], mctpOut_mbx s _, a, mctpOut_sent s _⟩
    · intro hfree hok
      exact runs_of_exec rfl (fleetMessage_taken s hrec hfree hok) ⟨rfl, rfl⟩
  case collect =>
    intro x xs hq haddr hup
    exact runs_of_exec rfl rfl (reportCollect_sent s hq haddr hup)
  case summary =>
    intro hrec hup
    exact ⟨runs_of_exec rfl rfl (reportSummary_cleared s hrec hup), runs_of_exec rfl rfl (statusReport_queued s hrec hup)⟩
  case tap =>
    exact runs_of_exec rfl rfl rfl

end Sys2Proof.Machine
end

section
/-! Events recorded, programmed and erased, and the stores' windows (R26, R257, R263, R274, R380, R418, R425-R431). -/
namespace Sys2Proof.Machine
open Sys2Proof Host Sys2Proof.Claims
variable (s : State)

/-! The recording of the front event. -/

/-- An event that no Hall has yet is told to the Hall of its region, where its source is no Hall. -/
theorem tellHall_sent {e : Ev} (htold : e.told = false) (hhall : puidKind e.puid ≠ 3) :
    (s.tellHall e).sent = .ask 0x26 e.puid (puHal (regionOfPuid e.puid)) e.code :: s.sent := by
  unfold State.tellHall
  rw [if_neg (by rw [htold]; simpa using hhall)]
  rfl

theorem tellHall_kept (e : Ev) : Kept (maskOf [.sent]) s (s.tellHall e) := kept_tellHall (.refl _ s) (by decide)

/-- While none records, the events wait and the Halls are told of each. -/
theorem eventRecord_waits (hrec : s.recording = false) : (eventRecord s).attic = s.attic ∧
    (eventRecord s).transit = s.transit.map (fun e => { e with told := true }) ∧
    ∀ e ∈ s.transit, e.told = false → puidKind e.puid ≠ 3 → Out.ask 0x26 e.puid (puHal (regionOfPuid e.puid)) e.code ∈ (eventRecord s).sent := by
  unfold eventRecord
  cases hes : s.transit with
  | nil => exact ⟨rfl, hes, fun e he => absurd he List.not_mem_nil⟩
  | cons e es =>
    dsimp only
    rw [if_pos (by rw [hrec]; rfl)]
    have hk : Kept (maskOf [.sent]) s (s.each (e :: es) State.tellHall) := kept_each (.refl _ s) (fun _ _ ht => kept_tellHall ht (by decide))
    refine ⟨hk.parts .attic (by decide), rfl, fun x hx htold hhall => ?_⟩
    refine each_reaches s (I := fun _ => True) (P := fun t (y : Ev) => y.told = false → puidKind y.puid ≠ 3 → Out.ask 0x26 y.puid (puHal (regionOfPuid y.puid)) y.code ∈ t.sent)
      (fun _ _ _ => trivial) (fun t y _ hy hk => ?_) (fun t y z ht hz hk => ?_) (e :: es) trivial x hx htold hhall
    · rw [tellHall_sent t hy hk]
      exact List.mem_cons_self
    · exact (tellHall_kept t y).said.subset (ht hz hk)

/-- The front event taken off its way and told. -/
def taken (s : State) (e : Ev) (es : List Ev) : State := { s.tellHall e with transit := es }

theorem taken_attic (e : Ev) (es : List Ev) : (taken s e es).attic = s.attic := (tellHall_kept s e).parts .attic (by decide)

/-- A record is made of what the recorder, not the events on their way or the outputs, holds. -/
theorem atticRec_taken (e x : Ev) (es : List Ev) (seq : Nat) : (taken s e es).atticRec x seq = s.atticRec x seq := by
  unfold taken State.tellHall
  split <;> rfl

/-- A recorded event reported, and its history entry made under its sequence number. -/
def followed (u : State) (e : Ev) (q : Nat) : State :=
  match e.hist with
  | some (p, h) => (u.mgmtEvent e (u.atticRec e q)).histEntry p { h with seq := q }
  | none => u.mgmtEvent e (u.atticRec e q)

/-- What follows an event that is recorded leaves the Attic, and what was said. -/
theorem followed_kept (u : State) (e : Ev) (q : Nat) : Kept (allBut .attic) u (followed u e q) := by
  unfold followed
  cases e.hist with
  | none => exact kept_mgmtEvent (.refl _ u) (by decide)
  | some ph => exact kept_histEntry (kept_mgmtEvent (.refl _ u) (by decide)) (by decide)

/-- The front event is recorded, reported and followed by the Attic's closing record. -/
theorem eventRecord_front {e : Ev} {es : List Ev} (hes : s.transit = e :: es) (hrec : s.recording = true) {q : Nat} {u : State}
    (hu : (taken s e es).recordEvent e = (q, u)) :
    eventRecord s = if q = 0 then followed u e q else (followed u e q).atticClose := by
  unfold eventRecord
  rw [hes]
  dsimp -zeta only
  rw [if_neg (by rw [hrec]; decide)]
  unfold taken at hu
  rw [hu]
  rfl

theorem recordEvent_said {e : Ev} {q : Nat} {u : State} (hu : s.recordEvent e = (q, u)) : s.sent ⊆ u.sent :=
  ((kept_recordEvent (A := allButEvents) (.refl _ s) (by decide)).of_eq hu).said.subset

/-- A record of the recorder's own that is reported and told leaves the Attic. -/
theorem ownTold_attic (e : Ev) (r : AttRec) (code : Nat) :
    ((s.mgmtEvent e r).ownTold code).attic = s.attic ∧ s.sent ⊆ ((s.mgmtEvent e r).ownTold code).sent := by
  have hk : Kept (maskOf [.regs, .ecnt, .rcnt, .transit, .marks, .mgt, .sent]) s ((s.mgmtEvent e r).ownTold code) :=
    kept_ownTold (kept_mgmtEvent (.refl _ s) (by decide)) (by decide)
  exact ⟨hk.parts .attic (by decide), hk.said.subset⟩

/-- The closing record goes behind what is staged, and clears no record. -/
theorem atticClose_attic : s.attic.staged <+: s.atticClose.attic.staged ∧ s.atticClose.attic.flash = s.attic.flash ∧
    s.atticClose.attic.erasing = s.attic.erasing ∧ s.atticClose.attic.dropped = s.attic.dropped ∧ s.sent ⊆ s.atticClose.sent := by
  unfold State.atticClose
  extract_lets q shown own r attic staged
  split
  · exact ⟨List.prefix_refl _, rfl, rfl, rfl, List.Subset.refl _⟩
  · obtain ⟨hattic, hsent⟩ := ownTold_attic staged own r 0x9050
    have hevt : shown.attic = s.attic := evt_attic s _ _
    have hsaid : shown.sent = s.sent := evt_sent s _ _
    rw [hattic]
    refine ⟨?_, ?_, ?_, ?_, ?_⟩
    · show _ <+: shown.attic.staged ++ [r]
      rw [hevt]
      exact List.prefix_append _ _
    · exact (congrArg AtticSt.flash hevt :)
    · exact (congrArg AtticSt.erasing hevt :)
    · exact (congrArg AtticSt.dropped hevt :)
    · exact fun o ho => hsent (hsaid ▸ ho)

/-- The front event is told to the Hall of its region. -/
theorem eventRecord_told {e : Ev} {es : List Ev} (hes : s.transit = e :: es) (hrec : s.recording = true) (htold : e.told = false) (hhall : puidKind e.puid ≠ 3) :
    Out.ask 0x26 e.puid (puHal (regionOfPuid e.puid)) e.code ∈ (eventRecord s).sent := by
  rcases hu : (taken s e es).recordEvent e with ⟨q, u⟩
  have htaken : Out.ask 0x26 e.puid (puHal (regionOfPuid e.puid)) e.code ∈ (taken s e es).sent := by
    show _ ∈ (s.tellHall e).sent
    rw [tellHall_sent s htold hhall]
    exact List.mem_cons_self
  have hask := (followed_kept u e q).said.subset (recordEvent_said _ hu htaken)
  obtain ⟨-, -, -, -, hclosed⟩ := atticClose_attic (followed u e q)
  rw [eventRecord_front s hes hrec hu]
  split
  · exact hask
  · exact hclosed hask

/-- An Attic with room stages the front event's record. -/
theorem eventRecord_staged {e : Ev} {es : List Ev} (hes : s.transit = e :: es) (hrec : s.recording = true) (hfull : s.attic.full = false)
    (hseq : s.attic.nextSeq < 0xFFFFFFFF) (hroom : s.attic.staged.length < stagingSize) :
    s.attic.staged ++ [s.atticRec e s.attic.nextSeq] <+: (eventRecord s).attic.staged := by
  have hattic := taken_attic s e es
  have hrecord : ∃ u, (taken s e es).recordEvent e = (s.attic.nextSeq, u) ∧ u.attic.staged = s.attic.staged ++ [s.atticRec e s.attic.nextSeq] := by
    unfold State.recordEvent
    rw [hattic]
    refine ⟨_, (if_neg ?_).trans (if_neg (by omega)), ?_⟩
    · rw [hfull, Bool.false_or, decide_eq_true_eq]
      omega
    · exact congrArg (s.attic.staged ++ [·]) (atticRec_taken s e e es _)
  obtain ⟨u, hu, hstaged⟩ := hrecord
  have hfollowed : (followed u e s.attic.nextSeq).attic = u.attic := (followed_kept u e _).parts .attic (by decide)
  obtain ⟨hprefix, -⟩ := atticClose_attic (followed u e s.attic.nextSeq)
  rw [eventRecord_front s hes hrec hu, ← hstaged, ← hfollowed]
  split
  · exact List.prefix_refl _
  · exact hprefix

/-- A full Attic drops the front event's record. -/
theorem eventRecord_dropped {e : Ev} {es : List Ev} (hes : s.transit = e :: es) (hrec : s.recording = true) (hfull : s.attic.full = true) :
    (eventRecord s).attic.staged = s.attic.staged ∧ (eventRecord s).attic.flash = s.attic.flash ∧ (eventRecord s).attic.nextSeq = s.attic.nextSeq := by
  have hattic := taken_attic s e es
  have hdrop : (taken s e es).recordEvent e = (0, (taken s e es).atticDrop) := if_pos (by rw [hattic, hfull]; rfl)
  rw [eventRecord_front s hes hrec hdrop, if_pos rfl, show _ = (taken s e es).atticDrop.attic from (followed_kept _ e 0).parts .attic (by decide)]
  show (taken s e es).attic.staged = _ ∧ (taken s e es).attic.flash = _ ∧ (taken s e es).attic.nextSeq = _
  rw [hattic]
  exact ⟨rfl, rfl, rfl⟩

/-! Programming, erasing and counting. -/
theorem atticFlush_flash (h : s.attic.erasing = none) : s.atticFlush.attic.flash = s.attic.flash ++ s.attic.staged ∧ s.atticFlush.attic.staged = [] := by
  unfold State.atticFlush
  rw [if_neg (by rw [h]; decide)]
  exact ⟨rfl, rfl⟩

/-- An erase leaves its own record alone in flash. -/
theorem atticEraseDone_own {held last : Nat} (h : s.attic.erasing = some (held, last)) : (atticEraseDone s).attic.erasing = none ∧
    (atticEraseDone s).attic.dropped = 0 ∧
    (atticEraseDone s).attic.flash.map (fun r => (r.seq, r.p5, r.p6)) = [(last + 1, held % 2 ^ 32, last % 2 ^ 32)] := by
  unfold atticEraseDone
  rw [h]
  dsimp -zeta only
  extract_lets shown own r attic erased
  obtain ⟨hattic, -⟩ := ownTold_attic erased own r 0x9051
  obtain ⟨-, hflash, herasing, hdropped, -⟩ := atticClose_attic ((erased.mgmtEvent own r).ownTold 0x9051)
  rw [herasing, hdropped, hflash, hattic]
  exact ⟨rfl, rfl, rfl⟩

/-- A drained wafer is told. -/
theorem waferDrained_told (hq : s.rd uBRW BRW_WAFER_Q_STATE = 1) (hnone : s.ctxs.all (fun e => e.1 == 0 || e.2.state != 1) = true) :
    (waferDrained s).rd uBRW BRW_WAFER_Q_STATE = 2 ∧ event s 0x4032 s.puActive ((s.now - s.drainSince) / 1000000) ∈ (waferDrained s).transit := by
  unfold waferDrained
  rw [if_pos (by rw [hnone, Bool.and_true]; exact decide_eq_true hq)]
  constructor
  · unfold State.notifyWafer State.notify
    rw [rd_cpl _ (by decide), rd_raise_apart _ (by decide), rd_wr_same]
    rfl
  · exact (kept_notifyWafer (A := allButEvents) (.refl _ _) (by decide)).event (by decide) (List.mem_append_right _ (List.mem_singleton_self _))

/-- Settles O33: clause by clause. -/
theorem atticAndHistory : Obligations.AtticAndHistory := by
  unfold Obligations.AtticAndHistory
  intro s
  refine ⟨?waits, ?front, ?program, ?erase, ?optime, ?drained, ?windows⟩
  case waits =>
    exact fun hrec => runs_of_exec rfl rfl (eventRecord_waits s hrec)
  case front =>
    intro e es hes hrec
    exact ⟨fun htold hhall => runs_of_exec rfl rfl (eventRecord_told s hes hrec htold hhall),
      fun hfull hseq hroom => runs_of_exec rfl rfl (eventRecord_staged s hes hrec hfull hseq hroom),
      fun hfull => runs_of_exec rfl rfl (eventRecord_dropped s hes hrec hfull)⟩
  case program =>
    intro hup
    refine ⟨runs_of_exec rfl (if_neg (by rw [hup]; decide)) rfl, fun hdown => runs_of_exec rfl (if_pos (by rw [hdown, hup]; rfl)) rfl, fun hal hno => ?_⟩
    exact runs_of_exec rfl (if_neg (by rw [hup, hal]; decide)) (atticFlush_flash s hno)
  case erase =>
    exact fun held last h => runs_of_exec rfl rfl (atticEraseDone_own s h)
  case optime =>
    exact runs_of_exec rfl rfl ⟨rfl, rfl, rfl⟩
  case drained =>
    exact fun hq hnone => runs_of_exec rfl rfl (waferDrained_told s hq hnone)
  case windows =>
    intro ht
    have hread : ∀ o, (s.hostGet o).sent.head? = some (.word (BitVec.ofNat 32 (s.winWord o))) := fun o => by
      unfold State.hostGet
      rw [hostAcc_done ht, hostRead_sent]
      rfl
    exact ⟨runs_of_exec rfl rfl (hread _), runs_of_exec rfl rfl (hread _), runs_of_exec rfl rfl (hread _)⟩

end Sys2Proof.Machine
end

section
/-! Markers, channels and reports of a cut (R88, R394-R405, R420-R423). -/
namespace Sys2Proof.Machine
open Sys2Proof Host Sys2Proof.Claims
variable (s : State)

/-! Markers. -/

/-- Local time rests on wall time, the clocks and those that are lost. -/
theorem localTime_congr {t : State} (hwall : t.wall = s.wall) (hlost : t.refLost = s.refLost) (hclocks : t.clocks = s.clocks) (u : Node) :
    t.localTime u = s.localTime u := by
  unfold State.localTime State.timeIn
  rw [hlost, now_of_wall s hwall, clock_congr s hclocks]

/-- A unit's first marker of a cut takes its copies. -/
theorem cutMarker_first (u : Node) (x : Sample) (hcut : s.cutNo ≠ 0) (hnew : (s.cutUnit (cutKey u)).taken ≠ s.cutNo) (hmay : s.markable u = true) :
    ((cutMarker s u x).cutUnit (cutKey u)).taken = s.cutNo ∧ ((cutMarker s u x).cutUnit (cutKey u)).wall = (s.localTime u).toNat ∧
      ((cutMarker s u x).cutUnit (cutKey u)).cyc = x.cyc ∧ ((cutMarker s u x).cutUnit (cutKey u)).fillReset = (s.cutUnit (cutKey u)).wasReset := by
  unfold cutMarker
  extract_lets n sampled audited copied took marked closed sent sliced
  rw [if_neg (by rw [hmay]; simpa using hcut), if_neg hnew]
  have hcopied : Kept (maskOf [.regs, .ecnt, .rcnt, .fill, .units, .transit, .sent, .gates, .doors, .ctxs, .voids, .mbx, .cels, .prv, .thm]) s copied :=
    kept_each (kept_auditUnit (kept_sampleTerms (.refl _ s) (by decide)) (by decide)) (fun _ _ ht => kept_copyRun ht (by decide))
  have htook : marked.cutUnit n = { s.cutUnit n with
      taken := s.cutNo, fillReset := (s.cutUnit n).wasReset, fillClk := false, wasReset := false, wall := (s.localTime u).toNat, cyc := x.cyc } := by
    have hno : copied.cutNo = s.cutNo := hcopied.parts .cutNo (by decide)
    have htime : copied.localTime u = s.localTime u :=
      localTime_congr s (hcopied.parts .wall (by decide)) (hcopied.parts .refLost (by decide)) (hcopied.parts .clocks (by decide)) u
    rw [show marked.cutUnit n = took.cutUnit n from rfl, cutUnit_updCutUnit_same, cutUnit_congr s (hcopied.parts .cutUnits (by decide)), hno, htime]
  have hsliced : Kept (allBut .cutUnits) marked sliced := by
    have hsent : Kept (allBut .cutUnits) marked sent :=
      kept_sendMarks (kept_updClock (kept_each (.refl _ marked) (fun _ _ ht => kept_updChan ht (by decide))) (by decide)) (by decide)
    exact .ite (kept_pauseSlice hsent (by decide)) (.ite (kept_rerunSlice hsent (by decide)) hsent)
  have hend : ∀ t, Kept (allBut .cutUnits) marked t → (t.cutUnit n).taken = s.cutNo ∧ (t.cutUnit n).wall = (s.localTime u).toNat ∧
      (t.cutUnit n).cyc = x.cyc ∧ (t.cutUnit n).fillReset = (s.cutUnit n).wasReset := fun t ht => by
    rw [cutUnit_congr marked (ht.parts .cutUnits (by decide)), htook]
    exact ⟨rfl, rfl, rfl, rfl⟩
  refine hend _ ?_
  cases u with
  | taster k => exact kept_markTaster hsliced (by decide)
  | hall r => exact .ite (kept_markHall hsliced (by decide)) hsliced
  | _ => exact hsliced

/-- A repeat of a marker is answered as complete. -/
theorem cutMarker_again (u : Node) (x : Sample) (hcut : s.cutNo ≠ 0) (htaken : (s.cutUnit (cutKey u)).taken = s.cutNo) (hmay : s.markable u = true) :
    cutMarker s u x = s.emit (.ask 0x395 (puNode u) (puRtr (nodeField u)) (cutName s.cutNo)) := by
  unfold cutMarker
  extract_lets n
  rw [if_neg (by rw [hmay]; simpa using hcut)]
  exact if_pos htaken

/-! Channels and edges. -/

/-- A channel whose record is closed has received what it had, and lies where it did. -/
theorem chanGot_updChan (c : Channel) (g : ChanRec → ChanRec) (hg : ∀ y, (g y).items = y.items) (k : Nat) : (s.updChan k g).chanGot c = s.chanGot c := by
  have hitems : ∀ j, ((s.updChan k g).chan j).items = (s.chan j).items := fun j => by
    by_cases hj : j = k
    · rw [hj, chan_updChan_same, hg]
    · rw [chan_updChan_other _ hj]
  cases c with
  | hop f h c => rfl
  | _ => exact hitems _

/-- A channel whose count agrees closes. -/
theorem channelMarker_agrees {c : Channel} {sent : Nat} (hcut : s.cutNo ≠ 0) (hopen : (s.chan (chanNo c)).closedAt ≠ s.cutNo)
    (h : sent = s.chanGot c ∨ s.chanVoid c = true) :
    channelMarker s c sent = s.updChan (chanNo c) (fun x => { x with closedAt := s.cutNo, flagged := false }) := by
  unfold channelMarker
  extract_lets n closed d
  rw [if_neg (not_or.mpr ⟨hcut, hopen⟩)]
  have hgot : closed.chanGot c = s.chanGot c := chanGot_updChan s c (fun x => { x with closedAt := s.cutNo, flagged := false }) (fun _ => rfl) n
  have hvoid : closed.chanVoid c = s.chanVoid c := rfl
  refine if_pos ?_
  rw [hvoid, Bool.or_eq_true]
  refine h.imp (fun h => ?_) id
  rw [decide_eq_true_eq]
  show (sent : Int) - closed.chanGot c = 0
  rw [hgot, h, Int.sub_self]

theorem edgeMarkerTimeout_late (e : Edge) (hcut : s.cutNo ≠ 0) : ((edgeMarkerTimeout s e).cutUnit (edgeKey e)).taken = s.cutNo ∧
    ((edgeMarkerTimeout s e).cutUnit (edgeKey e)).fillClk = true ∧ ((edgeMarkerTimeout s e).cutUnit (edgeKey e)).wall = s.now := by
  unfold edgeMarkerTimeout
  rw [if_neg hcut, cutUnit_updCutUnit_same]
  exact ⟨rfl, rfl, rfl⟩

/-! Reports. -/

/-- A completed cut sets no cause of a stop. -/
theorem stopEdge_cause (h : s.stop.cause = 0) (k : CutKind) (name : Nat) : (s.stopEdge k name).stop.cause = 0 := by
  unfold State.stopEdge
  cases k with
  | count => exact h
  | stop => exact h
  | resume => rfl

/-- The cut that completes is over, and no other starts unless one is due or the stop is to be ended. -/
theorem completeCut_over (x : CutRun) (hcause : s.stop.cause = 0) (hdue : s.cutDue = false) : (s.completeCut x).cut = none ∧ (s.completeCut x).cutNo = s.cutNo := by
  unfold State.completeCut
  extract_lets ticks name shown late idle ended done
  have hshown : Kept (maskOf [.regs, .ecnt, .transit, .marks, .cut, .sent, .routers, .hops, .clocks, .pair, .halls]) s shown :=
    kept_wr (kept_wr (kept_wr (kept_wr (.refl _ s) (by decide)) (by decide)) (by decide)) (by decide)
  have hended : Kept (maskOf [.regs, .ecnt, .transit, .marks, .cut, .sent, .routers, .hops, .clocks, .pair, .halls]) s ended :=
    kept_castCut (.u_cut (kept_flag (.ite (kept_raiseOnce (kept_flag hshown (by decide)) (by decide)) hshown) (by decide)) (by decide)) (by decide)
  have hcut : ended.cut = none := (kept_castCut (A := allBut .cut) (.refl _ _) (by decide)).parts .cut (by decide)
  have hstop : ended.stop.cause = 0 := by rw [show ended.stop = s.stop from hended.parts .stop (by decide), hcause]
  have hno : ended.cutNo = s.cutNo := hended.parts .cutNo (by decide)
  have hnone : ended.cutDue = false := (hended.parts .cutDue (by decide) : ended.cutDue = s.cutDue).trans hdue
  have hedge : Kept (maskOf [.regs, .ecnt, .transit, .stop]) ended (ended.stopEdge x.kind name) := kept_stopEdge (.refl _ ended) (by decide)
  have hover := stopEdge_cause ended hstop x.kind name
  unfold done
  clear_value ended
  generalize ended.stopEdge x.kind name = edged at hedge hover
  have hdone : Kept (allBut .stop - 2 ^ Part.cut.bit - 2 ^ Part.cutNo.bit - 2 ^ Part.cutDue.bit) edged (((edged.dbgDone x.kind).freeRetired x.no).sendMirror) :=
    kept_sendMirror (kept_freeRetired (kept_dbgDone (.refl _ edged) (by decide)) (by decide)) (by decide)
  generalize ((edged.dbgDone x.kind).freeRetired x.no).sendMirror = t at hdone
  have htstop : t.stop = edged.stop := hdone.parts .stop (by decide)
  have htdue : t.cutDue = false := ((hdone.parts .cutDue (by decide)).trans (hedge.parts .cutDue (by decide))).trans hnone
  rw [if_neg (by rw [htstop]; exact fun h => h.2 hover), if_neg (by rw [htdue, Bool.false_and]; decide)]
  exact ⟨((hdone.parts .cut (by decide)).trans (hedge.parts .cut (by decide))).trans hcut,
    ((hdone.parts .cutNo (by decide)).trans (hedge.parts .cutNo (by decide))).trans hno⟩

/-- A field that has reported up the tree. -/
theorem cutReport_up {f : Nat} {rep : Report} {x : CutRun} (hx : s.cut = some x) (hnew : x.sums.any (·.1 == f) = false)
    (hkids : (s.cutKids f).all (fun g => x.sums.any (·.1 == g)) = true) (hup : f ≠ Config.host.brewField s.active) :
    cutReport s f rep = State.sendReport { s with cut := some { x with sums := x.sums ++ [(f, cutSum rep x (s.cutKids f))] } } f (cutSum rep x (s.cutKids f)) := by
  unfold cutReport
  rw [hx]
  dsimp only
  rw [if_neg (by rw [hnew, hkids]; decide), if_neg hup]

/-- The Brewhouse's own field completes the cut. -/
theorem cutReport_root {f : Nat} {rep : Report} {x : CutRun} (hx : s.cut = some x) (hnew : x.sums.any (·.1 == f) = false)
    (hkids : (s.cutKids f).all (fun g => x.sums.any (·.1 == g)) = true) (hroot : f = Config.host.brewField s.active) :
    ∃ y, cutReport s f rep = s.completeCut y := by
  unfold cutReport
  rw [hx]
  dsimp only
  rw [if_neg (by rw [hnew, hkids]; decide), if_pos hroot]
  exact ⟨_, rfl⟩

theorem cutReport_early {f : Nat} {rep : Report} {x : CutRun} (hx : s.cut = some x)
    (hkids : (s.cutKids f).all (fun g => x.sums.any (·.1 == g)) = false) : cutReport s f rep = s := by
  unfold cutReport
  rw [hx]
  exact if_pos (by rw [hkids]; simp)

/-- A report that goes up leaves the cut; at the root of the tree it goes nowhere. -/
theorem sendReport_cut (f : Nat) (r : Report) : (s.sendReport f r).cut = s.cut := (kept_sendReport (A := allBut .cut) (.refl _ s) (by decide)).parts .cut (by decide)
theorem sendReport_root {f : Nat} (h : s.cutUp f = none) (r : Report) : s.sendReport f r = s := by
  unfold State.sendReport
  rw [h]

/-! What a completed cut shows. -/

/-- A value that every entry changes by its own key. -/
theorem Tab.find_mapKey {α : Type} (g : Nat → α → α) (m : Tab α) (j : Nat) : Tab.find j (m.map (fun e => (e.1, g e.1 e.2))) = (Tab.find j m).map (g j) := by
  induction m with
  | nil => rfl
  | cons e m ih =>
    show (if e.1 = j then some (g e.1 e.2) else Tab.find j (m.map _)) = (if e.1 = j then some e.2 else Tab.find j m).map (g j)
    split
    · next h => rw [h]; rfl
    · exact ih

/-- An edge cell that comes to show a cut with its unit, and any other as it is (R399, R400). -/
def edgeShown (edge : Nat → Bool) (d k : Nat) (y : CutUnit) : CutUnit :=
  if edge k then { y with shown := d, showClk := y.fillClk && y.taken == d, fillClk := false } else y

theorem edgeShown_shown (edge : Nat → Bool) {d : Nat} (k : Nat) {y : CutUnit} (h : y.shown = d) : (edgeShown edge d k y).shown = d := by
  unfold edgeShown
  split
  · rfl
  · exact h

/-- A unit that shows a cut shows it after the edge cells of some units have come to show it too. -/
theorem shown_after {t : State} {n d : Nat} (edge : Nat → Bool) (hd : d ≠ 0) (h : (t.cutUnit n).shown = d) :
    (State.cutUnit { t with cutUnits := t.cutUnits.map (fun e =>
      if edge e.1 then (e.1, { e.2 with shown := d, showClk := e.2.fillClk && e.2.taken == d, fillClk := false }) else e) } n).shown = d := by
  have hmap : t.cutUnits.map (fun e => if edge e.1 then (e.1, { e.2 with shown := d, showClk := e.2.fillClk && e.2.taken == d, fillClk := false }) else e)
      = t.cutUnits.map (fun e => (e.1, edgeShown edge d e.1 e.2)) := List.map_congr_left fun e _ => by
    unfold edgeShown
    split <;> rfl
  unfold State.cutUnit Tab.get at h ⊢
  rw [hmap, Tab.find_mapKey]
  cases hf : Tab.find n t.cutUnits with
  | none =>
    rw [hf] at h
    exact absurd h.symm hd
  | some y =>
    rw [hf] at h
    exact edgeShown_shown edge n h

/-- A unit that took the completed cut's marker shows its copies. -/
theorem cutDone_shown (u : Node) (hd : s.cutDoneNo ≠ 0) (htaken : (s.cutUnit (cutKey u)).taken = s.cutDoneNo) (hnew : (s.cutUnit (cutKey u)).shown ≠ s.cutDoneNo) :
    ((cutDone s u).cutUnit (cutKey u)).shown = s.cutDoneNo := by
  unfold cutDone
  extract_lets n c d shown taken edges edge
  rw [if_neg (not_or.mpr ⟨hd, not_or.mpr ⟨not_not.mpr htaken, hnew⟩⟩)]
  have hshow : (taken.cutUnit n).shown = d := by rw [cutUnit_updCutUnit_same]
  exact shown_after edge hd hshow

/-- Settles O31: clause by clause. -/
theorem cutMarkers : Obligations.CutMarkers := by
  unfold Obligations.CutMarkers
  intro s
  refine ⟨?first, ?again, ?agrees, ?absent, ?edge, ?reports, ?silent, ?shown, ?cores⟩
  case first =>
    exact fun u x hcut hnew hmay => runs_of_exec rfl rfl (cutMarker_first s u x hcut hnew hmay)
  case again =>
    exact fun u x hcut htaken hmay => runs_of_exec rfl (cutMarker_again s u x hcut htaken hmay) rfl
  case agrees =>
    exact fun c sent hcut hopen h => runs_of_exec rfl (channelMarker_agrees s hcut hopen h) rfl
  case absent =>
    intro c hcut hopen htaken
    refine runs_of_exec rfl (if_neg ?_) rfl
    rw [not_or, not_or, not_not]
    exact ⟨hcut, hopen, htaken⟩
  case edge =>
    exact fun e hcut => runs_of_exec rfl rfl (edgeMarkerTimeout_late s e hcut)
  case reports =>
    intro f rep x hx hnew
    refine ⟨fun hkids => runs_of_exec rfl (cutReport_early s hx hkids) rfl, fun hkids => ⟨fun hup => ?_, fun hroot hcause hdue => ?_⟩⟩
    · refine runs_of_exec rfl (cutReport_up s hx hnew hkids hup) ?_
      extract_lets u
      exact ⟨sendReport_cut u _ _, fun htop => sendReport_root u htop _⟩
    · obtain ⟨y, hy⟩ := cutReport_root s (rep := rep) hx hnew hkids hroot
      exact runs_of_exec rfl hy (completeCut_over s y hcause hdue)
  case silent =>
    intro f units x hx hnew
    constructor
    · intro hup
      refine runs_of_exec rfl (u := { s with cut := some { x with sums := x.sums ++ [(f.val, ⟨0, units, 0⟩)] } }) ?_ rfl
      unfold cutReportTimeout
      rw [hx]
      dsimp only
      rw [if_neg (by rw [hnew]; decide), if_neg hup]
    · intro hroot hcause hdue
      refine runs_of_exec rfl (u := s.completeCut { x with flagged := x.flagged + units }) ?_ (completeCut_over s _ hcause hdue)
      unfold cutReportTimeout
      rw [hx]
      dsimp only
      rw [if_neg (by rw [hnew]; decide), if_pos hroot]
  case shown =>
    exact fun u hd htaken hnew => runs_of_exec rfl rfl (cutDone_shown s u hd htaken hnew)
  case cores =>
    intro k p
    constructor
    · intro hstop
      refine runs_of_exec rfl (if_pos hstop) ?_
      rw [core_updCore_same]
    · intro x hx hkind hrun
      refine runs_of_exec rfl (u := { s with cut := some { x with flagged := x.flagged + 1 } }) ?_ rfl
      unfold stopCoreTimeout
      rw [hx]
      dsimp only
      rw [if_pos (by rw [hkind, hrun]; decide)]

end Sys2Proof.Machine
end
